-- ==== Sys2Proof/Word.lean ====
section
/-! DEFINITION. Word.lean: the plainest types: a byte, the binary32 and binary64 words (00 R508), and the sparse table in
which the state keeps data by instance number. -/

namespace Sys2Proof

/-- A byte of a payload, a region or a frame. -/
abbrev Byte := BitVec 8

/-- An IEEE 754 binary32 word (00 R508). -/
abbrev F32 := BitVec 32

/-- An IEEE 754 binary64 word (00 R508). -/
abbrev F64 := BitVec 64

/-- A sparse table: pairs of key and value with strictly rising keys, no entry equal to the value an unlisted key reads as. -/
abbrev Tab (α : Type) := List (Nat × α)

end Sys2Proof
end

