-- ==== Sys2Proof/Syntax.lean ====
section
/-! DEFINITION. Syntax.lean: the commands of the block, one constructor per row of spec/opcode_table.json, and the plain
records their operands are made of. -/

namespace Sys2Proof

/-- What a partition's own cores have stored in one of its store-room regions since its last command: descriptor, offset
in the region and bytes. The stores themselves are the partition's program, outside the block (02 R72). -/
abbrev Store := Nat × Nat × List Byte

/-- A command as Keeper reads it from its slot (02 R50-R53): the window it comes from (0x00 Root, 0x10-0x1F Canopy
partitions 0-15 as PART_ID; 0x110-0x11F the preparation window of a graft handover, 19 R424), the header fields, the
payload, and the region stores that precede it. -/
structure Req where
  /-- window: PART_ID, or 0x100 + PART_ID for a preparation window -/
  win : Nat := 0
  /-- tag, 32 bits -/
  tag : Nat := 0
  /-- command flags: bit 0 ORDERED, bit 1 NOHOLD, bit 2 GEN_CHECK (bits 16-18 of word 0) -/
  flags : Nat := 0
  /-- unit number -/
  unit : Nat := 0
  /-- verb number -/
  verb : Nat := 0
  /-- instance -/
  inst : Nat := 0
  /-- class -/
  cls : Nat := 3
  /-- GEN_LOW, 12 bits -/
  genLow : Nat := 0
  /-- deadline word in microseconds, 0 none -/
  deadline : Nat := 0
  /-- payload -/
  payload : List Byte := []
  /-- region stores of the partition that precede the command -/
  stores : List Store := []
  deriving DecidableEq, Repr

/-- The all-default command. -/
def Req.reset : Req := {}

/-- A Root link connection as the Root parameters declare it (18 R406). -/
structure LinkDecl where
  /-- connection number 0-31 -/
  conn : Nat
  /-- connection ID -/
  id : Nat
  /-- receive direction -/
  rx : Bool
  /-- UDP transport, else CAN FD -/
  udp : Bool
  /-- CAN channel or UDP port -/
  chan : Nat
  /-- receive queue, TX head index or VLAN -/
  sel : Nat
  /-- data length -/
  n : Nat
  /-- transmit period, ms -/
  periodMs : Nat
  /-- time expectation E, ms -/
  eMs : Nat
  /-- sequence gap G -/
  gap : Nat
  /-- Root flag of the safe state, 0xFF none -/
  flag : Nat
  /-- safe data -/
  safeData : List Byte
  deriving DecidableEq, Repr

/-- One navigation solution of the baseband and the navigation core at an epoch: what its estimator answers when it
solves with the constellations of `systems` (07 R182). -/
structure NavSol where
  /-- constellations solved with, a bit for each as in GNSS.CONFIG -/
  systems : Nat := 0
  /-- its GPS time at the epoch less Heartwood + GPS_OFS, ns -/
  clockErr : Int := 0
  /-- best fix type reachable with corrections, 1-4 -/
  fix : Nat := 1
  /-- best fix type reachable without them, 1 or 2 -/
  fixNoCorr : Nat := 1
  /-- latitude of the phase centre of antenna A -/
  lat : F64 := 0
  /-- its longitude -/
  lon : F64 := 0
  /-- its ellipsoidal height -/
  height : F64 := 0
  /-- velocity east, north, up, m/s -/
  vel : List F32 := []
  /-- horizontal accuracy, 1 sigma, m -/
  hAcc : F32 := 0
  deriving DecidableEq, Repr

/-- The attitude at an epoch (07 R179, R180). -/
structure NavAtt where
  /-- pitch, degrees -/
  pitch : F32 := 0
  /-- roll, degrees -/
  roll : F32 := 0
  /-- yaw rate, degrees a second -/
  yaw : F32 := 0
  /-- heading accuracy, 1 sigma, degrees -/
  headAcc : F32 := 0
  /-- heading by the moving baseline, none when it is lost -/
  dual : Option F32 := none
  deriving DecidableEq, Repr

/-- A signal that the baseband sees at an epoch (07 R176, R181, R188). -/
structure NavObs where
  /-- its 32-byte observable record -/
  bytes : List Byte := []
  /-- the difference of check 1, mm -/
  diffMm : Nat := 0
  /-- elevation of its satellite, degrees -/
  elev : Nat := 0
  deriving DecidableEq, Repr

/-- What a GNSS epoch finds (07 R181, R182). -/
structure NavEpoch where
  /-- signals visible -/
  obs : List NavObs := []
  /-- receiver-clock estimate of each constellation after broadcast offsets, ns -/
  clocks : List (Nat × Int) := []
  /-- per antenna and band: AGC drop below its 60 s baseline, least and greatest change of mean C/N0, 0.1 dB -/
  agc : List (Nat × Nat × Int × Int × Int) := []
  /-- the solutions of the sets of constellations -/
  sols : List NavSol := []
  /-- the attitude -/
  att : NavAtt := {}
  /-- the ephemerides and almanacs that the baseband holds -/
  navData : List Byte := []
  deriving DecidableEq, Repr

/-- A camera frame as its rows arrive (08 R201-R214). -/
structure CamFrame where
  /-- port -/
  port : Nat := 0
  /-- sensor -/
  sensor : Nat := 0
  /-- sync instants that have passed since the one this frame answers -/
  lag : Nat := 0
  /-- only the first row has arrived -/
  begins : Bool := false
  /-- arrival of the frame start, Heartwood -/
  first : Nat := 0
  /-- arrival of the last row, Heartwood -/
  last : Nat := 0
  /-- 0 none, 1 wrong size, 2 packet errors, 4 the ISP does not accept the port yet -/
  err : Nat := 0
  /-- packet errors counted with it -/
  pktErrs : Nat := 0
  /-- row means m[r] of the flicker column band at T3 -/
  means : List Nat := []
  deriving DecidableEq, Repr

/-- The image of a frame at the stages the spec does not compute to the bit (08 R206-R208), and its raw codes. -/
structure IspData where
  /-- T0: one plane of codes an exposure, row-major -/
  raw : List (List Nat) := []
  /-- T3 of the 4x4 and RGBW mosaics, whose pattern the spec does not give -/
  t3 : List Nat := []
  /-- T4 planes -/
  t4 : List (List Nat) := []
  /-- the tap's copy keeps pace with the DRAM -/
  pace : Bool := true
  deriving DecidableEq, Repr

/-- What a model has computed in a step (09 R234, R235): the model itself is outside the spec. -/
structure CrownOut where
  /-- scalar outputs: index, value, the model's own validity channel -/
  outs : List (Nat × F32 × Bool) := []
  /-- cells of grid outputs 0 and 1, 256 rows of 256 -/
  grids : List (List Byte) := []
  /-- state store after the step -/
  store : List Byte := []
  deriving DecidableEq, Repr

/-- What one LIN slot's frame meets on the bus (12 R289, R291). -/
structure LinBus where
  /-- the header is read back right -/
  hdrOk : Bool := true
  /-- data of a valid response, if any -/
  resp : Option (List Byte) := none
  /-- checksum error or corrupted response -/
  garbled : Bool := false
  /-- ns from the slot's start to the response's end -/
  respNs : Nat := 0
  deriving DecidableEq, Repr

/-- A CAN frame that a controller has validated (15 R331). -/
structure CanRx where
  /-- channel -/
  ch : Nat
  /-- ID as 15 R327 writes it, bit 31 for a 29-bit identifier -/
  id : Nat
  /-- FD format -/
  fd : Bool := false
  /-- bit-rate switch -/
  brs : Bool := false
  /-- error state indicator -/
  esi : Bool := false
  /-- data -/
  data : List Byte := []
  /-- ns from the start of frame to the validation -/
  ago : Nat := 0
  deriving DecidableEq, Repr

/-- What an Ethernet frame is to the internal port (16 R362). -/
inductive EthKind where
  /-- not addressed to the module -/
  | elsewhere
  /-- an ARP request or ICMP echo request for an IPv4 address -/
  | request (ip : Nat)
  /-- a UDP datagram to the module: destination port, payload -/
  | udp (port : Nat) (payload : List Byte)
  /-- a gPTP message of a grandmaster: its identity's low word, its priority1 and clockClass, and the port state that selection
  gives where these two do not decide -/
  | gptp (state gm prio cls : Nat)
  /-- any other frame addressed to the module -/
  | other
  deriving DecidableEq, Repr

/-- A received Ethernet frame (16 R359). -/
structure EthRx where
  /-- port -/
  port : Nat
  /-- VLAN ID, the port's native VLAN for an untagged frame -/
  vlan : Nat
  /-- egress ports the switch chooses -/
  dests : List Nat := []
  /-- what it is to the module -/
  kind : EthKind := .elsewhere
  /-- the frame from its destination address -/
  frame : List Byte := []
  /-- ns since the start of reception -/
  ago : Nat := 0
  deriving DecidableEq, Repr

/-- The commands of the block, one constructor per row of spec/opcode_table.json. A row that is a mailbox verb takes the
command as Keeper reads it from its slot; the other rows take what the world outside the model brings to the happening. -/
inductive Instr where
  /-- REGISTER_WRITE (R43): A write to a window register that has no behaviour of its own stores the value, or is ignored for RO, reserved or narrow accesses. -/
  | registerWrite (w ofs width value : Nat)
  /-- CMD_PROD_WRITE (R54): The partition writes CMD_PROD, ringing the doorbell; Keeper copies and consumes the new command slots. -/
  | cmdProdWrite (w value : Nat) (stores : List Store)
  /-- RPL_CONS_WRITE (R57): The partition advances RPL_CONS, which frees reply slots so that Keeper may consume further commands. -/
  | rplConsWrite (w value : Nat)
  /-- EVT_CONS_WRITE (R69): The partition advances EVT_CONS, which frees event entries; KEEPER/EVENTS_LOST is posted first if events were dropped. -/
  | evtConsWrite (w value : Nat)
  /-- IRQ_STATUS_W1C (R49): A W1C write to IRQ_STATUS clears RPL or LOST, and clears EVT only if its condition has ended. -/
  | irqStatusW1c (w value : Nat)
  /-- HOST_HB_WRITE (R50): The partition writes HOST_HB and Keeper stamps the change with Heartwood. -/
  | hostHbWrite (w value : Nat)
  /-- HW_LO_READ (R82): A read of HW_LO latches Heartwood [63:32] into HW_HI for this window. -/
  | hwLoRead (w : Nat)
  /-- SNAP_REQ_WRITE (R81): Any write to SNAP_REQ captures Heartwood into SNAP_LO and SNAP_HI in the cycle of the write. -/
  | snapReqWrite (w value : Nat)
  /-- EVT_AGE_TIMEOUT (R49): The oldest unread event reaches 1 ms of age and IRQ_STATUS.EVT is set. -/
  | evtAgeTimeout (w : Nat)
  /-- KEEPER_NOP (R70): KEEPER.NOP answers DONE with an empty payload. -/
  | keeperNop (r : Req)
  /-- KEEPER_MODE (R70): KEEPER.MODE checks its target and selects hardware or host-assisted mode for a function from its next period boundary. -/
  | keeperMode (r : Req)
  /-- MODE_BOUNDARY (R70): At the function's next period boundary, the mode selected by KEEPER.MODE takes effect. -/
  | modeBoundary (unit fn inst : Nat)
  /-- KEEPER_SIG_READ (R86): KEEPER.SIG_READ returns value, validity and stamp of up to seven signals. -/
  | keeperSigRead (r : Req)
  /-- KEEPER_SIG_WRITE (R87): KEEPER.SIG_WRITE checks every entry and then writes all owned signals in one reflex cycle. -/
  | keeperSigWrite (r : Req)
  /-- KEEPER_EVT_MASK (R91): KEEPER.EVT_MASK sets the window's event subscription and returns the effective mask. -/
  | keeperEvtMask (r : Req)
  /-- HOLD_LIMIT_EXPIRY (R64): A held command reaches 100 ms from its HELD reply and receives UNIT_RESTARTED as its final reply. -/
  | holdLimitExpiry (w : Nat)
  /-- DEADLINE_PASSED (R60): A held or waiting command's deadline passes and it receives DEADLINE_MISSED. -/
  | deadlinePassed (w : Nat)
  /-- UNIT_RESTART (R47): A unit stops for a restart or power-down: VALID clears, its generation increments and affected commands are answered. -/
  | unitRestart (unit inst cause : Nat)
  /-- UNIT_READY (R47): A restarted unit runs again: VALID is set, KEEPER/UNIT_READY is posted and held commands execute. -/
  | unitReady (unit inst : Nat)
  /-- HOST_DEADLINE_MISS (R71): A host-assisted result has not arrived by tk + D, so the function holds its last value or applies its safe action. -/
  | hostDeadlineMiss (unit fn inst : Nat)
  /-- CANOPY_PARTITION_RESTART (R68): A Canopy partition restarts; its window is reset and its owned signals become STALE. -/
  | canopyPartitionRestart (p : Nat)
  /-- CHECKPOINT (R35): At each 10 ms Heartwood boundary Keeper checkpoints every Canopy partition on ZQ-4 and ZQ-8. -/
  | checkpoint
  /-- BOUGH_DIE_FAILURE (R38): A lockstep, uncorrectable ECC or link failure retires a bough die and runs the failover sequence. -/
  | boughDieFailure (die reason : Nat)
  /-- TRUNK_START (R75): The trunk die starts: Heartwood is loaded, kept configuration is re-applied and self-tests run. -/
  | trunkStart
  /-- TIME_ROLE (R79): TIME.ROLE sets the module's 802.1AS role and priority1. -/
  | timeRole (r : Req)
  /-- TIME_PPS (R77): A GNSS PPS arrives and drives the TIME state machine, locking after 10 s within 100 ns. -/
  | timePps (phase : Int) (valid : Bool) (gps : Int) (leap : Option Nat)
  /-- TIME_PPS_ABSENT (R77): PPS absent or excluded for 2 s moves TIME from LOCKED to HOLDOVER. -/
  | timePpsAbsent
  /-- TIME_GM_LOST (R80): The follower has had no sync from its grandmaster for 3 s and TIME/GM_LOST is raised. -/
  | timeGmLost
  /-- FAULT_HANDLE (R94): The fault manager takes up the next fault and runs its four handling steps. -/
  | faultHandle
  /-- FAULT_STATUS (R97): FAULT.STATUS returns the fault being handled, queue depth, drops and occurrences. -/
  | faultStatus (r : Req)
  /-- FAULT_RAISE (R97): FAULT.RAISE raises a partition or Root fault and returns its occurrence number. -/
  | faultRaise (r : Req)
  /-- LOSS_STRIKE_ONSET (R99): A loss sample reaches THR in IDLE, starting a strike, or is merged as pile-up inside the dead time. -/
  | lossStrikeOnset (ch : Nat) (x : Int)
  /-- LOSS_STRIKE_END (R99): Quiet time reaches RINGDOWN; the strike ends, is classified and is counted in the open bin. -/
  | lossStrikeEnd (ch : Nat) (samples : List Int)
  /-- LOSS_BIN_CLOSE (R101): At each 10 ms boundary every channel closes its bin and updates impact rate and grain fraction. -/
  | lossBinClose
  /-- LOSS_SENSOR_TEST (R102): At the test interval the channel injects a test charge or step for 200 µs and blanks samples. -/
  | lossSensorTest (ch : Nat)
  /-- LOSS_SENSOR_TEST_END (R102): The test ends and the response is judged open or shorted against its calibration. -/
  | lossSensorTestEnd (ch resp : Nat)
  /-- LOSS_STATUS (R106): LOSS.STATUS returns the channel's strike counters, template-set number and state. -/
  | lossStatus (r : Req)
  /-- LOSS_CONFIG (R105): LOSS.CONFIG sets a channel's mode and detector settings from the next bin boundary. -/
  | lossConfig (r : Req)
  /-- LOSS_TEMPLATES (R104): LOSS.TEMPLATES loads and validates a template set, answered ACCEPTED. -/
  | lossTemplates (r : Req)
  /-- LOSS_SNIP (R103): LOSS.SNIP starts a snippet capture into a region, answered ACCEPTED. -/
  | lossSnip (r : Req)
  /-- LOSS_HOSTBUF (R119): LOSS.HOSTBUF sets the two host-block descriptors of the loss unit. -/
  | lossHostbuf (r : Req)
  /-- LOSS_RESULT (R120): LOSS.RESULT writes host-computed rate and fraction for a block. -/
  | lossResult (r : Req)
  /-- HOST_BLOCK_WRITE (R119): At each host-assisted period end a sensing unit writes its block of raw samples to descriptor A or B. -/
  | hostBlockWrite (unit : Nat) (loss : List (Nat × List Int))
  /-- BRIDGE_SAMPLE (R107): Every 250 µs each bridge is converted ratiometrically and its signal is updated. -/
  | bridgeSample (samples : List (Nat × F32 × F32 × F32))
  /-- BRIDGE_EXC_FAULT (R109): Excitation current over its limit for 1 ms switches excitation off and raises BRIDGE/EXC_FAULT. -/
  | bridgeExcFault (ch cur : Nat)
  /-- BRIDGE_SENSE_OPEN (R109): Sense common mode outside 30–70 % for 10 ms raises BRIDGE/SENSE_OPEN. -/
  | bridgeSenseOpen (ch cm : Nat)
  /-- BRIDGE_OVERRANGE (R109): A ratio beyond range for 100 ms raises BRIDGE/OVERRANGE. -/
  | bridgeOverrange (ch : Nat)
  /-- BRIDGE_CONFIG (R107): BRIDGE.CONFIG sets excitation, range, filter, scale and offset and restores excitation. -/
  | bridgeConfig (r : Req)
  /-- BRIDGE_TARE (R108): BRIDGE.TARE starts averaging over a sample count, answered ACCEPTED. -/
  | bridgeTare (r : Req)
  /-- BRIDGE_STATUS (R108): BRIDGE.STATUS returns tare, excitation current and excitation voltage. -/
  | bridgeStatus (r : Req)
  /-- BRIDGE_HOSTBUF (R119): BRIDGE.HOSTBUF sets the two host-block descriptors of the bridge unit. -/
  | bridgeHostbuf (r : Req)
  /-- BRIDGE_RESULT (R120): BRIDGE.RESULT writes host-computed bridge signals for a block. -/
  | bridgeResult (r : Req)
  /-- AIN_SAMPLE (R110): Each AIN channel is converted in its 500 µs period and its averaged signal is updated. -/
  | ainSample (codes sup : List (Nat × Nat))
  /-- AIN_DIAG (R111): A value outside its limits for the diagnostic time raises AIN/DIAG_LOW or AIN/DIAG_HIGH. -/
  | ainDiag (ch : Nat)
  /-- AIN_SHUNT_OFF (R111): Over 25 mA for 10 ms disconnects the shunt and raises AIN/SHUNT_OFF. -/
  | ainShuntOff (ch : Nat)
  /-- AIN_SHUNT_RECONNECT (R111): One second after disconnection the module reconnects the shunt. -/
  | ainShuntReconnect (ch : Nat)
  /-- AIN_CONFIG (R110): AIN.CONFIG sets range, averaging, supply link and diagnostic limits. -/
  | ainConfig (r : Req)
  /-- AIN_HOSTBUF (R119): AIN.HOSTBUF sets the two host-block descriptors of the analog unit. -/
  | ainHostbuf (r : Req)
  /-- AIN_RESULT (R120): AIN.RESULT writes host-computed analog signals for a block. -/
  | ainResult (r : Req)
  /-- FREQ_EDGE (R112): A frequency input edge is time-marked, updating comparator and quadrature count. -/
  | freqEdge (ch peak : Nat) (rising both : Bool)
  /-- FREQ_GATE_END (R113): At the end of each gate time the frequency signal is updated, decayed or set to zero. -/
  | freqGateEnd (ch : Nat)
  /-- FREQ_COMPARATOR_TIMEOUT (R115): No edge for the comparator's period limit changes its reflex term without waiting for an edge. -/
  | freqComparatorTimeout (ch : Nat)
  /-- FREQ_WIRING_CHECK (R116): Every 100 ms wiring is checked, and two failures raise FREQ/WIRING. -/
  | freqWiringCheck (ch mv : Nat) (bias : Bool)
  /-- FREQ_CONFIG (R115): FREQ.CONFIG sets input type, edges, thresholds, gate, scale and comparator. -/
  | freqConfig (r : Req)
  /-- FREQ_HOSTBUF (R119): FREQ.HOSTBUF sets the two host-block descriptors of the frequency unit. -/
  | freqHostbuf (r : Req)
  /-- FREQ_RESULT (R120): FREQ.RESULT writes host-computed frequency signals for a block. -/
  | freqResult (r : Req)
  /-- SUP_OVERLOAD (R117): A sensor supply in current limit for 20 ms is switched off and SUP/OVERLOAD is raised. -/
  | supOverload (n cur ms : Nat)
  /-- SUP_BACKFED (R117): A supply above 110 % for 1 ms is switched off and SUP/BACKFED is raised. -/
  | supBackfed (n mv : Nat)
  /-- SUP_RETRY (R117): The retry interval after an overload ends and the supply is switched on again. -/
  | supRetry (n : Nat)
  /-- SUP_REGULATION_SETTLED (R118): Fifty milliseconds after a supply is back in regulation, linked input diagnostics resume. -/
  | supRegulationSettled (n : Nat)
  /-- SUP_CONFIG (R117): SUP.CONFIG enables a sensor supply and sets its retry interval. -/
  | supConfig (r : Req)
  /-- LOOP_SAMPLE (R125): At tk a loop latches inputs, gates the innovation and releases the staged value on a hit or queues miss work. -/
  | loopSample (slot : Nat)
  /-- MISS_RELEASE (R136): Miss work completes on the FMA lanes and the recomputed value is released. -/
  | missRelease (slot delay : Nat)
  /-- STAGING_DONE (R133): Background correction, prediction and staging for the next sample complete on the lanes. -/
  | stagingDone (slot : Nat)
  /-- CTRL_HOST_RELEASE (R149): With the host-release flag, an accepted host value is released at tk + D. -/
  | ctrlHostRelease (slot : Nat)
  /-- CTRL_STATUS (R145): CTRL.STATUS returns a slot's state, mode, counters and d² figures. -/
  | ctrlStatus (r : Req)
  /-- CTRL_LOAD (R143): CTRL.LOAD checks and loads, checks only or unloads a set of loop records, all or nothing. -/
  | ctrlLoad (r : Req)
  /-- CTRL_ENABLE (R145): CTRL.ENABLE moves a slot to RAMP at its next sample, optionally keeping x̂. -/
  | ctrlEnable (r : Req)
  /-- CTRL_DISABLE (R145): CTRL.DISABLE returns a slot to LOADED at its next sample. -/
  | ctrlDisable (r : Req)
  /-- CTRL_SETPOINT (R139): CTRL.SETPOINT sets a command-sourced reference, ramped or stepped. -/
  | ctrlSetpoint (r : Req)
  /-- CTRL_TRACE (R146): CTRL.TRACE arms, restarts or fires the trigger of a trace buffer. -/
  | ctrlTrace (r : Req)
  /-- CTRL_TRACE_READ (R146): CTRL.TRACE_READ starts copying a stopped trace buffer, answered ACCEPTED. -/
  | ctrlTraceRead (r : Req)
  /-- CTRL_TRACE_READ_DONE (R146): The trace copy completes and CTRL/TRACE_READ_DONE is posted. -/
  | ctrlTraceReadDone (buf : Nat)
  /-- CTRL_HOSTBUF (R148): CTRL.HOSTBUF sets the region for host sample records. -/
  | ctrlHostbuf (r : Req)
  /-- CTRL_U (R149): CTRL.U delivers the host-computed outputs for sample k. -/
  | ctrlU (r : Req)
  /-- VALVE_STATUS (R170): VALVE.STATUS returns the state of a channel, bank or boost converter. -/
  | valveStatus (r : Req)
  /-- VALVE_CONFIG (R169): VALVE.CONFIG sets a channel's mode and parameters, a bank's defer limit or a converter's enable. -/
  | valveConfig (r : Req)
  /-- VALVE_SET (R170): VALVE.SET stores a set-point or on/off command, starting an event request where the mode needs one. -/
  | valveSet (r : Req)
  /-- VALVE_CLEAR (R170): VALVE.CLEAR releases the latch of a channel, bank or converter and zeroes the mailbox value. -/
  | valveClear (r : Req)
  /-- VALVE_DUTY (R171): VALVE.DUTY delivers the host-computed PWM duty for the next 1 ms period. -/
  | valveDuty (r : Req)
  /-- VALVE_MINOFF_END (R163): A start request's minimum off-time ends and it starts or enters its bank queue. -/
  | valveMinoffEnd (ch : Nat)
  /-- VALVE_SLOT_GRANT (R164): A freed slot is taken by the queue head, which then waits for the boost rail. -/
  | valveSlotGrant (b mv : Nat)
  /-- VALVE_DEFER_EXPIRY (R163): A queued request reaches its defer limit and is refused with outcome 2 or 5. -/
  | valveDeferExpiry (ch : Nat)
  /-- VALVE_BOOST_WAIT_END (R163): The boost rail becomes ready, or 200 µs pass, and the peak starts from the rail or BATB or is refused. -/
  | valveBoostWaitEnd (ch mv : Nat)
  /-- VALVE_PEAK_END (R161): The peak current is reached or the peak max time elapses and the channel enters hold. -/
  | valvePeakEnd (ch cur : Nat)
  /-- VALVE_DURATION_END (R160): A configured event duration ends and the channel turns off. -/
  | valveDurationEnd (ch : Nat)
  /-- VALVE_BANK_HS_OFF (R156): Twenty milliseconds after the last bank request ends the bank high-side switches off. -/
  | valveBankHsOff (b : Nat)
  /-- VALVE_CURRENT_UPDATE (R159): Every 1 ms the mean coil current signal of each channel is updated. -/
  | valveCurrentUpdate (currents banks : List (Nat × F32)) (rails : List (Nat × Nat))
  /-- VALVE_BOOST_FAULT (R162): A rail that fails to charge in 20 ms or exceeds 54 V is switched off and latched. -/
  | valveBoostFault (c kind mv : Nat)
  /-- VALVE_OPEN_LOAD (R168): An open-load condition persisting for its detection time raises VALVE/OPEN_LOAD. -/
  | valveOpenLoad (ch cur mv duty : Nat)
  /-- VALVE_SHORT_BAT (R168): Channel current above the trip level for 2 µs latches the low-side off. -/
  | valveShortBat (ch cur : Nat)
  /-- VALVE_SHORT_GND (R168): A short to ground detected for 1 ms latches the bank high-side off. -/
  | valveShortGnd (ch mv cur : Nat)
  /-- VALVE_BANK_SHORT (R168): Bank high-side over-current or low node voltage latches the bank off. -/
  | valveBankShort (b cur mv : Nat)
  /-- VALVE_TRACKING (R168): The current tracking error lasting the tracking time raises VALVE/TRACKING. -/
  | valveTracking (ch : Nat)
  /-- VALVE_HOST_PERIOD (R171): At each 1 ms boundary a host-assisted channel's mean current is written for the host. -/
  | valveHostPeriod (ch : Nat) (cur : F32)
  /-- GNSS_EPOCH (R182): At each 50 ms GPS epoch the solution is checked, accepted or rejected, and the signals are published. -/
  | gnssEpoch (ev : NavEpoch)
  /-- GNSS_RTCM_FRAME (R177): A complete RTCM frame is found by its preamble and CRC-checked, then used or discarded. -/
  | gnssRtcmFrame
  /-- GNSS_ANT_OPEN (R175): Antenna current below 4 mA for 1 s raises GNSS/ANT_OPEN. -/
  | gnssAntOpen (inst cur : Nat)
  /-- GNSS_ANT_SHORT (R175): Antenna current over 130 mA for 10 ms switches the supply off. -/
  | gnssAntShort (inst cur : Nat)
  /-- GNSS_ANT_RETRY (R175): Every 5 s a shorted antenna supply is retried. -/
  | gnssAntRetry (inst cur : Nat)
  /-- GNSS_GUARD_BURST (R189): Each second in GUARD PARK a 200 ms tracking burst produces a standalone fix. -/
  | gnssGuardBurst (fix : Option (F64 × F64 × Int)) (height : F64)
  /-- GNSS_GUARD_REPORT (R190): The guard report interval ends and the module wakes to KEEPER. -/
  | gnssGuardReport
  /-- GNSS_STATUS (R188): GNSS.STATUS returns fix, tracking, exclusion, jamming and holdover status. -/
  | gnssStatus (r : Req)
  /-- GNSS_FIX (R179): GNSS.FIX returns the control point's geodetic position and fix data. -/
  | gnssFix (r : Req)
  /-- GNSS_CONFIG (R180): GNSS.CONFIG sets systems, mask, heading mode, dead-reckoning and correction age limits. -/
  | gnssConfig (r : Req)
  /-- GNSS_ANTENNA (R175): GNSS.ANTENNA sets an antenna's supply and phase centre. -/
  | gnssAntenna (r : Req)
  /-- GNSS_CORR (R177): GNSS.CORR selects the RTCM correction source. -/
  | gnssCorr (r : Req)
  /-- GNSS_RTCM (R177): GNSS.RTCM carries bytes of the RTCM stream from a partition. -/
  | gnssRtcm (r : Req)
  /-- GNSS_ORIGIN (R179): GNSS.ORIGIN sets the local frame origin from the next epoch. -/
  | gnssOrigin (r : Req)
  /-- GNSS_LINE (R187): GNSS.LINE loads or clears the AB guidance line. -/
  | gnssLine (r : Req)
  /-- GNSS_GUARD (R190): GNSS.GUARD sets guard-park bursts, radius and report interval. -/
  | gnssGuard (r : Req)
  /-- GNSS_HOSTBUF (R188): GNSS.HOSTBUF sets the two observable regions for host-assisted navigation. -/
  | gnssHostbuf (r : Req)
  /-- GNSS_SOLUTION (R188): GNSS.SOLUTION delivers the host's PVT solution for an epoch. -/
  | gnssSolution (r : Req)
  /-- IMU_SAMPLE (R185): At 1 kHz the IMU is read and its signals are updated and checked. -/
  | imuSample (vals : List F32) (sat kind : Nat) (moving : Bool)
  /-- IMU_STATUS (R186): IMU.STATUS returns the IMU state and last fault kind. -/
  | imuStatus (r : Req)
  /-- IMU_CONFIG (R185): IMU.CONFIG sets orientation, residual angles and reference mark. -/
  | imuConfig (r : Req)
  /-- CAM_FRAME_SYNC (R201): At each sync instant every enabled sensor of the port receives its frame-sync pulse. -/
  | camFrameSync (port : Nat)
  /-- CAM_FRAME_ARRIVAL (R202): A frame's rows arrive; it is stamped, its statistics are taken and lamp correction runs. -/
  | camFrameArrival (f : CamFrame)
  /-- CAM_ISP_OUTPUT (R205): The ISP completes a frame's scaled outputs and taps and writes them to their buffers. -/
  | camIspOutput (port sensor : Nat) (d : IspData)
  /-- CAM_LINK_UP (R198): An A-PHY link trains and locks at a gear. -/
  | camLinkUp (port gear : Nat)
  /-- CAM_LINK_LOST (R198): Lock lost for 10 ms or an insufficient gear raises CAM/LINK_LOST. -/
  | camLinkLost (port : Nat)
  /-- CAM_POC_OPEN (R199): Coax current below 20 mA for 1 s raises CAM/POC_OPEN. -/
  | camPocOpen (port cur : Nat)
  /-- CAM_POC_SHORT (R199): Coax over-current switches the supply off for retry or latch. -/
  | camPocShort (port cur : Nat)
  /-- CAM_POC_RETRY (R199): Every 2 s an over-current coax supply is retried. -/
  | camPocRetry (port cur : Nat)
  /-- CAM_SENSOR_SILENT (R217): A sensor delivering no frame for 3 periods raises CAM/SENSOR_SILENT. -/
  | camSensorSilent (port sensor periods : Nat)
  /-- CAM_BACKCH_DONE (R200): A back-channel I²C transaction ends and its reply is posted. -/
  | camBackchDone (port cause : Nat) (data : List Byte)
  /-- CAM_STATUS (R196): CAM.STATUS returns link, coax, sensor, frame and ISP route status of a port. -/
  | camStatus (r : Req)
  /-- CAM_CONFIG (R204): CAM.CONFIG sets link, coax supply, sync, period and phase of a port. -/
  | camConfig (r : Req)
  /-- CAM_SENSOR (R204): CAM.SENSOR declares a sensor's format and timing against the port load limits. -/
  | camSensor (r : Req)
  /-- CAM_ISP (R215): CAM.ISP loads an ISP block that applies at the next frame. -/
  | camIsp (r : Req)
  /-- CAM_TAP (R209): CAM.TAP starts copying frames at a tap point, answered ACCEPTED. -/
  | camTap (r : Req)
  /-- CAM_BACKCH (R200): CAM.BACKCH queues one I²C write-then-read on the back channel. -/
  | camBackch (r : Req)
  /-- CAM_LAMP (R211): CAM.LAMP binds or unbinds a PWM output to a sensor's exposure. -/
  | camLamp (r : Req)
  /-- CAM_EXPOSURE (R203): CAM.EXPOSURE reports a new E0 from a named frame. -/
  | camExposure (r : Req)
  /-- CAM_HOSTBUF (R214): CAM.HOSTBUF sets the lamp host-record region of a port. -/
  | camHostbuf (r : Req)
  /-- CAM_LAMP_SET (R214): CAM.LAMP_SET delivers host offset and extension for a frame. -/
  | camLampSet (r : Req)
  /-- CROWN_SAMPLE_ARRIVAL (R223): A camera frame or lidar block arrives and is assigned to a step window, or counted. -/
  | crownSampleArrival (kind index out stamp : Nat) (points : List Byte)
  /-- CROWN_INPUT_CLOSE (R223): At c_j the executed step's inputs are judged present or absent and the step is launched. -/
  | crownInputClose (slot : Nat)
  /-- CROWN_RELEASE (R225): At c_j + L the step's scalar outputs and grids are written. -/
  | crownRelease (slot : Nat) (d : CrownOut)
  /-- CROWN_OVERRUN (R241): A result ready after c_j + L is released late and CROWN/OVERRUN is raised. -/
  | crownOverrun (slot delay : Nat) (d : CrownOut)
  /-- CROWN_STATUS (R219): CROWN.STATUS returns a Crown unit's state, throttle, tiles and step counts. -/
  | crownStatus (r : Req)
  /-- CROWN_MODEL (R219): CROWN.MODEL returns a model slot's state, L, d and counters. -/
  | crownModel (r : Req)
  /-- CROWN_LOAD (R236): CROWN.LOAD places or unloads a model on a Crown unit. -/
  | crownLoad (r : Req)
  /-- CROWN_BIND (R236): CROWN.BIND binds a camera, lidar or signal vector to a model input. -/
  | crownBind (r : Req)
  /-- CROWN_CALIB (R230): CROWN.CALIB sets a camera or lidar calibration from the next input close. -/
  | crownCalib (r : Req)
  /-- CROWN_OUTBUF (R235): CROWN.OUTBUF sets the two grid output descriptors. -/
  | crownOutbuf (r : Req)
  /-- CROWN_START (R236): CROWN.START starts a model at the next window, optionally resetting state. -/
  | crownStart (r : Req)
  /-- CROWN_STOP (R236): CROWN.STOP executes no further step of a model. -/
  | crownStop (r : Req)
  /-- CROWN_HOSTBUF (R237): CROWN.HOSTBUF sets the two host input regions of a model. -/
  | crownHostbuf (r : Req)
  /-- CROWN_RESULT (R237): CROWN.RESULT delivers host-computed scalar outputs of a step. -/
  | crownResult (r : Req)
  /-- GRANARY_PERIOD (R246): Every 100 ms Granary computes the period's mass and maps it to its strip at the cut time. -/
  | granaryPeriod
  /-- GRANARY_TILE_WRITE (R251): A changed tile comes due within 60 s and is written to the Attic within the rate limit. -/
  | granaryTileWrite
  /-- GRANARY_FILE_CLOSED (R254): The last tile of a closing file is written and GRANARY/FILE_CLOSED completes the close. -/
  | granaryFileClosed
  /-- GRANARY_STATUS (R255): GRANARY.STATUS returns file state, totals, correction and history span. -/
  | granaryStatus (r : Req)
  /-- GRANARY_CONFIG (R253): GRANARY.CONFIG sets flow, moisture, delay, window, width source and geometry. -/
  | granaryConfig (r : Req)
  /-- GRANARY_SECTIONS (R253): GRANARY.SECTIONS builds or continues the section list. -/
  | granarySections (r : Req)
  /-- GRANARY_CALIB (R253): GRANARY.CALIB loads the flow calibration curve. -/
  | granaryCalib (r : Req)
  /-- GRANARY_OPEN (R254): GRANARY.OPEN creates or reopens a field file. -/
  | granaryOpen (r : Req)
  /-- GRANARY_CLOSE (R254): GRANARY.CLOSE stops mapping at the next period end, answered ACCEPTED. -/
  | granaryClose (r : Req)
  /-- GRANARY_CORRECT (R255): GRANARY.CORRECT marks the total mass or applies a corrected factor. -/
  | granaryCorrect (r : Req)
  /-- GRANARY_HOSTBUF (R256): GRANARY.HOSTBUF sets the two host flow-block regions. -/
  | granaryHostbuf (r : Req)
  /-- GRANARY_RESULT (R256): GRANARY.RESULT delivers the host's mass flow and moisture for a period. -/
  | granaryResult (r : Req)
  /-- OUT_STATUS (R274): OUT.STATUS returns a channel's or group's drive, protection and sense state. -/
  | outStatus (r : Req)
  /-- OUT_CONFIG (R273): OUT.CONFIG sets a channel's mode, policies, PWM, soft start, tests and writes its hardware default to the Cellar. -/
  | outConfig (r : Req)
  /-- OUT_SET (R274): OUT.SET stores a static value or PWM duty as the channel's mailbox value. -/
  | outSet (r : Req)
  /-- OUT_CLEAR (R274): OUT.CLEAR releases a channel latch or a cooled group shutdown. -/
  | outClear (r : Req)
  /-- OUT_PARKHOLD (R272): OUT.PARKHOLD arms or clears a park-hold slot of an HSC channel. -/
  | outParkhold (r : Req)
  /-- OUT_PWM_PERIOD (R260): A PWM period starts at k·T + φ and the new duty or configuration takes effect. -/
  | outPwmPeriod (o : Nat)
  /-- OUT_INRUSH_WINDOW_END (R264): A channel's inrush window ends and the latch-off threshold applies. -/
  | outInrushWindowEnd (o : Nat)
  /-- OUT_LATCHED (R264): An over-current, inrush overload or fast trip latches the channel off. -/
  | outLatched (o peak : Nat)
  /-- OUT_CURRENT_UPDATE (R265): At every 1 ms boundary each channel's mean current signal is rewritten. -/
  | outCurrentUpdate (samples : List (Nat × F32 × Nat))
  /-- OUT_DIE_SAMPLE (R266): Every 100 µs each group's die temperature is sampled and the thermal rules are applied. -/
  | outDieSample (temps : List (Nat × Int)) (curs : List (Nat × Nat))
  /-- OUT_RETRY_PWM_PHASE (R266): A retry-PWM on-phase of 250 µs starts at a 1 ms boundary. -/
  | outRetryPwmPhase (o : Nat)
  /-- OUT_GROUP_SHUTDOWN (R266): The power die reaching 175 °C switches all four switches off and latches group shutdown. -/
  | outGroupShutdown (g temp : Nat)
  /-- OUT_CLAMP_END (R267): A clamp ends and its energy is added to the channel and group sums. -/
  | outClampEnd (o energy : Nat)
  /-- OUT_CLAMP_EXPIRE (R267): A clamp contribution leaves its sums 1 s later. -/
  | outClampExpire (o : Nat)
  /-- OUT_OPEN_LOAD (R268): On-phase current below threshold for 50 ms, or an off-state reading for 10 ms, raises OUT/OPEN_LOAD. -/
  | outOpenLoad (o cur mv : Nat)
  /-- OUT_SHORT_BAT (R268): An off-state output above 7 V for 10 ms raises OUT/SHORT_BAT. -/
  | outShortBat (o mv : Nat)
  /-- OUT_DIAG_END (R268): An output diagnosis ends after its condition has been absent for 100 ms. -/
  | outDiagEnd (o kind : Nat)
  /-- OUT_TEST_DUE (R269): A test falls due for a safety-tagged channel and its off-pulse or off-state check starts. -/
  | outTestDue (o : Nat)
  /-- OUT_TEST_READBACK (R269): At the end of the pulse the output voltage is read back against 2 V. -/
  | outTestReadback (o mv : Nat)
  /-- OUT_PARK_PATTERN_EDGE (R272): The Cellar drives the next edge of a park-hold pattern. -/
  | outParkPatternEdge (slot : Nat)
  /-- OUT_PARK_TIME_LIMIT (R272): A park-hold channel's time limit ends its pattern. -/
  | outParkTimeLimit (slot : Nat)
  /-- OUT_PARK_TRIP (R272): A fast trip or 5 A latch in park switches a park-hold channel off for the rest of the park. -/
  | outParkTrip (slot cause : Nat)
  /-- HB_STATUS (R279): HB.STATUS returns a bridge's state, position and current. -/
  | hbStatus (r : Req)
  /-- HB_CONFIG (R278): HB.CONFIG sets a bridge's policy, flags, stall and pinch settings. -/
  | hbConfig (r : Req)
  /-- HB_DRIVE (R279): HB.DRIVE starts a move or coasts or brakes a bridge. -/
  | hbDrive (r : Req)
  /-- HB_CLEAR (R279): HB.CLEAR releases a bridge's short-trip latch. -/
  | hbClear (r : Req)
  /-- HB_POSITION (R279): HB.POSITION sets the ripple position and marks it reliable. -/
  | hbPosition (r : Req)
  /-- HB_RIPPLE (R277): A commutation ripple moves the position and is checked for pinch, target and reverse count. -/
  | hbRipple (n cur : Nat)
  /-- HB_PINCH_REVERSE (R278): After the pinch brake the bridge drives in the opposite direction. -/
  | hbPinchReverse (n : Nat)
  /-- HB_PINCH_TIMEOUT (R278): Without ripple counting, a pinch reversal ends after 300 ms. -/
  | hbPinchTimeout (n : Nat)
  /-- HB_SHORT (R276): Bridge current at 60 A switches it off within 4 µs and latches it. -/
  | hbShort (n cur : Nat)
  /-- HB_STALL (R279): Current above the stall threshold for the stall time, or above 15 A for 500 ms, brakes the bridge. -/
  | hbStall (n cur ms : Nat)
  /-- HB_THERMAL (R276): The bridge sensor above 150 °C coasts the bridge. -/
  | hbThermal (n temp : Nat)
  /-- HB_TIME_LIMIT (R279): A move's time limit ends it with a brake. -/
  | hbTimeLimit (n : Nat)
  /-- HB_REVERSAL_BRAKE_END (R279): The 5 ms brake before a reversing move ends and the new move drives. -/
  | hbReversalBrakeEnd (n : Nat)
  /-- HB_CURRENT_UPDATE (R276): Every 1 ms the bridge mean current signal is rewritten. -/
  | hbCurrentUpdate (samples : List (Nat × F32))
  /-- SWIN_SAMPLE (R284): At each 1 ms boundary every switch input is sampled, debounced and checked for chatter. -/
  | swinSample (mv : List Nat)
  /-- SWIN_WAKE_STUCK (R287): A wake input active for its stuck time is removed from the wake set. -/
  | swinWakeStuck (n : Nat)
  /-- SWIN_PARK_CHECK (R286): The Cellar senses wake inputs every 20 ms, or removed ones every 1 s, in park. -/
  | swinParkCheck (mv : List Nat)
  /-- SWIN_CONFIG (R285): SWIN.CONFIG sets thresholds, pull, wetting, debounce, chatter and wake. -/
  | swinConfig (r : Req)
  /-- SWIN_READ (R285): SWIN.READ returns debounced, raw, chatter and removed-wake bitmaps. -/
  | swinRead (r : Req)
  /-- LIN_SLOT (R289): A schedule slot starts and its frame is published, subscribed or resolved. -/
  | linSlot (ch : Nat) (f : LinBus)
  /-- LIN_WAKE_PULSE (R290): A slave's wake pulse on a sleeping bus posts LIN/WAKE. -/
  | linWakePulse (ch us : Nat)
  /-- LIN_RESUME (R290): One hundred milliseconds after a wake the master starts or resumes its table. -/
  | linResume (ch : Nat)
  /-- LIN_BUS_FAULT (R291): Three wrong headers or 100 ms dominant stop the schedule. -/
  | linBusFault (ch cause ms : Nat)
  /-- LIN_RETRY (R291): A faulted master retries every 1 s. -/
  | linRetry (ch : Nat)
  /-- LIN_STATUS (R291): LIN.STATUS returns a master's state, table, entry and frame count. -/
  | linStatus (r : Req)
  /-- LIN_READ (R291): LIN.READ returns a frame's last data, flags and stamp. -/
  | linRead (r : Req)
  /-- LIN_CONFIG (R288): LIN.CONFIG sets the bit rate and enables a master. -/
  | linConfig (r : Req)
  /-- LIN_TABLE (R288): LIN.TABLE loads a schedule table that is not running. -/
  | linTable (r : Req)
  /-- LIN_SCHEDULE (R289): LIN.SCHEDULE switches the table at the end of the current slot, waking the bus if asleep. -/
  | linSchedule (r : Req)
  /-- LIN_WRITE (R289): LIN.WRITE sets the data of a published frame. -/
  | linWrite (r : Req)
  /-- LIN_SLEEP (R290): LIN.SLEEP sends go-to-sleep and stops the schedule. -/
  | linSleep (r : Req)
  /-- BODY_CONFIG (R292): BODY.CONFIG binds a service's sources, outputs and parameters. -/
  | bodyConfig (r : Req)
  /-- BODY_STATUS (R298): BODY.STATUS returns a service's state, request, sources and outputs. -/
  | bodyStatus (r : Req)
  /-- BODY_REQUEST (R293): BODY.REQUEST gives a service a command request code. -/
  | bodyRequest (r : Req)
  /-- BODY_HOSTBUF (R299): BODY.HOSTBUF sets the body host-record region. -/
  | bodyHostbuf (r : Req)
  /-- BODY_RESULT (R299): BODY.RESULT applies host output and bridge actions to a service. -/
  | bodyResult (r : Req)
  /-- BODY_FLASH_PHASE (R294): The flasher or a flashing output set switches between on and off phases. -/
  | bodyFlashPhase (inst side : Nat)
  /-- BODY_WIPER_PARK_SWITCH (R295): The wiper park switch reaches park and ends or continues the wipe. -/
  | bodyWiperParkSwitch (inst : Nat)
  /-- BODY_WIPER_STALL (R295): The park-run limit passes without park and both outputs switch off. -/
  | bodyWiperStall (inst : Nat)
  /-- BODY_WIPER_INTERVAL (R295): The interval wait ends and the next slow wipe starts. -/
  | bodyWiperInterval (inst : Nat)
  /-- BODY_WIPER_CHANGEOVER (R295): The 50 ms off time between slow and fast ends. -/
  | bodyWiperChangeover (inst : Nat)
  /-- BODY_LOCK_PULSE_END (R297): The lock pulse of P0 ms ends and the bridges brake. -/
  | bodyLockPulseEnd (inst : Nat)
  /-- BODY_LOCK_INHIBIT_END (R297): The 30 s lock inhibit ends. -/
  | bodyLockInhibitEnd (inst : Nat)
  /-- BODY_AUTO_UP_INHIBIT_END (R296): Five seconds after a pinch reversal auto up is allowed again. -/
  | bodyAutoUpInhibitEnd (inst : Nat)
  /-- BODY_MAX_ON (R298): An output set request on longer than P3 switches the set off. -/
  | bodyMaxOn (inst : Nat)
  /-- BODY_DELAY_OFF (R298): The delay-off time after a request ends switches the set off. -/
  | bodyDelayOff (inst : Nat)
  /-- BODY_HOST_PERIOD (R299): Every 10 ms the body host records are written. -/
  | bodyHostPeriod
  /-- FAN_PWM_PERIOD (R303): A fan PWM period starts and the applied duty is decided under R308. -/
  | fanPwmPeriod (n : Nat) (cur : F32)
  /-- FAN_TACH_EDGE (R304): A tach edge in an on-phase is used for speed measurement. -/
  | fanTachEdge (n : Nat)
  /-- FAN_STRETCH (R304): Once per stretch interval an on-phase is extended to measure speed. -/
  | fanStretch (n : Nat)
  /-- FAN_STRETCH_MAX (R304): The stretch maximum ends a stretched on-phase without a measurement. -/
  | fanStretchMax (n : Nat)
  /-- FAN_KICK_TIMEOUT (R310): A kick reaches 3 s without speed and the fan is blocked. -/
  | fanKickTimeout (n cur : Nat)
  /-- FAN_RETRY (R310): Ten seconds after a failed kick a retry kick starts. -/
  | fanRetry (n : Nat)
  /-- FAN_TACH_TIMEOUT (R311): No speed for 2 s while running means tach lost or stalled, by the output current. -/
  | fanTachTimeout (n cur : Nat)
  /-- FAN_HEARTBEAT_MISSING (R308): A watched heartbeat unchanged for 2 s drives the fan at full drive. -/
  | fanHeartbeatMissing (n : Nat) (host : Bool)
  /-- FAN_STATUS (R313): FAN.STATUS returns a fan's state, causes, duty, speed and current. -/
  | fanStatus (r : Req)
  /-- FAN_CONFIG (R302): FAN.CONFIG binds and configures an external fan. -/
  | fanConfig (r : Req)
  /-- FAN_TABLE (R306): FAN.TABLE loads a fan's temperature–duty table. -/
  | fanTable (r : Req)
  /-- FAN_SET (R306): FAN.SET gives a commanded duty, or a lid fan's duty floor. -/
  | fanSet (r : Req)
  /-- FAN_CLEAR (R310): FAN.CLEAR unlocks a locked fan and starts a new kick. -/
  | fanClear (r : Req)
  /-- FAN_RESULT (R313): FAN.RESULT delivers a host-computed fan duty. -/
  | fanResult (r : Req)
  /-- PLATE_STATUS (R320): PLATE.STATUS returns the plate state, band, frame and update count. -/
  | plateStatus (r : Req)
  /-- PLATE_CONFIG (R316): PLATE.CONFIG sets panel size, temperature signal, clock and VSH. -/
  | plateConfig (r : Req)
  /-- PLATE_WAVEFORM (R318): PLATE.WAVEFORM loads the waveform table. -/
  | plateWaveform (r : Req)
  /-- PLATE_UPDATE (R320): PLATE.UPDATE runs its checks and starts an update with the rails on. -/
  | plateUpdate (r : Req)
  /-- PLATE_PARK (R322): PLATE.PARK sets the park base image, fault count and machine ID. -/
  | platePark (r : Req)
  /-- PLATE_FRAME_START (R318): A frame's drive-code plane is sent once the rails are up or the previous frame has ended. -/
  | plateFrameStart
  /-- PLATE_FRAME_DONE (R318): PLATE_BUSY goes low and the frame ends. -/
  | plateFrameDone
  /-- PLATE_BUSY_TIMEOUT (R321): PLATE_BUSY not low within twice the frame time aborts the update. -/
  | plateBusyTimeout
  /-- PLATE_RAIL_FAULT (R321): A rail outside ±10 % for 1 ms aborts the update. -/
  | plateRailFault (rail : Nat) (mv : Int)
  /-- PLATE_DONE (R320): Ten milliseconds after rails off the image is saved and PLATE/DONE completes the update. -/
  | plateDone
  /-- CAN_FRAME_RX (R331): A validated CAN frame is matched, extracted into signals, queued and routed. -/
  | canFrameRx (f : CanRx)
  /-- CAN_TP_TIMEOUT (R351): An ISO 11783-3 transport timeout expires in a session. -/
  | canTpTimeout (ch k : Nat)
  /-- CAN_HP_HOLD_EXPIRY (R337): A pulse or timeout match's hold time ends and its term changes. -/
  | canHpHoldExpiry (ch k : Nat)
  /-- CAN_SIGNAL_TIMEOUT (R332): No matching frame for an extraction timeout sets STALE. -/
  | canSignalTimeout (idx : Nat)
  /-- CAN_QUEUE_NOTIFY_AGE (R336): The oldest unacknowledged entry reaches the notify age and CAN/RX is posted. -/
  | canQueueNotifyAge (ch q : Nat)
  /-- CAN_TX_PERIODIC (R341): A periodic TX object's instant comes and it is packed and requested. -/
  | canTxPeriodic (idx : Nat)
  /-- CAN_TX_ON_CHANGE (R341): A packed signal's stamp changes and an on-change object is requested. -/
  | canTxOnChange (idx : Nat)
  /-- CAN_TX_COMPLETE (R343): A transmission completes, fails once or is retransmitted. -/
  | canTxComplete (ch outcome ago : Nat)
  /-- CAN_BUS_RECOVERED (R325): 128 occurrences of 11 recessive bits return the controller to error active. -/
  | canBusRecovered (ch : Nat)
  /-- CAN_REJOIN (R326): After reconfiguration the controller rejoins after 11 recessive bits. -/
  | canRejoin (ch : Nat)
  /-- CAN_TXD_DOMINANT (R324): The transmitter dominant for 4 ms is released. -/
  | canTxdDominant (ch us : Nat)
  /-- CAN_PANTRY_COMMIT (R330): An accepted Pantry write is committed on each channel between two frames. -/
  | canPantryCommit
  /-- CAN_BASIC_CYCLE (R345): A master starts a basic cycle and sends the reference message. -/
  | canBasicCycle (ch : Nat)
  /-- CAN_BACKUP_REFERENCE (R345): A backup master sends the reference after its backup delay. -/
  | canBackupReference (ch : Nat)
  /-- CAN_SCHEDULE_LOST (R346): No reference within 1.5 cycle lengths loses synchronisation. -/
  | canScheduleLost (ch : Nat)
  /-- CAN_SLOT_WINDOW (R347): A schedule window opens and its exclusive or arbitrating frames start. -/
  | canSlotWindow (idx : Nat)
  /-- CAN_ROUTE_HOLD_TIMEOUT (R350): Wake-relevant frames held 1 s are dropped. -/
  | canRouteHoldTimeout (ch : Nat)
  /-- CAN_STATUS (R325): CAN.STATUS returns a channel's state, error counts and counters. -/
  | canStatus (r : Req)
  /-- CAN_HP_READ (R338): CAN.HP_READ returns a match's last passing frame and term. -/
  | canHpRead (r : Req)
  /-- CAN_TX_STATUS (R343): CAN.TX_STATUS returns a TX object's state and counters. -/
  | canTxStatus (r : Req)
  /-- CAN_CONFIG (R326): CAN.CONFIG sets mode, flags and bit timing of a controller. -/
  | canConfig (r : Req)
  /-- CAN_PANTRY (R330): CAN.PANTRY writes or reads a run of Pantry entries, all or nothing. -/
  | canPantry (r : Req)
  /-- CAN_QUEUE (R333): CAN.QUEUE binds a receive queue to a window or to GNSS. -/
  | canQueue (r : Req)
  /-- CAN_SCHEDULE (R345): CAN.SCHEDULE sets a channel's time-triggered role and cycle. -/
  | canSchedule (r : Req)
  /-- CAN_RECOVER (R325): CAN.RECOVER starts bus-off recovery. -/
  | canRecover (r : Req)
  /-- CAN_SEND (R344): CAN.SEND stores a payload and requests an on-demand TX object. -/
  | canSend (r : Req)
  /-- CAN_TP (R351): CAN.TP enables transport protocols with a source address and receive region. -/
  | canTp (r : Req)
  /-- CAN_TP_SEND (R353): CAN.TP_SEND starts a BAM, TP or ETP send, answered ACCEPTED. -/
  | canTpSend (r : Req)
  /-- ETH_FRAME_RX (R359): An Ethernet frame is received and switched, answered or passed to the internal port. -/
  | ethFrameRx (f : EthRx)
  /-- ETH_LIDAR_FRAGMENT (R363): A lidar fragment arrives and completes or advances block reassembly. -/
  | ethLidarFragment (stream : Nat) (payload : List Byte)
  /-- ETH_LIDAR_TIMEOUT (R363): A block incomplete 50 ms after its first fragment is dropped. -/
  | ethLidarTimeout (stream : Nat)
  /-- ETH_SIGNAL_DATAGRAM (R364): A signal datagram is checked and its entries are written in one cycle. -/
  | ethSignalDatagram (payload : List Byte) (ago : Nat)
  /-- ETH_SIGPORT_TIMEOUT (R364): No datagram value within the timeout sets STALE. -/
  | ethSigportTimeout (id : Nat)
  /-- ETH_HOSTRING_TX (R365): The application advances the transmit ring producer and the frame is sent. -/
  | ethHostringTx (w prod : Nat)
  /-- ETH_GATE_CYCLE (R361): A gate control list cycle starts and a new list takes effect. -/
  | ethGateCycle (port : Nat)
  /-- ETH_LINK_UP (R368): A port link comes up. -/
  | ethLinkUp (port speed quality delay : Nat)
  /-- ETH_LINK_DOWN (R368): A port link is lost. -/
  | ethLinkDown (port : Nat)
  /-- ETH_STATUS (R368): ETH.STATUS returns link, gPTP, quality, speed and drop counts. -/
  | ethStatus (r : Req)
  /-- ETH_CONFIG (R360): ETH.CONFIG enables a port and sets role, time, TC10 and address. -/
  | ethConfig (r : Req)
  /-- ETH_GATES (R361): ETH.GATES loads or clears a port's gate control list. -/
  | ethGates (r : Req)
  /-- ETH_LIDAR (R363): ETH.LIDAR sets up a lidar stream listener. -/
  | ethLidar (r : Req)
  /-- ETH_SIGPORT (R364): ETH.SIGPORT sets the signal datagram listener and ID range. -/
  | ethSigport (r : Req)
  /-- ETH_HOSTRING (R365): ETH.HOSTRING binds a partition's receive and transmit rings. -/
  | ethHostring (r : Req)
  /-- NM_RING_MESSAGE (R372): A ring message is received and drives joining, passing, commit or abort. -/
  | nmRingMessage (n sender : Nat) (data : List Byte)
  /-- NM_RING_SEND (R373): At its turn the module sends its ring message, with READY, COMMIT or ABORT. -/
  | nmRingSend (n : Nat)
  /-- NM_RING_TIMEOUT (R372): T_max passes without a ring message and the module sends ALIVE. -/
  | nmRingTimeout (n : Nat)
  /-- NM_WAKE_IN_GAP (R376): A wake in the sleep gap sends ABORT and wakes the network. -/
  | nmWakeInGap (n : Nat)
  /-- NM_GAP_END (R375): Two hundred milliseconds after the final commit the transceiver and PHYs sleep. -/
  | nmGapEnd (n : Nat)
  /-- NM_TC10_ACK_TIMEOUT (R375): A T1 partner not acknowledging sleep in 20 ms counts as a wake in the gap. -/
  | nmTc10AckTimeout (n : Nat) (refused : Bool)
  /-- NM_SLEEP_BLOCKED (R378): Consent without reaching GAP for the blocked-report time posts NM/SLEEP_BLOCKED. -/
  | nmSleepBlocked (n : Nat)
  /-- CAN_TRANSCEIVER_WAKE (R379): A wake pattern, selective frame or error overflow wakes a sleeping transceiver. -/
  | canTransceiverWake (ch kind id : Nat) (data : List Byte)
  /-- TC10_WAKE (R382): A TC10 wake-up on a sleeping T1 port wakes the module or network. -/
  | tc10Wake (port : Nat)
  /-- NM_STATUS (R385): NM.STATUS returns a managed network's state, consent and nodes. -/
  | nmStatus (r : Req)
  /-- NM_WAKE_CAUSE (R384): NM.WAKE_CAUSE returns the first wake cause, bitmap and park duration. -/
  | nmWakeCause (r : Req)
  /-- NM_CONFIG (R385): NM.CONFIG manages a network and restarts its ring. -/
  | nmConfig (r : Req)
  /-- NM_REQUEST (R385): NM.REQUEST holds or releases a window's keep-awake request on a network. -/
  | nmRequest (r : Req)
  /-- NM_CANWAKE (R379): NM.CANWAKE sets a channel's transceiver wake mode. -/
  | nmCanwake (r : Req)
  /-- WD_KEY_WRITE (R390): Root writes WD_KEY; a correct key in the window services the watchdog and advances the challenge. -/
  | wdKeyWrite (value : Nat)
  /-- WD_CFG_WRITE (R389): Root writes WD_CFG, which is taken whole or ignored and may set LOCK. -/
  | wdCfgWrite (value : Nat)
  /-- ROOT_WD_TIMEOUT (R390): No service by TMAX is a watchdog violation and a Root fault. -/
  | rootWdTimeout
  /-- SAFEOFF_WRITE (R398): Root writes SAFEOFF and the safe-off lines assert or release. -/
  | safeoffWrite (value : Nat)
  /-- CELLAR_HOLD_RELEASE (R395): Root writes 1 to CELLAR_HOLD bits to release the Cellar's line holds when allowed. -/
  | cellarHoldRelease (value : Nat)
  /-- FLAGS_SET_WRITE (R402): A write to FLAGS_SET sets Root flags. -/
  | flagsSetWrite (value : Nat)
  /-- FLAGS_CLR_WRITE (R402): A write to FLAGS_CLR clears Root flags unless overridden in the same cycle. -/
  | flagsClrWrite (value : Nat)
  /-- TAGGED_OFF_RELEASE (R395): Root writes 1 to SAFE_STATE bit 0 to release TAGGED_OFF when allowed. -/
  | taggedOffRelease
  /-- ROOT_STOP_WRITE (R392): Root writes 1 to SAFE_STATE bit 31, its own stop, a Root fault of cause 9. -/
  | rootStopWrite
  /-- STUCK_W1C (R405): Root clears latched STUCK bits by W1C. -/
  | stuckW1c (word value : Nat)
  /-- RULE_RECORD_WRITE (R400): Root writes a rule record, ignored while the rule is enabled. -/
  | ruleRecordWrite (rule word value : Nat)
  /-- RULE_EN_WRITE (R400): Setting a RULE_EN bit checks the record and enables it or records RULE_ERR. -/
  | ruleEnWrite (word value : Nat)
  /-- REFLEX_RULE_CHANGE (R401): A term change makes a rule active or inactive, forcing outputs, cutting banks and setting flags. -/
  | reflexRuleChange
  /-- ROOT_FAULT (R393): A Root fault sets TAGGED_OFF, asserts FAULTCUT lines, records it and resets Root. -/
  | rootFault (cause : Nat)
  /-- ROOT_START (R395): Root starts after verification with TAGGED_OFF and Cellar holds set and the inbox delivered. -/
  | rootStart (links : List LinkDecl)
  /-- MONITOR_TRIP (R397): A Cellar clock or rail monitor trips and applies its reaction. -/
  | monitorTrip (bit : Nat)
  /-- MONITOR_RETURN (R397): A monitor returns within limits. -/
  | monitorReturn (bit : Nat)
  /-- KEEPER_HB_TICK (R389): Every 1 ms Keeper firmware increments KEEPER_HB. -/
  | keeperHbTick
  /-- ROOT_LINK_MESSAGE (R408): A Root link message is checked and accepted, discarded or put into safe state. -/
  | rootLinkMessage (conn : Nat) (msg : List Byte) (at_ : Nat)
  /-- ROOT_LINK_TIMEOUT (R408): No accepted message within E puts a connection into its safe state. -/
  | rootLinkTimeout (conn : Nat)
  /-- ROOT_LINK_TX (R407): A transmit connection sends its next message at its period. -/
  | rootLinkTx (conn : Nat) (data : List Byte)
  /-- ROOT_LINK_REARM (R409): The Root application re-arms a connection in safe state. -/
  | rootLinkRearm (conn : Nat)
  /-- ROOT_STATUS (R411): ROOT.STATUS returns Root state, starts, flags, lines and connections. -/
  | rootStatus (r : Req)
  /-- ROOT_LINK_STATUS (R409): ROOT.LINK_STATUS returns a connection's state and counters. -/
  | rootLinkStatus (r : Req)
  /-- ROOT_RESTART (R411): ROOT.RESTART replies DONE and raises a Root fault of cause 10. -/
  | rootRestart (r : Req)
  /-- REFLEX_STATUS (R410): REFLEX.STATUS returns a rule's state, terms and activations. -/
  | reflexStatus (r : Req)
  /-- GRAFT_STATUS (R431): GRAFT.STATUS returns delivery, set and trial status. -/
  | graftStatus (r : Req)
  /-- GRAFT_MISSING (R420): GRAFT.MISSING returns the bitmap of held pieces from an index. -/
  | graftMissing (r : Req)
  /-- GRAFT_OPEN (R419): GRAFT.OPEN verifies an image header and opens or resumes its staging. -/
  | graftOpen (r : Req)
  /-- GRAFT_PIECE (R420): GRAFT.PIECE checks a piece's hash and writes it to staging. -/
  | graftPiece (r : Req)
  /-- GRAFT_INSTALLED (R421): Installation into the free boot slot completes and is verified. -/
  | graftInstalled
  /-- GRAFT_DISCARD (R421): GRAFT.DISCARD deletes the staged or installed image. -/
  | graftDiscard (r : Req)
  /-- GRAFT_ACTIVATE (R423): GRAFT.ACTIVATE checks the installed set and starts the activation sequence. -/
  | graftActivate (r : Req)
  /-- GRAFT_HASH_DONE (R423): Hashing of the set completes, the activation record is written and unit parts begin. -/
  | graftHashDone
  /-- GRAFT_HANDOVER_NOTICE (R424): At b − 5 ms GRAFT/HANDOVER is posted to the old instance. -/
  | graftHandoverNotice
  /-- GRAFT_YIELD (R424): GRAFT.YIELD from the old instance halts it and posts GRAFT/STATE_READY. -/
  | graftYield (r : Req)
  /-- GRAFT_TAKE (R424): GRAFT.TAKE phase 0 reports readiness; phase 1 moves the new instance to its cores. -/
  | graftTake (r : Req)
  /-- GRAFT_READY_TIMEOUT (R424): The new instance not ready in 60 s abandons the activation. -/
  | graftReadyTimeout
  /-- GRAFT_YIELD_TIMEOUT (R424): No yield by b + 20 ms abandons the activation. -/
  | graftYieldTimeout
  /-- GRAFT_TAKE_TIMEOUT (R424): No take by YIELD + 50 ms abandons and resumes the old instance. -/
  | graftTakeTimeout
  /-- ROOT_CUTOVER (R426): Root changes to its new image within a 15 ms pause, keeping its control block. -/
  | rootCutover
  /-- KEEPER_CUTOVER (R426): Keeper changes to its new firmware within a 35 ms doorbell latch pause. -/
  | keeperCutover
  /-- KEEPER_CUTOVER_TIMEOUT (R426): A new Keeper not ready at 35 ms returns the old Keeper and abandons. -/
  | keeperCutoverTimeout
  /-- GRAFT_CONFIRM (R428): GRAFT.CONFIRM from the confirming partition confirms the trial set. -/
  | graftConfirm (r : Req)
  /-- GRAFT_CONFIRM_DUE (R428): Ten percent of the confirmation window remains. -/
  | graftConfirmDue
  /-- GRAFT_TRIAL_COUNT_WRITE (R428): Every 60 s of operating time the trial count is written to the activation record. -/
  | graftTrialCountWrite
  /-- GRAFT_CONFIRM_TIMEOUT (R429): The confirmation window ends unconfirmed and a fall-back starts. -/
  | graftConfirmTimeout
  /-- GRAFT_FALLBACK_CMD (R429): GRAFT.FALLBACK starts a fall-back, answered ACCEPTED. -/
  | graftFallbackCmd (r : Req)
  /-- GRAFT_BOOT_TIMEOUT (R429): A trial-set trunk start not reaching Keeper ready in 5 s is counted; the second boots the fall-back set. -/
  | graftBootTimeout
  /-- GRAFT_FALLBACK_DONE (R430): The fall-back sequence completes with the fall-back set active. -/
  | graftFallbackDone
  /-- ATTIC_STATUS (R443): ATTIC.STATUS returns state, wear, sizes, staging and temperature. -/
  | atticStatus (r : Req)
  /-- ATTIC_LIST (R434): ATTIC.LIST returns a page of files or records. -/
  | atticList (r : Req)
  /-- ATTIC_READ (R435): ATTIC.READ starts reading a file or record into a region. -/
  | atticRead (r : Req)
  /-- ATTIC_WRITE (R435): ATTIC.WRITE starts an atomic write of a file or settings record. -/
  | atticWrite (r : Req)
  /-- ATTIC_DELETE (R434): ATTIC.DELETE deletes an owned file or record. -/
  | atticDelete (r : Req)
  /-- ATTIC_DONE (R435): An Attic transfer completes or commits and ATTIC/DONE is posted. -/
  | atticDone (index : Nat)
  /-- ATTIC_TEMP_SAMPLE (R438): Each 1 s the UFS temperature is read and the write inhibit starts or ends. -/
  | atticTempSample (temp : Int)
  /-- ATTIC_STAGE_LOST (R440): Thirty minutes of undrained staging at park entry discards staged writes. -/
  | atticStageLost
  /-- KEPT_CONFIG_WRITE (R437): Within 1 s of a change Keeper writes its kept-configuration record. -/
  | keptConfigWrite
  /-- LARDER_BUFFER_FLUSH (R446): The Cellar buffer of Larder records is written to the Attic. -/
  | larderBufferFlush
  /-- LARDER_STATUS (R447): LARDER.STATUS returns sequence ranges, count and buffer state. -/
  | larderStatus (r : Req)
  /-- LARDER_READ (R447): LARDER.READ starts copying records by sequence. -/
  | larderRead (r : Req)
  /-- LARDER_READ_DONE (R447): The record copy completes. -/
  | larderReadDone
  /-- LARDER_CHALLENGE (R448): LARDER.CHALLENGE returns a single-use clearing challenge. -/
  | larderChallenge (r : Req)
  /-- LARDER_CLEAR (R448): LARDER.CLEAR checks the token and starts an authorised clear. -/
  | larderClear (r : Req)
  /-- LARDER_CLEARED (R449): The clear zeroes its slots and completes. -/
  | larderCleared
  /-- LARDER_CLEAR_LOCK_END (R448): The 60 min clear lock ends. -/
  | larderClearLockEnd
  /-- CELLAR_START (R30): A BAT stud rises above the Cellar start threshold: OFF to DEEP PARK. -/
  | cellarStart (a b c : Int)
  /-- PARK_WAKE (R463): An enabled wake cause in a park state starts the trunk to KEEPER. -/
  | parkWake (cause detail : Nat)
  /-- IGN_CHANGE (R458): IGN or KEYWAKE changes after its filter, entering RUN or starting the RUN grace period. -/
  | ignChange (ign key : Bool)
  /-- GRACE_END (R459): The 5 s grace period ends; partitions stop and the state becomes KEEPER. -/
  | graceEnd
  /-- PARK_ENTRY_START (R461): Park entry conditions hold together and the park entry steps begin. -/
  | parkEntryStart
  /-- PARK_WAIT (R460): After 60 s, and every 10 min, of waiting POWER/PARK_WAIT is posted. -/
  | parkWait
  /-- PARK_STEP_DONE (R461): A waiting park entry step ends and the next step starts. -/
  | parkStepDone
  /-- POWER_DOWN_LATCH (R383): The Cellar takes its power-down latch and the trunk powers off. -/
  | powerDownLatch
  /-- SUPPLY_LOSS (R455): The logic supply falls to loss and the Attic hold-up sequence runs. -/
  | supplyLoss (mv : Nat)
  /-- SUPPLY_RETURN (R455): The logic supply returns within the hold time and the trunk starts again. -/
  | supplyReturn (mv : Nat)
  /-- CELLAR_HOLD_EXPIRY (R455): The supply stays below 3 V for 1 s and the module goes OFF. -/
  | cellarHoldExpiry
  /-- STUD_LOW (R453): A stud below 6.0 V holds its stages' gate drive off until it returns. -/
  | studLow (stud : Nat) (mv : Int) (gnd : Nat)
  /-- POWER_UNDERVOLT (R453): A stud below the warning threshold for 100 ms raises POWER/UNDERVOLT. -/
  | powerUndervolt (stud : Nat) (mv : Int) (ms : Nat)
  /-- POWER_OVERVOLT (R454): A stud above 36 V for 1 ms holds its stages off. -/
  | powerOvervolt (stud : Nat) (mv : Int) (ms : Nat)
  /-- OVERVOLT_END (R454): A stud below 35 V for 10 ms lets its stages resume. -/
  | overvoltEnd (stud : Nat) (mv : Int)
  /-- POWER_REVERSE (R456): A reversed stud holds its stages off. -/
  | powerReverse (stud : Nat) (mv : Int)
  /-- POWER_STATUS (R473): POWER.STATUS returns state, park waits, supplies and counters. -/
  | powerStatus (r : Req)
  /-- POWER_CONFIG (R473): POWER.CONFIG sets keep-awake, system voltage and warning threshold. -/
  | powerConfig (r : Req)
  /-- POWER_REQUEST (R473): POWER.REQUEST holds or releases a window's block on park entry. -/
  | powerRequest (r : Req)
  /-- POWER_RUN (R473): POWER.RUN sets or releases Root's run request. -/
  | powerRun (r : Req)
  /-- THERMAL_SAMPLE (R465): A temperature sensor is sampled and throttling, warning and shutdown are decided. -/
  | thermalSample (sensor : Nat) (temp : Int)
  /-- THROTTLE_STEP_DOWN (R467): Two seconds below a step's threshold − 5 °C lowers the step. -/
  | throttleStepDown (die : Nat)
  /-- THERMAL_STATUS (R465): THERMAL.STATUS returns a sensor's temperature, state and maximum. -/
  | thermalStatus (r : Req)
  /-- EXTEST (R503): EXTEST drives and observes pins through the boundary cells in the TEST state. -/
  | extest (cells : List (Nat × Bool)) (pins : List (Nat × Bool))
  /-- IDCODE (R501): IDCODE selects the device identification register. -/
  | idcode
  /-- SAMPLE_PRELOAD (R501): SAMPLE/PRELOAD captures pin states without disturbing them. -/
  | samplePreload (cells : List (Nat × Bool)) (pins : List (Nat × Bool))
  /-- HIGHZ (R501): HIGHZ turns every driving cell off and selects bypass. -/
  | highz
  /-- CLAMP (R501): CLAMP drives preloaded values and selects bypass. -/
  | clamp
  /-- BYPASS (R501): BYPASS selects the 1-bit bypass register. -/
  | bypass
  /-- TEST_LOGIC_RESET (R501): JTRST low or five TMS-high clocks reset the test logic. -/
  | testLogicReset
  /-- TESTKEY_TIED (R502): TESTKEY tied in KEEPER or RUN enables JVREF and console input. -/
  | testkeyTied
  /-- CONSOLE_RX (R485): A console character is received, ignored unless TESTKEY is tied. -/
  | consoleRx (char : Byte)
  /-- STUD_RETURN (R453): A stud that fell below 6.0 V returns above it; its stages regain gate drive and inrush windows reopen. -/
  | studReturn (stud : Nat) (mv : Int) (gnd : Nat)
  /-- UNDERVOLT_END (R453): A stud above the under-voltage threshold plus 0.5 V for 1 s ends POWER/UNDERVOLT. -/
  | undervoltEnd (stud : Nat) (mv : Int)
  /-- POWER_REVERSE_END (R456): A reversed stud returns to normal polarity and its stages resume. -/
  | powerReverseEnd (stud : Nat) (mv : Int)
  /-- HB_THERMAL_END (R276): A bridge's own sensor falls below 140 °C and drive is no longer refused with LOCKED. -/
  | hbThermalEnd (n temp : Nat)
  /-- GNSS_ANT_OPEN_END (R175): Antenna supply current at or above 6 mA for 1 s ends GNSS/ANT_OPEN. -/
  | gnssAntOpenEnd (inst cur : Nat)
  /-- CAM_POC_OPEN_END (R199): Coax current at or above 30 mA for 1 s ends CAM/POC_OPEN. -/
  | camPocOpenEnd (port cur : Nat)
  /-- CAN_BUS_ERROR (R325): A bus error detected while receiving raises the receive error count and can bring the controller into error passive. -/
  | canBusError (ch inc : Nat)
  /-- CAN_TP_BAM_PACKET (R351): The BAM packet spacing elapses and the next TP.DT packet of a broadcast send is requested. -/
  | canTpBamPacket (ch k : Nat)
  /-- CANOPY_PARTITION_START (R28): A Canopy partition starts after its image has been verified on entry into RUN, with its window, SEQ and event mask initialised. -/
  | canopyPartitionStart (p : Nat)
  /-- TESTKEY_UNTIED (R502): TESTKEY is untied in KEEPER or RUN, removing JVREF and console input. -/
  | testkeyUntied
  deriving DecidableEq, Repr

end Sys2Proof
end

