-- ==== Sys2Proof/Decode.lean ====
section
/-! DEFINITION. Decode.lean: the command that a word spells by the bits of spec/opcode_table.json. -/

namespace Sys2Proof

/-- Every row of the table gives an empty list of fields: the commands of this block have no binary encoding of the table's
kind, so a word spells none. (The encoding the spec does give, a mailbox command's 128-byte slot of 02 R51, is
`Machine.slotBytes` and `Machine.slotReq`.) -/
def decodeTableWord (_nbits _w : Nat) : Option Instr := none

end Sys2Proof
end

