-- ==== Sys2Proof/Config.lean ====
section
/-! DEFINITION. Config.lean: what the spec leaves open, as constants with no body. Nothing in Lean can evaluate one or
prove a value of it, so a statement about one holds for every value (log entry 5). -/

namespace Sys2Proof.Config

/-- The n-th draw of a value the spec leaves open, as a natural number. -/
opaque freeNat : Nat → Nat

/-- The n-th draw of a value the spec leaves open, as a binary32 word. -/
opaque freeF32 : Nat → F32

/-- The n-th draw of a value the spec leaves open, as a string of bytes of the length asked for. -/
opaque freeBytes : Nat → Nat → List Byte

/-- Whether a maker certificate verifies under the Kaulium public key fused in the trunk die (19 R415). The key is not in
the spec. -/
opaque certVerifies : List Byte → Bool

/-- Whether a signature verifies over the signed bytes under a certified maker key (19 R415): key, signed bytes, signature. -/
opaque sigVerifies : List Byte → List Byte → List Byte → Bool

/-- The module's 256-bit Larder clearing key, fused at manufacture and unreadable (20 R448). -/
opaque larderKey : List Byte

/-- How far ERR_EST has grown beyond an estimate, in ns, so many ns after it was made, while TIME is not LOCKED: the spec gives
no algorithm for the running estimate (03 R78). -/
opaque holdDrift : Nat → Nat → Nat

/-- Turn-on time of a bank's high-side that switches on at an instant; read modulo the 40 us bound (06 R156, R167). -/
opaque hsTurnOn : Nat → Nat → Nat

/-- Kaulium's manufacturer identity of the device identification register, which the spec leaves to the BSDL description
(23 R501). -/
opaque bsdlManufacturer : Nat

/-- What a Crown model image records (09, Models and shapes): shape, kind of each input, type of each scalar output, type of
each grid output, state layout identifier, host input set size. The image's format is not in the spec. -/
opaque modelDecl : List Byte → Nat × List Nat × List Nat × List Nat × Nat × Nat

/-- A point of a lidar's sensor frame in the body frame, under the lidar's calibration (09 R230): the spec names neither the order of
roll, pitch and yaw nor a precision. -/
opaque lidarBody : List Byte → F32 × F32 × F32 → F32 × F32 × F32

/-- A point of the body frame at one instant in the body frame of another, by a pose history of (stamp, angular rates, velocity,
valid) (09 R232); the spec gives no integration rule. -/
opaque bodyMoved : List (Nat × List F32 × List F32 × Bool) → Nat → Nat → F32 × F32 × F32 → F32 × F32 × F32

/-- The pixel column and row at full sensor resolution and the depth in m at which a camera sees a point of the body frame under its
calibration, none for a point that it does not see (09 R230). -/
opaque cameraImage : List Byte → F32 × F32 × F32 → Option (F32 × F32 × F32)

/-- A host input set (09 R237) as a function of what it holds: the step header (t_j, time since the previous step, level, present and
late bitmaps, flag) and the presented inputs; the spec gives it a size and no layout. -/
opaque hostSet : Nat × Nat × Nat × Nat × Nat × Bool → List (Nat × List (List Byte)) → List (Nat × List (Nat × F32 × Nat)) → List Byte

/-- The state code that BODY.STATUS and BODY/STATE report for a service kind and the model's number of its phase: the spec
lists no codes (12 R298, R301). -/
opaque bodyStateCode : Nat → Nat → Nat

/-- Kaulium's fixed settings of the lid fans, which the spec does not list (13 R312): 0 pulses per revolution, 1 PWM frequency
in Hz, 2 stretch interval and 3 stretch maximum in ms, 4 and 5 the run-current window in mA. -/
opaque lidSetting : Nat → Nat

/-- Their resonance bands in % duty (13 R312). -/
opaque lidBands : List (Nat × Nat)

/-- The demand of a fan in table mode that has no table (13 R306). -/
opaque fanNoTable : F32

/-- The fans and tables that a fan-table part of an image holds; the part's format is not in the spec (19, kinds of parts). -/
opaque fanTables : List Byte → List (Nat × List (F32 × F32))

/-- The 8 × 16-pixel font of the park image (14 R322), not in the spec: character, row, column. -/
opaque plateFont : Nat → Nat → Nat → Bool

/-- What stands between two fault codes of the park image (14 R322), as characters. -/
opaque plateSep : List Nat

/-- The VLAN table of a graft set: VLAN ID and bitmap of the member ports, bit 7 the internal port. The manifest names the
table and gives no layout for it (16 R359, 19, partition declaration). -/
opaque vlanTable : Nat → List (Nat × Nat)

/-- The fault code of a retired bough die, which the spec does not state (01 R38, R41, 00 R10): 0 the retirement, 1 a
partition that cannot be placed, 2 the only die. -/
opaque boughFault : Nat → Nat

/-- The records of a settings part as key, version and content; the manifest gives its data no layout (19 R416, R431). -/
opaque settingsPart : List Byte → List (Nat × Nat × List Byte)

/-- The UFS sense code that ATTIC/FAULT carries for a kind of fault (20 R450). -/
opaque senseCode : Nat → Nat

/-- The control point from the phase centre of antenna A, its place in the body frame, and roll, pitch and heading (07 R179):
latitude, longitude, ellipsoidal height. The spec gives no formula of this geodesy. -/
opaque controlPoint : F64 × F64 × F64 → List F32 → F32 → F32 → F32 → F64 × F64 × F64

/-- East, north and up of a point in the local frame of an origin (07 R179). -/
opaque localFrame : F64 × F64 × F64 → F64 × F64 × F64 → F32 × F32 × F32

/-- Of a point, in the plane tangent to the ellipsoid at A: the distance to the right of the line through A with a heading, and
the distance from A (07 R187): latitude and longitude of A, heading, the point. -/
opaque lineFrame : F64 → F64 → F32 → F64 × F64 × F64 → F32 × F32

/-- Course over ground of a velocity east and north (07 R179). -/
opaque course : F32 → F32 → F32

/-- The heading of mode 2 from the course, the ground speed, the heading before and the yaw rate (07 R180). -/
opaque courseHeading : F32 → F32 → F32 → F32 → F32

/-- Dead reckoning over an interval (07 R183): position, velocity and heading at its start, the IMU samples in it, the wheel
speed in m/s, the interval in ns; position, velocity and horizontal accuracy at its end. -/
opaque reckon : F64 × F64 × F64 → List F32 → F32 → List (List F32) → Option F32 → Nat → (F64 × F64 × F64) × List F32 × F32

/-- Horizontal distance of two positions, mm (07 R181, check 5). -/
opaque horizontalMm : F64 × F64 × F64 → F64 × F64 × F64 → Nat

/-- The combined 1 sigma of two horizontal accuracies in m, in mm (07 R181, check 5). -/
opaque combinedMm : F32 → F32 → Nat

/-- A vector turned by the residual roll, pitch and yaw of the mounting (07 R185). -/
opaque residual : List F32 → List F32 → List F32

/-- The correction age shown while no correction has come (07 R179). -/
opaque noCorrAge : F32

/-- The luminance Y8 of a colour pixel's three 12-bit values (08 R208). -/
opaque luma : Nat → Nat → Nat → Nat

/-- A point east and north in the local frame of an origin, as east and north in the plane tangent to the ellipsoid at a Granary file's
origin (10 R249); the spec gives no formula of this geodesy. -/
opaque filePlane : Option (F64 × F64 × F64) → F64 × F64 → Rat × Rat → Rat × Rat

end Sys2Proof.Config
end

