-- ==== Sys2Proof/Machine/Operands.lean ====
section
/-! DEFINITION. Machine/Operands.lean: the fields of payloads, regions, records and headers. Every multi-byte field is
little-endian (00 R508); a field beyond the end of its bytes reads as zero (reserved bytes are never needed). -/

namespace Sys2Proof.Machine

/-- Byte `o` of a string, zero beyond its end. -/
def u8 (p : List Byte) (o : Nat) : Nat := (p.getD o 0).toNat

/-- The u16 field at offset `o` (00 R508). -/
def u16 (p : List Byte) (o : Nat) : Nat := u8 p o + 256 * u8 p (o + 1)

/-- The u32 field at offset `o` (00 R508). -/
def u32 (p : List Byte) (o : Nat) : Nat := u16 p o + 65536 * u16 p (o + 2)

/-- The u64 field at offset `o` (00 R508). -/
def u64 (p : List Byte) (o : Nat) : Nat := u32 p o + 4294967296 * u32 p (o + 4)

/-- Two's-complement reading of an `n`-bit field. -/
def toSigned (n v : Nat) : Int := if v < 2 ^ (n - 1) then v else (v : Int) - (2 ^ n : Nat)

/-- The low `n` bits of an integer in two's complement. -/
def ofSigned (n : Nat) (v : Int) : Nat := (v % (2 ^ n : Nat)).toNat

/-- The signed 8-bit field at offset `o`. -/
def i8 (p : List Byte) (o : Nat) : Int := toSigned 8 (u8 p o)

/-- The signed 16-bit field at offset `o`. -/
def i16 (p : List Byte) (o : Nat) : Int := toSigned 16 (u16 p o)

/-- The signed 32-bit field at offset `o`. -/
def i32 (p : List Byte) (o : Nat) : Int := toSigned 32 (u32 p o)

/-- The signed 64-bit field at offset `o`. -/
def i64 (p : List Byte) (o : Nat) : Int := toSigned 64 (u64 p o)

/-- The fp32 field at offset `o`. -/
def f32 (p : List Byte) (o : Nat) : F32 := BitVec.ofNat 32 (u32 p o)

/-- The fp64 field at offset `o`. -/
def f64 (p : List Byte) (o : Nat) : F64 := BitVec.ofNat 64 (u64 p o)

/-- `n` bytes from offset `o`, padded with zeros. -/
def slice (p : List Byte) (o n : Nat) : List Byte := (List.range n).map (fun i => p.getD (o + i) 0)

/-- `n` consecutive fp32 fields from offset `o`. -/
def f32s (p : List Byte) (o n : Nat) : List F32 := (List.range n).map (fun i => f32 p (o + 4 * i))

/-- `n` consecutive u16 fields from offset `o`. -/
def u16s (p : List Byte) (o n : Nat) : List Nat := (List.range n).map (fun i => u16 p (o + 2 * i))

/-- The `n` little-endian bytes of a number (00 R508). -/
def leB : Nat → Nat → List Byte
  | 0, _ => []
  | n + 1, v => BitVec.ofNat 8 v :: leB n (v / 256)

/-- One byte. -/
def b8 (v : Nat) : List Byte := leB 1 v
/-- A u16 field. -/
def b16 (v : Nat) : List Byte := leB 2 v
/-- A u32 field. -/
def b32 (v : Nat) : List Byte := leB 4 v
/-- A u64 field. -/
def b64 (v : Nat) : List Byte := leB 8 v
/-- An fp32 field. -/
def bF (v : F32) : List Byte := leB 4 v.toNat
/-- An fp64 field. -/
def bD (v : F64) : List Byte := leB 8 v.toNat
/-- A signed 32-bit field. -/
def bI32 (v : Int) : List Byte := leB 4 (ofSigned 32 v)
/-- `n` zero bytes. -/
def zeros (n : Nat) : List Byte := List.replicate n 0

/-- Bit `i` of a number. -/
def bit (v i : Nat) : Bool := v.testBit i

/-- Bits [hi:lo] of a number. -/
def bits (v hi lo : Nat) : Nat := v / 2 ^ lo % 2 ^ (hi + 1 - lo)

/-- 1 for true. -/
def b2n (b : Bool) : Nat := if b then 1 else 0

/-- The set of bits of the members of a list. -/
def bitSet (l : List Nat) : Nat := l.foldl (fun a i => a ||| 2 ^ i) 0

/-- Word `v` with bit `i` set or cleared. -/
def setBit (v i : Nat) (b : Bool) : Nat := if b then v ||| 2 ^ i else if v.testBit i then v - 2 ^ i else v

/-- `v` without the bits of `m`. -/
def clearBits (v m : Nat) : Nat := v - (v &&& m)

/-- Addition that stops at the largest `n`-bit value. -/
def satAdd (n a b : Nat) : Nat := min (a + b) (2 ^ n - 1)

/-- A list with the value at index `i` replaced, padded with `d` when it is shorter. -/
def listSet {α : Type} (d : α) : List α → Nat → α → List α
  | [], 0, v => [v]
  | [], i + 1, v => d :: listSet d [] i v
  | _ :: l, 0, v => v :: l
  | x :: l, i + 1, v => x :: listSet d l i v

/-- Bytes written over a string at an offset no later than its end, extending it when needed. -/
def overwrite (old : List Byte) (ofs : Nat) (new : List Byte) : List Byte :=
  old.take ofs ++ new ++ old.drop (ofs + new.length)

end Sys2Proof.Machine
end

