-- ==== Sys2Proof/Machine/Crc.lean ====
section
/-! DEFINITION. Machine/Crc.lean: the checks the spec names: CRC-32 of IEEE 802.3 (18 R399, 20 R444), the Root link CRC
(18 R407), and SHA-256 with HMAC (19 R415, 20 R448). -/

namespace Sys2Proof.Machine

/-- One bit step of the reflected CRC-32. -/
def crc32Bit (c : Nat) : Nat := if c % 2 = 1 then (c / 2) ^^^ 0xEDB88320 else c / 2

/-- CRC-32 (IEEE 802.3) of a string: reflected, register and result inverted. -/
def crc32 (p : List Byte) : Nat :=
  (p.foldl (fun c b => (List.range 8).foldl (fun c _ => crc32Bit c) (c ^^^ b.toNat)) 0xFFFFFFFF) ^^^ 0xFFFFFFFF

/-- One bit step of the Root link CRC, MSB first (18 R407). -/
def linkCrcBit (c : Nat) : Nat :=
  if c.testBit 31 then ((c * 2) % 4294967296) ^^^ 0x1EDC6F41 else (c * 2) % 4294967296

/-- The Root link CRC of a string, the register seeded with the connection ID (18 R407). -/
def linkCrc (conn : Nat) (p : List Byte) : Nat :=
  p.foldl (fun c b => (List.range 8).foldl (fun c _ => linkCrcBit c) (c ^^^ (b.toNat * 16777216))) (conn % 4294967296)

/-- The integer `k`-th root of `n`, found bit by bit from `2 ^ bits` down. -/
def rootOf (k n : Nat) : Nat → Nat → Nat
  | 0, r => r
  | bits + 1, r => rootOf k n bits (if (r + 2 ^ bits) ^ k ≤ n then r + 2 ^ bits else r)

/-- The primes below 312, which are the first 64. -/
def smallPrimes : List Nat := (List.range 312).filter (fun n => decide (n > 1) && (List.range 18).all (fun d => decide (d < 2) || n == d || n % d != 0))

/-- The first 32 bits of the fractional part of a prime's `k`-th root, by which SHA-256 defines its constants: cube roots for
the rounds, square roots for the initial words. -/
def rootWord (k p : Nat) : BitVec 32 := BitVec.ofNat 32 (rootOf k (p * 2 ^ (32 * k)) 37 0)

/-- The round constants of SHA-256. -/
def shaK : List (BitVec 32) := smallPrimes.map (rootWord 3)

/-- The exclusive or of a word's right rotations. -/
def spins (x : BitVec 32) (l : List Nat) : BitVec 32 := l.foldl (fun a n => a ^^^ x.rotateRight n) 0

/-- What a SHA-256 round carries: the eight working words, newest of each half first, and the schedule's last sixteen words,
oldest first. -/
structure ShaRun where
  lo : List (BitVec 32)
  hi : List (BitVec 32)
  win : List (BitVec 32)

/-- The choice of the second half's words, and the majority of the first half's. -/
def shaPick (l : List (BitVec 32)) (major : Bool) : BitVec 32 :=
  let x := l.headD 0
  let y := (l.drop 1).headD 0
  let z := (l.drop 2).headD 0
  if major then ((x ||| y) &&& z) ||| (x &&& y) else z ^^^ (x &&& (y ^^^ z))

/-- One SHA-256 round with its constant; the schedule's window moves on by one word. -/
def ShaRun.turn (r : ShaRun) (k : BitVec 32) : ShaRun :=
  let at' := fun (n : Nat) => (r.win.drop n).headD 0
  let fresh := at' 0 + at' 9 + (spins (at' 1) [7, 18] ^^^ (at' 1 >>> 3)) + (spins (at' 14) [17, 19] ^^^ (at' 14 >>> 10))
  let add := (r.hi.drop 3).headD 0 + spins (r.hi.headD 0) [6, 11, 25] + shaPick r.hi false + (k + at' 0)
  { lo := (add + spins (r.lo.headD 0) [2, 13, 22] + shaPick r.lo true) :: r.lo.take 3,
    hi := ((r.lo.drop 3).headD 0 + add) :: r.hi.take 3,
    win := r.win.drop 1 ++ [fresh] }

/-- A word of four bytes, the first the highest. -/
def wordBE (p : List Byte) : BitVec 32 := BitVec.ofNat 32 (p.foldl (fun a b => 256 * a + b.toNat) 0)

/-- SHA-256 over whole blocks of 64 bytes, `n` of them, from the eight words `h`. -/
def shaOver (ks : List (BitVec 32)) : Nat → List Byte → List (BitVec 32) → List (BitVec 32)
  | 0, _, h => h
  | n + 1, p, h =>
    let e := ks.foldl ShaRun.turn { lo := h.take 4, hi := h.drop 4, win := (List.range 16).map (fun i => wordBE (slice p (4 * i) 4)) }
    shaOver ks n (p.drop 64) (List.zipWith (· + ·) h (e.lo ++ e.hi))

/-- SHA-256 of a string: the bytes, a set bit, zeros, and the length in bits, in whole blocks. -/
def sha256 (p : List Byte) : List Byte :=
  let blocks := (p.length + 72) / 64
  let whole := p ++ 0x80 :: zeros (64 * blocks - 9 - p.length) ++ (b64 (8 * p.length)).reverse
  (shaOver shaK blocks whole ((smallPrimes.take 8).map (rootWord 2))).flatMap (fun x => (b32 x.toNat).reverse)

/-- HMAC-SHA-256 with a key of at most 64 bytes. -/
def hmacSha256 (key msg : List Byte) : List Byte :=
  let k := key ++ zeros (64 - key.length)
  sha256 (k.map (fun b => b ^^^ 0x5c) ++ sha256 (k.map (fun b => b ^^^ 0x36) ++ msg))

end Sys2Proof.Machine
end

