-- ==== Sys2Proof/Machine/Fp32.lean ====
section
/-! DEFINITION. Machine/Fp32.lean: IEEE 754 arithmetic on binary32 and binary64 words (00 R508), rounding to nearest, ties
to even (05 R126 names the mode for the control engine; elsewhere DESIGN CHOICE, log entry 6). Every operation is computed
exactly on integers and rounded once. A NaN result is the quiet NaN 0x7FC0_0000 (DESIGN CHOICE, log entry 6). -/

namespace Sys2Proof.Machine

/-- A decoded floating value: not a number, infinite, or `(-1)^neg · m · 2^e`. -/
inductive Fp where
  | nan
  | inf (neg : Bool)
  | fin (neg : Bool) (m : Nat) (e : Int)
  deriving DecidableEq, Repr

/-- Decode a word with `eb` exponent bits and `mb` fraction bits. -/
def fpDecode (eb mb w : Nat) : Fp :=
  let neg := w.testBit (eb + mb)
  let ex := w / 2 ^ mb % 2 ^ eb
  let fr := w % 2 ^ mb
  let bias : Int := (2 ^ (eb - 1) - 1 : Nat)
  if ex = 2 ^ eb - 1 then (if fr = 0 then .inf neg else .nan)
  else if ex = 0 then .fin neg fr (1 - bias - mb)
  else .fin neg (fr + 2 ^ mb) (ex - bias - mb)

/-- Shift right by `k` bits, rounding to nearest, ties to even; `sticky` says that value was lost below. -/
def rneShift (m k : Nat) (sticky : Bool) : Nat :=
  if k = 0 then m
  else
    let q := m / 2 ^ k
    let r := m % 2 ^ k
    let half := 2 ^ (k - 1)
    if r > half ∨ (r = half ∧ (sticky ∨ q % 2 = 1)) then q + 1 else q

/-- Round `(-1)^neg · m · 2^e` (plus something below when `sticky`) to a word. -/
def fpEncode (eb mb : Nat) (neg : Bool) (m : Nat) (e : Int) (sticky : Bool) : Nat :=
  let sgn := if neg then 2 ^ (eb + mb) else 0
  let bias : Int := (2 ^ (eb - 1) - 1 : Nat)
  let emin : Int := 1 - bias - mb
  if m = 0 then sgn
  else
    let len : Int := (Nat.log2 m : Int) + 1
    -- exponent of the unit in the last place of the result
    let q : Int := max emin (e + len - (mb + 1))
    let k : Int := q - e
    let v := if k ≤ 0 then m * 2 ^ (-k).toNat else rneShift m k.toNat sticky
    -- v < 2^(mb+1) or exactly 2^(mb+1) after rounding up
    let (v, q) := if v = 2 ^ (mb + 1) then (2 ^ mb, q + 1) else (v, q)
    if v < 2 ^ mb then sgn + v
    else
      let be : Int := q + mb + bias
      if be ≥ (2 ^ eb - 1 : Nat) then sgn + (2 ^ eb - 1) * 2 ^ mb
      else sgn + be.toNat * 2 ^ mb + (v - 2 ^ mb)

/-- Encode a decoded value. -/
def fpWord (eb mb : Nat) : Fp → Nat
  | .nan => (2 ^ eb - 1) * 2 ^ mb + 2 ^ (mb - 1)
  | .inf neg => (if neg then 2 ^ (eb + mb) else 0) + (2 ^ eb - 1) * 2 ^ mb
  | .fin neg m e => fpEncode eb mb neg m e false

/-- Exact sum of two decoded values. A zero sum of opposite signs is +0. -/
def fpAdd : Fp → Fp → Fp
  | .nan, _ => .nan
  | _, .nan => .nan
  | .inf a, .inf b => if a = b then .inf a else .nan
  | .inf a, _ => .inf a
  | _, .inf b => .inf b
  | .fin na ma ea, .fin nb mb eb =>
    if ma = 0 ∧ mb = 0 then .fin (na && nb) 0 0
    else
      let e := min ea eb
      let a : Int := (if na then -1 else 1) * (ma * 2 ^ (ea - e).toNat : Nat)
      let b : Int := (if nb then -1 else 1) * (mb * 2 ^ (eb - e).toNat : Nat)
      let c := a + b
      .fin (c < 0) c.natAbs e

/-- Sign change. -/
def fpNeg : Fp → Fp
  | .nan => .nan
  | .inf n => .inf (!n)
  | .fin n m e => .fin (!n) m e

/-- Exact product of two decoded values. -/
def fpMul : Fp → Fp → Fp
  | .nan, _ => .nan
  | _, .nan => .nan
  | .inf a, .inf b => .inf (a != b)
  | .inf a, .fin b m _ => if m = 0 then .nan else .inf (a != b)
  | .fin a m _, .inf b => if m = 0 then .nan else .inf (a != b)
  | .fin na ma ea, .fin nb mb eb => .fin (na != nb) (ma * mb) (ea + eb)

/-- Quotient rounded to a word. -/
def fpDivWord (eb mb : Nat) : Fp → Fp → Nat
  | .nan, _ => fpWord eb mb .nan
  | _, .nan => fpWord eb mb .nan
  | .inf _, .inf _ => fpWord eb mb .nan
  | .inf a, .fin b _ _ => fpWord eb mb (.inf (a != b))
  | .fin a _ _, .inf b => fpWord eb mb (.fin (a != b) 0 0)
  | .fin na ma ea, .fin nb mb' eb' =>
    if mb' = 0 then (if ma = 0 then fpWord eb mb .nan else fpWord eb mb (.inf (na != nb)))
    else if ma = 0 then fpWord eb mb (.fin (na != nb) 0 0)
    else
      let sh := Nat.log2 mb' + mb + 4
      let n := ma * 2 ^ sh
      fpEncode eb mb (na != nb) (2 * (n / mb') + (if n % mb' = 0 then 0 else 1)) (ea - eb' - sh - 1) false

/-- Three-way comparison: none when a NaN takes part. -/
def fpCmp : Fp → Fp → Option Ordering
  | .nan, _ => none
  | _, .nan => none
  | .inf a, .inf b => some (if a = b then .eq else if a then .lt else .gt)
  | .inf a, _ => some (if a then .lt else .gt)
  | _, .inf b => some (if b then .gt else .lt)
  | .fin na ma ea, .fin nb mb eb =>
    let e := min ea eb
    let a : Int := (if na then -1 else 1) * (ma * 2 ^ (ea - e).toNat : Nat)
    let b : Int := (if nb then -1 else 1) * (mb * 2 ^ (eb - e).toNat : Nat)
    some (compare a b)

/-- Decode a binary32 word. -/
def fD (w : F32) : Fp := fpDecode 8 23 w.toNat
/-- The binary32 word of a decoded value, rounded. -/
def fE (x : Fp) : F32 := BitVec.ofNat 32 (fpWord 8 23 x)
/-- Decode a binary64 word. -/
def dD (w : F64) : Fp := fpDecode 11 52 w.toNat
/-- The binary64 word of a decoded value, rounded. -/
def dE (x : Fp) : F64 := BitVec.ofNat 64 (fpWord 11 52 x)

/-- Sum. -/
def fAdd (a b : F32) : F32 := fE (fpAdd (fD a) (fD b))
/-- Sign change (a NaN becomes the quiet NaN). -/
def fNeg (a : F32) : F32 := fE (fpNeg (fD a))
/-- Difference. -/
def fSub (a b : F32) : F32 := fE (fpAdd (fD a) (fpNeg (fD b)))
/-- Product. -/
def fMul (a b : F32) : F32 := fE (fpMul (fD a) (fD b))
/-- Fused multiply-add `a·b + c`, one rounding. -/
def fFma (a b c : F32) : F32 := fE (fpAdd (fpMul (fD a) (fD b)) (fD c))
/-- Quotient. -/
def fDiv (a b : F32) : F32 := BitVec.ofNat 32 (fpDivWord 8 23 (fD a) (fD b))
/-- `a < b`; false with a NaN. -/
def fLt (a b : F32) : Bool := fpCmp (fD a) (fD b) = some .lt
/-- `a ≤ b`; false with a NaN. -/
def fLe (a b : F32) : Bool := fpCmp (fD a) (fD b) = some .lt || fpCmp (fD a) (fD b) = some .eq
/-- Equal as numbers; false with a NaN. -/
def fEq (a b : F32) : Bool := fpCmp (fD a) (fD b) = some .eq
/-- Neither infinite nor a NaN. -/
def fFinite (a : F32) : Bool := match fD a with | .fin _ _ _ => true | _ => false
/-- A NaN. -/
def fIsNan (a : F32) : Bool := match fD a with | .nan => true | _ => false
/-- Magnitude. -/
def fAbs (a : F32) : F32 := match fD a with | .nan => fE .nan | .inf _ => fE (.inf false) | .fin _ m e => fE (.fin false m e)
/-- The smaller; the other when one is a NaN. -/
def fMin (a b : F32) : F32 := if fIsNan a then b else if fLt b a then b else a
/-- The larger; the other when one is a NaN. -/
def fMax (a b : F32) : F32 := if fIsNan a then b else if fLt a b then b else a
/-- The binary32 nearest to an integer. -/
def fInt (v : Int) : F32 := fE (.fin (v < 0) v.natAbs 0)
/-- The binary32 nearest to a natural number. -/
def fNat (v : Nat) : F32 := fE (.fin false v 0)
/-- The binary32 nearest to the fraction `n / d` (`d` positive). -/
def fFrac (n : Int) (d : Nat) : F32 := BitVec.ofNat 32 (fpDivWord 8 23 (.fin (n < 0) n.natAbs 0) (.fin false d 0))
/-- +0. -/
def fZero : F32 := 0
/-- 1.0. -/
def fOne : F32 := 0x3F800000
/-- The quiet NaN. -/
def fNaN : F32 := 0x7FC00000

/-- The integer part of a finite value times a positive scale, rounded toward minus infinity; 0 otherwise. -/
def fFloor (a : F32) (scale : Nat := 1) : Int :=
  match fD a with
  | .fin n m e =>
    let v : Int := (if n then -1 else 1) * (m * scale : Nat)
    if e ≥ 0 then v * (2 ^ e.toNat : Nat) else v / (2 ^ (-e).toNat : Nat)
  | _ => 0

/-- A finite value times a positive scale, rounded to the nearest integer, halves away from zero; 0 otherwise. -/
def fRound (a : F32) (scale : Nat := 1) : Int :=
  match fD a with
  | .fin n m e =>
    let v : Nat := m * scale
    let r := if e ≥ 0 then v * 2 ^ e.toNat else (2 * v + 2 ^ (-e).toNat) / (2 * 2 ^ (-e).toNat)
    if n then -(r : Int) else r
  | _ => 0

/-- Sum of a list from the left, starting at +0. -/
def fSum (l : List F32) : F32 := l.foldl fAdd fZero

/-- Binary64 sum. -/
def dAdd (a b : F64) : F64 := dE (fpAdd (dD a) (dD b))
/-- Binary64 difference. -/
def dSub (a b : F64) : F64 := dE (fpAdd (dD a) (fpNeg (dD b)))
/-- `a ≤ b` on binary64. -/
def dLe (a b : F64) : Bool := fpCmp (dD a) (dD b) = some .lt || fpCmp (dD a) (dD b) = some .eq
/-- Finite binary64. -/
def dFinite (a : F64) : Bool := match dD a with | .fin _ _ _ => true | _ => false
/-- A binary64 rounded to binary32. -/
def dToF (a : F64) : F32 := fE (dD a)
/-- The binary64 nearest to an integer. -/
def dInt (v : Int) : F64 := dE (.fin (v < 0) v.natAbs 0)

end Sys2Proof.Machine
end

