-- ==== Sys2Proof/Machine/Flags.lean ====
section
/-! DEFINITION. Machine/Flags.lean: the validity field of a signal (03 R83) and the fault-management words built from codes. -/

namespace Sys2Proof.Machine

/-- VALID: the value may be used. -/
def fgValid : Nat := 1
/-- STALE: not refreshed within its stated period. -/
def fgStale : Nat := 2
/-- RANGE: clamped at the limit of its range. -/
def fgRange : Nat := 4
/-- FAULT: a diagnosed fault. -/
def fgFault : Nat := 8
/-- HELD: held under a hold-last count. -/
def fgHeld : Nat := 16
/-- SUBST: a substitute. -/
def fgSubst : Nat := 32

/-- A validity field from its bits. -/
def flagsOf (valid stale range fault held subst : Bool) : Nat :=
  (if valid then 1 else 0) + (if stale then 2 else 0) + (if range then 4 else 0) + (if fault then 8 else 0) +
  (if held then 16 else 0) + (if subst then 32 else 0)

/-- Clamp a value into [lo, hi] and say whether it was clamped. -/
def clampF (v lo hi : F32) : F32 × Bool :=
  if fLt v lo then (lo, true) else if fLt hi v then (hi, true) else (v, false)

/-- The fault word: code [15:0], severity [23:16], unit [31:24] (03 R97, P0 of FAULT/RAISED). -/
def faultWord (code sev unit : Nat) : Nat := code + 65536 * sev + 16777216 * unit

end Sys2Proof.Machine
end

