-- ==== Sys2Proof/Machine/State.lean ====
section
/-! DEFINITION. Machine/State.lean: the state of the module as plain data, one structure per unit, and the state at
reset. Each field's docstring names the spec file and rule that gives it. Per-instance data stands in a `Tab`: a sparse
table in canonical form whose unlisted keys read as the default of their type (that type's `reset`). -/

namespace Sys2Proof.Machine

/-- The machine stops with a fault. The spec describes no state in which the block stops without an effect (errors are
replies, events, latches and power-downs, all of them next states), so no command raises one: the type has no constructor. -/
inductive Fault
  deriving DecidableEq, Repr

/-- Reasons for which a command is turned away by the model. -/
inductive Refusal where
  /-- Raised only by an arm of `exec` whose command has no meaning in this model yet. Safe: nothing can be proved of it. -/
  | notModelled (mnemonic : String)
  deriving DecidableEq, Repr

/-- Part variants (00 R1). -/
inductive Variant where
  | zq2n | zq2 | zq4 | zq8
  deriving DecidableEq, Repr

/-- Housings (00 R2). -/
inductive Housing where
  | none | l | p
  deriving DecidableEq, Repr

/-- Run state of a Canopy partition (01 R24, R38). -/
inductive PartState where
  | stopped | running | paused | unplaced
  deriving DecidableEq, Repr

/-- Phase of a unit: powered down, running, restarting, in a graft handover (02 R63). -/
inductive UnitPhase where
  | off | running | restarting | handover
  deriving DecidableEq, Repr

/-- Phase of the Root processor (18 ROOT.STATUS); `off` while the trunk is off. -/
inductive RootPhase where
  | off | starting | running | stopped | pause
  deriving DecidableEq, Repr

/-- Power states of 01 R30 with the sub-states POWER.STATUS names, the TEST state of 23 R502, and `reset`: the trunk
die in a monitor's reset or powered down by a supply loss, the Cellar on (18 R396, 21 R455). -/
inductive PowState where
  | off | deep | selective | guard | shutdown | keeper | run | ending | parking | test | reset
  deriving DecidableEq, Repr


/-- The part as manufactured (R1-R3): fixed while the module runs -/
structure Part where
  /-- variant; the spec has four, reset takes ZQ-4 (00_scope R1,R3). DESIGN CHOICE reset. -/
  variant : Variant := .zq4
  /-- housing; ZQ-4 is supplied only as -L or -P (00_scope R2,R3). DESIGN CHOICE reset. -/
  housing : Housing := .l
  /-- module serial number (02 R43). DESIGN CHOICE reset. -/
  serial : Nat := 1
  deriving DecidableEq, Repr

/-- Part at reset. -/
def Part.reset : Part := {}

/-- One entry of a reply ring (02 R50-R52) -/
structure Reply where
  /-- copied (02 R52). -/
  unit : Nat := 0
  /-- copied (02 R52). -/
  verb : Nat := 0
  /-- copied (02 R52). -/
  tag : Nat := 0
  /-- instance the command addressed; not a field of the slot (02 R63). The model's own. -/
  inst : Nat := 0
  /-- bit 0 DEMOTED, 1 WAS_HELD, 2 REPLAYED (02 R52). -/
  rflags : Nat := 0
  /-- generation at the reply (02 R51). -/
  gen : Nat := 0
  /-- status code (02 R53). -/
  status : Nat := 0
  /-- Heartwood us low word when decided (02 R56). -/
  doneAt : Nat := 0
  /-- reply payload (02 R52). -/
  payload : List Byte := []
  deriving DecidableEq, Repr

/-- Reply at reset. -/
def Reply.reset : Reply := {}

/-- One entry of an event ring (03 R89) -/
structure Event where
  /-- bit 0 REPOSTED (03 R89). -/
  eflags : Nat := 0
  /-- event source (03 R88). -/
  source : Nat := 0
  /-- event code (03 R89). -/
  code : Nat := 0
  /-- sequence number (03 R89). -/
  seq : Nat := 0
  /-- Heartwood (03 R89). -/
  stamp : Nat := 0
  /-- parameter (03 R89). -/
  p0 : Nat := 0
  /-- parameter (03 R89). -/
  p1 : Nat := 0
  /-- parameter (03 R89). -/
  p2 : Nat := 0
  /-- parameter (03 R89). -/
  p3 : Nat := 0
  deriving DecidableEq, Repr

/-- Event at reset. -/
def Event.reset : Event := {}

/-- One store-room region and its bulk descriptor (R72) -/
structure Region where
  /-- the descriptor is filled (02 R72). -/
  present : Bool := false
  /-- BASE (02 R72). -/
  base : Nat := 0
  /-- SIZE (02 R72). -/
  size : Nat := 0
  /-- INUSE (02 R72). -/
  inuse : Bool := false
  /-- DIR (02 R72). -/
  dir : Bool := false
  /-- FILL (02 R72). -/
  fill : Nat := 0
  /-- TAG (02 R72). -/
  tag : Nat := 0
  /-- COUNT (02 R72). -/
  count : Nat := 0
  /-- the DRAM bytes of the region, sparse; power-on DRAM content is not stated (02 R72). DESIGN CHOICE reset. -/
  bytes : Tab Byte := []
  deriving DecidableEq, Repr

/-- Region at reset. -/
def Region.reset : Region := {}

/-- A held command (R64) -/
structure Held where
  /-- the command (02 R64). -/
  req : Req := Req.reset
  /-- Heartwood of its HELD reply (02 R64). -/
  heldAt : Nat := 0
  deriving DecidableEq, Repr

/-- Held at reset. -/
def Held.reset : Held := {}

/-- A command executed since the last checkpoint, with its reply (R39) -/
structure Recorded where
  /-- the command (01 R39). -/
  req : Req := Req.reset
  /-- its reply (01 R39). -/
  reply : Reply := Reply.reset
  deriving DecidableEq, Repr

/-- Recorded at reset. -/
def Recorded.reset : Recorded := {}

/-- Unit permission entry (R61) -/
structure PermEntry where
  /-- unit number (02 R61). -/
  unit : Nat := 0
  /-- CONTROL, else OBSERVE (02 R61). -/
  control : Bool := false
  /-- instance ranges (02 R61). -/
  ranges : List (Nat × Nat) := []
  deriving DecidableEq, Repr

/-- PermEntry at reset. -/
def PermEntry.reset : PermEntry := {}

/-- A Canopy partition as the manifest declares it -/
structure PartDecl where
  /-- declared (01 R24). -/
  declared : Bool := false
  /-- window base (02 R42). -/
  base : Nat := 0
  /-- cores of the partition (01 R24). -/
  cores : List Nat := []
  /-- failover core count (01 R24). -/
  failover : Nat := 1
  /-- interrupt declared (02 R49). -/
  irq : Nat := 0
  /-- unit permission table (02 R61). -/
  units : List PermEntry := []
  /-- signal read ranges (02 R62). -/
  reads : List (Nat × Nat) := []
  /-- owned signal ranges (01 R26). -/
  owns : List (Nat × Nat) := []
  /-- base and size in bytes of each region (02 R72, 19 R417). -/
  regions : List (Nat × Nat) := []
  /-- first Pantry index (15 R328). -/
  pantryFirst : Nat := 0
  /-- Pantry entries (15 R328). -/
  pantryCount : Nat := 0
  /-- VLAN membership, bit per entry of the set's VLAN table (16 R359). -/
  vlans : Nat := 0
  deriving DecidableEq, Repr

/-- PartDecl at reset. -/
def PartDecl.reset : PartDecl := {}

/-- One Keeper window (02) -/
structure Window where
  /-- the partition runs, its window is live (02 R42). -/
  running : Bool := false
  /-- CMD_PROD (02 R48). -/
  cmdProd : Nat := 0
  /-- CMD_CONS (02 R48). -/
  cmdCons : Nat := 0
  /-- RPL_PROD (02 R48). -/
  rplProd : Nat := 0
  /-- RPL_CONS (02 R48). -/
  rplCons : Nat := 0
  /-- EVT_PROD (02 R48). -/
  evtProd : Nat := 0
  /-- EVT_CONS (02 R48). -/
  evtCons : Nat := 0
  /-- EVT_LOST (02 R48). -/
  evtLost : Nat := 0
  /-- IRQ_CTRL; EVT_THR resets to 1 (02 R48). -/
  irqCtrl : Nat := 256
  /-- IRQ_STATUS.LOST (02 R48). -/
  irqLost : Bool := false
  /-- IRQ_STATUS.RPL (02 R48). -/
  irqRpl : Bool := false
  /-- IRQ_STATUS.EVT (02 R48). -/
  irqEvt : Bool := false
  /-- Heartwood, plus 1, at which a reply was last posted (02 R49). The model's own. -/
  rplAt : Nat := 0
  /-- Heartwood, plus 1, at which EVT_LOST last increased (02 R49). The model's own. -/
  lostAt : Nat := 0
  /-- HOST_HB (02 R48). -/
  hostHb : Nat := 0
  /-- Heartwood of its last change (02 R50). -/
  hostHbAt : Nat := 0
  /-- HW_HI (03 R81). -/
  hwHi : Nat := 0
  /-- SNAP_LO (03 R81). -/
  snapLo : Nat := 0
  /-- SNAP_HI (03 R81). -/
  snapHi : Nat := 0
  /-- next SEQ (03 R89). -/
  seq : Nat := 0
  /-- event subscription, bit per source (03 R91). -/
  mask : Nat := 0
  /-- command ring bytes by window offset (02 R42). DESIGN CHOICE reset. -/
  cmdRing : Tab Byte := []
  /-- the last 64 replies posted, oldest first (02 R42). -/
  rplRing : List Reply := []
  /-- the last 256 events posted, oldest first (02 R42). -/
  evtRing : List Event := []
  /-- events dropped since the ring was last full, for EVENTS_LOST (02 R69). -/
  evtDropped : Nat := 0
  /-- us low word of the first drop (02 R69). -/
  evtDropAt : Nat := 0
  /-- replies decided, waiting for a free slot (02 R56). -/
  outbox : List Reply := []
  /-- held commands in ring order (02 R64). -/
  held : List Held := []
  /-- consumed commands not yet started (ORDERED) (02 R58). -/
  waiting : List Req := []
  /-- executing commands whose reply comes at the end, with WAS_HELD (08 R200). -/
  later : List (Req × Bool) := []
  /-- bulk descriptors and their regions (02 R72). -/
  regions : Tab Region := []
  /-- commands executed since the last checkpoint (01 R39). -/
  record : List Recorded := []
  /-- records to match after a restoration (01 R39). -/
  replay : List Recorded := []
  /-- events posted since the last checkpoint (01 R39). -/
  posted : List Event := []
  deriving DecidableEq, Repr

/-- Window at reset. -/
def Window.reset : Window := {}

/-- A partition's checkpoint (R35); core state and memory are the partition's own -/
structure Ckpt where
  /-- taken (01 R35). -/
  taken : Bool := false
  /-- Heartwood (01 R35). -/
  takenAt : Nat := 0
  /-- the window (01 R35). -/
  win : Window := Window.reset
  deriving DecidableEq, Repr

/-- Ckpt at reset. -/
def Ckpt.reset : Ckpt := {}

/-- Run state of one Canopy partition -/
structure Partition where
  /-- stopped, running, paused, unplaced (01 R24). -/
  state : PartState := .stopped
  /-- cores held now (01 R38). -/
  cores : List Nat := []
  /-- last checkpoint (01 R35). -/
  ckpt : Ckpt := Ckpt.reset
  deriving DecidableEq, Repr

/-- Partition at reset. -/
def Partition.reset : Partition := {}

/-- One unit (or Crown unit) as Keeper runs it -/
structure UnitSt where
  /-- VALID bit (02 R44). -/
  valid : Bool := false
  /-- generation, zero before the first start after OFF (02 R46). -/
  gen : Nat := 0
  /-- off (powered down), running, restarting, handover (02 R63). -/
  phase : UnitPhase := .off
  /-- Heartwood when VALID was cleared (02 R47). -/
  clearedAt : Nat := 0
  /-- cause of the stop, for UNIT_RESTART (02 R71). -/
  cause : Nat := 0
  /-- clock ungated (01 R19). -/
  ungated : Bool := false
  /-- the unit has started since OFF (02 R46). The model's own. -/
  started : Bool := false
  deriving DecidableEq, Repr

/-- UnitSt at reset. -/
def UnitSt.reset : UnitSt := {}

/-- Host-assisted mode of one function (R70, R71) -/
structure HostFn where
  /-- host-assisted (02 R70). -/
  host : Bool := false
  /-- PART_ID that holds it (02 R70). -/
  owner : Nat := 0
  /-- hold-last count H, default 2 (02 R70). -/
  holdLast : Nat := 2
  /-- mode that the next boundary brings (02 R70). -/
  pending : Option Bool := none
  /-- that boundary (02 R70). -/
  pendingAt : Nat := 0
  /-- consecutive misses (02 R71). -/
  misses : Nat := 0
  /-- safe action applies (02 R71). -/
  inSafe : Bool := false
  /-- consecutive on-time results in safe action (02 R71). -/
  onTime : Nat := 0
  /-- periods spent in safe action (02 R71). -/
  safePeriods : Nat := 0
  /-- period number last issued (02 R71). -/
  k : Nat := 0
  /-- its sample instant (02 R71). -/
  tk : Nat := 0
  /-- the result of period k has arrived or its miss has been judged (02 R71). -/
  got : Bool := true
  /-- the result of the period before is still awaited (D beyond one period) (02 R71). -/
  prev : Bool := false
  /-- its sample instant (02 R71). -/
  ptk : Nat := 0
  /-- signals of a LOSS instance written for the present block (04 R120). -/
  part : Nat := 0
  /-- the same for the block before (04 R120). -/
  ppart : Nat := 0
  /-- results of a LOSS instance that arrived alone in the safe action: sample instant, signal, validity, value (04 R120). -/
  early : List (Nat × Nat × Nat × F32) := []
  /-- deadline D of the function after its sample instant (02 R71). -/
  d : Nat := 0
  /-- that of the period before (02 R71). -/
  pd : Nat := 0
  /-- its period (02 R70). -/
  period : Nat := 0
  deriving DecidableEq, Repr

/-- HostFn at reset. -/
def HostFn.reset : HostFn := {}

/-- A happening of the Keeper pause (R67) -/
structure Deferred where
  /-- unit (02 R67). -/
  unit : Nat := 0
  /-- instance (02 R67). -/
  inst : Nat := 0
  /-- event (02 R67). -/
  ev : Event := {}
  /-- window that it goes to whatever its rights and mask (02 R55). -/
  cmd : Option Nat := none
  /-- to that window alone, to every one if it names none (02 R57). -/
  only : Bool := false
  deriving DecidableEq, Repr

/-- Deferred at reset. -/
def Deferred.reset : Deferred := {}

/-- A die-level failover in progress: its pause is an interval (R38, R40) -/
structure Failover where
  /-- the retired die (01 R38). -/
  die : Nat := 0
  /-- the partitions placed, paused until its end (01 R38). -/
  parts : List Nat := []
  /-- Heartwood of the checkpoint that they are restored from (01 R38). -/
  ckptAt : Nat := 0
  /-- Heartwood of the detection (01 R38). -/
  startAt : Nat := 0
  /-- the pause, us, at most 50,000 (01 R38). -/
  pause : Nat := 0
  deriving DecidableEq, Repr

/-- Failover at reset. -/
def Failover.reset : Failover := {}

/-- Keeper and its windows -/
structure Keeper where
  /-- windows by PART_ID (02 R42). -/
  windows : Tab Window := []
  /-- units by unit number (02 R44). -/
  units : Tab UnitSt := []
  /-- Crown units (02 R45). -/
  crowns : Tab UnitSt := []
  /-- reflex cycle of the last CROWN slot increment (02 R45). The model's own. -/
  crownInc : Nat := 0
  /-- host functions by unit*2^24+function*2^16+instance (02 R70). -/
  hostFns : Tab HostFn := []
  /-- by Canopy number (01 R24). -/
  partitions : Tab Partition := []
  /-- declarations in force by PART_ID, from the active graft set (19 R417). -/
  decls : Tab PartDecl := []
  /-- DRAM bytes each partition declares, by PART_ID (19 R417). -/
  memory : Tab Nat := []
  /-- graft core (01 R25). -/
  graftCore : Option Nat := none
  /-- happenings of the Keeper pause (02 R67). -/
  deferred : List Deferred := []
  /-- Keeper activation pause (02 R67). -/
  paused : Bool := false
  /-- its latch (02 R67). -/
  pausedAt : Nat := 0
  /-- retired bough dies (01 R36). -/
  retired : List Nat := []
  /-- correctable ECC errors counted, by bough die (01 R36). -/
  eccCount : Tab Nat := []
  /-- die-level failovers in progress, oldest first (01 R38). -/
  failovers : List Failover := []
  /-- VER_KEEPER (02 R47). DESIGN CHOICE reset. -/
  verKeeper : Nat := 0
  /-- VER_ROOT (02 R47). DESIGN CHOICE reset. -/
  verRoot : Nat := 0
  /-- VER_GNSS (02 R47). DESIGN CHOICE reset. -/
  verGnss : Nat := 0
  /-- VER_SET (02 R47). DESIGN CHOICE reset. -/
  verSet : Nat := 0
  /-- KEEPER_HB (18 R389). -/
  keeperHb : Nat := 0
  /-- Heartwood of its last change (13 R308). -/
  keeperHbAt : Nat := 0
  /-- Heartwood of the last checkpoint (01 R35). -/
  ckptAt : Nat := 0
  /-- length of its stop, ns, at most 40,000 (01 R35). -/
  ckptLen : Nat := 0
  deriving DecidableEq, Repr

/-- Keeper at reset. -/
def Keeper.reset : Keeper := {}

/-- TIME unit and Heartwood -/
structure Time where
  /-- ns (03 R74). -/
  heartwood : Nat := 0
  /-- Heartwood at the last trunk stop (03 R75). -/
  stopped : Nat := 0
  /-- 32.768 kHz periods since (03 R75). -/
  parkPeriods : Nat := 0
  /-- park periods at the last successful guard burst (07 R189). -/
  anchorPeriods : Nat := 0
  /-- epoch number = power-cycle count (03 R76). -/
  epoch : Nat := 0
  /-- TIME_STATUS.STATE (03 R81). -/
  state : Nat := 0
  /-- 802.1AS role (03 R79). -/
  role : Nat := 0
  /-- priority1 (03 R79). DESIGN CHOICE reset. -/
  priority1 : Nat := 0
  /-- TIME_STATUS.PPS (03 R81). -/
  pps : Bool := false
  /-- GPS_OFS (03 R77). -/
  gpsOfs : Int := 0
  /-- OFS_VALID (03 R81). -/
  ofsValid : Bool := false
  /-- a lock has come since the trunk start (03 R77). -/
  ofsThisStart : Bool := false
  /-- GPS_OFS has been set in this epoch (03 R77). -/
  ofsEpoch : Bool := false
  /-- GPS time less Heartwood at the last usable PPS (03 R77). -/
  ppsOfs : Int := 0
  /-- LEAP (03 R81). -/
  leap : Nat := 0
  /-- LEAP_VALID (03 R81). -/
  leapValid : Bool := false
  /-- ERR_EST (03 R81). -/
  errEst : Nat := 0
  /-- start of the present run of phase errors within 100 ns (03 R77). -/
  lockSince : Option Nat := none
  /-- entry into HOLDOVER, for HOLD_AGE (03 R81). -/
  holdSince : Nat := 0
  /-- last usable PPS (03 R77). -/
  lastPps : Nat := 0
  /-- Heartwood of the last setting of ERR_EST (03 R78). -/
  errAt : Nat := 0
  /-- steered rate, ppb, within 100,000 (03 R74). -/
  steer : Int := 0
  /-- a better remote grandmaster is selected (AUTO) (03 R79). -/
  gmSelected : Bool := false
  /-- grandmaster identity low word (03 R80). -/
  gmId : Nat := 0
  /-- last sync (03 R80). -/
  lastSync : Nat := 0
  /-- TIME/GM_LOST stands (03 R80). -/
  gmLost : Bool := false
  /-- last instant (plus 1) at which each periodic happening was handled. The model's own. -/
  ticks : Tab Nat := []
  deriving DecidableEq, Repr

/-- Time at reset. -/
def Time.reset : Time := {}

/-- One fault occurrence (R92-R97) -/
structure FaultRec where
  /-- code (03 R92). -/
  code : Nat := 0
  /-- raising unit (03 R92). -/
  unit : Nat := 0
  /-- instance (03 R92). -/
  inst : Nat := 0
  /-- severity (03 R92). -/
  sev : Nat := 0
  /-- occurrence number (03 R97). -/
  occ : Nat := 0
  /-- coalesced count (03 R95). -/
  count : Nat := 1
  /-- first-occurrence stamp (03 R95). -/
  first : Nat := 0
  /-- last-occurrence stamp (03 R95). -/
  last : Nat := 0
  /-- parameters for the Larder record (03 R97). -/
  params : List Nat := []
  /-- generation of the raising unit at the raise (03 R509). -/
  gen : Nat := 0
  /-- Larder record written (03 R94). -/
  done1 : Bool := false
  /-- FAULT/RAISED posted (03 R94). -/
  done3 : Bool := false
  deriving DecidableEq, Repr

/-- FaultRec at reset. -/
def FaultRec.reset : FaultRec := {}

/-- The fault manager, held in Cellar SRAM (R509) -/
structure Faults where
  /-- fault being handled (03 R94). -/
  current : Option FaultRec := none
  /-- queue in order (03 R95). -/
  queue : List FaultRec := []
  /-- drop count (03 R96). -/
  drops : Nat := 0
  /-- occurrences numbered (03 R97). -/
  occurrences : Nat := 0
  /-- Cellar inbox for Root (03 R93). -/
  inbox : List FaultRec := []
  /-- faults beyond the 64th (03 R93). -/
  inboxOver : Nat := 0
  /-- raised faults whose condition stands (03 R97). -/
  active : List FaultRec := []
  /-- faults passed to Root since it started (03 R93). -/
  rootSeen : List FaultRec := []
  /-- dropped faults that stand, raised again at their units' next diagnostic cycle (03 R96). -/
  dropped : List FaultRec := []
  deriving DecidableEq, Repr

/-- Faults at reset. -/
def Faults.reset : Faults := {}

/-- One entry of the signal table (R83) -/
structure Signal where
  /-- fp32 value (03 R83). -/
  value : F32 := 0
  /-- Heartwood stamp (03 R83). -/
  stamp : Nat := 0
  /-- validity field (03 R83). -/
  flags : Nat := 0
  /-- Heartwood of the last write plus 1, 0 none (05 R124). -/
  wrAt : Nat := 0
  /-- value and validity before the writes of that reflex cycle (05 R124). -/
  before : F32 × Nat := (0, 0)
  deriving DecidableEq, Repr

/-- Signal at reset. -/
def Signal.reset : Signal := {}

/-- Host-block descriptors of a unit (R119) -/
structure HostBuf where
  /-- set (04 R119). -/
  set : Bool := false
  /-- PART_ID (04 R119). -/
  win : Nat := 0
  /-- tag of the HOSTBUF command (04 R119). -/
  tag : Nat := 0
  /-- descriptor A (04 R119). -/
  a : Nat := 0
  /-- descriptor B (04 R119). -/
  b : Nat := 0
  deriving DecidableEq, Repr

/-- HostBuf at reset. -/
def HostBuf.reset : HostBuf := {}

/-- An accepted command whose completion is pending (R55) -/
structure Op where
  /-- PART_ID (02 R55). -/
  win : Nat := 0
  /-- tag (02 R55). -/
  tag : Nat := 0
  deriving DecidableEq, Repr

/-- Op at reset. -/
def Op.reset : Op := {}

/-- LOSS.CONFIG (R105) -/
structure LossCfg where
  /-- 0 off 1 voltage 2 charge (04 R105). DESIGN CHOICE reset. -/
  mode : Nat := 0
  /-- range code (04 R98). DESIGN CHOICE reset. -/
  range : Nat := 0
  /-- THR (04 R99). DESIGN CHOICE reset. -/
  thr : Nat := 0
  /-- RINGDOWN us (04 R99). DESIGN CHOICE reset. -/
  ringdown : Nat := 0
  /-- REL % (04 R99). DESIGN CHOICE reset. -/
  rel : Nat := 0
  /-- DEAD us (04 R99). DESIGN CHOICE reset. -/
  dead : Nat := 0
  /-- W bins (04 R101). DESIGN CHOICE reset. -/
  w : Nat := 1
  /-- MINSCORE (04 R100). DESIGN CHOICE reset. -/
  minScore : Nat := 0
  /-- sensor test interval (04 R102). DESIGN CHOICE reset. -/
  testMs : Nat := 0
  deriving DecidableEq, Repr

/-- LossCfg at reset. -/
def LossCfg.reset : LossCfg := {}

/-- One template slot (R100) -/
structure Template where
  /-- 0 straw 1 grain 0xFF unused (04 R100). DESIGN CHOICE reset. -/
  cls : Nat := 255
  /-- int16 samples as loaded (04 R100). DESIGN CHOICE reset. -/
  samples : List Int := []
  deriving DecidableEq, Repr

/-- Template at reset. -/
def Template.reset : Template := {}

/-- One 10 ms bin (R101) -/
structure LossBin where
  /-- counted (04 R101). -/
  strikes : Nat := 0
  /-- grain (04 R101). -/
  grain : Nat := 0
  /-- straw (04 R101). -/
  straw : Nat := 0
  /-- merged (04 R101). -/
  merged : Nat := 0
  deriving DecidableEq, Repr

/-- LossBin at reset. -/
def LossBin.reset : LossBin := {}

/-- A snippet capture (R103) -/
structure Snip where
  /-- command (04 R103). -/
  op : Op := Op.reset
  /-- descriptor (04 R103). -/
  desc : Nat := 0
  /-- selection (04 R103). -/
  sel : Nat := 0
  /-- requested (04 R103). -/
  count : Nat := 0
  /-- margin (04 R103). -/
  margin : Nat := 0
  /-- every k-th (04 R103). -/
  every : Nat := 1
  /-- matching strikes seen (04 R103). -/
  matched : Nat := 0
  /-- captured (04 R103). -/
  captured : Nat := 0
  /-- skipped (04 R103). -/
  skipped : Nat := 0
  /-- t_on of the last snippet captured (04 R103). -/
  lastOn : Nat := 0
  /-- record of the snippet still being captured (04 R103). -/
  record : Option (List Byte) := none
  deriving DecidableEq, Repr

/-- Snip at reset. -/
def Snip.reset : Snip := {}

/-- One loss channel -/
structure LossCh where
  /-- settings in force (04 R105). DESIGN CHOICE reset. -/
  cfg : LossCfg := LossCfg.reset
  /-- settings for the next boundary (04 R105). -/
  pendCfg : Option LossCfg := none
  /-- detector state (04 R99). -/
  striking : Bool := false
  /-- its onset fell inside a snippet being captured (04 R103). -/
  inSnip : Bool := false
  /-- onset (04 R99). -/
  tOn : Nat := 0
  /-- settings under which the strike in progress completes (04 R105). -/
  onsetCfg : LossCfg := LossCfg.reset
  /-- end of the last strike (04 R99). -/
  tEnd : Nat := 0
  /-- set active at the start of the onset bin (04 R104). -/
  onsetSet : List Template := []
  /-- active set (04 R100). DESIGN CHOICE reset. -/
  templates : List Template := []
  /-- validated set (04 R104). -/
  pendTpl : Option (List Template) := none
  /-- its command (04 R104). -/
  pendTplOp : Op := Op.reset
  /-- template-set number (04 R104). DESIGN CHOICE reset. -/
  setNo : Nat := 0
  /-- open bin (04 R101). -/
  openBin : LossBin := LossBin.reset
  /-- closed bins, newest first (04 R101). -/
  bins : List LossBin := []
  /-- strikes since start (04 R106). -/
  strikes : Nat := 0
  /-- grain (04 R106). -/
  grain : Nat := 0
  /-- straw (04 R106). -/
  straw : Nat := 0
  /-- unclassified (04 R106). -/
  uncls : Nat := 0
  /-- merged, saturating (04 R106). -/
  merged : Nat := 0
  /-- blanked, saturating (04 R106). -/
  blanked : Nat := 0
  /-- strike number in the epoch (04 R103). -/
  strikeNo : Nat := 0
  /-- consecutive boundaries with RANGE set (04 R101). -/
  rangeRun : Nat := 0
  /-- consecutive boundaries with RANGE clear (04 R101). -/
  clearRun : Nat := 0
  /-- LOSS/OVERRATE stands (04 R101). -/
  overrate : Bool := false
  /-- test in progress (04 R102). -/
  testing : Bool := false
  /-- start of the last test (04 R102). -/
  testAt : Nat := 0
  /-- consecutive open results (04 R102). -/
  openRun : Nat := 0
  /-- consecutive short results (04 R102). -/
  shortRun : Nat := 0
  /-- 0 good 1 open 2 short (04 R102). -/
  sensor : Nat := 0
  /-- snippet capture (04 R103). -/
  snip : Option Snip := none
  /-- the open bin began at a restart of the unit inside it: it will not be a complete one (04 R101). -/
  partBin : Bool := false
  deriving DecidableEq, Repr

/-- LossCh at reset. -/
def LossCh.reset : LossCh := {}

/-- A running tare (R108) -/
structure Tare where
  /-- command (04 R108). -/
  op : Op := Op.reset
  /-- samples wanted (04 R108). -/
  want : Nat := 0
  /-- samples taken (scale×ratio+offset) (04 R108). -/
  values : List F32 := []
  deriving DecidableEq, Repr

/-- Tare at reset. -/
def Tare.reset : Tare := {}

/-- One bridge input -/
structure BridgeCh where
  /-- excitation (04 R107). DESIGN CHOICE reset. -/
  exc : Nat := 0
  /-- range (04 R107). DESIGN CHOICE reset. -/
  range : Nat := 0
  /-- filter code (04 R107). DESIGN CHOICE reset. -/
  filter : Nat := 0
  /-- scale (04 R107). DESIGN CHOICE reset. -/
  scale : F32 := 0
  /-- offset (04 R107). DESIGN CHOICE reset. -/
  offset : F32 := 0
  /-- excitation current limit mA (04 R107). DESIGN CHOICE reset. -/
  limit : Nat := 0
  /-- tare (04 R108). DESIGN CHOICE reset. -/
  tare : F32 := 0
  /-- filter history, newest first (04 R107). -/
  ratios : List F32 := []
  /-- excitation switched off by its fault (04 R109). -/
  excOff : Bool := false
  /-- sense-open fault (04 R109). -/
  senseOpen : Bool := false
  /-- over-range fault (04 R109). -/
  overR : Bool := false
  /-- excitation current measured (04 R108). DESIGN CHOICE reset. -/
  excCur : F32 := 0
  /-- excitation voltage measured (04 R108). DESIGN CHOICE reset. -/
  excVolt : F32 := 0
  /-- tare in progress (04 R108). -/
  tareOp : Option Tare := none
  /-- newest ratio before the clamp, mV/V (04 R109). -/
  ratio : F32 := 0
  /-- beyond the range since (04 R109). -/
  overSince : Option Nat := none
  /-- ratio codes of the last 16 samples, newest first (04 R119). -/
  hist : List Int := []
  deriving DecidableEq, Repr

/-- BridgeCh at reset. -/
def BridgeCh.reset : BridgeCh := {}

/-- One analog input -/
structure AinCh where
  /-- range code, 0 off (04 R110). DESIGN CHOICE reset. -/
  range : Nat := 0
  /-- N (04 R110). DESIGN CHOICE reset. -/
  avg : Nat := 1
  /-- supply link (04 R110). DESIGN CHOICE reset. -/
  link : Nat := 255
  /-- low limit (04 R110). DESIGN CHOICE reset. -/
  lo : F32 := 0
  /-- high limit (04 R110). DESIGN CHOICE reset. -/
  hi : F32 := 0
  /-- diagnostic time (04 R110). DESIGN CHOICE reset. -/
  diagMs : Nat := 1
  /-- last conversions, newest first (04 R110). -/
  codes : List Nat := []
  /-- below the low limit since (04 R111). -/
  lowSince : Option Nat := none
  /-- above the high limit since (04 R111). -/
  highSince : Option Nat := none
  /-- back inside since (04 R111). -/
  inSince : Option Nat := none
  /-- 0 none 1 low 2 high (04 R111). -/
  diag : Nat := 0
  /-- shunt disconnected (04 R111). -/
  shuntOff : Bool := false
  /-- since (04 R111). -/
  shuntAt : Nat := 0
  /-- above 25 mA since (04 R111). -/
  shuntSince : Option Nat := none
  /-- highest code since then (04 R111). -/
  shuntPeak : Nat := 0
  /-- last 20 conversions, newest first (04 R119). -/
  hist : List Nat := []
  deriving DecidableEq, Repr

/-- AinCh at reset. -/
def AinCh.reset : AinCh := {}

/-- One frequency input -/
structure FreqCh where
  /-- 0 off 1 frequency 2 quadrature (04 R115). DESIGN CHOICE reset. -/
  type : Nat := 0
  /-- edge setting (04 R115). DESIGN CHOICE reset. -/
  edge : Nat := 0
  /-- Hall threshold pair (04 R115). DESIGN CHOICE reset. -/
  hyst : Nat := 0
  /-- pull-up / minimum amplitude (04 R115). DESIGN CHOICE reset. -/
  pull : Nat := 0
  /-- gate time (04 R115). DESIGN CHOICE reset. -/
  gateMs : Nat := 1
  /-- timeout, default 10 s (04 R113). -/
  timeoutDs : Nat := 100
  /-- scale (04 R115). DESIGN CHOICE reset. -/
  scale : F32 := 0
  /-- comparator T (04 R115). DESIGN CHOICE reset. -/
  thr : F32 := 0
  /-- comparator sense (04 R115). DESIGN CHOICE reset. -/
  sense : Nat := 0
  /-- hysteresis % (04 R115). DESIGN CHOICE reset. -/
  h : Nat := 0
  /-- supply link (04 R115). DESIGN CHOICE reset. -/
  link : Nat := 255
  /-- edges since the last update (04 R113). -/
  edges : Nat := 0
  /-- last edge (04 R113). -/
  tLast : Nat := 0
  /-- last edge used (04 R113). -/
  tRef : Nat := 0
  /-- an edge has been time-marked (VR peak held) (04 R112). -/
  seen : Bool := false
  /-- previous positive peak, mV (04 R112). -/
  peak : Nat := 0
  /-- the comparator has seen an edge: the next one has a period (04 R115). -/
  cmpSeen : Bool := false
  /-- frequency before scaling (04 R113). -/
  f : F32 := 0
  /-- comparator output (04 R115). -/
  term : Bool := false
  /-- quadrature input level of this input (04 R114). DESIGN CHOICE reset. -/
  levelA : Bool := false
  /-- ×4 position count (04 R114). DESIGN CHOICE reset. -/
  count : Int := 0
  /-- illegal transitions since the last event (04 R114). -/
  quadErrs : Nat := 0
  /-- last FREQ/QUAD_ERROR (04 R114). -/
  quadAt : Option Nat := none
  /-- consecutive failed checks (04 R116). -/
  wireRun : Nat := 0
  /-- fault kind standing (04 R116). -/
  wiring : Nat := 0
  /-- first edge of the host record (04 R119). -/
  firstEdge : Nat := 0
  /-- edges of the host record (04 R119). -/
  hEdges : Nat := 0
  /-- quadrature count change of the host record (04 R119). -/
  hCount : Int := 0
  /-- input 2k+1 leads (04 R114). -/
  dirNeg : Bool := false
  deriving DecidableEq, Repr

/-- FreqCh at reset. -/
def FreqCh.reset : FreqCh := {}

/-- One sensor supply -/
structure SupCh where
  /-- commanded (04 R117). DESIGN CHOICE reset. -/
  enable : Bool := false
  /-- switched on (04 R117). DESIGN CHOICE reset. -/
  on : Bool := false
  /-- retry interval (04 R117). DESIGN CHOICE reset. -/
  retryS : Nat := 0
  /-- in current limit (04 R117). -/
  limited : Bool := false
  /-- since (04 R117). -/
  limSince : Nat := 0
  /-- 0 none 1 overload 2 back-fed (04 R117). -/
  fault : Nat := 0
  /-- due retry (04 R117). -/
  retryAt : Option Nat := none
  /-- diagnostics resume from here (04 R118). -/
  okAt : Nat := 0
  /-- the diagnostics of linked inputs are suppressed (04 R118). -/
  suppress : Bool := true
  deriving DecidableEq, Repr

/-- SupCh at reset. -/
def SupCh.reset : SupCh := {}

/-- The sensing units -/
structure Sensing where
  /-- loss channels (04 R98). -/
  loss : Tab LossCh := []
  /-- bridges (04 R107). -/
  bridge : Tab BridgeCh := []
  /-- analog inputs (04 R110). -/
  ain : Tab AinCh := []
  /-- frequency inputs (04 R112). -/
  freq : Tab FreqCh := []
  /-- supplies (04 R117). -/
  sup : Tab SupCh := []
  /-- host blocks by unit number (04 R119). -/
  bufs : Tab HostBuf := []
  /-- host block sequence by unit (04 R119). -/
  blockK : Tab Nat := []
  deriving DecidableEq, Repr

/-- Sensing at reset. -/
def Sensing.reset : Sensing := {}

/-- One reference of a loop record (R138) -/
structure LoopRef where
  /-- source signal (05 R143). -/
  src : Nat := 65535
  /-- tracked row (05 R143). -/
  row : Nat := 0
  /-- ramp rate (05 R143). -/
  rho : F32 := 0
  /-- initial set-point (05 R143). -/
  init : F32 := 0
  deriving DecidableEq, Repr

/-- LoopRef at reset. -/
def LoopRef.reset : LoopRef := {}

/-- One output binding (R128) -/
structure LoopBind where
  /-- kind (05 R143). -/
  kind : Nat := 0
  /-- target (05 R143). -/
  target : Nat := 0
  /-- min (05 R143). -/
  min : F32 := 0
  /-- max (05 R143). -/
  max : F32 := 0
  deriving DecidableEq, Repr

/-- LoopBind at reset. -/
def LoopBind.reset : LoopBind := {}

/-- Loop record (R143) -/
structure LoopRec where
  /-- states (05 R143). -/
  n : Nat := 1
  /-- measurements (05 R143). -/
  m : Nat := 1
  /-- outputs (05 R143). -/
  p : Nat := 1
  /-- references (05 R143). -/
  r : Nat := 0
  /-- integral mask (05 R143). -/
  imask : Nat := 0
  /-- priority (05 R143). -/
  prio : Nat := 0
  /-- N_pl (05 R143). -/
  npl : Nat := 1
  /-- safe action (05 R143). -/
  safeAct : Nat := 0
  /-- P (05 R143). -/
  periodUs : Nat := 100
  /-- phase (05 R143). -/
  phaseUs : Nat := 0
  /-- DM (05 R143). -/
  dm : Nat := 0
  /-- G_run (05 R143). -/
  gRun : F32 := 0
  /-- G_pl (05 R143). -/
  gPl : F32 := 0
  /-- M_inv (05 R143). -/
  minv : Nat := 1
  /-- flags (05 R143). -/
  flags : Nat := 0
  /-- host safe action (05 R143). -/
  hostSafe : Nat := 0
  /-- miss-rate threshold (05 R143). -/
  missPct : Nat := 0
  /-- export node codes (05 R143). -/
  exports : List Nat := []
  /-- host deadline us (05 R143). -/
  hostD : Nat := 0
  /-- measurement signals (05 R143). -/
  meas : List Nat := []
  /-- offsets (05 R143). -/
  offs : List F32 := []
  /-- inverse standard deviations (05 R143). -/
  sinv : List F32 := []
  /-- bindings (05 R143). -/
  binds : List LoopBind := []
  /-- references (05 R143). -/
  refs : List LoopRef := []
  /-- the reserved bytes of the record are zero (05 R143). -/
  rsvOk : Bool := true
  /-- x0 (05 R143). -/
  x0 : List F32 := []
  /-- A 8×8 (05 R143). -/
  a : List F32 := []
  /-- B 8×4 (05 R143). -/
  b : List F32 := []
  /-- E 8×4 (05 R143). -/
  e : List F32 := []
  /-- C 4×8 (05 R143). -/
  c : List F32 := []
  /-- K 4×8 (05 R143). -/
  kk : List F32 := []
  /-- L 8×4 (05 R143). -/
  ll : List F32 := []
  deriving DecidableEq, Repr

/-- LoopRec at reset. -/
def LoopRec.reset : LoopRec := {}

/-- One control-engine slot -/
structure LoopSlot where
  /-- loaded record (05 R143). -/
  cfg : Option LoopRec := none
  /-- record an enabled slot takes at its next sample (05 R143). -/
  pend : Option LoopRec := none
  /-- 0 OFF 1 LOADED 2 RAMP 3 RUN 4 SAFE (05 R145). -/
  state : Nat := 0
  /-- 0 none 1 enable 2 enable KEEP 3 disable, at the next sample (05 R137). -/
  enableReq : Nat := 0
  /-- corrected state (05 R125). -/
  xhat : List F32 := []
  /-- predicted state (05 R125). -/
  xpred : List F32 := []
  /-- predicted measurement (05 R125). -/
  yhat : List F32 := []
  /-- staged outputs (05 R125). -/
  ustg : List F32 := []
  /-- a staged output was clamped (05 R125). -/
  stgClamped : Bool := false
  /-- last released outputs (05 R127). -/
  u : List F32 := []
  /-- an output of this sample was clamped (05 R127). -/
  uClamped : Bool := false
  /-- applied outputs (05 R127). -/
  ua : List F32 := []
  /-- last measurement (05 R125). -/
  y : List F32 := []
  /-- last innovation (05 R125). -/
  e : List F32 := []
  /-- effective references (05 R139). -/
  reff : List F32 := []
  /-- set-points (05 R138). -/
  setpt : List F32 := []
  /-- reference has reached its set-point (05 R139). -/
  arrived : List Bool := []
  /-- next move of the reference is a step (05 R145). -/
  stepNow : List Bool := []
  /-- last sample instant (05 R124). -/
  tk : Nat := 0
  /-- its number (05 R124). -/
  k : Nat := 0
  /-- next sample is a forced miss (05 R132). -/
  forced : Bool := false
  /-- next sample is the first in RAMP (05 R139). -/
  first : Bool := false
  /-- x̂ of this sample is corrected (05 R133). -/
  corrected : Bool := false
  /-- miss work queued (05 R130). -/
  missPending : Bool := false
  /-- correction/staging queued (05 R130). -/
  stagePending : Bool := false
  /-- a value was released since enable (05 R140). -/
  released : Bool := false
  /-- last sample was a hit (05 R129). -/
  hit : Bool := false
  /-- last release delay ns (05 R129). -/
  delay : Nat := 0
  /-- release instant of this sample (05 R129). -/
  relAt : Nat := 0
  /-- samples since enable (05 R145). -/
  samples : Nat := 0
  /-- misses since enable (05 R145). -/
  misses : Nat := 0
  /-- samples with an invalid measurement (05 R145). -/
  invalid : Nat := 0
  /-- last d2 (05 R145). -/
  d2 : F32 := 0
  /-- largest d2 (05 R145). -/
  d2Max : F32 := 0
  /-- longest release delay (05 R145). -/
  delayMax : Nat := 0
  /-- SAFE cause (05 R145). -/
  cause : Nat := 0
  /-- implausibility count (05 R140). -/
  plCount : Nat := 0
  /-- consecutive invalid samples (05 R141). -/
  invCounts : List Nat := []
  /-- SAFE cause that the pending release completes (05 R140). -/
  goSafe : Nat := 0
  /-- samples of the last 1 s with their miss flag (05 R154). -/
  rateWin : List (Nat × Bool) := []
  /-- last CTRL/MISS_RATE (05 R154). -/
  rateAt : Option Nat := none
  /-- accepted host value waiting for tk+D (05 R149). -/
  hostU : Option (List F32) := none
  /-- it is that of the sample before the last (01 R35). -/
  hostUOld : Bool := false
  /-- host safe action 3 active (05 R150). -/
  hostHw : Bool := false
  deriving DecidableEq, Repr

/-- LoopSlot at reset. -/
def LoopSlot.reset : LoopSlot := {}

/-- One trace buffer (R146) -/
structure Trace where
  /-- recording (05 R146). -/
  armed : Bool := false
  /-- slot (05 R146). -/
  slot : Nat := 0
  /-- node (05 R146). -/
  node : Nat := 0
  /-- decimation (05 R146). -/
  d : Nat := 1
  /-- trigger (05 R146). -/
  trigger : Nat := 0
  /-- entries after the trigger (05 R146). -/
  post : Nat := 0
  /-- triggered (05 R146). -/
  fired : Bool := false
  /-- entries still to record (05 R146). -/
  left : Nat := 0
  /-- k of the trigger (05 R146). -/
  trigK : Nat := 0
  /-- samples since the last recorded one (05 R146). -/
  phase : Nat := 0
  /-- entries oldest first (05 R146). -/
  entries : List (F32 × Nat) := []
  /-- copy in progress and its descriptor (05 R146). -/
  read : Option (Op × Nat) := none
  deriving DecidableEq, Repr

/-- Trace at reset. -/
def Trace.reset : Trace := {}

/-- The control engine -/
structure Ctrl where
  /-- slots (05 R123). -/
  slots : Tab LoopSlot := []
  /-- trace buffers (05 R146). -/
  traces : Tab Trace := []
  /-- instant at which the FMA lanes end their last item (05 R134). -/
  laneFree : Nat := 0
  /-- host sample records (05 R148). -/
  hostBuf : HostBuf := HostBuf.reset
  deriving DecidableEq, Repr

/-- Ctrl at reset. -/
def Ctrl.reset : Ctrl := {}

/-- A start request (R163) -/
structure ValveReq where
  /-- command (06 R163). -/
  op : Op := Op.reset
  /-- consumed at (06 R163). -/
  t0 : Nat := 0
  /-- entry time (06 R163). -/
  t1 : Nat := 0
  /-- defer limit (06 R163). -/
  deferEnd : Nat := 0
  /-- end of the boost wait (06 R163). -/
  boostEnd : Nat := 0
  /-- command deadline word (06 R165). -/
  deadline : Nat := 0
  /-- duration (06 R170). -/
  durUs : Nat := 0
  deriving DecidableEq, Repr

/-- ValveReq at reset. -/
def ValveReq.reset : ValveReq := {}

/-- One valve channel -/
structure ValveCh where
  /-- mode (06 R158). DESIGN CHOICE reset. -/
  mode : Nat := 0
  /-- reset policy (06 R169). DESIGN CHOICE reset. -/
  policy : Nat := 0
  /-- battery-peak fallback (06 R169). DESIGN CHOICE reset. -/
  fallback : Bool := false
  /-- peak current (06 R169). DESIGN CHOICE reset. -/
  peakA : F32 := 0
  /-- hold current (06 R169). DESIGN CHOICE reset. -/
  holdA : F32 := 0
  /-- peak max time (06 R169). DESIGN CHOICE reset. -/
  peakUs : Nat := 0
  /-- MINOFF default 500 us (06 R163). -/
  minOffUs : Nat := 500
  /-- dither frequency (06 R159). DESIGN CHOICE reset. -/
  ditherHz : Nat := 0
  /-- dither amplitude (06 R159). DESIGN CHOICE reset. -/
  ditherMa : Nat := 0
  /-- tracking time (06 R169). DESIGN CHOICE reset. -/
  trackMs : Nat := 0
  /-- mailbox value, 0 after every trunk start (06 R172). -/
  mailbox : F32 := 0
  /-- control-engine value (05 R128). -/
  engine : Option F32 := none
  /-- state code of VALVE.STATUS (06 R170). -/
  state : Nat := 0
  /-- last low-side turn-off (06 R163). -/
  tOff : Option Nat := none
  /-- pending request (06 R163). -/
  req : Option ValveReq := none
  /-- event end by duration (06 R160). -/
  endAt : Option Nat := none
  /-- peak max time instant (06 R161). -/
  peakEnd : Nat := 0
  /-- short-to-battery latch (Cellar, R510) (06 R168). -/
  latched : Bool := false
  /-- open load (06 R168). -/
  openLoad : Bool := false
  /-- tracking fault (06 R168). -/
  tracking : Bool := false
  /-- measured mean current (06 R159). DESIGN CHOICE reset. -/
  current : F32 := 0
  /-- events started (06 R170). -/
  events : Nat := 0
  /-- host duty (06 R171). DESIGN CHOICE reset. -/
  duty : F32 := 0
  /-- the peak runs from BATB (06 R161). -/
  fromBat : Bool := false
  /-- duty at which an on/off channel is chopped during a boost peak of its bank (06 R160). -/
  chop : Option F32 := none
  /-- host duty accepted, and the PWM period start from which it is applied (06 R171). -/
  dutyNext : Option (F32 × Nat) := none
  /-- mean current outside the tracking limit since (06 R168). -/
  trackBad : Option Nat := none
  /-- inside it since (06 R168). -/
  trackOk : Option Nat := none
  deriving DecidableEq, Repr

/-- ValveCh at reset. -/
def ValveCh.reset : ValveCh := {}

/-- One valve bank -/
structure ValveBank where
  /-- high-side on (06 R156). -/
  hsOn : Bool := false
  /-- when it switches off (06 R156). -/
  hsOffAt : Option Nat := none
  /-- end of its last turn-on (06 R156). -/
  hsReady : Nat := 0
  /-- 0 none 1 short to ground 2 bank short (06 R168). -/
  latched : Nat := 0
  /-- active reflex rules that cut the bank (06 R157). -/
  cutRules : List Nat := []
  /-- cut by a safe-off line (06 R157). -/
  cutLine : Bool := false
  /-- cut in force: 0 none 1 reflex 2 safe-off (06 R157). -/
  cut : Nat := 0
  /-- queued channels in order (06 R164). -/
  queue : List Nat := []
  /-- peak slot (06 R161). -/
  peakHolder : Option Nat := none
  /-- hold slots (06 R161). -/
  holds : List Nat := []
  /-- defer limit (06 R163). DESIGN CHOICE reset. -/
  deferUs : Nat := 0
  /-- high-side current (06 R170). DESIGN CHOICE reset. -/
  current : F32 := 0
  deriving DecidableEq, Repr

/-- ValveBank at reset. -/
def ValveBank.reset : ValveBank := {}

/-- One boost converter -/
structure Boost where
  /-- enabled (06 R162). DESIGN CHOICE reset. -/
  enabled : Bool := false
  /-- rail (06 R162). DESIGN CHOICE reset. -/
  railMv : Nat := 0
  /-- 0 none 1 no charge 2 over-voltage (06 R162). -/
  latched : Nat := 0
  /-- not-ready occurrences (06 R170). -/
  notReady : Nat := 0
  /-- instant of the last enable (06 R162). -/
  enabledAt : Nat := 0
  /-- the rail has reached 44 V since (06 R162). -/
  charged : Bool := false
  deriving DecidableEq, Repr

/-- Boost at reset. -/
def Boost.reset : Boost := {}

/-- Valve unit -/
structure Valve where
  /-- channels (06 R155). -/
  ch : Tab ValveCh := []
  /-- banks (06 R155). -/
  banks : Tab ValveBank := []
  /-- converters (06 R162). -/
  boost : Tab Boost := []
  deriving DecidableEq, Repr

/-- Valve at reset. -/
def Valve.reset : Valve := {}

/-- One GNSS antenna supply (R175) -/
structure Antenna where
  /-- supply enabled by GNSS.ANTENNA (07 R175). DESIGN CHOICE reset. -/
  on : Bool := false
  /-- phase centre x (07 R175). DESIGN CHOICE reset. -/
  px : F32 := 0
  /-- phase centre y (07 R175). DESIGN CHOICE reset. -/
  py : F32 := 0
  /-- phase centre z (07 R175). DESIGN CHOICE reset. -/
  pz : F32 := 0
  /-- open fault (07 R175). -/
  openF : Bool := false
  /-- short fault, supply off (07 R175). -/
  shortF : Bool := false
  /-- next retry (07 R175). -/
  retryAt : Nat := 0
  /-- retries (07 R195). -/
  retries : Nat := 0
  /-- signals tracked (07 R188). -/
  tracked : Nat := 0
  /-- jammed bands (07 R188). -/
  jammed : Nat := 0
  deriving DecidableEq, Repr

/-- Antenna at reset. -/
def Antenna.reset : Antenna := {}

/-- One excluded scope (R181) -/
structure Scope where
  /-- check 1-5 (07 R181). -/
  check : Nat := 0
  /-- 1 signal 2 constellation 3 band 4 solution (07 R181). -/
  kind : Nat := 0
  /-- P3 of GNSS/EXCLUDED (07 R195). -/
  ident : Nat := 0
  /-- passing its check since (07 R181). -/
  passSince : Option Nat := none
  deriving DecidableEq, Repr

/-- Scope at reset. -/
def Scope.reset : Scope := {}

/-- AB line (R187) -/
structure GuideLine where
  /-- latitude of A (07 R187). -/
  lat : F64 := 0
  /-- longitude of A (07 R187). -/
  lon : F64 := 0
  /-- heading (07 R187). -/
  heading : F32 := 0
  /-- pass spacing (07 R187). -/
  spacing : F32 := 0
  deriving DecidableEq, Repr

/-- GuideLine at reset. -/
def GuideLine.reset : GuideLine := {}

/-- GNSS unit -/
structure CorrMsg where
  /-- arrival of its last frame (07 R177, R178). -/
  stamp : Nat := 0
  /-- satellites of its satellite mask (07 R177). -/
  sats : List Nat := []
  deriving DecidableEq, Repr
/-- No message. -/
def CorrMsg.reset : CorrMsg := {}

/-- GNSS (07). -/
structure Gnss where
  /-- systems (07 R180). DESIGN CHOICE reset. -/
  systems : Nat := 0
  /-- elevation mask (07 R180). DESIGN CHOICE reset. -/
  elev : Nat := 0
  /-- heading mode (07 R180). DESIGN CHOICE reset. -/
  headMode : Nat := 0
  /-- dead-reckoning limit s (07 R183). DESIGN CHOICE reset. -/
  drLimit : Nat := 0
  /-- wheel-speed signal (07 R180). DESIGN CHOICE reset. -/
  wheelSig : Nat := 65535
  /-- wheel scale (07 R180). DESIGN CHOICE reset. -/
  wheelScale : F32 := 0
  /-- correction age limit (07 R178). DESIGN CHOICE reset. -/
  ageLimit : F32 := 0
  /-- antennas by instance 1-2 (07 R174). -/
  ants : Tab Antenna := []
  /-- correction source (07 R177). DESIGN CHOICE reset. -/
  corrSrc : Nat := 0
  /-- CAN channel (07 R177). DESIGN CHOICE reset. -/
  corrChan : Nat := 0
  /-- queue or port (07 R177). DESIGN CHOICE reset. -/
  corrNum : Nat := 0
  /-- bytes of the RTCM stream not yet framed (07 R177). -/
  rtcm : List Byte := []
  /-- frames failing CRC (07 R188). -/
  rtcmBad : Nat := 0
  /-- frames used (07 R177). The model's own. -/
  rtcmFrames : Nat := 0
  /-- correction messages used, by message type (07 R177). -/
  corrMsgs : Tab CorrMsg := []
  /-- correction age (07 R188). DESIGN CHOICE reset. -/
  corrAge : F32 := 0
  /-- GNSS/CORR_LOST stands (07 R178). -/
  corrLost : Bool := false
  /-- local frame origin (07 R179). -/
  origin : Option (F64 × F64 × F64) := none
  /-- from the next epoch (07 R179). -/
  pendOrigin : Option (F64 × F64 × F64) := none
  /-- loaded line (07 R187). -/
  line : Option GuideLine := none
  /-- from the next epoch (07 R187). -/
  pendLine : Option (Option GuideLine) := none
  /-- fix type (07 R179). -/
  fix : Nat := 0
  /-- satellites used (07 R179). -/
  sats : Nat := 0
  /-- control point latitude (07 R179). DESIGN CHOICE reset. -/
  lat : F64 := 0
  /-- longitude (07 R179). DESIGN CHOICE reset. -/
  lon : F64 := 0
  /-- height (07 R179). DESIGN CHOICE reset. -/
  height : F64 := 0
  /-- horizontal accuracy (07 R179). DESIGN CHOICE reset. -/
  hAcc : F32 := 0
  /-- epoch stamp (07 R179). -/
  epochStamp : Nat := 0
  /-- epoch sequence (07 R188). -/
  epochK : Nat := 0
  /-- heading source in use (07 R188). -/
  headSrc : Nat := 0
  /-- holdover since (07 R183). -/
  holdSince : Option Nat := none
  /-- GNSS/INVALID stands (07 R183). -/
  invalid : Bool := false
  /-- checks 1-4 passing since, after INVALID (07 R184). -/
  passSince : Option Nat := none
  /-- consecutive epochs beyond 5 sigma (07 R181). -/
  check5Run : Nat := 0
  /-- ground speed >= 1 m/s since (07 R180). -/
  headFast : Option Nat := none
  /-- course heading valid in this run (07 R180). -/
  headOk : Bool := false
  /-- epochs rejected (07 R188). -/
  rejected : Nat := 0
  /-- excluded scopes (07 R181). -/
  scopes : List Scope := []
  /-- last EXCLUDED/READMITTED per scope: kind, ident, at (07 R181). -/
  postedScopes : List (Nat × Nat × Nat) := []
  /-- GNSS/HOLDOVER stands (07 R195). -/
  holdF : Bool := false
  /-- observable regions (07 R188). -/
  hostBuf : HostBuf := HostBuf.reset
  /-- the solution of the last epoch, accepted or dead-reckoned (07 R183). -/
  dr : Option NavSol := none
  /-- attitude of the last epoch (07 R179). -/
  att : NavAtt := {}
  /-- start of tracking at a trunk start: 0 cold 1 warm 2 hot (07 R176, R190). -/
  start : Nat := 0
  /-- last position written to the Attic at park entry (07 R176). -/
  parkPos : Option (F64 × F64 × F64) := none
  /-- ephemerides and almanacs held, in a form of the baseband's own (07 R176). -/
  navData : List Byte := []
  /-- those written to the Attic at park entry (07 R176). -/
  parkNav : List Byte := []
  /-- bursts in GUARD PARK (07 R190). DESIGN CHOICE reset. -/
  guardEnable : Bool := false
  /-- radius m (07 R190). DESIGN CHOICE reset. -/
  guardRadius : Nat := 0
  /-- report interval min (07 R190). DESIGN CHOICE reset. -/
  guardReport : Nat := 0
  /-- park position, Cellar SRAM (07 R190). -/
  guardPos : Option (F64 × F64 × F64) := none
  /-- last burst fix, Cellar SRAM (07 R189). -/
  guardFix : Option (F64 × F64 × F64) := none
  /-- consecutive bursts beyond the radius (07 R190). -/
  guardOut : Nat := 0
  /-- bursts since park entry (07 R190). -/
  guardBursts : Nat := 0
  /-- bursts without fix in a row (07 R190). -/
  guardNoFix : Nat := 0
  /-- supply of antenna A for the last burst, on and off in park periods (07 R189). -/
  guardSupply : Option (Nat × Nat) := none
  /-- GNSS.FIX shows the burst fix: true from a guard wake to the first solution (07 R190). -/
  guardShown : Bool := false
  /-- GNSS/GUARD_MOVE to post at the next trunk start (07 R190). -/
  guardPending : Option (Nat × Nat × Nat) := none
  deriving DecidableEq, Repr

/-- Gnss at reset. -/
def Gnss.reset : Gnss := {}

/-- IMU unit -/
structure Imu where
  /-- orientation (07 R185). DESIGN CHOICE reset. -/
  orient : Nat := 16
  /-- residual angles (07 R185). DESIGN CHOICE reset. -/
  angles : List F32 := []
  /-- reference mark (07 R185). DESIGN CHOICE reset. -/
  mark : List F32 := []
  /-- 0 running 1 self-test 2 fault (07 R186). -/
  state : Nat := 0
  /-- last fault kind (07 R186). -/
  lastKind : Nat := 0
  /-- axis saturated since (instant plus 1) (07 R186). -/
  satSince : Tab Nat := []
  /-- axis unchanged since, machine moving (instant plus 1) (07 R186). -/
  sameSince : Tab Nat := []
  /-- values of the last sample as the sensor gave them (07 R186). -/
  last : List F32 := []
  /-- its instant (07 R186). -/
  lastAt : Nat := 0
  /-- samples since the last GNSS epoch in the body frame, newest first (07 R183). -/
  recent : List (List F32) := []
  deriving DecidableEq, Repr

/-- Imu at reset. -/
def Imu.reset : Imu := {}

/-- One sensor of a camera port -/
structure CamSensor where
  /-- enabled (08 R204). DESIGN CHOICE reset. -/
  enable : Bool := false
  /-- mosaic (08 R207). DESIGN CHOICE reset. -/
  mosaic : Nat := 0
  /-- link depth (08 R204). DESIGN CHOICE reset. -/
  depth : Nat := 8
  /-- width (08 R204). DESIGN CHOICE reset. -/
  width : Nat := 0
  /-- height (08 R204). DESIGN CHOICE reset. -/
  height : Nat := 0
  /-- exposures (08 R204). DESIGN CHOICE reset. -/
  exposures : Nat := 1
  /-- shutter (08 R202). DESIGN CHOICE reset. -/
  shutter : Nat := 0
  /-- CSI-2 data types (08 R204). DESIGN CHOICE reset. -/
  dataTypes : List Nat := []
  /-- row time (08 R202). DESIGN CHOICE reset. -/
  rowNs : Nat := 0
  /-- D0 (08 R202). DESIGN CHOICE reset. -/
  d0 : Nat := 0
  /-- E0 in force us (08 R202). DESIGN CHOICE reset. -/
  e0 : Nat := 0
  /-- initial E0 of CAM.SENSOR us (08 R202). DESIGN CHOICE reset. -/
  e0Init : Nat := 0
  /-- ratio r1 (08 R207). DESIGN CHOICE reset. -/
  r1 : F32 := 0
  /-- ratio r2 (08 R207). DESIGN CHOICE reset. -/
  r2 : F32 := 0
  /-- reported (first frame, E0), by frame (08 R203). -/
  expo : List (Nat × Nat) := []
  /-- ISP block in force (08 R215). -/
  isp : Option (List Byte) := none
  /-- from the next frame (08 R215). -/
  pendIsp : Option (List Byte) := none
  /-- next frame number of a free-running sensor (08 R201). -/
  frame : Nat := 0
  /-- frame whose first row has arrived: number, its sync instant, surplus (08 R203, R204). -/
  begun : Option (Nat × Nat × Bool) := none
  /-- arrival of the last frame within the declared rate (08 R204). -/
  lastFrameAt : Nat := 0
  /-- start of the last frame of a free-running sensor within the declared rate (08 R204). -/
  lastFirst : Option Nat := none
  /-- one more than the number of the last frame whose first row arrived, 0 none (08 R203). -/
  lastNo : Nat := 0
  /-- frames dropped (08 R196). -/
  dropped : Nat := 0
  /-- the previous frame was dropped (08 R208). -/
  prevDropped : Bool := false
  /-- CAM/SENSOR_SILENT stands (08 R217). -/
  silent : Bool := false
  /-- the last frame taken had another E0 than the one before (08 R203). -/
  e0Changed : Bool := false
  /-- consecutive frames at >= 2 % (08 R210). -/
  flickRun : Nat := 0
  /-- last CAM/FLICKER (08 R210). -/
  flickAt : Option Nat := none
  /-- t of the first row, row time and row means of the last 4 frames, newest first (08 R210). -/
  flickFrames : List (Nat × Nat × List Nat) := []
  /-- header of the frame last processed (08 R208). -/
  hdr : List Byte := []
  /-- its outputs and taps are not yet written (08 R205). -/
  due : Bool := false
  /-- the ISP block in force for that frame (08 R205, R215). -/
  dueIsp : Option (List Byte) := none
  /-- output frames 0 and 1 as written for Crown, header and planes (08 R208). -/
  outs : Tab (List Byte) := []
  deriving DecidableEq, Repr

/-- CamSensor at reset. -/
def CamSensor.reset : CamSensor := {}

/-- A tap capture (R209) -/
structure CamTap where
  /-- command (08 R209). -/
  op : Op := Op.reset
  /-- tap point (08 R209). -/
  point : Nat := 0
  /-- descriptor (08 R209). -/
  desc : Nat := 0
  /-- every k-th (08 R209). -/
  every : Nat := 1
  /-- frames wanted (08 R209). -/
  want : Nat := 0
  /-- region of interest (08 R209). -/
  roi : List Nat := []
  /-- frames seen (08 R209). -/
  seen : Nat := 0
  /-- captured (08 R209). -/
  captured : Nat := 0
  /-- skipped (08 R209). -/
  skipped : Nat := 0
  deriving DecidableEq, Repr

/-- CamTap at reset. -/
def CamTap.reset : CamTap := {}

/-- One camera port -/
structure CamPort where
  /-- link on (08 R204). DESIGN CHOICE reset. -/
  link : Bool := false
  /-- supply on (08 R204). DESIGN CHOICE reset. -/
  coax : Bool := false
  /-- module sync (08 R201). DESIGN CHOICE reset. -/
  sync : Bool := false
  /-- P (08 R204). DESIGN CHOICE reset. -/
  periodUs : Nat := 5000
  /-- phase (08 R204). DESIGN CHOICE reset. -/
  phaseUs : Nat := 0
  /-- link state code (08 R198). -/
  linkState : Nat := 0
  /-- gear (08 R198). -/
  gear : Nat := 0
  /-- coax state code (08 R199). -/
  coaxState : Nat := 0
  /-- failed retries (08 R199). -/
  coaxRetries : Nat := 0
  /-- next retry (08 R199). -/
  coaxRetryAt : Nat := 0
  /-- coax current (08 R196). DESIGN CHOICE reset. -/
  coaxCur : F32 := 0
  /-- frame number of the next sync instant (08 R201). -/
  frame : Nat := 0
  /-- last sync instant (08 R201). -/
  lastSync : Nat := 0
  /-- packet errors (08 R196). -/
  pktErrs : Nat := 0
  /-- sensors (08 R196). -/
  sensors : Tab CamSensor := []
  /-- running taps by sensor (08 R209). -/
  taps : Tab CamTap := []
  /-- sensors with a running tap (08 R209). -/
  tapOn : List Nat := []
  /-- queued back-channel transactions (08 R200). -/
  backch : List Req := []
  /-- decimation d (08 R206). -/
  decim : Nat := 1
  /-- ISP route (08 R206). -/
  route : Nat := 0
  /-- lamp host record region (08 R214). -/
  hostBuf : HostBuf := HostBuf.reset
  deriving DecidableEq, Repr

/-- CamPort at reset. -/
def CamPort.reset : CamPort := {}

/-- One lamp binding (R211) -/
structure Lamp where
  /-- 0 unbound 1 whole cycles 2 window (08 R211). DESIGN CHOICE reset. -/
  mode : Nat := 0
  /-- port (08 R211). DESIGN CHOICE reset. -/
  port : Nat := 0
  /-- sensor (08 R211). DESIGN CHOICE reset. -/
  sensor : Nat := 0
  /-- output (08 R211). DESIGN CHOICE reset. -/
  out : Nat := 0
  /-- N (08 R211). DESIGN CHOICE reset. -/
  n : Nat := 1
  /-- guard (08 R211). DESIGN CHOICE reset. -/
  guardUs : Nat := 0
  /-- configured offset ns (08 R211). DESIGN CHOICE reset. -/
  initOfs : Int := 0
  /-- offset in force ns (08 R212). -/
  offset : Int := 0
  /-- extension in force ns (08 R212). -/
  ext : Int := 0
  /-- 0 off 1 unlocked 2 locked 3 open loop (08 R214). -/
  state : Nat := 0
  /-- consecutive clean frames (08 R212). -/
  clean : Nat := 0
  /-- consecutive frames with head or tail rows, when locked (08 R212). -/
  dirty : Nat := 0
  /-- frame of the last host record (08 R214). -/
  frame : Nat := 0
  deriving DecidableEq, Repr

/-- Lamp at reset. -/
def Lamp.reset : Lamp := {}

/-- CAM unit -/
structure Cam where
  /-- ports (08 R196). -/
  ports : Tab CamPort := []
  /-- bindings (08 R211). -/
  lamps : Tab Lamp := []
  deriving DecidableEq, Repr

/-- Cam at reset. -/
def Cam.reset : Cam := {}

/-- One model input binding (R236) -/
structure CrownBind where
  /-- kind (09 R236). -/
  kind : Nat := 0
  /-- kind fields (09 R236). -/
  fields : List Byte := []
  deriving DecidableEq, Repr

/-- CrownBind at reset. -/
def CrownBind.reset : CrownBind := {}

/-- A sample of a windowed input (09 R223) -/
structure CrownSample where
  /-- its step j (09 R223). -/
  step : Nat := 0
  /-- stamp (09 R223). -/
  stamp : Nat := 0
  /-- camera: the scaled output with its frame header; lidar: the block (09 R208, R229). -/
  data : List Byte := []
  /-- camera: crop x, crop y, factor, width and height of the scaled output (09 R230). -/
  crop : List Nat := []
  deriving DecidableEq, Repr

/-- CrownSample at reset. -/
def CrownSample.reset : CrownSample := {}

/-- What a step is presented of one input (09 R223, R230) -/
structure CrownPres where
  /-- the sample (09 R223). -/
  sample : CrownSample := CrownSample.reset
  /-- depth plane of a camera: pixel, depth cm and intensity; 0 unlisted (09 R230). -/
  depth : Tab (Nat × Nat) := []
  /-- ground grid of a lidar: cell, height in 2 cm steps and count; 0 unlisted (09 R230). -/
  ground : Tab (Nat × Nat) := []
  /-- ground grid of a camera, cell by cell (09 R230). -/
  view : List Byte := []
  deriving DecidableEq, Repr

/-- CrownPres at reset. -/
def CrownPres.reset : CrownPres := {}

/-- One windowed input's run state (R223) -/
structure CrownIn where
  /-- first in-window samples held (09 R223). -/
  samples : List CrownSample := []
  /-- newest late sample to fold (09 R228). -/
  late : Option CrownSample := none
  /-- a gap sample was seen (09 R223). -/
  seenGap : Bool := false
  /-- gap count (09 R227). -/
  gapCount : Nat := 0
  /-- last gap stamp - nearest step instant, us (09 R242). -/
  lastGap : Int := 0
  /-- out of step (09 R227). -/
  out : Bool := false
  /-- rejoin count (09 R227). -/
  rejoin : Nat := 0
  deriving DecidableEq, Repr

/-- CrownIn at reset. -/
def CrownIn.reset : CrownIn := {}

/-- A model of the active graft set (R219) -/
structure ModelDecl where
  /-- shape (09 R220). -/
  shape : Nat := 0
  /-- kind of each input (09 R236). -/
  kinds : List Nat := []
  /-- type of each scalar output (09 R235). -/
  types : List Nat := []
  /-- type of each grid output (09 R235). -/
  grids : List Nat := []
  /-- state layout identifier (09 R234). -/
  layout : Nat := 0
  /-- host input set size (09 R236). -/
  inputSet : Nat := 0
  deriving DecidableEq, Repr

/-- ModelDecl at reset. -/
def ModelDecl.reset : ModelDecl := {}

/-- One model slot -/
structure StepHeader where
  /-- t_j (09 R224). -/
  tj : Nat := 0
  /-- ns since the previous executed step's instant (09 R224). -/
  since : Nat := 0
  /-- throttle level (09 R224). -/
  level : Nat := 0
  /-- present windowed inputs, bit per input (09 R224). -/
  present : Nat := 0
  /-- inputs with a folded late sample, bit per input (09 R224). -/
  late : Nat := 0
  /-- motion uncompensated (09 R224, R233). -/
  uncomp : Bool := false
  deriving DecidableEq, Repr

/-- A model slot (09). -/
structure CrownSlot where
  /-- 0 empty 1 loaded 2 running 3 stopped by failover (09 R236). -/
  state : Nat := 0
  /-- hosting unit (09 R236). -/
  unit : Nat := 0
  /-- model ID (09 R236). -/
  model : Nat := 0
  /-- its image's declaration (09 R236). -/
  decl : ModelDecl := ModelDecl.reset
  /-- S (09 R222). -/
  stepUs : Nat := 0
  /-- phase (09 R222). -/
  phaseUs : Nat := 0
  /-- K (09 R222). -/
  closeUs : Nat := 0
  /-- minimum present inputs (09 R224). -/
  minIn : Nat := 0
  /-- ground height (09 R236). -/
  ground : F32 := 0
  /-- bindings (09 R236). -/
  binds : Tab CrownBind := []
  /-- grid output descriptors (09 R235). -/
  bufs : Tab HostBuf := []
  /-- host input regions (09 R237). -/
  hostBuf : HostBuf := HostBuf.reset
  /-- windowed inputs (09 R223). -/
  ins : Tab CrownIn := []
  /-- next executed step (09 R226). -/
  nextStep : Nat := 0
  /-- last executed step (09 R236). -/
  lastStep : Nat := 0
  /-- steps in flight: j, release instant, 0 whole 1 below the minimum 2 halted (09 R225). -/
  releases : List (Nat × Nat × Nat) := []
  /-- header of the last step launched (09 R224). -/
  header : StepHeader := {}
  /-- calibrations that its inputs used there, by input (09 R230). -/
  cals : Tab (List Byte) := []
  /-- present samples and their projections there, by input (09 R223, R230). -/
  pres : Tab CrownPres := []
  /-- late channels there: folded samples and their projections, by input (09 R228). -/
  lateCh : Tab CrownPres := []
  /-- signal vectors read there, by input: ID, value, flags (09 R223). -/
  vectors : Tab (List (Nat × F32 × Nat)) := []
  /-- declaration of a new image that waits for the last release of the old (09 R234). -/
  pendDecl : Option ModelDecl := none
  /-- steps in flight with a transform for which motion was unknown (09 R233). -/
  uncomp : List Nat := []
  /-- executed steps, newest first, of the last 64 (09 R223). -/
  done : List Nat := []
  /-- state store as its mirror holds it; [] the image's initial state (09 R234). -/
  store : List Byte := []
  /-- release count (09 R235). -/
  count : Nat := 0
  /-- late folded (09 R236). -/
  folded : Nat := 0
  /-- late discarded (09 R236). -/
  discarded : Nat := 0
  /-- out-of-window and excluded (09 R236). -/
  outWin : Nat := 0
  /-- surplus (09 R236). -/
  surplus : Nat := 0
  /-- late samples of the last 10 s: at, folded (09 R228). -/
  recent : List (Nat × Bool) := []
  /-- last CROWN/LATE_DISCARD (09 R228). -/
  lateAt : Option Nat := none
  /-- host outputs accepted for the step in flight (09 R237). -/
  hostOut : List (Nat × F32 × Nat) := []
  /-- start command in force (09 R219). -/
  autoStart : Bool := false
  /-- CROWN/OVERRUN stands (09 R241). -/
  overrun : Bool := false
  deriving DecidableEq, Repr

/-- CrownSlot at reset. -/
def CrownSlot.reset : CrownSlot := {}

/-- One Crown unit -/
structure Pose where
  /-- sample instant (09 R232). -/
  stamp : Nat := 0
  /-- angular rates (09 R232). -/
  rates : List F32 := []
  /-- GNSS velocity, or wheel speed configured for GNSS (09 R232). -/
  vel : List F32 := []
  /-- the IMU signals were valid (09 R233). -/
  ok : Bool := false
  deriving DecidableEq, Repr

/-- A Crown unit (09). -/
structure CrownUnit where
  /-- throttle level (09 R225). -/
  level : Nat := 0
  /-- points projected in the last 1 s: instant, count (09 R219). -/
  points : List (Nat × Nat) := []
  /-- steps executed (09 R219). -/
  steps : Nat := 0
  /-- steps not executed under decimation (09 R219). -/
  skipped : Nat := 0
  /-- pose history of the last 2 s, newest first (09 R232). -/
  poses : List Pose := []
  deriving DecidableEq, Repr

/-- CrownUnit at reset. -/
def CrownUnit.reset : CrownUnit := {}

/-- Crown units and models -/
structure Crown where
  /-- units (09 R218). -/
  units : Tab CrownUnit := []
  /-- model slots (09 R219). -/
  slots : Tab CrownSlot := []
  /-- camera calibrations (09 R230). -/
  camCal : Tab (List Byte) := []
  /-- lidar calibrations (09 R230). -/
  lidCal : Tab (List Byte) := []
  /-- models of the active graft set (09 R219). -/
  models : List (Nat × ModelDecl) := []
  deriving DecidableEq, Repr

/-- Crown at reset. -/
def Crown.reset : Crown := {}

/-- One section (R253) -/
structure GranSection where
  /-- state signal (10 R253). -/
  sig : Nat := 65535
  /-- width m (10 R253). -/
  width : F32 := 0
  deriving DecidableEq, Repr

/-- GranSection at reset. -/
def GranSection.reset : GranSection := {}

/-- One history entry (R244) -/
structure GranHist where
  /-- epoch stamp (10 R244). -/
  stamp : Nat := 0
  /-- east (10 R244). -/
  east : F32 := 0
  /-- north (10 R244). -/
  north : F32 := 0
  /-- heading (10 R244). -/
  heading : F32 := 0
  /-- fix type (10 R244). -/
  fix : Nat := 0
  /-- active sections (10 R244). -/
  sections : Nat := 0
  deriving DecidableEq, Repr

/-- GranHist at reset. -/
def GranHist.reset : GranHist := {}

/-- One cell record (R249) -/
structure GranCell where
  /-- wet mass (10 R249). -/
  mass : F32 := 0
  /-- mapped area (10 R249). -/
  area : F32 := 0
  /-- moisture sum (10 R249). -/
  moist : F32 := 0
  /-- gap area (10 R249). -/
  gap : F32 := 0
  /-- first strip s (10 R249). -/
  first : Nat := 0
  /-- last strip s (10 R249). -/
  last : Nat := 0
  /-- strips (10 R249). -/
  strips : Nat := 0
  /-- flags (10 R249). -/
  flags : Nat := 0
  /-- lowest fix type (10 R249). -/
  fix : Nat := 0
  deriving DecidableEq, Repr

/-- GranCell at reset. -/
def GranCell.reset : GranCell := {}

/-- One tile -/
structure GranTile where
  /-- tile east index (10 R250). -/
  east : Int := 0
  /-- tile north index (10 R250). -/
  north : Int := 0
  /-- cells (10 R249). -/
  cells : Tab GranCell := []
  /-- cells as the Attic holds them (10 R251). -/
  saved : Tab GranCell := []
  /-- cells of a staged write (20 R439). -/
  stage : Option (Tab GranCell) := none
  /-- first change since the last write (10 R251). -/
  changed : Option Nat := none
  /-- last write in this epoch, Heartwood (10 R251). -/
  written : Option Nat := none
  /-- last write as the directory shows it, s from file creation (10 R250). -/
  sec : Option Nat := none
  /-- last write as the flash copy's directory has it (10 R250). -/
  secFlash : Option Nat := none
  deriving DecidableEq, Repr

/-- GranTile at reset. -/
def GranTile.reset : GranTile := {}

/-- A Granary file -/
structure GranFile where
  /-- field ID (10 R250). -/
  field : Nat := 0
  /-- resolution (10 R249). -/
  res : Nat := 0
  /-- origin latitude (10 R250). -/
  lat : F64 := 0
  /-- origin longitude (10 R250). -/
  lon : F64 := 0
  /-- creation GPS time (10 R250). -/
  created : Int := 0
  /-- creation Heartwood (10 R249). -/
  createdHw : Nat := 0
  /-- epoch of the creation (10 R249). -/
  epoch : Nat := 0
  /-- last write GPS time (10 R250). -/
  lastWrite : Int := 0
  /-- tiles (10 R249). -/
  tiles : List GranTile := []
  /-- total mass (10 R250). -/
  total : F32 := 0
  /-- mapped area (10 R250). -/
  area : F32 := 0
  /-- unmapped mass (10 R250). -/
  unmapped : F32 := 0
  /-- total, area, unmapped and correction factor of the header as last written (10 R250). -/
  head : List F32 := []
  /-- these and the last write in the flash copy (10 R250). -/
  headFlash : List F32 × Int := ([], 0)
  deriving DecidableEq, Repr

/-- GranFile at reset. -/
def GranFile.reset : GranFile := {}

/-- GRANARY unit -/
structure Granary where
  /-- flow signal (10 R253). DESIGN CHOICE reset. -/
  flowSig : Nat := 0
  /-- moisture signal (10 R253). DESIGN CHOICE reset. -/
  moistSig : Nat := 65535
  /-- transport delay 0.1 s (10 R253). DESIGN CHOICE reset. -/
  tau : Nat := 80
  /-- smoothing window 0.1 s (10 R253). DESIGN CHOICE reset. -/
  w : Nat := 0
  /-- width source (10 R253). DESIGN CHOICE reset. -/
  widthSrc : Nat := 0
  /-- Crown slot (10 R253). DESIGN CHOICE reset. -/
  slot : Nat := 0
  /-- crop side (10 R253). DESIGN CHOICE reset. -/
  side : Nat := 0
  /-- header offset (10 R253). DESIGN CHOICE reset. -/
  xOfs : F32 := 0
  /-- lateral offset (10 R253). DESIGN CHOICE reset. -/
  yOfs : F32 := 0
  /-- default moisture (10 R253). DESIGN CHOICE reset. -/
  defMoist : F32 := 0
  /-- GRANARY.CONFIG accepted (10 R253). -/
  configured : Bool := false
  /-- sections in use (10 R253). -/
  sections : List GranSection := []
  /-- list being built (10 R253). -/
  building : List GranSection := []
  /-- its total T (10 R253). -/
  buildTotal : Nat := 0
  /-- flow curve (10 R253). -/
  curve : List (F32 × F32) := []
  /-- configuration from the next period end (10 R253). -/
  pendCfg : Option (List Byte) := none
  /-- sections from the next period end (10 R253). -/
  pendSec : Option (List GranSection) := none
  /-- curve from the next period end (10 R253). -/
  pendCurve : Option (List (F32 × F32)) := none
  /-- updates of the flow signal in the period: value, flags, stamp (10 R246). -/
  flow : List (F32 × Nat × Nat) := []
  /-- history, newest first (10 R244). -/
  hist : List GranHist := []
  /-- swath widths by step instant (10 R244). -/
  widths : List (Nat × F32) := []
  /-- q_raw of the recent periods, newest first, none of an invalid one (10 R246). -/
  qs : List (Option F32) := []
  /-- open file (10 R254). -/
  file : Option GranFile := none
  /-- closed files in the Attic (10 R254). -/
  files : List GranFile := []
  /-- close in progress (10 R254). -/
  closing : Option Op := none
  /-- mapping starts at the next period end: 1 new, 2 reopened (10 R254). -/
  opening : Nat := 0
  /-- the closing file is mapped no more (10 R254). -/
  stopped : Bool := false
  /-- the open file is mapped (10 R254). -/
  mapping : Bool := false
  /-- state 3 (10 R252). -/
  full : Bool := false
  /-- width in use (10 R255). -/
  widthUse : Nat := 0
  /-- correction factor, 1.0 (10 R255). DESIGN CHOICE reset. -/
  corr : F32 := 1065353216
  /-- correction factor from the next period (10 R255). -/
  pendCorr : Option F32 := none
  /-- marked total (10 R255). -/
  marked : Option F32 := none
  /-- consecutive invalid periods (10 R246). -/
  badRun : Nat := 0
  /-- FLOW_INVALID stands (10 R246). -/
  flowBad : Bool := false
  /-- last WIDTH_FALLBACK (10 R247). -/
  fallbackAt : Option Nat := none
  /-- last UNMAPPED (10 R248). -/
  unmapAt : Option Nat := none
  /-- unmapped masses of the last 10 s: at, kg (10 R248). -/
  unmaps : List (Nat × F32) := []
  /-- stamps of tile writes in the last minute (10 R251). -/
  writes : List Nat := []
  /-- host regions (10 R256). -/
  hostBuf : HostBuf := HostBuf.reset
  /-- last host result: flow, moisture, its validity bit, default moisture (10 R256). -/
  hostQ : F32 × F32 × Bool × Bool := (0, 0, false, false)
  /-- end of the period awaiting its host result (10 R256). -/
  pend : Option Nat := none
  /-- the period awaiting its host result is mapped (10 R254). -/
  pendMap : Bool := false
  /-- period number (10 R256). -/
  k : Nat := 0
  deriving DecidableEq, Repr

/-- Granary at reset. -/
def Granary.reset : Granary := {}

/-- One OUT.CONFIG (R273) -/
structure OutCfg where
  /-- 0 off 1 static 2 PWM (11 R260). DESIGN CHOICE reset. -/
  mode : Nat := 0
  /-- reset policy (11 R271). DESIGN CHOICE reset. -/
  policy : Nat := 0
  /-- hardware default as configured (11 R271). DESIGN CHOICE reset. -/
  hwDefault : Bool := false
  /-- safety-tagged (11 R269). DESIGN CHOICE reset. -/
  tagged : Bool := false
  /-- lamp soft start (11 R261). DESIGN CHOICE reset. -/
  softStart : Bool := false
  /-- off-state check (11 R268). DESIGN CHOICE reset. -/
  offCheck : Bool := false
  /-- T (11 R260). DESIGN CHOICE reset. -/
  periodNs : Nat := 0
  /-- phase (11 R260). DESIGN CHOICE reset. -/
  phaseNs : Nat := 0
  /-- soft-start time (11 R261). DESIGN CHOICE reset. -/
  softMs : Nat := 0
  /-- test interval (11 R269). DESIGN CHOICE reset. -/
  testMs : Nat := 0
  /-- test pulse (11 R269). DESIGN CHOICE reset. -/
  pulseUs : Nat := 0
  /-- open-load threshold (11 R268). DESIGN CHOICE reset. -/
  openMa : Nat := 0
  /-- initial duty (11 R261). DESIGN CHOICE reset. -/
  softDuty : F32 := 0
  deriving DecidableEq, Repr

/-- OutCfg at reset. -/
def OutCfg.reset : OutCfg := {}

/-- One high-side channel -/
structure OutCh where
  /-- configuration in force (11 R260). DESIGN CHOICE reset. -/
  cfg : OutCfg := OutCfg.reset
  /-- hardware default, held by the Cellar (11 R273). DESIGN CHOICE reset. -/
  hwDefault : Bool := false
  /-- PART_ID of the last accepted OUT.CONFIG (11 R271). -/
  owner : Option Nat := none
  /-- configuration of a channel that stays in PWM, from the next period start (11 R273). -/
  pend : Option OutCfg := none
  /-- mailbox value (precedence 5) (11 R271). -/
  mailbox : F32 := 0
  /-- the next turn-on skips the soft start (11 R261). -/
  skip : Bool := false
  /-- lamp binding: P, phase, PWM periods in P, on-time in ns, window mode (08 R211). -/
  lamp : Option (Nat × Nat × Nat × Nat × Bool) := none
  /-- a lamp-bound output is forced off since (08 R213). -/
  darkFrom : Option Nat := none
  /-- the last intervals in which it was forced off, newest first (08 R213). -/
  dark : List (Nat × Nat) := []
  /-- its last on-times that a test off-pulse made start late, newest first (08 R213). -/
  lateOn : List (Nat × Nat) := []
  /-- control-engine value (4) (01 R34). -/
  engine : Option F32 := none
  /-- active rules forcing on (3) (18 R401). -/
  ruleOn : List Nat := []
  /-- active rules forcing off (2) (18 R401). -/
  ruleOff : List Nat := []
  /-- applied duty (11 R274). -/
  duty : F32 := 0
  /-- gate command (11 R262). -/
  on : Bool := false
  /-- off since (11 R264). -/
  offSince : Nat := 0
  /-- on since (11 R264, R268). -/
  onSince : Nat := 0
  /-- start of the soft-start ramp (11 R261). -/
  ramp : Option Nat := none
  /-- inrush window end (11 R264). -/
  inrushEnd : Option Nat := none
  /-- 0 none 1 over current 2 fast trip 3 inrush (Cellar, R510) (11 R264). -/
  latched : Nat := 0
  /-- thermal latch (Cellar) (11 R266). -/
  thermLatch : Bool := false
  /-- retry-PWM (11 R266). -/
  retryPwm : Bool := false
  /-- on-phase of retry-PWM (11 R266). -/
  retryOn : Bool := false
  /-- clamp contributions: end stamp, energy 0.1 mJ (11 R267). -/
  clamps : List (Nat × Nat) := []
  /-- own clamp lock since (11 R267). -/
  clampLock : Option Nat := none
  /-- open load (11 R268). -/
  openLoad : Bool := false
  /-- short to battery (11 R268). -/
  shortBat : Bool := false
  /-- the instant of the last open-load or short-to-battery diagnosis (11 R268). -/
  diagAt : Nat := 0
  /-- stuck-on diagnosis standing (11 R269). -/
  stuck : Bool := false
  /-- sense path fault (11 R265). -/
  senseFault : Bool := false
  /-- off by a Root fault (11 R270). -/
  safetyOff : Bool := false
  /-- test in progress: start and length us (11 R269). -/
  testing : Option (Nat × Nat) := none
  /-- that test is an off-pulse of a channel that is on (11 R269). -/
  pulse : Bool := false
  /-- a test is due and waits (11 R269). -/
  testDue : Bool := false
  /-- last sense code (11 R265). DESIGN CHOICE reset. -/
  code : Nat := 0
  /-- mean current of the last 1 ms (11 R265). DESIGN CHOICE reset. -/
  mean : F32 := 0
  /-- last on-phase current (11 R274). DESIGN CHOICE reset. -/
  current : F32 := 0
  /-- 0 free 1 body 2 fan 3 lamp (12 R292). -/
  bound : Nat := 0
  /-- instance of the binder (12 R292). -/
  boundBy : Nat := 0
  /-- driven by the Cellar (11 R272). -/
  parkDriven : Bool := false
  deriving DecidableEq, Repr

/-- OutCh at reset. -/
def OutCh.reset : OutCh := {}

/-- One power group -/
structure OutGroup where
  /-- die temperature, 0.1 degree (11 R266). DESIGN CHOICE reset. -/
  dieC : Int := 0
  /-- at the die limit (11 R266). -/
  hot : Bool := false
  /-- group shutdown (Cellar) (11 R266). -/
  shutdown : Bool := false
  /-- contributions: end stamp, energy 0.1 mJ (11 R267). -/
  clamps : List (Nat × Nat) := []
  /-- group clamp lock since (11 R267). -/
  lock : Option Nat := none
  deriving DecidableEq, Repr

/-- OutGroup at reset. -/
def OutGroup.reset : OutGroup := {}

/-- One park-hold slot (R272) -/
structure ParkHold where
  /-- output (11 R272). DESIGN CHOICE reset. -/
  out : Option Nat := none
  /-- pattern (11 R272). DESIGN CHOICE reset. -/
  flash : Bool := false
  /-- park states (11 R272). DESIGN CHOICE reset. -/
  states : Nat := 0
  /-- on time (11 R272). DESIGN CHOICE reset. -/
  onMs : Nat := 100
  /-- off time (11 R272). DESIGN CHOICE reset. -/
  offMs : Nat := 100
  /-- limit (11 R272). DESIGN CHOICE reset. -/
  limitMin : Nat := 0
  /-- the Cellar drives (11 R272). -/
  driving : Bool := false
  /-- pattern level (11 R272). -/
  level : Bool := false
  /-- the last pattern edge: thousandths of park periods in park, Heartwood ns after (11 R272). -/
  edgeAt : Nat := 0
  /-- park periods at the limit (11 R272). -/
  endAt : Option Nat := none
  /-- trip cause in park (11 R272). -/
  tripped : Nat := 0
  /-- park time s at the trip (11 R281). -/
  tripAt : Nat := 0
  deriving DecidableEq, Repr

/-- ParkHold at reset. -/
def ParkHold.reset : ParkHold := {}

/-- One H-bridge -/
structure Hb where
  /-- reset policy (11 R279). DESIGN CHOICE reset. -/
  policy : Nat := 0
  /-- PART_ID of the last accepted HB.CONFIG (11 R280). -/
  owner : Option Nat := none
  /-- safety-tagged (11 R270). DESIGN CHOICE reset. -/
  tagged : Bool := false
  /-- ripple counting (11 R277). DESIGN CHOICE reset. -/
  ripple : Bool := false
  /-- pinch in forward (11 R278). DESIGN CHOICE reset. -/
  pinchFwd : Bool := false
  /-- pinch in reverse (11 R278). DESIGN CHOICE reset. -/
  pinchRev : Bool := false
  /-- stall threshold 0.1 A (11 R279). DESIGN CHOICE reset. -/
  stallDa : Nat := 20
  /-- stall time (11 R279). DESIGN CHOICE reset. -/
  stallMs : Nat := 20
  /-- blanking (11 R278). DESIGN CHOICE reset. -/
  blankMs : Nat := 50
  /-- zone start (11 R278). DESIGN CHOICE reset. -/
  zoneLo : Int := 0
  /-- zone end (11 R278). DESIGN CHOICE reset. -/
  zoneHi : Int := 0
  /-- pinch current (11 R278). DESIGN CHOICE reset. -/
  pinchDa : Nat := 10
  /-- pinch ratio (11 R278). DESIGN CHOICE reset. -/
  pinchPct : Nat := 10
  /-- reverse count (11 R278). DESIGN CHOICE reset. -/
  revCount : Nat := 1
  /-- HB.CONFIG accepted (12 R292). -/
  configured : Bool := false
  /-- action in force (11 R276). -/
  action : Nat := 0
  /-- last direction driven was reverse (11 R277). -/
  dirNeg : Bool := false
  /-- duty (11 R279). -/
  duty : F32 := 0
  /-- move's command (11 R279). -/
  op : Option Op := none
  /-- stop at target (11 R279). -/
  target : Option Int := none
  /-- time limit (11 R279). -/
  limitAt : Option Nat := none
  /-- start of the move (11 R278). -/
  moveAt : Nat := 0
  /-- move after the reversal brake: end of the brake, action, duty (11 R279). -/
  revPend : Option (Nat × Nat × F32) := none
  /-- pinch reversal: phase, position at detection (11 R278). -/
  pinch : Option (Nat × Int) := none
  /-- position (Cellar SRAM) (11 R277). -/
  pos : Int := 0
  /-- after OFF unreliable (11 R277). -/
  reliable : Bool := false
  /-- last ripple periods us (11 R278). -/
  periods : List Nat := []
  /-- last ripple (11 R277). -/
  lastRipple : Option Nat := none
  /-- short-trip latch (Cellar) (11 R276). -/
  shorted : Bool := false
  /-- over temperature (11 R276). -/
  hot : Bool := false
  /-- safety off (11 R270). -/
  safetyOff : Bool := false
  /-- active rules forcing the bridge off (18 R401). -/
  ruleOff : List Nat := []
  /-- current (11 R276). DESIGN CHOICE reset. -/
  current : F32 := 0
  /-- the current limit cuts the PWM periods short (11 R276). -/
  cut : Bool := false
  /-- moves (11 R279). -/
  moves : Nat := 0
  /-- body service (12 R292). -/
  boundBy : Option Nat := none
  deriving DecidableEq, Repr

/-- Hb at reset. -/
def Hb.reset : Hb := {}

/-- OUT and HB units -/
structure Outs where
  /-- channels (11 R258). -/
  ch : Tab OutCh := []
  /-- power groups (11 R259). -/
  groups : Tab OutGroup := []
  /-- park-hold slots (11 R272). -/
  parkHold : Tab ParkHold := []
  /-- bridges (11 R276). -/
  hb : Tab Hb := []
  deriving DecidableEq, Repr

/-- Outs at reset. -/
def Outs.reset : Outs := {}

/-- One switch input -/
structure Sw where
  /-- threshold set (12 R285). DESIGN CHOICE reset. -/
  thr : Nat := 0
  /-- pull (12 R285). DESIGN CHOICE reset. -/
  pull : Nat := 0
  /-- wetting current (12 R283). DESIGN CHOICE reset. -/
  wet : Nat := 0
  /-- wetting mode (12 R283). DESIGN CHOICE reset. -/
  wetMode : Nat := 0
  /-- D (12 R284). DESIGN CHOICE reset. -/
  deb : Nat := 1
  /-- chatter count (12 R285). DESIGN CHOICE reset. -/
  chatN : Nat := 0
  /-- chatter window (12 R285). DESIGN CHOICE reset. -/
  chatMs : Nat := 10
  /-- change event (12 R284). DESIGN CHOICE reset. -/
  chgEvt : Bool := false
  /-- wake flag (12 R286). DESIGN CHOICE reset. -/
  wake : Bool := false
  /-- wake filter (12 R286). DESIGN CHOICE reset. -/
  wakeFilt : Nat := 1
  /-- wake-stuck time, default 60 s (12 R287). -/
  stuckS : Nat := 60
  /-- configuration from the next sample (12 R285). -/
  pend : Option (List Byte) := none
  /-- last level, active (12 R282). -/
  level : Bool := false
  /-- debounced state (12 R284). -/
  state : Bool := false
  /-- consecutive samples of the present level (12 R284). -/
  run : Nat := 0
  /-- first sample of that level (12 R301). -/
  runAt : Nat := 0
  /-- transition stamps in the chatter window (12 R285). -/
  trans : List Nat := []
  /-- in CHATTER (12 R285). -/
  chatter : Bool := false
  /-- active without a break since (12 R287). -/
  actSince : Option Nat := none
  /-- removed from the wake set since (12 R287). -/
  removed : Option Nat := none
  /-- consecutive checks in park (12 R286). -/
  checks : Nat := 0
  /-- wetting current through the contact at the last sample or check, uA (12 R283, R286). -/
  wetUa : Nat := 0
  /-- for how long up to that sample or check it flows, ns; 0 without a break (12 R283, R286). -/
  wetNs : Nat := 0
  /-- current between samples or checks, uA (12 R283). -/
  keepUa : Nat := 0
  deriving DecidableEq, Repr

/-- Sw at reset. -/
def Sw.reset : Sw := {}

/-- SWIN unit -/
structure Swin where
  /-- inputs (12 R282). -/
  sw : Tab Sw := []
  /-- us word at the last sample (12 R285). -/
  lastUs : Nat := 0
  /-- events stored in park (Cellar SRAM) (12 R287). -/
  parkEvents : List Event := []
  deriving DecidableEq, Repr

/-- Swin at reset. -/
def Swin.reset : Swin := {}

/-- One LIN schedule entry -/
structure LinEntry where
  /-- frame ID (12 R288). -/
  id : Nat := 0
  /-- type (12 R288). -/
  type : Nat := 0
  /-- length (12 R288). -/
  len : Nat := 1
  /-- flags (12 R288). -/
  flags : Nat := 0
  /-- slot time (12 R288). -/
  slotMs : Nat := 0
  /-- collision table (12 R288). -/
  coll : Nat := 0
  deriving DecidableEq, Repr

/-- LinEntry at reset. -/
def LinEntry.reset : LinEntry := {}

/-- Data of one LIN frame ID -/
structure LinFrame where
  /-- last data (12 R289). -/
  data : List Byte := []
  /-- length (12 R291). -/
  len : Nat := 0
  /-- written since it last went out (12 R289). -/
  fresh : Bool := false
  /-- received (12 R291). -/
  ever : Bool := false
  /-- stale (12 R291). -/
  stale : Bool := false
  /-- last response end (12 R291). -/
  stamp : Nat := 0
  /-- slots missed (12 R291). -/
  missed : Nat := 0
  deriving DecidableEq, Repr

/-- LinFrame at reset. -/
def LinFrame.reset : LinFrame := {}

/-- One LIN master -/
structure LinCh where
  /-- enabled (12 R288). DESIGN CHOICE reset. -/
  enable : Bool := false
  /-- bit rate (12 R288). DESIGN CHOICE reset. -/
  rate : Nat := 2400
  /-- tables (12 R288). -/
  tables : Tab (List LinEntry) := []
  /-- frames (12 R289). -/
  frames : Tab LinFrame := []
  /-- running table (12 R289). -/
  running : Option Nat := none
  /-- next entry (12 R289). -/
  entry : Nat := 0
  /-- table from the next slot (12 R289). -/
  nextTable : Option Nat := none
  /-- table and entry after a collision table (12 R289). -/
  resume : Option (Nat × Nat) := none
  /-- go-to-sleep in the next slot (12 R290). -/
  sleepReq : Bool := false
  /-- asleep (12 R290). -/
  asleep : Bool := false
  /-- table the master last ran (12 R290). -/
  slept : Option Nat := none
  /-- start of the next slot (12 R288). -/
  slotAt : Nat := 0
  /-- headers read back wrong in a row (12 R291). -/
  hdrBad : Nat := 0
  /-- frame last sent: ID and data (12 R289). -/
  sent : Option (Nat × List Byte) := none
  /-- wake pulse last sent: start, end (12 R290). -/
  pulse : Option (Nat × Nat) := none
  /-- table start after a wake pulse: instant, table (12 R290). -/
  startAt : Option (Nat × Nat) := none
  /-- bus fault (12 R291). -/
  fault : Bool := false
  /-- next retry (12 R291). -/
  retryAt : Nat := 0
  /-- clean frames since (12 R291). -/
  cleanSince : Option Nat := none
  /-- frames since start (12 R291). -/
  count : Nat := 0
  deriving DecidableEq, Repr

/-- LinCh at reset. -/
def LinCh.reset : LinCh := {}

/-- One input source -/
structure BodySrc where
  /-- kind (12 R292). DESIGN CHOICE reset. -/
  kind : Nat := 0
  /-- a (12 R292). DESIGN CHOICE reset. -/
  a : Nat := 0
  /-- b (12 R292). DESIGN CHOICE reset. -/
  b : Nat := 0
  deriving DecidableEq, Repr

/-- BodySrc at reset. -/
def BodySrc.reset : BodySrc := {}

/-- One body service -/
structure BodySvc where
  /-- kind (12 R292). DESIGN CHOICE reset. -/
  kind : Nat := 0
  /-- sources (12 R292). DESIGN CHOICE reset. -/
  srcs : List BodySrc := []
  /-- outputs (12 R292). DESIGN CHOICE reset. -/
  outs : List Nat := []
  /-- P0-P7 (12 R292). DESIGN CHOICE reset. -/
  params : List Nat := []
  /-- last BODY.REQUEST level (12 R293). -/
  cmd : Nat := 0
  /-- effective request (12 R293). -/
  eff : Nat := 0
  /-- sources read since the configuration or the trunk start (12 R293). -/
  seen : Bool := false
  /-- sources active (12 R293). -/
  act : Nat := 0
  /-- sources invalid (12 R293). -/
  inv : Nat := 0
  /-- state, as the model numbers the phases; the code reported is Config.bodyStateCode of it (12 R301). The model's own. -/
  state : Nat := 0
  /-- outputs applied (12 R298). -/
  applied : Nat := 0
  /-- activations (12 R298). -/
  count : Nat := 0
  /-- flash phase (12 R294). -/
  phaseOn : Bool := false
  /-- next phase change (12 R294). -/
  phaseAt : Nat := 0
  /-- flash phase of the right side (12 R294). -/
  phaseOn2 : Bool := false
  /-- next phase change of the right side (12 R294). -/
  phaseAt2 : Nat := 0
  /-- on-phases begun since the phase restarted (12 R294). -/
  flashes : Nat := 0
  /-- park-hold slots armed for the hazard flash (12 R294). -/
  parkSlots : List Nat := []
  /-- code of the last BODY.REQUEST (12 R299). -/
  lastReq : Nat := 0
  /-- the move in progress was asked for by a source (12 R296). -/
  bySrc : Bool := false
  /-- the wipe has left park (12 R295). -/
  wipeLeft : Bool := false
  /-- most recently asserted of left and right (12 R293). -/
  newest : Nat := 0
  /-- activation stamps of the sources (12 R294). -/
  srcSince : List Nat := []
  /-- comfort flashes left (12 R294). -/
  comfort : Nat := 0
  /-- sides with BODY/LAMP_OUT (12 R294). -/
  lampOut : Nat := 0
  /-- 0 stopped 1 running 2 park run 3 interval wait 4 changeover 5 single wipe (12 R295). -/
  wipePhase : Nat := 0
  /-- phase timer (12 R295). -/
  wipeAt : Nat := 0
  /-- lock cycles of the last 30 s (12 R297). -/
  cycles : List Nat := []
  /-- inhibit end (12 R297). -/
  inhibitEnd : Option Nat := none
  /-- lock pulse end (12 R297). -/
  pulseEnd : Option Nat := none
  /-- crash unlock in progress (12 R297). -/
  crash : Bool := false
  /-- auto-up inhibit end (12 R296). -/
  autoInhibit : Option Nat := none
  /-- request on since (12 R298). -/
  onSince : Option Nat := none
  /-- switched off by maximum-on (12 R298). -/
  maxed : Bool := false
  /-- delay-off end (12 R298). -/
  offAt : Option Nat := none
  deriving DecidableEq, Repr

/-- BodySvc at reset. -/
def BodySvc.reset : BodySvc := {}

/-- BODY and LIN units -/
structure Body where
  /-- services (12 R292). -/
  svcs : Tab BodySvc := []
  /-- host record region (12 R299). -/
  hostBuf : HostBuf := HostBuf.reset
  /-- LIN masters (12 R288). -/
  lin : Tab LinCh := []
  deriving DecidableEq, Repr

/-- Body at reset. -/
def Body.reset : Body := {}

/-- One fan -/
structure FanCh where
  /-- bound (13 R302). -/
  bound : Bool := false
  /-- 0 off 1 table 2 commanded (13 R306). DESIGN CHOICE reset. -/
  mode : Nat := 0
  /-- output (13 R302). DESIGN CHOICE reset. -/
  out : Nat := 0
  /-- tach (13 R305). DESIGN CHOICE reset. -/
  tach : Bool := false
  /-- pulses per revolution (13 R304). DESIGN CHOICE reset. -/
  ppr : Nat := 1
  /-- PWM frequency (13 R303). DESIGN CHOICE reset. -/
  hz : Nat := 20
  /-- stretch interval (13 R304). DESIGN CHOICE reset. -/
  strMs : Nat := 100
  /-- stretch maximum (13 R304). DESIGN CHOICE reset. -/
  strMax : Nat := 5
  /-- temperature signal (13 R306). DESIGN CHOICE reset. -/
  tempSig : Nat := 65535
  /-- hysteresis (13 R306). DESIGN CHOICE reset. -/
  hyst : Nat := 2
  /-- run current minimum (13 R311). DESIGN CHOICE reset. -/
  runMin : Nat := 0
  /-- run current maximum (13 R310). DESIGN CHOICE reset. -/
  runMax : Nat := 0
  /-- resonance bands % (13 R307). DESIGN CHOICE reset. -/
  bands : List (Nat × Nat) := []
  /-- table (13 R306). DESIGN CHOICE reset. -/
  table : List (F32 × F32) := []
  /-- configuration for the next period (13 R302). -/
  pend : Option (List Byte) := none
  /-- last FAN.SET (13 R306). DESIGN CHOICE reset. -/
  cmd : F32 := 0
  /-- window that last sent FAN.SET or KEEPER.MODE (13 R308). -/
  cmdWin : Option Nat := none
  /-- last FAN.RESULT (13 R313). DESIGN CHOICE reset. -/
  hostDuty : F32 := 0
  /-- Th (13 R306). -/
  th : Option F32 := none
  /-- applied duty (13 R307). -/
  duty : F32 := 0
  /-- on-phase (13 R303). -/
  onPhase : Bool := false
  /-- start of the on-phase (13 R304). -/
  onAt : Nat := 0
  /-- 0 off/running 1 kick 2 retry wait 3 locked (13 R313). -/
  phase : Nat := 0
  /-- kick start (13 R309). -/
  kickAt : Nat := 0
  /-- retry instant (13 R310). -/
  retryAt : Nat := 0
  /-- failed kicks (13 R310). -/
  fails : Nat := 0
  /-- FAN/BLOCKED stands (13 R310). -/
  blocked : Bool := false
  /-- FAN/TACH_LOST stands (13 R311). -/
  tachLost : Bool := false
  /-- FAN/SENSOR stands (13 R306). -/
  sensorBad : Bool := false
  /-- full-drive causes (13 R308). -/
  causes : Nat := 0
  /-- last speed (13 R305). DESIGN CHOICE reset. -/
  speed : F32 := 0
  /-- last measurement (13 R311). -/
  speedAt : Nat := 0
  /-- the instant from which the 2 s without a speed count (13 R310, R311). -/
  tachAt : Nat := 0
  /-- last rising edge of this on-phase (13 R304). -/
  edgeAt : Option Nat := none
  /-- length of the on-phase (13 R303). -/
  onLen : Nat := 0
  /-- on-time the periods within the stretch would have had (13 R304). -/
  spanned : Nat := 0
  /-- stretching (13 R304). -/
  stretch : Bool := false
  /-- start of the last stretch (13 R304). -/
  strAt : Nat := 0
  /-- surplus on-time to remove (13 R304). -/
  surplus : Nat := 0
  /-- output current (13 R313). DESIGN CHOICE reset. -/
  current : F32 := 0
  deriving DecidableEq, Repr

/-- FanCh at reset. -/
def FanCh.reset : FanCh := {}

/-- PLATE unit -/
structure Plate where
  /-- width (14 R317). DESIGN CHOICE reset. -/
  width : Nat := 0
  /-- height (14 R317). DESIGN CHOICE reset. -/
  height : Nat := 0
  /-- temperature signal (14 R320). DESIGN CHOICE reset. -/
  tempSig : Nat := 0
  /-- SCK MHz (14 R316). DESIGN CHOICE reset. -/
  sck : Nat := 4
  /-- VSH 0.1 V (14 R316). DESIGN CHOICE reset. -/
  vsh : Nat := 100
  /-- waveform table (14 R317). DESIGN CHOICE reset. -/
  wave : Option (List Byte) := none
  /-- rails on (14 R316). -/
  railOn : Bool := false
  /-- the rails are switched off since (14 R316). -/
  railOff : Option Nat := none
  /-- update's command (14 R320). -/
  op : Option Op := none
  /-- the update is the park image (14 R322). -/
  park : Bool := false
  /-- band (14 R320). -/
  band : Nat := 0
  /-- frame (14 R318). -/
  frame : Nat := 0
  /-- a frame is being driven (14 R318). -/
  busy : Bool := false
  /-- start of the frame (14 R318). -/
  frameAt : Nat := 0
  /-- drive-code plane last sent (14 R318). -/
  plane : List Byte := []
  /-- acceptance (14 R320). -/
  startAt : Nat := 0
  /-- rails switched off after the last frame (14 R320). -/
  offAt : Option Nat := none
  /-- image being written (14 R320). -/
  image : List Byte := []
  /-- old image (14 R319). -/
  old : List Byte := []
  /-- old image known (14 R319). -/
  oldKnown : Bool := false
  /-- PLATE/CRACK stands (14 R320). -/
  crack : Bool := false
  /-- updates since OFF (14 R320). -/
  updates : Nat := 0
  /-- park base image (14 R322). DESIGN CHOICE reset. -/
  base : Option (List Byte) := none
  /-- fault count (14 R322). DESIGN CHOICE reset. -/
  parkFaults : Nat := 0
  /-- text x (14 R322). DESIGN CHOICE reset. -/
  parkX : Nat := 0
  /-- text y (14 R322). DESIGN CHOICE reset. -/
  parkY : Nat := 0
  /-- machine ID (14 R322). DESIGN CHOICE reset. -/
  parkId : List Byte := []
  /-- PLATE/DONE to post at the next trunk start (14 R322). -/
  pendDone : Option (List Nat) := none
  deriving DecidableEq, Repr

/-- Plate at reset. -/
def Plate.reset : Plate := {}

/-- One receive queue (R333-R336) -/
structure CanQueue where
  /-- 0 unbound 1 window 2 GNSS (15 R333). DESIGN CHOICE reset. -/
  consumer : Nat := 0
  /-- PART_ID (15 R333). DESIGN CHOICE reset. -/
  win : Nat := 0
  /-- descriptor (15 R333). DESIGN CHOICE reset. -/
  desc : Nat := 0
  /-- notify threshold (15 R336). DESIGN CHOICE reset. -/
  thr : Nat := 1
  /-- notify age (15 R336). DESIGN CHOICE reset. -/
  ageMs : Nat := 1
  /-- producer index (15 R334). -/
  prod : Nat := 0
  /-- consumer index last read valid (15 R335). -/
  cons : Nat := 0
  /-- dropped (15 R334). -/
  dropped : Nat := 0
  /-- CAN/QUEUE_OVERFLOW stands (15 R335). -/
  overflow : Bool := false
  /-- CAN/RX posted, not all acknowledged (15 R336). -/
  notified : Bool := false
  /-- posting instants of the unacknowledged entries (15 R336). -/
  posts : List Nat := []
  /-- Keeper-internal ring (GNSS) (15 R333). -/
  ring : List (List Byte) := []
  deriving DecidableEq, Repr

/-- CanQueue at reset. -/
def CanQueue.reset : CanQueue := {}

/-- State of one high-priority match (R337-R338) -/
structure HpMatch where
  /-- term (15 R337). -/
  term : Bool := false
  /-- last passing frame, or commit (15 R337). -/
  lastAt : Option Nat := none
  /-- frame stamp of the last passing frame (15 R338). -/
  stamp : Nat := 0
  /-- its ID (15 R338). -/
  id : Nat := 0
  /-- its length (15 R338). -/
  len : Nat := 0
  /-- its data (15 R338). -/
  data : List Byte := []
  /-- passing frames (15 R338). -/
  passes : Nat := 0
  deriving DecidableEq, Repr

/-- HpMatch at reset. -/
def HpMatch.reset : HpMatch := {}

/-- Run state of one TX object by head index (R342-R343) -/
structure TxState where
  /-- 0 idle 1 pending 2 transmitting (15 R343). -/
  state : Nat := 0
  /-- last outcome (15 R343). -/
  outcome : Nat := 0
  /-- frames sent (15 R343). -/
  sent : Nat := 0
  /-- one-shot failures (15 R343). -/
  fails : Nat := 0
  /-- overruns (15 R342). -/
  overruns : Nat := 0
  /-- stamp of the last frame sent (15 R343). -/
  stamp : Nat := 0
  /-- pending payload (15 R341). -/
  payload : List Byte := []
  /-- payload stored by CAN.SEND (15 R344). -/
  stored : Option (List Byte) := none
  /-- last request (15 R341). -/
  lastReq : Option Nat := none
  /-- requests since the object was idle: payload and instant, oldest first (15 R342). -/
  reqs : List (List Byte × Nat) := []
  /-- CAN.SEND commands awaiting confirmation, with their instants (15 R344). -/
  confirm : List (Nat × Op) := []
  /-- stamps of the packed signals at the last on-change request (15 R341). -/
  seen : List Nat := []
  /-- sent in an exclusive slot (15 R343). -/
  exclusive : Bool := false
  deriving DecidableEq, Repr

/-- TxState at reset. -/
def TxState.reset : TxState := {}

/-- One frame in a gateway FIFO -/
structure GwFrame where
  /-- source channel (15 R348). -/
  src : Nat := 0
  /-- ID (15 R348). -/
  id : Nat := 0
  /-- FD (15 R348). -/
  fd : Bool := false
  /-- bit-rate switch (15 R348). -/
  brs : Bool := false
  /-- data (15 R348). -/
  data : List Byte := []
  /-- arrival (15 R350). -/
  arrAt : Nat := 0
  /-- held for a sleeping destination (15 R350). -/
  held : Bool := false
  deriving DecidableEq, Repr

/-- GwFrame at reset. -/
def GwFrame.reset : GwFrame := {}

/-- One transport session (R351) -/
structure TpSession where
  /-- in use (15 R351). -/
  active : Bool := false
  /-- send session (15 R351). -/
  send : Bool := false
  /-- 0 BAM 1 TP 2 ETP (15 R352). -/
  kind : Nat := 0
  /-- peer address (15 R351). -/
  peer : Nat := 0
  /-- destination address (15 R352). -/
  dest : Nat := 0
  /-- PGN (15 R352). -/
  pgn : Nat := 0
  /-- priority (15 R353). -/
  prio : Nat := 0
  /-- message length (15 R351). -/
  total : Nat := 0
  /-- packets moved (15 R351). -/
  packets : Nat := 0
  /-- packets up to the end of the present CTS window (15 R351). -/
  window : Nat := 0
  /-- packet offset of the last ETP DPO (15 R351). -/
  dpo : Nat := 0
  /-- packets per CTS the sender allows (15 R351). -/
  maxCts : Nat := 255
  /-- timeout in force, 0 none (15 R351). -/
  tmo : Nat := 0
  /-- data received or to send (15 R351). -/
  data : List Byte := []
  /-- CAN.TP_SEND command (15 R353). -/
  op : Option Op := none
  /-- descriptor read (15 R353). -/
  desc : Nat := 0
  /-- last activity, for the timeouts (15 R351). -/
  lastAt : Nat := 0
  /-- next BAM packet (15 R351). -/
  nextAt : Nat := 0
  deriving DecidableEq, Repr

/-- TpSession at reset. -/
def TpSession.reset : TpSession := {}

/-- Time-triggered schedule of a channel (R345) -/
structure CanSched where
  /-- role (15 R345). DESIGN CHOICE reset. -/
  role : Nat := 0
  /-- matrix cycles (15 R345). DESIGN CHOICE reset. -/
  matrix : Nat := 1
  /-- reference ID (15 R345). DESIGN CHOICE reset. -/
  refId : Nat := 0
  /-- cycle length (15 R345). DESIGN CHOICE reset. -/
  cycleUs : Nat := 1000
  /-- phase (15 R345). DESIGN CHOICE reset. -/
  phaseUs : Nat := 0
  /-- backup delay (15 R345). DESIGN CHOICE reset. -/
  backupUs : Nat := 100
  deriving DecidableEq, Repr

/-- CanSched at reset. -/
def CanSched.reset : CanSched := {}

/-- One CAN channel -/
structure CanCh where
  /-- mode (15 R326). DESIGN CHOICE reset. -/
  mode : Nat := 0
  /-- FD (15 R326). DESIGN CHOICE reset. -/
  fd : Bool := false
  /-- termination (15 R324). DESIGN CHOICE reset. -/
  term : Bool := false
  /-- automatic recovery (15 R325). DESIGN CHOICE reset. -/
  autoRec : Bool := false
  /-- arbitration sample point (15 R326). DESIGN CHOICE reset. -/
  spArb : Nat := 0
  /-- data sample point (15 R326). DESIGN CHOICE reset. -/
  spData : Nat := 0
  /-- arbitration rate (15 R326). DESIGN CHOICE reset. -/
  rateArb : Nat := 0
  /-- data rate (15 R326). DESIGN CHOICE reset. -/
  rateData : Nat := 0
  /-- 0 off 1 active 2 passive 3 bus off 4 asleep (15 R325). -/
  state : Nat := 0
  /-- waits for 11 recessive bits (15 R326). -/
  joining : Bool := false
  /-- counting the 128 occurrences (15 R325). -/
  recovering : Bool := false
  /-- transmit error count (15 R325). -/
  tecErr : Nat := 0
  /-- receive error count (15 R325). -/
  recErr : Nat := 0
  /-- frames received (15 R354). -/
  rx : Nat := 0
  /-- frames transmitted (15 R354). -/
  tx : Nat := 0
  /-- error frames (15 R354). -/
  errs : Nat := 0
  /-- gateway drops (15 R349). -/
  gwDrops : Nat := 0
  /-- drops of the last 1 s: at, cause (15 R349). -/
  dropSecs : List (Nat × Nat) := []
  /-- last CAN/ROUTE_DROP (15 R349). -/
  dropAt : Option Nat := none
  /-- bus-off entries (15 R325). -/
  busOffs : Nat := 0
  /-- queues (15 R333). -/
  queues : Tab CanQueue := []
  /-- match states (15 R337). -/
  hpms : Tab HpMatch := []
  /-- gateway FIFO (15 R349). -/
  fifo : List GwFrame := []
  /-- schedule (15 R345). DESIGN CHOICE reset. -/
  sched : CanSched := CanSched.reset
  /-- from the next basic cycle (15 R345). -/
  pendSched : Option CanSched := none
  /-- this node sends the reference now (15 R345). -/
  backup : Bool := false
  /-- cycle count (15 R345). -/
  cycle : Nat := 0
  /-- start of frame of the last reference (15 R346). -/
  lastRef : Option Nat := none
  /-- synchronised (15 R346). -/
  synced : Bool := false
  /-- CAN/SCHEDULE_LOST stands (15 R346). -/
  schedLost : Bool := false
  /-- transport enabled (15 R351). DESIGN CHOICE reset. -/
  tpOn : Bool := false
  /-- source address (15 R351). DESIGN CHOICE reset. -/
  tpAddr : Nat := 0
  /-- packets per CTS (15 R351). DESIGN CHOICE reset. -/
  tpCts : Nat := 1
  /-- BAM spacing (15 R351). DESIGN CHOICE reset. -/
  tpBamMs : Nat := 50
  /-- window of the receive region (15 R351). DESIGN CHOICE reset. -/
  tpWin : Nat := 0
  /-- receive descriptor (15 R351). DESIGN CHOICE reset. -/
  tpDesc : Nat := 0
  /-- producer byte count (15 R352). -/
  tpProd : Nat := 0
  /-- consumer byte count (15 R352). -/
  tpCons : Nat := 0
  /-- messages refused (15 R352). -/
  tpRefused : Nat := 0
  /-- transport sessions (15 R351). -/
  sessions : List TpSession := []
  /-- frames of Keeper's own entries waiting: references, ring messages, transport (15 R328). -/
  keeperTx : List GwFrame := []
  /-- transport frames received in a Keeper pause: ID, data (15 R355). -/
  tpHeld : List (Nat × List Byte) := []
  /-- host-assisted transport answers awaited: peer, since, ETP (15 R354). -/
  hostWait : List (Nat × Nat × Bool) := []
  /-- packets still to come in a window the host asked for, by peer (15 R354). -/
  hostWin : List (Nat × Nat) := []
  /-- NM.CANWAKE settings for the next sleep (17 R385). -/
  wakePend : Option (List Byte) := none
  /-- transceiver wake mode (17 R379). DESIGN CHOICE reset. -/
  wakeMode : Nat := 0
  /-- filter time 0.1 us (17 R379). DESIGN CHOICE reset. -/
  wakeFilt : Nat := 5
  /-- overflow wakes (17 R379). DESIGN CHOICE reset. -/
  wakeOvf : Bool := false
  /-- DLC (17 R379). DESIGN CHOICE reset. -/
  wakeDlc : Nat := 0
  /-- ID (17 R379). DESIGN CHOICE reset. -/
  wakeId : Nat := 0
  /-- ID mask (17 R379). DESIGN CHOICE reset. -/
  wakeMask : Nat := 0
  /-- rate (17 R379). DESIGN CHOICE reset. -/
  wakeRate : Nat := 125
  /-- data mask (17 R379). DESIGN CHOICE reset. -/
  wakeData : List Byte := []
  /-- transceiver asleep (15 R324). -/
  asleep : Bool := false
  deriving DecidableEq, Repr

/-- CanCh at reset. -/
def CanCh.reset : CanCh := {}

/-- CAN unit -/
structure Can where
  /-- channels (15 R323). -/
  ch : Tab CanCh := []
  /-- Pantry entries (32 bytes; absent = type 0) (15 R327). -/
  pantry : Tab (List Byte) := []
  /-- accepted write not yet committed (15 R330). -/
  pendPantry : List (Nat × List Byte) := []
  /-- TX objects by head index (15 R342). -/
  tx : Tab TxState := []
  /-- last matching frame (or commit) per filter index (15 R332). -/
  sigTimeouts : Tab Nat := []
  deriving DecidableEq, Repr

/-- Can at reset. -/
def Can.reset : Can := {}

/-- One lidar stream (R363) -/
structure EthLidar where
  /-- enabled (16 R363). DESIGN CHOICE reset. -/
  on : Bool := false
  /-- ETH port (16 R363). DESIGN CHOICE reset. -/
  port : Nat := 0
  /-- UDP port (16 R363). DESIGN CHOICE reset. -/
  udp : Nat := 0
  /-- VLAN (16 R363). DESIGN CHOICE reset. -/
  vlan : Nat := 0
  /-- block being reassembled (16 R363). -/
  seq : Option Nat := none
  /-- its first fragment (16 R363). -/
  firstAt : Nat := 0
  /-- fragment count (16 R363). -/
  want : Nat := 0
  /-- fragments (16 R363). -/
  frags : Tab (List Byte) := []
  /-- blocks dropped (16 R363). -/
  dropped : Nat := 0
  /-- last ETH/LIDAR_DROP (16 R363). -/
  dropAt : Option Nat := none
  /-- drops of the last 1 s (16 R363). -/
  drops : List Nat := []
  /-- ETH/LIDAR_DROP stands (16 R363). -/
  raised : Bool := false
  deriving DecidableEq, Repr

/-- EthLidar at reset. -/
def EthLidar.reset : EthLidar := {}

/-- A host ring pair (R365) -/
structure EthRing where
  /-- bound (16 R365). DESIGN CHOICE reset. -/
  on : Bool := false
  /-- receive descriptor (16 R365). DESIGN CHOICE reset. -/
  rxDesc : Nat := 0
  /-- transmit descriptor (16 R365). DESIGN CHOICE reset. -/
  txDesc : Nat := 0
  /-- receive producer (16 R365). -/
  rxProd : Nat := 0
  /-- receive consumer (16 R365). -/
  rxCons : Nat := 0
  /-- transmit producer (16 R365). -/
  txProd : Nat := 0
  /-- transmit consumer (16 R365). -/
  txCons : Nat := 0
  /-- dropped (16 R365). -/
  dropped : Nat := 0
  /-- ETH/RING_OVERFLOW stands (16 R365). -/
  overflow : Bool := false
  /-- frame the transmit ring last gave the switch (16 R365). -/
  sent : Option (List Byte) := none
  deriving DecidableEq, Repr

/-- EthRing at reset. -/
def EthRing.reset : EthRing := {}

/-- One Ethernet port -/
structure EthPort where
  /-- enabled (16 R360). DESIGN CHOICE reset. -/
  enable : Bool := false
  /-- T1 master (16 R360). DESIGN CHOICE reset. -/
  master : Bool := false
  /-- time flag (16 R360). DESIGN CHOICE reset. -/
  time : Bool := false
  /-- TC10 flag (16 R360). DESIGN CHOICE reset. -/
  tc10 : Bool := false
  /-- IPv4 address (16 R360). DESIGN CHOICE reset. -/
  ip : Nat := 0
  /-- gate phase (16 R361). DESIGN CHOICE reset. -/
  gatePhase : Nat := 0
  /-- gate list in force (16 R361). DESIGN CHOICE reset. -/
  gates : List (Nat × Nat) := []
  /-- new list and earliest start (16 R361). -/
  pendGates : Option (List (Nat × Nat) × Nat) := none
  /-- last cycle start (16 R361). -/
  cycleAt : Nat := 0
  /-- link up (16 R368). -/
  link : Bool := false
  /-- link up since (16 R368). -/
  upAt : Nat := 0
  /-- ETH/LINK_DOWN stands (16 R368). -/
  linkDown : Bool := false
  /-- gPTP port state (16 R368). -/
  gptp : Nat := 0
  /-- signal quality (16 R368). DESIGN CHOICE reset. -/
  quality : Nat := 0
  /-- speed (16 R368). DESIGN CHOICE reset. -/
  speed : Nat := 0
  /-- grandmaster identity, low word (16 R368). -/
  gm : Nat := 0
  /-- peer delay (16 R368). DESIGN CHOICE reset. -/
  delay : Nat := 0
  /-- frames dropped at egress (16 R368). -/
  drops : Nat := 0
  /-- PHY asleep (17 R382). -/
  asleep : Bool := false
  /-- frame last sent out of the port (16 R359). -/
  sent : Option (List Byte) := none
  /-- the egress queue of that frame (16 R359). -/
  sentQueue : Nat := 0
  /-- the instant at which that frame starts (16 R361). -/
  sentAt : Nat := 0
  /-- the egress is in use until (16 R359). -/
  busyTo : Nat := 0
  /-- ARP and echo requests answered (16 R362). -/
  answers : Nat := 0
  deriving DecidableEq, Repr

/-- EthPort at reset. -/
def EthPort.reset : EthPort := {}

/-- Signal datagram listener (R364) -/
structure EthSig where
  /-- UDP port (16 R364). DESIGN CHOICE reset. -/
  udp : Nat := 0
  /-- VLAN (16 R364). DESIGN CHOICE reset. -/
  vlan : Nat := 0
  /-- first ID (16 R364). DESIGN CHOICE reset. -/
  first : Nat := 0
  /-- last ID (16 R364). DESIGN CHOICE reset. -/
  last : Nat := 0
  /-- timeout (16 R364). DESIGN CHOICE reset. -/
  timeoutMs : Nat := 0
  /-- entries discarded (16 R364). -/
  discarded : Nat := 0
  /-- when the listener was set (16 R364). -/
  setAt : Nat := 0
  /-- last datagram value by signal (16 R364). -/
  lastAt : Tab Nat := []
  deriving DecidableEq, Repr

/-- EthSig at reset. -/
def EthSig.reset : EthSig := {}

/-- ETH unit -/
structure Eth where
  /-- ports (16 R358). -/
  ports : Tab EthPort := []
  /-- lidar streams (16 R363). -/
  lidar : Tab EthLidar := []
  /-- signal listener (16 R364). -/
  sig : EthSig := EthSig.reset
  /-- host rings by PART_ID (16 R365). -/
  rings : Tab EthRing := []
  deriving DecidableEq, Repr

/-- Eth at reset. -/
def Eth.reset : Eth := {}

/-- One managed network -/
structure NmNet where
  /-- managed (17 R369). DESIGN CHOICE reset. -/
  managed : Bool := false
  /-- CAN channel (17 R369). DESIGN CHOICE reset. -/
  chan : Nat := 0
  /-- node address (17 R371). DESIGN CHOICE reset. -/
  addr : Nat := 0
  /-- initiator flag (17 R373). DESIGN CHOICE reset. -/
  initFlag : Bool := false
  /-- partial flag (17 R370). DESIGN CHOICE reset. -/
  partialNet : Bool := false
  /-- base ID (17 R371). DESIGN CHOICE reset. -/
  baseId : Nat := 0
  /-- T_typ ms (17 R372). DESIGN CHOICE reset. -/
  tTyp : Nat := 10
  /-- T_max ms (17 R372). DESIGN CHOICE reset. -/
  tMax : Nat := 20
  /-- blocked-report time (17 R378). DESIGN CHOICE reset. -/
  blockS : Nat := 0
  /-- T1 ports (17 R369). DESIGN CHOICE reset. -/
  t1Ports : Nat := 0
  /-- state code (17 R385). -/
  state : Nat := 0
  /-- since (17 R385). -/
  stateAt : Nat := 0
  /-- last network wake (17 R385). -/
  lastWake : Nat := 0
  /-- last abort cause (17 R385). -/
  lastAbort : Nat := 0
  /-- windows holding a request (17 R370). -/
  holds : List Nat := []
  /-- present nodes (17 R372). -/
  present : Nat := 0
  /-- nodes whose last message carried READY (17 R385). -/
  ready : Nat := 0
  /-- own previous ring message carried READY (17 R373). -/
  ownReady : Bool := false
  /-- every ring message since carried READY (17 R373). -/
  allReady : Bool := false
  /-- initiator of the commit round (17 R374). -/
  initiator : Nat := 0
  /-- this node sent its COMMIT (17 R374). -/
  committed : Bool := false
  /-- final commit (17 R375). -/
  finalAt : Nat := 0
  /-- own RING message due (17 R372). -/
  sendAt : Option Nat := none
  /-- last own ALIVE (17 R372). -/
  aliveAt : Option Nat := none
  /-- first ALIVE of the exchange (17 R372). -/
  firstAlive : Option Nat := none
  /-- consecutive T_max expiries (17 R372). -/
  expiries : Nat := 0
  /-- last ring message seen (17 R372). -/
  lastMsg : Nat := 0
  /-- NM/RING_LOST stands (17 R372). -/
  ringLost : Bool := false
  /-- consenting since (17 R378). -/
  consentAt : Option Nat := none
  /-- blocked reports posted since (17 R378). -/
  blocked : Nat := 0
  /-- commit rounds aborted (17 R385). -/
  aborts : Nat := 0
  /-- T1 ports whose acknowledgement is awaited (17 R375). -/
  tc10Wait : Nat := 0
  deriving DecidableEq, Repr

/-- NmNet at reset. -/
def NmNet.reset : NmNet := {}

/-- NM unit -/
structure Nm where
  /-- networks (17 R369). -/
  nets : Tab NmNet := []
  /-- first cause of the last wake (17 R384). -/
  wakeFirst : Nat := 0
  /-- its detail (17 R384). -/
  wakeDetail : Nat := 0
  /-- causes of the first period (17 R384). -/
  wakeMap : Nat := 0
  /-- wake instant (17 R384). -/
  wakeAt : Nat := 0
  /-- park duration (17 R384). -/
  parkS : Nat := 0
  deriving DecidableEq, Repr

/-- Nm at reset. -/
def Nm.reset : Nm := {}

/-- Run state of one reflex rule (18 R401-R403, REFLEX.STATUS) -/
structure RuleSt where
  /-- RULE_ACT (18 R401). -/
  active : Bool := false
  /-- activations since enable, saturating (18 R410). -/
  activations : Nat := 0
  /-- us word of the last change (18 R410). -/
  changeAt : Nat := 0
  /-- changes since the last posting (18 R403). -/
  changes : Nat := 0
  /-- last posting (18 R403). -/
  postedAt : Option Nat := none
  /-- term values before inversion, last evaluation (18 R410). -/
  terms : Nat := 0
  deriving DecidableEq, Repr

/-- RuleSt at reset. -/
def RuleSt.reset : RuleSt := {}

/-- One Root link connection (18 R406-R409) -/
structure LinkConn where
  /-- connection ID, 0 unused (18 R406). -/
  id : Nat := 0
  /-- direction: receive (18 R406). -/
  rx : Bool := true
  /-- transport: UDP, else CAN FD (18 R406). -/
  udp : Bool := false
  /-- CAN channel, or UDP port (18 R406). -/
  chan : Nat := 0
  /-- receive queue or TX head index, or VLAN (18 R406). -/
  sel : Nat := 0
  /-- data length 0-48 (18 R406). -/
  n : Nat := 0
  /-- transmit period (18 R406). -/
  periodMs : Nat := 5
  /-- time expectation E (18 R406). -/
  eMs : Nat := 10
  /-- sequence gap G (18 R406). -/
  gap : Nat := 1
  /-- Root flag set in the safe state (18 R406). -/
  flag : Nat := 255
  /-- safe data (18 R406). -/
  safeData : List Byte := []
  /-- 0 unused 1 awaiting base 2 base set 3 OK 4 safe state (18 R411). -/
  state : Nat := 0
  /-- cause of the last safe state (18 R411). -/
  cause : Nat := 0
  /-- last accepted sequence (18 R408). -/
  lastSeq : Nat := 0
  /-- accepted (18 R411). -/
  accepted : Nat := 0
  /-- discarded (18 R411). -/
  discarded : Nat := 0
  /-- repetitions (18 R411). -/
  reps : Nat := 0
  /-- posting instant of the last accepted message, or the arming (18 R408). -/
  lastAt : Nat := 0
  /-- first discard of the first three kinds (18 R408). -/
  discAt : Option Nat := none
  /-- delivered data (18 R409). -/
  data : List Byte := []
  /-- data the Root application last gave a transmit connection (18 R407). DESIGN CHOICE reset. -/
  txData : List Byte := []
  /-- sequence of the next transmission (18 R407). -/
  txSeq : Nat := 0
  /-- next transmission instant (18 R407). -/
  nextTx : Nat := 0
  /-- messages handed to the transport, newest first (the last 4) (18 R407). The model's own. -/
  sent : List (List Byte) := []
  deriving DecidableEq, Repr

/-- LinkConn at reset. -/
def LinkConn.reset : LinkConn := {}

/-- The Root processor, its control block, the watchdog, rules and link (18) -/
structure Root where
  /-- off, starting, running, stopped, pause (18 R411). -/
  phase : RootPhase := .off
  /-- START_CAUSE [7:0] (18 R389). -/
  startCause : Nat := 0
  /-- cause the start under way will carry (18 R393). -/
  dueCause : Nat := 1
  /-- Root starts in this epoch (18 R389). -/
  starts : Nat := 0
  /-- WD_CFG.LOCK (18 R389). -/
  wdLock : Bool := false
  /-- WD_CFG.TMIN as read (18 R389). -/
  tmin : Nat := 0
  /-- WD_CFG.TMAX as read (18 R389). -/
  tmax : Nat := 200
  /-- TMIN of the running window (18 R390). -/
  tminUse : Nat := 0
  /-- TMAX of the running window (18 R390). -/
  tmaxUse : Nat := 200
  /-- WD_CHAL; loaded at each Root start from the random source (18 R389). DESIGN CHOICE reset. -/
  chal : Nat := 0
  /-- services accepted, saturating (18 R389). -/
  services : Nat := 0
  /-- start of the running window (18 R389). -/
  serviceAt : Nat := 0
  /-- SAFEOFF (18 R389). -/
  safeoff : Nat := 0
  /-- FAULTCUT, 0x01F8_0000 (18 R389). -/
  faultcut : Nat := 33030144
  /-- CELLAR_HOLD (18 R389). -/
  cellarHold : Nat := 0
  /-- FLAGS (18 R389). -/
  flags : Nat := 0
  /-- SAFE_STATE bit 0; set at every Root start (18 R395). -/
  taggedOff : Bool := true
  /-- MON_STATUS (18 R389). -/
  mon : Nat := 0
  /-- STUCK0-2 as one 96-bit set (18 R389). -/
  stuck : Nat := 0
  /-- RULE_EN0-1 (18 R389). -/
  ruleEn : Nat := 0
  /-- RULE_ERR (18 R389). -/
  ruleErr : Nat := 0
  /-- FAULTMAP words; unlisted reads 0xFFFF_00FF (18 R389). -/
  faultmap : Tab Nat := []
  /-- words of the rule records, index 8r+w (18 R389). -/
  rules : Tab Nat := []
  /-- rule run states (18 R401). -/
  ruleSt : Tab RuleSt := []
  /-- operating-time stamps (ns) of counted Root faults of the last 10 min (18 R394). -/
  faultAt : List Nat := []
  /-- cause of the last Root fault (18 R412). -/
  lastCause : Nat := 0
  /-- Root link connections (18 R406). -/
  links : Tab LinkConn := []
  /-- monitor trips to post after the trunk has started: bit, park periods (18 R397). -/
  monPend : List (Nat × Nat) := []
  /-- start of the activation pause (18 R391). -/
  pauseAt : Nat := 0
  /-- clock monitors frozen (18 R397). -/
  frozen : Bool := false
  /-- the fourth counted fault has stopped Root until the next power cycle (18 R394). -/
  halted : Bool := false
  deriving DecidableEq, Repr

/-- Root at reset. -/
def Root.reset : Root := {}

/-- One entry of an image's part table (19) -/
structure PartEnt where
  /-- kind 1-9 (19 R416). -/
  kind : Nat := 1
  /-- settings class (19 R416). -/
  cls : Nat := 0
  /-- part ID (19 R416). -/
  pid : Nat := 0
  /-- version (19 R416). -/
  version : Nat := 0
  /-- first piece, 0xFFFF_FFFF retained (19 R416). -/
  first : Nat := 0
  /-- length (19 R416). -/
  len : Nat := 0
  /-- SHA-256 (19 R416). -/
  sha : List Byte := []
  /-- state-block version written (19 R416). -/
  sbWritten : Nat := 0
  /-- lowest accepted (19 R416). -/
  sbLow : Nat := 0
  /-- highest accepted (19 R416). -/
  sbHigh : Nat := 0
  /-- highest class A record version readable (19 R416). -/
  recHigh : Nat := 0
  /-- state-block size (19 R416). -/
  sbSize : Nat := 0
  /-- cutover period us (19 R416). -/
  cutPeriod : Nat := 1000
  /-- cutover phase us (19 R416). -/
  cutPhase : Nat := 0
  /-- part data once installed (19 R414). -/
  data : List Byte := []
  deriving DecidableEq, Repr

/-- PartEnt at reset. -/
def PartEnt.reset : PartEnt := {}

/-- One installed set in a boot slot (19 R421) -/
structure BootSet where
  /-- the slot holds an installed set (19 R421). -/
  present : Bool := false
  /-- set identifier (19 R414). -/
  id : Nat := 0
  /-- security version (19 R414). -/
  secver : Nat := 0
  /-- confirmation window, min (19 R414). -/
  windowMin : Nat := 0
  /-- confirming PART_ID (19 R414). -/
  confirmer : Nat := 0
  /-- parts (19 R414). -/
  parts : List PartEnt := []
  deriving DecidableEq, Repr

/-- BootSet at reset. -/
def BootSet.reset : BootSet := {}

/-- BOOT-A as the module is shipped: no set is named by the spec, so it holds the two parts every set has
(19 R422 check 1), with no data and set identifier 1. DESIGN CHOICE (log entry 3), unsafe. -/
def BootSet.factory : BootSet :=
  { BootSet.reset with present := true, id := 1,
                       parts := [{ PartEnt.reset with kind := 1 }, { PartEnt.reset with kind := 2 }] }

/-- The incoming image in the staging partition (19 R418) -/
structure Incoming where
  /-- header as opened; empty: none (19 R418). -/
  header : List Byte := []
  /-- pieces held (the bitmap is the set of listed indices) (19 R418). -/
  pieces : Tab (List Byte) := []
  deriving DecidableEq, Repr

/-- Incoming at reset. -/
def Incoming.reset : Incoming := {}

/-- A file or settings record of the Attic (20 R434-R436) -/
structure AtticFile where
  /-- 5 SETTINGS, 6 CANOPY data (20 R433). -/
  inst : Nat := 6
  /-- file ID or key (20 R434). -/
  id : Nat := 0
  /-- owner PART_ID (20 R434). -/
  owner : Nat := 0
  /-- settings class 1 A 2 B; 0 for files (20 R436). -/
  cls : Nat := 0
  /-- version (20 R436). -/
  version : Nat := 0
  /-- content (20 R435). -/
  data : List Byte := []
  /-- not yet durable (20 R439). -/
  staged : Bool := false
  deriving DecidableEq, Repr

/-- AtticFile at reset. -/
def AtticFile.reset : AtticFile := {}

/-- The activation or fall-back in progress (19 R423, R430) -/
structure Activ where
  /-- step of the table, 0 none (19 R423). -/
  step : Nat := 0
  /-- the command that started it (19 R423). -/
  op : Option Op := none
  /-- it is a fall-back (19 R430). -/
  fallback : Bool := false
  /-- fall-back cause (19 R429). -/
  cause : Nat := 0
  /-- flag bit 0 (19 R422). -/
  cold : Bool := false
  /-- part indices of the Canopy partitions still to take, in order (19 R423). -/
  todo : List Nat := []
  /-- part index handed over now (19 R424). -/
  cur : Option Nat := none
  /-- start of its new instance (19 R424). -/
  startAt : Nat := 0
  /-- cutover boundary, once ready (19 R424). -/
  b : Option Nat := none
  /-- GRAFT/HANDOVER posted (19 R424). -/
  noticed : Bool := false
  /-- GRAFT.YIELD consumed (19 R424). -/
  yieldAt : Option Nat := none
  /-- state-block payload length (19 R424). -/
  payload : Nat := 0
  /-- part indices already cut over (19 R427). -/
  done : List Nat := []
  /-- Keeper and Root pauses (19 R432). -/
  pauses : Nat := 0
  /-- after an abandonment: kind and part ID of the parts already cut over, which alone return (19 R427). -/
  back : Option (List (Nat × Nat)) := none
  /-- parts cold-replaced (19 R432). -/
  coldCount : Nat := 0
  deriving DecidableEq, Repr

/-- Activ at reset. -/
def Activ.reset : Activ := {}

/-- GRAFT unit -/
structure Graft where
  /-- staged image (19 R418). -/
  inc : Incoming := Incoming.reset
  /-- installation runs or waits for the free slot (19 R421). -/
  installing : Bool := false
  /-- BOOT-A; as shipped it holds a set of the two parts every set has (19 R421). DESIGN CHOICE reset. -/
  slotA : BootSet := BootSet.factory
  /-- BOOT-B (19 R421). -/
  slotB : BootSet := BootSet.reset
  /-- active slot: 0 A, 1 B (19 R423). -/
  active : Nat := 0
  /-- the active set is on trial (19 R428). -/
  trial : Bool := false
  /-- fused minimum security version (19 R416). DESIGN CHOICE reset. -/
  minSec : Nat := 0
  /-- confirmation window remaining, operating s (Cellar SRAM) (19 R428). -/
  trialLeft : Nat := 0
  /-- remaining as last written to the activation record (19 R428). -/
  trialWritten : Nat := 0
  /-- operating time at which trialLeft was current (19 R428). -/
  trialAt : Nat := 0
  /-- GRAFT/CONFIRM_DUE posted (19 R428). -/
  dueDone : Bool := false
  /-- consecutive trunk starts of the trial set without Keeper ready (19 R429). -/
  bootFails : Nat := 0
  /-- activation in progress (19 R423). -/
  act : Activ := Activ.reset
  /-- frozen class B old copies: Root's records (19 R431). -/
  oldRecs : List AtticFile := []
  /-- frozen class B old copies: the Pantry (19 R431). -/
  oldPantry : Tab (List Byte) := []
  deriving DecidableEq, Repr

/-- Graft at reset. -/
def Graft.reset : Graft := {}

/-- A running ATTIC.READ or ATTIC.WRITE (20 R435) -/
structure Transfer where
  /-- its command (20 R435). -/
  op : Op := Op.reset
  /-- a write (20 R435). -/
  write : Bool := false
  /-- ATTIC instance (20 R433). -/
  inst : Nat := 0
  /-- file ID or key (20 R435). -/
  id : Nat := 0
  /-- region descriptor (20 R435). -/
  desc : Nat := 0
  /-- truncate at the end (20 R435). -/
  trunc : Bool := false
  /-- offset, or version and class (20 R435). -/
  ofs : Nat := 0
  /-- length (20 R435). -/
  len : Nat := 0
  /-- content as it stood when a read started (20 R435). -/
  old : Option (List Byte) := none
  /-- its version and class (20 R435). -/
  oldVer : Nat := 0
  deriving DecidableEq, Repr

/-- Transfer at reset. -/
def Transfer.reset : Transfer := {}

/-- A Larder record (20 R444) -/
structure LarderRec where
  /-- sequence (20 R444). -/
  seq : Nat := 0
  /-- code (20 R444). -/
  code : Nat := 0
  /-- unit (20 R444). -/
  unit : Nat := 0
  /-- severity (20 R444). -/
  sev : Nat := 0
  /-- Strongroom (20 R444). -/
  strong : Bool := false
  /-- dropped by overflow (20 R444). -/
  dropped : Bool := false
  /-- operating seconds (20 R444). -/
  opSec : Nat := 0
  /-- power-cycle count (20 R444). -/
  cycle : Nat := 0
  /-- parameters (20 R444). -/
  params : List Nat := []
  /-- instance (20 R444). -/
  inst : Nat := 0
  /-- Heartwood (20 R444). -/
  stamp : Nat := 0
  /-- occurrence number (20 R444). -/
  occ : Nat := 0
  /-- coalesced count (20 R444). -/
  count : Nat := 0
  deriving DecidableEq, Repr

/-- LarderRec at reset. -/
def LarderRec.reset : LarderRec := {}

/-- The record of the final test (23 R504): sequence 1 of the Strongroom, unit LARDER, code 0x0001. -/
def LarderRec.factory : LarderRec :=
  { LarderRec.reset with seq := 1, code := 1, unit := 0x62, strong := true, params := [0, 0, 0, 0, 0] }

/-- A running LARDER.READ (20 R447) -/
structure LarderRead where
  /-- command (20 R447). -/
  op : Op := Op.reset
  /-- descriptor (20 R447). -/
  desc : Nat := 0
  /-- region (20 R447). -/
  strong : Bool := false
  /-- first sequence (20 R447). -/
  first : Nat := 0
  /-- count (20 R447). -/
  count : Nat := 0
  deriving DecidableEq, Repr

/-- LarderRead at reset. -/
def LarderRead.reset : LarderRead := {}

/-- A running LARDER.CLEAR (20 R449) -/
structure LarderClear where
  /-- command (20 R449). -/
  op : Op := Op.reset
  /-- scope (20 R448). -/
  scope : Nat := 1
  /-- last general sequence to clear (20 R448). -/
  limit : Nat := 0
  /-- newest general sequence at acceptance (20 R449). -/
  newG : Nat := 0
  /-- newest Strongroom sequence at acceptance (20 R449). -/
  newS : Nat := 0
  deriving DecidableEq, Repr

/-- LarderClear at reset. -/
def LarderClear.reset : LarderClear := {}

/-- LARDER unit -/
structure Larder where
  /-- general ring by slot (20 R445). -/
  general : Tab LarderRec := []
  /-- Strongroom by slot; as shipped it holds the final-test record (20 R445,R504). -/
  strong : Tab LarderRec := [(1, LarderRec.factory)]
  /-- last general sequence issued (20 R445). -/
  seqG : Nat := 0
  /-- last Strongroom sequence issued (20 R445,R504). -/
  seqS : Nat := 1
  /-- records ever issued to the general ring (20 R447). -/
  cntG : Nat := 0
  /-- records ever issued to the Strongroom (20 R447). -/
  cntS : Nat := 1
  /-- Cellar buffer, oldest first (20 R446). -/
  buffer : List LarderRec := []
  /-- buffer drops (20 R447). -/
  drops : Nat := 0
  /-- records displaced or dropped and not yet reported (20 R446). -/
  dropNew : Nat := 0
  /-- of these, Strongroom records (20 R446). -/
  dropNewS : Nat := 0
  /-- challenge and operating time (ns) of issue (20 R448). -/
  challenge : Option (Nat × Nat) := none
  /-- consecutive refusals (20 R448). -/
  refusals : Nat := 0
  /-- operating time at which the lock began (20 R448). -/
  lockAt : Option Nat := none
  /-- copy in progress (20 R447). -/
  read : Option LarderRead := none
  /-- clear in progress (20 R449). -/
  clear : Option LarderClear := none
  deriving DecidableEq, Repr

/-- Larder at reset. -/
def Larder.reset : Larder := {}

/-- One BAT stud (21 R451) -/
structure Stud where
  /-- last measured voltage (21 R453). DESIGN CHOICE reset. -/
  mv : Int := 0
  /-- below 6.0 V: gate drive held off (21 R453). -/
  low : Bool := true
  /-- overvoltage hold (21 R454). -/
  overR : Bool := false
  /-- reversed (21 R456). -/
  rev : Bool := false
  /-- POWER/UNDERVOLT stands (21 R453). -/
  under : Bool := false
  deriving DecidableEq, Repr

/-- Stud at reset. -/
def Stud.reset : Stud := {}

/-- POWER unit and the Cellar's supply state -/
structure Power where
  /-- power state (21 R30). -/
  state : PowState := .off
  /-- studs BATA, BATB, BATC (21 R451). -/
  studs : Tab Stud := []
  /-- ground studs that are open: bit 0 S4, bit 1 S5 (22 R479). DESIGN CHOICE reset. -/
  gndOpen : Nat := 0
  /-- ORed logic supply (21 R473). DESIGN CHOICE reset. -/
  logicMv : Nat := 0
  /-- IGN active (21 R458). -/
  ign : Bool := false
  /-- KEYWAKE active (21 R458). -/
  keywake : Bool := false
  /-- Root's run request (21 R473). -/
  runReq : Bool := false
  /-- windows holding POWER.REQUEST (21 R473). -/
  holds : List Nat := []
  /-- keep-awake time s (21 R473). DESIGN CHOICE reset. -/
  keepAwake : Nat := 0
  /-- 1 12 V, 2 24 V (21 R473). DESIGN CHOICE reset. -/
  system : Nat := 1
  /-- under-voltage warning, NaN selects the system's (21 R473). DESIGN CHOICE reset. -/
  uvWarn : F32 := 2143289344
  /-- last trunk start (21 R473). -/
  lastStart : Nat := 0
  /-- last entry into KEEPER (21 R460). -/
  keeperAt : Nat := 0
  /-- park entry step, 0 none (21 R461). -/
  parkStep : Nat := 0
  /-- park triggers satisfied since (21 R460). -/
  waitAt : Option Nat := none
  /-- last POWER/PARK_WAIT (21 R460). -/
  waitPost : Option Nat := none
  /-- end of the grace period (21 R459). -/
  grace : Option Nat := none
  /-- supply loss: Heartwood or park ns at detection (21 R455). -/
  lossAt : Option Nat := none
  /-- the loss struck in a park state (21 R455). -/
  lossParked : Bool := false
  /-- Duration of the last supply loss in ms, for POWER/SUPPLY_RETURN (21 R474). -/
  lossMs : Nat := 0
  /-- ORed supply below 3.0 V since (park periods) (21 R455). -/
  below3 : Option Nat := none
  /-- lowest logic supply of the loss (21 R474). -/
  lossMin : Nat := 0
  /-- supply losses in this epoch (21 R473). -/
  losses : Nat := 0
  /-- operating time, kept through park (00 R11). -/
  opNs : Nat := 0
  /-- a trunk start is under way: its POWER.STATUS code, 0 none (21 R473). -/
  trunkDue : Nat := 0
  /-- park state chosen at step 6 (21 R462). -/
  target : PowState := .deep
  deriving DecidableEq, Repr

/-- Power at reset. -/
def Power.reset : Power := {}

/-- One temperature sensor (21 R464-R466) -/
structure Sensor where
  /-- sampled in this powered period (21 R465). -/
  sampled : Bool := false
  /-- last sample (21 R473). -/
  temp : Int := 0
  /-- excluded (21 R466). -/
  excluded : Bool := false
  /-- kind of the exclusion (21 R474). -/
  kind : Nat := 0
  /-- disagreeing since (21 R466). -/
  disAgree : Option Nat := none
  /-- plausible since (21 R466). -/
  okSince : Option Nat := none
  /-- 1 kHz sampling (21 R465). -/
  fast : Bool := false
  /-- highest reading in the epoch (21 R465). -/
  max : Option Int := none
  /-- consecutive 1 kHz samples at or above the shutdown limit (21 R469). -/
  hot : Nat := 0
  deriving DecidableEq, Repr

/-- Sensor at reset. -/
def Sensor.reset : Sensor := {}

/-- Throttling of one bough die (21 R467) -/
structure DieSt where
  /-- throttle step (21 R467). -/
  step : Nat := 0
  /-- below the step's threshold - 5 since (21 R467). -/
  below : Option Nat := none
  deriving DecidableEq, Repr

/-- DieSt at reset. -/
def DieSt.reset : DieSt := {}

/-- THERMAL unit -/
structure Thermal where
  /-- sensors (21 R464). -/
  sensors : Tab Sensor := []
  /-- bough dies (21 R467). -/
  dies : Tab DieSt := []
  /-- board hold at step 3 (21 R467). -/
  boardHold : Bool := false
  /-- board below 100 since (21 R467). -/
  boardBelow : Option Nat := none
  /-- trunk sensors with THERMAL/WARNING standing (21 R468). -/
  warning : List Nat := []
  deriving DecidableEq, Repr

/-- Thermal at reset. -/
def Thermal.reset : Thermal := {}

/-- Test access port, TESTKEY and console (22, 23) -/
structure Jtag where
  /-- instruction register; IDCODE after test-logic reset (23 R501). -/
  ir : Nat := 1
  /-- register selected: 0 identification 1 boundary 2 bypass (23 R501). The model's own. -/
  dr : Nat := 0
  /-- driving cells of the boundary register as last shifted in (23 R501). DESIGN CHOICE reset. -/
  cells : Tab Bool := []
  /-- observe cells as last captured (23 R501). DESIGN CHOICE reset. -/
  captured : Tab Bool := []
  /-- the boundary register drives the pins (23 R501). -/
  driving : Bool := false
  /-- every driving cell is off (23 R501). -/
  highz : Bool := false
  /-- identification register as last captured (23 R501). -/
  idReg : Nat := 0
  /-- silicon revision (23 R501). DESIGN CHOICE reset. -/
  siliconRev : Nat := 0
  /-- TESTKEY tied to GND_SVC (23 R502). -/
  testkey : Bool := false
  /-- JVREF present (22 R484). -/
  jvref : Bool := false
  /-- the console accepts input (22 R485). -/
  console : Bool := false
  /-- characters accepted (22 R485). -/
  consoleIn : List Byte := []
  deriving DecidableEq, Repr

/-- Jtag at reset. -/
def Jtag.reset : Jtag := {}

/-- Keeper's kept-configuration record (20 R437): the unit states whose configuration is re-applied -/
structure Kept where
  /-- epoch number the record carries (20 R437). -/
  epoch : Nat := 0
  /-- sensing configuration (20 R437). -/
  sensing : Sensing := Sensing.reset
  /-- valve configuration (20 R437). -/
  valve : Valve := Valve.reset
  /-- GNSS configuration (20 R437). -/
  gnss : Gnss := Gnss.reset
  /-- IMU configuration (20 R437). -/
  imu : Imu := Imu.reset
  /-- camera configuration (20 R437). -/
  cam : Cam := Cam.reset
  /-- Crown configuration (20 R437). -/
  crown : Crown := Crown.reset
  /-- Granary configuration (20 R437). -/
  granary : Granary := Granary.reset
  /-- output configuration (20 R437). -/
  outs : Outs := Outs.reset
  /-- switch-input configuration (20 R437). -/
  swin : Swin := Swin.reset
  /-- body and LIN configuration (20 R437). -/
  body : Body := Body.reset
  /-- fan configuration (20 R437). -/
  fans : Tab FanCh := []
  /-- plate configuration (20 R437). -/
  plate : Plate := Plate.reset
  /-- CAN configuration and Pantry (20 R437). -/
  can : Can := Can.reset
  /-- Ethernet configuration (20 R437). -/
  eth : Eth := Eth.reset
  /-- network-management configuration (20 R437). -/
  nm : Nm := Nm.reset
  /-- control-engine host buffer binding (20 R437). -/
  ctrl : Ctrl := Ctrl.reset
  /-- POWER.CONFIG (20 R437). -/
  power : Power := Power.reset
  /-- TIME.ROLE: role and priority1 (20 R437). -/
  timeRole : Nat × Nat := (0, 0)
  deriving DecidableEq, Repr

/-- Kept at reset. -/
def Kept.reset : Kept := {}

/-- ATTIC unit -/
structure Attic where
  /-- CANOPY files and SETTINGS records, in flash or staged (20 R434). -/
  files : List AtticFile := []
  /-- the durable content beneath staged writes (20 R439). -/
  flash : List AtticFile := []
  /-- running transfers (20 R435). -/
  transfers : List Transfer := []
  /-- write inhibit (20 R438). -/
  inhibit : Bool := false
  /-- temperature within -22 to 82 since (20 R438). -/
  okSince : Option Nat := none
  /-- UFS temperature, NaN before the first reading (20 R438). -/
  temp : F32 := 2143289344
  /-- staged bytes (20 R439). -/
  staged : Nat := 0
  /-- staged writes (20 R439). -/
  stagedWrites : Nat := 0
  /-- start of the drain at park entry (20 R440). -/
  drainAt : Option Nat := none
  /-- wear (20 R443). -/
  wear : Nat := 0
  /-- read-only at 100 % (20 R443). -/
  readOnly : Bool := false
  /-- a device error stands (20 R450). -/
  fault : Bool := false
  /-- hold-up weak (20 R442). -/
  weak : Bool := false
  /-- bytes written since manufacture (20 R443). -/
  written : Nat := 0
  /-- the kept-configuration record in flash beneath a staged one (20 R437). -/
  keptFlash : Option Kept := none
  /-- wear thresholds posted (20 R443). -/
  wearPosted : Nat := 0
  deriving DecidableEq, Repr

/-- Attic at reset. -/
def Attic.reset : Attic := {}

/-- The whole machine -/
structure State where
  /-- the part as manufactured (00 R3). -/
  part : Part := Part.reset
  /-- Keeper and its windows (02 R42). -/
  keeper : Keeper := Keeper.reset
  /-- Heartwood and the TIME unit (03 R74). -/
  time : Time := Time.reset
  /-- fault manager (03 R92). -/
  faults : Faults := Faults.reset
  /-- signal table (03 R83). -/
  signals : Tab Signal := []
  /-- sensing units (04 R98). -/
  sensing : Sensing := Sensing.reset
  /-- control engine (05 R123). -/
  ctrl : Ctrl := Ctrl.reset
  /-- valve banks (06 R155). -/
  valve : Valve := Valve.reset
  /-- GNSS (07 R174). -/
  gnss : Gnss := Gnss.reset
  /-- IMU (07 R185). -/
  imu : Imu := Imu.reset
  /-- cameras (08 R196). -/
  cam : Cam := Cam.reset
  /-- Crown (09 R218). -/
  crown : Crown := Crown.reset
  /-- Granary (10 R243). -/
  granary : Granary := Granary.reset
  /-- outputs and bridges (11 R258). -/
  outs : Outs := Outs.reset
  /-- switch inputs (12 R282). -/
  swin : Swin := Swin.reset
  /-- body services and LIN (12 R292). -/
  body : Body := Body.reset
  /-- fans FAN0-7 and LID0-1 as 8-9 (13 R302). -/
  fans : Tab FanCh := []
  /-- status plate (14 R314). -/
  plate : Plate := Plate.reset
  /-- CAN channels and the Pantry (15 R323). -/
  can : Can := Can.reset
  /-- Ethernet (16 R358). -/
  eth : Eth := Eth.reset
  /-- network management (17 R369). -/
  nm : Nm := Nm.reset
  /-- Root, watchdog, rules and Root link (18 R389). -/
  root : Root := Root.reset
  /-- graft (19 R414). -/
  graft : Graft := Graft.reset
  /-- Attic (20 R433). -/
  attic : Attic := Attic.reset
  /-- Larder (20 R444). -/
  larder : Larder := Larder.reset
  /-- power states and studs (21 R451). -/
  power : Power := Power.reset
  /-- thermal (21 R464). -/
  thermal : Thermal := Thermal.reset
  /-- test port, TESTKEY, console (23 R501). -/
  jtag : Jtag := Jtag.reset
  /-- kept-configuration record in the SETTINGS partition (20 R437). -/
  kept : Option Kept := none
  /-- first configuration change since the last write of that record (20 R437). -/
  keptDirty : Option Nat := none
  /-- last write of that record (20 R437). -/
  keptAt : Option Nat := none
  /-- counter of free values drawn. The model's own. -/
  free : Nat := 0
  /-- commands waiting, first in first out. The model's own. -/
  pending : List Instr := []
  deriving DecidableEq, Repr

/-- The machine right after reset: never powered, OFF, nothing placed. Every field at the value its docstring names. -/
def State.reset : State := {}

end Sys2Proof.Machine
end

