-- ==== Sys2Proof/Machine/Ops.lean ====
section
/-! DEFINITION. Machine/Ops.lean: the operations every unit shares: sparse tables, what a variant fits, permissions,
events, the fault manager's queue, Larder records, replies, regions, signals, host-assisted functions and free values. -/

namespace Sys2Proof.Machine

/-! ### Sparse tables -/

/-- The entry of a key, if listed. -/
def tfind {α : Type} : Tab α → Nat → Option α
  | [], _ => none
  | (k', v) :: t, k => if k' = k then some v else tfind t k

/-- The value of a key; an unlisted key reads as `d`. -/
def tget {α : Type} (d : α) (t : Tab α) (k : Nat) : α := (tfind t k).getD d

/-- The table with an entry listed, in key order. -/
def tput {α : Type} : Tab α → Nat → α → Tab α
  | [], k, v => [(k, v)]
  | (k', v') :: t, k, v => if k < k' then (k, v) :: (k', v') :: t else if k = k' then (k, v) :: t else (k', v') :: tput t k v

/-- The table with a key unlisted. -/
def tdel {α : Type} : Tab α → Nat → Tab α
  | [], _ => []
  | (k', v') :: t, k => if k' = k then tdel t k else (k', v') :: tdel t k

/-- Write: writing the value an unlisted key reads as removes the entry, so equal tables are equal data. -/
def tset {α : Type} [DecidableEq α] (d : α) (t : Tab α) (k : Nat) (v : α) : Tab α := if v = d then tdel t k else tput t k v

/-- Change the value of one key. -/
def tmod {α : Type} [DecidableEq α] (d : α) (t : Tab α) (k : Nat) (f : α → α) : Tab α := tset d t k (f (tget d t k))

/-- Every listed value changed; entries that become the default are unlisted. -/
def tmap {α : Type} [DecidableEq α] (d : α) (t : Tab α) (f : α → α) : Tab α :=
  (t.map (fun e => (e.1, f e.2))).filter (fun e => decide (e.2 ≠ d))

/-- The canonical form: keys strictly rising from `lo`, no entry equal to the default. -/
def twfFrom {α : Type} [DecidableEq α] (d : α) : Nat → Tab α → Bool
  | _, [] => true
  | lo, (k, v) :: t => decide (lo ≤ k) && decide (v ≠ d) && twfFrom d (k + 1) t

/-- A table is in canonical form. -/
def twf {α : Type} [DecidableEq α] (d : α) (t : Tab α) : Bool := twfFrom d 0 t

/-- Write a string of bytes from an address on. -/
def twrite (t : Tab Byte) (a : Nat) : List Byte → Tab Byte
  | [] => t
  | b :: l => twrite (tset 0 t a b) (a + 1) l

/-- Read `n` bytes from an address on. -/
def tread (t : Tab Byte) (a n : Nat) : List Byte := (List.range n).map (fun i => tget 0 t (a + i))

/-! ### Time -/

/-- Heartwood now. -/
def State.hw (s : State) : Nat := s.time.heartwood

/-- The microsecond word of an instant (03 R81 HW_US). -/
def usOf (t : Nat) : Nat := t / 1000 % 4294967296

/-- The microsecond word now. -/
def State.us (s : State) : Nat := usOf s.hw

/-- The next multiple of a period above now, the phase added (an instant that is a boundary now is not "next"). -/
def nextBoundary (now period phase : Nat) : Nat :=
  if period = 0 then now else if now < phase then phase else ((now - phase) / period + 1) * period + phase

/-! ### Variants (00 R1, R5) -/

/-- Bough dies. -/
def boughs : Variant → Nat
  | .zq2n => 1 | .zq2 => 1 | .zq4 => 3 | .zq8 => 7
/-- Crown units. -/
def crowns : Variant → Nat
  | .zq2n => 0 | .zq2 => 1 | .zq4 => 3 | .zq8 => 7
/-- Camera ports. -/
def camPorts : Variant → Nat
  | .zq2n => 0 | .zq2 => 1 | .zq4 => 2 | .zq8 => 2
/-- GNSS antenna inputs. -/
def antennas : Variant → Nat
  | .zq2n => 1 | .zq2 => 1 | .zq4 => 2 | .zq8 => 2
/-- Loss channels. -/
def lossChs : Variant → Nat
  | .zq2n => 0 | .zq2 => 12 | .zq4 => 24 | .zq8 => 24
/-- Die-level failover. -/
def hasFailover : Variant → Bool
  | .zq4 => true | .zq8 => true | _ => false
/-- DRAM in bytes. -/
def dramBytes : Variant → Nat
  | .zq2n => 8 * 2 ^ 30 | .zq2 => 8 * 2 ^ 30 | .zq4 => 16 * 2 ^ 30 | .zq8 => 32 * 2 ^ 30
/-- Type code. -/
def typeCode : Variant → Nat
  | .zq2n => 0x5620 | .zq2 => 0x5622 | .zq4 => 0x5624 | .zq8 => 0x5628
/-- Housing code. -/
def housingCode : Housing → Nat
  | .none => 0 | .l => 1 | .p => 2

/-- Application cores: four a bough die (01 R20). -/
def coresOf (v : Variant) : Nat := 4 * boughs v

/-- The part's variant. -/
def State.variant (s : State) : Variant := s.part.variant

/-- The unit numbers in ascending slot order (02 R45). -/
def genSlots : List Nat :=
  [0x01, 0x02, 0x03, 0x10, 0x11, 0x12, 0x13, 0x14, 0x20, 0x21, 0x22, 0x23, 0x24, 0x25, 0x26, 0x27,
   0x30, 0x31, 0x32, 0x33, 0x40, 0x41, 0x42, 0x43, 0x44, 0x50, 0x51, 0x60, 0x61, 0x62, 0x70, 0x71]

/-- The number stands in the table of unit numbers (02 R53). -/
def unitKnown (u : Nat) : Bool := genSlots.contains u

/-- The unit is fitted on the variant (00 R1, R5): LOSS, CAM and CROWN are absent on ZQ-2N. -/
def unitFitted (v : Variant) (u : Nat) : Bool :=
  unitKnown u && !(v == .zq2n && (u == 0x10 || u == 0x41 || u == 0x42))

/-- The instance lies inside the unit's numbering (02 R53). -/
def instInNumbering (u i : Nat) : Bool :=
  match u with
  | 0x10 => i < 24 | 0x11 => i < 8 | 0x12 => i < 48 | 0x13 => i < 16 | 0x14 => i < 6
  | 0x20 => i < 64
  | 0x21 => i < 24 || (0x100 ≤ i && i < 0x106) || (0x200 ≤ i && i < 0x202)
  | 0x22 => i < 72 || (0x100 ≤ i && i < 0x113)
  | 0x23 => i < 8 | 0x24 => i < 48 | 0x25 => i < 16 | 0x26 => i < 10
  | 0x30 => i < 8 | 0x31 => i < 4 | 0x32 => i < 7
  | 0x33 => i < 3 || (0x100 ≤ i && i < 0x108)
  | 0x40 => i < 3 | 0x41 => i < 2 | 0x42 => i < 7
  | 0x51 => i < 64 | 0x61 => i < 7 | 0x71 => i < 49
  | _ => i == 0

/-- The instance is present on the part (00 R5, 21 R464, 13 R302). -/
def instPresent (p : Part) (u i : Nat) : Bool :=
  match u with
  | 0x10 => i < lossChs p.variant
  | 0x26 => i < 8 || p.housing == .l
  | 0x40 => i ≤ antennas p.variant
  | 0x41 => i < camPorts p.variant
  | 0x42 => i < crowns p.variant
  | 0x71 => i < 10 || (i < 24 && (i - 10) / 2 < boughs p.variant) || (24 ≤ i)
  | _ => true

/-! ### Units -/

/-- The state of a unit; the addressed Crown unit's own for CROWN (02 R51). -/
def State.unitSt (s : State) (u inst : Nat) : UnitSt :=
  if u = 0x42 then tget UnitSt.reset s.keeper.crowns inst else tget UnitSt.reset s.keeper.units u

/-- Change the state of a unit. -/
def State.modUnit (s : State) (u inst : Nat) (f : UnitSt → UnitSt) : State :=
  if u = 0x42 then { s with keeper.crowns := tmod UnitSt.reset s.keeper.crowns inst f }
  else { s with keeper.units := tmod UnitSt.reset s.keeper.units u f }

/-- Its generation. -/
def State.gen (s : State) (u inst : Nat) : Nat := (s.unitSt u inst).gen

/-- The unit runs: neither powered down nor restarting. -/
def State.running (s : State) (u inst : Nat) : Bool :=
  (s.unitSt u inst).phase == .running || (s.unitSt u inst).phase == .handover

/-- The next generation; after 0xFFFF it continues at 0x0001 (02 R46). -/
def nextGen (g : Nat) : Nat := if g ≥ 0xFFFF then 1 else g + 1

/-- The trunk die runs its firmware. -/
def State.trunkOn (s : State) : Bool :=
  match s.power.state with
  | .keeper | .run | .ending | .parking | .test => true
  | _ => false

/-- KEEPER or RUN, in which operating time counts (00 R11). -/
def State.operating (s : State) : Bool :=
  match s.power.state with
  | .keeper | .run | .ending | .parking => true
  | _ => false

/-- RUN, its grace period included: the bough dies are powered. -/
def State.inRun (s : State) : Bool := s.power.state == .run || s.power.state == .ending

/-- A park state. -/
def State.parked (s : State) : Bool :=
  s.power.state == .deep || s.power.state == .selective || s.power.state == .guard

/-! ### The passing of time (log entry 9): a timed happening, when it comes, comes at its instant. -/

/-- The reflex cycle in which an instant falls or, between two, the one after it: Heartwood is a multiple of 4 ns (03 R74). -/
def cycleOf (t : Nat) : Nat := (t + 3) / 4 * 4

/-- Time passes up to the reflex cycle of an instant, none when it is past; operating time counts with it in KEEPER and RUN. -/
def State.waitTo (s : State) (t : Nat) : State :=
  { s with time.heartwood := max s.hw (cycleOf t),
           power.opNs := s.power.opNs + (if s.operating then cycleOf t - s.hw else 0) }

/-- Operating time passes up to a count (in KEEPER or RUN). -/
def State.waitOp (s : State) (t : Nat) : State := s.waitTo (s.hw + (t - s.power.opNs))

/-- The periodic happening `key` comes at its next boundary k·period + phase: now, if now is one at which it has not yet
been handled. -/
def State.boundary (s : State) (key period phase : Nat) : State :=
  let t := if s.hw ≤ phase then phase else phase + (s.hw - phase + period - 1) / period * period
  let t := if tget 0 s.time.ticks key = t + 1 then t + period else t
  let s := s.waitTo t
  { s with time.ticks := tset 0 s.time.ticks key (t + 1) }

/-! ### Windows and permissions -/

/-- A window. -/
def State.win (s : State) (w : Nat) : Window := tget Window.reset s.keeper.windows w

/-- Change a window. -/
def State.modWin (s : State) (w : Nat) (f : Window → Window) : State :=
  { s with keeper.windows := tmod Window.reset s.keeper.windows w f }

/-- The declaration in force of a PART_ID; of a preparation window, at 0x100 above it, the new part's (19 R417, R424). -/
def State.decl (s : State) (w : Nat) : PartDecl := tget PartDecl.reset s.keeper.decls w

/-- An instance lies in one of the ranges. -/
def inRanges (l : List (Nat × Nat)) (i : Nat) : Bool := l.any (fun r => decide (r.1 ≤ i ∧ i ≤ r.2))

/-- The window holds OBSERVE (or CONTROL when `control`) on a unit and instance (02 R61). Root holds CONTROL on every
unit; a preparation window holds CONTROL on GRAFT only, and reads SETTINGS (19 R424). -/
def State.right (s : State) (w u inst : Nat) (control : Bool) : Bool :=
  if w = 0 then true
  else if w ≥ 0x100 then u == 0x60 || (u == 0x61 && inst == 5 && !control)
  else (s.decl w).units.any (fun e => e.unit == u && (e.control || !control) && inRanges e.ranges inst)

/-- The window may read a signal (02 R62). Root's own list is not stated: Root reads every signal (log entry 7). -/
def State.sigReadable (s : State) (w id : Nat) : Bool := w == 0 || inRanges (s.decl w).reads id

/-- The window owns a signal (01 R26). -/
def State.sigOwned (s : State) (w id : Nat) : Bool :=
  if w = 0 then decide (0xF00 ≤ id ∧ id ≤ 0xFFF)
  else decide (0x800 ≤ id ∧ id ≤ 0xEFF) && decide (w < 0x100) && inRanges (s.decl w).owns id

/-- A right on some instance of a unit. -/
def State.anyRight (s : State) (w u : Nat) : Bool :=
  w == 0 || (w < 0x100 && (s.decl w).units.any (fun e => e.unit == u))

/-! ### Events (03 R88-R91, 02 R69) -/

/-- The EVT condition of 02 R49 from the count of unread events. -/
def Window.unread (w : Window) : Nat := (w.evtProd + 65536 - w.evtCons) % 65536

/-- EVT_THR, 0 read as 1. -/
def Window.thr (w : Window) : Nat := max 1 (bits w.irqCtrl 15 8)

/-- Append an entry to the event ring at Heartwood `now`, or drop and count it when the ring is full (02 R69, 03 R89).
IRQ_STATUS.LOST is set when EVT_LOST increases (02 R49), and the instant of the first drop is kept for EVENTS_LOST. -/
def Window.postEvent (w : Window) (now : Nat) (e : Event) : Window :=
  if w.unread ≥ 256 then
    let more := decide (w.evtLost < 4294967295)
    { w with evtLost := satAdd 32 w.evtLost 1, irqLost := w.irqLost || more, lostAt := if more then now + 1 else w.lostAt,
             evtDropped := w.evtDropped + 1, evtDropAt := if w.evtDropped = 0 then usOf now else w.evtDropAt }
  else
    let e := { e with seq := w.seq }
    let w := { w with seq := (w.seq + 1) % 4294967296, evtRing := (w.evtRing ++ [e]).drop (w.evtRing.length + 1 - 256),
                      evtProd := (w.evtProd + 1) % 65536, posted := w.posted ++ [e] }
    { w with irqEvt := w.irqEvt || decide (w.unread ≥ w.thr) }

/-- The window receives events of a unit's instance on a source: it runs, it holds a right on them, and its mask selects
the source (02 R61, 03 R91). Source 0 reaches every window. -/
def State.receives (s : State) (w : Nat) (x : Window) (u inst src : Nat) : Bool :=
  x.running && (src == 0 || ((w == 0 || s.right w u inst false) && x.mask.testBit src))

/-- Deliver an event to the windows that receive it, and always to window `cmd` if given (a completion, 02 R55). During a
Keeper pause it is kept for the release (02 R67). -/
def State.deliver (s : State) (u inst : Nat) (e : Event) (cmd : Option Nat := none) : State :=
  if s.keeper.paused then { s with keeper.deferred := s.keeper.deferred ++ [{ unit := u, inst := inst, ev := e, cmd := cmd }] }
  else { s with keeper.windows := s.keeper.windows.map (fun (k, x) =>
    if s.receives k x u inst e.source || (x.running && cmd == some k) then (k, x.postEvent s.hw e) else (k, x)) }

/-- Post an event of a unit's instance, stamped `stamp`. -/
def State.postAt (s : State) (stamp u inst src code p0 p1 p2 p3 : Nat) : State :=
  s.deliver u inst { source := src, code := code, stamp := stamp, p0 := p0, p1 := p1, p2 := p2, p3 := p3 }

/-- Post an event of a unit's instance now. -/
def State.post (s : State) (u inst src code p0 p1 p2 p3 : Nat) : State := s.postAt s.hw u inst src code p0 p1 p2 p3

/-- Post an event in every running window, whatever its rights and mask. -/
def State.postAll (s : State) (src code p0 p1 p2 p3 : Nat) : State :=
  let e : Event := { source := src, code := code, stamp := s.hw, p0 := p0, p1 := p1, p2 := p2, p3 := p3 }
  if s.keeper.paused then { s with keeper.deferred := s.keeper.deferred ++ [{ ev := e, only := true }] }
  else { s with keeper.windows := s.keeper.windows.map (fun (k, x) => if x.running then (k, x.postEvent s.hw e) else (k, x)) }

/-- Post an event stamped `stamp` in one window, whatever its rights and mask. -/
def State.postInAt (s : State) (stamp w src code p0 p1 p2 p3 : Nat) : State :=
  let e : Event := { source := src, code := code, stamp := stamp, p0 := p0, p1 := p1, p2 := p2, p3 := p3 }
  if !(s.win w).running then s
  else if s.keeper.paused then { s with keeper.deferred := s.keeper.deferred ++ [{ ev := e, cmd := some w, only := true }] }
  else s.modWin w (fun x => x.postEvent s.hw e)

/-- Post an event in one window now. -/
def State.postIn (s : State) (w src code p0 p1 p2 p3 : Nat) : State := s.postInAt s.hw w src code p0 p1 p2 p3

/-- KEEPER/EVENTS_LOST is the next entry once the ring has a free slot after drops (02 R69). -/
def State.eventsLostAt (s : State) (stamp w : Nat) : State :=
  let x := s.win w
  if x.evtDropped = 0 ∨ x.unread ≥ 256 ∨ s.keeper.paused then s
  else (s.modWin w (fun x => { x with evtDropped := 0, evtDropAt := 0 })).postInAt stamp w 0 0x0003 (x.evtDropped % 2 ^ 32) x.evtDropAt 0 0

/-- It is posted now. -/
def State.eventsLost (s : State) (w : Nat) : State := s.eventsLostAt s.hw w

/-- Keeper's pause ends: EVENTS_LOST first, where a slot became free in the pause; it carries the stamp of the latch, which no
event of source 0 posted after it precedes (03 R90; log entry 29). -/
def State.unpause (s : State) : State :=
  s.keeper.windows.foldl (fun (s : State) e => s.eventsLostAt s.keeper.pausedAt e.1) { s with keeper.paused := false }

/-- The completion event of an accepted command (02 R55): P0 tag, P1 status and generation. -/
def State.complete (s : State) (op : Op) (u inst src code status p2 p3 : Nat) : State :=
  s.deliver u inst { source := src, code := code, stamp := s.hw, p0 := op.tag, p1 := status + 65536 * s.gen u inst,
                     p2 := p2, p3 := p3 } (some op.win)

/-! ### Larder records (20 R444-R446) -/

/-- Operating seconds (00 R11). -/
def State.opSec (s : State) : Nat := s.power.opNs / 1000000000

/-- The record goes to the Strongroom (20 R445). `forced` marks a record written under R393, R397 or R409. -/
def isStrong (code unit sev : Nat) (forced : Bool) : Bool :=
  decide (sev ≥ 6) || unit == 0x50 || unit == 0x51 || unit == 0x62 || decide (code ≥ 0xF000) || forced

/-- Enter a record into the 512-record Cellar buffer; a full buffer displaces the oldest general record, else the oldest
Strongroom record, and a general record that finds only Strongroom records is dropped (20 R446). -/
def Larder.enter (l : Larder) (r : LarderRec) : Larder :=
  if l.buffer.length < 512 then { l with buffer := l.buffer ++ [r] }
  else
    let l := { l with drops := satAdd 32 l.drops 1, dropNew := l.dropNew + 1 }
    match l.buffer.findIdx? (fun x => !x.strong) with
    | some i => { l with buffer := l.buffer.eraseIdx i ++ [r] }
    | none => if r.strong then { l with buffer := l.buffer.drop 1 ++ [r], dropNewS := l.dropNewS + 1 } else l

/-- Write a Larder record (20 R444): it takes its sequence number at its entry into the buffer. -/
def State.larderWrite (s : State) (code unit inst sev : Nat) (forced dropped : Bool) (params : List Nat)
    (stamp occ count : Nat) : State :=
  let strong := isStrong code unit sev forced
  let l := s.larder
  let seq := if strong then (l.seqS + 1) % 4294967296 else (l.seqG + 1) % 4294967296
  let r : LarderRec := { seq := seq, code := code, unit := unit, sev := sev, strong := strong, dropped := dropped,
                         opSec := s.opSec, cycle := s.time.epoch, params := params, inst := inst, stamp := stamp,
                         occ := occ, count := count }
  let l := if strong then { l with seqS := seq, cntS := l.cntS + 1 } else { l with seqG := seq, cntG := l.cntG + 1 }
  { s with larder := l.enter r }

/-! ### The fault manager (03 R92-R97, 18 R404) -/

/-- The fault-flag map: Root flags whose words match unit and code (18 R404). -/
def State.mapFlags (s : State) (code unit : Nat) : State :=
  let fl := (List.range 32).filterMap (fun i =>
    let w := tget 0xFFFF00FF s.root.faultmap i
    if bits w 31 16 = code ∧ bits w 15 8 = unit ∧ bits w 7 0 < 32 then some (bits w 7 0) else none)
  { s with root.flags := s.root.flags ||| bitSet fl }

/-- The faults are the same in code, unit and instance. -/
def FaultRec.same (f g : FaultRec) : Bool := f.code == g.code && f.unit == g.unit && f.inst == g.inst

/-- Insert a raised fault: severity highest first, then first-occurrence stamp, oldest first (03 R95). -/
def queueInsert (f : FaultRec) : List FaultRec → List FaultRec
  | [] => [f]
  | g :: q => if g.sev > f.sev ∨ (g.sev = f.sev ∧ g.first ≤ f.first) then g :: queueInsert f q else f :: g :: q

/-- Insert a preempted fault at the head of its severity (03 R95). -/
def queueHead (f : FaultRec) : List FaultRec → List FaultRec
  | [] => [f]
  | g :: q => if g.sev > f.sev then g :: queueHead f q else f :: g :: q

/-- Of the candidates of an overflow, the one dropped: the lowest severity, among equals the newest (03 R96). -/
def overflowPick (q : List FaultRec) : Option FaultRec :=
  q.foldl (fun a f => match a with
    | none => some f
    | some g => if f.sev < g.sev ∨ (f.sev = g.sev ∧ f.first ≥ g.first) then some f else some g) none

/-- A queue of 33 drops one: drop count, Larder record and FAULT/OVERFLOW (03 R96). Its unit raises it again later. -/
def State.settleQueue (s : State) : State :=
  if s.faults.queue.length ≤ 32 then s
  else match overflowPick s.faults.queue with
    | none => s
    | some f =>
      let s := { s with faults.queue := s.faults.queue.erase f, faults.drops := satAdd 32 s.faults.drops 1,
                        faults.dropped := s.faults.dropped.filter (fun (g : FaultRec) => !g.same f) ++ [f] }
      let s := s.larderWrite f.code f.unit f.inst f.sev false true
        (f.params ++ [faultWord f.code f.sev f.unit]) f.first f.occ f.count
      s.post 3 0 2 0x43 (faultWord f.code f.sev f.unit) s.faults.drops f.occ 0

/-- A fault of severity 6 or 7 goes to Root, or to the Cellar inbox of 64 while Root does not run (03 R93). -/
def State.passToRoot (s : State) (f : FaultRec) : State :=
  if f.sev < 6 then s
  else if s.root.phase == .running then { s with faults.rootSeen := s.faults.rootSeen ++ [f] }
  else if s.faults.inbox.length < 64 then { s with faults.inbox := s.faults.inbox ++ [f] }
  else { s with faults.inboxOver := s.faults.inboxOver + 1 }

/-- The fault's condition stands (03 R97). A condition that already stood keeps the occurrence number under which it was first
raised, which FAULT/CLEARED then carries (log entry 35). -/
def State.markActive (s : State) (f : FaultRec) : State :=
  if s.faults.active.any (·.same f) then s else { s with faults.active := s.faults.active ++ [f] }

/-- The fault preempts the one being handled, which returns to the queue at the head of its severity (03 R95, R96). -/
def State.preempt (s : State) (c f : FaultRec) : State :=
  let s := { s with faults.current := some f, faults.queue := queueHead c s.faults.queue, faults.occurrences := f.occ }
  (s.post 3 0 2 0x42 (faultWord c.code c.sev c.unit) (f.code + 65536 * f.sev) c.occ 0).settleQueue

/-- The fault coalesces with one queued, or enters the queue (03 R95, R96). -/
def State.enqueue (s : State) (f : FaultRec) : State × Nat :=
  match s.faults.queue.find? (·.same f) with
  | some g =>
    ({ s with faults.queue := s.faults.queue.map (fun x => if x.occ == g.occ then
        { x with count := x.count + 1, last := s.hw } else x) }, g.occ)
  | none => (({ s with faults.occurrences := f.occ, faults.queue := queueInsert f s.faults.queue } : State).settleQueue, f.occ)

/-- The fault manager handles: FAULT runs, outside a Keeper activation pause (03 R509). -/
def State.faultRuns (s : State) : Bool := s.trunkOn && s.running 3 0 && !s.keeper.paused

/-- A raised fault is handled at once, preempts, coalesces or is queued (03 R95); while handling is suspended it enters the
queue (03 R509). -/
def State.placeFault (s : State) (f : FaultRec) : State × Nat :=
  match s.faults.current with
  | none =>
    if s.faultRuns && s.faults.queue.isEmpty then
      ({ s with faults.current := some f, faults.occurrences := f.occ }, f.occ)
    else s.enqueue f
  | some c => if s.faultRuns && decide (f.sev > c.sev) then (s.preempt c f, f.occ) else s.enqueue f

/-- Raise a fault (03 R92-R96): the fault-flag map, the way to Root for severities 6 and 7, then handling, preemption,
coalescing or the queue. Answers the occurrence number. `recorded` says that its Larder record is already written. -/
def State.raise (s : State) (code unit inst sev : Nat) (params : List Nat) (recorded : Bool := false) : State × Nat :=
  let f : FaultRec := { code := code, unit := unit, inst := inst, sev := sev, occ := s.faults.occurrences + 1,
                        first := s.hw, last := s.hw, params := params, gen := s.gen unit inst, done1 := recorded }
  let q := ((s.mapFlags code unit).passToRoot f).placeFault f
  (q.1.markActive { f with occ := q.2 }, q.2)

/-- Post a unit's event with a severity and raise it with the fault manager (03 R92). -/
def State.raiseEv (s : State) (u inst src code sev p0 p1 p2 p3 : Nat) : State :=
  ((s.post u inst src code p0 p1 p2 p3).raise code u inst sev [p0, p1, p2, p3]).1

/-- A fault's condition has ended: FAULT/CLEARED (03 R97). A condition that does not stand changes nothing. -/
def State.clearFault (s : State) (code unit inst : Nat) : State :=
  match s.faults.active.find? (fun f => f.code == code && f.unit == unit && f.inst == inst) with
  | none => s
  | some f =>
    let s := { s with faults.active := s.faults.active.filter (fun g => !g.same f),
                      faults.dropped := s.faults.dropped.filter (fun g => !g.same f) }
    s.post 3 0 2 0x44 (faultWord code f.sev unit) inst f.occ 0

/-! ### Replies and the command path (02 R52-R60) -/

/-- Status codes (02 R53). -/
def stDone : Nat := 0x00
/-- ACCEPTED -/
def stAccepted : Nat := 0x01
/-- HELD -/
def stHeld : Nat := 0x02
/-- NOT_FITTED -/
def stNotFitted : Nat := 0x10
/-- BAD_UNIT -/
def stBadUnit : Nat := 0x11
/-- BAD_VERB -/
def stBadVerb : Nat := 0x12
/-- BAD_LENGTH -/
def stBadLength : Nat := 0x13
/-- OUT_OF_RANGE -/
def stRange : Nat := 0x14
/-- NOT_PERMITTED -/
def stNotPermitted : Nat := 0x15
/-- BUSY -/
def stBusy : Nat := 0x16
/-- UNIT_RESTARTED -/
def stRestarted : Nat := 0x20
/-- DEADLINE_MISSED -/
def stDeadline : Nat := 0x21
/-- SAFETY_REFUSED -/
def stSafety : Nat := 0x22
/-- LOCKED -/
def stLocked : Nat := 0x23
/-- AUTH_FAILED -/
def stAuth : Nat := 0x30
/-- IMAGE_INVALID -/
def stImage : Nat := 0x31
/-- TEMP_INHIBIT -/
def stTemp : Nat := 0x32
/-- No status: the command executes on and its reply is posted when it ends (08 R200). -/
def stLater : Nat := 0x100

/-- Free reply slots of a window (02 R56). -/
def Window.freeSlots (w : Window) : Nat := 64 - (w.rplProd + 65536 - w.rplCons) % 65536

/-- Replies a window is owed: held, waiting and decided but not posted (02 R56). -/
def Window.owed (w : Window) : Nat := w.held.length + w.waiting.length + w.later.length + w.outbox.length

/-- Write a reply into the next slot at Heartwood `now` (02 R54 step 6). -/
def Window.pushReply (w : Window) (now : Nat) (r : Reply) : Window :=
  { w with rplRing := (w.rplRing ++ [r]).drop (w.rplRing.length + 1 - 64), rplProd := (w.rplProd + 1) % 65536,
           irqRpl := true, rplAt := now + 1 }

/-- Post a reply, or keep it until a slot is free, in the order of decisions (02 R56). -/
def Window.emit (w : Window) (now : Nat) (r : Reply) : Window :=
  if w.outbox.isEmpty && decide (w.freeSlots > 0) then w.pushReply now r else { w with outbox := w.outbox ++ [r] }

/-- Post decided replies while slots are free. -/
def Window.drain (w : Window) (now : Nat) : Nat → Window
  | 0 => w
  | n + 1 =>
    match w.outbox with
    | [] => w
    | r :: l => if w.freeSlots > 0 then Window.drain (({ w with outbox := l } : Window).pushReply now r) now n else w

/-- One mailbox verb: its numbers, the payloads and instances it accepts, whether it is a query and real-time, the check
that stands in place of check 7 where the spec replaces it, and its own checks and effect. -/
structure Verb where
  unit : Nat
  verb : Nat
  lenOk : Req → Bool
  instOk : Nat → Bool
  query : Bool
  rt : Bool
  perm : Option (State → Req → Bool)
  body : Req → State → State × Nat × List Byte

/-- The queries answered in every power state (09 R219). -/
def Verb.anyPower (v : Verb) : Bool := v.unit == 0x42 && v.query

/-- The reply of a command (02 R52). -/
def State.mkReply (s : State) (v : Verb) (r : Req) (held replayed : Bool) (status : Nat) (payload : List Byte) : Reply :=
  { unit := r.unit, verb := r.verb, tag := r.tag, inst := r.inst,
    rflags := (if r.cls = 2 ∧ v.rt = false then 1 else 0) + (if held then 2 else 0) + (if replayed then 4 else 0),
    gen := s.gen r.unit r.inst, status := status, doneAt := s.us, payload := payload }

/-- Check 7 (02 R61): queries need OBSERVE, other verbs CONTROL; only Root sends ROOT and REFLEX verbs that are not queries. -/
def State.permitted (s : State) (v : Verb) (r : Req) : Bool :=
  match v.perm with
  | some f => f s r
  | none =>
    s.right r.win v.unit r.inst (!v.query) &&
      (v.query || r.win == 0 || !(v.unit == 0x50 || v.unit == 0x51))

/-- A deadline has passed (02 R60): (now − deadline) as a signed 32-bit count is ≥ 0; zero is no deadline. -/
def deadlinePassed (now deadline : Nat) : Bool :=
  deadline % 4294967296 != 0 && decide ((now + 4294967296 - deadline % 4294967296) % 4294967296 < 2147483648)

/-- Checks 2 to 11 of 02 R59; the first that fails answers its status. -/
def State.check (s : State) (v : Verb) (r : Req) : Option Nat :=
  if !unitFitted s.variant v.unit then some stNotFitted
  else if r.payload.length > 112 || !v.lenOk r then some stBadLength
  else if !v.instOk r.inst || !(r.cls == 0 || r.cls == 2 || r.cls == 3) then some stRange
  else if !instPresent s.part v.unit r.inst then some stNotFitted
  else if !s.permitted v r then some stNotPermitted
  else if bit r.flags 2 && r.genLow != s.gen v.unit r.inst % 4096 then some stRestarted
  else if (s.unitSt v.unit r.inst).phase == .off && !v.anyPower then some stBusy
  else if deadlinePassed s.us r.deadline then some stDeadline
  else if (s.unitSt v.unit r.inst).phase != .running && (s.unitSt v.unit r.inst).phase != .off then some (if bit r.flags 1 then stBusy else stHeld)
  else none

/-- The stores of a partition into one of its regions (02 R72). -/
def State.store (s : State) (w : Nat) (st : Store) : State :=
  s.modWin w (fun x => { x with regions := tmod Region.reset x.regions st.1 (fun g =>
    if g.present then { g with bytes := twrite g.bytes st.2.1 (st.2.2.take (g.size - st.2.1)) } else g) })

/-- All stores that precede a command. -/
def State.stores (s : State) (w : Nat) (l : List Store) : State := l.foldl (fun s st => s.store w st) s

/-- Post a reply to a command's window; in a Keeper pause it is kept for the release (02 R67). -/
def State.answer (s : State) (w : Nat) (y : Reply) : State :=
  s.modWin w (fun x => if s.keeper.paused then { x with outbox := x.outbox ++ [y] } else x.emit s.hw y)

/-- Keep an executed command with its reply for 01 R39 (Canopy windows on variants with failover). -/
def State.recordReply (s : State) (r : Req) (y : Reply) : State :=
  if hasFailover s.variant && decide (0x10 ≤ r.win ∧ r.win < 0x20) && (y.status == 0 || y.status == 1) then
    s.modWin r.win (fun x => { x with record := x.record ++ [{ req := r, reply := y }] })
  else s

/-- The first command to a unit of the trunk die ungates its clock (01 R19). -/
def State.ungate (s : State) (u inst : Nat) : State :=
  if u = 0x42 then s else s.modUnit u inst (fun x => { x with ungated := true })

/-- The application has every function of a unit of the trunk die disabled (01 R19): no channel in a mode, no supply enabled,
no loop past LOADED, no port enabled. A unit whose verbs disable nothing is never idle. -/
def State.unitIdle (s : State) (u : Nat) : Bool :=
  match u with
  | 0x10 => s.sensing.loss.all (fun e => (e.2.pendCfg.getD e.2.cfg).mode == 0)
  | 0x11 => s.sensing.bridge.all (fun e => e.2.exc == 0)
  | 0x12 => s.sensing.ain.all (fun e => e.2.range == 0)
  | 0x13 => s.sensing.freq.all (fun e => e.2.type == 0)
  | 0x14 => s.sensing.sup.all (fun e => !e.2.enable)
  | 0x20 => s.ctrl.slots.all (fun e => decide (e.2.state ≤ 1))
  | 0x21 => s.valve.ch.all (fun e => e.2.mode == 0)
  | 0x22 => s.outs.ch.all (fun e => (e.2.pend.getD e.2.cfg).mode == 0)
  | 0x24 => s.swin.sw.all (fun e => (match e.2.pend with | some p => u8 p 0 | none => e.2.thr) == 0)
  | 0x26 => s.fans.all (fun e => !e.2.bound || (match e.2.pend with | some p => u8 p 0 | none => e.2.mode) == 0)
  | 0x30 => s.can.ch.all (fun e => e.2.mode == 0)
  | 0x31 => s.body.lin.all (fun e => !e.2.enable)
  | 0x32 => s.eth.ports.all (fun e => !e.2.enable)
  | 0x41 => s.cam.ports.all (fun e => !e.2.link && !e.2.coax)
  | _ => false

/-- When the application has disabled the unit between `s` and `t`, its clock is gated again (01 R19): at the command, or where the
disabling takes effect later, then. -/
def State.gateIdle (s t : State) (u inst : Nat) : State :=
  if t.unitIdle u && !s.unitIdle u then t.modUnit u inst (fun x => { x with ungated := false }) else t

/-- Execute a command that passed its checks and post its final reply. -/
def State.execute (s : State) (v : Verb) (r : Req) (held : Bool) : State :=
  let (s', st, pl) := v.body r (s.ungate v.unit r.inst)
  let s' := s.gateIdle s' v.unit r.inst
  if st = stLater then s'.modWin r.win (fun x => { x with later := x.later ++ [(r, held)] })
  else
  let y := s'.mkReply v r held false st pl
  (s'.recordReply r y).answer r.win y

/-- Serve a consumed command (02 R54 step 5, R59): refuse it, hold it, or execute it; `held` on its return from a hold. -/
def State.serve (s : State) (v : Verb) (r : Req) (held : Bool) : State :=
  match s.check v r with
  | none => s.execute v r held
  | some st =>
    if st = stHeld then
      if held then s.modWin r.win (fun x => { x with held := x.held ++ [{ req := r, heldAt := s.hw }] })
      else (s.modWin r.win (fun x => { x with held := x.held ++ [{ req := r, heldAt := s.hw }] })).answer r.win
        (s.mkReply v r false false stHeld [])
    else s.answer r.win (s.mkReply v r held false st [])

/-- The real-time verbs that the unit chapters mark, by unit (02 R52): those whose `Verb.rt` is set. -/
def realTime : List (Nat × List Nat) :=
  [(0x01, [0x00, 0x10, 0x11]), (0x10, [0x01, 0x21]), (0x11, [0x01, 0x21]), (0x12, [0x21]), (0x13, [0x21]),
   (0x20, [0x01, 0x11, 0x12, 0x13, 0x21]), (0x21, [0x01, 0x11, 0x21]), (0x22, [0x01, 0x11]), (0x23, [0x01, 0x11]),
   (0x24, [0x01]), (0x25, [0x01, 0x11, 0x21]), (0x26, [0x01, 0x12, 0x21]), (0x27, [0x01]), (0x30, [0x01, 0x02, 0x03, 0x16]),
   (0x31, [0x01, 0x02, 0x12, 0x13]), (0x32, [0x01]), (0x33, [0x01, 0x02, 0x11]), (0x40, [0x01, 0x02, 0x13, 0x21]),
   (0x41, [0x01, 0x16, 0x21]), (0x42, [0x01, 0x02, 0x14, 0x15, 0x21]), (0x43, [0x01, 0x21]), (0x44, [0x01]),
   (0x50, [0x01, 0x02]), (0x51, [0x01]), (0x60, [0x01]), (0x61, [0x01]), (0x62, [0x01]), (0x70, [0x01, 0x11, 0x12]),
   (0x71, [0x01])]

/-- The class at which a command executes (02 R52): 2 for a class-2 command to a real-time verb, else 3 (0 is bulk too). -/
def execClass (r : Req) : Nat :=
  if r.cls = 2 ∧ realTime.any (fun e => e.1 == r.unit && e.2.contains r.verb) then 2 else 3

/-- The hold of a command is over: its unit runs, or is powered down (02 R64). -/
def State.holdOver (s : State) (h : Held) : Bool :=
  let p := (s.unitSt h.req.unit h.req.inst).phase
  p == .running || p == .off

/-- Two commands of a window start in ring order: one unit, instance and class (02 R58), a demoted one at class 3 (02 R52). -/
def sameLane (q r : Req) : Bool := q.unit == r.unit && q.inst == r.inst && execClass q == execClass r

/-- A command must wait: it is ORDERED and an earlier one has no posted final reply yet, or an earlier one of its lane waits, or
one whose hold is over has not run yet (02 R58, R64). `pre` are the earlier commands that wait. -/
def State.mustWait (s : State) (pre : List Req) (r : Req) : Bool :=
  let x := s.win r.win
  (bit r.flags 0 && !(x.held.isEmpty && pre.isEmpty && x.later.isEmpty && x.outbox.isEmpty)) ||
    pre.any (sameLane r) || x.held.any (fun h => s.holdOver h && sameLane h.req r)

/-- The recorded command that a re-issued one matches in tag, opcode and payload (01 R39). -/
def State.recorded (s : State) (r : Req) : Option Recorded :=
  (s.win r.win).replay.find? (fun q => q.req.tag == r.tag && q.req.unit == r.unit && q.req.verb == r.verb &&
    q.req.payload == r.payload)

/-- Keeper starts a consumed command: it posts the recorded reply of a re-issued one, which stays in the record of commands
executed since the last checkpoint (01 R39), else it serves the command. -/
def State.start (s : State) (v : Verb) (r : Req) : State :=
  match s.recorded r with
  | some q =>
    (s.modWin r.win (fun x => { x with replay := x.replay.erase q, record := x.record ++ [q] })).answer r.win
      { q.reply with rflags := q.reply.rflags ||| 4 }
  | none => s.serve v r false

/-- Keeper takes a consumed command: it starts it, or lets it wait its turn. -/
def State.take (s : State) (v : Verb) (r : Req) : State :=
  if s.mustWait (s.win r.win).waiting r then s.modWin r.win (fun x => { x with waiting := x.waiting ++ [r] })
  else s.start v r

/-- The 128 bytes of a command slot (02 R51). -/
def slotBytes (r : Req) : List Byte :=
  b8 r.verb ++ b8 r.unit ++ b8 r.flags ++ b8 r.payload.length ++ b32 r.tag ++
    b32 (r.inst % 65536 + 65536 * (r.cls % 16) + 1048576 * (r.genLow % 4096)) ++ b32 r.deadline ++ slice r.payload 0 112

/-- Slots written and not yet consumed. -/
def Window.backlog (w : Window) : Nat := (w.cmdProd + 65536 - w.cmdCons) % 65536

/-- The partition writes a slot and rings the doorbell (02 R54 steps 2 and 3). -/
def Window.putSlot (w : Window) (r : Req) : Window :=
  { w with cmdRing := twrite w.cmdRing (0x1000 + 128 * (w.cmdProd % 64)) (slotBytes r), cmdProd := (w.cmdProd + 1) % 65536 }

/-- Keeper consumes a command of the window now: it runs outside a pause, and the replies owed are fewer than the free slots
(02 R56, R67). -/
def State.keeperServes (s : State) (w : Nat) : Bool :=
  !s.keeper.paused && s.running 1 0 && decide ((s.win w).owed < (s.win w).freeSlots)

/-- The run state of a partition. -/
def State.partition (s : State) (p : Nat) : Partition := tget Partition.reset s.keeper.partitions p

/-- Change it. -/
def State.modPartition (s : State) (p : Nat) (f : Partition → Partition) : State :=
  { s with keeper.partitions := tmod Partition.reset s.keeper.partitions p f }

/-- Cores on surviving dies (01 R20). -/
def State.coreAlive (s : State) (c : Nat) : Bool := decide (c < coresOf s.variant) && !s.keeper.retired.contains (c / 4)

/-- The partition of a Canopy window is paused: a failover restores it (01 R38), or it has yielded in a handover (19 R424). -/
def State.windowPaused (s : State) (w : Nat) : Bool :=
  decide (0x10 ≤ w ∧ w < 0x20) && (s.partition (w - 0x10)).state == .paused

/-- The partition of a window runs and can use it. -/
def State.live (s : State) (w : Nat) : Bool :=
  (s.win w).running && s.trunkOn && (w != 0 || s.root.phase == .running) && !s.windowPaused w

/-- A mailbox command as its row (02 R54): the partition writes its slot and rings the doorbell; Keeper consumes it, unless
earlier slots wait unconsumed or it consumes nothing now. A window that is not live, or whose ring is full, issues nothing. -/
def State.mailbox (s : State) (v : Verb) (r0 : Req) : State :=
  let r := { r0 with unit := v.unit, verb := v.verb }
  if !s.live r.win || decide ((s.win r.win).backlog ≥ 64) then s
  else
    let s := s.stores r.win r.stores
    let wait := decide ((s.win r.win).backlog ≠ 0) || !s.keeperServes r.win
    let s := s.modWin r.win (fun x => x.putSlot r)
    if wait then s
    else (s.modWin r.win (fun x => { x with cmdCons := (x.cmdCons + 1) % 65536 })).take v r

/-- The configuration Keeper keeps has changed (20 R437). -/
def State.dirty (s : State) : State := if s.keptDirty.isNone then { s with keptDirty := some s.hw } else s

/-- Exact payload length. -/
def lenIs (n : Nat) : Req → Bool := fun r => r.payload.length == n
/-- Instance 0 only. -/
def inst0 : Nat → Bool := fun i => i == 0
/-- Instances below a bound. -/
def instLt (n : Nat) : Nat → Bool := fun i => decide (i < n)

/-! ### Regions and bulk transfers (02 R72-R73) -/

/-- A region of a window. -/
def State.region (s : State) (w d : Nat) : Region := tget Region.reset (s.win w).regions d

/-- Change a region. -/
def State.modRegion (s : State) (w d : Nat) (f : Region → Region) : State :=
  s.modWin w (fun x => { x with regions := tmod Region.reset x.regions d f })

/-- The check of a named descriptor (02 R73): its failing status, or none. -/
def State.regionCheck (s : State) (w d len : Nat) : Option Nat :=
  let g := s.region w d
  if d ≥ 64 || !g.present || decide (len > g.size) then some stRange else if g.inuse then some stBusy else none

/-- Read bytes of a region. -/
def State.regionRead (s : State) (w d ofs n : Nat) : List Byte := tread (s.region w d).bytes ofs n

/-- A transfer starts: INUSE, DIR, TAG, FILL 0. -/
def State.regionBegin (s : State) (w d tag : Nat) (dir : Bool) : State :=
  s.modRegion w d (fun g => { g with inuse := true, dir := dir, tag := tag, fill := 0 })

/-- A transfer ends with `n` bytes moved. -/
def State.regionEnd (s : State) (w d n : Nat) : State :=
  s.modRegion w d (fun g => { g with inuse := false, fill := n, count := (g.count + 1) % 4294967296 })

/-- Keeper writes bytes into a region; of a partition that is stopped there is none. -/
def State.regionWrite (s : State) (w d ofs : Nat) (p : List Byte) : State :=
  if (s.region w d).present then s.modRegion w d (fun g => { g with bytes := twrite g.bytes ofs p }) else s

/-- A whole transfer within one command: Keeper reads or writes `n` bytes. -/
def State.regionDone (s : State) (w d tag n : Nat) (dir : Bool) : State :=
  s.modRegion w d (fun g => { g with dir := dir, tag := tag, fill := n, count := (g.count + 1) % 4294967296 })

/-! ### Signals (03 R83-R85) -/

/-- A signal. -/
def State.sig (s : State) (id : Nat) : Signal := tget Signal.reset s.signals id

/-- A signal is written: what it held before the writes of this reflex cycle is kept (05 R124). -/
def Signal.write (x : Signal) (now : Nat) (v : F32) (stamp flags : Nat) : Signal :=
  { value := v, stamp := stamp, flags := flags, wrAt := now + 1, before := if x.wrAt = now + 1 then x.before else (x.value, x.flags) }

/-- Write a signal. Granary reads every update of its flow signal (10 R243). -/
def State.setSig (s : State) (id : Nat) (v : F32) (stamp flags : Nat) : State :=
  let s := { s with signals := tmod Signal.reset s.signals id (fun x => x.write s.hw v stamp flags) }
  if s.granary.configured && s.granary.flowSig == id then { s with granary.flow := s.granary.flow ++ [(v, flags, stamp)] } else s

/-- Change the validity field of a signal. -/
def State.modFlags (s : State) (id : Nat) (f : Nat → Nat) : State :=
  { s with signals := tmod Signal.reset s.signals id (fun x => { x with flags := f x.flags }) }

/-- A signal as a loop latches it at the start of the reflex cycle of `tk`: a write that completes in the cycle is not
seen (05 R124). -/
def State.sigLatched (s : State) (tk id : Nat) : Signal :=
  let x := s.sig id
  if tk < x.wrAt then { x with value := x.before.1, flags := x.before.2 } else x

/-- A signal's VALID bit. -/
def State.sigValid (s : State) (id : Nat) : Bool := bit (s.sig id).flags 0

/-- The signals of a stopped unit read zero with flags clear (02 R66). -/
def State.zeroSigs (s : State) (lo hi : Nat) : State :=
  { s with signals := s.signals.filter (fun e => !(decide (lo ≤ e.1 ∧ e.1 ≤ hi))) }

/-- Set STALE on every signal of a range; value and stamp stay (03 R85). -/
def State.staleSigs (s : State) (lo hi : Nat) : State :=
  { s with signals := s.signals.filter (fun e => decide (e.1 < lo)) ++
      (List.range (hi + 1 - lo)).map (fun i =>
        let x := tget Signal.reset s.signals (lo + i)
        (lo + i, { x with flags := x.flags ||| fgStale })) ++
      s.signals.filter (fun e => decide (max hi (lo - 1) < e.1)) }

/-- The signals a window's partition owns become STALE (03 R85). -/
def State.staleOwned (s : State) (w : Nat) : State := (s.decl w).owns.foldl (fun (s : State) r => s.staleSigs r.1 r.2) s

/-! ### Host-assisted functions (02 R70-R71) -/

/-- The key of a function: P0 of KEEPER/HOST_LATE. -/
def hostKey (unit fn inst : Nat) : Nat := 16777216 * unit + 65536 * fn + inst

/-- The host-assisted state of a function. -/
def State.hostFn (s : State) (key : Nat) : HostFn := tget HostFn.reset s.keeper.hostFns key

/-- Change it. -/
def State.modHost (s : State) (key : Nat) (f : HostFn → HostFn) : State :=
  { s with keeper.hostFns := tmod HostFn.reset s.keeper.hostFns key f }

/-- The function runs host-assisted now. -/
def State.isHost (s : State) (key : Nat) : Bool := (s.hostFn key).host

/-- A checkpoint stop that a sample instant falls in extends its deadline by the stop (01 R35); a stop that begins later does
so when it comes. -/
def State.ckptExt (s : State) (key tk : Nat) : Nat :=
  if 0x10 ≤ (s.hostFn key).owner ∧ s.keeper.ckptAt ≤ tk ∧ tk ≤ s.keeper.ckptAt + s.keeper.ckptLen then s.keeper.ckptLen else 0

/-- The deadline t_k + D of the period last issued. -/
def HostFn.due (h : HostFn) : Nat := h.tk + h.d

/-- A period's result is judged missing (02 R71): hold, then the safe action at miss H + 1. A miss in the safe action that follows
an on-time result posts no HOST_LATE: the run of misses that entered the safe action has not ended (DEDUCED, log entry 18). -/
def State.hostMiss (s : State) (key : Nat) : State :=
  let h := s.hostFn key
  let n := h.misses + 1
  let s := s.modHost key (fun h =>
    { h with misses := n, got := true, onTime := 0,
             inSafe := h.inSafe || decide (n > h.holdLast),
             safePeriods := if h.inSafe then h.safePeriods + 1 else h.safePeriods })
  let s := if n = 1 ∧ !h.inSafe then s.post 1 0 0 0x0005 key (usOf h.due) 0 0 else s
  if n = h.holdLast + 1 ∧ !h.inSafe then s.post 1 0 0 0x0006 key n 0 0 else s

/-- A new period of a host-assisted function is sampled: a result still missing is judged first (02 R71). -/
def State.hostPeriod (s : State) (key tk d period : Nat) : State :=
  let s := if (s.hostFn key).got then s else s.hostMiss key
  s.modHost key (fun h => { h with k := (h.k + 1) % 4294967296, tk := tk, d := d + s.ckptExt key tk, period := period, got := false })

/-- The result of period `k` arrives in time: it is the present period's and not past its deadline. -/
def State.hostInTime (s : State) (key k : Nat) : Bool :=
  let h := s.hostFn key
  h.k == k && !h.got && decide (s.hw < h.due)

/-- An on-time result (02 R71): a run of misses ends; after two in safe action the function resumes. P1 of HOST_RESUMED counts
the periods after the one whose miss entered the safe action, the resuming one included (DEDUCED, log entry 18). Answers
whether the result is applied. -/
def State.hostResult (s : State) (key : Nat) : State × Bool :=
  let h := s.hostFn key
  if h.inSafe then
    if h.onTime + 1 ≥ 2 then
      let s := s.modHost key (fun h => { h with got := true, inSafe := false, misses := 0, onTime := 0, safePeriods := 0 })
      (s.post 1 0 0 0x0007 key (h.safePeriods + 1) 0 0, true)
    else (s.modHost key (fun h => { h with got := true, onTime := h.onTime + 1, safePeriods := h.safePeriods + 1 }), false)
  else (s.modHost key (fun h => { h with got := true, misses := 0 }), true)

/-- The result of period `k`, the one before the present, arrives before its deadline, which lies beyond its period. -/
def State.prevInTime (s : State) (key k : Nat) : Bool :=
  let h := s.hostFn key
  h.prev && (k + 1) % 4294967296 == h.k && decide (s.hw < h.ptk + h.pd)

/-- An on-time result of the period before; the present period's stays awaited. -/
def State.prevResult (s : State) (key : Nat) : State × Bool :=
  let got := (s.hostFn key).got
  let (s, go) := s.hostResult key
  (s.modHost key (fun h => { h with got := got, prev := false }), go)

/-- The result of the period before is judged missing. -/
def State.missPrev (s : State) (key : Nat) : State :=
  let h := s.hostFn key
  if !h.prev then s
  else
    let s := (s.modHost key (fun h => { h with tk := h.ptk, d := h.pd })).hostMiss key
    s.modHost key (fun x => { x with tk := h.tk, d := h.d, got := h.got, prev := false, ppart := 0 })

/-- The present period makes room for the next: a result that has passed its deadline is judged missing, with the effect `eff`,
and one that has not (its deadline lies beyond its period, or a checkpoint stop has moved it there, 01 R35) stays awaited as
that of the period before. -/
def State.hostTurn (s : State) (key : Nat) (eff : State → State) : State :=
  let s := if (s.hostFn key).prev then eff (s.missPrev key) else s
  let h := s.hostFn key
  if h.got then s
  else if s.hw < h.due then s.modHost key (fun h => { h with prev := true, ptk := h.tk, pd := h.d, ppart := h.part, got := true })
  else eff (s.hostMiss key)

/-! ### Free values -/

/-- Draw a free natural number. -/
def State.drawNat (s : State) : Nat × State := (Config.freeNat s.free, { s with free := s.free + 1 })
/-- Draw a free binary32 word. -/
def State.drawF (s : State) : F32 × State := (Config.freeF32 s.free, { s with free := s.free + 1 })
/-- Draw a free string of bytes. -/
def State.drawBytes (s : State) (n : Nat) : List Byte × State :=
  (slice (Config.freeBytes s.free n) 0 n, { s with free := s.free + 1 })

/-- A meaning's answer. -/
abbrev Out := Host.Outcome State Fault Refusal

/-- A mailbox verb's meaning. -/
def mailboxRow (v : Verb) (r : Req) (s : State) : Out := .next (s.mailbox v r)

end Sys2Proof.Machine
end

