-- ==== Sys2Proof/Machine/Faults.lean ====
section
/-! DEFINITION. Machine/Faults.lean: the fault manager's handling sequence and its verbs (03 R92-R97, R509). -/

namespace Sys2Proof.Machine

/-- P0 of the fault events (R97). -/
def FaultRec.word (f : FaultRec) : Nat := faultWord f.code f.sev f.unit

/-- Handling of the first queued fault starts when none is handled (R94, R95). -/
def State.faultTake (s : State) : State :=
  match s.faults.current, s.faults.queue with
  | none, f :: q => { s with faults.current := some f, faults.queue := q }
  | _, _ => s

/-- The four steps of a fault, each without effect when it has completed for the occurrence before (R94). The reaction of
step 2 is the raising unit's, applied where it raises. -/
def State.faultSteps (s : State) (f : FaultRec) : State :=
  let s := if f.done1 then s else s.larderWrite f.code f.unit f.inst f.sev false false (f.params ++ [f.word]) f.first f.occ f.count
  let s := if f.done3 then s else s.post 3 0 2 0x0040 f.word f.inst f.occ f.count
  s.post 3 0 2 0x0041 f.word f.inst f.occ f.count

/-- A dropped fault that still stands is raised again by its unit at its next diagnostic cycle (R96): in this model when the
queue has room again (log entry 36). A fault raised by a partition or by Root is no unit's to raise again. -/
def State.raiseDropped (s : State) : State :=
  match s.faults.dropped with
  | [] => s
  | f :: l =>
    if s.faults.queue.length ≥ 32 then s
    else
      let s := { s with faults.dropped := l }
      if f.unit != 0x03 && s.faults.active.any (·.same f) then (s.raise f.code f.unit f.inst f.sev f.params).1 else s

/-- FAULT_HANDLE (R94): the next fault is taken up and handled; then handling of the next one starts. -/
def execFaultHandle (s : State) : Out :=
  .next (
    if !s.trunkOn || !s.running 0x03 0 || s.keeper.paused then s
    else
      let s := s.faultTake
      match s.faults.current with
      | none => s
      | some f => (({ s with faults.current := none } : State).faultSteps f).faultTake.raiseDropped)

/-- FAULT.STATUS (R97). -/
def verbFaultStatus : Verb :=
  { unit := 0x03, verb := 0x01, lenOk := lenIs 0, instOk := inst0, query := true, rt := false, perm := none,
    body := fun _ s =>
      let f := s.faults
      (s, stDone, b32 (match f.current with | some c => c.word | none => 0) ++ b8 f.queue.length ++ zeros 3 ++ b32 f.drops ++ b32 f.occurrences) }

/-- A partition's code and severity are in its range (R92). -/
def raiseOk (w code sev : Nat) : Bool :=
  if w = 0 then decide (0xF000 ≤ code ∧ sev ≤ 7) else decide (0xE000 ≤ code ∧ code ≤ 0xEFFF ∧ sev ≤ 5)

/-- FAULT.RAISE (R92, R97). -/
def verbFaultRaise : Verb :=
  { unit := 0x03, verb := 0x10, lenOk := lenIs 20, instOk := inst0, query := false, rt := false, perm := none,
    body := fun r s =>
      let p := r.payload
      if !raiseOk r.win (u16 p 0) (u8 p 2) then (s, stRange, [])
      else
        let (s, occ) := s.raise (u16 p 0) 0x03 r.win (u8 p 2) [u32 p 4, u32 p 8, u32 p 12, u32 p 16]
        (s, stDone, b32 occ) }

/-- FAULT.STATUS -/
def execFaultStatus (r : Req) (s : State) : Out := mailboxRow verbFaultStatus r s
/-- FAULT.RAISE -/
def execFaultRaise (r : Req) (s : State) : Out := mailboxRow verbFaultRaise r s

end Sys2Proof.Machine
end

