-- ==== Sys2Proof/Machine/Units.lean ====
section
/-! DEFINITION. Machine/Units.lean: a unit stops and starts again (02 R46, R47, R63-R66), and a window is opened and reset
(02 R42, R68, 03 R91). -/

namespace Sys2Proof.Machine

/-- Post an event on Keeper's own source 0, which reaches every window. -/
def State.keeperEv (s : State) (code p0 p1 p2 p3 : Nat) : State := s.post 1 0 0 code p0 p1 p2 p3

/-- The signal range that a unit produces (03 R83). The outputs of the model slots of a Crown unit are Crown's to zero (09 R235). -/
def unitSigs : Nat → List (Nat × Nat)
  | 0x12 => [(0x000, 0x02F)] | 0x13 => [(0x030, 0x03F)] | 0x11 => [(0x040, 0x047)] | 0x10 => [(0x048, 0x077)]
  | 0x14 => [(0x078, 0x07F)] | 0x22 => [(0x080, 0x0C7)] | 0x23 => [(0x0C8, 0x0CF)] | 0x21 => [(0x0D0, 0x0E7)]
  | 0x26 => [(0x0E8, 0x0EF)] | 0x44 => [(0x0F0, 0x0F6)] | 0x71 => [(0x0F7, 0x0FF)] | 0x20 => [(0x100, 0x1FF)]
  | 0x40 => [(0x200, 0x2FF)]
  | _ => []

/-- The signals of a unit read zero with flags clear (02 R66). -/
def State.zeroUnit (s : State) (u : Nat) : State := (unitSigs u).foldl (fun s r => s.zeroSigs r.1 r.2) s

/-- The CROWN slot increments once in a reflex cycle in which Crown generations increment (02 R45). -/
def State.crownSlot (s : State) : State :=
  if s.keeper.crownInc = s.hw + 1 then s
  else { s with keeper.crownInc := s.hw + 1,
                keeper.units := tmod UnitSt.reset s.keeper.units 0x42 (fun u => { u with gen := nextGen u.gen }) }

/-- A unit stops (02 R47): VALID clears, then the generation increments, its signals read zero, and
KEEPER/UNIT_RESTART is posted with its cause. -/
def State.unitStop (s : State) (u inst cause : Nat) (off : Bool) : State :=
  let old := s.gen u inst
  let s := s.modUnit u inst (fun x =>
    { x with valid := false, gen := nextGen x.gen, phase := if off then .off else .restarting, clearedAt := s.hw,
             cause := cause, ungated := x.ungated && !off })
  let s := if u = 0x42 ∧ !off then s.crownSlot else s
  let s := s.zeroUnit u
  s.keeperEv 0x0001 (16777216 * u + inst) (old + 65536 * s.gen u inst) cause 0

/-- Replies that the old instance decided and that wait for a slot are discarded for UNIT_RESTARTED (R63): those of the unit,
of the addressed Crown unit alone for CROWN. -/
def State.outboxRestart (s : State) (u old inst : Nat) : State :=
  { s with keeper.windows := tmap Window.reset s.keeper.windows (fun x =>
      { x with outbox := x.outbox.map (fun y => if y.unit = u ∧ y.gen = old ∧ (u ≠ 0x42 ∨ y.inst = inst) then
          { y with status := stRestarted, gen := s.gen u inst, payload := [], doneAt := s.us } else y) }) }

/-- The conditions of the standing faults that `p` names have ended (03 R97): FAULT/CLEARED for each. -/
def State.endFaults (s : State) (p : FaultRec → Bool) : State :=
  (s.faults.active.filter p).foldl (fun (s : State) f => s.clearFault f.code f.unit f.inst) s

/-- A unit runs again (02 R47): VALID is set and KEEPER/UNIT_READY posted with the time it was clear. -/
def State.unitRun (s : State) (u inst : Nat) : State :=
  let us := (s.hw - (s.unitSt u inst).clearedAt) / 1000
  let s := s.modUnit u inst (fun x => { x with valid := true, phase := .running })
  s.keeperEv 0x0002 (16777216 * u + inst) (s.gen u inst) (us % 4294967296) 0

/-- A unit is powered down quietly, as the trunk stops: no firmware runs that could post. -/
def State.unitOff (s : State) (u inst : Nat) : State :=
  s.modUnit u inst (fun x => { x with valid := false, phase := .off, clearedAt := s.hw, ungated := false })

/-- CAM or a Crown unit is powered down while Keeper runs (02 R63): VALID clears, `abort` answers what is affected, with the
generation that the unit takes when it is powered up again. The GEN slot shows that generation from the power-up on: a
power-down and the power-up after it increment it once (02 R45, R46; log entry 28). -/
def State.unitDown (s : State) (u inst cause : Nat) (abort : State → State) : State :=
  let old := s.gen u inst
  (abort ((s.unitStop u inst cause true).outboxRestart u old inst)).modUnit u inst (fun x => { x with gen := old })

/-- A unit is powered up: its generation increments at every power-up but is 1 at the first start after OFF (02 R46). -/
def State.unitPower (s : State) (u inst : Nat) : State :=
  let s' := s.modUnit u inst (fun x => { x with gen := if x.started then nextGen x.gen else 1, started := true })
  if u = 0x42 ∧ (s.unitSt u inst).started then s'.crownSlot else s'

/-- CAM, the Crown units and the CROWN slot read generation 1 from the first trunk start after OFF: zero is for units that are
not fitted (02 R46). -/
def State.firstGens (s : State) : State :=
  let s := if unitFitted s.variant 0x41 then s.modUnit 0x41 0 (fun x => { x with gen := 1 }) else s
  let us := List.range (crowns s.variant)
  let s := us.foldl (fun (s : State) u => s.modUnit 0x42 u (fun x => { x with gen := 1 })) s
  if us.isEmpty then s else { s with keeper.units := tmod UnitSt.reset s.keeper.units 0x42 (fun x => { x with gen := 1 }) }

/-- The units that run while the trunk is on, in slot order: every fitted unit but CAM, CROWN and ROOT, which start apart. -/
def trunkUnits (v : Variant) : List Nat :=
  genSlots.filter (fun u => unitFitted v u && u != 0x41 && u != 0x42 && u != 0x50)

/-- The units whose firmware runs on the Keeper processor (02 R67, 01 R19). -/
def keeperUnits : List Nat := [0x01, 0x03, 0x25, 0x33, 0x60, 0x61, 0x62, 0x70, 0x71]

/-- Power group of an output (11 R259). -/
def groupOf (o : Nat) : Nat := if o < 4 then o / 2 else o / 4 + 1

/-- The instances of a unit (02 R53). -/
def unitInsts : Nat → List Nat
  | 0x10 => List.range 24 | 0x11 => List.range 8 | 0x12 => List.range 48 | 0x13 => List.range 16 | 0x14 => List.range 6
  | 0x20 => List.range 64
  | 0x21 => List.range 24 ++ (List.range 6).map (0x100 + ·) ++ (List.range 2).map (0x200 + ·)
  | 0x22 => List.range 72 ++ (List.range 19).map (0x100 + ·)
  | 0x23 => List.range 8 | 0x24 => List.range 48 | 0x25 => List.range 16 | 0x26 => List.range 10
  | 0x30 => List.range 8 | 0x31 => List.range 4 | 0x32 => List.range 7
  | 0x33 => List.range 3 ++ (List.range 8).map (0x100 + ·)
  | 0x40 => List.range 3 | 0x41 => List.range 2 | 0x42 => List.range 7
  | 0x51 => List.range 64 | 0x61 => List.range 7 | 0x71 => List.range 49
  | _ => [0]

/-- The sources of 03 R88 on which a unit posts events of an instance, as its chapter numbers them. A BODY instance may take any
kind of service. -/
def instSources (u i : Nat) : List Nat :=
  match u with
  | 0x02 => [1] | 0x03 => [2] | 0x70 => [3] | 0x71 => [4]
  | 0x10 => [if i < 12 then 16 else 17, 18] | 0x11 => [20 + i] | 0x12 => [28 + i / 8] | 0x13 => [34 + i / 4]
  | 0x14 => [38] | 0x44 => [39] | 0x20 => [48 + i]
  | 0x21 => [if i < 0x100 then 112 + i / 4 else if i < 0x200 then 112 + (i - 0x100) else 118 + (i - 0x200)]
  | 0x22 => [128 + (if i < 0x100 then groupOf i else i - 0x100)]
  | 0x23 => [147 + i] | 0x24 => [160 + i / 16] | 0x31 => [163 + i] | 0x25 => [167, 168, 169, 170, 171]
  | 0x26 => [if i < 8 then 176 + i else 4] | 0x27 => [184] | 0x30 => [185 + i, 193, 194] | 0x32 => [200 + i, 207]
  | 0x33 => [if i < 0x100 then 208 + i else 211]
  | 0x40 => if i = 0 then [212, 215, 216] else [212, 212 + i]
  | 0x41 => [220 + i, 222, 223] | 0x42 => [224, 225, 226] | 0x43 => [228] | 0x61 => [229] | 0x62 => [230]
  | 0x50 => [236, 237, 238] | 0x51 => [239 + i / 8] | 0x60 => [248, 249, 250]
  | _ => []

/-- The sources of the units and instances on which a window holds a right (02 R61), bit 0 always set (03 R91). Root keeps all 256
bits, those of sources that no chapter assigns included (DEDUCED, log entry 33). -/
def State.rightMask (s : State) (w : Nat) : Nat :=
  if w = 0 then 2 ^ 256 - 1
  else (genSlots.filter (fun u => w ≥ 0x100 || s.anyRight w u)).foldl (fun m u =>
    ((unitInsts u).filter (fun i => s.right w u i false)).foldl (fun m i => m ||| bitSet (instSources u i)) m) 1

/-- The regions of a window, one descriptor a declared region, at the base and of the size that the manifest gives (02 R72,
19 R417). -/
def declRegions (d : PartDecl) : Tab Region :=
  (List.range d.regions.length).map (fun i =>
    let r := d.regions.getD i (0, 0)
    (i, { Region.reset with present := true, base := r.1, size := r.2 }))

/-- A window without a partition: HW_HI and the SNAP registers, which are never zeroed while the trunk runs, stand (03 R82). -/
def Window.closed (x : Window) : Window := { Window.reset with hwHi := x.hwHi, snapLo := x.snapLo, snapHi := x.snapHi }

/-- Close a window. -/
def State.closeWindow (s : State) (w : Nat) : State := s.modWin w Window.closed

/-- A window as its partition starts (02 R42, R48, 03 R82, R89, R91). -/
def State.freshWindow (s : State) (w : Nat) : Window :=
  { (s.win w).closed with running := true, mask := s.rightMask w, regions := declRegions (s.decl w) }

/-- Open a window. -/
def State.openWindow (s : State) (w : Nat) : State := s.modWin w (fun _ => s.freshWindow w)

/-- A partition restarts (02 R68): unconsumed commands discarded, replies still owed discarded, indices, EVT_LOST,
IRQ_CTRL and IRQ_STATUS zero, SEQ restarts, bulk transfers stop with FILL kept. The mask is the start mask (03 R91); HOST_HB,
the bytes of the rings and the DRAM of the regions are not named by R68 and stay (log entry 8). IRQ_CTRL returns to zero,
EVT_THR then reading as 1. Commands consumed but held, or waiting for ORDERED, which R68 does not name either, are dropped
unexecuted (DEDUCED, log entry 8). -/
def State.resetWindow (s : State) (w : Nat) : State :=
  s.modWin w (fun x =>
    { s.freshWindow w with
        hostHb := x.hostHb, hostHbAt := x.hostHbAt, irqCtrl := 0, cmdRing := x.cmdRing, regions := tmap Region.reset x.regions (fun g => { g with inuse := false }) })

/-- A transfer of a window's region stops with its unit after `n` bytes (02 R73). -/
def State.regionStop (s : State) (w d n : Nat) : State := s.modRegion w d (fun g => { g with inuse := false, fill := n })

/-- A transfer of a window's region stops with its unit (02 R73): INUSE clears, FILL stands. -/
def State.regionAbort (s : State) (w d : Nat) : State := s.modRegion w d (fun g => { g with inuse := false })

/-- The Heartwood value loaded at a trunk start (03 R75): the value at the last stop plus the park periods of the 32.768 kHz
crystal, rounded down to a multiple of 4 ns; zero at the first start of an epoch. -/
def State.loadedHeartwood (s : State) : Nat :=
  if s.power.lastStart = 0 then 0 else (s.time.stopped + s.time.parkPeriods * 1000000000 / 32768) / 4 * 4


/-- The wake cause is enabled in the park state (R463); cause 1 is the start from OFF (17 R384), the first of an epoch. -/
def wakeEnabled (p : PowState) (cause : Nat) : Bool :=
  match p with
  | .deep => cause == 1 || cause == 2 || cause == 3 || cause == 4 || cause == 5 || cause == 8
  | .selective => decide (2 ≤ cause ∧ cause ≤ 8)
  | .guard => decide (2 ≤ cause ∧ cause ≤ 10)
  | _ => false

/-- A wake cause in a park state: recorded, and the trunk start begins (R463, 17 R384). -/
def State.wake (s : State) (cause detail : Nat) : State :=
  if !s.parked || !wakeEnabled s.power.state cause || s.power.lossAt.isSome || (cause == 1 && s.power.lastStart != 0) then s
  else if s.power.trunkDue ≠ 0 then { s with nm.wakeMap := s.nm.wakeMap ||| 2 ^ cause }
  else { s with power.trunkDue := 2, nm.wakeFirst := cause, nm.wakeDetail := detail, nm.wakeMap := 2 ^ cause,
                nm.wakeAt := s.loadedHeartwood, nm.parkS := s.time.parkPeriods / 32768 }

end Sys2Proof.Machine
end

