-- ==== Sys2Proof/Machine/Gates.lean ====
section
/-! DEFINITION. Machine/Gates.lean: what acts on an actuator in one reflex cycle: the precedence of 01 R34 with the
protection states of 11 R263, for outputs, bridges and valve banks, and the turn-on and turn-off of each. -/

namespace Sys2Proof.Machine

/-! ### Outputs: classes and groups (11 R258, R259) -/

/-- Class of an output: 0 HSA, 1 HSB, 2 HSC. -/
def outClass (o : Nat) : Nat := if o < 4 then 0 else if o < 28 then 1 else 2
/-- The outputs of a group in ascending ID. -/
def groupChs (g : Nat) : List Nat :=
  if g < 2 then [2 * g, 2 * g + 1] else [4 * (g - 1), 4 * (g - 1) + 1, 4 * (g - 1) + 2, 4 * (g - 1) + 3]
/-- Nominal current, mA. -/
def nominalMa : Nat → Nat | 0 => 30000 | 1 => 10000 | _ => 3000
/-- Inrush allowance, mA. -/
def inrushMa : Nat → Nat | 0 => 120000 | 1 => 50000 | _ => 18000
/-- Inrush allowance, ns. -/
def inrushNs : Nat → Nat | 0 => 50000000 | 1 => 20000000 | _ => 10000000
/-- Latch-off threshold, mA. -/
def latchMa : Nat → Nat | 0 => 45000 | 1 => 15000 | _ => 5000
/-- Fast short trip, mA. -/
def fastMa : Nat → Nat | 0 => 150000 | 1 => 60000 | _ => 22000
/-- Clamp budget of a channel, 0.1 mJ. -/
def chBudget : Nat → Nat | 0 => 20000 | 1 => 4000 | _ => 1200
/-- Clamp budget of a group, 0.1 mJ. -/
def groupBudget : Nat → Nat | 0 => 30000 | 1 => 10000 | _ => 3000
/-- Minimum on-time and off-time, ns. -/
def minEdge : Nat → Nat | 0 => 20000 | 1 => 10000 | _ => 4000
/-- Sense LSB, mA. -/
def senseLsb : Nat → Nat | 0 => 40 | 1 => 16 | _ => 6
/-- Default open-load threshold, mA. -/
def openDefault : Nat → Nat | 0 => 500 | 1 => 100 | _ => 20

/-- A channel. -/
def State.out (s : State) (o : Nat) : OutCh := tget OutCh.reset s.outs.ch o
/-- Change a channel. -/
def State.modOut (s : State) (o : Nat) (f : OutCh → OutCh) : State := { s with outs.ch := tmod OutCh.reset s.outs.ch o f }
/-- A power group. -/
def State.group (s : State) (g : Nat) : OutGroup := tget OutGroup.reset s.outs.groups g
/-- Change a power group. -/
def State.modGroup (s : State) (g : Nat) (f : OutGroup → OutGroup) : State :=
  { s with outs.groups := tmod OutGroup.reset s.outs.groups g f }
/-- A bridge. -/
def State.hb (s : State) (n : Nat) : Hb := tget Hb.reset s.outs.hb n
/-- Change a bridge. -/
def State.modHb (s : State) (n : Nat) (f : Hb → Hb) : State := { s with outs.hb := tmod Hb.reset s.outs.hb n f }

/-- Both ground studs are open while a BAT stud is connected (22 R479). -/
def State.noGround (s : State) : Bool := s.power.gndOpen == 3 && s.power.studs.any (fun e => e.2.mv != 0)

/-- The stud of an output's class holds its gate drive off (21 R453, R454, R456), or the grounds are open (22 R479). -/
def State.studHeld (s : State) (k : Nat) : Bool :=
  let x := tget Stud.reset s.power.studs k
  x.low || x.overR || x.rev || s.noGround

/-- Safe-off line asserted, by SAFEOFF or by the Cellar (18 R398). -/
def State.line (s : State) (i : Nat) : Bool := (s.root.safeoff ||| s.root.cellarHold).testBit i

/-- The precedence of 01 R34 in control of a channel; 0 none. -/
def State.outPrec (s : State) (o : Nat) : Nat :=
  let c := s.out o
  if s.line (groupOf o) then 1
  else if c.ruleOff ≠ [] then 2
  else if c.ruleOn ≠ [] then 3
  else if c.engine.isSome then 4
  else if c.cfg.mode ≠ 0 then 5 else 0

/-- The value of the path in control; in a lamp's window mode any duty but 0 that the engine or the mailbox commands stands for
the window (08 R211). -/
def State.outCmd (s : State) (o : Nat) : F32 :=
  let c := s.out o
  let prec := s.outPrec o
  if prec = 3 then fOne
  else if prec = 0 ∨ prec ≤ 2 then fZero
  else
    let v := if prec = 4 then c.engine.getD fZero else c.mailbox
    match c.lamp with
    | some (t, _, _, on, true) => if fEq v fZero then fZero else fFrac on t
    | _ => v

/-- A protection state of 11 R263 that keeps the channel off now, the clamp lock apart. -/
def State.outBlocked (s : State) (o : Nat) : Bool :=
  let c := s.out o
  c.latched != 0 || c.thermLatch || (s.group (groupOf o)).shutdown || (c.retryPwm && !c.retryOn) || c.safetyOff ||
    s.studHeld (outClass o)

/-- A clamp lock of the channel or of its group (11 R267). -/
def State.clampLocked (s : State) (o : Nat) : Bool :=
  (s.out o).clampLock.isSome || (s.group (groupOf o)).lock.isSome

/-- The inrush window is open (11 R264). -/
def State.inWindow (s : State) (o : Nat) : Bool := match (s.out o).inrushEnd with | some t => decide (s.hw < t) | none => false

/-- The frame of PWM periods in force: its length, its phase and the periods in it, 1 but for a lamp of whole cycles (08 R211). -/
def OutCh.grid (c : OutCh) : Nat × Nat × Nat :=
  match c.lamp with
  | some (t, ph, n, _, _) => (t, ph, n)
  | none => if c.cfg.mode = 2 then (c.cfg.periodNs, c.cfg.phaseNs, 1) else (1000000, 0, 1)

/-- The start of period `j` of a frame of `n` periods of length `t`, whole reflex cycles. -/
def gridAt (t n j : Nat) : Nat := j * t / n / 4 * 4

/-- Period starts up to an instant, and the last of them. -/
def OutCh.periodsTo (c : OutCh) (x : Nat) : Nat × Nat :=
  let (t, ph, n) := c.grid
  if t = 0 ∨ x < ph then (0, x)
  else
    let r := (x - ph) % t
    let j := ((List.range n).filter (fun j => decide (gridAt t n j ≤ r))).length
    ((x - ph) / t * n + j, x - r + gridAt t n (j - 1))

/-- The first period start at or after an instant. -/
def OutCh.nextStart (c : OutCh) (x : Nat) : Nat :=
  let (t, ph, n) := c.grid
  if x ≤ ph ∨ t = 0 then max x ph
  else
    let r := (x - ph) % t
    match (List.range n).find? (fun j => decide (r ≤ gridAt t n j)) with
    | some j => x - r + gridAt t n j
    | none => x - r + t

/-- The length of the shortest PWM period, and the phase, in force. -/
def OutCh.timing (c : OutCh) : Nat × Nat :=
  match c.lamp with
  | some (t, ph, n, _, _) => (t / n / 4 * 4, ph)
  | none => if c.cfg.mode = 2 then (c.cfg.periodNs, c.cfg.phaseNs) else (1000000, 0)

/-- A duty with the on-time rounded to 4 ns and the class minimums applied (11 R260). A fan's drive has no such limits
(13 R303). -/
def shapeDuty (cls period : Nat) (d : F32) : F32 :=
  let on := 4 * (fRound d (period / 4)).toNat
  if on < minEdge cls then fZero else if period - on < minEdge cls then fOne else d

/-- The soft-start value of a ramp that began at `t` (11 R261). -/
def rampDuty (c : OutCh) (now t : Nat) (goal : F32) : F32 :=
  let x := fFrac (now - t : Nat) (c.cfg.softMs * 1000000)
  fAdd c.cfg.softDuty (fMul (fSub goal c.cfg.softDuty) x)

/-- The start of the period of the channel's ramp in which `now` lies (11 R261). -/
def OutCh.periodStart (c : OutCh) (now : Nat) : Nat :=
  (c.periodsTo now).2

/-- The channel goes off: its ramp and a test pulse on it end. -/
def State.outOff (s : State) (o : Nat) : State :=
  s.modOut o (fun c => { c with on := false, duty := fZero, offSince := if c.on || c.pulse then s.hw else c.offSince, ramp := none,
                                pulse := false })

/-- The channel is driven at `d`, `soft` at the start of its ramp. A turn-on opens the inrush window after 100 ms off or with a soft
start, and ends an off-state check in progress (11 R264, R269); in a test off-pulse the value waits for its end. -/
def State.outOn (s : State) (o : Nat) (d : F32) (soft : Bool) : State :=
  let c := s.out o
  if c.on || c.pulse then s.modOut o (fun c => { c with duty := d })
  else
    let win := soft || decide (s.hw ≥ c.offSince + 100000000)
    s.modOut o (fun c => { c with on := true, duty := d, skip := false, onSince := s.hw, testing := none,
                                  ramp := if soft then some s.hw else c.ramp,
                                  inrushEnd := if win then some (s.hw + inrushNs (outClass o)) else c.inrushEnd })

/-- The channel takes a duty, off at 0. -/
def State.outDrive (s : State) (o : Nat) (d : F32) : State := if fEq d fZero then s.outOff o else s.outOn o d false

/-- A park-hold slot. -/
def State.parkSlot (s : State) (k : Nat) : ParkHold := tget ParkHold.reset s.outs.parkHold k
/-- Change a park-hold slot. -/
def State.modPark (s : State) (k : Nat) (f : ParkHold → ParkHold) : State :=
  { s with outs.parkHold := tmod ParkHold.reset s.outs.parkHold k f }

/-- No latch that the Cellar holds keeps the channel off (11 R510). -/
def State.outUnlatched (s : State) (o : Nat) : Bool :=
  !(s.out o).thermLatch && (s.out o).latched == 0 && !(s.group (groupOf o)).shutdown

/-- The gate of a channel that the Cellar drives follows its slot's level; a latch, its stud and its safe-off line keep it off (11
R263, R272, R510). -/
def State.parkGate (s : State) (o : Nat) : State :=
  let level := (List.range 4).any (fun k => (s.parkSlot k).out == some o && (s.parkSlot k).driving && (s.parkSlot k).level)
  let on := level && s.outUnlatched o && !s.studHeld (outClass o) && !s.line (groupOf o)
  s.modOut o (fun c => { c with on := on, duty := if on then fOne else fZero, offSince := if c.on && !on then s.hw else c.offSince })

/-- A clamp lock keeps the channel from turning on: one that is off, one at the start of a PWM or ramp period, one in the off-phase
of retry-PWM or at the start of its on-phase (11 R267). -/
def State.lockHolds (s : State) (o : Nat) (period : Bool) : Bool :=
  let c := s.out o
  s.clampLocked o && (!c.on || (period && (c.cfg.mode == 2 || c.ramp.isSome || c.retryPwm)) ||
    (c.retryPwm && decide (s.hw % 1000000 ≥ 250000)))

/-- The gate of a channel takes the value of the path in control (01 R34, 11 R260, R261, R263). `period` says that a PWM period
starts now: only then a PWM channel takes a new duty from the engine or the mailbox. The ramp's values are shaped as duties are. -/
def State.outGate (s : State) (o : Nat) (period : Bool) : State :=
  let c := s.out o
  let prec := s.outPrec o
  let cmd := s.outCmd o
  let pwm := c.cfg.mode == 2
  let shape := shapeDuty (outClass o) c.timing.1
  if c.parkDriven then s.parkGate o
  else if s.outBlocked o || s.lockHolds o period || (fEq cmd fZero && (decide (prec ≤ 2) || !pwm || c.retryPwm)) then s.outOff o
  else if c.retryPwm then s.outOn o (fFrac 1 4) false
  else if prec = 3 then s.outOn o fOne false
  else if c.bound = 2 then s.outDrive o cmd
  else if pwm && !period then s
  else
    let goal := if pwm then shape cmd else cmd
    if fEq goal fZero then s.outOff o
    else match c.ramp with
      | some t =>
        let now := max t (c.periodStart s.hw)
        if now ≥ t + c.cfg.softMs * 1000000 then (s.modOut o (fun c => { c with ramp := none })).outOn o goal false
        else s.outOn o (shape (rampDuty c now t goal)) false
      | none =>
        if !c.on && !c.pulse && c.cfg.softStart && !c.skip && prec ≥ 4 then s.outOn o (shape (rampDuty c s.hw s.hw goal)) true
        else s.outOn o goal false

/-- A lamp-bound output is forced off: by a path above the binding's or a protection state (08 R213). -/
def State.outForced (s : State) (o : Nat) : Bool :=
  let c := s.out o
  c.bound == 3 && !c.on && !c.pulse && (decide (1 ≤ s.outPrec o ∧ s.outPrec o ≤ 2) || s.outBlocked o || s.clampLocked o)

/-- The intervals in which a lamp-bound output is forced off are noted, the last 16 of them (08 R213). -/
def State.darkMark (s : State) (o : Nat) : State :=
  match (s.out o).darkFrom with
  | none => if s.outForced o then s.modOut o (fun c => { c with darkFrom := some s.hw }) else s
  | some t => if s.outForced o then s
      else s.modOut o (fun c => { c with darkFrom := none, dark := ((t, s.hw) :: c.dark).take 16 })

/-- A channel takes the value of the path in control, and what that means for a lamp bound to it is noted. -/
def State.outEval (s : State) (o : Nat) (period : Bool) : State := (s.outGate o period).darkMark o

/-! ### Bridges (11 R276-R280) -/

/-- The line of a bridge (18 R398). -/
def hbLine (n : Nat) : Nat := 25 + n / 2

/-- The action at the pins: coast while a line, a reflex force-off or the stud acts, else the action commanded. -/
def State.hbApplied (s : State) (n : Nat) : Nat :=
  let b := s.hb n
  if s.line (hbLine n) || !b.ruleOff.isEmpty || s.studHeld 0 || b.shorted || b.hot || b.safetyOff then 0 else b.action

/-- Status of a move's end reason (11 R279). -/
def hbStatus (reason : Nat) : Nat := if reason = 6 then stLocked else if reason = 7 then stSafety else stDone

/-- A body service. -/
def State.svc (s : State) (i : Nat) : BodySvc := tget BodySvc.reset s.body.svcs i
/-- Change a body service. -/
def State.modSvc (s : State) (i : Nat) (f : BodySvc → BodySvc) : State := { s with body.svcs := tmod BodySvc.reset s.body.svcs i f }

/-- The source a body service posts on (12 R301). -/
def bodySrc (kind : Nat) : Nat := 166 + kind

/-- A body service takes a state; a change posts BODY/STATE (12 R301). The codes are not in the spec. -/
def State.bodyState (s : State) (i n : Nat) : State :=
  let x := s.svc i
  if x.state = n then s
  else
    let s := s.modSvc i (fun x => { x with state := n, count := if x.state = 0 then (x.count + 1) % 4294967296 else x.count })
    s.post 0x25 i (bodySrc x.kind) 0x5201 i (Config.bodyStateCode x.kind x.state % 256) (Config.bodyStateCode x.kind n % 256)
      x.eff

/-- A window's bridge ended a move by itself (12 R296): a stall in the down direction resets the position to 0, a pinch
reversal inhibits auto up for 5 s, and the service stands still. -/
def State.bodyMoveEnd (s : State) (n reason : Nat) : State :=
  let b := s.hb n
  match b.boundBy with
  | none => s
  | some i =>
    if (s.svc i).kind ≠ 4 ∨ reason = 4 ∨ reason = 5 then s
    else
      let s := if reason = 2 ∧ b.action = 2 then s.modHb n (fun b => { b with pos := 0 }) else s
      let s := s.modSvc i (fun x => { x with eff := 0, bySrc := false,
                                             autoInhibit := if reason = 3 then some (s.hw + 5000000000) else x.autoInhibit })
      s.bodyState i 0

/-- A move ends: HB/DONE to its command if it has one; the bridge brakes or coasts. -/
def State.hbEnd (s : State) (n reason : Nat) (brake : Bool) : State :=
  let s := s.bodyMoveEnd n reason
  let b := s.hb n
  let s := s.modHb n (fun b => { b with action := if brake then 3 else 0, op := none, target := none, limitAt := none,
                                        revPend := none, pinch := none })
  let s := if b.pinch.isSome then s.clearFault 0x4102 0x23 n else s
  match b.op with
  | some op => s.complete op 0x23 n (147 + n) 0x4101 (hbStatus reason) reason (ofSigned 32 b.pos)
  | none => s

/-! ### Valve banks (06 R155-R168) -/

/-- A valve channel. -/
def State.valve' (s : State) (n : Nat) : ValveCh := tget ValveCh.reset s.valve.ch n
/-- Change a valve channel. -/
def State.modValve (s : State) (n : Nat) (f : ValveCh → ValveCh) : State :=
  { s with valve.ch := tmod ValveCh.reset s.valve.ch n f }
/-- A bank. -/
def State.bank (s : State) (b : Nat) : ValveBank := tget ValveBank.reset s.valve.banks b
/-- Change a bank. -/
def State.modBank (s : State) (b : Nat) (f : ValveBank → ValveBank) : State :=
  { s with valve.banks := tmod ValveBank.reset s.valve.banks b f }
/-- A boost converter. -/
def State.boost (s : State) (c : Nat) : Boost := tget Boost.reset s.valve.boost c
/-- Change a boost converter. -/
def State.modBoost (s : State) (c : Nat) (f : Boost → Boost) : State :=
  { s with valve.boost := tmod Boost.reset s.valve.boost c f }

/-- The channels of a bank. -/
def bankChs (b : Nat) : List Nat := [4 * b, 4 * b + 1, 4 * b + 2, 4 * b + 3]

/-- The cut a bank ought to be under: 2 by its safe-off line, 1 by a reflex rule, 0 none (06 R157). -/
def State.bankCut (s : State) (b : Nat) : Nat :=
  if s.line (19 + b) then 2 else if !(s.bank b).cutRules.isEmpty then 1 else 0

/-- The value R34 gives a mode-1 channel: the engine's, else the mailbox's. -/
def ValveCh.cmd (c : ValveCh) : F32 := c.engine.getD c.mailbox

/-- A channel of a bank that is not cut, not latched and fed. -/
def State.valveLive (s : State) (n : Nat) : Bool :=
  s.bankCut (n / 4) == 0 && (s.bank (n / 4)).latched == 0 && !(s.valve' n).latched && !s.studHeld 1

/-- The applied value of a channel: A in mode 1, 0 or 1 in modes 2 and 3 (06 R157, R168). -/
def State.valveApplied (s : State) (n : Nat) : F32 :=
  let c := s.valve' n
  if !s.valveLive n then fZero
  else if c.mode = 1 then c.cmd
  else if c.state = 2 ∨ c.state = 6 ∨ c.state = 7 then fOne else fZero

/-- The outcome of a start request: VALVE/START_DONE (06 R166). -/
def State.startDone (s : State) (n outcome : Nat) : State :=
  match (s.valve' n).req with
  | none => s
  | some q =>
    let st := match outcome with
      | 2 => stBusy | 3 => stBusy | 5 => stSafety | 6 => stDeadline | 7 => stLocked | 8 => stRestarted | _ => stDone
    (s.modValve n (fun c => { c with req := none })).complete q.op 0x21 n (112 + n / 4) 0x3001 st (n + 65536 * outcome)
      ((s.hw - q.t0) / 1000)

/-- The rail of a converter is ready (06 R162). -/
def Boost.ready (x : Boost) : Bool := x.enabled && x.latched == 0 && decide (x.railMv ≥ 44000)

/-- The rail of a converter is measured (06 R162). -/
def State.railIs (s : State) (c mv : Nat) : State :=
  s.modBoost c (fun x => { x with railMv := mv, charged := x.charged || decide (mv ≥ 44000) })

/-- The on/off channels of a bank that are on are chopped at V_BATB ÷ V_boost while another channel's boost peak runs (06 R160). -/
def State.bankChop (s : State) (b : Nat) : State :=
  let peak := (bankChs b).any (fun m => (s.valve' m).mode == 3 && (s.valve' m).state == 6 && !(s.valve' m).fromBat)
  let d := fFrac (tget Stud.reset s.power.studs 1).mv (s.boost (b / 3)).railMv
  (bankChs b).foldl (fun (s : State) n => s.modValve n (fun c =>
    { c with chop := if peak ∧ c.mode = 2 ∧ c.state = 2 then some d else none })) s

/-- The host duty applied at an instant: an accepted one from its PWM period start on (06 R171). -/
def ValveCh.dutyAt (c : ValveCh) (now : Nat) : F32 :=
  match c.dutyNext with
  | some (d, t) => if t ≤ now then d else c.duty
  | none => c.duty

/-- The channel is driven: by the host's duty where it is host-assisted, else by its applied value (06 R157, R171). -/
def State.valveDriven (s : State) (n : Nat) : Bool :=
  if s.isHost (hostKey 0x21 0 n) then s.valveLive n && fLt fZero ((s.valve' n).dutyAt s.hw) else fLt fZero (s.valveApplied n)

/-- A channel needs its bank's high-side (06 R156); one that the host drives needs it for a duty above 0 (DEDUCED, log entry 64). -/
def State.needsHs (s : State) (n : Nat) : Bool :=
  let c := s.valve' n
  if c.mode = 1 then
    !c.latched && (if s.isHost (hostKey 0x21 0 n) then fLt fZero c.duty || (match c.dutyNext with | some (d, _) => fLt fZero d | none => false)
                   else fLt fZero c.cmd)
  else (c.mode == 2 && c.state == 2) || (c.mode == 3 && decide (c.state ≥ 4))

/-- The bank high-side is switched on, which takes its turn-on time (06 R156, R167). -/
def State.hsSwitchOn (s : State) (b : Nat) : State :=
  s.modBank b (fun k => { k with hsOn := true, hsOffAt := none,
                                 hsReady := if k.hsOn then k.hsReady else s.hw + Config.hsTurnOn b s.hw % 40001 })

/-- The bank high-side cannot be on: its bank is cut or latched, or the stud holds it off (06 R157, R168). -/
def State.hsBarred (s : State) (b : Nat) : Bool := s.bankCut b != 0 || (s.bank b).latched != 0 || s.studHeld 1

/-- The bank high-side follows its reasons (06 R156). -/
def State.bankHs (s : State) (b : Nat) : State :=
  let s := s.bankChop b
  let k := s.bank b
  if s.hsBarred b then s.modBank b (fun k => { k with hsOn := false, hsOffAt := none })
  else if (bankChs b).any s.needsHs then s.hsSwitchOn b
  else if k.hsOn && k.hsOffAt.isNone then s.modBank b (fun k => { k with hsOffAt := some (s.hw + 20000000) })
  else s

/-- The peak of an admitted channel starts (06 R161, R163 step 6). -/
def State.peakStart (s : State) (n : Nat) (bat : Bool) (outcome : Nat) : State :=
  let q := (s.valve' n).req
  let dur := (q.map (·.durUs)).getD 0
  let s := s.startDone n outcome
  (s.modValve n (fun c => { c with state := 6, mailbox := fOne, events := (c.events + 1) % 2 ^ 32, fromBat := bat,
                                   peakEnd := s.hw + c.peakUs * 1000,
                                   endAt := if dur = 0 then none else some (s.hw + dur * 1000) })).bankHs (n / 4)

/-- A channel releases the slots it holds. -/
def State.freeSlots (s : State) (n : Nat) : State :=
  s.modBank (n / 4) (fun k => { k with peakHolder := if k.peakHolder = some n then none else k.peakHolder,
                                       holds := k.holds.filter (· != n), queue := k.queue.filter (· != n) })

/-- An event of a channel in mode 2 or 3 ends: low-side off, slots freed (06 R160, R161). Under a bank cut the low-side has been
off since the cut began. -/
def State.valveOff (s : State) (n : Nat) : State :=
  let cut := s.bankCut (n / 4) != 0
  let s := s.modValve n (fun c => { c with state := 0, mailbox := fZero, tOff := if cut then c.tOff else some s.hw, endAt := none,
                                           fromBat := false })
  (s.freeSlots n).bankHs (n / 4)

/-- A pending request ends before its start. -/
def State.dropReq (s : State) (n outcome : Nat) : State :=
  let s := s.startDone n outcome
  let s := s.modValve n (fun c => { c with state := 0, mailbox := fZero })
  (s.freeSlots n).bankHs (n / 4)

/-- The deadline of a channel's request has passed: it does not start any more (06 R165). -/
def State.reqLate (s : State) (n : Nat) : Bool := match (s.valve' n).req with | some q => deadlinePassed s.us q.deadline | none => false

/-- A queued request is refused at its defer limit (06 R163 step 4). -/
def State.deferRefuse (s : State) (n : Nat) : State :=
  let b := n / 4
  if s.bankCut b ≠ 0 then s.dropReq n 5
  else
    let k := s.bank b
    (s.raiseEv 0x21 n (112 + b) 0x3002 1 n (k.peakHolder.getD 0xFF) k.holds.length k.deferUs).dropReq n 2

/-- A queue head whose deadline or defer limit lies before now leaves the queue (06 R163, R165). -/
def State.headExpire (s : State) (b : Nat) : State :=
  match (s.bank b).queue with
  | [] => s
  | n :: _ =>
    if s.reqLate n then s.dropReq n 6
    else match (s.valve' n).req with
      | some q => if s.hw > q.deferEnd then s.deferRefuse n else s
      | none => s

/-- The queue head takes the peak slot and a hold slot when no cut and no missing slot stops it, and waits for the rail (06 R163
steps 4 to 6, R164): at most 200 µs from the instant at which the high-side is on, up to which its start moves (R156). Answers the
channel. -/
def State.takeSlots (s : State) (b : Nat) : State × Option Nat :=
  let s := (List.range 4).foldl (fun (s : State) _ => s.headExpire b) s
  let k := s.bank b
  match k.queue with
  | [] => (s, none)
  | n :: rest =>
    if s.bankCut b ≠ 0 ∨ k.latched ≠ 0 ∨ k.peakHolder.isSome ∨ k.holds.length ≥ 2 then (s, none)
    else
      let s := s.modBank b (fun k => { k with queue := rest, peakHolder := some n, holds := k.holds ++ [n] })
      let s := s.clearFault 0x3002 0x21 n
      (s.modValve n (fun c => { c with state := 5, req := c.req.map (fun q =>
        { q with boostEnd := max s.hw k.hsReady + 200000 }) }), some n)

/-- The queue head takes its slots, and starts its peak at once when the high-side is on and the rail is ready in this reflex
cycle (06 R163 steps 5 and 6). -/
def State.valveAdvance (s : State) (b : Nat) : State :=
  let q := s.takeSlots b
  let s := q.1
  match q.2 with
  | none => s
  | some n =>
    if (s.boost (b / 3)).ready && decide ((s.bank b).hsReady ≤ s.hw) then (s.clearFault 0x3003 0x21 n).peakStart n false 0 else s

/-- A bank cut starts (06 R157): peak-and-hold events end, a channel in its boost wait returns to the head of the queue, and the
low-sides of on/off channels turn off. -/
def State.cutStart (s : State) (b : Nat) : State :=
  let s := (bankChs b).foldl (fun (s : State) n =>
    let c := s.valve' n
    if c.mode = 3 ∧ (c.state = 6 ∨ c.state = 7) then
      (s.freeSlots n).modValve n (fun c => { c with state := 0, mailbox := fZero, tOff := some s.hw, endAt := none, fromBat := false })
    else if c.mode = 3 ∧ c.state = 5 then
      ((s.freeSlots n).modValve n (fun c => { c with state := 4 })).modBank b (fun k => { k with queue := n :: k.queue })
    else if c.mode = 2 ∧ c.state = 2 then s.modValve n (fun c => { c with tOff := some s.hw })
    else s) s
  s

/-- One bank follows its cut: VALVE/BANK_CUT at start and end. -/
def State.bankEval (s : State) (b : Nat) : State :=
  let was := (s.bank b).cut
  let want := s.bankCut b
  let s := s.modBank b (fun k => { k with cut := want, cutLine := s.line (19 + b) })
  let s :=
    if was = 0 ∧ want ≠ 0 then
      let s := s.cutStart b
      s.post 0x21 (0x100 + b) (112 + b) 0x300A (0x100 + b) 1 want (s.bank b).queue.length
    else if was ≠ 0 ∧ want = 0 then
      s.post 0x21 (0x100 + b) (112 + b) 0x300A (0x100 + b) 0 was (s.bank b).queue.length
    else s
  s.bankHs b

/-! ### All actuators follow the paths that act on them -/

/-- Safety-tagged channels and bridges follow TAGGED_OFF (11 R270): one event a group and one a bridge at a change. -/
def State.safetyEval (s : State) : State :=
  let want (t : Bool) : Bool := t && s.root.taggedOff
  let s := (List.range 19).foldl (fun (s : State) g =>
    let chg := (groupChs g).filter (fun o => (s.out o).safetyOff != want (s.out o).cfg.tagged)
    if chg.isEmpty then s
    else
      let mask := bitSet ((List.range 4).filter (fun i => match (groupChs g)[i]? with | some o => chg.contains o | none => false))
      let off := chg.any (fun o => want (s.out o).cfg.tagged)
      let s := chg.foldl (fun (s : State) o => s.modOut o (fun c => { c with safetyOff := want c.cfg.tagged })) s
      s.post 0x22 (0x100 + g) (128 + g) 0x4008 (0x100 + g) (b2n off) mask 0) s
  (List.range 8).foldl (fun (s : State) n =>
    let b := s.hb n
    if b.safetyOff = want b.tagged then s
    else
      let s := s.modHb n (fun b => { b with safetyOff := want b.tagged })
      let s := if want b.tagged then s.hbEnd n 7 false else s
      s.post 0x23 n (147 + n) 0x4008 n (b2n (want b.tagged)) 1 0) s

/-- Every gate command follows the safe-off lines, reflex actions, TAGGED_OFF and studs as they stand. -/
def State.refreshGates (s : State) : State :=
  let s := s.safetyEval
  let s := s.outs.ch.foldl (fun (s : State) e => s.outEval e.1 false) s
  (List.range 6).foldl State.bankEval s

/-- TAGS0-2: the safety-tagged outputs and bridges as one 80-bit set (18 R389, R405). -/
def State.tagsWord (s : State) : Nat :=
  bitSet ((List.range 72).filter (fun o => (s.out o).cfg.tagged) ++ ((List.range 8).filter (fun n => (s.hb n).tagged)).map (72 + ·))

/-! ### Policies and power (11 R271, R280, R510, 06 R172) -/

/-- A channel's reset policy acts on its mailbox value: OFF 0, HOLD kept, ON static duty 1.0. -/
def OutCh.policy (c : OutCh) : OutCh :=
  match c.cfg.policy with
  | 0 => { c with mailbox := fZero, skip := false }
  | 2 => { c with mailbox := fOne }
  | _ => c

/-- Apply the policy to the channels and bridges that `sel` and `selB` name. -/
def State.applyPolicy (s : State) (sel : OutCh → Bool) (selB : Hb → Bool) : State :=
  let s := s.outs.ch.foldl (fun (s : State) e =>
    if sel (s.out e.1) then (s.modOut e.1 OutCh.policy).outEval e.1 false else s) s
  (List.range 8).foldl (fun (s : State) n => if selB (s.hb n) && (s.hb n).policy == 0 then s.hbEnd n 4 false else s) s

/-- Untagged outputs on a Root fault (18 R393). -/
def State.outsRootFault (s : State) : State := s.applyPolicy (fun c => !c.cfg.tagged) (fun b => !b.tagged)

/-- The restart of an owning partition (11 R271). -/
def State.outsOwnerRestart (s : State) (w : Nat) : State :=
  s.applyPolicy (fun c => c.owner == some w) (fun b => b.owner == some w)

/-- What a channel loses when the trunk stops: paths, ramp, window, clamp sums, diagnoses (11 R510). -/
def OutCh.stop (c : OutCh) (now : Nat) (mailbox : F32) : OutCh :=
  { c with mailbox := mailbox, skip := false, offSince := if c.on then now else c.offSince, engine := none, ruleOn := [], ruleOff := [], duty := fZero, on := false,
           ramp := none, inrushEnd := none, retryPwm := false, retryOn := false, clamps := [], clampLock := none,
           openLoad := false, shortBat := false, stuck := false, senseFault := false, testing := none, pulse := false, testDue := false,
           parkDriven := false, darkFrom := none, dark := [], lateOn := [],
           pend := none, code := 0, mean := 0, current := 0 }

/-- Bridges coast and valves are off while the trunk is; latches stay. -/
def State.trunkActuators (s : State) : State :=
  { s with
      outs.groups := tmap OutGroup.reset s.outs.groups (fun g => { OutGroup.reset with dieC := g.dieC, shutdown := g.shutdown }),
      outs.hb := tmap Hb.reset s.outs.hb (fun b =>
        { b with action := 0, op := none, target := none, limitAt := none, revPend := none, pinch := none, ruleOff := [],
                 periods := [], lastRipple := none, hot := false, current := 0, cut := false }),
      valve.ch := tmap ValveCh.reset s.valve.ch (fun c =>
        { c with mailbox := 0, engine := none, state := 0, tOff := none, req := none, endAt := none, openLoad := false,
                 tracking := false, current := 0, duty := 0, fromBat := false, chop := none, dutyNext := none, trackBad := none,
                 trackOk := none }),
      valve.banks := tmap ValveBank.reset s.valve.banks (fun k => { ValveBank.reset with latched := k.latched, deferUs := k.deferUs }),
      valve.boost := tmap Boost.reset s.valve.boost (fun x => { x with railMv := 0, notReady := 0, charged := false }) }

/-- The Cellar drives no park-hold slot. -/
def State.parkSlotsOff (s : State) : State :=
  { s with outs.parkHold := tmap ParkHold.reset s.outs.parkHold (fun h => { h with driving := false, level := false }) }

/-- A trunk-die reset: the Cellar drives each channel that is not latched to its hardware default (11 R271, R510). -/
def State.outsTrunkReset (s : State) : State :=
  let lines := s.root.safeoff ||| s.root.cellarHold ||| s.root.faultcut
  let s := s.outs.ch.foldl (fun (s : State) e =>
    let free := s.outUnlatched e.1 && !lines.testBit (groupOf e.1) && !s.studHeld (outClass e.1)
    s.modOut e.1 (fun c =>
      let d := if c.hwDefault then fOne else fZero
      { (c.stop s.hw d) with on := c.hwDefault && free, duty := if c.hwDefault && free then fOne else fZero,
                             onSince := if c.on then c.onSince else s.hw })) s
  s.parkSlotsOff.trunkActuators

/-- The bit of a park state in OUT.PARKHOLD (11 R272). -/
def parkBit : PowState → Nat | .deep => 0 | .selective => 1 | _ => 2

/-- Entry into a park state: everything off but the park-hold channels armed for it, which the Cellar drives (11 R271,
R272); a channel that a latch or its stud keeps off is not driven (11 R510). -/
def State.outsPark (s : State) : State :=
  let s := s.outs.ch.foldl (fun (s : State) e => s.modOut e.1 (fun c => c.stop s.hw fZero)) s
  let s := s.parkSlotsOff.trunkActuators
  (List.range 4).foldl (fun (s : State) k =>
    let h := tget ParkHold.reset s.outs.parkHold k
    match h.out with
    | none => s
    | some o =>
      if h.states.testBit (parkBit s.power.target) && s.outUnlatched o && !s.studHeld (outClass o) then
        let s := { s with outs.parkHold := tset ParkHold.reset s.outs.parkHold k
                            { h with driving := true, level := true, edgeAt := 0, tripped := 0,
                                     endAt := if h.limitMin = 0 then none else some (h.limitMin * 60 * 32768) } }
        s.modOut o (fun c => { c with parkDriven := true, on := true, duty := fOne })
      else s) s

/-- Thermal shutdown: every output off, park-hold channels and hardware defaults included (21 R469). -/
def State.outsShutdown (s : State) : State :=
  let s := s.outs.ch.foldl (fun (s : State) e => s.modOut e.1 (fun c => c.stop s.hw fZero)) s
  s.parkSlotsOff.trunkActuators

/-- A stud's stages resume: the inrush window opens for the channels commanded on (11 R264, 21 R454). -/
def State.studResume (s : State) (stud : Nat) : State :=
  s.outs.ch.foldl (fun (s : State) e =>
    if outClass e.1 = stud ∧ !fEq (s.outCmd e.1) fZero then
      s.modOut e.1 (fun c => { c with inrushEnd := some (s.hw + inrushNs stud) }) else s) s

/-- A channel at a trunk start: the kept configuration, with what the Cellar holds. -/
def OutCh.cold (kept cur : OutCh) (taggedOff : Bool) : OutCh :=
  { OutCh.reset with cfg := kept.pend.getD kept.cfg, owner := kept.owner, bound := kept.bound, boundBy := kept.boundBy, lamp := kept.lamp,
                     hwDefault := cur.hwDefault, latched := cur.latched, thermLatch := cur.thermLatch,
                     mailbox := cur.mailbox, parkDriven := cur.parkDriven, on := cur.on,
                     duty := if cur.on then cur.duty else fZero, onSince := cur.onSince, offSince := cur.offSince, safetyOff := kept.cfg.tagged && taggedOff }

/-- Outputs and bridges at a trunk start (11 R271, R277, R510, 04 R122). -/
def State.outsCold (s : State) (kept : Option Outs) : State :=
  let k := kept.getD Outs.reset
  let keys := (k.ch.map (·.1) ++ s.outs.ch.map (·.1)).eraseDups
  let ch := keys.foldl (fun (t : Tab OutCh) o =>
    tset OutCh.reset t o ((tget OutCh.reset k.ch o).cold (tget OutCh.reset s.outs.ch o) true)) []
  let hb := (List.range 8).foldl (fun (t : Tab Hb) n =>
    let a := tget Hb.reset k.hb n
    let b := s.hb n
    tset Hb.reset t n { a with action := 0, op := none, target := none, limitAt := none, revPend := none, pinch := none,
                               ruleOff := [], periods := [], lastRipple := none, hot := false, current := 0, cut := false, moves := 0,
                               pos := b.pos, reliable := b.reliable, shorted := b.shorted, safetyOff := a.tagged }) []
  { s with outs := { s.outs with ch := ch, hb := hb } }

/-- Valves at a trunk start: the kept configuration and the Cellar's latches; every commanded value 0 (06 R172). -/
def State.valveCold (s : State) (kept : Option Valve) : State :=
  let k := kept.getD Valve.reset
  let ch := (List.range 24).foldl (fun (t : Tab ValveCh) n =>
    let a := tget ValveCh.reset k.ch n
    tset ValveCh.reset t n { a with mailbox := 0, engine := none, state := 0, tOff := none, req := none, endAt := none,
                                    openLoad := false, tracking := false, current := 0, events := 0, duty := 0, fromBat := false,
                                    chop := none, dutyNext := none, trackBad := none, trackOk := none,
                                    latched := (s.valve' n).latched }) []
  let banks := (List.range 6).foldl (fun (t : Tab ValveBank) b =>
    tset ValveBank.reset t b { ValveBank.reset with deferUs := (tget ValveBank.reset k.banks b).deferUs,
                                                    latched := (s.bank b).latched }) []
  let boost := (List.range 2).foldl (fun (t : Tab Boost) c =>
    tset Boost.reset t c { Boost.reset with enabled := (tget Boost.reset k.boost c).enabled, latched := (s.boost c).latched, enabledAt := s.hw }) []
  { s with valve := { ch := ch, banks := banks, boost := boost } }

/-! ### The control engine's releases (05 R127, R128) -/

/-- The value an actuator of a binding has in fact, given the value released (R127). -/
def State.actApplied (s : State) (kind target : Nat) (v : F32) : F32 :=
  match kind with
  | 1 => if s.valveLive target then v else fZero
  | 2 => match s.outPrec target with
    | 1 => fZero
    | 2 => fZero
    | 3 => if s.outBlocked target || s.clampLocked target then fZero else fOne
    | _ => if s.outBlocked target || s.clampLocked target then fZero else v
  | _ => v

/-- A path above the engine's, or a protection state, acts on the actuator of a binding, whatever value it imposes (R127). -/
def State.actOverridden (s : State) (kind target : Nat) : Bool :=
  match kind with
  | 1 => !s.valveLive target
  | 2 => decide (1 ≤ s.outPrec target ∧ s.outPrec target ≤ 3) || s.outBlocked target || s.clampLocked target
  | _ => false

/-- A value released for a binding: the actuator's engine value, or a bus signal (R128). -/
def State.release (s : State) (kind target : Nat) (v : F32) : State :=
  match kind with
  | 1 => (s.modValve target (fun c => { c with engine := some v })).bankHs (target / 4)
  | 2 => (s.modOut target (fun c => { c with engine := some v })).outEval target false
  | 3 => s.setSig target v s.hw fgValid
  | _ => s

/-- A loaded loop binds the actuator (R128). -/
def State.loopBinds (s : State) (kind target : Nat) : Bool :=
  s.ctrl.slots.any (fun e => match e.2.cfg with
    | some c => (c.binds.take c.p).any (fun b => b.kind == kind && b.target == target)
    | none => false)

/-- A binding's actuator follows its mailbox value again (R137). -/
def State.unrelease (s : State) (kind target : Nat) : State :=
  match kind with
  | 1 => (s.modValve target (fun c => { c with engine := none })).bankHs (target / 4)
  | 2 => (s.modOut target (fun c => { c with engine := none })).outEval target false
  | _ => s

end Sys2Proof.Machine
end

