-- ==== Sys2Proof/Machine/Bus.lean ====
section
/-! DEFINITION. Machine/Bus.lean: what the CAN, NM and ETH units share: channels, ports, their sleep, and the frames of
Keeper's own Pantry entries (15 R328, R350, 17 R375-R382). -/

namespace Sys2Proof.Machine

/-- A CAN channel. -/
def State.canCh (s : State) (c : Nat) : CanCh := tget CanCh.reset s.can.ch c
/-- Change a CAN channel. -/
def State.modCan (s : State) (c : Nat) (f : CanCh → CanCh) : State := { s with can.ch := tmod CanCh.reset s.can.ch c f }
/-- An Ethernet port. -/
def State.ethPort (s : State) (p : Nat) : EthPort := tget EthPort.reset s.eth.ports p
/-- Change an Ethernet port. -/
def State.modEth (s : State) (p : Nat) (f : EthPort → EthPort) : State := { s with eth.ports := tmod EthPort.reset s.eth.ports p f }
/-- A managed network. -/
def State.net (s : State) (n : Nat) : NmNet := tget NmNet.reset s.nm.nets n
/-- Change a managed network. -/
def State.modNet (s : State) (n : Nat) (f : NmNet → NmNet) : State := { s with nm.nets := tmod NmNet.reset s.nm.nets n f }

/-- The managed network of a channel. -/
def State.netOf (s : State) (c : Nat) : Option Nat := (List.range 3).find? (fun n => (s.net n).managed && (s.net n).chan == c)

/-- The managed network of a T1 port. -/
def State.netOfPort (s : State) (p : Nat) : Option Nat :=
  (List.range 3).find? (fun n => (s.net n).managed && (s.net n).t1Ports.testBit p)

/-- The state that CAN.STATUS reports (15 R324, R325). -/
def CanCh.report (x : CanCh) : Nat := if x.mode = 0 then 0 else if x.asleep then 4 else x.state

/-- Requests reach the channel: it is neither off nor asleep nor in bus off (15 R342). -/
def CanCh.usable (x : CanCh) : Bool := x.mode != 0 && !x.asleep && x.state != 3

/-- The sleep gap suspends every transmission on the channel but ABORT (17 R375). -/
def State.inGap (s : State) (c : Nat) : Bool :=
  match s.netOf c with | some n => (s.net n).state == 4 | none => false

/-- A frame of Keeper's own entries is requested on a channel. -/
def State.keeperSend (s : State) (c id : Nat) (data : List Byte) : State :=
  if (s.canCh c).usable then
    s.modCan c (fun x => { x with keeperTx := x.keeperTx ++ [({ id := id, data := data, arrAt := s.hw } : GwFrame)] }) else s

/-- The settings of NM.CANWAKE taken over (17 R385). -/
def CanCh.loadWake (x : CanCh) : CanCh :=
  match x.wakePend with
  | none => x
  | some p => { x with wakePend := none, wakeMode := u8 p 0, wakeFilt := u8 p 1, wakeOvf := bit (u8 p 2) 0, wakeDlc := u8 p 3,
                       wakeId := u32 p 4, wakeMask := u32 p 8, wakeRate := u16 p 12, wakeData := slice p 16 8 }

/-- A transceiver enters sleep with its latest settings (17 R375, R385). -/
def State.canSleep (s : State) (c : Nat) : State := s.modCan c (fun x => { x.loadWake with asleep := true, keeperTx := [] })

/-- A transceiver returns to normal mode (17 R381); frames held for it are sent now (15 R350). -/
def State.canWake (s : State) (c : Nat) : State :=
  s.modCan c (fun x => { x with asleep := false, fifo := x.fifo.map (fun f => { f with held := false }) })

/-- A T1 PHY enters sleep; its link is gone with it, and its part in gPTP (16 R360, R368). -/
def State.portSleep (s : State) (p : Nat) : State :=
  let x := s.ethPort p
  let s := s.modEth p (fun x => { x with asleep := true, link := false, gptp := 0 })
  if x.gptp = 0 then s else s.post 0x32 p (200 + p) 0x7003 p 0 x.gm 0

/-- A T1 PHY wakes with a TC10 wake-up pulse to its partner; the link comes with ETH/LINK_UP (17 R382). -/
def State.portWake (s : State) (p : Nat) : State := s.modEth p (fun x => { x with asleep := false })

/-- The ports of a bitmap. -/
def portsOf (m : Nat) : List Nat := (List.range 6).filter (fun p => m.testBit p)

/-- An ID and mask pair matches a frame (15 R327): bit 31 is always compared. -/
def idMatch (frame id mask : Nat) : Bool := (frame ^^^ id) &&& (mask ||| 2 ^ 31) == 0

/-- Wake input `i` is held: in the wake set, active, not removed (12 R286, R287). -/
def State.wakeHeld (s : State) (i : Nat) : Bool :=
  let w := tget Sw.reset s.swin.sw i
  w.wake && w.state && w.removed.isNone

/-- A wake input is held. -/
def State.wakeInputHeld (s : State) : Bool := (List.range 16).any s.wakeHeld

end Sys2Proof.Machine
end

