-- ==== Sys2Proof/Machine/Nm.lean ====
section
/-! DEFINITION. Machine/Nm.lean: managed networks, the consent ring, sleep and wake (chapter 17). Network states as NM.STATUS
numbers them: 0 unmanaged, 1 AWAKE, 2 READY, 3 COMMIT, 4 GAP, 5 ASLEEP. -/

namespace Sys2Proof.Machine

/-- NM firmware runs. -/
def State.nmRuns (s : State) : Bool := s.operating && s.running 0x33 0 && !s.keeper.paused

/-- What ends or prevents consent (R370), as the cause of NM/ABORT: 1 window request, 2 IGN, KEYWAKE or wake input, 3 route;
0 while the module consents. -/
def State.nmBlock (s : State) (n : Nat) : Nat :=
  let x := s.net n
  if !x.holds.isEmpty then 1
  else if !x.partialNet && (s.power.ign || s.power.keywake || s.wakeInputHeld) then 2
  else if (s.canCh x.chan).fifo.any (·.held) then 3 else 0

/-- A network takes a state: NM/STATE (R386). -/
def State.nmState (s : State) (n new : Nat) : State :=
  let old := (s.net n).state
  if old = new then s
  else (s.modNet n (fun x => { x with state := new, stateAt := s.hw })).post 0x33 n (208 + n) 0x7101 n old new 0

/-- AWAKE or READY, as the module consents. -/
def State.nmIdle (s : State) (n : Nat) : State := s.nmState n (if s.nmBlock n = 0 then 2 else 1)

/-- The next present address above the module's own, wrapping (R372). -/
def NmNet.successor (x : NmNet) : Nat :=
  (((List.range 31).map (fun i => (x.addr + 1 + i) % 32)).find? (fun a => x.present.testBit a)).getD x.addr

/-- The module puts a ring message on the bus (R371). -/
def State.nmSend (s : State) (n ctrl succ init : Nat) : State :=
  let x := s.net n
  let s := s.keeperSend x.chan (x.baseId + x.addr) (b8 succ ++ b8 ctrl ++ b8 init ++ zeros 5)
  s.modNet n (fun x => { x with present := x.present ||| 2 ^ x.addr, lastMsg := s.hw, ready := setBit x.ready x.addr (ctrl.testBit 4) })

/-- READY as the module's messages carry it: 16 while it consents (R373). -/
def State.readyBit (s : State) (n : Nat) : Nat := if s.nmBlock n = 0 then 16 else 0

/-- The first RING of an exchange falls to the lowest address that sent an ALIVE, 2 × T_typ after the first (R372). -/
def NmNet.firstRing (x : NmNet) : NmNet :=
  match x.firstAlive with
  | some t => { x with sendAt := if (List.range x.addr).all (fun a => !x.present.testBit a) then some (t + 2 * x.tTyp * 1000000) else none }
  | none => x

/-- An ALIVE exchange begins or goes on with a sender (R372). -/
def State.nmExchange (s : State) (n a : Nat) : State :=
  s.modNet n (fun x =>
    let on : Bool := match x.firstAlive with | some t => decide (s.hw < t + 2 * x.tTyp * 1000000) | none => false
    if on then { x with present := x.present ||| 2 ^ a } else { x with present := 2 ^ a, firstAlive := some s.hw })

/-- The module sends ALIVE with itself as successor (R372). It is a ring message, and carries READY as one (R373). -/
def State.nmAlive (s : State) (n : Nat) : State :=
  let x := s.net n
  let s := (s.nmExchange n x.addr).nmSend n (1 + s.readyBit n) x.addr 0
  let b := s.nmBlock n
  s.modNet n (fun x => ({ x with aliveAt := some s.hw, ownReady := b == 0, allReady := true } : NmNet).firstRing)

/-- A commit round ends before its final commit, or a gap ends in a wake (R374, R376): NM/ABORT. -/
def State.nmAborted (s : State) (n sender cause after : Nat) : State :=
  let s := s.modNet n (fun x => { x with aborts := (x.aborts + 1) % 4294967296, lastAbort := cause, committed := false, ownReady := false,
                                         allReady := false })
  s.post 0x33 n (208 + n) 0x7102 n sender cause after

/-- The final commit: the sleep gap begins; TC10 sleep is requested on the network's T1 ports (R375). -/
def State.nmGap (s : State) (n : Nat) : State :=
  let s := s.modNet n (fun x => { x with finalAt := s.hw, sendAt := none, committed := false, tc10Wait := x.t1Ports })
  s.nmState n 4

/-- A wake in the gap (R376): RING with ABORT to the successor; the ports are woken; the ring continues from the ABORT. -/
def State.nmGapWake (s : State) (n cause : Nat) : State :=
  let x := s.net n
  if x.state ≠ 4 ∨ s.hw ≥ x.finalAt + 200000000 then s
  else
    let s := s.nmSend n (2 + 4) x.successor 0
    let s := s.nmAborted n x.addr cause ((s.hw - x.finalAt) / 1000000)
    let again := if x.successor = x.addr then some (s.hw + x.tTyp * 1000000) else none
    let s := s.modNet n (fun x => { x with sendAt := again, tc10Wait := 0, consentAt := none, blocked := 0, lastWake := if cause = 4 then 2 else if cause = 3 then 5 else if cause = 6 then 6 else 1 })
    let s := (portsOf x.t1Ports).foldl State.portWake s
    (s.canWake x.chan).nmState n 1

/-- A network wakes (R381): transceiver to normal mode, T1 ports woken, ALIVE. `why` is NM.STATUS's code. -/
def State.nmWake (s : State) (n why : Nat) : State :=
  let x := s.net n
  let s := (portsOf x.t1Ports).foldl State.portWake (s.canWake x.chan)
  let s := s.modNet n (fun x => { x with lastWake := why, present := 0, ready := 0, firstAlive := none, expiries := 0 })
  (s.nmState n 1).nmAlive n

/-- The module's consent is looked at again (R370, R374, R376, R377): called at whatever may change it. -/
def State.nmEval (s : State) (n : Nat) : State :=
  let x := s.net n
  if !x.managed then s
  else
    let b := s.nmBlock n
    let s := s.modNet n (fun x => { x with consentAt := if b = 0 then some (x.consentAt.getD s.hw) else none,
                                           blocked := if b = 0 ∧ x.consentAt.isSome then x.blocked else 0 })
    match x.state with
    | 1 => if b = 0 then s.nmState n 2 else s
    | 2 => if b = 0 then s else s.nmState n 1
    | 3 =>
      if b ≠ 0 ∧ x.committed then
        ((s.nmSend n (2 + 4) x.successor 0).nmAborted n x.addr b 0xFFFFFFFF).nmState n 1
      else s
    | 4 => if b = 0 then s else s.nmGapWake n b
    | 5 => if b = 0 then s else s.nmWake n (if b = 3 then 5 else 1)
    | _ => s

/-- Every network's consent, while NM runs. -/
def State.nmEvalAll (s : State) : State := if s.nmRuns then [0, 1, 2].foldl State.nmEval s else s

/-- The gap ends with whatever frame is validated on the channel (R376). -/
def State.nmFrame (s : State) (c : Nat) : State :=
  match s.netOf c with | some n => if s.nmRuns then s.nmGapWake n 4 else s | none => s

/-! ### The ring -/

/-- An ALIVE seen (R372, R374). -/
def State.nmAliveSeen (s : State) (n a : Nat) : State :=
  let x := s.net n
  let s := if x.state = 3 then (s.nmAborted n a 5 0xFFFFFFFF).nmIdle n else s
  let s := s.nmExchange n a
  let recent : Bool := match x.aliveAt with | some t => decide (s.hw < t + x.tMax * 1000000) | none => false
  if recent then s.modNet n NmNet.firstRing else s.nmAlive n

/-- Address `me` lies between source `a` and successor `b` in ring order (R372). -/
def encloses (a b me : Nat) : Bool :=
  me != a && me != b && decide ((me + 32 - a) % 32 < (if a = b then 32 else (b + 32 - a) % 32))

/-- A RING message seen (R372-R374). -/
def State.nmRingSeen (s : State) (n a succ ctrl init : Nat) : State :=
  let x := s.net n
  let s := s.modNet n (fun x => { x with expiries := 0, ringLost := false, firstAlive := none, present := x.present ||| 2 ^ a })
  let s := if x.ringLost then s.clearFault 0x7104 0x33 n else s
  let commit := ctrl.testBit 5
  let abort := ctrl.testBit 2
  let s :=
    if commit ∧ !abort then
      if succ = init then (s.nmGap n).nmEval n else (s.modNet n (fun x => { x with initiator := init })).nmState n 3
    else if x.state = 3 then (s.nmAborted n a 7 0xFFFFFFFF).nmIdle n
    else if abort then s.modNet n (fun x => { x with ownReady := false, allReady := false })
    else s
  let x := s.net n
  if x.state = 4 then s
  else
    let s := if succ = x.addr then s.modNet n (fun x => { x with sendAt := some (s.hw + x.tTyp * 1000000) }) else s
    if encloses a succ x.addr then
      (if x.state = 3 then (s.nmAborted n x.addr 5 0xFFFFFFFF).nmIdle n else s).nmAlive n
    else s

/-- NM_RING_MESSAGE (R371-R376): a ring message of another node is received. In the gap it is a frame in the gap. -/
def execNmRingMessage (n sender : Nat) (data : List Byte) (s : State) : Out :=
  .next (
    let x := s.net n
    let ctrl := u8 data 1
    if !s.nmRuns || !x.managed || x.state == 5 || sender == x.addr || decide (sender ≥ 32) then s
    else if x.state = 4 then (s.nmGapWake n 4).nmEval n
    else
      let s := s.modNet n (fun x => { x with lastMsg := s.hw, ready := setBit x.ready sender (ctrl.testBit 4),
                                             allReady := x.allReady && ctrl.testBit 4 })
      if ctrl.testBit 0 then s.nmAliveSeen n sender else s.nmRingSeen n sender (u8 data 0 % 32) ctrl (u8 data 2))

/-- NM_RING_SEND (R372-R374): the module's turn, T_typ after it was named or 2 × T_typ after the first ALIVE. -/
def execNmRingSend (n : Nat) (s : State) : Out :=
  .next (
    match (s.net n).sendAt with
    | none => s
    | some t =>
      if !s.nmRuns || !(s.net n).managed || (s.net n).state ≥ 4 then s
      else
        let s := (s.waitTo t).modNet n (fun x => { x with sendAt := none, firstAlive := none })
        let x := s.net n
        let b := s.nmBlock n
        let succ := x.successor
        let alone := succ == x.addr
        let again (s : State) : State := if alone then s.modNet n (fun x => { x with sendAt := some (s.hw + x.tTyp * 1000000) }) else s
        if x.state = 3 ∧ !x.committed then
          if b = 0 then
            let s := (s.nmSend n (2 + 16 + 32) succ x.initiator).modNet n (fun x => { x with committed := true, ownReady := true, allReady := true })
            if succ = x.initiator then s.nmGap n else s
          else again (((s.nmSend n (2 + 4) succ 0).nmAborted n x.addr b 0xFFFFFFFF).nmState n 1)
        else if b = 0 ∧ x.ownReady ∧ x.allReady ∧ x.initFlag then
          let s := (s.nmSend n (2 + 16 + 32) succ x.addr).modNet n (fun x =>
            { x with committed := true, initiator := x.addr, ownReady := true, allReady := true })
          let s := s.nmState n 3
          if alone then s.nmGap n else s
        else
          let s := s.nmSend n (2 + s.readyBit n) succ 0
          again (s.modNet n (fun x => { x with ownReady := b == 0, allReady := true })))

/-- NM_RING_TIMEOUT (R372): T_max without a ring message. -/
def execNmRingTimeout (n : Nat) (s : State) : Out :=
  .next (
    let x := s.net n
    if !s.nmRuns || !x.managed || decide (x.state ≥ 4) then s
    else
      let s := s.waitTo (x.lastMsg + x.tMax * 1000000)
      let e := x.expiries + 1
      let s := s.modNet n (fun x => { x with expiries := e, lastMsg := s.hw, firstAlive := none })
      let s := if e ≥ 3 ∧ !x.ringLost then
          (s.modNet n (fun x => { x with ringLost := true })).raiseEv 0x33 n (208 + n) 0x7104 2 n e x.present 0 else s
      let s := if x.state = 3 then (s.nmAborted n x.addr 5 0xFFFFFFFF).nmIdle n else s
      s.nmAlive n)

/-- NM_WAKE_IN_GAP (R376): the end of consent, or else a validated frame on the channel. -/
def execNmWakeInGap (n : Nat) (s : State) : Out :=
  .next (if s.nmRuns && (s.net n).managed then s.nmGapWake n (if s.nmBlock n = 0 then 4 else s.nmBlock n) else s)

/-- NM_GAP_END (R375, R377): 200 ms after the final commit the transceiver and the T1 PHYs sleep. The timer is trunk hardware. A
local cause of that cycle or later then wakes the network. -/
def execNmGapEnd (n : Nat) (s : State) : Out :=
  .next (
    let x := s.net n
    if !s.operating || !x.managed || x.state != 4 then s
    else
      let s := s.waitTo (x.finalAt + 200000000)
      let s := (portsOf x.t1Ports).foldl State.portSleep (s.canSleep x.chan)
      let s := (s.modNet n (fun x => { x with tc10Wait := 0, sendAt := none })).nmState n 5
      if s.nmRuns then s.nmEval n else s)

/-- NM_TC10_ACK_TIMEOUT (R375): a T1 partner refuses the sleep request, or does not acknowledge it within 20 ms. -/
def execNmTc10AckTimeout (n : Nat) (refused : Bool) (s : State) : Out :=
  .next (
    let x := s.net n
    if !s.nmRuns || !x.managed || x.state != 4 || x.tc10Wait == 0 then s
    else (if refused then s else s.waitTo (x.finalAt + 20000000)).nmGapWake n 6)

/-- NM_SLEEP_BLOCKED (R378). -/
def execNmSleepBlocked (n : Nat) (s : State) : Out :=
  .next (
    let x := s.net n
    match x.consentAt with
    | none => s
    | some t =>
      if !s.nmRuns || !x.managed || x.blockS == 0 || decide (x.state ≥ 4) then s
      else
        let s := s.waitTo (t + x.blockS * (x.blocked + 1) * 1000000000)
        let s := s.modNet n (fun x => { x with blocked := x.blocked + 1 })
        s.post 0x33 n (208 + n) 0x7103 n (clearBits x.present x.ready) ((s.hw - t) / 1000000000) 0)

/-! ### Wake (R379-R384) -/

/-- The selective wake frame matches (R379). -/
def CanCh.wakeMatch (x : CanCh) (id : Nat) (data : List Byte) : Bool :=
  idMatch id x.wakeId x.wakeMask && data.length == x.wakeDlc &&
    (x.wakeData.all (· == 0) || (List.range 8).any (fun i => u8 data i &&& u8 x.wakeData i != 0))

/-! ### Commands (R385) -/

/-- NM.STATUS. -/
def verbNmStatus : Verb :=
  { unit := 0x33, verb := 0x01, lenOk := lenIs 0, instOk := instLt 3, query := true, rt := true, perm := none,
    body := fun r s =>
      let x := s.net r.inst
      (s, stDone, b8 x.state ++ b8 x.lastWake ++ b8 x.lastAbort ++ b8 (b2n (x.managed && s.nmBlock r.inst == 0)) ++ b32 x.present ++ b32 x.ready ++
        b32 ((s.hw - x.stateAt) / 1000000) ++ b32 x.aborts) }

/-- NM.WAKE_CAUSE (R384). -/
def verbNmWakeCause : Verb :=
  { unit := 0x33, verb := 0x02, lenOk := lenIs 0, instOk := inst0, query := true, rt := true, perm := none,
    body := fun _ s =>
      let x := s.nm
      (s, stDone, b8 x.wakeFirst ++ b8 x.wakeDetail ++ zeros 2 ++ b32 x.wakeMap ++ b64 x.wakeAt ++ b32 x.parkS ++ zeros 4) }

/-- NM.CONFIG (R369, R385): an accepted configuration restarts the ring with ALIVE. -/
def verbNmConfig : Verb :=
  { unit := 0x33, verb := 0x10, lenOk := lenIs 16, instOk := instLt 3, query := false, rt := false, perm := none,
    body := fun r s =>
      let p := r.payload
      let n := r.inst
      let x := s.net n
      let ports := u8 p 12
      let taken := (List.range 3).any (fun m => m != n && (s.net m).managed && ((s.net m).chan == u8 p 1 || (s.net m).t1Ports &&& ports != 0))
      if x.state = 3 ∨ x.state = 4 then (s, stBusy, [])
      else if u8 p 0 = 0 then
        let s := if x.managed then (portsOf x.t1Ports).foldl State.portWake (s.canWake x.chan) else s
        let s := (s.modNet n (fun y => { NmNet.reset with holds := y.holds, state := y.state, stateAt := y.stateAt, aborts := y.aborts })).nmState n 0
        ((s.clearFault 0x7104 0x33 n).dirty, stDone, [])
      else if u8 p 0 > 1 ∨ u8 p 1 > 7 ∨ u8 p 2 > 31 ∨ u8 p 3 > 3 ∨ u16 p 4 > 0x7E0 ∨ u16 p 4 % 32 ≠ 0 ∨ u16 p 6 < 10 ∨ u16 p 6 > 1000 ∨
          u16 p 8 < 2 * u16 p 6 ∨ u16 p 8 > 10000 ∨ u16 p 10 > 3600 ∨ ports ≥ 64 ∨ !(portsOf ports).all (fun q => (s.ethPort q).tc10) then
        (s, stRange, [])
      else if taken then (s, stBusy, [])
      else
        let s := if x.managed then (portsOf x.t1Ports).foldl State.portWake (s.canWake x.chan) else s
        let s := s.modNet n (fun y =>
          { NmNet.reset with managed := true, chan := u8 p 1, addr := u8 p 2, initFlag := bit (u8 p 3) 0, partialNet := bit (u8 p 3) 1,
                             baseId := u16 p 4, tTyp := u16 p 6, tMax := u16 p 8, blockS := u16 p 10, t1Ports := ports, holds := y.holds,
                             state := y.state, stateAt := y.stateAt, aborts := y.aborts, lastWake := y.lastWake, lastAbort := y.lastAbort })
        let s := (portsOf ports).foldl State.portWake (s.canWake (u8 p 1))
        let s := ((s.clearFault 0x7104 0x33 n).nmState n 1).nmEval n
        ((s.nmAlive n).dirty, stDone, []) }

/-- NM.REQUEST (R385). -/
def verbNmRequest : Verb :=
  { unit := 0x33, verb := 0x11, lenOk := lenIs 4, instOk := instLt 3, query := false, rt := true, perm := none,
    body := fun r s =>
      if u8 r.payload 0 > 1 then (s, stRange, [])
      else
        let s := s.modNet r.inst (fun x => { x with holds := if u8 r.payload 0 = 1 then r.win :: x.holds.erase r.win else x.holds.erase r.win })
        (s.nmEval r.inst, stDone, []) }

/-- NM.CANWAKE (R379, R385): settings for the next transceiver sleep. -/
def verbNmCanwake : Verb :=
  { unit := 0x33, verb := 0x12, lenOk := lenIs 24, instOk := fun i => decide (0x100 ≤ i ∧ i < 0x108), query := false, rt := false, perm := none,
    body := fun r s =>
      let p := r.payload
      let c := r.inst - 0x100
      let sel := u8 p 0 == 1
      if u8 p 0 > 2 ∨ (sel ∧ c > 3) ∨ u8 p 1 < 5 ∨ u8 p 1 > 50 ∨ u8 p 2 > 1 ∨ u8 p 3 > 8 ∨ bits (u32 p 4) 30 29 ≠ 0 ∨
          !([125, 250, 500, 1000].contains (u16 p 12)) then (s, stRange, [])
      else ((s.modCan c (fun x => { x with wakePend := some p })).dirty, stDone, []) }

/-! ### Park entry, trunk start, restart (R369, R378, R381, R383) -/

/-- Channels and TC10 ports in no managed network (R369, R382). -/
def State.unmanaged (s : State) : List Nat × List Nat :=
  ((List.range 8).filter (fun c => (s.netOf c).isNone && (s.canCh c).mode != 0),
   (List.range 6).filter (fun p => (s.netOfPort p).isNone && (s.ethPort p).tc10))

/-- Step 5 of park entry: what is unmanaged sleeps. -/
def State.nmParkStart (s : State) : State :=
  let (cs, ps) := s.unmanaged
  ps.foldl State.portSleep (cs.foldl State.canSleep s)

/-- Park entry waits for every managed network to be ASLEEP (R378). -/
def State.nmParkDone (s : State) : Bool := (List.range 3).all (fun n => !(s.net n).managed || (s.net n).state == 5)

/-- An abandoned park entry wakes what is unmanaged; networks ASLEEP stay asleep unless the cause concerns them (R383). -/
def State.nmParkAbandon (s : State) : State :=
  let (cs, ps) := s.unmanaged
  (ps.foldl State.portWake (cs.foldl State.canWake s)).nmEvalAll

/-- A window's hold lapses with its partition's restart (R385). -/
def State.nmLapse (s : State) (w : Nat) : State :=
  ({ s with nm.nets := tmap NmNet.reset s.nm.nets (fun x => { x with holds := x.holds.erase w }) } : State).nmEvalAll

/-- NM at a trunk start: networks from the kept record, all ASLEEP. -/
def Nm.cold (kept cur : Nm) : Nm :=
  { cur with nets := tmap NmNet.reset kept.nets (fun x =>
      { NmNet.reset with managed := x.managed, chan := x.chan, addr := x.addr, initFlag := x.initFlag, partialNet := x.partialNet, baseId := x.baseId,
                         tTyp := x.tTyp, tMax := x.tMax, blockS := x.blockS, t1Ports := x.t1Ports, state := if x.managed then 5 else 0 }) }

/-- After a trunk start (R381, R384): NM/MODULE_WAKE after a wake; unmanaged channels and ports leave sleep; networks that
IGN, KEYWAKE or their own bus woke wake, the others stay ASLEEP. -/
def State.nmTrunkStart (s : State) (woken : Bool) : State :=
  let x := s.nm
  let s := if woken then s.postAt x.wakeAt 0x33 0 211 0x7105 0 (x.wakeFirst + 256 * x.wakeDetail) x.wakeMap x.parkS else s
  let (cs, ps) := s.unmanaged
  let s := ps.foldl State.portWake (cs.foldl State.canWake s)
  let key := woken && (x.wakeMap.testBit 2 || x.wakeMap.testBit 3)
  let s := [0, 1, 2].foldl (fun (s : State) n =>
    let y := s.net n
    if !y.managed then s
    else if key && !y.partialNet then s.nmWake n 1
    else if !(s.canCh y.chan).asleep && (s.canCh y.chan).mode != 0 then s.nmWake n (if x.wakeMap.testBit 6 then 4 else 3)
    else if (portsOf y.t1Ports).any (fun p => !(s.ethPort p).asleep) then s.nmWake n 6
    else s) s
  s.nmEvalAll

/-- A trunk stop leaves every transceiver and T1 PHY asleep, with its latest settings. -/
def State.nmTrunkStop (s : State) : State :=
  (List.range 6).foldl State.portSleep ((List.range 8).foldl State.canSleep s)

/-- NM restarts: its counts start again; the ring goes on from its timers. A gap keeps its sleep instant (R385). -/
def State.nmRestart (s : State) : State :=
  { s with nm.nets := tmap NmNet.reset s.nm.nets (fun x => { x with aborts := 0 }) }

/-- NM.STATUS -/
def execNmStatus (r : Req) (s : State) : Out := mailboxRow verbNmStatus r s
/-- NM.WAKE_CAUSE -/
def execNmWakeCause (r : Req) (s : State) : Out := mailboxRow verbNmWakeCause r s
/-- NM.CONFIG -/
def execNmConfig (r : Req) (s : State) : Out := mailboxRow verbNmConfig r s
/-- NM.REQUEST -/
def execNmRequest (r : Req) (s : State) : Out := mailboxRow verbNmRequest r s
/-- NM.CANWAKE -/
def execNmCanwake (r : Req) (s : State) : Out := mailboxRow verbNmCanwake r s

end Sys2Proof.Machine
end

