-- ==== Sys2Proof/Machine/Pantry.lean ====
section
/-! DEFINITION. Machine/Pantry.lean: the Pantry of chapter 15: its entries, their checks, the commit, and the signal map with
which entries extract and pack signals (R327-R332, R340, R341). -/

namespace Sys2Proof.Machine

/-- Type of an entry. -/
def eType (e : List Byte) : Nat := u8 e 0
/-- Form of an entry. -/
def eForm (e : List Byte) : Nat := u8 e 1
/-- Channel of an entry. -/
def eChan (e : List Byte) : Nat := u8 e 2
/-- Flags of an entry. -/
def eFlags (e : List Byte) : Nat := u8 e 3

/-- A TX object's head entry. -/
def isHead (e : List Byte) : Bool := eType e == 2 && eForm e == 0

/-- Continuation entries that an object of a data length needs (R340). -/
def contOf (len : Nat) : Nat := if len ≤ 16 then 0 else if len ≤ 48 then 1 else 2

/-- The entries that are not continuations, in index order: a continuation holds payload from its offset 0, so the head
before it tells (R340). -/
def headsFrom : Nat → Tab (List Byte) → List (Nat × List Byte)
  | _, [] => []
  | skip, (i, e) :: t =>
    if i < skip then headsFrom skip t
    else (i, e) :: headsFrom (if isHead e then i + 1 + contOf (u8 e 8) else skip) t

/-- The entries of a Pantry that are not continuations. -/
def heads (p : Tab (List Byte)) : List (Nat × List Byte) := headsFrom 0 p

/-- Entries of a channel with a type, in index order. -/
def State.entries (s : State) (c type : Nat) : List (Nat × List Byte) :=
  (heads s.can.pantry).filter (fun e => eType e.2 == type && eChan e.2 == c)

/-- An entry by index; an absent one is empty. -/
def State.pan (s : State) (i : Nat) : List Byte := tget [] s.can.pantry i

/-- The entry at an index is a TX head. -/
def State.isHeadAt (s : State) (i : Nat) : Bool := (heads s.can.pantry).any (fun e => e.1 == i && isHead e.2)

/-! ### Signal map (R331, R332, R341) -/

/-- The bit positions of a field, least significant first: bit k of byte b is 8b + k. -/
def mapBits (m : List Byte) : List Nat :=
  let start := u16 m 2
  let n := u8 m 4
  if bit (u8 m 5) 0 then
    ((List.range n).map (fun j => let q := 8 * (start / 8) + (7 - start % 8) + j; 8 * (q / 8) + (7 - q % 8))).reverse
  else (List.range n).map (start + ·)

/-- The raw field, if the data is long enough to hold it. -/
def mapRaw (m data : List Byte) : Option Nat :=
  let l := mapBits m
  if l.all (fun b => decide (b < 8 * data.length)) then
    some ((l.zip (List.range l.length)).foldl (fun a (b, j) => if bit (u8 data (b / 8)) (b % 8) then a + 2 ^ j else a) 0)
  else none

/-- value = raw × scale + offset, in binary32 (R332). -/
def mapValue (m : List Byte) (raw : Nat) : F32 :=
  let n := u8 m 4
  let f := u8 m 5
  let v := if bit f 2 then BitVec.ofNat 32 raw else if bit f 1 then fInt (toSigned n raw) else fNat raw
  fAdd (fMul v (f32 m 8)) (f32 m 12)

/-- A signal extracted from a matching frame (R332); a frame too short counts as no frame. Answers whether it was long
enough. -/
def State.extract (s : State) (m data : List Byte) (stamp : Nat) : State × Bool :=
  match mapRaw m data with
  | none => (s, false)
  | some raw =>
    let id := u16 m 0
    let ones := 2 ^ u8 m 4 - 1
    let old := (s.sig id).value
    if bit (u8 m 5) 3 && raw == ones then (s.setSig id old stamp 0, true)
    else if bit (u8 m 5) 3 && raw + 1 == ones then (s.setSig id old stamp fgFault, true)
    else (s.setSig id (mapValue m raw) stamp fgValid, true)

/-- The raw field a signal is packed as (R341): round((value − offset) ÷ scale), clamped; the result for a value that is no
number is not stated and is a free value. -/
def State.packRaw (s : State) (m : List Byte) : State × Nat :=
  let g := s.sig (u16 m 0)
  let n := u8 m 4
  let f := u8 m 5
  let bad := !bit g.flags 0 || bit g.flags 1
  let q := fDiv (fSub g.value (f32 m 12)) (f32 m 8)
  if bad && bit f 3 then (s, 2 ^ n - 1)
  else if bit f 2 then (s, q.toNat % 2 ^ n)
  else if fIsNan q then let (v, s) := s.drawNat; (s, v % 2 ^ n)
  else
    let lo : Int := if bit f 1 then -(2 ^ (n - 1) : Nat) else 0
    let hi : Int := if bit f 1 then (2 ^ (n - 1) : Nat) - 1 else (2 ^ n : Nat) - 1
    let v : Int := if fFinite q then fRound q else if fLt q fZero then lo else hi
    (s, ofSigned n (max lo (min hi v)))

/-- A raw field written into a payload. -/
def putRaw (m : List Byte) (raw : Nat) (p : List Byte) : List Byte :=
  let l := mapBits m
  (l.zip (List.range l.length)).foldl (fun p (b, j) =>
    if b / 8 < p.length then p.set (b / 8) (BitVec.ofNat 8 (setBit (u8 p (b / 8)) (b % 8) (raw.testBit j))) else p) p

/-- The signal packs of a TX object. -/
def State.packsOf (s : State) (idx : Nat) : List (List Byte) :=
  ((heads s.can.pantry).filter (fun e => eType e.2 == 2 && eForm e.2 == 2 && u16 e.2 4 == idx)).map (fun e => slice e.2 16 16)

/-- The channel of a TX object that packs a signal: what carries a bus-mapped release (05 R128). -/
def State.txChannelOf (s : State) (id : Nat) : Option Nat :=
  ((heads s.can.pantry).find? (fun e => eType e.2 == 2 && eForm e.2 == 2 && u16 e.2 16 == id)).map (fun e => eChan e.2)

/-! ### Checks of a write (R330) -/

/-- Data lengths of CAN FD. -/
def isDlc (n : Nat) : Bool := decide (n ≤ 8) || [12, 16, 20, 24, 32, 48, 64].contains n
/-- A power of two up to 64. -/
def isPow (n : Nat) : Bool := [1, 2, 4, 8, 16, 32, 64].contains n

/-- The first true of a list of (failing, offset) pairs. -/
def firstBad (l : List (Bool × Nat)) : Option Nat := (l.find? (·.1)).map (·.2)

/-- A reserved field of `n` bytes at offset `o` whose range a layout gives as 0, and its offset. -/
def resBad (e : List Byte) (o n : Nat) : Bool × Nat := (slice e o n != zeros n, o)

/-- Failing fields of a signal map at an entry's offset 16. -/
def mapBad (m : List Byte) (idBad : Bool) : List (Bool × Nat) :=
  let n := u8 m 4
  let f := u8 m 5
  [(idBad, 16), (decide (u16 m 2 > 511), 18), (decide (n = 0 ∨ n > 32) || (bit f 2 && n != 32), 20), (decide (f > 15), 21), ((resBad m 6 2).1, 22),
   (!fFinite (f32 m 8) || fEq (f32 m 8) fZero, 24), (!fFinite (f32 m 12), 28)]

/-- The schedule that a channel's slots are checked against. -/
def CanCh.slotSched (x : CanCh) : CanSched := x.pendSched.getD x.sched

/-- Offset of the first field of an entry outside its layout, the Pantry after the write taken as `p` (R330 code 1). -/
def State.layoutBad (s : State) (w : Nat) (p : Tab (List Byte)) (e : List Byte) : Option Nat :=
  let ty := eType e
  let fm := eForm e
  let idBad (o : Nat) : Bool := bits (u32 e o) 30 29 != 0
  let hs := heads p
  let m := slice e 16 16
  if ty = 0 then none
  else if ty > 5 then some 0
  else if (ty = 1 ∧ fm > 1) ∨ (ty = 2 ∧ fm > 2) ∨ (ty = 3 ∧ fm > 1) ∨ (ty = 4 ∧ fm > 0) ∨ (ty = 5 ∧ fm > 7) then some 1
  else if eChan e > 7 then some 2
  else match ty, fm with
    | 1, 0 => firstBad [(eFlags e % 4 == 0, 3), (idBad 4, 4), (decide (u16 e 12 > 15), 12), resBad e 14 2]
    | 1, _ => firstBad ([(eFlags e % 4 == 0, 3), (idBad 4, 4), resBad e 14 2] ++ mapBad m (decide (u16 m 0 < 0x400 ∨ u16 m 0 > 0x7FF)))
    | 2, 0 =>
      let n := u8 e 8
      let t := u8 e 9
      let timed := t == 1 || t == 3
      firstBad [(idBad 4, 4), (!isDlc n || (decide (n > 8) && !bit (eFlags e) 1), 8), (decide (t > 3), 9), resBad e 10 2,
        (timed && decide (u16 e 12 = 0 ∨ u16 e 12 > 60000), 12), (t == 1 && decide (u16 e 14 ≥ u16 e 12), 14)]
    | 2, 1 => none
    | 2, _ =>
      let h := u16 e 4
      let same := hs.any (fun q => q.1 == h && isHead q.2 && eChan q.2 == eChan e)
      let many := (hs.filter (fun q => eType q.2 == 2 && eForm q.2 == 2 && u16 q.2 4 == h)).length > 16
      firstBad ([(eFlags e != 0, 3), (!same || many, 4), resBad e 6 10] ++ mapBad m (decide (u16 m 0 > 0xFFF) || !s.sigReadable w (u16 m 0)))
    | 3, _ =>
      let c := (s.canCh (eChan e)).slotSched
      let h := u16 e 10
      let ok := hs.any (fun q => q.1 == h && isHead q.2 && eChan q.2 == eChan e && u8 q.2 9 == 2)
      firstBad [(eFlags e != 0, 3), (decide (u16 e 6 < 10), 6), (!isPow (u8 e 8) || decide (u8 e 8 > c.matrix), 8),
        (decide (u8 e 9 ≥ u8 e 8), 9), (fm == 0 && !ok, 10), resBad e 12 20]
    | 4, _ => firstBad [(idBad 4, 4), (u8 e 12 == 0 || (u8 e 12).testBit (eChan e), 12), resBad e 13 3,
      ((u32 e 16).testBit 31, 16), resBad e 24 8]
    | _, _ =>
      let md := u8 e 12
      firstBad [(idBad 4, 4), (decide (md > 3), 12), resBad e 13 1, ((md == 1 || md == 3) && u16 e 14 == 0, 14)]

/-- A slot is active in a basic cycle (R347). -/
def slotActive (e : List Byte) (cycle : Nat) : Bool := decide (u8 e 8 ≠ 0) && cycle % u8 e 8 == u8 e 9

/-- A control loop produces a bus-mapped signal, or Ethernet does (R330 code 4). -/
def State.sigProduced (s : State) (id : Nat) : Bool :=
  s.loopBinds 3 id || (s.eth.sig.udp != 0 && decide (s.eth.sig.first ≤ id ∧ id ≤ s.eth.sig.last))

/-- The code and offset with which an entry of the Pantry after the write is refused (R330); `lim` is the end of the writer's
range. -/
def State.entryCheck (s : State) (w lim : Nat) (p : Tab (List Byte)) (i : Nat) (e : List Byte) : Option (Nat × Nat) :=
  let hs := heads p
  let c := eChan e
  match s.layoutBad w p e with
  | some o => some (o, 1)
  | none =>
    match eType e with
    | 5 => if (hs.filter (fun q => eType q.2 == 5 && eChan q.2 == c)).length > 8 then some (1, 2) else none
    | 2 => if isHead e ∧ i + contOf (u8 e 8) ≥ lim then some (8, 3) else none
    | 1 =>
      if eForm e = 1 ∧ ((hs.filter (fun q => eType q.2 == 1 && eForm q.2 == 1 && u16 q.2 16 == u16 e 16)).length > 1 ∨
          s.sigProduced (u16 e 16)) then some (16, 4) else none
    | 3 =>
      let sch := (s.canCh c).slotSched
      let lo := u16 e 4
      let hi := lo + u16 e 6
      let slots := hs.filter (fun q => eType q.2 == 3 && eChan q.2 == c)
      let clash := (List.range sch.matrix).any (fun k => slotActive e k &&
        (slots.any (fun q => q.1 != i && slotActive q.2 k && decide (u16 q.2 4 < hi ∧ lo < u16 q.2 4 + u16 q.2 6)) ||
         decide ((slots.filter (fun q => slotActive q.2 k)).length > 256)))
      if hi > sch.cycleUs ∨ clash then some (4, 5) else none
    | _ => none

/-- A Pantry with a run of entries written; an empty entry is absent. -/
def panWrite (p : Tab (List Byte)) (l : List (Nat × List Byte)) : Tab (List Byte) :=
  l.foldl (fun p e => tset [] p e.1 (if e.2.all (· == 0) then [] else e.2)) p

/-- The Pantry as accepted writes leave it. -/
def State.panNext (s : State) : Tab (List Byte) := panWrite s.can.pantry s.can.pendPantry

/-- A partition's Pantry range as [first, end). -/
def State.panRange (s : State) (w : Nat) : Nat × Nat := ((s.decl w).pantryFirst, (s.decl w).pantryFirst + (s.decl w).pantryCount)

/-- The channel an entry belongs to; a continuation belongs to its head's (R340). -/
def State.ownerChan (s : State) (i : Nat) : Nat :=
  match ((heads s.can.pantry).filter (fun e => decide (e.1 ≤ i))).getLast? with | some e => eChan e.2 | none => eChan (s.pan i)

/-- The entries of the region of a CAN.PANTRY write. -/
def State.panRun (s : State) (r : Req) : List (Nat × List Byte) :=
  (List.range (u16 r.payload 4)).map (fun j => (u16 r.payload 2 + j, s.regionRead r.win (u8 r.payload 1) (32 * j) 32))

/-- The entries of a run that are not continuations in the Pantry after it. -/
def headsOf (p : Tab (List Byte)) (run : List (Nat × List Byte)) : List (Nat × List Byte) :=
  (heads p).filter (fun e => run.any (fun q => q.1 == e.1))

/-- CONTROL on every channel an entry names (R329). -/
def State.panRight (s : State) (w : Nat) (e : List Byte) : Bool :=
  eType e == 0 || (s.right w 0x30 (eChan e) true &&
    (eType e != 4 || (List.range 8).all (fun d => !(u8 e 12).testBit d || s.right w 0x30 d true)))

/-- The write's permission (R329): every index in the writer's range, CONTROL on every channel named. -/
def State.panPermitted (s : State) (r : Req) : Bool :=
  if u8 r.payload 0 ≠ 0 then true
  else
    let (lo, hi) := s.panRange r.win
    let run := s.panRun r
    decide (lo ≤ u16 r.payload 2 ∧ u16 r.payload 2 + u16 r.payload 4 ≤ hi) &&
      (headsOf (panWrite s.panNext run) run).all (fun e => s.panRight r.win e.2)

/-- CAN.PANTRY (R329, R330). -/
def verbCanPantry : Verb :=
  { unit := 0x30, verb := 0x11, lenOk := lenIs 8, instOk := inst0, query := false, rt := false,
    perm := some (fun s r => s.panPermitted r),
    body := fun r s =>
      let p := r.payload
      let d := u8 p 1
      let n := u16 p 4
      let bytes := 32 * n
      if u8 p 0 > 1 ∨ n = 0 ∨ u16 p 2 + n > 16384 then (s, stRange, [])
      else match s.regionCheck r.win d bytes with
        | some st => (s, st, [])
        | none =>
          if u8 p 0 = 1 then
            let out := ((List.range n).map (fun j =>
              let e := s.pan (u16 p 2 + j)
              if s.right r.win 0x30 (s.ownerChan (u16 p 2 + j)) false then slice e 0 32 else zeros 32)).flatten
            ((s.regionWrite r.win d 0 out).regionDone r.win d r.tag bytes true, stDone, [])
          else
            let run := s.panRun r
            let next := panWrite s.panNext run
            let s := s.regionDone r.win d r.tag bytes false
            match (headsOf next run).findSome? (fun e => (s.entryCheck r.win (s.panRange r.win).2 next e.1 e.2).map (fun c => (e.1, c.1, c.2))) with
            | some (i, o, c) => (s, if c = 4 then stBusy else stRange, b16 i ++ b8 o ++ b8 c)
            | none => (({ s with can.pendPantry := s.can.pendPantry ++ run } : State).dirty, stDone, []) }

/-- CAN.PANTRY -/
def execCanPantry (r : Req) (s : State) : Out := mailboxRow verbCanPantry r s

/-- The state of entries that a commit replaces (R330, R337): matches and timeouts start afresh, pending requests are
withdrawn with BUSY to their confirmations. -/
def State.panReplaced (s : State) (i : Nat) : State :=
  let e := s.pan i
  let t := tget TxState.reset s.can.tx i
  let s := if eType e = 5 then s.modCan (eChan e) (fun x => { x with hpms := tset HpMatch.reset x.hpms (eForm e) HpMatch.reset }) else s
  let s := { s with can.sigTimeouts := tset 0 s.can.sigTimeouts i 0 }
  let s := t.confirm.foldl (fun (s : State) o => s.complete o.2 0x30 (eChan e) (185 + eChan e) 0x6006 stBusy i 0) s
  { s with can.tx := tset TxState.reset s.can.tx i TxState.reset }

/-- Entries take effect now: a timeout match without a frame counts from the commit, a signal timeout too (R332, R337). -/
def State.panStart (s : State) (i : Nat) : State :=
  let e := s.pan i
  if eType e = 5 then
    s.modCan (eChan e) (fun x => { x with hpms := tmod HpMatch.reset x.hpms (eForm e) (fun h => { h with lastAt := some s.hw }) })
  else if eType e = 1 ∧ eForm e = 1 ∧ u16 e 12 ≠ 0 then { s with can.sigTimeouts := tset 0 s.can.sigTimeouts i (s.hw + 1) }
  else s

/-- A run of entries is committed (R330). -/
def State.panCommit (s : State) (run : List (Nat × List Byte)) : State :=
  let idx := (run.map (·.1)).eraseDups
  let was := heads s.can.pantry
  let s := (idx.filter (fun i => was.any (fun e => e.1 == i))).foldl State.panReplaced s
  let s := { s with can.pantry := panWrite s.can.pantry run }
  let now := heads s.can.pantry
  (idx.filter (fun i => now.any (fun e => e.1 == i))).foldl State.panStart s

/-- CAN_PANTRY_COMMIT (R330): the accepted writes are committed. -/
def execCanPantryCommit (s : State) : Out :=
  .next (if !s.operating then s else ({ s with can.pendPantry := [] } : State).panCommit s.can.pendPantry)

/-- A Pantry table of the active set fills its owner's range from its first index (R328). -/
def State.pantryLoad (s : State) (first : Nat) (data : List Byte) : State :=
  (s.panCommit ((List.range (data.length / 32)).map (fun j => (first + j, slice data (32 * j) 32)))).dirty

end Sys2Proof.Machine
end

