-- ==== Sys2Proof/Machine/Ctrl.lean ====
section
/-! DEFINITION. Machine/Ctrl.lean: the control engine (05): samples, run-ahead, miss work and staging, loading with its
budget checks, traces and host-assisted loops. Sums are accumulated by fused multiply-adds in ascending index (log entry 6). -/

namespace Sys2Proof.Machine

/-- A slot. -/
def State.loop (s : State) (n : Nat) : LoopSlot := tget LoopSlot.reset s.ctrl.slots n
/-- Change a slot. -/
def State.modLoop (s : State) (n : Nat) (f : LoopSlot → LoopSlot) : State :=
  { s with ctrl.slots := tmod LoopSlot.reset s.ctrl.slots n f }
/-- A trace buffer. -/
def State.trace (s : State) (b : Nat) : Trace := tget Trace.reset s.ctrl.traces b
/-- Change a trace buffer. -/
def State.modTrace (s : State) (b : Nat) (f : Trace → Trace) : State :=
  { s with ctrl.traces := tmod Trace.reset s.ctrl.traces b f }

/-- The key of a loop's host function. -/
def ctrlKey (n : Nat) : Nat := hostKey 0x20 0 n
/-- The slot computes host-assisted now: not under host safe action 3. -/
def State.loopHost (s : State) (n : Nat) : Bool := s.isHost (ctrlKey n) && !(s.loop n).hostHw
/-- The event source of a slot (R154). -/
def ctrlSrc (n : Nat) : Nat := 48 + n

/-- Element of a vector. -/
def vAt (l : List F32) (i : Nat) : F32 := l.getD i fZero

/-- `acc + Σ m[i, j] · x[j]` over j < n, row i of a matrix stored `w` to a row. -/
def rowFma (m x : List F32) (w i n : Nat) (acc : F32) : F32 :=
  (List.range n).foldl (fun a j => fFma (vAt m (w * i + j)) (vAt x j) a) acc

/-- x̂ = x_pred + L e (R125). -/
def LoopRec.correct (c : LoopRec) (xpred e : List F32) : List F32 :=
  (List.range c.n).map (fun i => rowFma c.ll e 4 i c.m (vAt xpred i))

/-- ŷ = C x. -/
def LoopRec.outputOf (c : LoopRec) (x : List F32) : List F32 := (List.range c.m).map (fun i => rowFma c.c x 8 i c.n fZero)

/-- clamp(−K x), and whether an element was clamped (R125, R128). -/
def LoopRec.control (c : LoopRec) (x : List F32) : List F32 × Bool :=
  let l := (List.range c.p).map (fun i =>
    let b := c.binds.getD i LoopBind.reset
    clampF (fNeg (rowFma c.kk x 8 i c.n fZero)) b.min b.max)
  (l.map (·.1), l.any (·.2))

/-- x_pred = A x̂ + B u_a + E r_eff (R125). -/
def LoopRec.predict (c : LoopRec) (x ua r : List F32) : List F32 :=
  (List.range c.n).map (fun i => rowFma c.e r 4 i c.r (rowFma c.b ua 4 i c.p (rowFma c.a x 8 i c.n fZero)))

/-- ⌈a / b⌉. -/
def ceilDiv (a b : Nat) : Nat := (a + b - 1) / b

/-- Miss work in cycles (R133). -/
def LoopRec.workM (c : LoopRec) : Nat := ceilDiv (2 * c.n * c.m) 8 + ceilDiv (c.p * c.n) 8 + 10
/-- Prediction and staging in cycles (R133). -/
def LoopRec.workQ (c : LoopRec) : Nat := ceilDiv (c.n * c.n + c.n * c.p + c.n * c.r + c.m * c.n + c.p * c.n) 8 + 6
/-- Correction in cycles (R133). -/
def LoopRec.workC (c : LoopRec) : Nat := ceilDiv (2 * c.n * c.m) 8 + 4

/-- The miss deadline in ns (R135). -/
def LoopRec.dmNs (c : LoopRec) : Nat := if c.prio = 0 then 900 else c.dm

/-! ### Nodes, exports and traces (R129, R146) -/

/-- The value of a node. -/
def LoopSlot.node (x : LoopSlot) (code : Nat) : F32 :=
  if code < 0x08 then vAt x.xhat code
  else if code < 0x0C then vAt x.y (code - 0x08)
  else if code < 0x10 then vAt x.e (code - 0x0C)
  else if code < 0x14 then vAt x.u (code - 0x10)
  else if code < 0x18 then vAt x.ustg (code - 0x14)
  else if code < 0x1C then vAt x.reff (code - 0x18)
  else if code = 0x1C then x.d2
  else if code = 0x1D then (if x.hit then fOne else fZero)
  else if code = 0x1E then fNat x.delay
  else fNat x.state

/-- The exports of a slot, stamped with the release instant (R129). -/
def State.exports (s : State) (n : Nat) : State :=
  let x := s.loop n
  match x.cfg with
  | none => s
  | some c =>
    let h := s.hostFn (ctrlKey n)
    let held := s.loopHost n && decide (h.misses > 0) && !h.inSafe
    let fl := flagsOf true false false (x.state == 4) (held && x.state != 4) false
    (List.range 4).foldl (fun (s : State) i => s.setSig (0x100 + 4 * n + i) (x.node (c.exports.getD i 0)) x.relAt fl) s

/-- A trace buffer stops: CTRL/TRACE_DONE. -/
def State.traceStop (s : State) (b : Nat) : State :=
  let t := s.trace b
  let s := s.modTrace b (fun t => { t with armed := false })
  s.post 0x20 t.slot (ctrlSrc t.slot) 0x2008 t.slot b t.entries.length t.trigK

/-- A trigger happens for the buffers that trace the slot. -/
def State.traceTrig (s : State) (n trig : Nat) : State :=
  (List.range 8).foldl (fun (s : State) b =>
    let t := s.trace b
    if t.armed ∧ t.slot = n ∧ t.trigger = trig ∧ !t.fired then
      let s := s.modTrace b (fun t => { t with fired := true, left := t.post, trigK := (s.loop n).k % 2 ^ 32 })
      if t.post = 0 then s.traceStop b else s
    else s) s

/-- The buffers that trace the slot record a sample. -/
def State.traceSample (s : State) (n : Nat) : State :=
  (List.range 8).foldl (fun (s : State) b =>
    let t := s.trace b
    if !(t.armed && t.slot == n) then s
    else if t.phase + 1 < t.d then s.modTrace b (fun t => { t with phase := t.phase + 1 })
    else
      let s := s.modTrace b (fun t =>
        { t with phase := 0, entries := (t.entries ++ [((s.loop n).node t.node, (s.loop n).k % 2 ^ 32)]).drop (t.entries.length + 1 - 4096),
                 left := if t.fired then t.left - 1 else t.left })
      let t := s.trace b
      if (t.trigger = 0 ∧ t.entries.length ≥ 4096) ∨ (t.fired ∧ t.left = 0) then s.traceStop b else s) s

/-! ### States (R137-R142) -/

/-- A slot changes state: CTRL/STATE. -/
def State.slotState (s : State) (n new cause : Nat) : State :=
  let old := (s.loop n).state
  if old = new then s
  else
    let s := s.modLoop n (fun x => { x with state := new })
    (s.post 0x20 n (ctrlSrc n) 0x2001 n old new cause).traceTrig n 3

/-- Each binding of a slot with its index. -/
def LoopRec.bindList (c : LoopRec) : List (Nat × LoopBind) := (List.range c.p).map (fun i => (i, c.binds.getD i LoopBind.reset))

/-- Release the values `v` to the bindings. -/
def State.releaseAll (s : State) (c : LoopRec) (v : List F32) : State :=
  c.bindList.foldl (fun (s : State) e => s.release e.2.kind e.2.target (vAt v e.1)) s

/-- The actuators follow their mailbox values. -/
def State.unreleaseAll (s : State) (c : LoopRec) : State :=
  c.bindList.foldl (fun (s : State) e => s.unrelease e.2.kind e.2.target) s

/-- The value an actuator has now. -/
def State.actNow (s : State) (kind target : Nat) : F32 :=
  match kind with | 1 => s.valveApplied target | 2 => (s.out target).duty | _ => (s.sig target).value

/-- The applied values u_a (R127): what was released, or what a higher path imposes; with nothing released, what the
actuators have. -/
def State.applied (s : State) (c : LoopRec) (u : Option (List F32)) : List F32 :=
  c.bindList.map (fun e => match u with
    | some v => s.actApplied e.2.kind e.2.target (vAt v e.1)
    | none => s.actNow e.2.kind e.2.target)

/-- The safe action of a slot in SAFE at a release (R140). -/
def State.safeRelease (s : State) (n : Nat) (c : LoopRec) (act : Nat) : State :=
  let x := s.loop n
  match act with
  | 0 => if x.released then (s.releaseAll c x.u).modLoop n (fun x => { x with ua := [] }) else s.unreleaseAll c
  | 1 => (s.releaseAll c []).modLoop n (fun x => { x with u := List.replicate c.p fZero, uClamped := false, released := true })
  | _ => (s.unreleaseAll c).modLoop n (fun x => { x with uClamped := false })

/-- A non-finite value (R142): SAFE at once, CTRL/NUMERIC, nothing of it released. -/
def State.numeric (s : State) (n node : Nat) : State :=
  match (s.loop n).cfg with
  | none => s
  | some c =>
    let s := s.modLoop n (fun x => { x with cause := 3, missPending := false, goSafe := 0 })
    let s := s.raiseEv 0x20 n (ctrlSrc n) 0x2004 5 n node ((s.loop n).k % 2 ^ 32) 0
    (s.slotState n 4 3).safeRelease n c c.safeAct

/-- The first non-finite element of a list, as a node code from `base`. -/
def badNode (l : List F32) (base : Nat) : Option Nat := (l.findIdx? (fun v => !fFinite v)).map (base + ·)

/-- The release of a sample at instant `at_` with values `u` (R129, R140): SAFE follows when the sample asked for it. -/
def State.doRelease (s : State) (n : Nat) (c : LoopRec) (u : List F32) (clamped : Bool) (at_ : Nat) : State :=
  let s := s.waitTo at_
  let s := s.modLoop n (fun x =>
    { x with u := u, uClamped := clamped, released := true, relAt := at_, delay := at_ - x.tk, delayMax := max x.delayMax (at_ - x.tk),
             missPending := false })
  let s := s.releaseAll c u
  let go := (s.loop n).goSafe
  if go = 0 then s
  else (s.modLoop n (fun x => { x with goSafe := 0, cause := go })).slotState n 4 go

/-- Miss work of a slot ends and u is released (R125, R133, R134, R136); `late` ns later only with a hardware fault. -/
def State.doMiss (s : State) (n late : Nat) : State :=
  let x := s.loop n
  match x.cfg with
  | none => s
  | some c =>
    if !x.missPending then s
    else
      let rel := max (x.tk + 12) s.ctrl.laneFree + 4 * c.workM + late
      let s := { s with ctrl.laneFree := rel }
      let xhat := c.correct x.xpred x.e
      let s := s.modLoop n (fun x => { x with xhat := xhat, hit := false, corrected := true })
      match badNode xhat 0 with
      | some nd => (s.modLoop n (fun x => { x with relAt := rel })).numeric n nd
      | none =>
        let (u, cl) := c.control xhat
        match badNode u 0x10 with
        | some nd => (s.modLoop n (fun x => { x with relAt := rel })).numeric n nd
        | none =>
          let s := s.doRelease n c u cl rel
          if rel - x.tk > c.dmNs then
            s.raiseEv 0x20 n (ctrlSrc n) 0x2005 6 n (rel - x.tk) c.dmNs (x.k % 2 ^ 32)
          else s

/-- One reference moves toward its set-point (R139): at most ρ · P, or at once for ρ = 0 or a step. -/
def moveRef (rho : F32) (periodUs : Nat) (cur goal : F32) (step : Bool) : F32 :=
  let d := fSub goal cur
  let lim := fMul rho (fFrac periodUs 1000000)
  if step || fEq rho fZero || fLe (fAbs d) lim then goal
  else if fLt fZero d then fAdd cur lim else fSub cur lim

/-- The references of a sample (R138, R139): in SAFE they are held. -/
def State.stepRefs (s : State) (n : Nat) (c : LoopRec) : State :=
  let x := s.loop n
  if x.state ≠ 2 ∧ x.state ≠ 3 then s
  else
    let cx := c.outputOf x.xhat
    let s := (List.range c.r).foldl (fun (s : State) j =>
      let x := s.loop n
      let q := c.refs.getD j LoopRef.reset
      let goal := vAt x.setpt j
      let cur := if x.first then vAt cx q.row else vAt x.reff j
      let v := if x.first then cur else moveRef q.rho c.periodUs cur goal (x.stepNow.getD j false)
      let was := x.arrived.getD j false
      let now' := fEq v goal
      let s := s.modLoop n (fun x => { x with reff := listSet fZero x.reff j v, arrived := listSet false x.arrived j now',
                                              stepNow := listSet false x.stepNow j false })
      if now' && !was then s.post 0x20 n (ctrlSrc n) 0x2006 n j goal.toNat 0 else s) s
    let s := s.modLoop n (fun x => { x with first := false })
    let x := s.loop n
    if x.state = 2 ∧ (List.range c.r).all (fun j => x.arrived.getD j false) then s.slotState n 3 5 else s

/-- The first non-finite value of a prediction: x̂, then ustg, then ŷ, which has no node of its own and is named by its
measurement's (R142; log entry 56). -/
def badStaged (xhat us yhat : List F32) : Option Nat :=
  (badNode xhat 0).orElse fun _ => (badNode us 0x14).orElse fun _ => badNode yhat 0x08

/-- Background correction, prediction and staging of a slot end (R125, R133). A host-assisted loop under host safe action 2
predicts with what its actuators have, as in SAFE under action 2 (R147). -/
def State.doStage (s : State) (n : Nat) : State :=
  let x := s.loop n
  match x.cfg with
  | none => s
  | some c =>
    if !x.stagePending || x.missPending then s
    else
      let work := c.workQ + (if x.corrected then 0 else c.workC)
      let done := max x.relAt s.ctrl.laneFree + 4 * work
      let s := ({ s with ctrl.laneFree := done } : State).waitTo done
      let xhat := if x.corrected then x.xhat else c.correct x.xpred x.e
      let s := s.modLoop n (fun x => { x with xhat := xhat, stagePending := false, corrected := true })
      let manual := (x.state == 4 && decide (c.safeAct ≥ 2)) ||
        (s.loopHost n && (s.hostFn (ctrlKey n)).inSafe && c.hostSafe == 2)
      let ua := s.applied c (if x.released && !manual then some (s.loop n).u else none)
      let ovr := c.bindList.any (fun e => s.actOverridden e.2.kind e.2.target)
      let s := (s.modLoop n (fun x => { x with ua := ua })).stepRefs n c
      let xp := c.predict xhat ua (s.loop n).reff
      let hold := bit c.flags 0 && ((s.loop n).uClamped || ovr)
      let xp := (List.range c.n).map (fun i => if hold && c.imask.testBit i then vAt xhat i else vAt xp i)
      let (us, cl) := c.control xp
      let yhat := c.outputOf xp
      let s := s.modLoop n (fun x => { x with xpred := xp, ustg := us, stgClamped := cl, yhat := yhat })
      let s := match badStaged xhat us yhat with
        | some nd => if (s.loop n).state = 4 then s else s.numeric n nd
        | none => s
      (s.exports n).traceSample n

/-! ### The lanes (R133, R134) -/

/-- The next item of a slot for the lanes: the instant from which it is ready, and its rank in the order of R134 (miss work by
priority and slot, then background work by next sample instant). The staging of a host-assisted sample waits for its release
or for the judgement of its miss, which gives the exports their stamp (R129). -/
def State.laneItem (s : State) (n : Nat) : Option (Nat × Nat) :=
  let x := s.loop n
  match x.cfg with
  | none => none
  | some c =>
    if x.missPending then some (x.tk + 12, 64 * c.prio + n)
    else if x.stagePending && (x.state == 4 || !s.loopHost n || ((s.hostFn (ctrlKey n)).got && x.hostU.isNone)) then
      some (x.relAt, 256 + 64 * (x.tk + 1000 * c.periodUs) + n)
    else none

/-- The slot whose item the lanes run next: of the items ready when the lanes fall free, or else at the first instant at which
one is, the first in the order of R134. -/
def State.lanePick (s : State) : Option Nat :=
  let items := s.ctrl.slots.filterMap (fun e => s.laneItem e.1)
  match items.map (·.1) with
  | [] => none
  | r :: l =>
    let start := max s.ctrl.laneFree (l.foldl min r)
    match (items.filter (fun e => decide (e.1 ≤ start))).map (·.2) with
    | [] => none
    | k :: l => some (l.foldl min k % 64)

/-- The lanes run the items that come before slot `n`'s. -/
def State.laneTo (n : Nat) : Nat → State → State
  | 0, s => s
  | f + 1, s =>
    match s.lanePick with
    | none => s
    | some m => if m = n then s else State.laneTo n f (if (s.loop m).missPending then s.doMiss m 0 else s.doStage m)

/-- The slot's miss work ends in its turn, `late` ns late only with a hardware fault. -/
def State.laneMiss (s : State) (n late : Nat) : State :=
  if (s.loop n).missPending then (State.laneTo n 128 s).doMiss n late else s

/-- Whatever the slot's last sample still has queued ends first. -/
def State.settle (s : State) (n : Nat) : State :=
  let s := s.laneMiss n 0
  (if (s.laneItem n).isSome then State.laneTo n 128 s else s).doStage n

/-! ### A sample (R125, R126, R130, R138, R140, R141) -/

/-- The references with a signal source take its value while it is valid and not stale. -/
def State.latchRefs (s : State) (n : Nat) (c : LoopRec) : State :=
  (List.range c.r).foldl (fun (s : State) j =>
    let q := c.refs.getD j LoopRef.reset
    if q.src = 0xFFFF then s
    else
      let g := s.sigLatched (s.loop n).tk q.src
      if bit g.flags 0 && !bit g.flags 1 && !fEq g.value (vAt (s.loop n).setpt j) then
        s.modLoop n (fun x => { x with setpt := listSet fZero x.setpt j g.value, arrived := listSet false x.arrived j false })
      else s) s

/-- Inputs latched: y, e, d² (R125, R126). Answers whether every measurement is valid. -/
def State.latch (s : State) (n : Nat) (c : LoopRec) : State × Bool :=
  let x := s.loop n
  let oks := (List.range c.m).map (fun i =>
    let g := s.sigLatched x.tk (c.meas.getD i 0)
    bit g.flags 0 && !bit g.flags 1)
  let y := (List.range c.m).map (fun i => fSub (s.sigLatched x.tk (c.meas.getD i 0)).value (vAt c.offs i))
  let e := (List.range c.m).map (fun i => if oks.getD i false then fSub (vAt y i) (vAt x.yhat i) else fZero)
  let d2 := (List.range c.m).foldl (fun a i => let t := fMul (vAt c.sinv i) (vAt e i); fFma t t a) fZero
  let inv := (List.range c.m).map (fun i => if oks.getD i false then 0 else satAdd 8 (x.invCounts.getD i 0) 1)
  (s.modLoop n (fun x => { x with y := y, e := e, d2 := d2, d2Max := fMax x.d2Max d2, invCounts := inv,
                                  samples := (x.samples + 1) % 2 ^ 32,
                                  invalid := if oks.all id then x.invalid else (x.invalid + 1) % 2 ^ 32 }), oks.all id)

/-- Plausibility and input-invalid limits of a sample (R140, R141). -/
def State.plausible (s : State) (n : Nat) (c : LoopRec) (allOk : Bool) : State :=
  let x := s.loop n
  if x.state ≠ 2 ∧ x.state ≠ 3 then s
  else
    let far := fLt (fMul c.gPl c.gPl) x.d2
    let cnt := if !allOk then x.plCount else if far then x.plCount + 1 else 0
    let s := s.modLoop n (fun x => { x with plCount := cnt })
    let s := if allOk && far && decide (cnt ≥ c.npl) then
        ((s.modLoop n (fun x => { x with goSafe := 1 })).raiseEv 0x20 n (ctrlSrc n) 0x2002 4 n x.d2.toNat cnt (x.k % 2 ^ 32)).traceTrig n 2
      else s
    ((List.range c.m).filter (fun i => decide (x.invCounts.getD i 0 ≥ c.minv))).foldl (fun (s : State) i =>
      let s := s.raiseEv 0x20 n (ctrlSrc n) 0x2003 3 n i (c.meas.getD i 0) (x.invCounts.getD i 0)
      s.modLoop n (fun x => { x with goSafe := if x.goSafe = 0 then 2 else x.goSafe })) s

/-- CTRL/MISS_RATE (R154). -/
def State.missRate (s : State) (n : Nat) (c : LoopRec) (miss : Bool) : State :=
  let s := s.modLoop n (fun x => { x with rateWin := (x.rateWin.filter (fun e => decide (x.tk < e.1 + 1000000000))) ++ [(x.tk, miss)] })
  let x := s.loop n
  let m := (x.rateWin.filter (·.2)).length
  let due : Bool := match x.rateAt with | none => true | some t => decide (s.hw ≥ t + 10000000000)
  if c.missPct ≠ 0 ∧ m * 100 > c.missPct * x.rateWin.length ∧ due then
    (s.modLoop n (fun x => { x with rateAt := some s.hw })).post 0x20 n (ctrlSrc n) 0x2007 n m x.rateWin.length 0
  else s

/-- The host sample record (R148). -/
def State.hostRecord (s : State) (n : Nat) (c : LoopRec) : List Byte :=
  let x := s.loop n
  let k := b32 (x.k % 2 ^ 32)
  k ++ b32 0 ++ b64 x.tk ++ (List.range 4).flatMap (fun i => bF (vAt x.y i)) ++
    (List.range 4).flatMap (fun i => b8 (if i < c.m then (s.sigLatched x.tk (c.meas.getD i 0)).flags else 0)) ++ b8 x.state ++ zeros 3 ++
    (List.range 4).flatMap (fun i => bF (vAt x.reff i)) ++ zeros 4 ++ k

/-- The effect of a judged miss of a host-assisted loop (R149, R150): the host safe action once it applies. What action 0 or 1
releases is released at the judgement, which gives the exports their stamp and node 0x1E its delay (R129). -/
def State.ctrlMiss (s : State) (n : Nat) : State :=
  match (s.loop n).cfg with
  | none => s
  | some c =>
    if !(s.hostFn (ctrlKey n)).inSafe || (s.loop n).hostHw || (s.loop n).state == 4 then s
    else match c.hostSafe with
      | 3 => s.modLoop n (fun x => { x with hostHw := true, forced := true, hostU := none })
      | a => (s.safeRelease n c a).modLoop n (fun x =>
          if a = 2 then { x with hostU := none }
          else { x with hostU := none, relAt := s.hw, delay := s.hw - x.tk, delayMax := max x.delayMax (s.hw - x.tk) })

/-- The record a slot takes and the state it enters at a sample instant (R132, R137, R143). The SAFE that the sample before asked
for is entered now if no release of that sample, which a host has missed, has brought it (R140). -/
def State.slotEnter (s : State) (n : Nat) : State :=
  let go := (s.loop n).goSafe
  let s := if go = 0 then s else (s.modLoop n (fun x => { x with goSafe := 0, cause := go })).slotState n 4 go
  let s := match (s.loop n).pend with
    | some c => s.modLoop n (fun x => { x with cfg := some c, pend := none, forced := true })
    | none => s
  let x := s.loop n
  match x.cfg with
  | none => s
  | some c =>
    let s := s.modLoop n (fun x => { x with enableReq := 0 })
    match x.enableReq with
    | 0 => s
    | 3 =>
      let s := (s.unreleaseAll c).slotState n 1 0
      (s.zeroSigs (0x100 + 4 * n) (0x103 + 4 * n)).modLoop n (fun x =>
        { x with goSafe := 0, cause := 0, missPending := false, stagePending := false, released := false, hostU := none, hostUOld := false, hostHw := false })
    | e =>
      let s := s.modLoop n (fun x =>
        { x with xhat := if e = 1 then c.x0 else x.xhat, xpred := if e = 1 then c.x0 else x.xpred,
                 yhat := if e = 1 then c.outputOf c.x0 else x.yhat, forced := true, first := true, released := false,
                 samples := 0, misses := 0, invalid := 0, d2 := fZero, d2Max := fZero, delayMax := 0, cause := 0, plCount := 0,
                 invCounts := [], goSafe := 0, arrived := [], stepNow := [], reff := [], rateWin := [] })
      s.slotState n 2 0

/-- A sample of a host-assisted slot, under host safe action 3 as well: a result past its deadline is judged, one that a checkpoint
stop gives more time stays awaited (01 R35), as a release at t_k + D does, the record is written and the period
issued (R148, R150). -/
def State.loopBlock (s : State) (n : Nat) (c : LoopRec) : State :=
  let key := ctrlKey n
  let x := s.loop n
  let h := s.hostFn key
  let s := if x.hostU.isSome && !x.hostUOld && decide (s.hw < h.due) then
      (s.modHost key (fun h => { h with ptk := h.tk, pd := h.d })).modLoop n (fun x => { x with hostUOld := true })
    else s.hostTurn key (fun s => s.ctrlMiss n)
  let b := s.ctrl.hostBuf
  let s := (s.regionWrite b.win b.a (64 * n) (s.hostRecord n c)).regionDone b.win b.a b.tag 64 true
  let s := s.hostPeriod key x.tk (c.hostD * 1000) (c.periodUs * 1000)
  s.modHost key (fun h => { h with k := x.k % 2 ^ 32 })

/-- The slot's next sample instant k·P + φ (R124). Each slot has its own gate unit: that another slot has sampled at the instant and
made its release 12 ns later does not make this one miss it (R130). -/
def State.sampleAt (s : State) (n : Nat) (c : LoopRec) : Nat :=
  let p := c.periodUs * 1000
  let f := c.phaseUs * 1000
  let next (t : Nat) : Nat := if t ≤ f then f else f + (t - f + p - 1) / p * p
  let back := next (s.hw - 12)
  let t := if s.ctrl.slots.any (fun e => decide (e.2.tk = back ∧ 2 ≤ e.2.state)) then back else next s.hw
  if tget 0 s.time.ticks (71 + 1000 * n) = t + 1 then next (max (t + p) s.hw) else t

/-- LOOP_SAMPLE (R124, R125): the slot samples at its next k·P + φ. A disabling takes effect here, and with the last loop's the
unit's clock is gated (01 R19). -/
def execLoopSample (slot : Nat) (s : State) : Out :=
  .next (
    match (s.loop slot).cfg with
    | none => s
    | some c0 =>
      if !s.running 0x20 0 || slot ≥ 64 then s
      else
        let n := slot
        let s := s.settle n
        let tk := s.sampleAt n c0
        let s := s.waitTo tk
        let s := { s with time.ticks := tset 0 s.time.ticks (71 + 1000 * n) (tk + 1) }
        let s := s.modLoop n (fun x => { x with tk := tk, k := (tk - c0.phaseUs * 1000) / (c0.periodUs * 1000) })
        let s := s.gateIdle (s.slotEnter n) 0x20 0
        let x := s.loop n
        match x.cfg with
        | none => s
        | some c =>
          let s := s.latchRefs n c
          if x.state < 2 then s
          else
            let (s, allOk) := s.latch n c
            let s := s.plausible n c allOk
            let s := s.modLoop n (fun x => { x with stagePending := true, hit := false, corrected := false })
            let s := if s.isHost (ctrlKey n) then s.loopBlock n c else s
            let x := s.loop n
            if s.loopHost n && x.state != 4 then s.modLoop n (fun x => { x with relAt := tk })
            else if x.state = 4 then
              (s.waitTo (tk + 12)).modLoop n (fun x => { x with relAt := tk + 12, delay := 12 }) |>.safeRelease n c c.safeAct
            else
              let isHit := !x.forced && fLt fZero c.gRun && fLe x.d2 (fMul c.gRun c.gRun)
              let s := s.modLoop n (fun x => { x with forced := false, hit := isHit,
                                                      misses := if isHit then x.misses else (x.misses + 1) % 2 ^ 32 })
              let s := if isHit then s.doRelease n c x.ustg x.stgClamped (tk + 12)
                else (s.modLoop n (fun x => { x with missPending := true })).traceTrig n 1
              s.missRate n c (!isHit))

/-- MISS_RELEASE (R134, R136): the slot's miss work ends in its turn on the lanes; `delay` ns beyond the schedule only after a
hardware fault. -/
def execMissRelease (slot delay : Nat) (s : State) : Out :=
  .next (if s.running 0x20 0 then s.laneMiss slot delay else s)

/-- STAGING_DONE (R133, R134): the slot's queued work ends in its turn; of a host-assisted sample that awaits its result nothing is
queued yet. -/
def execStagingDone (slot : Nat) (s : State) : Out :=
  .next (if s.running 0x20 0 && (s.laneItem slot).isSome then s.settle slot else s)

/-! ### Host-assisted loops (R147-R150) -/

/-- A host value is released (R149). -/
def State.hostRelease (s : State) (n : Nat) (c : LoopRec) (u : List F32) : State :=
  let l := c.bindList.map (fun e => clampF (vAt u e.1) e.2.min e.2.max)
  s.doRelease n c (l.map (·.1)) (l.any (·.2)) s.hw

/-- When an accepted value with the host-release flag is released: at the t_k + D of its sample (R149, 01 R35). -/
def State.hostReleaseAt (s : State) (n : Nat) : Nat :=
  let h := s.hostFn (ctrlKey n)
  if (s.loop n).hostUOld then h.ptk + h.pd else h.due

/-- CTRL_HOST_RELEASE (R149): with the host-release flag the accepted value is released at t_k + D. -/
def execCtrlHostRelease (slot : Nat) (s : State) : Out :=
  .next (
    match (s.loop slot).cfg, (s.loop slot).hostU with
    | some c, some u =>
      if !s.running 0x20 0 || (s.loop slot).state == 4 || !s.loopHost slot then s
      else
        let s := s.waitTo (s.hostReleaseAt slot)
        (s.modLoop slot (fun x => { x with hostU := none, hostUOld := false })).hostRelease slot c u
    | _, _ => s)

/-- CTRL.U (R149). The result of the sample before counts as on time while a checkpoint stop holds its deadline open (01 R35). A slot the window does not hold host-assisted is OUT_OF_RANGE. -/
def verbCtrlU : Verb :=
  { unit := 0x20, verb := 0x21, lenOk := lenIs 20, instOk := instLt 64, query := false, rt := true, perm := none,
    body := fun r s =>
      let n := r.inst
      let key := ctrlKey n
      let h := s.hostFn key
      let k := u32 r.payload 0
      let u := f32s r.payload 4 4
      match (s.loop n).cfg with
      | none => (s, stRange, [])
      | some c =>
        if !h.host || h.owner != r.win || k > h.k || !u.all fFinite then (s, stRange, [])
        else if !s.hostInTime key k && !s.prevInTime key k then (s, stDeadline, [])
        else
          let old := s.prevInTime key k
          let (s, go) := if old then s.prevResult key else s.hostResult key
          let x := s.loop n
          if !go || !(x.state == 2 || x.state == 3) then (s, stDone, [])
          else
            let s := s.modLoop n (fun x => { x with hostHw := false, missPending := false })
            if bit c.flags 1 then (s.modLoop n (fun x => { x with hostU := some u, hostUOld := old }), stDone, [])
            else ((s.waitTo (s.hw + 12)).hostRelease n c u, stDone, []) }

/-- CTRL.HOSTBUF (R148). -/
def verbCtrlHostbuf : Verb :=
  { unit := 0x20, verb := 0x20, lenOk := lenIs 4, instOk := inst0, query := false, rt := false, perm := none,
    body := fun r s =>
      let d := u8 r.payload 0
      if (List.range 64).any (fun n => s.isHost (ctrlKey n) || (s.hostFn (ctrlKey n)).pending == some true) then (s, stBusy, [])
      else match s.regionCheck r.win d 4096 with
        | some st => (s, st, [])
        | none =>
          (({ s with ctrl.hostBuf := { HostBuf.reset with set := true, win := r.win, tag := r.tag, a := d } } : State).dirty, stDone, []) }

/-- What KEEPER.MODE asks of a slot (R147, R148). -/
def State.ctrlModeOk (s : State) (n : Nat) : Bool :=
  s.ctrl.hostBuf.set && (match (s.loop n).cfg with | some c => decide (c.periodUs ≥ 1000) | none => false)

/-! ### CTRL.LOAD (R135, R143, R144) -/

/-- A loop record read from its 1,152 bytes. -/
def loopRecOf (p : List Byte) (o : Nat) : LoopRec :=
  { n := u8 p o, m := u8 p (o + 1), p := u8 p (o + 2), r := u8 p (o + 3), imask := u8 p (o + 4), prio := u8 p (o + 5),
    npl := u8 p (o + 6), safeAct := u8 p (o + 7), periodUs := u32 p (o + 8), phaseUs := u32 p (o + 12), dm := u32 p (o + 16),
    gRun := f32 p (o + 20), gPl := f32 p (o + 24), minv := u8 p (o + 28), flags := u8 p (o + 29), hostSafe := u8 p (o + 30),
    missPct := u8 p (o + 31), exports := (List.range 4).map (fun i => u8 p (o + 32 + i)), hostD := u32 p (o + 36),
    meas := u16s p (o + 40) 4, offs := f32s p (o + 48) 4, sinv := f32s p (o + 64) 4,
    binds := (List.range 4).map (fun i =>
      { kind := u8 p (o + 80 + 12 * i), target := u16 p (o + 82 + 12 * i), min := f32 p (o + 84 + 12 * i),
        max := f32 p (o + 88 + 12 * i) }),
    refs := (List.range 4).map (fun i =>
      { src := u16 p (o + 128 + 16 * i), row := u8 p (o + 130 + 16 * i), rho := f32 p (o + 132 + 16 * i),
        init := f32 p (o + 136 + 16 * i) }),
    rsvOk := slice p (o + 1120) 32 == zeros 32, x0 := f32s p (o + 192) 8, a := f32s p (o + 224) 64, b := f32s p (o + 480) 32, e := f32s p (o + 608) 32, c := f32s p (o + 736) 32,
    kk := f32s p (o + 864) 32, ll := f32s p (o + 992) 32 }

/-- A refusal: check code, offset, computed value, limit. -/
abbrev Refuse := Nat × Nat × Nat × Nat

/-- A field with numeric limits, as an integer. -/
def fldIn (ofs v lo hi : Nat) : Option Refuse :=
  if v < lo then some (1, ofs, v, lo) else if v > hi then some (1, ofs, v, hi) else none

/-- An fp32 field with a numeric limit, which it violates unless `ok`; value and limit as fp32 bits. -/
def fldF (ofs : Nat) (v lim : F32) (ok : Bool) : Option Refuse := if ok then none else some (1, ofs, v.toNat, lim.toNat)

/-- A field without a numeric limit. -/
def fldOk (code ofs : Nat) (ok : Bool) : Option Refuse := if ok then none else some (code, ofs, 0, 0)

/-- Check 1: every field in its range, in record order. -/
def LoopRec.check1 (c : LoopRec) (tx : Nat → Bool) : Option Refuse :=
  let bindChk (i : Nat) : List (Option Refuse) :=
    let b := c.binds.getD i LoopBind.reset
    let o := 80 + 12 * i
    let (tlo, thi) := if b.kind = 1 then (0, 23) else if b.kind = 2 then (0, 71) else (0x400, 0x7FF)
    let top := if b.kind = 1 then fNat 3 else fOne
    [fldIn o b.kind 1 3, fldIn (o + 2) b.target tlo thi, fldOk 1 (o + 2) (b.kind != 3 || tx b.target),
     fldOk 1 (o + 4) (fFinite b.min), fldF (o + 4) b.min fZero (b.kind == 3 || fLe fZero b.min),
     fldOk 1 (o + 8) (fFinite b.max), fldF (o + 8) b.max b.min (fLe b.min b.max), fldF (o + 8) b.max top (b.kind == 3 || fLe b.max top)]
  let refChk (j : Nat) : List (Option Refuse) :=
    let q := c.refs.getD j LoopRef.reset
    let o := 128 + 16 * j
    [fldOk 1 o (decide (q.src ≤ 0xFFF) || q.src == 0xFFFF), fldIn (o + 2) q.row 0 (c.m - 1),
     fldOk 1 (o + 4) (fFinite q.rho), fldF (o + 4) q.rho fZero (fLe fZero q.rho), fldOk 1 (o + 8) (fFinite q.init)]
  let dims := [fldIn 0 c.n 1 8, fldIn 1 c.m 1 4, fldIn 2 c.p 1 4, fldIn 3 c.r 0 4]
  let l := dims ++ [fldIn 4 c.imask 0 (2 ^ c.n - 1), fldIn 5 c.prio 0 3, fldIn 6 c.npl 1 255, fldIn 7 c.safeAct 0 2,
    fldIn 8 c.periodUs 100 100000, fldOk 1 8 (c.periodUs % 100 == 0), fldIn 12 c.phaseUs 0 (c.periodUs - 1),
    (if c.prio = 0 then none else fldIn 16 c.dm 1000 (min 1000000 (c.periodUs * 1000))),
    fldOk 1 20 (fFinite c.gRun), fldF 20 c.gRun fZero (fLe fZero c.gRun), fldOk 1 24 (fFinite c.gPl),
    fldF 24 c.gPl c.gRun (fLt c.gRun c.gPl), fldIn 28 c.minv 1 255,
    fldIn 29 c.flags 0 3, fldIn 30 c.hostSafe 0 3, fldIn 31 c.missPct 0 100] ++
    (List.range 4).map (fun i => let v := c.exports.getD i 0; fldOk 1 (32 + i) (decide (v ≤ 0x1F) && !(decide (0x14 ≤ v ∧ v ≤ 0x17)))) ++
    [if c.periodUs < 1000 then none else fldIn 36 c.hostD 200 c.periodUs] ++
    (List.range c.m).map (fun i => fldIn (40 + 2 * i) (c.meas.getD i 0) 0 0xFFF) ++
    (List.range c.m).map (fun i => fldOk 1 (48 + 4 * i) (fFinite (vAt c.offs i))) ++
    (List.range c.m).flatMap (fun i => [fldOk 1 (64 + 4 * i) (fFinite (vAt c.sinv i)),
      fldF (64 + 4 * i) (vAt c.sinv i) fZero (fLt fZero (vAt c.sinv i))]) ++
    (List.range c.p).flatMap bindChk ++ (List.range c.r).flatMap refChk ++
    (List.range c.n).map (fun i => fldOk 1 (192 + 4 * i) (fFinite (vAt c.x0 i))) ++ [fldOk 1 1120 c.rsvOk]
  match (dims.filterMap id) with
  | x :: _ => some x
  | [] => (l.filterMap id).head?

/-- Check 2: finite matrices; E non-zero only in integral rows, L zero there. -/
def LoopRec.check2 (c : LoopRec) : Option Refuse :=
  let mat (base w rows cols : Nat) (m : List F32) (ok : Nat → F32 → Bool) : List (Option Refuse) :=
    (List.range rows).flatMap (fun i => (List.range cols).map (fun j =>
      let v := vAt m (w * i + j)
      fldOk 2 (base + 4 * (w * i + j)) (fFinite v && ok i v)))
  let any (_ : Nat) (_ : F32) : Bool := true
  ((mat 224 8 c.n c.n c.a any ++ mat 480 4 c.n c.p c.b any ++
    mat 608 4 c.n c.r c.e (fun i v => c.imask.testBit i || fEq v fZero) ++ mat 736 8 c.m c.n c.c any ++ mat 864 8 c.p c.n c.kk any ++
    mat 992 4 c.n c.m c.ll (fun i v => !c.imask.testBit i || fEq v fZero)).filterMap id).head?

/-- Check 3: an actuator bound twice in the record, or by another slot of the resulting set. -/
def check3 (set : List (Nat × LoopRec)) (slot : Nat) (c : LoopRec) : Option Refuse :=
  ((List.range c.p).filterMap (fun i =>
    let b := c.binds.getD i LoopBind.reset
    let twice := (List.range i).any (fun j => let d := c.binds.getD j LoopBind.reset; d.kind == b.kind && d.target == b.target)
    let other := set.any (fun e => e.1 != slot && (e.2.binds.take e.2.p).any (fun d => d.kind == b.kind && d.target == b.target))
    if twice || other then some (3, 82 + 12 * i, 0, 0) else none)).head?

/-- Check 4: CONTROL on every actuator and a read right for every signal. -/
def State.check4 (s : State) (w : Nat) (c : LoopRec) : Option Refuse :=
  let actOk (b : LoopBind) : Bool :=
    match b.kind with
    | 1 => s.right w 0x21 b.target true
    | 2 => s.right w 0x22 b.target true
    | _ => match s.txChannelOf b.target with | some ch => s.right w 0x30 ch true | none => false
  (((List.range c.m).map (fun i => fldOk 4 (40 + 2 * i) (s.sigReadable w (c.meas.getD i 0))) ++
    (List.range c.p).map (fun i => fldOk 4 (82 + 12 * i) (actOk (c.binds.getD i LoopBind.reset))) ++
    (List.range c.r).map (fun j => let q := c.refs.getD j LoopRef.reset
      fldOk 4 (128 + 16 * j) (q.src == 0xFFFF || s.sigReadable w q.src))).filterMap id).head?

/-- Check 5: into an enabled slot only the permitted fields may change. -/
def check5 (old new : LoopRec) : Option Refuse :=
  ([fldOk 5 0 (old.n == new.n), fldOk 5 1 (old.m == new.m), fldOk 5 2 (old.p == new.p), fldOk 5 3 (old.r == new.r),
    fldOk 5 4 (old.imask == new.imask), fldOk 5 5 (old.prio == new.prio), fldOk 5 8 (old.periodUs == new.periodUs),
    fldOk 5 12 (old.phaseUs == new.phaseUs), fldOk 5 16 (new.prio == 0 || old.dm == new.dm), fldOk 5 31 (old.missPct == new.missPct),
    fldOk 5 36 (new.periodUs < 1000 || old.hostD == new.hostD)] ++
   (List.range new.m).map (fun i => fldOk 5 (40 + 2 * i) (old.meas.getD i 0 == new.meas.getD i 0)) ++
   (List.range new.p).flatMap (fun i => let a := old.binds.getD i LoopBind.reset; let b := new.binds.getD i LoopBind.reset
     [fldOk 5 (80 + 12 * i) (a.kind == b.kind), fldOk 5 (82 + 12 * i) (a.target == b.target), fldOk 5 (84 + 12 * i) (a.min == b.min),
      fldOk 5 (88 + 12 * i) (a.max == b.max)]) ++
   (List.range new.r).flatMap (fun j => let a := old.refs.getD j LoopRef.reset; let b := new.refs.getD j LoopRef.reset
     [fldOk 5 (128 + 16 * j) (a.src == b.src), fldOk 5 (130 + 16 * j) (a.row == b.row), fldOk 5 (136 + 16 * j) (a.init == b.init)]) ++
   (List.range new.n).map (fun i => fldOk 5 (192 + 4 * i) (vAt old.x0 i == vAt new.x0 i)) |>.filterMap id).head?

/-- Checks 1 to 5 of one record; the lowest failing code. -/
def State.recordCheck (s : State) (w slot : Nat) (set : List (Nat × LoopRec)) (c : LoopRec) : Option Refuse :=
  (c.check1 (fun id => (s.txChannelOf id).isSome)).orElse fun _ => (c.check2).orElse fun _ => (check3 set slot c).orElse fun _ =>
    (s.check4 w c).orElse fun _ =>
      match (s.loop slot).cfg with
      | some old => if (s.loop slot).state ≥ 2 then check5 old c else none
      | none => none

/-- Σ over a list. -/
def sumBy {α : Type} (l : List α) (f : α → Nat) : Nat := l.foldl (fun a x => a + f x) 0

/-- The largest Q of a set (R135). -/
def setB (set : List (Nat × LoopRec)) : Nat := set.foldl (fun b e => max b e.2.workQ) 0

/-- The worst priority-0 miss release in ns (check 6), 0 with no such slot. -/
def worst0 (set : List (Nat × LoopRec)) : Nat :=
  let p0 := set.filter (fun e => e.2.prio == 0)
  if p0.isEmpty then 0 else 4 * (3 + setB set + sumBy p0 (fun e => e.2.workM))

/-- Utilisation: numerator and denominator in ppm (check 8). -/
def utilisation (set : List (Nat × LoopRec)) : Nat × Nat :=
  let d := set.foldl (fun a e => Nat.lcm a e.2.periodUs) 1
  (sumBy set (fun e => 4000 * (e.2.workM + e.2.workQ) * (d / e.2.periodUs)), d)

/-- The budget checks of one slot: 6 or 7, then 9 (R135). -/
def slotBudget (set : List (Nat × LoopRec)) (c : LoopRec) : Option Refuse :=
  let b := setB set
  let rel := if c.prio = 0 then worst0 set
    else 4 * (3 + b + sumBy (set.filter (fun e => decide (e.2.prio ≤ c.prio))) (fun e => e.2.workM))
  let code := if c.prio = 0 then 6 else 7
  if rel > c.dmNs then some (code, 0xFFFF, rel, c.dmNs)
  else
    let t := 4 * (b + sumBy set (fun e => (e.2.workM + e.2.workQ) * ceilDiv c.periodUs e.2.periodUs))
    if t > c.periodUs * 1000 then some (9, 0xFFFF, t, c.periodUs * 1000) else none

/-- The budget checks of a set: the slot named and the refusal. -/
def budget (set : List (Nat × LoopRec)) : Option (Nat × Refuse) :=
  match (set.filterMap (fun e => (slotBudget set e.2).map (fun x => (e.1, x)))).head? with
  | some x => some x
  | none =>
    let (nu, d) := utilisation set
    if nu > 800000 * d then some (0xFF, 8, 0xFFFF, (2 * nu + d) / (2 * d), 800000) else none

/-- Status of a refusal's check code. -/
def refuseStatus (code : Nat) : Nat := if code = 3 ∨ code = 5 then stBusy else if code = 4 then stNotPermitted else stRange

/-- The refusal payload (R144). -/
def refusePayload (slot : Nat) (x : Refuse) : List Byte := b8 slot ++ b8 x.1 ++ b16 x.2.1 ++ b32 x.2.2.1 ++ b32 x.2.2.2

/-- A slot that is unloaded, or loaded with a period below 1 ms, cannot be host-assisted (R147): its function is the hardware's. -/
def State.loopToHw (s : State) (n : Nat) : State :=
  if s.isHost (ctrlKey n) || (s.hostFn (ctrlKey n)).pending.isSome then
    s.modHost (ctrlKey n) (fun h => { h with host := false, pending := none }) else s

/-- CTRL.LOAD (R143, R144). Of the two rules on reserved bytes the model follows R144, which makes a non-zero reserved flag bit or
byte of this request an error of its own, where 00 R15 says that reserved payload bytes never reject a command (DESIGN CHOICE,
log entry 57). -/
def verbCtrlLoad : Verb :=
  { unit := 0x20, verb := 0x10, lenOk := lenIs 16, instOk := inst0, query := false, rt := false, perm := some (fun _ _ => true),
    body := fun r s =>
      let p := r.payload
      let d := u8 p 0
      let fl := u8 p 1
      let map := u64 p 8
      let slots := (List.range 64).filter map.testBit
      let refuse (slot : Nat) (x : Refuse) : State × Nat × List Byte := (s, refuseStatus x.1, refusePayload slot x)
      let g := s.region r.win d
      let need := 1152 * (slots.getLastD 0 + 1)
      let unload := bit fl 1
      if d > 63 ∨ fl > 3 ∨ slice p 2 6 ≠ zeros 6 ∨ map = 0 then refuse 0xFF (1, 0xFFFF, 0, 0)
      else if !unload ∧ (!g.present ∨ g.size < need) then refuse 0xFF (1, 0xFFFF, need, if g.present then g.size else 0)
      else match slots.find? (fun n => !s.right r.win 0x20 n true) with
        | some n => refuse n (4, 0xFFFF, 0, 0)
        | none =>
          if !unload && g.inuse then (s, stBusy, [])
          else
            let raw := if unload then [] else s.regionRead r.win d 0 need
            let new := if unload then [] else slots.map (fun n => (n, loopRecOf raw (1152 * n)))
            let keep := (List.range 64).filterMap (fun n => if slots.contains n then none else
              (((s.loop n).pend.orElse fun _ => (s.loop n).cfg)).map (fun c => (n, c)))
            let set := keep ++ new
            let set := (List.range 64).filterMap (fun n => set.find? (fun e => e.1 == n))
            let bad : Option (Nat × Refuse) :=
              if unload then (slots.find? (fun n => decide ((s.loop n).state ≥ 2))).map (fun n => (n, 5, 0xFFFF, 0, 0))
              else (new.filterMap (fun e => (s.recordCheck r.win e.1 set e.2).map (fun x => (e.1, x)))).head?
            match bad.orElse fun _ => if unload then none else budget set with
            | some (n, x) => refuse n x
            | none =>
              let (nu, dn) := utilisation set
              let reply := b32 (worst0 set) ++ b32 ((2 * nu + dn) / (2 * dn)) ++ b8 set.length ++ zeros 3 ++ b32 (setB set)
              let s := if unload then s else s.regionDone r.win d r.tag need false
              if bit fl 0 then (s, stDone, reply)
              else if unload then
                (slots.foldl (fun (s : State) n =>
                  let s := (s.slotState n 0 0).loopToHw n
                  { s with ctrl.slots := tdel s.ctrl.slots n }) s, stDone, reply)
              else
                (new.foldl (fun (s : State) e =>
                  if (s.loop e.1).state ≥ 2 then s.modLoop e.1 (fun x => { x with pend := some e.2 })
                  else
                    let s := s.slotState e.1 1 0
                    let s := if e.2.periodUs < 1000 then s.loopToHw e.1 else s
                    s.modLoop e.1 (fun _ => { LoopSlot.reset with cfg := some e.2, state := 1, setpt := e.2.refs.map (·.init) })) s,
                 stDone, reply) }

/-! ### The other verbs (R145, R146) -/

/-- CTRL.ENABLE. -/
def verbCtrlEnable : Verb :=
  { unit := 0x20, verb := 0x11, lenOk := lenIs 4, instOk := instLt 64, query := false, rt := true, perm := none,
    body := fun r s =>
      let n := r.inst
      let x := s.loop n
      let keepFlag := bit (u8 r.payload 0) 0
      match x.cfg with
      | none => (s, stRange, [])
      | some c =>
        if keepFlag && x.state == 1 then (s, stRange, [])
        else if x.state == 2 || x.state == 3 then (s, stDone, [])
        else if c.bindList.any (fun e => (e.2.kind == 1 && (s.valve' e.2.target).mode != 1) ||
            (e.2.kind == 2 && (s.out e.2.target).cfg.mode != 2)) then (s, stBusy, [])
        else (s.modLoop n (fun x => { x with enableReq := if keepFlag then 2 else 1 }), stDone, []) }

/-- CTRL.DISABLE. -/
def verbCtrlDisable : Verb :=
  { unit := 0x20, verb := 0x12, lenOk := lenIs 0, instOk := instLt 64, query := false, rt := true, perm := none,
    body := fun r s =>
      let x := s.loop r.inst
      if x.state = 0 then (s, stRange, [])
      else (s.modLoop r.inst (fun x => { x with enableReq := if x.state = 1 then 0 else 3 }), stDone, []) }

/-- CTRL.SETPOINT (R139, R145). -/
def verbCtrlSetpoint : Verb :=
  { unit := 0x20, verb := 0x13, lenOk := lenIs 8, instOk := instLt 64, query := false, rt := true, perm := none,
    body := fun r s =>
      let j := u8 r.payload 0
      let v := f32 r.payload 4
      match (s.loop r.inst).cfg with
      | none => (s, stRange, [])
      | some c =>
        if j ≥ c.r ∨ (c.refs.getD j LoopRef.reset).src ≠ 0xFFFF ∨ u8 r.payload 1 > 1 ∨ !fFinite v then (s, stRange, [])
        else
          (s.modLoop r.inst (fun x => { x with setpt := listSet fZero x.setpt j v, arrived := listSet false x.arrived j false,
                                               stepNow := listSet false x.stepNow j (u8 r.payload 1 == 1) }), stDone, []) }

/-- CTRL.STATUS (R145). -/
def verbCtrlStatus : Verb :=
  { unit := 0x20, verb := 0x01, lenOk := lenIs 0, instOk := instLt 64, query := true, rt := true, perm := none,
    body := fun r s =>
      let x := s.loop r.inst
      let mode := if s.isHost (ctrlKey r.inst) then (if x.hostHw then 2 else 1) else 0
      (s, stDone, b8 x.state ++ b8 mode ++ b8 x.cause ++ b8 0 ++ b32 x.samples ++ b32 x.misses ++ b32 x.invalid ++ bF x.d2 ++
        bF x.d2Max ++ b32 x.delayMax ++ b32 (x.k % 2 ^ 32)) }

/-- CTRL.TRACE (R146): a running buffer with trigger 4 armed fires; any other command arms or restarts the buffer. It needs CONTROL
on the slot that it names and on the one that a running buffer traces. -/
def verbCtrlTrace : Verb :=
  { unit := 0x20, verb := 0x14, lenOk := lenIs 8, instOk := inst0, query := false, rt := false,
    perm := some (fun s r => s.right r.win 0x20 (u8 r.payload 1) true &&
      (!(s.trace (u8 r.payload 0)).armed || s.right r.win 0x20 (s.trace (u8 r.payload 0)).slot true)),
    body := fun r s =>
      let p := r.payload
      let b := u8 p 0
      if b > 7 ∨ u8 p 1 > 63 ∨ (s.loop (u8 p 1)).cfg.isNone ∨ u8 p 2 > 0x1F ∨ u8 p 3 = 0 ∨ u8 p 4 > 4 ∨ u16 p 6 > 4095 then
        (s, stRange, [])
      else
        let t := s.trace b
        if t.armed ∧ t.trigger = 4 ∧ !t.fired then
          let s := s.modTrace b (fun t => { t with fired := true, left := t.post, trigK := (s.loop t.slot).k % 2 ^ 32 })
          (if t.post = 0 then s.traceStop b else s, stDone, [])
        else
          (s.modTrace b (fun t => { Trace.reset with armed := true, slot := u8 p 1, node := u8 p 2, d := u8 p 3, trigger := u8 p 4,
                                                     post := u16 p 6, phase := u8 p 3 - 1, read := t.read }), stDone, []) }

/-- CTRL.TRACE_READ (R146). -/
def verbCtrlTraceRead : Verb :=
  { unit := 0x20, verb := 0x15, lenOk := lenIs 4, instOk := inst0, query := false, rt := false,
    perm := some (fun s r => s.right r.win 0x20 (s.trace (u8 r.payload 0)).slot true),
    body := fun r s =>
      let b := u8 r.payload 0
      let d := u8 r.payload 1
      if b > 7 then (s, stRange, [])
      else if (s.trace b).armed || (s.trace b).read.isSome then (s, stBusy, [])
      else match s.regionCheck r.win d (8 * (s.trace b).entries.length) with
        | some st => (s, st, [])
        | none =>
          ((s.regionBegin r.win d r.tag true).modTrace b (fun t => { t with read := some ({ win := r.win, tag := r.tag }, d) }),
           stAccepted, []) }

/-- CTRL_TRACE_READ_DONE (R146): the entries are copied, oldest first. -/
def execCtrlTraceReadDone (buf : Nat) (s : State) : Out :=
  .next (
    let t := s.trace buf
    match t.read with
    | none => s
    | some (op, d) =>
      if !s.running 0x20 0 then s
      else
        let n := t.entries.length
        let s := (s.regionWrite op.win d 0 (t.entries.flatMap (fun e => bF e.1 ++ b32 e.2))).regionEnd op.win d (8 * n)
        (s.modTrace buf (fun t => { t with read := none })).complete op 0x20 t.slot (ctrlSrc t.slot) 0x2009 stDone n 0)

/-! ### Restart (R153) -/

/-- A CTRL unit stops: enabled loops apply their safe actions, accepted copies end, traces are cleared. -/
def State.ctrlRestart (s : State) : State :=
  let s := (List.range 8).foldl (fun (s : State) b =>
    match (s.trace b).read with
    | some (op, d) => (s.regionAbort op.win d).complete op 0x20 (s.trace b).slot (ctrlSrc (s.trace b).slot) 0x2009 stRestarted 0 0
    | none => s) s
  let s := { s with ctrl.traces := [], ctrl.laneFree := 0 }
  (List.range 64).foldl (fun (s : State) n =>
    match (s.loop n).cfg with
    | some c => if (s.loop n).state ≥ 2 then s.safeRelease n c c.safeAct else s
    | none => s) s

/-- The CTRL unit runs again: every slot is LOADED. -/
def State.ctrlReady (s : State) : State :=
  (List.range 64).foldl (fun (s : State) n =>
    match (s.loop n).cfg with
    | some c =>
      let c := (s.loop n).pend.getD c
      let s := if (s.loop n).state ≥ 2 then (s.unreleaseAll c).slotState n 1 4 else s
      s.modLoop n (fun _ => { LoopSlot.reset with cfg := some c, state := 1, setpt := c.refs.map (·.init) })
    | none => s) s

/-- CTRL.STATUS -/
def execCtrlStatus (r : Req) (s : State) : Out := mailboxRow verbCtrlStatus r s
/-- CTRL.LOAD -/
def execCtrlLoad (r : Req) (s : State) : Out := mailboxRow verbCtrlLoad r s
/-- CTRL.ENABLE -/
def execCtrlEnable (r : Req) (s : State) : Out := mailboxRow verbCtrlEnable r s
/-- CTRL.DISABLE -/
def execCtrlDisable (r : Req) (s : State) : Out := mailboxRow verbCtrlDisable r s
/-- CTRL.SETPOINT -/
def execCtrlSetpoint (r : Req) (s : State) : Out := mailboxRow verbCtrlSetpoint r s
/-- CTRL.TRACE -/
def execCtrlTrace (r : Req) (s : State) : Out := mailboxRow verbCtrlTrace r s
/-- CTRL.TRACE_READ -/
def execCtrlTraceRead (r : Req) (s : State) : Out := mailboxRow verbCtrlTraceRead r s
/-- CTRL.HOSTBUF -/
def execCtrlHostbuf (r : Req) (s : State) : Out := mailboxRow verbCtrlHostbuf r s
/-- CTRL.U -/
def execCtrlU (r : Req) (s : State) : Out := mailboxRow verbCtrlU r s

end Sys2Proof.Machine
end

