-- ==== Sys2Proof/Machine/CanTx.lean ====
section
/-! DEFINITION. Machine/CanTx.lean: transmission on a CAN channel: requests, contention, error confinement, outcomes
(chapter 15, R325, R340-R344, R347). -/

namespace Sys2Proof.Machine

/-- A TX object's run state. -/
def State.txSt (s : State) (i : Nat) : TxState := tget TxState.reset s.can.tx i
/-- Change it. -/
def State.modTx (s : State) (i : Nat) (f : TxState → TxState) : State := { s with can.tx := tmod TxState.reset s.can.tx i f }

/-- CAN runs: KEEPER and RUN, the unit not restarting. -/
def State.canRuns (s : State) (c : Nat) : Bool := s.operating && s.running 0x30 0 && decide (c < 8)

/-- The controller takes part in bus traffic. -/
def State.canLive (s : State) (c : Nat) : Bool :=
  let x := s.canCh c
  s.canRuns c && x.usable && !x.joining

/-- The stored payload of a TX object: CAN.SEND's, else the Pantry's (R340). -/
def State.txStored (s : State) (i : Nat) : List Byte :=
  let e := s.pan i
  let n := u8 e 8
  ((s.txSt i).stored.getD (slice ((slice e 16 16) ++ slice (s.pan (i + 1)) 0 32 ++ slice (s.pan (i + 2)) 0 32) 0 n)).take n

/-- The payload of a request: stored bytes with every packed signal over them (R341, R344). -/
def State.txPacked (s : State) (i : Nat) : State × List Byte :=
  (s.packsOf i).foldl (fun (a : State × List Byte) m => let (s, v) := a.1.packRaw m; (s, putRaw m v a.2)) (s, s.txStored i)

/-- One-shot: declared so, or sent in an exclusive slot (R343). -/
def State.oneShot (s : State) (i : Nat) : Bool := bit (eFlags (s.pan i)) 0 || (s.txSt i).exclusive

/-- A one-shot frame fails (R343): CAN/TX_FAIL, and BUSY to its confirmations. -/
def State.txFail (s : State) (i cause : Nat) : State :=
  let c := eChan (s.pan i)
  let t := s.txSt i
  let s := s.modTx i (fun t => { t with state := 0, outcome := cause, fails := satAdd 32 t.fails 1, confirm := [], reqs := [], exclusive := false })
  let s := t.confirm.foldl (fun (s : State) o => s.complete o.2 0x30 c (185 + c) 0x6006 stBusy i cause) s
  let x := s.canCh c
  s.raiseEv 0x30 c (185 + c) 0x6007 1 c i cause (if x.sched.role = 0 then 0 else x.cycle)

/-- A request that the channel drops (R342). -/
def State.txDrop (s : State) (i : Nat) : State :=
  if s.oneShot i then s.txFail i 7
  else
    let c := eChan (s.pan i)
    let t := s.txSt i
    let s := s.modTx i (fun t => { t with state := 0, outcome := 7, confirm := [], reqs := [], exclusive := false })
    t.confirm.foldl (fun (s : State) o => s.complete o.2 0x30 c (185 + c) 0x6006 stBusy i 7) s

/-- A transmission request (R341, R342): packed now; a pending frame is refreshed and an overrun counted. -/
def State.txRequest (s : State) (i : Nat) (exclusive : Bool) : State :=
  let c := eChan (s.pan i)
  let stamps := (s.packsOf i).map (fun m => (s.sig (u16 m 0)).stamp)
  let s := s.modTx i (fun t => { t with lastReq := some s.hw, seen := stamps, exclusive := exclusive })
  if !(s.canCh c).usable ∨ (s.canCh c).mode ≠ 1 ∨ s.inGap c then s.txDrop i
  else
    let (s, p) := s.txPacked i
    s.modTx i (fun t => { t with payload := p, reqs := t.reqs ++ [(p, s.hw)], overruns := if t.state = 0 then t.overruns else satAdd 32 t.overruns 1,
                                 state := if exclusive then 2 else max 1 t.state })

/-! ### Error confinement (R325) -/

/-- The error counts change: CAN/ERROR_PASSIVE on entry, and back to error active at 127 and below. -/
def State.canErrors (s : State) (c tec rec : Nat) : State :=
  let x := s.canCh c
  let passive := decide (tec > 127 ∨ rec > 127)
  let s := s.modCan c (fun x => { x with tecErr := tec, recErr := rec, state := if x.state = 3 then 3 else if passive then 2 else 1 })
  if passive ∧ x.state = 1 then s.post 0x30 c (185 + c) 0x6001 c (min tec 255) (min rec 255) 0 else s

/-- TX objects of a channel that are pending or on the wire. -/
def State.txPending (s : State) (c : Nat) : List Nat :=
  (s.can.tx.filter (fun e => e.2.state != 0 && eChan (s.pan e.1) == c && s.isHeadAt e.1)).map (·.1)

/-- A gateway frame for a destination is dropped and counted; CAN/ROUTE_DROP at most once per second (R349). -/
def State.routeDrop (s : State) (src d cause : Nat) : State :=
  let x := s.canCh d
  let drops := (x.dropSecs.filter (fun e => decide (s.hw < e.1 + 1000000000))) ++ [(s.hw, cause)]
  let due : Bool := match x.dropAt with | some t => decide (s.hw ≥ t + 1000000000) | none => true
  let s := s.modCan d (fun x => { x with gwDrops := satAdd 32 x.gwDrops 1, dropSecs := drops, dropAt := if due then some s.hw else x.dropAt })
  if due then s.raiseEv 0x30 d 193 0x6009 1 src d drops.length cause else s

/-- Bus off (R325): pending frames and the gateway FIFO are dropped. -/
def State.busOff (s : State) (c : Nat) : State :=
  let x := s.canCh c
  let n := satAdd 16 x.busOffs 1
  let s := s.modCan c (fun x => { x with state := 3, busOffs := n, recovering := x.autoRec, keeperTx := [], fifo := [] })
  let s := s.raiseEv 0x30 c (185 + c) 0x6002 3 c n (b2n x.autoRec) 0
  let s := x.fifo.foldl (fun (s : State) g => s.routeDrop g.src c 3) s
  (s.txPending c).foldl State.txDrop s

/-- A transmit error (ISO 11898-1): +8, but not an acknowledgement error of an error-passive node. -/
def State.txError (s : State) (c cause : Nat) : State :=
  let x := s.canCh c
  let s := s.modCan c (fun x => { x with errs := satAdd 32 x.errs 1 })
  let tec := if cause = 5 ∧ x.state = 2 then x.tecErr else x.tecErr + 8
  if tec > 255 then (s.modCan c (fun x => { x with tecErr := tec })).busOff c else s.canErrors c tec x.recErr

/-! ### Contention (R342) -/

/-- The arbitration order of identifiers: a standard frame wins against an extended one of the same base. -/
def arbKey (id : Nat) : Nat := if bit id 31 then 2 * (id % 2 ^ 29) + 1 else 2 * ((id % 2 ^ 11) * 2 ^ 18)

/-- What may go on the bus: a TX object, the head of the gateway FIFO, or the head of Keeper's own frames. -/
inductive TxPick where
  | object (idx : Nat)
  | gateway
  | keeper
  deriving DecidableEq, Repr

/-- An exclusive window of the channel is open now (R347). -/
def State.inExclusive (s : State) (c : Nat) : Bool :=
  let x := s.canCh c
  match x.lastRef with
  | none => false
  | some t =>
    let ct := (s.hw - t) / 1000
    x.synced && (s.entries c 3).any (fun e => eForm e.2 == 0 && slotActive e.2 x.cycle && decide (u16 e.2 4 ≤ ct ∧ ct < u16 e.2 4 + u16 e.2 6))

/-- The frame that has the bus (R342, R347): an object in its exclusive window; otherwise the lowest identifier of all that
are pending, and nothing inside an exclusive window. In the sleep gap only Keeper's ABORT. -/
def State.txPick (s : State) (c : Nat) : Option TxPick :=
  let x := s.canCh c
  let objs := (s.txPending c).map (fun i => (arbKey (u32 (s.pan i) 4), i))
  let keep := x.keeperTx.head?.map (fun f => (arbKey f.id, TxPick.keeper))
  if s.inGap c then keep.map (·.2)
  else match objs.find? (fun o => (s.txSt o.2).state == 2) with
    | some o => some (.object o.2)
    | none =>
      if s.inExclusive c then none
      else
        let all := objs.map (fun o => (o.1, TxPick.object o.2)) ++ keep.toList ++
          ((x.fifo.head?.filter (fun f => !f.held)).map (fun f => (arbKey f.id, TxPick.gateway))).toList
        (all.foldl (fun a o => match a with | none => some o | some b => if o.1 < b.1 then some o else some b) none).map (·.2)

/-! ### Stamps (R339) -/

/-- The frame stamp of a frame whose start of frame lies at `sof`. -/
def State.frameStamp (s : State) (c sof : Nat) : Nat :=
  if hasFailover s.variant then sof / 4 * 4
  else
    let x := s.canCh c
    match x.sched.role, x.lastRef with
    | 0, _ => sof / 1000 % 65536
    | _, some t => (sof - t) / 1000 % 65536 + 65536 * (x.cycle % 64)
    | _, none => sof / 1000 % 65536

/-- The stamp of bus-mapped signals. -/
def State.sigStamp (s : State) (sof : Nat) : Nat := if hasFailover s.variant then sof / 4 * 4 else s.hw

/-- The requests of an object that came after its frame had started at `sof`: that frame is not changed by them (R342). -/
def TxState.after (t : TxState) (sof : Nat) : List (List Byte × Nat) := (t.reqs.drop 1).filter (fun q => decide (q.2 > sof))

/-- The payload of the frame that started at `sof`. -/
def TxState.onWire (t : TxState) (sof : Nat) : List Byte :=
  match (t.reqs.take (t.reqs.length - (t.after sof).length)).getLast? with | some q => q.1 | none => t.payload

/-- A transmission succeeds (R342-R344). A request that came after the frame had started leaves the object pending for it. -/
def State.txDone (s : State) (c sof : Nat) (pick : TxPick) : State :=
  let x := s.canCh c
  let s := (s.modCan c (fun x => { x with tx := satAdd 32 x.tx 1 })).canErrors c (x.tecErr - 1) x.recErr
  let s := s.clearFault 0x6003 0x30 c
  match pick with
  | .keeper => s.modCan c (fun x => { x with keeperTx := x.keeperTx.drop 1 })
  | .gateway => s.modCan c (fun x => { x with fifo := x.fifo.drop 1 })
  | .object i =>
    let t := s.txSt i
    let new := t.after sof
    let open' := if new.isEmpty then [] else t.confirm.filter (fun o => decide (o.1 > sof))
    let s := s.modTx i (fun t => { t with state := if new.isEmpty then 0 else 1, outcome := 0, sent := satAdd 32 t.sent 1, reqs := new,
                                          stamp := s.frameStamp c sof, confirm := open', exclusive := false,
                                          overruns := if new.isEmpty then t.overruns else t.overruns - 1 })
    let s := s.clearFault 0x6007 0x30 c
    (t.confirm.filter (fun o => !open'.contains o)).foldl (fun (s : State) o => s.complete o.2 0x30 c (185 + c) 0x6006 stDone i 0) s

/-- A transmission does not succeed: 1 arbitration lost, 2-5 errors, 6 window missed (R343). -/
def State.txBad (s : State) (c cause : Nat) (pick : TxPick) : State :=
  let s := match pick with
    | .object i => if s.oneShot i then s.txFail i cause else s
    | _ => s
  if 2 ≤ cause ∧ cause ≤ 5 then s.txError c cause else s

end Sys2Proof.Machine
end

