-- ==== Sys2Proof/Machine/CanTp.lean ====
section
/-! DEFINITION. Machine/CanTp.lean: Keeper's ISO 11783-3 transport engine: sessions, records, the timeouts, the host-assisted
mode (chapter 15, R351-R354). The frame layouts, timeouts and reason codes are ISO 11783-3's (PRESUMED, log entry 151). -/

namespace Sys2Proof.Machine

/-- A 29-bit identifier: priority, format, specific field, source address. -/
def tpId (prio pf ps sa : Nat) : Nat := 2 ^ 31 + prio * 2 ^ 26 + pf * 65536 + ps * 256 + sa

/-- PDU formats of TP.CM, TP.DT, ETP.CM and ETP.DT. -/
def tpPf (etp dt : Bool) : Nat := if etp then (if dt then 0xC7 else 0xC8) else (if dt then 0xEB else 0xEC)

/-- Packets of seven bytes that a message takes. -/
def tpPackets (n : Nat) : Nat := (n + 6) / 7

/-- A PGN in a connection management frame. -/
def tpPgn (d : List Byte) : Nat := u16 d 5 + 65536 * u8 d 7

/-- A transport session by its place in the list. -/
def State.tpSess (s : State) (c i : Nat) : TpSession := (s.canCh c).sessions.getD i TpSession.reset
/-- Change a session. -/
def State.modTp (s : State) (c i : Nat) (f : TpSession → TpSession) : State :=
  s.modCan c (fun x => { x with sessions := x.sessions.modify i f })

/-- A connection management frame to a peer. -/
def State.tpCm (s : State) (c prio peer : Nat) (etp : Bool) (body : List Byte) (pgn : Nat) : State :=
  s.keeperSend c (tpId prio (tpPf etp false) peer (s.canCh c).tpAddr) (body ++ leB 3 pgn)

/-- Connection Abort to a peer. -/
def State.tpSendAbort (s : State) (c peer reason pgn : Nat) (etp : Bool) : State :=
  s.tpCm c 7 peer etp (b8 255 ++ b8 reason ++ [255, 255, 255]) pgn

/-- A session's place, by direction and peer; connections only. -/
def State.tpFind (s : State) (c : Nat) (send : Bool) (peer : Nat) (bam : Bool) : Option Nat :=
  (s.canCh c).sessions.findIdx? (fun x => x.send == send && x.peer == peer && (x.kind == 0) == bam)

/-- Sessions of a direction. -/
def State.tpCount (s : State) (c : Nat) (send : Bool) : Nat := ((s.canCh c).sessions.filter (·.send == send)).length

/-- A session leaves the list; a send session answers its command with CAN/TP_DONE (R353). -/
def State.tpEnd (s : State) (c i status reason : Nat) : State :=
  let x := s.tpSess c i
  let s := s.modCan c (fun y => { y with sessions := y.sessions.eraseIdx i })
  match x.op with
  | none => s
  | some op =>
    let n := min x.total (7 * x.packets)
    (if status = stRestarted then s.regionStop op.win x.desc n else s.regionEnd op.win x.desc n).complete op 0x30 c 194 0x600A status x.pgn reason

/-- A session is aborted: CAN/TP_ABORT, and CAN/TP_DONE BUSY of a send (R353, R357). -/
def State.tpAbort (s : State) (c i reason : Nat) : State :=
  let x := s.tpSess c i
  (s.tpEnd c i stBusy reason).raiseEv 0x30 c 194 0x600C 1 c x.pgn x.peer reason

/-- Every session of a channel is aborted; the peers of connections are told. -/
def State.tpAbortAll (s : State) (c reason : Nat) : State :=
  (s.canCh c).sessions.foldl (fun (s : State) x =>
    let s := if x.kind = 0 then s else s.tpSendAbort c x.peer reason x.pgn (x.kind == 2)
    s.tpAbort c 0 reason) s

/-- A session completes. -/
def State.tpDone (s : State) (c i : Nat) : State := (s.tpEnd c i stDone 0).clearFault 0x600C 0x30 c

/-! ### The receive region (R352) -/

/-- The data area of the receive region. -/
def State.tpArea (s : State) (c : Nat) : Nat :=
  let x := s.canCh c
  ((s.region x.tpWin x.tpDesc).size - 64) / 64 * 64

/-- The consumer byte count is read; one behind its previous value or ahead of the producer is ignored (R335). -/
def State.tpReadCons (s : State) (c : Nat) : State :=
  let x := s.canCh c
  let v := u32 (s.regionRead x.tpWin x.tpDesc 4 4) 0
  let w := 4294967296
  if (v + w - x.tpCons) % w ≤ (x.tpProd + w - x.tpCons) % w then s.modCan c (fun y => { y with tpCons := v }) else s

/-- The bytes that a record of a message needs from the present place: a filler up to the end if it would wrap, and itself. -/
def State.tpNeed (s : State) (c len : Nat) : Nat × Nat :=
  let total := 64 + (len + 63) / 64 * 64
  let left := s.tpArea c - (s.canCh c).tpProd % s.tpArea c
  (if total > left then left else 0, total)

/-- The message fits in the free space. -/
def State.tpFits (s : State) (c len : Nat) : Bool :=
  let x := s.canCh c
  let (skip, total) := s.tpNeed c len
  decide (skip + total ≤ s.tpArea c - (x.tpProd + 4294967296 - x.tpCons) % 4294967296)

/-- A message is refused for want of space: counted in the ring header. -/
def State.tpRefuse (s : State) (c : Nat) : State :=
  let s := s.modCan c (fun x => { x with tpRefused := (x.tpRefused + 1) % 4294967296 })
  let x := s.canCh c
  s.regionWrite x.tpWin x.tpDesc 12 (b32 x.tpRefused)

/-- A completed message is written as a record, and CAN/TP_RX posted. -/
def State.tpRecord (s : State) (c : Nat) (m : TpSession) : State :=
  let x := s.canCh c
  let (skip, total) := s.tpNeed c m.total
  let area := s.tpArea c
  let place := x.tpProd % area
  let s := if skip = 0 then s
    else s.regionWrite x.tpWin x.tpDesc (64 + place) (zeros 8 ++ b32 0xFFFFFFFF ++ zeros 52)
  let place := if skip = 0 then place else 0
  let head := b64 s.hw ++ b32 m.total ++ b32 m.pgn ++ b8 m.peer ++ b8 m.dest ++ b8 m.kind ++ zeros 45
  let s := s.regionWrite x.tpWin x.tpDesc (64 + place) (head ++ slice m.data 0 (total - 64))
  let s := s.modCan c (fun x => { x with tpProd := (x.tpProd + skip + total) % 4294967296 })
  let s := s.regionWrite x.tpWin x.tpDesc 0 (b32 (s.canCh c).tpProd)
  s.post 0x30 c 194 0x600B c m.pgn m.total (m.peer + 256 * m.dest)

/-! ### Receiving -/

/-- The next window of a receive session is granted (CTS). -/
def State.tpCts (s : State) (c i : Nat) : State :=
  let x := s.tpSess c i
  let n := min (min (s.canCh c).tpCts x.maxCts) (tpPackets x.total - x.packets)
  let next := x.packets + 1
  let s := s.modTp c i (fun x => { x with window := x.packets + n, lastAt := s.hw, tmo := 1250 })
  s.tpCm c 7 x.peer (x.kind == 2)
    (if x.kind = 2 then b8 21 ++ b8 n ++ leB 3 next else b8 17 ++ b8 n ++ b8 next ++ [255, 255]) x.pgn

/-- A receive session opens. -/
def State.tpOpen (s : State) (c : Nat) (x : TpSession) : State :=
  s.modCan c (fun y => { y with sessions := y.sessions ++ [{ x with active := true, lastAt := s.hw }] })

/-- A request to send (R351, R352): abort reason 1 at the session limit or for another message of the same peer, 2 for want
of space. -/
def State.tpRts (s : State) (c peer total pgn maxCts : Nat) (etp : Bool) : State :=
  let s := s.tpReadCons c
  let old := s.tpFind c false peer false
  let same : Bool := match old with | some i => (s.tpSess c i).pgn == pgn | none => false
  let s := if same then s.modCan c (fun y => { y with sessions := y.sessions.eraseIdx (old.getD 0) }) else s
  if (old.isSome && !same) || decide (s.tpCount c false ≥ 16) then s.tpSendAbort c peer 1 pgn etp
  else if !s.tpFits c total then (s.tpRefuse c).tpSendAbort c peer 2 pgn etp
  else
    let i := (s.canCh c).sessions.length
    let s := s.tpOpen c { TpSession.reset with kind := if etp then 2 else 1, peer := peer, dest := (s.canCh c).tpAddr, pgn := pgn,
                                               total := total, maxCts := if maxCts = 0 then 255 else maxCts }
    s.tpCts c i

/-- A broadcast announcement: one a peer; over the session limit it is not received. -/
def State.tpBam (s : State) (c peer total pgn : Nat) : State :=
  let s := match s.tpFind c false peer true with
    | some i => s.modCan c (fun y => { y with sessions := y.sessions.eraseIdx i })
    | none => s
  if s.tpCount c false ≥ 16 then s
  else s.tpOpen c { TpSession.reset with kind := 0, peer := peer, dest := 255, pgn := pgn, total := total, tmo := 750 }

/-- A receive session has all its packets. -/
def State.tpReceived (s : State) (c i : Nat) : State :=
  let s := s.tpReadCons c
  let x := s.tpSess c i
  if !s.tpFits c x.total then
    let s := s.tpRefuse c
    if x.kind = 0 then s.modCan c (fun y => { y with sessions := y.sessions.eraseIdx i })
    else (s.tpSendAbort c x.peer 2 x.pgn (x.kind == 2)).tpAbort c i 2
  else
    let s := s.tpRecord c { x with data := x.data.take x.total }
    let s := if x.kind = 0 then s
      else s.tpCm c 7 x.peer (x.kind == 2)
        (if x.kind = 2 then b8 23 ++ b32 x.total else b8 19 ++ b16 x.total ++ b8 (tpPackets x.total) ++ [255]) x.pgn
    s.tpDone c i

/-- A data packet of a session: the sequence number must follow. -/
def State.tpData (s : State) (c i seq : Nat) (d : List Byte) : State :=
  let x := s.tpSess c i
  let n := if x.kind = 2 then x.dpo + seq else seq
  if n ≠ x.packets + 1 ∨ (x.kind ≠ 0 ∧ n > x.window) then
    (if x.kind = 0 then s else s.tpSendAbort c x.peer 7 x.pgn (x.kind == 2)).tpAbort c i 7
  else
    let s := s.modTp c i (fun x => { x with packets := n, data := x.data ++ slice d 1 7, lastAt := s.hw, tmo := 750 })
    if n = tpPackets x.total then s.tpReceived c i
    else if x.kind ≠ 0 ∧ n = x.window then s.tpCts c i else s

/-! ### Sending -/

/-- The packets of a granted window go out. -/
def State.tpSendWindow (s : State) (c i next n : Nat) : State :=
  let x := s.tpSess c i
  match x.op with
  | none => s
  | some op =>
    let etp := x.kind == 2
    let s := if etp then s.tpCm c x.prio x.peer true (b8 22 ++ b8 n ++ leB 3 (next - 1)) x.pgn else s
    let s := (List.range n).foldl (fun (s : State) j =>
      let k := next - 1 + j
      let d := (s.regionRead op.win x.desc (7 * k) (min 7 (x.total - 7 * k)) ++ List.replicate 7 255).take 7
      s.keeperSend c (tpId x.prio (tpPf etp true) x.peer (s.canCh c).tpAddr) (b8 (if etp then j + 1 else k + 1) ++ d)) s
    s.modTp c i (fun x => { x with packets := next - 1 + n, lastAt := s.hw, tmo := 1250 })

/-- A clear to send from the peer: no packets keep the connection open. -/
def State.tpClear (s : State) (c i n next : Nat) : State :=
  let x := s.tpSess c i
  if n = 0 then s.modTp c i (fun x => { x with lastAt := s.hw, tmo := 1050 })
  else if next = 0 ∨ next > tpPackets x.total then s
  else s.tpSendWindow c i next (min n (tpPackets x.total + 1 - next))

/-! ### The host-assisted engine (R354) -/

/-- The function's key. -/
def canKey (c : Nat) : Nat := hostKey 0x30 0 c

/-- The deadline runs for the oldest answer awaited; a checkpoint stop that overlaps an answer's 200 ms has moved its start (01
R35). -/
def State.canHostRefresh (s : State) (c : Nat) : State :=
  match (s.canCh c).hostWait with
  | [] => s.modHost (canKey c) (fun h => { h with got := true })
  | w :: _ => s.modHost (canKey c) (fun h => { h with got := false, tk := w.2.1, d := 200000000, period := 0 })

/-- An answer to a peer is awaited from now. -/
def State.canAwait (s : State) (c peer : Nat) (etp : Bool) : State :=
  (s.modCan c (fun x => { x with hostWait := x.hostWait.filter (fun w => w.1 != peer) ++ [(peer, s.hw + s.ckptExt (canKey c) s.hw, etp)] })).canHostRefresh c

/-- A checkpoint stop of `len` ns from `now` gives each answer that the partition owes so much more time (01 R35). -/
def State.canStop (s : State) (now len c : Nat) : State :=
  let h := s.hostFn (canKey c)
  if !h.host || h.owner < 0x10 || (s.canCh c).hostWait.isEmpty then s
  else (s.modCan c (fun x => { x with hostWait := x.hostWait.map (fun w =>
      if w.2.1 ≤ now + len ∧ now ≤ w.2.1 + 200000000 then (w.1, w.2.1 + len, w.2.2) else w) })).canHostRefresh c

/-- The first miss is the safe action (R354): Connection Abort reason 3 to the peer. The PGN of the abort is that of no known
session and is a free value. -/
def State.canMiss (s : State) (c : Nat) : State :=
  match (s.canCh c).hostWait with
  | [] => s
  | w :: _ =>
    let (pgn, s) := s.drawNat
    let s := s.tpSendAbort c w.1 3 (pgn % 2 ^ 18) w.2.2
    (s.modCan c (fun x => { x with hostWait := x.hostWait.drop 1, hostWin := x.hostWin.filter (fun h => h.1 != w.1) })).canHostRefresh c

/-- KEEPER.MODE's further condition: a hold-last count other than 0 is OUT_OF_RANGE (R354). -/
def canModeOk (inst hold : Nat) : Bool := decide (inst < 8) && hold == 0

/-- A protocol frame while the partition runs the engine: an RTS to the source address, and the last packet of a window that
the partition asked for, start the deadline. -/
def State.canHostFrame (s : State) (c pf ps sa : Nat) (d : List Byte) : State :=
  let x := s.canCh c
  if ps ≠ x.tpAddr then s
  else if (pf = 0xEC ∧ u8 d 0 = 16) ∨ (pf = 0xC8 ∧ u8 d 0 = 20) then s.canAwait c sa (pf == 0xC8)
  else if pf = 0xEB ∨ pf = 0xC7 then
    match x.hostWin.find? (fun h => h.1 == sa) with
    | none => s
    | some h =>
      let rest := x.hostWin.filter (fun h => h.1 != sa)
      if h.2 ≤ 1 then (s.modCan c (fun x => { x with hostWin := rest })).canAwait c sa (pf == 0xC7)
      else s.modCan c (fun x => { x with hostWin := (sa, h.2 - 1) :: rest })
  else s

/-- A frame that the partition puts on the bus: a TP.CM frame to a peer is its answer, a CTS asks for a window. -/
def State.canHostSent (s : State) (c id : Nat) (d : List Byte) : State :=
  let x := s.canCh c
  let pf := bits id 23 16
  let peer := bits id 15 8
  if !s.isHost (canKey c) || !bit id 31 || bits id 7 0 != x.tpAddr || !(pf == 0xEC || pf == 0xC8) then s
  else
    let ask := (pf == 0xEC && u8 d 0 == 17) || (pf == 0xC8 && u8 d 0 == 21)
    let waited := x.hostWait.any (fun w => w.1 == peer)
    let s := s.modCan c (fun x => { x with
      hostWait := x.hostWait.filter (fun w => w.1 != peer),
      hostWin := (if ask && u8 d 1 != 0 then [(peer, u8 d 1)] else []) ++ x.hostWin.filter (fun h => h.1 != peer) })
    let s := if waited then (s.hostResult (canKey c)).1 else s
    s.canHostRefresh c

/-! ### Frames to the engine -/

/-- A connection management or data frame from a peer, to the engine in hardware mode. -/
def State.tpFrame (s : State) (c pf ps sa : Nat) (d : List Byte) : State :=
  let x := s.canCh c
  let etp := decide (pf = 0xC8 ∨ pf = 0xC7)
  let kind := if etp then 2 else 1
  let ctrl := u8 d 0
  let rx := s.tpFind c false sa false
  let tx := s.tpFind c true sa false
  let ofKind (o : Option Nat) : Option Nat := o.filter (fun i => (s.tpSess c i).kind == kind)
  let forUs := ps == x.tpAddr
  if pf = 0xEB ∨ pf = 0xC7 then
    if ps = 255 ∧ !etp then match s.tpFind c false sa true with | some i => s.tpData c i ctrl d | none => s
    else if forUs then match ofKind rx with | some i => s.tpData c i ctrl d | none => s
    else s
  else if ps = 255 then
    if !etp ∧ ctrl = 32 ∧ 9 ≤ u16 d 1 ∧ u16 d 1 ≤ 1785 ∧ u8 d 3 = tpPackets (u16 d 1) then s.tpBam c sa (u16 d 1) (tpPgn d) else s
  else if !forUs then s
  else if ctrl = 255 then
    match ofKind rx, ofKind tx with
    | some i, _ => if (s.tpSess c i).pgn = tpPgn d then s.tpAbort c i (u8 d 1) else s
    | none, some i => if (s.tpSess c i).pgn = tpPgn d then s.tpAbort c i (u8 d 1) else s
    | none, none => s
  else if !etp then
    match ctrl, tx with
    | 16, _ => if 9 ≤ u16 d 1 ∧ u16 d 1 ≤ 1785 ∧ u8 d 3 = tpPackets (u16 d 1) then s.tpRts c sa (u16 d 1) (tpPgn d) (u8 d 4) false else s
    | 17, some i => if (s.tpSess c i).kind = 1 then s.tpClear c i (u8 d 1) (u8 d 2) else s
    | 19, some i => if (s.tpSess c i).kind = 1 then s.tpDone c i else s
    | _, _ => s
  else
    match ctrl, tx, rx with
    | 20, _, _ => if 1786 ≤ u32 d 1 ∧ u32 d 1 ≤ 117440505 then s.tpRts c sa (u32 d 1) (tpPgn d) 255 true else s
    | 21, some i, _ => if (s.tpSess c i).kind = 2 then s.tpClear c i (u8 d 1) (u16 d 2 + 65536 * u8 d 4) else s
    | 22, _, some i =>
      if (s.tpSess c i).kind = 2 then
        s.modTp c i (fun x => { x with dpo := u16 d 2 + 65536 * u8 d 4, window := min x.window (u16 d 2 + 65536 * u8 d 4 + u8 d 1), lastAt := s.hw,
                                       tmo := 750 })
      else s
    | 23, some i, _ => if (s.tpSess c i).kind = 2 then s.tpDone c i else s
    | _, _, _ => s

/-- Keeper's transport takes a frame; in a Keeper pause it waits for the release (R355). -/
def State.tpTake (s : State) (c id : Nat) (d : List Byte) : State :=
  let pf := bits id 23 16
  if !(s.canCh c).tpOn || !bit id 31 || bits id 25 24 != 0 || !(pf == 0xEC || pf == 0xEB || pf == 0xC8 || pf == 0xC7) then s
  else if s.isHost (canKey c) then s.canHostFrame c pf (bits id 15 8) (bits id 7 0) d
  else if s.keeper.paused then s.modCan c (fun x => { x with tpHeld := x.tpHeld ++ [(id, d)] })
  else s.tpFrame c pf (bits id 15 8) (bits id 7 0) d

/-- The frames that a Keeper pause held go to the transport. -/
def State.tpResume (s : State) : State :=
  (List.range 8).foldl (fun (s : State) c =>
    (s.canCh c).tpHeld.foldl (fun (s : State) f => s.tpTake c f.1 f.2) (s.modCan c (fun x => { x with tpHeld := [] }))) s

/-- CAN_TP_TIMEOUT (R351): Tr, Th and T1-T4; a session whose timeout expires is aborted with reason 3. -/
def execCanTpTimeout (ch i : Nat) (s : State) : Out :=
  .next (
    let x := s.tpSess ch i
    if !s.canRuns ch || s.keeper.paused || decide (i ≥ (s.canCh ch).sessions.length) || x.tmo == 0 || s.isHost (canKey ch) then s
    else
      let s := s.waitTo (x.lastAt + x.tmo * 1000000)
      (if x.kind = 0 then s else s.tpSendAbort ch x.peer 3 x.pgn (x.kind == 2)).tpAbort ch i 3)

/-- CAN_TP_BAM_PACKET (R351): the BAM spacing elapses and the next packet is requested; after the last the send is done. -/
def execCanTpBamPacket (ch i : Nat) (s : State) : Out :=
  .next (
    let x := s.tpSess ch i
    if !s.canRuns ch || s.keeper.paused || !x.send || x.kind != 0 || s.isHost (canKey ch) then s
    else
      let s := s.waitTo x.nextAt
      let s := s.tpSendWindow ch i (x.packets + 1) 1
      let s := s.modTp ch i (fun x => { x with tmo := 0, nextAt := s.hw + (s.canCh ch).tpBamMs * 1000000 })
      if x.packets + 1 ≥ tpPackets x.total then s.tpDone ch i else s)

/-- CAN.TP (R351): a change ends the sessions that run under the old settings; the abort reason is not stated. -/
def verbCanTp : Verb :=
  { unit := 0x30, verb := 0x17, lenOk := lenIs 8, instOk := instLt 8, query := false, rt := false, perm := none,
    body := fun r s =>
      let p := r.payload
      let c := r.inst
      let d := u8 p 4
      if u8 p 0 > 1 ∨ u8 p 1 > 253 ∨ u8 p 2 = 0 ∨ u8 p 2 > 16 ∨ u8 p 3 < 50 ∨ u8 p 3 > 200 ∨ d > 63 then (s, stRange, [])
      else match (if u8 p 0 = 1 then s.regionCheck r.win d 65536 else none) with
        | some st => (s, st, [])
        | none =>
          let (why, s) := s.drawNat
          let s := s.tpAbortAll c (why % 256)
          let s := s.modCan c (fun x => { x with
            tpOn := u8 p 0 == 1, tpAddr := u8 p 1, tpCts := u8 p 2, tpBamMs := u8 p 3, tpWin := r.win, tpDesc := d, tpProd := 0, tpCons := 0,
            tpRefused := 0, hostWait := [], hostWin := [] })
          let s := s.canHostRefresh c
          let s := if u8 p 0 = 1 then s.regionWrite r.win d 0 (b32 0 ++ b32 0 ++ b32 (s.tpArea c) ++ b32 0) else s
          (s.dirty, stDone, []) }

/-- CAN.TP_SEND (R353). -/
def verbCanTpSend : Verb :=
  { unit := 0x30, verb := 0x18, lenOk := lenIs 12, instOk := instLt 8, query := false, rt := false, perm := none,
    body := fun r s =>
      let p := r.payload
      let c := r.inst
      let x := s.canCh c
      let d := u8 p 0
      let dest := u8 p 1
      let len := u32 p 8
      let bam := dest == 255
      if d > 63 ∨ u8 p 2 > 7 ∨ len < 9 ∨ len > (if bam then 1785 else 117440505) then (s, stRange, [])
      else match s.regionCheck r.win d len with
        | some st => (s, st, [])
        | none =>
          if !x.tpOn ∨ s.isHost (canKey c) ∨ !x.usable ∨ s.tpCount c true ≥ 16 ∨ (s.tpFind c true dest bam).isSome then (s, stBusy, [])
          else
            let etp := decide (len > 1785)
            let s := s.regionBegin r.win d r.tag false
            let s := s.modCan c (fun y => { y with sessions := y.sessions ++ [
              { TpSession.reset with active := true, send := true, kind := if bam then 0 else if etp then 2 else 1, peer := dest, dest := dest,
                                     pgn := u32 p 4 % 2 ^ 24, prio := u8 p 2, total := len, op := some { win := r.win, tag := r.tag }, desc := d,
                                     lastAt := s.hw, tmo := if bam then 0 else 1250, nextAt := s.hw + x.tpBamMs * 1000000 }] })
            let head := if bam then b8 32 ++ b16 len ++ b8 (tpPackets len) ++ [255]
              else if etp then b8 20 ++ b32 len else b8 16 ++ b16 len ++ b8 (tpPackets len) ++ [255]
            (s.tpCm c (u8 p 2) dest etp head (u32 p 4), stAccepted, []) }

/-- CAN.TP -/
def execCanTp (r : Req) (s : State) : Out := mailboxRow verbCanTp r s
/-- CAN.TP_SEND -/
def execCanTpSend (r : Req) (s : State) : Out := mailboxRow verbCanTpSend r s

end Sys2Proof.Machine
end

