-- ==== Sys2Proof/Machine/Time.lean ====
section
/-! DEFINITION. Machine/Time.lean: discipline, holdover and the 802.1AS role of the TIME unit (03 R77-R80). States as
TIME_STATUS numbers them: 0 FREE, 1 LOCKED, 2 HOLDOVER, 3 FOLLOWER. -/

namespace Sys2Proof.Machine

/-- TIME runs. -/
def State.timeRuns (s : State) : Bool := s.trunkOn && s.running 0x02 0

/-- ERR_EST (R78): the estimate last made, which grows while TIME is not LOCKED. -/
def State.errNow (s : State) : Nat :=
  if s.time.state = 1 ∨ s.hw = s.time.errAt then s.time.errEst
  else satAdd 32 s.time.errEst (Config.holdDrift s.time.errEst (s.hw - s.time.errAt))

/-- The clockClass that Heartwood advertises as a grandmaster (R79). -/
def State.clockClass (s : State) : Nat := match s.time.state with | 1 => 6 | 2 => 7 | _ => 248

/-- Heartwood advertises itself as a grandmaster: as GRANDMASTER, or in AUTO while no better one is selected (R79). -/
def State.advertises (s : State) : Bool :=
  s.timeRuns && (s.time.role == 1 || (s.time.role == 3 && !s.time.gmSelected))

/-- What it advertises: priority1 as configured, and its clockClass (R79). -/
def State.advertised (s : State) : Option (Nat × Nat) := if s.advertises then some (s.time.priority1, s.clockClass) else none

/-- A remote grandmaster of this priority1 and clockClass is better than this module's clock (R79): best-master selection
compares priority1 first, then clockClass; between equals the rest of the comparison decides, `tie`. -/
def State.betterMaster (s : State) (prio cls : Nat) (tie : Bool) : Bool :=
  decide (prio < s.time.priority1) ||
    (prio == s.time.priority1 && (decide (cls < s.clockClass) || (cls == s.clockClass && tie)))

/-- TIME takes a state: TIME/STATE (R80). -/
def State.timeTo (s : State) (new cause : Nat) : State :=
  let old := s.time.state
  if old = new then s
  else
    let s := { s with time.state := new, time.holdSince := if new = 2 then s.hw else s.time.holdSince }
    s.post 2 0 1 0x0020 0 old new cause

/-- GPS_OFS is set at a lock (R77), from the last usable PPS: at the first of an epoch, and at the first after a trunk start if the
error exceeds 1 ms. -/
def State.setOffset (s : State) : State :=
  let new := s.time.ppsOfs
  let err := (new - s.time.gpsOfs).natAbs
  let first := !s.time.ofsValid
  let again := !s.time.ofsThisStart && decide (err > 1000000)
  let s := { s with time.ofsThisStart := true }
  if first || again then
    let o := ofSigned 64 new
    ({ s with time.gpsOfs := new, time.ofsValid := true, time.ofsEpoch := true } : State).post 2 0 1 0x0021 0 (o % 2 ^ 32) (o / 2 ^ 32) (min err 0xFFFFFFFF)
  else s

/-- The lock condition holds: a usable PPS within 100 ns for 10 s (R77). -/
def State.timeLocks (s : State) : Bool :=
  s.time.pps && (match s.time.lockSince with | some t => decide (s.hw ≥ t + 10000000000) | none => false)

/-- The state that the GNSS condition gives (R77). -/
def State.gnssTime (s : State) : Nat := if s.timeLocks then 1 else if s.time.ofsEpoch then 2 else 0

/-- TIME follows: its role is FOLLOWER, or AUTO with a better remote grandmaster (R77, R79). -/
def State.follows (s : State) : Bool := s.time.role == 2 || (s.time.role == 3 && s.time.gmSelected)

/-- The follower role ends (R77); the cause is the GNSS condition's. -/
def State.timeUnfollow (s : State) : State :=
  if s.time.state ≠ 3 then s
  else
    let n := s.gnssTime
    (if n = 1 then s.setOffset else s).timeTo n (if n = 1 then 1 else 2)

/-- The follower role is taken, unless its grandmaster is lost. -/
def State.timeFollow (s : State) : State :=
  if s.follows && !s.time.gmLost && s.time.state != 3 then
    ({ s with time.lastSync := s.hw } : State).timeTo 3 4
  else s

/-- The rate is steered and the error estimated anew (R74, R78, R79). How is not stated: free values, the rate within 100 ppm. -/
def State.timeSteer (s : State) : State :=
  let (e, s) := s.drawNat
  let (r, s) := s.drawNat
  { s with time.errEst := e % 2 ^ 32, time.errAt := s.hw, time.steer := (r % 200001 : Nat) - 100000 }

/-- TIME_PPS (R77, R78): a PPS with its phase error in ns, whether it is usable, GPS time at it, and the leap seconds if
received. As FOLLOWER the PPS steers nothing: it keeps GPS_OFS only (R79). -/
def execTimePps (phase : Int) (valid : Bool) (gps : Int) (leap : Option Nat) (s : State) : Out :=
  .next (
    if !s.timeRuns then s
    else
      let ok := valid && !(s.gnss.fix == 0 || s.gnss.fix == 5)
      if !ok then { s with time.pps := false, time.lockSince := none }
      else
        let near := decide (phase.natAbs ≤ 100)
        let s := { s with time.pps := true, time.lastPps := s.hw, time.ppsOfs := gps - (s.hw : Int),
                          time.lockSince := if near then some (s.time.lockSince.getD s.hw) else none,
                          time.leap := leap.getD s.time.leap, time.leapValid := s.time.leapValid || leap.isSome }
        let s := if s.time.state = 3 then s else s.timeSteer
        if s.timeLocks then
          let s := if s.time.state = 1 then s else s.setOffset
          if s.time.state = 0 ∨ s.time.state = 2 then s.timeTo 1 1 else s
        else s)

/-- The PPS is not usable: TIME leaves LOCKED (R77). -/
def State.ppsDrop (s : State) (cause : Nat) : State :=
  if !s.timeRuns then s
  else
    let s := { s with time.pps := false, time.lockSince := none }
    if s.time.state = 1 then s.timeTo 2 cause else s

/-- The GNSS time solution is invalid at this fix type (07 R183). -/
def fixInvalid (fix : Nat) : Bool := fix == 0 || fix == 5

/-- TIME_PPS_ABSENT (R77): absent or excluded for 2 s, or the GNSS solution invalid. -/
def execTimePpsAbsent (s : State) : Out :=
  .next (
    if !s.timeRuns then s
    else if fixInvalid s.gnss.fix then s.ppsDrop 3
    else (s.waitTo (s.time.lastPps + 2000000000)).ppsDrop 2)

/-- A sync from a grandmaster (R79, R80): in AUTO a better remote one is selected; TIME/GM_LOST ends; the follower's rate is
steered to it. -/
def State.timeSync (s : State) (gm : Nat) : State :=
  if !s.timeRuns then s
  else
    let lost := s.time.gmLost
    let s := { s with time.gmSelected := true, time.gmId := gm, time.lastSync := s.hw, time.gmLost := false }
    let s := (if lost then s.clearFault 0x0022 0x02 0 else s).timeFollow
    if s.time.state = 3 then s.timeSteer else s

/-- Best-master selection no longer gives a remote grandmaster. -/
def State.timeGmEnd (s : State) : State :=
  let s := { s with time.gmSelected := false }
  if s.follows then s else s.timeUnfollow

/-- TIME_GM_LOST (R77, R80): no sync for 3 s. -/
def execTimeGmLost (s : State) : Out :=
  .next (
    if !s.timeRuns || s.time.state != 3 then s
    else
      let s := s.waitTo (s.time.lastSync + 3000000000)
      let s := { s with time.gmLost := true, time.gmSelected := false }
      let s := s.raiseEv 2 0 1 0x0022 2 0 s.time.gmId ((s.hw - s.time.lastSync) / 1000000) 0
      let n := s.gnssTime
      (if n = 1 then s.setOffset else s).timeTo n 5)

/-- TIME.ROLE (R79). A role that ends the follower role ends TIME/GM_LOST too (R80). -/
def verbTimeRole : Verb :=
  { unit := 0x02, verb := 0x10, lenOk := lenIs 4, instOk := inst0, query := false, rt := false, perm := none,
    body := fun r s =>
      let role := u8 r.payload 0
      if role > 3 then (s, stRange, [])
      else
        let old := s.time.role
        let s := { s with time.role := role, time.priority1 := u8 r.payload 1 }
        let s := if s.follows then s.timeFollow
          else
            let s := if s.time.gmLost ∧ role ≠ old then ({ s with time.gmLost := false } : State).clearFault 0x0022 0x02 0 else s
            s.timeUnfollow
        (s.dirty, stDone, []) }

/-- TIME.ROLE -/
def execTimeRole (r : Req) (s : State) : Out := mailboxRow verbTimeRole r s

end Sys2Proof.Machine
end

