-- ==== Sys2Proof/Machine/Gnss.lean ====
section
/-! DEFINITION. Machine/Gnss.lean: GNSS, the IMU and guidance (07). What the baseband and the estimator find at an epoch (signals,
clocks, solutions of sets of constellations, attitude) is the operand of the epoch; the checks, the acceptance, holdover and what
is published are the model's, with the geodesy as uninterpreted functions of Config (log entry 76). -/

namespace Sys2Proof.Machine

/-- Change the GNSS unit. -/
def State.modGnss (s : State) (f : Gnss → Gnss) : State := { s with gnss := f s.gnss }
/-- An antenna input. -/
def State.ant (s : State) (i : Nat) : Antenna := tget Antenna.reset s.gnss.ants i
/-- Change an antenna input. -/
def State.modAnt (s : State) (i : Nat) (f : Antenna → Antenna) : State :=
  s.modGnss (fun g => { g with ants := tmod Antenna.reset g.ants i f })

/-- The antenna input exists on the variant (R174). -/
def antFitted (v : Variant) (i : Nat) : Bool := decide (1 ≤ i ∧ i ≤ antennas v)

/-- Non-negative square root, correctly rounded. -/
def fSqrt (a : F32) : F32 :=
  match fD a with
  | .fin false m e =>
    let (m, e) := if e % 2 = 0 then (m, e) else (2 * m, e - 1)
    let q := Nat.sqrt (m * 2 ^ 64)
    BitVec.ofNat 32 (fpEncode 8 23 false q ((e - 64) / 2) (decide (q * q ≠ m * 2 ^ 64)))
  | _ => fNaN

/-! ### Antenna supplies (R175) -/

/-- GNSS_ANT_OPEN: current below 4 mA for 1 s with the supply on. -/
def execGnssAntOpen (inst cur : Nat) (s : State) : Out :=
  .next (
    let a := s.ant inst
    if antFitted s.variant inst && s.running 0x40 0 && a.on && !a.openF && !a.shortF && decide (cur < 4) then
      (s.modAnt inst (fun a => { a with openF := true })).raiseEv 0x40 inst (212 + inst) 0x8002 2 inst cur 0 0
    else s)

/-- GNSS_ANT_OPEN_END: current at or above 6 mA for 1 s. -/
def execGnssAntOpenEnd (inst cur : Nat) (s : State) : Out :=
  .next (
    let a := s.ant inst
    if antFitted s.variant inst && s.running 0x40 0 && a.on && a.openF && decide (cur ≥ 6) then
      (s.modAnt inst (fun a => { a with openF := false })).clearFault 0x8002 0x40 inst
    else s)

/-- GNSS_ANT_SHORT: current above 130 mA for 10 ms switches the supply off; retried every 5 s. -/
def execGnssAntShort (inst cur : Nat) (s : State) : Out :=
  .next (
    let a := s.ant inst
    if antFitted s.variant inst && s.running 0x40 0 && a.on && !a.shortF && decide (cur > 130) then
      (s.modAnt inst (fun a => { a with shortF := true, retryAt := s.hw + 5000000000, retries := 0 })).raiseEv
        0x40 inst (212 + inst) 0x8003 3 inst cur 0 0
    else s)

/-- GNSS_ANT_RETRY: a retry; one that holds at most 100 mA for 1 s ends the short. `cur` is the largest current of the retry. -/
def execGnssAntRetry (inst cur : Nat) (s : State) : Out :=
  .next (
    let a := s.ant inst
    if antFitted s.variant inst && s.running 0x40 0 && a.on && a.shortF then
      let s := s.waitTo a.retryAt
      if cur ≤ 100 then
        let s := s.waitTo (s.hw + 1000000000)
        (s.modAnt inst (fun a => { a with shortF := false, retries := a.retries + 1 })).clearFault 0x8003 0x40 inst
      else s.modAnt inst (fun a => { a with retries := a.retries + 1, retryAt := s.hw + 5000000000 })
    else s)

/-! ### Corrections (R177) -/

/-- One bit of CRC-24Q. -/
def crc24Bit (c : Nat) : Nat := if c ≥ 2 ^ 23 then (2 * c) % 2 ^ 24 ^^^ 0x864CFB else 2 * c

/-- CRC-24Q: polynomial 0x1864CFB, start value 0. -/
def crc24q (p : List Byte) : Nat :=
  p.foldl (fun c b => (List.range 8).foldl (fun c _ => crc24Bit c) (c ^^^ (b.toNat * 65536))) 0

/-- Bytes join the RTCM stream. -/
def State.rtcmFeed (s : State) (p : List Byte) : State := s.modGnss (fun g => { g with rtcm := g.rtcm ++ p })

/-- The stream from its first preamble on. -/
def rtcmSync : List Byte → List Byte
  | [] => []
  | b :: l => if b = 0xD3 then b :: l else rtcmSync l

/-- The message type of a frame: the first 12 bits after the 3-byte head. -/
def rtcmType (p : List Byte) : Nat := u8 p 3 * 16 + u8 p 4 / 16

/-- The system, as GNSS.CONFIG numbers it, of an MSM4 or MSM7 message that RTK uses (R177). -/
def msmSystem : Nat → Option Nat
  | 1074 => some 0 | 1077 => some 0
  | 1084 => some 3 | 1087 => some 3
  | 1094 => some 1 | 1097 => some 1
  | 1114 => some 4 | 1117 => some 4
  | 1124 => some 2 | 1127 => some 2
  | _ => none

/-- RTK uses messages of this type; others are parsed and ignored (R177). -/
def rtcmUsed (ty : Nat) : Bool := (msmSystem ty).isSome || ty == 1005 || ty == 1006 || ty == 1033 || ty == 1230

/-- Bit `i` of a byte string, the most significant bit of a byte first. -/
def beBit (p : List Byte) (i : Nat) : Bool := (u8 p (i / 8)).testBit (7 - i % 8)

/-- The satellites of an MSM frame: its 64-bit satellite mask stands 73 bits into the message (log entry 78). -/
def msmSats (p : List Byte) : List Nat := ((List.range 64).filter (fun i => beBit p (24 + 73 + i))).map (· + 1)

/-- GNSS_RTCM_FRAME (R177): the next complete frame of the stream is checked and used, ignored for its type, or discarded and
counted. -/
def execGnssRtcmFrame (s : State) : Out :=
  .next (
    let p := rtcmSync s.gnss.rtcm
    let n := (u8 p 1 % 4) * 256 + u8 p 2 + 6
    if !s.running 0x40 0 || decide (p.length < n) || p.isEmpty then s
    else
      let crc := u8 p (n - 3) * 65536 + u8 p (n - 2) * 256 + u8 p (n - 1)
      let ty := rtcmType p
      let s := s.modGnss (fun g => { g with rtcm := p.drop n })
      if crc24q (p.take (n - 3)) ≠ crc then s.modGnss (fun g => { g with rtcmBad := satAdd 32 g.rtcmBad 1 })
      else if !rtcmUsed ty then s
      else s.modGnss (fun g =>
        { g with rtcmFrames := g.rtcmFrames + 1,
                 corrMsgs := tset CorrMsg.reset g.corrMsgs ty
                   { stamp := s.hw, sats := if (msmSystem ty).isSome then msmSats (p.take (n - 3)) else [] } }))

/-- The instant of the newest observation corrections (R178). -/
def State.corrStamp (s : State) : Option Nat :=
  s.gnss.corrMsgs.foldl (fun (b : Option Nat) e => if (msmSystem e.1).isSome then some (max (b.getD 0) e.2.stamp) else b) none

/-- Corrections for a satellite stand that are not older than the limit (R177, R178). -/
def State.corrected (s : State) (x : Nat × Nat) : Bool :=
  s.gnss.corrMsgs.any (fun e => msmSystem e.1 == some x.1 && e.2.sats.contains x.2 &&
    fLe (fFrac (s.hw - e.2.stamp : Nat) 1000000000) s.gnss.ageLimit)

/-! ### Tracking channels (R176) -/

/-- Two signals are of one satellite. -/
def sameSat (a b : NavObs) : Bool := u8 a.bytes 1 == u8 b.bytes 1 && u8 a.bytes 2 == u8 b.bytes 2

/-- The signal to drop next: of the lowest satellite with more than one signal, or of the lowest one if none has; of one
satellite the last listed. -/
def dropPick (l : List NavObs) : Option NavObs :=
  let more := l.filter (fun x => decide ((l.filter (fun y => sameSat x y)).length > 1))
  (if more.isEmpty then l else more).foldl (fun (b : Option NavObs) x => match b with
    | none => some x
    | some y => if x.elev ≤ y.elev then some x else some y) none

/-- Drop `n` signals, those of the lowest satellites first. -/
def dropSignals : Nat → List NavObs → List NavObs
  | 0, l => l
  | n + 1, l => match dropPick l with | none => l | some x => dropSignals n (l.erase x)

/-- The 240 tracking channels of an antenna: the signals visible above the elevation mask. -/
def State.channels (s : State) (a : Nat) (obs : List NavObs) : List NavObs :=
  let l := obs.filter (fun o => u8 o.bytes 0 == a && decide (s.gnss.elev ≤ o.elev))
  dropSignals (l.length - 240) l

/-- The signals tracked on the antennas fitted. -/
def State.tracked (s : State) (obs : List NavObs) : List NavObs :=
  s.channels 1 obs ++ (if antFitted s.variant 2 then s.channels 2 obs else [])

/-! ### Consistency checks (R181) -/

/-- The RF band of a signal code (R174, R176). -/
def codeBand : Nat → Nat
  | 12 => 1 | 13 => 3
  | 3 => 2 | 4 => 2 | 16 => 2
  | 5 => 4 | 7 => 4 | 8 => 4 | 10 => 4 | 11 => 4 | 17 => 4 | 18 => 4
  | _ => 0

/-- A scope is excluded by some check. -/
def State.scopeOut (s : State) (kind ident : Nat) : Bool := s.gnss.scopes.any (fun x => x.kind == kind && x.ident == ident)

/-- The identity of a signal: antenna, signal code, system, satellite. -/
def sigIdent (r : List Byte) : Nat := u8 r 0 * 16777216 + u8 r 3 * 65536 + u8 r 1 * 256 + u8 r 2

/-- GNSS/EXCLUDED or GNSS/READMITTED, at most one a scope in any 10 s. The instance of a band scope is its antenna. -/
def State.scopePost (s : State) (code check kind ident : Nat) : State :=
  if s.gnss.postedScopes.any (fun e => e.1 == kind && e.2.1 == ident && decide (s.hw < e.2.2 + 10000000000)) then s
  else
    let inst := if kind = 3 then ident / 16777216 else 0
    let s := s.modGnss (fun g => { g with postedScopes :=
      (kind, ident, s.hw) :: g.postedScopes.filter (fun e => !(e.1 == kind && e.2.1 == ident)) })
    s.post 0x40 inst 212 code inst check kind (ident % 16777216)

/-- The outcome of a check on a scope: excluded at a failure, re-admitted after 10 s of passing. -/
def State.scopeTest (s : State) (check kind ident : Nat) (pass : Bool) : State :=
  let same (x : Scope) : Bool := x.check == check && x.kind == kind && x.ident == ident
  match s.gnss.scopes.find? same with
  | none =>
    if pass then s
    else
      let x : Scope := { check := check, kind := kind, ident := ident, passSince := none }
      (s.modGnss (fun g => { g with scopes := g.scopes ++ [x] })).scopePost 0x8004 check kind ident
  | some x =>
    let put (p : Option Nat) (s : State) : State := s.modGnss (fun g =>
      { g with scopes := g.scopes.map (fun y => if same y then { y with passSince := p } else y) })
    if !pass then put none s
    else match x.passSince with
      | none => put (some s.hw) s
      | some t =>
        if s.hw ≥ t + 10000000000 then
          (s.modGnss (fun g => { g with scopes := g.scopes.filter (fun y => !same y) })).scopePost 0x8005 check kind ident
        else s

/-- Twice the median of the other constellations' clocks. -/
def clockMedian2 (l : List (Nat × Int)) (sys : Nat) : Int :=
  let ins (t : Int) : List Int → List Int := fun q => q.filter (· ≤ t) ++ [t] ++ q.filter (fun x => decide (t < x))
  let q := (l.filter (fun e => e.1 != sys)).foldl (fun a e => ins e.2 a) []
  q.getD ((q.length - 1) / 2) 0 + q.getD (q.length / 2) 0

/-- Jamming on a band (R181): AGC down by more than 8 dB with C/N0 falling. -/
def State.jamTest (s : State) (obs : List NavObs) (e : Nat × Nat × Int × Int × Int) : State :=
  let (a, b, drop, least, most) := e
  let jam := decide (drop > 80 ∧ least < 0 ∧ most < 0)
  let was := (s.ant a).jammed.testBit b
  let s := s.modAnt a (fun x => { x with jammed := setBit x.jammed b jam })
  if jam && !was then
    let low := (obs.filter (fun o => u8 o.bytes 0 == a && codeBand (u8 o.bytes 3) == b && decide (u8 o.bytes 4 < 100))).length
    s.raiseEv 0x40 a 212 0x8009 2 a (a * 256 + b) drop.toNat low
  else if was && !jam && (s.ant a).jammed == 0 then s.clearFault 0x8009 0x40 a
  else s

/-- The signal stands in S: antenna A, its system selected, no scope of it excluded, no C/N0 below 25 dB-Hz on a jammed band. -/
def State.inSet (s : State) (r : List Byte) : Bool :=
  let a := u8 r 0
  let b := codeBand (u8 r 3)
  a == 1 && s.gnss.systems.testBit (u8 r 1) && !s.scopeOut 1 (sigIdent r) && !s.scopeOut 2 (u8 r 1 * 256) &&
    !s.scopeOut 3 (a * 16777216 + b) && !((s.ant a).jammed.testBit b && decide (u8 r 4 < 100))

/-- The satellites (system, number) of S. -/
def State.satsIn (s : State) (ev : NavEpoch) : List (Nat × Nat) :=
  ((ev.obs.filter (fun o => s.inSet o.bytes)).map (fun o => (u8 o.bytes 1, u8 o.bytes 2))).eraseDups

/-- The clocks that check 2 compares: of the constellations in S, and of those that the check itself keeps out of S. -/
def State.check2 (s : State) (ev : NavEpoch) : List (Nat × Int) :=
  let sys := (s.satsIn ev).map (·.1)
  ev.clocks.filter (fun c => sys.contains c.1 || s.gnss.scopes.any (fun x => x.check == 2 && x.ident == c.1 * 256))

/-- Checks 3, 1 and 2 of the epoch in the order of R182, on the antennas fitted. -/
def State.epochMarks (s : State) (ev : NavEpoch) : State :=
  let s := (ev.agc.filter (fun e => antFitted s.variant e.1)).foldl (fun (s : State) e =>
    (s.jamTest ev.obs e).scopeTest 3 3 (e.1 * 16777216 + e.2.1) (!decide (e.2.2.1 > 80 ∧ e.2.2.2.1 > 30))) s
  let s := ev.obs.foldl (fun (s : State) o => s.scopeTest 1 1 (sigIdent o.bytes) (decide (o.diffMm ≤ 1500))) s
  let sys := (s.satsIn ev).map (·.1)
  let l := s.check2 ev
  l.foldl (fun (s : State) c =>
    -- the constellation itself and the others in S
    let q := l.filter (fun e => e.1 == c.1 || sys.contains e.1)
    if q.length < 3 then s
    else
      let d := 2 * c.2 - clockMedian2 q c.1
      s.scopeTest 2 2 (c.1 * 256) (decide (-60 ≤ d ∧ d ≤ 60))) s

/-- The bound of check 4 in ns, none when it is not applied. -/
def State.gnssStepLimit (s : State) : Option Nat :=
  if s.time.ofsValid && decide (s.errNow ≤ 1000) then some (3 * s.errNow + 50) else none

/-- A solution passes check 4. -/
def clockOk (x : NavSol) (lim : Option Nat) : Bool :=
  match lim with | none => true | some n => decide (x.clockErr.natAbs ≤ n)

/-- The constellations of a mask. -/
def masks (m : Nat) : List Nat := (List.range 7).filter (fun i => m.testBit i)

/-- Solve and apply check 4 (R182): the constellation whose removal brings the clock nearest is excluded until it passes.
Answers the solution, if one passes, and the constellations excluded. -/
def solveLoop (sols : List NavSol) (lim : Option Nat) : Nat → Nat → List Nat → Option NavSol × List Nat
  | 0, _, ex => (none, ex)
  | n + 1, m, ex =>
    match sols.find? (fun x => x.systems == m) with
    | none => (none, ex)
    | some x =>
      if clockOk x lim then (some x, ex)
      else if (masks m).length ≤ 1 then (none, ex)
      else
        let cand := (masks m).filterMap (fun c => (sols.find? (fun (y : NavSol) => y.systems == m - 2 ^ c)).map (fun (y : NavSol) => (c, y.clockErr.natAbs)))
        match cand.foldl (fun (b : Option (Nat × Nat)) e => match b with
            | none => some e
            | some x => if e.2 < x.2 then some e else some x) none with
        | none => (none, ex)
        | some (c, _) => solveLoop sols lim n (m - 2 ^ c) (ex ++ [c])

/-! ### What is published (R179, R180, R187) -/

/-- Wrap an angle into −180 to +180. -/
def wrap180 (a : F32) : F32 :=
  if fLt (fNat 180) a then fSub a (fNat 360) else if fLt a (fInt (-180)) then fAdd a (fNat 360) else a

/-- The three guidance signals of R187. `d` is the distance right of the line, `r` the distance from A. -/
def State.lineSigs (s : State) (t : Nat) (d r h : F32) (hOk : Bool) (fl : Nat) : State :=
  match s.gnss.line with
  | none => ((s.setSig 0x211 fZero t 0).setSig 0x212 fZero t 0).setSig 0x213 fZero t 0
  | some l =>
    let k : Int := if fEq l.spacing fZero then 0 else fRound (fDiv d l.spacing)
    let x := fSub d (fMul (fInt k) l.spacing)
    let e := wrap180 (fSub h l.heading)
    let along := fLe (fAbs e) (fNat 90)
    let fl := if fLt (fNat 20000) r then fl ||| fgRange else fl
    let flH := if hOk then fl else clearBits fl fgValid
    ((s.setSig 0x211 (if along then x else fNeg x) t flH).setSig 0x212
      (if along then e else wrap180 (fSub e (fNat 180))) t flH).setSig 0x213 (fInt k) t fl

/-- A section of Granary is active: its signal valid, not stale and at least 0.5; a section without a signal always (10 R244). -/
def State.sectionOn (s : State) (x : GranSection) : Bool :=
  x.sig == 0xFFFF || (s.sigValid x.sig && !bit (s.sig x.sig).flags 1 && fLe (fFrac 1 2) (s.sig x.sig).value)

/-- Granary's history takes the entry of an epoch and keeps 32 s (10 R244). The solution of a host-assisted epoch, which comes later,
gives the entry its position; its section states are those of the epoch. -/
def State.granEpoch (s : State) (t fix : Nat) : State :=
  if !s.running 0x43 0 then s
  else
    let was := s.granary.hist.find? (fun h => h.stamp == t)
    let act := match was with | some h => h.sections | none => bitSet ((List.range s.granary.sections.length).filter (fun i => s.sectionOn (s.granary.sections.getD i GranSection.reset)))
    let e : GranHist := { stamp := t, east := (s.sig 0x200).value, north := (s.sig 0x201).value, heading := (s.sig 0x208).value,
                          fix := fix, sections := act }
    { s with granary.hist := e :: s.granary.hist.filter (fun h => decide (t < h.stamp + 32000000000) && h.stamp != t) }

/-- The fix type becomes `fix`: GNSS/FIX_CHANGE when it differs; its signal and that of the satellites used stay VALID; without
a time solution TIME loses its PPS (R183). -/
def State.setFix (s : State) (t fix sats : Nat) : State :=
  let old := s.gnss.fix
  let s := s.modGnss (fun g => { g with fix := fix, sats := sats })
  let s := ((s.setSig 0x20E (fNat fix) t fgValid).setSig 0x20F (fNat sats) t fgValid).granEpoch t fix
  let s := if fixInvalid fix then s.ppsDrop 3 else s
  if old = fix then s else s.post 0x40 0 212 0x8001 0 old fix sats

/-- The position of a solution. -/
def solPos (x : NavSol) : F64 × F64 × F64 := (x.lat, x.lon, x.height)

/-- The heading by course and IMU becomes valid once the ground speed has been at least 1 m/s for 2 s (R180). -/
def State.headRun (s : State) (t : Nat) (speed : F32) : State :=
  let fast := fLe fOne speed
  s.modGnss (fun g =>
    { g with headFast := if fast then some (g.headFast.getD t) else none,
             headOk := g.headOk || (match g.headFast with | some t0 => fast && decide (t ≥ t0 + 2000000000) | none => false) })

/-- The signals of a solution with its epoch's stamp; `subst` in holdover. -/
def State.publish (s : State) (t fix sats : Nat) (x : NavSol) (subst : Bool) : State :=
  let fl := fgValid ||| (if subst then fgSubst else 0)
  let v (i : Nat) : F32 := x.vel.getD i fZero
  let speed := fSqrt (fAdd (fMul (v 0) (v 0)) (fMul (v 1) (v 1)))
  let cog := Config.course (v 0) (v 1)
  let a := s.gnss.att
  let s := s.headRun t speed
  let h2 := Config.courseHeading cog speed (s.sig 0x208).value a.yaw
  let mode1 := s.gnss.headMode == 1
  let (h, src) : F32 × Nat := match mode1, a.dual with
    | true, some h => (h, 1)
    | _, _ => (h2, if s.gnss.headOk then 2 else 0)
  let flH := (if src = 0 then clearBits fl fgValid else fl) ||| (if mode1 && src != 1 then fgSubst else 0)
  let ant := s.ant 1
  let cp := Config.controlPoint (solPos x) [ant.px, ant.py, ant.pz] a.roll a.pitch h
  let (e, n, u) := match s.gnss.origin with | some o => Config.localFrame o cp | none => (fZero, fZero, fZero)
  let far := fLt (fNat 2500000000) (fAdd (fMul e e) (fMul n n))
  let flE := if s.gnss.origin.isNone then 0 else if far then fl ||| fgRange else fl
  let s := ((s.setSig 0x200 e t flE).setSig 0x201 n t flE).setSig 0x202 u t flE
  let s := ((s.setSig 0x203 (v 0) t fl).setSig 0x204 (v 1) t fl).setSig 0x205 (v 2) t fl
  let s := ((s.setSig 0x206 speed t fl).setSig 0x207 cog t fl).setSig 0x208 h t flH
  let s := ((s.setSig 0x209 a.pitch t fl).setSig 0x20A a.roll t fl).setSig 0x20B a.yaw t fl
  let s := ((s.setSig 0x20C x.hAcc t fl).setSig 0x20D a.headAcc t fl).setSig 0x210 s.gnss.corrAge t fl
  let (d, r) := match s.gnss.line with | some l => Config.lineFrame l.lat l.lon l.heading cp | none => (fZero, fZero)
  let s := s.lineSigs t d r h (src != 0) fl
  let s := s.modGnss (fun g => { g with lat := cp.1, lon := cp.2.1, height := cp.2.2, hAcc := x.hAcc, epochStamp := t, headSrc := src,
                                        dr := some x, guardShown := false })
  s.setFix t fix sats

/-- At fix type 0 every signal but the fix type and the satellite count has VALID clear. -/
def State.unfix (s : State) (t : Nat) : State :=
  let s := (List.range 0x14).foldl (fun (s : State) i =>
    if i = 0x0E ∨ i = 0x0F then s else s.modFlags (0x200 + i) (fun f => clearBits f (fgValid ||| fgSubst))) s
  (s.modGnss (fun g => { g with headSrc := 0 })).setFix t 0 0

/-! ### Acceptance and holdover (R183, R184) -/

/-- The wheel speed may be used. -/
def State.wheelOk (s : State) : Bool := decide (s.gnss.wheelSig < 0x1000) && s.sigValid s.gnss.wheelSig
/-- The IMU signals may be used. -/
def State.imuOk (s : State) : Bool := (List.range 6).all (fun i => s.sigValid (0xF0 + i))

/-- The dead-reckoning limit in force, s. -/
def State.drLimit (s : State) : Nat :=
  if !s.wheelOk && !s.imuOk then 0 else if s.wheelOk && s.imuOk then s.gnss.drLimit else min 5 s.gnss.drLimit

/-- The wheel speed in m/s, where it may be used. -/
def State.wheelSpeed (s : State) : Option F32 :=
  if s.wheelOk then some (fMul (s.sig s.gnss.wheelSig).value s.gnss.wheelScale) else none

/-- The last epoch's solution carried on to this one by the IMU and the wheels (R183). -/
def State.reckoned (s : State) : Option NavSol :=
  s.gnss.dr.map (fun x =>
    let (p, v, a) := Config.reckon (solPos x) x.vel (s.sig 0x208).value (if s.imuOk then s.imu.recent else []) s.wheelSpeed 50000000
    { x with lat := p.1, lon := p.2.1, height := p.2.2, vel := v, hAcc := a })

/-- The epoch runs in holdover, or has no solution at all where nothing can be reckoned from. -/
def State.holdEpoch (s : State) (t cause : Nat) : State :=
  if s.gnss.fix = 0 then s.unfix t
  else
    let since := s.gnss.holdSince.getD t
    let lim := s.drLimit
    let s := s.modGnss (fun g => { g with holdSince := some since })
    let s := if s.gnss.holdF then s
      else (s.modGnss (fun g => { g with holdF := true })).raiseEv 0x40 0 212 0x8006 3 0 cause lim 0
    if t ≥ since + lim * 1000000000 then
      let s := (s.modGnss (fun g => { g with holdSince := none, invalid := true, passSince := none })).unfix t
      s.raiseEv 0x40 0 212 0x8007 4 0 ((t - since) / 1000000) 0 0
    else s.publish t 5 0 (s.gnss.dr.getD {}) true

/-- A rejected epoch. One that check 5 did not come to ends the run of epochs beyond 5 σ (R181). -/
def State.rejectEpoch (s : State) (t cause : Nat) : State :=
  (s.modGnss (fun g => { g with rejected := (g.rejected + 1) % 2 ^ 32, passSince := none,
                                check5Run := if cause = 3 then g.check5Run else 0 })).holdEpoch t cause

/-- Check 5 on a difference and the combined 1σ: more than 5 σ on 3 consecutive epochs, or more than 10 σ. -/
def State.check5 (s : State) (diff sigma : Nat) : State × Bool :=
  let n := if diff > 5 * sigma then s.gnss.check5Run + 1 else 0
  (s.modGnss (fun g => { g with check5Run := n }), decide (diff ≤ 10 * sigma ∧ n < 3))

/-- Check 5 on a solution against the dead-reckoned one of the epoch (R181). -/
def State.agrees (s : State) (x : NavSol) : State × Bool :=
  let y := s.gnss.dr.getD {}
  s.check5 (Config.horizontalMm (solPos x) (solPos y)) (Config.combinedMm x.hAcc y.hAcc)

/-- The whole solution is excluded by check 5. -/
def State.excludeSolution (s : State) : State :=
  let s := s.modGnss (fun g => { g with scopes := g.scopes.filter (fun y => y.kind != 4) })
  s.scopeTest 5 4 0 false

/-- An epoch is accepted. After GNSS/INVALID check 5 resumes from it (R184). -/
def State.acceptEpoch (s : State) (t fix sats : Nat) (x : NavSol) : State :=
  let s := if s.scopeOut 4 0 then
    (s.modGnss (fun g => { g with scopes := g.scopes.filter (fun y => y.kind != 4) })).scopePost 0x8005 5 4 0 else s
  let s := if s.gnss.holdF then s.clearFault 0x8006 0x40 0 else s
  let s := if s.gnss.invalid then s.clearFault 0x8007 0x40 0 else s
  let s := s.modGnss (fun g => { g with holdF := false, invalid := false, holdSince := none, passSince := none,
                                        check5Run := if g.invalid then 0 else g.check5Run })
  let s := s.publish t fix sats x false
  if s.gnss.corrLost && decide (fix = 3 ∨ fix = 4) then
    (s.modGnss (fun g => { g with corrLost := false })).clearFault 0x8008 0x40 0 else s

/-- The fix type the solution reaches (R178, R182). -/
def State.fixOf (s : State) (x : NavSol) (corr : Nat) : Nat :=
  let ok := s.gnss.corrSrc != 0 && s.corrStamp.isSome && fLe s.gnss.corrAge s.gnss.ageLimit
  if x.fix ≥ 3 ∧ !ok then x.fixNoCorr else if x.fix ≥ 4 ∧ corr < 6 then 3 else x.fix

/-- The correction age of the epoch: GNSS/CORR_LOST while a selected source's corrections are older than the limit (R178). -/
def State.corrEpoch (s : State) : State :=
  let age := match s.corrStamp with | some t => fFrac (s.hw - t : Nat) 1000000000 | none => Config.noCorrAge
  let s := s.modGnss (fun g => { g with corrAge := age })
  if s.gnss.corrSrc ≠ 0 ∧ s.corrStamp.isSome ∧ fLt s.gnss.ageLimit age ∧ !s.gnss.corrLost then
    (s.modGnss (fun g => { g with corrLost := true })).raiseEv 0x40 0 215 0x8008 1 0 (fRound age 10).toNat s.gnss.corrSrc 0
  else s

/-- Check 4 readmits a constellation that passes with the solution's set. -/
def State.readmit4 (s : State) (ev : NavEpoch) (m : Nat) (just : List Nat) : State :=
  let lim := s.gnssStepLimit
  (s.gnss.scopes.filter (fun x => x.check == 4)).foldl (fun (s : State) x =>
    let c := x.ident / 256
    if just.contains c then s
    else s.scopeTest 4 2 x.ident (ev.sols.any (fun y => y.systems == m + 2 ^ c && clockOk y lim))) s

/-- Check 4 on the solutions of S (R182): the solution that passes, and the satellites of S left. None of the cause of rejection:
1 too few satellites, 2 check 4. -/
def State.solveSet (s : State) (ev : NavEpoch) : State × Except Nat (NavSol × List (Nat × Nat)) :=
  let sats := s.satsIn ev
  let m := bitSet (sats.map (·.1))
  let n := (masks m).length
  if sats.length < 4 + (n - 1) ∨ n = 0 then (s, .error 1)
  else
    let (x, ex) := solveLoop ev.sols s.gnssStepLimit 8 m []
    let s := ex.foldl (fun (s : State) c => s.scopeTest 4 2 (c * 256) false) s
    let s := s.readmit4 ev (m - bitSet ex) ex
    (s, match x with
      | none => .error 2
      | some x => .ok (x, sats.filter (fun e => !ex.contains e.1)))

/-- Checks 1-4 have passed at the epoch `t`, or not, after GNSS/INVALID (R184). -/
def State.passRun (s : State) (t : Nat) (ok : Bool) : State :=
  s.modGnss (fun g => { g with passSince := if ok then some (g.passSince.getD t) else none })

/-- They have passed on every epoch for 10 s (R184). -/
def State.passed10 (s : State) (t : Nat) : Bool := match s.gnss.passSince with | some t0 => decide (t ≥ t0 + 10000000000) | none => false

/-- R182 from the satellites of S on, in hardware mode. -/
def State.solveEpoch (s : State) (t : Nat) (ev : NavEpoch) : State :=
  match s.solveSet ev with
  | (s, .error c) => s.rejectEpoch t c
  | (s, .ok (x, sats)) =>
    let fix := s.fixOf x (sats.filter s.corrected).length
    if s.gnss.invalid then
      let s := s.passRun t true
      if s.passed10 t then s.acceptEpoch t fix sats.length x else s.unfix t
    else if s.gnss.fix = 0 then s.acceptEpoch t fix sats.length x
    else
      let (s, ok) := s.agrees x
      if ok then s.acceptEpoch t fix sats.length x else (s.excludeSolution).rejectEpoch t 3

/-! ### Host-assisted navigation (R188) -/

/-- The key of the navigation function. -/
def gnssKey : Nat := hostKey 0x40 0 0

/-- The check that excluded a signal, 0 none. -/
def State.exclBy (s : State) (r : List Byte) : Nat :=
  match s.gnss.scopes.find? (fun x => (x.kind == 1 && x.ident == sigIdent r) || (x.kind == 2 && x.ident == u8 r 1 * 256) ||
      (x.kind == 3 && x.ident == u8 r 0 * 16777216 + codeBand (u8 r 3))) with
  | some x => x.check
  | none => 0

/-- An observable record as it is written: flag bit 3 and byte 28 from the checks. -/
def State.obsRecord (s : State) (r : List Byte) : List Byte :=
  let c := s.exclBy r
  let r := slice r 0 32
  let fl := setBit (u8 r 5) 3 (c != 0)
  r.take 5 ++ b8 fl ++ slice r 6 22 ++ b8 c ++ slice r 29 2 ++ b8 0

/-- The effect of a judged miss: hold-last, then holdover. Check 5 has no solution to judge (R181). -/
def State.gnssMiss (s : State) : State :=
  let h := s.hostFn gnssKey
  let s := s.modGnss (fun g => { g with check5Run := 0 })
  if h.inSafe then s.holdEpoch h.tk 4
  else (List.range 0x14).foldl (fun (s : State) i => s.modFlags (0x200 + i) (· ||| fgHeld)) s

/-- The epoch of a host-assisted navigation: the observables go to the host. Granary takes its entry of the epoch with what the
signals hold (10 R244). -/
def State.hostEpoch (s : State) (t : Nat) (ev : NavEpoch) : State :=
  let s := s.hostTurn gnssKey State.gnssMiss
  let s := s.granEpoch t s.gnss.fix
  let s := s.hostPeriod gnssKey t 35000000 50000000
  let k := s.gnss.epochK
  let s := s.modHost gnssKey (fun h => { h with k := k })
  let b := s.gnss.hostBuf
  let blk := b32 k ++ b32 ev.obs.length ++ b64 t ++ leB 8 (ofSigned 64 s.time.gpsOfs) ++ zeros 40 ++
    ev.obs.flatMap (fun o => s.obsRecord o.bytes)
  let d := if k % 2 = 0 then b.a else b.b
  (s.regionWrite b.win d 0 blk).regionDone b.win d b.tag blk.length true

/-- GNSS_EPOCH (R179, R181-R184, R187, R188): at a GPS-time multiple of 50 ms. -/
def execGnssEpoch (ev : NavEpoch) (s : State) : Out :=
  .next (
    if !s.running 0x40 0 || !s.trunkOn then s
    else
      let s := s.boundary 105 50000000 ((-s.time.gpsOfs) % 50000000).toNat
      let t := s.hw
      let obs := s.tracked ev.obs
      let ev := { ev with obs := obs }
      let s := s.modGnss (fun g =>
        { g with epochK := (g.epochK + 1) % 2 ^ 32, dr := s.reckoned, att := ev.att, navData := ev.navData,
                 origin := if g.pendOrigin.isSome then g.pendOrigin else g.origin, pendOrigin := none,
                 line := match g.pendLine with | some l => l | none => g.line, pendLine := none })
      let s := { s with imu := { s.imu with recent := [] } }
      let s := s.modAnt 1 (fun a => { a with tracked := (obs.filter (fun o => u8 o.bytes 0 == 1)).length })
      let s := if antFitted s.variant 2 then
        s.modAnt 2 (fun a => { a with tracked := (obs.filter (fun o => u8 o.bytes 0 == 2)).length }) else s
      let s := s.corrEpoch.epochMarks ev
      if s.isHost gnssKey then
        let (s, r) := s.solveSet ev
        (s.passRun t (match r with | .ok _ => true | .error _ => false)).hostEpoch t ev
      else s.solveEpoch t ev)

/-! ### Guard park (R189, R190) -/

/-- GNSS_GUARD_BURST: the burst of a second in GUARD PARK. `fix` is its standalone fix with GPS time at the burst in ns, `height` its
ellipsoidal height; its distance from the park position decides (R190). The fix re-anchors the park time counter (log entry 71). The antenna is supplied from
20 ms before the burst to its end, in whole periods of the counter. -/
def execGnssGuardBurst (fix : Option (F64 × F64 × Int)) (height : F64) (s : State) : Out :=
  .next (
    if s.power.state != .guard || !s.gnss.guardEnable || s.power.lossAt.isSome then s
    else
      let s := { s with time.parkPeriods := (s.time.parkPeriods / 32768 + 1) * 32768 }
      let s := s.modGnss (fun g => { g with guardBursts := (g.guardBursts + 1) % 2 ^ 32,
                                            guardSupply := some (s.time.parkPeriods - 656, s.time.parkPeriods + 6554) })
      match fix with
      | none => s.modGnss (fun g => { g with guardNoFix := g.guardNoFix + 1 })
      | some (lat, lon, gps) =>
        let anchor := (gps - s.time.gpsOfs - (s.time.parkPeriods * 1000000000 / 32768 : Nat)).toNat
        let s := if s.time.ofsValid then { s with time.stopped := max s.time.stopped anchor } else s
        let s := { s with time.anchorPeriods := s.time.parkPeriods }
        let at_ := (lat, lon, height)
        let mm := Config.horizontalMm (s.gnss.guardPos.getD at_) at_
        let beyond := s.gnss.guardPos.isSome && s.gnss.guardRadius != 0 && decide (mm > 1000 * s.gnss.guardRadius)
        let n := if beyond then s.gnss.guardOut + 1 else 0
        let stale := decide (s.gnss.guardNoFix ≥ 60)
        let s := s.modGnss (fun g => { g with guardFix := some at_, guardNoFix := 0, guardOut := n,
                                              guardPos := some (g.guardPos.getD at_) })
        if n ≥ 2 then
          let s := s.modGnss (fun g => { g with guardOut := 0, guardPending := some (mm / 1000, g.guardBursts, b2n stale), start := 2 })
          s.wake 9 0
        else s)

/-- GNSS_GUARD_REPORT (R190): the report interval ends. -/
def execGnssGuardReport (s : State) : Out :=
  .next (
    if s.power.state != .guard || s.gnss.guardReport == 0 || s.power.lossAt.isSome then s
    else
      ({ s with time.parkPeriods := max s.time.parkPeriods (s.gnss.guardReport * 60 * 32768), gnss.start := 2 } : State).wake 10 0)

/-! ### Verbs -/

/-- The supply state of an antenna as GNSS.STATUS codes it. -/
def Antenna.code (a : Antenna) : Nat := if !a.on then 0 else if a.shortF then 3 else if a.openF then 2 else 1

/-- GNSS.STATUS (R188). -/
def verbGnssStatus : Verb :=
  { unit := 0x40, verb := 0x01, lenOk := lenIs 0, instOk := inst0, query := true, rt := true, perm := none,
    body := fun _ s =>
      let g := s.gnss
      let a := s.ant 1
      let b := s.ant 2
      let age := match g.holdSince with | some t => (s.hw - t) / 1000000 | none => 0
      (s, stDone, b8 g.fix ++ b8 a.tracked ++ b8 b.tracked ++ b8 g.scopes.length ++ b8 a.jammed ++ b8 (a.code + 4 * b.code) ++
        b8 g.headSrc ++ b8 b.jammed ++ b32 age ++ b32 g.rtcmBad ++ b32 g.rejected ++ bF g.corrAge) }

/-- GNSS.FIX (R179); from a guard wake to the first solution the burst fix, and bit 0 of byte 34 when it is stale (R190, log
entry 72). -/
def verbGnssFix : Verb :=
  { unit := 0x40, verb := 0x02, lenOk := lenIs 0, instOk := inst0, query := true, rt := true, perm := none,
    body := fun _ s =>
      let g := s.gnss
      let p := if g.guardShown then g.guardFix.getD (g.lat, g.lon, g.height) else (g.lat, g.lon, g.height)
      (s, stDone, bD p.1 ++ bD p.2.1 ++ bD p.2.2 ++ b64 g.epochStamp ++ b8 g.fix ++ b8 g.sats ++
        b8 (b2n (g.guardShown && decide (g.guardNoFix ≥ 60))) ++ zeros 1 ++ bF g.hAcc) }

/-- The squared baseline of the two phase centres is below 0.25 m². -/
def shortBase (a b : Antenna) : Bool :=
  let dx := fSub a.px b.px
  let dy := fSub a.py b.py
  fLt (fAdd (fMul dx dx) (fMul dy dy)) (fFrac 1 4)

/-- GNSS.CONFIG (R180). -/
def verbGnssConfig : Verb :=
  { unit := 0x40, verb := 0x10, lenOk := lenIs 16, instOk := inst0, query := false, rt := false, perm := none,
    body := fun r s =>
      let p := r.payload
      let w := u16 p 4
      let sc := f32 p 8
      let lim := f32 p 12
      if 1 ≤ u8 p 0 ∧ u8 p 0 < 128 ∧ u8 p 1 ≤ 30 ∧ (u8 p 2 = 2 ∨ (u8 p 2 = 1 ∧ antFitted s.variant 2 ∧ !shortBase (s.ant 1) (s.ant 2))) ∧
          u8 p 3 ≤ 30 ∧ (w = 0xFFFF ∨ (w < 0x1000 ∧ s.sigReadable r.win w)) ∧ fFinite sc ∧ !fEq sc fZero ∧ fLe fOne lim ∧
          fLe lim (fNat 60) then
        ((s.modGnss (fun g => { g with systems := u8 p 0, elev := u8 p 1, headMode := u8 p 2, drLimit := u8 p 3, wheelSig := w,
                                       wheelScale := sc, ageLimit := lim })).dirty, stDone, [])
      else (s, stRange, []) }

/-- A coordinate within ±20 m. -/
def within20 (a : F32) : Bool := fLe (fInt (-20)) a && fLe a (fNat 20)

/-- GNSS.ANTENNA (R175). -/
def verbGnssAntenna : Verb :=
  { unit := 0x40, verb := 0x11, lenOk := lenIs 16, instOk := fun i => i == 1 || i == 2, query := false, rt := false, perm := none,
    body := fun r s =>
      let p := r.payload
      let a : Antenna := { s.ant r.inst with on := u8 p 0 == 1, px := f32 p 4, py := f32 p 8, pz := f32 p 12 }
      if u8 p 0 ≤ 1 ∧ within20 a.px ∧ within20 a.py ∧ within20 a.pz ∧
          !(s.gnss.headMode == 1 && shortBase a (s.ant (3 - r.inst))) then
        let s := s.modAnt r.inst (fun _ => a)
        let s := if a.on then s
          else ((s.modAnt r.inst (fun a => { a with openF := false, shortF := false })).clearFault 0x8002 0x40 r.inst).clearFault
            0x8003 0x40 r.inst
        (s.dirty, stDone, [])
      else (s, stRange, []) }

/-- GNSS.CORR (R177). -/
def verbGnssCorr : Verb :=
  { unit := 0x40, verb := 0x12, lenOk := lenIs 4, instOk := inst0, query := false, rt := false, perm := none,
    body := fun r s =>
      let p := r.payload
      if u8 p 0 ≤ 3 ∧ (u8 p 0 ≠ 1 ∨ (u8 p 1 < 8 ∧ u16 p 2 < 16)) then
        ((s.modGnss (fun g => { g with corrSrc := u8 p 0, corrChan := u8 p 1, corrNum := u16 p 2, rtcm := [] })).dirty, stDone, [])
      else (s, stRange, []) }

/-- GNSS.RTCM (R177). -/
def verbGnssRtcm : Verb :=
  { unit := 0x40, verb := 0x13, lenOk := fun r => decide (1 ≤ r.payload.length ∧ r.payload.length ≤ 112), instOk := inst0,
    query := false, rt := true, perm := none,
    body := fun r s => if s.gnss.corrSrc ≠ 3 then (s, stBusy, []) else (s.rtcmFeed r.payload, stDone, []) }

/-- GNSS.ORIGIN (R179). -/
def verbGnssOrigin : Verb :=
  { unit := 0x40, verb := 0x14, lenOk := lenIs 24, instOk := inst0, query := false, rt := false, perm := none,
    body := fun r s => ((s.modGnss (fun g => { g with pendOrigin := some (f64 r.payload 0, f64 r.payload 8, f64 r.payload 16) })).dirty,
      stDone, []) }

/-- GNSS.LINE (R187). -/
def verbGnssLine : Verb :=
  { unit := 0x40, verb := 0x15, lenOk := lenIs 28, instOk := inst0, query := false, rt := false, perm := none,
    body := fun r s =>
      let p := r.payload
      let l : GuideLine := { lat := f64 p 0, lon := f64 p 8, heading := f32 p 16, spacing := f32 p 20 }
      if dLe (dInt (-90)) l.lat ∧ dLe l.lat (dInt 90) ∧ dLe (dInt (-180)) l.lon ∧ dLe l.lon (dInt 180) ∧
          fLe fZero l.heading ∧ fLt l.heading (fNat 360) ∧
          (fEq l.spacing fZero ∨ (fLe fOne l.spacing ∧ fLe l.spacing (fNat 60))) ∧ u8 p 24 ≤ 1 then
        ((s.modGnss (fun g => { g with pendLine := some (if u8 p 24 = 1 then some l else none) })).dirty, stDone, [])
      else (s, stRange, []) }

/-- GNSS.GUARD (R190). -/
def verbGnssGuard : Verb :=
  { unit := 0x40, verb := 0x16, lenOk := lenIs 8, instOk := inst0, query := false, rt := false, perm := none,
    body := fun r s =>
      let p := r.payload
      if u8 p 0 ≤ 1 ∧ (u16 p 2 = 0 ∨ (5 ≤ u16 p 2 ∧ u16 p 2 ≤ 500)) ∧ (u16 p 4 = 0 ∨ (10 ≤ u16 p 4 ∧ u16 p 4 ≤ 1440)) then
        ((s.modGnss (fun g => { g with guardEnable := u8 p 0 == 1, guardRadius := u16 p 2, guardReport := u16 p 4 })).dirty, stDone, [])
      else (s, stRange, []) }

/-- GNSS.HOSTBUF (R188). -/
def verbGnssHostbuf : Verb :=
  { unit := 0x40, verb := 0x20, lenOk := lenIs 4, instOk := inst0, query := false, rt := false, perm := none,
    body := fun r s =>
      let a := u8 r.payload 0
      let b := u8 r.payload 1
      match s.regionCheck r.win a 16384, s.regionCheck r.win b 16384 with
      | none, none =>
        if s.isHost gnssKey || (s.hostFn gnssKey).pending == some true then (s, stBusy, [])
        else ((s.modGnss (fun g => { g with hostBuf := { set := true, win := r.win, tag := r.tag, a := a, b := b } })).dirty, stDone, [])
      | some st, _ => (s, st, [])
      | none, some st => (s, st, []) }

/-- The condition KEEPER.MODE adds for GNSS (R188). -/
def State.gnssModeOk (s : State) : Bool :=
  let b := s.gnss.hostBuf
  let fits (d : Nat) : Bool := (s.region b.win d).present && decide ((s.region b.win d).size ≥ 16384)
  b.set && fits b.a && fits b.b

/-- The solution of a GNSS.SOLUTION request. -/
def hostSol (p : List Byte) : NavSol :=
  { lat := f64 p 8, lon := f64 p 16, height := f64 p 24, vel := f32s p 32 3, hAcc := f32 p 44 }

/-- GNSS.SOLUTION (R188). An on-time solution with which the function does not resume yet leaves its epoch in the safe action,
which is holdover. -/
def verbGnssSolution : Verb :=
  { unit := 0x40, verb := 0x21, lenOk := lenIs 48, instOk := inst0, query := false, rt := true, perm := none,
    body := fun r s =>
      let p := r.payload
      let k := u32 p 0
      let h := s.hostFn gnssKey
      if !(h.host && h.owner == r.win) || h.k == 0 || k == 0 || decide (k > h.k) || decide (u8 p 4 < 1 ∨ u8 p 4 > 4 ∨ u8 p 5 < 4) ||
          !(dFinite (f64 p 8) && dFinite (f64 p 16) && dFinite (f64 p 24)) || !(f32s p 32 3).all fFinite ||
          !(fFinite (f32 p 44) && fLt fZero (f32 p 44)) then (s, stRange, [])
      else if !s.hostInTime gnssKey k then (s, stDeadline, [])
      else
        let x := hostSol p
        let wait := s.gnss.invalid && !s.passed10 h.tk
        let (s, ok) := if s.gnss.fix = 0 then (s, true) else s.agrees x
        if wait then ((s.modHost gnssKey (fun h => { h with got := true })).unfix h.tk, stDone, [])
        else if !ok then
          let s := (s.excludeSolution).modHost gnssKey (fun h => { h with got := true })
          (s.holdEpoch h.tk 3, stDone, [])
        else
          let (s, go) := s.hostResult gnssKey
          (if go then s.acceptEpoch h.tk (u8 p 4) (u8 p 5) x else s.holdEpoch h.tk 4, stDone, []) }

/-! ### IMU (R185, R186) -/

/-- Change the IMU. -/
def State.modImu (s : State) (f : Imu → Imu) : State := { s with imu := f s.imu }

/-- The axes whose run since the instants of a table (plus 1) is at least `d` long. -/
def longAxes (t : Tab Nat) (now d : Nat) : Nat :=
  bitSet ((t.filter (fun e => decide (now ≥ e.2 - 1 + d))).map (·.1))

/-- A table of runs: an axis that goes on keeps its start. -/
def runTab (t : Tab Nat) (now : Nat) (go : Nat → Bool) : Tab Nat :=
  (List.range 6).foldl (fun (q : Tab Nat) i =>
    tset 0 q i (if go i then (if tget 0 t i = 0 then now + 1 else tget 0 t i) else 0)) []

/-- Which housing axis lies along body axis `b`, and whether reversed; housing Z completes the right-handed set (R185). -/
def mountAxis (orient b : Nat) : Nat × Bool :=
  let x := orient % 8
  let y := orient / 8 % 8
  if x / 2 = b then (0, x % 2 == 1)
  else if y / 2 = b then (1, y % 2 == 1)
  else (2, (x % 2 == 1) != ((y % 2 == 1) != (y / 2 != (x / 2 + 1) % 3)))

/-- A housing vector in the body frame: the orientation, then the residual angles (R185). -/
def Imu.mount (m : Imu) (v : List F32) : List F32 :=
  let q := (List.range 3).map (fun b => let (i, neg) := mountAxis m.orient b; if neg then fNeg (v.getD i fZero) else v.getD i fZero)
  if m.angles.all (fun a => fEq a fZero) then q else Config.residual m.angles q

/-- The seven values of a sample in the body frame. -/
def Imu.body (m : Imu) (vals : List F32) : List F32 :=
  m.mount (vals.take 3) ++ m.mount ((vals.drop 3).take 3) ++ [vals.getD 6 fZero]

/-- The signals that depend on a set of sensor axes: with residual angles every axis of the triple. -/
def Imu.affected (m : Imu) (axes : Nat) : Nat :=
  bitSet ((List.range 6).filter (fun i =>
    let g := i / 3 * 3
    if m.angles.all (fun a => fEq a fZero) then axes.testBit (g + (mountAxis m.orient (i % 3)).1)
    else [0, 1, 2].any (fun k => axes.testBit (g + k))))

/-- Every Crown unit keeps a pose history of the last 2 s from the angular rates and the GNSS velocity, or the wheel speed while
that is invalid (09 R232). -/
def State.poseTake (s : State) : State :=
  let sigs (l : List Nat) : List F32 := l.map (fun i => (s.sig i).value)
  let vel := if [0x203, 0x204, 0x205].all s.sigValid then sigs [0x203, 0x204, 0x205] else s.wheelSpeed.toList
  let x : Pose := { stamp := s.hw, rates := sigs [0xF3, 0xF4, 0xF5], vel := vel, ok := s.imuOk }
  let take (c : CrownUnit) : CrownUnit := { c with poses := x :: c.poses.filter (fun e => decide (s.hw < e.stamp + 2000000000)) }
  let us := (List.range (crowns s.variant)).filter (s.running 0x42)
  { s with crown.units := us.foldl (fun (t : Tab CrownUnit) u => tmod CrownUnit.reset t u take) s.crown.units }

/-- IMU_SAMPLE (R185, R186): every axis with a failure is affected, whatever failure IMU/FAULT names: `vals` the seven values as the sensor gives them along the housing axes, `sat` the axes at their
limit, `kind` 1 a failed self-test or 4 lost communication, `moving` whether the machine moves. -/
def execImuSample (vals : List F32) (sat kind : Nat) (moving : Bool) (s : State) : Out :=
  .next (
    if !s.running 0x44 0 || !s.trunkOn then s
    else
      let s := s.boundary 123 1000000 0
      let raw := (List.range 7).map (fun i => vals.getD i fZero)
      let old := s.imu
      let body := old.body raw
      let s := s.modImu (fun m =>
        { m with satSince := runTab m.satSince s.hw (fun i => sat.testBit i),
                 sameSince := runTab m.sameSince m.lastAt (fun i => moving && m.last.length == 7 && m.last.getD i fZero == raw.getD i fZero),
                 last := raw, lastAt := s.hw, recent := body :: m.recent.take 49 })
      let satAx := (List.range 6).filter (fun i => (tget 0 s.imu.satSince i != 0) && decide (s.hw > tget 0 s.imu.satSince i - 1 + 100000000))
      let sameAx := (List.range 6).filter (fun i => (tget 0 s.imu.sameSince i != 0) && decide (s.hw ≥ tget 0 s.imu.sameSince i - 1 + 2000000000))
      let k := if kind = 1 ∨ kind = 4 then kind else if satAx ≠ [] then 2 else if sameAx ≠ [] then 3 else 0
      let axes := if k = 1 ∨ k = 4 then 0x7F else old.affected (bitSet (satAx ++ sameAx))
      let s := (List.range 7).foldl (fun (s : State) i =>
        if axes.testBit i then s.modFlags (0xF0 + i) (fun f => clearBits f fgValid ||| fgFault)
        else s.setSig (0xF0 + i) (body.getD i fZero) s.hw fgValid) s
      let s := s.poseTake
      if k = 0 then
        let s := s.modImu (fun m => { m with state := 0 })
        if old.state ≠ 0 then s.clearFault 0x1050 0x44 0 else s
      else
        let s := s.modImu (fun m => { m with state := 2, lastKind := k })
        if old.state = 2 ∧ old.lastKind = k then s else s.raiseEv 0x44 0 39 0x1050 3 0 k axes 0)

/-- IMU.STATUS (R186). -/
def verbImuStatus : Verb :=
  { unit := 0x44, verb := 0x01, lenOk := lenIs 0, instOk := inst0, query := true, rt := true, perm := none,
    body := fun _ s => (s, stDone, b8 s.imu.state ++ b8 s.imu.lastKind ++ zeros 2) }

/-- IMU.CONFIG (R185). -/
def verbImuConfig : Verb :=
  { unit := 0x44, verb := 0x10, lenOk := lenIs 28, instOk := inst0, query := false, rt := false, perm := none,
    body := fun r s =>
      let p := r.payload
      let x := bits (u8 p 0) 2 0
      let y := bits (u8 p 0) 5 3
      let ang := f32s p 4 3
      let mk := f32s p 16 3
      if x < 6 ∧ y < 6 ∧ x / 2 ≠ y / 2 ∧ u8 p 0 < 64 ∧ ang.all (fun a => fLe (fInt (-10)) a && fLe a (fNat 10)) ∧ mk.all within20 then
        ((s.modImu (fun m => { m with orient := u8 p 0, angles := ang, mark := mk })).dirty, stDone, [])
      else (s, stRange, []) }

/-! ### Restart, trunk start and park -/

/-- GNSS after a unit restart (R191): configuration, line, origin and guard settings are re-applied; supplies, standing faults
and tracking stay; the signals start anew. -/
def Gnss.restart (g : Gnss) : Gnss :=
  { g with rtcm := [], origin := if g.pendOrigin.isSome then g.pendOrigin else g.origin, pendOrigin := none,
           line := (match g.pendLine with | some l => l | none => g.line), pendLine := none, fix := 0, sats := 0, headSrc := 0,
           holdSince := none, passSince := none, check5Run := 0, headFast := none, headOk := false, rejected := 0, scopes := [],
           postedScopes := [], dr := none, att := {}, hAcc := 0 }

/-- GNSS at a trunk start from the kept configuration and what the Cellar SRAM holds of guard park; ephemerides and almanacs are
those that the Attic holds (R176). -/
def Gnss.cold (kept cur : Gnss) : Gnss :=
  { kept.restart with
      ants := tmap Antenna.reset kept.ants (fun a => { a with openF := false, shortF := false, retries := 0, tracked := 0, jammed := 0 }),
      rtcmBad := 0, rtcmFrames := 0, corrMsgs := [], corrAge := 0, corrLost := false, holdF := false, invalid := false, epochK := 0,
      guardPos := cur.guardPos, guardFix := cur.guardFix, guardOut := cur.guardOut, guardBursts := cur.guardBursts,
      guardNoFix := cur.guardNoFix, guardPending := cur.guardPending, guardSupply := cur.guardSupply,
      guardShown := cur.start == 2 && cur.guardFix.isSome, start := cur.start, parkPos := cur.parkPos, navData := cur.parkNav, parkNav := cur.parkNav }

/-- GNSS/GUARD_MOVE after the wake it caused (R190). -/
def State.gnssTrunkPost (s : State) : State :=
  match s.gnss.guardPending with
  | none => s
  | some (d, n, st) => (s.modGnss (fun g => { g with guardPending := none })).post 0x40 0 216 0x800A 0 d n st

/-- Park entry: ephemerides, almanacs and the last position go to the Attic, so the next start is a warm one (R176); the
guard-park record starts anew (R190). -/
def State.gnssPark (s : State) : State :=
  s.modGnss (fun g => { g with start := 1, parkNav := g.navData, parkPos := if g.dr.isSome then some (g.lat, g.lon, g.height) else g.parkPos,
                               guardPos := none, guardOut := 0, guardBursts := 0, guardNoFix := 0, guardPending := none })

/-- The IMU at a start of the unit: its self-test runs (R186). -/
def Imu.cold (m : Imu) : Imu := { m with state := 1, lastKind := 0, satSince := [], sameSince := [], last := [], recent := [] }

/-- The GNSS firmware hands over to the new image (R191, 02 R63): commands are held until the cutover. -/
def State.gnssHandover (s : State) : State :=
  if (s.unitSt 0x40 0).phase == .running then s.modUnit 0x40 0 (fun u => { u with phase := .handover }) else s

/-- GNSS.STATUS -/
def execGnssStatus (r : Req) (s : State) : Out := mailboxRow verbGnssStatus r s
/-- GNSS.FIX -/
def execGnssFix (r : Req) (s : State) : Out := mailboxRow verbGnssFix r s
/-- GNSS.CONFIG -/
def execGnssConfig (r : Req) (s : State) : Out := mailboxRow verbGnssConfig r s
/-- GNSS.ANTENNA -/
def execGnssAntenna (r : Req) (s : State) : Out := mailboxRow verbGnssAntenna r s
/-- GNSS.CORR -/
def execGnssCorr (r : Req) (s : State) : Out := mailboxRow verbGnssCorr r s
/-- GNSS.RTCM -/
def execGnssRtcm (r : Req) (s : State) : Out := mailboxRow verbGnssRtcm r s
/-- GNSS.ORIGIN -/
def execGnssOrigin (r : Req) (s : State) : Out := mailboxRow verbGnssOrigin r s
/-- GNSS.LINE -/
def execGnssLine (r : Req) (s : State) : Out := mailboxRow verbGnssLine r s
/-- GNSS.GUARD -/
def execGnssGuard (r : Req) (s : State) : Out := mailboxRow verbGnssGuard r s
/-- GNSS.HOSTBUF -/
def execGnssHostbuf (r : Req) (s : State) : Out := mailboxRow verbGnssHostbuf r s
/-- GNSS.SOLUTION -/
def execGnssSolution (r : Req) (s : State) : Out := mailboxRow verbGnssSolution r s
/-- IMU.STATUS -/
def execImuStatus (r : Req) (s : State) : Out := mailboxRow verbImuStatus r s
/-- IMU.CONFIG -/
def execImuConfig (r : Req) (s : State) : Out := mailboxRow verbImuConfig r s

end Sys2Proof.Machine
end

