-- ==== Sys2Proof/Machine/Can.lean ====
section
/-! DEFINITION. Machine/Can.lean: the CAN unit's reception, queues, gateway, schedule and commands (chapter 15). -/

namespace Sys2Proof.Machine

/-! ### High-priority matches (R337, R338) -/

/-- The data compare of a match: a masked byte beyond the frame's length fails. -/
def hpData (e data : List Byte) : Bool :=
  (List.range 8).all (fun i =>
    u8 e (16 + i) == 0 || (decide (i < data.length) && (u8 data i ^^^ u8 e (24 + i)) &&& u8 e (16 + i) == 0))

/-- A received frame against one match. -/
def State.hpFrame (s : State) (f : CanRx) (stamp : Nat) (e : List Byte) : State :=
  let c := f.ch
  let k := eForm e
  let md := u8 e 12
  let setTerm (h : HpMatch) (b : Bool) : HpMatch := { h with term := b }
  if !idMatch f.id (u32 e 4) (u32 e 8) then s
  else if hpData e f.data then
    let s := s.modCan c (fun x => { x with hpms := tmod HpMatch.reset x.hpms k (fun h =>
      { (if md = 0 then h else setTerm h (md != 3)) with
          lastAt := some s.hw, stamp := stamp, id := f.id, len := f.data.length, data := f.data, passes := satAdd 16 h.passes 1 }) })
    if bit (eFlags e) 0 then
      s.post 0x30 c (185 + c) (0x6010 + k) c (b2n (tget HpMatch.reset (s.canCh c).hpms k).term) (u32 f.data 0) (u32 f.data 4)
    else s
  else if md = 2 then s.modCan c (fun x => { x with hpms := tmod HpMatch.reset x.hpms k (fun h => setTerm h false) })
  else s

/-- CAN_HP_HOLD_EXPIRY (R337, R338): a pulse's or a timeout's hold time ends. During a CAN restart modes 1 and 2 hold. -/
def execCanHpHoldExpiry (ch k : Nat) (s : State) : Out :=
  .next (
    match (s.entries ch 5).find? (fun e => eForm e.2 == k) with
    | none => s
    | some (_, e) =>
      let h := tget HpMatch.reset (s.canCh ch).hpms k
      let md := u8 e 12
      let go := (md == 1 && h.term && s.running 0x30 0) || (md == 3 && !h.term)
      match h.lastAt with
      | none => s
      | some t =>
        if !s.operating || !go then s
        else (s.waitTo (t + u16 e 14 * 1000000)).modCan ch (fun x =>
          { x with hpms := tmod HpMatch.reset x.hpms k (fun h => { h with term := md == 3 }) }))

/-! ### Extraction (R332) -/

/-- An RX filter takes the frame: its ID, its mask, its format. -/
def filterTakes (f : CanRx) (e : List Byte) : Bool :=
  idMatch f.id (u32 e 4) (u32 e 8) && bit (eFlags e) (if f.fd then 1 else 0)

/-- A received frame against one extraction filter. -/
def State.rxExtract (s : State) (f : CanRx) (stamp : Nat) (i : Nat) (e : List Byte) : State :=
  if !filterTakes f e then s
  else
    let (s, ok) := s.extract (slice e 16 16) f.data stamp
    if ok ∧ u16 e 12 ≠ 0 then { s with can.sigTimeouts := tset 0 s.can.sigTimeouts i (s.hw + 1) } else s

/-- CAN_SIGNAL_TIMEOUT (R332): no matching frame for the timeout sets STALE. -/
def execCanSignalTimeout (idx : Nat) (s : State) : Out :=
  .next (
    let e := s.pan idx
    let t := tget 0 s.can.sigTimeouts idx
    if !s.operating || !s.running 0x30 0 || t == 0 || eType e != 1 || eForm e != 1 || u16 e 12 == 0 then s
    else
      let s := s.waitTo (t - 1 + u16 e 12 * 1000000)
      ({ s with can.sigTimeouts := tset 0 s.can.sigTimeouts idx 0 } : State).modFlags (u16 e 16) (· ||| fgStale))

/-! ### Receive queues (R333-R336) -/

/-- A queue of a channel. -/
def State.canQ (s : State) (c q : Nat) : CanQueue := tget CanQueue.reset (s.canCh c).queues q
/-- Change it. -/
def State.modQ (s : State) (c q : Nat) (f : CanQueue → CanQueue) : State :=
  s.modCan c (fun x => { x with queues := tmod CanQueue.reset x.queues q f })

/-- Entries of a window queue's region (R334). -/
def State.queueE (s : State) (x : CanQueue) : Nat := ((s.region x.win x.desc).size - 64) / 96

/-- Unacknowledged entries. -/
def CanQueue.unacked (x : CanQueue) : Nat := (x.prod + 4294967296 - x.cons) % 4294967296

/-- The consumer index is read (R335): behind its previous value or ahead of the producer it is ignored. With every entry
acknowledged CAN/RX may come again (R336). -/
def State.queueRead (s : State) (c q : Nat) : State :=
  let x := s.canQ c q
  let v := u32 (s.regionRead x.win x.desc 4 4) 0
  let step := (v + 4294967296 - x.cons) % 4294967296
  if step ≤ x.unacked then
    s.modQ c q (fun x => { x with cons := v, posts := x.posts.drop step, notified := x.notified && v != x.prod })
  else s

/-- CAN/RX, once until all entries are acknowledged. -/
def State.queueNotify (s : State) (c q : Nat) : State :=
  let x := s.canQ c q
  (s.modQ c q (fun x => { x with notified := true })).post 0x30 c (185 + c) 0x6005 c q x.unacked 0

/-- A frame finds its queue full: dropped and counted (R335). -/
def State.queueDrop (s : State) (c q : Nat) : State :=
  let was := (s.canQ c q).overflow
  let s := s.modQ c q (fun x => { x with dropped := satAdd 32 x.dropped 1, overflow := true })
  if was then s else s.raiseEv 0x30 c (185 + c) 0x6004 2 c q (s.canQ c q).dropped 0

/-- The overflow of a queue ends at its next successful posting. -/
def State.queueOk (s : State) (c q : Nat) : State :=
  let s := s.modQ c q (fun x => { x with overflow := false })
  if (s.canCh c).queues.any (fun e => e.2.overflow) then s else s.clearFault 0x6004 0x30 c

/-- A queue entry (R334). -/
def State.queueEntry (s : State) (f : CanRx) (stamp i : Nat) : List Byte :=
  let fl := b2n f.fd + 2 * b2n f.brs + 4 * b2n f.esi + (if hasFailover s.variant then 0 else 8)
  b64 stamp ++ b64 s.hw ++ b32 f.id ++ b8 f.data.length ++ b8 fl ++ b16 i ++ b8 f.ch ++ zeros 7 ++ slice f.data 0 64

/-- One copy of a frame to a queue. -/
def State.queuePost (s : State) (f : CanRx) (stamp q i : Nat) : State :=
  let c := f.ch
  let x := s.canQ c q
  if x.consumer = 1 then
    let s := s.queueRead c q
    let x := s.canQ c q
    let e := s.queueE x
    if x.unacked ≥ e then
      let s := s.queueDrop c q
      s.regionWrite x.win x.desc 12 (b32 (s.canQ c q).dropped)
    else
      let s := s.regionWrite x.win x.desc (64 + 96 * (x.prod % e)) (s.queueEntry f stamp i)
      let s := s.modQ c q (fun x => { x with prod := (x.prod + 1) % 4294967296, posts := x.posts ++ [s.hw] })
      let s := (s.regionWrite x.win x.desc 0 (b32 (s.canQ c q).prod)).queueOk c q
      let x := s.canQ c q
      if !x.notified ∧ x.unacked ≥ x.thr then s.queueNotify c q else s
  else if x.consumer = 2 then
    if s.gnss.corrSrc = 1 ∧ s.gnss.corrChan = c ∧ s.gnss.corrNum = q then
      let s := s.modQ c q (fun x => { x with ring := [] })
      (s.rtcmFeed (x.ring.flatten ++ f.data)).queueOk c q
    else if x.ring.length ≥ 256 then s.queueDrop c q
    else (s.modQ c q (fun x => { x with ring := x.ring ++ [f.data] })).queueOk c q
  else s

/-- A received frame to the queues of its matching filters, at most one copy a queue (R333). -/
def State.rxQueues (s : State) (f : CanRx) (stamp : Nat) : State :=
  let l := (s.entries f.ch 1).filter (fun e => eForm e.2 == 0 && filterTakes f e.2)
  (List.range 16).foldl (fun (s : State) q =>
    match l.find? (fun e => u16 e.2 12 == q) with | some e => s.queuePost f stamp q e.1 | none => s) s

/-- CAN_QUEUE_NOTIFY_AGE (R336). -/
def execCanQueueNotifyAge (ch q : Nat) (s : State) : Out :=
  .next (
    if !s.canRuns ch || (s.canQ ch q).consumer != 1 then s
    else
      let s := s.queueRead ch q
      let x := s.canQ ch q
      match x.posts with
      | [] => s
      | t :: _ => if x.notified then s else (s.waitTo (t + x.ageMs * 1000000)).queueNotify ch q)

/-! ### Gateway (R348-R350) -/

/-- A routed frame in the format of its destination. -/
def routed (f : CanRx) (d : CanCh) (e : List Byte) (now : Nat) (held : Bool) : GwFrame :=
  let m := u32 e 16
  { src := f.ch, id := clearBits f.id m ||| (u32 e 20 &&& m), fd := d.fd, brs := f.brs && d.fd, data := f.data, arrAt := now, held := held }

/-- A routed frame is placed: the drops of the last second over, CAN/ROUTE_DROP ends. -/
def State.routePut (s : State) (d : Nat) (g : GwFrame) : State :=
  let s := s.modCan d (fun x => { x with fifo := x.fifo ++ [g], dropSecs := x.dropSecs.filter (fun e => decide (s.hw < e.1 + 1000000000)) })
  if (s.canCh d).dropSecs.isEmpty then s.clearFault 0x6009 0x30 d else s

/-- A frame for one destination of a route (R348-R350). In the sleep gap a wake-relevant frame is held as for a sleeping
channel. -/
def State.routeTo (s : State) (f : CanRx) (e : List Byte) (d : Nat) : State :=
  let x := s.canCh d
  let wake := bit (eFlags e) 0
  let away := x.asleep || s.inGap d
  if x.mode = 0 ∨ x.state = 3 then s.routeDrop f.ch d 3
  else if x.asleep ∧ !wake then s.modCan d (fun x => { x with gwDrops := satAdd 32 x.gwDrops 1 })
  else if f.fd ∧ !x.fd ∧ f.data.length > 8 then s.routeDrop f.ch d 2
  else if x.fifo.length ≥ 64 then s.routeDrop f.ch d 1
  else
    let s := s.routePut d (routed f x e s.hw (away && wake))
    if away ∧ wake then match s.netOf d with | some _ => s.nmEvalAll | none => s.canWake d
    else s

/-- A received frame to every destination of its matching routes, once a destination. -/
def State.rxRoutes (s : State) (f : CanRx) : State :=
  let l := (s.entries f.ch 4).filter (fun e => idMatch f.id (u32 e.2 4) (u32 e.2 8))
  (List.range 8).foldl (fun (s : State) d =>
    match l.find? (fun e => (u8 e.2 12).testBit d) with | some e => s.routeTo f e.2 d | none => s) s

/-- CAN_ROUTE_HOLD_TIMEOUT (R350): frames still held 1 s after the request are dropped and counted. -/
def execCanRouteHoldTimeout (ch : Nat) (s : State) : Out :=
  .next (
    match (s.canCh ch).fifo.find? (·.held) with
    | none => s
    | some g =>
      if !s.canRuns ch then s
      else
        let s := s.waitTo (g.arrAt + 1000000000)
        let gone (g : GwFrame) : Bool := g.held && decide (g.arrAt + 1000000000 ≤ s.hw)
        let l := (s.canCh ch).fifo
        let s := s.modCan ch (fun x => { x with fifo := l.filter (fun g => !gone g) })
        ((l.filter gone).foldl (fun (s : State) g => s.routeDrop g.src ch 4) s).nmEvalAll)

/-! ### Schedule (R345-R347) -/

/-- A schedule in waiting takes effect. -/
def State.schedApply (s : State) (c : Nat) : State :=
  match (s.canCh c).pendSched with
  | none => s
  | some n =>
    (s.modCan c (fun x => { x with sched := n, pendSched := none, backup := false, synced := false, lastRef := none, schedLost := false,
                                   cycle := 0 })).clearFault 0x6008 0x30 c

/-- A frame is a reference message of the schedule: ISO 11898-4 leaves the low three bits of the ID to the master's priority
(PRESUMED, log entry 151). -/
def CanSched.isRef (q : CanSched) (f : CanRx) : Bool :=
  q.role != 0 && !f.fd && f.data.length == 1 && (f.id ^^^ q.refId) / 8 == 0

/-- A reference message received (R345, R346). -/
def State.rxReference (s : State) (f : CanRx) (sof : Nat) : State :=
  let c := f.ch
  let lower (x : CanCh) : Bool := decide (f.id % 2 ^ 29 < x.sched.refId % 2 ^ 29)
  let x := s.canCh c
  if !x.sched.isRef f || ((x.sched.role == 1 || x.backup) && !lower x) then s
  else
    let s := s.modCan c (fun x => { x with sched.role := if x.sched.role = 1 then 2 else x.sched.role, backup := false })
    let s := s.schedApply c
    if !(s.canCh c).sched.isRef f ∨ (s.canCh c).sched.role = 1 then s
    else (s.modCan c (fun x => { x with lastRef := some sof, cycle := u8 f.data 0 % 64, synced := true, schedLost := false })).clearFault
      0x6008 0x30 c

/-- The module sends a reference message at the start of a basic cycle. -/
def State.sendReference (s : State) (c cycle : Nat) : State :=
  let s := s.modCan c (fun x => { x with cycle := cycle, lastRef := some s.hw, synced := true, backup := true })
  let x := s.canCh c
  if !x.usable || x.mode != 1 || s.inGap c then s
  else s.modCan c (fun x => { x with keeperTx := { GwFrame.reset with id := x.sched.refId, data := b8 cycle, arrAt := s.hw } :: x.keeperTx })

/-- CAN_BASIC_CYCLE (R345): the master starts cycle k at k × length + phase; a new schedule takes effect here. -/
def execCanBasicCycle (ch : Nat) (s : State) : Out :=
  .next (
    let x := s.canCh ch
    if !s.canRuns ch || x.sched.role != 1 then s
    else
      let s := s.boundary (277 + 1000 * ch) (x.sched.cycleUs * 1000) (x.sched.phaseUs * 1000)
      let s := s.schedApply ch
      let q := (s.canCh ch).sched
      if q.role = 1 then s.sendReference ch ((s.hw - q.phaseUs * 1000) / (q.cycleUs * 1000) % q.matrix) else s)

/-- CAN_BACKUP_REFERENCE (R345): no reference by the expected cycle start plus the backup delay; once it sends, the backup
master starts each further cycle. -/
def execCanBackupReference (ch : Nat) (s : State) : Out :=
  .next (
    let x := s.canCh ch
    match x.lastRef with
    | none => s
    | some t =>
      if !s.canRuns ch || x.sched.role != 3 then s
      else
        let s := s.waitTo (t + (x.sched.cycleUs + (if x.backup then 0 else x.sched.backupUs)) * 1000)
        let s := s.schedApply ch
        let y := s.canCh ch
        if y.sched.role = 3 then (s.sendReference ch ((x.cycle + 1) % y.sched.matrix)).clearFault 0x6008 0x30 ch else s)

/-- CAN_SCHEDULE_LOST (R346): no reference within 1.5 cycle lengths. -/
def execCanScheduleLost (ch : Nat) (s : State) : Out :=
  .next (
    let x := s.canCh ch
    match x.lastRef with
    | none => s
    | some t =>
      if !s.canRuns ch || !(x.sched.role == 2 || x.sched.role == 3) || x.backup || !x.synced then s
      else
        let s := s.waitTo (t + x.sched.cycleUs * 1500)
        let missed := (s.hw - t) / (max 1 x.sched.cycleUs * 1000)
        (s.modCan ch (fun x => { x with synced := false, schedLost := true })).raiseEv 0x30 ch (185 + ch) 0x6008 3 ch x.cycle missed 0)

/-- CAN_SLOT_WINDOW (R346, R347): a window opens: an exclusive one requests its object; unsynchronised it reports cause 6.
In an arbitrating window the pending frames contend. -/
def execCanSlotWindow (idx : Nat) (s : State) : Out :=
  .next (
    let e := s.pan idx
    let c := eChan e
    let x := s.canCh c
    let o := u16 e 10
    if !s.canRuns c || !(s.entries c 3).any (fun q => q.1 == idx) || x.sched.role == 0 then s
    else if !x.synced then (if eForm e = 0 ∧ s.isHeadAt o then s.txFail o 6 else s)
    else match x.lastRef with
      | none => s
      | some t =>
        let key := 280 + 1000 * idx
        let start := t + u16 e 4 * 1000
        if !slotActive e x.cycle || tget 0 s.time.ticks key == start + 1 then s
        else
          let s := s.waitTo start
          let s := { s with time.ticks := tset 0 s.time.ticks key (start + 1) }
          if eForm e = 0 ∧ s.isHeadAt o then s.txRequest o true else s)

/-! ### Reception (R331) -/

/-- CAN_FRAME_RX (R331): a frame is validated: matches, signals, queues, routes, in this order; then Keeper's own entries: the
reference messages and the transport; the sleep gap ends with any frame (17 R376). Frames of the consent ring are
NM_RING_MESSAGE's. -/
def execCanFrameRx (f : CanRx) (s : State) : Out :=
  .next (
    let c := f.ch
    let x := s.canCh c
    if !s.canLive c || decide (f.data.length > (if f.fd then 64 else 8)) || (f.fd && !x.fd) then s
    else
      let sof := s.hw - f.ago
      let stamp := s.frameStamp c sof
      let sigAt := s.sigStamp sof
      let s := s.modCan c (fun x => { x with rx := satAdd 32 x.rx 1 })
      let s := s.canErrors c x.tecErr (if x.recErr > 127 then 127 else x.recErr - 1)
      let s := (s.entries c 5).foldl (fun (s : State) e => s.hpFrame f stamp e.2) s
      let s := ((s.entries c 1).filter (fun e => eForm e.2 == 1)).foldl (fun (s : State) e => s.rxExtract f sigAt e.1 e.2) s
      let s := s.rxQueues f stamp
      let s := s.rxRoutes f
      let s := s.rxReference f sof
      let s := if f.fd then s else s.tpTake c f.id f.data
      (s.nmFrame c).nmEvalAll)

/-! ### Transmission rows -/

/-- CAN_TX_PERIODIC (R341): at Heartwood multiples of the period plus the phase. -/
def execCanTxPeriodic (idx : Nat) (s : State) : Out :=
  .next (
    let e := s.pan idx
    if !s.canRuns (eChan e) || !s.isHeadAt idx || u8 e 9 != 1 || u16 e 12 == 0 then s
    else (s.boundary (270 + 1000 * idx) (u16 e 12 * 1000000) (u16 e 14 * 1000000)).txRequest idx false)

/-- CAN_TX_ON_CHANGE (R341): a packed signal's stamp changed, not within the minimum interval of the previous request. -/
def execCanTxOnChange (idx : Nat) (s : State) : Out :=
  .next (
    let e := s.pan idx
    let t := s.txSt idx
    let stamps := (s.packsOf idx).map (fun m => (s.sig (u16 m 0)).stamp)
    if !s.canRuns (eChan e) || !s.isHeadAt idx || u8 e 9 != 3 || stamps == t.seen then s
    else
      let s := match t.lastReq with | some l => s.waitTo (l + u16 e 12 * 1000000) | none => s
      s.txRequest idx false)

/-- CAN_TX_COMPLETE (R342-R344): the frame that had the bus completes `ago` ns after its start, with outcome 0 or a cause of
R343. -/
def execCanTxComplete (ch outcome ago : Nat) (s : State) : Out :=
  .next (
    if !s.canLive ch || (s.canCh ch).mode != 1 || decide (outcome > 6) then s
    else match s.txPick ch with
      | none => s
      | some pick =>
        if outcome = 0 then
          let sent : Option (Nat × List Byte) := match pick with
            | .object i => some (u32 (s.pan i) 4, (s.txSt i).onWire (s.hw - ago))
            | _ => none
          let s := s.txDone ch (s.hw - ago) pick
          match sent with | some (id, d) => s.canHostSent ch id d | none => s
        else s.txBad ch outcome pick)

/-- CAN_BUS_RECOVERED (R325): 128 occurrences of 11 recessive bits. -/
def execCanBusRecovered (ch : Nat) (s : State) : Out :=
  .next (
    let x := s.canCh ch
    if !s.canRuns ch || x.state != 3 || !x.recovering then s
    else (s.modCan ch (fun x => { x with state := 1, recovering := false, tecErr := 0, recErr := 0, joining := false })).clearFault 0x6002 0x30 ch)

/-- CAN_REJOIN (R326, R355): 11 recessive bits. -/
def execCanRejoin (ch : Nat) (s : State) : Out :=
  .next (if !s.canRuns ch || (s.canCh ch).mode == 0 then s else s.modCan ch (fun x => { x with joining := false }))

/-- CAN_TXD_DOMINANT (R324): a transmitter dominant for more than 4 ms is released. -/
def execCanTxdDominant (ch us : Nat) (s : State) : Out :=
  .next (if !s.canLive ch || decide (us ≤ 4000) then s else s.raiseEv 0x30 ch (185 + ch) 0x6003 3 ch 0 0 0)

/-- CAN_BUS_ERROR (R325): an error seen while receiving raises the receive error count. -/
def execCanBusError (ch inc : Nat) (s : State) : Out :=
  .next (
    if !s.canLive ch then s
    else
      let s := s.modCan ch (fun x => { x with errs := satAdd 32 x.errs 1 })
      s.canErrors ch (s.canCh ch).tecErr (min 255 ((s.canCh ch).recErr + inc)))

/-! ### Commands -/

/-- CAN.STATUS. -/
def verbCanStatus : Verb :=
  { unit := 0x30, verb := 0x01, lenOk := lenIs 0, instOk := instLt 8, query := true, rt := true, perm := none,
    body := fun r s =>
      let x := s.canCh r.inst
      (s, stDone, b8 x.report ++ b8 (min 255 x.tecErr) ++ b8 (min 255 x.recErr) ++
        b8 (b2n x.synced + 2 * b2n x.backup + 4 * b2n x.term + 8 * b2n x.fd) ++ b32 x.rx ++ b32 x.tx ++ b32 x.errs ++ b32 x.gwDrops ++
        b8 (x.cycle % 64) ++ b8 0 ++ b16 x.busOffs) }

/-- CAN.HP_READ. -/
def verbCanHpRead : Verb :=
  { unit := 0x30, verb := 0x02, lenOk := lenIs 4, instOk := instLt 8, query := true, rt := true, perm := none,
    body := fun r s =>
      let h := tget HpMatch.reset (s.canCh r.inst).hpms (u8 r.payload 0)
      if u8 r.payload 0 > 7 then (s, stRange, [])
      else (s, stDone, b64 h.stamp ++ b32 h.id ++ b8 h.len ++ b8 (b2n h.term) ++ b16 h.passes ++ slice h.data 0 64) }

/-- CAN.TX_STATUS. -/
def verbCanTxStatus : Verb :=
  { unit := 0x30, verb := 0x03, lenOk := lenIs 4, instOk := inst0, query := true, rt := true,
    perm := some (fun s r => let i := u16 r.payload 0
      if s.isHeadAt i then s.right r.win 0x30 (eChan (s.pan i)) false else s.anyRight r.win 0x30),
    body := fun r s =>
      let i := u16 r.payload 0
      let t := s.txSt i
      if !s.isHeadAt i then (s, stRange, [])
      else (s, stDone, b8 t.state ++ b8 t.outcome ++ zeros 2 ++ b32 t.sent ++ b32 t.fails ++ b32 t.overruns ++ b64 t.stamp) }

/-- The transmission on the bus is aborted; a one-shot reports cause 7 (R326). -/
def State.txAbort (s : State) (c : Nat) : State :=
  match s.txPick c with
  | some (.object i) => if s.oneShot i then s.txFail i 7 else s
  | _ => s

/-- CAN.CONFIG (R323, R326). -/
def verbCanConfig : Verb :=
  { unit := 0x30, verb := 0x10, lenOk := lenIs 16, instOk := instLt 8, query := false, rt := false, perm := none,
    body := fun r s =>
      let p := r.payload
      let c := r.inst
      let x := s.canCh c
      let fd := bit (u8 p 1) 0
      let ra := u32 p 4
      let rd := if fd then u32 p 8 else x.rateData
      let sd := u8 p 3
      if u8 p 0 > 2 ∨ u8 p 1 > 7 ∨ u8 p 2 < 50 ∨ u8 p 2 > 90 ∨ sd < 50 ∨ sd > 90 ∨ ra < 50000 ∨ ra > 1000000 ∨ 80000000 % ra ≠ 0 ∨
          (fd ∧ (rd < 1000000 ∨ rd > 8000000 ∨ rd < ra ∨ 80000000 % rd ≠ 0)) then (s, stRange, [])
      else
        let change := x.mode != u8 p 0 || x.fd != fd || x.spArb != u8 p 2 || x.spData != sd || x.rateArb != ra || x.rateData != rd
        let s := if change ∧ x.usable then s.txAbort c else s
        let s := s.modCan c (fun x => { x with mode := u8 p 0, fd := fd, term := bit (u8 p 1) 1, autoRec := bit (u8 p 1) 2, spArb := u8 p 2,
                                               spData := sd, rateArb := ra, rateData := rd })
        let s := if change then
            let s := s.modCan c (fun x => { x with joining := u8 p 0 != 0, state := if u8 p 0 = 0 then 0 else 1, tecErr := 0, recErr := 0,
                                                   recovering := false })
            s.clearFault 0x6002 0x30 c
          else s
        (s.dirty, stDone, []) }

/-- CAN.QUEUE (R333). -/
def verbCanQueue : Verb :=
  { unit := 0x30, verb := 0x13, lenOk := lenIs 8, instOk := instLt 8, query := false, rt := false, perm := none,
    body := fun r s =>
      let p := r.payload
      let c := r.inst
      let q := u8 p 0
      let to' := u8 p 1
      let d := u8 p 2
      let x := s.canQ c q
      if q > 15 ∨ to' > 2 ∨ (to' = 1 ∧ d > 63) ∨ (to' ≠ 0 ∧ (u8 p 3 = 0 ∨ u8 p 4 = 0 ∨ u8 p 4 > 100)) then (s, stRange, [])
      else match (if to' = 1 then s.regionCheck r.win d 1600 else none) with
        | some st => (s, st, [])
        | none =>
          if (x.consumer ≠ 0 ∧ x.win ≠ r.win) ∨ (x.consumer = 2 ∧ s.gnss.corrSrc = 1 ∧ s.gnss.corrChan = c ∧ s.gnss.corrNum = q) then
            (s, stBusy, [])
          else
            let s := s.modQ c q (fun _ =>
              if to' = 0 then CanQueue.reset
              else { CanQueue.reset with consumer := to', win := r.win, desc := d, thr := u8 p 3, ageMs := u8 p 4 })
            let s := if to' = 1 then s.regionWrite r.win d 0 (b32 0 ++ b32 0 ++ b32 (s.queueE (s.canQ c q)) ++ b32 0) else s
            let s := if x.overflow then s.queueOk c q else s
            (s.dirty, stDone, []) }

/-- CAN.SCHEDULE (R345). With no basic cycle running it takes effect at once. -/
def verbCanSchedule : Verb :=
  { unit := 0x30, verb := 0x14, lenOk := lenIs 16, instOk := instLt 8, query := false, rt := false, perm := none,
    body := fun r s =>
      let p := r.payload
      let c := r.inst
      let role := u8 p 0
      let n : CanSched := { role := role, matrix := u8 p 1, refId := u32 p 4, cycleUs := u16 p 8, phaseUs := u16 p 10, backupUs := u16 p 12 }
      if role > 3 ∨ !isPow (u8 p 1) ∨ bits (u32 p 4) 30 29 ≠ 0 ∨ u16 p 8 < 1000 ∨ (role = 1 ∧ u16 p 10 ≥ u16 p 8) ∨ u16 p 12 < 100 ∨
          u16 p 12 > 10000 then (s, stRange, [])
      else
        let s := s.modCan c (fun x => { x with pendSched := some n })
        let y := s.canCh c
        ((if y.sched.role = 0 ∨ (y.sched.role ≠ 1 ∧ !y.synced) then s.schedApply c else s).dirty, stDone, []) }

/-- CAN.RECOVER (R325). -/
def verbCanRecover : Verb :=
  { unit := 0x30, verb := 0x15, lenOk := lenIs 0, instOk := instLt 8, query := false, rt := false, perm := none,
    body := fun r s =>
      if (s.canCh r.inst).report ≠ 3 then (s, stBusy, []) else (s.modCan r.inst (fun x => { x with recovering := true }), stDone, []) }

/-- CAN.SEND (R344). -/
def verbCanSend : Verb :=
  { unit := 0x30, verb := 0x16, lenOk := fun r => decide (u8 r.payload 3 ≤ 64) && r.payload.length == 4 + u8 r.payload 3, instOk := inst0,
    query := false, rt := true,
    perm := some (fun s r => let i := u16 r.payload 0
      let (lo, hi) := s.panRange r.win
      decide (lo ≤ i ∧ i < hi) && (!s.isHeadAt i || s.right r.win 0x30 (eChan (s.pan i)) true)),
    body := fun r s =>
      let p := r.payload
      let i := u16 p 0
      let fl := u8 p 2
      let n := u8 p 3
      let e := s.pan i
      if !s.isHeadAt i ∨ fl > 3 ∨ n > u8 e 8 then (s, stRange, [])
      else if !(s.canCh (eChan e)).usable then (s, stBusy, [])
      else
        let s := if n = 0 then s else s.modTx i (fun t => { t with stored := some (overwrite (s.txStored i) 0 (slice p 4 n)) })
        let s := if bit fl 0 then s.modTx i (fun t => { t with confirm := t.confirm ++ [(s.hw, { win := r.win, tag := r.tag })] }) else s
        let s := if u8 e 9 = 0 ∧ !bit fl 1 then s.txRequest i false else s
        (s, if bit fl 0 then stAccepted else stDone, []) }

/-! ### Restart and trunk start (R355, R356) -/

/-- The bus-mapped signals that CAN produces read zero (02 R66): all but those of the Ethernet listener (16 R365). -/
def State.canZero (s : State) : State :=
  let q := s.eth.sig
  if q.udp = 0 then s.zeroSigs 0x400 0x7FF else (s.zeroSigs 0x400 (q.first - 1)).zeroSigs (q.last + 1) 0x7FF

/-- CAN restarts: transmissions and transport sessions are aborted, confirmations complete under R63, controllers rejoin. -/
def State.canRestart (s : State) : State :=
  (List.range 8).foldl (fun (s : State) c =>
    let s := s.txAbort c
    let ops := (s.can.tx.filter (fun e => eChan (s.pan e.1) == c)).flatMap (fun e => e.2.confirm.map (fun o => (e.1, o.2)))
    let s := ops.foldl (fun (s : State) e =>
      (s.modTx e.1 (fun t => { t with confirm := [] })).complete e.2 0x30 c (185 + c) 0x6006 stRestarted e.1 7) s
    let l := (s.canCh c).sessions
    let s := l.foldl (fun (s : State) x =>
      let s := if x.kind = 0 then s else s.tpSendAbort c x.peer 3 x.pgn (x.kind == 2)
      (s.tpEnd c 0 stRestarted 3).raiseEv 0x30 c 194 0x600C 1 c x.pgn x.peer 3) s
    s.modCan c (fun x => { x with joining := x.mode != 0, hostWait := [], hostWin := [], tpHeld := [] })) s.canZero

/-- One channel at a trunk start: its settings re-applied, queues bound afresh with both indices at 0 (R336, R356). -/
def CanCh.cold (k cur : CanCh) : CanCh :=
  { CanCh.reset with
      mode := k.mode, fd := k.fd, term := k.term, autoRec := k.autoRec, spArb := k.spArb, spData := k.spData, rateArb := k.rateArb,
      rateData := k.rateData, state := if k.mode = 0 then 0 else 1, joining := k.mode != 0, sched := k.pendSched.getD k.sched,
      queues := tmap CanQueue.reset k.queues (fun q =>
        { CanQueue.reset with consumer := q.consumer, win := q.win, desc := q.desc, thr := q.thr, ageMs := q.ageMs }),
      tpOn := k.tpOn, tpAddr := k.tpAddr, tpCts := k.tpCts, tpBamMs := k.tpBamMs, tpWin := k.tpWin, tpDesc := k.tpDesc,
      wakePend := k.wakePend, wakeMode := cur.wakeMode, wakeFilt := cur.wakeFilt, wakeOvf := cur.wakeOvf, wakeDlc := cur.wakeDlc,
      wakeId := cur.wakeId, wakeMask := cur.wakeMask, wakeRate := cur.wakeRate, wakeData := cur.wakeData, asleep := cur.asleep }

/-- CAN at a trunk start: from the kept record. -/
def Can.cold (kept cur : Can) : Can :=
  { Can.reset with
      ch := (List.range 8).foldl (fun t c =>
        tset CanCh.reset t c (CanCh.cold (tget CanCh.reset kept.ch c) (tget CanCh.reset cur.ch c))) [],
      pantry := panWrite kept.pantry kept.pendPantry }

/-- Entries count from the trunk start (R332, R337). -/
def State.canTrunkPost (s : State) : State := (heads s.can.pantry).foldl (fun (s : State) e => s.panStart e.1) s

/-- A window opens afresh: the headers of the rings bound in it. -/
def State.canWindow (s : State) (w : Nat) : State :=
  (List.range 8).foldl (fun (s : State) c =>
    let x := s.canCh c
    let s := x.queues.foldl (fun (s : State) e =>
      if e.2.consumer = 1 ∧ e.2.win = w then
        s.regionWrite w e.2.desc 0 (b32 e.2.prod ++ b32 e.2.cons ++ b32 (s.queueE e.2) ++ b32 e.2.dropped) else s) s
    if x.tpOn ∧ x.tpWin = w then
      s.regionWrite w x.tpDesc 0 (b32 x.tpProd ++ b32 x.tpCons ++ b32 (s.tpArea c) ++ b32 x.tpRefused) else s) s

/-- CAN.STATUS -/
def execCanStatus (r : Req) (s : State) : Out := mailboxRow verbCanStatus r s
/-- CAN.HP_READ -/
def execCanHpRead (r : Req) (s : State) : Out := mailboxRow verbCanHpRead r s
/-- CAN.TX_STATUS -/
def execCanTxStatus (r : Req) (s : State) : Out := mailboxRow verbCanTxStatus r s
/-- CAN.CONFIG -/
def execCanConfig (r : Req) (s : State) : Out := mailboxRow verbCanConfig r s
/-- CAN.QUEUE -/
def execCanQueue (r : Req) (s : State) : Out := mailboxRow verbCanQueue r s
/-- CAN.SCHEDULE -/
def execCanSchedule (r : Req) (s : State) : Out := mailboxRow verbCanSchedule r s
/-- CAN.RECOVER -/
def execCanRecover (r : Req) (s : State) : Out := mailboxRow verbCanRecover r s
/-- CAN.SEND -/
def execCanSend (r : Req) (s : State) : Out := mailboxRow verbCanSend r s

end Sys2Proof.Machine
end

