-- ==== Sys2Proof/Machine/Cam.lean ====
section
/-! DEFINITION. Machine/Cam.lean: camera ports and the image pipeline (08). Rows, raw codes and what the spec does not compute to
the bit (the demosaic, T3 of mosaics 4 and 5) are operands of a frame's arrival and output. -/

namespace Sys2Proof.Machine

/-- Change the CAM unit. -/
def State.modCam (s : State) (f : Cam → Cam) : State := { s with cam := f s.cam }
/-- A camera port. -/
def State.port (s : State) (p : Nat) : CamPort := tget CamPort.reset s.cam.ports p
/-- Change a camera port. -/
def State.modPort (s : State) (p : Nat) (f : CamPort → CamPort) : State :=
  s.modCam (fun c => { c with ports := tmod CamPort.reset c.ports p f })
/-- A sensor of a port. -/
def CamPort.sensor (c : CamPort) (n : Nat) : CamSensor := tget CamSensor.reset c.sensors n
/-- A sensor. -/
def State.camSensor (s : State) (p n : Nat) : CamSensor := (s.port p).sensor n
/-- Change a sensor. -/
def State.modCamSensor (s : State) (p n : Nat) (f : CamSensor → CamSensor) : State :=
  s.modPort p (fun c => { c with sensors := tmod CamSensor.reset c.sensors n f })
/-- A lamp binding. -/
def State.lamp (s : State) (b : Nat) : Lamp := tget Lamp.reset s.cam.lamps b
/-- Change a lamp binding. -/
def State.modLamp (s : State) (b : Nat) (f : Lamp → Lamp) : State :=
  s.modCam (fun c => { c with lamps := tmod Lamp.reset c.lamps b f })

/-- CAM is fitted, runs, and has the port. -/
def State.camOn (s : State) (p : Nat) : Bool := s.running 0x41 0 && decide (p < camPorts s.variant)

/-! ### Load (R198, R204) -/

/-- Usable CSI-2 payload of a gear, bit/s; an untrained link counts as G4. -/
def gearCap : Nat → Nat | 1 => 1800000000 | 2 => 3700000000 | 3 => 7400000000 | _ => 11200000000

/-- Pixels × exposures of the enabled sensors, each weighted by `w`. -/
def CamPort.sum (c : CamPort) (w : CamSensor → Nat) : Nat :=
  (List.range 4).foldl (fun a n => let x := c.sensor n
    if x.enable then a + x.width * x.height * x.exposures * w x else a) 0

/-- The declared load fits: 1,200 Mpix/s and the payload of gear `g`. -/
def CamPort.fits (c : CamPort) (g : Nat) : Bool :=
  decide (c.sum (fun _ => 1) ≤ 1200 * c.periodUs ∧ c.sum (·.depth) * 1000000 ≤ gearCap g * c.periodUs)

/-- Declared pixel rate, pix/s. -/
def CamPort.rate (c : CamPort) : Nat := c.sum (fun _ => 1) * 1000000 / c.periodUs

/-! ### Taps (R209) -/

/-- A running tap ends with its completion (R209, R217). -/
def State.tapEnd (s : State) (p n st : Nat) : State :=
  if !(s.port p).tapOn.contains n then s
  else
    let t := tget CamTap.reset (s.port p).taps n
    let s := if st = stRestarted then s.regionAbort t.op.win t.desc else s.regionEnd t.op.win t.desc (s.region t.op.win t.desc).fill
    let s := s.modPort p (fun c =>
      { c with taps := tset CamTap.reset c.taps n CamTap.reset, tapOn := c.tapOn.erase n })
    s.complete t.op 0x41 p 223 0x9008 st t.captured t.skipped

/-- Every running tap of a port ends. -/
def State.tapsEnd (s : State) (p st : Nat) : State := (List.range 4).foldl (fun (s : State) n => s.tapEnd p n st) s

/-- Planes at T4 of a mosaic (R207). -/
def mosaicPlanes : Nat → Nat | 0 => 1 | 1 => 3 | 2 => 3 | 3 => 2 | _ => 4

/-- Scaled output `i` of a sensor: format, factor, crop. -/
def CamSensor.scaled (x : CamSensor) (i : Nat) : Nat × Nat × Nat × Nat × Nat × Nat :=
  let p := x.isp.getD []
  let o := 232 + 16 * i
  (u8 p o, u8 p (o + 1), u16 p (o + 2), u16 p (o + 4), u16 p (o + 6), u16 p (o + 8))

/-- Planes, width, height and bytes a sample of a tap point with a region of interest; width 0 when there is no such output. -/
def CamSensor.tapShape (x : CamSensor) (point : Nat) (roi : List Nat) : Nat × Nat × Nat × Nat :=
  if point ≥ 6 then
    let (f, k, _, _, w, h) := x.scaled (point - 6)
    if f = 0 ∨ k = 0 then (0, 0, 0, 1) else (if f = 1 then 1 else 3, w / k, h / k, 1)
  else
    let w := if roi.getD 2 0 = 0 then x.width else roi.getD 2 0
    let h := if roi.getD 2 0 = 0 then x.height else roi.getD 3 0
    match point with
    | 0 => (x.exposures, w, h, if x.depth > 16 then 4 else 2)
    | 1 => (x.exposures, w, h, 4)
    | 2 => (1, w, h, 4)
    | 3 => (1, w, h, 4)
    | 4 => (mosaicPlanes x.mosaic, w, h, 4)
    | _ => (if x.mosaic = 0 then 1 else 3, w, h, 2)

/-- The slot of a tap point, in bytes. -/
def CamSensor.tapSlot (x : CamSensor) (point : Nat) (roi : List Nat) : Nat :=
  let (n, w, h, b) := x.tapShape point roi
  (64 + n * w * h * b + 4095) / 4096 * 4096

/-! ### The image stages (R206, R207) -/

/-- T1: the knee table of an ISP block; a code below the first knee has no stated output (log entry 81). -/
def knee (base : Nat) (p : List Byte) (x : Nat) : Nat :=
  let n := u8 p 128
  let at' (i : Nat) : Nat × Nat := (u32 p (8 * i), u32 p (8 * i + 4))
  match (List.range n).findIdx? (fun i => decide (x < (at' i).1)) with
  | none => (at' (n - 1)).2
  | some 0 => Config.freeNat (base + x) % 2 ^ 24
  | some (i + 1) =>
    let a := at' i
    let b := at' (i + 1)
    ((a.2 : Int) + ((b.2 : Int) - a.2) * (x - a.1 : Nat) / (b.1 - a.1 : Nat)).toNat

/-- The exact value of a finite binary32 word. -/
def fRat (a : F32) : Rat :=
  match fD a with
  | .fin n m e => (if n then -1 else 1) * (if e ≥ 0 then ((m * 2 ^ e.toNat : Nat) : Rat) else mkRat m (2 ^ (-e).toNat))
  | _ => 0

/-- T2: the merge of up to three exposures, computed exactly, halves rounded up. -/
def mergeT2 (p : List Byte) (x : CamSensor) (l : List Nat) : Nat :=
  let sat : Rat := ((2 ^ 24 - 1 : Nat) : Rat)
  let lo := mkRat (u8 p 129) 100
  let hi := mkRat (u8 p 130) 100
  let w (v : Rat) : Rat := max 0 (min 1 ((v - lo * sat) / ((hi - lo) * sat)))
  let lin (i : Nat) : Rat := ((l.getD i 0 : Nat) : Rat)
  let v := lin 0
  let v := if x.exposures ≥ 2 then (1 - w (lin 0)) * lin 0 + w (lin 0) * lin 1 * fRat x.r1 else v
  let v := if x.exposures = 3 then (1 - w (lin 1)) * v + w (lin 1) * lin 2 * fRat x.r1 * fRat x.r2 else v
  min (v + mkRat 1 2).floor.toNat (2 ^ 32 - 1)

/-- The colour at a pixel of mosaics 0-3. -/
def cfaColour (mosaic c r : Nat) : Nat :=
  let pos := r % 2 * 2 + c % 2
  match mosaic with
  | 0 => 0
  | 3 => if pos = 0 then 0 else 1
  | _ => if pos = 0 then 0 else if pos = 3 then 2 else 1

/-- The mean of the middle of a list, its median. -/
def medianN (l : List Nat) : Nat :=
  let q := l.foldl (fun a x => a.filter (· ≤ x) ++ [x] ++ a.filter (fun y => decide (x < y))) []
  (q.getD ((q.length - 1) / 2) 0 + q.getD (q.length / 2) 0) / 2

/-- T3 of mosaics 0-3: black level, static and dynamic defects. A defect without a neighbour of its colour has no stated
replacement (log entry 81). -/
def stageT3 (base : Nat) (p : List Byte) (x : CamSensor) (t2 : List Nat) : List Nat :=
  let w := x.width
  let h := x.height
  let blk : List Nat := (List.range (w * h)).map (fun i =>
    t2.getD i 0 - u32 p (132 + 4 * (i / w % 2 * 2 + i % w % 2)))
  let near (i : Nat) : List Nat :=
    ([(0, 0), (0, 1), (0, 2), (1, 0), (1, 2), (2, 0), (2, 1), (2, 2)] : List (Nat × Nat)).filterMap (fun d =>
      let r := i / w + d.1
      let c := i % w + d.2
      if 1 ≤ r ∧ r ≤ h ∧ 1 ≤ c ∧ c ≤ w ∧ cfaColour x.mosaic (c - 1) (r - 1) = cfaColour x.mosaic (i % w) (i / w) then
        some (blk.getD ((r - 1) * w + (c - 1)) 0) else none)
  let fix (i : Nat) : Nat := if (near i).isEmpty then Config.freeNat (base + i) % 2 ^ 32 else medianN (near i)
  let defects := (List.range (u16 p 2312)).map (fun i => u16 p (2316 + 4 * i) + u16 p (2318 + 4 * i) * w)
  let thr := u32 p 148
  (List.range (w * h)).map (fun i =>
    let v := blk.getD i 0
    if defects.contains i then fix i
    else if u8 p 131 = 1 ∧ !(near i).isEmpty ∧ (near i).all (fun y => decide (v > y + thr ∨ y > v + thr)) then fix i else v)

/-- A plane inside a region of interest. -/
def cropPlane (w : Nat) (roi : List Nat) (l : List Nat) : List Nat :=
  if roi.getD 2 0 = 0 then l
  else (List.range (roi.getD 3 0)).flatMap (fun r => (List.range (roi.getD 2 0)).map (fun c =>
    l.getD ((roi.getD 1 0 + r) * w + roi.getD 0 0 + c) 0))

/-- The first `n` binary digits of log₂ of `y` ÷ 2^128, for 2^128 ≤ y < 2^129, as a number: each squaring shifts one out. -/
def log2Digits : Nat → Nat → Nat → Nat
  | 0, _, acc => acc
  | n + 1, y, acc =>
    let q := y * y / 2 ^ 128
    if q ≥ 2 ^ 129 then log2Digits n (q / 2) (2 * acc + 1) else log2Digits n q (2 * acc)

/-- The tone curve at a value (R207): index ⌊32 × log₂(1 + max(v, 0))⌋ capped at 1,023, linear between entries by the fraction of
32 × log₂(1 + max(v, 0)) to 40 binary digits (log entry 81). -/
def toneMap (p : List Byte) (v : Rat) : Nat :=
  let u := (1 + max v 0) ^ 32
  let i := Nat.log2 u.floor.toNat
  let at' (k : Nat) : Nat := u16 p (264 + 2 * min k 1023)
  let w := log2Digits 40 (u * ((2 ^ 128 : Nat) : Rat) / ((2 ^ i : Nat) : Rat)).floor.toNat 0
  (at' i * (2 ^ 40 - w) + at' (i + 1) * w + 2 ^ 39) / 2 ^ 40

/-- T5 (R207): gains, 3 × 5 colour matrix on (R, G, B, X, 1), tone curve; one plane for a monochrome sensor. -/
def stageT5 (p : List Byte) (x : CamSensor) (t4 : List (List Nat)) : List (List Nat) :=
  let gain := (f32s p 152 4).map fRat
  let m := (f32s p 168 15).map fRat
  let inp (j i : Nat) : Rat := gain.getD j 0 * (((t4.getD j []).getD i 0 : Nat) : Rat)
  let row (k i : Nat) : Rat :=
    (List.range 4).foldl (fun a j => a + m.getD (5 * k + j) 0 * inp j i) (m.getD (5 * k + 4) 0)
  (List.range (if x.mosaic = 0 then 1 else 3)).map (fun k =>
    (List.range (x.width * x.height)).map (fun i => toneMap p (row k i)))

/-- One cell of a scaled plane: the mean of its factor × factor area, halves rounded up (R208, log entry 81). -/
def areaMean (w : Nat) (pl : List Nat) (k x0 y0 c r : Nat) : Nat :=
  let sum := (List.range k).foldl (fun a dr => (List.range k).foldl (fun a dc =>
    a + pl.getD ((y0 + r * k + dr) * w + x0 + c * k + dc) 0) a) 0
  (2 * sum + k * k) / (2 * (k * k))

/-- The samples of a pixel of T5 planes in an output format (R208): 1 Y8, 2 RGB888, 3 INT8 of value ÷ 16 − 128; RGB repeats the
Y of a monochrome sensor. -/
def outSamples (mono : Bool) (fmt : Nat) (v : List Nat) : List Byte :=
  let v := if mono then List.replicate 3 (v.getD 0 0) else v
  let y := if mono then v.getD 0 0 / 16 else Config.luma (v.getD 0 0) (v.getD 1 0) (v.getD 2 0)
  match fmt with
  | 1 => b8 y
  | 2 => v.flatMap (fun a => b8 (a / 16))
  | _ => v.flatMap (fun a => leB 1 (ofSigned 8 ((a / 16 : Nat) - 128)))

/-- A scaled output (R208): crop, reduction, format; the planes of format 3 one after another. -/
def scaledBytes (x : CamSensor) (t5 : List (List Nat)) (i : Nat) : List Byte :=
  let (fmt, k, x0, y0, w, h) := x.scaled i
  let w := w / k
  let h := h / k
  let pix (c r : Nat) : List Byte := outSamples (x.mosaic == 0) fmt (t5.map (fun pl => areaMean x.width pl k x0 y0 c r))
  let all := (List.range h).flatMap (fun r => (List.range w).map (fun c => pix c r))
  if fmt = 0 then []
  else if fmt = 3 then (List.range 3).flatMap (fun j => all.map (fun q => q.getD j 0))
  else all.flatten

/-- The planes of a frame at a tap point 0-5. -/
def tapPlanes (base : Nat) (x : CamSensor) (d : IspData) (point : Nat) : List (List Nat) :=
  let p := x.isp.getD []
  let t1 : List (List Nat) := d.raw.map (fun l => l.map (knee base p))
  let t2 : List Nat := (List.range (x.width * x.height)).map (fun i => mergeT2 p x (t1.map (fun l => l.getD i 0)))
  match point with
  | 0 => d.raw
  | 1 => t1
  | 2 => [t2]
  | 3 => [if x.mosaic < 4 then stageT3 base p x t2 else d.t3]
  | 4 => d.t4
  | _ => stageT5 p x d.t4

/-- The bytes after the header of a tapped frame. -/
def tapBytes (base : Nat) (x : CamSensor) (d : IspData) (t : CamTap) : List Byte :=
  let (n, w, h, b) := x.tapShape t.point t.roi
  if t.point ≥ 6 then scaledBytes x (tapPlanes base x d 5) (t.point - 6)
  else
    let pl := tapPlanes base x d t.point
    (List.range n).flatMap (fun j =>
      let q := cropPlane x.width t.roi (pl.getD j [])
      (List.range (w * h)).flatMap (fun i => leB b (q.getD i 0)))

/-- The header of the frame last taken, for a tap point (R208). -/
def CamSensor.header (x : CamSensor) (point : Nat) (roi : List Nat) : List Byte :=
  let (n, w, h, b) := x.tapShape point roi
  slice x.hdr 0 14 ++ b8 point ++ b8 n ++ b16 w ++ b16 h ++ b8 b ++ slice x.hdr 21 43

/-- A sensor with the ISP block that was in force for the frame last taken (R215). -/
def CamSensor.ofDue (x : CamSensor) : CamSensor := { x with isp := x.dueIsp }

/-- Some model binds the scaled output (R208). -/
def State.outputUsed (s : State) (port sensor i : Nat) : Bool :=
  s.crown.slots.any (fun m => m.2.state != 0 && m.2.binds.any (fun b =>
    b.2.kind == 1 && u8 b.2.fields 0 == port && u8 b.2.fields 1 == sensor && u8 b.2.fields 2 == i))

/-- The scaled outputs that a model binds are written, each with its frame header; others are discarded (R208). -/
def State.outputsWritten (s : State) (port sensor : Nat) (d : IspData) : State :=
  let x := (s.camSensor port sensor).ofDue
  [0, 1].foldl (fun (s : State) i =>
    if (x.scaled i).1 = 0 ∨ !s.outputUsed port sensor i then s
    else s.modCamSensor port sensor (fun y =>
      { y with outs := tset [] y.outs i (x.header (6 + i) [] ++ scaledBytes x (tapPlanes s.free x d 5) i) })) s

/-- CAM_ISP_OUTPUT (R205, R208, R209): the outputs of the frame last arrived are complete; a running tap takes its turn. -/
def execCamIspOutput (port sensor : Nat) (d : IspData) (s : State) : Out :=
  .next (
    let x := (s.camSensor port sensor).ofDue
    if !s.camOn port || !x.due then s
    else
      let s := (s.outputsWritten port sensor d).modCamSensor port sensor (fun x => { x with due := false })
      if !(s.port port).tapOn.contains sensor then s
      else
        let put (s : State) (f : CamTap → CamTap) : State := s.modPort port (fun c => { c with taps := tmod CamTap.reset c.taps sensor f })
        let s := put s (fun t => { t with seen := t.seen + 1 })
        let t := tget CamTap.reset (s.port port).taps sensor
        if t.seen % t.every ≠ 0 then s
        else if !d.pace then put s (fun t => { t with skipped := t.skipped + 1 })
        else
          let hdr := x.header t.point t.roi
          let ofs := x.tapSlot t.point t.roi * t.captured
          let s := { (s.regionWrite t.op.win t.desc ofs (hdr ++ tapBytes s.free x d t)) with free := s.free + 2 ^ 32 }
          let s := s.modRegion t.op.win t.desc (fun g => { g with fill := ofs + x.tapSlot t.point t.roi })
          let s := put s (fun t => { t with captured := t.captured + 1 })
          if t.captured + 1 ≥ t.want then s.tapEnd port sensor stDone else s)

/-! ### Lamps (R211-R214) -/

/-- The start of exposure 0 of the first row after a sync instant, and the end of the last row, relative to it, ns. -/
def CamSensor.lastEnd (x : CamSensor) : Nat := x.d0 + (x.height - 1) * x.rowNs + x.e0 * 1000

/-- The PWM periods of a binding in P. -/
def Lamp.split (l : Lamp) : Nat := if l.mode = 1 then max 1 l.n else 1

/-- P, phase, PWM periods in P, on-time and mode that a binding gives its output (R211). The periods of mode 1 start at t_k +
offset + ⌊j·P ÷ N⌋, so that the first of each P keeps to its sync instant. -/
def lampTiming (l : Lamp) (c : CamPort) : Nat × Nat × Nat × Int × Bool :=
  let x := c.sensor l.sensor
  let P := c.periodUs * 1000
  let start : Int := if l.mode = 1 then l.offset else (x.d0 : Int) - l.guardUs * 1000 + l.offset
  let ph := ((c.phaseUs * 1000 + start) % (max P 1 : Nat)).toNat / 4 * 4
  let on : Int := (x.lastEnd : Int) + l.guardUs * 1000 + l.ext - start
  (P, ph, l.split, on, l.mode == 2)

/-- The binding fits the output's limits (R211, 11 R260). -/
def lampFits (l : Lamp) (c : CamPort) : Bool :=
  let (P, _, n, on, win) := lampTiming l c
  decide (40000 * n ≤ P ∧ P ≤ 20000000 * n) &&
    (!win || decide ((minEdge (outClass l.out) : Int) ≤ on ∧ on + (minEdge (outClass l.out) : Int) ≤ (P : Int)))

/-- The output takes its binding's timing. -/
def State.lampApply (s : State) (b : Nat) : State :=
  let l := s.lamp b
  if l.mode = 0 then s
  else
    let (P, ph, n, on, win) := lampTiming l (s.port l.port)
    s.modOut l.out (fun c => { c with lamp := some (P, ph, n, on.toNat, win), bound := 3, boundBy := b })

/-- Every output takes its binding's timing. -/
def State.lampsApply (s : State) : State := (List.range 8).foldl State.lampApply s

/-- A binding ends: the output returns to its own timing. -/
def State.lampUnbind (s : State) (b : Nat) : State :=
  let l := s.lamp b
  if l.mode = 0 then s
  else
    let s := s.clearFault 0x900A 0x41 l.port
    (s.modOut l.out (fun c => { c with lamp := none, bound := 0, boundBy := 0 })).modLamp b (fun _ => Lamp.reset)

/-- The bindings of a sensor, or of a whole port. -/
def State.lampsOf (s : State) (p : Nat) (n : Option Nat) : List Nat :=
  (List.range 8).filter (fun b => let l := s.lamp b
    l.mode != 0 && l.port == p && (match n with | some n => l.sensor == n | none => true))

/-- The bindings of a sensor, or of a whole port, stand under a configuration of the port: they keep module sync and fit their
outputs (R211, log entry 85). -/
def State.lampsStand (s : State) (p : Nat) (n : Option Nat) (c : CamPort) : Bool :=
  (s.lampsOf p n).all (fun b => c.sync && lampFits (s.lamp b) c)

/-- A binding under the shutter of its sensor (R212): mode 1 and a global shutter run open-loop, a rolling one starts unlocked. -/
def State.lampShutter (s : State) (b shutter : Nat) : State :=
  let l := s.lamp b
  let n := if l.mode = 1 ∨ shutter ≠ 0 then 3 else if l.state = 3 then 1 else l.state
  if n = l.state then s
  else (s.modLamp b (fun l => { l with state := n, clean := 0, dirty := 0 })).clearFault 0x900A 0x41 l.port

/-- A binding that is corrected from rows: mode 2 on a rolling-shutter sensor. -/
def State.lampTracks (s : State) (b : Nat) : Bool :=
  let l := s.lamp b
  l.mode == 2 && (s.camSensor l.port l.sensor).shutter == 0

/-- Clamp a correction to ±1,000 µs. -/
def clampUs (v : Int) : Int := max (-1000000) (min 1000000 v)

/-- Mean of a list, 0 of none. -/
def meanI (l : List Int) : Int := if l.isEmpty then 0 else l.foldl (· + ·) 0 / (l.length : Int)

/-- Head rows, tail rows, delta_head and delta_tail of a frame with row means `m` for a binding (R212), times relative to
t_first; b_full is the mean of the rows outside the first and the last quarter (log entry 85). -/
def lampDeltas (l : Lamp) (x : CamSensor) (m : List Nat) : Nat × Nat × Int × Int :=
  let e0 : Int := x.e0 * 1000
  let rows : List (Nat × Nat) := m.zipIdx.map (fun e => (e.2, e.1))
  let mid := rows.filter (fun r => decide (x.height ≤ 4 * r.1 ∧ 4 * r.1 < 3 * x.height))
  let full := mid.foldl (fun a r => a + r.2) 0
  let k := mid.length
  let ok := rows.filter (fun r => decide (full ≠ 0 ∧ full ≤ 20 * r.2 * k ∧ 20 * r.2 * k ≤ 19 * full))
  let head := ok.filter (fun r => decide (4 * r.1 < x.height))
  let tail := ok.filter (fun r => decide (4 * r.1 ≥ 3 * x.height))
  let sr (r : Nat) : Int := (r * x.rowNs : Nat)
  let lit (r : Nat × Nat) : Int := (r.2 : Int) * k * e0 / full
  let onset := head.map (fun r => sr r.1 + e0 - lit r)
  let offend := tail.map (fun r => sr r.1 + lit r)
  let g : Int := l.guardUs * 1000
  let lastEnd : Int := ((x.height - 1) * x.rowNs : Nat) + e0
  (head.length, tail.length, if head.isEmpty then 0 else meanI onset + g, if tail.isEmpty then 0 else lastEnd + g - meanI offend)

/-! ### Flicker (R210) -/

/-- The sine of `n` ÷ `d` of a quarter turn, in 2^-48: its series to the 17th power. -/
def quarterSin (n d : Nat) : Int :=
  let x : Int := 442139859501778 * n / d
  let q := x * x / 2 ^ 48
  ((List.range 8).foldl (fun (a : Int × Int) k =>
    let t := -(a.2 * q / 2 ^ 48) / ((2 * k + 2) * (2 * k + 3) : Nat)
    (a.1 + t, t)) (x, x)).1

/-- The cosine and the sine of `n` ÷ `d` of a turn, in 2^-48. -/
def turnCosSin (n d : Nat) : Int × Int :=
  let r := 4 * (n % d) % d
  let s := quarterSin r d
  let c := quarterSin (d - r) d
  match 4 * (n % d) / d with
  | 0 => (c, s)
  | 1 => (-s, c)
  | 2 => (-c, -s)
  | _ => (s, -c)

/-- Row means minus their least-squares linear trend, times the divisor that makes them whole (R210). -/
def detrend (m : List Nat) : List Int × Int :=
  let n : Int := m.length
  let e := m.zipIdx
  let sx : Int := e.foldl (fun a p => a + (p.2 : Int)) 0
  let sxx : Int := e.foldl (fun a p => a + (p.2 : Int) * p.2) 0
  let sm : Int := e.foldl (fun a p => a + (p.1 : Int)) 0
  let sxm : Int := e.foldl (fun a p => a + (p.1 : Int) * p.2) 0
  let d := n * sxx - sx * sx
  (e.map (fun p => (p.1 : Int) * d - (sm * sxx - sx * sxm) - (n * sxm - sx * sm) * p.2), d)

/-- The sum of h[r]·exp(-j·2π·f·t[r]) over the kept frames at f = `num` ÷ `den` per ns, times of the rows from `stamp` on (R210). -/
def flickSum (fr : List (Nat × Nat × List Nat)) (num den stamp : Nat) : Int × Int :=
  fr.foldl (fun a f =>
    ((detrend f.2.2).1.zipIdx).foldl (fun (a : Int × Int) h =>
      let t : Int := ((f.1 + h.2 * f.2.1 : Nat) : Int) - stamp
      let (c, s) := turnCosSin (t * num % (max den 1 : Nat)).toNat (max den 1)
      (a.1 + h.1 * c, a.2 - h.1 * s)) a) (0, 0)

/-- The amplitude A of such a sum in units of 1 ÷ `scale` (R210). -/
def flickAmp (scale : Nat) (fr : List (Nat × Nat × List Nat)) (z : Int × Int) : Nat :=
  let m := fr.foldl (fun a f => f.2.2.foldl (· + ·) a) 0 * ((fr.head?.map (fun f => (detrend f.2.2).2)).getD 0).toNat
  if m = 0 then 0 else Nat.sqrt (scale * scale * 4 * (z.1 * z.1 + z.2 * z.2).toNat / (2 ^ 96 * (m * m)))

/-- The argument of a sum, 0.01° (R210). -/
def flickArg (z : Int × Int) : Nat :=
  let (q, x, y) : Nat × Int × Int :=
    if z.1 > 0 ∧ z.2 ≥ 0 then (0, z.1, z.2) else if z.1 ≤ 0 ∧ z.2 > 0 then (1, z.2, -z.1)
    else if z.1 < 0 ∧ z.2 ≤ 0 then (2, -z.1, -z.2) else (3, -z.2, z.1)
  9000 * (if z.1 = 0 ∧ z.2 = 0 then 0 else q) + [13, 12, 11, 10, 9, 8, 7, 6, 5, 4, 3, 2, 1, 0].foldl (fun a k =>
    let (c, s) := turnCosSin (a + 2 ^ k) 36000
    if a + 2 ^ k < 9000 ∧ y * c ≥ x * s ∧ y > 0 then a + 2 ^ k else a) 0

/-- A frequency in Hz within 5 Hz of a harmonic of a bound lamp's PWM frequency (R210). -/
def State.lampHarmonic (s : State) (f : Nat) : Bool :=
  (List.range 8).any (fun b =>
    let l := s.lamp b
    let P := (s.port l.port).periodUs * 1000
    let h := l.split * 1000000000
    let k := max 1 ((f * P + h / 2) / h)
    l.mode != 0 && decide (f * P ≤ k * h + 5 * P ∧ k * h ≤ f * P + 5 * P))

/-- f* of the kept frames and the sum at it (R210): the largest A(f) over 50, 55, …, 2,000 Hz, the lowest f of equals. -/
def State.flickBest (s : State) (fr : List (Nat × Nat × List Nat)) (stamp : Nat) : Option (Nat × Int × Int) :=
  (((List.range 391).map (fun i => 50 + 5 * i)).filter (fun f => !s.lampHarmonic f)).foldl (fun best f =>
    let z := flickSum fr f 1000000000 stamp
    match best with
    | some (_, a, b) => if z.1 * z.1 + z.2 * z.2 > a * a + b * b then some (f, z) else best
    | none => some (f, z)) none

/-- The key of the lamp correction of a port. -/
def camKey (p : Nat) : Nat := hostKey 0x41 0 p

/-- An interval of a list meets the one from `a` to `b`. -/
def meets (l : List (Nat × Nat)) (a b : Nat) : Bool := l.any (fun e => decide (e.1 ≤ b ∧ a < e.2))

/-- A binding's output was forced off during an exposure from `a` to `b` (R213). -/
def State.lampDark (s : State) (n a b : Nat) : Bool :=
  let c := s.out (s.lamp n).out
  meets c.dark a b || (match c.darkFrom with | some t => decide (t ≤ b) | none => false)

/-- One binding meets a frame exposed from `a` to `e`: lock state and, in hardware mode, the correction. -/
def State.lampFrame (s : State) (b : Nat) (f : CamFrame) (a e : Nat) : State :=
  let l := s.lamp b
  if !s.lampTracks b || s.lampDark b a e then s
  else
    let (nh, nt, dh, dt) := lampDeltas l (s.camSensor l.port l.sensor) f.means
    let clear := nh == 0 && nt == 0
    let s := if s.isHost (camKey l.port) then s
      else (s.modLamp b (fun l => { l with offset := l.offset - clampUs dh, ext := l.ext + clampUs (dt - dh) })).lampApply b
    let s := s.modLamp b (fun l => { l with clean := if clear then min 255 (l.clean + 1) else 0,
                                            dirty := if clear then 0 else min 255 (l.dirty + 1) })
    let l := s.lamp b
    if l.state = 1 ∧ l.clean ≥ 8 then
      let s := (s.modLamp b (fun l => { l with state := 2, dirty := 0 })).clearFault 0x900A 0x41 l.port
      s.post 0x41 l.port 222 0x9009 l.port b (ofSigned 32 l.offset) (ofSigned 32 l.ext)
    else if l.state = 2 ∧ l.dirty ≥ 3 then
      (s.modLamp b (fun l => { l with state := 1, clean := 0 })).raiseEv 0x41 l.port 222 0x900A 1 l.port b (ofSigned 32 dh) (ofSigned 32 dt)
    else s

/-- The host record of a binding (R214). -/
def State.lampRecord (s : State) (b no stamp : Nat) (f : CamFrame) : List Byte :=
  let l := s.lamp b
  let x := s.camSensor l.port l.sensor
  let (nh, nt, dh, dt) := lampDeltas l x f.means
  let rip := if l.mode = 1 ∧ x.shutter = 0 then
      fFrac (flickAmp (10 ^ 8) x.flickFrames (flickSum x.flickFrames l.n ((s.port l.port).periodUs * 1000) stamp)) 1000000
    else fZero
  b32 no ++ b32 0 ++ b64 stamp ++ bI32 dh ++ bI32 dt ++ b8 (min 255 nh) ++ b8 (min 255 nt) ++ b8 l.state ++ b8 0 ++ bF rip ++
    bI32 l.offset ++ bI32 l.ext ++ zeros 20 ++ b32 no

/-- The effect of a judged miss of a port's lamp correction: after hold-last, the configured offset and no extension. During a
restart of CAM the correction is frozen (R216). -/
def State.camMiss (s : State) (p : Nat) : State :=
  if s.running 0x41 0 && (s.hostFn (camKey p)).inSafe then
    (s.lampsOf p none).foldl (fun (s : State) b => (s.modLamp b (fun l => { l with offset := l.initOfs, ext := 0 })).lampApply b) s
  else s

/-- A frame of a port whose correction is host-assisted: its records are written, and a new period starts with its number. -/
def State.camHost (s : State) (p no stamp : Nat) (f : CamFrame) : State :=
  let key := camKey p
  let bs := s.lampsOf p (some f.sensor)
  if !s.isHost key || bs.isEmpty then s
  else
    let per := (s.port p).periodUs * 1000
    let h := s.hostFn key
    let s :=
      if h.period ≠ 0 ∧ h.k = no then s
      else
        let s := if h.got then s else (s.hostMiss key).camMiss p
        (s.hostPeriod key s.hw (per / 2) per).modHost key (fun h => { h with k := no })
    let b := (s.port p).hostBuf
    let s := bs.foldl (fun (s : State) n => s.regionWrite b.win b.a (64 * n) (s.lampRecord n no stamp f)) s
    s.regionDone b.win b.a b.tag 512 true

/-! ### Frames (R201-R206, R210) -/

/-- CAM_FRAME_SYNC (R201): at k·P + φ every enabled sensor of the port receives its pulse. -/
def execCamFrameSync (port : Nat) (s : State) : Out :=
  .next (
    let c := s.port port
    if !s.camOn port || !c.sync || !c.link || c.periodUs == 0 then s
    else
      let s := s.boundary (126 + 1000 * port) (c.periodUs * 1000) (c.phaseUs * 1000)
      s.modPort port (fun c => { c with frame := (c.frame + 1) % 2 ^ 32, lastSync := s.hw }))

/-- CAM/FRAME_ERROR. -/
def State.frameError (s : State) (p n kind no : Nat) : State := s.raiseEv 0x41 p (220 + p) 0x9006 1 p n kind no

/-- A frame is dropped before T0. -/
def State.frameDrop (s : State) (p n : Nat) : State :=
  s.modCamSensor p n (fun x => { x with dropped := satAdd 16 x.dropped 1, prevDropped := true })

/-- The row statistics of a frame are kept, of rolling-shutter sensors with a row time of 2-200 µs (R210); `t0` is t of row 0. -/
def State.flickKeep (s : State) (p n t0 : Nat) (m : List Nat) : State :=
  s.modCamSensor p n (fun x =>
    if x.shutter ≠ 0 ∨ x.rowNs < 2000 then x else { x with flickFrames := ((t0, x.rowNs, m) :: x.flickFrames).take 4 })

/-- CAM/FLICKER (R210): 2 % on 10 consecutive frames, at most once in 10 s. -/
def State.flicker (s : State) (p n stamp : Nat) : State :=
  let x := s.camSensor p n
  match if x.shutter ≠ 0 ∨ x.rowNs < 2000 ∨ flickAmp 1 x.flickFrames (2 ^ 127, 0) = 0 then none else s.flickBest x.flickFrames stamp with
  | none => s.modCamSensor p n (fun x => { x with flickRun := 0 })
  | some (f, z) =>
    let amp := flickAmp 10000 x.flickFrames z
    if amp < 200 then s.modCamSensor p n (fun x => { x with flickRun := 0 })
    else
      let s := s.modCamSensor p n (fun x => { x with flickRun := x.flickRun + 1 })
      let free : Bool := match x.flickAt with | none => true | some t => decide (s.hw ≥ t + 10000000000)
      if x.flickRun + 1 ≥ 10 ∧ free then
        (s.modCamSensor p n (fun x => { x with flickAt := some s.hw })).post 0x41 p 222 0x900B p n (10 * f)
          (amp % 65536 + 65536 * flickArg z)
      else s

/-- The E0 in force for a frame: the exposure last reported for a frame number not above it, or else the initial one (R202,
R203). -/
def State.takeExposure (s : State) (p n no : Nat) : State :=
  s.modCamSensor p n (fun x =>
    let e0 := (((x.expo.filter (fun e => decide (e.1 ≤ no))).getLast?).map (·.2)).getD x.e0Init
    { x with e0 := e0, e0Changed := !x.hdr.isEmpty && u32 x.hdr 24 != e0 })

/-- An accepted frame: header, statistics, lamp correction (R202, R208, R210, R212). -/
def State.frameTake (s : State) (f : CamFrame) (no tsync : Nat) : State :=
  let p := f.port
  let n := f.sensor
  let old := (s.camSensor p n).e0
  let s := s.takeExposure p n no
  let bs := s.lampsOf p (some n)
  let s := if (s.camSensor p n).e0 = old then s else bs.foldl State.lampApply s
  let x := s.camSensor p n
  let c := s.port p
  let tf := if c.sync then tsync + x.d0 else f.first - x.d0
  let stamp := tf + x.height / 2 * x.rowNs + x.e0 * 1000 / 2
  let unlocked := bs.any (fun b => let l := s.lamp b
    l.state == 1 || (l.mode == 1 && x.e0 * 1000 * l.n % (c.periodUs * 1000) != 0))
  let fin := tf + (x.height - 1) * x.rowNs + x.e0 * 1000
  let disturbed := bs.any (fun b => s.lampDark b tf fin || meets (s.out (s.lamp b).out).lateOn tf fin)
  let fl := b2n x.prevDropped + 2 * b2n disturbed + 4 * b2n unlocked +
    8 * b2n x.e0Changed + 16 * b2n (f.err == 2) + 32 * b2n ((s.port 0).route == 1 || (s.port 1).route == 1)
  let hdr := b64 stamp ++ b32 no ++ b8 p ++ b8 n ++ zeros 2 ++ b16 x.width ++ b16 x.height ++ b8 0 ++ b8 x.exposures ++ zeros 2 ++
    b32 x.e0 ++ b32 fl ++ b64 tf ++ b32 x.rowNs ++ b8 c.decim ++ zeros 19
  let s := s.modCamSensor p n (fun x => { x with hdr := hdr, due := true, dueIsp := x.isp, prevDropped := false })
  let s := (s.flickKeep p n (tf + x.e0 * 1000 / 2) f.means).flicker p n stamp
  let s := bs.foldl (fun (s : State) b => s.lampFrame b f tf fin) s
  s.camHost p no stamp f

/-- The first row of a frame arrives: its number is settled, the ISP block loaded for it takes effect, and a frame beyond the
declared rate is surplus (R203, R204, R215). -/
def State.frameBegin (s : State) (f : CamFrame) : State :=
  let c := s.port f.port
  let x := c.sensor f.sensor
  let no := if c.sync then c.frame - 1 - f.lag else x.frame
  let again := decide (no < x.lastNo)
  let surplus := if c.sync then again
    else (match x.lastFirst with | some t => decide (f.first < t + c.periodUs * 1000) | none => false)
  s.modCamSensor f.port f.sensor (fun x =>
    { x with begun := some (no, c.lastSync - f.lag * c.periodUs * 1000, surplus), frame := (x.frame + 1) % 2 ^ 32,
             lastNo := if c.sync && again then x.lastNo else no + 1, lastFrameAt := if surplus then x.lastFrameAt else f.first,
             lastFirst := if surplus then x.lastFirst else some f.first,
             isp := if x.pendIsp.isSome then x.pendIsp else x.isp, pendIsp := none })

/-- All rows of the frame begun have arrived. -/
def State.frameEnd (s : State) (f : CamFrame) : State :=
  let s := s.waitTo f.last
  let c := s.port f.port
  let x := c.sensor f.sensor
  let (no, tsync, surplus) := x.begun.getD (0, 0, false)
  let s := s.modPort f.port (fun c => { c with pktErrs := satAdd 32 c.pktErrs f.pktErrs })
  let s := if x.silent then s.clearFault 0x9005 0x41 f.port else s
  let s := s.modCamSensor f.port f.sensor (fun x => { x with silent := false, begun := none })
  if f.err = 4 ∨ c.route = 2 ∨ c.decim = 0 then s.frameDrop f.port f.sensor
  else if surplus then (s.frameDrop f.port f.sensor).frameError f.port f.sensor 3 no
  else if f.err = 1 then (s.frameDrop f.port f.sensor).frameError f.port f.sensor 1 no
  else if no % c.decim ≠ 0 then s
  else
    let s := if f.err = 2 then s.frameError f.port f.sensor 2 no else s.clearFault 0x9006 0x41 f.port
    s.frameTake f no tsync

/-- CAM_FRAME_ARRIVAL (R202-R204, R206, R210, R212, R214): a frame's rows have arrived, its first one only, or all of them. -/
def execCamFrameArrival (f : CamFrame) (s : State) : Out :=
  .next (
    let c := s.port f.port
    let x := c.sensor f.sensor
    if !s.camOn f.port || c.linkState != 2 || f.sensor ≥ 4 || !x.enable || (c.sync && decide (c.frame < 1 + f.lag)) then s
    else if f.begins then (s.waitTo f.first).frameBegin f
    else (if x.begun.isSome then s else s.frameBegin f).frameEnd f)

/-- CAM_SENSOR_SILENT (R217): no frame for at least 3 periods. -/
def execCamSensorSilent (port sensor periods : Nat) (s : State) : Out :=
  .next (
    let c := s.port port
    let x := c.sensor sensor
    if !s.camOn port || c.linkState != 2 || sensor ≥ 4 || !x.enable || x.silent || decide (periods < 3) then s
    else
      let s := s.waitTo (x.lastFrameAt + periods * c.periodUs * 1000)
      (s.modCamSensor port sensor (fun x => { x with silent := true })).raiseEv 0x41 port (220 + port) 0x9005 3 port sensor periods 0)

/-! ### Link and coax (R198-R200) -/

/-- CAM_LINK_UP (R198): the link has trained at a gear; one that cannot carry the declared load is not used. -/
def execCamLinkUp (port gear : Nat) (s : State) : Out :=
  .next (
    let c := s.port port
    if !s.camOn port || !c.link || c.linkState == 2 || gear == 0 || decide (gear > 4) then s
    else if c.fits gear then
      let s := (s.modPort port (fun c => { c with linkState := 2, gear := gear })).clearFault 0x9002 0x41 port
      s.post 0x41 port (220 + port) 0x9001 port gear 0 0
    else (s.modPort port (fun c => { c with linkState := 4, gear := gear })).raiseEv 0x41 port (220 + port) 0x9002 3 port 2 gear 0)

/-- CAM_LINK_LOST (R198): the lock is lost for 10 ms. -/
def execCamLinkLost (port : Nat) (s : State) : Out :=
  .next (
    let c := s.port port
    if !s.camOn port || c.linkState != 2 then s
    else (s.modPort port (fun c => { c with linkState := 3, gear := 0 })).raiseEv 0x41 port (220 + port) 0x9002 3 port 1 c.gear 0)

/-- CAM_POC_OPEN (R199): below 20 mA for 1 s with the supply on; the same check ends it at 30 mA. -/
def execCamPocOpen (port cur : Nat) (s : State) : Out :=
  .next (
    let c := s.port port
    if !s.camOn port || !c.coax then s
    else if c.coaxState = 1 ∧ cur < 20 then
      (s.modPort port (fun c => { c with coaxState := 2, coaxCur := fFrac cur 1000 })).raiseEv 0x41 port (220 + port) 0x9003 2 port cur 0 0
    else s.modPort port (fun c => { c with coaxCur := fFrac cur 1000 }))

/-- CAM_POC_OPEN_END (R199): the coax current, in mA, at or above 30 mA for 1 s. -/
def execCamPocOpenEnd (port cur : Nat) (s : State) : Out :=
  .next (
    let c := s.port port
    if !s.camOn port || !c.coax || c.coaxState != 2 || decide (cur < 30) then s
    else (s.modPort port (fun c => { c with coaxState := 1, coaxCur := fFrac cur 1000 })).clearFault 0x9003 0x41 port)

/-- The link of a port goes down with its supply. -/
def CamPort.linkDown (c : CamPort) : CamPort := { c with linkState := if c.link then 1 else 0, gear := 0 }

/-- CAM_POC_SHORT (R199): above 1.25 A for 5 ms or 3 A for 20 µs: supply off, retried every 2 s. -/
def execCamPocShort (port cur : Nat) (s : State) : Out :=
  .next (
    let c := s.port port
    if !s.camOn port || !c.coax || decide (c.coaxState ≥ 3) || decide (cur ≤ 1250) then s
    else
      let s := if c.coaxState = 2 then s.clearFault 0x9003 0x41 port else s
      let s := s.modPort port (fun c => { c.linkDown with coaxState := 3, coaxRetries := 0, coaxRetryAt := s.hw + 2000000000,
                                                          coaxCur := fZero })
      s.raiseEv 0x41 port (220 + port) 0x9004 3 port cur 0 0)

/-- CAM_POC_RETRY (R199): a retry with its largest current; one that holds at most 1 A for 1 s ends the fault, the fifth failed
one latches the supply off. -/
def execCamPocRetry (port cur : Nat) (s : State) : Out :=
  .next (
    let c := s.port port
    if !s.camOn port || !c.coax || c.coaxState != 3 then s
    else
      let s := s.waitTo c.coaxRetryAt
      if cur ≤ 1000 then
        let s := s.waitTo (s.hw + 1000000000)
        (s.modPort port (fun c => { c with coaxState := 1, coaxCur := fFrac cur 1000 })).clearFault 0x9004 0x41 port
      else if c.coaxRetries + 1 ≥ 5 then
        (s.modPort port (fun c => { c with coaxState := 4, coaxRetries := c.coaxRetries + 1 })).raiseEv
          0x41 port (220 + port) 0x9004 3 port cur (c.coaxRetries + 1) 1
      else s.modPort port (fun c => { c with coaxRetries := c.coaxRetries + 1, coaxRetryAt := s.hw + 2000000000 }))

/-- The reply of a command whose execution ends now, if its window is still owed it. -/
def State.replyLater (s : State) (v : Verb) (r : Req) (st : Nat) (pl : List Byte) : State :=
  match (s.win r.win).later.find? (fun e => e.1 == r) with
  | none => s
  | some (r, held) =>
    let s := s.modWin r.win (fun x => { x with later := x.later.erase (r, held) })
    let y := s.mkReply v r held false st pl
    (s.recordReply r y).answer r.win y

/-- CAM.BACKCH (R200): the transaction queues; its reply comes with its end. -/
def verbCamBackch : Verb :=
  { unit := 0x41, verb := 0x14,
    lenOk := fun r => decide (4 ≤ r.payload.length) && r.payload.length == 4 + u8 r.payload 2,
    instOk := instLt 2, query := false, rt := false, perm := none,
    body := fun r s =>
      let p := r.payload
      if u8 p 0 > 3 ∨ u8 p 1 > 127 ∨ u8 p 2 > 96 ∨ u8 p 3 > 96 then (s, stRange, [])
      else if (s.port r.inst).linkState ≠ 2 then (s, stBusy, b8 3)
      else (s.modPort r.inst (fun c => { c with backch := c.backch ++ [r] }), stLater, []) }

/-- CAM_BACKCH_DONE (R200): the transaction at the head ends; `cause` 0 done, 1 NACK, 2 timeout, 3 link down. -/
def execCamBackchDone (port cause : Nat) (data : List Byte) (s : State) : Out :=
  .next (
    match (s.port port).backch with
    | [] => s
    | r :: rest =>
      if !s.camOn port then s
      else
        let s := s.modPort port (fun c => { c with backch := rest })
        let cause := if (s.port port).linkState ≠ 2 then 3 else cause
        if cause = 0 then s.replyLater verbCamBackch r stDone (slice data 0 (u8 r.payload 3))
        else s.replyLater verbCamBackch r stBusy (b8 cause))

/-! ### Verbs -/

/-- CAM.STATUS (R196). -/
def verbCamStatus : Verb :=
  { unit := 0x41, verb := 0x01, lenOk := lenIs 0, instOk := instLt 2, query := true, rt := true, perm := none,
    body := fun r s =>
      let c := s.port r.inst
      (s, stDone, b8 c.linkState ++ b8 c.coaxState ++ b8 (bitSet ((List.range 4).filter (fun n => (c.sensor n).enable))) ++ b8 c.gear ++
        b32 (c.frame - 1) ++ (List.range 4).flatMap (fun n => b16 (c.sensor n).dropped) ++ b32 c.pktErrs ++ bF c.coaxCur ++
        b32 (c.rate / 1000) ++ b8 c.route ++ b8 c.decim ++ zeros 2) }

/-- CAM.CONFIG (R204, R199). -/
def verbCamConfig : Verb :=
  { unit := 0x41, verb := 0x10, lenOk := lenIs 12, instOk := instLt 2, query := false, rt := false, perm := none,
    body := fun r s =>
      let p := r.payload
      let i := r.inst
      let old := s.port i
      let c : CamPort := { old with link := u8 p 0 == 1, coax := u8 p 1 == 1, sync := u8 p 2 == 1, periodUs := u32 p 4,
                                    phaseUs := u32 p 8 }
      if u8 p 0 ≤ 1 ∧ u8 p 1 ≤ 1 ∧ u8 p 2 ≤ 1 ∧ 5000 ≤ c.periodUs ∧ c.periodUs ≤ 1000000 ∧ c.phaseUs < c.periodUs ∧ c.fits old.gear ∧
          s.lampsStand i none c then
        let s := s.tapsEnd i stDone
        -- frames are numbered anew under another sync (R201)
        let renum (x : CamSensor) : CamSensor := if c.sync = old.sync then x else { x with frame := 0, lastNo := 0, begun := none, expo := [], lastFirst := none }
        let s := s.modPort i (fun q =>
          { c with tapOn := q.tapOn, taps := q.taps, sensors := tmap CamSensor.reset c.sensors renum })
        let s := s.modPort i (fun q =>
          { q with coaxState := if !q.coax then 0 else if old.coax && old.coaxState < 3 then old.coaxState
                     else if old.coax && old.coaxState == 3 then 3 else 1,
                   coaxRetries := if old.coaxState == 4 then 0 else q.coaxRetries,
                   linkState := if !q.link then 0 else if old.link && q.coax == old.coax then old.linkState else 1,
                   gear := if q.link && old.link && q.coax == old.coax then old.gear else 0 })
        let s := if old.coaxState = 4 ∨ !c.coax then (s.clearFault 0x9004 0x41 i) else s
        let s := if !c.coax then s.clearFault 0x9003 0x41 i else s
        let s := if !c.link then s.clearFault 0x9002 0x41 i else s
        ((((s.lampsOf i none).foldl State.lampApply s)).dirty, stDone, [])
      else (s, stRange, []) }

/-- A ratio of R207. -/
def ratioOk (a : F32) : Bool := fLe fOne a && fLe a (fNat 16)

/-- CAM.SENSOR (R204). -/
def verbCamSensor : Verb :=
  { unit := 0x41, verb := 0x11, lenOk := lenIs 36, instOk := instLt 2, query := false, rt := false, perm := none,
    body := fun r s =>
      let p := r.payload
      let i := r.inst
      let n := u8 p 0
      let c := s.port i
      let old := c.sensor n
      let x : CamSensor := { old with enable := u8 p 1 == 1, mosaic := u8 p 2, depth := u8 p 3, width := u16 p 4, height := u16 p 6,
                                      exposures := u8 p 8, shutter := u8 p 9, dataTypes := [u8 p 10, u8 p 11, u8 p 12],
                                      rowNs := u32 p 16, d0 := u32 p 20, e0 := u32 p 24, e0Init := u32 p 24, r1 := f32 p 28, r2 := f32 p 32, expo := [] }
      let P := c.periodUs
      let c' : CamPort := { c with sensors := tset CamSensor.reset c.sensors n x }
      if n ≤ 3 ∧ u8 p 1 ≤ 1 ∧ x.mosaic ≤ 5 ∧ [8, 10, 12, 14, 16, 20, 24].contains x.depth ∧ 64 ≤ x.width ∧ x.width ≤ 4096 ∧
          64 ≤ x.height ∧ x.height ≤ 4096 ∧ x.width * x.height ≤ 8294400 ∧ 1 ≤ x.exposures ∧ x.exposures ≤ 3 ∧ x.shutter ≤ 1 ∧
          x.dataTypes.all (fun d => decide (d ≤ 0x3F)) ∧
          (if x.shutter = 0 then 1000 ≤ x.rowNs ∧ x.rowNs ≤ 200000 else x.rowNs = 0) ∧ x.d0 ≤ P * 1000 ∧ 1 ≤ x.e0 ∧ x.e0 ≤ P ∧
          ratioOk x.r1 ∧ ratioOk x.r2 ∧ fLe (fMul x.r1 x.r2) (fNat 256) ∧
          c'.fits c.gear ∧ s.lampsStand i (some n) c' then
        let s := s.tapEnd i n stDone
        let s := if old.silent then s.clearFault 0x9005 0x41 i else s
        let s := s.modCamSensor i n (fun _ => { x with silent := false, lastFrameAt := s.hw, lastFirst := none, flickRun := 0,
                                                       flickFrames := [] })
        ((((s.lampsOf i (some n)).foldl (fun (s : State) b => (s.lampShutter b x.shutter).lampApply b) s)).dirty, stDone, [])
      else (s, stRange, []) }

/-- Format, factor and crop of a scaled output are in range, of one that is off as well (R215); one that is on has an area. -/
def cropOk (x : CamSensor) (p : List Byte) (i : Nat) : Bool :=
  let o := 232 + 16 * i
  decide (u8 p o ≤ 3 ∧ 1 ≤ u8 p (o + 1) ∧ u8 p (o + 1) ≤ 8 ∧ u16 p (o + 2) + u16 p (o + 6) ≤ x.width ∧
    u16 p (o + 4) + u16 p (o + 8) ≤ x.height ∧ (u8 p o = 0 ∨ (1 ≤ u16 p (o + 6) ∧ 1 ≤ u16 p (o + 8))))

/-- Every field of an ISP block is in range (R215). -/
def ispOk (x : CamSensor) (p : List Byte) : Bool :=
  let n := u8 p 128
  decide (2 ≤ n ∧ n ≤ 16) && (List.range (n - 1)).all (fun i => decide (u32 p (8 * i) < u32 p (8 * i + 8))) &&
  (List.range n).all (fun i => decide (u32 p (8 * i + 4) < 2 ^ 24)) &&
  decide (50 ≤ u8 p 129 ∧ u8 p 129 ≤ 98 ∧ u8 p 129 < u8 p 130 ∧ u8 p 130 ≤ 100 ∧ u8 p 131 ≤ 1) &&
  (f32s p 152 4).all (fun a => fLe fZero a && fLe a (fNat 16)) && (f32s p 168 15).all fFinite &&
  decide (u16 p 228 < u16 p 230 ∧ u16 p 230 < x.width) && cropOk x p 0 && cropOk x p 1 &&
  (List.range 1024).all (fun i => decide (u16 p (264 + 2 * i) ≤ 4095)) && decide (u16 p 2312 ≤ 4096) &&
  (List.range (u16 p 2312)).all (fun i => decide (u16 p (2316 + 4 * i) < x.width ∧ u16 p (2318 + 4 * i) < x.height))

/-- CAM.ISP (R215): the block is read during the command and takes effect at the next frame's first row. -/
def verbCamIsp : Verb :=
  { unit := 0x41, verb := 0x12, lenOk := lenIs 4, instOk := instLt 2, query := false, rt := false, perm := none,
    body := fun r s =>
      let n := u8 r.payload 0
      let d := u8 r.payload 1
      if n > 3 then (s, stRange, [])
      else match s.regionCheck r.win d 2316 with
        | some st => (s, st, [])
        | none =>
          let len := 2316 + 4 * u16 (s.regionRead r.win d 2312 2) 0
          match s.regionCheck r.win d (min len (2316 + 4 * 4096)) with
          | some st => (s, st, [])
          | none =>
            let p := s.regionRead r.win d 0 (min len (2316 + 4 * 4096))
            let s := s.regionDone r.win d r.tag p.length false
            if ispOk (s.camSensor r.inst n) p then
              ((s.modCamSensor r.inst n (fun x => { x with pendIsp := some p })).dirty, stDone, [])
            else (s, stRange, []) }

/-- CAM.TAP (R209). -/
def verbCamTap : Verb :=
  { unit := 0x41, verb := 0x13, lenOk := lenIs 16, instOk := instLt 2, query := false, rt := false, perm := none,
    body := fun r s =>
      let p := r.payload
      let n := u8 p 0
      let c := s.port r.inst
      let x := c.sensor n
      let roi := u16s p 6 4
      let d := u8 p 2
      let inside := u8 p 1 ≥ 6 ∨ roi.getD 2 0 = 0 ∨
        (roi.getD 0 0 + roi.getD 2 0 ≤ x.width ∧ roi.getD 1 0 + roi.getD 3 0 ≤ x.height ∧ 1 ≤ roi.getD 3 0)
      let slot := x.tapSlot (u8 p 1) roi
      if n > 3 ∨ u8 p 1 > 7 ∨ u8 p 3 = 0 ∨ u16 p 4 = 0 ∨ u16 p 4 > 1024 ∨ ¬inside ∨ (x.tapShape (u8 p 1) roi).2.1 = 0 then
        (s, stRange, [])
      else if c.tapOn.contains n then (s, stBusy, [])
      else match s.regionCheck r.win d (slot * u16 p 4) with
        | some st => (s, st, [])
        | none =>
          let t : CamTap := { op := { win := r.win, tag := r.tag }, point := u8 p 1, desc := d, every := u8 p 3, want := u16 p 4,
                              roi := roi, seen := 0, captured := 0, skipped := 0 }
          ((s.modPort r.inst (fun c => { c with taps := tset CamTap.reset c.taps n t, tapOn := c.tapOn ++ [n] })).regionBegin
            r.win d r.tag true, stAccepted, []) }

/-- CAM.LAMP (R211). -/
def verbCamLamp : Verb :=
  { unit := 0x41, verb := 0x15, lenOk := lenIs 16, instOk := instLt 2, query := false, rt := false, perm := none,
    body := fun r s =>
      let p := r.payload
      let b := u8 p 0
      let m := u8 p 1
      let o := u8 p 3
      let c := s.port r.inst
      let x := c.sensor (u8 p 2)
      let st := if m = 1 ∨ x.shutter ≠ 0 then 3 else 1
      let l : Lamp := { Lamp.reset with mode := m, port := r.inst, sensor := u8 p 2, out := o, n := u8 p 4, guardUs := u16 p 6,
                                        initOfs := i32 p 8, offset := i32 p 8, ext := 0, state := st }
      if b > 7 ∨ m > 2 then (s, stRange, [])
      else if m = 0 then ((s.lampUnbind b).dirty, stDone, [])
      else if u8 p 2 > 3 ∨ o > 71 ∨ (m = 1 ∧ u8 p 4 = 0) ∨ u16 p 6 > 2000 ∨ l.initOfs.natAbs > 2000000 ∨ !c.sync ∨ !lampFits l c then
        (s, stRange, [])
      else if (s.out o).cfg.mode ≠ 2 ∨ ((s.out o).bound ≠ 0 ∧ !((s.out o).bound == 3 && (s.out o).boundBy == b)) then
        (s, stBusy, [])
      else
        let s := (s.lampUnbind b).modLamp b (fun _ => l)
        ((s.lampApply b).dirty, stDone, []) }

/-- CAM.EXPOSURE (R203). -/
def verbCamExposure : Verb :=
  { unit := 0x41, verb := 0x16, lenOk := lenIs 12, instOk := instLt 2, query := false, rt := true, perm := none,
    body := fun r s =>
      let p := r.payload
      let n := u8 p 0
      let e := u32 p 8
      if n > 3 ∨ e = 0 ∨ e > (s.port r.inst).periodUs then (s, stRange, [])
      else
        let k := max (u32 p 4) (s.camSensor r.inst n).lastNo
        -- a report for a later frame that came before counts no more
        let s := s.modCamSensor r.inst n (fun x => { x with expo := x.expo.filter (fun q => decide (q.1 < k)) ++ [(k, e)] })
        (s.dirty, stDone, b32 k) }

/-- CAM.HOSTBUF (R214). -/
def verbCamHostbuf : Verb :=
  { unit := 0x41, verb := 0x20, lenOk := lenIs 4, instOk := instLt 2, query := false, rt := false, perm := none,
    body := fun r s =>
      let d := u8 r.payload 0
      if s.isHost (camKey r.inst) || (s.hostFn (camKey r.inst)).pending == some true then (s, stBusy, [])
      else match s.regionCheck r.win d 512 with
        | some st => (s, st, [])
        | none => ((s.modPort r.inst (fun c => { c with hostBuf := { set := true, win := r.win, tag := r.tag, a := d, b := d } })).dirty,
            stDone, []) }

/-- The condition KEEPER.MODE adds for a port (R214). -/
def State.camModeOk (s : State) (p : Nat) : Bool :=
  let b := (s.port p).hostBuf
  b.set && (s.region b.win b.a).present && decide ((s.region b.win b.a).size ≥ 512)

/-- CAM.LAMP_SET (R214). -/
def verbCamLampSet : Verb :=
  { unit := 0x41, verb := 0x21, lenOk := lenIs 12, instOk := instLt 2, query := false, rt := true, perm := none,
    body := fun r s =>
      let p := r.payload
      let key := camKey r.inst
      let h := s.hostFn key
      let k := u32 p 0
      let ofs := i32 p 4
      let ext := i32 p 8
      if !(h.host && h.owner == r.win) || h.period == 0 || decide (k > h.k) || decide (ofs.natAbs > 2000000 ∨ ext.natAbs > 2000000) then
        (s, stRange, [])
      else if !s.hostInTime key k then (s, stDeadline, [])
      else
        let (s, go) := s.hostResult key
        if go then
          ((s.lampsOf r.inst none).foldl (fun (s : State) b =>
            (s.modLamp b (fun l => { l with offset := ofs, ext := ext })).lampApply b) s, stDone, [])
        else (s, stDone, []) }

/-! ### Power, restart and a retired ISP (R197, R206, R216) -/

/-- A sensor's run state as CAM starts. -/
def CamSensor.fresh (x : CamSensor) (now : Nat) : CamSensor :=
  { x with isp := if x.pendIsp.isSome then x.pendIsp else x.isp, pendIsp := none, frame := 0, lastNo := 0, lastFrameAt := now, lastFirst := none,
           e0 := x.e0Init, begun := none, outs := [], dropped := 0, prevDropped := false, silent := false, e0Changed := false, flickRun := 0, flickAt := none,
           flickFrames := [], hdr := [], due := false, dueIsp := none, expo := [] }

/-- Running taps end, back-channel transactions are answered UNIT_RESTARTED, silent sensors are forgotten (R63, R216). -/
def State.camAbort (s : State) : State :=
  [0, 1].foldl (fun (s : State) p =>
    let s := s.tapsEnd p stRestarted
    let s := (s.port p).backch.foldl (fun (s : State) r => s.replyLater verbCamBackch r stRestarted []) s
    let s := s.modPort p (fun c => { c with backch := [] })
    [0x9002, 0x9003, 0x9004, 0x9005, 0x9006].foldl (fun (s : State) code => s.clearFault code 0x41 p) s) s

/-- Entry into RUN or the end of a restart: settings stand, the links train again, frame numbers restart at 0 (R197). -/
def Cam.fresh (c : Cam) (now : Nat) : Cam :=
  { ports := tmap CamPort.reset c.ports (fun p =>
      { p with linkState := if p.link then 1 else 0, gear := 0, coaxState := if p.coax then 1 else 0, coaxRetries := 0, coaxRetryAt := 0,
               coaxCur := 0, frame := 0, lastSync := 0, pktErrs := 0, taps := [], tapOn := [], backch := [],
               sensors := tmap CamSensor.reset p.sensors (fun x => x.fresh now) }),
    lamps := tmap Lamp.reset c.lamps (fun l => { l with state := if l.mode = 0 then 0 else if l.state = 2 then 1 else l.state,
                                                        clean := 0, dirty := 0 }) }

/-- CAM starts: its settings are applied again, those of the lamp bindings at their outputs (R197, R216). -/
def State.camFresh (s : State) : State := ({ s with cam := s.cam.fresh s.hw } : State).lampsApply

/-- Everything off outside RUN (R197). -/
def Cam.off (c : Cam) : Cam :=
  { c with ports := tmap CamPort.reset c.ports (fun p =>
      { p with linkState := 0, gear := 0, coaxState := 0, coaxCur := 0, taps := [], tapOn := [], backch := [],
               sensors := tmap CamSensor.reset p.sensors (fun x => { x with due := false, begun := none, silent := false }) }) }

/-- The divisor of the shared ISP's rate (R206); `left` says that one ISP is in service. -/
def State.ispDiv (s : State) (left : Bool) : Nat :=
  let a := s.port 0
  let b := s.port 1
  let all := (a.sum (fun _ => 1) * b.periodUs + b.sum (fun _ => 1) * a.periodUs) * 1000000
  let per := 1200000000 * (a.periodUs * b.periodUs)
  if left then min 255 (max 1 ((all + per - 1) / per)) else 0

/-- Both ports on the ISP that is left of die `die`'s (R206). -/
def State.ispRoute (s : State) (die : Nat) (left : Bool) : State :=
  if die ≥ camPorts s.variant then s
  else
    let d := s.ispDiv left
    [0, 1].foldl (fun (s : State) p => s.modPort p (fun c =>
      { c with decim := d, route := if !left then 2 else if p = die then 1 else c.route })) s

/-- The die that holds ISP `die` is retired (R206). -/
def State.ispLost (s : State) (die : Nat) (left : Bool) : State :=
  if die ≥ camPorts s.variant then s
  else
    let rate := (s.port 0).rate + (s.port 1).rate
    let d := s.ispDiv left
    (s.ispRoute die left).raiseEv 0x41 die (220 + die) 0x9007 4 die die d (rate / 1000000)

/-- CAM.STATUS -/
def execCamStatus (r : Req) (s : State) : Out := mailboxRow verbCamStatus r s
/-- CAM.CONFIG -/
def execCamConfig (r : Req) (s : State) : Out := mailboxRow verbCamConfig r s
/-- CAM.SENSOR -/
def execCamSensor (r : Req) (s : State) : Out := mailboxRow verbCamSensor r s
/-- CAM.ISP -/
def execCamIsp (r : Req) (s : State) : Out := mailboxRow verbCamIsp r s
/-- CAM.TAP -/
def execCamTap (r : Req) (s : State) : Out := mailboxRow verbCamTap r s
/-- CAM.BACKCH -/
def execCamBackch (r : Req) (s : State) : Out := mailboxRow verbCamBackch r s
/-- CAM.LAMP -/
def execCamLamp (r : Req) (s : State) : Out := mailboxRow verbCamLamp r s
/-- CAM.EXPOSURE -/
def execCamExposure (r : Req) (s : State) : Out := mailboxRow verbCamExposure r s
/-- CAM.HOSTBUF -/
def execCamHostbuf (r : Req) (s : State) : Out := mailboxRow verbCamHostbuf r s
/-- CAM.LAMP_SET -/
def execCamLampSet (r : Req) (s : State) : Out := mailboxRow verbCamLampSet r s

end Sys2Proof.Machine
end

