-- ==== Sys2Proof/Machine/Projection.lean ====
section
/-! DEFINITION. Machine/Projection.lean: the projection unit of Crown (09 R229-R233): lidar points, motion compensation, depth planes
and ground grids. How a sensor frame turns into the body frame and into an image, and how poses integrate, are functions of Config. -/

namespace Sys2Proof.Machine

/-- A point or a cell centre in m. -/
abbrev Pt := F32 × F32 × F32

/-- The points that a block holds of those its header counts (R229). -/
def lidarCount (block : List Byte) : Nat := min (u32 block 16) ((block.length - 64) / 16)

/-- The valid points of a block among its first `lim`: place, time, intensity (R229). -/
def lidarPoints (block : List Byte) (lim : Nat) : List (Pt × Nat × Nat) :=
  (List.range (min (lidarCount block) lim)).filterMap (fun i =>
    let o := 64 + 16 * i
    if u8 block (o + 15) = 0 then none
    else some ((f32 block o, f32 block (o + 4), f32 block (o + 8)), u64 block 8 + 10000 * u16 block (o + 12), u8 block (o + 14)))

/-- The pose history of a unit as data. -/
def CrownUnit.history (c : CrownUnit) : List (Nat × List F32 × List F32 × Bool) := c.poses.map (fun p => (p.stamp, p.rates, p.vel, p.ok))

/-- The pose history of a unit covers every instant from `a` to `b` with valid IMU signals (R232, R233). -/
def CrownUnit.knows (c : CrownUnit) (now a b : Nat) : Bool :=
  let l := c.poses.filter (fun e => e.ok && decide (a ≤ e.stamp ∧ e.stamp ≤ b))
  decide (now < a + 2000000000) && decide (l.length + (a + 999999) / 1000000 ≥ b / 1000000 + 1)

/-- A point moved from one instant to another; with zero motion where the history does not cover them (R233). -/
def CrownUnit.move (c : CrownUnit) (now a b : Nat) (p : Pt) : Pt :=
  if a ≠ b ∧ c.knows now (min a b) (max a b) then Config.bodyMoved c.history a b p else p

/-- A number of m as an exact fraction. -/
def ptRat (p : Pt) : Rat × Rat × Rat := (fRat p.1, fRat p.2.1, fRat p.2.2)

/-- The ground cell below a place: 256 rows and columns of 0.2 m (R231). -/
def groundCell (p : Pt) : Option Nat :=
  let (x, y, _) := ptRat p
  let r := ((mkRat 448 10 - x) * 5).floor
  let c := ((y + mkRat 256 10) * 5).floor
  if 0 ≤ r ∧ r < 256 ∧ 0 ≤ c ∧ c < 256 then some (256 * r.toNat + c.toNat) else none

/-- A lidar's ground grid (R230): the highest point of each cell above the ground plane, which lies at body z `ground` with z down, in
steps of 2 cm, and how many points it has. -/
def lidarGrid (ground : F32) (l : List Pt) : Tab (Nat × Nat) :=
  l.foldl (fun t p =>
    match groundCell p with
    | none => t
    | some k =>
      let h := min 255 ((fRat ground - (ptRat p).2.2) * 50).floor.toNat
      let e := tget (0, 0) t k
      tset (0, 0) t k (max e.1 h, min 255 (e.2 + 1))) []

/-- A place in the pixels of a scaled output with its crop and factor (R208): full-resolution pixels are counted at their centres. -/
def scaledAt (crop : List Nat) (u v : Rat) : Rat × Rat :=
  let k : Rat := ((max 1 (crop.getD 2 1) : Nat) : Rat)
  let half := (k - 1) / 2
  ((u - ((crop.getD 0 0 : Nat) : Rat) - half) / k, (v - ((crop.getD 1 0 : Nat) : Rat) - half) / k)

/-- A camera's depth plane of its scaled output (R230): the nearest return of each pixel in cm with its intensity. -/
def depthPlane (cal : List Byte) (crop : List Nat) (l : List (Pt × Nat)) : Tab (Nat × Nat) :=
  let w := crop.getD 3 0
  let h := crop.getD 4 0
  l.foldl (fun t p =>
    match Config.cameraImage cal p.1 with
    | none => t
    | some (u, v, z) =>
      let (a, b) := scaledAt crop (fRat u) (fRat v)
      let c := (a + mkRat 1 2).floor
      let r := (b + mkRat 1 2).floor
      let d := min 65535 (fRat z * 100).floor.toNat
      if 0 ≤ c ∧ c < w ∧ 0 ≤ r ∧ r < h ∧ 0 < d then
        let k := r.toNat * w + c.toNat
        let e := tget (0, 0) t k
        if e.1 = 0 ∨ d < e.1 then tset (0, 0) t k (d, p.2) else t
      else t) []

/-- A sample of a plane between its pixels, bilinear, 0 outside it. -/
def bilinear (w h : Nat) (pl : List Byte) (x y : Rat) : Nat :=
  let c := x.floor
  let r := y.floor
  let fx := x - c
  let fy := y - r
  let px (i j : Int) : Rat := if 0 ≤ i ∧ i < w ∧ 0 ≤ j ∧ j < h then ((pl.getD (j.toNat * w + i.toNat) 0).toNat : Rat) else 0
  ((1 - fy) * ((1 - fx) * px c r + fx * px (c + 1) r) + fy * ((1 - fx) * px c (r + 1) + fx * px (c + 1) (r + 1)) + mkRat 1 2).floor.toNat

/-- The centre of a ground cell on the ground plane (R231). -/
def cellCentre (ground : F32) (k : Nat) : Pt :=
  (fFrac (447 - 2 * (k / 256 : Nat)) 10, fFrac (-255 + 2 * (k % 256 : Nat)) 10, ground)

/-- A camera's ground grid, one plane after another (R230): each cell cast back at the camera's stamp and sampled from the scaled
output; `move` takes a place from t_j to that stamp. -/
def cameraGrid (cal : List Byte) (sm : CrownSample) (ground : F32) (move : Pt → Pt) : List Byte :=
  let w := sm.crop.getD 3 0
  let h := sm.crop.getD 4 0
  let n := u8 sm.data 15
  (List.range n).flatMap (fun j =>
    let pl := slice sm.data (64 + j * w * h) (w * h)
    (List.range 65536).map (fun k =>
      match Config.cameraImage cal (move (cellCentre ground k)) with
      | none => 0
      | some (u, v, _) =>
        let (x, y) := scaledAt sm.crop (fRat u) (fRat v)
        BitVec.ofNat 8 (bilinear w h pl x y)))

end Sys2Proof.Machine
end

