-- ==== Sys2Proof/Machine/Crown.lean ====
section
/-! DEFINITION. Machine/Crown.lean: Crown fusion (09): model slots, step windows, releases, failover. What a model computes in a
step is the operand of its release. -/

namespace Sys2Proof.Machine

/-- Change CROWN. -/
def State.modCrown (s : State) (f : Crown → Crown) : State := { s with crown := f s.crown }
/-- A model slot. -/
def State.slot (s : State) (m : Nat) : CrownSlot := tget CrownSlot.reset s.crown.slots m
/-- Change a model slot. -/
def State.modSlot (s : State) (m : Nat) (f : CrownSlot → CrownSlot) : State :=
  s.modCrown (fun c => { c with slots := tmod CrownSlot.reset c.slots m f })
/-- A Crown unit's counters. -/
def State.crownUnit (s : State) (u : Nat) : CrownUnit := tget CrownUnit.reset s.crown.units u
/-- Change a Crown unit's counters. -/
def State.modCrownUnit (s : State) (u : Nat) (f : CrownUnit → CrownUnit) : State :=
  s.modCrown (fun c => { c with units := tmod CrownUnit.reset c.units u f })
/-- A windowed input of a slot. -/
def CrownSlot.inp (x : CrownSlot) (i : Nat) : CrownIn := tget CrownIn.reset x.ins i
/-- Change an input. -/
def State.modIn (s : State) (m i : Nat) (f : CrownIn → CrownIn) : State :=
  s.modSlot m (fun x => { x with ins := tmod CrownIn.reset x.ins i f })
/-- A binding of a slot. -/
def CrownSlot.bind' (x : CrownSlot) (i : Nat) : CrownBind := tget CrownBind.reset x.binds i

/-! ### Shapes and latency (R220, R225) -/

/-- Tiles, and MiB of state store, of a shape. -/
def shapeTiles : Nat → Nat | 1 => 1 | 2 => 2 | 3 => 4 | _ => 0
/-- Windowed inputs of a shape. -/
def shapeInputs : Nat → Nat | 1 => 2 | 2 => 4 | 3 => 8 | _ => 0
/-- Grid outputs of a shape. -/
def shapeGrids : Nat → Nat | 1 => 1 | 2 => 2 | 3 => 2 | _ => 0
/-- Shortest step period, µs. -/
def shapeMin : Nat → Nat | 1 => 33333 | 2 => 45000 | _ => 85000
/-- Release latency L, ms. -/
def latencyMs (shape level : Nat) : Nat :=
  match shape, level with
  | 1, 0 => 15 | 1, 1 => 19 | 1, 2 => 25 | 1, _ => 45
  | 2, 0 => 45 | 2, 1 => 59 | 2, 2 => 85 | 2, _ => 165
  | 3, 0 => 85 | 3, 1 => 112 | 3, 2 => 165 | 3, _ => 325
  | _, _ => 0

/-- L of a slot at its unit's throttle level, ns. -/
def State.slotL (s : State) (x : CrownSlot) : Nat := latencyMs x.decl.shape (s.crownUnit x.unit).level * 1000000
/-- Decimation d (R225, R226). -/
def State.slotD (s : State) (x : CrownSlot) : Nat :=
  if x.stepUs = 0 then 1 else max 1 ((s.slotL x + x.stepUs * 1000 - 1) / (x.stepUs * 1000))

/-- The step instant t_j, ns (R222). -/
def CrownSlot.tj (x : CrownSlot) (j : Nat) : Nat := (j * x.stepUs + x.phaseUs) * 1000
/-- The input close c_j, ns. -/
def CrownSlot.cj (x : CrownSlot) (j : Nat) : Nat := x.tj j + x.closeUs * 1000
/-- The step whose window [t_j − S/4, t_j + S/4) holds a stamp. -/
def CrownSlot.stepOf (x : CrownSlot) (stamp : Nat) : Option Nat :=
  let S := x.stepUs * 1000
  let v : Int := (stamp : Int) - (x.phaseUs * 1000 : Nat) + (S / 4 : Nat)
  if S = 0 ∨ v < 0 then none else if 2 * (v.toNat % S) < S then some (v.toNat / S) else none
/-- The first step whose window opens after an instant. -/
def CrownSlot.stepAfter (x : CrownSlot) (now : Nat) : Nat :=
  let S := x.stepUs * 1000
  if S = 0 then 0
  else
    let v : Int := (now : Int) + (S / 4 : Nat) - (x.phaseUs * 1000 : Nat)
    if v < 0 then 0 else v.toNat / S + 1
/-- The stamp's distance from the nearest step instant, µs. -/
def CrownSlot.gapDist (x : CrownSlot) (stamp : Nat) : Int :=
  let S := x.stepUs * 1000
  if S = 0 then 0
  else
    let r := ((stamp : Int) - (x.phaseUs * 1000 : Nat)) % (S : Int)
    (if 2 * r < (S : Int) then r else r - S) / 1000

/-- The unit of a slot is in service: it runs and its die is not retired. -/
def State.crownServes (s : State) (u : Nat) : Bool :=
  s.running 0x42 u && decide (u < crowns s.variant) && !s.keeper.retired.contains u

/-- The windowed inputs of a slot: cameras and lidars that are bound. -/
def CrownSlot.windowed (x : CrownSlot) : List Nat :=
  (List.range x.decl.kinds.length).filter (fun i => (x.bind' i).kind == 1 || (x.bind' i).kind == 2)

/-- A step of the slot is executed, has been, or is skipped by R226; none when the record of past steps has left it. -/
def State.stepRuns (s : State) (x : CrownSlot) (j : Nat) : Bool :=
  if j ≥ x.nextStep then (j - x.nextStep) % s.slotD x == 0
  else x.done.contains j || (x.done.length == 64 && decide (j < x.done.getLastD 0))

/-- A sample of the input is transformed: a lidar block with ground projection, or a frame with ground projection or projected depth
(R230). -/
def CrownSlot.transforms (x : CrownSlot) (i : Nat) : Bool :=
  let b := x.bind' i
  (b.kind == 2 && u8 b.fields 1 == 1) || (b.kind == 1 && (u8 b.fields 3 == 1 || u8 b.fields 4 != 0xFF))

/-- The points of an input's lidar sample, as far as its binding takes them (R229). -/
def CrownSlot.points (x : CrownSlot) (i : Nat) (sm : CrownSample) : List (Pt × Nat × Nat) :=
  if (x.bind' i).kind = 2 then lidarPoints sm.data (u16 (x.bind' i).fields 2) else []

/-- The lidar input that a camera takes depth from, and its sample among those of a step (R230). -/
def CrownSlot.depthOf (x : CrownSlot) (i : Nat) (l : Tab CrownSample) : Option (Nat × CrownSample) :=
  let b := x.bind' i
  if b.kind ≠ 1 ∨ u8 b.fields 4 = 0xFF then none else (tfind l (u8 b.fields 4)).map (fun sm => (u8 b.fields 4, sm))

/-- The instants that the transforms of an input's sample need for a step at `t`: its stamp and the step's, each point's own time, and
those of the lidar sample that gives it depth (R230, R233). -/
def CrownSlot.needs (x : CrownSlot) (i : Nat) (sm : CrownSample) (l : Tab CrownSample) (t : Nat) : List Nat :=
  sm.stamp :: t :: (x.points i sm).map (·.2.1) ++
    (match x.depthOf i l with | some (k, z) => (x.points k z).map (·.2.1) | none => [])

/-- Every instant that a sample's transforms need is covered with valid IMU signals (R233). -/
def State.compensable (s : State) (x : CrownSlot) (i : Nat) (sm : CrownSample) (l : Tab CrownSample) (t : Nat) : Bool :=
  let n := x.needs i sm l t
  (s.crownUnit x.unit).knows s.hw (n.foldl min sm.stamp) (n.foldl max sm.stamp)

/-- What a step at `t` is presented of a sample, with the samples `l` of the step's inputs (R230). -/
def State.presOf (s : State) (x : CrownSlot) (i : Nat) (sm : CrownSample) (l : Tab CrownSample) (t : Nat) : CrownPres :=
  let b := x.bind' i
  let c := s.crownUnit x.unit
  let cal (k : Nat) : List Byte := tget [] x.cals k
  let placed (k : Nat) (z : CrownSample) (at' : Nat) : List (Pt × Nat) := (x.points k z).map (fun p =>
    (c.move s.hw p.2.1 at' (Config.lidarBody (cal k) p.1), p.2.2))
  { sample := sm,
    depth := (match x.depthOf i l with
      | some (k, z) => depthPlane (cal i) sm.crop (placed k z sm.stamp)
      | none => []),
    ground := if b.kind = 2 ∧ u8 b.fields 1 = 1 then lidarGrid x.ground ((placed i sm t).map (·.1)) else [],
    view := if b.kind = 1 ∧ u8 b.fields 3 = 1 then cameraGrid (cal i) sm x.ground (c.move s.hw t sm.stamp) else [] }

/-! ### Samples (R223, R227, R228) -/

/-- A late sample of the last 10 s is counted, and discards are reported at most once in 10 s (R228). -/
def State.lateCount (s : State) (m : Nat) (folded : Bool) : State :=
  let s := s.modSlot m (fun x =>
    { x with folded := if folded then satAdd 32 x.folded 1 else x.folded,
             discarded := if folded then x.discarded else satAdd 32 x.discarded 1,
             recent := (x.recent.filter (fun e => decide (s.hw < e.1 + 10000000000))) ++ [(s.hw, folded)] })
  let x := s.slot m
  let free : Bool := match x.lateAt with | none => true | some t => decide (s.hw ≥ t + 10000000000)
  if folded || !free then s
  else
    (s.modSlot m (fun x => { x with lateAt := some s.hw })).post 0x42 x.unit 225 0x9103 m
      (x.recent.filter (fun e => !e.2)).length (x.recent.filter (fun e => e.2)).length 0

/-- A sample that arrives at or after the input close of its step (R228): kept for the next executed step at most two steps
on, the newest stamp of several; else discarded. Whether it can be compensated is known at that step's input close. -/
def State.lateSample (s : State) (m i j : Nat) (sm : CrownSample) : State :=
  let x := s.slot m
  if (if x.nextStep ≤ j then s.slotD x else x.nextStep - j) ≤ 2 then
    match (x.inp i).late with
    | none => s.modIn m i (fun q => { q with late := some sm })
    | some t => (s.modIn m i (fun q => { q with late := some (if t.stamp < sm.stamp then sm else t) })).lateCount m false
  else s.lateCount m false

/-- A sample of one input arrives (R223). Of an input out of step it is excluded, but that the tenth in-window one in a row is used
if its step's input close has not passed (R227). -/
def State.sampleIn (s : State) (m i : Nat) (sm : CrownSample) : State :=
  let x := s.slot m
  match x.stepOf sm.stamp with
  | none =>
    (s.modSlot m (fun x => { x with outWin := satAdd 32 x.outWin 1 })).modIn m i (fun q =>
      { q with seenGap := true, lastGap := x.gapDist sm.stamp, rejoin := 0 })
  | some j =>
    let q := x.inp i
    let s := if q.out then s.modIn m i (fun q => { q with rejoin := min 10 (q.rejoin + 1) }) else s
    let surplus (s : State) : State := s.modSlot m (fun x => { x with surplus := satAdd 32 x.surplus 1 })
    if q.out && !(decide (q.rejoin = 9 ∧ s.hw < x.cj j) && s.stepRuns x j) then
      s.modSlot m (fun x => { x with outWin := satAdd 32 x.outWin 1 })
    else if !s.stepRuns x j then surplus s
    else if s.hw < x.cj j then
      if q.samples.any (fun e => e.step == j) then surplus s
      else s.modIn m i (fun q => { q with samples := q.samples ++ [{ sm with step := j }] })
    else s.lateSample m i j { sm with step := j }

/-- Projected points are counted on the unit for 1 s (R219). -/
def State.project (s : State) (u n : Nat) : State :=
  if n = 0 then s
  else s.modCrownUnit u (fun c => { c with points := c.points.filter (fun e => decide (s.hw < e.1 + 1000000000)) ++ [(s.hw, n)] })

/-- The projection targets of a lidar input: the ground grid and each camera that takes depth from it (R221). -/
def CrownSlot.targets (x : CrownSlot) (i : Nat) : Nat :=
  u8 (x.bind' i).fields 1 + ((List.range x.decl.kinds.length).filter (fun k =>
    (x.bind' k).kind == 1 && u8 (x.bind' k).fields 4 == i)).length

/-- The sample is of the source that an input is bound to. -/
def CrownBind.matches' (b : CrownBind) (kind index out : Nat) : Bool :=
  b.kind == kind && (if kind = 1 then u8 b.fields 0 * 4 + u8 b.fields 1 == index && u8 b.fields 2 == out
    else u8 b.fields 0 == index)

/-- A sample arrives (R223): `kind` 1 a frame of camera `index` (port × 4 + sensor) at scaled output `out`, with the stamp
of its header; 2 a block of lidar stream `index` with its reference stamp. Points beyond the declared number are surplus (R229). -/
def State.crownSample (s : State) (kind index out stamp : Nat) (block : List Byte) : State := (
    let cam := (s.camSensor (index / 4) (index % 4)).ofDue
    let hdr := cam.hdr
    let (_, k, x0, y0, w, h) := cam.scaled out
    let sm : CrownSample := if kind = 1 then
        { stamp := u64 hdr 0, data := tget [] cam.outs out, crop := [x0, y0, k, w / (max 1 k), h / (max 1 k)] }
      else { stamp := stamp, data := block }
    if !(kind == 1 || kind == 2) || (kind == 1 && hdr.isEmpty) || !s.trunkOn then s
    else
      (List.range 16).foldl (fun (s : State) m =>
        let x := s.slot m
        if x.state ≠ 2 ∨ !s.crownServes x.unit then s
        else x.windowed.foldl (fun (s : State) i =>
          if !(x.bind' i).matches' kind index out then s
          else if kind = 1 then s.sampleIn m i sm
          else
            let lim := u16 (x.bind' i).fields 2
            let s := s.modSlot m (fun x => { x with surplus := satAdd 32 x.surplus (lidarCount block - lim) })
            (s.project x.unit ((lidarPoints block lim).length * x.targets i)).sampleIn m i sm) s) s)

/-- CROWN_SAMPLE_ARRIVAL (R223). -/
def execCrownSampleArrival (kind index out stamp : Nat) (points : List Byte) (s : State) : Out := .next (s.crownSample kind index out stamp points)

/-! ### Input close and release (R223, R225, R227, R237) -/

/-- The key of a slot's host-assisted function. -/
def crownKey (m u : Nat) : Nat := hostKey 0x42 m u

/-- The signals of a slot. -/
def CrownSlot.sigIds (x : CrownSlot) (m : Nat) : List Nat := (List.range (min 16 x.decl.types.length)).map (fun i => 0x300 + 16 * m + i)

/-- Zero the signals of a slot with flags clear. -/
def State.zeroSlot (s : State) (m : Nat) : State := s.zeroSigs (0x300 + 16 * m) (0x30F + 16 * m)

/-- Another slot of the unit is out of step on some input. -/
def State.anyOut (s : State) (u : Nat) : Bool :=
  (List.range 16).any (fun m => let x := s.slot m
    x.unit == u && x.windowed.any (fun i => (x.inp i).out))

/-- An input judged present or absent at the input close of step `j` has this gap count (R223). -/
def CrownIn.gapsAt (q : CrownIn) (j : Nat) : Nat :=
  if q.samples.any (fun e => e.step == j) then 0 else if q.seenGap then q.gapCount + 1 else q.gapCount

/-- One input is judged at the input close of step `j`: present or absent, out of step, rejoining. A late sample of `j` itself
waits for the next executed step; of an input that goes out of step it is excluded (R227). -/
def State.judgeIn (s : State) (m j i : Nat) : State :=
  let x := s.slot m
  let q := x.inp i
  let s :=
    if q.out && decide (q.rejoin ≥ 10) then
      let s := (s.modIn m i (fun q => { q with out := false, rejoin := 0, gapCount := 0, seenGap := false })).post 0x42 x.unit 225
        0x9102 m i (j % 2 ^ 32) 0
      if s.anyOut x.unit then s else s.clearFault 0x9101 0x42 x.unit
    else s
  let q := (s.slot m).inp i
  let later := q.samples.filter (fun e => decide (j < e.step))
  if q.out then s.modIn m i (fun q => { q with samples := later, seenGap := false, late := none })
  else if q.gapsAt j ≥ 3 then
    ((s.modSlot m (fun x => { x with outWin := satAdd 32 x.outWin (later.length + b2n q.late.isSome) })).modIn m i
      (fun q => { q with out := true, rejoin := 0, samples := [], late := none, seenGap := false, gapCount := q.gapsAt j })).raiseEv
      0x42 x.unit 225 0x9101 2 m i (ofSigned 32 q.lastGap) (j % 2 ^ 32)
  else
    let own : Bool := match q.late with | some t => t.step == j | none => false
    let s := match q.late with
      | some t => if own then s else s.lateCount m (s.compensable x i t [] (x.tj j))
      | none => s
    s.modIn m i (fun q => { q with samples := later, seenGap := false, late := if own then q.late else none, gapCount := q.gapsAt j })

/-- The effect of a judged miss of a host-assisted model (R237). -/
def State.crownMiss (s : State) (m : Nat) : State :=
  let x := s.slot m
  let safeNow := (s.hostFn (crownKey m x.unit)).inSafe
  (x.sigIds m).foldl (fun (s : State) id =>
    s.modFlags id (fun f => if safeNow then clearBits f (fgValid + fgHeld) else f ||| fgHeld)) s

/-- The host input set of the step last launched: header, presented inputs with their projections, late channels and signal vectors;
their layout in the set is a function of Config, since the spec gives none (R237, log entry 91). -/
def CrownSlot.hostSet (x : CrownSlot) : List Byte :=
  let h := x.header
  let cells (t : Tab (Nat × Nat)) : List Byte := t.flatMap (fun e => b32 e.1 ++ b16 e.2.1 ++ b8 e.2.2)
  let planes (t : Tab CrownPres) : List (Nat × List (List Byte)) :=
    t.map (fun e => (e.1, [b64 e.2.sample.stamp, e.2.sample.data, cells e.2.depth, cells e.2.ground, e.2.view]))
  (Config.hostSet (h.tj, h.since, h.level, h.present, h.late, h.uncomp) (planes x.pres ++ planes x.lateCh) x.vectors ++
    zeros x.decl.inputSet).take x.decl.inputSet

/-- The host inputs of a step are written. -/
def State.crownHost (s : State) (m j L : Nat) : State :=
  let x := s.slot m
  let key := crownKey m x.unit
  if !s.isHost key then s
  else
    let s := if (s.hostFn key).got then s else (s.hostMiss key).crownMiss m
    let s := (s.hostPeriod key s.hw (L - 2000000) (x.stepUs * 1000)).modHost key (fun h => { h with k := j % 2 ^ 32 })
    let d := if j % 2 = 0 then x.hostBuf.a else x.hostBuf.b
    let p := x.hostSet
    ((s.regionWrite x.hostBuf.win d 0 p).regionDone x.hostBuf.win d x.hostBuf.tag p.length true).modSlot m (fun x =>
      { x with hostOut := [] })

/-- The late samples of a slot that fold in at step `j`: of inputs that are in step there, of another step, compensated (R228). -/
def State.lateIn (s : State) (x : CrownSlot) (j : Nat) : Tab CrownSample :=
  x.windowed.filterMap (fun i => match (x.inp i).late with
    | some t => if !(x.inp i).out && decide ((x.inp i).gapsAt j < 3) && t.step != j && s.compensable x i t [] (x.tj j) then some (i, t) else none
    | none => none)

/-- The samples that are present at step `j`, of the inputs in step after judging (R223). -/
def CrownSlot.presentIn (x y : CrownSlot) (j : Nat) : Tab CrownSample :=
  x.windowed.filterMap (fun i => if (y.inp i).out then none else ((x.inp i).samples.find? (fun e => e.step == j)).map (fun e => (i, e)))

/-- The signal vectors of a slot, read now: a signal with its validity field (R223). -/
def State.vectorsOf (s : State) (x : CrownSlot) : Tab (List (Nat × F32 × Nat)) :=
  ((List.range x.decl.kinds.length).filter (fun i => (x.bind' i).kind == 3)).map (fun i =>
    (i, ((u16s (x.bind' i).fields 0 6).filter (· != 0xFFFF)).map (fun id => (id, (s.sig id).value, (s.sig id).flags))))

/-- The calibrations in force for a slot's cameras and lidars, by input (R230). -/
def State.calsOf (s : State) (x : CrownSlot) : Tab (List Byte) :=
  x.windowed.map (fun i =>
    let b := x.bind' i
    (i, if b.kind = 1 then tget [] s.crown.camCal (u8 b.fields 0 * 4 + u8 b.fields 1) else tget [] s.crown.lidCal (u8 b.fields 0)))

/-- The step header of step `j` (R224). -/
def State.headerOf (s : State) (x : CrownSlot) (j : Nat) (present late : Tab CrownSample) (still : Bool) : StepHeader :=
  { tj := x.tj j, since := x.tj j - x.header.tj, level := (s.crownUnit x.unit).level, present := bitSet (present.map (·.1)),
    late := bitSet (late.map (·.1)), uncomp := still }

/-- Step `j` of a slot is launched with its present samples, folded late samples and signal vectors (R223, R224). -/
def State.crownLaunch (s : State) (m j : Nat) (present late : Tab CrownSample) : State :=
  let x := { s.slot m with cals := s.calsOf (s.slot m) }
  let L := s.slotL x
  let d := s.slotD x
  let still := present.any (fun e => x.transforms e.1 && !s.compensable x e.1 e.2 present (x.tj j))
  let pres (l : Tab CrownSample) : Tab CrownPres := l.map (fun e => (e.1, s.presOf x e.1 e.2 present (x.tj j)))
  let s := s.modSlot m (fun _ =>
    { x with releases := x.releases ++ [(j, s.hw + L, b2n (present.length < x.minIn))], nextStep := j + d, lastStep := j % 2 ^ 32,
             done := (j :: x.done).take 64, uncomp := if still then x.uncomp ++ [j] else x.uncomp, pres := pres present,
             lateCh := pres late, vectors := s.vectorsOf x, header := s.headerOf x j present late still })
  let s := s.modCrownUnit x.unit (fun u => { u with steps := (u.steps + 1) % 2 ^ 32, skipped := (u.skipped + (d - 1)) % 2 ^ 32 })
  s.crownHost m j L

/-- The input close of a slot's next executed step (R223, R226, R227). -/
def State.crownClose (s : State) (m : Nat) : State :=
  let x := s.slot m
  let j := x.nextStep
  let s := s.waitTo (x.cj j)
  let late := s.lateIn x j
  let s := x.windowed.foldl (fun (s : State) i => s.judgeIn m j i) s
  let present := x.presentIn (s.slot m) j
  let cams := (present.filter (fun e => (x.bind' e.1).kind == 1 && u8 (x.bind' e.1).fields 3 == 1)).length
  (s.project x.unit (65536 * cams)).crownLaunch m j present late

/-- CROWN_INPUT_CLOSE (R223, R224, R226): at c_j of the next executed step. -/
def execCrownInputClose (slot : Nat) (s : State) : Out :=
  .next (if (s.slot slot).state ≠ 2 ∨ !s.crownServes (s.slot slot).unit ∨ slot ≥ 16 then s else s.crownClose slot)

/-- The 64-byte grid header (R235): cell (0, 0) at body x 44.7 m, y −25.5 m, cells of 0.2 m. -/
def gridHeader (t count m g type flags : Nat) : List Byte :=
  b64 t ++ b32 count ++ b8 m ++ b8 g ++ b8 type ++ b8 0 ++ bF (fFrac 447 10) ++ bF (fFrac (-255) 10) ++ bF (fFrac 2 10) ++ b32 flags ++
    zeros 32

/-- Granary keeps the valid swath width, the type-3 output of its slot, under the step instant t_j (10 R244). -/
def State.granWidth (s : State) (m t : Nat) (outs : List (Nat × F32 × Bool)) : State :=
  let x := s.slot m
  if s.granary.widthSrc ≠ 1 ∨ s.granary.slot ≠ m then s
  else match outs.find? (fun e => x.decl.types.getD e.1 0 == 3 && e.2.2) with
    | none => s
    | some e =>
      { s with granary.widths := (t, e.2.1) :: s.granary.widths.filter (fun w => decide (s.hw < w.1 + 32000000000)) }

/-- The outputs of a whole step `j` are written. -/
def State.crownWrite (s : State) (m j : Nat) (below still : Bool) (d : CrownOut) : State :=
  let x := s.slot m
  let key := crownKey m x.unit
  let put (s : State) (i : Nat) (v : F32) (fl : Nat) : State := s.setSig (0x300 + 16 * m + i) v s.hw fl
  let s := s.modSlot m (fun x => { x with count := (x.count + 1) % 2 ^ 32 })
  if s.isHost key then
    let s := if (s.hostFn key).got then s else (s.hostMiss key).crownMiss m
    let s := s.granWidth m (x.tj j) (x.hostOut.map (fun e => (e.1 - (0x300 + 16 * m), e.2.1, bit e.2.2 0 && !below)))
    x.hostOut.foldl (fun (s : State) e => put s (e.1 - (0x300 + 16 * m)) e.2.1 (if below then clearBits e.2.2 fgValid else e.2.2)) s
  else
    let s := (List.range (min 16 x.decl.types.length)).foldl (fun (s : State) i =>
      match d.outs.find? (fun e => e.1 == i) with
      | some e => put s i e.2.1 (if e.2.2 && !below then fgValid else 0)
      | none => put s i fZero 0) s
    let s := (s.modSlot m (fun x => { x with store := d.store })).granWidth m (x.tj j) (d.outs.map (fun e => (e.1, e.2.1, e.2.2 && !below)))
    (List.range (min (shapeGrids x.decl.shape) x.decl.grids.length)).foldl (fun (s : State) g =>
      let b := tget HostBuf.reset x.bufs g
      if !b.set then s
      else
        let desc := if x.count % 2 = 0 then b.a else b.b
        let p := gridHeader s.hw (x.count + 1) m g (x.decl.grids.getD g 0) (b2n still + 2 * b2n below) ++ slice (d.grids.getD g []) 0 65536
        (s.regionWrite b.win desc 0 p).regionDone b.win desc b.tag p.length true) s

/-- CROWN/STATE_RESET (R234). -/
def State.crownReset (s : State) (m cause : Nat) : State :=
  (s.modSlot m (fun x => { x with store := [] })).post 0x42 (s.slot m).unit 224 0x9108 m cause 0 0

/-- A model takes the declaration of its new image, without the bindings that no longer match it; its state stays when the layout
identifier is the same (R234). -/
def State.crownSwap (s : State) (m : Nat) (d : ModelDecl) : State :=
  let old := (s.slot m).decl.layout
  let s := s.modSlot m (fun x => { x with decl := d, pendDecl := none,
                                          binds := x.binds.filter (fun e => d.kinds.getD e.1 0 == e.2.kind) })
  if d.layout = old then s else s.crownReset m 4

/-- A new image that waits comes into force once no release of the old one is due (R234). -/
def State.crownPend (s : State) (m : Nat) : State :=
  match (s.slot m).pendDecl with
  | some d => if (s.slot m).releases.any (fun e => e.2.2 != 2) then s else s.crownSwap m d
  | none => s

/-- The outputs of a slot that does not run read zero (R235); a model stopped by failover carries FAULT (R240). -/
def State.crownIdle (s : State) (m : Nat) : State :=
  let x := s.slot m
  let s := s.zeroSlot m
  if x.state = 3 then (x.sigIds m).foldl (fun (s : State) id => s.modFlags id (· ||| fgFault)) s else s

/-- The step at the head of the slot's releases is released `delay` ns late. The release of a stopped slot is its last: from then on
its signals read zero (R235, R236). -/
def State.crownRelease (s : State) (m delay : Nat) (d : CrownOut) : State :=
  let x := s.slot m
  match x.releases with
  | [] => s
  | (j, t, how) :: rest =>
    let still := x.uncomp.contains j
    let s := (s.waitTo (t + delay)).modSlot m (fun x => { x with releases := rest, uncomp := x.uncomp.filter (fun e => decide (j < e)) })
    if how = 2 then (if s.inRun then (x.sigIds m).foldl (fun (s : State) id => s.modFlags id (· ||| fgStale)) s else s)
    else if !s.crownServes x.unit then s.crownPend m
    else
      let s := (s.crownWrite m j (how == 1) still d).crownPend m
      if x.state = 2 ∨ !rest.isEmpty then s else s.crownIdle m

/-- CROWN_RELEASE (R225, R235): at c_j + L. -/
def execCrownRelease (slot : Nat) (d : CrownOut) (s : State) : Out :=
  .next (
    if !s.trunkOn then s
    else
      let x := s.slot slot
      let s := if x.overrun && !x.releases.isEmpty then
          (s.modSlot slot (fun x => { x with overrun := false })).clearFault 0x9107 0x42 x.unit else s
      s.crownRelease slot 0 d)

/-- CROWN_OVERRUN (R241): the result is ready `delay` µs after c_j + L. -/
def execCrownOverrun (slot delay : Nat) (d : CrownOut) (s : State) : Out :=
  .next (
    let x := s.slot slot
    match x.releases with
    | [] => s
    | (j, _, how) :: _ =>
      if !s.trunkOn || how == 2 || delay == 0 || !s.crownServes x.unit then s
      else
        let s := s.crownRelease slot (delay * 1000) d
        (s.modSlot slot (fun x => { x with overrun := true })).raiseEv 0x42 x.unit 226 0x9107 6 slot delay (j % 2 ^ 32) 0)

/-! ### Verbs (R236) -/

/-- Tiles in use on a unit. -/
def State.tilesUsed (s : State) (u : Nat) : Nat :=
  (List.range 16).foldl (fun n m => let x := s.slot m
    if (x.state = 1 ∨ x.state = 2) ∧ x.unit = u then n + shapeTiles x.decl.shape else n) 0

/-- Models hosted by a unit. -/
def State.hosted (s : State) (u : Nat) : Nat :=
  ((List.range 16).filter (fun m => let x := s.slot m
    (x.state == 1 || x.state == 2) && x.unit == u)).length

/-- CROWN.STATUS (R219). -/
def verbCrownStatus : Verb :=
  { unit := 0x42, verb := 0x01, lenOk := lenIs 0, instOk := instLt 7, query := true, rt := true, perm := none,
    body := fun r s =>
      let u := s.crownUnit r.inst
      let st := if s.keeper.retired.contains r.inst then 2 else if (s.unitSt 0x42 r.inst).phase == .off then 1 else 0
      let pts := (u.points.filter (fun e => decide (s.hw < e.1 + 1000000000))).foldl (fun n e => n + e.2) 0
      (s, stDone, b8 st ++ b8 (if st = 0 then u.level else 0) ++ b8 (s.tilesUsed r.inst) ++ b8 (s.hosted r.inst) ++
        b32 (if st = 0 then pts else 0) ++ b32 u.steps ++ b32 u.skipped) }

/-- The refusal of a model-slot verb at another unit: the hosting unit, 0xFF for an empty slot (R236). -/
def State.hostRefusal (s : State) (r : Req) (m : Nat) : Option (List Byte) :=
  let x := s.slot m
  if m > 15 then some []
  else if x.state = 0 then some (b8 0xFF)
  else if x.unit ≠ r.inst then some (b8 x.unit) else none

/-- CROWN.MODEL (R236). -/
def verbCrownModel : Verb :=
  { unit := 0x42, verb := 0x02, lenOk := lenIs 4, instOk := instLt 7, query := true, rt := true, perm := none,
    body := fun r s =>
      let m := u8 r.payload 0
      match s.hostRefusal r m with
      | some p => (s, stRange, p)
      | none =>
        let x := s.slot m
        let ok := bitSet (x.windowed.filter (fun i => !(x.inp i).out))
        let bound := bitSet ((List.range x.decl.kinds.length).filter (fun i => (x.bind' i).kind != 0))
        (s, stDone, b8 x.state ++ b8 x.unit ++ b8 x.decl.shape ++ b8 (s.slotD x) ++ b32 (s.slotL x / 1000) ++ b8 ok ++ b8 bound ++
          zeros 2 ++ b32 x.lastStep ++ b32 x.folded ++ b32 x.discarded ++ b32 x.outWin ++ b32 x.surplus) }

/-- The reply of CROWN.LOAD. -/
def State.loadReply (s : State) (u : Nat) (d : ModelDecl) : List Byte :=
  b32 (latencyMs d.shape (s.crownUnit u).level * 1000) ++ b8 d.shape ++ b8 (8 - s.tilesUsed u) ++ zeros 2 ++ b32 d.inputSet

/-- CROWN.LOAD (R236, R220, R240). -/
def verbCrownLoad : Verb :=
  { unit := 0x42, verb := 0x10, lenOk := lenIs 28, instOk := instLt 7, query := false, rt := false, perm := none,
    body := fun r s =>
      let p := r.payload
      let m := u8 p 0
      let x := s.slot m
      if m > 15 ∨ u8 p 1 > 1 then (s, stRange, [])
      else if u8 p 1 = 0 then
        -- a model stopped by failover is unloaded at any unit in service (R240)
        match (if x.state = 3 then none else s.hostRefusal r m) with
        | some q => (s, stRange, q)
        | none =>
          if x.state = 2 then (s, stBusy, [])
          else
            let s := if x.state = 3 then s.clearFault 0x9106 0x42 x.unit else s
            let s := s.modHost (crownKey m x.unit) (fun _ => HostFn.reset)
            let s := (s.modSlot m (fun _ => CrownSlot.reset)).zeroSlot m
            (s.dirty, stDone, s.loadReply r.inst x.decl)
      else match s.crown.models.find? (fun e => e.1 == u16 p 2) with
        | none => (s, stRange, [])
        | some (_, d) =>
          let S := u32 p 4
          let g := f32 p 20
          if !decide (shapeMin d.shape ≤ S ∧ S ≤ 200000 ∧ u32 p 8 < S ∧ (S + 3) / 4 ≤ u32 p 12 ∧ u32 p 12 ≤ S ∧
              u8 p 16 ≤ shapeInputs d.shape) || !(fLe (fFrac 1 2) g && fLe g (fNat 6)) then (s, stRange, [])
          else if x.state = 1 ∨ x.state = 2 ∨ s.tilesUsed r.inst + shapeTiles d.shape > 8 then (s, stBusy, [])
          else
            let s := if x.state = 3 then (s.clearFault 0x9106 0x42 x.unit).modHost (crownKey m x.unit) (fun _ => HostFn.reset) else s
            let y : CrownSlot := { CrownSlot.reset with state := 1, unit := r.inst, model := u16 p 2, decl := d, stepUs := S,
                                                        phaseUs := u32 p 8, closeUs := u32 p 12, minIn := u8 p 16, ground := g }
            let s := ((s.modSlot m (fun _ => y)).zeroSlot m).crownReset m 2
            (s.dirty, stDone, s.loadReply r.inst d) }

/-- The projection load of a slot in points a second (R221). -/
def CrownSlot.projection (x : CrownSlot) : Rat :=
  (List.range x.decl.kinds.length).foldl (fun n i =>
    let b := x.bind' i
    if b.kind = 2 then n + mkRat (u16 b.fields 2 * u16 b.fields 4 * x.targets i : Nat) 10
    else if b.kind = 1 ∧ u8 b.fields 3 = 1 ∧ x.stepUs ≠ 0 then n + mkRat 65536000000 x.stepUs else n) 0

/-- The fields of a camera, lidar or signal-vector binding are in range (R236). -/
def bindOk (d : ModelDecl) (kind : Nat) (f : List Byte) : Bool :=
  match kind with
  | 1 => decide (u8 f 0 ≤ 1 ∧ u8 f 1 ≤ 3 ∧ u8 f 2 ≤ 1 ∧ u8 f 3 ≤ 1) &&
      (u8 f 4 == 0xFF || (decide (u8 f 4 < d.kinds.length) && d.kinds.getD (u8 f 4) 0 == 2))
  | 2 => decide (u8 f 0 ≤ 3 ∧ u8 f 1 ≤ 1 ∧ 1 ≤ u16 f 2 ∧ 10 ≤ u16 f 4 ∧ u16 f 4 ≤ 300)
  | 3 => (u16s f 0 6).all (fun id => id == 0xFFFF || decide (id < 0x1000))
  | _ => true

/-- CROWN.BIND (R236, R221). -/
def verbCrownBind : Verb :=
  { unit := 0x42, verb := 0x11, lenOk := lenIs 16, instOk := instLt 7, query := false, rt := false, perm := none,
    body := fun r s =>
      let p := r.payload
      let m := u8 p 0
      let i := u8 p 1
      let kind := u8 p 2
      let f := slice p 4 12
      match s.hostRefusal r m with
      | some q => (s, stRange, q)
      | none =>
        let x := s.slot m
        if i ≥ x.decl.kinds.length ∨ kind > 3 ∨ (kind ≠ 0 ∧ kind ≠ x.decl.kinds.getD i 0) ∨ !bindOk x.decl kind f then (s, stRange, [])
        else if x.state = 2 then (s, stBusy, [])
        else if kind = 1 ∧ u8 f 0 ≥ camPorts s.variant then (s, stNotFitted, [])
        else if kind = 3 ∧ !(u16s f 0 6).all (fun id => id == 0xFFFF || s.sigReadable r.win id) then (s, stNotPermitted, [])
        else
          let y := { x with binds := tset CrownBind.reset x.binds i (if kind = 0 then CrownBind.reset else { kind := kind, fields := f }),
                            ins := tdel x.ins i }
          let s' := s.modSlot m (fun _ => y)
          let load := (List.range 16).foldl (fun n k => let z := s'.slot k
            if z.state ≠ 0 ∧ z.unit = x.unit then n + z.projection else n) 0
          if load > 2000000 then (s, stRange, []) else (s'.dirty, stDone, []) }

/-- CROWN.CALIB (R230, R236). -/
def verbCrownCalib : Verb :=
  { unit := 0x42, verb := 0x12, lenOk := lenIs 64, instOk := instLt 7, query := false, rt := false, perm := none,
    body := fun r s =>
      let p := r.payload
      let cam := u8 p 0 == 1
      let zero := (f32s p 28 9).all (fun a => fEq a fZero)
      let pos := (f32s p 28 4).all (fun a => fFinite a && fLt fZero a) && (f32s p 44 5).all fFinite && (u8 p 2 == 0 || fEq (f32 p 60) fZero)
      if !(u8 p 0 == 1 || u8 p 0 == 2) || decide (u8 p 1 > (if cam then 7 else 3)) || decide (u8 p 2 > (if cam then 1 else 0)) ||
          !(f32s p 4 3).all within20 || !(f32s p 16 3).all (fun a => fLe (fInt (-180)) a && fLe a (fNat 180)) ||
          !(if cam then pos else zero) then (s, stRange, [])
      else if cam then ((s.modCrown (fun c => { c with camCal := tset [] c.camCal (u8 p 1) p })).dirty, stDone, [])
      else ((s.modCrown (fun c => { c with lidCal := tset [] c.lidCal (u8 p 1) p })).dirty, stDone, []) }

/-- CROWN.OUTBUF (R235). -/
def verbCrownOutbuf : Verb :=
  { unit := 0x42, verb := 0x13, lenOk := lenIs 4, instOk := instLt 7, query := false, rt := false, perm := none,
    body := fun r s =>
      let p := r.payload
      let m := u8 p 0
      match s.hostRefusal r m with
      | some q => (s, stRange, q)
      | none =>
        let x := s.slot m
        if u8 p 1 ≥ shapeGrids x.decl.shape then (s, stRange, [])
        else if x.state = 2 then (s, stBusy, [])
        else match s.regionCheck r.win (u8 p 2) 65600, s.regionCheck r.win (u8 p 3) 65600 with
          | none, none =>
            let h : HostBuf := { set := true, win := r.win, tag := r.tag, a := u8 p 2, b := u8 p 3 }
            ((s.modSlot m (fun x => { x with bufs := tset HostBuf.reset x.bufs (u8 p 1) h })).dirty, stDone, [])
          | some st, _ => (s, st, [])
          | none, some st => (s, st, []) }

/-- A running model steps anew from the first window that opens after now. -/
def State.crownArm (s : State) (m : Nat) : State :=
  (s.modSlot m (fun x => { x with ins := [], nextStep := x.stepAfter s.hw, done := [], hostOut := [] })).crownPend m

/-- CROWN.START (R236). A flags byte with a bit other than bit 0 is OUT_OF_RANGE: the rule gives the byte bit 0 only and does not
reserve the others (DESIGN CHOICE, log entry 95). -/
def verbCrownStart : Verb :=
  { unit := 0x42, verb := 0x14, lenOk := lenIs 4, instOk := instLt 7, query := false, rt := true, perm := none,
    body := fun r s =>
      let m := u8 r.payload 0
      match s.hostRefusal r m with
      | some q => (s, stRange, q)
      | none =>
        if (s.slot m).state = 3 then (s, stBusy, [])
        else if u8 r.payload 1 > 1 then (s, stRange, [])
        else
          let s := if bit (u8 r.payload 1) 0 then s.crownReset m 1 else s
          (((s.modSlot m (fun x => { x with state := 2, autoStart := true })).crownArm m).dirty, stDone, []) }

/-- CROWN.STOP (R236): a step past its input close still releases. -/
def verbCrownStop : Verb :=
  { unit := 0x42, verb := 0x15, lenOk := lenIs 4, instOk := instLt 7, query := false, rt := true, perm := none,
    body := fun r s =>
      let m := u8 r.payload 0
      match s.hostRefusal r m with
      | some q => (s, stRange, q)
      | none =>
        let x := s.slot m
        if x.state = 3 then (s, stBusy, [])
        else
          let s := s.modSlot m (fun x => { x with state := 1, autoStart := false })
          let s := if x.releases.isEmpty then s.zeroSlot m else s
          (s.dirty, stDone, []) }

/-- CROWN.HOSTBUF (R237). -/
def verbCrownHostbuf : Verb :=
  { unit := 0x42, verb := 0x20, lenOk := lenIs 4, instOk := instLt 7, query := false, rt := false, perm := none,
    body := fun r s =>
      let p := r.payload
      let m := u8 p 0
      match s.hostRefusal r m with
      | some q => (s, stRange, q)
      | none =>
        let x := s.slot m
        if x.state = 2 then (s, stBusy, [])
        else match s.regionCheck r.win (u8 p 1) x.decl.inputSet, s.regionCheck r.win (u8 p 2) x.decl.inputSet with
          | none, none =>
            ((s.modSlot m (fun x => { x with hostBuf := { set := true, win := r.win, tag := r.tag, a := u8 p 1, b := u8 p 2 } })).dirty,
              stDone, [])
          | some st, _ => (s, st, [])
          | none, some st => (s, st, []) }

/-- The condition KEEPER.MODE adds for a model slot (R237). -/
def State.crownModeOk (s : State) (m u : Nat) : Bool :=
  let x := s.slot m
  m < 16 && x.state != 0 && x.unit == u && x.hostBuf.set

/-- CROWN.RESULT (R237). -/
def verbCrownResult : Verb :=
  { unit := 0x42, verb := 0x21,
    lenOk := fun r => decide (16 ≤ r.payload.length ∧ r.payload.length ≤ 112) && r.payload.length % 8 == 0,
    instOk := instLt 7, query := false, rt := true, perm := none,
    body := fun r s =>
      let p := r.payload
      let m := u8 p 4
      match s.hostRefusal r m with
      | some q => (s, stRange, q)
      | none =>
        let x := s.slot m
        let key := crownKey m x.unit
        let h := s.hostFn key
        let k := u32 p 0
        let es := (List.range ((p.length - 8) / 8)).map (fun i => (u16 p (8 + 8 * i), f32 p (12 + 8 * i), u8 p (10 + 8 * i) &&& 0x2D))
        if !(h.host && h.owner == r.win) || h.period == 0 || decide (k > h.k) || !es.all (fun e => (x.sigIds m).contains e.1) ||
            decide ((es.map (·.1)).eraseDups.length ≠ es.length) || !es.all (fun e => fFinite e.2.1) then (s, stRange, [])
        else if !s.hostInTime key k then (s, stDeadline, [])
        else
          let (s, go) := s.hostResult key
          if go then (s.modSlot m (fun x => { x with hostOut := es }), stDone, []) else (s, stDone, []) }

/-! ### Power, throttle, restart, failover and graft (R219, R234, R239, R240) -/

/-- THERMAL sets the throttle level of a unit: CROWN/THROTTLE of a unit in service (R225, R226). -/
def State.crownThrottle (s : State) (die old new : Nat) : State :=
  if die < crowns s.variant then
    let s := s.modCrownUnit die (fun u => { u with level := new })
    if s.inRun ∧ !s.keeper.retired.contains die then s.post 0x42 die 226 0x9104 die old new 0 else s
  else s

/-- A Crown unit stops: steps in flight do not appear, its slots' signals read zero (R66, R235). -/
def State.crownAbort (s : State) (u : Nat) : State :=
  (List.range 16).foldl (fun (s : State) m =>
    if (s.slot m).unit = u ∧ (s.slot m).state ≠ 0 then
      (s.modSlot m (fun x => { x with releases := x.releases.map (fun e => (e.1, e.2.1, 2)), ins := [], hostOut := [] })).zeroSlot m
    else s) s

/-- A Crown unit runs again after a restart: each model resumes from its mirror at the first window that opens now. -/
def State.crownReady (s : State) (u : Nat) : State :=
  let s := s.modCrownUnit u (fun c => { c with steps := 0, skipped := 0, points := [] })
  (List.range 16).foldl (fun (s : State) m =>
    if (s.slot m).unit = u ∧ (s.slot m).state = 2 then s.crownArm m else s) s

/-- Entry into RUN: loads and start commands in force, from the initial state (R219, R234). -/
def State.crownRunEntry (s : State) (u : Nat) : State :=
  let s := s.modCrownUnit u (fun c => { c with steps := 0, skipped := 0, points := [] })
  (List.range 16).foldl (fun (s : State) m =>
    let x := s.slot m
    if x.unit = u ∧ x.state ≠ 0 then
      let s := if x.overrun then s.clearFault 0x9107 0x42 u else s
      let s := s.modSlot m (fun x => { x with state := if x.autoStart then 2 else 1, releases := [], overrun := false })
      (s.crownArm m).crownReset m 3
    else s) s

/-- A model that halts with its die is placed on the lowest unit with room, or stops (R239, R240). -/
def State.crownPlace (s : State) (die m : Nat) : State :=
  let x := s.slot m
  let need := shapeTiles x.decl.shape
  -- its outputs become STALE at the next output time: of the step in flight, else of the next one
  let halt := x.releases.map (fun e => (e.1, e.2.1, 2))
  let due := if x.releases.isEmpty ∧ x.state = 2 then [(x.nextStep, x.cj x.nextStep + s.slotL x, 2)] else []
  let s := (s.modSlot m (fun x => { x with releases := halt ++ due, state := 3 })).dirty
  match (List.range (crowns s.variant)).find? (fun u => s.crownServes u && decide (s.tilesUsed u + need ≤ 8)) with
  | some u =>
    let h := s.hostFn (crownKey m die)
    let s := (s.modHost (crownKey m die) (fun _ => HostFn.reset)).modHost (crownKey m u) (fun _ => h)
    let s := (s.modSlot m (fun y => { y with unit := u, state := x.state })).crownArm m
    -- a step that the new unit executes itself is not missed
    let s := s.modSlot m (fun y => if y.nextStep ≤ x.nextStep then { y with releases := halt } else y)
    s.post 0x42 u 226 0x9105 m die u ((s.slot m).nextStep % 2 ^ 32)
  | none =>
    (s.crownIdle m).raiseEv 0x42 die 226 0x9106 4 m die need 0

/-- The bough die of a Crown unit is retired: its loaded models move in ascending slot order (R239). -/
def State.crownDieLost (s : State) (die : Nat) : State :=
  (List.range 16).foldl (fun (s : State) m =>
    if (s.slot m).unit = die ∧ ((s.slot m).state = 1 ∨ (s.slot m).state = 2) then s.crownPlace die m else s) s

/-- Input kinds as far as a shape takes them: its windowed inputs, and 4 signal vectors (R220). -/
def boundKinds (shape : Nat) (l : List Nat) : List Nat :=
  (l.foldl (fun (a : List Nat × Nat × Nat) k =>
    if k = 3 ∧ a.2.2 < 4 then (a.1 ++ [k], a.2.1, a.2.2 + 1)
    else if (k = 1 ∨ k = 2) ∧ a.2.1 < shapeInputs shape then (a.1 ++ [k], a.2.1 + 1, a.2.2)
    else a) ([], 0, 0)).1

/-- The declaration that an image records (Config.modelDecl), its shape one of the three, its inputs and outputs as many as R220
allows. -/
def declOfModel (p : List Byte) : ModelDecl :=
  let (sh, kinds, types, grids, layout, set) := Config.modelDecl p
  let shape := sh % 3 + 1
  { shape := shape, kinds := boundKinds shape kinds, types := types.take 16, grids := grids.take (shapeGrids shape), layout := layout, inputSet := set }

/-- The new image of a loaded slot fits its place: tiles of its unit, the step period and the minimum of inputs (R220). -/
def State.crownFits (s : State) (x : CrownSlot) (d : ModelDecl) : Bool :=
  decide (s.tilesUsed x.unit + shapeTiles d.shape ≤ 8 + shapeTiles x.decl.shape ∧ shapeMin d.shape ≤ x.stepUs ∧
    x.minIn ≤ shapeInputs d.shape)

/-- The models of the active set come into force; a loaded model takes its new image after the last release of the old one (R234). A
model whose new image does not fit its place keeps the old one (DESIGN CHOICE, log entry 98). -/
def State.crownModels (s : State) (l : List (Nat × List Byte)) : State :=
  let ms := l.map (fun e => (e.1, declOfModel e.2))
  let s := s.modCrown (fun c => { c with models := ms })
  (List.range 16).foldl (fun (s : State) m =>
    let x := s.slot m
    match ms.find? (fun e => e.1 == x.model) with
    | some (_, d) =>
      if x.state = 0 ∨ d = x.decl ∨ !s.crownFits x d then s
      else (s.modSlot m (fun x => { x with pendDecl := some d })).crownPend m
    | none => s) s

/-- CROWN.STATUS -/
def execCrownStatus (r : Req) (s : State) : Out := mailboxRow verbCrownStatus r s
/-- CROWN.MODEL -/
def execCrownModel (r : Req) (s : State) : Out := mailboxRow verbCrownModel r s
/-- CROWN.LOAD -/
def execCrownLoad (r : Req) (s : State) : Out := mailboxRow verbCrownLoad r s
/-- CROWN.BIND -/
def execCrownBind (r : Req) (s : State) : Out := mailboxRow verbCrownBind r s
/-- CROWN.CALIB -/
def execCrownCalib (r : Req) (s : State) : Out := mailboxRow verbCrownCalib r s
/-- CROWN.OUTBUF -/
def execCrownOutbuf (r : Req) (s : State) : Out := mailboxRow verbCrownOutbuf r s
/-- CROWN.START -/
def execCrownStart (r : Req) (s : State) : Out := mailboxRow verbCrownStart r s
/-- CROWN.STOP -/
def execCrownStop (r : Req) (s : State) : Out := mailboxRow verbCrownStop r s
/-- CROWN.HOSTBUF -/
def execCrownHostbuf (r : Req) (s : State) : Out := mailboxRow verbCrownHostbuf r s
/-- CROWN.RESULT -/
def execCrownResult (r : Req) (s : State) : Out := mailboxRow verbCrownResult r s

end Sys2Proof.Machine
end

