-- ==== Sys2Proof/Machine/Store.lean ====
section
/-! DEFINITION. Machine/Store.lean: what several units need of the Attic (20): partition sizes, the active boot set, wear. -/

namespace Sys2Proof.Machine

/-- Change the ATTIC unit. -/
def State.modAttic (s : State) (f : Attic → Attic) : State := { s with attic := f s.attic }

/-- Sizes of the Attic partitions in MiB (R433). -/
def atticMiB (v : Variant) (inst : Nat) : Nat :=
  match inst with
  | 0 | 1 | 2 => (match v with | .zq2n | .zq2 => 1536 | _ => 2080)
  | 3 => (match v with | .zq2n | .zq2 => 1024 | .zq4 => 3072 | .zq8 => 8192)
  | 4 => 128
  | 5 => 64
  | _ => (match v with | .zq2n | .zq2 => 1024 | .zq4 => 4096 | .zq8 => 12288)

/-- The life write budget in bytes (R443). -/
def writeBudget : Variant → Nat
  | .zq2n => 15 * 10 ^ 12 | .zq2 => 15 * 10 ^ 12 | .zq4 => 30 * 10 ^ 12 | .zq8 => 60 * 10 ^ 12

/-- The active boot set. -/
def State.activeSet (s : State) : BootSet := if s.graft.active = 0 then s.graft.slotA else s.graft.slotB

/-- Bytes delivered to the Attic: wear, its two postings, and read-only at 100 % (R443). -/
def State.atticWear (s : State) (n : Nat) : State :=
  let total := s.attic.written + n
  let wear := min 100 (total * 100 / writeBudget s.variant)
  let s := s.modAttic (fun a => { a with written := total, wear := wear })
  let s := if wear ≥ 80 ∧ s.attic.wearPosted < 1 then
      (s.modAttic (fun a => { a with wearPosted := 1 })).raiseEv 0x61 0 229 0xA013 1 0 wear (total / 10 ^ 9) 0 else s
  let s := if wear ≥ 90 ∧ s.attic.wearPosted < 2 then
      (s.modAttic (fun a => { a with wearPosted := 2 })).raiseEv 0x61 0 229 0xA013 1 0 wear (total / 10 ^ 9) 0 else s
  if wear ≥ 100 ∧ !s.attic.readOnly then
    (s.modAttic (fun a => { a with readOnly := true })).raiseEv 0x61 0 229 0xA015 5 0 3 (Config.senseCode 3) 0 else s

end Sys2Proof.Machine
end

