-- ==== Sys2Proof/Machine/Eth.lean ====
section
/-! DEFINITION. Machine/Eth.lean: the ETH unit: switch, shaping, listeners and host rings (chapter 16). -/

namespace Sys2Proof.Machine

/-- ETH runs. -/
def State.ethRuns (s : State) : Bool := s.operating && s.running 0x32 0

/-- Change a lidar stream. -/
def State.modLidar (s : State) (i : Nat) (f : EthLidar → EthLidar) : State := { s with eth.lidar := tmod EthLidar.reset s.eth.lidar i f }
/-- A lidar stream. -/
def State.lidar (s : State) (i : Nat) : EthLidar := tget EthLidar.reset s.eth.lidar i
/-- Change a host ring pair. -/
def State.modRing (s : State) (w : Nat) (f : EthRing → EthRing) : State := { s with eth.rings := tmod EthRing.reset s.eth.rings w f }
/-- A host ring pair. -/
def State.ring (s : State) (w : Nat) : EthRing := tget EthRing.reset s.eth.rings w

/-- The VLANs of the active set with their place: place, VLAN ID, members (R359). -/
def State.vlans (s : State) : List (Nat × Nat × Nat) :=
  let t := Config.vlanTable s.activeSet.id
  (List.range t.length).zip t

/-- The row of a VLAN. -/
def State.vlan (s : State) (v : Nat) : Option (Nat × Nat × Nat) := s.vlans.find? (fun r => r.2.1 == v)

/-! ### Host rings (R365) -/

/-- Slots of a ring region. -/
def State.ringE (s : State) (w d : Nat) : Nat := ((s.region w d).size - 64) / 2048

/-- A frame for a partition's receive ring. -/
def State.ringRx (s : State) (w port vlan stamp : Nat) (frame : List Byte) : State :=
  let m := 4294967296
  let x := s.ring w
  let v := u32 (s.regionRead w x.rxDesc 4 4) 0
  let held := (x.rxProd + m - x.rxCons) % m
  let s := if (v + m - x.rxCons) % m ≤ held then s.modRing w (fun x => { x with rxCons := v }) else s
  let x := s.ring w
  let e := s.ringE w x.rxDesc
  if (x.rxProd + m - x.rxCons) % m ≥ e then
    let s := s.modRing w (fun x => { x with dropped := satAdd 32 x.dropped 1, overflow := true })
    let s := s.regionWrite w x.rxDesc 12 (b32 (s.ring w).dropped)
    if x.overflow then s else s.raiseEv 0x32 0 207 0x7005 2 port w (s.ring w).dropped 0
  else
    let slot := b64 stamp ++ b16 frame.length ++ b16 vlan ++ zeros 4 ++ frame
    let s := s.regionWrite w x.rxDesc (64 + 2048 * (x.rxProd % e)) slot
    let s := s.modRing w (fun x => { x with rxProd := (x.rxProd + 1) % m, overflow := false })
    let s := s.regionWrite w x.rxDesc 0 (b32 (s.ring w).rxProd)
    if s.eth.rings.any (fun r => r.2.overflow) then s else s.clearFault 0x7005 0x32 0

/-- A frame for the partition virtual ports of a VLAN (R362). -/
def State.toHosts (s : State) (f : EthRx) (place : Nat) : State :=
  s.eth.rings.foldl (fun (s : State) r =>
    if r.2.on && (s.win r.1).running && (s.decl r.1).vlans.testBit place then
      s.ringRx r.1 f.port f.vlan ((s.hw - f.ago) / 4 * 4) f.frame else s) s

/-- ETH_HOSTRING_TX (R365): the application advances the transmit producer; every frame it passes goes to the switch, if its
VLAN is the partition's. -/
def execEthHostringTx (w prod : Nat) (s : State) : Out :=
  .next (
    let x := s.ring w
    let e := s.ringE w x.txDesc
    let m := 4294967296
    if !s.ethRuns || !x.on || !(s.win w).running then s
    else
      let s := s.store w (x.txDesc, 0, b32 prod)
      let n := (prod % m + m - x.txCons) % m
      if n > e then s
      else
        let s := (List.range n).foldl (fun (s : State) j =>
          let o := 64 + 2048 * ((x.txCons + j) % m % e)
          let h := s.regionRead w x.txDesc o 16
          let mine : Bool := match s.vlan (u16 h 10) with | some r => (s.decl w).vlans.testBit r.1 | none => false
          if mine then s.modRing w (fun y => { y with sent := some (s.regionRead w x.txDesc (o + 16) (min 1522 (u16 h 8))) }) else s) s
        let s := s.modRing w (fun y => { y with txProd := prod % m, txCons := prod % m })
        s.regionWrite w x.txDesc 4 (b32 prod))

/-! ### gPTP and links (R360, R368) -/

/-- A port's gPTP state. -/
def State.gptpState (s : State) (p st gm : Nat) : State :=
  if (s.ethPort p).gptp = st then s.modEth p (fun x => { x with gm := gm })
  else (s.modEth p (fun x => { x with gptp := st, gm := gm })).post 0x32 p (200 + p) 0x7003 p st gm 0

/-- A port with a lower number takes part in gPTP. -/
def State.gptpBelow (s : State) (p : Nat) : Bool := (List.range p).any (fun q => (s.ethPort q).enable && (s.ethPort q).time)

/-- The state a port takes from selection (R360, 03 R79): none with the role off; as GRANDMASTER it never receives sync; in
FOLLOWER role the lowest-numbered port with the time flag receives it and another stays passive; in AUTO it receives sync from
a better grandmaster only. -/
def State.gptpSelect (s : State) (p st prio cls : Nat) : Nat :=
  if s.time.role = 0 then 0
  else if st ≠ 2 then st
  else if s.time.role = 1 then 1
  else if s.time.role = 2 then (if s.gptpBelow p then 3 else 2)
  else if s.betterMaster prio cls true then 2 else 1

/-- A gPTP port state from selection (R360): one port receives sync at a time. Sync feeds TIME. -/
def State.gptpTake (s : State) (p st gm prio cls : Nat) : State :=
  let was := (s.ethPort p).gptp
  let st := s.gptpSelect p st prio cls
  let s := s.gptpState p st gm
  if st = 2 then
    ((List.range 7).foldl (fun (s : State) q => if q ≠ p ∧ (s.ethPort q).gptp = 2 then s.gptpState q 3 gm else s) s).timeSync gm
  else if was = 2 then s.timeGmEnd else s

/-- ETH_LINK_UP (R368). -/
def execEthLinkUp (port speed quality delay : Nat) (s : State) : Out :=
  .next (
    let x := s.ethPort port
    if !s.operating || decide (port > 6) || !x.enable || x.asleep || x.link then s
    else
      let q := if port < 6 then min 7 quality else 0
      let s := s.modEth port (fun x => { x with link := true, upAt := s.hw, linkDown := false, speed := speed, quality := q,
                                                delay := if x.time then delay else 0 })
      (s.post 0x32 port (200 + port) 0x7001 port speed q 0).clearFault 0x7002 0x32 port)

/-- ETH_LINK_DOWN (R368). -/
def execEthLinkDown (port : Nat) (s : State) : Out :=
  .next (
    let x := s.ethPort port
    if !s.operating || !x.link then s
    else
      let s := s.modEth port (fun x => { x with link := false, linkDown := true })
      let s := s.raiseEv 0x32 port (200 + port) 0x7002 2 port ((s.hw - x.upAt) / 1000000000) 0 0
      s.gptpState port 0 x.gm)

/-! ### Frames (R359, R362) -/

/-- A listener's datagram stream: RTCM, a lidar stream, signal datagrams. -/
def State.listens (s : State) (udp vlan : Nat) : Bool :=
  s.eth.lidar.any (fun l => l.2.on && l.2.udp == udp && l.2.vlan == vlan) || (s.eth.sig.udp != 0 && s.eth.sig.udp == udp && s.eth.sig.vlan == vlan)

/-- A frame at the internal port. Lidar fragments and signal datagrams are rows of their own. -/
def State.ethInternal (s : State) (f : EthRx) (place : Nat) : State :=
  match f.kind with
  | .elsewhere => s
  | .request ip =>
    if ip ≠ 0 ∧ (s.ethPort f.port).ip = ip then s.modEth f.port (fun x => { x with answers := satAdd 32 x.answers 1 }) else s
  | .udp p payload =>
    if s.gnss.corrSrc = 2 ∧ s.gnss.corrNum = p then s.rtcmFeed payload
    else if s.listens p f.vlan then s else s.toHosts f place
  | .gptp st gm prio cls =>
    if (s.ethPort f.port).time ∧ st < 4 then s.gptpTake f.port st gm prio cls else s
  | .other => s.toHosts f place

/-- The egress queue of a frame: its PCP; 0 without a tag (R359). -/
def frameQueue (f : List Byte) : Nat := if u8 f 12 = 0x81 ∧ u8 f 13 = 0 then u8 f 14 / 32 else 0

/-- The time a number of bytes takes on a link of a speed, ns: 1 is 100 Mbit/s, else 1 Gbit/s (R358). -/
def wireNs (speed bytes : Nat) : Nat := bytes * (if speed = 1 then 80 else 8)

/-- The first start at or after `t` of a transmission of `dur` that completes before queue `q`'s gate closes, in entries of
which the first begins at `a`; the gate has been open since `since` (R361). -/
def gateFit (q dur t : Nat) : Nat → Option Nat → List (Nat × Nat) → Option Nat
  | _, _, [] => none
  | a, since, (mask, len) :: l =>
    if mask.testBit q then
      let start := max t (since.getD a)
      if start + dur ≤ a + len then some start else gateFit q dur t (a + len) (some (since.getD a)) l
    else gateFit q dur t (a + len) none l

/-- The start of a frame at a port: the egress idle, the gate of its queue open until the frame's end (R361). With no list every
gate is open. -/
def EthPort.startOf (x : EthPort) (now q bytes : Nat) : Option Nat :=
  let t := max now x.busyTo
  let l := x.gates
  let cycle := l.foldl (fun a e => a + e.2) 0
  if cycle = 0 then some t
  else gateFit q (wireNs x.speed bytes) t (if t < x.gatePhase then 0 else x.gatePhase + (t - x.gatePhase) / cycle * cycle) none (l ++ l ++ l)

/-- A frame leaves by a port: its start and the use of the egress with preamble and gap. A frame that no open gate can hold is a
drop. -/
def EthPort.send (x : EthPort) (now : Nat) (f : List Byte) : EthPort :=
  let q := frameQueue f
  match x.startOf now q f.length with
  | some t => { x with sent := some f, sentQueue := q, sentAt := t, busyTo := t + wireNs x.speed (f.length + 20) }
  | none => { x with drops := satAdd 32 x.drops 1 }

/-- ETH_FRAME_RX (R359, R362): a frame of a VLAN of its port is forwarded to the ports the switch chooses, dropped and counted
at one that is down or no member, and given to the internal port. -/
def execEthFrameRx (f : EthRx) (s : State) : Out :=
  .next (
    if !s.operating || !(s.ethPort f.port).link || decide (f.frame.length > 1522) then s
    else match s.vlan f.vlan with
      | none => s
      | some (place, _, members) =>
        if !members.testBit f.port then s
        else
          let s := (f.dests.filter (fun d => d < 7 && d != f.port)).foldl (fun (s : State) d =>
            s.modEth d (fun x => if members.testBit d && x.link then x.send s.hw f.frame
              else { x with drops := satAdd 32 x.drops 1 })) s
          if members.testBit 7 && s.running 0x32 0 then s.ethInternal f place else s)

/-! ### Shaping (R361) -/

/-- The cycle of a gate list. -/
def gateSum (l : List (Nat × Nat)) : Nat := l.foldl (fun a e => a + e.2) 0

/-- The first instant n × cycle + phase at or after `t`. -/
def cycleFrom (t cycle phase : Nat) : Nat := if cycle = 0 then t else if t ≤ phase then phase else phase + (t - phase + cycle - 1) / cycle * cycle

/-- ETH_GATE_CYCLE (R361): the next cycle start; a new list takes effect at the first at least 1 ms after its reply. -/
def execEthGateCycle (port : Nat) (s : State) : Out :=
  .next (
    let x := s.ethPort port
    let next : Option Nat := if x.gates.isEmpty then none
      else some (cycleFrom (max s.hw (x.cycleAt + 1)) (gateSum x.gates) x.gatePhase)
    if !s.operating then s
    else match x.pendGates, next with
      | none, none => s
      | none, some t => (s.waitTo t).modEth port (fun x => { x with cycleAt := t })
      | some (l, t0), _ =>
        let tn := cycleFrom (max t0 s.hw) (gateSum (if l.isEmpty then x.gates else l)) x.gatePhase
        match next with
        | some t =>
          if t < tn then (s.waitTo t).modEth port (fun x => { x with cycleAt := t })
          else (s.waitTo tn).modEth port (fun x => { x with gates := l, pendGates := none, cycleAt := tn })
        | none => (s.waitTo tn).modEth port (fun x => { x with gates := l, pendGates := none, cycleAt := tn }))

/-! ### Lidar reassembly (R363) -/

/-- A block is dropped: counted, and raised at most once per second. -/
def State.lidarDrop (s : State) (i : Nat) : State :=
  let x := s.lidar i
  let l := x.drops.filter (fun t => decide (s.hw < t + 1000000000)) ++ [s.hw]
  let due : Bool := match x.dropAt with | some t => decide (s.hw ≥ t + 1000000000) | none => true
  let s := s.modLidar i (fun x => { x with dropped := satAdd 32 x.dropped 1, drops := l, want := 0, frags := [],
                                           dropAt := if due then some s.hw else x.dropAt, raised := x.raised || due })
  if due then s.raiseEv 0x32 x.port 207 0x7004 1 x.port i l.length 0 else s

/-- A complete block goes to every Crown binding of the stream; a second without drops ends ETH/LIDAR_DROP. -/
def State.lidarReady (s : State) (i : Nat) (block : List Byte) : State :=
  let x := s.lidar i
  let s := s.modLidar i (fun x => { x with want := 0, frags := [] })
  let calm := x.drops.all (fun t => decide (s.hw ≥ t + 1000000000))
  let s := if x.raised ∧ calm then (s.modLidar i (fun x => { x with raised := false, drops := [] })).clearFault 0x7004 0x32 x.port else s
  s.crownSample 2 i 0 (u64 block 0) block

/-- ETH_LIDAR_FRAGMENT (R363): block sequence, fragment index and count, then the data. -/
def execEthLidarFragment (stream : Nat) (payload : List Byte) (s : State) : Out :=
  .next (
    let x := s.lidar stream
    let seq := u32 payload 0
    let idx := u16 payload 4
    let n := u16 payload 6
    if !s.ethRuns || !x.on || !(s.ethPort x.port).link || decide (payload.length < 8 ∨ payload.length > 1472 ∨ idx ≥ n) then s
    else
      let newer : Bool := match x.seq with | none => true | some q => q != seq && decide ((seq + 4294967296 - q) % 4294967296 < 2147483648)
      let s := if newer then
          (if x.want ≠ 0 then s.lidarDrop stream else s).modLidar stream (fun x => { x with seq := some seq, firstAt := s.hw, want := n, frags := [] })
        else s
      let x := s.lidar stream
      if x.seq ≠ some seq ∨ x.want ≠ n then s
      else if s.hw > x.firstAt + 50000000 then s.lidarDrop stream
      else
        let s := s.modLidar stream (fun x => { x with frags := tset [] x.frags idx (payload.drop 8) })
        let x := s.lidar stream
        if x.frags.length = n then s.lidarReady stream ((x.frags.map (·.2)).flatten) else s)

/-- ETH_LIDAR_TIMEOUT (R363): a block incomplete 50 ms after its first fragment. -/
def execEthLidarTimeout (stream : Nat) (s : State) : Out :=
  .next (
    let x := s.lidar stream
    if !s.ethRuns || !x.on || x.want == 0 then s else (s.waitTo (x.firstAt + 50000000)).lidarDrop stream)

/-! ### Signal datagrams (R364) -/

/-- Change the signal listener. -/
def State.modSigPort (s : State) (f : EthSig → EthSig) : State := { s with eth.sig := f s.eth.sig }

/-- ETH_SIGNAL_DATAGRAM (R364): 1-128 entries of 8 bytes. -/
def execEthSignalDatagram (payload : List Byte) (ago : Nat) (s : State) : Out :=
  .next (
    let q := s.eth.sig
    let n := payload.length / 8
    if !s.ethRuns || q.udp == 0 || payload.length % 8 != 0 || n == 0 || decide (n > 128) then s
    else
      let stamp := (s.hw - ago) / 4 * 4
      (((List.range n).foldl (fun (a : State × List Nat) j =>
        let (s, seen) := a
        let id := u16 payload (8 * j)
        let v := f32 payload (8 * j + 4)
        if id < q.first ∨ id > q.last ∨ !fFinite v ∨ seen.contains id then
          (s.modSigPort (fun x => { x with discarded := satAdd 32 x.discarded 1 }), id :: seen)
        else
          ((s.setSig id v stamp (u8 payload (8 * j + 2) &&& 0x2D)).modSigPort (fun x => { x with lastAt := tset 0 x.lastAt id (s.hw + 1) }),
           id :: seen)) (s, [])).1))

/-- ETH_SIGPORT_TIMEOUT (R364): no datagram value for the timeout sets STALE. -/
def execEthSigportTimeout (id : Nat) (s : State) : Out :=
  .next (
    let q := s.eth.sig
    if !s.ethRuns || q.udp == 0 || q.timeoutMs == 0 || decide (id < q.first ∨ id > q.last) then s
    else
      let t := tget 0 q.lastAt id
      (s.waitTo ((if t = 0 then q.setAt else t - 1) + q.timeoutMs * 1000000)).modFlags id (· ||| fgStale))

/-! ### Commands -/

/-- ETH.STATUS. -/
def verbEthStatus : Verb :=
  { unit := 0x32, verb := 0x01, lenOk := lenIs 0, instOk := instLt 7, query := true, rt := true, perm := none,
    body := fun r s =>
      let p := r.inst
      let x := s.ethPort p
      let link := if !x.enable then 0 else if x.asleep then 3 else if x.link then 2 else 1
      let lost := (s.eth.lidar.filter (fun l => l.2.port == p)).foldl (fun a l => satAdd 32 a l.2.dropped) 0
      (s, stDone, b8 link ++ b8 x.gptp ++ b8 x.quality ++ b8 x.speed ++ b32 x.delay ++ b32 x.drops ++
        b32 (if p = 4 ∨ p = 5 then lost else 0)) }

/-- ETH.CONFIG. A port disabled loses its link without an event; a port without the time flag has gPTP state 0. -/
def verbEthConfig : Verb :=
  { unit := 0x32, verb := 0x10, lenOk := lenIs 12, instOk := instLt 7, query := false, rt := false, perm := none,
    body := fun r s =>
      let p := r.inst
      let d := r.payload
      let t1 := decide (p < 6)
      let x := s.ethPort p
      let l := match x.pendGates with | some g => g.1 | none => x.gates
      if u8 d 0 > 1 ∨ u8 d 1 > 7 ∨ (!l.isEmpty ∧ u32 d 8 ≥ gateSum l) then (s, stRange, [])
      else
        let on := u8 d 0 == 1
        let s := s.modEth p (fun x => { x with
          enable := on, master := t1 && bit (u8 d 1) 0, time := bit (u8 d 1) 1, tc10 := t1 && bit (u8 d 1) 2, ip := u32 d 4,
          gatePhase := u32 d 8, link := x.link && on })
        let s := if (!on ∨ !bit (u8 d 1) 1) then s.gptpState p 0 x.gm else s
        let s := if on then s else s.clearFault 0x7002 0x32 p
        (s.dirty, stDone, []) }

/-- ETH.GATES (R361). -/
def verbEthGates : Verb :=
  { unit := 0x32, verb := 0x11, lenOk := lenIs 4, instOk := instLt 7, query := false, rt := false, perm := none,
    body := fun r s =>
      let d := u8 r.payload 0
      let n := u8 r.payload 1
      let p := r.inst
      if d > 63 ∨ n > 64 then (s, stRange, [])
      else if n = 0 then
        ((s.modEth p (fun x => { x with pendGates := if x.gates.isEmpty then none else some ([], s.hw + 1000000) })).dirty, stDone, [])
      else match s.regionCheck r.win d (8 * n) with
        | some st => (s, st, [])
        | none =>
          let b := s.regionRead r.win d 0 (8 * n)
          let l := (List.range n).map (fun i => (u8 b (8 * i), u32 b (8 * i + 4)))
          let s := s.regionDone r.win d r.tag (8 * n) false
          if l.any (fun e => decide (e.2 < 1000 ∨ e.2 > 100000000)) || l.all (fun e => !e.1.testBit 7) || decide ((s.ethPort p).gatePhase ≥ gateSum l) then
            (s, stRange, [])
          else ((s.modEth p (fun x => { x with pendGates := some (l, s.hw + 1000000) })).dirty, stDone, []) }

/-- Another listener has the UDP port and VLAN (R362); the RTCM listener has its port on every VLAN. -/
def State.listenerTaken (s : State) (udp vlan : Nat) (notLidar : Option Nat) (notSig : Bool) : Bool :=
  s.eth.lidar.any (fun l => l.2.on && some l.1 != notLidar && l.2.udp == udp && l.2.vlan == vlan) ||
  (!notSig && s.eth.sig.udp != 0 && s.eth.sig.udp == udp && s.eth.sig.vlan == vlan) ||
  (s.gnss.corrSrc == 2 && s.gnss.corrNum == udp)

/-- ETH.LIDAR (R363). -/
def verbEthLidar : Verb :=
  { unit := 0x32, verb := 0x12, lenOk := lenIs 8, instOk := fun i => decide (i = 4 ∨ i = 5), query := false, rt := false, perm := none,
    body := fun r s =>
      let p := r.payload
      let i := u8 p 0
      if i > 3 ∨ u8 p 1 > 1 ∨ u16 p 4 > 4095 then (s, stRange, [])
      else if u8 p 1 = 1 ∧ s.listenerTaken (u16 p 2) (u16 p 4) (some i) false then (s, stBusy, [])
      else
        let s := s.clearFault 0x7004 0x32 (s.lidar i).port
        ((s.modLidar i (fun x => { EthLidar.reset with
          on := u8 p 1 == 1, port := r.inst, udp := u16 p 2, vlan := u16 p 4, dropped := x.dropped })).dirty, stDone, []) }

/-- ETH.SIGPORT (R364). -/
def verbEthSigport : Verb :=
  { unit := 0x32, verb := 0x13, lenOk := lenIs 12, instOk := inst0, query := false, rt := false, perm := none,
    body := fun r s =>
      let p := r.payload
      let udp := u16 p 0
      let lo := u16 p 4
      let hi := u16 p 6
      let used := (heads s.panNext).any (fun e => eType e.2 == 1 && eForm e.2 == 1 && decide (lo ≤ u16 e.2 16 ∧ u16 e.2 16 ≤ hi))
      if udp = 0 then ((s.modSigPort (fun _ => EthSig.reset)).dirty, stDone, [])
      else if u16 p 2 > 4095 ∨ lo < 0x400 ∨ hi > 0x7FF ∨ hi < lo then (s, stRange, [])
      else if used ∨ s.listenerTaken udp (u16 p 2) none true then (s, stBusy, [])
      else
        ((s.modSigPort (fun _ => { EthSig.reset with udp := udp, vlan := u16 p 2, first := lo, last := hi, timeoutMs := u16 p 8,
                                                     setAt := s.hw })).dirty, stDone, []) }

/-- The headers of a window's rings. -/
def State.ringHeaders (s : State) (w : Nat) : State :=
  let x := s.ring w
  (s.regionWrite w x.rxDesc 0 (b32 x.rxProd ++ b32 x.rxCons ++ b32 (s.ringE w x.rxDesc) ++ b32 x.dropped)).regionWrite w x.txDesc 0
    (b32 x.txProd ++ b32 x.txCons ++ b32 (s.ringE w x.txDesc) ++ b32 0)

/-- ETH.HOSTRING (R365). -/
def verbEthHostring : Verb :=
  { unit := 0x32, verb := 0x14, lenOk := lenIs 4, instOk := inst0, query := false, rt := false, perm := none,
    body := fun r s =>
      let a := u8 r.payload 0
      let b := u8 r.payload 1
      if a > 63 ∨ b > 63 ∨ a = b then (s, stRange, [])
      else match s.regionCheck r.win a 2112, s.regionCheck r.win b 2112 with
        | some st, _ => (s, st, [])
        | none, some st => (s, st, [])
        | none, none =>
          let s := s.modRing r.win (fun _ => { EthRing.reset with on := true, rxDesc := a, txDesc := b })
          ((s.ringHeaders r.win).dirty, stDone, []) }

/-! ### Restart and trunk start (R367) -/

/-- ETH restarts: links stay; blocks in reassembly are dropped; the listener's signals follow R66. -/
def State.ethRestart (s : State) : State :=
  let q := s.eth.sig
  let s := { s with eth.lidar := tmap EthLidar.reset s.eth.lidar (fun x =>
    { x with dropped := if x.want = 0 then x.dropped else satAdd 32 x.dropped 1, want := 0, frags := [] }) }
  if q.udp = 0 then s else s.zeroSigs q.first q.last

/-- ETH at a trunk start: every setting re-applied. -/
def Eth.cold (kept cur : Eth) : Eth :=
  { ports := (List.range 7).foldl (fun t p =>
      let k := tget EthPort.reset kept.ports p
      tset EthPort.reset t p { EthPort.reset with
        enable := k.enable, master := k.master, time := k.time, tc10 := k.tc10, ip := k.ip, gatePhase := k.gatePhase,
        gates := match k.pendGates with | some g => g.1 | none => k.gates, asleep := (tget EthPort.reset cur.ports p).asleep }) [],
    lidar := tmap EthLidar.reset kept.lidar (fun x => { EthLidar.reset with on := x.on, port := x.port, udp := x.udp, vlan := x.vlan }),
    sig := { kept.sig with discarded := 0, lastAt := [] },
    rings := tmap EthRing.reset kept.rings (fun x => { EthRing.reset with on := x.on, rxDesc := x.rxDesc, txDesc := x.txDesc }) }

/-- The signal timeout counts from the trunk start. -/
def State.ethTrunkPost (s : State) : State := if s.eth.sig.udp = 0 then s else s.modSigPort (fun x => { x with setAt := s.hw })

/-- A window opens afresh: the headers of its rings. -/
def State.ethWindow (s : State) (w : Nat) : State := if (s.ring w).on then s.ringHeaders w else s

/-- ETH.STATUS -/
def execEthStatus (r : Req) (s : State) : Out := mailboxRow verbEthStatus r s
/-- ETH.CONFIG -/
def execEthConfig (r : Req) (s : State) : Out := mailboxRow verbEthConfig r s
/-- ETH.GATES -/
def execEthGates (r : Req) (s : State) : Out := mailboxRow verbEthGates r s
/-- ETH.LIDAR -/
def execEthLidar (r : Req) (s : State) : Out := mailboxRow verbEthLidar r s
/-- ETH.SIGPORT -/
def execEthSigport (r : Req) (s : State) : Out := mailboxRow verbEthSigport r s
/-- ETH.HOSTRING -/
def execEthHostring (r : Req) (s : State) : Out := mailboxRow verbEthHostring r s

end Sys2Proof.Machine
end

