-- ==== Sys2Proof/Machine/Outs.lean ====
section
/-! DEFINITION. Machine/Outs.lean: protected outputs and H-bridges (11): the rows of the OUT and HB units. Measured currents,
voltages, temperatures and energies are operands. -/

namespace Sys2Proof.Machine

/-! ### Diagnosed faults and the sense code (R265) -/

/-- The fault level of the sense code: the first diagnosed fault in the order of R265. -/
def State.senseFaultCode (s : State) (o : Nat) : Option Nat :=
  let c := s.out o
  if c.senseFault then some 0xFFF
  else if c.latched = 2 then some 0xFF2
  else if c.latched ≠ 0 then some 0xFF1
  else if c.retryPwm || c.thermLatch || (s.group (groupOf o)).shutdown then some 0xFF4
  else if c.stuck then some 0xFF5
  else if c.shortBat then some 0xFF3
  else if c.openLoad then some 0xFF0
  else none

/-- While a channel has a diagnosed fault its signal reads 0 with FAULT set and VALID clear (R265). -/
def State.outShow (s : State) (o : Nat) : State :=
  match s.senseFaultCode o with
  | some k => (s.modOut o (fun c => { c with code := k })).setSig (0x80 + o) fZero s.hw fgFault
  | none => s

/-- The unit runs and the output exists. -/
def State.outRuns (s : State) (o : Nat) : Bool := s.running 0x22 0 && decide (o < 72)

/-- The clamp energy in the window, 0.1 mJ (R267). -/
def clampSum (l : List (Nat × Nat)) : Nat := l.foldl (fun a e => a + e.2) 0

/-- Contributions still inside the window. -/
def clampLive (now : Nat) (l : List (Nat × Nat)) : List (Nat × Nat) := l.filter (fun e => decide (now < e.1))

/-! ### Time-driven rows -/

/-- The next PWM period start of a channel, or now if now is one at which none has been handled. -/
def State.pwmBoundary (s : State) (o : Nat) : State :=
  let key := 177 + 1000 * o
  let t := (s.out o).nextStart s.hw
  let t := if tget 0 s.time.ticks key = t + 1 then (s.out o).nextStart (t + 1) else t
  let s := s.waitTo t
  { s with time.ticks := tset 0 s.time.ticks key (t + 1) }

/-- OUT_PWM_PERIOD (R260, R261, R273): a PWM period of the channel, or a 1 ms step of a static soft start, begins: a waiting
configuration and the new duty take effect, the ramp advances. -/
def execOutPwmPeriod (o : Nat) (s : State) : Out :=
  .next (
    let c := s.out o
    if !s.outRuns o || !(c.cfg.mode == 2 || c.ramp.isSome) then s
    else
      let s := s.pwmBoundary o
      let s := match c.pend with
        | some g =>
          let s := if g.mode = 2 ∧ c.lamp.isNone ∧ (g.periodNs ≠ c.cfg.periodNs ∨ g.phaseNs ≠ c.cfg.phaseNs) then
              s.waitTo (if s.hw ≤ g.phaseNs then g.phaseNs
                else g.phaseNs + (s.hw - g.phaseNs + g.periodNs - 1) / g.periodNs * g.periodNs) else s
          (s.modOut o (fun c => { c with cfg := g, pend := none, ramp := if g.mode = 2 && g.softStart then c.ramp else none,
                                         mailbox := if g.mode = 2 then c.mailbox else fZero })).safetyEval
        | none => s
      s.outEval o true)

/-- The instant at which the first off-phase at or after `t` begins. -/
def OutCh.offPhase (c : OutCh) (t : Nat) : Nat :=
  let on := 4 * (fRound c.duty (c.timing.1 / 4)).toNat
  let (k, a) := c.periodsTo t
  if k = 0 then c.nextStart t + on else if t ≤ a + on then a + on else c.nextStart (a + 1) + on

/-- A test of a channel starts (R269): the off-state check of one that is off, else a pulse, which waits on a PWM channel for the
next off-phase and keeps duty and ramp; an on-time of a bound lamp that it makes start late is noted (08 R213). -/
def State.testStart (s : State) (o : Nat) : State :=
  let c := s.out o
  if !c.on then s.modOut o (fun c => { c with testing := some (s.hw, 200), pulse := false })
  else
    let s := if c.cfg.mode = 2 ∧ fLt c.duty fOne then s.waitTo (c.offPhase s.hw) else s
    let next := c.nextStart (s.hw + 1)
    let late := c.bound = 3 ∧ next < s.hw + c.cfg.pulseUs * 1000
    s.modOut o (fun c => { c with testing := some (s.hw, c.cfg.pulseUs), on := false, pulse := true,
                                  lateOn := if late then ((next, c.offPhase next) :: c.lateOn).take 16 else c.lateOn })

/-- OUT_INRUSH_WINDOW_END (R264, R266, R269): the window ends; retry-PWM ends; a deferred test pulse starts. -/
def execOutInrushWindowEnd (o : Nat) (s : State) : Out :=
  .next (
    match (s.out o).inrushEnd with
    | none => s
    | some t =>
      if !s.outRuns o then s
      else
        let s := s.waitTo t
        let c := s.out o
        let s := s.modOut o (fun c => { c with inrushEnd := none, retryPwm := false, retryOn := false, testDue := false })
        -- a channel that leaves retry-PWM comes on without a ramp, a PWM channel at its next period start (R260, R266)
        let s := if c.retryPwm then (s.modOut o (fun c => { c with skip := true })).clearFault 0x4004 0x22 o else s
        let s := s.outEval o false
        let s := if c.retryPwm then s.modOut o (fun c => { c with skip := c.cfg.mode == 2 && !c.on }) else s
        if c.testDue then s.testStart o else s)

/-- The latch of a current (R264): 2 fast trip, 3 inside the window at the allowance, 1 outside at the threshold. -/
def State.latchCause (s : State) (o peak : Nat) : Nat :=
  let k := outClass o
  if peak ≥ fastMa k then 2
  else if s.inWindow o then (if peak ≥ inrushMa k then 3 else 0)
  else if peak ≥ latchMa k then 1 else 0

/-- The latch-off filter time of a class, ns (R258). -/
def latchNs : Nat → Nat | 0 => 5000000 | 1 => 2000000 | _ => 1000000

/-- The on-phases, in ns, of the channel between its turn-on or `since`, the later, and now, as its duty in force makes them
(R260, R264). -/
def State.onTime (s : State) (o since : Nat) : Nat :=
  let c := s.out o
  let a := max c.onSince since
  let p := c.timing.1
  let on := 4 * (fRound c.duty (p / 4)).toNat
  let upTo := fun (t : Nat) => let (k, b) := c.periodsTo t; if k = 0 then 0 else (k - 1) * on + min on (t - b)
  if c.cfg.mode = 2 ∧ on < p then upTo s.hw - upTo a else s.hw - a

/-- A latch cause can have lasted its filter time: at once for the fast trip, 100 µs of the channel's on-phases at the
allowance, the filter time of them after the window outside it (R264). -/
def State.latchFiltered (s : State) (o cause : Nat) : Bool :=
  let c := s.out o
  match cause with
  | 2 => true
  | 3 => decide (s.onTime o 0 ≥ 100000)
  | _ => decide (s.onTime o (c.inrushEnd.getD 0) ≥ latchNs (outClass o))

/-- OUT_LATCHED (R264, R271, R510): an on-phase current, in mA, has lasted its filter time. The fast trip is the power die's own:
it latches a channel while the OUT unit or the trunk is down as well, without an event when there is no trunk to post it. -/
def execOutLatched (o peak : Nat) (s : State) : Out :=
  .next (
    let k := s.latchCause o peak
    if !(s.outRuns o || (k == 2 && decide (o < 72) && !s.parked)) || !(s.out o).on || k == 0 || (s.out o).latched != 0 ||
        !s.latchFiltered o k then s
    else if !(s.outRuns o || s.trunkOn) then
      (s.modOut o (fun c => { c with latched := k, mailbox := fZero })).outOff o
    else
      let win := b2n (s.inWindow o)
      let s := s.modOut o (fun c => { c with latched := k, mailbox := fZero })
      let s := s.raiseEv 0x22 o (128 + groupOf o) 0x4001 4 o k peak win
      (s.outEval o false).outShow o)

/-- The mean current signal and the sense code of one channel (R265): 0 in mode 0 and for a channel off through the whole 1 ms. -/
def State.outCurrent (samples : List (Nat × F32 × Nat)) (s : State) (o : Nat) : State :=
  let c := s.out o
  let idle := c.cfg.mode == 0 || (!c.on && decide (s.hw ≥ c.offSince + 1000000))
  let (mean, code) := if idle then (fZero, 0) else ((samples.find? (fun e => e.1 == o)).map (·.2)).getD (fZero, 0)
  let s := s.modOut o (fun c =>
    { c with mean := mean, code := code % 4096, senseFault := code % 4096 == 0xFFF,
             current := if idle ∨ code % 4096 ≥ 0xFF0 then c.current else fFrac (code % 4096 * senseLsb (outClass o) : Nat) 1000 })
  match s.senseFaultCode o with
  | some k => (s.modOut o (fun c => { c with code := k })).setSig (0x80 + o) fZero s.hw fgFault
  | none => s.setSig (0x80 + o) mean s.hw (flagsOf true false (code % 4096 == 0xFEF) false false false)

/-- OUT_CURRENT_UPDATE (R265): at every multiple of 1 ms each channel's mean current and last on-phase sense code. -/
def execOutCurrentUpdate (samples : List (Nat × F32 × Nat)) (s : State) : Out :=
  .next (if s.running 0x22 0 then (List.range 72).foldl (State.outCurrent samples) (s.boundary 180 1000000 0) else s)

/-- One channel at a die sample at the limit (R266). -/
def State.dieChannel (temp : Int) (curs : List (Nat × Nat)) (s : State) (o : Nat) : State :=
  let c := s.out o
  let cur := ((curs.find? (fun e => e.1 == o)).map (·.2)).getD 0
  let t := ofSigned 32 temp
  if !c.on || c.thermLatch || c.latched != 0 then s
  else if s.inWindow o then
    if c.retryPwm then s
    else
      let s := s.modOut o (fun c => { c with retryPwm := true, retryOn := false })
      ((s.raiseEv 0x22 o (128 + groupOf o) 0x4004 3 o t 1 cur).outEval o false).outShow o
  else if cur > nominalMa (outClass o) then
    let s := s.modOut o (fun c => { c with thermLatch := true, mailbox := fZero })
    ((s.raiseEv 0x22 o (128 + groupOf o) 0x4004 3 o t 2 cur).outEval o false).outShow o
  else s

/-- OUT_DIE_SAMPLE (R266): at a multiple of 100 µs each group's temperature in 0.1 °C, and the on-phase currents in mA. -/
def execOutDieSample (temps : List (Nat × Int)) (curs : List (Nat × Nat)) (s : State) : Out :=
  .next (
    if !s.running 0x22 0 then s
    else temps.foldl (fun (s : State) e =>
      let (g, t) := e
      if g ≥ 19 then s
      else
        let s := s.modGroup g (fun x => { x with dieC := t, hot := decide (t ≥ 1500) })
        let s := if t ≥ 1400 then (groupChs g).foldl (fun (s : State) o =>
            if (s.out o).retryOn then (s.modOut o (fun c => { c with retryOn := false })).outEval o false else s) s else s
        let s := if t ≥ 1500 then (groupChs g).foldl (State.dieChannel t curs) s else s
        -- a clamp-locked channel in retry-PWM completes its on-phase and starts no other (R267)
        (groupChs g).foldl (fun (s : State) o => if (s.out o).retryOn && s.clampLocked o then s.outEval o false else s) s)
        (s.boundary 181 100000 0))

/-- OUT_RETRY_PWM_PHASE (R266): at a multiple of 1 ms, the die below 140 °C, an on-phase of 250 µs starts; the channel then
runs at 25 % duty. -/
def execOutRetryPwmPhase (o : Nat) (s : State) : Out :=
  .next (
    if !s.outRuns o || !(s.out o).retryPwm || decide ((s.group (groupOf o)).dieC ≥ 1400) then s
    else
      let s := s.boundary (182 + 1000 * o) 1000000 0
      (s.modOut o (fun c => { c with retryOn := true })).outEval o true)

/-- OUT_GROUP_SHUTDOWN (R266, R271): 175 °C, in 0.1 °C. The power die switches off by itself, with the trunk down as well. -/
def execOutGroupShutdown (g temp : Nat) (s : State) : Out :=
  .next (
    if (!s.running 0x22 0 && s.parked) || g ≥ 19 || decide (temp < 1750) || (s.group g).shutdown then s
    else if !(s.running 0x22 0 || s.trunkOn) then
      (groupChs g).foldl State.outOff
        (s.modGroup g (fun x => { x with shutdown := true, dieC := temp, hot := true }))
    else
      let s := s.modGroup g (fun x => { x with shutdown := true, dieC := temp, hot := true })
      let s := s.raiseEv 0x22 (0x100 + g) (128 + g) 0x4004 3 (0x100 + g) temp 3 0
      (groupChs g).foldl (fun (s : State) o => (s.outEval o false).outShow o) s)

/-- OUT_CLAMP_END (R267): a clamp of a channel ends with its energy in 0.1 mJ. -/
def execOutClampEnd (o energy : Nat) (s : State) : Out :=
  .next (
    if !s.outRuns o then s
    else
      let g := groupOf o
      let k := outClass o
      let s := s.modOut o (fun c => { c with clamps := clampLive s.hw c.clamps ++ [(s.hw + 1000000000, energy)] })
      let s := s.modGroup g (fun x => { x with clamps := clampLive s.hw x.clamps ++ [(s.hw + 1000000000, energy)] })
      let cs := clampSum (s.out o).clamps
      let gs := clampSum (s.group g).clamps
      let s := if cs ≥ chBudget k ∧ (s.out o).clampLock.isNone then
          (s.modOut o (fun c => { c with clampLock := some s.hw })).raiseEv 0x22 o (128 + g) 0x4002 2 o (cs / 10) (gs / 10) 1
        else s
      if gs ≥ groupBudget k ∧ (s.group g).lock.isNone then
        (s.modGroup g (fun x => { x with lock := some s.hw })).raiseEv 0x22 (0x100 + g) (128 + g) 0x4002 2 (0x100 + g) 0 (gs / 10) 2
      else s)

/-- OUT_CLAMP_EXPIRE (R267): a contribution leaves the sums of its channel and group; locks end below 50 %. -/
def execOutClampExpire (o : Nat) (s : State) : Out :=
  .next (
    match (s.out o).clamps with
    | [] => s
    | (t, _) :: _ =>
      if !s.outRuns o then s
      else
        let g := groupOf o
        let k := outClass o
        let s := s.waitTo t
        let s := s.modOut o (fun c => { c with clamps := clampLive s.hw c.clamps })
        let s := s.modGroup g (fun x => { x with clamps := clampLive s.hw x.clamps })
        let cs := clampSum (s.out o).clamps
        let gs := clampSum (s.group g).clamps
        let s := match (s.out o).clampLock with
          | some a => if 2 * cs < chBudget k then
              ((s.modOut o (fun c => { c with clampLock := none })).post 0x22 o (128 + g) 0x4003 o (cs / 10) (gs / 10)
                ((s.hw - a) / 1000000)).clearFault 0x4002 0x22 o else s
          | none => s
        let s := match (s.group g).lock with
          | some a => if 2 * gs < groupBudget k then
              ((s.modGroup g (fun x => { x with lock := none })).post 0x22 (0x100 + g) (128 + g) 0x4003 (0x100 + g) 0 (gs / 10)
                ((s.hw - a) / 1000000)).clearFault 0x4002 0x22 (0x100 + g) else s
          | none => s
        (groupChs g).foldl (fun (s : State) o => s.outEval o false) s)

/-- The open-load threshold in mA. -/
def OutCh.openThr (c : OutCh) (o : Nat) : Nat := if c.cfg.openMa = 0 then openDefault (outClass o) else c.cfg.openMa

/-- The channel has been off for the 10 ms of an off-state diagnosis (R268). -/
def State.offChecked (s : State) (o : Nat) : Bool :=
  let c := s.out o
  !c.on && c.cfg.offCheck && c.testing.isNone && decide (s.hw ≥ c.offSince + 10000000)

/-- OUT_OPEN_LOAD (R268): on, a current below the threshold for 50 ms; off with the off-state check, 3.5–6.0 V for 10 ms. -/
def execOutOpenLoad (o cur mv : Nat) (s : State) : Out :=
  .next (
    let c := s.out o
    let hit := if c.on then c.cfg.mode != 0 && decide (cur < c.openThr o ∧ s.hw ≥ c.onSince + 50000000)
      else s.offChecked o && decide (3500 ≤ mv ∧ mv ≤ 6000)
    if !s.outRuns o || c.openLoad || !hit then s
    else ((s.modOut o (fun c => { c with openLoad := true, diagAt := s.hw })).raiseEv 0x22 o (128 + groupOf o) 0x4005 2 o
      (if c.on then cur else 0) (if c.on then 0 else mv) 0).outShow o)

/-- OUT_SHORT_BAT (R268): off with the off-state check, above 7.0 V for 10 ms. -/
def execOutShortBat (o mv : Nat) (s : State) : Out :=
  .next (
    let c := s.out o
    if !s.outRuns o || !s.offChecked o || c.shortBat || decide (mv ≤ 7000) then s
    else ((s.modOut o (fun c => { c with shortBat := true, diagAt := s.hw })).raiseEv 0x22 o (128 + groupOf o) 0x4006 3 o mv 0 0).outShow o)

/-- OUT_DIAG_END (R268): open load (0) or short to battery (1) absent for 100 ms. -/
def execOutDiagEnd (o kind : Nat) (s : State) : Out :=
  .next (
    if !s.outRuns o || decide (s.hw < (s.out o).diagAt + 100000000) then s
    else if kind = 0 ∧ (s.out o).openLoad then (s.modOut o (fun c => { c with openLoad := false })).clearFault 0x4005 0x22 o
    else if kind = 1 ∧ (s.out o).shortBat then (s.modOut o (fun c => { c with shortBat := false })).clearFault 0x4006 0x22 o
    else s)

/-- OUT_TEST_DUE (R269): at a multiple of the test interval: a pulse, an off-state check, or a deferral to the window's end. -/
def execOutTestDue (o : Nat) (s : State) : Out :=
  .next (
    let c := s.out o
    if !s.outRuns o || !c.cfg.tagged || c.cfg.testMs == 0 || c.testing.isSome then s
    else
      let s := s.boundary (189 + 1000 * o) (c.cfg.testMs * 1000000) 0
      if s.inWindow o then s.modOut o (fun c => { c with testDue := true }) else s.testStart o)

/-- OUT_TEST_READBACK (R269): the voltage, in mV, at the end of the pulse; 2 V or more fails. -/
def execOutTestReadback (o mv : Nat) (s : State) : Out :=
  .next (
    match (s.out o).testing with
    | none => s
    | some (t, len) =>
      if !s.outRuns o then s
      else
        let s := s.waitTo (t + len * 1000)
        let was := (s.out o).stuck
        -- at the end of a pulse the channel is on again at its duty, without window or ramp (R264), unless a clamp lock holds it (R267)
        let locked := s.clampLocked o
        let s := (s.modOut o (fun c => { c with testing := none, pulse := false, on := c.on || (c.pulse && !locked),
                                                offSince := if c.pulse && locked then s.hw else c.offSince })).outEval o false
        if mv ≥ 2000 then
          let s := { s with root.stuck := s.root.stuck ||| 2 ^ o }
          if was then s
          else ((s.modOut o (fun c => { c with stuck := true })).raiseEv 0x22 o (128 + groupOf o) 0x4007 6 o mv len 0).outShow o
        else if was then (s.modOut o (fun c => { c with stuck := false })).clearFault 0x4007 0x22 o
        else s)

/-! ### Park-hold (R272) -/

/-- The Cellar stops driving a slot's channel. -/
def State.parkRelease (s : State) (k : Nat) : State :=
  match (s.parkSlot k).out with
  | some o => (s.modPark k (fun h => { h with driving := false, level := false, endAt := none })).modOut o (fun c =>
      if c.parkDriven then { c with parkDriven := false, on := false, duty := fZero, offSince := if c.on then s.hw else c.offSince } else c)
  | none => s

/-- The Cellar hands a channel to the first accepted OUT.SET or OUT.CONFIG; a static one that the pattern has on is taken over on. -/
def State.takeOver (s : State) (o : Nat) : State :=
  if !(s.out o).parkDriven then s
  else
    let was := s.out o
    let s := (List.range 4).foldl (fun (s : State) k =>
      if (s.parkSlot k).out = some o ∧ (s.parkSlot k).driving then s.parkRelease k else s) s
    if was.on ∧ was.cfg.mode = 1 then s.modOut o (fun c => { c with on := true, duty := was.duty, offSince := was.offSince }) else s

/-- OUT_PARK_PATTERN_EDGE (R272): the next edge of a flashing pattern, its on or off time after the slot's last one. -/
def execOutParkPatternEdge (slot : Nat) (s : State) : Out :=
  .next (
    let h := s.parkSlot slot
    match h.out with
    | none => s
    | some o =>
      if !h.driving || !h.flash || h.tripped != 0 then s
      else
        let ms := if h.level then h.onMs else h.offMs
        let t := h.edgeAt + ms * (if s.parked then 32768 else 1000000)
        let s := if s.parked then { s with time.parkPeriods := max s.time.parkPeriods (t / 1000) } else s.waitTo t
        (s.modPark slot (fun h => { h with level := !h.level, edgeAt := t })).parkGate o)

/-- OUT_PARK_TIME_LIMIT (R272): the slot's time limit ends its pattern. -/
def execOutParkTimeLimit (slot : Nat) (s : State) : Out :=
  .next (
    match (s.parkSlot slot).endAt with
    | none => s
    | some t =>
      if s.parked && (s.parkSlot slot).driving then
        { (s.parkRelease slot) with time.parkPeriods := max s.time.parkPeriods t }
      else s)

/-- OUT_PARK_TRIP (R272): cause 1 fast trip, 2 the 5 A latch; it holds for the rest of the park. -/
def execOutParkTrip (slot cause : Nat) (s : State) : Out :=
  .next (
    let h := s.parkSlot slot
    match h.out with
    | none => s
    | some o =>
      if !s.parked || !h.driving || h.tripped != 0 || !(cause == 1 || cause == 2) then s
      else
        (s.modPark slot (fun h => { h with tripped := cause, tripAt := s.time.parkPeriods / 32768, level := false })).parkGate o)

/-- After the next trunk start the trips are posted, and end with the park that they held for (R272, log entry 119); the patterns go
on by Heartwood. -/
def State.outsTrunkPost (s : State) : State :=
  (List.range 4).foldl (fun (s : State) k =>
    let h := s.parkSlot k
    match h.out with
    | some o => if h.tripped = 0 then
          s.modPark k (fun h => { h with edgeAt := s.time.stopped + h.edgeAt * 1000000 / 32768 })
        else (((s.modPark k (fun h => { h with tripped := 0, driving := false })).modOut o (fun c => { c with parkDriven := false })).raiseEv
          0x22 o (128 + groupOf o) 0x4009 3 o k h.tripped h.tripAt).clearFault 0x4009 0x22 o
    | none => s) s

/-! ### OUT commands (R273, R274) -/

/-- The fields of OUT.CONFIG. -/
def outCfgOf (p : List Byte) : OutCfg :=
  { mode := u8 p 0, policy := u8 p 1, hwDefault := u8 p 2 == 1, tagged := bit (u8 p 3) 0, softStart := bit (u8 p 3) 1,
    offCheck := bit (u8 p 3) 2, periodNs := u32 p 4, phaseNs := u32 p 8, softMs := u16 p 12, testMs := u16 p 14,
    pulseUs := u16 p 16, openMa := u16 p 18, softDuty := f32 p 20 }

/-- A duty within 0–1. -/
def isDuty (d : F32) : Bool := fLe fZero d && fLe d fOne

/-- The fields that the configuration uses are in range (R273). -/
def outCfgOk (o : Nat) (p : List Byte) : Bool :=
  let g := outCfgOf p
  decide (g.mode ≤ 2 ∧ g.policy ≤ 2 ∧ u8 p 2 ≤ 1 ∧ u8 p 3 < 8) &&
  (g.mode != 2 || (decide (40000 ≤ g.periodNs ∧ g.periodNs ≤ 20000000) && g.periodNs % 4 == 0 && g.phaseNs % 4 == 0 &&
    decide (g.phaseNs + 4 ≤ g.periodNs))) &&
  (!g.softStart || (decide (10 ≤ g.softMs ∧ g.softMs ≤ 2000) && isDuty g.softDuty)) &&
  (g.testMs == 0 || decide (100 ≤ g.testMs ∧ g.testMs ≤ 1000 ∧ 50 ≤ g.pulseUs ∧ g.pulseUs ≤ 200)) &&
  (g.mode == 0 || g.openMa == 0 || decide (10 ≤ g.openMa ∧ g.openMa ≤ nominalMa (outClass o))) &&
  (!g.tagged || g.testMs != 0)

/-- OUT.CONFIG (R270, R273, 12 R292, 13 R302); the settings it would change are those of a configuration that waits, if one does. -/
def verbOutConfig : Verb :=
  { unit := 0x22, verb := 0x10, lenOk := lenIs 24, instOk := instLt 72, query := false, rt := false, perm := none,
    body := fun r s =>
      let o := r.inst
      let g := outCfgOf r.payload
      let c := s.out o
      let old := c.pend.getD c.cfg
      let test := g.tagged != old.tagged || g.testMs != old.testMs || (g.testMs != 0 && g.pulseUs != old.pulseUs)
      if (c.cfg.mode == 2 && g.mode != 2 && (s.loopBinds 2 o || c.lamp.isSome)) || c.bound == 1 || c.bound == 2 then (s, stBusy, [])
      else if r.win != 0 && test then (s, stNotPermitted, [])
      else if !outCfgOk o r.payload then (s, stRange, [])
      else
        let s := s.takeOver o
        let s := s.modOut o (fun c => { c with owner := some r.win, hwDefault := g.hwDefault })
        let s :=
          if c.cfg.mode = 2 then s.modOut o (fun c => { c with pend := some g })
          else
            let s := s.modOut o (fun c => { c with cfg := g, pend := none, ramp := if c.cfg.mode = g.mode ∧ g.softStart then c.ramp else none,
                                                   mailbox := if c.cfg.mode = g.mode then c.mailbox else fZero })
            s.safetyEval.outEval o false
        (s.dirty, stDone, []) }

/-- OUT.SET (R274). -/
def verbOutSet : Verb :=
  { unit := 0x22, verb := 0x11, lenOk := lenIs 8, instOk := instLt 72, query := false, rt := true, perm := none,
    body := fun r s =>
      let o := r.inst
      let v := f32 r.payload 0
      let c := s.out o
      let isOn := !fEq v fZero
      if c.bound == 1 || c.bound == 2 then (s, stBusy, [])
      else if c.cfg.mode == 0 || !isDuty v || (c.cfg.mode == 1 && isOn && !fEq v fOne) || u8 r.payload 4 > 1 then (s, stRange, [])
      else if isOn && (c.latched != 0 || s.clampLocked o || c.thermLatch || (s.group (groupOf o)).shutdown) then (s, stLocked, [])
      else if isOn && c.safetyOff then (s, stSafety, [])
      else
        let s := (s.takeOver o).modOut o (fun c => { c with mailbox := v, skip := bit (u8 r.payload 4) 0 })
        (s.outEval o false, stDone, []) }

/-- OUT.CLEAR (R274): a channel's latches, or a cooled group's shutdown. -/
def verbOutClear : Verb :=
  { unit := 0x22, verb := 0x12, lenOk := lenIs 0, instOk := fun i => decide (i < 72 ∨ (0x100 ≤ i ∧ i < 0x113)), query := false,
    rt := false, perm := none,
    body := fun r s =>
      if r.inst < 72 then
        let o := r.inst
        let c := s.out o
        if c.latched = 0 ∧ !c.thermLatch then (s, stDone, [])
        else
          let s := s.modOut o (fun c => { c with latched := 0, thermLatch := false, mailbox := fZero })
          let s := if c.latched ≠ 0 then s.clearFault 0x4001 0x22 o else s
          let s := if c.thermLatch then s.clearFault 0x4004 0x22 o else s
          (s.outEval o false, stDone, [])
      else
        let g := r.inst - 0x100
        if !(s.group g).shutdown then (s, stDone, [])
        else if (s.group g).dieC ≥ 1400 then (s, stBusy, [])
        else
          let s := (s.modGroup g (fun x => { x with shutdown := false })).clearFault 0x4004 0x22 r.inst
          ((groupChs g).foldl (fun (s : State) o => (s.modOut o (fun c => { c with mailbox := fZero })).outEval o false) s, stDone, []) }

/-- OUT.PARKHOLD (R272). -/
def verbOutParkhold : Verb :=
  { unit := 0x22, verb := 0x13, lenOk := lenIs 12, instOk := inst0, query := false, rt := false, perm := none,
    body := fun r s =>
      let p := r.payload
      let k := u8 p 0
      let o := u8 p 1
      if k > 3 then (s, stRange, [])
      else if o = 0xFF then
        (((s.parkRelease k).modPark k (fun _ => ParkHold.reset)).dirty, stDone, [])
      else
        let flash := u8 p 2 == 1
        let held := (List.range 4).any (fun i => i != k && (s.parkSlot i).out == some o)
        if 28 ≤ o ∧ o ≤ 71 ∧ u8 p 2 ≤ 1 ∧ 1 ≤ u8 p 3 ∧ u8 p 3 ≤ 7 ∧ 100 ≤ u16 p 4 ∧ u16 p 4 ≤ 2000 ∧
           (!flash ∨ (100 ≤ u16 p 6 ∧ u16 p 6 ≤ 2000)) ∧ u16 p 8 ≤ 1440 ∧ !held ∧ !(s.out o).cfg.tagged then
          let h : ParkHold := { ParkHold.reset with out := some o, flash := flash, states := u8 p 3, onMs := u16 p 4,
                                                    offMs := u16 p 6, limitMin := u16 p 8 }
          (((s.parkRelease k).modPark k (fun _ => h)).dirty, stDone, [])
        else (s, stRange, []) }

/-- The protection state reported by OUT.STATUS. -/
def State.outProtection (s : State) (o : Nat) : Nat :=
  let c := s.out o
  if c.latched ≠ 0 then c.latched
  else if c.thermLatch then 6
  else if (s.group (groupOf o)).shutdown then 7
  else if s.clampLocked o then 4
  else if c.retryPwm then 5
  else if c.safetyOff then 8 else 0

/-- OUT.STATUS (R274). -/
def verbOutStatus : Verb :=
  { unit := 0x22, verb := 0x01, lenOk := lenIs 0, instOk := fun i => decide (i < 72 ∨ (0x100 ≤ i ∧ i < 0x113)), query := true,
    rt := true, perm := none,
    body := fun r s =>
      if r.inst < 72 then
        let o := r.inst
        let c := s.out o
        let drive := if c.parkDriven then 4 else if c.ramp.isSome then 3 else if !c.on then 0
          else if c.cfg.mode = 2 ∧ fLt c.duty fOne then 2 else 1
        let faults := b2n c.openLoad + 2 * b2n c.shortBat + 4 * b2n c.stuck + 128 * b2n (s.inWindow o)
        (s, stDone, b8 drive ++ b8 (s.outProtection o) ++ b8 faults ++ b8 (s.outPrec o) ++ bF c.duty ++
          b16 ((s.senseFaultCode o).getD c.code) ++ zeros 2 ++ bF (fFrac (clampSum (clampLive s.hw c.clamps) : Nat) 10000) ++
          bF c.current)
      else
        let g := r.inst - 0x100
        let x := s.group g
        let on := bitSet ((List.range 4).filter (fun i => match (groupChs g)[i]? with | some o => (s.out o).on && !fEq (s.out o).duty fZero | none => false))
        (s, stDone, bF (fFrac x.dieC 10) ++ bF (fFrac (clampSum (clampLive s.hw x.clamps) : Nat) 10000) ++
          b8 (if x.shutdown then 2 else if x.hot then 1 else 0) ++ b8 on ++ zeros 2) }

/-! ### H-bridges (R276-R280) -/

/-- The unit runs and the bridge exists. -/
def State.hbRuns (s : State) (n : Nat) : Bool := s.running 0x23 0 && decide (n < 8)

/-- The bridge's own logic acts: its unit runs, or a move that HOLD lets go on is driven while it restarts (R276, R280). -/
def State.hbLive (s : State) (n : Nat) : Bool := s.hbRuns n || (decide (n < 8) && s.trunkOn && s.hbApplied n != 0)

/-- A move starts driving. -/
def State.hbGo (s : State) (n action : Nat) (duty : F32) : State :=
  s.modHb n (fun b => { b with action := action, dirNeg := action == 2, duty := duty, moveAt := s.hw, revPend := none, periods := [],
                               lastRipple := none })

/-- A move, from HB.DRIVE or a body service: one under way is superseded; a reversal brakes 5 ms first (R279). -/
def State.hbMove (s : State) (n action : Nat) (duty : F32) (op : Option Op) (target : Option Int) (limitMs : Nat) : State :=
  let b := s.hb n
  -- the direction of a motor that still turns: driven, or in the brake before a reversal (R278, R279)
  let was := if b.action = 3 ∧ b.revPend.isSome then (if b.dirNeg then 2 else 1) else b.action
  let s := if (s.hb n).op.isSome || (s.hb n).pinch.isSome then s.hbEnd n 5 true else s
  let rev := (was == 1 && action == 2) || (was == 2 && action == 1)
  let s := s.modHb n (fun b => { b with op := op, target := target, moves := (b.moves + 1) % 2 ^ 32,
                                        limitAt := if limitMs = 0 then none else some (s.hw + limitMs * 1000000) })
  if rev then s.modHb n (fun b => { b with action := 3, revPend := some (s.hw + 5000000, action, duty) })
  else s.hbGo n action duty

/-- A pinch is detected (R278): the bridge brakes and a reversal is due 5.05 ms later. -/
def State.hbPinch (s : State) (n cur crit : Nat) : State :=
  let b := s.hb n
  let s := s.modHb n (fun b => { b with action := 3, pinch := some (0, b.pos), target := none,
                                        revPend := some (s.hw + 5050000, if b.action = 1 then 2 else 1, b.duty) })
  s.raiseEv 0x23 n (147 + n) 0x4102 2 n (ofSigned 32 b.pos) cur crit

/-- The pinch watch is on (R278): direction protected, blanking over, inside the zone (with ripple counting). -/
def State.pinchWatch (s : State) (n : Nat) : Bool :=
  let b := s.hb n
  ((b.action == 1 && b.pinchFwd) || (b.action == 2 && b.pinchRev)) && b.pinch.isNone &&
    decide (s.hw ≥ b.moveAt + b.blankMs * 1000000) && (!b.ripple || decide (b.zoneLo ≤ b.pos ∧ b.pos ≤ b.zoneHi))

/-- HB_RIPPLE (R277-R279): a commutation ripple with the motor current in mA, counted above 0.3 A in every action, and below it in
a brake until the period exceeds 50 ms. -/
def execHbRipple (n cur : Nat) (s : State) : Out :=
  .next (
    let b := s.hb n
    let per := (s.hw - b.lastRipple.getD s.hw) / 1000
    if !(s.hbRuns n || (decide (n < 8) && s.trunkOn)) || !b.ripple ||
        (decide (cur ≤ 300) && (b.action != 3 || b.lastRipple.isNone || decide (per > 50000))) then s
    else
      let d : Int := if b.dirNeg then -1 else 1
      let prev := b.periods
      let s := s.modHb n (fun b => { b with pos := toSigned 32 (ofSigned 32 (b.pos + d)), lastRipple := some s.hw,
                                            periods := if b.lastRipple.isNone then [] else (per :: b.periods).take 8 })
      let pos := (s.hb n).pos
      let jump : Bool := match prev with | p :: _ => decide (per > 3 * p ∨ p > 3 * per) | [] => false
      let s := if jump && b.lastRipple.isSome then
          (s.modHb n (fun b => { b with reliable := false })).raiseEv 0x23 n (147 + n) 0x4105 1 n (ofSigned 32 pos)
            (per * 100 / max 1 (prev.headD 1)) 0 else s
      let slow := decide (prev.length = 8 ∧ per * 8 * 100 > prev.foldl (· + ·) 0 * (100 + b.pinchPct))
      if s.pinchWatch n && (slow || decide (cur > b.pinchDa * 100)) then s.hbPinch n cur (if slow then 1 else 2)
      else match (s.hb n).pinch, (s.hb n).target with
        | some (1, p0), _ => if (pos - p0).natAbs ≥ b.revCount then s.hbEnd n 3 true else s
        | some _, _ => s
        | none, some t => if (b.action = 1 ∧ pos ≥ t) ∨ (b.action = 2 ∧ pos ≤ t) then s.hbEnd n 0 true else s
        | none, none => s)

/-- HB_PINCH_REVERSE (R278): 5.05 ms after detection the bridge drives the other way at the same duty; the reverse count starts. -/
def execHbPinchReverse (n : Nat) (s : State) : Out :=
  .next (
    match (s.hb n).pinch, (s.hb n).revPend with
    | some (0, _), some (t, a, d) =>
      if !s.hbLive n then s
      else ((s.waitTo t).hbGo n a d).modHb n (fun b => { b with pinch := some (1, b.pos) })
    | _, _ => s)

/-- HB_PINCH_TIMEOUT (R278): without ripple counting the reversal lasts 300 ms. -/
def execHbPinchTimeout (n : Nat) (s : State) : Out :=
  .next (
    match (s.hb n).pinch with
    | some (1, _) => if s.hbLive n && !(s.hb n).ripple then (s.waitTo ((s.hb n).moveAt + 300000000)).hbEnd n 3 true else s
    | _ => s)

/-- HB_SHORT (R276): 60 A, in mA; the bridge's own trip, which a restart of the HB unit does not stop. -/
def execHbShort (n cur : Nat) (s : State) : Out :=
  .next (
    if !s.hbLive n || decide (cur < 60000) || (s.hb n).shorted then s
    else ((s.modHb n (fun b => { b with shorted := true })).hbEnd n 6 false).raiseEv 0x23 n (147 + n) 0x4103 4 n cur 0 0)

/-- HB_STALL (R276, R279): a current, in mA, held for `ms` of the move: above the stall threshold for the stall time, or above
15 A for 500 ms. -/
def execHbStall (n cur ms : Nat) (s : State) : Out :=
  .next (
    let b := s.hb n
    if !s.hbLive n || !(b.action == 1 || b.action == 2) || decide (s.hw < b.moveAt + ms * 1000000) then s
    else if (cur > b.stallDa * 100 ∧ ms ≥ b.stallMs) ∨ (cur > 15000 ∧ ms ≥ 500) then s.hbEnd n 2 true else s)

/-- HB_THERMAL (R276): above 150 °C, in 0.1 °C. -/
def execHbThermal (n temp : Nat) (s : State) : Out :=
  .next (
    if !s.hbLive n || decide (temp ≤ 1500) || (s.hb n).hot then s
    else ((s.modHb n (fun b => { b with hot := true })).hbEnd n 6 false).raiseEv 0x23 n (147 + n) 0x4104 3 n temp 0 0)

/-- HB_THERMAL_END (R276): below 140 °C. -/
def execHbThermalEnd (n temp : Nat) (s : State) : Out :=
  .next (
    if !s.hbRuns n || decide (temp ≥ 1400) || !(s.hb n).hot then s
    else (s.modHb n (fun b => { b with hot := false })).clearFault 0x4104 0x23 n)

/-- HB_TIME_LIMIT (R279). -/
def execHbTimeLimit (n : Nat) (s : State) : Out :=
  .next (
    match (s.hb n).limitAt with
    | some t => if s.hbLive n then (s.waitTo t).hbEnd n 1 true else s
    | none => s)

/-- HB_REVERSAL_BRAKE_END (R279): after 5 ms the reversing move drives. -/
def execHbReversalBrakeEnd (n : Nat) (s : State) : Out :=
  .next (
    match (s.hb n).revPend, (s.hb n).pinch with
    | some (t, a, d), none => if s.hbLive n then (s.waitTo t).hbGo n a d else s
    | _, _ => s)

/-- HB_CURRENT_UPDATE (R276, R278): every 1 ms the mean current of each bridge, positive in forward, against the pinch current and the
limit of 40 A above which its PWM periods are cut short; a move that goes on over a restart of the unit is watched on. -/
def execHbCurrentUpdate (samples : List (Nat × F32)) (s : State) : Out :=
  .next (
    if !s.trunkOn then s
    else (List.range 8).foldl (fun (s : State) n =>
      let v := ((samples.find? (fun e => e.1 == n)).map (·.2)).getD fZero
      let ma := (fRound (fAbs v) 1000).toNat
      let s := s.modHb n (fun b => { b with current := v, cut := (b.action == 1 || b.action == 2) && decide (ma > 40000) })
      let s := if s.running 0x23 0 then s.setSig (0xC8 + n) v s.hw fgValid else s
      let b := s.hb n
      if s.hbLive n && s.pinchWatch n && decide (ma > b.pinchDa * 100) then s.hbPinch n ma 2 else s) (s.boundary 207 1000000 0))

/-- HB.CONFIG (R270, R278). -/
def verbHbConfig : Verb :=
  { unit := 0x23, verb := 0x10, lenOk := lenIs 24, instOk := instLt 8, query := false, rt := false, perm := none,
    body := fun r s =>
      let p := r.payload
      let n := r.inst
      let tag := bit (u8 p 1) 0
      if r.win != 0 && tag != (s.hb n).tagged then (s, stNotPermitted, [])
      else if u8 p 0 ≤ 1 ∧ u8 p 1 < 16 ∧ 20 ≤ u16 p 2 ∧ u16 p 2 ≤ 400 ∧ 20 ≤ u16 p 4 ∧ u16 p 4 ≤ 500 ∧ 50 ≤ u16 p 6 ∧
          u16 p 6 ≤ 1000 ∧ 10 ≤ u16 p 16 ∧ u16 p 16 ≤ 400 ∧ 10 ≤ u8 p 18 ∧ u8 p 18 ≤ 200 ∧ 1 ≤ u16 p 20 ∧ u16 p 20 ≤ 10000 then
        let s := s.modHb n (fun b =>
          { b with policy := u8 p 0, owner := some r.win, tagged := tag, ripple := bit (u8 p 1) 1, pinchFwd := bit (u8 p 1) 2,
                   pinchRev := bit (u8 p 1) 3, stallDa := u16 p 2, stallMs := u16 p 4, blankMs := u16 p 6, zoneLo := i32 p 8,
                   zoneHi := i32 p 12, pinchDa := u16 p 16, pinchPct := u8 p 18, revCount := u16 p 20, configured := true })
        (s.safetyEval.dirty, stDone, [])
      else (s, stRange, []) }

/-- HB.DRIVE (R279). -/
def verbHbDrive : Verb :=
  { unit := 0x23, verb := 0x11, lenOk := lenIs 16, instOk := instLt 8, query := false, rt := true, perm := none,
    body := fun r s =>
      let p := r.payload
      let n := r.inst
      let b := s.hb n
      let a := u8 p 0
      let d := f32 p 4
      let drive := a == 1 || a == 2
      if b.boundBy.isSome then (s, stBusy, [])
      else if a > 3 || u8 p 1 > 1 || (u8 p 1 == 1 && !b.ripple) || (drive && !(fLe (fFrac 1 20) d && fLe d fOne)) ||
          u32 p 12 > 60000 then (s, stRange, [])
      else if b.shorted || b.hot then (s, stLocked, [])
      else if drive && b.safetyOff then (s, stSafety, [])
      else if drive then
        (s.hbMove n a d (some { win := r.win, tag := r.tag }) (if u8 p 1 = 1 then some (i32 p 8) else none) (u32 p 12), stAccepted, [])
      else
        let s := if b.op.isSome || b.pinch.isSome then s.hbEnd n 4 (a == 3) else s
        (s.modHb n (fun b => { b with action := a, revPend := none }), stDone, []) }

/-- HB.CLEAR (R279). -/
def verbHbClear : Verb :=
  { unit := 0x23, verb := 0x12, lenOk := lenIs 0, instOk := instLt 8, query := false, rt := false, perm := none,
    body := fun r s =>
      if (s.hb r.inst).shorted then
        ((s.modHb r.inst (fun b => { b with shorted := false })).clearFault 0x4103 0x23 r.inst, stDone, [])
      else (s, stDone, []) }

/-- HB.POSITION (R279). -/
def verbHbPosition : Verb :=
  { unit := 0x23, verb := 0x13, lenOk := lenIs 4, instOk := instLt 8, query := false, rt := false, perm := none,
    body := fun r s =>
      let s := s.modHb r.inst (fun b => { b with pos := i32 r.payload 0, reliable := true })
      (s.clearFault 0x4105 0x23 r.inst, stDone, []) }

/-- HB.STATUS (R279). -/
def verbHbStatus : Verb :=
  { unit := 0x23, verb := 0x01, lenOk := lenIs 0, instOk := instLt 8, query := true, rt := true, perm := none,
    body := fun r s =>
      let b := s.hb r.inst
      let st := if b.shorted then 5 else if b.pinch.isSome then 4 else s.hbApplied r.inst
      (s, stDone, b8 st ++ b8 (b2n (!b.reliable) + 2 * b2n b.hot + 4 * b2n b.safetyOff) ++ zeros 2 ++ bI32 b.pos ++ bF b.current ++
        b32 b.moves) }

/-- A restart of Keeper (R271, R280): the policies act on every channel and bridge. -/
def State.outsKeeperRestart (s : State) : State := s.applyPolicy (fun _ => true) (fun _ => true)

/-- A restart of OUT or HB (R271, R280): policy acts; accepted moves that end complete UNIT_RESTARTED. -/
def State.outsRestart (s : State) (u : Nat) : State :=
  if u = 0x22 then s.applyPolicy (fun _ => true) (fun _ => false)
  else (List.range 8).foldl (fun (s : State) n =>
    let b := s.hb n
    let s := match b.op with
      | some op => s.complete op 0x23 n (147 + n) 0x4101 stRestarted 4 (ofSigned 32 b.pos)
      | none => s
    let s := if b.policy = 0 ∧ b.pinch.isSome then s.clearFault 0x4102 0x23 n else s
    if b.policy = 0 then s.modHb n (fun b => { b with op := none, action := 0, target := none, limitAt := none, revPend := none,
                                                      pinch := none, moves := 0 })
    else s.modHb n (fun b => { b with op := none, moves := 0 })) s

/-- OUT.STATUS -/
def execOutStatus (r : Req) (s : State) : Out := mailboxRow verbOutStatus r s
/-- OUT.CONFIG -/
def execOutConfig (r : Req) (s : State) : Out := mailboxRow verbOutConfig r s
/-- OUT.SET -/
def execOutSet (r : Req) (s : State) : Out := mailboxRow verbOutSet r s
/-- OUT.CLEAR -/
def execOutClear (r : Req) (s : State) : Out := mailboxRow verbOutClear r s
/-- OUT.PARKHOLD -/
def execOutParkhold (r : Req) (s : State) : Out := mailboxRow verbOutParkhold r s
/-- HB.STATUS -/
def execHbStatus (r : Req) (s : State) : Out := mailboxRow verbHbStatus r s
/-- HB.CONFIG -/
def execHbConfig (r : Req) (s : State) : Out := mailboxRow verbHbConfig r s
/-- HB.DRIVE -/
def execHbDrive (r : Req) (s : State) : Out := mailboxRow verbHbDrive r s
/-- HB.CLEAR -/
def execHbClear (r : Req) (s : State) : Out := mailboxRow verbHbClear r s
/-- HB.POSITION -/
def execHbPosition (r : Req) (s : State) : Out := mailboxRow verbHbPosition r s

end Sys2Proof.Machine
end

