-- ==== Sys2Proof/Machine/Fan.lean ====
section
/-! DEFINITION. Machine/Fan.lean: fans and pumps of chapter 13 (R302-R315). -/

namespace Sys2Proof.Machine

/-- A fan: 0-7 external, 8-9 lid. -/
def State.fan (s : State) (n : Nat) : FanCh := tget FanCh.reset s.fans n
/-- Change a fan. -/
def State.modFan (s : State) (n : Nat) (f : FanCh → FanCh) : State := { s with fans := tmod FanCh.reset s.fans n f }
/-- The source a fan posts on (R312, R315). -/
def fanSrc (n : Nat) : Nat := if n < 8 then 176 + n else 4
/-- The host-assisted function of a fan (R313). -/
def fanKey (n : Nat) : Nat := hostKey 0x26 0 n

/-- A lid fan. -/
def isLid (n : Nat) : Bool := n == 8 || n == 9

/-- The fan is driven: bound, or a lid fan of an -L housing (R302, R312). -/
def State.fanOn (s : State) (n : Nat) : Bool := if isLid n then s.part.housing == .l else decide (n < 8) && (s.fan n).bound

/-- Settings in force; a lid fan has Kaulium's. -/
def State.fanCfg (s : State) (n : Nat) : FanCh :=
  let f := s.fan n
  if isLid n then
    { f with mode := 1, tach := true, ppr := max 1 (Config.lidSetting 0), hz := max 1 (Config.lidSetting 1), strMs := Config.lidSetting 2,
             strMax := Config.lidSetting 3, runMin := Config.lidSetting 4, runMax := Config.lidSetting 5, hyst := 4,
             bands := Config.lidBands,
             table := [(fNat 35, fZero), (fNat 45, fFrac 3 10), (fNat 60, fFrac 6 10), (fNat 70, fOne)] }
  else f

/-- FAN drives in KEEPER and RUN (R314). -/
def State.fanRuns (s : State) (n : Nat) : Bool := s.operating && s.fanOn n

/-! ### Demand (R306, R307) -/

/-- Linear interpolation in a table of points, held at the end values (R306). -/
def tableAt (t : F32) : List (F32 × F32) → F32
  | [] => Config.fanNoTable
  | [(_, d)] => d
  | (a, d) :: (b, e) :: l =>
    if fLe t a then d
    else if fLe t b then fAdd d (fMul (fDiv (fSub t a) (fSub b a)) (fSub e d))
    else tableAt t ((b, e) :: l)

/-- The temperature a fan reads and whether its signal is unusable (R306, 21 R472). -/
def State.fanTemp (s : State) (n : Nat) (c : FanCh) : F32 × Bool :=
  let bad (g : Signal) : Bool := !bit g.flags 0 || bit g.flags 1 || bit g.flags 3
  let last := (c.table.getLast?.getD (fZero, fZero)).1
  if isLid n then
    let a := s.sig 0xF9
    let b := s.sig 0xF8
    if bad a || bad b then (last, true) else (fMax a.value (fSub b.value (fNat 30)), false)
  else
    let g := s.sig c.tempSig
    if bad g then (last, true) else (g.value, false)

/-- The temperature held by the hysteresis (R306). -/
def hystTemp (old : Option F32) (t : F32) (h : Nat) : F32 :=
  match old with
  | none => t
  | some th => if fLt th t then t else if fLt t (fSub th (fNat h)) then fAdd t (fNat h) else th

/-- A fan without a working drive or tach (R312). -/
def FanCh.bad (f : FanCh) : Bool := f.blocked || f.phase == 3 || f.tachLost

/-- FAN/SENSOR follows the temperature signal (R306). -/
def State.fanSensor (s : State) (n : Nat) (bad : Bool) : State :=
  let f := s.fan n
  if isLid n || f.sensorBad == bad then s
  else
    let s := s.modFan n (fun f => { f with sensorBad := bad })
    if bad then s.raiseEv 0x26 n (fanSrc n) 0x5304 2 n f.tempSig (s.sig f.tempSig).flags 0 else s.clearFault 0x5304 0x26 n

/-- The demand (R306). -/
def State.fanDemand (s : State) (n : Nat) : State × F32 :=
  let c := s.fanCfg n
  if s.isHost (fanKey n) then (s.fanSensor n false, c.hostDuty)
  else match c.mode with
    | 1 =>
      let (t, bad) := s.fanTemp n c
      let s := s.fanSensor n bad
      let th := hystTemp c.th t c.hyst
      let s := s.modFan n (fun f => { f with th := some th })
      let d := tableAt th c.table
      (s, d)
    | 2 => (s.fanSensor n false, c.cmd)
    | _ => (s.fanSensor n false, fZero)

/-- The resonance bands (R307): strictly inside a band the nearer edge to the last applied duty, hi when equally near. -/
def bandDuty (bands : List (Nat × Nat)) (last d : F32) : F32 :=
  match bands.find? (fun b => fLt (fFrac b.1 100) d && fLt d (fFrac b.2 100)) with
  | none => d
  | some b =>
    let lo := fFrac b.1 100
    let hi := fFrac b.2 100
    if fLt (fAbs (fSub last lo)) (fAbs (fSub hi last)) then lo else hi

/-! ### Applied duty (R308) -/

/-- A protection state of the bound output (R308 case 1, 11 R263). -/
def State.fanProtected (s : State) (n : Nat) : Bool :=
  let f := s.fan n
  !isLid n && (s.outBlocked f.out || s.clampLocked f.out)

/-- Full drive acts (R308 case 4, R312). -/
def State.fanFull (s : State) (n : Nat) : Bool :=
  (s.fan n).causes != 0 || (isLid n && (s.fan (17 - n)).bad)

/-- The output takes the fan's duty at precedence 5 (R302). -/
def State.fanDrive (s : State) (n : Nat) (d : F32) : State :=
  let s := s.modFan n (fun f => { f with duty := d })
  if isLid n then s
  else
    let o := (s.fan n).out
    (s.modOut o (fun c => { c with mailbox := d })).outEval o false

/-- The speed signal of FANn (R305, R311), written from the first measurement on. -/
def State.fanSignal (s : State) (n : Nat) : State :=
  let f := s.fan n
  if isLid n then s
  else if !f.tach then s.setSig (0xE8 + n) fZero s.hw 0
  else if f.bad || f.phase == 2 then s.setSig (0xE8 + n) fZero s.hw fgFault
  else if f.speedAt = 0 then s
  else s.setSig (0xE8 + n) f.speed f.speedAt fgValid

/-- A kick starts (R309): the output on continuously until the first speed, at most 3 s. -/
def State.fanKick (s : State) (n : Nat) : State :=
  (s.modFan n (fun f => { f with phase := 1, kickAt := s.hw, onPhase := true, onAt := s.hw, onLen := 0, edgeAt := none, stretch := false,
                                 surplus := 0 })).fanDrive n
    (if s.fanProtected n then fZero else fOne)

/-- The applied duty is decided (R308), a lid fan's never below its floor (R312); a fan with a tach that leaves duty 0 kicks. A protection state of the output ends a
kick, and the fan kicks again when it leaves duty 0 afterwards. -/
def State.fanDecide (s : State) (n : Nat) : State :=
  let (s, dem) := s.fanDemand n
  let f := s.fan n
  let c := s.fanCfg n
  if s.fanProtected n then (s.modFan n (fun f => { f with phase := if f.phase = 1 then 0 else f.phase })).fanDrive n fZero
  else if f.phase = 2 ∨ f.phase = 3 then s.fanDrive n fZero
  else if f.phase = 1 then s.fanDrive n fOne
  else
    let d := if s.fanFull n then fOne else bandDuty c.bands f.duty dem
    let d := if isLid n then fMax d c.cmd else d
    if c.tach && fEq f.duty fZero && fLt fZero d then s.fanKick n else s.fanDrive n d

/-- The fan controller decides: not through a FAN restart nor a Keeper or Root activation pause, which hold the applied duty (R314). -/
def State.fanActs (s : State) : Bool := s.running 0x26 0 && !s.keeper.paused && s.root.phase != .pause

/-- The full-drive causes change (R308): FAN/FULL_DRIVE at their start and end, and the applied duty follows at once. -/
def State.fanCause (s : State) (n new : Nat) : State :=
  let old := (s.fan n).causes
  let s := s.modFan n (fun f => { f with causes := new })
  let decide (s : State) : State := if s.fanActs && s.fanRuns n then s.fanDecide n else s
  if old = 0 ∧ new ≠ 0 then decide (s.post 0x26 n (fanSrc n) 0x5305 n new 1 0)
  else if old ≠ 0 ∧ new = 0 then decide (s.post 0x26 n (fanSrc n) 0x5305 n old 0 0) else s

/-- A fan that is neither commanded nor host-assisted watches no window: full drive for its heartbeat ends (R308). -/
def State.fanUnwatch (s : State) (n : Nat) : State :=
  if (s.fan n).mode = 2 ∨ s.isHost (fanKey n) then s else s.fanCause n (clearBits (s.fan n).causes 4)

/-- The output current of a fan in mA, as a word. -/
def FanCh.ma (f : FanCh) : Nat := (fRound f.current 1000).toNat

/-- A change of FAN.CONFIG taken at a PWM period (R302). -/
def FanCh.load (f : FanCh) (p : List Byte) : FanCh :=
  { f with mode := u8 p 0, out := u8 p 1, tach := u8 p 2 == 1, ppr := u8 p 3, hz := u16 p 4, strMs := u16 p 6, strMax := u16 p 8,
           tempSig := u16 p 10, hyst := u8 p 12, runMin := u16 p 14, runMax := u16 p 16,
           bands := [(u8 p 18, u8 p 19), (u8 p 20, u8 p 21), (u8 p 22, u8 p 23)], pend := none }

/-- FAN_PWM_PERIOD (R303, R304, R308): a PWM period starts, with the output current in A; an on-phase that a stretch covers
has none of its own, and the surplus of a stretch shortens the following ones. -/
def execFanPwmPeriod (n : Nat) (cur : F32) (s : State) : Out :=
  .next (
    if !s.fanRuns n then s
    else
      let s := s.boundary (241 + 1000 * n) (1000000000 / (s.fanCfg n).hz) 0
      let s := match (s.fan n).pend with
        | some p => (s.modFan n (fun f => { f.load p with tachAt := if f.tach then f.tachAt else s.hw })).fanUnwatch n
        | none => s
      let s := s.modFan n (fun f => { f with current := cur })
      let s := if s.fanActs then s.fanDecide n else s
      let s := s.fanSignal n
      let f := s.fan n
      let T := 1000000000 / (s.fanCfg n).hz
      if fEq f.duty fZero then s.modFan n (fun f => { f with onPhase := false, stretch := false, edgeAt := none })
      else if fLe fOne f.duty then
        if f.onPhase ∧ f.onLen = 0 then s else s.modFan n (fun f => { f with onPhase := true, onAt := s.hw, onLen := 0, edgeAt := none, stretch := false })
      else
        let on := (fRound f.duty T).toNat
        if f.stretch then s.modFan n (fun f => { f with spanned := f.spanned + on })
        else
          let cut := if s.hw < f.strAt + (s.fanCfg n).strMs * 1000000 then min f.surplus on else 0
          s.modFan n (fun f => { f with onPhase := decide (cut < on), onAt := s.hw, onLen := max 1 (on - cut), surplus := f.surplus - cut,
                                        edgeAt := none }))

/-- The fan's supply is on now: continuously, in a stretch, or within the on-phase. An on-phase without a length is
continuous. -/
def State.fanPhaseOn (s : State) (n : Nat) : Bool :=
  let f := s.fan n
  f.onPhase && (f.phase == 1 || f.stretch || f.onLen == 0 || decide (s.hw < f.onAt + f.onLen))

/-- A stretched on-phase ends (R304): its surplus is removed from the following ones. -/
def State.fanStretchEnd (s : State) (n : Nat) : State :=
  s.modFan n (fun f =>
    if f.stretch then { f with stretch := false, surplus := (s.hw - f.onAt) - f.spanned, onLen := max 1 (s.hw - f.onAt) } else f)

/-- A speed is measured (R304, R309-R311): a kick ends, a blocked fault ends, a lost tach is back. -/
def State.fanMeasured (s : State) (n period : Nat) : State :=
  let c := s.fanCfg n
  let f := s.fan n
  let s := s.modFan n (fun f => { f with speed := fFrac 60000000000 (period * c.ppr), speedAt := s.hw, tachAt := s.hw, edgeAt := some s.hw })
  let s := s.fanStretchEnd n
  let s := if f.tachLost then ((s.modFan n (fun f => { f with tachLost := false })).clearFault 0x5303 0x26 n).fanCause n (clearBits f.causes 1) else s
  let s :=
    if f.phase = 1 then
      let s := s.modFan n (fun f => { f with phase := 0, fails := 0, blocked := false, strAt := s.hw, edgeAt := none })
      let s := if f.blocked then s.clearFault 0x5301 0x26 n else s
      if s.fanActs then s.fanDecide n else s
    else s
  s.fanSignal n

/-- FAN_TACH_EDGE (R304): a rising tach edge now; edges outside an on-phase or in its first 1 ms are ignored. -/
def execFanTachEdge (n : Nat) (s : State) : Out :=
  .next (
    let f := s.fan n
    if !s.fanRuns n || !(s.fanCfg n).tach || !s.fanPhaseOn n || decide (s.hw < f.onAt + 1000000) then s
    else match f.edgeAt with
      | none => s.modFan n (fun f => { f with edgeAt := some s.hw })
      | some e => if e < s.hw then s.fanMeasured n (s.hw - e) else s)

/-- FAN_STRETCH (R304): the present on-phase is stretched, once per stretch interval. -/
def execFanStretch (n : Nat) (s : State) : Out :=
  .next (
    let f := s.fan n
    let c := s.fanCfg n
    if !s.fanRuns n || !c.tach || f.phase != 0 || f.stretch || f.onLen == 0 || !s.fanPhaseOn n ||
        decide (s.hw < f.strAt + c.strMs * 1000000) then s
    else s.modFan n (fun f => { f with stretch := true, strAt := f.onAt, spanned := f.onLen, surplus := 0 }))

/-- FAN_STRETCH_MAX (R304). -/
def execFanStretchMax (n : Nat) (s : State) : Out :=
  .next (
    let f := s.fan n
    if !s.fanRuns n || !f.stretch then s
    else (s.waitTo (f.onAt + (s.fanCfg n).strMax * 1000000)).fanStretchEnd n)

/-! ### Start, blockage, loss of tach (R309-R311) -/

/-- The checks of R310 and R311 run: the unit runs and the output is in no protection state. -/
def State.fanChecks (s : State) (n : Nat) : Bool := s.fanRuns n && s.running 0x26 0 && (s.fanCfg n).tach && !s.fanProtected n

/-- The fan is blocked (R310): the drive goes to 0 for 10 s; the fourth failure locks it. -/
def State.fanBlocked (s : State) (n cur stalled : Nat) : State :=
  let k := (s.fan n).fails + 1
  let s := s.modFan n (fun f => { f with fails := k, blocked := true, phase := if k ≥ 4 then 3 else 2, retryAt := s.hw + 10000000000,
                                         onPhase := false, stretch := false, current := fFrac cur 1000 })
  let s := s.raiseEv 0x26 n (fanSrc n) 0x5301 2 n k cur stalled
  let s := if k ≥ 4 then s.raiseEv 0x26 n (fanSrc n) 0x5302 3 n k 0 0 else s
  (s.fanDrive n fZero).fanSignal n

/-- FAN_KICK_TIMEOUT (R310): 3 s without a speed, with the output current in mA. -/
def execFanKickTimeout (n cur : Nat) (s : State) : Out :=
  .next (if s.fanChecks n && (s.fan n).phase == 1 then (s.waitTo ((s.fan n).kickAt + 3000000000)).fanBlocked n cur 0 else s)

/-- FAN_RETRY (R310). -/
def execFanRetry (n : Nat) (s : State) : Out :=
  .next (if s.fanChecks n && (s.fan n).phase == 2 then (s.waitTo (s.fan n).retryAt).fanKick n else s)

/-- FAN_TACH_TIMEOUT (R310, R311): 2 s without a speed while running, with the output current in mA. -/
def execFanTachTimeout (n cur : Nat) (s : State) : Out :=
  .next (
    let f := s.fan n
    let c := s.fanCfg n
    if !s.fanChecks n || f.phase != 0 || fEq f.duty fZero then s
    else
      let s := s.waitTo (f.tachAt + 2000000000)
      if cur > c.runMax then s.fanBlocked n cur 1
      else if c.runMin ≤ cur ∧ !f.tachLost then
        let s := s.modFan n (fun f => { f with tachLost := true, current := fFrac cur 1000 })
        let s := s.raiseEv 0x26 n (fanSrc n) 0x5303 2 n cur (fRound f.speed).toNat 0
        (s.fanCause n (f.causes ||| 1)).fanSignal n
      else s)

/-- FAN_HEARTBEAT_MISSING (R308): Keeper's heartbeat, or the host window's, unchanged for 2 s. -/
def execFanHeartbeatMissing (n : Nat) (host : Bool) (s : State) : Out :=
  .next (
    let f := s.fan n
    if !s.fanRuns n then s
    else if !host then
      (s.waitTo (s.keeper.keeperHbAt + 2000000000)).fanCause n (f.causes ||| 2)
    else match f.cmdWin with
      | some w => if f.mode = 2 ∨ s.isHost (fanKey n) then (s.waitTo ((s.win w).hostHbAt + 2000000000)).fanCause n (f.causes ||| 4) else s
      | none => s)

/-- A heartbeat changed: Keeper's (none) or a window's (R308). -/
def State.fanHeartbeat (s : State) (w : Option Nat) : State :=
  (List.range 10).foldl (fun (s : State) n =>
    let f := s.fan n
    let m := match w with | none => 2 | some _ => 4
    if f.causes &&& m ≠ 0 ∧ (w.isNone ∨ f.cmdWin = w) then s.fanCause n (clearBits f.causes m) else s) s

/-! ### Host assistance (R313) -/

/-- A miss: the safe action is full drive. -/
def State.fanMiss (s : State) (n : Nat) : State :=
  if (s.hostFn (fanKey n)).inSafe then s.fanCause n ((s.fan n).causes ||| 8) else s

/-- The present period of a fan's function: tk is the last multiple of 100 ms. -/
def State.fanPeriod (s : State) (n : Nat) : State :=
  let k := s.hw / 100000000
  s.modHost (fanKey n) (fun h => { h with k := k % 4294967296, tk := k * 100000000, d := 100000000 + s.ckptExt (fanKey n) (k * 100000000), period := 100000000, got := false })

/-- Each period that has passed its deadline without a result is judged before a result is looked at; beyond the miss that brings
the safe action no more of them change anything. One whose deadline a checkpoint stop has moved into the next period stays
awaited (01 R35). -/
def State.fanSync (s : State) (n : Nat) : State :=
  let key := fanKey n
  let h := s.hostFn key
  let passed := min (s.hw / 100000000 - h.tk / 100000000) (h.holdLast + 2)
  if passed = 0 then (if h.prev && decide (h.ptk + h.pd ≤ s.hw) then (s.missPrev key).fanMiss n else s)
  else
    let s := s.hostTurn key (fun s => s.fanMiss n)
    let s := if passed > 1 && (s.hostFn key).prev then (s.missPrev key).fanMiss n else s
    let s := (List.range (passed - 1)).foldl (fun (s : State) _ =>
      ((s.modHost key (fun h => { h with got := false })).hostMiss key).fanMiss n) s
    s.fanPeriod n

/-- FAN has no buffer: only the instance is bounded (R313). -/
def fanModeOk (n : Nat) : Bool := decide (n < 8)

/-! ### Commands (R302, R306, R310, R313) -/

/-- The output is free for the fan (R302). -/
def State.fanFree (s : State) (n o : Nat) : Bool :=
  let c := s.out o
  c.cfg.mode == 1 && (c.bound == 0 || (c.bound == 2 && c.boundBy == n))

/-- Release a fan's output, which keeps commanded value 0, and end its faults. -/
def State.fanUnbind (s : State) (n : Nat) : State :=
  let f := s.fan n
  if !f.bound then s
  else
    let s := s.fanCause n 0
    let s := (s.modOut f.out (fun c => { c with bound := 0, boundBy := 0, mailbox := fZero })).outEval f.out false
    let s := [0x5301, 0x5302, 0x5303, 0x5304].foldl (fun (s : State) c => s.clearFault c 0x26 n) s
    ((s.modFan n (fun _ => { FanCh.reset with table := f.table })).setSig (0xE8 + n) fZero s.hw 0)

/-- The fields of FAN.CONFIG are in range. -/
def fanCfgOk (p : List Byte) : Bool :=
  let band (i : Nat) : Bool := let a := u8 p (18 + 2 * i); let b := u8 p (19 + 2 * i); (a == 0 && b == 0) || decide (a < b ∧ b ≤ 100)
  decide (u8 p 0 ≤ 2 ∧ 4 ≤ u8 p 1 ∧ u8 p 1 ≤ 27 ∧ u8 p 2 ≤ 1 ∧ 1 ≤ u8 p 3 ∧ u8 p 3 ≤ 4 ∧ 20 ≤ u16 p 4 ∧ u16 p 4 ≤ 400 ∧
    100 ≤ u16 p 6 ∧ u16 p 6 ≤ 1000 ∧ 5 ≤ u16 p 8 ∧ u16 p 8 ≤ 100 ∧ (u16 p 10 = 0xFFFF ∨ u16 p 10 < 0x1000) ∧
    (u8 p 0 ≠ 1 ∨ u16 p 10 ≠ 0xFFFF) ∧ 2 ≤ u8 p 12 ∧ u8 p 12 ≤ 10 ∧ u16 p 14 < u16 p 16 ∧ u16 p 16 ≤ 15000) && band 0 && band 1 && band 2

/-- FAN.CONFIG (R302, R312). -/
def verbFanConfig : Verb :=
  { unit := 0x26, verb := 0x10, lenOk := lenIs 24, instOk := instLt 10, query := false, rt := false, perm := none,
    body := fun r s =>
      let p := r.payload
      let n := r.inst
      let f := s.fan n
      let o := u8 p 1
      if n ≥ 8 then (s, stRange, [])
      else if u8 p 0 = 0xFF then ((s.fanUnbind n).dirty, stDone, [])
      else if !fanCfgOk p || (s.out o).cfg.tagged then (s, stRange, [])
      else if u16 p 10 ≠ 0xFFFF ∧ !s.sigReadable r.win (u16 p 10) then (s, stNotPermitted, [])
      else if !s.fanFree n o then (s, stBusy, [])
      else
        let s := if f.bound ∧ f.out ≠ o then
            ((s.modOut f.out (fun c => { c with bound := 0, boundBy := 0, mailbox := fZero })).outEval f.out false).modFan n (fun f => { f with out := o })
          else s
        let s := s.modOut o (fun c => { c with bound := 2, boundBy := n, mailbox := if f.bound ∧ f.out = o then c.mailbox else fZero })
        let s := if f.bound then s.modFan n (fun f => { f with pend := some p })
          else s.modFan n (fun f => { f.load p with bound := true })
        (s.dirty, stDone, []) }

/-- The points of a table. -/
def fanPoints (p : List Byte) : List (F32 × F32) :=
  (List.range ((p.length - 4) / 8)).map (fun i => (f32 p (4 + 8 * i), f32 p (8 + 8 * i)))

/-- Temperatures strictly ascending, duties 0–1. -/
def pointsOk : List (F32 × F32) → Bool
  | [] => true
  | [(t, d)] => fFinite t && isDuty d
  | (t, d) :: (u, e) :: l => fFinite t && isDuty d && fLt t u && pointsOk ((u, e) :: l)

/-- FAN.TABLE (R306, R312). -/
def verbFanTable : Verb :=
  { unit := 0x26, verb := 0x11,
    lenOk := fun r => decide (20 ≤ r.payload.length ∧ r.payload.length ≤ 68) && (r.payload.length - 4) % 8 == 0,
    instOk := instLt 10, query := false, rt := false, perm := none,
    body := fun r s =>
      let t := fanPoints r.payload
      if r.inst ≥ 8 ∨ u8 r.payload 0 ≠ t.length ∨ !pointsOk t then (s, stRange, [])
      else ((s.modFan r.inst (fun f => { f with table := t })).dirty, stDone, []) }

/-- FAN.SET (R306, R312). -/
def verbFanSet : Verb :=
  { unit := 0x26, verb := 0x12, lenOk := lenIs 4, instOk := instLt 10, query := false, rt := true, perm := none,
    body := fun r s =>
      let d := f32 r.payload 0
      let f := s.fan r.inst
      let mode := match f.pend with | some p => u8 p 0 | none => f.mode
      if !isDuty d then (s, stRange, [])
      else if !isLid r.inst && !(f.bound && mode == 2) then (s, stBusy, [])
      else (s.modFan r.inst (fun f => { f with cmd := d, cmdWin := some r.win }), stDone, []) }

/-- FAN.CLEAR (R310). -/
def verbFanClear : Verb :=
  { unit := 0x26, verb := 0x13, lenOk := lenIs 0, instOk := instLt 10, query := false, rt := false, perm := none,
    body := fun r s =>
      if (s.fan r.inst).phase ≠ 3 then (s, stBusy, [])
      else
        let s := (s.modFan r.inst (fun f => { f with fails := 0 })).clearFault 0x5302 0x26 r.inst
        (s.fanKick r.inst, stDone, []) }

/-- FAN.RESULT (R313). -/
def verbFanResult : Verb :=
  { unit := 0x26, verb := 0x21, lenOk := lenIs 8, instOk := instLt 10, query := false, rt := true, perm := none,
    body := fun r s =>
      let n := r.inst
      let key := fanKey n
      let d := f32 r.payload 4
      let h := s.hostFn key
      if !(h.host && h.owner == r.win) || !isDuty d then (s, stRange, [])
      else
        let s := s.fanSync n
        if s.prevInTime key (u32 r.payload 0) then
          let (s, go) := s.prevResult key
          if go then (((s.modFan n (fun f => { f with hostDuty := d })).fanCause n (clearBits (s.fan n).causes 8)), stDone, [])
          else (s, stDone, [])
        else if (s.hostFn key).k ≠ u32 r.payload 0 then
          (s, if u32 r.payload 0 > (s.hostFn key).k then stRange else stDeadline, [])
        else if !s.hostInTime key (u32 r.payload 0) then (s, stDeadline, [])
        else
          let (s, go) := s.hostResult key
          if go then (((s.modFan n (fun f => { f with hostDuty := d })).fanCause n (clearBits (s.fan n).causes 8)), stDone, [])
          else (s, stDone, []) }

/-- FAN.STATUS (R313). -/
def verbFanStatus : Verb :=
  { unit := 0x26, verb := 0x01, lenOk := lenIs 0, instOk := instLt 10, query := true, rt := true, perm := none,
    body := fun r s =>
      let n := r.inst
      let f := s.fan n
      let st := if s.fanOn n && s.fanProtected n then 6 else if f.phase = 3 then 5 else if f.phase = 2 then 4 else if f.phase = 1 then 1
        else if fEq f.duty fZero then 0 else if s.fanFull n then 3 else 2
      (s, stDone, b8 st ++ b8 f.causes ++ b8 f.fails ++ zeros 1 ++ bF f.duty ++ bF f.speed ++ bF f.current) }

/-! ### Restart, trunk start and parts of an image (R314, 19 R422) -/

/-- FAN runs again: the checks resume without a new kick. -/
def State.fanReady (s : State) (dt : Nat) : State :=
  { s with fans := tmap FanCh.reset s.fans (fun f =>
      { f with tachAt := if f.phase = 0 ∧ f.tach then s.hw else f.tachAt, kickAt := if f.phase = 1 then f.kickAt + dt else f.kickAt,
               retryAt := if f.phase = 2 then f.retryAt + dt else f.retryAt }) }

/-- A fan at a trunk start: all settings kept. -/
def FanCh.cold (k : FanCh) : FanCh :=
  let k := match k.pend with | some p => k.load p | none => k
  { FanCh.reset with bound := k.bound, mode := k.mode, out := k.out, tach := k.tach, ppr := k.ppr, hz := k.hz, strMs := k.strMs, strMax := k.strMax,
                     tempSig := k.tempSig, hyst := k.hyst, runMin := k.runMin, runMax := k.runMax, bands := k.bands, table := k.table,
                     cmd := k.cmd, hostDuty := k.hostDuty }

/-- Each fan starts with a kick (R314); a fan without a tach, or in mode 0, has none. -/
def State.fansStart (s : State) (kept : Tab FanCh) : State :=
  let s := { s with fans := tmap FanCh.reset kept FanCh.cold }
  (List.range 10).foldl (fun (s : State) n =>
    if s.fanOn n ∧ (s.fanCfg n).tach ∧ (s.fanCfg n).mode ≠ 0 then s.fanKick n else s) s

/-- A fan-table part replaces the kept tables (19 R422); it applies at the next fan period. -/
def State.fanTablePart (s : State) (data : List Byte) : State :=
  (Config.fanTables data).foldl (fun (s : State) e => if e.1 < 8 then s.modFan e.1 (fun f => { f with table := e.2 }) else s) s

/-- FAN.STATUS -/
def execFanStatus (r : Req) (s : State) : Out := mailboxRow verbFanStatus r s
/-- FAN.CONFIG -/
def execFanConfig (r : Req) (s : State) : Out := mailboxRow verbFanConfig r s
/-- FAN.TABLE -/
def execFanTable (r : Req) (s : State) : Out := mailboxRow verbFanTable r s
/-- FAN.SET -/
def execFanSet (r : Req) (s : State) : Out := mailboxRow verbFanSet r s
/-- FAN.CLEAR -/
def execFanClear (r : Req) (s : State) : Out := mailboxRow verbFanClear r s
/-- FAN.RESULT -/
def execFanResult (r : Req) (s : State) : Out := mailboxRow verbFanResult r s

end Sys2Proof.Machine
end

