-- ==== Sys2Proof/Machine/Strip.lean ====
section
/-! DEFINITION. Machine/Strip.lean: the strip that a cutterbar sweeps and the cells of a Granary grid that it covers (10 R247-R249).
Areas are exact areas of polygons; the sine and cosine of a heading have 48 binary digits, and the plane of the file comes from
Config (log entry 101). -/

namespace Sys2Proof.Machine

/-- A point of a plane, east and north. -/
abbrev Pl := Rat × Rat

/-- Unit vectors of body x and body y at a heading in degrees from north by east. -/
def bodyAxes (h : F32) : Pl × Pl :=
  let r := fRat h
  let (c, s) := turnCosSin (r.num % ((360 * r.den : Nat) : Int)).toNat (360 * r.den)
  let u (v : Int) : Rat := mkRat v (2 ^ 48)
  ((u s, u c), (u c, -u s))

/-- The place of body coordinates x and y at a pose (east, north, heading of the control point). -/
def bodyPlace (p : F32 × F32 × F32) (x y : Rat) : Pl :=
  let (f, r) := bodyAxes p.2.2
  (fRat p.1 + x * f.1 + y * r.1, fRat p.2.1 + x * f.2 + y * r.2)

/-- The cutterbar moved forward along body x between two poses (R248): its middle, along body x of the second. -/
def cutForward (p0 p1 : F32 × F32 × F32) (x y : F32) : Bool :=
  let a := bodyPlace p0 (fRat x) (fRat y)
  let b := bodyPlace p1 (fRat x) (fRat y)
  let f := (bodyAxes p1.2.2).1
  decide (0 < (b.1 - a.1) * f.1 + (b.2 - a.2) * f.2)

/-- The part of a convex polygon where a linear function is not negative. -/
def clipBy (g : Pl → Rat) (l : List Pl) : List Pl :=
  (l.zip (l.rotateLeft 1)).flatMap (fun e =>
    let (a, b) := e
    let ga := g a
    let gb := g b
    let t := ga / (ga - gb)
    (if ga ≥ 0 then [a] else []) ++
      (if decide (ga < 0) != decide (gb < 0) then [(a.1 + t * (b.1 - a.1), a.2 + t * (b.2 - a.2))] else []))

/-- The area of a polygon. -/
def polyArea (l : List Pl) : Rat :=
  let d := (l.zip (l.rotateLeft 1)).foldl (fun (t : Rat) e => t + (e.1.1 * e.2.2 - e.2.1 * e.1.2)) 0
  (if d < 0 then -d else d) / 2

/-- The area of a polygon in the cell (x, y) of a grid of side `r`: east [x·r, (x + 1)·r), north [y·r, (y + 1)·r) (R249). -/
def cellArea (r : Rat) (l : List Pl) (x y : Int) : Rat :=
  polyArea (clipBy (fun p => p.1 - x * r) (clipBy (fun p => (x + 1) * r - p.1)
    (clipBy (fun p => p.2 - y * r) (clipBy (fun p => (y + 1) * r - p.2) l))))

/-- The integers from `a` to `b`. -/
def intRange (a b : Int) : List Int := (List.range (b + 1 - a).toNat).map (fun i => a + (i : Int))

/-- The cells that a polygon meets, with the area in each. -/
def polyCells (r : Rat) (l : List Pl) : List (Int × Int × Rat) :=
  let xs := l.map (fun p => (p.1 / r).floor)
  let ys := l.map (fun p => (p.2 / r).floor)
  let lo (v : List Int) : Int := v.foldl min (v.headD 0)
  let hi (v : List Int) : Int := v.foldl max (v.headD 0)
  ((intRange (lo xs) (hi xs)).flatMap (fun x => (intRange (lo ys) (hi ys)).map (fun y => (x, y, cellArea r l x y)))).filter
    (fun c => decide (0 < c.2.2))

/-- The area that a part of the cutterbar sweeps between two poses: the quadrilateral of its ends, as two triangles. -/
def sweptTriangles (p0 p1 : F32 × F32 × F32) (x : F32) (span : F32 × F32) : List (List Pl) :=
  let pt (p : F32 × F32 × F32) (y : F32) : Pl := bodyPlace p (fRat x) (fRat y)
  [[pt p0 span.1, pt p0 span.2, pt p1 span.2], [pt p0 span.1, pt p1 span.2, pt p1 span.1]]

/-- The side of a cell of a resolution code (R249), m. -/
def cellRat (res : Nat) : Rat := match res with | 0 => mkRat 1 2 | 1 => 1 | _ => 2

/-- The cells that a strip covers, each with its covered area in m² (R247-R249). -/
def stripCells (origin : Option (F64 × F64 × F64)) (file : F64 × F64) (p0 p1 : F32 × F32 × F32) (x : F32) (spans : List (F32 × F32))
    (res : Nat) : List (Int × Int × F32) :=
  let all := (spans.flatMap (sweptTriangles p0 p1 x)).flatMap (fun t => polyCells (cellRat res) (t.map (Config.filePlane origin file)))
  ((all.map (fun c => (c.1, c.2.1))).eraseDups).map (fun k =>
    let a := (all.filter (fun c => c.1 == k.1 && c.2.1 == k.2)).foldl (fun (t : Rat) c => t + c.2.2) 0
    (k.1, k.2, fFrac a.num a.den))

end Sys2Proof.Machine
end

