-- ==== Sys2Proof/Machine/Granary.lean ====
section
/-! DEFINITION. Machine/Granary.lean: yield mapping (10): flow, strips, files and the unit's commands. -/

namespace Sys2Proof.Machine

/-- Change GRANARY. -/
def State.modGran (s : State) (f : Granary → Granary) : State := { s with granary := f s.granary }

/-- The key of the flow function. -/
def granKey : Nat := hostKey 0x43 0 0

/-! ### Flow (R246) -/

/-- The calibration curve: piecewise linear, its end segments extended. -/
def curveAt (c : List (F32 × F32)) (x : F32) : F32 :=
  let n := c.length
  let i := ((List.range (n - 2)).findIdx? (fun i => fLe x (c.getD (i + 1) (0, 0)).1)).getD (n - 2)
  let a := c.getD i (0, 0)
  let b := c.getD (i + 1) (0, 0)
  fAdd a.2 (fMul (fSub b.2 a.2) (fDiv (fSub x a.1) (fSub b.1 a.1)))

/-- The mean of the valid updates of the flow signal in the period, none without one. -/
def flowMean (l : List (F32 × Nat × Nat)) : Option F32 :=
  let v := (l.filter (fun e => bit e.2.1 0)).map (·.1)
  if v.isEmpty then none else some (fDiv (fSum v) (fNat v.length))

/-- The moisture of a period and whether it is the default. -/
def State.granMoist (s : State) : F32 × Bool :=
  let id := s.granary.moistSig
  if id < 0x1000 ∧ s.sigValid id ∧ !bit (s.sig id).flags 1 then ((s.sig id).value, false) else (s.granary.defMoist, true)

/-! ### Strips (R245, R247-R249, R252) -/

/-- The history entry at or before an instant, if the history reaches back to it. -/
def State.granEntry (s : State) (tc : Int) : Option GranHist := s.granary.hist.find? (fun h => decide ((h.stamp : Int) ≤ tc))

/-- The pose at an instant: east, north and heading interpolated linearly between the two entries around it, the heading the
shorter way round (R245). -/
def State.granPose (s : State) (t : Int) : Option (F32 × F32 × F32) :=
  (s.granEntry t).map (fun a =>
    match s.granary.hist.reverse.find? (fun h => decide (t < (h.stamp : Int))) with
    | none => (a.east, a.north, a.heading)
    | some b =>
      let f := fFrac (t - a.stamp) (b.stamp - a.stamp)
      let mix (x y : F32) : F32 := fAdd x (fMul f (fSub y x))
      (mix a.east b.east, mix a.north b.north, fAdd a.heading (fMul f (wrap180 (fSub b.heading a.heading)))))

/-- The lateral spans of the active sections, body y from left to right, all sections side by side and centred on the lateral
offset (R247). -/
def sectionSpans (l : List GranSection) (act : Nat) (yOfs : F32) : List (F32 × F32) :=
  let all := fSum (l.map (·.width))
  let left := fSub yOfs (fDiv all (fNat 2))
  (List.range l.length).filterMap (fun i =>
    let a := fAdd left (fSum ((l.take i).map (·.width)))
    if act.testBit i then some (a, fAdd a (l.getD i GranSection.reset).width) else none)

/-- The first `w` metres of spans, in their order. -/
def keepSpans : F32 → List (F32 × F32) → List (F32 × F32)
  | _, [] => []
  | w, (a, b) :: l =>
    if fLt fZero w then
      let d := fSub b a
      if fLt w d then [(a, fAdd a w)] else (a, b) :: keepSpans (fSub w d) l
    else []

/-- A span seen from the other side. -/
def flipSpan (x : F32 × F32) : F32 × F32 := (fNeg x.2, fNeg x.1)

/-- The spans shortened to `w` from the side away from the crop (R247): side 0 the crop on the left, 1 on the right. -/
def cropSpans (side : Nat) (w : F32) (l : List (F32 × F32)) : List (F32 × F32) :=
  if side = 0 then keepSpans w l else ((keepSpans w (l.reverse.map flipSpan)).map flipSpan).reverse

/-- The width of the active sections. -/
def sectionWidth (l : List GranSection) (act : Nat) : F32 :=
  fSum (((List.range l.length).filter (fun i => act.testBit i)).map (fun i => (l.getD i GranSection.reset).width))

/-- The newest Crown width at or before t_c, no older than 1 s. -/
def State.crownWidth (s : State) (tc : Int) : Option F32 :=
  (s.granary.widths.find? (fun w => decide ((w.1 : Int) ≤ tc))).bind (fun w =>
    if tc - w.1 ≤ 1000000000 then some w.2 else none)

/-- Unmapped mass: the file's total, and GRANARY/UNMAPPED at most once in 10 s. -/
def State.unmapped (s : State) (mass : F32) (cause : Nat) : State :=
  let s := s.modGran (fun g =>
    { g with file := g.file.map (fun f => { f with unmapped := fAdd f.unmapped mass }),
             unmaps := (s.hw, mass) :: g.unmaps.filter (fun e => decide (s.hw < e.1 + 10000000000)) })
  let free : Bool := match s.granary.unmapAt with | none => true | some t => decide (s.hw ≥ t + 10000000000)
  if free && fLt fZero mass then
    let sum := fSum (s.granary.unmaps.map (·.2))
    (s.modGran (fun g => { g with unmapAt := some s.hw })).post 0x43 0 228 0xA004 0 (fRound sum 1000).toNat cause 0
  else s

/-- The swath of a period: width, section fallback. GRANARY/WIDTH_FALLBACK at most once in 10 s. -/
def State.swath (s : State) (tc : Int) (act : Nat) : State × F32 × Bool :=
  let w := sectionWidth s.granary.sections act
  if s.granary.widthSrc = 0 then (s.modGran (fun g => { g with widthUse := 0 }), w, false)
  else match s.crownWidth tc with
    | some c =>
      ((s.modGran (fun g => { g with widthUse := 1 })).clearFault 0xA003 0x43 0, if fLt c w then c else w, false)
    | none =>
      let s := s.modGran (fun g => { g with widthUse := 0 })
      let free : Bool := match s.granary.fallbackAt with | none => true | some t => decide (s.hw ≥ t + 10000000000)
      if free then
        let age : Int := match s.granary.widths.find? (fun x => decide ((x.1 : Int) ≤ tc)) with
          | some x => (tc - x.1) / 1000000 | none => 0xFFFFFFFF
        ((s.modGran (fun g => { g with fallbackAt := some s.hw })).raiseEv 0x43 0 228 0xA003 1 0 s.granary.slot age.toNat 0, w, true)
      else (s, w, true)

/-- The side of a cell, m. -/
def cellSide (res : Nat) : F32 := match res with | 0 => fFrac 1 2 | 1 => fOne | _ => fNat 2

/-- Tiles a strip would create. -/
def GranFile.newTiles (f : GranFile) (cells : List (Int × Int × F32)) : List (Int × Int) :=
  ((cells.map (fun c => (c.1 / 64, c.2.1 / 64))).eraseDups).filter (fun t =>
    !(f.tiles.any (fun x => x.east == t.1 && x.north == t.2)))

/-- Bytes of a file with `n` tiles (R250). -/
def granSize (n : Nat) : Nat := 65792 + 131072 * n

/-- All files of the partition. -/
def State.granFiles (s : State) : List GranFile := s.granary.files ++ (match s.granary.file with | some f => [f] | none => [])

/-- The partition has room for `n` more tiles. -/
def State.granRoom (s : State) (n : Nat) : Bool :=
  decide ((s.granFiles.map (fun f => granSize f.tiles.length)).sum + 131072 * n ≤ atticMiB s.variant 3 * 2 ^ 20)

/-- A cell takes its share of a strip (R248, R249). -/
def GranCell.add (c : GranCell) (side mass area moist : F32) (gap : Bool) (sec flags fix : Nat) : GranCell :=
  let c := { c with mass := fAdd c.mass mass, moist := fAdd c.moist (fMul moist mass),
                    area := if gap then c.area else fAdd c.area area, gap := if gap then fAdd c.gap area else c.gap,
                    first := if c.strips = 0 then sec else c.first, last := sec, strips := satAdd 16 c.strips 1,
                    flags := c.flags ||| flags, fix := if c.strips = 0 then fix else min c.fix fix }
  let over' := fLt (fMul (fMul side side) (fFrac 11 10)) (fAdd c.area c.gap)
  { c with flags := c.flags ||| (if over' then 16 else 0) }

/-- Whole seconds from a file's creation (R249, R250): by Heartwood in the epoch of its creation, by GPS time in a later one (log entry
104). -/
def State.fileSec (s : State) (f : GranFile) : Nat :=
  if f.epoch = s.time.epoch then (s.hw - f.createdHw) / 1000000000
  else (((s.hw : Int) + s.time.gpsOfs - f.created) / 1000000000).toNat

/-- The strip is credited to the cells of the open file. -/
def State.mapStrip (s : State) (cells : List (Int × Int × F32)) (mass moist : F32) (gap : Bool) (flags fix : Nat) : State :=
  match s.granary.file with
  | none => s
  | some f =>
    let total := fSum (cells.map (·.2.2))
    let sec := s.fileSec f
    let tiles := f.tiles ++ (f.newTiles cells).map (fun t => ({ GranTile.reset with east := t.1, north := t.2 } : GranTile))
    let tiles := cells.foldl (fun (ts : List GranTile) c =>
      let key := (64 * (c.2.1 % 64) + c.1 % 64).toNat
      ts.map (fun t => if t.east == c.1 / 64 && t.north == c.2.1 / 64 then
        { t with cells := tmod GranCell.reset t.cells key (fun g =>
                   g.add (cellSide f.res) (fMul mass (fDiv c.2.2 total)) c.2.2 moist gap sec flags fix),
                 changed := some (t.changed.getD s.hw) } else t)) tiles
    s.modGran (fun g => { g with file := some { f with tiles := tiles, area := if gap then f.area else fAdd f.area total } })

/-- A period's mass is mapped to the strip at its cut time, or is unmapped (R245-R248, R252). `valid` says that the period's
flow is valid, `held` that it is a held host result. -/
def State.granMap (s : State) (tk : Nat) (valid held : Bool) (q moist : F32) (default : Bool) : State :=
  if !s.granary.mapping then s
  else
    let g := s.granary
    let mass := if valid then fMul q (fFrac 1 10) else fZero
    let s := s.modGran (fun g => { g with file := g.file.map (fun f => { f with total := fAdd f.total mass }) })
    let tc : Int := (tk : Int) - (g.tau * 100000000 + g.w * 50000000 : Nat)
    match s.granEntry tc, s.granPose (tc - 100000000), s.granPose tc with
    | some e, some p0, some p1 =>
      let (s, w, fallback) := s.swath tc e.sections
      let spans := cropSpans g.side w (sectionSpans g.sections e.sections g.yOfs)
      let cells := match s.granary.file with
        | some f => stripCells s.gnss.origin (f.lat, f.lon) p0 p1 g.xOfs spans f.res
        | none => []
      let need := match s.granary.file with | some f => (f.newTiles cells).length | none => 0
      let have' := match s.granary.file with | some f => f.tiles.length | none => 0
      if !fLt fZero w then (s.modGran (fun g => { g with widthUse := 2 })).unmapped mass 1
      else if e.fix = 0 ∨ e.fix > 5 then s.unmapped mass 2
      else if !cutForward p0 p1 g.xOfs g.yOfs then s.unmapped mass 3
      else if need ≠ 0 ∧ (have' + need > 4096 ∨ !s.granRoom need) then
        let s := if s.granary.full then s
          else (s.modGran (fun g => { g with full := true })).raiseEv 0x43 0 228 0xA006 3 0 have' (if have' + need > 4096 then 1 else 2) 0
        s.unmapped mass 5
      else
        let fl := b2n fallback + 2 * b2n (e.fix == 5) + 4 * b2n held + 8 * b2n default
        s.mapStrip cells mass moist (!valid || held) fl e.fix
    | _, _, _ => s.unmapped mass 4

/-! ### Periods (R243, R246, R256) -/

/-- A configuration of 24 bytes comes into force. -/
def Granary.take (g : Granary) (p : List Byte) : Granary :=
  { g with flowSig := u16 p 0, moistSig := u16 p 2, tau := u16 p 4, w := u16 p 6, widthSrc := u8 p 8, slot := u8 p 9, side := u8 p 10,
           xOfs := f32 p 12, yOfs := f32 p 16, defMoist := f32 p 20, configured := true }

/-- What takes effect at a period end: configuration, sections, curve, correction factor, the opening and the closing of a file
(R253-R255). -/
def State.granTurn (s : State) : State :=
  let s := s.modGran (fun g =>
    let g := match g.pendCfg with | some p => g.take p | none => g
    { g with pendCfg := none, sections := g.pendSec.getD g.sections, pendSec := none, curve := g.pendCurve.getD g.curve,
             pendCurve := none, corr := g.pendCorr.getD g.corr, pendCorr := none })
  let s := match s.granary.opening, s.granary.file with
    | 0, _ => s
    | k, some f => (s.modGran (fun g => { g with opening := 0, mapping := true })).post 0x43 0 228 0xA001 0 f.field k f.tiles.length
    | _, none => s.modGran (fun g => { g with opening := 0 })
  if s.granary.closing.isSome then s.modGran (fun g => { g with stopped := true, mapping := false }) else s

/-- A period's flow was valid or not: FLOW_INVALID after 1 s of invalid periods, until a valid one (R246, R257). -/
def State.flowJudged (s : State) (valid : Bool) : State :=
  if valid then
    (if s.granary.flowBad then s.clearFault 0xA005 0x43 0 else s).modGran (fun g => { g with badRun := 0, flowBad := false })
  else
    let s := s.modGran (fun g => { g with badRun := g.badRun + 1 })
    if s.granary.badRun ≥ 10 ∧ !s.granary.flowBad then
      (s.modGran (fun g => { g with flowBad := true })).raiseEv 0x43 0 228 0xA005 2 0 s.granary.flowSig s.granary.badRun 0 else s

/-- A valid or invalid period of hardware mode (R246); the mean is over those of the last W ÷ 100 ms periods that have a q_raw. -/
def State.granFlow (s : State) (updates : List (F32 × Nat × Nat)) : State :=
  let g := s.granary
  let raw := (if g.curve.length < 2 then none else flowMean updates).map (fun f => fMax (fMul g.corr (curveAt g.curve f)) fZero)
  let s := (s.flowJudged raw.isSome).modGran (fun g => { g with qs := (raw :: g.qs).take 100 })
  let (m, d) := s.granMoist
  match raw with
  | some x =>
    let l := if g.w = 0 then [x] else (s.granary.qs.take g.w).filterMap id
    s.granMap s.hw true false (fDiv (fSum l) (fNat l.length)) m d
  | none => s.granMap s.hw false false fZero m d

/-- The period that awaited its host result is judged, and mapped as its end decided, whatever the file's state is by now. -/
def State.granLate (s : State) (tk : Nat) (valid held : Bool) (q moist : F32) (default : Bool) : State :=
  let on := s.granary.mapping
  (((s.flowJudged valid).modGran (fun g => { g with mapping := g.pendMap })).granMap tk valid held q moist default).modGran (fun g =>
    { g with mapping := on })

/-- The period that awaits its host result runs on a judged miss: the held result, then none (R256). -/
def State.granMiss (s : State) : State :=
  match s.granary.pend with
  | none => s
  | some tk =>
    let safeNow := (s.hostFn granKey).inSafe
    let (q, m, v, d) := s.granary.hostQ
    let s := s.modGran (fun g => { g with pend := none })
    s.granLate tk (!safeNow && v) (!safeNow) q m d

/-- The host flow block of a period (R256, 04 R119): 400 samples, those beyond the updates of the period zero; its first stamp is that
of the first update, 0 without one (log entry 103). -/
def granBlock (k t : Nat) (l : List (F32 × Nat × Nat)) : List Byte :=
  b32 k ++ b32 0 ++ b64 ((l.map (·.2.2)).headD 0) ++ b64 t ++ b64 1 ++ b16 400 ++ b16 8 ++ b32 3200 ++ zeros 24 ++
  (List.range 400).flatMap (fun i => let e := l.getD i (fZero, 0, 0)
    bF e.1 ++ b8 e.2.1 ++ zeros 3)

/-- GRANARY_PERIOD (R243, R246): at a multiple of 100 ms. What a command has left for the period end takes effect after the
period that ends. -/
def execGranaryPeriod (s : State) : Out :=
  .next (
    if !s.running 0x43 0 || !s.trunkOn then s
    else
      let s := s.boundary 160 100000000 0
      let l := s.granary.flow
      let s := s.modGran (fun g => { g with flow := [] })
      if !s.granary.configured then s.granTurn
      else if s.isHost granKey then
        let s := if (s.hostFn granKey).got then s else (s.hostMiss granKey).granMiss
        let k := (s.granary.k + 1) % 2 ^ 32
        let s := (s.hostPeriod granKey s.hw 60000000 100000000).modHost granKey (fun h => { h with k := k })
        let s := s.modGran (fun g => { g with k := k, pend := some s.hw, pendMap := g.mapping, qs := (none :: g.qs).take 100 })
        let b := s.granary.hostBuf
        let p := granBlock k s.hw l
        let d := if k % 2 = 0 then b.a else b.b
        ((s.regionWrite b.win d 0 p).regionDone b.win d b.tag p.length true).granTurn
      else (s.granFlow l).granTurn)

/-! ### The file in the Attic (R250, R251) -/

/-- A cell record (R249). -/
def GranCell.bytes (c : GranCell) : List Byte :=
  if c = GranCell.reset then zeros 32
  else
    let p := bF c.mass ++ bF c.area ++ bF c.moist ++ bF c.gap ++ b32 c.first ++ b32 c.last ++ b16 c.strips ++ b8 c.flags ++ b8 c.fix
    p ++ b32 (crc32 p)

/-- The tiles of a file that have been written or staged. -/
def GranFile.stored (f : GranFile) : List GranTile := f.tiles.filter (fun t => t.sec.isSome)

/-- A file as it is read: its flash copy under what is staged (R250, 20 R439). -/
def GranFile.bytes (f : GranFile) : List Byte :=
  let h i := bF (f.head.getD i fZero)
  let hdr := b32 0x4752414E ++ b16 1 ++ b8 f.res ++ b8 0 ++ b32 f.field ++ b32 f.stored.length ++ bD f.lat ++ bD f.lon ++
    leB 8 (ofSigned 64 f.created) ++ leB 8 (ofSigned 64 f.lastWrite) ++ h 0 ++ h 1 ++ h 2 ++ h 3 ++ zeros 188
  let dir := f.stored.flatMap (fun t =>
    leB 2 (ofSigned 16 t.east) ++ leB 2 (ofSigned 16 t.north) ++ b16 1 ++ b16 0 ++
      b32 (t.sec.getD 0) ++ b32 0)
  hdr ++ b32 (crc32 hdr) ++ dir ++ zeros (65536 - dir.length) ++
    f.stored.flatMap (fun t => (List.range 4096).flatMap (fun i => (tget GranCell.reset (t.stage.getD t.saved) i).bytes))

/-- The header is written with the tiles, or staged with them. -/
def State.granHead (s : State) (f : GranFile) : GranFile :=
  let h := [f.total, f.area, f.unmapped, s.granary.corr]
  let at' := (s.hw : Int) + s.time.gpsOfs
  { f with head := h, lastWrite := at', headFlash := if s.attic.inhibit then f.headFlash else (h, at') }

/-- A tile is delivered to the Attic: to flash, or to the staging area under the inhibit (20 R439); `sec` from the file's creation. -/
def GranTile.write (t : GranTile) (now sec : Nat) (inhibit : Bool) : GranTile :=
  let t := { t with changed := none, written := some now, sec := some sec }
  if inhibit then { t with stage := some t.cells } else { t with saved := t.cells, stage := none, secFlash := some sec }

/-- Staging area, bytes (20 R439). -/
def stageMax : Nat := 256 * 2 ^ 20

/-- A tile of the open file is written; under the inhibit one that does not fit into the staging area stays changed, with
ATTIC/STAGE_FULL (20 R439). -/
def State.granTile (s : State) (t : GranTile) : State :=
  match s.granary.file with
  | none => s
  | some f =>
    let inh := s.attic.inhibit
    if inh ∧ s.attic.staged + 131072 > stageMax then s.raiseEv 0x61 0 229 0xA011 2 3 131072 0 0
    else
      let ts := f.tiles.map (fun x => if x.east == t.east && x.north == t.north then x.write s.hw (s.fileSec f) inh else x)
      let s := s.modGran (fun g => { g with
        file := some { f with tiles := ts }, writes := (s.hw :: g.writes).filter (fun t => decide (s.hw < t + 60000000000)) })
      if inh then s.modAttic (fun a => { a with staged := a.staged + 131072, stagedWrites := a.stagedWrites + 1 }) else s.atticWear 131072

/-- The tiles of the open file that `sel` names are written, and the header with them; nothing while the Attic is read-only or at
fault (log entry 104). -/
def State.granWrite (s : State) (sel : GranTile → Bool) : State :=
  match s.granary.file with
  | none => s
  | some f =>
    if s.attic.readOnly || s.attic.fault then s
    else ((f.tiles.filter sel).foldl State.granTile s).modGran (fun g => { g with file := g.file.map s.granHead })

/-- The tile whose change is oldest. -/
def oldestTile (l : List GranTile) : Option GranTile :=
  l.foldl (fun (a : Option GranTile) t => match a, t.changed with
    | _, none => a
    | none, some _ => some t
    | some x, some c => if c < x.changed.getD 0 then some t else a) none

/-- GRANARY_TILE_WRITE (R251): the tile with the oldest change is written, 60 s after that change and after its last write, within
16 tiles a minute. -/
def execGranaryTileWrite (s : State) : Out :=
  .next (
    match s.granary.file with
    | none => s
    | some f =>
      if !s.running 0x43 0 || !s.trunkOn || s.attic.readOnly || s.attic.fault then s
      else match oldestTile f.tiles with
        | none => s
        | some t =>
          let due := t.changed.getD 0 + 60000000000
          let due := match t.written with | some w => max due (w + 60000000000) | none => due
          let lim := s.granary.writes.filter (fun w => decide (max s.hw due < w + 60000000000))
          let due := if lim.length ≥ 16 then max due (lim.getD 15 0 + 60000000000) else due
          let s := s.waitTo due
          s.granWrite (fun x => x.east == t.east && x.north == t.north))

/-- GRANARY_FILE_CLOSED (R251, R254): every changed tile and the header are written or staged; the close completes once the last tile
is. -/
def execGranaryFileClosed (s : State) : Out :=
  .next (
    match s.granary.closing, s.granary.file with
    | some op, some f =>
      if !s.running 0x43 0 || !s.granary.stopped || !s.trunkOn || s.attic.readOnly || s.attic.fault then s
      else
        let s := s.granWrite (fun t => t.changed.isSome)
        if s.granary.file.any (fun x => x.tiles.any (fun t => t.changed.isSome)) then s
        else
        let s := if s.granary.full then s.clearFault 0xA006 0x43 0 else s
        let s := s.modGran (fun g => { g with files := g.files ++ g.file.toList, file := none, closing := none, stopped := false,
                                              mapping := false, full := false, marked := none })
        s.complete op 0x43 0 228 0xA002 stDone f.field f.tiles.length
    | _, _ => s)

/-- Park entry writes every changed tile and the header (R251, 21 R461 step 2). -/
def State.granPark (s : State) : State := s.granWrite (fun t => t.changed.isSome)

/-- Staged tiles reach the flash, or are lost (20 R439, R441). -/
def GranTile.unstage (t : GranTile) (keep : Bool) : GranTile :=
  match t.stage with
  | none => t
  | some c => if keep then { t with saved := c, stage := none, secFlash := t.sec } else { t with stage := none, sec := t.secFlash }

/-- The staged tiles of every file reach the flash, or are lost. -/
def State.granUnstage (s : State) (keep : Bool) : State :=
  let f (x : GranFile) : GranFile :=
    let x : GranFile := { x with tiles := x.tiles.map (fun t => t.unstage keep) }
    if keep then { x with headFlash := (x.head, x.lastWrite) } else { x with head := x.headFlash.1, lastWrite := x.headFlash.2 }
  s.modGran (fun g => { g with file := g.file.map f, files := g.files.map f })

/-- A file as its flash copy has it: changes since each tile's last write are lost (R251). -/
def GranFile.flash (f : GranFile) : GranFile :=
  let h := f.headFlash.1
  { f with tiles := (f.tiles.filter (fun t => t.secFlash.isSome)).map (fun t =>
             { t with cells := t.saved, stage := none, changed := none, sec := t.secFlash }),
           head := h, lastWrite := f.headFlash.2, total := h.getD 0 fZero, area := h.getD 1 fZero, unmapped := h.getD 2 fZero }

/-- A closed file as it is reopened: as it is read, staged tiles with what was staged. -/
def GranFile.reopen (f : GranFile) : GranFile :=
  { f with tiles := f.stored.map (fun t => { t with cells := t.stage.getD t.saved, changed := none }),
           total := f.head.getD 0 fZero, area := f.head.getD 1 fZero, unmapped := f.head.getD 2 fZero }

/-- The files that ATTIC reads: field ID, open, holding staged tiles, content. -/
def State.granList (s : State) : List (Nat × Bool × Bool × List Byte) :=
  let e (o : Bool) (f : GranFile) := (f.field, o, f.tiles.any (fun t => t.stage.isSome), f.bytes)
  s.granary.files.map (e false) ++ s.granary.file.toList.map (e true)

/-- A closed file is deleted. -/
def State.granDelete (s : State) (id : Nat) : State := s.modGran (fun g => { g with files := g.files.filter (fun f => f.field != id) })

/-! ### Verbs -/

/-- GRANARY.STATUS (R255). -/
def verbGranaryStatus : Verb :=
  { unit := 0x43, verb := 0x01, lenOk := lenIs 0, instOk := inst0, query := true, rt := true, perm := none,
    body := fun _ s =>
      let g := s.granary
      let f := g.file.getD GranFile.reset
      let st := if g.file.isNone then 0 else if g.closing.isSome then 2 else if g.full then 3 else 1
      let span := match g.hist.head?, g.hist.getLast? with | some a, some b => a.stamp - b.stamp | _, _ => 0
      (s, stDone, b8 st ++ b8 g.widthUse ++ b8 f.res ++ b8 0 ++ b32 f.field ++ bF f.total ++ bF f.area ++ bF f.unmapped ++ bF g.corr ++
        b16 f.tiles.length ++ b16 (f.tiles.filter (fun t => t.changed.isSome)).length ++ bF (fFrac span 1000000000)) }

/-- GRANARY.CONFIG (R253). -/
def verbGranaryConfig : Verb :=
  { unit := 0x43, verb := 0x10, lenOk := lenIs 24, instOk := inst0, query := false, rt := false, perm := none,
    body := fun r s =>
      let p := r.payload
      let m := u16 p 2
      let x := f32 p 12
      let y := f32 p 16
      let d := f32 p 20
      let g := s.granary
      if !decide (u16 p 0 < 0x1000 ∧ (m < 0x1000 ∨ m = 0xFFFF) ∧ 80 ≤ u16 p 4 ∧ u16 p 4 ≤ 200 ∧ u16 p 6 ≤ 100 ∧ u8 p 8 ≤ 1 ∧
            (u8 p 8 = 0 ∨ u8 p 9 ≤ 15) ∧ u8 p 10 ≤ 1) ||
          !(fLe (fInt (-5)) x && fLe x (fNat 20) && fLe (fInt (-10)) y && fLe y (fNat 10) && fLe fZero d && fLe d (fNat 50)) then
        (s, stRange, [])
      else if !s.sigReadable r.win (u16 p 0) || !(m == 0xFFFF || s.sigReadable r.win m) then (s, stNotPermitted, [])
      else if u8 p 8 = 1 ∧ !unitFitted s.variant 0x42 then (s, stNotFitted, [])
      else if u8 p 8 = 1 ∧ !(s.slot (u8 p 9)).decl.types.contains 3 then (s, stRange, [])
      else if g.file.isSome ∧ (u16 p 4 ≠ g.tau ∨ u16 p 6 ≠ g.w) then (s, stBusy, [])
      else ((s.modGran (fun g => { g with pendCfg := some p })).dirty, stDone, []) }

/-- GRANARY.SECTIONS (R253). -/
def verbGranarySections : Verb :=
  { unit := 0x43, verb := 0x11,
    lenOk := fun r => let n := u8 r.payload 0
      decide (1 ≤ n ∧ n ≤ 13) && r.payload.length == 4 + 8 * n,
    instOk := inst0, query := false, rt := false, perm := none,
    body := fun r s =>
      let p := r.payload
      let n := u8 p 0
      let f := u8 p 1
      let T := u8 p 2
      let g := s.granary
      let l := (List.range n).map (fun i => ({ sig := u16 p (4 + 8 * i), width := f32 p (8 + 8 * i) } : GranSection))
      let fields := decide (1 ≤ T ∧ T ≤ 16) && l.all (fun x => (x.sig == 0xFFFF || decide (x.sig < 0x1000)) &&
        fLe (fFrac 1 10) x.width && fLe x.width (fNat 20))
      let fits := decide (f + n ≤ T) && (f == 0 || (f == g.building.length && T == g.buildTotal))
      if !fits then (s.modGran (fun g => { g with building := [], buildTotal := 0 }), stRange, [])
      else if !fields then (s, stRange, [])
      else if !l.all (fun x => x.sig == 0xFFFF || s.sigReadable r.win x.sig) then (s, stNotPermitted, [])
      else
        let b := if f = 0 then l else g.building ++ l
        if b.length < T then (s.modGran (fun g => { g with building := b, buildTotal := T }), stDone, [])
        else
          let s := s.modGran (fun g => { g with building := [], buildTotal := 0 })
          if fLe (fSum (b.map (·.width))) (fNat 60) then ((s.modGran (fun g => { g with pendSec := some b })).dirty, stDone, [])
          else (s, stRange, []) }

/-- GRANARY.CALIB (R253). -/
def verbGranaryCalib : Verb :=
  { unit := 0x43, verb := 0x12,
    lenOk := fun r => let n := u8 r.payload 0
      decide (2 ≤ n ∧ n ≤ 8) && r.payload.length == 4 + 8 * n,
    instOk := inst0, query := false, rt := false, perm := none,
    body := fun r s =>
      let p := r.payload
      let l := (List.range (u8 p 0)).map (fun i => (f32 p (4 + 8 * i), f32 p (8 + 8 * i)))
      if l.all (fun e => fFinite e.1 && fFinite e.2) && (List.range (l.length - 1)).all (fun i =>
          fLt (l.getD i (0, 0)).1 (l.getD (i + 1) (0, 0)).1) then
        ((s.modGran (fun g => { g with pendCurve := some l })).dirty, stDone, [])
      else (s, stRange, []) }

/-- GRANARY.OPEN (R254): also of the file that is open; of one that is being closed it is BUSY (log entry 105). -/
def verbGranaryOpen : Verb :=
  { unit := 0x43, verb := 0x13, lenOk := lenIs 28, instOk := inst0, query := false, rt := false, perm := none,
    body := fun r s =>
      let p := r.payload
      let lat := f64 p 8
      let lon := f64 p 16
      let g := s.granary
      if !decide (u8 p 4 ≤ 2) || !(dFinite lat && dFinite lon) then (s, stRange, [])
      else if let some o := g.file then
        if o.field ≠ u32 p 0 then (s, stBusy, [])
        else if o.res ≠ u8 p 4 ∨ o.lat ≠ lat ∨ o.lon ≠ lon then (s, stRange, [])
        else if g.closing.isSome then (s, stBusy, [])
        else ((s.modGran (fun g => { g with opening := if g.opening = 0 then 2 else g.opening })).dirty, stDone, [])
      else match g.files.find? (fun f => f.field == u32 p 0) with
        | some f =>
          if f.res ≠ u8 p 4 ∨ f.lat ≠ lat ∨ f.lon ≠ lon then (s, stRange, [])
          else ((s.modGran (fun g => { g with file := some f.reopen, files := g.files.erase f, opening := 2, full := false })).dirty, stDone, [])
        | none =>
          let f : GranFile := { GranFile.reset with field := u32 p 0, res := u8 p 4, lat := lat, lon := lon,
                                                    created := (s.hw : Int) + s.time.gpsOfs, createdHw := s.hw, epoch := s.time.epoch }
          ((s.modGran (fun g => { g with file := some f, opening := 1, full := false })).dirty, stDone, []) }

/-- GRANARY.CLOSE (R254). -/
def verbGranaryClose : Verb :=
  { unit := 0x43, verb := 0x14, lenOk := lenIs 0, instOk := inst0, query := false, rt := false, perm := none,
    body := fun r s =>
      if s.granary.file.isNone || s.granary.closing.isSome then (s, stBusy, [])
      else ((s.modGran (fun g => { g with closing := some { win := r.win, tag := r.tag } })).dirty, stAccepted, []) }

/-- GRANARY.CORRECT (R255). -/
def verbGranaryCorrect : Verb :=
  { unit := 0x43, verb := 0x15, lenOk := lenIs 8, instOk := inst0, query := false, rt := false, perm := none,
    body := fun r s =>
      let p := r.payload
      let total := ((s.granary.file.map (·.total))).getD fZero
      if u8 p 0 = 0 then (s.modGran (fun g => { g with marked := some total }), stDone, [])
      else if u8 p 0 > 1 then (s, stRange, [])
      else match s.granary.marked with
        | none => (s, stBusy, [])
        | some m =>
          let c := fDiv (fMul (s.granary.pendCorr.getD s.granary.corr) (f32 p 4)) (fSub total m)
          if fLe (fFrac 1 2) c && fLe c (fNat 2) then ((s.modGran (fun g => { g with pendCorr := some c })).dirty, stDone, [])
          else (s, stRange, []) }

/-- GRANARY.HOSTBUF (R256). -/
def verbGranaryHostbuf : Verb :=
  { unit := 0x43, verb := 0x20, lenOk := lenIs 4, instOk := inst0, query := false, rt := false, perm := none,
    body := fun r s =>
      let a := u8 r.payload 0
      let b := u8 r.payload 1
      match s.regionCheck r.win a 3264, s.regionCheck r.win b 3264 with
      | none, none =>
        if s.isHost granKey || (s.hostFn granKey).pending == some true then (s, stBusy, [])
        else ((s.modGran (fun g => { g with hostBuf := { set := true, win := r.win, tag := r.tag, a := a, b := b } })).dirty, stDone, [])
      | some st, _ => (s, st, [])
      | none, some st => (s, st, []) }

/-- The condition KEEPER.MODE adds for GRANARY (R256). -/
def State.granModeOk (s : State) : Bool :=
  let b := s.granary.hostBuf
  let fits (d : Nat) : Bool := (s.region b.win d).present && decide ((s.region b.win d).size ≥ 3264)
  b.set && fits b.a && fits b.b

/-- GRANARY.RESULT (R256). -/
def verbGranaryResult : Verb :=
  { unit := 0x43, verb := 0x21, lenOk := lenIs 16, instOk := inst0, query := false, rt := true, perm := none,
    body := fun r s =>
      let p := r.payload
      let h := s.hostFn granKey
      let k := u32 p 0
      let q := f32 p 4
      let m := f32 p 8
      if !(h.host && h.owner == r.win) || k == 0 || h.k == 0 || decide (k > h.k) || !(fLe fZero q && fLe q (fNat 100)) ||
          !(fIsNan m || fFinite m) then (s, stRange, [])
      else if !s.hostInTime granKey k then (s, stDeadline, [])
      else
        let (s, go) := s.hostResult granKey
        match s.granary.pend with
        | none => (s, stDone, [])
        | some tk =>
          let s := s.modGran (fun g => { g with pend := none })
          let dm := fIsNan m
          let mo := if dm then s.granary.defMoist else m
          if go then
            let s := s.modGran (fun g => { g with hostQ := (q, mo, bit (u8 p 12) 0, dm) })
            (s.granLate tk (bit (u8 p 12) 0) false q mo dm, stDone, [])
          else (s.granLate tk false false fZero mo dm, stDone, []) }

/-! ### Restart and trunk start (R257, R254) -/

/-- After a unit restart: the history is empty; configuration, file and tiles stay, and so does the count of writes in a minute. -/
def Granary.restart (g : Granary) : Granary :=
  { g with hist := [], widths := [], qs := [], flow := [], badRun := 0, pend := none, unmaps := [], stopped := false,
           building := [], buildTotal := 0 }

/-- A close in progress ends with UNIT_RESTARTED; the file stays open. -/
def State.granAbort (s : State) : State :=
  match s.granary.closing with
  | none => s
  | some op =>
    let s := s.modGran (fun g => { g with closing := none, stopped := false, mapping := true })
    s.complete op 0x43 0 228 0xA002 stRestarted ((s.granary.file.map (·.field)).getD 0) ((s.granary.file.map (·.tiles.length)).getD 0)

/-- At a trunk start: the kept configuration; the files as their flash copies; an open file is reopened. -/
def Granary.cold (kept cur : Granary) : Granary :=
  { kept.restart with file := cur.file.map GranFile.flash, files := cur.files, closing := none, full := false, flowBad := false, k := 0,
                      fallbackAt := none, unmapAt := none, opening := if cur.file.isSome then 2 else 0, mapping := false,
                      sections := kept.pendSec.getD kept.sections, hostQ := (0, 0, false, false), writes := cur.writes,
                      corr := kept.pendCorr.getD kept.corr, pendCorr := none }

/-- GRANARY.STATUS -/
def execGranaryStatus (r : Req) (s : State) : Out := mailboxRow verbGranaryStatus r s
/-- GRANARY.CONFIG -/
def execGranaryConfig (r : Req) (s : State) : Out := mailboxRow verbGranaryConfig r s
/-- GRANARY.SECTIONS -/
def execGranarySections (r : Req) (s : State) : Out := mailboxRow verbGranarySections r s
/-- GRANARY.CALIB -/
def execGranaryCalib (r : Req) (s : State) : Out := mailboxRow verbGranaryCalib r s
/-- GRANARY.OPEN -/
def execGranaryOpen (r : Req) (s : State) : Out := mailboxRow verbGranaryOpen r s
/-- GRANARY.CLOSE -/
def execGranaryClose (r : Req) (s : State) : Out := mailboxRow verbGranaryClose r s
/-- GRANARY.CORRECT -/
def execGranaryCorrect (r : Req) (s : State) : Out := mailboxRow verbGranaryCorrect r s
/-- GRANARY.HOSTBUF -/
def execGranaryHostbuf (r : Req) (s : State) : Out := mailboxRow verbGranaryHostbuf r s
/-- GRANARY.RESULT -/
def execGranaryResult (r : Req) (s : State) : Out := mailboxRow verbGranaryResult r s

end Sys2Proof.Machine
end

