-- ==== Sys2Proof/Machine/Attic.lean ====
section
/-! DEFINITION. Machine/Attic.lean: the Attic's partitions, files and settings records, its transfers, temperature inhibit,
staging and wear, the kept-configuration record, and the Larder (20). -/

namespace Sys2Proof.Machine

/-- Change the LARDER unit. -/
def State.modLarder (s : State) (f : Larder → Larder) : State := { s with larder := f s.larder }

/-- The active part can read the record (R436, 19 R431): a class A record of a Canopy owner whose version is above the
highest its part reads is withheld. -/
def State.readable (s : State) (f : AtticFile) : Bool :=
  f.inst != 5 || f.cls != 1 ||
    match s.activeSet.parts.find? (fun p => p.kind == 3 && p.pid + 0x10 == f.owner) with
    | some p => decide (f.version ≤ p.recHigh)
    | none => true

/-- The file or readable record of an ID. -/
def State.fileOf (s : State) (inst id : Nat) : Option AtticFile :=
  (s.attic.files.filter (fun f => f.inst == inst && f.id == id && s.readable f)).getLast?

/-- The files after a committed write of a CANOPY file, or of a settings record: the new record replaces the records of
its key that the active part can read and leaves a withheld one (R435, R436). -/
def State.withFile (s : State) (f : AtticFile) : List AtticFile :=
  s.attic.files.filter (fun g => !(g.inst == f.inst && g.id == f.id && s.readable g)) ++ [f]

/-- Kept-state and file writes are staged and not yet durable (R439). -/
def State.hasStaged (s : State) : Bool := s.attic.stagedWrites != 0

/-- The hold-up store is tested at a trunk start (R442); a store that cannot carry 80 ms raises ATTIC/FAULT. The test's result is
free (log entry 207). -/
def State.holdupTest (s : State) : State :=
  let (n, s) := s.drawNat
  if n % 2 = 1 then (s.modAttic (fun a => { a with weak := true })).raiseEv 0x61 0 229 0xA015 4 0 2 (Config.senseCode 2) 0
  else if s.attic.weak then (s.modAttic (fun a => { a with weak := false })).clearFault 0xA015 0x61 0
  else s

/-- A change of the file list commits: to flash, or to the staging area under the inhibit (R435, R439). -/
def State.commitFiles (s : State) (files : List AtticFile) (n : Nat) : State :=
  if s.attic.inhibit then
    s.modAttic (fun a => { a with files := files, staged := a.staged + n, stagedWrites := a.stagedWrites + 1 })
  else (s.modAttic (fun a => { a with files := files, flash := files })).atticWear n

/-- ATTIC.STATUS: bytes used of a partition. -/
def State.atticUsed (s : State) (inst : Nat) : Nat :=
  let setBytes := fun (b : BootSet) => (b.parts.map (fun p => p.data.length)).sum
  match inst with
  | 0 => setBytes s.graft.slotA
  | 1 => setBytes s.graft.slotB
  | 2 => s.graft.inc.header.length + (s.graft.inc.pieces.map (fun p => p.2.length)).sum
  | 3 => (s.granList.map (fun g => g.2.2.2.length)).sum
  | 4 => 64 * (1048576 + 65536)
  | _ => ((s.attic.files.filter (fun f => f.inst == inst)).map (fun f => f.data.length)).sum

/-- The listed files of an instance: ID, owner, flags, version, size (R434, ATTIC.LIST). Withheld records are not listed. -/
def State.atticEntries (s : State) (inst : Nat) : List (Nat × Nat × Nat × Nat × Nat) :=
  if inst = 3 then s.granList.map (fun g => (g.1, 0xFF, b2n g.2.1 + 4 * b2n g.2.2.1, 0, g.2.2.2.length))
  else (s.attic.files.filter (fun f => f.inst == inst && s.readable f)).map (fun f =>
    (f.id, f.owner, (if f.cls = 2 then 2 else 0) + (if f.staged then 4 else 0), f.version, f.data.length))

/-- The instances that take file verbs (R433). -/
def fileInst : Nat → Bool := fun i => i == 3 || i == 5 || i == 6

/-- ATTIC.STATUS. -/
def verbAtticStatus : Verb :=
  { unit := 0x61, verb := 0x01, lenOk := lenIs 0, instOk := instLt 7, query := true, rt := true, perm := none,
    body := fun r s =>
      let a := s.attic
      let size := atticMiB s.variant r.inst
      (s, stDone, b8 (if a.fault then 3 else if a.readOnly then 2 else if a.inhibit then 1 else 0) ++ b8 a.wear ++
        b16 (s.atticEntries r.inst).length ++ b32 size ++ b32 (size - (s.atticUsed r.inst + 2 ^ 20 - 1) / 2 ^ 20) ++
        b32 (a.staged / 1024) ++ bF a.temp ++ b64 a.written) }

/-- ATTIC.LIST. -/
def verbAtticList : Verb :=
  { unit := 0x61, verb := 0x02, lenOk := lenIs 4, instOk := fileInst, query := true, rt := false, perm := none,
    body := fun r s =>
      let l := s.atticEntries r.inst
      let first := u32 r.payload 0
      (s, stDone, b32 l.length ++ b32 first ++ ((l.drop first).take 6).flatMap (fun e =>
        b32 e.1 ++ b8 e.2.1 ++ b8 e.2.2.1 ++ b16 e.2.2.2.1 ++ b64 e.2.2.2.2)) }

/-- ATTIC.READ (R435, R73): starts a read into a region; it returns the content as it stands now. -/
def verbAtticRead : Verb :=
  { unit := 0x61, verb := 0x10, lenOk := lenIs 16, instOk := fileInst, query := true, rt := false, perm := none,
    body := fun r s =>
      let d := u8 r.payload 0
      let id := u32 r.payload 4
      let len := u32 r.payload 12
      if len = 0 ∨ len > 16777216 then (s, stRange, [])
      else match s.regionCheck r.win d len with
        | some st => (s, st, [])
        | none =>
          let content := if r.inst = 3 then (s.granList.find? (fun g => g.1 == id)).map (fun g => g.2.2.2)
            else (s.fileOf r.inst id).map (fun f => f.data)
          let ver := if r.inst = 3 then (if s.granList.any (fun g => g.1 == id && g.2.2.1) then 2 ^ 31 else 0)
            else match s.fileOf r.inst id with
              | some f => f.version + 65536 * f.cls + (if f.staged then 2 ^ 31 else 0) | none => 0
          let s := s.regionBegin r.win d r.tag true
          (s.modAttic (fun a => { a with transfers := a.transfers ++
            [{ op := { win := r.win, tag := r.tag }, write := false, inst := r.inst, id := id, desc := d,
               ofs := u32 r.payload 8, len := len, old := content, oldVer := ver }] }), stAccepted, []) }

/-- ATTIC.WRITE (R434-R436, R73): starts a write from a region. -/
def verbAtticWrite : Verb :=
  { unit := 0x61, verb := 0x11, lenOk := lenIs 16, instOk := fileInst, query := false, rt := false, perm := none,
    body := fun r s =>
      let d := u8 r.payload 0
      let id := u32 r.payload 4
      let ofs := u32 r.payload 8
      let len := u32 r.payload 12
      let cls := bits ofs 17 16
      let cur := s.fileOf r.inst id
      if r.inst = 3 then (s, stRange, [])
      else if r.inst = 5 ∧ (len > 65536 ∨ cls = 0 ∨ cls = 3) then (s, stRange, [])
      else if r.inst = 5 ∧ cls = 2 ∧ r.win ≠ 0 then (s, stNotPermitted, [])
      else if s.attic.files.any (fun f => f.inst == r.inst && f.id == id && f.owner != r.win) then (s, stNotPermitted, [])
      else if r.inst = 6 ∧ ofs > (match cur with | some f => f.data.length | none => 0) then (s, stRange, [])
      else match s.regionCheck r.win d len with
        | some st => (s, st, [])
        | none =>
          let s := s.regionBegin r.win d r.tag false
          (s.modAttic (fun a => { a with transfers := a.transfers ++
            [{ op := { win := r.win, tag := r.tag }, write := true, inst := r.inst, id := id, desc := d,
               trunc := bit (u8 r.payload 1) 0, ofs := ofs, len := len }] }), stAccepted, []) }

/-- ATTIC.DELETE (R434). -/
def verbAtticDelete : Verb :=
  { unit := 0x61, verb := 0x12, lenOk := lenIs 4, instOk := fileInst, query := false, rt := false, perm := none,
    body := fun r s =>
      let id := u32 r.payload 0
      if r.inst = 3 then
        match s.granList.find? (fun g => g.1 == id) with
        | none => (s, stRange, [])
        | some g =>
          if g.2.1 then (s, stBusy, [])
          else if s.attic.readOnly then (s, stLocked, [])
          else (s.granDelete id, stDone, [])
      else match s.fileOf r.inst id with
        | none => (s, stRange, [])
        | some f =>
          if f.owner ≠ r.win then (s, stNotPermitted, [])
          else if s.attic.readOnly then (s, stLocked, [])
          else (s.commitFiles (s.attic.files.filter (fun g => !(g.inst == r.inst && g.id == id && s.readable g))) 0, stDone, []) }

/-- A write commits (R435, R439, R443): the status, the bytes moved and P3. -/
def State.commitWrite (s : State) (t : Transfer) : State × Nat × Nat × Nat :=
  let new := s.regionRead t.op.win t.desc 0 t.len
  let cur := (s.fileOf t.inst t.id)
  let old := match cur with | some f => f.data | none => []
  let ver := if t.inst = 5 then t.ofs % 2 ^ 18 else 0
  let data := if t.inst = 5 then new
    else
      let w := overwrite old t.ofs new
      if t.trunc then w.take (t.ofs + t.len) else w
  let f : AtticFile := { inst := t.inst, id := t.id, owner := match cur with | some g => g.owner | none => t.op.win,
                         cls := ver / 65536, version := ver % 65536, data := data, staged := s.attic.inhibit }
  if s.attic.readOnly then (s, stLocked, 0, 0)
  else if s.attic.inhibit ∧ s.attic.staged + t.len > stageMax then
    (s.raiseEv 0x61 t.inst 229 0xA011 2 t.inst t.len 0 0, stTemp, 0, 0)
  else if s.atticUsed t.inst + data.length - old.length > atticMiB s.variant t.inst * 2 ^ 20 then (s, stRange, 0, 0)
  else if t.inst = 6 ∧ t.ofs > old.length then (s, stRange, 0, 0)
  else (s.commitFiles (s.withFile f) t.len, stDone, t.len, ver + (if s.attic.inhibit then 2 ^ 31 else 0))

/-- A read completes (R435): into the region, or OUT_OF_RANGE for an absent file or beyond its end. -/
def State.finishRead (s : State) (t : Transfer) : State × Nat × Nat × Nat :=
  match t.old with
  | none => (s, stRange, 0, 0)
  | some c =>
    if t.ofs + t.len > c.length then (s, stRange, 0, 0)
    else (s.regionWrite t.op.win t.desc 0 (slice c t.ofs t.len), stDone, t.len, t.oldVer)

/-- ATTIC_DONE (R435): a running transfer completes. -/
def execAtticDone (index : Nat) (s : State) : Out :=
  .next (
    match s.attic.transfers[index]? with
    | none => s
    | some t =>
      if !s.running 0x61 0 then s
      else
        let s := s.modAttic (fun a => { a with transfers := a.transfers.eraseIdx index })
        let (s, st, moved, p3) := if t.write then s.commitWrite t else s.finishRead t
        let s := s.regionEnd t.op.win t.desc moved
        s.complete t.op 0x61 t.inst 229 0xA014 st moved p3)

/-- Staged writes go to flash in the order of their staging (R439). Answers the bytes written. -/
def State.flushStage (s : State) : State × Nat :=
  let n := s.attic.staged
  let files := s.attic.files.map (fun f => { f with staged := false })
  (((s.granUnstage true).modAttic (fun a =>
    { a with files := files, flash := files, keptFlash := s.kept, staged := 0, stagedWrites := 0 })).atticWear n, n)

/-- Staged writes are lost: reads see the flash again, and the last kept record written there stands (R437). -/
def State.dropStage (s : State) : State :=
  (({ s with kept := s.attic.keptFlash } : State).granUnstage false).modAttic (fun a =>
    { a with files := a.flash, staged := 0, stagedWrites := 0 })

/-- The temperature starts or ends the write inhibit (R438): below -25 or above +85 starts it, 10 s within -22 to +82 ends
it. -/
def State.inhibitStep (s : State) (temp : Int) : State :=
  let p2 := ofSigned 32 temp
  if !s.attic.inhibit then
    if temp < -250 ∨ temp > 850 then
      (s.modAttic (fun a => { a with inhibit := true, okSince := none })).raiseEv 0x61 0 229 0xA010 2 0 1 p2 s.attic.staged
    else s
  else if -220 ≤ temp ∧ temp ≤ 820 then
    match s.attic.okSince with
    | none => s.modAttic (fun a => { a with okSince := some s.hw })
    | some t =>
      if s.hw ≥ t + 10000000000 then
        let s := s.modAttic (fun a => { a with inhibit := false, okSince := none })
        let (s, n) := s.flushStage
        (s.post 0x61 0 229 0xA010 0 0 p2 n).clearFault 0xA010 0x61 0
      else s
  else s.modAttic (fun a => { a with okSince := none })

/-- ATTIC_TEMP_SAMPLE (R438, 21 R465): every 1 s, `temp` in 0.1 °C. -/
def execAtticTempSample (temp : Int) (s : State) : Out :=
  .next (if s.trunkOn && s.running 0x71 0 then
      let s := s.boundary 378 1000000000 0
      let v := fFrac temp 10
      let s := (s.modAttic (fun a => { a with temp := v })).setSig 0x0FA v s.hw fgValid
      s.inhibitStep temp
    else s)

/-- ATTIC_STAGE_LOST (R440): after 30 min of the park-entry drain the staged writes are discarded. -/
def execAtticStageLost (s : State) : Out :=
  .next (
    match s.attic.drainAt with
    | none => s
    | some t =>
      if !s.hasStaged ∨ s.power.parkStep ≠ 3 then s
      else
        let s := s.waitTo (t + 1800000000000)
        let b := s.attic.staged
        let w := s.attic.stagedWrites
        (s.dropStage).raiseEv 0x61 0 229 0xA012 4 0 b w 0)

/-! ### Kept configuration (R437) -/

/-- The record of the configuration as it stands. -/
def State.keptNow (s : State) : Kept :=
  { epoch := s.time.epoch, sensing := s.sensing, valve := s.valve, gnss := s.gnss, imu := s.imu, cam := s.cam,
    crown := s.crown, granary := s.granary, outs := s.outs, swin := s.swin, body := s.body, fans := s.fans,
    plate := s.plate, can := s.can, eth := s.eth, nm := s.nm, ctrl := s.ctrl, power := s.power,
    timeRole := (s.time.role, s.time.priority1) }

/-- Keeper writes its kept-configuration record, under the inhibit to the staging area; a read-only Attic takes it no more, and the
last one written stands (R443). Its length in flash is not stated; it is not counted as wear (log entry 202). -/
def State.writeKept (s : State) : State :=
  if s.attic.readOnly then { s with keptDirty := none, keptAt := some s.hw }
  else ({ s with kept := some s.keptNow, keptDirty := none, keptAt := some s.hw } : State).modAttic (fun a =>
    if a.inhibit then { a with stagedWrites := a.stagedWrites + 1 } else { a with keptFlash := some s.keptNow })

/-- KEPT_CONFIG_WRITE (R437): within 1 s of the first change, at most once per second, in KEEPER and RUN. -/
def execKeptConfigWrite (s : State) : Out :=
  .next (
    match s.keptDirty with
    | none => s
    | some _ =>
      if s.operating && s.running 1 0 then
        (match s.keptAt with | some t => s.waitTo (t + 1000000000) | none => s).writeKept
      else s)

/-! ### The Larder (R444-R449) -/

/-- Ring capacities (R445). -/
def ringCap (strong : Bool) : Nat := if strong then 65536 else 1048576

/-- A record lies in its slot of the Attic. -/
def Larder.store (l : Larder) (r : LarderRec) : Larder :=
  if r.strong then { l with strong := tset LarderRec.reset l.strong (r.seq % ringCap true) r }
  else { l with general := tset LarderRec.reset l.general (r.seq % ringCap false) r }

/-- The buffer is written to the Attic. -/
def State.flushLarder (s : State) : State :=
  let n := s.larder.buffer.length
  (s.modLarder (fun l => { (l.buffer.foldl Larder.store l) with buffer := [] })).atticWear (64 * n)

/-- LARDER/BUFFER_DROP reports the records displaced or dropped (R446). -/
def State.reportDrops (s : State) : State :=
  if s.larder.dropNew = 0 then s
  else
    let n := s.larder.dropNew
    let m := s.larder.dropNewS
    (s.modLarder (fun l => { l with dropNew := 0, dropNewS := 0 })).raiseEv 0x62 0 230 0xA023 3 0 n m 0

/-- LARDER_BUFFER_FLUSH (R446): except under the write inhibit; at 100 % wear the LARDER partition still takes records. -/
def execLarderBufferFlush (s : State) : Out :=
  .next (if s.trunkOn && s.running 0x62 0 then (if s.attic.inhibit then s else s.flushLarder).reportDrops else s)

/-- The 64 bytes of a record (R444). -/
def larderBytes (r : LarderRec) : List Byte :=
  let p := b32 r.seq ++ b16 r.code ++ b8 r.unit ++ b8 (r.sev + (if r.strong then 16 else 0) + (if r.dropped then 32 else 0)) ++
    b32 r.opSec ++ b32 r.cycle ++ (List.range 5).flatMap (fun i => b32 (r.params.getD i 0)) ++ b16 r.inst ++ b16 0 ++
    b64 r.stamp ++ b32 r.occ ++ b32 r.count ++ b32 0
  p ++ b32 (crc32 p)

/-- Slot `seq` of a region as the copy reaches it: the buffer's record of that slot, else the Attic's, else zeros (R447). -/
def Larder.slot (l : Larder) (strong : Bool) (seq : Nat) : List Byte :=
  let k := seq % ringCap strong
  match (l.buffer.filter (fun r => r.strong == strong && r.seq % ringCap strong == k)).getLast? with
  | some r => larderBytes r
  | none =>
    match tfind (if strong then l.strong else l.general) k with
    | some r => larderBytes r
    | none => zeros 64

/-- The oldest sequence of a region (R447). -/
def Larder.oldest (l : Larder) (strong : Bool) : Nat :=
  let n := if strong then l.cntS else l.cntG
  let newest := if strong then l.seqS else l.seqG
  if n > ringCap strong then (newest + 2 ^ 32 + 1 - ringCap strong) % 2 ^ 32 else 1

/-- LARDER.CLEAR is locked out (R448). -/
def State.clearLocked (s : State) : Bool :=
  match s.larder.lockAt with | some t => decide (s.power.opNs < t + 3600000000000) | none => false

/-- Consecutive refusals so far (R448): a lock that has run its 60 min leaves none. -/
def State.refusalsNow (s : State) : Nat := if s.larder.lockAt.isSome && !s.clearLocked then 0 else s.larder.refusals

/-- LARDER.STATUS. -/
def verbLarderStatus : Verb :=
  { unit := 0x62, verb := 0x01, lenOk := lenIs 0, instOk := inst0, query := true, rt := true, perm := none,
    body := fun _ s =>
      let l := s.larder
      (s, stDone, b32 (l.oldest false) ++ b32 l.seqG ++ b32 (l.oldest true) ++ b32 l.seqS ++ b32 s.time.epoch ++
        b32 l.drops ++ b16 l.buffer.length ++ b8 (5 - s.refusalsNow) ++ b8 0) }

/-- LARDER.READ (R447): starts the copy of records by sequence. One copy runs at a time (log entry 204). -/
def verbLarderRead : Verb :=
  { unit := 0x62, verb := 0x02, lenOk := lenIs 12, instOk := inst0, query := true, rt := false, perm := none,
    body := fun r s =>
      let d := u8 r.payload 0
      let reg := u8 r.payload 1
      let n := u32 r.payload 8
      if reg > 1 ∨ n = 0 then (s, stRange, [])
      else match s.regionCheck r.win d (64 * n) with
        | some st => (s, st, [])
        | none =>
          if s.larder.read.isSome then (s, stBusy, [])
          else
            let s := s.regionBegin r.win d r.tag true
            (s.modLarder (fun l => { l with read := some { op := { win := r.win, tag := r.tag }, desc := d,
                                                            strong := reg == 1, first := u32 r.payload 4, count := n } }),
             stAccepted, []) }

/-- LARDER_READ_DONE (R447): the copy completes. -/
def execLarderReadDone (s : State) : Out :=
  .next (
    match s.larder.read with
    | none => s
    | some c =>
      if !s.running 0x62 0 then s
      else
        let recs := (List.range c.count).flatMap (fun i => s.larder.slot c.strong ((c.first + i) % 2 ^ 32))
        let s := s.modLarder (fun l => { l with read := none })
        let s := (s.regionWrite c.op.win c.desc 0 recs).regionEnd c.op.win c.desc (64 * c.count)
        s.complete c.op 0x62 0 230 0xA020 stDone c.count (if c.strong then s.larder.seqS else s.larder.seqG))

/-- LARDER.CHALLENGE (R448): a random challenge, valid 600 s of operating time for one LARDER.CLEAR. -/
def verbLarderChallenge : Verb :=
  { unit := 0x62, verb := 0x10, lenOk := lenIs 0, instOk := inst0, query := false, rt := false, perm := none,
    body := fun _ s =>
      let (c, s) := s.drawNat
      let c := c % 2 ^ 32
      (s.modLarder (fun l => { l with challenge := some (c, s.power.opNs) }), stDone, b32 c ++ b32 600) }

/-- The token of a clear (R448): the first 16 bytes of HMAC-SHA-256 over serial, challenge, scope and limit. -/
def larderToken (serial challenge scope limit : Nat) : List Byte :=
  (hmacSha256 Config.larderKey (b64 serial ++ b32 challenge ++ b8 scope ++ b32 limit)).take 16

/-- A refused clear: counted, recorded in the Strongroom, locked for 60 min after the fifth (R448). -/
def State.clearRefuse (s : State) (chal scope limit : Nat) : State :=
  let n := s.refusalsNow + 1
  let s := s.modLarder (fun l => { l with refusals := n, lockAt := if n ≥ 5 then some s.power.opNs else none })
  let s := s.post 0x62 0 230 0xA022 0 (5 - n) 0 0
  (s.raise 0xA022 0x62 0 1 [chal, scope, limit, s.larder.seqG]).1

/-- LARDER.CLEAR (R448, R449); it spends the challenge whatever its outcome. -/
def verbLarderClear : Verb :=
  { unit := 0x62, verb := 0x11, lenOk := lenIs 32, instOk := inst0, query := false, rt := false, perm := none,
    body := fun r s =>
      let scope := u8 r.payload 0
      let chal := u32 r.payload 4
      let limit := u32 r.payload 8
      let known := match s.larder.challenge with
        | some (c, t) => c == chal && decide (s.power.opNs < t + 600000000000)
        | none => false
      let s := s.modLarder (fun l => { l with challenge := none })
      if s.clearLocked then (s, stLocked, [])
      else if scope ≠ 1 ∧ scope ≠ 2 then (s, stRange, [])
      else if s.larder.clear.isSome then (s, stBusy, [])
      else if !known || slice r.payload 16 16 != larderToken s.part.serial chal scope limit then
        (s.clearRefuse chal scope limit, stAuth, [])
      else
        let newest := s.larder.seqG
        let newS := s.larder.seqS
        let s := s.larderWrite 0xA021 0x62 0 0 true false [chal, scope, limit, newest, 0] s.hw 0 1
        (s.modLarder (fun l => { l with refusals := 0, lockAt := none,
                                         clear := some { op := { win := r.win, tag := r.tag }, scope := scope, limit := limit,
                                                         newG := newest, newS := newS } }),
         stAccepted, []) }

/-- Sequence `a` is at or below `b`, modulo 2^32 (R447). -/
def seqLe (a b : Nat) : Bool := decide ((b + 2 ^ 32 - a) % 2 ^ 32 < 2 ^ 31)

/-- LARDER_CLEARED (R449): the slots in scope are zeroed and the clear completes. Records still in the buffer are cleared
with them. -/
def execLarderCleared (s : State) : Out :=
  .next (
    match s.larder.clear with
    | none => s
    | some c =>
      if !s.running 0x62 0 then s
      else
        let hit := fun (r : LarderRec) =>
          if r.strong then c.scope == 2 && r.unit != 0x62 && seqLe r.seq c.newS
          else (c.limit == 0xFFFFFFFF || seqLe r.seq c.limit) && seqLe r.seq c.newG
        let l := s.larder
        let n := (l.general.filter (fun e => hit e.2)).length + (l.strong.filter (fun e => hit e.2)).length +
          (l.buffer.filter hit).length
        let s := s.modLarder (fun l =>
          { l with general := l.general.filter (fun e => !hit e.2), strong := l.strong.filter (fun e => !hit e.2),
                   buffer := l.buffer.filter (fun r => !hit r), clear := none })
        s.complete c.op 0x62 0 230 0xA021 stDone n c.scope)

/-- LARDER_CLEAR_LOCK_END (R448): 60 min of operating time after the fifth refusal. -/
def execLarderClearLockEnd (s : State) : Out :=
  .next (
    match s.larder.lockAt with
    | none => s
    | some t =>
      if !s.operating then s
      else (s.waitOp (t + 3600000000000)).modLarder (fun l => { l with lockAt := none, refusals := 0 }))

/-- ATTIC.STATUS. -/
def execAtticStatus (r : Req) (s : State) : Out := mailboxRow verbAtticStatus r s
/-- ATTIC.LIST. -/
def execAtticList (r : Req) (s : State) : Out := mailboxRow verbAtticList r s
/-- ATTIC.READ. -/
def execAtticRead (r : Req) (s : State) : Out := mailboxRow verbAtticRead r s
/-- ATTIC.WRITE. -/
def execAtticWrite (r : Req) (s : State) : Out := mailboxRow verbAtticWrite r s
/-- ATTIC.DELETE. -/
def execAtticDelete (r : Req) (s : State) : Out := mailboxRow verbAtticDelete r s
/-- LARDER.STATUS. -/
def execLarderStatus (r : Req) (s : State) : Out := mailboxRow verbLarderStatus r s
/-- LARDER.READ. -/
def execLarderRead (r : Req) (s : State) : Out := mailboxRow verbLarderRead r s
/-- LARDER.CHALLENGE. -/
def execLarderChallenge (r : Req) (s : State) : Out := mailboxRow verbLarderChallenge r s
/-- LARDER.CLEAR. -/
def execLarderClear (r : Req) (s : State) : Out := mailboxRow verbLarderClear r s

end Sys2Proof.Machine
end

