-- ==== Sys2Proof/Machine/Root.lean ====
section
/-! DEFINITION. Machine/Root.lean: the Root control block, the watchdog, Root faults, safe-off lines, reflex rules and Root
flags, and the Root link (18). The Root control block is reached while Root runs; the rows of its registers are Root's own
writes. -/

namespace Sys2Proof.Machine

/-- Change Root. -/
def State.modRoot (s : State) (f : Root → Root) : State := { s with root := f s.root }

/-- Root executes: its control block can be written. -/
def State.rootRuns (s : State) : Bool := s.trunkOn && s.root.phase == .running

/-- The safe-off lines asserted: by SAFEOFF or held by the Cellar (R398). -/
def Root.lines (r : Root) : Nat := r.safeoff ||| r.cellarHold

/-! ### Reflex terms and rules (R399-R403) -/

/-- Word `w` of a rule record. -/
def Root.ruleWord (r : Root) (rule w : Nat) : Nat := tget 0 r.rules (8 * rule + w)

/-- The 32 bytes of a rule record. -/
def Root.ruleBytes (r : Root) (rule : Nat) : List Byte := (List.range 8).flatMap (fun w => b32 (r.ruleWord rule w))

/-- A rule record read from its bytes (R399). -/
structure RuleRec where
  terms : List Nat
  inv : Nat
  comb : Nat
  flags : Nat
  flag : Nat
  outs : Nat
  action : Nat
  banks : Nat

/-- The fields of a rule record. -/
def ruleOf (p : List Byte) : RuleRec :=
  { terms := [u8 p 0, u8 p 1, u8 p 2, u8 p 3], inv := u8 p 4, comb := u8 p 5, flags := u8 p 6, flag := u8 p 7,
    outs := u32 p 8 + 2 ^ 32 * u32 p 12 + 2 ^ 64 * u32 p 16, action := u8 p 20, banks := u8 p 21 }

/-- The value of a term, the Root flags taken from `flags` (R399). -/
def State.term (s : State) (flags t : Nat) : Bool :=
  if t < 0x30 then (tget Sw.reset s.swin.sw t).state
  else if t < 0x40 then (tget FreqCh.reset s.sensing.freq (t - 0x30)).term
  else if t < 0x80 then (tget HpMatch.reset (tget CanCh.reset s.can.ch ((t - 0x40) / 8)).hpms ((t - 0x40) % 8)).term
  else if t < 0xA0 then flags.testBit (t - 0x80)
  else false

/-- The values of a rule's four terms before inversion, as bits. -/
def State.ruleTerms (s : State) (flags : Nat) (q : RuleRec) : Nat :=
  (List.range 4).foldl (fun a i => if q.terms.getD i 0xFF ≠ 0xFF ∧ s.term flags (q.terms.getD i 0xFF) then a + 2 ^ i else a) 0

/-- The value of a rule: its used terms, each XOR its inversion bit, combined by AND or OR (R401). -/
def State.ruleValue (s : State) (flags : Nat) (q : RuleRec) : Bool :=
  let vs := (List.range 4).filterMap (fun i =>
    if q.terms.getD i 0xFF = 0xFF then none else some (xor (s.term flags (q.terms.getD i 0xFF)) (q.inv.testBit i)))
  if q.comb = 0 then vs.all id else vs.any id

/-- The check code with which an enable is refused, 0 when accepted (R400). -/
def ruleCheck (p : List Byte) : Nat :=
  let q := ruleOf p
  if crc32 (p.take 24) ≠ u32 p 24 then 1
  else if q.terms.all (· == 0xFF) || q.terms.any (fun t => t != 0xFF && decide (t ≥ 0xA0)) then 2
  else if (q.action == 0 && q.banks == 0 && q.flag == 0xFF) || ((q.action == 1 || q.action == 2) && q.outs == 0) then 3
  else if q.flag ≥ 32 ∧ q.flag ≠ 0xFF then 4
  else if q.action = 2 ∧ bits q.outs 79 72 ≠ 0 then 5
  else if q.action > 2 ∨ q.comb > 1 ∨ q.inv > 15 ∨ q.flags > 1 ∨ q.banks > 63 ∨ q.outs ≥ 2 ^ 80 ∨ u16 p 22 ≠ 0 ∨
    u32 p 28 ≠ 0 then 6
  else 0

/-- A rule takes or leaves its hold on its outputs, bridges and banks (R401). -/
def State.ruleAct (s : State) (r : Nat) (q : RuleRec) (on : Bool) : State :=
  let upd := fun (l : List Nat) => if on then (if l.contains r then l else l ++ [r]) else l.erase r
  let s := if q.action = 0 then s else
    { s with
        outs.ch := (List.range 72).foldl (fun t o => if q.outs.testBit o then tmod OutCh.reset t o (fun c =>
          if q.action = 1 then { c with ruleOff := upd c.ruleOff } else { c with ruleOn := upd c.ruleOn }) else t) s.outs.ch,
        outs.hb := (List.range 8).foldl (fun t b => if q.outs.testBit (72 + b) then tmod Hb.reset t b (fun c =>
          { c with ruleOff := upd c.ruleOff }) else t) s.outs.hb }
  { s with valve.banks := (List.range 6).foldl (fun t b => if q.banks.testBit b then tmod ValveBank.reset t b (fun c =>
      { c with cutRules := upd c.cutRules }) else t) s.valve.banks }

/-- REFLEX/RULE of a rule whose event flag is set: at most once per 1 ms, with the changes since the last posting (R403). -/
def State.ruleEvent (s : State) (r : Nat) (q : RuleRec) : State :=
  let st := tget RuleSt.reset s.root.ruleSt r
  let due : Bool := match st.postedAt with | none => true | some t => decide (s.hw ≥ t + 1000000)
  if q.flags.testBit 0 ∧ st.changes > 0 ∧ due then
    let s := s.post 0x51 r (239 + r / 8) 0xB101 r (b2n st.active) st.changes st.terms
    s.modRoot (fun x => { x with ruleSt := tmod RuleSt.reset x.ruleSt r (fun y =>
      { y with changes := 0, postedAt := some s.hw }) })
  else s

/-- One rule in one reflex cycle, with the flags as they stood at its start (R401). -/
def State.ruleCycle (flags : Nat) (s : State) (r : Nat) : State :=
  if !s.root.ruleEn.testBit r then s
  else
    let q := ruleOf (s.root.ruleBytes r)
    let v := s.ruleValue flags q
    let tv := s.ruleTerms flags q
    let old := (tget RuleSt.reset s.root.ruleSt r).active
    let s := s.modRoot (fun x => { x with ruleSt := tmod RuleSt.reset x.ruleSt r (fun y => { y with terms := tv }) })
    let s := if v = old then s
      else
        (s.ruleAct r q v).modRoot (fun x => { x with ruleSt := tmod RuleSt.reset x.ruleSt r (fun y =>
          { y with active := v, activations := if v then satAdd 32 y.activations 1 else y.activations, changeAt := s.us,
                   changes := y.changes + 1 }) })
    let s := if v ∧ q.flag < 32 then s.modRoot (fun x => { x with flags := x.flags ||| 2 ^ q.flag }) else s
    s.ruleEvent r q

/-- One reflex cycle: every enabled rule is evaluated; flags set in it are terms from the next cycle (R401, R402). Rules
run only in KEEPER and RUN. -/
def State.reflexCycle (s : State) : State :=
  if s.operating then ((List.range 64).foldl (State.ruleCycle s.root.flags) s).refreshGates else s

/-- REFLEX_RULE_CHANGE (R401): a term has changed; the cycle evaluates every enabled rule. -/
def execReflexRuleChange (s : State) : Out := .next s.reflexCycle

/-- FLAGS_SET (R402). -/
def execFlagsSetWrite (value : Nat) (s : State) : Out :=
  .next (if s.rootRuns then s.modRoot (fun x => { x with flags := x.flags ||| (value % 2 ^ 32) }) else s)

/-- The flags that rules set in the cycle of a clear: those of enabled rules active with the cleared flags taken at 0
before inversion (R402). -/
def State.clearSets (s : State) (cleared : Nat) : Nat :=
  (List.range 64).foldl (fun a r =>
    if s.root.ruleEn.testBit r then
      let q := ruleOf (s.root.ruleBytes r)
      if q.flag < 32 ∧ s.ruleValue (clearBits s.root.flags cleared) q then a ||| 2 ^ q.flag else a
    else a) 0

/-- FLAGS_CLR (R402): the clear, overridden for a flag that a rule still active on its other terms sets. -/
def execFlagsClrWrite (value : Nat) (s : State) : Out :=
  .next (if s.rootRuns then
      s.modRoot (fun x => { x with
        flags := clearBits x.flags (value % 2 ^ 32) ||| (if s.operating then s.clearSets (value % 2 ^ 32) else 0) })
    else s)

/-- RULE record word (R400): ignored while the rule is enabled. -/
def execRuleRecordWrite (rule word value : Nat) (s : State) : Out :=
  .next (if s.rootRuns && decide (rule < 64) && decide (word < 8) && !s.root.ruleEn.testBit rule then
      s.modRoot (fun x => { x with rules := tset 0 x.rules (8 * rule + word) (value % 2 ^ 32) })
    else s)

/-- One bit of RULE_EN as written (R400). -/
def State.ruleEnable (word value : Nat) (s : State) (i : Nat) : State :=
  let r := 32 * word + i
  let cur := s.root.ruleEn.testBit r
  let want := value.testBit i
  if want = cur then s
  else if want then
    let code := ruleCheck (s.root.ruleBytes r)
    if code = 0 then s.modRoot (fun x => { x with ruleEn := setBit x.ruleEn r true,
                                                  ruleSt := tset RuleSt.reset x.ruleSt r RuleSt.reset })
    else (s.modRoot (fun x => { x with ruleErr := r + 256 * code })).post 0x51 r (239 + r / 8) 0xB102 r code 0 0
  else
    ((s.ruleAct r (ruleOf (s.root.ruleBytes r)) false).modRoot (fun x =>
      { x with ruleEn := setBit x.ruleEn r false,
               ruleSt := tmod RuleSt.reset x.ruleSt r (fun y =>
                 if y.active then { y with active := false, changeAt := s.us, changes := y.changes + 1 } else y) })).ruleEvent r
      (ruleOf (s.root.ruleBytes r))

/-- RULE_EN (R400): newly set bits are checked and enabled or recorded in RULE_ERR, cleared bits end their actions. -/
def execRuleEnWrite (word value : Nat) (s : State) : Out :=
  .next (if s.rootRuns && decide (word < 2) then
      ((List.range 32).foldl (State.ruleEnable word (value % 2 ^ 32)) s).refreshGates
    else s)

/-- STUCK (R389, R405): write 1 to clear. -/
def execStuckW1c (word value : Nat) (s : State) : Out :=
  .next (if s.rootRuns && decide (word < 3) then
      s.modRoot (fun x => { x with stuck := clearBits x.stuck (value % 2 ^ 32 * 2 ^ (32 * word)) })
    else s)

/-- SAFEOFF (R398). -/
def execSafeoffWrite (value : Nat) (s : State) : Out :=
  .next (if s.rootRuns then (s.modRoot (fun x => { x with safeoff := value % 2 ^ 29 })).refreshGates else s)

/-- A release is allowed: WD_CFG.LOCK is set and a service has been accepted since this Root start (R395). -/
def Root.mayRelease (r : Root) : Bool := r.wdLock && decide (r.services ≥ 1)

/-- CELLAR_HOLD (R395): write 1 to release. -/
def execCellarHoldRelease (value : Nat) (s : State) : Out :=
  .next (
    let rel := s.root.cellarHold &&& (value % 2 ^ 29)
    if s.rootRuns && s.root.mayRelease && rel != 0 then
      ((s.modRoot (fun x => { x with cellarHold := clearBits x.cellarHold rel })).refreshGates).post 0x50 0 236 0xB004 0 2 rel 0
    else s)

/-- SAFE_STATE bit 0 (R395): releases TAGGED_OFF. -/
def execTaggedOffRelease (s : State) : Out :=
  .next (if s.rootRuns && s.root.mayRelease && s.root.taggedOff then
      ((s.modRoot (fun x => { x with taggedOff := false })).refreshGates).post 0x50 0 236 0xB004 0 1 0 0
    else s)

/-- FAULTCUT, a plain register of the block (R389). -/
def State.faultcutWrite (s : State) (value : Nat) : State :=
  if s.rootRuns then s.modRoot (fun x => { x with faultcut := value % 2 ^ 29 }) else s

/-- FAULTMAP word (R404). -/
def State.faultmapWrite (s : State) (i value : Nat) : State :=
  if s.rootRuns && decide (i < 32) then s.modRoot (fun x => { x with faultmap := tset 0xFFFF00FF x.faultmap i (value % 2 ^ 32) })
  else s

/-- RULE_ACT0-1 as one 64-bit set. -/
def Root.ruleActs (r : Root) : Nat := bitSet ((List.range 64).filter (fun k => (tget RuleSt.reset r.ruleSt k).active))

/-- What an aligned word of the Root control block reads at offset `ofs` (R389): reserved offsets and write-only registers
read zero. -/
def State.blockRead (s : State) (ofs : Nat) : Nat :=
  let r := s.root
  let word := fun (v i : Nat) => v / 2 ^ (32 * i) % 2 ^ 32
  match ofs with
  | 0x000 => 0x5A520001
  | 0x004 => r.startCause + 65536 * r.starts
  | 0x010 => b2n r.wdLock * 2 ^ 31 + r.tmin * 65536 + r.tmax
  | 0x014 => r.chal
  | 0x01C => r.services + 65536 * ((s.hw - r.serviceAt) / 1000000 % 65536)
  | 0x020 => r.safeoff
  | 0x024 => r.lines
  | 0x028 => r.faultcut
  | 0x02C => r.cellarHold
  | 0x030 => r.flags
  | 0x03C => b2n r.taggedOff
  | 0x040 => r.mon
  | 0x048 => s.keeper.keeperHb
  | 0x050 => word s.tagsWord 0
  | 0x054 => word s.tagsWord 1
  | 0x058 => word s.tagsWord 2
  | 0x060 => word r.stuck 0
  | 0x064 => word r.stuck 1
  | 0x068 => word r.stuck 2
  | 0x070 => word r.ruleEn 0
  | 0x074 => word r.ruleEn 1
  | 0x078 => word r.ruleActs 0
  | 0x07C => word r.ruleActs 1
  | 0x080 => r.ruleErr
  | n =>
    if n % 4 ≠ 0 then 0
    else if 0x100 ≤ n ∧ n < 0x180 then tget 0xFFFF00FF r.faultmap ((n - 0x100) / 4)
    else if 0x800 ≤ n ∧ n < 0x1000 then tget 0 r.rules ((n - 0x800) / 4)
    else 0

/-! ### The Root link (R406-R410) -/

/-- A connection. -/
def State.link (s : State) (c : Nat) : LinkConn := tget LinkConn.reset s.root.links c

/-- Change a connection. -/
def State.modLink (s : State) (c : Nat) (f : LinkConn → LinkConn) : State :=
  s.modRoot (fun x => { x with links := tmod LinkConn.reset x.links c f })

/-- A connection enters its safe state (R409): safe data delivered, its Root flag set, ROOT/LINK_SAFE raised, whose Larder
record goes to the Strongroom. -/
def State.linkSafe (s : State) (c cause : Nat) : State :=
  let k := s.link c
  let s := s.modLink c (fun k => { k with state := 4, cause := cause, data := k.safeData, discAt := none })
  let s := if k.flag < 32 then s.modRoot (fun x => { x with flags := x.flags ||| 2 ^ k.flag }) else s
  s.raiseEv 0x50 c 237 0xB010 5 c k.id cause k.lastSeq

/-- A discard of the first three kinds: counted; a second within E of the first applies the safe state (R408). -/
def State.linkDiscard (s : State) (c at_ : Nat) : State :=
  let k := s.link c
  let s := s.modLink c (fun k => { k with discarded := (k.discarded + 1) % 2 ^ 32 })
  if k.state = 4 then s
  else match k.discAt with
    | some t => if at_ ≤ t + k.eMs * 1000000 then s.linkSafe c 3 else s.modLink c (fun k => { k with discAt := some at_ })
    | none => s.modLink c (fun k => { k with discAt := some at_ })

/-- The size, identity and CRC of a message are right (R408). -/
def linkValid (k : LinkConn) (m : List Byte) : Bool :=
  u8 m 6 == k.n && (if k.udp then m.length == 12 + k.n else decide (m.length ≥ 12 + k.n)) &&
  u32 m 0 == k.id && linkCrc k.id (m.take (8 + k.n)) == u32 m (8 + k.n)

/-- ROOT_LINK_MESSAGE (R408, R409): the checks in order, judged on the posting instant `at_`. ROOT/LINK_SAFE is a fault
with the connection as its instance, and ends at the connection's ROOT/LINK_OK (R412). -/
def execRootLinkMessage (conn : Nat) (msg : List Byte) (at_ : Nat) (s : State) : Out :=
  .next (
    let k := s.link conn
    if !s.rootRuns || !k.rx || k.id == 0 || k.state == 0 then s
    else if !linkValid k msg then s.linkDiscard conn at_
    else if k.state = 4 then s
    else
      let seq := u16 msg 4
      if k.state = 1 then s.modLink conn (fun k => { k with state := 2, lastSeq := seq, lastAt := at_ })
      else
        let d := (seq + 65536 - k.lastSeq) % 65536
        if d = 0 then s.modLink conn (fun k => { k with reps := (k.reps + 1) % 2 ^ 32 })
        else if d > k.gap then s.linkSafe conn 2
        else
          let s := s.modLink conn (fun k =>
            { k with state := 3, lastSeq := seq, lastAt := at_, accepted := (k.accepted + 1) % 2 ^ 32,
                     data := slice msg 8 k.n })
          if k.state = 2 then
            (s.post 0x50 0 237 0xB011 conn k.id k.lastSeq 0).clearFault 0xB010 0x50 conn
          else s)

/-- ROOT_LINK_TIMEOUT (R408): no message accepted with a posting instant within E. -/
def execRootLinkTimeout (conn : Nat) (s : State) : Out :=
  .next (
    let k := s.link conn
    if s.rootRuns && k.rx && k.id != 0 && decide (1 ≤ k.state ∧ k.state ≤ 3) then
      (s.waitTo (k.lastAt + k.eMs * 1000000)).linkSafe conn 1
    else s)

/-- The CAN FD data length that carries `n` bytes (R406). -/
def fdLength (n : Nat) : Nat :=
  if n ≤ 8 then n else if n ≤ 12 then 12 else if n ≤ 16 then 16 else if n ≤ 20 then 20 else if n ≤ 24 then 24
  else if n ≤ 32 then 32 else if n ≤ 48 then 48 else 64

/-- A Root link message (R406, R407). -/
def linkMessage (k : LinkConn) (data : List Byte) : List Byte :=
  let body := b32 k.id ++ b16 k.txSeq ++ b8 k.n ++ b8 0 ++ slice data 0 k.n
  let m := body ++ b32 (linkCrc k.id body)
  if k.udp then m else m ++ zeros (fdLength m.length - m.length)

/-- ROOT_LINK_TX (R407): at its period a transmit connection sends the data its Root application gives. -/
def execRootLinkTx (conn : Nat) (data : List Byte) (s : State) : Out :=
  .next (
    let k := s.link conn
    if s.rootRuns && !k.rx && k.id != 0 && k.state == 3 then
      let s := s.waitTo k.nextTx
      s.modLink conn (fun k =>
        { k with txData := slice data 0 k.n, txSeq := (k.txSeq + 1) % 65536, nextTx := s.hw + k.periodMs * 1000000,
                 sent := (linkMessage k data :: k.sent).take 4 })
    else s)

/-- ROOT_LINK_REARM (R409): the application re-arms a connection; the first valid message then sets the base. A transmit
connection, which is never told OK, leaves its fault here. -/
def execRootLinkRearm (conn : Nat) (s : State) : Out :=
  .next (
    let k := s.link conn
    if s.rootRuns && k.id != 0 && k.state == 4 then
      let t := s.modLink conn (fun k => { k with state := if k.rx then 1 else 3, lastAt := s.hw, discAt := none })
      if k.rx then t else t.clearFault 0xB010 0x50 conn
    else s)

/-- A declared connection at a Root start: awaiting its base, or in the safe state after a Root fault (R410). -/
def placeLink (now : Nat) (fault : Bool) (d : LinkDecl) : LinkConn :=
  { LinkConn.reset with
      id := d.id, rx := d.rx, udp := d.udp, chan := d.chan, sel := d.sel, n := min d.n 48, periodMs := d.periodMs,
      eMs := d.eMs, gap := d.gap, flag := d.flag, safeData := slice d.safeData 0 (min d.n 48),
      data := slice d.safeData 0 (min d.n 48), state := if fault then 4 else if d.rx then 1 else 3, lastAt := now,
      nextTx := now + d.periodMs * 1000000 }

/-- A declaration within the ranges of R406. -/
def LinkDecl.ok (d : LinkDecl) : Bool :=
  decide (d.conn < 32) && decide (0 < d.id ∧ d.id < 2 ^ 32) && decide (d.n ≤ 48) && (d.flag == 0xFF || decide (d.flag < 32)) &&
  (if d.rx then decide (10 ≤ d.eMs ∧ d.eMs ≤ 5000) && decide (1 ≤ d.gap ∧ d.gap ≤ 8) else decide (5 ≤ d.periodMs ∧ d.periodMs ≤ 5000))

/-! ### Watchdog and Root faults (R390-R396) -/

/-- One step of the challenge register: x^16 + x^14 + x^13 + x^11 + 1, Fibonacci form, shifting left (R390). -/
def lfsrStep (c : Nat) : Nat :=
  let fb := b2n (xor (xor (c.testBit 15) (c.testBit 13)) (xor (c.testBit 12) (c.testBit 10)))
  (2 * c + fb) % 65536

/-- The Root faults counted in the last 10 min of operating time (R394). -/
def State.recentFaults (s : State) : List Nat := s.root.faultAt.filter (fun t => decide (s.power.opNs < t + 600000000000))

/-- The reaction to a Root fault (R393, R394): TAGGED_OFF and the FAULTCUT lines, outputs off, the Strongroom record and
ROOT/FAULT, every connection in its safe state, and Root reset, or STOPPED at the fourth counted fault in 10 min. -/
def State.rootFault (s : State) (cause : Nat) : State :=
  let at' := if cause = 1 ∨ cause = 11 then s.recentFaults else s.recentFaults ++ [s.power.opNs]
  let stop := decide (at'.length ≥ 4) && !(cause == 1 || cause == 11)
  let s := s.modRoot (fun x =>
    { x with taggedOff := true, cellarHold := x.cellarHold ||| x.faultcut, faultAt := at', lastCause := cause,
             dueCause := cause, halted := stop || x.halted, phase := if stop then .stopped else .starting })
  let s := s.outsRootFault.refreshGates
  let s := (s.staleSigs 0xF00 0xFFF)
  let s := s.postAll 236 0xB001 0 cause at'.length s.us
  let (s, occ) := s.raise 0xB001 0x50 0 7 [0, cause, at'.length, s.us] true
  let s := s.larderWrite 0xB001 0x50 0 7 true false [0, cause, at'.length, s.us, faultWord 0xB001 7 0x50] s.hw occ 1
  let s := (s.root.links.filter (fun e => e.2.state != 0 && e.2.state != 4)).foldl (fun s e => s.linkSafe e.1 0) s
  let old := s.gen 0x50 0
  let s := (s.unitStop 0x50 0 (if cause = 10 then 4 else if cause = 11 then 2 else 1) false).outboxRestart 0x50 old 0
  if stop then (s.modUnit 0x50 0 (fun u => { u with phase := .running })).raiseEv 0x50 0 236 0xB003 7 0 at'.length cause 0
  else s

/-- WD_KEY (R390): a service inside the window with the bitwise NOT of the challenge; else a Root fault. -/
def execWdKeyWrite (value : Nat) (s : State) : Out :=
  .next (
    let r := s.root
    if !s.rootRuns then s
    else if s.hw < r.serviceAt + r.tminUse * 1000000 then s.rootFault 4
    else if s.hw > r.serviceAt + r.tmaxUse * 1000000 then s.rootFault 5
    else if value % 65536 ≠ 65535 - r.chal then s.rootFault 6
    else s.modRoot (fun x =>
      { x with services := satAdd 16 x.services 1, serviceAt := s.hw, chal := lfsrStep x.chal, tminUse := x.tmin,
               tmaxUse := x.tmax }))

/-- ROOT_WD_TIMEOUT (R390): no service by TMAX. -/
def execRootWdTimeout (s : State) : Out :=
  .next (if s.rootRuns then (s.waitTo (s.root.serviceAt + s.root.tmaxUse * 1000000)).rootFault 5 else s)

/-- WD_CFG (R389): ignored when locked, or when TMAX lies outside 10-1,000 or TMIN exceeds TMAX - 5; else taken whole. -/
def execWdCfgWrite (value : Nat) (s : State) : Out :=
  .next (
    let tmin := bits value 25 16
    let tmax := bits value 9 0
    if !s.rootRuns || s.root.wdLock || decide (tmax < 10 ∨ tmax > 1000 ∨ tmin > tmax - 5) then s
    else s.modRoot (fun x => { x with wdLock := value.testBit 31, tmin := tmin, tmax := tmax }))

/-- SAFE_STATE bit 31 (R392): Root's own stop. -/
def execRootStopWrite (s : State) : Out := .next (if s.rootRuns then s.rootFault 9 else s)

/-- Root starts (R389, R390, R395, R404): registers at their reset values, TAGGED_OFF and the Cellar holds set, a fresh
challenge, its window reset, the connections placed, the inbox delivered, ROOT/RUNNING. -/
def State.rootStart (s : State) (links : List LinkDecl) : State :=
  let (c, s) := s.drawNat
  let cause := s.root.dueCause
  let inbox := s.faults.inbox
  let lost := s.faults.inboxOver
  let s := s.modRoot (fun x =>
    { x with phase := .running, startCause := cause, starts := (x.starts + 1) % 65536, wdLock := false, tmin := 0,
             tmax := 200, tminUse := 0, tmaxUse := 200, chal := c % 65535 + 1, services := 0, serviceAt := s.hw,
             safeoff := 0, cellarHold := x.cellarHold ||| x.faultcut, taggedOff := true, stuck := 0, ruleErr := 0,
             links := (links.filter LinkDecl.ok).foldl (fun t d =>
               tset LinkConn.reset t d.conn (placeLink s.hw (cause != 1) d)) [] })
  let s := s.refreshGates
  let s := if cause = 1 ∧ (s.win 0).running then s else if (s.win 0).running then s.resetWindow 0 else s.openWindow 0
  let s := s.unitRun 0x50 0
  let s := { s with faults.rootSeen := inbox, faults.inbox := [], faults.inboxOver := 0 }
  s.post 0x50 0 236 0xB002 0 cause inbox.length lost

/-! ### Mailbox verbs (18 ROOT and REFLEX verbs) -/

/-- The state code of ROOT.STATUS. -/
def Root.stateCode (r : Root) : Nat :=
  match r.phase with
  | .off => 0 | .starting => 0
  | .running => if r.taggedOff then 2 else 1
  | .stopped => 3
  | .pause => 4

/-- ROOT.STATUS. -/
def verbRootStatus : Verb :=
  { unit := 0x50, verb := 0x01, lenOk := lenIs 0, instOk := inst0, query := true, rt := true, perm := none,
    body := fun _ s =>
      (s, stDone, b8 s.root.stateCode ++ b8 s.root.startCause ++ b16 s.root.starts ++ b32 s.root.flags ++
        b32 s.root.lines ++ b32 (bitSet ((s.root.links.filter (fun e => e.2.id != 0)).map (·.1))) ++
        b32 (bitSet ((s.root.links.filter (fun e => e.2.state == 3)).map (·.1)))) }

/-- ROOT.LINK_STATUS. -/
def verbRootLinkStatus : Verb :=
  { unit := 0x50, verb := 0x02, lenOk := lenIs 4, instOk := inst0, query := true, rt := true, perm := none,
    body := fun r s =>
      let c := u8 r.payload 0
      if c ≥ 32 then (s, stRange, [])
      else
        let k := s.link c
        (s, stDone, b32 k.id ++ b8 k.state ++ b8 k.cause ++ b16 k.lastSeq ++ b32 k.accepted ++ b32 k.discarded ++
          b32 k.reps ++ b32 ((s.hw - k.lastAt) / 1000000)) }

/-- ROOT.RESTART (R411). -/
def verbRootRestart : Verb :=
  { unit := 0x50, verb := 0x10, lenOk := lenIs 4, instOk := inst0, query := false, rt := false, perm := none,
    body := fun r s =>
      if s.root.phase = .stopped then (s, stBusy, [])
      else if u32 r.payload 0 ≠ 0x52535452 then (s, stRange, [])
      else (s.rootFault 10, stDone, []) }

/-- REFLEX.STATUS. -/
def verbReflexStatus : Verb :=
  { unit := 0x51, verb := 0x01, lenOk := lenIs 0, instOk := instLt 64, query := true, rt := true, perm := none,
    body := fun r s =>
      let st := tget RuleSt.reset s.root.ruleSt r.inst
      let tv := s.ruleTerms s.root.flags (ruleOf (s.root.ruleBytes r.inst))
      (s, stDone, b8 (if !s.root.ruleEn.testBit r.inst then 0 else if st.active then 2 else 1) ++ b8 tv ++ b16 0 ++
        b32 st.activations ++ b32 st.changeAt) }

/-- ROOT.STATUS. -/
def execRootStatus (r : Req) (s : State) : Out := mailboxRow verbRootStatus r s
/-- ROOT.LINK_STATUS. -/
def execRootLinkStatus (r : Req) (s : State) : Out := mailboxRow verbRootLinkStatus r s
/-- ROOT.RESTART. -/
def execRootRestart (r : Req) (s : State) : Out := mailboxRow verbRootRestart r s
/-- REFLEX.STATUS. -/
def execReflexStatus (r : Req) (s : State) : Out := mailboxRow verbReflexStatus r s

end Sys2Proof.Machine
end

