-- ==== Sys2Proof/Machine/Graft.lean ====
section
/-! DEFINITION. Machine/Graft.lean: images, their delivery and installation, activation with the handover of each changed
part, confirmation and fall-back (19). -/

namespace Sys2Proof.Machine

/-- Change the GRAFT unit. -/
def State.modGraft (s : State) (f : Graft → Graft) : State := { s with graft := f s.graft }

/-- Change the activation in progress. -/
def State.modAct (s : State) (f : Activ → Activ) : State := s.modGraft (fun g => { g with act := f g.act })

/-! ### The image header (R414-R416) -/

/-- Pieces N of a header. -/
def hdrPieces (h : List Byte) : Nat := u32 h 24
/-- Parts P of a header. -/
def hdrParts (h : List Byte) : Nat := u16 h 32
/-- The length a header must have. -/
def hdrLength (h : List Byte) : Nat := 416 + 128 * hdrParts h + 32 * hdrPieces h
/-- Offset of the SHA-256 list. -/
def hdrHashes (h : List Byte) : Nat := 64 + 128 * hdrParts h
/-- Offset of the maker certificate. -/
def hdrCert (h : List Byte) : Nat := hdrHashes h + 32 * hdrPieces h
/-- Bytes of piece `i`. -/
def pieceLen (h : List Byte) (i : Nat) : Nat := if i + 1 = hdrPieces h then u32 h 28 else 65536

/-- An entry of the part table. -/
def partOf (h : List Byte) (i : Nat) : PartEnt :=
  let o := 64 + 128 * i
  { kind := u8 h o, cls := u8 h (o + 1), pid := u16 h (o + 2), version := u32 h (o + 4), first := u32 h (o + 8),
    len := u32 h (o + 12), sha := slice h (o + 16) 32, sbWritten := u16 h (o + 48), sbLow := u16 h (o + 50),
    sbHigh := u16 h (o + 52), recHigh := u16 h (o + 54), sbSize := u32 h (o + 56), cutPeriod := u32 h (o + 60),
    cutPhase := u32 h (o + 64) }

/-- The part carries no data of its own (R417). -/
def PartEnt.retained (p : PartEnt) : Bool := p.first == 0xFFFFFFFF

/-- The part ID is in its range (R416): a partition, a model, an owner's PART_ID, or 0. -/
def PartEnt.pidOk (p : PartEnt) : Bool :=
  match p.kind with
  | 3 => decide (p.pid < 16)
  | 4 => true
  | 6 | 9 => p.pid == 0 || p.pid == 0xFF || decide (0x10 ≤ p.pid ∧ p.pid ≤ 0x1F)
  | _ => p.pid == 0

/-- The field ranges of a part entry (R416). -/
def PartEnt.ok (n : Nat) (p : PartEnt) : Bool :=
  decide (1 ≤ p.kind ∧ p.kind ≤ 9) &&
  (if p.kind = 6 then p.cls == 2 else if p.kind = 9 then p.cls == 1 || p.cls == 2 else decide (p.cls ≤ 2)) && p.pidOk &&
  (if p.retained then p.len == 0 else decide (p.first < n)) &&
  decide (p.sbHigh ≥ p.sbLow) && decide (p.sbSize ≤ 16777216) &&
  (p.kind != 3 || decide (1000 ≤ p.cutPeriod ∧ p.cutPeriod ≤ 1000000 ∧ p.cutPhase < p.cutPeriod))

/-- The reserved bytes of a header, of its part entries and of its certificate, whose range is 0 (R414, R416). -/
def headerZeros (h : List Byte) : Bool :=
  let z := fun o n => slice h o n == zeros n
  let c := hdrCert h
  z 37 27 && (List.range (hdrParts h)).all (fun i => z (64 + 128 * i + 68) 60) && z (c + 10) 6 && z (c + 113) 47

/-- Check 1 of GRAFT.OPEN (R419): mark, version, length and field ranges. -/
def headerOk (h : List Byte) : Bool :=
  u32 h 0 == 0x47524654 && u16 h 4 == 1 && h.length == hdrLength h && u32 h 16 != 0 && decide (u32 h 20 ≤ 64) &&
  decide (1 ≤ hdrPieces h ∧ hdrPieces h ≤ 32768) && decide (1 ≤ u32 h 28 ∧ u32 h 28 ≤ 65536) &&
  decide (2 ≤ hdrParts h ∧ hdrParts h ≤ 128) && decide (u16 h 34 ≤ 4320) &&
  (u8 h 36 == 0 || decide (0x10 ≤ u8 h 36 ∧ u8 h 36 ≤ 0x1F)) &&
  (List.range (hdrParts h)).all (fun i => (partOf h i).ok (hdrPieces h)) && headerZeros h

/-- Check 2: the certificate verifies under the Kaulium key and allows the type code (R415). -/
def certOk (v : Variant) (h : List Byte) : Bool :=
  let c := slice h (hdrCert h) 256
  Config.certVerifies c && (u16 c 8 == typeCode v || u16 c 8 == 0x56FF)

/-- Check 3: the header's signature verifies under the certified maker key (R415). -/
def signatureOk (h : List Byte) : Bool :=
  let o := hdrCert h + 256
  Config.sigVerifies (slice h (hdrCert h + 16) 97) (h.take o) (slice h o 96)

/-- Bytes the image takes in the staging partition. -/
def imageBytes (h : List Byte) : Nat := h.length + (hdrPieces h - 1) * 65536 + u32 h 28

/-- The failing status of GRAFT.OPEN, in the order of R419, or none. -/
def State.openCheck (s : State) (h : List Byte) (replace : Bool) : Option Nat :=
  let g := s.graft
  if !headerOk h then some stImage
  else if !certOk s.variant h || !signatureOk h then some stAuth
  else if u16 h 6 != typeCode s.variant || !(u64 h 8 == 0 || u64 h 8 == s.part.serial) then some stImage
  else if u32 h 20 < g.minSec then some stImage
  else if imageBytes h > atticMiB s.variant 2 * 2 ^ 20 then some stRange
  else if g.installing && g.inc.header != h then some stBusy
  else if !g.inc.header.isEmpty && g.inc.header != h && !replace && decide (g.inc.pieces.length < hdrPieces g.inc.header) then some stBusy
  else if s.attic.inhibit then some stTemp
  else if s.attic.readOnly then some stLocked
  else none

/-- GRAFT.OPEN (R419); an Attic at the end of its wear takes no image (20 R443). -/
def verbGraftOpen : Verb :=
  { unit := 0x60, verb := 0x10, lenOk := lenIs 8, instOk := inst0, query := false, rt := false, perm := none,
    body := fun r s =>
      let d := u8 r.payload 0
      let n := u32 r.payload 4
      match s.regionCheck r.win d n with
      | some st => (s, st, [])
      | none =>
        let h := s.regionRead r.win d 0 n
        let s := s.regionDone r.win d r.tag n false
        match s.openCheck h (bit (u8 r.payload 1) 0) with
        | some st => (s, st, [])
        | none =>
          let s := if s.graft.inc.header = h then s
            else (s.modGraft (fun g => { g with inc := { header := h, pieces := [] } })).atticWear n
          let held := s.graft.inc.pieces.length
          (s.post 0x60 0 248 0xC001 0 (u32 h 16) held (hdrPieces h), stDone, b32 held ++ b32 (hdrPieces h)) }

/-- GRAFT.PIECE (R420). The fault of a bad piece ends with the next accepted one (log entry 191). -/
def verbGraftPiece : Verb :=
  { unit := 0x60, verb := 0x11, lenOk := lenIs 8, instOk := inst0, query := false, rt := false, perm := none,
    body := fun r s =>
      let d := u8 r.payload 0
      let i := u32 r.payload 4
      let h := s.graft.inc.header
      if h.isEmpty || s.graft.installing then (s, stBusy, [])
      else if i ≥ hdrPieces h then (s, stRange, [])
      else
        let n := pieceLen h i
        match s.regionCheck r.win d n with
        | some st => (s, st, [])
        | none =>
          let p := s.regionRead r.win d 0 n
          let s := s.regionDone r.win d r.tag n false
          if sha256 p ≠ slice h (hdrHashes h + 32 * i) 32 then (s.raiseEv 0x60 0 248 0xC002 1 0 i 0 0, stImage, [])
          else if s.attic.inhibit then (s, stTemp, [])
          else if s.attic.readOnly then (s, stLocked, [])
          else
            let had := (tfind s.graft.inc.pieces i).isSome
            let s := if had then s
              else (s.modGraft (fun g => { g with inc.pieces := tput g.inc.pieces i p })).atticWear n
            let s := s.clearFault 0xC002 0x60 0
            let held := s.graft.inc.pieces.length
            let s := if !had && held == hdrPieces h then
                (s.post 0x60 0 248 0xC003 0 (u32 h 16) held 0).modGraft (fun g => { g with installing := true })
              else s
            (s, stDone, b32 held ++ b32 (hdrPieces h)) }

/-- GRAFT.MISSING (R420). -/
def verbGraftMissing : Verb :=
  { unit := 0x60, verb := 0x02, lenOk := lenIs 4, instOk := inst0, query := true, rt := false, perm := none,
    body := fun r s =>
      let f := u32 r.payload 0
      if f % 832 ≠ 0 then (s, stRange, [])
      else (s, stDone, b32 f ++ (List.range 104).flatMap (fun j =>
        b8 (bitSet ((List.range 8).filter (fun k => (tfind s.graft.inc.pieces (f + 8 * j + k)).isSome))))) }

/-! ### Installation (R417, R421) -/

/-- The parts agree in kind, part ID and SHA-256 (R417). -/
def PartEnt.same (p q : PartEnt) : Bool := p.kind == q.kind && p.pid == q.pid && p.sha == q.sha

/-- The data of a part: from staging, or from the part of the active set it stands for. -/
def State.partData (s : State) (p : PartEnt) : Option (List Byte) :=
  if p.retained then (s.activeSet.parts.find? p.same).map (·.data)
  else
    let all := (s.graft.inc.pieces.filter (fun e => decide (p.first ≤ e.1 ∧ e.1 < p.first + (p.len + 65535) / 65536))).flatMap (·.2)
    some (slice all 0 p.len)

/-- The free boot slot: 0 A, 1 B. -/
def Graft.freeSlot (g : Graft) : Nat := 1 - g.active

/-- The set of the free slot. -/
def Graft.otherSet (g : Graft) : BootSet := if g.active = 0 then g.slotB else g.slotA

/-- The free slot holds `b`. -/
def Graft.putOther (g : Graft) (b : BootSet) : Graft := if g.active = 0 then { g with slotB := b } else { g with slotA := b }

/-- GRAFT_INSTALLED (R421): the parts are copied into the free slot and verified; a mismatch ends installation with cause 8, an
Attic that takes no write with cause 7. It waits while a set is on trial. -/
def execGraftInstalled (s : State) : Out :=
  .next (
    let g := s.graft
    if !g.installing || g.trial || !s.running 0x60 0 then s
    else if s.attic.readOnly then (s.modGraft (fun g => { g with installing := false })).raiseEv 0x60 0 249 0xC021 3 0 7 0xFFFF 0
    else
      let h := g.inc.header
      let ps := (List.range (hdrParts h)).map (fun i =>
        let p := partOf h i
        match s.partData p with
        | some d => ({ p with data := d }, sha256 d == p.sha)
        | none => (p, false))
      match ps.findIdx? (fun e => !e.2) with
      | some i => (s.modGraft (fun g => { g with installing := false })).raiseEv 0x60 0 249 0xC021 3 0 8 i 0
      | none =>
        let b : BootSet := { present := true, id := u32 h 16, secver := u32 h 20, windowMin := u16 h 34, confirmer := u8 h 36,
                             parts := ps.map (·.1) }
        let s := s.modGraft (fun g => { (g.putOther b) with inc := Incoming.reset, installing := false })
        let s := s.atticWear ((b.parts.map (fun p => p.data.length)).sum)
        s.post 0x60 0 248 0xC004 0 b.id g.freeSlot (b.parts.filter PartEnt.retained).length)

/-- GRAFT.DISCARD (R421). A set kept as the fall-back of a trial is not an installed image. -/
def verbGraftDiscard : Verb :=
  { unit := 0x60, verb := 0x12, lenOk := lenIs 0, instOk := inst0, query := false, rt := false, perm := none,
    body := fun _ s =>
      if s.graft.installing || s.graft.act.step != 0 then (s, stBusy, [])
      else (s.modGraft (fun g => let g := { g with inc := Incoming.reset }
                                 if g.trial then g else g.putOther BootSet.reset), stDone, []) }

/-! ### Declarations of partitions (R417) -/

/-- The declaration at the head of a partition's data. -/
def declOf (p : List Byte) : PartDecl :=
  let nU := u8 p 6
  let nS := u8 p 7
  let nO := u8 p 8
  let nG := u8 p 9
  let oS := 64 + 20 * nU
  let oO := oS + 4 * nS
  let oG := oO + 4 * nO
  let pair := fun o => (u16 p o, u16 p (o + 2))
  { declared := true, base := u64 p 16, cores := (List.range 32).filter (fun c => (u32 p 0).testBit c), failover := u8 p 4,
    irq := u8 p 5,
    units := (List.range nU).map (fun i =>
      let o := 64 + 20 * i
      { unit := u8 p o, control := u8 p (o + 1) == 1,
        ranges := ((List.range 4).map (fun k => pair (o + 4 + 4 * k))).filter (fun q => q != (0xFFFF, 0xFFFF)) }),
    reads := (List.range nS).map (fun i => pair (oS + 4 * i)),
    owns := (List.range nO).map (fun i => pair (oO + 4 * i)),
    regions := (List.range nG).map (fun i => (u64 p (oG + 16 * i), u32 p (oG + 16 * i + 8))),
    pantryFirst := u16 p 10, pantryCount := u16 p 12, vlans := u64 p 40 }

/-- Memory a partition declares. -/
def declMem (p : List Byte) : Nat := u64 p 32

/-- The PART_ID of a Root or Canopy part. -/
def PartEnt.win (p : PartEnt) : Nat := if p.kind = 2 then 0 else p.pid + 0x10

/-- The declarations of a set, by PART_ID. -/
def setDecls (b : BootSet) : Tab PartDecl :=
  (b.parts.filter (fun p => p.kind == 2 || p.kind == 3)).foldl (fun t p => tset PartDecl.reset t p.win (declOf p.data)) []

/-! ### Set checks (R422) -/

/-- The indices of the parts of `b` that are changed against `a` (R417). -/
def changedParts (a b : BootSet) : List Nat :=
  (List.range b.parts.length).filter (fun i => !(a.parts.any (fun p => p.same (b.parts.getD i PartEnt.reset))))

/-- A part of a set. -/
def BootSet.part (b : BootSet) (i : Nat) : PartEnt := b.parts.getD i PartEnt.reset

/-- The Canopy parts of a set with their indices. -/
def canopyParts (b : BootSet) : List Nat := (List.range b.parts.length).filter (fun i => (b.part i).kind == 3)

/-- No two of a list of ranges overlap. -/
def disjointRanges (l : List (Nat × Nat)) : Bool :=
  (List.range l.length).all (fun i => (List.range i).all (fun j =>
    let a := l.getD i (0, 0)
    let b := l.getD j (0, 0)
    decide (a.2 < b.1 ∨ b.2 < a.1)))

/-- A list without repeats. -/
def noRepeat (l : List Nat) : Bool := l.eraseDups.length == l.length

/-- The graft core of a set on a variant (01 R25): the highest core no partition holds. -/
def graftCoreOf (v : Variant) (b : BootSet) : Option Nat :=
  let held := (canopyParts b).flatMap (fun i => (declOf (b.part i).data).cores)
  ((List.range (coresOf v)).filter (fun c => !held.contains c)).getLast?

/-- The placement check for one bough die (01 R37). -/
def placementOk (v : Variant) (b : BootSet) (d : Nat) : Bool :=
  let ds := (canopyParts b).map (fun i => declOf (b.part i).data)
  let onDie := fun c => c / 4 == d
  let aff := ds.filter (fun x => x.cores.any onDie)
  let held := ds.flatMap (·.cores)
  let avail := (aff.flatMap (·.cores)).filter (fun c => !onDie c) ++
    (List.range (coresOf v)).filter (fun c => !onDie c && !held.contains c && graftCoreOf v b != some c)
  decide ((aff.map (·.failover)).sum ≤ avail.length)

/-- Check 3: cores (R422, 01 R25). -/
def State.coresOk (s : State) (a b : BootSet) : Bool :=
  let cs := (canopyParts b).flatMap (fun i => (declOf (b.part i).data).cores)
  let activeHeld := (canopyParts a).flatMap (fun i => (declOf (a.part i).data).cores)
  let removed := ((canopyParts a).filter (fun i => !((canopyParts b).any (fun j => (b.part j).pid == (a.part i).pid)))).flatMap
    (fun i => (declOf (a.part i).data).cores)
  noRepeat cs && cs.all (fun c => decide (c < coresOf s.variant)) && decide (cs.length < coresOf s.variant) &&
  ((changedParts a b).filter (fun i => (b.part i).kind == 3)).all (fun i =>
    let own := match (canopyParts a).find? (fun j => (a.part j).pid == (b.part i).pid) with
      | some j => (declOf (a.part j).data).cores | none => []
    (declOf (b.part i).data).cores.all (fun c =>
      own.contains c || removed.contains c || (!activeHeld.contains c && s.keeper.graftCore != some c)))

/-- Check 7: windows and memory. -/
def memoryOk (v : Variant) (a b : BootSet) : Bool :=
  let ps := (canopyParts b).map (b.part ·)
  let bases := ps.map (fun p => (declOf p.data).base)
  let has := fun (k : Nat) => k == 2 || k == 3
  let ch := ((changedParts a b).filter (fun i => has (b.part i).kind)).map (fun i => declMem (b.part i).data)
  bases.all (fun x => x % 65536 == 0) && noRepeat bases &&
  decide (((b.parts.filter (fun p => has p.kind)).map (fun p => declMem p.data)).sum + ch.foldl max 0 ≤ dramBytes v)

/-- The field ranges of a partition declaration (R417); Root's cores, failover count and interrupt line are ignored. -/
def declInRange (v : Variant) (kind : Nat) (p : List Byte) : Bool :=
  let d := declOf p
  decide (u8 p 6 ≤ 64 ∧ u8 p 7 ≤ 32 ∧ u8 p 8 ≤ 16 ∧ u8 p 9 ≤ 64) &&
  decide (d.pantryFirst ≤ 16127 ∧ d.pantryCount ≤ 16128) &&
  d.owns.all (fun r => decide (0x800 ≤ r.1 ∧ r.2 ≤ 0xEFF)) &&
  (List.range (u8 p 6)).all (fun i => decide (u8 p (64 + 20 * i + 1) ≤ 1)) &&
  d.regions.all (fun r => decide (4096 ≤ r.2 ∧ r.2 ≤ 16777216) && r.2 % 4096 == 0) &&
  (kind != 3 || (decide (u32 p 0 < 2 ^ coresOf v) && decide (1 ≤ d.failover ∧ d.failover ≤ d.cores.length) && decide (d.irq ≤ 31)))

/-- The predecessor of a part in a set: the part of the same kind and part ID. -/
def predOf (a : BootSet) (p : PartEnt) : Option PartEnt := a.parts.find? (fun q => q.kind == p.kind && q.pid == p.pid)

/-- The predecessor of a part runs now. -/
def State.predRuns (s : State) (p : PartEnt) : Bool :=
  match p.kind with
  | 1 => true
  | 2 => s.root.phase == .running
  | 3 => (tget Partition.reset s.keeper.partitions p.pid).state == .running
  | 4 => s.crown.slots.any (fun e => e.2.model == p.pid && e.2.state == 2)
  | 5 => s.running 0x40 0
  | _ => false

/-- The part accepts the state block its predecessor writes. -/
def accepts (p q : PartEnt) : Bool := decide (p.sbLow ≤ q.sbWritten ∧ q.sbWritten ≤ p.sbHigh)

/-- The first failing check of a set: part index and check code (R422). -/
def State.setCheck (s : State) (a b : BootSet) (cold : Bool) : Option (Nat × Nat) :=
  let count := fun k => (b.parts.filter (fun p => p.kind == k)).length
  let ids := fun k => (b.parts.filter (fun p => p.kind == k)).map (·.pid)
  let ds := (b.parts.filter (fun p => p.kind == 2 || p.kind == 3)).map (fun p => declOf p.data)
  if count 1 ≠ 1 ∨ count 2 ≠ 1 ∨ !noRepeat (ids 3) ∨ !noRepeat (ids 4) then some (0xFFFF, 1)
  else match b.parts.findIdx? (fun p => !p.ok 32768) with
  | some i => some (i, 1)
  | none =>
    match b.parts.findIdx? (fun p => (p.kind == 2 || p.kind == 3) && !declInRange s.variant p.kind p.data) with
    | some i => some (i, 1)
    | none =>
    match b.parts.findIdx? (fun p => p.retained && !(a.parts.any p.same)) with
    | some i => some (i, 2)
    | none =>
      if !s.coresOk a b then some (0xFFFF, 3)
      else if hasFailover s.variant && !(List.range (boughs s.variant)).all (placementOk s.variant b) then some (0xFFFF, 4)
      else if !(disjointRanges ((ds.filter (fun d => d.pantryCount > 0)).map (fun d => (d.pantryFirst, d.pantryFirst + d.pantryCount - 1))) &&
          ds.all (fun d => decide (d.pantryFirst + d.pantryCount ≤ 16128))) then some (0xFFFF, 5)
      else if !disjointRanges (ds.flatMap (·.owns)) then some (0xFFFF, 6)
      else if !memoryOk s.variant a b then some (0xFFFF, 7)
      else match (changedParts a b).find? (fun i => s.predRuns (b.part i) && !cold &&
          (match predOf a (b.part i) with | some q => !accepts (b.part i) q | none => false)) with
        | some i => some (i, 8)
        | none =>
          if b.confirmer ≠ 0 ∧ !(ids 3).contains (b.confirmer - 0x10) then some (0xFFFF, 9) else none

/-! ### Activation (R423-R427) -/

/-- GRAFT.ACTIVATE (R422). -/
def verbGraftActivate : Verb :=
  { unit := 0x60, verb := 0x13, lenOk := lenIs 4, instOk := inst0, query := false, rt := false, perm := none,
    body := fun r s =>
      let g := s.graft
      let cold := bit (u8 r.payload 0) 0
      if !g.otherSet.present || g.act.step != 0 || g.installing || g.trial || !s.keeper.retired.isEmpty ||
          s.power.state == .parking then (s, stBusy, [])
      else if s.attic.inhibit then (s, stTemp, [])
      else match s.setCheck s.activeSet g.otherSet cold with
        | some (i, c) => (s, stImage, b16 i ++ b8 c ++ b8 0)
        | none =>
          (s.modAct (fun _ => { Activ.reset with step := 2, op := some { win := r.win, tag := r.tag }, cold := cold }),
           stAccepted, []) }

/-- GRAFT/PART_DONE. -/
def State.partDone (s : State) (i how pause : Nat) : State := s.post 0x60 0 249 0xC012 0 i how pause

/-- The set left by the activation or fall-back in progress: since the commit it lies in the other slot. -/
def State.oldSet (s : State) : BootSet := s.graft.otherSet

/-- The parts to take: the changed ones; after an abandonment only those already cut over return (R427). -/
def State.toChange (s : State) : List Nat :=
  (changedParts s.oldSet s.activeSet).filter (fun i =>
    match s.graft.act.back with
    | some l => l.contains ((s.activeSet.part i).kind, (s.activeSet.part i).pid)
    | none => true)

/-- A part of the new set has been taken. -/
def State.markDone (s : State) (i : Nat) : State := s.modAct (fun a => { a with done := a.done ++ [i] })

/-- First Pantry entry of an owner; Keeper's entries are those from 16,128 (15 R328; log entry 192). -/
def State.pantryBase (s : State) (owner : Nat) : Nat := if owner = 0xFF then 16128 else (s.decl owner).pantryFirst

/-- The records of a settings part (R431): class A only for keys that have none; class B as the set's own copy. -/
def State.settingsLoad (s : State) (p : PartEnt) : State :=
  (Config.settingsPart p.data).foldl (fun (s : State) e =>
    let f : AtticFile := { inst := 5, id := e.1, owner := p.pid, cls := p.cls, version := e.2.1 % 65536,
                           data := e.2.2.take 65536, staged := s.attic.inhibit }
    if p.cls = 1 then
      if s.attic.files.any (fun g => g.inst == 5 && g.id == f.id) then s
      else s.commitFiles (s.attic.files ++ [f]) f.data.length
    else s.commitFiles (s.withFile f) f.data.length) s

/-- The content of a table part or settings part of the active set comes into force. -/
def State.loadTable (s : State) (p : PartEnt) : State :=
  if p.kind = 6 then s.pantryLoad (s.pantryBase p.pid) p.data else if p.kind = 9 then s.settingsLoad p else s

/-- The Pantry table and the settings of an owner, written at its turn when they are changed (R423, 15 R330). In a fall-back
the old copies have been restored already (R431). -/
def State.pantryPart (s : State) (owner : Nat) : State :=
  s.toChange.foldl (fun (s : State) i =>
    let p := s.activeSet.part i
    if (p.kind = 6 ∨ p.kind = 9) ∧ p.pid = owner then
      (if s.graft.act.fallback then s else (s.loadTable p).markDone i).partDone i 5 0
    else s) s

/-- The declaration of a partition of the active set comes into force. -/
def State.takeDecl (s : State) (p : PartEnt) : State :=
  { s with keeper.decls := tset PartDecl.reset s.keeper.decls p.win (declOf p.data) }

/-- A window opens, with the headers of the rings bound in it. -/
def State.windowOpen (s : State) (w : Nat) : State := ((s.openWindow w).canWindow w).ethWindow w

/-- The cores that the other partitions hold: those of a running or paused one, and the declared ones of one that is stopped. -/
def State.heldCores (s : State) (others : List Nat) : List Nat :=
  others.flatMap (fun q => match (s.partition q).state with
    | .running | .paused => (s.partition q).cores
    | .stopped => (s.decl (q + 0x10)).cores
    | .unplaced => [])

/-- The cores a partition gets beside `taken` (01 R38): its failover core count, its own surviving cores first, then unheld ones
in ascending number, the graft core never. None when they do not suffice. -/
def State.failCores (s : State) (p : Nat) (own taken : List Nat) : Option (List Nat) :=
  let n := (s.decl (p + 0x10)).failover
  let free := (List.range (coresOf s.variant)).filter (fun c =>
    s.coreAlive c && !taken.contains c && !own.contains c && s.keeper.graftCore != some c)
  let l := own.take n ++ free.take (n - own.length)
  if l.length = n then some l else none

/-- The cores on which a partition starts: its declared ones; beside a retired die, on ZQ-4 and ZQ-8, those that failover gives
it (01 R38, log entry 15), else none. -/
def State.startCores (s : State) (p : Nat) (cores : List Nat) : Option (List Nat) :=
  if cores.all s.coreAlive then some cores
  else if hasFailover s.variant then
    s.failCores p (cores.filter s.coreAlive) (s.heldCores ((List.range 16).filter (· != p)))
  else none

/-- Start a partition of the active set (R423 step 8, 01 R28): its window opens. One that has no cores stays stopped. -/
def State.startPartition (s : State) (p : Nat) : State :=
  match s.startCores p (s.decl (p + 0x10)).cores with
  | none => s
  | some l =>
    ({ s with keeper.partitions := tset Partition.reset s.keeper.partitions p
                { Partition.reset with state := .running, cores := l } } : State).windowOpen (p + 0x10)

/-- The bulk transfers of a window in progress stop (02 R68): of the Attic and the Larder, snippets, traces and taps; a message
being sent goes on without its command. -/
def State.stopBulk (s : State) (w : Nat) : State :=
  { s with
    attic.transfers := s.attic.transfers.filter (fun t => t.op.win != w),
    larder.read := s.larder.read.filter (fun c => c.op.win != w),
    sensing.loss := tmap LossCh.reset s.sensing.loss (fun c => { c with snip := c.snip.filter (fun q => q.op.win != w) }),
    ctrl.traces := tmap Trace.reset s.ctrl.traces (fun t => { t with read := t.read.filter (fun q => q.1.win != w) }),
    cam.ports := tmap CamPort.reset s.cam.ports (fun p =>
      { p with taps := p.taps.filter (fun e => e.2.op.win != w),
               tapOn := p.tapOn.filter (fun n => (tget CamTap.reset p.taps n).op.win != w) }),
    can.ch := tmap CanCh.reset s.can.ch (fun c => { c with sessions := c.sessions.map (fun x =>
      { x with op := x.op.filter (fun o => o.win != w) }) }) }

/-- A partition stops: what it owns carries STALE, outputs follow the owner-restart row, its bulk transfers stop and its holds
lapse (02 R68, 03 R85, 11 R271, 17 R385, 21 R473). -/
def State.ownerStops (s : State) (w : Nat) : State :=
  let s := ((s.staleOwned w).outsOwnerRestart w).stopBulk w
  ({ s with power.holds := s.power.holds.erase w } : State).nmLapse w

/-- Stop a partition that the set removes, outputs per the owner-restart row (R423 step 5). -/
def State.removePartition (s : State) (p : Nat) : State :=
  let w := p + 0x10
  let s := s.ownerStops w
  { s.closeWindow w with keeper.partitions := tset Partition.reset s.keeper.partitions p Partition.reset,
                         keeper.decls := tset PartDecl.reset s.keeper.decls w PartDecl.reset }

/-- Cold replacement of a Canopy partition (R425): a partition restart with the new declaration. -/
def State.coldReplace (s : State) (i : Nat) : State :=
  let p := s.activeSet.part i
  let s := (s.ownerStops p.win).takeDecl p
  let s := (s.resetWindow p.win).modPartition p.pid (fun q => { q with ckpt := Ckpt.reset })
  let s := match s.startCores p.pid (declOf p.data).cores with
    | some l => s.modPartition p.pid (fun q => { q with state := .running, cores := l })
    | none => (s.modPartition p.pid (fun q => { q with state := .stopped, cores := [] })).closeWindow p.win
  let s := (s.modAct (fun a => { a with coldCount := a.coldCount + 1 })).markDone i
  (s.partDone i 2 0).pantryPart p.win

/-- The Root part of the active set is changed, its class B parameters included (R426). -/
def State.rootChanged (s : State) : Bool :=
  s.toChange.any (fun i =>
    (s.activeSet.part i).kind == 2 || ((s.activeSet.part i).kind == 9 && (s.activeSet.part i).cls == 2 && (s.activeSet.part i).pid == 0))

/-- The Keeper part of the active set is changed. -/
def State.keeperChanged (s : State) : Bool := s.toChange.any (fun i => (s.activeSet.part i).kind == 1)

/-- The index of the part of a kind. -/
def BootSet.idx (b : BootSet) (k : Nat) : Nat := (b.parts.findIdx? (fun p => p.kind == k)).getD 0xFFFF

/-- The models of the active set come into force (09 R219, R234). -/
def State.setModels (s : State) : State :=
  s.crownModels ((s.activeSet.parts.filter (fun p => p.kind == 4)).map (fun p => (p.pid, p.data)))

/-- The plate and fan tables of a set replace Keeper's (R423 step 4). -/
def State.keptTable (s : State) (p : PartEnt) : State :=
  if p.kind = 7 then ({ s with plate.wave := some p.data }).dirty
  else if p.kind = 8 then (s.fanTablePart p.data).dirty else s

/-- GNSS takes its new image (R423 step 4, R425): a unit handover when the new image accepts the state block of the old, else a
unit restart. A unit that does not run starts on the new image. -/
def State.gnssPart (s : State) (i : Nat) : State :=
  let p := s.activeSet.part i
  if !s.running 0x40 0 then s.partDone i 2 0
  else if (match predOf s.oldSet p with | some q => accepts p q | none => true) then s.gnssHandover.partDone i 1 0
  else
    let old := s.gen 0x40 0
    let s := ((((s.unitStop 0x40 0 2 false).outboxRestart 0x40 old 0).modGnss Gnss.restart).ppsDrop 3).modAct (fun a =>
      { a with coldCount := a.coldCount + 1 })
    s.partDone i 2 0

/-- The Crown units that host a loaded model which the set changes: each has a graft cutover (02 R45). -/
def State.crownHosts (s : State) : List Nat :=
  (List.range 7).filter (fun u => s.running 0x42 u && (List.range 16).any (fun m =>
    (s.slot m).state != 0 && (s.slot m).unit == u &&
      s.toChange.any (fun i => (s.activeSet.part i).kind == 4 && (s.activeSet.part i).pid == (s.slot m).model)))

/-- The graft cutover of a Crown unit: its generation increments with VALID clear for no time (02 R45-R47). -/
def State.crownCutover (s : State) (u : Nat) : State :=
  let old := s.gen 0x42 u
  let s := (s.modUnit 0x42 u (fun x => { x with gen := nextGen x.gen, clearedAt := s.hw })).crownSlot
  let s := s.keeperEv 0x0001 (16777216 * 0x42 + u) (old + 65536 * s.gen 0x42 u) 2 0
  s.keeperEv 0x0002 (16777216 * 0x42 + u) (s.gen 0x42 u) 0 0

/-- Unit parts (R423 step 4): GNSS firmware, Crown models, plate and fan tables. -/
def State.unitParts (s : State) : State :=
  s.toChange.foldl (fun (s : State) i =>
    let p := s.activeSet.part i
    match p.kind with
    | 4 => (s.markDone i).partDone i 1 0
    | 5 => (s.markDone i).gnssPart i
    | 7 | 8 => ((s.markDone i).keptTable p).partDone i 5 0
    | _ => s) (s.crownHosts.foldl State.crownCutover s.setModels)

/-- Root's records of class B. -/
def classB (l : List AtticFile) : List AtticFile := l.filter (fun f => f.inst == 5 && f.cls == 2)

/-- The old class B copy is restored (R431): the records, and every Pantry entry that differs from it. -/
def State.restoreB (s : State) : State :=
  let put := fun (l : List AtticFile) => l.filter (fun f => !(f.inst == 5 && f.cls == 2)) ++ s.graft.oldRecs
  let old := s.graft.oldPantry
  let keys := (old.map (·.1)) ++ (s.can.pantry.map (·.1)).filter (fun i => (tfind old i).isNone)
  let s := { s with attic.files := put s.attic.files, attic.flash := put s.attic.flash }
  s.panCommit ((keys.filter (fun i => s.pan i != tget [] old i)).map (fun i => (i, tget [] old i)))

/-- Root returns in a fall-back by a Root fault of cause 11 (R430). -/
def State.fallRoot (s : State) : State :=
  if s.rootChanged then
    let i := s.activeSet.idx 2
    let s := s.takeDecl (s.activeSet.part i)
    (if s.root.phase = .off ∨ s.root.phase = .stopped then s else s.rootFault 11).partDone i 2 0
  else s

/-- The next action of the sequence once a part is done: the next Canopy partition in order, then Root, then Keeper, then
the end (R423); a fall-back takes Keeper and Root first and ends with the unit parts (R430). `n` bounds the parts. -/
def State.graftNext : Nat → State → State
  | 0, s => s
  | n + 1, s =>
    match s.graft.act.todo with
    | i :: rest =>
      let s := s.modAct (fun a => { a with todo := rest, cur := none })
      let p := s.activeSet.part i
      if p.kind ≠ 3 then State.graftNext n (s.pantryPart p.pid)
      else if (tget Partition.reset s.keeper.partitions p.pid).state != .running then
        State.graftNext n ((((s.takeDecl p).markDone i).partDone i 2 0).pantryPart p.win)
      else
        let ok := match predOf s.oldSet p with | some q => accepts p q | none => false
        if ok && (s.keeper.graftCore.map s.coreAlive).getD true then
          let s := s.modAct (fun a => { a with cur := some i, startAt := s.hw, b := none, noticed := false, yieldAt := none })
          ({ s with keeper.decls := tset PartDecl.reset s.keeper.decls (p.win + 0x100) (declOf p.data) } : State).openWindow (p.win + 0x100)
        else State.graftNext n (s.coldReplace i)
    | [] =>
      if s.graft.act.fallback then (s.unitParts).modAct (fun a => { a with step := 8, cur := none })
      else if s.graft.act.step < 6 then
        let s := s.modAct (fun a => { a with step := 6, cur := none })
        if s.rootChanged ∧ s.root.phase = .running then { s with root.phase := .pause, root.pauseAt := s.hw }
        else
          let i := s.activeSet.idx 2
          let s := if s.rootChanged then ((s.takeDecl (s.activeSet.part i)).markDone i).partDone i 2 0 else s
          State.graftNext n (s.pantryPart 0)
      else if s.graft.act.step < 7 ∧ s.keeperChanged then
        let s := keeperUnits.foldl (fun (s : State) u => s.modUnit u 0 (fun x => { x with valid := false, clearedAt := s.hw })) s
        { (s.modAct (fun a => { a with step := 7, cur := none })) with keeper.paused := true, keeper.pausedAt := s.hw }
      else (s.pantryPart 0xFF).modAct (fun a => { a with step := 8, cur := none })

/-- The number of parts of a set bounds the sequence. -/
def graftFuel : Nat := 130

/-- The declarations and versions of a set come into force (R423 step 8). What a stopped partition owns carries STALE (03 R85). -/
def State.inForce (s : State) (b : BootSet) : State :=
  let s := ((List.range 16).filter (fun p => (s.partition p).state == .stopped)).foldl (fun (s : State) p =>
    match canopyParts b |>.find? (fun i => (b.part i).pid == p) with
    | some i => (declOf (b.part i).data).owns.foldl (fun (s : State) r => s.staleSigs r.1 r.2) s
    | none => s) s
  { s with keeper.decls := setDecls b, keeper.verSet := b.id, keeper.graftCore := graftCoreOf s.variant b,
           keeper.verKeeper := (b.part (b.idx 1)).version, keeper.verRoot := (b.part (b.idx 2)).version,
           keeper.verGnss := (b.part (b.idx 5)).version }

/-- Step 8 (R423): added partitions start, the graft core is selected, VER_SET is set, GRAFT/ACTIVATE_DONE, the confirmation
window starts. -/
def State.activateEnd (s : State) : State :=
  let b := s.activeSet
  let s := s.inForce b
  let s := if s.inRun then (canopyParts b).foldl (fun (s : State) i =>
      let p := b.part i
      if (predOf s.oldSet p).isNone && (tget Partition.reset s.keeper.partitions p.pid).state == .stopped then
        (s.startPartition p.pid).partDone i 3 0 else s) s else s
  let w := (if b.windowMin = 0 then 10 else b.windowMin) * 60
  let a := s.graft.act
  let s := s.modGraft (fun g => { g with act := Activ.reset, trialLeft := w, trialWritten := w, trialAt := s.power.opNs,
                                         dueDone := false })
  let s := s.clearFault 0xC021 0x60 0
  match a.op with
  | some op => s.complete op 0x60 0 249 0xC020 stDone b.id a.pauses
  | none => s

/-- The sequence goes on, and ends when nothing is left to do. -/
def State.graftGo (s : State) : State :=
  let s := State.graftNext graftFuel s
  if s.graft.act.step = 8 ∧ !s.graft.act.fallback then s.activateEnd else s

/-- Removed partitions, in ascending order (R423 step 5). A removal counts as a part cut over (log entry 193). -/
def State.removeGone (s : State) : State :=
  (canopyParts s.oldSet).foldl (fun (s : State) i =>
    let p := s.oldSet.part i
    if (predOf s.activeSet p).isNone then ((s.removePartition p.pid).markDone 0xFFFF).partDone i 4 0 else s) s

/-- The Canopy partitions to take, in ascending part ID: changed ones, and those of which a table or settings part alone is
changed (R423 step 5). An added partition waits for step 8. -/
def State.canopyTodo (s : State) : List Nat :=
  (List.range 16).filterMap (fun p =>
    match s.toChange.find? (fun i => (s.activeSet.part i).kind == 3 && (s.activeSet.part i).pid == p &&
        (predOf s.oldSet (s.activeSet.part i)).isSome) with
    | some i => some i
    | none => s.toChange.find? (fun i => ((s.activeSet.part i).kind == 6 || (s.activeSet.part i).kind == 9) &&
        (s.activeSet.part i).pid == p + 0x10))

/-- The commit of step 3 (R423): the record names the new set, on trial; class B copies are frozen (R431). -/
def State.graftCommit (s : State) : State :=
  s.modGraft (fun g => { g with active := g.freeSlot, trial := true, oldRecs := classB s.attic.files, oldPantry := s.can.pantry,
                                trialLeft := (if g.otherSet.windowMin = 0 then 10 else g.otherSet.windowMin) * 60,
                                trialWritten := (if g.otherSet.windowMin = 0 then 10 else g.otherSet.windowMin) * 60,
                                trialAt := s.power.opNs, dueDone := false })

/-- A preparation window is withdrawn. -/
def State.closePrep (s : State) : State :=
  { s with keeper.windows := s.keeper.windows.filter (fun e => decide (e.1 < 0x100)),
           keeper.decls := s.keeper.decls.filter (fun e => decide (e.1 < 0x100)) }

/-- A fall-back begins (R429, R430): GRAFT/FALLBACK, the record names the other set, then Keeper, Root, partitions in
descending ID, unit parts. `back` names the parts that return where not the whole set does (R427). -/
def State.fallbackStart (s : State) (cause : Nat) (op : Option Op) (back : Option (List (Nat × Nat))) : State :=
  let s := s.raiseEv 0x60 0 249 0xC024 4 0 cause s.activeSet.id s.graft.otherSet.id
  let act : Activ := { Activ.reset with step := 5, op := op, fallback := true, cause := cause, cold := true, back := back }
  let s := ((s.closePrep).modGraft (fun g => { g with active := g.freeSlot, act := act })).restoreB
  let s := s.modAct (fun a => { a with todo := s.canopyTodo.reverse })
  if s.keeperChanged then
    let s := keeperUnits.foldl (fun (s : State) u => s.modUnit u 0 (fun x => { x with valid := false, clearedAt := s.hw })) s
    { (s.modAct (fun a => { a with step := 7 })) with keeper.paused := true, keeper.pausedAt := s.hw }
  else s.fallRoot.graftGo

/-- A GNSS handover that is abandoned with its activation: the old instance runs on with an unchanged generation, which ends the
holds of its commands (02 R64). -/
def State.handoverOff (s : State) : State :=
  if (s.unitSt 0x40 0).phase != .handover || s.graft.act.step = 0 || s.graft.act.fallback then s
  else (s.modUnit 0x40 0 (fun x => { x with phase := .running })).modAct (fun a =>
    { a with done := a.done.filter (fun i => (s.activeSet.part i).kind != 5) })

/-- An abandonment (R427): the record is reverted, GRAFT/ABANDONED raised; parts already cut over return by a fall-back. -/
def State.graftAbandon (s : State) (cause idx : Nat) : State :=
  let s := s.handoverOff
  let a := s.graft.act
  if a.step = 0 then s
  else
    let s := s.raiseEv 0x60 0 249 0xC021 3 0 cause idx 0
    let s := s.closePrep
    let s := match a.op with
      | some op => if a.fallback then s else s.complete op 0x60 0 249 0xC020 stBusy s.activeSet.id 0
      | none => s
    if a.fallback then
      -- a part that cannot be handed back is cold-replaced (R430)
      match a.cur with
      | some i => ((s.modAct (fun a => { a with cur := none })).coldReplace i).graftGo
      | none => s
    else if a.step < 3 then s.modAct (fun _ => Activ.reset)
    else if a.done.isEmpty then
      { (s.modGraft (fun g => { g with active := g.freeSlot, trial := false, act := Activ.reset, oldRecs := [], oldPantry := [] })) with
          keeper.decls := setDecls s.graft.otherSet }
    else s.fallbackStart 3 none (some (a.done.map (fun i => ((s.activeSet.part i).kind, (s.activeSet.part i).pid))))

/-- GRAFT_HASH_DONE (R423 steps 2-5): every part hashed; a mismatch abandons with cause 8, an Attic that takes no write with
cause 7, before the record is written. Then commit; unit parts; removed partitions stop; the first partition is taken. -/
def execGraftHashDone (s : State) : Out :=
  .next (if s.graft.act.step != 2 || s.graft.act.fallback || !s.running 0x60 0 then s
    else match s.graft.otherSet.parts.findIdx? (fun p => sha256 p.data != p.sha) with
    | some i => s.graftAbandon 8 i
    | none =>
      if s.attic.readOnly then s.graftAbandon 7 0xFFFF
      else
        let s := (s.graftCommit.modAct (fun a => { a with step := 5 })).unitParts.removeGone
        (s.modAct (fun a => { a with todo := s.canopyTodo })).graftGo)

/-- Commands named for the partition being handed over: its part and PART_ID. -/
def State.curPart (s : State) : Option (Nat × PartEnt) := s.graft.act.cur.map (fun i => (i, s.activeSet.part i))

/-- GRAFT_HANDOVER_NOTICE (R424): at b - 5 ms, or at once, in the old instance's window. -/
def execGraftHandoverNotice (s : State) : Out :=
  .next (
    match s.curPart, s.graft.act.b with
    | some (_, p), some b =>
      if s.graft.act.noticed then s
      else
        let s := s.waitTo (b - 5000000)
        (s.postIn p.win 250 0xC010 0 p.win (usOf b) (usOf (b + 20000000))).modAct (fun a => { a with noticed := true })
    | _, _ => s)

/-- GRAFT.YIELD (R424): the old instance's cores halt; GRAFT/STATE_READY in the preparation window. -/
def verbGraftYield : Verb :=
  { unit := 0x60, verb := 0x16, lenOk := lenIs 4, instOk := inst0, query := false, rt := false, perm := none,
    body := fun r s =>
      match s.curPart, s.graft.act.b with
      | some (_, p), some b =>
        if r.win ≠ p.win then (s, stNotPermitted, [])
        else if s.hw < b ∨ s.graft.act.yieldAt.isSome then (s, stBusy, [])
        else
          let n := u32 r.payload 0
          let s := { s with keeper.partitions := tmod Partition.reset s.keeper.partitions p.pid (fun q => { q with state := .paused }) }
          let s := s.modAct (fun a => { a with yieldAt := some s.hw, payload := n })
          (s.postIn (p.win + 0x100) 250 0xC011 0 p.win n (usOf (s.hw + 50000000)), stDone, [])
      | _, _ => (s, stNotPermitted, []) }

/-- GRAFT.TAKE (R424): phase 0 reports readiness and fixes b; phase 1 moves the new instance to its cores. -/
def verbGraftTake : Verb :=
  { unit := 0x60, verb := 0x17, lenOk := lenIs 4, instOk := inst0, query := false, rt := false, perm := none,
    body := fun r s =>
      match s.curPart with
      | some (i, p) =>
        if r.win ≠ p.win + 0x100 then (s, stNotPermitted, [])
        else
          let ph := u8 r.payload 0
          if ph > 1 then (s, stRange, [])
          else if ph = 0 then
            let per := p.cutPeriod * 1000
            let pha := p.cutPhase * 1000
            let from' := s.hw + 10000000
            let b := if from' ≤ pha then pha else pha + (from' - pha + per - 1) / per * per
            (s.modAct (fun a => { a with b := match a.b with | some b => some b | none => some b }), stDone, [])
          else match s.graft.act.yieldAt with
            | none => (s, stBusy, [])
            | some y =>
              let pause := (s.hw - y) / 1000
              let s := (s.takeDecl p)
              let s := { s with keeper.partitions := tmod Partition.reset s.keeper.partitions p.pid (fun q =>
                  { q with state := .running, cores := (declOf p.data).cores }) }
              let s := (s.modAct (fun a => { a with cur := none, b := none, yieldAt := none })).markDone i
              let s := (s.pantryPart p.win).partDone i 1 pause
              ((s.modWin (p.win + 0x100) (fun x => { x with running := false })).graftGo, stDone, [])
      | none => (s, stNotPermitted, []) }

/-- GRAFT_READY_TIMEOUT (R424): 60 s from the start of the new instance. -/
def execGraftReadyTimeout (s : State) : Out :=
  .next (
    match s.curPart, s.graft.act.b with
    | some (i, _), none => (s.waitTo (s.graft.act.startAt + 60000000000)).graftAbandon 1 i
    | _, _ => s)

/-- GRAFT_YIELD_TIMEOUT (R424): b + 20 ms without a yield. -/
def execGraftYieldTimeout (s : State) : Out :=
  .next (
    match s.curPart, s.graft.act.b, s.graft.act.yieldAt with
    | some (i, _), some b, none => (s.waitTo (b + 20000000)).graftAbandon 2 i
    | _, _, _ => s)

/-- GRAFT_TAKE_TIMEOUT (R424): YIELD + 50 ms without a take; the old instance resumes from its yield. -/
def execGraftTakeTimeout (s : State) : Out :=
  .next (
    match s.curPart, s.graft.act.yieldAt with
    | some (i, p), some y =>
      let s := s.waitTo (y + 50000000)
      ({ s with keeper.partitions := tmod Partition.reset s.keeper.partitions p.pid (fun q => { q with state := .running }) }).graftAbandon 3 i
    | _, _ => s)

/-- Root runs again after its pause (R426): the control block stands, the watchdog restarts with an open window (18 R391), and the
faults of the pause in the Cellar inbox reach it (03 R93). -/
def State.rootResume (s : State) : State :=
  { s with root.phase := .running, root.serviceAt := s.hw, root.tminUse := 0, faults.rootSeen := s.faults.rootSeen ++ s.faults.inbox,
           faults.inbox := [] }

/-- ROOT_CUTOVER (R426): Root runs its new image within 15 ms of the pause; it is not a Root start. -/
def execRootCutover (s : State) : Out :=
  .next (if s.graft.act.step != 6 || s.root.phase != .pause || decide (s.hw > s.root.pauseAt + 15000000) then s
    else
      let pause := (s.hw - s.root.pauseAt) / 1000
      let i := s.activeSet.idx 2
      let s := (s.rootResume.takeDecl (s.activeSet.part i)).unitStop 0x50 0 2 false
      let s := s.unitRun 0x50 0
      let s := (s.modAct (fun a => { a with pauses := a.pauses + pause })).markDone i
      ((s.pantryPart 0).partDone i 1 pause).graftGo)

/-- One of them. -/
def State.postOne (s : State) (d : Deferred) : State :=
  if !d.only then s.deliver d.unit d.inst d.ev d.cmd
  else { s with keeper.windows := s.keeper.windows.map (fun (k, x) =>
    if x.running && (d.cmd.isNone || d.cmd == some k) then (k, x.postEvent s.hw d.ev) else (k, x)) }

/-- Keeper's events kept during the pause are posted at its release (02 R67). -/
def State.postDeferred (s : State) : State :=
  let l := s.keeper.deferred
  l.foldl State.postOne { s with keeper.deferred := [] }

/-- The release that ends a Keeper pause after a cutover (02 R67): generations up and KEEPER/UNIT_RESTART with cause 2 stamped
at the latch for each unit, then what happened in the pause, then VALID set and KEEPER/UNIT_READY, so that source 0 stays in
stamp order (03 R90). -/
def State.keeperRelease (s : State) : State :=
  let at' := s.keeper.pausedAt
  let us := (s.hw - at') / 1000
  let s := s.unpause
  let s := keeperUnits.foldl (fun (s : State) u =>
    let old := s.gen u 0
    let s := s.modUnit u 0 (fun x => { x with gen := nextGen x.gen })
    s.postAt at' 1 0 0 0x0001 (16777216 * u) (old + 65536 * s.gen u 0) 2 0) s
  let s := s.postDeferred
  keeperUnits.foldl (fun (s : State) u =>
    (s.modUnit u 0 (fun x => { x with valid := true })).keeperEv 0x0002 (16777216 * u) (s.gen u 0) us 0) s

/-- The Keeper cutover within its pause (R426); the sequence goes on after it. -/
def State.keeperCutover (s : State) : State :=
  if !s.keeper.paused || s.graft.act.step != 7 || decide (s.hw > s.keeper.pausedAt + 35000000) then s
  else
    let pause := (s.hw - s.keeper.pausedAt) / 1000
    let i := s.activeSet.idx 1
    let s := s.keeperRelease
    let s := (s.modAct (fun a => { a with pauses := a.pauses + pause })).markDone i
    let s := (s.pantryPart 0xFF).partDone i 1 pause
    (if s.graft.act.fallback then s.fallRoot else s).graftGo

/-- The old Keeper resumes from its pause: VALID of its units is set again with their generations unchanged (R426). -/
def State.keeperResume (s : State) : State :=
  (keeperUnits.foldl (fun (s : State) u => s.modUnit u 0 (fun x => { x with valid := true })) s.unpause).postDeferred

/-- The new Keeper is not ready at 35 ms (R426): the old Keeper resumes, cause 5. Its units keep their generations, VALID is set
again and no KEEPER/UNIT_READY is posted, since no unit stopped (log entry 30). -/
def State.keeperCutoverFail (s : State) : State :=
  if !s.keeper.paused || s.graft.act.step != 7 then s
  else
    let s := s.waitTo (s.keeper.pausedAt + 35000000)
    let i := s.activeSet.idx 1
    let s := s.keeperResume
    if s.graft.act.fallback then (s.raiseEv 0x60 0 249 0xC021 3 0 5 i 0).fallRoot.graftGo else s.graftAbandon 5 i

/-! ### Confirmation and fall-back (R428-R430) -/

/-- Seconds of the confirmation window remaining, in operating time (R428). -/
def State.trialRemaining (s : State) : Nat := s.graft.trialLeft - (s.power.opNs - s.graft.trialAt) / 1000000000

/-- The whole window in seconds. -/
def State.trialWindow (s : State) : Nat := (if s.activeSet.windowMin = 0 then 10 else s.activeSet.windowMin) * 60

/-- GRAFT.CONFIRM (R428, R416). -/
def verbGraftConfirm : Verb :=
  { unit := 0x60, verb := 0x14, lenOk := lenIs 4, instOk := inst0, query := false, rt := false, perm := none,
    body := fun r s =>
      let b := s.activeSet
      if r.win ≠ b.confirmer then (s, stNotPermitted, [])
      else if u32 r.payload 0 ≠ s.keeper.verSet then (s, stRange, [])
      else if !s.graft.trial || s.graft.act.step != 0 then (s, stBusy, [])
      else
        let s := s.modGraft (fun g => { (g.putOther BootSet.reset) with
          trial := false, minSec := max g.minSec b.secver, oldRecs := [], oldPantry := [] })
        ((s.post 0x60 0 249 0xC023 0 b.id s.graft.minSec 0).clearFault 0xC024 0x60 0, stDone, []) }

/-- GRAFT_CONFIRM_DUE (R428): 10 % of the window remains. -/
def execGraftConfirmDue (s : State) : Out :=
  .next (if !s.graft.trial || s.graft.dueDone || s.graft.act.step != 0 || !s.operating then s
    else
      let left := s.trialWindow / 10
      let s := s.waitOp (s.graft.trialAt + (s.graft.trialLeft - left) * 1000000000)
      (s.post 0x60 0 249 0xC022 0 s.activeSet.id s.trialRemaining 0).modGraft (fun g => { g with dueDone := true }))

/-- GRAFT_TRIAL_COUNT_WRITE (R428): every 60 s of operating time. -/
def execGraftTrialCountWrite (s : State) : Out :=
  .next (if !s.graft.trial || !s.operating then s
    else
      let s := s.waitOp (s.graft.trialAt + 60000000000)
      let left := s.trialRemaining
      s.modGraft (fun g => { g with trialLeft := left, trialWritten := left, trialAt := s.power.opNs }))

/-- GRAFT_CONFIRM_TIMEOUT (R429 cause 1). -/
def execGraftConfirmTimeout (s : State) : Out :=
  .next (if !s.graft.trial || s.graft.act.step != 0 || !s.operating then s
    else (s.waitOp (s.graft.trialAt + s.graft.trialLeft * 1000000000)).fallbackStart 1 none none)

/-- GRAFT.FALLBACK (R429 cause 2). -/
def verbGraftFallback : Verb :=
  { unit := 0x60, verb := 0x15, lenOk := lenIs 4, instOk := inst0, query := false, rt := false, perm := none,
    body := fun r s =>
      if !s.graft.trial || s.graft.act.step != 0 then (s, stBusy, [])
      else if u32 r.payload 0 ≠ s.keeper.verSet then (s, stRange, [])
      else (s.fallbackStart 2 (some { win := r.win, tag := r.tag }) none, stAccepted, []) }

/-- GRAFT_BOOT_TIMEOUT (R429 cause 4): a trunk start of the trial set not ready in 5 s; the second boots the fall-back set. -/
def execGraftBootTimeout (s : State) : Out :=
  .next (if !s.graft.trial || s.power.trunkDue = 0 || s.trunkOn then s
    else if s.graft.bootFails + 1 < 2 then s.modGraft (fun g => { g with bootFails := g.bootFails + 1 })
    else
      s.modGraft (fun g => { g with bootFails := 0, active := g.freeSlot, act := { Activ.reset with step := 8, fallback := true, cause := 4 } }))

/-- A trunk start in a fall-back or after a loss past the commit (R423, R429, R431): the class B copy of the set that boots and
its plate and fan tables come into force; the event of cause 4 is posted after the start. -/
def State.graftTrunkStart (s : State) : State :=
  let a := s.graft.act
  if a.step = 0 then s
  else
    let s := if a.fallback then s.restoreB else s
    let s := s.toChange.foldl (fun (s : State) i =>
      if a.done.contains i then s
      else
        let s := s.keptTable (s.activeSet.part i)
        if a.fallback then s else s.loadTable (s.activeSet.part i)) s
    if !a.fallback then s.modAct (fun _ => Activ.reset)
    else if a.cause = 4 then s.raiseEv 0x60 0 249 0xC024 4 0 4 s.graft.otherSet.id s.activeSet.id
    else s

/-- GRAFT_FALLBACK_DONE (R430): partitions the trial set added stop, removed ones start; the record names the fall-back set
with no trial. -/
def execGraftFallbackDone (s : State) : Out :=
  .next (
    let a := s.graft.act
    if !a.fallback || a.step != 8 || !a.todo.isEmpty || a.cur.isSome || s.keeper.paused || !s.running 0x60 0 then s
    else
      let s := s.removeGone
      let b := s.activeSet
      let s := s.inForce b
      let s := if s.inRun then (canopyParts b).foldl (fun (s : State) i =>
          let p := b.part i
          if (tget Partition.reset s.keeper.partitions p.pid).state == .stopped then (s.startPartition p.pid).partDone i 3 0 else s) s else s
      let s := s.modGraft (fun g => { (g.putOther BootSet.reset) with
        trial := false, act := Activ.reset, oldRecs := [], oldPantry := [] })
      match a.op with
      | some op => s.complete op 0x60 0 249 0xC025 stDone a.coldCount b.id
      | none => s.post 0x60 0 249 0xC025 0 (65536 * s.gen 0x60 0) a.coldCount b.id)

/-- Graft work blocks park entry (21 R460). -/
def State.graftBusy (s : State) : Bool := s.graft.act.step != 0 || (s.graft.installing && !s.graft.trial)

/-- The trial's count goes to the activation record (R428). -/
def State.trialWrite (s : State) : State :=
  if !s.graft.trial then s
  else
    let left := s.trialRemaining
    s.modGraft (fun g => { g with trialLeft := left, trialWritten := left, trialAt := s.power.opNs })

/-- A supply loss or shutdown in an activation (R423): before the commit the active set stays; after it the new set boots, its
parts not yet taken coming into force at the next trunk start (step 9). -/
def State.graftLoss (s : State) : State :=
  s.modGraft (fun g =>
    { g with act := if g.act.fallback then { Activ.reset with step := 8, fallback := true, cause := 0, op := none }
                    else if g.act.step < 5 then Activ.reset
                    else { Activ.reset with step := 9, done := g.act.done } })

/-- A Root fault in its cutover pause (R426): cause 6. -/
def State.graftRootFault (s : State) : State := s.graftAbandon 6 (s.activeSet.idx 2)

/-- The partition being handed over that has yielded resumes from its YIELD (R424, R427). -/
def State.resumeYielded (s : State) : State :=
  match s.curPart, s.graft.act.yieldAt with
  | some (_, p), some _ => s.modPartition p.pid (fun q => { q with state := .running })
  | _, _ => s

/-- A pause of an activation that is abandoned ends: the old Root and the old Keeper run again (R426, R427). -/
def State.pausesOff (s : State) : State :=
  let s := if s.graft.act.step = 6 ∧ s.root.phase = .pause then s.rootResume else s
  if s.graft.act.step = 7 ∧ s.keeper.paused then s.keeperResume else s

/-- The failure of a bough die during an activation abandons it first (R427). A fall-back goes on, its pause included, but a
partition being handed back is replaced cold (R430). -/
def State.graftFailover (s : State) : State :=
  if s.graft.act.step = 0 ∨ (s.graft.act.fallback ∧ s.graft.act.cur.isNone) then s
  else
    let s := if s.graft.act.fallback then s else s.pausesOff
    s.resumeYielded.graftAbandon 4 (s.graft.act.cur.getD 0xFFFF)

/-- GRAFT.STATUS. -/
def verbGraftStatus : Verb :=
  { unit := 0x60, verb := 0x01, lenOk := lenIs 0, instOk := inst0, query := true, rt := true, perm := none,
    body := fun _ s =>
      let g := s.graft
      let h := g.inc.header
      let installed := g.otherSet.present && !g.trial
      (s, stDone, b8 (if g.installing then 2 else if !h.isEmpty then 1 else if installed then 3 else 0) ++
        b8 (if g.act.fallback then 3 else if g.act.step != 0 then 1 else if g.trial then 2 else 0) ++
        b16 (if h.isEmpty then 0 else hdrParts h) ++ b32 (if h.isEmpty then 0 else u32 h 16) ++ b32 g.inc.pieces.length ++
        b32 (if h.isEmpty then 0 else hdrPieces h) ++ b32 s.keeper.verSet ++ b32 (if g.trial then g.otherSet.id else 0) ++
        b32 (if g.trial then s.trialRemaining else 0) ++ b32 g.minSec) }

/-- GRAFT.STATUS. -/
def execGraftStatus (r : Req) (s : State) : Out := mailboxRow verbGraftStatus r s
/-- GRAFT.MISSING. -/
def execGraftMissing (r : Req) (s : State) : Out := mailboxRow verbGraftMissing r s
/-- GRAFT.OPEN. -/
def execGraftOpen (r : Req) (s : State) : Out := mailboxRow verbGraftOpen r s
/-- GRAFT.PIECE. -/
def execGraftPiece (r : Req) (s : State) : Out := mailboxRow verbGraftPiece r s
/-- GRAFT.DISCARD. -/
def execGraftDiscard (r : Req) (s : State) : Out := mailboxRow verbGraftDiscard r s
/-- GRAFT.ACTIVATE. -/
def execGraftActivate (r : Req) (s : State) : Out := mailboxRow verbGraftActivate r s
/-- GRAFT.CONFIRM. -/
def execGraftConfirm (r : Req) (s : State) : Out := mailboxRow verbGraftConfirm r s
/-- GRAFT.FALLBACK. -/
def execGraftFallbackCmd (r : Req) (s : State) : Out := mailboxRow verbGraftFallback r s
/-- GRAFT.YIELD. -/
def execGraftYield (r : Req) (s : State) : Out := mailboxRow verbGraftYield r s
/-- GRAFT.TAKE. -/
def execGraftTake (r : Req) (s : State) : Out := mailboxRow verbGraftTake r s

end Sys2Proof.Machine
end

