-- ==== Sys2Proof/Machine/Body.lean ====
section
/-! DEFINITION. Machine/Body.lean: the body services of chapter 12: flasher, wipers, central locking, windows and output
sets (R292-R300). -/

namespace Sys2Proof.Machine

/-- The kind a service instance serves (R292). -/
def bodyKind (i : Nat) : Nat := if i = 0 then 1 else if i < 3 then 2 else if i = 3 then 3 else if i < 8 then 4 else 5

/-- The host-assisted function of a service (R299). -/
def bodyKey (i : Nat) : Nat := hostKey 0x25 0 i

/-- BODY firmware runs: the unit runs and no Keeper pause stops it (R300). -/
def State.bodyRuns (s : State) : Bool := s.operating && s.running 0x25 0 && !s.keeper.paused

/-- The host, not the hardware logic, drives the service now. -/
def State.bodyHosted (s : State) (i : Nat) : Bool := s.isHost (bodyKey i) && !(s.hostFn (bodyKey i)).inSafe

/-- A parameter, its default taken for 0. -/
def BodySvc.par (x : BodySvc) (j dflt : Nat) : Nat := let v := x.params.getD j 0; if v = 0 then dflt else v

/-! ### Input sources (R292) -/

/-- A source's value: active, invalid. An invalid source counts as inactive. -/
def State.bodySource (s : State) (q : BodySrc) : Bool × Bool :=
  match q.kind with
  | 1 => let w := tget Sw.reset s.swin.sw q.a; (w.state && !w.chatter, w.chatter)
  | 2 =>
    let f := tget LinFrame.reset (tget LinCh.reset s.body.lin q.a).frames (bits q.b 13 8)
    let inv := f.stale || !f.ever
    let k := bits q.b 5 0
    (!inv && bit (u8 f.data (k / 8)) (k % 8), inv)
  | 3 =>
    let g := s.sig q.b
    let inv := !bit g.flags 0 || bit g.flags 1
    (!inv && fLe (fFrac 1 2) g.value, inv)
  | _ => (false, false)

/-- The sources of a service as bits: active, invalid. -/
def State.bodySources (s : State) (i : Nat) : Nat × Nat :=
  let l := (s.svc i).srcs
  let idx := List.range (min 4 l.length)
  (bitSet (idx.filter (fun j => (s.bodySource (l.getD j BodySrc.reset)).1)),
   bitSet (idx.filter (fun j => (s.bodySource (l.getD j BodySrc.reset)).2)))

/-! ### What a service drives (R292) -/

/-- Output slots of a service: position and output ID, bridges apart. -/
def BodySvc.slots (x : BodySvc) : List (Nat × Nat) :=
  (List.range 8).filterMap (fun j => let o := x.outs.getD j 0xFF; if o < 72 then some (j, o) else none)

/-- Bridges of a service. -/
def BodySvc.bridges (x : BodySvc) : List Nat :=
  (x.outs.take 8).filterMap (fun o => if 0x80 ≤ o ∧ o < 0x88 then some (o - 0x80) else none)

/-- The service applies a set of its outputs at precedence 5 (R292). A channel that the Cellar still drives for the hazard
flash is taken over, and its slots are free again (R294, 11 R272); those armed at park entry stand. -/
def State.bodyDrive (s : State) (i mask : Nat) : State :=
  let x := s.svc i
  let s := if s.power.state = .parking then s else
    (x.parkSlots.foldl (fun (s : State) k => (s.parkRelease k).modPark k (fun _ => ParkHold.reset)) s).modSvc i (fun x =>
      { x with parkSlots := [] })
  let s := s.modSvc i (fun x => { x with applied := mask % 256 })
  let ids := (x.slots.map (·.2)).eraseDups
  ids.foldl (fun (s : State) o =>
    let v := if x.slots.any (fun e => e.2 == o && mask.testBit e.1) then fOne else fZero
    ((s.takeOver o).modOut o (fun c => { c with mailbox := v })).outEval o false) s

/-- The outputs a service's hardware logic wants on, by its phase. -/
def BodySvc.want (x : BodySvc) : Nat :=
  match x.kind with
  | 1 =>
    let side := if x.comfort ≠ 0 then x.newest else x.eff
    (if (side = 1 ∨ side = 3) ∧ x.phaseOn then 0x0F else 0) + (if (side = 2 ∨ side = 3) ∧ x.phaseOn2 then 0xF0 else 0)
  | 2 =>
    if x.wipePhase = 1 then (if x.eff = 3 then 2 else 1)
    else if x.wipePhase = 2 ∨ x.wipePhase = 5 then 1 else 0
  | 5 => if (x.state = 1 ∨ x.state = 2) ∧ (x.params.getD 0 0 = 0 ∨ x.phaseOn) then 0xFF else 0
  | _ => 0

/-- Apply what the hardware logic wants. -/
def State.bodyApply (s : State) (i : Nat) : State :=
  let m := (s.svc i).want
  if m = (s.svc i).applied ∧ (s.svc i).parkSlots = [] then s else s.bodyDrive i m

/-! ### Flasher (R294) -/

/-- The first bound output of a side that carries OUT/OPEN_LOAD. -/
def State.sideOpen (s : State) (i side : Nat) : Option Nat :=
  ((s.svc i).slots.find? (fun e => e.1 / 4 == side && (s.out e.2).openLoad)).map (·.2)

/-- BODY/LAMP_OUT follows the open loads of the two sides (R294). -/
def State.lampOuts (s : State) (i : Nat) : State :=
  let old := (s.svc i).lampOut
  let a := s.sideOpen i 0
  let b := s.sideOpen i 1
  let new := b2n a.isSome + 2 * b2n b.isSome
  if (s.svc i).kind ≠ 1 ∨ new = old then s
  else
    let s := s.modSvc i (fun x => { x with lampOut := new })
    let s := match a with | some o => if bit old 0 then s else s.raiseEv 0x25 i 167 0x5202 1 i 1 o 0 | none => s
    let s := match b with | some o => if bit old 1 then s else s.raiseEv 0x25 i 167 0x5202 1 i 2 o 0 | none => s
    if new = 0 then s.clearFault 0x5202 0x25 i else s

/-- Flash times of a side in ns: on-phase and off-phase; a side with a lamp out flashes at twice the rate. -/
def BodySvc.flashTimes (x : BodySvc) (side : Nat) : Nat × Nat :=
  let T := 60000000000 / x.par 0 90 / (if x.lampOut.testBit side then 2 else 1)
  let on := T * x.par 1 50 / 100
  (on, T - on)

/-- The request of the flasher: hazard, else the most recently asserted of left and right, else off (R293). -/
def BodySvc.flasherReq (x : BodySvc) : Nat :=
  let l := x.act.testBit 0 || x.cmd == 1
  let r := x.act.testBit 1 || x.cmd == 2
  if x.act.testBit 2 || x.cmd == 3 then 3
  else if l && r then x.newest else if l then 1 else if r then 2 else 0

/-- The flash phase starts again with an on-phase on both sides (R294). -/
def State.flashStart (s : State) (i : Nat) : State :=
  let s := s.lampOuts i
  s.modSvc i (fun x => { x with phaseOn := true, phaseOn2 := true, phaseAt := s.hw + (x.flashTimes 0).1,
                                phaseAt2 := s.hw + (x.flashTimes 1).1, flashes := 1 })

/-- The flasher after its sources or its command changed (R293, R294): `fell` are the sources that became inactive. -/
def State.flasherEval (s : State) (i fell : Nat) : State :=
  let x := s.svc i
  let new := x.flasherReq
  let quick (j : Nat) : Bool := fell.testBit j && decide (s.hw < x.srcSince.getD j 0 + 500000000)
  let p2 := x.params.getD 2 0
  if new ≠ 0 then
    if new = x.eff ∧ x.comfort = 0 then s
    else if x.comfort ≠ 0 ∧ new = x.newest ∧ new ≠ 3 then
      (s.modSvc i (fun x => { x with eff := new, comfort := 0 })).bodyState i new
    else ((s.modSvc i (fun x => { x with eff := new, comfort := 0 })).flashStart i).bodyState i new
  else if x.eff = 0 then s
  else if (quick 0 || quick 1) && x.eff != 3 && decide (x.flashes < p2 ∨ (x.flashes = p2 ∧ (if x.eff = 1 then x.phaseOn else x.phaseOn2))) then
    s.modSvc i (fun x => { x with eff := 0, comfort := p2, newest := x.eff })
  else (s.modSvc i (fun x => { x with eff := 0, comfort := 0, phaseOn := false, phaseOn2 := false })).bodyState i 0

/-! ### Wipers (R295) -/

/-- The level request of a wiper: the highest of fast, slow, interval and off (R293). -/
def BodySvc.wiperReq (x : BodySvc) : Nat :=
  max x.cmd (if x.act.testBit 2 then 3 else if x.act.testBit 1 then 2 else if x.act.testBit 0 then 1 else 0)

/-- The wiper takes a phase: 0 stopped, 1 running, 2 park run, 3 interval wait, 4 changeover, 5 one wipe. -/
def State.wipe (s : State) (i phase delay : Nat) : State :=
  (s.modSvc i (fun x => { x with wipePhase := phase, wipeAt := s.hw + delay,
                                 wipeLeft := !x.act.testBit 3 })).bodyState i phase

/-- The park-run limit in ns. -/
def BodySvc.parkLimit (x : BodySvc) : Nat := x.par 1 5000 * 1000000

/-- The slow or fast output that the phase drives with a request: 0 none, 1 slow, 2 fast. -/
def wipeOut (phase eff : Nat) : Nat := if phase = 1 then (if eff = 3 then 2 else 1) else if phase = 2 ∨ phase = 5 then 1 else 0

/-- The phase that serves a level request: running, one wipe, or the park run. -/
def wipePhaseOf (eff : Nat) : Nat := if eff ≥ 2 then 1 else if eff = 1 then 5 else 2

/-- The wiper after its request changed (R295): a change between slow and fast switches both off for 50 ms first. -/
def State.wiperEval (s : State) (i : Nat) : State :=
  let x := s.svc i
  let new := x.wiperReq
  if new = x.eff then s
  else
    let s := s.modSvc i (fun x => { x with eff := new })
    let was := wipeOut x.wipePhase x.eff
    let p := wipePhaseOf new
    let out := wipeOut p new
    if x.wipePhase = 4 then s
    else if was ≠ 0 ∧ was ≠ out then s.wipe i 4 50000000
    else if new = 0 ∧ (x.wipePhase = 0 ∨ x.wipePhase = 3) then s.wipe i 0 0
    else if new = 1 ∧ (x.wipePhase = 5 ∨ x.wipePhase = 3) then s
    else s.wipe i p (if p = 2 then x.parkLimit else 0)

/-! ### Locking and windows (R296, R297) -/

/-- A service drives a bridge with HB.DRIVE, which a latched or hot bridge and a bridge that Root holds off refuse (R296, 11 R279). -/
def State.bodyMove (s : State) (n action : Nat) (duty : F32) (target : Option Int) (limitMs : Nat) : State :=
  let b := s.hb n
  if b.shorted || b.hot || b.safetyOff then s else s.hbMove n action duty none target limitMs

/-- A lock (1), unlock (2) or crash-unlock (3) request (R297). -/
def State.lockReq (s : State) (i code : Nat) : State :=
  let x := s.svc i
  if code ≠ 3 ∧ x.inhibitEnd.isSome then s
  else
    let live := x.cycles.filter (fun t => decide (s.hw < t + 30000000000))
    let cyc := if code = 3 then live else live ++ [s.hw]
    let s := s.modSvc i (fun x => { x with eff := code, cycles := cyc, crash := code == 3,
                                           pulseEnd := some (s.hw + x.par 0 300 * 1000000) })
    let s := x.bridges.foldl (fun (s : State) n => s.bodyMove n (if code = 1 then 1 else 2) (fFrac (x.params.getD 1 0) 100) none 0) s
    let s := s.bodyState i code
    if code ≠ 3 ∧ cyc.length > x.par 2 10 then
      (s.modSvc i (fun x => { x with inhibitEnd := some (s.hw + 30000000000) })).raiseEv 0x25 i 169 0x5204 1 i cyc.length 0 0
    else s

/-- A window request (R296): 0 stop, 1 up, 2 down, 3 auto up, 4 auto down. -/
def State.windowReq (s : State) (i code : Nat) (bySrc : Bool) : State :=
  let x := s.svc i
  match x.bridges with
  | [] => s.modSvc i (fun x => { x with eff := code })
  | n :: _ =>
    let b := s.hb n
    if code = 0 then
      let moving := b.action == 1 || b.action == 2 || b.revPend.isSome
      let s := s.modSvc i (fun x => { x with eff := 0, bySrc := false })
      (if moving then s.hbEnd n 4 true else s).bodyState i 0
    else
      let sure := b.ripple && b.reliable
      let code := if code = 3 ∧ (x.autoInhibit.isSome ∨ !sure) then 1 else if code = 4 ∧ !sure then 2 else code
      let up := code == 1 || code == 3
      let target : Option Int := if sure then some (if up then (x.params.getD 0 0 : Nat) else 0) else none
      let s := s.modSvc i (fun x => { x with eff := code, bySrc := bySrc })
      (s.bodyMove n (if up then 1 else 2) (fFrac (x.params.getD 1 0) 100) target (x.params.getD 2 0)).bodyState i code

/-- Edges of a locking or window service's sources (R293): the newest request replaces the one in progress; a released
manual window source stops its move with a brake. -/
def State.edgeEval (s : State) (i rose : Nat) : State :=
  let x := s.svc i
  if x.kind = 3 then
    [0, 1, 2].foldl (fun (s : State) j => if rose.testBit j then s.lockReq i (j + 1) else s) s
  else
    let held := (x.eff = 1 ∧ (x.act.testBit 0 || x.act.testBit 2)) ∨ (x.eff = 2 ∧ (x.act.testBit 1 || x.act.testBit 3))
    let s := if x.bySrc ∧ (x.eff = 1 ∨ x.eff = 2) ∧ !held then s.windowReq i 0 false else s
    [0, 1, 2, 3].foldl (fun (s : State) j => if rose.testBit j then s.windowReq i (j + 1) true else s) s

/-! ### Output sets (R298) -/

/-- An output set goes off. -/
def State.setOff (s : State) (i n : Nat) : State :=
  (s.modSvc i (fun x => { x with phaseOn := false, offAt := none })).bodyState i n

/-- An output set after its request changed: states 0 off, 1 on, 2 delay-off, 3 switched off by the maximum-on rule. -/
def State.setEval (s : State) (i : Nat) : State :=
  let x := s.svc i
  let on := x.act != 0 || x.cmd == 1
  if on == (x.eff == 1) then s
  else
    let s := s.modSvc i (fun x => { x with eff := b2n on })
    if on then
      let fresh := x.state != 2
      let s := s.modSvc i (fun x =>
        { x with onSince := some s.hw, offAt := none, maxed := false, phaseOn := x.phaseOn || fresh,
                 phaseAt := if fresh then s.hw + x.params.getD 1 0 * 1000000 else x.phaseAt })
      s.bodyState i 1
    else
      let s := s.modSvc i (fun x => { x with onSince := none, maxed := false })
      let d := x.params.getD 4 0
      if x.maxed ∨ d = 0 then s.setOff i 0
      else (s.modSvc i (fun x => { x with offAt := some (s.hw + d * 1000000000) })).bodyState i 2

/-! ### Evaluation (R293) -/

/-- The service's hardware logic, after its sources rose and fell. -/
def State.bodyHw (s : State) (i rose fell : Nat) : State :=
  match (s.svc i).kind with
  | 1 => ((s.flasherEval i fell).lampOuts i).bodyApply i
  | 2 => (s.wiperEval i).bodyApply i
  | 3 => s.edgeEval i rose
  | 4 => s.edgeEval i rose
  | 5 => (s.setEval i).bodyApply i
  | _ => s

/-- A service's sources are read again; the hardware logic acts on a change (R293). A source of a locking or window service that is
active at the first reading has not become active (log entry 129). -/
def State.bodyEval (s : State) (i : Nat) : State :=
  let x := s.svc i
  if x.kind = 0 then s
  else
    let (act, inv) := s.bodySources i
    let rose := if !x.seen ∧ (x.kind = 3 ∨ x.kind = 4) then 0 else clearBits act x.act
    let fell := clearBits x.act act
    let since := (List.range 4).map (fun j => if rose.testBit j then s.hw else x.srcSince.getD j 0)
    let newest := if rose.testBit 0 then 1 else if rose.testBit 1 then 2 else x.newest
    let s := s.modSvc i (fun x =>
      { x with seen := true, act := act, inv := inv, srcSince := if rose = 0 then x.srcSince else since,
               newest := if x.kind = 1 then newest else x.newest })
    if s.bodyHosted i then s else s.bodyHw i rose fell

/-- BODY_SOURCE_CHANGE (R293) of every service, while BODY runs and no park entry has stopped the services (R300). -/
def State.bodyEvalAll (s : State) : State :=
  if s.bodyRuns && s.power.state != .parking then (List.range 16).foldl State.bodyEval s else s

/-- The hardware logic takes a service over from its current inputs (R299 safe action, 02 R70): moves end, requests are
read afresh. -/
def State.bodyTake (s : State) (i : Nat) : State :=
  let x := s.svc i
  let s := x.bridges.foldl (fun (s : State) n => if (s.hb n).action = 1 ∨ (s.hb n).action = 2 then s.hbEnd n 4 true else s) s
  let s := s.modSvc i (fun x => { x with eff := 0, comfort := 0, wipePhase := 0, pulseEnd := none, offAt := none, onSince := none,
                                         maxed := false, phaseOn := false, phaseOn2 := false, bySrc := false })
  (s.bodyEval i).bodyHw i 0 0

/-- The safe action of a judged miss (R299): the first period in safe action starts the hardware logic. -/
def State.bodyMiss (s : State) (i : Nat) : State :=
  let h := s.hostFn (bodyKey i)
  if h.inSafe ∧ h.misses = h.holdLast + 1 then s.bodyTake i else s

/-! ### Commands (R292, R298) -/

/-- A source field is in range: NOT_PERMITTED only for a missing read right. -/
def srcOk (q : BodySrc) : Bool :=
  match q.kind with
  | 0 => true
  | 1 => decide (q.a < 48) && q.b == 0
  | 2 => decide (q.a < 4) && bits q.b 15 14 == 0 && bits q.b 7 6 == 0
  | 3 => q.a == 0 && decide (q.b < 0x1000)
  | _ => false

/-- The output field of a service's slot fits its kind (R292). -/
def outOk (kind j o : Nat) : Bool :=
  o == 0xFF ||
    match kind with
    | 1 => decide (o < 72)
    | 2 => decide (o < 72 ∧ j < 2)
    | 3 => decide (0x80 ≤ o ∧ o < 0x88)
    | 4 => decide (0x80 ≤ o ∧ o < 0x88 ∧ j = 0)
    | _ => decide (o < 72)

/-- The parameters fit the kind (R292). -/
def bodyParOk (kind : Nat) (p : List Nat) : Bool :=
  let v := fun j => p.getD j 0
  let z := fun (j lo hi : Nat) => v j == 0 || decide (lo ≤ v j ∧ v j ≤ hi)
  match kind with
  | 1 => z 0 60 120 && z 1 30 70 && decide (v 2 ≤ 5 ∧ v 3 ≤ 1)
  | 2 => decide (2 ≤ v 0 ∧ v 0 ≤ 30) && z 1 500 10000
  | 3 => z 0 100 1000 && decide (20 ≤ v 1 ∧ v 1 ≤ 100) && z 2 2 20
  | 4 => decide (1 ≤ v 0 ∧ 20 ≤ v 1 ∧ v 1 ≤ 100 ∧ 1000 ≤ v 2 ∧ v 2 ≤ 20000)
  | _ => decide (v 0 ≤ 1 ∧ 100 ≤ v 1 ∧ v 1 ≤ 2000 ∧ 100 ≤ v 2 ∧ v 2 ≤ 2000) && z 3 1 3600 && decide (v 4 ≤ 600)

/-- An output or bridge is free for the service, and in the mode it needs (R292). -/
def State.bodyFree (s : State) (i o : Nat) : Bool :=
  if o < 72 then
    let c := s.out o
    c.cfg.mode == 1 && (c.bound == 0 || (c.bound == 1 && c.boundBy == i))
  else if 0x80 ≤ o ∧ o < 0x88 then
    let b := s.hb (o - 0x80)
    b.configured && (b.boundBy.isNone || b.boundBy == some i)
  else true

/-- A service's outputs and bridges are released; outputs keep the commanded value 0, and what the service diagnosed ends. -/
def State.bodyUnbind (s : State) (i : Nat) : State :=
  let x := s.svc i
  let s := [0x5202, 0x5203, 0x5204].foldl (fun (s : State) c => s.clearFault c 0x25 i) (s.bodyDrive i 0)
  let s := x.bridges.foldl (fun (s : State) n => (s.hbEnd n 4 true).modHb n (fun b => { b with boundBy := none })) s
  x.slots.foldl (fun (s : State) e => s.modOut e.2 (fun c => { c with bound := 0, boundBy := 0 })) s

/-- BODY.CONFIG (R292). -/
def verbBodyConfig : Verb :=
  { unit := 0x25, verb := 0x10, lenOk := lenIs 48, instOk := instLt 16, query := false, rt := false, perm := none,
    body := fun r s =>
      let p := r.payload
      let i := r.inst
      let kind := u8 p 0
      let srcs := (List.range 4).map (fun j => ({ kind := u8 p (4 + 4 * j), a := u8 p (5 + 4 * j), b := u16 p (6 + 4 * j) } : BodySrc))
      let outs := (List.range 8).map (fun j => u8 p (20 + j))
      let params := u16s p 28 8
      if kind = 0 then
        if (s.svc i).kind = 0 then (s, stDone, [])
        else ((((s.bodyUnbind i).modSvc i (fun x => { BodySvc.reset with count := x.count })).dirty), stDone, [])
      else if kind ≠ bodyKind i ∨ !srcs.all srcOk ∨ !(List.range 8).all (fun j => outOk kind j (outs.getD j 0xFF)) ∨
          !bodyParOk kind params then (s, stRange, [])
      else if !srcs.all (fun q => q.kind != 3 || s.sigReadable r.win q.b) then (s, stNotPermitted, [])
      else if !outs.all (s.bodyFree i) then (s, stBusy, [])
      else
        let s := s.bodyUnbind i
        let s := s.modSvc i (fun x => { BodySvc.reset with kind := kind, srcs := srcs, outs := outs, params := params, count := x.count })
        let x := s.svc i
        let s := x.slots.foldl (fun (s : State) e => s.modOut e.2 (fun c => { c with bound := 1, boundBy := i, mailbox := fZero })) s
        let s := x.bridges.foldl (fun (s : State) n => s.modHb n (fun b => { b with boundBy := some i })) s
        let s := x.slots.foldl (fun (s : State) e => s.outEval e.2 false) s
        ((s.bodyEval i).dirty, stDone, []) }

/-- The mode byte of a host-assisted function: 0 hardware, 1 host, 2 host safe action. -/
def State.modeByte (s : State) (key : Nat) : Nat := if s.isHost key then (if (s.hostFn key).inSafe then 2 else 1) else 0

/-- BODY.STATUS. -/
def verbBodyStatus : Verb :=
  { unit := 0x25, verb := 0x01, lenOk := lenIs 0, instOk := instLt 16, query := true, rt := true, perm := none,
    body := fun r s =>
      let x := s.svc r.inst
      (s, stDone, b8 (Config.bodyStateCode x.kind x.state % 256) ++ b8 x.eff ++ b8 (x.act + 16 * x.inv) ++ b8 x.applied ++ b32 x.count ++
        b8 (s.modeByte (bodyKey r.inst)) ++ zeros 3) }

/-- The request codes of a kind (R292). -/
def reqOk (kind code : Nat) : Bool :=
  match kind with
  | 1 => decide (code ≤ 3) | 2 => decide (code ≤ 4) | 3 => decide (1 ≤ code ∧ code ≤ 3) | 4 => decide (code ≤ 4)
  | 5 => decide (code ≤ 1) | _ => false

/-- BODY.REQUEST (R293, R298). -/
def verbBodyRequest : Verb :=
  { unit := 0x25, verb := 0x11, lenOk := lenIs 4, instOk := instLt 16, query := false, rt := true, perm := none,
    body := fun r s =>
      let i := r.inst
      let code := u8 r.payload 0
      let x := s.svc i
      if !reqOk x.kind code then (s, stRange, [])
      else
        let s := s.modSvc i (fun x => { x with lastReq := code })
        let level := x.kind == 1 || x.kind == 5 || (x.kind == 2 && code != 4)
        let s := if level then s.modSvc i (fun x =>
            { x with cmd := code, newest := if x.kind = 1 ∧ (code = 1 ∨ code = 2) then code else x.newest }) else s
        if s.bodyHosted i then (s, stDone, [])
        else if level then (s.bodyHw i 0 0, stDone, [])
        else if x.kind = 2 then
          if x.wipePhase = 0 ∨ x.wipePhase = 2 ∨ x.wipePhase = 3 then ((s.wipe i 5 0).bodyApply i, stDone, []) else (s, stDone, [])
        else if x.kind = 3 then (s.lockReq i code, stDone, [])
        else (s.windowReq i code false, stDone, []) }

/-- BODY.HOSTBUF (R299). -/
def verbBodyHostbuf : Verb :=
  { unit := 0x25, verb := 0x20, lenOk := lenIs 4, instOk := inst0, query := false, rt := false, perm := none,
    body := fun r s =>
      let a := u8 r.payload 0
      match s.regionCheck r.win a 512 with
      | some st => (s, st, [])
      | none =>
        if (List.range 16).any (fun i => s.isHost (bodyKey i) || (s.hostFn (bodyKey i)).pending == some true) then (s, stBusy, [])
        else (({ s with body.hostBuf := { set := true, win := r.win, tag := r.tag, a := a, b := a } } : State).dirty, stDone, []) }

/-- The condition KEEPER.MODE adds for BODY (R299). -/
def State.bodyModeOk (s : State) : Bool :=
  let b := s.body.hostBuf
  b.set && (s.region b.win b.a).present && decide ((s.region b.win b.a).size ≥ 512)

/-- BODY.RESULT (R299): the host's outputs and bridge action (11 R276). -/
def verbBodyResult : Verb :=
  { unit := 0x25, verb := 0x21, lenOk := lenIs 8, instOk := instLt 16, query := false, rt := true, perm := none,
    body := fun r s =>
      let p := r.payload
      let i := r.inst
      let key := bodyKey i
      let h := s.hostFn key
      let k := u32 p 0
      let a := u8 p 5
      if !(h.host && h.owner == r.win) || k == 0 || h.k == 0 || decide (k > h.k) || decide (a > 3) then (s, stRange, [])
      else if !s.hostInTime key k then (s, stDeadline, [])
      else
        let (s, go) := s.hostResult key
        if !go then (s, stDone, [])
        else
          let x := s.svc i
          let s := s.bodyDrive i (u8 p 4)
          let s := x.bridges.foldl (fun (s : State) n =>
            if (s.hb n).action = a then s
            else if a = 1 ∨ a = 2 then s.bodyMove n a (fFrac (x.params.getD 1 0) 100) none 0
            else s.hbEnd n 4 (a == 3)) s
          (s, stDone, []) }

/-! ### Timed happenings -/

/-- BODY_FLASH_PHASE (R294, R298): a side of the flasher (0 left, 1 right) or a flashing set changes phase. -/
def execBodyFlashPhase (inst side : Nat) (s : State) : Out :=
  .next (
    let x := s.svc inst
    if !s.bodyRuns || s.bodyHosted inst then s
    else if x.kind = 1 ∧ side ≤ 1 then
      if x.eff = 0 ∧ x.comfort = 0 then s
      else
        let s := (s.waitTo (if side = 0 then x.phaseAt else x.phaseAt2)).lampOuts inst
        let x := s.svc inst
        let (on, off) := x.flashTimes side
        let was := if side = 0 then x.phaseOn else x.phaseOn2
        let mine := x.newest = side + 1
        if x.comfort ≠ 0 ∧ mine ∧ was ∧ x.flashes ≥ x.comfort then
          ((s.modSvc inst (fun x => { x with comfort := 0, phaseOn := false, phaseOn2 := false })).bodyState inst 0).bodyApply inst
        else
          let dt := if was then off else on
          let cnt := !was && (decide (x.eff = 3 ∧ side = 0) || (if x.comfort ≠ 0 then decide mine else x.eff == side + 1))
          let s := s.modSvc inst (fun x =>
            let x := { x with flashes := if cnt then x.flashes + 1 else x.flashes }
            if side = 0 then { x with phaseOn := !was, phaseAt := s.hw + dt } else { x with phaseOn2 := !was, phaseAt2 := s.hw + dt })
          s.bodyApply inst
    else if x.kind = 5 ∧ side = 0 ∧ x.params.getD 0 0 = 1 ∧ (x.state = 1 ∨ x.state = 2) then
      let s := s.waitTo x.phaseAt
      let ms := if x.phaseOn then x.params.getD 2 0 else x.params.getD 1 0
      (s.modSvc inst (fun x => { x with phaseOn := !x.phaseOn, phaseAt := s.hw + ms * 1000000 })).bodyApply inst
    else s)

/-- BODY_WIPER_PARK_SWITCH (R295): the park switch is at park: a park run ends, an interval wipe goes into its wait, and a
stall's condition has ended. Away from park, the wipe has left it. -/
def execBodyWiperParkSwitch (inst : Nat) (s : State) : Out :=
  .next (
    if !s.bodyRuns || s.bodyHosted inst || (s.svc inst).kind != 2 then s
    else
      let s := s.bodyEval inst
      let x := s.svc inst
      if !x.act.testBit 3 then s.modSvc inst (fun x => { x with wipeLeft := true })
      else
        let s := s.clearFault 0x5203 0x25 inst
        if x.wipePhase = 2 then (s.wipe inst 0 0).bodyApply inst
        else if x.wipePhase = 5 ∧ x.wipeLeft then
          (if x.eff = 1 then s.wipe inst 3 (x.params.getD 0 0 * 1000000000) else s.wipe inst 0 0).bodyApply inst
        else s)

/-- BODY_WIPER_STALL (R295): the park-run limit passes without park. -/
def execBodyWiperStall (inst : Nat) (s : State) : Out :=
  .next (
    let x := s.svc inst
    if !s.bodyRuns || s.bodyHosted inst || x.kind != 2 || x.wipePhase != 2 then s
    else
      let s := ((s.waitTo x.wipeAt).wipe inst 0 0).bodyApply inst
      s.raiseEv 0x25 inst 168 0x5203 2 inst (x.parkLimit / 1000000) 0 0)

/-- BODY_WIPER_INTERVAL (R295): the interval wait ends. -/
def execBodyWiperInterval (inst : Nat) (s : State) : Out :=
  .next (
    let x := s.svc inst
    if !s.bodyRuns || s.bodyHosted inst || x.kind != 2 || x.wipePhase != 3 then s
    else ((s.waitTo x.wipeAt).wipe inst 5 0).bodyApply inst)

/-- BODY_WIPER_CHANGEOVER (R295): the 50 ms off time ends. -/
def execBodyWiperChangeover (inst : Nat) (s : State) : Out :=
  .next (
    let x := s.svc inst
    if !s.bodyRuns || s.bodyHosted inst || x.kind != 2 || x.wipePhase != 4 then s
    else
      let p := wipePhaseOf x.eff
      ((s.waitTo x.wipeAt).wipe inst p (if p = 2 then x.parkLimit else 0)).bodyApply inst)

/-- BODY_LOCK_PULSE_END (R297): each bridge brakes. -/
def execBodyLockPulseEnd (inst : Nat) (s : State) : Out :=
  .next (
    let x := s.svc inst
    match x.pulseEnd with
    | none => s
    | some t =>
      if !s.bodyRuns || x.kind != 3 then s
      else
        let s := x.bridges.foldl (fun (s : State) n => s.hbEnd n 4 true) (s.waitTo t)
        (s.modSvc inst (fun x => { x with pulseEnd := none, eff := 0, crash := false })).bodyState inst 0)

/-- BODY_LOCK_INHIBIT_END (R297). -/
def execBodyLockInhibitEnd (inst : Nat) (s : State) : Out :=
  .next (
    match (s.svc inst).inhibitEnd with
    | none => s
    | some t =>
      if !s.bodyRuns then s
      else ((s.waitTo t).modSvc inst (fun x => { x with inhibitEnd := none, cycles := [] })).clearFault 0x5204 0x25 inst)

/-- BODY_AUTO_UP_INHIBIT_END (R296). -/
def execBodyAutoUpInhibitEnd (inst : Nat) (s : State) : Out :=
  .next (
    match (s.svc inst).autoInhibit with
    | none => s
    | some t => if !s.bodyRuns then s else (s.waitTo t).modSvc inst (fun x => { x with autoInhibit := none }))

/-- BODY_MAX_ON (R298). -/
def execBodyMaxOn (inst : Nat) (s : State) : Out :=
  .next (
    let x := s.svc inst
    match x.onSince with
    | none => s
    | some t =>
      if !s.bodyRuns || s.bodyHosted inst || x.kind != 5 || x.params.getD 3 0 == 0 || x.maxed then s
      else
        let s := s.waitTo (t + x.params.getD 3 0 * 1000000000)
        ((s.modSvc inst (fun x => { x with maxed := true })).setOff inst 3).bodyApply inst)

/-- BODY_DELAY_OFF (R298). -/
def execBodyDelayOff (inst : Nat) (s : State) : Out :=
  .next (
    match (s.svc inst).offAt with
    | none => s
    | some t => if !s.bodyRuns || s.bodyHosted inst then s else ((s.waitTo t).setOff inst 0).bodyApply inst)

/-- A service's host record at its period (R299): offset 28 carries the copy of k. -/
def State.bodyRecord (s : State) (i k tk : Nat) : List Byte :=
  let x := s.svc i
  b32 k ++ zeros 4 ++ b64 tk ++ ((List.range 4).map (fun j => if x.inv.testBit j then (2 : Byte) else if x.act.testBit j then 1 else 0)) ++
    b8 x.lastReq ++ b8 x.applied ++ zeros 6 ++ b32 k

/-- BODY_HOST_PERIOD (R299): every 10 ms each host-assisted service gets its record. -/
def execBodyHostPeriod (s : State) : Out :=
  .next (
    if !s.operating || !s.running 0x25 0 then s
    else
      (List.range 16).foldl (fun (s : State) i =>
        let key := bodyKey i
        if !s.isHost key then s
        else
          let s := if (s.hostFn key).got then s else (s.hostMiss key).bodyMiss i
          let s := s.hostPeriod key s.hw 8000000 10000000
          let b := s.body.hostBuf
          s.regionWrite b.win b.a (32 * i) (s.bodyRecord i (s.hostFn key).k s.hw)) (s.boundary 240 10000000 0))

/-! ### Park, pause, restart and trunk start (R294, R295, R300) -/

/-- Keeper arms the hazard flash for park (R294): the bound HSC outputs in output order into the free park-hold slots. -/
def State.hazardPark (s : State) : State :=
  let x := s.svc 0
  let s := x.parkSlots.foldl (fun (s : State) k => (s.parkRelease k).modPark k (fun _ => ParkHold.reset)) s
  let s := s.modSvc 0 (fun x => { x with parkSlots := [] })
  if x.kind ≠ 1 ∨ x.eff ≠ 3 ∨ x.params.getD 3 0 ≠ 1 then s
  else
    let (on, off) := { x with lampOut := 0 }.flashTimes 0
    (((x.slots.map (·.2)).filter (fun o => decide (28 ≤ o))).eraseDups.take 4).foldl (fun (s : State) o =>
      match (List.range 4).find? (fun k => (s.parkSlot k).out.isNone) with
      | none => s
      | some k =>
        let s := s.modPark k (fun _ => { ParkHold.reset with out := some o, flash := true, states := 7, onMs := on / 1000000,
                                                             offMs := off / 1000000, limitMin := 0 })
        s.modSvc 0 (fun x => { x with parkSlots := x.parkSlots ++ [k] })) s

/-- Park entry (R294, R295, R300): the hazard flash is armed, windows and locking coast, wipers run to park, the rest
stops. -/
def State.bodyParkStop (s : State) : State :=
  (List.range 16).foldl (fun (s : State) i =>
    let x := s.svc i
    let s := s.modSvc i (fun x => { x with cmd := 0 })
    match x.kind with
    | 1 => ((s.modSvc i (fun x => { x with eff := 0, comfort := 0, phaseOn := false, phaseOn2 := false })).bodyState i 0).bodyApply i
    | 2 =>
      let s := s.modSvc i (fun x => { x with eff := 0 })
      let was := wipeOut x.wipePhase x.eff
      (if was = 2 ∨ x.wipePhase = 4 then s.wipe i 4 50000000
       else if was = 1 then s.wipe i 2 x.parkLimit else s.wipe i 0 0).bodyApply i
    | 5 => ((s.modSvc i (fun x => { x with eff := 0, onSince := none, maxed := false })).setOff i 0).bodyApply i
    | 0 => s
    | _ =>
      let s := x.bridges.foldl (fun (s : State) n => s.hbEnd n 4 false) s
      (s.modSvc i (fun x => { x with eff := 0, pulseEnd := none, bySrc := false })).bodyState i 0) s.hazardPark

/-- Every park run has ended (R295). -/
def State.bodyParkIdle (s : State) : Bool :=
  (List.range 16).all (fun i => (s.svc i).kind != 2 || (s.svc i).wipePhase == 0)

/-- Service timing stood for `dt` and resumes where it stood (R300). -/
def BodySvc.shift (x : BodySvc) (dt : Nat) : BodySvc :=
  { x with phaseAt := x.phaseAt + dt, phaseAt2 := x.phaseAt2 + dt, wipeAt := x.wipeAt + dt,
           inhibitEnd := x.inhibitEnd.map (· + dt), pulseEnd := x.pulseEnd.map (· + dt), autoInhibit := x.autoInhibit.map (· + dt),
           onSince := x.onSince.map (· + dt), offAt := x.offAt.map (· + dt) }

/-- BODY's services resume after a pause or restart of `dt` ns, and their outputs are theirs again. -/
def State.bodyResume (s : State) (dt : Nat) : State :=
  let s := { s with body.svcs := tmap BodySvc.reset s.body.svcs (fun x => if x.kind = 0 then x else x.shift dt) }
  (List.range 16).foldl (fun (s : State) i => if (s.svc i).kind = 0 then s else s.bodyDrive i (s.svc i).applied) s

/-- BODY restarts (R300): the bound outputs follow their policies, activations count from zero. -/
def State.bodyRestart (s : State) : State :=
  let s := s.applyPolicy (fun c => c.bound == 1) (fun _ => false)
  { s with body.svcs := tmap BodySvc.reset s.body.svcs (fun x => { x with count := 0 }) }

/-- A service at a trunk start (R300): configuration from the kept record, every request off. -/
def BodySvc.cold (kept cur : BodySvc) : BodySvc :=
  { BodySvc.reset with kind := kept.kind, srcs := kept.srcs, outs := kept.outs, params := kept.params, parkSlots := cur.parkSlots }

/-- BODY.STATUS -/
def execBodyStatus (r : Req) (s : State) : Out := mailboxRow verbBodyStatus r s
/-- BODY.CONFIG -/
def execBodyConfig (r : Req) (s : State) : Out := mailboxRow verbBodyConfig r s
/-- BODY.REQUEST -/
def execBodyRequest (r : Req) (s : State) : Out := mailboxRow verbBodyRequest r s
/-- BODY.HOSTBUF -/
def execBodyHostbuf (r : Req) (s : State) : Out := mailboxRow verbBodyHostbuf r s
/-- BODY.RESULT -/
def execBodyResult (r : Req) (s : State) : Out := mailboxRow verbBodyResult r s

end Sys2Proof.Machine
end

