-- ==== Sys2Proof/Machine/Lin.lean ====
section
/-! DEFINITION. Machine/Lin.lean: the LIN masters of chapter 12 (R288-R291). -/

namespace Sys2Proof.Machine

/-- A LIN master. -/
def State.lin (s : State) (c : Nat) : LinCh := tget LinCh.reset s.body.lin c
/-- Change a LIN master. -/
def State.modLin (s : State) (c : Nat) (f : LinCh → LinCh) : State := { s with body.lin := tmod LinCh.reset s.body.lin c f }
/-- Data of a frame ID. -/
def LinCh.frame (x : LinCh) (id : Nat) : LinFrame := tget LinFrame.reset x.frames id
/-- A table of the master. -/
def LinCh.table (x : LinCh) (t : Nat) : List LinEntry := tget [] x.tables t

/-- The masters run (R290): KEEPER and RUN, the unit running. -/
def State.linRuns (s : State) (c : Nat) : Bool := s.operating && s.running 0x31 0 && decide (c < 4) && (s.lin c).enable

/-- Change a frame's data. -/
def State.modFrame (s : State) (c id : Nat) (f : LinFrame → LinFrame) : State :=
  s.modLin c (fun x => { x with frames := tmod LinFrame.reset x.frames id f })

/-- A frame goes out; it counts (LIN.STATUS). -/
def State.linSend (s : State) (c id : Nat) (data : List Byte) : State :=
  s.modLin c (fun x => { x with sent := some (id, data), count := (x.count + 1) % 4294967296 })

/-- A subscribed frame's valid response (R289, R291): LIN/FRAME on a change if the entry asks for it; LIN/NO_RESPONSE ends
when no frame of the channel is missing. -/
def State.linResponse (s : State) (c : Nat) (e : LinEntry) (data : List Byte) : State :=
  let f := (s.lin c).frame e.id
  let s := s.modFrame c e.id (fun f => { f with data := data, len := data.length, ever := true, stale := false, stamp := s.hw,
                                                missed := 0 })
  let s := if bit e.flags 1 && (!f.ever || f.data != data) then
      s.post 0x31 c (163 + c) 0x5101 e.id c (u32 data 0) (u32 data 4) else s
  if (s.lin c).frames.any (fun g => decide (g.2.missed ≥ 3)) then s else s.clearFault 0x5102 0x31 c

/-- A subscribed frame without a response (R291). -/
def State.linMissed (s : State) (c : Nat) (e : LinEntry) : State :=
  let s := s.modFrame c e.id (fun f => { f with missed := min 255 (f.missed + 1), stale := f.stale || decide (f.missed + 1 ≥ 3) })
  if ((s.lin c).frame e.id).missed = 3 then s.raiseEv 0x31 c (163 + c) 0x5102 1 e.id c 3 0 else s

/-- One entry's frame (R289). -/
def State.linFrame (s : State) (c : Nat) (e : LinEntry) (b : LinBus) : State :=
  let s := s.modLin c (fun x => { x with hdrBad := if b.hdrOk then 0 else min 255 (x.hdrBad + 1) })
  let t0 := s.hw
  let answer (s : State) : State := s.waitTo (t0 + min b.respNs (e.slotMs * 1000000))
  let valid := match b.resp with | some d => if d.length = e.len ∧ !b.garbled then some d else none | none => none
  if !b.hdrOk then s
  else match e.type with
    | 1 | 5 =>
      let s := s.modLin c (fun x => { x with count := (x.count + 1) % 4294967296 })
      match valid with
      | some d => (answer s).linResponse c e d
      | none => s.linMissed c e
    | 2 =>
      let s := s.modLin c (fun x => { x with count := (x.count + 1) % 4294967296 })
      if b.garbled then s.modLin c (fun x =>
        { x with resume := some (x.resume.getD (x.running.getD 0, x.entry)), running := some e.coll, entry := 0 })
      else match valid with
        | some d => (answer s).linResponse c e d
        | none => s
    | 3 =>
      let f := (s.lin c).frame e.id
      if f.fresh then (s.linSend c e.id (slice f.data 0 e.len)).modFrame c e.id (fun f => { f with fresh := false }) else s
    | _ =>
      let f := (s.lin c).frame e.id
      (s.linSend c e.id (slice f.data 0 e.len)).modFrame c e.id (fun f => { f with fresh := false })

/-- The pointer past the last entry: the original table resumes after a collision table, else the table repeats (R289). -/
def LinCh.wrap (x : LinCh) : LinCh :=
  if x.entry < (x.table (x.running.getD 0)).length then x
  else match x.resume with
    | some (t, e) => { x with running := some t, entry := if e < (x.table t).length then e else 0, resume := none }
    | none => { x with entry := 0 }

/-- LIN_SLOT (R288-R291): the next schedule slot starts and its frame passes. A bus fault ends at the first slot start after 1 s of
clean frames. Three headers in a row read back wrong have stopped
the schedule. -/
def execLinSlot (ch : Nat) (f : LinBus) (s : State) : Out :=
  .next (
    let x := s.lin ch
    match x.running with
    | none => s
    | some _ =>
      if !s.linRuns ch || (x.fault && x.cleanSince.isNone) || decide (x.hdrBad ≥ 3) then s
      else
        let s := s.waitTo x.slotAt
        if x.sleepReq then
          (s.linSend ch 0x3C (0 :: List.replicate 7 0xFF)).modLin ch (fun x =>
            { x with sleepReq := false, asleep := true, slept := x.running, running := none, resume := none, nextTable := none })
        else
          let s := s.modLin ch (fun x =>
            let x := match x.nextTable with
              | some t => { x with running := some t, entry := 0, nextTable := none, resume := none }
              | none => x
            x.wrap)
          let x := s.lin ch
          match (x.table (x.running.getD 0))[x.entry]? with
          | none => s
          | some e =>
            let start := s.hw
            let s := s.modLin ch (fun x => { x with entry := x.entry + 1, slotAt := start + e.slotMs * 1000000 })
            let s := if x.fault ∧ x.cleanSince.getD start + 1000000000 ≤ start then
                (s.modLin ch (fun x => { x with fault := false, cleanSince := none })).clearFault 0x5103 0x31 ch else s
            let s := (s.linFrame ch e f).bodyEvalAll
            if (s.lin ch).fault ∧ !f.hdrOk then s.modLin ch (fun x => { x with cleanSince := none, retryAt := s.hw + 1000000000 })
            else s)

/-- LIN_BUS_FAULT (R291): cause 1, three headers in a row read back wrong; 2, dominant for more than 100 ms. -/
def execLinBusFault (ch cause ms : Nat) (s : State) : Out :=
  .next (
    let x := s.lin ch
    if !s.linRuns ch || (x.fault && x.cleanSince.isNone) ||
        !((cause == 1 && decide (x.hdrBad ≥ 3)) || (cause == 2 && decide (ms > 100))) then s
    else
      let s := s.modLin ch (fun x => { x with fault := true, cleanSince := none, retryAt := s.hw + 1000000000, hdrBad := 0 })
      if x.fault then s else s.raiseEv 0x31 ch (163 + ch) 0x5103 3 ch ch cause 0)

/-- LIN_RETRY (R291): every 1 s the master tries its schedule again. -/
def execLinRetry (ch : Nat) (s : State) : Out :=
  .next (
    let x := s.lin ch
    if !s.linRuns ch || !x.fault || x.cleanSince.isSome then s
    else
      let s := s.waitTo x.retryAt
      s.modLin ch (fun x => { x with cleanSince := some s.hw, slotAt := s.hw, retryAt := s.hw + 1000000000 }))

/-- LIN_WAKE_PULSE (R290): a dominant pulse of 150 µs-5 ms, in µs, while the bus is asleep. -/
def execLinWakePulse (ch us : Nat) (s : State) : Out :=
  .next (
    let x := s.lin ch
    if !s.linRuns ch || x.running.isSome || decide (us < 150 ∨ us > 5000) then s
    else
      let s := s.post 0x31 ch (163 + ch) 0x5104 ch ch us 0
      match x.slept, x.startAt with
      | some t, none => if x.asleep then s else s.modLin ch (fun x => { x with startAt := some (s.hw + 100000000, t) })
      | _, _ => s)

/-- LIN_RESUME (R290): 100 ms after the wake the table starts. -/
def execLinResume (ch : Nat) (s : State) : Out :=
  .next (
    match (s.lin ch).startAt with
    | none => s
    | some (t, tab) =>
      if !s.linRuns ch then s
      else
        let s := s.waitTo t
        s.modLin ch (fun x => { x with startAt := none, asleep := false, running := some tab, slept := some tab, entry := 0, resume := none,
                                       nextTable := none, slotAt := s.hw }))

/-- LIN.STATUS (R291). -/
def verbLinStatus : Verb :=
  { unit := 0x31, verb := 0x01, lenOk := lenIs 0, instOk := instLt 4, query := true, rt := true, perm := none,
    body := fun r s =>
      let x := s.lin r.inst
      let st := if !x.enable then 0 else if x.fault then 3 else if x.asleep then 2 else if x.running.isSome then 1 else 0
      (s, stDone, b8 st ++ b8 (x.running.getD 0) ++ b8 x.entry ++ zeros 1 ++ b32 x.count) }

/-- LIN.READ (R291). -/
def verbLinRead : Verb :=
  { unit := 0x31, verb := 0x02, lenOk := lenIs 4, instOk := instLt 4, query := true, rt := true, perm := none,
    body := fun r s =>
      let id := u8 r.payload 0
      if id > 63 then (s, stRange, [])
      else
        let f := (s.lin r.inst).frame id
        (s, stDone, slice f.data 0 8 ++ b8 f.len ++ b8 (b2n f.stale + 2 * b2n (!f.ever)) ++ zeros 2 ++ b64 f.stamp) }

/-- LIN.CONFIG (R288). -/
def verbLinConfig : Verb :=
  { unit := 0x31, verb := 0x10, lenOk := lenIs 4, instOk := instLt 4, query := false, rt := false, perm := none,
    body := fun r s =>
      let p := r.payload
      if u16 p 0 < 2400 ∨ u16 p 0 > 20000 ∨ u8 p 2 > 1 then (s, stRange, [])
      else
        let on := u8 p 2 == 1
        let s := s.modLin r.inst (fun x =>
          if on then { x with enable := true, rate := u16 p 0 }
          else { x with enable := false, rate := u16 p 0, running := none, resume := none, nextTable := none, sleepReq := false, startAt := none,
                        fault := false, cleanSince := none, hdrBad := 0 })
        let s := if on then s else s.clearFault 0x5103 0x31 r.inst
        (s.dirty, stDone, []) }

/-- The k-th entry of a table's bytes. -/
def linEntryOf (p : List Byte) (k : Nat) : LinEntry :=
  { id := u8 p (8 * k), type := u8 p (8 * k + 1), len := u8 p (8 * k + 2), flags := u8 p (8 * k + 3), slotMs := u16 p (8 * k + 4),
    coll := u8 p (8 * k + 6) }

/-- An entry in range, its slot at least 1.4 × (34 + 10 × (length + 1)) bit times (R288). -/
def LinEntry.ok (e : LinEntry) (rate : Nat) : Bool :=
  decide (e.id ≤ 63 ∧ e.type ≤ 5 ∧ 1 ≤ e.len ∧ e.len ≤ 8 ∧ e.flags < 4 ∧ e.slotMs ≤ 1000 ∧ (e.type ≠ 2 ∨ e.coll ≤ 7) ∧ (e.type ≠ 4 ∨ e.id = 0x3C) ∧
      (e.type ≠ 5 ∨ e.id = 0x3D)) &&
    decide (e.slotMs * rate * 10 ≥ 14000 * (34 + 10 * (e.len + 1)))

/-- LIN.TABLE (R288, R289). -/
def verbLinTable : Verb :=
  { unit := 0x31, verb := 0x11, lenOk := lenIs 4, instOk := instLt 4, query := false, rt := false, perm := none,
    body := fun r s =>
      let p := r.payload
      let x := s.lin r.inst
      let t := u8 p 0
      let n := u8 p 2
      if t > 7 ∨ n = 0 ∨ n > 64 then (s, stRange, [])
      else match s.regionCheck r.win (u8 p 1) (8 * n) with
        | some st => (s, st, [])
        | none =>
          let bytes := s.regionRead r.win (u8 p 1) 0 (8 * n)
          let es := (List.range n).map (linEntryOf bytes)
          if x.running = some t ∨ x.resume.map (·.1) = some t then (s, stBusy, [])
          else
            let s := s.regionDone r.win (u8 p 1) r.tag (8 * n) false
            if !es.all (LinEntry.ok · x.rate) then (s, stRange, [])
            else ((s.modLin r.inst (fun x => { x with tables := tset [] x.tables t es })).dirty, stDone, []) }

/-- LIN.SCHEDULE (R289, R290): at the end of the current slot; a sleeping master first sends its 250 µs wake pulse. -/
def verbLinSchedule : Verb :=
  { unit := 0x31, verb := 0x12, lenOk := lenIs 4, instOk := instLt 4, query := false, rt := true, perm := none,
    body := fun r s =>
      let t := u8 r.payload 0
      let x := s.lin r.inst
      if t > 7 ∨ (x.table t).isEmpty then (s, stRange, [])
      else if x.asleep then
        (s.modLin r.inst (fun x => { x with pulse := some (s.hw, s.hw + 250000), startAt := some (s.hw + 250000 + 100000000, t) }),
          stDone, [])
      else if x.running.isSome then (s.modLin r.inst (fun x => { x with nextTable := some t, slept := some t }), stDone, [])
      else
        (s.modLin r.inst (fun x => { x with running := some t, slept := some t, entry := 0, resume := none, startAt := none, slotAt := s.hw }),
          stDone, []) }

/-- The ID is published in a table. -/
def LinCh.published (x : LinCh) (id : Nat) : Bool :=
  x.tables.any (fun t => t.2.any (fun e => e.id == id && (e.type == 0 || e.type == 3 || e.type == 4)))

/-- LIN.WRITE (R289). -/
def verbLinWrite : Verb :=
  { unit := 0x31, verb := 0x13, lenOk := lenIs 12, instOk := instLt 4, query := false, rt := true, perm := none,
    body := fun r s =>
      let p := r.payload
      let id := u8 p 0
      let n := u8 p 1
      if n = 0 ∨ n > 8 ∨ !(s.lin r.inst).published id then (s, stRange, [])
      else (s.modFrame r.inst id (fun f => { f with data := slice p 4 n, len := n, fresh := true }), stDone, []) }

/-- LIN.SLEEP (R290): in the next slot; with no schedule running the request goes out at once. -/
def verbLinSleep : Verb :=
  { unit := 0x31, verb := 0x14, lenOk := lenIs 0, instOk := instLt 4, query := false, rt := false, perm := none,
    body := fun r s =>
      let x := s.lin r.inst
      if x.running.isSome then (s.modLin r.inst (fun x => { x with sleepReq := true }), stDone, [])
      else if !x.enable then (s, stDone, [])
      else ((s.linSend r.inst 0x3C (0 :: List.replicate 7 0xFF)).modLin r.inst (fun x => { x with asleep := true, startAt := none }), stDone, []) }

/-- A master after a unit restart or at a trunk start: configuration and tables; its schedule stands still. -/
def LinCh.cold (k : LinCh) : LinCh :=
  { LinCh.reset with enable := k.enable, rate := k.rate, tables := k.tables, slept := k.running.orElse (fun _ => k.slept) }

/-- LIN restarts. -/
def State.linRestart (s : State) : State :=
  let s := (List.range 4).foldl (fun (s : State) c => (s.clearFault 0x5102 0x31 c).clearFault 0x5103 0x31 c) s
  { s with body.lin := tmap LinCh.reset s.body.lin LinCh.cold }

/-- BODY and LIN at a trunk start (R300). -/
def Body.cold (kept cur : Body) : Body :=
  { svcs := (List.range 16).foldl (fun t i =>
      tset BodySvc.reset t i ((tget BodySvc.reset kept.svcs i).cold (tget BodySvc.reset cur.svcs i))) [],
    hostBuf := kept.hostBuf, lin := tmap LinCh.reset kept.lin LinCh.cold }

/-- LIN.STATUS -/
def execLinStatus (r : Req) (s : State) : Out := mailboxRow verbLinStatus r s
/-- LIN.READ -/
def execLinRead (r : Req) (s : State) : Out := mailboxRow verbLinRead r s
/-- LIN.CONFIG -/
def execLinConfig (r : Req) (s : State) : Out := mailboxRow verbLinConfig r s
/-- LIN.TABLE -/
def execLinTable (r : Req) (s : State) : Out := mailboxRow verbLinTable r s
/-- LIN.SCHEDULE -/
def execLinSchedule (r : Req) (s : State) : Out := mailboxRow verbLinSchedule r s
/-- LIN.WRITE -/
def execLinWrite (r : Req) (s : State) : Out := mailboxRow verbLinWrite r s
/-- LIN.SLEEP -/
def execLinSleep (r : Req) (s : State) : Out := mailboxRow verbLinSleep r s

end Sys2Proof.Machine
end

