-- ==== Sys2Proof/Machine/Plate.lean ====
section
/-! DEFINITION. Machine/Plate.lean: the status plate of chapter 14 (R316-R322). -/

namespace Sys2Proof.Machine

/-- Change the plate. -/
def State.modPlate (s : State) (f : Plate → Plate) : State := { s with plate := f s.plate }

/-- An update runs. -/
def Plate.running (p : Plate) : Bool := p.op.isSome || p.park

/-- Bytes of an image or a drive-code plane row (R317). -/
def Plate.rowBytes (p : Plate) : Nat := (p.width + 3) / 4
/-- Bytes of an image. -/
def Plate.bytes (p : Plate) : Nat := p.rowBytes * p.height

/-- State of a pixel (R317): pixel 4i + k of a row in bits [2k+1:2k] of byte i. -/
def pixelOf (row : Nat) (img : List Byte) (x y : Nat) : Nat := bits (u8 img (y * row + x / 4)) (2 * (x % 4) + 1) (2 * (x % 4))

/-- A packed image from its pixels. -/
def packImage (w h : Nat) (f : Nat → Nat → Nat) : List Byte :=
  ((List.range h).map (fun y => (List.range ((w + 3) / 4)).map (fun i =>
    BitVec.ofNat 8 ((List.range 4).foldl (fun a k => if 4 * i + k < w then a + f (4 * i + k) y % 4 * 4 ^ k else a) 0)))).flatten

/-- Frames of a band. -/
def waveFrames (t : List Byte) (b : Nat) : Nat := u8 t (16 + b)
/-- Frame time of a band, ms. -/
def waveTime (t : List Byte) (b : Nat) : Nat := u8 t (24 + b)
/-- Drive code of (band, old, new, frame) (R317). -/
def waveCode (t : List Byte) (b old new f : Nat) : Nat :=
  let e := (b * 4 + old) * 4 + new
  bits (u8 t (64 + 16 * e + f / 4)) (2 * (f % 4) + 1) (2 * (f % 4))

/-- The old state of a pixel, 3 while the old image is unknown (R319). -/
def Plate.oldState (p : Plate) (x y : Nat) : Nat := if p.oldKnown then pixelOf p.rowBytes p.old x y else 3

/-- The drive-code plane of a frame (R318). -/
def Plate.planeOf (p : Plate) (f : Nat) : List Byte :=
  let t := p.wave.getD []
  packImage p.width p.height (fun x y => waveCode t p.band (p.oldState x y) (pixelOf p.rowBytes p.image x y) f)

/-- The band that covers a temperature, if any (R317, R320). -/
def bandOf (t : List Byte) (v : F32) : Option Nat :=
  (List.range 8).find? (fun b => fLe (fInt (i8 t b)) v && fLt v (fInt (i8 t (b + 1))))

/-- The crack test and the temperature check (R320): the status that refuses, or the band. The loop resistance the test
meets is a free value. -/
def State.plateChecks (s : State) (t : List Byte) : State × (Nat ⊕ Nat) :=
  let (ohm, s) := s.drawNat
  if ohm > 200 then
    let s := s.modPlate (fun p => { p with crack := true })
    (s.raiseEv 0x27 0 184 0x5402 2 0 (min ohm 65535) 0 0, .inl stLocked)
  else
    let s := (s.modPlate (fun p => { p with crack := false })).clearFault 0x5402 0x27 0
    let g := s.sig s.plate.tempSig
    if !bit g.flags 0 || bit g.flags 1 then (s, .inl stTemp)
    else match bandOf t g.value with
      | none => (s, .inl stTemp)
      | some b => (s, .inr b)

/-- An update starts (R320): rails on, the image copied. -/
def State.plateStart (s : State) (img : List Byte) (band : Nat) (op : Option Op) : State :=
  s.modPlate (fun p => { p with op := op, park := op.isNone, band := band, frame := 0, busy := false, startAt := s.hw, offAt := none, image := img,
                                railOn := true, railOff := none })

/-- PLATE/DONE (R320, R322): a completion, or the park image's own report. -/
def State.plateDone (s : State) (st : Nat) (unknown : Bool) : State :=
  let p := s.plate
  let p2 := p.band + 256 * p.frame + 65536 * b2n unknown + 131072 * b2n p.park
  let ms := (s.hw - p.startAt) / 1000000
  let s := s.modPlate (fun p => { p with op := none, park := false, railOn := false, busy := false, offAt := none,
                                         railOff := if p.railOn then some s.hw else p.railOff })
  match p.op with
  | some op => s.complete op 0x27 0 184 0x5401 st p2 ms
  | none => s.post 0x27 0 184 0x5401 0 (st + 65536 * s.gen 0x27 0) p2 ms

/-- An update ends before its time (R321): rails off, the old image unknown. -/
def State.plateAbort (s : State) (st : Nat) : State :=
  let unknown := !s.plate.oldKnown
  (s.modPlate (fun p => { p with oldKnown := false })).plateDone st unknown

/-- PLATE_FRAME_START (R318): the first frame 10 ms after acceptance; the plane is sent. -/
def execPlateFrameStart (s : State) : Out :=
  .next (
    let p := s.plate
    if !s.operating || !p.running || p.busy || p.offAt.isSome then s
    else
      let s := if p.frame = 0 then s.waitTo (p.startAt + 10000000) else s
      s.modPlate (fun p => { p with busy := true, frameAt := s.hw, plane := p.planeOf p.frame }))

/-- PLATE_FRAME_DONE (R318, R320): PLATE_BUSY has gone low and the frame time has passed; after the last frame the rails are
switched off. -/
def execPlateFrameDone (s : State) : Out :=
  .next (
    let p := s.plate
    if !s.operating || !p.busy then s
    else
      let t := p.wave.getD []
      let s := s.waitTo (p.frameAt + waveTime t p.band * 1000000)
      let last := decide (p.frame + 1 ≥ waveFrames t p.band)
      let now := if last then some s.hw else none
      s.modPlate (fun p => { p with busy := false, frame := p.frame + 1, railOn := !last, railOff := now, offAt := now }))

/-! ### Commands -/

/-- PLATE.STATUS. -/
def verbPlateStatus : Verb :=
  { unit := 0x27, verb := 0x01, lenOk := lenIs 0, instOk := inst0, query := true, rt := true, perm := none,
    body := fun _ s =>
      let p := s.plate
      (s, stDone, b8 (if p.running then 1 else if p.crack then 2 else 0) ++ b8 p.band ++ b8 p.frame ++ b8 (b2n (!p.oldKnown)) ++ b32 p.updates) }

/-- PLATE.CONFIG (R316, R317, R319). -/
def verbPlateConfig : Verb :=
  { unit := 0x27, verb := 0x10, lenOk := lenIs 12, instOk := inst0, query := false, rt := false, perm := none,
    body := fun r s =>
      let b := r.payload
      let w := u16 b 0
      let h := u16 b 2
      let id := u16 b 4
      if s.plate.running then (s, stBusy, [])
      else if w < 8 ∨ w > 512 ∨ h < 8 ∨ h > 512 ∨ w * h > 131072 ∨ id ≥ 0x1000 ∨ u8 b 6 < 4 ∨ u8 b 6 > 20 ∨ u8 b 7 < 100 ∨ u8 b 7 > 150 then
        (s, stRange, [])
      else if !s.sigReadable r.win id then (s, stNotPermitted, [])
      else
        let s := s.modPlate (fun p => { p with width := w, height := h, tempSig := id, sck := u8 b 6, vsh := u8 b 7,
                                               oldKnown := p.oldKnown && p.width == w && p.height == h })
        (s.dirty, stDone, []) }

/-- The table's ranges, and every band's frame time at least the plane's transfer time plus 1 ms (R317, R318). -/
def waveOk (p : Plate) (t : List Byte) : Bool :=
  (List.range 8).all (fun b =>
    decide (i8 t b < i8 t (b + 1) ∧ 1 ≤ waveFrames t b ∧ waveFrames t b ≤ 64 ∧ 10 ≤ waveTime t b ∧ waveTime t b ≤ 250 ∧
      waveTime t b * 1000 * p.sck ≥ p.bytes * 8 + 1000 * p.sck))

/-- PLATE.WAVEFORM (R317, R318). -/
def verbPlateWaveform : Verb :=
  { unit := 0x27, verb := 0x11, lenOk := lenIs 4, instOk := inst0, query := false, rt := false, perm := none,
    body := fun r s =>
      let d := u8 r.payload 0
      if s.plate.running then (s, stBusy, [])
      else match s.regionCheck r.win d 2112 with
        | some st => (s, st, [])
        | none =>
          let t := s.regionRead r.win d 0 2112
          let s := s.regionDone r.win d r.tag 2112 false
          if waveOk s.plate t then ((s.modPlate (fun p => { p with wave := some t })).dirty, stDone, []) else (s, stRange, []) }

/-- PLATE.UPDATE (R320). -/
def verbPlateUpdate : Verb :=
  { unit := 0x27, verb := 0x12, lenOk := lenIs 4, instOk := inst0, query := false, rt := false, perm := none,
    body := fun r s =>
      let d := u8 r.payload 0
      let n := s.plate.bytes
      match s.regionCheck r.win d n with
      | some st => (s, st, [])
      | none =>
        if s.plate.running then (s, stBusy, [])
        else match s.plate.wave with
          | none => (s, stBusy, [])
          | some t =>
            let (s, res) := s.plateChecks t
            match res with
            | .inl st => (s, st, [])
            | .inr b =>
              let img := s.regionRead r.win d 0 n
              let s := s.regionDone r.win d r.tag n false
              (s.plateStart img b (some { win := r.win, tag := r.tag }), stAccepted, []) }

/-- PLATE.PARK (R322). -/
def verbPlatePark : Verb :=
  { unit := 0x27, verb := 0x13, lenOk := lenIs 28, instOk := inst0, query := false, rt := false, perm := none,
    body := fun r s =>
      let b := r.payload
      let n := s.plate.bytes
      match s.regionCheck r.win (u8 b 0) n with
      | some st => (s, st, [])
      | none =>
        if u8 b 1 > 4 then (s, stRange, [])
        else
          let img := s.regionRead r.win (u8 b 0) 0 n
          let s := s.regionDone r.win (u8 b 0) r.tag n false
          let s := s.modPlate (fun p => { p with base := some img, parkFaults := u8 b 1, parkX := u16 b 2, parkY := u16 b 4, parkId := slice b 6 16 })
          (s.dirty, stDone, []) }

/-! ### The park image (R322) -/

/-- A digit's character, hexadecimal in capitals. -/
def digitChar (d : Nat) : Nat := if d < 10 then 0x30 + d else 0x37 + d

/-- The decimal digits of a number, at most `fuel` of them. -/
def decimal : Nat → Nat → List Nat
  | 0, _ => []
  | fuel + 1, n => if n < 10 then [digitChar n] else decimal fuel (n / 10) ++ [digitChar (n % 10)]

/-- Four hexadecimal digits. -/
def hex4 (n : Nat) : List Nat := [digitChar (n / 4096 % 16), digitChar (n / 256 % 16), digitChar (n / 16 % 16), digitChar (n % 16)]

/-- A Larder record is at least as new as another: later epoch, later operating second. -/
def LarderRec.newer (a b : LarderRec) : Bool := decide (a.cycle > b.cycle ∨ (a.cycle = b.cycle ∧ a.opSec ≥ b.opSec))

/-- A record put before those that are older. -/
def putNewest (r : LarderRec) : List LarderRec → List LarderRec
  | [] => [r]
  | x :: l => if r.newer x then r :: x :: l else x :: putNewest r l

/-- The newest Larder records of severity 3 and above, newest first. -/
def State.newestFaults (s : State) : List LarderRec :=
  ((s.larder.strong.map (·.2) ++ s.larder.general.map (·.2) ++ s.larder.buffer).filter (fun r => decide (r.sev ≥ 3))).foldl (fun l r => putNewest r l) []

/-- The three lines of the park image, as characters. -/
def State.parkLines (s : State) : List (List Nat) :=
  [s.plate.parkId.map BitVec.toNat, decimal 10 (s.opSec / 3600),
   (((s.newestFaults.take s.plate.parkFaults).map (fun r => hex4 r.code)).intersperse Config.plateSep).flatten]

/-- The composed image: state 0 on state 3 cells of 8 × 16 pixels, over the base image; lines 16 pixels apart. -/
def State.parkImage (s : State) (base : List Byte) : List Byte :=
  let p := s.plate
  let lines := s.parkLines
  packImage p.width p.height (fun x y =>
    if x < p.parkX ∨ y < p.parkY ∨ y ≥ p.parkY + 48 then pixelOf p.rowBytes base x y
    else
      let c := (lines.getD ((y - p.parkY) / 16) []).getD ((x - p.parkX) / 8) 0
      if c < 0x20 ∨ c > 0x7E then pixelOf p.rowBytes base x y
      else if Config.plateFont c ((y - p.parkY) % 16) ((x - p.parkX) % 8) then 0 else 3)

/-- The park image is skipped (R322): PLATE/DONE carries the refusal after the next trunk start. -/
def State.parkSkip (s : State) (st : Nat) : State := s.modPlate (fun p => { p with pendDone := some [st, s.hw] })

/-- The park image is composed and its update starts (R322). An update under way ends first. -/
def State.plateParkStart (s : State) : State :=
  if s.plate.running then s
  else match s.plate.wave, s.plate.base with
    | some t, some base =>
      if base.length ≠ s.plate.bytes then s.parkSkip stBusy
      else
        let img := s.parkImage base
        if s.plate.oldKnown && img == s.plate.old then s
        else
          let (s, res) := s.plateChecks t
          match res with
          | .inl st => s.parkSkip st
          | .inr b => s.plateStart img b none
    | _, _ => s.parkSkip stBusy

/-- The plate waits for nothing (R322). -/
def State.plateParkIdle (s : State) : Bool := !s.plate.running

/-- An update that was under way when park entry came to the plate has ended: the park image follows it (R322). -/
def State.plateNext (s : State) (wasPark : Bool) : State :=
  if s.power.state = .parking ∧ s.power.parkStep = 4 ∧ !wasPark then s.plateParkStart else s

/-- PLATE_BUSY_TIMEOUT (R321): not low within twice the frame time. -/
def execPlateBusyTimeout (s : State) : Out :=
  .next (
    let p := s.plate
    if !s.operating || !p.busy then s
    else
      let s := s.waitTo (p.frameAt + 2 * waveTime (p.wave.getD []) p.band * 1000000)
      ((s.raiseEv 0x27 0 184 0x5404 2 0 p.frame 0 0).plateAbort stBusy).plateNext p.park)

/-- Nominal voltage of a rail in mV (R316): 1 VGH, 2 VGL, 3 VSH, 4 VSL. -/
def railNominal (p : Plate) : Nat → Int
  | 1 => 22000 | 2 => -20000 | 3 => (p.vsh * 100 : Nat) | _ => -(p.vsh * 100 : Nat)

/-- The place of a rail in the switching order VGL, VGH, VSL, VSH (R316). -/
def railPlace : Nat → Option Nat | 1 => some 1 | 2 => some 0 | 3 => some 3 | 4 => some 2 | _ => none

/-- A rail is up at an instant (R316): switched on in the order VGL, VGH, VSL, VSH, 2.5 ms apart, and off in the reverse order. -/
def Plate.railUp (p : Plate) (now rail : Nat) : Bool :=
  match railPlace rail with
  | none => false
  | some k =>
    decide (now ≥ p.startAt + k * 2500000) &&
      (p.railOn || (match p.railOff with
        | some t => decide (t ≥ p.startAt + k * 2500000 ∧ now < t + (3 - k) * 2500000)
        | none => false))

/-- PLATE_RAIL_FAULT (R321): a rail, in mV, outside ±10 % of its value for 1 ms. -/
def execPlateRailFault (rail : Nat) (mv : Int) (s : State) : Out :=
  .next (
    let p := s.plate
    let n := railNominal p rail
    if !s.operating || !p.running || !p.railUp (s.hw - 1000000) rail || !p.railUp s.hw rail || decide ((mv - n).natAbs * 10 ≤ n.natAbs) then s
    else ((s.raiseEv 0x27 0 184 0x5403 3 0 rail (ofSigned 32 mv) 0).plateAbort stBusy).plateNext p.park)

/-- PLATE_DONE (R319, R320): 10 ms after the rails are off the image is the old image. Its end clears a link or rail fault. -/
def execPlateDone (s : State) : Out :=
  .next (
    match s.plate.offAt with
    | none => s
    | some t =>
      if !s.operating || !s.plate.running then s
      else
        let s := s.waitTo (t + 10000000)
        let unknown := !s.plate.oldKnown
        let s := s.modPlate (fun p => { p with old := p.image, oldKnown := true, updates := (p.updates + 1) % 4294967296 })
        (((s.clearFault 0x5403 0x27 0).clearFault 0x5404 0x27 0).plateDone stDone unknown).plateNext s.plate.park)

/-- After a trunk start a skipped park image is reported (R322). -/
def State.plateTrunkPost (s : State) : State :=
  match s.plate.pendDone with
  | some [st, t] =>
    (s.modPlate (fun p => { p with pendDone := none })).postAt t 0x27 0 184 0x5401 0 (st + 65536 * s.gen 0x27 0)
      (65536 * b2n (!s.plate.oldKnown) + 131072) 0
  | _ => s

/-- PLATE restarts (R321). -/
def State.plateRestart (s : State) : State :=
  if s.plate.running then (s.plateAbort stRestarted).plateNext s.plate.park else s

/-- The plate at a trunk start: configuration, table and park settings kept (R322); an update that the stop cut off leaves
the old image unknown (R319). -/
def Plate.cold (kept cur : Plate) : Plate :=
  { Plate.reset with width := kept.width, height := kept.height, tempSig := kept.tempSig, sck := kept.sck, vsh := kept.vsh, wave := kept.wave,
                     base := kept.base, parkFaults := kept.parkFaults, parkX := kept.parkX, parkY := kept.parkY, parkId := kept.parkId,
                     old := cur.old, oldKnown := cur.oldKnown && !cur.running && cur.width == kept.width && cur.height == kept.height,
                     updates := cur.updates, pendDone := cur.pendDone, crack := cur.crack }

/-- PLATE.STATUS -/
def execPlateStatus (r : Req) (s : State) : Out := mailboxRow verbPlateStatus r s
/-- PLATE.CONFIG -/
def execPlateConfig (r : Req) (s : State) : Out := mailboxRow verbPlateConfig r s
/-- PLATE.WAVEFORM -/
def execPlateWaveform (r : Req) (s : State) : Out := mailboxRow verbPlateWaveform r s
/-- PLATE.UPDATE -/
def execPlateUpdate (r : Req) (s : State) : Out := mailboxRow verbPlateUpdate r s
/-- PLATE.PARK -/
def execPlatePark (r : Req) (s : State) : Out := mailboxRow verbPlatePark r s

end Sys2Proof.Machine
end

