-- ==== Sys2Proof/Machine/Sensing.lean ====
section
/-! DEFINITION. Machine/Sensing.lean: harvest sensing (04): the loss analyser, bridge, analog and frequency inputs, sensor
supplies and host-assisted acquisition. Samples, peaks, pin voltages and test responses are operands. -/

namespace Sys2Proof.Machine

/-- Change the sensing units. -/
def State.modSense (s : State) (f : Sensing → Sensing) : State := { s with sensing := f s.sensing }

/-- A loss channel. -/
def State.lossCh (s : State) (n : Nat) : LossCh := tget LossCh.reset s.sensing.loss n
/-- Change a loss channel. -/
def State.modLoss (s : State) (n : Nat) (f : LossCh → LossCh) : State :=
  s.modSense (fun x => { x with loss := tmod LossCh.reset x.loss n f })
/-- A bridge. -/
def State.bridgeCh (s : State) (n : Nat) : BridgeCh := tget BridgeCh.reset s.sensing.bridge n
/-- Change a bridge. -/
def State.modBridge (s : State) (n : Nat) (f : BridgeCh → BridgeCh) : State :=
  s.modSense (fun x => { x with bridge := tmod BridgeCh.reset x.bridge n f })
/-- An analog input. -/
def State.ainCh (s : State) (n : Nat) : AinCh := tget AinCh.reset s.sensing.ain n
/-- Change an analog input. -/
def State.modAin (s : State) (n : Nat) (f : AinCh → AinCh) : State :=
  s.modSense (fun x => { x with ain := tmod AinCh.reset x.ain n f })
/-- A frequency input. -/
def State.freqCh (s : State) (n : Nat) : FreqCh := tget FreqCh.reset s.sensing.freq n
/-- Change a frequency input. -/
def State.modFreq (s : State) (n : Nat) (f : FreqCh → FreqCh) : State :=
  s.modSense (fun x => { x with freq := tmod FreqCh.reset x.freq n f })
/-- A sensor supply. -/
def State.supCh (s : State) (n : Nat) : SupCh := tget SupCh.reset s.sensing.sup n
/-- Change a sensor supply. -/
def State.modSup (s : State) (n : Nat) (f : SupCh → SupCh) : State :=
  s.modSense (fun x => { x with sup := tmod SupCh.reset x.sup n f })

/-- Set FAULT and clear VALID. -/
def faultFlags (f : Nat) : Nat := clearBits f fgValid ||| fgFault

/-! ### Loss analyser (R98-R106) -/

/-- The event source of a loss channel (R121). -/
def lossSrc (ch : Nat) : Nat := if ch < 12 then 16 else 17

/-- A fitted channel of a running unit that is switched on. -/
def State.lossOn (s : State) (ch : Nat) : Bool :=
  unitFitted s.variant 0x10 && decide (ch < lossChs s.variant) && s.running 0x10 0 && (s.lossCh ch).cfg.mode != 0

/-- A sample of the 14-bit converter (R98): a two's complement code. -/
def code14 (x : Int) : Int := max (-8192) (min 8191 x)

/-- The end of a snippet capture (R103): the transfer ends and LOSS/SNIP_DONE completes it. A snippet whose 2 ms are not over is
not written. -/
def State.snipEnd (s : State) (ch st : Nat) : State :=
  match (s.lossCh ch).snip with
  | none => s
  | some p =>
    let s := (if st = stRestarted then s.regionStop p.op.win p.desc (2048 * p.captured) else s.regionEnd p.op.win p.desc (2048 * p.captured)).modLoss ch (fun c => { c with snip := none })
    s.complete p.op 0x10 ch 18 0x1005 st p.captured p.skipped

/-- A snippet whose 2 ms are over is written, and ends the capture when it is the last one (R103). The channel's next onset or bin
boundary finds it over (log entry 47). -/
def State.snipSettle (s : State) (ch : Nat) : State :=
  match (s.lossCh ch).snip with
  | some p =>
    match p.record with
    | some snippet =>
      if s.hw < p.lastOn + 1600000 then s
      else
        let s := s.regionWrite p.op.win p.desc (2048 * p.captured) snippet
        let p := { p with captured := p.captured + 1, record := none }
        let s := s.modRegion p.op.win p.desc (fun g => { g with fill := 2048 * p.captured })
        let s := s.modLoss ch (fun c => { c with snip := some p })
        if p.captured ≥ p.count then s.snipEnd ch stDone else s
    | none => s
  | none => s

/-- LOSS_STRIKE_ONSET (R99, R102, R103): a sample reaches THR in IDLE: a strike starts, or is merged inside the dead time; in a
test's blank it only counts as blanked. -/
def execLossStrikeOnset (ch : Nat) (x : Int) (s : State) : Out :=
  .next (
    let s := s.snipSettle ch
    let c := s.lossCh ch
    if !s.lossOn ch || c.striking || decide ((code14 x).natAbs < c.cfg.thr) then s
    else if c.testing then s.modLoss ch (fun c => { c with blanked := satAdd 16 c.blanked 1 })
    else if s.hw ≥ c.tEnd + c.cfg.dead * 1000 then
      let s := match c.snip with
        | some p => if p.record.isSome then
            s.modLoss ch (fun c => { c with snip := some { p with skipped := p.skipped + 1 } }) else s
        | none => s
      let inSnip := match c.snip with | some p => p.record.isSome | none => false
      s.modLoss ch (fun c => { c with striking := true, inSnip := inSnip, tOn := s.hw, onsetSet := c.templates, onsetCfg := c.cfg })
    else s.modLoss ch (fun c => { c with merged := satAdd 16 c.merged 1, openBin.merged := c.openBin.merged + 1 }))

/-- The number of samples from the onset to the end of a strike (R99): the first at which `quiet` reaches RINGDOWN. `n` samples
have passed with `quiet` at `q` µs; samples that are not given are quiet. -/
def ringEnd (c : LossCfg) (n q : Nat) : List Int → Nat
  | [] => n + (c.ringdown - q + 1) / 2
  | x :: l =>
    let q := if (code14 x).natAbs * 100 < c.thr * c.rel then q + 2 else 0
    if q ≥ c.ringdown then n + 1 else ringEnd c (n + 1) q l

/-- 128 times the samples less their mean: mean removed, exactly. -/
def centred (l : List Int) : List Int :=
  let l := (List.range 128).map (fun i => l.getD i 0)
  l.map (fun x => 128 * x - l.foldl (· + ·) 0)

/-- Dot product. -/
def dotI (a b : List Int) : Int := (a.zip b).foldl (fun t (x, y) => t + x * y) 0

/-- The score round(127 · max(0, dot)) of a feature against a template, both of unit energy (R100), computed exactly: the
largest k with (2k − 1)² · |f|²|T|² ≤ (254 · f·T)². -/
def score (f t : List Int) : Nat :=
  let d := dotI f t
  if d ≤ 0 then 0
  else ((List.range 127).filter (fun i => decide ((((2 * (i + 1) - 1) ^ 2 : Nat) : Int) * (dotI f f * dotI t t) ≤
    (254 * d) * (254 * d)))).length

/-- Class, best slot, best and second score of a feature (R100): class 0 straw/chaff, 1 grain, 2 unclassified. -/
def classify (set : List Template) (minScore : Nat) (feature : List Int) : Nat × Nat × Nat × Nat :=
  let f := centred feature
  if dotI f f = 0 then (2, 0, 0, 0)
  else
    let sc := (List.range 8).filterMap (fun j =>
      let t := set.getD j Template.reset
      if t.cls = 255 then none else some (j, score f (centred t.samples)))
    match sc.foldl (fun (b : Option (Nat × Nat)) e => match b with
        | none => some e
        | some x => if e.2 > x.2 then some e else some x) none with
    | none => (2, 0, 0, 0)
    | some (j, v) =>
      let second := (sc.filter (fun e => e.1 != j)).foldl (fun m e => max m e.2) 0
      (if v < minScore then 2 else (set.getD j Template.reset).cls, j, v, second)

/-- The 2,048-byte snippet record (R103). -/
def snipRecord (tOn no cls slot best second peak dur : Nat) (samples : List Int) : List Byte :=
  b64 tOn ++ b32 no ++ b8 cls ++ b8 slot ++ b8 best ++ b8 second ++ b16 peak ++ b16 dur ++ zeros 28 ++
  (List.range 1000).flatMap (fun i => leB 2 (ofSigned 16 (samples.getD i 0)))

/-- The snippet captures a strike that ended, if it matches the selection and its turn has come (R103); not one whose onset fell
inside an earlier snippet. `samples` begin 400 µs before t_on. -/
def State.snipTake (s : State) (ch cls slot best second peak dur : Nat) (c : LossCh) (samples : List Int) : State :=
  match c.snip with
  | none => s
  | some p =>
    let hit : Bool := match p.sel with
      | 0 => true | 1 => cls == 1 | 2 => cls == 0 | 3 => cls == 2 | _ => decide (best - second < p.margin)
    if p.record.isSome || c.inSnip || !hit then s
    else
      let p := { p with matched := p.matched + 1 }
      let take := p.matched % p.every == 0
      let snippet := snipRecord c.tOn c.strikeNo cls slot best second (min peak 65535) (min dur 65535) samples
      s.modLoss ch (fun c => { c with snip := some (if take then { p with record := some snippet, lastOn := c.tOn } else p) })

/-- LOSS_STRIKE_END (R99, R100, R103): `samples` are the channel's samples from 400 µs before t_on on. The strike ends at the
sample that completes RINGDOWN of quiet; it is classified with the set of its onset and counted in the bin open now. -/
def execLossStrikeEnd (ch : Nat) (samples : List Int) (s : State) : Out :=
  .next (
    if !(s.running 0x10 0 && (s.lossCh ch).striking) then s
    else
      let c := s.lossCh ch
      let n := ringEnd c.onsetCfg 0 0 (samples.drop 201)
      let s := (s.waitTo (c.tOn + 2000 * n)).snipSettle ch
      let l := samples.map code14
      let (cls, slot, best, second) := classify c.onsetSet c.onsetCfg.minScore ((l.drop 184).take 128)
      let peak := ((l.drop 200).take (n + 1)).foldl (fun m x => max m x.natAbs) 0
      let s := s.modLoss ch (fun c =>
        { c with striking := false, tEnd := s.hw, strikes := (c.strikes + 1) % 2 ^ 32, strikeNo := (c.strikeNo + 1) % 2 ^ 32,
                 grain := if cls = 1 then (c.grain + 1) % 2 ^ 32 else c.grain,
                 straw := if cls = 0 then (c.straw + 1) % 2 ^ 32 else c.straw,
                 uncls := if cls = 2 then (c.uncls + 1) % 2 ^ 32 else c.uncls,
                 openBin := { c.openBin with strikes := c.openBin.strikes + 1,
                                             grain := c.openBin.grain + b2n (cls == 1),
                                             straw := c.openBin.straw + b2n (cls == 0) } })
      s.snipTake ch cls slot best second peak (2 * n) (s.lossCh ch) l)

/-- The two signals of a channel at a boundary (R101): rate, grain fraction, RANGE. -/
def State.lossSignals (s : State) (ch : Nat) : State :=
  let c := s.lossCh ch
  let bins := c.bins.take c.cfg.w
  let sum (f : LossBin → Nat) : Nat := (bins.map f).foldl (· + ·) 0
  let n := sum (·.strikes)
  let g := sum (·.grain)
  let gs := g + sum (·.straw)
  let m := sum (·.merged)
  let range := decide (m * 20 > n)
  let flt := c.sensor != 0
  let s :=
    if s.isHost (hostKey 0x10 0 ch) then s
    else
      let slots := c.templates.any (fun t => t.cls != 255)
      let s := s.setSig (0x48 + ch) (if bins.isEmpty then fZero else fFrac (n * 100 : Nat) bins.length) s.hw
        (flagsOf (!flt) false range flt false false)
      s.setSig (0x60 + ch) (if gs = 0 then fZero else fFrac g gs) s.hw (flagsOf (!flt && slots) false range flt false false)
  let s := s.modLoss ch (fun c => { c with rangeRun := if range then c.rangeRun + 1 else 0,
                                           clearRun := if range then 0 else c.clearRun + 1 })
  let c := s.lossCh ch
  if c.rangeRun ≥ 100 ∧ !c.overrate then
    (s.modLoss ch (fun c => { c with overrate := true })).raiseEv 0x10 ch (lossSrc ch) 0x1003 1 ch m n 0
  else if c.clearRun ≥ 100 ∧ c.overrate then (s.modLoss ch (fun c => { c with overrate := false })).clearFault 0x1003 0x10 ch
  else s

/-- New settings and a validated template set take effect at the boundary (R104, R105). Mode 0 ends the channel's standing faults:
it tests and counts nothing (log entry 43). -/
def State.lossApply (s : State) (ch : Nat) : State :=
  let c := s.lossCh ch
  let s := match c.pendCfg with
    | none => s
    | some g =>
      let s := s.snipEnd ch stDone
      let fresh := c.cfg.mode == 0 || g.mode == 0
      let s := s.modLoss ch (fun c => { c with cfg := g, pendCfg := none, openBin := if fresh then LossBin.reset else c.openBin,
                                               bins := if fresh then [] else c.bins, partBin := c.partBin && !fresh,
                                               testAt := if g.testMs = c.cfg.testMs then c.testAt else s.hw })
      if g.mode = 0 then
        let s := s.modLoss ch (fun c => { c with overrate := false, sensor := 0, rangeRun := 0, clearRun := 0, openRun := 0, shortRun := 0 })
        let s := (s.zeroSigs (0x48 + ch) (0x48 + ch)).zeroSigs (0x60 + ch) (0x60 + ch)
        ((s.clearFault 0x1001 0x10 ch).clearFault 0x1002 0x10 ch).clearFault 0x1003 0x10 ch
      else s
  match c.pendTpl with
  | none => s
  | some t =>
    let no := (c.setNo + 1) % 65536
    let s := s.modLoss ch (fun c => { c with templates := t, pendTpl := none, setNo := no })
    (s.complete c.pendTplOp 0x10 ch 18 0x1006 stDone no s.us).dirty

/-- One channel closes its bin; the last 100, the widest window, are held. A bin that a restart cut is none of the complete ones;
before the first of these the signals stay as the restart left them (R101). -/
def State.lossClose (s : State) (ch : Nat) : State :=
  let s := s.snipSettle ch
  let c := s.lossCh ch
  let s := if c.cfg.mode = 0 then s
    else if c.partBin then s.modLoss ch (fun c => { c with partBin := false, openBin := LossBin.reset })
    else (s.modLoss ch (fun c => { c with bins := (c.openBin :: c.bins).take 100, openBin := LossBin.reset })).lossSignals ch
  s.lossApply ch

/-- LOSS_BIN_CLOSE (R101): at a multiple of 10 ms every channel closes its bin. -/
def execLossBinClose (s : State) : Out :=
  .next (
    if unitFitted s.variant 0x10 && s.running 0x10 0 then
      (List.range (lossChs s.variant)).foldl State.lossClose (s.boundary 33 10000000 0)
    else s)

/-- LOSS_SENSOR_TEST (R102): at the test interval, in IDLE with the dead time elapsed, the injection starts. -/
def execLossSensorTest (ch : Nat) (s : State) : Out :=
  .next (
    if !s.lossOn ch || (s.lossCh ch).cfg.testMs == 0 || (s.lossCh ch).testing then s
    else
      let s := s.waitTo ((s.lossCh ch).testAt + (s.lossCh ch).cfg.testMs * 1000000)
      let c := s.lossCh ch
      if c.striking || decide (s.hw < c.tEnd + c.cfg.dead * 1000) then s
      else s.modLoss ch (fun c => { c with testing := true, testAt := s.hw }))

/-- LOSS_SENSOR_TEST_END (R102): 200 µs later the response, in percent of the calibrated one, is judged. Two consecutive failures
of one kind raise that kind's fault; an open and a short in turn raise none (DESIGN CHOICE, log entry 43). -/
def execLossSensorTestEnd (ch resp : Nat) (s : State) : Out :=
  .next (
    if !(s.running 0x10 0 && (s.lossCh ch).testing) then s
    else
      let s := s.waitTo ((s.lossCh ch).testAt + 200000)
      let s := s.modLoss ch (fun c => { c with testing := false, openRun := if resp > 150 then c.openRun + 1 else 0,
                                               shortRun := if resp < 25 then c.shortRun + 1 else 0 })
      let c := s.lossCh ch
      if c.openRun ≥ 2 ∧ c.sensor ≠ 1 then
        ((s.clearFault 0x1002 0x10 ch).modLoss ch (fun c => { c with sensor := 1 })).raiseEv 0x10 ch (lossSrc ch) 0x1001 2 ch resp 0 0
      else if c.shortRun ≥ 2 ∧ c.sensor ≠ 2 then
        ((s.clearFault 0x1001 0x10 ch).modLoss ch (fun c => { c with sensor := 2 })).raiseEv 0x10 ch (lossSrc ch) 0x1002 2 ch resp 0 0
      else if c.openRun = 0 ∧ c.shortRun = 0 ∧ c.sensor ≠ 0 then
        ((s.modLoss ch (fun c => { c with sensor := 0 })).clearFault 0x1001 0x10 ch).clearFault 0x1002 0x10 ch
      else s)

/-- LOSS.STATUS (R106). -/
def verbLossStatus : Verb :=
  { unit := 0x10, verb := 0x01, lenOk := lenIs 0, instOk := instLt 24, query := true, rt := true, perm := none,
    body := fun r s =>
      let c := s.lossCh r.inst
      (s, stDone, b32 c.strikes ++ b32 c.grain ++ b32 c.straw ++ b32 c.uncls ++ b16 c.merged ++ b16 c.blanked ++ b16 c.setNo ++
        b8 (if c.cfg.mode = 0 then 0 else if c.sensor ≠ 0 then 2 else 1) ++ b8 0) }

/-- LOSS.CONFIG (R105). -/
def verbLossConfig : Verb :=
  { unit := 0x10, verb := 0x10, lenOk := lenIs 16, instOk := instLt 24, query := false, rt := false, perm := none,
    body := fun r s =>
      let p := r.payload
      let c : LossCfg := { mode := u8 p 0, range := u8 p 1, thr := u16 p 2, ringdown := u16 p 4, rel := u16 p 6, dead := u16 p 8,
                           w := u8 p 10, minScore := u8 p 11, testMs := u16 p 12 }
      if c.mode ≤ 2 ∧ c.range ≤ 1 ∧ 16 ≤ c.thr ∧ c.thr ≤ 8191 ∧ 20 ≤ c.ringdown ∧ c.ringdown ≤ 2000 ∧ 10 ≤ c.rel ∧ c.rel ≤ 90 ∧
         25 ≤ c.dead ∧ c.dead ≤ 500 ∧ 1 ≤ c.w ∧ c.w ≤ 100 ∧ c.minScore ≤ 127 ∧
         (c.testMs = 0 ∨ (100 ≤ c.testMs ∧ c.testMs ≤ 10000)) then
        ((s.modLoss r.inst (fun x => { x with pendCfg := some c })).dirty, stDone, [])
      else (s, stRange, []) }

/-- A template record of the region (R105). -/
def templateOf (p : List Byte) (j : Nat) : Template :=
  { cls := u8 p (264 * j), samples := (List.range 128).map (fun i => i16 p (264 * j + 8 + 2 * i)) }

/-- Class in its values, and energy in a slot that is used. -/
def Template.ok (t : Template) : Bool :=
  t.cls == 255 || (decide (t.cls ≤ 1) && decide (dotI (centred t.samples) (centred t.samples) ≠ 0))

/-- LOSS.TEMPLATES (R104): loaded and validated; active from the next boundary. A set already waiting is BUSY (log entry 41). -/
def verbLossTemplates : Verb :=
  { unit := 0x10, verb := 0x11, lenOk := lenIs 4, instOk := instLt 24, query := false, rt := false, perm := none,
    body := fun r s =>
      let d := u8 r.payload 0
      match s.regionCheck r.win d 2112 with
      | some st => (s, st, [])
      | none =>
        if (s.lossCh r.inst).pendTpl.isSome then (s, stBusy, [])
        else
          let raw := s.regionRead r.win d 0 2112
          let set := (List.range 8).map (templateOf raw)
          let s := s.regionDone r.win d r.tag 2112 false
          let op : Op := { win := r.win, tag := r.tag }
          if set.all Template.ok then
            ((s.modLoss r.inst (fun x => { x with pendTpl := some set, pendTplOp := op })).dirty, stAccepted, [])
          else (s.complete op 0x10 r.inst 18 0x1006 stRange (s.lossCh r.inst).setNo s.us, stAccepted, []) }

/-- LOSS.SNIP (R103). -/
def verbLossSnip : Verb :=
  { unit := 0x10, verb := 0x12, lenOk := lenIs 8, instOk := instLt 24, query := false, rt := false, perm := none,
    body := fun r s =>
      let p := r.payload
      let d := u8 p 0
      let n := u16 p 2
      if (s.lossCh r.inst).snip.isSome then (s, stBusy, [])
      else if !(decide (u8 p 1 ≤ 4 ∧ 1 ≤ n ∧ n ≤ 8192) && (u8 p 1 != 4 || decide (1 ≤ u8 p 4 ∧ u8 p 4 ≤ 127)) &&
          decide (1 ≤ u8 p 5)) then (s, stRange, [])
      else match s.regionCheck r.win d (2048 * n) with
        | some st => (s, st, [])
        | none =>
          let q : Snip := { op := { win := r.win, tag := r.tag }, desc := d, sel := u8 p 1, count := n, margin := u8 p 4,
                            every := u8 p 5 }
          ((s.regionBegin r.win d r.tag true).modLoss r.inst (fun x => { x with snip := some q }), stAccepted, []) }

/-! ### Host-assisted acquisition (R119, R120) -/

/-- Host-assisted parameters of a sensing unit (R119): period and deadline in ns, samples, bytes a sample. -/
def sensePar : Nat → Option (Nat × Nat × Nat × Nat)
  | 0x10 => some (10000000, 15000000, 5000, 2)
  | 0x11 => some (4000000, 4000000, 16, 4)
  | 0x12 => some (10000000, 10000000, 20, 2)
  | 0x13 => some (10000000, 10000000, 1, 32)
  | _ => none

/-- The instances of a sensing unit. -/
def senseCount : Nat → Nat
  | 0x10 => 24 | 0x11 => 8 | 0x12 => 48 | 0x13 => 16 | _ => 0

/-- The signals of an instance. -/
def State.senseSigs (s : State) (u i : Nat) : List Nat :=
  match u with
  | 0x10 => [0x48 + i, 0x60 + i]
  | 0x11 => [0x40 + i]
  | 0x12 => [i]
  | 0x13 => if (s.freqCh i).type = 2 then [0x30 + i, 0x31 + i] else [0x30 + i]
  | _ => []

/-- The effect of a judged miss (R120): HELD, or VALID clear and STALE in the safe action. -/
def State.senseMiss (s : State) (u i : Nat) : State :=
  let safeNow := (s.hostFn (hostKey u 0 i)).inSafe
  (s.senseSigs u i).foldl (fun (s : State) id =>
    s.modFlags id (fun f => if safeNow then clearBits f (fgValid + fgHeld) ||| fgStale else f ||| fgHeld)) s

/-- A new block is sampled for an instance: what has passed its deadline is judged, what has not moves to "before". -/
def State.sensePeriod (s : State) (u k per d : Nat) (i : Nat) : State :=
  let key := hostKey u 0 i
  let s := s.hostTurn key (fun s => s.senseMiss u i)
  s.modHost key (fun h => { h with k := k, tk := s.hw, d := d + s.ckptExt key s.hw, period := per, got := false, part := 0 })

/-- The samples of a period, oldest first, from the newest first; of a sample not taken the code is 0. -/
def oldestFirst (n : Nat) (l : List Int) : List Int := (List.range n).map (fun i => l.getD (n - 1 - i) 0)

/-- The raw section of a host-assisted instance (R119): the unit's own conversions of the period, the edge record of FREQ, and
of a loss channel the period's 5,000 samples, which come with the row. Without an edge in the period FREQ gives the first stamp 0 and
the last edge there was (DESIGN CHOICE, log entry 49). -/
def State.senseSection (s : State) (u i : Nat) (loss : List (Nat × List Int)) : List Byte :=
  match u with
  | 0x10 =>
    let l := ((loss.find? (fun e => e.1 == i)).map (·.2)).getD []
    (List.range 5000).flatMap (fun j => leB 2 (ofSigned 16 (code14 (l.getD j 0))))
  | 0x11 => (oldestFirst 16 (s.bridgeCh i).hist).flatMap bI32
  | 0x12 => (oldestFirst 20 ((s.ainCh i).hist.map (fun (c : Nat) => (c : Int)))).flatMap (fun c => leB 2 (ofSigned 16 c))
  | _ =>
    let c := s.freqCh i
    b32 c.hEdges ++ b32 0 ++ b64 (if c.hEdges = 0 then 0 else c.firstEdge) ++ b64 c.tLast ++ bI32 c.hCount ++ b32 0

/-- HOST_BLOCK_WRITE (R119): at a period end a unit writes its block; block k goes to A when k is even, else to B. -/
def execHostBlockWrite (unit : Nat) (loss : List (Nat × List Int)) (s : State) : Out :=
  .next (
    match sensePar unit with
    | none => s
    | some (per, d, n, bytes) =>
      let b := tget HostBuf.reset s.sensing.bufs unit
      let any := (List.range (senseCount unit)).any (fun i => s.isHost (hostKey unit 0 i))
      if !(s.running unit 0 && b.set && any) then s
      else
        let s := s.boundary (42 + 1000 * unit) per 0
        let insts := (List.range (senseCount unit)).filter (fun i =>
          s.isHost (hostKey unit 0 i) && decide ((s.hostFn (hostKey unit 0 i)).pendingAt < s.hw))
        if insts.isEmpty then s
        else
          let k := (tget 0 s.sensing.blockK unit + 1) % 2 ^ 32
          let hdr := b32 k ++ b32 0 ++ b64 (s.hw - per) ++ b64 s.hw ++ b64 (bitSet insts) ++ b16 n ++ b16 bytes ++
            b32 (n * bytes) ++ zeros 24
          let blk := hdr ++ insts.flatMap (fun i => s.senseSection unit i loss)
          let desc := if k % 2 = 0 then b.a else b.b
          let s := (s.regionWrite b.win desc 0 blk).regionDone b.win desc b.tag blk.length true
          let s := s.modSense (fun x => { x with blockK := tset 0 x.blockK unit k })
          let s := insts.foldl (fun (s : State) i => s.sensePeriod unit k per d i) s
          if unit = 0x13 then insts.foldl (fun (s : State) i => s.modFreq i (fun c => { c with hEdges := 0, hCount := 0 })) s
          else s)

/-- X.HOSTBUF (R119): the two descriptors of the unit; BUSY while an instance is host-assisted. -/
def verbHostbuf (u : Nat) : Verb :=
  { unit := u, verb := 0x20, lenOk := lenIs 4, instOk := inst0, query := false, rt := false, perm := none,
    body := fun r s =>
      let a := u8 r.payload 0
      let b := u8 r.payload 1
      if (List.range (senseCount u)).any (fun i => s.isHost (hostKey u 0 i) || (s.hostFn (hostKey u 0 i)).pending == some true)
      then (s, stBusy, [])
      else match s.regionCheck r.win a 0, s.regionCheck r.win b 0 with
        | none, none =>
          let h : HostBuf := { set := true, win := r.win, tag := r.tag, a := a, b := b }
          ((s.modSense (fun x => { x with bufs := tset HostBuf.reset x.bufs u h })).dirty, stDone, [])
        | some st, _ => (s, st, [])
        | none, some st => (s, st, []) }

/-- The condition KEEPER.MODE adds (R119): a buffer is set and each descriptor holds the header and one section for every
host-assisted instance, the new one included. -/
def State.senseModeOk (s : State) (u inst : Nat) : Bool :=
  match sensePar u with
  | none => false
  | some (_, _, n, bytes) =>
    let b := tget HostBuf.reset s.sensing.bufs u
    let cnt := ((List.range (senseCount u)).filter (fun i => i == inst || s.isHost (hostKey u 0 i) ||
      (s.hostFn (hostKey u 0 i)).pending == some true)).length
    let fits (d : Nat) : Bool := (s.region b.win d).present && decide ((s.region b.win d).size ≥ 64 + cnt * n * bytes)
    b.set && fits b.a && fits b.b

/-- One entry of an X.RESULT: signal, validity, value. -/
structure SenseEntry where
  id : Nat
  flags : Nat
  value : F32

/-- The entries of an X.RESULT. -/
def senseEntries (p : List Byte) : List SenseEntry :=
  (List.range ((p.length - 4) / 8)).map (fun i =>
    { id := u16 p (4 + 8 * i), flags := u8 p (6 + 8 * i) &&& 0x2D, value := f32 p (8 + 8 * i) })

/-- The host-assisted instance, held by the window, that a signal belongs to. -/
def State.senseOwner (s : State) (u w id : Nat) : Option Nat :=
  (List.range (senseCount u)).find? (fun i =>
    s.isHost (hostKey u 0 i) && (s.hostFn (hostKey u 0 i)).owner == w && (s.senseSigs u i).contains id)

/-- The sensor supply that an instance of a unit is linked to; 255 none (R110, R115). -/
def State.senseLink (s : State) (u i : Nat) : Nat := if u = 0x12 then (s.ainCh i).link else if u = 0x13 then (s.freqCh i).link else 255

/-- The supply is off, in its current limit or back-fed (R118). -/
def State.supDown (s : State) (link : Nat) : Bool := decide (link < 6) && (!(s.supCh link).on || (s.supCh link).limited)

/-- The results of one instance for a block. A signal of a LOSS instance that comes alone in the safe action waits for the other,
with which the function may resume. Of an input linked to a supply that is off or limited they carry FAULT with VALID
clear (R118). -/
def State.senseApply (s : State) (u : Nat) (current : Bool) (tk : Nat) (es : List SenseEntry) (i : Nat) : State :=
  let key := hostKey u 0 i
  let mine := es.filter (fun e => (s.senseSigs u i).contains e.id)
  let flt := s.supDown (s.senseLink u i)
  let write (s : State) : State := mine.foldl (fun (s : State) e => s.setSig e.id e.value tk (if flt then faultFlags e.flags else e.flags)) s
  if mine.isEmpty then s
  else
    let m := if u = 0x10 then bitSet (mine.map (fun e => if e.id < 0x60 then 0 else 1)) else 3
    let h := s.hostFn key
    let m := m ||| (if current then h.part else h.ppart)
    let s := s.modHost key (fun h => if current then { h with part := m } else { h with ppart := m })
    let open' := if current then !h.got else h.prev
    if m = 3 ∧ open' then
      let (s, go) := if current then s.hostResult key else s.prevResult key
      let alone := h.early.filter (fun e => e.1 == tk)
      let s := s.modHost key (fun x => { x with early := [] })
      if go then write (alone.foldl (fun (s : State) e => s.setSig e.2.1 e.2.2.2 tk e.2.2.1) s) else s
    else if h.inSafe then
      if open' then s.modHost key (fun x =>
        { x with early := x.early.filter (fun e => e.1 == tk) ++ mine.map (fun e => (tk, e.id, e.flags, e.value)) }) else s
    else write s

/-- An instance whose function took part in the unit's present block, of those named if one did: its sample instant is the
block's. One whose mode took effect at that instant has no part in it. -/
def State.blockInst (s : State) (u now : Nat) (named : List Nat) : Nat :=
  let took (i : Nat) : Bool := s.isHost (hostKey u 0 i) && (s.hostFn (hostKey u 0 i)).k == now
  ((named ++ List.range (senseCount u)).find? took).getD (named.headD 0)

/-- X.RESULT (R120). -/
def verbResult (u : Nat) : Verb :=
  { unit := u, verb := 0x21,
    lenOk := fun r => decide (12 ≤ r.payload.length ∧ r.payload.length ≤ 108) && (r.payload.length - 4) % 8 == 0,
    instOk := inst0, query := false, rt := true, perm := none,
    body := fun r s =>
      let k := u32 r.payload 0
      let es := senseEntries r.payload
      let now := tget 0 s.sensing.blockK u
      let owners := es.map (fun e => s.senseOwner u r.win e.id)
      if now = 0 ∨ k = 0 ∨ k > now ∨ !owners.all Option.isSome ∨ (es.map SenseEntry.id).eraseDups.length ≠ es.length ∨
          !es.all (fun e => fFinite e.value) then (s, stRange, [])
      else
        let is := (owners.filterMap id).eraseDups
        let h := s.hostFn (hostKey u 0 (s.blockInst u now is))
        let tk := h.tk - (now - k) * h.period
        let due := if k = now then h.due else if h.prev then h.ptk + h.pd else tk + h.d
        if s.hw ≥ due ∨ k + 1 < now then (s, stDeadline, [])
        else (is.foldl (fun (s : State) i => s.senseApply u (k == now) tk es i) s, stDone, []) }

/-! ### Bridges (R107-R109) -/

/-- Filter length of a code. -/
def filterLen : Nat → Nat
  | 0 => 1 | 1 => 4 | 2 => 16 | _ => 64

/-- The range in mV/V of a code. -/
def bridgeRange : Nat → F32
  | 0 => fNat 2 | 1 => fNat 8 | _ => fNat 32

/-- A tare ends (R108). -/
def State.tareEnd (s : State) (ch st : Nat) (tare : F32) (used : Nat) : State :=
  match (s.bridgeCh ch).tareOp with
  | none => s
  | some t =>
    let s := (s.modBridge ch (fun c => { c with tareOp := none, tare := tare })).complete t.op 0x11 ch (20 + ch) 0x1013 st tare.toNat used
    if st = stDone then s.dirty else s

/-- The 24-bit code of a ratio, ±2²³ being the range (R107, R119). -/
def ratioCode (ratio lim : F32) : Int := max (-8388608) (min 8388607 (fRound (fDiv ratio lim) 8388608))

/-- One bridge takes a sample (R107). With the excitation configured off there is nothing to convert against: the bridge is not
converted, and BRIDGE.CONFIG has set its signal to zero with VALID clear (DESIGN CHOICE, log entry 48). -/
def State.bridgeSample (s : State) (e : Nat × F32 × F32 × F32) : State :=
  let (ch, ratio, cur, volt) := e
  let c := s.bridgeCh ch
  if ch ≥ 8 ∨ c.exc = 0 then s
  else
    let lim := bridgeRange c.range
    let (r, ovr) := clampF ratio (fNeg lim) lim
    let ratios := (r :: c.ratios).take (filterLen c.filter)
    let raw := fAdd (fMul c.scale (fDiv (fSum ratios) (fNat ratios.length))) c.offset
    let flt := c.excOff || c.senseOpen
    let since := if ovr then (if c.overSince.isSome then c.overSince else some s.hw) else none
    let hist := (ratioCode ratio lim :: c.hist).take 16
    let s := s.modBridge ch (fun c =>
      { c with ratios := ratios, excCur := cur, excVolt := volt, ratio := ratio, hist := hist, overSince := since })
    let s := if c.overR && !ovr then (s.modBridge ch (fun c => { c with overR := false })).clearFault 0x1012 0x11 ch else s
    let s := if s.isHost (hostKey 0x11 0 ch) then s
      else s.setSig (0x40 + ch) (fSub raw c.tare) s.hw (flagsOf (!flt) false ovr flt false false)
    match c.tareOp with
    | none => s
    | some t =>
      let vals := raw :: t.values
      if flt then s.tareEnd ch stRange c.tare vals.length
      else if vals.length ≥ t.want then s.tareEnd ch stDone (fDiv (fSum vals.reverse) (fNat vals.length)) vals.length
      else s.modBridge ch (fun c => { c with tareOp := some { t with values := vals } })

/-- BRIDGE_SAMPLE (R107): at a multiple of 250 µs each bridge is converted: instance, ratio in mV/V, excitation current and
voltage as measured. -/
def execBridgeSample (samples : List (Nat × F32 × F32 × F32)) (s : State) : Out :=
  .next (if s.running 0x11 0 then samples.foldl State.bridgeSample (s.boundary 43 250000 0) else s)

/-- BRIDGE_EXC_FAULT (R109): more than the limit, in mA, for 1 ms. -/
def execBridgeExcFault (ch cur : Nat) (s : State) : Out :=
  .next (
    let c := s.bridgeCh ch
    if !s.running 0x11 0 || ch ≥ 8 || c.exc == 0 || c.excOff || decide (cur ≤ c.limit) then s
    else
      let s := (s.modBridge ch (fun c => { c with excOff := true })).raiseEv 0x11 ch (20 + ch) 0x1010 3 ch cur 0 0
      if s.isHost (hostKey 0x11 0 ch) then s else s.modFlags (0x40 + ch) faultFlags)

/-- BRIDGE_SENSE_OPEN (R109): the common mode in percent of excitation, outside 30–70 % for 10 ms, or back inside. -/
def execBridgeSenseOpen (ch cm : Nat) (s : State) : Out :=
  .next (
    let c := s.bridgeCh ch
    let inside := decide (30 ≤ cm ∧ cm ≤ 70)
    if !s.running 0x11 0 || ch ≥ 8 || c.exc == 0 then s
    else if inside && c.senseOpen then (s.modBridge ch (fun c => { c with senseOpen := false })).clearFault 0x1011 0x11 ch
    else if !inside && !c.senseOpen then
      let s := (s.modBridge ch (fun c => { c with senseOpen := true })).raiseEv 0x11 ch (20 + ch) 0x1011 3 ch cm 0 0
      if s.isHost (hostKey 0x11 0 ch) then s else s.modFlags (0x40 + ch) faultFlags
    else s)

/-- BRIDGE_OVERRANGE (R109): the sampled ratio has been beyond the range for 100 ms. -/
def execBridgeOverrange (ch : Nat) (s : State) : Out :=
  .next (
    let c := s.bridgeCh ch
    match c.overSince with
    | none => s
    | some t =>
      if !s.running 0x11 0 || ch ≥ 8 || c.exc == 0 || c.overR then s
      else ((s.waitTo (t + 100000000)).modBridge ch (fun c => { c with overR := true })).raiseEv 0x11 ch (20 + ch) 0x1012 2 ch
        c.ratio.toNat 0 0)

/-- BRIDGE.CONFIG (R107, R109): it restores the excitation and leaves tare unchanged. Excitation configured off ends the sense and
over-range conditions, and zeroes the signal (log entry 48). -/
def verbBridgeConfig : Verb :=
  { unit := 0x11, verb := 0x10, lenOk := lenIs 16, instOk := instLt 8, query := false, rt := false, perm := none,
    body := fun r s =>
      let p := r.payload
      let sc := f32 p 4
      if u8 p 0 ≤ 2 ∧ u8 p 1 ≤ 2 ∧ u8 p 2 ≤ 3 ∧ fFinite sc ∧ !fEq sc fZero ∧ fFinite (f32 p 8) ∧ 10 ≤ u16 p 12 ∧ u16 p 12 ≤ 60 then
        let s := s.tareEnd r.inst stRange (s.bridgeCh r.inst).tare
          (((s.bridgeCh r.inst).tareOp.map (·.values.length)).getD 0)
        let s := s.modBridge r.inst (fun c =>
          { c with exc := u8 p 0, range := u8 p 1, filter := u8 p 2, scale := sc, offset := f32 p 8, limit := u16 p 12,
                   excOff := false, ratios := [], overSince := none })
        let s := s.clearFault 0x1010 0x11 r.inst
        let s := if u8 p 0 = 0 then
            let s := s.modBridge r.inst (fun c => { c with senseOpen := false, overR := false })
            ((s.clearFault 0x1011 0x11 r.inst).clearFault 0x1012 0x11 r.inst).zeroSigs (0x40 + r.inst) (0x40 + r.inst)
          else s
        (s.dirty, stDone, [])
      else (s, stRange, []) }

/-- BRIDGE.TARE (R108). A tare in progress is BUSY (log entry 41). -/
def verbBridgeTare : Verb :=
  { unit := 0x11, verb := 0x11, lenOk := lenIs 4, instOk := instLt 8, query := false, rt := false, perm := none,
    body := fun r s =>
      let n := u16 r.payload 0
      if n < 16 then (s, stRange, [])
      else if (s.bridgeCh r.inst).tareOp.isSome then (s, stBusy, [])
      else
        let t : Tare := { op := { win := r.win, tag := r.tag }, want := n, values := [] }
        ((s.modBridge r.inst (fun c => { c with tareOp := some t })).dirty, stAccepted, []) }

/-- BRIDGE.STATUS (R108). With excitation off it gives the current and the voltage of the last sample (DESIGN CHOICE, log entry 48). -/
def verbBridgeStatus : Verb :=
  { unit := 0x11, verb := 0x01, lenOk := lenIs 0, instOk := instLt 8, query := true, rt := true, perm := none,
    body := fun r s => let c := s.bridgeCh r.inst; (s, stDone, bF c.tare ++ bF c.excCur ++ bF c.excVolt) }

/-! ### Sensor supplies and what they do to linked inputs (R117, R118) -/

/-- The supply an input is linked to suppresses its diagnostics. -/
def State.supBad (s : State) (link : Nat) : Bool := decide (link < 6) && (s.supCh link).suppress

/-- The signals of a frequency input: of a quadrature pair the rate and the count (R113, R114). -/
def State.freqSigs (s : State) (i : Nat) : List Nat := if (s.freqCh i).type = 2 then [0x30 + i, 0x31 + i] else [0x30 + i]

/-- The linked inputs of a supply carry FAULT with VALID clear at once. -/
def State.supFaultLinked (s : State) (n : Nat) : State :=
  let s := (List.range 48).foldl (fun (s : State) i =>
    let c := s.ainCh i
    if c.link = n ∧ c.range ≠ 0 then
      (s.modFlags i faultFlags).modAin i (fun c => { c with lowSince := none, highSince := none, shuntSince := none }) else s) s
  (List.range 16).foldl (fun (s : State) i =>
    if (s.freqCh i).link = n ∧ (s.freqCh i).type ≠ 0 then
      (s.freqSigs i).foldl (fun (s : State) id => s.modFlags id faultFlags) (s.modFreq i (fun c => { c with wireRun := 0 })) else s) s

/-- The current limit in mA: 130 % of the rating (R117). -/
def supLimit (n : Nat) : Nat := if n < 4 then 195 else 260

/-- SUP_OVERLOAD (R117): the output current, in mA, at its limit for `ms` ms: limited from now on, switched off when the limit has
lasted 20 ms. A current below the limit ends it: the supply is back in regulation (log entry 45). -/
def execSupOverload (n cur ms : Nat) (s : State) : Out :=
  .next (
    let c := s.supCh n
    if !s.running 0x14 0 || n ≥ 6 || !c.on then s
    else if cur < supLimit n then
      if c.limited then s.modSup n (fun c => { c with limited := false, okAt := s.hw + 50000000 }) else s
    else
      let s := if c.limited then s
        else (s.modSup n (fun c => { c with limited := true, limSince := s.hw, suppress := true })).supFaultLinked n
      let since := (s.supCh n).limSince
      let s := s.waitTo (since + min ms 20 * 1000000)
      if s.hw < since + 20000000 then s
      else
        let s := s.modSup n (fun c => { c with on := false, limited := false, fault := 1, suppress := true,
                                               retryAt := if c.retryS = 0 then none else some (s.hw + c.retryS * 1000000000) })
        s.raiseEv 0x14 n 38 0x1040 4 n cur c.retryS 0)

/-- Nominal output in mV. -/
def supNominal (n : Nat) : Nat := if n < 4 then 5000 else 10000

/-- SUP_BACKFED (R117): above 110 % of nominal for 1 ms, of a supply that is off as well: the retry it may wait for is off too. -/
def execSupBackfed (n mv : Nat) (s : State) : Out :=
  .next (
    if !s.running 0x14 0 || n ≥ 6 || (s.supCh n).fault == 2 || decide (mv * 10 ≤ supNominal n * 11) then s
    else
      let s := s.modSup n (fun c => { c with on := false, limited := false, fault := 2, suppress := true, retryAt := none })
      (s.supFaultLinked n).raiseEv 0x14 n 38 0x1041 4 n mv 0 0)

/-- SUP_RETRY (R117): the retry interval after an overload ends. -/
def execSupRetry (n : Nat) (s : State) : Out :=
  .next (
    match (s.supCh n).retryAt with
    | none => s
    | some t =>
      if !s.running 0x14 0 then s
      else
        let s := s.waitTo t
        s.modSup n (fun c => { c with on := true, retryAt := none, okAt := s.hw + 50000000 }))

/-- SUP_REGULATION_SETTLED (R118): 50 ms after regulation returned, linked diagnostics resume; a fault has ended. -/
def execSupRegulationSettled (n : Nat) (s : State) : Out :=
  .next (
    let c := s.supCh n
    if !s.running 0x14 0 || n ≥ 6 || !c.on || c.limited || !c.suppress then s
    else
      let s := (s.waitTo c.okAt).modSup n (fun c => { c with suppress := false, fault := 0 })
      (s.clearFault 0x1040 0x14 n).clearFault 0x1041 0x14 n)

/-- SUP.CONFIG (R117). -/
def verbSupConfig : Verb :=
  { unit := 0x14, verb := 0x10, lenOk := lenIs 4, instOk := instLt 6, query := false, rt := false, perm := none,
    body := fun r s =>
      let p := r.payload
      if u8 p 0 ≤ 1 ∧ u16 p 2 ≤ 60 then
        let was := (s.supCh r.inst).on
        let en := u8 p 0 == 1
        let s := s.modSup r.inst (fun c =>
          { c with enable := en, on := en, retryS := u16 p 2, retryAt := none, fault := 0,
                   limited := c.limited && en && was, suppress := c.suppress || !en || !was,
                   okAt := if was then c.okAt else s.hw + 50000000 })
        let s := (s.clearFault 0x1040 0x14 r.inst).clearFault 0x1041 0x14 r.inst
        let s := if en && was then s else s.supFaultLinked r.inst
        (s.dirty, stDone, [])
      else (s, stRange, []) }

/-! ### Analog inputs (R110, R111) -/

/-- The span of a range code. -/
def ainSpan : Nat → Nat
  | 1 => 5 | 2 => 10 | 3 => 32 | 4 => 30 | 5 => 12500 | _ => 0

/-- Default limits of a range (R110), as fractions n/100. -/
def ainDefault : Nat → Nat × Nat
  | 1 => (20, 480) | 2 => (20, 980) | 3 => (50, 3150) | 4 => (360, 2100) | 5 => (1000, 1100000) | _ => (0, 0)

/-- The low limit in force: none when disabled. -/
def AinCh.low (c : AinCh) : Option F32 :=
  if fIsNan c.lo then some (fFrac (ainDefault c.range).1 100) else if fLt c.lo fZero then none else some c.lo

/-- The high limit in force: none when disabled. -/
def AinCh.high (c : AinCh) : Option F32 :=
  if fIsNan c.hi then some (fFrac (ainDefault c.range).2 100) else if fLt (fNat (ainSpan c.range)) c.hi then none else some c.hi

/-- The event source of an analog input. -/
def ainSrc (n : Nat) : Nat := 28 + n / 8

/-- The mean of the conversions held, in units of the range. -/
def AinCh.value (c : AinCh) : F32 :=
  if c.codes.isEmpty then fZero
  else fFrac (c.codes.foldl (· + ·) 0 * ainSpan c.range : Nat) (65535 * c.codes.length)

/-- One analog input is converted at `t` (R110, R111). -/
def State.ainConvert (start : Nat) (s : State) (e : Nat × Nat) : State :=
  let (n, code) := e
  let t := start + n * 10000
  if n ≥ 48 ∨ (s.ainCh n).range = 0 then s
  else
    let s := s.modAin n (fun c => { c with codes := (min code 65535 :: c.codes).take c.avg, hist := (min code 65535 :: c.hist).take 20 })
    let c := s.ainCh n
    let v := c.value
    let sum := c.codes.foldl (· + ·) 0
    let isLow : Bool := match c.low with | some l => fLt v l | none => false
    let isHigh : Bool := match c.high with | some h => fLt h v | none => false
    let range := isLow || isHigh || sum == 0 || sum == 65535 * c.codes.length
    let bad := s.supBad c.link
    let inside := !isLow && !isHigh
    let above := c.range == 4 && !bad && !c.shuntOff && decide (min code 65535 * 30 > 25 * 65535)
    let s := s.modAin n (fun c =>
      { c with shuntSince := if above then (if c.shuntSince.isSome then c.shuntSince else some t) else none,
               shuntPeak := if above then max (min code 65535) (if c.shuntSince.isSome then c.shuntPeak else 0) else 0,
               lowSince := if isLow && !bad then (if c.lowSince.isSome then c.lowSince else some t) else none,
               highSince := if isHigh && !bad then (if c.highSince.isSome then c.highSince else some t) else none,
               inSince := if inside then (if c.inSince.isSome then c.inSince else some t) else none })
    let ended : Bool := match (s.ainCh n).inSince with | some x => decide (t ≥ x + c.diagMs * 1000000) | none => false
    let s := if c.diag ≠ 0 ∧ ended then
        (s.modAin n (fun c => { c with diag := 0 })).clearFault (if c.diag = 1 then 0x1020 else 0x1021) 0x12 n else s
    let flt := s.supDown c.link || (s.ainCh n).diag != 0
    if s.isHost (hostKey 0x12 0 n) then s else s.setSig n v t (flagsOf (!flt) false range flt false false)

/-- AIN_SAMPLE (R110): each input is converted in its 500 µs period, input n at n × 10 µs. The supply outputs measured every
1 ms, in mV, come with it, whether AIN runs or not (R117; log entry 42). -/
def execAinSample (codes sup : List (Nat × Nat)) (s : State) : Out :=
  .next (
    if !(s.running 0x12 0 || s.running 0x14 0) then s
    else
      let s := s.boundary 52 500000 470000
      let start := s.hw - 470000
      let s := if s.running 0x12 0 then codes.foldl (State.ainConvert start) s else s
      if start % 1000000 = 0 ∧ s.running 0x14 0 then
        sup.foldl (fun (s : State) e => if e.1 < 6 then s.setSig (0x78 + e.1) (fFrac e.2 1000) start fgValid else s) s
      else s)

/-- AIN_DIAG (R111): a value outside its limits for the diagnostic time raises AIN/DIAG_LOW or AIN/DIAG_HIGH. -/
def execAinDiag (ch : Nat) (s : State) : Out :=
  .next (
    let c := s.ainCh ch
    let go (kind t code : Nat) (lim : F32) : State :=
      let s := s.waitTo (t + c.diagMs * 1000000)
      let s := if c.diag ≠ 0 then s.clearFault (if c.diag = 1 then 0x1020 else 0x1021) 0x12 ch else s
      let s := (s.modAin ch (fun c => { c with diag := kind })).raiseEv 0x12 ch (ainSrc ch) code 2 ch c.value.toNat lim.toNat 0
      if s.isHost (hostKey 0x12 0 ch) then s else s.modFlags ch faultFlags
    if !s.running 0x12 0 || ch ≥ 48 || c.range == 0 then s
    else match c.lowSince, c.highSince with
      | some t, _ => if c.diag = 1 then s else go 1 t 0x1020 (c.low.getD fZero)
      | none, some t => if c.diag = 2 then s else go 2 t 0x1021 (c.high.getD fZero)
      | none, none => s)

/-- AIN_SHUNT_OFF (R111): conversions above 25 mA for 10 ms in the 4–20 mA range disconnect the shunt; the peak is in 0.1 mA. -/
def execAinShuntOff (ch : Nat) (s : State) : Out :=
  .next (
    let c := s.ainCh ch
    match c.shuntSince with
    | none => s
    | some t =>
      if !s.running 0x12 0 || ch ≥ 48 || c.range != 4 || c.shuntOff || s.supBad c.link then s
      else
        let s := s.waitTo (t + 10000000)
        (s.modAin ch (fun c => { c with shuntOff := true, shuntAt := s.hw, shuntSince := none })).raiseEv 0x12 ch (ainSrc ch) 0x1022 3 ch
          (c.shuntPeak * 300 / 65535) 0 0)

/-- AIN_SHUNT_RECONNECT (R111): 1 s later. -/
def execAinShuntReconnect (ch : Nat) (s : State) : Out :=
  .next (
    let c := s.ainCh ch
    if !s.running 0x12 0 || !c.shuntOff then s
    else ((s.waitTo (c.shuntAt + 1000000000)).modAin ch (fun c => { c with shuntOff := false })).clearFault 0x1022 0x12 ch)

/-- AIN.CONFIG (R110). It starts the input anew: standing diagnostics end, and a disconnected shunt is connected again (DESIGN
CHOICE, log entry 48). -/
def verbAinConfig : Verb :=
  { unit := 0x12, verb := 0x10, lenOk := lenIs 16, instOk := instLt 48, query := false, rt := false, perm := none,
    body := fun r s =>
      let p := r.payload
      if u8 p 0 ≤ 5 ∧ 1 ≤ u8 p 1 ∧ u8 p 1 ≤ 64 ∧ (u8 p 2 ≤ 5 ∨ u8 p 2 = 255) ∧ 1 ≤ u16 p 12 ∧ u16 p 12 ≤ 10000 then
        let c : AinCh := { AinCh.reset with range := u8 p 0, avg := u8 p 1, link := u8 p 2, lo := f32 p 4, hi := f32 p 8,
                                            diagMs := u16 p 12 }
        let s := s.modSense (fun x => { x with ain := tset AinCh.reset x.ain r.inst c })
        let s := ((s.clearFault 0x1020 0x12 r.inst).clearFault 0x1021 0x12 r.inst).clearFault 0x1022 0x12 r.inst
        let s := if u8 p 0 = 0 then s.zeroSigs r.inst r.inst else s
        (s.dirty, stDone, [])
      else (s, stRange, []) }

/-! ### Frequency inputs (R112-R116) -/

/-- The event source of a frequency input. -/
def freqSrc (n : Nat) : Nat := 34 + n / 4

/-- A rate 1/p against threshold·pct/100, p in ns: compares 10¹¹ with T·pct·p, exactly. -/
def rateCmp (t : F32) (pct p : Nat) : Option Ordering :=
  fpCmp (.fin false (10 ^ 11) 0) (fpMul (fD t) (.fin false (pct * p) 0))

/-- The comparator's term after an edge with period p (R115). -/
def FreqCh.edgeTerm (c : FreqCh) (p : Nat) : Bool :=
  match c.sense with
  | 1 => if rateCmp c.thr 100 p = some .gt then true else if rateCmp c.thr (100 - c.h) p = some .lt then false else c.term
  | 2 => if rateCmp c.thr 100 p = some .lt then true else if rateCmp c.thr (100 + c.h) p = some .gt then false else c.term
  | _ => c.term

/-- The largest whole number of ns within the period 100/(T·pct) s. -/
def rateLimit (t : F32) (pct : Nat) : Nat :=
  match fD t with
  | .fin _ m e => if m * pct = 0 then 0
      else if e ≥ 0 then 10 ^ 11 / (m * 2 ^ e.toNat * pct) else 10 ^ 11 * 2 ^ (-e).toNat / (m * pct)
  | _ => 0

/-- The input marks this edge (R112): VR the negative-going crossing above its arming amplitude, Hall as selected. A peak at the
configured minimum itself does not arm (DESIGN CHOICE, log entry 49). -/
def FreqCh.marks (c : FreqCh) (ch peak : Nat) (rising : Bool) : Bool :=
  if ch < 8 then !rising && decide (peak > c.pull * 10) && (!c.seen || decide (10 * peak > 3 * c.peak))
  else match c.edge with | 0 => rising | 1 => !rising | _ => true

/-- The levels of a pair of inputs follow every edge, whatever the pair's type and whether the unit runs (R114). -/
def State.levelStep (s : State) (ch : Nat) (rising both : Bool) : State :=
  let s := s.modFreq ch (fun c => { c with levelA := rising })
  if both then s.modFreq (if ch % 2 = 0 then ch + 1 else ch - 1) (fun c => { c with levelA := !c.levelA }) else s

/-- The quadrature count of a pair moves (R114), before the levels do. -/
def State.quadStep (s : State) (e : Nat) (isA rising both : Bool) : State :=
  let a := s.freqCh e
  let b := s.freqCh (e + 1)
  if both then
    let s := s.modFreq e (fun c => { c with quadErrs := c.quadErrs + 1 })
    let due : Bool := !s.supBad a.link && match a.quadAt with | none => true | some t => decide (s.hw ≥ t + 100000000)
    if due then
      let n := (s.freqCh e).quadErrs
      (s.modFreq e (fun c => { c with quadErrs := 0, quadAt := some s.hw })).raiseEv 0x13 e (freqSrc e) 0x1031 2 e n 0 0
    else s
  else
    let up := if isA then rising != b.levelA else rising == a.levelA
    let wrap (v : Int) : Int := if v > 8388607 then -8388608 else if v < -8388608 then 8388607 else v
    let d : Int := if up then 1 else -1
    let s := s.modFreq e (fun c => { c with count := wrap (c.count + d), hCount := c.hCount + d, dirNeg := !up })
    s.clearFault 0x1031 0x13 e

/-- The odd input of a quadrature pair (R114). -/
def State.quadOdd (s : State) (ch : Nat) : Bool := ch % 2 == 1 && (s.freqCh (ch - 1)).type == 2

/-- FREQ_EDGE (R112, R114, R115): an edge at input `ch`: its direction, the positive peak in mV before it, and whether both
inputs of a quadrature pair change within this reflex cycle. During a hold of the unit only the comparator takes it. The edges of
a pair's rate are the even input's, as its edge setting selects them (DESIGN CHOICE, log entry 49). -/
def execFreqEdge (ch peak : Nat) (rising both : Bool) (s : State) : Out :=
  .next (
    let e := ch / 2 * 2
    let quad := (s.freqCh e).type == 2
    let runs := s.running 0x13 0
    if (s.unitSt 0x13 0).phase == .off || ch ≥ 16 then s
    else
      let s := if quad && runs then s.quadStep e (ch == e) rising both else s
      let s := s.levelStep ch rising both
      let c := s.freqCh ch
      if (!quad && c.type == 0) || (quad && ch != e) || !c.marks ch peak rising then s
      else
        let term := if c.cmpSeen then c.edgeTerm (s.hw - c.tLast) else c.term
        let s := s.modFreq ch (fun c => { c with tLast := s.hw, cmpSeen := true, seen := true, peak := peak, term := term })
        if runs then s.modFreq ch (fun c => { c with edges := c.edges + 1, firstEdge := if c.hEdges = 0 then s.hw else c.firstEdge,
                                                     hEdges := (c.hEdges + 1) % 2 ^ 32 })
        else s)

/-- FREQ_GATE_END (R113, R114): the frequency signal at the end of a gate time. -/
def execFreqGateEnd (ch : Nat) (s : State) : Out :=
  .next (
    let c := s.freqCh ch
    if !s.running 0x13 0 || ch ≥ 16 || c.type == 0 || s.quadOdd ch then s
    else
      let s := s.boundary (60 + 1000 * ch) (c.gateMs * 1000000) 0
      let none' := c.edges == 0
      let live := decide (s.hw - c.tRef < c.timeoutDs * 100000000)
      let f := if !none' then fFrac (c.edges * 1000000000 : Nat) (c.tLast - c.tRef)
        else if live then fMin c.f (fFrac 1000000000 (s.hw - c.tRef)) else fZero
      let s := s.modFreq ch (fun c => { c with f := f, edges := 0, tRef := if none' then c.tRef else c.tLast,
                                               seen := c.seen && (!none' || live) })
      let stamp := if none' then s.hw else c.tLast
      let flt := c.wiring != 0 || (c.type == 2 && (s.freqCh (ch + 1)).wiring != 0) || s.supDown c.link
      let fl := flagsOf (!flt) false false flt false false
      if s.isHost (hostKey 0x13 0 ch) then s
      else
        let v := fMul (if c.type = 2 ∧ c.dirNeg then fNeg f else f) c.scale
        let s := s.setSig (0x30 + ch) v stamp fl
        if c.type = 2 then s.setSig (0x31 + ch) (fInt c.count) stamp fl else s)

/-- FREQ_COMPARATOR_TIMEOUT (R115): the reflex cycle in which now − t_last exceeds the comparator's period. -/
def execFreqComparatorTimeout (ch : Nat) (s : State) : Out :=
  .next (
    let c := s.freqCh ch
    if (s.unitSt 0x13 0).phase == .off || ch ≥ 16 || c.type == 0 || c.sense == 0 || c.term == (c.sense == 2) then s
    else
      let lim := rateLimit c.thr (if c.sense = 1 then 100 - c.h else 100)
      (s.waitTo ((c.tLast + lim) / 4 * 4 + 4)).modFreq ch (fun c => { c with term := c.sense == 2 }))

/-- The wiring found (R116): 0 good, 1 open, 2 short to ground, 3 short to battery. -/
def State.wiringKind (s : State) (ch link mv : Nat) (bias : Bool) : Nat :=
  if ch < 8 then (if bias then 1 else if mv < 500 then 2 else if mv > 4500 then 3 else 0)
  else if link < 6 ∧ fLt (fAdd (s.sig (0x78 + link)).value fOne) (fFrac mv 1000) then 3 else 0

/-- FREQ_WIRING_CHECK (R116): every 100 ms: the pin voltage and, on VR inputs, a failed bias-current check. The odd input of a
quadrature pair is checked under the pair's configuration, and both signals of the pair carry the FAULT (log entry 49). -/
def execFreqWiringCheck (ch mv : Nat) (bias : Bool) (s : State) : Out :=
  .next (
    let c := s.freqCh ch
    let e := if s.quadOdd ch then ch - 1 else ch
    if !s.running 0x13 0 || ch ≥ 16 || (s.freqCh e).type == 0 then s
    else
      let s := s.boundary (62 + 1000 * ch) 100000000 0
      if s.supBad (s.freqCh e).link then s
      else
        let k := s.wiringKind ch (s.freqCh e).link mv bias
        if k = 0 then
          let s := s.modFreq ch (fun c => { c with wireRun := 0, wiring := 0 })
          if c.wiring ≠ 0 then s.clearFault 0x1030 0x13 ch else s
        else
          let s := s.modFreq ch (fun c => { c with wireRun := c.wireRun + 1 })
          if c.wireRun + 1 ≥ 2 ∧ c.wiring = 0 then
            let s := (s.modFreq ch (fun c => { c with wiring := k })).raiseEv 0x13 ch (freqSrc ch) 0x1030 3 ch k mv 0
            if s.isHost (hostKey 0x13 0 e) then s else (s.freqSigs e).foldl (fun (s : State) id => s.modFlags id faultFlags) s
          else s)

/-- FREQ.CONFIG (R114, R115). It starts the input anew: standing WIRING and QUAD_ERROR faults end (DESIGN CHOICE, log entry 48). A
pair that becomes quadrature, or ceases to be, leaves its odd input off. Before the first edge t_ref of R113 and t_last of R115 are
the instant of the command (DESIGN CHOICE, log entry 49). -/
def verbFreqConfig : Verb :=
  { unit := 0x13, verb := 0x10, lenOk := lenIs 20, instOk := instLt 16, query := false, rt := false, perm := none,
    body := fun r s =>
      let p := r.payload
      let n := r.inst
      let vr := decide (n < 8)
      let t := f32 p 12
      let sc := f32 p 8
      let own := if vr then u8 p 2 == 0 && decide (2 ≤ u8 p 3 ∧ u8 p 3 ≤ 50)
        else decide (u8 p 1 ≤ 2 ∧ u8 p 2 ≤ 1 ∧ u8 p 3 ≤ 1)
      if n % 2 = 1 ∧ (s.freqCh (n - 1)).type = 2 then (s, stBusy, [])
      else if u8 p 0 ≤ 2 ∧ (u8 p 0 ≠ 2 ∨ n % 2 = 0) ∧ own ∧ 1 ≤ u16 p 4 ∧ u16 p 4 ≤ 100 ∧ 1 ≤ u16 p 6 ∧ u16 p 6 ≤ 100 ∧
          fFinite sc ∧ !fEq sc fZero ∧ fLe (fFrac 1 10) t ∧ fLe t (fNat 50000) ∧ u8 p 16 ≤ 2 ∧ u8 p 17 ≤ 50 ∧
          (u8 p 18 ≤ 5 ∨ u8 p 18 = 255) then
        let c : FreqCh := { FreqCh.reset with type := u8 p 0, edge := u8 p 1, hyst := u8 p 2, pull := u8 p 3, gateMs := u16 p 4,
                                              timeoutDs := u16 p 6, scale := sc, thr := t, sense := u8 p 16, h := u8 p 17,
                                              link := u8 p 18, tLast := s.hw, tRef := s.hw,
                                              levelA := (s.freqCh n).levelA }
        let pair := u8 p 0 == 2 || (s.freqCh n).type == 2
        let s := s.modSense (fun x => { x with freq := tset FreqCh.reset x.freq n c })
        let s := (s.clearFault 0x1030 0x13 n).clearFault 0x1031 0x13 n
        let s := if pair then
            let s := s.modFreq (n + 1) (fun c => { FreqCh.reset with levelA := c.levelA })
            (s.clearFault 0x1030 0x13 (n + 1)).zeroSigs (0x31 + n) (0x31 + n)
          else s
        let s := if u8 p 0 = 0 then s.zeroSigs (0x30 + n) (0x30 + n) else s
        (s.dirty, stDone, [])
      else (s, stRange, []) }

/-! ### Restart of the sensing units (R65, R122) -/

/-- The accepted operations of a unit end with UNIT_RESTARTED. -/
def State.senseAbort (s : State) (u : Nat) : State :=
  match u with
  | 0x10 => (List.range 24).foldl (fun (s : State) ch =>
      let s := s.snipEnd ch stRestarted
      let c := s.lossCh ch
      if c.pendTpl.isSome then
        (s.modLoss ch (fun c => { c with pendTpl := none })).complete c.pendTplOp 0x10 ch 18 0x1006 stRestarted c.setNo s.us
      else s) s
  | 0x11 => (List.range 8).foldl (fun (s : State) ch =>
      s.tareEnd ch stRestarted (s.bridgeCh ch).tare (((s.bridgeCh ch).tareOp.map (·.values.length)).getD 0)) s
  | _ => s

/-- What a unit holds after a restart: its configuration; bins, filters and counters start anew. The comparators, which are
evaluated during a hold, go on (R115), and so does the count of a quadrature pair (R122; DEDUCED, log entry 49). -/
def Sensing.restart (x : Sensing) (now u : Nat) : Sensing :=
  match u with
  | 0x10 => { x with blockK := tset 0 x.blockK u 0, loss := tmap LossCh.reset x.loss (fun c =>
      ({ LossCh.reset with cfg := (c.pendCfg.getD c.cfg), templates := c.templates, setNo := c.setNo, strikeNo := c.strikeNo,
                              sensor := c.sensor, overrate := c.overrate, testAt := now, partBin := true })) }
  | 0x11 => { x with blockK := tset 0 x.blockK u 0, bridge := tmap BridgeCh.reset x.bridge (fun c =>
      ({ c with ratios := [], tareOp := none, overSince := none, hist := [] })) }
  | 0x12 => { x with blockK := tset 0 x.blockK u 0, ain := tmap AinCh.reset x.ain (fun c =>
      ({ c with codes := [], lowSince := none, highSince := none, inSince := none, shuntSince := none, hist := [] })) }
  | 0x13 => { x with blockK := tset 0 x.blockK u 0, freq := tmap FreqCh.reset x.freq (fun c =>
      ({ c with edges := 0, tRef := now, seen := false, f := 0, wireRun := 0, hEdges := 0, hCount := 0 })) }
  | 0x14 => { x with sup := tmap SupCh.reset x.sup (fun c => ({ c with limited := false, suppress := true, okAt := now + 50000000 })) }
  | _ => x

/-- Kept configuration in force after a trunk start: no fault, no switch-off and no history. -/
def Sensing.cold (x : Sensing) (now : Nat) : Sensing :=
  let x := [0x10, 0x11, 0x12, 0x13, 0x14].foldl (fun (x : Sensing) u => x.restart now u) x
  { x with loss := tmap LossCh.reset x.loss (fun c => ({ c with sensor := 0, overrate := false, partBin := decide (now % 10000000 ≠ 0) })),
           bridge := tmap BridgeCh.reset x.bridge (fun c => ({ c with excOff := false, senseOpen := false, overR := false })),
           ain := tmap AinCh.reset x.ain (fun c => ({ c with diag := 0, shuntOff := false })),
           freq := tmap FreqCh.reset x.freq (fun c => ({ c with term := false, tLast := now, cmpSeen := false, wiring := 0, quadErrs := 0, quadAt := none })),
           sup := tmap SupCh.reset x.sup (fun c => ({ c with on := c.enable, limited := false, fault := 0, retryAt := none })) }

/-- The strike numbers of the epoch go on where they stood (R103). -/
def Sensing.strikesFrom (x old : Sensing) : Sensing :=
  { x with loss := tmap LossCh.reset (old.loss.foldl (fun t e => tmod LossCh.reset t e.1 (fun c => { c with strikeNo := e.2.strikeNo }))
      x.loss) id }

/-- LOSS.STATUS -/
def execLossStatus (r : Req) (s : State) : Out := mailboxRow verbLossStatus r s
/-- LOSS.CONFIG -/
def execLossConfig (r : Req) (s : State) : Out := mailboxRow verbLossConfig r s
/-- LOSS.TEMPLATES -/
def execLossTemplates (r : Req) (s : State) : Out := mailboxRow verbLossTemplates r s
/-- LOSS.SNIP -/
def execLossSnip (r : Req) (s : State) : Out := mailboxRow verbLossSnip r s
/-- LOSS.HOSTBUF -/
def execLossHostbuf (r : Req) (s : State) : Out := mailboxRow (verbHostbuf 0x10) r s
/-- LOSS.RESULT -/
def execLossResult (r : Req) (s : State) : Out := mailboxRow (verbResult 0x10) r s
/-- BRIDGE.CONFIG -/
def execBridgeConfig (r : Req) (s : State) : Out := mailboxRow verbBridgeConfig r s
/-- BRIDGE.TARE -/
def execBridgeTare (r : Req) (s : State) : Out := mailboxRow verbBridgeTare r s
/-- BRIDGE.STATUS -/
def execBridgeStatus (r : Req) (s : State) : Out := mailboxRow verbBridgeStatus r s
/-- BRIDGE.HOSTBUF -/
def execBridgeHostbuf (r : Req) (s : State) : Out := mailboxRow (verbHostbuf 0x11) r s
/-- BRIDGE.RESULT -/
def execBridgeResult (r : Req) (s : State) : Out := mailboxRow (verbResult 0x11) r s
/-- AIN.CONFIG -/
def execAinConfig (r : Req) (s : State) : Out := mailboxRow verbAinConfig r s
/-- AIN.HOSTBUF -/
def execAinHostbuf (r : Req) (s : State) : Out := mailboxRow (verbHostbuf 0x12) r s
/-- AIN.RESULT -/
def execAinResult (r : Req) (s : State) : Out := mailboxRow (verbResult 0x12) r s
/-- FREQ.CONFIG -/
def execFreqConfig (r : Req) (s : State) : Out := mailboxRow verbFreqConfig r s
/-- FREQ.HOSTBUF -/
def execFreqHostbuf (r : Req) (s : State) : Out := mailboxRow (verbHostbuf 0x13) r s
/-- FREQ.RESULT -/
def execFreqResult (r : Req) (s : State) : Out := mailboxRow (verbResult 0x13) r s
/-- SUP.CONFIG -/
def execSupConfig (r : Req) (s : State) : Out := mailboxRow verbSupConfig r s

end Sys2Proof.Machine
end

