-- ==== Sys2Proof/Machine/Swin.lean ====
section
/-! DEFINITION. Machine/Swin.lean: the switch inputs of chapter 12 (R282-R287). -/

namespace Sys2Proof.Machine

/-- A switch input. -/
def State.sw (s : State) (n : Nat) : Sw := tget Sw.reset s.swin.sw n
/-- Change a switch input. -/
def State.modSw (s : State) (n : Nat) (f : Sw → Sw) : State := { s with swin.sw := tmod Sw.reset s.swin.sw n f }

/-- The source a switch input posts on (R301). -/
def swSrc (n : Nat) : Nat := 160 + n / 16

/-- The active level is the high level (R282). -/
def pullHigh (pull : Nat) : Bool := pull == 0 || pull == 3

/-- Active at a pin voltage in mV; between the thresholds the level of the previous sample stays (R282). -/
def Sw.sample (w : Sw) (mv : Nat) : Bool :=
  let (lo, hi) := if w.thr = 1 then (2500, 4500) else (5000, 9000)
  if mv ≤ lo then !pullHigh w.pull else if mv ≥ hi then pullHigh w.pull else w.level

/-- No wetting current. -/
def Sw.dry (w : Sw) : Sw := { w with wetUa := 0, wetNs := 0, keepUa := 0 }

/-- The selected wetting current, uA (R283). -/
def Sw.selUa (w : Sw) : Nat := match w.wet with | 0 => 1000 | 1 => 5000 | _ => 10000

/-- The wetting current of a contact, closed when the input is active: without a break, or for 500 us before each sample with 50 uA
between (R283). An open contact and an input without a pull draw none. -/
def Sw.wetted (w : Sw) : Sw :=
  if w.thr = 0 ∨ w.pull < 2 ∨ !w.level then w.dry
  else if w.wetMode = 1 then { w with wetUa := w.selUa, wetNs := 500000, keepUa := 50 }
  else { w with wetUa := w.selUa, wetNs := 0, keepUa := w.selUa }

/-- The wetting current of a check in park: 1 ms of `ua` (R286, R287). -/
def Sw.checked (w : Sw) (ua : Nat) : Sw :=
  if w.pull < 2 ∨ !w.level then w.dry else { w with wetUa := ua, wetNs := 1000000, keepUa := 0 }

/-- SWIN.CONFIG's fields taken over (R285): debounce and chatter counting restart, the debounced state stays; the raw level
keeps its voltage sense when the pull's active level changes. -/
def Sw.load (w : Sw) (p : List Byte) : Sw :=
  { w with thr := u8 p 0, pull := u8 p 1, wet := u8 p 2, wetMode := u8 p 3, deb := u8 p 4, chatN := u8 p 5, chatMs := u16 p 6,
           chgEvt := bit (u8 p 8) 0, wake := bit (u8 p 8) 1, wakeFilt := u8 p 9,
           stuckS := if u16 p 10 = 0 then 60 else u16 p 10, pend := none, run := 0, trans := [],
           level := if pullHigh w.pull = pullHigh (u8 p 1) then w.level else !w.level }

/-- The debounced state takes a new level (R284): SWIN/CHANGE with the flag set; R287's active time starts or breaks. -/
def State.swTake (s : State) (n : Nat) (v : Bool) : State :=
  let w := s.sw n
  let s := s.modSw n (fun w => { w with state := v, actSince := if v then some (w.actSince.getD s.hw) else none })
  if w.chgEvt then s.post 0x24 n (swSrc n) 0x5001 n (b2n v) (usOf w.runAt) 0 else s

/-- A removed wake input returns to the wake set (R287). -/
def State.swRearm (s : State) (n : Nat) : State :=
  match (s.sw n).removed with
  | none => s
  | some t =>
    let s := s.modSw n (fun w => { w with removed := none })
    (s.post 0x24 n (swSrc n) 0x5004 n ((s.hw - t) / 1000000000) 0 0).clearFault 0x5003 0x24 n

/-- One input at its sample (R282-R285, R287). -/
def State.swSample (mv : List Nat) (s : State) (n : Nat) : State :=
  let s := match (s.sw n).pend with | some p => s.modSw n (fun w => w.load p) | none => s
  let w := s.sw n
  if w.thr = 0 then
    let s := s.modSw n Sw.dry
    if w.chatter then (s.modSw n (fun w => { w with chatter := false })).clearFault 0x5002 0x24 n else s
  else
    let v := w.sample (mv.getD n 0)
    let moved := v != w.level
    let win := (if moved then w.trans ++ [s.hw] else w.trans).filter (fun t => decide (s.hw < t + w.chatMs * 1000000))
    let s := s.modSw n (fun w => Sw.wetted
      { w with level := v, trans := win, run := if moved || w.run == 0 then 1 else min 255 (w.run + 1),
               runAt := if moved || w.run == 0 then s.hw else w.runAt, actSince := if v || w.state then w.actSince else none })
    let w := s.sw n
    let s :=
      if w.chatter then
        if w.trans.length ≤ w.chatN / 4 ∧ w.run ≥ w.deb then
          let s := s.modSw n (fun w => { w with chatter := false })
          (if v = w.state then s else s.swTake n v).clearFault 0x5002 0x24 n
        else s
      else if w.chatN ≠ 0 ∧ w.trans.length > w.chatN then
        (s.modSw n (fun w => { w with chatter := true })).raiseEv 0x24 n (swSrc n) 0x5002 2 n w.trans.length (b2n w.state) 0
      else if v ≠ w.state ∧ w.run ≥ w.deb then s.swTake n v
      else s
    if (s.sw n).state then s else s.swRearm n

/-- SWIN_WAKE_STUCK (R287): a wake input active for its stuck time leaves the wake set; in park the event is stored. -/
def execSwinWakeStuck (n : Nat) (s : State) : Out :=
  .next (
    let w := s.sw n
    match w.actSince with
    | none => s
    | some t =>
      let due := t + w.stuckS * 1000000000
      if n ≥ 16 || !w.wake || w.removed.isSome then s
      else if s.operating then
        let s := s.waitTo due
        ((s.modSw n (fun w => { w with removed := some s.hw })).raiseEv 0x24 n (swSrc n) 0x5003 1 n ((s.hw - t) / 1000000000) 0 0).nmEvalAll
      else if s.parked then
        let need := ((due - s.time.stopped) * 32768 + 999999999) / 1000000000
        let s := { s with time.parkPeriods := max s.time.parkPeriods need }
        let at' := s.loadedHeartwood
        let e : Event := { source := swSrc n, code := 0x5003, stamp := at', p0 := n, p1 := (at' - t) / 1000000000, p2 := 1 }
        { (s.modSw n (fun w => { w with removed := some at', checks := 0 })) with swin.parkEvents := s.swin.parkEvents ++ [e] }
      else s)

/-- One input at a park check (R286, R287). -/
def State.swCheck (mv : List Nat) (second : Bool) (s : State) (n : Nat) : State :=
  let w := s.sw n
  let now := s.loadedHeartwood
  if !w.wake || w.thr == 0 then s
  else
    let v := w.sample (mv.getD n 0)
    match w.removed with
    | none =>
      let s := s.modSw n (fun w => Sw.checked { w with level := v, checks := if v then min 255 (w.checks + 1) else 0,
                                                        actSince := if v then some (w.actSince.getD now) else none } w.selUa)
      if v ∧ (s.sw n).checks ≥ w.wakeFilt then s.wake 4 n else s
    | some t =>
      if !second then s
      else
        let s := s.modSw n (fun w => Sw.checked { w with level := v, checks := if v then 0 else min 255 (w.checks + 1) } 1000)
        if !v ∧ (s.sw n).checks ≥ w.wakeFilt then
          let e : Event := { source := swSrc n, code := 0x5004, stamp := now, p0 := n, p1 := (now - t) / 1000000000, p2 := 1 }
          { (s.modSw n (fun w => { w with removed := none, checks := 0, actSince := none })) with
              swin.parkEvents := s.swin.parkEvents ++ [e] }
        else s

/-- SWIN_PARK_CHECK (R286, R287): the Cellar's next 20 ms check, with the pin voltages in mV; each 50th check is the
one-second check of the removed inputs. -/
def execSwinParkCheck (mv : List Nat) (s : State) : Out :=
  .next (
    if !s.parked then s
    else
      let k := s.time.parkPeriods * 50 / 32768 + 1
      let s := { s with time.parkPeriods := (k * 32768 + 49) / 50 }
      (List.range 16).foldl (State.swCheck mv (k % 50 == 0)) s)

/-- After a trunk start the events stored in park are posted and raised, with their stamps (R287). -/
def State.swinTrunkPost (s : State) : State :=
  let l := s.swin.parkEvents
  l.foldl (fun (s : State) e =>
    let s := s.postAt e.stamp 0x24 e.p0 e.source e.code e.p0 e.p1 e.p2 e.p3
    if e.code = 0x5003 then (s.raise 0x5003 0x24 e.p0 1 [e.p0, e.p1, e.p2, e.p3]).1 else s.clearFault 0x5003 0x24 e.p0)
    { s with swin.parkEvents := [] }

/-- SWIN.CONFIG (R285). -/
def verbSwinConfig : Verb :=
  { unit := 0x24, verb := 0x10, lenOk := lenIs 12, instOk := instLt 48, query := false, rt := false, perm := none,
    body := fun r s =>
      let p := r.payload
      if u8 p 0 ≤ 2 ∧ u8 p 1 ≤ 3 ∧ u8 p 2 ≤ 2 ∧ u8 p 3 ≤ 1 ∧ 1 ≤ u8 p 4 ∧ u8 p 5 ≠ 1 ∧ 10 ≤ u16 p 6 ∧ u16 p 6 ≤ 10000 ∧ u8 p 8 < 4 ∧
          1 ≤ u8 p 9 ∧ u8 p 9 ≤ 5 ∧ (u16 p 10 = 0 ∨ (5 ≤ u16 p 10 ∧ u16 p 10 ≤ 3600)) ∧ !(bit (u8 p 8) 1 && decide (r.inst ≥ 16)) then
        ((s.modSw r.inst (fun w => { w with pend := some p })).dirty, stDone, [])
      else (s, stRange, []) }

/-- A bitmap over the first `n` inputs. -/
def State.swMap (s : State) (n : Nat) (f : Sw → Bool) : Nat := bitSet ((List.range n).filter (fun i => f (s.sw i)))

/-- SWIN.READ (R285). -/
def verbSwinRead : Verb :=
  { unit := 0x24, verb := 0x01, lenOk := lenIs 0, instOk := inst0, query := true, rt := true, perm := none,
    body := fun _ s =>
      (s, stDone, b64 (s.swMap 48 Sw.state) ++ b64 (s.swMap 48 Sw.level) ++ b64 (s.swMap 48 Sw.chatter) ++
        b16 (s.swMap 16 (fun w => w.removed.isSome)) ++ zeros 2 ++ b32 s.swin.lastUs) }

/-- A switch input at a trunk start: configuration from the kept record; what the Cellar holds stays (R287, R300). -/
def Sw.cold (kept cur : Sw) : Sw :=
  let k := match kept.pend with | some p => kept.load p | none => kept
  { cur with thr := k.thr, pull := k.pull, wet := k.wet, wetMode := k.wetMode, deb := k.deb, chatN := k.chatN, chatMs := k.chatMs,
             chgEvt := k.chgEvt, wake := k.wake, wakeFilt := k.wakeFilt, stuckS := k.stuckS, pend := none, run := 0, trans := [],
             chatter := false, checks := 0 }

/-- SWIN at a trunk start. -/
def Swin.cold (kept cur : Swin) : Swin :=
  { cur with lastUs := 0, sw := (List.range 48).foldl (fun t n =>
      tset Sw.reset t n ((tget Sw.reset kept.sw n).cold (tget Sw.reset cur.sw n))) [] }

/-- SWIN.READ -/
def execSwinRead (r : Req) (s : State) : Out := mailboxRow verbSwinRead r s
/-- SWIN.CONFIG -/
def execSwinConfig (r : Req) (s : State) : Out := mailboxRow verbSwinConfig r s

end Sys2Proof.Machine
end

