-- ==== Sys2Proof/Machine/Valve.lean ====
section
/-! DEFINITION. Machine/Valve.lean: valve banks and boost supplies (06): the rows of the VALVE unit. Coil currents, rail and
pin voltages are operands. -/

namespace Sys2Proof.Machine

/-- The unit runs and the channel exists. -/
def State.valveRuns (s : State) (n : Nat) : Bool := s.running 0x21 0 && decide (n < 24)

/-- A mode-2 channel starts (R163 step 2). -/
def State.valveOn2 (s : State) (n : Nat) : State :=
  let dur := ((s.valve' n).req.map (·.durUs)).getD 0
  let s := s.startDone n 0
  let s := s.modValve n (fun c => { c with state := 2, mailbox := fOne, events := (c.events + 1) % 2 ^ 32,
                                           endAt := if dur = 0 then none else some (s.hw + dur * 1000) })
  s.bankHs (n / 4)

/-- The instant and channel by which a bank's queue is ordered (R164). -/
def State.queueKey (s : State) (n : Nat) : Nat := ((s.valve' n).req.map (·.t1)).getD 0

/-- Enter a channel into its bank's queue by entry time, then by channel number. -/
def State.queueIn (s : State) (n : Nat) : List Nat → List Nat
  | [] => [n]
  | m :: l => if s.queueKey m < s.queueKey n ∨ (s.queueKey m = s.queueKey n ∧ m < n) then m :: s.queueIn n l else n :: m :: l

/-- The minimum off-time over: a mode-2 channel starts, a mode-3 channel enters its bank's queue (R163 steps 2 and 3), where it
waits for VALVE_SLOT_GRANT. A request that finds the high-side off or turning on has it switched on first, and its start moves to
the end of the turn-on, at most 40 us, which is a free value (R156, R167; log entry 64): in mode 2 it waits in state 3, in mode 3 in
the boost wait. -/
def State.valveEnter (s : State) (n : Nat) : State :=
  let b := n / 4
  if (s.valve' n).mode = 2 then
    if s.hsBarred b then s.valveOn2 n
    else
      let s := s.hsSwitchOn b
      if (s.bank b).hsReady ≤ s.hw then s.valveOn2 n
      else s.modValve n (fun c => { c with state := 3, req := c.req.map (fun q => { q with t1 := (s.bank b).hsReady }) })
  else
    let s := s.modValve n (fun c => { c with state := 4, req := c.req.map (fun q =>
      { q with t1 := s.hw, deferEnd := s.hw + (s.bank b).deferUs * 1000 }) })
    let s := s.modBank b (fun k => { k with queue := s.queueIn n k.queue })
    s.bankHs b

/-- VALVE_MINOFF_END (R163 step 1). -/
def execValveMinoffEnd (ch : Nat) (s : State) : Out :=
  .next (
    match (s.valve' ch).req with
    | some q => if s.valveRuns ch && (s.valve' ch).state == 3 then
        let s := s.waitTo q.t1
        if s.reqLate ch then s.dropReq ch 6 else s.valveEnter ch
      else s
    | none => s)

/-- VALVE_SLOT_GRANT (R163, R164): the queue head takes the slots that are free or freed in this reflex cycle; `mv` is its boost
rail in this cycle. Requests that enter a queue in one cycle have all entered when it is granted, in their order. -/
def execValveSlotGrant (b mv : Nat) (s : State) : Out :=
  .next (if s.running 0x21 0 && decide (b < 6) then (s.railIs (b / 3) mv).valveAdvance b else s)

/-- VALVE_DEFER_EXPIRY (R163 step 4): a queued request that takes no free slot reaches its defer limit. One that does waits for
the rail, which VALVE_BOOST_WAIT_END gives in this cycle or later. -/
def execValveDeferExpiry (ch : Nat) (s : State) : Out :=
  .next (
    match (s.valve' ch).req with
    | some q =>
      if !s.valveRuns ch || (s.valve' ch).state != 4 then s
      else
        let s := if s.hw ≤ q.deferEnd then (s.takeSlots (ch / 4)).1 else s
        if (s.valve' ch).state ≠ 4 then s
        else
          let s := s.waitTo q.deferEnd
          if s.reqLate ch then s.dropReq ch 6 else s.deferRefuse ch
    | none => s)

/-- VALVE/BOOST_NOT_READY. -/
def State.notReady (s : State) (ch outcome : Nat) : State :=
  let c := ch / 12
  let s := s.modBoost c (fun x => { x with notReady := satAdd 32 x.notReady 1 })
  s.raiseEv 0x21 ch (112 + ch / 4) 0x3003 1 ch (s.boost c).railMv outcome ch

/-- VALVE_BOOST_WAIT_END (R163 step 6): the rail, in mV, is ready, or the 200 µs end. The peak does not start before the high-side is
on (R156). -/
def execValveBoostWaitEnd (ch mv : Nat) (s : State) : Out :=
  .next (
    match (s.valve' ch).req with
    | some q =>
      if !s.valveRuns ch || (s.valve' ch).state != 5 then s
      else
        let s := s.railIs (ch / 12) mv
        if s.reqLate ch then s.dropReq ch 6
        else if (s.boost (ch / 12)).ready && decide (s.hw ≤ q.boostEnd) then
          let s := s.waitTo (s.bank (ch / 4)).hsReady
          if s.reqLate ch then s.dropReq ch 6 else (s.clearFault 0x3003 0x21 ch).peakStart ch false 0
        else
          let s := s.waitTo q.boostEnd
          if s.reqLate ch then s.dropReq ch 6
          else if (s.valve' ch).fallback then (s.notReady ch 1).peakStart ch true 1
          else (s.notReady ch 3).dropReq ch 3
    | none => s)

/-- VALVE_PEAK_END (R161): the current, in mA, has reached the peak current, or the peak max time elapses, which raises
VALVE/TRACKING each time; that condition is absent from then on. -/
def execValvePeakEnd (ch cur : Nat) (s : State) : Out :=
  .next (
    let c := s.valve' ch
    if !s.valveRuns ch || c.state != 6 then s
    else
      let peak := (fRound c.peakA 1000).toNat
      let reached := decide (peak ≤ cur ∧ s.hw ≤ c.peakEnd)
      let s := if reached then s else s.waitTo c.peakEnd
      let s := s.modValve ch (fun c => { c with state := 7, fromBat := false })
      let s := s.modBank (ch / 4) (fun k => { k with peakHolder := if k.peakHolder = some ch then none else k.peakHolder })
      let s := if reached then s
        else (s.modValve ch (fun c => { c with tracking := true, trackOk := some s.hw })).raiseEv 0x21 ch (112 + ch / 4) 0x3008 3 ch cur
          peak 3
      s.bankHs (ch / 4))

/-- VALVE_DURATION_END (R160). -/
def execValveDurationEnd (ch : Nat) (s : State) : Out :=
  .next (
    match (s.valve' ch).endAt with
    | some t => if s.valveRuns ch then (s.waitTo t).valveOff ch else s
    | none => s)

/-- VALVE_BANK_HS_OFF (R156): 20 ms after the last reason ended. -/
def execValveBankHsOff (b : Nat) (s : State) : Out :=
  .next (
    match (s.bank b).hsOffAt with
    | some t => if s.running 0x21 0 then (s.waitTo t).modBank b (fun k => { k with hsOn := false, hsOffAt := none }) else s
    | none => s)

/-- The mean current signal of a channel (R159, R168). -/
def State.valveSignal (s : State) (n : Nat) (v : F32) : State :=
  let c := s.valve' n
  if c.latched || (s.bank (n / 4)).latched != 0 then s.setSig (0xD0 + n) fZero s.hw fgFault
  else s.setSig (0xD0 + n) v s.hw (flagsOf (!c.openLoad) false false c.openLoad false false)

/-- The mean coil current of a channel: 0 in mode 0 and on a channel that is off, by its command or by a bank cut (R157, R159). -/
def State.valveMean (s : State) (currents : List (Nat × F32)) (n : Nat) : F32 :=
  if (s.valve' n).mode = 0 ∨ !s.valveDriven n then fZero
  else ((currents.find? (fun e => e.1 == n)).map (·.2)).getD fZero

/-- The mean set-point in mA of a mode-1 channel with applied value `v`: over a whole dither period the mean of the triangular wave
about the set-point, the sum limited to 0-3.0 A (R159); rounded to the nearest mA. A channel that is off has no dither either: its
high-side has no reason to be on (R156; DEDUCED, log entry 62). -/
def ValveCh.meanSet (c : ValveCh) (v : F32) : Nat :=
  let sp := (fRound v 1000).toNat
  let a := if c.ditherHz = 0 then 0 else c.ditherMa
  let lo := sp - a
  let hi := min 3000 (sp + a)
  if !fLt fZero v then 0
  else if a = 0 then min 3000 sp
  else (hi * hi - lo * lo + 6000 * (sp + a - hi) + 2 * a) / (4 * a)

/-- The tracking error of a mode-1 channel with applied value `v` is beyond the larger of 10 % and 50 mA (R168). -/
def ValveCh.offTrack (c : ValveCh) (v : F32) : Bool :=
  let cur := (fRound c.current 1000).toNat
  let sp := c.meanSet v
  c.mode == 1 && decide ((if cur ≥ sp then cur - sp else sp - cur) > max 50 (sp / 10))

/-- The times since which a mode-1 channel tracks or does not (R168). -/
def ValveCh.track (c : ValveCh) (v : F32) (now : Nat) : ValveCh :=
  if c.mode ≠ 1 then c
  else if c.offTrack v then { c with trackBad := if c.trackBad.isSome then c.trackBad else some now, trackOk := none }
  else { c with trackBad := none, trackOk := if c.trackOk.isSome then c.trackOk else some now }

/-- VALVE_CURRENT_UPDATE (R159, R162): every 1 ms the mean coil currents, with the bank currents and boost rails measured. -/
def execValveCurrentUpdate (currents banks : List (Nat × F32)) (rails : List (Nat × Nat)) (s : State) : Out :=
  .next (
    if !s.running 0x21 0 then s
    else
      let s := s.boundary 97 1000000 0
      let s := banks.foldl (fun (s : State) e => if e.1 < 6 then s.modBank e.1 (fun k => { k with current := e.2 }) else s) s
      let s := rails.foldl (fun (s : State) e => if e.1 < 2 then s.railIs e.1 e.2 else s) s
      (List.range 24).foldl (fun (s : State) n =>
        let v := s.valveMean currents n
        let s := s.modValve n (fun c => { c with current := v })
        if s.isHost (hostKey 0x21 0 n) then s
        else (s.modValve n (fun c => c.track (s.valveApplied n) s.hw)).valveSignal n v) s)

/-- VALVE_BOOST_FAULT (R162): 1 the rail has not reached 44 V within 20 ms of the enable, 2 above 54 V. -/
def execValveBoostFault (c kind mv : Nat) (s : State) : Out :=
  .next (
    let x := s.boost c
    if !s.running 0x21 0 || c ≥ 2 || !x.enabled || x.latched != 0 ||
        !((kind == 1 && decide (mv < 44000) && !x.charged) || (kind == 2 && decide (mv > 54000))) then s
    else
      let s := if kind = 1 then s.waitTo (x.enabledAt + 20000000) else s
      let s := s.modBoost c (fun x => { x with latched := kind, railMv := mv })
      s.raiseEv 0x21 (0x200 + c) (118 + c) 0x3009 4 (0x200 + c) mv kind 0)

/-- The sum of the channel currents of a bank, in mA. -/
def State.bankSum (s : State) (b : Nat) : Int := (bankChs b).foldl (fun t n => t + fRound (s.valve' n).current 1000) 0

/-- VALVE_OPEN_LOAD (R168): the current in mA, the pin in mV and the duty in percent that have lasted a detection time: on, below
50 mA at 90 % or more; off with the high-side on, the pin below 2 V and the bank current within 200 mA of the sum. With the
condition absent, for 100 ms, the fault ends; it is absent in mode 0, in which nothing is checked. -/
def execValveOpenLoad (ch cur mv duty : Nat) (s : State) : Out :=
  .next (
    let c := s.valve' ch
    let b := ch / 4
    let on := s.valveDriven ch
    let ex := fRound (s.bank b).current 1000 - s.bankSum b
    let cond := c.mode != 0 &&
      (if on then decide (cur < 50 ∧ 90 ≤ duty) else (s.bank b).hsOn && decide (mv < 2000 ∧ ex.natAbs ≤ 200))
    if !s.valveRuns ch then s
    else if !cond && c.openLoad then (s.modValve ch (fun c => { c with openLoad := false })).clearFault 0x3004 0x21 ch
    else if cond && !c.openLoad then
      ((s.modValve ch (fun c => { c with openLoad := true })).modFlags (0xD0 + ch) (fun f => clearBits f fgValid ||| fgFault)).raiseEv
        0x21 ch (112 + ch / 4) 0x3004 2 ch cur mv 0
    else s)

/-- VALVE_TRACKING (R168): the mode-1 error has lasted the tracking time, or a standing condition has been absent for it. -/
def execValveTracking (ch : Nat) (s : State) : Out :=
  .next (
    let c := s.valve' ch
    let dur := c.trackMs * 1000000
    if !s.valveRuns ch then s
    else if c.tracking then
      match c.trackOk with
      | some t => ((s.waitTo (t + dur)).modValve ch (fun c => { c with tracking := false })).clearFault 0x3008 0x21 ch
      | none => s
    else match c.trackBad with
      | some t =>
        ((s.waitTo (t + dur)).modValve ch (fun c => { c with tracking := true })).raiseEv 0x21 ch (112 + ch / 4) 0x3008 3 ch
          (fRound c.current 1000).toNat (c.meanSet (s.valveApplied ch)) 1
      | none => s)

/-- The trip level of a channel in mA (R168). -/
def ValveCh.tripMa (c : ValveCh) : Nat := if c.mode = 3 then min 10000 ((fRound c.peakA 1000).toNat + 2000) else 6000

/-- VALVE_SHORT_BAT (R168): a current, in mA, above the trip level for 2 µs latches the low-side off. -/
def execValveShortBat (ch cur : Nat) (s : State) : Out :=
  .next (
    let c := s.valve' ch
    if !s.valveRuns ch || c.mode == 0 || c.latched || decide (cur ≤ c.tripMa) then s
    else
      let s := s.modValve ch (fun c => { c with latched := true })
      let s := if c.req.isSome then s.dropReq ch 7
        else if c.state = 2 ∨ c.state = 6 ∨ c.state = 7 then s.valveOff ch else s.bankHs (ch / 4)
      (s.raiseEv 0x21 ch (112 + ch / 4) 0x3005 4 ch cur 0 0).valveSignal ch fZero)

/-- A bank latches off (R168): events end, requests complete with outcome 7, the signals read 0 with FAULT. -/
def State.bankLatch (s : State) (b kind : Nat) : State :=
  let s := s.modBank b (fun k => { k with latched := kind })
  (bankChs b).foldl (fun (s : State) n =>
    let c := s.valve' n
    let s := if c.req.isSome then s.dropReq n 7 else if c.state ≥ 2 then s.valveOff n else s.bankHs b
    s.valveSignal n fZero) s

/-- VALVE_SHORT_GND (R168): of a channel that is off with the high-side on, the pin, in mV, below 2 V and the bank current, in mA,
more than 200 mA above the sum of the channel currents, for 1 ms. -/
def execValveShortGnd (ch mv cur : Nat) (s : State) : Out :=
  .next (
    let b := ch / 4
    let excess := (cur : Int) - s.bankSum b
    if !s.valveRuns ch || (s.valve' ch).mode == 0 || (s.bank b).latched != 0 || !(s.bank b).hsOn || s.valveDriven ch ||
        decide (2000 ≤ mv) || decide (excess ≤ 200) then s
    else (s.bankLatch b 1).raiseEv 0x21 (0x100 + b) (112 + b) 0x3006 5 (0x100 + b) excess.toNat 0 0)

/-- VALVE_BANK_SHORT (R168): above 30 A for 5 µs, or the node below half of BATB for 100 µs while on. -/
def execValveBankShort (b cur mv : Nat) (s : State) : Out :=
  .next (
    let half := decide (2 * (mv : Int) < (tget Stud.reset s.power.studs 1).mv)
    if !s.running 0x21 0 || b ≥ 6 || (s.bank b).latched != 0 || !(s.bank b).hsOn || !(decide (cur > 30000) || half) then s
    else (s.bankLatch b 2).raiseEv 0x21 (0x100 + b) (112 + b) 0x3007 5 (0x100 + b) cur mv 0)

/-! ### Host-assisted current regulation (R171) -/

/-- The effect of a judged miss: the safe action is duty 0. -/
def State.valveMiss (s : State) (n : Nat) : State :=
  if (s.hostFn (hostKey 0x21 0 n)).inSafe then (s.modValve n (fun c => { c with duty := fZero, dutyNext := none })).bankHs (n / 4) else s

/-- The channel's regulator is the hardware's again: no duty stays (R171). -/
def State.valveToHw (s : State) (n : Nat) : State :=
  let key := hostKey 0x21 0 n
  let s := if s.isHost key || (s.hostFn key).pending.isSome then s.modHost key (fun h => { h with host := false, pending := none }) else s
  (s.modValve n (fun c => { c with duty := fZero, dutyNext := none })).bankHs (n / 4)

/-- VALVE_HOST_PERIOD (R171): at a multiple of 1 ms the mean current of a host-assisted channel. -/
def execValveHostPeriod (ch : Nat) (cur : F32) (s : State) : Out :=
  .next (
    let key := hostKey 0x21 0 ch
    if !s.valveRuns ch || !s.isHost key then s
    else
      let s := s.boundary (104 + 1000 * ch) 1000000 0
      let s := if (s.hostFn key).got then s else (s.hostMiss key).valveMiss ch
      let s := (s.modValve ch (fun c => { c with current := cur })).valveSignal ch cur
      (s.hostPeriod key s.hw 800000 1000000).modHost key (fun h => { h with k := s.hw / 1000000 % 2 ^ 32 }))

/-- VALVE.DUTY (R171): the duty is applied from the next 16 kHz period start, a multiple of 62.5 us (log entry 63). A channel that the window does not hold host-assisted is OUT_OF_RANGE, as a foreign signal in 04 R120. -/
def verbValveDuty : Verb :=
  { unit := 0x21, verb := 0x21, lenOk := lenIs 8, instOk := instLt 24, query := false, rt := true, perm := none,
    body := fun r s =>
      let key := hostKey 0x21 0 r.inst
      let h := s.hostFn key
      let k := u32 r.payload 0
      let d := f32 r.payload 4
      if !h.host || h.owner != r.win || !(fLe fZero d && fLe d fOne) || k > h.k then (s, stRange, [])
      else if !s.hostInTime key k then (s, stDeadline, [])
      else
        let (s, go) := s.hostResult key
        (if go then (s.modValve r.inst (fun c =>
            { c with duty := c.dutyAt s.hw, dutyNext := some (d, nextBoundary s.hw 62500 0) })).bankHs (r.inst / 4) else s,
          stDone, []) }

/-! ### Commands (R169, R170) -/

/-- The three instance kinds. -/
def isBankInst (i : Nat) : Bool := decide (0x100 ≤ i ∧ i < 0x106)
/-- A boost converter's instance. -/
def isBoostInst (i : Nat) : Bool := decide (0x200 ≤ i ∧ i < 0x202)
/-- Any instance. -/
def valveInst (i : Nat) : Bool := decide (i < 24) || isBankInst i || isBoostInst i

/-- The fields the mode uses are in range (R169). -/
def valveCfgOk (p : List Byte) : Bool :=
  let m := u8 p 0
  decide (m ≤ 3 ∧ u8 p 1 ≤ 1 ∧ u8 p 2 ≤ 1) &&
  (m != 3 || (fLe (fFrac 1 2) (f32 p 4) && fLe (f32 p 4) (fNat 8) && fLe (fFrac 1 10) (f32 p 8) && fLe (f32 p 8) (fNat 2) &&
    decide (50 ≤ u16 p 12 ∧ u16 p 12 ≤ 5000))) &&
  (m ≤ 1 || u16 p 14 == 0 || decide (100 ≤ u16 p 14 ∧ u16 p 14 ≤ 10000)) &&
  (m != 1 || ((u16 p 16 == 0 || decide (50 ≤ u16 p 16 ∧ u16 p 16 ≤ 400)) && decide (u16 p 18 ≤ 500))) &&
  (!(m == 1 || m == 3) || decide (10 ≤ u16 p 20 ∧ u16 p 20 ≤ 1000))

/-- VALVE.CONFIG (R168, R169, R162). A channel that leaves mode 1 has its regulator in hardware mode, the only one of the other
modes (R171), and the tracking condition of the mode it leaves is absent from then on (R168). -/
def verbValveConfig : Verb :=
  { unit := 0x21, verb := 0x10, lenOk := fun r => r.payload.length == (if r.inst < 0x100 then 24 else 4), instOk := valveInst,
    query := false, rt := false, perm := none,
    body := fun r s =>
      let p := r.payload
      if isBankInst r.inst then
        if u16 p 0 ≤ 2000 then ((s.modBank (r.inst - 0x100) (fun k => { k with deferUs := u16 p 0 })).dirty, stDone, [])
        else (s, stRange, [])
      else if isBoostInst r.inst then
        if u8 p 0 ≤ 1 then
          ((s.modBoost (r.inst - 0x200) (fun x =>
            { x with enabled := u8 p 0 == 1, enabledAt := if x.enabled then x.enabledAt else s.hw,
                     charged := x.charged && x.enabled })).dirty, stDone, [])
        else (s, stRange, [])
      else
        let n := r.inst
        let c := s.valve' n
        if (u8 p 0 != c.mode && s.loopBinds 1 n) || c.req.isSome || decide (c.state ≥ 2) then (s, stBusy, [])
        else if !valveCfgOk p then (s, stRange, [])
        else
          let s := s.modValve n (fun c =>
            { c with mode := u8 p 0, policy := u8 p 1, fallback := u8 p 0 == 3 && bit (u8 p 2) 0, peakA := f32 p 4, holdA := f32 p 8,
                     peakUs := u16 p 12, minOffUs := if u16 p 14 = 0 then 500 else u16 p 14, ditherHz := u16 p 16,
                     ditherMa := u16 p 18,
                     trackMs := if u8 p 0 = 1 ∨ u8 p 0 = 3 then u16 p 20 else c.trackMs, trackBad := none,
                     trackOk := if u8 p 0 = c.mode then c.trackOk else some s.hw, mailbox := if u8 p 0 = c.mode then c.mailbox else fZero })
          let s := if u8 p 0 = 1 then s else s.valveToHw n
          ((s.bankHs (n / 4)).dirty, stDone, []) }

/-- VALVE.SET (R163-R166, R170). -/
def verbValveSet : Verb :=
  { unit := 0x21, verb := 0x11, lenOk := lenIs 8, instOk := instLt 24, query := false, rt := true, perm := none,
    body := fun r s =>
      let n := r.inst
      let c := s.valve' n
      let v := f32 r.payload 0
      let dur := u32 r.payload 4
      let isOn := !fEq v fZero
      if c.mode = 0 then (s, stRange, [])
      else if c.mode = 1 then
        if !(fLe fZero v && fLe v (fNat 3)) || dur != 0 then (s, stRange, [])
        else ((s.modValve n (fun c => { c with mailbox := v })).bankHs (n / 4), stDone, [])
      else if !(fEq v fZero || fEq v fOne) || !(dur == 0 || decide (100 ≤ dur ∧ dur ≤ 10000000)) then (s, stRange, [])
      else if !isOn then
        if c.req.isSome then (s.dropReq n 4, stDone, [])
        else if c.state ≥ 2 then (s.valveOff n, stDone, [])
        else (s.modValve n (fun c => { c with mailbox := fZero }), stDone, [])
      else if c.req.isSome || decide (c.state ≥ 2) then (s, stBusy, [])
      else if c.latched || (s.bank (n / 4)).latched != 0 then (s, stLocked, [])
      else
        let t1 := match c.tOff with | some t => max s.hw (t + c.minOffUs * 1000) | none => s.hw
        let q : ValveReq := { op := { win := r.win, tag := r.tag }, t0 := s.hw, t1 := t1, deadline := r.deadline, durUs := dur,
                              deferEnd := 0, boostEnd := 0 }
        let s := s.modValve n (fun c => { c with req := some q, state := 3 })
        (if t1 > s.hw then s else s.valveEnter n, stAccepted, []) }

/-- A request not started by its deadline is withdrawn at the deadline (R165). -/
def State.valveDeadline (s : State) (w : Nat) : State :=
  (List.range 24).foldl (fun (s : State) n =>
    match (s.valve' n).req with
    | some q => if q.op.win = w ∧ deadlinePassed s.us q.deadline then s.dropReq n 6 else s
    | none => s) s

/-- After a cleared latch the mailbox value is 0, and a bound channel stays off until its loop's next release, a host-assisted one
until its next duty (R170). -/
def ValveCh.cleared (c : ValveCh) : ValveCh :=
  { c with mailbox := fZero, engine := c.engine.map (fun _ => fZero), duty := fZero, dutyNext := none }

/-- VALVE.CLEAR (R170). A converter starts to charge anew. -/
def verbValveClear : Verb :=
  { unit := 0x21, verb := 0x12, lenOk := lenIs 0, instOk := valveInst, query := false, rt := false, perm := none,
    body := fun r s =>
      if isBankInst r.inst then
        let b := r.inst - 0x100
        if (s.bank b).latched = 0 then (s, stDone, [])
        else
          let k := (s.bank b).latched
          let s := (s.modBank b (fun k => { k with latched := 0 })).clearFault (if k = 1 then 0x3006 else 0x3007) 0x21 r.inst
          let s := (bankChs b).foldl (fun (s : State) n => s.modValve n ValveCh.cleared) s
          (s.bankHs b, stDone, [])
      else if isBoostInst r.inst then
        let c := r.inst - 0x200
        if (s.boost c).latched = 0 then (s, stDone, [])
        else ((s.modBoost c (fun x => { x with latched := 0, enabledAt := s.hw, charged := false })).clearFault 0x3009 0x21 r.inst, stDone, [])
      else if !(s.valve' r.inst).latched then (s, stDone, [])
      else
        let s := (s.modValve r.inst (fun c => ({ c with latched := false } : ValveCh).cleared)).clearFault 0x3005 0x21 r.inst
        (s.bankHs (r.inst / 4), stDone, []) }

/-- VALVE.STATUS (R170). -/
def verbValveStatus : Verb :=
  { unit := 0x21, verb := 0x01, lenOk := lenIs 0, instOk := valveInst, query := true, rt := true, perm := none,
    body := fun r s =>
      if isBankInst r.inst then
        let b := r.inst - 0x100
        let k := s.bank b
        let st := if k.latched ≠ 0 then 3 else if s.bankCut b ≠ 0 then 2 else b2n k.hsOn
        (s, stDone, b8 st ++ b8 k.queue.length ++ b8 (k.peakHolder.getD 0xFF) ++ b8 k.holds.length ++ bF k.current)
      else if isBoostInst r.inst then
        let x := s.boost (r.inst - 0x200)
        let st := if x.latched ≠ 0 then 3 else if !x.enabled then 0 else if x.ready then 2 else 1
        (s, stDone, b8 st ++ zeros 3 ++ bF (fFrac x.railMv 1000) ++ b32 x.notReady)
      else
        let n := r.inst
        let c := s.valve' n
        let st := if c.mode = 1 then b2n (fLt fZero (s.valveApplied n)) else c.state
        let gnd := (s.bank (n / 4)).latched == 1
        (s, stDone, b8 st ++ b8 (b2n c.openLoad + 2 * b2n c.latched + 4 * b2n gnd + 8 * b2n c.tracking) ++ zeros 2 ++
          bF (s.valveApplied n) ++ bF c.current ++ b32 c.events) }

/-- A VALVE unit restart (R172): requests end with outcome 8; channels with policy OFF switch off, a bound one until its loop's next
release; counts start anew. -/
def State.valveRestart (s : State) : State :=
  (List.range 24).foldl (fun (s : State) n =>
    let s := if (s.valve' n).req.isSome then s.dropReq n 8 else s
    let c := s.valve' n
    let s := if c.policy = 0 then
        (if c.state ≥ 2 then s.valveOff n else (s.modValve n ValveCh.cleared).bankHs (n / 4)) else s
    s.modValve n (fun c => { c with events := 0 })) s

/-- VALVE.STATUS -/
def execValveStatus (r : Req) (s : State) : Out := mailboxRow verbValveStatus r s
/-- VALVE.CONFIG -/
def execValveConfig (r : Req) (s : State) : Out := mailboxRow verbValveConfig r s
/-- VALVE.SET -/
def execValveSet (r : Req) (s : State) : Out := mailboxRow verbValveSet r s
/-- VALVE.CLEAR -/
def execValveClear (r : Req) (s : State) : Out := mailboxRow verbValveClear r s
/-- VALVE.DUTY -/
def execValveDuty (r : Req) (s : State) : Out := mailboxRow verbValveDuty r s

end Sys2Proof.Machine
end

