-- ==== Sys2Proof/Machine/Life.lean ====
section
/-! DEFINITION. Machine/Life.lean: the units through trunk starts and stops, entry into and exit from RUN, and a unit's restart
(02 R46, R47, R63-R66, 04 R122, 20 R437 and each unit's own restart rule). -/

namespace Sys2Proof.Machine

/-- The tables of the active set that Keeper keeps, where no kept record carries them: Pantry, plate waveform, fan tables
(15 R328, 19 R423). -/
def State.setTables (s : State) : State :=
  s.activeSet.parts.foldl (fun (s : State) p =>
    match p.kind with
    | 6 => s.pantryLoad (s.pantryBase p.pid) p.data
    | 7 => { s with plate.wave := some p.data }
    | 8 => s.fanTablePart p.data
    | _ => s) s

/-- The cameras at a trunk start beside a retired die that held an ISP (08 R206): the route and the division of its rate hold as
long as the die is retired. -/
def State.ispAgain (s : State) : State :=
  s.keeper.retired.foldl (fun (s : State) d =>
    s.ispRoute d ([0, 1].any (fun d => decide (d < crowns s.variant) && !s.keeper.retired.contains d))) s

/-- The units at a trunk start: the kept configuration in force, and what the Cellar SRAM holds. -/
def State.startUnits (s : State) (kept : Option Kept) : State :=
  let k := kept.getD Kept.reset
  let s := { s with
    sensing := (k.sensing.cold s.hw).strikesFrom s.sensing, gnss := Gnss.cold k.gnss s.gnss, imu := k.imu.cold, cam := k.cam.off,
    crown := { k.crown with units := tmap CrownUnit.reset s.crown.units (fun u => { u with level := 0, points := [], poses := [] }) },
    granary := Granary.cold k.granary s.granary, swin := Swin.cold k.swin s.swin, body := Body.cold k.body s.body,
    plate := Plate.cold k.plate s.plate, can := Can.cold k.can s.can, eth := Eth.cold k.eth s.eth, nm := Nm.cold k.nm s.nm,
    ctrl := { Ctrl.reset with hostBuf := k.ctrl.hostBuf },
    power := { s.power with keepAwake := k.power.keepAwake, system := k.power.system, uvWarn := k.power.uvWarn },
    time := { s.time with role := k.timeRole.1, priority1 := k.timeRole.2 } }
  let s := (s.outsCold (kept.map (·.outs))).valveCold (kept.map (·.valve))
  let s := s.fansStart k.fans
  let s := if kept.isNone then { s.setTables with keptDirty := none } else s
  s.setModels.canTrunkPost.ethTrunkPost.ispAgain

/-- The trunk stops: every transceiver and T1 PHY sleeps. -/
def State.stopUnits (s : State) : State := s.nmTrunkStop

/-- What park entry writes in its step 2 besides the kept record (10 R251, 07 R176, R190, 19 R428). -/
def State.parkWrite (s : State) : State := s.granPark.gnssPark.trialWrite

/-- Entry into RUN: CAM and every Crown unit in service are powered up, all Crown units in one reflex cycle (02 R45). -/
def State.runUp (s : State) : State :=
  let s := if unitFitted s.variant 0x41 then
      let s := s.unitPower 0x41 0
      s.camFresh.unitRun 0x41 0
    else s
  let us := (List.range (crowns s.variant)).filter (fun u => !s.keeper.retired.contains u)
  let s := us.foldl (fun (s : State) u => s.unitPower 0x42 u) s
  us.foldl (fun (s : State) u => (s.unitRun 0x42 u).crownRunEntry u) s

/-- The end of RUN: CAM and the Crown units are powered down (02 R63, 08 R197). -/
def State.runDown (s : State) : State :=
  let s := if unitFitted s.variant 0x41 then
      let s := s.unitDown 0x41 0 3 State.camAbort
      { s with cam := s.cam.off }
    else s
  ((List.range (crowns s.variant)).filter (fun u => (s.unitSt 0x42 u).phase != .off)).foldl (fun (s : State) u =>
    s.unitDown 0x42 u 3 (fun t => t.crownAbort u)) s

/-! ### A unit restarts (02 R47, R63, R65) -/

/-- The Attic's running transfers end with UNIT_RESTARTED. -/
def State.atticRestart (s : State) : State :=
  let l := s.attic.transfers
  let s := { s with attic.transfers := [] }
  l.foldl (fun (s : State) t => (s.regionAbort t.op.win t.desc).complete t.op 0x61 t.inst 229 0xA014 stRestarted 0 0) s

/-- A Larder read and a clear in progress end with UNIT_RESTARTED. -/
def State.larderRestart (s : State) : State :=
  let l := s.larder
  let s := { s with larder.read := none, larder.clear := none }
  let s := match l.read with
    | some c => (s.regionAbort c.op.win c.desc).complete c.op 0x62 0 230 0xA020 stRestarted 0 0
    | none => s
  match l.clear with
  | some c => s.complete c.op 0x62 0 230 0xA021 stRestarted 0 c.scope
  | none => s

/-- The command of an activation or fall-back in progress completes with UNIT_RESTARTED; the sequence itself, whose record is
in the Attic, goes on. -/
def State.graftRestart (s : State) : State :=
  match s.graft.act.op with
  | some op =>
    (s.modAct (fun a => { a with op := none })).complete op 0x60 0 249 (if s.graft.act.fallback then 0xC025 else 0xC020) stRestarted 0 0
  | none => s

/-- What each unit's chapter states of its restart. -/
def State.familyRestart (s : State) (u inst : Nat) : State :=
  match u with
  | 0x01 => s.outsKeeperRestart
  | 0x02 => { s with time.state := 0, time.pps := false, time.gpsOfs := 0, time.ofsValid := false, time.leap := 0, time.leapValid := false,
                     time.errEst := 0, time.errAt := s.hw, time.lockSince := none }
  | 0x10 | 0x11 | 0x12 | 0x13 | 0x14 =>
    let s := s.senseAbort u
    { s with sensing := s.sensing.restart s.hw u }
  | 0x20 => s.ctrlRestart
  | 0x21 => s.valveRestart
  | 0x22 | 0x23 => s.outsRestart u
  | 0x25 => s.bodyRestart
  | 0x27 => s.plateRestart
  | 0x30 => s.canRestart
  | 0x31 => s.linRestart
  | 0x32 => s.ethRestart
  | 0x33 => s.nmRestart
  | 0x40 => (s.modGnss Gnss.restart).ppsDrop 3
  | 0x41 => s.camAbort
  | 0x42 => s.crownAbort inst
  | 0x43 => s.granAbort.modGran Granary.restart
  | 0x44 => { s with imu := s.imu.cold }
  | 0x60 => s.graftRestart
  | 0x61 => s.atticRestart
  | 0x62 => s.larderRestart
  | _ => s

/-- A unit stops for a restart: VALID clears, its generation increments, then the commands and functions affected are
answered (R47). -/
def State.unitRestart (s : State) (u inst cause : Nat) : State :=
  let old := s.gen u inst
  ((s.unitStop u inst cause false).outboxRestart u old inst).familyRestart u inst

end Sys2Proof.Machine
end

