-- ==== Sys2Proof/Machine/Power.lean ====
section
/-! DEFINITION. Machine/Power.lean: the power states, park entry, supply losses and studs (21, 01 R30), the trunk's start and
stop (03 R75), the Cellar's monitors (18 R397), and thermal management (21 R464-R470). -/

namespace Sys2Proof.Machine

/-- Change the POWER unit. -/
def State.modPower (s : State) (f : Power → Power) : State := { s with power := f s.power }

/-- The state code of POWER.STATUS and POWER/STATE. -/
def powCode : PowState → Nat
  | .run => 1 | .ending => 2 | .parking => 3 | _ => 0

/-- The power state changes, POWER/STATE with its cause (R474). -/
def State.powerTo (s : State) (n : PowState) (cause : Nat) : State :=
  let old := s.power.state
  (s.modPower (fun p => { p with state := n })).post 0x70 0 3 0x0080 0 (powCode old) (powCode n) cause

/-- A stud. -/
def State.stud (s : State) (k : Nat) : Stud := tget Stud.reset s.power.studs k

/-- The ORed logic supply: the highest stud (01 R22). -/
def orMv (a b c : Int) : Nat := (max a (max b c)).toNat

/-- Change a stud; the logic supply follows the studs. -/
def State.modStud (s : State) (k : Nat) (f : Stud → Stud) : State :=
  let l := tmod Stud.reset s.power.studs k f
  let v := fun (i : Nat) => (tget Stud.reset l i).mv
  s.modPower (fun p => { p with studs := l, logicMv := orMv (v 0) (v 1) (v 2) })

/-- The stud holds off the gate drive of the stages it feeds (R453, R454, R456). -/
def Stud.hold (x : Stud) : Bool := x.low || x.overR || x.rev

/-! ### The trunk stops and starts -/

/-- The trunk die stops: Heartwood is kept for the next start (03 R75), DRAM with windows and regions is lost (01 R29),
partitions and Root end, every unit is powered down. Signals are lost with the trunk. -/
def State.trunkStop (s : State) (n : PowState) : State :=
  let s := s.stopUnits
  let s := (trunkUnits s.variant ++ [0x50]).foldl (fun (s : State) u => s.unitOff u 0) s
  let s := if unitFitted s.variant 0x41 then s.unitOff 0x41 0 else s
  let s := { s with keeper.crowns := tmap UnitSt.reset s.keeper.crowns (fun u => { u with valid := false, phase := .off }) }
  let s := if unitFitted s.variant 0x42 then { s with keeper.units := tmod UnitSt.reset s.keeper.units 0x42 (fun u =>
      { u with valid := false, phase := .off }) } else s
  { s with
      time.stopped := s.hw, time.parkPeriods := 0, time.anchorPeriods := 0, time.lockSince := none, time.ofsThisStart := false,
      time.pps := false, time.leap := 0, time.leapValid := false,
      keeper.windows := [], keeper.partitions := [], keeper.failovers := [], keeper.hostFns := [], keeper.paused := false, keeper.deferred := [],
      signals := [], fans := tmap FanCh.reset s.fans FanCh.cold, sensing.sup := tmap SupCh.reset s.sensing.sup (fun c => ({ c with on := false })),
      root := { s.root with phase := .off, links := [], ruleSt := [] },
      swin.sw := tmap Sw.reset s.swin.sw Sw.dry, plate := { s.plate with railOn := false, railOff := none }, attic.transfers := [], larder.read := none, larder.clear := none, cam := s.cam.off,
      thermal := { Thermal.reset with sensors := tmap Sensor.reset s.thermal.sensors (fun x =>
        { Sensor.reset with max := x.max }) },
      power := { s.power with state := n, parkStep := 0, grace := none, waitAt := none, waitPost := none, holds := [],
                              runReq := false } }

/-- Root's registers at a trunk start (18 R389, R396): FAULTCUT returns to its reset value, its lines stay held. A
Root stopped by its faults stays STOPPED until the next power cycle (R394). -/
def Root.trunkStart (r : Root) : Root :=
  { r with phase := if r.halted then .stopped else .starting, dueCause := 1, flags := 0, ruleEn := 0, rules := [], ruleSt := [], faultmap := [],
           cellarHold := r.cellarHold ||| r.faultcut, faultcut := Root.reset.faultcut, taggedOff := true, stuck := 0,
           links := [], monPend := [] }

/-- Monitor trips that reset the trunk are posted and raised after its start, stamped at the trip (18 R397). -/
def State.postTrips (s : State) (l : List (Nat × Nat)) : State :=
  l.foldl (fun (s : State) e =>
    let s := s.postAt e.2 0x50 0 238 0xB020 0 e.1 1 0
    let s := (s.raise 0xB020 0x50 e.1 6 [0, e.1, 1, 0] true).1
    if s.root.mon.testBit e.1 then s else (s.post 0x50 0 238 0xB020 0 e.1 0 0).clearFault 0xB020 0x50 e.1) s

/-- TIME at a trunk start (03 R77, R78): HOLDOVER when GPS_OFS was set in this epoch, else FREE; the error estimate starts at
150 ppm of the park, counted from the last guard burst with a fix (07 R189); a kept role of FOLLOWER is taken. -/
def State.timeStart (s : State) (park : Nat) : State :=
  let old := s.time.state
  let new := if s.time.ofsEpoch then 2 else 0
  let s := { s with time.state := new, time.holdSince := s.hw, time.ofsThisStart := false, time.gmLost := false,
                    time.errEst := satAdd 32 0 (park * 150 / 1000000), time.errAt := s.hw, time.gmSelected := false }
  (if new = old then s else s.post 2 0 1 0x0020 0 old new 6).timeFollow

/-- The built-in self-test of a power cycle decides whether each retired die returns to service (01 R36): its result is free. -/
def State.selfTest (s : State) : State :=
  s.keeper.retired.foldl (fun (s : State) d =>
    let (n, s) := s.drawNat
    if n % 2 = 1 then { s with keeper.retired := s.keeper.retired.erase d } else s) s

/-- The signals of Root and of every declared partition carry STALE until their owner runs and writes them (03 R85). -/
def State.staleAll (s : State) : State :=
  (s.keeper.decls.map (·.1)).foldl State.staleOwned (s.staleSigs 0xF00 0xFFF)

/-- The standing faults whose condition a trunk start does not keep: its unit starts with nothing of the kind diagnosed. Latches,
locks and what Cellar SRAM or the kept record holds stand on. -/
def State.coldFault (s : State) (f : FaultRec) : Bool :=
  match f.unit with
  | 0x02 | 0x10 | 0x11 | 0x12 | 0x13 | 0x14 | 0x25 | 0x26 | 0x30 | 0x31 | 0x40 | 0x43 | 0x44 | 0x71 => true
  | 0x21 => [0x3002, 0x3003, 0x3004, 0x3008].contains f.code
  | 0x22 => [0x4002, 0x4005, 0x4006, 0x4007].contains f.code || (f.code == 0x4004 && !(s.out f.inst).thermLatch && decide (f.inst < 72))
  | 0x23 => f.code == 0x4102 || f.code == 0x4104
  | 0x24 => f.code == 0x5002
  | 0x32 => f.code == 0x7004 || f.code == 0x7005
  | 0x33 => f.code == 0x7104
  | 0x41 => f.code != 0x9007
  | 0x42 => f.code == 0x9101 || f.code == 0x9107
  | _ => false

/-- TRUNK_START (03 R75, 20 R437, 23 R502). -/
def State.trunkStart (s : State) : State :=
  let due := s.power.trunkDue
  let start := if s.power.lastStart = 0 then 1 else due
  let hw := s.loadedHeartwood
  let park := hw - s.time.stopped
  let sinceFix := (s.time.parkPeriods - s.time.anchorPeriods) * 1000000000 / 32768
  let kept := match s.kept with | some k => if k.epoch = s.time.epoch then some k else none | none => none
  let trips := s.root.monPend
  let s := { s with time.heartwood := hw, time.parkPeriods := 0, kept := kept, keptDirty := none, keptAt := none,
                    root := s.root.trunkStart, keeper.keeperHb := 0, keeper.keeperHbAt := hw,
                    graft.bootFails := 0, attic.keptFlash := kept }
  let s := if start = 1 then s.selfTest.firstGens else s
  let s := s.inForce s.activeSet
  let s := (trunkUnits s.variant ++ [0x50]).foldl (fun (s : State) u => s.unitPower u 0) s
  let s := s.startUnits kept
  if s.jtag.testkey then
    { ((trunkUnits s.variant).foldl (fun (s : State) u => s.unitRun u 0) s) with
        power.state := .test, power.trunkDue := 0, power.lastStart := start, jtag.jvref := true, jtag.console := true,
        root := { s.root with phase := .off } }
  else
    let s := { s with power.state := .keeper, power.trunkDue := 0, power.lastStart := start, power.keeperAt := hw }
    let s := s.staleAll.windowOpen 0
    let s := (trunkUnits s.variant).foldl (fun (s : State) u => s.unitRun u 0) s
    let s := if s.root.halted then s.modUnit 0x50 0 (fun u => { u with phase := .running }) else s
    let s := s.endFaults s.coldFault
    let s := s.timeStart sinceFix
    let s := s.post 0x70 0 3 0x0080 0 0 0 4
    let s := if start = 3 then s.post 0x70 0 3 0x0084 0 s.power.lossMs s.power.lossMin 0 else s
    let s := (s.postTrips trips).refreshGates
    s.holdupTest.graftTrunkStart.outsTrunkPost.gnssTrunkPost.swinTrunkPost.plateTrunkPost.nmTrunkStart (due == 2)

/-- KEEPER enters RUN (R458): the bough dies, CAM and the Crown units are powered. -/
def State.enterRun (s : State) (cause : Nat) : State := (s.powerTo .run cause).runUp

/-- TRUNK_START: the start under way completes; IGN active then brings RUN. -/
def execTrunkStart (s : State) : Out :=
  .next (if s.power.trunkDue = 0 || s.trunkOn then s
    else
      let s := s.trunkStart
      if s.power.state == .keeper && s.power.ign then s.enterRun 1 else s)

/-- What survives OFF: the part, flash and fuses, and what the model itself keeps. The Cellar SRAM does not. -/
def State.toOff (s : State) : State :=
  { State.reset with
      part := s.part, time.epoch := s.time.epoch, keeper.retired := s.keeper.retired,
      granary := { Granary.reset with files := (s.granary.files ++ s.granary.file.toList.map GranFile.flash).map (fun f =>
        { f with tiles := f.tiles.map (fun t => { t with written := none }) }) },
      plate := { Plate.reset with old := s.plate.old },
      graft := { s.graft with trialLeft := if s.graft.trial then s.graft.trialWritten else s.graft.trialLeft,
                              trialAt := s.power.opNs },
      attic := { Attic.reset with
        files := s.attic.flash, flash := s.attic.flash, wear := s.attic.wear, readOnly := s.attic.readOnly,
        fault := s.attic.fault, keptFlash := s.attic.keptFlash, written := s.attic.written, wearPosted := s.attic.wearPosted },
      larder := { Larder.reset with
        general := s.larder.general, strong := s.larder.strong, seqG := s.larder.seqG, seqS := s.larder.seqS,
        cntG := s.larder.cntG, cntS := s.larder.cntS },
      jtag := { Jtag.reset with testkey := s.jtag.testkey, siliconRev := s.jtag.siliconRev },
      power := { Power.reset with studs := tmap Stud.reset s.power.studs (fun x => { Stud.reset with mv := x.mv }),
                                  ign := s.power.ign, keywake := s.power.keywake, opNs := s.power.opNs,
                                  gndOpen := s.power.gndOpen },
      kept := s.kept, free := s.free, pending := s.pending }

/-- CELLAR_START (01 R30, 23 R497, 20 R444): a stud above the start threshold, 5.4-6.0 V: OFF to DEEP PARK, a new epoch. -/
def execCellarStart (a b c : Int) (s : State) : Out :=
  .next (if s.power.state == .off && decide (orMv a b c ≥ 5400) then
      let st := fun (v : Int) => { Stud.reset with mv := v, low := decide (v < 6000), rev := decide (v < 0) }
      { s with time.epoch := s.time.epoch + 1,
               power := { s.power with state := .deep, logicMv := orMv a b c,
                                       studs := tset Stud.reset (tset Stud.reset (tset Stud.reset [] 0 (st a)) 1 (st b)) 2 (st c) } }
    else s)

/-- PARK_WAKE (R463). -/
def execParkWake (cause detail : Nat) (s : State) : Out := .next (s.wake cause detail)

/-- Park entry is abandoned before the latch (R461): the module stays in KEEPER. -/
def State.parkAbandon (s : State) : State :=
  (((s.powerTo .keeper 5).modPower (fun p => { p with parkStep := 0 })).modAttic (fun a => { a with drainAt := none })).nmParkAbandon

/-- A wake cause arrives while the trunk is on: it cancels the grace period of RUN (01 R30) and abandons park entry before its
step 7 (17 R383, R461). -/
def State.wakeNow (s : State) : State :=
  match s.power.state with
  | .ending => (s.powerTo .run 4).modPower (fun p => { p with grace := none })
  | .parking => if s.power.parkStep < 7 then s.parkAbandon else s
  | _ => s

/-- IGN and the run request decide between KEEPER, RUN and its grace period (R458, R459). -/
def State.runDecide (s : State) (cause : Nat) : State :=
  let want := s.power.ign || s.power.runReq
  match s.power.state with
  | .keeper => if want then s.enterRun cause else s
  | .parking => if s.power.parkStep ≥ 7 then s
      else if want then (s.parkAbandon).enterRun cause else if s.power.keywake then s.parkAbandon else s
  | .ending => if want then (s.powerTo .run cause).modPower (fun p => { p with grace := none }) else s
  | .run => if want then s
      else (s.powerTo .ending cause).modPower (fun p => { p with grace := some (s.hw + 5000000000) })
  | _ => s

/-- IGN_CHANGE (R458): the filtered levels of IGN and KEYWAKE. -/
def execIgnChange (ign key : Bool) (s : State) : Out :=
  .next (
    let woken := key && !s.power.keywake
    let s := s.modPower (fun p => { p with ign := ign, keywake := key })
    if s.power.state == .shutdown || s.power.state == .off then s
    else if s.parked then (if ign then s.wake 2 0 else if key then s.wake 3 0 else s)
    else (if woken && s.power.state == .ending && !ign && !s.power.runReq then s.wakeNow else s.runDecide 1).nmEvalAll)

/-- The Canopy partitions stop (R459): windows close, owned signals keep their values with STALE, outputs per the
owner-restart row, transfers and holds end. -/
def State.stopPartitions (s : State) : State :=
  let ps := (List.range 16).filter (fun p => (tget Partition.reset s.keeper.partitions p).state != .stopped)
  let s := ps.foldl (fun (s : State) p => s.ownerStops (p + 0x10)) s
  let s := (List.range 16).foldl (fun (s : State) p => s.closeWindow (p + 0x10)) s
  { s with keeper.partitions := [], keeper.windows := s.keeper.windows.filter (fun e => decide (e.1 < 0x20)) }

/-- The bough dies are powered off: their sensors await the first sample of the next powered period, and their signal reads zero
with VALID clear (R465, R466). -/
def State.boughsOff (s : State) : State :=
  ({ s with thermal.sensors := (List.range 14).foldl (fun t i => tmod Sensor.reset t (10 + i) (fun x =>
      { x with sampled := false, fast := false, hot := 0, disAgree := none, okSince := none })) s.thermal.sensors } : State).zeroSigs
    0x0F8 0x0F8

/-- GRACE_END (R459): 5 s after RUN ended; partitions stop, CAM and CROWN are powered down, KEEPER. -/
def execGraceEnd (s : State) : Out :=
  .next (
    match s.power.grace with
    | none => s
    | some t =>
      if s.power.state != .ending then s
      else
        let s := (s.waitTo t).stopPartitions.runDown.boughsOff
        let s := s.powerTo .keeper 3
        s.modPower (fun p => { p with grace := none, keeperAt := s.hw, waitPost := none }))

/-! ### Wake causes while the trunk is on (01 R30, 12 R282-R286, 17 R379-R383) -/

/-- SWIN_SAMPLE (R283-R285): every 1 ms the pin voltages, in mV, are sampled; the body services read their
sources. A wake input that becomes held is a wake cause. -/
def execSwinSample (mv : List Nat) (s : State) : Out :=
  .next (
    if !s.operating then s
    else
      let s := s.boundary 208 1000000 0
      let t := (List.range 48).foldl (State.swSample mv) s
      let woken := (List.range 16).any (fun i => t.wakeHeld i && !s.wakeHeld i)
      let t := ({ t with swin.lastUs := s.us } : State).bodyEvalAll.nmEvalAll
      if woken then t.wakeNow else t)

/-- CAN_TRANSCEIVER_WAKE (R379, R380): kind 5 wake pattern, 6 selective frame with its ID and data, 7 error overflow. A
cause that comes while the trunk is on may end a grace period or park entry. -/
def execCanTransceiverWake (ch kind id : Nat) (data : List Byte) (s : State) : Out :=
  .next (
    let x := s.canCh ch
    let ok := x.asleep && ((kind == 5 && x.wakeMode == 0) ||
      (x.wakeMode == 1 && decide (ch < 4) && ((kind == 6 && x.wakeMatch id data) || (kind == 7 && x.wakeOvf))))
    if !ok then s
    else if s.parked then
      (s.modCan ch (fun x => { x with asleep := if wakeEnabled s.power.state kind then false else x.asleep })).wake kind ch
    else if !s.operating then s
    else (match s.netOf ch with
      | some n => if s.nmRuns ∧ (s.net n).state = 5 then s.nmWake n (if kind = 5 then 3 else 4) else s.canWake ch
      | none => s.canWake ch).wakeNow)

/-- TC10_WAKE (R382): a TC10 wake-up on a sleeping port. -/
def execTc10Wake (port : Nat) (s : State) : Out :=
  .next (
    let x := s.ethPort port
    if !x.asleep || !x.tc10 || decide (port > 5) then s
    else if s.parked then (s.portWake port).wake 8 port
    else if !s.operating then s
    else (match s.netOfPort port with
      | some n => if s.nmRuns ∧ (s.net n).state = 5 then s.nmWake n 6 else s.portWake port
      | none => s.portWake port).wakeNow)

/-! ### Park entry (R460-R462) -/

/-- The keep-awake time has elapsed since the last entry into KEEPER. -/
def State.keepAwakeDone (s : State) : Bool := decide (s.hw ≥ s.power.keeperAt + s.power.keepAwake * 1000000000)

/-- What park waits on, as byte 2 of POWER.STATUS. -/
def State.parkWaits (s : State) : Nat :=
  b2n (s.power.ign || s.power.keywake) + 2 * b2n s.wakeInputHeld + 4 * b2n s.power.runReq + 8 * b2n (!s.power.holds.isEmpty) +
  16 * b2n (!s.keepAwakeDone) + 32 * b2n s.graftBusy + 64 * b2n (s.power.parkStep == 5 && !s.nmParkDone) +
  128 * b2n ((s.power.parkStep == 3 && s.hasStaged) || (s.power.parkStep == 4 && !s.plateParkIdle))

/-- PARK_ENTRY_START (R460, R461): when its conditions hold together; the keep-awake time passes. -/
def execParkEntryStart (s : State) : Out :=
  .next (if s.power.state == .keeper && !s.power.ign && !s.power.keywake && !s.wakeInputHeld && !s.power.runReq &&
      s.power.holds.isEmpty && !s.graftBusy then
      let s := s.waitTo (s.power.keeperAt + s.power.keepAwake * 1000000000)
      ((s.powerTo .parking 0).modPower (fun p => { p with parkStep := 1 })).bodyParkStop
    else s)

/-- PARK_WAIT (R460): 60 s after the wait began and every 10 min. -/
def execParkWait (s : State) : Out :=
  .next (if (s.power.state == .keeper || s.power.state == .parking) && s.parkWaits != 0 then
      let due := match s.power.waitPost with | some t => t + 600000000000 | none => s.power.keeperAt + 60000000000
      let s := s.waitTo due
      let s := s.post 0x70 0 3 0x0081 0 s.parkWaits ((s.hw - s.power.keeperAt) / 1000000000) 0
      s.modPower (fun p => { p with waitPost := some s.hw })
    else s)

/-- The target park state (R462). -/
def State.parkTarget (s : State) : PowState :=
  if s.gnss.guardEnable then .guard
  else if s.can.ch.any (fun e => e.2.wakeMode == 1) then .selective else .deep

/-- PARK_STEP_DONE (R461): the present step has ended and the next one starts; a step whose own end has not come stays. -/
def execParkStepDone (s : State) : Out :=
  .next (if s.power.state != .parking then s
    else
      let goStep := fun (s : State) (n : Nat) => s.modPower (fun p => { p with parkStep := n })
      match s.power.parkStep with
      | 1 => if s.bodyParkIdle then (goStep s 2).parkWrite.writeKept else s
      | 2 => (goStep s 3).modAttic (fun a => { a with drainAt := some s.hw })
      | 3 => if !s.hasStaged then (goStep (s.modAttic (fun a => { a with drainAt := none })) 4).plateParkStart else s
      | 4 => if s.plateParkIdle then (goStep s 5).nmParkStart else s
      | 5 => if s.nmParkDone then
            let s := (goStep s 6)
            let s := if s.attic.inhibit then s else s.flushLarder
            s.modPower (fun p => { p with target := s.parkTarget })
          else s
      | 6 => goStep s 7
      | _ => s)

/-- POWER_DOWN_LATCH (R461 step 7, 17 R383): the trunk powers off into the target park state; IGN or KEYWAKE that became active
since starts it again. -/
def execPowerDownLatch (s : State) : Out :=
  .next (if s.power.state == .parking && s.power.parkStep == 7 then
      let s := (s.outsPark).trunkStop s.power.target
      if s.power.ign then s.wake 2 0 else if s.power.keywake then s.wake 3 0 else s
    else s)

/-! ### Supply (R453-R456) -/

/-- SUPPLY_LOSS (R455, R441): the Cellar buffer goes to the Attic, staged and uncommitted writes are lost, the dies are
powered down. In TEST and in latched shutdown the state stays until the hold ends. -/
def execSupplyLoss (mv : Nat) (s : State) : Out :=
  .next (if s.power.state == .off || s.power.lossAt.isSome || decide (mv ≥ 6000) then s
    else
      let s := { s with power.logicMv := mv, power.lossMin := mv }
      if s.trunkOn && s.power.state != .test then
        let s := (s.flushLarder.dropStage).graftLoss
        let s := { s with power.losses := s.power.losses + 1, power.lossAt := some s.hw, power.lossParked := false }
        (s.outsTrunkReset).trunkStop .reset
      else { s with power.lossAt := some s.time.parkPeriods, power.lossParked := true, power.losses := s.power.losses + 1 })

/-- SUPPLY_RETURN (R455): above 7.0 V for 10 ms within the hold time: the Cellar starts the trunk. -/
def execSupplyReturn (mv : Nat) (s : State) : Out :=
  .next (if s.power.lossAt.isNone || decide (mv < 7000) then s
    else
      let from' := if s.power.lossParked then s.power.lossAt.getD 0 else 0
      let s := { s with power.logicMv := mv, power.lossAt := none, power.below3 := none,
                        power.lossMs := (s.time.parkPeriods - from') * 1000 / 32768 }
      if s.power.state == .test || s.power.state == .shutdown then s else { s with power.trunkDue := 3 })

/-- CELLAR_HOLD_EXPIRY (R455, R470): every supply below 3 V for 1 s: OFF. -/
def execCellarHoldExpiry (s : State) : Out :=
  .next (if s.power.lossAt.isSome || s.power.state == .shutdown then s.toOff else s)

/-- STUD_LOW (R453): below 6.0 V the stages of the stud lose gate drive; commanded values, latches and locks stay. `gnd` is the
set of ground studs S4, S5 that are open: with both open nothing turns on (22 R479). -/
def execStudLow (stud : Nat) (mv : Int) (gnd : Nat) (s : State) : Out :=
  .next (if stud < 3 ∧ mv < 6000 ∧ s.power.state ≠ .off then
      ((s.modPower (fun p => { p with gndOpen := gnd })).modStud stud (fun x => { x with mv := mv, low := true })).refreshGates
    else s)

/-- STUD_RETURN (R453): above 6.0 V again; inrush windows reopen, on every stud when the grounds had been open (22 R479). -/
def execStudReturn (stud : Nat) (mv : Int) (gnd : Nat) (s : State) : Out :=
  .next (if stud < 3 ∧ mv ≥ 6000 ∧ (s.stud stud).low then
      let lost := s.noGround
      let s := (s.modPower (fun p => { p with gndOpen := gnd })).modStud stud (fun x => { x with mv := mv, low := false })
      let s := if lost && !s.noGround then [0, 1, 2].foldl State.studResume s else s.studResume stud
      s.refreshGates
    else s)

/-- The under-voltage warning threshold in mV (POWER.CONFIG; NaN selects the system's). -/
def Power.warnMv (p : Power) : Int :=
  if fIsNan p.uvWarn then (if p.system = 2 then 21000 else 10500) else fRound p.uvWarn 1000

/-- A stud fault: the event on source 3 and its raise, the stud as its instance at the fault manager. -/
def State.studFault (s : State) (stud code sev p1 p2 : Nat) : State :=
  ((s.post 0x70 0 3 code stud p1 p2 0).raise code 0x70 stud sev [stud, p1, p2, 0]).1

/-- POWER_UNDERVOLT (R453): below the warning threshold for 100 ms; `mv` the lowest voltage, `ms` the duration. -/
def execPowerUndervolt (stud : Nat) (mv : Int) (ms : Nat) (s : State) : Out :=
  .next (if s.trunkOn && decide (stud < 3 ∧ mv < s.power.warnMv ∧ ms ≥ 100) && !(s.stud stud).under then
      (s.modStud stud (fun x => { x with mv := mv, under := true })).studFault stud 0x0082 2 mv.toNat ms
    else s)

/-- UNDERVOLT_END (R453): above the threshold plus 0.5 V for 1 s. -/
def execUndervoltEnd (stud : Nat) (mv : Int) (s : State) : Out :=
  .next (if s.trunkOn && decide (stud < 3 ∧ mv > s.power.warnMv + 500) && (s.stud stud).under then
      (s.modStud stud (fun x => { x with mv := mv, under := false })).clearFault 0x0082 0x70 stud
    else s)

/-- POWER_OVERVOLT (R454): above 36 V for 1 ms. The hold-off is hardware and acts in park too, where nothing raises the fault. -/
def execPowerOvervolt (stud : Nat) (mv : Int) (ms : Nat) (s : State) : Out :=
  .next (if s.power.state != .off && decide (stud < 3 ∧ mv > 36000 ∧ ms ≥ 1) && !(s.stud stud).overR then
      let t := (s.modStud stud (fun x => { x with mv := mv, overR := true })).refreshGates
      if s.trunkOn then t.studFault stud 0x0083 3 mv.toNat ms else t
    else s)

/-- OVERVOLT_END (R454): below 35 V for 10 ms the stages resume as at a return above 6.0 V. -/
def execOvervoltEnd (stud : Nat) (mv : Int) (s : State) : Out :=
  .next (if decide (stud < 3 ∧ mv < 35000) && (s.stud stud).overR then
      (((s.modStud stud (fun x => { x with mv := mv, overR := false })).studResume stud).refreshGates).clearFault 0x0083 0x70 stud
    else s)

/-- POWER_REVERSE (R456), in park as POWER_OVERVOLT. -/
def execPowerReverse (stud : Nat) (mv : Int) (s : State) : Out :=
  .next (if s.power.state != .off && decide (stud < 3 ∧ mv < 0) && !(s.stud stud).rev then
      let t := (s.modStud stud (fun x => { x with mv := mv, rev := true })).refreshGates
      if s.trunkOn then t.studFault stud 0x0085 3 (ofSigned 32 mv) 0 else t
    else s)

/-- POWER_REVERSE_END (R456, R454). -/
def execPowerReverseEnd (stud : Nat) (mv : Int) (s : State) : Out :=
  .next (if decide (stud < 3 ∧ mv ≥ 0) && (s.stud stud).rev then
      (((s.modStud stud (fun x => { x with mv := mv, rev := false })).studResume stud).refreshGates).clearFault 0x0085 0x70 stud
    else s)

/-! ### The Cellar's monitors (18 R397) -/

/-- A monitor trip that resets the trunk die: recorded now, posted after the next start; lines set in FAULTCUT stay held
(18 R396). -/
def State.monitorReset (s : State) (b : Nat) : State :=
  let sev := if b = 0 then 7 else 6
  let s := s.larderWrite 0xB020 0x50 b sev true false [0, b, 1, 0, faultWord 0xB020 sev 0x50] s.hw (s.faults.occurrences + 1) 1
  let s := s.modRoot (fun r => { r with cellarHold := r.cellarHold ||| r.faultcut, monPend := r.monPend ++ [(b, s.hw)] })
  { ((s.dropStage.graftLoss.outsTrunkReset).trunkStop .reset) with power.trunkDue := 4 }

/-- A Root fault strikes the running Root; in its cutover pause the old Root image takes the fault with cause 11 (19 R426). -/
def State.rootFaultNow (s : State) (cause : Nat) : State :=
  if s.root.phase == .running then s.rootFault cause
  else if s.root.phase == .pause then (s.rootFault 11).graftRootFault
  else s

/-- MONITOR_TRIP (18 R397): bit as in MON_STATUS. Clock monitors are frozen while the 4 MHz reference is out of limits. -/
def execMonitorTrip (bit' : Nat) (s : State) : Out :=
  .next (if !s.operating || decide (bit' ≥ 8) || s.root.mon.testBit bit' || (s.root.frozen && decide (bit' < 3)) then s
    else
      let s := s.modRoot (fun r => { r with mon := r.mon ||| 2 ^ bit' })
      if bit' = 0 ∨ bit' = 3 ∨ bit' = 5 ∨ bit' = 6 then s.monitorReset bit'
      else
        let s := ((s.post 0x50 0 238 0xB020 0 bit' 1 0).raise 0xB020 0x50 bit' 6 [0, bit', 1, 0]).1
        match bit' with
        | 1 => keeperUnits.foldl (fun (s : State) u => s.unitRestart u 0 1) s
        | 2 => s.rootFaultNow 7
        | 4 => s.rootFaultNow 8
        | _ => s.modRoot (fun r => { r with frozen := true }))

/-- MONITOR_RETURN (18 R397). -/
def execMonitorReturn (bit' : Nat) (s : State) : Out :=
  .next (if decide (bit' ≥ 8) || !s.root.mon.testBit bit' || (s.root.frozen && decide (bit' < 3)) then s
    else
      let s := s.modRoot (fun r => { r with mon := clearBits r.mon (2 ^ bit'), frozen := r.frozen && bit' != 7 })
      if s.trunkOn then (s.post 0x50 0 238 0xB020 0 bit' 0 0).clearFault 0xB020 0x50 bit' else s)

/-- ROOT_FAULT (18 R393): a fault of Root detected outside its own writes. -/
def execRootFault (cause : Nat) (s : State) : Out :=
  .next (if !s.trunkOn || !(cause == 2 || cause == 3 || cause == 7 || cause == 8 || cause == 11) then s
    else s.rootFaultNow cause)

/-! ### Thermal (R464-R470) -/

/-- A sensor. -/
def State.sensor (s : State) (k : Nat) : Sensor := tget Sensor.reset s.thermal.sensors k

/-- Change a sensor. -/
def State.modSensor (s : State) (k : Nat) (f : Sensor → Sensor) : State :=
  { s with thermal.sensors := tmod Sensor.reset s.thermal.sensors k f }

/-- The sensors of the same die, or of the board. -/
def sensorGroup (k : Nat) : List Nat :=
  if k < 10 then List.range 10
  else if k < 24 then [10 + 2 * ((k - 10) / 2), 11 + 2 * ((k - 10) / 2)]
  else if k < 30 then [24, 25, 26, 27, 28, 29]
  else [k]

/-- The readings of the valid sensors of a list. -/
def State.validTemps (s : State) (l : List Nat) : List Int :=
  l.filterMap (fun k => let x := s.sensor k; if x.sampled && !x.excluded then some x.temp else none)

/-- The hottest of a list of readings. -/
def hottest (l : List Int) : Option Int := l.foldl (fun a t => match a with | none => some t | some m => some (max m t)) none

/-- Insert into an ascending list. -/
def insertAsc (t : Int) : List Int → List Int
  | [] => [t]
  | x :: l => if t ≤ x then t :: x :: l else x :: insertAsc t l

/-- Twice the median of a list of readings. -/
def median2 (l : List Int) : Option Int :=
  let q := l.foldl (fun a t => insertAsc t a) []
  if q.isEmpty then none else some (q.getD ((q.length - 1) / 2) 0 + q.getD (q.length / 2) 0)

/-- The plausibility of a sample (R466): 1 range, 2 disagreement of more than 20 °C with the median of the others, 0 fine. -/
def State.implausible (s : State) (k : Nat) (t : Int) : Nat :=
  if t < -550 ∨ t > 1750 then 1
  else match median2 (s.validTemps ((sensorGroup k).filter (· != k))) with
    | some m => if 2 * t - m > 400 ∨ m - 2 * t > 400 then 2 else 0
    | none => 0

/-- Exclusion and its end (R466): range at once, disagreement after 1 s; plausible for 10 s ends it. -/
def State.sensorCheck (s : State) (k : Nat) (t : Int) : State :=
  let kind := s.implausible k t
  let x := s.sensor k
  if x.excluded then
    if kind ≠ 0 then s.modSensor k (fun x => { x with okSince := none })
    else match x.okSince with
      | none => s.modSensor k (fun x => { x with okSince := some s.hw })
      | some t0 =>
        if s.hw ≥ t0 + 10000000000 then
          (s.modSensor k (fun x => { x with excluded := false, kind := 0, okSince := none, disAgree := none })).clearFault 0x00C2 0x71 k
        else s
  else
    let exclude := fun (s : State) =>
      let s := s.modSensor k (fun x => { x with excluded := true, kind := kind, okSince := none })
      let few := k < 10 ∧ ((List.range 10).filter (fun i => !(s.sensor i).excluded)).length < 3
      s.raiseEv 0x71 k 4 0x00C2 (if few then 4 else 2) k kind (ofSigned 32 t) 0
    match kind with
    | 0 => s.modSensor k (fun x => { x with disAgree := none })
    | 1 => exclude s
    | _ => match x.disAgree with
      | none => s.modSensor k (fun x => { x with disAgree := some s.hw })
      | some t0 => if s.hw ≥ t0 + 1000000000 then exclude s else s

/-- A THERMAL signal from the hottest valid of its sensors; zero with VALID clear when there is none (R465, R466). A sample of
sensor `k` updates it, if `k` is one of them. -/
def State.thermSig (s : State) (k id : Nat) (l : List Nat) : State :=
  if !l.contains k then s
  else match hottest (s.validTemps l) with
    | some t => s.setSig id (fFrac t 10) s.hw fgValid
    | none => s.setSig id fZero 0 0

/-- The sensors of the fitted bough dies. -/
def State.boughSensors (s : State) : List Nat := (List.range (2 * boughs s.variant)).map (· + 10)

/-- The throttle step a temperature reaches (R467). -/
def stepFor (t : Int) : Nat := if t ≥ 1150 then 3 else if t ≥ 1100 then 2 else if t ≥ 1050 then 1 else 0

/-- The threshold of a step, in 0.1 °C. -/
def stepThr (n : Nat) : Int := 1000 + 50 * n

/-- The step in force on a die (R466, R467): 3 under the board hold or without a valid sensor once sampled. -/
def State.dieStep (s : State) (d : Nat) : Nat :=
  let l := [10 + 2 * d, 11 + 2 * d]
  let blind := l.any (fun k => (s.sensor k).sampled) && (s.validTemps l).isEmpty
  if s.thermal.boardHold || blind then 3 else (tget DieSt.reset s.thermal.dies d).step

/-- The steps of the dies have changed: THERMAL/STEP and CROWN/THROTTLE for each (R467). -/
def State.stepEvents (old s : State) : State :=
  (List.range (boughs s.variant)).foldl (fun (s : State) d =>
    let a := old.dieStep d
    let b := s.dieStep d
    if a = b then s
    else
      let h := (hottest (s.validTemps [10 + 2 * d, 11 + 2 * d])).getD 0
      (s.post 0x71 (10 + 2 * d) 4 0x00C0 d a b (ofSigned 32 h)).crownThrottle d a b) s

/-- Throttling after a sample, `s0` the state before it (R467). -/
def State.throttle (s0 s : State) (k : Nat) : State :=
  let s := if 10 ≤ k ∧ k < 24 then
      let d := (k - 10) / 2
      match hottest (s.validTemps [10 + 2 * d, 11 + 2 * d]) with
      | none => s
      | some t => { s with thermal.dies := tmod DieSt.reset s.thermal.dies d (fun x =>
          let n := max x.step (stepFor t)
          { x with step := n, below := if n > 0 ∧ t < stepThr n - 50 then (match x.below with | some b => some b | none => some s.hw)
                                       else none }) }
    else s
  let s := if 24 ≤ k ∧ k < 30 then
      match hottest (s.validTemps (sensorGroup 24)) with
      | none => s
      | some t =>
        if t ≥ 1050 then { s with thermal.boardHold := true, thermal.boardBelow := none }
        else if s.thermal.boardHold then
          if t < 1000 then
            match s.thermal.boardBelow with
            | none => { s with thermal.boardBelow := some s.hw }
            | some b => if s.hw ≥ b + 2000000000 then { s with thermal.boardHold := false, thermal.boardBelow := none } else s
          else { s with thermal.boardBelow := none }
        else s
    else s
  State.stepEvents s0 s

/-- THERMAL/WARNING of the trunk die (R468): raised at 120 °C, ends below 115 °C. -/
def State.trunkWarning (s : State) (k : Nat) (t : Int) : State :=
  if k ≥ 10 ∨ (s.sensor k).excluded then s
  else if t ≥ 1200 ∧ !s.thermal.warning.contains k then
    ({ s with thermal.warning := s.thermal.warning ++ [k] }).raiseEv 0x71 k 4 0x00C1 4 k t.toNat 0 0
  else if t < 1150 ∧ s.thermal.warning.contains k then
    ({ s with thermal.warning := s.thermal.warning.erase k }).clearFault 0x00C1 0x71 k
  else s

/-- Latched shutdown (R469): every output off, TAGGED_OFF, THERMAL/SHUTDOWN in every window, the Strongroom record, then the
dies off and the latch. -/
def State.thermalShutdown (s : State) (k kind : Nat) (t : Int) : State :=
  let s := (s.outsShutdown).modRoot (fun r => { r with taggedOff := true })
  let s := s.postAll 4 0x00C3 k t.toNat kind 0
  let (s, occ) := s.raise 0x00C3 0x71 k 7 [k, t.toNat, kind, 0] true
  let s := s.larderWrite 0x00C3 0x71 k 7 false false [k, t.toNat, kind, 0, faultWord 0x00C3 7 0x71] s.hw occ 1
  let s := (s.flushLarder.dropStage).graftLoss
  s.trunkStop .shutdown

/-- The sensor is sampled at 1 kHz (R465): within 10 °C of the next threshold. -/
def fastAt (k : Nat) (t : Int) : Bool :=
  if k < 10 then decide (t ≥ 1100) else if k < 30 then decide (t ≥ 950) else false

/-- The sampling instant of a sensor (R465): its next boundary; the first sample of a powered period is taken at once. -/
def State.thermInstant (s : State) (k : Nat) : State :=
  if (s.sensor k).sampled then s.boundary (409000 + k) (if (s.sensor k).fast then 1000000 else 100000000) 0 else s

/-- A sensor takes a sample: its rate, its highest reading, its plausibility (R465, R466). -/
def State.thermTake (s : State) (k : Nat) (temp : Int) : State :=
  (s.modSensor k (fun x =>
    { x with sampled := true, temp := temp, fast := fastAt k temp,
             max := some (match x.max with | some m => max m temp | none => temp) })).sensorCheck k temp

/-- The THERMAL signals after a sample of sensor `k` (R466). -/
def State.thermSigs (s : State) (k : Nat) : State :=
  (((((s.thermSig k 0x0F7 (List.range 10)).thermSig k 0x0F8 s.boughSensors).thermSig k 0x0F9 (sensorGroup 24)).thermSig k 0x0FB
    ((List.range 19).map (· + 30))).thermSig k 0x0FC [24]).thermSig k 0x0FD [29]

/-- THERMAL_SAMPLE (R465-R469): sensor `sensor` reads `temp` in 0.1 °C at its next sampling instant. -/
def execThermalSample (sensor : Nat) (temp : Int) (s : State) : Out :=
  .next (if !s.trunkOn || !s.running 0x71 0 || decide (sensor ≥ 49) || !instPresent s.part 0x71 sensor ||
        (decide (10 ≤ sensor ∧ sensor < 24) && !s.inRun) then s
    else
      let x := s.sensor sensor
      let before := s.thermInstant sensor
      let s := (before.throttle ((before.thermTake sensor temp).thermSigs sensor) sensor).trunkWarning sensor temp
      let limit : Int := if sensor < 24 then 1300 else 1150
      if sensor < 30 ∧ temp ≥ limit ∧ !(s.sensor sensor).excluded then
        if x.fast ∧ x.hot + 1 ≥ 3 then s.thermalShutdown sensor (if sensor < 24 then 1 else 2) temp
        else s.modSensor sensor (fun y => { y with hot := if x.fast then x.hot + 1 else 0 })
      else s.modSensor sensor (fun y => { y with hot := 0 }))

/-- THROTTLE_STEP_DOWN (R467): 2 s below the step's threshold - 5 °C; the count restarts after each fall. -/
def execThrottleStepDown (die : Nat) (s : State) : Out :=
  .next (
    let x := tget DieSt.reset s.thermal.dies die
    match x.below with
    | none => s
    | some t =>
      if !s.trunkOn || x.step = 0 then s
      else
        let s := s.waitTo (t + 2000000000)
        let h := hottest (s.validTemps [10 + 2 * die, 11 + 2 * die])
        let n := x.step - 1
        let again := match h with | some h => decide (n > 0 ∧ h < stepThr n - 50) | none => false
        let x' := { x with step := n, below := if again then some s.hw else none }
        State.stepEvents s { s with thermal.dies := tset DieSt.reset s.thermal.dies die x' })

/-! ### Verbs -/

/-- POWER.STATUS. Of the input power the spec gives no value, so it is a free value (log entry 216). -/
def verbPowerStatus : Verb :=
  { unit := 0x70, verb := 0x01, lenOk := lenIs 0, instOk := inst0, query := true, rt := true, perm := none,
    body := fun _ s =>
      let (w, s) := s.drawF
      let p := s.power
      let v := fun (m : Int) => bF (fFrac m 1000)
      (s, stDone, b8 (powCode p.state) ++ b8 p.lastStart ++ b8 s.parkWaits ++ b8 p.parkStep ++ v (s.stud 0).mv ++
        v (s.stud 1).mv ++ v (s.stud 2).mv ++ v p.logicMv ++ bF w ++ b32 s.opSec ++ b32 p.losses) }

/-- POWER.CONFIG. -/
def verbPowerConfig : Verb :=
  { unit := 0x70, verb := 0x10, lenOk := lenIs 8, instOk := inst0, query := false, rt := false, perm := none,
    body := fun r s =>
      let k := u16 r.payload 0
      let sys := u8 r.payload 2
      let w := f32 r.payload 4
      if k > 3600 ∨ (sys ≠ 1 ∧ sys ≠ 2) ∨ !(fIsNan w || (fLe (fInt 6) w && fLe w (fInt 30))) then (s, stRange, [])
      else ((s.modPower (fun p => { p with keepAwake := k, system := sys, uvWarn := w })).dirty, stDone, []) }

/-- POWER.REQUEST (R473). -/
def verbPowerRequest : Verb :=
  { unit := 0x70, verb := 0x11, lenOk := lenIs 4, instOk := inst0, query := false, rt := true, perm := none,
    body := fun r s =>
      let h := u8 r.payload 0
      if h > 1 then (s, stRange, [])
      else if s.power.parkStep = 7 then (s, stBusy, [])
      else (s.modPower (fun p => { p with holds := if h = 1 then (if p.holds.contains r.win then p.holds else p.holds ++ [r.win])
                                                   else p.holds.erase r.win }), stDone, []) }

/-- POWER.RUN (R473). -/
def verbPowerRun : Verb :=
  { unit := 0x70, verb := 0x12, lenOk := lenIs 4, instOk := inst0, query := false, rt := true, perm := none,
    body := fun r s =>
      let h := u8 r.payload 0
      if r.win ≠ 0 then (s, stNotPermitted, [])
      else if h > 1 then (s, stRange, [])
      else ((s.modPower (fun p => { p with runReq := h == 1 })).runDecide 2, stDone, []) }

/-- THERMAL.STATUS. -/
def verbThermalStatus : Verb :=
  { unit := 0x71, verb := 0x01, lenOk := lenIs 0, instOk := instLt 49, query := true, rt := true, perm := none,
    body := fun r s =>
      let x := s.sensor r.inst
      let bough := 10 ≤ r.inst ∧ r.inst < 24
      let off := !x.sampled || (decide bough && !s.inRun)
      (s, stDone, bF (if off then fNaN else fFrac x.temp 10) ++ b8 (if off then 2 else if x.excluded then 1 else 0) ++
        b8 (b2n x.fast) ++ b8 (if bough then s.dieStep ((r.inst - 10) / 2) else 0xFF) ++ b8 0 ++
        bF (match x.max with | some m => fFrac m 10 | none => fNaN)) }

/-- POWER.STATUS. -/
def execPowerStatus (r : Req) (s : State) : Out := mailboxRow verbPowerStatus r s
/-- POWER.CONFIG. -/
def execPowerConfig (r : Req) (s : State) : Out := mailboxRow verbPowerConfig r s
/-- POWER.REQUEST. -/
def execPowerRequest (r : Req) (s : State) : Out := mailboxRow verbPowerRequest r s
/-- POWER.RUN. -/
def execPowerRun (r : Req) (s : State) : Out := mailboxRow verbPowerRun r s
/-- THERMAL.STATUS. -/
def execThermalStatus (r : Req) (s : State) : Out := mailboxRow verbThermalStatus r s

end Sys2Proof.Machine
end

