-- ==== Sys2Proof/Machine/Keeper.lean ====
section
/-! DEFINITION. Machine/Keeper.lean: the KEEPER unit's verbs, function modes and host deadlines, unit restarts, and the Canopy
partitions with checkpoints and die-level failover (01 R35-R41, 02 R47, R63-R71, 03 R86, R87, R91). -/

namespace Sys2Proof.Machine

/-- KEEPER_HB_TICK (18 R389): every 1 ms while Keeper runs; a change of the heartbeat ends the fans' full drive for it (13 R308). -/
def execKeeperHbTick (s : State) : Out :=
  .next (if s.trunkOn && s.running 1 0 && !s.keeper.paused then
      let s := s.waitTo (s.keeper.keeperHbAt + 1000000)
      ({ s with keeper.keeperHb := (s.keeper.keeperHb + 1) % 2 ^ 32, keeper.keeperHbAt := s.hw } : State).fanHeartbeat none
    else s)

/-! ### Function modes (R70) -/

/-- A function that may be host-assisted: deadline D, period and phase of its boundaries, in ns; period 0 has no boundaries. -/
structure ModeFn where
  d : Nat
  period : Nat
  phase : Nat

/-- The functions with a host-assisted mode, by unit, function and instance (each unit's chapter). -/
def State.modeFn (s : State) (u fn inst : Nat) : Option ModeFn :=
  if u = 0x42 then
    let x := s.slot fn
    if fn < 16 then some { d := s.slotL x - 2000000, period := x.stepUs * 1000, phase := x.phaseUs * 1000 } else none
  else if fn ≠ 0 then none
  else match u with
    | 0x10 | 0x11 | 0x12 | 0x13 => (sensePar u).map (fun q => { d := q.2.1, period := q.1, phase := 0 })
    | 0x20 => match (s.loop inst).cfg with
      | some c => some { d := c.hostD * 1000, period := c.periodUs * 1000, phase := c.phaseUs * 1000 }
      | none => none
    | 0x21 => if inst < 24 then some { d := 800000, period := 1000000, phase := 0 } else none
    | 0x40 => if inst = 0 then some { d := 35000000, period := 50000000, phase := ((-s.time.gpsOfs) % 50000000).toNat } else none
    | 0x41 => let p := (s.port inst).periodUs * 1000
      some { d := p / 2, period := p, phase := (s.port inst).phaseUs * 1000 }
    | 0x43 => some { d := 60000000, period := 100000000, phase := 0 }
    | 0x25 => some { d := 8000000, period := 10000000, phase := 0 }
    | 0x26 => if inst < 8 then some { d := 100000000, period := 100000000, phase := 0 } else none
    | 0x30 => some { d := 200000000, period := 0, phase := 0 }
    | _ => none

/-- The further condition of the unit's chapter for host-assisted mode: its failing status. -/
def State.modeCheck (s : State) (u fn inst hold : Nat) : Option Nat :=
  let ok (b : Bool) : Option Nat := if b then none else some stRange
  match u with
  | 0x10 | 0x11 | 0x12 | 0x13 => ok (s.senseModeOk u inst)
  | 0x20 => ok (s.ctrlModeOk inst)
  | 0x21 => if s.loopBinds 1 inst then some stBusy else ok ((s.valve' inst).mode == 1)
  | 0x40 => ok s.gnssModeOk
  | 0x41 => ok (s.camModeOk inst)
  | 0x42 => ok (s.crownModeOk fn inst)
  | 0x43 => ok s.granModeOk
  | 0x25 => ok s.bodyModeOk
  | 0x26 => ok (fanModeOk inst)
  | 0x30 => ok (canModeOk inst hold)
  | _ => some stRange

/-- The checks of KEEPER.MODE on its target, in the order of R70. -/
def State.modeRefusal (s : State) (r : Req) : Option Nat :=
  let p := r.payload
  let u := u8 p 0
  let fn := u8 p 1
  let inst := u16 p 2
  let hold := u16 p 6
  let h := s.hostFn (hostKey u fn inst)
  if !unitKnown u || !instInNumbering u inst then some stRange
  else if !unitFitted s.variant u || !instPresent s.part u inst then some stNotFitted
  else if !s.right r.win u inst true then some stNotPermitted
  else if (s.modeFn u fn inst).isNone || !(decide (hold ≤ 1000) || hold == 0xFFFF) || decide (u8 p 4 > 1) then some stRange
  else if (h.host || h.pending == some true) && h.owner != r.win then some stBusy
  else if u8 p 4 = 1 ∨ u = 0x21 then s.modeCheck u fn inst hold
  else none

/-- A fan watches the heartbeat of the window that last sent it KEEPER.MODE (13 R308). -/
def State.modeSent (s : State) (u inst win : Nat) : State :=
  if u = 0x26 then s.modFan inst (fun f => { f with cmdWin := some win }) else s

/-- KEEPER.MODE (R70). -/
def verbKeeperMode : Verb :=
  { unit := 0x01, verb := 0x01, lenOk := lenIs 12, instOk := inst0, query := false, rt := false, perm := some (fun _ _ => true),
    body := fun r s =>
      match s.modeRefusal r with
      | some st => (s, st, [])
      | none =>
        let p := r.payload
        let u := u8 p 0
        let fn := u8 p 1
        let inst := u16 p 2
        let hold := u16 p 6
        let m := (s.modeFn u fn inst).getD ⟨0, 0, 0⟩
        let t := nextBoundary s.hw m.period m.phase
        ((s.modeSent u inst r.win).modHost (hostKey u fn inst) (fun h =>
          { h with owner := r.win, holdLast := if hold = 0xFFFF then h.holdLast else hold, pending := some (u8 p 4 == 1), pendingAt := t }),
          stDone, b32 (m.d / 1000) ++ b32 (m.period / 1000) ++ b32 (usOf t)) }

/-- The hardware takes a function over from the host. -/
def State.modeToHw (s : State) (u inst : Nat) : State :=
  match u with
  | 0x20 => s.modLoop inst (fun x => { x with forced := true, hostHw := false, hostU := none })
  | 0x21 => s.valveToHw inst
  | 0x25 => s.bodyTake inst
  | 0x26 => (s.fanCause inst (clearBits (s.fan inst).causes 8)).fanUnwatch inst
  | 0x30 => (s.modCan inst (fun x => { x with hostWait := [], hostWin := [] })).canHostRefresh inst
  | _ => s

/-- The host takes a function over. The transport sessions of a CAN channel end; the spec gives them no abort reason, which is a
free value. -/
def State.modeToHost (s : State) (u inst : Nat) : State :=
  match u with
  | 0x20 => s.modLoop inst (fun x => { x with hostHw := false, hostU := none })
  | 0x26 => s.fanPeriod inst
  | 0x30 =>
    let (n, s) := s.drawNat
    s.tpAbortAll inst (n % 256)
  | _ => s

/-- MODE_BOUNDARY (R70): at the function's next period boundary the mode takes effect. -/
def execModeBoundary (unit fn inst : Nat) (s : State) : Out :=
  .next (
    let key := hostKey unit fn inst
    let h := s.hostFn key
    match h.pending with
    | none => s
    | some b =>
      if !s.trunkOn then s
      else
        let s := s.waitTo h.pendingAt
        let s := s.modHost key (fun h =>
          { h with host := b, pending := none, misses := 0, inSafe := false, onTime := 0, safePeriods := 0, got := true, prev := false })
        if b == h.host then s else if b then s.modeToHost unit inst else s.modeToHw unit inst)

/-! ### Host deadlines (R71) -/

/-- The effect of a judged miss, as the unit's chapter states it. -/
def State.missEffect (s : State) (u fn inst : Nat) : State :=
  match u with
  | 0x10 | 0x11 | 0x12 | 0x13 => s.senseMiss u inst
  | 0x20 => s.ctrlMiss inst
  | 0x21 => s.valveMiss inst
  | 0x40 => s.gnssMiss
  | 0x41 => s.camMiss inst
  | 0x42 => s.crownMiss fn
  | 0x43 => s.granMiss
  | 0x25 => s.bodyMiss inst
  | 0x26 => s.fanMiss inst
  | 0x30 => s.canMiss inst
  | _ => s

/-- HOST_DEADLINE_MISS (R71): the result has not come by t_k + D. -/
def execHostDeadlineMiss (unit fn inst : Nat) (s : State) : Out :=
  .next (
    let key := hostKey unit fn inst
    let h := s.hostFn key
    if !s.trunkOn || !h.host then s
    else if h.prev then ((s.waitTo (h.ptk + h.pd)).missPrev key).missEffect unit fn inst
    else if h.got then s
    else
      let s := ((s.waitTo h.due).hostMiss key).missEffect unit fn inst
      if unit = 0x26 then s.fanPeriod inst else s)

/-! ### The other KEEPER verbs (R70, R507, 03 R86, R87, R91) -/

/-- KEEPER.NOP (R70). -/
def verbKeeperNop : Verb :=
  { unit := 0x01, verb := 0x00, lenOk := lenIs 0, instOk := inst0, query := true, rt := true, perm := some (fun _ _ => true),
    body := fun _ s => (s, stDone, []) }

/-- The signal IDs of a KEEPER.SIG_READ. -/
def sigIds (p : List Byte) : List Nat := u16s p 2 (u8 p 0)

/-- KEEPER.SIG_READ (03 R86). An ID above 0xFFF lies in no read range and is NOT_PERMITTED; from Root it is OUT_OF_RANGE. -/
def verbKeeperSigRead : Verb :=
  { unit := 0x01, verb := 0x10,
    lenOk := fun r => decide (1 ≤ u8 r.payload 0 ∧ u8 r.payload 0 ≤ 7) && r.payload.length == 2 + 2 * u8 r.payload 0,
    instOk := inst0, query := true, rt := true, perm := some (fun s r => (sigIds r.payload).all (s.sigReadable r.win)),
    body := fun r s =>
      if (sigIds r.payload).any (fun id => decide (id > 0xFFF)) then (s, stRange, [])
      else (s, stDone, (sigIds r.payload).flatMap (fun id =>
        bF (s.sig id).value ++ b8 (s.sig id).flags ++ zeros 3 ++ b64 (s.sig id).stamp)) }

/-- One entry of a KEEPER.SIG_WRITE. -/
structure SigEntry where
  id : Nat
  flags : Nat
  value : F32
  stamp : Nat

/-- The entries of a KEEPER.SIG_WRITE; validity bits 5-0, bit 1 ignored. -/
def sigEntries (p : List Byte) : List SigEntry :=
  (List.range (p.length / 16)).map (fun i =>
    { id := u16 p (16 * i), flags := u8 p (16 * i + 2) &&& 0x3D, value := f32 p (16 * i + 4), stamp := u64 p (16 * i + 8) })

/-- KEEPER.SIG_WRITE (03 R86, R87): every entry is checked before any signal changes. -/
def verbKeeperSigWrite : Verb :=
  { unit := 0x01, verb := 0x11,
    lenOk := fun r => decide (16 ≤ r.payload.length ∧ r.payload.length ≤ 112) && r.payload.length % 16 == 0,
    instOk := inst0, query := false, rt := true,
    perm := some (fun s r => (sigEntries r.payload).all (fun e => s.sigOwned r.win e.id)),
    body := fun r s =>
      let es := sigEntries r.payload
      if !es.all (fun e => fFinite e.value) || !es.all (fun e => decide (e.stamp ≤ s.hw)) ||
          decide ((es.map (·.id)).eraseDups.length ≠ es.length) then (s, stRange, [])
      else
        let s' := es.foldl (fun (a : State) e => a.setSig e.id e.value (if e.stamp = 0 then s.hw else e.stamp) e.flags) s
        (s'.bodyEvalAll, stDone, []) }

/-- KEEPER.EVT_MASK (03 R91): bits without a right clear, bit 0 set; Root cannot mask sources 2 and 236-247. -/
def verbKeeperEvtMask : Verb :=
  { unit := 0x01, verb := 0x12, lenOk := lenIs 32, instOk := inst0, query := false, rt := false, perm := some (fun _ _ => true),
    body := fun r s =>
      let req := (List.range 32).foldl (fun m i => m + u8 r.payload i * 2 ^ (8 * i)) 0
      let forced := if r.win = 0 then bitSet (2 :: (List.range 12).map (236 + ·)) else 0
      let m := (req &&& s.rightMask r.win) ||| 1 ||| forced
      (s.modWin r.win (fun x => { x with mask := m }), stDone, leB 32 m) }

/-- KEEPER.NOP -/
def execKeeperNop (r : Req) (s : State) : Out := mailboxRow verbKeeperNop r s
/-- KEEPER.MODE -/
def execKeeperMode (r : Req) (s : State) : Out := mailboxRow verbKeeperMode r s
/-- KEEPER.SIG_READ -/
def execKeeperSigRead (r : Req) (s : State) : Out := mailboxRow verbKeeperSigRead r s
/-- KEEPER.SIG_WRITE -/
def execKeeperSigWrite (r : Req) (s : State) : Out := mailboxRow verbKeeperSigWrite r s
/-- KEEPER.EVT_MASK -/
def execKeeperEvtMask (r : Req) (s : State) : Out := mailboxRow verbKeeperEvtMask r s

/-! ### Unit restarts (R47, R63-R66) -/

/-- UNIT_RESTART (R47): a running unit stops for a restart, cause 1 fault or 4 request. The Root processor restarts by its own
rules (18 R393). -/
def execUnitRestart (unit inst cause : Nat) (s : State) : Out :=
  .next (if !s.trunkOn || !unitFitted s.variant unit || unit == 0x50 || !(cause == 1 || cause == 4) || s.keeper.paused ||
      (unit == 0x42 && !instPresent s.part unit inst) || (s.unitSt unit inst).phase != .running then s
    else s.unitRestart unit (if unit = 0x42 then inst else 0) cause)

/-- What each unit's chapter states of its return after `dt` ns. -/
def State.unitBack (s : State) (u inst dt : Nat) : State :=
  match u with
  | 0x02 => s.timeFollow
  | 0x10 => if s.hw % 10000000 = 0 then
      s.modSense (fun x => { x with loss := tmap LossCh.reset x.loss (fun c => { c with partBin := false }) }) else s
  | 0x20 => s.ctrlReady
  | 0x41 => s.camFresh
  | 0x42 => s.crownReady inst
  | 0x25 => s.bodyResume dt
  | 0x26 => s.fanReady dt
  | 0x33 => s.nmEvalAll
  | _ => s

/-- The cutover of the GNSS handover (07 R191, 02 R47): the generation increments with VALID clear for no time; the signals
keep the old instance's values (R66). -/
def State.gnssCutover (s : State) : State :=
  let old := s.gen 0x40 0
  let s := s.modUnit 0x40 0 (fun x => { x with gen := nextGen x.gen, phase := .running, clearedAt := s.hw })
  let s := { s with keeper.verGnss := (s.activeSet.part (s.activeSet.idx 5)).version }
  let s := s.keeperEv 0x0001 (16777216 * 0x40) (old + 65536 * s.gen 0x40 0) 2 0
  s.keeperEv 0x0002 (16777216 * 0x40) (s.gen 0x40 0) 0 0

/-- A restarted unit runs again, or its handover reaches the cutover (R47). -/
def State.unitReady (s : State) (u inst : Nat) : State :=
  if !s.trunkOn || s.keeper.paused then s
  else match (s.unitSt u inst).phase with
    | .restarting =>
      let dt := s.hw - (s.unitSt u inst).clearedAt
      (s.unitRun u inst).unitBack u inst dt
    | .handover => if u = 0x40 then s.gnssCutover else s
    | _ => s

/-! ### Canopy partitions (01 R28, R35-R41, 02 R68) -/

/-- CANOPY_PARTITION_START (01 R28): in RUN, the image verified, a declared partition that is stopped starts. -/
def execCanopyPartitionStart (p : Nat) (s : State) : Out :=
  .next (if !s.inRun || s.keeper.paused || p ≥ 16 || !(s.decl (p + 0x10)).declared || (s.partition p).state != .stopped then s
    else s.startPartition p)

/-- CANOPY_PARTITION_RESTART (02 R68): the window is reset, owned signals become STALE, outputs follow the owner-restart row,
holds lapse. -/
def execCanopyPartitionRestart (p : Nat) (s : State) : Out :=
  .next (
    let w := p + 0x10
    if !s.trunkOn || p ≥ 16 || (s.partition p).state != .running then s
    else
      let s := (s.staleOwned w).outsOwnerRestart w
      let s := ((s.stopBulk w).resetWindow w).modPartition p (fun q => { q with ckpt := Ckpt.reset })
      ({ s with power.holds := s.power.holds.erase w } : State).nmLapse w)

/-- A partition that no core is left for stops. -/
def State.partitionLost (s : State) (p : Nat) : State :=
  let w := p + 0x10
  let s := s.ownerStops w
  (s.closeWindow w).modPartition p (fun q => { q with state := .unplaced, cores := [], ckpt := Ckpt.reset })

/-- The partitions that run or are paused. -/
def State.runningParts (s : State) : List Nat :=
  (List.range 16).filter (fun p => (s.partition p).state == .running || (s.partition p).state == .paused)

/-- The checkpointed window: nothing recorded or posted since. The records of a restored partition that it has not re-issued by
then lapse too: its cores' new checkpoint is past the commands they stand for (DEDUCED: the spec gives them no end, log
entry 14). -/
def Window.checkpointed (w : Window) : Window := { w with record := [], replay := [], posted := [] }

/-- CHECKPOINT (01 R35): at a multiple of 10 ms every Canopy partition that runs is checkpointed at one instant. The stop of the
cores, at most 40 us, is a free value; it extends every host deadline of a Canopy partition that it overlaps, that of a result
still awaited from the period before included. In a Keeper activation pause none is taken: R35 names no exception for the pause, in
which Keeper takes nothing (DESIGN CHOICE, log entry 14). -/
def execCheckpoint (s : State) : Out :=
  .next (if !hasFailover s.variant || !s.inRun || s.keeper.paused then s
    else
      let s := s.boundary 21 10000000 0
      let now := s.hw
      let (n, s) := s.drawNat
      let len := n % 40001
      let ps := s.runningParts.filter (fun p => (s.partition p).state == .running)
      let s := { s with
        keeper.windows := s.keeper.windows.map (fun e => if s.windowPaused e.1 then e else (e.1, e.2.checkpointed)),
        keeper.hostFns := tmap HostFn.reset s.keeper.hostFns (fun h =>
          if h.host ∧ 0x10 ≤ h.owner then
            { h with d := if h.tk ≤ now + len ∧ now ≤ h.due then h.d + len else h.d,
                     pd := if (h.prev ∨ h.ptk ≠ 0) ∧ h.ptk ≤ now + len ∧ now ≤ h.ptk + h.pd then h.pd + len else h.pd }
          else h),
        keeper.ckptAt := now, keeper.ckptLen := len }
      let s := (List.range 8).foldl (fun (s : State) c => s.canStop now len c) s
      ps.foldl (fun (s : State) p =>
        s.modPartition p (fun q => { q with ckpt := { taken := true, takenAt := now, win := s.win (p + 0x10) } })) s)

/-- The window of a restored partition (01 R38, R39): the checkpoint's, with what Keeper has executed since as the record to
match, commands still held or executing as they are, and the events posted since posted again. A command that had been consumed
at the checkpoint and has been decided since is taken again, and finds its record. SEQ continues (03 R89). -/
def restoreWindow (now : Nat) (c x : Window) : Window :=
  let old := c.held.map (·.req) ++ c.waiting ++ c.later.map (·.1)
  let held := x.held.filter (fun h => old.contains h.req)
  let later := x.later.filter (fun e => old.contains e.1)
  let wait := old.filter (fun r => !(held.any (fun h => h.req == r)) && !(later.any (fun e => e.1 == r)))
  let y := { c with held := held, later := later, waiting := wait, replay := x.record ++ x.replay, record := [], posted := [], seq := x.seq,
                    regions := (c.regions.map (fun e =>
                      (e.1, { e.2 with inuse := (tget Region.reset x.regions e.1).inuse }))).filter (fun e => decide (e.2 ≠ Region.reset)) }
  x.posted.foldl (fun y e => y.postEvent now { e with eflags := 1 }) y

/-- The cores of the affected partitions once all of them are stopped (01 R38): each its own surviving cores first, as many as
its failover core count, then in ascending partition order unheld cores in ascending number. None for one that they do not
suffice for. -/
def State.failPlan (s : State) (affected : List Nat) : List (Nat × Option (List Nat)) :=
  let own := fun p => ((s.partition p).cores.filter s.coreAlive).take (s.decl (p + 0x10)).failover
  let held := s.heldCores ((List.range 16).filter (fun q => !affected.contains q)) ++ affected.flatMap own
  (affected.foldl (fun (acc : List (Nat × Option (List Nat)) × List Nat) p =>
    let l := s.failCores p (own p) acc.2
    (acc.1 ++ [(p, l)], acc.2 ++ l.getD [])) ([], held)).1

/-- The Crown unit of a retired die halts (01 R38, 09 R219, R239) and the cameras lose its ISP (08 R206). -/
def State.crownRetire (s : State) (die : Nat) : State :=
  let s := if die < crowns s.variant ∧ (s.unitSt 0x42 die).phase != .off then
      s.unitDown 0x42 die 5 (fun t => t.crownDieLost die) else s
  s.ispLost die ([0, 1].any (fun d => decide (d < crowns s.variant) && !s.keeper.retired.contains d))

/-- The failover of a bough die on ZQ-4 and ZQ-8 begins (01 R38-R41): an activation is abandoned, the die fenced and the fault
raised; every affected partition stops and is placed. What they own becomes STALE (03 R85). The pause, at most 50 ms, is a free
value; while it lasts the partitions issue nothing, so their outputs keep their values, and everything else runs. -/
def State.failover (s : State) (die : Nat) : State :=
  let s := (s.graftFailover.raise (Config.boughFault 0 % 65536) 1 die 6 [die, 0, 0, 0]).1.crownRetire die
  let affected := s.runningParts.filter (fun p => (s.partition p).cores.any (fun c => c / 4 == die))
  let plan := s.failPlan affected
  let s := plan.foldl (fun (s : State) e =>
    match e.2 with
    | some l => (s.staleOwned (e.1 + 0x10)).modPartition e.1 (fun x => { x with cores := l, state := .paused })
    | none => ((s.partitionLost e.1).raise (Config.boughFault 1 % 65536) 1 e.1 7 [die, e.1, 0, 0]).1) s
  let (n, s) := s.drawNat
  let earlier := s.keeper.failovers.map (fun f => { f with parts := f.parts.filter (fun p => !affected.contains p) })
  let f : Failover := { die := die, parts := plan.filterMap (fun e => e.2.map (fun _ => e.1)), ckptAt := s.keeper.ckptAt,
                        startAt := s.hw, pause := n % 50001 }
  { s with keeper.failovers := earlier ++ [f] }

/-- A paused partition is restored from its last checkpoint, or started afresh where none was taken, and resumes (01 R38). -/
def State.restorePart (s : State) (p : Nat) : State :=
  let w := p + 0x10
  let c := (s.partition p).ckpt
  (s.modWin w (fun x => restoreWindow s.hw (if c.taken then c.win else s.freshWindow w) x)).modPartition p
    (fun q => { q with state := .running })

/-- The pause of a failover ends: its partitions resume and KEEPER/FAILOVER is posted in every window (01 R38). -/
def State.failoverDone (s : State) (f : Failover) : State :=
  let s := { s with keeper.failovers := s.keeper.failovers.erase f }
  (f.parts.foldl State.restorePart s).postAll 0 0x0010 f.die (bitSet f.parts) (usOf f.ckptAt) f.pause

/-- The failovers whose pause is over end (log entry 16). -/
def State.failoverEnd (s : State) : State :=
  (s.keeper.failovers.filter (fun f => decide (f.startAt + 1000 * f.pause ≤ s.hw))).foldl State.failoverDone s

/-- The only bough die fails (00 R10): an activation is abandoned, every Canopy partition stops, and a fault of severity 7 is
raised. -/
def State.onlyDieLost (s : State) (die : Nat) : State :=
  let s := s.graftFailover
  let s := s.runningParts.foldl State.partitionLost s
  let s := (s.raise (Config.boughFault 2 % 65536) 1 die 7 [die, 0, 0, 0]).1
  s.crownRetire die

end Sys2Proof.Machine
end

