-- ==== Sys2Proof/Machine/Test.lean ====
section
/-! DEFINITION. Machine/Test.lean: the test access port, TESTKEY and the console (22 R484, R485, 23 R501-R503). The order of
the 453 cells is left to the BSDL description, so cells are named by their number; what the pins show is an operand. -/

namespace Sys2Proof.Machine

/-- Change the test port. -/
def State.modJtag (s : State) (f : Jtag → Jtag) : State := { s with jtag := f s.jtag }

/-- The test port answers: the trunk is on, and TESTKEY is tied or the module is in the TEST state (22 R484, R492). -/
def State.portOn (s : State) : Bool := s.trunkOn && (s.jtag.testkey || s.power.state == .test)

/-- Boundary cells (R501). -/
def cellCount : Nat := 453

/-- Values shifted into, or captured by, numbered cells. -/
def putCells (t : Tab Bool) (l : List (Nat × Bool)) : Tab Bool :=
  l.foldl (fun t e => if e.1 < cellCount then tset false t e.1 e.2 else t) t

/-- The instruction acts as BYPASS: its opcode is in the instruction register, the bypass register selected, no cell
drives. -/
def State.asBypass (s : State) (op : Nat) : State :=
  s.modJtag (fun j => { j with ir := op, dr := 2, driving := false, highz := false })

/-- EXTEST (R501-R503): in the TEST state the cells drive and observe the pins; elsewhere it acts as BYPASS. -/
def execExtest (cells pins : List (Nat × Bool)) (s : State) : Out :=
  .next (if !s.portOn then s
    else if s.power.state == .test then
      s.modJtag (fun j => { j with ir := 0, dr := 1, driving := true, highz := false, cells := putCells j.cells cells,
                                   captured := putCells [] pins })
    else s.asBypass 0)

/-- IDCODE (R501): the device identification register. -/
def execIdcode (s : State) : Out :=
  .next (if !s.portOn then s
    else s.modJtag (fun j =>
      { j with ir := 1, dr := 0, driving := false, highz := false,
               idReg := (j.siliconRev % 16) * 2 ^ 28 + typeCode s.variant * 4096 + (Config.bsdlManufacturer % 2048) * 2 + 1 }))

/-- SAMPLE/PRELOAD (R501): captures the pins and loads the driving cells without disturbing the pins. -/
def execSamplePreload (cells pins : List (Nat × Bool)) (s : State) : Out :=
  .next (if !s.portOn then s
    else s.modJtag (fun j => { j with ir := 2, dr := 1, driving := false, highz := false, cells := putCells j.cells cells,
                                      captured := putCells [] pins }))

/-- HIGHZ (R501): every driving cell off, bypass selected; TEST state only. -/
def execHighz (s : State) : Out :=
  .next (if !s.portOn then s
    else if s.power.state == .test then s.modJtag (fun j => { j with ir := 8, dr := 2, driving := false, highz := true })
    else s.asBypass 8)

/-- CLAMP (R501): drives the preloaded values, bypass selected; TEST state only. -/
def execClamp (s : State) : Out :=
  .next (if !s.portOn then s
    else if s.power.state == .test then s.modJtag (fun j => { j with ir := 9, dr := 2, driving := true, highz := false })
    else s.asBypass 9)

/-- BYPASS (R501). -/
def execBypass (s : State) : Out := .next (if s.portOn then s.asBypass 0xFF else s)

/-- TEST_LOGIC_RESET (R501): IDCODE is the instruction after it. -/
def execTestLogicReset (s : State) : Out :=
  .next (if s.portOn then s.modJtag (fun j => { j with ir := 1, dr := 0, driving := false, highz := false }) else s)

/-- TESTKEY is tied (R502): in KEEPER or RUN JVREF is present and the console accepts input; a trunk start samples it. -/
def execTestkeyTied (s : State) : Out :=
  .next (s.modJtag (fun j => { j with testkey := true, jvref := j.jvref || s.operating, console := j.console || s.operating }))

/-- TESTKEY is untied (R502): in KEEPER or RUN JVREF and console input end; nothing else changes. -/
def execTestkeyUntied (s : State) : Out :=
  .next (s.modJtag (fun j => { j with testkey := false, jvref := j.jvref && !s.operating, console := j.console && !s.operating }))

/-- CONSOLE_RX (22 R485): a character, ignored unless the console accepts input. -/
def execConsoleRx (char : Byte) (s : State) : Out :=
  .next (if s.trunkOn && s.jtag.console then s.modJtag (fun j => { j with consoleIn := j.consoleIn ++ [char] }) else s)

end Sys2Proof.Machine
end

