-- ==== Sys2Proof/Machine/Serve.lean ====
section
/-! DEFINITION. Machine/Serve.lean: the window registers and the ring protocol: Keeper consumes command slots, lets commands wait and
be held, posts replies, and answers index errors (02 R43, R48-R64, R69, 03 R81). -/

namespace Sys2Proof.Machine

/-- The mailbox verbs of Attic.lean. -/
def verbsAttic : List Verb :=
  [verbAtticStatus, verbAtticList, verbAtticRead, verbAtticWrite, verbAtticDelete, verbLarderStatus, verbLarderRead,
   verbLarderChallenge, verbLarderClear]

/-- The mailbox verbs of Body.lean. -/
def verbsBody : List Verb :=
  [verbBodyStatus, verbBodyConfig, verbBodyRequest, verbBodyHostbuf, verbBodyResult]

/-- The mailbox verbs of Cam.lean. -/
def verbsCam : List Verb :=
  [verbCamStatus, verbCamConfig, verbCamSensor, verbCamIsp, verbCamTap, verbCamBackch, verbCamLamp, verbCamExposure,
   verbCamHostbuf, verbCamLampSet]

/-- The mailbox verbs of Can.lean. -/
def verbsCan : List Verb :=
  [verbCanStatus, verbCanHpRead, verbCanTxStatus, verbCanConfig, verbCanQueue, verbCanSchedule, verbCanRecover,
   verbCanSend]

/-- The mailbox verbs of CanTp.lean. -/
def verbsCanTp : List Verb :=
  [verbCanTp, verbCanTpSend]

/-- The mailbox verbs of Crown.lean. -/
def verbsCrown : List Verb :=
  [verbCrownStatus, verbCrownModel, verbCrownLoad, verbCrownBind, verbCrownCalib, verbCrownOutbuf, verbCrownStart,
   verbCrownStop, verbCrownHostbuf, verbCrownResult]

/-- The mailbox verbs of Ctrl.lean. -/
def verbsCtrl : List Verb :=
  [verbCtrlStatus, verbCtrlLoad, verbCtrlEnable, verbCtrlDisable, verbCtrlSetpoint, verbCtrlTrace, verbCtrlTraceRead,
   verbCtrlHostbuf, verbCtrlU]

/-- The mailbox verbs of Eth.lean. -/
def verbsEth : List Verb :=
  [verbEthStatus, verbEthConfig, verbEthGates, verbEthLidar, verbEthSigport, verbEthHostring]

/-- The mailbox verbs of Fan.lean. -/
def verbsFan : List Verb :=
  [verbFanStatus, verbFanConfig, verbFanTable, verbFanSet, verbFanClear, verbFanResult]

/-- The mailbox verbs of Faults.lean. -/
def verbsFaults : List Verb :=
  [verbFaultStatus, verbFaultRaise]

/-- The mailbox verbs of Gnss.lean. -/
def verbsGnss : List Verb :=
  [verbGnssStatus, verbGnssFix, verbGnssConfig, verbGnssAntenna, verbGnssCorr, verbGnssRtcm, verbGnssOrigin,
   verbGnssLine, verbGnssGuard, verbGnssHostbuf, verbGnssSolution, verbImuStatus, verbImuConfig]

/-- The mailbox verbs of Graft.lean. -/
def verbsGraft : List Verb :=
  [verbGraftStatus, verbGraftMissing, verbGraftOpen, verbGraftPiece, verbGraftDiscard, verbGraftActivate,
   verbGraftConfirm, verbGraftFallback, verbGraftYield, verbGraftTake]

/-- The mailbox verbs of Granary.lean. -/
def verbsGranary : List Verb :=
  [verbGranaryStatus, verbGranaryConfig, verbGranarySections, verbGranaryCalib, verbGranaryOpen, verbGranaryClose,
   verbGranaryCorrect, verbGranaryHostbuf, verbGranaryResult]

/-- The mailbox verbs of Keeper.lean. -/
def verbsKeeper : List Verb :=
  [verbKeeperNop, verbKeeperMode, verbKeeperSigRead, verbKeeperSigWrite, verbKeeperEvtMask]

/-- The mailbox verbs of Lin.lean. -/
def verbsLin : List Verb :=
  [verbLinStatus, verbLinRead, verbLinConfig, verbLinTable, verbLinSchedule, verbLinWrite, verbLinSleep]

/-- The mailbox verbs of Nm.lean. -/
def verbsNm : List Verb :=
  [verbNmStatus, verbNmWakeCause, verbNmConfig, verbNmRequest, verbNmCanwake]

/-- The mailbox verbs of Outs.lean. -/
def verbsOuts : List Verb :=
  [verbOutStatus, verbOutConfig, verbOutSet, verbOutClear, verbOutParkhold, verbHbStatus, verbHbConfig, verbHbDrive,
   verbHbClear, verbHbPosition]

/-- The mailbox verbs of Pantry.lean. -/
def verbsPantry : List Verb :=
  [verbCanPantry]

/-- The mailbox verbs of Plate.lean. -/
def verbsPlate : List Verb :=
  [verbPlateStatus, verbPlateConfig, verbPlateWaveform, verbPlateUpdate, verbPlatePark]

/-- The mailbox verbs of Power.lean. -/
def verbsPower : List Verb :=
  [verbPowerStatus, verbPowerConfig, verbPowerRequest, verbPowerRun, verbThermalStatus]

/-- The mailbox verbs of Root.lean. -/
def verbsRoot : List Verb :=
  [verbRootStatus, verbRootLinkStatus, verbRootRestart, verbReflexStatus]

/-- The mailbox verbs of Sensing.lean. -/
def verbsSensing : List Verb :=
  [verbLossStatus, verbLossConfig, verbLossTemplates, verbLossSnip, verbHostbuf 0x10, verbResult 0x10,
   verbBridgeConfig, verbBridgeTare, verbBridgeStatus, verbHostbuf 0x11, verbResult 0x11, verbAinConfig,
   verbHostbuf 0x12, verbResult 0x12, verbFreqConfig, verbHostbuf 0x13, verbResult 0x13, verbSupConfig]

/-- The mailbox verbs of Swin.lean. -/
def verbsSwin : List Verb :=
  [verbSwinRead, verbSwinConfig]

/-- The mailbox verbs of Time.lean. -/
def verbsTime : List Verb :=
  [verbTimeRole]

/-- The mailbox verbs of Valve.lean. -/
def verbsValve : List Verb :=
  [verbValveStatus, verbValveConfig, verbValveSet, verbValveClear, verbValveDuty]

/-- Every verb of the unit chapters. -/
def allVerbs : List Verb :=
  verbsAttic ++ verbsBody ++ verbsCam ++ verbsCan ++ verbsCanTp ++ verbsCrown ++ verbsCtrl ++ verbsEth ++
  verbsFan ++ verbsFaults ++ verbsGnss ++ verbsGraft ++ verbsGranary ++ verbsKeeper ++ verbsLin ++ verbsNm ++
  verbsOuts ++ verbsPantry ++ verbsPlate ++ verbsPower ++ verbsRoot ++ verbsSensing ++ verbsSwin ++ verbsTime ++
  verbsValve

/-- The verb of a unit and verb number (02 R59 check 3). -/
def verbOf (u n : Nat) : Option Verb := allVerbs.find? (fun v => v.unit == u && v.verb == n)

/-! ### The ring protocol (R54-R60, R64) -/

/-- The command in a slot of the command ring (02 R51). -/
def slotReq (w : Nat) (b : List Byte) : Req :=
  { win := w, tag := u32 b 4, flags := u8 b 2, unit := u8 b 1, verb := u8 b 0, inst := u16 b 8, cls := bits (u32 b 8) 19 16,
    genLow := bits (u32 b 8) 31 20, deadline := u32 b 12, payload := slice b 16 (u8 b 3), stores := [] }

/-- A refusal before a verb is known. -/
def State.refuse (s : State) (r : Req) (st : Nat) : State :=
  s.answer r.win { unit := r.unit, verb := r.verb, tag := r.tag, rflags := 0, gen := s.gen r.unit r.inst, status := st, doneAt := s.us,
                   payload := [] }

/-- Keeper takes a command from its slot: checks 1 to 3, then the verb's (R59). -/
def State.takeSlot (s : State) (r : Req) : State :=
  if !unitKnown r.unit then s.refuse r stBadUnit
  else if !unitFitted s.variant r.unit then s.refuse r stNotFitted
  else match verbOf r.unit r.verb with
    | none => s.refuse r stBadVerb
    | some v => s.take v r

/-- Keeper consumes one slot of a window, if one waits and a reply slot is left for it (R54 step 4, R56). -/
def State.consumeOne (s : State) (w : Nat) : State :=
  let x := s.win w
  if !s.live w || x.backlog = 0 || !s.keeperServes w then s
  else
    let r := slotReq w (tread x.cmdRing (0x1000 + 128 * (x.cmdCons % 64)) 128)
    (s.modWin w (fun x => { x with cmdCons := (x.cmdCons + 1) % 65536 })).takeSlot r

/-- Keeper consumes up to `n` slots of a window. -/
def State.consume (s : State) (w : Nat) : Nat → State
  | 0 => s
  | n + 1 => (s.consumeOne w).consume w n

/-- Held commands of a window whose hold is over run in ring order (R64). One whose unit has been powered down in the hold, which
R64 does not name as an end, meets check 9 and is answered BUSY with WAS_HELD (DEDUCED from R63, log entry 27). -/
def State.releaseHeld (s : State) (w : Nat) : State :=
  let l := (s.win w).held.filter s.holdOver
  let s := if l.isEmpty then s else s.modWin w (fun x => { x with held := x.held.filter (fun h => !s.holdOver h) })
  l.foldl (fun (s : State) h =>
    match verbOf h.req.unit h.req.verb with
    | some v => s.serve v h.req true
    | none => s) s

/-- Waiting commands of a window start when their turn has come (R58). -/
def State.startWaiting (s : State) (w : Nat) : State :=
  ((s.win w).waiting.foldl (fun (acc : State × List Req) r =>
    let s := acc.1
    if s.mustWait acc.2 r then (s, acc.2 ++ [r])
    else match verbOf r.unit r.verb with
      | some v => ((s.modWin w (fun x => { x with waiting := x.waiting.erase r })).start v r, acc.2)
      | none => acc) (s, [])).1

/-- Decided replies of a window are posted while slots are free (R56). -/
def State.drainWin (s : State) (w : Nat) : State :=
  if (s.win w).outbox.isEmpty then s else s.modWin w (fun x => x.drain s.hw x.outbox.length)

/-- What Keeper does for one window but for new slots. -/
def State.serveWin (s : State) (w : Nat) : State := ((s.drainWin w).releaseHeld w).startWaiting w

/-- One round: one slot of each Canopy window in turn. -/
def State.consumeRound (s : State) (l : List Nat) : Nat → State
  | 0 => s
  | n + 1 => (l.foldl State.consumeOne s).consumeRound l n

/-- Keeper's turn (R56, R58): the failovers that are over end, then the Root window first, the Canopy windows round-robin. -/
def State.keeperTurn (s : State) : State :=
  if !s.trunkOn || s.keeper.paused || !s.running 1 0 then s
  else
    let s := s.failoverEnd
    let ws := s.keeper.windows.map (·.1)
    let s := ws.foldl State.serveWin s
    let s := s.consume 0 (s.win 0).backlog
    let cs := ws.filter (· != 0)
    s.consumeRound cs ((cs.map (fun w => (s.win w).backlog)).foldl max 0)

/-! ### Window registers (R43, R48-R50, R57, R69, 03 R81) -/

/-- KEEPER/RING_ERROR in the window whose index write is ignored (R57). -/
def State.ringError (s : State) (w ofs value kept : Nat) : State := s.postIn w 0 0x0004 ofs (value % 2 ^ 32) kept 0

/-- CMD_PROD (R54, R57): the doorbell; the partition's stores precede it. -/
def State.cmdProdWrite (s : State) (w value : Nat) (stores : List Store) : State :=
  if !s.live w then s
  else
    let s := s.stores w stores
    let x := s.win w
    let v := value % 65536
    if (v + 65536 - x.cmdCons) % 65536 ≤ 64 then (s.modWin w (fun x => { x with cmdProd := v })).keeperTurn
    else s.ringError w 0x100 value x.cmdProd

/-- CMD_PROD_WRITE -/
def execCmdProdWrite (w value : Nat) (stores : List Store) (s : State) : Out := .next (s.cmdProdWrite w value stores)

/-- RPL_CONS (R54 step 7, R56, R57). -/
def State.rplConsWrite (s : State) (w value : Nat) : State :=
  if !s.live w then s
  else
    let x := s.win w
    let v := value % 65536
    if (v + 65536 - x.rplCons) % 65536 ≤ (x.rplProd + 65536 - x.rplCons) % 65536 then
      (s.modWin w (fun x => { x with rplCons := v })).keeperTurn
    else s.ringError w 0x10C value x.rplCons

/-- RPL_CONS_WRITE -/
def execRplConsWrite (w value : Nat) (s : State) : Out := .next (s.rplConsWrite w value)

/-- EVT_CONS (R57, R69). -/
def State.evtConsWrite (s : State) (w value : Nat) : State :=
  if !s.live w then s
  else
    let x := s.win w
    let v := value % 65536
    if (v + 65536 - x.evtCons) % 65536 ≤ x.unread then (s.modWin w (fun x => { x with evtCons := v })).eventsLost w
    else s.ringError w 0x114 value x.evtCons

/-- EVT_CONS_WRITE -/
def execEvtConsWrite (w value : Nat) (s : State) : Out := .next (s.evtConsWrite w value)

/-- The oldest unread event. -/
def Window.oldest (x : Window) : Option Event := (x.evtRing.drop (x.evtRing.length - x.unread)).head?

/-- The condition of IRQ_STATUS.EVT (R49). -/
def Window.evtCond (x : Window) (now : Nat) : Bool :=
  decide (x.unread ≥ x.thr) || (match x.oldest with | some e => decide (now ≥ e.stamp + 1000000) | none => false)

/-- IRQ_STATUS (R49): write 1 to clear. A reply posted or a loss counted in the reflex cycle of the write keeps its bit set. -/
def State.irqClear (s : State) (w value : Nat) : State :=
  if !s.live w then s
  else s.modWin w (fun x =>
    { x with irqLost := x.irqLost && (!bit value 2 || x.lostAt == s.hw + 1),
             irqRpl := x.irqRpl && (!bit value 1 || x.rplAt == s.hw + 1),
             irqEvt := (x.irqEvt && !bit value 0) || x.evtCond s.hw })

/-- IRQ_STATUS_W1C -/
def execIrqStatusW1c (w value : Nat) (s : State) : Out := .next (s.irqClear w value)

/-- HOST_HB (R50): a change is stamped, and ends full drive for its absence (13 R308). -/
def State.hostHbWrite (s : State) (w value : Nat) : State :=
  if !s.live w then s
  else
    let v := value % 2 ^ 32
    if (s.win w).hostHb = v then s
    else (s.modWin w (fun x => { x with hostHb := v, hostHbAt := s.hw })).fanHeartbeat (some w)

/-- HOST_HB_WRITE -/
def execHostHbWrite (w value : Nat) (s : State) : Out := .next (s.hostHbWrite w value)

/-- HW_LO_READ (03 R81): latches Heartwood [63:32] into HW_HI of this window. -/
def execHwLoRead (w : Nat) (s : State) : Out :=
  .next (if s.live w then s.modWin w (fun x => { x with hwHi := s.hw / 2 ^ 32 % 2 ^ 32 }) else s)

/-- SNAP_REQ (03 R81): Heartwood is captured. -/
def State.snapWrite (s : State) (w : Nat) : State :=
  if s.live w then s.modWin w (fun x => { x with snapLo := s.hw % 2 ^ 32, snapHi := s.hw / 2 ^ 32 % 2 ^ 32 }) else s

/-- SNAP_REQ_WRITE: any value. -/
def execSnapReqWrite (w _value : Nat) (s : State) : Out := .next (s.snapWrite w)

/-- EVT_AGE_TIMEOUT (R49): the oldest unread event is 1 ms old. -/
def execEvtAgeTimeout (w : Nat) (s : State) : Out :=
  .next (if !s.live w then s
    else match (s.win w).oldest with
      | some e => (s.waitTo (e.stamp + 1000000)).modWin w (fun x => { x with irqEvt := true })
      | none => s)

/-- The Root control block in the Root processor's address space (18 R389): the words that have no row of their own. -/
def State.blockWrite (s : State) (ofs value : Nat) : State :=
  if ofs = 0x40000028 then s.faultcutWrite value
  else if 0x40000100 ≤ ofs ∧ ofs < 0x40000180 then s.faultmapWrite ((ofs - 0x40000100) / 4) value
  else s

/-- REGISTER_WRITE (R42, R43): registers and descriptors take aligned 32-bit words only, ring slots of the command ring 8 to 64
bits; RO and reserved offsets ignore the write. Bytes of a slot are little-endian. A write into a slot that is not aligned to its width
is ignored too: R43 gives the widths of slot accesses and no alignment (DESIGN CHOICE, log entry 17). -/
def State.registerWrite (s : State) (w ofs width value : Nat) : State :=
  if !s.live w || !(width == 8 || width == 16 || width == 32 || width == 64) || ofs % (width / 8) != 0 then s
  else if 0x1000 ≤ ofs ∧ ofs < 0x3000 then s.modWin w (fun x => { x with cmdRing := twrite x.cmdRing ofs (leB (width / 8) value) })
  else if width ≠ 32 then s
  else match ofs with
    | 0x100 => s.cmdProdWrite w value []
    | 0x10C => s.rplConsWrite w value
    | 0x114 => s.evtConsWrite w value
    | 0x120 => s.modWin w (fun x =>
        let x := { x with irqCtrl := value &&& 0xFF07 }
        { x with irqEvt := x.irqEvt || x.evtCond s.hw })
    | 0x124 => s.irqClear w value
    | 0x140 => s.hostHbWrite w value
    | 0x210 => s.snapWrite w
    | _ => if w = 0 then s.blockWrite ofs value else s

/-- REGISTER_WRITE -/
def execRegisterWrite (w ofs width value : Nat) (s : State) : Out := .next (s.registerWrite w ofs width value)

/-! ### Reads of a window (R42-R48, R51, R72, R89, 03 R81): the values its registers show -/

/-- TYPE (R42). -/
def State.typeReg (s : State) (w : Nat) : Nat := typeCode s.variant * 65536 + housingCode s.part.housing * 4096 + w % 256

/-- COUNTS. -/
def State.countsReg (s : State) : Nat :=
  let v := s.variant
  boughs v * 2 ^ 28 + coresOf v * 2 ^ 23 + crowns v * 2 ^ 20 + camPorts v * 2 ^ 18 + antennas v * 2 ^ 16 + lossChs v * 2 ^ 10

/-- The VALID bit of a unit number; CROWN's is that of any Crown unit. -/
def State.validBit (s : State) (u : Nat) : Bool :=
  if u = 0x42 then (List.range 7).any (fun n => (s.unitSt 0x42 n).valid) else (s.unitSt u 0).valid

/-- FITTEDn and VALIDn (R44). -/
def State.unitBits (s : State) (valid : Bool) (n : Nat) : Nat :=
  bitSet ((List.range 32).filter (fun i =>
    let u := 32 * n + i
    unitFitted s.variant u && (!valid || s.validBit u)))

/-- The 16-bit generation at GEN slot `k` (R45). -/
def State.genSlot (s : State) (k : Nat) : Nat :=
  let u := genSlots.getD k 0
  if unitFitted s.variant u then (tget UnitSt.reset s.keeper.units u).gen else 0

/-- A snapshot register of the TIME unit: it reads zero while TIME does not run (03 R82, 02 R66). -/
def State.timeReg (s : State) (v : Nat) : Nat := if s.timeRuns then v else 0

/-- TIME_STATUS (03 R81). -/
def State.timeStatus (s : State) : Nat :=
  s.timeReg <| s.time.state + 128 * b2n s.time.pps + 256 * s.time.role + 1024 * b2n s.time.ofsValid + 2048 * b2n s.time.leapValid

/-- IRQ_STATUS. -/
def Window.irqStatus (x : Window) : Nat := b2n x.irqEvt + 2 * b2n x.irqRpl + 4 * b2n x.irqLost

/-- The partition's interrupt line (R49): asserted while a cause is set together with its enable. -/
def Window.irqLine (x : Window) : Bool := x.irqStatus &&& (x.irqCtrl &&& 7) != 0

/-- The 32-bit word that a window register shows (R42-R48, 03 R81); reserved and write-only offsets read zero. -/
def State.regRead (s : State) (w ofs : Nat) : Nat :=
  let x := s.win w
  if 0x10 ≤ ofs ∧ ofs < 0x20 then s.unitBits false ((ofs - 0x10) / 4)
  else if 0x20 ≤ ofs ∧ ofs < 0x30 then s.unitBits true ((ofs - 0x20) / 4)
  else if 0x40 ≤ ofs ∧ ofs < 0x80 then s.genSlot ((ofs - 0x40) / 2) + 65536 * s.genSlot ((ofs - 0x40) / 2 + 1)
  else if 0x80 ≤ ofs ∧ ofs < 0x90 then
    let g (n : Nat) : Nat := if n < crowns s.variant then s.gen 0x42 n else 0
    g ((ofs - 0x80) / 2) + 65536 * g ((ofs - 0x80) / 2 + 1)
  else match ofs with
    | 0x00 => s.typeReg w
    | 0x04 => s.part.serial % 2 ^ 32
    | 0x08 => s.part.serial / 2 ^ 32 % 2 ^ 32
    | 0x0C => s.countsReg
    | 0x30 => s.keeper.verKeeper | 0x34 => s.keeper.verRoot | 0x38 => s.keeper.verGnss | 0x3C => s.keeper.verSet
    | 0x100 => x.cmdProd | 0x104 => x.cmdCons | 0x108 => x.rplProd | 0x10C => x.rplCons | 0x110 => x.evtProd | 0x114 => x.evtCons
    | 0x118 => x.evtLost | 0x120 => if bits x.irqCtrl 15 8 = 0 then x.irqCtrl + 256 else x.irqCtrl
    | 0x124 => x.irqStatus | 0x140 => x.hostHb
    | 0x200 => s.hw % 2 ^ 32 | 0x204 => x.hwHi | 0x208 => s.us | 0x20C => s.timeStatus
    | 0x218 => x.snapLo | 0x21C => x.snapHi
    | 0x220 => s.timeReg (ofSigned 64 s.time.gpsOfs % 2 ^ 32) | 0x224 => s.timeReg (ofSigned 64 s.time.gpsOfs / 2 ^ 32)
    | 0x228 => s.timeReg (s.time.leap % 256) | 0x22C => s.timeReg s.errNow
    | 0x230 => s.timeReg (if s.time.state = 2 then (s.hw - s.time.holdSince) / 1000000000 else 0)
    | 0x234 => s.time.epoch
    | _ => 0

/-- The 128 bytes of a reply slot (R51, R52). -/
def Reply.bytes (y : Reply) : List Byte :=
  b8 y.verb ++ b8 y.unit ++ b8 y.rflags ++ b8 y.payload.length ++ b32 y.tag ++ b16 y.status ++ b16 y.gen ++ b32 y.doneAt ++ slice y.payload 0 112

/-- The 32 bytes of an event entry (03 R89). -/
def Event.bytes (e : Event) : List Byte :=
  b16 e.code ++ b8 e.source ++ b8 e.eflags ++ b32 e.seq ++ b64 e.stamp ++ b32 e.p0 ++ b32 e.p1 ++ b32 e.p2 ++ b32 e.p3

/-- The 64 bytes of a bulk descriptor (R72). -/
def Region.bytesOf (g : Region) : List Byte :=
  b64 g.base ++ b32 g.size ++ b32 (2 ^ 31 * b2n g.inuse + 2 ^ 30 * b2n g.dir) ++ b32 g.fill ++ b32 g.tag ++ b32 g.count ++ zeros 36

/-- The byte that a window shows at an offset (R42, R43). -/
def State.winByte (s : State) (w ofs : Nat) : Byte :=
  let x := s.win w
  if ofs < 0x300 then BitVec.ofNat 8 (s.regRead w (ofs / 4 * 4) / 256 ^ (ofs % 4))
  else if 0x1000 ≤ ofs ∧ ofs < 0x3000 then tget 0 x.cmdRing ofs
  else if 0x3000 ≤ ofs ∧ ofs < 0x5000 then
    let i := (ofs - 0x3000) / 128
    let back := (x.rplProd + 63 - i) % 64
    if back < x.rplRing.length then ((x.rplRing.getD (x.rplRing.length - 1 - back) Reply.reset).bytes).getD ((ofs - 0x3000) % 128) 0 else 0
  else if 0x5000 ≤ ofs ∧ ofs < 0x7000 then
    let i := (ofs - 0x5000) / 32
    let back := (x.evtProd + 255 - i) % 256
    if back < x.evtRing.length then ((x.evtRing.getD (x.evtRing.length - 1 - back) {}).bytes).getD ((ofs - 0x5000) % 32) 0 else 0
  else if 0x7000 ≤ ofs ∧ ofs < 0x8000 then
    let g := tget Region.reset x.regions ((ofs - 0x7000) / 64)
    if g.present then g.bytesOf.getD ((ofs - 0x7000) % 64) 0 else 0
  else 0

/-! ### Holds, deadlines and what ends them (R60, R63, R64, R67) -/

/-- HOLD_LIMIT_EXPIRY (R64): the command held longest in a window reaches 100 ms from its HELD reply: UNIT_RESTARTED. A command
whose hold is over has been executed before. -/
def execHoldLimitExpiry (w : Nat) (s : State) : Out :=
  .next (
    match (s.win w).held with
    | h :: l =>
      if !s.trunkOn then s
      else if s.holdOver h && !s.keeper.paused then s.keeperTurn
      else
        let s := s.waitTo (h.heldAt + 100000000)
        let s := s.modWin w (fun x => { x with held := l })
        match verbOf h.req.unit h.req.verb with
        | some v => (s.answer w (s.mkReply v h.req true false stRestarted [])).keeperTurn
        | none => s.keeperTurn
    | [] => s)

/-- The instant at which a deadline passes, from now (R60): now if it has passed. -/
def State.deadlineAt (s : State) (d : Nat) : Nat :=
  if deadlinePassed s.us d then s.hw else (s.hw / 1000 + (d % 2 ^ 32 + 2 ^ 32 - s.us) % 2 ^ 32) * 1000

/-- The smallest of a list of instants. -/
def earliest (l : List Nat) : Option Nat :=
  l.foldl (fun a t => match a with | none => some t | some b => some (min b t)) none

/-- The valve requests of a window that have not started (06 R165), by their deadlines. -/
def State.valveDeadlines (s : State) (w : Nat) : List Nat :=
  (List.range 24).filterMap (fun n => match (s.valve' n).req with
    | some q => if q.op.win = w ∧ q.deadline ≠ 0 then some (s.deadlineAt q.deadline) else none
    | none => none)

/-- Answer the commands of a window whose deadline has passed. -/
def State.deadlineDrop (s : State) (w : Nat) : State :=
  let x := s.win w
  let out (r : Req) : Bool := deadlinePassed s.us r.deadline
  let dead := (x.held.filter (fun h => out h.req)).map (fun h => (h.req, true)) ++ (x.waiting.filter out).map (fun r => (r, false))
  let s := s.modWin w (fun x => { x with held := x.held.filter (fun h => !out h.req), waiting := x.waiting.filter (fun r => !out r) })
  dead.foldl (fun (s : State) e => match verbOf e.1.unit e.1.verb with
    | some v => s.answer w (s.mkReply v e.1 e.2 false stDeadline [])
    | none => s) s

/-- DEADLINE_PASSED (R60, R64, 06 R165): the earliest deadline of a window's held, waiting or deferred commands passes. -/
def execDeadlinePassed (w : Nat) (s : State) : Out :=
  .next (
    if !s.trunkOn then s
    else
      let x := s.win w
      let ds := ((x.held.map (·.req.deadline)) ++ (x.waiting.map (·.deadline))).filter (· ≠ 0)
      match earliest (ds.map s.deadlineAt ++ s.valveDeadlines w) with
      | none => s
      | some t => (((s.waitTo t).deadlineDrop w).valveDeadline w).keeperTurn)

/-- UNIT_READY (R47, R64): a restarted unit, or the new instance of a handover, runs; held commands execute. -/
def execUnitReady (unit inst : Nat) (s : State) : Out :=
  .next (if !unitKnown unit then s else (s.unitReady unit (if unit = 0x42 then inst else 0)).keeperTurn)

/-- After a Keeper pause of `dt` ns the services of its firmware resume (12 R300, 15 R351) and commands are consumed. -/
def State.pauseEnd (s : State) (dt : Nat) : State := (((s.bodyResume dt).tpResume).nmEvalAll).keeperTurn

/-- KEEPER_CUTOVER (19 R426): the new Keeper firmware runs within 35 ms. -/
def execKeeperCutover (s : State) : Out :=
  .next (
    let t := s.keeperCutover
    if s.keeper.paused && !t.keeper.paused then t.pauseEnd (t.hw - s.keeper.pausedAt) else t)

/-- KEEPER_CUTOVER_TIMEOUT (19 R426): at 35 ms the old Keeper resumes. -/
def execKeeperCutoverTimeout (s : State) : Out :=
  .next (
    let t := s.keeperCutoverFail
    if s.keeper.paused && !t.keeper.paused then t.pauseEnd (t.hw - s.keeper.pausedAt) else t)

/-- ROOT_START (18 R395): the image is verified and Root starts; commands held for it execute (R64). -/
def execRootStart (links : List LinkDecl) (s : State) : Out :=
  .next (if s.trunkOn && s.root.phase == .starting && s.power.state != .test then (s.rootStart links).keeperTurn else s)

/-- BOUGH_DIE_FAILURE (01 R36): reason 0 a correctable ECC error, which is counted and retires nothing; 1 lockstep mismatch,
2 uncorrectable ECC error, 3 loss of the link. It ends a Keeper pause of an activation, which it abandons (19 R427), and with it
the holds of an abandoned handover (R64). -/
def execBoughDieFailure (die reason : Nat) (s : State) : Out :=
  .next (if !s.inRun || die ≥ boughs s.variant || s.keeper.retired.contains die || decide (3 < reason) then s
    else if reason = 0 then { s with keeper.eccCount := tmod 0 s.keeper.eccCount die (· + 1) }
    else
      let t := { s with keeper.retired := s.keeper.retired ++ [die] }
      let t := if hasFailover s.variant then t.failover die else t.onlyDieLost die
      if s.keeper.paused && !t.keeper.paused then t.pauseEnd (t.hw - s.keeper.pausedAt) else t.keeperTurn)

/-! ### The clock -/

/-- One cycle of the clock with no command (log entry 9): while the trunk die runs a reflex cycle, by which Heartwood advances by
4 ns (03 R74), and Keeper's turn; while only the Cellar is powered a period of its 32.768 kHz crystal (01 R27, 03 R75). -/
def State.clockTick (s : State) : State :=
  if s.trunkOn then (s.waitTo (s.hw + 4)).keeperTurn
  else if s.power.state == .off then s
  else { s with time.parkPeriods := s.time.parkPeriods + 1 }

end Sys2Proof.Machine
end

