-- ==== Sys2Proof/Machine/Dispatch.lean ====
section
/-! DEFINITION. Machine/Dispatch.lean: one arm per command of the table, each a direct call of its meaning. -/

namespace Sys2Proof.Machine

/-- The meaning of every command: its effect on the state, the queue of waiting commands apart. -/
def exec (i : Instr) (s : State) : Host.Outcome State Fault Refusal :=
  match i with
  | .registerWrite w ofs width value => Sys2Proof.Machine.execRegisterWrite w ofs width value s
  | .cmdProdWrite w value stores => Sys2Proof.Machine.execCmdProdWrite w value stores s
  | .rplConsWrite w value => Sys2Proof.Machine.execRplConsWrite w value s
  | .evtConsWrite w value => Sys2Proof.Machine.execEvtConsWrite w value s
  | .irqStatusW1c w value => Sys2Proof.Machine.execIrqStatusW1c w value s
  | .hostHbWrite w value => Sys2Proof.Machine.execHostHbWrite w value s
  | .hwLoRead w => Sys2Proof.Machine.execHwLoRead w s
  | .snapReqWrite w value => Sys2Proof.Machine.execSnapReqWrite w value s
  | .evtAgeTimeout w => Sys2Proof.Machine.execEvtAgeTimeout w s
  | .keeperNop r => Sys2Proof.Machine.execKeeperNop r s
  | .keeperMode r => Sys2Proof.Machine.execKeeperMode r s
  | .modeBoundary unit fn inst => Sys2Proof.Machine.execModeBoundary unit fn inst s
  | .keeperSigRead r => Sys2Proof.Machine.execKeeperSigRead r s
  | .keeperSigWrite r => Sys2Proof.Machine.execKeeperSigWrite r s
  | .keeperEvtMask r => Sys2Proof.Machine.execKeeperEvtMask r s
  | .holdLimitExpiry w => Sys2Proof.Machine.execHoldLimitExpiry w s
  | .deadlinePassed w => Sys2Proof.Machine.execDeadlinePassed w s
  | .unitRestart unit inst cause => Sys2Proof.Machine.execUnitRestart unit inst cause s
  | .unitReady unit inst => Sys2Proof.Machine.execUnitReady unit inst s
  | .hostDeadlineMiss unit fn inst => Sys2Proof.Machine.execHostDeadlineMiss unit fn inst s
  | .canopyPartitionRestart p => Sys2Proof.Machine.execCanopyPartitionRestart p s
  | .checkpoint => Sys2Proof.Machine.execCheckpoint s
  | .boughDieFailure die reason => Sys2Proof.Machine.execBoughDieFailure die reason s
  | .trunkStart => Sys2Proof.Machine.execTrunkStart s
  | .timeRole r => Sys2Proof.Machine.execTimeRole r s
  | .timePps phase valid gps leap => Sys2Proof.Machine.execTimePps phase valid gps leap s
  | .timePpsAbsent => Sys2Proof.Machine.execTimePpsAbsent s
  | .timeGmLost => Sys2Proof.Machine.execTimeGmLost s
  | .faultHandle => Sys2Proof.Machine.execFaultHandle s
  | .faultStatus r => Sys2Proof.Machine.execFaultStatus r s
  | .faultRaise r => Sys2Proof.Machine.execFaultRaise r s
  | .lossStrikeOnset ch x => Sys2Proof.Machine.execLossStrikeOnset ch x s
  | .lossStrikeEnd ch samples => Sys2Proof.Machine.execLossStrikeEnd ch samples s
  | .lossBinClose => Sys2Proof.Machine.execLossBinClose s
  | .lossSensorTest ch => Sys2Proof.Machine.execLossSensorTest ch s
  | .lossSensorTestEnd ch resp => Sys2Proof.Machine.execLossSensorTestEnd ch resp s
  | .lossStatus r => Sys2Proof.Machine.execLossStatus r s
  | .lossConfig r => Sys2Proof.Machine.execLossConfig r s
  | .lossTemplates r => Sys2Proof.Machine.execLossTemplates r s
  | .lossSnip r => Sys2Proof.Machine.execLossSnip r s
  | .lossHostbuf r => Sys2Proof.Machine.execLossHostbuf r s
  | .lossResult r => Sys2Proof.Machine.execLossResult r s
  | .hostBlockWrite unit loss => Sys2Proof.Machine.execHostBlockWrite unit loss s
  | .bridgeSample samples => Sys2Proof.Machine.execBridgeSample samples s
  | .bridgeExcFault ch cur => Sys2Proof.Machine.execBridgeExcFault ch cur s
  | .bridgeSenseOpen ch cm => Sys2Proof.Machine.execBridgeSenseOpen ch cm s
  | .bridgeOverrange ch => Sys2Proof.Machine.execBridgeOverrange ch s
  | .bridgeConfig r => Sys2Proof.Machine.execBridgeConfig r s
  | .bridgeTare r => Sys2Proof.Machine.execBridgeTare r s
  | .bridgeStatus r => Sys2Proof.Machine.execBridgeStatus r s
  | .bridgeHostbuf r => Sys2Proof.Machine.execBridgeHostbuf r s
  | .bridgeResult r => Sys2Proof.Machine.execBridgeResult r s
  | .ainSample codes sup => Sys2Proof.Machine.execAinSample codes sup s
  | .ainDiag ch => Sys2Proof.Machine.execAinDiag ch s
  | .ainShuntOff ch => Sys2Proof.Machine.execAinShuntOff ch s
  | .ainShuntReconnect ch => Sys2Proof.Machine.execAinShuntReconnect ch s
  | .ainConfig r => Sys2Proof.Machine.execAinConfig r s
  | .ainHostbuf r => Sys2Proof.Machine.execAinHostbuf r s
  | .ainResult r => Sys2Proof.Machine.execAinResult r s
  | .freqEdge ch peak rising both => Sys2Proof.Machine.execFreqEdge ch peak rising both s
  | .freqGateEnd ch => Sys2Proof.Machine.execFreqGateEnd ch s
  | .freqComparatorTimeout ch => Sys2Proof.Machine.execFreqComparatorTimeout ch s
  | .freqWiringCheck ch mv bias => Sys2Proof.Machine.execFreqWiringCheck ch mv bias s
  | .freqConfig r => Sys2Proof.Machine.execFreqConfig r s
  | .freqHostbuf r => Sys2Proof.Machine.execFreqHostbuf r s
  | .freqResult r => Sys2Proof.Machine.execFreqResult r s
  | .supOverload n cur ms => Sys2Proof.Machine.execSupOverload n cur ms s
  | .supBackfed n mv => Sys2Proof.Machine.execSupBackfed n mv s
  | .supRetry n => Sys2Proof.Machine.execSupRetry n s
  | .supRegulationSettled n => Sys2Proof.Machine.execSupRegulationSettled n s
  | .supConfig r => Sys2Proof.Machine.execSupConfig r s
  | .loopSample slot => Sys2Proof.Machine.execLoopSample slot s
  | .missRelease slot delay => Sys2Proof.Machine.execMissRelease slot delay s
  | .stagingDone slot => Sys2Proof.Machine.execStagingDone slot s
  | .ctrlHostRelease slot => Sys2Proof.Machine.execCtrlHostRelease slot s
  | .ctrlStatus r => Sys2Proof.Machine.execCtrlStatus r s
  | .ctrlLoad r => Sys2Proof.Machine.execCtrlLoad r s
  | .ctrlEnable r => Sys2Proof.Machine.execCtrlEnable r s
  | .ctrlDisable r => Sys2Proof.Machine.execCtrlDisable r s
  | .ctrlSetpoint r => Sys2Proof.Machine.execCtrlSetpoint r s
  | .ctrlTrace r => Sys2Proof.Machine.execCtrlTrace r s
  | .ctrlTraceRead r => Sys2Proof.Machine.execCtrlTraceRead r s
  | .ctrlTraceReadDone buf => Sys2Proof.Machine.execCtrlTraceReadDone buf s
  | .ctrlHostbuf r => Sys2Proof.Machine.execCtrlHostbuf r s
  | .ctrlU r => Sys2Proof.Machine.execCtrlU r s
  | .valveStatus r => Sys2Proof.Machine.execValveStatus r s
  | .valveConfig r => Sys2Proof.Machine.execValveConfig r s
  | .valveSet r => Sys2Proof.Machine.execValveSet r s
  | .valveClear r => Sys2Proof.Machine.execValveClear r s
  | .valveDuty r => Sys2Proof.Machine.execValveDuty r s
  | .valveMinoffEnd ch => Sys2Proof.Machine.execValveMinoffEnd ch s
  | .valveSlotGrant b mv => Sys2Proof.Machine.execValveSlotGrant b mv s
  | .valveDeferExpiry ch => Sys2Proof.Machine.execValveDeferExpiry ch s
  | .valveBoostWaitEnd ch mv => Sys2Proof.Machine.execValveBoostWaitEnd ch mv s
  | .valvePeakEnd ch cur => Sys2Proof.Machine.execValvePeakEnd ch cur s
  | .valveDurationEnd ch => Sys2Proof.Machine.execValveDurationEnd ch s
  | .valveBankHsOff b => Sys2Proof.Machine.execValveBankHsOff b s
  | .valveCurrentUpdate currents banks rails => Sys2Proof.Machine.execValveCurrentUpdate currents banks rails s
  | .valveBoostFault c kind mv => Sys2Proof.Machine.execValveBoostFault c kind mv s
  | .valveOpenLoad ch cur mv duty => Sys2Proof.Machine.execValveOpenLoad ch cur mv duty s
  | .valveShortBat ch cur => Sys2Proof.Machine.execValveShortBat ch cur s
  | .valveShortGnd ch mv cur => Sys2Proof.Machine.execValveShortGnd ch mv cur s
  | .valveBankShort b cur mv => Sys2Proof.Machine.execValveBankShort b cur mv s
  | .valveTracking ch => Sys2Proof.Machine.execValveTracking ch s
  | .valveHostPeriod ch cur => Sys2Proof.Machine.execValveHostPeriod ch cur s
  | .gnssEpoch ev => Sys2Proof.Machine.execGnssEpoch ev s
  | .gnssRtcmFrame => Sys2Proof.Machine.execGnssRtcmFrame s
  | .gnssAntOpen inst cur => Sys2Proof.Machine.execGnssAntOpen inst cur s
  | .gnssAntShort inst cur => Sys2Proof.Machine.execGnssAntShort inst cur s
  | .gnssAntRetry inst cur => Sys2Proof.Machine.execGnssAntRetry inst cur s
  | .gnssGuardBurst fix height => Sys2Proof.Machine.execGnssGuardBurst fix height s
  | .gnssGuardReport => Sys2Proof.Machine.execGnssGuardReport s
  | .gnssStatus r => Sys2Proof.Machine.execGnssStatus r s
  | .gnssFix r => Sys2Proof.Machine.execGnssFix r s
  | .gnssConfig r => Sys2Proof.Machine.execGnssConfig r s
  | .gnssAntenna r => Sys2Proof.Machine.execGnssAntenna r s
  | .gnssCorr r => Sys2Proof.Machine.execGnssCorr r s
  | .gnssRtcm r => Sys2Proof.Machine.execGnssRtcm r s
  | .gnssOrigin r => Sys2Proof.Machine.execGnssOrigin r s
  | .gnssLine r => Sys2Proof.Machine.execGnssLine r s
  | .gnssGuard r => Sys2Proof.Machine.execGnssGuard r s
  | .gnssHostbuf r => Sys2Proof.Machine.execGnssHostbuf r s
  | .gnssSolution r => Sys2Proof.Machine.execGnssSolution r s
  | .imuSample vals sat kind moving => Sys2Proof.Machine.execImuSample vals sat kind moving s
  | .imuStatus r => Sys2Proof.Machine.execImuStatus r s
  | .imuConfig r => Sys2Proof.Machine.execImuConfig r s
  | .camFrameSync port => Sys2Proof.Machine.execCamFrameSync port s
  | .camFrameArrival f => Sys2Proof.Machine.execCamFrameArrival f s
  | .camIspOutput port sensor d => Sys2Proof.Machine.execCamIspOutput port sensor d s
  | .camLinkUp port gear => Sys2Proof.Machine.execCamLinkUp port gear s
  | .camLinkLost port => Sys2Proof.Machine.execCamLinkLost port s
  | .camPocOpen port cur => Sys2Proof.Machine.execCamPocOpen port cur s
  | .camPocShort port cur => Sys2Proof.Machine.execCamPocShort port cur s
  | .camPocRetry port cur => Sys2Proof.Machine.execCamPocRetry port cur s
  | .camSensorSilent port sensor periods => Sys2Proof.Machine.execCamSensorSilent port sensor periods s
  | .camBackchDone port cause data => Sys2Proof.Machine.execCamBackchDone port cause data s
  | .camStatus r => Sys2Proof.Machine.execCamStatus r s
  | .camConfig r => Sys2Proof.Machine.execCamConfig r s
  | .camSensor r => Sys2Proof.Machine.execCamSensor r s
  | .camIsp r => Sys2Proof.Machine.execCamIsp r s
  | .camTap r => Sys2Proof.Machine.execCamTap r s
  | .camBackch r => Sys2Proof.Machine.execCamBackch r s
  | .camLamp r => Sys2Proof.Machine.execCamLamp r s
  | .camExposure r => Sys2Proof.Machine.execCamExposure r s
  | .camHostbuf r => Sys2Proof.Machine.execCamHostbuf r s
  | .camLampSet r => Sys2Proof.Machine.execCamLampSet r s
  | .crownSampleArrival kind index out stamp points => Sys2Proof.Machine.execCrownSampleArrival kind index out stamp points s
  | .crownInputClose slot => Sys2Proof.Machine.execCrownInputClose slot s
  | .crownRelease slot d => Sys2Proof.Machine.execCrownRelease slot d s
  | .crownOverrun slot delay d => Sys2Proof.Machine.execCrownOverrun slot delay d s
  | .crownStatus r => Sys2Proof.Machine.execCrownStatus r s
  | .crownModel r => Sys2Proof.Machine.execCrownModel r s
  | .crownLoad r => Sys2Proof.Machine.execCrownLoad r s
  | .crownBind r => Sys2Proof.Machine.execCrownBind r s
  | .crownCalib r => Sys2Proof.Machine.execCrownCalib r s
  | .crownOutbuf r => Sys2Proof.Machine.execCrownOutbuf r s
  | .crownStart r => Sys2Proof.Machine.execCrownStart r s
  | .crownStop r => Sys2Proof.Machine.execCrownStop r s
  | .crownHostbuf r => Sys2Proof.Machine.execCrownHostbuf r s
  | .crownResult r => Sys2Proof.Machine.execCrownResult r s
  | .granaryPeriod => Sys2Proof.Machine.execGranaryPeriod s
  | .granaryTileWrite => Sys2Proof.Machine.execGranaryTileWrite s
  | .granaryFileClosed => Sys2Proof.Machine.execGranaryFileClosed s
  | .granaryStatus r => Sys2Proof.Machine.execGranaryStatus r s
  | .granaryConfig r => Sys2Proof.Machine.execGranaryConfig r s
  | .granarySections r => Sys2Proof.Machine.execGranarySections r s
  | .granaryCalib r => Sys2Proof.Machine.execGranaryCalib r s
  | .granaryOpen r => Sys2Proof.Machine.execGranaryOpen r s
  | .granaryClose r => Sys2Proof.Machine.execGranaryClose r s
  | .granaryCorrect r => Sys2Proof.Machine.execGranaryCorrect r s
  | .granaryHostbuf r => Sys2Proof.Machine.execGranaryHostbuf r s
  | .granaryResult r => Sys2Proof.Machine.execGranaryResult r s
  | .outStatus r => Sys2Proof.Machine.execOutStatus r s
  | .outConfig r => Sys2Proof.Machine.execOutConfig r s
  | .outSet r => Sys2Proof.Machine.execOutSet r s
  | .outClear r => Sys2Proof.Machine.execOutClear r s
  | .outParkhold r => Sys2Proof.Machine.execOutParkhold r s
  | .outPwmPeriod o => Sys2Proof.Machine.execOutPwmPeriod o s
  | .outInrushWindowEnd o => Sys2Proof.Machine.execOutInrushWindowEnd o s
  | .outLatched o peak => Sys2Proof.Machine.execOutLatched o peak s
  | .outCurrentUpdate samples => Sys2Proof.Machine.execOutCurrentUpdate samples s
  | .outDieSample temps curs => Sys2Proof.Machine.execOutDieSample temps curs s
  | .outRetryPwmPhase o => Sys2Proof.Machine.execOutRetryPwmPhase o s
  | .outGroupShutdown g temp => Sys2Proof.Machine.execOutGroupShutdown g temp s
  | .outClampEnd o energy => Sys2Proof.Machine.execOutClampEnd o energy s
  | .outClampExpire o => Sys2Proof.Machine.execOutClampExpire o s
  | .outOpenLoad o cur mv => Sys2Proof.Machine.execOutOpenLoad o cur mv s
  | .outShortBat o mv => Sys2Proof.Machine.execOutShortBat o mv s
  | .outDiagEnd o kind => Sys2Proof.Machine.execOutDiagEnd o kind s
  | .outTestDue o => Sys2Proof.Machine.execOutTestDue o s
  | .outTestReadback o mv => Sys2Proof.Machine.execOutTestReadback o mv s
  | .outParkPatternEdge slot => Sys2Proof.Machine.execOutParkPatternEdge slot s
  | .outParkTimeLimit slot => Sys2Proof.Machine.execOutParkTimeLimit slot s
  | .outParkTrip slot cause => Sys2Proof.Machine.execOutParkTrip slot cause s
  | .hbStatus r => Sys2Proof.Machine.execHbStatus r s
  | .hbConfig r => Sys2Proof.Machine.execHbConfig r s
  | .hbDrive r => Sys2Proof.Machine.execHbDrive r s
  | .hbClear r => Sys2Proof.Machine.execHbClear r s
  | .hbPosition r => Sys2Proof.Machine.execHbPosition r s
  | .hbRipple n cur => Sys2Proof.Machine.execHbRipple n cur s
  | .hbPinchReverse n => Sys2Proof.Machine.execHbPinchReverse n s
  | .hbPinchTimeout n => Sys2Proof.Machine.execHbPinchTimeout n s
  | .hbShort n cur => Sys2Proof.Machine.execHbShort n cur s
  | .hbStall n cur ms => Sys2Proof.Machine.execHbStall n cur ms s
  | .hbThermal n temp => Sys2Proof.Machine.execHbThermal n temp s
  | .hbTimeLimit n => Sys2Proof.Machine.execHbTimeLimit n s
  | .hbReversalBrakeEnd n => Sys2Proof.Machine.execHbReversalBrakeEnd n s
  | .hbCurrentUpdate samples => Sys2Proof.Machine.execHbCurrentUpdate samples s
  | .swinSample mv => Sys2Proof.Machine.execSwinSample mv s
  | .swinWakeStuck n => Sys2Proof.Machine.execSwinWakeStuck n s
  | .swinParkCheck mv => Sys2Proof.Machine.execSwinParkCheck mv s
  | .swinConfig r => Sys2Proof.Machine.execSwinConfig r s
  | .swinRead r => Sys2Proof.Machine.execSwinRead r s
  | .linSlot ch f => Sys2Proof.Machine.execLinSlot ch f s
  | .linWakePulse ch us => Sys2Proof.Machine.execLinWakePulse ch us s
  | .linResume ch => Sys2Proof.Machine.execLinResume ch s
  | .linBusFault ch cause ms => Sys2Proof.Machine.execLinBusFault ch cause ms s
  | .linRetry ch => Sys2Proof.Machine.execLinRetry ch s
  | .linStatus r => Sys2Proof.Machine.execLinStatus r s
  | .linRead r => Sys2Proof.Machine.execLinRead r s
  | .linConfig r => Sys2Proof.Machine.execLinConfig r s
  | .linTable r => Sys2Proof.Machine.execLinTable r s
  | .linSchedule r => Sys2Proof.Machine.execLinSchedule r s
  | .linWrite r => Sys2Proof.Machine.execLinWrite r s
  | .linSleep r => Sys2Proof.Machine.execLinSleep r s
  | .bodyConfig r => Sys2Proof.Machine.execBodyConfig r s
  | .bodyStatus r => Sys2Proof.Machine.execBodyStatus r s
  | .bodyRequest r => Sys2Proof.Machine.execBodyRequest r s
  | .bodyHostbuf r => Sys2Proof.Machine.execBodyHostbuf r s
  | .bodyResult r => Sys2Proof.Machine.execBodyResult r s
  | .bodyFlashPhase inst side => Sys2Proof.Machine.execBodyFlashPhase inst side s
  | .bodyWiperParkSwitch inst => Sys2Proof.Machine.execBodyWiperParkSwitch inst s
  | .bodyWiperStall inst => Sys2Proof.Machine.execBodyWiperStall inst s
  | .bodyWiperInterval inst => Sys2Proof.Machine.execBodyWiperInterval inst s
  | .bodyWiperChangeover inst => Sys2Proof.Machine.execBodyWiperChangeover inst s
  | .bodyLockPulseEnd inst => Sys2Proof.Machine.execBodyLockPulseEnd inst s
  | .bodyLockInhibitEnd inst => Sys2Proof.Machine.execBodyLockInhibitEnd inst s
  | .bodyAutoUpInhibitEnd inst => Sys2Proof.Machine.execBodyAutoUpInhibitEnd inst s
  | .bodyMaxOn inst => Sys2Proof.Machine.execBodyMaxOn inst s
  | .bodyDelayOff inst => Sys2Proof.Machine.execBodyDelayOff inst s
  | .bodyHostPeriod => Sys2Proof.Machine.execBodyHostPeriod s
  | .fanPwmPeriod n cur => Sys2Proof.Machine.execFanPwmPeriod n cur s
  | .fanTachEdge n => Sys2Proof.Machine.execFanTachEdge n s
  | .fanStretch n => Sys2Proof.Machine.execFanStretch n s
  | .fanStretchMax n => Sys2Proof.Machine.execFanStretchMax n s
  | .fanKickTimeout n cur => Sys2Proof.Machine.execFanKickTimeout n cur s
  | .fanRetry n => Sys2Proof.Machine.execFanRetry n s
  | .fanTachTimeout n cur => Sys2Proof.Machine.execFanTachTimeout n cur s
  | .fanHeartbeatMissing n host => Sys2Proof.Machine.execFanHeartbeatMissing n host s
  | .fanStatus r => Sys2Proof.Machine.execFanStatus r s
  | .fanConfig r => Sys2Proof.Machine.execFanConfig r s
  | .fanTable r => Sys2Proof.Machine.execFanTable r s
  | .fanSet r => Sys2Proof.Machine.execFanSet r s
  | .fanClear r => Sys2Proof.Machine.execFanClear r s
  | .fanResult r => Sys2Proof.Machine.execFanResult r s
  | .plateStatus r => Sys2Proof.Machine.execPlateStatus r s
  | .plateConfig r => Sys2Proof.Machine.execPlateConfig r s
  | .plateWaveform r => Sys2Proof.Machine.execPlateWaveform r s
  | .plateUpdate r => Sys2Proof.Machine.execPlateUpdate r s
  | .platePark r => Sys2Proof.Machine.execPlatePark r s
  | .plateFrameStart => Sys2Proof.Machine.execPlateFrameStart s
  | .plateFrameDone => Sys2Proof.Machine.execPlateFrameDone s
  | .plateBusyTimeout => Sys2Proof.Machine.execPlateBusyTimeout s
  | .plateRailFault rail mv => Sys2Proof.Machine.execPlateRailFault rail mv s
  | .plateDone => Sys2Proof.Machine.execPlateDone s
  | .canFrameRx f => Sys2Proof.Machine.execCanFrameRx f s
  | .canTpTimeout ch k => Sys2Proof.Machine.execCanTpTimeout ch k s
  | .canHpHoldExpiry ch k => Sys2Proof.Machine.execCanHpHoldExpiry ch k s
  | .canSignalTimeout idx => Sys2Proof.Machine.execCanSignalTimeout idx s
  | .canQueueNotifyAge ch q => Sys2Proof.Machine.execCanQueueNotifyAge ch q s
  | .canTxPeriodic idx => Sys2Proof.Machine.execCanTxPeriodic idx s
  | .canTxOnChange idx => Sys2Proof.Machine.execCanTxOnChange idx s
  | .canTxComplete ch outcome ago => Sys2Proof.Machine.execCanTxComplete ch outcome ago s
  | .canBusRecovered ch => Sys2Proof.Machine.execCanBusRecovered ch s
  | .canRejoin ch => Sys2Proof.Machine.execCanRejoin ch s
  | .canTxdDominant ch us => Sys2Proof.Machine.execCanTxdDominant ch us s
  | .canPantryCommit => Sys2Proof.Machine.execCanPantryCommit s
  | .canBasicCycle ch => Sys2Proof.Machine.execCanBasicCycle ch s
  | .canBackupReference ch => Sys2Proof.Machine.execCanBackupReference ch s
  | .canScheduleLost ch => Sys2Proof.Machine.execCanScheduleLost ch s
  | .canSlotWindow idx => Sys2Proof.Machine.execCanSlotWindow idx s
  | .canRouteHoldTimeout ch => Sys2Proof.Machine.execCanRouteHoldTimeout ch s
  | .canStatus r => Sys2Proof.Machine.execCanStatus r s
  | .canHpRead r => Sys2Proof.Machine.execCanHpRead r s
  | .canTxStatus r => Sys2Proof.Machine.execCanTxStatus r s
  | .canConfig r => Sys2Proof.Machine.execCanConfig r s
  | .canPantry r => Sys2Proof.Machine.execCanPantry r s
  | .canQueue r => Sys2Proof.Machine.execCanQueue r s
  | .canSchedule r => Sys2Proof.Machine.execCanSchedule r s
  | .canRecover r => Sys2Proof.Machine.execCanRecover r s
  | .canSend r => Sys2Proof.Machine.execCanSend r s
  | .canTp r => Sys2Proof.Machine.execCanTp r s
  | .canTpSend r => Sys2Proof.Machine.execCanTpSend r s
  | .ethFrameRx f => Sys2Proof.Machine.execEthFrameRx f s
  | .ethLidarFragment stream payload => Sys2Proof.Machine.execEthLidarFragment stream payload s
  | .ethLidarTimeout stream => Sys2Proof.Machine.execEthLidarTimeout stream s
  | .ethSignalDatagram payload ago => Sys2Proof.Machine.execEthSignalDatagram payload ago s
  | .ethSigportTimeout id => Sys2Proof.Machine.execEthSigportTimeout id s
  | .ethHostringTx w prod => Sys2Proof.Machine.execEthHostringTx w prod s
  | .ethGateCycle port => Sys2Proof.Machine.execEthGateCycle port s
  | .ethLinkUp port speed quality delay => Sys2Proof.Machine.execEthLinkUp port speed quality delay s
  | .ethLinkDown port => Sys2Proof.Machine.execEthLinkDown port s
  | .ethStatus r => Sys2Proof.Machine.execEthStatus r s
  | .ethConfig r => Sys2Proof.Machine.execEthConfig r s
  | .ethGates r => Sys2Proof.Machine.execEthGates r s
  | .ethLidar r => Sys2Proof.Machine.execEthLidar r s
  | .ethSigport r => Sys2Proof.Machine.execEthSigport r s
  | .ethHostring r => Sys2Proof.Machine.execEthHostring r s
  | .nmRingMessage n sender data => Sys2Proof.Machine.execNmRingMessage n sender data s
  | .nmRingSend n => Sys2Proof.Machine.execNmRingSend n s
  | .nmRingTimeout n => Sys2Proof.Machine.execNmRingTimeout n s
  | .nmWakeInGap n => Sys2Proof.Machine.execNmWakeInGap n s
  | .nmGapEnd n => Sys2Proof.Machine.execNmGapEnd n s
  | .nmTc10AckTimeout n refused => Sys2Proof.Machine.execNmTc10AckTimeout n refused s
  | .nmSleepBlocked n => Sys2Proof.Machine.execNmSleepBlocked n s
  | .canTransceiverWake ch kind id data => Sys2Proof.Machine.execCanTransceiverWake ch kind id data s
  | .tc10Wake port => Sys2Proof.Machine.execTc10Wake port s
  | .nmStatus r => Sys2Proof.Machine.execNmStatus r s
  | .nmWakeCause r => Sys2Proof.Machine.execNmWakeCause r s
  | .nmConfig r => Sys2Proof.Machine.execNmConfig r s
  | .nmRequest r => Sys2Proof.Machine.execNmRequest r s
  | .nmCanwake r => Sys2Proof.Machine.execNmCanwake r s
  | .wdKeyWrite value => Sys2Proof.Machine.execWdKeyWrite value s
  | .wdCfgWrite value => Sys2Proof.Machine.execWdCfgWrite value s
  | .rootWdTimeout => Sys2Proof.Machine.execRootWdTimeout s
  | .safeoffWrite value => Sys2Proof.Machine.execSafeoffWrite value s
  | .cellarHoldRelease value => Sys2Proof.Machine.execCellarHoldRelease value s
  | .flagsSetWrite value => Sys2Proof.Machine.execFlagsSetWrite value s
  | .flagsClrWrite value => Sys2Proof.Machine.execFlagsClrWrite value s
  | .taggedOffRelease => Sys2Proof.Machine.execTaggedOffRelease s
  | .rootStopWrite => Sys2Proof.Machine.execRootStopWrite s
  | .stuckW1c word value => Sys2Proof.Machine.execStuckW1c word value s
  | .ruleRecordWrite rule word value => Sys2Proof.Machine.execRuleRecordWrite rule word value s
  | .ruleEnWrite word value => Sys2Proof.Machine.execRuleEnWrite word value s
  | .reflexRuleChange => Sys2Proof.Machine.execReflexRuleChange s
  | .rootFault cause => Sys2Proof.Machine.execRootFault cause s
  | .rootStart links => Sys2Proof.Machine.execRootStart links s
  | .monitorTrip bit => Sys2Proof.Machine.execMonitorTrip bit s
  | .monitorReturn bit => Sys2Proof.Machine.execMonitorReturn bit s
  | .keeperHbTick => Sys2Proof.Machine.execKeeperHbTick s
  | .rootLinkMessage conn msg at_ => Sys2Proof.Machine.execRootLinkMessage conn msg at_ s
  | .rootLinkTimeout conn => Sys2Proof.Machine.execRootLinkTimeout conn s
  | .rootLinkTx conn data => Sys2Proof.Machine.execRootLinkTx conn data s
  | .rootLinkRearm conn => Sys2Proof.Machine.execRootLinkRearm conn s
  | .rootStatus r => Sys2Proof.Machine.execRootStatus r s
  | .rootLinkStatus r => Sys2Proof.Machine.execRootLinkStatus r s
  | .rootRestart r => Sys2Proof.Machine.execRootRestart r s
  | .reflexStatus r => Sys2Proof.Machine.execReflexStatus r s
  | .graftStatus r => Sys2Proof.Machine.execGraftStatus r s
  | .graftMissing r => Sys2Proof.Machine.execGraftMissing r s
  | .graftOpen r => Sys2Proof.Machine.execGraftOpen r s
  | .graftPiece r => Sys2Proof.Machine.execGraftPiece r s
  | .graftInstalled => Sys2Proof.Machine.execGraftInstalled s
  | .graftDiscard r => Sys2Proof.Machine.execGraftDiscard r s
  | .graftActivate r => Sys2Proof.Machine.execGraftActivate r s
  | .graftHashDone => Sys2Proof.Machine.execGraftHashDone s
  | .graftHandoverNotice => Sys2Proof.Machine.execGraftHandoverNotice s
  | .graftYield r => Sys2Proof.Machine.execGraftYield r s
  | .graftTake r => Sys2Proof.Machine.execGraftTake r s
  | .graftReadyTimeout => Sys2Proof.Machine.execGraftReadyTimeout s
  | .graftYieldTimeout => Sys2Proof.Machine.execGraftYieldTimeout s
  | .graftTakeTimeout => Sys2Proof.Machine.execGraftTakeTimeout s
  | .rootCutover => Sys2Proof.Machine.execRootCutover s
  | .keeperCutover => Sys2Proof.Machine.execKeeperCutover s
  | .keeperCutoverTimeout => Sys2Proof.Machine.execKeeperCutoverTimeout s
  | .graftConfirm r => Sys2Proof.Machine.execGraftConfirm r s
  | .graftConfirmDue => Sys2Proof.Machine.execGraftConfirmDue s
  | .graftTrialCountWrite => Sys2Proof.Machine.execGraftTrialCountWrite s
  | .graftConfirmTimeout => Sys2Proof.Machine.execGraftConfirmTimeout s
  | .graftFallbackCmd r => Sys2Proof.Machine.execGraftFallbackCmd r s
  | .graftBootTimeout => Sys2Proof.Machine.execGraftBootTimeout s
  | .graftFallbackDone => Sys2Proof.Machine.execGraftFallbackDone s
  | .atticStatus r => Sys2Proof.Machine.execAtticStatus r s
  | .atticList r => Sys2Proof.Machine.execAtticList r s
  | .atticRead r => Sys2Proof.Machine.execAtticRead r s
  | .atticWrite r => Sys2Proof.Machine.execAtticWrite r s
  | .atticDelete r => Sys2Proof.Machine.execAtticDelete r s
  | .atticDone index => Sys2Proof.Machine.execAtticDone index s
  | .atticTempSample temp => Sys2Proof.Machine.execAtticTempSample temp s
  | .atticStageLost => Sys2Proof.Machine.execAtticStageLost s
  | .keptConfigWrite => Sys2Proof.Machine.execKeptConfigWrite s
  | .larderBufferFlush => Sys2Proof.Machine.execLarderBufferFlush s
  | .larderStatus r => Sys2Proof.Machine.execLarderStatus r s
  | .larderRead r => Sys2Proof.Machine.execLarderRead r s
  | .larderReadDone => Sys2Proof.Machine.execLarderReadDone s
  | .larderChallenge r => Sys2Proof.Machine.execLarderChallenge r s
  | .larderClear r => Sys2Proof.Machine.execLarderClear r s
  | .larderCleared => Sys2Proof.Machine.execLarderCleared s
  | .larderClearLockEnd => Sys2Proof.Machine.execLarderClearLockEnd s
  | .cellarStart a b c => Sys2Proof.Machine.execCellarStart a b c s
  | .parkWake cause detail => Sys2Proof.Machine.execParkWake cause detail s
  | .ignChange ign key => Sys2Proof.Machine.execIgnChange ign key s
  | .graceEnd => Sys2Proof.Machine.execGraceEnd s
  | .parkEntryStart => Sys2Proof.Machine.execParkEntryStart s
  | .parkWait => Sys2Proof.Machine.execParkWait s
  | .parkStepDone => Sys2Proof.Machine.execParkStepDone s
  | .powerDownLatch => Sys2Proof.Machine.execPowerDownLatch s
  | .supplyLoss mv => Sys2Proof.Machine.execSupplyLoss mv s
  | .supplyReturn mv => Sys2Proof.Machine.execSupplyReturn mv s
  | .cellarHoldExpiry => Sys2Proof.Machine.execCellarHoldExpiry s
  | .studLow stud mv gnd => Sys2Proof.Machine.execStudLow stud mv gnd s
  | .powerUndervolt stud mv ms => Sys2Proof.Machine.execPowerUndervolt stud mv ms s
  | .powerOvervolt stud mv ms => Sys2Proof.Machine.execPowerOvervolt stud mv ms s
  | .overvoltEnd stud mv => Sys2Proof.Machine.execOvervoltEnd stud mv s
  | .powerReverse stud mv => Sys2Proof.Machine.execPowerReverse stud mv s
  | .powerStatus r => Sys2Proof.Machine.execPowerStatus r s
  | .powerConfig r => Sys2Proof.Machine.execPowerConfig r s
  | .powerRequest r => Sys2Proof.Machine.execPowerRequest r s
  | .powerRun r => Sys2Proof.Machine.execPowerRun r s
  | .thermalSample sensor temp => Sys2Proof.Machine.execThermalSample sensor temp s
  | .throttleStepDown die => Sys2Proof.Machine.execThrottleStepDown die s
  | .thermalStatus r => Sys2Proof.Machine.execThermalStatus r s
  | .extest cells pins => Sys2Proof.Machine.execExtest cells pins s
  | .idcode => Sys2Proof.Machine.execIdcode s
  | .samplePreload cells pins => Sys2Proof.Machine.execSamplePreload cells pins s
  | .highz => Sys2Proof.Machine.execHighz s
  | .clamp => Sys2Proof.Machine.execClamp s
  | .bypass => Sys2Proof.Machine.execBypass s
  | .testLogicReset => Sys2Proof.Machine.execTestLogicReset s
  | .testkeyTied => Sys2Proof.Machine.execTestkeyTied s
  | .consoleRx char => Sys2Proof.Machine.execConsoleRx char s
  | .studReturn stud mv gnd => Sys2Proof.Machine.execStudReturn stud mv gnd s
  | .undervoltEnd stud mv => Sys2Proof.Machine.execUndervoltEnd stud mv s
  | .powerReverseEnd stud mv => Sys2Proof.Machine.execPowerReverseEnd stud mv s
  | .hbThermalEnd n temp => Sys2Proof.Machine.execHbThermalEnd n temp s
  | .gnssAntOpenEnd inst cur => Sys2Proof.Machine.execGnssAntOpenEnd inst cur s
  | .camPocOpenEnd port cur => Sys2Proof.Machine.execCamPocOpenEnd port cur s
  | .canBusError ch inc => Sys2Proof.Machine.execCanBusError ch inc s
  | .canTpBamPacket ch k => Sys2Proof.Machine.execCanTpBamPacket ch k s
  | .canopyPartitionStart p => Sys2Proof.Machine.execCanopyPartitionStart p s
  | .testkeyUntied => Sys2Proof.Machine.execTestkeyUntied s

end Sys2Proof.Machine
end

