-- ==== Sys2Proof/Safety.lean ====
section
/-! DEFINITION. Safety.lean: what counts as a safe step and a sound state, in the terms the statements use. -/

namespace Sys2Proof.Machine

/-- The step ends neither in a fault nor in a refusal. -/
def SafeStep (s : State) : Prop := ∃ t, step s = .next t

/-- The ring indices of a window keep their rule (02 R48, R54, R56, R69): 16-bit counters, at most 64 slots unconsumed, at most
64 replies and 256 events unread. -/
def Window.indicesOk (x : Window) : Bool :=
  decide (x.cmdProd < 65536) && decide (x.cmdCons < 65536) && decide (x.rplProd < 65536) && decide (x.rplCons < 65536) &&
    decide (x.evtProd < 65536) && decide (x.evtCons < 65536) && decide (x.backlog ≤ 64) &&
    decide ((x.rplProd + 65536 - x.rplCons) % 65536 ≤ 64) && decide (x.unread ≤ 256)

/-- Two states hold the same part: variant, housing and serial number (00 R3), which no command of the block can change. -/
def SamePart (s t : State) : Prop := t.part = s.part

/-- The pieces of the state, one a field of `State`. -/
inductive Piece where
  | part | keeper | time | faults | signals | sensing | ctrl | valve | gnss | imu | cam
  | crown | granary | outs | swin | body | fans | plate | can | eth | nm | root
  | graft | attic | larder | power | thermal | jtag | kept | keptDirty | keptAt | free | pending
  deriving DecidableEq, Repr

/-- The number of a piece: its place in `State`. -/
def Piece.ix (p : Piece) : Nat := p.ctorIdx

/-- The mask of some pieces. -/
def pieces (l : List Piece) : Nat := l.foldl (fun m p => m ||| 2 ^ p.ix) 0

/-- The state with the pieces of a mask put out of sight. -/
def State.without (s : State) (m : Nat) : State :=
  { part := if m.testBit 0 then Part.reset else s.part,
    keeper := if m.testBit 1 then Keeper.reset else s.keeper,
    time := if m.testBit 2 then Time.reset else s.time,
    faults := if m.testBit 3 then Faults.reset else s.faults,
    signals := if m.testBit 4 then [] else s.signals,
    sensing := if m.testBit 5 then Sensing.reset else s.sensing,
    ctrl := if m.testBit 6 then Ctrl.reset else s.ctrl,
    valve := if m.testBit 7 then Valve.reset else s.valve,
    gnss := if m.testBit 8 then Gnss.reset else s.gnss,
    imu := if m.testBit 9 then Imu.reset else s.imu,
    cam := if m.testBit 10 then Cam.reset else s.cam,
    crown := if m.testBit 11 then Crown.reset else s.crown,
    granary := if m.testBit 12 then Granary.reset else s.granary,
    outs := if m.testBit 13 then Outs.reset else s.outs,
    swin := if m.testBit 14 then Swin.reset else s.swin,
    body := if m.testBit 15 then Body.reset else s.body,
    fans := if m.testBit 16 then [] else s.fans,
    plate := if m.testBit 17 then Plate.reset else s.plate,
    can := if m.testBit 18 then Can.reset else s.can,
    eth := if m.testBit 19 then Eth.reset else s.eth,
    nm := if m.testBit 20 then Nm.reset else s.nm,
    root := if m.testBit 21 then Root.reset else s.root,
    graft := if m.testBit 22 then Graft.reset else s.graft,
    attic := if m.testBit 23 then Attic.reset else s.attic,
    larder := if m.testBit 24 then Larder.reset else s.larder,
    power := if m.testBit 25 then Power.reset else s.power,
    thermal := if m.testBit 26 then Thermal.reset else s.thermal,
    jtag := if m.testBit 27 then Jtag.reset else s.jtag,
    kept := if m.testBit 28 then none else s.kept,
    keptDirty := if m.testBit 29 then none else s.keptDirty,
    keptAt := if m.testBit 30 then none else s.keptAt,
    free := if m.testBit 31 then 0 else s.free,
    pending := if m.testBit 32 then [] else s.pending }

/-- Outside some pieces two states are the same: what a command that may change those pieces leaves alone. -/
def SameBut (l : List Piece) (s t : State) : Prop := t.without (pieces l) = s.without (pieces l)

/-- The fault manager marks the fault's condition as standing (03 R97). -/
def State.stands (s : State) (code unit inst : Nat) : Bool :=
  s.faults.active.any (fun f => f.code == code && f.unit == unit && f.inst == inst)

/-! ### A mailbox command that Keeper executes at once -/

/-- A request under the verb's own unit and verb numbers. -/
def Verb.req (v : Verb) (r : Req) : Req := { r with unit := v.unit, verb := v.verb }

/-- The partition's stores are made and its slot is written. -/
def State.written (s : State) (v : Verb) (r : Req) : State :=
  (s.stores r.win r.stores).modWin r.win (fun x => x.putSlot (v.req r))

/-- Keeper has consumed the slot of a request (02 R54 step 4): the state in which it is checked. -/
def State.consumed (s : State) (v : Verb) (r : Req) : State :=
  (s.written v r).modWin r.win (fun x => { x with cmdCons := (x.cmdCons + 1) % 65536 })

/-- The state that the unit's effect starts from: the slot consumed, the unit's clock ungated (01 R19). -/
def State.offered (s : State) (v : Verb) (r : Req) : State := (s.consumed v r).ungate v.unit r.inst

/-- A request is executed at once: its window is live with no earlier slot unconsumed and a reply slot left (02 R56), it need
not wait (02 R58) and is no re-issued one (01 R39), and no check of 02 R59 fails. -/
def State.serves (s : State) (v : Verb) (r : Req) : Bool :=
  s.live r.win && decide ((s.win r.win).backlog = 0) && decide (((s.stores r.win r.stores).win r.win).backlog = 0) &&
    (s.stores r.win r.stores).keeperServes r.win &&
    !(s.consumed v r).mustWait ((s.consumed v r).win r.win).waiting (v.req r) &&
    ((s.consumed v r).recorded (v.req r)).isNone && ((s.consumed v r).check v (v.req r)).isNone

/-- The unit's effect `u` is done; a unit that the command disabled has its clock gated again (01 R19). -/
def State.settled (u s : State) (v : Verb) (r : Req) : State := (s.consumed v r).gateIdle u v.unit r.inst

/-- The unit's effect `u` on `s` is done and the final reply is posted (02 R54 step 6), recorded first for 01 R39. -/
def State.replied (u s : State) (v : Verb) (r : Req) (st : Nat) (payload : List Byte) : State :=
  let z := u.settled s v r
  let y := z.mkReply v (v.req r) false false st payload
  (z.recordReply (v.req r) y).answer r.win y

end Sys2Proof.Machine
end

