-- ==== Sys2Proof/WellFormed.lean ====
section
/-! DEFINITION. WellFormed.lean: which operands a command of the table can have: a mailbox command is one that a 128-byte slot
can spell (02 R51), a register access lies in the window (02 R42), an instance lies inside its unit's numbering (02 R53). The
meanings are total all the same: a command that is not well-formed has the effect the spec's checks give it, or none. -/

namespace Sys2Proof

/-- A window: Root, a Canopy partition, or a preparation window (02 R42, 19 R424). -/
def winOk (w : Nat) : Bool := w == 0 || (decide (0x10 ≤ w) && decide (w < 0x20)) || (decide (0x110 ≤ w) && decide (w < 0x120))

/-- A 32-bit word (02 R43). -/
def wordOk (v : Nat) : Bool := decide (v < 2 ^ 32)

/-- A 64-bit word. -/
def dwordOk (v : Nat) : Bool := decide (v < 2 ^ 64)

/-- An instance below the number fitted or numbered. -/
def below (n i : Nat) : Bool := decide (i < n)

/-- A store into a region: one of the 64 descriptors, inside the largest region (02 R72). -/
def storeOk (t : Store) : Bool := below 64 t.1 && decide (t.2.1 + t.2.2.length ≤ 2 ^ 24)

/-- A command that a slot can spell (02 R51): every header field in its width, LENGTH in eight bits. -/
def reqOkFields (r : Req) : Bool :=
  winOk r.win && wordOk r.tag && below 256 r.flags && below 256 r.unit && below 256 r.verb && below 65536 r.inst && below 16 r.cls &&
    below 4096 r.genLow && wordOk r.deadline && below 256 r.payload.length && r.stores.all storeOk

/-- An offset of the window, or of the Root control block in Root's address space, and an access width (02 R42, R43, 18 R389). -/
def accessOk (w ofs width : Nat) : Bool :=
  (below 65536 ofs || (w == 0 && decide (0x40000000 ≤ ofs) && decide (ofs < 0x40001000))) &&
    (width == 8 || width == 16 || width == 32 || width == 64)

/-- The command's operands are such as the table's row can have. -/
def WellFormed (i : Instr) : Bool :=
  match i with
  | .registerWrite w ofs width value => winOk w && accessOk w ofs width && dwordOk value
  | .cmdProdWrite w value stores => winOk w && wordOk value && stores.all storeOk
  | .rplConsWrite w value => winOk w && wordOk value
  | .evtConsWrite w value => winOk w && wordOk value
  | .irqStatusW1c w value => winOk w && wordOk value
  | .hostHbWrite w value => winOk w && wordOk value
  | .hwLoRead w => winOk w
  | .snapReqWrite w value => winOk w && wordOk value
  | .evtAgeTimeout w => winOk w
  | .keeperNop r => reqOkFields r
  | .keeperMode r => reqOkFields r
  | .modeBoundary unit _ inst => below 256 unit && below 65536 inst
  | .keeperSigRead r => reqOkFields r
  | .keeperSigWrite r => reqOkFields r
  | .keeperEvtMask r => reqOkFields r
  | .holdLimitExpiry w => winOk w
  | .deadlinePassed w => winOk w
  | .unitRestart unit inst _ => below 256 unit && below 65536 inst
  | .unitReady unit inst => below 256 unit && below 65536 inst
  | .hostDeadlineMiss unit _ inst => below 256 unit && below 65536 inst
  | .canopyPartitionRestart p => below 16 p
  | .checkpoint => true
  | .boughDieFailure die _ => below 7 die
  | .trunkStart => true
  | .timeRole r => reqOkFields r
  | .timePps _ _ _ _ => true
  | .timePpsAbsent => true
  | .timeGmLost => true
  | .faultHandle => true
  | .faultStatus r => reqOkFields r
  | .faultRaise r => reqOkFields r
  | .lossStrikeOnset ch _ => below 24 ch
  | .lossStrikeEnd ch _ => below 24 ch
  | .lossBinClose => true
  | .lossSensorTest ch => below 24 ch
  | .lossSensorTestEnd ch _ => below 24 ch
  | .lossStatus r => reqOkFields r
  | .lossConfig r => reqOkFields r
  | .lossTemplates r => reqOkFields r
  | .lossSnip r => reqOkFields r
  | .lossHostbuf r => reqOkFields r
  | .lossResult r => reqOkFields r
  | .hostBlockWrite unit _ => below 256 unit
  | .bridgeSample _ => true
  | .bridgeExcFault ch _ => below 8 ch
  | .bridgeSenseOpen ch _ => below 8 ch
  | .bridgeOverrange ch => below 8 ch
  | .bridgeConfig r => reqOkFields r
  | .bridgeTare r => reqOkFields r
  | .bridgeStatus r => reqOkFields r
  | .bridgeHostbuf r => reqOkFields r
  | .bridgeResult r => reqOkFields r
  | .ainSample _ _ => true
  | .ainDiag ch => below 48 ch
  | .ainShuntOff ch => below 48 ch
  | .ainShuntReconnect ch => below 48 ch
  | .ainConfig r => reqOkFields r
  | .ainHostbuf r => reqOkFields r
  | .ainResult r => reqOkFields r
  | .freqEdge ch _ _ _ => below 16 ch
  | .freqGateEnd ch => below 16 ch
  | .freqComparatorTimeout ch => below 16 ch
  | .freqWiringCheck ch _ _ => below 16 ch
  | .freqConfig r => reqOkFields r
  | .freqHostbuf r => reqOkFields r
  | .freqResult r => reqOkFields r
  | .supOverload n _ _ => below 6 n
  | .supBackfed n _ => below 6 n
  | .supRetry n => below 6 n
  | .supRegulationSettled n => below 6 n
  | .supConfig r => reqOkFields r
  | .loopSample slot => below 64 slot
  | .missRelease slot _ => below 64 slot
  | .stagingDone slot => below 64 slot
  | .ctrlHostRelease slot => below 64 slot
  | .ctrlStatus r => reqOkFields r
  | .ctrlLoad r => reqOkFields r
  | .ctrlEnable r => reqOkFields r
  | .ctrlDisable r => reqOkFields r
  | .ctrlSetpoint r => reqOkFields r
  | .ctrlTrace r => reqOkFields r
  | .ctrlTraceRead r => reqOkFields r
  | .ctrlTraceReadDone buf => below 4 buf
  | .ctrlHostbuf r => reqOkFields r
  | .ctrlU r => reqOkFields r
  | .valveStatus r => reqOkFields r
  | .valveConfig r => reqOkFields r
  | .valveSet r => reqOkFields r
  | .valveClear r => reqOkFields r
  | .valveDuty r => reqOkFields r
  | .valveMinoffEnd ch => below 24 ch
  | .valveSlotGrant b _ => below 6 b
  | .valveDeferExpiry ch => below 24 ch
  | .valveBoostWaitEnd ch _ => below 24 ch
  | .valvePeakEnd ch _ => below 24 ch
  | .valveDurationEnd ch => below 24 ch
  | .valveBankHsOff b => below 6 b
  | .valveCurrentUpdate _ _ _ => true
  | .valveBoostFault c _ _ => below 2 c
  | .valveOpenLoad ch _ _ _ => below 24 ch
  | .valveShortBat ch _ => below 24 ch
  | .valveShortGnd ch _ _ => below 24 ch
  | .valveBankShort b _ _ => below 6 b
  | .valveTracking ch => below 24 ch
  | .valveHostPeriod ch _ => below 24 ch
  | .gnssEpoch _ => true
  | .gnssRtcmFrame => true
  | .gnssAntOpen inst _ => below 3 inst
  | .gnssAntShort inst _ => below 3 inst
  | .gnssAntRetry inst _ => below 3 inst
  | .gnssGuardBurst _ _ => true
  | .gnssGuardReport => true
  | .gnssStatus r => reqOkFields r
  | .gnssFix r => reqOkFields r
  | .gnssConfig r => reqOkFields r
  | .gnssAntenna r => reqOkFields r
  | .gnssCorr r => reqOkFields r
  | .gnssRtcm r => reqOkFields r
  | .gnssOrigin r => reqOkFields r
  | .gnssLine r => reqOkFields r
  | .gnssGuard r => reqOkFields r
  | .gnssHostbuf r => reqOkFields r
  | .gnssSolution r => reqOkFields r
  | .imuSample _ _ _ _ => true
  | .imuStatus r => reqOkFields r
  | .imuConfig r => reqOkFields r
  | .camFrameSync port => below 2 port
  | .camFrameArrival f => below 2 f.port && below 4 f.sensor
  | .camIspOutput port sensor _ => below 2 port && below 4 sensor
  | .camLinkUp port _ => below 2 port
  | .camLinkLost port => below 2 port
  | .camPocOpen port _ => below 2 port
  | .camPocShort port _ => below 2 port
  | .camPocRetry port _ => below 2 port
  | .camSensorSilent port sensor _ => below 2 port && below 4 sensor
  | .camBackchDone port _ _ => below 2 port
  | .camStatus r => reqOkFields r
  | .camConfig r => reqOkFields r
  | .camSensor r => reqOkFields r
  | .camIsp r => reqOkFields r
  | .camTap r => reqOkFields r
  | .camBackch r => reqOkFields r
  | .camLamp r => reqOkFields r
  | .camExposure r => reqOkFields r
  | .camHostbuf r => reqOkFields r
  | .camLampSet r => reqOkFields r
  | .crownSampleArrival _ _ _ _ _ => true
  | .crownInputClose slot => below 16 slot
  | .crownRelease slot _ => below 16 slot
  | .crownOverrun slot _ _ => below 16 slot
  | .crownStatus r => reqOkFields r
  | .crownModel r => reqOkFields r
  | .crownLoad r => reqOkFields r
  | .crownBind r => reqOkFields r
  | .crownCalib r => reqOkFields r
  | .crownOutbuf r => reqOkFields r
  | .crownStart r => reqOkFields r
  | .crownStop r => reqOkFields r
  | .crownHostbuf r => reqOkFields r
  | .crownResult r => reqOkFields r
  | .granaryPeriod => true
  | .granaryTileWrite => true
  | .granaryFileClosed => true
  | .granaryStatus r => reqOkFields r
  | .granaryConfig r => reqOkFields r
  | .granarySections r => reqOkFields r
  | .granaryCalib r => reqOkFields r
  | .granaryOpen r => reqOkFields r
  | .granaryClose r => reqOkFields r
  | .granaryCorrect r => reqOkFields r
  | .granaryHostbuf r => reqOkFields r
  | .granaryResult r => reqOkFields r
  | .outStatus r => reqOkFields r
  | .outConfig r => reqOkFields r
  | .outSet r => reqOkFields r
  | .outClear r => reqOkFields r
  | .outParkhold r => reqOkFields r
  | .outPwmPeriod o => below 72 o
  | .outInrushWindowEnd o => below 72 o
  | .outLatched o _ => below 72 o
  | .outCurrentUpdate _ => true
  | .outDieSample _ _ => true
  | .outRetryPwmPhase o => below 72 o
  | .outGroupShutdown g _ => below 19 g
  | .outClampEnd o _ => below 72 o
  | .outClampExpire o => below 72 o
  | .outOpenLoad o _ _ => below 72 o
  | .outShortBat o _ => below 72 o
  | .outDiagEnd o _ => below 72 o
  | .outTestDue o => below 72 o
  | .outTestReadback o _ => below 72 o
  | .outParkPatternEdge slot => below 4 slot
  | .outParkTimeLimit slot => below 4 slot
  | .outParkTrip slot _ => below 4 slot
  | .hbStatus r => reqOkFields r
  | .hbConfig r => reqOkFields r
  | .hbDrive r => reqOkFields r
  | .hbClear r => reqOkFields r
  | .hbPosition r => reqOkFields r
  | .hbRipple n _ => below 8 n
  | .hbPinchReverse n => below 8 n
  | .hbPinchTimeout n => below 8 n
  | .hbShort n _ => below 8 n
  | .hbStall n _ _ => below 8 n
  | .hbThermal n _ => below 8 n
  | .hbTimeLimit n => below 8 n
  | .hbReversalBrakeEnd n => below 8 n
  | .hbCurrentUpdate _ => true
  | .swinSample _ => true
  | .swinWakeStuck n => below 48 n
  | .swinParkCheck _ => true
  | .swinConfig r => reqOkFields r
  | .swinRead r => reqOkFields r
  | .linSlot ch _ => below 4 ch
  | .linWakePulse ch _ => below 4 ch
  | .linResume ch => below 4 ch
  | .linBusFault ch _ _ => below 4 ch
  | .linRetry ch => below 4 ch
  | .linStatus r => reqOkFields r
  | .linRead r => reqOkFields r
  | .linConfig r => reqOkFields r
  | .linTable r => reqOkFields r
  | .linSchedule r => reqOkFields r
  | .linWrite r => reqOkFields r
  | .linSleep r => reqOkFields r
  | .bodyConfig r => reqOkFields r
  | .bodyStatus r => reqOkFields r
  | .bodyRequest r => reqOkFields r
  | .bodyHostbuf r => reqOkFields r
  | .bodyResult r => reqOkFields r
  | .bodyFlashPhase inst side => below 16 inst && below 2 side
  | .bodyWiperParkSwitch inst => below 16 inst
  | .bodyWiperStall inst => below 16 inst
  | .bodyWiperInterval inst => below 16 inst
  | .bodyWiperChangeover inst => below 16 inst
  | .bodyLockPulseEnd inst => below 16 inst
  | .bodyLockInhibitEnd inst => below 16 inst
  | .bodyAutoUpInhibitEnd inst => below 16 inst
  | .bodyMaxOn inst => below 16 inst
  | .bodyDelayOff inst => below 16 inst
  | .bodyHostPeriod => true
  | .fanPwmPeriod n _ => below 10 n
  | .fanTachEdge n => below 10 n
  | .fanStretch n => below 10 n
  | .fanStretchMax n => below 10 n
  | .fanKickTimeout n _ => below 10 n
  | .fanRetry n => below 10 n
  | .fanTachTimeout n _ => below 10 n
  | .fanHeartbeatMissing n _ => below 10 n
  | .fanStatus r => reqOkFields r
  | .fanConfig r => reqOkFields r
  | .fanTable r => reqOkFields r
  | .fanSet r => reqOkFields r
  | .fanClear r => reqOkFields r
  | .fanResult r => reqOkFields r
  | .plateStatus r => reqOkFields r
  | .plateConfig r => reqOkFields r
  | .plateWaveform r => reqOkFields r
  | .plateUpdate r => reqOkFields r
  | .platePark r => reqOkFields r
  | .plateFrameStart => true
  | .plateFrameDone => true
  | .plateBusyTimeout => true
  | .plateRailFault rail _ => below 4 rail
  | .plateDone => true
  | .canFrameRx f => below 8 f.ch
  | .canTpTimeout ch _ => below 8 ch
  | .canHpHoldExpiry ch _ => below 8 ch
  | .canSignalTimeout _ => true
  | .canQueueNotifyAge ch _ => below 8 ch
  | .canTxPeriodic _ => true
  | .canTxOnChange _ => true
  | .canTxComplete ch _ _ => below 8 ch
  | .canBusRecovered ch => below 8 ch
  | .canRejoin ch => below 8 ch
  | .canTxdDominant ch _ => below 8 ch
  | .canPantryCommit => true
  | .canBasicCycle ch => below 8 ch
  | .canBackupReference ch => below 8 ch
  | .canScheduleLost ch => below 8 ch
  | .canSlotWindow _ => true
  | .canRouteHoldTimeout ch => below 8 ch
  | .canStatus r => reqOkFields r
  | .canHpRead r => reqOkFields r
  | .canTxStatus r => reqOkFields r
  | .canConfig r => reqOkFields r
  | .canPantry r => reqOkFields r
  | .canQueue r => reqOkFields r
  | .canSchedule r => reqOkFields r
  | .canRecover r => reqOkFields r
  | .canSend r => reqOkFields r
  | .canTp r => reqOkFields r
  | .canTpSend r => reqOkFields r
  | .ethFrameRx f => below 7 f.port
  | .ethLidarFragment stream _ => below 4 stream
  | .ethLidarTimeout stream => below 4 stream
  | .ethSignalDatagram _ _ => true
  | .ethSigportTimeout _ => true
  | .ethHostringTx w _ => winOk w
  | .ethGateCycle port => below 7 port
  | .ethLinkUp port _ _ _ => below 7 port
  | .ethLinkDown port => below 7 port
  | .ethStatus r => reqOkFields r
  | .ethConfig r => reqOkFields r
  | .ethGates r => reqOkFields r
  | .ethLidar r => reqOkFields r
  | .ethSigport r => reqOkFields r
  | .ethHostring r => reqOkFields r
  | .nmRingMessage n _ _ => below 3 n
  | .nmRingSend n => below 3 n
  | .nmRingTimeout n => below 3 n
  | .nmWakeInGap n => below 3 n
  | .nmGapEnd n => below 3 n
  | .nmTc10AckTimeout n _ => below 3 n
  | .nmSleepBlocked n => below 3 n
  | .canTransceiverWake ch _ _ _ => below 8 ch
  | .tc10Wake port => below 7 port
  | .nmStatus r => reqOkFields r
  | .nmWakeCause r => reqOkFields r
  | .nmConfig r => reqOkFields r
  | .nmRequest r => reqOkFields r
  | .nmCanwake r => reqOkFields r
  | .wdKeyWrite value => wordOk value
  | .wdCfgWrite value => wordOk value
  | .rootWdTimeout => true
  | .safeoffWrite value => wordOk value
  | .cellarHoldRelease value => wordOk value
  | .flagsSetWrite value => wordOk value
  | .flagsClrWrite value => wordOk value
  | .taggedOffRelease => true
  | .rootStopWrite => true
  | .stuckW1c word value => below 3 word && wordOk value
  | .ruleRecordWrite rule _ value => below 64 rule && wordOk value
  | .ruleEnWrite _ value => wordOk value
  | .reflexRuleChange => true
  | .rootFault _ => true
  | .rootStart _ => true
  | .monitorTrip bit => below 8 bit
  | .monitorReturn bit => below 8 bit
  | .keeperHbTick => true
  | .rootLinkMessage conn _ _ => below 32 conn
  | .rootLinkTimeout conn => below 32 conn
  | .rootLinkTx conn _ => below 32 conn
  | .rootLinkRearm conn => below 32 conn
  | .rootStatus r => reqOkFields r
  | .rootLinkStatus r => reqOkFields r
  | .rootRestart r => reqOkFields r
  | .reflexStatus r => reqOkFields r
  | .graftStatus r => reqOkFields r
  | .graftMissing r => reqOkFields r
  | .graftOpen r => reqOkFields r
  | .graftPiece r => reqOkFields r
  | .graftInstalled => true
  | .graftDiscard r => reqOkFields r
  | .graftActivate r => reqOkFields r
  | .graftHashDone => true
  | .graftHandoverNotice => true
  | .graftYield r => reqOkFields r
  | .graftTake r => reqOkFields r
  | .graftReadyTimeout => true
  | .graftYieldTimeout => true
  | .graftTakeTimeout => true
  | .rootCutover => true
  | .keeperCutover => true
  | .keeperCutoverTimeout => true
  | .graftConfirm r => reqOkFields r
  | .graftConfirmDue => true
  | .graftTrialCountWrite => true
  | .graftConfirmTimeout => true
  | .graftFallbackCmd r => reqOkFields r
  | .graftBootTimeout => true
  | .graftFallbackDone => true
  | .atticStatus r => reqOkFields r
  | .atticList r => reqOkFields r
  | .atticRead r => reqOkFields r
  | .atticWrite r => reqOkFields r
  | .atticDelete r => reqOkFields r
  | .atticDone _ => true
  | .atticTempSample _ => true
  | .atticStageLost => true
  | .keptConfigWrite => true
  | .larderBufferFlush => true
  | .larderStatus r => reqOkFields r
  | .larderRead r => reqOkFields r
  | .larderReadDone => true
  | .larderChallenge r => reqOkFields r
  | .larderClear r => reqOkFields r
  | .larderCleared => true
  | .larderClearLockEnd => true
  | .cellarStart _ _ _ => true
  | .parkWake _ _ => true
  | .ignChange _ _ => true
  | .graceEnd => true
  | .parkEntryStart => true
  | .parkWait => true
  | .parkStepDone => true
  | .powerDownLatch => true
  | .supplyLoss _ => true
  | .supplyReturn _ => true
  | .cellarHoldExpiry => true
  | .studLow stud _ gnd => below 3 stud && below 4 gnd
  | .powerUndervolt stud _ _ => below 3 stud
  | .powerOvervolt stud _ _ => below 3 stud
  | .overvoltEnd stud _ => below 3 stud
  | .powerReverse stud _ => below 3 stud
  | .powerStatus r => reqOkFields r
  | .powerConfig r => reqOkFields r
  | .powerRequest r => reqOkFields r
  | .powerRun r => reqOkFields r
  | .thermalSample sensor _ => below 49 sensor
  | .throttleStepDown die => below 7 die
  | .thermalStatus r => reqOkFields r
  | .extest _ _ => true
  | .idcode => true
  | .samplePreload _ _ => true
  | .highz => true
  | .clamp => true
  | .bypass => true
  | .testLogicReset => true
  | .testkeyTied => true
  | .consoleRx _ => true
  | .studReturn stud _ gnd => below 3 stud && below 4 gnd
  | .undervoltEnd stud _ => below 3 stud
  | .powerReverseEnd stud _ => below 3 stud
  | .hbThermalEnd n _ => below 8 n
  | .gnssAntOpenEnd inst _ => below 3 inst
  | .camPocOpenEnd port _ => below 2 port
  | .canBusError ch _ => below 8 ch
  | .canTpBamPacket ch _ => below 8 ch
  | .canopyPartitionStart p => below 16 p
  | .testkeyUntied => true

end Sys2Proof
end

