-- ==== Sys2Proof/Certificates/Slice0/Obligations.lean ====
section
/-! DEFINITION. Obligations.lean: the statements for the provers. The first sixteen are about the block as a whole; the others
say, family by family and row by row, when a command of the table completes and what state it leaves. A clause either gives the
next state whole, or says what it holds and, with SameBut, which pieces of the state stay as they were. -/

open Sys2Proof Sys2Proof.Machine

/-- The step rule of this block, which the model states for itself (log entry 9): the command at the front of the queue runs
with the rest of the queue; with none waiting, one cycle of the clock passes. -/
def Obligations.StepRunsTheFrontCommand : Prop :=
  (∀ (c : Instr) (q : List Instr) (s : State), step { s with pending := c :: q } = exec c { s with pending := q }) ∧
  (∀ s : State, s.pending = [] → step s = .next s.clockTick) ∧
  (∀ s : State, s.pending = [] → s.trunkOn = true → step s = .next (s.waitTo (s.hw + 4)).keeperTurn) ∧
  (∀ s : State, s.pending = [] → s.trunkOn = false → s.power.state ≠ .off →
    step s = .next { s with time.parkPeriods := s.time.parkPeriods + 1 }) ∧
  (∀ s : State, s.pending = [] → s.power.state = .off → step s = .next s)

/-- The table gives its rows no bits, so no word spells a command. -/
def Obligations.NoTableWordSpellsACommand : Prop :=
  ∀ (s : State) (nbits w : Nat), decodeTableWord nbits w = none ∧ s.withFetchWord nbits w = s

/-- The state at reset: OFF, with no supply, nothing running, no window live, no fault, no record, no command waiting, memory
tables empty. The values the spec does not give are the model's (log entry 3). -/
def Obligations.ResetIsOffWithNothingRunning : Prop :=
  State.reset.power.state = .off ∧ State.reset.trunkOn = false ∧ (∀ w, State.reset.live w = false) ∧
  State.reset.root.phase = .off ∧ State.reset.time.epoch = 0 ∧ State.reset.faults.current = none ∧ State.reset.faults.queue = [] ∧
  State.reset.faults.active = [] ∧ State.reset.larder.buffer = [] ∧ State.reset.signals = [] ∧ State.reset.kept = none ∧
  State.reset.pending = [] ∧ (∀ w, (State.reset.win w).cmdRing = []) ∧ (∀ w d, (State.reset.region w d).present = false) ∧
  (∀ w, (State.reset.win w).indicesOk = true)

/-- Every command of the table, in every state, completes: exec answers a next state, and so does every step. Both leave the
identity that the hardware is made with (00 R3, 02 R42-R44) as it is: the part, and in every window the words TYPE, SERIAL_LO,
SERIAL_HI, COUNTS and FITTED0-3. -/
def Obligations.EveryStepKeepsTheIdentity : Prop :=
  (∀ (c : Instr) (s : State), ∃ t, exec c s = .next t ∧ SamePart s t) ∧
  ∀ s : State, ∃ t, step s = .next t ∧ SamePart s t ∧
    (∀ w ofs, ofs < 0x20 → t.regRead w ofs = s.regRead w ofs)

/-- A command as its slot spells it (02 R51) is read back by Keeper with every field as it was: the slot's bytes, stored
anywhere in a ring and read from there, give the command of the window that owns the ring. -/
def Obligations.CommandSlotRoundTrip : Prop :=
  ∀ (r : Req) (ring : Tab Byte) (a : Nat), reqOkFields r = true → r.payload.length ≤ 112 →
    slotReq r.win (tread (twrite ring a (slotBytes r)) a 128) = { r with stores := [] }

/-- What Keeper posts is what the partition reads: the bytes of a reply stand in the slot that RPL_PROD addressed, and the bytes
of an event, with its sequence number, in the entry that EVT_PROD addressed (02 R48, R51, R54 step 6, 03 R89). -/
def Obligations.PostedSlotsReadBack : Prop :=
  (∀ (s : State) (w now : Nat) (y : Reply) (k : Nat), (s.win w).rplRing.length ≤ 64 → k < 128 → y.payload.length ≤ 112 →
    (s.modWin w (fun x => x.pushReply now y)).winByte w (0x3000 + 128 * ((s.win w).rplProd % 64) + k) = y.bytes.getD k 0) ∧
  (∀ (s : State) (w now : Nat) (e : Event) (k : Nat), (s.win w).evtRing.length ≤ 256 → (s.win w).unread < 256 → k < 32 →
    (s.modWin w (fun x => x.postEvent now e)).winByte w (0x5000 + 32 * ((s.win w).evtProd % 256) + k) =
      ({ e with seq := (s.win w).seq } : Event).bytes.getD k 0)

/-- 02 R57: index writes that would break the ring are ignored, and each posts KEEPER/RING_ERROR in the window. -/
def Obligations.BadIndexWritesAreIgnored : Prop :=
  (∀ (s : State) (w value : Nat), s.live w = true → 64 < (value % 65536 + 65536 - (s.win w).cmdCons) % 65536 →
    exec (.cmdProdWrite w value []) s = .next (s.postIn w 0 0x0004 0x100 (value % 2 ^ 32) (s.win w).cmdProd 0)) ∧
  (∀ (s : State) (w value : Nat), s.live w = true →
    ((s.win w).rplProd + 65536 - (s.win w).rplCons) % 65536 < (value % 65536 + 65536 - (s.win w).rplCons) % 65536 →
    exec (.rplConsWrite w value) s = .next (s.postIn w 0 0x0004 0x10C (value % 2 ^ 32) (s.win w).rplCons 0)) ∧
  (∀ (s : State) (w value : Nat), s.live w = true →
    (s.win w).unread < (value % 65536 + 65536 - (s.win w).evtCons) % 65536 →
    exec (.evtConsWrite w value) s = .next (s.postIn w 0 0x0004 0x114 (value % 2 ^ 32) (s.win w).evtCons 0)) ∧
  (∀ (s : State) (w ofs value kept : Nat), (s.win w).running = true →
    let t := s.postIn w 0 0x0004 ofs value kept 0
    (t.win w).cmdProd = (s.win w).cmdProd ∧ (t.win w).cmdCons = (s.win w).cmdCons ∧ (t.win w).rplProd = (s.win w).rplProd ∧
    (t.win w).rplCons = (s.win w).rplCons ∧ (t.win w).evtCons = (s.win w).evtCons ∧ (t.win w).cmdRing = (s.win w).cmdRing ∧
    (∀ k, k ≠ w → t.win k = s.win k) ∧ SameBut [.keeper] s t ∧
    (s.keeper.paused = false → (s.win w).unread < 256 → (t.win w).posted = (s.win w).posted ++
      [{ source := 0, code := 0x0004, stamp := s.hw, seq := (s.win w).seq, p0 := ofs, p1 := value, p2 := kept, p3 := 0 }]) ∧
    (s.keeper.paused = true → t.keeper.deferred = s.keeper.deferred ++
      [{ ev := { source := 0, code := 0x0004, stamp := s.hw, p0 := ofs, p1 := value, p2 := kept, p3 := 0 }, cmd := some w, only := true }]))

/-- 02 R69: a full event ring drops new events and counts them; when a slot becomes free KEEPER/EVENTS_LOST is the next entry,
and normal posting resumes. -/
def Obligations.FullEventRingDropsThenReports : Prop :=
  (∀ (x : Window) (now : Nat) (e : Event), 256 ≤ x.unread →
    (x.postEvent now e).evtLost = min (x.evtLost + 1) 0xFFFFFFFF ∧ (x.postEvent now e).evtDropped = x.evtDropped + 1 ∧
    (x.postEvent now e).evtRing = x.evtRing ∧ (x.postEvent now e).evtProd = x.evtProd ∧ (x.postEvent now e).seq = x.seq ∧
    (x.postEvent now e).irqLost = (x.irqLost || decide (x.evtLost < 0xFFFFFFFF)) ∧
    (x.postEvent now e).evtDropAt = (if x.evtDropped = 0 then usOf now else x.evtDropAt)) ∧
  (∀ (x : Window) (now : Nat) (e : Event), x.unread < 256 → x.evtRing.length ≤ 256 →
    (x.postEvent now e).evtRing.getLast? = some { e with seq := x.seq } ∧ (x.postEvent now e).evtProd = (x.evtProd + 1) % 65536 ∧
    (x.postEvent now e).seq = (x.seq + 1) % 4294967296 ∧ (x.postEvent now e).evtLost = x.evtLost) ∧
  (∀ (s : State) (w value : Nat), s.live w = true → s.keeper.paused = false → (s.win w).evtDropped ≠ 0 →
    (s.win w).indicesOk = true → (s.win w).evtRing.length ≤ 256 → value < 65536 →
    0 < (value + 65536 - (s.win w).evtCons) % 65536 → (value + 65536 - (s.win w).evtCons) % 65536 ≤ (s.win w).unread →
    ∃ t, exec (.evtConsWrite w value) s = .next t ∧ (t.win w).evtCons = value ∧ (t.win w).evtDropped = 0 ∧
      (t.win w).evtRing.getLast? = some
        { source := 0, code := 0x0003, stamp := s.hw, seq := (s.win w).seq, p0 := (s.win w).evtDropped % 2 ^ 32, p1 := (s.win w).evtDropAt, p2 := 0, p3 := 0 } ∧
      SameBut [.keeper] s t ∧ (∀ k, k ≠ w → t.win k = s.win k))

/-- 02 R44: the bits of FITTEDn and VALIDn. -/
def Obligations.UnitBitsOfAWindow : Prop :=
  ∀ (s : State) (w u : Nat), u < 128 →
    (s.regRead w (0x10 + 4 * (u / 32))).testBit (u % 32) = unitFitted s.variant u ∧
    (s.regRead w (0x20 + 4 * (u / 32))).testBit (u % 32) = (unitFitted s.variant u && s.validBit u) ∧
    (unitKnown u = false → (s.regRead w (0x10 + 4 * (u / 32))).testBit (u % 32) = false ∧
      (s.regRead w (0x20 + 4 * (u / 32))).testBit (u % 32) = false)

/-- 02 R59: the checks in their order, the first that fails deciding the reply, and the reply of a command refused when it is
consumed: only its window changes. -/
def Obligations.FirstFailedCheckDecides : Prop :=
  (∀ (s : State) (r : Req), unitKnown r.unit = false → s.takeSlot r = s.refuse r stBadUnit) ∧
  (∀ (s : State) (r : Req), unitKnown r.unit = true → unitFitted s.variant r.unit = false →
    s.takeSlot r = s.refuse r stNotFitted) ∧
  (∀ (s : State) (r : Req), unitKnown r.unit = true → unitFitted s.variant r.unit = true → verbOf r.unit r.verb = none →
    s.takeSlot r = s.refuse r stBadVerb) ∧
  (∀ (s : State) (v : Verb) (r : Req), unitFitted s.variant v.unit = true → (112 < r.payload.length ∨ v.lenOk r = false) →
    s.check v r = some stBadLength) ∧
  (∀ (s : State) (v : Verb) (r : Req), unitFitted s.variant v.unit = true → r.payload.length ≤ 112 → v.lenOk r = true →
    (v.instOk r.inst = false ∨ (r.cls ≠ 0 ∧ r.cls ≠ 2 ∧ r.cls ≠ 3)) → s.check v r = some stRange) ∧
  (∀ (s : State) (v : Verb) (r : Req), unitFitted s.variant v.unit = true → r.payload.length ≤ 112 → v.lenOk r = true →
    v.instOk r.inst = true → (r.cls = 0 ∨ r.cls = 2 ∨ r.cls = 3) →
    (instPresent s.part v.unit r.inst = false → s.check v r = some stNotFitted) ∧
    (instPresent s.part v.unit r.inst = true →
      (s.permitted v r = false → s.check v r = some stNotPermitted) ∧
      (s.permitted v r = true →
        (r.flags.testBit 2 = true ∧ r.genLow ≠ s.gen v.unit r.inst % 4096 → s.check v r = some stRestarted) ∧
        ((r.flags.testBit 2 = false ∨ r.genLow = s.gen v.unit r.inst % 4096) →
          ((s.unitSt v.unit r.inst).phase = .off ∧ v.anyPower = false → s.check v r = some stBusy) ∧
          ((s.unitSt v.unit r.inst).phase = .running →
            s.check v r = if deadlinePassed s.us r.deadline then some stDeadline else none) ∧
          ((s.unitSt v.unit r.inst).phase ≠ .running → (s.unitSt v.unit r.inst).phase ≠ .off →
            s.check v r = if deadlinePassed s.us r.deadline then some stDeadline
              else if r.flags.testBit 1 then some stBusy else some stHeld))))) ∧
  (∀ (v : Verb) (r : Req) (s : State) (st : Nat), s.live r.win = true → (s.win r.win).backlog = 0 →
    ((s.stores r.win r.stores).win r.win).backlog = 0 → (s.stores r.win r.stores).keeperServes r.win = true →
    (s.consumed v r).mustWait ((s.consumed v r).win r.win).waiting (v.req r) = false →
    (s.consumed v r).recorded (v.req r) = none → (s.consumed v r).check v (v.req r) = some st → st ≠ stHeld →
    ∃ t, mailboxRow v r s = .next t ∧
      t = (s.consumed v r).answer r.win ((s.consumed v r).mkReply v (v.req r) false false st []) ∧ SameBut [.keeper] s t)

/-- 02 R61, 18 R411: from any window but Root's, ROOT.RESTART changes nothing outside its own window's rings. -/
def Obligations.OnlyTheRootWindowRestartsRoot : Prop :=
  ∀ (s : State) (r : Req), r.win ≠ 0 → ∃ t, exec (.rootRestart r) s = .next t ∧ SameBut [.keeper] s t

/-- 01 R26, 03 R87: KEEPER.SIG_WRITE changes no signal that its window does not own. -/
def Obligations.SignalsChangeOnlyByTheirOwner : Prop :=
  ∀ (s : State) (r : Req) (id : Nat), s.sigOwned r.win id = false →
    ∃ t, exec (.keeperSigWrite r) s = .next t ∧ t.sig id = s.sig id

/-- 02 R54 step 6, R56: a decided reply is posted while a slot is free and none waits before it, else it waits behind the
others; replies that wait are posted in their order, and the ring never holds more than 64 unread. -/
def Obligations.RepliesInOrderOfDecision : Prop :=
  (∀ (s : State) (w : Nat) (y : Reply), s.keeper.paused = false → (s.win w).outbox = [] → 0 < (s.win w).freeSlots →
    ((s.answer w y).win w).rplProd = ((s.win w).rplProd + 1) % 65536 ∧ ((s.answer w y).win w).irqRpl = true ∧
    ((s.answer w y).win w).rplRing.getLast? = some y ∧ ((s.answer w y).win w).outbox = []) ∧
  (∀ (s : State) (w : Nat) (y : Reply), (s.keeper.paused = true ∨ (s.win w).outbox ≠ [] ∨ (s.win w).freeSlots = 0) →
    ((s.answer w y).win w).outbox = (s.win w).outbox ++ [y] ∧ ((s.answer w y).win w).rplProd = (s.win w).rplProd ∧
    ((s.answer w y).win w).rplRing = (s.win w).rplRing) ∧
  (∀ (x : Window) (now : Nat), x.rplProd < 65536 → x.rplCons < 65536 → x.rplRing.length ≤ 64 →
    ∃ l, x.outbox = l ++ (x.drain now x.outbox.length).outbox ∧ l.length = min x.outbox.length x.freeSlots ∧
      (x.drain now x.outbox.length).rplRing = (x.rplRing ++ l).drop (x.rplRing.length + l.length - 64) ∧
      (x.drain now x.outbox.length).rplProd = (x.rplProd + l.length) % 65536) ∧
  (∀ (s : State) (w k : Nat) (y : Reply), k ≠ w → (s.answer w y).win k = s.win k) ∧
  (∀ (s : State) (w : Nat) (y : Reply), SameBut [.keeper] s (s.answer w y))

/-- 03 R95, R96: whatever fault is raised, the queue stays ordered by severity, highest first, holds at most 32 faults, and no
fault in it has a higher severity than one in hand while the fault manager runs. -/
def Obligations.FaultQueueStaysOrdered : Prop :=
  ∀ (s : State) (code unit inst sev : Nat) (p : List Nat) (b : Bool),
    s.faults.queue.Pairwise (fun f g => g.sev ≤ f.sev) → s.faults.queue.length ≤ 32 →
    (s.raise code unit inst sev p b).1.faults.queue.Pairwise (fun f g => g.sev ≤ f.sev) ∧
    (s.raise code unit inst sev p b).1.faults.queue.length ≤ 32 ∧
    (s.raise code unit inst sev p b).1.stands code unit inst = true ∧
    (s.faultRuns = true → (∀ c, s.faults.current = some c → ∀ g ∈ s.faults.queue, g.sev ≤ c.sev) →
      ∀ c, (s.raise code unit inst sev p b).1.faults.current = some c →
        ∀ g ∈ (s.raise code unit inst sev p b).1.faults.queue, g.sev ≤ c.sev)

/-- The bytes of the command rings and of the regions are kept in one canonical form, whatever is stored; a region reads back
what was written to it, and no other byte of it changes (02 R51, R72). -/
def Obligations.WindowBytesStayCanonical : Prop :=
  (∀ (s : State) (w k : Nat) (l : List Store), twf 0 (s.win k).cmdRing = true → twf 0 ((s.stores w l).win k).cmdRing = true) ∧
  (∀ (s : State) (w k d : Nat) (l : List Store), twf 0 (s.region k d).bytes = true →
    twf 0 ((s.stores w l).region k d).bytes = true) ∧
  (∀ (s : State) (w k d e ofs : Nat) (p : List Byte), twf 0 (s.region k e).bytes = true →
    twf 0 ((s.regionWrite w d ofs p).region k e).bytes = true) ∧
  (∀ (x : Window) (r : Req), twf 0 x.cmdRing = true → twf 0 (x.putSlot r).cmdRing = true) ∧
  (∀ (s : State) (w d ofs : Nat) (p : List Byte), (s.region w d).present = true →
    (s.regionWrite w d ofs p).regionRead w d ofs p.length = p ∧
    (∀ a n, a + n ≤ ofs ∨ ofs + p.length ≤ a → (s.regionWrite w d ofs p).regionRead w d a n = s.regionRead w d a n) ∧
    (∀ k e, (k, e) ≠ (w, d) → (s.regionWrite w d ofs p).region k e = s.region k e) ∧
    SameBut [.keeper] s (s.regionWrite w d ofs p)) ∧
  (∀ (s : State) (w ofs value : Nat), s.live w = true → twf 0 (s.win w).cmdRing = true → ofs % 8 = 0 → 0x1000 ≤ ofs →
    ofs < 0x3000 → ∃ t, exec (.registerWrite w ofs 64 value) s = .next t ∧ twf 0 (t.win w).cmdRing = true ∧
      (∀ i, i < 8 → tget 0 (t.win w).cmdRing (ofs + i) = (leB 8 value).getD i 0) ∧
      (∀ a, a < ofs ∨ ofs + 8 ≤ a → tget 0 (t.win w).cmdRing a = tget 0 (s.win w).cmdRing a) ∧
      (∀ k, k ≠ w → t.win k = s.win k) ∧ SameBut [.keeper] s t)

/-- 02 R48, R54, R56, R69: whatever Keeper or the partition does with a ring, its indices keep their rule. -/
def Obligations.RingIndicesKeepTheirRule : Prop :=
  (∀ (x : Window) (now : Nat) (e : Event), x.indicesOk = true → (x.postEvent now e).indicesOk = true) ∧
  (∀ (x : Window) (now : Nat) (y : Reply), x.indicesOk = true → (x.emit now y).indicesOk = true) ∧
  (∀ (x : Window) (now n : Nat), x.indicesOk = true → (x.drain now n).indicesOk = true) ∧
  (∀ (x : Window) (r : Req), x.indicesOk = true → x.backlog < 64 → (x.putSlot r).indicesOk = true) ∧
  (∀ x : Window, x.indicesOk = true → x.backlog ≠ 0 →
    ({ x with cmdCons := (x.cmdCons + 1) % 65536 } : Window).indicesOk = true) ∧
  (∀ (s : State) (w value : Nat), (s.win w).indicesOk = true → s.live w = true →
    (value % 65536 + 65536 - (s.win w).evtCons) % 65536 ≤ (s.win w).unread →
    ∃ t, exec (.evtConsWrite w value) s = .next t ∧ (t.win w).indicesOk = true)

/-- A running Attic transfer completes with its commit or its read, its region ended and ATTIC/DONE posted; the 1 s
sample sets the temperature signal and steps the inhibit; 30 min of drain discards the stage; Keeper writes the kept
record 1 s after the last; the Larder buffer is flushed except under the inhibit and drops are reported; a copy of
records completes into its region; a clear zeroes the records in scope; its lock ends after 60 min. Rows: atticDone,
atticTempSample, atticStageLost, keptConfigWrite, larderBufferFlush, larderReadDone, larderCleared, larderClearLockEnd.
Rules: R435, R437, R438, R439, R440, R443, R446, R447, R448, R449. -/
def Obligations.AtticEventRowsComplete : Prop :=
  (∀ (s : State) (index : Nat) (t : Transfer),
      s.running 0x61 0 = true →
      s.attic.transfers[index]? = some t →
      exec (.atticDone index) s = .next (let a := s.modAttic (fun a => { a with transfers := a.transfers.eraseIdx index }); let q := if t.write then a.commitWrite t else a.finishRead t; (q.1.regionEnd t.op.win t.desc q.2.2.1).complete t.op 0x61 t.inst 229 0xA014 q.2.1 q.2.2.1 q.2.2.2)) ∧
  (∀ (s : State) (temp : Int),
      s.trunkOn = true →
      s.running 0x71 0 = true →
      exec (.atticTempSample temp) s = .next ((((s.boundary 378 1000000000 0).modAttic (fun a => { a with temp := fFrac temp 10 })).setSig 0x0FA (fFrac temp 10) (s.boundary 378 1000000000 0).hw fgValid).inhibitStep temp)) ∧
  (∀ (s : State) (t : Nat),
      s.attic.drainAt = some t →
      s.hasStaged = true →
      s.power.parkStep = 3 →
      exec (.atticStageLost) s = .next ((((s.waitTo (t + 1800000000000)).dropStage).raiseEv 0x61 0 229 0xA012 4 0 (s.waitTo (t + 1800000000000)).attic.staged (s.waitTo (t + 1800000000000)).attic.stagedWrites 0))) ∧
  (∀ (s : State) (t u : Nat),
      s.keptDirty = some u →
      s.keptAt = some t →
      s.operating = true →
      s.running 1 0 = true →
      exec (.keptConfigWrite) s = .next ((s.waitTo (t + 1000000000)).writeKept)) ∧
  (∀ (s : State),
      s.trunkOn = true →
      s.running 0x62 0 = true →
      exec (.larderBufferFlush) s = .next ((if s.attic.inhibit then s else s.flushLarder).reportDrops)) ∧
  (∀ (s : State) (c : LarderRead),
      s.running 0x62 0 = true →
      s.larder.read = some c →
      exec (.larderReadDone) s = .next (((((s.modLarder (fun l => { l with read := none })).regionWrite c.op.win c.desc 0 ((List.range c.count).flatMap (fun i => s.larder.slot c.strong ((c.first + i) % 2 ^ 32)))).regionEnd c.op.win c.desc (64 * c.count)).complete c.op 0x62 0 230 0xA020 stDone c.count (if c.strong then (((s.modLarder (fun l => { l with read := none })).regionWrite c.op.win c.desc 0 ((List.range c.count).flatMap (fun i => s.larder.slot c.strong ((c.first + i) % 2 ^ 32)))).regionEnd c.op.win c.desc (64 * c.count)).larder.seqS else (((s.modLarder (fun l => { l with read := none })).regionWrite c.op.win c.desc 0 ((List.range c.count).flatMap (fun i => s.larder.slot c.strong ((c.first + i) % 2 ^ 32)))).regionEnd c.op.win c.desc (64 * c.count)).larder.seqG)))) ∧
  (∀ (s : State) (c : LarderClear),
      s.running 0x62 0 = true →
      s.larder.clear = some c →
      ∃ t, exec (.larderCleared) s = .next t ∧
        t.larder.clear = none ∧
        t.larder.general = s.larder.general.filter (fun e => !(if e.2.strong then c.scope == 2 && e.2.unit != 0x62 && seqLe e.2.seq c.newS else (c.limit == 0xFFFFFFFF || seqLe e.2.seq c.limit) && seqLe e.2.seq c.newG)) ∧
        t.larder.strong = s.larder.strong.filter (fun e => !(if e.2.strong then c.scope == 2 && e.2.unit != 0x62 && seqLe e.2.seq c.newS else (c.limit == 0xFFFFFFFF || seqLe e.2.seq c.limit) && seqLe e.2.seq c.newG)) ∧
        SameBut [.keeper, .larder] s t) ∧
  (∀ (s : State) (t : Nat),
      s.larder.lockAt = some t →
      s.operating = true →
      exec (.larderClearLockEnd) s = .next ((s.waitOp (t + 3600000000000)).modLarder (fun l => { l with lockAt := none, refusals := 0 })))

/-- A served ATTIC.STATUS and ATTIC.LIST answer the partition and its files; ATTIC.READ and WRITE with a region that can
be used begin a transfer and are accepted; ATTIC.DELETE removes the owner's file or an unlocked Granary job;
LARDER.STATUS answers the sequences; LARDER.READ begins a copy; LARDER.CHALLENGE draws a challenge; LARDER.CLEAR with
the known challenge and its token begins the clear, with another token is refused and counted. Rows: atticStatus,
atticList, atticRead, atticWrite, atticDelete, larderStatus, larderRead, larderChallenge, larderClear. Rules: R433,
R434, R435, R436, R439, R443, R447, R448. -/
def Obligations.AtticVerbsComplete : Prop :=
  (∀ (s : State) (r : Req),
      s.serves verbAtticStatus r = true →
      exec (.atticStatus r) s = .next (((s.offered verbAtticStatus r)).replied s verbAtticStatus r stDone (b8 (if s.attic.fault then 3 else if s.attic.readOnly then 2 else if s.attic.inhibit then 1 else 0) ++ b8 s.attic.wear ++ b16 ((s.offered verbAtticStatus r).atticEntries r.inst).length ++ b32 (atticMiB s.variant r.inst) ++ b32 (atticMiB s.variant r.inst - ((s.offered verbAtticStatus r).atticUsed r.inst + 2 ^ 20 - 1) / 2 ^ 20) ++ b32 (s.attic.staged / 1024) ++ bF s.attic.temp ++ b64 s.attic.written))) ∧
  (∀ (s : State) (r : Req),
      s.serves verbAtticList r = true →
      exec (.atticList r) s = .next (((s.offered verbAtticList r)).replied s verbAtticList r stDone (b32 ((s.offered verbAtticList r).atticEntries r.inst).length ++ b32 (u32 r.payload 0) ++ ((((s.offered verbAtticList r).atticEntries r.inst).drop (u32 r.payload 0)).take 6).flatMap (fun e => b32 e.1 ++ b8 e.2.1 ++ b8 e.2.2.1 ++ b16 e.2.2.2.1 ++ b64 e.2.2.2.2)))) ∧
  (∀ (s : State) (r : Req),
      s.serves verbAtticRead r = true →
      0 < u32 r.payload 12 →
      u32 r.payload 12 ≤ 16777216 →
      (s.offered verbAtticRead r).regionCheck r.win (u8 r.payload 0) (u32 r.payload 12) = none →
      exec (.atticRead r) s = .next ((((s.offered verbAtticRead r).regionBegin r.win (u8 r.payload 0) r.tag true).modAttic (fun a => { a with transfers := a.transfers ++ [{ op := { win := r.win, tag := r.tag }, write := false, inst := r.inst, id := u32 r.payload 4, desc := u8 r.payload 0, ofs := u32 r.payload 8, len := u32 r.payload 12, old := (if r.inst = 3 then ((s.offered verbAtticRead r).granList.find? (fun g => g.1 == u32 r.payload 4)).map (fun g => g.2.2.2) else ((s.offered verbAtticRead r).fileOf r.inst (u32 r.payload 4)).map (fun f => f.data)), oldVer := (if r.inst = 3 then (if (s.offered verbAtticRead r).granList.any (fun g => g.1 == u32 r.payload 4 && g.2.2.1) then 2 ^ 31 else 0) else match (s.offered verbAtticRead r).fileOf r.inst (u32 r.payload 4) with | some f => f.version + 65536 * f.cls + (if f.staged then 2 ^ 31 else 0) | none => 0) }] })).replied s verbAtticRead r stAccepted [])) ∧
  (∀ (s : State) (r : Req),
      s.serves verbAtticWrite r = true →
      r.inst = 5 →
      0 < u32 r.payload 12 →
      u32 r.payload 12 ≤ 65536 →
      bits (u32 r.payload 8) 17 16 = 1 ∨ bits (u32 r.payload 8) 17 16 = 2 ∧ r.win = 0 →
      (∀ f ∈ s.attic.files, f.inst = 5 → f.id = u32 r.payload 4 → f.owner = r.win) →
      (s.offered verbAtticWrite r).regionCheck r.win (u8 r.payload 0) (u32 r.payload 12) = none →
      exec (.atticWrite r) s = .next ((((s.offered verbAtticWrite r).regionBegin r.win (u8 r.payload 0) r.tag false).modAttic (fun a => { a with transfers := a.transfers ++ [{ op := { win := r.win, tag := r.tag }, write := true, inst := r.inst, id := u32 r.payload 4, desc := u8 r.payload 0, trunc := bit (u8 r.payload 1) 0, ofs := u32 r.payload 8, len := u32 r.payload 12 }] })).replied s verbAtticWrite r stAccepted [])) ∧
  (∀ (s : State) (r : Req) (cur : Option AtticFile),
      s.serves verbAtticWrite r = true →
      r.inst = 6 →
      (s.offered verbAtticWrite r).fileOf 6 (u32 r.payload 4) = cur →
      0 < u32 r.payload 12 →
      u32 r.payload 12 ≤ 16777216 →
      (∀ f ∈ s.attic.files, f.inst = 6 → f.id = u32 r.payload 4 → f.owner = r.win) →
      u32 r.payload 8 ≤ (cur.map (fun f => f.data.length)).getD 0 →
      (s.offered verbAtticWrite r).regionCheck r.win (u8 r.payload 0) (u32 r.payload 12) = none →
      exec (.atticWrite r) s = .next ((((s.offered verbAtticWrite r).regionBegin r.win (u8 r.payload 0) r.tag false).modAttic (fun a => { a with transfers := a.transfers ++ [{ op := { win := r.win, tag := r.tag }, write := true, inst := r.inst, id := u32 r.payload 4, desc := u8 r.payload 0, trunc := bit (u8 r.payload 1) 0, ofs := u32 r.payload 8, len := u32 r.payload 12 }] })).replied s verbAtticWrite r stAccepted [])) ∧
  (∀ (s : State) (r : Req) (f : AtticFile),
      s.serves verbAtticDelete r = true →
      r.inst ≠ 3 →
      (s.offered verbAtticDelete r).fileOf r.inst (u32 r.payload 0) = some f →
      f.owner = r.win →
      s.attic.readOnly = false →
      exec (.atticDelete r) s = .next (((s.offered verbAtticDelete r).commitFiles ((s.offered verbAtticDelete r).attic.files.filter (fun g => !(g.inst == r.inst && g.id == u32 r.payload 0 && (s.offered verbAtticDelete r).readable g))) 0).replied s verbAtticDelete r stDone [])) ∧
  (∀ (s : State) (r : Req),
      s.serves verbLarderStatus r = true →
      exec (.larderStatus r) s = .next (((s.offered verbLarderStatus r)).replied s verbLarderStatus r stDone (b32 ((s.offered verbLarderStatus r).larder.oldest false) ++ b32 (s.offered verbLarderStatus r).larder.seqG ++ b32 ((s.offered verbLarderStatus r).larder.oldest true) ++ b32 (s.offered verbLarderStatus r).larder.seqS ++ b32 s.time.epoch ++ b32 (s.offered verbLarderStatus r).larder.drops ++ b16 (s.offered verbLarderStatus r).larder.buffer.length ++ b8 (5 - (s.offered verbLarderStatus r).refusalsNow) ++ b8 0))) ∧
  (∀ (s : State) (r : Req),
      s.serves verbLarderRead r = true →
      u8 r.payload 1 ≤ 1 →
      u32 r.payload 8 ≠ 0 →
      (s.offered verbLarderRead r).regionCheck r.win (u8 r.payload 0) (64 * u32 r.payload 8) = none →
      (s.offered verbLarderRead r).larder.read = none →
      exec (.larderRead r) s = .next ((((s.offered verbLarderRead r).regionBegin r.win (u8 r.payload 0) r.tag true).modLarder (fun l => { l with read := some { op := { win := r.win, tag := r.tag }, desc := u8 r.payload 0, strong := u8 r.payload 1 == 1, first := u32 r.payload 4, count := u32 r.payload 8 } })).replied s verbLarderRead r stAccepted [])) ∧
  (∀ (s : State) (r : Req),
      s.serves verbLarderChallenge r = true →
      exec (.larderChallenge r) s = .next (((s.offered verbLarderChallenge r).drawNat.2.modLarder (fun l => { l with challenge := some ((s.offered verbLarderChallenge r).drawNat.1 % 2 ^ 32, (s.offered verbLarderChallenge r).drawNat.2.power.opNs) })).replied s verbLarderChallenge r stDone (b32 ((s.offered verbLarderChallenge r).drawNat.1 % 2 ^ 32) ++ b32 600))) ∧
  (∀ (s a : State) (r : Req) (t : Nat),
      s.serves verbLarderClear r = true →
      (s.offered verbLarderClear r).clearLocked = false →
      u8 r.payload 0 = 1 ∨ u8 r.payload 0 = 2 →
      (s.offered verbLarderClear r).larder.clear = none →
      (s.offered verbLarderClear r).larder.challenge = some (u32 r.payload 4, t) →
      (s.offered verbLarderClear r).power.opNs < t + 600000000000 →
      (s.offered verbLarderClear r).modLarder (fun l => { l with challenge := none }) = a →
      exec (.larderClear r) s = .next (if slice r.payload 16 16 = larderToken a.part.serial (u32 r.payload 4) (u8 r.payload 0) (u32 r.payload 8) then ((a.larderWrite 0xA021 0x62 0 0 true false [u32 r.payload 4, u8 r.payload 0, u32 r.payload 8, a.larder.seqG, 0] a.hw 0 1).modLarder (fun l => { l with refusals := 0, lockAt := none, clear := some { op := { win := r.win, tag := r.tag }, scope := u8 r.payload 0, limit := u32 r.payload 8, newG := a.larder.seqG, newS := a.larder.seqS } })).replied s verbLarderClear r stAccepted [] else (a.clearRefuse (u32 r.payload 4) (u8 r.payload 0) (u32 r.payload 8)).replied s verbLarderClear r stAuth []))

/-- While operating, a sample takes all 48 inputs at its millisecond, the body and network evaluations follow, and a
wake input that becomes active ends a grace period or park entry; a wake input active for its stuck time is removed with
its event; a park check looks at the sixteen wake inputs; CONFIG waits for the next sample and READ answers the maps.
Rows: swinSample, swinWakeStuck, swinParkCheck, swinRead, swinConfig. Rules: R282, R283, R284, R285, R286, R287. -/
def Obligations.SwitchRowsComplete : Prop :=
  (∀ (s : State) (mv : List Nat),
      s.operating = true →
      exec (.swinSample mv) s = .next (let b := s.boundary 208 1000000 0
        let a := (List.range 48).foldl (State.swSample mv) b
        let c := ({ a with swin.lastUs := b.us } : State).bodyEvalAll.nmEvalAll
        if (List.range 16).any (fun i => a.wakeHeld i && !b.wakeHeld i) then c.wakeNow else c)) ∧
  (∀ (s : State) (n t0 : Nat),
      (s.sw n).actSince = some t0 →
      n < 16 →
      (s.sw n).wake = true →
      (s.sw n).removed = none →
      s.operating = true →
      exec (.swinWakeStuck n) s = .next (let a := s.waitTo (t0 + (s.sw n).stuckS * 1000000000); ((a.modSw n (fun w => { w with removed := some a.hw })).raiseEv 0x24 n (swSrc n) 0x5003 1 n ((a.hw - t0) / 1000000000) 0 0).nmEvalAll)) ∧
  (∀ (s : State) (mv : List Nat),
      s.parked = true →
      exec (.swinParkCheck mv) s = .next ((List.range 16).foldl (State.swCheck mv ((s.time.parkPeriods * 50 / 32768 + 1) % 50 == 0)) { s with time.parkPeriods := ((s.time.parkPeriods * 50 / 32768 + 1) * 32768 + 49) / 50 })) ∧
  (∀ (s : State) (r : Req),
      s.serves verbSwinRead r = true →
      exec (.swinRead r) s = .next (((s.offered verbSwinRead r)).replied s verbSwinRead r stDone (b64 ((s.offered verbSwinRead r).swMap 48 Sw.state) ++ b64 ((s.offered verbSwinRead r).swMap 48 Sw.level) ++ b64 ((s.offered verbSwinRead r).swMap 48 Sw.chatter) ++ b16 ((s.offered verbSwinRead r).swMap 16 (fun w => w.removed.isSome)) ++ zeros 2 ++ b32 s.swin.lastUs))) ∧
  (∀ (s : State) (r : Req) (p : List Byte),
      s.serves verbSwinConfig r = true →
      p = r.payload →
      u8 p 0 ≤ 2 →
      u8 p 1 ≤ 3 →
      u8 p 2 ≤ 2 →
      u8 p 3 ≤ 1 →
      1 ≤ u8 p 4 →
      u8 p 5 ≠ 1 →
      10 ≤ u16 p 6 →
      u16 p 6 ≤ 10000 →
      u8 p 8 < 4 →
      1 ≤ u8 p 9 →
      u8 p 9 ≤ 5 →
      u16 p 10 = 0 ∨ (5 ≤ u16 p 10 ∧ u16 p 10 ≤ 3600) →
      r.inst < 16 →
      exec (.swinConfig r) s = .next ((((s.offered verbSwinConfig r).modSw r.inst (fun w => { w with pend := some p })).dirty).replied s verbSwinConfig r stDone []))

/-- The timed rows of the body services, each on a running BODY service that is not host-assisted: a flash phase ends
and the other starts with its time; the wiper's park switch opens at its end of the wipe, a wiper that does not reach
park within its limit stops with BODY/WIPER_STALL, an interval and a changeover pause end in the next phase; a lock
pulse ends and releases its bridges; the lock inhibit ends and clears its fault; the auto-up inhibit ends; a level
service on for its limit goes off with cause 3; a switch-off delay ends; and at a multiple of 10 ms every host-assisted
service counts a missing result and gets its record written. Rows: bodyFlashPhase, bodyWiperParkSwitch, bodyWiperStall,
bodyWiperInterval, bodyWiperChangeover, bodyLockPulseEnd, bodyLockInhibitEnd, bodyAutoUpInhibitEnd, bodyMaxOn,
bodyDelayOff, bodyHostPeriod. Rules: R294, R295, R296, R297, R298, R299. -/
def Obligations.BodyTimedRowsComplete : Prop :=
  (∀ (s : State) (inst : Nat),
      s.bodyRuns = true →
      s.bodyHosted inst = false →
      (s.svc inst).kind = 5 →
      (s.svc inst).params.getD 0 0 = 1 →
      (s.svc inst).state = 1 →
      exec (.bodyFlashPhase inst 0) s = .next (let a := s.waitTo (s.svc inst).phaseAt; (a.modSvc inst (fun x => { x with phaseOn := !x.phaseOn, phaseAt := a.hw + (if (s.svc inst).phaseOn then (s.svc inst).params.getD 2 0 else (s.svc inst).params.getD 1 0) * 1000000 })).bodyApply inst)) ∧
  (∀ (s : State) (inst : Nat),
      s.bodyRuns = true →
      s.bodyHosted inst = false →
      (s.svc inst).kind = 2 →
      ((s.bodyEval inst).svc inst).act.testBit 3 = false →
      exec (.bodyWiperParkSwitch inst) s = .next ((s.bodyEval inst).modSvc inst (fun x => { x with wipeLeft := true }))) ∧
  (∀ (s : State) (inst : Nat),
      s.bodyRuns = true →
      s.bodyHosted inst = false →
      (s.svc inst).kind = 2 →
      (s.svc inst).wipePhase = 2 →
      exec (.bodyWiperStall inst) s = .next ((((s.waitTo (s.svc inst).wipeAt).wipe inst 0 0).bodyApply inst).raiseEv 0x25 inst 168 0x5203 2 inst ((s.svc inst).parkLimit / 1000000) 0 0)) ∧
  (∀ (s : State) (inst : Nat),
      s.bodyRuns = true →
      s.bodyHosted inst = false →
      (s.svc inst).kind = 2 →
      (s.svc inst).wipePhase = 3 →
      exec (.bodyWiperInterval inst) s = .next (((s.waitTo (s.svc inst).wipeAt).wipe inst 5 0).bodyApply inst)) ∧
  (∀ (s : State) (inst : Nat),
      s.bodyRuns = true →
      s.bodyHosted inst = false →
      (s.svc inst).kind = 2 →
      (s.svc inst).wipePhase = 4 →
      exec (.bodyWiperChangeover inst) s = .next (((s.waitTo (s.svc inst).wipeAt).wipe inst (wipePhaseOf (s.svc inst).eff) (if wipePhaseOf (s.svc inst).eff = 2 then (s.svc inst).parkLimit else 0)).bodyApply inst)) ∧
  (∀ (s : State) (inst t0 : Nat),
      (s.svc inst).pulseEnd = some t0 →
      s.bodyRuns = true →
      (s.svc inst).kind = 3 →
      exec (.bodyLockPulseEnd inst) s = .next ((((s.svc inst).bridges.foldl (fun (s : State) n => s.hbEnd n 4 true) (s.waitTo t0)).modSvc inst (fun x => { x with pulseEnd := none, eff := 0, crash := false })).bodyState inst 0)) ∧
  (∀ (s : State) (inst t0 : Nat),
      (s.svc inst).inhibitEnd = some t0 →
      s.bodyRuns = true →
      exec (.bodyLockInhibitEnd inst) s = .next (((s.waitTo t0).modSvc inst (fun x => { x with inhibitEnd := none, cycles := [] })).clearFault 0x5204 0x25 inst)) ∧
  (∀ (s : State) (inst t0 : Nat),
      (s.svc inst).autoInhibit = some t0 →
      s.bodyRuns = true →
      exec (.bodyAutoUpInhibitEnd inst) s = .next ((s.waitTo t0).modSvc inst (fun x => { x with autoInhibit := none }))) ∧
  (∀ (s : State) (inst t0 : Nat),
      (s.svc inst).onSince = some t0 →
      s.bodyRuns = true →
      s.bodyHosted inst = false →
      (s.svc inst).kind = 5 →
      (s.svc inst).params.getD 3 0 ≠ 0 →
      (s.svc inst).maxed = false →
      exec (.bodyMaxOn inst) s = .next ((((s.waitTo (t0 + (s.svc inst).params.getD 3 0 * 1000000000)).modSvc inst (fun x => { x with maxed := true })).setOff inst 3).bodyApply inst)) ∧
  (∀ (s : State) (inst t0 : Nat),
      (s.svc inst).offAt = some t0 →
      s.bodyRuns = true →
      s.bodyHosted inst = false →
      exec (.bodyDelayOff inst) s = .next (((s.waitTo t0).setOff inst 0).bodyApply inst)) ∧
  (∀ (s : State),
      s.operating = true →
      s.running 0x25 0 = true →
      exec (.bodyHostPeriod) s = .next ((List.range 16).foldl (fun (s : State) i => if !s.isHost (bodyKey i) then s else let a := (if (s.hostFn (bodyKey i)).got then s else (s.hostMiss (bodyKey i)).bodyMiss i); let b := a.hostPeriod (bodyKey i) a.hw 8000000 10000000; b.regionWrite b.body.hostBuf.win b.body.hostBuf.a (32 * i) (b.bodyRecord i (b.hostFn (bodyKey i)).k b.hw)) (s.boundary 240 10000000 0)))

/-- STATUS answers the service's fields; CONFIG with kind 0 unbinds the service and otherwise binds it to its sources
and outputs; REQUEST of a level service is taken as its command; HOSTBUF sets the buffer; RESULT in time is applied.
Rows: bodyStatus, bodyConfig, bodyRequest, bodyHostbuf, bodyResult. Rules: R292, R293, R294, R295, R296, R297, R298,
R299. -/
def Obligations.BodyVerbsComplete : Prop :=
  (∀ (s : State) (r : Req) (x : BodySvc),
      s.serves verbBodyStatus r = true →
      x = s.svc r.inst →
      exec (.bodyStatus r) s = .next (((s.offered verbBodyStatus r)).replied s verbBodyStatus r stDone (b8 (Config.bodyStateCode x.kind x.state % 256) ++ b8 x.eff ++ b8 (x.act + 16 * x.inv) ++ b8 x.applied ++ b32 x.count ++ b8 ((s.offered verbBodyStatus r).modeByte (bodyKey r.inst)) ++ zeros 3))) ∧
  (∀ (s : State) (r : Req),
      s.serves verbBodyConfig r = true →
      u8 r.payload 0 = 0 →
      (s.svc r.inst).kind ≠ 0 →
      exec (.bodyConfig r) s = .next ((((((s.offered verbBodyConfig r).bodyUnbind r.inst).modSvc r.inst (fun x => { BodySvc.reset with count := x.count }))).dirty).replied s verbBodyConfig r stDone [])) ∧
  (∀ (s : State) (r : Req) (p : List Byte) (srcs : List BodySrc) (outs : List Nat) (a : State),
      s.serves verbBodyConfig r = true →
      p = r.payload →
      (List.range 4).map (fun j => ({ kind := u8 p (4 + 4 * j), a := u8 p (5 + 4 * j), b := u16 p (6 + 4 * j) } : BodySrc)) = srcs →
      (List.range 8).map (fun j => u8 p (20 + j)) = outs →
      u8 p 0 ≠ 0 →
      u8 p 0 = bodyKind r.inst →
      srcs.all srcOk = true →
      (List.range 8).all (fun j => outOk (bodyKind r.inst) j (outs.getD j 0xFF)) = true →
      bodyParOk (bodyKind r.inst) (u16s p 28 8) = true →
      srcs.all (fun q => q.kind != 3 || s.sigReadable r.win q.b) = true →
      outs.all ((s.offered verbBodyConfig r).bodyFree r.inst) = true →
      ((s.offered verbBodyConfig r).bodyUnbind r.inst).modSvc r.inst (fun x => { BodySvc.reset with kind := bodyKind r.inst, srcs := srcs, outs := outs, params := u16s p 28 8, count := x.count }) = a →
      exec (.bodyConfig r) s = .next ((let b := (a.svc r.inst).slots.foldl (fun (s : State) e => s.modOut e.2 (fun c => { c with bound := 1, boundBy := r.inst, mailbox := fZero })) a; let c := (a.svc r.inst).bridges.foldl (fun (s : State) n => s.modHb n (fun b => { b with boundBy := some r.inst })) b; (((a.svc r.inst).slots.foldl (fun (s : State) e => s.outEval e.2 false) c).bodyEval r.inst).dirty).replied s verbBodyConfig r stDone [])) ∧
  (∀ (s : State) (r : Req),
      s.serves verbBodyRequest r = true →
      (s.svc r.inst).kind = 5 →
      u8 r.payload 0 ≤ 1 →
      (s.bodyHosted r.inst) = false →
      (((s.offered verbBodyRequest r).modSvc r.inst (fun x => { x with lastReq := u8 r.payload 0 })).modSvc r.inst (fun x => { x with cmd := u8 r.payload 0, newest := if x.kind = 1 ∧ (u8 r.payload 0 = 1 ∨ u8 r.payload 0 = 2) then u8 r.payload 0 else x.newest })).bodyHosted r.inst = false →
      exec (.bodyRequest r) s = .next (((((s.offered verbBodyRequest r).modSvc r.inst (fun x => { x with lastReq := u8 r.payload 0 })).modSvc r.inst (fun x => { x with cmd := u8 r.payload 0, newest := if x.kind = 1 ∧ (u8 r.payload 0 = 1 ∨ u8 r.payload 0 = 2) then u8 r.payload 0 else x.newest })).bodyHw r.inst 0 0).replied s verbBodyRequest r stDone [])) ∧
  (∀ (s : State) (r : Req),
      s.serves verbBodyHostbuf r = true →
      (s.offered verbBodyHostbuf r).regionCheck r.win (u8 r.payload 0) 512 = none →
      (List.range 16).any (fun i => s.isHost (bodyKey i) || (s.hostFn (bodyKey i)).pending == some true) = false →
      exec (.bodyHostbuf r) s = .next ((({ (s.offered verbBodyHostbuf r) with body.hostBuf := { set := true, win := r.win, tag := r.tag, a := u8 r.payload 0, b := u8 r.payload 0 } } : State).dirty).replied s verbBodyHostbuf r stDone [])) ∧
  (∀ (s : State) (r : Req) (p : List Byte),
      s.serves verbBodyResult r = true →
      p = r.payload →
      (s.hostFn (bodyKey r.inst)).host = true →
      (s.hostFn (bodyKey r.inst)).owner = r.win →
      u32 p 0 ≠ 0 →
      (s.hostFn (bodyKey r.inst)).k = u32 p 0 →
      u8 p 5 ≤ 3 →
      (s.offered verbBodyResult r).hostInTime (bodyKey r.inst) (u32 p 0) = true →
      ((s.offered verbBodyResult r).hostResult (bodyKey r.inst)).2 = true →
      (((s.offered verbBodyResult r).hostResult (bodyKey r.inst)).1.svc r.inst).bridges = [] →
      exec (.bodyResult r) s = .next ((((s.offered verbBodyResult r).hostResult (bodyKey r.inst)).1.bodyDrive r.inst (u8 p 4)).replied s verbBodyResult r stDone []))

/-- A slot of a running table, with fewer than three bad headers in a row, sends its entry's frame and sets the next
slot's instant; one with sleep asked for sends the sleep frame; three bad headers or a bus held low mark the channel and
raise the fault; a retry starts the clean second; a wake pulse posts its event and starts the slept table 100 ms later;
the LIN verbs answer and take effect. Rows: linSlot, linBusFault, linRetry, linWakePulse, linResume, linStatus, linRead,
linConfig, linTable, linSchedule, linWrite, linSleep. Rules: R288, R289, R290, R291, R301. -/
def Obligations.LinRowsComplete : Prop :=
  (∀ (s : State) (ch n : Nat) (f : LinBus),
      (s.lin ch).running = some n →
      s.linRuns ch = true → (s.lin ch).fault = false ∨ (s.lin ch).cleanSince.isSome = true → (s.lin ch).hdrBad < 3 → (s.lin ch).sleepReq = true →
      exec (.linSlot ch f) s = .next (((s.waitTo (s.lin ch).slotAt).linSend ch 0x3C (0 :: List.replicate 7 0xFF)).modLin ch (fun x => { x with sleepReq := false, asleep := true, slept := x.running, running := none, resume := none, nextTable := none }))) ∧
  (∀ (s a b d e : State) (ch n : Nat) (f : LinBus) (q : LinEntry),
      (s.lin ch).running = some n →
      s.linRuns ch = true → (s.lin ch).fault = false ∨ (s.lin ch).cleanSince.isSome = true → (s.lin ch).hdrBad < 3 → (s.lin ch).sleepReq = false →
      a = (s.waitTo (s.lin ch).slotAt).modLin ch (fun x => (match x.nextTable with | some t => { x with running := some t, entry := 0, nextTable := none, resume := none } | none => x).wrap) →
      ((a.lin ch).table ((a.lin ch).running.getD 0))[(a.lin ch).entry]? = some q →
      b = a.modLin ch (fun x => { x with entry := x.entry + 1, slotAt := a.hw + q.slotMs * 1000000 }) →
      d = (if (a.lin ch).fault ∧ (a.lin ch).cleanSince.getD a.hw + 1000000000 ≤ a.hw then (b.modLin ch (fun x => { x with fault := false, cleanSince := none })).clearFault 0x5103 0x31 ch else b) →
      e = (d.linFrame ch q f).bodyEvalAll →
      exec (.linSlot ch f) s = .next (if (e.lin ch).fault ∧ f.hdrOk = false then e.modLin ch (fun x => { x with cleanSince := none, retryAt := e.hw + 1000000000 }) else e)) ∧
  (∀ (s a : State) (ch cause ms : Nat),
      s.linRuns ch = true →
      (s.lin ch).fault = false ∨ (s.lin ch).cleanSince.isSome = true →
      (cause = 1 ∧ (s.lin ch).hdrBad ≥ 3) ∨ (cause = 2 ∧ ms > 100) →
      a = s.modLin ch (fun x => { x with fault := true, cleanSince := none, retryAt := s.hw + 1000000000, hdrBad := 0 }) →
      exec (.linBusFault ch cause ms) s = .next (if (s.lin ch).fault then a else a.raiseEv 0x31 ch (163 + ch) 0x5103 3 ch ch cause 0)) ∧
  (∀ (s : State) (ch : Nat),
      s.linRuns ch = true →
      (s.lin ch).fault = true →
      (s.lin ch).cleanSince = none →
      exec (.linRetry ch) s = .next (let a := s.waitTo (s.lin ch).retryAt; a.modLin ch (fun x => { x with cleanSince := some a.hw, slotAt := a.hw, retryAt := a.hw + 1000000000 }))) ∧
  (∀ (s : State) (ch us t0 : Nat),
      s.linRuns ch = true →
      (s.lin ch).running = none →
      150 ≤ us →
      us ≤ 5000 →
      (s.lin ch).slept = some t0 →
      (s.lin ch).startAt = none →
      (s.lin ch).asleep = false →
      exec (.linWakePulse ch us) s = .next ((s.post 0x31 ch (163 + ch) 0x5104 ch ch us 0).modLin ch (fun x => { x with startAt := some (s.hw + 100000000, t0) }))) ∧
  (∀ (s : State) (ch t0 tab : Nat),
      (s.lin ch).startAt = some (t0, tab) →
      s.linRuns ch = true →
      exec (.linResume ch) s = .next (let a := s.waitTo t0; a.modLin ch (fun x => { x with startAt := none, asleep := false, running := some tab, slept := some tab, entry := 0, resume := none, nextTable := none, slotAt := a.hw }))) ∧
  (∀ (s : State) (r : Req) (x : LinCh),
      s.serves verbLinStatus r = true →
      x = s.lin r.inst →
      exec (.linStatus r) s = .next (((s.offered verbLinStatus r)).replied s verbLinStatus r stDone (b8 (if !x.enable then 0 else if x.fault then 3 else if x.asleep then 2 else if x.running.isSome then 1 else 0) ++ b8 (x.running.getD 0) ++ b8 x.entry ++ zeros 1 ++ b32 x.count))) ∧
  (∀ (s : State) (r : Req) (f : LinFrame),
      s.serves verbLinRead r = true →
      f = (s.lin r.inst).frame (u8 r.payload 0) →
      u8 r.payload 0 ≤ 63 →
      exec (.linRead r) s = .next (((s.offered verbLinRead r)).replied s verbLinRead r stDone (slice f.data 0 8 ++ b8 f.len ++ b8 (b2n f.stale + 2 * b2n (!f.ever)) ++ zeros 2 ++ b64 f.stamp))) ∧
  (∀ (s : State) (r : Req),
      s.serves verbLinConfig r = true →
      2400 ≤ u16 r.payload 0 →
      u16 r.payload 0 ≤ 20000 →
      u8 r.payload 2 = 1 →
      exec (.linConfig r) s = .next ((((s.offered verbLinConfig r).modLin r.inst (fun x => { x with enable := true, rate := u16 r.payload 0 })).dirty).replied s verbLinConfig r stDone [])) ∧
  (∀ (s : State) (r : Req),
      s.serves verbLinConfig r = true →
      2400 ≤ u16 r.payload 0 →
      u16 r.payload 0 ≤ 20000 →
      u8 r.payload 2 = 0 →
      exec (.linConfig r) s = .next (((((s.offered verbLinConfig r).modLin r.inst (fun x => { x with enable := false, rate := u16 r.payload 0, running := none, resume := none, nextTable := none, sleepReq := false, startAt := none, fault := false, cleanSince := none, hdrBad := 0 })).clearFault 0x5103 0x31 r.inst).dirty).replied s verbLinConfig r stDone [])) ∧
  (∀ (s : State) (r : Req) (es : List LinEntry),
      s.serves verbLinTable r = true →
      u8 r.payload 0 ≤ 7 →
      u8 r.payload 2 ≠ 0 →
      u8 r.payload 2 ≤ 64 →
      (s.offered verbLinTable r).regionCheck r.win (u8 r.payload 1) (8 * u8 r.payload 2) = none →
      (List.range (u8 r.payload 2)).map (linEntryOf ((s.offered verbLinTable r).regionRead r.win (u8 r.payload 1) 0 (8 * u8 r.payload 2))) = es →
      (s.lin r.inst).running = none →
      (s.lin r.inst).resume = none →
      es.all (LinEntry.ok · (s.lin r.inst).rate) = true →
      exec (.linTable r) s = .next (((((s.offered verbLinTable r).regionDone r.win (u8 r.payload 1) r.tag (8 * u8 r.payload 2) false).modLin r.inst (fun x => { x with tables := tset [] x.tables (u8 r.payload 0) es })).dirty).replied s verbLinTable r stDone [])) ∧
  (∀ (s : State) (r : Req),
      s.serves verbLinSchedule r = true →
      u8 r.payload 0 ≤ 7 →
      ((s.lin r.inst).table (u8 r.payload 0)).isEmpty = false →
      (s.lin r.inst).asleep = false →
      (s.lin r.inst).running = none →
      exec (.linSchedule r) s = .next (((s.offered verbLinSchedule r).modLin r.inst (fun x => { x with running := some (u8 r.payload 0), slept := some (u8 r.payload 0), entry := 0, resume := none, startAt := none, slotAt := s.hw })).replied s verbLinSchedule r stDone [])) ∧
  (∀ (s : State) (r : Req),
      s.serves verbLinSchedule r = true →
      u8 r.payload 0 ≤ 7 →
      ((s.lin r.inst).table (u8 r.payload 0)).isEmpty = false →
      (s.lin r.inst).asleep = true →
      exec (.linSchedule r) s = .next (((s.offered verbLinSchedule r).modLin r.inst (fun x => { x with pulse := some (s.hw, s.hw + 250000), startAt := some (s.hw + 250000 + 100000000, u8 r.payload 0) })).replied s verbLinSchedule r stDone [])) ∧
  (∀ (s : State) (r : Req),
      s.serves verbLinWrite r = true →
      u8 r.payload 1 ≠ 0 →
      u8 r.payload 1 ≤ 8 →
      (s.lin r.inst).published (u8 r.payload 0) = true →
      exec (.linWrite r) s = .next (((s.offered verbLinWrite r).modFrame r.inst (u8 r.payload 0) (fun f => { f with data := slice r.payload 4 (u8 r.payload 1), len := u8 r.payload 1, fresh := true })).replied s verbLinWrite r stDone [])) ∧
  (∀ (s : State) (r : Req) (n : Nat),
      s.serves verbLinSleep r = true →
      (s.lin r.inst).running = some n →
      exec (.linSleep r) s = .next (((s.offered verbLinSleep r).modLin r.inst (fun x => { x with sleepReq := true })).replied s verbLinSleep r stDone []))

/-- Link training in a gear that fits ends in state 2 and is posted, otherwise the load fault stands; a lost link, an
open or short coax supply and its retry take their states and faults; a sync pulse advances the frame number; the first
row of a free-running sensor's frame gives it its number, its last row ends it: dropped and counted on a routed port or
with no image processor, passed over for a decimated number, taken otherwise; three silent periods raise the sensor
fault; an ISP output without a tap ends the frame; a back-channel access answers its data or cause. Rows: camLinkUp,
camLinkLost, camPocOpen, camPocOpenEnd, camPocShort, camPocRetry, camFrameSync, camFrameArrival, camSensorSilent,
camIspOutput, camBackchDone. Rules: R198, R199, R200, R201, R202, R203, R204, R206, R210, R212, R214, R217. -/
def Obligations.CamEventRowsComplete : Prop :=
  (∀ (s : State) (port gear : Nat),
      s.camOn port = true →
      (s.port port).link = true →
      (s.port port).linkState = 1 →
      1 ≤ gear →
      gear ≤ 4 →
      (s.port port).fits gear = true →
      exec (.camLinkUp port gear) s = .next (((s.modPort port (fun c => { c with linkState := 2, gear := gear })).clearFault 0x9002 0x41 port).post 0x41 port (220 + port) 0x9001 port gear 0 0)) ∧
  (∀ (s : State) (port gear : Nat),
      s.camOn port = true →
      (s.port port).link = true →
      (s.port port).linkState = 1 →
      1 ≤ gear →
      gear ≤ 4 →
      (s.port port).fits gear = false →
      exec (.camLinkUp port gear) s = .next ((s.modPort port (fun c => { c with linkState := 4, gear := gear })).raiseEv 0x41 port (220 + port) 0x9002 3 port 2 gear 0)) ∧
  (∀ (s : State) (port : Nat),
      s.camOn port = true →
      (s.port port).linkState = 2 →
      exec (.camLinkLost port) s = .next ((s.modPort port (fun c => { c with linkState := 3, gear := 0 })).raiseEv 0x41 port (220 + port) 0x9002 3 port 1 (s.port port).gear 0)) ∧
  (∀ (s : State) (port cur : Nat),
      s.camOn port = true →
      (s.port port).coax = true →
      (s.port port).coaxState = 1 →
      cur < 20 →
      exec (.camPocOpen port cur) s = .next ((s.modPort port (fun c => { c with coaxState := 2, coaxCur := fFrac cur 1000 })).raiseEv 0x41 port (220 + port) 0x9003 2 port cur 0 0)) ∧
  (∀ (s : State) (port cur : Nat),
      s.camOn port = true →
      (s.port port).coax = true →
      (s.port port).coaxState = 2 →
      cur ≥ 30 →
      exec (.camPocOpenEnd port cur) s = .next ((s.modPort port (fun c => { c with coaxState := 1, coaxCur := fFrac cur 1000 })).clearFault 0x9003 0x41 port)) ∧
  (∀ (s : State) (port cur : Nat),
      s.camOn port = true →
      (s.port port).coax = true →
      (s.port port).coaxState = 1 →
      cur > 1250 →
      exec (.camPocShort port cur) s = .next ((s.modPort port (fun c => { c.linkDown with coaxState := 3, coaxRetries := 0, coaxRetryAt := s.hw + 2000000000, coaxCur := fZero })).raiseEv 0x41 port (220 + port) 0x9004 3 port cur 0 0)) ∧
  (∀ (s : State) (port cur : Nat),
      s.camOn port = true →
      (s.port port).coax = true →
      (s.port port).coaxState = 3 →
      cur ≤ 1000 →
      exec (.camPocRetry port cur) s = .next (let u := s.waitTo (s.port port).coaxRetryAt; ((u.waitTo (u.hw + 1000000000)).modPort port (fun c => { c with coaxState := 1, coaxCur := fFrac cur 1000 })).clearFault 0x9004 0x41 port)) ∧
  (∀ (s : State) (port cur : Nat),
      s.camOn port = true →
      (s.port port).coax = true →
      (s.port port).coaxState = 3 →
      cur > 1000 →
      (s.port port).coaxRetries ≥ 4 →
      exec (.camPocRetry port cur) s = .next (((s.waitTo (s.port port).coaxRetryAt).modPort port (fun c => { c with coaxState := 4, coaxRetries := c.coaxRetries + 1 })).raiseEv 0x41 port (220 + port) 0x9004 3 port cur ((s.port port).coaxRetries + 1) 1)) ∧
  (∀ (s a : State) (port : Nat),
      s.camOn port = true →
      (s.port port).sync = true →
      (s.port port).link = true →
      (s.port port).periodUs ≠ 0 →
      a = s.boundary (126 + 1000 * port) ((s.port port).periodUs * 1000) ((s.port port).phaseUs * 1000) →
      exec (.camFrameSync port) s = .next (a.modPort port (fun c => { c with frame := (c.frame + 1) % 2 ^ 32, lastSync := a.hw }))) ∧
  (∀ (s : State) (f : CamFrame) (c : CamPort) (x : CamSensor) (no : Nat) (again surplus : Bool),
      s.camOn f.port = true →
      c = s.port f.port →
      x = c.sensor f.sensor →
      c.linkState = 2 →
      f.sensor < 4 →
      x.enable = true →
      c.sync = false ∨ 1 + f.lag ≤ c.frame →
      f.begins = true →
      no = (if c.sync then c.frame - 1 - f.lag else x.frame) →
      again = decide (no < x.lastNo) →
      surplus = (if c.sync then again else (match x.lastFirst with | some t => decide (f.first < t + c.periodUs * 1000) | none => false)) →
      exec (.camFrameArrival f) s = .next ((s.waitTo f.first).modCamSensor f.port f.sensor (fun x => { x with begun := some (no, c.lastSync - f.lag * c.periodUs * 1000, surplus), frame := (x.frame + 1) % 2 ^ 32, lastNo := if c.sync && again then x.lastNo else no + 1, lastFrameAt := if surplus then x.lastFrameAt else f.first, lastFirst := if surplus then x.lastFirst else some f.first, isp := if x.pendIsp.isSome then x.pendIsp else x.isp, pendIsp := none }))) ∧
  (∀ (s : State) (f : CamFrame),
      s.camOn f.port = true →
      (s.port f.port).linkState = 2 →
      f.sensor < 4 →
      ((s.port f.port).sensor f.sensor).enable = true →
      (s.port f.port).sync = false ∨ 1 + f.lag ≤ (s.port f.port).frame →
      ((s.port f.port).sensor f.sensor).begun = none →
      f.begins = false →
      exec (.camFrameArrival f) s = .next ((s.frameBegin f).frameEnd f)) ∧
  (∀ (s : State) (f : CamFrame) (b : Nat × Nat × Bool),
      s.camOn f.port = true →
      (s.port f.port).linkState = 2 →
      f.sensor < 4 →
      ((s.port f.port).sensor f.sensor).enable = true →
      ((s.port f.port).sensor f.sensor).silent = false →
      (s.port f.port).sync = false ∨ 1 + f.lag ≤ (s.port f.port).frame →
      ((s.port f.port).sensor f.sensor).begun = some b →
      f.begins = false →
      (s.port f.port).route = 2 →
      exec (.camFrameArrival f) s = .next ((((s.waitTo f.last).modPort f.port (fun c => { c with pktErrs := satAdd 32 c.pktErrs f.pktErrs })).modCamSensor f.port f.sensor (fun x => { x with silent := false, begun := none })).frameDrop f.port f.sensor)) ∧
  (∀ (s : State) (f : CamFrame) (no tsync : Nat),
      s.camOn f.port = true →
      (s.port f.port).linkState = 2 →
      f.sensor < 4 →
      ((s.port f.port).sensor f.sensor).enable = true →
      ((s.port f.port).sensor f.sensor).silent = false →
      (s.port f.port).sync = false ∨ 1 + f.lag ≤ (s.port f.port).frame →
      ((s.port f.port).sensor f.sensor).begun = some (no, tsync, false) →
      f.begins = false →
      (s.port f.port).route ≠ 2 →
      f.err = 0 →
      (s.port f.port).decim = 1 →
      exec (.camFrameArrival f) s = .next (((((s.waitTo f.last).modPort f.port (fun c => { c with pktErrs := satAdd 32 c.pktErrs f.pktErrs })).modCamSensor f.port f.sensor (fun x => { x with silent := false, begun := none })).clearFault 0x9006 0x41 f.port).frameTake f no tsync)) ∧
  (∀ (s : State) (port sensor periods : Nat),
      s.camOn port = true →
      (s.port port).linkState = 2 →
      sensor < 4 →
      ((s.port port).sensor sensor).enable = true →
      ((s.port port).sensor sensor).silent = false →
      periods ≥ 3 →
      exec (.camSensorSilent port sensor periods) s = .next (((s.waitTo (((s.port port).sensor sensor).lastFrameAt + periods * (s.port port).periodUs * 1000)).modCamSensor port sensor (fun x => { x with silent := true })).raiseEv 0x41 port (220 + port) 0x9005 3 port sensor periods 0)) ∧
  (∀ (s u : State) (port sensor : Nat) (d : IspData),
      s.camOn port = true →
      (s.camSensor port sensor).due = true →
      u = (s.outputsWritten port sensor d).modCamSensor port sensor (fun x => { x with due := false }) →
      (u.port port).tapOn = [] →
      exec (.camIspOutput port sensor d) s = .next u) ∧
  (∀ (s : State) (port : Nat) (data : List Byte) (q : Req) (l : List Req),
      (s.port port).backch = q :: l →
      s.camOn port = true →
      ((s.modPort port (fun c => { c with backch := l })).port port).linkState = 2 →
      exec (.camBackchDone port 0 data) s = .next ((s.modPort port (fun c => { c with backch := l })).replyLater verbCamBackch q stDone (slice data 0 (u8 q.payload 3)))) ∧
  (∀ (s : State) (port cause : Nat) (data : List Byte) (q : Req) (l : List Req),
      (s.port port).backch = q :: l →
      s.camOn port = true →
      ((s.modPort port (fun c => { c with backch := l })).port port).linkState = 2 →
      cause ≠ 0 →
      exec (.camBackchDone port cause data) s = .next ((s.modPort port (fun c => { c with backch := l })).replyLater verbCamBackch q stBusy (b8 cause)))

/-- STATUS answers the port's fields; CONFIG and SENSOR in range, with the lamp bindings still fitting, end the taps, store
their settings and bring the lamp bindings to them; ISP stores a block in range for the next frame; TAP starts a capture
and is accepted; BACKCH queues the access and answers later; LAMP binds or unbinds an output; EXPOSURE is stored with the
frame it takes effect at; HOSTBUF stores the buffer; LAMP_SET in time moves every binding of the port. Rows: camStatus,
camConfig, camSensor, camIsp, camTap, camBackch, camLamp, camExposure, camHostbuf, camLampSet. Rules: R196, R198, R200,
R201, R203, R204, R209, R211, R214, R215. -/
def Obligations.CamVerbsComplete : Prop :=
  (∀ (s : State) (r : Req) (c : CamPort),
      s.serves verbCamStatus r = true →
      c = s.port r.inst →
      exec (.camStatus r) s = .next (((s.offered verbCamStatus r)).replied s verbCamStatus r stDone (b8 (s.port r.inst).linkState ++ b8 (s.port r.inst).coaxState ++ b8 (bitSet ((List.range 4).filter (fun n => ((s.port r.inst).sensor n).enable))) ++ b8 (s.port r.inst).gear ++ b32 ((s.port r.inst).frame - 1) ++ (List.range 4).flatMap (fun n => b16 ((s.port r.inst).sensor n).dropped) ++ b32 (s.port r.inst).pktErrs ++ bF (s.port r.inst).coaxCur ++ b32 ((s.port r.inst).rate / 1000) ++ b8 (s.port r.inst).route ++ b8 (s.port r.inst).decim ++ zeros 2))) ∧
  (∀ (s a b : State) (r : Req) (p : List Byte) (old c : CamPort),
      s.serves verbCamConfig r = true →
      p = r.payload →
      old = s.port r.inst →
      c = { old with link := u8 p 0 == 1, coax := u8 p 1 == 1, sync := u8 p 2 == 1, periodUs := u32 p 4, phaseUs := u32 p 8 } →
      u8 p 0 ≤ 1 →
      u8 p 1 ≤ 1 →
      u8 p 2 ≤ 1 →
      5000 ≤ u32 p 4 →
      u32 p 4 ≤ 1000000 →
      u32 p 8 < u32 p 4 →
      c.fits old.gear = true →
      s.lampsStand r.inst none c = true →
      a = (((s.offered verbCamConfig r).tapsEnd r.inst stDone).modPort r.inst (fun q => { c with tapOn := q.tapOn, taps := q.taps, sensors := tmap CamSensor.reset c.sensors (fun x => if c.sync = old.sync then x else { x with frame := 0, lastNo := 0, begun := none, expo := [], lastFirst := none }) })).modPort r.inst (fun q => { q with coaxState := if !q.coax then 0 else if old.coax && old.coaxState < 3 then old.coaxState else if old.coax && old.coaxState == 3 then 3 else 1, coaxRetries := if old.coaxState == 4 then 0 else q.coaxRetries, linkState := if !q.link then 0 else if old.link && q.coax == old.coax then old.linkState else 1, gear := if q.link && old.link && q.coax == old.coax then old.gear else 0 }) →
      b = (let a := if old.coaxState = 4 ∨ !c.coax then a.clearFault 0x9004 0x41 r.inst else a; let a := if !c.coax then a.clearFault 0x9003 0x41 r.inst else a; if !c.link then a.clearFault 0x9002 0x41 r.inst else a) →
      exec (.camConfig r) s = .next (((b.lampsOf r.inst none).foldl State.lampApply b).dirty.replied s verbCamConfig r stDone [])) ∧
  (∀ (s a b : State) (r : Req) (p : List Byte) (c : CamPort) (old x : CamSensor),
      s.serves verbCamSensor r = true →
      p = r.payload →
      c = s.port r.inst →
      old = c.sensor (u8 p 0) →
      x = { old with enable := u8 p 1 == 1, mosaic := u8 p 2, depth := u8 p 3, width := u16 p 4, height := u16 p 6, exposures := u8 p 8, shutter := u8 p 9, dataTypes := [u8 p 10, u8 p 11, u8 p 12], rowNs := u32 p 16, d0 := u32 p 20, e0 := u32 p 24, e0Init := u32 p 24, r1 := f32 p 28, r2 := f32 p 32, expo := [] } →
      u8 p 0 ≤ 3 →
      u8 p 1 ≤ 1 →
      u8 p 2 ≤ 5 →
      [8, 10, 12, 14, 16, 20, 24].contains (u8 p 3) = true →
      64 ≤ u16 p 4 →
      u16 p 4 ≤ 4096 →
      64 ≤ u16 p 6 →
      u16 p 6 ≤ 4096 →
      u16 p 4 * u16 p 6 ≤ 8294400 →
      1 ≤ u8 p 8 →
      u8 p 8 ≤ 3 →
      u8 p 9 ≤ 1 →
      u8 p 10 ≤ 0x3F →
      u8 p 11 ≤ 0x3F →
      u8 p 12 ≤ 0x3F →
      (if u8 p 9 = 0 then 1000 ≤ u32 p 16 ∧ u32 p 16 ≤ 200000 else u32 p 16 = 0) →
      u32 p 20 ≤ c.periodUs * 1000 →
      1 ≤ u32 p 24 →
      u32 p 24 ≤ c.periodUs →
      ratioOk (f32 p 28) = true →
      ratioOk (f32 p 32) = true →
      fLe (fMul (f32 p 28) (f32 p 32)) (fNat 256) = true →
      ({ c with sensors := tset CamSensor.reset c.sensors (u8 p 0) x } : CamPort).fits c.gear = true →
      s.lampsStand r.inst (some (u8 p 0)) { c with sensors := tset CamSensor.reset c.sensors (u8 p 0) x } = true →
      a = (let a := (s.offered verbCamSensor r).tapEnd r.inst (u8 p 0) stDone; if old.silent then a.clearFault 0x9005 0x41 r.inst else a) →
      b = a.modCamSensor r.inst (u8 p 0) (fun _ => { x with silent := false, lastFrameAt := a.hw, lastFirst := none, flickRun := 0, flickFrames := [] }) →
      exec (.camSensor r) s = .next (((b.lampsOf r.inst (some (u8 p 0))).foldl (fun (s : State) n => (s.lampShutter n (u8 p 9)).lampApply n) b).dirty.replied s verbCamSensor r stDone [])) ∧
  (∀ (s : State) (r : Req) (len : Nat) (p : List Byte),
      s.serves verbCamIsp r = true →
      u8 r.payload 0 ≤ 3 →
      (s.offered verbCamIsp r).regionCheck r.win (u8 r.payload 1) 2316 = none →
      min (2316 + 4 * u16 ((s.offered verbCamIsp r).regionRead r.win (u8 r.payload 1) 2312 2) 0) (2316 + 4 * 4096) = len →
      (s.offered verbCamIsp r).regionCheck r.win (u8 r.payload 1) len = none →
      (s.offered verbCamIsp r).regionRead r.win (u8 r.payload 1) 0 len = p →
      ispOk (((s.offered verbCamIsp r).regionDone r.win (u8 r.payload 1) r.tag p.length false).camSensor r.inst (u8 r.payload 0)) p = true →
      exec (.camIsp r) s = .next (((((s.offered verbCamIsp r).regionDone r.win (u8 r.payload 1) r.tag p.length false).modCamSensor r.inst (u8 r.payload 0) (fun x => { x with pendIsp := some p })).dirty).replied s verbCamIsp r stDone [])) ∧
  (∀ (s : State) (r : Req) (p : List Byte) (x : CamSensor) (roi : List Nat),
      s.serves verbCamTap r = true →
      p = r.payload →
      x = (s.port r.inst).sensor (u8 p 0) →
      roi = u16s p 6 4 →
      u8 p 0 ≤ 3 →
      u8 p 1 ≤ 7 →
      u8 p 3 ≠ 0 →
      u16 p 4 ≠ 0 →
      u16 p 4 ≤ 1024 →
      roi.getD 2 0 = 0 →
      (x.tapShape (u8 p 1) roi).2.1 ≠ 0 →
      (s.port r.inst).tapOn.contains (u8 p 0) = false →
      (s.offered verbCamTap r).regionCheck r.win (u8 p 2) (x.tapSlot (u8 p 1) roi * u16 p 4) = none →
      exec (.camTap r) s = .next ((((s.offered verbCamTap r).modPort r.inst (fun c => { c with taps := tset CamTap.reset c.taps (u8 p 0) { op := { win := r.win, tag := r.tag }, point := u8 p 1, desc := u8 p 2, every := u8 p 3, want := u16 p 4, roi := roi, seen := 0, captured := 0, skipped := 0 }, tapOn := c.tapOn ++ [u8 p 0] })).regionBegin r.win (u8 p 2) r.tag true).replied s verbCamTap r stAccepted [])) ∧
  (∀ (s : State) (r : Req),
      s.serves verbCamBackch r = true →
      u8 r.payload 0 ≤ 3 →
      u8 r.payload 1 ≤ 127 →
      u8 r.payload 2 ≤ 96 →
      u8 r.payload 3 ≤ 96 →
      (s.port r.inst).linkState = 2 →
      exec (.camBackch r) s = .next ((((s.offered verbCamBackch r).modPort r.inst (fun c => { c with backch := c.backch ++ [verbCamBackch.req r] })).settled s verbCamBackch r).modWin r.win (fun x => { x with later := x.later ++ [(verbCamBackch.req r, false)] }))) ∧
  (∀ (s : State) (r : Req),
      s.serves verbCamLamp r = true →
      u8 r.payload 0 ≤ 7 →
      u8 r.payload 1 = 0 →
      exec (.camLamp r) s = .next ((((s.offered verbCamLamp r).lampUnbind (u8 r.payload 0)).dirty).replied s verbCamLamp r stDone [])) ∧
  (∀ (s : State) (r : Req) (p : List Byte) (l : Lamp),
      s.serves verbCamLamp r = true →
      p = r.payload →
      l = { Lamp.reset with mode := u8 p 1, port := r.inst, sensor := u8 p 2, out := u8 p 3, n := u8 p 4, guardUs := u16 p 6, initOfs := i32 p 8, offset := i32 p 8, ext := 0, state := if u8 p 1 = 1 ∨ ((s.port r.inst).sensor (u8 p 2)).shutter ≠ 0 then 3 else 1 } →
      u8 p 0 ≤ 7 →
      u8 p 1 = 1 ∧ u8 p 4 ≠ 0 ∨ u8 p 1 = 2 →
      u8 p 2 ≤ 3 →
      u8 p 3 ≤ 71 →
      u16 p 6 ≤ 2000 →
      (i32 p 8).natAbs ≤ 2000000 →
      (s.port r.inst).sync = true →
      lampFits l (s.port r.inst) = true →
      (s.out (u8 p 3)).cfg.mode = 2 →
      (s.out (u8 p 3)).bound = 0 →
      exec (.camLamp r) s = .next (((((((s.offered verbCamLamp r).lampUnbind (u8 p 0)).modLamp (u8 p 0) (fun _ => l))).lampApply (u8 p 0)).dirty).replied s verbCamLamp r stDone [])) ∧
  (∀ (s : State) (r : Req) (p : List Byte) (k : Nat),
      s.serves verbCamExposure r = true →
      p = r.payload →
      k = max (u32 p 4) (s.camSensor r.inst (u8 p 0)).lastNo →
      u8 p 0 ≤ 3 →
      u32 p 8 ≠ 0 →
      u32 p 8 ≤ (s.port r.inst).periodUs →
      exec (.camExposure r) s = .next ((((s.offered verbCamExposure r).modCamSensor r.inst (u8 p 0) (fun x => { x with expo := x.expo.filter (fun q => decide (q.1 < k)) ++ [(k, u32 p 8)] })).dirty).replied s verbCamExposure r stDone (b32 k))) ∧
  (∀ (s : State) (r : Req),
      s.serves verbCamHostbuf r = true →
      s.isHost (camKey r.inst) = false →
      (s.hostFn (camKey r.inst)).pending = none →
      (s.offered verbCamHostbuf r).regionCheck r.win (u8 r.payload 0) 512 = none →
      exec (.camHostbuf r) s = .next ((((s.offered verbCamHostbuf r).modPort r.inst (fun c => { c with hostBuf := { set := true, win := r.win, tag := r.tag, a := u8 r.payload 0, b := u8 r.payload 0 } })).dirty).replied s verbCamHostbuf r stDone [])) ∧
  (∀ (s : State) (r : Req) (p : List Byte),
      s.serves verbCamLampSet r = true →
      p = r.payload →
      (s.hostFn (camKey r.inst)).host = true →
      (s.hostFn (camKey r.inst)).owner = r.win →
      (s.hostFn (camKey r.inst)).period ≠ 0 →
      u32 p 0 ≤ (s.hostFn (camKey r.inst)).k →
      (i32 p 4).natAbs ≤ 2000000 →
      (i32 p 8).natAbs ≤ 2000000 →
      (s.offered verbCamLampSet r).hostInTime (camKey r.inst) (u32 p 0) = true →
      ((s.offered verbCamLampSet r).hostResult (camKey r.inst)).2 = true →
      exec (.camLampSet r) s = .next (((((s.offered verbCamLampSet r).hostResult (camKey r.inst)).1.lampsOf r.inst none).foldl (fun (s : State) b => (s.modLamp b (fun l => { l with offset := i32 p 4, ext := i32 p 8 })).lampApply b) ((s.offered verbCamLampSet r).hostResult (camKey r.inst)).1).replied s verbCamLampSet r stDone []))

/-- Each event row of the CAN channels whose condition holds takes its effect: a received frame is stamped, counted,
matched, extracted, queued and routed; a transmission completes or fails; errors count; a matched message's hold, a
signal's time-out, a queue's age and a held route's second end at their instants; the schedule's references and windows
come at theirs; a Pantry commit takes every waiting entry at once. Rows: canFrameRx, canTxComplete, canTxPeriodic,
canTxOnChange, canBusRecovered, canRejoin, canTxdDominant, canBusError, canHpHoldExpiry, canSignalTimeout,
canQueueNotifyAge, canRouteHoldTimeout, canBasicCycle, canBackupReference, canScheduleLost, canSlotWindow,
canPantryCommit, canTpTimeout, canTpBamPacket. Rules: R325, R326, R332, R337, R341, R342, R343, R345, R346, R350, R351,
R357. -/
def Obligations.CanEventRowsComplete : Prop :=
  (∀ (s a b : State) (f : CanRx) (stamp sigAt : Nat),
      s.canLive f.ch = true →
      f.data.length ≤ 8 →
      f.fd = false →
      s.frameStamp f.ch (s.hw - f.ago) = stamp →
      s.sigStamp (s.hw - f.ago) = sigAt →
      (s.modCan f.ch (fun x => { x with rx := satAdd 32 x.rx 1 })).canErrors f.ch (s.canCh f.ch).tecErr (if (s.canCh f.ch).recErr > 127 then 127 else (s.canCh f.ch).recErr - 1) = a →
      (a.entries f.ch 5).foldl (fun (s : State) e => s.hpFrame f stamp e.2) a = b →
      exec (.canFrameRx f) s = .next ((let c := ((b.entries f.ch 1).filter (fun e => eForm e.2 == 1)).foldl (fun (s : State) e => s.rxExtract f sigAt e.1 e.2) b; (((((c.rxQueues f stamp).rxRoutes f).rxReference f (s.hw - f.ago)).tpTake f.ch f.id f.data).nmFrame f.ch).nmEvalAll))) ∧
  (∀ (s : State) (ch ago i : Nat),
      s.canLive ch = true →
      (s.canCh ch).mode = 1 →
      s.txPick ch = some (.object i) →
      exec (.canTxComplete ch 0 ago) s = .next ((s.txDone ch (s.hw - ago) (.object i)).canHostSent ch (u32 (s.pan i) 4) ((s.txSt i).onWire (s.hw - ago)))) ∧
  (∀ (s : State) (ch outcome ago : Nat) (q : TxPick),
      s.canLive ch = true →
      (s.canCh ch).mode = 1 →
      1 ≤ outcome →
      outcome ≤ 6 →
      s.txPick ch = some q →
      exec (.canTxComplete ch outcome ago) s = .next (s.txBad ch outcome q)) ∧
  (∀ (s : State) (idx : Nat),
      s.canRuns (eChan (s.pan idx)) = true →
      s.isHeadAt idx = true →
      u8 (s.pan idx) 9 = 1 →
      u16 (s.pan idx) 12 ≠ 0 →
      exec (.canTxPeriodic idx) s = .next ((s.boundary (270 + 1000 * idx) (u16 (s.pan idx) 12 * 1000000) (u16 (s.pan idx) 14 * 1000000)).txRequest idx false)) ∧
  (∀ (s : State) (idx t0 : Nat),
      s.canRuns (eChan (s.pan idx)) = true →
      s.isHeadAt idx = true →
      u8 (s.pan idx) 9 = 3 →
      (s.packsOf idx).map (fun m => (s.sig (u16 m 0)).stamp) ≠ (s.txSt idx).seen →
      (s.txSt idx).lastReq = some t0 →
      exec (.canTxOnChange idx) s = .next ((s.waitTo (t0 + u16 (s.pan idx) 12 * 1000000)).txRequest idx false)) ∧
  (∀ (s : State) (ch : Nat),
      s.canRuns ch = true →
      (s.canCh ch).state = 3 →
      (s.canCh ch).recovering = true →
      exec (.canBusRecovered ch) s = .next ((s.modCan ch (fun x => { x with state := 1, recovering := false, tecErr := 0, recErr := 0, joining := false })).clearFault 0x6002 0x30 ch)) ∧
  (∀ (s : State) (ch : Nat),
      s.canRuns ch = true →
      (s.canCh ch).mode ≠ 0 →
      ∃ t, exec (.canRejoin ch) s = .next t ∧
        (t.canCh ch).joining = false ∧
        SameBut [.can] s t) ∧
  (∀ (s : State) (ch us : Nat),
      s.canLive ch = true →
      us > 4000 →
      exec (.canTxdDominant ch us) s = .next (s.raiseEv 0x30 ch (185 + ch) 0x6003 3 ch 0 0 0)) ∧
  (∀ (s : State) (ch inc : Nat),
      s.canLive ch = true →
      exec (.canBusError ch inc) s = .next (let a := s.modCan ch (fun x => { x with errs := satAdd 32 x.errs 1 }); a.canErrors ch (a.canCh ch).tecErr (min 255 ((a.canCh ch).recErr + inc)))) ∧
  (∀ (s : State) (ch k i t0 : Nat) (q : List Byte),
      (s.entries ch 5).find? (fun e => eForm e.2 == k) = some (i, q) →
      u8 q 12 = 3 →
      (tget HpMatch.reset (s.canCh ch).hpms k).term = false →
      (tget HpMatch.reset (s.canCh ch).hpms k).lastAt = some t0 →
      s.operating = true →
      exec (.canHpHoldExpiry ch k) s = .next ((s.waitTo (t0 + u16 q 14 * 1000000)).modCan ch (fun x => { x with hpms := tmod HpMatch.reset x.hpms k (fun h => { h with term := true }) }))) ∧
  (∀ (s : State) (idx : Nat),
      s.operating = true →
      s.running 0x30 0 = true →
      tget 0 s.can.sigTimeouts idx ≠ 0 →
      eType (s.pan idx) = 1 →
      eForm (s.pan idx) = 1 →
      u16 (s.pan idx) 12 ≠ 0 →
      exec (.canSignalTimeout idx) s = .next (({ (s.waitTo (tget 0 s.can.sigTimeouts idx - 1 + u16 (s.pan idx) 12 * 1000000)) with can.sigTimeouts := tset 0 s.can.sigTimeouts idx 0 } : State).modFlags (u16 (s.pan idx) 16) (· ||| fgStale))) ∧
  (∀ (s a : State) (ch q t0 : Nat) (l : List Nat),
      s.canRuns ch = true →
      (s.canQ ch q).consumer = 1 →
      s.queueRead ch q = a →
      (a.canQ ch q).posts = t0 :: l →
      (a.canQ ch q).notified = false →
      exec (.canQueueNotifyAge ch q) s = .next ((a.waitTo (t0 + (a.canQ ch q).ageMs * 1000000)).queueNotify ch q)) ∧
  (∀ (s a : State) (ch : Nat) (g : GwFrame),
      (s.canCh ch).fifo.find? (·.held) = some g →
      s.canRuns ch = true →
      s.waitTo (g.arrAt + 1000000000) = a →
      exec (.canRouteHoldTimeout ch) s = .next ((((a.canCh ch).fifo.filter (fun h => h.held && decide (h.arrAt + 1000000000 ≤ a.hw))).foldl (fun (s : State) g => s.routeDrop g.src ch 4) (a.modCan ch (fun x => { x with fifo := (a.canCh ch).fifo.filter (fun h => !(h.held && decide (h.arrAt + 1000000000 ≤ a.hw))) }))).nmEvalAll)) ∧
  (∀ (s a : State) (ch : Nat),
      s.canRuns ch = true →
      (s.canCh ch).sched.role = 1 →
      (s.boundary (277 + 1000 * ch) ((s.canCh ch).sched.cycleUs * 1000) ((s.canCh ch).sched.phaseUs * 1000)).schedApply ch = a →
      (a.canCh ch).sched.role = 1 →
      exec (.canBasicCycle ch) s = .next (a.sendReference ch ((a.hw - (a.canCh ch).sched.phaseUs * 1000) / ((a.canCh ch).sched.cycleUs * 1000) % (a.canCh ch).sched.matrix))) ∧
  (∀ (s a : State) (ch t0 : Nat),
      (s.canCh ch).lastRef = some t0 →
      s.canRuns ch = true →
      (s.canCh ch).sched.role = 3 →
      (s.waitTo (t0 + ((s.canCh ch).sched.cycleUs + (if (s.canCh ch).backup then 0 else (s.canCh ch).sched.backupUs)) * 1000)).schedApply ch = a →
      (a.canCh ch).sched.role = 3 →
      exec (.canBackupReference ch) s = .next ((a.sendReference ch (((s.canCh ch).cycle + 1) % (a.canCh ch).sched.matrix)).clearFault 0x6008 0x30 ch)) ∧
  (∀ (s : State) (ch t0 : Nat),
      (s.canCh ch).lastRef = some t0 →
      s.canRuns ch = true →
      (s.canCh ch).sched.role = 2 →
      (s.canCh ch).backup = false →
      (s.canCh ch).synced = true →
      exec (.canScheduleLost ch) s = .next (let a := s.waitTo (t0 + (s.canCh ch).sched.cycleUs * 1500); (a.modCan ch (fun x => { x with synced := false, schedLost := true })).raiseEv 0x30 ch (185 + ch) 0x6008 3 ch (s.canCh ch).cycle ((a.hw - t0) / (max 1 (s.canCh ch).sched.cycleUs * 1000)) 0)) ∧
  (∀ (s : State) (idx c t0 : Nat),
      c = eChan (s.pan idx) →
      s.canRuns c = true →
      (s.entries c 3).any (fun q => q.1 == idx) = true →
      (s.canCh c).sched.role ≠ 0 →
      (s.canCh c).synced = true →
      (s.canCh c).lastRef = some t0 →
      slotActive (s.pan idx) (s.canCh c).cycle = true →
      tget 0 s.time.ticks (280 + 1000 * idx) ≠ t0 + u16 (s.pan idx) 4 * 1000 + 1 →
      eForm (s.pan idx) = 0 →
      ({ (s.waitTo (t0 + u16 (s.pan idx) 4 * 1000)) with time.ticks := tset 0 (s.waitTo (t0 + u16 (s.pan idx) 4 * 1000)).time.ticks (280 + 1000 * idx) (t0 + u16 (s.pan idx) 4 * 1000 + 1) } : State).isHeadAt (u16 (s.pan idx) 10) = true →
      exec (.canSlotWindow idx) s = .next (({ (s.waitTo (t0 + u16 (s.pan idx) 4 * 1000)) with time.ticks := tset 0 (s.waitTo (t0 + u16 (s.pan idx) 4 * 1000)).time.ticks (280 + 1000 * idx) (t0 + u16 (s.pan idx) 4 * 1000 + 1) } : State).txRequest (u16 (s.pan idx) 10) true)) ∧
  (∀ (s : State),
      s.operating = true →
      exec (.canPantryCommit) s = .next (({ s with can.pendPantry := [] } : State).panCommit s.can.pendPantry)) ∧
  (∀ (s : State) (ch i : Nat),
      s.canRuns ch = true →
      s.keeper.paused = false →
      i < (s.canCh ch).sessions.length →
      (s.tpSess ch i).tmo ≠ 0 →
      s.isHost (canKey ch) = false →
      (s.tpSess ch i).kind = 0 →
      exec (.canTpTimeout ch i) s = .next ((s.waitTo ((s.tpSess ch i).lastAt + (s.tpSess ch i).tmo * 1000000)).tpAbort ch i 3)) ∧
  (∀ (s : State) (ch i : Nat),
      s.canRuns ch = true →
      s.keeper.paused = false →
      (s.tpSess ch i).send = true →
      (s.tpSess ch i).kind = 0 →
      s.isHost (canKey ch) = false →
      (s.tpSess ch i).packets + 1 < tpPackets (s.tpSess ch i).total →
      exec (.canTpBamPacket ch i) s = .next (let a := (s.waitTo (s.tpSess ch i).nextAt).tpSendWindow ch i ((s.tpSess ch i).packets + 1) 1; a.modTp ch i (fun x => { x with tmo := 0, nextAt := a.hw + (a.canCh ch).tpBamMs * 1000000 })))

/-- STATUS, HP_READ and TX_STATUS answer their fields; CONFIG in range stores the settings; PANTRY reads entries out or
takes a checked write for the next commit; QUEUE sets a queue's consumer; SCHEDULE stores the schedule; RECOVER of a
channel in bus off starts the recovery; SEND stores data and requests the object; TP sets the transport of a channel;
TP_SEND starts a session. Rows: canStatus, canHpRead, canTxStatus, canConfig, canPantry, canQueue, canSchedule,
canRecover, canSend, canTp, canTpSend. Rules: R323, R325, R326, R329, R330, R333, R338, R341, R343, R345, R351, R353. -/
def Obligations.CanVerbsComplete : Prop :=
  (∀ (s : State) (r : Req) (x : CanCh),
      s.serves verbCanStatus r = true →
      x = s.canCh r.inst →
      exec (.canStatus r) s = .next (((s.offered verbCanStatus r)).replied s verbCanStatus r stDone (b8 x.report ++ b8 (min 255 x.tecErr) ++ b8 (min 255 x.recErr) ++ b8 (b2n x.synced + 2 * b2n x.backup + 4 * b2n x.term + 8 * b2n x.fd) ++ b32 x.rx ++ b32 x.tx ++ b32 x.errs ++ b32 x.gwDrops ++ b8 (x.cycle % 64) ++ b8 0 ++ b16 x.busOffs))) ∧
  (∀ (s : State) (r : Req) (q : HpMatch),
      s.serves verbCanHpRead r = true →
      tget HpMatch.reset (s.canCh r.inst).hpms (u8 r.payload 0) = q →
      u8 r.payload 0 ≤ 7 →
      exec (.canHpRead r) s = .next (((s.offered verbCanHpRead r)).replied s verbCanHpRead r stDone (b64 q.stamp ++ b32 q.id ++ b8 q.len ++ b8 (b2n q.term) ++ b16 q.passes ++ slice q.data 0 64))) ∧
  (∀ (s : State) (r : Req) (q : TxState),
      s.serves verbCanTxStatus r = true →
      (s.offered verbCanTxStatus r).txSt (u16 r.payload 0) = q →
      (s.offered verbCanTxStatus r).isHeadAt (u16 r.payload 0) = true →
      exec (.canTxStatus r) s = .next (((s.offered verbCanTxStatus r)).replied s verbCanTxStatus r stDone (b8 q.state ++ b8 q.outcome ++ zeros 2 ++ b32 q.sent ++ b32 q.fails ++ b32 q.overruns ++ b64 q.stamp))) ∧
  (∀ (s : State) (r : Req) (p : List Byte),
      s.serves verbCanConfig r = true →
      p = r.payload →
      u8 p 0 ≤ 2 →
      u8 p 1 ≤ 7 →
      50 ≤ u8 p 2 →
      u8 p 2 ≤ 90 →
      50 ≤ u8 p 3 →
      u8 p 3 ≤ 90 →
      50000 ≤ u32 p 4 →
      u32 p 4 ≤ 1000000 →
      80000000 % u32 p 4 = 0 →
      bit (u8 p 1) 0 = false →
      (s.canCh r.inst).mode = u8 p 0 →
      (s.canCh r.inst).fd = false →
      (s.canCh r.inst).spArb = u8 p 2 →
      (s.canCh r.inst).spData = u8 p 3 →
      (s.canCh r.inst).rateArb = u32 p 4 →
      exec (.canConfig r) s = .next ((((s.offered verbCanConfig r).modCan r.inst (fun x => { x with mode := u8 p 0, fd := false, term := bit (u8 p 1) 1, autoRec := bit (u8 p 1) 2, spArb := u8 p 2, spData := u8 p 3, rateArb := u32 p 4, rateData := (s.canCh r.inst).rateData })).dirty).replied s verbCanConfig r stDone [])) ∧
  (∀ (s : State) (r : Req) (p : List Byte),
      s.serves verbCanConfig r = true →
      p = r.payload →
      u8 p 0 ≤ 2 →
      u8 p 1 ≤ 7 →
      50 ≤ u8 p 2 →
      u8 p 2 ≤ 90 →
      50 ≤ u8 p 3 →
      u8 p 3 ≤ 90 →
      50000 ≤ u32 p 4 →
      u32 p 4 ≤ 1000000 →
      80000000 % u32 p 4 = 0 →
      bit (u8 p 1) 0 = false →
      (s.canCh r.inst).mode ≠ u8 p 0 →
      (s.canCh r.inst).usable = false →
      exec (.canConfig r) s = .next ((((((s.offered verbCanConfig r).modCan r.inst (fun x => { x with mode := u8 p 0, fd := false, term := bit (u8 p 1) 1, autoRec := bit (u8 p 1) 2, spArb := u8 p 2, spData := u8 p 3, rateArb := u32 p 4, rateData := (s.canCh r.inst).rateData })).modCan r.inst (fun x => { x with joining := u8 p 0 != 0, state := if u8 p 0 = 0 then 0 else 1, tecErr := 0, recErr := 0, recovering := false })).clearFault 0x6002 0x30 r.inst).dirty).replied s verbCanConfig r stDone [])) ∧
  (∀ (s : State) (r : Req) (a : State) (run : List (Nat × List Byte)),
      s.serves verbCanPantry r = true →
      u8 r.payload 0 = 0 →
      u16 r.payload 4 ≠ 0 →
      u16 r.payload 2 + u16 r.payload 4 ≤ 16384 →
      (s.offered verbCanPantry r).regionCheck r.win (u8 r.payload 1) (32 * u16 r.payload 4) = none →
      (s.offered verbCanPantry r).panRun (verbCanPantry.req r) = run →
      (s.offered verbCanPantry r).regionDone r.win (u8 r.payload 1) r.tag (32 * u16 r.payload 4) false = a →
      (headsOf (panWrite (s.offered verbCanPantry r).panNext run) run).findSome? (fun e => (a.entryCheck r.win (a.panRange r.win).2 (panWrite (s.offered verbCanPantry r).panNext run) e.1 e.2).map (fun c => (e.1, c.1, c.2))) = none →
      exec (.canPantry r) s = .next ((({ a with can.pendPantry := a.can.pendPantry ++ run } : State).dirty).replied s verbCanPantry r stDone [])) ∧
  (∀ (s : State) (r : Req),
      s.serves verbCanPantry r = true →
      u8 r.payload 0 = 1 →
      u16 r.payload 4 ≠ 0 →
      u16 r.payload 2 + u16 r.payload 4 ≤ 16384 →
      (s.offered verbCanPantry r).regionCheck r.win (u8 r.payload 1) (32 * u16 r.payload 4) = none →
      exec (.canPantry r) s = .next ((((s.offered verbCanPantry r).regionWrite r.win (u8 r.payload 1) 0 ((List.range (u16 r.payload 4)).map (fun j => if (s.offered verbCanPantry r).right r.win 0x30 ((s.offered verbCanPantry r).ownerChan (u16 r.payload 2 + j)) false then slice ((s.offered verbCanPantry r).pan (u16 r.payload 2 + j)) 0 32 else zeros 32)).flatten).regionDone r.win (u8 r.payload 1) r.tag (32 * u16 r.payload 4) true).replied s verbCanPantry r stDone [])) ∧
  (∀ (s : State) (r : Req),
      s.serves verbCanQueue r = true →
      u8 r.payload 0 ≤ 15 →
      u8 r.payload 1 = 0 →
      ((s.offered verbCanQueue r).canQ r.inst (u8 r.payload 0)).consumer = 0 →
      ((s.offered verbCanQueue r).canQ r.inst (u8 r.payload 0)).overflow = false →
      exec (.canQueue r) s = .next ((((s.offered verbCanQueue r).modQ r.inst (u8 r.payload 0) (fun _ => CanQueue.reset)).dirty).replied s verbCanQueue r stDone [])) ∧
  (∀ (s : State) (r : Req),
      s.serves verbCanQueue r = true →
      u8 r.payload 0 ≤ 15 →
      u8 r.payload 1 = 1 →
      u8 r.payload 2 ≤ 63 →
      u8 r.payload 3 ≠ 0 →
      u8 r.payload 4 ≠ 0 →
      u8 r.payload 4 ≤ 100 →
      (s.offered verbCanQueue r).regionCheck r.win (u8 r.payload 2) 1600 = none →
      ((s.offered verbCanQueue r).canQ r.inst (u8 r.payload 0)).consumer = 0 →
      ((s.offered verbCanQueue r).canQ r.inst (u8 r.payload 0)).overflow = false →
      exec (.canQueue r) s = .next ((let a := (s.offered verbCanQueue r).modQ r.inst (u8 r.payload 0) (fun _ => { CanQueue.reset with consumer := 1, win := r.win, desc := u8 r.payload 2, thr := u8 r.payload 3, ageMs := u8 r.payload 4 }); (a.regionWrite r.win (u8 r.payload 2) 0 (b32 0 ++ b32 0 ++ b32 (a.queueE (a.canQ r.inst (u8 r.payload 0))) ++ b32 0)).dirty).replied s verbCanQueue r stDone [])) ∧
  (∀ (s : State) (r : Req) (p : List Byte),
      s.serves verbCanSchedule r = true →
      p = r.payload →
      u8 p 0 ≤ 3 →
      isPow (u8 p 1) = true →
      bits (u32 p 4) 30 29 = 0 →
      1000 ≤ u16 p 8 →
      (u8 p 0 = 1 → u16 p 10 < u16 p 8) →
      100 ≤ u16 p 12 →
      u16 p 12 ≤ 10000 →
      exec (.canSchedule r) s = .next ((let a := (s.offered verbCanSchedule r).modCan r.inst (fun x => { x with pendSched := some { role := u8 p 0, matrix := u8 p 1, refId := u32 p 4, cycleUs := u16 p 8, phaseUs := u16 p 10, backupUs := u16 p 12 } }); (if (a.canCh r.inst).sched.role = 0 ∨ ((a.canCh r.inst).sched.role ≠ 1 ∧ (a.canCh r.inst).synced = false) then a.schedApply r.inst else a).dirty).replied s verbCanSchedule r stDone [])) ∧
  (∀ (s : State) (r : Req),
      s.serves verbCanRecover r = true →
      (s.canCh r.inst).report = 3 →
      exec (.canRecover r) s = .next (((s.offered verbCanRecover r).modCan r.inst (fun x => { x with recovering := true })).replied s verbCanRecover r stDone [])) ∧
  (∀ (s : State) (r : Req) (i : Nat),
      s.serves verbCanSend r = true →
      i = u16 r.payload 0 →
      (s.offered verbCanSend r).isHeadAt i = true →
      u8 r.payload 2 = 0 →
      u8 r.payload 3 ≠ 0 →
      u8 r.payload 3 ≤ u8 ((s.offered verbCanSend r).pan i) 8 →
      (s.canCh (eChan ((s.offered verbCanSend r).pan i))).usable = true →
      u8 ((s.offered verbCanSend r).pan i) 9 = 0 →
      exec (.canSend r) s = .next ((((s.offered verbCanSend r).modTx i (fun t => { t with stored := some (overwrite ((s.offered verbCanSend r).txStored i) 0 (slice r.payload 4 (u8 r.payload 3))) })).txRequest i false).replied s verbCanSend r stDone [])) ∧
  (∀ (s : State) (r : Req) (p : List Byte),
      s.serves verbCanTp r = true →
      p = r.payload →
      u8 p 0 = 0 →
      u8 p 1 ≤ 253 →
      u8 p 2 ≠ 0 →
      u8 p 2 ≤ 16 →
      50 ≤ u8 p 3 →
      u8 p 3 ≤ 200 →
      u8 p 4 ≤ 63 →
      exec (.canTp r) s = .next (((((((s.offered verbCanTp r).drawNat.2.tpAbortAll r.inst ((s.offered verbCanTp r).drawNat.1 % 256)).modCan r.inst (fun x => { x with tpOn := false, tpAddr := u8 p 1, tpCts := u8 p 2, tpBamMs := u8 p 3, tpWin := r.win, tpDesc := u8 p 4, tpProd := 0, tpCons := 0, tpRefused := 0, hostWait := [], hostWin := [] })).canHostRefresh r.inst)).dirty).replied s verbCanTp r stDone [])) ∧
  (∀ (s : State) (r : Req) (p : List Byte),
      s.serves verbCanTpSend r = true →
      p = r.payload →
      u8 p 0 ≤ 63 →
      u8 p 2 ≤ 7 →
      u8 p 1 = 255 →
      9 ≤ u32 p 8 →
      u32 p 8 ≤ 1785 →
      (s.offered verbCanTpSend r).regionCheck r.win (u8 p 0) (u32 p 8) = none →
      (s.canCh r.inst).tpOn = true →
      s.isHost (canKey r.inst) = false →
      (s.canCh r.inst).usable = true →
      (s.offered verbCanTpSend r).tpCount r.inst true < 16 →
      (s.offered verbCanTpSend r).tpFind r.inst true 255 true = none →
      exec (.canTpSend r) s = .next ((((((s.offered verbCanTpSend r).regionBegin r.win (u8 p 0) r.tag false).modCan r.inst (fun y => { y with sessions := y.sessions ++ [{ TpSession.reset with active := true, send := true, kind := 0, peer := 255, dest := 255, pgn := u32 p 4 % 2 ^ 24, prio := u8 p 2, total := u32 p 8, op := some { win := r.win, tag := r.tag }, desc := u8 p 0, lastAt := s.hw, tmo := 0, nextAt := s.hw + (s.canCh r.inst).tpBamMs * 1000000 }] })).tpCm r.inst (u8 p 2) 255 false (b8 32 ++ b16 (u32 p 8) ++ b8 (tpPackets (u32 p 8)) ++ [255]) (u32 p 4))).replied s verbCanTpSend r stAccepted []))

/-- A sample arrival gives its stamp to every matching window of a running slot; the input close judges each window,
projects the camera inputs, queues the release of its step L later and counts the step and its skipped ones; a release
writes the outputs at its instant; a release later than its instant marks the slot and raises the overrun fault; the
CROWN verbs answer and take effect. Rows: crownSampleArrival, crownInputClose, crownRelease, crownOverrun, crownStatus,
crownModel, crownLoad, crownBind, crownCalib, crownOutbuf, crownStart, crownStop, crownHostbuf, crownResult. Rules:
R219, R220, R222, R223, R224, R226, R227, R234, R235, R236, R237, R242. -/
def Obligations.CrownRowsComplete : Prop :=
  (∀ (s : State) (index out stamp : Nat) (block : List Byte) (cam : CamSensor) (sm : CrownSample),
      s.trunkOn = true →
      cam = (s.camSensor (index / 4) (index % 4)).ofDue →
      cam.hdr ≠ [] →
      sm = { stamp := u64 cam.hdr 0, data := tget [] cam.outs out, crop := [(cam.scaled out).2.2.1, (cam.scaled out).2.2.2.1, (cam.scaled out).2.1, (cam.scaled out).2.2.2.2.1 / max 1 (cam.scaled out).2.1, (cam.scaled out).2.2.2.2.2 / max 1 (cam.scaled out).2.1] } →
      exec (.crownSampleArrival 1 index out stamp block) s = .next ((List.range 16).foldl (fun (s : State) m => if (s.slot m).state ≠ 2 ∨ !s.crownServes (s.slot m).unit then s else (s.slot m).windowed.foldl (fun (t : State) i => if !((s.slot m).bind' i).matches' 1 index out then t else t.sampleIn m i sm) s) s)) ∧
  (∀ (s : State) (index out stamp : Nat) (block : List Byte),
      s.trunkOn = true →
      exec (.crownSampleArrival 2 index out stamp block) s = .next ((List.range 16).foldl (fun (s : State) m => if (s.slot m).state ≠ 2 ∨ !s.crownServes (s.slot m).unit then s else (s.slot m).windowed.foldl (fun (t : State) i => if !((s.slot m).bind' i).matches' 2 index out then t else ((t.modSlot m (fun x => { x with surplus := satAdd 32 x.surplus (lidarCount block - u16 ((s.slot m).bind' i).fields 2) })).project (s.slot m).unit ((lidarPoints block (u16 ((s.slot m).bind' i).fields 2)).length * (s.slot m).targets i)).sampleIn m i { stamp := stamp, data := block }) s) s)) ∧
  (∀ (s a : State) (slot j : Nat) (x : CrownSlot) (present : Tab CrownSample),
      x = s.slot slot →
      x.state = 2 →
      s.crownServes x.unit = true →
      slot < 16 →
      j = x.nextStep →
      a = x.windowed.foldl (fun (s : State) i => s.judgeIn slot j i) (s.waitTo (x.cj j)) →
      present = x.presentIn (a.slot slot) j →
      exec (.crownInputClose slot) s = .next ((a.project x.unit (65536 * (present.filter (fun e => (x.bind' e.1).kind == 1 && u8 (x.bind' e.1).fields 3 == 1)).length)).crownLaunch slot j present ((s.waitTo (x.cj j)).lateIn x j))) ∧
  (∀ (s a : State) (slot j t0 how : Nat) (rest : List (Nat × Nat × Nat)) (x : CrownSlot) (d : CrownOut),
      s.trunkOn = true →
      x = s.slot slot →
      x.overrun = false →
      x.releases = (j, t0, how) :: rest →
      how ≠ 2 →
      s.crownServes x.unit = true →
      a = ((((s.waitTo t0).modSlot slot (fun x => { x with releases := rest, uncomp := x.uncomp.filter (fun e => decide (j < e)) })).crownWrite slot j (how == 1) (x.uncomp.contains j) d).crownPend slot) →
      exec (.crownRelease slot d) s = .next (if x.state = 2 ∨ !rest.isEmpty then a else a.crownIdle slot)) ∧
  (∀ (s : State) (slot delay j t0 how : Nat) (rest : List (Nat × Nat × Nat)) (d : CrownOut),
      (s.slot slot).releases = (j, t0, how) :: rest →
      s.trunkOn = true →
      how ≠ 2 →
      delay ≠ 0 →
      s.crownServes (s.slot slot).unit = true →
      exec (.crownOverrun slot delay d) s = .next (((s.crownRelease slot (delay * 1000) d).modSlot slot (fun x => { x with overrun := true })).raiseEv 0x42 (s.slot slot).unit 226 0x9107 6 slot delay (j % 2 ^ 32) 0)) ∧
  (∀ (s : State) (r : Req) (st : Nat),
      s.serves verbCrownStatus r = true →
      st = (if (s.offered verbCrownStatus r).keeper.retired.contains r.inst then 2 else if ((s.offered verbCrownStatus r).unitSt 0x42 r.inst).phase == .off then 1 else 0) →
      exec (.crownStatus r) s = .next (((s.offered verbCrownStatus r)).replied s verbCrownStatus r stDone (b8 st ++ b8 (if st = 0 then (s.crownUnit r.inst).level else 0) ++ b8 ((s.offered verbCrownStatus r).tilesUsed r.inst) ++ b8 ((s.offered verbCrownStatus r).hosted r.inst) ++ b32 (if st = 0 then (((s.crownUnit r.inst).points.filter (fun e => decide (s.hw < e.1 + 1000000000))).foldl (fun n e => n + e.2) 0) else 0) ++ b32 (s.crownUnit r.inst).steps ++ b32 (s.crownUnit r.inst).skipped))) ∧
  (∀ (s : State) (r : Req) (x : CrownSlot),
      s.serves verbCrownModel r = true →
      x = s.slot (u8 r.payload 0) →
      u8 r.payload 0 ≤ 15 →
      x.state ≠ 0 →
      x.unit = r.inst →
      exec (.crownModel r) s = .next (((s.offered verbCrownModel r)).replied s verbCrownModel r stDone (b8 x.state ++ b8 x.unit ++ b8 x.decl.shape ++ b8 ((s.offered verbCrownModel r).slotD x) ++ b32 ((s.offered verbCrownModel r).slotL x / 1000) ++ b8 (bitSet (x.windowed.filter (fun i => !(x.inp i).out))) ++ b8 (bitSet ((List.range x.decl.kinds.length).filter (fun i => (x.bind' i).kind != 0))) ++ zeros 2 ++ b32 x.lastStep ++ b32 x.folded ++ b32 x.discarded ++ b32 x.outWin ++ b32 x.surplus))) ∧
  (∀ (s a : State) (r : Req) (m : Nat) (x : CrownSlot),
      s.serves verbCrownLoad r = true →
      m = u8 r.payload 0 →
      m ≤ 15 →
      u8 r.payload 1 = 0 →
      x = s.slot m →
      x.state = 1 ∧ x.unit = r.inst ∨ x.state = 3 →
      a = (((if x.state = 3 then (s.offered verbCrownLoad r).clearFault 0x9106 0x42 x.unit else s.offered verbCrownLoad r).modHost (crownKey m x.unit) (fun _ => HostFn.reset)).modSlot m (fun _ => CrownSlot.reset)).zeroSlot m →
      exec (.crownLoad r) s = .next (a.dirty.replied s verbCrownLoad r stDone (a.loadReply r.inst x.decl))) ∧
  (∀ (s : State) (r : Req) (p : List Byte) (m k : Nat) (d : ModelDecl),
      s.serves verbCrownLoad r = true →
      p = r.payload →
      m = u8 p 0 →
      m ≤ 15 →
      u8 p 1 = 1 →
      s.crown.models.find? (fun e => e.1 == u16 p 2) = some (k, d) →
      shapeMin d.shape ≤ u32 p 4 →
      u32 p 4 ≤ 200000 →
      u32 p 8 < u32 p 4 →
      (u32 p 4 + 3) / 4 ≤ u32 p 12 →
      u32 p 12 ≤ u32 p 4 →
      u8 p 16 ≤ shapeInputs d.shape →
      fLe (fFrac 1 2) (f32 p 20) = true →
      fLe (f32 p 20) (fNat 6) = true →
      (s.slot m).state = 0 →
      (s.offered verbCrownLoad r).tilesUsed r.inst + shapeTiles d.shape ≤ 8 →
      exec (.crownLoad r) s = .next (((((((s.offered verbCrownLoad r).modSlot m (fun _ => { CrownSlot.reset with state := 1, unit := r.inst, model := u16 p 2, decl := d, stepUs := u32 p 4, phaseUs := u32 p 8, closeUs := u32 p 12, minIn := u8 p 16, ground := f32 p 20 })).zeroSlot m).crownReset m 2)).dirty).replied s verbCrownLoad r stDone (((((s.offered verbCrownLoad r).modSlot m (fun _ => { CrownSlot.reset with state := 1, unit := r.inst, model := u16 p 2, decl := d, stepUs := u32 p 4, phaseUs := u32 p 8, closeUs := u32 p 12, minIn := u8 p 16, ground := f32 p 20 })).zeroSlot m).crownReset m 2).loadReply r.inst d))) ∧
  (∀ (s : State) (r : Req) (p : List Byte) (x : CrownSlot) (z : State),
      s.serves verbCrownBind r = true →
      p = r.payload →
      s.slot (u8 p 0) = x →
      u8 p 0 ≤ 15 →
      x.state ≠ 0 →
      x.state ≠ 2 →
      x.unit = r.inst →
      u8 p 1 < x.decl.kinds.length →
      u8 p 2 ≤ 3 →
      u8 p 2 = 0 ∨ u8 p 2 = x.decl.kinds.getD (u8 p 1) 0 →
      bindOk x.decl (u8 p 2) (slice p 4 12) = true →
      ¬(u8 p 2 = 1 ∧ u8 (slice p 4 12) 0 ≥ camPorts s.variant) →
      ¬(u8 p 2 = 3 ∧ !(u16s (slice p 4 12) 0 6).all (fun id => id == 0xFFFF || s.sigReadable r.win id)) →
      (s.offered verbCrownBind r).modSlot (u8 p 0) (fun _ => { x with binds := tset CrownBind.reset x.binds (u8 p 1) (if u8 p 2 = 0 then CrownBind.reset else { kind := u8 p 2, fields := slice p 4 12 }), ins := tdel x.ins (u8 p 1) }) = z →
      (List.range 16).foldl (fun n k => if (z.slot k).state ≠ 0 ∧ (z.slot k).unit = x.unit then n + (z.slot k).projection else n) 0 ≤ 2000000 →
      exec (.crownBind r) s = .next ((z.dirty).replied s verbCrownBind r stDone [])) ∧
  (∀ (s : State) (r : Req) (p : List Byte),
      s.serves verbCrownCalib r = true →
      p = r.payload →
      u8 p 0 = 2 →
      u8 p 1 ≤ 3 →
      u8 p 2 = 0 →
      (f32s p 4 3).all within20 = true →
      (f32s p 16 3).all (fun a => fLe (fInt (-180)) a && fLe a (fNat 180)) = true →
      (f32s p 28 9).all (fun a => fEq a fZero) = true →
      exec (.crownCalib r) s = .next ((((s.offered verbCrownCalib r).modCrown (fun c => { c with lidCal := tset [] c.lidCal (u8 p 1) p })).dirty).replied s verbCrownCalib r stDone [])) ∧
  (∀ (s : State) (r : Req) (p : List Byte),
      s.serves verbCrownCalib r = true →
      p = r.payload →
      u8 p 0 = 1 →
      u8 p 1 ≤ 7 →
      u8 p 2 = 0 →
      (f32s p 4 3).all within20 = true →
      (f32s p 16 3).all (fun a => fLe (fInt (-180)) a && fLe a (fNat 180)) = true →
      (f32s p 28 4).all (fun a => fFinite a && fLt fZero a) = true →
      (f32s p 44 5).all fFinite = true →
      exec (.crownCalib r) s = .next ((((s.offered verbCrownCalib r).modCrown (fun c => { c with camCal := tset [] c.camCal (u8 p 1) p })).dirty).replied s verbCrownCalib r stDone [])) ∧
  (∀ (s : State) (r : Req) (p : List Byte) (x : CrownSlot),
      s.serves verbCrownOutbuf r = true →
      p = r.payload →
      x = s.slot (u8 p 0) →
      u8 p 0 ≤ 15 →
      x.state ≠ 0 →
      x.state ≠ 2 →
      x.unit = r.inst →
      u8 p 1 < shapeGrids x.decl.shape →
      (s.offered verbCrownOutbuf r).regionCheck r.win (u8 p 2) 65600 = none →
      (s.offered verbCrownOutbuf r).regionCheck r.win (u8 p 3) 65600 = none →
      exec (.crownOutbuf r) s = .next ((((s.offered verbCrownOutbuf r).modSlot (u8 p 0) (fun x => { x with bufs := tset HostBuf.reset x.bufs (u8 p 1) { set := true, win := r.win, tag := r.tag, a := u8 p 2, b := u8 p 3 } })).dirty).replied s verbCrownOutbuf r stDone [])) ∧
  (∀ (s : State) (r : Req) (m : Nat),
      s.serves verbCrownStart r = true →
      m = u8 r.payload 0 →
      m ≤ 15 →
      (s.slot m).unit = r.inst →
      (s.slot m).state ≠ 0 →
      (s.slot m).state ≠ 3 →
      u8 r.payload 1 = 0 →
      exec (.crownStart r) s = .next (((((s.offered verbCrownStart r).modSlot m (fun x => { x with state := 2, autoStart := true })).crownArm m).dirty).replied s verbCrownStart r stDone [])) ∧
  (∀ (s : State) (r : Req) (m : Nat),
      s.serves verbCrownStart r = true →
      m = u8 r.payload 0 →
      m ≤ 15 →
      (s.slot m).unit = r.inst →
      (s.slot m).state ≠ 0 →
      (s.slot m).state ≠ 3 →
      u8 r.payload 1 = 1 →
      exec (.crownStart r) s = .next ((((((s.offered verbCrownStart r).crownReset m 1).modSlot m (fun x => { x with state := 2, autoStart := true })).crownArm m).dirty).replied s verbCrownStart r stDone [])) ∧
  (∀ (s a : State) (r : Req) (m : Nat),
      s.serves verbCrownStop r = true →
      m = u8 r.payload 0 →
      m ≤ 15 →
      (s.slot m).unit = r.inst →
      (s.slot m).state ≠ 0 →
      (s.slot m).state ≠ 3 →
      a = (s.offered verbCrownStop r).modSlot m (fun x => { x with state := 1, autoStart := false }) →
      exec (.crownStop r) s = .next ((if (s.slot m).releases.isEmpty then a.zeroSlot m else a).dirty.replied s verbCrownStop r stDone [])) ∧
  (∀ (s : State) (r : Req) (p : List Byte) (x : CrownSlot),
      s.serves verbCrownHostbuf r = true →
      p = r.payload →
      x = s.slot (u8 p 0) →
      u8 p 0 ≤ 15 →
      x.state ≠ 0 →
      x.state ≠ 2 →
      x.unit = r.inst →
      (s.offered verbCrownHostbuf r).regionCheck r.win (u8 p 1) x.decl.inputSet = none →
      (s.offered verbCrownHostbuf r).regionCheck r.win (u8 p 2) x.decl.inputSet = none →
      exec (.crownHostbuf r) s = .next ((((s.offered verbCrownHostbuf r).modSlot (u8 p 0) (fun x => { x with hostBuf := { set := true, win := r.win, tag := r.tag, a := u8 p 1, b := u8 p 2 } })).dirty).replied s verbCrownHostbuf r stDone [])) ∧
  (∀ (s : State) (r : Req) (p : List Byte) (x : CrownSlot) (es : List (Nat × F32 × Nat)),
      s.serves verbCrownResult r = true →
      p = r.payload →
      x = s.slot (u8 p 4) →
      es = (List.range ((p.length - 8) / 8)).map (fun i => (u16 p (8 + 8 * i), f32 p (12 + 8 * i), u8 p (10 + 8 * i) &&& 0x2D)) →
      u8 p 4 ≤ 15 →
      x.state ≠ 0 →
      x.unit = r.inst →
      (s.hostFn (crownKey (u8 p 4) r.inst)).host = true →
      (s.hostFn (crownKey (u8 p 4) r.inst)).owner = r.win →
      (s.hostFn (crownKey (u8 p 4) r.inst)).period ≠ 0 →
      u32 p 0 ≤ (s.hostFn (crownKey (u8 p 4) r.inst)).k →
      es.all (fun e => (x.sigIds (u8 p 4)).contains e.1) = true →
      (es.map (·.1)).eraseDups.length = es.length →
      es.all (fun e => fFinite e.2.1) = true →
      (s.offered verbCrownResult r).hostInTime (crownKey (u8 p 4) r.inst) (u32 p 0) = true →
      ((s.offered verbCrownResult r).hostResult (crownKey (u8 p 4) r.inst)).2 = true →
      exec (.crownResult r) s = .next (((((s.offered verbCrownResult r).hostResult (crownKey (u8 p 4) r.inst)).1.modSlot (u8 p 4) (fun x => { x with hostOut := es }))).replied s verbCrownResult r stDone []))

/-- A sample of a slot below ENABLED latches its references; of one in RUN with its hardware controller it latches references
and measurements at the sample instant, tests them, releases a staged output on a hit at +12 ns or queues the miss work,
and counts the miss rate; of one in SAFE it releases the safe action; the miss and staging work of a slot takes its
effect; a delayed host result is released at its deadline; a trace download writes the entries and posts its completion;
ENABLE, DISABLE, SETPOINT, STATUS, LOAD, HOSTBUF, TRACE, TRACE_READ and U answer and take effect. Rows: loopSample,
missRelease, stagingDone, ctrlHostRelease, ctrlTraceReadDone, ctrlU, ctrlHostbuf, ctrlLoad, ctrlEnable, ctrlDisable,
ctrlSetpoint, ctrlStatus, ctrlTrace, ctrlTraceRead. Rules: R124, R125, R128, R136, R137, R142, R145, R146, R147, R148,
R149, R150. -/
def Obligations.ControlEngineRowsComplete : Prop :=
  (∀ (s b a : State) (slot tk : Nat) (c0 c : LoopRec),
      s.running 0x20 0 = true →
      slot < 64 →
      (s.loop slot).cfg = some c0 →
      tk = (s.settle slot).sampleAt slot c0 →
      b = ({ (s.settle slot).waitTo tk with time.ticks := tset 0 ((s.settle slot).waitTo tk).time.ticks (71 + 1000 * slot) (tk + 1) } : State).modLoop slot (fun x => { x with tk := tk, k := (tk - c0.phaseUs * 1000) / (c0.periodUs * 1000) }) →
      a = b.gateIdle (b.slotEnter slot) 0x20 0 →
      (a.loop slot).cfg = some c →
      (a.loop slot).state < 2 →
      exec (.loopSample slot) s = .next (a.latchRefs slot c)) ∧
  (∀ (s b a d : State) (slot tk : Nat) (c0 c : LoopRec) (x : LoopSlot),
      s.running 0x20 0 = true →
      slot < 64 →
      (s.loop slot).cfg = some c0 →
      tk = (s.settle slot).sampleAt slot c0 →
      b = ({ (s.settle slot).waitTo tk with time.ticks := tset 0 ((s.settle slot).waitTo tk).time.ticks (71 + 1000 * slot) (tk + 1) } : State).modLoop slot (fun x => { x with tk := tk, k := (tk - c0.phaseUs * 1000) / (c0.periodUs * 1000) }) →
      a = b.gateIdle (b.slotEnter slot) 0x20 0 →
      (a.loop slot).cfg = some c →
      2 ≤ (a.loop slot).state →
      d = (((a.latchRefs slot c).latch slot c).1.plausible slot c ((a.latchRefs slot c).latch slot c).2).modLoop slot (fun x => { x with stagePending := true, hit := false, corrected := false }) →
      d.isHost (ctrlKey slot) = false →
      x = d.loop slot →
      x.state ≠ 4 →
      x.forced = false ∧ fLt fZero c.gRun = true ∧ fLe x.d2 (fMul c.gRun c.gRun) = true →
      exec (.loopSample slot) s = .next (((d.modLoop slot (fun x => { x with forced := false, hit := true })).doRelease slot c x.ustg x.stgClamped (tk + 12)).missRate slot c false)) ∧
  (∀ (s b a d : State) (slot tk : Nat) (c0 c : LoopRec) (x : LoopSlot),
      s.running 0x20 0 = true →
      slot < 64 →
      (s.loop slot).cfg = some c0 →
      tk = (s.settle slot).sampleAt slot c0 →
      b = ({ (s.settle slot).waitTo tk with time.ticks := tset 0 ((s.settle slot).waitTo tk).time.ticks (71 + 1000 * slot) (tk + 1) } : State).modLoop slot (fun x => { x with tk := tk, k := (tk - c0.phaseUs * 1000) / (c0.periodUs * 1000) }) →
      a = b.gateIdle (b.slotEnter slot) 0x20 0 →
      (a.loop slot).cfg = some c →
      2 ≤ (a.loop slot).state →
      d = (((a.latchRefs slot c).latch slot c).1.plausible slot c ((a.latchRefs slot c).latch slot c).2).modLoop slot (fun x => { x with stagePending := true, hit := false, corrected := false }) →
      d.isHost (ctrlKey slot) = false →
      x = d.loop slot →
      x.state ≠ 4 →
      x.forced = true ∨ fLt fZero c.gRun = false ∨ fLe x.d2 (fMul c.gRun c.gRun) = false →
      exec (.loopSample slot) s = .next ((((d.modLoop slot (fun x => { x with forced := false, hit := false, misses := (x.misses + 1) % 2 ^ 32 })).modLoop slot (fun x => { x with missPending := true })).traceTrig slot 1).missRate slot c true)) ∧
  (∀ (s b a d : State) (slot tk : Nat) (c0 c : LoopRec),
      s.running 0x20 0 = true →
      slot < 64 →
      (s.loop slot).cfg = some c0 →
      tk = (s.settle slot).sampleAt slot c0 →
      b = ({ (s.settle slot).waitTo tk with time.ticks := tset 0 ((s.settle slot).waitTo tk).time.ticks (71 + 1000 * slot) (tk + 1) } : State).modLoop slot (fun x => { x with tk := tk, k := (tk - c0.phaseUs * 1000) / (c0.periodUs * 1000) }) →
      a = b.gateIdle (b.slotEnter slot) 0x20 0 →
      (a.loop slot).cfg = some c →
      2 ≤ (a.loop slot).state →
      d = (((a.latchRefs slot c).latch slot c).1.plausible slot c ((a.latchRefs slot c).latch slot c).2).modLoop slot (fun x => { x with stagePending := true, hit := false, corrected := false }) →
      d.isHost (ctrlKey slot) = false →
      (d.loop slot).state = 4 →
      exec (.loopSample slot) s = .next (((d.waitTo (tk + 12)).modLoop slot (fun x => { x with relAt := tk + 12, delay := 12 })).safeRelease slot c c.safeAct)) ∧
  (∀ (s a : State) (slot delay rel : Nat) (c : LoopRec) (x : LoopSlot) (xhat : List F32),
      s.running 0x20 0 = true →
      x = s.loop slot →
      x.cfg = some c →
      x.missPending = true →
      s.lanePick = some slot →
      rel = max (x.tk + 12) s.ctrl.laneFree + 4 * c.workM + delay →
      xhat = c.correct x.xpred x.e →
      badNode xhat 0 = none →
      badNode (c.control xhat).1 0x10 = none →
      a = ((({ s with ctrl.laneFree := rel } : State).modLoop slot (fun x => { x with xhat := xhat, hit := false, corrected := true })).doRelease slot c (c.control xhat).1 (c.control xhat).2 rel) →
      exec (.missRelease slot delay) s = .next (if rel - x.tk > c.dmNs then a.raiseEv 0x20 slot (ctrlSrc slot) 0x2005 6 slot (rel - x.tk) c.dmNs (x.k % 2 ^ 32) else a)) ∧
  (∀ (s a b : State) (slot done : Nat) (c : LoopRec) (x : LoopSlot) (xhat ua xp : List F32) (manual hold : Bool),
      s.running 0x20 0 = true →
      x = s.loop slot →
      x.cfg = some c →
      x.missPending = false →
      x.stagePending = true →
      (s.laneItem slot).isSome = true →
      s.lanePick = some slot →
      done = max x.relAt s.ctrl.laneFree + 4 * (c.workQ + (if x.corrected then 0 else c.workC)) →
      xhat = (if x.corrected then x.xhat else c.correct x.xpred x.e) →
      a = (({ s with ctrl.laneFree := done } : State).waitTo done).modLoop slot (fun x => { x with xhat := xhat, stagePending := false, corrected := true }) →
      manual = ((x.state == 4 && decide (c.safeAct ≥ 2)) || (a.loopHost slot && (a.hostFn (ctrlKey slot)).inSafe && c.hostSafe == 2)) →
      ua = a.applied c (if x.released && !manual then some (a.loop slot).u else none) →
      b = (a.modLoop slot (fun x => { x with ua := ua })).stepRefs slot c →
      hold = (bit c.flags 0 && ((b.loop slot).uClamped || c.bindList.any (fun e => a.actOverridden e.2.kind e.2.target))) →
      xp = (List.range c.n).map (fun i => if hold && c.imask.testBit i then vAt xhat i else vAt (c.predict xhat ua (b.loop slot).reff) i) →
      badStaged xhat (c.control xp).1 (c.outputOf xp) = none →
      exec (.stagingDone slot) s = .next (((b.modLoop slot (fun x => { x with xpred := xp, ustg := (c.control xp).1, stgClamped := (c.control xp).2, yhat := c.outputOf xp })).exports slot).traceSample slot)) ∧
  (∀ (s : State) (slot : Nat) (c : LoopRec) (u : List F32),
      s.running 0x20 0 = true →
      (s.loop slot).cfg = some c →
      (s.loop slot).hostU = some u →
      (s.loop slot).state ≠ 4 →
      s.loopHost slot = true →
      exec (.ctrlHostRelease slot) s = .next (((s.waitTo (s.hostReleaseAt slot)).modLoop slot (fun x => { x with hostU := none, hostUOld := false })).hostRelease slot c u)) ∧
  (∀ (s : State) (buf d : Nat) (op : Op) (t : Trace),
      s.running 0x20 0 = true →
      t = s.trace buf →
      t.read = some (op, d) →
      exec (.ctrlTraceReadDone buf) s = .next ((((s.regionWrite op.win d 0 (t.entries.flatMap (fun e => bF e.1 ++ b32 e.2))).regionEnd op.win d (8 * t.entries.length)).modTrace buf (fun t => { t with read := none })).complete op 0x20 t.slot (ctrlSrc t.slot) 0x2009 stDone t.entries.length 0)) ∧
  (∀ (s a : State) (r : Req) (c : LoopRec),
      s.serves verbCtrlU r = true →
      (s.loop r.inst).cfg = some c →
      (s.hostFn (ctrlKey r.inst)).host = true →
      (s.hostFn (ctrlKey r.inst)).owner = r.win →
      u32 r.payload 0 ≤ (s.hostFn (ctrlKey r.inst)).k →
      (f32s r.payload 4 4).all fFinite = true →
      (s.offered verbCtrlU r).prevInTime (ctrlKey r.inst) (u32 r.payload 0) = false →
      (s.offered verbCtrlU r).hostInTime (ctrlKey r.inst) (u32 r.payload 0) = true →
      ((s.offered verbCtrlU r).hostResult (ctrlKey r.inst)).2 = true →
      a = ((s.offered verbCtrlU r).hostResult (ctrlKey r.inst)).1 →
      (a.loop r.inst).state = 2 ∨ (a.loop r.inst).state = 3 →
      exec (.ctrlU r) s = .next ((if bit c.flags 1 then (a.modLoop r.inst (fun x => { x with hostHw := false, missPending := false })).modLoop r.inst (fun x => { x with hostU := some (f32s r.payload 4 4), hostUOld := false }) else ((a.modLoop r.inst (fun x => { x with hostHw := false, missPending := false })).waitTo (a.hw + 12)).hostRelease r.inst c (f32s r.payload 4 4)).replied s verbCtrlU r stDone [])) ∧
  (∀ (s : State) (r : Req),
      s.serves verbCtrlHostbuf r = true →
      (List.range 64).any (fun n => s.isHost (ctrlKey n) || (s.hostFn (ctrlKey n)).pending == some true) = false →
      (s.offered verbCtrlHostbuf r).regionCheck r.win (u8 r.payload 0) 4096 = none →
      exec (.ctrlHostbuf r) s = .next (((({ s.offered verbCtrlHostbuf r with ctrl.hostBuf := { HostBuf.reset with set := true, win := r.win, tag := r.tag, a := u8 r.payload 0 } } : State)).dirty).replied s verbCtrlHostbuf r stDone [])) ∧
  (∀ (s : State) (r : Req) (slots : List Nat) (set : List (Nat × LoopRec)),
      s.serves verbCtrlLoad r = true →
      u8 r.payload 1 = 2 →
      u8 r.payload 0 ≤ 63 →
      slice r.payload 2 6 = zeros 6 →
      u64 r.payload 8 ≠ 0 →
      slots = (List.range 64).filter (u64 r.payload 8).testBit →
      slots.find? (fun n => !s.right r.win 0x20 n true) = none →
      slots.find? (fun n => decide ((s.loop n).state ≥ 2)) = none →
      set = (List.range 64).filterMap (fun n => (((List.range 64).filterMap (fun n => if slots.contains n then none else (((s.loop n).pend.orElse fun _ => (s.loop n).cfg)).map (fun c => (n, c)))) ++ []).find? (fun e => e.1 == n)) →
      exec (.ctrlLoad r) s = .next ((slots.foldl (fun (s : State) n => { ((s.slotState n 0 0).loopToHw n) with ctrl.slots := tdel ((s.slotState n 0 0).loopToHw n).ctrl.slots n }) (s.offered verbCtrlLoad r)).replied s verbCtrlLoad r stDone (b32 (worst0 set) ++ b32 ((2 * (utilisation set).1 + (utilisation set).2) / (2 * (utilisation set).2)) ++ b8 set.length ++ zeros 3 ++ b32 (setB set)))) ∧
  (∀ (s : State) (r : Req) (c : LoopRec),
      s.serves verbCtrlEnable r = true →
      (s.loop r.inst).cfg = some c →
      (s.loop r.inst).state ≠ 2 →
      (s.loop r.inst).state ≠ 3 →
      bit (u8 r.payload 0) 0 = false ∨ (s.loop r.inst).state ≠ 1 →
      c.bindList.any (fun e => (e.2.kind == 1 && (s.valve' e.2.target).mode != 1) || (e.2.kind == 2 && (s.out e.2.target).cfg.mode != 2)) = false →
      exec (.ctrlEnable r) s = .next (((s.offered verbCtrlEnable r).modLoop r.inst (fun x => { x with enableReq := if bit (u8 r.payload 0) 0 then 2 else 1 })).replied s verbCtrlEnable r stDone [])) ∧
  (∀ (s : State) (r : Req),
      s.serves verbCtrlDisable r = true →
      (s.loop r.inst).state ≠ 0 →
      exec (.ctrlDisable r) s = .next (((s.offered verbCtrlDisable r).modLoop r.inst (fun x => { x with enableReq := if (s.loop r.inst).state = 1 then 0 else 3 })).replied s verbCtrlDisable r stDone [])) ∧
  (∀ (s : State) (r : Req) (c : LoopRec),
      s.serves verbCtrlSetpoint r = true →
      (s.loop r.inst).cfg = some c →
      u8 r.payload 0 < c.r →
      (c.refs.getD (u8 r.payload 0) LoopRef.reset).src = 0xFFFF →
      u8 r.payload 1 ≤ 1 →
      fFinite (f32 r.payload 4) = true →
      exec (.ctrlSetpoint r) s = .next (((s.offered verbCtrlSetpoint r).modLoop r.inst (fun x => { x with setpt := listSet fZero x.setpt (u8 r.payload 0) (f32 r.payload 4), arrived := listSet false x.arrived (u8 r.payload 0) false, stepNow := listSet false x.stepNow (u8 r.payload 0) (u8 r.payload 1 == 1) })).replied s verbCtrlSetpoint r stDone [])) ∧
  (∀ (s : State) (r : Req),
      s.serves verbCtrlStatus r = true →
      exec (.ctrlStatus r) s = .next (((s.offered verbCtrlStatus r)).replied s verbCtrlStatus r stDone (b8 (s.loop r.inst).state ++ b8 (if s.isHost (ctrlKey r.inst) then (if (s.loop r.inst).hostHw then 2 else 1) else 0) ++ b8 (s.loop r.inst).cause ++ b8 0 ++ b32 (s.loop r.inst).samples ++ b32 (s.loop r.inst).misses ++ b32 (s.loop r.inst).invalid ++ bF (s.loop r.inst).d2 ++ bF (s.loop r.inst).d2Max ++ b32 (s.loop r.inst).delayMax ++ b32 ((s.loop r.inst).k % 2 ^ 32)))) ∧
  (∀ (s : State) (r : Req) (b : Nat),
      s.serves verbCtrlTrace r = true →
      b = u8 r.payload 0 →
      b ≤ 7 →
      u8 r.payload 1 ≤ 63 →
      (s.loop (u8 r.payload 1)).cfg.isNone = false →
      u8 r.payload 2 ≤ 0x1F →
      u8 r.payload 3 ≠ 0 →
      u8 r.payload 4 ≤ 4 →
      u16 r.payload 6 ≤ 4095 →
      (s.trace b).armed = false ∨ (s.trace b).trigger ≠ 4 ∨ (s.trace b).fired = true →
      exec (.ctrlTrace r) s = .next (((s.offered verbCtrlTrace r).modTrace b (fun t => { Trace.reset with armed := true, slot := u8 r.payload 1, node := u8 r.payload 2, d := u8 r.payload 3, trigger := u8 r.payload 4, post := u16 r.payload 6, phase := u8 r.payload 3 - 1, read := t.read })).replied s verbCtrlTrace r stDone [])) ∧
  (∀ (s : State) (r : Req),
      s.serves verbCtrlTraceRead r = true →
      u8 r.payload 0 ≤ 7 →
      (s.trace (u8 r.payload 0)).armed = false →
      (s.trace (u8 r.payload 0)).read = none →
      (s.offered verbCtrlTraceRead r).regionCheck r.win (u8 r.payload 1) (8 * (s.trace (u8 r.payload 0)).entries.length) = none →
      exec (.ctrlTraceRead r) s = .next ((((s.offered verbCtrlTraceRead r).regionBegin r.win (u8 r.payload 1) r.tag true).modTrace (u8 r.payload 0) (fun t => { t with read := some ({ win := r.win, tag := r.tag }, u8 r.payload 1) })).replied s verbCtrlTraceRead r stAccepted []))
/-- A link comes up with its speed, quality and delay and goes down with its event; a frame of a VLAN the port belongs
to goes to its member ports and the internal port; a gate cycle starts at its instant; a lidar fragment and the 50 ms
limit build or drop a revolution; a signal datagram writes its signals at the stamp of its arrival; a signal's time-out
marks it; a host ring's frames of permitted VLANs are sent; the ETH verbs answer and take effect. Rows: ethLinkUp,
ethLinkDown, ethFrameRx, ethGateCycle, ethLidarFragment, ethLidarTimeout, ethSignalDatagram, ethSigportTimeout,
ethHostringTx, ethStatus, ethConfig, ethGates, ethLidar, ethSigport, ethHostring. Rules: R358, R359, R360, R361, R363,
R364, R365, R368. -/
def Obligations.EthernetRowsComplete : Prop :=
  (∀ (s : State) (port speed quality delay : Nat),
      s.operating = true →
      port ≤ 6 →
      (s.ethPort port).enable = true →
      (s.ethPort port).asleep = false →
      (s.ethPort port).link = false →
      exec (.ethLinkUp port speed quality delay) s = .next (((s.modEth port (fun x => { x with link := true, upAt := s.hw, linkDown := false, speed := speed, quality := if port < 6 then min 7 quality else 0, delay := if x.time then delay else 0 })).post 0x32 port (200 + port) 0x7001 port speed (if port < 6 then min 7 quality else 0) 0).clearFault 0x7002 0x32 port)) ∧
  (∀ (s : State) (port : Nat),
      s.operating = true →
      (s.ethPort port).link = true →
      exec (.ethLinkDown port) s = .next (((s.modEth port (fun x => { x with link := false, linkDown := true })).raiseEv 0x32 port (200 + port) 0x7002 2 port ((s.hw - (s.ethPort port).upAt) / 1000000000) 0 0).gptpState port 0 (s.ethPort port).gm)) ∧
  (∀ (s : State) (f : EthRx),
      s.operating = true →
      (s.ethPort f.port).link = true →
      f.frame.length ≤ 1522 →
      exec (.ethFrameRx f) s = .next ((match s.vlan f.vlan with | none => s | some (place, _, members) => if !members.testBit f.port then s else let a := (f.dests.filter (fun d => d < 7 && d != f.port)).foldl (fun (s : State) d => s.modEth d (fun x => if members.testBit d && x.link then x.send s.hw f.frame else { x with drops := satAdd 32 x.drops 1 })) s; if members.testBit 7 && a.running 0x32 0 then a.ethInternal f place else a))) ∧
  (∀ (s : State) (port t0 : Nat) (l : List (Nat × Nat)),
      s.operating = true →
      (s.ethPort port).pendGates = some (l, t0) →
      (s.ethPort port).gates = [] →
      exec (.ethGateCycle port) s = .next (let tn := cycleFrom (max t0 s.hw) (gateSum (if l.isEmpty then [] else l)) (s.ethPort port).gatePhase; (s.waitTo tn).modEth port (fun x => { x with gates := l, pendGates := none, cycleAt := tn }))) ∧
  (∀ (s : State) (port : Nat),
      s.operating = true →
      (s.ethPort port).pendGates = none →
      (s.ethPort port).gates.isEmpty = false →
      exec (.ethGateCycle port) s = .next (let t := cycleFrom (max s.hw ((s.ethPort port).cycleAt + 1)) (gateSum (s.ethPort port).gates) (s.ethPort port).gatePhase; (s.waitTo t).modEth port (fun x => { x with cycleAt := t }))) ∧
  (∀ (s a : State) (stream : Nat) (p : List Byte),
      s.ethRuns = true →
      (s.lidar stream).on = true →
      (s.ethPort (s.lidar stream).port).link = true →
      8 ≤ p.length →
      p.length ≤ 1472 →
      u16 p 4 < u16 p 6 →
      (s.lidar stream).seq = some (u32 p 0) →
      (s.lidar stream).want = u16 p 6 →
      s.hw ≤ (s.lidar stream).firstAt + 50000000 →
      s.modLidar stream (fun x => { x with frags := tset [] x.frags (u16 p 4) (p.drop 8) }) = a →
      exec (.ethLidarFragment stream p) s = .next (if (a.lidar stream).frags.length = u16 p 6 then a.lidarReady stream (((a.lidar stream).frags.map (·.2)).flatten) else a)) ∧
  (∀ (s : State) (stream : Nat),
      s.ethRuns = true →
      (s.lidar stream).on = true →
      (s.lidar stream).want ≠ 0 →
      exec (.ethLidarTimeout stream) s = .next ((s.waitTo ((s.lidar stream).firstAt + 50000000)).lidarDrop stream)) ∧
  (∀ (s : State) (p : List Byte) (ago : Nat),
      s.ethRuns = true →
      s.eth.sig.udp ≠ 0 →
      p.length = 8 →
      s.eth.sig.first ≤ u16 p 0 →
      u16 p 0 ≤ s.eth.sig.last →
      fFinite (f32 p 4) = true →
      exec (.ethSignalDatagram p ago) s = .next ((s.setSig (u16 p 0) (f32 p 4) ((s.hw - ago) / 4 * 4) (u8 p 2 &&& 0x2D)).modSigPort (fun x => { x with lastAt := tset 0 x.lastAt (u16 p 0) (s.hw + 1) }))) ∧
  (∀ (s : State) (id : Nat),
      s.ethRuns = true →
      s.eth.sig.udp ≠ 0 →
      s.eth.sig.timeoutMs ≠ 0 →
      s.eth.sig.first ≤ id →
      id ≤ s.eth.sig.last →
      exec (.ethSigportTimeout id) s = .next ((s.waitTo ((if tget 0 s.eth.sig.lastAt id = 0 then s.eth.sig.setAt else tget 0 s.eth.sig.lastAt id - 1) + s.eth.sig.timeoutMs * 1000000)).modFlags id (· ||| fgStale))) ∧
  (∀ (s a : State) (w : Nat) (prod : Nat),
      s.ethRuns = true →
      (s.ring w).on = true →
      (s.win w).running = true →
      prod % 4294967296 = (s.ring w).txCons →
      (s.ring w).txCons < 4294967296 →
      s.store w ((s.ring w).txDesc, 0, b32 prod) = a →
      exec (.ethHostringTx w prod) s = .next ((a.modRing w (fun y => { y with txProd := (s.ring w).txCons, txCons := (s.ring w).txCons })).regionWrite w (s.ring w).txDesc 4 (b32 prod))) ∧
  (∀ (s : State) (r : Req) (x : EthPort),
      s.serves verbEthStatus r = true →
      x = s.ethPort r.inst →
      exec (.ethStatus r) s = .next (((s.offered verbEthStatus r)).replied s verbEthStatus r stDone (b8 (if !x.enable then 0 else if x.asleep then 3 else if x.link then 2 else 1) ++ b8 x.gptp ++ b8 x.quality ++ b8 x.speed ++ b32 x.delay ++ b32 x.drops ++ b32 (if r.inst = 4 ∨ r.inst = 5 then (s.eth.lidar.filter (fun l => l.2.port == r.inst)).foldl (fun a l => satAdd 32 a l.2.dropped) 0 else 0)))) ∧
  (∀ (s : State) (r : Req) (d : List Byte),
      s.serves verbEthConfig r = true →
      d = r.payload →
      u8 d 0 = 1 →
      u8 d 1 ≤ 7 →
      (s.ethPort r.inst).gates = [] →
      (s.ethPort r.inst).pendGates = none →
      bit (u8 d 1) 1 = true →
      exec (.ethConfig r) s = .next ((((s.offered verbEthConfig r).modEth r.inst (fun x => { x with enable := true, master := decide (r.inst < 6) && bit (u8 d 1) 0, time := true, tc10 := decide (r.inst < 6) && bit (u8 d 1) 2, ip := u32 d 4, gatePhase := u32 d 8, link := x.link && true })).dirty).replied s verbEthConfig r stDone [])) ∧
  (∀ (s : State) (r : Req),
      s.serves verbEthGates r = true →
      u8 r.payload 0 ≤ 63 →
      u8 r.payload 1 = 0 →
      exec (.ethGates r) s = .next ((((s.offered verbEthGates r).modEth r.inst (fun x => { x with pendGates := if x.gates.isEmpty then none else some ([], s.hw + 1000000) })).dirty).replied s verbEthGates r stDone [])) ∧
  (∀ (s : State) (r : Req) (l : List (Nat × Nat)) (a : State),
      s.serves verbEthGates r = true →
      u8 r.payload 0 ≤ 63 →
      u8 r.payload 1 ≠ 0 →
      u8 r.payload 1 ≤ 64 →
      (s.offered verbEthGates r).regionCheck r.win (u8 r.payload 0) (8 * u8 r.payload 1) = none →
      (List.range (u8 r.payload 1)).map (fun i => (u8 ((s.offered verbEthGates r).regionRead r.win (u8 r.payload 0) 0 (8 * u8 r.payload 1)) (8 * i), u32 ((s.offered verbEthGates r).regionRead r.win (u8 r.payload 0) 0 (8 * u8 r.payload 1)) (8 * i + 4))) = l →
      (s.offered verbEthGates r).regionDone r.win (u8 r.payload 0) r.tag (8 * u8 r.payload 1) false = a →
      l.any (fun e => decide (e.2 < 1000 ∨ e.2 > 100000000)) = false →
      l.all (fun e => !e.1.testBit 7) = false →
      (a.ethPort r.inst).gatePhase < gateSum l →
      exec (.ethGates r) s = .next (((a.modEth r.inst (fun x => { x with pendGates := some (l, a.hw + 1000000) })).dirty).replied s verbEthGates r stDone [])) ∧
  (∀ (s : State) (r : Req) (p : List Byte),
      s.serves verbEthLidar r = true →
      p = r.payload →
      u8 p 0 ≤ 3 →
      u8 p 1 = 1 →
      u16 p 4 ≤ 4095 →
      (s.offered verbEthLidar r).listenerTaken (u16 p 2) (u16 p 4) (some (u8 p 0)) false = false →
      exec (.ethLidar r) s = .next (((((s.offered verbEthLidar r).clearFault 0x7004 0x32 (s.lidar (u8 p 0)).port).modLidar (u8 p 0) (fun x => { EthLidar.reset with on := true, port := r.inst, udp := u16 p 2, vlan := u16 p 4, dropped := x.dropped })).dirty).replied s verbEthLidar r stDone [])) ∧
  (∀ (s : State) (r : Req),
      s.serves verbEthSigport r = true →
      u16 r.payload 0 = 0 →
      exec (.ethSigport r) s = .next ((((s.offered verbEthSigport r).modSigPort (fun _ => EthSig.reset)).dirty).replied s verbEthSigport r stDone [])) ∧
  (∀ (s : State) (r : Req) (p : List Byte),
      s.serves verbEthSigport r = true →
      p = r.payload →
      u16 p 0 ≠ 0 →
      u16 p 2 ≤ 4095 →
      0x400 ≤ u16 p 4 →
      u16 p 6 ≤ 0x7FF →
      u16 p 4 ≤ u16 p 6 →
      (heads (s.offered verbEthSigport r).panNext).any (fun e => eType e.2 == 1 && eForm e.2 == 1 && decide (u16 p 4 ≤ u16 e.2 16 ∧ u16 e.2 16 ≤ u16 p 6)) = false →
      (s.offered verbEthSigport r).listenerTaken (u16 p 0) (u16 p 2) none true = false →
      exec (.ethSigport r) s = .next ((((s.offered verbEthSigport r).modSigPort (fun _ => { EthSig.reset with udp := u16 p 0, vlan := u16 p 2, first := u16 p 4, last := u16 p 6, timeoutMs := u16 p 8, setAt := s.hw })).dirty).replied s verbEthSigport r stDone [])) ∧
  (∀ (s : State) (r : Req),
      s.serves verbEthHostring r = true →
      u8 r.payload 0 ≤ 63 →
      u8 r.payload 1 ≤ 63 →
      u8 r.payload 0 ≠ u8 r.payload 1 →
      (s.offered verbEthHostring r).regionCheck r.win (u8 r.payload 0) 2112 = none →
      (s.offered verbEthHostring r).regionCheck r.win (u8 r.payload 1) 2112 = none →
      exec (.ethHostring r) s = .next (((((s.offered verbEthHostring r).modRing r.win (fun _ => { EthRing.reset with on := true, rxDesc := u8 r.payload 0, txDesc := u8 r.payload 1 })).ringHeaders r.win).dirty).replied s verbEthHostring r stDone []))

/-- A running fan takes a waiting setting at its period, decides its duty and starts its on-phase; a tach edge in a late
on-phase measures or is kept; a stretch starts and ends at its limits; a failed start blocks the fan; a retry kicks it;
a current without a tach marks the loss; a missing heartbeat adds its cause; the FAN verbs answer and take effect. Rows:
fanPwmPeriod, fanTachEdge, fanStretch, fanStretchMax, fanKickTimeout, fanRetry, fanTachTimeout, fanHeartbeatMissing,
fanStatus, fanConfig, fanTable, fanSet, fanClear, fanResult. Rules: R302, R303, R304, R305, R306, R308, R309, R310,
R311, R312, R313, R315. -/
def Obligations.FanRowsComplete : Prop :=
  (∀ (s a b : State) (n : Nat) (cur : F32),
      s.fanRuns n = true →
      (s.boundary (241 + 1000 * n) (1000000000 / (s.fanCfg n).hz) 0).modFan n (fun f => { f with current := cur }) = a →
      ((s.boundary (241 + 1000 * n) (1000000000 / (s.fanCfg n).hz) 0).fan n).pend = none →
      a.fanActs = true →
      (a.fanDecide n).fanSignal n = b →
      fEq (b.fan n).duty fZero = true →
      exec (.fanPwmPeriod n cur) s = .next (b.modFan n (fun f => { f with onPhase := false, stretch := false, edgeAt := none }))) ∧
  (∀ (s : State) (n : Nat),
      s.fanRuns n = true →
      (s.fanCfg n).tach = true →
      s.fanPhaseOn n = true →
      s.hw ≥ (s.fan n).onAt + 1000000 →
      (s.fan n).edgeAt = none →
      exec (.fanTachEdge n) s = .next (s.modFan n (fun f => { f with edgeAt := some s.hw }))) ∧
  (∀ (s : State) (n t0 : Nat),
      s.fanRuns n = true →
      (s.fanCfg n).tach = true →
      s.fanPhaseOn n = true →
      s.hw ≥ (s.fan n).onAt + 1000000 →
      (s.fan n).edgeAt = some t0 →
      t0 < s.hw →
      exec (.fanTachEdge n) s = .next (s.fanMeasured n (s.hw - t0))) ∧
  (∀ (s : State) (n : Nat),
      s.fanRuns n = true →
      (s.fanCfg n).tach = true →
      (s.fan n).phase = 0 →
      (s.fan n).stretch = false →
      (s.fan n).onLen ≠ 0 →
      s.fanPhaseOn n = true →
      s.hw ≥ (s.fan n).strAt + (s.fanCfg n).strMs * 1000000 →
      exec (.fanStretch n) s = .next (s.modFan n (fun f => { f with stretch := true, strAt := f.onAt, spanned := f.onLen, surplus := 0 }))) ∧
  (∀ (s : State) (n : Nat),
      s.fanRuns n = true →
      (s.fan n).stretch = true →
      exec (.fanStretchMax n) s = .next ((s.waitTo ((s.fan n).onAt + (s.fanCfg n).strMax * 1000000)).fanStretchEnd n)) ∧
  (∀ (s : State) (n cur : Nat),
      s.fanChecks n = true →
      (s.fan n).phase = 1 →
      exec (.fanKickTimeout n cur) s = .next ((s.waitTo ((s.fan n).kickAt + 3000000000)).fanBlocked n cur 0)) ∧
  (∀ (s : State) (n : Nat),
      s.fanChecks n = true →
      (s.fan n).phase = 2 →
      exec (.fanRetry n) s = .next ((s.waitTo (s.fan n).retryAt).fanKick n)) ∧
  (∀ (s : State) (n cur : Nat),
      s.fanChecks n = true →
      (s.fan n).phase = 0 →
      (s.fan n).tachLost = false →
      fEq (s.fan n).duty fZero = false →
      cur > (s.fanCfg n).runMax →
      exec (.fanTachTimeout n cur) s = .next ((s.waitTo ((s.fan n).tachAt + 2000000000)).fanBlocked n cur 1)) ∧
  (∀ (s : State) (n cur : Nat),
      s.fanChecks n = true →
      (s.fan n).phase = 0 →
      (s.fan n).tachLost = false →
      fEq (s.fan n).duty fZero = false →
      cur ≤ (s.fanCfg n).runMax →
      (s.fanCfg n).runMin ≤ cur →
      exec (.fanTachTimeout n cur) s = .next (let a := (s.waitTo ((s.fan n).tachAt + 2000000000)).modFan n (fun f => { f with tachLost := true, current := fFrac cur 1000 }); ((a.raiseEv 0x26 n (fanSrc n) 0x5303 2 n cur (fRound (s.fan n).speed).toNat 0).fanCause n ((s.fan n).causes ||| 1)).fanSignal n)) ∧
  (∀ (s : State) (n : Nat),
      s.fanRuns n = true →
      exec (.fanHeartbeatMissing n false) s = .next ((s.waitTo (s.keeper.keeperHbAt + 2000000000)).fanCause n ((s.fan n).causes ||| 2))) ∧
  (∀ (s : State) (n w : Nat),
      s.fanRuns n = true →
      (s.fan n).cmdWin = some w →
      (s.fan n).mode = 2 →
      exec (.fanHeartbeatMissing n true) s = .next ((s.waitTo ((s.win w).hostHbAt + 2000000000)).fanCause n ((s.fan n).causes ||| 4))) ∧
  (∀ (s : State) (r : Req) (f : FanCh),
      s.serves verbFanStatus r = true →
      f = s.fan r.inst →
      exec (.fanStatus r) s = .next (((s.offered verbFanStatus r)).replied s verbFanStatus r stDone (b8 (if (s.offered verbFanStatus r).fanOn r.inst && (s.offered verbFanStatus r).fanProtected r.inst then 6 else if f.phase = 3 then 5 else if f.phase = 2 then 4 else if f.phase = 1 then 1 else if fEq f.duty fZero then 0 else if (s.offered verbFanStatus r).fanFull r.inst then 3 else 2) ++ b8 f.causes ++ b8 f.fails ++ zeros 1 ++ bF f.duty ++ bF f.speed ++ bF f.current))) ∧
  (∀ (s : State) (r : Req),
      s.serves verbFanConfig r = true →
      r.inst < 8 →
      u8 r.payload 0 = 0xFF →
      exec (.fanConfig r) s = .next ((((s.offered verbFanConfig r).fanUnbind r.inst).dirty).replied s verbFanConfig r stDone [])) ∧
  (∀ (s : State) (r : Req) (p : List Byte),
      s.serves verbFanConfig r = true →
      p = r.payload →
      r.inst < 8 →
      u8 p 0 ≠ 0xFF →
      fanCfgOk p = true →
      (s.out (u8 p 1)).cfg.tagged = false →
      u16 p 10 = 0xFFFF →
      (s.offered verbFanConfig r).fanFree r.inst (u8 p 1) = true →
      (s.fan r.inst).bound = false →
      exec (.fanConfig r) s = .next (((((s.offered verbFanConfig r).modOut (u8 p 1) (fun c => { c with bound := 2, boundBy := r.inst, mailbox := fZero })).modFan r.inst (fun f => { f.load p with bound := true })).dirty).replied s verbFanConfig r stDone [])) ∧
  (∀ (s : State) (r : Req),
      s.serves verbFanTable r = true →
      r.inst < 8 →
      u8 r.payload 0 = (fanPoints r.payload).length →
      pointsOk (fanPoints r.payload) = true →
      exec (.fanTable r) s = .next ((((s.offered verbFanTable r).modFan r.inst (fun f => { f with table := fanPoints r.payload })).dirty).replied s verbFanTable r stDone [])) ∧
  (∀ (s : State) (r : Req),
      s.serves verbFanSet r = true →
      isDuty (f32 r.payload 0) = true →
      isLid r.inst = false →
      (s.fan r.inst).bound = true →
      (s.fan r.inst).pend = none →
      (s.fan r.inst).mode = 2 →
      exec (.fanSet r) s = .next (((s.offered verbFanSet r).modFan r.inst (fun f => { f with cmd := f32 r.payload 0, cmdWin := some r.win })).replied s verbFanSet r stDone [])) ∧
  (∀ (s : State) (r : Req),
      s.serves verbFanSet r = true →
      isDuty (f32 r.payload 0) = true →
      isLid r.inst = true →
      exec (.fanSet r) s = .next (((s.offered verbFanSet r).modFan r.inst (fun f => { f with cmd := f32 r.payload 0, cmdWin := some r.win })).replied s verbFanSet r stDone [])) ∧
  (∀ (s : State) (r : Req),
      s.serves verbFanClear r = true →
      (s.fan r.inst).phase = 3 →
      exec (.fanClear r) s = .next (((((s.offered verbFanClear r).modFan r.inst (fun f => { f with fails := 0 })).clearFault 0x5302 0x26 r.inst).fanKick r.inst).replied s verbFanClear r stDone [])) ∧
  (∀ (s : State) (r : Req),
      s.serves verbFanResult r = true →
      (s.hostFn (fanKey r.inst)).host = true →
      (s.hostFn (fanKey r.inst)).owner = r.win →
      isDuty (f32 r.payload 4) = true →
      (((s.offered verbFanResult r).fanSync r.inst).hostFn (fanKey r.inst)).k = u32 r.payload 0 →
      ((s.offered verbFanResult r).fanSync r.inst).prevInTime (fanKey r.inst) (u32 r.payload 0) = false →
      ((s.offered verbFanResult r).fanSync r.inst).hostInTime (fanKey r.inst) (u32 r.payload 0) = true →
      (((s.offered verbFanResult r).fanSync r.inst).hostResult (fanKey r.inst)).2 = true →
      exec (.fanResult r) s = .next ((let a := (((s.offered verbFanResult r).fanSync r.inst).hostResult (fanKey r.inst)).1; (a.modFan r.inst (fun f => { f with hostDuty := f32 r.payload 4 })).fanCause r.inst (clearBits (a.fan r.inst).causes 8)).replied s verbFanResult r stDone []))

/-- A frame of a running update starts with its plane and ends after the frame time of its band; a busy line past twice
that time or a rail that is up for 1 ms and outside its tolerance aborts the update with its fault; 10 ms after the
rails go off the shown image is known and the update is reported, and a park image that waited for it starts; the PLATE
verbs answer and take effect, UPDATE with the crack loop's free resistance deciding LOCKED. Rows: plateFrameStart,
plateFrameDone, plateBusyTimeout, plateRailFault, plateDone, plateStatus, plateConfig, plateWaveform, plateUpdate,
platePark. Rules: R316, R317, R318, R319, R320, R321, R322. -/
def Obligations.PlateRowsComplete : Prop :=
  (∀ (s a : State),
      s.operating = true →
      s.plate.running = true →
      s.plate.busy = false →
      s.plate.offAt = none →
      a = (if s.plate.frame = 0 then s.waitTo (s.plate.startAt + 10000000) else s) →
      exec (.plateFrameStart) s = .next (a.modPlate (fun p => { p with busy := true, frameAt := a.hw, plane := p.planeOf p.frame }))) ∧
  (∀ (s a : State) (last : Bool),
      s.operating = true →
      s.plate.busy = true →
      a = s.waitTo (s.plate.frameAt + waveTime (s.plate.wave.getD []) s.plate.band * 1000000) →
      last = decide (s.plate.frame + 1 ≥ waveFrames (s.plate.wave.getD []) s.plate.band) →
      exec (.plateFrameDone) s = .next (a.modPlate (fun p => { p with busy := false, frame := p.frame + 1, railOn := !last, railOff := if last then some a.hw else none, offAt := if last then some a.hw else none }))) ∧
  (∀ (s : State),
      s.operating = true →
      s.plate.busy = true →
      exec (.plateBusyTimeout) s = .next ((((s.waitTo (s.plate.frameAt + 2 * waveTime (s.plate.wave.getD []) s.plate.band * 1000000)).raiseEv 0x27 0 184 0x5404 2 0 s.plate.frame 0 0).plateAbort stBusy).plateNext s.plate.park)) ∧
  (∀ (s : State) (rail : Nat) (mv : Int),
      s.operating = true →
      s.plate.running = true →
      s.plate.railUp (s.hw - 1000000) rail = true → s.plate.railUp s.hw rail = true →
      (mv - railNominal s.plate rail).natAbs * 10 > (railNominal s.plate rail).natAbs →
      exec (.plateRailFault rail mv) s = .next (((s.raiseEv 0x27 0 184 0x5403 3 0 rail (ofSigned 32 mv) 0).plateAbort stBusy).plateNext s.plate.park)) ∧
  (∀ (s : State) (t0 : Nat),
      s.plate.offAt = some t0 →
      s.operating = true →
      s.plate.running = true →
      exec (.plateDone) s = .next ((((((s.waitTo (t0 + 10000000)).modPlate (fun p => { p with old := p.image, oldKnown := true, updates := (p.updates + 1) % 4294967296 })).clearFault 0x5403 0x27 0).clearFault 0x5404 0x27 0).plateDone stDone (!s.plate.oldKnown)).plateNext s.plate.park)) ∧
  (∀ (s : State) (r : Req),
      s.serves verbPlateStatus r = true →
      exec (.plateStatus r) s = .next (((s.offered verbPlateStatus r)).replied s verbPlateStatus r stDone (b8 (if s.plate.running then 1 else if s.plate.crack then 2 else 0) ++ b8 s.plate.band ++ b8 s.plate.frame ++ b8 (b2n (!s.plate.oldKnown)) ++ b32 s.plate.updates))) ∧
  (∀ (s : State) (r : Req) (b : List Byte),
      s.serves verbPlateConfig r = true →
      b = r.payload →
      s.plate.running = false →
      8 ≤ u16 b 0 →
      u16 b 0 ≤ 512 →
      8 ≤ u16 b 2 →
      u16 b 2 ≤ 512 →
      u16 b 0 * u16 b 2 ≤ 131072 →
      u16 b 4 < 0x1000 →
      4 ≤ u8 b 6 →
      u8 b 6 ≤ 20 →
      100 ≤ u8 b 7 →
      u8 b 7 ≤ 150 →
      s.sigReadable r.win (u16 b 4) = true →
      exec (.plateConfig r) s = .next ((((s.offered verbPlateConfig r).modPlate (fun p => { p with width := u16 b 0, height := u16 b 2, tempSig := u16 b 4, sck := u8 b 6, vsh := u8 b 7, oldKnown := p.oldKnown && p.width == u16 b 0 && p.height == u16 b 2 })).dirty).replied s verbPlateConfig r stDone [])) ∧
  (∀ (s : State) (r : Req) (q : List Byte),
      s.serves verbPlateWaveform r = true →
      s.plate.running = false →
      (s.offered verbPlateWaveform r).regionCheck r.win (u8 r.payload 0) 2112 = none →
      (s.offered verbPlateWaveform r).regionRead r.win (u8 r.payload 0) 0 2112 = q →
      waveOk ((s.offered verbPlateWaveform r).regionDone r.win (u8 r.payload 0) r.tag 2112 false).plate q = true →
      exec (.plateWaveform r) s = .next (((((s.offered verbPlateWaveform r).regionDone r.win (u8 r.payload 0) r.tag 2112 false).modPlate (fun p => { p with wave := some q })).dirty).replied s verbPlateWaveform r stDone [])) ∧
  (∀ (s o a : State) (r : Req) (q : List Byte) (b : Nat),
      s.serves verbPlateUpdate r = true →
      o = s.offered verbPlateUpdate r →
      o.regionCheck r.win (u8 r.payload 0) s.plate.bytes = none →
      s.plate.running = false →
      s.plate.wave = some q →
      a = (o.drawNat.2.modPlate (fun p => { p with crack := false })).clearFault 0x5402 0x27 0 →
      bit (a.sig a.plate.tempSig).flags 0 = true →
      bit (a.sig a.plate.tempSig).flags 1 = false →
      bandOf q (a.sig a.plate.tempSig).value = some b →
      exec (.plateUpdate r) s = .next (if 200 < o.drawNat.1 then ((o.drawNat.2.modPlate (fun p => { p with crack := true })).raiseEv 0x27 0 184 0x5402 2 0 (min o.drawNat.1 65535) 0 0).replied s verbPlateUpdate r stLocked [] else ((a.regionDone r.win (u8 r.payload 0) r.tag s.plate.bytes false).plateStart (a.regionRead r.win (u8 r.payload 0) 0 s.plate.bytes) b (some { win := r.win, tag := r.tag })).replied s verbPlateUpdate r stAccepted [])) ∧
  (∀ (s : State) (r : Req) (b : List Byte),
      s.serves verbPlatePark r = true →
      b = r.payload →
      (s.offered verbPlatePark r).regionCheck r.win (u8 b 0) s.plate.bytes = none →
      u8 b 1 ≤ 4 →
      exec (.platePark r) s = .next (((((s.offered verbPlatePark r).regionDone r.win (u8 b 0) r.tag s.plate.bytes false).modPlate (fun p => { p with base := some ((s.offered verbPlatePark r).regionRead r.win (u8 b 0) 0 s.plate.bytes), parkFaults := u8 b 1, parkX := u16 b 2, parkY := u16 b 4, parkId := slice b 6 16 })).dirty).replied s verbPlatePark r stDone []))

/-- An antenna current below 4 mA while powered raises the open fault and from 6 mA on ends it; above 130 mA it is cut
and retried 5 s later; a whole RTCM frame is counted good or bad by its CRC-24Q and leaves the buffer; at an epoch the
epoch number advances, pending origin and line take effect, and the epoch is solved or handed to the host; in guard park
a burst is counted and a report wakes the machine. Rows: gnssAntOpen, gnssAntOpenEnd, gnssAntShort, gnssAntRetry,
gnssRtcmFrame, gnssEpoch, gnssGuardBurst, gnssGuardReport. Rules: R175, R176, R177, R179, R181, R182, R183, R184, R187,
R188, R189, R190. -/
def Obligations.GnssEventRowsComplete : Prop :=
  (∀ (s : State) (inst cur : Nat),
      antFitted s.variant inst = true →
      s.running 0x40 0 = true →
      (s.ant inst).on = true →
      (s.ant inst).openF = false →
      (s.ant inst).shortF = false →
      cur < 4 →
      exec (.gnssAntOpen inst cur) s = .next ((s.modAnt inst (fun a => { a with openF := true })).raiseEv 0x40 inst (212 + inst) 0x8002 2 inst cur 0 0)) ∧
  (∀ (s : State) (inst cur : Nat),
      antFitted s.variant inst = true →
      s.running 0x40 0 = true →
      (s.ant inst).on = true →
      (s.ant inst).openF = true →
      cur ≥ 6 →
      exec (.gnssAntOpenEnd inst cur) s = .next ((s.modAnt inst (fun a => { a with openF := false })).clearFault 0x8002 0x40 inst)) ∧
  (∀ (s : State) (inst cur : Nat),
      antFitted s.variant inst = true →
      s.running 0x40 0 = true →
      (s.ant inst).on = true →
      (s.ant inst).shortF = false →
      cur > 130 →
      exec (.gnssAntShort inst cur) s = .next ((s.modAnt inst (fun a => { a with shortF := true, retryAt := s.hw + 5000000000, retries := 0 })).raiseEv 0x40 inst (212 + inst) 0x8003 3 inst cur 0 0)) ∧
  (∀ (s : State) (inst cur : Nat),
      antFitted s.variant inst = true →
      s.running 0x40 0 = true →
      (s.ant inst).on = true →
      (s.ant inst).shortF = true →
      cur > 100 →
      exec (.gnssAntRetry inst cur) s = .next (let u := s.waitTo (s.ant inst).retryAt; u.modAnt inst (fun a => { a with retries := a.retries + 1, retryAt := u.hw + 5000000000 }))) ∧
  (∀ (s : State) (inst cur : Nat),
      antFitted s.variant inst = true →
      s.running 0x40 0 = true →
      (s.ant inst).on = true →
      (s.ant inst).shortF = true →
      cur ≤ 100 →
      exec (.gnssAntRetry inst cur) s = .next (let u := s.waitTo (s.ant inst).retryAt; ((u.waitTo (u.hw + 1000000000)).modAnt inst (fun a => { a with shortF := false, retries := a.retries + 1 })).clearFault 0x8003 0x40 inst)) ∧
  (∀ (s : State) (p : List Byte) (n crc : Nat),
      s.running 0x40 0 = true →
      p = rtcmSync s.gnss.rtcm →
      n = (u8 p 1 % 4) * 256 + u8 p 2 + 6 →
      n ≤ p.length →
      p ≠ [] →
      crc = u8 p (n - 3) * 65536 + u8 p (n - 2) * 256 + u8 p (n - 1) →
      exec (.gnssRtcmFrame) s = .next (s.modGnss (fun g => if crc24q (p.take (n - 3)) ≠ crc then { g with rtcm := p.drop n, rtcmBad := satAdd 32 g.rtcmBad 1 } else if rtcmUsed (rtcmType p) = false then { g with rtcm := p.drop n } else { g with rtcm := p.drop n, rtcmFrames := g.rtcmFrames + 1, corrMsgs := tset CorrMsg.reset g.corrMsgs (rtcmType p) { stamp := s.hw, sats := if (msmSystem (rtcmType p)).isSome then msmSats (p.take (n - 3)) else [] } }))) ∧
  (∀ (s b c a : State) (ev : NavEpoch),
      s.running 0x40 0 = true →
      s.trunkOn = true →
      s.boundary 105 50000000 ((-s.time.gpsOfs) % 50000000).toNat = b →
      ({ b.modGnss (fun g => { g with epochK := (g.epochK + 1) % 2 ^ 32, dr := b.reckoned, att := ev.att, origin := if g.pendOrigin.isSome then g.pendOrigin else g.origin, pendOrigin := none, line := match g.pendLine with | some l => l | none => g.line, pendLine := none }) with imu := { b.imu with recent := [] } } : State).modAnt 1 (fun z => { z with tracked := ((b.tracked ev.obs).filter (fun o => u8 o.bytes 0 == 1)).length }) = c →
      (if antFitted c.variant 2 then c.modAnt 2 (fun z => { z with tracked := ((b.tracked ev.obs).filter (fun o => u8 o.bytes 0 == 2)).length }) else c).corrEpoch.epochMarks { ev with obs := b.tracked ev.obs } = a →
      exec (.gnssEpoch ev) s = .next (if a.isHost gnssKey then ((a.solveSet { ev with obs := b.tracked ev.obs }).1.passRun b.hw (match (a.solveSet { ev with obs := b.tracked ev.obs }).2 with | .ok _ => true | .error _ => false)).hostEpoch b.hw { ev with obs := b.tracked ev.obs } else a.solveEpoch b.hw { ev with obs := b.tracked ev.obs })) ∧
  (∀ (s a : State) (height : F64),
      s.power.state = .guard →
      s.gnss.guardEnable = true →
      s.power.lossAt = none →
      a = { s with time.parkPeriods := (s.time.parkPeriods / 32768 + 1) * 32768 } →
      exec (.gnssGuardBurst none height) s = .next ((a.modGnss (fun g => { g with guardBursts := (g.guardBursts + 1) % 2 ^ 32, guardSupply := some (a.time.parkPeriods - 656, a.time.parkPeriods + 6554) })).modGnss (fun g => { g with guardNoFix := g.guardNoFix + 1 }))) ∧
  (∀ (s a b c d : State) (lat lon height : F64) (gps : Int) (mm n : Nat),
      s.power.state = .guard →
      s.gnss.guardEnable = true →
      s.power.lossAt = none →
      a = { s with time.parkPeriods := (s.time.parkPeriods / 32768 + 1) * 32768 } →
      b = a.modGnss (fun g => { g with guardBursts := (g.guardBursts + 1) % 2 ^ 32, guardSupply := some (a.time.parkPeriods - 656, a.time.parkPeriods + 6554) }) →
      c = (let t : State := if b.time.ofsValid then { b with time.stopped := max b.time.stopped (gps - b.time.gpsOfs - (b.time.parkPeriods * 1000000000 / 32768 : Nat)).toNat } else b; { t with time.anchorPeriods := t.time.parkPeriods }) →
      mm = Config.horizontalMm (c.gnss.guardPos.getD (lat, lon, height)) (lat, lon, height) →
      n = (if c.gnss.guardPos.isSome && c.gnss.guardRadius != 0 && decide (mm > 1000 * c.gnss.guardRadius) then c.gnss.guardOut + 1 else 0) →
      d = c.modGnss (fun g => { g with guardFix := some (lat, lon, height), guardNoFix := 0, guardOut := n, guardPos := some (g.guardPos.getD (lat, lon, height)) }) →
      exec (.gnssGuardBurst (some (lat, lon, gps)) height) s = .next (if n ≥ 2 then (d.modGnss (fun g => { g with guardOut := 0, guardPending := some (mm / 1000, g.guardBursts, b2n (decide (c.gnss.guardNoFix ≥ 60))), start := 2 })).wake 9 0 else d)) ∧
  (∀ (s : State),
      s.power.state = .guard →
      s.gnss.guardReport ≠ 0 →
      s.power.lossAt = none →
      exec (.gnssGuardReport) s = .next (({ s with time.parkPeriods := max s.time.parkPeriods (s.gnss.guardReport * 60 * 32768), gnss.start := 2 } : State).wake 10 0))

/-- STATUS and FIX answer the receiver's fields; CONFIG, ANTENNA, CORR, GUARD and HOSTBUF in range store their settings; RTCM
feeds the buffer; ORIGIN and LINE wait for the next epoch; SOLUTION in time, with no fix standing and 10 s of agreement
where the last was invalid, is accepted at its epoch; an IMU sample writes the seven signals in the machine's axes but for
those a standing fault affects, enters the pose history, and posts its fault when it begins or its end when it is over;
IMU STATUS and CONFIG answer and store. Rows: gnssStatus, gnssFix, gnssConfig, gnssAntenna, gnssCorr, gnssRtcm,
gnssOrigin, gnssLine, gnssGuard, gnssHostbuf, gnssSolution, imuSample, imuStatus, imuConfig. Rules: R175, R177, R179,
R180, R181, R185, R186, R187, R188, R190, R232. -/
def Obligations.GnssImuVerbsComplete : Prop :=
  (∀ (s : State) (r : Req),
      s.serves verbGnssStatus r = true →
      exec (.gnssStatus r) s = .next (((s.offered verbGnssStatus r)).replied s verbGnssStatus r stDone (b8 s.gnss.fix ++ b8 (s.ant 1).tracked ++ b8 (s.ant 2).tracked ++ b8 s.gnss.scopes.length ++ b8 (s.ant 1).jammed ++ b8 ((s.ant 1).code + 4 * (s.ant 2).code) ++ b8 s.gnss.headSrc ++ b8 (s.ant 2).jammed ++ b32 (match s.gnss.holdSince with | some t => (s.hw - t) / 1000000 | none => 0) ++ b32 s.gnss.rtcmBad ++ b32 s.gnss.rejected ++ bF s.gnss.corrAge))) ∧
  (∀ (s : State) (r : Req) (p : F64 × F64 × F64),
      s.serves verbGnssFix r = true →
      p = (if s.gnss.guardShown then s.gnss.guardFix.getD (s.gnss.lat, s.gnss.lon, s.gnss.height) else (s.gnss.lat, s.gnss.lon, s.gnss.height)) →
      exec (.gnssFix r) s = .next (((s.offered verbGnssFix r)).replied s verbGnssFix r stDone (bD p.1 ++ bD p.2.1 ++ bD p.2.2 ++ b64 s.gnss.epochStamp ++ b8 s.gnss.fix ++ b8 s.gnss.sats ++ b8 (b2n (s.gnss.guardShown && decide (s.gnss.guardNoFix ≥ 60))) ++ zeros 1 ++ bF s.gnss.hAcc))) ∧
  (∀ (s : State) (r : Req) (p : List Byte),
      s.serves verbGnssConfig r = true →
      p = r.payload →
      1 ≤ u8 p 0 →
      u8 p 0 < 128 →
      u8 p 1 ≤ 30 →
      u8 p 2 = 1 →
      antFitted s.variant 2 = true →
      shortBase (s.ant 1) (s.ant 2) = false →
      u8 p 3 ≤ 30 →
      u16 p 4 = 0xFFFF →
      fFinite (f32 p 8) = true →
      fEq (f32 p 8) fZero = false →
      fLe fOne (f32 p 12) = true →
      fLe (f32 p 12) (fNat 60) = true →
      exec (.gnssConfig r) s = .next ((((s.offered verbGnssConfig r).modGnss (fun g => { g with systems := u8 p 0, elev := u8 p 1, headMode := 1, drLimit := u8 p 3, wheelSig := 0xFFFF, wheelScale := f32 p 8, ageLimit := f32 p 12 })).dirty).replied s verbGnssConfig r stDone [])) ∧
  (∀ (s : State) (r : Req) (p : List Byte),
      s.serves verbGnssConfig r = true →
      p = r.payload →
      1 ≤ u8 p 0 →
      u8 p 0 < 128 →
      u8 p 1 ≤ 30 →
      u8 p 2 = 2 →
      u8 p 3 ≤ 30 →
      u16 p 4 = 0xFFFF →
      fFinite (f32 p 8) = true →
      fEq (f32 p 8) fZero = false →
      fLe fOne (f32 p 12) = true →
      fLe (f32 p 12) (fNat 60) = true →
      exec (.gnssConfig r) s = .next ((((s.offered verbGnssConfig r).modGnss (fun g => { g with systems := u8 p 0, elev := u8 p 1, headMode := 2, drLimit := u8 p 3, wheelSig := 0xFFFF, wheelScale := f32 p 8, ageLimit := f32 p 12 })).dirty).replied s verbGnssConfig r stDone [])) ∧
  (∀ (s : State) (r : Req) (p : List Byte) (a : Antenna),
      s.serves verbGnssAntenna r = true →
      p = r.payload →
      a = { s.ant r.inst with on := u8 p 0 == 1, px := f32 p 4, py := f32 p 8, pz := f32 p 12 } →
      u8 p 0 = 1 →
      within20 (f32 p 4) = true →
      within20 (f32 p 8) = true →
      within20 (f32 p 12) = true →
      s.gnss.headMode ≠ 1 →
      exec (.gnssAntenna r) s = .next ((((s.offered verbGnssAntenna r).modAnt r.inst (fun _ => { s.ant r.inst with on := true, px := f32 p 4, py := f32 p 8, pz := f32 p 12 })).dirty).replied s verbGnssAntenna r stDone [])) ∧
  (∀ (s : State) (r : Req),
      s.serves verbGnssCorr r = true →
      u8 r.payload 0 ≤ 3 →
      u8 r.payload 1 < 8 →
      u16 r.payload 2 < 16 →
      exec (.gnssCorr r) s = .next ((((s.offered verbGnssCorr r).modGnss (fun g => { g with corrSrc := u8 r.payload 0, corrChan := u8 r.payload 1, corrNum := u16 r.payload 2, rtcm := [] })).dirty).replied s verbGnssCorr r stDone [])) ∧
  (∀ (s : State) (r : Req),
      s.serves verbGnssRtcm r = true →
      s.gnss.corrSrc = 3 →
      exec (.gnssRtcm r) s = .next (((s.offered verbGnssRtcm r).rtcmFeed r.payload).replied s verbGnssRtcm r stDone [])) ∧
  (∀ (s : State) (r : Req),
      s.serves verbGnssOrigin r = true →
      exec (.gnssOrigin r) s = .next ((((s.offered verbGnssOrigin r).modGnss (fun g => { g with pendOrigin := some (f64 r.payload 0, f64 r.payload 8, f64 r.payload 16) })).dirty).replied s verbGnssOrigin r stDone [])) ∧
  (∀ (s : State) (r : Req) (p : List Byte),
      s.serves verbGnssLine r = true →
      p = r.payload →
      dLe (dInt (-90)) (f64 p 0) = true →
      dLe (f64 p 0) (dInt 90) = true →
      dLe (dInt (-180)) (f64 p 8) = true →
      dLe (f64 p 8) (dInt 180) = true →
      fLe fZero (f32 p 16) = true →
      fLt (f32 p 16) (fNat 360) = true →
      fEq (f32 p 20) fZero = true →
      u8 p 24 ≤ 1 →
      exec (.gnssLine r) s = .next ((((s.offered verbGnssLine r).modGnss (fun g => { g with pendLine := some (if u8 p 24 = 1 then some { lat := f64 p 0, lon := f64 p 8, heading := f32 p 16, spacing := f32 p 20 } else none) })).dirty).replied s verbGnssLine r stDone [])) ∧
  (∀ (s : State) (r : Req) (p : List Byte),
      s.serves verbGnssGuard r = true →
      p = r.payload →
      u8 p 0 ≤ 1 →
      u16 p 2 = 0 ∨ (5 ≤ u16 p 2 ∧ u16 p 2 ≤ 500) →
      u16 p 4 = 0 ∨ (10 ≤ u16 p 4 ∧ u16 p 4 ≤ 1440) →
      exec (.gnssGuard r) s = .next ((((s.offered verbGnssGuard r).modGnss (fun g => { g with guardEnable := u8 p 0 == 1, guardRadius := u16 p 2, guardReport := u16 p 4 })).dirty).replied s verbGnssGuard r stDone [])) ∧
  (∀ (s : State) (r : Req),
      s.serves verbGnssHostbuf r = true →
      (s.offered verbGnssHostbuf r).regionCheck r.win (u8 r.payload 0) 16384 = none →
      (s.offered verbGnssHostbuf r).regionCheck r.win (u8 r.payload 1) 16384 = none →
      s.isHost gnssKey = false →
      (s.hostFn gnssKey).pending = none →
      exec (.gnssHostbuf r) s = .next ((((s.offered verbGnssHostbuf r).modGnss (fun g => { g with hostBuf := { set := true, win := r.win, tag := r.tag, a := u8 r.payload 0, b := u8 r.payload 1 } })).dirty).replied s verbGnssHostbuf r stDone [])) ∧
  (∀ (s : State) (r : Req) (p : List Byte) (q : State × Bool),
      s.serves verbGnssSolution r = true →
      p = r.payload →
      (s.hostFn gnssKey).host = true →
      (s.hostFn gnssKey).owner = r.win →
      u32 p 0 ≠ 0 →
      u32 p 0 ≤ (s.hostFn gnssKey).k →
      1 ≤ u8 p 4 →
      u8 p 4 ≤ 4 →
      4 ≤ u8 p 5 →
      dFinite (f64 p 8) = true →
      dFinite (f64 p 16) = true →
      dFinite (f64 p 24) = true →
      (f32s p 32 3).all fFinite = true →
      fFinite (f32 p 44) = true →
      fLt fZero (f32 p 44) = true →
      (s.offered verbGnssSolution r).hostInTime gnssKey (u32 p 0) = true →
      s.gnss.invalid = false ∨ (s.offered verbGnssSolution r).passed10 (s.hostFn gnssKey).tk = true →
      q = (if s.gnss.fix = 0 then (s.offered verbGnssSolution r, true) else (s.offered verbGnssSolution r).agrees (hostSol p)) →
      q.2 = true →
      (q.1.hostResult gnssKey).2 = true →
      exec (.gnssSolution r) s = .next (((q.1.hostResult gnssKey).1.acceptEpoch (s.hostFn gnssKey).tk (u8 p 4) (u8 p 5) (hostSol p)).replied s verbGnssSolution r stDone [])) ∧
  (∀ (s b a w : State) (vals raw : List F32) (sat kind k axes : Nat) (moving : Bool) (satAx sameAx : List Nat),
      s.running 0x44 0 = true →
      s.trunkOn = true →
      b = s.boundary 123 1000000 0 →
      raw = (List.range 7).map (fun i => vals.getD i fZero) →
      a = b.modImu (fun m => { m with satSince := runTab m.satSince b.hw (fun i => sat.testBit i), sameSince := runTab m.sameSince m.lastAt (fun i => moving && m.last.length == 7 && m.last.getD i fZero == raw.getD i fZero), last := raw, lastAt := b.hw, recent := b.imu.body raw :: m.recent.take 49 }) →
      satAx = (List.range 6).filter (fun i => (tget 0 a.imu.satSince i != 0) && decide (a.hw > tget 0 a.imu.satSince i - 1 + 100000000)) →
      sameAx = (List.range 6).filter (fun i => (tget 0 a.imu.sameSince i != 0) && decide (a.hw ≥ tget 0 a.imu.sameSince i - 1 + 2000000000)) →
      k = (if kind = 1 ∨ kind = 4 then kind else if satAx ≠ [] then 2 else if sameAx ≠ [] then 3 else 0) →
      axes = (if k = 1 ∨ k = 4 then 0x7F else b.imu.affected (bitSet (satAx ++ sameAx))) →
      w = ((List.range 7).foldl (fun (s : State) i => if axes.testBit i then s.modFlags (0xF0 + i) (fun f => clearBits f fgValid ||| fgFault) else s.setSig (0xF0 + i) ((b.imu.body raw).getD i fZero) s.hw fgValid) a).poseTake →
      exec (.imuSample vals sat kind moving) s = .next (if k = 0 then (let v := w.modImu (fun m => { m with state := 0 }); if b.imu.state ≠ 0 then v.clearFault 0x1050 0x44 0 else v) else (let v := w.modImu (fun m => { m with state := 2, lastKind := k }); if b.imu.state = 2 ∧ b.imu.lastKind = k then v else v.raiseEv 0x44 0 39 0x1050 3 0 k axes 0))) ∧
  (∀ (s : State) (r : Req),
      s.serves verbImuStatus r = true →
      exec (.imuStatus r) s = .next (((s.offered verbImuStatus r)).replied s verbImuStatus r stDone (b8 s.imu.state ++ b8 s.imu.lastKind ++ zeros 2))) ∧
  (∀ (s : State) (r : Req) (p : List Byte),
      s.serves verbImuConfig r = true →
      p = r.payload →
      bits (u8 p 0) 2 0 < 6 →
      bits (u8 p 0) 5 3 < 6 →
      bits (u8 p 0) 2 0 / 2 ≠ bits (u8 p 0) 5 3 / 2 →
      u8 p 0 < 64 →
      (f32s p 4 3).all (fun a => fLe (fInt (-10)) a && fLe a (fNat 10)) = true →
      (f32s p 16 3).all within20 = true →
      exec (.imuConfig r) s = .next ((((s.offered verbImuConfig r).modImu (fun m => { m with orient := u8 p 0, angles := f32s p 4 3, mark := f32s p 16 3 })).dirty).replied s verbImuConfig r stDone []))

/-- A served GRAFT.STATUS and MISSING answer; OPEN of a header that is in order, from a usable region, opens the image, or
answers the failed authentication where the verification of its certificate or signature, which is free, fails; a PIECE
with its hash is stored once; DISCARD drops what is delivered or installed; ACTIVATE of a set that passes every check
begins; CONFIRM by the confirmer ends the trial; FALLBACK begins the fall-back; an installation copies the parts that
verify into the free slot. Rows: graftStatus, graftMissing, graftOpen, graftPiece, graftDiscard, graftActivate,
graftConfirm, graftFallbackCmd, graftInstalled. Rules: R414, R415, R416, R417, R418, R419, R420, R421, R422, R428, R431,
R432. -/
def Obligations.GraftDeliveryComplete : Prop :=
  (∀ (s : State) (r : Req),
      s.serves verbGraftStatus r = true →
      exec (.graftStatus r) s = .next (((s.offered verbGraftStatus r)).replied s verbGraftStatus r stDone (b8 (if s.graft.installing then 2 else if !s.graft.inc.header.isEmpty then 1 else if s.graft.otherSet.present && !s.graft.trial then 3 else 0) ++ b8 (if s.graft.act.fallback then 3 else if s.graft.act.step != 0 then 1 else if s.graft.trial then 2 else 0) ++ b16 (if s.graft.inc.header.isEmpty then 0 else hdrParts s.graft.inc.header) ++ b32 (if s.graft.inc.header.isEmpty then 0 else u32 s.graft.inc.header 16) ++ b32 s.graft.inc.pieces.length ++ b32 (if s.graft.inc.header.isEmpty then 0 else hdrPieces s.graft.inc.header) ++ b32 (s.offered verbGraftStatus r).keeper.verSet ++ b32 (if s.graft.trial then s.graft.otherSet.id else 0) ++ b32 (if s.graft.trial then (s.offered verbGraftStatus r).trialRemaining else 0) ++ b32 s.graft.minSec))) ∧
  (∀ (s : State) (r : Req),
      s.serves verbGraftMissing r = true →
      u32 r.payload 0 % 832 = 0 →
      exec (.graftMissing r) s = .next (((s.offered verbGraftMissing r)).replied s verbGraftMissing r stDone (b32 (u32 r.payload 0) ++ (List.range 104).flatMap (fun j => b8 (bitSet ((List.range 8).filter (fun k => (tfind s.graft.inc.pieces (u32 r.payload 0 + 8 * j + k)).isSome))))))) ∧
  (∀ (s a n : State) (r : Req) (b : List Byte),
      s.serves verbGraftOpen r = true →
      (s.offered verbGraftOpen r).regionCheck r.win (u8 r.payload 0) (u32 r.payload 4) = none →
      (s.offered verbGraftOpen r).regionRead r.win (u8 r.payload 0) 0 (u32 r.payload 4) = b →
      (s.offered verbGraftOpen r).regionDone r.win (u8 r.payload 0) r.tag (u32 r.payload 4) false = a →
      headerOk b = true →
      u16 (slice b (hdrCert b) 256) 8 = typeCode a.variant ∨ u16 (slice b (hdrCert b) 256) 8 = 0x56FF →
      u16 b 6 = typeCode a.variant →
      u64 b 8 = 0 ∨ u64 b 8 = a.part.serial →
      a.graft.minSec ≤ u32 b 20 →
      imageBytes b ≤ atticMiB a.variant 2 * 2 ^ 20 →
      a.graft.installing = false ∨ a.graft.inc.header = b →
      a.graft.inc.header = [] ∨ a.graft.inc.header = b ∨ bit (u8 r.payload 1) 0 = true ∨ hdrPieces a.graft.inc.header ≤ a.graft.inc.pieces.length →
      a.attic.inhibit = false →
      a.attic.readOnly = false →
      n = (if a.graft.inc.header = b then a else (a.modGraft (fun g => { g with inc := { header := b, pieces := [] } })).atticWear (u32 r.payload 4)) →
      exec (.graftOpen r) s = .next (if Config.certVerifies (slice b (hdrCert b) 256) = true ∧ signatureOk b = true then (n.post 0x60 0 248 0xC001 0 (u32 b 16) n.graft.inc.pieces.length (hdrPieces b)).replied s verbGraftOpen r stDone (b32 n.graft.inc.pieces.length ++ b32 (hdrPieces b)) else a.replied s verbGraftOpen r stAuth [])) ∧
  (∀ (s : State) (r : Req) (i : Nat) (b d : List Byte) (g : State),
      s.serves verbGraftPiece r = true →
      (s.offered verbGraftPiece r).graft.inc.header = b →
      b ≠ [] →
      (s.offered verbGraftPiece r).graft.installing = false →
      i = u32 r.payload 4 →
      i < hdrPieces b →
      (s.offered verbGraftPiece r).regionCheck r.win (u8 r.payload 0) (pieceLen b i) = none →
      (s.offered verbGraftPiece r).regionRead r.win (u8 r.payload 0) 0 (pieceLen b i) = d →
      sha256 d = slice b (hdrHashes b + 32 * i) 32 →
      (s.offered verbGraftPiece r).attic.inhibit = false →
      (s.offered verbGraftPiece r).attic.readOnly = false →
      (if (tfind (s.offered verbGraftPiece r).graft.inc.pieces i).isSome then (s.offered verbGraftPiece r).regionDone r.win (u8 r.payload 0) r.tag (pieceLen b i) false else (((s.offered verbGraftPiece r).regionDone r.win (u8 r.payload 0) r.tag (pieceLen b i) false).modGraft (fun g => { g with inc.pieces := tput g.inc.pieces i d })).atticWear (pieceLen b i)).clearFault 0xC002 0x60 0 = g →
      exec (.graftPiece r) s = .next ((if !(tfind (s.offered verbGraftPiece r).graft.inc.pieces i).isSome && g.graft.inc.pieces.length == hdrPieces b then (g.post 0x60 0 248 0xC003 0 (u32 b 16) g.graft.inc.pieces.length 0).modGraft (fun x => { x with installing := true }) else g).replied s verbGraftPiece r stDone (b32 g.graft.inc.pieces.length ++ b32 (hdrPieces b)))) ∧
  (∀ (s : State) (r : Req),
      s.serves verbGraftDiscard r = true →
      s.graft.installing = false →
      s.graft.act.step = 0 →
      exec (.graftDiscard r) s = .next (((s.offered verbGraftDiscard r).modGraft (fun g => if g.trial then { g with inc := Incoming.reset } else { g with inc := Incoming.reset }.putOther BootSet.reset)).replied s verbGraftDiscard r stDone [])) ∧
  (∀ (s : State) (r : Req),
      s.serves verbGraftActivate r = true →
      s.graft.otherSet.present = true →
      s.graft.act.step = 0 →
      s.graft.installing = false →
      s.graft.trial = false →
      (s.offered verbGraftActivate r).keeper.retired = [] →
      s.power.state ≠ .parking →
      s.attic.inhibit = false →
      (s.offered verbGraftActivate r).setCheck (s.offered verbGraftActivate r).activeSet (s.offered verbGraftActivate r).graft.otherSet (bit (u8 r.payload 0) 0) = none →
      exec (.graftActivate r) s = .next (((s.offered verbGraftActivate r).modAct (fun _ => { Activ.reset with step := 2, op := some { win := r.win, tag := r.tag }, cold := bit (u8 r.payload 0) 0 })).replied s verbGraftActivate r stAccepted [])) ∧
  (∀ (s : State) (r : Req),
      s.serves verbGraftConfirm r = true →
      r.win = (s.offered verbGraftConfirm r).activeSet.confirmer →
      u32 r.payload 0 = (s.offered verbGraftConfirm r).keeper.verSet →
      s.graft.trial = true →
      s.graft.act.step = 0 →
      exec (.graftConfirm r) s = .next ((let n := (s.offered verbGraftConfirm r).modGraft (fun g => { (g.putOther BootSet.reset) with trial := false, minSec := max g.minSec (s.offered verbGraftConfirm r).activeSet.secver, oldRecs := [], oldPantry := [] }); (n.post 0x60 0 249 0xC023 0 (s.offered verbGraftConfirm r).activeSet.id n.graft.minSec 0).clearFault 0xC024 0x60 0).replied s verbGraftConfirm r stDone [])) ∧
  (∀ (s : State) (r : Req),
      s.serves verbGraftFallback r = true →
      s.graft.trial = true →
      s.graft.act.step = 0 →
      u32 r.payload 0 = (s.offered verbGraftFallback r).keeper.verSet →
      exec (.graftFallbackCmd r) s = .next (((s.offered verbGraftFallback r).fallbackStart 2 (some { win := r.win, tag := r.tag }) none).replied s verbGraftFallback r stAccepted [])) ∧
  (∀ (s : State) (b : BootSet),
      s.graft.installing = true →
      s.graft.trial = false →
      s.running 0x60 0 = true →
      s.attic.readOnly = false →
      (∀ i, i < hdrParts s.graft.inc.header → ∃ d, s.partData (partOf s.graft.inc.header i) = some d ∧ sha256 d = (partOf s.graft.inc.header i).sha) →
      { present := true, id := u32 s.graft.inc.header 16, secver := u32 s.graft.inc.header 20, windowMin := u16 s.graft.inc.header 34, confirmer := u8 s.graft.inc.header 36, parts := (List.range (hdrParts s.graft.inc.header)).map (fun i => { partOf s.graft.inc.header i with data := (s.partData (partOf s.graft.inc.header i)).getD [] }) } = b →
      exec (.graftInstalled) s = .next (((s.modGraft (fun g => { (g.putOther b) with inc := Incoming.reset, installing := false })).atticWear ((b.parts.map (fun p => p.data.length)).sum)).post 0x60 0 248 0xC004 0 b.id s.graft.freeSlot (b.parts.filter PartEnt.retained).length))

/-- Once hashed the new set is committed, unit parts taken, removed partitions stopped and the first partition taken,
and a mismatch or an Attic that takes no write abandons; the old instance is notified 5 ms before b, yields from b on,
and the new one takes; each time-out abandons with its cause; Root and Keeper cut over in their pauses, or an overlong
Keeper pause ends in the old Keeper; the trial's due notice, count, time-out and boot time-out happen at their instants;
the fall-back's end restores its set. Rows: graftHashDone, graftHandoverNotice, graftYield, graftTake,
graftReadyTimeout, graftYieldTimeout, graftTakeTimeout, rootCutover, keeperCutover, keeperCutoverTimeout,
graftConfirmDue, graftTrialCountWrite, graftConfirmTimeout, graftBootTimeout, graftFallbackDone. Rules: R423, R424,
R425, R426, R427, R428, R429, R430. -/
def Obligations.GraftHandoverComplete : Prop :=
  (∀ (s : State),
      s.graft.act.step = 2 →
      s.graft.act.fallback = false →
      s.running 0x60 0 = true →
      s.graft.otherSet.parts.findIdx? (fun p => sha256 p.data != p.sha) = none →
      s.attic.readOnly = false →
      exec (.graftHashDone) s = .next (((((s.graftCommit).modAct (fun a => { a with step := 5 })).unitParts).removeGone.modAct (fun a => { a with todo := (((s.graftCommit).modAct (fun a => { a with step := 5 })).unitParts).removeGone.canopyTodo })).graftGo)) ∧
  (∀ (s : State) (i : Nat),
      s.graft.act.step = 2 →
      s.graft.act.fallback = false →
      s.running 0x60 0 = true →
      s.graft.otherSet.parts.findIdx? (fun p => sha256 p.data != p.sha) = some i →
      exec (.graftHashDone) s = .next (s.graftAbandon 8 i)) ∧
  (∀ (s : State),
      s.graft.act.step = 2 →
      s.graft.act.fallback = false →
      s.running 0x60 0 = true →
      s.graft.otherSet.parts.findIdx? (fun p => sha256 p.data != p.sha) = none →
      s.attic.readOnly = true →
      exec (.graftHashDone) s = .next (s.graftAbandon 7 0xFFFF)) ∧
  (∀ (s : State) (i b : Nat) (p : PartEnt),
      s.curPart = some (i, p) →
      s.graft.act.b = some b →
      s.graft.act.noticed = false →
      exec (.graftHandoverNotice) s = .next (((s.waitTo (b - 5000000)).postIn p.win 250 0xC010 0 p.win (usOf b) (usOf (b + 20000000))).modAct (fun a => { a with noticed := true }))) ∧
  (∀ (s : State) (r : Req) (i b : Nat) (p : PartEnt),
      s.serves verbGraftYield r = true →
      (s.offered verbGraftYield r).curPart = some (i, p) →
      (s.offered verbGraftYield r).graft.act.b = some b →
      r.win = p.win →
      b ≤ (s.offered verbGraftYield r).hw →
      (s.offered verbGraftYield r).graft.act.yieldAt = none →
      exec (.graftYield r) s = .next ((let n := ({ (s.offered verbGraftYield r) with keeper.partitions := tmod Partition.reset (s.offered verbGraftYield r).keeper.partitions p.pid (fun q => { q with state := .paused }) } : State).modAct (fun a => { a with yieldAt := some (s.offered verbGraftYield r).hw, payload := u32 r.payload 0 }); n.postIn (p.win + 0x100) 250 0xC011 0 p.win (u32 r.payload 0) (usOf (n.hw + 50000000))).replied s verbGraftYield r stDone [])) ∧
  (∀ (s : State) (r : Req) (i : Nat) (p : PartEnt),
      s.serves verbGraftTake r = true →
      (s.offered verbGraftTake r).curPart = some (i, p) →
      r.win = p.win + 0x100 →
      u8 r.payload 0 = 0 →
      (s.offered verbGraftTake r).graft.act.b = none →
      p.cutPhase * 1000 < (s.offered verbGraftTake r).hw + 10000000 →
      exec (.graftTake r) s = .next (((s.offered verbGraftTake r).modAct (fun a => { a with b := some (p.cutPhase * 1000 + ((s.offered verbGraftTake r).hw + 10000000 - p.cutPhase * 1000 + p.cutPeriod * 1000 - 1) / (p.cutPeriod * 1000) * (p.cutPeriod * 1000)) })).replied s verbGraftTake r stDone [])) ∧
  (∀ (s : State) (r : Req) (i y : Nat) (p : PartEnt),
      s.serves verbGraftTake r = true →
      (s.offered verbGraftTake r).curPart = some (i, p) →
      r.win = p.win + 0x100 →
      u8 r.payload 0 = 1 →
      (s.offered verbGraftTake r).graft.act.yieldAt = some y →
      exec (.graftTake r) s = .next ((let n := (((({ (s.offered verbGraftTake r).takeDecl p with keeper.partitions := tmod Partition.reset ((s.offered verbGraftTake r).takeDecl p).keeper.partitions p.pid (fun q => { q with state := .running, cores := (declOf p.data).cores }) } : State).modAct (fun a => { a with done := a.done ++ [i], cur := none, b := none, yieldAt := none })).pantryPart p.win).partDone i 1 (((s.offered verbGraftTake r).hw - y) / 1000)); (n.modWin (p.win + 0x100) (fun x => { x with running := false })).graftGo).replied s verbGraftTake r stDone [])) ∧
  (∀ (s : State) (i : Nat) (p : PartEnt),
      s.curPart = some (i, p) →
      s.graft.act.b = none →
      exec (.graftReadyTimeout) s = .next ((s.waitTo (s.graft.act.startAt + 60000000000)).graftAbandon 1 i)) ∧
  (∀ (s : State) (i b : Nat) (p : PartEnt),
      s.curPart = some (i, p) →
      s.graft.act.b = some b →
      s.graft.act.yieldAt = none →
      exec (.graftYieldTimeout) s = .next ((s.waitTo (b + 20000000)).graftAbandon 2 i)) ∧
  (∀ (s : State) (i y : Nat) (p : PartEnt),
      s.curPart = some (i, p) →
      s.graft.act.yieldAt = some y →
      exec (.graftTakeTimeout) s = .next (({ s.waitTo (y + 50000000) with keeper.partitions := tmod Partition.reset (s.waitTo (y + 50000000)).keeper.partitions p.pid (fun q => { q with state := .running }) } : State).graftAbandon 3 i)) ∧
  (∀ (s a : State),
      s.graft.act.step = 6 →
      s.root.phase = .pause →
      s.hw ≤ s.root.pauseAt + 15000000 →
      (((({ s with root.phase := .running, root.serviceAt := s.hw, root.tminUse := 0, faults.rootSeen := s.faults.rootSeen ++ s.faults.inbox, faults.inbox := [] } : State).takeDecl (s.activeSet.part (s.activeSet.idx 2))).unitStop 0x50 0 2 false).unitRun 0x50 0) = a →
      exec (.rootCutover) s = .next ((((((a.modAct (fun x => { x with pauses := x.pauses + (s.hw - s.root.pauseAt) / 1000 })).markDone (s.activeSet.idx 2)).pantryPart 0).partDone (s.activeSet.idx 2) 1 ((s.hw - s.root.pauseAt) / 1000)).graftGo))) ∧
  (∀ (s : State),
      s.keeper.paused = true →
      s.keeperCutover.keeper.paused = false →
      exec (.keeperCutover) s = .next (s.keeperCutover.pauseEnd (s.keeperCutover.hw - s.keeper.pausedAt))) ∧
  (∀ (s : State),
      s.keeper.paused = true →
      s.keeperCutoverFail.keeper.paused = false →
      exec (.keeperCutoverTimeout) s = .next (s.keeperCutoverFail.pauseEnd (s.keeperCutoverFail.hw - s.keeper.pausedAt))) ∧
  (∀ (s a : State),
      s.graft.trial = true →
      s.graft.dueDone = false →
      s.graft.act.step = 0 →
      s.operating = true →
      s.waitOp (s.graft.trialAt + (s.graft.trialLeft - s.trialWindow / 10) * 1000000000) = a →
      exec (.graftConfirmDue) s = .next ((a.post 0x60 0 249 0xC022 0 a.activeSet.id a.trialRemaining 0).modGraft (fun g => { g with dueDone := true }))) ∧
  (∀ (s a : State),
      s.graft.trial = true →
      s.operating = true →
      s.waitOp (s.graft.trialAt + 60000000000) = a →
      exec (.graftTrialCountWrite) s = .next (a.modGraft (fun g => { g with trialLeft := a.trialRemaining, trialWritten := a.trialRemaining, trialAt := a.power.opNs }))) ∧
  (∀ (s : State),
      s.graft.trial = true →
      s.graft.act.step = 0 →
      s.operating = true →
      exec (.graftConfirmTimeout) s = .next ((s.waitOp (s.graft.trialAt + s.graft.trialLeft * 1000000000)).fallbackStart 1 none none)) ∧
  (∀ (s : State),
      s.graft.trial = true →
      s.power.trunkDue ≠ 0 →
      s.trunkOn = false →
      s.graft.bootFails = 0 →
      exec (.graftBootTimeout) s = .next (s.modGraft (fun g => { g with bootFails := 1 }))) ∧
  (∀ (s : State),
      s.graft.trial = true →
      s.power.trunkDue ≠ 0 →
      s.trunkOn = false →
      1 ≤ s.graft.bootFails →
      exec (.graftBootTimeout) s = .next (s.modGraft (fun g => { g with bootFails := 0, active := g.freeSlot, act := { Activ.reset with step := 8, fallback := true, cause := 4 } }))) ∧
  (∀ (s a b c : State),
      s.graft.act.fallback = true →
      s.graft.act.step = 8 →
      s.graft.act.todo = [] →
      s.graft.act.cur = none →
      s.keeper.paused = false →
      s.running 0x60 0 = true →
      s.removeGone = a →
      a.inForce a.activeSet = b →
      (if b.inRun then (canopyParts a.activeSet).foldl (fun (s : State) i => if (tget Partition.reset s.keeper.partitions (a.activeSet.part i).pid).state == .stopped then (s.startPartition (a.activeSet.part i).pid).partDone i 3 0 else s) b else b) = c →
      s.graft.act.op = none →
      exec (.graftFallbackDone) s = .next ((c.modGraft (fun g => { (g.putOther BootSet.reset) with trial := false, act := Activ.reset, oldRecs := [], oldPantry := [] })).post 0x60 0 249 0xC025 0 (65536 * (c.modGraft (fun g => { (g.putOther BootSet.reset) with trial := false, act := Activ.reset, oldRecs := [], oldPantry := [] })).gen 0x60 0) s.graft.act.coldCount a.activeSet.id))

/-- At a multiple of 100 ms a configured Granary judges the flow received since the last and maps it, or hands it to the
host; the oldest changed tile is written at its due instant; a stopped file is written, closed and its completion
posted; the GRANARY verbs answer and take effect. Rows: granaryPeriod, granaryTileWrite, granaryFileClosed,
granaryStatus, granaryConfig, granarySections, granaryCalib, granaryOpen, granaryClose, granaryCorrect, granaryHostbuf,
granaryResult. Rules: R243, R245, R246, R247, R248, R249, R251, R253, R254, R255, R256, R257. -/
def Obligations.GranaryRowsComplete : Prop :=
  (∀ (s a : State),
      s.running 0x43 0 = true →
      s.trunkOn = true →
      a = (s.boundary 160 100000000 0).modGran (fun g => { g with flow := [] }) →
      a.granary.configured = true →
      a.isHost granKey = false →
      exec (.granaryPeriod) s = .next ((a.granFlow (s.boundary 160 100000000 0).granary.flow).granTurn)) ∧
  (∀ (s a : State),
      s.running 0x43 0 = true →
      s.trunkOn = true →
      a = (s.boundary 160 100000000 0).modGran (fun g => { g with flow := [] }) →
      a.granary.configured = false →
      exec (.granaryPeriod) s = .next a.granTurn) ∧
  (∀ (s : State) (f : GranFile) (q : GranTile) (due1 due2 due3 : Nat) (lim : List Nat),
      s.granary.file = some f →
      s.running 0x43 0 = true →
      s.trunkOn = true →
      s.attic.readOnly = false →
      s.attic.fault = false →
      oldestTile f.tiles = some q →
      due1 = q.changed.getD 0 + 60000000000 →
      due2 = (match q.written with | some w => max due1 (w + 60000000000) | none => due1) →
      lim = s.granary.writes.filter (fun w => decide (max s.hw due2 < w + 60000000000)) →
      due3 = (if lim.length ≥ 16 then max due2 (lim.getD 15 0 + 60000000000) else due2) →
      exec (.granaryTileWrite) s = .next ((s.waitTo due3).granWrite (fun x => x.east == q.east && x.north == q.north))) ∧
  (∀ (s a : State) (op : Op) (f : GranFile),
      s.granary.closing = some op →
      s.granary.file = some f →
      s.running 0x43 0 = true →
      s.granary.stopped = true →
      s.trunkOn = true →
      s.attic.readOnly = false →
      s.attic.fault = false →
      a = s.granWrite (fun t => t.changed.isSome) →
      a.granary.file.any (fun x => x.tiles.any (fun t => t.changed.isSome)) = false →
      exec (.granaryFileClosed) s = .next ((((if a.granary.full then a.clearFault 0xA006 0x43 0 else a).modGran (fun g => { g with files := g.files ++ g.file.toList, file := none, closing := none, stopped := false, mapping := false, full := false, marked := none })).complete op 0x43 0 228 0xA002 stDone f.field f.tiles.length))) ∧
  (∀ (s : State) (r : Req) (f : GranFile) (st : Nat) (span : Int),
      s.serves verbGranaryStatus r = true →
      f = s.granary.file.getD GranFile.reset →
      st = (if s.granary.file.isNone then 0 else if s.granary.closing.isSome then 2 else if s.granary.full then 3 else 1) →
      span = (match s.granary.hist.head?, s.granary.hist.getLast? with | some a, some b => (a.stamp : Int) - b.stamp | _, _ => 0) →
      exec (.granaryStatus r) s = .next (((s.offered verbGranaryStatus r)).replied s verbGranaryStatus r stDone (b8 st ++ b8 s.granary.widthUse ++ b8 f.res ++ b8 0 ++ b32 f.field ++ bF f.total ++ bF f.area ++ bF f.unmapped ++ bF s.granary.corr ++ b16 f.tiles.length ++ b16 (f.tiles.filter (fun t => t.changed.isSome)).length ++ bF (fFrac span 1000000000)))) ∧
  (∀ (s : State) (r : Req) (p : List Byte),
      s.serves verbGranaryConfig r = true →
      p = r.payload →
      u16 p 0 < 0x1000 →
      u16 p 2 = 0xFFFF →
      80 ≤ u16 p 4 →
      u16 p 4 ≤ 200 →
      u16 p 6 ≤ 100 →
      u8 p 8 = 0 →
      u8 p 10 ≤ 1 →
      fLe (fInt (-5)) (f32 p 12) = true →
      fLe (f32 p 12) (fNat 20) = true →
      fLe (fInt (-10)) (f32 p 16) = true →
      fLe (f32 p 16) (fNat 10) = true →
      fLe fZero (f32 p 20) = true →
      fLe (f32 p 20) (fNat 50) = true →
      (s.offered verbGranaryConfig r).sigReadable r.win (u16 p 0) = true →
      s.granary.file = none →
      exec (.granaryConfig r) s = .next ((((s.offered verbGranaryConfig r).modGran (fun g => { g with pendCfg := some p })).dirty).replied s verbGranaryConfig r stDone [])) ∧
  (∀ (s : State) (r : Req) (p : List Byte) (l : List GranSection),
      s.serves verbGranarySections r = true →
      p = r.payload →
      (List.range (u8 p 0)).map (fun i => ({ sig := u16 p (4 + 8 * i), width := f32 p (8 + 8 * i) } : GranSection)) = l →
      1 ≤ u8 p 2 →
      u8 p 2 ≤ 16 →
      u8 p 1 = 0 →
      u8 p 0 = u8 p 2 →
      l.all (fun x => (x.sig == 0xFFFF || decide (x.sig < 0x1000)) && fLe (fFrac 1 10) x.width && fLe x.width (fNat 20)) = true →
      l.all (fun x => x.sig == 0xFFFF || s.sigReadable r.win x.sig) = true →
      fLe (fSum (l.map (·.width))) (fNat 60) = true →
      exec (.granarySections r) s = .next (((((s.offered verbGranarySections r).modGran (fun g => { g with building := [], buildTotal := 0 })).modGran (fun g => { g with pendSec := some l })).dirty).replied s verbGranarySections r stDone [])) ∧
  (∀ (s : State) (r : Req) (l : List (F32 × F32)),
      s.serves verbGranaryCalib r = true →
      l = (List.range (u8 r.payload 0)).map (fun i => (f32 r.payload (4 + 8 * i), f32 r.payload (8 + 8 * i))) →
      l.all (fun e => fFinite e.1 && fFinite e.2) = true →
      (List.range (l.length - 1)).all (fun i => fLt (l.getD i (0, 0)).1 (l.getD (i + 1) (0, 0)).1) = true →
      exec (.granaryCalib r) s = .next ((((s.offered verbGranaryCalib r).modGran (fun g => { g with pendCurve := some l })).dirty).replied s verbGranaryCalib r stDone [])) ∧
  (∀ (s : State) (r : Req) (p : List Byte),
      s.serves verbGranaryOpen r = true →
      p = r.payload →
      u8 p 4 ≤ 2 →
      dFinite (f64 p 8) = true →
      dFinite (f64 p 16) = true →
      s.granary.file = none →
      s.granary.files.find? (fun f => f.field == u32 p 0) = none →
      exec (.granaryOpen r) s = .next ((((s.offered verbGranaryOpen r).modGran (fun g => { g with file := some { GranFile.reset with field := u32 p 0, res := u8 p 4, lat := f64 p 8, lon := f64 p 16, created := (s.hw : Int) + s.time.gpsOfs, createdHw := s.hw, epoch := s.time.epoch }, opening := 1, full := false })).dirty).replied s verbGranaryOpen r stDone [])) ∧
  (∀ (s : State) (r : Req) (p : List Byte) (f : GranFile),
      s.serves verbGranaryOpen r = true →
      p = r.payload →
      u8 p 4 ≤ 2 →
      dFinite (f64 p 8) = true →
      dFinite (f64 p 16) = true →
      s.granary.file = none →
      s.granary.files.find? (fun f => f.field == u32 p 0) = some f →
      f.res = u8 p 4 →
      f.lat = f64 p 8 →
      f.lon = f64 p 16 →
      exec (.granaryOpen r) s = .next ((((s.offered verbGranaryOpen r).modGran (fun g => { g with file := some f.reopen, files := g.files.erase f, opening := 2, full := false })).dirty).replied s verbGranaryOpen r stDone [])) ∧
  (∀ (s : State) (r : Req),
      s.serves verbGranaryClose r = true →
      s.granary.file.isNone = false →
      s.granary.closing = none →
      exec (.granaryClose r) s = .next ((((s.offered verbGranaryClose r).modGran (fun g => { g with closing := some { win := r.win, tag := r.tag } })).dirty).replied s verbGranaryClose r stAccepted [])) ∧
  (∀ (s : State) (r : Req),
      s.serves verbGranaryCorrect r = true →
      u8 r.payload 0 = 0 →
      exec (.granaryCorrect r) s = .next (((s.offered verbGranaryCorrect r).modGran (fun g => { g with marked := some (((s.granary.file.map (·.total))).getD fZero) })).replied s verbGranaryCorrect r stDone [])) ∧
  (∀ (s : State) (r : Req) (m c : F32),
      s.serves verbGranaryCorrect r = true →
      u8 r.payload 0 = 1 →
      s.granary.marked = some m →
      c = fDiv (fMul (s.granary.pendCorr.getD s.granary.corr) (f32 r.payload 4)) (fSub (((s.granary.file.map (·.total))).getD fZero) m) →
      fLe (fFrac 1 2) c = true →
      fLe c (fNat 2) = true →
      exec (.granaryCorrect r) s = .next ((((s.offered verbGranaryCorrect r).modGran (fun g => { g with pendCorr := some c })).dirty).replied s verbGranaryCorrect r stDone [])) ∧
  (∀ (s : State) (r : Req),
      s.serves verbGranaryHostbuf r = true →
      (s.offered verbGranaryHostbuf r).regionCheck r.win (u8 r.payload 0) 3264 = none →
      (s.offered verbGranaryHostbuf r).regionCheck r.win (u8 r.payload 1) 3264 = none →
      s.isHost granKey = false →
      (s.hostFn granKey).pending = none →
      exec (.granaryHostbuf r) s = .next ((((s.offered verbGranaryHostbuf r).modGran (fun g => { g with hostBuf := { set := true, win := r.win, tag := r.tag, a := u8 r.payload 0, b := u8 r.payload 1 } })).dirty).replied s verbGranaryHostbuf r stDone [])) ∧
  (∀ (s : State) (r : Req) (p : List Byte) (tk : Nat),
      s.serves verbGranaryResult r = true →
      p = r.payload →
      (s.hostFn granKey).host = true →
      (s.hostFn granKey).owner = r.win →
      u32 p 0 ≠ 0 →
      (s.hostFn granKey).k = u32 p 0 →
      fLe fZero (f32 p 4) = true →
      fLe (f32 p 4) (fNat 100) = true →
      fIsNan (f32 p 8) = false →
      fFinite (f32 p 8) = true →
      (s.offered verbGranaryResult r).hostInTime granKey (u32 p 0) = true →
      ((s.offered verbGranaryResult r).hostResult granKey).2 = true →
      ((s.offered verbGranaryResult r).hostResult granKey).1.granary.pend = some tk →
      exec (.granaryResult r) s = .next ((let a := ((s.offered verbGranaryResult r).hostResult granKey).1.modGran (fun g => { g with pend := none }); (a.modGran (fun g => { g with hostQ := (f32 p 4, f32 p 8, bit (u8 p 12) 0, false) })).granLate tk (bit (u8 p 12) 0) false (f32 p 4) (f32 p 8) false).replied s verbGranaryResult r stDone []))

/-- A KEEPER command that is served: NOP answers DONE and changes nothing; MODE with no refusal records owner, mode and
its boundary and answers D, period and instant; SIG_READ returns value, flags and stamp of each signal; SIG_WRITE writes
every entry; EVT_MASK sets the effective mask and returns it. Rows: keeperNop, keeperMode, keeperSigRead,
keeperSigWrite, keeperEvtMask. Rules: R59, R62, R70, R86, R87, R91, R507. -/
def Obligations.KeeperVerbsComplete : Prop :=
  (∀ (s : State) (r : Req),
      s.serves verbKeeperNop r = true →
      exec (.keeperNop r) s = .next (((s.offered verbKeeperNop r)).replied s verbKeeperNop r stDone [])) ∧
  (∀ (s : State) (r : Req) (p : List Byte) (m : ModeFn) (t : Nat),
      s.serves verbKeeperMode r = true →
      p = r.payload →
      (s.offered verbKeeperMode r).modeRefusal (verbKeeperMode.req r) = none →
      m = ((s.offered verbKeeperMode r).modeFn (u8 p 0) (u8 p 1) (u16 p 2)).getD ⟨0, 0, 0⟩ →
      t = nextBoundary s.hw m.period m.phase →
      exec (.keeperMode r) s = .next ((((s.offered verbKeeperMode r).modeSent (u8 p 0) (u16 p 2) r.win).modHost (hostKey (u8 p 0) (u8 p 1) (u16 p 2)) (fun h => { h with owner := r.win, holdLast := if u16 p 6 = 0xFFFF then h.holdLast else u16 p 6, pending := some (u8 p 4 == 1), pendingAt := t })).replied s verbKeeperMode r stDone (b32 (m.d / 1000) ++ b32 (m.period / 1000) ++ b32 (usOf t)))) ∧
  (∀ (s : State) (r : Req),
      s.serves verbKeeperSigRead r = true →
      (sigIds r.payload).any (fun id => decide (id > 0xFFF)) = false →
      exec (.keeperSigRead r) s = .next (((s.offered verbKeeperSigRead r)).replied s verbKeeperSigRead r stDone ((sigIds r.payload).flatMap (fun id => bF (s.sig id).value ++ b8 (s.sig id).flags ++ zeros 3 ++ b64 (s.sig id).stamp)))) ∧
  (∀ (s : State) (r : Req),
      s.serves verbKeeperSigWrite r = true →
      (sigEntries r.payload).all (fun e => fFinite e.value) = true →
      (sigEntries r.payload).all (fun e => decide (e.stamp ≤ s.hw)) = true →
      ((sigEntries r.payload).map (·.id)).eraseDups.length = (sigEntries r.payload).length →
      exec (.keeperSigWrite r) s = .next ((((sigEntries r.payload).foldl (fun (a : State) e => a.setSig e.id e.value (if e.stamp = 0 then s.hw else e.stamp) e.flags) (s.offered verbKeeperSigWrite r)).bodyEvalAll).replied s verbKeeperSigWrite r stDone [])) ∧
  (∀ (s : State) (r : Req) (req m : Nat),
      s.serves verbKeeperEvtMask r = true →
      req = (List.range 32).foldl (fun m i => m + u8 r.payload i * 2 ^ (8 * i)) 0 →
      m = (req &&& (s.offered verbKeeperEvtMask r).rightMask r.win) ||| 1 ||| (if r.win = 0 then bitSet (2 :: (List.range 12).map (236 + ·)) else 0) →
      exec (.keeperEvtMask r) s = .next (((s.offered verbKeeperEvtMask r).modWin r.win (fun x => { x with mask := m })).replied s verbKeeperEvtMask r stDone (leB 32 m)))
/-- Keeper's timed rows: the pending mode of a function takes effect at its boundary, or is only settled where it is in force
already; the command held longest is answered UNIT_RESTARTED 100 ms after its HELD reply, or runs where its unit is ready
again; commands past their deadline are answered; any unit but Root, a fitted Crown unit included, restarts: VALID clear,
generation raised, replies not yet posted rewritten; a restarted unit is ready and runs again, and GNSS of a handover is
cut over; a host result not there at its deadline is a miss, of the period before as of the current one; a partition that
the manifest declares starts, and a running one that restarts gets a fresh window with its bulk transfers stopped; at a
multiple of 10 ms the running partitions are checkpointed and host deadlines extended by the stop; a correctable ECC count
is kept, and a failed die is retired and its partitions placed or lost. Rows: modeBoundary, holdLimitExpiry,
deadlinePassed, unitRestart, unitReady, hostDeadlineMiss, canopyPartitionStart, canopyPartitionRestart, checkpoint,
boughDieFailure. Rules: R28, R35, R36, R38, R45, R47, R60, R63, R64, R68, R70, R71. -/
def Obligations.KeeperEventRowsComplete : Prop :=
  (∀ (s : State) (unit fn inst : Nat) (b : Bool),
      s.trunkOn = true →
      (s.hostFn (hostKey unit fn inst)).pending = some b →
      (s.hostFn (hostKey unit fn inst)).host = b →
      exec (.modeBoundary unit fn inst) s = .next ((s.waitTo (s.hostFn (hostKey unit fn inst)).pendingAt).modHost (hostKey unit fn inst) (fun h => { h with host := b, pending := none, misses := 0, inSafe := false, onTime := 0, safePeriods := 0, got := true, prev := false }))) ∧
  (∀ (s : State) (unit fn inst : Nat) (b : Bool),
      s.trunkOn = true →
      (s.hostFn (hostKey unit fn inst)).pending = some b →
      (s.hostFn (hostKey unit fn inst)).host = !b →
      exec (.modeBoundary unit fn inst) s = .next (let u := (s.waitTo (s.hostFn (hostKey unit fn inst)).pendingAt).modHost (hostKey unit fn inst) (fun h => { h with host := b, pending := none, misses := 0, inSafe := false, onTime := 0, safePeriods := 0, got := true, prev := false }); if b then u.modeToHost unit inst else u.modeToHw unit inst)) ∧
  (∀ (s b : State) (w : Nat) (x : Held) (l : List Held) (v : Verb),
      s.trunkOn = true →
      (s.win w).held = x :: l →
      s.holdOver x = false ∨ s.keeper.paused = true →
      verbOf x.req.unit x.req.verb = some v →
      b = (s.waitTo (x.heldAt + 100000000)).modWin w (fun y => { y with held := l }) →
      exec (.holdLimitExpiry w) s = .next ((b.answer w (b.mkReply v x.req true false stRestarted [])).keeperTurn)) ∧
  (∀ (s : State) (w : Nat) (x : Held) (l : List Held),
      s.trunkOn = true →
      (s.win w).held = x :: l →
      s.holdOver x = true →
      s.keeper.paused = false →
      exec (.holdLimitExpiry w) s = .next s.keeperTurn) ∧
  (∀ (s : State) (w t0 : Nat),
      s.trunkOn = true →
      earliest ((((s.win w).held.map (·.req.deadline)) ++ ((s.win w).waiting.map (·.deadline))).filter (· ≠ 0) |>.map s.deadlineAt |> (· ++ s.valveDeadlines w)) = some t0 →
      exec (.deadlinePassed w) s = .next ((((s.waitTo t0).deadlineDrop w).valveDeadline w).keeperTurn)) ∧
  (∀ (s : State) (unit inst i cause : Nat),
      s.trunkOn = true →
      unitFitted s.variant unit = true →
      unit ≠ 0x50 →
      i = (if unit = 0x42 then inst else 0) →
      unit ≠ 0x42 ∨ instPresent s.part unit inst = true →
      cause = 1 ∨ cause = 4 →
      s.keeper.paused = false →
      (s.unitSt unit inst).phase = .running →
      exec (.unitRestart unit inst cause) s = .next (s.unitRestart unit i cause)) ∧
  (∀ (s : State) (unit inst i : Nat),
      s.trunkOn = true →
      unitKnown unit = true →
      s.keeper.paused = false →
      i = (if unit = 0x42 then inst else 0) →
      (s.unitSt unit i).phase = .restarting →
      exec (.unitReady unit inst) s = .next (((s.unitRun unit i).unitBack unit i (s.hw - (s.unitSt unit i).clearedAt)).keeperTurn)) ∧
  (∀ (s : State) (inst : Nat),
      s.trunkOn = true →
      s.keeper.paused = false →
      (s.unitSt 0x40 0).phase = .handover →
      exec (.unitReady 0x40 inst) s = .next (s.gnssCutover.keeperTurn)) ∧
  (∀ (s a : State) (unit fn inst : Nat),
      s.trunkOn = true →
      (s.hostFn (hostKey unit fn inst)).host = true →
      (s.hostFn (hostKey unit fn inst)).prev = false →
      (s.hostFn (hostKey unit fn inst)).got = false →
      ((s.waitTo (s.hostFn (hostKey unit fn inst)).due).hostMiss (hostKey unit fn inst)).missEffect unit fn inst = a →
      exec (.hostDeadlineMiss unit fn inst) s = .next (if unit = 0x26 then a.fanPeriod inst else a)) ∧
  (∀ (s : State) (h : HostFn) (unit fn inst : Nat),
      s.trunkOn = true →
      s.hostFn (hostKey unit fn inst) = h →
      h.host = true →
      h.prev = true →
      exec (.hostDeadlineMiss unit fn inst) s = .next (((s.waitTo (h.ptk + h.pd)).missPrev (hostKey unit fn inst)).missEffect unit fn inst)) ∧
  (∀ (s : State) (p : Nat),
      s.inRun = true →
      s.keeper.paused = false →
      p < 16 →
      (s.decl (p + 0x10)).declared = true →
      (s.partition p).state = .stopped →
      exec (.canopyPartitionStart p) s = .next (s.startPartition p)) ∧
  (∀ (s : State) (p : Nat),
      s.trunkOn = true →
      p < 16 →
      (s.partition p).state = .running →
      exec (.canopyPartitionRestart p) s = .next (let u := (((((s.staleOwned (p + 0x10)).outsOwnerRestart (p + 0x10)).stopBulk (p + 0x10)).resetWindow (p + 0x10)).modPartition p (fun q => { q with ckpt := Ckpt.reset })); ({ u with power.holds := u.power.holds.erase (p + 0x10) } : State).nmLapse (p + 0x10))) ∧
  (∀ (s : State),
      hasFailover s.variant = true →
      s.inRun = true →
      s.keeper.paused = false →
      exec (.checkpoint) s = .next (let u := s.boundary 21 10000000 0; let d := u.drawNat; let n := d.1 % 40001; let x := { d.2 with
        keeper.windows := d.2.keeper.windows.map (fun e => if d.2.windowPaused e.1 then e else (e.1, e.2.checkpointed)),
        keeper.hostFns := tmap HostFn.reset d.2.keeper.hostFns (fun h => if h.host ∧ 0x10 ≤ h.owner then { h with d := if h.tk ≤ u.hw + n ∧ u.hw ≤ h.due then h.d + n else h.d, pd := if (h.prev ∨ h.ptk ≠ 0) ∧ h.ptk ≤ u.hw + n ∧ u.hw ≤ h.ptk + h.pd then h.pd + n else h.pd } else h),
        keeper.ckptAt := u.hw, keeper.ckptLen := n }; let y := (List.range 8).foldl (fun (a : State) c => a.canStop u.hw n c) x; (d.2.runningParts.filter (fun p => (d.2.partition p).state == .running)).foldl (fun (a : State) p => a.modPartition p (fun q => { q with ckpt := { taken := true, takenAt := u.hw, win := a.win (p + 0x10) } })) y)) ∧
  (∀ (s : State) (die : Nat),
      s.inRun = true →
      die < boughs s.variant →
      s.keeper.retired.contains die = false →
      exec (.boughDieFailure die 0) s = .next { s with keeper.eccCount := tmod 0 s.keeper.eccCount die (· + 1) }) ∧
  (∀ (s t : State) (die reason : Nat),
      s.inRun = true →
      die < boughs s.variant →
      s.keeper.retired.contains die = false →
      1 ≤ reason →
      reason ≤ 3 →
      t = (if hasFailover s.variant then ({ s with keeper.retired := s.keeper.retired ++ [die] } : State).failover die else ({ s with keeper.retired := s.keeper.retired ++ [die] } : State).onlyDieLost die) →
      exec (.boughDieFailure die reason) s = .next (if s.keeper.paused ∧ ¬t.keeper.paused then t.pauseEnd (t.hw - s.keeper.pausedAt) else t.keeperTurn))
/-- A usable PPS marks PPS present at now and steers; its absence for 2 s, or a fix that is no longer valid, clears it
and takes LOCKED to HOLDOVER; a lost grandmaster is raised as TIME/GM_LOST; TIME.ROLE sets role and priority1; the fault
handled leaves its steps, the next one is taken up and a dropped one that stands is raised again; FAULT.STATUS and
FAULT.RAISE answer as R97 says. Rows: timePps, timePpsAbsent, timeGmLost, timeRole, faultHandle, faultStatus,
faultRaise. Rules: R77, R78, R79, R80, R92, R93, R94, R95, R96, R97. -/
def Obligations.TimeFaultRowsComplete : Prop :=
  (∀ (s u v : State) (phase gps : Int) (leap : Option Nat),
      s.timeRuns = true →
      s.gnss.fix ≠ 0 →
      s.gnss.fix ≠ 5 →
      u = { s with time.pps := true, time.lastPps := s.hw, time.ppsOfs := gps - (s.hw : Int), time.lockSince := if phase.natAbs ≤ 100 then some (s.time.lockSince.getD s.hw) else none, time.leap := leap.getD s.time.leap, time.leapValid := s.time.leapValid || leap.isSome } →
      v = (if s.time.state = 3 then u else u.timeSteer) →
      exec (.timePps phase true gps leap) s = .next (if v.timeLocks then (let w := if v.time.state = 1 then v else v.setOffset; if w.time.state = 0 ∨ w.time.state = 2 then w.timeTo 1 1 else w) else v)) ∧
  (∀ (s u : State),
      s.timeRuns = true →
      fixInvalid s.gnss.fix = false →
      u = s.waitTo (s.time.lastPps + 2000000000) →
      exec (.timePpsAbsent) s = .next (if s.time.state = 1 then ({ u with time.pps := false, time.lockSince := none } : State).timeTo 2 2 else { u with time.pps := false, time.lockSince := none })) ∧
  (∀ (s : State),
      s.timeRuns = true →
      fixInvalid s.gnss.fix = true →
      exec (.timePpsAbsent) s = .next (if s.time.state = 1 then ({ s with time.pps := false, time.lockSince := none } : State).timeTo 2 3 else { s with time.pps := false, time.lockSince := none })) ∧
  (∀ (s u v : State),
      s.timeRuns = true →
      s.time.state = 3 →
      u = s.waitTo (s.time.lastSync + 3000000000) →
      v = ({ u with time.gmLost := true, time.gmSelected := false } : State).raiseEv 2 0 1 0x0022 2 0 s.time.gmId ((u.hw - s.time.lastSync) / 1000000) 0 →
      exec (.timeGmLost) s = .next ((if v.gnssTime = 1 then v.setOffset else v).timeTo v.gnssTime 5)) ∧
  (∀ (s : State) (r : Req),
      s.serves verbTimeRole r = true →
      u8 r.payload 0 ≤ 3 →
      exec (.timeRole r) s = .next ((let u := { (s.offered verbTimeRole r) with time.role := u8 r.payload 0, time.priority1 := u8 r.payload 1 }; (if u.follows then u.timeFollow else (if u.time.gmLost ∧ u8 r.payload 0 ≠ s.time.role then ({ u with time.gmLost := false } : State).clearFault 0x0022 0x02 0 else u).timeUnfollow).dirty).replied s verbTimeRole r stDone [])) ∧
  (∀ (s : State) (f : FaultRec),
      s.trunkOn = true →
      s.running 0x03 0 = true →
      s.keeper.paused = false →
      s.faultTake.faults.current = some f →
      exec (.faultHandle) s = .next ((({ s.faultTake with faults.current := none } : State).faultSteps f).faultTake.raiseDropped)) ∧
  (∀ (s : State) (r : Req),
      s.serves verbFaultStatus r = true →
      exec (.faultStatus r) s = .next (((s.offered verbFaultStatus r)).replied s verbFaultStatus r stDone (b32 (match s.faults.current with | some c => c.word | none => 0) ++ b8 s.faults.queue.length ++ zeros 3 ++ b32 s.faults.drops ++ b32 s.faults.occurrences))) ∧
  (∀ (s : State) (r : Req),
      s.serves verbFaultRaise r = true →
      raiseOk r.win (u16 r.payload 0) (u8 r.payload 2) = true →
      exec (.faultRaise r) s = .next ((((s.offered verbFaultRaise r).raise (u16 r.payload 0) 0x03 r.win (u8 r.payload 2) [u32 r.payload 4, u32 r.payload 8, u32 r.payload 12, u32 r.payload 16]).1).replied s verbFaultRaise r stDone (b32 ((s.offered verbFaultRaise r).raise (u16 r.payload 0) 0x03 r.win (u8 r.payload 2) [u32 r.payload 4, u32 r.payload 8, u32 r.payload 12, u32 r.payload 16]).2)))

/-- While NM firmware runs and the network is managed: an ALIVE or RING of another node is noted and answered as the
ring's rules say; a message in the gap wakes; the module sends RING with READY as it consents, commits, or aborts; after
T_max without a message it counts an expiry and sends ALIVE; the gap ends in ASLEEP with transceiver and T1 ports
asleep; a refused TC10 request ends the gap; blocked sleep is reported; a transceiver or TC10 wake takes the channel,
port, network or parked module out of sleep. Rows: nmRingMessage, nmRingSend, nmRingTimeout, nmWakeInGap, nmGapEnd,
nmTc10AckTimeout, nmSleepBlocked, canTransceiverWake, tc10Wake. Rules: R371, R372, R373, R374, R375, R376, R377, R378,
R379, R380, R381, R386. -/
def Obligations.NetworkEventRowsComplete : Prop :=
  (∀ (s : State) (n a : Nat) (data : List Byte),
      s.nmRuns = true →
      (s.net n).managed = true →
      (s.net n).state ≠ 5 →
      (s.net n).state ≠ 4 →
      a ≠ (s.net n).addr →
      a < 32 →
      exec (.nmRingMessage n a data) s = .next (let s := s.modNet n (fun x => { x with lastMsg := s.hw, ready := setBit x.ready a ((u8 data 1).testBit 4), allReady := x.allReady && (u8 data 1).testBit 4 }); if (u8 data 1).testBit 0 then s.nmAliveSeen n a else s.nmRingSeen n a (u8 data 0 % 32) (u8 data 1) (u8 data 2))) ∧
  (∀ (s : State) (n a : Nat) (data : List Byte),
      s.nmRuns = true →
      (s.net n).managed = true →
      (s.net n).state = 4 →
      a ≠ (s.net n).addr →
      a < 32 →
      exec (.nmRingMessage n a data) s = .next ((s.nmGapWake n 4).nmEval n)) ∧
  (∀ (s a q : State) (n t : Nat) (x : NmNet),
      s.nmRuns = true →
      (s.net n).managed = true →
      (s.net n).state < 4 →
      (s.net n).sendAt = some t →
      a = (s.waitTo t).modNet n (fun x => { x with sendAt := none, firstAlive := none }) →
      x = a.net n →
      x.state ≠ 3 ∨ x.committed = true →
      a.nmBlock n ≠ 0 ∨ x.ownReady = false ∨ x.allReady = false ∨ x.initFlag = false →
      q = (a.nmSend n (2 + a.readyBit n) x.successor 0).modNet n (fun x => { x with ownReady := a.nmBlock n == 0, allReady := true }) →
      exec (.nmRingSend n) s = .next (if x.successor = x.addr then q.modNet n (fun x => { x with sendAt := some (q.hw + (a.net n).tTyp * 1000000) }) else q)) ∧
  (∀ (s : State) (n : Nat),
      s.nmRuns = true →
      (s.net n).managed = true →
      (s.net n).state < 3 →
      (s.net n).expiries < 2 →
      exec (.nmRingTimeout n) s = .next (((s.waitTo ((s.net n).lastMsg + (s.net n).tMax * 1000000)).modNet n (fun x => { x with expiries := (s.net n).expiries + 1, lastMsg := (s.waitTo ((s.net n).lastMsg + (s.net n).tMax * 1000000)).hw, firstAlive := none })).nmAlive n)) ∧
  (∀ (s : State) (n : Nat),
      s.nmRuns = true →
      (s.net n).managed = true →
      exec (.nmWakeInGap n) s = .next (s.nmGapWake n (if s.nmBlock n = 0 then 4 else s.nmBlock n))) ∧
  (∀ (s a : State) (n : Nat),
      s.operating = true →
      (s.net n).managed = true →
      (s.net n).state = 4 →
      a = (((portsOf (s.net n).t1Ports).foldl State.portSleep ((s.waitTo ((s.net n).finalAt + 200000000)).canSleep (s.net n).chan)).modNet n (fun x => { x with tc10Wait := 0, sendAt := none })).nmState n 5 →
      exec (.nmGapEnd n) s = .next (if a.nmRuns then a.nmEval n else a)) ∧
  (∀ (s : State) (n : Nat) (refused : Bool),
      s.nmRuns = true →
      (s.net n).managed = true →
      (s.net n).state = 4 →
      (s.net n).tc10Wait ≠ 0 →
      exec (.nmTc10AckTimeout n refused) s = .next ((if refused then s else s.waitTo ((s.net n).finalAt + 20000000)).nmGapWake n 6)) ∧
  (∀ (s : State) (n t : Nat),
      s.nmRuns = true →
      (s.net n).managed = true →
      (s.net n).state < 4 →
      (s.net n).blockS ≠ 0 →
      (s.net n).consentAt = some t →
      exec (.nmSleepBlocked n) s = .next (let s' := s.waitTo (t + (s.net n).blockS * ((s.net n).blocked + 1) * 1000000000); (s'.modNet n (fun x => { x with blocked := x.blocked + 1 })).post 0x33 n (208 + n) 0x7103 n (clearBits (s.net n).present (s.net n).ready) (((s'.modNet n (fun x => { x with blocked := x.blocked + 1 })).hw - t) / 1000000000) 0)) ∧
  (∀ (s : State) (ch id n : Nat) (data : List Byte),
      s.parked = false →
      s.operating = true →
      s.nmRuns = true →
      (s.canCh ch).asleep = true →
      (s.canCh ch).wakeMode = 0 →
      s.netOf ch = some n →
      (s.net n).state = 5 →
      exec (.canTransceiverWake ch 5 id data) s = .next ((s.nmWake n 3).wakeNow)) ∧
  (∀ (s : State) (ch id : Nat) (data : List Byte),
      s.parked = true →
      (s.canCh ch).asleep = true →
      (s.canCh ch).wakeMode = 1 →
      ch < 4 →
      (s.canCh ch).wakeMatch id data = true →
      exec (.canTransceiverWake ch 6 id data) s = .next ((s.modCan ch (fun x => { x with asleep := if wakeEnabled s.power.state 6 then false else x.asleep })).wake 6 ch)) ∧
  (∀ (s : State) (port n : Nat),
      s.parked = false →
      s.operating = true →
      s.nmRuns = true →
      port ≤ 5 →
      (s.ethPort port).asleep = true →
      (s.ethPort port).tc10 = true →
      s.netOfPort port = some n →
      (s.net n).state = 5 →
      exec (.tc10Wake port) s = .next ((s.nmWake n 6).wakeNow)) ∧
  (∀ (s : State) (port : Nat),
      s.parked = true →
      port ≤ 5 →
      (s.ethPort port).asleep = true →
      (s.ethPort port).tc10 = true →
      exec (.tc10Wake port) s = .next ((s.portWake port).wake 8 port))

/-- A served NM.STATUS and NM.WAKE_CAUSE answer with the network's state and the latched wake; an accepted NM.CONFIG
sets the network, wakes its channel and ports and restarts the ring with ALIVE, or unmanages it; NM.REQUEST sets or ends
the window's hold and consent is looked at again; NM.CANWAKE keeps the settings for the next transceiver sleep. Rows:
nmStatus, nmWakeCause, nmConfig, nmRequest, nmCanwake. Rules: R369, R379, R384, R385. -/
def Obligations.NetworkVerbsComplete : Prop :=
  (∀ (s : State) (r : Req),
      s.serves verbNmStatus r = true →
      exec (.nmStatus r) s = .next (((s.offered verbNmStatus r)).replied s verbNmStatus r stDone (b8 (s.net r.inst).state ++ b8 (s.net r.inst).lastWake ++ b8 (s.net r.inst).lastAbort ++ b8 (b2n ((s.net r.inst).managed && (s.offered verbNmStatus r).nmBlock r.inst == 0)) ++ b32 (s.net r.inst).present ++ b32 (s.net r.inst).ready ++ b32 ((s.hw - (s.net r.inst).stateAt) / 1000000) ++ b32 (s.net r.inst).aborts))) ∧
  (∀ (s : State) (r : Req),
      s.serves verbNmWakeCause r = true →
      exec (.nmWakeCause r) s = .next (((s.offered verbNmWakeCause r)).replied s verbNmWakeCause r stDone (b8 s.nm.wakeFirst ++ b8 s.nm.wakeDetail ++ zeros 2 ++ b32 s.nm.wakeMap ++ b64 s.nm.wakeAt ++ b32 s.nm.parkS ++ zeros 4))) ∧
  (∀ (s : State) (r : Req) (a : State),
      s.serves verbNmConfig r = true →
      (s.net r.inst).state ≠ 3 →
      (s.net r.inst).state ≠ 4 →
      u8 r.payload 0 = 0 →
      ((if (s.net r.inst).managed then (portsOf (s.net r.inst).t1Ports).foldl State.portWake ((s.offered verbNmConfig r).canWake (s.net r.inst).chan) else s.offered verbNmConfig r).modNet r.inst (fun y => { NmNet.reset with holds := y.holds, state := y.state, stateAt := y.stateAt, aborts := y.aborts })).nmState r.inst 0 = a →
      exec (.nmConfig r) s = .next (((a.clearFault 0x7104 0x33 r.inst).dirty).replied s verbNmConfig r stDone [])) ∧
  (∀ (s : State) (r : Req) (a : State),
      s.serves verbNmConfig r = true →
      ((s.offered verbNmConfig r).net r.inst).state ≠ 3 →
      ((s.offered verbNmConfig r).net r.inst).state ≠ 4 →
      u8 r.payload 0 = 1 →
      u8 r.payload 1 ≤ 7 →
      u8 r.payload 2 ≤ 31 →
      u8 r.payload 3 ≤ 3 →
      u16 r.payload 4 ≤ 0x7E0 →
      u16 r.payload 4 % 32 = 0 →
      10 ≤ u16 r.payload 6 →
      u16 r.payload 6 ≤ 1000 →
      2 * u16 r.payload 6 ≤ u16 r.payload 8 →
      u16 r.payload 8 ≤ 10000 →
      u16 r.payload 10 ≤ 3600 →
      u8 r.payload 12 < 64 →
      (portsOf (u8 r.payload 12)).all (fun q => ((s.offered verbNmConfig r).ethPort q).tc10) = true →
      (List.range 3).any (fun m => m != r.inst && ((s.offered verbNmConfig r).net m).managed && (((s.offered verbNmConfig r).net m).chan == u8 r.payload 1 || ((s.offered verbNmConfig r).net m).t1Ports &&& u8 r.payload 12 != 0)) = false →
      (portsOf (u8 r.payload 12)).foldl State.portWake (((if ((s.offered verbNmConfig r).net r.inst).managed then (portsOf ((s.offered verbNmConfig r).net r.inst).t1Ports).foldl State.portWake ((s.offered verbNmConfig r).canWake ((s.offered verbNmConfig r).net r.inst).chan) else s.offered verbNmConfig r).modNet r.inst (fun y => { NmNet.reset with managed := true, chan := u8 r.payload 1, addr := u8 r.payload 2, initFlag := bit (u8 r.payload 3) 0, partialNet := bit (u8 r.payload 3) 1, baseId := u16 r.payload 4, tTyp := u16 r.payload 6, tMax := u16 r.payload 8, blockS := u16 r.payload 10, t1Ports := u8 r.payload 12, holds := y.holds, state := y.state, stateAt := y.stateAt, aborts := y.aborts, lastWake := y.lastWake, lastAbort := y.lastAbort })).canWake (u8 r.payload 1)) = a →
      exec (.nmConfig r) s = .next ((((((a.clearFault 0x7104 0x33 r.inst).nmState r.inst 1).nmEval r.inst).nmAlive r.inst).dirty).replied s verbNmConfig r stDone [])) ∧
  (∀ (s : State) (r : Req),
      s.serves verbNmRequest r = true →
      u8 r.payload 0 ≤ 1 →
      exec (.nmRequest r) s = .next ((((s.offered verbNmRequest r).modNet r.inst (fun x => { x with holds := if u8 r.payload 0 = 1 then r.win :: x.holds.erase r.win else x.holds.erase r.win })).nmEval r.inst).replied s verbNmRequest r stDone [])) ∧
  (∀ (s : State) (r : Req),
      s.serves verbNmCanwake r = true →
      u8 r.payload 0 ≤ 2 →
      (u8 r.payload 0 = 1 → r.inst - 0x100 ≤ 3) →
      5 ≤ u8 r.payload 1 →
      u8 r.payload 1 ≤ 50 →
      u8 r.payload 2 ≤ 1 →
      u8 r.payload 3 ≤ 8 →
      bits (u32 r.payload 4) 30 29 = 0 →
      [125, 250, 500, 1000].contains (u16 r.payload 12) = true →
      exec (.nmCanwake r) s = .next ((((s.offered verbNmCanwake r).modCan (r.inst - 0x100) (fun x => { x with wakePend := some r.payload })).dirty).replied s verbNmCanwake r stDone []))

/-- The timed rows of the outputs: a PWM period begins at its boundary, takes a waiting configuration and the output is
decided anew; an inrush window ends; at a multiple of 1 ms each of the 72 channels shows its mean current and sense code;
at a multiple of 100 us a group's die temperature is taken; a retry phase of a group below 140 degrees drives the output;
clamp energy leaves its 1 s window and its locks are looked at again; a due test waits in an inrush window, starts a test
pulse of an output that is on and an off-state check of one that is off; a readback below 2 V ends the test with the
output as commanded; a park pattern's edge, time limit and trip change what the Park-Hold slot drives. Rows: outPwmPeriod,
outInrushWindowEnd, outCurrentUpdate, outDieSample, outRetryPwmPhase, outClampExpire, outTestDue, outTestReadback,
outParkPatternEdge, outParkTimeLimit, outParkTrip. Rules: R260, R261, R264, R265, R266, R267, R269, R272, R273. -/
def Obligations.OutputTimedRowsComplete : Prop :=
  (∀ (s : State) (o : Nat),
      s.outRuns o = true →
      (s.out o).cfg.mode = 2 ∨ (s.out o).ramp.isSome = true →
      (s.out o).pend = none →
      exec (.outPwmPeriod o) s = .next ((s.pwmBoundary o).outEval o true)) ∧
  (∀ (s a : State) (o : Nat) (g : OutCfg),
      s.outRuns o = true →
      (s.out o).cfg.mode = 2 ∨ (s.out o).ramp.isSome = true →
      (s.out o).pend = some g →
      a = (let b := s.pwmBoundary o; if g.mode = 2 ∧ (s.out o).lamp.isNone ∧ (g.periodNs ≠ (s.out o).cfg.periodNs ∨ g.phaseNs ≠ (s.out o).cfg.phaseNs) then b.waitTo (if b.hw ≤ g.phaseNs then g.phaseNs else g.phaseNs + (b.hw - g.phaseNs + g.periodNs - 1) / g.periodNs * g.periodNs) else b) →
      exec (.outPwmPeriod o) s = .next (((a.modOut o (fun c => { c with cfg := g, pend := none, ramp := if g.mode = 2 && g.softStart then c.ramp else none, mailbox := if g.mode = 2 then c.mailbox else fZero })).safetyEval).outEval o true)) ∧
  (∀ (s a b d e : State) (o t0 : Nat),
      (s.out o).inrushEnd = some t0 →
      s.outRuns o = true →
      a = s.waitTo t0 →
      b = a.modOut o (fun c => { c with inrushEnd := none, retryPwm := false, retryOn := false, testDue := false }) →
      d = (if (a.out o).retryPwm then (b.modOut o (fun c => { c with skip := true })).clearFault 0x4004 0x22 o else b).outEval o false →
      e = (if (a.out o).retryPwm then d.modOut o (fun c => { c with skip := c.cfg.mode == 2 && !c.on }) else d) →
      exec (.outInrushWindowEnd o) s = .next (if (a.out o).testDue then e.testStart o else e)) ∧
  (∀ (s : State) (samples : List (Nat × F32 × Nat)),
      s.running 0x22 0 = true →
      exec (.outCurrentUpdate samples) s = .next ((List.range 72).foldl (State.outCurrent samples) (s.boundary 180 1000000 0))) ∧
  (∀ (s a b d : State) (g : Nat) (c : Int) (curs : List (Nat × Nat)),
      s.running 0x22 0 = true →
      g < 19 →
      a = (s.boundary 181 100000 0).modGroup g (fun x => { x with dieC := c, hot := decide (c ≥ 1500) }) →
      b = (if c ≥ 1400 then (groupChs g).foldl (fun (u : State) o => if (u.out o).retryOn then (u.modOut o (fun x => { x with retryOn := false })).outEval o false else u) a else a) →
      d = (if c ≥ 1500 then (groupChs g).foldl (State.dieChannel c curs) b else b) →
      exec (.outDieSample [(g, c)] curs) s = .next ((groupChs g).foldl (fun (u : State) o => if (u.out o).retryOn && u.clampLocked o then u.outEval o false else u) d)) ∧
  (∀ (s : State) (o : Nat),
      s.outRuns o = true →
      (s.out o).retryPwm = true →
      (s.group (groupOf o)).dieC < 1400 →
      exec (.outRetryPwmPhase o) s = .next (((s.boundary (182 + 1000 * o) 1000000 0).modOut o (fun c => { c with retryOn := true })).outEval o true)) ∧
  (∀ (s : State) (o t0 n0 : Nat) (rest : List (Nat × Nat)),
      (s.out o).clamps = (t0, n0) :: rest →
      s.outRuns o = true →
      ((((s.waitTo t0).modOut o (fun c => { c with clamps := clampLive (s.waitTo t0).hw c.clamps })).modGroup (groupOf o) (fun x => { x with clamps := clampLive (s.waitTo t0).hw x.clamps })).out o).clampLock = none →
      ((((s.waitTo t0).modOut o (fun c => { c with clamps := clampLive (s.waitTo t0).hw c.clamps })).modGroup (groupOf o) (fun x => { x with clamps := clampLive (s.waitTo t0).hw x.clamps })).group (groupOf o)).lock = none →
      exec (.outClampExpire o) s = .next ((groupChs (groupOf o)).foldl (fun (s : State) o => s.outEval o false) (((s.waitTo t0).modOut o (fun c => { c with clamps := clampLive (s.waitTo t0).hw c.clamps })).modGroup (groupOf o) (fun x => { x with clamps := clampLive (s.waitTo t0).hw x.clamps })))) ∧
  (∀ (s a : State) (o : Nat),
      s.outRuns o = true →
      (s.out o).cfg.tagged = true →
      (s.out o).cfg.testMs ≠ 0 →
      (s.out o).testing = none →
      a = s.boundary (189 + 1000 * o) ((s.out o).cfg.testMs * 1000000) 0 →
      exec (.outTestDue o) s = .next (if a.inWindow o then a.modOut o (fun c => { c with testDue := true }) else if (a.out o).on then a.testStart o else a.modOut o (fun c => { c with testing := some (a.hw, 200), pulse := false }))) ∧
  (∀ (s a b : State) (o mv t0 len : Nat),
      (s.out o).testing = some (t0, len) →
      s.outRuns o = true →
      a = s.waitTo (t0 + len * 1000) →
      b = (a.modOut o (fun c => { c with testing := none, pulse := false, on := c.on || (c.pulse && !a.clampLocked o), offSince := if c.pulse && a.clampLocked o then a.hw else c.offSince })).outEval o false →
      mv < 2000 →
      exec (.outTestReadback o mv) s = .next (if (a.out o).stuck then (b.modOut o (fun c => { c with stuck := false })).clearFault 0x4007 0x22 o else b)) ∧
  (∀ (s a : State) (slot o edge1 : Nat),
      (s.parkSlot slot).out = some o →
      (s.parkSlot slot).driving = true →
      (s.parkSlot slot).flash = true →
      (s.parkSlot slot).tripped = 0 →
      edge1 = (s.parkSlot slot).edgeAt + (if (s.parkSlot slot).level then (s.parkSlot slot).onMs else (s.parkSlot slot).offMs) * (if s.parked then 32768 else 1000000) →
      a = (if s.parked then { s with time.parkPeriods := max s.time.parkPeriods (edge1 / 1000) } else s.waitTo edge1) →
      exec (.outParkPatternEdge slot) s = .next ((a.modPark slot (fun h => { h with level := !h.level, edgeAt := edge1 })).parkGate o)) ∧
  (∀ (s : State) (slot t0 : Nat),
      (s.parkSlot slot).endAt = some t0 →
      s.parked = true →
      (s.parkSlot slot).driving = true →
      exec (.outParkTimeLimit slot) s = .next ({ (s.parkRelease slot) with time.parkPeriods := max s.time.parkPeriods t0 })) ∧
  (∀ (s : State) (slot cause o : Nat),
      (s.parkSlot slot).out = some o →
      s.parked = true →
      (s.parkSlot slot).driving = true →
      (s.parkSlot slot).tripped = 0 →
      cause = 1 ∨ cause = 2 →
      exec (.outParkTrip slot cause) s = .next ((s.modPark slot (fun h => { h with tripped := cause, tripAt := s.time.parkPeriods / 32768, level := false })).parkGate o))
/-- The protection rows of the outputs: a current that has lasted its filter time latches the output off with
OUT/LATCHED_OFF, its cause and peak; a group at 175 degrees shuts down with its fault and every channel of it goes off;
a clamp's energy is added to its channel and group; a current below the open-load threshold for 50 ms of on-time raises
OUT/OPEN_LOAD; above 7.0 V at an off output with its off-state check raises OUT/SHORT_BAT; each of the two ends when it
has been absent for 100 ms, and its fault with it. Rows: outLatched, outGroupShutdown, outClampEnd, outOpenLoad,
outShortBat, outDiagEnd. Rules: R258, R263, R264, R266, R267, R268. -/
def Obligations.OutputProtectionRowsComplete : Prop :=
  (∀ (s b : State) (o peak k : Nat),
      s.latchCause o peak = k →
      s.outRuns o = true →
      (s.out o).on = true →
      k ≠ 0 → (s.out o).latched = 0 → s.latchFiltered o k = true →
      ((s.modOut o (fun c => { c with latched := k, mailbox := fZero })).raiseEv 0x22 o (128 + groupOf o) 0x4001 4 o k peak (b2n (s.inWindow o))).outEval o false = b →
      exec (.outLatched o peak) s = .next (b.outShow o)) ∧
  (∀ (s : State) (g temp : Nat),
      s.running 0x22 0 = true →
      g < 19 →
      temp ≥ 1750 →
      (s.group g).shutdown = false →
      exec (.outGroupShutdown g temp) s = .next ((groupChs g).foldl (fun (s : State) o => (s.outEval o false).outShow o) ((s.modGroup g (fun x => { x with shutdown := true, dieC := temp, hot := true })).raiseEv 0x22 (0x100 + g) (128 + g) 0x4004 3 (0x100 + g) temp 3 0))) ∧
  (∀ (s a : State) (o energy : Nat),
      s.outRuns o = true →
      a = (s.modOut o (fun c => { c with clamps := clampLive s.hw c.clamps ++ [(s.hw + 1000000000, energy)] })).modGroup (groupOf o) (fun x => { x with clamps := clampLive s.hw x.clamps ++ [(s.hw + 1000000000, energy)] }) →
      clampSum (a.out o).clamps < chBudget (outClass o) →
      clampSum (a.group (groupOf o)).clamps < groupBudget (outClass o) →
      exec (.outClampEnd o energy) s = .next (a)) ∧
  (∀ (s : State) (o cur mv : Nat),
      s.outRuns o = true →
      (s.out o).cfg.mode ≠ 0 →
      (s.out o).openLoad = false →
      (s.out o).on = true →
      cur < (s.out o).openThr o → (s.out o).onSince + 50000000 ≤ s.hw →
      exec (.outOpenLoad o cur mv) s = .next (((s.modOut o (fun c => { c with openLoad := true, diagAt := s.hw })).raiseEv 0x22 o (128 + groupOf o) 0x4005 2 o cur 0 0).outShow o)) ∧
  (∀ (s : State) (o mv : Nat),
      s.outRuns o = true →
      s.offChecked o = true → (s.out o).shortBat = false → mv > 7000 →
      exec (.outShortBat o mv) s = .next (((s.modOut o (fun c => { c with shortBat := true, diagAt := s.hw })).raiseEv 0x22 o (128 + groupOf o) 0x4006 3 o mv 0 0).outShow o)) ∧
  (∀ (s : State) (o : Nat),
      s.outRuns o = true → (s.out o).openLoad = true → (s.out o).diagAt + 100000000 ≤ s.hw → exec (.outDiagEnd o 0) s = .next ((s.modOut o (fun c => { c with openLoad := false })).clearFault 0x4005 0x22 o)) ∧
  (∀ (s : State) (o : Nat),
      s.outRuns o = true → (s.out o).shortBat = true → (s.out o).diagAt + 100000000 ≤ s.hw → exec (.outDiagEnd o 1) s = .next ((s.modOut o (fun c => { c with shortBat := false })).clearFault 0x4006 0x22 o))

/-- STATUS answers the channel's or group's fields; CONFIG in range takes the output over and stores its settings, at
once or at the next period of a running PWM; SET in range drives the output; CLEAR removes latched protection; PARKHOLD
sets or frees a slot. Rows: outStatus, outConfig, outSet, outClear, outParkhold. Rules: R260, R261, R263, R267, R272,
R273, R274. -/
def Obligations.OutputVerbsComplete : Prop :=
  (∀ (s : State) (r : Req) (c : OutCh),
      s.serves verbOutStatus r = true →
      c = s.out r.inst →
      r.inst < 72 →
      exec (.outStatus r) s = .next (((s.offered verbOutStatus r)).replied s verbOutStatus r stDone (b8 (if c.parkDriven then 4 else if c.ramp.isSome then 3 else if !c.on then 0 else if c.cfg.mode = 2 ∧ fLt c.duty fOne then 2 else 1) ++ b8 ((s.offered verbOutStatus r).outProtection r.inst) ++ b8 (b2n c.openLoad + 2 * b2n c.shortBat + 4 * b2n c.stuck + 128 * b2n ((s.offered verbOutStatus r).inWindow r.inst)) ++ b8 ((s.offered verbOutStatus r).outPrec r.inst) ++ bF c.duty ++ b16 (((s.offered verbOutStatus r).senseFaultCode r.inst).getD c.code) ++ zeros 2 ++ bF (fFrac (clampSum (clampLive s.hw c.clamps) : Nat) 10000) ++ bF c.current))) ∧
  (∀ (s : State) (r : Req) (g : OutCfg),
      s.serves verbOutConfig r = true →
      g = outCfgOf r.payload →
      (s.out r.inst).cfg.mode = 2 →
      g.mode = 2 →
      (s.out r.inst).bound = 0 →
      r.win = 0 →
      outCfgOk r.inst r.payload = true →
      exec (.outConfig r) s = .next (((((s.offered verbOutConfig r).takeOver r.inst).modOut r.inst (fun c => { c with owner := some 0, hwDefault := g.hwDefault })).modOut r.inst (fun c => { c with pend := some g }) |>.dirty).replied s verbOutConfig r stDone [])) ∧
  (∀ (s : State) (r : Req) (g : OutCfg),
      s.serves verbOutConfig r = true →
      g = outCfgOf r.payload →
      (s.out r.inst).cfg.mode ≠ 2 → (s.out r.inst).bound = 0 → r.win = 0 →
      outCfgOk r.inst r.payload = true →
      exec (.outConfig r) s = .next (((((((s.offered verbOutConfig r).takeOver r.inst).modOut r.inst (fun c => { c with owner := some 0, hwDefault := g.hwDefault })).modOut r.inst (fun c => { c with cfg := g, pend := none, ramp := if c.cfg.mode = g.mode ∧ g.softStart then c.ramp else none, mailbox := if c.cfg.mode = g.mode then c.mailbox else fZero })).safetyEval.outEval r.inst false).dirty).replied s verbOutConfig r stDone [])) ∧
  (∀ (s : State) (r : Req),
      s.serves verbOutSet r = true →
      (s.out r.inst).bound = 0 →
      (s.out r.inst).cfg.mode ≠ 0 →
      (s.out r.inst).cfg.mode ≠ 1 →
      isDuty (f32 r.payload 0) = true →
      u8 r.payload 4 ≤ 1 →
      (s.out r.inst).latched = 0 →
      (s.offered verbOutSet r).clampLocked r.inst = false →
      (s.out r.inst).thermLatch = false →
      (s.group (groupOf r.inst)).shutdown = false →
      (s.out r.inst).safetyOff = false →
      exec (.outSet r) s = .next (((((s.offered verbOutSet r).takeOver r.inst).modOut r.inst (fun c => { c with mailbox := f32 r.payload 0, skip := bit (u8 r.payload 4) 0 })).outEval r.inst false).replied s verbOutSet r stDone [])) ∧
  (∀ (s : State) (r : Req),
      s.serves verbOutSet r = true →
      (s.out r.inst).bound = 0 →
      (s.out r.inst).cfg.mode = 1 →
      isDuty (f32 r.payload 0) = true →
      fEq (f32 r.payload 0) fZero = true →
      u8 r.payload 4 ≤ 1 →
      exec (.outSet r) s = .next (((((s.offered verbOutSet r).takeOver r.inst).modOut r.inst (fun c => { c with mailbox := f32 r.payload 0, skip := bit (u8 r.payload 4) 0 })).outEval r.inst false).replied s verbOutSet r stDone [])) ∧
  (∀ (s : State) (r : Req),
      s.serves verbOutClear r = true →
      r.inst < 72 →
      (s.out r.inst).latched ≠ 0 →
      (s.out r.inst).thermLatch = false →
      exec (.outClear r) s = .next (((((s.offered verbOutClear r).modOut r.inst (fun c => { c with latched := 0, thermLatch := false, mailbox := fZero })).clearFault 0x4001 0x22 r.inst).outEval r.inst false).replied s verbOutClear r stDone [])) ∧
  (∀ (s : State) (r : Req),
      s.serves verbOutParkhold r = true →
      u8 r.payload 0 ≤ 3 →
      u8 r.payload 1 = 0xFF →
      exec (.outParkhold r) s = .next (((((s.offered verbOutParkhold r).parkRelease (u8 r.payload 0)).modPark (u8 r.payload 0) (fun _ => ParkHold.reset)).dirty).replied s verbOutParkhold r stDone [])) ∧
  (∀ (s : State) (r : Req) (p : List Byte),
      s.serves verbOutParkhold r = true →
      p = r.payload →
      u8 p 0 ≤ 3 →
      28 ≤ u8 p 1 →
      u8 p 1 ≤ 71 →
      u8 p 2 = 0 →
      1 ≤ u8 p 3 →
      u8 p 3 ≤ 7 →
      100 ≤ u16 p 4 →
      u16 p 4 ≤ 2000 →
      u16 p 8 ≤ 1440 →
      (List.range 4).any (fun i => i != u8 p 0 && (s.parkSlot i).out == some (u8 p 1)) = false →
      (s.out (u8 p 1)).cfg.tagged = false →
      exec (.outParkhold r) s = .next (((((s.offered verbOutParkhold r).parkRelease (u8 p 0)).modPark (u8 p 0) (fun _ => { ParkHold.reset with out := some (u8 p 1), flash := false, states := u8 p 3, onMs := u16 p 4, offMs := u16 p 6, limitMin := u16 p 8 })).dirty).replied s verbOutParkhold r stDone []))

/-- A ripple of a driven bridge counts its position; a stall, short, hot die or time limit ends the move with its cause; a
pinch brakes and reverses; the 1 ms update writes the current signals, cuts a period above 40 A and judges the pinch
current; the HB verbs answer and take effect. Rows: hbRipple, hbStall, hbTimeLimit, hbReversalBrakeEnd, hbPinchReverse,
hbPinchTimeout, hbShort, hbThermal, hbThermalEnd, hbCurrentUpdate, hbStatus, hbConfig, hbDrive, hbClear, hbPosition.
Rules: R270, R276, R277, R278, R279, R296. -/
def Obligations.BridgeRowsComplete : Prop :=
  (∀ (s a b : State) (n cur per : Nat),
      s.hbRuns n = true →
      (s.hb n).ripple = true →
      cur > 300 →
      (s.hb n).pinch = none →
      (s.hb n).target = none →
      per = (s.hw - (s.hb n).lastRipple.getD s.hw) / 1000 →
      a = s.modHb n (fun b => { b with pos := toSigned 32 (ofSigned 32 (b.pos + (if (s.hb n).dirNeg then -1 else 1))), lastRipple := some s.hw, periods := if b.lastRipple.isNone then [] else (per :: b.periods).take 8 }) →
      b = (if (match (s.hb n).periods with | p :: _ => decide (per > 3 * p ∨ p > 3 * per) | [] => false) && (s.hb n).lastRipple.isSome then (a.modHb n (fun b => { b with reliable := false })).raiseEv 0x23 n (147 + n) 0x4105 1 n (ofSigned 32 (a.hb n).pos) (per * 100 / max 1 ((s.hb n).periods.headD 1)) 0 else a) →
      b.pinchWatch n = false →
      (b.hb n).pinch = none →
      (b.hb n).target = none →
      exec (.hbRipple n cur) s = .next b) ∧
  (∀ (s : State) (n cur ms : Nat),
      s.hbLive n = true →
      (s.hb n).action = 1 ∨ (s.hb n).action = 2 →
      (cur > (s.hb n).stallDa * 100 ∧ ms ≥ (s.hb n).stallMs) ∨ (cur > 15000 ∧ ms ≥ 500) →
      (s.hb n).moveAt + ms * 1000000 ≤ s.hw →
      exec (.hbStall n cur ms) s = .next (s.hbEnd n 2 true)) ∧
  (∀ (s : State) (n t0 : Nat),
      (s.hb n).limitAt = some t0 →
      s.hbLive n = true →
      exec (.hbTimeLimit n) s = .next ((s.waitTo t0).hbEnd n 1 true)) ∧
  (∀ (s : State) (n t0 k : Nat) (d : F32),
      (s.hb n).revPend = some (t0, k, d) →
      (s.hb n).pinch = none →
      s.hbLive n = true →
      exec (.hbReversalBrakeEnd n) s = .next ((s.waitTo t0).hbGo n k d)) ∧
  (∀ (s : State) (n t0 k : Nat) (d : F32) (p0 : Int),
      (s.hb n).revPend = some (t0, k, d) →
      (s.hb n).pinch = some (0, p0) →
      s.hbLive n = true →
      exec (.hbPinchReverse n) s = .next (((s.waitTo t0).hbGo n k d).modHb n (fun b => { b with pinch := some (1, b.pos) }))) ∧
  (∀ (s : State) (n : Nat) (p0 : Int),
      (s.hb n).pinch = some (1, p0) →
      s.hbLive n = true →
      (s.hb n).ripple = false →
      exec (.hbPinchTimeout n) s = .next ((s.waitTo ((s.hb n).moveAt + 300000000)).hbEnd n 3 true)) ∧
  (∀ (s : State) (n cur : Nat),
      s.hbLive n = true →
      cur ≥ 60000 →
      (s.hb n).shorted = false →
      exec (.hbShort n cur) s = .next (((s.modHb n (fun b => { b with shorted := true })).hbEnd n 6 false).raiseEv 0x23 n (147 + n) 0x4103 4 n cur 0 0)) ∧
  (∀ (s : State) (n temp : Nat),
      s.hbLive n = true →
      temp > 1500 →
      (s.hb n).hot = false →
      exec (.hbThermal n temp) s = .next (((s.modHb n (fun b => { b with hot := true })).hbEnd n 6 false).raiseEv 0x23 n (147 + n) 0x4104 3 n temp 0 0)) ∧
  (∀ (s : State) (n temp : Nat),
      s.hbRuns n = true →
      temp < 1400 →
      (s.hb n).hot = true →
      exec (.hbThermalEnd n temp) s = .next ((s.modHb n (fun b => { b with hot := false })).clearFault 0x4104 0x23 n)) ∧
  (∀ (s : State) (samples : List (Nat × F32)),
      s.trunkOn = true →
      exec (.hbCurrentUpdate samples) s = .next ((List.range 8).foldl (fun (s : State) n => let v := ((samples.find? (fun e => e.1 == n)).map (·.2)).getD fZero; let ma := (fRound (fAbs v) 1000).toNat; let a := s.modHb n (fun b => { b with current := v, cut := (b.action == 1 || b.action == 2) && decide (ma > 40000) }); let a := if a.running 0x23 0 then a.setSig (0xC8 + n) v a.hw fgValid else a; if a.hbLive n && a.pinchWatch n && decide (ma > (a.hb n).pinchDa * 100) then a.hbPinch n ma 2 else a) (s.boundary 207 1000000 0))) ∧
  (∀ (s : State) (r : Req) (b : Hb),
      s.serves verbHbStatus r = true →
      b = s.hb r.inst →
      exec (.hbStatus r) s = .next (((s.offered verbHbStatus r)).replied s verbHbStatus r stDone (b8 (if b.shorted then 5 else if b.pinch.isSome then 4 else (s.offered verbHbStatus r).hbApplied r.inst) ++ b8 (b2n (!b.reliable) + 2 * b2n b.hot + 4 * b2n b.safetyOff) ++ zeros 2 ++ bI32 b.pos ++ bF b.current ++ b32 b.moves))) ∧
  (∀ (s : State) (r : Req) (p : List Byte),
      s.serves verbHbConfig r = true →
      p = r.payload →
      bit (u8 p 1) 0 = (s.hb r.inst).tagged →
      u8 p 0 ≤ 1 →
      u8 p 1 < 16 →
      20 ≤ u16 p 2 →
      u16 p 2 ≤ 400 →
      20 ≤ u16 p 4 →
      u16 p 4 ≤ 500 →
      50 ≤ u16 p 6 →
      u16 p 6 ≤ 1000 →
      10 ≤ u16 p 16 →
      u16 p 16 ≤ 400 →
      10 ≤ u8 p 18 →
      u8 p 18 ≤ 200 →
      1 ≤ u16 p 20 →
      u16 p 20 ≤ 10000 →
      exec (.hbConfig r) s = .next ((((s.offered verbHbConfig r).modHb r.inst (fun b => { b with policy := u8 p 0, owner := some r.win, tagged := bit (u8 p 1) 0, ripple := bit (u8 p 1) 1, pinchFwd := bit (u8 p 1) 2, pinchRev := bit (u8 p 1) 3, stallDa := u16 p 2, stallMs := u16 p 4, blankMs := u16 p 6, zoneLo := i32 p 8, zoneHi := i32 p 12, pinchDa := u16 p 16, pinchPct := u8 p 18, revCount := u16 p 20, configured := true })).safetyEval.dirty).replied s verbHbConfig r stDone [])) ∧
  (∀ (s : State) (r : Req) (p : List Byte),
      s.serves verbHbDrive r = true →
      p = r.payload →
      (s.hb r.inst).boundBy = none →
      u8 p 0 = 1 ∨ u8 p 0 = 2 →
      u8 p 1 = 0 →
      fLe (fFrac 1 20) (f32 p 4) = true →
      fLe (f32 p 4) fOne = true →
      u32 p 12 ≤ 60000 →
      (s.hb r.inst).shorted = false →
      (s.hb r.inst).hot = false →
      (s.hb r.inst).safetyOff = false →
      exec (.hbDrive r) s = .next (((s.offered verbHbDrive r).hbMove r.inst (u8 p 0) (f32 p 4) (some { win := r.win, tag := r.tag }) none (u32 p 12)).replied s verbHbDrive r stAccepted [])) ∧
  (∀ (s : State) (r : Req),
      s.serves verbHbClear r = true →
      (s.hb r.inst).shorted = true →
      exec (.hbClear r) s = .next ((((s.offered verbHbClear r).modHb r.inst (fun b => { b with shorted := false })).clearFault 0x4103 0x23 r.inst).replied s verbHbClear r stDone [])) ∧
  (∀ (s : State) (r : Req),
      s.serves verbHbPosition r = true →
      exec (.hbPosition r) s = .next ((((s.offered verbHbPosition r).modHb r.inst (fun b => { b with pos := i32 r.payload 0, reliable := true })).clearFault 0x4105 0x23 r.inst).replied s verbHbPosition r stDone []))

/-- A stud above the start threshold brings OFF to DEEP PARK with a new epoch; an enabled wake cause makes a trunk start
due and a due start runs; IGN and KEYWAKE take their levels and decide the state; the grace period ends in KEEPER with
the partitions stopped; park entry starts when nothing holds it, reports its waits, steps through its sequence and
powers the trunk off at the latch, where a standing IGN or KEYWAKE wakes it again; a supply loss powers the dies down
and a return brings the next start; the hold's end is OFF. Rows: cellarStart, parkWake, trunkStart, ignChange, graceEnd,
parkEntryStart, parkWait, parkStepDone, powerDownLatch, supplyLoss, supplyReturn, cellarHoldExpiry. Rules: R28, R29,
R30, R383, R441, R455, R458, R459, R460, R461, R462, R463. -/
def Obligations.PowerStateRowsComplete : Prop :=
  (∀ (s : State) (st : Int → Stud) (a b d : Int),
      s.power.state = .off →
      5400 ≤ orMv a b d →
      st = (fun v => { Stud.reset with mv := v, low := decide (v < 6000), rev := decide (v < 0) }) →
      exec (.cellarStart a b d) s = .next { s with time.epoch := s.time.epoch + 1, power := { s.power with state := .deep, logicMv := orMv a b d, studs := tset Stud.reset (tset Stud.reset (tset Stud.reset [] 0 (st a)) 1 (st b)) 2 (st d) } }) ∧
  (∀ (s : State) (cause detail : Nat),
      s.parked = true →
      s.power.lossAt = none →
      s.power.trunkDue = 0 →
      wakeEnabled s.power.state cause = true →
      cause ≠ 1 ∨ s.power.lastStart = 0 →
      exec (.parkWake cause detail) s = .next ({ s with power.trunkDue := 2, nm.wakeFirst := cause, nm.wakeDetail := detail, nm.wakeMap := 2 ^ cause, nm.wakeAt := s.loadedHeartwood, nm.parkS := s.time.parkPeriods / 32768 })) ∧
  (∀ (s : State),
      s.power.trunkDue ≠ 0 →
      s.trunkOn = false →
      exec (.trunkStart) s = .next (if s.trunkStart.power.state == .keeper && s.trunkStart.power.ign then s.trunkStart.enterRun 1 else s.trunkStart)) ∧
  (∀ (s : State) (ign key : Bool),
      s.power.state ≠ .shutdown →
      s.power.state ≠ .off →
      s.parked = false →
      exec (.ignChange ign key) s = .next ((if key && !s.power.keywake && s.power.state == .ending && !ign && !s.power.runReq
        then (s.modPower (fun p => { p with ign := ign, keywake := key })).wakeNow
        else (s.modPower (fun p => { p with ign := ign, keywake := key })).runDecide 1).nmEvalAll)) ∧
  (∀ (s a : State) (t : Nat),
      s.power.state = .ending →
      s.power.grace = some t →
      (s.waitTo t).stopPartitions.runDown.boughsOff.powerTo .keeper 3 = a →
      exec (.graceEnd) s = .next (a.modPower (fun p => { p with grace := none, keeperAt := a.hw, waitPost := none }))) ∧
  (∀ (s : State),
      s.power.state = .keeper →
      s.power.ign = false →
      s.power.keywake = false →
      s.wakeInputHeld = false →
      s.power.runReq = false →
      s.power.holds = [] →
      s.graftBusy = false →
      exec (.parkEntryStart) s = .next ((((s.waitTo (s.power.keeperAt + s.power.keepAwake * 1000000000)).powerTo .parking 0).modPower (fun p => { p with parkStep := 1 })).bodyParkStop)) ∧
  (∀ (s : State) (due : Nat),
      s.power.state = .keeper ∨ s.power.state = .parking →
      s.parkWaits ≠ 0 →
      due = (match s.power.waitPost with | some t => t + 600000000000 | none => s.power.keeperAt + 60000000000) →
      exec (.parkWait) s = .next (((s.waitTo due).post 0x70 0 3 0x0081 0 (s.waitTo due).parkWaits (((s.waitTo due).hw - (s.waitTo due).power.keeperAt) / 1000000000) 0).modPower (fun p => { p with waitPost := some ((s.waitTo due).post 0x70 0 3 0x0081 0 (s.waitTo due).parkWaits (((s.waitTo due).hw - (s.waitTo due).power.keeperAt) / 1000000000) 0).hw }))) ∧
  (∀ (s : State),
      s.power.state = .parking →
      s.power.parkStep = 1 →
      s.bodyParkIdle = true →
      exec (.parkStepDone) s = .next ((s.modPower (fun p => { p with parkStep := 2 })).parkWrite.writeKept)) ∧
  (∀ (s : State),
      s.power.state = .parking →
      s.power.parkStep = 2 →
      exec (.parkStepDone) s = .next ((s.modPower (fun p => { p with parkStep := 3 })).modAttic (fun a => { a with drainAt := some s.hw }))) ∧
  (∀ (s : State),
      s.power.state = .parking →
      s.power.parkStep = 3 →
      s.hasStaged = false →
      exec (.parkStepDone) s = .next (((s.modAttic (fun a => { a with drainAt := none })).modPower (fun p => { p with parkStep := 4 })).plateParkStart)) ∧
  (∀ (s : State),
      s.power.state = .parking →
      s.power.parkStep = 4 →
      s.plateParkIdle = true →
      exec (.parkStepDone) s = .next ((s.modPower (fun p => { p with parkStep := 5 })).nmParkStart)) ∧
  (∀ (s a : State),
      s.power.state = .parking →
      s.power.parkStep = 5 →
      s.nmParkDone = true →
      (if s.attic.inhibit then s.modPower (fun p => { p with parkStep := 6 }) else (s.modPower (fun p => { p with parkStep := 6 })).flushLarder) = a →
      exec (.parkStepDone) s = .next (a.modPower (fun p => { p with target := a.parkTarget }))) ∧
  (∀ (s : State),
      s.power.state = .parking →
      s.power.parkStep = 6 →
      exec (.parkStepDone) s = .next (s.modPower (fun p => { p with parkStep := 7 }))) ∧
  (∀ (s a : State), s.power.state = .parking → s.power.parkStep = 7 → (s.outsPark).trunkStop s.power.target = a →
      exec (.powerDownLatch) s = .next (if a.power.ign then a.wake 2 0 else if a.power.keywake then a.wake 3 0 else a)) ∧
  (∀ (s a : State) (mv : Nat),
      s.trunkOn = true →
      s.power.state ≠ .test →
      s.power.lossAt = none →
      mv < 6000 →
      (({ s with power.logicMv := mv, power.lossMin := mv } : State).flushLarder.dropStage).graftLoss = a →
      exec (.supplyLoss mv) s = .next ((({ a with power.losses := a.power.losses + 1, power.lossAt := some a.hw, power.lossParked := false } : State).outsTrunkReset).trunkStop .reset)) ∧
  (∀ (s : State) (mv : Nat),
      s.trunkOn = false ∨ s.power.state = .test →
      s.power.state ≠ .off →
      s.power.lossAt = none →
      mv < 6000 →
      exec (.supplyLoss mv) s = .next { s with power.logicMv := mv, power.lossMin := mv, power.lossAt := some s.time.parkPeriods, power.lossParked := true, power.losses := s.power.losses + 1 }) ∧
  (∀ (s : State) (mv t : Nat),
      s.power.lossAt = some t →
      7000 ≤ mv →
      s.power.state ≠ .test →
      s.power.state ≠ .shutdown →
      exec (.supplyReturn mv) s = .next ({ s with power.logicMv := mv, power.lossAt := none, power.below3 := none, power.lossMs := (s.time.parkPeriods - (if s.power.lossParked then t else 0)) * 1000 / 32768, power.trunkDue := 3 })) ∧
  (∀ (s : State),
      s.power.lossAt.isSome = true ∨ s.power.state = .shutdown →
      exec (.cellarHoldExpiry) s = .next (s.toOff))

/-- A stud below 6.0 V loses its gate drive until it returns above; below the warning threshold for 100 ms, above 36 V for 1
ms, or below 0 V it is marked and, with the trunk on, its fault raised, and the end of each clears it and resumes the
stages; a monitor trip sets its bit, posts and raises it and takes the reaction of its row; its return clears it. Rows:
studLow, studReturn, powerUndervolt, undervoltEnd, powerOvervolt, overvoltEnd, powerReverse, powerReverseEnd, monitorTrip,
monitorReturn. Rules: R396, R397, R453, R454, R456, R510. -/
def Obligations.SupplyMonitorRowsComplete : Prop :=
  (∀ (s : State) (stud gnd : Nat) (mv : Int),
      stud < 3 →
      mv < 6000 →
      s.power.state ≠ .off →
      exec (.studLow stud mv gnd) s = .next (((s.modPower (fun p => { p with gndOpen := gnd })).modStud stud (fun x => { x with mv := mv, low := true })).refreshGates)) ∧
  (∀ (s u : State) (stud gnd : Nat) (mv : Int),
      stud < 3 →
      6000 ≤ mv →
      (s.stud stud).low = true →
      u = (s.modPower (fun p => { p with gndOpen := gnd })).modStud stud (fun x => { x with mv := mv, low := false }) →
      exec (.studReturn stud mv gnd) s = .next ((if s.noGround = true ∧ u.noGround = false then ((u.studResume 0).studResume 1).studResume 2 else u.studResume stud).refreshGates)) ∧
  (∀ (s : State) (stud ms : Nat) (mv : Int),
      s.trunkOn = true →
      stud < 3 →
      mv < s.power.warnMv →
      100 ≤ ms →
      (s.stud stud).under = false →
      exec (.powerUndervolt stud mv ms) s = .next ((s.modStud stud (fun x => { x with mv := mv, under := true })).studFault stud 0x0082 2 mv.toNat ms)) ∧
  (∀ (s : State) (stud : Nat) (mv : Int),
      s.trunkOn = true →
      stud < 3 →
      s.power.warnMv + 500 < mv →
      (s.stud stud).under = true →
      exec (.undervoltEnd stud mv) s = .next ((s.modStud stud (fun x => { x with mv := mv, under := false })).clearFault 0x0082 0x70 stud)) ∧
  (∀ (s a : State) (stud ms : Nat) (mv : Int),
      s.power.state ≠ .off →
      stud < 3 →
      36000 < mv →
      1 ≤ ms →
      (s.stud stud).overR = false →
      a = (s.modStud stud (fun x => { x with mv := mv, overR := true })).refreshGates →
      exec (.powerOvervolt stud mv ms) s = .next (if s.trunkOn then a.studFault stud 0x0083 3 mv.toNat ms else a)) ∧
  (∀ (s : State) (stud : Nat) (mv : Int),
      stud < 3 →
      mv < 35000 →
      (s.stud stud).overR = true →
      exec (.overvoltEnd stud mv) s = .next ((((s.modStud stud (fun x => { x with mv := mv, overR := false })).studResume stud).refreshGates).clearFault 0x0083 0x70 stud)) ∧
  (∀ (s a : State) (stud : Nat) (mv : Int),
      s.power.state ≠ .off →
      stud < 3 →
      mv < 0 →
      (s.stud stud).rev = false →
      a = (s.modStud stud (fun x => { x with mv := mv, rev := true })).refreshGates →
      exec (.powerReverse stud mv) s = .next (if s.trunkOn then a.studFault stud 0x0085 3 (ofSigned 32 mv) 0 else a)) ∧
  (∀ (s : State) (stud : Nat) (mv : Int),
      stud < 3 →
      0 ≤ mv →
      (s.stud stud).rev = true →
      exec (.powerReverseEnd stud mv) s = .next ((((s.modStud stud (fun x => { x with mv := mv, rev := false })).studResume stud).refreshGates).clearFault 0x0085 0x70 stud)) ∧
  (∀ (s : State) (b : Nat),
      s.operating = true →
      s.root.mon.testBit b = false →
      s.root.frozen = false ∨ 3 ≤ b →
      b = 0 ∨ b = 3 ∨ b = 5 ∨ b = 6 →
      exec (.monitorTrip b) s = .next ((s.modRoot (fun r => { r with mon := r.mon ||| 2 ^ b })).monitorReset b)) ∧
  (∀ (s a : State) (b : Nat),
      s.operating = true →
      s.root.mon.testBit b = false →
      s.root.frozen = false ∨ 3 ≤ b →
      b = 1 ∨ b = 2 ∨ b = 4 ∨ b = 7 →
      a = (((s.modRoot (fun r => { r with mon := r.mon ||| 2 ^ b })).post 0x50 0 238 0xB020 0 b 1 0).raise 0xB020 0x50 b 6 [0, b, 1, 0]).1 →
      exec (.monitorTrip b) s = .next (if b = 1 then keeperUnits.foldl (fun (u : State) k => u.unitRestart k 0 1) a else if b = 2 then a.rootFaultNow 7 else if b = 4 then a.rootFaultNow 8 else a.modRoot (fun r => { r with frozen := true }))) ∧
  (∀ (s a : State) (b : Nat),
      b < 8 →
      s.root.mon.testBit b = true →
      s.root.frozen = false ∨ 3 ≤ b →
      a = s.modRoot (fun r => { r with mon := clearBits r.mon (2 ^ b), frozen := r.frozen && b != 7 }) →
      exec (.monitorReturn b) s = .next (if s.trunkOn then (a.post 0x50 0 238 0xB020 0 b 0 0).clearFault 0xB020 0x50 b else a))
/-- With the trunk on a sample of a fitted sensor takes its reading and its highest, is checked for plausibility,
updates the thermal signals and the throttling; a die's step falls by one after 2 s below; POWER.STATUS and
THERMAL.STATUS answer, the input power with a free value (the model's choice, log entry 216); POWER.CONFIG in range,
POWER.REQUEST and Root's POWER.RUN take effect. Rows: thermalSample, throttleStepDown, powerStatus, powerConfig,
powerRequest, powerRun, thermalStatus. Rules: R459, R465, R466, R467, R468, R469, R472, R473. -/
def Obligations.ThermalPowerVerbsComplete : Prop :=
  (∀ (s a : State) (k : Nat) (temp : Int),
      s.trunkOn = true →
      s.running 0x71 0 = true →
      k < 49 →
      instPresent s.part 0x71 k = true →
      s.inRun = true ∨ k < 10 ∨ 24 ≤ k →
      temp < 1150 ∨ 30 ≤ k ∨ (k < 24 ∧ temp < 1300) →
      a = s.thermInstant k →
      exec (.thermalSample k temp) s = .next (((a.throttle ((a.thermTake k temp).thermSigs k) k).trunkWarning k temp).modSensor k (fun y => { y with hot := 0 }))) ∧
  (∀ (s : State) (die t : Nat),
      s.trunkOn = true →
      (tget DieSt.reset s.thermal.dies die).below = some t →
      0 < (tget DieSt.reset s.thermal.dies die).step →
      exec (.throttleStepDown die) s = .next (let s' := s.waitTo (t + 2000000000); let n := (tget DieSt.reset s.thermal.dies die).step - 1; let again := match hottest (s'.validTemps [10 + 2 * die, 11 + 2 * die]) with | some h => decide (n > 0 ∧ h < stepThr n - 50) | none => false; State.stepEvents s' { s' with thermal.dies := tset DieSt.reset s'.thermal.dies die { tget DieSt.reset s.thermal.dies die with step := n, below := if again then some s'.hw else none } })) ∧
  (∀ (s : State) (r : Req),
      s.serves verbPowerStatus r = true →
      exec (.powerStatus r) s = .next ((s.offered verbPowerStatus r).drawF.2.replied s verbPowerStatus r stDone (b8 (powCode s.power.state) ++ b8 s.power.lastStart ++ b8 (s.offered verbPowerStatus r).parkWaits ++ b8 s.power.parkStep ++ bF (fFrac ((s.offered verbPowerStatus r).stud 0).mv 1000) ++ bF (fFrac ((s.offered verbPowerStatus r).stud 1).mv 1000) ++ bF (fFrac ((s.offered verbPowerStatus r).stud 2).mv 1000) ++ bF (fFrac s.power.logicMv 1000) ++ bF (s.offered verbPowerStatus r).drawF.1 ++ b32 (s.offered verbPowerStatus r).opSec ++ b32 s.power.losses))) ∧
  (∀ (s : State) (r : Req) (b : List Byte),
      s.serves verbPowerConfig r = true →
      b = r.payload →
      u16 b 0 ≤ 3600 →
      u8 b 2 = 1 ∨ u8 b 2 = 2 →
      (fIsNan (f32 b 4) || (fLe (fInt 6) (f32 b 4) && fLe (f32 b 4) (fInt 30))) = true →
      exec (.powerConfig r) s = .next ((((s.offered verbPowerConfig r).modPower (fun p => { p with keepAwake := u16 b 0, system := u8 b 2, uvWarn := f32 b 4 })).dirty).replied s verbPowerConfig r stDone [])) ∧
  (∀ (s : State) (r : Req),
      s.serves verbPowerRequest r = true →
      u8 r.payload 0 ≤ 1 →
      s.power.parkStep ≠ 7 →
      exec (.powerRequest r) s = .next (((s.offered verbPowerRequest r).modPower (fun p => { p with holds := if u8 r.payload 0 = 1 then (if p.holds.contains r.win then p.holds else p.holds ++ [r.win]) else p.holds.erase r.win })).replied s verbPowerRequest r stDone [])) ∧
  (∀ (s : State) (r : Req),
      s.serves verbPowerRun r = true →
      r.win = 0 →
      u8 r.payload 0 ≤ 1 →
      exec (.powerRun r) s = .next ((((s.offered verbPowerRun r).modPower (fun p => { p with runReq := u8 r.payload 0 == 1 })).runDecide 2).replied s verbPowerRun r stDone [])) ∧
  (∀ (s : State) (r : Req),
      s.serves verbThermalStatus r = true →
      exec (.thermalStatus r) s = .next (((s.offered verbThermalStatus r)).replied s verbThermalStatus r stDone (bF (if !((s.offered verbThermalStatus r).sensor r.inst).sampled || (decide (10 ≤ r.inst ∧ r.inst < 24) && !(s.offered verbThermalStatus r).inRun) then fNaN else fFrac ((s.offered verbThermalStatus r).sensor r.inst).temp 10) ++ b8 (if !((s.offered verbThermalStatus r).sensor r.inst).sampled || (decide (10 ≤ r.inst ∧ r.inst < 24) && !(s.offered verbThermalStatus r).inRun) then 2 else if ((s.offered verbThermalStatus r).sensor r.inst).excluded then 1 else 0) ++ b8 (b2n ((s.offered verbThermalStatus r).sensor r.inst).fast) ++ b8 (if decide (10 ≤ r.inst ∧ r.inst < 24) then (s.offered verbThermalStatus r).dieStep ((r.inst - 10) / 2) else 0xFF) ++ b8 0 ++ bF (match ((s.offered verbThermalStatus r).sensor r.inst).max with | some m => fFrac m 10 | none => fNaN))))

/-- While Root runs: a service in the window with the NOT of the challenge is counted and steps the challenge; one too
early, too late or wrong, a passed TMAX, the stop write and each Root fault row take the fault reaction with their
cause; WD_CFG is taken while unlocked and in range; SAFEOFF, FLAGS_SET, FLAGS_CLR, the rule records of disabled rules,
RULE_EN and STUCK take their writes; holds and TAGGED_OFF are released once locked and served; a term change runs one
reflex cycle; a starting Root starts. Rows: wdKeyWrite, wdCfgWrite, rootWdTimeout, rootStopWrite, rootFault, rootStart,
safeoffWrite, cellarHoldRelease, taggedOffRelease, flagsSetWrite, flagsClrWrite, stuckW1c, ruleRecordWrite, ruleEnWrite,
reflexRuleChange. Rules: R389, R390, R392, R393, R395, R398, R400, R401, R402, R405. -/
def Obligations.RootBlockRowsComplete : Prop :=
  (∀ (s : State) (value : Nat),
      s.rootRuns = true →
      s.root.serviceAt + s.root.tminUse * 1000000 ≤ s.hw →
      s.hw ≤ s.root.serviceAt + s.root.tmaxUse * 1000000 →
      value % 65536 = 65535 - s.root.chal →
      exec (.wdKeyWrite value) s = .next (s.modRoot (fun x => { x with services := satAdd 16 x.services 1, serviceAt := s.hw, chal := lfsrStep x.chal, tminUse := x.tmin, tmaxUse := x.tmax }))) ∧
  (∀ (s : State) (value : Nat),
      s.rootRuns = true →
      s.hw < s.root.serviceAt + s.root.tminUse * 1000000 →
      exec (.wdKeyWrite value) s = .next (s.rootFault 4)) ∧
  (∀ (s : State) (value : Nat),
      s.rootRuns = true →
      s.root.serviceAt + s.root.tminUse * 1000000 ≤ s.hw →
      s.root.serviceAt + s.root.tmaxUse * 1000000 < s.hw →
      exec (.wdKeyWrite value) s = .next (s.rootFault 5)) ∧
  (∀ (s : State) (value : Nat),
      s.rootRuns = true →
      s.root.serviceAt + s.root.tminUse * 1000000 ≤ s.hw →
      s.hw ≤ s.root.serviceAt + s.root.tmaxUse * 1000000 →
      value % 65536 ≠ 65535 - s.root.chal →
      exec (.wdKeyWrite value) s = .next (s.rootFault 6)) ∧
  (∀ (s : State) (value : Nat),
      s.rootRuns = true →
      s.root.wdLock = false →
      10 ≤ bits value 9 0 →
      bits value 9 0 ≤ 1000 →
      bits value 25 16 + 5 ≤ bits value 9 0 →
      exec (.wdCfgWrite value) s = .next (s.modRoot (fun x => { x with wdLock := value.testBit 31, tmin := bits value 25 16, tmax := bits value 9 0 }))) ∧
  (∀ (s : State),
      s.rootRuns = true →
      exec (.rootWdTimeout) s = .next ((s.waitTo (s.root.serviceAt + s.root.tmaxUse * 1000000)).rootFault 5)) ∧
  (∀ (s : State),
      s.rootRuns = true →
      exec (.rootStopWrite) s = .next (s.rootFault 9)) ∧
  (∀ (s : State) (cause : Nat),
      s.trunkOn = true →
      s.root.phase = .running →
      cause = 2 ∨ cause = 3 ∨ cause = 7 ∨ cause = 8 ∨ cause = 11 →
      exec (.rootFault cause) s = .next (s.rootFault cause)) ∧
  (∀ (s : State),
      s.trunkOn = true →
      s.root.phase = .pause →
      exec (.rootFault 11) s = .next ((s.rootFault 11).graftRootFault)) ∧
  (∀ (s : State) (links : List LinkDecl),
      s.trunkOn = true →
      s.root.phase = .starting →
      s.power.state ≠ .test →
      exec (.rootStart links) s = .next ((s.rootStart links).keeperTurn)) ∧
  (∀ (s : State) (value : Nat),
      s.rootRuns = true →
      exec (.safeoffWrite value) s = .next ((s.modRoot (fun x => { x with safeoff := value % 2 ^ 29 })).refreshGates)) ∧
  (∀ (s : State) (value : Nat),
      s.rootRuns = true →
      s.root.wdLock = true →
      1 ≤ s.root.services →
      s.root.cellarHold &&& (value % 2 ^ 29) ≠ 0 →
      exec (.cellarHoldRelease value) s = .next (((s.modRoot (fun x => { x with cellarHold := clearBits x.cellarHold (s.root.cellarHold &&& (value % 2 ^ 29)) })).refreshGates).post 0x50 0 236 0xB004 0 2 (s.root.cellarHold &&& (value % 2 ^ 29)) 0)) ∧
  (∀ (s : State),
      s.rootRuns = true →
      s.root.wdLock = true →
      1 ≤ s.root.services →
      s.root.taggedOff = true →
      exec (.taggedOffRelease) s = .next (((s.modRoot (fun x => { x with taggedOff := false })).refreshGates).post 0x50 0 236 0xB004 0 1 0 0)) ∧
  (∀ (s : State) (value : Nat),
      s.rootRuns = true →
      exec (.flagsSetWrite value) s = .next (s.modRoot (fun x => { x with flags := x.flags ||| (value % 2 ^ 32) }))) ∧
  (∀ (s : State) (value : Nat),
      s.rootRuns = true →
      s.operating = true →
      exec (.flagsClrWrite value) s = .next (s.modRoot (fun x => { x with flags := clearBits x.flags (value % 2 ^ 32) ||| s.clearSets (value % 2 ^ 32) }))) ∧
  (∀ (s : State) (word value : Nat),
      s.rootRuns = true →
      word < 3 →
      exec (.stuckW1c word value) s = .next (s.modRoot (fun x => { x with stuck := clearBits x.stuck (value % 2 ^ 32 * 2 ^ (32 * word)) }))) ∧
  (∀ (s : State) (rule word value : Nat),
      s.rootRuns = true →
      rule < 64 →
      word < 8 →
      s.root.ruleEn.testBit rule = false →
      exec (.ruleRecordWrite rule word value) s = .next (s.modRoot (fun x => { x with rules := tset 0 x.rules (8 * rule + word) (value % 2 ^ 32) }))) ∧
  (∀ (s : State) (word value : Nat),
      s.rootRuns = true →
      word < 2 →
      exec (.ruleEnWrite word value) s = .next (((List.range 32).foldl (State.ruleEnable word (value % 2 ^ 32)) s).refreshGates)) ∧
  (∀ (s : State),
      s.operating = true →
      exec (.reflexRuleChange) s = .next (((List.range 64).foldl (State.ruleCycle s.root.flags) s).refreshGates))

/-- On a configured receive connection a valid message awaiting its base sets it, one with the last sequence counts a
repetition, one beyond the gap applies the safe state with cause 2, one within it is accepted with its data, and an
invalid one is a discard; E without a message applies the safe state with cause 1; a transmit connection sends with the
next sequence at its period; a connection in its safe state is re-armed, which ends a transmit connection's fault
(log 185). Rows: rootLinkMessage, rootLinkTimeout, rootLinkTx, rootLinkRearm. Rules: R407, R408, R409. -/
def Obligations.RootLinkRowsComplete : Prop :=
  (∀ (s : State) (conn at_ : Nat) (msg : List Byte),
      s.rootRuns = true →
      (s.link conn).rx = true →
      (s.link conn).id ≠ 0 →
      (s.link conn).state = 1 →
      linkValid (s.link conn) msg = true →
      exec (.rootLinkMessage conn msg at_) s = .next (s.modLink conn (fun k => { k with state := 2, lastSeq := u16 msg 4, lastAt := at_ }))) ∧
  (∀ (s : State) (conn at_ : Nat) (msg : List Byte),
      s.rootRuns = true →
      (s.link conn).rx = true →
      (s.link conn).id ≠ 0 →
      (s.link conn).state = 3 →
      linkValid (s.link conn) msg = true →
      (u16 msg 4 + 65536 - (s.link conn).lastSeq) % 65536 = 0 →
      exec (.rootLinkMessage conn msg at_) s = .next (s.modLink conn (fun k => { k with reps := (k.reps + 1) % 2 ^ 32 }))) ∧
  (∀ (s : State) (conn at_ : Nat) (msg : List Byte),
      s.rootRuns = true →
      (s.link conn).rx = true →
      (s.link conn).id ≠ 0 →
      (s.link conn).state = 3 →
      linkValid (s.link conn) msg = true →
      (u16 msg 4 + 65536 - (s.link conn).lastSeq) % 65536 ≠ 0 →
      (s.link conn).gap < (u16 msg 4 + 65536 - (s.link conn).lastSeq) % 65536 →
      exec (.rootLinkMessage conn msg at_) s = .next (s.linkSafe conn 2)) ∧
  (∀ (s : State) (conn at_ : Nat) (msg : List Byte),
      s.rootRuns = true →
      (s.link conn).rx = true →
      (s.link conn).id ≠ 0 →
      (s.link conn).state = 3 →
      linkValid (s.link conn) msg = true →
      (u16 msg 4 + 65536 - (s.link conn).lastSeq) % 65536 ≠ 0 →
      (u16 msg 4 + 65536 - (s.link conn).lastSeq) % 65536 ≤ (s.link conn).gap →
      exec (.rootLinkMessage conn msg at_) s = .next (s.modLink conn (fun k => { k with state := 3, lastSeq := u16 msg 4, lastAt := at_, accepted := (k.accepted + 1) % 2 ^ 32, data := slice msg 8 k.n }))) ∧
  (∀ (s : State) (conn at_ : Nat) (msg : List Byte),
      s.rootRuns = true →
      (s.link conn).rx = true →
      (s.link conn).id ≠ 0 →
      (s.link conn).state ≠ 0 →
      linkValid (s.link conn) msg = false →
      exec (.rootLinkMessage conn msg at_) s = .next (s.linkDiscard conn at_)) ∧
  (∀ (s : State) (conn : Nat),
      s.rootRuns = true →
      (s.link conn).rx = true →
      (s.link conn).id ≠ 0 →
      1 ≤ (s.link conn).state →
      (s.link conn).state ≤ 3 →
      exec (.rootLinkTimeout conn) s = .next ((s.waitTo ((s.link conn).lastAt + (s.link conn).eMs * 1000000)).linkSafe conn 1)) ∧
  (∀ (s : State) (conn : Nat) (data : List Byte),
      s.rootRuns = true →
      (s.link conn).rx = false →
      (s.link conn).id ≠ 0 →
      (s.link conn).state = 3 →
      exec (.rootLinkTx conn data) s = .next ((s.waitTo (s.link conn).nextTx).modLink conn (fun k => { k with txData := slice data 0 k.n, txSeq := (k.txSeq + 1) % 65536, nextTx := (s.waitTo (s.link conn).nextTx).hw + k.periodMs * 1000000, sent := (linkMessage k data :: k.sent).take 4 }))) ∧
  (∀ (s : State) (conn : Nat),
      s.rootRuns = true →
      (s.link conn).id ≠ 0 →
      (s.link conn).state = 4 →
      (s.link conn).rx = true →
      exec (.rootLinkRearm conn) s = .next (s.modLink conn (fun k => { k with state := if k.rx then 1 else 3, lastAt := s.hw, discAt := none }))) ∧
  (∀ (s : State) (conn : Nat),
      s.rootRuns = true →
      (s.link conn).id ≠ 0 →
      (s.link conn).state = 4 →
      (s.link conn).rx = false →
      exec (.rootLinkRearm conn) s = .next ((s.modLink conn (fun k => { k with state := if k.rx then 1 else 3, lastAt := s.hw, discAt := none })).clearFault 0xB010 0x50 conn))

/-- A served ROOT.STATUS answers Root's state, cause, starts, flags, lines and connections; ROOT.LINK_STATUS the
connection; ROOT.RESTART with the key, Root not stopped, is a Root fault of cause 10; REFLEX.STATUS answers whether the
rule is enabled and active, its terms, its activations and its last change. Rows: rootStatus, rootLinkStatus,
rootRestart, reflexStatus. Rules: R409, R410, R411. -/
def Obligations.RootVerbsComplete : Prop :=
  (∀ (s : State) (r : Req),
      s.serves verbRootStatus r = true →
      exec (.rootStatus r) s = .next (((s.offered verbRootStatus r)).replied s verbRootStatus r stDone (b8 s.root.stateCode ++ b8 s.root.startCause ++ b16 s.root.starts ++ b32 s.root.flags ++ b32 s.root.lines ++ b32 (bitSet ((s.root.links.filter (fun e => e.2.id != 0)).map (·.1))) ++ b32 (bitSet ((s.root.links.filter (fun e => e.2.state == 3)).map (·.1)))))) ∧
  (∀ (s : State) (r : Req),
      s.serves verbRootLinkStatus r = true →
      u8 r.payload 0 < 32 →
      exec (.rootLinkStatus r) s = .next (((s.offered verbRootLinkStatus r)).replied s verbRootLinkStatus r stDone (b32 ((s.offered verbRootLinkStatus r).link (u8 r.payload 0)).id ++ b8 ((s.offered verbRootLinkStatus r).link (u8 r.payload 0)).state ++ b8 ((s.offered verbRootLinkStatus r).link (u8 r.payload 0)).cause ++ b16 ((s.offered verbRootLinkStatus r).link (u8 r.payload 0)).lastSeq ++ b32 ((s.offered verbRootLinkStatus r).link (u8 r.payload 0)).accepted ++ b32 ((s.offered verbRootLinkStatus r).link (u8 r.payload 0)).discarded ++ b32 ((s.offered verbRootLinkStatus r).link (u8 r.payload 0)).reps ++ b32 ((s.hw - ((s.offered verbRootLinkStatus r).link (u8 r.payload 0)).lastAt) / 1000000)))) ∧
  (∀ (s : State) (r : Req),
      s.serves verbRootRestart r = true →
      s.root.phase ≠ .stopped →
      u32 r.payload 0 = 0x52535452 →
      exec (.rootRestart r) s = .next (((s.offered verbRootRestart r).rootFault 10).replied s verbRootRestart r stDone [])) ∧
  (∀ (s : State) (r : Req),
      s.serves verbReflexStatus r = true →
      exec (.reflexStatus r) s = .next (((s.offered verbReflexStatus r)).replied s verbReflexStatus r stDone (b8 (if !s.root.ruleEn.testBit r.inst then 0 else if (tget RuleSt.reset s.root.ruleSt r.inst).active then 2 else 1) ++ b8 ((s.offered verbReflexStatus r).ruleTerms s.root.flags (ruleOf ((s.offered verbReflexStatus r).root.ruleBytes r.inst))) ++ b16 0 ++ b32 (tget RuleSt.reset s.root.ruleSt r.inst).activations ++ b32 (tget RuleSt.reset s.root.ruleSt r.inst).changeAt)))

/-- A sample at THR in IDLE after the dead time starts a strike with the settings and templates of its onset, and is only
counted in the dead time (merged), in a sensor test (blanked) or, as a snippet, in an unfinished snippet (skipped);
its end counts it in the class its feature has; at a multiple of 10 ms every fitted channel closes its bin; the sensor
test starts and ends at its instants; LOSS.STATUS, CONFIG, TEMPLATES and SNIP answer and take effect as their rules
say. Rows: lossStrikeOnset, lossStrikeEnd, lossBinClose, lossSensorTest, lossSensorTestEnd, lossStatus, lossConfig,
lossTemplates, lossSnip. Rules: R98, R99, R100, R101, R102, R103, R104, R105, R106. -/
def Obligations.LossRowsComplete : Prop :=
  (∀ (s a : State) (ch : Nat) (x : Int),
      a = s.snipSettle ch →
      a.lossOn ch = true →
      (a.lossCh ch).striking = false →
      (a.lossCh ch).cfg.thr ≤ (code14 x).natAbs →
      (a.lossCh ch).testing = false →
      a.hw ≥ (a.lossCh ch).tEnd + (a.lossCh ch).cfg.dead * 1000 →
      (a.lossCh ch).snip = none ∨ (∃ p, (a.lossCh ch).snip = some p ∧ p.record = none) →
      exec (.lossStrikeOnset ch x) s = .next (a.modLoss ch (fun c => { c with striking := true, inSnip := false, tOn := a.hw, onsetSet := c.templates, onsetCfg := c.cfg }))) ∧
  (∀ (s a b : State) (ch : Nat) (x : Int) (p : Snip),
      a = s.snipSettle ch →
      a.lossOn ch = true →
      (a.lossCh ch).striking = false →
      (a.lossCh ch).cfg.thr ≤ (code14 x).natAbs →
      (a.lossCh ch).testing = false →
      a.hw ≥ (a.lossCh ch).tEnd + (a.lossCh ch).cfg.dead * 1000 →
      (a.lossCh ch).snip = some p →
      p.record.isSome = true →
      b = a.modLoss ch (fun c => { c with snip := some { p with skipped := p.skipped + 1 } }) →
      exec (.lossStrikeOnset ch x) s = .next (b.modLoss ch (fun c => { c with striking := true, inSnip := true, tOn := b.hw, onsetSet := c.templates, onsetCfg := c.cfg }))) ∧
  (∀ (s a : State) (ch : Nat) (x : Int),
      a = s.snipSettle ch →
      a.lossOn ch = true →
      (a.lossCh ch).striking = false →
      (a.lossCh ch).cfg.thr ≤ (code14 x).natAbs →
      (a.lossCh ch).testing = false →
      a.hw < (a.lossCh ch).tEnd + (a.lossCh ch).cfg.dead * 1000 →
      exec (.lossStrikeOnset ch x) s = .next (a.modLoss ch (fun c => { c with merged := satAdd 16 c.merged 1, openBin.merged := c.openBin.merged + 1 }))) ∧
  (∀ (s a : State) (ch : Nat) (x : Int),
      a = s.snipSettle ch →
      a.lossOn ch = true →
      (a.lossCh ch).striking = false →
      (a.lossCh ch).cfg.thr ≤ (code14 x).natAbs →
      (a.lossCh ch).testing = true →
      exec (.lossStrikeOnset ch x) s = .next (a.modLoss ch (fun c => { c with blanked := satAdd 16 c.blanked 1 }))) ∧
  (∀ (s a b : State) (ch n : Nat) (samples l : List Int) (k : Nat × Nat × Nat × Nat),
      s.running 0x10 0 = true →
      (s.lossCh ch).striking = true →
      n = ringEnd (s.lossCh ch).onsetCfg 0 0 (samples.drop 201) →
      a = (s.waitTo ((s.lossCh ch).tOn + 2000 * n)).snipSettle ch →
      l = samples.map code14 →
      k = classify (s.lossCh ch).onsetSet (s.lossCh ch).onsetCfg.minScore ((l.drop 184).take 128) →
      b = a.modLoss ch (fun c => { c with striking := false, tEnd := a.hw, strikes := (c.strikes + 1) % 2 ^ 32, strikeNo := (c.strikeNo + 1) % 2 ^ 32, grain := if k.1 = 1 then (c.grain + 1) % 2 ^ 32 else c.grain, straw := if k.1 = 0 then (c.straw + 1) % 2 ^ 32 else c.straw, uncls := if k.1 = 2 then (c.uncls + 1) % 2 ^ 32 else c.uncls, openBin := { c.openBin with strikes := c.openBin.strikes + 1, grain := c.openBin.grain + b2n (k.1 == 1), straw := c.openBin.straw + b2n (k.1 == 0) } }) →
      exec (.lossStrikeEnd ch samples) s = .next (b.snipTake ch k.1 k.2.1 k.2.2.1 k.2.2.2 (((l.drop 200).take (n + 1)).foldl (fun m x => max m x.natAbs) 0) (2 * n) (b.lossCh ch) l)) ∧
  (∀ (s : State),
      unitFitted s.variant 0x10 = true →
      s.running 0x10 0 = true →
      exec (.lossBinClose) s = .next ((List.range (lossChs s.variant)).foldl State.lossClose (s.boundary 33 10000000 0))) ∧
  (∀ (s a : State) (ch : Nat),
      s.lossOn ch = true →
      (s.lossCh ch).cfg.testMs ≠ 0 →
      (s.lossCh ch).testing = false →
      a = s.waitTo ((s.lossCh ch).testAt + (s.lossCh ch).cfg.testMs * 1000000) →
      (a.lossCh ch).striking = false →
      (a.lossCh ch).tEnd + (a.lossCh ch).cfg.dead * 1000 ≤ a.hw →
      exec (.lossSensorTest ch) s = .next (a.modLoss ch (fun c => { c with testing := true, testAt := a.hw }))) ∧
  (∀ (s : State) (ch resp : Nat),
      s.running 0x10 0 = true →
      (s.lossCh ch).testing = true →
      25 ≤ resp →
      resp ≤ 150 →
      ((s.waitTo ((s.lossCh ch).testAt + 200000)).lossCh ch).sensor = 0 →
      exec (.lossSensorTestEnd ch resp) s = .next ((s.waitTo ((s.lossCh ch).testAt + 200000)).modLoss ch (fun c => { c with testing := false, openRun := 0, shortRun := 0 }))) ∧
  (∀ (s : State) (ch resp : Nat),
      s.running 0x10 0 = true →
      (s.lossCh ch).testing = true →
      resp > 150 →
      (s.lossCh ch).openRun ≥ 1 →
      (s.lossCh ch).sensor = 0 →
      exec (.lossSensorTestEnd ch resp) s = .next ((((((s.waitTo ((s.lossCh ch).testAt + 200000)).modLoss ch (fun c => { c with testing := false, openRun := c.openRun + 1, shortRun := 0 })).clearFault 0x1002 0x10 ch).modLoss ch (fun c => { c with sensor := 1 })).raiseEv 0x10 ch (lossSrc ch) 0x1001 2 ch resp 0 0))) ∧
  (∀ (s : State) (r : Req),
      s.serves verbLossStatus r = true →
      exec (.lossStatus r) s = .next (((s.offered verbLossStatus r)).replied s verbLossStatus r stDone (b32 (s.lossCh r.inst).strikes ++ b32 (s.lossCh r.inst).grain ++ b32 (s.lossCh r.inst).straw ++ b32 (s.lossCh r.inst).uncls ++ b16 (s.lossCh r.inst).merged ++ b16 (s.lossCh r.inst).blanked ++ b16 (s.lossCh r.inst).setNo ++ b8 (if (s.lossCh r.inst).cfg.mode = 0 then 0 else if (s.lossCh r.inst).sensor ≠ 0 then 2 else 1) ++ b8 0))) ∧
  (∀ (s : State) (r : Req) (p : List Byte),
      s.serves verbLossConfig r = true →
      p = r.payload →
      u8 p 0 ≤ 2 →
      u8 p 1 ≤ 1 →
      16 ≤ u16 p 2 →
      u16 p 2 ≤ 8191 →
      20 ≤ u16 p 4 →
      u16 p 4 ≤ 2000 →
      10 ≤ u16 p 6 →
      u16 p 6 ≤ 90 →
      25 ≤ u16 p 8 →
      u16 p 8 ≤ 500 →
      1 ≤ u8 p 10 →
      u8 p 10 ≤ 100 →
      u8 p 11 ≤ 127 →
      (u16 p 12 = 0 ∨ (100 ≤ u16 p 12 ∧ u16 p 12 ≤ 10000)) →
      exec (.lossConfig r) s = .next ((((s.offered verbLossConfig r).modLoss r.inst (fun x => { x with pendCfg := some { mode := u8 p 0, range := u8 p 1, thr := u16 p 2, ringdown := u16 p 4, rel := u16 p 6, dead := u16 p 8, w := u8 p 10, minScore := u8 p 11, testMs := u16 p 12 } })).dirty).replied s verbLossConfig r stDone [])) ∧
  (∀ (s a : State) (r : Req) (l : List Template),
      s.serves verbLossTemplates r = true →
      a = s.offered verbLossTemplates r →
      a.regionCheck r.win (u8 r.payload 0) 2112 = none →
      (s.lossCh r.inst).pendTpl = none →
      l = (List.range 8).map (templateOf (a.regionRead r.win (u8 r.payload 0) 0 2112)) →
      l.all Template.ok = true →
      exec (.lossTemplates r) s = .next ((((a.regionDone r.win (u8 r.payload 0) r.tag 2112 false).modLoss r.inst (fun x => { x with pendTpl := some l, pendTplOp := { win := r.win, tag := r.tag } })).dirty).replied s verbLossTemplates r stAccepted [])) ∧
  (∀ (s : State) (r : Req) (p : List Byte),
      s.serves verbLossSnip r = true →
      p = r.payload →
      ((s.offered verbLossSnip r).lossCh r.inst).snip = none →
      u8 p 1 ≤ 3 →
      1 ≤ u16 p 2 →
      u16 p 2 ≤ 8192 →
      1 ≤ u8 p 5 →
      (s.offered verbLossSnip r).regionCheck r.win (u8 p 0) (2048 * u16 p 2) = none →
      exec (.lossSnip r) s = .next ((((s.offered verbLossSnip r).regionBegin r.win (u8 p 0) r.tag true).modLoss r.inst (fun x => { x with snip := some { op := { win := r.win, tag := r.tag }, desc := u8 p 0, sel := u8 p 1, count := u16 p 2, margin := u8 p 4, every := u8 p 5 } })).replied s verbLossSnip r stAccepted []))

/-- With no instance host-assisted and both descriptors usable, X.HOSTBUF sets the unit's buffer; at a period end the
unit writes its block of the host-assisted instances and counts it; X.RESULT in time applies the entries to their
instances. Rows: lossHostbuf, bridgeHostbuf, ainHostbuf, freqHostbuf, hostBlockWrite, lossResult, bridgeResult,
ainResult, freqResult. Rules: R119, R120. -/
def Obligations.HostAcquisitionRowsComplete : Prop :=
  (∀ (s : State) (r : Req),
      s.serves (verbHostbuf 0x10) r = true →
      (List.range 24).any (fun i => s.isHost (hostKey 0x10 0 i) || (s.hostFn (hostKey 0x10 0 i)).pending == some true) = false →
      (s.offered (verbHostbuf 0x10) r).regionCheck r.win (u8 r.payload 0) 0 = none →
      (s.offered (verbHostbuf 0x10) r).regionCheck r.win (u8 r.payload 1) 0 = none →
      exec (.lossHostbuf r) s = .next ((((s.offered (verbHostbuf 0x10) r).modSense (fun x => { x with bufs := tset HostBuf.reset x.bufs 0x10 { set := true, win := r.win, tag := r.tag, a := u8 r.payload 0, b := u8 r.payload 1 } })).dirty).replied s (verbHostbuf 0x10) r stDone [])) ∧
  (∀ (s : State) (r : Req),
      s.serves (verbHostbuf 0x11) r = true →
      (List.range 8).any (fun i => s.isHost (hostKey 0x11 0 i) || (s.hostFn (hostKey 0x11 0 i)).pending == some true) = false →
      (s.offered (verbHostbuf 0x11) r).regionCheck r.win (u8 r.payload 0) 0 = none →
      (s.offered (verbHostbuf 0x11) r).regionCheck r.win (u8 r.payload 1) 0 = none →
      exec (.bridgeHostbuf r) s = .next ((((s.offered (verbHostbuf 0x11) r).modSense (fun x => { x with bufs := tset HostBuf.reset x.bufs 0x11 { set := true, win := r.win, tag := r.tag, a := u8 r.payload 0, b := u8 r.payload 1 } })).dirty).replied s (verbHostbuf 0x11) r stDone [])) ∧
  (∀ (s : State) (r : Req),
      s.serves (verbHostbuf 0x12) r = true →
      (List.range 48).any (fun i => s.isHost (hostKey 0x12 0 i) || (s.hostFn (hostKey 0x12 0 i)).pending == some true) = false →
      (s.offered (verbHostbuf 0x12) r).regionCheck r.win (u8 r.payload 0) 0 = none →
      (s.offered (verbHostbuf 0x12) r).regionCheck r.win (u8 r.payload 1) 0 = none →
      exec (.ainHostbuf r) s = .next ((((s.offered (verbHostbuf 0x12) r).modSense (fun x => { x with bufs := tset HostBuf.reset x.bufs 0x12 { set := true, win := r.win, tag := r.tag, a := u8 r.payload 0, b := u8 r.payload 1 } })).dirty).replied s (verbHostbuf 0x12) r stDone [])) ∧
  (∀ (s : State) (r : Req),
      s.serves (verbHostbuf 0x13) r = true →
      (List.range 16).any (fun i => s.isHost (hostKey 0x13 0 i) || (s.hostFn (hostKey 0x13 0 i)).pending == some true) = false →
      (s.offered (verbHostbuf 0x13) r).regionCheck r.win (u8 r.payload 0) 0 = none →
      (s.offered (verbHostbuf 0x13) r).regionCheck r.win (u8 r.payload 1) 0 = none →
      exec (.freqHostbuf r) s = .next ((((s.offered (verbHostbuf 0x13) r).modSense (fun x => { x with bufs := tset HostBuf.reset x.bufs 0x13 { set := true, win := r.win, tag := r.tag, a := u8 r.payload 0, b := u8 r.payload 1 } })).dirty).replied s (verbHostbuf 0x13) r stDone [])) ∧
  (∀ (s : State) (unit : Nat) (loss : List (Nat × List Int)) (par : Nat × Nat × Nat × Nat) (insts : List Nat) (b : HostBuf) (k : Nat) (blk : List Byte) (o : State),
      sensePar unit = some par →
      b = tget HostBuf.reset s.sensing.bufs unit →
      s.running unit 0 = true →
      b.set = true →
      (List.range (senseCount unit)).any (fun i => s.isHost (hostKey unit 0 i)) = true →
      o = s.boundary (42 + 1000 * unit) par.1 0 →
      insts = (List.range (senseCount unit)).filter (fun i => o.isHost (hostKey unit 0 i) && decide ((o.hostFn (hostKey unit 0 i)).pendingAt < o.hw)) →
      insts.isEmpty = false →
      k = (tget 0 o.sensing.blockK unit + 1) % 2 ^ 32 →
      blk = (b32 k ++ b32 0 ++ b64 (o.hw - par.1) ++ b64 o.hw ++ b64 (bitSet insts) ++ b16 par.2.2.1 ++ b16 par.2.2.2 ++ b32 (par.2.2.1 * par.2.2.2) ++ zeros 24) ++ insts.flatMap (fun i => o.senseSection unit i loss) →
      exec (.hostBlockWrite unit loss) s = .next (let q := insts.foldl (fun (u : State) i => u.sensePeriod unit k par.1 par.2.1 i) (((o.regionWrite b.win (if k % 2 = 0 then b.a else b.b) 0 blk).regionDone b.win (if k % 2 = 0 then b.a else b.b) b.tag blk.length true).modSense (fun x => { x with blockK := tset 0 x.blockK unit k })); if unit = 0x13 then insts.foldl (fun (u : State) i => u.modFreq i (fun c => { c with hEdges := 0, hCount := 0 })) q else q)) ∧
  (∀ (s : State) (h : HostFn) (r : Req) (is : List Nat) (es : List SenseEntry),
      s.serves (verbResult 0x10) r = true →
      es = senseEntries r.payload →
      tget 0 s.sensing.blockK 0x10 ≠ 0 →
      u32 r.payload 0 ≠ 0 →
      u32 r.payload 0 ≤ tget 0 s.sensing.blockK 0x10 →
      tget 0 s.sensing.blockK 0x10 ≤ u32 r.payload 0 + 1 →
      (es.map (fun e => (s.offered (verbResult 0x10) r).senseOwner 0x10 r.win e.id)).all Option.isSome = true →
      (es.map SenseEntry.id).eraseDups.length = es.length →
      es.all (fun e => fFinite e.value) = true →
      is = ((es.map (fun e => (s.offered (verbResult 0x10) r).senseOwner 0x10 r.win e.id)).filterMap id).eraseDups →
      h = s.hostFn (hostKey 0x10 0 (s.blockInst 0x10 (tget 0 s.sensing.blockK 0x10) is)) →
      s.hw < (if u32 r.payload 0 = tget 0 s.sensing.blockK 0x10 then h.due else if h.prev then h.ptk + h.pd else h.tk - (tget 0 s.sensing.blockK 0x10 - u32 r.payload 0) * h.period + h.d) →
      exec (.lossResult r) s = .next ((is.foldl (fun (a : State) i => a.senseApply 0x10 (u32 r.payload 0 == tget 0 s.sensing.blockK 0x10) (h.tk - (tget 0 s.sensing.blockK 0x10 - u32 r.payload 0) * h.period) es i) (s.offered (verbResult 0x10) r)).replied s (verbResult 0x10) r stDone [])) ∧
  (∀ (s : State) (h : HostFn) (r : Req) (is : List Nat) (es : List SenseEntry),
      s.serves (verbResult 0x11) r = true →
      es = senseEntries r.payload →
      tget 0 s.sensing.blockK 0x11 ≠ 0 →
      u32 r.payload 0 ≠ 0 →
      u32 r.payload 0 ≤ tget 0 s.sensing.blockK 0x11 →
      tget 0 s.sensing.blockK 0x11 ≤ u32 r.payload 0 + 1 →
      (es.map (fun e => (s.offered (verbResult 0x11) r).senseOwner 0x11 r.win e.id)).all Option.isSome = true →
      (es.map SenseEntry.id).eraseDups.length = es.length →
      es.all (fun e => fFinite e.value) = true →
      is = ((es.map (fun e => (s.offered (verbResult 0x11) r).senseOwner 0x11 r.win e.id)).filterMap id).eraseDups →
      h = s.hostFn (hostKey 0x11 0 (s.blockInst 0x11 (tget 0 s.sensing.blockK 0x11) is)) →
      s.hw < (if u32 r.payload 0 = tget 0 s.sensing.blockK 0x11 then h.due else if h.prev then h.ptk + h.pd else h.tk - (tget 0 s.sensing.blockK 0x11 - u32 r.payload 0) * h.period + h.d) →
      exec (.bridgeResult r) s = .next ((is.foldl (fun (a : State) i => a.senseApply 0x11 (u32 r.payload 0 == tget 0 s.sensing.blockK 0x11) (h.tk - (tget 0 s.sensing.blockK 0x11 - u32 r.payload 0) * h.period) es i) (s.offered (verbResult 0x11) r)).replied s (verbResult 0x11) r stDone [])) ∧
  (∀ (s : State) (h : HostFn) (r : Req) (is : List Nat) (es : List SenseEntry),
      s.serves (verbResult 0x12) r = true →
      es = senseEntries r.payload →
      tget 0 s.sensing.blockK 0x12 ≠ 0 →
      u32 r.payload 0 ≠ 0 →
      u32 r.payload 0 ≤ tget 0 s.sensing.blockK 0x12 →
      tget 0 s.sensing.blockK 0x12 ≤ u32 r.payload 0 + 1 →
      (es.map (fun e => (s.offered (verbResult 0x12) r).senseOwner 0x12 r.win e.id)).all Option.isSome = true →
      (es.map SenseEntry.id).eraseDups.length = es.length →
      es.all (fun e => fFinite e.value) = true →
      is = ((es.map (fun e => (s.offered (verbResult 0x12) r).senseOwner 0x12 r.win e.id)).filterMap id).eraseDups →
      h = s.hostFn (hostKey 0x12 0 (s.blockInst 0x12 (tget 0 s.sensing.blockK 0x12) is)) →
      s.hw < (if u32 r.payload 0 = tget 0 s.sensing.blockK 0x12 then h.due else if h.prev then h.ptk + h.pd else h.tk - (tget 0 s.sensing.blockK 0x12 - u32 r.payload 0) * h.period + h.d) →
      exec (.ainResult r) s = .next ((is.foldl (fun (a : State) i => a.senseApply 0x12 (u32 r.payload 0 == tget 0 s.sensing.blockK 0x12) (h.tk - (tget 0 s.sensing.blockK 0x12 - u32 r.payload 0) * h.period) es i) (s.offered (verbResult 0x12) r)).replied s (verbResult 0x12) r stDone [])) ∧
  (∀ (s : State) (h : HostFn) (r : Req) (is : List Nat) (es : List SenseEntry),
      s.serves (verbResult 0x13) r = true →
      es = senseEntries r.payload →
      tget 0 s.sensing.blockK 0x13 ≠ 0 →
      u32 r.payload 0 ≠ 0 →
      u32 r.payload 0 ≤ tget 0 s.sensing.blockK 0x13 →
      tget 0 s.sensing.blockK 0x13 ≤ u32 r.payload 0 + 1 →
      (es.map (fun e => (s.offered (verbResult 0x13) r).senseOwner 0x13 r.win e.id)).all Option.isSome = true →
      (es.map SenseEntry.id).eraseDups.length = es.length →
      es.all (fun e => fFinite e.value) = true →
      is = ((es.map (fun e => (s.offered (verbResult 0x13) r).senseOwner 0x13 r.win e.id)).filterMap id).eraseDups →
      h = s.hostFn (hostKey 0x13 0 (s.blockInst 0x13 (tget 0 s.sensing.blockK 0x13) is)) →
      s.hw < (if u32 r.payload 0 = tget 0 s.sensing.blockK 0x13 then h.due else if h.prev then h.ptk + h.pd else h.tk - (tget 0 s.sensing.blockK 0x13 - u32 r.payload 0) * h.period + h.d) →
      exec (.freqResult r) s = .next ((is.foldl (fun (a : State) i => a.senseApply 0x13 (u32 r.payload 0 == tget 0 s.sensing.blockK 0x13) (h.tk - (tget 0 s.sensing.blockK 0x13 - u32 r.payload 0) * h.period) es i) (s.offered (verbResult 0x13) r)).replied s (verbResult 0x13) r stDone []))

/-- Samples are converted at their period boundary, and at a multiple of 1 ms the sensor supplies' currents are shown;
excitation over its limit switches excitation off and raises BRIDGE/EXC_FAULT; sense common mode outside 30-70 % raises
BRIDGE/SENSE_OPEN; a ratio beyond its range for 100 ms raises BRIDGE/OVERRANGE; a value outside its limits for the
diagnostic time raises AIN/DIAG_LOW or DIAG_HIGH; over 25 mA for 10 ms disconnects the shunt, which reconnects 1 s
later; the verbs set what R107, R108 and R110 say. Rows: bridgeSample, bridgeExcFault, bridgeSenseOpen, bridgeOverrange,
bridgeConfig, bridgeTare, bridgeStatus, ainSample, ainDiag, ainShuntOff, ainShuntReconnect, ainConfig. Rules: R107,
R108, R109, R110, R111. -/
def Obligations.BridgeAnalogRowsComplete : Prop :=
  (∀ (s : State) (samples : List (Nat × F32 × F32 × F32)),
      s.running 0x11 0 = true →
      exec (.bridgeSample samples) s = .next (samples.foldl State.bridgeSample (s.boundary 43 250000 0))) ∧
  (∀ (s : State) (ch cur : Nat),
      s.running 0x11 0 = true →
      ch < 8 →
      (s.bridgeCh ch).exc ≠ 0 →
      (s.bridgeCh ch).excOff = false →
      (s.bridgeCh ch).limit < cur →
      exec (.bridgeExcFault ch cur) s = .next (let u := (s.modBridge ch (fun c => { c with excOff := true })).raiseEv 0x11 ch (20 + ch) 0x1010 3 ch cur 0 0; if u.isHost (hostKey 0x11 0 ch) then u else u.modFlags (0x40 + ch) faultFlags)) ∧
  (∀ (s : State) (ch cm : Nat),
      s.running 0x11 0 = true →
      ch < 8 →
      (s.bridgeCh ch).exc ≠ 0 →
      (s.bridgeCh ch).senseOpen = false →
      cm < 30 ∨ 70 < cm →
      exec (.bridgeSenseOpen ch cm) s = .next (let u := (s.modBridge ch (fun c => { c with senseOpen := true })).raiseEv 0x11 ch (20 + ch) 0x1011 3 ch cm 0 0; if u.isHost (hostKey 0x11 0 ch) then u else u.modFlags (0x40 + ch) faultFlags)) ∧
  (∀ (s : State) (ch cm : Nat),
      s.running 0x11 0 = true →
      ch < 8 →
      (s.bridgeCh ch).exc ≠ 0 →
      (s.bridgeCh ch).senseOpen = true →
      30 ≤ cm →
      cm ≤ 70 →
      exec (.bridgeSenseOpen ch cm) s = .next ((s.modBridge ch (fun c => { c with senseOpen := false })).clearFault 0x1011 0x11 ch)) ∧
  (∀ (s : State) (ch t0 : Nat),
      s.running 0x11 0 = true →
      ch < 8 →
      (s.bridgeCh ch).exc ≠ 0 →
      (s.bridgeCh ch).overR = false →
      (s.bridgeCh ch).overSince = some t0 →
      exec (.bridgeOverrange ch) s = .next (((s.waitTo (t0 + 100000000)).modBridge ch (fun c => { c with overR := true })).raiseEv 0x11 ch (20 + ch) 0x1012 2 ch (s.bridgeCh ch).ratio.toNat 0 0)) ∧
  (∀ (s : State) (r : Req) (p : List Byte),
      s.serves verbBridgeConfig r = true →
      p = r.payload →
      u8 p 0 ≤ 2 →
      u8 p 1 ≤ 2 →
      u8 p 2 ≤ 3 →
      fFinite (f32 p 4) = true →
      fEq (f32 p 4) fZero = false →
      fFinite (f32 p 8) = true →
      10 ≤ u16 p 12 →
      u16 p 12 ≤ 60 →
      ((s.offered verbBridgeConfig r).bridgeCh r.inst).tareOp = none →
      exec (.bridgeConfig r) s = .next (((if u8 p 0 = 0 then (((((s.offered verbBridgeConfig r).modBridge r.inst (fun c => { c with exc := u8 p 0, range := u8 p 1, filter := u8 p 2, scale := f32 p 4, offset := f32 p 8, limit := u16 p 12, excOff := false, ratios := [], overSince := none })).clearFault 0x1010 0x11 r.inst).modBridge r.inst (fun c => { c with senseOpen := false, overR := false })).clearFault 0x1011 0x11 r.inst).clearFault 0x1012 0x11 r.inst |>.zeroSigs (0x40 + r.inst) (0x40 + r.inst) else ((s.offered verbBridgeConfig r).modBridge r.inst (fun c => { c with exc := u8 p 0, range := u8 p 1, filter := u8 p 2, scale := f32 p 4, offset := f32 p 8, limit := u16 p 12, excOff := false, ratios := [], overSince := none })).clearFault 0x1010 0x11 r.inst).dirty).replied s verbBridgeConfig r stDone [])) ∧
  (∀ (s : State) (r : Req),
      s.serves verbBridgeTare r = true →
      16 ≤ u16 r.payload 0 →
      (s.bridgeCh r.inst).tareOp = none →
      exec (.bridgeTare r) s = .next (((s.offered verbBridgeTare r).modBridge r.inst (fun c => { c with tareOp := some { op := { win := r.win, tag := r.tag }, want := u16 r.payload 0, values := [] } })).dirty.replied s verbBridgeTare r stAccepted [])) ∧
  (∀ (s : State) (r : Req),
      s.serves verbBridgeStatus r = true →
      exec (.bridgeStatus r) s = .next (((s.offered verbBridgeStatus r)).replied s verbBridgeStatus r stDone (bF (s.bridgeCh r.inst).tare ++ bF (s.bridgeCh r.inst).excCur ++ bF (s.bridgeCh r.inst).excVolt))) ∧
  (∀ (s : State) (codes sup : List (Nat × Nat)),
      s.running 0x12 0 = true →
      ((s.boundary 52 500000 470000).hw - 470000) % 1000000 ≠ 0 →
      exec (.ainSample codes sup) s = .next (codes.foldl (State.ainConvert ((s.boundary 52 500000 470000).hw - 470000)) (s.boundary 52 500000 470000))) ∧
  (∀ (s : State) (codes sup : List (Nat × Nat)),
      s.running 0x12 0 = true →
      ((s.boundary 52 500000 470000).hw - 470000) % 1000000 = 0 →
      (codes.foldl (State.ainConvert ((s.boundary 52 500000 470000).hw - 470000)) (s.boundary 52 500000 470000)).running 0x14 0 = true →
      exec (.ainSample codes sup) s = .next (sup.foldl (fun (u : State) x => if x.1 < 6 then u.setSig (0x78 + x.1) (fFrac x.2 1000) ((s.boundary 52 500000 470000).hw - 470000) fgValid else u) (codes.foldl (State.ainConvert ((s.boundary 52 500000 470000).hw - 470000)) (s.boundary 52 500000 470000)))) ∧
  (∀ (s : State) (ch t0 : Nat),
      s.running 0x12 0 = true →
      ch < 48 →
      (s.ainCh ch).range ≠ 0 →
      (s.ainCh ch).lowSince = some t0 →
      (s.ainCh ch).diag = 0 →
      exec (.ainDiag ch) s = .next (let u := ((s.waitTo (t0 + (s.ainCh ch).diagMs * 1000000)).modAin ch (fun c => { c with diag := 1 })).raiseEv 0x12 ch (ainSrc ch) 0x1020 2 ch (s.ainCh ch).value.toNat ((s.ainCh ch).low.getD fZero).toNat 0; if u.isHost (hostKey 0x12 0 ch) then u else u.modFlags ch faultFlags)) ∧
  (∀ (s : State) (ch t0 : Nat),
      s.running 0x12 0 = true →
      ch < 48 →
      (s.ainCh ch).range ≠ 0 →
      (s.ainCh ch).lowSince = none →
      (s.ainCh ch).highSince = some t0 →
      (s.ainCh ch).diag = 0 →
      exec (.ainDiag ch) s = .next (let u := ((s.waitTo (t0 + (s.ainCh ch).diagMs * 1000000)).modAin ch (fun c => { c with diag := 2 })).raiseEv 0x12 ch (ainSrc ch) 0x1021 2 ch (s.ainCh ch).value.toNat ((s.ainCh ch).high.getD fZero).toNat 0; if u.isHost (hostKey 0x12 0 ch) then u else u.modFlags ch faultFlags)) ∧
  (∀ (s : State) (ch t0 : Nat),
      s.running 0x12 0 = true →
      ch < 48 →
      (s.ainCh ch).range = 4 →
      (s.ainCh ch).shuntOff = false →
      s.supBad (s.ainCh ch).link = false →
      (s.ainCh ch).shuntSince = some t0 →
      exec (.ainShuntOff ch) s = .next (let u := s.waitTo (t0 + 10000000); (u.modAin ch (fun c => { c with shuntOff := true, shuntAt := u.hw, shuntSince := none })).raiseEv 0x12 ch (ainSrc ch) 0x1022 3 ch ((s.ainCh ch).shuntPeak * 300 / 65535) 0 0)) ∧
  (∀ (s : State) (ch : Nat),
      s.running 0x12 0 = true →
      (s.ainCh ch).shuntOff = true →
      ∃ t, exec (.ainShuntReconnect ch) s = .next t ∧
        (t.ainCh ch).shuntOff = false ∧
        t.hw = max s.hw (cycleOf ((s.ainCh ch).shuntAt + 1000000000)) ∧
        t.stands 0x1022 0x12 ch = false ∧
        SameBut [.keeper, .time, .faults, .sensing, .power] s t) ∧
  (∀ (s : State) (r : Req) (p : List Byte),
      s.serves verbAinConfig r = true →
      p = r.payload →
      u8 p 0 ≤ 5 →
      1 ≤ u8 p 1 →
      u8 p 1 ≤ 64 →
      u8 p 2 ≤ 5 ∨ u8 p 2 = 255 →
      1 ≤ u16 p 12 →
      u16 p 12 ≤ 10000 →
      exec (.ainConfig r) s = .next ((let n := ((((s.offered verbAinConfig r).modSense (fun x => { x with ain := tset AinCh.reset x.ain r.inst { AinCh.reset with range := u8 p 0, avg := u8 p 1, link := u8 p 2, lo := f32 p 4, hi := f32 p 8, diagMs := u16 p 12 } })).clearFault 0x1020 0x12 r.inst).clearFault 0x1021 0x12 r.inst).clearFault 0x1022 0x12 r.inst; (if u8 p 0 = 0 then n.zeroSigs r.inst r.inst else n).dirty).replied s verbAinConfig r stDone []))

/-- A marked edge counts and stamps its input, and keeps the comparator's term while the unit restarts; at a gate end
the signal is updated from the edges of the gate; the comparator term changes without an edge at its period limit; two
failed wiring checks raise FREQ/WIRING; a supply at its current limit is marked limited, for 20 ms it is switched off
with its event, and back below it recovers; a back-fed supply is switched off; the retry switches it on; 50 ms after
regulation the linked diagnostics resume; FREQ.CONFIG and SUP.CONFIG set what their rules say. Rows: freqEdge,
freqGateEnd, freqComparatorTimeout, freqWiringCheck, freqConfig, supOverload, supBackfed, supRetry,
supRegulationSettled, supConfig. Rules: R112, R113, R114, R115, R116, R117, R118. -/
def Obligations.FrequencySupplyRowsComplete : Prop :=
  (∀ (s a : State) (ch peak : Nat) (rising both : Bool) (c : FreqCh),
      (s.unitSt 0x13 0).phase ≠ .off →
      ch < 16 →
      (s.freqCh (ch / 2 * 2)).type ≠ 2 →
      a = s.levelStep ch rising both →
      c = a.freqCh ch →
      c.type ≠ 0 →
      c.marks ch peak rising = true →
      exec (.freqEdge ch peak rising both) s = .next (let b := a.modFreq ch (fun y => { y with tLast := a.hw, cmpSeen := true, seen := true, peak := peak, term := if c.cmpSeen then c.edgeTerm (a.hw - c.tLast) else c.term }); if s.running 0x13 0 then b.modFreq ch (fun y => { y with edges := y.edges + 1, firstEdge := if y.hEdges = 0 then b.hw else y.firstEdge, hEdges := (y.hEdges + 1) % 2 ^ 32 }) else b)) ∧
  (∀ (s a : State) (ch peak : Nat) (rising both : Bool) (c : FreqCh),
      s.running 0x13 0 = true →
      ch < 16 →
      ch / 2 * 2 = ch →
      (s.freqCh ch).type = 2 →
      a = (s.quadStep ch true rising both).levelStep ch rising both →
      c = a.freqCh ch →
      c.marks ch peak rising = true →
      exec (.freqEdge ch peak rising both) s = .next (let b := a.modFreq ch (fun y => { y with tLast := a.hw, cmpSeen := true, seen := true, peak := peak, term := if c.cmpSeen then c.edgeTerm (a.hw - c.tLast) else c.term }); b.modFreq ch (fun y => { y with edges := y.edges + 1, firstEdge := if y.hEdges = 0 then b.hw else y.firstEdge, hEdges := (y.hEdges + 1) % 2 ^ 32 }))) ∧
  (∀ (s u v : State) (ch : Nat) (c : FreqCh) (f : F32) (flt : Bool),
      s.running 0x13 0 = true →
      ch < 16 →
      c = s.freqCh ch →
      c.type ≠ 0 →
      s.quadOdd ch = false →
      s.boundary (60 + 1000 * ch) (c.gateMs * 1000000) 0 = u →
      c.edges ≠ 0 →
      f = fFrac (c.edges * 1000000000 : Nat) (c.tLast - c.tRef) →
      v = u.modFreq ch (fun y => { y with f := f, edges := 0, tRef := y.tLast }) →
      flt = (c.wiring != 0 || (c.type == 2 && (v.freqCh (ch + 1)).wiring != 0) || v.supDown c.link) →
      v.isHost (hostKey 0x13 0 ch) = false →
      exec (.freqGateEnd ch) s = .next (let w := v.setSig (0x30 + ch) (fMul (if c.type = 2 ∧ c.dirNeg then fNeg f else f) c.scale) c.tLast (flagsOf (!flt) false false flt false false); if c.type = 2 then w.setSig (0x31 + ch) (fInt c.count) c.tLast (flagsOf (!flt) false false flt false false) else w)) ∧
  (∀ (s : State) (ch : Nat),
      (s.unitSt 0x13 0).phase ≠ .off →
      ch < 16 →
      (s.freqCh ch).type ≠ 0 →
      (s.freqCh ch).sense = 1 →
      (s.freqCh ch).term = true →
      ∃ t, exec (.freqComparatorTimeout ch) s = .next t ∧
        (t.freqCh ch).term = false ∧
        t.hw = max s.hw (cycleOf (((s.freqCh ch).tLast + rateLimit (s.freqCh ch).thr (100 - (s.freqCh ch).h)) / 4 * 4 + 4)) ∧
        SameBut [.time, .sensing, .power] s t) ∧
  (∀ (s u : State) (ch mv : Nat) (bias : Bool),
      s.running 0x13 0 = true →
      ch < 16 →
      s.quadOdd ch = false →
      (s.freqCh ch).type ≠ 0 →
      u = s.boundary (62 + 1000 * ch) 100000000 0 →
      u.supBad (s.freqCh ch).link = false →
      u.wiringKind ch (s.freqCh ch).link mv bias ≠ 0 →
      (s.freqCh ch).wiring = 0 →
      (s.freqCh ch).wireRun ≥ 1 →
      exec (.freqWiringCheck ch mv bias) s = .next (let x := ((u.modFreq ch (fun c => { c with wireRun := c.wireRun + 1 })).modFreq ch (fun c => { c with wiring := u.wiringKind ch (s.freqCh ch).link mv bias })).raiseEv 0x13 ch (freqSrc ch) 0x1030 3 ch (u.wiringKind ch (s.freqCh ch).link mv bias) mv 0; if x.isHost (hostKey 0x13 0 ch) then x else (x.freqSigs ch).foldl (fun (a : State) id => a.modFlags id faultFlags) x)) ∧
  (∀ (s : State) (r : Req) (p : List Byte),
      s.serves verbFreqConfig r = true →
      p = r.payload →
      ¬ (r.inst % 2 = 1 ∧ ((s.offered verbFreqConfig r).freqCh (r.inst - 1)).type = 2) →
      u8 p 0 = 1 →
      ((s.offered verbFreqConfig r).freqCh r.inst).type ≠ 2 →
      (if r.inst < 8 then u8 p 2 == 0 && decide (2 ≤ u8 p 3 ∧ u8 p 3 ≤ 50) else decide (u8 p 1 ≤ 2 ∧ u8 p 2 ≤ 1 ∧ u8 p 3 ≤ 1)) = true →
      1 ≤ u16 p 4 →
      u16 p 4 ≤ 100 →
      1 ≤ u16 p 6 →
      u16 p 6 ≤ 100 →
      fFinite (f32 p 8) = true →
      fEq (f32 p 8) fZero = false →
      fLe (fFrac 1 10) (f32 p 12) = true →
      fLe (f32 p 12) (fNat 50000) = true →
      u8 p 16 ≤ 2 →
      u8 p 17 ≤ 50 →
      u8 p 18 ≤ 5 ∨ u8 p 18 = 255 →
      exec (.freqConfig r) s = .next ((((((s.offered verbFreqConfig r).modSense (fun x => { x with freq := tset FreqCh.reset x.freq r.inst { FreqCh.reset with type := u8 p 0, edge := u8 p 1, hyst := u8 p 2, pull := u8 p 3, gateMs := u16 p 4, timeoutDs := u16 p 6, scale := f32 p 8, thr := f32 p 12, sense := u8 p 16, h := u8 p 17, link := u8 p 18, tLast := (s.offered verbFreqConfig r).hw, tRef := (s.offered verbFreqConfig r).hw, levelA := ((s.offered verbFreqConfig r).freqCh r.inst).levelA } })).clearFault 0x1030 0x13 r.inst).clearFault 0x1031 0x13 r.inst).dirty).replied s verbFreqConfig r stDone [])) ∧
  (∀ (s : State) (n cur ms : Nat),
      s.running 0x14 0 = true →
      n < 6 →
      (s.supCh n).on = true →
      (s.supCh n).limited = true →
      supLimit n ≤ cur →
      20 ≤ ms →
      exec (.supOverload n cur ms) s = .next (let u := s.waitTo ((s.supCh n).limSince + 20 * 1000000); (u.modSup n (fun c => { c with on := false, limited := false, fault := 1, suppress := true, retryAt := if c.retryS = 0 then none else some (u.hw + c.retryS * 1000000000) })).raiseEv 0x14 n 38 0x1040 4 n cur (s.supCh n).retryS 0)) ∧
  (∀ (s : State) (n cur : Nat),
      s.running 0x14 0 = true →
      n < 6 →
      (s.supCh n).on = true →
      (s.supCh n).limited = false →
      supLimit n ≤ cur →
      exec (.supOverload n cur 0) s = .next ((s.modSup n (fun c => { c with limited := true, limSince := s.hw, suppress := true })).supFaultLinked n |>.waitTo s.hw)) ∧
  (∀ (s : State) (n cur ms : Nat),
      s.running 0x14 0 = true →
      n < 6 →
      (s.supCh n).on = true →
      (s.supCh n).limited = true →
      cur < supLimit n →
      exec (.supOverload n cur ms) s = .next (s.modSup n (fun c => { c with limited := false, okAt := s.hw + 50000000 }))) ∧
  (∀ (s : State) (n mv : Nat),
      s.running 0x14 0 = true →
      n < 6 →
      (s.supCh n).fault ≠ 2 →
      supNominal n * 11 < mv * 10 →
      exec (.supBackfed n mv) s = .next (((s.modSup n (fun c => { c with on := false, limited := false, fault := 2, suppress := true, retryAt := none })).supFaultLinked n).raiseEv 0x14 n 38 0x1041 4 n mv 0 0)) ∧
  (∀ (s a : State) (n t0 : Nat),
      (s.supCh n).retryAt = some t0 →
      s.running 0x14 0 = true →
      a = s.waitTo t0 →
      exec (.supRetry n) s = .next (a.modSup n (fun c => { c with on := true, retryAt := none, okAt := a.hw + 50000000 }))) ∧
  (∀ (s : State) (n : Nat),
      s.running 0x14 0 = true →
      n < 6 →
      (s.supCh n).on = true →
      (s.supCh n).limited = false →
      (s.supCh n).suppress = true →
      exec (.supRegulationSettled n) s = .next ((((s.waitTo (s.supCh n).okAt).modSup n (fun c => { c with suppress := false, fault := 0 })).clearFault 0x1040 0x14 n).clearFault 0x1041 0x14 n)) ∧
  (∀ (s a : State) (r : Req) (en was : Bool),
      s.serves verbSupConfig r = true →
      u8 r.payload 0 ≤ 1 →
      u16 r.payload 2 ≤ 60 →
      en = (u8 r.payload 0 == 1) →
      was = (s.supCh r.inst).on →
      a = (((s.offered verbSupConfig r).modSup r.inst (fun c => { c with enable := en, on := en, retryS := u16 r.payload 2, retryAt := none, fault := 0, limited := c.limited && en && was, suppress := c.suppress || !en || !was, okAt := if was then c.okAt else (s.offered verbSupConfig r).hw + 50000000 })).clearFault 0x1040 0x14 r.inst).clearFault 0x1041 0x14 r.inst →
      exec (.supConfig r) s = .next ((if en && was then a else a.supFaultLinked r.inst).dirty.replied s verbSupConfig r stDone []))
/-- In the TEST state EXTEST, HIGHZ and CLAMP select their registers and drive as they say, elsewhere with the port on
they act as BYPASS; SAMPLE/PRELOAD captures and loads; IDCODE and the reset select the identification register; TESTKEY
tied in KEEPER or RUN brings JVREF and console input, untied ends them; the console takes a character. Rows: extest,
idcode, samplePreload, highz, clamp, bypass, testLogicReset, testkeyTied, testkeyUntied, consoleRx, keeperHbTick. Rules:
R389, R484, R485, R501, R502, R503. -/
def Obligations.TestPortRowsComplete : Prop :=
  (∀ (s : State) (cells pins : List (Nat × Bool)),
      s.portOn = true →
      s.power.state = .test →
      exec (.extest cells pins) s = .next (s.modJtag (fun j => { j with ir := 0, dr := 1, driving := true, highz := false, cells := putCells j.cells cells, captured := putCells [] pins }))) ∧
  (∀ (s : State) (cells pins : List (Nat × Bool)),
      s.portOn = true →
      s.power.state ≠ .test →
      exec (.extest cells pins) s = .next (s.asBypass 0)) ∧
  (∀ (s : State),
      s.portOn = true →
      exec (.idcode) s = .next (s.modJtag (fun j => { j with ir := 1, dr := 0, driving := false, highz := false, idReg := (j.siliconRev % 16) * 2 ^ 28 + typeCode s.variant * 4096 + (Config.bsdlManufacturer % 2048) * 2 + 1 }))) ∧
  (∀ (s : State) (cells pins : List (Nat × Bool)),
      s.portOn = true →
      exec (.samplePreload cells pins) s = .next (s.modJtag (fun j => { j with ir := 2, dr := 1, driving := false, highz := false, cells := putCells j.cells cells, captured := putCells [] pins }))) ∧
  (∀ (s : State),
      s.portOn = true →
      s.power.state = .test →
      exec (.highz) s = .next (s.modJtag (fun j => { j with ir := 8, dr := 2, driving := false, highz := true }))) ∧
  (∀ (s : State),
      s.portOn = true →
      s.power.state = .test →
      exec (.clamp) s = .next (s.modJtag (fun j => { j with ir := 9, dr := 2, driving := true, highz := false }))) ∧
  (∀ (s : State),
      s.portOn = true →
      exec (.bypass) s = .next (s.asBypass 0xFF)) ∧
  (∀ (s : State),
      s.portOn = true →
      exec (.testLogicReset) s = .next (s.modJtag (fun j => { j with ir := 1, dr := 0, driving := false, highz := false }))) ∧
  (∀ (s : State),
      exec (.testkeyTied) s = .next (s.modJtag (fun j => { j with testkey := true, jvref := j.jvref || s.operating, console := j.console || s.operating }))) ∧
  (∀ (s : State),
      exec (.testkeyUntied) s = .next (s.modJtag (fun j => { j with testkey := false, jvref := j.jvref && !s.operating, console := j.console && !s.operating }))) ∧
  (∀ (s : State) (ch : Byte),
      s.trunkOn = true →
      s.jtag.console = true →
      exec (.consoleRx ch) s = .next (s.modJtag (fun j => { j with consoleIn := j.consoleIn ++ [ch] }))) ∧
  (∀ (s : State),
      s.trunkOn = true →
      s.running 1 0 = true →
      s.keeper.paused = false →
      exec (.keeperHbTick) s = .next (({ s.waitTo (s.keeper.keeperHbAt + 1000000) with keeper.keeperHb := ((s.waitTo (s.keeper.keeperHbAt + 1000000)).keeper.keeperHb + 1) % 2 ^ 32, keeper.keeperHbAt := (s.waitTo (s.keeper.keeperHbAt + 1000000)).hw } : State).fanHeartbeat none))

/-- The timed rows of the valves: at the end of the minimum off time a request goes on, or is dropped with outcome 6 if
its deadline has passed; at a change of a bank's slots its queue is served; a deferral that runs out drops the request
with its fault and outcome 2; a rail that is ready within the boost wait starts the peak; a peak that reaches its
current ends in hold, and one that does not within its time raises VALVE/TRACKING; a duration and a bank's switch-off
delay end; currents and rails are taken each 1 ms; a host-assisted channel's period begins. Rows: valveMinoffEnd,
valveSlotGrant, valveDeferExpiry, valveBoostWaitEnd, valvePeakEnd, valveDurationEnd, valveBankHsOff, valveCurrentUpdate,
valveHostPeriod. Rules: R156, R159, R160, R161, R162, R163, R164, R166, R171. -/
def Obligations.ValveTimedRowsComplete : Prop :=
  (∀ (s : State) (ch : Nat) (q : ValveReq),
      (s.valve' ch).req = some q →
      s.valveRuns ch = true →
      (s.valve' ch).state = 3 →
      (s.waitTo q.t1).reqLate ch = false →
      exec (.valveMinoffEnd ch) s = .next ((s.waitTo q.t1).valveEnter ch)) ∧
  (∀ (s : State) (ch : Nat) (q : ValveReq),
      (s.valve' ch).req = some q →
      s.valveRuns ch = true →
      (s.valve' ch).state = 3 →
      (s.waitTo q.t1).reqLate ch = true →
      exec (.valveMinoffEnd ch) s = .next ((s.waitTo q.t1).dropReq ch 6)) ∧
  (∀ (s : State) (b mv : Nat),
      s.running 0x21 0 = true →
      b < 6 →
      exec (.valveSlotGrant b mv) s = .next ((s.railIs (b / 3) mv).valveAdvance b)) ∧
  (∀ (s u a : State) (ch : Nat) (q : ValveReq),
      (s.valve' ch).req = some q →
      s.valveRuns ch = true →
      (s.valve' ch).state = 4 →
      u = (if s.hw ≤ q.deferEnd then (s.takeSlots (ch / 4)).1 else s) →
      (u.valve' ch).state = 4 →
      a = u.waitTo q.deferEnd →
      a.reqLate ch = false →
      a.bankCut (ch / 4) = 0 →
      exec (.valveDeferExpiry ch) s = .next ((a.raiseEv 0x21 ch (112 + ch / 4) 0x3002 1 ch ((a.bank (ch / 4)).peakHolder.getD 0xFF) (a.bank (ch / 4)).holds.length (a.bank (ch / 4)).deferUs).dropReq ch 2)) ∧
  (∀ (s u a : State) (ch mv : Nat) (q : ValveReq),
      (s.valve' ch).req = some q →
      s.valveRuns ch = true →
      (s.valve' ch).state = 5 →
      u = s.railIs (ch / 12) mv →
      u.reqLate ch = false →
      (u.boost (ch / 12)).ready = true →
      u.hw ≤ q.boostEnd →
      a = u.waitTo (u.bank (ch / 4)).hsReady →
      a.reqLate ch = false →
      exec (.valveBoostWaitEnd ch mv) s = .next ((a.clearFault 0x3003 0x21 ch).peakStart ch false 0)) ∧
  (∀ (s : State) (ch cur : Nat),
      s.valveRuns ch = true →
      (s.valve' ch).state = 6 →
      (fRound (s.valve' ch).peakA 1000).toNat ≤ cur →
      s.hw ≤ (s.valve' ch).peakEnd →
      exec (.valvePeakEnd ch cur) s = .next (((s.modValve ch (fun c => { c with state := 7, fromBat := false })).modBank (ch / 4) (fun k => { k with peakHolder := if k.peakHolder = some ch then none else k.peakHolder })).bankHs (ch / 4))) ∧
  (∀ (s u : State) (ch cur : Nat),
      s.valveRuns ch = true →
      (s.valve' ch).state = 6 →
      cur < (fRound (s.valve' ch).peakA 1000).toNat ∨ (s.valve' ch).peakEnd < s.hw →
      u = s.waitTo (s.valve' ch).peakEnd →
      exec (.valvePeakEnd ch cur) s = .next (((((u.modValve ch (fun c => { c with state := 7, fromBat := false })).modBank (ch / 4) (fun k => { k with peakHolder := if k.peakHolder = some ch then none else k.peakHolder })).modValve ch (fun c => { c with tracking := true, trackOk := some u.hw })).raiseEv 0x21 ch (112 + ch / 4) 0x3008 3 ch cur (fRound (s.valve' ch).peakA 1000).toNat 3).bankHs (ch / 4))) ∧
  (∀ (s : State) (ch t0 : Nat),
      (s.valve' ch).endAt = some t0 →
      s.valveRuns ch = true →
      exec (.valveDurationEnd ch) s = .next ((s.waitTo t0).valveOff ch)) ∧
  (∀ (s : State) (b t0 : Nat),
      (s.bank b).hsOffAt = some t0 →
      s.running 0x21 0 = true →
      exec (.valveBankHsOff b) s = .next ((s.waitTo t0).modBank b (fun k => { k with hsOn := false, hsOffAt := none }))) ∧
  (∀ (s : State) (currents banks : List (Nat × F32)) (rails : List (Nat × Nat)),
      s.running 0x21 0 = true →
      exec (.valveCurrentUpdate currents banks rails) s = .next ((List.range 24).foldl (fun (s : State) n => let v := s.valveMean currents n; let u := s.modValve n (fun c => { c with current := v }); if u.isHost (hostKey 0x21 0 n) then u else (u.modValve n (fun c => c.track (u.valveApplied n) u.hw)).valveSignal n v) (rails.foldl (fun (s : State) e => if e.1 < 2 then s.railIs e.1 e.2 else s) (banks.foldl (fun (s : State) e => if e.1 < 6 then s.modBank e.1 (fun k => { k with current := e.2 }) else s) (s.boundary 97 1000000 0))))) ∧
  (∀ (s : State) (ch : Nat) (cur : F32),
      s.valveRuns ch = true →
      s.isHost (hostKey 0x21 0 ch) = true →
      ((s.boundary (104 + 1000 * ch) 1000000 0).hostFn (hostKey 0x21 0 ch)).got = true →
      exec (.valveHostPeriod ch cur) s = .next (let u := (((s.boundary (104 + 1000 * ch) 1000000 0).modValve ch (fun c => { c with current := cur })).valveSignal ch cur); (u.hostPeriod (hostKey 0x21 0 ch) u.hw 800000 1000000).modHost (hostKey 0x21 0 ch) (fun h => { h with k := u.hw / 1000000 % 2 ^ 32 })))

/-- The monitor rows of the valves: a converter not at 44 V within 20 ms of its enable, or above 54 V, latches with
VALVE/BOOST_FAULT; the open-load condition raises VALVE/OPEN_LOAD and its absence clears it; a deviation that lasts the
channel's tracking time raises VALVE/TRACKING and its end clears it; a short to battery latches the channel; a short to
ground and a bank short latch the bank, turn its high side off and withdraw its requests. Rows: valveBoostFault,
valveOpenLoad, valveTracking, valveShortBat, valveShortGnd, valveBankShort. Rules: R162, R168. -/
def Obligations.ValveMonitorRowsComplete : Prop :=
  (∀ (s u : State) (c kind mv : Nat),
      s.running 0x21 0 = true →
      c < 2 →
      (s.boost c).enabled = true →
      (s.boost c).latched = 0 →
      (kind = 1 ∧ mv < 44000 ∧ (s.boost c).charged = false) ∨ (kind = 2 ∧ mv > 54000) →
      u = (if kind = 1 then s.waitTo ((s.boost c).enabledAt + 20000000) else s) →
      exec (.valveBoostFault c kind mv) s = .next ((u.modBoost c (fun x => { x with latched := kind, railMv := mv })).raiseEv 0x21 (0x200 + c) (118 + c) 0x3009 4 (0x200 + c) mv kind 0)) ∧
  (∀ (s : State) (ch cur mv duty : Nat),
      s.valveRuns ch = true →
      (s.valve' ch).mode ≠ 0 →
      (s.valve' ch).openLoad = false →
      s.valveDriven ch = true ∧ cur < 50 ∧ 90 ≤ duty ∨ s.valveDriven ch = false ∧ (s.bank (ch / 4)).hsOn = true ∧ mv < 2000 ∧ (fRound (s.bank (ch / 4)).current 1000 - s.bankSum (ch / 4)).natAbs ≤ 200 →
      exec (.valveOpenLoad ch cur mv duty) s = .next (((s.modValve ch (fun c => { c with openLoad := true })).modFlags (0xD0 + ch) (fun f => clearBits f fgValid ||| fgFault)).raiseEv 0x21 ch (112 + ch / 4) 0x3004 2 ch cur mv 0)) ∧
  (∀ (s : State) (ch cur mv duty : Nat),
      s.valveRuns ch = true →
      (s.valve' ch).openLoad = true →
      (s.valve' ch).mode = 0 ∨ s.valveDriven ch = true ∧ ¬ (cur < 50 ∧ 90 ≤ duty) ∨ s.valveDriven ch = false ∧ ((s.bank (ch / 4)).hsOn = false ∨ 2000 ≤ mv ∨ 200 < (fRound (s.bank (ch / 4)).current 1000 - s.bankSum (ch / 4)).natAbs) →
      exec (.valveOpenLoad ch cur mv duty) s = .next ((s.modValve ch (fun c => { c with openLoad := false })).clearFault 0x3004 0x21 ch)) ∧
  (∀ (s : State) (ch t0 : Nat),
      s.valveRuns ch = true →
      (s.valve' ch).mode = 1 →
      (s.valve' ch).tracking = false →
      (s.valve' ch).trackBad = some t0 →
      exec (.valveTracking ch) s = .next (((s.waitTo (t0 + (s.valve' ch).trackMs * 1000000)).modValve ch (fun c => { c with tracking := true })).raiseEv 0x21 ch (112 + ch / 4) 0x3008 3 ch (fRound (s.valve' ch).current 1000).toNat ((s.valve' ch).meanSet (s.valveApplied ch)) 1)) ∧
  (∀ (s : State) (ch t0 : Nat),
      s.valveRuns ch = true →
      (s.valve' ch).mode = 1 →
      (s.valve' ch).tracking = true →
      (s.valve' ch).trackOk = some t0 →
      exec (.valveTracking ch) s = .next (((s.waitTo (t0 + (s.valve' ch).trackMs * 1000000)).modValve ch (fun c => { c with tracking := false })).clearFault 0x3008 0x21 ch)) ∧
  (∀ (s : State) (ch cur : Nat),
      s.valveRuns ch = true →
      (s.valve' ch).mode ≠ 0 →
      (s.valve' ch).latched = false →
      (s.valve' ch).tripMa < cur →
      (s.valve' ch).req = none →
      (s.valve' ch).state = 7 →
      exec (.valveShortBat ch cur) s = .next ((((s.modValve ch (fun c => { c with latched := true })).valveOff ch).raiseEv 0x21 ch (112 + ch / 4) 0x3005 4 ch cur 0 0).valveSignal ch fZero)) ∧
  (∀ (s : State) (ch mv cur : Nat) (excess : Int),
      s.valveRuns ch = true →
      (s.valve' ch).mode ≠ 0 →
      (s.bank (ch / 4)).latched = 0 →
      (s.bank (ch / 4)).hsOn = true →
      s.valveDriven ch = false →
      mv < 2000 →
      excess = (cur : Int) - s.bankSum (ch / 4) →
      200 < excess →
      exec (.valveShortGnd ch mv cur) s = .next ((s.bankLatch (ch / 4) 1).raiseEv 0x21 (0x100 + ch / 4) (112 + ch / 4) 0x3006 5 (0x100 + ch / 4) excess.toNat 0 0)) ∧
  (∀ (s : State) (b cur mv : Nat),
      s.running 0x21 0 = true →
      b < 6 →
      (s.bank b).latched = 0 →
      (s.bank b).hsOn = true →
      cur > 30000 →
      exec (.valveBankShort b cur mv) s = .next ((s.bankLatch b 2).raiseEv 0x21 (0x100 + b) (112 + b) 0x3007 5 (0x100 + b) cur mv 0))

/-- STATUS answers the channel's, bank's or converter's fields; CONFIG of an idle channel, a bank or a converter stores
the settings; SET of a proportional channel stores the set-point, and of an on/off channel takes the request; CLEAR
removes a latched fault; DUTY in time takes the host's duty. Rows: valveStatus, valveConfig, valveSet, valveClear,
valveDuty. Rules: R158, R159, R160, R162, R163, R164, R169, R170, R171. -/
def Obligations.ValveVerbsComplete : Prop :=
  (∀ (s : State) (r : Req),
      s.serves verbValveStatus r = true →
      r.inst < 24 →
      exec (.valveStatus r) s = .next (((s.offered verbValveStatus r)).replied s verbValveStatus r stDone (b8 (if (s.valve' r.inst).mode = 1 then b2n (fLt fZero ((s.offered verbValveStatus r).valveApplied r.inst)) else (s.valve' r.inst).state) ++ b8 (b2n (s.valve' r.inst).openLoad + 2 * b2n (s.valve' r.inst).latched + 4 * b2n ((s.bank (r.inst / 4)).latched == 1) + 8 * b2n (s.valve' r.inst).tracking) ++ zeros 2 ++ bF ((s.offered verbValveStatus r).valveApplied r.inst) ++ bF (s.valve' r.inst).current ++ b32 (s.valve' r.inst).events))) ∧
  (∀ (s a : State) (r : Req) (p : List Byte),
      s.serves verbValveConfig r = true →
      p = r.payload →
      r.inst < 24 →
      u8 p 0 = (s.valve' r.inst).mode ∨ (s.offered verbValveConfig r).loopBinds 1 r.inst = false →
      (s.valve' r.inst).req = none →
      (s.valve' r.inst).state < 2 →
      valveCfgOk p = true →
      a = (s.offered verbValveConfig r).modValve r.inst (fun c => { c with mode := u8 p 0, policy := u8 p 1, fallback := u8 p 0 == 3 && bit (u8 p 2) 0, peakA := f32 p 4, holdA := f32 p 8, peakUs := u16 p 12, minOffUs := if u16 p 14 = 0 then 500 else u16 p 14, ditherHz := u16 p 16, ditherMa := u16 p 18, trackMs := if u8 p 0 = 1 ∨ u8 p 0 = 3 then u16 p 20 else c.trackMs, trackBad := none, trackOk := if u8 p 0 = c.mode then c.trackOk else some s.hw, mailbox := if u8 p 0 = c.mode then c.mailbox else fZero }) →
      exec (.valveConfig r) s = .next ((((if u8 p 0 = 1 then a else a.valveToHw r.inst).bankHs (r.inst / 4)).dirty).replied s verbValveConfig r stDone [])) ∧
  (∀ (s : State) (r : Req),
      s.serves verbValveConfig r = true →
      isBankInst r.inst = true →
      u16 r.payload 0 ≤ 2000 →
      exec (.valveConfig r) s = .next ((((s.offered verbValveConfig r).modBank (r.inst - 0x100) (fun k => { k with deferUs := u16 r.payload 0 })).dirty).replied s verbValveConfig r stDone [])) ∧
  (∀ (s : State) (r : Req),
      s.serves verbValveConfig r = true →
      isBoostInst r.inst = true →
      isBankInst r.inst = false →
      u8 r.payload 0 ≤ 1 →
      exec (.valveConfig r) s = .next ((((s.offered verbValveConfig r).modBoost (r.inst - 0x200) (fun x => { x with enabled := u8 r.payload 0 == 1, enabledAt := if x.enabled then x.enabledAt else s.hw, charged := x.charged && x.enabled })).dirty).replied s verbValveConfig r stDone [])) ∧
  (∀ (s : State) (r : Req),
      s.serves verbValveSet r = true →
      (s.valve' r.inst).mode = 1 →
      fLe fZero (f32 r.payload 0) = true →
      fLe (f32 r.payload 0) (fNat 3) = true →
      u32 r.payload 4 = 0 →
      exec (.valveSet r) s = .next ((((s.offered verbValveSet r).modValve r.inst (fun c => { c with mailbox := f32 r.payload 0 })).bankHs (r.inst / 4)).replied s verbValveSet r stDone [])) ∧
  (∀ (s : State) (r : Req),
      s.serves verbValveSet r = true →
      (s.valve' r.inst).mode ≠ 1 →
      (s.valve' r.inst).mode ≠ 0 →
      fEq (f32 r.payload 0) fZero = false →
      fEq (f32 r.payload 0) fOne = true →
      u32 r.payload 4 = 0 →
      (s.valve' r.inst).req = none →
      (s.valve' r.inst).state < 2 →
      (s.valve' r.inst).latched = false →
      (s.bank (r.inst / 4)).latched = 0 →
      (s.valve' r.inst).tOff = none →
      exec (.valveSet r) s = .next ((((s.offered verbValveSet r).modValve r.inst (fun c => { c with req := some { op := { win := r.win, tag := r.tag }, t0 := s.hw, t1 := s.hw, deadline := r.deadline, durUs := 0, deferEnd := 0, boostEnd := 0 }, state := 3 })).valveEnter r.inst).replied s verbValveSet r stAccepted [])) ∧
  (∀ (s : State) (r : Req),
      s.serves verbValveClear r = true →
      isBankInst r.inst = false →
      isBoostInst r.inst = false →
      (s.valve' r.inst).latched = true →
      exec (.valveClear r) s = .next (((((s.offered verbValveClear r).modValve r.inst (fun c => ({ c with latched := false } : ValveCh).cleared)).clearFault 0x3005 0x21 r.inst).bankHs (r.inst / 4)).replied s verbValveClear r stDone [])) ∧
  (∀ (s : State) (r : Req) (q : State × Bool),
      s.serves verbValveDuty r = true →
      (s.hostFn (hostKey 0x21 0 r.inst)).host = true →
      (s.hostFn (hostKey 0x21 0 r.inst)).owner = r.win →
      fLe fZero (f32 r.payload 4) = true →
      fLe (f32 r.payload 4) fOne = true →
      u32 r.payload 0 ≤ (s.hostFn (hostKey 0x21 0 r.inst)).k →
      (s.offered verbValveDuty r).hostInTime (hostKey 0x21 0 r.inst) (u32 r.payload 0) = true →
      q = (s.offered verbValveDuty r).hostResult (hostKey 0x21 0 r.inst) →
      q.2 = true →
      exec (.valveDuty r) s = .next (((q.1.modValve r.inst (fun c => { c with duty := c.dutyAt q.1.hw, dutyNext := some (f32 r.payload 4, nextBoundary q.1.hw 62500 0) })).bankHs (r.inst / 4)).replied s verbValveDuty r stDone []))

/-- In a live window: bytes written to the command ring stand there; a CMD_PROD write that is no index error is taken;
RPL_CONS and EVT_CONS move to the written value; IRQ_STATUS clears W1C, but not a reply or loss of the same cycle, and
EVT only with its condition ended; a changed HOST_HB is stamped; HW_HI and the snapshot take Heartwood; at 1 ms of age
EVT is set. Rows: registerWrite, cmdProdWrite, rplConsWrite, evtConsWrite, irqStatusW1c, hostHbWrite, hwLoRead,
snapReqWrite, evtAgeTimeout. Rules: R14, R43, R49, R50, R54, R56, R57, R69, R81, R82. -/
def Obligations.WindowRegisterRowsComplete : Prop :=
  (∀ (s : State) (w ofs width value : Nat),
      s.live w = true →
      width = 8 ∨ width = 16 ∨ width = 32 ∨ width = 64 →
      ofs % (width / 8) = 0 →
      0x1000 ≤ ofs →
      ofs < 0x3000 →
      exec (.registerWrite w ofs width value) s = .next (s.modWin w (fun x => { x with cmdRing := twrite x.cmdRing ofs (leB (width / 8) value) }))) ∧
  (∀ (s : State) (w value : Nat) (st : List Store),
      s.live w = true →
      (value % 65536 + 65536 - ((s.stores w st).win w).cmdCons) % 65536 ≤ 64 →
      exec (.cmdProdWrite w value st) s = .next (((s.stores w st).modWin w (fun x => { x with cmdProd := value % 65536 })).keeperTurn)) ∧
  (∀ (s : State) (w value : Nat),
      s.live w = true →
      (value % 65536 + 65536 - (s.win w).rplCons) % 65536 ≤ ((s.win w).rplProd + 65536 - (s.win w).rplCons) % 65536 →
      exec (.rplConsWrite w value) s = .next ((s.modWin w (fun x => { x with rplCons := value % 65536 })).keeperTurn)) ∧
  (∀ (s : State) (w value : Nat),
      s.live w = true →
      (value % 65536 + 65536 - (s.win w).evtCons) % 65536 ≤ (s.win w).unread →
      exec (.evtConsWrite w value) s = .next ((s.modWin w (fun x => { x with evtCons := value % 65536 })).eventsLost w)) ∧
  (∀ (s : State) (w value : Nat),
      s.live w = true →
      exec (.irqStatusW1c w value) s = .next (s.modWin w (fun x => { x with irqLost := x.irqLost && (!bit value 2 || x.lostAt == s.hw + 1), irqRpl := x.irqRpl && (!bit value 1 || x.rplAt == s.hw + 1), irqEvt := (x.irqEvt && !bit value 0) || x.evtCond s.hw }))) ∧
  (∀ (s : State) (w value : Nat),
      s.live w = true →
      (s.win w).hostHb ≠ value % 2 ^ 32 →
      exec (.hostHbWrite w value) s = .next ((s.modWin w (fun x => { x with hostHb := value % 2 ^ 32, hostHbAt := s.hw })).fanHeartbeat (some w))) ∧
  (∀ (s : State) (w : Nat),
      s.live w = true →
      exec (.hwLoRead w) s = .next (s.modWin w (fun x => { x with hwHi := s.hw / 2 ^ 32 % 2 ^ 32 }))) ∧
  (∀ (s : State) (w value : Nat),
      s.live w = true →
      exec (.snapReqWrite w value) s = .next (s.modWin w (fun x => { x with snapLo := s.hw % 2 ^ 32, snapHi := s.hw / 2 ^ 32 % 2 ^ 32 }))) ∧
  (∀ (s : State) (w : Nat) (e : Event),
      s.live w = true →
      (s.win w).oldest = some e →
      exec (.evtAgeTimeout w) s = .next ((s.waitTo (e.stamp + 1000000)).modWin w (fun x => { x with irqEvt := true })))
end

