-- ==== Sys2Proof/Laws/Frame.lean ====
section
/-! SUPPORT. Laws/Frame.lean: what each operation of the machine leaves alone: the pieces outside a mask. -/

set_option linter.all false

namespace Sys2Proof.Machine

theorem lift {M H : Nat} (h : H &&& M = M) {s t : State} (e : t.without M = s.without M) : t.without H = s.without H := by
  have k (i : Nat) (hm : M.testBit i = true) : H.testBit i = true := by
    have := congrArg (·.testBit i) h
    simp only [Nat.testBit_and, hm, Bool.and_true] at this
    exact this
  have g (u : State) : u.without H = (u.without M).without H := by
    simp only [State.without]
    congr 1 <;> (split <;> first | rfl | (split <;> first | rfl | (rename_i a b; exact absurd (k _ b) a)))
  rw [g t, g s, e]

theorem lift' {H M m : Nat} (h : H &&& M = M) (k : M &&& m = m) : H &&& m = m := by
  rw [← k, ← Nat.and_assoc, h]

theorem bitOf {m i : Nat} (h : m &&& 2 ^ i = 2 ^ i) : m.testBit i = true := by
  have := congrArg (·.testBit i) h
  simpa only [Nat.testBit_and, Nat.testBit_two_pow_self, Bool.and_true] using this

theorem without_ite {c : Prop} [Decidable c] {m : Nat} {a b x : State} (h1 : a.without m = x) (h2 : b.without m = x) :
    (if c then a else b).without m = x := by
  split
  · exact h1
  · exact h2

theorem without_ite_fst {β : Type} {c : Prop} [Decidable c] {m : Nat} {a b : State × β} {x : State} (h1 : a.1.without m = x)
    (h2 : b.1.without m = x) : (if c then a else b).1.without m = x := by
  split
  · exact h1
  · exact h2

theorem foldl_frame {α : Type} {m : Nat} (f : State → α → State) (h : ∀ a x, (f a x).without m = a.without m) (l : List α) (s : State) :
    (l.foldl f s).without m = s.without m := by
  induction l generalizing s with
  | nil => rfl
  | cons x l ih => rw [List.foldl_cons, ih, h]

theorem foldl_fst_frame {α β : Type} {m : Nat} (f : State × β → α → State × β)
    (h : ∀ a x, (f a x).1.without m = a.1.without m) (l : List α) (s : State × β) :
    (l.foldl f s).1.without m = s.1.without m := by
  induction l generalizing s with
  | nil => rfl
  | cons x l ih => rw [List.foldl_cons, ih, h]

/-- The verb changes only the pieces of a mask. -/
def Verb.Keeps (H : Nat) (v : Verb) : Prop := ∀ r s, (v.body r s).1.without H = s.without H

@[simp ↓] theorem without_keeper (s : State) (v) {m : Nat} (h : m &&& 2 = 2) :
    ({ s with keeper := v } : State).without m = s.without m := by
  have k : m.testBit 1 = true := bitOf h
  simp only [State.without, k, ↓reduceIte]
@[simp ↓] theorem without_time (s : State) (v) {m : Nat} (h : m &&& 4 = 4) :
    ({ s with time := v } : State).without m = s.without m := by
  have k : m.testBit 2 = true := bitOf h
  simp only [State.without, k, ↓reduceIte]
@[simp ↓] theorem without_faults (s : State) (v) {m : Nat} (h : m &&& 8 = 8) :
    ({ s with faults := v } : State).without m = s.without m := by
  have k : m.testBit 3 = true := bitOf h
  simp only [State.without, k, ↓reduceIte]
@[simp ↓] theorem without_signals (s : State) (v) {m : Nat} (h : m &&& 16 = 16) :
    ({ s with signals := v } : State).without m = s.without m := by
  have k : m.testBit 4 = true := bitOf h
  simp only [State.without, k, ↓reduceIte]
@[simp ↓] theorem without_sensing (s : State) (v) {m : Nat} (h : m &&& 32 = 32) :
    ({ s with sensing := v } : State).without m = s.without m := by
  have k : m.testBit 5 = true := bitOf h
  simp only [State.without, k, ↓reduceIte]
@[simp ↓] theorem without_ctrl (s : State) (v) {m : Nat} (h : m &&& 64 = 64) :
    ({ s with ctrl := v } : State).without m = s.without m := by
  have k : m.testBit 6 = true := bitOf h
  simp only [State.without, k, ↓reduceIte]
@[simp ↓] theorem without_valve (s : State) (v) {m : Nat} (h : m &&& 128 = 128) :
    ({ s with valve := v } : State).without m = s.without m := by
  have k : m.testBit 7 = true := bitOf h
  simp only [State.without, k, ↓reduceIte]
@[simp ↓] theorem without_gnss (s : State) (v) {m : Nat} (h : m &&& 256 = 256) :
    ({ s with gnss := v } : State).without m = s.without m := by
  have k : m.testBit 8 = true := bitOf h
  simp only [State.without, k, ↓reduceIte]
@[simp ↓] theorem without_imu (s : State) (v) {m : Nat} (h : m &&& 512 = 512) :
    ({ s with imu := v } : State).without m = s.without m := by
  have k : m.testBit 9 = true := bitOf h
  simp only [State.without, k, ↓reduceIte]
@[simp ↓] theorem without_cam (s : State) (v) {m : Nat} (h : m &&& 1024 = 1024) :
    ({ s with cam := v } : State).without m = s.without m := by
  have k : m.testBit 10 = true := bitOf h
  simp only [State.without, k, ↓reduceIte]
@[simp ↓] theorem without_crown (s : State) (v) {m : Nat} (h : m &&& 2048 = 2048) :
    ({ s with crown := v } : State).without m = s.without m := by
  have k : m.testBit 11 = true := bitOf h
  simp only [State.without, k, ↓reduceIte]
@[simp ↓] theorem without_granary (s : State) (v) {m : Nat} (h : m &&& 4096 = 4096) :
    ({ s with granary := v } : State).without m = s.without m := by
  have k : m.testBit 12 = true := bitOf h
  simp only [State.without, k, ↓reduceIte]
@[simp ↓] theorem without_outs (s : State) (v) {m : Nat} (h : m &&& 8192 = 8192) :
    ({ s with outs := v } : State).without m = s.without m := by
  have k : m.testBit 13 = true := bitOf h
  simp only [State.without, k, ↓reduceIte]
@[simp ↓] theorem without_swin (s : State) (v) {m : Nat} (h : m &&& 16384 = 16384) :
    ({ s with swin := v } : State).without m = s.without m := by
  have k : m.testBit 14 = true := bitOf h
  simp only [State.without, k, ↓reduceIte]
@[simp ↓] theorem without_body (s : State) (v) {m : Nat} (h : m &&& 32768 = 32768) :
    ({ s with body := v } : State).without m = s.without m := by
  have k : m.testBit 15 = true := bitOf h
  simp only [State.without, k, ↓reduceIte]
@[simp ↓] theorem without_fans (s : State) (v) {m : Nat} (h : m &&& 65536 = 65536) :
    ({ s with fans := v } : State).without m = s.without m := by
  have k : m.testBit 16 = true := bitOf h
  simp only [State.without, k, ↓reduceIte]
@[simp ↓] theorem without_plate (s : State) (v) {m : Nat} (h : m &&& 131072 = 131072) :
    ({ s with plate := v } : State).without m = s.without m := by
  have k : m.testBit 17 = true := bitOf h
  simp only [State.without, k, ↓reduceIte]
@[simp ↓] theorem without_can (s : State) (v) {m : Nat} (h : m &&& 262144 = 262144) :
    ({ s with can := v } : State).without m = s.without m := by
  have k : m.testBit 18 = true := bitOf h
  simp only [State.without, k, ↓reduceIte]
@[simp ↓] theorem without_eth (s : State) (v) {m : Nat} (h : m &&& 524288 = 524288) :
    ({ s with eth := v } : State).without m = s.without m := by
  have k : m.testBit 19 = true := bitOf h
  simp only [State.without, k, ↓reduceIte]
@[simp ↓] theorem without_nm (s : State) (v) {m : Nat} (h : m &&& 1048576 = 1048576) :
    ({ s with nm := v } : State).without m = s.without m := by
  have k : m.testBit 20 = true := bitOf h
  simp only [State.without, k, ↓reduceIte]
@[simp ↓] theorem without_root (s : State) (v) {m : Nat} (h : m &&& 2097152 = 2097152) :
    ({ s with root := v } : State).without m = s.without m := by
  have k : m.testBit 21 = true := bitOf h
  simp only [State.without, k, ↓reduceIte]
@[simp ↓] theorem without_graft (s : State) (v) {m : Nat} (h : m &&& 4194304 = 4194304) :
    ({ s with graft := v } : State).without m = s.without m := by
  have k : m.testBit 22 = true := bitOf h
  simp only [State.without, k, ↓reduceIte]
@[simp ↓] theorem without_attic (s : State) (v) {m : Nat} (h : m &&& 8388608 = 8388608) :
    ({ s with attic := v } : State).without m = s.without m := by
  have k : m.testBit 23 = true := bitOf h
  simp only [State.without, k, ↓reduceIte]
@[simp ↓] theorem without_larder (s : State) (v) {m : Nat} (h : m &&& 16777216 = 16777216) :
    ({ s with larder := v } : State).without m = s.without m := by
  have k : m.testBit 24 = true := bitOf h
  simp only [State.without, k, ↓reduceIte]
@[simp ↓] theorem without_power (s : State) (v) {m : Nat} (h : m &&& 33554432 = 33554432) :
    ({ s with power := v } : State).without m = s.without m := by
  have k : m.testBit 25 = true := bitOf h
  simp only [State.without, k, ↓reduceIte]
@[simp ↓] theorem without_thermal (s : State) (v) {m : Nat} (h : m &&& 67108864 = 67108864) :
    ({ s with thermal := v } : State).without m = s.without m := by
  have k : m.testBit 26 = true := bitOf h
  simp only [State.without, k, ↓reduceIte]
@[simp ↓] theorem without_jtag (s : State) (v) {m : Nat} (h : m &&& 134217728 = 134217728) :
    ({ s with jtag := v } : State).without m = s.without m := by
  have k : m.testBit 27 = true := bitOf h
  simp only [State.without, k, ↓reduceIte]
@[simp ↓] theorem without_kept (s : State) (v) {m : Nat} (h : m &&& 268435456 = 268435456) :
    ({ s with kept := v } : State).without m = s.without m := by
  have k : m.testBit 28 = true := bitOf h
  simp only [State.without, k, ↓reduceIte]
@[simp ↓] theorem without_keptDirty (s : State) (v) {m : Nat} (h : m &&& 536870912 = 536870912) :
    ({ s with keptDirty := v } : State).without m = s.without m := by
  have k : m.testBit 29 = true := bitOf h
  simp only [State.without, k, ↓reduceIte]
@[simp ↓] theorem without_keptAt (s : State) (v) {m : Nat} (h : m &&& 1073741824 = 1073741824) :
    ({ s with keptAt := v } : State).without m = s.without m := by
  have k : m.testBit 30 = true := bitOf h
  simp only [State.without, k, ↓reduceIte]
@[simp ↓] theorem without_free (s : State) (v) {m : Nat} (h : m &&& 2147483648 = 2147483648) :
    ({ s with free := v } : State).without m = s.without m := by
  have k : m.testBit 31 = true := bitOf h
  simp only [State.without, k, ↓reduceIte]
@[simp ↓] theorem without_pending (s : State) (v) {m : Nat} (h : m &&& 4294967296 = 4294967296) :
    ({ s with pending := v } : State).without m = s.without m := by
  have k : m.testBit 32 = true := bitOf h
  simp only [State.without, k, ↓reduceIte]
@[simp ↓] theorem without_m260 (s : State) (v_time) (v_gnss) {m : Nat} (h : m &&& 260 = 260) :
    ({ s with time := v_time, gnss := v_gnss } : State).without m = s.without m := by
  have g (i : Nat) (k : (260 : Nat).testBit i = true) : m.testBit i = true := by
    have := congrArg (·.testBit i) h
    simp only [Nat.testBit_and, k, Bool.and_true] at this
    exact this
  simp only [State.without, g 2 rfl, g 8 rfl, ↓reduceIte]
@[simp ↓] theorem without_m8320 (s : State) (v_valve) (v_outs) {m : Nat} (h : m &&& 8320 = 8320) :
    ({ s with valve := v_valve, outs := v_outs } : State).without m = s.without m := by
  have g (i : Nat) (k : (8320 : Nat).testBit i = true) : m.testBit i = true := by
    have := congrArg (·.testBit i) h
    simp only [Nat.testBit_and, k, Bool.and_true] at this
    exact this
  simp only [State.without, g 7 rfl, g 13 rfl, ↓reduceIte]
@[simp ↓] theorem without_m2097160 (s : State) (v_faults) (v_root) {m : Nat} (h : m &&& 2097160 = 2097160) :
    ({ s with faults := v_faults, root := v_root } : State).without m = s.without m := by
  have g (i : Nat) (k : (2097160 : Nat).testBit i = true) : m.testBit i = true := by
    have := congrArg (·.testBit i) h
    simp only [Nat.testBit_and, k, Bool.and_true] at this
    exact this
  simp only [State.without, g 3 rfl, g 21 rfl, ↓reduceIte]
@[simp ↓] theorem without_m25429088 (s : State) (v_sensing) (v_ctrl) (v_cam) (v_can) (v_attic) (v_larder) {m : Nat} (h : m &&& 25429088 = 25429088) :
    ({ s with sensing := v_sensing, ctrl := v_ctrl, cam := v_cam, can := v_can, attic := v_attic, larder := v_larder } : State).without m = s.without m := by
  have g (i : Nat) (k : (25429088 : Nat).testBit i = true) : m.testBit i = true := by
    have := congrArg (·.testBit i) h
    simp only [Nat.testBit_and, k, Bool.and_true] at this
    exact this
  simp only [State.without, g 5 rfl, g 6 rfl, g 10 rfl, g 18 rfl, g 23 rfl, g 24 rfl, ↓reduceIte]
@[simp ↓] theorem without_m33554436 (s : State) (v_time) (v_power) {m : Nat} (h : m &&& 33554436 = 33554436) :
    ({ s with time := v_time, power := v_power } : State).without m = s.without m := by
  have g (i : Nat) (k : (33554436 : Nat).testBit i = true) : m.testBit i = true := by
    have := congrArg (·.testBit i) h
    simp only [Nat.testBit_and, k, Bool.and_true] at this
    exact this
  simp only [State.without, g 2 rfl, g 25 rfl, ↓reduceIte]
@[simp ↓] theorem without_m34603008 (s : State) (v_nm) (v_power) {m : Nat} (h : m &&& 34603008 = 34603008) :
    ({ s with nm := v_nm, power := v_power } : State).without m = s.without m := by
  have g (i : Nat) (k : (34603008 : Nat).testBit i = true) : m.testBit i = true := by
    have := congrArg (·.testBit i) h
    simp only [Nat.testBit_and, k, Bool.and_true] at this
    exact this
  simp only [State.without, g 20 rfl, g 25 rfl, ↓reduceIte]
@[simp ↓] theorem without_m35577700 (s : State) (v_time) (v_sensing) (v_ctrl) (v_gnss) (v_imu) (v_cam) (v_crown) (v_granary) (v_swin) (v_body) (v_plate) (v_can) (v_eth) (v_nm) (v_power) {m : Nat} (h : m &&& 35577700 = 35577700) :
    ({ s with time := v_time, sensing := v_sensing, ctrl := v_ctrl, gnss := v_gnss, imu := v_imu, cam := v_cam, crown := v_crown, granary := v_granary, swin := v_swin, body := v_body, plate := v_plate, can := v_can, eth := v_eth, nm := v_nm, power := v_power } : State).without m = s.without m := by
  have g (i : Nat) (k : (35577700 : Nat).testBit i = true) : m.testBit i = true := by
    have := congrArg (·.testBit i) h
    simp only [Nat.testBit_and, k, Bool.and_true] at this
    exact this
  simp only [State.without, g 2 rfl, g 5 rfl, g 6 rfl, g 8 rfl, g 9 rfl, g 10 rfl, g 11 rfl, g 12 rfl, g 14 rfl, g 15 rfl, g 17 rfl, g 18 rfl, g 19 rfl, g 20 rfl, g 25 rfl, ↓reduceIte]
@[simp ↓] theorem without_m128140342 (s : State) (v_keeper) (v_time) (v_signals) (v_sensing) (v_cam) (v_swin) (v_fans) (v_plate) (v_root) (v_attic) (v_larder) (v_power) (v_thermal) {m : Nat} (h : m &&& 128140342 = 128140342) :
    ({ s with keeper := v_keeper, time := v_time, signals := v_signals, sensing := v_sensing, cam := v_cam, swin := v_swin, fans := v_fans, plate := v_plate, root := v_root, attic := v_attic, larder := v_larder, power := v_power, thermal := v_thermal } : State).without m = s.without m := by
  have g (i : Nat) (k : (128140342 : Nat).testBit i = true) : m.testBit i = true := by
    have := congrArg (·.testBit i) h
    simp only [Nat.testBit_and, k, Bool.and_true] at this
    exact this
  simp only [State.without, g 1 rfl, g 2 rfl, g 4 rfl, g 5 rfl, g 10 rfl, g 14 rfl, g 16 rfl, g 17 rfl, g 21 rfl, g 23 rfl, g 24 rfl, g 25 rfl, g 26 rfl, ↓reduceIte]
@[simp ↓] theorem without_m169869312 (s : State) (v_root) (v_power) (v_jtag) {m : Nat} (h : m &&& 169869312 = 169869312) :
    ({ s with root := v_root, power := v_power, jtag := v_jtag } : State).without m = s.without m := by
  have g (i : Nat) (k : (169869312 : Nat).testBit i = true) : m.testBit i = true := by
    have := congrArg (·.testBit i) h
    simp only [Nat.testBit_and, k, Bool.and_true] at this
    exact this
  simp only [State.without, g 21 rfl, g 25 rfl, g 27 rfl, ↓reduceIte]
@[simp ↓] theorem without_m1610612736 (s : State) (v_keptDirty) (v_keptAt) {m : Nat} (h : m &&& 1610612736 = 1610612736) :
    ({ s with keptDirty := v_keptDirty, keptAt := v_keptAt } : State).without m = s.without m := by
  have g (i : Nat) (k : (1610612736 : Nat).testBit i = true) : m.testBit i = true := by
    have := congrArg (·.testBit i) h
    simp only [Nat.testBit_and, k, Bool.and_true] at this
    exact this
  simp only [State.without, g 29 rfl, g 30 rfl, ↓reduceIte]
@[simp ↓] theorem without_m1879048192 (s : State) (v_kept) (v_keptDirty) (v_keptAt) {m : Nat} (h : m &&& 1879048192 = 1879048192) :
    ({ s with kept := v_kept, keptDirty := v_keptDirty, keptAt := v_keptAt } : State).without m = s.without m := by
  have g (i : Nat) (k : (1879048192 : Nat).testBit i = true) : m.testBit i = true := by
    have := congrArg (·.testBit i) h
    simp only [Nat.testBit_and, k, Bool.and_true] at this
    exact this
  simp only [State.without, g 28 rfl, g 29 rfl, g 30 rfl, ↓reduceIte]
@[simp ↓] theorem without_m1893728262 (s : State) (v_keeper) (v_time) (v_root) (v_graft) (v_attic) (v_kept) (v_keptDirty) (v_keptAt) {m : Nat} (h : m &&& 1893728262 = 1893728262) :
    ({ s with keeper := v_keeper, time := v_time, root := v_root, graft := v_graft, attic := v_attic, kept := v_kept, keptDirty := v_keptDirty, keptAt := v_keptAt } : State).without m = s.without m := by
  have g (i : Nat) (k : (1893728262 : Nat).testBit i = true) : m.testBit i = true := by
    have := congrArg (·.testBit i) h
    simp only [Nat.testBit_and, k, Bool.and_true] at this
    exact this
  simp only [State.without, g 1 rfl, g 2 rfl, g 21 rfl, g 22 rfl, g 23 rfl, g 28 rfl, g 29 rfl, g 30 rfl, ↓reduceIte]

end Sys2Proof.Machine
end

