-- ==== Sys2Proof/Laws/FrameOps0.lean ====
section
/-! SUPPORT. Laws/FrameOps0.lean: what each operation leaves alone. A mask has a bit for each piece of `Piece`. -/

set_option linter.all false

namespace Sys2Proof.Machine
@[simp ↓] theorem State.modUnit_frame (s) (a1) (a2) (a3) {H : Nat} (h : H &&& 2 = 2) :
    (State.modUnit s a1 a2 a3).without H = s.without H := by
  refine lift h ?_
  unfold State.modUnit
  repeat' (first
    | with_reducible rfl | with_reducible (refine without_ite ?_ ?_)
    | simp only [↓without_keeper, Nat.reduceAnd]
    | split | dsimp only)
@[simp ↓] theorem State.waitTo_frame (s) (a1) {H : Nat} (h : H &&& 33554436 = 33554436) :
    (State.waitTo s a1).without H = s.without H := by
  refine lift h ?_
  unfold State.waitTo
  repeat' (first
    | with_reducible rfl | with_reducible (refine without_ite ?_ ?_)
    | simp only [↓without_m33554436, Nat.reduceAnd]
    | split | dsimp only)
@[simp ↓] theorem State.waitOp_frame (s) (a1) {H : Nat} (h : H &&& 33554436 = 33554436) :
    (State.waitOp s a1).without H = s.without H := by
  refine lift h ?_
  unfold State.waitOp
  repeat' (first
    | with_reducible rfl | with_reducible (refine without_ite ?_ ?_)
    | simp only [↓State.waitTo_frame, Nat.reduceAnd]
    | split | dsimp only)
@[simp ↓] theorem State.boundary_frame (s) (a1) (a2) (a3) {H : Nat} (h : H &&& 33554436 = 33554436) :
    (State.boundary s a1 a2 a3).without H = s.without H := by
  refine lift h ?_
  unfold State.boundary
  repeat' (first
    | with_reducible rfl | with_reducible (refine without_ite ?_ ?_)
    | simp only [↓State.waitTo_frame, ↓without_time, Nat.reduceAnd]
    | split | dsimp only)
@[simp ↓] theorem State.modWin_frame (s) (a1) (a2) {H : Nat} (h : H &&& 2 = 2) :
    (State.modWin s a1 a2).without H = s.without H := by
  refine lift h ?_
  unfold State.modWin
  repeat' (first
    | with_reducible rfl | with_reducible (refine without_ite ?_ ?_)
    | simp only [↓without_keeper, Nat.reduceAnd]
    | split | dsimp only)
@[simp ↓] theorem State.deliver_frame (s) (a1) (a2) (a3) (a4) {H : Nat} (h : H &&& 2 = 2) :
    (State.deliver s a1 a2 a3 a4).without H = s.without H := by
  refine lift h ?_
  unfold State.deliver
  repeat' (first
    | with_reducible rfl | with_reducible (refine without_ite ?_ ?_)
    | simp only [↓without_keeper, Nat.reduceAnd]
    | split | dsimp only)
@[simp ↓] theorem State.postAt_frame (s) (a1) (a2) (a3) (a4) (a5) (a6) (a7) (a8) (a9) {H : Nat} (h : H &&& 2 = 2) :
    (State.postAt s a1 a2 a3 a4 a5 a6 a7 a8 a9).without H = s.without H := by
  refine lift h ?_
  unfold State.postAt
  repeat' (first
    | with_reducible rfl | with_reducible (refine without_ite ?_ ?_)
    | simp only [↓State.deliver_frame, Nat.reduceAnd]
    | split | dsimp only)
@[simp ↓] theorem State.post_frame (s) (a1) (a2) (a3) (a4) (a5) (a6) (a7) (a8) {H : Nat} (h : H &&& 2 = 2) :
    (State.post s a1 a2 a3 a4 a5 a6 a7 a8).without H = s.without H := by
  refine lift h ?_
  unfold State.post
  repeat' (first
    | with_reducible rfl | with_reducible (refine without_ite ?_ ?_)
    | simp only [↓State.postAt_frame, Nat.reduceAnd]
    | split | dsimp only)
@[simp ↓] theorem State.postAll_frame (s) (a1) (a2) (a3) (a4) (a5) (a6) {H : Nat} (h : H &&& 2 = 2) :
    (State.postAll s a1 a2 a3 a4 a5 a6).without H = s.without H := by
  refine lift h ?_
  unfold State.postAll
  repeat' (first
    | with_reducible rfl | with_reducible (refine without_ite ?_ ?_)
    | simp only [↓without_keeper, Nat.reduceAnd]
    | split | dsimp only)
@[simp ↓] theorem State.postInAt_frame (s) (a1) (a2) (a3) (a4) (a5) (a6) (a7) (a8) {H : Nat} (h : H &&& 2 = 2) :
    (State.postInAt s a1 a2 a3 a4 a5 a6 a7 a8).without H = s.without H := by
  refine lift h ?_
  unfold State.postInAt
  repeat' (first
    | with_reducible rfl | with_reducible (refine without_ite ?_ ?_)
    | simp only [↓State.modWin_frame, ↓without_keeper, Nat.reduceAnd]
    | split | dsimp only)
@[simp ↓] theorem State.postIn_frame (s) (a1) (a2) (a3) (a4) (a5) (a6) (a7) {H : Nat} (h : H &&& 2 = 2) :
    (State.postIn s a1 a2 a3 a4 a5 a6 a7).without H = s.without H := by
  refine lift h ?_
  unfold State.postIn
  repeat' (first
    | with_reducible rfl | with_reducible (refine without_ite ?_ ?_)
    | simp only [↓State.postInAt_frame, Nat.reduceAnd]
    | split | dsimp only)
@[simp ↓] theorem State.eventsLostAt_frame (s) (a1) (a2) {H : Nat} (h : H &&& 2 = 2) :
    (State.eventsLostAt s a1 a2).without H = s.without H := by
  refine lift h ?_
  unfold State.eventsLostAt
  repeat' (first
    | with_reducible rfl | with_reducible (refine without_ite ?_ ?_)
    | simp only [↓State.postInAt_frame, ↓State.modWin_frame, Nat.reduceAnd]
    | split | dsimp only)
@[simp ↓] theorem State.eventsLost_frame (s) (a1) {H : Nat} (h : H &&& 2 = 2) :
    (State.eventsLost s a1).without H = s.without H := by
  refine lift h ?_
  unfold State.eventsLost
  repeat' (first
    | with_reducible rfl | with_reducible (refine without_ite ?_ ?_)
    | simp only [↓State.eventsLostAt_frame, Nat.reduceAnd]
    | split | dsimp only)
@[simp ↓] theorem State.unpause_frame (s) {H : Nat} (h : H &&& 2 = 2) :
    (State.unpause s).without H = s.without H := by
  refine lift h ?_
  unfold State.unpause
  repeat' (first
    | with_reducible rfl | with_reducible (refine without_ite ?_ ?_) | with_reducible (refine (foldl_frame _ (fun a x => ?_) _ _).trans ?_) | with_reducible (refine (foldl_fst_frame _ (fun a x => ?_) _ _).trans ?_)
    | simp only [↓State.eventsLostAt_frame, ↓without_keeper, Nat.reduceAnd]
    | split | dsimp only)
@[simp ↓] theorem State.complete_frame (s) (a1) (a2) (a3) (a4) (a5) (a6) (a7) (a8) {H : Nat} (h : H &&& 2 = 2) :
    (State.complete s a1 a2 a3 a4 a5 a6 a7 a8).without H = s.without H := by
  refine lift h ?_
  unfold State.complete
  repeat' (first
    | with_reducible rfl | with_reducible (refine without_ite ?_ ?_)
    | simp only [↓State.deliver_frame, Nat.reduceAnd]
    | split | dsimp only)
@[simp ↓] theorem State.larderWrite_frame (s) (a1) (a2) (a3) (a4) (a5) (a6) (a7) (a8) (a9) (a10) {H : Nat} (h : H &&& 16777216 = 16777216) :
    (State.larderWrite s a1 a2 a3 a4 a5 a6 a7 a8 a9 a10).without H = s.without H := by
  refine lift h ?_
  unfold State.larderWrite
  repeat' (first
    | with_reducible rfl | with_reducible (refine without_ite ?_ ?_)
    | simp only [↓without_larder, Nat.reduceAnd]
    | split | dsimp only)
@[simp ↓] theorem State.mapFlags_frame (s) (a1) (a2) {H : Nat} (h : H &&& 2097152 = 2097152) :
    (State.mapFlags s a1 a2).without H = s.without H := by
  refine lift h ?_
  unfold State.mapFlags
  repeat' (first
    | with_reducible rfl | with_reducible (refine without_ite ?_ ?_)
    | simp only [↓without_root, Nat.reduceAnd]
    | split | dsimp only)
@[simp ↓] theorem State.settleQueue_frame (s) {H : Nat} (h : H &&& 16777226 = 16777226) :
    (State.settleQueue s).without H = s.without H := by
  refine lift h ?_
  unfold State.settleQueue
  repeat' (first
    | with_reducible rfl | with_reducible (refine without_ite ?_ ?_)
    | simp only [↓State.larderWrite_frame, ↓State.post_frame, ↓without_faults, Nat.reduceAnd]
    | split | dsimp only)
@[simp ↓] theorem State.passToRoot_frame (s) (a1) {H : Nat} (h : H &&& 8 = 8) :
    (State.passToRoot s a1).without H = s.without H := by
  refine lift h ?_
  unfold State.passToRoot
  repeat' (first
    | with_reducible rfl | with_reducible (refine without_ite ?_ ?_)
    | simp only [↓without_faults, Nat.reduceAnd]
    | split | dsimp only)
@[simp ↓] theorem State.markActive_frame (s) (a1) {H : Nat} (h : H &&& 8 = 8) :
    (State.markActive s a1).without H = s.without H := by
  refine lift h ?_
  unfold State.markActive
  repeat' (first
    | with_reducible rfl | with_reducible (refine without_ite ?_ ?_)
    | simp only [↓without_faults, Nat.reduceAnd]
    | split | dsimp only)
@[simp ↓] theorem State.preempt_frame (s) (a1) (a2) {H : Nat} (h : H &&& 16777226 = 16777226) :
    (State.preempt s a1 a2).without H = s.without H := by
  refine lift h ?_
  unfold State.preempt
  repeat' (first
    | with_reducible rfl | with_reducible (refine without_ite ?_ ?_)
    | simp only [↓State.settleQueue_frame, ↓State.post_frame, ↓without_faults, Nat.reduceAnd]
    | split | dsimp only)
@[simp ↓] theorem State.enqueue_frame (s) (a1) {H : Nat} (h : H &&& 16777226 = 16777226) :
    (State.enqueue s a1).1.without H = s.without H := by
  refine lift h ?_
  unfold State.enqueue
  repeat' (first
    | with_reducible rfl | with_reducible (refine without_ite ?_ ?_) | with_reducible (refine without_ite_fst ?_ ?_)
    | simp only [↓State.settleQueue_frame, ↓without_faults, Nat.reduceAnd]
    | split | dsimp only)
@[simp ↓] theorem State.placeFault_frame (s) (a1) {H : Nat} (h : H &&& 16777226 = 16777226) :
    (State.placeFault s a1).1.without H = s.without H := by
  refine lift h ?_
  unfold State.placeFault
  repeat' (first
    | with_reducible rfl | with_reducible (refine without_ite ?_ ?_) | with_reducible (refine without_ite_fst ?_ ?_)
    | simp only [↓State.enqueue_frame, ↓State.preempt_frame, ↓without_faults, Nat.reduceAnd]
    | split | dsimp only)
@[simp ↓] theorem State.raise_frame (s) (a1) (a2) (a3) (a4) (a5) (a6) {H : Nat} (h : H &&& 18874378 = 18874378) :
    (State.raise s a1 a2 a3 a4 a5 a6).1.without H = s.without H := by
  refine lift h ?_
  unfold State.raise
  repeat' (first
    | with_reducible rfl | with_reducible (refine without_ite ?_ ?_) | with_reducible (refine without_ite_fst ?_ ?_)
    | simp only [↓State.placeFault_frame, ↓State.passToRoot_frame, ↓State.mapFlags_frame, ↓State.markActive_frame,
      Nat.reduceAnd]
    | split | dsimp only)
@[simp ↓] theorem State.raiseEv_frame (s) (a1) (a2) (a3) (a4) (a5) (a6) (a7) (a8) (a9) {H : Nat} (h : H &&& 18874378 = 18874378) :
    (State.raiseEv s a1 a2 a3 a4 a5 a6 a7 a8 a9).without H = s.without H := by
  refine lift h ?_
  unfold State.raiseEv
  repeat' (first
    | with_reducible rfl | with_reducible (refine without_ite ?_ ?_)
    | simp only [↓State.raise_frame, ↓State.post_frame, Nat.reduceAnd]
    | split | dsimp only)
@[simp ↓] theorem State.clearFault_frame (s) (a1) (a2) (a3) {H : Nat} (h : H &&& 10 = 10) :
    (State.clearFault s a1 a2 a3).without H = s.without H := by
  refine lift h ?_
  unfold State.clearFault
  repeat' (first
    | with_reducible rfl | with_reducible (refine without_ite ?_ ?_)
    | simp only [↓State.post_frame, ↓without_faults, Nat.reduceAnd]
    | split | dsimp only)
@[simp ↓] theorem State.store_frame (s) (a1) (a2) {H : Nat} (h : H &&& 2 = 2) :
    (State.store s a1 a2).without H = s.without H := by
  refine lift h ?_
  unfold State.store
  repeat' (first
    | with_reducible rfl | with_reducible (refine without_ite ?_ ?_)
    | simp only [↓State.modWin_frame, Nat.reduceAnd]
    | split | dsimp only)
@[simp ↓] theorem State.stores_frame (s) (a1) (a2) {H : Nat} (h : H &&& 2 = 2) :
    (State.stores s a1 a2).without H = s.without H := by
  refine lift h ?_
  unfold State.stores
  repeat' (first
    | with_reducible rfl | with_reducible (refine without_ite ?_ ?_) | with_reducible (refine (foldl_frame _ (fun a x => ?_) _ _).trans ?_) | with_reducible (refine (foldl_fst_frame _ (fun a x => ?_) _ _).trans ?_)
    | simp only [↓State.store_frame, Nat.reduceAnd]
    | split | dsimp only)
@[simp ↓] theorem State.answer_frame (s) (a1) (a2) {H : Nat} (h : H &&& 2 = 2) :
    (State.answer s a1 a2).without H = s.without H := by
  refine lift h ?_
  unfold State.answer
  repeat' (first
    | with_reducible rfl | with_reducible (refine without_ite ?_ ?_)
    | simp only [↓State.modWin_frame, Nat.reduceAnd]
    | split | dsimp only)
@[simp ↓] theorem State.recordReply_frame (s) (a1) (a2) {H : Nat} (h : H &&& 2 = 2) :
    (State.recordReply s a1 a2).without H = s.without H := by
  refine lift h ?_
  unfold State.recordReply
  repeat' (first
    | with_reducible rfl | with_reducible (refine without_ite ?_ ?_)
    | simp only [↓State.modWin_frame, Nat.reduceAnd]
    | split | dsimp only)
@[simp ↓] theorem State.ungate_frame (s) (a1) (a2) {H : Nat} (h : H &&& 2 = 2) :
    (State.ungate s a1 a2).without H = s.without H := by
  refine lift h ?_
  unfold State.ungate
  repeat' (first
    | with_reducible rfl | with_reducible (refine without_ite ?_ ?_)
    | simp only [↓State.modUnit_frame, Nat.reduceAnd]
    | split | dsimp only)
@[simp ↓] theorem State.gateIdle_frame (s t a2 a3) {H : Nat} (h : H &&& 2 = 2) :
    (State.gateIdle s t a2 a3).without H = t.without H := by
  unfold State.gateIdle
  exact without_ite (State.modUnit_frame _ _ _ _ h) rfl
@[simp ↓] theorem State.execute_frame (s : State) (v : Verb) (r : Req) (held : Bool) {H : Nat} (h : H &&& 2 = 2) (hv : v.Keeps H) :
    (s.execute v r held).without H = s.without H := by
  unfold State.execute
  have hb := hv r (s.ungate v.unit r.inst)
  generalize v.body r (s.ungate v.unit r.inst) = x at hb
  obtain ⟨s', st, pl⟩ := x
  dsimp only at hb ⊢
  split
  · rw [State.modWin_frame _ _ _ h, State.gateIdle_frame _ _ _ _ h, hb, State.ungate_frame _ _ _ h]
  · rw [State.answer_frame _ _ _ h, State.recordReply_frame _ _ _ h, State.gateIdle_frame _ _ _ _ h, hb, State.ungate_frame _ _ _ h]
@[simp ↓] theorem State.serve_frame (s : State) (v : Verb) (r : Req) (held : Bool) {H : Nat} (h : H &&& 2 = 2) (hv : v.Keeps H) :
    (s.serve v r held).without H = s.without H := by
  unfold State.serve
  split
  · exact State.execute_frame _ _ _ _ h hv
  · split
    · split
      · exact State.modWin_frame _ _ _ h
      · rw [State.answer_frame _ _ _ h, State.modWin_frame _ _ _ h]
    · exact State.answer_frame _ _ _ h
@[simp ↓] theorem State.start_frame (s : State) (v : Verb) (r : Req) {H : Nat} (h : H &&& 2 = 2) (hv : v.Keeps H) :
    (s.start v r).without H = s.without H := by
  unfold State.start
  split
  · rw [State.answer_frame _ _ _ h, State.modWin_frame _ _ _ h]
  · exact State.serve_frame _ _ _ _ h hv
@[simp ↓] theorem State.take_frame (s : State) (v : Verb) (r : Req) {H : Nat} (h : H &&& 2 = 2) (hv : v.Keeps H) :
    (s.take v r).without H = s.without H := by
  unfold State.take
  split
  · exact State.modWin_frame _ _ _ h
  · exact State.start_frame _ _ _ h hv
@[simp ↓] theorem State.modPartition_frame (s) (a1) (a2) {H : Nat} (h : H &&& 2 = 2) :
    (State.modPartition s a1 a2).without H = s.without H := by
  refine lift h ?_
  unfold State.modPartition
  repeat' (first
    | with_reducible rfl | with_reducible (refine without_ite ?_ ?_)
    | simp only [↓without_keeper, Nat.reduceAnd]
    | split | dsimp only)
@[simp ↓] theorem State.mailbox_frame (s : State) (v : Verb) (r : Req) {H : Nat} (h : H &&& 2 = 2) (hv : v.Keeps H) :
    (s.mailbox v r).without H = s.without H := by
  unfold State.mailbox
  dsimp only
  split
  · rfl
  · split
    · rw [State.modWin_frame _ _ _ h, State.stores_frame _ _ _ h]
    · rw [State.take_frame _ _ _ h hv, State.modWin_frame _ _ _ h, State.modWin_frame _ _ _ h, State.stores_frame _ _ _ h]
@[simp ↓] theorem State.dirty_frame (s) {H : Nat} (h : H &&& 536870912 = 536870912) :
    (State.dirty s).without H = s.without H := by
  refine lift h ?_
  unfold State.dirty
  repeat' (first
    | with_reducible rfl | with_reducible (refine without_ite ?_ ?_)
    | simp only [↓without_keptDirty, Nat.reduceAnd]
    | split | dsimp only)
@[simp ↓] theorem State.modRegion_frame (s) (a1) (a2) (a3) {H : Nat} (h : H &&& 2 = 2) :
    (State.modRegion s a1 a2 a3).without H = s.without H := by
  refine lift h ?_
  unfold State.modRegion
  repeat' (first
    | with_reducible rfl | with_reducible (refine without_ite ?_ ?_)
    | simp only [↓State.modWin_frame, Nat.reduceAnd]
    | split | dsimp only)
@[simp ↓] theorem State.regionBegin_frame (s) (a1) (a2) (a3) (a4) {H : Nat} (h : H &&& 2 = 2) :
    (State.regionBegin s a1 a2 a3 a4).without H = s.without H := by
  refine lift h ?_
  unfold State.regionBegin
  repeat' (first
    | with_reducible rfl | with_reducible (refine without_ite ?_ ?_)
    | simp only [↓State.modRegion_frame, Nat.reduceAnd]
    | split | dsimp only)
@[simp ↓] theorem State.regionEnd_frame (s) (a1) (a2) (a3) {H : Nat} (h : H &&& 2 = 2) :
    (State.regionEnd s a1 a2 a3).without H = s.without H := by
  refine lift h ?_
  unfold State.regionEnd
  repeat' (first
    | with_reducible rfl | with_reducible (refine without_ite ?_ ?_)
    | simp only [↓State.modRegion_frame, Nat.reduceAnd]
    | split | dsimp only)
@[simp ↓] theorem State.regionWrite_frame (s) (a1) (a2) (a3) (a4) {H : Nat} (h : H &&& 2 = 2) :
    (State.regionWrite s a1 a2 a3 a4).without H = s.without H := by
  refine lift h ?_
  unfold State.regionWrite
  repeat' (first
    | with_reducible rfl | with_reducible (refine without_ite ?_ ?_)
    | simp only [↓State.modRegion_frame, Nat.reduceAnd]
    | split | dsimp only)
@[simp ↓] theorem State.regionDone_frame (s) (a1) (a2) (a3) (a4) (a5) {H : Nat} (h : H &&& 2 = 2) :
    (State.regionDone s a1 a2 a3 a4 a5).without H = s.without H := by
  refine lift h ?_
  unfold State.regionDone
  repeat' (first
    | with_reducible rfl | with_reducible (refine without_ite ?_ ?_)
    | simp only [↓State.modRegion_frame, Nat.reduceAnd]
    | split | dsimp only)
@[simp ↓] theorem State.setSig_frame (s) (a1) (a2) (a3) (a4) {H : Nat} (h : H &&& 4112 = 4112) :
    (State.setSig s a1 a2 a3 a4).without H = s.without H := by
  refine lift h ?_
  unfold State.setSig
  repeat' (first
    | with_reducible rfl | with_reducible (refine without_ite ?_ ?_)
    | simp only [↓without_signals, ↓without_granary, Nat.reduceAnd]
    | split | dsimp only)
@[simp ↓] theorem State.modFlags_frame (s) (a1) (a2) {H : Nat} (h : H &&& 16 = 16) :
    (State.modFlags s a1 a2).without H = s.without H := by
  refine lift h ?_
  unfold State.modFlags
  repeat' (first
    | with_reducible rfl | with_reducible (refine without_ite ?_ ?_)
    | simp only [↓without_signals, Nat.reduceAnd]
    | split | dsimp only)
@[simp ↓] theorem State.zeroSigs_frame (s) (a1) (a2) {H : Nat} (h : H &&& 16 = 16) :
    (State.zeroSigs s a1 a2).without H = s.without H := by
  refine lift h ?_
  unfold State.zeroSigs
  repeat' (first
    | with_reducible rfl | with_reducible (refine without_ite ?_ ?_)
    | simp only [↓without_signals, Nat.reduceAnd]
    | split | dsimp only)
@[simp ↓] theorem State.staleSigs_frame (s) (a1) (a2) {H : Nat} (h : H &&& 16 = 16) :
    (State.staleSigs s a1 a2).without H = s.without H := by
  refine lift h ?_
  unfold State.staleSigs
  repeat' (first
    | with_reducible rfl | with_reducible (refine without_ite ?_ ?_)
    | simp only [↓without_signals, Nat.reduceAnd]
    | split | dsimp only)
@[simp ↓] theorem State.staleOwned_frame (s) (a1) {H : Nat} (h : H &&& 16 = 16) :
    (State.staleOwned s a1).without H = s.without H := by
  refine lift h ?_
  unfold State.staleOwned
  repeat' (first
    | with_reducible rfl | with_reducible (refine without_ite ?_ ?_) | with_reducible (refine (foldl_frame _ (fun a x => ?_) _ _).trans ?_) | with_reducible (refine (foldl_fst_frame _ (fun a x => ?_) _ _).trans ?_)
    | simp only [↓State.staleSigs_frame, Nat.reduceAnd]
    | split | dsimp only)
@[simp ↓] theorem State.modHost_frame (s) (a1) (a2) {H : Nat} (h : H &&& 2 = 2) :
    (State.modHost s a1 a2).without H = s.without H := by
  refine lift h ?_
  unfold State.modHost
  repeat' (first
    | with_reducible rfl | with_reducible (refine without_ite ?_ ?_)
    | simp only [↓without_keeper, Nat.reduceAnd]
    | split | dsimp only)
@[simp ↓] theorem State.hostMiss_frame (s) (a1) {H : Nat} (h : H &&& 2 = 2) :
    (State.hostMiss s a1).without H = s.without H := by
  refine lift h ?_
  unfold State.hostMiss
  repeat' (first
    | with_reducible rfl | with_reducible (refine without_ite ?_ ?_)
    | simp only [↓State.modHost_frame, ↓State.post_frame, Nat.reduceAnd]
    | split | dsimp only)
@[simp ↓] theorem State.hostPeriod_frame (s) (a1) (a2) (a3) (a4) {H : Nat} (h : H &&& 2 = 2) :
    (State.hostPeriod s a1 a2 a3 a4).without H = s.without H := by
  refine lift h ?_
  unfold State.hostPeriod
  repeat' (first
    | with_reducible rfl | with_reducible (refine without_ite ?_ ?_)
    | simp only [↓State.hostMiss_frame, ↓State.modHost_frame, Nat.reduceAnd]
    | split | dsimp only)
@[simp ↓] theorem State.hostResult_frame (s) (a1) {H : Nat} (h : H &&& 2 = 2) :
    (State.hostResult s a1).1.without H = s.without H := by
  refine lift h ?_
  unfold State.hostResult
  repeat' (first
    | with_reducible rfl | with_reducible (refine without_ite ?_ ?_) | with_reducible (refine without_ite_fst ?_ ?_)
    | simp only [↓State.modHost_frame, ↓State.post_frame, Nat.reduceAnd]
    | split | dsimp only)
@[simp ↓] theorem State.prevResult_frame (s) (a1) {H : Nat} (h : H &&& 2 = 2) :
    (State.prevResult s a1).1.without H = s.without H := by
  refine lift h ?_
  unfold State.prevResult
  repeat' (first
    | with_reducible rfl | with_reducible (refine without_ite ?_ ?_) | with_reducible (refine without_ite_fst ?_ ?_)
    | simp only [↓State.hostResult_frame, ↓State.modHost_frame, Nat.reduceAnd]
    | split | dsimp only)
@[simp ↓] theorem State.missPrev_frame (s) (a1) {H : Nat} (h : H &&& 2 = 2) :
    (State.missPrev s a1).without H = s.without H := by
  refine lift h ?_
  unfold State.missPrev
  repeat' (first
    | with_reducible rfl | with_reducible (refine without_ite ?_ ?_)
    | simp only [↓State.hostMiss_frame, ↓State.modHost_frame, Nat.reduceAnd]
    | split | dsimp only)
@[simp ↓] theorem State.hostTurn_frame (s a1) (eff : State → State) {H : Nat} (h : H &&& 2 = 2)
    (ha : ∀ t, (eff t).without H = t.without H) : (State.hostTurn s a1 eff).without H = s.without H := by
  unfold State.hostTurn
  dsimp only
  have hp := State.missPrev_frame s a1 (lift' h rfl)
  repeat' split
  all_goals simp only [ha, hp, State.hostMiss_frame _ _ (lift' h rfl), State.modHost_frame _ _ _ (lift' h rfl)]
@[simp ↓] theorem State.drawNat_frame (s) {H : Nat} (h : H &&& 2147483648 = 2147483648) :
    (State.drawNat s).2.without H = s.without H := by
  refine lift h ?_
  unfold State.drawNat
  repeat' (first
    | with_reducible rfl | with_reducible (refine without_ite ?_ ?_)
    | simp only [↓without_free, Nat.reduceAnd]
    | split | dsimp only)
@[simp ↓] theorem State.drawF_frame (s) {H : Nat} (h : H &&& 2147483648 = 2147483648) :
    (State.drawF s).2.without H = s.without H := by
  refine lift h ?_
  unfold State.drawF
  repeat' (first
    | with_reducible rfl | with_reducible (refine without_ite ?_ ?_)
    | simp only [↓without_free, Nat.reduceAnd]
    | split | dsimp only)
@[simp ↓] theorem State.keeperEv_frame (s) (a1) (a2) (a3) (a4) (a5) {H : Nat} (h : H &&& 2 = 2) :
    (State.keeperEv s a1 a2 a3 a4 a5).without H = s.without H := by
  refine lift h ?_
  unfold State.keeperEv
  repeat' (first
    | with_reducible rfl | with_reducible (refine without_ite ?_ ?_)
    | simp only [↓State.post_frame, Nat.reduceAnd]
    | split | dsimp only)
@[simp ↓] theorem State.zeroUnit_frame (s) (a1) {H : Nat} (h : H &&& 16 = 16) :
    (State.zeroUnit s a1).without H = s.without H := by
  refine lift h ?_
  unfold State.zeroUnit
  repeat' (first
    | with_reducible rfl | with_reducible (refine without_ite ?_ ?_) | with_reducible (refine (foldl_frame _ (fun a x => ?_) _ _).trans ?_) | with_reducible (refine (foldl_fst_frame _ (fun a x => ?_) _ _).trans ?_)
    | simp only [↓State.zeroSigs_frame, Nat.reduceAnd]
    | split | dsimp only)
@[simp ↓] theorem State.crownSlot_frame (s) {H : Nat} (h : H &&& 2 = 2) :
    (State.crownSlot s).without H = s.without H := by
  refine lift h ?_
  unfold State.crownSlot
  repeat' (first
    | with_reducible rfl | with_reducible (refine without_ite ?_ ?_)
    | simp only [↓without_keeper, Nat.reduceAnd]
    | split | dsimp only)
@[simp ↓] theorem State.unitStop_frame (s) (a1) (a2) (a3) (a4) {H : Nat} (h : H &&& 18 = 18) :
    (State.unitStop s a1 a2 a3 a4).without H = s.without H := by
  refine lift h ?_
  unfold State.unitStop
  repeat' (first
    | with_reducible rfl | with_reducible (refine without_ite ?_ ?_)
    | simp only [↓State.modUnit_frame, ↓State.crownSlot_frame, ↓State.zeroUnit_frame, ↓State.keeperEv_frame,
      Nat.reduceAnd]
    | split | dsimp only)
@[simp ↓] theorem State.outboxRestart_frame (s) (a1) (a2) (a3) {H : Nat} (h : H &&& 2 = 2) :
    (State.outboxRestart s a1 a2 a3).without H = s.without H := by
  refine lift h ?_
  unfold State.outboxRestart
  repeat' (first
    | with_reducible rfl | with_reducible (refine without_ite ?_ ?_)
    | simp only [↓without_keeper, Nat.reduceAnd]
    | split | dsimp only)
@[simp ↓] theorem State.endFaults_frame (s) (a1) {H : Nat} (h : H &&& 10 = 10) :
    (State.endFaults s a1).without H = s.without H := by
  refine lift h ?_
  unfold State.endFaults
  repeat' (first
    | with_reducible rfl | with_reducible (refine without_ite ?_ ?_) | with_reducible (refine (foldl_frame _ (fun a x => ?_) _ _).trans ?_) | with_reducible (refine (foldl_fst_frame _ (fun a x => ?_) _ _).trans ?_)
    | simp only [↓State.clearFault_frame, Nat.reduceAnd]
    | split | dsimp only)
@[simp ↓] theorem State.unitRun_frame (s) (a1) (a2) {H : Nat} (h : H &&& 2 = 2) :
    (State.unitRun s a1 a2).without H = s.without H := by
  refine lift h ?_
  unfold State.unitRun
  repeat' (first
    | with_reducible rfl | with_reducible (refine without_ite ?_ ?_)
    | simp only [↓State.modUnit_frame, ↓State.keeperEv_frame, Nat.reduceAnd]
    | split | dsimp only)
@[simp ↓] theorem State.unitOff_frame (s) (a1) (a2) {H : Nat} (h : H &&& 2 = 2) :
    (State.unitOff s a1 a2).without H = s.without H := by
  refine lift h ?_
  unfold State.unitOff
  repeat' (first
    | with_reducible rfl | with_reducible (refine without_ite ?_ ?_)
    | simp only [↓State.modUnit_frame, Nat.reduceAnd]
    | split | dsimp only)
@[simp ↓] theorem State.unitDown_frame (s a1 a2 a3) (abort : State → State) {H : Nat} (h : H &&& 18 = 18)
    (ha : ∀ t, (abort t).without H = t.without H) : (State.unitDown s a1 a2 a3 abort).without H = s.without H := by
  unfold State.unitDown
  dsimp only
  rw [State.modUnit_frame _ _ _ _ (lift' h rfl), ha, State.outboxRestart_frame _ _ _ _ (lift' h rfl),
    State.unitStop_frame _ _ _ _ _ (lift' h rfl)]
@[simp ↓] theorem State.unitPower_frame (s) (a1) (a2) {H : Nat} (h : H &&& 2 = 2) :
    (State.unitPower s a1 a2).without H = s.without H := by
  refine lift h ?_
  unfold State.unitPower
  repeat' (first
    | with_reducible rfl | with_reducible (refine without_ite ?_ ?_)
    | simp only [↓State.modUnit_frame, ↓State.crownSlot_frame, Nat.reduceAnd]
    | split | dsimp only)
@[simp ↓] theorem State.firstGens_frame (s) {H : Nat} (h : H &&& 2 = 2) :
    (State.firstGens s).without H = s.without H := by
  refine lift h ?_
  unfold State.firstGens
  repeat' (first
    | with_reducible rfl | with_reducible (refine without_ite ?_ ?_) | with_reducible (refine (foldl_frame _ (fun a x => ?_) _ _).trans ?_) | with_reducible (refine (foldl_fst_frame _ (fun a x => ?_) _ _).trans ?_)
    | simp only [↓State.modUnit_frame, ↓without_keeper, Nat.reduceAnd]
    | split | dsimp only)
@[simp ↓] theorem State.closeWindow_frame (s) (a1) {H : Nat} (h : H &&& 2 = 2) :
    (State.closeWindow s a1).without H = s.without H := by
  refine lift h ?_
  unfold State.closeWindow
  repeat' (first
    | with_reducible rfl | with_reducible (refine without_ite ?_ ?_)
    | simp only [↓State.modWin_frame, Nat.reduceAnd]
    | split | dsimp only)
@[simp ↓] theorem State.openWindow_frame (s) (a1) {H : Nat} (h : H &&& 2 = 2) :
    (State.openWindow s a1).without H = s.without H := by
  refine lift h ?_
  unfold State.openWindow
  repeat' (first
    | with_reducible rfl | with_reducible (refine without_ite ?_ ?_)
    | simp only [↓State.modWin_frame, Nat.reduceAnd]
    | split | dsimp only)
@[simp ↓] theorem State.resetWindow_frame (s) (a1) {H : Nat} (h : H &&& 2 = 2) :
    (State.resetWindow s a1).without H = s.without H := by
  refine lift h ?_
  unfold State.resetWindow
  repeat' (first
    | with_reducible rfl | with_reducible (refine without_ite ?_ ?_)
    | simp only [↓State.modWin_frame, Nat.reduceAnd]
    | split | dsimp only)
@[simp ↓] theorem State.regionStop_frame (s) (a1) (a2) (a3) {H : Nat} (h : H &&& 2 = 2) :
    (State.regionStop s a1 a2 a3).without H = s.without H := by
  refine lift h ?_
  unfold State.regionStop
  repeat' (first
    | with_reducible rfl | with_reducible (refine without_ite ?_ ?_)
    | simp only [↓State.modRegion_frame, Nat.reduceAnd]
    | split | dsimp only)
@[simp ↓] theorem State.regionAbort_frame (s) (a1) (a2) {H : Nat} (h : H &&& 2 = 2) :
    (State.regionAbort s a1 a2).without H = s.without H := by
  refine lift h ?_
  unfold State.regionAbort
  repeat' (first
    | with_reducible rfl | with_reducible (refine without_ite ?_ ?_)
    | simp only [↓State.modRegion_frame, Nat.reduceAnd]
    | split | dsimp only)
@[simp ↓] theorem State.wake_frame (s) (a1) (a2) {H : Nat} (h : H &&& 34603008 = 34603008) :
    (State.wake s a1 a2).without H = s.without H := by
  refine lift h ?_
  unfold State.wake
  repeat' (first
    | with_reducible rfl | with_reducible (refine without_ite ?_ ?_)
    | simp only [↓without_nm, ↓without_m34603008, Nat.reduceAnd]
    | split | dsimp only)
@[simp ↓] theorem State.modSense_frame (s) (a1) {H : Nat} (h : H &&& 32 = 32) :
    (State.modSense s a1).without H = s.without H := by
  refine lift h ?_
  unfold State.modSense
  repeat' (first
    | with_reducible rfl | with_reducible (refine without_ite ?_ ?_)
    | simp only [↓without_sensing, Nat.reduceAnd]
    | split | dsimp only)
@[simp ↓] theorem State.modLoss_frame (s) (a1) (a2) {H : Nat} (h : H &&& 32 = 32) :
    (State.modLoss s a1 a2).without H = s.without H := by
  refine lift h ?_
  unfold State.modLoss
  repeat' (first
    | with_reducible rfl | with_reducible (refine without_ite ?_ ?_)
    | simp only [↓State.modSense_frame, Nat.reduceAnd]
    | split | dsimp only)
@[simp ↓] theorem State.modBridge_frame (s) (a1) (a2) {H : Nat} (h : H &&& 32 = 32) :
    (State.modBridge s a1 a2).without H = s.without H := by
  refine lift h ?_
  unfold State.modBridge
  repeat' (first
    | with_reducible rfl | with_reducible (refine without_ite ?_ ?_)
    | simp only [↓State.modSense_frame, Nat.reduceAnd]
    | split | dsimp only)
@[simp ↓] theorem State.modAin_frame (s) (a1) (a2) {H : Nat} (h : H &&& 32 = 32) :
    (State.modAin s a1 a2).without H = s.without H := by
  refine lift h ?_
  unfold State.modAin
  repeat' (first
    | with_reducible rfl | with_reducible (refine without_ite ?_ ?_)
    | simp only [↓State.modSense_frame, Nat.reduceAnd]
    | split | dsimp only)
@[simp ↓] theorem State.modFreq_frame (s) (a1) (a2) {H : Nat} (h : H &&& 32 = 32) :
    (State.modFreq s a1 a2).without H = s.without H := by
  refine lift h ?_
  unfold State.modFreq
  repeat' (first
    | with_reducible rfl | with_reducible (refine without_ite ?_ ?_)
    | simp only [↓State.modSense_frame, Nat.reduceAnd]
    | split | dsimp only)
@[simp ↓] theorem State.modSup_frame (s) (a1) (a2) {H : Nat} (h : H &&& 32 = 32) :
    (State.modSup s a1 a2).without H = s.without H := by
  refine lift h ?_
  unfold State.modSup
  repeat' (first
    | with_reducible rfl | with_reducible (refine without_ite ?_ ?_)
    | simp only [↓State.modSense_frame, Nat.reduceAnd]
    | split | dsimp only)
@[simp ↓] theorem State.snipEnd_frame (s) (a1) (a2) {H : Nat} (h : H &&& 34 = 34) :
    (State.snipEnd s a1 a2).without H = s.without H := by
  refine lift h ?_
  unfold State.snipEnd
  repeat' (first
    | with_reducible rfl | with_reducible (refine without_ite ?_ ?_)
    | simp only [↓State.modLoss_frame, ↓State.regionStop_frame, ↓State.regionEnd_frame, ↓State.complete_frame,
      Nat.reduceAnd]
    | split | dsimp only)
@[simp ↓] theorem State.snipSettle_frame (s) (a1) {H : Nat} (h : H &&& 34 = 34) :
    (State.snipSettle s a1).without H = s.without H := by
  refine lift h ?_
  unfold State.snipSettle
  repeat' (first
    | with_reducible rfl | with_reducible (refine without_ite ?_ ?_)
    | simp only [↓State.regionWrite_frame, ↓State.modRegion_frame, ↓State.modLoss_frame, ↓State.snipEnd_frame,
      Nat.reduceAnd]
    | split | dsimp only)
@[simp ↓] theorem State.snipTake_frame (s) (a1) (a2) (a3) (a4) (a5) (a6) (a7) (a8) (a9) {H : Nat} (h : H &&& 32 = 32) :
    (State.snipTake s a1 a2 a3 a4 a5 a6 a7 a8 a9).without H = s.without H := by
  refine lift h ?_
  unfold State.snipTake
  repeat' (first
    | with_reducible rfl | with_reducible (refine without_ite ?_ ?_)
    | simp only [↓State.modLoss_frame, Nat.reduceAnd]
    | split | dsimp only)
@[simp ↓] theorem State.lossSignals_frame (s) (a1) {H : Nat} (h : H &&& 18878522 = 18878522) :
    (State.lossSignals s a1).without H = s.without H := by
  refine lift h ?_
  unfold State.lossSignals
  repeat' (first
    | with_reducible rfl | with_reducible (refine without_ite ?_ ?_) | with_reducible (refine (foldl_frame _ (fun a x => ?_) _ _).trans ?_) | with_reducible (refine (foldl_fst_frame _ (fun a x => ?_) _ _).trans ?_)
    | simp only [↓State.setSig_frame, ↓State.modLoss_frame, ↓State.raiseEv_frame, ↓State.clearFault_frame, Nat.reduceAnd]
    | split | dsimp only)
@[simp ↓] theorem State.lossApply_frame (s) (a1) {H : Nat} (h : H &&& 536870970 = 536870970) :
    (State.lossApply s a1).without H = s.without H := by
  refine lift h ?_
  unfold State.lossApply
  repeat' (first
    | with_reducible rfl | with_reducible (refine without_ite ?_ ?_)
    | simp only [↓State.snipEnd_frame, ↓State.modLoss_frame, ↓State.zeroSigs_frame, ↓State.clearFault_frame,
      ↓State.dirty_frame, ↓State.complete_frame, Nat.reduceAnd]
    | split | dsimp only)
@[simp ↓] theorem State.lossClose_frame (s) (a1) {H : Nat} (h : H &&& 555749434 = 555749434) :
    (State.lossClose s a1).without H = s.without H := by
  refine lift h ?_
  unfold State.lossClose
  repeat' (first
    | with_reducible rfl | with_reducible (refine without_ite ?_ ?_)
    | simp only [↓State.snipSettle_frame, ↓State.modLoss_frame, ↓State.lossSignals_frame, ↓State.lossApply_frame,
      Nat.reduceAnd]
    | split | dsimp only)
@[simp ↓] theorem State.senseMiss_frame (s) (a1) (a2) {H : Nat} (h : H &&& 16 = 16) :
    (State.senseMiss s a1 a2).without H = s.without H := by
  refine lift h ?_
  unfold State.senseMiss
  repeat' (first
    | with_reducible rfl | with_reducible (refine without_ite ?_ ?_) | with_reducible (refine (foldl_frame _ (fun a x => ?_) _ _).trans ?_) | with_reducible (refine (foldl_fst_frame _ (fun a x => ?_) _ _).trans ?_)
    | simp only [↓State.modFlags_frame, Nat.reduceAnd]
    | split | dsimp only)
@[simp ↓] theorem State.sensePeriod_frame (s) (a1) (a2) (a3) (a4) (a5) {H : Nat} (h : H &&& 18 = 18) :
    (State.sensePeriod s a1 a2 a3 a4 a5).without H = s.without H := by
  refine lift h ?_
  unfold State.sensePeriod
  repeat' (first
    | with_reducible rfl | with_reducible (refine without_ite ?_ ?_)
    | simp only [↓State.hostTurn_frame, ↓State.senseMiss_frame, ↓State.modHost_frame, implies_true, eq_self,
      Nat.reduceAnd]
    | split | dsimp only)
@[simp ↓] theorem State.senseApply_frame (s) (a1) (a2) (a3) (a4) (a5) {H : Nat} (h : H &&& 4114 = 4114) :
    (State.senseApply s a1 a2 a3 a4 a5).without H = s.without H := by
  refine lift h ?_
  unfold State.senseApply
  repeat' (first
    | with_reducible rfl | with_reducible (refine without_ite ?_ ?_) | with_reducible (refine (foldl_frame _ (fun a x => ?_) _ _).trans ?_) | with_reducible (refine (foldl_fst_frame _ (fun a x => ?_) _ _).trans ?_)
    | simp only [↓State.setSig_frame, ↓State.modHost_frame, ↓State.hostResult_frame, ↓State.prevResult_frame,
      Nat.reduceAnd]
    | split | dsimp only)
@[simp ↓] theorem State.tareEnd_frame (s) (a1) (a2) (a3) (a4) {H : Nat} (h : H &&& 536870946 = 536870946) :
    (State.tareEnd s a1 a2 a3 a4).without H = s.without H := by
  refine lift h ?_
  unfold State.tareEnd
  repeat' (first
    | with_reducible rfl | with_reducible (refine without_ite ?_ ?_)
    | simp only [↓State.complete_frame, ↓State.modBridge_frame, ↓State.dirty_frame, Nat.reduceAnd]
    | split | dsimp only)
@[simp ↓] theorem State.bridgeSample_frame (s) (a1) {H : Nat} (h : H &&& 536875066 = 536875066) :
    (State.bridgeSample s a1).without H = s.without H := by
  refine lift h ?_
  unfold State.bridgeSample
  repeat' (first
    | with_reducible rfl | with_reducible (refine without_ite ?_ ?_)
    | simp only [↓State.modBridge_frame, ↓State.clearFault_frame, ↓State.setSig_frame, ↓State.tareEnd_frame,
      Nat.reduceAnd]
    | split | dsimp only)
@[simp ↓] theorem State.supFaultLinked_frame (s) (a1) {H : Nat} (h : H &&& 48 = 48) :
    (State.supFaultLinked s a1).without H = s.without H := by
  refine lift h ?_
  unfold State.supFaultLinked
  repeat' (first
    | with_reducible rfl | with_reducible (refine without_ite ?_ ?_) | with_reducible (refine (foldl_frame _ (fun a x => ?_) _ _).trans ?_) | with_reducible (refine (foldl_fst_frame _ (fun a x => ?_) _ _).trans ?_)
    | simp only [↓State.modAin_frame, ↓State.modFlags_frame, ↓State.modFreq_frame, Nat.reduceAnd]
    | split | dsimp only)
@[simp ↓] theorem State.ainConvert_frame (a0) (s) (a2) {H : Nat} (h : H &&& 4154 = 4154) :
    (State.ainConvert a0 s a2).without H = s.without H := by
  refine lift h ?_
  unfold State.ainConvert
  repeat' (first
    | with_reducible rfl | with_reducible (refine without_ite ?_ ?_) | with_reducible (refine (foldl_frame _ (fun a x => ?_) _ _).trans ?_) | with_reducible (refine (foldl_fst_frame _ (fun a x => ?_) _ _).trans ?_)
    | simp only [↓State.modAin_frame, ↓State.clearFault_frame, ↓State.setSig_frame, Nat.reduceAnd]
    | split | dsimp only)
@[simp ↓] theorem State.levelStep_frame (s) (a1) (a2) (a3) {H : Nat} (h : H &&& 32 = 32) :
    (State.levelStep s a1 a2 a3).without H = s.without H := by
  refine lift h ?_
  unfold State.levelStep
  repeat' (first
    | with_reducible rfl | with_reducible (refine without_ite ?_ ?_)
    | simp only [↓State.modFreq_frame, Nat.reduceAnd]
    | split | dsimp only)
@[simp ↓] theorem State.quadStep_frame (s) (a1) (a2) (a3) (a4) {H : Nat} (h : H &&& 18874410 = 18874410) :
    (State.quadStep s a1 a2 a3 a4).without H = s.without H := by
  refine lift h ?_
  unfold State.quadStep
  repeat' (first
    | with_reducible rfl | with_reducible (refine without_ite ?_ ?_)
    | simp only [↓State.modFreq_frame, ↓State.raiseEv_frame, ↓State.clearFault_frame, Nat.reduceAnd]
    | split | dsimp only)
@[simp ↓] theorem State.senseAbort_frame (s) (a1) {H : Nat} (h : H &&& 536870946 = 536870946) :
    (State.senseAbort s a1).without H = s.without H := by
  refine lift h ?_
  unfold State.senseAbort
  repeat' (first
    | with_reducible rfl | with_reducible (refine without_ite ?_ ?_) | with_reducible (refine (foldl_frame _ (fun a x => ?_) _ _).trans ?_) | with_reducible (refine (foldl_fst_frame _ (fun a x => ?_) _ _).trans ?_)
    | simp only [↓State.snipEnd_frame, ↓State.complete_frame, ↓State.modLoss_frame, ↓State.tareEnd_frame, Nat.reduceAnd]
    | split | dsimp only)
@[simp ↓] theorem State.modCan_frame (s) (a1) (a2) {H : Nat} (h : H &&& 262144 = 262144) :
    (State.modCan s a1 a2).without H = s.without H := by
  refine lift h ?_
  unfold State.modCan
  repeat' (first
    | with_reducible rfl | with_reducible (refine without_ite ?_ ?_)
    | simp only [↓without_can, Nat.reduceAnd]
    | split | dsimp only)
@[simp ↓] theorem State.modEth_frame (s) (a1) (a2) {H : Nat} (h : H &&& 524288 = 524288) :
    (State.modEth s a1 a2).without H = s.without H := by
  refine lift h ?_
  unfold State.modEth
  repeat' (first
    | with_reducible rfl | with_reducible (refine without_ite ?_ ?_)
    | simp only [↓without_eth, Nat.reduceAnd]
    | split | dsimp only)
@[simp ↓] theorem State.modNet_frame (s) (a1) (a2) {H : Nat} (h : H &&& 1048576 = 1048576) :
    (State.modNet s a1 a2).without H = s.without H := by
  refine lift h ?_
  unfold State.modNet
  repeat' (first
    | with_reducible rfl | with_reducible (refine without_ite ?_ ?_)
    | simp only [↓without_nm, Nat.reduceAnd]
    | split | dsimp only)
@[simp ↓] theorem State.keeperSend_frame (s) (a1) (a2) (a3) {H : Nat} (h : H &&& 262144 = 262144) :
    (State.keeperSend s a1 a2 a3).without H = s.without H := by
  refine lift h ?_
  unfold State.keeperSend
  repeat' (first
    | with_reducible rfl | with_reducible (refine without_ite ?_ ?_)
    | simp only [↓State.modCan_frame, Nat.reduceAnd]
    | split | dsimp only)
@[simp ↓] theorem State.canSleep_frame (s) (a1) {H : Nat} (h : H &&& 262144 = 262144) :
    (State.canSleep s a1).without H = s.without H := by
  refine lift h ?_
  unfold State.canSleep
  repeat' (first
    | with_reducible rfl | with_reducible (refine without_ite ?_ ?_)
    | simp only [↓State.modCan_frame, Nat.reduceAnd]
    | split | dsimp only)
@[simp ↓] theorem State.canWake_frame (s) (a1) {H : Nat} (h : H &&& 262144 = 262144) :
    (State.canWake s a1).without H = s.without H := by
  refine lift h ?_
  unfold State.canWake
  repeat' (first
    | with_reducible rfl | with_reducible (refine without_ite ?_ ?_)
    | simp only [↓State.modCan_frame, Nat.reduceAnd]
    | split | dsimp only)
@[simp ↓] theorem State.portSleep_frame (s) (a1) {H : Nat} (h : H &&& 524290 = 524290) :
    (State.portSleep s a1).without H = s.without H := by
  refine lift h ?_
  unfold State.portSleep
  repeat' (first
    | with_reducible rfl | with_reducible (refine without_ite ?_ ?_)
    | simp only [↓State.modEth_frame, ↓State.post_frame, Nat.reduceAnd]
    | split | dsimp only)
@[simp ↓] theorem State.portWake_frame (s) (a1) {H : Nat} (h : H &&& 524288 = 524288) :
    (State.portWake s a1).without H = s.without H := by
  refine lift h ?_
  unfold State.portWake
  repeat' (first
    | with_reducible rfl | with_reducible (refine without_ite ?_ ?_)
    | simp only [↓State.modEth_frame, Nat.reduceAnd]
    | split | dsimp only)
@[simp ↓] theorem State.nmState_frame (s) (a1) (a2) {H : Nat} (h : H &&& 1048578 = 1048578) :
    (State.nmState s a1 a2).without H = s.without H := by
  refine lift h ?_
  unfold State.nmState
  repeat' (first
    | with_reducible rfl | with_reducible (refine without_ite ?_ ?_)
    | simp only [↓State.post_frame, ↓State.modNet_frame, Nat.reduceAnd]
    | split | dsimp only)
@[simp ↓] theorem State.nmIdle_frame (s) (a1) {H : Nat} (h : H &&& 1048578 = 1048578) :
    (State.nmIdle s a1).without H = s.without H := by
  refine lift h ?_
  unfold State.nmIdle
  repeat' (first
    | with_reducible rfl | with_reducible (refine without_ite ?_ ?_)
    | simp only [↓State.nmState_frame, Nat.reduceAnd]
    | split | dsimp only)
@[simp ↓] theorem State.nmSend_frame (s) (a1) (a2) (a3) (a4) {H : Nat} (h : H &&& 1310720 = 1310720) :
    (State.nmSend s a1 a2 a3 a4).without H = s.without H := by
  refine lift h ?_
  unfold State.nmSend
  repeat' (first
    | with_reducible rfl | with_reducible (refine without_ite ?_ ?_)
    | simp only [↓State.keeperSend_frame, ↓State.modNet_frame, Nat.reduceAnd]
    | split | dsimp only)
@[simp ↓] theorem State.nmExchange_frame (s) (a1) (a2) {H : Nat} (h : H &&& 1048576 = 1048576) :
    (State.nmExchange s a1 a2).without H = s.without H := by
  refine lift h ?_
  unfold State.nmExchange
  repeat' (first
    | with_reducible rfl | with_reducible (refine without_ite ?_ ?_)
    | simp only [↓State.modNet_frame, Nat.reduceAnd]
    | split | dsimp only)
@[simp ↓] theorem State.nmAlive_frame (s) (a1) {H : Nat} (h : H &&& 1310720 = 1310720) :
    (State.nmAlive s a1).without H = s.without H := by
  refine lift h ?_
  unfold State.nmAlive
  repeat' (first
    | with_reducible rfl | with_reducible (refine without_ite ?_ ?_)
    | simp only [↓State.nmSend_frame, ↓State.nmExchange_frame, ↓State.modNet_frame, Nat.reduceAnd]
    | split | dsimp only)
@[simp ↓] theorem State.nmAborted_frame (s) (a1) (a2) (a3) (a4) {H : Nat} (h : H &&& 1048578 = 1048578) :
    (State.nmAborted s a1 a2 a3 a4).without H = s.without H := by
  refine lift h ?_
  unfold State.nmAborted
  repeat' (first
    | with_reducible rfl | with_reducible (refine without_ite ?_ ?_)
    | simp only [↓State.modNet_frame, ↓State.post_frame, Nat.reduceAnd]
    | split | dsimp only)
@[simp ↓] theorem State.nmGap_frame (s) (a1) {H : Nat} (h : H &&& 1048578 = 1048578) :
    (State.nmGap s a1).without H = s.without H := by
  refine lift h ?_
  unfold State.nmGap
  repeat' (first
    | with_reducible rfl | with_reducible (refine without_ite ?_ ?_)
    | simp only [↓State.modNet_frame, ↓State.nmState_frame, Nat.reduceAnd]
    | split | dsimp only)
@[simp ↓] theorem State.nmGapWake_frame (s) (a1) (a2) {H : Nat} (h : H &&& 1835010 = 1835010) :
    (State.nmGapWake s a1 a2).without H = s.without H := by
  refine lift h ?_
  unfold State.nmGapWake
  repeat' (first
    | with_reducible rfl | with_reducible (refine without_ite ?_ ?_) | with_reducible (refine (foldl_frame _ (fun a x => ?_) _ _).trans ?_) | with_reducible (refine (foldl_fst_frame _ (fun a x => ?_) _ _).trans ?_)
    | simp only [↓State.nmSend_frame, ↓State.nmAborted_frame, ↓State.modNet_frame, ↓State.portWake_frame,
      ↓State.nmState_frame, ↓State.canWake_frame, Nat.reduceAnd]
    | split | dsimp only)
@[simp ↓] theorem State.nmWake_frame (s) (a1) (a2) {H : Nat} (h : H &&& 1835010 = 1835010) :
    (State.nmWake s a1 a2).without H = s.without H := by
  refine lift h ?_
  unfold State.nmWake
  repeat' (first
    | with_reducible rfl | with_reducible (refine without_ite ?_ ?_) | with_reducible (refine (foldl_frame _ (fun a x => ?_) _ _).trans ?_) | with_reducible (refine (foldl_fst_frame _ (fun a x => ?_) _ _).trans ?_)
    | simp only [↓State.portWake_frame, ↓State.canWake_frame, ↓State.modNet_frame, ↓State.nmAlive_frame,
      ↓State.nmState_frame, Nat.reduceAnd]
    | split | dsimp only)
@[simp ↓] theorem State.nmEval_frame (s) (a1) {H : Nat} (h : H &&& 1835010 = 1835010) :
    (State.nmEval s a1).without H = s.without H := by
  refine lift h ?_
  unfold State.nmEval
  repeat' (first
    | with_reducible rfl | with_reducible (refine without_ite ?_ ?_)
    | simp only [↓State.modNet_frame, ↓State.nmState_frame, ↓State.nmAborted_frame, ↓State.nmSend_frame,
      ↓State.nmGapWake_frame, ↓State.nmWake_frame, Nat.reduceAnd]
    | split | dsimp only)
@[simp ↓] theorem State.nmEvalAll_frame (s) {H : Nat} (h : H &&& 1835010 = 1835010) :
    (State.nmEvalAll s).without H = s.without H := by
  refine lift h ?_
  unfold State.nmEvalAll
  repeat' (first
    | with_reducible rfl | with_reducible (refine without_ite ?_ ?_) | with_reducible (refine (foldl_frame _ (fun a x => ?_) _ _).trans ?_) | with_reducible (refine (foldl_fst_frame _ (fun a x => ?_) _ _).trans ?_)
    | simp only [↓State.nmEval_frame, Nat.reduceAnd]
    | split | dsimp only)
@[simp ↓] theorem State.nmFrame_frame (s) (a1) {H : Nat} (h : H &&& 1835010 = 1835010) :
    (State.nmFrame s a1).without H = s.without H := by
  refine lift h ?_
  unfold State.nmFrame
  repeat' (first
    | with_reducible rfl | with_reducible (refine without_ite ?_ ?_)
    | simp only [↓State.nmGapWake_frame, Nat.reduceAnd]
    | split | dsimp only)
@[simp ↓] theorem State.nmAliveSeen_frame (s) (a1) (a2) {H : Nat} (h : H &&& 1310722 = 1310722) :
    (State.nmAliveSeen s a1 a2).without H = s.without H := by
  refine lift h ?_
  unfold State.nmAliveSeen
  repeat' (first
    | with_reducible rfl | with_reducible (refine without_ite ?_ ?_)
    | simp only [↓State.nmIdle_frame, ↓State.nmAborted_frame, ↓State.nmExchange_frame, ↓State.modNet_frame,
      ↓State.nmAlive_frame, Nat.reduceAnd]
    | split | dsimp only)
@[simp ↓] theorem State.nmRingSeen_frame (s) (a1) (a2) (a3) (a4) (a5) {H : Nat} (h : H &&& 1835018 = 1835018) :
    (State.nmRingSeen s a1 a2 a3 a4 a5).without H = s.without H := by
  refine lift h ?_
  unfold State.nmRingSeen
  repeat' (first
    | with_reducible rfl | with_reducible (refine without_ite ?_ ?_)
    | simp only [↓State.modNet_frame, ↓State.clearFault_frame, ↓State.nmEval_frame, ↓State.nmGap_frame,
      ↓State.nmState_frame, ↓State.nmIdle_frame, ↓State.nmAborted_frame, ↓State.nmAlive_frame, Nat.reduceAnd]
    | split | dsimp only)
@[simp ↓] theorem State.nmParkStart_frame (s) {H : Nat} (h : H &&& 786434 = 786434) :
    (State.nmParkStart s).without H = s.without H := by
  refine lift h ?_
  unfold State.nmParkStart
  repeat' (first
    | with_reducible rfl | with_reducible (refine without_ite ?_ ?_) | with_reducible (refine (foldl_frame _ (fun a x => ?_) _ _).trans ?_) | with_reducible (refine (foldl_fst_frame _ (fun a x => ?_) _ _).trans ?_)
    | simp only [↓State.portSleep_frame, ↓State.canSleep_frame, Nat.reduceAnd]
    | split | dsimp only)
@[simp ↓] theorem State.nmParkAbandon_frame (s) {H : Nat} (h : H &&& 1835010 = 1835010) :
    (State.nmParkAbandon s).without H = s.without H := by
  refine lift h ?_
  unfold State.nmParkAbandon
  repeat' (first
    | with_reducible rfl | with_reducible (refine without_ite ?_ ?_) | with_reducible (refine (foldl_frame _ (fun a x => ?_) _ _).trans ?_) | with_reducible (refine (foldl_fst_frame _ (fun a x => ?_) _ _).trans ?_)
    | simp only [↓State.nmEvalAll_frame, ↓State.portWake_frame, ↓State.canWake_frame, Nat.reduceAnd]
    | split | dsimp only)
@[simp ↓] theorem State.nmLapse_frame (s) (a1) {H : Nat} (h : H &&& 1835010 = 1835010) :
    (State.nmLapse s a1).without H = s.without H := by
  refine lift h ?_
  unfold State.nmLapse
  repeat' (first
    | with_reducible rfl | with_reducible (refine without_ite ?_ ?_)
    | simp only [↓State.nmEvalAll_frame, ↓without_nm, Nat.reduceAnd]
    | split | dsimp only)
@[simp ↓] theorem State.nmTrunkStart_frame (s) (a1) {H : Nat} (h : H &&& 1835010 = 1835010) :
    (State.nmTrunkStart s a1).without H = s.without H := by
  refine lift h ?_
  unfold State.nmTrunkStart
  repeat' (first
    | with_reducible rfl | with_reducible (refine without_ite ?_ ?_) | with_reducible (refine (foldl_frame _ (fun a x => ?_) _ _).trans ?_) | with_reducible (refine (foldl_fst_frame _ (fun a x => ?_) _ _).trans ?_)
    | simp only [↓State.postAt_frame, ↓State.portWake_frame, ↓State.canWake_frame, ↓State.nmWake_frame,
      ↓State.nmEvalAll_frame, Nat.reduceAnd]
    | split | dsimp only)
@[simp ↓] theorem State.nmTrunkStop_frame (s) {H : Nat} (h : H &&& 786434 = 786434) :
    (State.nmTrunkStop s).without H = s.without H := by
  refine lift h ?_
  unfold State.nmTrunkStop
  repeat' (first
    | with_reducible rfl | with_reducible (refine without_ite ?_ ?_) | with_reducible (refine (foldl_frame _ (fun a x => ?_) _ _).trans ?_) | with_reducible (refine (foldl_fst_frame _ (fun a x => ?_) _ _).trans ?_)
    | simp only [↓State.portSleep_frame, ↓State.canSleep_frame, Nat.reduceAnd]
    | split | dsimp only)

end Sys2Proof.Machine
end

