-- ==== Sys2Proof/Laws/FrameOps1.lean ====
section
/-! SUPPORT. Laws/FrameOps1.lean: what each operation leaves alone. A mask has a bit for each piece of `Piece`. -/

set_option linter.all false

namespace Sys2Proof.Machine
@[simp ↓] theorem State.nmRestart_frame (s) {H : Nat} (h : H &&& 1048576 = 1048576) :
    (State.nmRestart s).without H = s.without H := by
  refine lift h ?_
  unfold State.nmRestart
  repeat' (first
    | with_reducible rfl | with_reducible (refine without_ite ?_ ?_)
    | simp only [↓without_nm, Nat.reduceAnd]
    | split | dsimp only)
@[simp ↓] theorem State.modOut_frame (s) (a1) (a2) {H : Nat} (h : H &&& 8192 = 8192) :
    (State.modOut s a1 a2).without H = s.without H := by
  refine lift h ?_
  unfold State.modOut
  repeat' (first
    | with_reducible rfl | with_reducible (refine without_ite ?_ ?_)
    | simp only [↓without_outs, Nat.reduceAnd]
    | split | dsimp only)
@[simp ↓] theorem State.modGroup_frame (s) (a1) (a2) {H : Nat} (h : H &&& 8192 = 8192) :
    (State.modGroup s a1 a2).without H = s.without H := by
  refine lift h ?_
  unfold State.modGroup
  repeat' (first
    | with_reducible rfl | with_reducible (refine without_ite ?_ ?_)
    | simp only [↓without_outs, Nat.reduceAnd]
    | split | dsimp only)
@[simp ↓] theorem State.modHb_frame (s) (a1) (a2) {H : Nat} (h : H &&& 8192 = 8192) :
    (State.modHb s a1 a2).without H = s.without H := by
  refine lift h ?_
  unfold State.modHb
  repeat' (first
    | with_reducible rfl | with_reducible (refine without_ite ?_ ?_)
    | simp only [↓without_outs, Nat.reduceAnd]
    | split | dsimp only)
@[simp ↓] theorem State.outOff_frame (s) (a1) {H : Nat} (h : H &&& 8192 = 8192) :
    (State.outOff s a1).without H = s.without H := by
  refine lift h ?_
  unfold State.outOff
  repeat' (first
    | with_reducible rfl | with_reducible (refine without_ite ?_ ?_)
    | simp only [↓State.modOut_frame, Nat.reduceAnd]
    | split | dsimp only)
@[simp ↓] theorem State.outOn_frame (s) (a1) (a2) (a3) {H : Nat} (h : H &&& 8192 = 8192) :
    (State.outOn s a1 a2 a3).without H = s.without H := by
  refine lift h ?_
  unfold State.outOn
  repeat' (first
    | with_reducible rfl | with_reducible (refine without_ite ?_ ?_)
    | simp only [↓State.modOut_frame, Nat.reduceAnd]
    | split | dsimp only)
@[simp ↓] theorem State.outDrive_frame (s) (a1) (a2) {H : Nat} (h : H &&& 8192 = 8192) :
    (State.outDrive s a1 a2).without H = s.without H := by
  refine lift h ?_
  unfold State.outDrive
  repeat' (first
    | with_reducible rfl | with_reducible (refine without_ite ?_ ?_)
    | simp only [↓State.outOff_frame, ↓State.outOn_frame, Nat.reduceAnd]
    | split | dsimp only)
@[simp ↓] theorem State.modPark_frame (s) (a1) (a2) {H : Nat} (h : H &&& 8192 = 8192) :
    (State.modPark s a1 a2).without H = s.without H := by
  refine lift h ?_
  unfold State.modPark
  repeat' (first
    | with_reducible rfl | with_reducible (refine without_ite ?_ ?_)
    | simp only [↓without_outs, Nat.reduceAnd]
    | split | dsimp only)
@[simp ↓] theorem State.parkGate_frame (s) (a1) {H : Nat} (h : H &&& 8192 = 8192) :
    (State.parkGate s a1).without H = s.without H := by
  refine lift h ?_
  unfold State.parkGate
  repeat' (first
    | with_reducible rfl | with_reducible (refine without_ite ?_ ?_)
    | simp only [↓State.modOut_frame, Nat.reduceAnd]
    | split | dsimp only)
@[simp ↓] theorem State.outGate_frame (s) (a1) (a2) {H : Nat} (h : H &&& 8192 = 8192) :
    (State.outGate s a1 a2).without H = s.without H := by
  refine lift h ?_
  unfold State.outGate
  repeat' (first
    | with_reducible rfl | with_reducible (refine without_ite ?_ ?_)
    | simp only [↓State.parkGate_frame, ↓State.outOff_frame, ↓State.outOn_frame, ↓State.outDrive_frame,
      ↓State.modOut_frame, Nat.reduceAnd]
    | split | dsimp only)
@[simp ↓] theorem State.darkMark_frame (s) (a1) {H : Nat} (h : H &&& 8192 = 8192) :
    (State.darkMark s a1).without H = s.without H := by
  refine lift h ?_
  unfold State.darkMark
  repeat' (first
    | with_reducible rfl | with_reducible (refine without_ite ?_ ?_)
    | simp only [↓State.modOut_frame, Nat.reduceAnd]
    | split | dsimp only)
@[simp ↓] theorem State.outEval_frame (s) (a1) (a2) {H : Nat} (h : H &&& 8192 = 8192) :
    (State.outEval s a1 a2).without H = s.without H := by
  refine lift h ?_
  unfold State.outEval
  repeat' (first
    | with_reducible rfl | with_reducible (refine without_ite ?_ ?_)
    | simp only [↓State.darkMark_frame, ↓State.outGate_frame, Nat.reduceAnd]
    | split | dsimp only)
@[simp ↓] theorem State.modSvc_frame (s) (a1) (a2) {H : Nat} (h : H &&& 32768 = 32768) :
    (State.modSvc s a1 a2).without H = s.without H := by
  refine lift h ?_
  unfold State.modSvc
  repeat' (first
    | with_reducible rfl | with_reducible (refine without_ite ?_ ?_)
    | simp only [↓without_body, Nat.reduceAnd]
    | split | dsimp only)
@[simp ↓] theorem State.bodyState_frame (s) (a1) (a2) {H : Nat} (h : H &&& 32770 = 32770) :
    (State.bodyState s a1 a2).without H = s.without H := by
  refine lift h ?_
  unfold State.bodyState
  repeat' (first
    | with_reducible rfl | with_reducible (refine without_ite ?_ ?_)
    | simp only [↓State.modSvc_frame, ↓State.post_frame, Nat.reduceAnd]
    | split | dsimp only)
@[simp ↓] theorem State.bodyMoveEnd_frame (s) (a1) (a2) {H : Nat} (h : H &&& 40962 = 40962) :
    (State.bodyMoveEnd s a1 a2).without H = s.without H := by
  refine lift h ?_
  unfold State.bodyMoveEnd
  repeat' (first
    | with_reducible rfl | with_reducible (refine without_ite ?_ ?_)
    | simp only [↓State.modHb_frame, ↓State.modSvc_frame, ↓State.bodyState_frame, Nat.reduceAnd]
    | split | dsimp only)
@[simp ↓] theorem State.hbEnd_frame (s) (a1) (a2) (a3) {H : Nat} (h : H &&& 40970 = 40970) :
    (State.hbEnd s a1 a2 a3).without H = s.without H := by
  refine lift h ?_
  unfold State.hbEnd
  repeat' (first
    | with_reducible rfl | with_reducible (refine without_ite ?_ ?_)
    | simp only [↓State.bodyMoveEnd_frame, ↓State.modHb_frame, ↓State.clearFault_frame, ↓State.complete_frame,
      Nat.reduceAnd]
    | split | dsimp only)
@[simp ↓] theorem State.modValve_frame (s) (a1) (a2) {H : Nat} (h : H &&& 128 = 128) :
    (State.modValve s a1 a2).without H = s.without H := by
  refine lift h ?_
  unfold State.modValve
  repeat' (first
    | with_reducible rfl | with_reducible (refine without_ite ?_ ?_)
    | simp only [↓without_valve, Nat.reduceAnd]
    | split | dsimp only)
@[simp ↓] theorem State.modBank_frame (s) (a1) (a2) {H : Nat} (h : H &&& 128 = 128) :
    (State.modBank s a1 a2).without H = s.without H := by
  refine lift h ?_
  unfold State.modBank
  repeat' (first
    | with_reducible rfl | with_reducible (refine without_ite ?_ ?_)
    | simp only [↓without_valve, Nat.reduceAnd]
    | split | dsimp only)
@[simp ↓] theorem State.modBoost_frame (s) (a1) (a2) {H : Nat} (h : H &&& 128 = 128) :
    (State.modBoost s a1 a2).without H = s.without H := by
  refine lift h ?_
  unfold State.modBoost
  repeat' (first
    | with_reducible rfl | with_reducible (refine without_ite ?_ ?_)
    | simp only [↓without_valve, Nat.reduceAnd]
    | split | dsimp only)
@[simp ↓] theorem State.startDone_frame (s) (a1) (a2) {H : Nat} (h : H &&& 130 = 130) :
    (State.startDone s a1 a2).without H = s.without H := by
  refine lift h ?_
  unfold State.startDone
  repeat' (first
    | with_reducible rfl | with_reducible (refine without_ite ?_ ?_)
    | simp only [↓State.complete_frame, ↓State.modValve_frame, Nat.reduceAnd]
    | split | dsimp only)
@[simp ↓] theorem State.railIs_frame (s) (a1) (a2) {H : Nat} (h : H &&& 128 = 128) :
    (State.railIs s a1 a2).without H = s.without H := by
  refine lift h ?_
  unfold State.railIs
  repeat' (first
    | with_reducible rfl | with_reducible (refine without_ite ?_ ?_)
    | simp only [↓State.modBoost_frame, Nat.reduceAnd]
    | split | dsimp only)
@[simp ↓] theorem State.bankChop_frame (s) (a1) {H : Nat} (h : H &&& 128 = 128) :
    (State.bankChop s a1).without H = s.without H := by
  refine lift h ?_
  unfold State.bankChop
  repeat' (first
    | with_reducible rfl | with_reducible (refine without_ite ?_ ?_) | with_reducible (refine (foldl_frame _ (fun a x => ?_) _ _).trans ?_) | with_reducible (refine (foldl_fst_frame _ (fun a x => ?_) _ _).trans ?_)
    | simp only [↓State.modValve_frame, Nat.reduceAnd]
    | split | dsimp only)
@[simp ↓] theorem State.hsSwitchOn_frame (s) (a1) {H : Nat} (h : H &&& 128 = 128) :
    (State.hsSwitchOn s a1).without H = s.without H := by
  refine lift h ?_
  unfold State.hsSwitchOn
  repeat' (first
    | with_reducible rfl | with_reducible (refine without_ite ?_ ?_)
    | simp only [↓State.modBank_frame, Nat.reduceAnd]
    | split | dsimp only)
@[simp ↓] theorem State.bankHs_frame (s) (a1) {H : Nat} (h : H &&& 128 = 128) :
    (State.bankHs s a1).without H = s.without H := by
  refine lift h ?_
  unfold State.bankHs
  repeat' (first
    | with_reducible rfl | with_reducible (refine without_ite ?_ ?_)
    | simp only [↓State.bankChop_frame, ↓State.modBank_frame, ↓State.hsSwitchOn_frame, Nat.reduceAnd]
    | split | dsimp only)
@[simp ↓] theorem State.peakStart_frame (s) (a1) (a2) (a3) {H : Nat} (h : H &&& 130 = 130) :
    (State.peakStart s a1 a2 a3).without H = s.without H := by
  refine lift h ?_
  unfold State.peakStart
  repeat' (first
    | with_reducible rfl | with_reducible (refine without_ite ?_ ?_)
    | simp only [↓State.startDone_frame, ↓State.bankHs_frame, ↓State.modValve_frame, Nat.reduceAnd]
    | split | dsimp only)
@[simp ↓] theorem State.freeSlots_frame (s) (a1) {H : Nat} (h : H &&& 128 = 128) :
    (State.freeSlots s a1).without H = s.without H := by
  refine lift h ?_
  unfold State.freeSlots
  repeat' (first
    | with_reducible rfl | with_reducible (refine without_ite ?_ ?_)
    | simp only [↓State.modBank_frame, Nat.reduceAnd]
    | split | dsimp only)
@[simp ↓] theorem State.valveOff_frame (s) (a1) {H : Nat} (h : H &&& 128 = 128) :
    (State.valveOff s a1).without H = s.without H := by
  refine lift h ?_
  unfold State.valveOff
  repeat' (first
    | with_reducible rfl | with_reducible (refine without_ite ?_ ?_)
    | simp only [↓State.modValve_frame, ↓State.bankHs_frame, ↓State.freeSlots_frame, Nat.reduceAnd]
    | split | dsimp only)
@[simp ↓] theorem State.dropReq_frame (s) (a1) (a2) {H : Nat} (h : H &&& 130 = 130) :
    (State.dropReq s a1 a2).without H = s.without H := by
  refine lift h ?_
  unfold State.dropReq
  repeat' (first
    | with_reducible rfl | with_reducible (refine without_ite ?_ ?_)
    | simp only [↓State.startDone_frame, ↓State.modValve_frame, ↓State.bankHs_frame, ↓State.freeSlots_frame,
      Nat.reduceAnd]
    | split | dsimp only)
@[simp ↓] theorem State.deferRefuse_frame (s) (a1) {H : Nat} (h : H &&& 18874506 = 18874506) :
    (State.deferRefuse s a1).without H = s.without H := by
  refine lift h ?_
  unfold State.deferRefuse
  repeat' (first
    | with_reducible rfl | with_reducible (refine without_ite ?_ ?_)
    | simp only [↓State.dropReq_frame, ↓State.raiseEv_frame, Nat.reduceAnd]
    | split | dsimp only)
@[simp ↓] theorem State.headExpire_frame (s) (a1) {H : Nat} (h : H &&& 18874506 = 18874506) :
    (State.headExpire s a1).without H = s.without H := by
  refine lift h ?_
  unfold State.headExpire
  repeat' (first
    | with_reducible rfl | with_reducible (refine without_ite ?_ ?_)
    | simp only [↓State.dropReq_frame, ↓State.deferRefuse_frame, Nat.reduceAnd]
    | split | dsimp only)
@[simp ↓] theorem State.takeSlots_frame (s) (a1) {H : Nat} (h : H &&& 18874506 = 18874506) :
    (State.takeSlots s a1).1.without H = s.without H := by
  refine lift h ?_
  unfold State.takeSlots
  repeat' (first
    | with_reducible rfl | with_reducible (refine without_ite ?_ ?_) | with_reducible (refine without_ite_fst ?_ ?_) | with_reducible (refine (foldl_frame _ (fun a x => ?_) _ _).trans ?_) | with_reducible (refine (foldl_fst_frame _ (fun a x => ?_) _ _).trans ?_)
    | simp only [↓State.headExpire_frame, ↓State.modBank_frame, ↓State.clearFault_frame, ↓State.modValve_frame,
      Nat.reduceAnd]
    | split | dsimp only)
@[simp ↓] theorem State.valveAdvance_frame (s) (a1) {H : Nat} (h : H &&& 18874506 = 18874506) :
    (State.valveAdvance s a1).without H = s.without H := by
  refine lift h ?_
  unfold State.valveAdvance
  repeat' (first
    | with_reducible rfl | with_reducible (refine without_ite ?_ ?_)
    | simp only [↓State.takeSlots_frame, ↓State.peakStart_frame, ↓State.clearFault_frame, Nat.reduceAnd]
    | split | dsimp only)
@[simp ↓] theorem State.cutStart_frame (s) (a1) {H : Nat} (h : H &&& 128 = 128) :
    (State.cutStart s a1).without H = s.without H := by
  refine lift h ?_
  unfold State.cutStart
  repeat' (first
    | with_reducible rfl | with_reducible (refine without_ite ?_ ?_) | with_reducible (refine (foldl_frame _ (fun a x => ?_) _ _).trans ?_) | with_reducible (refine (foldl_fst_frame _ (fun a x => ?_) _ _).trans ?_)
    | simp only [↓State.modValve_frame, ↓State.freeSlots_frame, ↓State.modBank_frame, Nat.reduceAnd]
    | split | dsimp only)
@[simp ↓] theorem State.bankEval_frame (s) (a1) {H : Nat} (h : H &&& 130 = 130) :
    (State.bankEval s a1).without H = s.without H := by
  refine lift h ?_
  unfold State.bankEval
  repeat' (first
    | with_reducible rfl | with_reducible (refine without_ite ?_ ?_)
    | simp only [↓State.modBank_frame, ↓State.cutStart_frame, ↓State.post_frame, ↓State.bankHs_frame, Nat.reduceAnd]
    | split | dsimp only)
@[simp ↓] theorem State.safetyEval_frame (s) {H : Nat} (h : H &&& 40970 = 40970) :
    (State.safetyEval s).without H = s.without H := by
  refine lift h ?_
  unfold State.safetyEval
  repeat' (first
    | with_reducible rfl | with_reducible (refine without_ite ?_ ?_) | with_reducible (refine (foldl_frame _ (fun a x => ?_) _ _).trans ?_) | with_reducible (refine (foldl_fst_frame _ (fun a x => ?_) _ _).trans ?_)
    | simp only [↓State.modOut_frame, ↓State.post_frame, ↓State.modHb_frame, ↓State.hbEnd_frame, Nat.reduceAnd]
    | split | dsimp only)
@[simp ↓] theorem State.refreshGates_frame (s) {H : Nat} (h : H &&& 41098 = 41098) :
    (State.refreshGates s).without H = s.without H := by
  refine lift h ?_
  unfold State.refreshGates
  repeat' (first
    | with_reducible rfl | with_reducible (refine without_ite ?_ ?_) | with_reducible (refine (foldl_frame _ (fun a x => ?_) _ _).trans ?_) | with_reducible (refine (foldl_fst_frame _ (fun a x => ?_) _ _).trans ?_)
    | simp only [↓State.safetyEval_frame, ↓State.outEval_frame, ↓State.bankEval_frame, Nat.reduceAnd]
    | split | dsimp only)
@[simp ↓] theorem State.applyPolicy_frame (s) (a1) (a2) {H : Nat} (h : H &&& 40970 = 40970) :
    (State.applyPolicy s a1 a2).without H = s.without H := by
  refine lift h ?_
  unfold State.applyPolicy
  repeat' (first
    | with_reducible rfl | with_reducible (refine without_ite ?_ ?_) | with_reducible (refine (foldl_frame _ (fun a x => ?_) _ _).trans ?_) | with_reducible (refine (foldl_fst_frame _ (fun a x => ?_) _ _).trans ?_)
    | simp only [↓State.outEval_frame, ↓State.modOut_frame, ↓State.hbEnd_frame, Nat.reduceAnd]
    | split | dsimp only)
@[simp ↓] theorem State.outsRootFault_frame (s) {H : Nat} (h : H &&& 40970 = 40970) :
    (State.outsRootFault s).without H = s.without H := by
  refine lift h ?_
  unfold State.outsRootFault
  repeat' (first
    | with_reducible rfl | with_reducible (refine without_ite ?_ ?_)
    | simp only [↓State.applyPolicy_frame, Nat.reduceAnd]
    | split | dsimp only)
@[simp ↓] theorem State.outsOwnerRestart_frame (s) (a1) {H : Nat} (h : H &&& 40970 = 40970) :
    (State.outsOwnerRestart s a1).without H = s.without H := by
  refine lift h ?_
  unfold State.outsOwnerRestart
  repeat' (first
    | with_reducible rfl | with_reducible (refine without_ite ?_ ?_)
    | simp only [↓State.applyPolicy_frame, Nat.reduceAnd]
    | split | dsimp only)
@[simp ↓] theorem State.trunkActuators_frame (s) {H : Nat} (h : H &&& 8320 = 8320) :
    (State.trunkActuators s).without H = s.without H := by
  refine lift h ?_
  unfold State.trunkActuators
  repeat' (first
    | with_reducible rfl | with_reducible (refine without_ite ?_ ?_)
    | simp only [↓without_m8320, Nat.reduceAnd]
    | split | dsimp only)
@[simp ↓] theorem State.parkSlotsOff_frame (s) {H : Nat} (h : H &&& 8192 = 8192) :
    (State.parkSlotsOff s).without H = s.without H := by
  refine lift h ?_
  unfold State.parkSlotsOff
  repeat' (first
    | with_reducible rfl | with_reducible (refine without_ite ?_ ?_)
    | simp only [↓without_outs, Nat.reduceAnd]
    | split | dsimp only)
@[simp ↓] theorem State.outsTrunkReset_frame (s) {H : Nat} (h : H &&& 8320 = 8320) :
    (State.outsTrunkReset s).without H = s.without H := by
  refine lift h ?_
  unfold State.outsTrunkReset
  repeat' (first
    | with_reducible rfl | with_reducible (refine without_ite ?_ ?_) | with_reducible (refine (foldl_frame _ (fun a x => ?_) _ _).trans ?_) | with_reducible (refine (foldl_fst_frame _ (fun a x => ?_) _ _).trans ?_)
    | simp only [↓State.modOut_frame, ↓State.trunkActuators_frame, ↓State.parkSlotsOff_frame, Nat.reduceAnd]
    | split | dsimp only)
@[simp ↓] theorem State.outsPark_frame (s) {H : Nat} (h : H &&& 8320 = 8320) :
    (State.outsPark s).without H = s.without H := by
  refine lift h ?_
  unfold State.outsPark
  repeat' (first
    | with_reducible rfl | with_reducible (refine without_ite ?_ ?_) | with_reducible (refine (foldl_frame _ (fun a x => ?_) _ _).trans ?_) | with_reducible (refine (foldl_fst_frame _ (fun a x => ?_) _ _).trans ?_)
    | simp only [↓State.modOut_frame, ↓State.trunkActuators_frame, ↓State.parkSlotsOff_frame, ↓without_outs,
      Nat.reduceAnd]
    | split | dsimp only)
@[simp ↓] theorem State.outsShutdown_frame (s) {H : Nat} (h : H &&& 8320 = 8320) :
    (State.outsShutdown s).without H = s.without H := by
  refine lift h ?_
  unfold State.outsShutdown
  repeat' (first
    | with_reducible rfl | with_reducible (refine without_ite ?_ ?_) | with_reducible (refine (foldl_frame _ (fun a x => ?_) _ _).trans ?_) | with_reducible (refine (foldl_fst_frame _ (fun a x => ?_) _ _).trans ?_)
    | simp only [↓State.modOut_frame, ↓State.trunkActuators_frame, ↓State.parkSlotsOff_frame, Nat.reduceAnd]
    | split | dsimp only)
@[simp ↓] theorem State.studResume_frame (s) (a1) {H : Nat} (h : H &&& 8192 = 8192) :
    (State.studResume s a1).without H = s.without H := by
  refine lift h ?_
  unfold State.studResume
  repeat' (first
    | with_reducible rfl | with_reducible (refine without_ite ?_ ?_) | with_reducible (refine (foldl_frame _ (fun a x => ?_) _ _).trans ?_) | with_reducible (refine (foldl_fst_frame _ (fun a x => ?_) _ _).trans ?_)
    | simp only [↓State.modOut_frame, Nat.reduceAnd]
    | split | dsimp only)
@[simp ↓] theorem State.outsCold_frame (s) (a1) {H : Nat} (h : H &&& 8192 = 8192) :
    (State.outsCold s a1).without H = s.without H := by
  refine lift h ?_
  unfold State.outsCold
  repeat' (first
    | with_reducible rfl | with_reducible (refine without_ite ?_ ?_) | with_reducible (refine (foldl_frame _ (fun a x => ?_) _ _).trans ?_) | with_reducible (refine (foldl_fst_frame _ (fun a x => ?_) _ _).trans ?_)
    | simp only [↓without_outs, Nat.reduceAnd]
    | split | dsimp only)
@[simp ↓] theorem State.valveCold_frame (s) (a1) {H : Nat} (h : H &&& 128 = 128) :
    (State.valveCold s a1).without H = s.without H := by
  refine lift h ?_
  unfold State.valveCold
  repeat' (first
    | with_reducible rfl | with_reducible (refine without_ite ?_ ?_) | with_reducible (refine (foldl_frame _ (fun a x => ?_) _ _).trans ?_) | with_reducible (refine (foldl_fst_frame _ (fun a x => ?_) _ _).trans ?_)
    | simp only [↓without_valve, Nat.reduceAnd]
    | split | dsimp only)
@[simp ↓] theorem State.release_frame (s) (a1) (a2) (a3) {H : Nat} (h : H &&& 12432 = 12432) :
    (State.release s a1 a2 a3).without H = s.without H := by
  refine lift h ?_
  unfold State.release
  repeat' (first
    | with_reducible rfl | with_reducible (refine without_ite ?_ ?_)
    | simp only [↓State.bankHs_frame, ↓State.modValve_frame, ↓State.outEval_frame, ↓State.modOut_frame,
      ↓State.setSig_frame, Nat.reduceAnd]
    | split | dsimp only)
@[simp ↓] theorem State.unrelease_frame (s) (a1) (a2) {H : Nat} (h : H &&& 8320 = 8320) :
    (State.unrelease s a1 a2).without H = s.without H := by
  refine lift h ?_
  unfold State.unrelease
  repeat' (first
    | with_reducible rfl | with_reducible (refine without_ite ?_ ?_)
    | simp only [↓State.bankHs_frame, ↓State.modValve_frame, ↓State.outEval_frame, ↓State.modOut_frame, Nat.reduceAnd]
    | split | dsimp only)
@[simp ↓] theorem State.extract_frame (s) (a1) (a2) (a3) {H : Nat} (h : H &&& 4112 = 4112) :
    (State.extract s a1 a2 a3).1.without H = s.without H := by
  refine lift h ?_
  unfold State.extract
  repeat' (first
    | with_reducible rfl | with_reducible (refine without_ite ?_ ?_) | with_reducible (refine without_ite_fst ?_ ?_)
    | simp only [↓State.setSig_frame, Nat.reduceAnd]
    | split | dsimp only)
@[simp ↓] theorem State.packRaw_frame (s) (a1) {H : Nat} (h : H &&& 2147483648 = 2147483648) :
    (State.packRaw s a1).1.without H = s.without H := by
  refine lift h ?_
  unfold State.packRaw
  repeat' (first
    | with_reducible rfl | with_reducible (refine without_ite ?_ ?_) | with_reducible (refine without_ite_fst ?_ ?_)
    | simp only [↓State.drawNat_frame, Nat.reduceAnd]
    | split | dsimp only)
@[simp ↓] theorem State.panReplaced_frame (s) (a1) {H : Nat} (h : H &&& 262146 = 262146) :
    (State.panReplaced s a1).without H = s.without H := by
  refine lift h ?_
  unfold State.panReplaced
  repeat' (first
    | with_reducible rfl | with_reducible (refine without_ite ?_ ?_) | with_reducible (refine (foldl_frame _ (fun a x => ?_) _ _).trans ?_) | with_reducible (refine (foldl_fst_frame _ (fun a x => ?_) _ _).trans ?_)
    | simp only [↓State.modCan_frame, ↓State.complete_frame, ↓without_can, Nat.reduceAnd]
    | split | dsimp only)
@[simp ↓] theorem State.panStart_frame (s) (a1) {H : Nat} (h : H &&& 262144 = 262144) :
    (State.panStart s a1).without H = s.without H := by
  refine lift h ?_
  unfold State.panStart
  repeat' (first
    | with_reducible rfl | with_reducible (refine without_ite ?_ ?_)
    | simp only [↓State.modCan_frame, ↓without_can, Nat.reduceAnd]
    | split | dsimp only)
@[simp ↓] theorem State.panCommit_frame (s) (a1) {H : Nat} (h : H &&& 262146 = 262146) :
    (State.panCommit s a1).without H = s.without H := by
  refine lift h ?_
  unfold State.panCommit
  repeat' (first
    | with_reducible rfl | with_reducible (refine without_ite ?_ ?_) | with_reducible (refine (foldl_frame _ (fun a x => ?_) _ _).trans ?_) | with_reducible (refine (foldl_fst_frame _ (fun a x => ?_) _ _).trans ?_)
    | simp only [↓State.panReplaced_frame, ↓State.panStart_frame, ↓without_can, Nat.reduceAnd]
    | split | dsimp only)
@[simp ↓] theorem State.pantryLoad_frame (s) (a1) (a2) {H : Nat} (h : H &&& 537133058 = 537133058) :
    (State.pantryLoad s a1 a2).without H = s.without H := by
  refine lift h ?_
  unfold State.pantryLoad
  repeat' (first
    | with_reducible rfl | with_reducible (refine without_ite ?_ ?_)
    | simp only [↓State.dirty_frame, ↓State.panCommit_frame, Nat.reduceAnd]
    | split | dsimp only)
@[simp ↓] theorem State.modLoop_frame (s) (a1) (a2) {H : Nat} (h : H &&& 64 = 64) :
    (State.modLoop s a1 a2).without H = s.without H := by
  refine lift h ?_
  unfold State.modLoop
  repeat' (first
    | with_reducible rfl | with_reducible (refine without_ite ?_ ?_)
    | simp only [↓without_ctrl, Nat.reduceAnd]
    | split | dsimp only)
@[simp ↓] theorem State.modTrace_frame (s) (a1) (a2) {H : Nat} (h : H &&& 64 = 64) :
    (State.modTrace s a1 a2).without H = s.without H := by
  refine lift h ?_
  unfold State.modTrace
  repeat' (first
    | with_reducible rfl | with_reducible (refine without_ite ?_ ?_)
    | simp only [↓without_ctrl, Nat.reduceAnd]
    | split | dsimp only)
@[simp ↓] theorem State.exports_frame (s) (a1) {H : Nat} (h : H &&& 4112 = 4112) :
    (State.exports s a1).without H = s.without H := by
  refine lift h ?_
  unfold State.exports
  repeat' (first
    | with_reducible rfl | with_reducible (refine without_ite ?_ ?_) | with_reducible (refine (foldl_frame _ (fun a x => ?_) _ _).trans ?_) | with_reducible (refine (foldl_fst_frame _ (fun a x => ?_) _ _).trans ?_)
    | simp only [↓State.setSig_frame, Nat.reduceAnd]
    | split | dsimp only)
@[simp ↓] theorem State.traceStop_frame (s) (a1) {H : Nat} (h : H &&& 66 = 66) :
    (State.traceStop s a1).without H = s.without H := by
  refine lift h ?_
  unfold State.traceStop
  repeat' (first
    | with_reducible rfl | with_reducible (refine without_ite ?_ ?_)
    | simp only [↓State.modTrace_frame, ↓State.post_frame, Nat.reduceAnd]
    | split | dsimp only)
@[simp ↓] theorem State.traceTrig_frame (s) (a1) (a2) {H : Nat} (h : H &&& 66 = 66) :
    (State.traceTrig s a1 a2).without H = s.without H := by
  refine lift h ?_
  unfold State.traceTrig
  repeat' (first
    | with_reducible rfl | with_reducible (refine without_ite ?_ ?_) | with_reducible (refine (foldl_frame _ (fun a x => ?_) _ _).trans ?_) | with_reducible (refine (foldl_fst_frame _ (fun a x => ?_) _ _).trans ?_)
    | simp only [↓State.modTrace_frame, ↓State.traceStop_frame, Nat.reduceAnd]
    | split | dsimp only)
@[simp ↓] theorem State.traceSample_frame (s) (a1) {H : Nat} (h : H &&& 66 = 66) :
    (State.traceSample s a1).without H = s.without H := by
  refine lift h ?_
  unfold State.traceSample
  repeat' (first
    | with_reducible rfl | with_reducible (refine without_ite ?_ ?_) | with_reducible (refine (foldl_frame _ (fun a x => ?_) _ _).trans ?_) | with_reducible (refine (foldl_fst_frame _ (fun a x => ?_) _ _).trans ?_)
    | simp only [↓State.modTrace_frame, ↓State.traceStop_frame, Nat.reduceAnd]
    | split | dsimp only)
@[simp ↓] theorem State.slotState_frame (s) (a1) (a2) (a3) {H : Nat} (h : H &&& 66 = 66) :
    (State.slotState s a1 a2 a3).without H = s.without H := by
  refine lift h ?_
  unfold State.slotState
  repeat' (first
    | with_reducible rfl | with_reducible (refine without_ite ?_ ?_)
    | simp only [↓State.modLoop_frame, ↓State.traceTrig_frame, ↓State.post_frame, Nat.reduceAnd]
    | split | dsimp only)
@[simp ↓] theorem State.releaseAll_frame (s) (a1) (a2) {H : Nat} (h : H &&& 12432 = 12432) :
    (State.releaseAll s a1 a2).without H = s.without H := by
  refine lift h ?_
  unfold State.releaseAll
  repeat' (first
    | with_reducible rfl | with_reducible (refine without_ite ?_ ?_) | with_reducible (refine (foldl_frame _ (fun a x => ?_) _ _).trans ?_) | with_reducible (refine (foldl_fst_frame _ (fun a x => ?_) _ _).trans ?_)
    | simp only [↓State.release_frame, Nat.reduceAnd]
    | split | dsimp only)
@[simp ↓] theorem State.unreleaseAll_frame (s) (a1) {H : Nat} (h : H &&& 8320 = 8320) :
    (State.unreleaseAll s a1).without H = s.without H := by
  refine lift h ?_
  unfold State.unreleaseAll
  repeat' (first
    | with_reducible rfl | with_reducible (refine without_ite ?_ ?_) | with_reducible (refine (foldl_frame _ (fun a x => ?_) _ _).trans ?_) | with_reducible (refine (foldl_fst_frame _ (fun a x => ?_) _ _).trans ?_)
    | simp only [↓State.unrelease_frame, Nat.reduceAnd]
    | split | dsimp only)
@[simp ↓] theorem State.safeRelease_frame (s) (a1) (a2) (a3) {H : Nat} (h : H &&& 12496 = 12496) :
    (State.safeRelease s a1 a2 a3).without H = s.without H := by
  refine lift h ?_
  unfold State.safeRelease
  repeat' (first
    | with_reducible rfl | with_reducible (refine without_ite ?_ ?_)
    | simp only [↓State.modLoop_frame, ↓State.releaseAll_frame, ↓State.unreleaseAll_frame, Nat.reduceAnd]
    | split | dsimp only)
@[simp ↓] theorem State.numeric_frame (s) (a1) (a2) {H : Nat} (h : H &&& 18886874 = 18886874) :
    (State.numeric s a1 a2).without H = s.without H := by
  refine lift h ?_
  unfold State.numeric
  repeat' (first
    | with_reducible rfl | with_reducible (refine without_ite ?_ ?_)
    | simp only [↓State.modLoop_frame, ↓State.raiseEv_frame, ↓State.safeRelease_frame, ↓State.slotState_frame,
      Nat.reduceAnd]
    | split | dsimp only)
@[simp ↓] theorem State.doRelease_frame (s) (a1) (a2) (a3) (a4) (a5) {H : Nat} (h : H &&& 33566934 = 33566934) :
    (State.doRelease s a1 a2 a3 a4 a5).without H = s.without H := by
  refine lift h ?_
  unfold State.doRelease
  repeat' (first
    | with_reducible rfl | with_reducible (refine without_ite ?_ ?_)
    | simp only [↓State.waitTo_frame, ↓State.modLoop_frame, ↓State.releaseAll_frame, ↓State.slotState_frame,
      Nat.reduceAnd]
    | split | dsimp only)
@[simp ↓] theorem State.doMiss_frame (s) (a1) (a2) {H : Nat} (h : H &&& 52441310 = 52441310) :
    (State.doMiss s a1 a2).without H = s.without H := by
  refine lift h ?_
  unfold State.doMiss
  repeat' (first
    | with_reducible rfl | with_reducible (refine without_ite ?_ ?_)
    | simp only [↓State.modLoop_frame, ↓State.numeric_frame, ↓State.doRelease_frame, ↓State.raiseEv_frame, ↓without_ctrl,
      Nat.reduceAnd]
    | split | dsimp only)
@[simp ↓] theorem State.stepRefs_frame (s) (a1) (a2) {H : Nat} (h : H &&& 66 = 66) :
    (State.stepRefs s a1 a2).without H = s.without H := by
  refine lift h ?_
  unfold State.stepRefs
  repeat' (first
    | with_reducible rfl | with_reducible (refine without_ite ?_ ?_) | with_reducible (refine (foldl_frame _ (fun a x => ?_) _ _).trans ?_) | with_reducible (refine (foldl_fst_frame _ (fun a x => ?_) _ _).trans ?_)
    | simp only [↓State.modLoop_frame, ↓State.post_frame, ↓State.slotState_frame, Nat.reduceAnd]
    | split | dsimp only)
@[simp ↓] theorem State.doStage_frame (s) (a1) {H : Nat} (h : H &&& 52441310 = 52441310) :
    (State.doStage s a1).without H = s.without H := by
  refine lift h ?_
  unfold State.doStage
  repeat' (first
    | with_reducible rfl | with_reducible (refine without_ite ?_ ?_)
    | simp only [↓State.waitTo_frame, ↓State.modLoop_frame, ↓State.stepRefs_frame, ↓State.numeric_frame,
      ↓State.traceSample_frame, ↓State.exports_frame, ↓without_ctrl, Nat.reduceAnd]
    | split | dsimp only)
@[simp ↓] theorem State.laneTo_frame (a0 n) (s) {H : Nat} (h : H &&& 52441310 = 52441310) : (State.laneTo a0 n s).without H = s.without H := by
  refine lift h ?_
  clear h
  induction n generalizing s with
  | zero => rfl
  | succ n ih =>
    unfold State.laneTo
    repeat' (first
    | with_reducible rfl | with_reducible (refine without_ite ?_ ?_)
    | simp only [↓State.doMiss_frame, ↓State.doStage_frame, ih, Nat.reduceAnd]
    | split | dsimp only)
@[simp ↓] theorem State.laneMiss_frame (s) (a1) (a2) {H : Nat} (h : H &&& 52441310 = 52441310) :
    (State.laneMiss s a1 a2).without H = s.without H := by
  refine lift h ?_
  unfold State.laneMiss
  repeat' (first
    | with_reducible rfl | with_reducible (refine without_ite ?_ ?_)
    | simp only [↓State.doMiss_frame, ↓State.laneTo_frame, Nat.reduceAnd]
    | split | dsimp only)
@[simp ↓] theorem State.settle_frame (s) (a1) {H : Nat} (h : H &&& 52441310 = 52441310) :
    (State.settle s a1).without H = s.without H := by
  refine lift h ?_
  unfold State.settle
  repeat' (first
    | with_reducible rfl | with_reducible (refine without_ite ?_ ?_)
    | simp only [↓State.laneMiss_frame, ↓State.doStage_frame, ↓State.laneTo_frame, Nat.reduceAnd]
    | split | dsimp only)
@[simp ↓] theorem State.latchRefs_frame (s) (a1) (a2) {H : Nat} (h : H &&& 64 = 64) :
    (State.latchRefs s a1 a2).without H = s.without H := by
  refine lift h ?_
  unfold State.latchRefs
  repeat' (first
    | with_reducible rfl | with_reducible (refine without_ite ?_ ?_) | with_reducible (refine (foldl_frame _ (fun a x => ?_) _ _).trans ?_) | with_reducible (refine (foldl_fst_frame _ (fun a x => ?_) _ _).trans ?_)
    | simp only [↓State.modLoop_frame, Nat.reduceAnd]
    | split | dsimp only)
@[simp ↓] theorem State.latch_frame (s) (a1) (a2) {H : Nat} (h : H &&& 64 = 64) :
    (State.latch s a1 a2).1.without H = s.without H := by
  refine lift h ?_
  unfold State.latch
  repeat' (first
    | with_reducible rfl | with_reducible (refine without_ite ?_ ?_) | with_reducible (refine without_ite_fst ?_ ?_) | with_reducible (refine (foldl_frame _ (fun a x => ?_) _ _).trans ?_) | with_reducible (refine (foldl_fst_frame _ (fun a x => ?_) _ _).trans ?_)
    | simp only [↓State.modLoop_frame, Nat.reduceAnd]
    | split | dsimp only)
@[simp ↓] theorem State.plausible_frame (s) (a1) (a2) (a3) {H : Nat} (h : H &&& 18874442 = 18874442) :
    (State.plausible s a1 a2 a3).without H = s.without H := by
  refine lift h ?_
  unfold State.plausible
  repeat' (first
    | with_reducible rfl | with_reducible (refine without_ite ?_ ?_) | with_reducible (refine (foldl_frame _ (fun a x => ?_) _ _).trans ?_) | with_reducible (refine (foldl_fst_frame _ (fun a x => ?_) _ _).trans ?_)
    | simp only [↓State.modLoop_frame, ↓State.traceTrig_frame, ↓State.raiseEv_frame, Nat.reduceAnd]
    | split | dsimp only)
@[simp ↓] theorem State.missRate_frame (s) (a1) (a2) (a3) {H : Nat} (h : H &&& 66 = 66) :
    (State.missRate s a1 a2 a3).without H = s.without H := by
  refine lift h ?_
  unfold State.missRate
  repeat' (first
    | with_reducible rfl | with_reducible (refine without_ite ?_ ?_)
    | simp only [↓State.modLoop_frame, ↓State.post_frame, Nat.reduceAnd]
    | split | dsimp only)
@[simp ↓] theorem State.ctrlMiss_frame (s) (a1) {H : Nat} (h : H &&& 12496 = 12496) :
    (State.ctrlMiss s a1).without H = s.without H := by
  refine lift h ?_
  unfold State.ctrlMiss
  repeat' (first
    | with_reducible rfl | with_reducible (refine without_ite ?_ ?_)
    | simp only [↓State.modLoop_frame, ↓State.safeRelease_frame, Nat.reduceAnd]
    | split | dsimp only)
@[simp ↓] theorem State.slotEnter_frame (s) (a1) {H : Nat} (h : H &&& 8402 = 8402) :
    (State.slotEnter s a1).without H = s.without H := by
  refine lift h ?_
  unfold State.slotEnter
  repeat' (first
    | with_reducible rfl | with_reducible (refine without_ite ?_ ?_)
    | simp only [↓State.slotState_frame, ↓State.modLoop_frame, ↓State.unreleaseAll_frame, ↓State.zeroSigs_frame,
      Nat.reduceAnd]
    | split | dsimp only)
@[simp ↓] theorem State.loopBlock_frame (s) (a1) (a2) {H : Nat} (h : H &&& 12498 = 12498) :
    (State.loopBlock s a1 a2).without H = s.without H := by
  refine lift h ?_
  unfold State.loopBlock
  repeat' (first
    | with_reducible rfl | with_reducible (refine without_ite ?_ ?_)
    | simp only [↓State.modLoop_frame, ↓State.modHost_frame, ↓State.hostTurn_frame, ↓State.ctrlMiss_frame,
      ↓State.regionDone_frame, ↓State.regionWrite_frame, ↓State.hostPeriod_frame, implies_true, eq_self, Nat.reduceAnd]
    | split | dsimp only)
@[simp ↓] theorem State.hostRelease_frame (s) (a1) (a2) (a3) {H : Nat} (h : H &&& 33566934 = 33566934) :
    (State.hostRelease s a1 a2 a3).without H = s.without H := by
  refine lift h ?_
  unfold State.hostRelease
  repeat' (first
    | with_reducible rfl | with_reducible (refine without_ite ?_ ?_)
    | simp only [↓State.doRelease_frame, Nat.reduceAnd]
    | split | dsimp only)
@[simp ↓] theorem State.loopToHw_frame (s) (a1) {H : Nat} (h : H &&& 2 = 2) :
    (State.loopToHw s a1).without H = s.without H := by
  refine lift h ?_
  unfold State.loopToHw
  repeat' (first
    | with_reducible rfl | with_reducible (refine without_ite ?_ ?_)
    | simp only [↓State.modHost_frame, Nat.reduceAnd]
    | split | dsimp only)
@[simp ↓] theorem State.ctrlRestart_frame (s) {H : Nat} (h : H &&& 12498 = 12498) :
    (State.ctrlRestart s).without H = s.without H := by
  refine lift h ?_
  unfold State.ctrlRestart
  repeat' (first
    | with_reducible rfl | with_reducible (refine without_ite ?_ ?_) | with_reducible (refine (foldl_frame _ (fun a x => ?_) _ _).trans ?_) | with_reducible (refine (foldl_fst_frame _ (fun a x => ?_) _ _).trans ?_)
    | simp only [↓State.complete_frame, ↓State.regionAbort_frame, ↓State.safeRelease_frame, ↓without_ctrl, Nat.reduceAnd]
    | split | dsimp only)
@[simp ↓] theorem State.ctrlReady_frame (s) {H : Nat} (h : H &&& 8386 = 8386) :
    (State.ctrlReady s).without H = s.without H := by
  refine lift h ?_
  unfold State.ctrlReady
  repeat' (first
    | with_reducible rfl | with_reducible (refine without_ite ?_ ?_) | with_reducible (refine (foldl_frame _ (fun a x => ?_) _ _).trans ?_) | with_reducible (refine (foldl_fst_frame _ (fun a x => ?_) _ _).trans ?_)
    | simp only [↓State.slotState_frame, ↓State.unreleaseAll_frame, ↓State.modLoop_frame, Nat.reduceAnd]
    | split | dsimp only)
@[simp ↓] theorem State.valveOn2_frame (s) (a1) {H : Nat} (h : H &&& 130 = 130) :
    (State.valveOn2 s a1).without H = s.without H := by
  refine lift h ?_
  unfold State.valveOn2
  repeat' (first
    | with_reducible rfl | with_reducible (refine without_ite ?_ ?_)
    | simp only [↓State.startDone_frame, ↓State.modValve_frame, ↓State.bankHs_frame, Nat.reduceAnd]
    | split | dsimp only)
@[simp ↓] theorem State.valveEnter_frame (s) (a1) {H : Nat} (h : H &&& 130 = 130) :
    (State.valveEnter s a1).without H = s.without H := by
  refine lift h ?_
  unfold State.valveEnter
  repeat' (first
    | with_reducible rfl | with_reducible (refine without_ite ?_ ?_)
    | simp only [↓State.valveOn2_frame, ↓State.hsSwitchOn_frame, ↓State.modValve_frame, ↓State.modBank_frame,
      ↓State.bankHs_frame, Nat.reduceAnd]
    | split | dsimp only)
@[simp ↓] theorem State.notReady_frame (s) (a1) (a2) {H : Nat} (h : H &&& 18874506 = 18874506) :
    (State.notReady s a1 a2).without H = s.without H := by
  refine lift h ?_
  unfold State.notReady
  repeat' (first
    | with_reducible rfl | with_reducible (refine without_ite ?_ ?_)
    | simp only [↓State.modBoost_frame, ↓State.raiseEv_frame, Nat.reduceAnd]
    | split | dsimp only)
@[simp ↓] theorem State.valveSignal_frame (s) (a1) (a2) {H : Nat} (h : H &&& 4112 = 4112) :
    (State.valveSignal s a1 a2).without H = s.without H := by
  refine lift h ?_
  unfold State.valveSignal
  repeat' (first
    | with_reducible rfl | with_reducible (refine without_ite ?_ ?_)
    | simp only [↓State.setSig_frame, Nat.reduceAnd]
    | split | dsimp only)
@[simp ↓] theorem State.bankLatch_frame (s) (a1) (a2) {H : Nat} (h : H &&& 4242 = 4242) :
    (State.bankLatch s a1 a2).without H = s.without H := by
  refine lift h ?_
  unfold State.bankLatch
  repeat' (first
    | with_reducible rfl | with_reducible (refine without_ite ?_ ?_) | with_reducible (refine (foldl_frame _ (fun a x => ?_) _ _).trans ?_) | with_reducible (refine (foldl_fst_frame _ (fun a x => ?_) _ _).trans ?_)
    | simp only [↓State.modBank_frame, ↓State.dropReq_frame, ↓State.valveOff_frame, ↓State.bankHs_frame,
      ↓State.valveSignal_frame, Nat.reduceAnd]
    | split | dsimp only)
@[simp ↓] theorem State.valveMiss_frame (s) (a1) {H : Nat} (h : H &&& 128 = 128) :
    (State.valveMiss s a1).without H = s.without H := by
  refine lift h ?_
  unfold State.valveMiss
  repeat' (first
    | with_reducible rfl | with_reducible (refine without_ite ?_ ?_)
    | simp only [↓State.bankHs_frame, ↓State.modValve_frame, Nat.reduceAnd]
    | split | dsimp only)
@[simp ↓] theorem State.valveToHw_frame (s) (a1) {H : Nat} (h : H &&& 130 = 130) :
    (State.valveToHw s a1).without H = s.without H := by
  refine lift h ?_
  unfold State.valveToHw
  repeat' (first
    | with_reducible rfl | with_reducible (refine without_ite ?_ ?_)
    | simp only [↓State.modHost_frame, ↓State.bankHs_frame, ↓State.modValve_frame, Nat.reduceAnd]
    | split | dsimp only)
@[simp ↓] theorem State.valveDeadline_frame (s) (a1) {H : Nat} (h : H &&& 130 = 130) :
    (State.valveDeadline s a1).without H = s.without H := by
  refine lift h ?_
  unfold State.valveDeadline
  repeat' (first
    | with_reducible rfl | with_reducible (refine without_ite ?_ ?_) | with_reducible (refine (foldl_frame _ (fun a x => ?_) _ _).trans ?_) | with_reducible (refine (foldl_fst_frame _ (fun a x => ?_) _ _).trans ?_)
    | simp only [↓State.dropReq_frame, Nat.reduceAnd]
    | split | dsimp only)
@[simp ↓] theorem State.valveRestart_frame (s) {H : Nat} (h : H &&& 130 = 130) :
    (State.valveRestart s).without H = s.without H := by
  refine lift h ?_
  unfold State.valveRestart
  repeat' (first
    | with_reducible rfl | with_reducible (refine without_ite ?_ ?_) | with_reducible (refine (foldl_frame _ (fun a x => ?_) _ _).trans ?_) | with_reducible (refine (foldl_fst_frame _ (fun a x => ?_) _ _).trans ?_)
    | simp only [↓State.dropReq_frame, ↓State.valveOff_frame, ↓State.bankHs_frame, ↓State.modValve_frame, Nat.reduceAnd]
    | split | dsimp only)
@[simp ↓] theorem State.modAttic_frame (s) (a1) {H : Nat} (h : H &&& 8388608 = 8388608) :
    (State.modAttic s a1).without H = s.without H := by
  refine lift h ?_
  unfold State.modAttic
  repeat' (first
    | with_reducible rfl | with_reducible (refine without_ite ?_ ?_)
    | simp only [↓without_attic, Nat.reduceAnd]
    | split | dsimp only)
@[simp ↓] theorem State.atticWear_frame (s) (a1) {H : Nat} (h : H &&& 27262986 = 27262986) :
    (State.atticWear s a1).without H = s.without H := by
  refine lift h ?_
  unfold State.atticWear
  repeat' (first
    | with_reducible rfl | with_reducible (refine without_ite ?_ ?_)
    | simp only [↓State.modAttic_frame, ↓State.raiseEv_frame, Nat.reduceAnd]
    | split | dsimp only)
@[simp ↓] theorem State.timeTo_frame (s) (a1) (a2) {H : Nat} (h : H &&& 6 = 6) :
    (State.timeTo s a1 a2).without H = s.without H := by
  refine lift h ?_
  unfold State.timeTo
  repeat' (first
    | with_reducible rfl | with_reducible (refine without_ite ?_ ?_)
    | simp only [↓State.post_frame, ↓without_time, Nat.reduceAnd]
    | split | dsimp only)
@[simp ↓] theorem State.setOffset_frame (s) {H : Nat} (h : H &&& 6 = 6) :
    (State.setOffset s).without H = s.without H := by
  refine lift h ?_
  unfold State.setOffset
  repeat' (first
    | with_reducible rfl | with_reducible (refine without_ite ?_ ?_)
    | simp only [↓State.post_frame, ↓without_time, Nat.reduceAnd]
    | split | dsimp only)
@[simp ↓] theorem State.timeUnfollow_frame (s) {H : Nat} (h : H &&& 6 = 6) :
    (State.timeUnfollow s).without H = s.without H := by
  refine lift h ?_
  unfold State.timeUnfollow
  repeat' (first
    | with_reducible rfl | with_reducible (refine without_ite ?_ ?_)
    | simp only [↓State.timeTo_frame, ↓State.setOffset_frame, Nat.reduceAnd]
    | split | dsimp only)
@[simp ↓] theorem State.timeFollow_frame (s) {H : Nat} (h : H &&& 6 = 6) :
    (State.timeFollow s).without H = s.without H := by
  refine lift h ?_
  unfold State.timeFollow
  repeat' (first
    | with_reducible rfl | with_reducible (refine without_ite ?_ ?_)
    | simp only [↓State.timeTo_frame, ↓without_time, Nat.reduceAnd]
    | split | dsimp only)
@[simp ↓] theorem State.timeSteer_frame (s) {H : Nat} (h : H &&& 2147483652 = 2147483652) :
    (State.timeSteer s).without H = s.without H := by
  refine lift h ?_
  unfold State.timeSteer
  repeat' (first
    | with_reducible rfl | with_reducible (refine without_ite ?_ ?_)
    | simp only [↓State.drawNat_frame, ↓without_time, Nat.reduceAnd]
    | split | dsimp only)
@[simp ↓] theorem State.ppsDrop_frame (s) (a1) {H : Nat} (h : H &&& 6 = 6) :
    (State.ppsDrop s a1).without H = s.without H := by
  refine lift h ?_
  unfold State.ppsDrop
  repeat' (first
    | with_reducible rfl | with_reducible (refine without_ite ?_ ?_)
    | simp only [↓State.timeTo_frame, ↓without_time, Nat.reduceAnd]
    | split | dsimp only)
@[simp ↓] theorem State.timeSync_frame (s) (a1) {H : Nat} (h : H &&& 2147483662 = 2147483662) :
    (State.timeSync s a1).without H = s.without H := by
  refine lift h ?_
  unfold State.timeSync
  repeat' (first
    | with_reducible rfl | with_reducible (refine without_ite ?_ ?_)
    | simp only [↓State.timeFollow_frame, ↓State.clearFault_frame, ↓State.timeSteer_frame, ↓without_time, Nat.reduceAnd]
    | split | dsimp only)
@[simp ↓] theorem State.timeGmEnd_frame (s) {H : Nat} (h : H &&& 6 = 6) :
    (State.timeGmEnd s).without H = s.without H := by
  refine lift h ?_
  unfold State.timeGmEnd
  repeat' (first
    | with_reducible rfl | with_reducible (refine without_ite ?_ ?_)
    | simp only [↓State.timeUnfollow_frame, ↓without_time, Nat.reduceAnd]
    | split | dsimp only)
@[simp ↓] theorem State.modGnss_frame (s) (a1) {H : Nat} (h : H &&& 256 = 256) :
    (State.modGnss s a1).without H = s.without H := by
  refine lift h ?_
  unfold State.modGnss
  repeat' (first
    | with_reducible rfl | with_reducible (refine without_ite ?_ ?_)
    | simp only [↓without_gnss, Nat.reduceAnd]
    | split | dsimp only)
@[simp ↓] theorem State.modAnt_frame (s) (a1) (a2) {H : Nat} (h : H &&& 256 = 256) :
    (State.modAnt s a1 a2).without H = s.without H := by
  refine lift h ?_
  unfold State.modAnt
  repeat' (first
    | with_reducible rfl | with_reducible (refine without_ite ?_ ?_)
    | simp only [↓State.modGnss_frame, Nat.reduceAnd]
    | split | dsimp only)
@[simp ↓] theorem State.rtcmFeed_frame (s) (a1) {H : Nat} (h : H &&& 256 = 256) :
    (State.rtcmFeed s a1).without H = s.without H := by
  refine lift h ?_
  unfold State.rtcmFeed
  repeat' (first
    | with_reducible rfl | with_reducible (refine without_ite ?_ ?_)
    | simp only [↓State.modGnss_frame, Nat.reduceAnd]
    | split | dsimp only)
@[simp ↓] theorem State.scopePost_frame (s) (a1) (a2) (a3) (a4) {H : Nat} (h : H &&& 258 = 258) :
    (State.scopePost s a1 a2 a3 a4).without H = s.without H := by
  refine lift h ?_
  unfold State.scopePost
  repeat' (first
    | with_reducible rfl | with_reducible (refine without_ite ?_ ?_)
    | simp only [↓State.modGnss_frame, ↓State.post_frame, Nat.reduceAnd]
    | split | dsimp only)
@[simp ↓] theorem State.scopeTest_frame (s) (a1) (a2) (a3) (a4) {H : Nat} (h : H &&& 258 = 258) :
    (State.scopeTest s a1 a2 a3 a4).without H = s.without H := by
  refine lift h ?_
  unfold State.scopeTest
  repeat' (first
    | with_reducible rfl | with_reducible (refine without_ite ?_ ?_)
    | simp only [↓State.scopePost_frame, ↓State.modGnss_frame, Nat.reduceAnd]
    | split | dsimp only)
@[simp ↓] theorem State.jamTest_frame (s) (a1) (a2) {H : Nat} (h : H &&& 18874634 = 18874634) :
    (State.jamTest s a1 a2).without H = s.without H := by
  refine lift h ?_
  unfold State.jamTest
  repeat' (first
    | with_reducible rfl | with_reducible (refine without_ite ?_ ?_)
    | simp only [↓State.modAnt_frame, ↓State.raiseEv_frame, ↓State.clearFault_frame, Nat.reduceAnd]
    | split | dsimp only)
@[simp ↓] theorem State.epochMarks_frame (s) (a1) {H : Nat} (h : H &&& 18874634 = 18874634) :
    (State.epochMarks s a1).without H = s.without H := by
  refine lift h ?_
  unfold State.epochMarks
  repeat' (first
    | with_reducible rfl | with_reducible (refine without_ite ?_ ?_) | with_reducible (refine (foldl_frame _ (fun a x => ?_) _ _).trans ?_) | with_reducible (refine (foldl_fst_frame _ (fun a x => ?_) _ _).trans ?_)
    | simp only [↓State.scopeTest_frame, ↓State.jamTest_frame, Nat.reduceAnd]
    | split | dsimp only)
@[simp ↓] theorem State.lineSigs_frame (s) (a1) (a2) (a3) (a4) (a5) (a6) {H : Nat} (h : H &&& 4112 = 4112) :
    (State.lineSigs s a1 a2 a3 a4 a5 a6).without H = s.without H := by
  refine lift h ?_
  unfold State.lineSigs
  repeat' (first
    | with_reducible rfl | with_reducible (refine without_ite ?_ ?_)
    | simp only [↓State.setSig_frame, Nat.reduceAnd]
    | split | dsimp only)
@[simp ↓] theorem State.granEpoch_frame (s) (a1) (a2) {H : Nat} (h : H &&& 4096 = 4096) :
    (State.granEpoch s a1 a2).without H = s.without H := by
  refine lift h ?_
  unfold State.granEpoch
  repeat' (first
    | with_reducible rfl | with_reducible (refine without_ite ?_ ?_)
    | simp only [↓without_granary, Nat.reduceAnd]
    | split | dsimp only)
@[simp ↓] theorem State.setFix_frame (s) (a1) (a2) (a3) {H : Nat} (h : H &&& 4374 = 4374) :
    (State.setFix s a1 a2 a3).without H = s.without H := by
  refine lift h ?_
  unfold State.setFix
  repeat' (first
    | with_reducible rfl | with_reducible (refine without_ite ?_ ?_)
    | simp only [↓State.modGnss_frame, ↓State.granEpoch_frame, ↓State.setSig_frame, ↓State.ppsDrop_frame,
      ↓State.post_frame, Nat.reduceAnd]
    | split | dsimp only)
@[simp ↓] theorem State.headRun_frame (s) (a1) (a2) {H : Nat} (h : H &&& 256 = 256) :
    (State.headRun s a1 a2).without H = s.without H := by
  refine lift h ?_
  unfold State.headRun
  repeat' (first
    | with_reducible rfl | with_reducible (refine without_ite ?_ ?_)
    | simp only [↓State.modGnss_frame, Nat.reduceAnd]
    | split | dsimp only)
@[simp ↓] theorem State.publish_frame (s) (a1) (a2) (a3) (a4) (a5) {H : Nat} (h : H &&& 4374 = 4374) :
    (State.publish s a1 a2 a3 a4 a5).without H = s.without H := by
  refine lift h ?_
  unfold State.publish
  repeat' (first
    | with_reducible rfl | with_reducible (refine without_ite ?_ ?_)
    | simp only [↓State.headRun_frame, ↓State.setSig_frame, ↓State.lineSigs_frame, ↓State.modGnss_frame,
      ↓State.setFix_frame, Nat.reduceAnd]
    | split | dsimp only)
@[simp ↓] theorem State.unfix_frame (s) (a1) {H : Nat} (h : H &&& 4374 = 4374) :
    (State.unfix s a1).without H = s.without H := by
  refine lift h ?_
  unfold State.unfix
  repeat' (first
    | with_reducible rfl | with_reducible (refine without_ite ?_ ?_) | with_reducible (refine (foldl_frame _ (fun a x => ?_) _ _).trans ?_) | with_reducible (refine (foldl_fst_frame _ (fun a x => ?_) _ _).trans ?_)
    | simp only [↓State.modFlags_frame, ↓State.setFix_frame, ↓State.modGnss_frame, Nat.reduceAnd]
    | split | dsimp only)
@[simp ↓] theorem State.holdEpoch_frame (s) (a1) (a2) {H : Nat} (h : H &&& 18878750 = 18878750) :
    (State.holdEpoch s a1 a2).without H = s.without H := by
  refine lift h ?_
  unfold State.holdEpoch
  repeat' (first
    | with_reducible rfl | with_reducible (refine without_ite ?_ ?_)
    | simp only [↓State.unfix_frame, ↓State.modGnss_frame, ↓State.raiseEv_frame, ↓State.publish_frame, Nat.reduceAnd]
    | split | dsimp only)
@[simp ↓] theorem State.rejectEpoch_frame (s) (a1) (a2) {H : Nat} (h : H &&& 18878750 = 18878750) :
    (State.rejectEpoch s a1 a2).without H = s.without H := by
  refine lift h ?_
  unfold State.rejectEpoch
  repeat' (first
    | with_reducible rfl | with_reducible (refine without_ite ?_ ?_)
    | simp only [↓State.holdEpoch_frame, ↓State.modGnss_frame, Nat.reduceAnd]
    | split | dsimp only)
@[simp ↓] theorem State.check5_frame (s) (a1) (a2) {H : Nat} (h : H &&& 256 = 256) :
    (State.check5 s a1 a2).1.without H = s.without H := by
  refine lift h ?_
  unfold State.check5
  repeat' (first
    | with_reducible rfl | with_reducible (refine without_ite ?_ ?_) | with_reducible (refine without_ite_fst ?_ ?_)
    | simp only [↓State.modGnss_frame, Nat.reduceAnd]
    | split | dsimp only)
@[simp ↓] theorem State.agrees_frame (s) (a1) {H : Nat} (h : H &&& 256 = 256) :
    (State.agrees s a1).1.without H = s.without H := by
  refine lift h ?_
  unfold State.agrees
  repeat' (first
    | with_reducible rfl | with_reducible (refine without_ite ?_ ?_) | with_reducible (refine without_ite_fst ?_ ?_)
    | simp only [↓State.check5_frame, Nat.reduceAnd]
    | split | dsimp only)
@[simp ↓] theorem State.excludeSolution_frame (s) {H : Nat} (h : H &&& 258 = 258) :
    (State.excludeSolution s).without H = s.without H := by
  refine lift h ?_
  unfold State.excludeSolution
  repeat' (first
    | with_reducible rfl | with_reducible (refine without_ite ?_ ?_)
    | simp only [↓State.modGnss_frame, ↓State.scopeTest_frame, Nat.reduceAnd]
    | split | dsimp only)
@[simp ↓] theorem State.acceptEpoch_frame (s) (a1) (a2) (a3) (a4) {H : Nat} (h : H &&& 4382 = 4382) :
    (State.acceptEpoch s a1 a2 a3 a4).without H = s.without H := by
  refine lift h ?_
  unfold State.acceptEpoch
  repeat' (first
    | with_reducible rfl | with_reducible (refine without_ite ?_ ?_)
    | simp only [↓State.scopePost_frame, ↓State.modGnss_frame, ↓State.clearFault_frame, ↓State.publish_frame,
      Nat.reduceAnd]
    | split | dsimp only)
@[simp ↓] theorem State.corrEpoch_frame (s) {H : Nat} (h : H &&& 18874634 = 18874634) :
    (State.corrEpoch s).without H = s.without H := by
  refine lift h ?_
  unfold State.corrEpoch
  repeat' (first
    | with_reducible rfl | with_reducible (refine without_ite ?_ ?_)
    | simp only [↓State.modGnss_frame, ↓State.raiseEv_frame, Nat.reduceAnd]
    | split | dsimp only)
@[simp ↓] theorem State.readmit4_frame (s) (a1) (a2) (a3) {H : Nat} (h : H &&& 258 = 258) :
    (State.readmit4 s a1 a2 a3).without H = s.without H := by
  refine lift h ?_
  unfold State.readmit4
  repeat' (first
    | with_reducible rfl | with_reducible (refine without_ite ?_ ?_) | with_reducible (refine (foldl_frame _ (fun a x => ?_) _ _).trans ?_) | with_reducible (refine (foldl_fst_frame _ (fun a x => ?_) _ _).trans ?_)
    | simp only [↓State.scopeTest_frame, Nat.reduceAnd]
    | split | dsimp only)

end Sys2Proof.Machine
end

