-- ==== Sys2Proof/Laws/FrameOps2.lean ====
section
/-! SUPPORT. Laws/FrameOps2.lean: what each operation leaves alone. A mask has a bit for each piece of `Piece`. -/

set_option linter.all false

namespace Sys2Proof.Machine
@[simp ↓] theorem State.solveSet_frame (s) (a1) {H : Nat} (h : H &&& 258 = 258) :
    (State.solveSet s a1).1.without H = s.without H := by
  refine lift h ?_
  unfold State.solveSet
  repeat' (first
    | with_reducible rfl | with_reducible (refine without_ite ?_ ?_) | with_reducible (refine without_ite_fst ?_ ?_) | with_reducible (refine (foldl_frame _ (fun a x => ?_) _ _).trans ?_) | with_reducible (refine (foldl_fst_frame _ (fun a x => ?_) _ _).trans ?_)
    | simp only [↓State.scopeTest_frame, ↓State.readmit4_frame, Nat.reduceAnd]
    | split | dsimp only)
@[simp ↓] theorem State.passRun_frame (s) (a1) (a2) {H : Nat} (h : H &&& 256 = 256) :
    (State.passRun s a1 a2).without H = s.without H := by
  refine lift h ?_
  unfold State.passRun
  repeat' (first
    | with_reducible rfl | with_reducible (refine without_ite ?_ ?_)
    | simp only [↓State.modGnss_frame, Nat.reduceAnd]
    | split | dsimp only)
@[simp ↓] theorem State.solveEpoch_frame (s) (a1) (a2) {H : Nat} (h : H &&& 18878750 = 18878750) :
    (State.solveEpoch s a1 a2).without H = s.without H := by
  refine lift h ?_
  unfold State.solveEpoch
  have hb : (s.solveSet a2).1.without 18878750 = s.without 18878750 := State.solveSet_frame _ _ rfl
  generalize s.solveSet a2 = x at hb ⊢
  obtain ⟨s', e⟩ := x
  dsimp only at hb
  rw [← hb]
  obtain c | ⟨x, sats⟩ := e <;> dsimp only
  all_goals repeat' (first
    | with_reducible rfl | with_reducible (refine without_ite ?_ ?_)
    | simp only [↓State.solveSet_frame, ↓State.rejectEpoch_frame, ↓State.passRun_frame, ↓State.acceptEpoch_frame,
      ↓State.unfix_frame, ↓State.agrees_frame, ↓State.excludeSolution_frame, Nat.reduceAnd]
    | split | dsimp only)
@[simp ↓] theorem State.gnssMiss_frame (s) {H : Nat} (h : H &&& 18878750 = 18878750) :
    (State.gnssMiss s).without H = s.without H := by
  refine lift h ?_
  unfold State.gnssMiss
  repeat' (first
    | with_reducible rfl | with_reducible (refine without_ite ?_ ?_) | with_reducible (refine (foldl_frame _ (fun a x => ?_) _ _).trans ?_) | with_reducible (refine (foldl_fst_frame _ (fun a x => ?_) _ _).trans ?_)
    | simp only [↓State.modGnss_frame, ↓State.holdEpoch_frame, ↓State.modFlags_frame, Nat.reduceAnd]
    | split | dsimp only)
@[simp ↓] theorem State.hostEpoch_frame (s) (a1) (a2) {H : Nat} (h : H &&& 18878750 = 18878750) :
    (State.hostEpoch s a1 a2).without H = s.without H := by
  refine lift h ?_
  unfold State.hostEpoch
  repeat' (first
    | with_reducible rfl | with_reducible (refine without_ite ?_ ?_)
    | simp only [↓State.hostTurn_frame, ↓State.gnssMiss_frame, ↓State.granEpoch_frame, ↓State.hostPeriod_frame,
      ↓State.modHost_frame, ↓State.regionDone_frame, ↓State.regionWrite_frame, implies_true, eq_self, Nat.reduceAnd]
    | split | dsimp only)
@[simp ↓] theorem State.modImu_frame (s) (a1) {H : Nat} (h : H &&& 512 = 512) :
    (State.modImu s a1).without H = s.without H := by
  refine lift h ?_
  unfold State.modImu
  repeat' (first
    | with_reducible rfl | with_reducible (refine without_ite ?_ ?_)
    | simp only [↓without_imu, Nat.reduceAnd]
    | split | dsimp only)
@[simp ↓] theorem State.poseTake_frame (s) {H : Nat} (h : H &&& 2048 = 2048) :
    (State.poseTake s).without H = s.without H := by
  refine lift h ?_
  unfold State.poseTake
  repeat' (first
    | with_reducible rfl | with_reducible (refine without_ite ?_ ?_) | with_reducible (refine (foldl_frame _ (fun a x => ?_) _ _).trans ?_) | with_reducible (refine (foldl_fst_frame _ (fun a x => ?_) _ _).trans ?_)
    | simp only [↓without_crown, Nat.reduceAnd]
    | split | dsimp only)
@[simp ↓] theorem State.gnssTrunkPost_frame (s) {H : Nat} (h : H &&& 258 = 258) :
    (State.gnssTrunkPost s).without H = s.without H := by
  refine lift h ?_
  unfold State.gnssTrunkPost
  repeat' (first
    | with_reducible rfl | with_reducible (refine without_ite ?_ ?_)
    | simp only [↓State.post_frame, ↓State.modGnss_frame, Nat.reduceAnd]
    | split | dsimp only)
@[simp ↓] theorem State.gnssPark_frame (s) {H : Nat} (h : H &&& 256 = 256) :
    (State.gnssPark s).without H = s.without H := by
  refine lift h ?_
  unfold State.gnssPark
  repeat' (first
    | with_reducible rfl | with_reducible (refine without_ite ?_ ?_)
    | simp only [↓State.modGnss_frame, Nat.reduceAnd]
    | split | dsimp only)
@[simp ↓] theorem State.gnssHandover_frame (s) {H : Nat} (h : H &&& 2 = 2) :
    (State.gnssHandover s).without H = s.without H := by
  refine lift h ?_
  unfold State.gnssHandover
  repeat' (first
    | with_reducible rfl | with_reducible (refine without_ite ?_ ?_)
    | simp only [↓State.modUnit_frame, Nat.reduceAnd]
    | split | dsimp only)
@[simp ↓] theorem State.modCam_frame (s) (a1) {H : Nat} (h : H &&& 1024 = 1024) :
    (State.modCam s a1).without H = s.without H := by
  refine lift h ?_
  unfold State.modCam
  repeat' (first
    | with_reducible rfl | with_reducible (refine without_ite ?_ ?_)
    | simp only [↓without_cam, Nat.reduceAnd]
    | split | dsimp only)
@[simp ↓] theorem State.modPort_frame (s) (a1) (a2) {H : Nat} (h : H &&& 1024 = 1024) :
    (State.modPort s a1 a2).without H = s.without H := by
  refine lift h ?_
  unfold State.modPort
  repeat' (first
    | with_reducible rfl | with_reducible (refine without_ite ?_ ?_)
    | simp only [↓State.modCam_frame, Nat.reduceAnd]
    | split | dsimp only)
@[simp ↓] theorem State.modCamSensor_frame (s) (a1) (a2) (a3) {H : Nat} (h : H &&& 1024 = 1024) :
    (State.modCamSensor s a1 a2 a3).without H = s.without H := by
  refine lift h ?_
  unfold State.modCamSensor
  repeat' (first
    | with_reducible rfl | with_reducible (refine without_ite ?_ ?_)
    | simp only [↓State.modPort_frame, Nat.reduceAnd]
    | split | dsimp only)
@[simp ↓] theorem State.modLamp_frame (s) (a1) (a2) {H : Nat} (h : H &&& 1024 = 1024) :
    (State.modLamp s a1 a2).without H = s.without H := by
  refine lift h ?_
  unfold State.modLamp
  repeat' (first
    | with_reducible rfl | with_reducible (refine without_ite ?_ ?_)
    | simp only [↓State.modCam_frame, Nat.reduceAnd]
    | split | dsimp only)
@[simp ↓] theorem State.tapEnd_frame (s) (a1) (a2) (a3) {H : Nat} (h : H &&& 1026 = 1026) :
    (State.tapEnd s a1 a2 a3).without H = s.without H := by
  refine lift h ?_
  unfold State.tapEnd
  repeat' (first
    | with_reducible rfl | with_reducible (refine without_ite ?_ ?_)
    | simp only [↓State.regionAbort_frame, ↓State.regionEnd_frame, ↓State.modPort_frame, ↓State.complete_frame,
      Nat.reduceAnd]
    | split | dsimp only)
@[simp ↓] theorem State.tapsEnd_frame (s) (a1) (a2) {H : Nat} (h : H &&& 1026 = 1026) :
    (State.tapsEnd s a1 a2).without H = s.without H := by
  refine lift h ?_
  unfold State.tapsEnd
  repeat' (first
    | with_reducible rfl | with_reducible (refine without_ite ?_ ?_) | with_reducible (refine (foldl_frame _ (fun a x => ?_) _ _).trans ?_) | with_reducible (refine (foldl_fst_frame _ (fun a x => ?_) _ _).trans ?_)
    | simp only [↓State.tapEnd_frame, Nat.reduceAnd]
    | split | dsimp only)
@[simp ↓] theorem State.outputsWritten_frame (s) (a1) (a2) (a3) {H : Nat} (h : H &&& 1024 = 1024) :
    (State.outputsWritten s a1 a2 a3).without H = s.without H := by
  refine lift h ?_
  unfold State.outputsWritten
  repeat' (first
    | with_reducible rfl | with_reducible (refine without_ite ?_ ?_) | with_reducible (refine (foldl_frame _ (fun a x => ?_) _ _).trans ?_) | with_reducible (refine (foldl_fst_frame _ (fun a x => ?_) _ _).trans ?_)
    | simp only [↓State.modCamSensor_frame, Nat.reduceAnd]
    | split | dsimp only)
@[simp ↓] theorem State.lampApply_frame (s) (a1) {H : Nat} (h : H &&& 8192 = 8192) :
    (State.lampApply s a1).without H = s.without H := by
  refine lift h ?_
  unfold State.lampApply
  repeat' (first
    | with_reducible rfl | with_reducible (refine without_ite ?_ ?_)
    | simp only [↓State.modOut_frame, Nat.reduceAnd]
    | split | dsimp only)
@[simp ↓] theorem State.lampsApply_frame (s) {H : Nat} (h : H &&& 8192 = 8192) :
    (State.lampsApply s).without H = s.without H := by
  refine lift h ?_
  unfold State.lampsApply
  repeat' (first
    | with_reducible rfl | with_reducible (refine without_ite ?_ ?_) | with_reducible (refine (foldl_frame _ (fun a x => ?_) _ _).trans ?_) | with_reducible (refine (foldl_fst_frame _ (fun a x => ?_) _ _).trans ?_)
    | simp only [↓State.lampApply_frame, Nat.reduceAnd]
    | split | dsimp only)
@[simp ↓] theorem State.lampUnbind_frame (s) (a1) {H : Nat} (h : H &&& 9226 = 9226) :
    (State.lampUnbind s a1).without H = s.without H := by
  refine lift h ?_
  unfold State.lampUnbind
  repeat' (first
    | with_reducible rfl | with_reducible (refine without_ite ?_ ?_)
    | simp only [↓State.clearFault_frame, ↓State.modLamp_frame, ↓State.modOut_frame, Nat.reduceAnd]
    | split | dsimp only)
@[simp ↓] theorem State.lampShutter_frame (s) (a1) (a2) {H : Nat} (h : H &&& 1034 = 1034) :
    (State.lampShutter s a1 a2).without H = s.without H := by
  refine lift h ?_
  unfold State.lampShutter
  repeat' (first
    | with_reducible rfl | with_reducible (refine without_ite ?_ ?_)
    | simp only [↓State.clearFault_frame, ↓State.modLamp_frame, Nat.reduceAnd]
    | split | dsimp only)
@[simp ↓] theorem State.lampFrame_frame (s) (a1) (a2) (a3) (a4) {H : Nat} (h : H &&& 18883594 = 18883594) :
    (State.lampFrame s a1 a2 a3 a4).without H = s.without H := by
  refine lift h ?_
  unfold State.lampFrame
  repeat' (first
    | with_reducible rfl | with_reducible (refine without_ite ?_ ?_)
    | simp only [↓State.lampApply_frame, ↓State.modLamp_frame, ↓State.clearFault_frame, ↓State.post_frame,
      ↓State.raiseEv_frame, Nat.reduceAnd]
    | split | dsimp only)
@[simp ↓] theorem State.camMiss_frame (s) (a1) {H : Nat} (h : H &&& 9216 = 9216) :
    (State.camMiss s a1).without H = s.without H := by
  refine lift h ?_
  unfold State.camMiss
  repeat' (first
    | with_reducible rfl | with_reducible (refine without_ite ?_ ?_) | with_reducible (refine (foldl_frame _ (fun a x => ?_) _ _).trans ?_) | with_reducible (refine (foldl_fst_frame _ (fun a x => ?_) _ _).trans ?_)
    | simp only [↓State.lampApply_frame, ↓State.modLamp_frame, Nat.reduceAnd]
    | split | dsimp only)
@[simp ↓] theorem State.camHost_frame (s) (a1) (a2) (a3) (a4) {H : Nat} (h : H &&& 9218 = 9218) :
    (State.camHost s a1 a2 a3 a4).without H = s.without H := by
  refine lift h ?_
  unfold State.camHost
  repeat' (first
    | with_reducible rfl | with_reducible (refine without_ite ?_ ?_) | with_reducible (refine (foldl_frame _ (fun a x => ?_) _ _).trans ?_) | with_reducible (refine (foldl_fst_frame _ (fun a x => ?_) _ _).trans ?_)
    | simp only [↓State.camMiss_frame, ↓State.hostMiss_frame, ↓State.modHost_frame, ↓State.hostPeriod_frame,
      ↓State.regionWrite_frame, ↓State.regionDone_frame, Nat.reduceAnd]
    | split | dsimp only)
@[simp ↓] theorem State.frameError_frame (s) (a1) (a2) (a3) (a4) {H : Nat} (h : H &&& 18874378 = 18874378) :
    (State.frameError s a1 a2 a3 a4).without H = s.without H := by
  refine lift h ?_
  unfold State.frameError
  repeat' (first
    | with_reducible rfl | with_reducible (refine without_ite ?_ ?_)
    | simp only [↓State.raiseEv_frame, Nat.reduceAnd]
    | split | dsimp only)
@[simp ↓] theorem State.frameDrop_frame (s) (a1) (a2) {H : Nat} (h : H &&& 1024 = 1024) :
    (State.frameDrop s a1 a2).without H = s.without H := by
  refine lift h ?_
  unfold State.frameDrop
  repeat' (first
    | with_reducible rfl | with_reducible (refine without_ite ?_ ?_)
    | simp only [↓State.modCamSensor_frame, Nat.reduceAnd]
    | split | dsimp only)
@[simp ↓] theorem State.flickKeep_frame (s) (a1) (a2) (a3) (a4) {H : Nat} (h : H &&& 1024 = 1024) :
    (State.flickKeep s a1 a2 a3 a4).without H = s.without H := by
  refine lift h ?_
  unfold State.flickKeep
  repeat' (first
    | with_reducible rfl | with_reducible (refine without_ite ?_ ?_)
    | simp only [↓State.modCamSensor_frame, Nat.reduceAnd]
    | split | dsimp only)
@[simp ↓] theorem State.flicker_frame (s) (a1) (a2) (a3) {H : Nat} (h : H &&& 1026 = 1026) :
    (State.flicker s a1 a2 a3).without H = s.without H := by
  refine lift h ?_
  unfold State.flicker
  repeat' (first
    | with_reducible rfl | with_reducible (refine without_ite ?_ ?_)
    | simp only [↓State.modCamSensor_frame, ↓State.post_frame, Nat.reduceAnd]
    | split | dsimp only)
@[simp ↓] theorem State.takeExposure_frame (s) (a1) (a2) (a3) {H : Nat} (h : H &&& 1024 = 1024) :
    (State.takeExposure s a1 a2 a3).without H = s.without H := by
  refine lift h ?_
  unfold State.takeExposure
  repeat' (first
    | with_reducible rfl | with_reducible (refine without_ite ?_ ?_)
    | simp only [↓State.modCamSensor_frame, Nat.reduceAnd]
    | split | dsimp only)
@[simp ↓] theorem State.frameTake_frame (s) (a1) (a2) (a3) {H : Nat} (h : H &&& 18883594 = 18883594) :
    (State.frameTake s a1 a2 a3).without H = s.without H := by
  refine lift h ?_
  unfold State.frameTake
  repeat' (first
    | with_reducible rfl | with_reducible (refine without_ite ?_ ?_) | with_reducible (refine (foldl_frame _ (fun a x => ?_) _ _).trans ?_) | with_reducible (refine (foldl_fst_frame _ (fun a x => ?_) _ _).trans ?_)
    | simp only [↓State.takeExposure_frame, ↓State.lampApply_frame, ↓State.modCamSensor_frame, ↓State.flicker_frame,
      ↓State.flickKeep_frame, ↓State.lampFrame_frame, ↓State.camHost_frame, Nat.reduceAnd]
    | split | dsimp only)
@[simp ↓] theorem State.frameBegin_frame (s) (a1) {H : Nat} (h : H &&& 1024 = 1024) :
    (State.frameBegin s a1).without H = s.without H := by
  refine lift h ?_
  unfold State.frameBegin
  repeat' (first
    | with_reducible rfl | with_reducible (refine without_ite ?_ ?_)
    | simp only [↓State.modCamSensor_frame, Nat.reduceAnd]
    | split | dsimp only)
@[simp ↓] theorem State.frameEnd_frame (s) (a1) {H : Nat} (h : H &&& 52438030 = 52438030) :
    (State.frameEnd s a1).without H = s.without H := by
  refine lift h ?_
  unfold State.frameEnd
  repeat' (first
    | with_reducible rfl | with_reducible (refine without_ite ?_ ?_)
    | simp only [↓State.waitTo_frame, ↓State.modPort_frame, ↓State.clearFault_frame, ↓State.modCamSensor_frame,
      ↓State.frameDrop_frame, ↓State.frameError_frame, ↓State.frameTake_frame, Nat.reduceAnd]
    | split | dsimp only)
@[simp ↓] theorem State.replyLater_frame (s) (a1) (a2) (a3) (a4) {H : Nat} (h : H &&& 2 = 2) :
    (State.replyLater s a1 a2 a3 a4).without H = s.without H := by
  refine lift h ?_
  unfold State.replyLater
  repeat' (first
    | with_reducible rfl | with_reducible (refine without_ite ?_ ?_)
    | simp only [↓State.modWin_frame, ↓State.answer_frame, ↓State.recordReply_frame, Nat.reduceAnd]
    | split | dsimp only)
@[simp ↓] theorem State.camAbort_frame (s) {H : Nat} (h : H &&& 1034 = 1034) :
    (State.camAbort s).without H = s.without H := by
  refine lift h ?_
  unfold State.camAbort
  repeat' (first
    | with_reducible rfl | with_reducible (refine without_ite ?_ ?_) | with_reducible (refine (foldl_frame _ (fun a x => ?_) _ _).trans ?_) | with_reducible (refine (foldl_fst_frame _ (fun a x => ?_) _ _).trans ?_)
    | simp only [↓State.tapsEnd_frame, ↓State.replyLater_frame, ↓State.modPort_frame, ↓State.clearFault_frame,
      Nat.reduceAnd]
    | split | dsimp only)
@[simp ↓] theorem State.camFresh_frame (s) {H : Nat} (h : H &&& 9216 = 9216) :
    (State.camFresh s).without H = s.without H := by
  refine lift h ?_
  unfold State.camFresh
  repeat' (first
    | with_reducible rfl | with_reducible (refine without_ite ?_ ?_)
    | simp only [↓State.lampsApply_frame, ↓without_cam, Nat.reduceAnd]
    | split | dsimp only)
@[simp ↓] theorem State.ispRoute_frame (s) (a1) (a2) {H : Nat} (h : H &&& 1024 = 1024) :
    (State.ispRoute s a1 a2).without H = s.without H := by
  refine lift h ?_
  unfold State.ispRoute
  repeat' (first
    | with_reducible rfl | with_reducible (refine without_ite ?_ ?_) | with_reducible (refine (foldl_frame _ (fun a x => ?_) _ _).trans ?_) | with_reducible (refine (foldl_fst_frame _ (fun a x => ?_) _ _).trans ?_)
    | simp only [↓State.modPort_frame, Nat.reduceAnd]
    | split | dsimp only)
@[simp ↓] theorem State.ispLost_frame (s) (a1) (a2) {H : Nat} (h : H &&& 18875402 = 18875402) :
    (State.ispLost s a1 a2).without H = s.without H := by
  refine lift h ?_
  unfold State.ispLost
  repeat' (first
    | with_reducible rfl | with_reducible (refine without_ite ?_ ?_)
    | simp only [↓State.raiseEv_frame, ↓State.ispRoute_frame, Nat.reduceAnd]
    | split | dsimp only)
@[simp ↓] theorem State.modCrown_frame (s) (a1) {H : Nat} (h : H &&& 2048 = 2048) :
    (State.modCrown s a1).without H = s.without H := by
  refine lift h ?_
  unfold State.modCrown
  repeat' (first
    | with_reducible rfl | with_reducible (refine without_ite ?_ ?_)
    | simp only [↓without_crown, Nat.reduceAnd]
    | split | dsimp only)
@[simp ↓] theorem State.modSlot_frame (s) (a1) (a2) {H : Nat} (h : H &&& 2048 = 2048) :
    (State.modSlot s a1 a2).without H = s.without H := by
  refine lift h ?_
  unfold State.modSlot
  repeat' (first
    | with_reducible rfl | with_reducible (refine without_ite ?_ ?_)
    | simp only [↓State.modCrown_frame, Nat.reduceAnd]
    | split | dsimp only)
@[simp ↓] theorem State.modCrownUnit_frame (s) (a1) (a2) {H : Nat} (h : H &&& 2048 = 2048) :
    (State.modCrownUnit s a1 a2).without H = s.without H := by
  refine lift h ?_
  unfold State.modCrownUnit
  repeat' (first
    | with_reducible rfl | with_reducible (refine without_ite ?_ ?_)
    | simp only [↓State.modCrown_frame, Nat.reduceAnd]
    | split | dsimp only)
@[simp ↓] theorem State.modIn_frame (s) (a1) (a2) (a3) {H : Nat} (h : H &&& 2048 = 2048) :
    (State.modIn s a1 a2 a3).without H = s.without H := by
  refine lift h ?_
  unfold State.modIn
  repeat' (first
    | with_reducible rfl | with_reducible (refine without_ite ?_ ?_)
    | simp only [↓State.modSlot_frame, Nat.reduceAnd]
    | split | dsimp only)
@[simp ↓] theorem State.lateCount_frame (s) (a1) (a2) {H : Nat} (h : H &&& 2050 = 2050) :
    (State.lateCount s a1 a2).without H = s.without H := by
  refine lift h ?_
  unfold State.lateCount
  repeat' (first
    | with_reducible rfl | with_reducible (refine without_ite ?_ ?_)
    | simp only [↓State.modSlot_frame, ↓State.post_frame, Nat.reduceAnd]
    | split | dsimp only)
@[simp ↓] theorem State.lateSample_frame (s) (a1) (a2) (a3) (a4) {H : Nat} (h : H &&& 2050 = 2050) :
    (State.lateSample s a1 a2 a3 a4).without H = s.without H := by
  refine lift h ?_
  unfold State.lateSample
  repeat' (first
    | with_reducible rfl | with_reducible (refine without_ite ?_ ?_)
    | simp only [↓State.modIn_frame, ↓State.lateCount_frame, Nat.reduceAnd]
    | split | dsimp only)
@[simp ↓] theorem State.sampleIn_frame (s) (a1) (a2) (a3) {H : Nat} (h : H &&& 2050 = 2050) :
    (State.sampleIn s a1 a2 a3).without H = s.without H := by
  refine lift h ?_
  unfold State.sampleIn
  repeat' (first
    | with_reducible rfl | with_reducible (refine without_ite ?_ ?_)
    | simp only [↓State.modIn_frame, ↓State.modSlot_frame, ↓State.lateSample_frame, Nat.reduceAnd]
    | split | dsimp only)
@[simp ↓] theorem State.project_frame (s) (a1) (a2) {H : Nat} (h : H &&& 2048 = 2048) :
    (State.project s a1 a2).without H = s.without H := by
  refine lift h ?_
  unfold State.project
  repeat' (first
    | with_reducible rfl | with_reducible (refine without_ite ?_ ?_)
    | simp only [↓State.modCrownUnit_frame, Nat.reduceAnd]
    | split | dsimp only)
@[simp ↓] theorem State.crownSample_frame (s) (a1) (a2) (a3) (a4) (a5) {H : Nat} (h : H &&& 2050 = 2050) :
    (State.crownSample s a1 a2 a3 a4 a5).without H = s.without H := by
  refine lift h ?_
  unfold State.crownSample
  repeat' (first
    | with_reducible rfl | with_reducible (refine without_ite ?_ ?_) | with_reducible (refine (foldl_frame _ (fun a x => ?_) _ _).trans ?_) | with_reducible (refine (foldl_fst_frame _ (fun a x => ?_) _ _).trans ?_)
    | simp only [↓State.sampleIn_frame, ↓State.modSlot_frame, ↓State.project_frame, Nat.reduceAnd]
    | split | dsimp only)
@[simp ↓] theorem State.zeroSlot_frame (s) (a1) {H : Nat} (h : H &&& 16 = 16) :
    (State.zeroSlot s a1).without H = s.without H := by
  refine lift h ?_
  unfold State.zeroSlot
  repeat' (first
    | with_reducible rfl | with_reducible (refine without_ite ?_ ?_)
    | simp only [↓State.zeroSigs_frame, Nat.reduceAnd]
    | split | dsimp only)
@[simp ↓] theorem State.judgeIn_frame (s) (a1) (a2) (a3) {H : Nat} (h : H &&& 18876426 = 18876426) :
    (State.judgeIn s a1 a2 a3).without H = s.without H := by
  refine lift h ?_
  unfold State.judgeIn
  repeat' (first
    | with_reducible rfl | with_reducible (refine without_ite ?_ ?_)
    | simp only [↓State.post_frame, ↓State.modIn_frame, ↓State.clearFault_frame, ↓State.raiseEv_frame,
      ↓State.modSlot_frame, ↓State.lateCount_frame, Nat.reduceAnd]
    | split | dsimp only)
@[simp ↓] theorem State.crownMiss_frame (s) (a1) {H : Nat} (h : H &&& 16 = 16) :
    (State.crownMiss s a1).without H = s.without H := by
  refine lift h ?_
  unfold State.crownMiss
  repeat' (first
    | with_reducible rfl | with_reducible (refine without_ite ?_ ?_) | with_reducible (refine (foldl_frame _ (fun a x => ?_) _ _).trans ?_) | with_reducible (refine (foldl_fst_frame _ (fun a x => ?_) _ _).trans ?_)
    | simp only [↓State.modFlags_frame, Nat.reduceAnd]
    | split | dsimp only)
@[simp ↓] theorem State.crownHost_frame (s) (a1) (a2) (a3) {H : Nat} (h : H &&& 2066 = 2066) :
    (State.crownHost s a1 a2 a3).without H = s.without H := by
  refine lift h ?_
  unfold State.crownHost
  repeat' (first
    | with_reducible rfl | with_reducible (refine without_ite ?_ ?_)
    | simp only [↓State.crownMiss_frame, ↓State.hostMiss_frame, ↓State.modHost_frame, ↓State.hostPeriod_frame,
      ↓State.modSlot_frame, ↓State.regionDone_frame, ↓State.regionWrite_frame, Nat.reduceAnd]
    | split | dsimp only)
@[simp ↓] theorem State.crownLaunch_frame (s) (a1) (a2) (a3) (a4) {H : Nat} (h : H &&& 2066 = 2066) :
    (State.crownLaunch s a1 a2 a3 a4).without H = s.without H := by
  refine lift h ?_
  unfold State.crownLaunch
  repeat' (first
    | with_reducible rfl | with_reducible (refine without_ite ?_ ?_)
    | simp only [↓State.modSlot_frame, ↓State.modCrownUnit_frame, ↓State.crownHost_frame, Nat.reduceAnd]
    | split | dsimp only)
@[simp ↓] theorem State.crownClose_frame (s) (a1) {H : Nat} (h : H &&& 52430878 = 52430878) :
    (State.crownClose s a1).without H = s.without H := by
  refine lift h ?_
  unfold State.crownClose
  repeat' (first
    | with_reducible rfl | with_reducible (refine without_ite ?_ ?_) | with_reducible (refine (foldl_frame _ (fun a x => ?_) _ _).trans ?_) | with_reducible (refine (foldl_fst_frame _ (fun a x => ?_) _ _).trans ?_)
    | simp only [↓State.waitTo_frame, ↓State.judgeIn_frame, ↓State.crownLaunch_frame, ↓State.project_frame, Nat.reduceAnd]
    | split | dsimp only)
@[simp ↓] theorem State.granWidth_frame (s) (a1) (a2) (a3) {H : Nat} (h : H &&& 4096 = 4096) :
    (State.granWidth s a1 a2 a3).without H = s.without H := by
  refine lift h ?_
  unfold State.granWidth
  repeat' (first
    | with_reducible rfl | with_reducible (refine without_ite ?_ ?_)
    | simp only [↓without_granary, Nat.reduceAnd]
    | split | dsimp only)
@[simp ↓] theorem State.crownWrite_frame (s) (a1) (a2) (a3) (a4) (a5) {H : Nat} (h : H &&& 6162 = 6162) :
    (State.crownWrite s a1 a2 a3 a4 a5).without H = s.without H := by
  refine lift h ?_
  unfold State.crownWrite
  repeat' (first
    | with_reducible rfl | with_reducible (refine without_ite ?_ ?_) | with_reducible (refine (foldl_frame _ (fun a x => ?_) _ _).trans ?_) | with_reducible (refine (foldl_fst_frame _ (fun a x => ?_) _ _).trans ?_)
    | simp only [↓State.setSig_frame, ↓State.modSlot_frame, ↓State.crownMiss_frame, ↓State.hostMiss_frame,
      ↓State.granWidth_frame, ↓State.regionDone_frame, ↓State.regionWrite_frame, Nat.reduceAnd]
    | split | dsimp only)
@[simp ↓] theorem State.crownReset_frame (s) (a1) (a2) {H : Nat} (h : H &&& 2050 = 2050) :
    (State.crownReset s a1 a2).without H = s.without H := by
  refine lift h ?_
  unfold State.crownReset
  repeat' (first
    | with_reducible rfl | with_reducible (refine without_ite ?_ ?_)
    | simp only [↓State.post_frame, ↓State.modSlot_frame, Nat.reduceAnd]
    | split | dsimp only)
@[simp ↓] theorem State.crownSwap_frame (s) (a1) (a2) {H : Nat} (h : H &&& 2050 = 2050) :
    (State.crownSwap s a1 a2).without H = s.without H := by
  refine lift h ?_
  unfold State.crownSwap
  repeat' (first
    | with_reducible rfl | with_reducible (refine without_ite ?_ ?_)
    | simp only [↓State.modSlot_frame, ↓State.crownReset_frame, Nat.reduceAnd]
    | split | dsimp only)
@[simp ↓] theorem State.crownPend_frame (s) (a1) {H : Nat} (h : H &&& 2050 = 2050) :
    (State.crownPend s a1).without H = s.without H := by
  refine lift h ?_
  unfold State.crownPend
  repeat' (first
    | with_reducible rfl | with_reducible (refine without_ite ?_ ?_)
    | simp only [↓State.crownSwap_frame, Nat.reduceAnd]
    | split | dsimp only)
@[simp ↓] theorem State.crownIdle_frame (s) (a1) {H : Nat} (h : H &&& 16 = 16) :
    (State.crownIdle s a1).without H = s.without H := by
  refine lift h ?_
  unfold State.crownIdle
  repeat' (first
    | with_reducible rfl | with_reducible (refine without_ite ?_ ?_) | with_reducible (refine (foldl_frame _ (fun a x => ?_) _ _).trans ?_) | with_reducible (refine (foldl_fst_frame _ (fun a x => ?_) _ _).trans ?_)
    | simp only [↓State.zeroSlot_frame, ↓State.modFlags_frame, Nat.reduceAnd]
    | split | dsimp only)
@[simp ↓] theorem State.crownRelease_frame (s) (a1) (a2) (a3) {H : Nat} (h : H &&& 33560598 = 33560598) :
    (State.crownRelease s a1 a2 a3).without H = s.without H := by
  refine lift h ?_
  unfold State.crownRelease
  repeat' (first
    | with_reducible rfl | with_reducible (refine without_ite ?_ ?_) | with_reducible (refine (foldl_frame _ (fun a x => ?_) _ _).trans ?_) | with_reducible (refine (foldl_fst_frame _ (fun a x => ?_) _ _).trans ?_)
    | simp only [↓State.modSlot_frame, ↓State.waitTo_frame, ↓State.modFlags_frame, ↓State.crownPend_frame,
      ↓State.crownWrite_frame, ↓State.crownIdle_frame, Nat.reduceAnd]
    | split | dsimp only)
@[simp ↓] theorem State.crownArm_frame (s) (a1) {H : Nat} (h : H &&& 2050 = 2050) :
    (State.crownArm s a1).without H = s.without H := by
  refine lift h ?_
  unfold State.crownArm
  repeat' (first
    | with_reducible rfl | with_reducible (refine without_ite ?_ ?_)
    | simp only [↓State.crownPend_frame, ↓State.modSlot_frame, Nat.reduceAnd]
    | split | dsimp only)
@[simp ↓] theorem State.crownThrottle_frame (s) (a1) (a2) (a3) {H : Nat} (h : H &&& 2050 = 2050) :
    (State.crownThrottle s a1 a2 a3).without H = s.without H := by
  refine lift h ?_
  unfold State.crownThrottle
  repeat' (first
    | with_reducible rfl | with_reducible (refine without_ite ?_ ?_)
    | simp only [↓State.modCrownUnit_frame, ↓State.post_frame, Nat.reduceAnd]
    | split | dsimp only)
@[simp ↓] theorem State.crownAbort_frame (s) (a1) {H : Nat} (h : H &&& 2064 = 2064) :
    (State.crownAbort s a1).without H = s.without H := by
  refine lift h ?_
  unfold State.crownAbort
  repeat' (first
    | with_reducible rfl | with_reducible (refine without_ite ?_ ?_) | with_reducible (refine (foldl_frame _ (fun a x => ?_) _ _).trans ?_) | with_reducible (refine (foldl_fst_frame _ (fun a x => ?_) _ _).trans ?_)
    | simp only [↓State.zeroSlot_frame, ↓State.modSlot_frame, Nat.reduceAnd]
    | split | dsimp only)
@[simp ↓] theorem State.crownReady_frame (s) (a1) {H : Nat} (h : H &&& 2050 = 2050) :
    (State.crownReady s a1).without H = s.without H := by
  refine lift h ?_
  unfold State.crownReady
  repeat' (first
    | with_reducible rfl | with_reducible (refine without_ite ?_ ?_) | with_reducible (refine (foldl_frame _ (fun a x => ?_) _ _).trans ?_) | with_reducible (refine (foldl_fst_frame _ (fun a x => ?_) _ _).trans ?_)
    | simp only [↓State.modCrownUnit_frame, ↓State.crownArm_frame, Nat.reduceAnd]
    | split | dsimp only)
@[simp ↓] theorem State.crownRunEntry_frame (s) (a1) {H : Nat} (h : H &&& 2058 = 2058) :
    (State.crownRunEntry s a1).without H = s.without H := by
  refine lift h ?_
  unfold State.crownRunEntry
  repeat' (first
    | with_reducible rfl | with_reducible (refine without_ite ?_ ?_) | with_reducible (refine (foldl_frame _ (fun a x => ?_) _ _).trans ?_) | with_reducible (refine (foldl_fst_frame _ (fun a x => ?_) _ _).trans ?_)
    | simp only [↓State.modCrownUnit_frame, ↓State.clearFault_frame, ↓State.modSlot_frame, ↓State.crownReset_frame,
      ↓State.crownArm_frame, Nat.reduceAnd]
    | split | dsimp only)
@[simp ↓] theorem State.crownPlace_frame (s) (a1) (a2) {H : Nat} (h : H &&& 555747354 = 555747354) :
    (State.crownPlace s a1 a2).without H = s.without H := by
  refine lift h ?_
  unfold State.crownPlace
  repeat' (first
    | with_reducible rfl | with_reducible (refine without_ite ?_ ?_)
    | simp only [↓State.dirty_frame, ↓State.modSlot_frame, ↓State.modHost_frame, ↓State.crownArm_frame,
      ↓State.post_frame, ↓State.raiseEv_frame, ↓State.crownIdle_frame, Nat.reduceAnd]
    | split | dsimp only)
@[simp ↓] theorem State.crownDieLost_frame (s) (a1) {H : Nat} (h : H &&& 555747354 = 555747354) :
    (State.crownDieLost s a1).without H = s.without H := by
  refine lift h ?_
  unfold State.crownDieLost
  repeat' (first
    | with_reducible rfl | with_reducible (refine without_ite ?_ ?_) | with_reducible (refine (foldl_frame _ (fun a x => ?_) _ _).trans ?_) | with_reducible (refine (foldl_fst_frame _ (fun a x => ?_) _ _).trans ?_)
    | simp only [↓State.crownPlace_frame, Nat.reduceAnd]
    | split | dsimp only)
@[simp ↓] theorem State.crownModels_frame (s) (a1) {H : Nat} (h : H &&& 2050 = 2050) :
    (State.crownModels s a1).without H = s.without H := by
  refine lift h ?_
  unfold State.crownModels
  repeat' (first
    | with_reducible rfl | with_reducible (refine without_ite ?_ ?_) | with_reducible (refine (foldl_frame _ (fun a x => ?_) _ _).trans ?_) | with_reducible (refine (foldl_fst_frame _ (fun a x => ?_) _ _).trans ?_)
    | simp only [↓State.modCrown_frame, ↓State.crownPend_frame, ↓State.modSlot_frame, Nat.reduceAnd]
    | split | dsimp only)
@[simp ↓] theorem State.modGran_frame (s) (a1) {H : Nat} (h : H &&& 4096 = 4096) :
    (State.modGran s a1).without H = s.without H := by
  refine lift h ?_
  unfold State.modGran
  repeat' (first
    | with_reducible rfl | with_reducible (refine without_ite ?_ ?_)
    | simp only [↓without_granary, Nat.reduceAnd]
    | split | dsimp only)
@[simp ↓] theorem State.unmapped_frame (s) (a1) (a2) {H : Nat} (h : H &&& 4098 = 4098) :
    (State.unmapped s a1 a2).without H = s.without H := by
  refine lift h ?_
  unfold State.unmapped
  repeat' (first
    | with_reducible rfl | with_reducible (refine without_ite ?_ ?_)
    | simp only [↓State.modGran_frame, ↓State.post_frame, Nat.reduceAnd]
    | split | dsimp only)
@[simp ↓] theorem State.swath_frame (s) (a1) (a2) {H : Nat} (h : H &&& 18878474 = 18878474) :
    (State.swath s a1 a2).1.without H = s.without H := by
  refine lift h ?_
  unfold State.swath
  repeat' (first
    | with_reducible rfl | with_reducible (refine without_ite ?_ ?_) | with_reducible (refine without_ite_fst ?_ ?_)
    | simp only [↓State.modGran_frame, ↓State.clearFault_frame, ↓State.raiseEv_frame, Nat.reduceAnd]
    | split | dsimp only)
@[simp ↓] theorem State.mapStrip_frame (s) (a1) (a2) (a3) (a4) (a5) (a6) {H : Nat} (h : H &&& 4096 = 4096) :
    (State.mapStrip s a1 a2 a3 a4 a5 a6).without H = s.without H := by
  refine lift h ?_
  unfold State.mapStrip
  repeat' (first
    | with_reducible rfl | with_reducible (refine without_ite ?_ ?_) | with_reducible (refine (foldl_frame _ (fun a x => ?_) _ _).trans ?_) | with_reducible (refine (foldl_fst_frame _ (fun a x => ?_) _ _).trans ?_)
    | simp only [↓State.modGran_frame, Nat.reduceAnd]
    | split | dsimp only)
@[simp ↓] theorem State.granMap_frame (s) (a1) (a2) (a3) (a4) (a5) (a6) {H : Nat} (h : H &&& 18878474 = 18878474) :
    (State.granMap s a1 a2 a3 a4 a5 a6).without H = s.without H := by
  refine lift h ?_
  unfold State.granMap
  repeat' (first
    | with_reducible rfl | with_reducible (refine without_ite ?_ ?_)
    | simp only [↓State.modGran_frame, ↓State.swath_frame, ↓State.unmapped_frame, ↓State.raiseEv_frame,
      ↓State.mapStrip_frame, Nat.reduceAnd]
    | split | dsimp only)
@[simp ↓] theorem State.granTurn_frame (s) {H : Nat} (h : H &&& 4098 = 4098) :
    (State.granTurn s).without H = s.without H := by
  refine lift h ?_
  unfold State.granTurn
  repeat' (first
    | with_reducible rfl | with_reducible (refine without_ite ?_ ?_)
    | simp only [↓State.modGran_frame, ↓State.post_frame, Nat.reduceAnd]
    | split | dsimp only)
@[simp ↓] theorem State.flowJudged_frame (s) (a1) {H : Nat} (h : H &&& 18878474 = 18878474) :
    (State.flowJudged s a1).without H = s.without H := by
  refine lift h ?_
  unfold State.flowJudged
  repeat' (first
    | with_reducible rfl | with_reducible (refine without_ite ?_ ?_)
    | simp only [↓State.modGran_frame, ↓State.clearFault_frame, ↓State.raiseEv_frame, Nat.reduceAnd]
    | split | dsimp only)
@[simp ↓] theorem State.granFlow_frame (s) (a1) {H : Nat} (h : H &&& 18878474 = 18878474) :
    (State.granFlow s a1).without H = s.without H := by
  refine lift h ?_
  unfold State.granFlow
  repeat' (first
    | with_reducible rfl | with_reducible (refine without_ite ?_ ?_)
    | simp only [↓State.modGran_frame, ↓State.flowJudged_frame, ↓State.granMap_frame, Nat.reduceAnd]
    | split | dsimp only)
@[simp ↓] theorem State.granLate_frame (s) (a1) (a2) (a3) (a4) (a5) (a6) {H : Nat} (h : H &&& 18878474 = 18878474) :
    (State.granLate s a1 a2 a3 a4 a5 a6).without H = s.without H := by
  refine lift h ?_
  unfold State.granLate
  repeat' (first
    | with_reducible rfl | with_reducible (refine without_ite ?_ ?_)
    | simp only [↓State.modGran_frame, ↓State.granMap_frame, ↓State.flowJudged_frame, Nat.reduceAnd]
    | split | dsimp only)
@[simp ↓] theorem State.granMiss_frame (s) {H : Nat} (h : H &&& 18878474 = 18878474) :
    (State.granMiss s).without H = s.without H := by
  refine lift h ?_
  unfold State.granMiss
  repeat' (first
    | with_reducible rfl | with_reducible (refine without_ite ?_ ?_)
    | simp only [↓State.modGran_frame, ↓State.granLate_frame, Nat.reduceAnd]
    | split | dsimp only)
@[simp ↓] theorem State.granTile_frame (s) (a1) {H : Nat} (h : H &&& 27267082 = 27267082) :
    (State.granTile s a1).without H = s.without H := by
  refine lift h ?_
  unfold State.granTile
  repeat' (first
    | with_reducible rfl | with_reducible (refine without_ite ?_ ?_)
    | simp only [↓State.raiseEv_frame, ↓State.modGran_frame, ↓State.modAttic_frame, ↓State.atticWear_frame, Nat.reduceAnd]
    | split | dsimp only)
@[simp ↓] theorem State.granWrite_frame (s) (a1) {H : Nat} (h : H &&& 27267082 = 27267082) :
    (State.granWrite s a1).without H = s.without H := by
  refine lift h ?_
  unfold State.granWrite
  repeat' (first
    | with_reducible rfl | with_reducible (refine without_ite ?_ ?_) | with_reducible (refine (foldl_frame _ (fun a x => ?_) _ _).trans ?_) | with_reducible (refine (foldl_fst_frame _ (fun a x => ?_) _ _).trans ?_)
    | simp only [↓State.modGran_frame, ↓State.granTile_frame, Nat.reduceAnd]
    | split | dsimp only)
@[simp ↓] theorem State.granPark_frame (s) {H : Nat} (h : H &&& 27267082 = 27267082) :
    (State.granPark s).without H = s.without H := by
  refine lift h ?_
  unfold State.granPark
  repeat' (first
    | with_reducible rfl | with_reducible (refine without_ite ?_ ?_)
    | simp only [↓State.granWrite_frame, Nat.reduceAnd]
    | split | dsimp only)
@[simp ↓] theorem State.granUnstage_frame (s) (a1) {H : Nat} (h : H &&& 4096 = 4096) :
    (State.granUnstage s a1).without H = s.without H := by
  refine lift h ?_
  unfold State.granUnstage
  repeat' (first
    | with_reducible rfl | with_reducible (refine without_ite ?_ ?_)
    | simp only [↓State.modGran_frame, Nat.reduceAnd]
    | split | dsimp only)
@[simp ↓] theorem State.granDelete_frame (s) (a1) {H : Nat} (h : H &&& 4096 = 4096) :
    (State.granDelete s a1).without H = s.without H := by
  refine lift h ?_
  unfold State.granDelete
  repeat' (first
    | with_reducible rfl | with_reducible (refine without_ite ?_ ?_)
    | simp only [↓State.modGran_frame, Nat.reduceAnd]
    | split | dsimp only)
@[simp ↓] theorem State.granAbort_frame (s) {H : Nat} (h : H &&& 4098 = 4098) :
    (State.granAbort s).without H = s.without H := by
  refine lift h ?_
  unfold State.granAbort
  repeat' (first
    | with_reducible rfl | with_reducible (refine without_ite ?_ ?_)
    | simp only [↓State.modGran_frame, ↓State.complete_frame, Nat.reduceAnd]
    | split | dsimp only)
@[simp ↓] theorem State.outShow_frame (s) (a1) {H : Nat} (h : H &&& 12304 = 12304) :
    (State.outShow s a1).without H = s.without H := by
  refine lift h ?_
  unfold State.outShow
  repeat' (first
    | with_reducible rfl | with_reducible (refine without_ite ?_ ?_)
    | simp only [↓State.setSig_frame, ↓State.modOut_frame, Nat.reduceAnd]
    | split | dsimp only)
@[simp ↓] theorem State.pwmBoundary_frame (s) (a1) {H : Nat} (h : H &&& 33554436 = 33554436) :
    (State.pwmBoundary s a1).without H = s.without H := by
  refine lift h ?_
  unfold State.pwmBoundary
  repeat' (first
    | with_reducible rfl | with_reducible (refine without_ite ?_ ?_)
    | simp only [↓State.waitTo_frame, ↓without_time, Nat.reduceAnd]
    | split | dsimp only)
@[simp ↓] theorem State.testStart_frame (s) (a1) {H : Nat} (h : H &&& 33562628 = 33562628) :
    (State.testStart s a1).without H = s.without H := by
  refine lift h ?_
  unfold State.testStart
  repeat' (first
    | with_reducible rfl | with_reducible (refine without_ite ?_ ?_)
    | simp only [↓State.modOut_frame, ↓State.waitTo_frame, Nat.reduceAnd]
    | split | dsimp only)
@[simp ↓] theorem State.outCurrent_frame (a0) (s) (a2) {H : Nat} (h : H &&& 12304 = 12304) :
    (State.outCurrent a0 s a2).without H = s.without H := by
  refine lift h ?_
  unfold State.outCurrent
  repeat' (first
    | with_reducible rfl | with_reducible (refine without_ite ?_ ?_)
    | simp only [↓State.modOut_frame, ↓State.setSig_frame, Nat.reduceAnd]
    | split | dsimp only)
@[simp ↓] theorem State.dieChannel_frame (a0) (a1) (s) (a3) {H : Nat} (h : H &&& 18886682 = 18886682) :
    (State.dieChannel a0 a1 s a3).without H = s.without H := by
  refine lift h ?_
  unfold State.dieChannel
  repeat' (first
    | with_reducible rfl | with_reducible (refine without_ite ?_ ?_)
    | simp only [↓State.modOut_frame, ↓State.outShow_frame, ↓State.outEval_frame, ↓State.raiseEv_frame, Nat.reduceAnd]
    | split | dsimp only)
@[simp ↓] theorem State.parkRelease_frame (s) (a1) {H : Nat} (h : H &&& 8192 = 8192) :
    (State.parkRelease s a1).without H = s.without H := by
  refine lift h ?_
  unfold State.parkRelease
  repeat' (first
    | with_reducible rfl | with_reducible (refine without_ite ?_ ?_)
    | simp only [↓State.modOut_frame, ↓State.modPark_frame, Nat.reduceAnd]
    | split | dsimp only)
@[simp ↓] theorem State.takeOver_frame (s) (a1) {H : Nat} (h : H &&& 8192 = 8192) :
    (State.takeOver s a1).without H = s.without H := by
  refine lift h ?_
  unfold State.takeOver
  repeat' (first
    | with_reducible rfl | with_reducible (refine without_ite ?_ ?_) | with_reducible (refine (foldl_frame _ (fun a x => ?_) _ _).trans ?_) | with_reducible (refine (foldl_fst_frame _ (fun a x => ?_) _ _).trans ?_)
    | simp only [↓State.parkRelease_frame, ↓State.modOut_frame, Nat.reduceAnd]
    | split | dsimp only)
@[simp ↓] theorem State.outsTrunkPost_frame (s) {H : Nat} (h : H &&& 18882570 = 18882570) :
    (State.outsTrunkPost s).without H = s.without H := by
  refine lift h ?_
  unfold State.outsTrunkPost
  repeat' (first
    | with_reducible rfl | with_reducible (refine without_ite ?_ ?_) | with_reducible (refine (foldl_frame _ (fun a x => ?_) _ _).trans ?_) | with_reducible (refine (foldl_fst_frame _ (fun a x => ?_) _ _).trans ?_)
    | simp only [↓State.modPark_frame, ↓State.clearFault_frame, ↓State.raiseEv_frame, ↓State.modOut_frame, Nat.reduceAnd]
    | split | dsimp only)
@[simp ↓] theorem State.hbGo_frame (s) (a1) (a2) (a3) {H : Nat} (h : H &&& 8192 = 8192) :
    (State.hbGo s a1 a2 a3).without H = s.without H := by
  refine lift h ?_
  unfold State.hbGo
  repeat' (first
    | with_reducible rfl | with_reducible (refine without_ite ?_ ?_)
    | simp only [↓State.modHb_frame, Nat.reduceAnd]
    | split | dsimp only)
@[simp ↓] theorem State.hbMove_frame (s) (a1) (a2) (a3) (a4) (a5) (a6) {H : Nat} (h : H &&& 40970 = 40970) :
    (State.hbMove s a1 a2 a3 a4 a5 a6).without H = s.without H := by
  refine lift h ?_
  unfold State.hbMove
  repeat' (first
    | with_reducible rfl | with_reducible (refine without_ite ?_ ?_)
    | simp only [↓State.hbEnd_frame, ↓State.modHb_frame, ↓State.hbGo_frame, Nat.reduceAnd]
    | split | dsimp only)
@[simp ↓] theorem State.hbPinch_frame (s) (a1) (a2) (a3) {H : Nat} (h : H &&& 18882570 = 18882570) :
    (State.hbPinch s a1 a2 a3).without H = s.without H := by
  refine lift h ?_
  unfold State.hbPinch
  repeat' (first
    | with_reducible rfl | with_reducible (refine without_ite ?_ ?_)
    | simp only [↓State.modHb_frame, ↓State.raiseEv_frame, Nat.reduceAnd]
    | split | dsimp only)
@[simp ↓] theorem State.outsKeeperRestart_frame (s) {H : Nat} (h : H &&& 40970 = 40970) :
    (State.outsKeeperRestart s).without H = s.without H := by
  refine lift h ?_
  unfold State.outsKeeperRestart
  repeat' (first
    | with_reducible rfl | with_reducible (refine without_ite ?_ ?_)
    | simp only [↓State.applyPolicy_frame, Nat.reduceAnd]
    | split | dsimp only)
@[simp ↓] theorem State.outsRestart_frame (s) (a1) {H : Nat} (h : H &&& 40970 = 40970) :
    (State.outsRestart s a1).without H = s.without H := by
  refine lift h ?_
  unfold State.outsRestart
  repeat' (first
    | with_reducible rfl | with_reducible (refine without_ite ?_ ?_) | with_reducible (refine (foldl_frame _ (fun a x => ?_) _ _).trans ?_) | with_reducible (refine (foldl_fst_frame _ (fun a x => ?_) _ _).trans ?_)
    | simp only [↓State.applyPolicy_frame, ↓State.complete_frame, ↓State.clearFault_frame, ↓State.modHb_frame,
      Nat.reduceAnd]
    | split | dsimp only)
@[simp ↓] theorem State.bodyDrive_frame (s) (a1) (a2) {H : Nat} (h : H &&& 40960 = 40960) :
    (State.bodyDrive s a1 a2).without H = s.without H := by
  refine lift h ?_
  unfold State.bodyDrive
  repeat' (first
    | with_reducible rfl | with_reducible (refine without_ite ?_ ?_) | with_reducible (refine (foldl_frame _ (fun a x => ?_) _ _).trans ?_) | with_reducible (refine (foldl_fst_frame _ (fun a x => ?_) _ _).trans ?_)
    | simp only [↓State.modSvc_frame, ↓State.modPark_frame, ↓State.parkRelease_frame, ↓State.outEval_frame,
      ↓State.modOut_frame, ↓State.takeOver_frame, Nat.reduceAnd]
    | split | dsimp only)
@[simp ↓] theorem State.bodyApply_frame (s) (a1) {H : Nat} (h : H &&& 40960 = 40960) :
    (State.bodyApply s a1).without H = s.without H := by
  refine lift h ?_
  unfold State.bodyApply
  repeat' (first
    | with_reducible rfl | with_reducible (refine without_ite ?_ ?_)
    | simp only [↓State.bodyDrive_frame, Nat.reduceAnd]
    | split | dsimp only)
@[simp ↓] theorem State.lampOuts_frame (s) (a1) {H : Nat} (h : H &&& 18907146 = 18907146) :
    (State.lampOuts s a1).without H = s.without H := by
  refine lift h ?_
  unfold State.lampOuts
  repeat' (first
    | with_reducible rfl | with_reducible (refine without_ite ?_ ?_)
    | simp only [↓State.modSvc_frame, ↓State.raiseEv_frame, ↓State.clearFault_frame, Nat.reduceAnd]
    | split | dsimp only)
@[simp ↓] theorem State.flashStart_frame (s) (a1) {H : Nat} (h : H &&& 18907146 = 18907146) :
    (State.flashStart s a1).without H = s.without H := by
  refine lift h ?_
  unfold State.flashStart
  repeat' (first
    | with_reducible rfl | with_reducible (refine without_ite ?_ ?_)
    | simp only [↓State.lampOuts_frame, ↓State.modSvc_frame, Nat.reduceAnd]
    | split | dsimp only)
@[simp ↓] theorem State.flasherEval_frame (s) (a1) (a2) {H : Nat} (h : H &&& 18907146 = 18907146) :
    (State.flasherEval s a1 a2).without H = s.without H := by
  refine lift h ?_
  unfold State.flasherEval
  repeat' (first
    | with_reducible rfl | with_reducible (refine without_ite ?_ ?_)
    | simp only [↓State.bodyState_frame, ↓State.modSvc_frame, ↓State.flashStart_frame, Nat.reduceAnd]
    | split | dsimp only)
@[simp ↓] theorem State.wipe_frame (s) (a1) (a2) (a3) {H : Nat} (h : H &&& 32770 = 32770) :
    (State.wipe s a1 a2 a3).without H = s.without H := by
  refine lift h ?_
  unfold State.wipe
  repeat' (first
    | with_reducible rfl | with_reducible (refine without_ite ?_ ?_)
    | simp only [↓State.bodyState_frame, ↓State.modSvc_frame, Nat.reduceAnd]
    | split | dsimp only)
@[simp ↓] theorem State.wiperEval_frame (s) (a1) {H : Nat} (h : H &&& 32770 = 32770) :
    (State.wiperEval s a1).without H = s.without H := by
  refine lift h ?_
  unfold State.wiperEval
  repeat' (first
    | with_reducible rfl | with_reducible (refine without_ite ?_ ?_)
    | simp only [↓State.modSvc_frame, ↓State.wipe_frame, Nat.reduceAnd]
    | split | dsimp only)
@[simp ↓] theorem State.bodyMove_frame (s) (a1) (a2) (a3) (a4) (a5) {H : Nat} (h : H &&& 40970 = 40970) :
    (State.bodyMove s a1 a2 a3 a4 a5).without H = s.without H := by
  refine lift h ?_
  unfold State.bodyMove
  repeat' (first
    | with_reducible rfl | with_reducible (refine without_ite ?_ ?_)
    | simp only [↓State.hbMove_frame, Nat.reduceAnd]
    | split | dsimp only)
@[simp ↓] theorem State.lockReq_frame (s) (a1) (a2) {H : Nat} (h : H &&& 18915338 = 18915338) :
    (State.lockReq s a1 a2).without H = s.without H := by
  refine lift h ?_
  unfold State.lockReq
  repeat' (first
    | with_reducible rfl | with_reducible (refine without_ite ?_ ?_) | with_reducible (refine (foldl_frame _ (fun a x => ?_) _ _).trans ?_) | with_reducible (refine (foldl_fst_frame _ (fun a x => ?_) _ _).trans ?_)
    | simp only [↓State.modSvc_frame, ↓State.bodyMove_frame, ↓State.bodyState_frame, ↓State.raiseEv_frame, Nat.reduceAnd]
    | split | dsimp only)
@[simp ↓] theorem State.windowReq_frame (s) (a1) (a2) (a3) {H : Nat} (h : H &&& 40970 = 40970) :
    (State.windowReq s a1 a2 a3).without H = s.without H := by
  refine lift h ?_
  unfold State.windowReq
  repeat' (first
    | with_reducible rfl | with_reducible (refine without_ite ?_ ?_)
    | simp only [↓State.modSvc_frame, ↓State.bodyState_frame, ↓State.hbEnd_frame, ↓State.bodyMove_frame, Nat.reduceAnd]
    | split | dsimp only)
@[simp ↓] theorem State.edgeEval_frame (s) (a1) (a2) {H : Nat} (h : H &&& 18915338 = 18915338) :
    (State.edgeEval s a1 a2).without H = s.without H := by
  refine lift h ?_
  unfold State.edgeEval
  repeat' (first
    | with_reducible rfl | with_reducible (refine without_ite ?_ ?_) | with_reducible (refine (foldl_frame _ (fun a x => ?_) _ _).trans ?_) | with_reducible (refine (foldl_fst_frame _ (fun a x => ?_) _ _).trans ?_)
    | simp only [↓State.lockReq_frame, ↓State.windowReq_frame, Nat.reduceAnd]
    | split | dsimp only)
@[simp ↓] theorem State.setOff_frame (s) (a1) (a2) {H : Nat} (h : H &&& 32770 = 32770) :
    (State.setOff s a1 a2).without H = s.without H := by
  refine lift h ?_
  unfold State.setOff
  repeat' (first
    | with_reducible rfl | with_reducible (refine without_ite ?_ ?_)
    | simp only [↓State.bodyState_frame, ↓State.modSvc_frame, Nat.reduceAnd]
    | split | dsimp only)
@[simp ↓] theorem State.setEval_frame (s) (a1) {H : Nat} (h : H &&& 32770 = 32770) :
    (State.setEval s a1).without H = s.without H := by
  refine lift h ?_
  unfold State.setEval
  repeat' (first
    | with_reducible rfl | with_reducible (refine without_ite ?_ ?_)
    | simp only [↓State.modSvc_frame, ↓State.bodyState_frame, ↓State.setOff_frame, Nat.reduceAnd]
    | split | dsimp only)
@[simp ↓] theorem State.bodyHw_frame (s) (a1) (a2) (a3) {H : Nat} (h : H &&& 18915338 = 18915338) :
    (State.bodyHw s a1 a2 a3).without H = s.without H := by
  refine lift h ?_
  unfold State.bodyHw
  repeat' (first
    | with_reducible rfl | with_reducible (refine without_ite ?_ ?_)
    | simp only [↓State.bodyApply_frame, ↓State.lampOuts_frame, ↓State.flasherEval_frame, ↓State.wiperEval_frame,
      ↓State.edgeEval_frame, ↓State.setEval_frame, Nat.reduceAnd]
    | split | dsimp only)
@[simp ↓] theorem State.bodyEval_frame (s) (a1) {H : Nat} (h : H &&& 18915338 = 18915338) :
    (State.bodyEval s a1).without H = s.without H := by
  refine lift h ?_
  unfold State.bodyEval
  repeat' (first
    | with_reducible rfl | with_reducible (refine without_ite ?_ ?_)
    | simp only [↓State.modSvc_frame, ↓State.bodyHw_frame, Nat.reduceAnd]
    | split | dsimp only)
@[simp ↓] theorem State.bodyEvalAll_frame (s) {H : Nat} (h : H &&& 18915338 = 18915338) :
    (State.bodyEvalAll s).without H = s.without H := by
  refine lift h ?_
  unfold State.bodyEvalAll
  repeat' (first
    | with_reducible rfl | with_reducible (refine without_ite ?_ ?_) | with_reducible (refine (foldl_frame _ (fun a x => ?_) _ _).trans ?_) | with_reducible (refine (foldl_fst_frame _ (fun a x => ?_) _ _).trans ?_)
    | simp only [↓State.bodyEval_frame, Nat.reduceAnd]
    | split | dsimp only)
@[simp ↓] theorem State.bodyTake_frame (s) (a1) {H : Nat} (h : H &&& 18915338 = 18915338) :
    (State.bodyTake s a1).without H = s.without H := by
  refine lift h ?_
  unfold State.bodyTake
  repeat' (first
    | with_reducible rfl | with_reducible (refine without_ite ?_ ?_) | with_reducible (refine (foldl_frame _ (fun a x => ?_) _ _).trans ?_) | with_reducible (refine (foldl_fst_frame _ (fun a x => ?_) _ _).trans ?_)
    | simp only [↓State.hbEnd_frame, ↓State.modSvc_frame, ↓State.bodyHw_frame, ↓State.bodyEval_frame, Nat.reduceAnd]
    | split | dsimp only)
@[simp ↓] theorem State.bodyMiss_frame (s) (a1) {H : Nat} (h : H &&& 18915338 = 18915338) :
    (State.bodyMiss s a1).without H = s.without H := by
  refine lift h ?_
  unfold State.bodyMiss
  repeat' (first
    | with_reducible rfl | with_reducible (refine without_ite ?_ ?_)
    | simp only [↓State.bodyTake_frame, Nat.reduceAnd]
    | split | dsimp only)
@[simp ↓] theorem State.bodyUnbind_frame (s) (a1) {H : Nat} (h : H &&& 40970 = 40970) :
    (State.bodyUnbind s a1).without H = s.without H := by
  refine lift h ?_
  unfold State.bodyUnbind
  repeat' (first
    | with_reducible rfl | with_reducible (refine without_ite ?_ ?_) | with_reducible (refine (foldl_frame _ (fun a x => ?_) _ _).trans ?_) | with_reducible (refine (foldl_fst_frame _ (fun a x => ?_) _ _).trans ?_)
    | simp only [↓State.clearFault_frame, ↓State.bodyDrive_frame, ↓State.modHb_frame, ↓State.hbEnd_frame,
      ↓State.modOut_frame, Nat.reduceAnd]
    | split | dsimp only)
@[simp ↓] theorem State.hazardPark_frame (s) {H : Nat} (h : H &&& 40960 = 40960) :
    (State.hazardPark s).without H = s.without H := by
  refine lift h ?_
  unfold State.hazardPark
  repeat' (first
    | with_reducible rfl | with_reducible (refine without_ite ?_ ?_) | with_reducible (refine (foldl_frame _ (fun a x => ?_) _ _).trans ?_) | with_reducible (refine (foldl_fst_frame _ (fun a x => ?_) _ _).trans ?_)
    | simp only [↓State.modPark_frame, ↓State.parkRelease_frame, ↓State.modSvc_frame, Nat.reduceAnd]
    | split | dsimp only)
@[simp ↓] theorem State.bodyParkStop_frame (s) {H : Nat} (h : H &&& 40970 = 40970) :
    (State.bodyParkStop s).without H = s.without H := by
  refine lift h ?_
  unfold State.bodyParkStop
  repeat' (first
    | with_reducible rfl | with_reducible (refine without_ite ?_ ?_) | with_reducible (refine (foldl_frame _ (fun a x => ?_) _ _).trans ?_) | with_reducible (refine (foldl_fst_frame _ (fun a x => ?_) _ _).trans ?_)
    | simp only [↓State.modSvc_frame, ↓State.bodyApply_frame, ↓State.bodyState_frame, ↓State.wipe_frame,
      ↓State.setOff_frame, ↓State.hbEnd_frame, ↓State.hazardPark_frame, Nat.reduceAnd]
    | split | dsimp only)
@[simp ↓] theorem State.bodyResume_frame (s) (a1) {H : Nat} (h : H &&& 40960 = 40960) :
    (State.bodyResume s a1).without H = s.without H := by
  refine lift h ?_
  unfold State.bodyResume
  repeat' (first
    | with_reducible rfl | with_reducible (refine without_ite ?_ ?_) | with_reducible (refine (foldl_frame _ (fun a x => ?_) _ _).trans ?_) | with_reducible (refine (foldl_fst_frame _ (fun a x => ?_) _ _).trans ?_)
    | simp only [↓State.bodyDrive_frame, ↓without_body, Nat.reduceAnd]
    | split | dsimp only)
@[simp ↓] theorem State.bodyRestart_frame (s) {H : Nat} (h : H &&& 40970 = 40970) :
    (State.bodyRestart s).without H = s.without H := by
  refine lift h ?_
  unfold State.bodyRestart
  repeat' (first
    | with_reducible rfl | with_reducible (refine without_ite ?_ ?_)
    | simp only [↓State.applyPolicy_frame, ↓without_body, Nat.reduceAnd]
    | split | dsimp only)
@[simp ↓] theorem State.modSw_frame (s) (a1) (a2) {H : Nat} (h : H &&& 16384 = 16384) :
    (State.modSw s a1 a2).without H = s.without H := by
  refine lift h ?_
  unfold State.modSw
  repeat' (first
    | with_reducible rfl | with_reducible (refine without_ite ?_ ?_)
    | simp only [↓without_swin, Nat.reduceAnd]
    | split | dsimp only)
@[simp ↓] theorem State.swTake_frame (s) (a1) (a2) {H : Nat} (h : H &&& 16386 = 16386) :
    (State.swTake s a1 a2).without H = s.without H := by
  refine lift h ?_
  unfold State.swTake
  repeat' (first
    | with_reducible rfl | with_reducible (refine without_ite ?_ ?_)
    | simp only [↓State.modSw_frame, ↓State.post_frame, Nat.reduceAnd]
    | split | dsimp only)
@[simp ↓] theorem State.swRearm_frame (s) (a1) {H : Nat} (h : H &&& 16394 = 16394) :
    (State.swRearm s a1).without H = s.without H := by
  refine lift h ?_
  unfold State.swRearm
  repeat' (first
    | with_reducible rfl | with_reducible (refine without_ite ?_ ?_)
    | simp only [↓State.modSw_frame, ↓State.clearFault_frame, ↓State.post_frame, Nat.reduceAnd]
    | split | dsimp only)
@[simp ↓] theorem State.swSample_frame (a0) (s) (a2) {H : Nat} (h : H &&& 18890762 = 18890762) :
    (State.swSample a0 s a2).without H = s.without H := by
  refine lift h ?_
  unfold State.swSample
  repeat' (first
    | with_reducible rfl | with_reducible (refine without_ite ?_ ?_)
    | simp only [↓State.modSw_frame, ↓State.clearFault_frame, ↓State.swTake_frame, ↓State.raiseEv_frame,
      ↓State.swRearm_frame, Nat.reduceAnd]
    | split | dsimp only)
@[simp ↓] theorem State.swCheck_frame (a0) (a1) (s) (a3) {H : Nat} (h : H &&& 34619392 = 34619392) :
    (State.swCheck a0 a1 s a3).without H = s.without H := by
  refine lift h ?_
  unfold State.swCheck
  repeat' (first
    | with_reducible rfl | with_reducible (refine without_ite ?_ ?_)
    | simp only [↓State.modSw_frame, ↓State.wake_frame, ↓without_swin, Nat.reduceAnd]
    | split | dsimp only)

end Sys2Proof.Machine
end

