-- ==== Sys2Proof/Laws/FrameOps3.lean ====
section
/-! SUPPORT. Laws/FrameOps3.lean: what each operation leaves alone. A mask has a bit for each piece of `Piece`. -/

set_option linter.all false

namespace Sys2Proof.Machine
@[simp ↓] theorem State.swinTrunkPost_frame (s) {H : Nat} (h : H &&& 18890762 = 18890762) :
    (State.swinTrunkPost s).without H = s.without H := by
  refine lift h ?_
  unfold State.swinTrunkPost
  repeat' (first
    | with_reducible rfl | with_reducible (refine without_ite ?_ ?_) | with_reducible (refine (foldl_frame _ (fun a x => ?_) _ _).trans ?_) | with_reducible (refine (foldl_fst_frame _ (fun a x => ?_) _ _).trans ?_)
    | simp only [↓State.postAt_frame, ↓State.raise_frame, ↓State.clearFault_frame, ↓without_swin, Nat.reduceAnd]
    | split | dsimp only)
@[simp ↓] theorem State.modLin_frame (s) (a1) (a2) {H : Nat} (h : H &&& 32768 = 32768) :
    (State.modLin s a1 a2).without H = s.without H := by
  refine lift h ?_
  unfold State.modLin
  repeat' (first
    | with_reducible rfl | with_reducible (refine without_ite ?_ ?_)
    | simp only [↓without_body, Nat.reduceAnd]
    | split | dsimp only)
@[simp ↓] theorem State.modFrame_frame (s) (a1) (a2) (a3) {H : Nat} (h : H &&& 32768 = 32768) :
    (State.modFrame s a1 a2 a3).without H = s.without H := by
  refine lift h ?_
  unfold State.modFrame
  repeat' (first
    | with_reducible rfl | with_reducible (refine without_ite ?_ ?_)
    | simp only [↓State.modLin_frame, Nat.reduceAnd]
    | split | dsimp only)
@[simp ↓] theorem State.linSend_frame (s) (a1) (a2) (a3) {H : Nat} (h : H &&& 32768 = 32768) :
    (State.linSend s a1 a2 a3).without H = s.without H := by
  refine lift h ?_
  unfold State.linSend
  repeat' (first
    | with_reducible rfl | with_reducible (refine without_ite ?_ ?_)
    | simp only [↓State.modLin_frame, Nat.reduceAnd]
    | split | dsimp only)
@[simp ↓] theorem State.linResponse_frame (s) (a1) (a2) (a3) {H : Nat} (h : H &&& 32778 = 32778) :
    (State.linResponse s a1 a2 a3).without H = s.without H := by
  refine lift h ?_
  unfold State.linResponse
  repeat' (first
    | with_reducible rfl | with_reducible (refine without_ite ?_ ?_)
    | simp only [↓State.modFrame_frame, ↓State.post_frame, ↓State.clearFault_frame, Nat.reduceAnd]
    | split | dsimp only)
@[simp ↓] theorem State.linMissed_frame (s) (a1) (a2) {H : Nat} (h : H &&& 18907146 = 18907146) :
    (State.linMissed s a1 a2).without H = s.without H := by
  refine lift h ?_
  unfold State.linMissed
  repeat' (first
    | with_reducible rfl | with_reducible (refine without_ite ?_ ?_)
    | simp only [↓State.modFrame_frame, ↓State.raiseEv_frame, Nat.reduceAnd]
    | split | dsimp only)
@[simp ↓] theorem State.linFrame_frame (s) (a1) (a2) (a3) {H : Nat} (h : H &&& 52461582 = 52461582) :
    (State.linFrame s a1 a2 a3).without H = s.without H := by
  refine lift h ?_
  unfold State.linFrame
  repeat' (first
    | with_reducible rfl | with_reducible (refine without_ite ?_ ?_)
    | simp only [↓State.modLin_frame, ↓State.waitTo_frame, ↓State.linResponse_frame, ↓State.linMissed_frame,
      ↓State.modFrame_frame, ↓State.linSend_frame, Nat.reduceAnd]
    | split | dsimp only)
@[simp ↓] theorem State.linRestart_frame (s) {H : Nat} (h : H &&& 32778 = 32778) :
    (State.linRestart s).without H = s.without H := by
  refine lift h ?_
  unfold State.linRestart
  repeat' (first
    | with_reducible rfl | with_reducible (refine without_ite ?_ ?_) | with_reducible (refine (foldl_frame _ (fun a x => ?_) _ _).trans ?_) | with_reducible (refine (foldl_fst_frame _ (fun a x => ?_) _ _).trans ?_)
    | simp only [↓State.clearFault_frame, ↓without_body, Nat.reduceAnd]
    | split | dsimp only)
@[simp ↓] theorem State.modFan_frame (s) (a1) (a2) {H : Nat} (h : H &&& 65536 = 65536) :
    (State.modFan s a1 a2).without H = s.without H := by
  refine lift h ?_
  unfold State.modFan
  repeat' (first
    | with_reducible rfl | with_reducible (refine without_ite ?_ ?_)
    | simp only [↓without_fans, Nat.reduceAnd]
    | split | dsimp only)
@[simp ↓] theorem State.fanSensor_frame (s) (a1) (a2) {H : Nat} (h : H &&& 18939914 = 18939914) :
    (State.fanSensor s a1 a2).without H = s.without H := by
  refine lift h ?_
  unfold State.fanSensor
  repeat' (first
    | with_reducible rfl | with_reducible (refine without_ite ?_ ?_)
    | simp only [↓State.modFan_frame, ↓State.raiseEv_frame, ↓State.clearFault_frame, Nat.reduceAnd]
    | split | dsimp only)
@[simp ↓] theorem State.fanDemand_frame (s) (a1) {H : Nat} (h : H &&& 18939914 = 18939914) :
    (State.fanDemand s a1).1.without H = s.without H := by
  refine lift h ?_
  unfold State.fanDemand
  repeat' (first
    | with_reducible rfl | with_reducible (refine without_ite ?_ ?_) | with_reducible (refine without_ite_fst ?_ ?_)
    | simp only [↓State.fanSensor_frame, ↓State.modFan_frame, Nat.reduceAnd]
    | split | dsimp only)
@[simp ↓] theorem State.fanDrive_frame (s) (a1) (a2) {H : Nat} (h : H &&& 73728 = 73728) :
    (State.fanDrive s a1 a2).without H = s.without H := by
  refine lift h ?_
  unfold State.fanDrive
  repeat' (first
    | with_reducible rfl | with_reducible (refine without_ite ?_ ?_)
    | simp only [↓State.modFan_frame, ↓State.outEval_frame, ↓State.modOut_frame, Nat.reduceAnd]
    | split | dsimp only)
@[simp ↓] theorem State.fanSignal_frame (s) (a1) {H : Nat} (h : H &&& 4112 = 4112) :
    (State.fanSignal s a1).without H = s.without H := by
  refine lift h ?_
  unfold State.fanSignal
  repeat' (first
    | with_reducible rfl | with_reducible (refine without_ite ?_ ?_)
    | simp only [↓State.setSig_frame, Nat.reduceAnd]
    | split | dsimp only)
@[simp ↓] theorem State.fanKick_frame (s) (a1) {H : Nat} (h : H &&& 73728 = 73728) :
    (State.fanKick s a1).without H = s.without H := by
  refine lift h ?_
  unfold State.fanKick
  repeat' (first
    | with_reducible rfl | with_reducible (refine without_ite ?_ ?_)
    | simp only [↓State.fanDrive_frame, ↓State.modFan_frame, Nat.reduceAnd]
    | split | dsimp only)
@[simp ↓] theorem State.fanDecide_frame (s) (a1) {H : Nat} (h : H &&& 18948106 = 18948106) :
    (State.fanDecide s a1).without H = s.without H := by
  refine lift h ?_
  unfold State.fanDecide
  repeat' (first
    | with_reducible rfl | with_reducible (refine without_ite ?_ ?_)
    | simp only [↓State.fanDemand_frame, ↓State.fanDrive_frame, ↓State.modFan_frame, ↓State.fanKick_frame, Nat.reduceAnd]
    | split | dsimp only)
@[simp ↓] theorem State.fanCause_frame (s) (a1) (a2) {H : Nat} (h : H &&& 18948106 = 18948106) :
    (State.fanCause s a1 a2).without H = s.without H := by
  refine lift h ?_
  unfold State.fanCause
  repeat' (first
    | with_reducible rfl | with_reducible (refine without_ite ?_ ?_)
    | simp only [↓State.modFan_frame, ↓State.fanDecide_frame, ↓State.post_frame, Nat.reduceAnd]
    | split | dsimp only)
@[simp ↓] theorem State.fanUnwatch_frame (s) (a1) {H : Nat} (h : H &&& 18948106 = 18948106) :
    (State.fanUnwatch s a1).without H = s.without H := by
  refine lift h ?_
  unfold State.fanUnwatch
  repeat' (first
    | with_reducible rfl | with_reducible (refine without_ite ?_ ?_)
    | simp only [↓State.fanCause_frame, Nat.reduceAnd]
    | split | dsimp only)
@[simp ↓] theorem State.fanStretchEnd_frame (s) (a1) {H : Nat} (h : H &&& 65536 = 65536) :
    (State.fanStretchEnd s a1).without H = s.without H := by
  refine lift h ?_
  unfold State.fanStretchEnd
  repeat' (first
    | with_reducible rfl | with_reducible (refine without_ite ?_ ?_)
    | simp only [↓State.modFan_frame, Nat.reduceAnd]
    | split | dsimp only)
@[simp ↓] theorem State.fanMeasured_frame (s) (a1) (a2) {H : Nat} (h : H &&& 18952218 = 18952218) :
    (State.fanMeasured s a1 a2).without H = s.without H := by
  refine lift h ?_
  unfold State.fanMeasured
  repeat' (first
    | with_reducible rfl | with_reducible (refine without_ite ?_ ?_)
    | simp only [↓State.modFan_frame, ↓State.fanStretchEnd_frame, ↓State.fanCause_frame, ↓State.clearFault_frame,
      ↓State.fanDecide_frame, ↓State.fanSignal_frame, Nat.reduceAnd]
    | split | dsimp only)
@[simp ↓] theorem State.fanBlocked_frame (s) (a1) (a2) (a3) {H : Nat} (h : H &&& 18952218 = 18952218) :
    (State.fanBlocked s a1 a2 a3).without H = s.without H := by
  refine lift h ?_
  unfold State.fanBlocked
  repeat' (first
    | with_reducible rfl | with_reducible (refine without_ite ?_ ?_)
    | simp only [↓State.modFan_frame, ↓State.raiseEv_frame, ↓State.fanSignal_frame, ↓State.fanDrive_frame, Nat.reduceAnd]
    | split | dsimp only)
@[simp ↓] theorem State.fanHeartbeat_frame (s) (a1) {H : Nat} (h : H &&& 18948106 = 18948106) :
    (State.fanHeartbeat s a1).without H = s.without H := by
  refine lift h ?_
  unfold State.fanHeartbeat
  repeat' (first
    | with_reducible rfl | with_reducible (refine without_ite ?_ ?_) | with_reducible (refine (foldl_frame _ (fun a x => ?_) _ _).trans ?_) | with_reducible (refine (foldl_fst_frame _ (fun a x => ?_) _ _).trans ?_)
    | simp only [↓State.fanCause_frame, Nat.reduceAnd]
    | split | dsimp only)
@[simp ↓] theorem State.fanMiss_frame (s) (a1) {H : Nat} (h : H &&& 18948106 = 18948106) :
    (State.fanMiss s a1).without H = s.without H := by
  refine lift h ?_
  unfold State.fanMiss
  repeat' (first
    | with_reducible rfl | with_reducible (refine without_ite ?_ ?_)
    | simp only [↓State.fanCause_frame, Nat.reduceAnd]
    | split | dsimp only)
@[simp ↓] theorem State.fanPeriod_frame (s) (a1) {H : Nat} (h : H &&& 2 = 2) :
    (State.fanPeriod s a1).without H = s.without H := by
  refine lift h ?_
  unfold State.fanPeriod
  repeat' (first
    | with_reducible rfl | with_reducible (refine without_ite ?_ ?_)
    | simp only [↓State.modHost_frame, Nat.reduceAnd]
    | split | dsimp only)
@[simp ↓] theorem State.fanSync_frame (s) (a1) {H : Nat} (h : H &&& 18948106 = 18948106) :
    (State.fanSync s a1).without H = s.without H := by
  refine lift h ?_
  unfold State.fanSync
  repeat' (first
    | with_reducible rfl | with_reducible (refine without_ite ?_ ?_) | with_reducible (refine (foldl_frame _ (fun a x => ?_) _ _).trans ?_) | with_reducible (refine (foldl_fst_frame _ (fun a x => ?_) _ _).trans ?_)
    | simp only [↓State.fanMiss_frame, ↓State.missPrev_frame, ↓State.hostTurn_frame, ↓State.hostMiss_frame,
      ↓State.modHost_frame, ↓State.fanPeriod_frame, implies_true, eq_self, Nat.reduceAnd]
    | split | dsimp only)
@[simp ↓] theorem State.fanUnbind_frame (s) (a1) {H : Nat} (h : H &&& 18952218 = 18952218) :
    (State.fanUnbind s a1).without H = s.without H := by
  refine lift h ?_
  unfold State.fanUnbind
  repeat' (first
    | with_reducible rfl | with_reducible (refine without_ite ?_ ?_) | with_reducible (refine (foldl_frame _ (fun a x => ?_) _ _).trans ?_) | with_reducible (refine (foldl_fst_frame _ (fun a x => ?_) _ _).trans ?_)
    | simp only [↓State.fanCause_frame, ↓State.outEval_frame, ↓State.modOut_frame, ↓State.clearFault_frame,
      ↓State.setSig_frame, ↓State.modFan_frame, Nat.reduceAnd]
    | split | dsimp only)
@[simp ↓] theorem State.fanReady_frame (s) (a1) {H : Nat} (h : H &&& 65536 = 65536) :
    (State.fanReady s a1).without H = s.without H := by
  refine lift h ?_
  unfold State.fanReady
  repeat' (first
    | with_reducible rfl | with_reducible (refine without_ite ?_ ?_)
    | simp only [↓without_fans, Nat.reduceAnd]
    | split | dsimp only)
@[simp ↓] theorem State.fansStart_frame (s) (a1) {H : Nat} (h : H &&& 73728 = 73728) :
    (State.fansStart s a1).without H = s.without H := by
  refine lift h ?_
  unfold State.fansStart
  repeat' (first
    | with_reducible rfl | with_reducible (refine without_ite ?_ ?_) | with_reducible (refine (foldl_frame _ (fun a x => ?_) _ _).trans ?_) | with_reducible (refine (foldl_fst_frame _ (fun a x => ?_) _ _).trans ?_)
    | simp only [↓State.fanKick_frame, ↓without_fans, Nat.reduceAnd]
    | split | dsimp only)
@[simp ↓] theorem State.fanTablePart_frame (s) (a1) {H : Nat} (h : H &&& 65536 = 65536) :
    (State.fanTablePart s a1).without H = s.without H := by
  refine lift h ?_
  unfold State.fanTablePart
  repeat' (first
    | with_reducible rfl | with_reducible (refine without_ite ?_ ?_) | with_reducible (refine (foldl_frame _ (fun a x => ?_) _ _).trans ?_) | with_reducible (refine (foldl_fst_frame _ (fun a x => ?_) _ _).trans ?_)
    | simp only [↓State.modFan_frame, Nat.reduceAnd]
    | split | dsimp only)
@[simp ↓] theorem State.modPlate_frame (s) (a1) {H : Nat} (h : H &&& 131072 = 131072) :
    (State.modPlate s a1).without H = s.without H := by
  refine lift h ?_
  unfold State.modPlate
  repeat' (first
    | with_reducible rfl | with_reducible (refine without_ite ?_ ?_)
    | simp only [↓without_plate, Nat.reduceAnd]
    | split | dsimp only)
@[simp ↓] theorem State.plateChecks_frame (s) (a1) {H : Nat} (h : H &&& 2166489098 = 2166489098) :
    (State.plateChecks s a1).1.without H = s.without H := by
  refine lift h ?_
  unfold State.plateChecks
  repeat' (first
    | with_reducible rfl | with_reducible (refine without_ite ?_ ?_) | with_reducible (refine without_ite_fst ?_ ?_)
    | simp only [↓State.drawNat_frame, ↓State.modPlate_frame, ↓State.raiseEv_frame, ↓State.clearFault_frame,
      Nat.reduceAnd]
    | split | dsimp only)
@[simp ↓] theorem State.plateStart_frame (s) (a1) (a2) (a3) {H : Nat} (h : H &&& 131072 = 131072) :
    (State.plateStart s a1 a2 a3).without H = s.without H := by
  refine lift h ?_
  unfold State.plateStart
  repeat' (first
    | with_reducible rfl | with_reducible (refine without_ite ?_ ?_)
    | simp only [↓State.modPlate_frame, Nat.reduceAnd]
    | split | dsimp only)
@[simp ↓] theorem State.plateDone_frame (s) (a1) (a2) {H : Nat} (h : H &&& 131074 = 131074) :
    (State.plateDone s a1 a2).without H = s.without H := by
  refine lift h ?_
  unfold State.plateDone
  repeat' (first
    | with_reducible rfl | with_reducible (refine without_ite ?_ ?_)
    | simp only [↓State.modPlate_frame, ↓State.complete_frame, ↓State.post_frame, Nat.reduceAnd]
    | split | dsimp only)
@[simp ↓] theorem State.plateAbort_frame (s) (a1) {H : Nat} (h : H &&& 131074 = 131074) :
    (State.plateAbort s a1).without H = s.without H := by
  refine lift h ?_
  unfold State.plateAbort
  repeat' (first
    | with_reducible rfl | with_reducible (refine without_ite ?_ ?_)
    | simp only [↓State.plateDone_frame, ↓State.modPlate_frame, Nat.reduceAnd]
    | split | dsimp only)
@[simp ↓] theorem State.parkSkip_frame (s) (a1) {H : Nat} (h : H &&& 131072 = 131072) :
    (State.parkSkip s a1).without H = s.without H := by
  refine lift h ?_
  unfold State.parkSkip
  repeat' (first
    | with_reducible rfl | with_reducible (refine without_ite ?_ ?_)
    | simp only [↓State.modPlate_frame, Nat.reduceAnd]
    | split | dsimp only)
@[simp ↓] theorem State.plateParkStart_frame (s) {H : Nat} (h : H &&& 2166489098 = 2166489098) :
    (State.plateParkStart s).without H = s.without H := by
  refine lift h ?_
  unfold State.plateParkStart
  repeat' (first
    | with_reducible rfl | with_reducible (refine without_ite ?_ ?_)
    | simp only [↓State.parkSkip_frame, ↓State.plateChecks_frame, ↓State.plateStart_frame, Nat.reduceAnd]
    | split | dsimp only)
@[simp ↓] theorem State.plateNext_frame (s) (a1) {H : Nat} (h : H &&& 2166489098 = 2166489098) :
    (State.plateNext s a1).without H = s.without H := by
  refine lift h ?_
  unfold State.plateNext
  repeat' (first
    | with_reducible rfl | with_reducible (refine without_ite ?_ ?_)
    | simp only [↓State.plateParkStart_frame, Nat.reduceAnd]
    | split | dsimp only)
@[simp ↓] theorem State.plateTrunkPost_frame (s) {H : Nat} (h : H &&& 131074 = 131074) :
    (State.plateTrunkPost s).without H = s.without H := by
  refine lift h ?_
  unfold State.plateTrunkPost
  repeat' (first
    | with_reducible rfl | with_reducible (refine without_ite ?_ ?_)
    | simp only [↓State.postAt_frame, ↓State.modPlate_frame, Nat.reduceAnd]
    | split | dsimp only)
@[simp ↓] theorem State.plateRestart_frame (s) {H : Nat} (h : H &&& 2166489098 = 2166489098) :
    (State.plateRestart s).without H = s.without H := by
  refine lift h ?_
  unfold State.plateRestart
  repeat' (first
    | with_reducible rfl | with_reducible (refine without_ite ?_ ?_)
    | simp only [↓State.plateNext_frame, ↓State.plateAbort_frame, Nat.reduceAnd]
    | split | dsimp only)
@[simp ↓] theorem State.modTx_frame (s) (a1) (a2) {H : Nat} (h : H &&& 262144 = 262144) :
    (State.modTx s a1 a2).without H = s.without H := by
  refine lift h ?_
  unfold State.modTx
  repeat' (first
    | with_reducible rfl | with_reducible (refine without_ite ?_ ?_)
    | simp only [↓without_can, Nat.reduceAnd]
    | split | dsimp only)
@[simp ↓] theorem State.txPacked_frame (s) (a1) {H : Nat} (h : H &&& 2147483648 = 2147483648) :
    (State.txPacked s a1).1.without H = s.without H := by
  refine lift h ?_
  unfold State.txPacked
  repeat' (first
    | with_reducible rfl | with_reducible (refine without_ite ?_ ?_) | with_reducible (refine without_ite_fst ?_ ?_) | with_reducible (refine (foldl_frame _ (fun a x => ?_) _ _).trans ?_) | with_reducible (refine (foldl_fst_frame _ (fun a x => ?_) _ _).trans ?_)
    | simp only [↓State.packRaw_frame, Nat.reduceAnd]
    | split | dsimp only)
@[simp ↓] theorem State.txFail_frame (s) (a1) (a2) {H : Nat} (h : H &&& 19136522 = 19136522) :
    (State.txFail s a1 a2).without H = s.without H := by
  refine lift h ?_
  unfold State.txFail
  repeat' (first
    | with_reducible rfl | with_reducible (refine without_ite ?_ ?_) | with_reducible (refine (foldl_frame _ (fun a x => ?_) _ _).trans ?_) | with_reducible (refine (foldl_fst_frame _ (fun a x => ?_) _ _).trans ?_)
    | simp only [↓State.modTx_frame, ↓State.complete_frame, ↓State.raiseEv_frame, Nat.reduceAnd]
    | split | dsimp only)
@[simp ↓] theorem State.txDrop_frame (s) (a1) {H : Nat} (h : H &&& 19136522 = 19136522) :
    (State.txDrop s a1).without H = s.without H := by
  refine lift h ?_
  unfold State.txDrop
  repeat' (first
    | with_reducible rfl | with_reducible (refine without_ite ?_ ?_) | with_reducible (refine (foldl_frame _ (fun a x => ?_) _ _).trans ?_) | with_reducible (refine (foldl_fst_frame _ (fun a x => ?_) _ _).trans ?_)
    | simp only [↓State.txFail_frame, ↓State.modTx_frame, ↓State.complete_frame, Nat.reduceAnd]
    | split | dsimp only)
@[simp ↓] theorem State.txRequest_frame (s) (a1) (a2) {H : Nat} (h : H &&& 2166620170 = 2166620170) :
    (State.txRequest s a1 a2).without H = s.without H := by
  refine lift h ?_
  unfold State.txRequest
  repeat' (first
    | with_reducible rfl | with_reducible (refine without_ite ?_ ?_)
    | simp only [↓State.modTx_frame, ↓State.txDrop_frame, ↓State.txPacked_frame, Nat.reduceAnd]
    | split | dsimp only)
@[simp ↓] theorem State.canErrors_frame (s) (a1) (a2) (a3) {H : Nat} (h : H &&& 262146 = 262146) :
    (State.canErrors s a1 a2 a3).without H = s.without H := by
  refine lift h ?_
  unfold State.canErrors
  repeat' (first
    | with_reducible rfl | with_reducible (refine without_ite ?_ ?_)
    | simp only [↓State.modCan_frame, ↓State.post_frame, Nat.reduceAnd]
    | split | dsimp only)
@[simp ↓] theorem State.routeDrop_frame (s) (a1) (a2) (a3) {H : Nat} (h : H &&& 19136522 = 19136522) :
    (State.routeDrop s a1 a2 a3).without H = s.without H := by
  refine lift h ?_
  unfold State.routeDrop
  repeat' (first
    | with_reducible rfl | with_reducible (refine without_ite ?_ ?_)
    | simp only [↓State.modCan_frame, ↓State.raiseEv_frame, Nat.reduceAnd]
    | split | dsimp only)
@[simp ↓] theorem State.busOff_frame (s) (a1) {H : Nat} (h : H &&& 19136522 = 19136522) :
    (State.busOff s a1).without H = s.without H := by
  refine lift h ?_
  unfold State.busOff
  repeat' (first
    | with_reducible rfl | with_reducible (refine without_ite ?_ ?_) | with_reducible (refine (foldl_frame _ (fun a x => ?_) _ _).trans ?_) | with_reducible (refine (foldl_fst_frame _ (fun a x => ?_) _ _).trans ?_)
    | simp only [↓State.modCan_frame, ↓State.raiseEv_frame, ↓State.routeDrop_frame, ↓State.txDrop_frame, Nat.reduceAnd]
    | split | dsimp only)
@[simp ↓] theorem State.txError_frame (s) (a1) (a2) {H : Nat} (h : H &&& 19136522 = 19136522) :
    (State.txError s a1 a2).without H = s.without H := by
  refine lift h ?_
  unfold State.txError
  repeat' (first
    | with_reducible rfl | with_reducible (refine without_ite ?_ ?_)
    | simp only [↓State.modCan_frame, ↓State.busOff_frame, ↓State.canErrors_frame, Nat.reduceAnd]
    | split | dsimp only)
@[simp ↓] theorem State.txDone_frame (s) (a1) (a2) (a3) {H : Nat} (h : H &&& 262154 = 262154) :
    (State.txDone s a1 a2 a3).without H = s.without H := by
  refine lift h ?_
  unfold State.txDone
  repeat' (first
    | with_reducible rfl | with_reducible (refine without_ite ?_ ?_) | with_reducible (refine (foldl_frame _ (fun a x => ?_) _ _).trans ?_) | with_reducible (refine (foldl_fst_frame _ (fun a x => ?_) _ _).trans ?_)
    | simp only [↓State.canErrors_frame, ↓State.modCan_frame, ↓State.clearFault_frame, ↓State.modTx_frame,
      ↓State.complete_frame, Nat.reduceAnd]
    | split | dsimp only)
@[simp ↓] theorem State.txBad_frame (s) (a1) (a2) (a3) {H : Nat} (h : H &&& 19136522 = 19136522) :
    (State.txBad s a1 a2 a3).without H = s.without H := by
  refine lift h ?_
  unfold State.txBad
  repeat' (first
    | with_reducible rfl | with_reducible (refine without_ite ?_ ?_)
    | simp only [↓State.txFail_frame, ↓State.txError_frame, Nat.reduceAnd]
    | split | dsimp only)
@[simp ↓] theorem State.modTp_frame (s) (a1) (a2) (a3) {H : Nat} (h : H &&& 262144 = 262144) :
    (State.modTp s a1 a2 a3).without H = s.without H := by
  refine lift h ?_
  unfold State.modTp
  repeat' (first
    | with_reducible rfl | with_reducible (refine without_ite ?_ ?_)
    | simp only [↓State.modCan_frame, Nat.reduceAnd]
    | split | dsimp only)
@[simp ↓] theorem State.tpCm_frame (s) (a1) (a2) (a3) (a4) (a5) (a6) {H : Nat} (h : H &&& 262144 = 262144) :
    (State.tpCm s a1 a2 a3 a4 a5 a6).without H = s.without H := by
  refine lift h ?_
  unfold State.tpCm
  repeat' (first
    | with_reducible rfl | with_reducible (refine without_ite ?_ ?_)
    | simp only [↓State.keeperSend_frame, Nat.reduceAnd]
    | split | dsimp only)
@[simp ↓] theorem State.tpSendAbort_frame (s) (a1) (a2) (a3) (a4) (a5) {H : Nat} (h : H &&& 262144 = 262144) :
    (State.tpSendAbort s a1 a2 a3 a4 a5).without H = s.without H := by
  refine lift h ?_
  unfold State.tpSendAbort
  repeat' (first
    | with_reducible rfl | with_reducible (refine without_ite ?_ ?_)
    | simp only [↓State.tpCm_frame, Nat.reduceAnd]
    | split | dsimp only)
@[simp ↓] theorem State.tpEnd_frame (s) (a1) (a2) (a3) (a4) {H : Nat} (h : H &&& 262146 = 262146) :
    (State.tpEnd s a1 a2 a3 a4).without H = s.without H := by
  refine lift h ?_
  unfold State.tpEnd
  repeat' (first
    | with_reducible rfl | with_reducible (refine without_ite ?_ ?_)
    | simp only [↓State.modCan_frame, ↓State.complete_frame, ↓State.regionStop_frame, ↓State.regionEnd_frame,
      Nat.reduceAnd]
    | split | dsimp only)
@[simp ↓] theorem State.tpAbort_frame (s) (a1) (a2) (a3) {H : Nat} (h : H &&& 19136522 = 19136522) :
    (State.tpAbort s a1 a2 a3).without H = s.without H := by
  refine lift h ?_
  unfold State.tpAbort
  repeat' (first
    | with_reducible rfl | with_reducible (refine without_ite ?_ ?_)
    | simp only [↓State.raiseEv_frame, ↓State.tpEnd_frame, Nat.reduceAnd]
    | split | dsimp only)
@[simp ↓] theorem State.tpAbortAll_frame (s) (a1) (a2) {H : Nat} (h : H &&& 19136522 = 19136522) :
    (State.tpAbortAll s a1 a2).without H = s.without H := by
  refine lift h ?_
  unfold State.tpAbortAll
  repeat' (first
    | with_reducible rfl | with_reducible (refine without_ite ?_ ?_) | with_reducible (refine (foldl_frame _ (fun a x => ?_) _ _).trans ?_) | with_reducible (refine (foldl_fst_frame _ (fun a x => ?_) _ _).trans ?_)
    | simp only [↓State.tpSendAbort_frame, ↓State.tpAbort_frame, Nat.reduceAnd]
    | split | dsimp only)
@[simp ↓] theorem State.tpDone_frame (s) (a1) (a2) {H : Nat} (h : H &&& 262154 = 262154) :
    (State.tpDone s a1 a2).without H = s.without H := by
  refine lift h ?_
  unfold State.tpDone
  repeat' (first
    | with_reducible rfl | with_reducible (refine without_ite ?_ ?_)
    | simp only [↓State.clearFault_frame, ↓State.tpEnd_frame, Nat.reduceAnd]
    | split | dsimp only)
@[simp ↓] theorem State.tpReadCons_frame (s) (a1) {H : Nat} (h : H &&& 262144 = 262144) :
    (State.tpReadCons s a1).without H = s.without H := by
  refine lift h ?_
  unfold State.tpReadCons
  repeat' (first
    | with_reducible rfl | with_reducible (refine without_ite ?_ ?_)
    | simp only [↓State.modCan_frame, Nat.reduceAnd]
    | split | dsimp only)
@[simp ↓] theorem State.tpRefuse_frame (s) (a1) {H : Nat} (h : H &&& 262146 = 262146) :
    (State.tpRefuse s a1).without H = s.without H := by
  refine lift h ?_
  unfold State.tpRefuse
  repeat' (first
    | with_reducible rfl | with_reducible (refine without_ite ?_ ?_)
    | simp only [↓State.modCan_frame, ↓State.regionWrite_frame, Nat.reduceAnd]
    | split | dsimp only)
@[simp ↓] theorem State.tpRecord_frame (s) (a1) (a2) {H : Nat} (h : H &&& 262146 = 262146) :
    (State.tpRecord s a1 a2).without H = s.without H := by
  refine lift h ?_
  unfold State.tpRecord
  repeat' (first
    | with_reducible rfl | with_reducible (refine without_ite ?_ ?_)
    | simp only [↓State.regionWrite_frame, ↓State.modCan_frame, ↓State.post_frame, Nat.reduceAnd]
    | split | dsimp only)
@[simp ↓] theorem State.tpCts_frame (s) (a1) (a2) {H : Nat} (h : H &&& 262144 = 262144) :
    (State.tpCts s a1 a2).without H = s.without H := by
  refine lift h ?_
  unfold State.tpCts
  repeat' (first
    | with_reducible rfl | with_reducible (refine without_ite ?_ ?_)
    | simp only [↓State.modTp_frame, ↓State.tpCm_frame, Nat.reduceAnd]
    | split | dsimp only)
@[simp ↓] theorem State.tpOpen_frame (s) (a1) (a2) {H : Nat} (h : H &&& 262144 = 262144) :
    (State.tpOpen s a1 a2).without H = s.without H := by
  refine lift h ?_
  unfold State.tpOpen
  repeat' (first
    | with_reducible rfl | with_reducible (refine without_ite ?_ ?_)
    | simp only [↓State.modCan_frame, Nat.reduceAnd]
    | split | dsimp only)
@[simp ↓] theorem State.tpRts_frame (s) (a1) (a2) (a3) (a4) (a5) (a6) {H : Nat} (h : H &&& 262146 = 262146) :
    (State.tpRts s a1 a2 a3 a4 a5 a6).without H = s.without H := by
  refine lift h ?_
  unfold State.tpRts
  repeat' (first
    | with_reducible rfl | with_reducible (refine without_ite ?_ ?_)
    | simp only [↓State.tpReadCons_frame, ↓State.modCan_frame, ↓State.tpSendAbort_frame, ↓State.tpRefuse_frame,
      ↓State.tpOpen_frame, ↓State.tpCts_frame, Nat.reduceAnd]
    | split | dsimp only)
@[simp ↓] theorem State.tpBam_frame (s) (a1) (a2) (a3) (a4) {H : Nat} (h : H &&& 262144 = 262144) :
    (State.tpBam s a1 a2 a3 a4).without H = s.without H := by
  refine lift h ?_
  unfold State.tpBam
  repeat' (first
    | with_reducible rfl | with_reducible (refine without_ite ?_ ?_)
    | simp only [↓State.modCan_frame, ↓State.tpOpen_frame, Nat.reduceAnd]
    | split | dsimp only)
@[simp ↓] theorem State.tpReceived_frame (s) (a1) (a2) {H : Nat} (h : H &&& 19136522 = 19136522) :
    (State.tpReceived s a1 a2).without H = s.without H := by
  refine lift h ?_
  unfold State.tpReceived
  repeat' (first
    | with_reducible rfl | with_reducible (refine without_ite ?_ ?_)
    | simp only [↓State.tpReadCons_frame, ↓State.tpRefuse_frame, ↓State.modCan_frame, ↓State.tpAbort_frame,
      ↓State.tpSendAbort_frame, ↓State.tpRecord_frame, ↓State.tpCm_frame, ↓State.tpDone_frame, Nat.reduceAnd]
    | split | dsimp only)
@[simp ↓] theorem State.tpData_frame (s) (a1) (a2) (a3) (a4) {H : Nat} (h : H &&& 19136522 = 19136522) :
    (State.tpData s a1 a2 a3 a4).without H = s.without H := by
  refine lift h ?_
  unfold State.tpData
  repeat' (first
    | with_reducible rfl | with_reducible (refine without_ite ?_ ?_)
    | simp only [↓State.tpAbort_frame, ↓State.tpSendAbort_frame, ↓State.modTp_frame, ↓State.tpReceived_frame,
      ↓State.tpCts_frame, Nat.reduceAnd]
    | split | dsimp only)
@[simp ↓] theorem State.tpSendWindow_frame (s) (a1) (a2) (a3) (a4) {H : Nat} (h : H &&& 262144 = 262144) :
    (State.tpSendWindow s a1 a2 a3 a4).without H = s.without H := by
  refine lift h ?_
  unfold State.tpSendWindow
  repeat' (first
    | with_reducible rfl | with_reducible (refine without_ite ?_ ?_) | with_reducible (refine (foldl_frame _ (fun a x => ?_) _ _).trans ?_) | with_reducible (refine (foldl_fst_frame _ (fun a x => ?_) _ _).trans ?_)
    | simp only [↓State.tpCm_frame, ↓State.keeperSend_frame, ↓State.modTp_frame, Nat.reduceAnd]
    | split | dsimp only)
@[simp ↓] theorem State.tpClear_frame (s) (a1) (a2) (a3) (a4) {H : Nat} (h : H &&& 262144 = 262144) :
    (State.tpClear s a1 a2 a3 a4).without H = s.without H := by
  refine lift h ?_
  unfold State.tpClear
  repeat' (first
    | with_reducible rfl | with_reducible (refine without_ite ?_ ?_)
    | simp only [↓State.modTp_frame, ↓State.tpSendWindow_frame, Nat.reduceAnd]
    | split | dsimp only)
@[simp ↓] theorem State.canHostRefresh_frame (s) (a1) {H : Nat} (h : H &&& 2 = 2) :
    (State.canHostRefresh s a1).without H = s.without H := by
  refine lift h ?_
  unfold State.canHostRefresh
  repeat' (first
    | with_reducible rfl | with_reducible (refine without_ite ?_ ?_)
    | simp only [↓State.modHost_frame, Nat.reduceAnd]
    | split | dsimp only)
@[simp ↓] theorem State.canAwait_frame (s) (a1) (a2) (a3) {H : Nat} (h : H &&& 262146 = 262146) :
    (State.canAwait s a1 a2 a3).without H = s.without H := by
  refine lift h ?_
  unfold State.canAwait
  repeat' (first
    | with_reducible rfl | with_reducible (refine without_ite ?_ ?_)
    | simp only [↓State.canHostRefresh_frame, ↓State.modCan_frame, Nat.reduceAnd]
    | split | dsimp only)
@[simp ↓] theorem State.canStop_frame (s) (a1) (a2) (a3) {H : Nat} (h : H &&& 262146 = 262146) :
    (State.canStop s a1 a2 a3).without H = s.without H := by
  refine lift h ?_
  unfold State.canStop
  repeat' (first
    | with_reducible rfl | with_reducible (refine without_ite ?_ ?_)
    | simp only [↓State.canHostRefresh_frame, ↓State.modCan_frame, Nat.reduceAnd]
    | split | dsimp only)
@[simp ↓] theorem State.canMiss_frame (s) (a1) {H : Nat} (h : H &&& 2147745794 = 2147745794) :
    (State.canMiss s a1).without H = s.without H := by
  refine lift h ?_
  unfold State.canMiss
  repeat' (first
    | with_reducible rfl | with_reducible (refine without_ite ?_ ?_)
    | simp only [↓State.drawNat_frame, ↓State.tpSendAbort_frame, ↓State.canHostRefresh_frame, ↓State.modCan_frame,
      Nat.reduceAnd]
    | split | dsimp only)
@[simp ↓] theorem State.canHostFrame_frame (s) (a1) (a2) (a3) (a4) (a5) {H : Nat} (h : H &&& 262146 = 262146) :
    (State.canHostFrame s a1 a2 a3 a4 a5).without H = s.without H := by
  refine lift h ?_
  unfold State.canHostFrame
  repeat' (first
    | with_reducible rfl | with_reducible (refine without_ite ?_ ?_)
    | simp only [↓State.canAwait_frame, ↓State.modCan_frame, Nat.reduceAnd]
    | split | dsimp only)
@[simp ↓] theorem State.canHostSent_frame (s) (a1) (a2) (a3) {H : Nat} (h : H &&& 262146 = 262146) :
    (State.canHostSent s a1 a2 a3).without H = s.without H := by
  refine lift h ?_
  unfold State.canHostSent
  repeat' (first
    | with_reducible rfl | with_reducible (refine without_ite ?_ ?_)
    | simp only [↓State.modCan_frame, ↓State.hostResult_frame, ↓State.canHostRefresh_frame, Nat.reduceAnd]
    | split | dsimp only)
@[simp ↓] theorem State.tpFrame_frame (s) (a1) (a2) (a3) (a4) (a5) {H : Nat} (h : H &&& 19136522 = 19136522) :
    (State.tpFrame s a1 a2 a3 a4 a5).without H = s.without H := by
  refine lift h ?_
  unfold State.tpFrame
  repeat' (first
    | with_reducible rfl | with_reducible (refine without_ite ?_ ?_)
    | simp only [↓State.tpData_frame, ↓State.tpBam_frame, ↓State.tpAbort_frame, ↓State.tpRts_frame, ↓State.tpClear_frame,
      ↓State.tpDone_frame, ↓State.modTp_frame, Nat.reduceAnd]
    | split | dsimp only)
@[simp ↓] theorem State.tpTake_frame (s) (a1) (a2) (a3) {H : Nat} (h : H &&& 19136522 = 19136522) :
    (State.tpTake s a1 a2 a3).without H = s.without H := by
  refine lift h ?_
  unfold State.tpTake
  repeat' (first
    | with_reducible rfl | with_reducible (refine without_ite ?_ ?_)
    | simp only [↓State.canHostFrame_frame, ↓State.modCan_frame, ↓State.tpFrame_frame, Nat.reduceAnd]
    | split | dsimp only)
@[simp ↓] theorem State.tpResume_frame (s) {H : Nat} (h : H &&& 19136522 = 19136522) :
    (State.tpResume s).without H = s.without H := by
  refine lift h ?_
  unfold State.tpResume
  repeat' (first
    | with_reducible rfl | with_reducible (refine without_ite ?_ ?_) | with_reducible (refine (foldl_frame _ (fun a x => ?_) _ _).trans ?_) | with_reducible (refine (foldl_fst_frame _ (fun a x => ?_) _ _).trans ?_)
    | simp only [↓State.tpTake_frame, ↓State.modCan_frame, Nat.reduceAnd]
    | split | dsimp only)
@[simp ↓] theorem State.hpFrame_frame (s) (a1) (a2) (a3) {H : Nat} (h : H &&& 262146 = 262146) :
    (State.hpFrame s a1 a2 a3).without H = s.without H := by
  refine lift h ?_
  unfold State.hpFrame
  repeat' (first
    | with_reducible rfl | with_reducible (refine without_ite ?_ ?_)
    | simp only [↓State.modCan_frame, ↓State.post_frame, Nat.reduceAnd]
    | split | dsimp only)
@[simp ↓] theorem State.rxExtract_frame (s) (a1) (a2) (a3) (a4) {H : Nat} (h : H &&& 266256 = 266256) :
    (State.rxExtract s a1 a2 a3 a4).without H = s.without H := by
  refine lift h ?_
  unfold State.rxExtract
  repeat' (first
    | with_reducible rfl | with_reducible (refine without_ite ?_ ?_)
    | simp only [↓State.extract_frame, ↓without_can, Nat.reduceAnd]
    | split | dsimp only)
@[simp ↓] theorem State.modQ_frame (s) (a1) (a2) (a3) {H : Nat} (h : H &&& 262144 = 262144) :
    (State.modQ s a1 a2 a3).without H = s.without H := by
  refine lift h ?_
  unfold State.modQ
  repeat' (first
    | with_reducible rfl | with_reducible (refine without_ite ?_ ?_)
    | simp only [↓State.modCan_frame, Nat.reduceAnd]
    | split | dsimp only)
@[simp ↓] theorem State.queueRead_frame (s) (a1) (a2) {H : Nat} (h : H &&& 262144 = 262144) :
    (State.queueRead s a1 a2).without H = s.without H := by
  refine lift h ?_
  unfold State.queueRead
  repeat' (first
    | with_reducible rfl | with_reducible (refine without_ite ?_ ?_)
    | simp only [↓State.modQ_frame, Nat.reduceAnd]
    | split | dsimp only)
@[simp ↓] theorem State.queueNotify_frame (s) (a1) (a2) {H : Nat} (h : H &&& 262146 = 262146) :
    (State.queueNotify s a1 a2).without H = s.without H := by
  refine lift h ?_
  unfold State.queueNotify
  repeat' (first
    | with_reducible rfl | with_reducible (refine without_ite ?_ ?_)
    | simp only [↓State.post_frame, ↓State.modQ_frame, Nat.reduceAnd]
    | split | dsimp only)
@[simp ↓] theorem State.queueDrop_frame (s) (a1) (a2) {H : Nat} (h : H &&& 19136522 = 19136522) :
    (State.queueDrop s a1 a2).without H = s.without H := by
  refine lift h ?_
  unfold State.queueDrop
  repeat' (first
    | with_reducible rfl | with_reducible (refine without_ite ?_ ?_)
    | simp only [↓State.modQ_frame, ↓State.raiseEv_frame, Nat.reduceAnd]
    | split | dsimp only)
@[simp ↓] theorem State.queueOk_frame (s) (a1) (a2) {H : Nat} (h : H &&& 262154 = 262154) :
    (State.queueOk s a1 a2).without H = s.without H := by
  refine lift h ?_
  unfold State.queueOk
  repeat' (first
    | with_reducible rfl | with_reducible (refine without_ite ?_ ?_)
    | simp only [↓State.modQ_frame, ↓State.clearFault_frame, Nat.reduceAnd]
    | split | dsimp only)
@[simp ↓] theorem State.queuePost_frame (s) (a1) (a2) (a3) (a4) {H : Nat} (h : H &&& 19136778 = 19136778) :
    (State.queuePost s a1 a2 a3 a4).without H = s.without H := by
  refine lift h ?_
  unfold State.queuePost
  repeat' (first
    | with_reducible rfl | with_reducible (refine without_ite ?_ ?_)
    | simp only [↓State.queueRead_frame, ↓State.queueDrop_frame, ↓State.regionWrite_frame, ↓State.modQ_frame,
      ↓State.queueOk_frame, ↓State.queueNotify_frame, ↓State.rtcmFeed_frame, Nat.reduceAnd]
    | split | dsimp only)
@[simp ↓] theorem State.rxQueues_frame (s) (a1) (a2) {H : Nat} (h : H &&& 19136778 = 19136778) :
    (State.rxQueues s a1 a2).without H = s.without H := by
  refine lift h ?_
  unfold State.rxQueues
  repeat' (first
    | with_reducible rfl | with_reducible (refine without_ite ?_ ?_) | with_reducible (refine (foldl_frame _ (fun a x => ?_) _ _).trans ?_) | with_reducible (refine (foldl_fst_frame _ (fun a x => ?_) _ _).trans ?_)
    | simp only [↓State.queuePost_frame, Nat.reduceAnd]
    | split | dsimp only)
@[simp ↓] theorem State.routePut_frame (s) (a1) (a2) {H : Nat} (h : H &&& 262154 = 262154) :
    (State.routePut s a1 a2).without H = s.without H := by
  refine lift h ?_
  unfold State.routePut
  repeat' (first
    | with_reducible rfl | with_reducible (refine without_ite ?_ ?_)
    | simp only [↓State.modCan_frame, ↓State.clearFault_frame, Nat.reduceAnd]
    | split | dsimp only)
@[simp ↓] theorem State.routeTo_frame (s) (a1) (a2) (a3) {H : Nat} (h : H &&& 20709386 = 20709386) :
    (State.routeTo s a1 a2 a3).without H = s.without H := by
  refine lift h ?_
  unfold State.routeTo
  repeat' (first
    | with_reducible rfl | with_reducible (refine without_ite ?_ ?_)
    | simp only [↓State.routeDrop_frame, ↓State.modCan_frame, ↓State.routePut_frame, ↓State.nmEvalAll_frame,
      ↓State.canWake_frame, Nat.reduceAnd]
    | split | dsimp only)
@[simp ↓] theorem State.rxRoutes_frame (s) (a1) {H : Nat} (h : H &&& 20709386 = 20709386) :
    (State.rxRoutes s a1).without H = s.without H := by
  refine lift h ?_
  unfold State.rxRoutes
  repeat' (first
    | with_reducible rfl | with_reducible (refine without_ite ?_ ?_) | with_reducible (refine (foldl_frame _ (fun a x => ?_) _ _).trans ?_) | with_reducible (refine (foldl_fst_frame _ (fun a x => ?_) _ _).trans ?_)
    | simp only [↓State.routeTo_frame, Nat.reduceAnd]
    | split | dsimp only)
@[simp ↓] theorem State.schedApply_frame (s) (a1) {H : Nat} (h : H &&& 262154 = 262154) :
    (State.schedApply s a1).without H = s.without H := by
  refine lift h ?_
  unfold State.schedApply
  repeat' (first
    | with_reducible rfl | with_reducible (refine without_ite ?_ ?_)
    | simp only [↓State.clearFault_frame, ↓State.modCan_frame, Nat.reduceAnd]
    | split | dsimp only)
@[simp ↓] theorem State.rxReference_frame (s) (a1) (a2) {H : Nat} (h : H &&& 262154 = 262154) :
    (State.rxReference s a1 a2).without H = s.without H := by
  refine lift h ?_
  unfold State.rxReference
  repeat' (first
    | with_reducible rfl | with_reducible (refine without_ite ?_ ?_)
    | simp only [↓State.modCan_frame, ↓State.schedApply_frame, ↓State.clearFault_frame, Nat.reduceAnd]
    | split | dsimp only)
@[simp ↓] theorem State.sendReference_frame (s) (a1) (a2) {H : Nat} (h : H &&& 262144 = 262144) :
    (State.sendReference s a1 a2).without H = s.without H := by
  refine lift h ?_
  unfold State.sendReference
  repeat' (first
    | with_reducible rfl | with_reducible (refine without_ite ?_ ?_)
    | simp only [↓State.modCan_frame, Nat.reduceAnd]
    | split | dsimp only)
@[simp ↓] theorem State.txAbort_frame (s) (a1) {H : Nat} (h : H &&& 19136522 = 19136522) :
    (State.txAbort s a1).without H = s.without H := by
  refine lift h ?_
  unfold State.txAbort
  repeat' (first
    | with_reducible rfl | with_reducible (refine without_ite ?_ ?_)
    | simp only [↓State.txFail_frame, Nat.reduceAnd]
    | split | dsimp only)
@[simp ↓] theorem State.canZero_frame (s) {H : Nat} (h : H &&& 16 = 16) :
    (State.canZero s).without H = s.without H := by
  refine lift h ?_
  unfold State.canZero
  repeat' (first
    | with_reducible rfl | with_reducible (refine without_ite ?_ ?_)
    | simp only [↓State.zeroSigs_frame, Nat.reduceAnd]
    | split | dsimp only)
@[simp ↓] theorem State.canRestart_frame (s) {H : Nat} (h : H &&& 19136538 = 19136538) :
    (State.canRestart s).without H = s.without H := by
  refine lift h ?_
  unfold State.canRestart
  repeat' (first
    | with_reducible rfl | with_reducible (refine without_ite ?_ ?_) | with_reducible (refine (foldl_frame _ (fun a x => ?_) _ _).trans ?_) | with_reducible (refine (foldl_fst_frame _ (fun a x => ?_) _ _).trans ?_)
    | simp only [↓State.txAbort_frame, ↓State.complete_frame, ↓State.modTx_frame, ↓State.tpSendAbort_frame,
      ↓State.raiseEv_frame, ↓State.tpEnd_frame, ↓State.modCan_frame, ↓State.canZero_frame, Nat.reduceAnd]
    | split | dsimp only)
@[simp ↓] theorem State.canTrunkPost_frame (s) {H : Nat} (h : H &&& 262144 = 262144) :
    (State.canTrunkPost s).without H = s.without H := by
  refine lift h ?_
  unfold State.canTrunkPost
  repeat' (first
    | with_reducible rfl | with_reducible (refine without_ite ?_ ?_) | with_reducible (refine (foldl_frame _ (fun a x => ?_) _ _).trans ?_) | with_reducible (refine (foldl_fst_frame _ (fun a x => ?_) _ _).trans ?_)
    | simp only [↓State.panStart_frame, Nat.reduceAnd]
    | split | dsimp only)
@[simp ↓] theorem State.canWindow_frame (s) (a1) {H : Nat} (h : H &&& 2 = 2) :
    (State.canWindow s a1).without H = s.without H := by
  refine lift h ?_
  unfold State.canWindow
  repeat' (first
    | with_reducible rfl | with_reducible (refine without_ite ?_ ?_) | with_reducible (refine (foldl_frame _ (fun a x => ?_) _ _).trans ?_) | with_reducible (refine (foldl_fst_frame _ (fun a x => ?_) _ _).trans ?_)
    | simp only [↓State.regionWrite_frame, Nat.reduceAnd]
    | split | dsimp only)
@[simp ↓] theorem State.modLidar_frame (s) (a1) (a2) {H : Nat} (h : H &&& 524288 = 524288) :
    (State.modLidar s a1 a2).without H = s.without H := by
  refine lift h ?_
  unfold State.modLidar
  repeat' (first
    | with_reducible rfl | with_reducible (refine without_ite ?_ ?_)
    | simp only [↓without_eth, Nat.reduceAnd]
    | split | dsimp only)
@[simp ↓] theorem State.modRing_frame (s) (a1) (a2) {H : Nat} (h : H &&& 524288 = 524288) :
    (State.modRing s a1 a2).without H = s.without H := by
  refine lift h ?_
  unfold State.modRing
  repeat' (first
    | with_reducible rfl | with_reducible (refine without_ite ?_ ?_)
    | simp only [↓without_eth, Nat.reduceAnd]
    | split | dsimp only)
@[simp ↓] theorem State.ringRx_frame (s) (a1) (a2) (a3) (a4) (a5) {H : Nat} (h : H &&& 19398666 = 19398666) :
    (State.ringRx s a1 a2 a3 a4 a5).without H = s.without H := by
  refine lift h ?_
  unfold State.ringRx
  repeat' (first
    | with_reducible rfl | with_reducible (refine without_ite ?_ ?_)
    | simp only [↓State.modRing_frame, ↓State.regionWrite_frame, ↓State.raiseEv_frame, ↓State.clearFault_frame,
      Nat.reduceAnd]
    | split | dsimp only)
@[simp ↓] theorem State.toHosts_frame (s) (a1) (a2) {H : Nat} (h : H &&& 19398666 = 19398666) :
    (State.toHosts s a1 a2).without H = s.without H := by
  refine lift h ?_
  unfold State.toHosts
  repeat' (first
    | with_reducible rfl | with_reducible (refine without_ite ?_ ?_) | with_reducible (refine (foldl_frame _ (fun a x => ?_) _ _).trans ?_) | with_reducible (refine (foldl_fst_frame _ (fun a x => ?_) _ _).trans ?_)
    | simp only [↓State.ringRx_frame, Nat.reduceAnd]
    | split | dsimp only)
@[simp ↓] theorem State.gptpState_frame (s) (a1) (a2) (a3) {H : Nat} (h : H &&& 524290 = 524290) :
    (State.gptpState s a1 a2 a3).without H = s.without H := by
  refine lift h ?_
  unfold State.gptpState
  repeat' (first
    | with_reducible rfl | with_reducible (refine without_ite ?_ ?_)
    | simp only [↓State.modEth_frame, ↓State.post_frame, Nat.reduceAnd]
    | split | dsimp only)
@[simp ↓] theorem State.gptpTake_frame (s) (a1) (a2) (a3) (a4) (a5) {H : Nat} (h : H &&& 2148007950 = 2148007950) :
    (State.gptpTake s a1 a2 a3 a4 a5).without H = s.without H := by
  refine lift h ?_
  unfold State.gptpTake
  repeat' (first
    | with_reducible rfl | with_reducible (refine without_ite ?_ ?_) | with_reducible (refine (foldl_frame _ (fun a x => ?_) _ _).trans ?_) | with_reducible (refine (foldl_fst_frame _ (fun a x => ?_) _ _).trans ?_)
    | simp only [↓State.gptpState_frame, ↓State.timeSync_frame, ↓State.timeGmEnd_frame, Nat.reduceAnd]
    | split | dsimp only)
@[simp ↓] theorem State.ethInternal_frame (s) (a1) (a2) {H : Nat} (h : H &&& 2166882574 = 2166882574) :
    (State.ethInternal s a1 a2).without H = s.without H := by
  refine lift h ?_
  unfold State.ethInternal
  repeat' (first
    | with_reducible rfl | with_reducible (refine without_ite ?_ ?_)
    | simp only [↓State.modEth_frame, ↓State.rtcmFeed_frame, ↓State.toHosts_frame, ↓State.gptpTake_frame, Nat.reduceAnd]
    | split | dsimp only)
@[simp ↓] theorem State.lidarDrop_frame (s) (a1) {H : Nat} (h : H &&& 19398666 = 19398666) :
    (State.lidarDrop s a1).without H = s.without H := by
  refine lift h ?_
  unfold State.lidarDrop
  repeat' (first
    | with_reducible rfl | with_reducible (refine without_ite ?_ ?_)
    | simp only [↓State.modLidar_frame, ↓State.raiseEv_frame, Nat.reduceAnd]
    | split | dsimp only)
@[simp ↓] theorem State.lidarReady_frame (s) (a1) (a2) {H : Nat} (h : H &&& 526346 = 526346) :
    (State.lidarReady s a1 a2).without H = s.without H := by
  refine lift h ?_
  unfold State.lidarReady
  repeat' (first
    | with_reducible rfl | with_reducible (refine without_ite ?_ ?_)
    | simp only [↓State.modLidar_frame, ↓State.clearFault_frame, ↓State.crownSample_frame, Nat.reduceAnd]
    | split | dsimp only)
@[simp ↓] theorem State.modSigPort_frame (s) (a1) {H : Nat} (h : H &&& 524288 = 524288) :
    (State.modSigPort s a1).without H = s.without H := by
  refine lift h ?_
  unfold State.modSigPort
  repeat' (first
    | with_reducible rfl | with_reducible (refine without_ite ?_ ?_)
    | simp only [↓without_eth, Nat.reduceAnd]
    | split | dsimp only)
@[simp ↓] theorem State.ringHeaders_frame (s) (a1) {H : Nat} (h : H &&& 2 = 2) :
    (State.ringHeaders s a1).without H = s.without H := by
  refine lift h ?_
  unfold State.ringHeaders
  repeat' (first
    | with_reducible rfl | with_reducible (refine without_ite ?_ ?_)
    | simp only [↓State.regionWrite_frame, Nat.reduceAnd]
    | split | dsimp only)
@[simp ↓] theorem State.ethRestart_frame (s) {H : Nat} (h : H &&& 524304 = 524304) :
    (State.ethRestart s).without H = s.without H := by
  refine lift h ?_
  unfold State.ethRestart
  repeat' (first
    | with_reducible rfl | with_reducible (refine without_ite ?_ ?_)
    | simp only [↓State.zeroSigs_frame, ↓without_eth, Nat.reduceAnd]
    | split | dsimp only)
@[simp ↓] theorem State.ethTrunkPost_frame (s) {H : Nat} (h : H &&& 524288 = 524288) :
    (State.ethTrunkPost s).without H = s.without H := by
  refine lift h ?_
  unfold State.ethTrunkPost
  repeat' (first
    | with_reducible rfl | with_reducible (refine without_ite ?_ ?_)
    | simp only [↓State.modSigPort_frame, Nat.reduceAnd]
    | split | dsimp only)
@[simp ↓] theorem State.ethWindow_frame (s) (a1) {H : Nat} (h : H &&& 2 = 2) :
    (State.ethWindow s a1).without H = s.without H := by
  refine lift h ?_
  unfold State.ethWindow
  repeat' (first
    | with_reducible rfl | with_reducible (refine without_ite ?_ ?_)
    | simp only [↓State.ringHeaders_frame, Nat.reduceAnd]
    | split | dsimp only)
@[simp ↓] theorem State.modRoot_frame (s) (a1) {H : Nat} (h : H &&& 2097152 = 2097152) :
    (State.modRoot s a1).without H = s.without H := by
  refine lift h ?_
  unfold State.modRoot
  repeat' (first
    | with_reducible rfl | with_reducible (refine without_ite ?_ ?_)
    | simp only [↓without_root, Nat.reduceAnd]
    | split | dsimp only)
@[simp ↓] theorem State.ruleAct_frame (s) (a1) (a2) (a3) {H : Nat} (h : H &&& 8320 = 8320) :
    (State.ruleAct s a1 a2 a3).without H = s.without H := by
  refine lift h ?_
  unfold State.ruleAct
  repeat' (first
    | with_reducible rfl | with_reducible (refine without_ite ?_ ?_) | with_reducible (refine (foldl_frame _ (fun a x => ?_) _ _).trans ?_) | with_reducible (refine (foldl_fst_frame _ (fun a x => ?_) _ _).trans ?_)
    | simp only [↓without_valve, ↓without_outs, Nat.reduceAnd]
    | split | dsimp only)
@[simp ↓] theorem State.ruleEvent_frame (s) (a1) (a2) {H : Nat} (h : H &&& 2097154 = 2097154) :
    (State.ruleEvent s a1 a2).without H = s.without H := by
  refine lift h ?_
  unfold State.ruleEvent
  repeat' (first
    | with_reducible rfl | with_reducible (refine without_ite ?_ ?_)
    | simp only [↓State.post_frame, ↓State.modRoot_frame, Nat.reduceAnd]
    | split | dsimp only)
@[simp ↓] theorem State.ruleCycle_frame (a0) (s) (a2) {H : Nat} (h : H &&& 2105474 = 2105474) :
    (State.ruleCycle a0 s a2).without H = s.without H := by
  refine lift h ?_
  unfold State.ruleCycle
  repeat' (first
    | with_reducible rfl | with_reducible (refine without_ite ?_ ?_)
    | simp only [↓State.modRoot_frame, ↓State.ruleAct_frame, ↓State.ruleEvent_frame, Nat.reduceAnd]
    | split | dsimp only)
@[simp ↓] theorem State.reflexCycle_frame (s) {H : Nat} (h : H &&& 2138250 = 2138250) :
    (State.reflexCycle s).without H = s.without H := by
  refine lift h ?_
  unfold State.reflexCycle
  repeat' (first
    | with_reducible rfl | with_reducible (refine without_ite ?_ ?_) | with_reducible (refine (foldl_frame _ (fun a x => ?_) _ _).trans ?_) | with_reducible (refine (foldl_fst_frame _ (fun a x => ?_) _ _).trans ?_)
    | simp only [↓State.refreshGates_frame, ↓State.ruleCycle_frame, Nat.reduceAnd]
    | split | dsimp only)
@[simp ↓] theorem State.ruleEnable_frame (a0) (a1) (s) (a3) {H : Nat} (h : H &&& 2105474 = 2105474) :
    (State.ruleEnable a0 a1 s a3).without H = s.without H := by
  refine lift h ?_
  unfold State.ruleEnable
  repeat' (first
    | with_reducible rfl | with_reducible (refine without_ite ?_ ?_)
    | simp only [↓State.modRoot_frame, ↓State.post_frame, ↓State.ruleEvent_frame, ↓State.ruleAct_frame, Nat.reduceAnd]
    | split | dsimp only)
@[simp ↓] theorem State.faultcutWrite_frame (s) (a1) {H : Nat} (h : H &&& 2097152 = 2097152) :
    (State.faultcutWrite s a1).without H = s.without H := by
  refine lift h ?_
  unfold State.faultcutWrite
  repeat' (first
    | with_reducible rfl | with_reducible (refine without_ite ?_ ?_)
    | simp only [↓State.modRoot_frame, Nat.reduceAnd]
    | split | dsimp only)
@[simp ↓] theorem State.faultmapWrite_frame (s) (a1) (a2) {H : Nat} (h : H &&& 2097152 = 2097152) :
    (State.faultmapWrite s a1 a2).without H = s.without H := by
  refine lift h ?_
  unfold State.faultmapWrite
  repeat' (first
    | with_reducible rfl | with_reducible (refine without_ite ?_ ?_)
    | simp only [↓State.modRoot_frame, Nat.reduceAnd]
    | split | dsimp only)
@[simp ↓] theorem State.modLink_frame (s) (a1) (a2) {H : Nat} (h : H &&& 2097152 = 2097152) :
    (State.modLink s a1 a2).without H = s.without H := by
  refine lift h ?_
  unfold State.modLink
  repeat' (first
    | with_reducible rfl | with_reducible (refine without_ite ?_ ?_)
    | simp only [↓State.modRoot_frame, Nat.reduceAnd]
    | split | dsimp only)
@[simp ↓] theorem State.linkSafe_frame (s) (a1) (a2) {H : Nat} (h : H &&& 18874378 = 18874378) :
    (State.linkSafe s a1 a2).without H = s.without H := by
  refine lift h ?_
  unfold State.linkSafe
  repeat' (first
    | with_reducible rfl | with_reducible (refine without_ite ?_ ?_)
    | simp only [↓State.modLink_frame, ↓State.modRoot_frame, ↓State.raiseEv_frame, Nat.reduceAnd]
    | split | dsimp only)
@[simp ↓] theorem State.linkDiscard_frame (s) (a1) (a2) {H : Nat} (h : H &&& 18874378 = 18874378) :
    (State.linkDiscard s a1 a2).without H = s.without H := by
  refine lift h ?_
  unfold State.linkDiscard
  repeat' (first
    | with_reducible rfl | with_reducible (refine without_ite ?_ ?_)
    | simp only [↓State.modLink_frame, ↓State.linkSafe_frame, Nat.reduceAnd]
    | split | dsimp only)
@[simp ↓] theorem State.rootFault_frame (s) (a1) {H : Nat} (h : H &&& 18915482 = 18915482) :
    (State.rootFault s a1).without H = s.without H := by
  refine lift h ?_
  unfold State.rootFault
  repeat' (first
    | with_reducible rfl | with_reducible (refine without_ite ?_ ?_) | with_reducible (refine (foldl_frame _ (fun a x => ?_) _ _).trans ?_) | with_reducible (refine (foldl_fst_frame _ (fun a x => ?_) _ _).trans ?_)
    | simp only [↓State.modRoot_frame, ↓State.refreshGates_frame, ↓State.outsRootFault_frame, ↓State.staleSigs_frame,
      ↓State.postAll_frame, ↓State.raise_frame, ↓State.larderWrite_frame, ↓State.linkSafe_frame,
      ↓State.outboxRestart_frame, ↓State.unitStop_frame, ↓State.raiseEv_frame, ↓State.modUnit_frame, Nat.reduceAnd]
    | split | dsimp only)
@[simp ↓] theorem State.rootStart_frame (s) (a1) {H : Nat} (h : H &&& 2149621898 = 2149621898) :
    (State.rootStart s a1).without H = s.without H := by
  refine lift h ?_
  unfold State.rootStart
  repeat' (first
    | with_reducible rfl | with_reducible (refine without_ite ?_ ?_) | with_reducible (refine (foldl_frame _ (fun a x => ?_) _ _).trans ?_) | with_reducible (refine (foldl_fst_frame _ (fun a x => ?_) _ _).trans ?_)
    | simp only [↓State.drawNat_frame, ↓State.modRoot_frame, ↓State.refreshGates_frame, ↓State.resetWindow_frame,
      ↓State.openWindow_frame, ↓State.unitRun_frame, ↓State.post_frame, ↓without_faults, Nat.reduceAnd]
    | split | dsimp only)
@[simp ↓] theorem State.modLarder_frame (s) (a1) {H : Nat} (h : H &&& 16777216 = 16777216) :
    (State.modLarder s a1).without H = s.without H := by
  refine lift h ?_
  unfold State.modLarder
  repeat' (first
    | with_reducible rfl | with_reducible (refine without_ite ?_ ?_)
    | simp only [↓without_larder, Nat.reduceAnd]
    | split | dsimp only)

end Sys2Proof.Machine
end

