-- ==== Sys2Proof/Laws/FrameOps4.lean ====
section
/-! SUPPORT. Laws/FrameOps4.lean: what each operation leaves alone. A mask has a bit for each piece of `Piece`. -/

set_option linter.all false

namespace Sys2Proof.Machine
@[simp ↓] theorem State.holdupTest_frame (s) {H : Nat} (h : H &&& 2174746634 = 2174746634) :
    (State.holdupTest s).without H = s.without H := by
  refine lift h ?_
  unfold State.holdupTest
  repeat' (first
    | with_reducible rfl | with_reducible (refine without_ite ?_ ?_)
    | simp only [↓State.drawNat_frame, ↓State.raiseEv_frame, ↓State.modAttic_frame, ↓State.clearFault_frame,
      Nat.reduceAnd]
    | split | dsimp only)
@[simp ↓] theorem State.commitFiles_frame (s) (a1) (a2) {H : Nat} (h : H &&& 27262986 = 27262986) :
    (State.commitFiles s a1 a2).without H = s.without H := by
  refine lift h ?_
  unfold State.commitFiles
  repeat' (first
    | with_reducible rfl | with_reducible (refine without_ite ?_ ?_)
    | simp only [↓State.modAttic_frame, ↓State.atticWear_frame, Nat.reduceAnd]
    | split | dsimp only)
@[simp ↓] theorem State.commitWrite_frame (s) (a1) {H : Nat} (h : H &&& 27262986 = 27262986) :
    (State.commitWrite s a1).1.without H = s.without H := by
  refine lift h ?_
  unfold State.commitWrite
  repeat' (first
    | with_reducible rfl | with_reducible (refine without_ite ?_ ?_) | with_reducible (refine without_ite_fst ?_ ?_)
    | simp only [↓State.raiseEv_frame, ↓State.commitFiles_frame, Nat.reduceAnd]
    | split | dsimp only)
@[simp ↓] theorem State.finishRead_frame (s) (a1) {H : Nat} (h : H &&& 2 = 2) :
    (State.finishRead s a1).1.without H = s.without H := by
  refine lift h ?_
  unfold State.finishRead
  repeat' (first
    | with_reducible rfl | with_reducible (refine without_ite ?_ ?_) | with_reducible (refine without_ite_fst ?_ ?_)
    | simp only [↓State.regionWrite_frame, Nat.reduceAnd]
    | split | dsimp only)
@[simp ↓] theorem State.flushStage_frame (s) {H : Nat} (h : H &&& 27267082 = 27267082) :
    (State.flushStage s).1.without H = s.without H := by
  refine lift h ?_
  unfold State.flushStage
  repeat' (first
    | with_reducible rfl | with_reducible (refine without_ite ?_ ?_) | with_reducible (refine without_ite_fst ?_ ?_)
    | simp only [↓State.atticWear_frame, ↓State.modAttic_frame, ↓State.granUnstage_frame, Nat.reduceAnd]
    | split | dsimp only)
@[simp ↓] theorem State.dropStage_frame (s) {H : Nat} (h : H &&& 276828160 = 276828160) :
    (State.dropStage s).without H = s.without H := by
  refine lift h ?_
  unfold State.dropStage
  repeat' (first
    | with_reducible rfl | with_reducible (refine without_ite ?_ ?_)
    | simp only [↓State.modAttic_frame, ↓State.granUnstage_frame, ↓without_kept, Nat.reduceAnd]
    | split | dsimp only)
@[simp ↓] theorem State.inhibitStep_frame (s) (a1) {H : Nat} (h : H &&& 27267082 = 27267082) :
    (State.inhibitStep s a1).without H = s.without H := by
  refine lift h ?_
  unfold State.inhibitStep
  repeat' (first
    | with_reducible rfl | with_reducible (refine without_ite ?_ ?_)
    | simp only [↓State.raiseEv_frame, ↓State.modAttic_frame, ↓State.flushStage_frame, ↓State.clearFault_frame,
      ↓State.post_frame, Nat.reduceAnd]
    | split | dsimp only)
@[simp ↓] theorem State.writeKept_frame (s) {H : Nat} (h : H &&& 1887436800 = 1887436800) :
    (State.writeKept s).without H = s.without H := by
  refine lift h ?_
  unfold State.writeKept
  repeat' (first
    | with_reducible rfl | with_reducible (refine without_ite ?_ ?_)
    | simp only [↓State.modAttic_frame, ↓without_m1610612736, ↓without_m1879048192, Nat.reduceAnd]
    | split | dsimp only)
@[simp ↓] theorem State.flushLarder_frame (s) {H : Nat} (h : H &&& 27262986 = 27262986) :
    (State.flushLarder s).without H = s.without H := by
  refine lift h ?_
  unfold State.flushLarder
  repeat' (first
    | with_reducible rfl | with_reducible (refine without_ite ?_ ?_) | with_reducible (refine (foldl_frame _ (fun a x => ?_) _ _).trans ?_) | with_reducible (refine (foldl_fst_frame _ (fun a x => ?_) _ _).trans ?_)
    | simp only [↓State.atticWear_frame, ↓State.modLarder_frame, Nat.reduceAnd]
    | split | dsimp only)
@[simp ↓] theorem State.reportDrops_frame (s) {H : Nat} (h : H &&& 18874378 = 18874378) :
    (State.reportDrops s).without H = s.without H := by
  refine lift h ?_
  unfold State.reportDrops
  repeat' (first
    | with_reducible rfl | with_reducible (refine without_ite ?_ ?_)
    | simp only [↓State.raiseEv_frame, ↓State.modLarder_frame, Nat.reduceAnd]
    | split | dsimp only)
@[simp ↓] theorem State.clearRefuse_frame (s) (a1) (a2) (a3) {H : Nat} (h : H &&& 18874378 = 18874378) :
    (State.clearRefuse s a1 a2 a3).without H = s.without H := by
  refine lift h ?_
  unfold State.clearRefuse
  repeat' (first
    | with_reducible rfl | with_reducible (refine without_ite ?_ ?_)
    | simp only [↓State.modLarder_frame, ↓State.post_frame, ↓State.raise_frame, Nat.reduceAnd]
    | split | dsimp only)
@[simp ↓] theorem State.modGraft_frame (s) (a1) {H : Nat} (h : H &&& 4194304 = 4194304) :
    (State.modGraft s a1).without H = s.without H := by
  refine lift h ?_
  unfold State.modGraft
  repeat' (first
    | with_reducible rfl | with_reducible (refine without_ite ?_ ?_)
    | simp only [↓without_graft, Nat.reduceAnd]
    | split | dsimp only)
@[simp ↓] theorem State.modAct_frame (s) (a1) {H : Nat} (h : H &&& 4194304 = 4194304) :
    (State.modAct s a1).without H = s.without H := by
  refine lift h ?_
  unfold State.modAct
  repeat' (first
    | with_reducible rfl | with_reducible (refine without_ite ?_ ?_)
    | simp only [↓State.modGraft_frame, Nat.reduceAnd]
    | split | dsimp only)
@[simp ↓] theorem State.partDone_frame (s) (a1) (a2) (a3) {H : Nat} (h : H &&& 2 = 2) :
    (State.partDone s a1 a2 a3).without H = s.without H := by
  refine lift h ?_
  unfold State.partDone
  repeat' (first
    | with_reducible rfl | with_reducible (refine without_ite ?_ ?_)
    | simp only [↓State.post_frame, Nat.reduceAnd]
    | split | dsimp only)
@[simp ↓] theorem State.markDone_frame (s) (a1) {H : Nat} (h : H &&& 4194304 = 4194304) :
    (State.markDone s a1).without H = s.without H := by
  refine lift h ?_
  unfold State.markDone
  repeat' (first
    | with_reducible rfl | with_reducible (refine without_ite ?_ ?_)
    | simp only [↓State.modAct_frame, Nat.reduceAnd]
    | split | dsimp only)
@[simp ↓] theorem State.settingsLoad_frame (s) (a1) {H : Nat} (h : H &&& 27262986 = 27262986) :
    (State.settingsLoad s a1).without H = s.without H := by
  refine lift h ?_
  unfold State.settingsLoad
  repeat' (first
    | with_reducible rfl | with_reducible (refine without_ite ?_ ?_) | with_reducible (refine (foldl_frame _ (fun a x => ?_) _ _).trans ?_) | with_reducible (refine (foldl_fst_frame _ (fun a x => ?_) _ _).trans ?_)
    | simp only [↓State.commitFiles_frame, Nat.reduceAnd]
    | split | dsimp only)
@[simp ↓] theorem State.loadTable_frame (s) (a1) {H : Nat} (h : H &&& 564396042 = 564396042) :
    (State.loadTable s a1).without H = s.without H := by
  refine lift h ?_
  unfold State.loadTable
  repeat' (first
    | with_reducible rfl | with_reducible (refine without_ite ?_ ?_)
    | simp only [↓State.pantryLoad_frame, ↓State.settingsLoad_frame, Nat.reduceAnd]
    | split | dsimp only)
@[simp ↓] theorem State.pantryPart_frame (s) (a1) {H : Nat} (h : H &&& 568590346 = 568590346) :
    (State.pantryPart s a1).without H = s.without H := by
  refine lift h ?_
  unfold State.pantryPart
  repeat' (first
    | with_reducible rfl | with_reducible (refine without_ite ?_ ?_) | with_reducible (refine (foldl_frame _ (fun a x => ?_) _ _).trans ?_) | with_reducible (refine (foldl_fst_frame _ (fun a x => ?_) _ _).trans ?_)
    | simp only [↓State.partDone_frame, ↓State.markDone_frame, ↓State.loadTable_frame, Nat.reduceAnd]
    | split | dsimp only)
@[simp ↓] theorem State.takeDecl_frame (s) (a1) {H : Nat} (h : H &&& 2 = 2) :
    (State.takeDecl s a1).without H = s.without H := by
  refine lift h ?_
  unfold State.takeDecl
  repeat' (first
    | with_reducible rfl | with_reducible (refine without_ite ?_ ?_)
    | simp only [↓without_keeper, Nat.reduceAnd]
    | split | dsimp only)
@[simp ↓] theorem State.windowOpen_frame (s) (a1) {H : Nat} (h : H &&& 2 = 2) :
    (State.windowOpen s a1).without H = s.without H := by
  refine lift h ?_
  unfold State.windowOpen
  repeat' (first
    | with_reducible rfl | with_reducible (refine without_ite ?_ ?_)
    | simp only [↓State.ethWindow_frame, ↓State.canWindow_frame, ↓State.openWindow_frame, Nat.reduceAnd]
    | split | dsimp only)
@[simp ↓] theorem State.startPartition_frame (s) (a1) {H : Nat} (h : H &&& 2 = 2) :
    (State.startPartition s a1).without H = s.without H := by
  refine lift h ?_
  unfold State.startPartition
  repeat' (first
    | with_reducible rfl | with_reducible (refine without_ite ?_ ?_)
    | simp only [↓State.windowOpen_frame, ↓without_keeper, Nat.reduceAnd]
    | split | dsimp only)
@[simp ↓] theorem State.stopBulk_frame (s) (a1) {H : Nat} (h : H &&& 25429088 = 25429088) :
    (State.stopBulk s a1).without H = s.without H := by
  refine lift h ?_
  unfold State.stopBulk
  repeat' (first
    | with_reducible rfl | with_reducible (refine without_ite ?_ ?_)
    | simp only [↓without_m25429088, Nat.reduceAnd]
    | split | dsimp only)
@[simp ↓] theorem State.ownerStops_frame (s) (a1) {H : Nat} (h : H &&& 60597370 = 60597370) :
    (State.ownerStops s a1).without H = s.without H := by
  refine lift h ?_
  unfold State.ownerStops
  repeat' (first
    | with_reducible rfl | with_reducible (refine without_ite ?_ ?_)
    | simp only [↓State.stopBulk_frame, ↓State.outsOwnerRestart_frame, ↓State.staleOwned_frame, ↓State.nmLapse_frame,
      ↓without_power, Nat.reduceAnd]
    | split | dsimp only)
@[simp ↓] theorem State.removePartition_frame (s) (a1) {H : Nat} (h : H &&& 60597370 = 60597370) :
    (State.removePartition s a1).without H = s.without H := by
  refine lift h ?_
  unfold State.removePartition
  repeat' (first
    | with_reducible rfl | with_reducible (refine without_ite ?_ ?_)
    | simp only [↓State.ownerStops_frame, ↓State.closeWindow_frame, ↓without_keeper, Nat.reduceAnd]
    | split | dsimp only)
@[simp ↓] theorem State.coldReplace_frame (s) (a1) {H : Nat} (h : H &&& 603759738 = 603759738) :
    (State.coldReplace s a1).without H = s.without H := by
  refine lift h ?_
  unfold State.coldReplace
  repeat' (first
    | with_reducible rfl | with_reducible (refine without_ite ?_ ?_)
    | simp only [↓State.takeDecl_frame, ↓State.ownerStops_frame, ↓State.modPartition_frame, ↓State.resetWindow_frame,
      ↓State.closeWindow_frame, ↓State.markDone_frame, ↓State.modAct_frame, ↓State.pantryPart_frame,
      ↓State.partDone_frame, Nat.reduceAnd]
    | split | dsimp only)
@[simp ↓] theorem State.setModels_frame (s) {H : Nat} (h : H &&& 2050 = 2050) :
    (State.setModels s).without H = s.without H := by
  refine lift h ?_
  unfold State.setModels
  repeat' (first
    | with_reducible rfl | with_reducible (refine without_ite ?_ ?_)
    | simp only [↓State.crownModels_frame, Nat.reduceAnd]
    | split | dsimp only)
@[simp ↓] theorem State.keptTable_frame (s) (a1) {H : Nat} (h : H &&& 537067520 = 537067520) :
    (State.keptTable s a1).without H = s.without H := by
  refine lift h ?_
  unfold State.keptTable
  repeat' (first
    | with_reducible rfl | with_reducible (refine without_ite ?_ ?_)
    | simp only [↓State.dirty_frame, ↓State.fanTablePart_frame, ↓without_plate, Nat.reduceAnd]
    | split | dsimp only)
@[simp ↓] theorem State.gnssPart_frame (s) (a1) {H : Nat} (h : H &&& 4194582 = 4194582) :
    (State.gnssPart s a1).without H = s.without H := by
  refine lift h ?_
  unfold State.gnssPart
  repeat' (first
    | with_reducible rfl | with_reducible (refine without_ite ?_ ?_)
    | simp only [↓State.partDone_frame, ↓State.gnssHandover_frame, ↓State.modAct_frame, ↓State.ppsDrop_frame,
      ↓State.modGnss_frame, ↓State.outboxRestart_frame, ↓State.unitStop_frame, Nat.reduceAnd]
    | split | dsimp only)
@[simp ↓] theorem State.crownCutover_frame (s) (a1) {H : Nat} (h : H &&& 2 = 2) :
    (State.crownCutover s a1).without H = s.without H := by
  refine lift h ?_
  unfold State.crownCutover
  repeat' (first
    | with_reducible rfl | with_reducible (refine without_ite ?_ ?_)
    | simp only [↓State.crownSlot_frame, ↓State.modUnit_frame, ↓State.keeperEv_frame, Nat.reduceAnd]
    | split | dsimp only)
@[simp ↓] theorem State.unitParts_frame (s) {H : Nat} (h : H &&& 541264150 = 541264150) :
    (State.unitParts s).without H = s.without H := by
  refine lift h ?_
  unfold State.unitParts
  repeat' (first
    | with_reducible rfl | with_reducible (refine without_ite ?_ ?_) | with_reducible (refine (foldl_frame _ (fun a x => ?_) _ _).trans ?_) | with_reducible (refine (foldl_fst_frame _ (fun a x => ?_) _ _).trans ?_)
    | simp only [↓State.partDone_frame, ↓State.markDone_frame, ↓State.gnssPart_frame, ↓State.keptTable_frame,
      ↓State.crownCutover_frame, ↓State.setModels_frame, Nat.reduceAnd]
    | split | dsimp only)
@[simp ↓] theorem State.restoreB_frame (s) {H : Nat} (h : H &&& 8650754 = 8650754) :
    (State.restoreB s).without H = s.without H := by
  refine lift h ?_
  unfold State.restoreB
  repeat' (first
    | with_reducible rfl | with_reducible (refine without_ite ?_ ?_)
    | simp only [↓State.panCommit_frame, ↓without_attic, Nat.reduceAnd]
    | split | dsimp only)
@[simp ↓] theorem State.fallRoot_frame (s) {H : Nat} (h : H &&& 18915482 = 18915482) :
    (State.fallRoot s).without H = s.without H := by
  refine lift h ?_
  unfold State.fallRoot
  repeat' (first
    | with_reducible rfl | with_reducible (refine without_ite ?_ ?_)
    | simp only [↓State.takeDecl_frame, ↓State.partDone_frame, ↓State.rootFault_frame, Nat.reduceAnd]
    | split | dsimp only)
@[simp ↓] theorem State.graftNext_frame (n s) {H : Nat} (h : H &&& 603958654 = 603958654) : (State.graftNext n s).without H = s.without H := by
  refine lift h ?_
  clear h
  induction n generalizing s with
  | zero => rfl
  | succ n ih =>
    unfold State.graftNext
    repeat' (first
    | with_reducible rfl | with_reducible (refine without_ite ?_ ?_) | with_reducible (refine (foldl_frame _ (fun a x => ?_) _ _).trans ?_)
    | simp only [↓State.modAct_frame, ↓State.pantryPart_frame, ↓State.partDone_frame, ↓State.markDone_frame,
      ↓State.takeDecl_frame, ↓State.openWindow_frame, ↓State.coldReplace_frame, ↓State.unitParts_frame,
      ↓State.modUnit_frame, ↓without_keeper, ↓without_root, ih, Nat.reduceAnd]
    | split | dsimp only)
@[simp ↓] theorem State.inForce_frame (s) (a1) {H : Nat} (h : H &&& 18 = 18) :
    (State.inForce s a1).without H = s.without H := by
  refine lift h ?_
  unfold State.inForce
  repeat' (first
    | with_reducible rfl | with_reducible (refine without_ite ?_ ?_) | with_reducible (refine (foldl_frame _ (fun a x => ?_) _ _).trans ?_) | with_reducible (refine (foldl_fst_frame _ (fun a x => ?_) _ _).trans ?_)
    | simp only [↓State.staleSigs_frame, ↓without_keeper, Nat.reduceAnd]
    | split | dsimp only)
@[simp ↓] theorem State.activateEnd_frame (s) {H : Nat} (h : H &&& 4194330 = 4194330) :
    (State.activateEnd s).without H = s.without H := by
  refine lift h ?_
  unfold State.activateEnd
  repeat' (first
    | with_reducible rfl | with_reducible (refine without_ite ?_ ?_) | with_reducible (refine (foldl_frame _ (fun a x => ?_) _ _).trans ?_) | with_reducible (refine (foldl_fst_frame _ (fun a x => ?_) _ _).trans ?_)
    | simp only [↓State.inForce_frame, ↓State.partDone_frame, ↓State.startPartition_frame, ↓State.modGraft_frame,
      ↓State.clearFault_frame, ↓State.complete_frame, Nat.reduceAnd]
    | split | dsimp only)
@[simp ↓] theorem State.graftGo_frame (s) {H : Nat} (h : H &&& 603958654 = 603958654) :
    (State.graftGo s).without H = s.without H := by
  refine lift h ?_
  unfold State.graftGo
  repeat' (first
    | with_reducible rfl | with_reducible (refine without_ite ?_ ?_)
    | simp only [↓State.graftNext_frame, ↓State.activateEnd_frame, Nat.reduceAnd]
    | split | dsimp only)
@[simp ↓] theorem State.removeGone_frame (s) {H : Nat} (h : H &&& 64791674 = 64791674) :
    (State.removeGone s).without H = s.without H := by
  refine lift h ?_
  unfold State.removeGone
  repeat' (first
    | with_reducible rfl | with_reducible (refine without_ite ?_ ?_) | with_reducible (refine (foldl_frame _ (fun a x => ?_) _ _).trans ?_) | with_reducible (refine (foldl_fst_frame _ (fun a x => ?_) _ _).trans ?_)
    | simp only [↓State.partDone_frame, ↓State.markDone_frame, ↓State.removePartition_frame, Nat.reduceAnd]
    | split | dsimp only)
@[simp ↓] theorem State.graftCommit_frame (s) {H : Nat} (h : H &&& 4194304 = 4194304) :
    (State.graftCommit s).without H = s.without H := by
  refine lift h ?_
  unfold State.graftCommit
  repeat' (first
    | with_reducible rfl | with_reducible (refine without_ite ?_ ?_)
    | simp only [↓State.modGraft_frame, Nat.reduceAnd]
    | split | dsimp only)
@[simp ↓] theorem State.closePrep_frame (s) {H : Nat} (h : H &&& 2 = 2) :
    (State.closePrep s).without H = s.without H := by
  refine lift h ?_
  unfold State.closePrep
  repeat' (first
    | with_reducible rfl | with_reducible (refine without_ite ?_ ?_)
    | simp only [↓without_keeper, Nat.reduceAnd]
    | split | dsimp only)
@[simp ↓] theorem State.fallbackStart_frame (s) (a1) (a2) (a3) {H : Nat} (h : H &&& 603958782 = 603958782) :
    (State.fallbackStart s a1 a2 a3).without H = s.without H := by
  refine lift h ?_
  unfold State.fallbackStart
  repeat' (first
    | with_reducible rfl | with_reducible (refine without_ite ?_ ?_) | with_reducible (refine (foldl_frame _ (fun a x => ?_) _ _).trans ?_) | with_reducible (refine (foldl_fst_frame _ (fun a x => ?_) _ _).trans ?_)
    | simp only [↓State.raiseEv_frame, ↓State.restoreB_frame, ↓State.modGraft_frame, ↓State.closePrep_frame,
      ↓State.modAct_frame, ↓State.modUnit_frame, ↓State.graftGo_frame, ↓State.fallRoot_frame, ↓without_keeper,
      Nat.reduceAnd]
    | split | dsimp only)
@[simp ↓] theorem State.handoverOff_frame (s) {H : Nat} (h : H &&& 4194306 = 4194306) :
    (State.handoverOff s).without H = s.without H := by
  refine lift h ?_
  unfold State.handoverOff
  repeat' (first
    | with_reducible rfl | with_reducible (refine without_ite ?_ ?_)
    | simp only [↓State.modAct_frame, ↓State.modUnit_frame, Nat.reduceAnd]
    | split | dsimp only)
@[simp ↓] theorem State.graftAbandon_frame (s) (a1) (a2) {H : Nat} (h : H &&& 603958782 = 603958782) :
    (State.graftAbandon s a1 a2).without H = s.without H := by
  refine lift h ?_
  unfold State.graftAbandon
  repeat' (first
    | with_reducible rfl | with_reducible (refine without_ite ?_ ?_)
    | simp only [↓State.handoverOff_frame, ↓State.raiseEv_frame, ↓State.closePrep_frame, ↓State.complete_frame,
      ↓State.graftGo_frame, ↓State.coldReplace_frame, ↓State.modAct_frame, ↓State.modGraft_frame,
      ↓State.fallbackStart_frame, ↓without_keeper, Nat.reduceAnd]
    | split | dsimp only)
@[simp ↓] theorem State.rootResume_frame (s) {H : Nat} (h : H &&& 2097160 = 2097160) :
    (State.rootResume s).without H = s.without H := by
  refine lift h ?_
  unfold State.rootResume
  repeat' (first
    | with_reducible rfl | with_reducible (refine without_ite ?_ ?_)
    | simp only [↓without_m2097160, Nat.reduceAnd]
    | split | dsimp only)
@[simp ↓] theorem State.postOne_frame (s) (a1) {H : Nat} (h : H &&& 2 = 2) :
    (State.postOne s a1).without H = s.without H := by
  refine lift h ?_
  unfold State.postOne
  repeat' (first
    | with_reducible rfl | with_reducible (refine without_ite ?_ ?_)
    | simp only [↓State.deliver_frame, ↓without_keeper, Nat.reduceAnd]
    | split | dsimp only)
@[simp ↓] theorem State.postDeferred_frame (s) {H : Nat} (h : H &&& 2 = 2) :
    (State.postDeferred s).without H = s.without H := by
  refine lift h ?_
  unfold State.postDeferred
  repeat' (first
    | with_reducible rfl | with_reducible (refine without_ite ?_ ?_) | with_reducible (refine (foldl_frame _ (fun a x => ?_) _ _).trans ?_) | with_reducible (refine (foldl_fst_frame _ (fun a x => ?_) _ _).trans ?_)
    | simp only [↓State.postOne_frame, ↓without_keeper, Nat.reduceAnd]
    | split | dsimp only)
@[simp ↓] theorem State.keeperRelease_frame (s) {H : Nat} (h : H &&& 2 = 2) :
    (State.keeperRelease s).without H = s.without H := by
  refine lift h ?_
  unfold State.keeperRelease
  repeat' (first
    | with_reducible rfl | with_reducible (refine without_ite ?_ ?_) | with_reducible (refine (foldl_frame _ (fun a x => ?_) _ _).trans ?_) | with_reducible (refine (foldl_fst_frame _ (fun a x => ?_) _ _).trans ?_)
    | simp only [↓State.unpause_frame, ↓State.modUnit_frame, ↓State.postAt_frame, ↓State.postDeferred_frame,
      ↓State.keeperEv_frame, Nat.reduceAnd]
    | split | dsimp only)
@[simp ↓] theorem State.keeperCutover_frame (s) {H : Nat} (h : H &&& 603958782 = 603958782) :
    (State.keeperCutover s).without H = s.without H := by
  refine lift h ?_
  unfold State.keeperCutover
  repeat' (first
    | with_reducible rfl | with_reducible (refine without_ite ?_ ?_)
    | simp only [↓State.keeperRelease_frame, ↓State.markDone_frame, ↓State.modAct_frame, ↓State.partDone_frame,
      ↓State.pantryPart_frame, ↓State.graftGo_frame, ↓State.fallRoot_frame, Nat.reduceAnd]
    | split | dsimp only)
@[simp ↓] theorem State.keeperResume_frame (s) {H : Nat} (h : H &&& 2 = 2) :
    (State.keeperResume s).without H = s.without H := by
  refine lift h ?_
  unfold State.keeperResume
  repeat' (first
    | with_reducible rfl | with_reducible (refine without_ite ?_ ?_) | with_reducible (refine (foldl_frame _ (fun a x => ?_) _ _).trans ?_) | with_reducible (refine (foldl_fst_frame _ (fun a x => ?_) _ _).trans ?_)
    | simp only [↓State.postDeferred_frame, ↓State.modUnit_frame, ↓State.unpause_frame, Nat.reduceAnd]
    | split | dsimp only)
@[simp ↓] theorem State.keeperCutoverFail_frame (s) {H : Nat} (h : H &&& 603958782 = 603958782) :
    (State.keeperCutoverFail s).without H = s.without H := by
  refine lift h ?_
  unfold State.keeperCutoverFail
  repeat' (first
    | with_reducible rfl | with_reducible (refine without_ite ?_ ?_)
    | simp only [↓State.waitTo_frame, ↓State.keeperResume_frame, ↓State.graftGo_frame, ↓State.fallRoot_frame,
      ↓State.raiseEv_frame, ↓State.graftAbandon_frame, Nat.reduceAnd]
    | split | dsimp only)
@[simp ↓] theorem State.graftTrunkStart_frame (s) {H : Nat} (h : H &&& 568786954 = 568786954) :
    (State.graftTrunkStart s).without H = s.without H := by
  refine lift h ?_
  unfold State.graftTrunkStart
  repeat' (first
    | with_reducible rfl | with_reducible (refine without_ite ?_ ?_) | with_reducible (refine (foldl_frame _ (fun a x => ?_) _ _).trans ?_) | with_reducible (refine (foldl_fst_frame _ (fun a x => ?_) _ _).trans ?_)
    | simp only [↓State.restoreB_frame, ↓State.keptTable_frame, ↓State.loadTable_frame, ↓State.modAct_frame,
      ↓State.raiseEv_frame, Nat.reduceAnd]
    | split | dsimp only)
@[simp ↓] theorem State.trialWrite_frame (s) {H : Nat} (h : H &&& 4194304 = 4194304) :
    (State.trialWrite s).without H = s.without H := by
  refine lift h ?_
  unfold State.trialWrite
  repeat' (first
    | with_reducible rfl | with_reducible (refine without_ite ?_ ?_)
    | simp only [↓State.modGraft_frame, Nat.reduceAnd]
    | split | dsimp only)
@[simp ↓] theorem State.graftLoss_frame (s) {H : Nat} (h : H &&& 4194304 = 4194304) :
    (State.graftLoss s).without H = s.without H := by
  refine lift h ?_
  unfold State.graftLoss
  repeat' (first
    | with_reducible rfl | with_reducible (refine without_ite ?_ ?_)
    | simp only [↓State.modGraft_frame, Nat.reduceAnd]
    | split | dsimp only)
@[simp ↓] theorem State.graftRootFault_frame (s) {H : Nat} (h : H &&& 603958782 = 603958782) :
    (State.graftRootFault s).without H = s.without H := by
  refine lift h ?_
  unfold State.graftRootFault
  repeat' (first
    | with_reducible rfl | with_reducible (refine without_ite ?_ ?_)
    | simp only [↓State.graftAbandon_frame, Nat.reduceAnd]
    | split | dsimp only)
@[simp ↓] theorem State.resumeYielded_frame (s) {H : Nat} (h : H &&& 2 = 2) :
    (State.resumeYielded s).without H = s.without H := by
  refine lift h ?_
  unfold State.resumeYielded
  repeat' (first
    | with_reducible rfl | with_reducible (refine without_ite ?_ ?_)
    | simp only [↓State.modPartition_frame, Nat.reduceAnd]
    | split | dsimp only)
@[simp ↓] theorem State.pausesOff_frame (s) {H : Nat} (h : H &&& 2097162 = 2097162) :
    (State.pausesOff s).without H = s.without H := by
  refine lift h ?_
  unfold State.pausesOff
  repeat' (first
    | with_reducible rfl | with_reducible (refine without_ite ?_ ?_)
    | simp only [↓State.rootResume_frame, ↓State.keeperResume_frame, Nat.reduceAnd]
    | split | dsimp only)
@[simp ↓] theorem State.graftFailover_frame (s) {H : Nat} (h : H &&& 603958782 = 603958782) :
    (State.graftFailover s).without H = s.without H := by
  refine lift h ?_
  unfold State.graftFailover
  repeat' (first
    | with_reducible rfl | with_reducible (refine without_ite ?_ ?_)
    | simp only [↓State.pausesOff_frame, ↓State.graftAbandon_frame, ↓State.resumeYielded_frame, Nat.reduceAnd]
    | split | dsimp only)
@[simp ↓] theorem State.setTables_frame (s) {H : Nat} (h : H &&& 537329666 = 537329666) :
    (State.setTables s).without H = s.without H := by
  refine lift h ?_
  unfold State.setTables
  repeat' (first
    | with_reducible rfl | with_reducible (refine without_ite ?_ ?_) | with_reducible (refine (foldl_frame _ (fun a x => ?_) _ _).trans ?_) | with_reducible (refine (foldl_fst_frame _ (fun a x => ?_) _ _).trans ?_)
    | simp only [↓State.pantryLoad_frame, ↓State.fanTablePart_frame, ↓without_plate, Nat.reduceAnd]
    | split | dsimp only)
@[simp ↓] theorem State.ispAgain_frame (s) {H : Nat} (h : H &&& 1024 = 1024) :
    (State.ispAgain s).without H = s.without H := by
  refine lift h ?_
  unfold State.ispAgain
  repeat' (first
    | with_reducible rfl | with_reducible (refine without_ite ?_ ?_) | with_reducible (refine (foldl_frame _ (fun a x => ?_) _ _).trans ?_) | with_reducible (refine (foldl_fst_frame _ (fun a x => ?_) _ _).trans ?_)
    | simp only [↓State.ispRoute_frame, Nat.reduceAnd]
    | split | dsimp only)
@[simp ↓] theorem State.startUnits_frame (s) (a1) {H : Nat} (h : H &&& 572522470 = 572522470) :
    (State.startUnits s a1).without H = s.without H := by
  refine lift h ?_
  unfold State.startUnits
  repeat' (first
    | with_reducible rfl | with_reducible (refine without_ite ?_ ?_)
    | simp only [↓State.valveCold_frame, ↓State.outsCold_frame, ↓State.fansStart_frame, ↓State.setTables_frame,
      ↓State.ispAgain_frame, ↓State.ethTrunkPost_frame, ↓State.canTrunkPost_frame, ↓State.setModels_frame,
      ↓without_keptDirty, ↓without_m35577700, Nat.reduceAnd]
    | split | dsimp only)
@[simp ↓] theorem State.stopUnits_frame (s) {H : Nat} (h : H &&& 786434 = 786434) :
    (State.stopUnits s).without H = s.without H := by
  refine lift h ?_
  unfold State.stopUnits
  repeat' (first
    | with_reducible rfl | with_reducible (refine without_ite ?_ ?_)
    | simp only [↓State.nmTrunkStop_frame, Nat.reduceAnd]
    | split | dsimp only)
@[simp ↓] theorem State.parkWrite_frame (s) {H : Nat} (h : H &&& 31461642 = 31461642) :
    (State.parkWrite s).without H = s.without H := by
  refine lift h ?_
  unfold State.parkWrite
  repeat' (first
    | with_reducible rfl | with_reducible (refine without_ite ?_ ?_)
    | simp only [↓State.trialWrite_frame, ↓State.gnssPark_frame, ↓State.granPark_frame, Nat.reduceAnd]
    | split | dsimp only)
@[simp ↓] theorem State.runUp_frame (s) {H : Nat} (h : H &&& 11274 = 11274) :
    (State.runUp s).without H = s.without H := by
  refine lift h ?_
  unfold State.runUp
  repeat' (first
    | with_reducible rfl | with_reducible (refine without_ite ?_ ?_) | with_reducible (refine (foldl_frame _ (fun a x => ?_) _ _).trans ?_) | with_reducible (refine (foldl_fst_frame _ (fun a x => ?_) _ _).trans ?_)
    | simp only [↓State.unitPower_frame, ↓State.unitRun_frame, ↓State.camFresh_frame, ↓State.crownRunEntry_frame,
      Nat.reduceAnd]
    | split | dsimp only)
@[simp ↓] theorem State.runDown_frame (s) {H : Nat} (h : H &&& 3098 = 3098) :
    (State.runDown s).without H = s.without H := by
  refine lift h ?_
  unfold State.runDown
  repeat' (first
    | with_reducible rfl | with_reducible (refine without_ite ?_ ?_) | with_reducible (refine (foldl_frame _ (fun a x => ?_) _ _).trans ?_) | with_reducible (refine (foldl_fst_frame _ (fun a x => ?_) _ _).trans ?_)
    | simp only [↓State.unitDown_frame, ↓State.camAbort_frame, ↓State.crownAbort_frame, ↓without_cam, implies_true,
      eq_self, Nat.reduceAnd]
    | split | dsimp only)
@[simp ↓] theorem State.atticRestart_frame (s) {H : Nat} (h : H &&& 8388610 = 8388610) :
    (State.atticRestart s).without H = s.without H := by
  refine lift h ?_
  unfold State.atticRestart
  repeat' (first
    | with_reducible rfl | with_reducible (refine without_ite ?_ ?_) | with_reducible (refine (foldl_frame _ (fun a x => ?_) _ _).trans ?_) | with_reducible (refine (foldl_fst_frame _ (fun a x => ?_) _ _).trans ?_)
    | simp only [↓State.complete_frame, ↓State.regionAbort_frame, ↓without_attic, Nat.reduceAnd]
    | split | dsimp only)
@[simp ↓] theorem State.larderRestart_frame (s) {H : Nat} (h : H &&& 16777218 = 16777218) :
    (State.larderRestart s).without H = s.without H := by
  refine lift h ?_
  unfold State.larderRestart
  repeat' (first
    | with_reducible rfl | with_reducible (refine without_ite ?_ ?_)
    | simp only [↓State.complete_frame, ↓State.regionAbort_frame, ↓without_larder, Nat.reduceAnd]
    | split | dsimp only)
@[simp ↓] theorem State.graftRestart_frame (s) {H : Nat} (h : H &&& 4194306 = 4194306) :
    (State.graftRestart s).without H = s.without H := by
  refine lift h ?_
  unfold State.graftRestart
  repeat' (first
    | with_reducible rfl | with_reducible (refine without_ite ?_ ?_)
    | simp only [↓State.complete_frame, ↓State.modAct_frame, Nat.reduceAnd]
    | split | dsimp only)
@[simp ↓] theorem State.familyRestart_frame (s) (a1) (a2) {H : Nat} (h : H &&& 2717827070 = 2717827070) :
    (State.familyRestart s a1 a2).without H = s.without H := by
  refine lift h ?_
  unfold State.familyRestart
  repeat' (first
    | with_reducible rfl | with_reducible (refine without_ite ?_ ?_)
    | simp only [↓State.outsKeeperRestart_frame, ↓State.senseAbort_frame, ↓State.ctrlRestart_frame,
      ↓State.valveRestart_frame, ↓State.outsRestart_frame, ↓State.bodyRestart_frame, ↓State.plateRestart_frame,
      ↓State.canRestart_frame, ↓State.linRestart_frame, ↓State.ethRestart_frame, ↓State.nmRestart_frame,
      ↓State.ppsDrop_frame, ↓State.modGnss_frame, ↓State.camAbort_frame, ↓State.crownAbort_frame, ↓State.modGran_frame,
      ↓State.granAbort_frame, ↓State.graftRestart_frame, ↓State.atticRestart_frame, ↓State.larderRestart_frame,
      ↓without_time, ↓without_sensing, ↓without_imu, Nat.reduceAnd]
    | split | dsimp only)
@[simp ↓] theorem State.unitRestart_frame (s) (a1) (a2) (a3) {H : Nat} (h : H &&& 2717827070 = 2717827070) :
    (State.unitRestart s a1 a2 a3).without H = s.without H := by
  refine lift h ?_
  unfold State.unitRestart
  repeat' (first
    | with_reducible rfl | with_reducible (refine without_ite ?_ ?_)
    | simp only [↓State.familyRestart_frame, ↓State.outboxRestart_frame, ↓State.unitStop_frame, Nat.reduceAnd]
    | split | dsimp only)
@[simp ↓] theorem State.modPower_frame (s) (a1) {H : Nat} (h : H &&& 33554432 = 33554432) :
    (State.modPower s a1).without H = s.without H := by
  refine lift h ?_
  unfold State.modPower
  repeat' (first
    | with_reducible rfl | with_reducible (refine without_ite ?_ ?_)
    | simp only [↓without_power, Nat.reduceAnd]
    | split | dsimp only)
@[simp ↓] theorem State.powerTo_frame (s) (a1) (a2) {H : Nat} (h : H &&& 33554434 = 33554434) :
    (State.powerTo s a1 a2).without H = s.without H := by
  refine lift h ?_
  unfold State.powerTo
  repeat' (first
    | with_reducible rfl | with_reducible (refine without_ite ?_ ?_)
    | simp only [↓State.post_frame, ↓State.modPower_frame, Nat.reduceAnd]
    | split | dsimp only)
@[simp ↓] theorem State.modStud_frame (s) (a1) (a2) {H : Nat} (h : H &&& 33554432 = 33554432) :
    (State.modStud s a1 a2).without H = s.without H := by
  refine lift h ?_
  unfold State.modStud
  repeat' (first
    | with_reducible rfl | with_reducible (refine without_ite ?_ ?_)
    | simp only [↓State.modPower_frame, Nat.reduceAnd]
    | split | dsimp only)
@[simp ↓] theorem State.trunkStop_frame (s) (a1) {H : Nat} (h : H &&& 128926774 = 128926774) :
    (State.trunkStop s a1).without H = s.without H := by
  refine lift h ?_
  unfold State.trunkStop
  repeat' (first
    | with_reducible rfl | with_reducible (refine without_ite ?_ ?_) | with_reducible (refine (foldl_frame _ (fun a x => ?_) _ _).trans ?_) | with_reducible (refine (foldl_fst_frame _ (fun a x => ?_) _ _).trans ?_)
    | simp only [↓State.stopUnits_frame, ↓State.unitOff_frame, ↓without_keeper, ↓without_m128140342, Nat.reduceAnd]
    | split | dsimp only)
@[simp ↓] theorem State.postTrips_frame (s) (a1) {H : Nat} (h : H &&& 18874378 = 18874378) :
    (State.postTrips s a1).without H = s.without H := by
  refine lift h ?_
  unfold State.postTrips
  repeat' (first
    | with_reducible rfl | with_reducible (refine without_ite ?_ ?_) | with_reducible (refine (foldl_frame _ (fun a x => ?_) _ _).trans ?_) | with_reducible (refine (foldl_fst_frame _ (fun a x => ?_) _ _).trans ?_)
    | simp only [↓State.postAt_frame, ↓State.raise_frame, ↓State.clearFault_frame, ↓State.post_frame, Nat.reduceAnd]
    | split | dsimp only)
@[simp ↓] theorem State.timeStart_frame (s) (a1) {H : Nat} (h : H &&& 6 = 6) :
    (State.timeStart s a1).without H = s.without H := by
  refine lift h ?_
  unfold State.timeStart
  repeat' (first
    | with_reducible rfl | with_reducible (refine without_ite ?_ ?_)
    | simp only [↓State.timeFollow_frame, ↓State.post_frame, ↓without_time, Nat.reduceAnd]
    | split | dsimp only)
@[simp ↓] theorem State.selfTest_frame (s) {H : Nat} (h : H &&& 2147483650 = 2147483650) :
    (State.selfTest s).without H = s.without H := by
  refine lift h ?_
  unfold State.selfTest
  repeat' (first
    | with_reducible rfl | with_reducible (refine without_ite ?_ ?_) | with_reducible (refine (foldl_frame _ (fun a x => ?_) _ _).trans ?_) | with_reducible (refine (foldl_fst_frame _ (fun a x => ?_) _ _).trans ?_)
    | simp only [↓State.drawNat_frame, ↓without_keeper, Nat.reduceAnd]
    | split | dsimp only)
@[simp ↓] theorem State.staleAll_frame (s) {H : Nat} (h : H &&& 16 = 16) :
    (State.staleAll s).without H = s.without H := by
  refine lift h ?_
  unfold State.staleAll
  repeat' (first
    | with_reducible rfl | with_reducible (refine without_ite ?_ ?_) | with_reducible (refine (foldl_frame _ (fun a x => ?_) _ _).trans ?_) | with_reducible (refine (foldl_fst_frame _ (fun a x => ?_) _ _).trans ?_)
    | simp only [↓State.staleOwned_frame, ↓State.staleSigs_frame, Nat.reduceAnd]
    | split | dsimp only)
@[simp ↓] theorem State.trunkStart_frame (s) {H : Nat} (h : H &&& 4227858430 = 4227858430) :
    (State.trunkStart s).without H = s.without H := by
  refine lift h ?_
  unfold State.trunkStart
  repeat' (first
    | with_reducible rfl | with_reducible (refine without_ite ?_ ?_) | with_reducible (refine (foldl_frame _ (fun a x => ?_) _ _).trans ?_) | with_reducible (refine (foldl_fst_frame _ (fun a x => ?_) _ _).trans ?_)
    | simp only [↓State.firstGens_frame, ↓State.selfTest_frame, ↓State.inForce_frame, ↓State.unitPower_frame,
      ↓State.startUnits_frame, ↓State.unitRun_frame, ↓State.windowOpen_frame, ↓State.staleAll_frame,
      ↓State.modUnit_frame, ↓State.endFaults_frame, ↓State.timeStart_frame, ↓State.post_frame, ↓State.refreshGates_frame,
      ↓State.postTrips_frame, ↓State.nmTrunkStart_frame, ↓State.plateTrunkPost_frame, ↓State.swinTrunkPost_frame,
      ↓State.gnssTrunkPost_frame, ↓State.outsTrunkPost_frame, ↓State.graftTrunkStart_frame, ↓State.holdupTest_frame,
      ↓without_power, ↓without_m169869312, ↓without_m1893728262, Nat.reduceAnd]
    | split | dsimp only)
@[simp ↓] theorem State.enterRun_frame (s) (a1) {H : Nat} (h : H &&& 33565706 = 33565706) :
    (State.enterRun s a1).without H = s.without H := by
  refine lift h ?_
  unfold State.enterRun
  repeat' (first
    | with_reducible rfl | with_reducible (refine without_ite ?_ ?_)
    | simp only [↓State.runUp_frame, ↓State.powerTo_frame, Nat.reduceAnd]
    | split | dsimp only)
@[simp ↓] theorem State.toOff_frame (s) {H : Nat} (h : H &&& 1879048190 = 1879048190) : (State.toOff s).without H = s.without H := by
  refine lift h ?_
  unfold State.toOff
  rfl
@[simp ↓] theorem State.parkAbandon_frame (s) {H : Nat} (h : H &&& 43778050 = 43778050) :
    (State.parkAbandon s).without H = s.without H := by
  refine lift h ?_
  unfold State.parkAbandon
  repeat' (first
    | with_reducible rfl | with_reducible (refine without_ite ?_ ?_)
    | simp only [↓State.nmParkAbandon_frame, ↓State.modAttic_frame, ↓State.modPower_frame, ↓State.powerTo_frame,
      Nat.reduceAnd]
    | split | dsimp only)
@[simp ↓] theorem State.wakeNow_frame (s) {H : Nat} (h : H &&& 43778050 = 43778050) :
    (State.wakeNow s).without H = s.without H := by
  refine lift h ?_
  unfold State.wakeNow
  repeat' (first
    | with_reducible rfl | with_reducible (refine without_ite ?_ ?_)
    | simp only [↓State.modPower_frame, ↓State.powerTo_frame, ↓State.parkAbandon_frame, Nat.reduceAnd]
    | split | dsimp only)
@[simp ↓] theorem State.runDecide_frame (s) (a1) {H : Nat} (h : H &&& 43789322 = 43789322) :
    (State.runDecide s a1).without H = s.without H := by
  refine lift h ?_
  unfold State.runDecide
  repeat' (first
    | with_reducible rfl | with_reducible (refine without_ite ?_ ?_)
    | simp only [↓State.enterRun_frame, ↓State.parkAbandon_frame, ↓State.modPower_frame, ↓State.powerTo_frame,
      Nat.reduceAnd]
    | split | dsimp only)
@[simp ↓] theorem State.stopPartitions_frame (s) {H : Nat} (h : H &&& 60597370 = 60597370) :
    (State.stopPartitions s).without H = s.without H := by
  refine lift h ?_
  unfold State.stopPartitions
  repeat' (first
    | with_reducible rfl | with_reducible (refine without_ite ?_ ?_) | with_reducible (refine (foldl_frame _ (fun a x => ?_) _ _).trans ?_) | with_reducible (refine (foldl_fst_frame _ (fun a x => ?_) _ _).trans ?_)
    | simp only [↓State.ownerStops_frame, ↓State.closeWindow_frame, ↓without_keeper, Nat.reduceAnd]
    | split | dsimp only)
@[simp ↓] theorem State.boughsOff_frame (s) {H : Nat} (h : H &&& 67108880 = 67108880) :
    (State.boughsOff s).without H = s.without H := by
  refine lift h ?_
  unfold State.boughsOff
  repeat' (first
    | with_reducible rfl | with_reducible (refine without_ite ?_ ?_) | with_reducible (refine (foldl_frame _ (fun a x => ?_) _ _).trans ?_) | with_reducible (refine (foldl_fst_frame _ (fun a x => ?_) _ _).trans ?_)
    | simp only [↓State.zeroSigs_frame, ↓without_thermal, Nat.reduceAnd]
    | split | dsimp only)
@[simp ↓] theorem State.studFault_frame (s) (a1) (a2) (a3) (a4) (a5) {H : Nat} (h : H &&& 18874378 = 18874378) :
    (State.studFault s a1 a2 a3 a4 a5).without H = s.without H := by
  refine lift h ?_
  unfold State.studFault
  repeat' (first
    | with_reducible rfl | with_reducible (refine without_ite ?_ ?_)
    | simp only [↓State.raise_frame, ↓State.post_frame, Nat.reduceAnd]
    | split | dsimp only)
@[simp ↓] theorem State.monitorReset_frame (s) (a1) {H : Nat} (h : H &&& 401568950 = 401568950) :
    (State.monitorReset s a1).without H = s.without H := by
  refine lift h ?_
  unfold State.monitorReset
  repeat' (first
    | with_reducible rfl | with_reducible (refine without_ite ?_ ?_)
    | simp only [↓State.larderWrite_frame, ↓State.modRoot_frame, ↓State.trunkStop_frame, ↓State.outsTrunkReset_frame,
      ↓State.graftLoss_frame, ↓State.dropStage_frame, ↓without_power, Nat.reduceAnd]
    | split | dsimp only)
@[simp ↓] theorem State.rootFaultNow_frame (s) (a1) {H : Nat} (h : H &&& 603958782 = 603958782) :
    (State.rootFaultNow s a1).without H = s.without H := by
  refine lift h ?_
  unfold State.rootFaultNow
  repeat' (first
    | with_reducible rfl | with_reducible (refine without_ite ?_ ?_)
    | simp only [↓State.rootFault_frame, ↓State.graftRootFault_frame, Nat.reduceAnd]
    | split | dsimp only)
@[simp ↓] theorem State.modSensor_frame (s) (a1) (a2) {H : Nat} (h : H &&& 67108864 = 67108864) :
    (State.modSensor s a1 a2).without H = s.without H := by
  refine lift h ?_
  unfold State.modSensor
  repeat' (first
    | with_reducible rfl | with_reducible (refine without_ite ?_ ?_)
    | simp only [↓without_thermal, Nat.reduceAnd]
    | split | dsimp only)
@[simp ↓] theorem State.sensorCheck_frame (s) (a1) (a2) {H : Nat} (h : H &&& 85983242 = 85983242) :
    (State.sensorCheck s a1 a2).without H = s.without H := by
  refine lift h ?_
  unfold State.sensorCheck
  repeat' (first
    | with_reducible rfl | with_reducible (refine without_ite ?_ ?_)
    | simp only [↓State.modSensor_frame, ↓State.clearFault_frame, ↓State.raiseEv_frame, Nat.reduceAnd]
    | split | dsimp only)
@[simp ↓] theorem State.thermSig_frame (s) (a1) (a2) (a3) {H : Nat} (h : H &&& 4112 = 4112) :
    (State.thermSig s a1 a2 a3).without H = s.without H := by
  refine lift h ?_
  unfold State.thermSig
  repeat' (first
    | with_reducible rfl | with_reducible (refine without_ite ?_ ?_)
    | simp only [↓State.setSig_frame, Nat.reduceAnd]
    | split | dsimp only)
@[simp ↓] theorem State.stepEvents_frame (a0) (s) {H : Nat} (h : H &&& 2050 = 2050) :
    (State.stepEvents a0 s).without H = s.without H := by
  refine lift h ?_
  unfold State.stepEvents
  repeat' (first
    | with_reducible rfl | with_reducible (refine without_ite ?_ ?_) | with_reducible (refine (foldl_frame _ (fun a x => ?_) _ _).trans ?_) | with_reducible (refine (foldl_fst_frame _ (fun a x => ?_) _ _).trans ?_)
    | simp only [↓State.crownThrottle_frame, ↓State.post_frame, Nat.reduceAnd]
    | split | dsimp only)
@[simp ↓] theorem State.throttle_frame (a0) (s) (a2) {H : Nat} (h : H &&& 67110914 = 67110914) :
    (State.throttle a0 s a2).without H = s.without H := by
  refine lift h ?_
  unfold State.throttle
  repeat' (first
    | with_reducible rfl | with_reducible (refine without_ite ?_ ?_)
    | simp only [↓State.stepEvents_frame, ↓without_thermal, Nat.reduceAnd]
    | split | dsimp only)
@[simp ↓] theorem State.trunkWarning_frame (s) (a1) (a2) {H : Nat} (h : H &&& 85983242 = 85983242) :
    (State.trunkWarning s a1 a2).without H = s.without H := by
  refine lift h ?_
  unfold State.trunkWarning
  repeat' (first
    | with_reducible rfl | with_reducible (refine without_ite ?_ ?_)
    | simp only [↓State.raiseEv_frame, ↓State.clearFault_frame, ↓without_thermal, Nat.reduceAnd]
    | split | dsimp only)
@[simp ↓] theorem State.thermalShutdown_frame (s) (a1) (a2) (a3) {H : Nat} (h : H &&& 401568958 = 401568958) :
    (State.thermalShutdown s a1 a2 a3).without H = s.without H := by
  refine lift h ?_
  unfold State.thermalShutdown
  repeat' (first
    | with_reducible rfl | with_reducible (refine without_ite ?_ ?_)
    | simp only [↓State.modRoot_frame, ↓State.outsShutdown_frame, ↓State.postAll_frame, ↓State.raise_frame,
      ↓State.larderWrite_frame, ↓State.graftLoss_frame, ↓State.dropStage_frame, ↓State.flushLarder_frame,
      ↓State.trunkStop_frame, Nat.reduceAnd]
    | split | dsimp only)
@[simp ↓] theorem State.thermInstant_frame (s) (a1) {H : Nat} (h : H &&& 33554436 = 33554436) :
    (State.thermInstant s a1).without H = s.without H := by
  refine lift h ?_
  unfold State.thermInstant
  repeat' (first
    | with_reducible rfl | with_reducible (refine without_ite ?_ ?_)
    | simp only [↓State.boundary_frame, Nat.reduceAnd]
    | split | dsimp only)
@[simp ↓] theorem State.thermTake_frame (s) (a1) (a2) {H : Nat} (h : H &&& 85983242 = 85983242) :
    (State.thermTake s a1 a2).without H = s.without H := by
  refine lift h ?_
  unfold State.thermTake
  repeat' (first
    | with_reducible rfl | with_reducible (refine without_ite ?_ ?_)
    | simp only [↓State.sensorCheck_frame, ↓State.modSensor_frame, Nat.reduceAnd]
    | split | dsimp only)
@[simp ↓] theorem State.thermSigs_frame (s) (a1) {H : Nat} (h : H &&& 4112 = 4112) :
    (State.thermSigs s a1).without H = s.without H := by
  refine lift h ?_
  unfold State.thermSigs
  repeat' (first
    | with_reducible rfl | with_reducible (refine without_ite ?_ ?_)
    | simp only [↓State.thermSig_frame, Nat.reduceAnd]
    | split | dsimp only)
@[simp ↓] theorem State.faultTake_frame (s) {H : Nat} (h : H &&& 8 = 8) :
    (State.faultTake s).without H = s.without H := by
  refine lift h ?_
  unfold State.faultTake
  repeat' (first
    | with_reducible rfl | with_reducible (refine without_ite ?_ ?_)
    | simp only [↓without_faults, Nat.reduceAnd]
    | split | dsimp only)
@[simp ↓] theorem State.faultSteps_frame (s) (a1) {H : Nat} (h : H &&& 16777218 = 16777218) :
    (State.faultSteps s a1).without H = s.without H := by
  refine lift h ?_
  unfold State.faultSteps
  repeat' (first
    | with_reducible rfl | with_reducible (refine without_ite ?_ ?_)
    | simp only [↓State.larderWrite_frame, ↓State.post_frame, Nat.reduceAnd]
    | split | dsimp only)
@[simp ↓] theorem State.raiseDropped_frame (s) {H : Nat} (h : H &&& 18874378 = 18874378) :
    (State.raiseDropped s).without H = s.without H := by
  refine lift h ?_
  unfold State.raiseDropped
  repeat' (first
    | with_reducible rfl | with_reducible (refine without_ite ?_ ?_)
    | simp only [↓State.raise_frame, ↓without_faults, Nat.reduceAnd]
    | split | dsimp only)
@[simp ↓] theorem State.modeSent_frame (s) (a1) (a2) (a3) {H : Nat} (h : H &&& 65536 = 65536) :
    (State.modeSent s a1 a2 a3).without H = s.without H := by
  refine lift h ?_
  unfold State.modeSent
  repeat' (first
    | with_reducible rfl | with_reducible (refine without_ite ?_ ?_)
    | simp only [↓State.modFan_frame, Nat.reduceAnd]
    | split | dsimp only)
@[simp ↓] theorem State.modeToHw_frame (s) (a1) (a2) {H : Nat} (h : H &&& 19243210 = 19243210) :
    (State.modeToHw s a1 a2).without H = s.without H := by
  refine lift h ?_
  unfold State.modeToHw
  repeat' (first
    | with_reducible rfl | with_reducible (refine without_ite ?_ ?_)
    | simp only [↓State.modLoop_frame, ↓State.valveToHw_frame, ↓State.bodyTake_frame, ↓State.fanUnwatch_frame,
      ↓State.fanCause_frame, ↓State.canHostRefresh_frame, ↓State.modCan_frame, Nat.reduceAnd]
    | split | dsimp only)
@[simp ↓] theorem State.modeToHost_frame (s) (a1) (a2) {H : Nat} (h : H &&& 2166620234 = 2166620234) :
    (State.modeToHost s a1 a2).without H = s.without H := by
  refine lift h ?_
  unfold State.modeToHost
  repeat' (first
    | with_reducible rfl | with_reducible (refine without_ite ?_ ?_)
    | simp only [↓State.modLoop_frame, ↓State.fanPeriod_frame, ↓State.drawNat_frame, ↓State.tpAbortAll_frame,
      Nat.reduceAnd]
    | split | dsimp only)
@[simp ↓] theorem State.missEffect_frame (s) (a1) (a2) (a3) {H : Nat} (h : H &&& 2166732254 = 2166732254) :
    (State.missEffect s a1 a2 a3).without H = s.without H := by
  refine lift h ?_
  unfold State.missEffect
  repeat' (first
    | with_reducible rfl | with_reducible (refine without_ite ?_ ?_)
    | simp only [↓State.senseMiss_frame, ↓State.ctrlMiss_frame, ↓State.valveMiss_frame, ↓State.gnssMiss_frame,
      ↓State.camMiss_frame, ↓State.crownMiss_frame, ↓State.granMiss_frame, ↓State.bodyMiss_frame, ↓State.fanMiss_frame,
      ↓State.canMiss_frame, Nat.reduceAnd]
    | split | dsimp only)
@[simp ↓] theorem State.unitBack_frame (s) (a1) (a2) (a3) {H : Nat} (h : H &&& 1944806 = 1944806) :
    (State.unitBack s a1 a2 a3).without H = s.without H := by
  refine lift h ?_
  unfold State.unitBack
  repeat' (first
    | with_reducible rfl | with_reducible (refine without_ite ?_ ?_)
    | simp only [↓State.timeFollow_frame, ↓State.modSense_frame, ↓State.ctrlReady_frame, ↓State.camFresh_frame,
      ↓State.crownReady_frame, ↓State.bodyResume_frame, ↓State.fanReady_frame, ↓State.nmEvalAll_frame, Nat.reduceAnd]
    | split | dsimp only)
@[simp ↓] theorem State.gnssCutover_frame (s) {H : Nat} (h : H &&& 2 = 2) :
    (State.gnssCutover s).without H = s.without H := by
  refine lift h ?_
  unfold State.gnssCutover
  repeat' (first
    | with_reducible rfl | with_reducible (refine without_ite ?_ ?_)
    | simp only [↓State.modUnit_frame, ↓State.keeperEv_frame, ↓without_keeper, Nat.reduceAnd]
    | split | dsimp only)
@[simp ↓] theorem State.unitReady_frame (s) (a1) (a2) {H : Nat} (h : H &&& 1944806 = 1944806) :
    (State.unitReady s a1 a2).without H = s.without H := by
  refine lift h ?_
  unfold State.unitReady
  repeat' (first
    | with_reducible rfl | with_reducible (refine without_ite ?_ ?_)
    | simp only [↓State.unitBack_frame, ↓State.unitRun_frame, ↓State.gnssCutover_frame, Nat.reduceAnd]
    | split | dsimp only)
@[simp ↓] theorem State.partitionLost_frame (s) (a1) {H : Nat} (h : H &&& 60597370 = 60597370) :
    (State.partitionLost s a1).without H = s.without H := by
  refine lift h ?_
  unfold State.partitionLost
  repeat' (first
    | with_reducible rfl | with_reducible (refine without_ite ?_ ?_)
    | simp only [↓State.ownerStops_frame, ↓State.modPartition_frame, ↓State.closeWindow_frame, Nat.reduceAnd]
    | split | dsimp only)
@[simp ↓] theorem State.crownRetire_frame (s) (a1) {H : Nat} (h : H &&& 555748378 = 555748378) :
    (State.crownRetire s a1).without H = s.without H := by
  refine lift h ?_
  unfold State.crownRetire
  repeat' (first
    | with_reducible rfl | with_reducible (refine without_ite ?_ ?_)
    | simp only [↓State.unitDown_frame, ↓State.crownDieLost_frame, ↓State.ispLost_frame, implies_true, eq_self,
      Nat.reduceAnd]
    | split | dsimp only)
@[simp ↓] theorem State.failover_frame (s) (a1) {H : Nat} (h : H &&& 2751442430 = 2751442430) :
    (State.failover s a1).without H = s.without H := by
  refine lift h ?_
  unfold State.failover
  repeat' (first
    | with_reducible rfl | with_reducible (refine without_ite ?_ ?_) | with_reducible (refine (foldl_frame _ (fun a x => ?_) _ _).trans ?_) | with_reducible (refine (foldl_fst_frame _ (fun a x => ?_) _ _).trans ?_)
    | simp only [↓State.crownRetire_frame, ↓State.raise_frame, ↓State.graftFailover_frame, ↓State.modPartition_frame,
      ↓State.staleOwned_frame, ↓State.partitionLost_frame, ↓State.drawNat_frame, ↓without_keeper, Nat.reduceAnd]
    | split | dsimp only)
@[simp ↓] theorem State.restorePart_frame (s) (a1) {H : Nat} (h : H &&& 2 = 2) :
    (State.restorePart s a1).without H = s.without H := by
  refine lift h ?_
  unfold State.restorePart
  repeat' (first
    | with_reducible rfl | with_reducible (refine without_ite ?_ ?_)
    | simp only [↓State.modPartition_frame, ↓State.modWin_frame, Nat.reduceAnd]
    | split | dsimp only)
@[simp ↓] theorem State.failoverDone_frame (s) (a1) {H : Nat} (h : H &&& 2 = 2) :
    (State.failoverDone s a1).without H = s.without H := by
  refine lift h ?_
  unfold State.failoverDone
  repeat' (first
    | with_reducible rfl | with_reducible (refine without_ite ?_ ?_) | with_reducible (refine (foldl_frame _ (fun a x => ?_) _ _).trans ?_) | with_reducible (refine (foldl_fst_frame _ (fun a x => ?_) _ _).trans ?_)
    | simp only [↓State.postAll_frame, ↓State.restorePart_frame, ↓without_keeper, Nat.reduceAnd]
    | split | dsimp only)
@[simp ↓] theorem State.failoverEnd_frame (s) {H : Nat} (h : H &&& 2 = 2) :
    (State.failoverEnd s).without H = s.without H := by
  refine lift h ?_
  unfold State.failoverEnd
  repeat' (first
    | with_reducible rfl | with_reducible (refine without_ite ?_ ?_) | with_reducible (refine (foldl_frame _ (fun a x => ?_) _ _).trans ?_) | with_reducible (refine (foldl_fst_frame _ (fun a x => ?_) _ _).trans ?_)
    | simp only [↓State.failoverDone_frame, Nat.reduceAnd]
    | split | dsimp only)
@[simp ↓] theorem State.onlyDieLost_frame (s) (a1) {H : Nat} (h : H &&& 603958782 = 603958782) :
    (State.onlyDieLost s a1).without H = s.without H := by
  refine lift h ?_
  unfold State.onlyDieLost
  repeat' (first
    | with_reducible rfl | with_reducible (refine without_ite ?_ ?_) | with_reducible (refine (foldl_frame _ (fun a x => ?_) _ _).trans ?_) | with_reducible (refine (foldl_fst_frame _ (fun a x => ?_) _ _).trans ?_)
    | simp only [↓State.graftFailover_frame, ↓State.partitionLost_frame, ↓State.raise_frame, ↓State.crownRetire_frame,
      Nat.reduceAnd]
    | split | dsimp only)
@[simp ↓] theorem State.modJtag_frame (s) (a1) {H : Nat} (h : H &&& 134217728 = 134217728) :
    (State.modJtag s a1).without H = s.without H := by
  refine lift h ?_
  unfold State.modJtag
  repeat' (first
    | with_reducible rfl | with_reducible (refine without_ite ?_ ?_)
    | simp only [↓without_jtag, Nat.reduceAnd]
    | split | dsimp only)
@[simp ↓] theorem State.asBypass_frame (s) (a1) {H : Nat} (h : H &&& 134217728 = 134217728) :
    (State.asBypass s a1).without H = s.without H := by
  refine lift h ?_
  unfold State.asBypass
  repeat' (first
    | with_reducible rfl | with_reducible (refine without_ite ?_ ?_)
    | simp only [↓State.modJtag_frame, Nat.reduceAnd]
    | split | dsimp only)
@[simp ↓] theorem State.refuse_frame (s) (a1) (a2) {H : Nat} (h : H &&& 2 = 2) :
    (State.refuse s a1 a2).without H = s.without H := by
  refine lift h ?_
  unfold State.refuse
  repeat' (first
    | with_reducible rfl | with_reducible (refine without_ite ?_ ?_)
    | simp only [↓State.answer_frame, Nat.reduceAnd]
    | split | dsimp only)
@[simp ↓] theorem State.drainWin_frame (s) (a1) {H : Nat} (h : H &&& 2 = 2) :
    (State.drainWin s a1).without H = s.without H := by
  refine lift h ?_
  unfold State.drainWin
  repeat' (first
    | with_reducible rfl | with_reducible (refine without_ite ?_ ?_)
    | simp only [↓State.modWin_frame, Nat.reduceAnd]
    | split | dsimp only)
@[simp ↓] theorem State.ringError_frame (s) (a1) (a2) (a3) (a4) {H : Nat} (h : H &&& 2 = 2) :
    (State.ringError s a1 a2 a3 a4).without H = s.without H := by
  refine lift h ?_
  unfold State.ringError
  repeat' (first
    | with_reducible rfl | with_reducible (refine without_ite ?_ ?_)
    | simp only [↓State.postIn_frame, Nat.reduceAnd]
    | split | dsimp only)
@[simp ↓] theorem State.evtConsWrite_frame (s) (a1) (a2) {H : Nat} (h : H &&& 2 = 2) :
    (State.evtConsWrite s a1 a2).without H = s.without H := by
  refine lift h ?_
  unfold State.evtConsWrite
  repeat' (first
    | with_reducible rfl | with_reducible (refine without_ite ?_ ?_)
    | simp only [↓State.eventsLost_frame, ↓State.modWin_frame, ↓State.ringError_frame, Nat.reduceAnd]
    | split | dsimp only)
@[simp ↓] theorem State.irqClear_frame (s) (a1) (a2) {H : Nat} (h : H &&& 2 = 2) :
    (State.irqClear s a1 a2).without H = s.without H := by
  refine lift h ?_
  unfold State.irqClear
  repeat' (first
    | with_reducible rfl | with_reducible (refine without_ite ?_ ?_)
    | simp only [↓State.modWin_frame, Nat.reduceAnd]
    | split | dsimp only)
@[simp ↓] theorem State.hostHbWrite_frame (s) (a1) (a2) {H : Nat} (h : H &&& 18948106 = 18948106) :
    (State.hostHbWrite s a1 a2).without H = s.without H := by
  refine lift h ?_
  unfold State.hostHbWrite
  repeat' (first
    | with_reducible rfl | with_reducible (refine without_ite ?_ ?_)
    | simp only [↓State.fanHeartbeat_frame, ↓State.modWin_frame, Nat.reduceAnd]
    | split | dsimp only)
@[simp ↓] theorem State.snapWrite_frame (s) (a1) {H : Nat} (h : H &&& 2 = 2) :
    (State.snapWrite s a1).without H = s.without H := by
  refine lift h ?_
  unfold State.snapWrite
  repeat' (first
    | with_reducible rfl | with_reducible (refine without_ite ?_ ?_)
    | simp only [↓State.modWin_frame, Nat.reduceAnd]
    | split | dsimp only)
@[simp ↓] theorem State.blockWrite_frame (s) (a1) (a2) {H : Nat} (h : H &&& 2097152 = 2097152) :
    (State.blockWrite s a1 a2).without H = s.without H := by
  refine lift h ?_
  unfold State.blockWrite
  repeat' (first
    | with_reducible rfl | with_reducible (refine without_ite ?_ ?_)
    | simp only [↓State.faultcutWrite_frame, ↓State.faultmapWrite_frame, Nat.reduceAnd]
    | split | dsimp only)

end Sys2Proof.Machine
end

