-- ==== Sys2Proof/Laws/FrameVerb0.lean ====
section
/-! SUPPORT. Laws/FrameVerb0.lean: what the effect of each mailbox verb leaves alone. A mask has a bit for each piece of `Piece`. -/

set_option linter.all false

namespace Sys2Proof.Machine
@[simp] theorem verbLossStatus_frame  {H : Nat} (h : H &&& 0 = 0) : verbLossStatus.Keeps H := by
  intro r s
  refine lift h ?_
  unfold verbLossStatus
  dsimp only
  repeat' (first
    | with_reducible rfl | with_reducible (refine without_ite ?_ ?_) | with_reducible (refine without_ite_fst ?_ ?_)
    | simp only [Nat.reduceAnd]
    | split | dsimp only)
@[simp] theorem verbLossConfig_frame  {H : Nat} (h : H &&& 536870944 = 536870944) : verbLossConfig.Keeps H := by
  intro r s
  refine lift h ?_
  unfold verbLossConfig
  dsimp only
  repeat' (first
    | with_reducible rfl | with_reducible (refine without_ite ?_ ?_) | with_reducible (refine without_ite_fst ?_ ?_)
    | simp only [↓State.dirty_frame, ↓State.modLoss_frame, Nat.reduceAnd]
    | split | dsimp only)
@[simp] theorem verbLossTemplates_frame  {H : Nat} (h : H &&& 536870946 = 536870946) : verbLossTemplates.Keeps H := by
  intro r s
  refine lift h ?_
  unfold verbLossTemplates
  dsimp only
  repeat' (first
    | with_reducible rfl | with_reducible (refine without_ite ?_ ?_) | with_reducible (refine without_ite_fst ?_ ?_)
    | simp only [↓State.regionDone_frame, ↓State.dirty_frame, ↓State.modLoss_frame, ↓State.complete_frame, Nat.reduceAnd]
    | split | dsimp only)
@[simp] theorem verbLossSnip_frame  {H : Nat} (h : H &&& 34 = 34) : verbLossSnip.Keeps H := by
  intro r s
  refine lift h ?_
  unfold verbLossSnip
  dsimp only
  repeat' (first
    | with_reducible rfl | with_reducible (refine without_ite ?_ ?_) | with_reducible (refine without_ite_fst ?_ ?_)
    | simp only [↓State.modLoss_frame, ↓State.regionBegin_frame, Nat.reduceAnd]
    | split | dsimp only)
@[simp] theorem verbHostbuf_frame (a0) {H : Nat} (h : H &&& 536870944 = 536870944) : (verbHostbuf a0).Keeps H := by
  intro r s
  refine lift h ?_
  unfold verbHostbuf
  dsimp only
  repeat' (first
    | with_reducible rfl | with_reducible (refine without_ite ?_ ?_) | with_reducible (refine without_ite_fst ?_ ?_)
    | simp only [↓State.dirty_frame, ↓State.modSense_frame, Nat.reduceAnd]
    | split | dsimp only)
@[simp] theorem verbResult_frame (a0) {H : Nat} (h : H &&& 4114 = 4114) : (verbResult a0).Keeps H := by
  intro r s
  refine lift h ?_
  unfold verbResult
  dsimp only
  repeat' (first
    | with_reducible rfl | with_reducible (refine without_ite ?_ ?_) | with_reducible (refine without_ite_fst ?_ ?_) | with_reducible (refine (foldl_frame _ (fun a x => ?_) _ _).trans ?_) | with_reducible (refine (foldl_fst_frame _ (fun a x => ?_) _ _).trans ?_)
    | simp only [↓State.senseApply_frame, Nat.reduceAnd]
    | split | dsimp only)
@[simp] theorem verbBridgeConfig_frame  {H : Nat} (h : H &&& 536870970 = 536870970) : verbBridgeConfig.Keeps H := by
  intro r s
  refine lift h ?_
  unfold verbBridgeConfig
  dsimp only
  repeat' (first
    | with_reducible rfl | with_reducible (refine without_ite ?_ ?_) | with_reducible (refine without_ite_fst ?_ ?_)
    | simp only [↓State.tareEnd_frame, ↓State.modBridge_frame, ↓State.clearFault_frame, ↓State.zeroSigs_frame,
      ↓State.dirty_frame, Nat.reduceAnd]
    | split | dsimp only)
@[simp] theorem verbBridgeTare_frame  {H : Nat} (h : H &&& 536870944 = 536870944) : verbBridgeTare.Keeps H := by
  intro r s
  refine lift h ?_
  unfold verbBridgeTare
  dsimp only
  repeat' (first
    | with_reducible rfl | with_reducible (refine without_ite ?_ ?_) | with_reducible (refine without_ite_fst ?_ ?_)
    | simp only [↓State.dirty_frame, ↓State.modBridge_frame, Nat.reduceAnd]
    | split | dsimp only)
@[simp] theorem verbBridgeStatus_frame  {H : Nat} (h : H &&& 0 = 0) : verbBridgeStatus.Keeps H := by
  intro r s
  refine lift h ?_
  unfold verbBridgeStatus
  dsimp only
  repeat' (first
    | with_reducible rfl | with_reducible (refine without_ite ?_ ?_) | with_reducible (refine without_ite_fst ?_ ?_)
    | simp only [Nat.reduceAnd]
    | split | dsimp only)
@[simp] theorem verbSupConfig_frame  {H : Nat} (h : H &&& 536870970 = 536870970) : verbSupConfig.Keeps H := by
  intro r s
  refine lift h ?_
  unfold verbSupConfig
  dsimp only
  repeat' (first
    | with_reducible rfl | with_reducible (refine without_ite ?_ ?_) | with_reducible (refine without_ite_fst ?_ ?_)
    | simp only [↓State.modSup_frame, ↓State.clearFault_frame, ↓State.supFaultLinked_frame, ↓State.dirty_frame,
      Nat.reduceAnd]
    | split | dsimp only)
@[simp] theorem verbAinConfig_frame  {H : Nat} (h : H &&& 536870970 = 536870970) : verbAinConfig.Keeps H := by
  intro r s
  refine lift h ?_
  unfold verbAinConfig
  dsimp only
  repeat' (first
    | with_reducible rfl | with_reducible (refine without_ite ?_ ?_) | with_reducible (refine without_ite_fst ?_ ?_)
    | simp only [↓State.modSense_frame, ↓State.clearFault_frame, ↓State.zeroSigs_frame, ↓State.dirty_frame, Nat.reduceAnd]
    | split | dsimp only)
@[simp] theorem verbFreqConfig_frame  {H : Nat} (h : H &&& 536870970 = 536870970) : verbFreqConfig.Keeps H := by
  intro r s
  refine lift h ?_
  unfold verbFreqConfig
  dsimp only
  repeat' (first
    | with_reducible rfl | with_reducible (refine without_ite ?_ ?_) | with_reducible (refine without_ite_fst ?_ ?_)
    | simp only [↓State.modSense_frame, ↓State.clearFault_frame, ↓State.modFreq_frame, ↓State.zeroSigs_frame,
      ↓State.dirty_frame, Nat.reduceAnd]
    | split | dsimp only)
@[simp] theorem verbNmStatus_frame  {H : Nat} (h : H &&& 0 = 0) : verbNmStatus.Keeps H := by
  intro r s
  refine lift h ?_
  unfold verbNmStatus
  dsimp only
  repeat' (first
    | with_reducible rfl | with_reducible (refine without_ite ?_ ?_) | with_reducible (refine without_ite_fst ?_ ?_)
    | simp only [Nat.reduceAnd]
    | split | dsimp only)
@[simp] theorem verbNmWakeCause_frame  {H : Nat} (h : H &&& 0 = 0) : verbNmWakeCause.Keeps H := by
  intro r s
  refine lift h ?_
  unfold verbNmWakeCause
  dsimp only
  repeat' (first
    | with_reducible rfl | with_reducible (refine without_ite ?_ ?_) | with_reducible (refine without_ite_fst ?_ ?_)
    | simp only [Nat.reduceAnd]
    | split | dsimp only)
@[simp] theorem verbNmConfig_frame  {H : Nat} (h : H &&& 538705930 = 538705930) : verbNmConfig.Keeps H := by
  intro r s
  refine lift h ?_
  unfold verbNmConfig
  dsimp only
  repeat' (first
    | with_reducible rfl | with_reducible (refine without_ite ?_ ?_) | with_reducible (refine without_ite_fst ?_ ?_) | with_reducible (refine (foldl_frame _ (fun a x => ?_) _ _).trans ?_) | with_reducible (refine (foldl_fst_frame _ (fun a x => ?_) _ _).trans ?_)
    | simp only [↓State.portWake_frame, ↓State.canWake_frame, ↓State.nmState_frame, ↓State.modNet_frame,
      ↓State.dirty_frame, ↓State.clearFault_frame, ↓State.nmEval_frame, ↓State.nmAlive_frame, Nat.reduceAnd]
    | split | dsimp only)
@[simp] theorem verbNmRequest_frame  {H : Nat} (h : H &&& 1835010 = 1835010) : verbNmRequest.Keeps H := by
  intro r s
  refine lift h ?_
  unfold verbNmRequest
  dsimp only
  repeat' (first
    | with_reducible rfl | with_reducible (refine without_ite ?_ ?_) | with_reducible (refine without_ite_fst ?_ ?_)
    | simp only [↓State.modNet_frame, ↓State.nmEval_frame, Nat.reduceAnd]
    | split | dsimp only)
@[simp] theorem verbNmCanwake_frame  {H : Nat} (h : H &&& 537133056 = 537133056) : verbNmCanwake.Keeps H := by
  intro r s
  refine lift h ?_
  unfold verbNmCanwake
  dsimp only
  repeat' (first
    | with_reducible rfl | with_reducible (refine without_ite ?_ ?_) | with_reducible (refine without_ite_fst ?_ ?_)
    | simp only [↓State.dirty_frame, ↓State.modCan_frame, Nat.reduceAnd]
    | split | dsimp only)
@[simp] theorem verbCanPantry_frame  {H : Nat} (h : H &&& 537133058 = 537133058) : verbCanPantry.Keeps H := by
  intro r s
  refine lift h ?_
  unfold verbCanPantry
  dsimp only
  repeat' (first
    | with_reducible rfl | with_reducible (refine without_ite ?_ ?_) | with_reducible (refine without_ite_fst ?_ ?_)
    | simp only [↓State.regionDone_frame, ↓State.regionWrite_frame, ↓State.dirty_frame, ↓without_can, Nat.reduceAnd]
    | split | dsimp only)
@[simp] theorem verbCtrlU_frame  {H : Nat} (h : H &&& 33566934 = 33566934) : verbCtrlU.Keeps H := by
  intro r s
  refine lift h ?_
  unfold verbCtrlU
  dsimp only
  repeat' (first
    | with_reducible rfl | with_reducible (refine without_ite ?_ ?_) | with_reducible (refine without_ite_fst ?_ ?_)
    | simp only [↓State.prevResult_frame, ↓State.hostResult_frame, ↓State.modLoop_frame, ↓State.hostRelease_frame,
      ↓State.waitTo_frame, Nat.reduceAnd]
    | split | dsimp only)
@[simp] theorem verbCtrlHostbuf_frame  {H : Nat} (h : H &&& 536870976 = 536870976) : verbCtrlHostbuf.Keeps H := by
  intro r s
  refine lift h ?_
  unfold verbCtrlHostbuf
  dsimp only
  repeat' (first
    | with_reducible rfl | with_reducible (refine without_ite ?_ ?_) | with_reducible (refine without_ite_fst ?_ ?_)
    | simp only [↓State.dirty_frame, ↓without_ctrl, Nat.reduceAnd]
    | split | dsimp only)
@[simp] theorem verbCtrlLoad_frame  {H : Nat} (h : H &&& 66 = 66) : verbCtrlLoad.Keeps H := by
  intro r s
  refine lift h ?_
  unfold verbCtrlLoad
  dsimp only
  repeat' (first
    | with_reducible rfl | with_reducible (refine without_ite ?_ ?_) | with_reducible (refine without_ite_fst ?_ ?_) | with_reducible (refine (foldl_frame _ (fun a x => ?_) _ _).trans ?_) | with_reducible (refine (foldl_fst_frame _ (fun a x => ?_) _ _).trans ?_)
    | simp only [↓State.regionDone_frame, ↓State.loopToHw_frame, ↓State.slotState_frame, ↓State.modLoop_frame,
      ↓without_ctrl, Nat.reduceAnd]
    | split | dsimp only)
@[simp] theorem verbCtrlEnable_frame  {H : Nat} (h : H &&& 64 = 64) : verbCtrlEnable.Keeps H := by
  intro r s
  refine lift h ?_
  unfold verbCtrlEnable
  dsimp only
  repeat' (first
    | with_reducible rfl | with_reducible (refine without_ite ?_ ?_) | with_reducible (refine without_ite_fst ?_ ?_)
    | simp only [↓State.modLoop_frame, Nat.reduceAnd]
    | split | dsimp only)
@[simp] theorem verbCtrlDisable_frame  {H : Nat} (h : H &&& 64 = 64) : verbCtrlDisable.Keeps H := by
  intro r s
  refine lift h ?_
  unfold verbCtrlDisable
  dsimp only
  repeat' (first
    | with_reducible rfl | with_reducible (refine without_ite ?_ ?_) | with_reducible (refine without_ite_fst ?_ ?_)
    | simp only [↓State.modLoop_frame, Nat.reduceAnd]
    | split | dsimp only)
@[simp] theorem verbCtrlSetpoint_frame  {H : Nat} (h : H &&& 64 = 64) : verbCtrlSetpoint.Keeps H := by
  intro r s
  refine lift h ?_
  unfold verbCtrlSetpoint
  dsimp only
  repeat' (first
    | with_reducible rfl | with_reducible (refine without_ite ?_ ?_) | with_reducible (refine without_ite_fst ?_ ?_)
    | simp only [↓State.modLoop_frame, Nat.reduceAnd]
    | split | dsimp only)
@[simp] theorem verbCtrlStatus_frame  {H : Nat} (h : H &&& 0 = 0) : verbCtrlStatus.Keeps H := by
  intro r s
  refine lift h ?_
  unfold verbCtrlStatus
  dsimp only
  repeat' (first
    | with_reducible rfl | with_reducible (refine without_ite ?_ ?_) | with_reducible (refine without_ite_fst ?_ ?_)
    | simp only [Nat.reduceAnd]
    | split | dsimp only)
@[simp] theorem verbCtrlTrace_frame  {H : Nat} (h : H &&& 66 = 66) : verbCtrlTrace.Keeps H := by
  intro r s
  refine lift h ?_
  unfold verbCtrlTrace
  dsimp only
  repeat' (first
    | with_reducible rfl | with_reducible (refine without_ite ?_ ?_) | with_reducible (refine without_ite_fst ?_ ?_)
    | simp only [↓State.modTrace_frame, ↓State.traceStop_frame, Nat.reduceAnd]
    | split | dsimp only)
@[simp] theorem verbCtrlTraceRead_frame  {H : Nat} (h : H &&& 66 = 66) : verbCtrlTraceRead.Keeps H := by
  intro r s
  refine lift h ?_
  unfold verbCtrlTraceRead
  dsimp only
  repeat' (first
    | with_reducible rfl | with_reducible (refine without_ite ?_ ?_) | with_reducible (refine without_ite_fst ?_ ?_)
    | simp only [↓State.modTrace_frame, ↓State.regionBegin_frame, Nat.reduceAnd]
    | split | dsimp only)
@[simp] theorem verbValveDuty_frame  {H : Nat} (h : H &&& 130 = 130) : verbValveDuty.Keeps H := by
  intro r s
  refine lift h ?_
  unfold verbValveDuty
  dsimp only
  repeat' (first
    | with_reducible rfl | with_reducible (refine without_ite ?_ ?_) | with_reducible (refine without_ite_fst ?_ ?_)
    | simp only [↓State.hostResult_frame, ↓State.bankHs_frame, ↓State.modValve_frame, Nat.reduceAnd]
    | split | dsimp only)
@[simp] theorem verbValveConfig_frame  {H : Nat} (h : H &&& 536871042 = 536871042) : verbValveConfig.Keeps H := by
  intro r s
  refine lift h ?_
  unfold verbValveConfig
  dsimp only
  repeat' (first
    | with_reducible rfl | with_reducible (refine without_ite ?_ ?_) | with_reducible (refine without_ite_fst ?_ ?_)
    | simp only [↓State.dirty_frame, ↓State.modBank_frame, ↓State.modBoost_frame, ↓State.modValve_frame,
      ↓State.valveToHw_frame, ↓State.bankHs_frame, Nat.reduceAnd]
    | split | dsimp only)
@[simp] theorem verbValveSet_frame  {H : Nat} (h : H &&& 130 = 130) : verbValveSet.Keeps H := by
  intro r s
  refine lift h ?_
  unfold verbValveSet
  dsimp only
  repeat' (first
    | with_reducible rfl | with_reducible (refine without_ite ?_ ?_) | with_reducible (refine without_ite_fst ?_ ?_)
    | simp only [↓State.bankHs_frame, ↓State.modValve_frame, ↓State.dropReq_frame, ↓State.valveOff_frame,
      ↓State.valveEnter_frame, Nat.reduceAnd]
    | split | dsimp only)
@[simp] theorem verbValveClear_frame  {H : Nat} (h : H &&& 138 = 138) : verbValveClear.Keeps H := by
  intro r s
  refine lift h ?_
  unfold verbValveClear
  dsimp only
  repeat' (first
    | with_reducible rfl | with_reducible (refine without_ite ?_ ?_) | with_reducible (refine without_ite_fst ?_ ?_) | with_reducible (refine (foldl_frame _ (fun a x => ?_) _ _).trans ?_) | with_reducible (refine (foldl_fst_frame _ (fun a x => ?_) _ _).trans ?_)
    | simp only [↓State.clearFault_frame, ↓State.modBank_frame, ↓State.modValve_frame, ↓State.bankHs_frame,
      ↓State.modBoost_frame, Nat.reduceAnd]
    | split | dsimp only)
@[simp] theorem verbValveStatus_frame  {H : Nat} (h : H &&& 0 = 0) : verbValveStatus.Keeps H := by
  intro r s
  refine lift h ?_
  unfold verbValveStatus
  dsimp only
  repeat' (first
    | with_reducible rfl | with_reducible (refine without_ite ?_ ?_) | with_reducible (refine without_ite_fst ?_ ?_)
    | simp only [Nat.reduceAnd]
    | split | dsimp only)
@[simp] theorem verbTimeRole_frame  {H : Nat} (h : H &&& 536870926 = 536870926) : verbTimeRole.Keeps H := by
  intro r s
  refine lift h ?_
  unfold verbTimeRole
  dsimp only
  repeat' (first
    | with_reducible rfl | with_reducible (refine without_ite ?_ ?_) | with_reducible (refine without_ite_fst ?_ ?_)
    | simp only [↓State.timeFollow_frame, ↓State.clearFault_frame, ↓State.timeUnfollow_frame, ↓State.dirty_frame,
      ↓without_time, Nat.reduceAnd]
    | split | dsimp only)
@[simp] theorem verbGnssStatus_frame  {H : Nat} (h : H &&& 0 = 0) : verbGnssStatus.Keeps H := by
  intro r s
  refine lift h ?_
  unfold verbGnssStatus
  dsimp only
  repeat' (first
    | with_reducible rfl | with_reducible (refine without_ite ?_ ?_) | with_reducible (refine without_ite_fst ?_ ?_)
    | simp only [Nat.reduceAnd]
    | split | dsimp only)
@[simp] theorem verbGnssFix_frame  {H : Nat} (h : H &&& 0 = 0) : verbGnssFix.Keeps H := by
  intro r s
  refine lift h ?_
  unfold verbGnssFix
  dsimp only
  repeat' (first
    | with_reducible rfl | with_reducible (refine without_ite ?_ ?_) | with_reducible (refine without_ite_fst ?_ ?_)
    | simp only [Nat.reduceAnd]
    | split | dsimp only)
@[simp] theorem verbGnssConfig_frame  {H : Nat} (h : H &&& 536871168 = 536871168) : verbGnssConfig.Keeps H := by
  intro r s
  refine lift h ?_
  unfold verbGnssConfig
  dsimp only
  repeat' (first
    | with_reducible rfl | with_reducible (refine without_ite ?_ ?_) | with_reducible (refine without_ite_fst ?_ ?_)
    | simp only [↓State.dirty_frame, ↓State.modGnss_frame, Nat.reduceAnd]
    | split | dsimp only)
@[simp] theorem verbGnssAntenna_frame  {H : Nat} (h : H &&& 536871178 = 536871178) : verbGnssAntenna.Keeps H := by
  intro r s
  refine lift h ?_
  unfold verbGnssAntenna
  dsimp only
  repeat' (first
    | with_reducible rfl | with_reducible (refine without_ite ?_ ?_) | with_reducible (refine without_ite_fst ?_ ?_)
    | simp only [↓State.modAnt_frame, ↓State.clearFault_frame, ↓State.dirty_frame, Nat.reduceAnd]
    | split | dsimp only)
@[simp] theorem verbGnssCorr_frame  {H : Nat} (h : H &&& 536871168 = 536871168) : verbGnssCorr.Keeps H := by
  intro r s
  refine lift h ?_
  unfold verbGnssCorr
  dsimp only
  repeat' (first
    | with_reducible rfl | with_reducible (refine without_ite ?_ ?_) | with_reducible (refine without_ite_fst ?_ ?_)
    | simp only [↓State.dirty_frame, ↓State.modGnss_frame, Nat.reduceAnd]
    | split | dsimp only)
@[simp] theorem verbGnssRtcm_frame  {H : Nat} (h : H &&& 256 = 256) : verbGnssRtcm.Keeps H := by
  intro r s
  refine lift h ?_
  unfold verbGnssRtcm
  dsimp only
  repeat' (first
    | with_reducible rfl | with_reducible (refine without_ite ?_ ?_) | with_reducible (refine without_ite_fst ?_ ?_)
    | simp only [↓State.rtcmFeed_frame, Nat.reduceAnd]
    | split | dsimp only)
@[simp] theorem verbGnssOrigin_frame  {H : Nat} (h : H &&& 536871168 = 536871168) : verbGnssOrigin.Keeps H := by
  intro r s
  refine lift h ?_
  unfold verbGnssOrigin
  dsimp only
  repeat' (first
    | with_reducible rfl | with_reducible (refine without_ite ?_ ?_) | with_reducible (refine without_ite_fst ?_ ?_)
    | simp only [↓State.dirty_frame, ↓State.modGnss_frame, Nat.reduceAnd]
    | split | dsimp only)
@[simp] theorem verbGnssLine_frame  {H : Nat} (h : H &&& 536871168 = 536871168) : verbGnssLine.Keeps H := by
  intro r s
  refine lift h ?_
  unfold verbGnssLine
  dsimp only
  repeat' (first
    | with_reducible rfl | with_reducible (refine without_ite ?_ ?_) | with_reducible (refine without_ite_fst ?_ ?_)
    | simp only [↓State.dirty_frame, ↓State.modGnss_frame, Nat.reduceAnd]
    | split | dsimp only)

end Sys2Proof.Machine
end

