-- ==== Sys2Proof/Laws/FrameVerb1.lean ====
section
/-! SUPPORT. Laws/FrameVerb1.lean: what the effect of each mailbox verb leaves alone. A mask has a bit for each piece of `Piece`. -/

set_option linter.all false

namespace Sys2Proof.Machine
@[simp] theorem verbGnssGuard_frame  {H : Nat} (h : H &&& 536871168 = 536871168) : verbGnssGuard.Keeps H := by
  intro r s
  refine lift h ?_
  unfold verbGnssGuard
  dsimp only
  repeat' (first
    | with_reducible rfl | with_reducible (refine without_ite ?_ ?_) | with_reducible (refine without_ite_fst ?_ ?_)
    | simp only [↓State.dirty_frame, ↓State.modGnss_frame, Nat.reduceAnd]
    | split | dsimp only)
@[simp] theorem verbGnssHostbuf_frame  {H : Nat} (h : H &&& 536871168 = 536871168) : verbGnssHostbuf.Keeps H := by
  intro r s
  refine lift h ?_
  unfold verbGnssHostbuf
  dsimp only
  repeat' (first
    | with_reducible rfl | with_reducible (refine without_ite ?_ ?_) | with_reducible (refine without_ite_fst ?_ ?_)
    | simp only [↓State.dirty_frame, ↓State.modGnss_frame, Nat.reduceAnd]
    | split | dsimp only)
@[simp] theorem verbGnssSolution_frame  {H : Nat} (h : H &&& 18878750 = 18878750) : verbGnssSolution.Keeps H := by
  intro r s
  refine lift h ?_
  unfold verbGnssSolution
  dsimp only
  repeat' (first
    | with_reducible rfl | with_reducible (refine without_ite ?_ ?_) | with_reducible (refine without_ite_fst ?_ ?_)
    | simp only [↓State.agrees_frame, ↓State.unfix_frame, ↓State.modHost_frame, ↓State.excludeSolution_frame,
      ↓State.holdEpoch_frame, ↓State.hostResult_frame, ↓State.acceptEpoch_frame, Nat.reduceAnd]
    | split | dsimp only)
@[simp] theorem verbImuStatus_frame  {H : Nat} (h : H &&& 0 = 0) : verbImuStatus.Keeps H := by
  intro r s
  refine lift h ?_
  unfold verbImuStatus
  dsimp only
  repeat' (first
    | with_reducible rfl | with_reducible (refine without_ite ?_ ?_) | with_reducible (refine without_ite_fst ?_ ?_)
    | simp only [Nat.reduceAnd]
    | split | dsimp only)
@[simp] theorem verbImuConfig_frame  {H : Nat} (h : H &&& 536871424 = 536871424) : verbImuConfig.Keeps H := by
  intro r s
  refine lift h ?_
  unfold verbImuConfig
  dsimp only
  repeat' (first
    | with_reducible rfl | with_reducible (refine without_ite ?_ ?_) | with_reducible (refine without_ite_fst ?_ ?_)
    | simp only [↓State.dirty_frame, ↓State.modImu_frame, Nat.reduceAnd]
    | split | dsimp only)
@[simp] theorem verbCamBackch_frame  {H : Nat} (h : H &&& 1024 = 1024) : verbCamBackch.Keeps H := by
  intro r s
  refine lift h ?_
  unfold verbCamBackch
  dsimp only
  repeat' (first
    | with_reducible rfl | with_reducible (refine without_ite ?_ ?_) | with_reducible (refine without_ite_fst ?_ ?_)
    | simp only [↓State.modPort_frame, Nat.reduceAnd]
    | split | dsimp only)
@[simp] theorem verbCamStatus_frame  {H : Nat} (h : H &&& 0 = 0) : verbCamStatus.Keeps H := by
  intro r s
  refine lift h ?_
  unfold verbCamStatus
  dsimp only
  repeat' (first
    | with_reducible rfl | with_reducible (refine without_ite ?_ ?_) | with_reducible (refine without_ite_fst ?_ ?_)
    | simp only [Nat.reduceAnd]
    | split | dsimp only)
@[simp] theorem verbCamConfig_frame  {H : Nat} (h : H &&& 536880138 = 536880138) : verbCamConfig.Keeps H := by
  intro r s
  refine lift h ?_
  unfold verbCamConfig
  dsimp only
  repeat' (first
    | with_reducible rfl | with_reducible (refine without_ite ?_ ?_) | with_reducible (refine without_ite_fst ?_ ?_) | with_reducible (refine (foldl_frame _ (fun a x => ?_) _ _).trans ?_) | with_reducible (refine (foldl_fst_frame _ (fun a x => ?_) _ _).trans ?_)
    | simp only [↓State.tapsEnd_frame, ↓State.modPort_frame, ↓State.clearFault_frame, ↓State.dirty_frame,
      ↓State.lampApply_frame, Nat.reduceAnd]
    | split | dsimp only)
@[simp] theorem verbCamSensor_frame  {H : Nat} (h : H &&& 536880138 = 536880138) : verbCamSensor.Keeps H := by
  intro r s
  refine lift h ?_
  unfold verbCamSensor
  dsimp only
  repeat' (first
    | with_reducible rfl | with_reducible (refine without_ite ?_ ?_) | with_reducible (refine without_ite_fst ?_ ?_) | with_reducible (refine (foldl_frame _ (fun a x => ?_) _ _).trans ?_) | with_reducible (refine (foldl_fst_frame _ (fun a x => ?_) _ _).trans ?_)
    | simp only [↓State.tapEnd_frame, ↓State.clearFault_frame, ↓State.modCamSensor_frame, ↓State.dirty_frame,
      ↓State.lampApply_frame, ↓State.lampShutter_frame, Nat.reduceAnd]
    | split | dsimp only)
@[simp] theorem verbCamIsp_frame  {H : Nat} (h : H &&& 536871938 = 536871938) : verbCamIsp.Keeps H := by
  intro r s
  refine lift h ?_
  unfold verbCamIsp
  dsimp only
  repeat' (first
    | with_reducible rfl | with_reducible (refine without_ite ?_ ?_) | with_reducible (refine without_ite_fst ?_ ?_)
    | simp only [↓State.regionDone_frame, ↓State.dirty_frame, ↓State.modCamSensor_frame, Nat.reduceAnd]
    | split | dsimp only)
@[simp] theorem verbCamTap_frame  {H : Nat} (h : H &&& 1026 = 1026) : verbCamTap.Keeps H := by
  intro r s
  refine lift h ?_
  unfold verbCamTap
  dsimp only
  repeat' (first
    | with_reducible rfl | with_reducible (refine without_ite ?_ ?_) | with_reducible (refine without_ite_fst ?_ ?_)
    | simp only [↓State.regionBegin_frame, ↓State.modPort_frame, Nat.reduceAnd]
    | split | dsimp only)
@[simp] theorem verbCamLamp_frame  {H : Nat} (h : H &&& 536880138 = 536880138) : verbCamLamp.Keeps H := by
  intro r s
  refine lift h ?_
  unfold verbCamLamp
  dsimp only
  repeat' (first
    | with_reducible rfl | with_reducible (refine without_ite ?_ ?_) | with_reducible (refine without_ite_fst ?_ ?_)
    | simp only [↓State.dirty_frame, ↓State.lampUnbind_frame, ↓State.modLamp_frame, ↓State.lampApply_frame, Nat.reduceAnd]
    | split | dsimp only)
@[simp] theorem verbCamExposure_frame  {H : Nat} (h : H &&& 536871936 = 536871936) : verbCamExposure.Keeps H := by
  intro r s
  refine lift h ?_
  unfold verbCamExposure
  dsimp only
  repeat' (first
    | with_reducible rfl | with_reducible (refine without_ite ?_ ?_) | with_reducible (refine without_ite_fst ?_ ?_)
    | simp only [↓State.modCamSensor_frame, ↓State.dirty_frame, Nat.reduceAnd]
    | split | dsimp only)
@[simp] theorem verbCamHostbuf_frame  {H : Nat} (h : H &&& 536871936 = 536871936) : verbCamHostbuf.Keeps H := by
  intro r s
  refine lift h ?_
  unfold verbCamHostbuf
  dsimp only
  repeat' (first
    | with_reducible rfl | with_reducible (refine without_ite ?_ ?_) | with_reducible (refine without_ite_fst ?_ ?_)
    | simp only [↓State.dirty_frame, ↓State.modPort_frame, Nat.reduceAnd]
    | split | dsimp only)
@[simp] theorem verbCamLampSet_frame  {H : Nat} (h : H &&& 9218 = 9218) : verbCamLampSet.Keeps H := by
  intro r s
  refine lift h ?_
  unfold verbCamLampSet
  dsimp only
  repeat' (first
    | with_reducible rfl | with_reducible (refine without_ite ?_ ?_) | with_reducible (refine without_ite_fst ?_ ?_) | with_reducible (refine (foldl_frame _ (fun a x => ?_) _ _).trans ?_) | with_reducible (refine (foldl_fst_frame _ (fun a x => ?_) _ _).trans ?_)
    | simp only [↓State.hostResult_frame, ↓State.lampApply_frame, ↓State.modLamp_frame, Nat.reduceAnd]
    | split | dsimp only)
@[simp] theorem verbCrownStatus_frame  {H : Nat} (h : H &&& 0 = 0) : verbCrownStatus.Keeps H := by
  intro r s
  refine lift h ?_
  unfold verbCrownStatus
  dsimp only
  repeat' (first
    | with_reducible rfl | with_reducible (refine without_ite ?_ ?_) | with_reducible (refine without_ite_fst ?_ ?_) | with_reducible (refine (foldl_frame _ (fun a x => ?_) _ _).trans ?_) | with_reducible (refine (foldl_fst_frame _ (fun a x => ?_) _ _).trans ?_)
    | simp only [Nat.reduceAnd]
    | split | dsimp only)
@[simp] theorem verbCrownModel_frame  {H : Nat} (h : H &&& 0 = 0) : verbCrownModel.Keeps H := by
  intro r s
  refine lift h ?_
  unfold verbCrownModel
  dsimp only
  repeat' (first
    | with_reducible rfl | with_reducible (refine without_ite ?_ ?_) | with_reducible (refine without_ite_fst ?_ ?_)
    | simp only [Nat.reduceAnd]
    | split | dsimp only)
@[simp] theorem verbCrownLoad_frame  {H : Nat} (h : H &&& 536872986 = 536872986) : verbCrownLoad.Keeps H := by
  intro r s
  refine lift h ?_
  unfold verbCrownLoad
  dsimp only
  repeat' (first
    | with_reducible rfl | with_reducible (refine without_ite ?_ ?_) | with_reducible (refine without_ite_fst ?_ ?_)
    | simp only [↓State.clearFault_frame, ↓State.modHost_frame, ↓State.zeroSlot_frame, ↓State.modSlot_frame,
      ↓State.dirty_frame, ↓State.crownReset_frame, Nat.reduceAnd]
    | split | dsimp only)
@[simp] theorem verbCrownBind_frame  {H : Nat} (h : H &&& 536872960 = 536872960) : verbCrownBind.Keeps H := by
  intro r s
  refine lift h ?_
  unfold verbCrownBind
  dsimp only
  repeat' (first
    | with_reducible rfl | with_reducible (refine without_ite ?_ ?_) | with_reducible (refine without_ite_fst ?_ ?_) | with_reducible (refine (foldl_frame _ (fun a x => ?_) _ _).trans ?_) | with_reducible (refine (foldl_fst_frame _ (fun a x => ?_) _ _).trans ?_)
    | simp only [↓State.modSlot_frame, ↓State.dirty_frame, Nat.reduceAnd]
    | split | dsimp only)
@[simp] theorem verbCrownCalib_frame  {H : Nat} (h : H &&& 536872960 = 536872960) : verbCrownCalib.Keeps H := by
  intro r s
  refine lift h ?_
  unfold verbCrownCalib
  dsimp only
  repeat' (first
    | with_reducible rfl | with_reducible (refine without_ite ?_ ?_) | with_reducible (refine without_ite_fst ?_ ?_)
    | simp only [↓State.dirty_frame, ↓State.modCrown_frame, Nat.reduceAnd]
    | split | dsimp only)
@[simp] theorem verbCrownOutbuf_frame  {H : Nat} (h : H &&& 536872960 = 536872960) : verbCrownOutbuf.Keeps H := by
  intro r s
  refine lift h ?_
  unfold verbCrownOutbuf
  dsimp only
  repeat' (first
    | with_reducible rfl | with_reducible (refine without_ite ?_ ?_) | with_reducible (refine without_ite_fst ?_ ?_)
    | simp only [↓State.dirty_frame, ↓State.modSlot_frame, Nat.reduceAnd]
    | split | dsimp only)
@[simp] theorem verbCrownStart_frame  {H : Nat} (h : H &&& 536872962 = 536872962) : verbCrownStart.Keeps H := by
  intro r s
  refine lift h ?_
  unfold verbCrownStart
  dsimp only
  repeat' (first
    | with_reducible rfl | with_reducible (refine without_ite ?_ ?_) | with_reducible (refine without_ite_fst ?_ ?_)
    | simp only [↓State.crownReset_frame, ↓State.dirty_frame, ↓State.crownArm_frame, ↓State.modSlot_frame, Nat.reduceAnd]
    | split | dsimp only)
@[simp] theorem verbCrownStop_frame  {H : Nat} (h : H &&& 536872976 = 536872976) : verbCrownStop.Keeps H := by
  intro r s
  refine lift h ?_
  unfold verbCrownStop
  dsimp only
  repeat' (first
    | with_reducible rfl | with_reducible (refine without_ite ?_ ?_) | with_reducible (refine without_ite_fst ?_ ?_)
    | simp only [↓State.modSlot_frame, ↓State.zeroSlot_frame, ↓State.dirty_frame, Nat.reduceAnd]
    | split | dsimp only)
@[simp] theorem verbCrownHostbuf_frame  {H : Nat} (h : H &&& 536872960 = 536872960) : verbCrownHostbuf.Keeps H := by
  intro r s
  refine lift h ?_
  unfold verbCrownHostbuf
  dsimp only
  repeat' (first
    | with_reducible rfl | with_reducible (refine without_ite ?_ ?_) | with_reducible (refine without_ite_fst ?_ ?_)
    | simp only [↓State.dirty_frame, ↓State.modSlot_frame, Nat.reduceAnd]
    | split | dsimp only)
@[simp] theorem verbCrownResult_frame  {H : Nat} (h : H &&& 2050 = 2050) : verbCrownResult.Keeps H := by
  intro r s
  refine lift h ?_
  unfold verbCrownResult
  dsimp only
  repeat' (first
    | with_reducible rfl | with_reducible (refine without_ite ?_ ?_) | with_reducible (refine without_ite_fst ?_ ?_)
    | simp only [↓State.hostResult_frame, ↓State.modSlot_frame, Nat.reduceAnd]
    | split | dsimp only)
@[simp] theorem verbGranaryStatus_frame  {H : Nat} (h : H &&& 0 = 0) : verbGranaryStatus.Keeps H := by
  intro r s
  refine lift h ?_
  unfold verbGranaryStatus
  dsimp only
  repeat' (first
    | with_reducible rfl | with_reducible (refine without_ite ?_ ?_) | with_reducible (refine without_ite_fst ?_ ?_)
    | simp only [Nat.reduceAnd]
    | split | dsimp only)
@[simp] theorem verbGranaryConfig_frame  {H : Nat} (h : H &&& 536875008 = 536875008) : verbGranaryConfig.Keeps H := by
  intro r s
  refine lift h ?_
  unfold verbGranaryConfig
  dsimp only
  repeat' (first
    | with_reducible rfl | with_reducible (refine without_ite ?_ ?_) | with_reducible (refine without_ite_fst ?_ ?_)
    | simp only [↓State.dirty_frame, ↓State.modGran_frame, Nat.reduceAnd]
    | split | dsimp only)
@[simp] theorem verbGranarySections_frame  {H : Nat} (h : H &&& 536875008 = 536875008) : verbGranarySections.Keeps H := by
  intro r s
  refine lift h ?_
  unfold verbGranarySections
  dsimp only
  repeat' (first
    | with_reducible rfl | with_reducible (refine without_ite ?_ ?_) | with_reducible (refine without_ite_fst ?_ ?_)
    | simp only [↓State.modGran_frame, ↓State.dirty_frame, Nat.reduceAnd]
    | split | dsimp only)
@[simp] theorem verbGranaryCalib_frame  {H : Nat} (h : H &&& 536875008 = 536875008) : verbGranaryCalib.Keeps H := by
  intro r s
  refine lift h ?_
  unfold verbGranaryCalib
  dsimp only
  repeat' (first
    | with_reducible rfl | with_reducible (refine without_ite ?_ ?_) | with_reducible (refine without_ite_fst ?_ ?_)
    | simp only [↓State.dirty_frame, ↓State.modGran_frame, Nat.reduceAnd]
    | split | dsimp only)
@[simp] theorem verbGranaryOpen_frame  {H : Nat} (h : H &&& 536875008 = 536875008) : verbGranaryOpen.Keeps H := by
  intro r s
  refine lift h ?_
  unfold verbGranaryOpen
  dsimp only
  repeat' (first
    | with_reducible rfl | with_reducible (refine without_ite ?_ ?_) | with_reducible (refine without_ite_fst ?_ ?_)
    | simp only [↓State.dirty_frame, ↓State.modGran_frame, Nat.reduceAnd]
    | split | dsimp only)
@[simp] theorem verbGranaryClose_frame  {H : Nat} (h : H &&& 536875008 = 536875008) : verbGranaryClose.Keeps H := by
  intro r s
  refine lift h ?_
  unfold verbGranaryClose
  dsimp only
  repeat' (first
    | with_reducible rfl | with_reducible (refine without_ite ?_ ?_) | with_reducible (refine without_ite_fst ?_ ?_)
    | simp only [↓State.dirty_frame, ↓State.modGran_frame, Nat.reduceAnd]
    | split | dsimp only)
@[simp] theorem verbGranaryCorrect_frame  {H : Nat} (h : H &&& 536875008 = 536875008) : verbGranaryCorrect.Keeps H := by
  intro r s
  refine lift h ?_
  unfold verbGranaryCorrect
  dsimp only
  repeat' (first
    | with_reducible rfl | with_reducible (refine without_ite ?_ ?_) | with_reducible (refine without_ite_fst ?_ ?_)
    | simp only [↓State.modGran_frame, ↓State.dirty_frame, Nat.reduceAnd]
    | split | dsimp only)
@[simp] theorem verbGranaryHostbuf_frame  {H : Nat} (h : H &&& 536875008 = 536875008) : verbGranaryHostbuf.Keeps H := by
  intro r s
  refine lift h ?_
  unfold verbGranaryHostbuf
  dsimp only
  repeat' (first
    | with_reducible rfl | with_reducible (refine without_ite ?_ ?_) | with_reducible (refine without_ite_fst ?_ ?_)
    | simp only [↓State.dirty_frame, ↓State.modGran_frame, Nat.reduceAnd]
    | split | dsimp only)
@[simp] theorem verbGranaryResult_frame  {H : Nat} (h : H &&& 18878474 = 18878474) : verbGranaryResult.Keeps H := by
  intro r s
  refine lift h ?_
  unfold verbGranaryResult
  dsimp only
  repeat' (first
    | with_reducible rfl | with_reducible (refine without_ite ?_ ?_) | with_reducible (refine without_ite_fst ?_ ?_)
    | simp only [↓State.hostResult_frame, ↓State.modGran_frame, ↓State.granLate_frame, Nat.reduceAnd]
    | split | dsimp only)
@[simp] theorem verbOutConfig_frame  {H : Nat} (h : H &&& 536911882 = 536911882) : verbOutConfig.Keeps H := by
  intro r s
  refine lift h ?_
  unfold verbOutConfig
  dsimp only
  repeat' (first
    | with_reducible rfl | with_reducible (refine without_ite ?_ ?_) | with_reducible (refine without_ite_fst ?_ ?_)
    | simp only [↓State.takeOver_frame, ↓State.modOut_frame, ↓State.outEval_frame, ↓State.safetyEval_frame,
      ↓State.dirty_frame, Nat.reduceAnd]
    | split | dsimp only)
@[simp] theorem verbOutSet_frame  {H : Nat} (h : H &&& 8192 = 8192) : verbOutSet.Keeps H := by
  intro r s
  refine lift h ?_
  unfold verbOutSet
  dsimp only
  repeat' (first
    | with_reducible rfl | with_reducible (refine without_ite ?_ ?_) | with_reducible (refine without_ite_fst ?_ ?_)
    | simp only [↓State.modOut_frame, ↓State.takeOver_frame, ↓State.outEval_frame, Nat.reduceAnd]
    | split | dsimp only)
@[simp] theorem verbOutClear_frame  {H : Nat} (h : H &&& 8202 = 8202) : verbOutClear.Keeps H := by
  intro r s
  refine lift h ?_
  unfold verbOutClear
  dsimp only
  repeat' (first
    | with_reducible rfl | with_reducible (refine without_ite ?_ ?_) | with_reducible (refine without_ite_fst ?_ ?_) | with_reducible (refine (foldl_frame _ (fun a x => ?_) _ _).trans ?_) | with_reducible (refine (foldl_fst_frame _ (fun a x => ?_) _ _).trans ?_)
    | simp only [↓State.modOut_frame, ↓State.clearFault_frame, ↓State.outEval_frame, ↓State.modGroup_frame, Nat.reduceAnd]
    | split | dsimp only)
@[simp] theorem verbOutParkhold_frame  {H : Nat} (h : H &&& 536879104 = 536879104) : verbOutParkhold.Keeps H := by
  intro r s
  refine lift h ?_
  unfold verbOutParkhold
  dsimp only
  repeat' (first
    | with_reducible rfl | with_reducible (refine without_ite ?_ ?_) | with_reducible (refine without_ite_fst ?_ ?_)
    | simp only [↓State.dirty_frame, ↓State.modPark_frame, ↓State.parkRelease_frame, Nat.reduceAnd]
    | split | dsimp only)
@[simp] theorem verbOutStatus_frame  {H : Nat} (h : H &&& 0 = 0) : verbOutStatus.Keeps H := by
  intro r s
  refine lift h ?_
  unfold verbOutStatus
  dsimp only
  repeat' (first
    | with_reducible rfl | with_reducible (refine without_ite ?_ ?_) | with_reducible (refine without_ite_fst ?_ ?_)
    | simp only [Nat.reduceAnd]
    | split | dsimp only)
@[simp] theorem verbHbConfig_frame  {H : Nat} (h : H &&& 536911882 = 536911882) : verbHbConfig.Keeps H := by
  intro r s
  refine lift h ?_
  unfold verbHbConfig
  dsimp only
  repeat' (first
    | with_reducible rfl | with_reducible (refine without_ite ?_ ?_) | with_reducible (refine without_ite_fst ?_ ?_)
    | simp only [↓State.modHb_frame, ↓State.dirty_frame, ↓State.safetyEval_frame, Nat.reduceAnd]
    | split | dsimp only)
@[simp] theorem verbHbDrive_frame  {H : Nat} (h : H &&& 40970 = 40970) : verbHbDrive.Keeps H := by
  intro r s
  refine lift h ?_
  unfold verbHbDrive
  dsimp only
  repeat' (first
    | with_reducible rfl | with_reducible (refine without_ite ?_ ?_) | with_reducible (refine without_ite_fst ?_ ?_)
    | simp only [↓State.hbMove_frame, ↓State.hbEnd_frame, ↓State.modHb_frame, Nat.reduceAnd]
    | split | dsimp only)

end Sys2Proof.Machine
end

