-- ==== Sys2Proof/Laws/FrameVerb2.lean ====
section
/-! SUPPORT. Laws/FrameVerb2.lean: what the effect of each mailbox verb leaves alone. A mask has a bit for each piece of `Piece`. -/

set_option linter.all false

namespace Sys2Proof.Machine
@[simp] theorem verbHbClear_frame  {H : Nat} (h : H &&& 8202 = 8202) : verbHbClear.Keeps H := by
  intro r s
  refine lift h ?_
  unfold verbHbClear
  dsimp only
  repeat' (first
    | with_reducible rfl | with_reducible (refine without_ite ?_ ?_) | with_reducible (refine without_ite_fst ?_ ?_)
    | simp only [↓State.clearFault_frame, ↓State.modHb_frame, Nat.reduceAnd]
    | split | dsimp only)
@[simp] theorem verbHbPosition_frame  {H : Nat} (h : H &&& 8202 = 8202) : verbHbPosition.Keeps H := by
  intro r s
  refine lift h ?_
  unfold verbHbPosition
  dsimp only
  repeat' (first
    | with_reducible rfl | with_reducible (refine without_ite ?_ ?_) | with_reducible (refine without_ite_fst ?_ ?_)
    | simp only [↓State.modHb_frame, ↓State.clearFault_frame, Nat.reduceAnd]
    | split | dsimp only)
@[simp] theorem verbHbStatus_frame  {H : Nat} (h : H &&& 0 = 0) : verbHbStatus.Keeps H := by
  intro r s
  refine lift h ?_
  unfold verbHbStatus
  dsimp only
  repeat' (first
    | with_reducible rfl | with_reducible (refine without_ite ?_ ?_) | with_reducible (refine without_ite_fst ?_ ?_)
    | simp only [Nat.reduceAnd]
    | split | dsimp only)
@[simp] theorem verbBodyConfig_frame  {H : Nat} (h : H &&& 555786250 = 555786250) : verbBodyConfig.Keeps H := by
  intro r s
  refine lift h ?_
  unfold verbBodyConfig
  dsimp only
  repeat' (first
    | with_reducible rfl | with_reducible (refine without_ite ?_ ?_) | with_reducible (refine without_ite_fst ?_ ?_) | with_reducible (refine (foldl_frame _ (fun a x => ?_) _ _).trans ?_) | with_reducible (refine (foldl_fst_frame _ (fun a x => ?_) _ _).trans ?_)
    | simp only [↓State.dirty_frame, ↓State.modSvc_frame, ↓State.bodyUnbind_frame, ↓State.modOut_frame,
      ↓State.modHb_frame, ↓State.outEval_frame, ↓State.bodyEval_frame, Nat.reduceAnd]
    | split | dsimp only)
@[simp] theorem verbBodyStatus_frame  {H : Nat} (h : H &&& 0 = 0) : verbBodyStatus.Keeps H := by
  intro r s
  refine lift h ?_
  unfold verbBodyStatus
  dsimp only
  repeat' (first
    | with_reducible rfl | with_reducible (refine without_ite ?_ ?_) | with_reducible (refine without_ite_fst ?_ ?_)
    | simp only [Nat.reduceAnd]
    | split | dsimp only)
@[simp] theorem verbBodyRequest_frame  {H : Nat} (h : H &&& 18915338 = 18915338) : verbBodyRequest.Keeps H := by
  intro r s
  refine lift h ?_
  unfold verbBodyRequest
  dsimp only
  repeat' (first
    | with_reducible rfl | with_reducible (refine without_ite ?_ ?_) | with_reducible (refine without_ite_fst ?_ ?_)
    | simp only [↓State.modSvc_frame, ↓State.bodyHw_frame, ↓State.bodyApply_frame, ↓State.wipe_frame,
      ↓State.lockReq_frame, ↓State.windowReq_frame, Nat.reduceAnd]
    | split | dsimp only)
@[simp] theorem verbBodyHostbuf_frame  {H : Nat} (h : H &&& 536903680 = 536903680) : verbBodyHostbuf.Keeps H := by
  intro r s
  refine lift h ?_
  unfold verbBodyHostbuf
  dsimp only
  repeat' (first
    | with_reducible rfl | with_reducible (refine without_ite ?_ ?_) | with_reducible (refine without_ite_fst ?_ ?_)
    | simp only [↓State.dirty_frame, ↓without_body, Nat.reduceAnd]
    | split | dsimp only)
@[simp] theorem verbBodyResult_frame  {H : Nat} (h : H &&& 40970 = 40970) : verbBodyResult.Keeps H := by
  intro r s
  refine lift h ?_
  unfold verbBodyResult
  dsimp only
  repeat' (first
    | with_reducible rfl | with_reducible (refine without_ite ?_ ?_) | with_reducible (refine without_ite_fst ?_ ?_) | with_reducible (refine (foldl_frame _ (fun a x => ?_) _ _).trans ?_) | with_reducible (refine (foldl_fst_frame _ (fun a x => ?_) _ _).trans ?_)
    | simp only [↓State.hostResult_frame, ↓State.bodyDrive_frame, ↓State.bodyMove_frame, ↓State.hbEnd_frame,
      Nat.reduceAnd]
    | split | dsimp only)
@[simp] theorem verbSwinConfig_frame  {H : Nat} (h : H &&& 536887296 = 536887296) : verbSwinConfig.Keeps H := by
  intro r s
  refine lift h ?_
  unfold verbSwinConfig
  dsimp only
  repeat' (first
    | with_reducible rfl | with_reducible (refine without_ite ?_ ?_) | with_reducible (refine without_ite_fst ?_ ?_)
    | simp only [↓State.dirty_frame, ↓State.modSw_frame, Nat.reduceAnd]
    | split | dsimp only)
@[simp] theorem verbSwinRead_frame  {H : Nat} (h : H &&& 0 = 0) : verbSwinRead.Keeps H := by
  intro r s
  refine lift h ?_
  unfold verbSwinRead
  dsimp only
  repeat' (first
    | with_reducible rfl | with_reducible (refine without_ite ?_ ?_) | with_reducible (refine without_ite_fst ?_ ?_)
    | simp only [Nat.reduceAnd]
    | split | dsimp only)
@[simp] theorem verbLinStatus_frame  {H : Nat} (h : H &&& 0 = 0) : verbLinStatus.Keeps H := by
  intro r s
  refine lift h ?_
  unfold verbLinStatus
  dsimp only
  repeat' (first
    | with_reducible rfl | with_reducible (refine without_ite ?_ ?_) | with_reducible (refine without_ite_fst ?_ ?_)
    | simp only [Nat.reduceAnd]
    | split | dsimp only)
@[simp] theorem verbLinRead_frame  {H : Nat} (h : H &&& 0 = 0) : verbLinRead.Keeps H := by
  intro r s
  refine lift h ?_
  unfold verbLinRead
  dsimp only
  repeat' (first
    | with_reducible rfl | with_reducible (refine without_ite ?_ ?_) | with_reducible (refine without_ite_fst ?_ ?_)
    | simp only [Nat.reduceAnd]
    | split | dsimp only)
@[simp] theorem verbLinConfig_frame  {H : Nat} (h : H &&& 536903690 = 536903690) : verbLinConfig.Keeps H := by
  intro r s
  refine lift h ?_
  unfold verbLinConfig
  dsimp only
  repeat' (first
    | with_reducible rfl | with_reducible (refine without_ite ?_ ?_) | with_reducible (refine without_ite_fst ?_ ?_)
    | simp only [↓State.modLin_frame, ↓State.clearFault_frame, ↓State.dirty_frame, Nat.reduceAnd]
    | split | dsimp only)
@[simp] theorem verbLinTable_frame  {H : Nat} (h : H &&& 536903682 = 536903682) : verbLinTable.Keeps H := by
  intro r s
  refine lift h ?_
  unfold verbLinTable
  dsimp only
  repeat' (first
    | with_reducible rfl | with_reducible (refine without_ite ?_ ?_) | with_reducible (refine without_ite_fst ?_ ?_)
    | simp only [↓State.regionDone_frame, ↓State.dirty_frame, ↓State.modLin_frame, Nat.reduceAnd]
    | split | dsimp only)
@[simp] theorem verbLinSchedule_frame  {H : Nat} (h : H &&& 32768 = 32768) : verbLinSchedule.Keeps H := by
  intro r s
  refine lift h ?_
  unfold verbLinSchedule
  dsimp only
  repeat' (first
    | with_reducible rfl | with_reducible (refine without_ite ?_ ?_) | with_reducible (refine without_ite_fst ?_ ?_)
    | simp only [↓State.modLin_frame, Nat.reduceAnd]
    | split | dsimp only)
@[simp] theorem verbLinWrite_frame  {H : Nat} (h : H &&& 32768 = 32768) : verbLinWrite.Keeps H := by
  intro r s
  refine lift h ?_
  unfold verbLinWrite
  dsimp only
  repeat' (first
    | with_reducible rfl | with_reducible (refine without_ite ?_ ?_) | with_reducible (refine without_ite_fst ?_ ?_)
    | simp only [↓State.modFrame_frame, Nat.reduceAnd]
    | split | dsimp only)
@[simp] theorem verbLinSleep_frame  {H : Nat} (h : H &&& 32768 = 32768) : verbLinSleep.Keeps H := by
  intro r s
  refine lift h ?_
  unfold verbLinSleep
  dsimp only
  repeat' (first
    | with_reducible rfl | with_reducible (refine without_ite ?_ ?_) | with_reducible (refine without_ite_fst ?_ ?_)
    | simp only [↓State.modLin_frame, ↓State.linSend_frame, Nat.reduceAnd]
    | split | dsimp only)
@[simp] theorem verbFanConfig_frame  {H : Nat} (h : H &&& 555823130 = 555823130) : verbFanConfig.Keeps H := by
  intro r s
  refine lift h ?_
  unfold verbFanConfig
  dsimp only
  repeat' (first
    | with_reducible rfl | with_reducible (refine without_ite ?_ ?_) | with_reducible (refine without_ite_fst ?_ ?_)
    | simp only [↓State.dirty_frame, ↓State.fanUnbind_frame, ↓State.modFan_frame, ↓State.outEval_frame,
      ↓State.modOut_frame, Nat.reduceAnd]
    | split | dsimp only)
@[simp] theorem verbFanTable_frame  {H : Nat} (h : H &&& 536936448 = 536936448) : verbFanTable.Keeps H := by
  intro r s
  refine lift h ?_
  unfold verbFanTable
  dsimp only
  repeat' (first
    | with_reducible rfl | with_reducible (refine without_ite ?_ ?_) | with_reducible (refine without_ite_fst ?_ ?_)
    | simp only [↓State.dirty_frame, ↓State.modFan_frame, Nat.reduceAnd]
    | split | dsimp only)
@[simp] theorem verbFanSet_frame  {H : Nat} (h : H &&& 65536 = 65536) : verbFanSet.Keeps H := by
  intro r s
  refine lift h ?_
  unfold verbFanSet
  dsimp only
  repeat' (first
    | with_reducible rfl | with_reducible (refine without_ite ?_ ?_) | with_reducible (refine without_ite_fst ?_ ?_)
    | simp only [↓State.modFan_frame, Nat.reduceAnd]
    | split | dsimp only)
@[simp] theorem verbFanClear_frame  {H : Nat} (h : H &&& 73738 = 73738) : verbFanClear.Keeps H := by
  intro r s
  refine lift h ?_
  unfold verbFanClear
  dsimp only
  repeat' (first
    | with_reducible rfl | with_reducible (refine without_ite ?_ ?_) | with_reducible (refine without_ite_fst ?_ ?_)
    | simp only [↓State.clearFault_frame, ↓State.modFan_frame, ↓State.fanKick_frame, Nat.reduceAnd]
    | split | dsimp only)
@[simp] theorem verbFanResult_frame  {H : Nat} (h : H &&& 18948106 = 18948106) : verbFanResult.Keeps H := by
  intro r s
  refine lift h ?_
  unfold verbFanResult
  dsimp only
  repeat' (first
    | with_reducible rfl | with_reducible (refine without_ite ?_ ?_) | with_reducible (refine without_ite_fst ?_ ?_)
    | simp only [↓State.fanSync_frame, ↓State.prevResult_frame, ↓State.fanCause_frame, ↓State.modFan_frame,
      ↓State.hostResult_frame, Nat.reduceAnd]
    | split | dsimp only)
@[simp] theorem verbFanStatus_frame  {H : Nat} (h : H &&& 0 = 0) : verbFanStatus.Keeps H := by
  intro r s
  refine lift h ?_
  unfold verbFanStatus
  dsimp only
  repeat' (first
    | with_reducible rfl | with_reducible (refine without_ite ?_ ?_) | with_reducible (refine without_ite_fst ?_ ?_)
    | simp only [Nat.reduceAnd]
    | split | dsimp only)
@[simp] theorem verbPlateStatus_frame  {H : Nat} (h : H &&& 0 = 0) : verbPlateStatus.Keeps H := by
  intro r s
  refine lift h ?_
  unfold verbPlateStatus
  dsimp only
  repeat' (first
    | with_reducible rfl | with_reducible (refine without_ite ?_ ?_) | with_reducible (refine without_ite_fst ?_ ?_)
    | simp only [Nat.reduceAnd]
    | split | dsimp only)
@[simp] theorem verbPlateConfig_frame  {H : Nat} (h : H &&& 537001984 = 537001984) : verbPlateConfig.Keeps H := by
  intro r s
  refine lift h ?_
  unfold verbPlateConfig
  dsimp only
  repeat' (first
    | with_reducible rfl | with_reducible (refine without_ite ?_ ?_) | with_reducible (refine without_ite_fst ?_ ?_)
    | simp only [↓State.modPlate_frame, ↓State.dirty_frame, Nat.reduceAnd]
    | split | dsimp only)
@[simp] theorem verbPlateWaveform_frame  {H : Nat} (h : H &&& 537001986 = 537001986) : verbPlateWaveform.Keeps H := by
  intro r s
  refine lift h ?_
  unfold verbPlateWaveform
  dsimp only
  repeat' (first
    | with_reducible rfl | with_reducible (refine without_ite ?_ ?_) | with_reducible (refine without_ite_fst ?_ ?_)
    | simp only [↓State.regionDone_frame, ↓State.dirty_frame, ↓State.modPlate_frame, Nat.reduceAnd]
    | split | dsimp only)
@[simp] theorem verbPlateUpdate_frame  {H : Nat} (h : H &&& 2166489098 = 2166489098) : verbPlateUpdate.Keeps H := by
  intro r s
  refine lift h ?_
  unfold verbPlateUpdate
  dsimp only
  repeat' (first
    | with_reducible rfl | with_reducible (refine without_ite ?_ ?_) | with_reducible (refine without_ite_fst ?_ ?_)
    | simp only [↓State.plateChecks_frame, ↓State.regionDone_frame, ↓State.plateStart_frame, Nat.reduceAnd]
    | split | dsimp only)
@[simp] theorem verbPlatePark_frame  {H : Nat} (h : H &&& 537001986 = 537001986) : verbPlatePark.Keeps H := by
  intro r s
  refine lift h ?_
  unfold verbPlatePark
  dsimp only
  repeat' (first
    | with_reducible rfl | with_reducible (refine without_ite ?_ ?_) | with_reducible (refine without_ite_fst ?_ ?_)
    | simp only [↓State.regionDone_frame, ↓State.modPlate_frame, ↓State.dirty_frame, Nat.reduceAnd]
    | split | dsimp only)
@[simp] theorem verbCanTp_frame  {H : Nat} (h : H &&& 2703491082 = 2703491082) : verbCanTp.Keeps H := by
  intro r s
  refine lift h ?_
  unfold verbCanTp
  dsimp only
  repeat' (first
    | with_reducible rfl | with_reducible (refine without_ite ?_ ?_) | with_reducible (refine without_ite_fst ?_ ?_)
    | simp only [↓State.drawNat_frame, ↓State.tpAbortAll_frame, ↓State.modCan_frame, ↓State.canHostRefresh_frame,
      ↓State.regionWrite_frame, ↓State.dirty_frame, Nat.reduceAnd]
    | split | dsimp only)
@[simp] theorem verbCanTpSend_frame  {H : Nat} (h : H &&& 262146 = 262146) : verbCanTpSend.Keeps H := by
  intro r s
  refine lift h ?_
  unfold verbCanTpSend
  dsimp only
  repeat' (first
    | with_reducible rfl | with_reducible (refine without_ite ?_ ?_) | with_reducible (refine without_ite_fst ?_ ?_)
    | simp only [↓State.regionBegin_frame, ↓State.modCan_frame, ↓State.tpCm_frame, Nat.reduceAnd]
    | split | dsimp only)
@[simp] theorem verbCanStatus_frame  {H : Nat} (h : H &&& 0 = 0) : verbCanStatus.Keeps H := by
  intro r s
  refine lift h ?_
  unfold verbCanStatus
  dsimp only
  repeat' (first
    | with_reducible rfl | with_reducible (refine without_ite ?_ ?_) | with_reducible (refine without_ite_fst ?_ ?_)
    | simp only [Nat.reduceAnd]
    | split | dsimp only)
@[simp] theorem verbCanHpRead_frame  {H : Nat} (h : H &&& 0 = 0) : verbCanHpRead.Keeps H := by
  intro r s
  refine lift h ?_
  unfold verbCanHpRead
  dsimp only
  repeat' (first
    | with_reducible rfl | with_reducible (refine without_ite ?_ ?_) | with_reducible (refine without_ite_fst ?_ ?_)
    | simp only [Nat.reduceAnd]
    | split | dsimp only)
@[simp] theorem verbCanTxStatus_frame  {H : Nat} (h : H &&& 0 = 0) : verbCanTxStatus.Keeps H := by
  intro r s
  refine lift h ?_
  unfold verbCanTxStatus
  dsimp only
  repeat' (first
    | with_reducible rfl | with_reducible (refine without_ite ?_ ?_) | with_reducible (refine without_ite_fst ?_ ?_)
    | simp only [Nat.reduceAnd]
    | split | dsimp only)
@[simp] theorem verbCanConfig_frame  {H : Nat} (h : H &&& 556007434 = 556007434) : verbCanConfig.Keeps H := by
  intro r s
  refine lift h ?_
  unfold verbCanConfig
  dsimp only
  repeat' (first
    | with_reducible rfl | with_reducible (refine without_ite ?_ ?_) | with_reducible (refine without_ite_fst ?_ ?_)
    | simp only [↓State.txAbort_frame, ↓State.modCan_frame, ↓State.clearFault_frame, ↓State.dirty_frame, Nat.reduceAnd]
    | split | dsimp only)
@[simp] theorem verbCanQueue_frame  {H : Nat} (h : H &&& 537133066 = 537133066) : verbCanQueue.Keeps H := by
  intro r s
  refine lift h ?_
  unfold verbCanQueue
  dsimp only
  repeat' (first
    | with_reducible rfl | with_reducible (refine without_ite ?_ ?_) | with_reducible (refine without_ite_fst ?_ ?_)
    | simp only [↓State.modQ_frame, ↓State.regionWrite_frame, ↓State.queueOk_frame, ↓State.dirty_frame, Nat.reduceAnd]
    | split | dsimp only)
@[simp] theorem verbCanSchedule_frame  {H : Nat} (h : H &&& 537133066 = 537133066) : verbCanSchedule.Keeps H := by
  intro r s
  refine lift h ?_
  unfold verbCanSchedule
  dsimp only
  repeat' (first
    | with_reducible rfl | with_reducible (refine without_ite ?_ ?_) | with_reducible (refine without_ite_fst ?_ ?_)
    | simp only [↓State.modCan_frame, ↓State.dirty_frame, ↓State.schedApply_frame, Nat.reduceAnd]
    | split | dsimp only)
@[simp] theorem verbCanRecover_frame  {H : Nat} (h : H &&& 262144 = 262144) : verbCanRecover.Keeps H := by
  intro r s
  refine lift h ?_
  unfold verbCanRecover
  dsimp only
  repeat' (first
    | with_reducible rfl | with_reducible (refine without_ite ?_ ?_) | with_reducible (refine without_ite_fst ?_ ?_)
    | simp only [↓State.modCan_frame, Nat.reduceAnd]
    | split | dsimp only)
@[simp] theorem verbCanSend_frame  {H : Nat} (h : H &&& 2166620170 = 2166620170) : verbCanSend.Keeps H := by
  intro r s
  refine lift h ?_
  unfold verbCanSend
  dsimp only
  repeat' (first
    | with_reducible rfl | with_reducible (refine without_ite ?_ ?_) | with_reducible (refine without_ite_fst ?_ ?_)
    | simp only [↓State.modTx_frame, ↓State.txRequest_frame, Nat.reduceAnd]
    | split | dsimp only)
@[simp] theorem verbEthStatus_frame  {H : Nat} (h : H &&& 0 = 0) : verbEthStatus.Keeps H := by
  intro r s
  refine lift h ?_
  unfold verbEthStatus
  dsimp only
  repeat' (first
    | with_reducible rfl | with_reducible (refine without_ite ?_ ?_) | with_reducible (refine without_ite_fst ?_ ?_) | with_reducible (refine (foldl_frame _ (fun a x => ?_) _ _).trans ?_) | with_reducible (refine (foldl_fst_frame _ (fun a x => ?_) _ _).trans ?_)
    | simp only [Nat.reduceAnd]
    | split | dsimp only)
@[simp] theorem verbEthConfig_frame  {H : Nat} (h : H &&& 537395210 = 537395210) : verbEthConfig.Keeps H := by
  intro r s
  refine lift h ?_
  unfold verbEthConfig
  dsimp only
  repeat' (first
    | with_reducible rfl | with_reducible (refine without_ite ?_ ?_) | with_reducible (refine without_ite_fst ?_ ?_)
    | simp only [↓State.modEth_frame, ↓State.gptpState_frame, ↓State.clearFault_frame, ↓State.dirty_frame, Nat.reduceAnd]
    | split | dsimp only)
@[simp] theorem verbEthGates_frame  {H : Nat} (h : H &&& 537395202 = 537395202) : verbEthGates.Keeps H := by
  intro r s
  refine lift h ?_
  unfold verbEthGates
  dsimp only
  repeat' (first
    | with_reducible rfl | with_reducible (refine without_ite ?_ ?_) | with_reducible (refine without_ite_fst ?_ ?_)
    | simp only [↓State.dirty_frame, ↓State.modEth_frame, ↓State.regionDone_frame, Nat.reduceAnd]
    | split | dsimp only)

end Sys2Proof.Machine
end

