-- ==== Sys2Proof/Laws/FrameVerb3.lean ====
section
/-! SUPPORT. Laws/FrameVerb3.lean: what the effect of each mailbox verb leaves alone. A mask has a bit for each piece of `Piece`. -/

set_option linter.all false

namespace Sys2Proof.Machine
@[simp] theorem verbEthLidar_frame  {H : Nat} (h : H &&& 537395210 = 537395210) : verbEthLidar.Keeps H := by
  intro r s
  refine lift h ?_
  unfold verbEthLidar
  dsimp only
  repeat' (first
    | with_reducible rfl | with_reducible (refine without_ite ?_ ?_) | with_reducible (refine without_ite_fst ?_ ?_)
    | simp only [↓State.clearFault_frame, ↓State.dirty_frame, ↓State.modLidar_frame, Nat.reduceAnd]
    | split | dsimp only)
@[simp] theorem verbEthSigport_frame  {H : Nat} (h : H &&& 537395200 = 537395200) : verbEthSigport.Keeps H := by
  intro r s
  refine lift h ?_
  unfold verbEthSigport
  dsimp only
  repeat' (first
    | with_reducible rfl | with_reducible (refine without_ite ?_ ?_) | with_reducible (refine without_ite_fst ?_ ?_)
    | simp only [↓State.dirty_frame, ↓State.modSigPort_frame, Nat.reduceAnd]
    | split | dsimp only)
@[simp] theorem verbEthHostring_frame  {H : Nat} (h : H &&& 537395202 = 537395202) : verbEthHostring.Keeps H := by
  intro r s
  refine lift h ?_
  unfold verbEthHostring
  dsimp only
  repeat' (first
    | with_reducible rfl | with_reducible (refine without_ite ?_ ?_) | with_reducible (refine without_ite_fst ?_ ?_)
    | simp only [↓State.modRing_frame, ↓State.dirty_frame, ↓State.ringHeaders_frame, Nat.reduceAnd]
    | split | dsimp only)
@[simp] theorem verbRootStatus_frame  {H : Nat} (h : H &&& 0 = 0) : verbRootStatus.Keeps H := by
  intro r s
  refine lift h ?_
  unfold verbRootStatus
  dsimp only
  repeat' (first
    | with_reducible rfl | with_reducible (refine without_ite ?_ ?_) | with_reducible (refine without_ite_fst ?_ ?_)
    | simp only [Nat.reduceAnd]
    | split | dsimp only)
@[simp] theorem verbRootLinkStatus_frame  {H : Nat} (h : H &&& 0 = 0) : verbRootLinkStatus.Keeps H := by
  intro r s
  refine lift h ?_
  unfold verbRootLinkStatus
  dsimp only
  repeat' (first
    | with_reducible rfl | with_reducible (refine without_ite ?_ ?_) | with_reducible (refine without_ite_fst ?_ ?_)
    | simp only [Nat.reduceAnd]
    | split | dsimp only)
@[simp] theorem verbRootRestart_frame  {H : Nat} (h : H &&& 18915482 = 18915482) : verbRootRestart.Keeps H := by
  intro r s
  refine lift h ?_
  unfold verbRootRestart
  dsimp only
  repeat' (first
    | with_reducible rfl | with_reducible (refine without_ite ?_ ?_) | with_reducible (refine without_ite_fst ?_ ?_)
    | simp only [↓State.rootFault_frame, Nat.reduceAnd]
    | split | dsimp only)
@[simp] theorem verbReflexStatus_frame  {H : Nat} (h : H &&& 0 = 0) : verbReflexStatus.Keeps H := by
  intro r s
  refine lift h ?_
  unfold verbReflexStatus
  dsimp only
  repeat' (first
    | with_reducible rfl | with_reducible (refine without_ite ?_ ?_) | with_reducible (refine without_ite_fst ?_ ?_)
    | simp only [Nat.reduceAnd]
    | split | dsimp only)
@[simp] theorem verbAtticStatus_frame  {H : Nat} (h : H &&& 0 = 0) : verbAtticStatus.Keeps H := by
  intro r s
  refine lift h ?_
  unfold verbAtticStatus
  dsimp only
  repeat' (first
    | with_reducible rfl | with_reducible (refine without_ite ?_ ?_) | with_reducible (refine without_ite_fst ?_ ?_)
    | simp only [Nat.reduceAnd]
    | split | dsimp only)
@[simp] theorem verbAtticList_frame  {H : Nat} (h : H &&& 0 = 0) : verbAtticList.Keeps H := by
  intro r s
  refine lift h ?_
  unfold verbAtticList
  dsimp only
  repeat' (first
    | with_reducible rfl | with_reducible (refine without_ite ?_ ?_) | with_reducible (refine without_ite_fst ?_ ?_)
    | simp only [Nat.reduceAnd]
    | split | dsimp only)
@[simp] theorem verbAtticRead_frame  {H : Nat} (h : H &&& 8388610 = 8388610) : verbAtticRead.Keeps H := by
  intro r s
  refine lift h ?_
  unfold verbAtticRead
  dsimp only
  repeat' (first
    | with_reducible rfl | with_reducible (refine without_ite ?_ ?_) | with_reducible (refine without_ite_fst ?_ ?_)
    | simp only [↓State.regionBegin_frame, ↓State.modAttic_frame, Nat.reduceAnd]
    | split | dsimp only)
@[simp] theorem verbAtticWrite_frame  {H : Nat} (h : H &&& 8388610 = 8388610) : verbAtticWrite.Keeps H := by
  intro r s
  refine lift h ?_
  unfold verbAtticWrite
  dsimp only
  repeat' (first
    | with_reducible rfl | with_reducible (refine without_ite ?_ ?_) | with_reducible (refine without_ite_fst ?_ ?_)
    | simp only [↓State.regionBegin_frame, ↓State.modAttic_frame, Nat.reduceAnd]
    | split | dsimp only)
@[simp] theorem verbAtticDelete_frame  {H : Nat} (h : H &&& 27267082 = 27267082) : verbAtticDelete.Keeps H := by
  intro r s
  refine lift h ?_
  unfold verbAtticDelete
  dsimp only
  repeat' (first
    | with_reducible rfl | with_reducible (refine without_ite ?_ ?_) | with_reducible (refine without_ite_fst ?_ ?_)
    | simp only [↓State.granDelete_frame, ↓State.commitFiles_frame, Nat.reduceAnd]
    | split | dsimp only)
@[simp] theorem verbLarderStatus_frame  {H : Nat} (h : H &&& 0 = 0) : verbLarderStatus.Keeps H := by
  intro r s
  refine lift h ?_
  unfold verbLarderStatus
  dsimp only
  repeat' (first
    | with_reducible rfl | with_reducible (refine without_ite ?_ ?_) | with_reducible (refine without_ite_fst ?_ ?_)
    | simp only [Nat.reduceAnd]
    | split | dsimp only)
@[simp] theorem verbLarderRead_frame  {H : Nat} (h : H &&& 16777218 = 16777218) : verbLarderRead.Keeps H := by
  intro r s
  refine lift h ?_
  unfold verbLarderRead
  dsimp only
  repeat' (first
    | with_reducible rfl | with_reducible (refine without_ite ?_ ?_) | with_reducible (refine without_ite_fst ?_ ?_)
    | simp only [↓State.regionBegin_frame, ↓State.modLarder_frame, Nat.reduceAnd]
    | split | dsimp only)
@[simp] theorem verbLarderChallenge_frame  {H : Nat} (h : H &&& 2164260864 = 2164260864) : verbLarderChallenge.Keeps H := by
  intro r s
  refine lift h ?_
  unfold verbLarderChallenge
  dsimp only
  repeat' (first
    | with_reducible rfl | with_reducible (refine without_ite ?_ ?_) | with_reducible (refine without_ite_fst ?_ ?_)
    | simp only [↓State.drawNat_frame, ↓State.modLarder_frame, Nat.reduceAnd]
    | split | dsimp only)
@[simp] theorem verbLarderClear_frame  {H : Nat} (h : H &&& 18874378 = 18874378) : verbLarderClear.Keeps H := by
  intro r s
  refine lift h ?_
  unfold verbLarderClear
  dsimp only
  repeat' (first
    | with_reducible rfl | with_reducible (refine without_ite ?_ ?_) | with_reducible (refine without_ite_fst ?_ ?_)
    | simp only [↓State.modLarder_frame, ↓State.clearRefuse_frame, ↓State.larderWrite_frame, Nat.reduceAnd]
    | split | dsimp only)
@[simp] theorem verbGraftOpen_frame  {H : Nat} (h : H &&& 31457290 = 31457290) : verbGraftOpen.Keeps H := by
  intro r s
  refine lift h ?_
  unfold verbGraftOpen
  dsimp only
  repeat' (first
    | with_reducible rfl | with_reducible (refine without_ite ?_ ?_) | with_reducible (refine without_ite_fst ?_ ?_)
    | simp only [↓State.regionDone_frame, ↓State.atticWear_frame, ↓State.modGraft_frame, ↓State.post_frame, Nat.reduceAnd]
    | split | dsimp only)
@[simp] theorem verbGraftPiece_frame  {H : Nat} (h : H &&& 31457290 = 31457290) : verbGraftPiece.Keeps H := by
  intro r s
  refine lift h ?_
  unfold verbGraftPiece
  dsimp only
  repeat' (first
    | with_reducible rfl | with_reducible (refine without_ite ?_ ?_) | with_reducible (refine without_ite_fst ?_ ?_)
    | simp only [↓State.regionDone_frame, ↓State.raiseEv_frame, ↓State.atticWear_frame, ↓State.modGraft_frame,
      ↓State.clearFault_frame, ↓State.post_frame, Nat.reduceAnd]
    | split | dsimp only)
@[simp] theorem verbGraftMissing_frame  {H : Nat} (h : H &&& 0 = 0) : verbGraftMissing.Keeps H := by
  intro r s
  refine lift h ?_
  unfold verbGraftMissing
  dsimp only
  repeat' (first
    | with_reducible rfl | with_reducible (refine without_ite ?_ ?_) | with_reducible (refine without_ite_fst ?_ ?_)
    | simp only [Nat.reduceAnd]
    | split | dsimp only)
@[simp] theorem verbGraftDiscard_frame  {H : Nat} (h : H &&& 4194304 = 4194304) : verbGraftDiscard.Keeps H := by
  intro r s
  refine lift h ?_
  unfold verbGraftDiscard
  dsimp only
  repeat' (first
    | with_reducible rfl | with_reducible (refine without_ite ?_ ?_) | with_reducible (refine without_ite_fst ?_ ?_)
    | simp only [↓State.modGraft_frame, Nat.reduceAnd]
    | split | dsimp only)
@[simp] theorem verbGraftActivate_frame  {H : Nat} (h : H &&& 4194304 = 4194304) : verbGraftActivate.Keeps H := by
  intro r s
  refine lift h ?_
  unfold verbGraftActivate
  dsimp only
  repeat' (first
    | with_reducible rfl | with_reducible (refine without_ite ?_ ?_) | with_reducible (refine without_ite_fst ?_ ?_)
    | simp only [↓State.modAct_frame, Nat.reduceAnd]
    | split | dsimp only)
@[simp] theorem verbGraftYield_frame  {H : Nat} (h : H &&& 4194306 = 4194306) : verbGraftYield.Keeps H := by
  intro r s
  refine lift h ?_
  unfold verbGraftYield
  dsimp only
  repeat' (first
    | with_reducible rfl | with_reducible (refine without_ite ?_ ?_) | with_reducible (refine without_ite_fst ?_ ?_)
    | simp only [↓State.modAct_frame, ↓State.postIn_frame, ↓without_keeper, Nat.reduceAnd]
    | split | dsimp only)
@[simp] theorem verbGraftTake_frame  {H : Nat} (h : H &&& 603958654 = 603958654) : verbGraftTake.Keeps H := by
  intro r s
  refine lift h ?_
  unfold verbGraftTake
  dsimp only
  repeat' (first
    | with_reducible rfl | with_reducible (refine without_ite ?_ ?_) | with_reducible (refine without_ite_fst ?_ ?_)
    | simp only [↓State.modAct_frame, ↓State.takeDecl_frame, ↓State.markDone_frame, ↓State.partDone_frame,
      ↓State.pantryPart_frame, ↓State.graftGo_frame, ↓State.modWin_frame, ↓without_keeper, Nat.reduceAnd]
    | split | dsimp only)
@[simp] theorem verbGraftConfirm_frame  {H : Nat} (h : H &&& 4194314 = 4194314) : verbGraftConfirm.Keeps H := by
  intro r s
  refine lift h ?_
  unfold verbGraftConfirm
  dsimp only
  repeat' (first
    | with_reducible rfl | with_reducible (refine without_ite ?_ ?_) | with_reducible (refine without_ite_fst ?_ ?_)
    | simp only [↓State.modGraft_frame, ↓State.clearFault_frame, ↓State.post_frame, Nat.reduceAnd]
    | split | dsimp only)
@[simp] theorem verbGraftFallback_frame  {H : Nat} (h : H &&& 603958782 = 603958782) : verbGraftFallback.Keeps H := by
  intro r s
  refine lift h ?_
  unfold verbGraftFallback
  dsimp only
  repeat' (first
    | with_reducible rfl | with_reducible (refine without_ite ?_ ?_) | with_reducible (refine without_ite_fst ?_ ?_)
    | simp only [↓State.fallbackStart_frame, Nat.reduceAnd]
    | split | dsimp only)
@[simp] theorem verbGraftStatus_frame  {H : Nat} (h : H &&& 0 = 0) : verbGraftStatus.Keeps H := by
  intro r s
  refine lift h ?_
  unfold verbGraftStatus
  dsimp only
  repeat' (first
    | with_reducible rfl | with_reducible (refine without_ite ?_ ?_) | with_reducible (refine without_ite_fst ?_ ?_)
    | simp only [Nat.reduceAnd]
    | split | dsimp only)
@[simp] theorem verbPowerStatus_frame  {H : Nat} (h : H &&& 2147483648 = 2147483648) : verbPowerStatus.Keeps H := by
  intro r s
  refine lift h ?_
  unfold verbPowerStatus
  dsimp only
  repeat' (first
    | with_reducible rfl | with_reducible (refine without_ite ?_ ?_) | with_reducible (refine without_ite_fst ?_ ?_)
    | simp only [↓State.drawF_frame, Nat.reduceAnd]
    | split | dsimp only)
@[simp] theorem verbPowerConfig_frame  {H : Nat} (h : H &&& 570425344 = 570425344) : verbPowerConfig.Keeps H := by
  intro r s
  refine lift h ?_
  unfold verbPowerConfig
  dsimp only
  repeat' (first
    | with_reducible rfl | with_reducible (refine without_ite ?_ ?_) | with_reducible (refine without_ite_fst ?_ ?_)
    | simp only [↓State.dirty_frame, ↓State.modPower_frame, Nat.reduceAnd]
    | split | dsimp only)
@[simp] theorem verbPowerRequest_frame  {H : Nat} (h : H &&& 33554432 = 33554432) : verbPowerRequest.Keeps H := by
  intro r s
  refine lift h ?_
  unfold verbPowerRequest
  dsimp only
  repeat' (first
    | with_reducible rfl | with_reducible (refine without_ite ?_ ?_) | with_reducible (refine without_ite_fst ?_ ?_)
    | simp only [↓State.modPower_frame, Nat.reduceAnd]
    | split | dsimp only)
@[simp] theorem verbPowerRun_frame  {H : Nat} (h : H &&& 43789322 = 43789322) : verbPowerRun.Keeps H := by
  intro r s
  refine lift h ?_
  unfold verbPowerRun
  dsimp only
  repeat' (first
    | with_reducible rfl | with_reducible (refine without_ite ?_ ?_) | with_reducible (refine without_ite_fst ?_ ?_)
    | simp only [↓State.runDecide_frame, ↓State.modPower_frame, Nat.reduceAnd]
    | split | dsimp only)
@[simp] theorem verbThermalStatus_frame  {H : Nat} (h : H &&& 0 = 0) : verbThermalStatus.Keeps H := by
  intro r s
  refine lift h ?_
  unfold verbThermalStatus
  dsimp only
  repeat' (first
    | with_reducible rfl | with_reducible (refine without_ite ?_ ?_) | with_reducible (refine without_ite_fst ?_ ?_)
    | simp only [Nat.reduceAnd]
    | split | dsimp only)
@[simp] theorem verbFaultStatus_frame  {H : Nat} (h : H &&& 0 = 0) : verbFaultStatus.Keeps H := by
  intro r s
  refine lift h ?_
  unfold verbFaultStatus
  dsimp only
  repeat' (first
    | with_reducible rfl | with_reducible (refine without_ite ?_ ?_) | with_reducible (refine without_ite_fst ?_ ?_)
    | simp only [Nat.reduceAnd]
    | split | dsimp only)
@[simp] theorem verbFaultRaise_frame  {H : Nat} (h : H &&& 18874378 = 18874378) : verbFaultRaise.Keeps H := by
  intro r s
  refine lift h ?_
  unfold verbFaultRaise
  dsimp only
  repeat' (first
    | with_reducible rfl | with_reducible (refine without_ite ?_ ?_) | with_reducible (refine without_ite_fst ?_ ?_)
    | simp only [↓State.raise_frame, Nat.reduceAnd]
    | split | dsimp only)
@[simp] theorem verbKeeperMode_frame  {H : Nat} (h : H &&& 65538 = 65538) : verbKeeperMode.Keeps H := by
  intro r s
  refine lift h ?_
  unfold verbKeeperMode
  dsimp only
  repeat' (first
    | with_reducible rfl | with_reducible (refine without_ite ?_ ?_) | with_reducible (refine without_ite_fst ?_ ?_)
    | simp only [↓State.modHost_frame, ↓State.modeSent_frame, Nat.reduceAnd]
    | split | dsimp only)
@[simp] theorem verbKeeperNop_frame  {H : Nat} (h : H &&& 0 = 0) : verbKeeperNop.Keeps H := by
  intro r s
  refine lift h ?_
  unfold verbKeeperNop
  dsimp only
  repeat' (first
    | with_reducible rfl | with_reducible (refine without_ite ?_ ?_) | with_reducible (refine without_ite_fst ?_ ?_)
    | simp only [Nat.reduceAnd]
    | split | dsimp only)
@[simp] theorem verbKeeperSigRead_frame  {H : Nat} (h : H &&& 0 = 0) : verbKeeperSigRead.Keeps H := by
  intro r s
  refine lift h ?_
  unfold verbKeeperSigRead
  dsimp only
  repeat' (first
    | with_reducible rfl | with_reducible (refine without_ite ?_ ?_) | with_reducible (refine without_ite_fst ?_ ?_)
    | simp only [Nat.reduceAnd]
    | split | dsimp only)
@[simp] theorem verbKeeperSigWrite_frame  {H : Nat} (h : H &&& 18919450 = 18919450) : verbKeeperSigWrite.Keeps H := by
  intro r s
  refine lift h ?_
  unfold verbKeeperSigWrite
  dsimp only
  repeat' (first
    | with_reducible rfl | with_reducible (refine without_ite ?_ ?_) | with_reducible (refine without_ite_fst ?_ ?_) | with_reducible (refine (foldl_frame _ (fun a x => ?_) _ _).trans ?_) | with_reducible (refine (foldl_fst_frame _ (fun a x => ?_) _ _).trans ?_)
    | simp only [↓State.setSig_frame, ↓State.bodyEvalAll_frame, Nat.reduceAnd]
    | split | dsimp only)
@[simp] theorem verbKeeperEvtMask_frame  {H : Nat} (h : H &&& 2 = 2) : verbKeeperEvtMask.Keeps H := by
  intro r s
  refine lift h ?_
  unfold verbKeeperEvtMask
  dsimp only
  repeat' (first
    | with_reducible rfl | with_reducible (refine without_ite ?_ ?_) | with_reducible (refine without_ite_fst ?_ ?_) | with_reducible (refine (foldl_frame _ (fun a x => ?_) _ _).trans ?_) | with_reducible (refine (foldl_fst_frame _ (fun a x => ?_) _ _).trans ?_)
    | simp only [↓State.modWin_frame, Nat.reduceAnd]
    | split | dsimp only)

end Sys2Proof.Machine
end

