-- ==== Sys2Proof/Laws/FrameServe.lean ====
section
/-! SUPPORT. Laws/FrameServe.lean: what Keeper's ring protocol leaves alone. A mask has a bit for each piece of `Piece`. -/

set_option linter.all false

namespace Sys2Proof.Machine
theorem verbsAttic_frame : ∀ v ∈ verbsAttic, v.Keeps 2751463422 := by
  intro v hv
  simp only [verbsAttic, List.mem_cons, List.not_mem_nil, or_false] at hv
  rcases hv with rfl | rfl | rfl | rfl | rfl | rfl | rfl | rfl | rfl
  · exact verbAtticStatus_frame rfl
  · exact verbAtticList_frame rfl
  · exact verbAtticRead_frame rfl
  · exact verbAtticWrite_frame rfl
  · exact verbAtticDelete_frame rfl
  · exact verbLarderStatus_frame rfl
  · exact verbLarderRead_frame rfl
  · exact verbLarderChallenge_frame rfl
  · exact verbLarderClear_frame rfl
theorem verbsBody_frame : ∀ v ∈ verbsBody, v.Keeps 2751463422 := by
  intro v hv
  simp only [verbsBody, List.mem_cons, List.not_mem_nil, or_false] at hv
  rcases hv with rfl | rfl | rfl | rfl | rfl
  · exact verbBodyStatus_frame rfl
  · exact verbBodyConfig_frame rfl
  · exact verbBodyRequest_frame rfl
  · exact verbBodyHostbuf_frame rfl
  · exact verbBodyResult_frame rfl
theorem verbsCam_frame : ∀ v ∈ verbsCam, v.Keeps 2751463422 := by
  intro v hv
  simp only [verbsCam, List.mem_cons, List.not_mem_nil, or_false] at hv
  rcases hv with rfl | rfl | rfl | rfl | rfl | rfl | rfl | rfl | rfl | rfl
  · exact verbCamStatus_frame rfl
  · exact verbCamConfig_frame rfl
  · exact verbCamSensor_frame rfl
  · exact verbCamIsp_frame rfl
  · exact verbCamTap_frame rfl
  · exact verbCamBackch_frame rfl
  · exact verbCamLamp_frame rfl
  · exact verbCamExposure_frame rfl
  · exact verbCamHostbuf_frame rfl
  · exact verbCamLampSet_frame rfl
theorem verbsCan_frame : ∀ v ∈ verbsCan, v.Keeps 2751463422 := by
  intro v hv
  simp only [verbsCan, List.mem_cons, List.not_mem_nil, or_false] at hv
  rcases hv with rfl | rfl | rfl | rfl | rfl | rfl | rfl | rfl
  · exact verbCanStatus_frame rfl
  · exact verbCanHpRead_frame rfl
  · exact verbCanTxStatus_frame rfl
  · exact verbCanConfig_frame rfl
  · exact verbCanQueue_frame rfl
  · exact verbCanSchedule_frame rfl
  · exact verbCanRecover_frame rfl
  · exact verbCanSend_frame rfl
theorem verbsCanTp_frame : ∀ v ∈ verbsCanTp, v.Keeps 2751463422 := by
  intro v hv
  simp only [verbsCanTp, List.mem_cons, List.not_mem_nil, or_false] at hv
  rcases hv with rfl | rfl
  · exact verbCanTp_frame rfl
  · exact verbCanTpSend_frame rfl
theorem verbsCrown_frame : ∀ v ∈ verbsCrown, v.Keeps 2751463422 := by
  intro v hv
  simp only [verbsCrown, List.mem_cons, List.not_mem_nil, or_false] at hv
  rcases hv with rfl | rfl | rfl | rfl | rfl | rfl | rfl | rfl | rfl | rfl
  · exact verbCrownStatus_frame rfl
  · exact verbCrownModel_frame rfl
  · exact verbCrownLoad_frame rfl
  · exact verbCrownBind_frame rfl
  · exact verbCrownCalib_frame rfl
  · exact verbCrownOutbuf_frame rfl
  · exact verbCrownStart_frame rfl
  · exact verbCrownStop_frame rfl
  · exact verbCrownHostbuf_frame rfl
  · exact verbCrownResult_frame rfl
theorem verbsCtrl_frame : ∀ v ∈ verbsCtrl, v.Keeps 2751463422 := by
  intro v hv
  simp only [verbsCtrl, List.mem_cons, List.not_mem_nil, or_false] at hv
  rcases hv with rfl | rfl | rfl | rfl | rfl | rfl | rfl | rfl | rfl
  · exact verbCtrlStatus_frame rfl
  · exact verbCtrlLoad_frame rfl
  · exact verbCtrlEnable_frame rfl
  · exact verbCtrlDisable_frame rfl
  · exact verbCtrlSetpoint_frame rfl
  · exact verbCtrlTrace_frame rfl
  · exact verbCtrlTraceRead_frame rfl
  · exact verbCtrlHostbuf_frame rfl
  · exact verbCtrlU_frame rfl
theorem verbsEth_frame : ∀ v ∈ verbsEth, v.Keeps 2751463422 := by
  intro v hv
  simp only [verbsEth, List.mem_cons, List.not_mem_nil, or_false] at hv
  rcases hv with rfl | rfl | rfl | rfl | rfl | rfl
  · exact verbEthStatus_frame rfl
  · exact verbEthConfig_frame rfl
  · exact verbEthGates_frame rfl
  · exact verbEthLidar_frame rfl
  · exact verbEthSigport_frame rfl
  · exact verbEthHostring_frame rfl
theorem verbsFan_frame : ∀ v ∈ verbsFan, v.Keeps 2751463422 := by
  intro v hv
  simp only [verbsFan, List.mem_cons, List.not_mem_nil, or_false] at hv
  rcases hv with rfl | rfl | rfl | rfl | rfl | rfl
  · exact verbFanStatus_frame rfl
  · exact verbFanConfig_frame rfl
  · exact verbFanTable_frame rfl
  · exact verbFanSet_frame rfl
  · exact verbFanClear_frame rfl
  · exact verbFanResult_frame rfl
theorem verbsFaults_frame : ∀ v ∈ verbsFaults, v.Keeps 2751463422 := by
  intro v hv
  simp only [verbsFaults, List.mem_cons, List.not_mem_nil, or_false] at hv
  rcases hv with rfl | rfl
  · exact verbFaultStatus_frame rfl
  · exact verbFaultRaise_frame rfl
theorem verbsGnss_frame : ∀ v ∈ verbsGnss, v.Keeps 2751463422 := by
  intro v hv
  simp only [verbsGnss, List.mem_cons, List.not_mem_nil, or_false] at hv
  rcases hv with rfl | rfl | rfl | rfl | rfl | rfl | rfl | rfl | rfl | rfl | rfl | rfl | rfl
  · exact verbGnssStatus_frame rfl
  · exact verbGnssFix_frame rfl
  · exact verbGnssConfig_frame rfl
  · exact verbGnssAntenna_frame rfl
  · exact verbGnssCorr_frame rfl
  · exact verbGnssRtcm_frame rfl
  · exact verbGnssOrigin_frame rfl
  · exact verbGnssLine_frame rfl
  · exact verbGnssGuard_frame rfl
  · exact verbGnssHostbuf_frame rfl
  · exact verbGnssSolution_frame rfl
  · exact verbImuStatus_frame rfl
  · exact verbImuConfig_frame rfl
theorem verbsGraft_frame : ∀ v ∈ verbsGraft, v.Keeps 2751463422 := by
  intro v hv
  simp only [verbsGraft, List.mem_cons, List.not_mem_nil, or_false] at hv
  rcases hv with rfl | rfl | rfl | rfl | rfl | rfl | rfl | rfl | rfl | rfl
  · exact verbGraftStatus_frame rfl
  · exact verbGraftMissing_frame rfl
  · exact verbGraftOpen_frame rfl
  · exact verbGraftPiece_frame rfl
  · exact verbGraftDiscard_frame rfl
  · exact verbGraftActivate_frame rfl
  · exact verbGraftConfirm_frame rfl
  · exact verbGraftFallback_frame rfl
  · exact verbGraftYield_frame rfl
  · exact verbGraftTake_frame rfl
theorem verbsGranary_frame : ∀ v ∈ verbsGranary, v.Keeps 2751463422 := by
  intro v hv
  simp only [verbsGranary, List.mem_cons, List.not_mem_nil, or_false] at hv
  rcases hv with rfl | rfl | rfl | rfl | rfl | rfl | rfl | rfl | rfl
  · exact verbGranaryStatus_frame rfl
  · exact verbGranaryConfig_frame rfl
  · exact verbGranarySections_frame rfl
  · exact verbGranaryCalib_frame rfl
  · exact verbGranaryOpen_frame rfl
  · exact verbGranaryClose_frame rfl
  · exact verbGranaryCorrect_frame rfl
  · exact verbGranaryHostbuf_frame rfl
  · exact verbGranaryResult_frame rfl
theorem verbsKeeper_frame : ∀ v ∈ verbsKeeper, v.Keeps 2751463422 := by
  intro v hv
  simp only [verbsKeeper, List.mem_cons, List.not_mem_nil, or_false] at hv
  rcases hv with rfl | rfl | rfl | rfl | rfl
  · exact verbKeeperNop_frame rfl
  · exact verbKeeperMode_frame rfl
  · exact verbKeeperSigRead_frame rfl
  · exact verbKeeperSigWrite_frame rfl
  · exact verbKeeperEvtMask_frame rfl
theorem verbsLin_frame : ∀ v ∈ verbsLin, v.Keeps 2751463422 := by
  intro v hv
  simp only [verbsLin, List.mem_cons, List.not_mem_nil, or_false] at hv
  rcases hv with rfl | rfl | rfl | rfl | rfl | rfl | rfl
  · exact verbLinStatus_frame rfl
  · exact verbLinRead_frame rfl
  · exact verbLinConfig_frame rfl
  · exact verbLinTable_frame rfl
  · exact verbLinSchedule_frame rfl
  · exact verbLinWrite_frame rfl
  · exact verbLinSleep_frame rfl
theorem verbsNm_frame : ∀ v ∈ verbsNm, v.Keeps 2751463422 := by
  intro v hv
  simp only [verbsNm, List.mem_cons, List.not_mem_nil, or_false] at hv
  rcases hv with rfl | rfl | rfl | rfl | rfl
  · exact verbNmStatus_frame rfl
  · exact verbNmWakeCause_frame rfl
  · exact verbNmConfig_frame rfl
  · exact verbNmRequest_frame rfl
  · exact verbNmCanwake_frame rfl
theorem verbsOuts_frame : ∀ v ∈ verbsOuts, v.Keeps 2751463422 := by
  intro v hv
  simp only [verbsOuts, List.mem_cons, List.not_mem_nil, or_false] at hv
  rcases hv with rfl | rfl | rfl | rfl | rfl | rfl | rfl | rfl | rfl | rfl
  · exact verbOutStatus_frame rfl
  · exact verbOutConfig_frame rfl
  · exact verbOutSet_frame rfl
  · exact verbOutClear_frame rfl
  · exact verbOutParkhold_frame rfl
  · exact verbHbStatus_frame rfl
  · exact verbHbConfig_frame rfl
  · exact verbHbDrive_frame rfl
  · exact verbHbClear_frame rfl
  · exact verbHbPosition_frame rfl
theorem verbsPantry_frame : ∀ v ∈ verbsPantry, v.Keeps 2751463422 := by
  intro v hv
  simp only [verbsPantry, List.mem_cons, List.not_mem_nil, or_false] at hv
  rcases hv with rfl
  · exact verbCanPantry_frame rfl
theorem verbsPlate_frame : ∀ v ∈ verbsPlate, v.Keeps 2751463422 := by
  intro v hv
  simp only [verbsPlate, List.mem_cons, List.not_mem_nil, or_false] at hv
  rcases hv with rfl | rfl | rfl | rfl | rfl
  · exact verbPlateStatus_frame rfl
  · exact verbPlateConfig_frame rfl
  · exact verbPlateWaveform_frame rfl
  · exact verbPlateUpdate_frame rfl
  · exact verbPlatePark_frame rfl
theorem verbsPower_frame : ∀ v ∈ verbsPower, v.Keeps 2751463422 := by
  intro v hv
  simp only [verbsPower, List.mem_cons, List.not_mem_nil, or_false] at hv
  rcases hv with rfl | rfl | rfl | rfl | rfl
  · exact verbPowerStatus_frame rfl
  · exact verbPowerConfig_frame rfl
  · exact verbPowerRequest_frame rfl
  · exact verbPowerRun_frame rfl
  · exact verbThermalStatus_frame rfl
theorem verbsRoot_frame : ∀ v ∈ verbsRoot, v.Keeps 2751463422 := by
  intro v hv
  simp only [verbsRoot, List.mem_cons, List.not_mem_nil, or_false] at hv
  rcases hv with rfl | rfl | rfl | rfl
  · exact verbRootStatus_frame rfl
  · exact verbRootLinkStatus_frame rfl
  · exact verbRootRestart_frame rfl
  · exact verbReflexStatus_frame rfl
theorem verbsSensing_frame : ∀ v ∈ verbsSensing, v.Keeps 2751463422 := by
  intro v hv
  simp only [verbsSensing, List.mem_cons, List.not_mem_nil, or_false] at hv
  rcases hv with rfl | rfl | rfl | rfl | rfl | rfl | rfl | rfl | rfl | rfl | rfl | rfl | rfl | rfl | rfl | rfl | rfl | rfl
  · exact verbLossStatus_frame rfl
  · exact verbLossConfig_frame rfl
  · exact verbLossTemplates_frame rfl
  · exact verbLossSnip_frame rfl
  · exact verbHostbuf_frame _ rfl
  · exact verbResult_frame _ rfl
  · exact verbBridgeConfig_frame rfl
  · exact verbBridgeTare_frame rfl
  · exact verbBridgeStatus_frame rfl
  · exact verbHostbuf_frame _ rfl
  · exact verbResult_frame _ rfl
  · exact verbAinConfig_frame rfl
  · exact verbHostbuf_frame _ rfl
  · exact verbResult_frame _ rfl
  · exact verbFreqConfig_frame rfl
  · exact verbHostbuf_frame _ rfl
  · exact verbResult_frame _ rfl
  · exact verbSupConfig_frame rfl
theorem verbsSwin_frame : ∀ v ∈ verbsSwin, v.Keeps 2751463422 := by
  intro v hv
  simp only [verbsSwin, List.mem_cons, List.not_mem_nil, or_false] at hv
  rcases hv with rfl | rfl
  · exact verbSwinRead_frame rfl
  · exact verbSwinConfig_frame rfl
theorem verbsTime_frame : ∀ v ∈ verbsTime, v.Keeps 2751463422 := by
  intro v hv
  simp only [verbsTime, List.mem_cons, List.not_mem_nil, or_false] at hv
  rcases hv with rfl
  · exact verbTimeRole_frame rfl
theorem verbsValve_frame : ∀ v ∈ verbsValve, v.Keeps 2751463422 := by
  intro v hv
  simp only [verbsValve, List.mem_cons, List.not_mem_nil, or_false] at hv
  rcases hv with rfl | rfl | rfl | rfl | rfl
  · exact verbValveStatus_frame rfl
  · exact verbValveConfig_frame rfl
  · exact verbValveSet_frame rfl
  · exact verbValveClear_frame rfl
  · exact verbValveDuty_frame rfl
theorem keeps_append {l k : List Verb} {H : Nat} (a : ∀ v ∈ l, v.Keeps H) (b : ∀ v ∈ k, v.Keeps H) :
    ∀ v ∈ l ++ k, v.Keeps H := List.forall_mem_append.2 ⟨a, b⟩
theorem allVerbs_frame : ∀ v ∈ allVerbs, v.Keeps 2751463422 := by
  unfold allVerbs
  repeat' with_reducible apply keeps_append
  exacts [verbsAttic_frame, verbsBody_frame, verbsCam_frame, verbsCan_frame, verbsCanTp_frame, verbsCrown_frame,
    verbsCtrl_frame, verbsEth_frame, verbsFan_frame, verbsFaults_frame, verbsGnss_frame, verbsGraft_frame,
    verbsGranary_frame, verbsKeeper_frame, verbsLin_frame, verbsNm_frame, verbsOuts_frame, verbsPantry_frame,
    verbsPlate_frame, verbsPower_frame, verbsRoot_frame, verbsSensing_frame, verbsSwin_frame, verbsTime_frame,
    verbsValve_frame]
theorem verbOf_frame {u n : Nat} {v : Verb} (h : verbOf u n = some v) : v.Keeps 2751463422 :=
  allVerbs_frame v (List.mem_of_find?_eq_some h)
@[simp ↓] theorem State.takeSlot_frame (s r) {H : Nat} (h : H &&& 2751463422 = 2751463422) : (State.takeSlot s r).without H = s.without H := by
  refine lift h ?_
  unfold State.takeSlot
  refine without_ite (State.refuse_frame _ _ _ rfl) (without_ite (State.refuse_frame _ _ _ rfl) ?_)
  split
  · exact State.refuse_frame _ _ _ rfl
  · next v h => exact State.take_frame _ _ _ rfl (verbOf_frame h)
@[simp ↓] theorem State.consumeOne_frame (s) (a1) {H : Nat} (h : H &&& 2751463422 = 2751463422) :
    (State.consumeOne s a1).without H = s.without H := by
  refine lift h ?_
  unfold State.consumeOne
  repeat' (first
    | with_reducible rfl | with_reducible (refine without_ite ?_ ?_)
    | simp only [↓State.takeSlot_frame, ↓State.modWin_frame, Nat.reduceAnd]
    | split | dsimp only)
@[simp ↓] theorem State.consume_frame (s a1 n) {H : Nat} (h : H &&& 2751463422 = 2751463422) : (State.consume s a1 n).without H = s.without H := by
  induction n generalizing s with
  | zero => rfl
  | succ n ih => unfold State.consume; rw [ih, State.consumeOne_frame _ _ h]
@[simp ↓] theorem State.releaseHeld_frame (s w) {H : Nat} (h : H &&& 2751463422 = 2751463422) : (State.releaseHeld s w).without H = s.without H := by
  refine lift h ?_
  unfold State.releaseHeld
  dsimp only
  rw [foldl_frame _ (fun a x => ?_)]
  · exact without_ite rfl (State.modWin_frame _ _ _ rfl)
  · split
    · next v h => exact State.serve_frame _ _ _ _ rfl (verbOf_frame h)
    · rfl
@[simp ↓] theorem State.startWaiting_frame (s w) {H : Nat} (h : H &&& 2751463422 = 2751463422) : (State.startWaiting s w).without H = s.without H := by
  refine lift h ?_
  unfold State.startWaiting
  rw [foldl_fst_frame _ (fun a x => ?_)]
  dsimp only
  split
  · rfl
  · split
    · next v h => exact (State.start_frame _ _ _ rfl (verbOf_frame h)).trans (State.modWin_frame _ _ _ rfl)
    · rfl
@[simp ↓] theorem State.serveWin_frame (s) (a1) {H : Nat} (h : H &&& 2751463422 = 2751463422) :
    (State.serveWin s a1).without H = s.without H := by
  refine lift h ?_
  unfold State.serveWin
  repeat' (first
    | with_reducible rfl | with_reducible (refine without_ite ?_ ?_)
    | simp only [↓State.startWaiting_frame, ↓State.releaseHeld_frame, ↓State.drainWin_frame, Nat.reduceAnd]
    | split | dsimp only)
@[simp ↓] theorem State.consumeRound_frame (s l n) {H : Nat} (h : H &&& 2751463422 = 2751463422) : (State.consumeRound s l n).without H = s.without H := by
  induction n generalizing s with
  | zero => rfl
  | succ n ih => unfold State.consumeRound; rw [ih, foldl_frame _ (fun a x => State.consumeOne_frame a x h)]
@[simp ↓] theorem State.keeperTurn_frame (s) {H : Nat} (h : H &&& 2751463422 = 2751463422) :
    (State.keeperTurn s).without H = s.without H := by
  refine lift h ?_
  unfold State.keeperTurn
  repeat' (first
    | with_reducible rfl | with_reducible (refine without_ite ?_ ?_) | with_reducible (refine (foldl_frame _ (fun a x => ?_) _ _).trans ?_) | with_reducible (refine (foldl_fst_frame _ (fun a x => ?_) _ _).trans ?_)
    | simp only [↓State.failoverEnd_frame, ↓State.serveWin_frame, ↓State.consume_frame, ↓State.consumeRound_frame,
      Nat.reduceAnd]
    | split | dsimp only)
@[simp ↓] theorem State.cmdProdWrite_frame (s) (a1) (a2) (a3) {H : Nat} (h : H &&& 2751463422 = 2751463422) :
    (State.cmdProdWrite s a1 a2 a3).without H = s.without H := by
  refine lift h ?_
  unfold State.cmdProdWrite
  repeat' (first
    | with_reducible rfl | with_reducible (refine without_ite ?_ ?_)
    | simp only [↓State.stores_frame, ↓State.keeperTurn_frame, ↓State.modWin_frame, ↓State.ringError_frame, Nat.reduceAnd]
    | split | dsimp only)
@[simp ↓] theorem State.rplConsWrite_frame (s) (a1) (a2) {H : Nat} (h : H &&& 2751463422 = 2751463422) :
    (State.rplConsWrite s a1 a2).without H = s.without H := by
  refine lift h ?_
  unfold State.rplConsWrite
  repeat' (first
    | with_reducible rfl | with_reducible (refine without_ite ?_ ?_)
    | simp only [↓State.keeperTurn_frame, ↓State.modWin_frame, ↓State.ringError_frame, Nat.reduceAnd]
    | split | dsimp only)
@[simp ↓] theorem State.registerWrite_frame (s) (a1) (a2) (a3) (a4) {H : Nat} (h : H &&& 2751463422 = 2751463422) :
    (State.registerWrite s a1 a2 a3 a4).without H = s.without H := by
  refine lift h ?_
  unfold State.registerWrite
  repeat' (first
    | with_reducible rfl | with_reducible (refine without_ite ?_ ?_)
    | simp only [↓State.modWin_frame, ↓State.cmdProdWrite_frame, ↓State.rplConsWrite_frame, ↓State.evtConsWrite_frame,
      ↓State.irqClear_frame, ↓State.hostHbWrite_frame, ↓State.snapWrite_frame, ↓State.blockWrite_frame, Nat.reduceAnd]
    | split | dsimp only)
@[simp ↓] theorem State.deadlineDrop_frame (s) (a1) {H : Nat} (h : H &&& 2751463422 = 2751463422) :
    (State.deadlineDrop s a1).without H = s.without H := by
  refine lift h ?_
  unfold State.deadlineDrop
  repeat' (first
    | with_reducible rfl | with_reducible (refine without_ite ?_ ?_) | with_reducible (refine (foldl_frame _ (fun a x => ?_) _ _).trans ?_) | with_reducible (refine (foldl_fst_frame _ (fun a x => ?_) _ _).trans ?_)
    | simp only [↓State.modWin_frame, ↓State.answer_frame, Nat.reduceAnd]
    | split | dsimp only)
@[simp ↓] theorem State.pauseEnd_frame (s) (a1) {H : Nat} (h : H &&& 2751463422 = 2751463422) :
    (State.pauseEnd s a1).without H = s.without H := by
  refine lift h ?_
  unfold State.pauseEnd
  repeat' (first
    | with_reducible rfl | with_reducible (refine without_ite ?_ ?_)
    | simp only [↓State.keeperTurn_frame, ↓State.nmEvalAll_frame, ↓State.tpResume_frame, ↓State.bodyResume_frame,
      Nat.reduceAnd]
    | split | dsimp only)

end Sys2Proof.Machine
end

