-- ==== Sys2Proof/Laws/FrameRow0.lean ====
section
/-! SUPPORT. Laws/FrameRow0.lean: what each command leaves alone: it answers a next state that differs only in the pieces of its mask. A mask has a bit for each piece of `Piece`. -/

set_option linter.all false

namespace Sys2Proof.Machine
theorem execLossStrikeOnset_frame (a0) (a1) (s) : ∃ t, execLossStrikeOnset a0 a1 s = .next t ∧ t.without 34 = s.without 34 := by
  refine ⟨_, rfl, ?_⟩
  repeat' (first
    | with_reducible rfl | with_reducible (refine without_ite ?_ ?_)
    | simp only [↓State.snipSettle_frame, ↓State.modLoss_frame, Nat.reduceAnd]
    | split | dsimp only)
theorem execLossStrikeEnd_frame (a0) (a1) (s) : ∃ t, execLossStrikeEnd a0 a1 s = .next t ∧ t.without 33554470 = s.without 33554470 := by
  refine ⟨_, rfl, ?_⟩
  repeat' (first
    | with_reducible rfl | with_reducible (refine without_ite ?_ ?_) | with_reducible (refine (foldl_frame _ (fun a x => ?_) _ _).trans ?_) | with_reducible (refine (foldl_fst_frame _ (fun a x => ?_) _ _).trans ?_)
    | simp only [↓State.snipSettle_frame, ↓State.waitTo_frame, ↓State.modLoss_frame, ↓State.snipTake_frame, Nat.reduceAnd]
    | split | dsimp only)
theorem execLossBinClose_frame (s) : ∃ t, execLossBinClose s = .next t ∧ t.without 589303870 = s.without 589303870 := by
  refine ⟨_, rfl, ?_⟩
  repeat' (first
    | with_reducible rfl | with_reducible (refine without_ite ?_ ?_) | with_reducible (refine (foldl_frame _ (fun a x => ?_) _ _).trans ?_) | with_reducible (refine (foldl_fst_frame _ (fun a x => ?_) _ _).trans ?_)
    | simp only [↓State.lossClose_frame, ↓State.boundary_frame, Nat.reduceAnd]
    | split | dsimp only)
theorem execLossSensorTest_frame (a0) (s) : ∃ t, execLossSensorTest a0 s = .next t ∧ t.without 33554468 = s.without 33554468 := by
  refine ⟨_, rfl, ?_⟩
  repeat' (first
    | with_reducible rfl | with_reducible (refine without_ite ?_ ?_)
    | simp only [↓State.waitTo_frame, ↓State.modLoss_frame, Nat.reduceAnd]
    | split | dsimp only)
theorem execLossSensorTestEnd_frame (a0) (a1) (s) : ∃ t, execLossSensorTestEnd a0 a1 s = .next t ∧ t.without 52428846 = s.without 52428846 := by
  refine ⟨_, rfl, ?_⟩
  repeat' (first
    | with_reducible rfl | with_reducible (refine without_ite ?_ ?_)
    | simp only [↓State.waitTo_frame, ↓State.modLoss_frame, ↓State.raiseEv_frame, ↓State.clearFault_frame, Nat.reduceAnd]
    | split | dsimp only)
theorem execHostBlockWrite_frame (a0) (a1) (s) : ∃ t, execHostBlockWrite a0 a1 s = .next t ∧ t.without 33554486 = s.without 33554486 := by
  refine ⟨_, rfl, ?_⟩
  repeat' (first
    | with_reducible rfl | with_reducible (refine without_ite ?_ ?_) | with_reducible (refine (foldl_frame _ (fun a x => ?_) _ _).trans ?_) | with_reducible (refine (foldl_fst_frame _ (fun a x => ?_) _ _).trans ?_)
    | simp only [↓State.boundary_frame, ↓State.regionDone_frame, ↓State.regionWrite_frame, ↓State.modSense_frame,
      ↓State.sensePeriod_frame, ↓State.modFreq_frame, Nat.reduceAnd]
    | split | dsimp only)
theorem execBridgeSample_frame (a0) (s) : ∃ t, execBridgeSample a0 s = .next t ∧ t.without 570429502 = s.without 570429502 := by
  refine ⟨_, rfl, ?_⟩
  repeat' (first
    | with_reducible rfl | with_reducible (refine without_ite ?_ ?_) | with_reducible (refine (foldl_frame _ (fun a x => ?_) _ _).trans ?_) | with_reducible (refine (foldl_fst_frame _ (fun a x => ?_) _ _).trans ?_)
    | simp only [↓State.bridgeSample_frame, ↓State.boundary_frame, Nat.reduceAnd]
    | split | dsimp only)
theorem execBridgeExcFault_frame (a0) (a1) (s) : ∃ t, execBridgeExcFault a0 a1 s = .next t ∧ t.without 18874426 = s.without 18874426 := by
  refine ⟨_, rfl, ?_⟩
  repeat' (first
    | with_reducible rfl | with_reducible (refine without_ite ?_ ?_)
    | simp only [↓State.raiseEv_frame, ↓State.modBridge_frame, ↓State.modFlags_frame, Nat.reduceAnd]
    | split | dsimp only)
theorem execBridgeSenseOpen_frame (a0) (a1) (s) : ∃ t, execBridgeSenseOpen a0 a1 s = .next t ∧ t.without 18874426 = s.without 18874426 := by
  refine ⟨_, rfl, ?_⟩
  repeat' (first
    | with_reducible rfl | with_reducible (refine without_ite ?_ ?_)
    | simp only [↓State.clearFault_frame, ↓State.modBridge_frame, ↓State.raiseEv_frame, ↓State.modFlags_frame,
      Nat.reduceAnd]
    | split | dsimp only)
theorem execBridgeOverrange_frame (a0) (s) : ∃ t, execBridgeOverrange a0 s = .next t ∧ t.without 52428846 = s.without 52428846 := by
  refine ⟨_, rfl, ?_⟩
  repeat' (first
    | with_reducible rfl | with_reducible (refine without_ite ?_ ?_)
    | simp only [↓State.raiseEv_frame, ↓State.modBridge_frame, ↓State.waitTo_frame, Nat.reduceAnd]
    | split | dsimp only)
theorem execSupOverload_frame (a0) (a1) (a2) (s) : ∃ t, execSupOverload a0 a1 a2 s = .next t ∧ t.without 52428862 = s.without 52428862 := by
  refine ⟨_, rfl, ?_⟩
  repeat' (first
    | with_reducible rfl | with_reducible (refine without_ite ?_ ?_)
    | simp only [↓State.modSup_frame, ↓State.supFaultLinked_frame, ↓State.waitTo_frame, ↓State.raiseEv_frame,
      Nat.reduceAnd]
    | split | dsimp only)
theorem execSupBackfed_frame (a0) (a1) (s) : ∃ t, execSupBackfed a0 a1 s = .next t ∧ t.without 18874426 = s.without 18874426 := by
  refine ⟨_, rfl, ?_⟩
  repeat' (first
    | with_reducible rfl | with_reducible (refine without_ite ?_ ?_)
    | simp only [↓State.modSup_frame, ↓State.raiseEv_frame, ↓State.supFaultLinked_frame, Nat.reduceAnd]
    | split | dsimp only)
theorem execSupRetry_frame (a0) (s) : ∃ t, execSupRetry a0 s = .next t ∧ t.without 33554468 = s.without 33554468 := by
  refine ⟨_, rfl, ?_⟩
  repeat' (first
    | with_reducible rfl | with_reducible (refine without_ite ?_ ?_)
    | simp only [↓State.waitTo_frame, ↓State.modSup_frame, Nat.reduceAnd]
    | split | dsimp only)
theorem execSupRegulationSettled_frame (a0) (s) : ∃ t, execSupRegulationSettled a0 s = .next t ∧ t.without 33554478 = s.without 33554478 := by
  refine ⟨_, rfl, ?_⟩
  repeat' (first
    | with_reducible rfl | with_reducible (refine without_ite ?_ ?_)
    | simp only [↓State.modSup_frame, ↓State.waitTo_frame, ↓State.clearFault_frame, Nat.reduceAnd]
    | split | dsimp only)
theorem execAinSample_frame (a0) (a1) (s) : ∃ t, execAinSample a0 a1 s = .next t ∧ t.without 33558590 = s.without 33558590 := by
  refine ⟨_, rfl, ?_⟩
  repeat' (first
    | with_reducible rfl | with_reducible (refine without_ite ?_ ?_) | with_reducible (refine (foldl_frame _ (fun a x => ?_) _ _).trans ?_) | with_reducible (refine (foldl_fst_frame _ (fun a x => ?_) _ _).trans ?_)
    | simp only [↓State.boundary_frame, ↓State.ainConvert_frame, ↓State.setSig_frame, Nat.reduceAnd]
    | split | dsimp only)
theorem execAinDiag_frame (a0) (s) : ∃ t, execAinDiag a0 s = .next t ∧ t.without 52428862 = s.without 52428862 := by
  refine ⟨_, rfl, ?_⟩
  repeat' (first
    | with_reducible rfl | with_reducible (refine without_ite ?_ ?_)
    | simp only [↓State.waitTo_frame, ↓State.clearFault_frame, ↓State.raiseEv_frame, ↓State.modAin_frame,
      ↓State.modFlags_frame, Nat.reduceAnd]
    | split | dsimp only)
theorem execAinShuntOff_frame (a0) (s) : ∃ t, execAinShuntOff a0 s = .next t ∧ t.without 52428846 = s.without 52428846 := by
  refine ⟨_, rfl, ?_⟩
  repeat' (first
    | with_reducible rfl | with_reducible (refine without_ite ?_ ?_)
    | simp only [↓State.waitTo_frame, ↓State.raiseEv_frame, ↓State.modAin_frame, Nat.reduceAnd]
    | split | dsimp only)
theorem execAinShuntReconnect_frame (a0) (s) : ∃ t, execAinShuntReconnect a0 s = .next t ∧ t.without 33554478 = s.without 33554478 := by
  refine ⟨_, rfl, ?_⟩
  repeat' (first
    | with_reducible rfl | with_reducible (refine without_ite ?_ ?_)
    | simp only [↓State.clearFault_frame, ↓State.modAin_frame, ↓State.waitTo_frame, Nat.reduceAnd]
    | split | dsimp only)
theorem execFreqEdge_frame (a0) (a1) (a2) (a3) (s) : ∃ t, execFreqEdge a0 a1 a2 a3 s = .next t ∧ t.without 18874410 = s.without 18874410 := by
  refine ⟨_, rfl, ?_⟩
  repeat' (first
    | with_reducible rfl | with_reducible (refine without_ite ?_ ?_)
    | simp only [↓State.quadStep_frame, ↓State.levelStep_frame, ↓State.modFreq_frame, Nat.reduceAnd]
    | split | dsimp only)
theorem execFreqGateEnd_frame (a0) (s) : ∃ t, execFreqGateEnd a0 s = .next t ∧ t.without 33558580 = s.without 33558580 := by
  refine ⟨_, rfl, ?_⟩
  repeat' (first
    | with_reducible rfl | with_reducible (refine without_ite ?_ ?_)
    | simp only [↓State.boundary_frame, ↓State.modFreq_frame, ↓State.setSig_frame, Nat.reduceAnd]
    | split | dsimp only)
theorem execFreqComparatorTimeout_frame (a0) (s) : ∃ t, execFreqComparatorTimeout a0 s = .next t ∧ t.without 33554468 = s.without 33554468 := by
  refine ⟨_, rfl, ?_⟩
  repeat' (first
    | with_reducible rfl | with_reducible (refine without_ite ?_ ?_)
    | simp only [↓State.modFreq_frame, ↓State.waitTo_frame, Nat.reduceAnd]
    | split | dsimp only)
theorem execFreqWiringCheck_frame (a0) (a1) (a2) (s) : ∃ t, execFreqWiringCheck a0 a1 a2 s = .next t ∧ t.without 52428862 = s.without 52428862 := by
  refine ⟨_, rfl, ?_⟩
  repeat' (first
    | with_reducible rfl | with_reducible (refine without_ite ?_ ?_) | with_reducible (refine (foldl_frame _ (fun a x => ?_) _ _).trans ?_) | with_reducible (refine (foldl_fst_frame _ (fun a x => ?_) _ _).trans ?_)
    | simp only [↓State.boundary_frame, ↓State.modFreq_frame, ↓State.clearFault_frame, ↓State.raiseEv_frame,
      ↓State.modFlags_frame, Nat.reduceAnd]
    | split | dsimp only)
theorem execLossStatus_frame (a0) (s) : ∃ t, execLossStatus a0 s = .next t ∧ t.without 2 = s.without 2 :=
  ⟨_, rfl, State.mailbox_frame s _ _ rfl (verbLossStatus_frame rfl)⟩
theorem execLossConfig_frame (a0) (s) : ∃ t, execLossConfig a0 s = .next t ∧ t.without 536870946 = s.without 536870946 :=
  ⟨_, rfl, State.mailbox_frame s _ _ rfl (verbLossConfig_frame rfl)⟩
theorem execLossTemplates_frame (a0) (s) : ∃ t, execLossTemplates a0 s = .next t ∧ t.without 536870946 = s.without 536870946 :=
  ⟨_, rfl, State.mailbox_frame s _ _ rfl (verbLossTemplates_frame rfl)⟩
theorem execLossSnip_frame (a0) (s) : ∃ t, execLossSnip a0 s = .next t ∧ t.without 34 = s.without 34 :=
  ⟨_, rfl, State.mailbox_frame s _ _ rfl (verbLossSnip_frame rfl)⟩
theorem execLossHostbuf_frame (a0) (s) : ∃ t, execLossHostbuf a0 s = .next t ∧ t.without 536870946 = s.without 536870946 :=
  ⟨_, rfl, State.mailbox_frame s _ _ rfl (verbHostbuf_frame _ rfl)⟩
theorem execLossResult_frame (a0) (s) : ∃ t, execLossResult a0 s = .next t ∧ t.without 4114 = s.without 4114 :=
  ⟨_, rfl, State.mailbox_frame s _ _ rfl (verbResult_frame _ rfl)⟩
theorem execBridgeConfig_frame (a0) (s) : ∃ t, execBridgeConfig a0 s = .next t ∧ t.without 536870970 = s.without 536870970 :=
  ⟨_, rfl, State.mailbox_frame s _ _ rfl (verbBridgeConfig_frame rfl)⟩
theorem execBridgeTare_frame (a0) (s) : ∃ t, execBridgeTare a0 s = .next t ∧ t.without 536870946 = s.without 536870946 :=
  ⟨_, rfl, State.mailbox_frame s _ _ rfl (verbBridgeTare_frame rfl)⟩
theorem execBridgeStatus_frame (a0) (s) : ∃ t, execBridgeStatus a0 s = .next t ∧ t.without 2 = s.without 2 :=
  ⟨_, rfl, State.mailbox_frame s _ _ rfl (verbBridgeStatus_frame rfl)⟩
theorem execBridgeHostbuf_frame (a0) (s) : ∃ t, execBridgeHostbuf a0 s = .next t ∧ t.without 536870946 = s.without 536870946 :=
  ⟨_, rfl, State.mailbox_frame s _ _ rfl (verbHostbuf_frame _ rfl)⟩
theorem execBridgeResult_frame (a0) (s) : ∃ t, execBridgeResult a0 s = .next t ∧ t.without 4114 = s.without 4114 :=
  ⟨_, rfl, State.mailbox_frame s _ _ rfl (verbResult_frame _ rfl)⟩
theorem execAinConfig_frame (a0) (s) : ∃ t, execAinConfig a0 s = .next t ∧ t.without 536870970 = s.without 536870970 :=
  ⟨_, rfl, State.mailbox_frame s _ _ rfl (verbAinConfig_frame rfl)⟩
theorem execAinHostbuf_frame (a0) (s) : ∃ t, execAinHostbuf a0 s = .next t ∧ t.without 536870946 = s.without 536870946 :=
  ⟨_, rfl, State.mailbox_frame s _ _ rfl (verbHostbuf_frame _ rfl)⟩
theorem execAinResult_frame (a0) (s) : ∃ t, execAinResult a0 s = .next t ∧ t.without 4114 = s.without 4114 :=
  ⟨_, rfl, State.mailbox_frame s _ _ rfl (verbResult_frame _ rfl)⟩
theorem execFreqConfig_frame (a0) (s) : ∃ t, execFreqConfig a0 s = .next t ∧ t.without 536870970 = s.without 536870970 :=
  ⟨_, rfl, State.mailbox_frame s _ _ rfl (verbFreqConfig_frame rfl)⟩
theorem execFreqHostbuf_frame (a0) (s) : ∃ t, execFreqHostbuf a0 s = .next t ∧ t.without 536870946 = s.without 536870946 :=
  ⟨_, rfl, State.mailbox_frame s _ _ rfl (verbHostbuf_frame _ rfl)⟩
theorem execFreqResult_frame (a0) (s) : ∃ t, execFreqResult a0 s = .next t ∧ t.without 4114 = s.without 4114 :=
  ⟨_, rfl, State.mailbox_frame s _ _ rfl (verbResult_frame _ rfl)⟩
theorem execSupConfig_frame (a0) (s) : ∃ t, execSupConfig a0 s = .next t ∧ t.without 536870970 = s.without 536870970 :=
  ⟨_, rfl, State.mailbox_frame s _ _ rfl (verbSupConfig_frame rfl)⟩
theorem execNmRingMessage_frame (a0) (a1) (a2) (s) : ∃ t, execNmRingMessage a0 a1 a2 s = .next t ∧ t.without 1835018 = s.without 1835018 := by
  refine ⟨_, rfl, ?_⟩
  repeat' (first
    | with_reducible rfl | with_reducible (refine without_ite ?_ ?_)
    | simp only [↓State.nmEval_frame, ↓State.nmGapWake_frame, ↓State.modNet_frame, ↓State.nmAliveSeen_frame,
      ↓State.nmRingSeen_frame, Nat.reduceAnd]
    | split | dsimp only)
theorem execNmRingSend_frame (a0) (s) : ∃ t, execNmRingSend a0 s = .next t ∧ t.without 34865158 = s.without 34865158 := by
  refine ⟨_, rfl, ?_⟩
  repeat' (first
    | with_reducible rfl | with_reducible (refine without_ite ?_ ?_)
    | simp only [↓State.modNet_frame, ↓State.waitTo_frame, ↓State.nmSend_frame, ↓State.nmGap_frame, ↓State.nmState_frame,
      ↓State.nmAborted_frame, Nat.reduceAnd]
    | split | dsimp only)
theorem execNmRingTimeout_frame (a0) (s) : ∃ t, execNmRingTimeout a0 s = .next t ∧ t.without 53739534 = s.without 53739534 := by
  refine ⟨_, rfl, ?_⟩
  repeat' (first
    | with_reducible rfl | with_reducible (refine without_ite ?_ ?_)
    | simp only [↓State.waitTo_frame, ↓State.modNet_frame, ↓State.raiseEv_frame, ↓State.nmIdle_frame,
      ↓State.nmAborted_frame, ↓State.nmAlive_frame, Nat.reduceAnd]
    | split | dsimp only)
theorem execNmWakeInGap_frame (a0) (s) : ∃ t, execNmWakeInGap a0 s = .next t ∧ t.without 1835010 = s.without 1835010 := by
  refine ⟨_, rfl, ?_⟩
  repeat' (first
    | with_reducible rfl | with_reducible (refine without_ite ?_ ?_)
    | simp only [↓State.nmGapWake_frame, Nat.reduceAnd]
    | split | dsimp only)
theorem execNmGapEnd_frame (a0) (s) : ∃ t, execNmGapEnd a0 s = .next t ∧ t.without 35389446 = s.without 35389446 := by
  refine ⟨_, rfl, ?_⟩
  repeat' (first
    | with_reducible rfl | with_reducible (refine without_ite ?_ ?_) | with_reducible (refine (foldl_frame _ (fun a x => ?_) _ _).trans ?_) | with_reducible (refine (foldl_fst_frame _ (fun a x => ?_) _ _).trans ?_)
    | simp only [↓State.waitTo_frame, ↓State.portSleep_frame, ↓State.canSleep_frame, ↓State.nmState_frame,
      ↓State.modNet_frame, ↓State.nmEval_frame, Nat.reduceAnd]
    | split | dsimp only)
theorem execNmTc10AckTimeout_frame (a0) (a1) (s) : ∃ t, execNmTc10AckTimeout a0 a1 s = .next t ∧ t.without 35389446 = s.without 35389446 := by
  refine ⟨_, rfl, ?_⟩
  repeat' (first
    | with_reducible rfl | with_reducible (refine without_ite ?_ ?_)
    | simp only [↓State.nmGapWake_frame, ↓State.waitTo_frame, Nat.reduceAnd]
    | split | dsimp only)
theorem execNmSleepBlocked_frame (a0) (s) : ∃ t, execNmSleepBlocked a0 s = .next t ∧ t.without 34603014 = s.without 34603014 := by
  refine ⟨_, rfl, ?_⟩
  repeat' (first
    | with_reducible rfl | with_reducible (refine without_ite ?_ ?_)
    | simp only [↓State.waitTo_frame, ↓State.modNet_frame, ↓State.post_frame, Nat.reduceAnd]
    | split | dsimp only)
theorem execNmStatus_frame (a0) (s) : ∃ t, execNmStatus a0 s = .next t ∧ t.without 2 = s.without 2 :=
  ⟨_, rfl, State.mailbox_frame s _ _ rfl (verbNmStatus_frame rfl)⟩
theorem execNmWakeCause_frame (a0) (s) : ∃ t, execNmWakeCause a0 s = .next t ∧ t.without 2 = s.without 2 :=
  ⟨_, rfl, State.mailbox_frame s _ _ rfl (verbNmWakeCause_frame rfl)⟩
theorem execNmConfig_frame (a0) (s) : ∃ t, execNmConfig a0 s = .next t ∧ t.without 538705930 = s.without 538705930 :=
  ⟨_, rfl, State.mailbox_frame s _ _ rfl (verbNmConfig_frame rfl)⟩
theorem execNmRequest_frame (a0) (s) : ∃ t, execNmRequest a0 s = .next t ∧ t.without 1835010 = s.without 1835010 :=
  ⟨_, rfl, State.mailbox_frame s _ _ rfl (verbNmRequest_frame rfl)⟩
theorem execNmCanwake_frame (a0) (s) : ∃ t, execNmCanwake a0 s = .next t ∧ t.without 537133058 = s.without 537133058 :=
  ⟨_, rfl, State.mailbox_frame s _ _ rfl (verbNmCanwake_frame rfl)⟩
theorem execCanPantry_frame (a0) (s) : ∃ t, execCanPantry a0 s = .next t ∧ t.without 537133058 = s.without 537133058 :=
  ⟨_, rfl, State.mailbox_frame s _ _ rfl (verbCanPantry_frame rfl)⟩
theorem execCanPantryCommit_frame (s) : ∃ t, execCanPantryCommit s = .next t ∧ t.without 262146 = s.without 262146 := by
  refine ⟨_, rfl, ?_⟩
  repeat' (first
    | with_reducible rfl | with_reducible (refine without_ite ?_ ?_)
    | simp only [↓State.panCommit_frame, ↓without_can, Nat.reduceAnd]
    | split | dsimp only)
theorem execLoopSample_frame (a0) (s) : ∃ t, execLoopSample a0 s = .next t ∧ t.without 52441310 = s.without 52441310 := by
  refine ⟨_, rfl, ?_⟩
  repeat' (first
    | with_reducible rfl | with_reducible (refine without_ite ?_ ?_)
    | simp only [↓State.settle_frame, ↓State.waitTo_frame, ↓State.modLoop_frame, ↓State.gateIdle_frame,
      ↓State.slotEnter_frame, ↓State.latchRefs_frame, ↓State.latch_frame, ↓State.plausible_frame, ↓State.loopBlock_frame,
      ↓State.safeRelease_frame, ↓State.doRelease_frame, ↓State.traceTrig_frame, ↓State.missRate_frame, ↓without_time,
      Nat.reduceAnd]
    | split | dsimp only)
theorem execMissRelease_frame (a0) (a1) (s) : ∃ t, execMissRelease a0 a1 s = .next t ∧ t.without 52441310 = s.without 52441310 := by
  refine ⟨_, rfl, ?_⟩
  repeat' (first
    | with_reducible rfl | with_reducible (refine without_ite ?_ ?_)
    | simp only [↓State.laneMiss_frame, Nat.reduceAnd]
    | split | dsimp only)
theorem execStagingDone_frame (a0) (s) : ∃ t, execStagingDone a0 s = .next t ∧ t.without 52441310 = s.without 52441310 := by
  refine ⟨_, rfl, ?_⟩
  repeat' (first
    | with_reducible rfl | with_reducible (refine without_ite ?_ ?_)
    | simp only [↓State.settle_frame, Nat.reduceAnd]
    | split | dsimp only)
theorem execCtrlHostRelease_frame (a0) (s) : ∃ t, execCtrlHostRelease a0 s = .next t ∧ t.without 33566934 = s.without 33566934 := by
  refine ⟨_, rfl, ?_⟩
  repeat' (first
    | with_reducible rfl | with_reducible (refine without_ite ?_ ?_)
    | simp only [↓State.waitTo_frame, ↓State.hostRelease_frame, ↓State.modLoop_frame, Nat.reduceAnd]
    | split | dsimp only)
theorem execCtrlTraceReadDone_frame (a0) (s) : ∃ t, execCtrlTraceReadDone a0 s = .next t ∧ t.without 66 = s.without 66 := by
  refine ⟨_, rfl, ?_⟩
  repeat' (first
    | with_reducible rfl | with_reducible (refine without_ite ?_ ?_)
    | simp only [↓State.regionEnd_frame, ↓State.regionWrite_frame, ↓State.complete_frame, ↓State.modTrace_frame,
      Nat.reduceAnd]
    | split | dsimp only)
theorem execCtrlStatus_frame (a0) (s) : ∃ t, execCtrlStatus a0 s = .next t ∧ t.without 2 = s.without 2 :=
  ⟨_, rfl, State.mailbox_frame s _ _ rfl (verbCtrlStatus_frame rfl)⟩
theorem execCtrlLoad_frame (a0) (s) : ∃ t, execCtrlLoad a0 s = .next t ∧ t.without 66 = s.without 66 :=
  ⟨_, rfl, State.mailbox_frame s _ _ rfl (verbCtrlLoad_frame rfl)⟩
theorem execCtrlEnable_frame (a0) (s) : ∃ t, execCtrlEnable a0 s = .next t ∧ t.without 66 = s.without 66 :=
  ⟨_, rfl, State.mailbox_frame s _ _ rfl (verbCtrlEnable_frame rfl)⟩
theorem execCtrlDisable_frame (a0) (s) : ∃ t, execCtrlDisable a0 s = .next t ∧ t.without 66 = s.without 66 :=
  ⟨_, rfl, State.mailbox_frame s _ _ rfl (verbCtrlDisable_frame rfl)⟩
theorem execCtrlSetpoint_frame (a0) (s) : ∃ t, execCtrlSetpoint a0 s = .next t ∧ t.without 66 = s.without 66 :=
  ⟨_, rfl, State.mailbox_frame s _ _ rfl (verbCtrlSetpoint_frame rfl)⟩
theorem execCtrlTrace_frame (a0) (s) : ∃ t, execCtrlTrace a0 s = .next t ∧ t.without 66 = s.without 66 :=
  ⟨_, rfl, State.mailbox_frame s _ _ rfl (verbCtrlTrace_frame rfl)⟩
theorem execCtrlTraceRead_frame (a0) (s) : ∃ t, execCtrlTraceRead a0 s = .next t ∧ t.without 66 = s.without 66 :=
  ⟨_, rfl, State.mailbox_frame s _ _ rfl (verbCtrlTraceRead_frame rfl)⟩
theorem execCtrlHostbuf_frame (a0) (s) : ∃ t, execCtrlHostbuf a0 s = .next t ∧ t.without 536870978 = s.without 536870978 :=
  ⟨_, rfl, State.mailbox_frame s _ _ rfl (verbCtrlHostbuf_frame rfl)⟩
theorem execCtrlU_frame (a0) (s) : ∃ t, execCtrlU a0 s = .next t ∧ t.without 33566934 = s.without 33566934 :=
  ⟨_, rfl, State.mailbox_frame s _ _ rfl (verbCtrlU_frame rfl)⟩
theorem execValveMinoffEnd_frame (a0) (s) : ∃ t, execValveMinoffEnd a0 s = .next t ∧ t.without 33554566 = s.without 33554566 := by
  refine ⟨_, rfl, ?_⟩
  repeat' (first
    | with_reducible rfl | with_reducible (refine without_ite ?_ ?_)
    | simp only [↓State.waitTo_frame, ↓State.dropReq_frame, ↓State.valveEnter_frame, Nat.reduceAnd]
    | split | dsimp only)
theorem execValveSlotGrant_frame (a0) (a1) (s) : ∃ t, execValveSlotGrant a0 a1 s = .next t ∧ t.without 18874506 = s.without 18874506 := by
  refine ⟨_, rfl, ?_⟩
  repeat' (first
    | with_reducible rfl | with_reducible (refine without_ite ?_ ?_)
    | simp only [↓State.valveAdvance_frame, ↓State.railIs_frame, Nat.reduceAnd]
    | split | dsimp only)
theorem execValveDeferExpiry_frame (a0) (s) : ∃ t, execValveDeferExpiry a0 s = .next t ∧ t.without 52428942 = s.without 52428942 := by
  refine ⟨_, rfl, ?_⟩
  repeat' (first
    | with_reducible rfl | with_reducible (refine without_ite ?_ ?_)
    | simp only [↓State.takeSlots_frame, ↓State.waitTo_frame, ↓State.dropReq_frame, ↓State.deferRefuse_frame,
      Nat.reduceAnd]
    | split | dsimp only)
theorem execValveBoostWaitEnd_frame (a0) (a1) (s) : ∃ t, execValveBoostWaitEnd a0 a1 s = .next t ∧ t.without 52428942 = s.without 52428942 := by
  refine ⟨_, rfl, ?_⟩
  repeat' (first
    | with_reducible rfl | with_reducible (refine without_ite ?_ ?_)
    | simp only [↓State.railIs_frame, ↓State.dropReq_frame, ↓State.waitTo_frame, ↓State.peakStart_frame,
      ↓State.clearFault_frame, ↓State.notReady_frame, Nat.reduceAnd]
    | split | dsimp only)
theorem execValvePeakEnd_frame (a0) (a1) (s) : ∃ t, execValvePeakEnd a0 a1 s = .next t ∧ t.without 52428942 = s.without 52428942 := by
  refine ⟨_, rfl, ?_⟩
  repeat' (first
    | with_reducible rfl | with_reducible (refine without_ite ?_ ?_)
    | simp only [↓State.waitTo_frame, ↓State.modValve_frame, ↓State.modBank_frame, ↓State.raiseEv_frame,
      ↓State.bankHs_frame, Nat.reduceAnd]
    | split | dsimp only)
theorem execValveDurationEnd_frame (a0) (s) : ∃ t, execValveDurationEnd a0 s = .next t ∧ t.without 33554564 = s.without 33554564 := by
  refine ⟨_, rfl, ?_⟩
  repeat' (first
    | with_reducible rfl | with_reducible (refine without_ite ?_ ?_)
    | simp only [↓State.valveOff_frame, ↓State.waitTo_frame, Nat.reduceAnd]
    | split | dsimp only)
theorem execValveBankHsOff_frame (a0) (s) : ∃ t, execValveBankHsOff a0 s = .next t ∧ t.without 33554564 = s.without 33554564 := by
  refine ⟨_, rfl, ?_⟩
  repeat' (first
    | with_reducible rfl | with_reducible (refine without_ite ?_ ?_)
    | simp only [↓State.modBank_frame, ↓State.waitTo_frame, Nat.reduceAnd]
    | split | dsimp only)
theorem execValveCurrentUpdate_frame (a0) (a1) (a2) (s) : ∃ t, execValveCurrentUpdate a0 a1 a2 s = .next t ∧ t.without 33558676 = s.without 33558676 := by
  refine ⟨_, rfl, ?_⟩
  repeat' (first
    | with_reducible rfl | with_reducible (refine without_ite ?_ ?_) | with_reducible (refine (foldl_frame _ (fun a x => ?_) _ _).trans ?_) | with_reducible (refine (foldl_fst_frame _ (fun a x => ?_) _ _).trans ?_)
    | simp only [↓State.boundary_frame, ↓State.modBank_frame, ↓State.railIs_frame, ↓State.modValve_frame,
      ↓State.valveSignal_frame, Nat.reduceAnd]
    | split | dsimp only)
theorem execValveBoostFault_frame (a0) (a1) (a2) (s) : ∃ t, execValveBoostFault a0 a1 a2 s = .next t ∧ t.without 52428942 = s.without 52428942 := by
  refine ⟨_, rfl, ?_⟩
  repeat' (first
    | with_reducible rfl | with_reducible (refine without_ite ?_ ?_)
    | simp only [↓State.waitTo_frame, ↓State.modBoost_frame, ↓State.raiseEv_frame, Nat.reduceAnd]
    | split | dsimp only)
theorem execValveOpenLoad_frame (a0) (a1) (a2) (a3) (s) : ∃ t, execValveOpenLoad a0 a1 a2 a3 s = .next t ∧ t.without 18874522 = s.without 18874522 := by
  refine ⟨_, rfl, ?_⟩
  repeat' (first
    | with_reducible rfl | with_reducible (refine without_ite ?_ ?_)
    | simp only [↓State.clearFault_frame, ↓State.modValve_frame, ↓State.raiseEv_frame, ↓State.modFlags_frame,
      Nat.reduceAnd]
    | split | dsimp only)
theorem execValveTracking_frame (a0) (s) : ∃ t, execValveTracking a0 s = .next t ∧ t.without 52428942 = s.without 52428942 := by
  refine ⟨_, rfl, ?_⟩
  repeat' (first
    | with_reducible rfl | with_reducible (refine without_ite ?_ ?_)
    | simp only [↓State.clearFault_frame, ↓State.modValve_frame, ↓State.waitTo_frame, ↓State.raiseEv_frame, Nat.reduceAnd]
    | split | dsimp only)
theorem execValveShortBat_frame (a0) (a1) (s) : ∃ t, execValveShortBat a0 a1 s = .next t ∧ t.without 18878618 = s.without 18878618 := by
  refine ⟨_, rfl, ?_⟩
  repeat' (first
    | with_reducible rfl | with_reducible (refine without_ite ?_ ?_)
    | simp only [↓State.modValve_frame, ↓State.dropReq_frame, ↓State.valveOff_frame, ↓State.bankHs_frame,
      ↓State.valveSignal_frame, ↓State.raiseEv_frame, Nat.reduceAnd]
    | split | dsimp only)
theorem execValveShortGnd_frame (a0) (a1) (a2) (s) : ∃ t, execValveShortGnd a0 a1 a2 s = .next t ∧ t.without 18878618 = s.without 18878618 := by
  refine ⟨_, rfl, ?_⟩
  repeat' (first
    | with_reducible rfl | with_reducible (refine without_ite ?_ ?_)
    | simp only [↓State.raiseEv_frame, ↓State.bankLatch_frame, Nat.reduceAnd]
    | split | dsimp only)
theorem execValveBankShort_frame (a0) (a1) (a2) (s) : ∃ t, execValveBankShort a0 a1 a2 s = .next t ∧ t.without 18878618 = s.without 18878618 := by
  refine ⟨_, rfl, ?_⟩
  repeat' (first
    | with_reducible rfl | with_reducible (refine without_ite ?_ ?_)
    | simp only [↓State.raiseEv_frame, ↓State.bankLatch_frame, Nat.reduceAnd]
    | split | dsimp only)
theorem execValveHostPeriod_frame (a0) (a1) (s) : ∃ t, execValveHostPeriod a0 a1 s = .next t ∧ t.without 33558678 = s.without 33558678 := by
  refine ⟨_, rfl, ?_⟩
  repeat' (first
    | with_reducible rfl | with_reducible (refine without_ite ?_ ?_)
    | simp only [↓State.boundary_frame, ↓State.valveMiss_frame, ↓State.hostMiss_frame, ↓State.valveSignal_frame,
      ↓State.modValve_frame, ↓State.modHost_frame, ↓State.hostPeriod_frame, Nat.reduceAnd]
    | split | dsimp only)
theorem execValveStatus_frame (a0) (s) : ∃ t, execValveStatus a0 s = .next t ∧ t.without 2 = s.without 2 :=
  ⟨_, rfl, State.mailbox_frame s _ _ rfl (verbValveStatus_frame rfl)⟩
theorem execValveConfig_frame (a0) (s) : ∃ t, execValveConfig a0 s = .next t ∧ t.without 536871042 = s.without 536871042 :=
  ⟨_, rfl, State.mailbox_frame s _ _ rfl (verbValveConfig_frame rfl)⟩
theorem execValveSet_frame (a0) (s) : ∃ t, execValveSet a0 s = .next t ∧ t.without 130 = s.without 130 :=
  ⟨_, rfl, State.mailbox_frame s _ _ rfl (verbValveSet_frame rfl)⟩
theorem execValveClear_frame (a0) (s) : ∃ t, execValveClear a0 s = .next t ∧ t.without 138 = s.without 138 :=
  ⟨_, rfl, State.mailbox_frame s _ _ rfl (verbValveClear_frame rfl)⟩
theorem execValveDuty_frame (a0) (s) : ∃ t, execValveDuty a0 s = .next t ∧ t.without 130 = s.without 130 :=
  ⟨_, rfl, State.mailbox_frame s _ _ rfl (verbValveDuty_frame rfl)⟩
theorem execTimePps_frame (a0) (a1) (a2) (a3) (s) : ∃ t, execTimePps a0 a1 a2 a3 s = .next t ∧ t.without 2147483654 = s.without 2147483654 := by
  refine ⟨_, rfl, ?_⟩
  repeat' (first
    | with_reducible rfl | with_reducible (refine without_ite ?_ ?_)
    | simp only [↓State.timeSteer_frame, ↓State.setOffset_frame, ↓State.timeTo_frame, ↓without_time, Nat.reduceAnd]
    | split | dsimp only)
theorem execTimePpsAbsent_frame (s) : ∃ t, execTimePpsAbsent s = .next t ∧ t.without 33554438 = s.without 33554438 := by
  refine ⟨_, rfl, ?_⟩
  repeat' (first
    | with_reducible rfl | with_reducible (refine without_ite ?_ ?_)
    | simp only [↓State.ppsDrop_frame, ↓State.waitTo_frame, Nat.reduceAnd]
    | split | dsimp only)
theorem execTimeGmLost_frame (s) : ∃ t, execTimeGmLost s = .next t ∧ t.without 52428814 = s.without 52428814 := by
  refine ⟨_, rfl, ?_⟩
  repeat' (first
    | with_reducible rfl | with_reducible (refine without_ite ?_ ?_)
    | simp only [↓State.waitTo_frame, ↓State.raiseEv_frame, ↓State.timeTo_frame, ↓State.setOffset_frame, ↓without_time,
      Nat.reduceAnd]
    | split | dsimp only)
theorem execTimeRole_frame (a0) (s) : ∃ t, execTimeRole a0 s = .next t ∧ t.without 536870926 = s.without 536870926 :=
  ⟨_, rfl, State.mailbox_frame s _ _ rfl (verbTimeRole_frame rfl)⟩
theorem execGnssAntOpen_frame (a0) (a1) (s) : ∃ t, execGnssAntOpen a0 a1 s = .next t ∧ t.without 18874634 = s.without 18874634 := by
  refine ⟨_, rfl, ?_⟩
  repeat' (first
    | with_reducible rfl | with_reducible (refine without_ite ?_ ?_)
    | simp only [↓State.raiseEv_frame, ↓State.modAnt_frame, Nat.reduceAnd]
    | split | dsimp only)
theorem execGnssAntOpenEnd_frame (a0) (a1) (s) : ∃ t, execGnssAntOpenEnd a0 a1 s = .next t ∧ t.without 266 = s.without 266 := by
  refine ⟨_, rfl, ?_⟩
  repeat' (first
    | with_reducible rfl | with_reducible (refine without_ite ?_ ?_)
    | simp only [↓State.clearFault_frame, ↓State.modAnt_frame, Nat.reduceAnd]
    | split | dsimp only)
theorem execGnssAntShort_frame (a0) (a1) (s) : ∃ t, execGnssAntShort a0 a1 s = .next t ∧ t.without 18874634 = s.without 18874634 := by
  refine ⟨_, rfl, ?_⟩
  repeat' (first
    | with_reducible rfl | with_reducible (refine without_ite ?_ ?_)
    | simp only [↓State.raiseEv_frame, ↓State.modAnt_frame, Nat.reduceAnd]
    | split | dsimp only)
theorem execGnssAntRetry_frame (a0) (a1) (s) : ∃ t, execGnssAntRetry a0 a1 s = .next t ∧ t.without 33554702 = s.without 33554702 := by
  refine ⟨_, rfl, ?_⟩
  repeat' (first
    | with_reducible rfl | with_reducible (refine without_ite ?_ ?_)
    | simp only [↓State.waitTo_frame, ↓State.clearFault_frame, ↓State.modAnt_frame, Nat.reduceAnd]
    | split | dsimp only)
theorem execGnssRtcmFrame_frame (s) : ∃ t, execGnssRtcmFrame s = .next t ∧ t.without 256 = s.without 256 := by
  refine ⟨_, rfl, ?_⟩
  repeat' (first
    | with_reducible rfl | with_reducible (refine without_ite ?_ ?_)
    | simp only [↓State.modGnss_frame, Nat.reduceAnd]
    | split | dsimp only)
theorem execGnssEpoch_frame (a0) (s) : ∃ t, execGnssEpoch a0 s = .next t ∧ t.without 52433694 = s.without 52433694 := by
  refine ⟨_, rfl, ?_⟩
  repeat' (first
    | with_reducible rfl | with_reducible (refine without_ite ?_ ?_)
    | simp only [↓State.boundary_frame, ↓State.modGnss_frame, ↓State.modAnt_frame, ↓State.epochMarks_frame,
      ↓State.corrEpoch_frame, ↓State.solveSet_frame, ↓State.hostEpoch_frame, ↓State.passRun_frame,
      ↓State.solveEpoch_frame, ↓without_imu, Nat.reduceAnd]
    | split | dsimp only)
theorem execGnssGuardBurst_frame (a0) (a1) (s) : ∃ t, execGnssGuardBurst a0 a1 s = .next t ∧ t.without 34603268 = s.without 34603268 := by
  refine ⟨_, rfl, ?_⟩
  repeat' (first
    | with_reducible rfl | with_reducible (refine without_ite ?_ ?_)
    | simp only [↓State.modGnss_frame, ↓State.wake_frame, ↓without_time, Nat.reduceAnd]
    | split | dsimp only)
theorem execGnssGuardReport_frame (s) : ∃ t, execGnssGuardReport s = .next t ∧ t.without 34603268 = s.without 34603268 := by
  refine ⟨_, rfl, ?_⟩
  repeat' (first
    | with_reducible rfl | with_reducible (refine without_ite ?_ ?_)
    | simp only [↓State.wake_frame, ↓without_m260, Nat.reduceAnd]
    | split | dsimp only)
theorem execImuSample_frame (a0) (a1) (a2) (a3) (s) : ∃ t, execImuSample a0 a1 a2 a3 s = .next t ∧ t.without 52435486 = s.without 52435486 := by
  refine ⟨_, rfl, ?_⟩
  repeat' (first
    | with_reducible rfl | with_reducible (refine without_ite ?_ ?_) | with_reducible (refine (foldl_frame _ (fun a x => ?_) _ _).trans ?_) | with_reducible (refine (foldl_fst_frame _ (fun a x => ?_) _ _).trans ?_)
    | simp only [↓State.boundary_frame, ↓State.modImu_frame, ↓State.modFlags_frame, ↓State.setSig_frame,
      ↓State.poseTake_frame, ↓State.clearFault_frame, ↓State.raiseEv_frame, Nat.reduceAnd]
    | split | dsimp only)
theorem execGnssStatus_frame (a0) (s) : ∃ t, execGnssStatus a0 s = .next t ∧ t.without 2 = s.without 2 :=
  ⟨_, rfl, State.mailbox_frame s _ _ rfl (verbGnssStatus_frame rfl)⟩
theorem execGnssFix_frame (a0) (s) : ∃ t, execGnssFix a0 s = .next t ∧ t.without 2 = s.without 2 :=
  ⟨_, rfl, State.mailbox_frame s _ _ rfl (verbGnssFix_frame rfl)⟩
theorem execGnssConfig_frame (a0) (s) : ∃ t, execGnssConfig a0 s = .next t ∧ t.without 536871170 = s.without 536871170 :=
  ⟨_, rfl, State.mailbox_frame s _ _ rfl (verbGnssConfig_frame rfl)⟩
theorem execGnssAntenna_frame (a0) (s) : ∃ t, execGnssAntenna a0 s = .next t ∧ t.without 536871178 = s.without 536871178 :=
  ⟨_, rfl, State.mailbox_frame s _ _ rfl (verbGnssAntenna_frame rfl)⟩
theorem execGnssCorr_frame (a0) (s) : ∃ t, execGnssCorr a0 s = .next t ∧ t.without 536871170 = s.without 536871170 :=
  ⟨_, rfl, State.mailbox_frame s _ _ rfl (verbGnssCorr_frame rfl)⟩
theorem execGnssRtcm_frame (a0) (s) : ∃ t, execGnssRtcm a0 s = .next t ∧ t.without 258 = s.without 258 :=
  ⟨_, rfl, State.mailbox_frame s _ _ rfl (verbGnssRtcm_frame rfl)⟩
theorem execGnssOrigin_frame (a0) (s) : ∃ t, execGnssOrigin a0 s = .next t ∧ t.without 536871170 = s.without 536871170 :=
  ⟨_, rfl, State.mailbox_frame s _ _ rfl (verbGnssOrigin_frame rfl)⟩

end Sys2Proof.Machine
end

