-- ==== Sys2Proof/Laws/FrameRow1.lean ====
section
/-! SUPPORT. Laws/FrameRow1.lean: what each command leaves alone: it answers a next state that differs only in the pieces of its mask. A mask has a bit for each piece of `Piece`. -/

set_option linter.all false

namespace Sys2Proof.Machine
theorem execGnssLine_frame (a0) (s) : ∃ t, execGnssLine a0 s = .next t ∧ t.without 536871170 = s.without 536871170 :=
  ⟨_, rfl, State.mailbox_frame s _ _ rfl (verbGnssLine_frame rfl)⟩
theorem execGnssGuard_frame (a0) (s) : ∃ t, execGnssGuard a0 s = .next t ∧ t.without 536871170 = s.without 536871170 :=
  ⟨_, rfl, State.mailbox_frame s _ _ rfl (verbGnssGuard_frame rfl)⟩
theorem execGnssHostbuf_frame (a0) (s) : ∃ t, execGnssHostbuf a0 s = .next t ∧ t.without 536871170 = s.without 536871170 :=
  ⟨_, rfl, State.mailbox_frame s _ _ rfl (verbGnssHostbuf_frame rfl)⟩
theorem execGnssSolution_frame (a0) (s) : ∃ t, execGnssSolution a0 s = .next t ∧ t.without 18878750 = s.without 18878750 :=
  ⟨_, rfl, State.mailbox_frame s _ _ rfl (verbGnssSolution_frame rfl)⟩
theorem execImuStatus_frame (a0) (s) : ∃ t, execImuStatus a0 s = .next t ∧ t.without 2 = s.without 2 :=
  ⟨_, rfl, State.mailbox_frame s _ _ rfl (verbImuStatus_frame rfl)⟩
theorem execImuConfig_frame (a0) (s) : ∃ t, execImuConfig a0 s = .next t ∧ t.without 536871426 = s.without 536871426 :=
  ⟨_, rfl, State.mailbox_frame s _ _ rfl (verbImuConfig_frame rfl)⟩
theorem execCamIspOutput_frame (a0) (a1) (a2) (s) : ∃ t, execCamIspOutput a0 a1 a2 s = .next t ∧ t.without 2147484674 = s.without 2147484674 := by
  refine ⟨_, rfl, ?_⟩
  repeat' (first
    | with_reducible rfl | with_reducible (refine without_ite ?_ ?_)
    | simp only [↓State.modCamSensor_frame, ↓State.outputsWritten_frame, ↓State.modPort_frame, ↓State.regionWrite_frame,
      ↓State.modRegion_frame, ↓State.tapEnd_frame, ↓without_free, Nat.reduceAnd]
    | split | dsimp only)
theorem execCamFrameSync_frame (a0) (s) : ∃ t, execCamFrameSync a0 s = .next t ∧ t.without 33555460 = s.without 33555460 := by
  refine ⟨_, rfl, ?_⟩
  repeat' (first
    | with_reducible rfl | with_reducible (refine without_ite ?_ ?_)
    | simp only [↓State.boundary_frame, ↓State.modPort_frame, Nat.reduceAnd]
    | split | dsimp only)
theorem execCamFrameArrival_frame (a0) (s) : ∃ t, execCamFrameArrival a0 s = .next t ∧ t.without 52438030 = s.without 52438030 := by
  refine ⟨_, rfl, ?_⟩
  repeat' (first
    | with_reducible rfl | with_reducible (refine without_ite ?_ ?_)
    | simp only [↓State.frameBegin_frame, ↓State.waitTo_frame, ↓State.frameEnd_frame, Nat.reduceAnd]
    | split | dsimp only)
theorem execCamSensorSilent_frame (a0) (a1) (a2) (s) : ∃ t, execCamSensorSilent a0 a1 a2 s = .next t ∧ t.without 52429838 = s.without 52429838 := by
  refine ⟨_, rfl, ?_⟩
  repeat' (first
    | with_reducible rfl | with_reducible (refine without_ite ?_ ?_)
    | simp only [↓State.waitTo_frame, ↓State.raiseEv_frame, ↓State.modCamSensor_frame, Nat.reduceAnd]
    | split | dsimp only)
theorem execCamLinkUp_frame (a0) (a1) (s) : ∃ t, execCamLinkUp a0 a1 s = .next t ∧ t.without 18875402 = s.without 18875402 := by
  refine ⟨_, rfl, ?_⟩
  repeat' (first
    | with_reducible rfl | with_reducible (refine without_ite ?_ ?_)
    | simp only [↓State.clearFault_frame, ↓State.modPort_frame, ↓State.post_frame, ↓State.raiseEv_frame, Nat.reduceAnd]
    | split | dsimp only)
theorem execCamLinkLost_frame (a0) (s) : ∃ t, execCamLinkLost a0 s = .next t ∧ t.without 18875402 = s.without 18875402 := by
  refine ⟨_, rfl, ?_⟩
  repeat' (first
    | with_reducible rfl | with_reducible (refine without_ite ?_ ?_)
    | simp only [↓State.raiseEv_frame, ↓State.modPort_frame, Nat.reduceAnd]
    | split | dsimp only)
theorem execCamPocOpen_frame (a0) (a1) (s) : ∃ t, execCamPocOpen a0 a1 s = .next t ∧ t.without 18875402 = s.without 18875402 := by
  refine ⟨_, rfl, ?_⟩
  repeat' (first
    | with_reducible rfl | with_reducible (refine without_ite ?_ ?_)
    | simp only [↓State.raiseEv_frame, ↓State.modPort_frame, Nat.reduceAnd]
    | split | dsimp only)
theorem execCamPocOpenEnd_frame (a0) (a1) (s) : ∃ t, execCamPocOpenEnd a0 a1 s = .next t ∧ t.without 1034 = s.without 1034 := by
  refine ⟨_, rfl, ?_⟩
  repeat' (first
    | with_reducible rfl | with_reducible (refine without_ite ?_ ?_)
    | simp only [↓State.clearFault_frame, ↓State.modPort_frame, Nat.reduceAnd]
    | split | dsimp only)
theorem execCamPocShort_frame (a0) (a1) (s) : ∃ t, execCamPocShort a0 a1 s = .next t ∧ t.without 18875402 = s.without 18875402 := by
  refine ⟨_, rfl, ?_⟩
  repeat' (first
    | with_reducible rfl | with_reducible (refine without_ite ?_ ?_)
    | simp only [↓State.clearFault_frame, ↓State.modPort_frame, ↓State.raiseEv_frame, Nat.reduceAnd]
    | split | dsimp only)
theorem execCamPocRetry_frame (a0) (a1) (s) : ∃ t, execCamPocRetry a0 a1 s = .next t ∧ t.without 52429838 = s.without 52429838 := by
  refine ⟨_, rfl, ?_⟩
  repeat' (first
    | with_reducible rfl | with_reducible (refine without_ite ?_ ?_)
    | simp only [↓State.waitTo_frame, ↓State.clearFault_frame, ↓State.modPort_frame, ↓State.raiseEv_frame, Nat.reduceAnd]
    | split | dsimp only)
theorem execCamBackchDone_frame (a0) (a1) (a2) (s) : ∃ t, execCamBackchDone a0 a1 a2 s = .next t ∧ t.without 1026 = s.without 1026 := by
  refine ⟨_, rfl, ?_⟩
  repeat' (first
    | with_reducible rfl | with_reducible (refine without_ite ?_ ?_)
    | simp only [↓State.modPort_frame, ↓State.replyLater_frame, Nat.reduceAnd]
    | split | dsimp only)
theorem execCamStatus_frame (a0) (s) : ∃ t, execCamStatus a0 s = .next t ∧ t.without 2 = s.without 2 :=
  ⟨_, rfl, State.mailbox_frame s _ _ rfl (verbCamStatus_frame rfl)⟩
theorem execCamConfig_frame (a0) (s) : ∃ t, execCamConfig a0 s = .next t ∧ t.without 536880138 = s.without 536880138 :=
  ⟨_, rfl, State.mailbox_frame s _ _ rfl (verbCamConfig_frame rfl)⟩
theorem execCamSensor_frame (a0) (s) : ∃ t, execCamSensor a0 s = .next t ∧ t.without 536880138 = s.without 536880138 :=
  ⟨_, rfl, State.mailbox_frame s _ _ rfl (verbCamSensor_frame rfl)⟩
theorem execCamIsp_frame (a0) (s) : ∃ t, execCamIsp a0 s = .next t ∧ t.without 536871938 = s.without 536871938 :=
  ⟨_, rfl, State.mailbox_frame s _ _ rfl (verbCamIsp_frame rfl)⟩
theorem execCamTap_frame (a0) (s) : ∃ t, execCamTap a0 s = .next t ∧ t.without 1026 = s.without 1026 :=
  ⟨_, rfl, State.mailbox_frame s _ _ rfl (verbCamTap_frame rfl)⟩
theorem execCamBackch_frame (a0) (s) : ∃ t, execCamBackch a0 s = .next t ∧ t.without 1026 = s.without 1026 :=
  ⟨_, rfl, State.mailbox_frame s _ _ rfl (verbCamBackch_frame rfl)⟩
theorem execCamLamp_frame (a0) (s) : ∃ t, execCamLamp a0 s = .next t ∧ t.without 536880138 = s.without 536880138 :=
  ⟨_, rfl, State.mailbox_frame s _ _ rfl (verbCamLamp_frame rfl)⟩
theorem execCamExposure_frame (a0) (s) : ∃ t, execCamExposure a0 s = .next t ∧ t.without 536871938 = s.without 536871938 :=
  ⟨_, rfl, State.mailbox_frame s _ _ rfl (verbCamExposure_frame rfl)⟩
theorem execCamHostbuf_frame (a0) (s) : ∃ t, execCamHostbuf a0 s = .next t ∧ t.without 536871938 = s.without 536871938 :=
  ⟨_, rfl, State.mailbox_frame s _ _ rfl (verbCamHostbuf_frame rfl)⟩
theorem execCamLampSet_frame (a0) (s) : ∃ t, execCamLampSet a0 s = .next t ∧ t.without 9218 = s.without 9218 :=
  ⟨_, rfl, State.mailbox_frame s _ _ rfl (verbCamLampSet_frame rfl)⟩
theorem execCrownSampleArrival_frame (a0) (a1) (a2) (a3) (a4) (s) : ∃ t, execCrownSampleArrival a0 a1 a2 a3 a4 s = .next t ∧ t.without 2050 = s.without 2050 := by
  refine ⟨_, rfl, ?_⟩
  repeat' (first
    | with_reducible rfl | with_reducible (refine without_ite ?_ ?_)
    | simp only [↓State.crownSample_frame, Nat.reduceAnd]
    | split | dsimp only)
theorem execCrownInputClose_frame (a0) (s) : ∃ t, execCrownInputClose a0 s = .next t ∧ t.without 52430878 = s.without 52430878 := by
  refine ⟨_, rfl, ?_⟩
  repeat' (first
    | with_reducible rfl | with_reducible (refine without_ite ?_ ?_)
    | simp only [↓State.crownClose_frame, Nat.reduceAnd]
    | split | dsimp only)
theorem execCrownRelease_frame (a0) (a1) (s) : ∃ t, execCrownRelease a0 a1 s = .next t ∧ t.without 33560606 = s.without 33560606 := by
  refine ⟨_, rfl, ?_⟩
  repeat' (first
    | with_reducible rfl | with_reducible (refine without_ite ?_ ?_)
    | simp only [↓State.clearFault_frame, ↓State.modSlot_frame, ↓State.crownRelease_frame, Nat.reduceAnd]
    | split | dsimp only)
theorem execCrownOverrun_frame (a0) (a1) (a2) (s) : ∃ t, execCrownOverrun a0 a1 a2 s = .next t ∧ t.without 52434974 = s.without 52434974 := by
  refine ⟨_, rfl, ?_⟩
  repeat' (first
    | with_reducible rfl | with_reducible (refine without_ite ?_ ?_)
    | simp only [↓State.crownRelease_frame, ↓State.raiseEv_frame, ↓State.modSlot_frame, Nat.reduceAnd]
    | split | dsimp only)
theorem execCrownStatus_frame (a0) (s) : ∃ t, execCrownStatus a0 s = .next t ∧ t.without 2 = s.without 2 :=
  ⟨_, rfl, State.mailbox_frame s _ _ rfl (verbCrownStatus_frame rfl)⟩
theorem execCrownModel_frame (a0) (s) : ∃ t, execCrownModel a0 s = .next t ∧ t.without 2 = s.without 2 :=
  ⟨_, rfl, State.mailbox_frame s _ _ rfl (verbCrownModel_frame rfl)⟩
theorem execCrownLoad_frame (a0) (s) : ∃ t, execCrownLoad a0 s = .next t ∧ t.without 536872986 = s.without 536872986 :=
  ⟨_, rfl, State.mailbox_frame s _ _ rfl (verbCrownLoad_frame rfl)⟩
theorem execCrownBind_frame (a0) (s) : ∃ t, execCrownBind a0 s = .next t ∧ t.without 536872962 = s.without 536872962 :=
  ⟨_, rfl, State.mailbox_frame s _ _ rfl (verbCrownBind_frame rfl)⟩
theorem execCrownCalib_frame (a0) (s) : ∃ t, execCrownCalib a0 s = .next t ∧ t.without 536872962 = s.without 536872962 :=
  ⟨_, rfl, State.mailbox_frame s _ _ rfl (verbCrownCalib_frame rfl)⟩
theorem execCrownOutbuf_frame (a0) (s) : ∃ t, execCrownOutbuf a0 s = .next t ∧ t.without 536872962 = s.without 536872962 :=
  ⟨_, rfl, State.mailbox_frame s _ _ rfl (verbCrownOutbuf_frame rfl)⟩
theorem execCrownStart_frame (a0) (s) : ∃ t, execCrownStart a0 s = .next t ∧ t.without 536872962 = s.without 536872962 :=
  ⟨_, rfl, State.mailbox_frame s _ _ rfl (verbCrownStart_frame rfl)⟩
theorem execCrownStop_frame (a0) (s) : ∃ t, execCrownStop a0 s = .next t ∧ t.without 536872978 = s.without 536872978 :=
  ⟨_, rfl, State.mailbox_frame s _ _ rfl (verbCrownStop_frame rfl)⟩
theorem execCrownHostbuf_frame (a0) (s) : ∃ t, execCrownHostbuf a0 s = .next t ∧ t.without 536872962 = s.without 536872962 :=
  ⟨_, rfl, State.mailbox_frame s _ _ rfl (verbCrownHostbuf_frame rfl)⟩
theorem execCrownResult_frame (a0) (s) : ∃ t, execCrownResult a0 s = .next t ∧ t.without 2050 = s.without 2050 :=
  ⟨_, rfl, State.mailbox_frame s _ _ rfl (verbCrownResult_frame rfl)⟩
theorem execGranaryPeriod_frame (s) : ∃ t, execGranaryPeriod s = .next t ∧ t.without 52432910 = s.without 52432910 := by
  refine ⟨_, rfl, ?_⟩
  repeat' (first
    | with_reducible rfl | with_reducible (refine without_ite ?_ ?_)
    | simp only [↓State.boundary_frame, ↓State.modGran_frame, ↓State.granTurn_frame, ↓State.granMiss_frame,
      ↓State.hostMiss_frame, ↓State.modHost_frame, ↓State.hostPeriod_frame, ↓State.regionDone_frame,
      ↓State.regionWrite_frame, ↓State.granFlow_frame, Nat.reduceAnd]
    | split | dsimp only)
theorem execGranaryTileWrite_frame (s) : ∃ t, execGranaryTileWrite s = .next t ∧ t.without 60821518 = s.without 60821518 := by
  refine ⟨_, rfl, ?_⟩
  repeat' (first
    | with_reducible rfl | with_reducible (refine without_ite ?_ ?_)
    | simp only [↓State.waitTo_frame, ↓State.granWrite_frame, Nat.reduceAnd]
    | split | dsimp only)
theorem execGranaryFileClosed_frame (s) : ∃ t, execGranaryFileClosed s = .next t ∧ t.without 27267082 = s.without 27267082 := by
  refine ⟨_, rfl, ?_⟩
  repeat' (first
    | with_reducible rfl | with_reducible (refine without_ite ?_ ?_)
    | simp only [↓State.granWrite_frame, ↓State.clearFault_frame, ↓State.modGran_frame, ↓State.complete_frame,
      Nat.reduceAnd]
    | split | dsimp only)
theorem execGranaryStatus_frame (a0) (s) : ∃ t, execGranaryStatus a0 s = .next t ∧ t.without 2 = s.without 2 :=
  ⟨_, rfl, State.mailbox_frame s _ _ rfl (verbGranaryStatus_frame rfl)⟩
theorem execGranaryConfig_frame (a0) (s) : ∃ t, execGranaryConfig a0 s = .next t ∧ t.without 536875010 = s.without 536875010 :=
  ⟨_, rfl, State.mailbox_frame s _ _ rfl (verbGranaryConfig_frame rfl)⟩
theorem execGranarySections_frame (a0) (s) : ∃ t, execGranarySections a0 s = .next t ∧ t.without 536875010 = s.without 536875010 :=
  ⟨_, rfl, State.mailbox_frame s _ _ rfl (verbGranarySections_frame rfl)⟩
theorem execGranaryCalib_frame (a0) (s) : ∃ t, execGranaryCalib a0 s = .next t ∧ t.without 536875010 = s.without 536875010 :=
  ⟨_, rfl, State.mailbox_frame s _ _ rfl (verbGranaryCalib_frame rfl)⟩
theorem execGranaryOpen_frame (a0) (s) : ∃ t, execGranaryOpen a0 s = .next t ∧ t.without 536875010 = s.without 536875010 :=
  ⟨_, rfl, State.mailbox_frame s _ _ rfl (verbGranaryOpen_frame rfl)⟩
theorem execGranaryClose_frame (a0) (s) : ∃ t, execGranaryClose a0 s = .next t ∧ t.without 536875010 = s.without 536875010 :=
  ⟨_, rfl, State.mailbox_frame s _ _ rfl (verbGranaryClose_frame rfl)⟩
theorem execGranaryCorrect_frame (a0) (s) : ∃ t, execGranaryCorrect a0 s = .next t ∧ t.without 536875010 = s.without 536875010 :=
  ⟨_, rfl, State.mailbox_frame s _ _ rfl (verbGranaryCorrect_frame rfl)⟩
theorem execGranaryHostbuf_frame (a0) (s) : ∃ t, execGranaryHostbuf a0 s = .next t ∧ t.without 536875010 = s.without 536875010 :=
  ⟨_, rfl, State.mailbox_frame s _ _ rfl (verbGranaryHostbuf_frame rfl)⟩
theorem execGranaryResult_frame (a0) (s) : ∃ t, execGranaryResult a0 s = .next t ∧ t.without 18878474 = s.without 18878474 :=
  ⟨_, rfl, State.mailbox_frame s _ _ rfl (verbGranaryResult_frame rfl)⟩
theorem execOutPwmPeriod_frame (a0) (s) : ∃ t, execOutPwmPeriod a0 s = .next t ∧ t.without 33595406 = s.without 33595406 := by
  refine ⟨_, rfl, ?_⟩
  repeat' (first
    | with_reducible rfl | with_reducible (refine without_ite ?_ ?_)
    | simp only [↓State.pwmBoundary_frame, ↓State.waitTo_frame, ↓State.safetyEval_frame, ↓State.modOut_frame,
      ↓State.outEval_frame, Nat.reduceAnd]
    | split | dsimp only)
theorem execOutInrushWindowEnd_frame (a0) (s) : ∃ t, execOutInrushWindowEnd a0 s = .next t ∧ t.without 33562638 = s.without 33562638 := by
  refine ⟨_, rfl, ?_⟩
  repeat' (first
    | with_reducible rfl | with_reducible (refine without_ite ?_ ?_)
    | simp only [↓State.waitTo_frame, ↓State.modOut_frame, ↓State.clearFault_frame, ↓State.outEval_frame,
      ↓State.testStart_frame, Nat.reduceAnd]
    | split | dsimp only)
theorem execOutLatched_frame (a0) (a1) (s) : ∃ t, execOutLatched a0 a1 s = .next t ∧ t.without 18886682 = s.without 18886682 := by
  refine ⟨_, rfl, ?_⟩
  repeat' (first
    | with_reducible rfl | with_reducible (refine without_ite ?_ ?_)
    | simp only [↓State.outOff_frame, ↓State.modOut_frame, ↓State.raiseEv_frame, ↓State.outShow_frame,
      ↓State.outEval_frame, Nat.reduceAnd]
    | split | dsimp only)
theorem execOutCurrentUpdate_frame (a0) (s) : ∃ t, execOutCurrentUpdate a0 s = .next t ∧ t.without 33566740 = s.without 33566740 := by
  refine ⟨_, rfl, ?_⟩
  repeat' (first
    | with_reducible rfl | with_reducible (refine without_ite ?_ ?_) | with_reducible (refine (foldl_frame _ (fun a x => ?_) _ _).trans ?_) | with_reducible (refine (foldl_fst_frame _ (fun a x => ?_) _ _).trans ?_)
    | simp only [↓State.outCurrent_frame, ↓State.boundary_frame, Nat.reduceAnd]
    | split | dsimp only)
theorem execOutDieSample_frame (a0) (a1) (s) : ∃ t, execOutDieSample a0 a1 s = .next t ∧ t.without 52441118 = s.without 52441118 := by
  refine ⟨_, rfl, ?_⟩
  repeat' (first
    | with_reducible rfl | with_reducible (refine without_ite ?_ ?_) | with_reducible (refine (foldl_frame _ (fun a x => ?_) _ _).trans ?_) | with_reducible (refine (foldl_fst_frame _ (fun a x => ?_) _ _).trans ?_)
    | simp only [↓State.modGroup_frame, ↓State.outEval_frame, ↓State.modOut_frame, ↓State.dieChannel_frame,
      ↓State.boundary_frame, Nat.reduceAnd]
    | split | dsimp only)
theorem execOutRetryPwmPhase_frame (a0) (s) : ∃ t, execOutRetryPwmPhase a0 s = .next t ∧ t.without 33562628 = s.without 33562628 := by
  refine ⟨_, rfl, ?_⟩
  repeat' (first
    | with_reducible rfl | with_reducible (refine without_ite ?_ ?_)
    | simp only [↓State.boundary_frame, ↓State.outEval_frame, ↓State.modOut_frame, Nat.reduceAnd]
    | split | dsimp only)
theorem execOutGroupShutdown_frame (a0) (a1) (s) : ∃ t, execOutGroupShutdown a0 a1 s = .next t ∧ t.without 18886682 = s.without 18886682 := by
  refine ⟨_, rfl, ?_⟩
  repeat' (first
    | with_reducible rfl | with_reducible (refine without_ite ?_ ?_) | with_reducible (refine (foldl_frame _ (fun a x => ?_) _ _).trans ?_) | with_reducible (refine (foldl_fst_frame _ (fun a x => ?_) _ _).trans ?_)
    | simp only [↓State.outOff_frame, ↓State.modGroup_frame, ↓State.raiseEv_frame, ↓State.outShow_frame,
      ↓State.outEval_frame, Nat.reduceAnd]
    | split | dsimp only)
theorem execOutClampEnd_frame (a0) (a1) (s) : ∃ t, execOutClampEnd a0 a1 s = .next t ∧ t.without 18882570 = s.without 18882570 := by
  refine ⟨_, rfl, ?_⟩
  repeat' (first
    | with_reducible rfl | with_reducible (refine without_ite ?_ ?_)
    | simp only [↓State.modOut_frame, ↓State.modGroup_frame, ↓State.raiseEv_frame, Nat.reduceAnd]
    | split | dsimp only)
theorem execOutClampExpire_frame (a0) (s) : ∃ t, execOutClampExpire a0 s = .next t ∧ t.without 33562638 = s.without 33562638 := by
  refine ⟨_, rfl, ?_⟩
  repeat' (first
    | with_reducible rfl | with_reducible (refine without_ite ?_ ?_) | with_reducible (refine (foldl_frame _ (fun a x => ?_) _ _).trans ?_) | with_reducible (refine (foldl_fst_frame _ (fun a x => ?_) _ _).trans ?_)
    | simp only [↓State.waitTo_frame, ↓State.modOut_frame, ↓State.modGroup_frame, ↓State.clearFault_frame,
      ↓State.post_frame, ↓State.outEval_frame, Nat.reduceAnd]
    | split | dsimp only)
theorem execOutOpenLoad_frame (a0) (a1) (a2) (s) : ∃ t, execOutOpenLoad a0 a1 a2 s = .next t ∧ t.without 18886682 = s.without 18886682 := by
  refine ⟨_, rfl, ?_⟩
  repeat' (first
    | with_reducible rfl | with_reducible (refine without_ite ?_ ?_)
    | simp only [↓State.outShow_frame, ↓State.raiseEv_frame, ↓State.modOut_frame, Nat.reduceAnd]
    | split | dsimp only)
theorem execOutShortBat_frame (a0) (a1) (s) : ∃ t, execOutShortBat a0 a1 s = .next t ∧ t.without 18886682 = s.without 18886682 := by
  refine ⟨_, rfl, ?_⟩
  repeat' (first
    | with_reducible rfl | with_reducible (refine without_ite ?_ ?_)
    | simp only [↓State.outShow_frame, ↓State.raiseEv_frame, ↓State.modOut_frame, Nat.reduceAnd]
    | split | dsimp only)
theorem execOutDiagEnd_frame (a0) (a1) (s) : ∃ t, execOutDiagEnd a0 a1 s = .next t ∧ t.without 8202 = s.without 8202 := by
  refine ⟨_, rfl, ?_⟩
  repeat' (first
    | with_reducible rfl | with_reducible (refine without_ite ?_ ?_)
    | simp only [↓State.clearFault_frame, ↓State.modOut_frame, Nat.reduceAnd]
    | split | dsimp only)
theorem execOutTestDue_frame (a0) (s) : ∃ t, execOutTestDue a0 s = .next t ∧ t.without 33562628 = s.without 33562628 := by
  refine ⟨_, rfl, ?_⟩
  repeat' (first
    | with_reducible rfl | with_reducible (refine without_ite ?_ ?_)
    | simp only [↓State.boundary_frame, ↓State.modOut_frame, ↓State.testStart_frame, Nat.reduceAnd]
    | split | dsimp only)
theorem execOutTestReadback_frame (a0) (a1) (s) : ∃ t, execOutTestReadback a0 a1 s = .next t ∧ t.without 52441118 = s.without 52441118 := by
  refine ⟨_, rfl, ?_⟩
  repeat' (first
    | with_reducible rfl | with_reducible (refine without_ite ?_ ?_)
    | simp only [↓State.waitTo_frame, ↓State.outEval_frame, ↓State.modOut_frame, ↓State.outShow_frame,
      ↓State.raiseEv_frame, ↓State.clearFault_frame, ↓without_root, Nat.reduceAnd]
    | split | dsimp only)
theorem execOutParkPatternEdge_frame (a0) (s) : ∃ t, execOutParkPatternEdge a0 s = .next t ∧ t.without 33562628 = s.without 33562628 := by
  refine ⟨_, rfl, ?_⟩
  repeat' (first
    | with_reducible rfl | with_reducible (refine without_ite ?_ ?_)
    | simp only [↓State.waitTo_frame, ↓State.parkGate_frame, ↓State.modPark_frame, ↓without_time, Nat.reduceAnd]
    | split | dsimp only)
theorem execOutParkTimeLimit_frame (a0) (s) : ∃ t, execOutParkTimeLimit a0 s = .next t ∧ t.without 8196 = s.without 8196 := by
  refine ⟨_, rfl, ?_⟩
  repeat' (first
    | with_reducible rfl | with_reducible (refine without_ite ?_ ?_)
    | simp only [↓State.parkRelease_frame, ↓without_time, Nat.reduceAnd]
    | split | dsimp only)
theorem execOutParkTrip_frame (a0) (a1) (s) : ∃ t, execOutParkTrip a0 a1 s = .next t ∧ t.without 8192 = s.without 8192 := by
  refine ⟨_, rfl, ?_⟩
  repeat' (first
    | with_reducible rfl | with_reducible (refine without_ite ?_ ?_)
    | simp only [↓State.parkGate_frame, ↓State.modPark_frame, Nat.reduceAnd]
    | split | dsimp only)
theorem execHbRipple_frame (a0) (a1) (s) : ∃ t, execHbRipple a0 a1 s = .next t ∧ t.without 18915338 = s.without 18915338 := by
  refine ⟨_, rfl, ?_⟩
  repeat' (first
    | with_reducible rfl | with_reducible (refine without_ite ?_ ?_) | with_reducible (refine (foldl_frame _ (fun a x => ?_) _ _).trans ?_) | with_reducible (refine (foldl_fst_frame _ (fun a x => ?_) _ _).trans ?_)
    | simp only [↓State.modHb_frame, ↓State.raiseEv_frame, ↓State.hbPinch_frame, ↓State.hbEnd_frame, Nat.reduceAnd]
    | split | dsimp only)
theorem execHbPinchReverse_frame (a0) (s) : ∃ t, execHbPinchReverse a0 s = .next t ∧ t.without 33562628 = s.without 33562628 := by
  refine ⟨_, rfl, ?_⟩
  repeat' (first
    | with_reducible rfl | with_reducible (refine without_ite ?_ ?_)
    | simp only [↓State.modHb_frame, ↓State.hbGo_frame, ↓State.waitTo_frame, Nat.reduceAnd]
    | split | dsimp only)
theorem execHbPinchTimeout_frame (a0) (s) : ∃ t, execHbPinchTimeout a0 s = .next t ∧ t.without 33595406 = s.without 33595406 := by
  refine ⟨_, rfl, ?_⟩
  repeat' (first
    | with_reducible rfl | with_reducible (refine without_ite ?_ ?_)
    | simp only [↓State.hbEnd_frame, ↓State.waitTo_frame, Nat.reduceAnd]
    | split | dsimp only)
theorem execHbShort_frame (a0) (a1) (s) : ∃ t, execHbShort a0 a1 s = .next t ∧ t.without 18915338 = s.without 18915338 := by
  refine ⟨_, rfl, ?_⟩
  repeat' (first
    | with_reducible rfl | with_reducible (refine without_ite ?_ ?_)
    | simp only [↓State.raiseEv_frame, ↓State.hbEnd_frame, ↓State.modHb_frame, Nat.reduceAnd]
    | split | dsimp only)
theorem execHbStall_frame (a0) (a1) (a2) (s) : ∃ t, execHbStall a0 a1 a2 s = .next t ∧ t.without 40970 = s.without 40970 := by
  refine ⟨_, rfl, ?_⟩
  repeat' (first
    | with_reducible rfl | with_reducible (refine without_ite ?_ ?_)
    | simp only [↓State.hbEnd_frame, Nat.reduceAnd]
    | split | dsimp only)
theorem execHbThermal_frame (a0) (a1) (s) : ∃ t, execHbThermal a0 a1 s = .next t ∧ t.without 18915338 = s.without 18915338 := by
  refine ⟨_, rfl, ?_⟩
  repeat' (first
    | with_reducible rfl | with_reducible (refine without_ite ?_ ?_)
    | simp only [↓State.raiseEv_frame, ↓State.hbEnd_frame, ↓State.modHb_frame, Nat.reduceAnd]
    | split | dsimp only)
theorem execHbThermalEnd_frame (a0) (a1) (s) : ∃ t, execHbThermalEnd a0 a1 s = .next t ∧ t.without 8202 = s.without 8202 := by
  refine ⟨_, rfl, ?_⟩
  repeat' (first
    | with_reducible rfl | with_reducible (refine without_ite ?_ ?_)
    | simp only [↓State.clearFault_frame, ↓State.modHb_frame, Nat.reduceAnd]
    | split | dsimp only)
theorem execHbTimeLimit_frame (a0) (s) : ∃ t, execHbTimeLimit a0 s = .next t ∧ t.without 33595406 = s.without 33595406 := by
  refine ⟨_, rfl, ?_⟩
  repeat' (first
    | with_reducible rfl | with_reducible (refine without_ite ?_ ?_)
    | simp only [↓State.hbEnd_frame, ↓State.waitTo_frame, Nat.reduceAnd]
    | split | dsimp only)
theorem execHbReversalBrakeEnd_frame (a0) (s) : ∃ t, execHbReversalBrakeEnd a0 s = .next t ∧ t.without 33562628 = s.without 33562628 := by
  refine ⟨_, rfl, ?_⟩
  repeat' (first
    | with_reducible rfl | with_reducible (refine without_ite ?_ ?_)
    | simp only [↓State.hbGo_frame, ↓State.waitTo_frame, Nat.reduceAnd]
    | split | dsimp only)
theorem execHbCurrentUpdate_frame (a0) (s) : ∃ t, execHbCurrentUpdate a0 s = .next t ∧ t.without 52441118 = s.without 52441118 := by
  refine ⟨_, rfl, ?_⟩
  repeat' (first
    | with_reducible rfl | with_reducible (refine without_ite ?_ ?_) | with_reducible (refine (foldl_frame _ (fun a x => ?_) _ _).trans ?_) | with_reducible (refine (foldl_fst_frame _ (fun a x => ?_) _ _).trans ?_)
    | simp only [↓State.modHb_frame, ↓State.setSig_frame, ↓State.hbPinch_frame, ↓State.boundary_frame, Nat.reduceAnd]
    | split | dsimp only)
theorem execOutStatus_frame (a0) (s) : ∃ t, execOutStatus a0 s = .next t ∧ t.without 2 = s.without 2 :=
  ⟨_, rfl, State.mailbox_frame s _ _ rfl (verbOutStatus_frame rfl)⟩
theorem execOutConfig_frame (a0) (s) : ∃ t, execOutConfig a0 s = .next t ∧ t.without 536911882 = s.without 536911882 :=
  ⟨_, rfl, State.mailbox_frame s _ _ rfl (verbOutConfig_frame rfl)⟩
theorem execOutSet_frame (a0) (s) : ∃ t, execOutSet a0 s = .next t ∧ t.without 8194 = s.without 8194 :=
  ⟨_, rfl, State.mailbox_frame s _ _ rfl (verbOutSet_frame rfl)⟩
theorem execOutClear_frame (a0) (s) : ∃ t, execOutClear a0 s = .next t ∧ t.without 8202 = s.without 8202 :=
  ⟨_, rfl, State.mailbox_frame s _ _ rfl (verbOutClear_frame rfl)⟩
theorem execOutParkhold_frame (a0) (s) : ∃ t, execOutParkhold a0 s = .next t ∧ t.without 536879106 = s.without 536879106 :=
  ⟨_, rfl, State.mailbox_frame s _ _ rfl (verbOutParkhold_frame rfl)⟩
theorem execHbStatus_frame (a0) (s) : ∃ t, execHbStatus a0 s = .next t ∧ t.without 2 = s.without 2 :=
  ⟨_, rfl, State.mailbox_frame s _ _ rfl (verbHbStatus_frame rfl)⟩
theorem execHbConfig_frame (a0) (s) : ∃ t, execHbConfig a0 s = .next t ∧ t.without 536911882 = s.without 536911882 :=
  ⟨_, rfl, State.mailbox_frame s _ _ rfl (verbHbConfig_frame rfl)⟩
theorem execHbDrive_frame (a0) (s) : ∃ t, execHbDrive a0 s = .next t ∧ t.without 40970 = s.without 40970 :=
  ⟨_, rfl, State.mailbox_frame s _ _ rfl (verbHbDrive_frame rfl)⟩
theorem execHbClear_frame (a0) (s) : ∃ t, execHbClear a0 s = .next t ∧ t.without 8202 = s.without 8202 :=
  ⟨_, rfl, State.mailbox_frame s _ _ rfl (verbHbClear_frame rfl)⟩
theorem execHbPosition_frame (a0) (s) : ∃ t, execHbPosition a0 s = .next t ∧ t.without 8202 = s.without 8202 :=
  ⟨_, rfl, State.mailbox_frame s _ _ rfl (verbHbPosition_frame rfl)⟩
theorem execBodyFlashPhase_frame (a0) (a1) (s) : ∃ t, execBodyFlashPhase a0 a1 s = .next t ∧ t.without 52469774 = s.without 52469774 := by
  refine ⟨_, rfl, ?_⟩
  repeat' (first
    | with_reducible rfl | with_reducible (refine without_ite ?_ ?_)
    | simp only [↓State.lampOuts_frame, ↓State.waitTo_frame, ↓State.bodyApply_frame, ↓State.bodyState_frame,
      ↓State.modSvc_frame, Nat.reduceAnd]
    | split | dsimp only)
theorem execBodyWiperParkSwitch_frame (a0) (s) : ∃ t, execBodyWiperParkSwitch a0 s = .next t ∧ t.without 18915338 = s.without 18915338 := by
  refine ⟨_, rfl, ?_⟩
  repeat' (first
    | with_reducible rfl | with_reducible (refine without_ite ?_ ?_)
    | simp only [↓State.bodyEval_frame, ↓State.modSvc_frame, ↓State.clearFault_frame, ↓State.bodyApply_frame,
      ↓State.wipe_frame, Nat.reduceAnd]
    | split | dsimp only)
theorem execBodyWiperStall_frame (a0) (s) : ∃ t, execBodyWiperStall a0 s = .next t ∧ t.without 52469774 = s.without 52469774 := by
  refine ⟨_, rfl, ?_⟩
  repeat' (first
    | with_reducible rfl | with_reducible (refine without_ite ?_ ?_)
    | simp only [↓State.bodyApply_frame, ↓State.wipe_frame, ↓State.waitTo_frame, ↓State.raiseEv_frame, Nat.reduceAnd]
    | split | dsimp only)
theorem execBodyWiperInterval_frame (a0) (s) : ∃ t, execBodyWiperInterval a0 s = .next t ∧ t.without 33595398 = s.without 33595398 := by
  refine ⟨_, rfl, ?_⟩
  repeat' (first
    | with_reducible rfl | with_reducible (refine without_ite ?_ ?_)
    | simp only [↓State.bodyApply_frame, ↓State.wipe_frame, ↓State.waitTo_frame, Nat.reduceAnd]
    | split | dsimp only)
theorem execBodyWiperChangeover_frame (a0) (s) : ∃ t, execBodyWiperChangeover a0 s = .next t ∧ t.without 33595398 = s.without 33595398 := by
  refine ⟨_, rfl, ?_⟩
  repeat' (first
    | with_reducible rfl | with_reducible (refine without_ite ?_ ?_)
    | simp only [↓State.bodyApply_frame, ↓State.wipe_frame, ↓State.waitTo_frame, Nat.reduceAnd]
    | split | dsimp only)
theorem execBodyLockPulseEnd_frame (a0) (s) : ∃ t, execBodyLockPulseEnd a0 s = .next t ∧ t.without 33595406 = s.without 33595406 := by
  refine ⟨_, rfl, ?_⟩
  repeat' (first
    | with_reducible rfl | with_reducible (refine without_ite ?_ ?_) | with_reducible (refine (foldl_frame _ (fun a x => ?_) _ _).trans ?_) | with_reducible (refine (foldl_fst_frame _ (fun a x => ?_) _ _).trans ?_)
    | simp only [↓State.hbEnd_frame, ↓State.waitTo_frame, ↓State.bodyState_frame, ↓State.modSvc_frame, Nat.reduceAnd]
    | split | dsimp only)
theorem execBodyLockInhibitEnd_frame (a0) (s) : ∃ t, execBodyLockInhibitEnd a0 s = .next t ∧ t.without 33587214 = s.without 33587214 := by
  refine ⟨_, rfl, ?_⟩
  repeat' (first
    | with_reducible rfl | with_reducible (refine without_ite ?_ ?_)
    | simp only [↓State.clearFault_frame, ↓State.modSvc_frame, ↓State.waitTo_frame, Nat.reduceAnd]
    | split | dsimp only)
theorem execBodyAutoUpInhibitEnd_frame (a0) (s) : ∃ t, execBodyAutoUpInhibitEnd a0 s = .next t ∧ t.without 33587204 = s.without 33587204 := by
  refine ⟨_, rfl, ?_⟩
  repeat' (first
    | with_reducible rfl | with_reducible (refine without_ite ?_ ?_)
    | simp only [↓State.modSvc_frame, ↓State.waitTo_frame, Nat.reduceAnd]
    | split | dsimp only)
theorem execBodyMaxOn_frame (a0) (s) : ∃ t, execBodyMaxOn a0 s = .next t ∧ t.without 33595398 = s.without 33595398 := by
  refine ⟨_, rfl, ?_⟩
  repeat' (first
    | with_reducible rfl | with_reducible (refine without_ite ?_ ?_)
    | simp only [↓State.waitTo_frame, ↓State.bodyApply_frame, ↓State.setOff_frame, ↓State.modSvc_frame, Nat.reduceAnd]
    | split | dsimp only)
theorem execBodyDelayOff_frame (a0) (s) : ∃ t, execBodyDelayOff a0 s = .next t ∧ t.without 33595398 = s.without 33595398 := by
  refine ⟨_, rfl, ?_⟩
  repeat' (first
    | with_reducible rfl | with_reducible (refine without_ite ?_ ?_)
    | simp only [↓State.bodyApply_frame, ↓State.setOff_frame, ↓State.waitTo_frame, Nat.reduceAnd]
    | split | dsimp only)
theorem execBodyHostPeriod_frame (s) : ∃ t, execBodyHostPeriod s = .next t ∧ t.without 52469774 = s.without 52469774 := by
  refine ⟨_, rfl, ?_⟩
  repeat' (first
    | with_reducible rfl | with_reducible (refine without_ite ?_ ?_) | with_reducible (refine (foldl_frame _ (fun a x => ?_) _ _).trans ?_) | with_reducible (refine (foldl_fst_frame _ (fun a x => ?_) _ _).trans ?_)
    | simp only [↓State.bodyMiss_frame, ↓State.hostMiss_frame, ↓State.hostPeriod_frame, ↓State.regionWrite_frame,
      ↓State.boundary_frame, Nat.reduceAnd]
    | split | dsimp only)
theorem execBodyStatus_frame (a0) (s) : ∃ t, execBodyStatus a0 s = .next t ∧ t.without 2 = s.without 2 :=
  ⟨_, rfl, State.mailbox_frame s _ _ rfl (verbBodyStatus_frame rfl)⟩
theorem execBodyConfig_frame (a0) (s) : ∃ t, execBodyConfig a0 s = .next t ∧ t.without 555786250 = s.without 555786250 :=
  ⟨_, rfl, State.mailbox_frame s _ _ rfl (verbBodyConfig_frame rfl)⟩
theorem execBodyRequest_frame (a0) (s) : ∃ t, execBodyRequest a0 s = .next t ∧ t.without 18915338 = s.without 18915338 :=
  ⟨_, rfl, State.mailbox_frame s _ _ rfl (verbBodyRequest_frame rfl)⟩
theorem execBodyHostbuf_frame (a0) (s) : ∃ t, execBodyHostbuf a0 s = .next t ∧ t.without 536903682 = s.without 536903682 :=
  ⟨_, rfl, State.mailbox_frame s _ _ rfl (verbBodyHostbuf_frame rfl)⟩
theorem execBodyResult_frame (a0) (s) : ∃ t, execBodyResult a0 s = .next t ∧ t.without 40970 = s.without 40970 :=
  ⟨_, rfl, State.mailbox_frame s _ _ rfl (verbBodyResult_frame rfl)⟩
theorem execSwinWakeStuck_frame (a0) (s) : ∃ t, execSwinWakeStuck a0 s = .next t ∧ t.without 54280206 = s.without 54280206 := by
  refine ⟨_, rfl, ?_⟩
  repeat' (first
    | with_reducible rfl | with_reducible (refine without_ite ?_ ?_)
    | simp only [↓State.waitTo_frame, ↓State.nmEvalAll_frame, ↓State.raiseEv_frame, ↓State.modSw_frame, ↓without_time,
      ↓without_swin, Nat.reduceAnd]
    | split | dsimp only)
theorem execSwinParkCheck_frame (a0) (s) : ∃ t, execSwinParkCheck a0 s = .next t ∧ t.without 34619396 = s.without 34619396 := by
  refine ⟨_, rfl, ?_⟩
  repeat' (first
    | with_reducible rfl | with_reducible (refine without_ite ?_ ?_) | with_reducible (refine (foldl_frame _ (fun a x => ?_) _ _).trans ?_) | with_reducible (refine (foldl_fst_frame _ (fun a x => ?_) _ _).trans ?_)
    | simp only [↓State.swCheck_frame, ↓without_time, Nat.reduceAnd]
    | split | dsimp only)

end Sys2Proof.Machine
end

