-- ==== Sys2Proof/Laws/FrameRow2.lean ====
section
/-! SUPPORT. Laws/FrameRow2.lean: what each command leaves alone: it answers a next state that differs only in the pieces of its mask. A mask has a bit for each piece of `Piece`. -/

set_option linter.all false

namespace Sys2Proof.Machine
theorem execSwinRead_frame (a0) (s) : ∃ t, execSwinRead a0 s = .next t ∧ t.without 2 = s.without 2 :=
  ⟨_, rfl, State.mailbox_frame s _ _ rfl (verbSwinRead_frame rfl)⟩
theorem execSwinConfig_frame (a0) (s) : ∃ t, execSwinConfig a0 s = .next t ∧ t.without 536887298 = s.without 536887298 :=
  ⟨_, rfl, State.mailbox_frame s _ _ rfl (verbSwinConfig_frame rfl)⟩
theorem execLinSlot_frame (a0) (a1) (s) : ∃ t, execLinSlot a0 a1 s = .next t ∧ t.without 52469774 = s.without 52469774 := by
  refine ⟨_, rfl, ?_⟩
  repeat' (first
    | with_reducible rfl | with_reducible (refine without_ite ?_ ?_)
    | simp only [↓State.waitTo_frame, ↓State.modLin_frame, ↓State.linSend_frame, ↓State.clearFault_frame,
      ↓State.bodyEvalAll_frame, ↓State.linFrame_frame, Nat.reduceAnd]
    | split | dsimp only)
theorem execLinBusFault_frame (a0) (a1) (a2) (s) : ∃ t, execLinBusFault a0 a1 a2 s = .next t ∧ t.without 18907146 = s.without 18907146 := by
  refine ⟨_, rfl, ?_⟩
  repeat' (first
    | with_reducible rfl | with_reducible (refine without_ite ?_ ?_)
    | simp only [↓State.modLin_frame, ↓State.raiseEv_frame, Nat.reduceAnd]
    | split | dsimp only)
theorem execLinRetry_frame (a0) (s) : ∃ t, execLinRetry a0 s = .next t ∧ t.without 33587204 = s.without 33587204 := by
  refine ⟨_, rfl, ?_⟩
  repeat' (first
    | with_reducible rfl | with_reducible (refine without_ite ?_ ?_)
    | simp only [↓State.waitTo_frame, ↓State.modLin_frame, Nat.reduceAnd]
    | split | dsimp only)
theorem execLinWakePulse_frame (a0) (a1) (s) : ∃ t, execLinWakePulse a0 a1 s = .next t ∧ t.without 32770 = s.without 32770 := by
  refine ⟨_, rfl, ?_⟩
  repeat' (first
    | with_reducible rfl | with_reducible (refine without_ite ?_ ?_)
    | simp only [↓State.post_frame, ↓State.modLin_frame, Nat.reduceAnd]
    | split | dsimp only)
theorem execLinResume_frame (a0) (s) : ∃ t, execLinResume a0 s = .next t ∧ t.without 33587204 = s.without 33587204 := by
  refine ⟨_, rfl, ?_⟩
  repeat' (first
    | with_reducible rfl | with_reducible (refine without_ite ?_ ?_)
    | simp only [↓State.waitTo_frame, ↓State.modLin_frame, Nat.reduceAnd]
    | split | dsimp only)
theorem execLinStatus_frame (a0) (s) : ∃ t, execLinStatus a0 s = .next t ∧ t.without 2 = s.without 2 :=
  ⟨_, rfl, State.mailbox_frame s _ _ rfl (verbLinStatus_frame rfl)⟩
theorem execLinRead_frame (a0) (s) : ∃ t, execLinRead a0 s = .next t ∧ t.without 2 = s.without 2 :=
  ⟨_, rfl, State.mailbox_frame s _ _ rfl (verbLinRead_frame rfl)⟩
theorem execLinConfig_frame (a0) (s) : ∃ t, execLinConfig a0 s = .next t ∧ t.without 536903690 = s.without 536903690 :=
  ⟨_, rfl, State.mailbox_frame s _ _ rfl (verbLinConfig_frame rfl)⟩
theorem execLinTable_frame (a0) (s) : ∃ t, execLinTable a0 s = .next t ∧ t.without 536903682 = s.without 536903682 :=
  ⟨_, rfl, State.mailbox_frame s _ _ rfl (verbLinTable_frame rfl)⟩
theorem execLinSchedule_frame (a0) (s) : ∃ t, execLinSchedule a0 s = .next t ∧ t.without 32770 = s.without 32770 :=
  ⟨_, rfl, State.mailbox_frame s _ _ rfl (verbLinSchedule_frame rfl)⟩
theorem execLinWrite_frame (a0) (s) : ∃ t, execLinWrite a0 s = .next t ∧ t.without 32770 = s.without 32770 :=
  ⟨_, rfl, State.mailbox_frame s _ _ rfl (verbLinWrite_frame rfl)⟩
theorem execLinSleep_frame (a0) (s) : ∃ t, execLinSleep a0 s = .next t ∧ t.without 32770 = s.without 32770 :=
  ⟨_, rfl, State.mailbox_frame s _ _ rfl (verbLinSleep_frame rfl)⟩
theorem execFanPwmPeriod_frame (a0) (a1) (s) : ∃ t, execFanPwmPeriod a0 a1 s = .next t ∧ t.without 52506654 = s.without 52506654 := by
  refine ⟨_, rfl, ?_⟩
  repeat' (first
    | with_reducible rfl | with_reducible (refine without_ite ?_ ?_)
    | simp only [↓State.boundary_frame, ↓State.fanUnwatch_frame, ↓State.modFan_frame, ↓State.fanDecide_frame,
      ↓State.fanSignal_frame, Nat.reduceAnd]
    | split | dsimp only)
theorem execFanTachEdge_frame (a0) (s) : ∃ t, execFanTachEdge a0 s = .next t ∧ t.without 18952218 = s.without 18952218 := by
  refine ⟨_, rfl, ?_⟩
  repeat' (first
    | with_reducible rfl | with_reducible (refine without_ite ?_ ?_)
    | simp only [↓State.modFan_frame, ↓State.fanMeasured_frame, Nat.reduceAnd]
    | split | dsimp only)
theorem execFanStretch_frame (a0) (s) : ∃ t, execFanStretch a0 s = .next t ∧ t.without 65536 = s.without 65536 := by
  refine ⟨_, rfl, ?_⟩
  repeat' (first
    | with_reducible rfl | with_reducible (refine without_ite ?_ ?_)
    | simp only [↓State.modFan_frame, Nat.reduceAnd]
    | split | dsimp only)
theorem execFanStretchMax_frame (a0) (s) : ∃ t, execFanStretchMax a0 s = .next t ∧ t.without 33619972 = s.without 33619972 := by
  refine ⟨_, rfl, ?_⟩
  repeat' (first
    | with_reducible rfl | with_reducible (refine without_ite ?_ ?_)
    | simp only [↓State.fanStretchEnd_frame, ↓State.waitTo_frame, Nat.reduceAnd]
    | split | dsimp only)
theorem execFanKickTimeout_frame (a0) (a1) (s) : ∃ t, execFanKickTimeout a0 a1 s = .next t ∧ t.without 52506654 = s.without 52506654 := by
  refine ⟨_, rfl, ?_⟩
  repeat' (first
    | with_reducible rfl | with_reducible (refine without_ite ?_ ?_)
    | simp only [↓State.fanBlocked_frame, ↓State.waitTo_frame, Nat.reduceAnd]
    | split | dsimp only)
theorem execFanRetry_frame (a0) (s) : ∃ t, execFanRetry a0 s = .next t ∧ t.without 33628164 = s.without 33628164 := by
  refine ⟨_, rfl, ?_⟩
  repeat' (first
    | with_reducible rfl | with_reducible (refine without_ite ?_ ?_)
    | simp only [↓State.fanKick_frame, ↓State.waitTo_frame, Nat.reduceAnd]
    | split | dsimp only)
theorem execFanTachTimeout_frame (a0) (a1) (s) : ∃ t, execFanTachTimeout a0 a1 s = .next t ∧ t.without 52506654 = s.without 52506654 := by
  refine ⟨_, rfl, ?_⟩
  repeat' (first
    | with_reducible rfl | with_reducible (refine without_ite ?_ ?_)
    | simp only [↓State.waitTo_frame, ↓State.fanBlocked_frame, ↓State.modFan_frame, ↓State.raiseEv_frame,
      ↓State.fanSignal_frame, ↓State.fanCause_frame, Nat.reduceAnd]
    | split | dsimp only)
theorem execFanHeartbeatMissing_frame (a0) (a1) (s) : ∃ t, execFanHeartbeatMissing a0 a1 s = .next t ∧ t.without 52502542 = s.without 52502542 := by
  refine ⟨_, rfl, ?_⟩
  repeat' (first
    | with_reducible rfl | with_reducible (refine without_ite ?_ ?_)
    | simp only [↓State.fanCause_frame, ↓State.waitTo_frame, Nat.reduceAnd]
    | split | dsimp only)
theorem execFanStatus_frame (a0) (s) : ∃ t, execFanStatus a0 s = .next t ∧ t.without 2 = s.without 2 :=
  ⟨_, rfl, State.mailbox_frame s _ _ rfl (verbFanStatus_frame rfl)⟩
theorem execFanConfig_frame (a0) (s) : ∃ t, execFanConfig a0 s = .next t ∧ t.without 555823130 = s.without 555823130 :=
  ⟨_, rfl, State.mailbox_frame s _ _ rfl (verbFanConfig_frame rfl)⟩
theorem execFanTable_frame (a0) (s) : ∃ t, execFanTable a0 s = .next t ∧ t.without 536936450 = s.without 536936450 :=
  ⟨_, rfl, State.mailbox_frame s _ _ rfl (verbFanTable_frame rfl)⟩
theorem execFanSet_frame (a0) (s) : ∃ t, execFanSet a0 s = .next t ∧ t.without 65538 = s.without 65538 :=
  ⟨_, rfl, State.mailbox_frame s _ _ rfl (verbFanSet_frame rfl)⟩
theorem execFanClear_frame (a0) (s) : ∃ t, execFanClear a0 s = .next t ∧ t.without 73738 = s.without 73738 :=
  ⟨_, rfl, State.mailbox_frame s _ _ rfl (verbFanClear_frame rfl)⟩
theorem execFanResult_frame (a0) (s) : ∃ t, execFanResult a0 s = .next t ∧ t.without 18948106 = s.without 18948106 :=
  ⟨_, rfl, State.mailbox_frame s _ _ rfl (verbFanResult_frame rfl)⟩
theorem execPlateFrameStart_frame (s) : ∃ t, execPlateFrameStart s = .next t ∧ t.without 33685508 = s.without 33685508 := by
  refine ⟨_, rfl, ?_⟩
  repeat' (first
    | with_reducible rfl | with_reducible (refine without_ite ?_ ?_)
    | simp only [↓State.waitTo_frame, ↓State.modPlate_frame, Nat.reduceAnd]
    | split | dsimp only)
theorem execPlateFrameDone_frame (s) : ∃ t, execPlateFrameDone s = .next t ∧ t.without 33685508 = s.without 33685508 := by
  refine ⟨_, rfl, ?_⟩
  repeat' (first
    | with_reducible rfl | with_reducible (refine without_ite ?_ ?_)
    | simp only [↓State.waitTo_frame, ↓State.modPlate_frame, Nat.reduceAnd]
    | split | dsimp only)
theorem execPlateBusyTimeout_frame (s) : ∃ t, execPlateBusyTimeout s = .next t ∧ t.without 2200043534 = s.without 2200043534 := by
  refine ⟨_, rfl, ?_⟩
  repeat' (first
    | with_reducible rfl | with_reducible (refine without_ite ?_ ?_)
    | simp only [↓State.waitTo_frame, ↓State.plateNext_frame, ↓State.plateAbort_frame, ↓State.raiseEv_frame,
      Nat.reduceAnd]
    | split | dsimp only)
theorem execPlateRailFault_frame (a0) (a1) (s) : ∃ t, execPlateRailFault a0 a1 s = .next t ∧ t.without 2166489098 = s.without 2166489098 := by
  refine ⟨_, rfl, ?_⟩
  repeat' (first
    | with_reducible rfl | with_reducible (refine without_ite ?_ ?_)
    | simp only [↓State.plateNext_frame, ↓State.plateAbort_frame, ↓State.raiseEv_frame, Nat.reduceAnd]
    | split | dsimp only)
theorem execPlateDone_frame (s) : ∃ t, execPlateDone s = .next t ∧ t.without 2200043534 = s.without 2200043534 := by
  refine ⟨_, rfl, ?_⟩
  repeat' (first
    | with_reducible rfl | with_reducible (refine without_ite ?_ ?_)
    | simp only [↓State.waitTo_frame, ↓State.modPlate_frame, ↓State.plateNext_frame, ↓State.plateDone_frame,
      ↓State.clearFault_frame, Nat.reduceAnd]
    | split | dsimp only)
theorem execPlateStatus_frame (a0) (s) : ∃ t, execPlateStatus a0 s = .next t ∧ t.without 2 = s.without 2 :=
  ⟨_, rfl, State.mailbox_frame s _ _ rfl (verbPlateStatus_frame rfl)⟩
theorem execPlateConfig_frame (a0) (s) : ∃ t, execPlateConfig a0 s = .next t ∧ t.without 537001986 = s.without 537001986 :=
  ⟨_, rfl, State.mailbox_frame s _ _ rfl (verbPlateConfig_frame rfl)⟩
theorem execPlateWaveform_frame (a0) (s) : ∃ t, execPlateWaveform a0 s = .next t ∧ t.without 537001986 = s.without 537001986 :=
  ⟨_, rfl, State.mailbox_frame s _ _ rfl (verbPlateWaveform_frame rfl)⟩
theorem execPlateUpdate_frame (a0) (s) : ∃ t, execPlateUpdate a0 s = .next t ∧ t.without 2166489098 = s.without 2166489098 :=
  ⟨_, rfl, State.mailbox_frame s _ _ rfl (verbPlateUpdate_frame rfl)⟩
theorem execPlatePark_frame (a0) (s) : ∃ t, execPlatePark a0 s = .next t ∧ t.without 537001986 = s.without 537001986 :=
  ⟨_, rfl, State.mailbox_frame s _ _ rfl (verbPlatePark_frame rfl)⟩
theorem execCanTpTimeout_frame (a0) (a1) (s) : ∃ t, execCanTpTimeout a0 a1 s = .next t ∧ t.without 52690958 = s.without 52690958 := by
  refine ⟨_, rfl, ?_⟩
  repeat' (first
    | with_reducible rfl | with_reducible (refine without_ite ?_ ?_)
    | simp only [↓State.waitTo_frame, ↓State.tpAbort_frame, ↓State.tpSendAbort_frame, Nat.reduceAnd]
    | split | dsimp only)
theorem execCanTpBamPacket_frame (a0) (a1) (s) : ∃ t, execCanTpBamPacket a0 a1 s = .next t ∧ t.without 33816590 = s.without 33816590 := by
  refine ⟨_, rfl, ?_⟩
  repeat' (first
    | with_reducible rfl | with_reducible (refine without_ite ?_ ?_)
    | simp only [↓State.waitTo_frame, ↓State.tpSendWindow_frame, ↓State.modTp_frame, ↓State.tpDone_frame, Nat.reduceAnd]
    | split | dsimp only)
theorem execCanTp_frame (a0) (s) : ∃ t, execCanTp a0 s = .next t ∧ t.without 2703491082 = s.without 2703491082 :=
  ⟨_, rfl, State.mailbox_frame s _ _ rfl (verbCanTp_frame rfl)⟩
theorem execCanTpSend_frame (a0) (s) : ∃ t, execCanTpSend a0 s = .next t ∧ t.without 262146 = s.without 262146 :=
  ⟨_, rfl, State.mailbox_frame s _ _ rfl (verbCanTpSend_frame rfl)⟩
theorem execCanHpHoldExpiry_frame (a0) (a1) (s) : ∃ t, execCanHpHoldExpiry a0 a1 s = .next t ∧ t.without 33816580 = s.without 33816580 := by
  refine ⟨_, rfl, ?_⟩
  repeat' (first
    | with_reducible rfl | with_reducible (refine without_ite ?_ ?_)
    | simp only [↓State.modCan_frame, ↓State.waitTo_frame, Nat.reduceAnd]
    | split | dsimp only)
theorem execCanSignalTimeout_frame (a0) (s) : ∃ t, execCanSignalTimeout a0 s = .next t ∧ t.without 33816596 = s.without 33816596 := by
  refine ⟨_, rfl, ?_⟩
  repeat' (first
    | with_reducible rfl | with_reducible (refine without_ite ?_ ?_)
    | simp only [↓State.waitTo_frame, ↓State.modFlags_frame, ↓without_can, Nat.reduceAnd]
    | split | dsimp only)
theorem execCanQueueNotifyAge_frame (a0) (a1) (s) : ∃ t, execCanQueueNotifyAge a0 a1 s = .next t ∧ t.without 33816582 = s.without 33816582 := by
  refine ⟨_, rfl, ?_⟩
  repeat' (first
    | with_reducible rfl | with_reducible (refine without_ite ?_ ?_)
    | simp only [↓State.queueRead_frame, ↓State.queueNotify_frame, ↓State.waitTo_frame, Nat.reduceAnd]
    | split | dsimp only)
theorem execCanRouteHoldTimeout_frame (a0) (s) : ∃ t, execCanRouteHoldTimeout a0 s = .next t ∧ t.without 54263822 = s.without 54263822 := by
  refine ⟨_, rfl, ?_⟩
  repeat' (first
    | with_reducible rfl | with_reducible (refine without_ite ?_ ?_) | with_reducible (refine (foldl_frame _ (fun a x => ?_) _ _).trans ?_) | with_reducible (refine (foldl_fst_frame _ (fun a x => ?_) _ _).trans ?_)
    | simp only [↓State.waitTo_frame, ↓State.modCan_frame, ↓State.nmEvalAll_frame, ↓State.routeDrop_frame, Nat.reduceAnd]
    | split | dsimp only)
theorem execCanBasicCycle_frame (a0) (s) : ∃ t, execCanBasicCycle a0 s = .next t ∧ t.without 33816590 = s.without 33816590 := by
  refine ⟨_, rfl, ?_⟩
  repeat' (first
    | with_reducible rfl | with_reducible (refine without_ite ?_ ?_)
    | simp only [↓State.boundary_frame, ↓State.schedApply_frame, ↓State.sendReference_frame, Nat.reduceAnd]
    | split | dsimp only)
theorem execCanBackupReference_frame (a0) (s) : ∃ t, execCanBackupReference a0 s = .next t ∧ t.without 33816590 = s.without 33816590 := by
  refine ⟨_, rfl, ?_⟩
  repeat' (first
    | with_reducible rfl | with_reducible (refine without_ite ?_ ?_)
    | simp only [↓State.waitTo_frame, ↓State.schedApply_frame, ↓State.clearFault_frame, ↓State.sendReference_frame,
      Nat.reduceAnd]
    | split | dsimp only)
theorem execCanScheduleLost_frame (a0) (s) : ∃ t, execCanScheduleLost a0 s = .next t ∧ t.without 52690958 = s.without 52690958 := by
  refine ⟨_, rfl, ?_⟩
  repeat' (first
    | with_reducible rfl | with_reducible (refine without_ite ?_ ?_)
    | simp only [↓State.waitTo_frame, ↓State.raiseEv_frame, ↓State.modCan_frame, Nat.reduceAnd]
    | split | dsimp only)
theorem execCanSlotWindow_frame (a0) (s) : ∃ t, execCanSlotWindow a0 s = .next t ∧ t.without 2200174606 = s.without 2200174606 := by
  refine ⟨_, rfl, ?_⟩
  repeat' (first
    | with_reducible rfl | with_reducible (refine without_ite ?_ ?_)
    | simp only [↓State.txFail_frame, ↓State.waitTo_frame, ↓State.txRequest_frame, ↓without_time, Nat.reduceAnd]
    | split | dsimp only)
theorem execCanFrameRx_frame (a0) (s) : ∃ t, execCanFrameRx a0 s = .next t ∧ t.without 20713754 = s.without 20713754 := by
  refine ⟨_, rfl, ?_⟩
  repeat' (first
    | with_reducible rfl | with_reducible (refine without_ite ?_ ?_) | with_reducible (refine (foldl_frame _ (fun a x => ?_) _ _).trans ?_) | with_reducible (refine (foldl_fst_frame _ (fun a x => ?_) _ _).trans ?_)
    | simp only [↓State.modCan_frame, ↓State.canErrors_frame, ↓State.hpFrame_frame, ↓State.rxExtract_frame,
      ↓State.rxQueues_frame, ↓State.rxRoutes_frame, ↓State.rxReference_frame, ↓State.tpTake_frame,
      ↓State.nmEvalAll_frame, ↓State.nmFrame_frame, Nat.reduceAnd]
    | split | dsimp only)
theorem execCanTxPeriodic_frame (a0) (s) : ∃ t, execCanTxPeriodic a0 s = .next t ∧ t.without 2200174606 = s.without 2200174606 := by
  refine ⟨_, rfl, ?_⟩
  repeat' (first
    | with_reducible rfl | with_reducible (refine without_ite ?_ ?_)
    | simp only [↓State.txRequest_frame, ↓State.boundary_frame, Nat.reduceAnd]
    | split | dsimp only)
theorem execCanTxOnChange_frame (a0) (s) : ∃ t, execCanTxOnChange a0 s = .next t ∧ t.without 2200174606 = s.without 2200174606 := by
  refine ⟨_, rfl, ?_⟩
  repeat' (first
    | with_reducible rfl | with_reducible (refine without_ite ?_ ?_)
    | simp only [↓State.waitTo_frame, ↓State.txRequest_frame, Nat.reduceAnd]
    | split | dsimp only)
theorem execCanTxComplete_frame (a0) (a1) (a2) (s) : ∃ t, execCanTxComplete a0 a1 a2 s = .next t ∧ t.without 19136522 = s.without 19136522 := by
  refine ⟨_, rfl, ?_⟩
  repeat' (first
    | with_reducible rfl | with_reducible (refine without_ite ?_ ?_)
    | simp only [↓State.txDone_frame, ↓State.canHostSent_frame, ↓State.txBad_frame, Nat.reduceAnd]
    | split | dsimp only)
theorem execCanBusRecovered_frame (a0) (s) : ∃ t, execCanBusRecovered a0 s = .next t ∧ t.without 262154 = s.without 262154 := by
  refine ⟨_, rfl, ?_⟩
  repeat' (first
    | with_reducible rfl | with_reducible (refine without_ite ?_ ?_)
    | simp only [↓State.clearFault_frame, ↓State.modCan_frame, Nat.reduceAnd]
    | split | dsimp only)
theorem execCanRejoin_frame (a0) (s) : ∃ t, execCanRejoin a0 s = .next t ∧ t.without 262144 = s.without 262144 := by
  refine ⟨_, rfl, ?_⟩
  repeat' (first
    | with_reducible rfl | with_reducible (refine without_ite ?_ ?_)
    | simp only [↓State.modCan_frame, Nat.reduceAnd]
    | split | dsimp only)
theorem execCanTxdDominant_frame (a0) (a1) (s) : ∃ t, execCanTxdDominant a0 a1 s = .next t ∧ t.without 18874378 = s.without 18874378 := by
  refine ⟨_, rfl, ?_⟩
  repeat' (first
    | with_reducible rfl | with_reducible (refine without_ite ?_ ?_)
    | simp only [↓State.raiseEv_frame, Nat.reduceAnd]
    | split | dsimp only)
theorem execCanBusError_frame (a0) (a1) (s) : ∃ t, execCanBusError a0 a1 s = .next t ∧ t.without 262146 = s.without 262146 := by
  refine ⟨_, rfl, ?_⟩
  repeat' (first
    | with_reducible rfl | with_reducible (refine without_ite ?_ ?_)
    | simp only [↓State.modCan_frame, ↓State.canErrors_frame, Nat.reduceAnd]
    | split | dsimp only)
theorem execCanStatus_frame (a0) (s) : ∃ t, execCanStatus a0 s = .next t ∧ t.without 2 = s.without 2 :=
  ⟨_, rfl, State.mailbox_frame s _ _ rfl (verbCanStatus_frame rfl)⟩
theorem execCanHpRead_frame (a0) (s) : ∃ t, execCanHpRead a0 s = .next t ∧ t.without 2 = s.without 2 :=
  ⟨_, rfl, State.mailbox_frame s _ _ rfl (verbCanHpRead_frame rfl)⟩
theorem execCanTxStatus_frame (a0) (s) : ∃ t, execCanTxStatus a0 s = .next t ∧ t.without 2 = s.without 2 :=
  ⟨_, rfl, State.mailbox_frame s _ _ rfl (verbCanTxStatus_frame rfl)⟩
theorem execCanConfig_frame (a0) (s) : ∃ t, execCanConfig a0 s = .next t ∧ t.without 556007434 = s.without 556007434 :=
  ⟨_, rfl, State.mailbox_frame s _ _ rfl (verbCanConfig_frame rfl)⟩
theorem execCanQueue_frame (a0) (s) : ∃ t, execCanQueue a0 s = .next t ∧ t.without 537133066 = s.without 537133066 :=
  ⟨_, rfl, State.mailbox_frame s _ _ rfl (verbCanQueue_frame rfl)⟩
theorem execCanSchedule_frame (a0) (s) : ∃ t, execCanSchedule a0 s = .next t ∧ t.without 537133066 = s.without 537133066 :=
  ⟨_, rfl, State.mailbox_frame s _ _ rfl (verbCanSchedule_frame rfl)⟩
theorem execCanRecover_frame (a0) (s) : ∃ t, execCanRecover a0 s = .next t ∧ t.without 262146 = s.without 262146 :=
  ⟨_, rfl, State.mailbox_frame s _ _ rfl (verbCanRecover_frame rfl)⟩
theorem execCanSend_frame (a0) (s) : ∃ t, execCanSend a0 s = .next t ∧ t.without 2166620170 = s.without 2166620170 :=
  ⟨_, rfl, State.mailbox_frame s _ _ rfl (verbCanSend_frame rfl)⟩
theorem execEthHostringTx_frame (a0) (a1) (s) : ∃ t, execEthHostringTx a0 a1 s = .next t ∧ t.without 524290 = s.without 524290 := by
  refine ⟨_, rfl, ?_⟩
  repeat' (first
    | with_reducible rfl | with_reducible (refine without_ite ?_ ?_) | with_reducible (refine (foldl_frame _ (fun a x => ?_) _ _).trans ?_) | with_reducible (refine (foldl_fst_frame _ (fun a x => ?_) _ _).trans ?_)
    | simp only [↓State.store_frame, ↓State.modRing_frame, ↓State.regionWrite_frame, Nat.reduceAnd]
    | split | dsimp only)
theorem execEthLinkUp_frame (a0) (a1) (a2) (a3) (s) : ∃ t, execEthLinkUp a0 a1 a2 a3 s = .next t ∧ t.without 524298 = s.without 524298 := by
  refine ⟨_, rfl, ?_⟩
  repeat' (first
    | with_reducible rfl | with_reducible (refine without_ite ?_ ?_)
    | simp only [↓State.modEth_frame, ↓State.clearFault_frame, ↓State.post_frame, Nat.reduceAnd]
    | split | dsimp only)
theorem execEthLinkDown_frame (a0) (s) : ∃ t, execEthLinkDown a0 s = .next t ∧ t.without 19398666 = s.without 19398666 := by
  refine ⟨_, rfl, ?_⟩
  repeat' (first
    | with_reducible rfl | with_reducible (refine without_ite ?_ ?_)
    | simp only [↓State.modEth_frame, ↓State.raiseEv_frame, ↓State.gptpState_frame, Nat.reduceAnd]
    | split | dsimp only)
theorem execEthFrameRx_frame (a0) (s) : ∃ t, execEthFrameRx a0 s = .next t ∧ t.without 2166882574 = s.without 2166882574 := by
  refine ⟨_, rfl, ?_⟩
  repeat' (first
    | with_reducible rfl | with_reducible (refine without_ite ?_ ?_) | with_reducible (refine (foldl_frame _ (fun a x => ?_) _ _).trans ?_) | with_reducible (refine (foldl_fst_frame _ (fun a x => ?_) _ _).trans ?_)
    | simp only [↓State.modEth_frame, ↓State.ethInternal_frame, Nat.reduceAnd]
    | split | dsimp only)
theorem execEthGateCycle_frame (a0) (s) : ∃ t, execEthGateCycle a0 s = .next t ∧ t.without 34078724 = s.without 34078724 := by
  refine ⟨_, rfl, ?_⟩
  repeat' (first
    | with_reducible rfl | with_reducible (refine without_ite ?_ ?_)
    | simp only [↓State.modEth_frame, ↓State.waitTo_frame, Nat.reduceAnd]
    | split | dsimp only)
theorem execEthLidarFragment_frame (a0) (a1) (s) : ∃ t, execEthLidarFragment a0 a1 s = .next t ∧ t.without 19400714 = s.without 19400714 := by
  refine ⟨_, rfl, ?_⟩
  repeat' (first
    | with_reducible rfl | with_reducible (refine without_ite ?_ ?_)
    | simp only [↓State.modLidar_frame, ↓State.lidarDrop_frame, ↓State.lidarReady_frame, Nat.reduceAnd]
    | split | dsimp only)
theorem execEthLidarTimeout_frame (a0) (s) : ∃ t, execEthLidarTimeout a0 s = .next t ∧ t.without 52953102 = s.without 52953102 := by
  refine ⟨_, rfl, ?_⟩
  repeat' (first
    | with_reducible rfl | with_reducible (refine without_ite ?_ ?_)
    | simp only [↓State.lidarDrop_frame, ↓State.waitTo_frame, Nat.reduceAnd]
    | split | dsimp only)
theorem execEthSignalDatagram_frame (a0) (a1) (s) : ∃ t, execEthSignalDatagram a0 a1 s = .next t ∧ t.without 528400 = s.without 528400 := by
  refine ⟨_, rfl, ?_⟩
  repeat' (first
    | with_reducible rfl | with_reducible (refine without_ite ?_ ?_) | with_reducible (refine (foldl_frame _ (fun a x => ?_) _ _).trans ?_) | with_reducible (refine (foldl_fst_frame _ (fun a x => ?_) _ _).trans ?_)
    | simp only [↓State.modSigPort_frame, ↓State.setSig_frame, Nat.reduceAnd]
    | split | dsimp only)
theorem execEthSigportTimeout_frame (a0) (s) : ∃ t, execEthSigportTimeout a0 s = .next t ∧ t.without 33554452 = s.without 33554452 := by
  refine ⟨_, rfl, ?_⟩
  repeat' (first
    | with_reducible rfl | with_reducible (refine without_ite ?_ ?_)
    | simp only [↓State.modFlags_frame, ↓State.waitTo_frame, Nat.reduceAnd]
    | split | dsimp only)
theorem execEthStatus_frame (a0) (s) : ∃ t, execEthStatus a0 s = .next t ∧ t.without 2 = s.without 2 :=
  ⟨_, rfl, State.mailbox_frame s _ _ rfl (verbEthStatus_frame rfl)⟩
theorem execEthConfig_frame (a0) (s) : ∃ t, execEthConfig a0 s = .next t ∧ t.without 537395210 = s.without 537395210 :=
  ⟨_, rfl, State.mailbox_frame s _ _ rfl (verbEthConfig_frame rfl)⟩
theorem execEthGates_frame (a0) (s) : ∃ t, execEthGates a0 s = .next t ∧ t.without 537395202 = s.without 537395202 :=
  ⟨_, rfl, State.mailbox_frame s _ _ rfl (verbEthGates_frame rfl)⟩
theorem execEthLidar_frame (a0) (s) : ∃ t, execEthLidar a0 s = .next t ∧ t.without 537395210 = s.without 537395210 :=
  ⟨_, rfl, State.mailbox_frame s _ _ rfl (verbEthLidar_frame rfl)⟩
theorem execEthSigport_frame (a0) (s) : ∃ t, execEthSigport a0 s = .next t ∧ t.without 537395202 = s.without 537395202 :=
  ⟨_, rfl, State.mailbox_frame s _ _ rfl (verbEthSigport_frame rfl)⟩
theorem execEthHostring_frame (a0) (s) : ∃ t, execEthHostring a0 s = .next t ∧ t.without 537395202 = s.without 537395202 :=
  ⟨_, rfl, State.mailbox_frame s _ _ rfl (verbEthHostring_frame rfl)⟩
theorem execReflexRuleChange_frame (s) : ∃ t, execReflexRuleChange s = .next t ∧ t.without 2138250 = s.without 2138250 := by
  refine ⟨_, rfl, ?_⟩
  repeat' (first
    | with_reducible rfl | with_reducible (refine without_ite ?_ ?_)
    | simp only [↓State.reflexCycle_frame, Nat.reduceAnd]
    | split | dsimp only)
theorem execFlagsSetWrite_frame (a0) (s) : ∃ t, execFlagsSetWrite a0 s = .next t ∧ t.without 2097152 = s.without 2097152 := by
  refine ⟨_, rfl, ?_⟩
  repeat' (first
    | with_reducible rfl | with_reducible (refine without_ite ?_ ?_)
    | simp only [↓State.modRoot_frame, Nat.reduceAnd]
    | split | dsimp only)
theorem execFlagsClrWrite_frame (a0) (s) : ∃ t, execFlagsClrWrite a0 s = .next t ∧ t.without 2097152 = s.without 2097152 := by
  refine ⟨_, rfl, ?_⟩
  repeat' (first
    | with_reducible rfl | with_reducible (refine without_ite ?_ ?_)
    | simp only [↓State.modRoot_frame, Nat.reduceAnd]
    | split | dsimp only)
theorem execRuleRecordWrite_frame (a0) (a1) (a2) (s) : ∃ t, execRuleRecordWrite a0 a1 a2 s = .next t ∧ t.without 2097152 = s.without 2097152 := by
  refine ⟨_, rfl, ?_⟩
  repeat' (first
    | with_reducible rfl | with_reducible (refine without_ite ?_ ?_)
    | simp only [↓State.modRoot_frame, Nat.reduceAnd]
    | split | dsimp only)
theorem execRuleEnWrite_frame (a0) (a1) (s) : ∃ t, execRuleEnWrite a0 a1 s = .next t ∧ t.without 2138250 = s.without 2138250 := by
  refine ⟨_, rfl, ?_⟩
  repeat' (first
    | with_reducible rfl | with_reducible (refine without_ite ?_ ?_) | with_reducible (refine (foldl_frame _ (fun a x => ?_) _ _).trans ?_) | with_reducible (refine (foldl_fst_frame _ (fun a x => ?_) _ _).trans ?_)
    | simp only [↓State.refreshGates_frame, ↓State.ruleEnable_frame, Nat.reduceAnd]
    | split | dsimp only)
theorem execStuckW1c_frame (a0) (a1) (s) : ∃ t, execStuckW1c a0 a1 s = .next t ∧ t.without 2097152 = s.without 2097152 := by
  refine ⟨_, rfl, ?_⟩
  repeat' (first
    | with_reducible rfl | with_reducible (refine without_ite ?_ ?_)
    | simp only [↓State.modRoot_frame, Nat.reduceAnd]
    | split | dsimp only)
theorem execSafeoffWrite_frame (a0) (s) : ∃ t, execSafeoffWrite a0 s = .next t ∧ t.without 2138250 = s.without 2138250 := by
  refine ⟨_, rfl, ?_⟩
  repeat' (first
    | with_reducible rfl | with_reducible (refine without_ite ?_ ?_)
    | simp only [↓State.refreshGates_frame, ↓State.modRoot_frame, Nat.reduceAnd]
    | split | dsimp only)
theorem execCellarHoldRelease_frame (a0) (s) : ∃ t, execCellarHoldRelease a0 s = .next t ∧ t.without 2138250 = s.without 2138250 := by
  refine ⟨_, rfl, ?_⟩
  repeat' (first
    | with_reducible rfl | with_reducible (refine without_ite ?_ ?_)
    | simp only [↓State.post_frame, ↓State.refreshGates_frame, ↓State.modRoot_frame, Nat.reduceAnd]
    | split | dsimp only)
theorem execTaggedOffRelease_frame (s) : ∃ t, execTaggedOffRelease s = .next t ∧ t.without 2138250 = s.without 2138250 := by
  refine ⟨_, rfl, ?_⟩
  repeat' (first
    | with_reducible rfl | with_reducible (refine without_ite ?_ ?_)
    | simp only [↓State.post_frame, ↓State.refreshGates_frame, ↓State.modRoot_frame, Nat.reduceAnd]
    | split | dsimp only)
theorem execRootLinkMessage_frame (a0) (a1) (a2) (s) : ∃ t, execRootLinkMessage a0 a1 a2 s = .next t ∧ t.without 18874378 = s.without 18874378 := by
  refine ⟨_, rfl, ?_⟩
  repeat' (first
    | with_reducible rfl | with_reducible (refine without_ite ?_ ?_)
    | simp only [↓State.linkDiscard_frame, ↓State.modLink_frame, ↓State.linkSafe_frame, ↓State.clearFault_frame,
      ↓State.post_frame, Nat.reduceAnd]
    | split | dsimp only)
theorem execRootLinkTimeout_frame (a0) (s) : ∃ t, execRootLinkTimeout a0 s = .next t ∧ t.without 52428814 = s.without 52428814 := by
  refine ⟨_, rfl, ?_⟩
  repeat' (first
    | with_reducible rfl | with_reducible (refine without_ite ?_ ?_)
    | simp only [↓State.linkSafe_frame, ↓State.waitTo_frame, Nat.reduceAnd]
    | split | dsimp only)
theorem execRootLinkTx_frame (a0) (a1) (s) : ∃ t, execRootLinkTx a0 a1 s = .next t ∧ t.without 35651588 = s.without 35651588 := by
  refine ⟨_, rfl, ?_⟩
  repeat' (first
    | with_reducible rfl | with_reducible (refine without_ite ?_ ?_)
    | simp only [↓State.waitTo_frame, ↓State.modLink_frame, Nat.reduceAnd]
    | split | dsimp only)
theorem execRootLinkRearm_frame (a0) (s) : ∃ t, execRootLinkRearm a0 s = .next t ∧ t.without 2097162 = s.without 2097162 := by
  refine ⟨_, rfl, ?_⟩
  repeat' (first
    | with_reducible rfl | with_reducible (refine without_ite ?_ ?_)
    | simp only [↓State.modLink_frame, ↓State.clearFault_frame, Nat.reduceAnd]
    | split | dsimp only)
theorem execWdKeyWrite_frame (a0) (s) : ∃ t, execWdKeyWrite a0 s = .next t ∧ t.without 18915482 = s.without 18915482 := by
  refine ⟨_, rfl, ?_⟩
  repeat' (first
    | with_reducible rfl | with_reducible (refine without_ite ?_ ?_)
    | simp only [↓State.rootFault_frame, ↓State.modRoot_frame, Nat.reduceAnd]
    | split | dsimp only)
theorem execRootWdTimeout_frame (s) : ∃ t, execRootWdTimeout s = .next t ∧ t.without 52469918 = s.without 52469918 := by
  refine ⟨_, rfl, ?_⟩
  repeat' (first
    | with_reducible rfl | with_reducible (refine without_ite ?_ ?_)
    | simp only [↓State.rootFault_frame, ↓State.waitTo_frame, Nat.reduceAnd]
    | split | dsimp only)
theorem execWdCfgWrite_frame (a0) (s) : ∃ t, execWdCfgWrite a0 s = .next t ∧ t.without 2097152 = s.without 2097152 := by
  refine ⟨_, rfl, ?_⟩
  repeat' (first
    | with_reducible rfl | with_reducible (refine without_ite ?_ ?_)
    | simp only [↓State.modRoot_frame, Nat.reduceAnd]
    | split | dsimp only)
theorem execRootStopWrite_frame (s) : ∃ t, execRootStopWrite s = .next t ∧ t.without 18915482 = s.without 18915482 := by
  refine ⟨_, rfl, ?_⟩
  repeat' (first
    | with_reducible rfl | with_reducible (refine without_ite ?_ ?_)
    | simp only [↓State.rootFault_frame, Nat.reduceAnd]
    | split | dsimp only)
theorem execRootStatus_frame (a0) (s) : ∃ t, execRootStatus a0 s = .next t ∧ t.without 2 = s.without 2 :=
  ⟨_, rfl, State.mailbox_frame s _ _ rfl (verbRootStatus_frame rfl)⟩
theorem execRootLinkStatus_frame (a0) (s) : ∃ t, execRootLinkStatus a0 s = .next t ∧ t.without 2 = s.without 2 :=
  ⟨_, rfl, State.mailbox_frame s _ _ rfl (verbRootLinkStatus_frame rfl)⟩
theorem execRootRestart_frame (a0) (s) : ∃ t, execRootRestart a0 s = .next t ∧ t.without 18915482 = s.without 18915482 :=
  ⟨_, rfl, State.mailbox_frame s _ _ rfl (verbRootRestart_frame rfl)⟩
theorem execReflexStatus_frame (a0) (s) : ∃ t, execReflexStatus a0 s = .next t ∧ t.without 2 = s.without 2 :=
  ⟨_, rfl, State.mailbox_frame s _ _ rfl (verbReflexStatus_frame rfl)⟩
theorem execAtticDone_frame (a0) (s) : ∃ t, execAtticDone a0 s = .next t ∧ t.without 27262986 = s.without 27262986 := by
  refine ⟨_, rfl, ?_⟩
  repeat' (first
    | with_reducible rfl | with_reducible (refine without_ite ?_ ?_)
    | simp only [↓State.modAttic_frame, ↓State.commitWrite_frame, ↓State.finishRead_frame, ↓State.regionEnd_frame,
      ↓State.complete_frame, Nat.reduceAnd]
    | split | dsimp only)
theorem execAtticTempSample_frame (a0) (s) : ∃ t, execAtticTempSample a0 s = .next t ∧ t.without 60821534 = s.without 60821534 := by
  refine ⟨_, rfl, ?_⟩
  repeat' (first
    | with_reducible rfl | with_reducible (refine without_ite ?_ ?_)
    | simp only [↓State.boundary_frame, ↓State.setSig_frame, ↓State.modAttic_frame, ↓State.inhibitStep_frame,
      Nat.reduceAnd]
    | split | dsimp only)
theorem execAtticStageLost_frame (s) : ∃ t, execAtticStageLost s = .next t ∧ t.without 329256974 = s.without 329256974 := by
  refine ⟨_, rfl, ?_⟩
  repeat' (first
    | with_reducible rfl | with_reducible (refine without_ite ?_ ?_)
    | simp only [↓State.waitTo_frame, ↓State.raiseEv_frame, ↓State.dropStage_frame, Nat.reduceAnd]
    | split | dsimp only)
theorem execKeptConfigWrite_frame (s) : ∃ t, execKeptConfigWrite s = .next t ∧ t.without 1920991236 = s.without 1920991236 := by
  refine ⟨_, rfl, ?_⟩
  repeat' (first
    | with_reducible rfl | with_reducible (refine without_ite ?_ ?_)
    | simp only [↓State.writeKept_frame, ↓State.waitTo_frame, Nat.reduceAnd]
    | split | dsimp only)
theorem execLarderBufferFlush_frame (s) : ∃ t, execLarderBufferFlush s = .next t ∧ t.without 27262986 = s.without 27262986 := by
  refine ⟨_, rfl, ?_⟩
  repeat' (first
    | with_reducible rfl | with_reducible (refine without_ite ?_ ?_)
    | simp only [↓State.reportDrops_frame, ↓State.flushLarder_frame, Nat.reduceAnd]
    | split | dsimp only)
theorem execLarderReadDone_frame (s) : ∃ t, execLarderReadDone s = .next t ∧ t.without 16777218 = s.without 16777218 := by
  refine ⟨_, rfl, ?_⟩
  repeat' (first
    | with_reducible rfl | with_reducible (refine without_ite ?_ ?_)
    | simp only [↓State.modLarder_frame, ↓State.regionEnd_frame, ↓State.regionWrite_frame, ↓State.complete_frame,
      Nat.reduceAnd]
    | split | dsimp only)

end Sys2Proof.Machine
end

