-- ==== Sys2Proof/Laws/FrameRow3.lean ====
section
/-! SUPPORT. Laws/FrameRow3.lean: what each command leaves alone: it answers a next state that differs only in the pieces of its mask. A mask has a bit for each piece of `Piece`. -/

set_option linter.all false

namespace Sys2Proof.Machine
theorem execLarderCleared_frame (s) : ∃ t, execLarderCleared s = .next t ∧ t.without 16777218 = s.without 16777218 := by
  refine ⟨_, rfl, ?_⟩
  repeat' (first
    | with_reducible rfl | with_reducible (refine without_ite ?_ ?_)
    | simp only [↓State.modLarder_frame, ↓State.complete_frame, Nat.reduceAnd]
    | split | dsimp only)
theorem execLarderClearLockEnd_frame (s) : ∃ t, execLarderClearLockEnd s = .next t ∧ t.without 50331652 = s.without 50331652 := by
  refine ⟨_, rfl, ?_⟩
  repeat' (first
    | with_reducible rfl | with_reducible (refine without_ite ?_ ?_)
    | simp only [↓State.modLarder_frame, ↓State.waitOp_frame, Nat.reduceAnd]
    | split | dsimp only)
theorem execAtticStatus_frame (a0) (s) : ∃ t, execAtticStatus a0 s = .next t ∧ t.without 2 = s.without 2 :=
  ⟨_, rfl, State.mailbox_frame s _ _ rfl (verbAtticStatus_frame rfl)⟩
theorem execAtticList_frame (a0) (s) : ∃ t, execAtticList a0 s = .next t ∧ t.without 2 = s.without 2 :=
  ⟨_, rfl, State.mailbox_frame s _ _ rfl (verbAtticList_frame rfl)⟩
theorem execAtticRead_frame (a0) (s) : ∃ t, execAtticRead a0 s = .next t ∧ t.without 8388610 = s.without 8388610 :=
  ⟨_, rfl, State.mailbox_frame s _ _ rfl (verbAtticRead_frame rfl)⟩
theorem execAtticWrite_frame (a0) (s) : ∃ t, execAtticWrite a0 s = .next t ∧ t.without 8388610 = s.without 8388610 :=
  ⟨_, rfl, State.mailbox_frame s _ _ rfl (verbAtticWrite_frame rfl)⟩
theorem execAtticDelete_frame (a0) (s) : ∃ t, execAtticDelete a0 s = .next t ∧ t.without 27267082 = s.without 27267082 :=
  ⟨_, rfl, State.mailbox_frame s _ _ rfl (verbAtticDelete_frame rfl)⟩
theorem execLarderStatus_frame (a0) (s) : ∃ t, execLarderStatus a0 s = .next t ∧ t.without 2 = s.without 2 :=
  ⟨_, rfl, State.mailbox_frame s _ _ rfl (verbLarderStatus_frame rfl)⟩
theorem execLarderRead_frame (a0) (s) : ∃ t, execLarderRead a0 s = .next t ∧ t.without 16777218 = s.without 16777218 :=
  ⟨_, rfl, State.mailbox_frame s _ _ rfl (verbLarderRead_frame rfl)⟩
theorem execLarderChallenge_frame (a0) (s) : ∃ t, execLarderChallenge a0 s = .next t ∧ t.without 2164260866 = s.without 2164260866 :=
  ⟨_, rfl, State.mailbox_frame s _ _ rfl (verbLarderChallenge_frame rfl)⟩
theorem execLarderClear_frame (a0) (s) : ∃ t, execLarderClear a0 s = .next t ∧ t.without 18874378 = s.without 18874378 :=
  ⟨_, rfl, State.mailbox_frame s _ _ rfl (verbLarderClear_frame rfl)⟩
theorem execGraftInstalled_frame (s) : ∃ t, execGraftInstalled s = .next t ∧ t.without 31457290 = s.without 31457290 := by
  refine ⟨_, rfl, ?_⟩
  repeat' (first
    | with_reducible rfl | with_reducible (refine without_ite ?_ ?_)
    | simp only [↓State.raiseEv_frame, ↓State.modGraft_frame, ↓State.atticWear_frame, ↓State.post_frame, Nat.reduceAnd]
    | split | dsimp only)
theorem execGraftHashDone_frame (s) : ∃ t, execGraftHashDone s = .next t ∧ t.without 603958782 = s.without 603958782 := by
  refine ⟨_, rfl, ?_⟩
  repeat' (first
    | with_reducible rfl | with_reducible (refine without_ite ?_ ?_)
    | simp only [↓State.graftAbandon_frame, ↓State.removeGone_frame, ↓State.unitParts_frame, ↓State.modAct_frame,
      ↓State.graftCommit_frame, ↓State.graftGo_frame, Nat.reduceAnd]
    | split | dsimp only)
theorem execGraftHandoverNotice_frame (s) : ∃ t, execGraftHandoverNotice s = .next t ∧ t.without 37748742 = s.without 37748742 := by
  refine ⟨_, rfl, ?_⟩
  repeat' (first
    | with_reducible rfl | with_reducible (refine without_ite ?_ ?_)
    | simp only [↓State.waitTo_frame, ↓State.modAct_frame, ↓State.postIn_frame, Nat.reduceAnd]
    | split | dsimp only)
theorem execGraftReadyTimeout_frame (s) : ∃ t, execGraftReadyTimeout s = .next t ∧ t.without 603958782 = s.without 603958782 := by
  refine ⟨_, rfl, ?_⟩
  repeat' (first
    | with_reducible rfl | with_reducible (refine without_ite ?_ ?_)
    | simp only [↓State.graftAbandon_frame, ↓State.waitTo_frame, Nat.reduceAnd]
    | split | dsimp only)
theorem execGraftYieldTimeout_frame (s) : ∃ t, execGraftYieldTimeout s = .next t ∧ t.without 603958782 = s.without 603958782 := by
  refine ⟨_, rfl, ?_⟩
  repeat' (first
    | with_reducible rfl | with_reducible (refine without_ite ?_ ?_)
    | simp only [↓State.graftAbandon_frame, ↓State.waitTo_frame, Nat.reduceAnd]
    | split | dsimp only)
theorem execGraftTakeTimeout_frame (s) : ∃ t, execGraftTakeTimeout s = .next t ∧ t.without 603958782 = s.without 603958782 := by
  refine ⟨_, rfl, ?_⟩
  repeat' (first
    | with_reducible rfl | with_reducible (refine without_ite ?_ ?_)
    | simp only [↓State.waitTo_frame, ↓State.graftAbandon_frame, ↓without_keeper, Nat.reduceAnd]
    | split | dsimp only)
theorem execRootCutover_frame (s) : ∃ t, execRootCutover s = .next t ∧ t.without 603958654 = s.without 603958654 := by
  refine ⟨_, rfl, ?_⟩
  repeat' (first
    | with_reducible rfl | with_reducible (refine without_ite ?_ ?_)
    | simp only [↓State.unitStop_frame, ↓State.takeDecl_frame, ↓State.rootResume_frame, ↓State.unitRun_frame,
      ↓State.markDone_frame, ↓State.modAct_frame, ↓State.graftGo_frame, ↓State.partDone_frame, ↓State.pantryPart_frame,
      Nat.reduceAnd]
    | split | dsimp only)
theorem execGraftConfirmDue_frame (s) : ∃ t, execGraftConfirmDue s = .next t ∧ t.without 37748742 = s.without 37748742 := by
  refine ⟨_, rfl, ?_⟩
  repeat' (first
    | with_reducible rfl | with_reducible (refine without_ite ?_ ?_)
    | simp only [↓State.waitOp_frame, ↓State.modGraft_frame, ↓State.post_frame, Nat.reduceAnd]
    | split | dsimp only)
theorem execGraftTrialCountWrite_frame (s) : ∃ t, execGraftTrialCountWrite s = .next t ∧ t.without 37748740 = s.without 37748740 := by
  refine ⟨_, rfl, ?_⟩
  repeat' (first
    | with_reducible rfl | with_reducible (refine without_ite ?_ ?_)
    | simp only [↓State.waitOp_frame, ↓State.modGraft_frame, Nat.reduceAnd]
    | split | dsimp only)
theorem execGraftConfirmTimeout_frame (s) : ∃ t, execGraftConfirmTimeout s = .next t ∧ t.without 603958782 = s.without 603958782 := by
  refine ⟨_, rfl, ?_⟩
  repeat' (first
    | with_reducible rfl | with_reducible (refine without_ite ?_ ?_)
    | simp only [↓State.fallbackStart_frame, ↓State.waitOp_frame, Nat.reduceAnd]
    | split | dsimp only)
theorem execGraftBootTimeout_frame (s) : ∃ t, execGraftBootTimeout s = .next t ∧ t.without 4194304 = s.without 4194304 := by
  refine ⟨_, rfl, ?_⟩
  repeat' (first
    | with_reducible rfl | with_reducible (refine without_ite ?_ ?_)
    | simp only [↓State.modGraft_frame, Nat.reduceAnd]
    | split | dsimp only)
theorem execGraftFallbackDone_frame (s) : ∃ t, execGraftFallbackDone s = .next t ∧ t.without 64791674 = s.without 64791674 := by
  refine ⟨_, rfl, ?_⟩
  repeat' (first
    | with_reducible rfl | with_reducible (refine without_ite ?_ ?_) | with_reducible (refine (foldl_frame _ (fun a x => ?_) _ _).trans ?_) | with_reducible (refine (foldl_fst_frame _ (fun a x => ?_) _ _).trans ?_)
    | simp only [↓State.removeGone_frame, ↓State.inForce_frame, ↓State.partDone_frame, ↓State.startPartition_frame,
      ↓State.modGraft_frame, ↓State.complete_frame, ↓State.post_frame, Nat.reduceAnd]
    | split | dsimp only)
theorem execGraftStatus_frame (a0) (s) : ∃ t, execGraftStatus a0 s = .next t ∧ t.without 2 = s.without 2 :=
  ⟨_, rfl, State.mailbox_frame s _ _ rfl (verbGraftStatus_frame rfl)⟩
theorem execGraftMissing_frame (a0) (s) : ∃ t, execGraftMissing a0 s = .next t ∧ t.without 2 = s.without 2 :=
  ⟨_, rfl, State.mailbox_frame s _ _ rfl (verbGraftMissing_frame rfl)⟩
theorem execGraftOpen_frame (a0) (s) : ∃ t, execGraftOpen a0 s = .next t ∧ t.without 31457290 = s.without 31457290 :=
  ⟨_, rfl, State.mailbox_frame s _ _ rfl (verbGraftOpen_frame rfl)⟩
theorem execGraftPiece_frame (a0) (s) : ∃ t, execGraftPiece a0 s = .next t ∧ t.without 31457290 = s.without 31457290 :=
  ⟨_, rfl, State.mailbox_frame s _ _ rfl (verbGraftPiece_frame rfl)⟩
theorem execGraftDiscard_frame (a0) (s) : ∃ t, execGraftDiscard a0 s = .next t ∧ t.without 4194306 = s.without 4194306 :=
  ⟨_, rfl, State.mailbox_frame s _ _ rfl (verbGraftDiscard_frame rfl)⟩
theorem execGraftActivate_frame (a0) (s) : ∃ t, execGraftActivate a0 s = .next t ∧ t.without 4194306 = s.without 4194306 :=
  ⟨_, rfl, State.mailbox_frame s _ _ rfl (verbGraftActivate_frame rfl)⟩
theorem execGraftConfirm_frame (a0) (s) : ∃ t, execGraftConfirm a0 s = .next t ∧ t.without 4194314 = s.without 4194314 :=
  ⟨_, rfl, State.mailbox_frame s _ _ rfl (verbGraftConfirm_frame rfl)⟩
theorem execGraftFallbackCmd_frame (a0) (s) : ∃ t, execGraftFallbackCmd a0 s = .next t ∧ t.without 603958782 = s.without 603958782 :=
  ⟨_, rfl, State.mailbox_frame s _ _ rfl (verbGraftFallback_frame rfl)⟩
theorem execGraftYield_frame (a0) (s) : ∃ t, execGraftYield a0 s = .next t ∧ t.without 4194306 = s.without 4194306 :=
  ⟨_, rfl, State.mailbox_frame s _ _ rfl (verbGraftYield_frame rfl)⟩
theorem execGraftTake_frame (a0) (s) : ∃ t, execGraftTake a0 s = .next t ∧ t.without 603958654 = s.without 603958654 :=
  ⟨_, rfl, State.mailbox_frame s _ _ rfl (verbGraftTake_frame rfl)⟩
theorem execTrunkStart_frame (s) : ∃ t, execTrunkStart s = .next t ∧ t.without 4227858430 = s.without 4227858430 := by
  refine ⟨_, rfl, ?_⟩
  repeat' (first
    | with_reducible rfl | with_reducible (refine without_ite ?_ ?_)
    | simp only [↓State.trunkStart_frame, ↓State.enterRun_frame, Nat.reduceAnd]
    | split | dsimp only)
theorem execCellarStart_frame (a0) (a1) (a2) (s) : ∃ t, execCellarStart a0 a1 a2 s = .next t ∧ t.without 33554436 = s.without 33554436 := by
  refine ⟨_, rfl, ?_⟩
  repeat' (first
    | with_reducible rfl | with_reducible (refine without_ite ?_ ?_)
    | simp only [↓without_m33554436, Nat.reduceAnd]
    | split | dsimp only)
theorem execParkWake_frame (a0) (a1) (s) : ∃ t, execParkWake a0 a1 s = .next t ∧ t.without 34603008 = s.without 34603008 := by
  refine ⟨_, rfl, ?_⟩
  repeat' (first
    | with_reducible rfl | with_reducible (refine without_ite ?_ ?_)
    | simp only [↓State.wake_frame, Nat.reduceAnd]
    | split | dsimp only)
theorem execIgnChange_frame (a0) (a1) (s) : ∃ t, execIgnChange a0 a1 s = .next t ∧ t.without 43789322 = s.without 43789322 := by
  refine ⟨_, rfl, ?_⟩
  repeat' (first
    | with_reducible rfl | with_reducible (refine without_ite ?_ ?_)
    | simp only [↓State.modPower_frame, ↓State.wake_frame, ↓State.nmEvalAll_frame, ↓State.wakeNow_frame,
      ↓State.runDecide_frame, Nat.reduceAnd]
    | split | dsimp only)
theorem execGraceEnd_frame (s) : ∃ t, execGraceEnd s = .next t ∧ t.without 127708286 = s.without 127708286 := by
  refine ⟨_, rfl, ?_⟩
  repeat' (first
    | with_reducible rfl | with_reducible (refine without_ite ?_ ?_)
    | simp only [↓State.boughsOff_frame, ↓State.runDown_frame, ↓State.stopPartitions_frame, ↓State.waitTo_frame,
      ↓State.powerTo_frame, ↓State.modPower_frame, Nat.reduceAnd]
    | split | dsimp only)
theorem execSwinSample_frame (a0) (s) : ∃ t, execSwinSample a0 s = .next t ∧ t.without 62709774 = s.without 62709774 := by
  refine ⟨_, rfl, ?_⟩
  repeat' (first
    | with_reducible rfl | with_reducible (refine without_ite ?_ ?_) | with_reducible (refine (foldl_frame _ (fun a x => ?_) _ _).trans ?_) | with_reducible (refine (foldl_fst_frame _ (fun a x => ?_) _ _).trans ?_)
    | simp only [↓State.boundary_frame, ↓State.swSample_frame, ↓State.nmEvalAll_frame, ↓State.bodyEvalAll_frame,
      ↓State.wakeNow_frame, ↓without_swin, Nat.reduceAnd]
    | split | dsimp only)
theorem execCanTransceiverWake_frame (a0) (a1) (a2) (a3) (s) : ∃ t, execCanTransceiverWake a0 a1 a2 a3 s = .next t ∧ t.without 43778050 = s.without 43778050 := by
  refine ⟨_, rfl, ?_⟩
  repeat' (first
    | with_reducible rfl | with_reducible (refine without_ite ?_ ?_)
    | simp only [↓State.wake_frame, ↓State.modCan_frame, ↓State.wakeNow_frame, ↓State.nmWake_frame, ↓State.canWake_frame,
      Nat.reduceAnd]
    | split | dsimp only)
theorem execTc10Wake_frame (a0) (s) : ∃ t, execTc10Wake a0 s = .next t ∧ t.without 43778050 = s.without 43778050 := by
  refine ⟨_, rfl, ?_⟩
  repeat' (first
    | with_reducible rfl | with_reducible (refine without_ite ?_ ?_)
    | simp only [↓State.wake_frame, ↓State.portWake_frame, ↓State.wakeNow_frame, ↓State.nmWake_frame, Nat.reduceAnd]
    | split | dsimp only)
theorem execParkEntryStart_frame (s) : ∃ t, execParkEntryStart s = .next t ∧ t.without 33595406 = s.without 33595406 := by
  refine ⟨_, rfl, ?_⟩
  repeat' (first
    | with_reducible rfl | with_reducible (refine without_ite ?_ ?_)
    | simp only [↓State.waitTo_frame, ↓State.bodyParkStop_frame, ↓State.modPower_frame, ↓State.powerTo_frame,
      Nat.reduceAnd]
    | split | dsimp only)
theorem execParkWait_frame (s) : ∃ t, execParkWait s = .next t ∧ t.without 33554438 = s.without 33554438 := by
  refine ⟨_, rfl, ?_⟩
  repeat' (first
    | with_reducible rfl | with_reducible (refine without_ite ?_ ?_)
    | simp only [↓State.waitTo_frame, ↓State.post_frame, ↓State.modPower_frame, Nat.reduceAnd]
    | split | dsimp only)
theorem execParkStepDone_frame (s) : ∃ t, execParkStepDone s = .next t ∧ t.without 4092465418 = s.without 4092465418 := by
  refine ⟨_, rfl, ?_⟩
  repeat' (first
    | with_reducible rfl | with_reducible (refine without_ite ?_ ?_)
    | simp only [↓State.modPower_frame, ↓State.writeKept_frame, ↓State.parkWrite_frame, ↓State.modAttic_frame,
      ↓State.plateParkStart_frame, ↓State.nmParkStart_frame, ↓State.flushLarder_frame, Nat.reduceAnd]
    | split | dsimp only)
theorem execPowerDownLatch_frame (s) : ∃ t, execPowerDownLatch s = .next t ∧ t.without 129983670 = s.without 129983670 := by
  refine ⟨_, rfl, ?_⟩
  repeat' (first
    | with_reducible rfl | with_reducible (refine without_ite ?_ ?_)
    | simp only [↓State.trunkStop_frame, ↓State.outsPark_frame, ↓State.wake_frame, Nat.reduceAnd]
    | split | dsimp only)
theorem execSupplyLoss_frame (a0) (s) : ∃ t, execSupplyLoss a0 s = .next t ∧ t.without 401568958 = s.without 401568958 := by
  refine ⟨_, rfl, ?_⟩
  repeat' (first
    | with_reducible rfl | with_reducible (refine without_ite ?_ ?_)
    | simp only [↓State.graftLoss_frame, ↓State.dropStage_frame, ↓State.flushLarder_frame, ↓State.trunkStop_frame,
      ↓State.outsTrunkReset_frame, ↓without_power, Nat.reduceAnd]
    | split | dsimp only)
theorem execSupplyReturn_frame (a0) (s) : ∃ t, execSupplyReturn a0 s = .next t ∧ t.without 33554432 = s.without 33554432 := by
  refine ⟨_, rfl, ?_⟩
  repeat' (first
    | with_reducible rfl | with_reducible (refine without_ite ?_ ?_)
    | simp only [↓without_power, Nat.reduceAnd]
    | split | dsimp only)
theorem execCellarHoldExpiry_frame (s) : ∃ t, execCellarHoldExpiry s = .next t ∧ t.without 1879048190 = s.without 1879048190 := by
  refine ⟨_, rfl, ?_⟩
  repeat' (first
    | with_reducible rfl | with_reducible (refine without_ite ?_ ?_)
    | simp only [↓State.toOff_frame, Nat.reduceAnd]
    | split | dsimp only)
theorem execStudLow_frame (a0) (a1) (a2) (s) : ∃ t, execStudLow a0 a1 a2 s = .next t ∧ t.without 33595530 = s.without 33595530 := by
  refine ⟨_, rfl, ?_⟩
  repeat' (first
    | with_reducible rfl | with_reducible (refine without_ite ?_ ?_)
    | simp only [↓State.refreshGates_frame, ↓State.modStud_frame, ↓State.modPower_frame, Nat.reduceAnd]
    | split | dsimp only)
theorem execStudReturn_frame (a0) (a1) (a2) (s) : ∃ t, execStudReturn a0 a1 a2 s = .next t ∧ t.without 33595530 = s.without 33595530 := by
  refine ⟨_, rfl, ?_⟩
  repeat' (first
    | with_reducible rfl | with_reducible (refine without_ite ?_ ?_) | with_reducible (refine (foldl_frame _ (fun a x => ?_) _ _).trans ?_) | with_reducible (refine (foldl_fst_frame _ (fun a x => ?_) _ _).trans ?_)
    | simp only [↓State.modStud_frame, ↓State.modPower_frame, ↓State.studResume_frame, ↓State.refreshGates_frame,
      Nat.reduceAnd]
    | split | dsimp only)
theorem execPowerUndervolt_frame (a0) (a1) (a2) (s) : ∃ t, execPowerUndervolt a0 a1 a2 s = .next t ∧ t.without 52428810 = s.without 52428810 := by
  refine ⟨_, rfl, ?_⟩
  repeat' (first
    | with_reducible rfl | with_reducible (refine without_ite ?_ ?_)
    | simp only [↓State.studFault_frame, ↓State.modStud_frame, Nat.reduceAnd]
    | split | dsimp only)
theorem execUndervoltEnd_frame (a0) (a1) (s) : ∃ t, execUndervoltEnd a0 a1 s = .next t ∧ t.without 33554442 = s.without 33554442 := by
  refine ⟨_, rfl, ?_⟩
  repeat' (first
    | with_reducible rfl | with_reducible (refine without_ite ?_ ?_)
    | simp only [↓State.clearFault_frame, ↓State.modStud_frame, Nat.reduceAnd]
    | split | dsimp only)
theorem execPowerOvervolt_frame (a0) (a1) (a2) (s) : ∃ t, execPowerOvervolt a0 a1 a2 s = .next t ∧ t.without 52469898 = s.without 52469898 := by
  refine ⟨_, rfl, ?_⟩
  repeat' (first
    | with_reducible rfl | with_reducible (refine without_ite ?_ ?_)
    | simp only [↓State.refreshGates_frame, ↓State.modStud_frame, ↓State.studFault_frame, Nat.reduceAnd]
    | split | dsimp only)
theorem execOvervoltEnd_frame (a0) (a1) (s) : ∃ t, execOvervoltEnd a0 a1 s = .next t ∧ t.without 33595530 = s.without 33595530 := by
  refine ⟨_, rfl, ?_⟩
  repeat' (first
    | with_reducible rfl | with_reducible (refine without_ite ?_ ?_)
    | simp only [↓State.clearFault_frame, ↓State.refreshGates_frame, ↓State.studResume_frame, ↓State.modStud_frame,
      Nat.reduceAnd]
    | split | dsimp only)
theorem execPowerReverse_frame (a0) (a1) (s) : ∃ t, execPowerReverse a0 a1 s = .next t ∧ t.without 52469898 = s.without 52469898 := by
  refine ⟨_, rfl, ?_⟩
  repeat' (first
    | with_reducible rfl | with_reducible (refine without_ite ?_ ?_)
    | simp only [↓State.refreshGates_frame, ↓State.modStud_frame, ↓State.studFault_frame, Nat.reduceAnd]
    | split | dsimp only)
theorem execPowerReverseEnd_frame (a0) (a1) (s) : ∃ t, execPowerReverseEnd a0 a1 s = .next t ∧ t.without 33595530 = s.without 33595530 := by
  refine ⟨_, rfl, ?_⟩
  repeat' (first
    | with_reducible rfl | with_reducible (refine without_ite ?_ ?_)
    | simp only [↓State.clearFault_frame, ↓State.refreshGates_frame, ↓State.studResume_frame, ↓State.modStud_frame,
      Nat.reduceAnd]
    | split | dsimp only)
theorem execMonitorTrip_frame (a0) (s) : ∃ t, execMonitorTrip a0 s = .next t ∧ t.without 3087007742 = s.without 3087007742 := by
  refine ⟨_, rfl, ?_⟩
  repeat' (first
    | with_reducible rfl | with_reducible (refine without_ite ?_ ?_) | with_reducible (refine (foldl_frame _ (fun a x => ?_) _ _).trans ?_) | with_reducible (refine (foldl_fst_frame _ (fun a x => ?_) _ _).trans ?_)
    | simp only [↓State.modRoot_frame, ↓State.monitorReset_frame, ↓State.raise_frame, ↓State.post_frame,
      ↓State.unitRestart_frame, ↓State.rootFaultNow_frame, Nat.reduceAnd]
    | split | dsimp only)
theorem execMonitorReturn_frame (a0) (s) : ∃ t, execMonitorReturn a0 s = .next t ∧ t.without 2097162 = s.without 2097162 := by
  refine ⟨_, rfl, ?_⟩
  repeat' (first
    | with_reducible rfl | with_reducible (refine without_ite ?_ ?_)
    | simp only [↓State.modRoot_frame, ↓State.clearFault_frame, ↓State.post_frame, Nat.reduceAnd]
    | split | dsimp only)
theorem execRootFault_frame (a0) (s) : ∃ t, execRootFault a0 s = .next t ∧ t.without 603958782 = s.without 603958782 := by
  refine ⟨_, rfl, ?_⟩
  repeat' (first
    | with_reducible rfl | with_reducible (refine without_ite ?_ ?_)
    | simp only [↓State.rootFaultNow_frame, Nat.reduceAnd]
    | split | dsimp only)
theorem execThermalSample_frame (a0) (a1) (s) : ∃ t, execThermalSample a0 a1 s = .next t ∧ t.without 401571006 = s.without 401571006 := by
  refine ⟨_, rfl, ?_⟩
  repeat' (first
    | with_reducible rfl | with_reducible (refine without_ite ?_ ?_)
    | simp only [↓State.thermInstant_frame, ↓State.trunkWarning_frame, ↓State.throttle_frame, ↓State.thermSigs_frame,
      ↓State.thermTake_frame, ↓State.thermalShutdown_frame, ↓State.modSensor_frame, Nat.reduceAnd]
    | split | dsimp only)
theorem execThrottleStepDown_frame (a0) (s) : ∃ t, execThrottleStepDown a0 s = .next t ∧ t.without 100665350 = s.without 100665350 := by
  refine ⟨_, rfl, ?_⟩
  repeat' (first
    | with_reducible rfl | with_reducible (refine without_ite ?_ ?_)
    | simp only [↓State.waitTo_frame, ↓State.stepEvents_frame, ↓without_thermal, Nat.reduceAnd]
    | split | dsimp only)
theorem execPowerStatus_frame (a0) (s) : ∃ t, execPowerStatus a0 s = .next t ∧ t.without 2147483650 = s.without 2147483650 :=
  ⟨_, rfl, State.mailbox_frame s _ _ rfl (verbPowerStatus_frame rfl)⟩
theorem execPowerConfig_frame (a0) (s) : ∃ t, execPowerConfig a0 s = .next t ∧ t.without 570425346 = s.without 570425346 :=
  ⟨_, rfl, State.mailbox_frame s _ _ rfl (verbPowerConfig_frame rfl)⟩
theorem execPowerRequest_frame (a0) (s) : ∃ t, execPowerRequest a0 s = .next t ∧ t.without 33554434 = s.without 33554434 :=
  ⟨_, rfl, State.mailbox_frame s _ _ rfl (verbPowerRequest_frame rfl)⟩
theorem execPowerRun_frame (a0) (s) : ∃ t, execPowerRun a0 s = .next t ∧ t.without 43789322 = s.without 43789322 :=
  ⟨_, rfl, State.mailbox_frame s _ _ rfl (verbPowerRun_frame rfl)⟩
theorem execThermalStatus_frame (a0) (s) : ∃ t, execThermalStatus a0 s = .next t ∧ t.without 2 = s.without 2 :=
  ⟨_, rfl, State.mailbox_frame s _ _ rfl (verbThermalStatus_frame rfl)⟩
theorem execFaultHandle_frame (s) : ∃ t, execFaultHandle s = .next t ∧ t.without 18874378 = s.without 18874378 := by
  refine ⟨_, rfl, ?_⟩
  repeat' (first
    | with_reducible rfl | with_reducible (refine without_ite ?_ ?_)
    | simp only [↓State.faultTake_frame, ↓State.raiseDropped_frame, ↓State.faultSteps_frame, ↓without_faults,
      Nat.reduceAnd]
    | split | dsimp only)
theorem execFaultStatus_frame (a0) (s) : ∃ t, execFaultStatus a0 s = .next t ∧ t.without 2 = s.without 2 :=
  ⟨_, rfl, State.mailbox_frame s _ _ rfl (verbFaultStatus_frame rfl)⟩
theorem execFaultRaise_frame (a0) (s) : ∃ t, execFaultRaise a0 s = .next t ∧ t.without 18874378 = s.without 18874378 :=
  ⟨_, rfl, State.mailbox_frame s _ _ rfl (verbFaultRaise_frame rfl)⟩
theorem execKeeperHbTick_frame (s) : ∃ t, execKeeperHbTick s = .next t ∧ t.without 52502542 = s.without 52502542 := by
  refine ⟨_, rfl, ?_⟩
  repeat' (first
    | with_reducible rfl | with_reducible (refine without_ite ?_ ?_)
    | simp only [↓State.waitTo_frame, ↓State.fanHeartbeat_frame, ↓without_keeper, Nat.reduceAnd]
    | split | dsimp only)
theorem execModeBoundary_frame (a0) (a1) (a2) (s) : ∃ t, execModeBoundary a0 a1 a2 s = .next t ∧ t.without 2200281294 = s.without 2200281294 := by
  refine ⟨_, rfl, ?_⟩
  repeat' (first
    | with_reducible rfl | with_reducible (refine without_ite ?_ ?_)
    | simp only [↓State.waitTo_frame, ↓State.modHost_frame, ↓State.modeToHost_frame, ↓State.modeToHw_frame, Nat.reduceAnd]
    | split | dsimp only)
theorem execHostDeadlineMiss_frame (a0) (a1) (a2) (s) : ∃ t, execHostDeadlineMiss a0 a1 a2 s = .next t ∧ t.without 2200286686 = s.without 2200286686 := by
  refine ⟨_, rfl, ?_⟩
  repeat' (first
    | with_reducible rfl | with_reducible (refine without_ite ?_ ?_)
    | simp only [↓State.missEffect_frame, ↓State.missPrev_frame, ↓State.waitTo_frame, ↓State.hostMiss_frame,
      ↓State.fanPeriod_frame, Nat.reduceAnd]
    | split | dsimp only)
theorem execKeeperNop_frame (a0) (s) : ∃ t, execKeeperNop a0 s = .next t ∧ t.without 2 = s.without 2 :=
  ⟨_, rfl, State.mailbox_frame s _ _ rfl (verbKeeperNop_frame rfl)⟩
theorem execKeeperMode_frame (a0) (s) : ∃ t, execKeeperMode a0 s = .next t ∧ t.without 65538 = s.without 65538 :=
  ⟨_, rfl, State.mailbox_frame s _ _ rfl (verbKeeperMode_frame rfl)⟩
theorem execKeeperSigRead_frame (a0) (s) : ∃ t, execKeeperSigRead a0 s = .next t ∧ t.without 2 = s.without 2 :=
  ⟨_, rfl, State.mailbox_frame s _ _ rfl (verbKeeperSigRead_frame rfl)⟩
theorem execKeeperSigWrite_frame (a0) (s) : ∃ t, execKeeperSigWrite a0 s = .next t ∧ t.without 18919450 = s.without 18919450 :=
  ⟨_, rfl, State.mailbox_frame s _ _ rfl (verbKeeperSigWrite_frame rfl)⟩
theorem execKeeperEvtMask_frame (a0) (s) : ∃ t, execKeeperEvtMask a0 s = .next t ∧ t.without 2 = s.without 2 :=
  ⟨_, rfl, State.mailbox_frame s _ _ rfl (verbKeeperEvtMask_frame rfl)⟩
theorem execUnitRestart_frame (a0) (a1) (a2) (s) : ∃ t, execUnitRestart a0 a1 a2 s = .next t ∧ t.without 2717827070 = s.without 2717827070 := by
  refine ⟨_, rfl, ?_⟩
  repeat' (first
    | with_reducible rfl | with_reducible (refine without_ite ?_ ?_)
    | simp only [↓State.unitRestart_frame, Nat.reduceAnd]
    | split | dsimp only)
theorem execCanopyPartitionStart_frame (a0) (s) : ∃ t, execCanopyPartitionStart a0 s = .next t ∧ t.without 2 = s.without 2 := by
  refine ⟨_, rfl, ?_⟩
  repeat' (first
    | with_reducible rfl | with_reducible (refine without_ite ?_ ?_)
    | simp only [↓State.startPartition_frame, Nat.reduceAnd]
    | split | dsimp only)
theorem execCanopyPartitionRestart_frame (a0) (s) : ∃ t, execCanopyPartitionRestart a0 s = .next t ∧ t.without 60597370 = s.without 60597370 := by
  refine ⟨_, rfl, ?_⟩
  repeat' (first
    | with_reducible rfl | with_reducible (refine without_ite ?_ ?_)
    | simp only [↓State.outsOwnerRestart_frame, ↓State.staleOwned_frame, ↓State.modPartition_frame,
      ↓State.resetWindow_frame, ↓State.stopBulk_frame, ↓State.nmLapse_frame, ↓without_power, Nat.reduceAnd]
    | split | dsimp only)
theorem execCheckpoint_frame (s) : ∃ t, execCheckpoint s = .next t ∧ t.without 2181300230 = s.without 2181300230 := by
  refine ⟨_, rfl, ?_⟩
  repeat' (first
    | with_reducible rfl | with_reducible (refine without_ite ?_ ?_) | with_reducible (refine (foldl_frame _ (fun a x => ?_) _ _).trans ?_) | with_reducible (refine (foldl_fst_frame _ (fun a x => ?_) _ _).trans ?_)
    | simp only [↓State.boundary_frame, ↓State.drawNat_frame, ↓State.canStop_frame, ↓State.modPartition_frame,
      ↓without_keeper, Nat.reduceAnd]
    | split | dsimp only)
theorem execExtest_frame (a0) (a1) (s) : ∃ t, execExtest a0 a1 s = .next t ∧ t.without 134217728 = s.without 134217728 := by
  refine ⟨_, rfl, ?_⟩
  repeat' (first
    | with_reducible rfl | with_reducible (refine without_ite ?_ ?_)
    | simp only [↓State.modJtag_frame, ↓State.asBypass_frame, Nat.reduceAnd]
    | split | dsimp only)
theorem execIdcode_frame (s) : ∃ t, execIdcode s = .next t ∧ t.without 134217728 = s.without 134217728 := by
  refine ⟨_, rfl, ?_⟩
  repeat' (first
    | with_reducible rfl | with_reducible (refine without_ite ?_ ?_)
    | simp only [↓State.modJtag_frame, Nat.reduceAnd]
    | split | dsimp only)
theorem execSamplePreload_frame (a0) (a1) (s) : ∃ t, execSamplePreload a0 a1 s = .next t ∧ t.without 134217728 = s.without 134217728 := by
  refine ⟨_, rfl, ?_⟩
  repeat' (first
    | with_reducible rfl | with_reducible (refine without_ite ?_ ?_)
    | simp only [↓State.modJtag_frame, Nat.reduceAnd]
    | split | dsimp only)
theorem execHighz_frame (s) : ∃ t, execHighz s = .next t ∧ t.without 134217728 = s.without 134217728 := by
  refine ⟨_, rfl, ?_⟩
  repeat' (first
    | with_reducible rfl | with_reducible (refine without_ite ?_ ?_)
    | simp only [↓State.modJtag_frame, ↓State.asBypass_frame, Nat.reduceAnd]
    | split | dsimp only)
theorem execClamp_frame (s) : ∃ t, execClamp s = .next t ∧ t.without 134217728 = s.without 134217728 := by
  refine ⟨_, rfl, ?_⟩
  repeat' (first
    | with_reducible rfl | with_reducible (refine without_ite ?_ ?_)
    | simp only [↓State.modJtag_frame, ↓State.asBypass_frame, Nat.reduceAnd]
    | split | dsimp only)
theorem execBypass_frame (s) : ∃ t, execBypass s = .next t ∧ t.without 134217728 = s.without 134217728 := by
  refine ⟨_, rfl, ?_⟩
  repeat' (first
    | with_reducible rfl | with_reducible (refine without_ite ?_ ?_)
    | simp only [↓State.asBypass_frame, Nat.reduceAnd]
    | split | dsimp only)
theorem execTestLogicReset_frame (s) : ∃ t, execTestLogicReset s = .next t ∧ t.without 134217728 = s.without 134217728 := by
  refine ⟨_, rfl, ?_⟩
  repeat' (first
    | with_reducible rfl | with_reducible (refine without_ite ?_ ?_)
    | simp only [↓State.modJtag_frame, Nat.reduceAnd]
    | split | dsimp only)
theorem execTestkeyTied_frame (s) : ∃ t, execTestkeyTied s = .next t ∧ t.without 134217728 = s.without 134217728 := by
  refine ⟨_, rfl, ?_⟩
  repeat' (first
    | with_reducible rfl | with_reducible (refine without_ite ?_ ?_)
    | simp only [↓State.modJtag_frame, Nat.reduceAnd]
    | split | dsimp only)
theorem execTestkeyUntied_frame (s) : ∃ t, execTestkeyUntied s = .next t ∧ t.without 134217728 = s.without 134217728 := by
  refine ⟨_, rfl, ?_⟩
  repeat' (first
    | with_reducible rfl | with_reducible (refine without_ite ?_ ?_)
    | simp only [↓State.modJtag_frame, Nat.reduceAnd]
    | split | dsimp only)
theorem execConsoleRx_frame (a0) (s) : ∃ t, execConsoleRx a0 s = .next t ∧ t.without 134217728 = s.without 134217728 := by
  refine ⟨_, rfl, ?_⟩
  repeat' (first
    | with_reducible rfl | with_reducible (refine without_ite ?_ ?_)
    | simp only [↓State.modJtag_frame, Nat.reduceAnd]
    | split | dsimp only)
theorem execCmdProdWrite_frame (a0) (a1) (a2) (s) : ∃ t, execCmdProdWrite a0 a1 a2 s = .next t ∧ t.without 2751463422 = s.without 2751463422 := by
  refine ⟨_, rfl, ?_⟩
  repeat' (first
    | with_reducible rfl | with_reducible (refine without_ite ?_ ?_)
    | simp only [↓State.cmdProdWrite_frame, Nat.reduceAnd]
    | split | dsimp only)
theorem execRplConsWrite_frame (a0) (a1) (s) : ∃ t, execRplConsWrite a0 a1 s = .next t ∧ t.without 2751463422 = s.without 2751463422 := by
  refine ⟨_, rfl, ?_⟩
  repeat' (first
    | with_reducible rfl | with_reducible (refine without_ite ?_ ?_)
    | simp only [↓State.rplConsWrite_frame, Nat.reduceAnd]
    | split | dsimp only)
theorem execEvtConsWrite_frame (a0) (a1) (s) : ∃ t, execEvtConsWrite a0 a1 s = .next t ∧ t.without 2 = s.without 2 := by
  refine ⟨_, rfl, ?_⟩
  repeat' (first
    | with_reducible rfl | with_reducible (refine without_ite ?_ ?_)
    | simp only [↓State.evtConsWrite_frame, Nat.reduceAnd]
    | split | dsimp only)
theorem execIrqStatusW1c_frame (a0) (a1) (s) : ∃ t, execIrqStatusW1c a0 a1 s = .next t ∧ t.without 2 = s.without 2 := by
  refine ⟨_, rfl, ?_⟩
  repeat' (first
    | with_reducible rfl | with_reducible (refine without_ite ?_ ?_)
    | simp only [↓State.irqClear_frame, Nat.reduceAnd]
    | split | dsimp only)
theorem execHostHbWrite_frame (a0) (a1) (s) : ∃ t, execHostHbWrite a0 a1 s = .next t ∧ t.without 18948106 = s.without 18948106 := by
  refine ⟨_, rfl, ?_⟩
  repeat' (first
    | with_reducible rfl | with_reducible (refine without_ite ?_ ?_)
    | simp only [↓State.hostHbWrite_frame, Nat.reduceAnd]
    | split | dsimp only)
theorem execHwLoRead_frame (a0) (s) : ∃ t, execHwLoRead a0 s = .next t ∧ t.without 2 = s.without 2 := by
  refine ⟨_, rfl, ?_⟩
  repeat' (first
    | with_reducible rfl | with_reducible (refine without_ite ?_ ?_)
    | simp only [↓State.modWin_frame, Nat.reduceAnd]
    | split | dsimp only)
theorem execSnapReqWrite_frame (a0) (a1) (s) : ∃ t, execSnapReqWrite a0 a1 s = .next t ∧ t.without 2 = s.without 2 := by
  refine ⟨_, rfl, ?_⟩
  repeat' (first
    | with_reducible rfl | with_reducible (refine without_ite ?_ ?_)
    | simp only [↓State.snapWrite_frame, Nat.reduceAnd]
    | split | dsimp only)
theorem execEvtAgeTimeout_frame (a0) (s) : ∃ t, execEvtAgeTimeout a0 s = .next t ∧ t.without 33554438 = s.without 33554438 := by
  refine ⟨_, rfl, ?_⟩
  repeat' (first
    | with_reducible rfl | with_reducible (refine without_ite ?_ ?_)
    | simp only [↓State.modWin_frame, ↓State.waitTo_frame, Nat.reduceAnd]
    | split | dsimp only)
theorem execRegisterWrite_frame (a0) (a1) (a2) (a3) (s) : ∃ t, execRegisterWrite a0 a1 a2 a3 s = .next t ∧ t.without 2751463422 = s.without 2751463422 := by
  refine ⟨_, rfl, ?_⟩
  repeat' (first
    | with_reducible rfl | with_reducible (refine without_ite ?_ ?_)
    | simp only [↓State.registerWrite_frame, Nat.reduceAnd]
    | split | dsimp only)
theorem execHoldLimitExpiry_frame (a0) (s) : ∃ t, execHoldLimitExpiry a0 s = .next t ∧ t.without 2751463422 = s.without 2751463422 := by
  refine ⟨_, rfl, ?_⟩
  repeat' (first
    | with_reducible rfl | with_reducible (refine without_ite ?_ ?_)
    | simp only [↓State.keeperTurn_frame, ↓State.waitTo_frame, ↓State.modWin_frame, ↓State.answer_frame, Nat.reduceAnd]
    | split | dsimp only)
theorem execDeadlinePassed_frame (a0) (s) : ∃ t, execDeadlinePassed a0 s = .next t ∧ t.without 2751463422 = s.without 2751463422 := by
  refine ⟨_, rfl, ?_⟩
  repeat' (first
    | with_reducible rfl | with_reducible (refine without_ite ?_ ?_)
    | simp only [↓State.keeperTurn_frame, ↓State.valveDeadline_frame, ↓State.deadlineDrop_frame, ↓State.waitTo_frame,
      Nat.reduceAnd]
    | split | dsimp only)
theorem execUnitReady_frame (a0) (a1) (s) : ∃ t, execUnitReady a0 a1 s = .next t ∧ t.without 2751463422 = s.without 2751463422 := by
  refine ⟨_, rfl, ?_⟩
  repeat' (first
    | with_reducible rfl | with_reducible (refine without_ite ?_ ?_)
    | simp only [↓State.keeperTurn_frame, ↓State.unitReady_frame, Nat.reduceAnd]
    | split | dsimp only)
theorem execKeeperCutover_frame (s) : ∃ t, execKeeperCutover s = .next t ∧ t.without 2751463422 = s.without 2751463422 := by
  refine ⟨_, rfl, ?_⟩
  repeat' (first
    | with_reducible rfl | with_reducible (refine without_ite ?_ ?_)
    | simp only [↓State.keeperCutover_frame, ↓State.pauseEnd_frame, Nat.reduceAnd]
    | split | dsimp only)
theorem execKeeperCutoverTimeout_frame (s) : ∃ t, execKeeperCutoverTimeout s = .next t ∧ t.without 2751463422 = s.without 2751463422 := by
  refine ⟨_, rfl, ?_⟩
  repeat' (first
    | with_reducible rfl | with_reducible (refine without_ite ?_ ?_)
    | simp only [↓State.keeperCutoverFail_frame, ↓State.pauseEnd_frame, Nat.reduceAnd]
    | split | dsimp only)
theorem execRootStart_frame (a0) (s) : ∃ t, execRootStart a0 s = .next t ∧ t.without 2751463422 = s.without 2751463422 := by
  refine ⟨_, rfl, ?_⟩
  repeat' (first
    | with_reducible rfl | with_reducible (refine without_ite ?_ ?_)
    | simp only [↓State.keeperTurn_frame, ↓State.rootStart_frame, Nat.reduceAnd]
    | split | dsimp only)
theorem execBoughDieFailure_frame (a0) (a1) (s) : ∃ t, execBoughDieFailure a0 a1 s = .next t ∧ t.without 2751463422 = s.without 2751463422 := by
  refine ⟨_, rfl, ?_⟩
  repeat' (first
    | with_reducible rfl | with_reducible (refine without_ite ?_ ?_)
    | simp only [↓State.failover_frame, ↓State.onlyDieLost_frame, ↓State.pauseEnd_frame, ↓State.keeperTurn_frame,
      ↓without_keeper, Nat.reduceAnd]
    | split | dsimp only)

end Sys2Proof.Machine
end

