-- ==== Sys2Proof/Laws/Mailbox.lean ====
section
/-! SUPPORT. Laws/Mailbox.lean: what a mailbox command that Keeper executes at once comes to. -/

namespace Sys2Proof.Machine

@[simp] theorem Verb.req_win (v : Verb) (r : Req) : (v.req r).win = r.win := rfl
@[simp] theorem Verb.req_inst (v : Verb) (r : Req) : (v.req r).inst = r.inst := rfl
@[simp] theorem Verb.req_payload (v : Verb) (r : Req) : (v.req r).payload = r.payload := rfl
@[simp] theorem Verb.req_unit (v : Verb) (r : Req) : (v.req r).unit = v.unit := rfl
@[simp] theorem Verb.req_verb (v : Verb) (r : Req) : (v.req r).verb = v.verb := rfl
@[simp] theorem Verb.req_tag (v : Verb) (r : Req) : (v.req r).tag = r.tag := rfl
@[simp] theorem Verb.req_cls (v : Verb) (r : Req) : (v.req r).cls = r.cls := rfl

/-- A served request runs the unit's effect on the offered state, and its reply is posted unless it comes later. -/
theorem mailbox_served (s : State) (v : Verb) (r : Req) (h : s.serves v r = true) :
    s.mailbox v r = (s.consumed v r).execute v (v.req r) false := by
  simp only [State.serves, Bool.and_eq_true, Bool.not_eq_true', decide_eq_true_eq, Option.isNone_iff_eq_none] at h
  obtain ⟨⟨⟨⟨⟨⟨h1, h2⟩, h3⟩, h4⟩, h5⟩, h6⟩, h7⟩ := h
  simp only [State.consumed, State.written, Verb.req] at h5 h6 h7
  simp only [State.mailbox, State.consumed, State.written, Verb.req, h1, h2, h3, h4, Bool.not_true, ge_iff_le,
    Nat.reduceLeDiff, decide_false, Bool.or_self, Bool.false_eq_true, ↓reduceIte, ne_eq, not_true_eq_false, State.take, h5,
    State.start, h6, State.serve, h7]

/-- The same with the unit's effect named. -/
theorem mailbox_replied {s u : State} {v : Verb} {r : Req} {st : Nat} {pl : List Byte} (h : s.serves v r = true)
    (hb : v.body (v.req r) (s.offered v r) = (u, st, pl)) (hl : st ≠ stLater) :
    s.mailbox v r = u.replied s v r st pl := by
  rw [mailbox_served s v r h]
  simp only [State.offered] at hb
  simp only [State.execute, Verb.req_inst, hb, hl, ↓reduceIte, State.replied, State.settled, Verb.req_win]

/-- The same for a command whose reply comes later (08 R200). -/
theorem mailbox_later {s u : State} {v : Verb} {r : Req} {pl : List Byte} (h : s.serves v r = true)
    (hb : v.body (v.req r) (s.offered v r) = (u, stLater, pl)) :
    s.mailbox v r = (u.settled s v r).modWin r.win (fun x => { x with later := x.later ++ [(v.req r, false)] }) := by
  rw [mailbox_served s v r h]
  simp only [State.offered] at hb
  simp only [State.execute, Verb.req_inst, hb, ↓reduceIte, State.settled, Verb.req_win]

end Sys2Proof.Machine
end

