-- ==== Sys2Proof/Laws/Table.lean ====
section
/-! SUPPORT. Laws/Table.lean: the laws of sparse tables: what a read after a write gives, and that writes keep the canonical
form. -/

namespace Sys2Proof.Machine

variable {α : Type}

theorem tfind_tput_same (t : Tab α) (k : Nat) (v : α) : tfind (tput t k v) k = some v := by
  induction t with
  | nil => simp [tput, tfind]
  | cons e t ih =>
    obtain ⟨k', v'⟩ := e
    simp only [tput]
    split
    · simp [tfind]
    · split
      · simp [tfind]
      · next h => simp [tfind, Ne.symm h, ih]

theorem tfind_tput_other (t : Tab α) {k j : Nat} (v : α) (h : j ≠ k) : tfind (tput t k v) j = tfind t j := by
  induction t with
  | nil => simp [tput, tfind, Ne.symm h]
  | cons e t ih =>
    obtain ⟨k', v'⟩ := e
    simp only [tput]
    split
    · simp [tfind, Ne.symm h]
    · split
      · next hk => subst hk; simp [tfind, Ne.symm h]
      · simp only [tfind, ih]

theorem tfind_tdel_same (t : Tab α) (k : Nat) : tfind (tdel t k) k = none := by
  induction t with
  | nil => rfl
  | cons e t ih =>
    obtain ⟨k', v'⟩ := e
    simp only [tdel]
    split
    · exact ih
    · next h => simp [tfind, h, ih]

theorem tfind_tdel_other (t : Tab α) {k j : Nat} (h : j ≠ k) : tfind (tdel t k) j = tfind t j := by
  induction t with
  | nil => rfl
  | cons e t ih =>
    obtain ⟨k', v'⟩ := e
    simp only [tdel]
    split
    · next hk => subst hk; simp [tfind, Ne.symm h, ih]
    · simp only [tfind, ih]

/-- A read after a write of the same key gives the value written. -/
@[simp] theorem tget_tset_same [DecidableEq α] (d : α) (t : Tab α) (k : Nat) (v : α) : tget d (tset d t k v) k = v := by
  simp only [tset, tget]
  split
  · next h => simp [tfind_tdel_same, h]
  · simp [tfind_tput_same]

/-- A write leaves every other key alone. -/
theorem tget_tset_other [DecidableEq α] (d : α) (t : Tab α) {k j : Nat} (v : α) (h : j ≠ k) :
    tget d (tset d t k v) j = tget d t j := by
  simp only [tset, tget]
  split
  · rw [tfind_tdel_other t h]
  · rw [tfind_tput_other t v h]

@[simp] theorem tget_tmod_same [DecidableEq α] (d : α) (t : Tab α) (k : Nat) (f : α → α) :
    tget d (tmod d t k f) k = f (tget d t k) := tget_tset_same d t k _

theorem tget_tmod_other [DecidableEq α] (d : α) (t : Tab α) {k j : Nat} (f : α → α) (h : j ≠ k) :
    tget d (tmod d t k f) j = tget d t j := tget_tset_other d t _ h

@[simp] theorem tget_nil (d : α) (k : Nat) : tget d [] k = d := rfl

/-- A string of bytes written leaves the addresses outside it alone. -/
theorem tget_twrite_out (l : List Byte) (t : Tab Byte) {a j : Nat} (h : j < a ∨ a + l.length ≤ j) :
    tget 0 (twrite t a l) j = tget 0 t j := by
  induction l generalizing t a with
  | nil => rfl
  | cons b l ih =>
    simp only [List.length_cons] at h
    simp only [twrite]
    rw [ih _ (by omega), tget_tset_other _ _ _ (by omega)]

/-- A string of bytes written reads back. -/
theorem tget_twrite_in (l : List Byte) (t : Tab Byte) (a i : Nat) (h : i < l.length) :
    tget 0 (twrite t a l) (a + i) = l[i] := by
  induction l generalizing t a i with
  | nil => simp at h
  | cons b l ih =>
    simp only [twrite]
    cases i with
    | zero => rw [tget_twrite_out _ _ (by omega), Nat.add_zero, tget_tset_same]; rfl
    | succ i =>
      have := ih (tset 0 t a b) (a + 1) i (by simpa using h)
      rw [show a + (i + 1) = a + 1 + i by omega, this]
      rfl

theorem tread_twrite (l : List Byte) (t : Tab Byte) (a : Nat) : tread (twrite t a l) a l.length = l := by
  apply List.ext_getElem
  · simp [tread]
  · intro i h1 h2
    simp only [tread, List.getElem_map, List.getElem_range]
    exact tget_twrite_in l t a i h2

section Canonical
variable [DecidableEq α]

theorem twfFrom_mono (d : α) {lo hi : Nat} (t : Tab α) (h : lo ≤ hi) (w : twfFrom d hi t = true) : twfFrom d lo t = true := by
  cases t with
  | nil => rfl
  | cons e t =>
    obtain ⟨k, v⟩ := e
    simp only [twfFrom, Bool.and_eq_true, decide_eq_true_eq] at w ⊢
    exact ⟨⟨by omega, w.1.2⟩, w.2⟩

theorem twfFrom_tput (d : α) {lo : Nat} (t : Tab α) (k : Nat) (v : α) (hv : v ≠ d) (hk : lo ≤ k)
    (w : twfFrom d lo t = true) : twfFrom d lo (tput t k v) = true := by
  induction t generalizing lo with
  | nil => simp [tput, twfFrom, hv, hk]
  | cons e t ih =>
    obtain ⟨k', v'⟩ := e
    simp only [twfFrom, Bool.and_eq_true, decide_eq_true_eq] at w
    obtain ⟨⟨w1, w2⟩, w3⟩ := w
    simp only [tput]
    split
    · next h => simp [twfFrom, hk, hv, w2, w3, h]
    · split
      · next h1 h2 => subst h2; simp [twfFrom, hk, hv, w3]
      · next h1 h2 =>
        simp only [twfFrom, w1, w2, ne_eq, not_false_eq_true, decide_true, Bool.and_self, Bool.true_and]
        exact ih (by omega) w3

theorem twfFrom_tdel (d : α) {lo : Nat} (t : Tab α) (k : Nat) (w : twfFrom d lo t = true) :
    twfFrom d lo (tdel t k) = true := by
  induction t generalizing lo with
  | nil => rfl
  | cons e t ih =>
    obtain ⟨k', v'⟩ := e
    simp only [twfFrom, Bool.and_eq_true, decide_eq_true_eq] at w
    obtain ⟨⟨w1, w2⟩, w3⟩ := w
    simp only [tdel]
    split
    · exact twfFrom_mono d _ (by omega) (ih w3)
    · simp [twfFrom, w1, w2, ih w3]

/-- A write keeps the canonical form. -/
theorem twf_tset (d : α) (t : Tab α) (k : Nat) (v : α) (w : twf d t = true) : twf d (tset d t k v) = true := by
  simp only [tset]
  split
  · exact twfFrom_tdel d t k w
  · next h => exact twfFrom_tput d t k v h (Nat.zero_le _) w

theorem twf_tmod (d : α) (t : Tab α) (k : Nat) (f : α → α) (w : twf d t = true) : twf d (tmod d t k f) = true := twf_tset d t k _ w

theorem twf_twrite (l : List Byte) (t : Tab Byte) (a : Nat) (w : twf 0 t = true) : twf 0 (twrite t a l) = true := by
  induction l generalizing t a with
  | nil => exact w
  | cons b l ih => exact ih _ _ (twf_tset 0 t a b w)

end Canonical

end Sys2Proof.Machine
end

