-- ==== Sys2Proof/Laws/State.lean ====
section
/-! SUPPORT. Laws/State.lean: what the shared updates leave in each piece of the state: one lemma a piece and update. -/

set_option linter.all false

namespace Sys2Proof.Machine

theorem part_of_without {m : Nat} {s t : State} (h : t.without m = s.without m) (b : m.testBit 0 = false) : t.part = s.part := by
  have := congrArg State.part h
  simpa only [State.without, b, Bool.false_eq_true, ↓reduceIte] using this
theorem keeper_of_without {m : Nat} {s t : State} (h : t.without m = s.without m) (b : m.testBit 1 = false) : t.keeper = s.keeper := by
  have := congrArg State.keeper h
  simpa only [State.without, b, Bool.false_eq_true, ↓reduceIte] using this
theorem time_of_without {m : Nat} {s t : State} (h : t.without m = s.without m) (b : m.testBit 2 = false) : t.time = s.time := by
  have := congrArg State.time h
  simpa only [State.without, b, Bool.false_eq_true, ↓reduceIte] using this
theorem faults_of_without {m : Nat} {s t : State} (h : t.without m = s.without m) (b : m.testBit 3 = false) : t.faults = s.faults := by
  have := congrArg State.faults h
  simpa only [State.without, b, Bool.false_eq_true, ↓reduceIte] using this
theorem signals_of_without {m : Nat} {s t : State} (h : t.without m = s.without m) (b : m.testBit 4 = false) : t.signals = s.signals := by
  have := congrArg State.signals h
  simpa only [State.without, b, Bool.false_eq_true, ↓reduceIte] using this
theorem sensing_of_without {m : Nat} {s t : State} (h : t.without m = s.without m) (b : m.testBit 5 = false) : t.sensing = s.sensing := by
  have := congrArg State.sensing h
  simpa only [State.without, b, Bool.false_eq_true, ↓reduceIte] using this
theorem ctrl_of_without {m : Nat} {s t : State} (h : t.without m = s.without m) (b : m.testBit 6 = false) : t.ctrl = s.ctrl := by
  have := congrArg State.ctrl h
  simpa only [State.without, b, Bool.false_eq_true, ↓reduceIte] using this
theorem valve_of_without {m : Nat} {s t : State} (h : t.without m = s.without m) (b : m.testBit 7 = false) : t.valve = s.valve := by
  have := congrArg State.valve h
  simpa only [State.without, b, Bool.false_eq_true, ↓reduceIte] using this
theorem gnss_of_without {m : Nat} {s t : State} (h : t.without m = s.without m) (b : m.testBit 8 = false) : t.gnss = s.gnss := by
  have := congrArg State.gnss h
  simpa only [State.without, b, Bool.false_eq_true, ↓reduceIte] using this
theorem imu_of_without {m : Nat} {s t : State} (h : t.without m = s.without m) (b : m.testBit 9 = false) : t.imu = s.imu := by
  have := congrArg State.imu h
  simpa only [State.without, b, Bool.false_eq_true, ↓reduceIte] using this
theorem cam_of_without {m : Nat} {s t : State} (h : t.without m = s.without m) (b : m.testBit 10 = false) : t.cam = s.cam := by
  have := congrArg State.cam h
  simpa only [State.without, b, Bool.false_eq_true, ↓reduceIte] using this
theorem crown_of_without {m : Nat} {s t : State} (h : t.without m = s.without m) (b : m.testBit 11 = false) : t.crown = s.crown := by
  have := congrArg State.crown h
  simpa only [State.without, b, Bool.false_eq_true, ↓reduceIte] using this
theorem granary_of_without {m : Nat} {s t : State} (h : t.without m = s.without m) (b : m.testBit 12 = false) : t.granary = s.granary := by
  have := congrArg State.granary h
  simpa only [State.without, b, Bool.false_eq_true, ↓reduceIte] using this
theorem outs_of_without {m : Nat} {s t : State} (h : t.without m = s.without m) (b : m.testBit 13 = false) : t.outs = s.outs := by
  have := congrArg State.outs h
  simpa only [State.without, b, Bool.false_eq_true, ↓reduceIte] using this
theorem swin_of_without {m : Nat} {s t : State} (h : t.without m = s.without m) (b : m.testBit 14 = false) : t.swin = s.swin := by
  have := congrArg State.swin h
  simpa only [State.without, b, Bool.false_eq_true, ↓reduceIte] using this
theorem body_of_without {m : Nat} {s t : State} (h : t.without m = s.without m) (b : m.testBit 15 = false) : t.body = s.body := by
  have := congrArg State.body h
  simpa only [State.without, b, Bool.false_eq_true, ↓reduceIte] using this
theorem fans_of_without {m : Nat} {s t : State} (h : t.without m = s.without m) (b : m.testBit 16 = false) : t.fans = s.fans := by
  have := congrArg State.fans h
  simpa only [State.without, b, Bool.false_eq_true, ↓reduceIte] using this
theorem plate_of_without {m : Nat} {s t : State} (h : t.without m = s.without m) (b : m.testBit 17 = false) : t.plate = s.plate := by
  have := congrArg State.plate h
  simpa only [State.without, b, Bool.false_eq_true, ↓reduceIte] using this
theorem can_of_without {m : Nat} {s t : State} (h : t.without m = s.without m) (b : m.testBit 18 = false) : t.can = s.can := by
  have := congrArg State.can h
  simpa only [State.without, b, Bool.false_eq_true, ↓reduceIte] using this
theorem eth_of_without {m : Nat} {s t : State} (h : t.without m = s.without m) (b : m.testBit 19 = false) : t.eth = s.eth := by
  have := congrArg State.eth h
  simpa only [State.without, b, Bool.false_eq_true, ↓reduceIte] using this
theorem nm_of_without {m : Nat} {s t : State} (h : t.without m = s.without m) (b : m.testBit 20 = false) : t.nm = s.nm := by
  have := congrArg State.nm h
  simpa only [State.without, b, Bool.false_eq_true, ↓reduceIte] using this
theorem root_of_without {m : Nat} {s t : State} (h : t.without m = s.without m) (b : m.testBit 21 = false) : t.root = s.root := by
  have := congrArg State.root h
  simpa only [State.without, b, Bool.false_eq_true, ↓reduceIte] using this
theorem graft_of_without {m : Nat} {s t : State} (h : t.without m = s.without m) (b : m.testBit 22 = false) : t.graft = s.graft := by
  have := congrArg State.graft h
  simpa only [State.without, b, Bool.false_eq_true, ↓reduceIte] using this
theorem attic_of_without {m : Nat} {s t : State} (h : t.without m = s.without m) (b : m.testBit 23 = false) : t.attic = s.attic := by
  have := congrArg State.attic h
  simpa only [State.without, b, Bool.false_eq_true, ↓reduceIte] using this
theorem larder_of_without {m : Nat} {s t : State} (h : t.without m = s.without m) (b : m.testBit 24 = false) : t.larder = s.larder := by
  have := congrArg State.larder h
  simpa only [State.without, b, Bool.false_eq_true, ↓reduceIte] using this
theorem power_of_without {m : Nat} {s t : State} (h : t.without m = s.without m) (b : m.testBit 25 = false) : t.power = s.power := by
  have := congrArg State.power h
  simpa only [State.without, b, Bool.false_eq_true, ↓reduceIte] using this
theorem thermal_of_without {m : Nat} {s t : State} (h : t.without m = s.without m) (b : m.testBit 26 = false) : t.thermal = s.thermal := by
  have := congrArg State.thermal h
  simpa only [State.without, b, Bool.false_eq_true, ↓reduceIte] using this
theorem jtag_of_without {m : Nat} {s t : State} (h : t.without m = s.without m) (b : m.testBit 27 = false) : t.jtag = s.jtag := by
  have := congrArg State.jtag h
  simpa only [State.without, b, Bool.false_eq_true, ↓reduceIte] using this
theorem kept_of_without {m : Nat} {s t : State} (h : t.without m = s.without m) (b : m.testBit 28 = false) : t.kept = s.kept := by
  have := congrArg State.kept h
  simpa only [State.without, b, Bool.false_eq_true, ↓reduceIte] using this
theorem keptDirty_of_without {m : Nat} {s t : State} (h : t.without m = s.without m) (b : m.testBit 29 = false) : t.keptDirty = s.keptDirty := by
  have := congrArg State.keptDirty h
  simpa only [State.without, b, Bool.false_eq_true, ↓reduceIte] using this
theorem keptAt_of_without {m : Nat} {s t : State} (h : t.without m = s.without m) (b : m.testBit 30 = false) : t.keptAt = s.keptAt := by
  have := congrArg State.keptAt h
  simpa only [State.without, b, Bool.false_eq_true, ↓reduceIte] using this
theorem free_of_without {m : Nat} {s t : State} (h : t.without m = s.without m) (b : m.testBit 31 = false) : t.free = s.free := by
  have := congrArg State.free h
  simpa only [State.without, b, Bool.false_eq_true, ↓reduceIte] using this
theorem pending_of_without {m : Nat} {s t : State} (h : t.without m = s.without m) (b : m.testBit 32 = false) : t.pending = s.pending := by
  have := congrArg State.pending h
  simpa only [State.without, b, Bool.false_eq_true, ↓reduceIte] using this
@[simp ↓] theorem State.written_frame (s : State) (v : Verb) (r : Req) {H : Nat} (h : H &&& 2 = 2) : (s.written v r).without H = s.without H := by
  unfold State.written
  rw [State.modWin_frame _ _ _ h, State.stores_frame _ _ _ h]
@[simp ↓] theorem State.consumed_frame (s : State) (v : Verb) (r : Req) {H : Nat} (h : H &&& 2 = 2) : (s.consumed v r).without H = s.without H := by
  unfold State.consumed
  rw [State.modWin_frame _ _ _ h, State.written_frame _ _ _ h]
@[simp ↓] theorem State.offered_frame (s : State) (v : Verb) (r : Req) {H : Nat} (h : H &&& 2 = 2) : (s.offered v r).without H = s.without H := by
  unfold State.offered
  rw [State.ungate_frame _ _ _ h, State.consumed_frame _ _ _ h]
@[simp ↓] theorem State.settled_frame (u s : State) (v : Verb) (r : Req) {H : Nat} (h : H &&& 2 = 2) : (u.settled s v r).without H = u.without H := by
  unfold State.settled
  rw [State.gateIdle_frame _ _ _ _ h]
@[simp ↓] theorem State.replied_frame (u s : State) (v : Verb) (r : Req) (st : Nat) (pl : List Byte) {H : Nat} (h : H &&& 2 = 2) : (u.replied s v r st pl).without H = u.without H := by
  unfold State.replied
  rw [State.answer_frame _ _ _ h, State.recordReply_frame _ _ _ h, State.settled_frame _ _ _ _ h]
@[simp] theorem State.modWin_win (s : State) (n : Nat) (f) : (s.modWin n f).win n = f (s.win n) := tget_tmod_same _ _ _ _
theorem State.modWin_win_other (s : State) {n m : Nat} (f) (h : m ≠ n) : (s.modWin n f).win m = s.win m := tget_tmod_other _ _ _ h
@[simp] theorem State.modLoss_lossCh (s : State) (n : Nat) (f) : (s.modLoss n f).lossCh n = f (s.lossCh n) := tget_tmod_same _ _ _ _
theorem State.modLoss_lossCh_other (s : State) {n m : Nat} (f) (h : m ≠ n) : (s.modLoss n f).lossCh m = s.lossCh m := tget_tmod_other _ _ _ h
@[simp] theorem State.modBridge_bridgeCh (s : State) (n : Nat) (f) : (s.modBridge n f).bridgeCh n = f (s.bridgeCh n) := tget_tmod_same _ _ _ _
theorem State.modBridge_bridgeCh_other (s : State) {n m : Nat} (f) (h : m ≠ n) : (s.modBridge n f).bridgeCh m = s.bridgeCh m := tget_tmod_other _ _ _ h
@[simp] theorem State.modAin_ainCh (s : State) (n : Nat) (f) : (s.modAin n f).ainCh n = f (s.ainCh n) := tget_tmod_same _ _ _ _
theorem State.modAin_ainCh_other (s : State) {n m : Nat} (f) (h : m ≠ n) : (s.modAin n f).ainCh m = s.ainCh m := tget_tmod_other _ _ _ h
@[simp] theorem State.modFreq_freqCh (s : State) (n : Nat) (f) : (s.modFreq n f).freqCh n = f (s.freqCh n) := tget_tmod_same _ _ _ _
theorem State.modFreq_freqCh_other (s : State) {n m : Nat} (f) (h : m ≠ n) : (s.modFreq n f).freqCh m = s.freqCh m := tget_tmod_other _ _ _ h
@[simp] theorem State.modSup_supCh (s : State) (n : Nat) (f) : (s.modSup n f).supCh n = f (s.supCh n) := tget_tmod_same _ _ _ _
theorem State.modSup_supCh_other (s : State) {n m : Nat} (f) (h : m ≠ n) : (s.modSup n f).supCh m = s.supCh m := tget_tmod_other _ _ _ h
@[simp] theorem State.modCan_canCh (s : State) (n : Nat) (f) : (s.modCan n f).canCh n = f (s.canCh n) := tget_tmod_same _ _ _ _
theorem State.modCan_canCh_other (s : State) {n m : Nat} (f) (h : m ≠ n) : (s.modCan n f).canCh m = s.canCh m := tget_tmod_other _ _ _ h
@[simp] theorem State.modEth_ethPort (s : State) (n : Nat) (f) : (s.modEth n f).ethPort n = f (s.ethPort n) := tget_tmod_same _ _ _ _
theorem State.modEth_ethPort_other (s : State) {n m : Nat} (f) (h : m ≠ n) : (s.modEth n f).ethPort m = s.ethPort m := tget_tmod_other _ _ _ h
@[simp] theorem State.modNet_net (s : State) (n : Nat) (f) : (s.modNet n f).net n = f (s.net n) := tget_tmod_same _ _ _ _
theorem State.modNet_net_other (s : State) {n m : Nat} (f) (h : m ≠ n) : (s.modNet n f).net m = s.net m := tget_tmod_other _ _ _ h
@[simp] theorem State.modPort_port (s : State) (n : Nat) (f) : (s.modPort n f).port n = f (s.port n) := tget_tmod_same _ _ _ _
theorem State.modPort_port_other (s : State) {n m : Nat} (f) (h : m ≠ n) : (s.modPort n f).port m = s.port m := tget_tmod_other _ _ _ h
@[simp] theorem State.modLamp_lamp (s : State) (n : Nat) (f) : (s.modLamp n f).lamp n = f (s.lamp n) := tget_tmod_same _ _ _ _
theorem State.modLamp_lamp_other (s : State) {n m : Nat} (f) (h : m ≠ n) : (s.modLamp n f).lamp m = s.lamp m := tget_tmod_other _ _ _ h
@[simp] theorem State.modSlot_slot (s : State) (n : Nat) (f) : (s.modSlot n f).slot n = f (s.slot n) := tget_tmod_same _ _ _ _
theorem State.modSlot_slot_other (s : State) {n m : Nat} (f) (h : m ≠ n) : (s.modSlot n f).slot m = s.slot m := tget_tmod_other _ _ _ h
@[simp] theorem State.modCrownUnit_crownUnit (s : State) (n : Nat) (f) : (s.modCrownUnit n f).crownUnit n = f (s.crownUnit n) := tget_tmod_same _ _ _ _
theorem State.modCrownUnit_crownUnit_other (s : State) {n m : Nat} (f) (h : m ≠ n) : (s.modCrownUnit n f).crownUnit m = s.crownUnit m := tget_tmod_other _ _ _ h
@[simp] theorem State.modLoop_loop (s : State) (n : Nat) (f) : (s.modLoop n f).loop n = f (s.loop n) := tget_tmod_same _ _ _ _
theorem State.modLoop_loop_other (s : State) {n m : Nat} (f) (h : m ≠ n) : (s.modLoop n f).loop m = s.loop m := tget_tmod_other _ _ _ h
@[simp] theorem State.modTrace_trace (s : State) (n : Nat) (f) : (s.modTrace n f).trace n = f (s.trace n) := tget_tmod_same _ _ _ _
theorem State.modTrace_trace_other (s : State) {n m : Nat} (f) (h : m ≠ n) : (s.modTrace n f).trace m = s.trace m := tget_tmod_other _ _ _ h
@[simp] theorem State.modLidar_lidar (s : State) (n : Nat) (f) : (s.modLidar n f).lidar n = f (s.lidar n) := tget_tmod_same _ _ _ _
theorem State.modLidar_lidar_other (s : State) {n m : Nat} (f) (h : m ≠ n) : (s.modLidar n f).lidar m = s.lidar m := tget_tmod_other _ _ _ h
@[simp] theorem State.modRing_ring (s : State) (n : Nat) (f) : (s.modRing n f).ring n = f (s.ring n) := tget_tmod_same _ _ _ _
theorem State.modRing_ring_other (s : State) {n m : Nat} (f) (h : m ≠ n) : (s.modRing n f).ring m = s.ring m := tget_tmod_other _ _ _ h
@[simp] theorem State.modFan_fan (s : State) (n : Nat) (f) : (s.modFan n f).fan n = f (s.fan n) := tget_tmod_same _ _ _ _
theorem State.modFan_fan_other (s : State) {n m : Nat} (f) (h : m ≠ n) : (s.modFan n f).fan m = s.fan m := tget_tmod_other _ _ _ h
@[simp] theorem State.modOut_out (s : State) (n : Nat) (f) : (s.modOut n f).out n = f (s.out n) := tget_tmod_same _ _ _ _
theorem State.modOut_out_other (s : State) {n m : Nat} (f) (h : m ≠ n) : (s.modOut n f).out m = s.out m := tget_tmod_other _ _ _ h
@[simp] theorem State.modGroup_group (s : State) (n : Nat) (f) : (s.modGroup n f).group n = f (s.group n) := tget_tmod_same _ _ _ _
theorem State.modGroup_group_other (s : State) {n m : Nat} (f) (h : m ≠ n) : (s.modGroup n f).group m = s.group m := tget_tmod_other _ _ _ h
@[simp] theorem State.modHb_hb (s : State) (n : Nat) (f) : (s.modHb n f).hb n = f (s.hb n) := tget_tmod_same _ _ _ _
theorem State.modHb_hb_other (s : State) {n m : Nat} (f) (h : m ≠ n) : (s.modHb n f).hb m = s.hb m := tget_tmod_other _ _ _ h
@[simp] theorem State.modSvc_svc (s : State) (n : Nat) (f) : (s.modSvc n f).svc n = f (s.svc n) := tget_tmod_same _ _ _ _
theorem State.modSvc_svc_other (s : State) {n m : Nat} (f) (h : m ≠ n) : (s.modSvc n f).svc m = s.svc m := tget_tmod_other _ _ _ h
@[simp] theorem State.modValve_valve' (s : State) (n : Nat) (f) : (s.modValve n f).valve' n = f (s.valve' n) := tget_tmod_same _ _ _ _
theorem State.modValve_valve'_other (s : State) {n m : Nat} (f) (h : m ≠ n) : (s.modValve n f).valve' m = s.valve' m := tget_tmod_other _ _ _ h
@[simp] theorem State.modBank_bank (s : State) (n : Nat) (f) : (s.modBank n f).bank n = f (s.bank n) := tget_tmod_same _ _ _ _
theorem State.modBank_bank_other (s : State) {n m : Nat} (f) (h : m ≠ n) : (s.modBank n f).bank m = s.bank m := tget_tmod_other _ _ _ h
@[simp] theorem State.modBoost_boost (s : State) (n : Nat) (f) : (s.modBoost n f).boost n = f (s.boost n) := tget_tmod_same _ _ _ _
theorem State.modBoost_boost_other (s : State) {n m : Nat} (f) (h : m ≠ n) : (s.modBoost n f).boost m = s.boost m := tget_tmod_other _ _ _ h
@[simp] theorem State.modAnt_ant (s : State) (n : Nat) (f) : (s.modAnt n f).ant n = f (s.ant n) := tget_tmod_same _ _ _ _
theorem State.modAnt_ant_other (s : State) {n m : Nat} (f) (h : m ≠ n) : (s.modAnt n f).ant m = s.ant m := tget_tmod_other _ _ _ h
@[simp] theorem State.modPartition_partition (s : State) (n : Nat) (f) : (s.modPartition n f).partition n = f (s.partition n) := tget_tmod_same _ _ _ _
theorem State.modPartition_partition_other (s : State) {n m : Nat} (f) (h : m ≠ n) : (s.modPartition n f).partition m = s.partition m := tget_tmod_other _ _ _ h
@[simp] theorem State.modLin_lin (s : State) (n : Nat) (f) : (s.modLin n f).lin n = f (s.lin n) := tget_tmod_same _ _ _ _
theorem State.modLin_lin_other (s : State) {n m : Nat} (f) (h : m ≠ n) : (s.modLin n f).lin m = s.lin m := tget_tmod_other _ _ _ h
@[simp] theorem State.modHost_hostFn (s : State) (n : Nat) (f) : (s.modHost n f).hostFn n = f (s.hostFn n) := tget_tmod_same _ _ _ _
theorem State.modHost_hostFn_other (s : State) {n m : Nat} (f) (h : m ≠ n) : (s.modHost n f).hostFn m = s.hostFn m := tget_tmod_other _ _ _ h
@[simp] theorem State.modPark_parkSlot (s : State) (n : Nat) (f) : (s.modPark n f).parkSlot n = f (s.parkSlot n) := tget_tmod_same _ _ _ _
theorem State.modPark_parkSlot_other (s : State) {n m : Nat} (f) (h : m ≠ n) : (s.modPark n f).parkSlot m = s.parkSlot m := tget_tmod_other _ _ _ h
@[simp] theorem State.modStud_stud (s : State) (n : Nat) (f) : (s.modStud n f).stud n = f (s.stud n) := tget_tmod_same _ _ _ _
theorem State.modStud_stud_other (s : State) {n m : Nat} (f) (h : m ≠ n) : (s.modStud n f).stud m = s.stud m := tget_tmod_other _ _ _ h
@[simp] theorem State.modSensor_sensor (s : State) (n : Nat) (f) : (s.modSensor n f).sensor n = f (s.sensor n) := tget_tmod_same _ _ _ _
theorem State.modSensor_sensor_other (s : State) {n m : Nat} (f) (h : m ≠ n) : (s.modSensor n f).sensor m = s.sensor m := tget_tmod_other _ _ _ h
@[simp] theorem State.modLink_link (s : State) (n : Nat) (f) : (s.modLink n f).link n = f (s.link n) := tget_tmod_same _ _ _ _
theorem State.modLink_link_other (s : State) {n m : Nat} (f) (h : m ≠ n) : (s.modLink n f).link m = s.link m := tget_tmod_other _ _ _ h
@[simp] theorem State.modSw_sw (s : State) (n : Nat) (f) : (s.modSw n f).sw n = f (s.sw n) := tget_tmod_same _ _ _ _
theorem State.modSw_sw_other (s : State) {n m : Nat} (f) (h : m ≠ n) : (s.modSw n f).sw m = s.sw m := tget_tmod_other _ _ _ h
@[simp] theorem State.waitTo_hw (s : State) (t : Nat) : (s.waitTo t).hw = max s.hw (cycleOf t) := rfl
@[simp] theorem State.modLarder_larder (s : State) (f) : (s.modLarder f).larder = f s.larder := rfl
@[simp] theorem State.modCam_cam (s : State) (f) : (s.modCam f).cam = f s.cam := rfl
@[simp] theorem State.modCrown_crown (s : State) (f) : (s.modCrown f).crown = f s.crown := rfl
@[simp] theorem State.modGnss_gnss (s : State) (f) : (s.modGnss f).gnss = f s.gnss := rfl
@[simp] theorem State.modImu_imu (s : State) (f) : (s.modImu f).imu = f s.imu := rfl
@[simp] theorem State.modGraft_graft (s : State) (f) : (s.modGraft f).graft = f s.graft := rfl
@[simp] theorem State.modGran_granary (s : State) (f) : (s.modGran f).granary = f s.granary := rfl
@[simp] theorem State.modPlate_plate (s : State) (f) : (s.modPlate f).plate = f s.plate := rfl
@[simp] theorem State.modPower_power (s : State) (f) : (s.modPower f).power = f s.power := rfl
@[simp] theorem State.modRoot_root (s : State) (f) : (s.modRoot f).root = f s.root := rfl
@[simp] theorem State.modSense_sensing (s : State) (f) : (s.modSense f).sensing = f s.sensing := rfl
@[simp] theorem State.modAttic_attic (s : State) (f) : (s.modAttic f).attic = f s.attic := rfl
@[simp] theorem State.modJtag_jtag (s : State) (f) : (s.modJtag f).jtag = f s.jtag := rfl
/-- What `State.modUnit` leaves as it is. -/
@[simp] theorem State.modUnit_leaves (s) (a1) (a2) (a3) :
    (State.modUnit s a1 a2 a3).part = s.part ∧ (State.modUnit s a1 a2 a3).time = s.time ∧
    (State.modUnit s a1 a2 a3).faults = s.faults ∧ (State.modUnit s a1 a2 a3).signals = s.signals ∧
    (State.modUnit s a1 a2 a3).sensing = s.sensing ∧ (State.modUnit s a1 a2 a3).ctrl = s.ctrl ∧
    (State.modUnit s a1 a2 a3).valve = s.valve ∧ (State.modUnit s a1 a2 a3).gnss = s.gnss ∧
    (State.modUnit s a1 a2 a3).imu = s.imu ∧ (State.modUnit s a1 a2 a3).cam = s.cam ∧
    (State.modUnit s a1 a2 a3).crown = s.crown ∧ (State.modUnit s a1 a2 a3).granary = s.granary ∧
    (State.modUnit s a1 a2 a3).outs = s.outs ∧ (State.modUnit s a1 a2 a3).swin = s.swin ∧
    (State.modUnit s a1 a2 a3).body = s.body ∧ (State.modUnit s a1 a2 a3).fans = s.fans ∧
    (State.modUnit s a1 a2 a3).plate = s.plate ∧ (State.modUnit s a1 a2 a3).can = s.can ∧
    (State.modUnit s a1 a2 a3).eth = s.eth ∧ (State.modUnit s a1 a2 a3).nm = s.nm ∧
    (State.modUnit s a1 a2 a3).root = s.root ∧ (State.modUnit s a1 a2 a3).graft = s.graft ∧
    (State.modUnit s a1 a2 a3).attic = s.attic ∧ (State.modUnit s a1 a2 a3).larder = s.larder ∧
    (State.modUnit s a1 a2 a3).power = s.power ∧ (State.modUnit s a1 a2 a3).thermal = s.thermal ∧
    (State.modUnit s a1 a2 a3).jtag = s.jtag ∧ (State.modUnit s a1 a2 a3).kept = s.kept ∧
    (State.modUnit s a1 a2 a3).keptDirty = s.keptDirty ∧ (State.modUnit s a1 a2 a3).keptAt = s.keptAt ∧
    (State.modUnit s a1 a2 a3).free = s.free ∧ (State.modUnit s a1 a2 a3).pending = s.pending ∧
    (∀ k, (State.modUnit s a1 a2 a3).win k = s.win k) ∧ (∀ k, (State.modUnit s a1 a2 a3).lossCh k = s.lossCh k) ∧
    (∀ k, (State.modUnit s a1 a2 a3).bridgeCh k = s.bridgeCh k) ∧ (∀ k, (State.modUnit s a1 a2 a3).ainCh k = s.ainCh k) ∧
    (∀ k, (State.modUnit s a1 a2 a3).freqCh k = s.freqCh k) ∧ (∀ k, (State.modUnit s a1 a2 a3).supCh k = s.supCh k) ∧
    (∀ k, (State.modUnit s a1 a2 a3).canCh k = s.canCh k) ∧ (∀ k, (State.modUnit s a1 a2 a3).ethPort k = s.ethPort k) ∧
    (∀ k, (State.modUnit s a1 a2 a3).net k = s.net k) ∧ (∀ k, (State.modUnit s a1 a2 a3).port k = s.port k) ∧
    (∀ k, (State.modUnit s a1 a2 a3).lamp k = s.lamp k) ∧ (∀ k, (State.modUnit s a1 a2 a3).slot k = s.slot k) ∧
    (∀ k, (State.modUnit s a1 a2 a3).crownUnit k = s.crownUnit k) ∧ (∀ k, (State.modUnit s a1 a2 a3).loop k = s.loop k) ∧
    (∀ k, (State.modUnit s a1 a2 a3).trace k = s.trace k) ∧ (∀ k, (State.modUnit s a1 a2 a3).lidar k = s.lidar k) ∧
    (∀ k, (State.modUnit s a1 a2 a3).ring k = s.ring k) ∧ (∀ k, (State.modUnit s a1 a2 a3).fan k = s.fan k) ∧
    (∀ k, (State.modUnit s a1 a2 a3).out k = s.out k) ∧ (∀ k, (State.modUnit s a1 a2 a3).group k = s.group k) ∧
    (∀ k, (State.modUnit s a1 a2 a3).hb k = s.hb k) ∧ (∀ k, (State.modUnit s a1 a2 a3).svc k = s.svc k) ∧
    (∀ k, (State.modUnit s a1 a2 a3).valve' k = s.valve' k) ∧ (∀ k, (State.modUnit s a1 a2 a3).bank k = s.bank k) ∧
    (∀ k, (State.modUnit s a1 a2 a3).boost k = s.boost k) ∧ (∀ k, (State.modUnit s a1 a2 a3).ant k = s.ant k) ∧
    (∀ k, (State.modUnit s a1 a2 a3).partition k = s.partition k) ∧ (∀ k, (State.modUnit s a1 a2 a3).lin k = s.lin k) ∧
    (∀ k, (State.modUnit s a1 a2 a3).hostFn k = s.hostFn k) ∧ (∀ k, (State.modUnit s a1 a2 a3).parkSlot k = s.parkSlot k) ∧
    (∀ k, (State.modUnit s a1 a2 a3).stud k = s.stud k) ∧ (∀ k, (State.modUnit s a1 a2 a3).sensor k = s.sensor k) ∧
    (∀ k, (State.modUnit s a1 a2 a3).link k = s.link k) ∧ (∀ k, (State.modUnit s a1 a2 a3).sw k = s.sw k) ∧
    (State.modUnit s a1 a2 a3).hw = s.hw ∧ (State.modUnit s a1 a2 a3).variant = s.variant ∧
    (State.modUnit s a1 a2 a3).trunkOn = s.trunkOn ∧ (State.modUnit s a1 a2 a3).inRun = s.inRun ∧
    (State.modUnit s a1 a2 a3).operating = s.operating ∧ (State.modUnit s a1 a2 a3).parked = s.parked ∧
    (∀ k, (State.modUnit s a1 a2 a3).decl k = s.decl k) ∧ (∀ k, (State.modUnit s a1 a2 a3).sig k = s.sig k) :=
  ⟨part_of_without (m := 2) (State.modUnit_frame _ _ _ _ rfl) rfl,
    time_of_without (m := 2) (State.modUnit_frame _ _ _ _ rfl) rfl,
    faults_of_without (m := 2) (State.modUnit_frame _ _ _ _ rfl) rfl,
    signals_of_without (m := 2) (State.modUnit_frame _ _ _ _ rfl) rfl,
    sensing_of_without (m := 2) (State.modUnit_frame _ _ _ _ rfl) rfl,
    ctrl_of_without (m := 2) (State.modUnit_frame _ _ _ _ rfl) rfl,
    valve_of_without (m := 2) (State.modUnit_frame _ _ _ _ rfl) rfl,
    gnss_of_without (m := 2) (State.modUnit_frame _ _ _ _ rfl) rfl,
    imu_of_without (m := 2) (State.modUnit_frame _ _ _ _ rfl) rfl,
    cam_of_without (m := 2) (State.modUnit_frame _ _ _ _ rfl) rfl,
    crown_of_without (m := 2) (State.modUnit_frame _ _ _ _ rfl) rfl,
    granary_of_without (m := 2) (State.modUnit_frame _ _ _ _ rfl) rfl,
    outs_of_without (m := 2) (State.modUnit_frame _ _ _ _ rfl) rfl,
    swin_of_without (m := 2) (State.modUnit_frame _ _ _ _ rfl) rfl,
    body_of_without (m := 2) (State.modUnit_frame _ _ _ _ rfl) rfl,
    fans_of_without (m := 2) (State.modUnit_frame _ _ _ _ rfl) rfl,
    plate_of_without (m := 2) (State.modUnit_frame _ _ _ _ rfl) rfl,
    can_of_without (m := 2) (State.modUnit_frame _ _ _ _ rfl) rfl,
    eth_of_without (m := 2) (State.modUnit_frame _ _ _ _ rfl) rfl,
    nm_of_without (m := 2) (State.modUnit_frame _ _ _ _ rfl) rfl,
    root_of_without (m := 2) (State.modUnit_frame _ _ _ _ rfl) rfl,
    graft_of_without (m := 2) (State.modUnit_frame _ _ _ _ rfl) rfl,
    attic_of_without (m := 2) (State.modUnit_frame _ _ _ _ rfl) rfl,
    larder_of_without (m := 2) (State.modUnit_frame _ _ _ _ rfl) rfl,
    power_of_without (m := 2) (State.modUnit_frame _ _ _ _ rfl) rfl,
    thermal_of_without (m := 2) (State.modUnit_frame _ _ _ _ rfl) rfl,
    jtag_of_without (m := 2) (State.modUnit_frame _ _ _ _ rfl) rfl,
    kept_of_without (m := 2) (State.modUnit_frame _ _ _ _ rfl) rfl,
    keptDirty_of_without (m := 2) (State.modUnit_frame _ _ _ _ rfl) rfl,
    keptAt_of_without (m := 2) (State.modUnit_frame _ _ _ _ rfl) rfl,
    free_of_without (m := 2) (State.modUnit_frame _ _ _ _ rfl) rfl,
    pending_of_without (m := 2) (State.modUnit_frame _ _ _ _ rfl) rfl, (fun k => by unfold State.modUnit; split <;> rfl),
    (fun k => by unfold State.lossCh; rw [sensing_of_without (m := 2) (State.modUnit_frame _ _ _ _ rfl) rfl]),
    (fun k => by unfold State.bridgeCh; rw [sensing_of_without (m := 2) (State.modUnit_frame _ _ _ _ rfl) rfl]),
    (fun k => by unfold State.ainCh; rw [sensing_of_without (m := 2) (State.modUnit_frame _ _ _ _ rfl) rfl]),
    (fun k => by unfold State.freqCh; rw [sensing_of_without (m := 2) (State.modUnit_frame _ _ _ _ rfl) rfl]),
    (fun k => by unfold State.supCh; rw [sensing_of_without (m := 2) (State.modUnit_frame _ _ _ _ rfl) rfl]),
    (fun k => by unfold State.canCh; rw [can_of_without (m := 2) (State.modUnit_frame _ _ _ _ rfl) rfl]),
    (fun k => by unfold State.ethPort; rw [eth_of_without (m := 2) (State.modUnit_frame _ _ _ _ rfl) rfl]),
    (fun k => by unfold State.net; rw [nm_of_without (m := 2) (State.modUnit_frame _ _ _ _ rfl) rfl]),
    (fun k => by unfold State.port; rw [cam_of_without (m := 2) (State.modUnit_frame _ _ _ _ rfl) rfl]),
    (fun k => by unfold State.lamp; rw [cam_of_without (m := 2) (State.modUnit_frame _ _ _ _ rfl) rfl]),
    (fun k => by unfold State.slot; rw [crown_of_without (m := 2) (State.modUnit_frame _ _ _ _ rfl) rfl]),
    (fun k => by unfold State.crownUnit; rw [crown_of_without (m := 2) (State.modUnit_frame _ _ _ _ rfl) rfl]),
    (fun k => by unfold State.loop; rw [ctrl_of_without (m := 2) (State.modUnit_frame _ _ _ _ rfl) rfl]),
    (fun k => by unfold State.trace; rw [ctrl_of_without (m := 2) (State.modUnit_frame _ _ _ _ rfl) rfl]),
    (fun k => by unfold State.lidar; rw [eth_of_without (m := 2) (State.modUnit_frame _ _ _ _ rfl) rfl]),
    (fun k => by unfold State.ring; rw [eth_of_without (m := 2) (State.modUnit_frame _ _ _ _ rfl) rfl]),
    (fun k => by unfold State.fan; rw [fans_of_without (m := 2) (State.modUnit_frame _ _ _ _ rfl) rfl]),
    (fun k => by unfold State.out; rw [outs_of_without (m := 2) (State.modUnit_frame _ _ _ _ rfl) rfl]),
    (fun k => by unfold State.group; rw [outs_of_without (m := 2) (State.modUnit_frame _ _ _ _ rfl) rfl]),
    (fun k => by unfold State.hb; rw [outs_of_without (m := 2) (State.modUnit_frame _ _ _ _ rfl) rfl]),
    (fun k => by unfold State.svc; rw [body_of_without (m := 2) (State.modUnit_frame _ _ _ _ rfl) rfl]),
    (fun k => by unfold State.valve'; rw [valve_of_without (m := 2) (State.modUnit_frame _ _ _ _ rfl) rfl]),
    (fun k => by unfold State.bank; rw [valve_of_without (m := 2) (State.modUnit_frame _ _ _ _ rfl) rfl]),
    (fun k => by unfold State.boost; rw [valve_of_without (m := 2) (State.modUnit_frame _ _ _ _ rfl) rfl]),
    (fun k => by unfold State.ant; rw [gnss_of_without (m := 2) (State.modUnit_frame _ _ _ _ rfl) rfl]),
    (fun k => by unfold State.modUnit; split <;> rfl),
    (fun k => by unfold State.lin; rw [body_of_without (m := 2) (State.modUnit_frame _ _ _ _ rfl) rfl]),
    (fun k => by unfold State.modUnit; split <;> rfl),
    (fun k => by unfold State.parkSlot; rw [outs_of_without (m := 2) (State.modUnit_frame _ _ _ _ rfl) rfl]),
    (fun k => by unfold State.stud; rw [power_of_without (m := 2) (State.modUnit_frame _ _ _ _ rfl) rfl]),
    (fun k => by unfold State.sensor; rw [thermal_of_without (m := 2) (State.modUnit_frame _ _ _ _ rfl) rfl]),
    (fun k => by unfold State.link; rw [root_of_without (m := 2) (State.modUnit_frame _ _ _ _ rfl) rfl]),
    (fun k => by unfold State.sw; rw [swin_of_without (m := 2) (State.modUnit_frame _ _ _ _ rfl) rfl]),
    (by unfold State.hw; rw [time_of_without (m := 2) (State.modUnit_frame _ _ _ _ rfl) rfl]),
    (by unfold State.variant; rw [part_of_without (m := 2) (State.modUnit_frame _ _ _ _ rfl) rfl]),
    (by unfold State.trunkOn; rw [power_of_without (m := 2) (State.modUnit_frame _ _ _ _ rfl) rfl]),
    (by unfold State.inRun; rw [power_of_without (m := 2) (State.modUnit_frame _ _ _ _ rfl) rfl]),
    (by unfold State.operating; rw [power_of_without (m := 2) (State.modUnit_frame _ _ _ _ rfl) rfl]),
    (by unfold State.parked; rw [power_of_without (m := 2) (State.modUnit_frame _ _ _ _ rfl) rfl]),
    (fun k => by unfold State.modUnit; split <;> rfl),
    (fun k => by unfold State.sig; rw [signals_of_without (m := 2) (State.modUnit_frame _ _ _ _ rfl) rfl])⟩
/-- What `State.waitTo` leaves as it is. -/
@[simp] theorem State.waitTo_leaves (s) (a1) :
    (State.waitTo s a1).part = s.part ∧ (State.waitTo s a1).keeper = s.keeper ∧ (State.waitTo s a1).faults = s.faults ∧
    (State.waitTo s a1).signals = s.signals ∧ (State.waitTo s a1).sensing = s.sensing ∧ (State.waitTo s a1).ctrl = s.ctrl ∧
    (State.waitTo s a1).valve = s.valve ∧ (State.waitTo s a1).gnss = s.gnss ∧ (State.waitTo s a1).imu = s.imu ∧
    (State.waitTo s a1).cam = s.cam ∧ (State.waitTo s a1).crown = s.crown ∧ (State.waitTo s a1).granary = s.granary ∧
    (State.waitTo s a1).outs = s.outs ∧ (State.waitTo s a1).swin = s.swin ∧ (State.waitTo s a1).body = s.body ∧
    (State.waitTo s a1).fans = s.fans ∧ (State.waitTo s a1).plate = s.plate ∧ (State.waitTo s a1).can = s.can ∧
    (State.waitTo s a1).eth = s.eth ∧ (State.waitTo s a1).nm = s.nm ∧ (State.waitTo s a1).root = s.root ∧
    (State.waitTo s a1).graft = s.graft ∧ (State.waitTo s a1).attic = s.attic ∧ (State.waitTo s a1).larder = s.larder ∧
    (State.waitTo s a1).thermal = s.thermal ∧ (State.waitTo s a1).jtag = s.jtag ∧ (State.waitTo s a1).kept = s.kept ∧
    (State.waitTo s a1).keptDirty = s.keptDirty ∧ (State.waitTo s a1).keptAt = s.keptAt ∧ (State.waitTo s a1).free = s.free ∧
    (State.waitTo s a1).pending = s.pending ∧ (∀ k, (State.waitTo s a1).win k = s.win k) ∧
    (∀ k, (State.waitTo s a1).lossCh k = s.lossCh k) ∧ (∀ k, (State.waitTo s a1).bridgeCh k = s.bridgeCh k) ∧
    (∀ k, (State.waitTo s a1).ainCh k = s.ainCh k) ∧ (∀ k, (State.waitTo s a1).freqCh k = s.freqCh k) ∧
    (∀ k, (State.waitTo s a1).supCh k = s.supCh k) ∧ (∀ k, (State.waitTo s a1).canCh k = s.canCh k) ∧
    (∀ k, (State.waitTo s a1).ethPort k = s.ethPort k) ∧ (∀ k, (State.waitTo s a1).net k = s.net k) ∧
    (∀ k, (State.waitTo s a1).port k = s.port k) ∧ (∀ k, (State.waitTo s a1).lamp k = s.lamp k) ∧
    (∀ k, (State.waitTo s a1).slot k = s.slot k) ∧ (∀ k, (State.waitTo s a1).crownUnit k = s.crownUnit k) ∧
    (∀ k, (State.waitTo s a1).loop k = s.loop k) ∧ (∀ k, (State.waitTo s a1).trace k = s.trace k) ∧
    (∀ k, (State.waitTo s a1).lidar k = s.lidar k) ∧ (∀ k, (State.waitTo s a1).ring k = s.ring k) ∧
    (∀ k, (State.waitTo s a1).fan k = s.fan k) ∧ (∀ k, (State.waitTo s a1).out k = s.out k) ∧
    (∀ k, (State.waitTo s a1).group k = s.group k) ∧ (∀ k, (State.waitTo s a1).hb k = s.hb k) ∧
    (∀ k, (State.waitTo s a1).svc k = s.svc k) ∧ (∀ k, (State.waitTo s a1).valve' k = s.valve' k) ∧
    (∀ k, (State.waitTo s a1).bank k = s.bank k) ∧ (∀ k, (State.waitTo s a1).boost k = s.boost k) ∧
    (∀ k, (State.waitTo s a1).ant k = s.ant k) ∧ (∀ k, (State.waitTo s a1).partition k = s.partition k) ∧
    (∀ k, (State.waitTo s a1).lin k = s.lin k) ∧ (∀ k, (State.waitTo s a1).hostFn k = s.hostFn k) ∧
    (∀ k, (State.waitTo s a1).parkSlot k = s.parkSlot k) ∧ (∀ k, (State.waitTo s a1).stud k = s.stud k) ∧
    (∀ k, (State.waitTo s a1).sensor k = s.sensor k) ∧ (∀ k, (State.waitTo s a1).link k = s.link k) ∧
    (∀ k, (State.waitTo s a1).sw k = s.sw k) ∧ (State.waitTo s a1).variant = s.variant ∧
    (State.waitTo s a1).trunkOn = s.trunkOn ∧ (State.waitTo s a1).inRun = s.inRun ∧
    (State.waitTo s a1).operating = s.operating ∧ (State.waitTo s a1).parked = s.parked ∧
    (∀ k, (State.waitTo s a1).decl k = s.decl k) ∧ (∀ k, (State.waitTo s a1).sig k = s.sig k) := by and_intros <;> intros <;> rfl
/-- What `State.modWin` leaves as it is. -/
@[simp] theorem State.modWin_leaves (s) (a1) (a2) :
    (State.modWin s a1 a2).part = s.part ∧ (State.modWin s a1 a2).time = s.time ∧ (State.modWin s a1 a2).faults = s.faults ∧
    (State.modWin s a1 a2).signals = s.signals ∧ (State.modWin s a1 a2).sensing = s.sensing ∧
    (State.modWin s a1 a2).ctrl = s.ctrl ∧ (State.modWin s a1 a2).valve = s.valve ∧ (State.modWin s a1 a2).gnss = s.gnss ∧
    (State.modWin s a1 a2).imu = s.imu ∧ (State.modWin s a1 a2).cam = s.cam ∧ (State.modWin s a1 a2).crown = s.crown ∧
    (State.modWin s a1 a2).granary = s.granary ∧ (State.modWin s a1 a2).outs = s.outs ∧
    (State.modWin s a1 a2).swin = s.swin ∧ (State.modWin s a1 a2).body = s.body ∧ (State.modWin s a1 a2).fans = s.fans ∧
    (State.modWin s a1 a2).plate = s.plate ∧ (State.modWin s a1 a2).can = s.can ∧ (State.modWin s a1 a2).eth = s.eth ∧
    (State.modWin s a1 a2).nm = s.nm ∧ (State.modWin s a1 a2).root = s.root ∧ (State.modWin s a1 a2).graft = s.graft ∧
    (State.modWin s a1 a2).attic = s.attic ∧ (State.modWin s a1 a2).larder = s.larder ∧
    (State.modWin s a1 a2).power = s.power ∧ (State.modWin s a1 a2).thermal = s.thermal ∧
    (State.modWin s a1 a2).jtag = s.jtag ∧ (State.modWin s a1 a2).kept = s.kept ∧
    (State.modWin s a1 a2).keptDirty = s.keptDirty ∧ (State.modWin s a1 a2).keptAt = s.keptAt ∧
    (State.modWin s a1 a2).free = s.free ∧ (State.modWin s a1 a2).pending = s.pending ∧
    (∀ k, (State.modWin s a1 a2).lossCh k = s.lossCh k) ∧ (∀ k, (State.modWin s a1 a2).bridgeCh k = s.bridgeCh k) ∧
    (∀ k, (State.modWin s a1 a2).ainCh k = s.ainCh k) ∧ (∀ k, (State.modWin s a1 a2).freqCh k = s.freqCh k) ∧
    (∀ k, (State.modWin s a1 a2).supCh k = s.supCh k) ∧ (∀ k, (State.modWin s a1 a2).canCh k = s.canCh k) ∧
    (∀ k, (State.modWin s a1 a2).ethPort k = s.ethPort k) ∧ (∀ k, (State.modWin s a1 a2).net k = s.net k) ∧
    (∀ k, (State.modWin s a1 a2).port k = s.port k) ∧ (∀ k, (State.modWin s a1 a2).lamp k = s.lamp k) ∧
    (∀ k, (State.modWin s a1 a2).slot k = s.slot k) ∧ (∀ k, (State.modWin s a1 a2).crownUnit k = s.crownUnit k) ∧
    (∀ k, (State.modWin s a1 a2).loop k = s.loop k) ∧ (∀ k, (State.modWin s a1 a2).trace k = s.trace k) ∧
    (∀ k, (State.modWin s a1 a2).lidar k = s.lidar k) ∧ (∀ k, (State.modWin s a1 a2).ring k = s.ring k) ∧
    (∀ k, (State.modWin s a1 a2).fan k = s.fan k) ∧ (∀ k, (State.modWin s a1 a2).out k = s.out k) ∧
    (∀ k, (State.modWin s a1 a2).group k = s.group k) ∧ (∀ k, (State.modWin s a1 a2).hb k = s.hb k) ∧
    (∀ k, (State.modWin s a1 a2).svc k = s.svc k) ∧ (∀ k, (State.modWin s a1 a2).valve' k = s.valve' k) ∧
    (∀ k, (State.modWin s a1 a2).bank k = s.bank k) ∧ (∀ k, (State.modWin s a1 a2).boost k = s.boost k) ∧
    (∀ k, (State.modWin s a1 a2).ant k = s.ant k) ∧ (∀ k, (State.modWin s a1 a2).partition k = s.partition k) ∧
    (∀ k, (State.modWin s a1 a2).lin k = s.lin k) ∧ (∀ k, (State.modWin s a1 a2).hostFn k = s.hostFn k) ∧
    (∀ k, (State.modWin s a1 a2).parkSlot k = s.parkSlot k) ∧ (∀ k, (State.modWin s a1 a2).stud k = s.stud k) ∧
    (∀ k, (State.modWin s a1 a2).sensor k = s.sensor k) ∧ (∀ k, (State.modWin s a1 a2).link k = s.link k) ∧
    (∀ k, (State.modWin s a1 a2).sw k = s.sw k) ∧ (State.modWin s a1 a2).hw = s.hw ∧
    (State.modWin s a1 a2).variant = s.variant ∧ (State.modWin s a1 a2).trunkOn = s.trunkOn ∧
    (State.modWin s a1 a2).inRun = s.inRun ∧ (State.modWin s a1 a2).operating = s.operating ∧
    (State.modWin s a1 a2).parked = s.parked ∧ (∀ k, (State.modWin s a1 a2).decl k = s.decl k) ∧
    (∀ k, (State.modWin s a1 a2).sig k = s.sig k) := by and_intros <;> intros <;> rfl
/-- What `State.modRegion` leaves as it is. -/
@[simp] theorem State.modRegion_leaves (s) (a1) (a2) (a3) :
    (State.modRegion s a1 a2 a3).part = s.part ∧ (State.modRegion s a1 a2 a3).time = s.time ∧
    (State.modRegion s a1 a2 a3).faults = s.faults ∧ (State.modRegion s a1 a2 a3).signals = s.signals ∧
    (State.modRegion s a1 a2 a3).sensing = s.sensing ∧ (State.modRegion s a1 a2 a3).ctrl = s.ctrl ∧
    (State.modRegion s a1 a2 a3).valve = s.valve ∧ (State.modRegion s a1 a2 a3).gnss = s.gnss ∧
    (State.modRegion s a1 a2 a3).imu = s.imu ∧ (State.modRegion s a1 a2 a3).cam = s.cam ∧
    (State.modRegion s a1 a2 a3).crown = s.crown ∧ (State.modRegion s a1 a2 a3).granary = s.granary ∧
    (State.modRegion s a1 a2 a3).outs = s.outs ∧ (State.modRegion s a1 a2 a3).swin = s.swin ∧
    (State.modRegion s a1 a2 a3).body = s.body ∧ (State.modRegion s a1 a2 a3).fans = s.fans ∧
    (State.modRegion s a1 a2 a3).plate = s.plate ∧ (State.modRegion s a1 a2 a3).can = s.can ∧
    (State.modRegion s a1 a2 a3).eth = s.eth ∧ (State.modRegion s a1 a2 a3).nm = s.nm ∧
    (State.modRegion s a1 a2 a3).root = s.root ∧ (State.modRegion s a1 a2 a3).graft = s.graft ∧
    (State.modRegion s a1 a2 a3).attic = s.attic ∧ (State.modRegion s a1 a2 a3).larder = s.larder ∧
    (State.modRegion s a1 a2 a3).power = s.power ∧ (State.modRegion s a1 a2 a3).thermal = s.thermal ∧
    (State.modRegion s a1 a2 a3).jtag = s.jtag ∧ (State.modRegion s a1 a2 a3).kept = s.kept ∧
    (State.modRegion s a1 a2 a3).keptDirty = s.keptDirty ∧ (State.modRegion s a1 a2 a3).keptAt = s.keptAt ∧
    (State.modRegion s a1 a2 a3).free = s.free ∧ (State.modRegion s a1 a2 a3).pending = s.pending ∧
    (∀ k, (State.modRegion s a1 a2 a3).lossCh k = s.lossCh k) ∧
    (∀ k, (State.modRegion s a1 a2 a3).bridgeCh k = s.bridgeCh k) ∧ (∀ k, (State.modRegion s a1 a2 a3).ainCh k = s.ainCh k) ∧
    (∀ k, (State.modRegion s a1 a2 a3).freqCh k = s.freqCh k) ∧ (∀ k, (State.modRegion s a1 a2 a3).supCh k = s.supCh k) ∧
    (∀ k, (State.modRegion s a1 a2 a3).canCh k = s.canCh k) ∧ (∀ k, (State.modRegion s a1 a2 a3).ethPort k = s.ethPort k) ∧
    (∀ k, (State.modRegion s a1 a2 a3).net k = s.net k) ∧ (∀ k, (State.modRegion s a1 a2 a3).port k = s.port k) ∧
    (∀ k, (State.modRegion s a1 a2 a3).lamp k = s.lamp k) ∧ (∀ k, (State.modRegion s a1 a2 a3).slot k = s.slot k) ∧
    (∀ k, (State.modRegion s a1 a2 a3).crownUnit k = s.crownUnit k) ∧ (∀ k, (State.modRegion s a1 a2 a3).loop k = s.loop k) ∧
    (∀ k, (State.modRegion s a1 a2 a3).trace k = s.trace k) ∧ (∀ k, (State.modRegion s a1 a2 a3).lidar k = s.lidar k) ∧
    (∀ k, (State.modRegion s a1 a2 a3).ring k = s.ring k) ∧ (∀ k, (State.modRegion s a1 a2 a3).fan k = s.fan k) ∧
    (∀ k, (State.modRegion s a1 a2 a3).out k = s.out k) ∧ (∀ k, (State.modRegion s a1 a2 a3).group k = s.group k) ∧
    (∀ k, (State.modRegion s a1 a2 a3).hb k = s.hb k) ∧ (∀ k, (State.modRegion s a1 a2 a3).svc k = s.svc k) ∧
    (∀ k, (State.modRegion s a1 a2 a3).valve' k = s.valve' k) ∧ (∀ k, (State.modRegion s a1 a2 a3).bank k = s.bank k) ∧
    (∀ k, (State.modRegion s a1 a2 a3).boost k = s.boost k) ∧ (∀ k, (State.modRegion s a1 a2 a3).ant k = s.ant k) ∧
    (∀ k, (State.modRegion s a1 a2 a3).partition k = s.partition k) ∧ (∀ k, (State.modRegion s a1 a2 a3).lin k = s.lin k) ∧
    (∀ k, (State.modRegion s a1 a2 a3).hostFn k = s.hostFn k) ∧
    (∀ k, (State.modRegion s a1 a2 a3).parkSlot k = s.parkSlot k) ∧ (∀ k, (State.modRegion s a1 a2 a3).stud k = s.stud k) ∧
    (∀ k, (State.modRegion s a1 a2 a3).sensor k = s.sensor k) ∧ (∀ k, (State.modRegion s a1 a2 a3).link k = s.link k) ∧
    (∀ k, (State.modRegion s a1 a2 a3).sw k = s.sw k) ∧ (State.modRegion s a1 a2 a3).hw = s.hw ∧
    (State.modRegion s a1 a2 a3).variant = s.variant ∧ (State.modRegion s a1 a2 a3).trunkOn = s.trunkOn ∧
    (State.modRegion s a1 a2 a3).inRun = s.inRun ∧ (State.modRegion s a1 a2 a3).operating = s.operating ∧
    (State.modRegion s a1 a2 a3).parked = s.parked ∧ (∀ k, (State.modRegion s a1 a2 a3).decl k = s.decl k) ∧
    (∀ k, (State.modRegion s a1 a2 a3).sig k = s.sig k) := by and_intros <;> intros <;> rfl
/-- What `State.modHost` leaves as it is. -/
@[simp] theorem State.modHost_leaves (s) (a1) (a2) :
    (State.modHost s a1 a2).part = s.part ∧ (State.modHost s a1 a2).time = s.time ∧
    (State.modHost s a1 a2).faults = s.faults ∧ (State.modHost s a1 a2).signals = s.signals ∧
    (State.modHost s a1 a2).sensing = s.sensing ∧ (State.modHost s a1 a2).ctrl = s.ctrl ∧
    (State.modHost s a1 a2).valve = s.valve ∧ (State.modHost s a1 a2).gnss = s.gnss ∧ (State.modHost s a1 a2).imu = s.imu ∧
    (State.modHost s a1 a2).cam = s.cam ∧ (State.modHost s a1 a2).crown = s.crown ∧
    (State.modHost s a1 a2).granary = s.granary ∧ (State.modHost s a1 a2).outs = s.outs ∧
    (State.modHost s a1 a2).swin = s.swin ∧ (State.modHost s a1 a2).body = s.body ∧ (State.modHost s a1 a2).fans = s.fans ∧
    (State.modHost s a1 a2).plate = s.plate ∧ (State.modHost s a1 a2).can = s.can ∧ (State.modHost s a1 a2).eth = s.eth ∧
    (State.modHost s a1 a2).nm = s.nm ∧ (State.modHost s a1 a2).root = s.root ∧ (State.modHost s a1 a2).graft = s.graft ∧
    (State.modHost s a1 a2).attic = s.attic ∧ (State.modHost s a1 a2).larder = s.larder ∧
    (State.modHost s a1 a2).power = s.power ∧ (State.modHost s a1 a2).thermal = s.thermal ∧
    (State.modHost s a1 a2).jtag = s.jtag ∧ (State.modHost s a1 a2).kept = s.kept ∧
    (State.modHost s a1 a2).keptDirty = s.keptDirty ∧ (State.modHost s a1 a2).keptAt = s.keptAt ∧
    (State.modHost s a1 a2).free = s.free ∧ (State.modHost s a1 a2).pending = s.pending ∧
    (∀ k, (State.modHost s a1 a2).win k = s.win k) ∧ (∀ k, (State.modHost s a1 a2).lossCh k = s.lossCh k) ∧
    (∀ k, (State.modHost s a1 a2).bridgeCh k = s.bridgeCh k) ∧ (∀ k, (State.modHost s a1 a2).ainCh k = s.ainCh k) ∧
    (∀ k, (State.modHost s a1 a2).freqCh k = s.freqCh k) ∧ (∀ k, (State.modHost s a1 a2).supCh k = s.supCh k) ∧
    (∀ k, (State.modHost s a1 a2).canCh k = s.canCh k) ∧ (∀ k, (State.modHost s a1 a2).ethPort k = s.ethPort k) ∧
    (∀ k, (State.modHost s a1 a2).net k = s.net k) ∧ (∀ k, (State.modHost s a1 a2).port k = s.port k) ∧
    (∀ k, (State.modHost s a1 a2).lamp k = s.lamp k) ∧ (∀ k, (State.modHost s a1 a2).slot k = s.slot k) ∧
    (∀ k, (State.modHost s a1 a2).crownUnit k = s.crownUnit k) ∧ (∀ k, (State.modHost s a1 a2).loop k = s.loop k) ∧
    (∀ k, (State.modHost s a1 a2).trace k = s.trace k) ∧ (∀ k, (State.modHost s a1 a2).lidar k = s.lidar k) ∧
    (∀ k, (State.modHost s a1 a2).ring k = s.ring k) ∧ (∀ k, (State.modHost s a1 a2).fan k = s.fan k) ∧
    (∀ k, (State.modHost s a1 a2).out k = s.out k) ∧ (∀ k, (State.modHost s a1 a2).group k = s.group k) ∧
    (∀ k, (State.modHost s a1 a2).hb k = s.hb k) ∧ (∀ k, (State.modHost s a1 a2).svc k = s.svc k) ∧
    (∀ k, (State.modHost s a1 a2).valve' k = s.valve' k) ∧ (∀ k, (State.modHost s a1 a2).bank k = s.bank k) ∧
    (∀ k, (State.modHost s a1 a2).boost k = s.boost k) ∧ (∀ k, (State.modHost s a1 a2).ant k = s.ant k) ∧
    (∀ k, (State.modHost s a1 a2).partition k = s.partition k) ∧ (∀ k, (State.modHost s a1 a2).lin k = s.lin k) ∧
    (∀ k, (State.modHost s a1 a2).parkSlot k = s.parkSlot k) ∧ (∀ k, (State.modHost s a1 a2).stud k = s.stud k) ∧
    (∀ k, (State.modHost s a1 a2).sensor k = s.sensor k) ∧ (∀ k, (State.modHost s a1 a2).link k = s.link k) ∧
    (∀ k, (State.modHost s a1 a2).sw k = s.sw k) ∧ (State.modHost s a1 a2).hw = s.hw ∧
    (State.modHost s a1 a2).variant = s.variant ∧ (State.modHost s a1 a2).trunkOn = s.trunkOn ∧
    (State.modHost s a1 a2).inRun = s.inRun ∧ (State.modHost s a1 a2).operating = s.operating ∧
    (State.modHost s a1 a2).parked = s.parked ∧ (∀ k, (State.modHost s a1 a2).decl k = s.decl k) ∧
    (∀ k, (State.modHost s a1 a2).sig k = s.sig k) := by and_intros <;> intros <;> rfl
/-- What `State.modSense` leaves as it is. -/
@[simp] theorem State.modSense_leaves (s) (a1) :
    (State.modSense s a1).part = s.part ∧ (State.modSense s a1).keeper = s.keeper ∧ (State.modSense s a1).time = s.time ∧
    (State.modSense s a1).faults = s.faults ∧ (State.modSense s a1).signals = s.signals ∧
    (State.modSense s a1).ctrl = s.ctrl ∧ (State.modSense s a1).valve = s.valve ∧ (State.modSense s a1).gnss = s.gnss ∧
    (State.modSense s a1).imu = s.imu ∧ (State.modSense s a1).cam = s.cam ∧ (State.modSense s a1).crown = s.crown ∧
    (State.modSense s a1).granary = s.granary ∧ (State.modSense s a1).outs = s.outs ∧ (State.modSense s a1).swin = s.swin ∧
    (State.modSense s a1).body = s.body ∧ (State.modSense s a1).fans = s.fans ∧ (State.modSense s a1).plate = s.plate ∧
    (State.modSense s a1).can = s.can ∧ (State.modSense s a1).eth = s.eth ∧ (State.modSense s a1).nm = s.nm ∧
    (State.modSense s a1).root = s.root ∧ (State.modSense s a1).graft = s.graft ∧ (State.modSense s a1).attic = s.attic ∧
    (State.modSense s a1).larder = s.larder ∧ (State.modSense s a1).power = s.power ∧
    (State.modSense s a1).thermal = s.thermal ∧ (State.modSense s a1).jtag = s.jtag ∧ (State.modSense s a1).kept = s.kept ∧
    (State.modSense s a1).keptDirty = s.keptDirty ∧ (State.modSense s a1).keptAt = s.keptAt ∧
    (State.modSense s a1).free = s.free ∧ (State.modSense s a1).pending = s.pending ∧
    (∀ k, (State.modSense s a1).win k = s.win k) ∧ (∀ k, (State.modSense s a1).canCh k = s.canCh k) ∧
    (∀ k, (State.modSense s a1).ethPort k = s.ethPort k) ∧ (∀ k, (State.modSense s a1).net k = s.net k) ∧
    (∀ k, (State.modSense s a1).port k = s.port k) ∧ (∀ k, (State.modSense s a1).lamp k = s.lamp k) ∧
    (∀ k, (State.modSense s a1).slot k = s.slot k) ∧ (∀ k, (State.modSense s a1).crownUnit k = s.crownUnit k) ∧
    (∀ k, (State.modSense s a1).loop k = s.loop k) ∧ (∀ k, (State.modSense s a1).trace k = s.trace k) ∧
    (∀ k, (State.modSense s a1).lidar k = s.lidar k) ∧ (∀ k, (State.modSense s a1).ring k = s.ring k) ∧
    (∀ k, (State.modSense s a1).fan k = s.fan k) ∧ (∀ k, (State.modSense s a1).out k = s.out k) ∧
    (∀ k, (State.modSense s a1).group k = s.group k) ∧ (∀ k, (State.modSense s a1).hb k = s.hb k) ∧
    (∀ k, (State.modSense s a1).svc k = s.svc k) ∧ (∀ k, (State.modSense s a1).valve' k = s.valve' k) ∧
    (∀ k, (State.modSense s a1).bank k = s.bank k) ∧ (∀ k, (State.modSense s a1).boost k = s.boost k) ∧
    (∀ k, (State.modSense s a1).ant k = s.ant k) ∧ (∀ k, (State.modSense s a1).partition k = s.partition k) ∧
    (∀ k, (State.modSense s a1).lin k = s.lin k) ∧ (∀ k, (State.modSense s a1).hostFn k = s.hostFn k) ∧
    (∀ k, (State.modSense s a1).parkSlot k = s.parkSlot k) ∧ (∀ k, (State.modSense s a1).stud k = s.stud k) ∧
    (∀ k, (State.modSense s a1).sensor k = s.sensor k) ∧ (∀ k, (State.modSense s a1).link k = s.link k) ∧
    (∀ k, (State.modSense s a1).sw k = s.sw k) ∧ (State.modSense s a1).hw = s.hw ∧
    (State.modSense s a1).variant = s.variant ∧ (State.modSense s a1).trunkOn = s.trunkOn ∧
    (State.modSense s a1).inRun = s.inRun ∧ (State.modSense s a1).operating = s.operating ∧
    (State.modSense s a1).parked = s.parked ∧ (∀ k, (State.modSense s a1).decl k = s.decl k) ∧
    (∀ k, (State.modSense s a1).sig k = s.sig k) := by and_intros <;> intros <;> rfl
/-- What `State.modLoss` leaves as it is. -/
@[simp] theorem State.modLoss_leaves (s) (a1) (a2) :
    (State.modLoss s a1 a2).part = s.part ∧ (State.modLoss s a1 a2).keeper = s.keeper ∧
    (State.modLoss s a1 a2).time = s.time ∧ (State.modLoss s a1 a2).faults = s.faults ∧
    (State.modLoss s a1 a2).signals = s.signals ∧ (State.modLoss s a1 a2).ctrl = s.ctrl ∧
    (State.modLoss s a1 a2).valve = s.valve ∧ (State.modLoss s a1 a2).gnss = s.gnss ∧ (State.modLoss s a1 a2).imu = s.imu ∧
    (State.modLoss s a1 a2).cam = s.cam ∧ (State.modLoss s a1 a2).crown = s.crown ∧
    (State.modLoss s a1 a2).granary = s.granary ∧ (State.modLoss s a1 a2).outs = s.outs ∧
    (State.modLoss s a1 a2).swin = s.swin ∧ (State.modLoss s a1 a2).body = s.body ∧ (State.modLoss s a1 a2).fans = s.fans ∧
    (State.modLoss s a1 a2).plate = s.plate ∧ (State.modLoss s a1 a2).can = s.can ∧ (State.modLoss s a1 a2).eth = s.eth ∧
    (State.modLoss s a1 a2).nm = s.nm ∧ (State.modLoss s a1 a2).root = s.root ∧ (State.modLoss s a1 a2).graft = s.graft ∧
    (State.modLoss s a1 a2).attic = s.attic ∧ (State.modLoss s a1 a2).larder = s.larder ∧
    (State.modLoss s a1 a2).power = s.power ∧ (State.modLoss s a1 a2).thermal = s.thermal ∧
    (State.modLoss s a1 a2).jtag = s.jtag ∧ (State.modLoss s a1 a2).kept = s.kept ∧
    (State.modLoss s a1 a2).keptDirty = s.keptDirty ∧ (State.modLoss s a1 a2).keptAt = s.keptAt ∧
    (State.modLoss s a1 a2).free = s.free ∧ (State.modLoss s a1 a2).pending = s.pending ∧
    (∀ k, (State.modLoss s a1 a2).win k = s.win k) ∧ (∀ k, (State.modLoss s a1 a2).bridgeCh k = s.bridgeCh k) ∧
    (∀ k, (State.modLoss s a1 a2).ainCh k = s.ainCh k) ∧ (∀ k, (State.modLoss s a1 a2).freqCh k = s.freqCh k) ∧
    (∀ k, (State.modLoss s a1 a2).supCh k = s.supCh k) ∧ (∀ k, (State.modLoss s a1 a2).canCh k = s.canCh k) ∧
    (∀ k, (State.modLoss s a1 a2).ethPort k = s.ethPort k) ∧ (∀ k, (State.modLoss s a1 a2).net k = s.net k) ∧
    (∀ k, (State.modLoss s a1 a2).port k = s.port k) ∧ (∀ k, (State.modLoss s a1 a2).lamp k = s.lamp k) ∧
    (∀ k, (State.modLoss s a1 a2).slot k = s.slot k) ∧ (∀ k, (State.modLoss s a1 a2).crownUnit k = s.crownUnit k) ∧
    (∀ k, (State.modLoss s a1 a2).loop k = s.loop k) ∧ (∀ k, (State.modLoss s a1 a2).trace k = s.trace k) ∧
    (∀ k, (State.modLoss s a1 a2).lidar k = s.lidar k) ∧ (∀ k, (State.modLoss s a1 a2).ring k = s.ring k) ∧
    (∀ k, (State.modLoss s a1 a2).fan k = s.fan k) ∧ (∀ k, (State.modLoss s a1 a2).out k = s.out k) ∧
    (∀ k, (State.modLoss s a1 a2).group k = s.group k) ∧ (∀ k, (State.modLoss s a1 a2).hb k = s.hb k) ∧
    (∀ k, (State.modLoss s a1 a2).svc k = s.svc k) ∧ (∀ k, (State.modLoss s a1 a2).valve' k = s.valve' k) ∧
    (∀ k, (State.modLoss s a1 a2).bank k = s.bank k) ∧ (∀ k, (State.modLoss s a1 a2).boost k = s.boost k) ∧
    (∀ k, (State.modLoss s a1 a2).ant k = s.ant k) ∧ (∀ k, (State.modLoss s a1 a2).partition k = s.partition k) ∧
    (∀ k, (State.modLoss s a1 a2).lin k = s.lin k) ∧ (∀ k, (State.modLoss s a1 a2).hostFn k = s.hostFn k) ∧
    (∀ k, (State.modLoss s a1 a2).parkSlot k = s.parkSlot k) ∧ (∀ k, (State.modLoss s a1 a2).stud k = s.stud k) ∧
    (∀ k, (State.modLoss s a1 a2).sensor k = s.sensor k) ∧ (∀ k, (State.modLoss s a1 a2).link k = s.link k) ∧
    (∀ k, (State.modLoss s a1 a2).sw k = s.sw k) ∧ (State.modLoss s a1 a2).hw = s.hw ∧
    (State.modLoss s a1 a2).variant = s.variant ∧ (State.modLoss s a1 a2).trunkOn = s.trunkOn ∧
    (State.modLoss s a1 a2).inRun = s.inRun ∧ (State.modLoss s a1 a2).operating = s.operating ∧
    (State.modLoss s a1 a2).parked = s.parked ∧ (∀ k, (State.modLoss s a1 a2).decl k = s.decl k) ∧
    (∀ k, (State.modLoss s a1 a2).sig k = s.sig k) := by and_intros <;> intros <;> rfl
/-- What `State.modBridge` leaves as it is. -/
@[simp] theorem State.modBridge_leaves (s) (a1) (a2) :
    (State.modBridge s a1 a2).part = s.part ∧ (State.modBridge s a1 a2).keeper = s.keeper ∧
    (State.modBridge s a1 a2).time = s.time ∧ (State.modBridge s a1 a2).faults = s.faults ∧
    (State.modBridge s a1 a2).signals = s.signals ∧ (State.modBridge s a1 a2).ctrl = s.ctrl ∧
    (State.modBridge s a1 a2).valve = s.valve ∧ (State.modBridge s a1 a2).gnss = s.gnss ∧
    (State.modBridge s a1 a2).imu = s.imu ∧ (State.modBridge s a1 a2).cam = s.cam ∧
    (State.modBridge s a1 a2).crown = s.crown ∧ (State.modBridge s a1 a2).granary = s.granary ∧
    (State.modBridge s a1 a2).outs = s.outs ∧ (State.modBridge s a1 a2).swin = s.swin ∧
    (State.modBridge s a1 a2).body = s.body ∧ (State.modBridge s a1 a2).fans = s.fans ∧
    (State.modBridge s a1 a2).plate = s.plate ∧ (State.modBridge s a1 a2).can = s.can ∧
    (State.modBridge s a1 a2).eth = s.eth ∧ (State.modBridge s a1 a2).nm = s.nm ∧ (State.modBridge s a1 a2).root = s.root ∧
    (State.modBridge s a1 a2).graft = s.graft ∧ (State.modBridge s a1 a2).attic = s.attic ∧
    (State.modBridge s a1 a2).larder = s.larder ∧ (State.modBridge s a1 a2).power = s.power ∧
    (State.modBridge s a1 a2).thermal = s.thermal ∧ (State.modBridge s a1 a2).jtag = s.jtag ∧
    (State.modBridge s a1 a2).kept = s.kept ∧ (State.modBridge s a1 a2).keptDirty = s.keptDirty ∧
    (State.modBridge s a1 a2).keptAt = s.keptAt ∧ (State.modBridge s a1 a2).free = s.free ∧
    (State.modBridge s a1 a2).pending = s.pending ∧ (∀ k, (State.modBridge s a1 a2).win k = s.win k) ∧
    (∀ k, (State.modBridge s a1 a2).lossCh k = s.lossCh k) ∧ (∀ k, (State.modBridge s a1 a2).ainCh k = s.ainCh k) ∧
    (∀ k, (State.modBridge s a1 a2).freqCh k = s.freqCh k) ∧ (∀ k, (State.modBridge s a1 a2).supCh k = s.supCh k) ∧
    (∀ k, (State.modBridge s a1 a2).canCh k = s.canCh k) ∧ (∀ k, (State.modBridge s a1 a2).ethPort k = s.ethPort k) ∧
    (∀ k, (State.modBridge s a1 a2).net k = s.net k) ∧ (∀ k, (State.modBridge s a1 a2).port k = s.port k) ∧
    (∀ k, (State.modBridge s a1 a2).lamp k = s.lamp k) ∧ (∀ k, (State.modBridge s a1 a2).slot k = s.slot k) ∧
    (∀ k, (State.modBridge s a1 a2).crownUnit k = s.crownUnit k) ∧ (∀ k, (State.modBridge s a1 a2).loop k = s.loop k) ∧
    (∀ k, (State.modBridge s a1 a2).trace k = s.trace k) ∧ (∀ k, (State.modBridge s a1 a2).lidar k = s.lidar k) ∧
    (∀ k, (State.modBridge s a1 a2).ring k = s.ring k) ∧ (∀ k, (State.modBridge s a1 a2).fan k = s.fan k) ∧
    (∀ k, (State.modBridge s a1 a2).out k = s.out k) ∧ (∀ k, (State.modBridge s a1 a2).group k = s.group k) ∧
    (∀ k, (State.modBridge s a1 a2).hb k = s.hb k) ∧ (∀ k, (State.modBridge s a1 a2).svc k = s.svc k) ∧
    (∀ k, (State.modBridge s a1 a2).valve' k = s.valve' k) ∧ (∀ k, (State.modBridge s a1 a2).bank k = s.bank k) ∧
    (∀ k, (State.modBridge s a1 a2).boost k = s.boost k) ∧ (∀ k, (State.modBridge s a1 a2).ant k = s.ant k) ∧
    (∀ k, (State.modBridge s a1 a2).partition k = s.partition k) ∧ (∀ k, (State.modBridge s a1 a2).lin k = s.lin k) ∧
    (∀ k, (State.modBridge s a1 a2).hostFn k = s.hostFn k) ∧ (∀ k, (State.modBridge s a1 a2).parkSlot k = s.parkSlot k) ∧
    (∀ k, (State.modBridge s a1 a2).stud k = s.stud k) ∧ (∀ k, (State.modBridge s a1 a2).sensor k = s.sensor k) ∧
    (∀ k, (State.modBridge s a1 a2).link k = s.link k) ∧ (∀ k, (State.modBridge s a1 a2).sw k = s.sw k) ∧
    (State.modBridge s a1 a2).hw = s.hw ∧ (State.modBridge s a1 a2).variant = s.variant ∧
    (State.modBridge s a1 a2).trunkOn = s.trunkOn ∧ (State.modBridge s a1 a2).inRun = s.inRun ∧
    (State.modBridge s a1 a2).operating = s.operating ∧ (State.modBridge s a1 a2).parked = s.parked ∧
    (∀ k, (State.modBridge s a1 a2).decl k = s.decl k) ∧ (∀ k, (State.modBridge s a1 a2).sig k = s.sig k) := by and_intros <;> intros <;> rfl
/-- What `State.modAin` leaves as it is. -/
@[simp] theorem State.modAin_leaves (s) (a1) (a2) :
    (State.modAin s a1 a2).part = s.part ∧ (State.modAin s a1 a2).keeper = s.keeper ∧ (State.modAin s a1 a2).time = s.time ∧
    (State.modAin s a1 a2).faults = s.faults ∧ (State.modAin s a1 a2).signals = s.signals ∧
    (State.modAin s a1 a2).ctrl = s.ctrl ∧ (State.modAin s a1 a2).valve = s.valve ∧ (State.modAin s a1 a2).gnss = s.gnss ∧
    (State.modAin s a1 a2).imu = s.imu ∧ (State.modAin s a1 a2).cam = s.cam ∧ (State.modAin s a1 a2).crown = s.crown ∧
    (State.modAin s a1 a2).granary = s.granary ∧ (State.modAin s a1 a2).outs = s.outs ∧
    (State.modAin s a1 a2).swin = s.swin ∧ (State.modAin s a1 a2).body = s.body ∧ (State.modAin s a1 a2).fans = s.fans ∧
    (State.modAin s a1 a2).plate = s.plate ∧ (State.modAin s a1 a2).can = s.can ∧ (State.modAin s a1 a2).eth = s.eth ∧
    (State.modAin s a1 a2).nm = s.nm ∧ (State.modAin s a1 a2).root = s.root ∧ (State.modAin s a1 a2).graft = s.graft ∧
    (State.modAin s a1 a2).attic = s.attic ∧ (State.modAin s a1 a2).larder = s.larder ∧
    (State.modAin s a1 a2).power = s.power ∧ (State.modAin s a1 a2).thermal = s.thermal ∧
    (State.modAin s a1 a2).jtag = s.jtag ∧ (State.modAin s a1 a2).kept = s.kept ∧
    (State.modAin s a1 a2).keptDirty = s.keptDirty ∧ (State.modAin s a1 a2).keptAt = s.keptAt ∧
    (State.modAin s a1 a2).free = s.free ∧ (State.modAin s a1 a2).pending = s.pending ∧
    (∀ k, (State.modAin s a1 a2).win k = s.win k) ∧ (∀ k, (State.modAin s a1 a2).lossCh k = s.lossCh k) ∧
    (∀ k, (State.modAin s a1 a2).bridgeCh k = s.bridgeCh k) ∧ (∀ k, (State.modAin s a1 a2).freqCh k = s.freqCh k) ∧
    (∀ k, (State.modAin s a1 a2).supCh k = s.supCh k) ∧ (∀ k, (State.modAin s a1 a2).canCh k = s.canCh k) ∧
    (∀ k, (State.modAin s a1 a2).ethPort k = s.ethPort k) ∧ (∀ k, (State.modAin s a1 a2).net k = s.net k) ∧
    (∀ k, (State.modAin s a1 a2).port k = s.port k) ∧ (∀ k, (State.modAin s a1 a2).lamp k = s.lamp k) ∧
    (∀ k, (State.modAin s a1 a2).slot k = s.slot k) ∧ (∀ k, (State.modAin s a1 a2).crownUnit k = s.crownUnit k) ∧
    (∀ k, (State.modAin s a1 a2).loop k = s.loop k) ∧ (∀ k, (State.modAin s a1 a2).trace k = s.trace k) ∧
    (∀ k, (State.modAin s a1 a2).lidar k = s.lidar k) ∧ (∀ k, (State.modAin s a1 a2).ring k = s.ring k) ∧
    (∀ k, (State.modAin s a1 a2).fan k = s.fan k) ∧ (∀ k, (State.modAin s a1 a2).out k = s.out k) ∧
    (∀ k, (State.modAin s a1 a2).group k = s.group k) ∧ (∀ k, (State.modAin s a1 a2).hb k = s.hb k) ∧
    (∀ k, (State.modAin s a1 a2).svc k = s.svc k) ∧ (∀ k, (State.modAin s a1 a2).valve' k = s.valve' k) ∧
    (∀ k, (State.modAin s a1 a2).bank k = s.bank k) ∧ (∀ k, (State.modAin s a1 a2).boost k = s.boost k) ∧
    (∀ k, (State.modAin s a1 a2).ant k = s.ant k) ∧ (∀ k, (State.modAin s a1 a2).partition k = s.partition k) ∧
    (∀ k, (State.modAin s a1 a2).lin k = s.lin k) ∧ (∀ k, (State.modAin s a1 a2).hostFn k = s.hostFn k) ∧
    (∀ k, (State.modAin s a1 a2).parkSlot k = s.parkSlot k) ∧ (∀ k, (State.modAin s a1 a2).stud k = s.stud k) ∧
    (∀ k, (State.modAin s a1 a2).sensor k = s.sensor k) ∧ (∀ k, (State.modAin s a1 a2).link k = s.link k) ∧
    (∀ k, (State.modAin s a1 a2).sw k = s.sw k) ∧ (State.modAin s a1 a2).hw = s.hw ∧
    (State.modAin s a1 a2).variant = s.variant ∧ (State.modAin s a1 a2).trunkOn = s.trunkOn ∧
    (State.modAin s a1 a2).inRun = s.inRun ∧ (State.modAin s a1 a2).operating = s.operating ∧
    (State.modAin s a1 a2).parked = s.parked ∧ (∀ k, (State.modAin s a1 a2).decl k = s.decl k) ∧
    (∀ k, (State.modAin s a1 a2).sig k = s.sig k) := by and_intros <;> intros <;> rfl
/-- What `State.modFreq` leaves as it is. -/
@[simp] theorem State.modFreq_leaves (s) (a1) (a2) :
    (State.modFreq s a1 a2).part = s.part ∧ (State.modFreq s a1 a2).keeper = s.keeper ∧
    (State.modFreq s a1 a2).time = s.time ∧ (State.modFreq s a1 a2).faults = s.faults ∧
    (State.modFreq s a1 a2).signals = s.signals ∧ (State.modFreq s a1 a2).ctrl = s.ctrl ∧
    (State.modFreq s a1 a2).valve = s.valve ∧ (State.modFreq s a1 a2).gnss = s.gnss ∧ (State.modFreq s a1 a2).imu = s.imu ∧
    (State.modFreq s a1 a2).cam = s.cam ∧ (State.modFreq s a1 a2).crown = s.crown ∧
    (State.modFreq s a1 a2).granary = s.granary ∧ (State.modFreq s a1 a2).outs = s.outs ∧
    (State.modFreq s a1 a2).swin = s.swin ∧ (State.modFreq s a1 a2).body = s.body ∧ (State.modFreq s a1 a2).fans = s.fans ∧
    (State.modFreq s a1 a2).plate = s.plate ∧ (State.modFreq s a1 a2).can = s.can ∧ (State.modFreq s a1 a2).eth = s.eth ∧
    (State.modFreq s a1 a2).nm = s.nm ∧ (State.modFreq s a1 a2).root = s.root ∧ (State.modFreq s a1 a2).graft = s.graft ∧
    (State.modFreq s a1 a2).attic = s.attic ∧ (State.modFreq s a1 a2).larder = s.larder ∧
    (State.modFreq s a1 a2).power = s.power ∧ (State.modFreq s a1 a2).thermal = s.thermal ∧
    (State.modFreq s a1 a2).jtag = s.jtag ∧ (State.modFreq s a1 a2).kept = s.kept ∧
    (State.modFreq s a1 a2).keptDirty = s.keptDirty ∧ (State.modFreq s a1 a2).keptAt = s.keptAt ∧
    (State.modFreq s a1 a2).free = s.free ∧ (State.modFreq s a1 a2).pending = s.pending ∧
    (∀ k, (State.modFreq s a1 a2).win k = s.win k) ∧ (∀ k, (State.modFreq s a1 a2).lossCh k = s.lossCh k) ∧
    (∀ k, (State.modFreq s a1 a2).bridgeCh k = s.bridgeCh k) ∧ (∀ k, (State.modFreq s a1 a2).ainCh k = s.ainCh k) ∧
    (∀ k, (State.modFreq s a1 a2).supCh k = s.supCh k) ∧ (∀ k, (State.modFreq s a1 a2).canCh k = s.canCh k) ∧
    (∀ k, (State.modFreq s a1 a2).ethPort k = s.ethPort k) ∧ (∀ k, (State.modFreq s a1 a2).net k = s.net k) ∧
    (∀ k, (State.modFreq s a1 a2).port k = s.port k) ∧ (∀ k, (State.modFreq s a1 a2).lamp k = s.lamp k) ∧
    (∀ k, (State.modFreq s a1 a2).slot k = s.slot k) ∧ (∀ k, (State.modFreq s a1 a2).crownUnit k = s.crownUnit k) ∧
    (∀ k, (State.modFreq s a1 a2).loop k = s.loop k) ∧ (∀ k, (State.modFreq s a1 a2).trace k = s.trace k) ∧
    (∀ k, (State.modFreq s a1 a2).lidar k = s.lidar k) ∧ (∀ k, (State.modFreq s a1 a2).ring k = s.ring k) ∧
    (∀ k, (State.modFreq s a1 a2).fan k = s.fan k) ∧ (∀ k, (State.modFreq s a1 a2).out k = s.out k) ∧
    (∀ k, (State.modFreq s a1 a2).group k = s.group k) ∧ (∀ k, (State.modFreq s a1 a2).hb k = s.hb k) ∧
    (∀ k, (State.modFreq s a1 a2).svc k = s.svc k) ∧ (∀ k, (State.modFreq s a1 a2).valve' k = s.valve' k) ∧
    (∀ k, (State.modFreq s a1 a2).bank k = s.bank k) ∧ (∀ k, (State.modFreq s a1 a2).boost k = s.boost k) ∧
    (∀ k, (State.modFreq s a1 a2).ant k = s.ant k) ∧ (∀ k, (State.modFreq s a1 a2).partition k = s.partition k) ∧
    (∀ k, (State.modFreq s a1 a2).lin k = s.lin k) ∧ (∀ k, (State.modFreq s a1 a2).hostFn k = s.hostFn k) ∧
    (∀ k, (State.modFreq s a1 a2).parkSlot k = s.parkSlot k) ∧ (∀ k, (State.modFreq s a1 a2).stud k = s.stud k) ∧
    (∀ k, (State.modFreq s a1 a2).sensor k = s.sensor k) ∧ (∀ k, (State.modFreq s a1 a2).link k = s.link k) ∧
    (∀ k, (State.modFreq s a1 a2).sw k = s.sw k) ∧ (State.modFreq s a1 a2).hw = s.hw ∧
    (State.modFreq s a1 a2).variant = s.variant ∧ (State.modFreq s a1 a2).trunkOn = s.trunkOn ∧
    (State.modFreq s a1 a2).inRun = s.inRun ∧ (State.modFreq s a1 a2).operating = s.operating ∧
    (State.modFreq s a1 a2).parked = s.parked ∧ (∀ k, (State.modFreq s a1 a2).decl k = s.decl k) ∧
    (∀ k, (State.modFreq s a1 a2).sig k = s.sig k) := by and_intros <;> intros <;> rfl
/-- What `State.modSup` leaves as it is. -/
@[simp] theorem State.modSup_leaves (s) (a1) (a2) :
    (State.modSup s a1 a2).part = s.part ∧ (State.modSup s a1 a2).keeper = s.keeper ∧ (State.modSup s a1 a2).time = s.time ∧
    (State.modSup s a1 a2).faults = s.faults ∧ (State.modSup s a1 a2).signals = s.signals ∧
    (State.modSup s a1 a2).ctrl = s.ctrl ∧ (State.modSup s a1 a2).valve = s.valve ∧ (State.modSup s a1 a2).gnss = s.gnss ∧
    (State.modSup s a1 a2).imu = s.imu ∧ (State.modSup s a1 a2).cam = s.cam ∧ (State.modSup s a1 a2).crown = s.crown ∧
    (State.modSup s a1 a2).granary = s.granary ∧ (State.modSup s a1 a2).outs = s.outs ∧
    (State.modSup s a1 a2).swin = s.swin ∧ (State.modSup s a1 a2).body = s.body ∧ (State.modSup s a1 a2).fans = s.fans ∧
    (State.modSup s a1 a2).plate = s.plate ∧ (State.modSup s a1 a2).can = s.can ∧ (State.modSup s a1 a2).eth = s.eth ∧
    (State.modSup s a1 a2).nm = s.nm ∧ (State.modSup s a1 a2).root = s.root ∧ (State.modSup s a1 a2).graft = s.graft ∧
    (State.modSup s a1 a2).attic = s.attic ∧ (State.modSup s a1 a2).larder = s.larder ∧
    (State.modSup s a1 a2).power = s.power ∧ (State.modSup s a1 a2).thermal = s.thermal ∧
    (State.modSup s a1 a2).jtag = s.jtag ∧ (State.modSup s a1 a2).kept = s.kept ∧
    (State.modSup s a1 a2).keptDirty = s.keptDirty ∧ (State.modSup s a1 a2).keptAt = s.keptAt ∧
    (State.modSup s a1 a2).free = s.free ∧ (State.modSup s a1 a2).pending = s.pending ∧
    (∀ k, (State.modSup s a1 a2).win k = s.win k) ∧ (∀ k, (State.modSup s a1 a2).lossCh k = s.lossCh k) ∧
    (∀ k, (State.modSup s a1 a2).bridgeCh k = s.bridgeCh k) ∧ (∀ k, (State.modSup s a1 a2).ainCh k = s.ainCh k) ∧
    (∀ k, (State.modSup s a1 a2).freqCh k = s.freqCh k) ∧ (∀ k, (State.modSup s a1 a2).canCh k = s.canCh k) ∧
    (∀ k, (State.modSup s a1 a2).ethPort k = s.ethPort k) ∧ (∀ k, (State.modSup s a1 a2).net k = s.net k) ∧
    (∀ k, (State.modSup s a1 a2).port k = s.port k) ∧ (∀ k, (State.modSup s a1 a2).lamp k = s.lamp k) ∧
    (∀ k, (State.modSup s a1 a2).slot k = s.slot k) ∧ (∀ k, (State.modSup s a1 a2).crownUnit k = s.crownUnit k) ∧
    (∀ k, (State.modSup s a1 a2).loop k = s.loop k) ∧ (∀ k, (State.modSup s a1 a2).trace k = s.trace k) ∧
    (∀ k, (State.modSup s a1 a2).lidar k = s.lidar k) ∧ (∀ k, (State.modSup s a1 a2).ring k = s.ring k) ∧
    (∀ k, (State.modSup s a1 a2).fan k = s.fan k) ∧ (∀ k, (State.modSup s a1 a2).out k = s.out k) ∧
    (∀ k, (State.modSup s a1 a2).group k = s.group k) ∧ (∀ k, (State.modSup s a1 a2).hb k = s.hb k) ∧
    (∀ k, (State.modSup s a1 a2).svc k = s.svc k) ∧ (∀ k, (State.modSup s a1 a2).valve' k = s.valve' k) ∧
    (∀ k, (State.modSup s a1 a2).bank k = s.bank k) ∧ (∀ k, (State.modSup s a1 a2).boost k = s.boost k) ∧
    (∀ k, (State.modSup s a1 a2).ant k = s.ant k) ∧ (∀ k, (State.modSup s a1 a2).partition k = s.partition k) ∧
    (∀ k, (State.modSup s a1 a2).lin k = s.lin k) ∧ (∀ k, (State.modSup s a1 a2).hostFn k = s.hostFn k) ∧
    (∀ k, (State.modSup s a1 a2).parkSlot k = s.parkSlot k) ∧ (∀ k, (State.modSup s a1 a2).stud k = s.stud k) ∧
    (∀ k, (State.modSup s a1 a2).sensor k = s.sensor k) ∧ (∀ k, (State.modSup s a1 a2).link k = s.link k) ∧
    (∀ k, (State.modSup s a1 a2).sw k = s.sw k) ∧ (State.modSup s a1 a2).hw = s.hw ∧
    (State.modSup s a1 a2).variant = s.variant ∧ (State.modSup s a1 a2).trunkOn = s.trunkOn ∧
    (State.modSup s a1 a2).inRun = s.inRun ∧ (State.modSup s a1 a2).operating = s.operating ∧
    (State.modSup s a1 a2).parked = s.parked ∧ (∀ k, (State.modSup s a1 a2).decl k = s.decl k) ∧
    (∀ k, (State.modSup s a1 a2).sig k = s.sig k) := by and_intros <;> intros <;> rfl
/-- What `State.modCan` leaves as it is. -/
@[simp] theorem State.modCan_leaves (s) (a1) (a2) :
    (State.modCan s a1 a2).part = s.part ∧ (State.modCan s a1 a2).keeper = s.keeper ∧ (State.modCan s a1 a2).time = s.time ∧
    (State.modCan s a1 a2).faults = s.faults ∧ (State.modCan s a1 a2).signals = s.signals ∧
    (State.modCan s a1 a2).sensing = s.sensing ∧ (State.modCan s a1 a2).ctrl = s.ctrl ∧
    (State.modCan s a1 a2).valve = s.valve ∧ (State.modCan s a1 a2).gnss = s.gnss ∧ (State.modCan s a1 a2).imu = s.imu ∧
    (State.modCan s a1 a2).cam = s.cam ∧ (State.modCan s a1 a2).crown = s.crown ∧
    (State.modCan s a1 a2).granary = s.granary ∧ (State.modCan s a1 a2).outs = s.outs ∧
    (State.modCan s a1 a2).swin = s.swin ∧ (State.modCan s a1 a2).body = s.body ∧ (State.modCan s a1 a2).fans = s.fans ∧
    (State.modCan s a1 a2).plate = s.plate ∧ (State.modCan s a1 a2).eth = s.eth ∧ (State.modCan s a1 a2).nm = s.nm ∧
    (State.modCan s a1 a2).root = s.root ∧ (State.modCan s a1 a2).graft = s.graft ∧ (State.modCan s a1 a2).attic = s.attic ∧
    (State.modCan s a1 a2).larder = s.larder ∧ (State.modCan s a1 a2).power = s.power ∧
    (State.modCan s a1 a2).thermal = s.thermal ∧ (State.modCan s a1 a2).jtag = s.jtag ∧
    (State.modCan s a1 a2).kept = s.kept ∧ (State.modCan s a1 a2).keptDirty = s.keptDirty ∧
    (State.modCan s a1 a2).keptAt = s.keptAt ∧ (State.modCan s a1 a2).free = s.free ∧
    (State.modCan s a1 a2).pending = s.pending ∧ (∀ k, (State.modCan s a1 a2).win k = s.win k) ∧
    (∀ k, (State.modCan s a1 a2).lossCh k = s.lossCh k) ∧ (∀ k, (State.modCan s a1 a2).bridgeCh k = s.bridgeCh k) ∧
    (∀ k, (State.modCan s a1 a2).ainCh k = s.ainCh k) ∧ (∀ k, (State.modCan s a1 a2).freqCh k = s.freqCh k) ∧
    (∀ k, (State.modCan s a1 a2).supCh k = s.supCh k) ∧ (∀ k, (State.modCan s a1 a2).ethPort k = s.ethPort k) ∧
    (∀ k, (State.modCan s a1 a2).net k = s.net k) ∧ (∀ k, (State.modCan s a1 a2).port k = s.port k) ∧
    (∀ k, (State.modCan s a1 a2).lamp k = s.lamp k) ∧ (∀ k, (State.modCan s a1 a2).slot k = s.slot k) ∧
    (∀ k, (State.modCan s a1 a2).crownUnit k = s.crownUnit k) ∧ (∀ k, (State.modCan s a1 a2).loop k = s.loop k) ∧
    (∀ k, (State.modCan s a1 a2).trace k = s.trace k) ∧ (∀ k, (State.modCan s a1 a2).lidar k = s.lidar k) ∧
    (∀ k, (State.modCan s a1 a2).ring k = s.ring k) ∧ (∀ k, (State.modCan s a1 a2).fan k = s.fan k) ∧
    (∀ k, (State.modCan s a1 a2).out k = s.out k) ∧ (∀ k, (State.modCan s a1 a2).group k = s.group k) ∧
    (∀ k, (State.modCan s a1 a2).hb k = s.hb k) ∧ (∀ k, (State.modCan s a1 a2).svc k = s.svc k) ∧
    (∀ k, (State.modCan s a1 a2).valve' k = s.valve' k) ∧ (∀ k, (State.modCan s a1 a2).bank k = s.bank k) ∧
    (∀ k, (State.modCan s a1 a2).boost k = s.boost k) ∧ (∀ k, (State.modCan s a1 a2).ant k = s.ant k) ∧
    (∀ k, (State.modCan s a1 a2).partition k = s.partition k) ∧ (∀ k, (State.modCan s a1 a2).lin k = s.lin k) ∧
    (∀ k, (State.modCan s a1 a2).hostFn k = s.hostFn k) ∧ (∀ k, (State.modCan s a1 a2).parkSlot k = s.parkSlot k) ∧
    (∀ k, (State.modCan s a1 a2).stud k = s.stud k) ∧ (∀ k, (State.modCan s a1 a2).sensor k = s.sensor k) ∧
    (∀ k, (State.modCan s a1 a2).link k = s.link k) ∧ (∀ k, (State.modCan s a1 a2).sw k = s.sw k) ∧
    (State.modCan s a1 a2).hw = s.hw ∧ (State.modCan s a1 a2).variant = s.variant ∧
    (State.modCan s a1 a2).trunkOn = s.trunkOn ∧ (State.modCan s a1 a2).inRun = s.inRun ∧
    (State.modCan s a1 a2).operating = s.operating ∧ (State.modCan s a1 a2).parked = s.parked ∧
    (∀ k, (State.modCan s a1 a2).decl k = s.decl k) ∧ (∀ k, (State.modCan s a1 a2).sig k = s.sig k) := by and_intros <;> intros <;> rfl
/-- What `State.modEth` leaves as it is. -/
@[simp] theorem State.modEth_leaves (s) (a1) (a2) :
    (State.modEth s a1 a2).part = s.part ∧ (State.modEth s a1 a2).keeper = s.keeper ∧ (State.modEth s a1 a2).time = s.time ∧
    (State.modEth s a1 a2).faults = s.faults ∧ (State.modEth s a1 a2).signals = s.signals ∧
    (State.modEth s a1 a2).sensing = s.sensing ∧ (State.modEth s a1 a2).ctrl = s.ctrl ∧
    (State.modEth s a1 a2).valve = s.valve ∧ (State.modEth s a1 a2).gnss = s.gnss ∧ (State.modEth s a1 a2).imu = s.imu ∧
    (State.modEth s a1 a2).cam = s.cam ∧ (State.modEth s a1 a2).crown = s.crown ∧
    (State.modEth s a1 a2).granary = s.granary ∧ (State.modEth s a1 a2).outs = s.outs ∧
    (State.modEth s a1 a2).swin = s.swin ∧ (State.modEth s a1 a2).body = s.body ∧ (State.modEth s a1 a2).fans = s.fans ∧
    (State.modEth s a1 a2).plate = s.plate ∧ (State.modEth s a1 a2).can = s.can ∧ (State.modEth s a1 a2).nm = s.nm ∧
    (State.modEth s a1 a2).root = s.root ∧ (State.modEth s a1 a2).graft = s.graft ∧ (State.modEth s a1 a2).attic = s.attic ∧
    (State.modEth s a1 a2).larder = s.larder ∧ (State.modEth s a1 a2).power = s.power ∧
    (State.modEth s a1 a2).thermal = s.thermal ∧ (State.modEth s a1 a2).jtag = s.jtag ∧
    (State.modEth s a1 a2).kept = s.kept ∧ (State.modEth s a1 a2).keptDirty = s.keptDirty ∧
    (State.modEth s a1 a2).keptAt = s.keptAt ∧ (State.modEth s a1 a2).free = s.free ∧
    (State.modEth s a1 a2).pending = s.pending ∧ (∀ k, (State.modEth s a1 a2).win k = s.win k) ∧
    (∀ k, (State.modEth s a1 a2).lossCh k = s.lossCh k) ∧ (∀ k, (State.modEth s a1 a2).bridgeCh k = s.bridgeCh k) ∧
    (∀ k, (State.modEth s a1 a2).ainCh k = s.ainCh k) ∧ (∀ k, (State.modEth s a1 a2).freqCh k = s.freqCh k) ∧
    (∀ k, (State.modEth s a1 a2).supCh k = s.supCh k) ∧ (∀ k, (State.modEth s a1 a2).canCh k = s.canCh k) ∧
    (∀ k, (State.modEth s a1 a2).net k = s.net k) ∧ (∀ k, (State.modEth s a1 a2).port k = s.port k) ∧
    (∀ k, (State.modEth s a1 a2).lamp k = s.lamp k) ∧ (∀ k, (State.modEth s a1 a2).slot k = s.slot k) ∧
    (∀ k, (State.modEth s a1 a2).crownUnit k = s.crownUnit k) ∧ (∀ k, (State.modEth s a1 a2).loop k = s.loop k) ∧
    (∀ k, (State.modEth s a1 a2).trace k = s.trace k) ∧ (∀ k, (State.modEth s a1 a2).lidar k = s.lidar k) ∧
    (∀ k, (State.modEth s a1 a2).ring k = s.ring k) ∧ (∀ k, (State.modEth s a1 a2).fan k = s.fan k) ∧
    (∀ k, (State.modEth s a1 a2).out k = s.out k) ∧ (∀ k, (State.modEth s a1 a2).group k = s.group k) ∧
    (∀ k, (State.modEth s a1 a2).hb k = s.hb k) ∧ (∀ k, (State.modEth s a1 a2).svc k = s.svc k) ∧
    (∀ k, (State.modEth s a1 a2).valve' k = s.valve' k) ∧ (∀ k, (State.modEth s a1 a2).bank k = s.bank k) ∧
    (∀ k, (State.modEth s a1 a2).boost k = s.boost k) ∧ (∀ k, (State.modEth s a1 a2).ant k = s.ant k) ∧
    (∀ k, (State.modEth s a1 a2).partition k = s.partition k) ∧ (∀ k, (State.modEth s a1 a2).lin k = s.lin k) ∧
    (∀ k, (State.modEth s a1 a2).hostFn k = s.hostFn k) ∧ (∀ k, (State.modEth s a1 a2).parkSlot k = s.parkSlot k) ∧
    (∀ k, (State.modEth s a1 a2).stud k = s.stud k) ∧ (∀ k, (State.modEth s a1 a2).sensor k = s.sensor k) ∧
    (∀ k, (State.modEth s a1 a2).link k = s.link k) ∧ (∀ k, (State.modEth s a1 a2).sw k = s.sw k) ∧
    (State.modEth s a1 a2).hw = s.hw ∧ (State.modEth s a1 a2).variant = s.variant ∧
    (State.modEth s a1 a2).trunkOn = s.trunkOn ∧ (State.modEth s a1 a2).inRun = s.inRun ∧
    (State.modEth s a1 a2).operating = s.operating ∧ (State.modEth s a1 a2).parked = s.parked ∧
    (∀ k, (State.modEth s a1 a2).decl k = s.decl k) ∧ (∀ k, (State.modEth s a1 a2).sig k = s.sig k) := by and_intros <;> intros <;> rfl
/-- What `State.modNet` leaves as it is. -/
@[simp] theorem State.modNet_leaves (s) (a1) (a2) :
    (State.modNet s a1 a2).part = s.part ∧ (State.modNet s a1 a2).keeper = s.keeper ∧ (State.modNet s a1 a2).time = s.time ∧
    (State.modNet s a1 a2).faults = s.faults ∧ (State.modNet s a1 a2).signals = s.signals ∧
    (State.modNet s a1 a2).sensing = s.sensing ∧ (State.modNet s a1 a2).ctrl = s.ctrl ∧
    (State.modNet s a1 a2).valve = s.valve ∧ (State.modNet s a1 a2).gnss = s.gnss ∧ (State.modNet s a1 a2).imu = s.imu ∧
    (State.modNet s a1 a2).cam = s.cam ∧ (State.modNet s a1 a2).crown = s.crown ∧
    (State.modNet s a1 a2).granary = s.granary ∧ (State.modNet s a1 a2).outs = s.outs ∧
    (State.modNet s a1 a2).swin = s.swin ∧ (State.modNet s a1 a2).body = s.body ∧ (State.modNet s a1 a2).fans = s.fans ∧
    (State.modNet s a1 a2).plate = s.plate ∧ (State.modNet s a1 a2).can = s.can ∧ (State.modNet s a1 a2).eth = s.eth ∧
    (State.modNet s a1 a2).root = s.root ∧ (State.modNet s a1 a2).graft = s.graft ∧ (State.modNet s a1 a2).attic = s.attic ∧
    (State.modNet s a1 a2).larder = s.larder ∧ (State.modNet s a1 a2).power = s.power ∧
    (State.modNet s a1 a2).thermal = s.thermal ∧ (State.modNet s a1 a2).jtag = s.jtag ∧
    (State.modNet s a1 a2).kept = s.kept ∧ (State.modNet s a1 a2).keptDirty = s.keptDirty ∧
    (State.modNet s a1 a2).keptAt = s.keptAt ∧ (State.modNet s a1 a2).free = s.free ∧
    (State.modNet s a1 a2).pending = s.pending ∧ (∀ k, (State.modNet s a1 a2).win k = s.win k) ∧
    (∀ k, (State.modNet s a1 a2).lossCh k = s.lossCh k) ∧ (∀ k, (State.modNet s a1 a2).bridgeCh k = s.bridgeCh k) ∧
    (∀ k, (State.modNet s a1 a2).ainCh k = s.ainCh k) ∧ (∀ k, (State.modNet s a1 a2).freqCh k = s.freqCh k) ∧
    (∀ k, (State.modNet s a1 a2).supCh k = s.supCh k) ∧ (∀ k, (State.modNet s a1 a2).canCh k = s.canCh k) ∧
    (∀ k, (State.modNet s a1 a2).ethPort k = s.ethPort k) ∧ (∀ k, (State.modNet s a1 a2).port k = s.port k) ∧
    (∀ k, (State.modNet s a1 a2).lamp k = s.lamp k) ∧ (∀ k, (State.modNet s a1 a2).slot k = s.slot k) ∧
    (∀ k, (State.modNet s a1 a2).crownUnit k = s.crownUnit k) ∧ (∀ k, (State.modNet s a1 a2).loop k = s.loop k) ∧
    (∀ k, (State.modNet s a1 a2).trace k = s.trace k) ∧ (∀ k, (State.modNet s a1 a2).lidar k = s.lidar k) ∧
    (∀ k, (State.modNet s a1 a2).ring k = s.ring k) ∧ (∀ k, (State.modNet s a1 a2).fan k = s.fan k) ∧
    (∀ k, (State.modNet s a1 a2).out k = s.out k) ∧ (∀ k, (State.modNet s a1 a2).group k = s.group k) ∧
    (∀ k, (State.modNet s a1 a2).hb k = s.hb k) ∧ (∀ k, (State.modNet s a1 a2).svc k = s.svc k) ∧
    (∀ k, (State.modNet s a1 a2).valve' k = s.valve' k) ∧ (∀ k, (State.modNet s a1 a2).bank k = s.bank k) ∧
    (∀ k, (State.modNet s a1 a2).boost k = s.boost k) ∧ (∀ k, (State.modNet s a1 a2).ant k = s.ant k) ∧
    (∀ k, (State.modNet s a1 a2).partition k = s.partition k) ∧ (∀ k, (State.modNet s a1 a2).lin k = s.lin k) ∧
    (∀ k, (State.modNet s a1 a2).hostFn k = s.hostFn k) ∧ (∀ k, (State.modNet s a1 a2).parkSlot k = s.parkSlot k) ∧
    (∀ k, (State.modNet s a1 a2).stud k = s.stud k) ∧ (∀ k, (State.modNet s a1 a2).sensor k = s.sensor k) ∧
    (∀ k, (State.modNet s a1 a2).link k = s.link k) ∧ (∀ k, (State.modNet s a1 a2).sw k = s.sw k) ∧
    (State.modNet s a1 a2).hw = s.hw ∧ (State.modNet s a1 a2).variant = s.variant ∧
    (State.modNet s a1 a2).trunkOn = s.trunkOn ∧ (State.modNet s a1 a2).inRun = s.inRun ∧
    (State.modNet s a1 a2).operating = s.operating ∧ (State.modNet s a1 a2).parked = s.parked ∧
    (∀ k, (State.modNet s a1 a2).decl k = s.decl k) ∧ (∀ k, (State.modNet s a1 a2).sig k = s.sig k) := by and_intros <;> intros <;> rfl
/-- What `State.modOut` leaves as it is. -/
@[simp] theorem State.modOut_leaves (s) (a1) (a2) :
    (State.modOut s a1 a2).part = s.part ∧ (State.modOut s a1 a2).keeper = s.keeper ∧ (State.modOut s a1 a2).time = s.time ∧
    (State.modOut s a1 a2).faults = s.faults ∧ (State.modOut s a1 a2).signals = s.signals ∧
    (State.modOut s a1 a2).sensing = s.sensing ∧ (State.modOut s a1 a2).ctrl = s.ctrl ∧
    (State.modOut s a1 a2).valve = s.valve ∧ (State.modOut s a1 a2).gnss = s.gnss ∧ (State.modOut s a1 a2).imu = s.imu ∧
    (State.modOut s a1 a2).cam = s.cam ∧ (State.modOut s a1 a2).crown = s.crown ∧
    (State.modOut s a1 a2).granary = s.granary ∧ (State.modOut s a1 a2).swin = s.swin ∧
    (State.modOut s a1 a2).body = s.body ∧ (State.modOut s a1 a2).fans = s.fans ∧ (State.modOut s a1 a2).plate = s.plate ∧
    (State.modOut s a1 a2).can = s.can ∧ (State.modOut s a1 a2).eth = s.eth ∧ (State.modOut s a1 a2).nm = s.nm ∧
    (State.modOut s a1 a2).root = s.root ∧ (State.modOut s a1 a2).graft = s.graft ∧ (State.modOut s a1 a2).attic = s.attic ∧
    (State.modOut s a1 a2).larder = s.larder ∧ (State.modOut s a1 a2).power = s.power ∧
    (State.modOut s a1 a2).thermal = s.thermal ∧ (State.modOut s a1 a2).jtag = s.jtag ∧
    (State.modOut s a1 a2).kept = s.kept ∧ (State.modOut s a1 a2).keptDirty = s.keptDirty ∧
    (State.modOut s a1 a2).keptAt = s.keptAt ∧ (State.modOut s a1 a2).free = s.free ∧
    (State.modOut s a1 a2).pending = s.pending ∧ (∀ k, (State.modOut s a1 a2).win k = s.win k) ∧
    (∀ k, (State.modOut s a1 a2).lossCh k = s.lossCh k) ∧ (∀ k, (State.modOut s a1 a2).bridgeCh k = s.bridgeCh k) ∧
    (∀ k, (State.modOut s a1 a2).ainCh k = s.ainCh k) ∧ (∀ k, (State.modOut s a1 a2).freqCh k = s.freqCh k) ∧
    (∀ k, (State.modOut s a1 a2).supCh k = s.supCh k) ∧ (∀ k, (State.modOut s a1 a2).canCh k = s.canCh k) ∧
    (∀ k, (State.modOut s a1 a2).ethPort k = s.ethPort k) ∧ (∀ k, (State.modOut s a1 a2).net k = s.net k) ∧
    (∀ k, (State.modOut s a1 a2).port k = s.port k) ∧ (∀ k, (State.modOut s a1 a2).lamp k = s.lamp k) ∧
    (∀ k, (State.modOut s a1 a2).slot k = s.slot k) ∧ (∀ k, (State.modOut s a1 a2).crownUnit k = s.crownUnit k) ∧
    (∀ k, (State.modOut s a1 a2).loop k = s.loop k) ∧ (∀ k, (State.modOut s a1 a2).trace k = s.trace k) ∧
    (∀ k, (State.modOut s a1 a2).lidar k = s.lidar k) ∧ (∀ k, (State.modOut s a1 a2).ring k = s.ring k) ∧
    (∀ k, (State.modOut s a1 a2).fan k = s.fan k) ∧ (∀ k, (State.modOut s a1 a2).group k = s.group k) ∧
    (∀ k, (State.modOut s a1 a2).hb k = s.hb k) ∧ (∀ k, (State.modOut s a1 a2).svc k = s.svc k) ∧
    (∀ k, (State.modOut s a1 a2).valve' k = s.valve' k) ∧ (∀ k, (State.modOut s a1 a2).bank k = s.bank k) ∧
    (∀ k, (State.modOut s a1 a2).boost k = s.boost k) ∧ (∀ k, (State.modOut s a1 a2).ant k = s.ant k) ∧
    (∀ k, (State.modOut s a1 a2).partition k = s.partition k) ∧ (∀ k, (State.modOut s a1 a2).lin k = s.lin k) ∧
    (∀ k, (State.modOut s a1 a2).hostFn k = s.hostFn k) ∧ (∀ k, (State.modOut s a1 a2).parkSlot k = s.parkSlot k) ∧
    (∀ k, (State.modOut s a1 a2).stud k = s.stud k) ∧ (∀ k, (State.modOut s a1 a2).sensor k = s.sensor k) ∧
    (∀ k, (State.modOut s a1 a2).link k = s.link k) ∧ (∀ k, (State.modOut s a1 a2).sw k = s.sw k) ∧
    (State.modOut s a1 a2).hw = s.hw ∧ (State.modOut s a1 a2).variant = s.variant ∧
    (State.modOut s a1 a2).trunkOn = s.trunkOn ∧ (State.modOut s a1 a2).inRun = s.inRun ∧
    (State.modOut s a1 a2).operating = s.operating ∧ (State.modOut s a1 a2).parked = s.parked ∧
    (∀ k, (State.modOut s a1 a2).decl k = s.decl k) ∧ (∀ k, (State.modOut s a1 a2).sig k = s.sig k) := by and_intros <;> intros <;> rfl
/-- What `State.modGroup` leaves as it is. -/
@[simp] theorem State.modGroup_leaves (s) (a1) (a2) :
    (State.modGroup s a1 a2).part = s.part ∧ (State.modGroup s a1 a2).keeper = s.keeper ∧
    (State.modGroup s a1 a2).time = s.time ∧ (State.modGroup s a1 a2).faults = s.faults ∧
    (State.modGroup s a1 a2).signals = s.signals ∧ (State.modGroup s a1 a2).sensing = s.sensing ∧
    (State.modGroup s a1 a2).ctrl = s.ctrl ∧ (State.modGroup s a1 a2).valve = s.valve ∧
    (State.modGroup s a1 a2).gnss = s.gnss ∧ (State.modGroup s a1 a2).imu = s.imu ∧ (State.modGroup s a1 a2).cam = s.cam ∧
    (State.modGroup s a1 a2).crown = s.crown ∧ (State.modGroup s a1 a2).granary = s.granary ∧
    (State.modGroup s a1 a2).swin = s.swin ∧ (State.modGroup s a1 a2).body = s.body ∧
    (State.modGroup s a1 a2).fans = s.fans ∧ (State.modGroup s a1 a2).plate = s.plate ∧
    (State.modGroup s a1 a2).can = s.can ∧ (State.modGroup s a1 a2).eth = s.eth ∧ (State.modGroup s a1 a2).nm = s.nm ∧
    (State.modGroup s a1 a2).root = s.root ∧ (State.modGroup s a1 a2).graft = s.graft ∧
    (State.modGroup s a1 a2).attic = s.attic ∧ (State.modGroup s a1 a2).larder = s.larder ∧
    (State.modGroup s a1 a2).power = s.power ∧ (State.modGroup s a1 a2).thermal = s.thermal ∧
    (State.modGroup s a1 a2).jtag = s.jtag ∧ (State.modGroup s a1 a2).kept = s.kept ∧
    (State.modGroup s a1 a2).keptDirty = s.keptDirty ∧ (State.modGroup s a1 a2).keptAt = s.keptAt ∧
    (State.modGroup s a1 a2).free = s.free ∧ (State.modGroup s a1 a2).pending = s.pending ∧
    (∀ k, (State.modGroup s a1 a2).win k = s.win k) ∧ (∀ k, (State.modGroup s a1 a2).lossCh k = s.lossCh k) ∧
    (∀ k, (State.modGroup s a1 a2).bridgeCh k = s.bridgeCh k) ∧ (∀ k, (State.modGroup s a1 a2).ainCh k = s.ainCh k) ∧
    (∀ k, (State.modGroup s a1 a2).freqCh k = s.freqCh k) ∧ (∀ k, (State.modGroup s a1 a2).supCh k = s.supCh k) ∧
    (∀ k, (State.modGroup s a1 a2).canCh k = s.canCh k) ∧ (∀ k, (State.modGroup s a1 a2).ethPort k = s.ethPort k) ∧
    (∀ k, (State.modGroup s a1 a2).net k = s.net k) ∧ (∀ k, (State.modGroup s a1 a2).port k = s.port k) ∧
    (∀ k, (State.modGroup s a1 a2).lamp k = s.lamp k) ∧ (∀ k, (State.modGroup s a1 a2).slot k = s.slot k) ∧
    (∀ k, (State.modGroup s a1 a2).crownUnit k = s.crownUnit k) ∧ (∀ k, (State.modGroup s a1 a2).loop k = s.loop k) ∧
    (∀ k, (State.modGroup s a1 a2).trace k = s.trace k) ∧ (∀ k, (State.modGroup s a1 a2).lidar k = s.lidar k) ∧
    (∀ k, (State.modGroup s a1 a2).ring k = s.ring k) ∧ (∀ k, (State.modGroup s a1 a2).fan k = s.fan k) ∧
    (∀ k, (State.modGroup s a1 a2).out k = s.out k) ∧ (∀ k, (State.modGroup s a1 a2).hb k = s.hb k) ∧
    (∀ k, (State.modGroup s a1 a2).svc k = s.svc k) ∧ (∀ k, (State.modGroup s a1 a2).valve' k = s.valve' k) ∧
    (∀ k, (State.modGroup s a1 a2).bank k = s.bank k) ∧ (∀ k, (State.modGroup s a1 a2).boost k = s.boost k) ∧
    (∀ k, (State.modGroup s a1 a2).ant k = s.ant k) ∧ (∀ k, (State.modGroup s a1 a2).partition k = s.partition k) ∧
    (∀ k, (State.modGroup s a1 a2).lin k = s.lin k) ∧ (∀ k, (State.modGroup s a1 a2).hostFn k = s.hostFn k) ∧
    (∀ k, (State.modGroup s a1 a2).parkSlot k = s.parkSlot k) ∧ (∀ k, (State.modGroup s a1 a2).stud k = s.stud k) ∧
    (∀ k, (State.modGroup s a1 a2).sensor k = s.sensor k) ∧ (∀ k, (State.modGroup s a1 a2).link k = s.link k) ∧
    (∀ k, (State.modGroup s a1 a2).sw k = s.sw k) ∧ (State.modGroup s a1 a2).hw = s.hw ∧
    (State.modGroup s a1 a2).variant = s.variant ∧ (State.modGroup s a1 a2).trunkOn = s.trunkOn ∧
    (State.modGroup s a1 a2).inRun = s.inRun ∧ (State.modGroup s a1 a2).operating = s.operating ∧
    (State.modGroup s a1 a2).parked = s.parked ∧ (∀ k, (State.modGroup s a1 a2).decl k = s.decl k) ∧
    (∀ k, (State.modGroup s a1 a2).sig k = s.sig k) := by and_intros <;> intros <;> rfl
/-- What `State.modHb` leaves as it is. -/
@[simp] theorem State.modHb_leaves (s) (a1) (a2) :
    (State.modHb s a1 a2).part = s.part ∧ (State.modHb s a1 a2).keeper = s.keeper ∧ (State.modHb s a1 a2).time = s.time ∧
    (State.modHb s a1 a2).faults = s.faults ∧ (State.modHb s a1 a2).signals = s.signals ∧
    (State.modHb s a1 a2).sensing = s.sensing ∧ (State.modHb s a1 a2).ctrl = s.ctrl ∧ (State.modHb s a1 a2).valve = s.valve ∧
    (State.modHb s a1 a2).gnss = s.gnss ∧ (State.modHb s a1 a2).imu = s.imu ∧ (State.modHb s a1 a2).cam = s.cam ∧
    (State.modHb s a1 a2).crown = s.crown ∧ (State.modHb s a1 a2).granary = s.granary ∧ (State.modHb s a1 a2).swin = s.swin ∧
    (State.modHb s a1 a2).body = s.body ∧ (State.modHb s a1 a2).fans = s.fans ∧ (State.modHb s a1 a2).plate = s.plate ∧
    (State.modHb s a1 a2).can = s.can ∧ (State.modHb s a1 a2).eth = s.eth ∧ (State.modHb s a1 a2).nm = s.nm ∧
    (State.modHb s a1 a2).root = s.root ∧ (State.modHb s a1 a2).graft = s.graft ∧ (State.modHb s a1 a2).attic = s.attic ∧
    (State.modHb s a1 a2).larder = s.larder ∧ (State.modHb s a1 a2).power = s.power ∧
    (State.modHb s a1 a2).thermal = s.thermal ∧ (State.modHb s a1 a2).jtag = s.jtag ∧ (State.modHb s a1 a2).kept = s.kept ∧
    (State.modHb s a1 a2).keptDirty = s.keptDirty ∧ (State.modHb s a1 a2).keptAt = s.keptAt ∧
    (State.modHb s a1 a2).free = s.free ∧ (State.modHb s a1 a2).pending = s.pending ∧
    (∀ k, (State.modHb s a1 a2).win k = s.win k) ∧ (∀ k, (State.modHb s a1 a2).lossCh k = s.lossCh k) ∧
    (∀ k, (State.modHb s a1 a2).bridgeCh k = s.bridgeCh k) ∧ (∀ k, (State.modHb s a1 a2).ainCh k = s.ainCh k) ∧
    (∀ k, (State.modHb s a1 a2).freqCh k = s.freqCh k) ∧ (∀ k, (State.modHb s a1 a2).supCh k = s.supCh k) ∧
    (∀ k, (State.modHb s a1 a2).canCh k = s.canCh k) ∧ (∀ k, (State.modHb s a1 a2).ethPort k = s.ethPort k) ∧
    (∀ k, (State.modHb s a1 a2).net k = s.net k) ∧ (∀ k, (State.modHb s a1 a2).port k = s.port k) ∧
    (∀ k, (State.modHb s a1 a2).lamp k = s.lamp k) ∧ (∀ k, (State.modHb s a1 a2).slot k = s.slot k) ∧
    (∀ k, (State.modHb s a1 a2).crownUnit k = s.crownUnit k) ∧ (∀ k, (State.modHb s a1 a2).loop k = s.loop k) ∧
    (∀ k, (State.modHb s a1 a2).trace k = s.trace k) ∧ (∀ k, (State.modHb s a1 a2).lidar k = s.lidar k) ∧
    (∀ k, (State.modHb s a1 a2).ring k = s.ring k) ∧ (∀ k, (State.modHb s a1 a2).fan k = s.fan k) ∧
    (∀ k, (State.modHb s a1 a2).out k = s.out k) ∧ (∀ k, (State.modHb s a1 a2).group k = s.group k) ∧
    (∀ k, (State.modHb s a1 a2).svc k = s.svc k) ∧ (∀ k, (State.modHb s a1 a2).valve' k = s.valve' k) ∧
    (∀ k, (State.modHb s a1 a2).bank k = s.bank k) ∧ (∀ k, (State.modHb s a1 a2).boost k = s.boost k) ∧
    (∀ k, (State.modHb s a1 a2).ant k = s.ant k) ∧ (∀ k, (State.modHb s a1 a2).partition k = s.partition k) ∧
    (∀ k, (State.modHb s a1 a2).lin k = s.lin k) ∧ (∀ k, (State.modHb s a1 a2).hostFn k = s.hostFn k) ∧
    (∀ k, (State.modHb s a1 a2).parkSlot k = s.parkSlot k) ∧ (∀ k, (State.modHb s a1 a2).stud k = s.stud k) ∧
    (∀ k, (State.modHb s a1 a2).sensor k = s.sensor k) ∧ (∀ k, (State.modHb s a1 a2).link k = s.link k) ∧
    (∀ k, (State.modHb s a1 a2).sw k = s.sw k) ∧ (State.modHb s a1 a2).hw = s.hw ∧
    (State.modHb s a1 a2).variant = s.variant ∧ (State.modHb s a1 a2).trunkOn = s.trunkOn ∧
    (State.modHb s a1 a2).inRun = s.inRun ∧ (State.modHb s a1 a2).operating = s.operating ∧
    (State.modHb s a1 a2).parked = s.parked ∧ (∀ k, (State.modHb s a1 a2).decl k = s.decl k) ∧
    (∀ k, (State.modHb s a1 a2).sig k = s.sig k) := by and_intros <;> intros <;> rfl
/-- What `State.modSvc` leaves as it is. -/
@[simp] theorem State.modSvc_leaves (s) (a1) (a2) :
    (State.modSvc s a1 a2).part = s.part ∧ (State.modSvc s a1 a2).keeper = s.keeper ∧ (State.modSvc s a1 a2).time = s.time ∧
    (State.modSvc s a1 a2).faults = s.faults ∧ (State.modSvc s a1 a2).signals = s.signals ∧
    (State.modSvc s a1 a2).sensing = s.sensing ∧ (State.modSvc s a1 a2).ctrl = s.ctrl ∧
    (State.modSvc s a1 a2).valve = s.valve ∧ (State.modSvc s a1 a2).gnss = s.gnss ∧ (State.modSvc s a1 a2).imu = s.imu ∧
    (State.modSvc s a1 a2).cam = s.cam ∧ (State.modSvc s a1 a2).crown = s.crown ∧
    (State.modSvc s a1 a2).granary = s.granary ∧ (State.modSvc s a1 a2).outs = s.outs ∧
    (State.modSvc s a1 a2).swin = s.swin ∧ (State.modSvc s a1 a2).fans = s.fans ∧ (State.modSvc s a1 a2).plate = s.plate ∧
    (State.modSvc s a1 a2).can = s.can ∧ (State.modSvc s a1 a2).eth = s.eth ∧ (State.modSvc s a1 a2).nm = s.nm ∧
    (State.modSvc s a1 a2).root = s.root ∧ (State.modSvc s a1 a2).graft = s.graft ∧ (State.modSvc s a1 a2).attic = s.attic ∧
    (State.modSvc s a1 a2).larder = s.larder ∧ (State.modSvc s a1 a2).power = s.power ∧
    (State.modSvc s a1 a2).thermal = s.thermal ∧ (State.modSvc s a1 a2).jtag = s.jtag ∧
    (State.modSvc s a1 a2).kept = s.kept ∧ (State.modSvc s a1 a2).keptDirty = s.keptDirty ∧
    (State.modSvc s a1 a2).keptAt = s.keptAt ∧ (State.modSvc s a1 a2).free = s.free ∧
    (State.modSvc s a1 a2).pending = s.pending ∧ (∀ k, (State.modSvc s a1 a2).win k = s.win k) ∧
    (∀ k, (State.modSvc s a1 a2).lossCh k = s.lossCh k) ∧ (∀ k, (State.modSvc s a1 a2).bridgeCh k = s.bridgeCh k) ∧
    (∀ k, (State.modSvc s a1 a2).ainCh k = s.ainCh k) ∧ (∀ k, (State.modSvc s a1 a2).freqCh k = s.freqCh k) ∧
    (∀ k, (State.modSvc s a1 a2).supCh k = s.supCh k) ∧ (∀ k, (State.modSvc s a1 a2).canCh k = s.canCh k) ∧
    (∀ k, (State.modSvc s a1 a2).ethPort k = s.ethPort k) ∧ (∀ k, (State.modSvc s a1 a2).net k = s.net k) ∧
    (∀ k, (State.modSvc s a1 a2).port k = s.port k) ∧ (∀ k, (State.modSvc s a1 a2).lamp k = s.lamp k) ∧
    (∀ k, (State.modSvc s a1 a2).slot k = s.slot k) ∧ (∀ k, (State.modSvc s a1 a2).crownUnit k = s.crownUnit k) ∧
    (∀ k, (State.modSvc s a1 a2).loop k = s.loop k) ∧ (∀ k, (State.modSvc s a1 a2).trace k = s.trace k) ∧
    (∀ k, (State.modSvc s a1 a2).lidar k = s.lidar k) ∧ (∀ k, (State.modSvc s a1 a2).ring k = s.ring k) ∧
    (∀ k, (State.modSvc s a1 a2).fan k = s.fan k) ∧ (∀ k, (State.modSvc s a1 a2).out k = s.out k) ∧
    (∀ k, (State.modSvc s a1 a2).group k = s.group k) ∧ (∀ k, (State.modSvc s a1 a2).hb k = s.hb k) ∧
    (∀ k, (State.modSvc s a1 a2).valve' k = s.valve' k) ∧ (∀ k, (State.modSvc s a1 a2).bank k = s.bank k) ∧
    (∀ k, (State.modSvc s a1 a2).boost k = s.boost k) ∧ (∀ k, (State.modSvc s a1 a2).ant k = s.ant k) ∧
    (∀ k, (State.modSvc s a1 a2).partition k = s.partition k) ∧ (∀ k, (State.modSvc s a1 a2).lin k = s.lin k) ∧
    (∀ k, (State.modSvc s a1 a2).hostFn k = s.hostFn k) ∧ (∀ k, (State.modSvc s a1 a2).parkSlot k = s.parkSlot k) ∧
    (∀ k, (State.modSvc s a1 a2).stud k = s.stud k) ∧ (∀ k, (State.modSvc s a1 a2).sensor k = s.sensor k) ∧
    (∀ k, (State.modSvc s a1 a2).link k = s.link k) ∧ (∀ k, (State.modSvc s a1 a2).sw k = s.sw k) ∧
    (State.modSvc s a1 a2).hw = s.hw ∧ (State.modSvc s a1 a2).variant = s.variant ∧
    (State.modSvc s a1 a2).trunkOn = s.trunkOn ∧ (State.modSvc s a1 a2).inRun = s.inRun ∧
    (State.modSvc s a1 a2).operating = s.operating ∧ (State.modSvc s a1 a2).parked = s.parked ∧
    (∀ k, (State.modSvc s a1 a2).decl k = s.decl k) ∧ (∀ k, (State.modSvc s a1 a2).sig k = s.sig k) := by and_intros <;> intros <;> rfl
/-- What `State.modValve` leaves as it is. -/
@[simp] theorem State.modValve_leaves (s) (a1) (a2) :
    (State.modValve s a1 a2).part = s.part ∧ (State.modValve s a1 a2).keeper = s.keeper ∧
    (State.modValve s a1 a2).time = s.time ∧ (State.modValve s a1 a2).faults = s.faults ∧
    (State.modValve s a1 a2).signals = s.signals ∧ (State.modValve s a1 a2).sensing = s.sensing ∧
    (State.modValve s a1 a2).ctrl = s.ctrl ∧ (State.modValve s a1 a2).gnss = s.gnss ∧ (State.modValve s a1 a2).imu = s.imu ∧
    (State.modValve s a1 a2).cam = s.cam ∧ (State.modValve s a1 a2).crown = s.crown ∧
    (State.modValve s a1 a2).granary = s.granary ∧ (State.modValve s a1 a2).outs = s.outs ∧
    (State.modValve s a1 a2).swin = s.swin ∧ (State.modValve s a1 a2).body = s.body ∧
    (State.modValve s a1 a2).fans = s.fans ∧ (State.modValve s a1 a2).plate = s.plate ∧
    (State.modValve s a1 a2).can = s.can ∧ (State.modValve s a1 a2).eth = s.eth ∧ (State.modValve s a1 a2).nm = s.nm ∧
    (State.modValve s a1 a2).root = s.root ∧ (State.modValve s a1 a2).graft = s.graft ∧
    (State.modValve s a1 a2).attic = s.attic ∧ (State.modValve s a1 a2).larder = s.larder ∧
    (State.modValve s a1 a2).power = s.power ∧ (State.modValve s a1 a2).thermal = s.thermal ∧
    (State.modValve s a1 a2).jtag = s.jtag ∧ (State.modValve s a1 a2).kept = s.kept ∧
    (State.modValve s a1 a2).keptDirty = s.keptDirty ∧ (State.modValve s a1 a2).keptAt = s.keptAt ∧
    (State.modValve s a1 a2).free = s.free ∧ (State.modValve s a1 a2).pending = s.pending ∧
    (∀ k, (State.modValve s a1 a2).win k = s.win k) ∧ (∀ k, (State.modValve s a1 a2).lossCh k = s.lossCh k) ∧
    (∀ k, (State.modValve s a1 a2).bridgeCh k = s.bridgeCh k) ∧ (∀ k, (State.modValve s a1 a2).ainCh k = s.ainCh k) ∧
    (∀ k, (State.modValve s a1 a2).freqCh k = s.freqCh k) ∧ (∀ k, (State.modValve s a1 a2).supCh k = s.supCh k) ∧
    (∀ k, (State.modValve s a1 a2).canCh k = s.canCh k) ∧ (∀ k, (State.modValve s a1 a2).ethPort k = s.ethPort k) ∧
    (∀ k, (State.modValve s a1 a2).net k = s.net k) ∧ (∀ k, (State.modValve s a1 a2).port k = s.port k) ∧
    (∀ k, (State.modValve s a1 a2).lamp k = s.lamp k) ∧ (∀ k, (State.modValve s a1 a2).slot k = s.slot k) ∧
    (∀ k, (State.modValve s a1 a2).crownUnit k = s.crownUnit k) ∧ (∀ k, (State.modValve s a1 a2).loop k = s.loop k) ∧
    (∀ k, (State.modValve s a1 a2).trace k = s.trace k) ∧ (∀ k, (State.modValve s a1 a2).lidar k = s.lidar k) ∧
    (∀ k, (State.modValve s a1 a2).ring k = s.ring k) ∧ (∀ k, (State.modValve s a1 a2).fan k = s.fan k) ∧
    (∀ k, (State.modValve s a1 a2).out k = s.out k) ∧ (∀ k, (State.modValve s a1 a2).group k = s.group k) ∧
    (∀ k, (State.modValve s a1 a2).hb k = s.hb k) ∧ (∀ k, (State.modValve s a1 a2).svc k = s.svc k) ∧
    (∀ k, (State.modValve s a1 a2).bank k = s.bank k) ∧ (∀ k, (State.modValve s a1 a2).boost k = s.boost k) ∧
    (∀ k, (State.modValve s a1 a2).ant k = s.ant k) ∧ (∀ k, (State.modValve s a1 a2).partition k = s.partition k) ∧
    (∀ k, (State.modValve s a1 a2).lin k = s.lin k) ∧ (∀ k, (State.modValve s a1 a2).hostFn k = s.hostFn k) ∧
    (∀ k, (State.modValve s a1 a2).parkSlot k = s.parkSlot k) ∧ (∀ k, (State.modValve s a1 a2).stud k = s.stud k) ∧
    (∀ k, (State.modValve s a1 a2).sensor k = s.sensor k) ∧ (∀ k, (State.modValve s a1 a2).link k = s.link k) ∧
    (∀ k, (State.modValve s a1 a2).sw k = s.sw k) ∧ (State.modValve s a1 a2).hw = s.hw ∧
    (State.modValve s a1 a2).variant = s.variant ∧ (State.modValve s a1 a2).trunkOn = s.trunkOn ∧
    (State.modValve s a1 a2).inRun = s.inRun ∧ (State.modValve s a1 a2).operating = s.operating ∧
    (State.modValve s a1 a2).parked = s.parked ∧ (∀ k, (State.modValve s a1 a2).decl k = s.decl k) ∧
    (∀ k, (State.modValve s a1 a2).sig k = s.sig k) := by and_intros <;> intros <;> rfl
/-- What `State.modBank` leaves as it is. -/
@[simp] theorem State.modBank_leaves (s) (a1) (a2) :
    (State.modBank s a1 a2).part = s.part ∧ (State.modBank s a1 a2).keeper = s.keeper ∧
    (State.modBank s a1 a2).time = s.time ∧ (State.modBank s a1 a2).faults = s.faults ∧
    (State.modBank s a1 a2).signals = s.signals ∧ (State.modBank s a1 a2).sensing = s.sensing ∧
    (State.modBank s a1 a2).ctrl = s.ctrl ∧ (State.modBank s a1 a2).gnss = s.gnss ∧ (State.modBank s a1 a2).imu = s.imu ∧
    (State.modBank s a1 a2).cam = s.cam ∧ (State.modBank s a1 a2).crown = s.crown ∧
    (State.modBank s a1 a2).granary = s.granary ∧ (State.modBank s a1 a2).outs = s.outs ∧
    (State.modBank s a1 a2).swin = s.swin ∧ (State.modBank s a1 a2).body = s.body ∧ (State.modBank s a1 a2).fans = s.fans ∧
    (State.modBank s a1 a2).plate = s.plate ∧ (State.modBank s a1 a2).can = s.can ∧ (State.modBank s a1 a2).eth = s.eth ∧
    (State.modBank s a1 a2).nm = s.nm ∧ (State.modBank s a1 a2).root = s.root ∧ (State.modBank s a1 a2).graft = s.graft ∧
    (State.modBank s a1 a2).attic = s.attic ∧ (State.modBank s a1 a2).larder = s.larder ∧
    (State.modBank s a1 a2).power = s.power ∧ (State.modBank s a1 a2).thermal = s.thermal ∧
    (State.modBank s a1 a2).jtag = s.jtag ∧ (State.modBank s a1 a2).kept = s.kept ∧
    (State.modBank s a1 a2).keptDirty = s.keptDirty ∧ (State.modBank s a1 a2).keptAt = s.keptAt ∧
    (State.modBank s a1 a2).free = s.free ∧ (State.modBank s a1 a2).pending = s.pending ∧
    (∀ k, (State.modBank s a1 a2).win k = s.win k) ∧ (∀ k, (State.modBank s a1 a2).lossCh k = s.lossCh k) ∧
    (∀ k, (State.modBank s a1 a2).bridgeCh k = s.bridgeCh k) ∧ (∀ k, (State.modBank s a1 a2).ainCh k = s.ainCh k) ∧
    (∀ k, (State.modBank s a1 a2).freqCh k = s.freqCh k) ∧ (∀ k, (State.modBank s a1 a2).supCh k = s.supCh k) ∧
    (∀ k, (State.modBank s a1 a2).canCh k = s.canCh k) ∧ (∀ k, (State.modBank s a1 a2).ethPort k = s.ethPort k) ∧
    (∀ k, (State.modBank s a1 a2).net k = s.net k) ∧ (∀ k, (State.modBank s a1 a2).port k = s.port k) ∧
    (∀ k, (State.modBank s a1 a2).lamp k = s.lamp k) ∧ (∀ k, (State.modBank s a1 a2).slot k = s.slot k) ∧
    (∀ k, (State.modBank s a1 a2).crownUnit k = s.crownUnit k) ∧ (∀ k, (State.modBank s a1 a2).loop k = s.loop k) ∧
    (∀ k, (State.modBank s a1 a2).trace k = s.trace k) ∧ (∀ k, (State.modBank s a1 a2).lidar k = s.lidar k) ∧
    (∀ k, (State.modBank s a1 a2).ring k = s.ring k) ∧ (∀ k, (State.modBank s a1 a2).fan k = s.fan k) ∧
    (∀ k, (State.modBank s a1 a2).out k = s.out k) ∧ (∀ k, (State.modBank s a1 a2).group k = s.group k) ∧
    (∀ k, (State.modBank s a1 a2).hb k = s.hb k) ∧ (∀ k, (State.modBank s a1 a2).svc k = s.svc k) ∧
    (∀ k, (State.modBank s a1 a2).valve' k = s.valve' k) ∧ (∀ k, (State.modBank s a1 a2).boost k = s.boost k) ∧
    (∀ k, (State.modBank s a1 a2).ant k = s.ant k) ∧ (∀ k, (State.modBank s a1 a2).partition k = s.partition k) ∧
    (∀ k, (State.modBank s a1 a2).lin k = s.lin k) ∧ (∀ k, (State.modBank s a1 a2).hostFn k = s.hostFn k) ∧
    (∀ k, (State.modBank s a1 a2).parkSlot k = s.parkSlot k) ∧ (∀ k, (State.modBank s a1 a2).stud k = s.stud k) ∧
    (∀ k, (State.modBank s a1 a2).sensor k = s.sensor k) ∧ (∀ k, (State.modBank s a1 a2).link k = s.link k) ∧
    (∀ k, (State.modBank s a1 a2).sw k = s.sw k) ∧ (State.modBank s a1 a2).hw = s.hw ∧
    (State.modBank s a1 a2).variant = s.variant ∧ (State.modBank s a1 a2).trunkOn = s.trunkOn ∧
    (State.modBank s a1 a2).inRun = s.inRun ∧ (State.modBank s a1 a2).operating = s.operating ∧
    (State.modBank s a1 a2).parked = s.parked ∧ (∀ k, (State.modBank s a1 a2).decl k = s.decl k) ∧
    (∀ k, (State.modBank s a1 a2).sig k = s.sig k) := by and_intros <;> intros <;> rfl
/-- What `State.modBoost` leaves as it is. -/
@[simp] theorem State.modBoost_leaves (s) (a1) (a2) :
    (State.modBoost s a1 a2).part = s.part ∧ (State.modBoost s a1 a2).keeper = s.keeper ∧
    (State.modBoost s a1 a2).time = s.time ∧ (State.modBoost s a1 a2).faults = s.faults ∧
    (State.modBoost s a1 a2).signals = s.signals ∧ (State.modBoost s a1 a2).sensing = s.sensing ∧
    (State.modBoost s a1 a2).ctrl = s.ctrl ∧ (State.modBoost s a1 a2).gnss = s.gnss ∧ (State.modBoost s a1 a2).imu = s.imu ∧
    (State.modBoost s a1 a2).cam = s.cam ∧ (State.modBoost s a1 a2).crown = s.crown ∧
    (State.modBoost s a1 a2).granary = s.granary ∧ (State.modBoost s a1 a2).outs = s.outs ∧
    (State.modBoost s a1 a2).swin = s.swin ∧ (State.modBoost s a1 a2).body = s.body ∧
    (State.modBoost s a1 a2).fans = s.fans ∧ (State.modBoost s a1 a2).plate = s.plate ∧
    (State.modBoost s a1 a2).can = s.can ∧ (State.modBoost s a1 a2).eth = s.eth ∧ (State.modBoost s a1 a2).nm = s.nm ∧
    (State.modBoost s a1 a2).root = s.root ∧ (State.modBoost s a1 a2).graft = s.graft ∧
    (State.modBoost s a1 a2).attic = s.attic ∧ (State.modBoost s a1 a2).larder = s.larder ∧
    (State.modBoost s a1 a2).power = s.power ∧ (State.modBoost s a1 a2).thermal = s.thermal ∧
    (State.modBoost s a1 a2).jtag = s.jtag ∧ (State.modBoost s a1 a2).kept = s.kept ∧
    (State.modBoost s a1 a2).keptDirty = s.keptDirty ∧ (State.modBoost s a1 a2).keptAt = s.keptAt ∧
    (State.modBoost s a1 a2).free = s.free ∧ (State.modBoost s a1 a2).pending = s.pending ∧
    (∀ k, (State.modBoost s a1 a2).win k = s.win k) ∧ (∀ k, (State.modBoost s a1 a2).lossCh k = s.lossCh k) ∧
    (∀ k, (State.modBoost s a1 a2).bridgeCh k = s.bridgeCh k) ∧ (∀ k, (State.modBoost s a1 a2).ainCh k = s.ainCh k) ∧
    (∀ k, (State.modBoost s a1 a2).freqCh k = s.freqCh k) ∧ (∀ k, (State.modBoost s a1 a2).supCh k = s.supCh k) ∧
    (∀ k, (State.modBoost s a1 a2).canCh k = s.canCh k) ∧ (∀ k, (State.modBoost s a1 a2).ethPort k = s.ethPort k) ∧
    (∀ k, (State.modBoost s a1 a2).net k = s.net k) ∧ (∀ k, (State.modBoost s a1 a2).port k = s.port k) ∧
    (∀ k, (State.modBoost s a1 a2).lamp k = s.lamp k) ∧ (∀ k, (State.modBoost s a1 a2).slot k = s.slot k) ∧
    (∀ k, (State.modBoost s a1 a2).crownUnit k = s.crownUnit k) ∧ (∀ k, (State.modBoost s a1 a2).loop k = s.loop k) ∧
    (∀ k, (State.modBoost s a1 a2).trace k = s.trace k) ∧ (∀ k, (State.modBoost s a1 a2).lidar k = s.lidar k) ∧
    (∀ k, (State.modBoost s a1 a2).ring k = s.ring k) ∧ (∀ k, (State.modBoost s a1 a2).fan k = s.fan k) ∧
    (∀ k, (State.modBoost s a1 a2).out k = s.out k) ∧ (∀ k, (State.modBoost s a1 a2).group k = s.group k) ∧
    (∀ k, (State.modBoost s a1 a2).hb k = s.hb k) ∧ (∀ k, (State.modBoost s a1 a2).svc k = s.svc k) ∧
    (∀ k, (State.modBoost s a1 a2).valve' k = s.valve' k) ∧ (∀ k, (State.modBoost s a1 a2).bank k = s.bank k) ∧
    (∀ k, (State.modBoost s a1 a2).ant k = s.ant k) ∧ (∀ k, (State.modBoost s a1 a2).partition k = s.partition k) ∧
    (∀ k, (State.modBoost s a1 a2).lin k = s.lin k) ∧ (∀ k, (State.modBoost s a1 a2).hostFn k = s.hostFn k) ∧
    (∀ k, (State.modBoost s a1 a2).parkSlot k = s.parkSlot k) ∧ (∀ k, (State.modBoost s a1 a2).stud k = s.stud k) ∧
    (∀ k, (State.modBoost s a1 a2).sensor k = s.sensor k) ∧ (∀ k, (State.modBoost s a1 a2).link k = s.link k) ∧
    (∀ k, (State.modBoost s a1 a2).sw k = s.sw k) ∧ (State.modBoost s a1 a2).hw = s.hw ∧
    (State.modBoost s a1 a2).variant = s.variant ∧ (State.modBoost s a1 a2).trunkOn = s.trunkOn ∧
    (State.modBoost s a1 a2).inRun = s.inRun ∧ (State.modBoost s a1 a2).operating = s.operating ∧
    (State.modBoost s a1 a2).parked = s.parked ∧ (∀ k, (State.modBoost s a1 a2).decl k = s.decl k) ∧
    (∀ k, (State.modBoost s a1 a2).sig k = s.sig k) := by and_intros <;> intros <;> rfl
/-- What `State.modLoop` leaves as it is. -/
@[simp] theorem State.modLoop_leaves (s) (a1) (a2) :
    (State.modLoop s a1 a2).part = s.part ∧ (State.modLoop s a1 a2).keeper = s.keeper ∧
    (State.modLoop s a1 a2).time = s.time ∧ (State.modLoop s a1 a2).faults = s.faults ∧
    (State.modLoop s a1 a2).signals = s.signals ∧ (State.modLoop s a1 a2).sensing = s.sensing ∧
    (State.modLoop s a1 a2).valve = s.valve ∧ (State.modLoop s a1 a2).gnss = s.gnss ∧ (State.modLoop s a1 a2).imu = s.imu ∧
    (State.modLoop s a1 a2).cam = s.cam ∧ (State.modLoop s a1 a2).crown = s.crown ∧
    (State.modLoop s a1 a2).granary = s.granary ∧ (State.modLoop s a1 a2).outs = s.outs ∧
    (State.modLoop s a1 a2).swin = s.swin ∧ (State.modLoop s a1 a2).body = s.body ∧ (State.modLoop s a1 a2).fans = s.fans ∧
    (State.modLoop s a1 a2).plate = s.plate ∧ (State.modLoop s a1 a2).can = s.can ∧ (State.modLoop s a1 a2).eth = s.eth ∧
    (State.modLoop s a1 a2).nm = s.nm ∧ (State.modLoop s a1 a2).root = s.root ∧ (State.modLoop s a1 a2).graft = s.graft ∧
    (State.modLoop s a1 a2).attic = s.attic ∧ (State.modLoop s a1 a2).larder = s.larder ∧
    (State.modLoop s a1 a2).power = s.power ∧ (State.modLoop s a1 a2).thermal = s.thermal ∧
    (State.modLoop s a1 a2).jtag = s.jtag ∧ (State.modLoop s a1 a2).kept = s.kept ∧
    (State.modLoop s a1 a2).keptDirty = s.keptDirty ∧ (State.modLoop s a1 a2).keptAt = s.keptAt ∧
    (State.modLoop s a1 a2).free = s.free ∧ (State.modLoop s a1 a2).pending = s.pending ∧
    (∀ k, (State.modLoop s a1 a2).win k = s.win k) ∧ (∀ k, (State.modLoop s a1 a2).lossCh k = s.lossCh k) ∧
    (∀ k, (State.modLoop s a1 a2).bridgeCh k = s.bridgeCh k) ∧ (∀ k, (State.modLoop s a1 a2).ainCh k = s.ainCh k) ∧
    (∀ k, (State.modLoop s a1 a2).freqCh k = s.freqCh k) ∧ (∀ k, (State.modLoop s a1 a2).supCh k = s.supCh k) ∧
    (∀ k, (State.modLoop s a1 a2).canCh k = s.canCh k) ∧ (∀ k, (State.modLoop s a1 a2).ethPort k = s.ethPort k) ∧
    (∀ k, (State.modLoop s a1 a2).net k = s.net k) ∧ (∀ k, (State.modLoop s a1 a2).port k = s.port k) ∧
    (∀ k, (State.modLoop s a1 a2).lamp k = s.lamp k) ∧ (∀ k, (State.modLoop s a1 a2).slot k = s.slot k) ∧
    (∀ k, (State.modLoop s a1 a2).crownUnit k = s.crownUnit k) ∧ (∀ k, (State.modLoop s a1 a2).trace k = s.trace k) ∧
    (∀ k, (State.modLoop s a1 a2).lidar k = s.lidar k) ∧ (∀ k, (State.modLoop s a1 a2).ring k = s.ring k) ∧
    (∀ k, (State.modLoop s a1 a2).fan k = s.fan k) ∧ (∀ k, (State.modLoop s a1 a2).out k = s.out k) ∧
    (∀ k, (State.modLoop s a1 a2).group k = s.group k) ∧ (∀ k, (State.modLoop s a1 a2).hb k = s.hb k) ∧
    (∀ k, (State.modLoop s a1 a2).svc k = s.svc k) ∧ (∀ k, (State.modLoop s a1 a2).valve' k = s.valve' k) ∧
    (∀ k, (State.modLoop s a1 a2).bank k = s.bank k) ∧ (∀ k, (State.modLoop s a1 a2).boost k = s.boost k) ∧
    (∀ k, (State.modLoop s a1 a2).ant k = s.ant k) ∧ (∀ k, (State.modLoop s a1 a2).partition k = s.partition k) ∧
    (∀ k, (State.modLoop s a1 a2).lin k = s.lin k) ∧ (∀ k, (State.modLoop s a1 a2).hostFn k = s.hostFn k) ∧
    (∀ k, (State.modLoop s a1 a2).parkSlot k = s.parkSlot k) ∧ (∀ k, (State.modLoop s a1 a2).stud k = s.stud k) ∧
    (∀ k, (State.modLoop s a1 a2).sensor k = s.sensor k) ∧ (∀ k, (State.modLoop s a1 a2).link k = s.link k) ∧
    (∀ k, (State.modLoop s a1 a2).sw k = s.sw k) ∧ (State.modLoop s a1 a2).hw = s.hw ∧
    (State.modLoop s a1 a2).variant = s.variant ∧ (State.modLoop s a1 a2).trunkOn = s.trunkOn ∧
    (State.modLoop s a1 a2).inRun = s.inRun ∧ (State.modLoop s a1 a2).operating = s.operating ∧
    (State.modLoop s a1 a2).parked = s.parked ∧ (∀ k, (State.modLoop s a1 a2).decl k = s.decl k) ∧
    (∀ k, (State.modLoop s a1 a2).sig k = s.sig k) := by and_intros <;> intros <;> rfl
/-- What `State.modTrace` leaves as it is. -/
@[simp] theorem State.modTrace_leaves (s) (a1) (a2) :
    (State.modTrace s a1 a2).part = s.part ∧ (State.modTrace s a1 a2).keeper = s.keeper ∧
    (State.modTrace s a1 a2).time = s.time ∧ (State.modTrace s a1 a2).faults = s.faults ∧
    (State.modTrace s a1 a2).signals = s.signals ∧ (State.modTrace s a1 a2).sensing = s.sensing ∧
    (State.modTrace s a1 a2).valve = s.valve ∧ (State.modTrace s a1 a2).gnss = s.gnss ∧
    (State.modTrace s a1 a2).imu = s.imu ∧ (State.modTrace s a1 a2).cam = s.cam ∧ (State.modTrace s a1 a2).crown = s.crown ∧
    (State.modTrace s a1 a2).granary = s.granary ∧ (State.modTrace s a1 a2).outs = s.outs ∧
    (State.modTrace s a1 a2).swin = s.swin ∧ (State.modTrace s a1 a2).body = s.body ∧
    (State.modTrace s a1 a2).fans = s.fans ∧ (State.modTrace s a1 a2).plate = s.plate ∧
    (State.modTrace s a1 a2).can = s.can ∧ (State.modTrace s a1 a2).eth = s.eth ∧ (State.modTrace s a1 a2).nm = s.nm ∧
    (State.modTrace s a1 a2).root = s.root ∧ (State.modTrace s a1 a2).graft = s.graft ∧
    (State.modTrace s a1 a2).attic = s.attic ∧ (State.modTrace s a1 a2).larder = s.larder ∧
    (State.modTrace s a1 a2).power = s.power ∧ (State.modTrace s a1 a2).thermal = s.thermal ∧
    (State.modTrace s a1 a2).jtag = s.jtag ∧ (State.modTrace s a1 a2).kept = s.kept ∧
    (State.modTrace s a1 a2).keptDirty = s.keptDirty ∧ (State.modTrace s a1 a2).keptAt = s.keptAt ∧
    (State.modTrace s a1 a2).free = s.free ∧ (State.modTrace s a1 a2).pending = s.pending ∧
    (∀ k, (State.modTrace s a1 a2).win k = s.win k) ∧ (∀ k, (State.modTrace s a1 a2).lossCh k = s.lossCh k) ∧
    (∀ k, (State.modTrace s a1 a2).bridgeCh k = s.bridgeCh k) ∧ (∀ k, (State.modTrace s a1 a2).ainCh k = s.ainCh k) ∧
    (∀ k, (State.modTrace s a1 a2).freqCh k = s.freqCh k) ∧ (∀ k, (State.modTrace s a1 a2).supCh k = s.supCh k) ∧
    (∀ k, (State.modTrace s a1 a2).canCh k = s.canCh k) ∧ (∀ k, (State.modTrace s a1 a2).ethPort k = s.ethPort k) ∧
    (∀ k, (State.modTrace s a1 a2).net k = s.net k) ∧ (∀ k, (State.modTrace s a1 a2).port k = s.port k) ∧
    (∀ k, (State.modTrace s a1 a2).lamp k = s.lamp k) ∧ (∀ k, (State.modTrace s a1 a2).slot k = s.slot k) ∧
    (∀ k, (State.modTrace s a1 a2).crownUnit k = s.crownUnit k) ∧ (∀ k, (State.modTrace s a1 a2).loop k = s.loop k) ∧
    (∀ k, (State.modTrace s a1 a2).lidar k = s.lidar k) ∧ (∀ k, (State.modTrace s a1 a2).ring k = s.ring k) ∧
    (∀ k, (State.modTrace s a1 a2).fan k = s.fan k) ∧ (∀ k, (State.modTrace s a1 a2).out k = s.out k) ∧
    (∀ k, (State.modTrace s a1 a2).group k = s.group k) ∧ (∀ k, (State.modTrace s a1 a2).hb k = s.hb k) ∧
    (∀ k, (State.modTrace s a1 a2).svc k = s.svc k) ∧ (∀ k, (State.modTrace s a1 a2).valve' k = s.valve' k) ∧
    (∀ k, (State.modTrace s a1 a2).bank k = s.bank k) ∧ (∀ k, (State.modTrace s a1 a2).boost k = s.boost k) ∧
    (∀ k, (State.modTrace s a1 a2).ant k = s.ant k) ∧ (∀ k, (State.modTrace s a1 a2).partition k = s.partition k) ∧
    (∀ k, (State.modTrace s a1 a2).lin k = s.lin k) ∧ (∀ k, (State.modTrace s a1 a2).hostFn k = s.hostFn k) ∧
    (∀ k, (State.modTrace s a1 a2).parkSlot k = s.parkSlot k) ∧ (∀ k, (State.modTrace s a1 a2).stud k = s.stud k) ∧
    (∀ k, (State.modTrace s a1 a2).sensor k = s.sensor k) ∧ (∀ k, (State.modTrace s a1 a2).link k = s.link k) ∧
    (∀ k, (State.modTrace s a1 a2).sw k = s.sw k) ∧ (State.modTrace s a1 a2).hw = s.hw ∧
    (State.modTrace s a1 a2).variant = s.variant ∧ (State.modTrace s a1 a2).trunkOn = s.trunkOn ∧
    (State.modTrace s a1 a2).inRun = s.inRun ∧ (State.modTrace s a1 a2).operating = s.operating ∧
    (State.modTrace s a1 a2).parked = s.parked ∧ (∀ k, (State.modTrace s a1 a2).decl k = s.decl k) ∧
    (∀ k, (State.modTrace s a1 a2).sig k = s.sig k) := by and_intros <;> intros <;> rfl
/-- What `State.modAttic` leaves as it is. -/
@[simp] theorem State.modAttic_leaves (s) (a1) :
    (State.modAttic s a1).part = s.part ∧ (State.modAttic s a1).keeper = s.keeper ∧ (State.modAttic s a1).time = s.time ∧
    (State.modAttic s a1).faults = s.faults ∧ (State.modAttic s a1).signals = s.signals ∧
    (State.modAttic s a1).sensing = s.sensing ∧ (State.modAttic s a1).ctrl = s.ctrl ∧ (State.modAttic s a1).valve = s.valve ∧
    (State.modAttic s a1).gnss = s.gnss ∧ (State.modAttic s a1).imu = s.imu ∧ (State.modAttic s a1).cam = s.cam ∧
    (State.modAttic s a1).crown = s.crown ∧ (State.modAttic s a1).granary = s.granary ∧ (State.modAttic s a1).outs = s.outs ∧
    (State.modAttic s a1).swin = s.swin ∧ (State.modAttic s a1).body = s.body ∧ (State.modAttic s a1).fans = s.fans ∧
    (State.modAttic s a1).plate = s.plate ∧ (State.modAttic s a1).can = s.can ∧ (State.modAttic s a1).eth = s.eth ∧
    (State.modAttic s a1).nm = s.nm ∧ (State.modAttic s a1).root = s.root ∧ (State.modAttic s a1).graft = s.graft ∧
    (State.modAttic s a1).larder = s.larder ∧ (State.modAttic s a1).power = s.power ∧
    (State.modAttic s a1).thermal = s.thermal ∧ (State.modAttic s a1).jtag = s.jtag ∧ (State.modAttic s a1).kept = s.kept ∧
    (State.modAttic s a1).keptDirty = s.keptDirty ∧ (State.modAttic s a1).keptAt = s.keptAt ∧
    (State.modAttic s a1).free = s.free ∧ (State.modAttic s a1).pending = s.pending ∧
    (∀ k, (State.modAttic s a1).win k = s.win k) ∧ (∀ k, (State.modAttic s a1).lossCh k = s.lossCh k) ∧
    (∀ k, (State.modAttic s a1).bridgeCh k = s.bridgeCh k) ∧ (∀ k, (State.modAttic s a1).ainCh k = s.ainCh k) ∧
    (∀ k, (State.modAttic s a1).freqCh k = s.freqCh k) ∧ (∀ k, (State.modAttic s a1).supCh k = s.supCh k) ∧
    (∀ k, (State.modAttic s a1).canCh k = s.canCh k) ∧ (∀ k, (State.modAttic s a1).ethPort k = s.ethPort k) ∧
    (∀ k, (State.modAttic s a1).net k = s.net k) ∧ (∀ k, (State.modAttic s a1).port k = s.port k) ∧
    (∀ k, (State.modAttic s a1).lamp k = s.lamp k) ∧ (∀ k, (State.modAttic s a1).slot k = s.slot k) ∧
    (∀ k, (State.modAttic s a1).crownUnit k = s.crownUnit k) ∧ (∀ k, (State.modAttic s a1).loop k = s.loop k) ∧
    (∀ k, (State.modAttic s a1).trace k = s.trace k) ∧ (∀ k, (State.modAttic s a1).lidar k = s.lidar k) ∧
    (∀ k, (State.modAttic s a1).ring k = s.ring k) ∧ (∀ k, (State.modAttic s a1).fan k = s.fan k) ∧
    (∀ k, (State.modAttic s a1).out k = s.out k) ∧ (∀ k, (State.modAttic s a1).group k = s.group k) ∧
    (∀ k, (State.modAttic s a1).hb k = s.hb k) ∧ (∀ k, (State.modAttic s a1).svc k = s.svc k) ∧
    (∀ k, (State.modAttic s a1).valve' k = s.valve' k) ∧ (∀ k, (State.modAttic s a1).bank k = s.bank k) ∧
    (∀ k, (State.modAttic s a1).boost k = s.boost k) ∧ (∀ k, (State.modAttic s a1).ant k = s.ant k) ∧
    (∀ k, (State.modAttic s a1).partition k = s.partition k) ∧ (∀ k, (State.modAttic s a1).lin k = s.lin k) ∧
    (∀ k, (State.modAttic s a1).hostFn k = s.hostFn k) ∧ (∀ k, (State.modAttic s a1).parkSlot k = s.parkSlot k) ∧
    (∀ k, (State.modAttic s a1).stud k = s.stud k) ∧ (∀ k, (State.modAttic s a1).sensor k = s.sensor k) ∧
    (∀ k, (State.modAttic s a1).link k = s.link k) ∧ (∀ k, (State.modAttic s a1).sw k = s.sw k) ∧
    (State.modAttic s a1).hw = s.hw ∧ (State.modAttic s a1).variant = s.variant ∧ (State.modAttic s a1).trunkOn = s.trunkOn ∧
    (State.modAttic s a1).inRun = s.inRun ∧ (State.modAttic s a1).operating = s.operating ∧
    (State.modAttic s a1).parked = s.parked ∧ (∀ k, (State.modAttic s a1).decl k = s.decl k) ∧
    (∀ k, (State.modAttic s a1).sig k = s.sig k) := by and_intros <;> intros <;> rfl
/-- What `State.modGnss` leaves as it is. -/
@[simp] theorem State.modGnss_leaves (s) (a1) :
    (State.modGnss s a1).part = s.part ∧ (State.modGnss s a1).keeper = s.keeper ∧ (State.modGnss s a1).time = s.time ∧
    (State.modGnss s a1).faults = s.faults ∧ (State.modGnss s a1).signals = s.signals ∧
    (State.modGnss s a1).sensing = s.sensing ∧ (State.modGnss s a1).ctrl = s.ctrl ∧ (State.modGnss s a1).valve = s.valve ∧
    (State.modGnss s a1).imu = s.imu ∧ (State.modGnss s a1).cam = s.cam ∧ (State.modGnss s a1).crown = s.crown ∧
    (State.modGnss s a1).granary = s.granary ∧ (State.modGnss s a1).outs = s.outs ∧ (State.modGnss s a1).swin = s.swin ∧
    (State.modGnss s a1).body = s.body ∧ (State.modGnss s a1).fans = s.fans ∧ (State.modGnss s a1).plate = s.plate ∧
    (State.modGnss s a1).can = s.can ∧ (State.modGnss s a1).eth = s.eth ∧ (State.modGnss s a1).nm = s.nm ∧
    (State.modGnss s a1).root = s.root ∧ (State.modGnss s a1).graft = s.graft ∧ (State.modGnss s a1).attic = s.attic ∧
    (State.modGnss s a1).larder = s.larder ∧ (State.modGnss s a1).power = s.power ∧
    (State.modGnss s a1).thermal = s.thermal ∧ (State.modGnss s a1).jtag = s.jtag ∧ (State.modGnss s a1).kept = s.kept ∧
    (State.modGnss s a1).keptDirty = s.keptDirty ∧ (State.modGnss s a1).keptAt = s.keptAt ∧
    (State.modGnss s a1).free = s.free ∧ (State.modGnss s a1).pending = s.pending ∧
    (∀ k, (State.modGnss s a1).win k = s.win k) ∧ (∀ k, (State.modGnss s a1).lossCh k = s.lossCh k) ∧
    (∀ k, (State.modGnss s a1).bridgeCh k = s.bridgeCh k) ∧ (∀ k, (State.modGnss s a1).ainCh k = s.ainCh k) ∧
    (∀ k, (State.modGnss s a1).freqCh k = s.freqCh k) ∧ (∀ k, (State.modGnss s a1).supCh k = s.supCh k) ∧
    (∀ k, (State.modGnss s a1).canCh k = s.canCh k) ∧ (∀ k, (State.modGnss s a1).ethPort k = s.ethPort k) ∧
    (∀ k, (State.modGnss s a1).net k = s.net k) ∧ (∀ k, (State.modGnss s a1).port k = s.port k) ∧
    (∀ k, (State.modGnss s a1).lamp k = s.lamp k) ∧ (∀ k, (State.modGnss s a1).slot k = s.slot k) ∧
    (∀ k, (State.modGnss s a1).crownUnit k = s.crownUnit k) ∧ (∀ k, (State.modGnss s a1).loop k = s.loop k) ∧
    (∀ k, (State.modGnss s a1).trace k = s.trace k) ∧ (∀ k, (State.modGnss s a1).lidar k = s.lidar k) ∧
    (∀ k, (State.modGnss s a1).ring k = s.ring k) ∧ (∀ k, (State.modGnss s a1).fan k = s.fan k) ∧
    (∀ k, (State.modGnss s a1).out k = s.out k) ∧ (∀ k, (State.modGnss s a1).group k = s.group k) ∧
    (∀ k, (State.modGnss s a1).hb k = s.hb k) ∧ (∀ k, (State.modGnss s a1).svc k = s.svc k) ∧
    (∀ k, (State.modGnss s a1).valve' k = s.valve' k) ∧ (∀ k, (State.modGnss s a1).bank k = s.bank k) ∧
    (∀ k, (State.modGnss s a1).boost k = s.boost k) ∧ (∀ k, (State.modGnss s a1).partition k = s.partition k) ∧
    (∀ k, (State.modGnss s a1).lin k = s.lin k) ∧ (∀ k, (State.modGnss s a1).hostFn k = s.hostFn k) ∧
    (∀ k, (State.modGnss s a1).parkSlot k = s.parkSlot k) ∧ (∀ k, (State.modGnss s a1).stud k = s.stud k) ∧
    (∀ k, (State.modGnss s a1).sensor k = s.sensor k) ∧ (∀ k, (State.modGnss s a1).link k = s.link k) ∧
    (∀ k, (State.modGnss s a1).sw k = s.sw k) ∧ (State.modGnss s a1).hw = s.hw ∧ (State.modGnss s a1).variant = s.variant ∧
    (State.modGnss s a1).trunkOn = s.trunkOn ∧ (State.modGnss s a1).inRun = s.inRun ∧
    (State.modGnss s a1).operating = s.operating ∧ (State.modGnss s a1).parked = s.parked ∧
    (∀ k, (State.modGnss s a1).decl k = s.decl k) ∧ (∀ k, (State.modGnss s a1).sig k = s.sig k) := by and_intros <;> intros <;> rfl
/-- What `State.modAnt` leaves as it is. -/
@[simp] theorem State.modAnt_leaves (s) (a1) (a2) :
    (State.modAnt s a1 a2).part = s.part ∧ (State.modAnt s a1 a2).keeper = s.keeper ∧ (State.modAnt s a1 a2).time = s.time ∧
    (State.modAnt s a1 a2).faults = s.faults ∧ (State.modAnt s a1 a2).signals = s.signals ∧
    (State.modAnt s a1 a2).sensing = s.sensing ∧ (State.modAnt s a1 a2).ctrl = s.ctrl ∧
    (State.modAnt s a1 a2).valve = s.valve ∧ (State.modAnt s a1 a2).imu = s.imu ∧ (State.modAnt s a1 a2).cam = s.cam ∧
    (State.modAnt s a1 a2).crown = s.crown ∧ (State.modAnt s a1 a2).granary = s.granary ∧
    (State.modAnt s a1 a2).outs = s.outs ∧ (State.modAnt s a1 a2).swin = s.swin ∧ (State.modAnt s a1 a2).body = s.body ∧
    (State.modAnt s a1 a2).fans = s.fans ∧ (State.modAnt s a1 a2).plate = s.plate ∧ (State.modAnt s a1 a2).can = s.can ∧
    (State.modAnt s a1 a2).eth = s.eth ∧ (State.modAnt s a1 a2).nm = s.nm ∧ (State.modAnt s a1 a2).root = s.root ∧
    (State.modAnt s a1 a2).graft = s.graft ∧ (State.modAnt s a1 a2).attic = s.attic ∧
    (State.modAnt s a1 a2).larder = s.larder ∧ (State.modAnt s a1 a2).power = s.power ∧
    (State.modAnt s a1 a2).thermal = s.thermal ∧ (State.modAnt s a1 a2).jtag = s.jtag ∧
    (State.modAnt s a1 a2).kept = s.kept ∧ (State.modAnt s a1 a2).keptDirty = s.keptDirty ∧
    (State.modAnt s a1 a2).keptAt = s.keptAt ∧ (State.modAnt s a1 a2).free = s.free ∧
    (State.modAnt s a1 a2).pending = s.pending ∧ (∀ k, (State.modAnt s a1 a2).win k = s.win k) ∧
    (∀ k, (State.modAnt s a1 a2).lossCh k = s.lossCh k) ∧ (∀ k, (State.modAnt s a1 a2).bridgeCh k = s.bridgeCh k) ∧
    (∀ k, (State.modAnt s a1 a2).ainCh k = s.ainCh k) ∧ (∀ k, (State.modAnt s a1 a2).freqCh k = s.freqCh k) ∧
    (∀ k, (State.modAnt s a1 a2).supCh k = s.supCh k) ∧ (∀ k, (State.modAnt s a1 a2).canCh k = s.canCh k) ∧
    (∀ k, (State.modAnt s a1 a2).ethPort k = s.ethPort k) ∧ (∀ k, (State.modAnt s a1 a2).net k = s.net k) ∧
    (∀ k, (State.modAnt s a1 a2).port k = s.port k) ∧ (∀ k, (State.modAnt s a1 a2).lamp k = s.lamp k) ∧
    (∀ k, (State.modAnt s a1 a2).slot k = s.slot k) ∧ (∀ k, (State.modAnt s a1 a2).crownUnit k = s.crownUnit k) ∧
    (∀ k, (State.modAnt s a1 a2).loop k = s.loop k) ∧ (∀ k, (State.modAnt s a1 a2).trace k = s.trace k) ∧
    (∀ k, (State.modAnt s a1 a2).lidar k = s.lidar k) ∧ (∀ k, (State.modAnt s a1 a2).ring k = s.ring k) ∧
    (∀ k, (State.modAnt s a1 a2).fan k = s.fan k) ∧ (∀ k, (State.modAnt s a1 a2).out k = s.out k) ∧
    (∀ k, (State.modAnt s a1 a2).group k = s.group k) ∧ (∀ k, (State.modAnt s a1 a2).hb k = s.hb k) ∧
    (∀ k, (State.modAnt s a1 a2).svc k = s.svc k) ∧ (∀ k, (State.modAnt s a1 a2).valve' k = s.valve' k) ∧
    (∀ k, (State.modAnt s a1 a2).bank k = s.bank k) ∧ (∀ k, (State.modAnt s a1 a2).boost k = s.boost k) ∧
    (∀ k, (State.modAnt s a1 a2).partition k = s.partition k) ∧ (∀ k, (State.modAnt s a1 a2).lin k = s.lin k) ∧
    (∀ k, (State.modAnt s a1 a2).hostFn k = s.hostFn k) ∧ (∀ k, (State.modAnt s a1 a2).parkSlot k = s.parkSlot k) ∧
    (∀ k, (State.modAnt s a1 a2).stud k = s.stud k) ∧ (∀ k, (State.modAnt s a1 a2).sensor k = s.sensor k) ∧
    (∀ k, (State.modAnt s a1 a2).link k = s.link k) ∧ (∀ k, (State.modAnt s a1 a2).sw k = s.sw k) ∧
    (State.modAnt s a1 a2).hw = s.hw ∧ (State.modAnt s a1 a2).variant = s.variant ∧
    (State.modAnt s a1 a2).trunkOn = s.trunkOn ∧ (State.modAnt s a1 a2).inRun = s.inRun ∧
    (State.modAnt s a1 a2).operating = s.operating ∧ (State.modAnt s a1 a2).parked = s.parked ∧
    (∀ k, (State.modAnt s a1 a2).decl k = s.decl k) ∧ (∀ k, (State.modAnt s a1 a2).sig k = s.sig k) := by and_intros <;> intros <;> rfl
/-- What `State.modImu` leaves as it is. -/
@[simp] theorem State.modImu_leaves (s) (a1) :
    (State.modImu s a1).part = s.part ∧ (State.modImu s a1).keeper = s.keeper ∧ (State.modImu s a1).time = s.time ∧
    (State.modImu s a1).faults = s.faults ∧ (State.modImu s a1).signals = s.signals ∧
    (State.modImu s a1).sensing = s.sensing ∧ (State.modImu s a1).ctrl = s.ctrl ∧ (State.modImu s a1).valve = s.valve ∧
    (State.modImu s a1).gnss = s.gnss ∧ (State.modImu s a1).cam = s.cam ∧ (State.modImu s a1).crown = s.crown ∧
    (State.modImu s a1).granary = s.granary ∧ (State.modImu s a1).outs = s.outs ∧ (State.modImu s a1).swin = s.swin ∧
    (State.modImu s a1).body = s.body ∧ (State.modImu s a1).fans = s.fans ∧ (State.modImu s a1).plate = s.plate ∧
    (State.modImu s a1).can = s.can ∧ (State.modImu s a1).eth = s.eth ∧ (State.modImu s a1).nm = s.nm ∧
    (State.modImu s a1).root = s.root ∧ (State.modImu s a1).graft = s.graft ∧ (State.modImu s a1).attic = s.attic ∧
    (State.modImu s a1).larder = s.larder ∧ (State.modImu s a1).power = s.power ∧ (State.modImu s a1).thermal = s.thermal ∧
    (State.modImu s a1).jtag = s.jtag ∧ (State.modImu s a1).kept = s.kept ∧ (State.modImu s a1).keptDirty = s.keptDirty ∧
    (State.modImu s a1).keptAt = s.keptAt ∧ (State.modImu s a1).free = s.free ∧ (State.modImu s a1).pending = s.pending ∧
    (∀ k, (State.modImu s a1).win k = s.win k) ∧ (∀ k, (State.modImu s a1).lossCh k = s.lossCh k) ∧
    (∀ k, (State.modImu s a1).bridgeCh k = s.bridgeCh k) ∧ (∀ k, (State.modImu s a1).ainCh k = s.ainCh k) ∧
    (∀ k, (State.modImu s a1).freqCh k = s.freqCh k) ∧ (∀ k, (State.modImu s a1).supCh k = s.supCh k) ∧
    (∀ k, (State.modImu s a1).canCh k = s.canCh k) ∧ (∀ k, (State.modImu s a1).ethPort k = s.ethPort k) ∧
    (∀ k, (State.modImu s a1).net k = s.net k) ∧ (∀ k, (State.modImu s a1).port k = s.port k) ∧
    (∀ k, (State.modImu s a1).lamp k = s.lamp k) ∧ (∀ k, (State.modImu s a1).slot k = s.slot k) ∧
    (∀ k, (State.modImu s a1).crownUnit k = s.crownUnit k) ∧ (∀ k, (State.modImu s a1).loop k = s.loop k) ∧
    (∀ k, (State.modImu s a1).trace k = s.trace k) ∧ (∀ k, (State.modImu s a1).lidar k = s.lidar k) ∧
    (∀ k, (State.modImu s a1).ring k = s.ring k) ∧ (∀ k, (State.modImu s a1).fan k = s.fan k) ∧
    (∀ k, (State.modImu s a1).out k = s.out k) ∧ (∀ k, (State.modImu s a1).group k = s.group k) ∧
    (∀ k, (State.modImu s a1).hb k = s.hb k) ∧ (∀ k, (State.modImu s a1).svc k = s.svc k) ∧
    (∀ k, (State.modImu s a1).valve' k = s.valve' k) ∧ (∀ k, (State.modImu s a1).bank k = s.bank k) ∧
    (∀ k, (State.modImu s a1).boost k = s.boost k) ∧ (∀ k, (State.modImu s a1).ant k = s.ant k) ∧
    (∀ k, (State.modImu s a1).partition k = s.partition k) ∧ (∀ k, (State.modImu s a1).lin k = s.lin k) ∧
    (∀ k, (State.modImu s a1).hostFn k = s.hostFn k) ∧ (∀ k, (State.modImu s a1).parkSlot k = s.parkSlot k) ∧
    (∀ k, (State.modImu s a1).stud k = s.stud k) ∧ (∀ k, (State.modImu s a1).sensor k = s.sensor k) ∧
    (∀ k, (State.modImu s a1).link k = s.link k) ∧ (∀ k, (State.modImu s a1).sw k = s.sw k) ∧ (State.modImu s a1).hw = s.hw ∧
    (State.modImu s a1).variant = s.variant ∧ (State.modImu s a1).trunkOn = s.trunkOn ∧ (State.modImu s a1).inRun = s.inRun ∧
    (State.modImu s a1).operating = s.operating ∧ (State.modImu s a1).parked = s.parked ∧
    (∀ k, (State.modImu s a1).decl k = s.decl k) ∧ (∀ k, (State.modImu s a1).sig k = s.sig k) := by and_intros <;> intros <;> rfl
/-- What `State.modCam` leaves as it is. -/
@[simp] theorem State.modCam_leaves (s) (a1) :
    (State.modCam s a1).part = s.part ∧ (State.modCam s a1).keeper = s.keeper ∧ (State.modCam s a1).time = s.time ∧
    (State.modCam s a1).faults = s.faults ∧ (State.modCam s a1).signals = s.signals ∧
    (State.modCam s a1).sensing = s.sensing ∧ (State.modCam s a1).ctrl = s.ctrl ∧ (State.modCam s a1).valve = s.valve ∧
    (State.modCam s a1).gnss = s.gnss ∧ (State.modCam s a1).imu = s.imu ∧ (State.modCam s a1).crown = s.crown ∧
    (State.modCam s a1).granary = s.granary ∧ (State.modCam s a1).outs = s.outs ∧ (State.modCam s a1).swin = s.swin ∧
    (State.modCam s a1).body = s.body ∧ (State.modCam s a1).fans = s.fans ∧ (State.modCam s a1).plate = s.plate ∧
    (State.modCam s a1).can = s.can ∧ (State.modCam s a1).eth = s.eth ∧ (State.modCam s a1).nm = s.nm ∧
    (State.modCam s a1).root = s.root ∧ (State.modCam s a1).graft = s.graft ∧ (State.modCam s a1).attic = s.attic ∧
    (State.modCam s a1).larder = s.larder ∧ (State.modCam s a1).power = s.power ∧ (State.modCam s a1).thermal = s.thermal ∧
    (State.modCam s a1).jtag = s.jtag ∧ (State.modCam s a1).kept = s.kept ∧ (State.modCam s a1).keptDirty = s.keptDirty ∧
    (State.modCam s a1).keptAt = s.keptAt ∧ (State.modCam s a1).free = s.free ∧ (State.modCam s a1).pending = s.pending ∧
    (∀ k, (State.modCam s a1).win k = s.win k) ∧ (∀ k, (State.modCam s a1).lossCh k = s.lossCh k) ∧
    (∀ k, (State.modCam s a1).bridgeCh k = s.bridgeCh k) ∧ (∀ k, (State.modCam s a1).ainCh k = s.ainCh k) ∧
    (∀ k, (State.modCam s a1).freqCh k = s.freqCh k) ∧ (∀ k, (State.modCam s a1).supCh k = s.supCh k) ∧
    (∀ k, (State.modCam s a1).canCh k = s.canCh k) ∧ (∀ k, (State.modCam s a1).ethPort k = s.ethPort k) ∧
    (∀ k, (State.modCam s a1).net k = s.net k) ∧ (∀ k, (State.modCam s a1).slot k = s.slot k) ∧
    (∀ k, (State.modCam s a1).crownUnit k = s.crownUnit k) ∧ (∀ k, (State.modCam s a1).loop k = s.loop k) ∧
    (∀ k, (State.modCam s a1).trace k = s.trace k) ∧ (∀ k, (State.modCam s a1).lidar k = s.lidar k) ∧
    (∀ k, (State.modCam s a1).ring k = s.ring k) ∧ (∀ k, (State.modCam s a1).fan k = s.fan k) ∧
    (∀ k, (State.modCam s a1).out k = s.out k) ∧ (∀ k, (State.modCam s a1).group k = s.group k) ∧
    (∀ k, (State.modCam s a1).hb k = s.hb k) ∧ (∀ k, (State.modCam s a1).svc k = s.svc k) ∧
    (∀ k, (State.modCam s a1).valve' k = s.valve' k) ∧ (∀ k, (State.modCam s a1).bank k = s.bank k) ∧
    (∀ k, (State.modCam s a1).boost k = s.boost k) ∧ (∀ k, (State.modCam s a1).ant k = s.ant k) ∧
    (∀ k, (State.modCam s a1).partition k = s.partition k) ∧ (∀ k, (State.modCam s a1).lin k = s.lin k) ∧
    (∀ k, (State.modCam s a1).hostFn k = s.hostFn k) ∧ (∀ k, (State.modCam s a1).parkSlot k = s.parkSlot k) ∧
    (∀ k, (State.modCam s a1).stud k = s.stud k) ∧ (∀ k, (State.modCam s a1).sensor k = s.sensor k) ∧
    (∀ k, (State.modCam s a1).link k = s.link k) ∧ (∀ k, (State.modCam s a1).sw k = s.sw k) ∧ (State.modCam s a1).hw = s.hw ∧
    (State.modCam s a1).variant = s.variant ∧ (State.modCam s a1).trunkOn = s.trunkOn ∧ (State.modCam s a1).inRun = s.inRun ∧
    (State.modCam s a1).operating = s.operating ∧ (State.modCam s a1).parked = s.parked ∧
    (∀ k, (State.modCam s a1).decl k = s.decl k) ∧ (∀ k, (State.modCam s a1).sig k = s.sig k) := by and_intros <;> intros <;> rfl
/-- What `State.modPort` leaves as it is. -/
@[simp] theorem State.modPort_leaves (s) (a1) (a2) :
    (State.modPort s a1 a2).part = s.part ∧ (State.modPort s a1 a2).keeper = s.keeper ∧
    (State.modPort s a1 a2).time = s.time ∧ (State.modPort s a1 a2).faults = s.faults ∧
    (State.modPort s a1 a2).signals = s.signals ∧ (State.modPort s a1 a2).sensing = s.sensing ∧
    (State.modPort s a1 a2).ctrl = s.ctrl ∧ (State.modPort s a1 a2).valve = s.valve ∧ (State.modPort s a1 a2).gnss = s.gnss ∧
    (State.modPort s a1 a2).imu = s.imu ∧ (State.modPort s a1 a2).crown = s.crown ∧
    (State.modPort s a1 a2).granary = s.granary ∧ (State.modPort s a1 a2).outs = s.outs ∧
    (State.modPort s a1 a2).swin = s.swin ∧ (State.modPort s a1 a2).body = s.body ∧ (State.modPort s a1 a2).fans = s.fans ∧
    (State.modPort s a1 a2).plate = s.plate ∧ (State.modPort s a1 a2).can = s.can ∧ (State.modPort s a1 a2).eth = s.eth ∧
    (State.modPort s a1 a2).nm = s.nm ∧ (State.modPort s a1 a2).root = s.root ∧ (State.modPort s a1 a2).graft = s.graft ∧
    (State.modPort s a1 a2).attic = s.attic ∧ (State.modPort s a1 a2).larder = s.larder ∧
    (State.modPort s a1 a2).power = s.power ∧ (State.modPort s a1 a2).thermal = s.thermal ∧
    (State.modPort s a1 a2).jtag = s.jtag ∧ (State.modPort s a1 a2).kept = s.kept ∧
    (State.modPort s a1 a2).keptDirty = s.keptDirty ∧ (State.modPort s a1 a2).keptAt = s.keptAt ∧
    (State.modPort s a1 a2).free = s.free ∧ (State.modPort s a1 a2).pending = s.pending ∧
    (∀ k, (State.modPort s a1 a2).win k = s.win k) ∧ (∀ k, (State.modPort s a1 a2).lossCh k = s.lossCh k) ∧
    (∀ k, (State.modPort s a1 a2).bridgeCh k = s.bridgeCh k) ∧ (∀ k, (State.modPort s a1 a2).ainCh k = s.ainCh k) ∧
    (∀ k, (State.modPort s a1 a2).freqCh k = s.freqCh k) ∧ (∀ k, (State.modPort s a1 a2).supCh k = s.supCh k) ∧
    (∀ k, (State.modPort s a1 a2).canCh k = s.canCh k) ∧ (∀ k, (State.modPort s a1 a2).ethPort k = s.ethPort k) ∧
    (∀ k, (State.modPort s a1 a2).net k = s.net k) ∧ (∀ k, (State.modPort s a1 a2).lamp k = s.lamp k) ∧
    (∀ k, (State.modPort s a1 a2).slot k = s.slot k) ∧ (∀ k, (State.modPort s a1 a2).crownUnit k = s.crownUnit k) ∧
    (∀ k, (State.modPort s a1 a2).loop k = s.loop k) ∧ (∀ k, (State.modPort s a1 a2).trace k = s.trace k) ∧
    (∀ k, (State.modPort s a1 a2).lidar k = s.lidar k) ∧ (∀ k, (State.modPort s a1 a2).ring k = s.ring k) ∧
    (∀ k, (State.modPort s a1 a2).fan k = s.fan k) ∧ (∀ k, (State.modPort s a1 a2).out k = s.out k) ∧
    (∀ k, (State.modPort s a1 a2).group k = s.group k) ∧ (∀ k, (State.modPort s a1 a2).hb k = s.hb k) ∧
    (∀ k, (State.modPort s a1 a2).svc k = s.svc k) ∧ (∀ k, (State.modPort s a1 a2).valve' k = s.valve' k) ∧
    (∀ k, (State.modPort s a1 a2).bank k = s.bank k) ∧ (∀ k, (State.modPort s a1 a2).boost k = s.boost k) ∧
    (∀ k, (State.modPort s a1 a2).ant k = s.ant k) ∧ (∀ k, (State.modPort s a1 a2).partition k = s.partition k) ∧
    (∀ k, (State.modPort s a1 a2).lin k = s.lin k) ∧ (∀ k, (State.modPort s a1 a2).hostFn k = s.hostFn k) ∧
    (∀ k, (State.modPort s a1 a2).parkSlot k = s.parkSlot k) ∧ (∀ k, (State.modPort s a1 a2).stud k = s.stud k) ∧
    (∀ k, (State.modPort s a1 a2).sensor k = s.sensor k) ∧ (∀ k, (State.modPort s a1 a2).link k = s.link k) ∧
    (∀ k, (State.modPort s a1 a2).sw k = s.sw k) ∧ (State.modPort s a1 a2).hw = s.hw ∧
    (State.modPort s a1 a2).variant = s.variant ∧ (State.modPort s a1 a2).trunkOn = s.trunkOn ∧
    (State.modPort s a1 a2).inRun = s.inRun ∧ (State.modPort s a1 a2).operating = s.operating ∧
    (State.modPort s a1 a2).parked = s.parked ∧ (∀ k, (State.modPort s a1 a2).decl k = s.decl k) ∧
    (∀ k, (State.modPort s a1 a2).sig k = s.sig k) := by and_intros <;> intros <;> rfl
/-- What `State.modCamSensor` leaves as it is. -/
@[simp] theorem State.modCamSensor_leaves (s) (a1) (a2) (a3) :
    (State.modCamSensor s a1 a2 a3).part = s.part ∧ (State.modCamSensor s a1 a2 a3).keeper = s.keeper ∧
    (State.modCamSensor s a1 a2 a3).time = s.time ∧ (State.modCamSensor s a1 a2 a3).faults = s.faults ∧
    (State.modCamSensor s a1 a2 a3).signals = s.signals ∧ (State.modCamSensor s a1 a2 a3).sensing = s.sensing ∧
    (State.modCamSensor s a1 a2 a3).ctrl = s.ctrl ∧ (State.modCamSensor s a1 a2 a3).valve = s.valve ∧
    (State.modCamSensor s a1 a2 a3).gnss = s.gnss ∧ (State.modCamSensor s a1 a2 a3).imu = s.imu ∧
    (State.modCamSensor s a1 a2 a3).crown = s.crown ∧ (State.modCamSensor s a1 a2 a3).granary = s.granary ∧
    (State.modCamSensor s a1 a2 a3).outs = s.outs ∧ (State.modCamSensor s a1 a2 a3).swin = s.swin ∧
    (State.modCamSensor s a1 a2 a3).body = s.body ∧ (State.modCamSensor s a1 a2 a3).fans = s.fans ∧
    (State.modCamSensor s a1 a2 a3).plate = s.plate ∧ (State.modCamSensor s a1 a2 a3).can = s.can ∧
    (State.modCamSensor s a1 a2 a3).eth = s.eth ∧ (State.modCamSensor s a1 a2 a3).nm = s.nm ∧
    (State.modCamSensor s a1 a2 a3).root = s.root ∧ (State.modCamSensor s a1 a2 a3).graft = s.graft ∧
    (State.modCamSensor s a1 a2 a3).attic = s.attic ∧ (State.modCamSensor s a1 a2 a3).larder = s.larder ∧
    (State.modCamSensor s a1 a2 a3).power = s.power ∧ (State.modCamSensor s a1 a2 a3).thermal = s.thermal ∧
    (State.modCamSensor s a1 a2 a3).jtag = s.jtag ∧ (State.modCamSensor s a1 a2 a3).kept = s.kept ∧
    (State.modCamSensor s a1 a2 a3).keptDirty = s.keptDirty ∧ (State.modCamSensor s a1 a2 a3).keptAt = s.keptAt ∧
    (State.modCamSensor s a1 a2 a3).free = s.free ∧ (State.modCamSensor s a1 a2 a3).pending = s.pending ∧
    (∀ k, (State.modCamSensor s a1 a2 a3).win k = s.win k) ∧ (∀ k, (State.modCamSensor s a1 a2 a3).lossCh k = s.lossCh k) ∧
    (∀ k, (State.modCamSensor s a1 a2 a3).bridgeCh k = s.bridgeCh k) ∧
    (∀ k, (State.modCamSensor s a1 a2 a3).ainCh k = s.ainCh k) ∧
    (∀ k, (State.modCamSensor s a1 a2 a3).freqCh k = s.freqCh k) ∧
    (∀ k, (State.modCamSensor s a1 a2 a3).supCh k = s.supCh k) ∧ (∀ k, (State.modCamSensor s a1 a2 a3).canCh k = s.canCh k) ∧
    (∀ k, (State.modCamSensor s a1 a2 a3).ethPort k = s.ethPort k) ∧ (∀ k, (State.modCamSensor s a1 a2 a3).net k = s.net k) ∧
    (∀ k, (State.modCamSensor s a1 a2 a3).lamp k = s.lamp k) ∧ (∀ k, (State.modCamSensor s a1 a2 a3).slot k = s.slot k) ∧
    (∀ k, (State.modCamSensor s a1 a2 a3).crownUnit k = s.crownUnit k) ∧
    (∀ k, (State.modCamSensor s a1 a2 a3).loop k = s.loop k) ∧ (∀ k, (State.modCamSensor s a1 a2 a3).trace k = s.trace k) ∧
    (∀ k, (State.modCamSensor s a1 a2 a3).lidar k = s.lidar k) ∧ (∀ k, (State.modCamSensor s a1 a2 a3).ring k = s.ring k) ∧
    (∀ k, (State.modCamSensor s a1 a2 a3).fan k = s.fan k) ∧ (∀ k, (State.modCamSensor s a1 a2 a3).out k = s.out k) ∧
    (∀ k, (State.modCamSensor s a1 a2 a3).group k = s.group k) ∧ (∀ k, (State.modCamSensor s a1 a2 a3).hb k = s.hb k) ∧
    (∀ k, (State.modCamSensor s a1 a2 a3).svc k = s.svc k) ∧ (∀ k, (State.modCamSensor s a1 a2 a3).valve' k = s.valve' k) ∧
    (∀ k, (State.modCamSensor s a1 a2 a3).bank k = s.bank k) ∧ (∀ k, (State.modCamSensor s a1 a2 a3).boost k = s.boost k) ∧
    (∀ k, (State.modCamSensor s a1 a2 a3).ant k = s.ant k) ∧
    (∀ k, (State.modCamSensor s a1 a2 a3).partition k = s.partition k) ∧
    (∀ k, (State.modCamSensor s a1 a2 a3).lin k = s.lin k) ∧ (∀ k, (State.modCamSensor s a1 a2 a3).hostFn k = s.hostFn k) ∧
    (∀ k, (State.modCamSensor s a1 a2 a3).parkSlot k = s.parkSlot k) ∧
    (∀ k, (State.modCamSensor s a1 a2 a3).stud k = s.stud k) ∧ (∀ k, (State.modCamSensor s a1 a2 a3).sensor k = s.sensor k) ∧
    (∀ k, (State.modCamSensor s a1 a2 a3).link k = s.link k) ∧ (∀ k, (State.modCamSensor s a1 a2 a3).sw k = s.sw k) ∧
    (State.modCamSensor s a1 a2 a3).hw = s.hw ∧ (State.modCamSensor s a1 a2 a3).variant = s.variant ∧
    (State.modCamSensor s a1 a2 a3).trunkOn = s.trunkOn ∧ (State.modCamSensor s a1 a2 a3).inRun = s.inRun ∧
    (State.modCamSensor s a1 a2 a3).operating = s.operating ∧ (State.modCamSensor s a1 a2 a3).parked = s.parked ∧
    (∀ k, (State.modCamSensor s a1 a2 a3).decl k = s.decl k) ∧ (∀ k, (State.modCamSensor s a1 a2 a3).sig k = s.sig k) := by and_intros <;> intros <;> rfl
/-- What `State.modLamp` leaves as it is. -/
@[simp] theorem State.modLamp_leaves (s) (a1) (a2) :
    (State.modLamp s a1 a2).part = s.part ∧ (State.modLamp s a1 a2).keeper = s.keeper ∧
    (State.modLamp s a1 a2).time = s.time ∧ (State.modLamp s a1 a2).faults = s.faults ∧
    (State.modLamp s a1 a2).signals = s.signals ∧ (State.modLamp s a1 a2).sensing = s.sensing ∧
    (State.modLamp s a1 a2).ctrl = s.ctrl ∧ (State.modLamp s a1 a2).valve = s.valve ∧ (State.modLamp s a1 a2).gnss = s.gnss ∧
    (State.modLamp s a1 a2).imu = s.imu ∧ (State.modLamp s a1 a2).crown = s.crown ∧
    (State.modLamp s a1 a2).granary = s.granary ∧ (State.modLamp s a1 a2).outs = s.outs ∧
    (State.modLamp s a1 a2).swin = s.swin ∧ (State.modLamp s a1 a2).body = s.body ∧ (State.modLamp s a1 a2).fans = s.fans ∧
    (State.modLamp s a1 a2).plate = s.plate ∧ (State.modLamp s a1 a2).can = s.can ∧ (State.modLamp s a1 a2).eth = s.eth ∧
    (State.modLamp s a1 a2).nm = s.nm ∧ (State.modLamp s a1 a2).root = s.root ∧ (State.modLamp s a1 a2).graft = s.graft ∧
    (State.modLamp s a1 a2).attic = s.attic ∧ (State.modLamp s a1 a2).larder = s.larder ∧
    (State.modLamp s a1 a2).power = s.power ∧ (State.modLamp s a1 a2).thermal = s.thermal ∧
    (State.modLamp s a1 a2).jtag = s.jtag ∧ (State.modLamp s a1 a2).kept = s.kept ∧
    (State.modLamp s a1 a2).keptDirty = s.keptDirty ∧ (State.modLamp s a1 a2).keptAt = s.keptAt ∧
    (State.modLamp s a1 a2).free = s.free ∧ (State.modLamp s a1 a2).pending = s.pending ∧
    (∀ k, (State.modLamp s a1 a2).win k = s.win k) ∧ (∀ k, (State.modLamp s a1 a2).lossCh k = s.lossCh k) ∧
    (∀ k, (State.modLamp s a1 a2).bridgeCh k = s.bridgeCh k) ∧ (∀ k, (State.modLamp s a1 a2).ainCh k = s.ainCh k) ∧
    (∀ k, (State.modLamp s a1 a2).freqCh k = s.freqCh k) ∧ (∀ k, (State.modLamp s a1 a2).supCh k = s.supCh k) ∧
    (∀ k, (State.modLamp s a1 a2).canCh k = s.canCh k) ∧ (∀ k, (State.modLamp s a1 a2).ethPort k = s.ethPort k) ∧
    (∀ k, (State.modLamp s a1 a2).net k = s.net k) ∧ (∀ k, (State.modLamp s a1 a2).port k = s.port k) ∧
    (∀ k, (State.modLamp s a1 a2).slot k = s.slot k) ∧ (∀ k, (State.modLamp s a1 a2).crownUnit k = s.crownUnit k) ∧
    (∀ k, (State.modLamp s a1 a2).loop k = s.loop k) ∧ (∀ k, (State.modLamp s a1 a2).trace k = s.trace k) ∧
    (∀ k, (State.modLamp s a1 a2).lidar k = s.lidar k) ∧ (∀ k, (State.modLamp s a1 a2).ring k = s.ring k) ∧
    (∀ k, (State.modLamp s a1 a2).fan k = s.fan k) ∧ (∀ k, (State.modLamp s a1 a2).out k = s.out k) ∧
    (∀ k, (State.modLamp s a1 a2).group k = s.group k) ∧ (∀ k, (State.modLamp s a1 a2).hb k = s.hb k) ∧
    (∀ k, (State.modLamp s a1 a2).svc k = s.svc k) ∧ (∀ k, (State.modLamp s a1 a2).valve' k = s.valve' k) ∧
    (∀ k, (State.modLamp s a1 a2).bank k = s.bank k) ∧ (∀ k, (State.modLamp s a1 a2).boost k = s.boost k) ∧
    (∀ k, (State.modLamp s a1 a2).ant k = s.ant k) ∧ (∀ k, (State.modLamp s a1 a2).partition k = s.partition k) ∧
    (∀ k, (State.modLamp s a1 a2).lin k = s.lin k) ∧ (∀ k, (State.modLamp s a1 a2).hostFn k = s.hostFn k) ∧
    (∀ k, (State.modLamp s a1 a2).parkSlot k = s.parkSlot k) ∧ (∀ k, (State.modLamp s a1 a2).stud k = s.stud k) ∧
    (∀ k, (State.modLamp s a1 a2).sensor k = s.sensor k) ∧ (∀ k, (State.modLamp s a1 a2).link k = s.link k) ∧
    (∀ k, (State.modLamp s a1 a2).sw k = s.sw k) ∧ (State.modLamp s a1 a2).hw = s.hw ∧
    (State.modLamp s a1 a2).variant = s.variant ∧ (State.modLamp s a1 a2).trunkOn = s.trunkOn ∧
    (State.modLamp s a1 a2).inRun = s.inRun ∧ (State.modLamp s a1 a2).operating = s.operating ∧
    (State.modLamp s a1 a2).parked = s.parked ∧ (∀ k, (State.modLamp s a1 a2).decl k = s.decl k) ∧
    (∀ k, (State.modLamp s a1 a2).sig k = s.sig k) := by and_intros <;> intros <;> rfl
/-- What `State.modCrown` leaves as it is. -/
@[simp] theorem State.modCrown_leaves (s) (a1) :
    (State.modCrown s a1).part = s.part ∧ (State.modCrown s a1).keeper = s.keeper ∧ (State.modCrown s a1).time = s.time ∧
    (State.modCrown s a1).faults = s.faults ∧ (State.modCrown s a1).signals = s.signals ∧
    (State.modCrown s a1).sensing = s.sensing ∧ (State.modCrown s a1).ctrl = s.ctrl ∧ (State.modCrown s a1).valve = s.valve ∧
    (State.modCrown s a1).gnss = s.gnss ∧ (State.modCrown s a1).imu = s.imu ∧ (State.modCrown s a1).cam = s.cam ∧
    (State.modCrown s a1).granary = s.granary ∧ (State.modCrown s a1).outs = s.outs ∧ (State.modCrown s a1).swin = s.swin ∧
    (State.modCrown s a1).body = s.body ∧ (State.modCrown s a1).fans = s.fans ∧ (State.modCrown s a1).plate = s.plate ∧
    (State.modCrown s a1).can = s.can ∧ (State.modCrown s a1).eth = s.eth ∧ (State.modCrown s a1).nm = s.nm ∧
    (State.modCrown s a1).root = s.root ∧ (State.modCrown s a1).graft = s.graft ∧ (State.modCrown s a1).attic = s.attic ∧
    (State.modCrown s a1).larder = s.larder ∧ (State.modCrown s a1).power = s.power ∧
    (State.modCrown s a1).thermal = s.thermal ∧ (State.modCrown s a1).jtag = s.jtag ∧ (State.modCrown s a1).kept = s.kept ∧
    (State.modCrown s a1).keptDirty = s.keptDirty ∧ (State.modCrown s a1).keptAt = s.keptAt ∧
    (State.modCrown s a1).free = s.free ∧ (State.modCrown s a1).pending = s.pending ∧
    (∀ k, (State.modCrown s a1).win k = s.win k) ∧ (∀ k, (State.modCrown s a1).lossCh k = s.lossCh k) ∧
    (∀ k, (State.modCrown s a1).bridgeCh k = s.bridgeCh k) ∧ (∀ k, (State.modCrown s a1).ainCh k = s.ainCh k) ∧
    (∀ k, (State.modCrown s a1).freqCh k = s.freqCh k) ∧ (∀ k, (State.modCrown s a1).supCh k = s.supCh k) ∧
    (∀ k, (State.modCrown s a1).canCh k = s.canCh k) ∧ (∀ k, (State.modCrown s a1).ethPort k = s.ethPort k) ∧
    (∀ k, (State.modCrown s a1).net k = s.net k) ∧ (∀ k, (State.modCrown s a1).port k = s.port k) ∧
    (∀ k, (State.modCrown s a1).lamp k = s.lamp k) ∧ (∀ k, (State.modCrown s a1).loop k = s.loop k) ∧
    (∀ k, (State.modCrown s a1).trace k = s.trace k) ∧ (∀ k, (State.modCrown s a1).lidar k = s.lidar k) ∧
    (∀ k, (State.modCrown s a1).ring k = s.ring k) ∧ (∀ k, (State.modCrown s a1).fan k = s.fan k) ∧
    (∀ k, (State.modCrown s a1).out k = s.out k) ∧ (∀ k, (State.modCrown s a1).group k = s.group k) ∧
    (∀ k, (State.modCrown s a1).hb k = s.hb k) ∧ (∀ k, (State.modCrown s a1).svc k = s.svc k) ∧
    (∀ k, (State.modCrown s a1).valve' k = s.valve' k) ∧ (∀ k, (State.modCrown s a1).bank k = s.bank k) ∧
    (∀ k, (State.modCrown s a1).boost k = s.boost k) ∧ (∀ k, (State.modCrown s a1).ant k = s.ant k) ∧
    (∀ k, (State.modCrown s a1).partition k = s.partition k) ∧ (∀ k, (State.modCrown s a1).lin k = s.lin k) ∧
    (∀ k, (State.modCrown s a1).hostFn k = s.hostFn k) ∧ (∀ k, (State.modCrown s a1).parkSlot k = s.parkSlot k) ∧
    (∀ k, (State.modCrown s a1).stud k = s.stud k) ∧ (∀ k, (State.modCrown s a1).sensor k = s.sensor k) ∧
    (∀ k, (State.modCrown s a1).link k = s.link k) ∧ (∀ k, (State.modCrown s a1).sw k = s.sw k) ∧
    (State.modCrown s a1).hw = s.hw ∧ (State.modCrown s a1).variant = s.variant ∧ (State.modCrown s a1).trunkOn = s.trunkOn ∧
    (State.modCrown s a1).inRun = s.inRun ∧ (State.modCrown s a1).operating = s.operating ∧
    (State.modCrown s a1).parked = s.parked ∧ (∀ k, (State.modCrown s a1).decl k = s.decl k) ∧
    (∀ k, (State.modCrown s a1).sig k = s.sig k) := by and_intros <;> intros <;> rfl
/-- What `State.modSlot` leaves as it is. -/
@[simp] theorem State.modSlot_leaves (s) (a1) (a2) :
    (State.modSlot s a1 a2).part = s.part ∧ (State.modSlot s a1 a2).keeper = s.keeper ∧
    (State.modSlot s a1 a2).time = s.time ∧ (State.modSlot s a1 a2).faults = s.faults ∧
    (State.modSlot s a1 a2).signals = s.signals ∧ (State.modSlot s a1 a2).sensing = s.sensing ∧
    (State.modSlot s a1 a2).ctrl = s.ctrl ∧ (State.modSlot s a1 a2).valve = s.valve ∧ (State.modSlot s a1 a2).gnss = s.gnss ∧
    (State.modSlot s a1 a2).imu = s.imu ∧ (State.modSlot s a1 a2).cam = s.cam ∧ (State.modSlot s a1 a2).granary = s.granary ∧
    (State.modSlot s a1 a2).outs = s.outs ∧ (State.modSlot s a1 a2).swin = s.swin ∧ (State.modSlot s a1 a2).body = s.body ∧
    (State.modSlot s a1 a2).fans = s.fans ∧ (State.modSlot s a1 a2).plate = s.plate ∧ (State.modSlot s a1 a2).can = s.can ∧
    (State.modSlot s a1 a2).eth = s.eth ∧ (State.modSlot s a1 a2).nm = s.nm ∧ (State.modSlot s a1 a2).root = s.root ∧
    (State.modSlot s a1 a2).graft = s.graft ∧ (State.modSlot s a1 a2).attic = s.attic ∧
    (State.modSlot s a1 a2).larder = s.larder ∧ (State.modSlot s a1 a2).power = s.power ∧
    (State.modSlot s a1 a2).thermal = s.thermal ∧ (State.modSlot s a1 a2).jtag = s.jtag ∧
    (State.modSlot s a1 a2).kept = s.kept ∧ (State.modSlot s a1 a2).keptDirty = s.keptDirty ∧
    (State.modSlot s a1 a2).keptAt = s.keptAt ∧ (State.modSlot s a1 a2).free = s.free ∧
    (State.modSlot s a1 a2).pending = s.pending ∧ (∀ k, (State.modSlot s a1 a2).win k = s.win k) ∧
    (∀ k, (State.modSlot s a1 a2).lossCh k = s.lossCh k) ∧ (∀ k, (State.modSlot s a1 a2).bridgeCh k = s.bridgeCh k) ∧
    (∀ k, (State.modSlot s a1 a2).ainCh k = s.ainCh k) ∧ (∀ k, (State.modSlot s a1 a2).freqCh k = s.freqCh k) ∧
    (∀ k, (State.modSlot s a1 a2).supCh k = s.supCh k) ∧ (∀ k, (State.modSlot s a1 a2).canCh k = s.canCh k) ∧
    (∀ k, (State.modSlot s a1 a2).ethPort k = s.ethPort k) ∧ (∀ k, (State.modSlot s a1 a2).net k = s.net k) ∧
    (∀ k, (State.modSlot s a1 a2).port k = s.port k) ∧ (∀ k, (State.modSlot s a1 a2).lamp k = s.lamp k) ∧
    (∀ k, (State.modSlot s a1 a2).crownUnit k = s.crownUnit k) ∧ (∀ k, (State.modSlot s a1 a2).loop k = s.loop k) ∧
    (∀ k, (State.modSlot s a1 a2).trace k = s.trace k) ∧ (∀ k, (State.modSlot s a1 a2).lidar k = s.lidar k) ∧
    (∀ k, (State.modSlot s a1 a2).ring k = s.ring k) ∧ (∀ k, (State.modSlot s a1 a2).fan k = s.fan k) ∧
    (∀ k, (State.modSlot s a1 a2).out k = s.out k) ∧ (∀ k, (State.modSlot s a1 a2).group k = s.group k) ∧
    (∀ k, (State.modSlot s a1 a2).hb k = s.hb k) ∧ (∀ k, (State.modSlot s a1 a2).svc k = s.svc k) ∧
    (∀ k, (State.modSlot s a1 a2).valve' k = s.valve' k) ∧ (∀ k, (State.modSlot s a1 a2).bank k = s.bank k) ∧
    (∀ k, (State.modSlot s a1 a2).boost k = s.boost k) ∧ (∀ k, (State.modSlot s a1 a2).ant k = s.ant k) ∧
    (∀ k, (State.modSlot s a1 a2).partition k = s.partition k) ∧ (∀ k, (State.modSlot s a1 a2).lin k = s.lin k) ∧
    (∀ k, (State.modSlot s a1 a2).hostFn k = s.hostFn k) ∧ (∀ k, (State.modSlot s a1 a2).parkSlot k = s.parkSlot k) ∧
    (∀ k, (State.modSlot s a1 a2).stud k = s.stud k) ∧ (∀ k, (State.modSlot s a1 a2).sensor k = s.sensor k) ∧
    (∀ k, (State.modSlot s a1 a2).link k = s.link k) ∧ (∀ k, (State.modSlot s a1 a2).sw k = s.sw k) ∧
    (State.modSlot s a1 a2).hw = s.hw ∧ (State.modSlot s a1 a2).variant = s.variant ∧
    (State.modSlot s a1 a2).trunkOn = s.trunkOn ∧ (State.modSlot s a1 a2).inRun = s.inRun ∧
    (State.modSlot s a1 a2).operating = s.operating ∧ (State.modSlot s a1 a2).parked = s.parked ∧
    (∀ k, (State.modSlot s a1 a2).decl k = s.decl k) ∧ (∀ k, (State.modSlot s a1 a2).sig k = s.sig k) := by and_intros <;> intros <;> rfl
/-- What `State.modCrownUnit` leaves as it is. -/
@[simp] theorem State.modCrownUnit_leaves (s) (a1) (a2) :
    (State.modCrownUnit s a1 a2).part = s.part ∧ (State.modCrownUnit s a1 a2).keeper = s.keeper ∧
    (State.modCrownUnit s a1 a2).time = s.time ∧ (State.modCrownUnit s a1 a2).faults = s.faults ∧
    (State.modCrownUnit s a1 a2).signals = s.signals ∧ (State.modCrownUnit s a1 a2).sensing = s.sensing ∧
    (State.modCrownUnit s a1 a2).ctrl = s.ctrl ∧ (State.modCrownUnit s a1 a2).valve = s.valve ∧
    (State.modCrownUnit s a1 a2).gnss = s.gnss ∧ (State.modCrownUnit s a1 a2).imu = s.imu ∧
    (State.modCrownUnit s a1 a2).cam = s.cam ∧ (State.modCrownUnit s a1 a2).granary = s.granary ∧
    (State.modCrownUnit s a1 a2).outs = s.outs ∧ (State.modCrownUnit s a1 a2).swin = s.swin ∧
    (State.modCrownUnit s a1 a2).body = s.body ∧ (State.modCrownUnit s a1 a2).fans = s.fans ∧
    (State.modCrownUnit s a1 a2).plate = s.plate ∧ (State.modCrownUnit s a1 a2).can = s.can ∧
    (State.modCrownUnit s a1 a2).eth = s.eth ∧ (State.modCrownUnit s a1 a2).nm = s.nm ∧
    (State.modCrownUnit s a1 a2).root = s.root ∧ (State.modCrownUnit s a1 a2).graft = s.graft ∧
    (State.modCrownUnit s a1 a2).attic = s.attic ∧ (State.modCrownUnit s a1 a2).larder = s.larder ∧
    (State.modCrownUnit s a1 a2).power = s.power ∧ (State.modCrownUnit s a1 a2).thermal = s.thermal ∧
    (State.modCrownUnit s a1 a2).jtag = s.jtag ∧ (State.modCrownUnit s a1 a2).kept = s.kept ∧
    (State.modCrownUnit s a1 a2).keptDirty = s.keptDirty ∧ (State.modCrownUnit s a1 a2).keptAt = s.keptAt ∧
    (State.modCrownUnit s a1 a2).free = s.free ∧ (State.modCrownUnit s a1 a2).pending = s.pending ∧
    (∀ k, (State.modCrownUnit s a1 a2).win k = s.win k) ∧ (∀ k, (State.modCrownUnit s a1 a2).lossCh k = s.lossCh k) ∧
    (∀ k, (State.modCrownUnit s a1 a2).bridgeCh k = s.bridgeCh k) ∧ (∀ k, (State.modCrownUnit s a1 a2).ainCh k = s.ainCh k) ∧
    (∀ k, (State.modCrownUnit s a1 a2).freqCh k = s.freqCh k) ∧ (∀ k, (State.modCrownUnit s a1 a2).supCh k = s.supCh k) ∧
    (∀ k, (State.modCrownUnit s a1 a2).canCh k = s.canCh k) ∧ (∀ k, (State.modCrownUnit s a1 a2).ethPort k = s.ethPort k) ∧
    (∀ k, (State.modCrownUnit s a1 a2).net k = s.net k) ∧ (∀ k, (State.modCrownUnit s a1 a2).port k = s.port k) ∧
    (∀ k, (State.modCrownUnit s a1 a2).lamp k = s.lamp k) ∧ (∀ k, (State.modCrownUnit s a1 a2).slot k = s.slot k) ∧
    (∀ k, (State.modCrownUnit s a1 a2).loop k = s.loop k) ∧ (∀ k, (State.modCrownUnit s a1 a2).trace k = s.trace k) ∧
    (∀ k, (State.modCrownUnit s a1 a2).lidar k = s.lidar k) ∧ (∀ k, (State.modCrownUnit s a1 a2).ring k = s.ring k) ∧
    (∀ k, (State.modCrownUnit s a1 a2).fan k = s.fan k) ∧ (∀ k, (State.modCrownUnit s a1 a2).out k = s.out k) ∧
    (∀ k, (State.modCrownUnit s a1 a2).group k = s.group k) ∧ (∀ k, (State.modCrownUnit s a1 a2).hb k = s.hb k) ∧
    (∀ k, (State.modCrownUnit s a1 a2).svc k = s.svc k) ∧ (∀ k, (State.modCrownUnit s a1 a2).valve' k = s.valve' k) ∧
    (∀ k, (State.modCrownUnit s a1 a2).bank k = s.bank k) ∧ (∀ k, (State.modCrownUnit s a1 a2).boost k = s.boost k) ∧
    (∀ k, (State.modCrownUnit s a1 a2).ant k = s.ant k) ∧ (∀ k, (State.modCrownUnit s a1 a2).partition k = s.partition k) ∧
    (∀ k, (State.modCrownUnit s a1 a2).lin k = s.lin k) ∧ (∀ k, (State.modCrownUnit s a1 a2).hostFn k = s.hostFn k) ∧
    (∀ k, (State.modCrownUnit s a1 a2).parkSlot k = s.parkSlot k) ∧ (∀ k, (State.modCrownUnit s a1 a2).stud k = s.stud k) ∧
    (∀ k, (State.modCrownUnit s a1 a2).sensor k = s.sensor k) ∧ (∀ k, (State.modCrownUnit s a1 a2).link k = s.link k) ∧
    (∀ k, (State.modCrownUnit s a1 a2).sw k = s.sw k) ∧ (State.modCrownUnit s a1 a2).hw = s.hw ∧
    (State.modCrownUnit s a1 a2).variant = s.variant ∧ (State.modCrownUnit s a1 a2).trunkOn = s.trunkOn ∧
    (State.modCrownUnit s a1 a2).inRun = s.inRun ∧ (State.modCrownUnit s a1 a2).operating = s.operating ∧
    (State.modCrownUnit s a1 a2).parked = s.parked ∧ (∀ k, (State.modCrownUnit s a1 a2).decl k = s.decl k) ∧
    (∀ k, (State.modCrownUnit s a1 a2).sig k = s.sig k) := by and_intros <;> intros <;> rfl
/-- What `State.modIn` leaves as it is. -/
@[simp] theorem State.modIn_leaves (s) (a1) (a2) (a3) :
    (State.modIn s a1 a2 a3).part = s.part ∧ (State.modIn s a1 a2 a3).keeper = s.keeper ∧
    (State.modIn s a1 a2 a3).time = s.time ∧ (State.modIn s a1 a2 a3).faults = s.faults ∧
    (State.modIn s a1 a2 a3).signals = s.signals ∧ (State.modIn s a1 a2 a3).sensing = s.sensing ∧
    (State.modIn s a1 a2 a3).ctrl = s.ctrl ∧ (State.modIn s a1 a2 a3).valve = s.valve ∧
    (State.modIn s a1 a2 a3).gnss = s.gnss ∧ (State.modIn s a1 a2 a3).imu = s.imu ∧ (State.modIn s a1 a2 a3).cam = s.cam ∧
    (State.modIn s a1 a2 a3).granary = s.granary ∧ (State.modIn s a1 a2 a3).outs = s.outs ∧
    (State.modIn s a1 a2 a3).swin = s.swin ∧ (State.modIn s a1 a2 a3).body = s.body ∧
    (State.modIn s a1 a2 a3).fans = s.fans ∧ (State.modIn s a1 a2 a3).plate = s.plate ∧
    (State.modIn s a1 a2 a3).can = s.can ∧ (State.modIn s a1 a2 a3).eth = s.eth ∧ (State.modIn s a1 a2 a3).nm = s.nm ∧
    (State.modIn s a1 a2 a3).root = s.root ∧ (State.modIn s a1 a2 a3).graft = s.graft ∧
    (State.modIn s a1 a2 a3).attic = s.attic ∧ (State.modIn s a1 a2 a3).larder = s.larder ∧
    (State.modIn s a1 a2 a3).power = s.power ∧ (State.modIn s a1 a2 a3).thermal = s.thermal ∧
    (State.modIn s a1 a2 a3).jtag = s.jtag ∧ (State.modIn s a1 a2 a3).kept = s.kept ∧
    (State.modIn s a1 a2 a3).keptDirty = s.keptDirty ∧ (State.modIn s a1 a2 a3).keptAt = s.keptAt ∧
    (State.modIn s a1 a2 a3).free = s.free ∧ (State.modIn s a1 a2 a3).pending = s.pending ∧
    (∀ k, (State.modIn s a1 a2 a3).win k = s.win k) ∧ (∀ k, (State.modIn s a1 a2 a3).lossCh k = s.lossCh k) ∧
    (∀ k, (State.modIn s a1 a2 a3).bridgeCh k = s.bridgeCh k) ∧ (∀ k, (State.modIn s a1 a2 a3).ainCh k = s.ainCh k) ∧
    (∀ k, (State.modIn s a1 a2 a3).freqCh k = s.freqCh k) ∧ (∀ k, (State.modIn s a1 a2 a3).supCh k = s.supCh k) ∧
    (∀ k, (State.modIn s a1 a2 a3).canCh k = s.canCh k) ∧ (∀ k, (State.modIn s a1 a2 a3).ethPort k = s.ethPort k) ∧
    (∀ k, (State.modIn s a1 a2 a3).net k = s.net k) ∧ (∀ k, (State.modIn s a1 a2 a3).port k = s.port k) ∧
    (∀ k, (State.modIn s a1 a2 a3).lamp k = s.lamp k) ∧ (∀ k, (State.modIn s a1 a2 a3).crownUnit k = s.crownUnit k) ∧
    (∀ k, (State.modIn s a1 a2 a3).loop k = s.loop k) ∧ (∀ k, (State.modIn s a1 a2 a3).trace k = s.trace k) ∧
    (∀ k, (State.modIn s a1 a2 a3).lidar k = s.lidar k) ∧ (∀ k, (State.modIn s a1 a2 a3).ring k = s.ring k) ∧
    (∀ k, (State.modIn s a1 a2 a3).fan k = s.fan k) ∧ (∀ k, (State.modIn s a1 a2 a3).out k = s.out k) ∧
    (∀ k, (State.modIn s a1 a2 a3).group k = s.group k) ∧ (∀ k, (State.modIn s a1 a2 a3).hb k = s.hb k) ∧
    (∀ k, (State.modIn s a1 a2 a3).svc k = s.svc k) ∧ (∀ k, (State.modIn s a1 a2 a3).valve' k = s.valve' k) ∧
    (∀ k, (State.modIn s a1 a2 a3).bank k = s.bank k) ∧ (∀ k, (State.modIn s a1 a2 a3).boost k = s.boost k) ∧
    (∀ k, (State.modIn s a1 a2 a3).ant k = s.ant k) ∧ (∀ k, (State.modIn s a1 a2 a3).partition k = s.partition k) ∧
    (∀ k, (State.modIn s a1 a2 a3).lin k = s.lin k) ∧ (∀ k, (State.modIn s a1 a2 a3).hostFn k = s.hostFn k) ∧
    (∀ k, (State.modIn s a1 a2 a3).parkSlot k = s.parkSlot k) ∧ (∀ k, (State.modIn s a1 a2 a3).stud k = s.stud k) ∧
    (∀ k, (State.modIn s a1 a2 a3).sensor k = s.sensor k) ∧ (∀ k, (State.modIn s a1 a2 a3).link k = s.link k) ∧
    (∀ k, (State.modIn s a1 a2 a3).sw k = s.sw k) ∧ (State.modIn s a1 a2 a3).hw = s.hw ∧
    (State.modIn s a1 a2 a3).variant = s.variant ∧ (State.modIn s a1 a2 a3).trunkOn = s.trunkOn ∧
    (State.modIn s a1 a2 a3).inRun = s.inRun ∧ (State.modIn s a1 a2 a3).operating = s.operating ∧
    (State.modIn s a1 a2 a3).parked = s.parked ∧ (∀ k, (State.modIn s a1 a2 a3).decl k = s.decl k) ∧
    (∀ k, (State.modIn s a1 a2 a3).sig k = s.sig k) := by and_intros <;> intros <;> rfl
/-- What `State.modGran` leaves as it is. -/
@[simp] theorem State.modGran_leaves (s) (a1) :
    (State.modGran s a1).part = s.part ∧ (State.modGran s a1).keeper = s.keeper ∧ (State.modGran s a1).time = s.time ∧
    (State.modGran s a1).faults = s.faults ∧ (State.modGran s a1).signals = s.signals ∧
    (State.modGran s a1).sensing = s.sensing ∧ (State.modGran s a1).ctrl = s.ctrl ∧ (State.modGran s a1).valve = s.valve ∧
    (State.modGran s a1).gnss = s.gnss ∧ (State.modGran s a1).imu = s.imu ∧ (State.modGran s a1).cam = s.cam ∧
    (State.modGran s a1).crown = s.crown ∧ (State.modGran s a1).outs = s.outs ∧ (State.modGran s a1).swin = s.swin ∧
    (State.modGran s a1).body = s.body ∧ (State.modGran s a1).fans = s.fans ∧ (State.modGran s a1).plate = s.plate ∧
    (State.modGran s a1).can = s.can ∧ (State.modGran s a1).eth = s.eth ∧ (State.modGran s a1).nm = s.nm ∧
    (State.modGran s a1).root = s.root ∧ (State.modGran s a1).graft = s.graft ∧ (State.modGran s a1).attic = s.attic ∧
    (State.modGran s a1).larder = s.larder ∧ (State.modGran s a1).power = s.power ∧
    (State.modGran s a1).thermal = s.thermal ∧ (State.modGran s a1).jtag = s.jtag ∧ (State.modGran s a1).kept = s.kept ∧
    (State.modGran s a1).keptDirty = s.keptDirty ∧ (State.modGran s a1).keptAt = s.keptAt ∧
    (State.modGran s a1).free = s.free ∧ (State.modGran s a1).pending = s.pending ∧
    (∀ k, (State.modGran s a1).win k = s.win k) ∧ (∀ k, (State.modGran s a1).lossCh k = s.lossCh k) ∧
    (∀ k, (State.modGran s a1).bridgeCh k = s.bridgeCh k) ∧ (∀ k, (State.modGran s a1).ainCh k = s.ainCh k) ∧
    (∀ k, (State.modGran s a1).freqCh k = s.freqCh k) ∧ (∀ k, (State.modGran s a1).supCh k = s.supCh k) ∧
    (∀ k, (State.modGran s a1).canCh k = s.canCh k) ∧ (∀ k, (State.modGran s a1).ethPort k = s.ethPort k) ∧
    (∀ k, (State.modGran s a1).net k = s.net k) ∧ (∀ k, (State.modGran s a1).port k = s.port k) ∧
    (∀ k, (State.modGran s a1).lamp k = s.lamp k) ∧ (∀ k, (State.modGran s a1).slot k = s.slot k) ∧
    (∀ k, (State.modGran s a1).crownUnit k = s.crownUnit k) ∧ (∀ k, (State.modGran s a1).loop k = s.loop k) ∧
    (∀ k, (State.modGran s a1).trace k = s.trace k) ∧ (∀ k, (State.modGran s a1).lidar k = s.lidar k) ∧
    (∀ k, (State.modGran s a1).ring k = s.ring k) ∧ (∀ k, (State.modGran s a1).fan k = s.fan k) ∧
    (∀ k, (State.modGran s a1).out k = s.out k) ∧ (∀ k, (State.modGran s a1).group k = s.group k) ∧
    (∀ k, (State.modGran s a1).hb k = s.hb k) ∧ (∀ k, (State.modGran s a1).svc k = s.svc k) ∧
    (∀ k, (State.modGran s a1).valve' k = s.valve' k) ∧ (∀ k, (State.modGran s a1).bank k = s.bank k) ∧
    (∀ k, (State.modGran s a1).boost k = s.boost k) ∧ (∀ k, (State.modGran s a1).ant k = s.ant k) ∧
    (∀ k, (State.modGran s a1).partition k = s.partition k) ∧ (∀ k, (State.modGran s a1).lin k = s.lin k) ∧
    (∀ k, (State.modGran s a1).hostFn k = s.hostFn k) ∧ (∀ k, (State.modGran s a1).parkSlot k = s.parkSlot k) ∧
    (∀ k, (State.modGran s a1).stud k = s.stud k) ∧ (∀ k, (State.modGran s a1).sensor k = s.sensor k) ∧
    (∀ k, (State.modGran s a1).link k = s.link k) ∧ (∀ k, (State.modGran s a1).sw k = s.sw k) ∧
    (State.modGran s a1).hw = s.hw ∧ (State.modGran s a1).variant = s.variant ∧ (State.modGran s a1).trunkOn = s.trunkOn ∧
    (State.modGran s a1).inRun = s.inRun ∧ (State.modGran s a1).operating = s.operating ∧
    (State.modGran s a1).parked = s.parked ∧ (∀ k, (State.modGran s a1).decl k = s.decl k) ∧
    (∀ k, (State.modGran s a1).sig k = s.sig k) := by and_intros <;> intros <;> rfl
/-- What `State.modPark` leaves as it is. -/
@[simp] theorem State.modPark_leaves (s) (a1) (a2) :
    (State.modPark s a1 a2).part = s.part ∧ (State.modPark s a1 a2).keeper = s.keeper ∧
    (State.modPark s a1 a2).time = s.time ∧ (State.modPark s a1 a2).faults = s.faults ∧
    (State.modPark s a1 a2).signals = s.signals ∧ (State.modPark s a1 a2).sensing = s.sensing ∧
    (State.modPark s a1 a2).ctrl = s.ctrl ∧ (State.modPark s a1 a2).valve = s.valve ∧ (State.modPark s a1 a2).gnss = s.gnss ∧
    (State.modPark s a1 a2).imu = s.imu ∧ (State.modPark s a1 a2).cam = s.cam ∧ (State.modPark s a1 a2).crown = s.crown ∧
    (State.modPark s a1 a2).granary = s.granary ∧ (State.modPark s a1 a2).swin = s.swin ∧
    (State.modPark s a1 a2).body = s.body ∧ (State.modPark s a1 a2).fans = s.fans ∧ (State.modPark s a1 a2).plate = s.plate ∧
    (State.modPark s a1 a2).can = s.can ∧ (State.modPark s a1 a2).eth = s.eth ∧ (State.modPark s a1 a2).nm = s.nm ∧
    (State.modPark s a1 a2).root = s.root ∧ (State.modPark s a1 a2).graft = s.graft ∧
    (State.modPark s a1 a2).attic = s.attic ∧ (State.modPark s a1 a2).larder = s.larder ∧
    (State.modPark s a1 a2).power = s.power ∧ (State.modPark s a1 a2).thermal = s.thermal ∧
    (State.modPark s a1 a2).jtag = s.jtag ∧ (State.modPark s a1 a2).kept = s.kept ∧
    (State.modPark s a1 a2).keptDirty = s.keptDirty ∧ (State.modPark s a1 a2).keptAt = s.keptAt ∧
    (State.modPark s a1 a2).free = s.free ∧ (State.modPark s a1 a2).pending = s.pending ∧
    (∀ k, (State.modPark s a1 a2).win k = s.win k) ∧ (∀ k, (State.modPark s a1 a2).lossCh k = s.lossCh k) ∧
    (∀ k, (State.modPark s a1 a2).bridgeCh k = s.bridgeCh k) ∧ (∀ k, (State.modPark s a1 a2).ainCh k = s.ainCh k) ∧
    (∀ k, (State.modPark s a1 a2).freqCh k = s.freqCh k) ∧ (∀ k, (State.modPark s a1 a2).supCh k = s.supCh k) ∧
    (∀ k, (State.modPark s a1 a2).canCh k = s.canCh k) ∧ (∀ k, (State.modPark s a1 a2).ethPort k = s.ethPort k) ∧
    (∀ k, (State.modPark s a1 a2).net k = s.net k) ∧ (∀ k, (State.modPark s a1 a2).port k = s.port k) ∧
    (∀ k, (State.modPark s a1 a2).lamp k = s.lamp k) ∧ (∀ k, (State.modPark s a1 a2).slot k = s.slot k) ∧
    (∀ k, (State.modPark s a1 a2).crownUnit k = s.crownUnit k) ∧ (∀ k, (State.modPark s a1 a2).loop k = s.loop k) ∧
    (∀ k, (State.modPark s a1 a2).trace k = s.trace k) ∧ (∀ k, (State.modPark s a1 a2).lidar k = s.lidar k) ∧
    (∀ k, (State.modPark s a1 a2).ring k = s.ring k) ∧ (∀ k, (State.modPark s a1 a2).fan k = s.fan k) ∧
    (∀ k, (State.modPark s a1 a2).out k = s.out k) ∧ (∀ k, (State.modPark s a1 a2).group k = s.group k) ∧
    (∀ k, (State.modPark s a1 a2).hb k = s.hb k) ∧ (∀ k, (State.modPark s a1 a2).svc k = s.svc k) ∧
    (∀ k, (State.modPark s a1 a2).valve' k = s.valve' k) ∧ (∀ k, (State.modPark s a1 a2).bank k = s.bank k) ∧
    (∀ k, (State.modPark s a1 a2).boost k = s.boost k) ∧ (∀ k, (State.modPark s a1 a2).ant k = s.ant k) ∧
    (∀ k, (State.modPark s a1 a2).partition k = s.partition k) ∧ (∀ k, (State.modPark s a1 a2).lin k = s.lin k) ∧
    (∀ k, (State.modPark s a1 a2).hostFn k = s.hostFn k) ∧ (∀ k, (State.modPark s a1 a2).stud k = s.stud k) ∧
    (∀ k, (State.modPark s a1 a2).sensor k = s.sensor k) ∧ (∀ k, (State.modPark s a1 a2).link k = s.link k) ∧
    (∀ k, (State.modPark s a1 a2).sw k = s.sw k) ∧ (State.modPark s a1 a2).hw = s.hw ∧
    (State.modPark s a1 a2).variant = s.variant ∧ (State.modPark s a1 a2).trunkOn = s.trunkOn ∧
    (State.modPark s a1 a2).inRun = s.inRun ∧ (State.modPark s a1 a2).operating = s.operating ∧
    (State.modPark s a1 a2).parked = s.parked ∧ (∀ k, (State.modPark s a1 a2).decl k = s.decl k) ∧
    (∀ k, (State.modPark s a1 a2).sig k = s.sig k) := by and_intros <;> intros <;> rfl
/-- What `State.modSw` leaves as it is. -/
@[simp] theorem State.modSw_leaves (s) (a1) (a2) :
    (State.modSw s a1 a2).part = s.part ∧ (State.modSw s a1 a2).keeper = s.keeper ∧ (State.modSw s a1 a2).time = s.time ∧
    (State.modSw s a1 a2).faults = s.faults ∧ (State.modSw s a1 a2).signals = s.signals ∧
    (State.modSw s a1 a2).sensing = s.sensing ∧ (State.modSw s a1 a2).ctrl = s.ctrl ∧ (State.modSw s a1 a2).valve = s.valve ∧
    (State.modSw s a1 a2).gnss = s.gnss ∧ (State.modSw s a1 a2).imu = s.imu ∧ (State.modSw s a1 a2).cam = s.cam ∧
    (State.modSw s a1 a2).crown = s.crown ∧ (State.modSw s a1 a2).granary = s.granary ∧ (State.modSw s a1 a2).outs = s.outs ∧
    (State.modSw s a1 a2).body = s.body ∧ (State.modSw s a1 a2).fans = s.fans ∧ (State.modSw s a1 a2).plate = s.plate ∧
    (State.modSw s a1 a2).can = s.can ∧ (State.modSw s a1 a2).eth = s.eth ∧ (State.modSw s a1 a2).nm = s.nm ∧
    (State.modSw s a1 a2).root = s.root ∧ (State.modSw s a1 a2).graft = s.graft ∧ (State.modSw s a1 a2).attic = s.attic ∧
    (State.modSw s a1 a2).larder = s.larder ∧ (State.modSw s a1 a2).power = s.power ∧
    (State.modSw s a1 a2).thermal = s.thermal ∧ (State.modSw s a1 a2).jtag = s.jtag ∧ (State.modSw s a1 a2).kept = s.kept ∧
    (State.modSw s a1 a2).keptDirty = s.keptDirty ∧ (State.modSw s a1 a2).keptAt = s.keptAt ∧
    (State.modSw s a1 a2).free = s.free ∧ (State.modSw s a1 a2).pending = s.pending ∧
    (∀ k, (State.modSw s a1 a2).win k = s.win k) ∧ (∀ k, (State.modSw s a1 a2).lossCh k = s.lossCh k) ∧
    (∀ k, (State.modSw s a1 a2).bridgeCh k = s.bridgeCh k) ∧ (∀ k, (State.modSw s a1 a2).ainCh k = s.ainCh k) ∧
    (∀ k, (State.modSw s a1 a2).freqCh k = s.freqCh k) ∧ (∀ k, (State.modSw s a1 a2).supCh k = s.supCh k) ∧
    (∀ k, (State.modSw s a1 a2).canCh k = s.canCh k) ∧ (∀ k, (State.modSw s a1 a2).ethPort k = s.ethPort k) ∧
    (∀ k, (State.modSw s a1 a2).net k = s.net k) ∧ (∀ k, (State.modSw s a1 a2).port k = s.port k) ∧
    (∀ k, (State.modSw s a1 a2).lamp k = s.lamp k) ∧ (∀ k, (State.modSw s a1 a2).slot k = s.slot k) ∧
    (∀ k, (State.modSw s a1 a2).crownUnit k = s.crownUnit k) ∧ (∀ k, (State.modSw s a1 a2).loop k = s.loop k) ∧
    (∀ k, (State.modSw s a1 a2).trace k = s.trace k) ∧ (∀ k, (State.modSw s a1 a2).lidar k = s.lidar k) ∧
    (∀ k, (State.modSw s a1 a2).ring k = s.ring k) ∧ (∀ k, (State.modSw s a1 a2).fan k = s.fan k) ∧
    (∀ k, (State.modSw s a1 a2).out k = s.out k) ∧ (∀ k, (State.modSw s a1 a2).group k = s.group k) ∧
    (∀ k, (State.modSw s a1 a2).hb k = s.hb k) ∧ (∀ k, (State.modSw s a1 a2).svc k = s.svc k) ∧
    (∀ k, (State.modSw s a1 a2).valve' k = s.valve' k) ∧ (∀ k, (State.modSw s a1 a2).bank k = s.bank k) ∧
    (∀ k, (State.modSw s a1 a2).boost k = s.boost k) ∧ (∀ k, (State.modSw s a1 a2).ant k = s.ant k) ∧
    (∀ k, (State.modSw s a1 a2).partition k = s.partition k) ∧ (∀ k, (State.modSw s a1 a2).lin k = s.lin k) ∧
    (∀ k, (State.modSw s a1 a2).hostFn k = s.hostFn k) ∧ (∀ k, (State.modSw s a1 a2).parkSlot k = s.parkSlot k) ∧
    (∀ k, (State.modSw s a1 a2).stud k = s.stud k) ∧ (∀ k, (State.modSw s a1 a2).sensor k = s.sensor k) ∧
    (∀ k, (State.modSw s a1 a2).link k = s.link k) ∧ (State.modSw s a1 a2).hw = s.hw ∧
    (State.modSw s a1 a2).variant = s.variant ∧ (State.modSw s a1 a2).trunkOn = s.trunkOn ∧
    (State.modSw s a1 a2).inRun = s.inRun ∧ (State.modSw s a1 a2).operating = s.operating ∧
    (State.modSw s a1 a2).parked = s.parked ∧ (∀ k, (State.modSw s a1 a2).decl k = s.decl k) ∧
    (∀ k, (State.modSw s a1 a2).sig k = s.sig k) := by and_intros <;> intros <;> rfl
/-- What `State.modLin` leaves as it is. -/
@[simp] theorem State.modLin_leaves (s) (a1) (a2) :
    (State.modLin s a1 a2).part = s.part ∧ (State.modLin s a1 a2).keeper = s.keeper ∧ (State.modLin s a1 a2).time = s.time ∧
    (State.modLin s a1 a2).faults = s.faults ∧ (State.modLin s a1 a2).signals = s.signals ∧
    (State.modLin s a1 a2).sensing = s.sensing ∧ (State.modLin s a1 a2).ctrl = s.ctrl ∧
    (State.modLin s a1 a2).valve = s.valve ∧ (State.modLin s a1 a2).gnss = s.gnss ∧ (State.modLin s a1 a2).imu = s.imu ∧
    (State.modLin s a1 a2).cam = s.cam ∧ (State.modLin s a1 a2).crown = s.crown ∧
    (State.modLin s a1 a2).granary = s.granary ∧ (State.modLin s a1 a2).outs = s.outs ∧
    (State.modLin s a1 a2).swin = s.swin ∧ (State.modLin s a1 a2).fans = s.fans ∧ (State.modLin s a1 a2).plate = s.plate ∧
    (State.modLin s a1 a2).can = s.can ∧ (State.modLin s a1 a2).eth = s.eth ∧ (State.modLin s a1 a2).nm = s.nm ∧
    (State.modLin s a1 a2).root = s.root ∧ (State.modLin s a1 a2).graft = s.graft ∧ (State.modLin s a1 a2).attic = s.attic ∧
    (State.modLin s a1 a2).larder = s.larder ∧ (State.modLin s a1 a2).power = s.power ∧
    (State.modLin s a1 a2).thermal = s.thermal ∧ (State.modLin s a1 a2).jtag = s.jtag ∧
    (State.modLin s a1 a2).kept = s.kept ∧ (State.modLin s a1 a2).keptDirty = s.keptDirty ∧
    (State.modLin s a1 a2).keptAt = s.keptAt ∧ (State.modLin s a1 a2).free = s.free ∧
    (State.modLin s a1 a2).pending = s.pending ∧ (∀ k, (State.modLin s a1 a2).win k = s.win k) ∧
    (∀ k, (State.modLin s a1 a2).lossCh k = s.lossCh k) ∧ (∀ k, (State.modLin s a1 a2).bridgeCh k = s.bridgeCh k) ∧
    (∀ k, (State.modLin s a1 a2).ainCh k = s.ainCh k) ∧ (∀ k, (State.modLin s a1 a2).freqCh k = s.freqCh k) ∧
    (∀ k, (State.modLin s a1 a2).supCh k = s.supCh k) ∧ (∀ k, (State.modLin s a1 a2).canCh k = s.canCh k) ∧
    (∀ k, (State.modLin s a1 a2).ethPort k = s.ethPort k) ∧ (∀ k, (State.modLin s a1 a2).net k = s.net k) ∧
    (∀ k, (State.modLin s a1 a2).port k = s.port k) ∧ (∀ k, (State.modLin s a1 a2).lamp k = s.lamp k) ∧
    (∀ k, (State.modLin s a1 a2).slot k = s.slot k) ∧ (∀ k, (State.modLin s a1 a2).crownUnit k = s.crownUnit k) ∧
    (∀ k, (State.modLin s a1 a2).loop k = s.loop k) ∧ (∀ k, (State.modLin s a1 a2).trace k = s.trace k) ∧
    (∀ k, (State.modLin s a1 a2).lidar k = s.lidar k) ∧ (∀ k, (State.modLin s a1 a2).ring k = s.ring k) ∧
    (∀ k, (State.modLin s a1 a2).fan k = s.fan k) ∧ (∀ k, (State.modLin s a1 a2).out k = s.out k) ∧
    (∀ k, (State.modLin s a1 a2).group k = s.group k) ∧ (∀ k, (State.modLin s a1 a2).hb k = s.hb k) ∧
    (∀ k, (State.modLin s a1 a2).svc k = s.svc k) ∧ (∀ k, (State.modLin s a1 a2).valve' k = s.valve' k) ∧
    (∀ k, (State.modLin s a1 a2).bank k = s.bank k) ∧ (∀ k, (State.modLin s a1 a2).boost k = s.boost k) ∧
    (∀ k, (State.modLin s a1 a2).ant k = s.ant k) ∧ (∀ k, (State.modLin s a1 a2).partition k = s.partition k) ∧
    (∀ k, (State.modLin s a1 a2).hostFn k = s.hostFn k) ∧ (∀ k, (State.modLin s a1 a2).parkSlot k = s.parkSlot k) ∧
    (∀ k, (State.modLin s a1 a2).stud k = s.stud k) ∧ (∀ k, (State.modLin s a1 a2).sensor k = s.sensor k) ∧
    (∀ k, (State.modLin s a1 a2).link k = s.link k) ∧ (∀ k, (State.modLin s a1 a2).sw k = s.sw k) ∧
    (State.modLin s a1 a2).hw = s.hw ∧ (State.modLin s a1 a2).variant = s.variant ∧
    (State.modLin s a1 a2).trunkOn = s.trunkOn ∧ (State.modLin s a1 a2).inRun = s.inRun ∧
    (State.modLin s a1 a2).operating = s.operating ∧ (State.modLin s a1 a2).parked = s.parked ∧
    (∀ k, (State.modLin s a1 a2).decl k = s.decl k) ∧ (∀ k, (State.modLin s a1 a2).sig k = s.sig k) := by and_intros <;> intros <;> rfl
/-- What `State.modFrame` leaves as it is. -/
@[simp] theorem State.modFrame_leaves (s) (a1) (a2) (a3) :
    (State.modFrame s a1 a2 a3).part = s.part ∧ (State.modFrame s a1 a2 a3).keeper = s.keeper ∧
    (State.modFrame s a1 a2 a3).time = s.time ∧ (State.modFrame s a1 a2 a3).faults = s.faults ∧
    (State.modFrame s a1 a2 a3).signals = s.signals ∧ (State.modFrame s a1 a2 a3).sensing = s.sensing ∧
    (State.modFrame s a1 a2 a3).ctrl = s.ctrl ∧ (State.modFrame s a1 a2 a3).valve = s.valve ∧
    (State.modFrame s a1 a2 a3).gnss = s.gnss ∧ (State.modFrame s a1 a2 a3).imu = s.imu ∧
    (State.modFrame s a1 a2 a3).cam = s.cam ∧ (State.modFrame s a1 a2 a3).crown = s.crown ∧
    (State.modFrame s a1 a2 a3).granary = s.granary ∧ (State.modFrame s a1 a2 a3).outs = s.outs ∧
    (State.modFrame s a1 a2 a3).swin = s.swin ∧ (State.modFrame s a1 a2 a3).fans = s.fans ∧
    (State.modFrame s a1 a2 a3).plate = s.plate ∧ (State.modFrame s a1 a2 a3).can = s.can ∧
    (State.modFrame s a1 a2 a3).eth = s.eth ∧ (State.modFrame s a1 a2 a3).nm = s.nm ∧
    (State.modFrame s a1 a2 a3).root = s.root ∧ (State.modFrame s a1 a2 a3).graft = s.graft ∧
    (State.modFrame s a1 a2 a3).attic = s.attic ∧ (State.modFrame s a1 a2 a3).larder = s.larder ∧
    (State.modFrame s a1 a2 a3).power = s.power ∧ (State.modFrame s a1 a2 a3).thermal = s.thermal ∧
    (State.modFrame s a1 a2 a3).jtag = s.jtag ∧ (State.modFrame s a1 a2 a3).kept = s.kept ∧
    (State.modFrame s a1 a2 a3).keptDirty = s.keptDirty ∧ (State.modFrame s a1 a2 a3).keptAt = s.keptAt ∧
    (State.modFrame s a1 a2 a3).free = s.free ∧ (State.modFrame s a1 a2 a3).pending = s.pending ∧
    (∀ k, (State.modFrame s a1 a2 a3).win k = s.win k) ∧ (∀ k, (State.modFrame s a1 a2 a3).lossCh k = s.lossCh k) ∧
    (∀ k, (State.modFrame s a1 a2 a3).bridgeCh k = s.bridgeCh k) ∧ (∀ k, (State.modFrame s a1 a2 a3).ainCh k = s.ainCh k) ∧
    (∀ k, (State.modFrame s a1 a2 a3).freqCh k = s.freqCh k) ∧ (∀ k, (State.modFrame s a1 a2 a3).supCh k = s.supCh k) ∧
    (∀ k, (State.modFrame s a1 a2 a3).canCh k = s.canCh k) ∧ (∀ k, (State.modFrame s a1 a2 a3).ethPort k = s.ethPort k) ∧
    (∀ k, (State.modFrame s a1 a2 a3).net k = s.net k) ∧ (∀ k, (State.modFrame s a1 a2 a3).port k = s.port k) ∧
    (∀ k, (State.modFrame s a1 a2 a3).lamp k = s.lamp k) ∧ (∀ k, (State.modFrame s a1 a2 a3).slot k = s.slot k) ∧
    (∀ k, (State.modFrame s a1 a2 a3).crownUnit k = s.crownUnit k) ∧ (∀ k, (State.modFrame s a1 a2 a3).loop k = s.loop k) ∧
    (∀ k, (State.modFrame s a1 a2 a3).trace k = s.trace k) ∧ (∀ k, (State.modFrame s a1 a2 a3).lidar k = s.lidar k) ∧
    (∀ k, (State.modFrame s a1 a2 a3).ring k = s.ring k) ∧ (∀ k, (State.modFrame s a1 a2 a3).fan k = s.fan k) ∧
    (∀ k, (State.modFrame s a1 a2 a3).out k = s.out k) ∧ (∀ k, (State.modFrame s a1 a2 a3).group k = s.group k) ∧
    (∀ k, (State.modFrame s a1 a2 a3).hb k = s.hb k) ∧ (∀ k, (State.modFrame s a1 a2 a3).svc k = s.svc k) ∧
    (∀ k, (State.modFrame s a1 a2 a3).valve' k = s.valve' k) ∧ (∀ k, (State.modFrame s a1 a2 a3).bank k = s.bank k) ∧
    (∀ k, (State.modFrame s a1 a2 a3).boost k = s.boost k) ∧ (∀ k, (State.modFrame s a1 a2 a3).ant k = s.ant k) ∧
    (∀ k, (State.modFrame s a1 a2 a3).partition k = s.partition k) ∧
    (∀ k, (State.modFrame s a1 a2 a3).hostFn k = s.hostFn k) ∧ (∀ k, (State.modFrame s a1 a2 a3).parkSlot k = s.parkSlot k) ∧
    (∀ k, (State.modFrame s a1 a2 a3).stud k = s.stud k) ∧ (∀ k, (State.modFrame s a1 a2 a3).sensor k = s.sensor k) ∧
    (∀ k, (State.modFrame s a1 a2 a3).link k = s.link k) ∧ (∀ k, (State.modFrame s a1 a2 a3).sw k = s.sw k) ∧
    (State.modFrame s a1 a2 a3).hw = s.hw ∧ (State.modFrame s a1 a2 a3).variant = s.variant ∧
    (State.modFrame s a1 a2 a3).trunkOn = s.trunkOn ∧ (State.modFrame s a1 a2 a3).inRun = s.inRun ∧
    (State.modFrame s a1 a2 a3).operating = s.operating ∧ (State.modFrame s a1 a2 a3).parked = s.parked ∧
    (∀ k, (State.modFrame s a1 a2 a3).decl k = s.decl k) ∧ (∀ k, (State.modFrame s a1 a2 a3).sig k = s.sig k) := by and_intros <;> intros <;> rfl
/-- What `State.modFan` leaves as it is. -/
@[simp] theorem State.modFan_leaves (s) (a1) (a2) :
    (State.modFan s a1 a2).part = s.part ∧ (State.modFan s a1 a2).keeper = s.keeper ∧ (State.modFan s a1 a2).time = s.time ∧
    (State.modFan s a1 a2).faults = s.faults ∧ (State.modFan s a1 a2).signals = s.signals ∧
    (State.modFan s a1 a2).sensing = s.sensing ∧ (State.modFan s a1 a2).ctrl = s.ctrl ∧
    (State.modFan s a1 a2).valve = s.valve ∧ (State.modFan s a1 a2).gnss = s.gnss ∧ (State.modFan s a1 a2).imu = s.imu ∧
    (State.modFan s a1 a2).cam = s.cam ∧ (State.modFan s a1 a2).crown = s.crown ∧
    (State.modFan s a1 a2).granary = s.granary ∧ (State.modFan s a1 a2).outs = s.outs ∧
    (State.modFan s a1 a2).swin = s.swin ∧ (State.modFan s a1 a2).body = s.body ∧ (State.modFan s a1 a2).plate = s.plate ∧
    (State.modFan s a1 a2).can = s.can ∧ (State.modFan s a1 a2).eth = s.eth ∧ (State.modFan s a1 a2).nm = s.nm ∧
    (State.modFan s a1 a2).root = s.root ∧ (State.modFan s a1 a2).graft = s.graft ∧ (State.modFan s a1 a2).attic = s.attic ∧
    (State.modFan s a1 a2).larder = s.larder ∧ (State.modFan s a1 a2).power = s.power ∧
    (State.modFan s a1 a2).thermal = s.thermal ∧ (State.modFan s a1 a2).jtag = s.jtag ∧
    (State.modFan s a1 a2).kept = s.kept ∧ (State.modFan s a1 a2).keptDirty = s.keptDirty ∧
    (State.modFan s a1 a2).keptAt = s.keptAt ∧ (State.modFan s a1 a2).free = s.free ∧
    (State.modFan s a1 a2).pending = s.pending ∧ (∀ k, (State.modFan s a1 a2).win k = s.win k) ∧
    (∀ k, (State.modFan s a1 a2).lossCh k = s.lossCh k) ∧ (∀ k, (State.modFan s a1 a2).bridgeCh k = s.bridgeCh k) ∧
    (∀ k, (State.modFan s a1 a2).ainCh k = s.ainCh k) ∧ (∀ k, (State.modFan s a1 a2).freqCh k = s.freqCh k) ∧
    (∀ k, (State.modFan s a1 a2).supCh k = s.supCh k) ∧ (∀ k, (State.modFan s a1 a2).canCh k = s.canCh k) ∧
    (∀ k, (State.modFan s a1 a2).ethPort k = s.ethPort k) ∧ (∀ k, (State.modFan s a1 a2).net k = s.net k) ∧
    (∀ k, (State.modFan s a1 a2).port k = s.port k) ∧ (∀ k, (State.modFan s a1 a2).lamp k = s.lamp k) ∧
    (∀ k, (State.modFan s a1 a2).slot k = s.slot k) ∧ (∀ k, (State.modFan s a1 a2).crownUnit k = s.crownUnit k) ∧
    (∀ k, (State.modFan s a1 a2).loop k = s.loop k) ∧ (∀ k, (State.modFan s a1 a2).trace k = s.trace k) ∧
    (∀ k, (State.modFan s a1 a2).lidar k = s.lidar k) ∧ (∀ k, (State.modFan s a1 a2).ring k = s.ring k) ∧
    (∀ k, (State.modFan s a1 a2).out k = s.out k) ∧ (∀ k, (State.modFan s a1 a2).group k = s.group k) ∧
    (∀ k, (State.modFan s a1 a2).hb k = s.hb k) ∧ (∀ k, (State.modFan s a1 a2).svc k = s.svc k) ∧
    (∀ k, (State.modFan s a1 a2).valve' k = s.valve' k) ∧ (∀ k, (State.modFan s a1 a2).bank k = s.bank k) ∧
    (∀ k, (State.modFan s a1 a2).boost k = s.boost k) ∧ (∀ k, (State.modFan s a1 a2).ant k = s.ant k) ∧
    (∀ k, (State.modFan s a1 a2).partition k = s.partition k) ∧ (∀ k, (State.modFan s a1 a2).lin k = s.lin k) ∧
    (∀ k, (State.modFan s a1 a2).hostFn k = s.hostFn k) ∧ (∀ k, (State.modFan s a1 a2).parkSlot k = s.parkSlot k) ∧
    (∀ k, (State.modFan s a1 a2).stud k = s.stud k) ∧ (∀ k, (State.modFan s a1 a2).sensor k = s.sensor k) ∧
    (∀ k, (State.modFan s a1 a2).link k = s.link k) ∧ (∀ k, (State.modFan s a1 a2).sw k = s.sw k) ∧
    (State.modFan s a1 a2).hw = s.hw ∧ (State.modFan s a1 a2).variant = s.variant ∧
    (State.modFan s a1 a2).trunkOn = s.trunkOn ∧ (State.modFan s a1 a2).inRun = s.inRun ∧
    (State.modFan s a1 a2).operating = s.operating ∧ (State.modFan s a1 a2).parked = s.parked ∧
    (∀ k, (State.modFan s a1 a2).decl k = s.decl k) ∧ (∀ k, (State.modFan s a1 a2).sig k = s.sig k) := by and_intros <;> intros <;> rfl
/-- What `State.modPlate` leaves as it is. -/
@[simp] theorem State.modPlate_leaves (s) (a1) :
    (State.modPlate s a1).part = s.part ∧ (State.modPlate s a1).keeper = s.keeper ∧ (State.modPlate s a1).time = s.time ∧
    (State.modPlate s a1).faults = s.faults ∧ (State.modPlate s a1).signals = s.signals ∧
    (State.modPlate s a1).sensing = s.sensing ∧ (State.modPlate s a1).ctrl = s.ctrl ∧ (State.modPlate s a1).valve = s.valve ∧
    (State.modPlate s a1).gnss = s.gnss ∧ (State.modPlate s a1).imu = s.imu ∧ (State.modPlate s a1).cam = s.cam ∧
    (State.modPlate s a1).crown = s.crown ∧ (State.modPlate s a1).granary = s.granary ∧ (State.modPlate s a1).outs = s.outs ∧
    (State.modPlate s a1).swin = s.swin ∧ (State.modPlate s a1).body = s.body ∧ (State.modPlate s a1).fans = s.fans ∧
    (State.modPlate s a1).can = s.can ∧ (State.modPlate s a1).eth = s.eth ∧ (State.modPlate s a1).nm = s.nm ∧
    (State.modPlate s a1).root = s.root ∧ (State.modPlate s a1).graft = s.graft ∧ (State.modPlate s a1).attic = s.attic ∧
    (State.modPlate s a1).larder = s.larder ∧ (State.modPlate s a1).power = s.power ∧
    (State.modPlate s a1).thermal = s.thermal ∧ (State.modPlate s a1).jtag = s.jtag ∧ (State.modPlate s a1).kept = s.kept ∧
    (State.modPlate s a1).keptDirty = s.keptDirty ∧ (State.modPlate s a1).keptAt = s.keptAt ∧
    (State.modPlate s a1).free = s.free ∧ (State.modPlate s a1).pending = s.pending ∧
    (∀ k, (State.modPlate s a1).win k = s.win k) ∧ (∀ k, (State.modPlate s a1).lossCh k = s.lossCh k) ∧
    (∀ k, (State.modPlate s a1).bridgeCh k = s.bridgeCh k) ∧ (∀ k, (State.modPlate s a1).ainCh k = s.ainCh k) ∧
    (∀ k, (State.modPlate s a1).freqCh k = s.freqCh k) ∧ (∀ k, (State.modPlate s a1).supCh k = s.supCh k) ∧
    (∀ k, (State.modPlate s a1).canCh k = s.canCh k) ∧ (∀ k, (State.modPlate s a1).ethPort k = s.ethPort k) ∧
    (∀ k, (State.modPlate s a1).net k = s.net k) ∧ (∀ k, (State.modPlate s a1).port k = s.port k) ∧
    (∀ k, (State.modPlate s a1).lamp k = s.lamp k) ∧ (∀ k, (State.modPlate s a1).slot k = s.slot k) ∧
    (∀ k, (State.modPlate s a1).crownUnit k = s.crownUnit k) ∧ (∀ k, (State.modPlate s a1).loop k = s.loop k) ∧
    (∀ k, (State.modPlate s a1).trace k = s.trace k) ∧ (∀ k, (State.modPlate s a1).lidar k = s.lidar k) ∧
    (∀ k, (State.modPlate s a1).ring k = s.ring k) ∧ (∀ k, (State.modPlate s a1).fan k = s.fan k) ∧
    (∀ k, (State.modPlate s a1).out k = s.out k) ∧ (∀ k, (State.modPlate s a1).group k = s.group k) ∧
    (∀ k, (State.modPlate s a1).hb k = s.hb k) ∧ (∀ k, (State.modPlate s a1).svc k = s.svc k) ∧
    (∀ k, (State.modPlate s a1).valve' k = s.valve' k) ∧ (∀ k, (State.modPlate s a1).bank k = s.bank k) ∧
    (∀ k, (State.modPlate s a1).boost k = s.boost k) ∧ (∀ k, (State.modPlate s a1).ant k = s.ant k) ∧
    (∀ k, (State.modPlate s a1).partition k = s.partition k) ∧ (∀ k, (State.modPlate s a1).lin k = s.lin k) ∧
    (∀ k, (State.modPlate s a1).hostFn k = s.hostFn k) ∧ (∀ k, (State.modPlate s a1).parkSlot k = s.parkSlot k) ∧
    (∀ k, (State.modPlate s a1).stud k = s.stud k) ∧ (∀ k, (State.modPlate s a1).sensor k = s.sensor k) ∧
    (∀ k, (State.modPlate s a1).link k = s.link k) ∧ (∀ k, (State.modPlate s a1).sw k = s.sw k) ∧
    (State.modPlate s a1).hw = s.hw ∧ (State.modPlate s a1).variant = s.variant ∧ (State.modPlate s a1).trunkOn = s.trunkOn ∧
    (State.modPlate s a1).inRun = s.inRun ∧ (State.modPlate s a1).operating = s.operating ∧
    (State.modPlate s a1).parked = s.parked ∧ (∀ k, (State.modPlate s a1).decl k = s.decl k) ∧
    (∀ k, (State.modPlate s a1).sig k = s.sig k) := by and_intros <;> intros <;> rfl
/-- What `State.modTx` leaves as it is. -/
@[simp] theorem State.modTx_leaves (s) (a1) (a2) :
    (State.modTx s a1 a2).part = s.part ∧ (State.modTx s a1 a2).keeper = s.keeper ∧ (State.modTx s a1 a2).time = s.time ∧
    (State.modTx s a1 a2).faults = s.faults ∧ (State.modTx s a1 a2).signals = s.signals ∧
    (State.modTx s a1 a2).sensing = s.sensing ∧ (State.modTx s a1 a2).ctrl = s.ctrl ∧ (State.modTx s a1 a2).valve = s.valve ∧
    (State.modTx s a1 a2).gnss = s.gnss ∧ (State.modTx s a1 a2).imu = s.imu ∧ (State.modTx s a1 a2).cam = s.cam ∧
    (State.modTx s a1 a2).crown = s.crown ∧ (State.modTx s a1 a2).granary = s.granary ∧ (State.modTx s a1 a2).outs = s.outs ∧
    (State.modTx s a1 a2).swin = s.swin ∧ (State.modTx s a1 a2).body = s.body ∧ (State.modTx s a1 a2).fans = s.fans ∧
    (State.modTx s a1 a2).plate = s.plate ∧ (State.modTx s a1 a2).eth = s.eth ∧ (State.modTx s a1 a2).nm = s.nm ∧
    (State.modTx s a1 a2).root = s.root ∧ (State.modTx s a1 a2).graft = s.graft ∧ (State.modTx s a1 a2).attic = s.attic ∧
    (State.modTx s a1 a2).larder = s.larder ∧ (State.modTx s a1 a2).power = s.power ∧
    (State.modTx s a1 a2).thermal = s.thermal ∧ (State.modTx s a1 a2).jtag = s.jtag ∧ (State.modTx s a1 a2).kept = s.kept ∧
    (State.modTx s a1 a2).keptDirty = s.keptDirty ∧ (State.modTx s a1 a2).keptAt = s.keptAt ∧
    (State.modTx s a1 a2).free = s.free ∧ (State.modTx s a1 a2).pending = s.pending ∧
    (∀ k, (State.modTx s a1 a2).win k = s.win k) ∧ (∀ k, (State.modTx s a1 a2).lossCh k = s.lossCh k) ∧
    (∀ k, (State.modTx s a1 a2).bridgeCh k = s.bridgeCh k) ∧ (∀ k, (State.modTx s a1 a2).ainCh k = s.ainCh k) ∧
    (∀ k, (State.modTx s a1 a2).freqCh k = s.freqCh k) ∧ (∀ k, (State.modTx s a1 a2).supCh k = s.supCh k) ∧
    (∀ k, (State.modTx s a1 a2).canCh k = s.canCh k) ∧ (∀ k, (State.modTx s a1 a2).ethPort k = s.ethPort k) ∧
    (∀ k, (State.modTx s a1 a2).net k = s.net k) ∧ (∀ k, (State.modTx s a1 a2).port k = s.port k) ∧
    (∀ k, (State.modTx s a1 a2).lamp k = s.lamp k) ∧ (∀ k, (State.modTx s a1 a2).slot k = s.slot k) ∧
    (∀ k, (State.modTx s a1 a2).crownUnit k = s.crownUnit k) ∧ (∀ k, (State.modTx s a1 a2).loop k = s.loop k) ∧
    (∀ k, (State.modTx s a1 a2).trace k = s.trace k) ∧ (∀ k, (State.modTx s a1 a2).lidar k = s.lidar k) ∧
    (∀ k, (State.modTx s a1 a2).ring k = s.ring k) ∧ (∀ k, (State.modTx s a1 a2).fan k = s.fan k) ∧
    (∀ k, (State.modTx s a1 a2).out k = s.out k) ∧ (∀ k, (State.modTx s a1 a2).group k = s.group k) ∧
    (∀ k, (State.modTx s a1 a2).hb k = s.hb k) ∧ (∀ k, (State.modTx s a1 a2).svc k = s.svc k) ∧
    (∀ k, (State.modTx s a1 a2).valve' k = s.valve' k) ∧ (∀ k, (State.modTx s a1 a2).bank k = s.bank k) ∧
    (∀ k, (State.modTx s a1 a2).boost k = s.boost k) ∧ (∀ k, (State.modTx s a1 a2).ant k = s.ant k) ∧
    (∀ k, (State.modTx s a1 a2).partition k = s.partition k) ∧ (∀ k, (State.modTx s a1 a2).lin k = s.lin k) ∧
    (∀ k, (State.modTx s a1 a2).hostFn k = s.hostFn k) ∧ (∀ k, (State.modTx s a1 a2).parkSlot k = s.parkSlot k) ∧
    (∀ k, (State.modTx s a1 a2).stud k = s.stud k) ∧ (∀ k, (State.modTx s a1 a2).sensor k = s.sensor k) ∧
    (∀ k, (State.modTx s a1 a2).link k = s.link k) ∧ (∀ k, (State.modTx s a1 a2).sw k = s.sw k) ∧
    (State.modTx s a1 a2).hw = s.hw ∧ (State.modTx s a1 a2).variant = s.variant ∧ (State.modTx s a1 a2).trunkOn = s.trunkOn ∧
    (State.modTx s a1 a2).inRun = s.inRun ∧ (State.modTx s a1 a2).operating = s.operating ∧
    (State.modTx s a1 a2).parked = s.parked ∧ (∀ k, (State.modTx s a1 a2).decl k = s.decl k) ∧
    (∀ k, (State.modTx s a1 a2).sig k = s.sig k) := by and_intros <;> intros <;> rfl
/-- What `State.modTp` leaves as it is. -/
@[simp] theorem State.modTp_leaves (s) (a1) (a2) (a3) :
    (State.modTp s a1 a2 a3).part = s.part ∧ (State.modTp s a1 a2 a3).keeper = s.keeper ∧
    (State.modTp s a1 a2 a3).time = s.time ∧ (State.modTp s a1 a2 a3).faults = s.faults ∧
    (State.modTp s a1 a2 a3).signals = s.signals ∧ (State.modTp s a1 a2 a3).sensing = s.sensing ∧
    (State.modTp s a1 a2 a3).ctrl = s.ctrl ∧ (State.modTp s a1 a2 a3).valve = s.valve ∧
    (State.modTp s a1 a2 a3).gnss = s.gnss ∧ (State.modTp s a1 a2 a3).imu = s.imu ∧ (State.modTp s a1 a2 a3).cam = s.cam ∧
    (State.modTp s a1 a2 a3).crown = s.crown ∧ (State.modTp s a1 a2 a3).granary = s.granary ∧
    (State.modTp s a1 a2 a3).outs = s.outs ∧ (State.modTp s a1 a2 a3).swin = s.swin ∧
    (State.modTp s a1 a2 a3).body = s.body ∧ (State.modTp s a1 a2 a3).fans = s.fans ∧
    (State.modTp s a1 a2 a3).plate = s.plate ∧ (State.modTp s a1 a2 a3).eth = s.eth ∧ (State.modTp s a1 a2 a3).nm = s.nm ∧
    (State.modTp s a1 a2 a3).root = s.root ∧ (State.modTp s a1 a2 a3).graft = s.graft ∧
    (State.modTp s a1 a2 a3).attic = s.attic ∧ (State.modTp s a1 a2 a3).larder = s.larder ∧
    (State.modTp s a1 a2 a3).power = s.power ∧ (State.modTp s a1 a2 a3).thermal = s.thermal ∧
    (State.modTp s a1 a2 a3).jtag = s.jtag ∧ (State.modTp s a1 a2 a3).kept = s.kept ∧
    (State.modTp s a1 a2 a3).keptDirty = s.keptDirty ∧ (State.modTp s a1 a2 a3).keptAt = s.keptAt ∧
    (State.modTp s a1 a2 a3).free = s.free ∧ (State.modTp s a1 a2 a3).pending = s.pending ∧
    (∀ k, (State.modTp s a1 a2 a3).win k = s.win k) ∧ (∀ k, (State.modTp s a1 a2 a3).lossCh k = s.lossCh k) ∧
    (∀ k, (State.modTp s a1 a2 a3).bridgeCh k = s.bridgeCh k) ∧ (∀ k, (State.modTp s a1 a2 a3).ainCh k = s.ainCh k) ∧
    (∀ k, (State.modTp s a1 a2 a3).freqCh k = s.freqCh k) ∧ (∀ k, (State.modTp s a1 a2 a3).supCh k = s.supCh k) ∧
    (∀ k, (State.modTp s a1 a2 a3).ethPort k = s.ethPort k) ∧ (∀ k, (State.modTp s a1 a2 a3).net k = s.net k) ∧
    (∀ k, (State.modTp s a1 a2 a3).port k = s.port k) ∧ (∀ k, (State.modTp s a1 a2 a3).lamp k = s.lamp k) ∧
    (∀ k, (State.modTp s a1 a2 a3).slot k = s.slot k) ∧ (∀ k, (State.modTp s a1 a2 a3).crownUnit k = s.crownUnit k) ∧
    (∀ k, (State.modTp s a1 a2 a3).loop k = s.loop k) ∧ (∀ k, (State.modTp s a1 a2 a3).trace k = s.trace k) ∧
    (∀ k, (State.modTp s a1 a2 a3).lidar k = s.lidar k) ∧ (∀ k, (State.modTp s a1 a2 a3).ring k = s.ring k) ∧
    (∀ k, (State.modTp s a1 a2 a3).fan k = s.fan k) ∧ (∀ k, (State.modTp s a1 a2 a3).out k = s.out k) ∧
    (∀ k, (State.modTp s a1 a2 a3).group k = s.group k) ∧ (∀ k, (State.modTp s a1 a2 a3).hb k = s.hb k) ∧
    (∀ k, (State.modTp s a1 a2 a3).svc k = s.svc k) ∧ (∀ k, (State.modTp s a1 a2 a3).valve' k = s.valve' k) ∧
    (∀ k, (State.modTp s a1 a2 a3).bank k = s.bank k) ∧ (∀ k, (State.modTp s a1 a2 a3).boost k = s.boost k) ∧
    (∀ k, (State.modTp s a1 a2 a3).ant k = s.ant k) ∧ (∀ k, (State.modTp s a1 a2 a3).partition k = s.partition k) ∧
    (∀ k, (State.modTp s a1 a2 a3).lin k = s.lin k) ∧ (∀ k, (State.modTp s a1 a2 a3).hostFn k = s.hostFn k) ∧
    (∀ k, (State.modTp s a1 a2 a3).parkSlot k = s.parkSlot k) ∧ (∀ k, (State.modTp s a1 a2 a3).stud k = s.stud k) ∧
    (∀ k, (State.modTp s a1 a2 a3).sensor k = s.sensor k) ∧ (∀ k, (State.modTp s a1 a2 a3).link k = s.link k) ∧
    (∀ k, (State.modTp s a1 a2 a3).sw k = s.sw k) ∧ (State.modTp s a1 a2 a3).hw = s.hw ∧
    (State.modTp s a1 a2 a3).variant = s.variant ∧ (State.modTp s a1 a2 a3).trunkOn = s.trunkOn ∧
    (State.modTp s a1 a2 a3).inRun = s.inRun ∧ (State.modTp s a1 a2 a3).operating = s.operating ∧
    (State.modTp s a1 a2 a3).parked = s.parked ∧ (∀ k, (State.modTp s a1 a2 a3).decl k = s.decl k) ∧
    (∀ k, (State.modTp s a1 a2 a3).sig k = s.sig k) := by and_intros <;> intros <;> rfl
/-- What `State.modQ` leaves as it is. -/
@[simp] theorem State.modQ_leaves (s) (a1) (a2) (a3) :
    (State.modQ s a1 a2 a3).part = s.part ∧ (State.modQ s a1 a2 a3).keeper = s.keeper ∧
    (State.modQ s a1 a2 a3).time = s.time ∧ (State.modQ s a1 a2 a3).faults = s.faults ∧
    (State.modQ s a1 a2 a3).signals = s.signals ∧ (State.modQ s a1 a2 a3).sensing = s.sensing ∧
    (State.modQ s a1 a2 a3).ctrl = s.ctrl ∧ (State.modQ s a1 a2 a3).valve = s.valve ∧ (State.modQ s a1 a2 a3).gnss = s.gnss ∧
    (State.modQ s a1 a2 a3).imu = s.imu ∧ (State.modQ s a1 a2 a3).cam = s.cam ∧ (State.modQ s a1 a2 a3).crown = s.crown ∧
    (State.modQ s a1 a2 a3).granary = s.granary ∧ (State.modQ s a1 a2 a3).outs = s.outs ∧
    (State.modQ s a1 a2 a3).swin = s.swin ∧ (State.modQ s a1 a2 a3).body = s.body ∧ (State.modQ s a1 a2 a3).fans = s.fans ∧
    (State.modQ s a1 a2 a3).plate = s.plate ∧ (State.modQ s a1 a2 a3).eth = s.eth ∧ (State.modQ s a1 a2 a3).nm = s.nm ∧
    (State.modQ s a1 a2 a3).root = s.root ∧ (State.modQ s a1 a2 a3).graft = s.graft ∧
    (State.modQ s a1 a2 a3).attic = s.attic ∧ (State.modQ s a1 a2 a3).larder = s.larder ∧
    (State.modQ s a1 a2 a3).power = s.power ∧ (State.modQ s a1 a2 a3).thermal = s.thermal ∧
    (State.modQ s a1 a2 a3).jtag = s.jtag ∧ (State.modQ s a1 a2 a3).kept = s.kept ∧
    (State.modQ s a1 a2 a3).keptDirty = s.keptDirty ∧ (State.modQ s a1 a2 a3).keptAt = s.keptAt ∧
    (State.modQ s a1 a2 a3).free = s.free ∧ (State.modQ s a1 a2 a3).pending = s.pending ∧
    (∀ k, (State.modQ s a1 a2 a3).win k = s.win k) ∧ (∀ k, (State.modQ s a1 a2 a3).lossCh k = s.lossCh k) ∧
    (∀ k, (State.modQ s a1 a2 a3).bridgeCh k = s.bridgeCh k) ∧ (∀ k, (State.modQ s a1 a2 a3).ainCh k = s.ainCh k) ∧
    (∀ k, (State.modQ s a1 a2 a3).freqCh k = s.freqCh k) ∧ (∀ k, (State.modQ s a1 a2 a3).supCh k = s.supCh k) ∧
    (∀ k, (State.modQ s a1 a2 a3).ethPort k = s.ethPort k) ∧ (∀ k, (State.modQ s a1 a2 a3).net k = s.net k) ∧
    (∀ k, (State.modQ s a1 a2 a3).port k = s.port k) ∧ (∀ k, (State.modQ s a1 a2 a3).lamp k = s.lamp k) ∧
    (∀ k, (State.modQ s a1 a2 a3).slot k = s.slot k) ∧ (∀ k, (State.modQ s a1 a2 a3).crownUnit k = s.crownUnit k) ∧
    (∀ k, (State.modQ s a1 a2 a3).loop k = s.loop k) ∧ (∀ k, (State.modQ s a1 a2 a3).trace k = s.trace k) ∧
    (∀ k, (State.modQ s a1 a2 a3).lidar k = s.lidar k) ∧ (∀ k, (State.modQ s a1 a2 a3).ring k = s.ring k) ∧
    (∀ k, (State.modQ s a1 a2 a3).fan k = s.fan k) ∧ (∀ k, (State.modQ s a1 a2 a3).out k = s.out k) ∧
    (∀ k, (State.modQ s a1 a2 a3).group k = s.group k) ∧ (∀ k, (State.modQ s a1 a2 a3).hb k = s.hb k) ∧
    (∀ k, (State.modQ s a1 a2 a3).svc k = s.svc k) ∧ (∀ k, (State.modQ s a1 a2 a3).valve' k = s.valve' k) ∧
    (∀ k, (State.modQ s a1 a2 a3).bank k = s.bank k) ∧ (∀ k, (State.modQ s a1 a2 a3).boost k = s.boost k) ∧
    (∀ k, (State.modQ s a1 a2 a3).ant k = s.ant k) ∧ (∀ k, (State.modQ s a1 a2 a3).partition k = s.partition k) ∧
    (∀ k, (State.modQ s a1 a2 a3).lin k = s.lin k) ∧ (∀ k, (State.modQ s a1 a2 a3).hostFn k = s.hostFn k) ∧
    (∀ k, (State.modQ s a1 a2 a3).parkSlot k = s.parkSlot k) ∧ (∀ k, (State.modQ s a1 a2 a3).stud k = s.stud k) ∧
    (∀ k, (State.modQ s a1 a2 a3).sensor k = s.sensor k) ∧ (∀ k, (State.modQ s a1 a2 a3).link k = s.link k) ∧
    (∀ k, (State.modQ s a1 a2 a3).sw k = s.sw k) ∧ (State.modQ s a1 a2 a3).hw = s.hw ∧
    (State.modQ s a1 a2 a3).variant = s.variant ∧ (State.modQ s a1 a2 a3).trunkOn = s.trunkOn ∧
    (State.modQ s a1 a2 a3).inRun = s.inRun ∧ (State.modQ s a1 a2 a3).operating = s.operating ∧
    (State.modQ s a1 a2 a3).parked = s.parked ∧ (∀ k, (State.modQ s a1 a2 a3).decl k = s.decl k) ∧
    (∀ k, (State.modQ s a1 a2 a3).sig k = s.sig k) := by and_intros <;> intros <;> rfl
/-- What `State.modLidar` leaves as it is. -/
@[simp] theorem State.modLidar_leaves (s) (a1) (a2) :
    (State.modLidar s a1 a2).part = s.part ∧ (State.modLidar s a1 a2).keeper = s.keeper ∧
    (State.modLidar s a1 a2).time = s.time ∧ (State.modLidar s a1 a2).faults = s.faults ∧
    (State.modLidar s a1 a2).signals = s.signals ∧ (State.modLidar s a1 a2).sensing = s.sensing ∧
    (State.modLidar s a1 a2).ctrl = s.ctrl ∧ (State.modLidar s a1 a2).valve = s.valve ∧
    (State.modLidar s a1 a2).gnss = s.gnss ∧ (State.modLidar s a1 a2).imu = s.imu ∧ (State.modLidar s a1 a2).cam = s.cam ∧
    (State.modLidar s a1 a2).crown = s.crown ∧ (State.modLidar s a1 a2).granary = s.granary ∧
    (State.modLidar s a1 a2).outs = s.outs ∧ (State.modLidar s a1 a2).swin = s.swin ∧
    (State.modLidar s a1 a2).body = s.body ∧ (State.modLidar s a1 a2).fans = s.fans ∧
    (State.modLidar s a1 a2).plate = s.plate ∧ (State.modLidar s a1 a2).can = s.can ∧ (State.modLidar s a1 a2).nm = s.nm ∧
    (State.modLidar s a1 a2).root = s.root ∧ (State.modLidar s a1 a2).graft = s.graft ∧
    (State.modLidar s a1 a2).attic = s.attic ∧ (State.modLidar s a1 a2).larder = s.larder ∧
    (State.modLidar s a1 a2).power = s.power ∧ (State.modLidar s a1 a2).thermal = s.thermal ∧
    (State.modLidar s a1 a2).jtag = s.jtag ∧ (State.modLidar s a1 a2).kept = s.kept ∧
    (State.modLidar s a1 a2).keptDirty = s.keptDirty ∧ (State.modLidar s a1 a2).keptAt = s.keptAt ∧
    (State.modLidar s a1 a2).free = s.free ∧ (State.modLidar s a1 a2).pending = s.pending ∧
    (∀ k, (State.modLidar s a1 a2).win k = s.win k) ∧ (∀ k, (State.modLidar s a1 a2).lossCh k = s.lossCh k) ∧
    (∀ k, (State.modLidar s a1 a2).bridgeCh k = s.bridgeCh k) ∧ (∀ k, (State.modLidar s a1 a2).ainCh k = s.ainCh k) ∧
    (∀ k, (State.modLidar s a1 a2).freqCh k = s.freqCh k) ∧ (∀ k, (State.modLidar s a1 a2).supCh k = s.supCh k) ∧
    (∀ k, (State.modLidar s a1 a2).canCh k = s.canCh k) ∧ (∀ k, (State.modLidar s a1 a2).ethPort k = s.ethPort k) ∧
    (∀ k, (State.modLidar s a1 a2).net k = s.net k) ∧ (∀ k, (State.modLidar s a1 a2).port k = s.port k) ∧
    (∀ k, (State.modLidar s a1 a2).lamp k = s.lamp k) ∧ (∀ k, (State.modLidar s a1 a2).slot k = s.slot k) ∧
    (∀ k, (State.modLidar s a1 a2).crownUnit k = s.crownUnit k) ∧ (∀ k, (State.modLidar s a1 a2).loop k = s.loop k) ∧
    (∀ k, (State.modLidar s a1 a2).trace k = s.trace k) ∧ (∀ k, (State.modLidar s a1 a2).ring k = s.ring k) ∧
    (∀ k, (State.modLidar s a1 a2).fan k = s.fan k) ∧ (∀ k, (State.modLidar s a1 a2).out k = s.out k) ∧
    (∀ k, (State.modLidar s a1 a2).group k = s.group k) ∧ (∀ k, (State.modLidar s a1 a2).hb k = s.hb k) ∧
    (∀ k, (State.modLidar s a1 a2).svc k = s.svc k) ∧ (∀ k, (State.modLidar s a1 a2).valve' k = s.valve' k) ∧
    (∀ k, (State.modLidar s a1 a2).bank k = s.bank k) ∧ (∀ k, (State.modLidar s a1 a2).boost k = s.boost k) ∧
    (∀ k, (State.modLidar s a1 a2).ant k = s.ant k) ∧ (∀ k, (State.modLidar s a1 a2).partition k = s.partition k) ∧
    (∀ k, (State.modLidar s a1 a2).lin k = s.lin k) ∧ (∀ k, (State.modLidar s a1 a2).hostFn k = s.hostFn k) ∧
    (∀ k, (State.modLidar s a1 a2).parkSlot k = s.parkSlot k) ∧ (∀ k, (State.modLidar s a1 a2).stud k = s.stud k) ∧
    (∀ k, (State.modLidar s a1 a2).sensor k = s.sensor k) ∧ (∀ k, (State.modLidar s a1 a2).link k = s.link k) ∧
    (∀ k, (State.modLidar s a1 a2).sw k = s.sw k) ∧ (State.modLidar s a1 a2).hw = s.hw ∧
    (State.modLidar s a1 a2).variant = s.variant ∧ (State.modLidar s a1 a2).trunkOn = s.trunkOn ∧
    (State.modLidar s a1 a2).inRun = s.inRun ∧ (State.modLidar s a1 a2).operating = s.operating ∧
    (State.modLidar s a1 a2).parked = s.parked ∧ (∀ k, (State.modLidar s a1 a2).decl k = s.decl k) ∧
    (∀ k, (State.modLidar s a1 a2).sig k = s.sig k) := by and_intros <;> intros <;> rfl
/-- What `State.modRing` leaves as it is. -/
@[simp] theorem State.modRing_leaves (s) (a1) (a2) :
    (State.modRing s a1 a2).part = s.part ∧ (State.modRing s a1 a2).keeper = s.keeper ∧
    (State.modRing s a1 a2).time = s.time ∧ (State.modRing s a1 a2).faults = s.faults ∧
    (State.modRing s a1 a2).signals = s.signals ∧ (State.modRing s a1 a2).sensing = s.sensing ∧
    (State.modRing s a1 a2).ctrl = s.ctrl ∧ (State.modRing s a1 a2).valve = s.valve ∧ (State.modRing s a1 a2).gnss = s.gnss ∧
    (State.modRing s a1 a2).imu = s.imu ∧ (State.modRing s a1 a2).cam = s.cam ∧ (State.modRing s a1 a2).crown = s.crown ∧
    (State.modRing s a1 a2).granary = s.granary ∧ (State.modRing s a1 a2).outs = s.outs ∧
    (State.modRing s a1 a2).swin = s.swin ∧ (State.modRing s a1 a2).body = s.body ∧ (State.modRing s a1 a2).fans = s.fans ∧
    (State.modRing s a1 a2).plate = s.plate ∧ (State.modRing s a1 a2).can = s.can ∧ (State.modRing s a1 a2).nm = s.nm ∧
    (State.modRing s a1 a2).root = s.root ∧ (State.modRing s a1 a2).graft = s.graft ∧
    (State.modRing s a1 a2).attic = s.attic ∧ (State.modRing s a1 a2).larder = s.larder ∧
    (State.modRing s a1 a2).power = s.power ∧ (State.modRing s a1 a2).thermal = s.thermal ∧
    (State.modRing s a1 a2).jtag = s.jtag ∧ (State.modRing s a1 a2).kept = s.kept ∧
    (State.modRing s a1 a2).keptDirty = s.keptDirty ∧ (State.modRing s a1 a2).keptAt = s.keptAt ∧
    (State.modRing s a1 a2).free = s.free ∧ (State.modRing s a1 a2).pending = s.pending ∧
    (∀ k, (State.modRing s a1 a2).win k = s.win k) ∧ (∀ k, (State.modRing s a1 a2).lossCh k = s.lossCh k) ∧
    (∀ k, (State.modRing s a1 a2).bridgeCh k = s.bridgeCh k) ∧ (∀ k, (State.modRing s a1 a2).ainCh k = s.ainCh k) ∧
    (∀ k, (State.modRing s a1 a2).freqCh k = s.freqCh k) ∧ (∀ k, (State.modRing s a1 a2).supCh k = s.supCh k) ∧
    (∀ k, (State.modRing s a1 a2).canCh k = s.canCh k) ∧ (∀ k, (State.modRing s a1 a2).ethPort k = s.ethPort k) ∧
    (∀ k, (State.modRing s a1 a2).net k = s.net k) ∧ (∀ k, (State.modRing s a1 a2).port k = s.port k) ∧
    (∀ k, (State.modRing s a1 a2).lamp k = s.lamp k) ∧ (∀ k, (State.modRing s a1 a2).slot k = s.slot k) ∧
    (∀ k, (State.modRing s a1 a2).crownUnit k = s.crownUnit k) ∧ (∀ k, (State.modRing s a1 a2).loop k = s.loop k) ∧
    (∀ k, (State.modRing s a1 a2).trace k = s.trace k) ∧ (∀ k, (State.modRing s a1 a2).lidar k = s.lidar k) ∧
    (∀ k, (State.modRing s a1 a2).fan k = s.fan k) ∧ (∀ k, (State.modRing s a1 a2).out k = s.out k) ∧
    (∀ k, (State.modRing s a1 a2).group k = s.group k) ∧ (∀ k, (State.modRing s a1 a2).hb k = s.hb k) ∧
    (∀ k, (State.modRing s a1 a2).svc k = s.svc k) ∧ (∀ k, (State.modRing s a1 a2).valve' k = s.valve' k) ∧
    (∀ k, (State.modRing s a1 a2).bank k = s.bank k) ∧ (∀ k, (State.modRing s a1 a2).boost k = s.boost k) ∧
    (∀ k, (State.modRing s a1 a2).ant k = s.ant k) ∧ (∀ k, (State.modRing s a1 a2).partition k = s.partition k) ∧
    (∀ k, (State.modRing s a1 a2).lin k = s.lin k) ∧ (∀ k, (State.modRing s a1 a2).hostFn k = s.hostFn k) ∧
    (∀ k, (State.modRing s a1 a2).parkSlot k = s.parkSlot k) ∧ (∀ k, (State.modRing s a1 a2).stud k = s.stud k) ∧
    (∀ k, (State.modRing s a1 a2).sensor k = s.sensor k) ∧ (∀ k, (State.modRing s a1 a2).link k = s.link k) ∧
    (∀ k, (State.modRing s a1 a2).sw k = s.sw k) ∧ (State.modRing s a1 a2).hw = s.hw ∧
    (State.modRing s a1 a2).variant = s.variant ∧ (State.modRing s a1 a2).trunkOn = s.trunkOn ∧
    (State.modRing s a1 a2).inRun = s.inRun ∧ (State.modRing s a1 a2).operating = s.operating ∧
    (State.modRing s a1 a2).parked = s.parked ∧ (∀ k, (State.modRing s a1 a2).decl k = s.decl k) ∧
    (∀ k, (State.modRing s a1 a2).sig k = s.sig k) := by and_intros <;> intros <;> rfl
/-- What `State.modSigPort` leaves as it is. -/
@[simp] theorem State.modSigPort_leaves (s) (a1) :
    (State.modSigPort s a1).part = s.part ∧ (State.modSigPort s a1).keeper = s.keeper ∧
    (State.modSigPort s a1).time = s.time ∧ (State.modSigPort s a1).faults = s.faults ∧
    (State.modSigPort s a1).signals = s.signals ∧ (State.modSigPort s a1).sensing = s.sensing ∧
    (State.modSigPort s a1).ctrl = s.ctrl ∧ (State.modSigPort s a1).valve = s.valve ∧ (State.modSigPort s a1).gnss = s.gnss ∧
    (State.modSigPort s a1).imu = s.imu ∧ (State.modSigPort s a1).cam = s.cam ∧ (State.modSigPort s a1).crown = s.crown ∧
    (State.modSigPort s a1).granary = s.granary ∧ (State.modSigPort s a1).outs = s.outs ∧
    (State.modSigPort s a1).swin = s.swin ∧ (State.modSigPort s a1).body = s.body ∧ (State.modSigPort s a1).fans = s.fans ∧
    (State.modSigPort s a1).plate = s.plate ∧ (State.modSigPort s a1).can = s.can ∧ (State.modSigPort s a1).nm = s.nm ∧
    (State.modSigPort s a1).root = s.root ∧ (State.modSigPort s a1).graft = s.graft ∧
    (State.modSigPort s a1).attic = s.attic ∧ (State.modSigPort s a1).larder = s.larder ∧
    (State.modSigPort s a1).power = s.power ∧ (State.modSigPort s a1).thermal = s.thermal ∧
    (State.modSigPort s a1).jtag = s.jtag ∧ (State.modSigPort s a1).kept = s.kept ∧
    (State.modSigPort s a1).keptDirty = s.keptDirty ∧ (State.modSigPort s a1).keptAt = s.keptAt ∧
    (State.modSigPort s a1).free = s.free ∧ (State.modSigPort s a1).pending = s.pending ∧
    (∀ k, (State.modSigPort s a1).win k = s.win k) ∧ (∀ k, (State.modSigPort s a1).lossCh k = s.lossCh k) ∧
    (∀ k, (State.modSigPort s a1).bridgeCh k = s.bridgeCh k) ∧ (∀ k, (State.modSigPort s a1).ainCh k = s.ainCh k) ∧
    (∀ k, (State.modSigPort s a1).freqCh k = s.freqCh k) ∧ (∀ k, (State.modSigPort s a1).supCh k = s.supCh k) ∧
    (∀ k, (State.modSigPort s a1).canCh k = s.canCh k) ∧ (∀ k, (State.modSigPort s a1).ethPort k = s.ethPort k) ∧
    (∀ k, (State.modSigPort s a1).net k = s.net k) ∧ (∀ k, (State.modSigPort s a1).port k = s.port k) ∧
    (∀ k, (State.modSigPort s a1).lamp k = s.lamp k) ∧ (∀ k, (State.modSigPort s a1).slot k = s.slot k) ∧
    (∀ k, (State.modSigPort s a1).crownUnit k = s.crownUnit k) ∧ (∀ k, (State.modSigPort s a1).loop k = s.loop k) ∧
    (∀ k, (State.modSigPort s a1).trace k = s.trace k) ∧ (∀ k, (State.modSigPort s a1).lidar k = s.lidar k) ∧
    (∀ k, (State.modSigPort s a1).ring k = s.ring k) ∧ (∀ k, (State.modSigPort s a1).fan k = s.fan k) ∧
    (∀ k, (State.modSigPort s a1).out k = s.out k) ∧ (∀ k, (State.modSigPort s a1).group k = s.group k) ∧
    (∀ k, (State.modSigPort s a1).hb k = s.hb k) ∧ (∀ k, (State.modSigPort s a1).svc k = s.svc k) ∧
    (∀ k, (State.modSigPort s a1).valve' k = s.valve' k) ∧ (∀ k, (State.modSigPort s a1).bank k = s.bank k) ∧
    (∀ k, (State.modSigPort s a1).boost k = s.boost k) ∧ (∀ k, (State.modSigPort s a1).ant k = s.ant k) ∧
    (∀ k, (State.modSigPort s a1).partition k = s.partition k) ∧ (∀ k, (State.modSigPort s a1).lin k = s.lin k) ∧
    (∀ k, (State.modSigPort s a1).hostFn k = s.hostFn k) ∧ (∀ k, (State.modSigPort s a1).parkSlot k = s.parkSlot k) ∧
    (∀ k, (State.modSigPort s a1).stud k = s.stud k) ∧ (∀ k, (State.modSigPort s a1).sensor k = s.sensor k) ∧
    (∀ k, (State.modSigPort s a1).link k = s.link k) ∧ (∀ k, (State.modSigPort s a1).sw k = s.sw k) ∧
    (State.modSigPort s a1).hw = s.hw ∧ (State.modSigPort s a1).variant = s.variant ∧
    (State.modSigPort s a1).trunkOn = s.trunkOn ∧ (State.modSigPort s a1).inRun = s.inRun ∧
    (State.modSigPort s a1).operating = s.operating ∧ (State.modSigPort s a1).parked = s.parked ∧
    (∀ k, (State.modSigPort s a1).decl k = s.decl k) ∧ (∀ k, (State.modSigPort s a1).sig k = s.sig k) := by and_intros <;> intros <;> rfl
/-- What `State.modRoot` leaves as it is. -/
@[simp] theorem State.modRoot_leaves (s) (a1) :
    (State.modRoot s a1).part = s.part ∧ (State.modRoot s a1).keeper = s.keeper ∧ (State.modRoot s a1).time = s.time ∧
    (State.modRoot s a1).faults = s.faults ∧ (State.modRoot s a1).signals = s.signals ∧
    (State.modRoot s a1).sensing = s.sensing ∧ (State.modRoot s a1).ctrl = s.ctrl ∧ (State.modRoot s a1).valve = s.valve ∧
    (State.modRoot s a1).gnss = s.gnss ∧ (State.modRoot s a1).imu = s.imu ∧ (State.modRoot s a1).cam = s.cam ∧
    (State.modRoot s a1).crown = s.crown ∧ (State.modRoot s a1).granary = s.granary ∧ (State.modRoot s a1).outs = s.outs ∧
    (State.modRoot s a1).swin = s.swin ∧ (State.modRoot s a1).body = s.body ∧ (State.modRoot s a1).fans = s.fans ∧
    (State.modRoot s a1).plate = s.plate ∧ (State.modRoot s a1).can = s.can ∧ (State.modRoot s a1).eth = s.eth ∧
    (State.modRoot s a1).nm = s.nm ∧ (State.modRoot s a1).graft = s.graft ∧ (State.modRoot s a1).attic = s.attic ∧
    (State.modRoot s a1).larder = s.larder ∧ (State.modRoot s a1).power = s.power ∧
    (State.modRoot s a1).thermal = s.thermal ∧ (State.modRoot s a1).jtag = s.jtag ∧ (State.modRoot s a1).kept = s.kept ∧
    (State.modRoot s a1).keptDirty = s.keptDirty ∧ (State.modRoot s a1).keptAt = s.keptAt ∧
    (State.modRoot s a1).free = s.free ∧ (State.modRoot s a1).pending = s.pending ∧
    (∀ k, (State.modRoot s a1).win k = s.win k) ∧ (∀ k, (State.modRoot s a1).lossCh k = s.lossCh k) ∧
    (∀ k, (State.modRoot s a1).bridgeCh k = s.bridgeCh k) ∧ (∀ k, (State.modRoot s a1).ainCh k = s.ainCh k) ∧
    (∀ k, (State.modRoot s a1).freqCh k = s.freqCh k) ∧ (∀ k, (State.modRoot s a1).supCh k = s.supCh k) ∧
    (∀ k, (State.modRoot s a1).canCh k = s.canCh k) ∧ (∀ k, (State.modRoot s a1).ethPort k = s.ethPort k) ∧
    (∀ k, (State.modRoot s a1).net k = s.net k) ∧ (∀ k, (State.modRoot s a1).port k = s.port k) ∧
    (∀ k, (State.modRoot s a1).lamp k = s.lamp k) ∧ (∀ k, (State.modRoot s a1).slot k = s.slot k) ∧
    (∀ k, (State.modRoot s a1).crownUnit k = s.crownUnit k) ∧ (∀ k, (State.modRoot s a1).loop k = s.loop k) ∧
    (∀ k, (State.modRoot s a1).trace k = s.trace k) ∧ (∀ k, (State.modRoot s a1).lidar k = s.lidar k) ∧
    (∀ k, (State.modRoot s a1).ring k = s.ring k) ∧ (∀ k, (State.modRoot s a1).fan k = s.fan k) ∧
    (∀ k, (State.modRoot s a1).out k = s.out k) ∧ (∀ k, (State.modRoot s a1).group k = s.group k) ∧
    (∀ k, (State.modRoot s a1).hb k = s.hb k) ∧ (∀ k, (State.modRoot s a1).svc k = s.svc k) ∧
    (∀ k, (State.modRoot s a1).valve' k = s.valve' k) ∧ (∀ k, (State.modRoot s a1).bank k = s.bank k) ∧
    (∀ k, (State.modRoot s a1).boost k = s.boost k) ∧ (∀ k, (State.modRoot s a1).ant k = s.ant k) ∧
    (∀ k, (State.modRoot s a1).partition k = s.partition k) ∧ (∀ k, (State.modRoot s a1).lin k = s.lin k) ∧
    (∀ k, (State.modRoot s a1).hostFn k = s.hostFn k) ∧ (∀ k, (State.modRoot s a1).parkSlot k = s.parkSlot k) ∧
    (∀ k, (State.modRoot s a1).stud k = s.stud k) ∧ (∀ k, (State.modRoot s a1).sensor k = s.sensor k) ∧
    (∀ k, (State.modRoot s a1).sw k = s.sw k) ∧ (State.modRoot s a1).hw = s.hw ∧ (State.modRoot s a1).variant = s.variant ∧
    (State.modRoot s a1).trunkOn = s.trunkOn ∧ (State.modRoot s a1).inRun = s.inRun ∧
    (State.modRoot s a1).operating = s.operating ∧ (State.modRoot s a1).parked = s.parked ∧
    (∀ k, (State.modRoot s a1).decl k = s.decl k) ∧ (∀ k, (State.modRoot s a1).sig k = s.sig k) := by and_intros <;> intros <;> rfl
/-- What `State.modLink` leaves as it is. -/
@[simp] theorem State.modLink_leaves (s) (a1) (a2) :
    (State.modLink s a1 a2).part = s.part ∧ (State.modLink s a1 a2).keeper = s.keeper ∧
    (State.modLink s a1 a2).time = s.time ∧ (State.modLink s a1 a2).faults = s.faults ∧
    (State.modLink s a1 a2).signals = s.signals ∧ (State.modLink s a1 a2).sensing = s.sensing ∧
    (State.modLink s a1 a2).ctrl = s.ctrl ∧ (State.modLink s a1 a2).valve = s.valve ∧ (State.modLink s a1 a2).gnss = s.gnss ∧
    (State.modLink s a1 a2).imu = s.imu ∧ (State.modLink s a1 a2).cam = s.cam ∧ (State.modLink s a1 a2).crown = s.crown ∧
    (State.modLink s a1 a2).granary = s.granary ∧ (State.modLink s a1 a2).outs = s.outs ∧
    (State.modLink s a1 a2).swin = s.swin ∧ (State.modLink s a1 a2).body = s.body ∧ (State.modLink s a1 a2).fans = s.fans ∧
    (State.modLink s a1 a2).plate = s.plate ∧ (State.modLink s a1 a2).can = s.can ∧ (State.modLink s a1 a2).eth = s.eth ∧
    (State.modLink s a1 a2).nm = s.nm ∧ (State.modLink s a1 a2).graft = s.graft ∧ (State.modLink s a1 a2).attic = s.attic ∧
    (State.modLink s a1 a2).larder = s.larder ∧ (State.modLink s a1 a2).power = s.power ∧
    (State.modLink s a1 a2).thermal = s.thermal ∧ (State.modLink s a1 a2).jtag = s.jtag ∧
    (State.modLink s a1 a2).kept = s.kept ∧ (State.modLink s a1 a2).keptDirty = s.keptDirty ∧
    (State.modLink s a1 a2).keptAt = s.keptAt ∧ (State.modLink s a1 a2).free = s.free ∧
    (State.modLink s a1 a2).pending = s.pending ∧ (∀ k, (State.modLink s a1 a2).win k = s.win k) ∧
    (∀ k, (State.modLink s a1 a2).lossCh k = s.lossCh k) ∧ (∀ k, (State.modLink s a1 a2).bridgeCh k = s.bridgeCh k) ∧
    (∀ k, (State.modLink s a1 a2).ainCh k = s.ainCh k) ∧ (∀ k, (State.modLink s a1 a2).freqCh k = s.freqCh k) ∧
    (∀ k, (State.modLink s a1 a2).supCh k = s.supCh k) ∧ (∀ k, (State.modLink s a1 a2).canCh k = s.canCh k) ∧
    (∀ k, (State.modLink s a1 a2).ethPort k = s.ethPort k) ∧ (∀ k, (State.modLink s a1 a2).net k = s.net k) ∧
    (∀ k, (State.modLink s a1 a2).port k = s.port k) ∧ (∀ k, (State.modLink s a1 a2).lamp k = s.lamp k) ∧
    (∀ k, (State.modLink s a1 a2).slot k = s.slot k) ∧ (∀ k, (State.modLink s a1 a2).crownUnit k = s.crownUnit k) ∧
    (∀ k, (State.modLink s a1 a2).loop k = s.loop k) ∧ (∀ k, (State.modLink s a1 a2).trace k = s.trace k) ∧
    (∀ k, (State.modLink s a1 a2).lidar k = s.lidar k) ∧ (∀ k, (State.modLink s a1 a2).ring k = s.ring k) ∧
    (∀ k, (State.modLink s a1 a2).fan k = s.fan k) ∧ (∀ k, (State.modLink s a1 a2).out k = s.out k) ∧
    (∀ k, (State.modLink s a1 a2).group k = s.group k) ∧ (∀ k, (State.modLink s a1 a2).hb k = s.hb k) ∧
    (∀ k, (State.modLink s a1 a2).svc k = s.svc k) ∧ (∀ k, (State.modLink s a1 a2).valve' k = s.valve' k) ∧
    (∀ k, (State.modLink s a1 a2).bank k = s.bank k) ∧ (∀ k, (State.modLink s a1 a2).boost k = s.boost k) ∧
    (∀ k, (State.modLink s a1 a2).ant k = s.ant k) ∧ (∀ k, (State.modLink s a1 a2).partition k = s.partition k) ∧
    (∀ k, (State.modLink s a1 a2).lin k = s.lin k) ∧ (∀ k, (State.modLink s a1 a2).hostFn k = s.hostFn k) ∧
    (∀ k, (State.modLink s a1 a2).parkSlot k = s.parkSlot k) ∧ (∀ k, (State.modLink s a1 a2).stud k = s.stud k) ∧
    (∀ k, (State.modLink s a1 a2).sensor k = s.sensor k) ∧ (∀ k, (State.modLink s a1 a2).sw k = s.sw k) ∧
    (State.modLink s a1 a2).hw = s.hw ∧ (State.modLink s a1 a2).variant = s.variant ∧
    (State.modLink s a1 a2).trunkOn = s.trunkOn ∧ (State.modLink s a1 a2).inRun = s.inRun ∧
    (State.modLink s a1 a2).operating = s.operating ∧ (State.modLink s a1 a2).parked = s.parked ∧
    (∀ k, (State.modLink s a1 a2).decl k = s.decl k) ∧ (∀ k, (State.modLink s a1 a2).sig k = s.sig k) := by and_intros <;> intros <;> rfl
/-- What `State.modLarder` leaves as it is. -/
@[simp] theorem State.modLarder_leaves (s) (a1) :
    (State.modLarder s a1).part = s.part ∧ (State.modLarder s a1).keeper = s.keeper ∧ (State.modLarder s a1).time = s.time ∧
    (State.modLarder s a1).faults = s.faults ∧ (State.modLarder s a1).signals = s.signals ∧
    (State.modLarder s a1).sensing = s.sensing ∧ (State.modLarder s a1).ctrl = s.ctrl ∧
    (State.modLarder s a1).valve = s.valve ∧ (State.modLarder s a1).gnss = s.gnss ∧ (State.modLarder s a1).imu = s.imu ∧
    (State.modLarder s a1).cam = s.cam ∧ (State.modLarder s a1).crown = s.crown ∧
    (State.modLarder s a1).granary = s.granary ∧ (State.modLarder s a1).outs = s.outs ∧
    (State.modLarder s a1).swin = s.swin ∧ (State.modLarder s a1).body = s.body ∧ (State.modLarder s a1).fans = s.fans ∧
    (State.modLarder s a1).plate = s.plate ∧ (State.modLarder s a1).can = s.can ∧ (State.modLarder s a1).eth = s.eth ∧
    (State.modLarder s a1).nm = s.nm ∧ (State.modLarder s a1).root = s.root ∧ (State.modLarder s a1).graft = s.graft ∧
    (State.modLarder s a1).attic = s.attic ∧ (State.modLarder s a1).power = s.power ∧
    (State.modLarder s a1).thermal = s.thermal ∧ (State.modLarder s a1).jtag = s.jtag ∧
    (State.modLarder s a1).kept = s.kept ∧ (State.modLarder s a1).keptDirty = s.keptDirty ∧
    (State.modLarder s a1).keptAt = s.keptAt ∧ (State.modLarder s a1).free = s.free ∧
    (State.modLarder s a1).pending = s.pending ∧ (∀ k, (State.modLarder s a1).win k = s.win k) ∧
    (∀ k, (State.modLarder s a1).lossCh k = s.lossCh k) ∧ (∀ k, (State.modLarder s a1).bridgeCh k = s.bridgeCh k) ∧
    (∀ k, (State.modLarder s a1).ainCh k = s.ainCh k) ∧ (∀ k, (State.modLarder s a1).freqCh k = s.freqCh k) ∧
    (∀ k, (State.modLarder s a1).supCh k = s.supCh k) ∧ (∀ k, (State.modLarder s a1).canCh k = s.canCh k) ∧
    (∀ k, (State.modLarder s a1).ethPort k = s.ethPort k) ∧ (∀ k, (State.modLarder s a1).net k = s.net k) ∧
    (∀ k, (State.modLarder s a1).port k = s.port k) ∧ (∀ k, (State.modLarder s a1).lamp k = s.lamp k) ∧
    (∀ k, (State.modLarder s a1).slot k = s.slot k) ∧ (∀ k, (State.modLarder s a1).crownUnit k = s.crownUnit k) ∧
    (∀ k, (State.modLarder s a1).loop k = s.loop k) ∧ (∀ k, (State.modLarder s a1).trace k = s.trace k) ∧
    (∀ k, (State.modLarder s a1).lidar k = s.lidar k) ∧ (∀ k, (State.modLarder s a1).ring k = s.ring k) ∧
    (∀ k, (State.modLarder s a1).fan k = s.fan k) ∧ (∀ k, (State.modLarder s a1).out k = s.out k) ∧
    (∀ k, (State.modLarder s a1).group k = s.group k) ∧ (∀ k, (State.modLarder s a1).hb k = s.hb k) ∧
    (∀ k, (State.modLarder s a1).svc k = s.svc k) ∧ (∀ k, (State.modLarder s a1).valve' k = s.valve' k) ∧
    (∀ k, (State.modLarder s a1).bank k = s.bank k) ∧ (∀ k, (State.modLarder s a1).boost k = s.boost k) ∧
    (∀ k, (State.modLarder s a1).ant k = s.ant k) ∧ (∀ k, (State.modLarder s a1).partition k = s.partition k) ∧
    (∀ k, (State.modLarder s a1).lin k = s.lin k) ∧ (∀ k, (State.modLarder s a1).hostFn k = s.hostFn k) ∧
    (∀ k, (State.modLarder s a1).parkSlot k = s.parkSlot k) ∧ (∀ k, (State.modLarder s a1).stud k = s.stud k) ∧
    (∀ k, (State.modLarder s a1).sensor k = s.sensor k) ∧ (∀ k, (State.modLarder s a1).link k = s.link k) ∧
    (∀ k, (State.modLarder s a1).sw k = s.sw k) ∧ (State.modLarder s a1).hw = s.hw ∧
    (State.modLarder s a1).variant = s.variant ∧ (State.modLarder s a1).trunkOn = s.trunkOn ∧
    (State.modLarder s a1).inRun = s.inRun ∧ (State.modLarder s a1).operating = s.operating ∧
    (State.modLarder s a1).parked = s.parked ∧ (∀ k, (State.modLarder s a1).decl k = s.decl k) ∧
    (∀ k, (State.modLarder s a1).sig k = s.sig k) := by and_intros <;> intros <;> rfl
/-- What `State.modGraft` leaves as it is. -/
@[simp] theorem State.modGraft_leaves (s) (a1) :
    (State.modGraft s a1).part = s.part ∧ (State.modGraft s a1).keeper = s.keeper ∧ (State.modGraft s a1).time = s.time ∧
    (State.modGraft s a1).faults = s.faults ∧ (State.modGraft s a1).signals = s.signals ∧
    (State.modGraft s a1).sensing = s.sensing ∧ (State.modGraft s a1).ctrl = s.ctrl ∧ (State.modGraft s a1).valve = s.valve ∧
    (State.modGraft s a1).gnss = s.gnss ∧ (State.modGraft s a1).imu = s.imu ∧ (State.modGraft s a1).cam = s.cam ∧
    (State.modGraft s a1).crown = s.crown ∧ (State.modGraft s a1).granary = s.granary ∧ (State.modGraft s a1).outs = s.outs ∧
    (State.modGraft s a1).swin = s.swin ∧ (State.modGraft s a1).body = s.body ∧ (State.modGraft s a1).fans = s.fans ∧
    (State.modGraft s a1).plate = s.plate ∧ (State.modGraft s a1).can = s.can ∧ (State.modGraft s a1).eth = s.eth ∧
    (State.modGraft s a1).nm = s.nm ∧ (State.modGraft s a1).root = s.root ∧ (State.modGraft s a1).attic = s.attic ∧
    (State.modGraft s a1).larder = s.larder ∧ (State.modGraft s a1).power = s.power ∧
    (State.modGraft s a1).thermal = s.thermal ∧ (State.modGraft s a1).jtag = s.jtag ∧ (State.modGraft s a1).kept = s.kept ∧
    (State.modGraft s a1).keptDirty = s.keptDirty ∧ (State.modGraft s a1).keptAt = s.keptAt ∧
    (State.modGraft s a1).free = s.free ∧ (State.modGraft s a1).pending = s.pending ∧
    (∀ k, (State.modGraft s a1).win k = s.win k) ∧ (∀ k, (State.modGraft s a1).lossCh k = s.lossCh k) ∧
    (∀ k, (State.modGraft s a1).bridgeCh k = s.bridgeCh k) ∧ (∀ k, (State.modGraft s a1).ainCh k = s.ainCh k) ∧
    (∀ k, (State.modGraft s a1).freqCh k = s.freqCh k) ∧ (∀ k, (State.modGraft s a1).supCh k = s.supCh k) ∧
    (∀ k, (State.modGraft s a1).canCh k = s.canCh k) ∧ (∀ k, (State.modGraft s a1).ethPort k = s.ethPort k) ∧
    (∀ k, (State.modGraft s a1).net k = s.net k) ∧ (∀ k, (State.modGraft s a1).port k = s.port k) ∧
    (∀ k, (State.modGraft s a1).lamp k = s.lamp k) ∧ (∀ k, (State.modGraft s a1).slot k = s.slot k) ∧
    (∀ k, (State.modGraft s a1).crownUnit k = s.crownUnit k) ∧ (∀ k, (State.modGraft s a1).loop k = s.loop k) ∧
    (∀ k, (State.modGraft s a1).trace k = s.trace k) ∧ (∀ k, (State.modGraft s a1).lidar k = s.lidar k) ∧
    (∀ k, (State.modGraft s a1).ring k = s.ring k) ∧ (∀ k, (State.modGraft s a1).fan k = s.fan k) ∧
    (∀ k, (State.modGraft s a1).out k = s.out k) ∧ (∀ k, (State.modGraft s a1).group k = s.group k) ∧
    (∀ k, (State.modGraft s a1).hb k = s.hb k) ∧ (∀ k, (State.modGraft s a1).svc k = s.svc k) ∧
    (∀ k, (State.modGraft s a1).valve' k = s.valve' k) ∧ (∀ k, (State.modGraft s a1).bank k = s.bank k) ∧
    (∀ k, (State.modGraft s a1).boost k = s.boost k) ∧ (∀ k, (State.modGraft s a1).ant k = s.ant k) ∧
    (∀ k, (State.modGraft s a1).partition k = s.partition k) ∧ (∀ k, (State.modGraft s a1).lin k = s.lin k) ∧
    (∀ k, (State.modGraft s a1).hostFn k = s.hostFn k) ∧ (∀ k, (State.modGraft s a1).parkSlot k = s.parkSlot k) ∧
    (∀ k, (State.modGraft s a1).stud k = s.stud k) ∧ (∀ k, (State.modGraft s a1).sensor k = s.sensor k) ∧
    (∀ k, (State.modGraft s a1).link k = s.link k) ∧ (∀ k, (State.modGraft s a1).sw k = s.sw k) ∧
    (State.modGraft s a1).hw = s.hw ∧ (State.modGraft s a1).variant = s.variant ∧ (State.modGraft s a1).trunkOn = s.trunkOn ∧
    (State.modGraft s a1).inRun = s.inRun ∧ (State.modGraft s a1).operating = s.operating ∧
    (State.modGraft s a1).parked = s.parked ∧ (∀ k, (State.modGraft s a1).decl k = s.decl k) ∧
    (∀ k, (State.modGraft s a1).sig k = s.sig k) := by and_intros <;> intros <;> rfl
/-- What `State.modAct` leaves as it is. -/
@[simp] theorem State.modAct_leaves (s) (a1) :
    (State.modAct s a1).part = s.part ∧ (State.modAct s a1).keeper = s.keeper ∧ (State.modAct s a1).time = s.time ∧
    (State.modAct s a1).faults = s.faults ∧ (State.modAct s a1).signals = s.signals ∧
    (State.modAct s a1).sensing = s.sensing ∧ (State.modAct s a1).ctrl = s.ctrl ∧ (State.modAct s a1).valve = s.valve ∧
    (State.modAct s a1).gnss = s.gnss ∧ (State.modAct s a1).imu = s.imu ∧ (State.modAct s a1).cam = s.cam ∧
    (State.modAct s a1).crown = s.crown ∧ (State.modAct s a1).granary = s.granary ∧ (State.modAct s a1).outs = s.outs ∧
    (State.modAct s a1).swin = s.swin ∧ (State.modAct s a1).body = s.body ∧ (State.modAct s a1).fans = s.fans ∧
    (State.modAct s a1).plate = s.plate ∧ (State.modAct s a1).can = s.can ∧ (State.modAct s a1).eth = s.eth ∧
    (State.modAct s a1).nm = s.nm ∧ (State.modAct s a1).root = s.root ∧ (State.modAct s a1).attic = s.attic ∧
    (State.modAct s a1).larder = s.larder ∧ (State.modAct s a1).power = s.power ∧ (State.modAct s a1).thermal = s.thermal ∧
    (State.modAct s a1).jtag = s.jtag ∧ (State.modAct s a1).kept = s.kept ∧ (State.modAct s a1).keptDirty = s.keptDirty ∧
    (State.modAct s a1).keptAt = s.keptAt ∧ (State.modAct s a1).free = s.free ∧ (State.modAct s a1).pending = s.pending ∧
    (∀ k, (State.modAct s a1).win k = s.win k) ∧ (∀ k, (State.modAct s a1).lossCh k = s.lossCh k) ∧
    (∀ k, (State.modAct s a1).bridgeCh k = s.bridgeCh k) ∧ (∀ k, (State.modAct s a1).ainCh k = s.ainCh k) ∧
    (∀ k, (State.modAct s a1).freqCh k = s.freqCh k) ∧ (∀ k, (State.modAct s a1).supCh k = s.supCh k) ∧
    (∀ k, (State.modAct s a1).canCh k = s.canCh k) ∧ (∀ k, (State.modAct s a1).ethPort k = s.ethPort k) ∧
    (∀ k, (State.modAct s a1).net k = s.net k) ∧ (∀ k, (State.modAct s a1).port k = s.port k) ∧
    (∀ k, (State.modAct s a1).lamp k = s.lamp k) ∧ (∀ k, (State.modAct s a1).slot k = s.slot k) ∧
    (∀ k, (State.modAct s a1).crownUnit k = s.crownUnit k) ∧ (∀ k, (State.modAct s a1).loop k = s.loop k) ∧
    (∀ k, (State.modAct s a1).trace k = s.trace k) ∧ (∀ k, (State.modAct s a1).lidar k = s.lidar k) ∧
    (∀ k, (State.modAct s a1).ring k = s.ring k) ∧ (∀ k, (State.modAct s a1).fan k = s.fan k) ∧
    (∀ k, (State.modAct s a1).out k = s.out k) ∧ (∀ k, (State.modAct s a1).group k = s.group k) ∧
    (∀ k, (State.modAct s a1).hb k = s.hb k) ∧ (∀ k, (State.modAct s a1).svc k = s.svc k) ∧
    (∀ k, (State.modAct s a1).valve' k = s.valve' k) ∧ (∀ k, (State.modAct s a1).bank k = s.bank k) ∧
    (∀ k, (State.modAct s a1).boost k = s.boost k) ∧ (∀ k, (State.modAct s a1).ant k = s.ant k) ∧
    (∀ k, (State.modAct s a1).partition k = s.partition k) ∧ (∀ k, (State.modAct s a1).lin k = s.lin k) ∧
    (∀ k, (State.modAct s a1).hostFn k = s.hostFn k) ∧ (∀ k, (State.modAct s a1).parkSlot k = s.parkSlot k) ∧
    (∀ k, (State.modAct s a1).stud k = s.stud k) ∧ (∀ k, (State.modAct s a1).sensor k = s.sensor k) ∧
    (∀ k, (State.modAct s a1).link k = s.link k) ∧ (∀ k, (State.modAct s a1).sw k = s.sw k) ∧ (State.modAct s a1).hw = s.hw ∧
    (State.modAct s a1).variant = s.variant ∧ (State.modAct s a1).trunkOn = s.trunkOn ∧ (State.modAct s a1).inRun = s.inRun ∧
    (State.modAct s a1).operating = s.operating ∧ (State.modAct s a1).parked = s.parked ∧
    (∀ k, (State.modAct s a1).decl k = s.decl k) ∧ (∀ k, (State.modAct s a1).sig k = s.sig k) := by and_intros <;> intros <;> rfl
/-- What `State.modPower` leaves as it is. -/
@[simp] theorem State.modPower_leaves (s) (a1) :
    (State.modPower s a1).part = s.part ∧ (State.modPower s a1).keeper = s.keeper ∧ (State.modPower s a1).time = s.time ∧
    (State.modPower s a1).faults = s.faults ∧ (State.modPower s a1).signals = s.signals ∧
    (State.modPower s a1).sensing = s.sensing ∧ (State.modPower s a1).ctrl = s.ctrl ∧ (State.modPower s a1).valve = s.valve ∧
    (State.modPower s a1).gnss = s.gnss ∧ (State.modPower s a1).imu = s.imu ∧ (State.modPower s a1).cam = s.cam ∧
    (State.modPower s a1).crown = s.crown ∧ (State.modPower s a1).granary = s.granary ∧ (State.modPower s a1).outs = s.outs ∧
    (State.modPower s a1).swin = s.swin ∧ (State.modPower s a1).body = s.body ∧ (State.modPower s a1).fans = s.fans ∧
    (State.modPower s a1).plate = s.plate ∧ (State.modPower s a1).can = s.can ∧ (State.modPower s a1).eth = s.eth ∧
    (State.modPower s a1).nm = s.nm ∧ (State.modPower s a1).root = s.root ∧ (State.modPower s a1).graft = s.graft ∧
    (State.modPower s a1).attic = s.attic ∧ (State.modPower s a1).larder = s.larder ∧
    (State.modPower s a1).thermal = s.thermal ∧ (State.modPower s a1).jtag = s.jtag ∧ (State.modPower s a1).kept = s.kept ∧
    (State.modPower s a1).keptDirty = s.keptDirty ∧ (State.modPower s a1).keptAt = s.keptAt ∧
    (State.modPower s a1).free = s.free ∧ (State.modPower s a1).pending = s.pending ∧
    (∀ k, (State.modPower s a1).win k = s.win k) ∧ (∀ k, (State.modPower s a1).lossCh k = s.lossCh k) ∧
    (∀ k, (State.modPower s a1).bridgeCh k = s.bridgeCh k) ∧ (∀ k, (State.modPower s a1).ainCh k = s.ainCh k) ∧
    (∀ k, (State.modPower s a1).freqCh k = s.freqCh k) ∧ (∀ k, (State.modPower s a1).supCh k = s.supCh k) ∧
    (∀ k, (State.modPower s a1).canCh k = s.canCh k) ∧ (∀ k, (State.modPower s a1).ethPort k = s.ethPort k) ∧
    (∀ k, (State.modPower s a1).net k = s.net k) ∧ (∀ k, (State.modPower s a1).port k = s.port k) ∧
    (∀ k, (State.modPower s a1).lamp k = s.lamp k) ∧ (∀ k, (State.modPower s a1).slot k = s.slot k) ∧
    (∀ k, (State.modPower s a1).crownUnit k = s.crownUnit k) ∧ (∀ k, (State.modPower s a1).loop k = s.loop k) ∧
    (∀ k, (State.modPower s a1).trace k = s.trace k) ∧ (∀ k, (State.modPower s a1).lidar k = s.lidar k) ∧
    (∀ k, (State.modPower s a1).ring k = s.ring k) ∧ (∀ k, (State.modPower s a1).fan k = s.fan k) ∧
    (∀ k, (State.modPower s a1).out k = s.out k) ∧ (∀ k, (State.modPower s a1).group k = s.group k) ∧
    (∀ k, (State.modPower s a1).hb k = s.hb k) ∧ (∀ k, (State.modPower s a1).svc k = s.svc k) ∧
    (∀ k, (State.modPower s a1).valve' k = s.valve' k) ∧ (∀ k, (State.modPower s a1).bank k = s.bank k) ∧
    (∀ k, (State.modPower s a1).boost k = s.boost k) ∧ (∀ k, (State.modPower s a1).ant k = s.ant k) ∧
    (∀ k, (State.modPower s a1).partition k = s.partition k) ∧ (∀ k, (State.modPower s a1).lin k = s.lin k) ∧
    (∀ k, (State.modPower s a1).hostFn k = s.hostFn k) ∧ (∀ k, (State.modPower s a1).parkSlot k = s.parkSlot k) ∧
    (∀ k, (State.modPower s a1).sensor k = s.sensor k) ∧ (∀ k, (State.modPower s a1).link k = s.link k) ∧
    (∀ k, (State.modPower s a1).sw k = s.sw k) ∧ (State.modPower s a1).hw = s.hw ∧
    (State.modPower s a1).variant = s.variant ∧ (∀ k, (State.modPower s a1).decl k = s.decl k) ∧
    (∀ k, (State.modPower s a1).sig k = s.sig k) := by and_intros <;> intros <;> rfl
/-- What `State.modStud` leaves as it is. -/
@[simp] theorem State.modStud_leaves (s) (a1) (a2) :
    (State.modStud s a1 a2).part = s.part ∧ (State.modStud s a1 a2).keeper = s.keeper ∧
    (State.modStud s a1 a2).time = s.time ∧ (State.modStud s a1 a2).faults = s.faults ∧
    (State.modStud s a1 a2).signals = s.signals ∧ (State.modStud s a1 a2).sensing = s.sensing ∧
    (State.modStud s a1 a2).ctrl = s.ctrl ∧ (State.modStud s a1 a2).valve = s.valve ∧ (State.modStud s a1 a2).gnss = s.gnss ∧
    (State.modStud s a1 a2).imu = s.imu ∧ (State.modStud s a1 a2).cam = s.cam ∧ (State.modStud s a1 a2).crown = s.crown ∧
    (State.modStud s a1 a2).granary = s.granary ∧ (State.modStud s a1 a2).outs = s.outs ∧
    (State.modStud s a1 a2).swin = s.swin ∧ (State.modStud s a1 a2).body = s.body ∧ (State.modStud s a1 a2).fans = s.fans ∧
    (State.modStud s a1 a2).plate = s.plate ∧ (State.modStud s a1 a2).can = s.can ∧ (State.modStud s a1 a2).eth = s.eth ∧
    (State.modStud s a1 a2).nm = s.nm ∧ (State.modStud s a1 a2).root = s.root ∧ (State.modStud s a1 a2).graft = s.graft ∧
    (State.modStud s a1 a2).attic = s.attic ∧ (State.modStud s a1 a2).larder = s.larder ∧
    (State.modStud s a1 a2).thermal = s.thermal ∧ (State.modStud s a1 a2).jtag = s.jtag ∧
    (State.modStud s a1 a2).kept = s.kept ∧ (State.modStud s a1 a2).keptDirty = s.keptDirty ∧
    (State.modStud s a1 a2).keptAt = s.keptAt ∧ (State.modStud s a1 a2).free = s.free ∧
    (State.modStud s a1 a2).pending = s.pending ∧ (∀ k, (State.modStud s a1 a2).win k = s.win k) ∧
    (∀ k, (State.modStud s a1 a2).lossCh k = s.lossCh k) ∧ (∀ k, (State.modStud s a1 a2).bridgeCh k = s.bridgeCh k) ∧
    (∀ k, (State.modStud s a1 a2).ainCh k = s.ainCh k) ∧ (∀ k, (State.modStud s a1 a2).freqCh k = s.freqCh k) ∧
    (∀ k, (State.modStud s a1 a2).supCh k = s.supCh k) ∧ (∀ k, (State.modStud s a1 a2).canCh k = s.canCh k) ∧
    (∀ k, (State.modStud s a1 a2).ethPort k = s.ethPort k) ∧ (∀ k, (State.modStud s a1 a2).net k = s.net k) ∧
    (∀ k, (State.modStud s a1 a2).port k = s.port k) ∧ (∀ k, (State.modStud s a1 a2).lamp k = s.lamp k) ∧
    (∀ k, (State.modStud s a1 a2).slot k = s.slot k) ∧ (∀ k, (State.modStud s a1 a2).crownUnit k = s.crownUnit k) ∧
    (∀ k, (State.modStud s a1 a2).loop k = s.loop k) ∧ (∀ k, (State.modStud s a1 a2).trace k = s.trace k) ∧
    (∀ k, (State.modStud s a1 a2).lidar k = s.lidar k) ∧ (∀ k, (State.modStud s a1 a2).ring k = s.ring k) ∧
    (∀ k, (State.modStud s a1 a2).fan k = s.fan k) ∧ (∀ k, (State.modStud s a1 a2).out k = s.out k) ∧
    (∀ k, (State.modStud s a1 a2).group k = s.group k) ∧ (∀ k, (State.modStud s a1 a2).hb k = s.hb k) ∧
    (∀ k, (State.modStud s a1 a2).svc k = s.svc k) ∧ (∀ k, (State.modStud s a1 a2).valve' k = s.valve' k) ∧
    (∀ k, (State.modStud s a1 a2).bank k = s.bank k) ∧ (∀ k, (State.modStud s a1 a2).boost k = s.boost k) ∧
    (∀ k, (State.modStud s a1 a2).ant k = s.ant k) ∧ (∀ k, (State.modStud s a1 a2).partition k = s.partition k) ∧
    (∀ k, (State.modStud s a1 a2).lin k = s.lin k) ∧ (∀ k, (State.modStud s a1 a2).hostFn k = s.hostFn k) ∧
    (∀ k, (State.modStud s a1 a2).parkSlot k = s.parkSlot k) ∧ (∀ k, (State.modStud s a1 a2).sensor k = s.sensor k) ∧
    (∀ k, (State.modStud s a1 a2).link k = s.link k) ∧ (∀ k, (State.modStud s a1 a2).sw k = s.sw k) ∧
    (State.modStud s a1 a2).hw = s.hw ∧ (State.modStud s a1 a2).variant = s.variant ∧
    (State.modStud s a1 a2).trunkOn = s.trunkOn ∧ (State.modStud s a1 a2).inRun = s.inRun ∧
    (State.modStud s a1 a2).operating = s.operating ∧ (State.modStud s a1 a2).parked = s.parked ∧
    (∀ k, (State.modStud s a1 a2).decl k = s.decl k) ∧ (∀ k, (State.modStud s a1 a2).sig k = s.sig k) := by and_intros <;> intros <;> rfl
/-- What `State.modSensor` leaves as it is. -/
@[simp] theorem State.modSensor_leaves (s) (a1) (a2) :
    (State.modSensor s a1 a2).part = s.part ∧ (State.modSensor s a1 a2).keeper = s.keeper ∧
    (State.modSensor s a1 a2).time = s.time ∧ (State.modSensor s a1 a2).faults = s.faults ∧
    (State.modSensor s a1 a2).signals = s.signals ∧ (State.modSensor s a1 a2).sensing = s.sensing ∧
    (State.modSensor s a1 a2).ctrl = s.ctrl ∧ (State.modSensor s a1 a2).valve = s.valve ∧
    (State.modSensor s a1 a2).gnss = s.gnss ∧ (State.modSensor s a1 a2).imu = s.imu ∧ (State.modSensor s a1 a2).cam = s.cam ∧
    (State.modSensor s a1 a2).crown = s.crown ∧ (State.modSensor s a1 a2).granary = s.granary ∧
    (State.modSensor s a1 a2).outs = s.outs ∧ (State.modSensor s a1 a2).swin = s.swin ∧
    (State.modSensor s a1 a2).body = s.body ∧ (State.modSensor s a1 a2).fans = s.fans ∧
    (State.modSensor s a1 a2).plate = s.plate ∧ (State.modSensor s a1 a2).can = s.can ∧
    (State.modSensor s a1 a2).eth = s.eth ∧ (State.modSensor s a1 a2).nm = s.nm ∧ (State.modSensor s a1 a2).root = s.root ∧
    (State.modSensor s a1 a2).graft = s.graft ∧ (State.modSensor s a1 a2).attic = s.attic ∧
    (State.modSensor s a1 a2).larder = s.larder ∧ (State.modSensor s a1 a2).power = s.power ∧
    (State.modSensor s a1 a2).jtag = s.jtag ∧ (State.modSensor s a1 a2).kept = s.kept ∧
    (State.modSensor s a1 a2).keptDirty = s.keptDirty ∧ (State.modSensor s a1 a2).keptAt = s.keptAt ∧
    (State.modSensor s a1 a2).free = s.free ∧ (State.modSensor s a1 a2).pending = s.pending ∧
    (∀ k, (State.modSensor s a1 a2).win k = s.win k) ∧ (∀ k, (State.modSensor s a1 a2).lossCh k = s.lossCh k) ∧
    (∀ k, (State.modSensor s a1 a2).bridgeCh k = s.bridgeCh k) ∧ (∀ k, (State.modSensor s a1 a2).ainCh k = s.ainCh k) ∧
    (∀ k, (State.modSensor s a1 a2).freqCh k = s.freqCh k) ∧ (∀ k, (State.modSensor s a1 a2).supCh k = s.supCh k) ∧
    (∀ k, (State.modSensor s a1 a2).canCh k = s.canCh k) ∧ (∀ k, (State.modSensor s a1 a2).ethPort k = s.ethPort k) ∧
    (∀ k, (State.modSensor s a1 a2).net k = s.net k) ∧ (∀ k, (State.modSensor s a1 a2).port k = s.port k) ∧
    (∀ k, (State.modSensor s a1 a2).lamp k = s.lamp k) ∧ (∀ k, (State.modSensor s a1 a2).slot k = s.slot k) ∧
    (∀ k, (State.modSensor s a1 a2).crownUnit k = s.crownUnit k) ∧ (∀ k, (State.modSensor s a1 a2).loop k = s.loop k) ∧
    (∀ k, (State.modSensor s a1 a2).trace k = s.trace k) ∧ (∀ k, (State.modSensor s a1 a2).lidar k = s.lidar k) ∧
    (∀ k, (State.modSensor s a1 a2).ring k = s.ring k) ∧ (∀ k, (State.modSensor s a1 a2).fan k = s.fan k) ∧
    (∀ k, (State.modSensor s a1 a2).out k = s.out k) ∧ (∀ k, (State.modSensor s a1 a2).group k = s.group k) ∧
    (∀ k, (State.modSensor s a1 a2).hb k = s.hb k) ∧ (∀ k, (State.modSensor s a1 a2).svc k = s.svc k) ∧
    (∀ k, (State.modSensor s a1 a2).valve' k = s.valve' k) ∧ (∀ k, (State.modSensor s a1 a2).bank k = s.bank k) ∧
    (∀ k, (State.modSensor s a1 a2).boost k = s.boost k) ∧ (∀ k, (State.modSensor s a1 a2).ant k = s.ant k) ∧
    (∀ k, (State.modSensor s a1 a2).partition k = s.partition k) ∧ (∀ k, (State.modSensor s a1 a2).lin k = s.lin k) ∧
    (∀ k, (State.modSensor s a1 a2).hostFn k = s.hostFn k) ∧ (∀ k, (State.modSensor s a1 a2).parkSlot k = s.parkSlot k) ∧
    (∀ k, (State.modSensor s a1 a2).stud k = s.stud k) ∧ (∀ k, (State.modSensor s a1 a2).link k = s.link k) ∧
    (∀ k, (State.modSensor s a1 a2).sw k = s.sw k) ∧ (State.modSensor s a1 a2).hw = s.hw ∧
    (State.modSensor s a1 a2).variant = s.variant ∧ (State.modSensor s a1 a2).trunkOn = s.trunkOn ∧
    (State.modSensor s a1 a2).inRun = s.inRun ∧ (State.modSensor s a1 a2).operating = s.operating ∧
    (State.modSensor s a1 a2).parked = s.parked ∧ (∀ k, (State.modSensor s a1 a2).decl k = s.decl k) ∧
    (∀ k, (State.modSensor s a1 a2).sig k = s.sig k) := by and_intros <;> intros <;> rfl
/-- What `State.modPartition` leaves as it is. -/
@[simp] theorem State.modPartition_leaves (s) (a1) (a2) :
    (State.modPartition s a1 a2).part = s.part ∧ (State.modPartition s a1 a2).time = s.time ∧
    (State.modPartition s a1 a2).faults = s.faults ∧ (State.modPartition s a1 a2).signals = s.signals ∧
    (State.modPartition s a1 a2).sensing = s.sensing ∧ (State.modPartition s a1 a2).ctrl = s.ctrl ∧
    (State.modPartition s a1 a2).valve = s.valve ∧ (State.modPartition s a1 a2).gnss = s.gnss ∧
    (State.modPartition s a1 a2).imu = s.imu ∧ (State.modPartition s a1 a2).cam = s.cam ∧
    (State.modPartition s a1 a2).crown = s.crown ∧ (State.modPartition s a1 a2).granary = s.granary ∧
    (State.modPartition s a1 a2).outs = s.outs ∧ (State.modPartition s a1 a2).swin = s.swin ∧
    (State.modPartition s a1 a2).body = s.body ∧ (State.modPartition s a1 a2).fans = s.fans ∧
    (State.modPartition s a1 a2).plate = s.plate ∧ (State.modPartition s a1 a2).can = s.can ∧
    (State.modPartition s a1 a2).eth = s.eth ∧ (State.modPartition s a1 a2).nm = s.nm ∧
    (State.modPartition s a1 a2).root = s.root ∧ (State.modPartition s a1 a2).graft = s.graft ∧
    (State.modPartition s a1 a2).attic = s.attic ∧ (State.modPartition s a1 a2).larder = s.larder ∧
    (State.modPartition s a1 a2).power = s.power ∧ (State.modPartition s a1 a2).thermal = s.thermal ∧
    (State.modPartition s a1 a2).jtag = s.jtag ∧ (State.modPartition s a1 a2).kept = s.kept ∧
    (State.modPartition s a1 a2).keptDirty = s.keptDirty ∧ (State.modPartition s a1 a2).keptAt = s.keptAt ∧
    (State.modPartition s a1 a2).free = s.free ∧ (State.modPartition s a1 a2).pending = s.pending ∧
    (∀ k, (State.modPartition s a1 a2).win k = s.win k) ∧ (∀ k, (State.modPartition s a1 a2).lossCh k = s.lossCh k) ∧
    (∀ k, (State.modPartition s a1 a2).bridgeCh k = s.bridgeCh k) ∧ (∀ k, (State.modPartition s a1 a2).ainCh k = s.ainCh k) ∧
    (∀ k, (State.modPartition s a1 a2).freqCh k = s.freqCh k) ∧ (∀ k, (State.modPartition s a1 a2).supCh k = s.supCh k) ∧
    (∀ k, (State.modPartition s a1 a2).canCh k = s.canCh k) ∧ (∀ k, (State.modPartition s a1 a2).ethPort k = s.ethPort k) ∧
    (∀ k, (State.modPartition s a1 a2).net k = s.net k) ∧ (∀ k, (State.modPartition s a1 a2).port k = s.port k) ∧
    (∀ k, (State.modPartition s a1 a2).lamp k = s.lamp k) ∧ (∀ k, (State.modPartition s a1 a2).slot k = s.slot k) ∧
    (∀ k, (State.modPartition s a1 a2).crownUnit k = s.crownUnit k) ∧ (∀ k, (State.modPartition s a1 a2).loop k = s.loop k) ∧
    (∀ k, (State.modPartition s a1 a2).trace k = s.trace k) ∧ (∀ k, (State.modPartition s a1 a2).lidar k = s.lidar k) ∧
    (∀ k, (State.modPartition s a1 a2).ring k = s.ring k) ∧ (∀ k, (State.modPartition s a1 a2).fan k = s.fan k) ∧
    (∀ k, (State.modPartition s a1 a2).out k = s.out k) ∧ (∀ k, (State.modPartition s a1 a2).group k = s.group k) ∧
    (∀ k, (State.modPartition s a1 a2).hb k = s.hb k) ∧ (∀ k, (State.modPartition s a1 a2).svc k = s.svc k) ∧
    (∀ k, (State.modPartition s a1 a2).valve' k = s.valve' k) ∧ (∀ k, (State.modPartition s a1 a2).bank k = s.bank k) ∧
    (∀ k, (State.modPartition s a1 a2).boost k = s.boost k) ∧ (∀ k, (State.modPartition s a1 a2).ant k = s.ant k) ∧
    (∀ k, (State.modPartition s a1 a2).lin k = s.lin k) ∧ (∀ k, (State.modPartition s a1 a2).hostFn k = s.hostFn k) ∧
    (∀ k, (State.modPartition s a1 a2).parkSlot k = s.parkSlot k) ∧ (∀ k, (State.modPartition s a1 a2).stud k = s.stud k) ∧
    (∀ k, (State.modPartition s a1 a2).sensor k = s.sensor k) ∧ (∀ k, (State.modPartition s a1 a2).link k = s.link k) ∧
    (∀ k, (State.modPartition s a1 a2).sw k = s.sw k) ∧ (State.modPartition s a1 a2).hw = s.hw ∧
    (State.modPartition s a1 a2).variant = s.variant ∧ (State.modPartition s a1 a2).trunkOn = s.trunkOn ∧
    (State.modPartition s a1 a2).inRun = s.inRun ∧ (State.modPartition s a1 a2).operating = s.operating ∧
    (State.modPartition s a1 a2).parked = s.parked ∧ (∀ k, (State.modPartition s a1 a2).decl k = s.decl k) ∧
    (∀ k, (State.modPartition s a1 a2).sig k = s.sig k) := by and_intros <;> intros <;> rfl
/-- What `State.modJtag` leaves as it is. -/
@[simp] theorem State.modJtag_leaves (s) (a1) :
    (State.modJtag s a1).part = s.part ∧ (State.modJtag s a1).keeper = s.keeper ∧ (State.modJtag s a1).time = s.time ∧
    (State.modJtag s a1).faults = s.faults ∧ (State.modJtag s a1).signals = s.signals ∧
    (State.modJtag s a1).sensing = s.sensing ∧ (State.modJtag s a1).ctrl = s.ctrl ∧ (State.modJtag s a1).valve = s.valve ∧
    (State.modJtag s a1).gnss = s.gnss ∧ (State.modJtag s a1).imu = s.imu ∧ (State.modJtag s a1).cam = s.cam ∧
    (State.modJtag s a1).crown = s.crown ∧ (State.modJtag s a1).granary = s.granary ∧ (State.modJtag s a1).outs = s.outs ∧
    (State.modJtag s a1).swin = s.swin ∧ (State.modJtag s a1).body = s.body ∧ (State.modJtag s a1).fans = s.fans ∧
    (State.modJtag s a1).plate = s.plate ∧ (State.modJtag s a1).can = s.can ∧ (State.modJtag s a1).eth = s.eth ∧
    (State.modJtag s a1).nm = s.nm ∧ (State.modJtag s a1).root = s.root ∧ (State.modJtag s a1).graft = s.graft ∧
    (State.modJtag s a1).attic = s.attic ∧ (State.modJtag s a1).larder = s.larder ∧ (State.modJtag s a1).power = s.power ∧
    (State.modJtag s a1).thermal = s.thermal ∧ (State.modJtag s a1).kept = s.kept ∧
    (State.modJtag s a1).keptDirty = s.keptDirty ∧ (State.modJtag s a1).keptAt = s.keptAt ∧
    (State.modJtag s a1).free = s.free ∧ (State.modJtag s a1).pending = s.pending ∧
    (∀ k, (State.modJtag s a1).win k = s.win k) ∧ (∀ k, (State.modJtag s a1).lossCh k = s.lossCh k) ∧
    (∀ k, (State.modJtag s a1).bridgeCh k = s.bridgeCh k) ∧ (∀ k, (State.modJtag s a1).ainCh k = s.ainCh k) ∧
    (∀ k, (State.modJtag s a1).freqCh k = s.freqCh k) ∧ (∀ k, (State.modJtag s a1).supCh k = s.supCh k) ∧
    (∀ k, (State.modJtag s a1).canCh k = s.canCh k) ∧ (∀ k, (State.modJtag s a1).ethPort k = s.ethPort k) ∧
    (∀ k, (State.modJtag s a1).net k = s.net k) ∧ (∀ k, (State.modJtag s a1).port k = s.port k) ∧
    (∀ k, (State.modJtag s a1).lamp k = s.lamp k) ∧ (∀ k, (State.modJtag s a1).slot k = s.slot k) ∧
    (∀ k, (State.modJtag s a1).crownUnit k = s.crownUnit k) ∧ (∀ k, (State.modJtag s a1).loop k = s.loop k) ∧
    (∀ k, (State.modJtag s a1).trace k = s.trace k) ∧ (∀ k, (State.modJtag s a1).lidar k = s.lidar k) ∧
    (∀ k, (State.modJtag s a1).ring k = s.ring k) ∧ (∀ k, (State.modJtag s a1).fan k = s.fan k) ∧
    (∀ k, (State.modJtag s a1).out k = s.out k) ∧ (∀ k, (State.modJtag s a1).group k = s.group k) ∧
    (∀ k, (State.modJtag s a1).hb k = s.hb k) ∧ (∀ k, (State.modJtag s a1).svc k = s.svc k) ∧
    (∀ k, (State.modJtag s a1).valve' k = s.valve' k) ∧ (∀ k, (State.modJtag s a1).bank k = s.bank k) ∧
    (∀ k, (State.modJtag s a1).boost k = s.boost k) ∧ (∀ k, (State.modJtag s a1).ant k = s.ant k) ∧
    (∀ k, (State.modJtag s a1).partition k = s.partition k) ∧ (∀ k, (State.modJtag s a1).lin k = s.lin k) ∧
    (∀ k, (State.modJtag s a1).hostFn k = s.hostFn k) ∧ (∀ k, (State.modJtag s a1).parkSlot k = s.parkSlot k) ∧
    (∀ k, (State.modJtag s a1).stud k = s.stud k) ∧ (∀ k, (State.modJtag s a1).sensor k = s.sensor k) ∧
    (∀ k, (State.modJtag s a1).link k = s.link k) ∧ (∀ k, (State.modJtag s a1).sw k = s.sw k) ∧
    (State.modJtag s a1).hw = s.hw ∧ (State.modJtag s a1).variant = s.variant ∧ (State.modJtag s a1).trunkOn = s.trunkOn ∧
    (State.modJtag s a1).inRun = s.inRun ∧ (State.modJtag s a1).operating = s.operating ∧
    (State.modJtag s a1).parked = s.parked ∧ (∀ k, (State.modJtag s a1).decl k = s.decl k) ∧
    (∀ k, (State.modJtag s a1).sig k = s.sig k) := by and_intros <;> intros <;> rfl
/-- What `State.post` leaves as it is. -/
@[simp] theorem State.post_leaves (s) (a1) (a2) (a3) (a4) (a5) (a6) (a7) (a8) :
    (State.post s a1 a2 a3 a4 a5 a6 a7 a8).part = s.part ∧ (State.post s a1 a2 a3 a4 a5 a6 a7 a8).time = s.time ∧
    (State.post s a1 a2 a3 a4 a5 a6 a7 a8).faults = s.faults ∧ (State.post s a1 a2 a3 a4 a5 a6 a7 a8).signals = s.signals ∧
    (State.post s a1 a2 a3 a4 a5 a6 a7 a8).sensing = s.sensing ∧ (State.post s a1 a2 a3 a4 a5 a6 a7 a8).ctrl = s.ctrl ∧
    (State.post s a1 a2 a3 a4 a5 a6 a7 a8).valve = s.valve ∧ (State.post s a1 a2 a3 a4 a5 a6 a7 a8).gnss = s.gnss ∧
    (State.post s a1 a2 a3 a4 a5 a6 a7 a8).imu = s.imu ∧ (State.post s a1 a2 a3 a4 a5 a6 a7 a8).cam = s.cam ∧
    (State.post s a1 a2 a3 a4 a5 a6 a7 a8).crown = s.crown ∧ (State.post s a1 a2 a3 a4 a5 a6 a7 a8).granary = s.granary ∧
    (State.post s a1 a2 a3 a4 a5 a6 a7 a8).outs = s.outs ∧ (State.post s a1 a2 a3 a4 a5 a6 a7 a8).swin = s.swin ∧
    (State.post s a1 a2 a3 a4 a5 a6 a7 a8).body = s.body ∧ (State.post s a1 a2 a3 a4 a5 a6 a7 a8).fans = s.fans ∧
    (State.post s a1 a2 a3 a4 a5 a6 a7 a8).plate = s.plate ∧ (State.post s a1 a2 a3 a4 a5 a6 a7 a8).can = s.can ∧
    (State.post s a1 a2 a3 a4 a5 a6 a7 a8).eth = s.eth ∧ (State.post s a1 a2 a3 a4 a5 a6 a7 a8).nm = s.nm ∧
    (State.post s a1 a2 a3 a4 a5 a6 a7 a8).root = s.root ∧ (State.post s a1 a2 a3 a4 a5 a6 a7 a8).graft = s.graft ∧
    (State.post s a1 a2 a3 a4 a5 a6 a7 a8).attic = s.attic ∧ (State.post s a1 a2 a3 a4 a5 a6 a7 a8).larder = s.larder ∧
    (State.post s a1 a2 a3 a4 a5 a6 a7 a8).power = s.power ∧ (State.post s a1 a2 a3 a4 a5 a6 a7 a8).thermal = s.thermal ∧
    (State.post s a1 a2 a3 a4 a5 a6 a7 a8).jtag = s.jtag ∧ (State.post s a1 a2 a3 a4 a5 a6 a7 a8).kept = s.kept ∧
    (State.post s a1 a2 a3 a4 a5 a6 a7 a8).keptDirty = s.keptDirty ∧
    (State.post s a1 a2 a3 a4 a5 a6 a7 a8).keptAt = s.keptAt ∧ (State.post s a1 a2 a3 a4 a5 a6 a7 a8).free = s.free ∧
    (State.post s a1 a2 a3 a4 a5 a6 a7 a8).pending = s.pending ∧
    (∀ k, (State.post s a1 a2 a3 a4 a5 a6 a7 a8).lossCh k = s.lossCh k) ∧
    (∀ k, (State.post s a1 a2 a3 a4 a5 a6 a7 a8).bridgeCh k = s.bridgeCh k) ∧
    (∀ k, (State.post s a1 a2 a3 a4 a5 a6 a7 a8).ainCh k = s.ainCh k) ∧
    (∀ k, (State.post s a1 a2 a3 a4 a5 a6 a7 a8).freqCh k = s.freqCh k) ∧
    (∀ k, (State.post s a1 a2 a3 a4 a5 a6 a7 a8).supCh k = s.supCh k) ∧
    (∀ k, (State.post s a1 a2 a3 a4 a5 a6 a7 a8).canCh k = s.canCh k) ∧
    (∀ k, (State.post s a1 a2 a3 a4 a5 a6 a7 a8).ethPort k = s.ethPort k) ∧
    (∀ k, (State.post s a1 a2 a3 a4 a5 a6 a7 a8).net k = s.net k) ∧
    (∀ k, (State.post s a1 a2 a3 a4 a5 a6 a7 a8).port k = s.port k) ∧
    (∀ k, (State.post s a1 a2 a3 a4 a5 a6 a7 a8).lamp k = s.lamp k) ∧
    (∀ k, (State.post s a1 a2 a3 a4 a5 a6 a7 a8).slot k = s.slot k) ∧
    (∀ k, (State.post s a1 a2 a3 a4 a5 a6 a7 a8).crownUnit k = s.crownUnit k) ∧
    (∀ k, (State.post s a1 a2 a3 a4 a5 a6 a7 a8).loop k = s.loop k) ∧
    (∀ k, (State.post s a1 a2 a3 a4 a5 a6 a7 a8).trace k = s.trace k) ∧
    (∀ k, (State.post s a1 a2 a3 a4 a5 a6 a7 a8).lidar k = s.lidar k) ∧
    (∀ k, (State.post s a1 a2 a3 a4 a5 a6 a7 a8).ring k = s.ring k) ∧
    (∀ k, (State.post s a1 a2 a3 a4 a5 a6 a7 a8).fan k = s.fan k) ∧
    (∀ k, (State.post s a1 a2 a3 a4 a5 a6 a7 a8).out k = s.out k) ∧
    (∀ k, (State.post s a1 a2 a3 a4 a5 a6 a7 a8).group k = s.group k) ∧
    (∀ k, (State.post s a1 a2 a3 a4 a5 a6 a7 a8).hb k = s.hb k) ∧
    (∀ k, (State.post s a1 a2 a3 a4 a5 a6 a7 a8).svc k = s.svc k) ∧
    (∀ k, (State.post s a1 a2 a3 a4 a5 a6 a7 a8).valve' k = s.valve' k) ∧
    (∀ k, (State.post s a1 a2 a3 a4 a5 a6 a7 a8).bank k = s.bank k) ∧
    (∀ k, (State.post s a1 a2 a3 a4 a5 a6 a7 a8).boost k = s.boost k) ∧
    (∀ k, (State.post s a1 a2 a3 a4 a5 a6 a7 a8).ant k = s.ant k) ∧
    (∀ k, (State.post s a1 a2 a3 a4 a5 a6 a7 a8).lin k = s.lin k) ∧
    (∀ k, (State.post s a1 a2 a3 a4 a5 a6 a7 a8).parkSlot k = s.parkSlot k) ∧
    (∀ k, (State.post s a1 a2 a3 a4 a5 a6 a7 a8).stud k = s.stud k) ∧
    (∀ k, (State.post s a1 a2 a3 a4 a5 a6 a7 a8).sensor k = s.sensor k) ∧
    (∀ k, (State.post s a1 a2 a3 a4 a5 a6 a7 a8).link k = s.link k) ∧
    (∀ k, (State.post s a1 a2 a3 a4 a5 a6 a7 a8).sw k = s.sw k) ∧ (State.post s a1 a2 a3 a4 a5 a6 a7 a8).hw = s.hw ∧
    (State.post s a1 a2 a3 a4 a5 a6 a7 a8).variant = s.variant ∧ (State.post s a1 a2 a3 a4 a5 a6 a7 a8).trunkOn = s.trunkOn ∧
    (State.post s a1 a2 a3 a4 a5 a6 a7 a8).inRun = s.inRun ∧ (State.post s a1 a2 a3 a4 a5 a6 a7 a8).operating = s.operating ∧
    (State.post s a1 a2 a3 a4 a5 a6 a7 a8).parked = s.parked ∧
    (∀ k, (State.post s a1 a2 a3 a4 a5 a6 a7 a8).sig k = s.sig k) :=
  ⟨part_of_without (m := 2) (State.post_frame _ _ _ _ _ _ _ _ _ rfl) rfl,
    time_of_without (m := 2) (State.post_frame _ _ _ _ _ _ _ _ _ rfl) rfl,
    faults_of_without (m := 2) (State.post_frame _ _ _ _ _ _ _ _ _ rfl) rfl,
    signals_of_without (m := 2) (State.post_frame _ _ _ _ _ _ _ _ _ rfl) rfl,
    sensing_of_without (m := 2) (State.post_frame _ _ _ _ _ _ _ _ _ rfl) rfl,
    ctrl_of_without (m := 2) (State.post_frame _ _ _ _ _ _ _ _ _ rfl) rfl,
    valve_of_without (m := 2) (State.post_frame _ _ _ _ _ _ _ _ _ rfl) rfl,
    gnss_of_without (m := 2) (State.post_frame _ _ _ _ _ _ _ _ _ rfl) rfl,
    imu_of_without (m := 2) (State.post_frame _ _ _ _ _ _ _ _ _ rfl) rfl,
    cam_of_without (m := 2) (State.post_frame _ _ _ _ _ _ _ _ _ rfl) rfl,
    crown_of_without (m := 2) (State.post_frame _ _ _ _ _ _ _ _ _ rfl) rfl,
    granary_of_without (m := 2) (State.post_frame _ _ _ _ _ _ _ _ _ rfl) rfl,
    outs_of_without (m := 2) (State.post_frame _ _ _ _ _ _ _ _ _ rfl) rfl,
    swin_of_without (m := 2) (State.post_frame _ _ _ _ _ _ _ _ _ rfl) rfl,
    body_of_without (m := 2) (State.post_frame _ _ _ _ _ _ _ _ _ rfl) rfl,
    fans_of_without (m := 2) (State.post_frame _ _ _ _ _ _ _ _ _ rfl) rfl,
    plate_of_without (m := 2) (State.post_frame _ _ _ _ _ _ _ _ _ rfl) rfl,
    can_of_without (m := 2) (State.post_frame _ _ _ _ _ _ _ _ _ rfl) rfl,
    eth_of_without (m := 2) (State.post_frame _ _ _ _ _ _ _ _ _ rfl) rfl,
    nm_of_without (m := 2) (State.post_frame _ _ _ _ _ _ _ _ _ rfl) rfl,
    root_of_without (m := 2) (State.post_frame _ _ _ _ _ _ _ _ _ rfl) rfl,
    graft_of_without (m := 2) (State.post_frame _ _ _ _ _ _ _ _ _ rfl) rfl,
    attic_of_without (m := 2) (State.post_frame _ _ _ _ _ _ _ _ _ rfl) rfl,
    larder_of_without (m := 2) (State.post_frame _ _ _ _ _ _ _ _ _ rfl) rfl,
    power_of_without (m := 2) (State.post_frame _ _ _ _ _ _ _ _ _ rfl) rfl,
    thermal_of_without (m := 2) (State.post_frame _ _ _ _ _ _ _ _ _ rfl) rfl,
    jtag_of_without (m := 2) (State.post_frame _ _ _ _ _ _ _ _ _ rfl) rfl,
    kept_of_without (m := 2) (State.post_frame _ _ _ _ _ _ _ _ _ rfl) rfl,
    keptDirty_of_without (m := 2) (State.post_frame _ _ _ _ _ _ _ _ _ rfl) rfl,
    keptAt_of_without (m := 2) (State.post_frame _ _ _ _ _ _ _ _ _ rfl) rfl,
    free_of_without (m := 2) (State.post_frame _ _ _ _ _ _ _ _ _ rfl) rfl,
    pending_of_without (m := 2) (State.post_frame _ _ _ _ _ _ _ _ _ rfl) rfl,
    (fun k => by unfold State.lossCh; rw [sensing_of_without (m := 2) (State.post_frame _ _ _ _ _ _ _ _ _ rfl) rfl]),
    (fun k => by unfold State.bridgeCh; rw [sensing_of_without (m := 2) (State.post_frame _ _ _ _ _ _ _ _ _ rfl) rfl]),
    (fun k => by unfold State.ainCh; rw [sensing_of_without (m := 2) (State.post_frame _ _ _ _ _ _ _ _ _ rfl) rfl]),
    (fun k => by unfold State.freqCh; rw [sensing_of_without (m := 2) (State.post_frame _ _ _ _ _ _ _ _ _ rfl) rfl]),
    (fun k => by unfold State.supCh; rw [sensing_of_without (m := 2) (State.post_frame _ _ _ _ _ _ _ _ _ rfl) rfl]),
    (fun k => by unfold State.canCh; rw [can_of_without (m := 2) (State.post_frame _ _ _ _ _ _ _ _ _ rfl) rfl]),
    (fun k => by unfold State.ethPort; rw [eth_of_without (m := 2) (State.post_frame _ _ _ _ _ _ _ _ _ rfl) rfl]),
    (fun k => by unfold State.net; rw [nm_of_without (m := 2) (State.post_frame _ _ _ _ _ _ _ _ _ rfl) rfl]),
    (fun k => by unfold State.port; rw [cam_of_without (m := 2) (State.post_frame _ _ _ _ _ _ _ _ _ rfl) rfl]),
    (fun k => by unfold State.lamp; rw [cam_of_without (m := 2) (State.post_frame _ _ _ _ _ _ _ _ _ rfl) rfl]),
    (fun k => by unfold State.slot; rw [crown_of_without (m := 2) (State.post_frame _ _ _ _ _ _ _ _ _ rfl) rfl]),
    (fun k => by unfold State.crownUnit; rw [crown_of_without (m := 2) (State.post_frame _ _ _ _ _ _ _ _ _ rfl) rfl]),
    (fun k => by unfold State.loop; rw [ctrl_of_without (m := 2) (State.post_frame _ _ _ _ _ _ _ _ _ rfl) rfl]),
    (fun k => by unfold State.trace; rw [ctrl_of_without (m := 2) (State.post_frame _ _ _ _ _ _ _ _ _ rfl) rfl]),
    (fun k => by unfold State.lidar; rw [eth_of_without (m := 2) (State.post_frame _ _ _ _ _ _ _ _ _ rfl) rfl]),
    (fun k => by unfold State.ring; rw [eth_of_without (m := 2) (State.post_frame _ _ _ _ _ _ _ _ _ rfl) rfl]),
    (fun k => by unfold State.fan; rw [fans_of_without (m := 2) (State.post_frame _ _ _ _ _ _ _ _ _ rfl) rfl]),
    (fun k => by unfold State.out; rw [outs_of_without (m := 2) (State.post_frame _ _ _ _ _ _ _ _ _ rfl) rfl]),
    (fun k => by unfold State.group; rw [outs_of_without (m := 2) (State.post_frame _ _ _ _ _ _ _ _ _ rfl) rfl]),
    (fun k => by unfold State.hb; rw [outs_of_without (m := 2) (State.post_frame _ _ _ _ _ _ _ _ _ rfl) rfl]),
    (fun k => by unfold State.svc; rw [body_of_without (m := 2) (State.post_frame _ _ _ _ _ _ _ _ _ rfl) rfl]),
    (fun k => by unfold State.valve'; rw [valve_of_without (m := 2) (State.post_frame _ _ _ _ _ _ _ _ _ rfl) rfl]),
    (fun k => by unfold State.bank; rw [valve_of_without (m := 2) (State.post_frame _ _ _ _ _ _ _ _ _ rfl) rfl]),
    (fun k => by unfold State.boost; rw [valve_of_without (m := 2) (State.post_frame _ _ _ _ _ _ _ _ _ rfl) rfl]),
    (fun k => by unfold State.ant; rw [gnss_of_without (m := 2) (State.post_frame _ _ _ _ _ _ _ _ _ rfl) rfl]),
    (fun k => by unfold State.lin; rw [body_of_without (m := 2) (State.post_frame _ _ _ _ _ _ _ _ _ rfl) rfl]),
    (fun k => by unfold State.parkSlot; rw [outs_of_without (m := 2) (State.post_frame _ _ _ _ _ _ _ _ _ rfl) rfl]),
    (fun k => by unfold State.stud; rw [power_of_without (m := 2) (State.post_frame _ _ _ _ _ _ _ _ _ rfl) rfl]),
    (fun k => by unfold State.sensor; rw [thermal_of_without (m := 2) (State.post_frame _ _ _ _ _ _ _ _ _ rfl) rfl]),
    (fun k => by unfold State.link; rw [root_of_without (m := 2) (State.post_frame _ _ _ _ _ _ _ _ _ rfl) rfl]),
    (fun k => by unfold State.sw; rw [swin_of_without (m := 2) (State.post_frame _ _ _ _ _ _ _ _ _ rfl) rfl]),
    (by unfold State.hw; rw [time_of_without (m := 2) (State.post_frame _ _ _ _ _ _ _ _ _ rfl) rfl]),
    (by unfold State.variant; rw [part_of_without (m := 2) (State.post_frame _ _ _ _ _ _ _ _ _ rfl) rfl]),
    (by unfold State.trunkOn; rw [power_of_without (m := 2) (State.post_frame _ _ _ _ _ _ _ _ _ rfl) rfl]),
    (by unfold State.inRun; rw [power_of_without (m := 2) (State.post_frame _ _ _ _ _ _ _ _ _ rfl) rfl]),
    (by unfold State.operating; rw [power_of_without (m := 2) (State.post_frame _ _ _ _ _ _ _ _ _ rfl) rfl]),
    (by unfold State.parked; rw [power_of_without (m := 2) (State.post_frame _ _ _ _ _ _ _ _ _ rfl) rfl]),
    (fun k => by unfold State.sig; rw [signals_of_without (m := 2) (State.post_frame _ _ _ _ _ _ _ _ _ rfl) rfl])⟩
/-- What `State.postAt` leaves as it is. -/
@[simp] theorem State.postAt_leaves (s) (a1) (a2) (a3) (a4) (a5) (a6) (a7) (a8) (a9) :
    (State.postAt s a1 a2 a3 a4 a5 a6 a7 a8 a9).part = s.part ∧ (State.postAt s a1 a2 a3 a4 a5 a6 a7 a8 a9).time = s.time ∧
    (State.postAt s a1 a2 a3 a4 a5 a6 a7 a8 a9).faults = s.faults ∧
    (State.postAt s a1 a2 a3 a4 a5 a6 a7 a8 a9).signals = s.signals ∧
    (State.postAt s a1 a2 a3 a4 a5 a6 a7 a8 a9).sensing = s.sensing ∧
    (State.postAt s a1 a2 a3 a4 a5 a6 a7 a8 a9).ctrl = s.ctrl ∧ (State.postAt s a1 a2 a3 a4 a5 a6 a7 a8 a9).valve = s.valve ∧
    (State.postAt s a1 a2 a3 a4 a5 a6 a7 a8 a9).gnss = s.gnss ∧ (State.postAt s a1 a2 a3 a4 a5 a6 a7 a8 a9).imu = s.imu ∧
    (State.postAt s a1 a2 a3 a4 a5 a6 a7 a8 a9).cam = s.cam ∧ (State.postAt s a1 a2 a3 a4 a5 a6 a7 a8 a9).crown = s.crown ∧
    (State.postAt s a1 a2 a3 a4 a5 a6 a7 a8 a9).granary = s.granary ∧
    (State.postAt s a1 a2 a3 a4 a5 a6 a7 a8 a9).outs = s.outs ∧ (State.postAt s a1 a2 a3 a4 a5 a6 a7 a8 a9).swin = s.swin ∧
    (State.postAt s a1 a2 a3 a4 a5 a6 a7 a8 a9).body = s.body ∧ (State.postAt s a1 a2 a3 a4 a5 a6 a7 a8 a9).fans = s.fans ∧
    (State.postAt s a1 a2 a3 a4 a5 a6 a7 a8 a9).plate = s.plate ∧ (State.postAt s a1 a2 a3 a4 a5 a6 a7 a8 a9).can = s.can ∧
    (State.postAt s a1 a2 a3 a4 a5 a6 a7 a8 a9).eth = s.eth ∧ (State.postAt s a1 a2 a3 a4 a5 a6 a7 a8 a9).nm = s.nm ∧
    (State.postAt s a1 a2 a3 a4 a5 a6 a7 a8 a9).root = s.root ∧ (State.postAt s a1 a2 a3 a4 a5 a6 a7 a8 a9).graft = s.graft ∧
    (State.postAt s a1 a2 a3 a4 a5 a6 a7 a8 a9).attic = s.attic ∧
    (State.postAt s a1 a2 a3 a4 a5 a6 a7 a8 a9).larder = s.larder ∧
    (State.postAt s a1 a2 a3 a4 a5 a6 a7 a8 a9).power = s.power ∧
    (State.postAt s a1 a2 a3 a4 a5 a6 a7 a8 a9).thermal = s.thermal ∧
    (State.postAt s a1 a2 a3 a4 a5 a6 a7 a8 a9).jtag = s.jtag ∧ (State.postAt s a1 a2 a3 a4 a5 a6 a7 a8 a9).kept = s.kept ∧
    (State.postAt s a1 a2 a3 a4 a5 a6 a7 a8 a9).keptDirty = s.keptDirty ∧
    (State.postAt s a1 a2 a3 a4 a5 a6 a7 a8 a9).keptAt = s.keptAt ∧
    (State.postAt s a1 a2 a3 a4 a5 a6 a7 a8 a9).free = s.free ∧
    (State.postAt s a1 a2 a3 a4 a5 a6 a7 a8 a9).pending = s.pending ∧
    (∀ k, (State.postAt s a1 a2 a3 a4 a5 a6 a7 a8 a9).lossCh k = s.lossCh k) ∧
    (∀ k, (State.postAt s a1 a2 a3 a4 a5 a6 a7 a8 a9).bridgeCh k = s.bridgeCh k) ∧
    (∀ k, (State.postAt s a1 a2 a3 a4 a5 a6 a7 a8 a9).ainCh k = s.ainCh k) ∧
    (∀ k, (State.postAt s a1 a2 a3 a4 a5 a6 a7 a8 a9).freqCh k = s.freqCh k) ∧
    (∀ k, (State.postAt s a1 a2 a3 a4 a5 a6 a7 a8 a9).supCh k = s.supCh k) ∧
    (∀ k, (State.postAt s a1 a2 a3 a4 a5 a6 a7 a8 a9).canCh k = s.canCh k) ∧
    (∀ k, (State.postAt s a1 a2 a3 a4 a5 a6 a7 a8 a9).ethPort k = s.ethPort k) ∧
    (∀ k, (State.postAt s a1 a2 a3 a4 a5 a6 a7 a8 a9).net k = s.net k) ∧
    (∀ k, (State.postAt s a1 a2 a3 a4 a5 a6 a7 a8 a9).port k = s.port k) ∧
    (∀ k, (State.postAt s a1 a2 a3 a4 a5 a6 a7 a8 a9).lamp k = s.lamp k) ∧
    (∀ k, (State.postAt s a1 a2 a3 a4 a5 a6 a7 a8 a9).slot k = s.slot k) ∧
    (∀ k, (State.postAt s a1 a2 a3 a4 a5 a6 a7 a8 a9).crownUnit k = s.crownUnit k) ∧
    (∀ k, (State.postAt s a1 a2 a3 a4 a5 a6 a7 a8 a9).loop k = s.loop k) ∧
    (∀ k, (State.postAt s a1 a2 a3 a4 a5 a6 a7 a8 a9).trace k = s.trace k) ∧
    (∀ k, (State.postAt s a1 a2 a3 a4 a5 a6 a7 a8 a9).lidar k = s.lidar k) ∧
    (∀ k, (State.postAt s a1 a2 a3 a4 a5 a6 a7 a8 a9).ring k = s.ring k) ∧
    (∀ k, (State.postAt s a1 a2 a3 a4 a5 a6 a7 a8 a9).fan k = s.fan k) ∧
    (∀ k, (State.postAt s a1 a2 a3 a4 a5 a6 a7 a8 a9).out k = s.out k) ∧
    (∀ k, (State.postAt s a1 a2 a3 a4 a5 a6 a7 a8 a9).group k = s.group k) ∧
    (∀ k, (State.postAt s a1 a2 a3 a4 a5 a6 a7 a8 a9).hb k = s.hb k) ∧
    (∀ k, (State.postAt s a1 a2 a3 a4 a5 a6 a7 a8 a9).svc k = s.svc k) ∧
    (∀ k, (State.postAt s a1 a2 a3 a4 a5 a6 a7 a8 a9).valve' k = s.valve' k) ∧
    (∀ k, (State.postAt s a1 a2 a3 a4 a5 a6 a7 a8 a9).bank k = s.bank k) ∧
    (∀ k, (State.postAt s a1 a2 a3 a4 a5 a6 a7 a8 a9).boost k = s.boost k) ∧
    (∀ k, (State.postAt s a1 a2 a3 a4 a5 a6 a7 a8 a9).ant k = s.ant k) ∧
    (∀ k, (State.postAt s a1 a2 a3 a4 a5 a6 a7 a8 a9).lin k = s.lin k) ∧
    (∀ k, (State.postAt s a1 a2 a3 a4 a5 a6 a7 a8 a9).parkSlot k = s.parkSlot k) ∧
    (∀ k, (State.postAt s a1 a2 a3 a4 a5 a6 a7 a8 a9).stud k = s.stud k) ∧
    (∀ k, (State.postAt s a1 a2 a3 a4 a5 a6 a7 a8 a9).sensor k = s.sensor k) ∧
    (∀ k, (State.postAt s a1 a2 a3 a4 a5 a6 a7 a8 a9).link k = s.link k) ∧
    (∀ k, (State.postAt s a1 a2 a3 a4 a5 a6 a7 a8 a9).sw k = s.sw k) ∧
    (State.postAt s a1 a2 a3 a4 a5 a6 a7 a8 a9).hw = s.hw ∧ (State.postAt s a1 a2 a3 a4 a5 a6 a7 a8 a9).variant = s.variant ∧
    (State.postAt s a1 a2 a3 a4 a5 a6 a7 a8 a9).trunkOn = s.trunkOn ∧
    (State.postAt s a1 a2 a3 a4 a5 a6 a7 a8 a9).inRun = s.inRun ∧
    (State.postAt s a1 a2 a3 a4 a5 a6 a7 a8 a9).operating = s.operating ∧
    (State.postAt s a1 a2 a3 a4 a5 a6 a7 a8 a9).parked = s.parked ∧
    (∀ k, (State.postAt s a1 a2 a3 a4 a5 a6 a7 a8 a9).sig k = s.sig k) :=
  ⟨part_of_without (m := 2) (State.postAt_frame _ _ _ _ _ _ _ _ _ _ rfl) rfl,
    time_of_without (m := 2) (State.postAt_frame _ _ _ _ _ _ _ _ _ _ rfl) rfl,
    faults_of_without (m := 2) (State.postAt_frame _ _ _ _ _ _ _ _ _ _ rfl) rfl,
    signals_of_without (m := 2) (State.postAt_frame _ _ _ _ _ _ _ _ _ _ rfl) rfl,
    sensing_of_without (m := 2) (State.postAt_frame _ _ _ _ _ _ _ _ _ _ rfl) rfl,
    ctrl_of_without (m := 2) (State.postAt_frame _ _ _ _ _ _ _ _ _ _ rfl) rfl,
    valve_of_without (m := 2) (State.postAt_frame _ _ _ _ _ _ _ _ _ _ rfl) rfl,
    gnss_of_without (m := 2) (State.postAt_frame _ _ _ _ _ _ _ _ _ _ rfl) rfl,
    imu_of_without (m := 2) (State.postAt_frame _ _ _ _ _ _ _ _ _ _ rfl) rfl,
    cam_of_without (m := 2) (State.postAt_frame _ _ _ _ _ _ _ _ _ _ rfl) rfl,
    crown_of_without (m := 2) (State.postAt_frame _ _ _ _ _ _ _ _ _ _ rfl) rfl,
    granary_of_without (m := 2) (State.postAt_frame _ _ _ _ _ _ _ _ _ _ rfl) rfl,
    outs_of_without (m := 2) (State.postAt_frame _ _ _ _ _ _ _ _ _ _ rfl) rfl,
    swin_of_without (m := 2) (State.postAt_frame _ _ _ _ _ _ _ _ _ _ rfl) rfl,
    body_of_without (m := 2) (State.postAt_frame _ _ _ _ _ _ _ _ _ _ rfl) rfl,
    fans_of_without (m := 2) (State.postAt_frame _ _ _ _ _ _ _ _ _ _ rfl) rfl,
    plate_of_without (m := 2) (State.postAt_frame _ _ _ _ _ _ _ _ _ _ rfl) rfl,
    can_of_without (m := 2) (State.postAt_frame _ _ _ _ _ _ _ _ _ _ rfl) rfl,
    eth_of_without (m := 2) (State.postAt_frame _ _ _ _ _ _ _ _ _ _ rfl) rfl,
    nm_of_without (m := 2) (State.postAt_frame _ _ _ _ _ _ _ _ _ _ rfl) rfl,
    root_of_without (m := 2) (State.postAt_frame _ _ _ _ _ _ _ _ _ _ rfl) rfl,
    graft_of_without (m := 2) (State.postAt_frame _ _ _ _ _ _ _ _ _ _ rfl) rfl,
    attic_of_without (m := 2) (State.postAt_frame _ _ _ _ _ _ _ _ _ _ rfl) rfl,
    larder_of_without (m := 2) (State.postAt_frame _ _ _ _ _ _ _ _ _ _ rfl) rfl,
    power_of_without (m := 2) (State.postAt_frame _ _ _ _ _ _ _ _ _ _ rfl) rfl,
    thermal_of_without (m := 2) (State.postAt_frame _ _ _ _ _ _ _ _ _ _ rfl) rfl,
    jtag_of_without (m := 2) (State.postAt_frame _ _ _ _ _ _ _ _ _ _ rfl) rfl,
    kept_of_without (m := 2) (State.postAt_frame _ _ _ _ _ _ _ _ _ _ rfl) rfl,
    keptDirty_of_without (m := 2) (State.postAt_frame _ _ _ _ _ _ _ _ _ _ rfl) rfl,
    keptAt_of_without (m := 2) (State.postAt_frame _ _ _ _ _ _ _ _ _ _ rfl) rfl,
    free_of_without (m := 2) (State.postAt_frame _ _ _ _ _ _ _ _ _ _ rfl) rfl,
    pending_of_without (m := 2) (State.postAt_frame _ _ _ _ _ _ _ _ _ _ rfl) rfl,
    (fun k => by unfold State.lossCh; rw [sensing_of_without (m := 2) (State.postAt_frame _ _ _ _ _ _ _ _ _ _ rfl) rfl]),
    (fun k => by unfold State.bridgeCh; rw [sensing_of_without (m := 2) (State.postAt_frame _ _ _ _ _ _ _ _ _ _ rfl) rfl]),
    (fun k => by unfold State.ainCh; rw [sensing_of_without (m := 2) (State.postAt_frame _ _ _ _ _ _ _ _ _ _ rfl) rfl]),
    (fun k => by unfold State.freqCh; rw [sensing_of_without (m := 2) (State.postAt_frame _ _ _ _ _ _ _ _ _ _ rfl) rfl]),
    (fun k => by unfold State.supCh; rw [sensing_of_without (m := 2) (State.postAt_frame _ _ _ _ _ _ _ _ _ _ rfl) rfl]),
    (fun k => by unfold State.canCh; rw [can_of_without (m := 2) (State.postAt_frame _ _ _ _ _ _ _ _ _ _ rfl) rfl]),
    (fun k => by unfold State.ethPort; rw [eth_of_without (m := 2) (State.postAt_frame _ _ _ _ _ _ _ _ _ _ rfl) rfl]),
    (fun k => by unfold State.net; rw [nm_of_without (m := 2) (State.postAt_frame _ _ _ _ _ _ _ _ _ _ rfl) rfl]),
    (fun k => by unfold State.port; rw [cam_of_without (m := 2) (State.postAt_frame _ _ _ _ _ _ _ _ _ _ rfl) rfl]),
    (fun k => by unfold State.lamp; rw [cam_of_without (m := 2) (State.postAt_frame _ _ _ _ _ _ _ _ _ _ rfl) rfl]),
    (fun k => by unfold State.slot; rw [crown_of_without (m := 2) (State.postAt_frame _ _ _ _ _ _ _ _ _ _ rfl) rfl]),
    (fun k => by unfold State.crownUnit; rw [crown_of_without (m := 2) (State.postAt_frame _ _ _ _ _ _ _ _ _ _ rfl) rfl]),
    (fun k => by unfold State.loop; rw [ctrl_of_without (m := 2) (State.postAt_frame _ _ _ _ _ _ _ _ _ _ rfl) rfl]),
    (fun k => by unfold State.trace; rw [ctrl_of_without (m := 2) (State.postAt_frame _ _ _ _ _ _ _ _ _ _ rfl) rfl]),
    (fun k => by unfold State.lidar; rw [eth_of_without (m := 2) (State.postAt_frame _ _ _ _ _ _ _ _ _ _ rfl) rfl]),
    (fun k => by unfold State.ring; rw [eth_of_without (m := 2) (State.postAt_frame _ _ _ _ _ _ _ _ _ _ rfl) rfl]),
    (fun k => by unfold State.fan; rw [fans_of_without (m := 2) (State.postAt_frame _ _ _ _ _ _ _ _ _ _ rfl) rfl]),
    (fun k => by unfold State.out; rw [outs_of_without (m := 2) (State.postAt_frame _ _ _ _ _ _ _ _ _ _ rfl) rfl]),
    (fun k => by unfold State.group; rw [outs_of_without (m := 2) (State.postAt_frame _ _ _ _ _ _ _ _ _ _ rfl) rfl]),
    (fun k => by unfold State.hb; rw [outs_of_without (m := 2) (State.postAt_frame _ _ _ _ _ _ _ _ _ _ rfl) rfl]),
    (fun k => by unfold State.svc; rw [body_of_without (m := 2) (State.postAt_frame _ _ _ _ _ _ _ _ _ _ rfl) rfl]),
    (fun k => by unfold State.valve'; rw [valve_of_without (m := 2) (State.postAt_frame _ _ _ _ _ _ _ _ _ _ rfl) rfl]),
    (fun k => by unfold State.bank; rw [valve_of_without (m := 2) (State.postAt_frame _ _ _ _ _ _ _ _ _ _ rfl) rfl]),
    (fun k => by unfold State.boost; rw [valve_of_without (m := 2) (State.postAt_frame _ _ _ _ _ _ _ _ _ _ rfl) rfl]),
    (fun k => by unfold State.ant; rw [gnss_of_without (m := 2) (State.postAt_frame _ _ _ _ _ _ _ _ _ _ rfl) rfl]),
    (fun k => by unfold State.lin; rw [body_of_without (m := 2) (State.postAt_frame _ _ _ _ _ _ _ _ _ _ rfl) rfl]),
    (fun k => by unfold State.parkSlot; rw [outs_of_without (m := 2) (State.postAt_frame _ _ _ _ _ _ _ _ _ _ rfl) rfl]),
    (fun k => by unfold State.stud; rw [power_of_without (m := 2) (State.postAt_frame _ _ _ _ _ _ _ _ _ _ rfl) rfl]),
    (fun k => by unfold State.sensor; rw [thermal_of_without (m := 2) (State.postAt_frame _ _ _ _ _ _ _ _ _ _ rfl) rfl]),
    (fun k => by unfold State.link; rw [root_of_without (m := 2) (State.postAt_frame _ _ _ _ _ _ _ _ _ _ rfl) rfl]),
    (fun k => by unfold State.sw; rw [swin_of_without (m := 2) (State.postAt_frame _ _ _ _ _ _ _ _ _ _ rfl) rfl]),
    (by unfold State.hw; rw [time_of_without (m := 2) (State.postAt_frame _ _ _ _ _ _ _ _ _ _ rfl) rfl]),
    (by unfold State.variant; rw [part_of_without (m := 2) (State.postAt_frame _ _ _ _ _ _ _ _ _ _ rfl) rfl]),
    (by unfold State.trunkOn; rw [power_of_without (m := 2) (State.postAt_frame _ _ _ _ _ _ _ _ _ _ rfl) rfl]),
    (by unfold State.inRun; rw [power_of_without (m := 2) (State.postAt_frame _ _ _ _ _ _ _ _ _ _ rfl) rfl]),
    (by unfold State.operating; rw [power_of_without (m := 2) (State.postAt_frame _ _ _ _ _ _ _ _ _ _ rfl) rfl]),
    (by unfold State.parked; rw [power_of_without (m := 2) (State.postAt_frame _ _ _ _ _ _ _ _ _ _ rfl) rfl]),
    (fun k => by unfold State.sig; rw [signals_of_without (m := 2) (State.postAt_frame _ _ _ _ _ _ _ _ _ _ rfl) rfl])⟩
/-- What `State.deliver` leaves as it is. -/
@[simp] theorem State.deliver_leaves (s) (a1) (a2) (a3) (a4) :
    (State.deliver s a1 a2 a3 a4).part = s.part ∧ (State.deliver s a1 a2 a3 a4).time = s.time ∧
    (State.deliver s a1 a2 a3 a4).faults = s.faults ∧ (State.deliver s a1 a2 a3 a4).signals = s.signals ∧
    (State.deliver s a1 a2 a3 a4).sensing = s.sensing ∧ (State.deliver s a1 a2 a3 a4).ctrl = s.ctrl ∧
    (State.deliver s a1 a2 a3 a4).valve = s.valve ∧ (State.deliver s a1 a2 a3 a4).gnss = s.gnss ∧
    (State.deliver s a1 a2 a3 a4).imu = s.imu ∧ (State.deliver s a1 a2 a3 a4).cam = s.cam ∧
    (State.deliver s a1 a2 a3 a4).crown = s.crown ∧ (State.deliver s a1 a2 a3 a4).granary = s.granary ∧
    (State.deliver s a1 a2 a3 a4).outs = s.outs ∧ (State.deliver s a1 a2 a3 a4).swin = s.swin ∧
    (State.deliver s a1 a2 a3 a4).body = s.body ∧ (State.deliver s a1 a2 a3 a4).fans = s.fans ∧
    (State.deliver s a1 a2 a3 a4).plate = s.plate ∧ (State.deliver s a1 a2 a3 a4).can = s.can ∧
    (State.deliver s a1 a2 a3 a4).eth = s.eth ∧ (State.deliver s a1 a2 a3 a4).nm = s.nm ∧
    (State.deliver s a1 a2 a3 a4).root = s.root ∧ (State.deliver s a1 a2 a3 a4).graft = s.graft ∧
    (State.deliver s a1 a2 a3 a4).attic = s.attic ∧ (State.deliver s a1 a2 a3 a4).larder = s.larder ∧
    (State.deliver s a1 a2 a3 a4).power = s.power ∧ (State.deliver s a1 a2 a3 a4).thermal = s.thermal ∧
    (State.deliver s a1 a2 a3 a4).jtag = s.jtag ∧ (State.deliver s a1 a2 a3 a4).kept = s.kept ∧
    (State.deliver s a1 a2 a3 a4).keptDirty = s.keptDirty ∧ (State.deliver s a1 a2 a3 a4).keptAt = s.keptAt ∧
    (State.deliver s a1 a2 a3 a4).free = s.free ∧ (State.deliver s a1 a2 a3 a4).pending = s.pending ∧
    (∀ k, (State.deliver s a1 a2 a3 a4).lossCh k = s.lossCh k) ∧
    (∀ k, (State.deliver s a1 a2 a3 a4).bridgeCh k = s.bridgeCh k) ∧
    (∀ k, (State.deliver s a1 a2 a3 a4).ainCh k = s.ainCh k) ∧ (∀ k, (State.deliver s a1 a2 a3 a4).freqCh k = s.freqCh k) ∧
    (∀ k, (State.deliver s a1 a2 a3 a4).supCh k = s.supCh k) ∧ (∀ k, (State.deliver s a1 a2 a3 a4).canCh k = s.canCh k) ∧
    (∀ k, (State.deliver s a1 a2 a3 a4).ethPort k = s.ethPort k) ∧ (∀ k, (State.deliver s a1 a2 a3 a4).net k = s.net k) ∧
    (∀ k, (State.deliver s a1 a2 a3 a4).port k = s.port k) ∧ (∀ k, (State.deliver s a1 a2 a3 a4).lamp k = s.lamp k) ∧
    (∀ k, (State.deliver s a1 a2 a3 a4).slot k = s.slot k) ∧
    (∀ k, (State.deliver s a1 a2 a3 a4).crownUnit k = s.crownUnit k) ∧
    (∀ k, (State.deliver s a1 a2 a3 a4).loop k = s.loop k) ∧ (∀ k, (State.deliver s a1 a2 a3 a4).trace k = s.trace k) ∧
    (∀ k, (State.deliver s a1 a2 a3 a4).lidar k = s.lidar k) ∧ (∀ k, (State.deliver s a1 a2 a3 a4).ring k = s.ring k) ∧
    (∀ k, (State.deliver s a1 a2 a3 a4).fan k = s.fan k) ∧ (∀ k, (State.deliver s a1 a2 a3 a4).out k = s.out k) ∧
    (∀ k, (State.deliver s a1 a2 a3 a4).group k = s.group k) ∧ (∀ k, (State.deliver s a1 a2 a3 a4).hb k = s.hb k) ∧
    (∀ k, (State.deliver s a1 a2 a3 a4).svc k = s.svc k) ∧ (∀ k, (State.deliver s a1 a2 a3 a4).valve' k = s.valve' k) ∧
    (∀ k, (State.deliver s a1 a2 a3 a4).bank k = s.bank k) ∧ (∀ k, (State.deliver s a1 a2 a3 a4).boost k = s.boost k) ∧
    (∀ k, (State.deliver s a1 a2 a3 a4).ant k = s.ant k) ∧ (∀ k, (State.deliver s a1 a2 a3 a4).lin k = s.lin k) ∧
    (∀ k, (State.deliver s a1 a2 a3 a4).parkSlot k = s.parkSlot k) ∧ (∀ k, (State.deliver s a1 a2 a3 a4).stud k = s.stud k) ∧
    (∀ k, (State.deliver s a1 a2 a3 a4).sensor k = s.sensor k) ∧ (∀ k, (State.deliver s a1 a2 a3 a4).link k = s.link k) ∧
    (∀ k, (State.deliver s a1 a2 a3 a4).sw k = s.sw k) ∧ (State.deliver s a1 a2 a3 a4).hw = s.hw ∧
    (State.deliver s a1 a2 a3 a4).variant = s.variant ∧ (State.deliver s a1 a2 a3 a4).trunkOn = s.trunkOn ∧
    (State.deliver s a1 a2 a3 a4).inRun = s.inRun ∧ (State.deliver s a1 a2 a3 a4).operating = s.operating ∧
    (State.deliver s a1 a2 a3 a4).parked = s.parked ∧ (∀ k, (State.deliver s a1 a2 a3 a4).sig k = s.sig k) :=
  ⟨part_of_without (m := 2) (State.deliver_frame _ _ _ _ _ rfl) rfl,
    time_of_without (m := 2) (State.deliver_frame _ _ _ _ _ rfl) rfl,
    faults_of_without (m := 2) (State.deliver_frame _ _ _ _ _ rfl) rfl,
    signals_of_without (m := 2) (State.deliver_frame _ _ _ _ _ rfl) rfl,
    sensing_of_without (m := 2) (State.deliver_frame _ _ _ _ _ rfl) rfl,
    ctrl_of_without (m := 2) (State.deliver_frame _ _ _ _ _ rfl) rfl,
    valve_of_without (m := 2) (State.deliver_frame _ _ _ _ _ rfl) rfl,
    gnss_of_without (m := 2) (State.deliver_frame _ _ _ _ _ rfl) rfl,
    imu_of_without (m := 2) (State.deliver_frame _ _ _ _ _ rfl) rfl,
    cam_of_without (m := 2) (State.deliver_frame _ _ _ _ _ rfl) rfl,
    crown_of_without (m := 2) (State.deliver_frame _ _ _ _ _ rfl) rfl,
    granary_of_without (m := 2) (State.deliver_frame _ _ _ _ _ rfl) rfl,
    outs_of_without (m := 2) (State.deliver_frame _ _ _ _ _ rfl) rfl,
    swin_of_without (m := 2) (State.deliver_frame _ _ _ _ _ rfl) rfl,
    body_of_without (m := 2) (State.deliver_frame _ _ _ _ _ rfl) rfl,
    fans_of_without (m := 2) (State.deliver_frame _ _ _ _ _ rfl) rfl,
    plate_of_without (m := 2) (State.deliver_frame _ _ _ _ _ rfl) rfl,
    can_of_without (m := 2) (State.deliver_frame _ _ _ _ _ rfl) rfl,
    eth_of_without (m := 2) (State.deliver_frame _ _ _ _ _ rfl) rfl,
    nm_of_without (m := 2) (State.deliver_frame _ _ _ _ _ rfl) rfl,
    root_of_without (m := 2) (State.deliver_frame _ _ _ _ _ rfl) rfl,
    graft_of_without (m := 2) (State.deliver_frame _ _ _ _ _ rfl) rfl,
    attic_of_without (m := 2) (State.deliver_frame _ _ _ _ _ rfl) rfl,
    larder_of_without (m := 2) (State.deliver_frame _ _ _ _ _ rfl) rfl,
    power_of_without (m := 2) (State.deliver_frame _ _ _ _ _ rfl) rfl,
    thermal_of_without (m := 2) (State.deliver_frame _ _ _ _ _ rfl) rfl,
    jtag_of_without (m := 2) (State.deliver_frame _ _ _ _ _ rfl) rfl,
    kept_of_without (m := 2) (State.deliver_frame _ _ _ _ _ rfl) rfl,
    keptDirty_of_without (m := 2) (State.deliver_frame _ _ _ _ _ rfl) rfl,
    keptAt_of_without (m := 2) (State.deliver_frame _ _ _ _ _ rfl) rfl,
    free_of_without (m := 2) (State.deliver_frame _ _ _ _ _ rfl) rfl,
    pending_of_without (m := 2) (State.deliver_frame _ _ _ _ _ rfl) rfl,
    (fun k => by unfold State.lossCh; rw [sensing_of_without (m := 2) (State.deliver_frame _ _ _ _ _ rfl) rfl]),
    (fun k => by unfold State.bridgeCh; rw [sensing_of_without (m := 2) (State.deliver_frame _ _ _ _ _ rfl) rfl]),
    (fun k => by unfold State.ainCh; rw [sensing_of_without (m := 2) (State.deliver_frame _ _ _ _ _ rfl) rfl]),
    (fun k => by unfold State.freqCh; rw [sensing_of_without (m := 2) (State.deliver_frame _ _ _ _ _ rfl) rfl]),
    (fun k => by unfold State.supCh; rw [sensing_of_without (m := 2) (State.deliver_frame _ _ _ _ _ rfl) rfl]),
    (fun k => by unfold State.canCh; rw [can_of_without (m := 2) (State.deliver_frame _ _ _ _ _ rfl) rfl]),
    (fun k => by unfold State.ethPort; rw [eth_of_without (m := 2) (State.deliver_frame _ _ _ _ _ rfl) rfl]),
    (fun k => by unfold State.net; rw [nm_of_without (m := 2) (State.deliver_frame _ _ _ _ _ rfl) rfl]),
    (fun k => by unfold State.port; rw [cam_of_without (m := 2) (State.deliver_frame _ _ _ _ _ rfl) rfl]),
    (fun k => by unfold State.lamp; rw [cam_of_without (m := 2) (State.deliver_frame _ _ _ _ _ rfl) rfl]),
    (fun k => by unfold State.slot; rw [crown_of_without (m := 2) (State.deliver_frame _ _ _ _ _ rfl) rfl]),
    (fun k => by unfold State.crownUnit; rw [crown_of_without (m := 2) (State.deliver_frame _ _ _ _ _ rfl) rfl]),
    (fun k => by unfold State.loop; rw [ctrl_of_without (m := 2) (State.deliver_frame _ _ _ _ _ rfl) rfl]),
    (fun k => by unfold State.trace; rw [ctrl_of_without (m := 2) (State.deliver_frame _ _ _ _ _ rfl) rfl]),
    (fun k => by unfold State.lidar; rw [eth_of_without (m := 2) (State.deliver_frame _ _ _ _ _ rfl) rfl]),
    (fun k => by unfold State.ring; rw [eth_of_without (m := 2) (State.deliver_frame _ _ _ _ _ rfl) rfl]),
    (fun k => by unfold State.fan; rw [fans_of_without (m := 2) (State.deliver_frame _ _ _ _ _ rfl) rfl]),
    (fun k => by unfold State.out; rw [outs_of_without (m := 2) (State.deliver_frame _ _ _ _ _ rfl) rfl]),
    (fun k => by unfold State.group; rw [outs_of_without (m := 2) (State.deliver_frame _ _ _ _ _ rfl) rfl]),
    (fun k => by unfold State.hb; rw [outs_of_without (m := 2) (State.deliver_frame _ _ _ _ _ rfl) rfl]),
    (fun k => by unfold State.svc; rw [body_of_without (m := 2) (State.deliver_frame _ _ _ _ _ rfl) rfl]),
    (fun k => by unfold State.valve'; rw [valve_of_without (m := 2) (State.deliver_frame _ _ _ _ _ rfl) rfl]),
    (fun k => by unfold State.bank; rw [valve_of_without (m := 2) (State.deliver_frame _ _ _ _ _ rfl) rfl]),
    (fun k => by unfold State.boost; rw [valve_of_without (m := 2) (State.deliver_frame _ _ _ _ _ rfl) rfl]),
    (fun k => by unfold State.ant; rw [gnss_of_without (m := 2) (State.deliver_frame _ _ _ _ _ rfl) rfl]),
    (fun k => by unfold State.lin; rw [body_of_without (m := 2) (State.deliver_frame _ _ _ _ _ rfl) rfl]),
    (fun k => by unfold State.parkSlot; rw [outs_of_without (m := 2) (State.deliver_frame _ _ _ _ _ rfl) rfl]),
    (fun k => by unfold State.stud; rw [power_of_without (m := 2) (State.deliver_frame _ _ _ _ _ rfl) rfl]),
    (fun k => by unfold State.sensor; rw [thermal_of_without (m := 2) (State.deliver_frame _ _ _ _ _ rfl) rfl]),
    (fun k => by unfold State.link; rw [root_of_without (m := 2) (State.deliver_frame _ _ _ _ _ rfl) rfl]),
    (fun k => by unfold State.sw; rw [swin_of_without (m := 2) (State.deliver_frame _ _ _ _ _ rfl) rfl]),
    (by unfold State.hw; rw [time_of_without (m := 2) (State.deliver_frame _ _ _ _ _ rfl) rfl]),
    (by unfold State.variant; rw [part_of_without (m := 2) (State.deliver_frame _ _ _ _ _ rfl) rfl]),
    (by unfold State.trunkOn; rw [power_of_without (m := 2) (State.deliver_frame _ _ _ _ _ rfl) rfl]),
    (by unfold State.inRun; rw [power_of_without (m := 2) (State.deliver_frame _ _ _ _ _ rfl) rfl]),
    (by unfold State.operating; rw [power_of_without (m := 2) (State.deliver_frame _ _ _ _ _ rfl) rfl]),
    (by unfold State.parked; rw [power_of_without (m := 2) (State.deliver_frame _ _ _ _ _ rfl) rfl]),
    (fun k => by unfold State.sig; rw [signals_of_without (m := 2) (State.deliver_frame _ _ _ _ _ rfl) rfl])⟩
/-- What `State.postAll` leaves as it is. -/
@[simp] theorem State.postAll_leaves (s) (a1) (a2) (a3) (a4) (a5) (a6) :
    (State.postAll s a1 a2 a3 a4 a5 a6).part = s.part ∧ (State.postAll s a1 a2 a3 a4 a5 a6).time = s.time ∧
    (State.postAll s a1 a2 a3 a4 a5 a6).faults = s.faults ∧ (State.postAll s a1 a2 a3 a4 a5 a6).signals = s.signals ∧
    (State.postAll s a1 a2 a3 a4 a5 a6).sensing = s.sensing ∧ (State.postAll s a1 a2 a3 a4 a5 a6).ctrl = s.ctrl ∧
    (State.postAll s a1 a2 a3 a4 a5 a6).valve = s.valve ∧ (State.postAll s a1 a2 a3 a4 a5 a6).gnss = s.gnss ∧
    (State.postAll s a1 a2 a3 a4 a5 a6).imu = s.imu ∧ (State.postAll s a1 a2 a3 a4 a5 a6).cam = s.cam ∧
    (State.postAll s a1 a2 a3 a4 a5 a6).crown = s.crown ∧ (State.postAll s a1 a2 a3 a4 a5 a6).granary = s.granary ∧
    (State.postAll s a1 a2 a3 a4 a5 a6).outs = s.outs ∧ (State.postAll s a1 a2 a3 a4 a5 a6).swin = s.swin ∧
    (State.postAll s a1 a2 a3 a4 a5 a6).body = s.body ∧ (State.postAll s a1 a2 a3 a4 a5 a6).fans = s.fans ∧
    (State.postAll s a1 a2 a3 a4 a5 a6).plate = s.plate ∧ (State.postAll s a1 a2 a3 a4 a5 a6).can = s.can ∧
    (State.postAll s a1 a2 a3 a4 a5 a6).eth = s.eth ∧ (State.postAll s a1 a2 a3 a4 a5 a6).nm = s.nm ∧
    (State.postAll s a1 a2 a3 a4 a5 a6).root = s.root ∧ (State.postAll s a1 a2 a3 a4 a5 a6).graft = s.graft ∧
    (State.postAll s a1 a2 a3 a4 a5 a6).attic = s.attic ∧ (State.postAll s a1 a2 a3 a4 a5 a6).larder = s.larder ∧
    (State.postAll s a1 a2 a3 a4 a5 a6).power = s.power ∧ (State.postAll s a1 a2 a3 a4 a5 a6).thermal = s.thermal ∧
    (State.postAll s a1 a2 a3 a4 a5 a6).jtag = s.jtag ∧ (State.postAll s a1 a2 a3 a4 a5 a6).kept = s.kept ∧
    (State.postAll s a1 a2 a3 a4 a5 a6).keptDirty = s.keptDirty ∧ (State.postAll s a1 a2 a3 a4 a5 a6).keptAt = s.keptAt ∧
    (State.postAll s a1 a2 a3 a4 a5 a6).free = s.free ∧ (State.postAll s a1 a2 a3 a4 a5 a6).pending = s.pending ∧
    (∀ k, (State.postAll s a1 a2 a3 a4 a5 a6).lossCh k = s.lossCh k) ∧
    (∀ k, (State.postAll s a1 a2 a3 a4 a5 a6).bridgeCh k = s.bridgeCh k) ∧
    (∀ k, (State.postAll s a1 a2 a3 a4 a5 a6).ainCh k = s.ainCh k) ∧
    (∀ k, (State.postAll s a1 a2 a3 a4 a5 a6).freqCh k = s.freqCh k) ∧
    (∀ k, (State.postAll s a1 a2 a3 a4 a5 a6).supCh k = s.supCh k) ∧
    (∀ k, (State.postAll s a1 a2 a3 a4 a5 a6).canCh k = s.canCh k) ∧
    (∀ k, (State.postAll s a1 a2 a3 a4 a5 a6).ethPort k = s.ethPort k) ∧
    (∀ k, (State.postAll s a1 a2 a3 a4 a5 a6).net k = s.net k) ∧
    (∀ k, (State.postAll s a1 a2 a3 a4 a5 a6).port k = s.port k) ∧
    (∀ k, (State.postAll s a1 a2 a3 a4 a5 a6).lamp k = s.lamp k) ∧
    (∀ k, (State.postAll s a1 a2 a3 a4 a5 a6).slot k = s.slot k) ∧
    (∀ k, (State.postAll s a1 a2 a3 a4 a5 a6).crownUnit k = s.crownUnit k) ∧
    (∀ k, (State.postAll s a1 a2 a3 a4 a5 a6).loop k = s.loop k) ∧
    (∀ k, (State.postAll s a1 a2 a3 a4 a5 a6).trace k = s.trace k) ∧
    (∀ k, (State.postAll s a1 a2 a3 a4 a5 a6).lidar k = s.lidar k) ∧
    (∀ k, (State.postAll s a1 a2 a3 a4 a5 a6).ring k = s.ring k) ∧
    (∀ k, (State.postAll s a1 a2 a3 a4 a5 a6).fan k = s.fan k) ∧ (∀ k, (State.postAll s a1 a2 a3 a4 a5 a6).out k = s.out k) ∧
    (∀ k, (State.postAll s a1 a2 a3 a4 a5 a6).group k = s.group k) ∧
    (∀ k, (State.postAll s a1 a2 a3 a4 a5 a6).hb k = s.hb k) ∧ (∀ k, (State.postAll s a1 a2 a3 a4 a5 a6).svc k = s.svc k) ∧
    (∀ k, (State.postAll s a1 a2 a3 a4 a5 a6).valve' k = s.valve' k) ∧
    (∀ k, (State.postAll s a1 a2 a3 a4 a5 a6).bank k = s.bank k) ∧
    (∀ k, (State.postAll s a1 a2 a3 a4 a5 a6).boost k = s.boost k) ∧
    (∀ k, (State.postAll s a1 a2 a3 a4 a5 a6).ant k = s.ant k) ∧ (∀ k, (State.postAll s a1 a2 a3 a4 a5 a6).lin k = s.lin k) ∧
    (∀ k, (State.postAll s a1 a2 a3 a4 a5 a6).parkSlot k = s.parkSlot k) ∧
    (∀ k, (State.postAll s a1 a2 a3 a4 a5 a6).stud k = s.stud k) ∧
    (∀ k, (State.postAll s a1 a2 a3 a4 a5 a6).sensor k = s.sensor k) ∧
    (∀ k, (State.postAll s a1 a2 a3 a4 a5 a6).link k = s.link k) ∧ (∀ k, (State.postAll s a1 a2 a3 a4 a5 a6).sw k = s.sw k) ∧
    (State.postAll s a1 a2 a3 a4 a5 a6).hw = s.hw ∧ (State.postAll s a1 a2 a3 a4 a5 a6).variant = s.variant ∧
    (State.postAll s a1 a2 a3 a4 a5 a6).trunkOn = s.trunkOn ∧ (State.postAll s a1 a2 a3 a4 a5 a6).inRun = s.inRun ∧
    (State.postAll s a1 a2 a3 a4 a5 a6).operating = s.operating ∧ (State.postAll s a1 a2 a3 a4 a5 a6).parked = s.parked ∧
    (∀ k, (State.postAll s a1 a2 a3 a4 a5 a6).sig k = s.sig k) :=
  ⟨part_of_without (m := 2) (State.postAll_frame _ _ _ _ _ _ _ rfl) rfl,
    time_of_without (m := 2) (State.postAll_frame _ _ _ _ _ _ _ rfl) rfl,
    faults_of_without (m := 2) (State.postAll_frame _ _ _ _ _ _ _ rfl) rfl,
    signals_of_without (m := 2) (State.postAll_frame _ _ _ _ _ _ _ rfl) rfl,
    sensing_of_without (m := 2) (State.postAll_frame _ _ _ _ _ _ _ rfl) rfl,
    ctrl_of_without (m := 2) (State.postAll_frame _ _ _ _ _ _ _ rfl) rfl,
    valve_of_without (m := 2) (State.postAll_frame _ _ _ _ _ _ _ rfl) rfl,
    gnss_of_without (m := 2) (State.postAll_frame _ _ _ _ _ _ _ rfl) rfl,
    imu_of_without (m := 2) (State.postAll_frame _ _ _ _ _ _ _ rfl) rfl,
    cam_of_without (m := 2) (State.postAll_frame _ _ _ _ _ _ _ rfl) rfl,
    crown_of_without (m := 2) (State.postAll_frame _ _ _ _ _ _ _ rfl) rfl,
    granary_of_without (m := 2) (State.postAll_frame _ _ _ _ _ _ _ rfl) rfl,
    outs_of_without (m := 2) (State.postAll_frame _ _ _ _ _ _ _ rfl) rfl,
    swin_of_without (m := 2) (State.postAll_frame _ _ _ _ _ _ _ rfl) rfl,
    body_of_without (m := 2) (State.postAll_frame _ _ _ _ _ _ _ rfl) rfl,
    fans_of_without (m := 2) (State.postAll_frame _ _ _ _ _ _ _ rfl) rfl,
    plate_of_without (m := 2) (State.postAll_frame _ _ _ _ _ _ _ rfl) rfl,
    can_of_without (m := 2) (State.postAll_frame _ _ _ _ _ _ _ rfl) rfl,
    eth_of_without (m := 2) (State.postAll_frame _ _ _ _ _ _ _ rfl) rfl,
    nm_of_without (m := 2) (State.postAll_frame _ _ _ _ _ _ _ rfl) rfl,
    root_of_without (m := 2) (State.postAll_frame _ _ _ _ _ _ _ rfl) rfl,
    graft_of_without (m := 2) (State.postAll_frame _ _ _ _ _ _ _ rfl) rfl,
    attic_of_without (m := 2) (State.postAll_frame _ _ _ _ _ _ _ rfl) rfl,
    larder_of_without (m := 2) (State.postAll_frame _ _ _ _ _ _ _ rfl) rfl,
    power_of_without (m := 2) (State.postAll_frame _ _ _ _ _ _ _ rfl) rfl,
    thermal_of_without (m := 2) (State.postAll_frame _ _ _ _ _ _ _ rfl) rfl,
    jtag_of_without (m := 2) (State.postAll_frame _ _ _ _ _ _ _ rfl) rfl,
    kept_of_without (m := 2) (State.postAll_frame _ _ _ _ _ _ _ rfl) rfl,
    keptDirty_of_without (m := 2) (State.postAll_frame _ _ _ _ _ _ _ rfl) rfl,
    keptAt_of_without (m := 2) (State.postAll_frame _ _ _ _ _ _ _ rfl) rfl,
    free_of_without (m := 2) (State.postAll_frame _ _ _ _ _ _ _ rfl) rfl,
    pending_of_without (m := 2) (State.postAll_frame _ _ _ _ _ _ _ rfl) rfl,
    (fun k => by unfold State.lossCh; rw [sensing_of_without (m := 2) (State.postAll_frame _ _ _ _ _ _ _ rfl) rfl]),
    (fun k => by unfold State.bridgeCh; rw [sensing_of_without (m := 2) (State.postAll_frame _ _ _ _ _ _ _ rfl) rfl]),
    (fun k => by unfold State.ainCh; rw [sensing_of_without (m := 2) (State.postAll_frame _ _ _ _ _ _ _ rfl) rfl]),
    (fun k => by unfold State.freqCh; rw [sensing_of_without (m := 2) (State.postAll_frame _ _ _ _ _ _ _ rfl) rfl]),
    (fun k => by unfold State.supCh; rw [sensing_of_without (m := 2) (State.postAll_frame _ _ _ _ _ _ _ rfl) rfl]),
    (fun k => by unfold State.canCh; rw [can_of_without (m := 2) (State.postAll_frame _ _ _ _ _ _ _ rfl) rfl]),
    (fun k => by unfold State.ethPort; rw [eth_of_without (m := 2) (State.postAll_frame _ _ _ _ _ _ _ rfl) rfl]),
    (fun k => by unfold State.net; rw [nm_of_without (m := 2) (State.postAll_frame _ _ _ _ _ _ _ rfl) rfl]),
    (fun k => by unfold State.port; rw [cam_of_without (m := 2) (State.postAll_frame _ _ _ _ _ _ _ rfl) rfl]),
    (fun k => by unfold State.lamp; rw [cam_of_without (m := 2) (State.postAll_frame _ _ _ _ _ _ _ rfl) rfl]),
    (fun k => by unfold State.slot; rw [crown_of_without (m := 2) (State.postAll_frame _ _ _ _ _ _ _ rfl) rfl]),
    (fun k => by unfold State.crownUnit; rw [crown_of_without (m := 2) (State.postAll_frame _ _ _ _ _ _ _ rfl) rfl]),
    (fun k => by unfold State.loop; rw [ctrl_of_without (m := 2) (State.postAll_frame _ _ _ _ _ _ _ rfl) rfl]),
    (fun k => by unfold State.trace; rw [ctrl_of_without (m := 2) (State.postAll_frame _ _ _ _ _ _ _ rfl) rfl]),
    (fun k => by unfold State.lidar; rw [eth_of_without (m := 2) (State.postAll_frame _ _ _ _ _ _ _ rfl) rfl]),
    (fun k => by unfold State.ring; rw [eth_of_without (m := 2) (State.postAll_frame _ _ _ _ _ _ _ rfl) rfl]),
    (fun k => by unfold State.fan; rw [fans_of_without (m := 2) (State.postAll_frame _ _ _ _ _ _ _ rfl) rfl]),
    (fun k => by unfold State.out; rw [outs_of_without (m := 2) (State.postAll_frame _ _ _ _ _ _ _ rfl) rfl]),
    (fun k => by unfold State.group; rw [outs_of_without (m := 2) (State.postAll_frame _ _ _ _ _ _ _ rfl) rfl]),
    (fun k => by unfold State.hb; rw [outs_of_without (m := 2) (State.postAll_frame _ _ _ _ _ _ _ rfl) rfl]),
    (fun k => by unfold State.svc; rw [body_of_without (m := 2) (State.postAll_frame _ _ _ _ _ _ _ rfl) rfl]),
    (fun k => by unfold State.valve'; rw [valve_of_without (m := 2) (State.postAll_frame _ _ _ _ _ _ _ rfl) rfl]),
    (fun k => by unfold State.bank; rw [valve_of_without (m := 2) (State.postAll_frame _ _ _ _ _ _ _ rfl) rfl]),
    (fun k => by unfold State.boost; rw [valve_of_without (m := 2) (State.postAll_frame _ _ _ _ _ _ _ rfl) rfl]),
    (fun k => by unfold State.ant; rw [gnss_of_without (m := 2) (State.postAll_frame _ _ _ _ _ _ _ rfl) rfl]),
    (fun k => by unfold State.lin; rw [body_of_without (m := 2) (State.postAll_frame _ _ _ _ _ _ _ rfl) rfl]),
    (fun k => by unfold State.parkSlot; rw [outs_of_without (m := 2) (State.postAll_frame _ _ _ _ _ _ _ rfl) rfl]),
    (fun k => by unfold State.stud; rw [power_of_without (m := 2) (State.postAll_frame _ _ _ _ _ _ _ rfl) rfl]),
    (fun k => by unfold State.sensor; rw [thermal_of_without (m := 2) (State.postAll_frame _ _ _ _ _ _ _ rfl) rfl]),
    (fun k => by unfold State.link; rw [root_of_without (m := 2) (State.postAll_frame _ _ _ _ _ _ _ rfl) rfl]),
    (fun k => by unfold State.sw; rw [swin_of_without (m := 2) (State.postAll_frame _ _ _ _ _ _ _ rfl) rfl]),
    (by unfold State.hw; rw [time_of_without (m := 2) (State.postAll_frame _ _ _ _ _ _ _ rfl) rfl]),
    (by unfold State.variant; rw [part_of_without (m := 2) (State.postAll_frame _ _ _ _ _ _ _ rfl) rfl]),
    (by unfold State.trunkOn; rw [power_of_without (m := 2) (State.postAll_frame _ _ _ _ _ _ _ rfl) rfl]),
    (by unfold State.inRun; rw [power_of_without (m := 2) (State.postAll_frame _ _ _ _ _ _ _ rfl) rfl]),
    (by unfold State.operating; rw [power_of_without (m := 2) (State.postAll_frame _ _ _ _ _ _ _ rfl) rfl]),
    (by unfold State.parked; rw [power_of_without (m := 2) (State.postAll_frame _ _ _ _ _ _ _ rfl) rfl]),
    (fun k => by unfold State.sig; rw [signals_of_without (m := 2) (State.postAll_frame _ _ _ _ _ _ _ rfl) rfl])⟩
/-- What `State.postIn` leaves as it is. -/
@[simp] theorem State.postIn_leaves (s) (a1) (a2) (a3) (a4) (a5) (a6) (a7) :
    (State.postIn s a1 a2 a3 a4 a5 a6 a7).part = s.part ∧ (State.postIn s a1 a2 a3 a4 a5 a6 a7).time = s.time ∧
    (State.postIn s a1 a2 a3 a4 a5 a6 a7).faults = s.faults ∧ (State.postIn s a1 a2 a3 a4 a5 a6 a7).signals = s.signals ∧
    (State.postIn s a1 a2 a3 a4 a5 a6 a7).sensing = s.sensing ∧ (State.postIn s a1 a2 a3 a4 a5 a6 a7).ctrl = s.ctrl ∧
    (State.postIn s a1 a2 a3 a4 a5 a6 a7).valve = s.valve ∧ (State.postIn s a1 a2 a3 a4 a5 a6 a7).gnss = s.gnss ∧
    (State.postIn s a1 a2 a3 a4 a5 a6 a7).imu = s.imu ∧ (State.postIn s a1 a2 a3 a4 a5 a6 a7).cam = s.cam ∧
    (State.postIn s a1 a2 a3 a4 a5 a6 a7).crown = s.crown ∧ (State.postIn s a1 a2 a3 a4 a5 a6 a7).granary = s.granary ∧
    (State.postIn s a1 a2 a3 a4 a5 a6 a7).outs = s.outs ∧ (State.postIn s a1 a2 a3 a4 a5 a6 a7).swin = s.swin ∧
    (State.postIn s a1 a2 a3 a4 a5 a6 a7).body = s.body ∧ (State.postIn s a1 a2 a3 a4 a5 a6 a7).fans = s.fans ∧
    (State.postIn s a1 a2 a3 a4 a5 a6 a7).plate = s.plate ∧ (State.postIn s a1 a2 a3 a4 a5 a6 a7).can = s.can ∧
    (State.postIn s a1 a2 a3 a4 a5 a6 a7).eth = s.eth ∧ (State.postIn s a1 a2 a3 a4 a5 a6 a7).nm = s.nm ∧
    (State.postIn s a1 a2 a3 a4 a5 a6 a7).root = s.root ∧ (State.postIn s a1 a2 a3 a4 a5 a6 a7).graft = s.graft ∧
    (State.postIn s a1 a2 a3 a4 a5 a6 a7).attic = s.attic ∧ (State.postIn s a1 a2 a3 a4 a5 a6 a7).larder = s.larder ∧
    (State.postIn s a1 a2 a3 a4 a5 a6 a7).power = s.power ∧ (State.postIn s a1 a2 a3 a4 a5 a6 a7).thermal = s.thermal ∧
    (State.postIn s a1 a2 a3 a4 a5 a6 a7).jtag = s.jtag ∧ (State.postIn s a1 a2 a3 a4 a5 a6 a7).kept = s.kept ∧
    (State.postIn s a1 a2 a3 a4 a5 a6 a7).keptDirty = s.keptDirty ∧ (State.postIn s a1 a2 a3 a4 a5 a6 a7).keptAt = s.keptAt ∧
    (State.postIn s a1 a2 a3 a4 a5 a6 a7).free = s.free ∧ (State.postIn s a1 a2 a3 a4 a5 a6 a7).pending = s.pending ∧
    (∀ k, (State.postIn s a1 a2 a3 a4 a5 a6 a7).lossCh k = s.lossCh k) ∧
    (∀ k, (State.postIn s a1 a2 a3 a4 a5 a6 a7).bridgeCh k = s.bridgeCh k) ∧
    (∀ k, (State.postIn s a1 a2 a3 a4 a5 a6 a7).ainCh k = s.ainCh k) ∧
    (∀ k, (State.postIn s a1 a2 a3 a4 a5 a6 a7).freqCh k = s.freqCh k) ∧
    (∀ k, (State.postIn s a1 a2 a3 a4 a5 a6 a7).supCh k = s.supCh k) ∧
    (∀ k, (State.postIn s a1 a2 a3 a4 a5 a6 a7).canCh k = s.canCh k) ∧
    (∀ k, (State.postIn s a1 a2 a3 a4 a5 a6 a7).ethPort k = s.ethPort k) ∧
    (∀ k, (State.postIn s a1 a2 a3 a4 a5 a6 a7).net k = s.net k) ∧
    (∀ k, (State.postIn s a1 a2 a3 a4 a5 a6 a7).port k = s.port k) ∧
    (∀ k, (State.postIn s a1 a2 a3 a4 a5 a6 a7).lamp k = s.lamp k) ∧
    (∀ k, (State.postIn s a1 a2 a3 a4 a5 a6 a7).slot k = s.slot k) ∧
    (∀ k, (State.postIn s a1 a2 a3 a4 a5 a6 a7).crownUnit k = s.crownUnit k) ∧
    (∀ k, (State.postIn s a1 a2 a3 a4 a5 a6 a7).loop k = s.loop k) ∧
    (∀ k, (State.postIn s a1 a2 a3 a4 a5 a6 a7).trace k = s.trace k) ∧
    (∀ k, (State.postIn s a1 a2 a3 a4 a5 a6 a7).lidar k = s.lidar k) ∧
    (∀ k, (State.postIn s a1 a2 a3 a4 a5 a6 a7).ring k = s.ring k) ∧
    (∀ k, (State.postIn s a1 a2 a3 a4 a5 a6 a7).fan k = s.fan k) ∧
    (∀ k, (State.postIn s a1 a2 a3 a4 a5 a6 a7).out k = s.out k) ∧
    (∀ k, (State.postIn s a1 a2 a3 a4 a5 a6 a7).group k = s.group k) ∧
    (∀ k, (State.postIn s a1 a2 a3 a4 a5 a6 a7).hb k = s.hb k) ∧
    (∀ k, (State.postIn s a1 a2 a3 a4 a5 a6 a7).svc k = s.svc k) ∧
    (∀ k, (State.postIn s a1 a2 a3 a4 a5 a6 a7).valve' k = s.valve' k) ∧
    (∀ k, (State.postIn s a1 a2 a3 a4 a5 a6 a7).bank k = s.bank k) ∧
    (∀ k, (State.postIn s a1 a2 a3 a4 a5 a6 a7).boost k = s.boost k) ∧
    (∀ k, (State.postIn s a1 a2 a3 a4 a5 a6 a7).ant k = s.ant k) ∧
    (∀ k, (State.postIn s a1 a2 a3 a4 a5 a6 a7).lin k = s.lin k) ∧
    (∀ k, (State.postIn s a1 a2 a3 a4 a5 a6 a7).parkSlot k = s.parkSlot k) ∧
    (∀ k, (State.postIn s a1 a2 a3 a4 a5 a6 a7).stud k = s.stud k) ∧
    (∀ k, (State.postIn s a1 a2 a3 a4 a5 a6 a7).sensor k = s.sensor k) ∧
    (∀ k, (State.postIn s a1 a2 a3 a4 a5 a6 a7).link k = s.link k) ∧
    (∀ k, (State.postIn s a1 a2 a3 a4 a5 a6 a7).sw k = s.sw k) ∧ (State.postIn s a1 a2 a3 a4 a5 a6 a7).hw = s.hw ∧
    (State.postIn s a1 a2 a3 a4 a5 a6 a7).variant = s.variant ∧ (State.postIn s a1 a2 a3 a4 a5 a6 a7).trunkOn = s.trunkOn ∧
    (State.postIn s a1 a2 a3 a4 a5 a6 a7).inRun = s.inRun ∧ (State.postIn s a1 a2 a3 a4 a5 a6 a7).operating = s.operating ∧
    (State.postIn s a1 a2 a3 a4 a5 a6 a7).parked = s.parked ∧ (∀ k, (State.postIn s a1 a2 a3 a4 a5 a6 a7).sig k = s.sig k) :=
  ⟨part_of_without (m := 2) (State.postIn_frame _ _ _ _ _ _ _ _ rfl) rfl,
    time_of_without (m := 2) (State.postIn_frame _ _ _ _ _ _ _ _ rfl) rfl,
    faults_of_without (m := 2) (State.postIn_frame _ _ _ _ _ _ _ _ rfl) rfl,
    signals_of_without (m := 2) (State.postIn_frame _ _ _ _ _ _ _ _ rfl) rfl,
    sensing_of_without (m := 2) (State.postIn_frame _ _ _ _ _ _ _ _ rfl) rfl,
    ctrl_of_without (m := 2) (State.postIn_frame _ _ _ _ _ _ _ _ rfl) rfl,
    valve_of_without (m := 2) (State.postIn_frame _ _ _ _ _ _ _ _ rfl) rfl,
    gnss_of_without (m := 2) (State.postIn_frame _ _ _ _ _ _ _ _ rfl) rfl,
    imu_of_without (m := 2) (State.postIn_frame _ _ _ _ _ _ _ _ rfl) rfl,
    cam_of_without (m := 2) (State.postIn_frame _ _ _ _ _ _ _ _ rfl) rfl,
    crown_of_without (m := 2) (State.postIn_frame _ _ _ _ _ _ _ _ rfl) rfl,
    granary_of_without (m := 2) (State.postIn_frame _ _ _ _ _ _ _ _ rfl) rfl,
    outs_of_without (m := 2) (State.postIn_frame _ _ _ _ _ _ _ _ rfl) rfl,
    swin_of_without (m := 2) (State.postIn_frame _ _ _ _ _ _ _ _ rfl) rfl,
    body_of_without (m := 2) (State.postIn_frame _ _ _ _ _ _ _ _ rfl) rfl,
    fans_of_without (m := 2) (State.postIn_frame _ _ _ _ _ _ _ _ rfl) rfl,
    plate_of_without (m := 2) (State.postIn_frame _ _ _ _ _ _ _ _ rfl) rfl,
    can_of_without (m := 2) (State.postIn_frame _ _ _ _ _ _ _ _ rfl) rfl,
    eth_of_without (m := 2) (State.postIn_frame _ _ _ _ _ _ _ _ rfl) rfl,
    nm_of_without (m := 2) (State.postIn_frame _ _ _ _ _ _ _ _ rfl) rfl,
    root_of_without (m := 2) (State.postIn_frame _ _ _ _ _ _ _ _ rfl) rfl,
    graft_of_without (m := 2) (State.postIn_frame _ _ _ _ _ _ _ _ rfl) rfl,
    attic_of_without (m := 2) (State.postIn_frame _ _ _ _ _ _ _ _ rfl) rfl,
    larder_of_without (m := 2) (State.postIn_frame _ _ _ _ _ _ _ _ rfl) rfl,
    power_of_without (m := 2) (State.postIn_frame _ _ _ _ _ _ _ _ rfl) rfl,
    thermal_of_without (m := 2) (State.postIn_frame _ _ _ _ _ _ _ _ rfl) rfl,
    jtag_of_without (m := 2) (State.postIn_frame _ _ _ _ _ _ _ _ rfl) rfl,
    kept_of_without (m := 2) (State.postIn_frame _ _ _ _ _ _ _ _ rfl) rfl,
    keptDirty_of_without (m := 2) (State.postIn_frame _ _ _ _ _ _ _ _ rfl) rfl,
    keptAt_of_without (m := 2) (State.postIn_frame _ _ _ _ _ _ _ _ rfl) rfl,
    free_of_without (m := 2) (State.postIn_frame _ _ _ _ _ _ _ _ rfl) rfl,
    pending_of_without (m := 2) (State.postIn_frame _ _ _ _ _ _ _ _ rfl) rfl,
    (fun k => by unfold State.lossCh; rw [sensing_of_without (m := 2) (State.postIn_frame _ _ _ _ _ _ _ _ rfl) rfl]),
    (fun k => by unfold State.bridgeCh; rw [sensing_of_without (m := 2) (State.postIn_frame _ _ _ _ _ _ _ _ rfl) rfl]),
    (fun k => by unfold State.ainCh; rw [sensing_of_without (m := 2) (State.postIn_frame _ _ _ _ _ _ _ _ rfl) rfl]),
    (fun k => by unfold State.freqCh; rw [sensing_of_without (m := 2) (State.postIn_frame _ _ _ _ _ _ _ _ rfl) rfl]),
    (fun k => by unfold State.supCh; rw [sensing_of_without (m := 2) (State.postIn_frame _ _ _ _ _ _ _ _ rfl) rfl]),
    (fun k => by unfold State.canCh; rw [can_of_without (m := 2) (State.postIn_frame _ _ _ _ _ _ _ _ rfl) rfl]),
    (fun k => by unfold State.ethPort; rw [eth_of_without (m := 2) (State.postIn_frame _ _ _ _ _ _ _ _ rfl) rfl]),
    (fun k => by unfold State.net; rw [nm_of_without (m := 2) (State.postIn_frame _ _ _ _ _ _ _ _ rfl) rfl]),
    (fun k => by unfold State.port; rw [cam_of_without (m := 2) (State.postIn_frame _ _ _ _ _ _ _ _ rfl) rfl]),
    (fun k => by unfold State.lamp; rw [cam_of_without (m := 2) (State.postIn_frame _ _ _ _ _ _ _ _ rfl) rfl]),
    (fun k => by unfold State.slot; rw [crown_of_without (m := 2) (State.postIn_frame _ _ _ _ _ _ _ _ rfl) rfl]),
    (fun k => by unfold State.crownUnit; rw [crown_of_without (m := 2) (State.postIn_frame _ _ _ _ _ _ _ _ rfl) rfl]),
    (fun k => by unfold State.loop; rw [ctrl_of_without (m := 2) (State.postIn_frame _ _ _ _ _ _ _ _ rfl) rfl]),
    (fun k => by unfold State.trace; rw [ctrl_of_without (m := 2) (State.postIn_frame _ _ _ _ _ _ _ _ rfl) rfl]),
    (fun k => by unfold State.lidar; rw [eth_of_without (m := 2) (State.postIn_frame _ _ _ _ _ _ _ _ rfl) rfl]),
    (fun k => by unfold State.ring; rw [eth_of_without (m := 2) (State.postIn_frame _ _ _ _ _ _ _ _ rfl) rfl]),
    (fun k => by unfold State.fan; rw [fans_of_without (m := 2) (State.postIn_frame _ _ _ _ _ _ _ _ rfl) rfl]),
    (fun k => by unfold State.out; rw [outs_of_without (m := 2) (State.postIn_frame _ _ _ _ _ _ _ _ rfl) rfl]),
    (fun k => by unfold State.group; rw [outs_of_without (m := 2) (State.postIn_frame _ _ _ _ _ _ _ _ rfl) rfl]),
    (fun k => by unfold State.hb; rw [outs_of_without (m := 2) (State.postIn_frame _ _ _ _ _ _ _ _ rfl) rfl]),
    (fun k => by unfold State.svc; rw [body_of_without (m := 2) (State.postIn_frame _ _ _ _ _ _ _ _ rfl) rfl]),
    (fun k => by unfold State.valve'; rw [valve_of_without (m := 2) (State.postIn_frame _ _ _ _ _ _ _ _ rfl) rfl]),
    (fun k => by unfold State.bank; rw [valve_of_without (m := 2) (State.postIn_frame _ _ _ _ _ _ _ _ rfl) rfl]),
    (fun k => by unfold State.boost; rw [valve_of_without (m := 2) (State.postIn_frame _ _ _ _ _ _ _ _ rfl) rfl]),
    (fun k => by unfold State.ant; rw [gnss_of_without (m := 2) (State.postIn_frame _ _ _ _ _ _ _ _ rfl) rfl]),
    (fun k => by unfold State.lin; rw [body_of_without (m := 2) (State.postIn_frame _ _ _ _ _ _ _ _ rfl) rfl]),
    (fun k => by unfold State.parkSlot; rw [outs_of_without (m := 2) (State.postIn_frame _ _ _ _ _ _ _ _ rfl) rfl]),
    (fun k => by unfold State.stud; rw [power_of_without (m := 2) (State.postIn_frame _ _ _ _ _ _ _ _ rfl) rfl]),
    (fun k => by unfold State.sensor; rw [thermal_of_without (m := 2) (State.postIn_frame _ _ _ _ _ _ _ _ rfl) rfl]),
    (fun k => by unfold State.link; rw [root_of_without (m := 2) (State.postIn_frame _ _ _ _ _ _ _ _ rfl) rfl]),
    (fun k => by unfold State.sw; rw [swin_of_without (m := 2) (State.postIn_frame _ _ _ _ _ _ _ _ rfl) rfl]),
    (by unfold State.hw; rw [time_of_without (m := 2) (State.postIn_frame _ _ _ _ _ _ _ _ rfl) rfl]),
    (by unfold State.variant; rw [part_of_without (m := 2) (State.postIn_frame _ _ _ _ _ _ _ _ rfl) rfl]),
    (by unfold State.trunkOn; rw [power_of_without (m := 2) (State.postIn_frame _ _ _ _ _ _ _ _ rfl) rfl]),
    (by unfold State.inRun; rw [power_of_without (m := 2) (State.postIn_frame _ _ _ _ _ _ _ _ rfl) rfl]),
    (by unfold State.operating; rw [power_of_without (m := 2) (State.postIn_frame _ _ _ _ _ _ _ _ rfl) rfl]),
    (by unfold State.parked; rw [power_of_without (m := 2) (State.postIn_frame _ _ _ _ _ _ _ _ rfl) rfl]),
    (fun k => by unfold State.sig; rw [signals_of_without (m := 2) (State.postIn_frame _ _ _ _ _ _ _ _ rfl) rfl])⟩
/-- What `State.complete` leaves as it is. -/
@[simp] theorem State.complete_leaves (s) (a1) (a2) (a3) (a4) (a5) (a6) (a7) (a8) :
    (State.complete s a1 a2 a3 a4 a5 a6 a7 a8).part = s.part ∧ (State.complete s a1 a2 a3 a4 a5 a6 a7 a8).time = s.time ∧
    (State.complete s a1 a2 a3 a4 a5 a6 a7 a8).faults = s.faults ∧
    (State.complete s a1 a2 a3 a4 a5 a6 a7 a8).signals = s.signals ∧
    (State.complete s a1 a2 a3 a4 a5 a6 a7 a8).sensing = s.sensing ∧
    (State.complete s a1 a2 a3 a4 a5 a6 a7 a8).ctrl = s.ctrl ∧ (State.complete s a1 a2 a3 a4 a5 a6 a7 a8).valve = s.valve ∧
    (State.complete s a1 a2 a3 a4 a5 a6 a7 a8).gnss = s.gnss ∧ (State.complete s a1 a2 a3 a4 a5 a6 a7 a8).imu = s.imu ∧
    (State.complete s a1 a2 a3 a4 a5 a6 a7 a8).cam = s.cam ∧ (State.complete s a1 a2 a3 a4 a5 a6 a7 a8).crown = s.crown ∧
    (State.complete s a1 a2 a3 a4 a5 a6 a7 a8).granary = s.granary ∧
    (State.complete s a1 a2 a3 a4 a5 a6 a7 a8).outs = s.outs ∧ (State.complete s a1 a2 a3 a4 a5 a6 a7 a8).swin = s.swin ∧
    (State.complete s a1 a2 a3 a4 a5 a6 a7 a8).body = s.body ∧ (State.complete s a1 a2 a3 a4 a5 a6 a7 a8).fans = s.fans ∧
    (State.complete s a1 a2 a3 a4 a5 a6 a7 a8).plate = s.plate ∧ (State.complete s a1 a2 a3 a4 a5 a6 a7 a8).can = s.can ∧
    (State.complete s a1 a2 a3 a4 a5 a6 a7 a8).eth = s.eth ∧ (State.complete s a1 a2 a3 a4 a5 a6 a7 a8).nm = s.nm ∧
    (State.complete s a1 a2 a3 a4 a5 a6 a7 a8).root = s.root ∧ (State.complete s a1 a2 a3 a4 a5 a6 a7 a8).graft = s.graft ∧
    (State.complete s a1 a2 a3 a4 a5 a6 a7 a8).attic = s.attic ∧
    (State.complete s a1 a2 a3 a4 a5 a6 a7 a8).larder = s.larder ∧
    (State.complete s a1 a2 a3 a4 a5 a6 a7 a8).power = s.power ∧
    (State.complete s a1 a2 a3 a4 a5 a6 a7 a8).thermal = s.thermal ∧
    (State.complete s a1 a2 a3 a4 a5 a6 a7 a8).jtag = s.jtag ∧ (State.complete s a1 a2 a3 a4 a5 a6 a7 a8).kept = s.kept ∧
    (State.complete s a1 a2 a3 a4 a5 a6 a7 a8).keptDirty = s.keptDirty ∧
    (State.complete s a1 a2 a3 a4 a5 a6 a7 a8).keptAt = s.keptAt ∧ (State.complete s a1 a2 a3 a4 a5 a6 a7 a8).free = s.free ∧
    (State.complete s a1 a2 a3 a4 a5 a6 a7 a8).pending = s.pending ∧
    (∀ k, (State.complete s a1 a2 a3 a4 a5 a6 a7 a8).lossCh k = s.lossCh k) ∧
    (∀ k, (State.complete s a1 a2 a3 a4 a5 a6 a7 a8).bridgeCh k = s.bridgeCh k) ∧
    (∀ k, (State.complete s a1 a2 a3 a4 a5 a6 a7 a8).ainCh k = s.ainCh k) ∧
    (∀ k, (State.complete s a1 a2 a3 a4 a5 a6 a7 a8).freqCh k = s.freqCh k) ∧
    (∀ k, (State.complete s a1 a2 a3 a4 a5 a6 a7 a8).supCh k = s.supCh k) ∧
    (∀ k, (State.complete s a1 a2 a3 a4 a5 a6 a7 a8).canCh k = s.canCh k) ∧
    (∀ k, (State.complete s a1 a2 a3 a4 a5 a6 a7 a8).ethPort k = s.ethPort k) ∧
    (∀ k, (State.complete s a1 a2 a3 a4 a5 a6 a7 a8).net k = s.net k) ∧
    (∀ k, (State.complete s a1 a2 a3 a4 a5 a6 a7 a8).port k = s.port k) ∧
    (∀ k, (State.complete s a1 a2 a3 a4 a5 a6 a7 a8).lamp k = s.lamp k) ∧
    (∀ k, (State.complete s a1 a2 a3 a4 a5 a6 a7 a8).slot k = s.slot k) ∧
    (∀ k, (State.complete s a1 a2 a3 a4 a5 a6 a7 a8).crownUnit k = s.crownUnit k) ∧
    (∀ k, (State.complete s a1 a2 a3 a4 a5 a6 a7 a8).loop k = s.loop k) ∧
    (∀ k, (State.complete s a1 a2 a3 a4 a5 a6 a7 a8).trace k = s.trace k) ∧
    (∀ k, (State.complete s a1 a2 a3 a4 a5 a6 a7 a8).lidar k = s.lidar k) ∧
    (∀ k, (State.complete s a1 a2 a3 a4 a5 a6 a7 a8).ring k = s.ring k) ∧
    (∀ k, (State.complete s a1 a2 a3 a4 a5 a6 a7 a8).fan k = s.fan k) ∧
    (∀ k, (State.complete s a1 a2 a3 a4 a5 a6 a7 a8).out k = s.out k) ∧
    (∀ k, (State.complete s a1 a2 a3 a4 a5 a6 a7 a8).group k = s.group k) ∧
    (∀ k, (State.complete s a1 a2 a3 a4 a5 a6 a7 a8).hb k = s.hb k) ∧
    (∀ k, (State.complete s a1 a2 a3 a4 a5 a6 a7 a8).svc k = s.svc k) ∧
    (∀ k, (State.complete s a1 a2 a3 a4 a5 a6 a7 a8).valve' k = s.valve' k) ∧
    (∀ k, (State.complete s a1 a2 a3 a4 a5 a6 a7 a8).bank k = s.bank k) ∧
    (∀ k, (State.complete s a1 a2 a3 a4 a5 a6 a7 a8).boost k = s.boost k) ∧
    (∀ k, (State.complete s a1 a2 a3 a4 a5 a6 a7 a8).ant k = s.ant k) ∧
    (∀ k, (State.complete s a1 a2 a3 a4 a5 a6 a7 a8).lin k = s.lin k) ∧
    (∀ k, (State.complete s a1 a2 a3 a4 a5 a6 a7 a8).parkSlot k = s.parkSlot k) ∧
    (∀ k, (State.complete s a1 a2 a3 a4 a5 a6 a7 a8).stud k = s.stud k) ∧
    (∀ k, (State.complete s a1 a2 a3 a4 a5 a6 a7 a8).sensor k = s.sensor k) ∧
    (∀ k, (State.complete s a1 a2 a3 a4 a5 a6 a7 a8).link k = s.link k) ∧
    (∀ k, (State.complete s a1 a2 a3 a4 a5 a6 a7 a8).sw k = s.sw k) ∧ (State.complete s a1 a2 a3 a4 a5 a6 a7 a8).hw = s.hw ∧
    (State.complete s a1 a2 a3 a4 a5 a6 a7 a8).variant = s.variant ∧
    (State.complete s a1 a2 a3 a4 a5 a6 a7 a8).trunkOn = s.trunkOn ∧
    (State.complete s a1 a2 a3 a4 a5 a6 a7 a8).inRun = s.inRun ∧
    (State.complete s a1 a2 a3 a4 a5 a6 a7 a8).operating = s.operating ∧
    (State.complete s a1 a2 a3 a4 a5 a6 a7 a8).parked = s.parked ∧
    (∀ k, (State.complete s a1 a2 a3 a4 a5 a6 a7 a8).sig k = s.sig k) :=
  ⟨part_of_without (m := 2) (State.complete_frame _ _ _ _ _ _ _ _ _ rfl) rfl,
    time_of_without (m := 2) (State.complete_frame _ _ _ _ _ _ _ _ _ rfl) rfl,
    faults_of_without (m := 2) (State.complete_frame _ _ _ _ _ _ _ _ _ rfl) rfl,
    signals_of_without (m := 2) (State.complete_frame _ _ _ _ _ _ _ _ _ rfl) rfl,
    sensing_of_without (m := 2) (State.complete_frame _ _ _ _ _ _ _ _ _ rfl) rfl,
    ctrl_of_without (m := 2) (State.complete_frame _ _ _ _ _ _ _ _ _ rfl) rfl,
    valve_of_without (m := 2) (State.complete_frame _ _ _ _ _ _ _ _ _ rfl) rfl,
    gnss_of_without (m := 2) (State.complete_frame _ _ _ _ _ _ _ _ _ rfl) rfl,
    imu_of_without (m := 2) (State.complete_frame _ _ _ _ _ _ _ _ _ rfl) rfl,
    cam_of_without (m := 2) (State.complete_frame _ _ _ _ _ _ _ _ _ rfl) rfl,
    crown_of_without (m := 2) (State.complete_frame _ _ _ _ _ _ _ _ _ rfl) rfl,
    granary_of_without (m := 2) (State.complete_frame _ _ _ _ _ _ _ _ _ rfl) rfl,
    outs_of_without (m := 2) (State.complete_frame _ _ _ _ _ _ _ _ _ rfl) rfl,
    swin_of_without (m := 2) (State.complete_frame _ _ _ _ _ _ _ _ _ rfl) rfl,
    body_of_without (m := 2) (State.complete_frame _ _ _ _ _ _ _ _ _ rfl) rfl,
    fans_of_without (m := 2) (State.complete_frame _ _ _ _ _ _ _ _ _ rfl) rfl,
    plate_of_without (m := 2) (State.complete_frame _ _ _ _ _ _ _ _ _ rfl) rfl,
    can_of_without (m := 2) (State.complete_frame _ _ _ _ _ _ _ _ _ rfl) rfl,
    eth_of_without (m := 2) (State.complete_frame _ _ _ _ _ _ _ _ _ rfl) rfl,
    nm_of_without (m := 2) (State.complete_frame _ _ _ _ _ _ _ _ _ rfl) rfl,
    root_of_without (m := 2) (State.complete_frame _ _ _ _ _ _ _ _ _ rfl) rfl,
    graft_of_without (m := 2) (State.complete_frame _ _ _ _ _ _ _ _ _ rfl) rfl,
    attic_of_without (m := 2) (State.complete_frame _ _ _ _ _ _ _ _ _ rfl) rfl,
    larder_of_without (m := 2) (State.complete_frame _ _ _ _ _ _ _ _ _ rfl) rfl,
    power_of_without (m := 2) (State.complete_frame _ _ _ _ _ _ _ _ _ rfl) rfl,
    thermal_of_without (m := 2) (State.complete_frame _ _ _ _ _ _ _ _ _ rfl) rfl,
    jtag_of_without (m := 2) (State.complete_frame _ _ _ _ _ _ _ _ _ rfl) rfl,
    kept_of_without (m := 2) (State.complete_frame _ _ _ _ _ _ _ _ _ rfl) rfl,
    keptDirty_of_without (m := 2) (State.complete_frame _ _ _ _ _ _ _ _ _ rfl) rfl,
    keptAt_of_without (m := 2) (State.complete_frame _ _ _ _ _ _ _ _ _ rfl) rfl,
    free_of_without (m := 2) (State.complete_frame _ _ _ _ _ _ _ _ _ rfl) rfl,
    pending_of_without (m := 2) (State.complete_frame _ _ _ _ _ _ _ _ _ rfl) rfl,
    (fun k => by unfold State.lossCh; rw [sensing_of_without (m := 2) (State.complete_frame _ _ _ _ _ _ _ _ _ rfl) rfl]),
    (fun k => by unfold State.bridgeCh; rw [sensing_of_without (m := 2) (State.complete_frame _ _ _ _ _ _ _ _ _ rfl) rfl]),
    (fun k => by unfold State.ainCh; rw [sensing_of_without (m := 2) (State.complete_frame _ _ _ _ _ _ _ _ _ rfl) rfl]),
    (fun k => by unfold State.freqCh; rw [sensing_of_without (m := 2) (State.complete_frame _ _ _ _ _ _ _ _ _ rfl) rfl]),
    (fun k => by unfold State.supCh; rw [sensing_of_without (m := 2) (State.complete_frame _ _ _ _ _ _ _ _ _ rfl) rfl]),
    (fun k => by unfold State.canCh; rw [can_of_without (m := 2) (State.complete_frame _ _ _ _ _ _ _ _ _ rfl) rfl]),
    (fun k => by unfold State.ethPort; rw [eth_of_without (m := 2) (State.complete_frame _ _ _ _ _ _ _ _ _ rfl) rfl]),
    (fun k => by unfold State.net; rw [nm_of_without (m := 2) (State.complete_frame _ _ _ _ _ _ _ _ _ rfl) rfl]),
    (fun k => by unfold State.port; rw [cam_of_without (m := 2) (State.complete_frame _ _ _ _ _ _ _ _ _ rfl) rfl]),
    (fun k => by unfold State.lamp; rw [cam_of_without (m := 2) (State.complete_frame _ _ _ _ _ _ _ _ _ rfl) rfl]),
    (fun k => by unfold State.slot; rw [crown_of_without (m := 2) (State.complete_frame _ _ _ _ _ _ _ _ _ rfl) rfl]),
    (fun k => by unfold State.crownUnit; rw [crown_of_without (m := 2) (State.complete_frame _ _ _ _ _ _ _ _ _ rfl) rfl]),
    (fun k => by unfold State.loop; rw [ctrl_of_without (m := 2) (State.complete_frame _ _ _ _ _ _ _ _ _ rfl) rfl]),
    (fun k => by unfold State.trace; rw [ctrl_of_without (m := 2) (State.complete_frame _ _ _ _ _ _ _ _ _ rfl) rfl]),
    (fun k => by unfold State.lidar; rw [eth_of_without (m := 2) (State.complete_frame _ _ _ _ _ _ _ _ _ rfl) rfl]),
    (fun k => by unfold State.ring; rw [eth_of_without (m := 2) (State.complete_frame _ _ _ _ _ _ _ _ _ rfl) rfl]),
    (fun k => by unfold State.fan; rw [fans_of_without (m := 2) (State.complete_frame _ _ _ _ _ _ _ _ _ rfl) rfl]),
    (fun k => by unfold State.out; rw [outs_of_without (m := 2) (State.complete_frame _ _ _ _ _ _ _ _ _ rfl) rfl]),
    (fun k => by unfold State.group; rw [outs_of_without (m := 2) (State.complete_frame _ _ _ _ _ _ _ _ _ rfl) rfl]),
    (fun k => by unfold State.hb; rw [outs_of_without (m := 2) (State.complete_frame _ _ _ _ _ _ _ _ _ rfl) rfl]),
    (fun k => by unfold State.svc; rw [body_of_without (m := 2) (State.complete_frame _ _ _ _ _ _ _ _ _ rfl) rfl]),
    (fun k => by unfold State.valve'; rw [valve_of_without (m := 2) (State.complete_frame _ _ _ _ _ _ _ _ _ rfl) rfl]),
    (fun k => by unfold State.bank; rw [valve_of_without (m := 2) (State.complete_frame _ _ _ _ _ _ _ _ _ rfl) rfl]),
    (fun k => by unfold State.boost; rw [valve_of_without (m := 2) (State.complete_frame _ _ _ _ _ _ _ _ _ rfl) rfl]),
    (fun k => by unfold State.ant; rw [gnss_of_without (m := 2) (State.complete_frame _ _ _ _ _ _ _ _ _ rfl) rfl]),
    (fun k => by unfold State.lin; rw [body_of_without (m := 2) (State.complete_frame _ _ _ _ _ _ _ _ _ rfl) rfl]),
    (fun k => by unfold State.parkSlot; rw [outs_of_without (m := 2) (State.complete_frame _ _ _ _ _ _ _ _ _ rfl) rfl]),
    (fun k => by unfold State.stud; rw [power_of_without (m := 2) (State.complete_frame _ _ _ _ _ _ _ _ _ rfl) rfl]),
    (fun k => by unfold State.sensor; rw [thermal_of_without (m := 2) (State.complete_frame _ _ _ _ _ _ _ _ _ rfl) rfl]),
    (fun k => by unfold State.link; rw [root_of_without (m := 2) (State.complete_frame _ _ _ _ _ _ _ _ _ rfl) rfl]),
    (fun k => by unfold State.sw; rw [swin_of_without (m := 2) (State.complete_frame _ _ _ _ _ _ _ _ _ rfl) rfl]),
    (by unfold State.hw; rw [time_of_without (m := 2) (State.complete_frame _ _ _ _ _ _ _ _ _ rfl) rfl]),
    (by unfold State.variant; rw [part_of_without (m := 2) (State.complete_frame _ _ _ _ _ _ _ _ _ rfl) rfl]),
    (by unfold State.trunkOn; rw [power_of_without (m := 2) (State.complete_frame _ _ _ _ _ _ _ _ _ rfl) rfl]),
    (by unfold State.inRun; rw [power_of_without (m := 2) (State.complete_frame _ _ _ _ _ _ _ _ _ rfl) rfl]),
    (by unfold State.operating; rw [power_of_without (m := 2) (State.complete_frame _ _ _ _ _ _ _ _ _ rfl) rfl]),
    (by unfold State.parked; rw [power_of_without (m := 2) (State.complete_frame _ _ _ _ _ _ _ _ _ rfl) rfl]),
    (fun k => by unfold State.sig; rw [signals_of_without (m := 2) (State.complete_frame _ _ _ _ _ _ _ _ _ rfl) rfl])⟩
/-- What `State.raiseEv` leaves as it is. -/
@[simp] theorem State.raiseEv_leaves (s) (a1) (a2) (a3) (a4) (a5) (a6) (a7) (a8) (a9) :
    (State.raiseEv s a1 a2 a3 a4 a5 a6 a7 a8 a9).part = s.part ∧ (State.raiseEv s a1 a2 a3 a4 a5 a6 a7 a8 a9).time = s.time ∧
    (State.raiseEv s a1 a2 a3 a4 a5 a6 a7 a8 a9).signals = s.signals ∧
    (State.raiseEv s a1 a2 a3 a4 a5 a6 a7 a8 a9).sensing = s.sensing ∧
    (State.raiseEv s a1 a2 a3 a4 a5 a6 a7 a8 a9).ctrl = s.ctrl ∧
    (State.raiseEv s a1 a2 a3 a4 a5 a6 a7 a8 a9).valve = s.valve ∧
    (State.raiseEv s a1 a2 a3 a4 a5 a6 a7 a8 a9).gnss = s.gnss ∧ (State.raiseEv s a1 a2 a3 a4 a5 a6 a7 a8 a9).imu = s.imu ∧
    (State.raiseEv s a1 a2 a3 a4 a5 a6 a7 a8 a9).cam = s.cam ∧ (State.raiseEv s a1 a2 a3 a4 a5 a6 a7 a8 a9).crown = s.crown ∧
    (State.raiseEv s a1 a2 a3 a4 a5 a6 a7 a8 a9).granary = s.granary ∧
    (State.raiseEv s a1 a2 a3 a4 a5 a6 a7 a8 a9).outs = s.outs ∧ (State.raiseEv s a1 a2 a3 a4 a5 a6 a7 a8 a9).swin = s.swin ∧
    (State.raiseEv s a1 a2 a3 a4 a5 a6 a7 a8 a9).body = s.body ∧ (State.raiseEv s a1 a2 a3 a4 a5 a6 a7 a8 a9).fans = s.fans ∧
    (State.raiseEv s a1 a2 a3 a4 a5 a6 a7 a8 a9).plate = s.plate ∧ (State.raiseEv s a1 a2 a3 a4 a5 a6 a7 a8 a9).can = s.can ∧
    (State.raiseEv s a1 a2 a3 a4 a5 a6 a7 a8 a9).eth = s.eth ∧ (State.raiseEv s a1 a2 a3 a4 a5 a6 a7 a8 a9).nm = s.nm ∧
    (State.raiseEv s a1 a2 a3 a4 a5 a6 a7 a8 a9).graft = s.graft ∧
    (State.raiseEv s a1 a2 a3 a4 a5 a6 a7 a8 a9).attic = s.attic ∧
    (State.raiseEv s a1 a2 a3 a4 a5 a6 a7 a8 a9).power = s.power ∧
    (State.raiseEv s a1 a2 a3 a4 a5 a6 a7 a8 a9).thermal = s.thermal ∧
    (State.raiseEv s a1 a2 a3 a4 a5 a6 a7 a8 a9).jtag = s.jtag ∧ (State.raiseEv s a1 a2 a3 a4 a5 a6 a7 a8 a9).kept = s.kept ∧
    (State.raiseEv s a1 a2 a3 a4 a5 a6 a7 a8 a9).keptDirty = s.keptDirty ∧
    (State.raiseEv s a1 a2 a3 a4 a5 a6 a7 a8 a9).keptAt = s.keptAt ∧
    (State.raiseEv s a1 a2 a3 a4 a5 a6 a7 a8 a9).free = s.free ∧
    (State.raiseEv s a1 a2 a3 a4 a5 a6 a7 a8 a9).pending = s.pending ∧
    (∀ k, (State.raiseEv s a1 a2 a3 a4 a5 a6 a7 a8 a9).lossCh k = s.lossCh k) ∧
    (∀ k, (State.raiseEv s a1 a2 a3 a4 a5 a6 a7 a8 a9).bridgeCh k = s.bridgeCh k) ∧
    (∀ k, (State.raiseEv s a1 a2 a3 a4 a5 a6 a7 a8 a9).ainCh k = s.ainCh k) ∧
    (∀ k, (State.raiseEv s a1 a2 a3 a4 a5 a6 a7 a8 a9).freqCh k = s.freqCh k) ∧
    (∀ k, (State.raiseEv s a1 a2 a3 a4 a5 a6 a7 a8 a9).supCh k = s.supCh k) ∧
    (∀ k, (State.raiseEv s a1 a2 a3 a4 a5 a6 a7 a8 a9).canCh k = s.canCh k) ∧
    (∀ k, (State.raiseEv s a1 a2 a3 a4 a5 a6 a7 a8 a9).ethPort k = s.ethPort k) ∧
    (∀ k, (State.raiseEv s a1 a2 a3 a4 a5 a6 a7 a8 a9).net k = s.net k) ∧
    (∀ k, (State.raiseEv s a1 a2 a3 a4 a5 a6 a7 a8 a9).port k = s.port k) ∧
    (∀ k, (State.raiseEv s a1 a2 a3 a4 a5 a6 a7 a8 a9).lamp k = s.lamp k) ∧
    (∀ k, (State.raiseEv s a1 a2 a3 a4 a5 a6 a7 a8 a9).slot k = s.slot k) ∧
    (∀ k, (State.raiseEv s a1 a2 a3 a4 a5 a6 a7 a8 a9).crownUnit k = s.crownUnit k) ∧
    (∀ k, (State.raiseEv s a1 a2 a3 a4 a5 a6 a7 a8 a9).loop k = s.loop k) ∧
    (∀ k, (State.raiseEv s a1 a2 a3 a4 a5 a6 a7 a8 a9).trace k = s.trace k) ∧
    (∀ k, (State.raiseEv s a1 a2 a3 a4 a5 a6 a7 a8 a9).lidar k = s.lidar k) ∧
    (∀ k, (State.raiseEv s a1 a2 a3 a4 a5 a6 a7 a8 a9).ring k = s.ring k) ∧
    (∀ k, (State.raiseEv s a1 a2 a3 a4 a5 a6 a7 a8 a9).fan k = s.fan k) ∧
    (∀ k, (State.raiseEv s a1 a2 a3 a4 a5 a6 a7 a8 a9).out k = s.out k) ∧
    (∀ k, (State.raiseEv s a1 a2 a3 a4 a5 a6 a7 a8 a9).group k = s.group k) ∧
    (∀ k, (State.raiseEv s a1 a2 a3 a4 a5 a6 a7 a8 a9).hb k = s.hb k) ∧
    (∀ k, (State.raiseEv s a1 a2 a3 a4 a5 a6 a7 a8 a9).svc k = s.svc k) ∧
    (∀ k, (State.raiseEv s a1 a2 a3 a4 a5 a6 a7 a8 a9).valve' k = s.valve' k) ∧
    (∀ k, (State.raiseEv s a1 a2 a3 a4 a5 a6 a7 a8 a9).bank k = s.bank k) ∧
    (∀ k, (State.raiseEv s a1 a2 a3 a4 a5 a6 a7 a8 a9).boost k = s.boost k) ∧
    (∀ k, (State.raiseEv s a1 a2 a3 a4 a5 a6 a7 a8 a9).ant k = s.ant k) ∧
    (∀ k, (State.raiseEv s a1 a2 a3 a4 a5 a6 a7 a8 a9).lin k = s.lin k) ∧
    (∀ k, (State.raiseEv s a1 a2 a3 a4 a5 a6 a7 a8 a9).parkSlot k = s.parkSlot k) ∧
    (∀ k, (State.raiseEv s a1 a2 a3 a4 a5 a6 a7 a8 a9).stud k = s.stud k) ∧
    (∀ k, (State.raiseEv s a1 a2 a3 a4 a5 a6 a7 a8 a9).sensor k = s.sensor k) ∧
    (∀ k, (State.raiseEv s a1 a2 a3 a4 a5 a6 a7 a8 a9).sw k = s.sw k) ∧
    (State.raiseEv s a1 a2 a3 a4 a5 a6 a7 a8 a9).hw = s.hw ∧
    (State.raiseEv s a1 a2 a3 a4 a5 a6 a7 a8 a9).variant = s.variant ∧
    (State.raiseEv s a1 a2 a3 a4 a5 a6 a7 a8 a9).trunkOn = s.trunkOn ∧
    (State.raiseEv s a1 a2 a3 a4 a5 a6 a7 a8 a9).inRun = s.inRun ∧
    (State.raiseEv s a1 a2 a3 a4 a5 a6 a7 a8 a9).operating = s.operating ∧
    (State.raiseEv s a1 a2 a3 a4 a5 a6 a7 a8 a9).parked = s.parked ∧
    (∀ k, (State.raiseEv s a1 a2 a3 a4 a5 a6 a7 a8 a9).sig k = s.sig k) :=
  ⟨part_of_without (m := 18874378) (State.raiseEv_frame _ _ _ _ _ _ _ _ _ _ rfl) rfl,
    time_of_without (m := 18874378) (State.raiseEv_frame _ _ _ _ _ _ _ _ _ _ rfl) rfl,
    signals_of_without (m := 18874378) (State.raiseEv_frame _ _ _ _ _ _ _ _ _ _ rfl) rfl,
    sensing_of_without (m := 18874378) (State.raiseEv_frame _ _ _ _ _ _ _ _ _ _ rfl) rfl,
    ctrl_of_without (m := 18874378) (State.raiseEv_frame _ _ _ _ _ _ _ _ _ _ rfl) rfl,
    valve_of_without (m := 18874378) (State.raiseEv_frame _ _ _ _ _ _ _ _ _ _ rfl) rfl,
    gnss_of_without (m := 18874378) (State.raiseEv_frame _ _ _ _ _ _ _ _ _ _ rfl) rfl,
    imu_of_without (m := 18874378) (State.raiseEv_frame _ _ _ _ _ _ _ _ _ _ rfl) rfl,
    cam_of_without (m := 18874378) (State.raiseEv_frame _ _ _ _ _ _ _ _ _ _ rfl) rfl,
    crown_of_without (m := 18874378) (State.raiseEv_frame _ _ _ _ _ _ _ _ _ _ rfl) rfl,
    granary_of_without (m := 18874378) (State.raiseEv_frame _ _ _ _ _ _ _ _ _ _ rfl) rfl,
    outs_of_without (m := 18874378) (State.raiseEv_frame _ _ _ _ _ _ _ _ _ _ rfl) rfl,
    swin_of_without (m := 18874378) (State.raiseEv_frame _ _ _ _ _ _ _ _ _ _ rfl) rfl,
    body_of_without (m := 18874378) (State.raiseEv_frame _ _ _ _ _ _ _ _ _ _ rfl) rfl,
    fans_of_without (m := 18874378) (State.raiseEv_frame _ _ _ _ _ _ _ _ _ _ rfl) rfl,
    plate_of_without (m := 18874378) (State.raiseEv_frame _ _ _ _ _ _ _ _ _ _ rfl) rfl,
    can_of_without (m := 18874378) (State.raiseEv_frame _ _ _ _ _ _ _ _ _ _ rfl) rfl,
    eth_of_without (m := 18874378) (State.raiseEv_frame _ _ _ _ _ _ _ _ _ _ rfl) rfl,
    nm_of_without (m := 18874378) (State.raiseEv_frame _ _ _ _ _ _ _ _ _ _ rfl) rfl,
    graft_of_without (m := 18874378) (State.raiseEv_frame _ _ _ _ _ _ _ _ _ _ rfl) rfl,
    attic_of_without (m := 18874378) (State.raiseEv_frame _ _ _ _ _ _ _ _ _ _ rfl) rfl,
    power_of_without (m := 18874378) (State.raiseEv_frame _ _ _ _ _ _ _ _ _ _ rfl) rfl,
    thermal_of_without (m := 18874378) (State.raiseEv_frame _ _ _ _ _ _ _ _ _ _ rfl) rfl,
    jtag_of_without (m := 18874378) (State.raiseEv_frame _ _ _ _ _ _ _ _ _ _ rfl) rfl,
    kept_of_without (m := 18874378) (State.raiseEv_frame _ _ _ _ _ _ _ _ _ _ rfl) rfl,
    keptDirty_of_without (m := 18874378) (State.raiseEv_frame _ _ _ _ _ _ _ _ _ _ rfl) rfl,
    keptAt_of_without (m := 18874378) (State.raiseEv_frame _ _ _ _ _ _ _ _ _ _ rfl) rfl,
    free_of_without (m := 18874378) (State.raiseEv_frame _ _ _ _ _ _ _ _ _ _ rfl) rfl,
    pending_of_without (m := 18874378) (State.raiseEv_frame _ _ _ _ _ _ _ _ _ _ rfl) rfl,
    (fun k => by unfold State.lossCh; rw [sensing_of_without (m := 18874378) (State.raiseEv_frame _ _ _ _ _ _ _ _ _ _ rfl) rfl]),
    (fun k => by unfold State.bridgeCh; rw [sensing_of_without (m := 18874378) (State.raiseEv_frame _ _ _ _ _ _ _ _ _ _ rfl) rfl]),
    (fun k => by unfold State.ainCh; rw [sensing_of_without (m := 18874378) (State.raiseEv_frame _ _ _ _ _ _ _ _ _ _ rfl) rfl]),
    (fun k => by unfold State.freqCh; rw [sensing_of_without (m := 18874378) (State.raiseEv_frame _ _ _ _ _ _ _ _ _ _ rfl) rfl]),
    (fun k => by unfold State.supCh; rw [sensing_of_without (m := 18874378) (State.raiseEv_frame _ _ _ _ _ _ _ _ _ _ rfl) rfl]),
    (fun k => by unfold State.canCh; rw [can_of_without (m := 18874378) (State.raiseEv_frame _ _ _ _ _ _ _ _ _ _ rfl) rfl]),
    (fun k => by unfold State.ethPort; rw [eth_of_without (m := 18874378) (State.raiseEv_frame _ _ _ _ _ _ _ _ _ _ rfl) rfl]),
    (fun k => by unfold State.net; rw [nm_of_without (m := 18874378) (State.raiseEv_frame _ _ _ _ _ _ _ _ _ _ rfl) rfl]),
    (fun k => by unfold State.port; rw [cam_of_without (m := 18874378) (State.raiseEv_frame _ _ _ _ _ _ _ _ _ _ rfl) rfl]),
    (fun k => by unfold State.lamp; rw [cam_of_without (m := 18874378) (State.raiseEv_frame _ _ _ _ _ _ _ _ _ _ rfl) rfl]),
    (fun k => by unfold State.slot; rw [crown_of_without (m := 18874378) (State.raiseEv_frame _ _ _ _ _ _ _ _ _ _ rfl) rfl]),
    (fun k => by unfold State.crownUnit; rw [crown_of_without (m := 18874378) (State.raiseEv_frame _ _ _ _ _ _ _ _ _ _ rfl) rfl]),
    (fun k => by unfold State.loop; rw [ctrl_of_without (m := 18874378) (State.raiseEv_frame _ _ _ _ _ _ _ _ _ _ rfl) rfl]),
    (fun k => by unfold State.trace; rw [ctrl_of_without (m := 18874378) (State.raiseEv_frame _ _ _ _ _ _ _ _ _ _ rfl) rfl]),
    (fun k => by unfold State.lidar; rw [eth_of_without (m := 18874378) (State.raiseEv_frame _ _ _ _ _ _ _ _ _ _ rfl) rfl]),
    (fun k => by unfold State.ring; rw [eth_of_without (m := 18874378) (State.raiseEv_frame _ _ _ _ _ _ _ _ _ _ rfl) rfl]),
    (fun k => by unfold State.fan; rw [fans_of_without (m := 18874378) (State.raiseEv_frame _ _ _ _ _ _ _ _ _ _ rfl) rfl]),
    (fun k => by unfold State.out; rw [outs_of_without (m := 18874378) (State.raiseEv_frame _ _ _ _ _ _ _ _ _ _ rfl) rfl]),
    (fun k => by unfold State.group; rw [outs_of_without (m := 18874378) (State.raiseEv_frame _ _ _ _ _ _ _ _ _ _ rfl) rfl]),
    (fun k => by unfold State.hb; rw [outs_of_without (m := 18874378) (State.raiseEv_frame _ _ _ _ _ _ _ _ _ _ rfl) rfl]),
    (fun k => by unfold State.svc; rw [body_of_without (m := 18874378) (State.raiseEv_frame _ _ _ _ _ _ _ _ _ _ rfl) rfl]),
    (fun k => by unfold State.valve'; rw [valve_of_without (m := 18874378) (State.raiseEv_frame _ _ _ _ _ _ _ _ _ _ rfl) rfl]),
    (fun k => by unfold State.bank; rw [valve_of_without (m := 18874378) (State.raiseEv_frame _ _ _ _ _ _ _ _ _ _ rfl) rfl]),
    (fun k => by unfold State.boost; rw [valve_of_without (m := 18874378) (State.raiseEv_frame _ _ _ _ _ _ _ _ _ _ rfl) rfl]),
    (fun k => by unfold State.ant; rw [gnss_of_without (m := 18874378) (State.raiseEv_frame _ _ _ _ _ _ _ _ _ _ rfl) rfl]),
    (fun k => by unfold State.lin; rw [body_of_without (m := 18874378) (State.raiseEv_frame _ _ _ _ _ _ _ _ _ _ rfl) rfl]),
    (fun k => by unfold State.parkSlot; rw [outs_of_without (m := 18874378) (State.raiseEv_frame _ _ _ _ _ _ _ _ _ _ rfl) rfl]),
    (fun k => by unfold State.stud; rw [power_of_without (m := 18874378) (State.raiseEv_frame _ _ _ _ _ _ _ _ _ _ rfl) rfl]),
    (fun k => by unfold State.sensor; rw [thermal_of_without (m := 18874378) (State.raiseEv_frame _ _ _ _ _ _ _ _ _ _ rfl) rfl]),
    (fun k => by unfold State.sw; rw [swin_of_without (m := 18874378) (State.raiseEv_frame _ _ _ _ _ _ _ _ _ _ rfl) rfl]),
    (by unfold State.hw; rw [time_of_without (m := 18874378) (State.raiseEv_frame _ _ _ _ _ _ _ _ _ _ rfl) rfl]),
    (by unfold State.variant; rw [part_of_without (m := 18874378) (State.raiseEv_frame _ _ _ _ _ _ _ _ _ _ rfl) rfl]),
    (by unfold State.trunkOn; rw [power_of_without (m := 18874378) (State.raiseEv_frame _ _ _ _ _ _ _ _ _ _ rfl) rfl]),
    (by unfold State.inRun; rw [power_of_without (m := 18874378) (State.raiseEv_frame _ _ _ _ _ _ _ _ _ _ rfl) rfl]),
    (by unfold State.operating; rw [power_of_without (m := 18874378) (State.raiseEv_frame _ _ _ _ _ _ _ _ _ _ rfl) rfl]),
    (by unfold State.parked; rw [power_of_without (m := 18874378) (State.raiseEv_frame _ _ _ _ _ _ _ _ _ _ rfl) rfl]),
    (fun k => by unfold State.sig; rw [signals_of_without (m := 18874378) (State.raiseEv_frame _ _ _ _ _ _ _ _ _ _ rfl) rfl])⟩
/-- What `State.clearFault` leaves as it is. -/
@[simp] theorem State.clearFault_leaves (s) (a1) (a2) (a3) :
    (State.clearFault s a1 a2 a3).part = s.part ∧ (State.clearFault s a1 a2 a3).time = s.time ∧
    (State.clearFault s a1 a2 a3).signals = s.signals ∧ (State.clearFault s a1 a2 a3).sensing = s.sensing ∧
    (State.clearFault s a1 a2 a3).ctrl = s.ctrl ∧ (State.clearFault s a1 a2 a3).valve = s.valve ∧
    (State.clearFault s a1 a2 a3).gnss = s.gnss ∧ (State.clearFault s a1 a2 a3).imu = s.imu ∧
    (State.clearFault s a1 a2 a3).cam = s.cam ∧ (State.clearFault s a1 a2 a3).crown = s.crown ∧
    (State.clearFault s a1 a2 a3).granary = s.granary ∧ (State.clearFault s a1 a2 a3).outs = s.outs ∧
    (State.clearFault s a1 a2 a3).swin = s.swin ∧ (State.clearFault s a1 a2 a3).body = s.body ∧
    (State.clearFault s a1 a2 a3).fans = s.fans ∧ (State.clearFault s a1 a2 a3).plate = s.plate ∧
    (State.clearFault s a1 a2 a3).can = s.can ∧ (State.clearFault s a1 a2 a3).eth = s.eth ∧
    (State.clearFault s a1 a2 a3).nm = s.nm ∧ (State.clearFault s a1 a2 a3).root = s.root ∧
    (State.clearFault s a1 a2 a3).graft = s.graft ∧ (State.clearFault s a1 a2 a3).attic = s.attic ∧
    (State.clearFault s a1 a2 a3).larder = s.larder ∧ (State.clearFault s a1 a2 a3).power = s.power ∧
    (State.clearFault s a1 a2 a3).thermal = s.thermal ∧ (State.clearFault s a1 a2 a3).jtag = s.jtag ∧
    (State.clearFault s a1 a2 a3).kept = s.kept ∧ (State.clearFault s a1 a2 a3).keptDirty = s.keptDirty ∧
    (State.clearFault s a1 a2 a3).keptAt = s.keptAt ∧ (State.clearFault s a1 a2 a3).free = s.free ∧
    (State.clearFault s a1 a2 a3).pending = s.pending ∧ (∀ k, (State.clearFault s a1 a2 a3).lossCh k = s.lossCh k) ∧
    (∀ k, (State.clearFault s a1 a2 a3).bridgeCh k = s.bridgeCh k) ∧
    (∀ k, (State.clearFault s a1 a2 a3).ainCh k = s.ainCh k) ∧ (∀ k, (State.clearFault s a1 a2 a3).freqCh k = s.freqCh k) ∧
    (∀ k, (State.clearFault s a1 a2 a3).supCh k = s.supCh k) ∧ (∀ k, (State.clearFault s a1 a2 a3).canCh k = s.canCh k) ∧
    (∀ k, (State.clearFault s a1 a2 a3).ethPort k = s.ethPort k) ∧ (∀ k, (State.clearFault s a1 a2 a3).net k = s.net k) ∧
    (∀ k, (State.clearFault s a1 a2 a3).port k = s.port k) ∧ (∀ k, (State.clearFault s a1 a2 a3).lamp k = s.lamp k) ∧
    (∀ k, (State.clearFault s a1 a2 a3).slot k = s.slot k) ∧
    (∀ k, (State.clearFault s a1 a2 a3).crownUnit k = s.crownUnit k) ∧
    (∀ k, (State.clearFault s a1 a2 a3).loop k = s.loop k) ∧ (∀ k, (State.clearFault s a1 a2 a3).trace k = s.trace k) ∧
    (∀ k, (State.clearFault s a1 a2 a3).lidar k = s.lidar k) ∧ (∀ k, (State.clearFault s a1 a2 a3).ring k = s.ring k) ∧
    (∀ k, (State.clearFault s a1 a2 a3).fan k = s.fan k) ∧ (∀ k, (State.clearFault s a1 a2 a3).out k = s.out k) ∧
    (∀ k, (State.clearFault s a1 a2 a3).group k = s.group k) ∧ (∀ k, (State.clearFault s a1 a2 a3).hb k = s.hb k) ∧
    (∀ k, (State.clearFault s a1 a2 a3).svc k = s.svc k) ∧ (∀ k, (State.clearFault s a1 a2 a3).valve' k = s.valve' k) ∧
    (∀ k, (State.clearFault s a1 a2 a3).bank k = s.bank k) ∧ (∀ k, (State.clearFault s a1 a2 a3).boost k = s.boost k) ∧
    (∀ k, (State.clearFault s a1 a2 a3).ant k = s.ant k) ∧ (∀ k, (State.clearFault s a1 a2 a3).lin k = s.lin k) ∧
    (∀ k, (State.clearFault s a1 a2 a3).parkSlot k = s.parkSlot k) ∧ (∀ k, (State.clearFault s a1 a2 a3).stud k = s.stud k) ∧
    (∀ k, (State.clearFault s a1 a2 a3).sensor k = s.sensor k) ∧ (∀ k, (State.clearFault s a1 a2 a3).link k = s.link k) ∧
    (∀ k, (State.clearFault s a1 a2 a3).sw k = s.sw k) ∧ (State.clearFault s a1 a2 a3).hw = s.hw ∧
    (State.clearFault s a1 a2 a3).variant = s.variant ∧ (State.clearFault s a1 a2 a3).trunkOn = s.trunkOn ∧
    (State.clearFault s a1 a2 a3).inRun = s.inRun ∧ (State.clearFault s a1 a2 a3).operating = s.operating ∧
    (State.clearFault s a1 a2 a3).parked = s.parked ∧ (∀ k, (State.clearFault s a1 a2 a3).sig k = s.sig k) :=
  ⟨part_of_without (m := 10) (State.clearFault_frame _ _ _ _ rfl) rfl,
    time_of_without (m := 10) (State.clearFault_frame _ _ _ _ rfl) rfl,
    signals_of_without (m := 10) (State.clearFault_frame _ _ _ _ rfl) rfl,
    sensing_of_without (m := 10) (State.clearFault_frame _ _ _ _ rfl) rfl,
    ctrl_of_without (m := 10) (State.clearFault_frame _ _ _ _ rfl) rfl,
    valve_of_without (m := 10) (State.clearFault_frame _ _ _ _ rfl) rfl,
    gnss_of_without (m := 10) (State.clearFault_frame _ _ _ _ rfl) rfl,
    imu_of_without (m := 10) (State.clearFault_frame _ _ _ _ rfl) rfl,
    cam_of_without (m := 10) (State.clearFault_frame _ _ _ _ rfl) rfl,
    crown_of_without (m := 10) (State.clearFault_frame _ _ _ _ rfl) rfl,
    granary_of_without (m := 10) (State.clearFault_frame _ _ _ _ rfl) rfl,
    outs_of_without (m := 10) (State.clearFault_frame _ _ _ _ rfl) rfl,
    swin_of_without (m := 10) (State.clearFault_frame _ _ _ _ rfl) rfl,
    body_of_without (m := 10) (State.clearFault_frame _ _ _ _ rfl) rfl,
    fans_of_without (m := 10) (State.clearFault_frame _ _ _ _ rfl) rfl,
    plate_of_without (m := 10) (State.clearFault_frame _ _ _ _ rfl) rfl,
    can_of_without (m := 10) (State.clearFault_frame _ _ _ _ rfl) rfl,
    eth_of_without (m := 10) (State.clearFault_frame _ _ _ _ rfl) rfl,
    nm_of_without (m := 10) (State.clearFault_frame _ _ _ _ rfl) rfl,
    root_of_without (m := 10) (State.clearFault_frame _ _ _ _ rfl) rfl,
    graft_of_without (m := 10) (State.clearFault_frame _ _ _ _ rfl) rfl,
    attic_of_without (m := 10) (State.clearFault_frame _ _ _ _ rfl) rfl,
    larder_of_without (m := 10) (State.clearFault_frame _ _ _ _ rfl) rfl,
    power_of_without (m := 10) (State.clearFault_frame _ _ _ _ rfl) rfl,
    thermal_of_without (m := 10) (State.clearFault_frame _ _ _ _ rfl) rfl,
    jtag_of_without (m := 10) (State.clearFault_frame _ _ _ _ rfl) rfl,
    kept_of_without (m := 10) (State.clearFault_frame _ _ _ _ rfl) rfl,
    keptDirty_of_without (m := 10) (State.clearFault_frame _ _ _ _ rfl) rfl,
    keptAt_of_without (m := 10) (State.clearFault_frame _ _ _ _ rfl) rfl,
    free_of_without (m := 10) (State.clearFault_frame _ _ _ _ rfl) rfl,
    pending_of_without (m := 10) (State.clearFault_frame _ _ _ _ rfl) rfl,
    (fun k => by unfold State.lossCh; rw [sensing_of_without (m := 10) (State.clearFault_frame _ _ _ _ rfl) rfl]),
    (fun k => by unfold State.bridgeCh; rw [sensing_of_without (m := 10) (State.clearFault_frame _ _ _ _ rfl) rfl]),
    (fun k => by unfold State.ainCh; rw [sensing_of_without (m := 10) (State.clearFault_frame _ _ _ _ rfl) rfl]),
    (fun k => by unfold State.freqCh; rw [sensing_of_without (m := 10) (State.clearFault_frame _ _ _ _ rfl) rfl]),
    (fun k => by unfold State.supCh; rw [sensing_of_without (m := 10) (State.clearFault_frame _ _ _ _ rfl) rfl]),
    (fun k => by unfold State.canCh; rw [can_of_without (m := 10) (State.clearFault_frame _ _ _ _ rfl) rfl]),
    (fun k => by unfold State.ethPort; rw [eth_of_without (m := 10) (State.clearFault_frame _ _ _ _ rfl) rfl]),
    (fun k => by unfold State.net; rw [nm_of_without (m := 10) (State.clearFault_frame _ _ _ _ rfl) rfl]),
    (fun k => by unfold State.port; rw [cam_of_without (m := 10) (State.clearFault_frame _ _ _ _ rfl) rfl]),
    (fun k => by unfold State.lamp; rw [cam_of_without (m := 10) (State.clearFault_frame _ _ _ _ rfl) rfl]),
    (fun k => by unfold State.slot; rw [crown_of_without (m := 10) (State.clearFault_frame _ _ _ _ rfl) rfl]),
    (fun k => by unfold State.crownUnit; rw [crown_of_without (m := 10) (State.clearFault_frame _ _ _ _ rfl) rfl]),
    (fun k => by unfold State.loop; rw [ctrl_of_without (m := 10) (State.clearFault_frame _ _ _ _ rfl) rfl]),
    (fun k => by unfold State.trace; rw [ctrl_of_without (m := 10) (State.clearFault_frame _ _ _ _ rfl) rfl]),
    (fun k => by unfold State.lidar; rw [eth_of_without (m := 10) (State.clearFault_frame _ _ _ _ rfl) rfl]),
    (fun k => by unfold State.ring; rw [eth_of_without (m := 10) (State.clearFault_frame _ _ _ _ rfl) rfl]),
    (fun k => by unfold State.fan; rw [fans_of_without (m := 10) (State.clearFault_frame _ _ _ _ rfl) rfl]),
    (fun k => by unfold State.out; rw [outs_of_without (m := 10) (State.clearFault_frame _ _ _ _ rfl) rfl]),
    (fun k => by unfold State.group; rw [outs_of_without (m := 10) (State.clearFault_frame _ _ _ _ rfl) rfl]),
    (fun k => by unfold State.hb; rw [outs_of_without (m := 10) (State.clearFault_frame _ _ _ _ rfl) rfl]),
    (fun k => by unfold State.svc; rw [body_of_without (m := 10) (State.clearFault_frame _ _ _ _ rfl) rfl]),
    (fun k => by unfold State.valve'; rw [valve_of_without (m := 10) (State.clearFault_frame _ _ _ _ rfl) rfl]),
    (fun k => by unfold State.bank; rw [valve_of_without (m := 10) (State.clearFault_frame _ _ _ _ rfl) rfl]),
    (fun k => by unfold State.boost; rw [valve_of_without (m := 10) (State.clearFault_frame _ _ _ _ rfl) rfl]),
    (fun k => by unfold State.ant; rw [gnss_of_without (m := 10) (State.clearFault_frame _ _ _ _ rfl) rfl]),
    (fun k => by unfold State.lin; rw [body_of_without (m := 10) (State.clearFault_frame _ _ _ _ rfl) rfl]),
    (fun k => by unfold State.parkSlot; rw [outs_of_without (m := 10) (State.clearFault_frame _ _ _ _ rfl) rfl]),
    (fun k => by unfold State.stud; rw [power_of_without (m := 10) (State.clearFault_frame _ _ _ _ rfl) rfl]),
    (fun k => by unfold State.sensor; rw [thermal_of_without (m := 10) (State.clearFault_frame _ _ _ _ rfl) rfl]),
    (fun k => by unfold State.link; rw [root_of_without (m := 10) (State.clearFault_frame _ _ _ _ rfl) rfl]),
    (fun k => by unfold State.sw; rw [swin_of_without (m := 10) (State.clearFault_frame _ _ _ _ rfl) rfl]),
    (by unfold State.hw; rw [time_of_without (m := 10) (State.clearFault_frame _ _ _ _ rfl) rfl]),
    (by unfold State.variant; rw [part_of_without (m := 10) (State.clearFault_frame _ _ _ _ rfl) rfl]),
    (by unfold State.trunkOn; rw [power_of_without (m := 10) (State.clearFault_frame _ _ _ _ rfl) rfl]),
    (by unfold State.inRun; rw [power_of_without (m := 10) (State.clearFault_frame _ _ _ _ rfl) rfl]),
    (by unfold State.operating; rw [power_of_without (m := 10) (State.clearFault_frame _ _ _ _ rfl) rfl]),
    (by unfold State.parked; rw [power_of_without (m := 10) (State.clearFault_frame _ _ _ _ rfl) rfl]),
    (fun k => by unfold State.sig; rw [signals_of_without (m := 10) (State.clearFault_frame _ _ _ _ rfl) rfl])⟩
/-- What `State.answer` leaves as it is. -/
@[simp] theorem State.answer_leaves (s) (a1) (a2) :
    (State.answer s a1 a2).part = s.part ∧ (State.answer s a1 a2).time = s.time ∧ (State.answer s a1 a2).faults = s.faults ∧
    (State.answer s a1 a2).signals = s.signals ∧ (State.answer s a1 a2).sensing = s.sensing ∧
    (State.answer s a1 a2).ctrl = s.ctrl ∧ (State.answer s a1 a2).valve = s.valve ∧ (State.answer s a1 a2).gnss = s.gnss ∧
    (State.answer s a1 a2).imu = s.imu ∧ (State.answer s a1 a2).cam = s.cam ∧ (State.answer s a1 a2).crown = s.crown ∧
    (State.answer s a1 a2).granary = s.granary ∧ (State.answer s a1 a2).outs = s.outs ∧
    (State.answer s a1 a2).swin = s.swin ∧ (State.answer s a1 a2).body = s.body ∧ (State.answer s a1 a2).fans = s.fans ∧
    (State.answer s a1 a2).plate = s.plate ∧ (State.answer s a1 a2).can = s.can ∧ (State.answer s a1 a2).eth = s.eth ∧
    (State.answer s a1 a2).nm = s.nm ∧ (State.answer s a1 a2).root = s.root ∧ (State.answer s a1 a2).graft = s.graft ∧
    (State.answer s a1 a2).attic = s.attic ∧ (State.answer s a1 a2).larder = s.larder ∧
    (State.answer s a1 a2).power = s.power ∧ (State.answer s a1 a2).thermal = s.thermal ∧
    (State.answer s a1 a2).jtag = s.jtag ∧ (State.answer s a1 a2).kept = s.kept ∧
    (State.answer s a1 a2).keptDirty = s.keptDirty ∧ (State.answer s a1 a2).keptAt = s.keptAt ∧
    (State.answer s a1 a2).free = s.free ∧ (State.answer s a1 a2).pending = s.pending ∧
    (∀ k, (State.answer s a1 a2).lossCh k = s.lossCh k) ∧ (∀ k, (State.answer s a1 a2).bridgeCh k = s.bridgeCh k) ∧
    (∀ k, (State.answer s a1 a2).ainCh k = s.ainCh k) ∧ (∀ k, (State.answer s a1 a2).freqCh k = s.freqCh k) ∧
    (∀ k, (State.answer s a1 a2).supCh k = s.supCh k) ∧ (∀ k, (State.answer s a1 a2).canCh k = s.canCh k) ∧
    (∀ k, (State.answer s a1 a2).ethPort k = s.ethPort k) ∧ (∀ k, (State.answer s a1 a2).net k = s.net k) ∧
    (∀ k, (State.answer s a1 a2).port k = s.port k) ∧ (∀ k, (State.answer s a1 a2).lamp k = s.lamp k) ∧
    (∀ k, (State.answer s a1 a2).slot k = s.slot k) ∧ (∀ k, (State.answer s a1 a2).crownUnit k = s.crownUnit k) ∧
    (∀ k, (State.answer s a1 a2).loop k = s.loop k) ∧ (∀ k, (State.answer s a1 a2).trace k = s.trace k) ∧
    (∀ k, (State.answer s a1 a2).lidar k = s.lidar k) ∧ (∀ k, (State.answer s a1 a2).ring k = s.ring k) ∧
    (∀ k, (State.answer s a1 a2).fan k = s.fan k) ∧ (∀ k, (State.answer s a1 a2).out k = s.out k) ∧
    (∀ k, (State.answer s a1 a2).group k = s.group k) ∧ (∀ k, (State.answer s a1 a2).hb k = s.hb k) ∧
    (∀ k, (State.answer s a1 a2).svc k = s.svc k) ∧ (∀ k, (State.answer s a1 a2).valve' k = s.valve' k) ∧
    (∀ k, (State.answer s a1 a2).bank k = s.bank k) ∧ (∀ k, (State.answer s a1 a2).boost k = s.boost k) ∧
    (∀ k, (State.answer s a1 a2).ant k = s.ant k) ∧ (∀ k, (State.answer s a1 a2).lin k = s.lin k) ∧
    (∀ k, (State.answer s a1 a2).parkSlot k = s.parkSlot k) ∧ (∀ k, (State.answer s a1 a2).stud k = s.stud k) ∧
    (∀ k, (State.answer s a1 a2).sensor k = s.sensor k) ∧ (∀ k, (State.answer s a1 a2).link k = s.link k) ∧
    (∀ k, (State.answer s a1 a2).sw k = s.sw k) ∧ (State.answer s a1 a2).hw = s.hw ∧
    (State.answer s a1 a2).variant = s.variant ∧ (State.answer s a1 a2).trunkOn = s.trunkOn ∧
    (State.answer s a1 a2).inRun = s.inRun ∧ (State.answer s a1 a2).operating = s.operating ∧
    (State.answer s a1 a2).parked = s.parked ∧ (∀ k, (State.answer s a1 a2).sig k = s.sig k) :=
  ⟨part_of_without (m := 2) (State.answer_frame _ _ _ rfl) rfl, time_of_without (m := 2) (State.answer_frame _ _ _ rfl) rfl,
    faults_of_without (m := 2) (State.answer_frame _ _ _ rfl) rfl,
    signals_of_without (m := 2) (State.answer_frame _ _ _ rfl) rfl,
    sensing_of_without (m := 2) (State.answer_frame _ _ _ rfl) rfl,
    ctrl_of_without (m := 2) (State.answer_frame _ _ _ rfl) rfl,
    valve_of_without (m := 2) (State.answer_frame _ _ _ rfl) rfl,
    gnss_of_without (m := 2) (State.answer_frame _ _ _ rfl) rfl, imu_of_without (m := 2) (State.answer_frame _ _ _ rfl) rfl,
    cam_of_without (m := 2) (State.answer_frame _ _ _ rfl) rfl, crown_of_without (m := 2) (State.answer_frame _ _ _ rfl) rfl,
    granary_of_without (m := 2) (State.answer_frame _ _ _ rfl) rfl,
    outs_of_without (m := 2) (State.answer_frame _ _ _ rfl) rfl, swin_of_without (m := 2) (State.answer_frame _ _ _ rfl) rfl,
    body_of_without (m := 2) (State.answer_frame _ _ _ rfl) rfl, fans_of_without (m := 2) (State.answer_frame _ _ _ rfl) rfl,
    plate_of_without (m := 2) (State.answer_frame _ _ _ rfl) rfl, can_of_without (m := 2) (State.answer_frame _ _ _ rfl) rfl,
    eth_of_without (m := 2) (State.answer_frame _ _ _ rfl) rfl, nm_of_without (m := 2) (State.answer_frame _ _ _ rfl) rfl,
    root_of_without (m := 2) (State.answer_frame _ _ _ rfl) rfl,
    graft_of_without (m := 2) (State.answer_frame _ _ _ rfl) rfl,
    attic_of_without (m := 2) (State.answer_frame _ _ _ rfl) rfl,
    larder_of_without (m := 2) (State.answer_frame _ _ _ rfl) rfl,
    power_of_without (m := 2) (State.answer_frame _ _ _ rfl) rfl,
    thermal_of_without (m := 2) (State.answer_frame _ _ _ rfl) rfl,
    jtag_of_without (m := 2) (State.answer_frame _ _ _ rfl) rfl, kept_of_without (m := 2) (State.answer_frame _ _ _ rfl) rfl,
    keptDirty_of_without (m := 2) (State.answer_frame _ _ _ rfl) rfl,
    keptAt_of_without (m := 2) (State.answer_frame _ _ _ rfl) rfl,
    free_of_without (m := 2) (State.answer_frame _ _ _ rfl) rfl,
    pending_of_without (m := 2) (State.answer_frame _ _ _ rfl) rfl,
    (fun k => by unfold State.lossCh; rw [sensing_of_without (m := 2) (State.answer_frame _ _ _ rfl) rfl]),
    (fun k => by unfold State.bridgeCh; rw [sensing_of_without (m := 2) (State.answer_frame _ _ _ rfl) rfl]),
    (fun k => by unfold State.ainCh; rw [sensing_of_without (m := 2) (State.answer_frame _ _ _ rfl) rfl]),
    (fun k => by unfold State.freqCh; rw [sensing_of_without (m := 2) (State.answer_frame _ _ _ rfl) rfl]),
    (fun k => by unfold State.supCh; rw [sensing_of_without (m := 2) (State.answer_frame _ _ _ rfl) rfl]),
    (fun k => by unfold State.canCh; rw [can_of_without (m := 2) (State.answer_frame _ _ _ rfl) rfl]),
    (fun k => by unfold State.ethPort; rw [eth_of_without (m := 2) (State.answer_frame _ _ _ rfl) rfl]),
    (fun k => by unfold State.net; rw [nm_of_without (m := 2) (State.answer_frame _ _ _ rfl) rfl]),
    (fun k => by unfold State.port; rw [cam_of_without (m := 2) (State.answer_frame _ _ _ rfl) rfl]),
    (fun k => by unfold State.lamp; rw [cam_of_without (m := 2) (State.answer_frame _ _ _ rfl) rfl]),
    (fun k => by unfold State.slot; rw [crown_of_without (m := 2) (State.answer_frame _ _ _ rfl) rfl]),
    (fun k => by unfold State.crownUnit; rw [crown_of_without (m := 2) (State.answer_frame _ _ _ rfl) rfl]),
    (fun k => by unfold State.loop; rw [ctrl_of_without (m := 2) (State.answer_frame _ _ _ rfl) rfl]),
    (fun k => by unfold State.trace; rw [ctrl_of_without (m := 2) (State.answer_frame _ _ _ rfl) rfl]),
    (fun k => by unfold State.lidar; rw [eth_of_without (m := 2) (State.answer_frame _ _ _ rfl) rfl]),
    (fun k => by unfold State.ring; rw [eth_of_without (m := 2) (State.answer_frame _ _ _ rfl) rfl]),
    (fun k => by unfold State.fan; rw [fans_of_without (m := 2) (State.answer_frame _ _ _ rfl) rfl]),
    (fun k => by unfold State.out; rw [outs_of_without (m := 2) (State.answer_frame _ _ _ rfl) rfl]),
    (fun k => by unfold State.group; rw [outs_of_without (m := 2) (State.answer_frame _ _ _ rfl) rfl]),
    (fun k => by unfold State.hb; rw [outs_of_without (m := 2) (State.answer_frame _ _ _ rfl) rfl]),
    (fun k => by unfold State.svc; rw [body_of_without (m := 2) (State.answer_frame _ _ _ rfl) rfl]),
    (fun k => by unfold State.valve'; rw [valve_of_without (m := 2) (State.answer_frame _ _ _ rfl) rfl]),
    (fun k => by unfold State.bank; rw [valve_of_without (m := 2) (State.answer_frame _ _ _ rfl) rfl]),
    (fun k => by unfold State.boost; rw [valve_of_without (m := 2) (State.answer_frame _ _ _ rfl) rfl]),
    (fun k => by unfold State.ant; rw [gnss_of_without (m := 2) (State.answer_frame _ _ _ rfl) rfl]),
    (fun k => by unfold State.lin; rw [body_of_without (m := 2) (State.answer_frame _ _ _ rfl) rfl]),
    (fun k => by unfold State.parkSlot; rw [outs_of_without (m := 2) (State.answer_frame _ _ _ rfl) rfl]),
    (fun k => by unfold State.stud; rw [power_of_without (m := 2) (State.answer_frame _ _ _ rfl) rfl]),
    (fun k => by unfold State.sensor; rw [thermal_of_without (m := 2) (State.answer_frame _ _ _ rfl) rfl]),
    (fun k => by unfold State.link; rw [root_of_without (m := 2) (State.answer_frame _ _ _ rfl) rfl]),
    (fun k => by unfold State.sw; rw [swin_of_without (m := 2) (State.answer_frame _ _ _ rfl) rfl]),
    (by unfold State.hw; rw [time_of_without (m := 2) (State.answer_frame _ _ _ rfl) rfl]),
    (by unfold State.variant; rw [part_of_without (m := 2) (State.answer_frame _ _ _ rfl) rfl]),
    (by unfold State.trunkOn; rw [power_of_without (m := 2) (State.answer_frame _ _ _ rfl) rfl]),
    (by unfold State.inRun; rw [power_of_without (m := 2) (State.answer_frame _ _ _ rfl) rfl]),
    (by unfold State.operating; rw [power_of_without (m := 2) (State.answer_frame _ _ _ rfl) rfl]),
    (by unfold State.parked; rw [power_of_without (m := 2) (State.answer_frame _ _ _ rfl) rfl]),
    (fun k => by unfold State.sig; rw [signals_of_without (m := 2) (State.answer_frame _ _ _ rfl) rfl])⟩
/-- What `State.recordReply` leaves as it is. -/
@[simp] theorem State.recordReply_leaves (s) (a1) (a2) :
    (State.recordReply s a1 a2).part = s.part ∧ (State.recordReply s a1 a2).time = s.time ∧
    (State.recordReply s a1 a2).faults = s.faults ∧ (State.recordReply s a1 a2).signals = s.signals ∧
    (State.recordReply s a1 a2).sensing = s.sensing ∧ (State.recordReply s a1 a2).ctrl = s.ctrl ∧
    (State.recordReply s a1 a2).valve = s.valve ∧ (State.recordReply s a1 a2).gnss = s.gnss ∧
    (State.recordReply s a1 a2).imu = s.imu ∧ (State.recordReply s a1 a2).cam = s.cam ∧
    (State.recordReply s a1 a2).crown = s.crown ∧ (State.recordReply s a1 a2).granary = s.granary ∧
    (State.recordReply s a1 a2).outs = s.outs ∧ (State.recordReply s a1 a2).swin = s.swin ∧
    (State.recordReply s a1 a2).body = s.body ∧ (State.recordReply s a1 a2).fans = s.fans ∧
    (State.recordReply s a1 a2).plate = s.plate ∧ (State.recordReply s a1 a2).can = s.can ∧
    (State.recordReply s a1 a2).eth = s.eth ∧ (State.recordReply s a1 a2).nm = s.nm ∧
    (State.recordReply s a1 a2).root = s.root ∧ (State.recordReply s a1 a2).graft = s.graft ∧
    (State.recordReply s a1 a2).attic = s.attic ∧ (State.recordReply s a1 a2).larder = s.larder ∧
    (State.recordReply s a1 a2).power = s.power ∧ (State.recordReply s a1 a2).thermal = s.thermal ∧
    (State.recordReply s a1 a2).jtag = s.jtag ∧ (State.recordReply s a1 a2).kept = s.kept ∧
    (State.recordReply s a1 a2).keptDirty = s.keptDirty ∧ (State.recordReply s a1 a2).keptAt = s.keptAt ∧
    (State.recordReply s a1 a2).free = s.free ∧ (State.recordReply s a1 a2).pending = s.pending ∧
    (∀ k, (State.recordReply s a1 a2).lossCh k = s.lossCh k) ∧ (∀ k, (State.recordReply s a1 a2).bridgeCh k = s.bridgeCh k) ∧
    (∀ k, (State.recordReply s a1 a2).ainCh k = s.ainCh k) ∧ (∀ k, (State.recordReply s a1 a2).freqCh k = s.freqCh k) ∧
    (∀ k, (State.recordReply s a1 a2).supCh k = s.supCh k) ∧ (∀ k, (State.recordReply s a1 a2).canCh k = s.canCh k) ∧
    (∀ k, (State.recordReply s a1 a2).ethPort k = s.ethPort k) ∧ (∀ k, (State.recordReply s a1 a2).net k = s.net k) ∧
    (∀ k, (State.recordReply s a1 a2).port k = s.port k) ∧ (∀ k, (State.recordReply s a1 a2).lamp k = s.lamp k) ∧
    (∀ k, (State.recordReply s a1 a2).slot k = s.slot k) ∧ (∀ k, (State.recordReply s a1 a2).crownUnit k = s.crownUnit k) ∧
    (∀ k, (State.recordReply s a1 a2).loop k = s.loop k) ∧ (∀ k, (State.recordReply s a1 a2).trace k = s.trace k) ∧
    (∀ k, (State.recordReply s a1 a2).lidar k = s.lidar k) ∧ (∀ k, (State.recordReply s a1 a2).ring k = s.ring k) ∧
    (∀ k, (State.recordReply s a1 a2).fan k = s.fan k) ∧ (∀ k, (State.recordReply s a1 a2).out k = s.out k) ∧
    (∀ k, (State.recordReply s a1 a2).group k = s.group k) ∧ (∀ k, (State.recordReply s a1 a2).hb k = s.hb k) ∧
    (∀ k, (State.recordReply s a1 a2).svc k = s.svc k) ∧ (∀ k, (State.recordReply s a1 a2).valve' k = s.valve' k) ∧
    (∀ k, (State.recordReply s a1 a2).bank k = s.bank k) ∧ (∀ k, (State.recordReply s a1 a2).boost k = s.boost k) ∧
    (∀ k, (State.recordReply s a1 a2).ant k = s.ant k) ∧ (∀ k, (State.recordReply s a1 a2).lin k = s.lin k) ∧
    (∀ k, (State.recordReply s a1 a2).parkSlot k = s.parkSlot k) ∧ (∀ k, (State.recordReply s a1 a2).stud k = s.stud k) ∧
    (∀ k, (State.recordReply s a1 a2).sensor k = s.sensor k) ∧ (∀ k, (State.recordReply s a1 a2).link k = s.link k) ∧
    (∀ k, (State.recordReply s a1 a2).sw k = s.sw k) ∧ (State.recordReply s a1 a2).hw = s.hw ∧
    (State.recordReply s a1 a2).variant = s.variant ∧ (State.recordReply s a1 a2).trunkOn = s.trunkOn ∧
    (State.recordReply s a1 a2).inRun = s.inRun ∧ (State.recordReply s a1 a2).operating = s.operating ∧
    (State.recordReply s a1 a2).parked = s.parked ∧ (∀ k, (State.recordReply s a1 a2).sig k = s.sig k) :=
  ⟨part_of_without (m := 2) (State.recordReply_frame _ _ _ rfl) rfl,
    time_of_without (m := 2) (State.recordReply_frame _ _ _ rfl) rfl,
    faults_of_without (m := 2) (State.recordReply_frame _ _ _ rfl) rfl,
    signals_of_without (m := 2) (State.recordReply_frame _ _ _ rfl) rfl,
    sensing_of_without (m := 2) (State.recordReply_frame _ _ _ rfl) rfl,
    ctrl_of_without (m := 2) (State.recordReply_frame _ _ _ rfl) rfl,
    valve_of_without (m := 2) (State.recordReply_frame _ _ _ rfl) rfl,
    gnss_of_without (m := 2) (State.recordReply_frame _ _ _ rfl) rfl,
    imu_of_without (m := 2) (State.recordReply_frame _ _ _ rfl) rfl,
    cam_of_without (m := 2) (State.recordReply_frame _ _ _ rfl) rfl,
    crown_of_without (m := 2) (State.recordReply_frame _ _ _ rfl) rfl,
    granary_of_without (m := 2) (State.recordReply_frame _ _ _ rfl) rfl,
    outs_of_without (m := 2) (State.recordReply_frame _ _ _ rfl) rfl,
    swin_of_without (m := 2) (State.recordReply_frame _ _ _ rfl) rfl,
    body_of_without (m := 2) (State.recordReply_frame _ _ _ rfl) rfl,
    fans_of_without (m := 2) (State.recordReply_frame _ _ _ rfl) rfl,
    plate_of_without (m := 2) (State.recordReply_frame _ _ _ rfl) rfl,
    can_of_without (m := 2) (State.recordReply_frame _ _ _ rfl) rfl,
    eth_of_without (m := 2) (State.recordReply_frame _ _ _ rfl) rfl,
    nm_of_without (m := 2) (State.recordReply_frame _ _ _ rfl) rfl,
    root_of_without (m := 2) (State.recordReply_frame _ _ _ rfl) rfl,
    graft_of_without (m := 2) (State.recordReply_frame _ _ _ rfl) rfl,
    attic_of_without (m := 2) (State.recordReply_frame _ _ _ rfl) rfl,
    larder_of_without (m := 2) (State.recordReply_frame _ _ _ rfl) rfl,
    power_of_without (m := 2) (State.recordReply_frame _ _ _ rfl) rfl,
    thermal_of_without (m := 2) (State.recordReply_frame _ _ _ rfl) rfl,
    jtag_of_without (m := 2) (State.recordReply_frame _ _ _ rfl) rfl,
    kept_of_without (m := 2) (State.recordReply_frame _ _ _ rfl) rfl,
    keptDirty_of_without (m := 2) (State.recordReply_frame _ _ _ rfl) rfl,
    keptAt_of_without (m := 2) (State.recordReply_frame _ _ _ rfl) rfl,
    free_of_without (m := 2) (State.recordReply_frame _ _ _ rfl) rfl,
    pending_of_without (m := 2) (State.recordReply_frame _ _ _ rfl) rfl,
    (fun k => by unfold State.lossCh; rw [sensing_of_without (m := 2) (State.recordReply_frame _ _ _ rfl) rfl]),
    (fun k => by unfold State.bridgeCh; rw [sensing_of_without (m := 2) (State.recordReply_frame _ _ _ rfl) rfl]),
    (fun k => by unfold State.ainCh; rw [sensing_of_without (m := 2) (State.recordReply_frame _ _ _ rfl) rfl]),
    (fun k => by unfold State.freqCh; rw [sensing_of_without (m := 2) (State.recordReply_frame _ _ _ rfl) rfl]),
    (fun k => by unfold State.supCh; rw [sensing_of_without (m := 2) (State.recordReply_frame _ _ _ rfl) rfl]),
    (fun k => by unfold State.canCh; rw [can_of_without (m := 2) (State.recordReply_frame _ _ _ rfl) rfl]),
    (fun k => by unfold State.ethPort; rw [eth_of_without (m := 2) (State.recordReply_frame _ _ _ rfl) rfl]),
    (fun k => by unfold State.net; rw [nm_of_without (m := 2) (State.recordReply_frame _ _ _ rfl) rfl]),
    (fun k => by unfold State.port; rw [cam_of_without (m := 2) (State.recordReply_frame _ _ _ rfl) rfl]),
    (fun k => by unfold State.lamp; rw [cam_of_without (m := 2) (State.recordReply_frame _ _ _ rfl) rfl]),
    (fun k => by unfold State.slot; rw [crown_of_without (m := 2) (State.recordReply_frame _ _ _ rfl) rfl]),
    (fun k => by unfold State.crownUnit; rw [crown_of_without (m := 2) (State.recordReply_frame _ _ _ rfl) rfl]),
    (fun k => by unfold State.loop; rw [ctrl_of_without (m := 2) (State.recordReply_frame _ _ _ rfl) rfl]),
    (fun k => by unfold State.trace; rw [ctrl_of_without (m := 2) (State.recordReply_frame _ _ _ rfl) rfl]),
    (fun k => by unfold State.lidar; rw [eth_of_without (m := 2) (State.recordReply_frame _ _ _ rfl) rfl]),
    (fun k => by unfold State.ring; rw [eth_of_without (m := 2) (State.recordReply_frame _ _ _ rfl) rfl]),
    (fun k => by unfold State.fan; rw [fans_of_without (m := 2) (State.recordReply_frame _ _ _ rfl) rfl]),
    (fun k => by unfold State.out; rw [outs_of_without (m := 2) (State.recordReply_frame _ _ _ rfl) rfl]),
    (fun k => by unfold State.group; rw [outs_of_without (m := 2) (State.recordReply_frame _ _ _ rfl) rfl]),
    (fun k => by unfold State.hb; rw [outs_of_without (m := 2) (State.recordReply_frame _ _ _ rfl) rfl]),
    (fun k => by unfold State.svc; rw [body_of_without (m := 2) (State.recordReply_frame _ _ _ rfl) rfl]),
    (fun k => by unfold State.valve'; rw [valve_of_without (m := 2) (State.recordReply_frame _ _ _ rfl) rfl]),
    (fun k => by unfold State.bank; rw [valve_of_without (m := 2) (State.recordReply_frame _ _ _ rfl) rfl]),
    (fun k => by unfold State.boost; rw [valve_of_without (m := 2) (State.recordReply_frame _ _ _ rfl) rfl]),
    (fun k => by unfold State.ant; rw [gnss_of_without (m := 2) (State.recordReply_frame _ _ _ rfl) rfl]),
    (fun k => by unfold State.lin; rw [body_of_without (m := 2) (State.recordReply_frame _ _ _ rfl) rfl]),
    (fun k => by unfold State.parkSlot; rw [outs_of_without (m := 2) (State.recordReply_frame _ _ _ rfl) rfl]),
    (fun k => by unfold State.stud; rw [power_of_without (m := 2) (State.recordReply_frame _ _ _ rfl) rfl]),
    (fun k => by unfold State.sensor; rw [thermal_of_without (m := 2) (State.recordReply_frame _ _ _ rfl) rfl]),
    (fun k => by unfold State.link; rw [root_of_without (m := 2) (State.recordReply_frame _ _ _ rfl) rfl]),
    (fun k => by unfold State.sw; rw [swin_of_without (m := 2) (State.recordReply_frame _ _ _ rfl) rfl]),
    (by unfold State.hw; rw [time_of_without (m := 2) (State.recordReply_frame _ _ _ rfl) rfl]),
    (by unfold State.variant; rw [part_of_without (m := 2) (State.recordReply_frame _ _ _ rfl) rfl]),
    (by unfold State.trunkOn; rw [power_of_without (m := 2) (State.recordReply_frame _ _ _ rfl) rfl]),
    (by unfold State.inRun; rw [power_of_without (m := 2) (State.recordReply_frame _ _ _ rfl) rfl]),
    (by unfold State.operating; rw [power_of_without (m := 2) (State.recordReply_frame _ _ _ rfl) rfl]),
    (by unfold State.parked; rw [power_of_without (m := 2) (State.recordReply_frame _ _ _ rfl) rfl]),
    (fun k => by unfold State.sig; rw [signals_of_without (m := 2) (State.recordReply_frame _ _ _ rfl) rfl])⟩
/-- What `State.setSig` leaves as it is. -/
@[simp] theorem State.setSig_leaves (s) (a1) (a2) (a3) (a4) :
    (State.setSig s a1 a2 a3 a4).part = s.part ∧ (State.setSig s a1 a2 a3 a4).keeper = s.keeper ∧
    (State.setSig s a1 a2 a3 a4).time = s.time ∧ (State.setSig s a1 a2 a3 a4).faults = s.faults ∧
    (State.setSig s a1 a2 a3 a4).sensing = s.sensing ∧ (State.setSig s a1 a2 a3 a4).ctrl = s.ctrl ∧
    (State.setSig s a1 a2 a3 a4).valve = s.valve ∧ (State.setSig s a1 a2 a3 a4).gnss = s.gnss ∧
    (State.setSig s a1 a2 a3 a4).imu = s.imu ∧ (State.setSig s a1 a2 a3 a4).cam = s.cam ∧
    (State.setSig s a1 a2 a3 a4).crown = s.crown ∧ (State.setSig s a1 a2 a3 a4).outs = s.outs ∧
    (State.setSig s a1 a2 a3 a4).swin = s.swin ∧ (State.setSig s a1 a2 a3 a4).body = s.body ∧
    (State.setSig s a1 a2 a3 a4).fans = s.fans ∧ (State.setSig s a1 a2 a3 a4).plate = s.plate ∧
    (State.setSig s a1 a2 a3 a4).can = s.can ∧ (State.setSig s a1 a2 a3 a4).eth = s.eth ∧
    (State.setSig s a1 a2 a3 a4).nm = s.nm ∧ (State.setSig s a1 a2 a3 a4).root = s.root ∧
    (State.setSig s a1 a2 a3 a4).graft = s.graft ∧ (State.setSig s a1 a2 a3 a4).attic = s.attic ∧
    (State.setSig s a1 a2 a3 a4).larder = s.larder ∧ (State.setSig s a1 a2 a3 a4).power = s.power ∧
    (State.setSig s a1 a2 a3 a4).thermal = s.thermal ∧ (State.setSig s a1 a2 a3 a4).jtag = s.jtag ∧
    (State.setSig s a1 a2 a3 a4).kept = s.kept ∧ (State.setSig s a1 a2 a3 a4).keptDirty = s.keptDirty ∧
    (State.setSig s a1 a2 a3 a4).keptAt = s.keptAt ∧ (State.setSig s a1 a2 a3 a4).free = s.free ∧
    (State.setSig s a1 a2 a3 a4).pending = s.pending ∧ (∀ k, (State.setSig s a1 a2 a3 a4).win k = s.win k) ∧
    (∀ k, (State.setSig s a1 a2 a3 a4).lossCh k = s.lossCh k) ∧
    (∀ k, (State.setSig s a1 a2 a3 a4).bridgeCh k = s.bridgeCh k) ∧ (∀ k, (State.setSig s a1 a2 a3 a4).ainCh k = s.ainCh k) ∧
    (∀ k, (State.setSig s a1 a2 a3 a4).freqCh k = s.freqCh k) ∧ (∀ k, (State.setSig s a1 a2 a3 a4).supCh k = s.supCh k) ∧
    (∀ k, (State.setSig s a1 a2 a3 a4).canCh k = s.canCh k) ∧ (∀ k, (State.setSig s a1 a2 a3 a4).ethPort k = s.ethPort k) ∧
    (∀ k, (State.setSig s a1 a2 a3 a4).net k = s.net k) ∧ (∀ k, (State.setSig s a1 a2 a3 a4).port k = s.port k) ∧
    (∀ k, (State.setSig s a1 a2 a3 a4).lamp k = s.lamp k) ∧ (∀ k, (State.setSig s a1 a2 a3 a4).slot k = s.slot k) ∧
    (∀ k, (State.setSig s a1 a2 a3 a4).crownUnit k = s.crownUnit k) ∧ (∀ k, (State.setSig s a1 a2 a3 a4).loop k = s.loop k) ∧
    (∀ k, (State.setSig s a1 a2 a3 a4).trace k = s.trace k) ∧ (∀ k, (State.setSig s a1 a2 a3 a4).lidar k = s.lidar k) ∧
    (∀ k, (State.setSig s a1 a2 a3 a4).ring k = s.ring k) ∧ (∀ k, (State.setSig s a1 a2 a3 a4).fan k = s.fan k) ∧
    (∀ k, (State.setSig s a1 a2 a3 a4).out k = s.out k) ∧ (∀ k, (State.setSig s a1 a2 a3 a4).group k = s.group k) ∧
    (∀ k, (State.setSig s a1 a2 a3 a4).hb k = s.hb k) ∧ (∀ k, (State.setSig s a1 a2 a3 a4).svc k = s.svc k) ∧
    (∀ k, (State.setSig s a1 a2 a3 a4).valve' k = s.valve' k) ∧ (∀ k, (State.setSig s a1 a2 a3 a4).bank k = s.bank k) ∧
    (∀ k, (State.setSig s a1 a2 a3 a4).boost k = s.boost k) ∧ (∀ k, (State.setSig s a1 a2 a3 a4).ant k = s.ant k) ∧
    (∀ k, (State.setSig s a1 a2 a3 a4).partition k = s.partition k) ∧ (∀ k, (State.setSig s a1 a2 a3 a4).lin k = s.lin k) ∧
    (∀ k, (State.setSig s a1 a2 a3 a4).hostFn k = s.hostFn k) ∧
    (∀ k, (State.setSig s a1 a2 a3 a4).parkSlot k = s.parkSlot k) ∧ (∀ k, (State.setSig s a1 a2 a3 a4).stud k = s.stud k) ∧
    (∀ k, (State.setSig s a1 a2 a3 a4).sensor k = s.sensor k) ∧ (∀ k, (State.setSig s a1 a2 a3 a4).link k = s.link k) ∧
    (∀ k, (State.setSig s a1 a2 a3 a4).sw k = s.sw k) ∧ (State.setSig s a1 a2 a3 a4).hw = s.hw ∧
    (State.setSig s a1 a2 a3 a4).variant = s.variant ∧ (State.setSig s a1 a2 a3 a4).trunkOn = s.trunkOn ∧
    (State.setSig s a1 a2 a3 a4).inRun = s.inRun ∧ (State.setSig s a1 a2 a3 a4).operating = s.operating ∧
    (State.setSig s a1 a2 a3 a4).parked = s.parked ∧ (∀ k, (State.setSig s a1 a2 a3 a4).decl k = s.decl k) :=
  ⟨part_of_without (m := 4112) (State.setSig_frame _ _ _ _ _ rfl) rfl,
    keeper_of_without (m := 4112) (State.setSig_frame _ _ _ _ _ rfl) rfl,
    time_of_without (m := 4112) (State.setSig_frame _ _ _ _ _ rfl) rfl,
    faults_of_without (m := 4112) (State.setSig_frame _ _ _ _ _ rfl) rfl,
    sensing_of_without (m := 4112) (State.setSig_frame _ _ _ _ _ rfl) rfl,
    ctrl_of_without (m := 4112) (State.setSig_frame _ _ _ _ _ rfl) rfl,
    valve_of_without (m := 4112) (State.setSig_frame _ _ _ _ _ rfl) rfl,
    gnss_of_without (m := 4112) (State.setSig_frame _ _ _ _ _ rfl) rfl,
    imu_of_without (m := 4112) (State.setSig_frame _ _ _ _ _ rfl) rfl,
    cam_of_without (m := 4112) (State.setSig_frame _ _ _ _ _ rfl) rfl,
    crown_of_without (m := 4112) (State.setSig_frame _ _ _ _ _ rfl) rfl,
    outs_of_without (m := 4112) (State.setSig_frame _ _ _ _ _ rfl) rfl,
    swin_of_without (m := 4112) (State.setSig_frame _ _ _ _ _ rfl) rfl,
    body_of_without (m := 4112) (State.setSig_frame _ _ _ _ _ rfl) rfl,
    fans_of_without (m := 4112) (State.setSig_frame _ _ _ _ _ rfl) rfl,
    plate_of_without (m := 4112) (State.setSig_frame _ _ _ _ _ rfl) rfl,
    can_of_without (m := 4112) (State.setSig_frame _ _ _ _ _ rfl) rfl,
    eth_of_without (m := 4112) (State.setSig_frame _ _ _ _ _ rfl) rfl,
    nm_of_without (m := 4112) (State.setSig_frame _ _ _ _ _ rfl) rfl,
    root_of_without (m := 4112) (State.setSig_frame _ _ _ _ _ rfl) rfl,
    graft_of_without (m := 4112) (State.setSig_frame _ _ _ _ _ rfl) rfl,
    attic_of_without (m := 4112) (State.setSig_frame _ _ _ _ _ rfl) rfl,
    larder_of_without (m := 4112) (State.setSig_frame _ _ _ _ _ rfl) rfl,
    power_of_without (m := 4112) (State.setSig_frame _ _ _ _ _ rfl) rfl,
    thermal_of_without (m := 4112) (State.setSig_frame _ _ _ _ _ rfl) rfl,
    jtag_of_without (m := 4112) (State.setSig_frame _ _ _ _ _ rfl) rfl,
    kept_of_without (m := 4112) (State.setSig_frame _ _ _ _ _ rfl) rfl,
    keptDirty_of_without (m := 4112) (State.setSig_frame _ _ _ _ _ rfl) rfl,
    keptAt_of_without (m := 4112) (State.setSig_frame _ _ _ _ _ rfl) rfl,
    free_of_without (m := 4112) (State.setSig_frame _ _ _ _ _ rfl) rfl,
    pending_of_without (m := 4112) (State.setSig_frame _ _ _ _ _ rfl) rfl,
    (fun k => by unfold State.win; rw [keeper_of_without (m := 4112) (State.setSig_frame _ _ _ _ _ rfl) rfl]),
    (fun k => by unfold State.lossCh; rw [sensing_of_without (m := 4112) (State.setSig_frame _ _ _ _ _ rfl) rfl]),
    (fun k => by unfold State.bridgeCh; rw [sensing_of_without (m := 4112) (State.setSig_frame _ _ _ _ _ rfl) rfl]),
    (fun k => by unfold State.ainCh; rw [sensing_of_without (m := 4112) (State.setSig_frame _ _ _ _ _ rfl) rfl]),
    (fun k => by unfold State.freqCh; rw [sensing_of_without (m := 4112) (State.setSig_frame _ _ _ _ _ rfl) rfl]),
    (fun k => by unfold State.supCh; rw [sensing_of_without (m := 4112) (State.setSig_frame _ _ _ _ _ rfl) rfl]),
    (fun k => by unfold State.canCh; rw [can_of_without (m := 4112) (State.setSig_frame _ _ _ _ _ rfl) rfl]),
    (fun k => by unfold State.ethPort; rw [eth_of_without (m := 4112) (State.setSig_frame _ _ _ _ _ rfl) rfl]),
    (fun k => by unfold State.net; rw [nm_of_without (m := 4112) (State.setSig_frame _ _ _ _ _ rfl) rfl]),
    (fun k => by unfold State.port; rw [cam_of_without (m := 4112) (State.setSig_frame _ _ _ _ _ rfl) rfl]),
    (fun k => by unfold State.lamp; rw [cam_of_without (m := 4112) (State.setSig_frame _ _ _ _ _ rfl) rfl]),
    (fun k => by unfold State.slot; rw [crown_of_without (m := 4112) (State.setSig_frame _ _ _ _ _ rfl) rfl]),
    (fun k => by unfold State.crownUnit; rw [crown_of_without (m := 4112) (State.setSig_frame _ _ _ _ _ rfl) rfl]),
    (fun k => by unfold State.loop; rw [ctrl_of_without (m := 4112) (State.setSig_frame _ _ _ _ _ rfl) rfl]),
    (fun k => by unfold State.trace; rw [ctrl_of_without (m := 4112) (State.setSig_frame _ _ _ _ _ rfl) rfl]),
    (fun k => by unfold State.lidar; rw [eth_of_without (m := 4112) (State.setSig_frame _ _ _ _ _ rfl) rfl]),
    (fun k => by unfold State.ring; rw [eth_of_without (m := 4112) (State.setSig_frame _ _ _ _ _ rfl) rfl]),
    (fun k => by unfold State.fan; rw [fans_of_without (m := 4112) (State.setSig_frame _ _ _ _ _ rfl) rfl]),
    (fun k => by unfold State.out; rw [outs_of_without (m := 4112) (State.setSig_frame _ _ _ _ _ rfl) rfl]),
    (fun k => by unfold State.group; rw [outs_of_without (m := 4112) (State.setSig_frame _ _ _ _ _ rfl) rfl]),
    (fun k => by unfold State.hb; rw [outs_of_without (m := 4112) (State.setSig_frame _ _ _ _ _ rfl) rfl]),
    (fun k => by unfold State.svc; rw [body_of_without (m := 4112) (State.setSig_frame _ _ _ _ _ rfl) rfl]),
    (fun k => by unfold State.valve'; rw [valve_of_without (m := 4112) (State.setSig_frame _ _ _ _ _ rfl) rfl]),
    (fun k => by unfold State.bank; rw [valve_of_without (m := 4112) (State.setSig_frame _ _ _ _ _ rfl) rfl]),
    (fun k => by unfold State.boost; rw [valve_of_without (m := 4112) (State.setSig_frame _ _ _ _ _ rfl) rfl]),
    (fun k => by unfold State.ant; rw [gnss_of_without (m := 4112) (State.setSig_frame _ _ _ _ _ rfl) rfl]),
    (fun k => by unfold State.partition; rw [keeper_of_without (m := 4112) (State.setSig_frame _ _ _ _ _ rfl) rfl]),
    (fun k => by unfold State.lin; rw [body_of_without (m := 4112) (State.setSig_frame _ _ _ _ _ rfl) rfl]),
    (fun k => by unfold State.hostFn; rw [keeper_of_without (m := 4112) (State.setSig_frame _ _ _ _ _ rfl) rfl]),
    (fun k => by unfold State.parkSlot; rw [outs_of_without (m := 4112) (State.setSig_frame _ _ _ _ _ rfl) rfl]),
    (fun k => by unfold State.stud; rw [power_of_without (m := 4112) (State.setSig_frame _ _ _ _ _ rfl) rfl]),
    (fun k => by unfold State.sensor; rw [thermal_of_without (m := 4112) (State.setSig_frame _ _ _ _ _ rfl) rfl]),
    (fun k => by unfold State.link; rw [root_of_without (m := 4112) (State.setSig_frame _ _ _ _ _ rfl) rfl]),
    (fun k => by unfold State.sw; rw [swin_of_without (m := 4112) (State.setSig_frame _ _ _ _ _ rfl) rfl]),
    (by unfold State.hw; rw [time_of_without (m := 4112) (State.setSig_frame _ _ _ _ _ rfl) rfl]),
    (by unfold State.variant; rw [part_of_without (m := 4112) (State.setSig_frame _ _ _ _ _ rfl) rfl]),
    (by unfold State.trunkOn; rw [power_of_without (m := 4112) (State.setSig_frame _ _ _ _ _ rfl) rfl]),
    (by unfold State.inRun; rw [power_of_without (m := 4112) (State.setSig_frame _ _ _ _ _ rfl) rfl]),
    (by unfold State.operating; rw [power_of_without (m := 4112) (State.setSig_frame _ _ _ _ _ rfl) rfl]),
    (by unfold State.parked; rw [power_of_without (m := 4112) (State.setSig_frame _ _ _ _ _ rfl) rfl]),
    (fun k => by unfold State.decl; rw [keeper_of_without (m := 4112) (State.setSig_frame _ _ _ _ _ rfl) rfl])⟩
/-- What `State.zeroSigs` leaves as it is. -/
@[simp] theorem State.zeroSigs_leaves (s) (a1) (a2) :
    (State.zeroSigs s a1 a2).part = s.part ∧ (State.zeroSigs s a1 a2).keeper = s.keeper ∧
    (State.zeroSigs s a1 a2).time = s.time ∧ (State.zeroSigs s a1 a2).faults = s.faults ∧
    (State.zeroSigs s a1 a2).sensing = s.sensing ∧ (State.zeroSigs s a1 a2).ctrl = s.ctrl ∧
    (State.zeroSigs s a1 a2).valve = s.valve ∧ (State.zeroSigs s a1 a2).gnss = s.gnss ∧
    (State.zeroSigs s a1 a2).imu = s.imu ∧ (State.zeroSigs s a1 a2).cam = s.cam ∧ (State.zeroSigs s a1 a2).crown = s.crown ∧
    (State.zeroSigs s a1 a2).granary = s.granary ∧ (State.zeroSigs s a1 a2).outs = s.outs ∧
    (State.zeroSigs s a1 a2).swin = s.swin ∧ (State.zeroSigs s a1 a2).body = s.body ∧
    (State.zeroSigs s a1 a2).fans = s.fans ∧ (State.zeroSigs s a1 a2).plate = s.plate ∧
    (State.zeroSigs s a1 a2).can = s.can ∧ (State.zeroSigs s a1 a2).eth = s.eth ∧ (State.zeroSigs s a1 a2).nm = s.nm ∧
    (State.zeroSigs s a1 a2).root = s.root ∧ (State.zeroSigs s a1 a2).graft = s.graft ∧
    (State.zeroSigs s a1 a2).attic = s.attic ∧ (State.zeroSigs s a1 a2).larder = s.larder ∧
    (State.zeroSigs s a1 a2).power = s.power ∧ (State.zeroSigs s a1 a2).thermal = s.thermal ∧
    (State.zeroSigs s a1 a2).jtag = s.jtag ∧ (State.zeroSigs s a1 a2).kept = s.kept ∧
    (State.zeroSigs s a1 a2).keptDirty = s.keptDirty ∧ (State.zeroSigs s a1 a2).keptAt = s.keptAt ∧
    (State.zeroSigs s a1 a2).free = s.free ∧ (State.zeroSigs s a1 a2).pending = s.pending ∧
    (∀ k, (State.zeroSigs s a1 a2).win k = s.win k) ∧ (∀ k, (State.zeroSigs s a1 a2).lossCh k = s.lossCh k) ∧
    (∀ k, (State.zeroSigs s a1 a2).bridgeCh k = s.bridgeCh k) ∧ (∀ k, (State.zeroSigs s a1 a2).ainCh k = s.ainCh k) ∧
    (∀ k, (State.zeroSigs s a1 a2).freqCh k = s.freqCh k) ∧ (∀ k, (State.zeroSigs s a1 a2).supCh k = s.supCh k) ∧
    (∀ k, (State.zeroSigs s a1 a2).canCh k = s.canCh k) ∧ (∀ k, (State.zeroSigs s a1 a2).ethPort k = s.ethPort k) ∧
    (∀ k, (State.zeroSigs s a1 a2).net k = s.net k) ∧ (∀ k, (State.zeroSigs s a1 a2).port k = s.port k) ∧
    (∀ k, (State.zeroSigs s a1 a2).lamp k = s.lamp k) ∧ (∀ k, (State.zeroSigs s a1 a2).slot k = s.slot k) ∧
    (∀ k, (State.zeroSigs s a1 a2).crownUnit k = s.crownUnit k) ∧ (∀ k, (State.zeroSigs s a1 a2).loop k = s.loop k) ∧
    (∀ k, (State.zeroSigs s a1 a2).trace k = s.trace k) ∧ (∀ k, (State.zeroSigs s a1 a2).lidar k = s.lidar k) ∧
    (∀ k, (State.zeroSigs s a1 a2).ring k = s.ring k) ∧ (∀ k, (State.zeroSigs s a1 a2).fan k = s.fan k) ∧
    (∀ k, (State.zeroSigs s a1 a2).out k = s.out k) ∧ (∀ k, (State.zeroSigs s a1 a2).group k = s.group k) ∧
    (∀ k, (State.zeroSigs s a1 a2).hb k = s.hb k) ∧ (∀ k, (State.zeroSigs s a1 a2).svc k = s.svc k) ∧
    (∀ k, (State.zeroSigs s a1 a2).valve' k = s.valve' k) ∧ (∀ k, (State.zeroSigs s a1 a2).bank k = s.bank k) ∧
    (∀ k, (State.zeroSigs s a1 a2).boost k = s.boost k) ∧ (∀ k, (State.zeroSigs s a1 a2).ant k = s.ant k) ∧
    (∀ k, (State.zeroSigs s a1 a2).partition k = s.partition k) ∧ (∀ k, (State.zeroSigs s a1 a2).lin k = s.lin k) ∧
    (∀ k, (State.zeroSigs s a1 a2).hostFn k = s.hostFn k) ∧ (∀ k, (State.zeroSigs s a1 a2).parkSlot k = s.parkSlot k) ∧
    (∀ k, (State.zeroSigs s a1 a2).stud k = s.stud k) ∧ (∀ k, (State.zeroSigs s a1 a2).sensor k = s.sensor k) ∧
    (∀ k, (State.zeroSigs s a1 a2).link k = s.link k) ∧ (∀ k, (State.zeroSigs s a1 a2).sw k = s.sw k) ∧
    (State.zeroSigs s a1 a2).hw = s.hw ∧ (State.zeroSigs s a1 a2).variant = s.variant ∧
    (State.zeroSigs s a1 a2).trunkOn = s.trunkOn ∧ (State.zeroSigs s a1 a2).inRun = s.inRun ∧
    (State.zeroSigs s a1 a2).operating = s.operating ∧ (State.zeroSigs s a1 a2).parked = s.parked ∧
    (∀ k, (State.zeroSigs s a1 a2).decl k = s.decl k) :=
  ⟨part_of_without (m := 16) (State.zeroSigs_frame _ _ _ rfl) rfl,
    keeper_of_without (m := 16) (State.zeroSigs_frame _ _ _ rfl) rfl,
    time_of_without (m := 16) (State.zeroSigs_frame _ _ _ rfl) rfl,
    faults_of_without (m := 16) (State.zeroSigs_frame _ _ _ rfl) rfl,
    sensing_of_without (m := 16) (State.zeroSigs_frame _ _ _ rfl) rfl,
    ctrl_of_without (m := 16) (State.zeroSigs_frame _ _ _ rfl) rfl,
    valve_of_without (m := 16) (State.zeroSigs_frame _ _ _ rfl) rfl,
    gnss_of_without (m := 16) (State.zeroSigs_frame _ _ _ rfl) rfl,
    imu_of_without (m := 16) (State.zeroSigs_frame _ _ _ rfl) rfl,
    cam_of_without (m := 16) (State.zeroSigs_frame _ _ _ rfl) rfl,
    crown_of_without (m := 16) (State.zeroSigs_frame _ _ _ rfl) rfl,
    granary_of_without (m := 16) (State.zeroSigs_frame _ _ _ rfl) rfl,
    outs_of_without (m := 16) (State.zeroSigs_frame _ _ _ rfl) rfl,
    swin_of_without (m := 16) (State.zeroSigs_frame _ _ _ rfl) rfl,
    body_of_without (m := 16) (State.zeroSigs_frame _ _ _ rfl) rfl,
    fans_of_without (m := 16) (State.zeroSigs_frame _ _ _ rfl) rfl,
    plate_of_without (m := 16) (State.zeroSigs_frame _ _ _ rfl) rfl,
    can_of_without (m := 16) (State.zeroSigs_frame _ _ _ rfl) rfl,
    eth_of_without (m := 16) (State.zeroSigs_frame _ _ _ rfl) rfl,
    nm_of_without (m := 16) (State.zeroSigs_frame _ _ _ rfl) rfl,
    root_of_without (m := 16) (State.zeroSigs_frame _ _ _ rfl) rfl,
    graft_of_without (m := 16) (State.zeroSigs_frame _ _ _ rfl) rfl,
    attic_of_without (m := 16) (State.zeroSigs_frame _ _ _ rfl) rfl,
    larder_of_without (m := 16) (State.zeroSigs_frame _ _ _ rfl) rfl,
    power_of_without (m := 16) (State.zeroSigs_frame _ _ _ rfl) rfl,
    thermal_of_without (m := 16) (State.zeroSigs_frame _ _ _ rfl) rfl,
    jtag_of_without (m := 16) (State.zeroSigs_frame _ _ _ rfl) rfl,
    kept_of_without (m := 16) (State.zeroSigs_frame _ _ _ rfl) rfl,
    keptDirty_of_without (m := 16) (State.zeroSigs_frame _ _ _ rfl) rfl,
    keptAt_of_without (m := 16) (State.zeroSigs_frame _ _ _ rfl) rfl,
    free_of_without (m := 16) (State.zeroSigs_frame _ _ _ rfl) rfl,
    pending_of_without (m := 16) (State.zeroSigs_frame _ _ _ rfl) rfl,
    (fun k => by unfold State.win; rw [keeper_of_without (m := 16) (State.zeroSigs_frame _ _ _ rfl) rfl]),
    (fun k => by unfold State.lossCh; rw [sensing_of_without (m := 16) (State.zeroSigs_frame _ _ _ rfl) rfl]),
    (fun k => by unfold State.bridgeCh; rw [sensing_of_without (m := 16) (State.zeroSigs_frame _ _ _ rfl) rfl]),
    (fun k => by unfold State.ainCh; rw [sensing_of_without (m := 16) (State.zeroSigs_frame _ _ _ rfl) rfl]),
    (fun k => by unfold State.freqCh; rw [sensing_of_without (m := 16) (State.zeroSigs_frame _ _ _ rfl) rfl]),
    (fun k => by unfold State.supCh; rw [sensing_of_without (m := 16) (State.zeroSigs_frame _ _ _ rfl) rfl]),
    (fun k => by unfold State.canCh; rw [can_of_without (m := 16) (State.zeroSigs_frame _ _ _ rfl) rfl]),
    (fun k => by unfold State.ethPort; rw [eth_of_without (m := 16) (State.zeroSigs_frame _ _ _ rfl) rfl]),
    (fun k => by unfold State.net; rw [nm_of_without (m := 16) (State.zeroSigs_frame _ _ _ rfl) rfl]),
    (fun k => by unfold State.port; rw [cam_of_without (m := 16) (State.zeroSigs_frame _ _ _ rfl) rfl]),
    (fun k => by unfold State.lamp; rw [cam_of_without (m := 16) (State.zeroSigs_frame _ _ _ rfl) rfl]),
    (fun k => by unfold State.slot; rw [crown_of_without (m := 16) (State.zeroSigs_frame _ _ _ rfl) rfl]),
    (fun k => by unfold State.crownUnit; rw [crown_of_without (m := 16) (State.zeroSigs_frame _ _ _ rfl) rfl]),
    (fun k => by unfold State.loop; rw [ctrl_of_without (m := 16) (State.zeroSigs_frame _ _ _ rfl) rfl]),
    (fun k => by unfold State.trace; rw [ctrl_of_without (m := 16) (State.zeroSigs_frame _ _ _ rfl) rfl]),
    (fun k => by unfold State.lidar; rw [eth_of_without (m := 16) (State.zeroSigs_frame _ _ _ rfl) rfl]),
    (fun k => by unfold State.ring; rw [eth_of_without (m := 16) (State.zeroSigs_frame _ _ _ rfl) rfl]),
    (fun k => by unfold State.fan; rw [fans_of_without (m := 16) (State.zeroSigs_frame _ _ _ rfl) rfl]),
    (fun k => by unfold State.out; rw [outs_of_without (m := 16) (State.zeroSigs_frame _ _ _ rfl) rfl]),
    (fun k => by unfold State.group; rw [outs_of_without (m := 16) (State.zeroSigs_frame _ _ _ rfl) rfl]),
    (fun k => by unfold State.hb; rw [outs_of_without (m := 16) (State.zeroSigs_frame _ _ _ rfl) rfl]),
    (fun k => by unfold State.svc; rw [body_of_without (m := 16) (State.zeroSigs_frame _ _ _ rfl) rfl]),
    (fun k => by unfold State.valve'; rw [valve_of_without (m := 16) (State.zeroSigs_frame _ _ _ rfl) rfl]),
    (fun k => by unfold State.bank; rw [valve_of_without (m := 16) (State.zeroSigs_frame _ _ _ rfl) rfl]),
    (fun k => by unfold State.boost; rw [valve_of_without (m := 16) (State.zeroSigs_frame _ _ _ rfl) rfl]),
    (fun k => by unfold State.ant; rw [gnss_of_without (m := 16) (State.zeroSigs_frame _ _ _ rfl) rfl]),
    (fun k => by unfold State.partition; rw [keeper_of_without (m := 16) (State.zeroSigs_frame _ _ _ rfl) rfl]),
    (fun k => by unfold State.lin; rw [body_of_without (m := 16) (State.zeroSigs_frame _ _ _ rfl) rfl]),
    (fun k => by unfold State.hostFn; rw [keeper_of_without (m := 16) (State.zeroSigs_frame _ _ _ rfl) rfl]),
    (fun k => by unfold State.parkSlot; rw [outs_of_without (m := 16) (State.zeroSigs_frame _ _ _ rfl) rfl]),
    (fun k => by unfold State.stud; rw [power_of_without (m := 16) (State.zeroSigs_frame _ _ _ rfl) rfl]),
    (fun k => by unfold State.sensor; rw [thermal_of_without (m := 16) (State.zeroSigs_frame _ _ _ rfl) rfl]),
    (fun k => by unfold State.link; rw [root_of_without (m := 16) (State.zeroSigs_frame _ _ _ rfl) rfl]),
    (fun k => by unfold State.sw; rw [swin_of_without (m := 16) (State.zeroSigs_frame _ _ _ rfl) rfl]),
    (by unfold State.hw; rw [time_of_without (m := 16) (State.zeroSigs_frame _ _ _ rfl) rfl]),
    (by unfold State.variant; rw [part_of_without (m := 16) (State.zeroSigs_frame _ _ _ rfl) rfl]),
    (by unfold State.trunkOn; rw [power_of_without (m := 16) (State.zeroSigs_frame _ _ _ rfl) rfl]),
    (by unfold State.inRun; rw [power_of_without (m := 16) (State.zeroSigs_frame _ _ _ rfl) rfl]),
    (by unfold State.operating; rw [power_of_without (m := 16) (State.zeroSigs_frame _ _ _ rfl) rfl]),
    (by unfold State.parked; rw [power_of_without (m := 16) (State.zeroSigs_frame _ _ _ rfl) rfl]),
    (fun k => by unfold State.decl; rw [keeper_of_without (m := 16) (State.zeroSigs_frame _ _ _ rfl) rfl])⟩
/-- What `State.modFlags` leaves as it is. -/
@[simp] theorem State.modFlags_leaves (s) (a1) (a2) :
    (State.modFlags s a1 a2).part = s.part ∧ (State.modFlags s a1 a2).keeper = s.keeper ∧
    (State.modFlags s a1 a2).time = s.time ∧ (State.modFlags s a1 a2).faults = s.faults ∧
    (State.modFlags s a1 a2).sensing = s.sensing ∧ (State.modFlags s a1 a2).ctrl = s.ctrl ∧
    (State.modFlags s a1 a2).valve = s.valve ∧ (State.modFlags s a1 a2).gnss = s.gnss ∧
    (State.modFlags s a1 a2).imu = s.imu ∧ (State.modFlags s a1 a2).cam = s.cam ∧ (State.modFlags s a1 a2).crown = s.crown ∧
    (State.modFlags s a1 a2).granary = s.granary ∧ (State.modFlags s a1 a2).outs = s.outs ∧
    (State.modFlags s a1 a2).swin = s.swin ∧ (State.modFlags s a1 a2).body = s.body ∧
    (State.modFlags s a1 a2).fans = s.fans ∧ (State.modFlags s a1 a2).plate = s.plate ∧
    (State.modFlags s a1 a2).can = s.can ∧ (State.modFlags s a1 a2).eth = s.eth ∧ (State.modFlags s a1 a2).nm = s.nm ∧
    (State.modFlags s a1 a2).root = s.root ∧ (State.modFlags s a1 a2).graft = s.graft ∧
    (State.modFlags s a1 a2).attic = s.attic ∧ (State.modFlags s a1 a2).larder = s.larder ∧
    (State.modFlags s a1 a2).power = s.power ∧ (State.modFlags s a1 a2).thermal = s.thermal ∧
    (State.modFlags s a1 a2).jtag = s.jtag ∧ (State.modFlags s a1 a2).kept = s.kept ∧
    (State.modFlags s a1 a2).keptDirty = s.keptDirty ∧ (State.modFlags s a1 a2).keptAt = s.keptAt ∧
    (State.modFlags s a1 a2).free = s.free ∧ (State.modFlags s a1 a2).pending = s.pending ∧
    (∀ k, (State.modFlags s a1 a2).win k = s.win k) ∧ (∀ k, (State.modFlags s a1 a2).lossCh k = s.lossCh k) ∧
    (∀ k, (State.modFlags s a1 a2).bridgeCh k = s.bridgeCh k) ∧ (∀ k, (State.modFlags s a1 a2).ainCh k = s.ainCh k) ∧
    (∀ k, (State.modFlags s a1 a2).freqCh k = s.freqCh k) ∧ (∀ k, (State.modFlags s a1 a2).supCh k = s.supCh k) ∧
    (∀ k, (State.modFlags s a1 a2).canCh k = s.canCh k) ∧ (∀ k, (State.modFlags s a1 a2).ethPort k = s.ethPort k) ∧
    (∀ k, (State.modFlags s a1 a2).net k = s.net k) ∧ (∀ k, (State.modFlags s a1 a2).port k = s.port k) ∧
    (∀ k, (State.modFlags s a1 a2).lamp k = s.lamp k) ∧ (∀ k, (State.modFlags s a1 a2).slot k = s.slot k) ∧
    (∀ k, (State.modFlags s a1 a2).crownUnit k = s.crownUnit k) ∧ (∀ k, (State.modFlags s a1 a2).loop k = s.loop k) ∧
    (∀ k, (State.modFlags s a1 a2).trace k = s.trace k) ∧ (∀ k, (State.modFlags s a1 a2).lidar k = s.lidar k) ∧
    (∀ k, (State.modFlags s a1 a2).ring k = s.ring k) ∧ (∀ k, (State.modFlags s a1 a2).fan k = s.fan k) ∧
    (∀ k, (State.modFlags s a1 a2).out k = s.out k) ∧ (∀ k, (State.modFlags s a1 a2).group k = s.group k) ∧
    (∀ k, (State.modFlags s a1 a2).hb k = s.hb k) ∧ (∀ k, (State.modFlags s a1 a2).svc k = s.svc k) ∧
    (∀ k, (State.modFlags s a1 a2).valve' k = s.valve' k) ∧ (∀ k, (State.modFlags s a1 a2).bank k = s.bank k) ∧
    (∀ k, (State.modFlags s a1 a2).boost k = s.boost k) ∧ (∀ k, (State.modFlags s a1 a2).ant k = s.ant k) ∧
    (∀ k, (State.modFlags s a1 a2).partition k = s.partition k) ∧ (∀ k, (State.modFlags s a1 a2).lin k = s.lin k) ∧
    (∀ k, (State.modFlags s a1 a2).hostFn k = s.hostFn k) ∧ (∀ k, (State.modFlags s a1 a2).parkSlot k = s.parkSlot k) ∧
    (∀ k, (State.modFlags s a1 a2).stud k = s.stud k) ∧ (∀ k, (State.modFlags s a1 a2).sensor k = s.sensor k) ∧
    (∀ k, (State.modFlags s a1 a2).link k = s.link k) ∧ (∀ k, (State.modFlags s a1 a2).sw k = s.sw k) ∧
    (State.modFlags s a1 a2).hw = s.hw ∧ (State.modFlags s a1 a2).variant = s.variant ∧
    (State.modFlags s a1 a2).trunkOn = s.trunkOn ∧ (State.modFlags s a1 a2).inRun = s.inRun ∧
    (State.modFlags s a1 a2).operating = s.operating ∧ (State.modFlags s a1 a2).parked = s.parked ∧
    (∀ k, (State.modFlags s a1 a2).decl k = s.decl k) :=
  ⟨part_of_without (m := 16) (State.modFlags_frame _ _ _ rfl) rfl,
    keeper_of_without (m := 16) (State.modFlags_frame _ _ _ rfl) rfl,
    time_of_without (m := 16) (State.modFlags_frame _ _ _ rfl) rfl,
    faults_of_without (m := 16) (State.modFlags_frame _ _ _ rfl) rfl,
    sensing_of_without (m := 16) (State.modFlags_frame _ _ _ rfl) rfl,
    ctrl_of_without (m := 16) (State.modFlags_frame _ _ _ rfl) rfl,
    valve_of_without (m := 16) (State.modFlags_frame _ _ _ rfl) rfl,
    gnss_of_without (m := 16) (State.modFlags_frame _ _ _ rfl) rfl,
    imu_of_without (m := 16) (State.modFlags_frame _ _ _ rfl) rfl,
    cam_of_without (m := 16) (State.modFlags_frame _ _ _ rfl) rfl,
    crown_of_without (m := 16) (State.modFlags_frame _ _ _ rfl) rfl,
    granary_of_without (m := 16) (State.modFlags_frame _ _ _ rfl) rfl,
    outs_of_without (m := 16) (State.modFlags_frame _ _ _ rfl) rfl,
    swin_of_without (m := 16) (State.modFlags_frame _ _ _ rfl) rfl,
    body_of_without (m := 16) (State.modFlags_frame _ _ _ rfl) rfl,
    fans_of_without (m := 16) (State.modFlags_frame _ _ _ rfl) rfl,
    plate_of_without (m := 16) (State.modFlags_frame _ _ _ rfl) rfl,
    can_of_without (m := 16) (State.modFlags_frame _ _ _ rfl) rfl,
    eth_of_without (m := 16) (State.modFlags_frame _ _ _ rfl) rfl,
    nm_of_without (m := 16) (State.modFlags_frame _ _ _ rfl) rfl,
    root_of_without (m := 16) (State.modFlags_frame _ _ _ rfl) rfl,
    graft_of_without (m := 16) (State.modFlags_frame _ _ _ rfl) rfl,
    attic_of_without (m := 16) (State.modFlags_frame _ _ _ rfl) rfl,
    larder_of_without (m := 16) (State.modFlags_frame _ _ _ rfl) rfl,
    power_of_without (m := 16) (State.modFlags_frame _ _ _ rfl) rfl,
    thermal_of_without (m := 16) (State.modFlags_frame _ _ _ rfl) rfl,
    jtag_of_without (m := 16) (State.modFlags_frame _ _ _ rfl) rfl,
    kept_of_without (m := 16) (State.modFlags_frame _ _ _ rfl) rfl,
    keptDirty_of_without (m := 16) (State.modFlags_frame _ _ _ rfl) rfl,
    keptAt_of_without (m := 16) (State.modFlags_frame _ _ _ rfl) rfl,
    free_of_without (m := 16) (State.modFlags_frame _ _ _ rfl) rfl,
    pending_of_without (m := 16) (State.modFlags_frame _ _ _ rfl) rfl,
    (fun k => by unfold State.win; rw [keeper_of_without (m := 16) (State.modFlags_frame _ _ _ rfl) rfl]),
    (fun k => by unfold State.lossCh; rw [sensing_of_without (m := 16) (State.modFlags_frame _ _ _ rfl) rfl]),
    (fun k => by unfold State.bridgeCh; rw [sensing_of_without (m := 16) (State.modFlags_frame _ _ _ rfl) rfl]),
    (fun k => by unfold State.ainCh; rw [sensing_of_without (m := 16) (State.modFlags_frame _ _ _ rfl) rfl]),
    (fun k => by unfold State.freqCh; rw [sensing_of_without (m := 16) (State.modFlags_frame _ _ _ rfl) rfl]),
    (fun k => by unfold State.supCh; rw [sensing_of_without (m := 16) (State.modFlags_frame _ _ _ rfl) rfl]),
    (fun k => by unfold State.canCh; rw [can_of_without (m := 16) (State.modFlags_frame _ _ _ rfl) rfl]),
    (fun k => by unfold State.ethPort; rw [eth_of_without (m := 16) (State.modFlags_frame _ _ _ rfl) rfl]),
    (fun k => by unfold State.net; rw [nm_of_without (m := 16) (State.modFlags_frame _ _ _ rfl) rfl]),
    (fun k => by unfold State.port; rw [cam_of_without (m := 16) (State.modFlags_frame _ _ _ rfl) rfl]),
    (fun k => by unfold State.lamp; rw [cam_of_without (m := 16) (State.modFlags_frame _ _ _ rfl) rfl]),
    (fun k => by unfold State.slot; rw [crown_of_without (m := 16) (State.modFlags_frame _ _ _ rfl) rfl]),
    (fun k => by unfold State.crownUnit; rw [crown_of_without (m := 16) (State.modFlags_frame _ _ _ rfl) rfl]),
    (fun k => by unfold State.loop; rw [ctrl_of_without (m := 16) (State.modFlags_frame _ _ _ rfl) rfl]),
    (fun k => by unfold State.trace; rw [ctrl_of_without (m := 16) (State.modFlags_frame _ _ _ rfl) rfl]),
    (fun k => by unfold State.lidar; rw [eth_of_without (m := 16) (State.modFlags_frame _ _ _ rfl) rfl]),
    (fun k => by unfold State.ring; rw [eth_of_without (m := 16) (State.modFlags_frame _ _ _ rfl) rfl]),
    (fun k => by unfold State.fan; rw [fans_of_without (m := 16) (State.modFlags_frame _ _ _ rfl) rfl]),
    (fun k => by unfold State.out; rw [outs_of_without (m := 16) (State.modFlags_frame _ _ _ rfl) rfl]),
    (fun k => by unfold State.group; rw [outs_of_without (m := 16) (State.modFlags_frame _ _ _ rfl) rfl]),
    (fun k => by unfold State.hb; rw [outs_of_without (m := 16) (State.modFlags_frame _ _ _ rfl) rfl]),
    (fun k => by unfold State.svc; rw [body_of_without (m := 16) (State.modFlags_frame _ _ _ rfl) rfl]),
    (fun k => by unfold State.valve'; rw [valve_of_without (m := 16) (State.modFlags_frame _ _ _ rfl) rfl]),
    (fun k => by unfold State.bank; rw [valve_of_without (m := 16) (State.modFlags_frame _ _ _ rfl) rfl]),
    (fun k => by unfold State.boost; rw [valve_of_without (m := 16) (State.modFlags_frame _ _ _ rfl) rfl]),
    (fun k => by unfold State.ant; rw [gnss_of_without (m := 16) (State.modFlags_frame _ _ _ rfl) rfl]),
    (fun k => by unfold State.partition; rw [keeper_of_without (m := 16) (State.modFlags_frame _ _ _ rfl) rfl]),
    (fun k => by unfold State.lin; rw [body_of_without (m := 16) (State.modFlags_frame _ _ _ rfl) rfl]),
    (fun k => by unfold State.hostFn; rw [keeper_of_without (m := 16) (State.modFlags_frame _ _ _ rfl) rfl]),
    (fun k => by unfold State.parkSlot; rw [outs_of_without (m := 16) (State.modFlags_frame _ _ _ rfl) rfl]),
    (fun k => by unfold State.stud; rw [power_of_without (m := 16) (State.modFlags_frame _ _ _ rfl) rfl]),
    (fun k => by unfold State.sensor; rw [thermal_of_without (m := 16) (State.modFlags_frame _ _ _ rfl) rfl]),
    (fun k => by unfold State.link; rw [root_of_without (m := 16) (State.modFlags_frame _ _ _ rfl) rfl]),
    (fun k => by unfold State.sw; rw [swin_of_without (m := 16) (State.modFlags_frame _ _ _ rfl) rfl]),
    (by unfold State.hw; rw [time_of_without (m := 16) (State.modFlags_frame _ _ _ rfl) rfl]),
    (by unfold State.variant; rw [part_of_without (m := 16) (State.modFlags_frame _ _ _ rfl) rfl]),
    (by unfold State.trunkOn; rw [power_of_without (m := 16) (State.modFlags_frame _ _ _ rfl) rfl]),
    (by unfold State.inRun; rw [power_of_without (m := 16) (State.modFlags_frame _ _ _ rfl) rfl]),
    (by unfold State.operating; rw [power_of_without (m := 16) (State.modFlags_frame _ _ _ rfl) rfl]),
    (by unfold State.parked; rw [power_of_without (m := 16) (State.modFlags_frame _ _ _ rfl) rfl]),
    (fun k => by unfold State.decl; rw [keeper_of_without (m := 16) (State.modFlags_frame _ _ _ rfl) rfl])⟩
/-- What `State.boundary` leaves as it is. -/
@[simp] theorem State.boundary_leaves (s) (a1) (a2) (a3) :
    (State.boundary s a1 a2 a3).part = s.part ∧ (State.boundary s a1 a2 a3).keeper = s.keeper ∧
    (State.boundary s a1 a2 a3).faults = s.faults ∧ (State.boundary s a1 a2 a3).signals = s.signals ∧
    (State.boundary s a1 a2 a3).sensing = s.sensing ∧ (State.boundary s a1 a2 a3).ctrl = s.ctrl ∧
    (State.boundary s a1 a2 a3).valve = s.valve ∧ (State.boundary s a1 a2 a3).gnss = s.gnss ∧
    (State.boundary s a1 a2 a3).imu = s.imu ∧ (State.boundary s a1 a2 a3).cam = s.cam ∧
    (State.boundary s a1 a2 a3).crown = s.crown ∧ (State.boundary s a1 a2 a3).granary = s.granary ∧
    (State.boundary s a1 a2 a3).outs = s.outs ∧ (State.boundary s a1 a2 a3).swin = s.swin ∧
    (State.boundary s a1 a2 a3).body = s.body ∧ (State.boundary s a1 a2 a3).fans = s.fans ∧
    (State.boundary s a1 a2 a3).plate = s.plate ∧ (State.boundary s a1 a2 a3).can = s.can ∧
    (State.boundary s a1 a2 a3).eth = s.eth ∧ (State.boundary s a1 a2 a3).nm = s.nm ∧
    (State.boundary s a1 a2 a3).root = s.root ∧ (State.boundary s a1 a2 a3).graft = s.graft ∧
    (State.boundary s a1 a2 a3).attic = s.attic ∧ (State.boundary s a1 a2 a3).larder = s.larder ∧
    (State.boundary s a1 a2 a3).thermal = s.thermal ∧ (State.boundary s a1 a2 a3).jtag = s.jtag ∧
    (State.boundary s a1 a2 a3).kept = s.kept ∧ (State.boundary s a1 a2 a3).keptDirty = s.keptDirty ∧
    (State.boundary s a1 a2 a3).keptAt = s.keptAt ∧ (State.boundary s a1 a2 a3).free = s.free ∧
    (State.boundary s a1 a2 a3).pending = s.pending ∧ (∀ k, (State.boundary s a1 a2 a3).win k = s.win k) ∧
    (∀ k, (State.boundary s a1 a2 a3).lossCh k = s.lossCh k) ∧ (∀ k, (State.boundary s a1 a2 a3).bridgeCh k = s.bridgeCh k) ∧
    (∀ k, (State.boundary s a1 a2 a3).ainCh k = s.ainCh k) ∧ (∀ k, (State.boundary s a1 a2 a3).freqCh k = s.freqCh k) ∧
    (∀ k, (State.boundary s a1 a2 a3).supCh k = s.supCh k) ∧ (∀ k, (State.boundary s a1 a2 a3).canCh k = s.canCh k) ∧
    (∀ k, (State.boundary s a1 a2 a3).ethPort k = s.ethPort k) ∧ (∀ k, (State.boundary s a1 a2 a3).net k = s.net k) ∧
    (∀ k, (State.boundary s a1 a2 a3).port k = s.port k) ∧ (∀ k, (State.boundary s a1 a2 a3).lamp k = s.lamp k) ∧
    (∀ k, (State.boundary s a1 a2 a3).slot k = s.slot k) ∧ (∀ k, (State.boundary s a1 a2 a3).crownUnit k = s.crownUnit k) ∧
    (∀ k, (State.boundary s a1 a2 a3).loop k = s.loop k) ∧ (∀ k, (State.boundary s a1 a2 a3).trace k = s.trace k) ∧
    (∀ k, (State.boundary s a1 a2 a3).lidar k = s.lidar k) ∧ (∀ k, (State.boundary s a1 a2 a3).ring k = s.ring k) ∧
    (∀ k, (State.boundary s a1 a2 a3).fan k = s.fan k) ∧ (∀ k, (State.boundary s a1 a2 a3).out k = s.out k) ∧
    (∀ k, (State.boundary s a1 a2 a3).group k = s.group k) ∧ (∀ k, (State.boundary s a1 a2 a3).hb k = s.hb k) ∧
    (∀ k, (State.boundary s a1 a2 a3).svc k = s.svc k) ∧ (∀ k, (State.boundary s a1 a2 a3).valve' k = s.valve' k) ∧
    (∀ k, (State.boundary s a1 a2 a3).bank k = s.bank k) ∧ (∀ k, (State.boundary s a1 a2 a3).boost k = s.boost k) ∧
    (∀ k, (State.boundary s a1 a2 a3).ant k = s.ant k) ∧ (∀ k, (State.boundary s a1 a2 a3).partition k = s.partition k) ∧
    (∀ k, (State.boundary s a1 a2 a3).lin k = s.lin k) ∧ (∀ k, (State.boundary s a1 a2 a3).hostFn k = s.hostFn k) ∧
    (∀ k, (State.boundary s a1 a2 a3).parkSlot k = s.parkSlot k) ∧ (∀ k, (State.boundary s a1 a2 a3).sensor k = s.sensor k) ∧
    (∀ k, (State.boundary s a1 a2 a3).link k = s.link k) ∧ (∀ k, (State.boundary s a1 a2 a3).sw k = s.sw k) ∧
    (State.boundary s a1 a2 a3).variant = s.variant ∧ (∀ k, (State.boundary s a1 a2 a3).decl k = s.decl k) ∧
    (∀ k, (State.boundary s a1 a2 a3).sig k = s.sig k) :=
  ⟨part_of_without (m := 33554436) (State.boundary_frame _ _ _ _ rfl) rfl,
    keeper_of_without (m := 33554436) (State.boundary_frame _ _ _ _ rfl) rfl,
    faults_of_without (m := 33554436) (State.boundary_frame _ _ _ _ rfl) rfl,
    signals_of_without (m := 33554436) (State.boundary_frame _ _ _ _ rfl) rfl,
    sensing_of_without (m := 33554436) (State.boundary_frame _ _ _ _ rfl) rfl,
    ctrl_of_without (m := 33554436) (State.boundary_frame _ _ _ _ rfl) rfl,
    valve_of_without (m := 33554436) (State.boundary_frame _ _ _ _ rfl) rfl,
    gnss_of_without (m := 33554436) (State.boundary_frame _ _ _ _ rfl) rfl,
    imu_of_without (m := 33554436) (State.boundary_frame _ _ _ _ rfl) rfl,
    cam_of_without (m := 33554436) (State.boundary_frame _ _ _ _ rfl) rfl,
    crown_of_without (m := 33554436) (State.boundary_frame _ _ _ _ rfl) rfl,
    granary_of_without (m := 33554436) (State.boundary_frame _ _ _ _ rfl) rfl,
    outs_of_without (m := 33554436) (State.boundary_frame _ _ _ _ rfl) rfl,
    swin_of_without (m := 33554436) (State.boundary_frame _ _ _ _ rfl) rfl,
    body_of_without (m := 33554436) (State.boundary_frame _ _ _ _ rfl) rfl,
    fans_of_without (m := 33554436) (State.boundary_frame _ _ _ _ rfl) rfl,
    plate_of_without (m := 33554436) (State.boundary_frame _ _ _ _ rfl) rfl,
    can_of_without (m := 33554436) (State.boundary_frame _ _ _ _ rfl) rfl,
    eth_of_without (m := 33554436) (State.boundary_frame _ _ _ _ rfl) rfl,
    nm_of_without (m := 33554436) (State.boundary_frame _ _ _ _ rfl) rfl,
    root_of_without (m := 33554436) (State.boundary_frame _ _ _ _ rfl) rfl,
    graft_of_without (m := 33554436) (State.boundary_frame _ _ _ _ rfl) rfl,
    attic_of_without (m := 33554436) (State.boundary_frame _ _ _ _ rfl) rfl,
    larder_of_without (m := 33554436) (State.boundary_frame _ _ _ _ rfl) rfl,
    thermal_of_without (m := 33554436) (State.boundary_frame _ _ _ _ rfl) rfl,
    jtag_of_without (m := 33554436) (State.boundary_frame _ _ _ _ rfl) rfl,
    kept_of_without (m := 33554436) (State.boundary_frame _ _ _ _ rfl) rfl,
    keptDirty_of_without (m := 33554436) (State.boundary_frame _ _ _ _ rfl) rfl,
    keptAt_of_without (m := 33554436) (State.boundary_frame _ _ _ _ rfl) rfl,
    free_of_without (m := 33554436) (State.boundary_frame _ _ _ _ rfl) rfl,
    pending_of_without (m := 33554436) (State.boundary_frame _ _ _ _ rfl) rfl,
    (fun k => by unfold State.win; rw [keeper_of_without (m := 33554436) (State.boundary_frame _ _ _ _ rfl) rfl]),
    (fun k => by unfold State.lossCh; rw [sensing_of_without (m := 33554436) (State.boundary_frame _ _ _ _ rfl) rfl]),
    (fun k => by unfold State.bridgeCh; rw [sensing_of_without (m := 33554436) (State.boundary_frame _ _ _ _ rfl) rfl]),
    (fun k => by unfold State.ainCh; rw [sensing_of_without (m := 33554436) (State.boundary_frame _ _ _ _ rfl) rfl]),
    (fun k => by unfold State.freqCh; rw [sensing_of_without (m := 33554436) (State.boundary_frame _ _ _ _ rfl) rfl]),
    (fun k => by unfold State.supCh; rw [sensing_of_without (m := 33554436) (State.boundary_frame _ _ _ _ rfl) rfl]),
    (fun k => by unfold State.canCh; rw [can_of_without (m := 33554436) (State.boundary_frame _ _ _ _ rfl) rfl]),
    (fun k => by unfold State.ethPort; rw [eth_of_without (m := 33554436) (State.boundary_frame _ _ _ _ rfl) rfl]),
    (fun k => by unfold State.net; rw [nm_of_without (m := 33554436) (State.boundary_frame _ _ _ _ rfl) rfl]),
    (fun k => by unfold State.port; rw [cam_of_without (m := 33554436) (State.boundary_frame _ _ _ _ rfl) rfl]),
    (fun k => by unfold State.lamp; rw [cam_of_without (m := 33554436) (State.boundary_frame _ _ _ _ rfl) rfl]),
    (fun k => by unfold State.slot; rw [crown_of_without (m := 33554436) (State.boundary_frame _ _ _ _ rfl) rfl]),
    (fun k => by unfold State.crownUnit; rw [crown_of_without (m := 33554436) (State.boundary_frame _ _ _ _ rfl) rfl]),
    (fun k => by unfold State.loop; rw [ctrl_of_without (m := 33554436) (State.boundary_frame _ _ _ _ rfl) rfl]),
    (fun k => by unfold State.trace; rw [ctrl_of_without (m := 33554436) (State.boundary_frame _ _ _ _ rfl) rfl]),
    (fun k => by unfold State.lidar; rw [eth_of_without (m := 33554436) (State.boundary_frame _ _ _ _ rfl) rfl]),
    (fun k => by unfold State.ring; rw [eth_of_without (m := 33554436) (State.boundary_frame _ _ _ _ rfl) rfl]),
    (fun k => by unfold State.fan; rw [fans_of_without (m := 33554436) (State.boundary_frame _ _ _ _ rfl) rfl]),
    (fun k => by unfold State.out; rw [outs_of_without (m := 33554436) (State.boundary_frame _ _ _ _ rfl) rfl]),
    (fun k => by unfold State.group; rw [outs_of_without (m := 33554436) (State.boundary_frame _ _ _ _ rfl) rfl]),
    (fun k => by unfold State.hb; rw [outs_of_without (m := 33554436) (State.boundary_frame _ _ _ _ rfl) rfl]),
    (fun k => by unfold State.svc; rw [body_of_without (m := 33554436) (State.boundary_frame _ _ _ _ rfl) rfl]),
    (fun k => by unfold State.valve'; rw [valve_of_without (m := 33554436) (State.boundary_frame _ _ _ _ rfl) rfl]),
    (fun k => by unfold State.bank; rw [valve_of_without (m := 33554436) (State.boundary_frame _ _ _ _ rfl) rfl]),
    (fun k => by unfold State.boost; rw [valve_of_without (m := 33554436) (State.boundary_frame _ _ _ _ rfl) rfl]),
    (fun k => by unfold State.ant; rw [gnss_of_without (m := 33554436) (State.boundary_frame _ _ _ _ rfl) rfl]),
    (fun k => by unfold State.partition; rw [keeper_of_without (m := 33554436) (State.boundary_frame _ _ _ _ rfl) rfl]),
    (fun k => by unfold State.lin; rw [body_of_without (m := 33554436) (State.boundary_frame _ _ _ _ rfl) rfl]),
    (fun k => by unfold State.hostFn; rw [keeper_of_without (m := 33554436) (State.boundary_frame _ _ _ _ rfl) rfl]),
    (fun k => by unfold State.parkSlot; rw [outs_of_without (m := 33554436) (State.boundary_frame _ _ _ _ rfl) rfl]),
    (fun k => by unfold State.sensor; rw [thermal_of_without (m := 33554436) (State.boundary_frame _ _ _ _ rfl) rfl]),
    (fun k => by unfold State.link; rw [root_of_without (m := 33554436) (State.boundary_frame _ _ _ _ rfl) rfl]),
    (fun k => by unfold State.sw; rw [swin_of_without (m := 33554436) (State.boundary_frame _ _ _ _ rfl) rfl]),
    (by unfold State.variant; rw [part_of_without (m := 33554436) (State.boundary_frame _ _ _ _ rfl) rfl]),
    (fun k => by unfold State.decl; rw [keeper_of_without (m := 33554436) (State.boundary_frame _ _ _ _ rfl) rfl]),
    (fun k => by unfold State.sig; rw [signals_of_without (m := 33554436) (State.boundary_frame _ _ _ _ rfl) rfl])⟩
/-- What `State.waitOp` leaves as it is. -/
@[simp] theorem State.waitOp_leaves (s) (a1) :
    (State.waitOp s a1).part = s.part ∧ (State.waitOp s a1).keeper = s.keeper ∧ (State.waitOp s a1).faults = s.faults ∧
    (State.waitOp s a1).signals = s.signals ∧ (State.waitOp s a1).sensing = s.sensing ∧ (State.waitOp s a1).ctrl = s.ctrl ∧
    (State.waitOp s a1).valve = s.valve ∧ (State.waitOp s a1).gnss = s.gnss ∧ (State.waitOp s a1).imu = s.imu ∧
    (State.waitOp s a1).cam = s.cam ∧ (State.waitOp s a1).crown = s.crown ∧ (State.waitOp s a1).granary = s.granary ∧
    (State.waitOp s a1).outs = s.outs ∧ (State.waitOp s a1).swin = s.swin ∧ (State.waitOp s a1).body = s.body ∧
    (State.waitOp s a1).fans = s.fans ∧ (State.waitOp s a1).plate = s.plate ∧ (State.waitOp s a1).can = s.can ∧
    (State.waitOp s a1).eth = s.eth ∧ (State.waitOp s a1).nm = s.nm ∧ (State.waitOp s a1).root = s.root ∧
    (State.waitOp s a1).graft = s.graft ∧ (State.waitOp s a1).attic = s.attic ∧ (State.waitOp s a1).larder = s.larder ∧
    (State.waitOp s a1).thermal = s.thermal ∧ (State.waitOp s a1).jtag = s.jtag ∧ (State.waitOp s a1).kept = s.kept ∧
    (State.waitOp s a1).keptDirty = s.keptDirty ∧ (State.waitOp s a1).keptAt = s.keptAt ∧ (State.waitOp s a1).free = s.free ∧
    (State.waitOp s a1).pending = s.pending ∧ (∀ k, (State.waitOp s a1).win k = s.win k) ∧
    (∀ k, (State.waitOp s a1).lossCh k = s.lossCh k) ∧ (∀ k, (State.waitOp s a1).bridgeCh k = s.bridgeCh k) ∧
    (∀ k, (State.waitOp s a1).ainCh k = s.ainCh k) ∧ (∀ k, (State.waitOp s a1).freqCh k = s.freqCh k) ∧
    (∀ k, (State.waitOp s a1).supCh k = s.supCh k) ∧ (∀ k, (State.waitOp s a1).canCh k = s.canCh k) ∧
    (∀ k, (State.waitOp s a1).ethPort k = s.ethPort k) ∧ (∀ k, (State.waitOp s a1).net k = s.net k) ∧
    (∀ k, (State.waitOp s a1).port k = s.port k) ∧ (∀ k, (State.waitOp s a1).lamp k = s.lamp k) ∧
    (∀ k, (State.waitOp s a1).slot k = s.slot k) ∧ (∀ k, (State.waitOp s a1).crownUnit k = s.crownUnit k) ∧
    (∀ k, (State.waitOp s a1).loop k = s.loop k) ∧ (∀ k, (State.waitOp s a1).trace k = s.trace k) ∧
    (∀ k, (State.waitOp s a1).lidar k = s.lidar k) ∧ (∀ k, (State.waitOp s a1).ring k = s.ring k) ∧
    (∀ k, (State.waitOp s a1).fan k = s.fan k) ∧ (∀ k, (State.waitOp s a1).out k = s.out k) ∧
    (∀ k, (State.waitOp s a1).group k = s.group k) ∧ (∀ k, (State.waitOp s a1).hb k = s.hb k) ∧
    (∀ k, (State.waitOp s a1).svc k = s.svc k) ∧ (∀ k, (State.waitOp s a1).valve' k = s.valve' k) ∧
    (∀ k, (State.waitOp s a1).bank k = s.bank k) ∧ (∀ k, (State.waitOp s a1).boost k = s.boost k) ∧
    (∀ k, (State.waitOp s a1).ant k = s.ant k) ∧ (∀ k, (State.waitOp s a1).partition k = s.partition k) ∧
    (∀ k, (State.waitOp s a1).lin k = s.lin k) ∧ (∀ k, (State.waitOp s a1).hostFn k = s.hostFn k) ∧
    (∀ k, (State.waitOp s a1).parkSlot k = s.parkSlot k) ∧ (∀ k, (State.waitOp s a1).sensor k = s.sensor k) ∧
    (∀ k, (State.waitOp s a1).link k = s.link k) ∧ (∀ k, (State.waitOp s a1).sw k = s.sw k) ∧
    (State.waitOp s a1).variant = s.variant ∧ (∀ k, (State.waitOp s a1).decl k = s.decl k) ∧
    (∀ k, (State.waitOp s a1).sig k = s.sig k) :=
  ⟨part_of_without (m := 33554436) (State.waitOp_frame _ _ rfl) rfl,
    keeper_of_without (m := 33554436) (State.waitOp_frame _ _ rfl) rfl,
    faults_of_without (m := 33554436) (State.waitOp_frame _ _ rfl) rfl,
    signals_of_without (m := 33554436) (State.waitOp_frame _ _ rfl) rfl,
    sensing_of_without (m := 33554436) (State.waitOp_frame _ _ rfl) rfl,
    ctrl_of_without (m := 33554436) (State.waitOp_frame _ _ rfl) rfl,
    valve_of_without (m := 33554436) (State.waitOp_frame _ _ rfl) rfl,
    gnss_of_without (m := 33554436) (State.waitOp_frame _ _ rfl) rfl,
    imu_of_without (m := 33554436) (State.waitOp_frame _ _ rfl) rfl,
    cam_of_without (m := 33554436) (State.waitOp_frame _ _ rfl) rfl,
    crown_of_without (m := 33554436) (State.waitOp_frame _ _ rfl) rfl,
    granary_of_without (m := 33554436) (State.waitOp_frame _ _ rfl) rfl,
    outs_of_without (m := 33554436) (State.waitOp_frame _ _ rfl) rfl,
    swin_of_without (m := 33554436) (State.waitOp_frame _ _ rfl) rfl,
    body_of_without (m := 33554436) (State.waitOp_frame _ _ rfl) rfl,
    fans_of_without (m := 33554436) (State.waitOp_frame _ _ rfl) rfl,
    plate_of_without (m := 33554436) (State.waitOp_frame _ _ rfl) rfl,
    can_of_without (m := 33554436) (State.waitOp_frame _ _ rfl) rfl,
    eth_of_without (m := 33554436) (State.waitOp_frame _ _ rfl) rfl,
    nm_of_without (m := 33554436) (State.waitOp_frame _ _ rfl) rfl,
    root_of_without (m := 33554436) (State.waitOp_frame _ _ rfl) rfl,
    graft_of_without (m := 33554436) (State.waitOp_frame _ _ rfl) rfl,
    attic_of_without (m := 33554436) (State.waitOp_frame _ _ rfl) rfl,
    larder_of_without (m := 33554436) (State.waitOp_frame _ _ rfl) rfl,
    thermal_of_without (m := 33554436) (State.waitOp_frame _ _ rfl) rfl,
    jtag_of_without (m := 33554436) (State.waitOp_frame _ _ rfl) rfl,
    kept_of_without (m := 33554436) (State.waitOp_frame _ _ rfl) rfl,
    keptDirty_of_without (m := 33554436) (State.waitOp_frame _ _ rfl) rfl,
    keptAt_of_without (m := 33554436) (State.waitOp_frame _ _ rfl) rfl,
    free_of_without (m := 33554436) (State.waitOp_frame _ _ rfl) rfl,
    pending_of_without (m := 33554436) (State.waitOp_frame _ _ rfl) rfl,
    (fun k => by unfold State.win; rw [keeper_of_without (m := 33554436) (State.waitOp_frame _ _ rfl) rfl]),
    (fun k => by unfold State.lossCh; rw [sensing_of_without (m := 33554436) (State.waitOp_frame _ _ rfl) rfl]),
    (fun k => by unfold State.bridgeCh; rw [sensing_of_without (m := 33554436) (State.waitOp_frame _ _ rfl) rfl]),
    (fun k => by unfold State.ainCh; rw [sensing_of_without (m := 33554436) (State.waitOp_frame _ _ rfl) rfl]),
    (fun k => by unfold State.freqCh; rw [sensing_of_without (m := 33554436) (State.waitOp_frame _ _ rfl) rfl]),
    (fun k => by unfold State.supCh; rw [sensing_of_without (m := 33554436) (State.waitOp_frame _ _ rfl) rfl]),
    (fun k => by unfold State.canCh; rw [can_of_without (m := 33554436) (State.waitOp_frame _ _ rfl) rfl]),
    (fun k => by unfold State.ethPort; rw [eth_of_without (m := 33554436) (State.waitOp_frame _ _ rfl) rfl]),
    (fun k => by unfold State.net; rw [nm_of_without (m := 33554436) (State.waitOp_frame _ _ rfl) rfl]),
    (fun k => by unfold State.port; rw [cam_of_without (m := 33554436) (State.waitOp_frame _ _ rfl) rfl]),
    (fun k => by unfold State.lamp; rw [cam_of_without (m := 33554436) (State.waitOp_frame _ _ rfl) rfl]),
    (fun k => by unfold State.slot; rw [crown_of_without (m := 33554436) (State.waitOp_frame _ _ rfl) rfl]),
    (fun k => by unfold State.crownUnit; rw [crown_of_without (m := 33554436) (State.waitOp_frame _ _ rfl) rfl]),
    (fun k => by unfold State.loop; rw [ctrl_of_without (m := 33554436) (State.waitOp_frame _ _ rfl) rfl]),
    (fun k => by unfold State.trace; rw [ctrl_of_without (m := 33554436) (State.waitOp_frame _ _ rfl) rfl]),
    (fun k => by unfold State.lidar; rw [eth_of_without (m := 33554436) (State.waitOp_frame _ _ rfl) rfl]),
    (fun k => by unfold State.ring; rw [eth_of_without (m := 33554436) (State.waitOp_frame _ _ rfl) rfl]),
    (fun k => by unfold State.fan; rw [fans_of_without (m := 33554436) (State.waitOp_frame _ _ rfl) rfl]),
    (fun k => by unfold State.out; rw [outs_of_without (m := 33554436) (State.waitOp_frame _ _ rfl) rfl]),
    (fun k => by unfold State.group; rw [outs_of_without (m := 33554436) (State.waitOp_frame _ _ rfl) rfl]),
    (fun k => by unfold State.hb; rw [outs_of_without (m := 33554436) (State.waitOp_frame _ _ rfl) rfl]),
    (fun k => by unfold State.svc; rw [body_of_without (m := 33554436) (State.waitOp_frame _ _ rfl) rfl]),
    (fun k => by unfold State.valve'; rw [valve_of_without (m := 33554436) (State.waitOp_frame _ _ rfl) rfl]),
    (fun k => by unfold State.bank; rw [valve_of_without (m := 33554436) (State.waitOp_frame _ _ rfl) rfl]),
    (fun k => by unfold State.boost; rw [valve_of_without (m := 33554436) (State.waitOp_frame _ _ rfl) rfl]),
    (fun k => by unfold State.ant; rw [gnss_of_without (m := 33554436) (State.waitOp_frame _ _ rfl) rfl]),
    (fun k => by unfold State.partition; rw [keeper_of_without (m := 33554436) (State.waitOp_frame _ _ rfl) rfl]),
    (fun k => by unfold State.lin; rw [body_of_without (m := 33554436) (State.waitOp_frame _ _ rfl) rfl]),
    (fun k => by unfold State.hostFn; rw [keeper_of_without (m := 33554436) (State.waitOp_frame _ _ rfl) rfl]),
    (fun k => by unfold State.parkSlot; rw [outs_of_without (m := 33554436) (State.waitOp_frame _ _ rfl) rfl]),
    (fun k => by unfold State.sensor; rw [thermal_of_without (m := 33554436) (State.waitOp_frame _ _ rfl) rfl]),
    (fun k => by unfold State.link; rw [root_of_without (m := 33554436) (State.waitOp_frame _ _ rfl) rfl]),
    (fun k => by unfold State.sw; rw [swin_of_without (m := 33554436) (State.waitOp_frame _ _ rfl) rfl]),
    (by unfold State.variant; rw [part_of_without (m := 33554436) (State.waitOp_frame _ _ rfl) rfl]),
    (fun k => by unfold State.decl; rw [keeper_of_without (m := 33554436) (State.waitOp_frame _ _ rfl) rfl]),
    (fun k => by unfold State.sig; rw [signals_of_without (m := 33554436) (State.waitOp_frame _ _ rfl) rfl])⟩
/-- What `State.dirty` leaves as it is. -/
@[simp] theorem State.dirty_leaves (s) :
    (State.dirty s).part = s.part ∧ (State.dirty s).keeper = s.keeper ∧ (State.dirty s).time = s.time ∧
    (State.dirty s).faults = s.faults ∧ (State.dirty s).signals = s.signals ∧ (State.dirty s).sensing = s.sensing ∧
    (State.dirty s).ctrl = s.ctrl ∧ (State.dirty s).valve = s.valve ∧ (State.dirty s).gnss = s.gnss ∧
    (State.dirty s).imu = s.imu ∧ (State.dirty s).cam = s.cam ∧ (State.dirty s).crown = s.crown ∧
    (State.dirty s).granary = s.granary ∧ (State.dirty s).outs = s.outs ∧ (State.dirty s).swin = s.swin ∧
    (State.dirty s).body = s.body ∧ (State.dirty s).fans = s.fans ∧ (State.dirty s).plate = s.plate ∧
    (State.dirty s).can = s.can ∧ (State.dirty s).eth = s.eth ∧ (State.dirty s).nm = s.nm ∧ (State.dirty s).root = s.root ∧
    (State.dirty s).graft = s.graft ∧ (State.dirty s).attic = s.attic ∧ (State.dirty s).larder = s.larder ∧
    (State.dirty s).power = s.power ∧ (State.dirty s).thermal = s.thermal ∧ (State.dirty s).jtag = s.jtag ∧
    (State.dirty s).kept = s.kept ∧ (State.dirty s).keptAt = s.keptAt ∧ (State.dirty s).free = s.free ∧
    (State.dirty s).pending = s.pending ∧ (∀ k, (State.dirty s).win k = s.win k) ∧
    (∀ k, (State.dirty s).lossCh k = s.lossCh k) ∧ (∀ k, (State.dirty s).bridgeCh k = s.bridgeCh k) ∧
    (∀ k, (State.dirty s).ainCh k = s.ainCh k) ∧ (∀ k, (State.dirty s).freqCh k = s.freqCh k) ∧
    (∀ k, (State.dirty s).supCh k = s.supCh k) ∧ (∀ k, (State.dirty s).canCh k = s.canCh k) ∧
    (∀ k, (State.dirty s).ethPort k = s.ethPort k) ∧ (∀ k, (State.dirty s).net k = s.net k) ∧
    (∀ k, (State.dirty s).port k = s.port k) ∧ (∀ k, (State.dirty s).lamp k = s.lamp k) ∧
    (∀ k, (State.dirty s).slot k = s.slot k) ∧ (∀ k, (State.dirty s).crownUnit k = s.crownUnit k) ∧
    (∀ k, (State.dirty s).loop k = s.loop k) ∧ (∀ k, (State.dirty s).trace k = s.trace k) ∧
    (∀ k, (State.dirty s).lidar k = s.lidar k) ∧ (∀ k, (State.dirty s).ring k = s.ring k) ∧
    (∀ k, (State.dirty s).fan k = s.fan k) ∧ (∀ k, (State.dirty s).out k = s.out k) ∧
    (∀ k, (State.dirty s).group k = s.group k) ∧ (∀ k, (State.dirty s).hb k = s.hb k) ∧
    (∀ k, (State.dirty s).svc k = s.svc k) ∧ (∀ k, (State.dirty s).valve' k = s.valve' k) ∧
    (∀ k, (State.dirty s).bank k = s.bank k) ∧ (∀ k, (State.dirty s).boost k = s.boost k) ∧
    (∀ k, (State.dirty s).ant k = s.ant k) ∧ (∀ k, (State.dirty s).partition k = s.partition k) ∧
    (∀ k, (State.dirty s).lin k = s.lin k) ∧ (∀ k, (State.dirty s).hostFn k = s.hostFn k) ∧
    (∀ k, (State.dirty s).parkSlot k = s.parkSlot k) ∧ (∀ k, (State.dirty s).stud k = s.stud k) ∧
    (∀ k, (State.dirty s).sensor k = s.sensor k) ∧ (∀ k, (State.dirty s).link k = s.link k) ∧
    (∀ k, (State.dirty s).sw k = s.sw k) ∧ (State.dirty s).hw = s.hw ∧ (State.dirty s).variant = s.variant ∧
    (State.dirty s).trunkOn = s.trunkOn ∧ (State.dirty s).inRun = s.inRun ∧ (State.dirty s).operating = s.operating ∧
    (State.dirty s).parked = s.parked ∧ (∀ k, (State.dirty s).decl k = s.decl k) ∧ (∀ k, (State.dirty s).sig k = s.sig k) :=
  ⟨part_of_without (m := 536870912) (State.dirty_frame _ rfl) rfl,
    keeper_of_without (m := 536870912) (State.dirty_frame _ rfl) rfl,
    time_of_without (m := 536870912) (State.dirty_frame _ rfl) rfl,
    faults_of_without (m := 536870912) (State.dirty_frame _ rfl) rfl,
    signals_of_without (m := 536870912) (State.dirty_frame _ rfl) rfl,
    sensing_of_without (m := 536870912) (State.dirty_frame _ rfl) rfl,
    ctrl_of_without (m := 536870912) (State.dirty_frame _ rfl) rfl,
    valve_of_without (m := 536870912) (State.dirty_frame _ rfl) rfl,
    gnss_of_without (m := 536870912) (State.dirty_frame _ rfl) rfl,
    imu_of_without (m := 536870912) (State.dirty_frame _ rfl) rfl,
    cam_of_without (m := 536870912) (State.dirty_frame _ rfl) rfl,
    crown_of_without (m := 536870912) (State.dirty_frame _ rfl) rfl,
    granary_of_without (m := 536870912) (State.dirty_frame _ rfl) rfl,
    outs_of_without (m := 536870912) (State.dirty_frame _ rfl) rfl,
    swin_of_without (m := 536870912) (State.dirty_frame _ rfl) rfl,
    body_of_without (m := 536870912) (State.dirty_frame _ rfl) rfl,
    fans_of_without (m := 536870912) (State.dirty_frame _ rfl) rfl,
    plate_of_without (m := 536870912) (State.dirty_frame _ rfl) rfl,
    can_of_without (m := 536870912) (State.dirty_frame _ rfl) rfl,
    eth_of_without (m := 536870912) (State.dirty_frame _ rfl) rfl,
    nm_of_without (m := 536870912) (State.dirty_frame _ rfl) rfl,
    root_of_without (m := 536870912) (State.dirty_frame _ rfl) rfl,
    graft_of_without (m := 536870912) (State.dirty_frame _ rfl) rfl,
    attic_of_without (m := 536870912) (State.dirty_frame _ rfl) rfl,
    larder_of_without (m := 536870912) (State.dirty_frame _ rfl) rfl,
    power_of_without (m := 536870912) (State.dirty_frame _ rfl) rfl,
    thermal_of_without (m := 536870912) (State.dirty_frame _ rfl) rfl,
    jtag_of_without (m := 536870912) (State.dirty_frame _ rfl) rfl,
    kept_of_without (m := 536870912) (State.dirty_frame _ rfl) rfl,
    keptAt_of_without (m := 536870912) (State.dirty_frame _ rfl) rfl,
    free_of_without (m := 536870912) (State.dirty_frame _ rfl) rfl,
    pending_of_without (m := 536870912) (State.dirty_frame _ rfl) rfl,
    (fun k => by unfold State.win; rw [keeper_of_without (m := 536870912) (State.dirty_frame _ rfl) rfl]),
    (fun k => by unfold State.lossCh; rw [sensing_of_without (m := 536870912) (State.dirty_frame _ rfl) rfl]),
    (fun k => by unfold State.bridgeCh; rw [sensing_of_without (m := 536870912) (State.dirty_frame _ rfl) rfl]),
    (fun k => by unfold State.ainCh; rw [sensing_of_without (m := 536870912) (State.dirty_frame _ rfl) rfl]),
    (fun k => by unfold State.freqCh; rw [sensing_of_without (m := 536870912) (State.dirty_frame _ rfl) rfl]),
    (fun k => by unfold State.supCh; rw [sensing_of_without (m := 536870912) (State.dirty_frame _ rfl) rfl]),
    (fun k => by unfold State.canCh; rw [can_of_without (m := 536870912) (State.dirty_frame _ rfl) rfl]),
    (fun k => by unfold State.ethPort; rw [eth_of_without (m := 536870912) (State.dirty_frame _ rfl) rfl]),
    (fun k => by unfold State.net; rw [nm_of_without (m := 536870912) (State.dirty_frame _ rfl) rfl]),
    (fun k => by unfold State.port; rw [cam_of_without (m := 536870912) (State.dirty_frame _ rfl) rfl]),
    (fun k => by unfold State.lamp; rw [cam_of_without (m := 536870912) (State.dirty_frame _ rfl) rfl]),
    (fun k => by unfold State.slot; rw [crown_of_without (m := 536870912) (State.dirty_frame _ rfl) rfl]),
    (fun k => by unfold State.crownUnit; rw [crown_of_without (m := 536870912) (State.dirty_frame _ rfl) rfl]),
    (fun k => by unfold State.loop; rw [ctrl_of_without (m := 536870912) (State.dirty_frame _ rfl) rfl]),
    (fun k => by unfold State.trace; rw [ctrl_of_without (m := 536870912) (State.dirty_frame _ rfl) rfl]),
    (fun k => by unfold State.lidar; rw [eth_of_without (m := 536870912) (State.dirty_frame _ rfl) rfl]),
    (fun k => by unfold State.ring; rw [eth_of_without (m := 536870912) (State.dirty_frame _ rfl) rfl]),
    (fun k => by unfold State.fan; rw [fans_of_without (m := 536870912) (State.dirty_frame _ rfl) rfl]),
    (fun k => by unfold State.out; rw [outs_of_without (m := 536870912) (State.dirty_frame _ rfl) rfl]),
    (fun k => by unfold State.group; rw [outs_of_without (m := 536870912) (State.dirty_frame _ rfl) rfl]),
    (fun k => by unfold State.hb; rw [outs_of_without (m := 536870912) (State.dirty_frame _ rfl) rfl]),
    (fun k => by unfold State.svc; rw [body_of_without (m := 536870912) (State.dirty_frame _ rfl) rfl]),
    (fun k => by unfold State.valve'; rw [valve_of_without (m := 536870912) (State.dirty_frame _ rfl) rfl]),
    (fun k => by unfold State.bank; rw [valve_of_without (m := 536870912) (State.dirty_frame _ rfl) rfl]),
    (fun k => by unfold State.boost; rw [valve_of_without (m := 536870912) (State.dirty_frame _ rfl) rfl]),
    (fun k => by unfold State.ant; rw [gnss_of_without (m := 536870912) (State.dirty_frame _ rfl) rfl]),
    (fun k => by unfold State.partition; rw [keeper_of_without (m := 536870912) (State.dirty_frame _ rfl) rfl]),
    (fun k => by unfold State.lin; rw [body_of_without (m := 536870912) (State.dirty_frame _ rfl) rfl]),
    (fun k => by unfold State.hostFn; rw [keeper_of_without (m := 536870912) (State.dirty_frame _ rfl) rfl]),
    (fun k => by unfold State.parkSlot; rw [outs_of_without (m := 536870912) (State.dirty_frame _ rfl) rfl]),
    (fun k => by unfold State.stud; rw [power_of_without (m := 536870912) (State.dirty_frame _ rfl) rfl]),
    (fun k => by unfold State.sensor; rw [thermal_of_without (m := 536870912) (State.dirty_frame _ rfl) rfl]),
    (fun k => by unfold State.link; rw [root_of_without (m := 536870912) (State.dirty_frame _ rfl) rfl]),
    (fun k => by unfold State.sw; rw [swin_of_without (m := 536870912) (State.dirty_frame _ rfl) rfl]),
    (by unfold State.hw; rw [time_of_without (m := 536870912) (State.dirty_frame _ rfl) rfl]),
    (by unfold State.variant; rw [part_of_without (m := 536870912) (State.dirty_frame _ rfl) rfl]),
    (by unfold State.trunkOn; rw [power_of_without (m := 536870912) (State.dirty_frame _ rfl) rfl]),
    (by unfold State.inRun; rw [power_of_without (m := 536870912) (State.dirty_frame _ rfl) rfl]),
    (by unfold State.operating; rw [power_of_without (m := 536870912) (State.dirty_frame _ rfl) rfl]),
    (by unfold State.parked; rw [power_of_without (m := 536870912) (State.dirty_frame _ rfl) rfl]),
    (fun k => by unfold State.decl; rw [keeper_of_without (m := 536870912) (State.dirty_frame _ rfl) rfl]),
    (fun k => by unfold State.sig; rw [signals_of_without (m := 536870912) (State.dirty_frame _ rfl) rfl])⟩
/-- What `State.larderWrite` leaves as it is. -/
@[simp] theorem State.larderWrite_leaves (s) (a1) (a2) (a3) (a4) (a5) (a6) (a7) (a8) (a9) (a10) :
    (State.larderWrite s a1 a2 a3 a4 a5 a6 a7 a8 a9 a10).part = s.part ∧
    (State.larderWrite s a1 a2 a3 a4 a5 a6 a7 a8 a9 a10).keeper = s.keeper ∧
    (State.larderWrite s a1 a2 a3 a4 a5 a6 a7 a8 a9 a10).time = s.time ∧
    (State.larderWrite s a1 a2 a3 a4 a5 a6 a7 a8 a9 a10).faults = s.faults ∧
    (State.larderWrite s a1 a2 a3 a4 a5 a6 a7 a8 a9 a10).signals = s.signals ∧
    (State.larderWrite s a1 a2 a3 a4 a5 a6 a7 a8 a9 a10).sensing = s.sensing ∧
    (State.larderWrite s a1 a2 a3 a4 a5 a6 a7 a8 a9 a10).ctrl = s.ctrl ∧
    (State.larderWrite s a1 a2 a3 a4 a5 a6 a7 a8 a9 a10).valve = s.valve ∧
    (State.larderWrite s a1 a2 a3 a4 a5 a6 a7 a8 a9 a10).gnss = s.gnss ∧
    (State.larderWrite s a1 a2 a3 a4 a5 a6 a7 a8 a9 a10).imu = s.imu ∧
    (State.larderWrite s a1 a2 a3 a4 a5 a6 a7 a8 a9 a10).cam = s.cam ∧
    (State.larderWrite s a1 a2 a3 a4 a5 a6 a7 a8 a9 a10).crown = s.crown ∧
    (State.larderWrite s a1 a2 a3 a4 a5 a6 a7 a8 a9 a10).granary = s.granary ∧
    (State.larderWrite s a1 a2 a3 a4 a5 a6 a7 a8 a9 a10).outs = s.outs ∧
    (State.larderWrite s a1 a2 a3 a4 a5 a6 a7 a8 a9 a10).swin = s.swin ∧
    (State.larderWrite s a1 a2 a3 a4 a5 a6 a7 a8 a9 a10).body = s.body ∧
    (State.larderWrite s a1 a2 a3 a4 a5 a6 a7 a8 a9 a10).fans = s.fans ∧
    (State.larderWrite s a1 a2 a3 a4 a5 a6 a7 a8 a9 a10).plate = s.plate ∧
    (State.larderWrite s a1 a2 a3 a4 a5 a6 a7 a8 a9 a10).can = s.can ∧
    (State.larderWrite s a1 a2 a3 a4 a5 a6 a7 a8 a9 a10).eth = s.eth ∧
    (State.larderWrite s a1 a2 a3 a4 a5 a6 a7 a8 a9 a10).nm = s.nm ∧
    (State.larderWrite s a1 a2 a3 a4 a5 a6 a7 a8 a9 a10).root = s.root ∧
    (State.larderWrite s a1 a2 a3 a4 a5 a6 a7 a8 a9 a10).graft = s.graft ∧
    (State.larderWrite s a1 a2 a3 a4 a5 a6 a7 a8 a9 a10).attic = s.attic ∧
    (State.larderWrite s a1 a2 a3 a4 a5 a6 a7 a8 a9 a10).power = s.power ∧
    (State.larderWrite s a1 a2 a3 a4 a5 a6 a7 a8 a9 a10).thermal = s.thermal ∧
    (State.larderWrite s a1 a2 a3 a4 a5 a6 a7 a8 a9 a10).jtag = s.jtag ∧
    (State.larderWrite s a1 a2 a3 a4 a5 a6 a7 a8 a9 a10).kept = s.kept ∧
    (State.larderWrite s a1 a2 a3 a4 a5 a6 a7 a8 a9 a10).keptDirty = s.keptDirty ∧
    (State.larderWrite s a1 a2 a3 a4 a5 a6 a7 a8 a9 a10).keptAt = s.keptAt ∧
    (State.larderWrite s a1 a2 a3 a4 a5 a6 a7 a8 a9 a10).free = s.free ∧
    (State.larderWrite s a1 a2 a3 a4 a5 a6 a7 a8 a9 a10).pending = s.pending ∧
    (∀ k, (State.larderWrite s a1 a2 a3 a4 a5 a6 a7 a8 a9 a10).win k = s.win k) ∧
    (∀ k, (State.larderWrite s a1 a2 a3 a4 a5 a6 a7 a8 a9 a10).lossCh k = s.lossCh k) ∧
    (∀ k, (State.larderWrite s a1 a2 a3 a4 a5 a6 a7 a8 a9 a10).bridgeCh k = s.bridgeCh k) ∧
    (∀ k, (State.larderWrite s a1 a2 a3 a4 a5 a6 a7 a8 a9 a10).ainCh k = s.ainCh k) ∧
    (∀ k, (State.larderWrite s a1 a2 a3 a4 a5 a6 a7 a8 a9 a10).freqCh k = s.freqCh k) ∧
    (∀ k, (State.larderWrite s a1 a2 a3 a4 a5 a6 a7 a8 a9 a10).supCh k = s.supCh k) ∧
    (∀ k, (State.larderWrite s a1 a2 a3 a4 a5 a6 a7 a8 a9 a10).canCh k = s.canCh k) ∧
    (∀ k, (State.larderWrite s a1 a2 a3 a4 a5 a6 a7 a8 a9 a10).ethPort k = s.ethPort k) ∧
    (∀ k, (State.larderWrite s a1 a2 a3 a4 a5 a6 a7 a8 a9 a10).net k = s.net k) ∧
    (∀ k, (State.larderWrite s a1 a2 a3 a4 a5 a6 a7 a8 a9 a10).port k = s.port k) ∧
    (∀ k, (State.larderWrite s a1 a2 a3 a4 a5 a6 a7 a8 a9 a10).lamp k = s.lamp k) ∧
    (∀ k, (State.larderWrite s a1 a2 a3 a4 a5 a6 a7 a8 a9 a10).slot k = s.slot k) ∧
    (∀ k, (State.larderWrite s a1 a2 a3 a4 a5 a6 a7 a8 a9 a10).crownUnit k = s.crownUnit k) ∧
    (∀ k, (State.larderWrite s a1 a2 a3 a4 a5 a6 a7 a8 a9 a10).loop k = s.loop k) ∧
    (∀ k, (State.larderWrite s a1 a2 a3 a4 a5 a6 a7 a8 a9 a10).trace k = s.trace k) ∧
    (∀ k, (State.larderWrite s a1 a2 a3 a4 a5 a6 a7 a8 a9 a10).lidar k = s.lidar k) ∧
    (∀ k, (State.larderWrite s a1 a2 a3 a4 a5 a6 a7 a8 a9 a10).ring k = s.ring k) ∧
    (∀ k, (State.larderWrite s a1 a2 a3 a4 a5 a6 a7 a8 a9 a10).fan k = s.fan k) ∧
    (∀ k, (State.larderWrite s a1 a2 a3 a4 a5 a6 a7 a8 a9 a10).out k = s.out k) ∧
    (∀ k, (State.larderWrite s a1 a2 a3 a4 a5 a6 a7 a8 a9 a10).group k = s.group k) ∧
    (∀ k, (State.larderWrite s a1 a2 a3 a4 a5 a6 a7 a8 a9 a10).hb k = s.hb k) ∧
    (∀ k, (State.larderWrite s a1 a2 a3 a4 a5 a6 a7 a8 a9 a10).svc k = s.svc k) ∧
    (∀ k, (State.larderWrite s a1 a2 a3 a4 a5 a6 a7 a8 a9 a10).valve' k = s.valve' k) ∧
    (∀ k, (State.larderWrite s a1 a2 a3 a4 a5 a6 a7 a8 a9 a10).bank k = s.bank k) ∧
    (∀ k, (State.larderWrite s a1 a2 a3 a4 a5 a6 a7 a8 a9 a10).boost k = s.boost k) ∧
    (∀ k, (State.larderWrite s a1 a2 a3 a4 a5 a6 a7 a8 a9 a10).ant k = s.ant k) ∧
    (∀ k, (State.larderWrite s a1 a2 a3 a4 a5 a6 a7 a8 a9 a10).partition k = s.partition k) ∧
    (∀ k, (State.larderWrite s a1 a2 a3 a4 a5 a6 a7 a8 a9 a10).lin k = s.lin k) ∧
    (∀ k, (State.larderWrite s a1 a2 a3 a4 a5 a6 a7 a8 a9 a10).hostFn k = s.hostFn k) ∧
    (∀ k, (State.larderWrite s a1 a2 a3 a4 a5 a6 a7 a8 a9 a10).parkSlot k = s.parkSlot k) ∧
    (∀ k, (State.larderWrite s a1 a2 a3 a4 a5 a6 a7 a8 a9 a10).stud k = s.stud k) ∧
    (∀ k, (State.larderWrite s a1 a2 a3 a4 a5 a6 a7 a8 a9 a10).sensor k = s.sensor k) ∧
    (∀ k, (State.larderWrite s a1 a2 a3 a4 a5 a6 a7 a8 a9 a10).link k = s.link k) ∧
    (∀ k, (State.larderWrite s a1 a2 a3 a4 a5 a6 a7 a8 a9 a10).sw k = s.sw k) ∧
    (State.larderWrite s a1 a2 a3 a4 a5 a6 a7 a8 a9 a10).hw = s.hw ∧
    (State.larderWrite s a1 a2 a3 a4 a5 a6 a7 a8 a9 a10).variant = s.variant ∧
    (State.larderWrite s a1 a2 a3 a4 a5 a6 a7 a8 a9 a10).trunkOn = s.trunkOn ∧
    (State.larderWrite s a1 a2 a3 a4 a5 a6 a7 a8 a9 a10).inRun = s.inRun ∧
    (State.larderWrite s a1 a2 a3 a4 a5 a6 a7 a8 a9 a10).operating = s.operating ∧
    (State.larderWrite s a1 a2 a3 a4 a5 a6 a7 a8 a9 a10).parked = s.parked ∧
    (∀ k, (State.larderWrite s a1 a2 a3 a4 a5 a6 a7 a8 a9 a10).decl k = s.decl k) ∧
    (∀ k, (State.larderWrite s a1 a2 a3 a4 a5 a6 a7 a8 a9 a10).sig k = s.sig k) :=
  ⟨part_of_without (m := 16777216) (State.larderWrite_frame _ _ _ _ _ _ _ _ _ _ _ rfl) rfl,
    keeper_of_without (m := 16777216) (State.larderWrite_frame _ _ _ _ _ _ _ _ _ _ _ rfl) rfl,
    time_of_without (m := 16777216) (State.larderWrite_frame _ _ _ _ _ _ _ _ _ _ _ rfl) rfl,
    faults_of_without (m := 16777216) (State.larderWrite_frame _ _ _ _ _ _ _ _ _ _ _ rfl) rfl,
    signals_of_without (m := 16777216) (State.larderWrite_frame _ _ _ _ _ _ _ _ _ _ _ rfl) rfl,
    sensing_of_without (m := 16777216) (State.larderWrite_frame _ _ _ _ _ _ _ _ _ _ _ rfl) rfl,
    ctrl_of_without (m := 16777216) (State.larderWrite_frame _ _ _ _ _ _ _ _ _ _ _ rfl) rfl,
    valve_of_without (m := 16777216) (State.larderWrite_frame _ _ _ _ _ _ _ _ _ _ _ rfl) rfl,
    gnss_of_without (m := 16777216) (State.larderWrite_frame _ _ _ _ _ _ _ _ _ _ _ rfl) rfl,
    imu_of_without (m := 16777216) (State.larderWrite_frame _ _ _ _ _ _ _ _ _ _ _ rfl) rfl,
    cam_of_without (m := 16777216) (State.larderWrite_frame _ _ _ _ _ _ _ _ _ _ _ rfl) rfl,
    crown_of_without (m := 16777216) (State.larderWrite_frame _ _ _ _ _ _ _ _ _ _ _ rfl) rfl,
    granary_of_without (m := 16777216) (State.larderWrite_frame _ _ _ _ _ _ _ _ _ _ _ rfl) rfl,
    outs_of_without (m := 16777216) (State.larderWrite_frame _ _ _ _ _ _ _ _ _ _ _ rfl) rfl,
    swin_of_without (m := 16777216) (State.larderWrite_frame _ _ _ _ _ _ _ _ _ _ _ rfl) rfl,
    body_of_without (m := 16777216) (State.larderWrite_frame _ _ _ _ _ _ _ _ _ _ _ rfl) rfl,
    fans_of_without (m := 16777216) (State.larderWrite_frame _ _ _ _ _ _ _ _ _ _ _ rfl) rfl,
    plate_of_without (m := 16777216) (State.larderWrite_frame _ _ _ _ _ _ _ _ _ _ _ rfl) rfl,
    can_of_without (m := 16777216) (State.larderWrite_frame _ _ _ _ _ _ _ _ _ _ _ rfl) rfl,
    eth_of_without (m := 16777216) (State.larderWrite_frame _ _ _ _ _ _ _ _ _ _ _ rfl) rfl,
    nm_of_without (m := 16777216) (State.larderWrite_frame _ _ _ _ _ _ _ _ _ _ _ rfl) rfl,
    root_of_without (m := 16777216) (State.larderWrite_frame _ _ _ _ _ _ _ _ _ _ _ rfl) rfl,
    graft_of_without (m := 16777216) (State.larderWrite_frame _ _ _ _ _ _ _ _ _ _ _ rfl) rfl,
    attic_of_without (m := 16777216) (State.larderWrite_frame _ _ _ _ _ _ _ _ _ _ _ rfl) rfl,
    power_of_without (m := 16777216) (State.larderWrite_frame _ _ _ _ _ _ _ _ _ _ _ rfl) rfl,
    thermal_of_without (m := 16777216) (State.larderWrite_frame _ _ _ _ _ _ _ _ _ _ _ rfl) rfl,
    jtag_of_without (m := 16777216) (State.larderWrite_frame _ _ _ _ _ _ _ _ _ _ _ rfl) rfl,
    kept_of_without (m := 16777216) (State.larderWrite_frame _ _ _ _ _ _ _ _ _ _ _ rfl) rfl,
    keptDirty_of_without (m := 16777216) (State.larderWrite_frame _ _ _ _ _ _ _ _ _ _ _ rfl) rfl,
    keptAt_of_without (m := 16777216) (State.larderWrite_frame _ _ _ _ _ _ _ _ _ _ _ rfl) rfl,
    free_of_without (m := 16777216) (State.larderWrite_frame _ _ _ _ _ _ _ _ _ _ _ rfl) rfl,
    pending_of_without (m := 16777216) (State.larderWrite_frame _ _ _ _ _ _ _ _ _ _ _ rfl) rfl,
    (fun k => by unfold State.win; rw [keeper_of_without (m := 16777216) (State.larderWrite_frame _ _ _ _ _ _ _ _ _ _ _ rfl) rfl]),
    (fun k => by unfold State.lossCh; rw [sensing_of_without (m := 16777216) (State.larderWrite_frame _ _ _ _ _ _ _ _ _ _ _ rfl) rfl]),
    (fun k => by unfold State.bridgeCh; rw [sensing_of_without (m := 16777216) (State.larderWrite_frame _ _ _ _ _ _ _ _ _ _ _ rfl) rfl]),
    (fun k => by unfold State.ainCh; rw [sensing_of_without (m := 16777216) (State.larderWrite_frame _ _ _ _ _ _ _ _ _ _ _ rfl) rfl]),
    (fun k => by unfold State.freqCh; rw [sensing_of_without (m := 16777216) (State.larderWrite_frame _ _ _ _ _ _ _ _ _ _ _ rfl) rfl]),
    (fun k => by unfold State.supCh; rw [sensing_of_without (m := 16777216) (State.larderWrite_frame _ _ _ _ _ _ _ _ _ _ _ rfl) rfl]),
    (fun k => by unfold State.canCh; rw [can_of_without (m := 16777216) (State.larderWrite_frame _ _ _ _ _ _ _ _ _ _ _ rfl) rfl]),
    (fun k => by unfold State.ethPort; rw [eth_of_without (m := 16777216) (State.larderWrite_frame _ _ _ _ _ _ _ _ _ _ _ rfl) rfl]),
    (fun k => by unfold State.net; rw [nm_of_without (m := 16777216) (State.larderWrite_frame _ _ _ _ _ _ _ _ _ _ _ rfl) rfl]),
    (fun k => by unfold State.port; rw [cam_of_without (m := 16777216) (State.larderWrite_frame _ _ _ _ _ _ _ _ _ _ _ rfl) rfl]),
    (fun k => by unfold State.lamp; rw [cam_of_without (m := 16777216) (State.larderWrite_frame _ _ _ _ _ _ _ _ _ _ _ rfl) rfl]),
    (fun k => by unfold State.slot; rw [crown_of_without (m := 16777216) (State.larderWrite_frame _ _ _ _ _ _ _ _ _ _ _ rfl) rfl]),
    (fun k => by unfold State.crownUnit; rw [crown_of_without (m := 16777216) (State.larderWrite_frame _ _ _ _ _ _ _ _ _ _ _ rfl) rfl]),
    (fun k => by unfold State.loop; rw [ctrl_of_without (m := 16777216) (State.larderWrite_frame _ _ _ _ _ _ _ _ _ _ _ rfl) rfl]),
    (fun k => by unfold State.trace; rw [ctrl_of_without (m := 16777216) (State.larderWrite_frame _ _ _ _ _ _ _ _ _ _ _ rfl) rfl]),
    (fun k => by unfold State.lidar; rw [eth_of_without (m := 16777216) (State.larderWrite_frame _ _ _ _ _ _ _ _ _ _ _ rfl) rfl]),
    (fun k => by unfold State.ring; rw [eth_of_without (m := 16777216) (State.larderWrite_frame _ _ _ _ _ _ _ _ _ _ _ rfl) rfl]),
    (fun k => by unfold State.fan; rw [fans_of_without (m := 16777216) (State.larderWrite_frame _ _ _ _ _ _ _ _ _ _ _ rfl) rfl]),
    (fun k => by unfold State.out; rw [outs_of_without (m := 16777216) (State.larderWrite_frame _ _ _ _ _ _ _ _ _ _ _ rfl) rfl]),
    (fun k => by unfold State.group; rw [outs_of_without (m := 16777216) (State.larderWrite_frame _ _ _ _ _ _ _ _ _ _ _ rfl) rfl]),
    (fun k => by unfold State.hb; rw [outs_of_without (m := 16777216) (State.larderWrite_frame _ _ _ _ _ _ _ _ _ _ _ rfl) rfl]),
    (fun k => by unfold State.svc; rw [body_of_without (m := 16777216) (State.larderWrite_frame _ _ _ _ _ _ _ _ _ _ _ rfl) rfl]),
    (fun k => by unfold State.valve'; rw [valve_of_without (m := 16777216) (State.larderWrite_frame _ _ _ _ _ _ _ _ _ _ _ rfl) rfl]),
    (fun k => by unfold State.bank; rw [valve_of_without (m := 16777216) (State.larderWrite_frame _ _ _ _ _ _ _ _ _ _ _ rfl) rfl]),
    (fun k => by unfold State.boost; rw [valve_of_without (m := 16777216) (State.larderWrite_frame _ _ _ _ _ _ _ _ _ _ _ rfl) rfl]),
    (fun k => by unfold State.ant; rw [gnss_of_without (m := 16777216) (State.larderWrite_frame _ _ _ _ _ _ _ _ _ _ _ rfl) rfl]),
    (fun k => by unfold State.partition; rw [keeper_of_without (m := 16777216) (State.larderWrite_frame _ _ _ _ _ _ _ _ _ _ _ rfl) rfl]),
    (fun k => by unfold State.lin; rw [body_of_without (m := 16777216) (State.larderWrite_frame _ _ _ _ _ _ _ _ _ _ _ rfl) rfl]),
    (fun k => by unfold State.hostFn; rw [keeper_of_without (m := 16777216) (State.larderWrite_frame _ _ _ _ _ _ _ _ _ _ _ rfl) rfl]),
    (fun k => by unfold State.parkSlot; rw [outs_of_without (m := 16777216) (State.larderWrite_frame _ _ _ _ _ _ _ _ _ _ _ rfl) rfl]),
    (fun k => by unfold State.stud; rw [power_of_without (m := 16777216) (State.larderWrite_frame _ _ _ _ _ _ _ _ _ _ _ rfl) rfl]),
    (fun k => by unfold State.sensor; rw [thermal_of_without (m := 16777216) (State.larderWrite_frame _ _ _ _ _ _ _ _ _ _ _ rfl) rfl]),
    (fun k => by unfold State.link; rw [root_of_without (m := 16777216) (State.larderWrite_frame _ _ _ _ _ _ _ _ _ _ _ rfl) rfl]),
    (fun k => by unfold State.sw; rw [swin_of_without (m := 16777216) (State.larderWrite_frame _ _ _ _ _ _ _ _ _ _ _ rfl) rfl]),
    (by unfold State.hw; rw [time_of_without (m := 16777216) (State.larderWrite_frame _ _ _ _ _ _ _ _ _ _ _ rfl) rfl]),
    (by unfold State.variant; rw [part_of_without (m := 16777216) (State.larderWrite_frame _ _ _ _ _ _ _ _ _ _ _ rfl) rfl]),
    (by unfold State.trunkOn; rw [power_of_without (m := 16777216) (State.larderWrite_frame _ _ _ _ _ _ _ _ _ _ _ rfl) rfl]),
    (by unfold State.inRun; rw [power_of_without (m := 16777216) (State.larderWrite_frame _ _ _ _ _ _ _ _ _ _ _ rfl) rfl]),
    (by unfold State.operating; rw [power_of_without (m := 16777216) (State.larderWrite_frame _ _ _ _ _ _ _ _ _ _ _ rfl) rfl]),
    (by unfold State.parked; rw [power_of_without (m := 16777216) (State.larderWrite_frame _ _ _ _ _ _ _ _ _ _ _ rfl) rfl]),
    (fun k => by unfold State.decl; rw [keeper_of_without (m := 16777216) (State.larderWrite_frame _ _ _ _ _ _ _ _ _ _ _ rfl) rfl]),
    (fun k => by unfold State.sig; rw [signals_of_without (m := 16777216) (State.larderWrite_frame _ _ _ _ _ _ _ _ _ _ _ rfl) rfl])⟩
/-- What `State.ungate` leaves as it is. -/
@[simp] theorem State.ungate_leaves (s) (a1) (a2) :
    (State.ungate s a1 a2).part = s.part ∧ (State.ungate s a1 a2).time = s.time ∧ (State.ungate s a1 a2).faults = s.faults ∧
    (State.ungate s a1 a2).signals = s.signals ∧ (State.ungate s a1 a2).sensing = s.sensing ∧
    (State.ungate s a1 a2).ctrl = s.ctrl ∧ (State.ungate s a1 a2).valve = s.valve ∧ (State.ungate s a1 a2).gnss = s.gnss ∧
    (State.ungate s a1 a2).imu = s.imu ∧ (State.ungate s a1 a2).cam = s.cam ∧ (State.ungate s a1 a2).crown = s.crown ∧
    (State.ungate s a1 a2).granary = s.granary ∧ (State.ungate s a1 a2).outs = s.outs ∧
    (State.ungate s a1 a2).swin = s.swin ∧ (State.ungate s a1 a2).body = s.body ∧ (State.ungate s a1 a2).fans = s.fans ∧
    (State.ungate s a1 a2).plate = s.plate ∧ (State.ungate s a1 a2).can = s.can ∧ (State.ungate s a1 a2).eth = s.eth ∧
    (State.ungate s a1 a2).nm = s.nm ∧ (State.ungate s a1 a2).root = s.root ∧ (State.ungate s a1 a2).graft = s.graft ∧
    (State.ungate s a1 a2).attic = s.attic ∧ (State.ungate s a1 a2).larder = s.larder ∧
    (State.ungate s a1 a2).power = s.power ∧ (State.ungate s a1 a2).thermal = s.thermal ∧
    (State.ungate s a1 a2).jtag = s.jtag ∧ (State.ungate s a1 a2).kept = s.kept ∧
    (State.ungate s a1 a2).keptDirty = s.keptDirty ∧ (State.ungate s a1 a2).keptAt = s.keptAt ∧
    (State.ungate s a1 a2).free = s.free ∧ (State.ungate s a1 a2).pending = s.pending ∧
    (∀ k, (State.ungate s a1 a2).lossCh k = s.lossCh k) ∧ (∀ k, (State.ungate s a1 a2).bridgeCh k = s.bridgeCh k) ∧
    (∀ k, (State.ungate s a1 a2).ainCh k = s.ainCh k) ∧ (∀ k, (State.ungate s a1 a2).freqCh k = s.freqCh k) ∧
    (∀ k, (State.ungate s a1 a2).supCh k = s.supCh k) ∧ (∀ k, (State.ungate s a1 a2).canCh k = s.canCh k) ∧
    (∀ k, (State.ungate s a1 a2).ethPort k = s.ethPort k) ∧ (∀ k, (State.ungate s a1 a2).net k = s.net k) ∧
    (∀ k, (State.ungate s a1 a2).port k = s.port k) ∧ (∀ k, (State.ungate s a1 a2).lamp k = s.lamp k) ∧
    (∀ k, (State.ungate s a1 a2).slot k = s.slot k) ∧ (∀ k, (State.ungate s a1 a2).crownUnit k = s.crownUnit k) ∧
    (∀ k, (State.ungate s a1 a2).loop k = s.loop k) ∧ (∀ k, (State.ungate s a1 a2).trace k = s.trace k) ∧
    (∀ k, (State.ungate s a1 a2).lidar k = s.lidar k) ∧ (∀ k, (State.ungate s a1 a2).ring k = s.ring k) ∧
    (∀ k, (State.ungate s a1 a2).fan k = s.fan k) ∧ (∀ k, (State.ungate s a1 a2).out k = s.out k) ∧
    (∀ k, (State.ungate s a1 a2).group k = s.group k) ∧ (∀ k, (State.ungate s a1 a2).hb k = s.hb k) ∧
    (∀ k, (State.ungate s a1 a2).svc k = s.svc k) ∧ (∀ k, (State.ungate s a1 a2).valve' k = s.valve' k) ∧
    (∀ k, (State.ungate s a1 a2).bank k = s.bank k) ∧ (∀ k, (State.ungate s a1 a2).boost k = s.boost k) ∧
    (∀ k, (State.ungate s a1 a2).ant k = s.ant k) ∧ (∀ k, (State.ungate s a1 a2).lin k = s.lin k) ∧
    (∀ k, (State.ungate s a1 a2).parkSlot k = s.parkSlot k) ∧ (∀ k, (State.ungate s a1 a2).stud k = s.stud k) ∧
    (∀ k, (State.ungate s a1 a2).sensor k = s.sensor k) ∧ (∀ k, (State.ungate s a1 a2).link k = s.link k) ∧
    (∀ k, (State.ungate s a1 a2).sw k = s.sw k) ∧ (State.ungate s a1 a2).hw = s.hw ∧
    (State.ungate s a1 a2).variant = s.variant ∧ (State.ungate s a1 a2).trunkOn = s.trunkOn ∧
    (State.ungate s a1 a2).inRun = s.inRun ∧ (State.ungate s a1 a2).operating = s.operating ∧
    (State.ungate s a1 a2).parked = s.parked ∧ (∀ k, (State.ungate s a1 a2).sig k = s.sig k) :=
  ⟨part_of_without (m := 2) (State.ungate_frame _ _ _ rfl) rfl, time_of_without (m := 2) (State.ungate_frame _ _ _ rfl) rfl,
    faults_of_without (m := 2) (State.ungate_frame _ _ _ rfl) rfl,
    signals_of_without (m := 2) (State.ungate_frame _ _ _ rfl) rfl,
    sensing_of_without (m := 2) (State.ungate_frame _ _ _ rfl) rfl,
    ctrl_of_without (m := 2) (State.ungate_frame _ _ _ rfl) rfl,
    valve_of_without (m := 2) (State.ungate_frame _ _ _ rfl) rfl,
    gnss_of_without (m := 2) (State.ungate_frame _ _ _ rfl) rfl, imu_of_without (m := 2) (State.ungate_frame _ _ _ rfl) rfl,
    cam_of_without (m := 2) (State.ungate_frame _ _ _ rfl) rfl, crown_of_without (m := 2) (State.ungate_frame _ _ _ rfl) rfl,
    granary_of_without (m := 2) (State.ungate_frame _ _ _ rfl) rfl,
    outs_of_without (m := 2) (State.ungate_frame _ _ _ rfl) rfl, swin_of_without (m := 2) (State.ungate_frame _ _ _ rfl) rfl,
    body_of_without (m := 2) (State.ungate_frame _ _ _ rfl) rfl, fans_of_without (m := 2) (State.ungate_frame _ _ _ rfl) rfl,
    plate_of_without (m := 2) (State.ungate_frame _ _ _ rfl) rfl, can_of_without (m := 2) (State.ungate_frame _ _ _ rfl) rfl,
    eth_of_without (m := 2) (State.ungate_frame _ _ _ rfl) rfl, nm_of_without (m := 2) (State.ungate_frame _ _ _ rfl) rfl,
    root_of_without (m := 2) (State.ungate_frame _ _ _ rfl) rfl,
    graft_of_without (m := 2) (State.ungate_frame _ _ _ rfl) rfl,
    attic_of_without (m := 2) (State.ungate_frame _ _ _ rfl) rfl,
    larder_of_without (m := 2) (State.ungate_frame _ _ _ rfl) rfl,
    power_of_without (m := 2) (State.ungate_frame _ _ _ rfl) rfl,
    thermal_of_without (m := 2) (State.ungate_frame _ _ _ rfl) rfl,
    jtag_of_without (m := 2) (State.ungate_frame _ _ _ rfl) rfl, kept_of_without (m := 2) (State.ungate_frame _ _ _ rfl) rfl,
    keptDirty_of_without (m := 2) (State.ungate_frame _ _ _ rfl) rfl,
    keptAt_of_without (m := 2) (State.ungate_frame _ _ _ rfl) rfl,
    free_of_without (m := 2) (State.ungate_frame _ _ _ rfl) rfl,
    pending_of_without (m := 2) (State.ungate_frame _ _ _ rfl) rfl,
    (fun k => by unfold State.lossCh; rw [sensing_of_without (m := 2) (State.ungate_frame _ _ _ rfl) rfl]),
    (fun k => by unfold State.bridgeCh; rw [sensing_of_without (m := 2) (State.ungate_frame _ _ _ rfl) rfl]),
    (fun k => by unfold State.ainCh; rw [sensing_of_without (m := 2) (State.ungate_frame _ _ _ rfl) rfl]),
    (fun k => by unfold State.freqCh; rw [sensing_of_without (m := 2) (State.ungate_frame _ _ _ rfl) rfl]),
    (fun k => by unfold State.supCh; rw [sensing_of_without (m := 2) (State.ungate_frame _ _ _ rfl) rfl]),
    (fun k => by unfold State.canCh; rw [can_of_without (m := 2) (State.ungate_frame _ _ _ rfl) rfl]),
    (fun k => by unfold State.ethPort; rw [eth_of_without (m := 2) (State.ungate_frame _ _ _ rfl) rfl]),
    (fun k => by unfold State.net; rw [nm_of_without (m := 2) (State.ungate_frame _ _ _ rfl) rfl]),
    (fun k => by unfold State.port; rw [cam_of_without (m := 2) (State.ungate_frame _ _ _ rfl) rfl]),
    (fun k => by unfold State.lamp; rw [cam_of_without (m := 2) (State.ungate_frame _ _ _ rfl) rfl]),
    (fun k => by unfold State.slot; rw [crown_of_without (m := 2) (State.ungate_frame _ _ _ rfl) rfl]),
    (fun k => by unfold State.crownUnit; rw [crown_of_without (m := 2) (State.ungate_frame _ _ _ rfl) rfl]),
    (fun k => by unfold State.loop; rw [ctrl_of_without (m := 2) (State.ungate_frame _ _ _ rfl) rfl]),
    (fun k => by unfold State.trace; rw [ctrl_of_without (m := 2) (State.ungate_frame _ _ _ rfl) rfl]),
    (fun k => by unfold State.lidar; rw [eth_of_without (m := 2) (State.ungate_frame _ _ _ rfl) rfl]),
    (fun k => by unfold State.ring; rw [eth_of_without (m := 2) (State.ungate_frame _ _ _ rfl) rfl]),
    (fun k => by unfold State.fan; rw [fans_of_without (m := 2) (State.ungate_frame _ _ _ rfl) rfl]),
    (fun k => by unfold State.out; rw [outs_of_without (m := 2) (State.ungate_frame _ _ _ rfl) rfl]),
    (fun k => by unfold State.group; rw [outs_of_without (m := 2) (State.ungate_frame _ _ _ rfl) rfl]),
    (fun k => by unfold State.hb; rw [outs_of_without (m := 2) (State.ungate_frame _ _ _ rfl) rfl]),
    (fun k => by unfold State.svc; rw [body_of_without (m := 2) (State.ungate_frame _ _ _ rfl) rfl]),
    (fun k => by unfold State.valve'; rw [valve_of_without (m := 2) (State.ungate_frame _ _ _ rfl) rfl]),
    (fun k => by unfold State.bank; rw [valve_of_without (m := 2) (State.ungate_frame _ _ _ rfl) rfl]),
    (fun k => by unfold State.boost; rw [valve_of_without (m := 2) (State.ungate_frame _ _ _ rfl) rfl]),
    (fun k => by unfold State.ant; rw [gnss_of_without (m := 2) (State.ungate_frame _ _ _ rfl) rfl]),
    (fun k => by unfold State.lin; rw [body_of_without (m := 2) (State.ungate_frame _ _ _ rfl) rfl]),
    (fun k => by unfold State.parkSlot; rw [outs_of_without (m := 2) (State.ungate_frame _ _ _ rfl) rfl]),
    (fun k => by unfold State.stud; rw [power_of_without (m := 2) (State.ungate_frame _ _ _ rfl) rfl]),
    (fun k => by unfold State.sensor; rw [thermal_of_without (m := 2) (State.ungate_frame _ _ _ rfl) rfl]),
    (fun k => by unfold State.link; rw [root_of_without (m := 2) (State.ungate_frame _ _ _ rfl) rfl]),
    (fun k => by unfold State.sw; rw [swin_of_without (m := 2) (State.ungate_frame _ _ _ rfl) rfl]),
    (by unfold State.hw; rw [time_of_without (m := 2) (State.ungate_frame _ _ _ rfl) rfl]),
    (by unfold State.variant; rw [part_of_without (m := 2) (State.ungate_frame _ _ _ rfl) rfl]),
    (by unfold State.trunkOn; rw [power_of_without (m := 2) (State.ungate_frame _ _ _ rfl) rfl]),
    (by unfold State.inRun; rw [power_of_without (m := 2) (State.ungate_frame _ _ _ rfl) rfl]),
    (by unfold State.operating; rw [power_of_without (m := 2) (State.ungate_frame _ _ _ rfl) rfl]),
    (by unfold State.parked; rw [power_of_without (m := 2) (State.ungate_frame _ _ _ rfl) rfl]),
    (fun k => by unfold State.sig; rw [signals_of_without (m := 2) (State.ungate_frame _ _ _ rfl) rfl])⟩
/-- What `State.stores` leaves as it is. -/
@[simp] theorem State.stores_leaves (s) (a1) (a2) :
    (State.stores s a1 a2).part = s.part ∧ (State.stores s a1 a2).time = s.time ∧ (State.stores s a1 a2).faults = s.faults ∧
    (State.stores s a1 a2).signals = s.signals ∧ (State.stores s a1 a2).sensing = s.sensing ∧
    (State.stores s a1 a2).ctrl = s.ctrl ∧ (State.stores s a1 a2).valve = s.valve ∧ (State.stores s a1 a2).gnss = s.gnss ∧
    (State.stores s a1 a2).imu = s.imu ∧ (State.stores s a1 a2).cam = s.cam ∧ (State.stores s a1 a2).crown = s.crown ∧
    (State.stores s a1 a2).granary = s.granary ∧ (State.stores s a1 a2).outs = s.outs ∧
    (State.stores s a1 a2).swin = s.swin ∧ (State.stores s a1 a2).body = s.body ∧ (State.stores s a1 a2).fans = s.fans ∧
    (State.stores s a1 a2).plate = s.plate ∧ (State.stores s a1 a2).can = s.can ∧ (State.stores s a1 a2).eth = s.eth ∧
    (State.stores s a1 a2).nm = s.nm ∧ (State.stores s a1 a2).root = s.root ∧ (State.stores s a1 a2).graft = s.graft ∧
    (State.stores s a1 a2).attic = s.attic ∧ (State.stores s a1 a2).larder = s.larder ∧
    (State.stores s a1 a2).power = s.power ∧ (State.stores s a1 a2).thermal = s.thermal ∧
    (State.stores s a1 a2).jtag = s.jtag ∧ (State.stores s a1 a2).kept = s.kept ∧
    (State.stores s a1 a2).keptDirty = s.keptDirty ∧ (State.stores s a1 a2).keptAt = s.keptAt ∧
    (State.stores s a1 a2).free = s.free ∧ (State.stores s a1 a2).pending = s.pending ∧
    (∀ k, (State.stores s a1 a2).lossCh k = s.lossCh k) ∧ (∀ k, (State.stores s a1 a2).bridgeCh k = s.bridgeCh k) ∧
    (∀ k, (State.stores s a1 a2).ainCh k = s.ainCh k) ∧ (∀ k, (State.stores s a1 a2).freqCh k = s.freqCh k) ∧
    (∀ k, (State.stores s a1 a2).supCh k = s.supCh k) ∧ (∀ k, (State.stores s a1 a2).canCh k = s.canCh k) ∧
    (∀ k, (State.stores s a1 a2).ethPort k = s.ethPort k) ∧ (∀ k, (State.stores s a1 a2).net k = s.net k) ∧
    (∀ k, (State.stores s a1 a2).port k = s.port k) ∧ (∀ k, (State.stores s a1 a2).lamp k = s.lamp k) ∧
    (∀ k, (State.stores s a1 a2).slot k = s.slot k) ∧ (∀ k, (State.stores s a1 a2).crownUnit k = s.crownUnit k) ∧
    (∀ k, (State.stores s a1 a2).loop k = s.loop k) ∧ (∀ k, (State.stores s a1 a2).trace k = s.trace k) ∧
    (∀ k, (State.stores s a1 a2).lidar k = s.lidar k) ∧ (∀ k, (State.stores s a1 a2).ring k = s.ring k) ∧
    (∀ k, (State.stores s a1 a2).fan k = s.fan k) ∧ (∀ k, (State.stores s a1 a2).out k = s.out k) ∧
    (∀ k, (State.stores s a1 a2).group k = s.group k) ∧ (∀ k, (State.stores s a1 a2).hb k = s.hb k) ∧
    (∀ k, (State.stores s a1 a2).svc k = s.svc k) ∧ (∀ k, (State.stores s a1 a2).valve' k = s.valve' k) ∧
    (∀ k, (State.stores s a1 a2).bank k = s.bank k) ∧ (∀ k, (State.stores s a1 a2).boost k = s.boost k) ∧
    (∀ k, (State.stores s a1 a2).ant k = s.ant k) ∧ (∀ k, (State.stores s a1 a2).lin k = s.lin k) ∧
    (∀ k, (State.stores s a1 a2).parkSlot k = s.parkSlot k) ∧ (∀ k, (State.stores s a1 a2).stud k = s.stud k) ∧
    (∀ k, (State.stores s a1 a2).sensor k = s.sensor k) ∧ (∀ k, (State.stores s a1 a2).link k = s.link k) ∧
    (∀ k, (State.stores s a1 a2).sw k = s.sw k) ∧ (State.stores s a1 a2).hw = s.hw ∧
    (State.stores s a1 a2).variant = s.variant ∧ (State.stores s a1 a2).trunkOn = s.trunkOn ∧
    (State.stores s a1 a2).inRun = s.inRun ∧ (State.stores s a1 a2).operating = s.operating ∧
    (State.stores s a1 a2).parked = s.parked ∧ (∀ k, (State.stores s a1 a2).sig k = s.sig k) :=
  ⟨part_of_without (m := 2) (State.stores_frame _ _ _ rfl) rfl, time_of_without (m := 2) (State.stores_frame _ _ _ rfl) rfl,
    faults_of_without (m := 2) (State.stores_frame _ _ _ rfl) rfl,
    signals_of_without (m := 2) (State.stores_frame _ _ _ rfl) rfl,
    sensing_of_without (m := 2) (State.stores_frame _ _ _ rfl) rfl,
    ctrl_of_without (m := 2) (State.stores_frame _ _ _ rfl) rfl,
    valve_of_without (m := 2) (State.stores_frame _ _ _ rfl) rfl,
    gnss_of_without (m := 2) (State.stores_frame _ _ _ rfl) rfl, imu_of_without (m := 2) (State.stores_frame _ _ _ rfl) rfl,
    cam_of_without (m := 2) (State.stores_frame _ _ _ rfl) rfl, crown_of_without (m := 2) (State.stores_frame _ _ _ rfl) rfl,
    granary_of_without (m := 2) (State.stores_frame _ _ _ rfl) rfl,
    outs_of_without (m := 2) (State.stores_frame _ _ _ rfl) rfl, swin_of_without (m := 2) (State.stores_frame _ _ _ rfl) rfl,
    body_of_without (m := 2) (State.stores_frame _ _ _ rfl) rfl, fans_of_without (m := 2) (State.stores_frame _ _ _ rfl) rfl,
    plate_of_without (m := 2) (State.stores_frame _ _ _ rfl) rfl, can_of_without (m := 2) (State.stores_frame _ _ _ rfl) rfl,
    eth_of_without (m := 2) (State.stores_frame _ _ _ rfl) rfl, nm_of_without (m := 2) (State.stores_frame _ _ _ rfl) rfl,
    root_of_without (m := 2) (State.stores_frame _ _ _ rfl) rfl,
    graft_of_without (m := 2) (State.stores_frame _ _ _ rfl) rfl,
    attic_of_without (m := 2) (State.stores_frame _ _ _ rfl) rfl,
    larder_of_without (m := 2) (State.stores_frame _ _ _ rfl) rfl,
    power_of_without (m := 2) (State.stores_frame _ _ _ rfl) rfl,
    thermal_of_without (m := 2) (State.stores_frame _ _ _ rfl) rfl,
    jtag_of_without (m := 2) (State.stores_frame _ _ _ rfl) rfl, kept_of_without (m := 2) (State.stores_frame _ _ _ rfl) rfl,
    keptDirty_of_without (m := 2) (State.stores_frame _ _ _ rfl) rfl,
    keptAt_of_without (m := 2) (State.stores_frame _ _ _ rfl) rfl,
    free_of_without (m := 2) (State.stores_frame _ _ _ rfl) rfl,
    pending_of_without (m := 2) (State.stores_frame _ _ _ rfl) rfl,
    (fun k => by unfold State.lossCh; rw [sensing_of_without (m := 2) (State.stores_frame _ _ _ rfl) rfl]),
    (fun k => by unfold State.bridgeCh; rw [sensing_of_without (m := 2) (State.stores_frame _ _ _ rfl) rfl]),
    (fun k => by unfold State.ainCh; rw [sensing_of_without (m := 2) (State.stores_frame _ _ _ rfl) rfl]),
    (fun k => by unfold State.freqCh; rw [sensing_of_without (m := 2) (State.stores_frame _ _ _ rfl) rfl]),
    (fun k => by unfold State.supCh; rw [sensing_of_without (m := 2) (State.stores_frame _ _ _ rfl) rfl]),
    (fun k => by unfold State.canCh; rw [can_of_without (m := 2) (State.stores_frame _ _ _ rfl) rfl]),
    (fun k => by unfold State.ethPort; rw [eth_of_without (m := 2) (State.stores_frame _ _ _ rfl) rfl]),
    (fun k => by unfold State.net; rw [nm_of_without (m := 2) (State.stores_frame _ _ _ rfl) rfl]),
    (fun k => by unfold State.port; rw [cam_of_without (m := 2) (State.stores_frame _ _ _ rfl) rfl]),
    (fun k => by unfold State.lamp; rw [cam_of_without (m := 2) (State.stores_frame _ _ _ rfl) rfl]),
    (fun k => by unfold State.slot; rw [crown_of_without (m := 2) (State.stores_frame _ _ _ rfl) rfl]),
    (fun k => by unfold State.crownUnit; rw [crown_of_without (m := 2) (State.stores_frame _ _ _ rfl) rfl]),
    (fun k => by unfold State.loop; rw [ctrl_of_without (m := 2) (State.stores_frame _ _ _ rfl) rfl]),
    (fun k => by unfold State.trace; rw [ctrl_of_without (m := 2) (State.stores_frame _ _ _ rfl) rfl]),
    (fun k => by unfold State.lidar; rw [eth_of_without (m := 2) (State.stores_frame _ _ _ rfl) rfl]),
    (fun k => by unfold State.ring; rw [eth_of_without (m := 2) (State.stores_frame _ _ _ rfl) rfl]),
    (fun k => by unfold State.fan; rw [fans_of_without (m := 2) (State.stores_frame _ _ _ rfl) rfl]),
    (fun k => by unfold State.out; rw [outs_of_without (m := 2) (State.stores_frame _ _ _ rfl) rfl]),
    (fun k => by unfold State.group; rw [outs_of_without (m := 2) (State.stores_frame _ _ _ rfl) rfl]),
    (fun k => by unfold State.hb; rw [outs_of_without (m := 2) (State.stores_frame _ _ _ rfl) rfl]),
    (fun k => by unfold State.svc; rw [body_of_without (m := 2) (State.stores_frame _ _ _ rfl) rfl]),
    (fun k => by unfold State.valve'; rw [valve_of_without (m := 2) (State.stores_frame _ _ _ rfl) rfl]),
    (fun k => by unfold State.bank; rw [valve_of_without (m := 2) (State.stores_frame _ _ _ rfl) rfl]),
    (fun k => by unfold State.boost; rw [valve_of_without (m := 2) (State.stores_frame _ _ _ rfl) rfl]),
    (fun k => by unfold State.ant; rw [gnss_of_without (m := 2) (State.stores_frame _ _ _ rfl) rfl]),
    (fun k => by unfold State.lin; rw [body_of_without (m := 2) (State.stores_frame _ _ _ rfl) rfl]),
    (fun k => by unfold State.parkSlot; rw [outs_of_without (m := 2) (State.stores_frame _ _ _ rfl) rfl]),
    (fun k => by unfold State.stud; rw [power_of_without (m := 2) (State.stores_frame _ _ _ rfl) rfl]),
    (fun k => by unfold State.sensor; rw [thermal_of_without (m := 2) (State.stores_frame _ _ _ rfl) rfl]),
    (fun k => by unfold State.link; rw [root_of_without (m := 2) (State.stores_frame _ _ _ rfl) rfl]),
    (fun k => by unfold State.sw; rw [swin_of_without (m := 2) (State.stores_frame _ _ _ rfl) rfl]),
    (by unfold State.hw; rw [time_of_without (m := 2) (State.stores_frame _ _ _ rfl) rfl]),
    (by unfold State.variant; rw [part_of_without (m := 2) (State.stores_frame _ _ _ rfl) rfl]),
    (by unfold State.trunkOn; rw [power_of_without (m := 2) (State.stores_frame _ _ _ rfl) rfl]),
    (by unfold State.inRun; rw [power_of_without (m := 2) (State.stores_frame _ _ _ rfl) rfl]),
    (by unfold State.operating; rw [power_of_without (m := 2) (State.stores_frame _ _ _ rfl) rfl]),
    (by unfold State.parked; rw [power_of_without (m := 2) (State.stores_frame _ _ _ rfl) rfl]),
    (fun k => by unfold State.sig; rw [signals_of_without (m := 2) (State.stores_frame _ _ _ rfl) rfl])⟩
/-- What `State.regionBegin` leaves as it is. -/
@[simp] theorem State.regionBegin_leaves (s) (a1) (a2) (a3) (a4) :
    (State.regionBegin s a1 a2 a3 a4).part = s.part ∧ (State.regionBegin s a1 a2 a3 a4).time = s.time ∧
    (State.regionBegin s a1 a2 a3 a4).faults = s.faults ∧ (State.regionBegin s a1 a2 a3 a4).signals = s.signals ∧
    (State.regionBegin s a1 a2 a3 a4).sensing = s.sensing ∧ (State.regionBegin s a1 a2 a3 a4).ctrl = s.ctrl ∧
    (State.regionBegin s a1 a2 a3 a4).valve = s.valve ∧ (State.regionBegin s a1 a2 a3 a4).gnss = s.gnss ∧
    (State.regionBegin s a1 a2 a3 a4).imu = s.imu ∧ (State.regionBegin s a1 a2 a3 a4).cam = s.cam ∧
    (State.regionBegin s a1 a2 a3 a4).crown = s.crown ∧ (State.regionBegin s a1 a2 a3 a4).granary = s.granary ∧
    (State.regionBegin s a1 a2 a3 a4).outs = s.outs ∧ (State.regionBegin s a1 a2 a3 a4).swin = s.swin ∧
    (State.regionBegin s a1 a2 a3 a4).body = s.body ∧ (State.regionBegin s a1 a2 a3 a4).fans = s.fans ∧
    (State.regionBegin s a1 a2 a3 a4).plate = s.plate ∧ (State.regionBegin s a1 a2 a3 a4).can = s.can ∧
    (State.regionBegin s a1 a2 a3 a4).eth = s.eth ∧ (State.regionBegin s a1 a2 a3 a4).nm = s.nm ∧
    (State.regionBegin s a1 a2 a3 a4).root = s.root ∧ (State.regionBegin s a1 a2 a3 a4).graft = s.graft ∧
    (State.regionBegin s a1 a2 a3 a4).attic = s.attic ∧ (State.regionBegin s a1 a2 a3 a4).larder = s.larder ∧
    (State.regionBegin s a1 a2 a3 a4).power = s.power ∧ (State.regionBegin s a1 a2 a3 a4).thermal = s.thermal ∧
    (State.regionBegin s a1 a2 a3 a4).jtag = s.jtag ∧ (State.regionBegin s a1 a2 a3 a4).kept = s.kept ∧
    (State.regionBegin s a1 a2 a3 a4).keptDirty = s.keptDirty ∧ (State.regionBegin s a1 a2 a3 a4).keptAt = s.keptAt ∧
    (State.regionBegin s a1 a2 a3 a4).free = s.free ∧ (State.regionBegin s a1 a2 a3 a4).pending = s.pending ∧
    (∀ k, (State.regionBegin s a1 a2 a3 a4).lossCh k = s.lossCh k) ∧
    (∀ k, (State.regionBegin s a1 a2 a3 a4).bridgeCh k = s.bridgeCh k) ∧
    (∀ k, (State.regionBegin s a1 a2 a3 a4).ainCh k = s.ainCh k) ∧
    (∀ k, (State.regionBegin s a1 a2 a3 a4).freqCh k = s.freqCh k) ∧
    (∀ k, (State.regionBegin s a1 a2 a3 a4).supCh k = s.supCh k) ∧
    (∀ k, (State.regionBegin s a1 a2 a3 a4).canCh k = s.canCh k) ∧
    (∀ k, (State.regionBegin s a1 a2 a3 a4).ethPort k = s.ethPort k) ∧
    (∀ k, (State.regionBegin s a1 a2 a3 a4).net k = s.net k) ∧ (∀ k, (State.regionBegin s a1 a2 a3 a4).port k = s.port k) ∧
    (∀ k, (State.regionBegin s a1 a2 a3 a4).lamp k = s.lamp k) ∧ (∀ k, (State.regionBegin s a1 a2 a3 a4).slot k = s.slot k) ∧
    (∀ k, (State.regionBegin s a1 a2 a3 a4).crownUnit k = s.crownUnit k) ∧
    (∀ k, (State.regionBegin s a1 a2 a3 a4).loop k = s.loop k) ∧
    (∀ k, (State.regionBegin s a1 a2 a3 a4).trace k = s.trace k) ∧
    (∀ k, (State.regionBegin s a1 a2 a3 a4).lidar k = s.lidar k) ∧
    (∀ k, (State.regionBegin s a1 a2 a3 a4).ring k = s.ring k) ∧ (∀ k, (State.regionBegin s a1 a2 a3 a4).fan k = s.fan k) ∧
    (∀ k, (State.regionBegin s a1 a2 a3 a4).out k = s.out k) ∧ (∀ k, (State.regionBegin s a1 a2 a3 a4).group k = s.group k) ∧
    (∀ k, (State.regionBegin s a1 a2 a3 a4).hb k = s.hb k) ∧ (∀ k, (State.regionBegin s a1 a2 a3 a4).svc k = s.svc k) ∧
    (∀ k, (State.regionBegin s a1 a2 a3 a4).valve' k = s.valve' k) ∧
    (∀ k, (State.regionBegin s a1 a2 a3 a4).bank k = s.bank k) ∧
    (∀ k, (State.regionBegin s a1 a2 a3 a4).boost k = s.boost k) ∧ (∀ k, (State.regionBegin s a1 a2 a3 a4).ant k = s.ant k) ∧
    (∀ k, (State.regionBegin s a1 a2 a3 a4).lin k = s.lin k) ∧
    (∀ k, (State.regionBegin s a1 a2 a3 a4).parkSlot k = s.parkSlot k) ∧
    (∀ k, (State.regionBegin s a1 a2 a3 a4).stud k = s.stud k) ∧
    (∀ k, (State.regionBegin s a1 a2 a3 a4).sensor k = s.sensor k) ∧
    (∀ k, (State.regionBegin s a1 a2 a3 a4).link k = s.link k) ∧ (∀ k, (State.regionBegin s a1 a2 a3 a4).sw k = s.sw k) ∧
    (State.regionBegin s a1 a2 a3 a4).hw = s.hw ∧ (State.regionBegin s a1 a2 a3 a4).variant = s.variant ∧
    (State.regionBegin s a1 a2 a3 a4).trunkOn = s.trunkOn ∧ (State.regionBegin s a1 a2 a3 a4).inRun = s.inRun ∧
    (State.regionBegin s a1 a2 a3 a4).operating = s.operating ∧ (State.regionBegin s a1 a2 a3 a4).parked = s.parked ∧
    (∀ k, (State.regionBegin s a1 a2 a3 a4).sig k = s.sig k) :=
  ⟨part_of_without (m := 2) (State.regionBegin_frame _ _ _ _ _ rfl) rfl,
    time_of_without (m := 2) (State.regionBegin_frame _ _ _ _ _ rfl) rfl,
    faults_of_without (m := 2) (State.regionBegin_frame _ _ _ _ _ rfl) rfl,
    signals_of_without (m := 2) (State.regionBegin_frame _ _ _ _ _ rfl) rfl,
    sensing_of_without (m := 2) (State.regionBegin_frame _ _ _ _ _ rfl) rfl,
    ctrl_of_without (m := 2) (State.regionBegin_frame _ _ _ _ _ rfl) rfl,
    valve_of_without (m := 2) (State.regionBegin_frame _ _ _ _ _ rfl) rfl,
    gnss_of_without (m := 2) (State.regionBegin_frame _ _ _ _ _ rfl) rfl,
    imu_of_without (m := 2) (State.regionBegin_frame _ _ _ _ _ rfl) rfl,
    cam_of_without (m := 2) (State.regionBegin_frame _ _ _ _ _ rfl) rfl,
    crown_of_without (m := 2) (State.regionBegin_frame _ _ _ _ _ rfl) rfl,
    granary_of_without (m := 2) (State.regionBegin_frame _ _ _ _ _ rfl) rfl,
    outs_of_without (m := 2) (State.regionBegin_frame _ _ _ _ _ rfl) rfl,
    swin_of_without (m := 2) (State.regionBegin_frame _ _ _ _ _ rfl) rfl,
    body_of_without (m := 2) (State.regionBegin_frame _ _ _ _ _ rfl) rfl,
    fans_of_without (m := 2) (State.regionBegin_frame _ _ _ _ _ rfl) rfl,
    plate_of_without (m := 2) (State.regionBegin_frame _ _ _ _ _ rfl) rfl,
    can_of_without (m := 2) (State.regionBegin_frame _ _ _ _ _ rfl) rfl,
    eth_of_without (m := 2) (State.regionBegin_frame _ _ _ _ _ rfl) rfl,
    nm_of_without (m := 2) (State.regionBegin_frame _ _ _ _ _ rfl) rfl,
    root_of_without (m := 2) (State.regionBegin_frame _ _ _ _ _ rfl) rfl,
    graft_of_without (m := 2) (State.regionBegin_frame _ _ _ _ _ rfl) rfl,
    attic_of_without (m := 2) (State.regionBegin_frame _ _ _ _ _ rfl) rfl,
    larder_of_without (m := 2) (State.regionBegin_frame _ _ _ _ _ rfl) rfl,
    power_of_without (m := 2) (State.regionBegin_frame _ _ _ _ _ rfl) rfl,
    thermal_of_without (m := 2) (State.regionBegin_frame _ _ _ _ _ rfl) rfl,
    jtag_of_without (m := 2) (State.regionBegin_frame _ _ _ _ _ rfl) rfl,
    kept_of_without (m := 2) (State.regionBegin_frame _ _ _ _ _ rfl) rfl,
    keptDirty_of_without (m := 2) (State.regionBegin_frame _ _ _ _ _ rfl) rfl,
    keptAt_of_without (m := 2) (State.regionBegin_frame _ _ _ _ _ rfl) rfl,
    free_of_without (m := 2) (State.regionBegin_frame _ _ _ _ _ rfl) rfl,
    pending_of_without (m := 2) (State.regionBegin_frame _ _ _ _ _ rfl) rfl,
    (fun k => by unfold State.lossCh; rw [sensing_of_without (m := 2) (State.regionBegin_frame _ _ _ _ _ rfl) rfl]),
    (fun k => by unfold State.bridgeCh; rw [sensing_of_without (m := 2) (State.regionBegin_frame _ _ _ _ _ rfl) rfl]),
    (fun k => by unfold State.ainCh; rw [sensing_of_without (m := 2) (State.regionBegin_frame _ _ _ _ _ rfl) rfl]),
    (fun k => by unfold State.freqCh; rw [sensing_of_without (m := 2) (State.regionBegin_frame _ _ _ _ _ rfl) rfl]),
    (fun k => by unfold State.supCh; rw [sensing_of_without (m := 2) (State.regionBegin_frame _ _ _ _ _ rfl) rfl]),
    (fun k => by unfold State.canCh; rw [can_of_without (m := 2) (State.regionBegin_frame _ _ _ _ _ rfl) rfl]),
    (fun k => by unfold State.ethPort; rw [eth_of_without (m := 2) (State.regionBegin_frame _ _ _ _ _ rfl) rfl]),
    (fun k => by unfold State.net; rw [nm_of_without (m := 2) (State.regionBegin_frame _ _ _ _ _ rfl) rfl]),
    (fun k => by unfold State.port; rw [cam_of_without (m := 2) (State.regionBegin_frame _ _ _ _ _ rfl) rfl]),
    (fun k => by unfold State.lamp; rw [cam_of_without (m := 2) (State.regionBegin_frame _ _ _ _ _ rfl) rfl]),
    (fun k => by unfold State.slot; rw [crown_of_without (m := 2) (State.regionBegin_frame _ _ _ _ _ rfl) rfl]),
    (fun k => by unfold State.crownUnit; rw [crown_of_without (m := 2) (State.regionBegin_frame _ _ _ _ _ rfl) rfl]),
    (fun k => by unfold State.loop; rw [ctrl_of_without (m := 2) (State.regionBegin_frame _ _ _ _ _ rfl) rfl]),
    (fun k => by unfold State.trace; rw [ctrl_of_without (m := 2) (State.regionBegin_frame _ _ _ _ _ rfl) rfl]),
    (fun k => by unfold State.lidar; rw [eth_of_without (m := 2) (State.regionBegin_frame _ _ _ _ _ rfl) rfl]),
    (fun k => by unfold State.ring; rw [eth_of_without (m := 2) (State.regionBegin_frame _ _ _ _ _ rfl) rfl]),
    (fun k => by unfold State.fan; rw [fans_of_without (m := 2) (State.regionBegin_frame _ _ _ _ _ rfl) rfl]),
    (fun k => by unfold State.out; rw [outs_of_without (m := 2) (State.regionBegin_frame _ _ _ _ _ rfl) rfl]),
    (fun k => by unfold State.group; rw [outs_of_without (m := 2) (State.regionBegin_frame _ _ _ _ _ rfl) rfl]),
    (fun k => by unfold State.hb; rw [outs_of_without (m := 2) (State.regionBegin_frame _ _ _ _ _ rfl) rfl]),
    (fun k => by unfold State.svc; rw [body_of_without (m := 2) (State.regionBegin_frame _ _ _ _ _ rfl) rfl]),
    (fun k => by unfold State.valve'; rw [valve_of_without (m := 2) (State.regionBegin_frame _ _ _ _ _ rfl) rfl]),
    (fun k => by unfold State.bank; rw [valve_of_without (m := 2) (State.regionBegin_frame _ _ _ _ _ rfl) rfl]),
    (fun k => by unfold State.boost; rw [valve_of_without (m := 2) (State.regionBegin_frame _ _ _ _ _ rfl) rfl]),
    (fun k => by unfold State.ant; rw [gnss_of_without (m := 2) (State.regionBegin_frame _ _ _ _ _ rfl) rfl]),
    (fun k => by unfold State.lin; rw [body_of_without (m := 2) (State.regionBegin_frame _ _ _ _ _ rfl) rfl]),
    (fun k => by unfold State.parkSlot; rw [outs_of_without (m := 2) (State.regionBegin_frame _ _ _ _ _ rfl) rfl]),
    (fun k => by unfold State.stud; rw [power_of_without (m := 2) (State.regionBegin_frame _ _ _ _ _ rfl) rfl]),
    (fun k => by unfold State.sensor; rw [thermal_of_without (m := 2) (State.regionBegin_frame _ _ _ _ _ rfl) rfl]),
    (fun k => by unfold State.link; rw [root_of_without (m := 2) (State.regionBegin_frame _ _ _ _ _ rfl) rfl]),
    (fun k => by unfold State.sw; rw [swin_of_without (m := 2) (State.regionBegin_frame _ _ _ _ _ rfl) rfl]),
    (by unfold State.hw; rw [time_of_without (m := 2) (State.regionBegin_frame _ _ _ _ _ rfl) rfl]),
    (by unfold State.variant; rw [part_of_without (m := 2) (State.regionBegin_frame _ _ _ _ _ rfl) rfl]),
    (by unfold State.trunkOn; rw [power_of_without (m := 2) (State.regionBegin_frame _ _ _ _ _ rfl) rfl]),
    (by unfold State.inRun; rw [power_of_without (m := 2) (State.regionBegin_frame _ _ _ _ _ rfl) rfl]),
    (by unfold State.operating; rw [power_of_without (m := 2) (State.regionBegin_frame _ _ _ _ _ rfl) rfl]),
    (by unfold State.parked; rw [power_of_without (m := 2) (State.regionBegin_frame _ _ _ _ _ rfl) rfl]),
    (fun k => by unfold State.sig; rw [signals_of_without (m := 2) (State.regionBegin_frame _ _ _ _ _ rfl) rfl])⟩
/-- What `State.regionEnd` leaves as it is. -/
@[simp] theorem State.regionEnd_leaves (s) (a1) (a2) (a3) :
    (State.regionEnd s a1 a2 a3).part = s.part ∧ (State.regionEnd s a1 a2 a3).time = s.time ∧
    (State.regionEnd s a1 a2 a3).faults = s.faults ∧ (State.regionEnd s a1 a2 a3).signals = s.signals ∧
    (State.regionEnd s a1 a2 a3).sensing = s.sensing ∧ (State.regionEnd s a1 a2 a3).ctrl = s.ctrl ∧
    (State.regionEnd s a1 a2 a3).valve = s.valve ∧ (State.regionEnd s a1 a2 a3).gnss = s.gnss ∧
    (State.regionEnd s a1 a2 a3).imu = s.imu ∧ (State.regionEnd s a1 a2 a3).cam = s.cam ∧
    (State.regionEnd s a1 a2 a3).crown = s.crown ∧ (State.regionEnd s a1 a2 a3).granary = s.granary ∧
    (State.regionEnd s a1 a2 a3).outs = s.outs ∧ (State.regionEnd s a1 a2 a3).swin = s.swin ∧
    (State.regionEnd s a1 a2 a3).body = s.body ∧ (State.regionEnd s a1 a2 a3).fans = s.fans ∧
    (State.regionEnd s a1 a2 a3).plate = s.plate ∧ (State.regionEnd s a1 a2 a3).can = s.can ∧
    (State.regionEnd s a1 a2 a3).eth = s.eth ∧ (State.regionEnd s a1 a2 a3).nm = s.nm ∧
    (State.regionEnd s a1 a2 a3).root = s.root ∧ (State.regionEnd s a1 a2 a3).graft = s.graft ∧
    (State.regionEnd s a1 a2 a3).attic = s.attic ∧ (State.regionEnd s a1 a2 a3).larder = s.larder ∧
    (State.regionEnd s a1 a2 a3).power = s.power ∧ (State.regionEnd s a1 a2 a3).thermal = s.thermal ∧
    (State.regionEnd s a1 a2 a3).jtag = s.jtag ∧ (State.regionEnd s a1 a2 a3).kept = s.kept ∧
    (State.regionEnd s a1 a2 a3).keptDirty = s.keptDirty ∧ (State.regionEnd s a1 a2 a3).keptAt = s.keptAt ∧
    (State.regionEnd s a1 a2 a3).free = s.free ∧ (State.regionEnd s a1 a2 a3).pending = s.pending ∧
    (∀ k, (State.regionEnd s a1 a2 a3).lossCh k = s.lossCh k) ∧
    (∀ k, (State.regionEnd s a1 a2 a3).bridgeCh k = s.bridgeCh k) ∧ (∀ k, (State.regionEnd s a1 a2 a3).ainCh k = s.ainCh k) ∧
    (∀ k, (State.regionEnd s a1 a2 a3).freqCh k = s.freqCh k) ∧ (∀ k, (State.regionEnd s a1 a2 a3).supCh k = s.supCh k) ∧
    (∀ k, (State.regionEnd s a1 a2 a3).canCh k = s.canCh k) ∧ (∀ k, (State.regionEnd s a1 a2 a3).ethPort k = s.ethPort k) ∧
    (∀ k, (State.regionEnd s a1 a2 a3).net k = s.net k) ∧ (∀ k, (State.regionEnd s a1 a2 a3).port k = s.port k) ∧
    (∀ k, (State.regionEnd s a1 a2 a3).lamp k = s.lamp k) ∧ (∀ k, (State.regionEnd s a1 a2 a3).slot k = s.slot k) ∧
    (∀ k, (State.regionEnd s a1 a2 a3).crownUnit k = s.crownUnit k) ∧ (∀ k, (State.regionEnd s a1 a2 a3).loop k = s.loop k) ∧
    (∀ k, (State.regionEnd s a1 a2 a3).trace k = s.trace k) ∧ (∀ k, (State.regionEnd s a1 a2 a3).lidar k = s.lidar k) ∧
    (∀ k, (State.regionEnd s a1 a2 a3).ring k = s.ring k) ∧ (∀ k, (State.regionEnd s a1 a2 a3).fan k = s.fan k) ∧
    (∀ k, (State.regionEnd s a1 a2 a3).out k = s.out k) ∧ (∀ k, (State.regionEnd s a1 a2 a3).group k = s.group k) ∧
    (∀ k, (State.regionEnd s a1 a2 a3).hb k = s.hb k) ∧ (∀ k, (State.regionEnd s a1 a2 a3).svc k = s.svc k) ∧
    (∀ k, (State.regionEnd s a1 a2 a3).valve' k = s.valve' k) ∧ (∀ k, (State.regionEnd s a1 a2 a3).bank k = s.bank k) ∧
    (∀ k, (State.regionEnd s a1 a2 a3).boost k = s.boost k) ∧ (∀ k, (State.regionEnd s a1 a2 a3).ant k = s.ant k) ∧
    (∀ k, (State.regionEnd s a1 a2 a3).lin k = s.lin k) ∧ (∀ k, (State.regionEnd s a1 a2 a3).parkSlot k = s.parkSlot k) ∧
    (∀ k, (State.regionEnd s a1 a2 a3).stud k = s.stud k) ∧ (∀ k, (State.regionEnd s a1 a2 a3).sensor k = s.sensor k) ∧
    (∀ k, (State.regionEnd s a1 a2 a3).link k = s.link k) ∧ (∀ k, (State.regionEnd s a1 a2 a3).sw k = s.sw k) ∧
    (State.regionEnd s a1 a2 a3).hw = s.hw ∧ (State.regionEnd s a1 a2 a3).variant = s.variant ∧
    (State.regionEnd s a1 a2 a3).trunkOn = s.trunkOn ∧ (State.regionEnd s a1 a2 a3).inRun = s.inRun ∧
    (State.regionEnd s a1 a2 a3).operating = s.operating ∧ (State.regionEnd s a1 a2 a3).parked = s.parked ∧
    (∀ k, (State.regionEnd s a1 a2 a3).sig k = s.sig k) :=
  ⟨part_of_without (m := 2) (State.regionEnd_frame _ _ _ _ rfl) rfl,
    time_of_without (m := 2) (State.regionEnd_frame _ _ _ _ rfl) rfl,
    faults_of_without (m := 2) (State.regionEnd_frame _ _ _ _ rfl) rfl,
    signals_of_without (m := 2) (State.regionEnd_frame _ _ _ _ rfl) rfl,
    sensing_of_without (m := 2) (State.regionEnd_frame _ _ _ _ rfl) rfl,
    ctrl_of_without (m := 2) (State.regionEnd_frame _ _ _ _ rfl) rfl,
    valve_of_without (m := 2) (State.regionEnd_frame _ _ _ _ rfl) rfl,
    gnss_of_without (m := 2) (State.regionEnd_frame _ _ _ _ rfl) rfl,
    imu_of_without (m := 2) (State.regionEnd_frame _ _ _ _ rfl) rfl,
    cam_of_without (m := 2) (State.regionEnd_frame _ _ _ _ rfl) rfl,
    crown_of_without (m := 2) (State.regionEnd_frame _ _ _ _ rfl) rfl,
    granary_of_without (m := 2) (State.regionEnd_frame _ _ _ _ rfl) rfl,
    outs_of_without (m := 2) (State.regionEnd_frame _ _ _ _ rfl) rfl,
    swin_of_without (m := 2) (State.regionEnd_frame _ _ _ _ rfl) rfl,
    body_of_without (m := 2) (State.regionEnd_frame _ _ _ _ rfl) rfl,
    fans_of_without (m := 2) (State.regionEnd_frame _ _ _ _ rfl) rfl,
    plate_of_without (m := 2) (State.regionEnd_frame _ _ _ _ rfl) rfl,
    can_of_without (m := 2) (State.regionEnd_frame _ _ _ _ rfl) rfl,
    eth_of_without (m := 2) (State.regionEnd_frame _ _ _ _ rfl) rfl,
    nm_of_without (m := 2) (State.regionEnd_frame _ _ _ _ rfl) rfl,
    root_of_without (m := 2) (State.regionEnd_frame _ _ _ _ rfl) rfl,
    graft_of_without (m := 2) (State.regionEnd_frame _ _ _ _ rfl) rfl,
    attic_of_without (m := 2) (State.regionEnd_frame _ _ _ _ rfl) rfl,
    larder_of_without (m := 2) (State.regionEnd_frame _ _ _ _ rfl) rfl,
    power_of_without (m := 2) (State.regionEnd_frame _ _ _ _ rfl) rfl,
    thermal_of_without (m := 2) (State.regionEnd_frame _ _ _ _ rfl) rfl,
    jtag_of_without (m := 2) (State.regionEnd_frame _ _ _ _ rfl) rfl,
    kept_of_without (m := 2) (State.regionEnd_frame _ _ _ _ rfl) rfl,
    keptDirty_of_without (m := 2) (State.regionEnd_frame _ _ _ _ rfl) rfl,
    keptAt_of_without (m := 2) (State.regionEnd_frame _ _ _ _ rfl) rfl,
    free_of_without (m := 2) (State.regionEnd_frame _ _ _ _ rfl) rfl,
    pending_of_without (m := 2) (State.regionEnd_frame _ _ _ _ rfl) rfl,
    (fun k => by unfold State.lossCh; rw [sensing_of_without (m := 2) (State.regionEnd_frame _ _ _ _ rfl) rfl]),
    (fun k => by unfold State.bridgeCh; rw [sensing_of_without (m := 2) (State.regionEnd_frame _ _ _ _ rfl) rfl]),
    (fun k => by unfold State.ainCh; rw [sensing_of_without (m := 2) (State.regionEnd_frame _ _ _ _ rfl) rfl]),
    (fun k => by unfold State.freqCh; rw [sensing_of_without (m := 2) (State.regionEnd_frame _ _ _ _ rfl) rfl]),
    (fun k => by unfold State.supCh; rw [sensing_of_without (m := 2) (State.regionEnd_frame _ _ _ _ rfl) rfl]),
    (fun k => by unfold State.canCh; rw [can_of_without (m := 2) (State.regionEnd_frame _ _ _ _ rfl) rfl]),
    (fun k => by unfold State.ethPort; rw [eth_of_without (m := 2) (State.regionEnd_frame _ _ _ _ rfl) rfl]),
    (fun k => by unfold State.net; rw [nm_of_without (m := 2) (State.regionEnd_frame _ _ _ _ rfl) rfl]),
    (fun k => by unfold State.port; rw [cam_of_without (m := 2) (State.regionEnd_frame _ _ _ _ rfl) rfl]),
    (fun k => by unfold State.lamp; rw [cam_of_without (m := 2) (State.regionEnd_frame _ _ _ _ rfl) rfl]),
    (fun k => by unfold State.slot; rw [crown_of_without (m := 2) (State.regionEnd_frame _ _ _ _ rfl) rfl]),
    (fun k => by unfold State.crownUnit; rw [crown_of_without (m := 2) (State.regionEnd_frame _ _ _ _ rfl) rfl]),
    (fun k => by unfold State.loop; rw [ctrl_of_without (m := 2) (State.regionEnd_frame _ _ _ _ rfl) rfl]),
    (fun k => by unfold State.trace; rw [ctrl_of_without (m := 2) (State.regionEnd_frame _ _ _ _ rfl) rfl]),
    (fun k => by unfold State.lidar; rw [eth_of_without (m := 2) (State.regionEnd_frame _ _ _ _ rfl) rfl]),
    (fun k => by unfold State.ring; rw [eth_of_without (m := 2) (State.regionEnd_frame _ _ _ _ rfl) rfl]),
    (fun k => by unfold State.fan; rw [fans_of_without (m := 2) (State.regionEnd_frame _ _ _ _ rfl) rfl]),
    (fun k => by unfold State.out; rw [outs_of_without (m := 2) (State.regionEnd_frame _ _ _ _ rfl) rfl]),
    (fun k => by unfold State.group; rw [outs_of_without (m := 2) (State.regionEnd_frame _ _ _ _ rfl) rfl]),
    (fun k => by unfold State.hb; rw [outs_of_without (m := 2) (State.regionEnd_frame _ _ _ _ rfl) rfl]),
    (fun k => by unfold State.svc; rw [body_of_without (m := 2) (State.regionEnd_frame _ _ _ _ rfl) rfl]),
    (fun k => by unfold State.valve'; rw [valve_of_without (m := 2) (State.regionEnd_frame _ _ _ _ rfl) rfl]),
    (fun k => by unfold State.bank; rw [valve_of_without (m := 2) (State.regionEnd_frame _ _ _ _ rfl) rfl]),
    (fun k => by unfold State.boost; rw [valve_of_without (m := 2) (State.regionEnd_frame _ _ _ _ rfl) rfl]),
    (fun k => by unfold State.ant; rw [gnss_of_without (m := 2) (State.regionEnd_frame _ _ _ _ rfl) rfl]),
    (fun k => by unfold State.lin; rw [body_of_without (m := 2) (State.regionEnd_frame _ _ _ _ rfl) rfl]),
    (fun k => by unfold State.parkSlot; rw [outs_of_without (m := 2) (State.regionEnd_frame _ _ _ _ rfl) rfl]),
    (fun k => by unfold State.stud; rw [power_of_without (m := 2) (State.regionEnd_frame _ _ _ _ rfl) rfl]),
    (fun k => by unfold State.sensor; rw [thermal_of_without (m := 2) (State.regionEnd_frame _ _ _ _ rfl) rfl]),
    (fun k => by unfold State.link; rw [root_of_without (m := 2) (State.regionEnd_frame _ _ _ _ rfl) rfl]),
    (fun k => by unfold State.sw; rw [swin_of_without (m := 2) (State.regionEnd_frame _ _ _ _ rfl) rfl]),
    (by unfold State.hw; rw [time_of_without (m := 2) (State.regionEnd_frame _ _ _ _ rfl) rfl]),
    (by unfold State.variant; rw [part_of_without (m := 2) (State.regionEnd_frame _ _ _ _ rfl) rfl]),
    (by unfold State.trunkOn; rw [power_of_without (m := 2) (State.regionEnd_frame _ _ _ _ rfl) rfl]),
    (by unfold State.inRun; rw [power_of_without (m := 2) (State.regionEnd_frame _ _ _ _ rfl) rfl]),
    (by unfold State.operating; rw [power_of_without (m := 2) (State.regionEnd_frame _ _ _ _ rfl) rfl]),
    (by unfold State.parked; rw [power_of_without (m := 2) (State.regionEnd_frame _ _ _ _ rfl) rfl]),
    (fun k => by unfold State.sig; rw [signals_of_without (m := 2) (State.regionEnd_frame _ _ _ _ rfl) rfl])⟩
/-- What `State.regionWrite` leaves as it is. -/
@[simp] theorem State.regionWrite_leaves (s) (a1) (a2) (a3) (a4) :
    (State.regionWrite s a1 a2 a3 a4).part = s.part ∧ (State.regionWrite s a1 a2 a3 a4).time = s.time ∧
    (State.regionWrite s a1 a2 a3 a4).faults = s.faults ∧ (State.regionWrite s a1 a2 a3 a4).signals = s.signals ∧
    (State.regionWrite s a1 a2 a3 a4).sensing = s.sensing ∧ (State.regionWrite s a1 a2 a3 a4).ctrl = s.ctrl ∧
    (State.regionWrite s a1 a2 a3 a4).valve = s.valve ∧ (State.regionWrite s a1 a2 a3 a4).gnss = s.gnss ∧
    (State.regionWrite s a1 a2 a3 a4).imu = s.imu ∧ (State.regionWrite s a1 a2 a3 a4).cam = s.cam ∧
    (State.regionWrite s a1 a2 a3 a4).crown = s.crown ∧ (State.regionWrite s a1 a2 a3 a4).granary = s.granary ∧
    (State.regionWrite s a1 a2 a3 a4).outs = s.outs ∧ (State.regionWrite s a1 a2 a3 a4).swin = s.swin ∧
    (State.regionWrite s a1 a2 a3 a4).body = s.body ∧ (State.regionWrite s a1 a2 a3 a4).fans = s.fans ∧
    (State.regionWrite s a1 a2 a3 a4).plate = s.plate ∧ (State.regionWrite s a1 a2 a3 a4).can = s.can ∧
    (State.regionWrite s a1 a2 a3 a4).eth = s.eth ∧ (State.regionWrite s a1 a2 a3 a4).nm = s.nm ∧
    (State.regionWrite s a1 a2 a3 a4).root = s.root ∧ (State.regionWrite s a1 a2 a3 a4).graft = s.graft ∧
    (State.regionWrite s a1 a2 a3 a4).attic = s.attic ∧ (State.regionWrite s a1 a2 a3 a4).larder = s.larder ∧
    (State.regionWrite s a1 a2 a3 a4).power = s.power ∧ (State.regionWrite s a1 a2 a3 a4).thermal = s.thermal ∧
    (State.regionWrite s a1 a2 a3 a4).jtag = s.jtag ∧ (State.regionWrite s a1 a2 a3 a4).kept = s.kept ∧
    (State.regionWrite s a1 a2 a3 a4).keptDirty = s.keptDirty ∧ (State.regionWrite s a1 a2 a3 a4).keptAt = s.keptAt ∧
    (State.regionWrite s a1 a2 a3 a4).free = s.free ∧ (State.regionWrite s a1 a2 a3 a4).pending = s.pending ∧
    (∀ k, (State.regionWrite s a1 a2 a3 a4).lossCh k = s.lossCh k) ∧
    (∀ k, (State.regionWrite s a1 a2 a3 a4).bridgeCh k = s.bridgeCh k) ∧
    (∀ k, (State.regionWrite s a1 a2 a3 a4).ainCh k = s.ainCh k) ∧
    (∀ k, (State.regionWrite s a1 a2 a3 a4).freqCh k = s.freqCh k) ∧
    (∀ k, (State.regionWrite s a1 a2 a3 a4).supCh k = s.supCh k) ∧
    (∀ k, (State.regionWrite s a1 a2 a3 a4).canCh k = s.canCh k) ∧
    (∀ k, (State.regionWrite s a1 a2 a3 a4).ethPort k = s.ethPort k) ∧
    (∀ k, (State.regionWrite s a1 a2 a3 a4).net k = s.net k) ∧ (∀ k, (State.regionWrite s a1 a2 a3 a4).port k = s.port k) ∧
    (∀ k, (State.regionWrite s a1 a2 a3 a4).lamp k = s.lamp k) ∧ (∀ k, (State.regionWrite s a1 a2 a3 a4).slot k = s.slot k) ∧
    (∀ k, (State.regionWrite s a1 a2 a3 a4).crownUnit k = s.crownUnit k) ∧
    (∀ k, (State.regionWrite s a1 a2 a3 a4).loop k = s.loop k) ∧
    (∀ k, (State.regionWrite s a1 a2 a3 a4).trace k = s.trace k) ∧
    (∀ k, (State.regionWrite s a1 a2 a3 a4).lidar k = s.lidar k) ∧
    (∀ k, (State.regionWrite s a1 a2 a3 a4).ring k = s.ring k) ∧ (∀ k, (State.regionWrite s a1 a2 a3 a4).fan k = s.fan k) ∧
    (∀ k, (State.regionWrite s a1 a2 a3 a4).out k = s.out k) ∧ (∀ k, (State.regionWrite s a1 a2 a3 a4).group k = s.group k) ∧
    (∀ k, (State.regionWrite s a1 a2 a3 a4).hb k = s.hb k) ∧ (∀ k, (State.regionWrite s a1 a2 a3 a4).svc k = s.svc k) ∧
    (∀ k, (State.regionWrite s a1 a2 a3 a4).valve' k = s.valve' k) ∧
    (∀ k, (State.regionWrite s a1 a2 a3 a4).bank k = s.bank k) ∧
    (∀ k, (State.regionWrite s a1 a2 a3 a4).boost k = s.boost k) ∧ (∀ k, (State.regionWrite s a1 a2 a3 a4).ant k = s.ant k) ∧
    (∀ k, (State.regionWrite s a1 a2 a3 a4).lin k = s.lin k) ∧
    (∀ k, (State.regionWrite s a1 a2 a3 a4).parkSlot k = s.parkSlot k) ∧
    (∀ k, (State.regionWrite s a1 a2 a3 a4).stud k = s.stud k) ∧
    (∀ k, (State.regionWrite s a1 a2 a3 a4).sensor k = s.sensor k) ∧
    (∀ k, (State.regionWrite s a1 a2 a3 a4).link k = s.link k) ∧ (∀ k, (State.regionWrite s a1 a2 a3 a4).sw k = s.sw k) ∧
    (State.regionWrite s a1 a2 a3 a4).hw = s.hw ∧ (State.regionWrite s a1 a2 a3 a4).variant = s.variant ∧
    (State.regionWrite s a1 a2 a3 a4).trunkOn = s.trunkOn ∧ (State.regionWrite s a1 a2 a3 a4).inRun = s.inRun ∧
    (State.regionWrite s a1 a2 a3 a4).operating = s.operating ∧ (State.regionWrite s a1 a2 a3 a4).parked = s.parked ∧
    (∀ k, (State.regionWrite s a1 a2 a3 a4).sig k = s.sig k) :=
  ⟨part_of_without (m := 2) (State.regionWrite_frame _ _ _ _ _ rfl) rfl,
    time_of_without (m := 2) (State.regionWrite_frame _ _ _ _ _ rfl) rfl,
    faults_of_without (m := 2) (State.regionWrite_frame _ _ _ _ _ rfl) rfl,
    signals_of_without (m := 2) (State.regionWrite_frame _ _ _ _ _ rfl) rfl,
    sensing_of_without (m := 2) (State.regionWrite_frame _ _ _ _ _ rfl) rfl,
    ctrl_of_without (m := 2) (State.regionWrite_frame _ _ _ _ _ rfl) rfl,
    valve_of_without (m := 2) (State.regionWrite_frame _ _ _ _ _ rfl) rfl,
    gnss_of_without (m := 2) (State.regionWrite_frame _ _ _ _ _ rfl) rfl,
    imu_of_without (m := 2) (State.regionWrite_frame _ _ _ _ _ rfl) rfl,
    cam_of_without (m := 2) (State.regionWrite_frame _ _ _ _ _ rfl) rfl,
    crown_of_without (m := 2) (State.regionWrite_frame _ _ _ _ _ rfl) rfl,
    granary_of_without (m := 2) (State.regionWrite_frame _ _ _ _ _ rfl) rfl,
    outs_of_without (m := 2) (State.regionWrite_frame _ _ _ _ _ rfl) rfl,
    swin_of_without (m := 2) (State.regionWrite_frame _ _ _ _ _ rfl) rfl,
    body_of_without (m := 2) (State.regionWrite_frame _ _ _ _ _ rfl) rfl,
    fans_of_without (m := 2) (State.regionWrite_frame _ _ _ _ _ rfl) rfl,
    plate_of_without (m := 2) (State.regionWrite_frame _ _ _ _ _ rfl) rfl,
    can_of_without (m := 2) (State.regionWrite_frame _ _ _ _ _ rfl) rfl,
    eth_of_without (m := 2) (State.regionWrite_frame _ _ _ _ _ rfl) rfl,
    nm_of_without (m := 2) (State.regionWrite_frame _ _ _ _ _ rfl) rfl,
    root_of_without (m := 2) (State.regionWrite_frame _ _ _ _ _ rfl) rfl,
    graft_of_without (m := 2) (State.regionWrite_frame _ _ _ _ _ rfl) rfl,
    attic_of_without (m := 2) (State.regionWrite_frame _ _ _ _ _ rfl) rfl,
    larder_of_without (m := 2) (State.regionWrite_frame _ _ _ _ _ rfl) rfl,
    power_of_without (m := 2) (State.regionWrite_frame _ _ _ _ _ rfl) rfl,
    thermal_of_without (m := 2) (State.regionWrite_frame _ _ _ _ _ rfl) rfl,
    jtag_of_without (m := 2) (State.regionWrite_frame _ _ _ _ _ rfl) rfl,
    kept_of_without (m := 2) (State.regionWrite_frame _ _ _ _ _ rfl) rfl,
    keptDirty_of_without (m := 2) (State.regionWrite_frame _ _ _ _ _ rfl) rfl,
    keptAt_of_without (m := 2) (State.regionWrite_frame _ _ _ _ _ rfl) rfl,
    free_of_without (m := 2) (State.regionWrite_frame _ _ _ _ _ rfl) rfl,
    pending_of_without (m := 2) (State.regionWrite_frame _ _ _ _ _ rfl) rfl,
    (fun k => by unfold State.lossCh; rw [sensing_of_without (m := 2) (State.regionWrite_frame _ _ _ _ _ rfl) rfl]),
    (fun k => by unfold State.bridgeCh; rw [sensing_of_without (m := 2) (State.regionWrite_frame _ _ _ _ _ rfl) rfl]),
    (fun k => by unfold State.ainCh; rw [sensing_of_without (m := 2) (State.regionWrite_frame _ _ _ _ _ rfl) rfl]),
    (fun k => by unfold State.freqCh; rw [sensing_of_without (m := 2) (State.regionWrite_frame _ _ _ _ _ rfl) rfl]),
    (fun k => by unfold State.supCh; rw [sensing_of_without (m := 2) (State.regionWrite_frame _ _ _ _ _ rfl) rfl]),
    (fun k => by unfold State.canCh; rw [can_of_without (m := 2) (State.regionWrite_frame _ _ _ _ _ rfl) rfl]),
    (fun k => by unfold State.ethPort; rw [eth_of_without (m := 2) (State.regionWrite_frame _ _ _ _ _ rfl) rfl]),
    (fun k => by unfold State.net; rw [nm_of_without (m := 2) (State.regionWrite_frame _ _ _ _ _ rfl) rfl]),
    (fun k => by unfold State.port; rw [cam_of_without (m := 2) (State.regionWrite_frame _ _ _ _ _ rfl) rfl]),
    (fun k => by unfold State.lamp; rw [cam_of_without (m := 2) (State.regionWrite_frame _ _ _ _ _ rfl) rfl]),
    (fun k => by unfold State.slot; rw [crown_of_without (m := 2) (State.regionWrite_frame _ _ _ _ _ rfl) rfl]),
    (fun k => by unfold State.crownUnit; rw [crown_of_without (m := 2) (State.regionWrite_frame _ _ _ _ _ rfl) rfl]),
    (fun k => by unfold State.loop; rw [ctrl_of_without (m := 2) (State.regionWrite_frame _ _ _ _ _ rfl) rfl]),
    (fun k => by unfold State.trace; rw [ctrl_of_without (m := 2) (State.regionWrite_frame _ _ _ _ _ rfl) rfl]),
    (fun k => by unfold State.lidar; rw [eth_of_without (m := 2) (State.regionWrite_frame _ _ _ _ _ rfl) rfl]),
    (fun k => by unfold State.ring; rw [eth_of_without (m := 2) (State.regionWrite_frame _ _ _ _ _ rfl) rfl]),
    (fun k => by unfold State.fan; rw [fans_of_without (m := 2) (State.regionWrite_frame _ _ _ _ _ rfl) rfl]),
    (fun k => by unfold State.out; rw [outs_of_without (m := 2) (State.regionWrite_frame _ _ _ _ _ rfl) rfl]),
    (fun k => by unfold State.group; rw [outs_of_without (m := 2) (State.regionWrite_frame _ _ _ _ _ rfl) rfl]),
    (fun k => by unfold State.hb; rw [outs_of_without (m := 2) (State.regionWrite_frame _ _ _ _ _ rfl) rfl]),
    (fun k => by unfold State.svc; rw [body_of_without (m := 2) (State.regionWrite_frame _ _ _ _ _ rfl) rfl]),
    (fun k => by unfold State.valve'; rw [valve_of_without (m := 2) (State.regionWrite_frame _ _ _ _ _ rfl) rfl]),
    (fun k => by unfold State.bank; rw [valve_of_without (m := 2) (State.regionWrite_frame _ _ _ _ _ rfl) rfl]),
    (fun k => by unfold State.boost; rw [valve_of_without (m := 2) (State.regionWrite_frame _ _ _ _ _ rfl) rfl]),
    (fun k => by unfold State.ant; rw [gnss_of_without (m := 2) (State.regionWrite_frame _ _ _ _ _ rfl) rfl]),
    (fun k => by unfold State.lin; rw [body_of_without (m := 2) (State.regionWrite_frame _ _ _ _ _ rfl) rfl]),
    (fun k => by unfold State.parkSlot; rw [outs_of_without (m := 2) (State.regionWrite_frame _ _ _ _ _ rfl) rfl]),
    (fun k => by unfold State.stud; rw [power_of_without (m := 2) (State.regionWrite_frame _ _ _ _ _ rfl) rfl]),
    (fun k => by unfold State.sensor; rw [thermal_of_without (m := 2) (State.regionWrite_frame _ _ _ _ _ rfl) rfl]),
    (fun k => by unfold State.link; rw [root_of_without (m := 2) (State.regionWrite_frame _ _ _ _ _ rfl) rfl]),
    (fun k => by unfold State.sw; rw [swin_of_without (m := 2) (State.regionWrite_frame _ _ _ _ _ rfl) rfl]),
    (by unfold State.hw; rw [time_of_without (m := 2) (State.regionWrite_frame _ _ _ _ _ rfl) rfl]),
    (by unfold State.variant; rw [part_of_without (m := 2) (State.regionWrite_frame _ _ _ _ _ rfl) rfl]),
    (by unfold State.trunkOn; rw [power_of_without (m := 2) (State.regionWrite_frame _ _ _ _ _ rfl) rfl]),
    (by unfold State.inRun; rw [power_of_without (m := 2) (State.regionWrite_frame _ _ _ _ _ rfl) rfl]),
    (by unfold State.operating; rw [power_of_without (m := 2) (State.regionWrite_frame _ _ _ _ _ rfl) rfl]),
    (by unfold State.parked; rw [power_of_without (m := 2) (State.regionWrite_frame _ _ _ _ _ rfl) rfl]),
    (fun k => by unfold State.sig; rw [signals_of_without (m := 2) (State.regionWrite_frame _ _ _ _ _ rfl) rfl])⟩
/-- What `State.regionDone` leaves as it is. -/
@[simp] theorem State.regionDone_leaves (s) (a1) (a2) (a3) (a4) (a5) :
    (State.regionDone s a1 a2 a3 a4 a5).part = s.part ∧ (State.regionDone s a1 a2 a3 a4 a5).time = s.time ∧
    (State.regionDone s a1 a2 a3 a4 a5).faults = s.faults ∧ (State.regionDone s a1 a2 a3 a4 a5).signals = s.signals ∧
    (State.regionDone s a1 a2 a3 a4 a5).sensing = s.sensing ∧ (State.regionDone s a1 a2 a3 a4 a5).ctrl = s.ctrl ∧
    (State.regionDone s a1 a2 a3 a4 a5).valve = s.valve ∧ (State.regionDone s a1 a2 a3 a4 a5).gnss = s.gnss ∧
    (State.regionDone s a1 a2 a3 a4 a5).imu = s.imu ∧ (State.regionDone s a1 a2 a3 a4 a5).cam = s.cam ∧
    (State.regionDone s a1 a2 a3 a4 a5).crown = s.crown ∧ (State.regionDone s a1 a2 a3 a4 a5).granary = s.granary ∧
    (State.regionDone s a1 a2 a3 a4 a5).outs = s.outs ∧ (State.regionDone s a1 a2 a3 a4 a5).swin = s.swin ∧
    (State.regionDone s a1 a2 a3 a4 a5).body = s.body ∧ (State.regionDone s a1 a2 a3 a4 a5).fans = s.fans ∧
    (State.regionDone s a1 a2 a3 a4 a5).plate = s.plate ∧ (State.regionDone s a1 a2 a3 a4 a5).can = s.can ∧
    (State.regionDone s a1 a2 a3 a4 a5).eth = s.eth ∧ (State.regionDone s a1 a2 a3 a4 a5).nm = s.nm ∧
    (State.regionDone s a1 a2 a3 a4 a5).root = s.root ∧ (State.regionDone s a1 a2 a3 a4 a5).graft = s.graft ∧
    (State.regionDone s a1 a2 a3 a4 a5).attic = s.attic ∧ (State.regionDone s a1 a2 a3 a4 a5).larder = s.larder ∧
    (State.regionDone s a1 a2 a3 a4 a5).power = s.power ∧ (State.regionDone s a1 a2 a3 a4 a5).thermal = s.thermal ∧
    (State.regionDone s a1 a2 a3 a4 a5).jtag = s.jtag ∧ (State.regionDone s a1 a2 a3 a4 a5).kept = s.kept ∧
    (State.regionDone s a1 a2 a3 a4 a5).keptDirty = s.keptDirty ∧ (State.regionDone s a1 a2 a3 a4 a5).keptAt = s.keptAt ∧
    (State.regionDone s a1 a2 a3 a4 a5).free = s.free ∧ (State.regionDone s a1 a2 a3 a4 a5).pending = s.pending ∧
    (∀ k, (State.regionDone s a1 a2 a3 a4 a5).lossCh k = s.lossCh k) ∧
    (∀ k, (State.regionDone s a1 a2 a3 a4 a5).bridgeCh k = s.bridgeCh k) ∧
    (∀ k, (State.regionDone s a1 a2 a3 a4 a5).ainCh k = s.ainCh k) ∧
    (∀ k, (State.regionDone s a1 a2 a3 a4 a5).freqCh k = s.freqCh k) ∧
    (∀ k, (State.regionDone s a1 a2 a3 a4 a5).supCh k = s.supCh k) ∧
    (∀ k, (State.regionDone s a1 a2 a3 a4 a5).canCh k = s.canCh k) ∧
    (∀ k, (State.regionDone s a1 a2 a3 a4 a5).ethPort k = s.ethPort k) ∧
    (∀ k, (State.regionDone s a1 a2 a3 a4 a5).net k = s.net k) ∧
    (∀ k, (State.regionDone s a1 a2 a3 a4 a5).port k = s.port k) ∧
    (∀ k, (State.regionDone s a1 a2 a3 a4 a5).lamp k = s.lamp k) ∧
    (∀ k, (State.regionDone s a1 a2 a3 a4 a5).slot k = s.slot k) ∧
    (∀ k, (State.regionDone s a1 a2 a3 a4 a5).crownUnit k = s.crownUnit k) ∧
    (∀ k, (State.regionDone s a1 a2 a3 a4 a5).loop k = s.loop k) ∧
    (∀ k, (State.regionDone s a1 a2 a3 a4 a5).trace k = s.trace k) ∧
    (∀ k, (State.regionDone s a1 a2 a3 a4 a5).lidar k = s.lidar k) ∧
    (∀ k, (State.regionDone s a1 a2 a3 a4 a5).ring k = s.ring k) ∧
    (∀ k, (State.regionDone s a1 a2 a3 a4 a5).fan k = s.fan k) ∧ (∀ k, (State.regionDone s a1 a2 a3 a4 a5).out k = s.out k) ∧
    (∀ k, (State.regionDone s a1 a2 a3 a4 a5).group k = s.group k) ∧
    (∀ k, (State.regionDone s a1 a2 a3 a4 a5).hb k = s.hb k) ∧ (∀ k, (State.regionDone s a1 a2 a3 a4 a5).svc k = s.svc k) ∧
    (∀ k, (State.regionDone s a1 a2 a3 a4 a5).valve' k = s.valve' k) ∧
    (∀ k, (State.regionDone s a1 a2 a3 a4 a5).bank k = s.bank k) ∧
    (∀ k, (State.regionDone s a1 a2 a3 a4 a5).boost k = s.boost k) ∧
    (∀ k, (State.regionDone s a1 a2 a3 a4 a5).ant k = s.ant k) ∧ (∀ k, (State.regionDone s a1 a2 a3 a4 a5).lin k = s.lin k) ∧
    (∀ k, (State.regionDone s a1 a2 a3 a4 a5).parkSlot k = s.parkSlot k) ∧
    (∀ k, (State.regionDone s a1 a2 a3 a4 a5).stud k = s.stud k) ∧
    (∀ k, (State.regionDone s a1 a2 a3 a4 a5).sensor k = s.sensor k) ∧
    (∀ k, (State.regionDone s a1 a2 a3 a4 a5).link k = s.link k) ∧ (∀ k, (State.regionDone s a1 a2 a3 a4 a5).sw k = s.sw k) ∧
    (State.regionDone s a1 a2 a3 a4 a5).hw = s.hw ∧ (State.regionDone s a1 a2 a3 a4 a5).variant = s.variant ∧
    (State.regionDone s a1 a2 a3 a4 a5).trunkOn = s.trunkOn ∧ (State.regionDone s a1 a2 a3 a4 a5).inRun = s.inRun ∧
    (State.regionDone s a1 a2 a3 a4 a5).operating = s.operating ∧ (State.regionDone s a1 a2 a3 a4 a5).parked = s.parked ∧
    (∀ k, (State.regionDone s a1 a2 a3 a4 a5).sig k = s.sig k) :=
  ⟨part_of_without (m := 2) (State.regionDone_frame _ _ _ _ _ _ rfl) rfl,
    time_of_without (m := 2) (State.regionDone_frame _ _ _ _ _ _ rfl) rfl,
    faults_of_without (m := 2) (State.regionDone_frame _ _ _ _ _ _ rfl) rfl,
    signals_of_without (m := 2) (State.regionDone_frame _ _ _ _ _ _ rfl) rfl,
    sensing_of_without (m := 2) (State.regionDone_frame _ _ _ _ _ _ rfl) rfl,
    ctrl_of_without (m := 2) (State.regionDone_frame _ _ _ _ _ _ rfl) rfl,
    valve_of_without (m := 2) (State.regionDone_frame _ _ _ _ _ _ rfl) rfl,
    gnss_of_without (m := 2) (State.regionDone_frame _ _ _ _ _ _ rfl) rfl,
    imu_of_without (m := 2) (State.regionDone_frame _ _ _ _ _ _ rfl) rfl,
    cam_of_without (m := 2) (State.regionDone_frame _ _ _ _ _ _ rfl) rfl,
    crown_of_without (m := 2) (State.regionDone_frame _ _ _ _ _ _ rfl) rfl,
    granary_of_without (m := 2) (State.regionDone_frame _ _ _ _ _ _ rfl) rfl,
    outs_of_without (m := 2) (State.regionDone_frame _ _ _ _ _ _ rfl) rfl,
    swin_of_without (m := 2) (State.regionDone_frame _ _ _ _ _ _ rfl) rfl,
    body_of_without (m := 2) (State.regionDone_frame _ _ _ _ _ _ rfl) rfl,
    fans_of_without (m := 2) (State.regionDone_frame _ _ _ _ _ _ rfl) rfl,
    plate_of_without (m := 2) (State.regionDone_frame _ _ _ _ _ _ rfl) rfl,
    can_of_without (m := 2) (State.regionDone_frame _ _ _ _ _ _ rfl) rfl,
    eth_of_without (m := 2) (State.regionDone_frame _ _ _ _ _ _ rfl) rfl,
    nm_of_without (m := 2) (State.regionDone_frame _ _ _ _ _ _ rfl) rfl,
    root_of_without (m := 2) (State.regionDone_frame _ _ _ _ _ _ rfl) rfl,
    graft_of_without (m := 2) (State.regionDone_frame _ _ _ _ _ _ rfl) rfl,
    attic_of_without (m := 2) (State.regionDone_frame _ _ _ _ _ _ rfl) rfl,
    larder_of_without (m := 2) (State.regionDone_frame _ _ _ _ _ _ rfl) rfl,
    power_of_without (m := 2) (State.regionDone_frame _ _ _ _ _ _ rfl) rfl,
    thermal_of_without (m := 2) (State.regionDone_frame _ _ _ _ _ _ rfl) rfl,
    jtag_of_without (m := 2) (State.regionDone_frame _ _ _ _ _ _ rfl) rfl,
    kept_of_without (m := 2) (State.regionDone_frame _ _ _ _ _ _ rfl) rfl,
    keptDirty_of_without (m := 2) (State.regionDone_frame _ _ _ _ _ _ rfl) rfl,
    keptAt_of_without (m := 2) (State.regionDone_frame _ _ _ _ _ _ rfl) rfl,
    free_of_without (m := 2) (State.regionDone_frame _ _ _ _ _ _ rfl) rfl,
    pending_of_without (m := 2) (State.regionDone_frame _ _ _ _ _ _ rfl) rfl,
    (fun k => by unfold State.lossCh; rw [sensing_of_without (m := 2) (State.regionDone_frame _ _ _ _ _ _ rfl) rfl]),
    (fun k => by unfold State.bridgeCh; rw [sensing_of_without (m := 2) (State.regionDone_frame _ _ _ _ _ _ rfl) rfl]),
    (fun k => by unfold State.ainCh; rw [sensing_of_without (m := 2) (State.regionDone_frame _ _ _ _ _ _ rfl) rfl]),
    (fun k => by unfold State.freqCh; rw [sensing_of_without (m := 2) (State.regionDone_frame _ _ _ _ _ _ rfl) rfl]),
    (fun k => by unfold State.supCh; rw [sensing_of_without (m := 2) (State.regionDone_frame _ _ _ _ _ _ rfl) rfl]),
    (fun k => by unfold State.canCh; rw [can_of_without (m := 2) (State.regionDone_frame _ _ _ _ _ _ rfl) rfl]),
    (fun k => by unfold State.ethPort; rw [eth_of_without (m := 2) (State.regionDone_frame _ _ _ _ _ _ rfl) rfl]),
    (fun k => by unfold State.net; rw [nm_of_without (m := 2) (State.regionDone_frame _ _ _ _ _ _ rfl) rfl]),
    (fun k => by unfold State.port; rw [cam_of_without (m := 2) (State.regionDone_frame _ _ _ _ _ _ rfl) rfl]),
    (fun k => by unfold State.lamp; rw [cam_of_without (m := 2) (State.regionDone_frame _ _ _ _ _ _ rfl) rfl]),
    (fun k => by unfold State.slot; rw [crown_of_without (m := 2) (State.regionDone_frame _ _ _ _ _ _ rfl) rfl]),
    (fun k => by unfold State.crownUnit; rw [crown_of_without (m := 2) (State.regionDone_frame _ _ _ _ _ _ rfl) rfl]),
    (fun k => by unfold State.loop; rw [ctrl_of_without (m := 2) (State.regionDone_frame _ _ _ _ _ _ rfl) rfl]),
    (fun k => by unfold State.trace; rw [ctrl_of_without (m := 2) (State.regionDone_frame _ _ _ _ _ _ rfl) rfl]),
    (fun k => by unfold State.lidar; rw [eth_of_without (m := 2) (State.regionDone_frame _ _ _ _ _ _ rfl) rfl]),
    (fun k => by unfold State.ring; rw [eth_of_without (m := 2) (State.regionDone_frame _ _ _ _ _ _ rfl) rfl]),
    (fun k => by unfold State.fan; rw [fans_of_without (m := 2) (State.regionDone_frame _ _ _ _ _ _ rfl) rfl]),
    (fun k => by unfold State.out; rw [outs_of_without (m := 2) (State.regionDone_frame _ _ _ _ _ _ rfl) rfl]),
    (fun k => by unfold State.group; rw [outs_of_without (m := 2) (State.regionDone_frame _ _ _ _ _ _ rfl) rfl]),
    (fun k => by unfold State.hb; rw [outs_of_without (m := 2) (State.regionDone_frame _ _ _ _ _ _ rfl) rfl]),
    (fun k => by unfold State.svc; rw [body_of_without (m := 2) (State.regionDone_frame _ _ _ _ _ _ rfl) rfl]),
    (fun k => by unfold State.valve'; rw [valve_of_without (m := 2) (State.regionDone_frame _ _ _ _ _ _ rfl) rfl]),
    (fun k => by unfold State.bank; rw [valve_of_without (m := 2) (State.regionDone_frame _ _ _ _ _ _ rfl) rfl]),
    (fun k => by unfold State.boost; rw [valve_of_without (m := 2) (State.regionDone_frame _ _ _ _ _ _ rfl) rfl]),
    (fun k => by unfold State.ant; rw [gnss_of_without (m := 2) (State.regionDone_frame _ _ _ _ _ _ rfl) rfl]),
    (fun k => by unfold State.lin; rw [body_of_without (m := 2) (State.regionDone_frame _ _ _ _ _ _ rfl) rfl]),
    (fun k => by unfold State.parkSlot; rw [outs_of_without (m := 2) (State.regionDone_frame _ _ _ _ _ _ rfl) rfl]),
    (fun k => by unfold State.stud; rw [power_of_without (m := 2) (State.regionDone_frame _ _ _ _ _ _ rfl) rfl]),
    (fun k => by unfold State.sensor; rw [thermal_of_without (m := 2) (State.regionDone_frame _ _ _ _ _ _ rfl) rfl]),
    (fun k => by unfold State.link; rw [root_of_without (m := 2) (State.regionDone_frame _ _ _ _ _ _ rfl) rfl]),
    (fun k => by unfold State.sw; rw [swin_of_without (m := 2) (State.regionDone_frame _ _ _ _ _ _ rfl) rfl]),
    (by unfold State.hw; rw [time_of_without (m := 2) (State.regionDone_frame _ _ _ _ _ _ rfl) rfl]),
    (by unfold State.variant; rw [part_of_without (m := 2) (State.regionDone_frame _ _ _ _ _ _ rfl) rfl]),
    (by unfold State.trunkOn; rw [power_of_without (m := 2) (State.regionDone_frame _ _ _ _ _ _ rfl) rfl]),
    (by unfold State.inRun; rw [power_of_without (m := 2) (State.regionDone_frame _ _ _ _ _ _ rfl) rfl]),
    (by unfold State.operating; rw [power_of_without (m := 2) (State.regionDone_frame _ _ _ _ _ _ rfl) rfl]),
    (by unfold State.parked; rw [power_of_without (m := 2) (State.regionDone_frame _ _ _ _ _ _ rfl) rfl]),
    (fun k => by unfold State.sig; rw [signals_of_without (m := 2) (State.regionDone_frame _ _ _ _ _ _ rfl) rfl])⟩
/-- What `State.written` leaves as it is. -/
@[simp] theorem State.written_leaves (s : State) (v : Verb) (r : Req) :
    (s.written v r).part = s.part ∧ (s.written v r).time = s.time ∧ (s.written v r).faults = s.faults ∧
    (s.written v r).signals = s.signals ∧ (s.written v r).sensing = s.sensing ∧ (s.written v r).ctrl = s.ctrl ∧
    (s.written v r).valve = s.valve ∧ (s.written v r).gnss = s.gnss ∧ (s.written v r).imu = s.imu ∧
    (s.written v r).cam = s.cam ∧ (s.written v r).crown = s.crown ∧ (s.written v r).granary = s.granary ∧
    (s.written v r).outs = s.outs ∧ (s.written v r).swin = s.swin ∧ (s.written v r).body = s.body ∧
    (s.written v r).fans = s.fans ∧ (s.written v r).plate = s.plate ∧ (s.written v r).can = s.can ∧
    (s.written v r).eth = s.eth ∧ (s.written v r).nm = s.nm ∧ (s.written v r).root = s.root ∧
    (s.written v r).graft = s.graft ∧ (s.written v r).attic = s.attic ∧ (s.written v r).larder = s.larder ∧
    (s.written v r).power = s.power ∧ (s.written v r).thermal = s.thermal ∧ (s.written v r).jtag = s.jtag ∧
    (s.written v r).kept = s.kept ∧ (s.written v r).keptDirty = s.keptDirty ∧ (s.written v r).keptAt = s.keptAt ∧
    (s.written v r).free = s.free ∧ (s.written v r).pending = s.pending ∧
    (∀ k, (State.written s v r).lossCh k = s.lossCh k) ∧ (∀ k, (State.written s v r).bridgeCh k = s.bridgeCh k) ∧
    (∀ k, (State.written s v r).ainCh k = s.ainCh k) ∧ (∀ k, (State.written s v r).freqCh k = s.freqCh k) ∧
    (∀ k, (State.written s v r).supCh k = s.supCh k) ∧ (∀ k, (State.written s v r).canCh k = s.canCh k) ∧
    (∀ k, (State.written s v r).ethPort k = s.ethPort k) ∧ (∀ k, (State.written s v r).net k = s.net k) ∧
    (∀ k, (State.written s v r).port k = s.port k) ∧ (∀ k, (State.written s v r).lamp k = s.lamp k) ∧
    (∀ k, (State.written s v r).slot k = s.slot k) ∧ (∀ k, (State.written s v r).crownUnit k = s.crownUnit k) ∧
    (∀ k, (State.written s v r).loop k = s.loop k) ∧ (∀ k, (State.written s v r).trace k = s.trace k) ∧
    (∀ k, (State.written s v r).lidar k = s.lidar k) ∧ (∀ k, (State.written s v r).ring k = s.ring k) ∧
    (∀ k, (State.written s v r).fan k = s.fan k) ∧ (∀ k, (State.written s v r).out k = s.out k) ∧
    (∀ k, (State.written s v r).group k = s.group k) ∧ (∀ k, (State.written s v r).hb k = s.hb k) ∧
    (∀ k, (State.written s v r).svc k = s.svc k) ∧ (∀ k, (State.written s v r).valve' k = s.valve' k) ∧
    (∀ k, (State.written s v r).bank k = s.bank k) ∧ (∀ k, (State.written s v r).boost k = s.boost k) ∧
    (∀ k, (State.written s v r).ant k = s.ant k) ∧ (∀ k, (State.written s v r).lin k = s.lin k) ∧
    (∀ k, (State.written s v r).parkSlot k = s.parkSlot k) ∧ (∀ k, (State.written s v r).stud k = s.stud k) ∧
    (∀ k, (State.written s v r).sensor k = s.sensor k) ∧ (∀ k, (State.written s v r).link k = s.link k) ∧
    (∀ k, (State.written s v r).sw k = s.sw k) ∧ (State.written s v r).hw = s.hw ∧
    (State.written s v r).variant = s.variant ∧ (State.written s v r).trunkOn = s.trunkOn ∧
    (State.written s v r).inRun = s.inRun ∧ (State.written s v r).operating = s.operating ∧
    (State.written s v r).parked = s.parked ∧ (∀ k, (State.written s v r).sig k = s.sig k) :=
  ⟨part_of_without (m := 2) (State.written_frame _ _ _ rfl) rfl,
    time_of_without (m := 2) (State.written_frame _ _ _ rfl) rfl,
    faults_of_without (m := 2) (State.written_frame _ _ _ rfl) rfl,
    signals_of_without (m := 2) (State.written_frame _ _ _ rfl) rfl,
    sensing_of_without (m := 2) (State.written_frame _ _ _ rfl) rfl,
    ctrl_of_without (m := 2) (State.written_frame _ _ _ rfl) rfl,
    valve_of_without (m := 2) (State.written_frame _ _ _ rfl) rfl,
    gnss_of_without (m := 2) (State.written_frame _ _ _ rfl) rfl,
    imu_of_without (m := 2) (State.written_frame _ _ _ rfl) rfl, cam_of_without (m := 2) (State.written_frame _ _ _ rfl) rfl,
    crown_of_without (m := 2) (State.written_frame _ _ _ rfl) rfl,
    granary_of_without (m := 2) (State.written_frame _ _ _ rfl) rfl,
    outs_of_without (m := 2) (State.written_frame _ _ _ rfl) rfl,
    swin_of_without (m := 2) (State.written_frame _ _ _ rfl) rfl,
    body_of_without (m := 2) (State.written_frame _ _ _ rfl) rfl,
    fans_of_without (m := 2) (State.written_frame _ _ _ rfl) rfl,
    plate_of_without (m := 2) (State.written_frame _ _ _ rfl) rfl,
    can_of_without (m := 2) (State.written_frame _ _ _ rfl) rfl, eth_of_without (m := 2) (State.written_frame _ _ _ rfl) rfl,
    nm_of_without (m := 2) (State.written_frame _ _ _ rfl) rfl, root_of_without (m := 2) (State.written_frame _ _ _ rfl) rfl,
    graft_of_without (m := 2) (State.written_frame _ _ _ rfl) rfl,
    attic_of_without (m := 2) (State.written_frame _ _ _ rfl) rfl,
    larder_of_without (m := 2) (State.written_frame _ _ _ rfl) rfl,
    power_of_without (m := 2) (State.written_frame _ _ _ rfl) rfl,
    thermal_of_without (m := 2) (State.written_frame _ _ _ rfl) rfl,
    jtag_of_without (m := 2) (State.written_frame _ _ _ rfl) rfl,
    kept_of_without (m := 2) (State.written_frame _ _ _ rfl) rfl,
    keptDirty_of_without (m := 2) (State.written_frame _ _ _ rfl) rfl,
    keptAt_of_without (m := 2) (State.written_frame _ _ _ rfl) rfl,
    free_of_without (m := 2) (State.written_frame _ _ _ rfl) rfl,
    pending_of_without (m := 2) (State.written_frame _ _ _ rfl) rfl,
    (fun k => by unfold State.lossCh; rw [sensing_of_without (m := 2) (State.written_frame _ _ _ rfl) rfl]),
    (fun k => by unfold State.bridgeCh; rw [sensing_of_without (m := 2) (State.written_frame _ _ _ rfl) rfl]),
    (fun k => by unfold State.ainCh; rw [sensing_of_without (m := 2) (State.written_frame _ _ _ rfl) rfl]),
    (fun k => by unfold State.freqCh; rw [sensing_of_without (m := 2) (State.written_frame _ _ _ rfl) rfl]),
    (fun k => by unfold State.supCh; rw [sensing_of_without (m := 2) (State.written_frame _ _ _ rfl) rfl]),
    (fun k => by unfold State.canCh; rw [can_of_without (m := 2) (State.written_frame _ _ _ rfl) rfl]),
    (fun k => by unfold State.ethPort; rw [eth_of_without (m := 2) (State.written_frame _ _ _ rfl) rfl]),
    (fun k => by unfold State.net; rw [nm_of_without (m := 2) (State.written_frame _ _ _ rfl) rfl]),
    (fun k => by unfold State.port; rw [cam_of_without (m := 2) (State.written_frame _ _ _ rfl) rfl]),
    (fun k => by unfold State.lamp; rw [cam_of_without (m := 2) (State.written_frame _ _ _ rfl) rfl]),
    (fun k => by unfold State.slot; rw [crown_of_without (m := 2) (State.written_frame _ _ _ rfl) rfl]),
    (fun k => by unfold State.crownUnit; rw [crown_of_without (m := 2) (State.written_frame _ _ _ rfl) rfl]),
    (fun k => by unfold State.loop; rw [ctrl_of_without (m := 2) (State.written_frame _ _ _ rfl) rfl]),
    (fun k => by unfold State.trace; rw [ctrl_of_without (m := 2) (State.written_frame _ _ _ rfl) rfl]),
    (fun k => by unfold State.lidar; rw [eth_of_without (m := 2) (State.written_frame _ _ _ rfl) rfl]),
    (fun k => by unfold State.ring; rw [eth_of_without (m := 2) (State.written_frame _ _ _ rfl) rfl]),
    (fun k => by unfold State.fan; rw [fans_of_without (m := 2) (State.written_frame _ _ _ rfl) rfl]),
    (fun k => by unfold State.out; rw [outs_of_without (m := 2) (State.written_frame _ _ _ rfl) rfl]),
    (fun k => by unfold State.group; rw [outs_of_without (m := 2) (State.written_frame _ _ _ rfl) rfl]),
    (fun k => by unfold State.hb; rw [outs_of_without (m := 2) (State.written_frame _ _ _ rfl) rfl]),
    (fun k => by unfold State.svc; rw [body_of_without (m := 2) (State.written_frame _ _ _ rfl) rfl]),
    (fun k => by unfold State.valve'; rw [valve_of_without (m := 2) (State.written_frame _ _ _ rfl) rfl]),
    (fun k => by unfold State.bank; rw [valve_of_without (m := 2) (State.written_frame _ _ _ rfl) rfl]),
    (fun k => by unfold State.boost; rw [valve_of_without (m := 2) (State.written_frame _ _ _ rfl) rfl]),
    (fun k => by unfold State.ant; rw [gnss_of_without (m := 2) (State.written_frame _ _ _ rfl) rfl]),
    (fun k => by unfold State.lin; rw [body_of_without (m := 2) (State.written_frame _ _ _ rfl) rfl]),
    (fun k => by unfold State.parkSlot; rw [outs_of_without (m := 2) (State.written_frame _ _ _ rfl) rfl]),
    (fun k => by unfold State.stud; rw [power_of_without (m := 2) (State.written_frame _ _ _ rfl) rfl]),
    (fun k => by unfold State.sensor; rw [thermal_of_without (m := 2) (State.written_frame _ _ _ rfl) rfl]),
    (fun k => by unfold State.link; rw [root_of_without (m := 2) (State.written_frame _ _ _ rfl) rfl]),
    (fun k => by unfold State.sw; rw [swin_of_without (m := 2) (State.written_frame _ _ _ rfl) rfl]),
    (by unfold State.hw; rw [time_of_without (m := 2) (State.written_frame _ _ _ rfl) rfl]),
    (by unfold State.variant; rw [part_of_without (m := 2) (State.written_frame _ _ _ rfl) rfl]),
    (by unfold State.trunkOn; rw [power_of_without (m := 2) (State.written_frame _ _ _ rfl) rfl]),
    (by unfold State.inRun; rw [power_of_without (m := 2) (State.written_frame _ _ _ rfl) rfl]),
    (by unfold State.operating; rw [power_of_without (m := 2) (State.written_frame _ _ _ rfl) rfl]),
    (by unfold State.parked; rw [power_of_without (m := 2) (State.written_frame _ _ _ rfl) rfl]),
    (fun k => by unfold State.sig; rw [signals_of_without (m := 2) (State.written_frame _ _ _ rfl) rfl])⟩
/-- What `State.consumed` leaves as it is. -/
@[simp] theorem State.consumed_leaves (s : State) (v : Verb) (r : Req) :
    (s.consumed v r).part = s.part ∧ (s.consumed v r).time = s.time ∧ (s.consumed v r).faults = s.faults ∧
    (s.consumed v r).signals = s.signals ∧ (s.consumed v r).sensing = s.sensing ∧ (s.consumed v r).ctrl = s.ctrl ∧
    (s.consumed v r).valve = s.valve ∧ (s.consumed v r).gnss = s.gnss ∧ (s.consumed v r).imu = s.imu ∧
    (s.consumed v r).cam = s.cam ∧ (s.consumed v r).crown = s.crown ∧ (s.consumed v r).granary = s.granary ∧
    (s.consumed v r).outs = s.outs ∧ (s.consumed v r).swin = s.swin ∧ (s.consumed v r).body = s.body ∧
    (s.consumed v r).fans = s.fans ∧ (s.consumed v r).plate = s.plate ∧ (s.consumed v r).can = s.can ∧
    (s.consumed v r).eth = s.eth ∧ (s.consumed v r).nm = s.nm ∧ (s.consumed v r).root = s.root ∧
    (s.consumed v r).graft = s.graft ∧ (s.consumed v r).attic = s.attic ∧ (s.consumed v r).larder = s.larder ∧
    (s.consumed v r).power = s.power ∧ (s.consumed v r).thermal = s.thermal ∧ (s.consumed v r).jtag = s.jtag ∧
    (s.consumed v r).kept = s.kept ∧ (s.consumed v r).keptDirty = s.keptDirty ∧ (s.consumed v r).keptAt = s.keptAt ∧
    (s.consumed v r).free = s.free ∧ (s.consumed v r).pending = s.pending ∧
    (∀ k, (State.consumed s v r).lossCh k = s.lossCh k) ∧ (∀ k, (State.consumed s v r).bridgeCh k = s.bridgeCh k) ∧
    (∀ k, (State.consumed s v r).ainCh k = s.ainCh k) ∧ (∀ k, (State.consumed s v r).freqCh k = s.freqCh k) ∧
    (∀ k, (State.consumed s v r).supCh k = s.supCh k) ∧ (∀ k, (State.consumed s v r).canCh k = s.canCh k) ∧
    (∀ k, (State.consumed s v r).ethPort k = s.ethPort k) ∧ (∀ k, (State.consumed s v r).net k = s.net k) ∧
    (∀ k, (State.consumed s v r).port k = s.port k) ∧ (∀ k, (State.consumed s v r).lamp k = s.lamp k) ∧
    (∀ k, (State.consumed s v r).slot k = s.slot k) ∧ (∀ k, (State.consumed s v r).crownUnit k = s.crownUnit k) ∧
    (∀ k, (State.consumed s v r).loop k = s.loop k) ∧ (∀ k, (State.consumed s v r).trace k = s.trace k) ∧
    (∀ k, (State.consumed s v r).lidar k = s.lidar k) ∧ (∀ k, (State.consumed s v r).ring k = s.ring k) ∧
    (∀ k, (State.consumed s v r).fan k = s.fan k) ∧ (∀ k, (State.consumed s v r).out k = s.out k) ∧
    (∀ k, (State.consumed s v r).group k = s.group k) ∧ (∀ k, (State.consumed s v r).hb k = s.hb k) ∧
    (∀ k, (State.consumed s v r).svc k = s.svc k) ∧ (∀ k, (State.consumed s v r).valve' k = s.valve' k) ∧
    (∀ k, (State.consumed s v r).bank k = s.bank k) ∧ (∀ k, (State.consumed s v r).boost k = s.boost k) ∧
    (∀ k, (State.consumed s v r).ant k = s.ant k) ∧ (∀ k, (State.consumed s v r).lin k = s.lin k) ∧
    (∀ k, (State.consumed s v r).parkSlot k = s.parkSlot k) ∧ (∀ k, (State.consumed s v r).stud k = s.stud k) ∧
    (∀ k, (State.consumed s v r).sensor k = s.sensor k) ∧ (∀ k, (State.consumed s v r).link k = s.link k) ∧
    (∀ k, (State.consumed s v r).sw k = s.sw k) ∧ (State.consumed s v r).hw = s.hw ∧
    (State.consumed s v r).variant = s.variant ∧ (State.consumed s v r).trunkOn = s.trunkOn ∧
    (State.consumed s v r).inRun = s.inRun ∧ (State.consumed s v r).operating = s.operating ∧
    (State.consumed s v r).parked = s.parked ∧ (∀ k, (State.consumed s v r).sig k = s.sig k) :=
  ⟨part_of_without (m := 2) (State.consumed_frame _ _ _ rfl) rfl,
    time_of_without (m := 2) (State.consumed_frame _ _ _ rfl) rfl,
    faults_of_without (m := 2) (State.consumed_frame _ _ _ rfl) rfl,
    signals_of_without (m := 2) (State.consumed_frame _ _ _ rfl) rfl,
    sensing_of_without (m := 2) (State.consumed_frame _ _ _ rfl) rfl,
    ctrl_of_without (m := 2) (State.consumed_frame _ _ _ rfl) rfl,
    valve_of_without (m := 2) (State.consumed_frame _ _ _ rfl) rfl,
    gnss_of_without (m := 2) (State.consumed_frame _ _ _ rfl) rfl,
    imu_of_without (m := 2) (State.consumed_frame _ _ _ rfl) rfl,
    cam_of_without (m := 2) (State.consumed_frame _ _ _ rfl) rfl,
    crown_of_without (m := 2) (State.consumed_frame _ _ _ rfl) rfl,
    granary_of_without (m := 2) (State.consumed_frame _ _ _ rfl) rfl,
    outs_of_without (m := 2) (State.consumed_frame _ _ _ rfl) rfl,
    swin_of_without (m := 2) (State.consumed_frame _ _ _ rfl) rfl,
    body_of_without (m := 2) (State.consumed_frame _ _ _ rfl) rfl,
    fans_of_without (m := 2) (State.consumed_frame _ _ _ rfl) rfl,
    plate_of_without (m := 2) (State.consumed_frame _ _ _ rfl) rfl,
    can_of_without (m := 2) (State.consumed_frame _ _ _ rfl) rfl,
    eth_of_without (m := 2) (State.consumed_frame _ _ _ rfl) rfl,
    nm_of_without (m := 2) (State.consumed_frame _ _ _ rfl) rfl,
    root_of_without (m := 2) (State.consumed_frame _ _ _ rfl) rfl,
    graft_of_without (m := 2) (State.consumed_frame _ _ _ rfl) rfl,
    attic_of_without (m := 2) (State.consumed_frame _ _ _ rfl) rfl,
    larder_of_without (m := 2) (State.consumed_frame _ _ _ rfl) rfl,
    power_of_without (m := 2) (State.consumed_frame _ _ _ rfl) rfl,
    thermal_of_without (m := 2) (State.consumed_frame _ _ _ rfl) rfl,
    jtag_of_without (m := 2) (State.consumed_frame _ _ _ rfl) rfl,
    kept_of_without (m := 2) (State.consumed_frame _ _ _ rfl) rfl,
    keptDirty_of_without (m := 2) (State.consumed_frame _ _ _ rfl) rfl,
    keptAt_of_without (m := 2) (State.consumed_frame _ _ _ rfl) rfl,
    free_of_without (m := 2) (State.consumed_frame _ _ _ rfl) rfl,
    pending_of_without (m := 2) (State.consumed_frame _ _ _ rfl) rfl,
    (fun k => by unfold State.lossCh; rw [sensing_of_without (m := 2) (State.consumed_frame _ _ _ rfl) rfl]),
    (fun k => by unfold State.bridgeCh; rw [sensing_of_without (m := 2) (State.consumed_frame _ _ _ rfl) rfl]),
    (fun k => by unfold State.ainCh; rw [sensing_of_without (m := 2) (State.consumed_frame _ _ _ rfl) rfl]),
    (fun k => by unfold State.freqCh; rw [sensing_of_without (m := 2) (State.consumed_frame _ _ _ rfl) rfl]),
    (fun k => by unfold State.supCh; rw [sensing_of_without (m := 2) (State.consumed_frame _ _ _ rfl) rfl]),
    (fun k => by unfold State.canCh; rw [can_of_without (m := 2) (State.consumed_frame _ _ _ rfl) rfl]),
    (fun k => by unfold State.ethPort; rw [eth_of_without (m := 2) (State.consumed_frame _ _ _ rfl) rfl]),
    (fun k => by unfold State.net; rw [nm_of_without (m := 2) (State.consumed_frame _ _ _ rfl) rfl]),
    (fun k => by unfold State.port; rw [cam_of_without (m := 2) (State.consumed_frame _ _ _ rfl) rfl]),
    (fun k => by unfold State.lamp; rw [cam_of_without (m := 2) (State.consumed_frame _ _ _ rfl) rfl]),
    (fun k => by unfold State.slot; rw [crown_of_without (m := 2) (State.consumed_frame _ _ _ rfl) rfl]),
    (fun k => by unfold State.crownUnit; rw [crown_of_without (m := 2) (State.consumed_frame _ _ _ rfl) rfl]),
    (fun k => by unfold State.loop; rw [ctrl_of_without (m := 2) (State.consumed_frame _ _ _ rfl) rfl]),
    (fun k => by unfold State.trace; rw [ctrl_of_without (m := 2) (State.consumed_frame _ _ _ rfl) rfl]),
    (fun k => by unfold State.lidar; rw [eth_of_without (m := 2) (State.consumed_frame _ _ _ rfl) rfl]),
    (fun k => by unfold State.ring; rw [eth_of_without (m := 2) (State.consumed_frame _ _ _ rfl) rfl]),
    (fun k => by unfold State.fan; rw [fans_of_without (m := 2) (State.consumed_frame _ _ _ rfl) rfl]),
    (fun k => by unfold State.out; rw [outs_of_without (m := 2) (State.consumed_frame _ _ _ rfl) rfl]),
    (fun k => by unfold State.group; rw [outs_of_without (m := 2) (State.consumed_frame _ _ _ rfl) rfl]),
    (fun k => by unfold State.hb; rw [outs_of_without (m := 2) (State.consumed_frame _ _ _ rfl) rfl]),
    (fun k => by unfold State.svc; rw [body_of_without (m := 2) (State.consumed_frame _ _ _ rfl) rfl]),
    (fun k => by unfold State.valve'; rw [valve_of_without (m := 2) (State.consumed_frame _ _ _ rfl) rfl]),
    (fun k => by unfold State.bank; rw [valve_of_without (m := 2) (State.consumed_frame _ _ _ rfl) rfl]),
    (fun k => by unfold State.boost; rw [valve_of_without (m := 2) (State.consumed_frame _ _ _ rfl) rfl]),
    (fun k => by unfold State.ant; rw [gnss_of_without (m := 2) (State.consumed_frame _ _ _ rfl) rfl]),
    (fun k => by unfold State.lin; rw [body_of_without (m := 2) (State.consumed_frame _ _ _ rfl) rfl]),
    (fun k => by unfold State.parkSlot; rw [outs_of_without (m := 2) (State.consumed_frame _ _ _ rfl) rfl]),
    (fun k => by unfold State.stud; rw [power_of_without (m := 2) (State.consumed_frame _ _ _ rfl) rfl]),
    (fun k => by unfold State.sensor; rw [thermal_of_without (m := 2) (State.consumed_frame _ _ _ rfl) rfl]),
    (fun k => by unfold State.link; rw [root_of_without (m := 2) (State.consumed_frame _ _ _ rfl) rfl]),
    (fun k => by unfold State.sw; rw [swin_of_without (m := 2) (State.consumed_frame _ _ _ rfl) rfl]),
    (by unfold State.hw; rw [time_of_without (m := 2) (State.consumed_frame _ _ _ rfl) rfl]),
    (by unfold State.variant; rw [part_of_without (m := 2) (State.consumed_frame _ _ _ rfl) rfl]),
    (by unfold State.trunkOn; rw [power_of_without (m := 2) (State.consumed_frame _ _ _ rfl) rfl]),
    (by unfold State.inRun; rw [power_of_without (m := 2) (State.consumed_frame _ _ _ rfl) rfl]),
    (by unfold State.operating; rw [power_of_without (m := 2) (State.consumed_frame _ _ _ rfl) rfl]),
    (by unfold State.parked; rw [power_of_without (m := 2) (State.consumed_frame _ _ _ rfl) rfl]),
    (fun k => by unfold State.sig; rw [signals_of_without (m := 2) (State.consumed_frame _ _ _ rfl) rfl])⟩
/-- What `State.offered` leaves as it is. -/
@[simp] theorem State.offered_leaves (s : State) (v : Verb) (r : Req) :
    (s.offered v r).part = s.part ∧ (s.offered v r).time = s.time ∧ (s.offered v r).faults = s.faults ∧
    (s.offered v r).signals = s.signals ∧ (s.offered v r).sensing = s.sensing ∧ (s.offered v r).ctrl = s.ctrl ∧
    (s.offered v r).valve = s.valve ∧ (s.offered v r).gnss = s.gnss ∧ (s.offered v r).imu = s.imu ∧
    (s.offered v r).cam = s.cam ∧ (s.offered v r).crown = s.crown ∧ (s.offered v r).granary = s.granary ∧
    (s.offered v r).outs = s.outs ∧ (s.offered v r).swin = s.swin ∧ (s.offered v r).body = s.body ∧
    (s.offered v r).fans = s.fans ∧ (s.offered v r).plate = s.plate ∧ (s.offered v r).can = s.can ∧
    (s.offered v r).eth = s.eth ∧ (s.offered v r).nm = s.nm ∧ (s.offered v r).root = s.root ∧
    (s.offered v r).graft = s.graft ∧ (s.offered v r).attic = s.attic ∧ (s.offered v r).larder = s.larder ∧
    (s.offered v r).power = s.power ∧ (s.offered v r).thermal = s.thermal ∧ (s.offered v r).jtag = s.jtag ∧
    (s.offered v r).kept = s.kept ∧ (s.offered v r).keptDirty = s.keptDirty ∧ (s.offered v r).keptAt = s.keptAt ∧
    (s.offered v r).free = s.free ∧ (s.offered v r).pending = s.pending ∧
    (∀ k, (State.offered s v r).lossCh k = s.lossCh k) ∧ (∀ k, (State.offered s v r).bridgeCh k = s.bridgeCh k) ∧
    (∀ k, (State.offered s v r).ainCh k = s.ainCh k) ∧ (∀ k, (State.offered s v r).freqCh k = s.freqCh k) ∧
    (∀ k, (State.offered s v r).supCh k = s.supCh k) ∧ (∀ k, (State.offered s v r).canCh k = s.canCh k) ∧
    (∀ k, (State.offered s v r).ethPort k = s.ethPort k) ∧ (∀ k, (State.offered s v r).net k = s.net k) ∧
    (∀ k, (State.offered s v r).port k = s.port k) ∧ (∀ k, (State.offered s v r).lamp k = s.lamp k) ∧
    (∀ k, (State.offered s v r).slot k = s.slot k) ∧ (∀ k, (State.offered s v r).crownUnit k = s.crownUnit k) ∧
    (∀ k, (State.offered s v r).loop k = s.loop k) ∧ (∀ k, (State.offered s v r).trace k = s.trace k) ∧
    (∀ k, (State.offered s v r).lidar k = s.lidar k) ∧ (∀ k, (State.offered s v r).ring k = s.ring k) ∧
    (∀ k, (State.offered s v r).fan k = s.fan k) ∧ (∀ k, (State.offered s v r).out k = s.out k) ∧
    (∀ k, (State.offered s v r).group k = s.group k) ∧ (∀ k, (State.offered s v r).hb k = s.hb k) ∧
    (∀ k, (State.offered s v r).svc k = s.svc k) ∧ (∀ k, (State.offered s v r).valve' k = s.valve' k) ∧
    (∀ k, (State.offered s v r).bank k = s.bank k) ∧ (∀ k, (State.offered s v r).boost k = s.boost k) ∧
    (∀ k, (State.offered s v r).ant k = s.ant k) ∧ (∀ k, (State.offered s v r).lin k = s.lin k) ∧
    (∀ k, (State.offered s v r).parkSlot k = s.parkSlot k) ∧ (∀ k, (State.offered s v r).stud k = s.stud k) ∧
    (∀ k, (State.offered s v r).sensor k = s.sensor k) ∧ (∀ k, (State.offered s v r).link k = s.link k) ∧
    (∀ k, (State.offered s v r).sw k = s.sw k) ∧ (State.offered s v r).hw = s.hw ∧
    (State.offered s v r).variant = s.variant ∧ (State.offered s v r).trunkOn = s.trunkOn ∧
    (State.offered s v r).inRun = s.inRun ∧ (State.offered s v r).operating = s.operating ∧
    (State.offered s v r).parked = s.parked ∧ (∀ k, (State.offered s v r).sig k = s.sig k) :=
  ⟨part_of_without (m := 2) (State.offered_frame _ _ _ rfl) rfl,
    time_of_without (m := 2) (State.offered_frame _ _ _ rfl) rfl,
    faults_of_without (m := 2) (State.offered_frame _ _ _ rfl) rfl,
    signals_of_without (m := 2) (State.offered_frame _ _ _ rfl) rfl,
    sensing_of_without (m := 2) (State.offered_frame _ _ _ rfl) rfl,
    ctrl_of_without (m := 2) (State.offered_frame _ _ _ rfl) rfl,
    valve_of_without (m := 2) (State.offered_frame _ _ _ rfl) rfl,
    gnss_of_without (m := 2) (State.offered_frame _ _ _ rfl) rfl,
    imu_of_without (m := 2) (State.offered_frame _ _ _ rfl) rfl, cam_of_without (m := 2) (State.offered_frame _ _ _ rfl) rfl,
    crown_of_without (m := 2) (State.offered_frame _ _ _ rfl) rfl,
    granary_of_without (m := 2) (State.offered_frame _ _ _ rfl) rfl,
    outs_of_without (m := 2) (State.offered_frame _ _ _ rfl) rfl,
    swin_of_without (m := 2) (State.offered_frame _ _ _ rfl) rfl,
    body_of_without (m := 2) (State.offered_frame _ _ _ rfl) rfl,
    fans_of_without (m := 2) (State.offered_frame _ _ _ rfl) rfl,
    plate_of_without (m := 2) (State.offered_frame _ _ _ rfl) rfl,
    can_of_without (m := 2) (State.offered_frame _ _ _ rfl) rfl, eth_of_without (m := 2) (State.offered_frame _ _ _ rfl) rfl,
    nm_of_without (m := 2) (State.offered_frame _ _ _ rfl) rfl, root_of_without (m := 2) (State.offered_frame _ _ _ rfl) rfl,
    graft_of_without (m := 2) (State.offered_frame _ _ _ rfl) rfl,
    attic_of_without (m := 2) (State.offered_frame _ _ _ rfl) rfl,
    larder_of_without (m := 2) (State.offered_frame _ _ _ rfl) rfl,
    power_of_without (m := 2) (State.offered_frame _ _ _ rfl) rfl,
    thermal_of_without (m := 2) (State.offered_frame _ _ _ rfl) rfl,
    jtag_of_without (m := 2) (State.offered_frame _ _ _ rfl) rfl,
    kept_of_without (m := 2) (State.offered_frame _ _ _ rfl) rfl,
    keptDirty_of_without (m := 2) (State.offered_frame _ _ _ rfl) rfl,
    keptAt_of_without (m := 2) (State.offered_frame _ _ _ rfl) rfl,
    free_of_without (m := 2) (State.offered_frame _ _ _ rfl) rfl,
    pending_of_without (m := 2) (State.offered_frame _ _ _ rfl) rfl,
    (fun k => by unfold State.lossCh; rw [sensing_of_without (m := 2) (State.offered_frame _ _ _ rfl) rfl]),
    (fun k => by unfold State.bridgeCh; rw [sensing_of_without (m := 2) (State.offered_frame _ _ _ rfl) rfl]),
    (fun k => by unfold State.ainCh; rw [sensing_of_without (m := 2) (State.offered_frame _ _ _ rfl) rfl]),
    (fun k => by unfold State.freqCh; rw [sensing_of_without (m := 2) (State.offered_frame _ _ _ rfl) rfl]),
    (fun k => by unfold State.supCh; rw [sensing_of_without (m := 2) (State.offered_frame _ _ _ rfl) rfl]),
    (fun k => by unfold State.canCh; rw [can_of_without (m := 2) (State.offered_frame _ _ _ rfl) rfl]),
    (fun k => by unfold State.ethPort; rw [eth_of_without (m := 2) (State.offered_frame _ _ _ rfl) rfl]),
    (fun k => by unfold State.net; rw [nm_of_without (m := 2) (State.offered_frame _ _ _ rfl) rfl]),
    (fun k => by unfold State.port; rw [cam_of_without (m := 2) (State.offered_frame _ _ _ rfl) rfl]),
    (fun k => by unfold State.lamp; rw [cam_of_without (m := 2) (State.offered_frame _ _ _ rfl) rfl]),
    (fun k => by unfold State.slot; rw [crown_of_without (m := 2) (State.offered_frame _ _ _ rfl) rfl]),
    (fun k => by unfold State.crownUnit; rw [crown_of_without (m := 2) (State.offered_frame _ _ _ rfl) rfl]),
    (fun k => by unfold State.loop; rw [ctrl_of_without (m := 2) (State.offered_frame _ _ _ rfl) rfl]),
    (fun k => by unfold State.trace; rw [ctrl_of_without (m := 2) (State.offered_frame _ _ _ rfl) rfl]),
    (fun k => by unfold State.lidar; rw [eth_of_without (m := 2) (State.offered_frame _ _ _ rfl) rfl]),
    (fun k => by unfold State.ring; rw [eth_of_without (m := 2) (State.offered_frame _ _ _ rfl) rfl]),
    (fun k => by unfold State.fan; rw [fans_of_without (m := 2) (State.offered_frame _ _ _ rfl) rfl]),
    (fun k => by unfold State.out; rw [outs_of_without (m := 2) (State.offered_frame _ _ _ rfl) rfl]),
    (fun k => by unfold State.group; rw [outs_of_without (m := 2) (State.offered_frame _ _ _ rfl) rfl]),
    (fun k => by unfold State.hb; rw [outs_of_without (m := 2) (State.offered_frame _ _ _ rfl) rfl]),
    (fun k => by unfold State.svc; rw [body_of_without (m := 2) (State.offered_frame _ _ _ rfl) rfl]),
    (fun k => by unfold State.valve'; rw [valve_of_without (m := 2) (State.offered_frame _ _ _ rfl) rfl]),
    (fun k => by unfold State.bank; rw [valve_of_without (m := 2) (State.offered_frame _ _ _ rfl) rfl]),
    (fun k => by unfold State.boost; rw [valve_of_without (m := 2) (State.offered_frame _ _ _ rfl) rfl]),
    (fun k => by unfold State.ant; rw [gnss_of_without (m := 2) (State.offered_frame _ _ _ rfl) rfl]),
    (fun k => by unfold State.lin; rw [body_of_without (m := 2) (State.offered_frame _ _ _ rfl) rfl]),
    (fun k => by unfold State.parkSlot; rw [outs_of_without (m := 2) (State.offered_frame _ _ _ rfl) rfl]),
    (fun k => by unfold State.stud; rw [power_of_without (m := 2) (State.offered_frame _ _ _ rfl) rfl]),
    (fun k => by unfold State.sensor; rw [thermal_of_without (m := 2) (State.offered_frame _ _ _ rfl) rfl]),
    (fun k => by unfold State.link; rw [root_of_without (m := 2) (State.offered_frame _ _ _ rfl) rfl]),
    (fun k => by unfold State.sw; rw [swin_of_without (m := 2) (State.offered_frame _ _ _ rfl) rfl]),
    (by unfold State.hw; rw [time_of_without (m := 2) (State.offered_frame _ _ _ rfl) rfl]),
    (by unfold State.variant; rw [part_of_without (m := 2) (State.offered_frame _ _ _ rfl) rfl]),
    (by unfold State.trunkOn; rw [power_of_without (m := 2) (State.offered_frame _ _ _ rfl) rfl]),
    (by unfold State.inRun; rw [power_of_without (m := 2) (State.offered_frame _ _ _ rfl) rfl]),
    (by unfold State.operating; rw [power_of_without (m := 2) (State.offered_frame _ _ _ rfl) rfl]),
    (by unfold State.parked; rw [power_of_without (m := 2) (State.offered_frame _ _ _ rfl) rfl]),
    (fun k => by unfold State.sig; rw [signals_of_without (m := 2) (State.offered_frame _ _ _ rfl) rfl])⟩
/-- What `State.replied` leaves as it is. -/
@[simp] theorem State.replied_leaves (u s : State) (v : Verb) (r : Req) (st : Nat) (pl : List Byte) :
    (u.replied s v r st pl).part = u.part ∧ (u.replied s v r st pl).time = u.time ∧ (u.replied s v r st pl).faults = u.faults ∧
    (u.replied s v r st pl).signals = u.signals ∧ (u.replied s v r st pl).sensing = u.sensing ∧
    (u.replied s v r st pl).ctrl = u.ctrl ∧ (u.replied s v r st pl).valve = u.valve ∧ (u.replied s v r st pl).gnss = u.gnss ∧
    (u.replied s v r st pl).imu = u.imu ∧ (u.replied s v r st pl).cam = u.cam ∧ (u.replied s v r st pl).crown = u.crown ∧
    (u.replied s v r st pl).granary = u.granary ∧ (u.replied s v r st pl).outs = u.outs ∧ (u.replied s v r st pl).swin = u.swin ∧
    (u.replied s v r st pl).body = u.body ∧ (u.replied s v r st pl).fans = u.fans ∧ (u.replied s v r st pl).plate = u.plate ∧
    (u.replied s v r st pl).can = u.can ∧ (u.replied s v r st pl).eth = u.eth ∧ (u.replied s v r st pl).nm = u.nm ∧
    (u.replied s v r st pl).root = u.root ∧ (u.replied s v r st pl).graft = u.graft ∧ (u.replied s v r st pl).attic = u.attic ∧
    (u.replied s v r st pl).larder = u.larder ∧ (u.replied s v r st pl).power = u.power ∧
    (u.replied s v r st pl).thermal = u.thermal ∧ (u.replied s v r st pl).jtag = u.jtag ∧ (u.replied s v r st pl).kept = u.kept ∧
    (u.replied s v r st pl).keptDirty = u.keptDirty ∧ (u.replied s v r st pl).keptAt = u.keptAt ∧
    (u.replied s v r st pl).free = u.free ∧ (u.replied s v r st pl).pending = u.pending ∧
    (∀ k, (State.replied u s v r st pl).lossCh k = u.lossCh k) ∧ (∀ k, (State.replied u s v r st pl).bridgeCh k = u.bridgeCh k) ∧
    (∀ k, (State.replied u s v r st pl).ainCh k = u.ainCh k) ∧ (∀ k, (State.replied u s v r st pl).freqCh k = u.freqCh k) ∧
    (∀ k, (State.replied u s v r st pl).supCh k = u.supCh k) ∧ (∀ k, (State.replied u s v r st pl).canCh k = u.canCh k) ∧
    (∀ k, (State.replied u s v r st pl).ethPort k = u.ethPort k) ∧ (∀ k, (State.replied u s v r st pl).net k = u.net k) ∧
    (∀ k, (State.replied u s v r st pl).port k = u.port k) ∧ (∀ k, (State.replied u s v r st pl).lamp k = u.lamp k) ∧
    (∀ k, (State.replied u s v r st pl).slot k = u.slot k) ∧ (∀ k, (State.replied u s v r st pl).crownUnit k = u.crownUnit k) ∧
    (∀ k, (State.replied u s v r st pl).loop k = u.loop k) ∧ (∀ k, (State.replied u s v r st pl).trace k = u.trace k) ∧
    (∀ k, (State.replied u s v r st pl).lidar k = u.lidar k) ∧ (∀ k, (State.replied u s v r st pl).ring k = u.ring k) ∧
    (∀ k, (State.replied u s v r st pl).fan k = u.fan k) ∧ (∀ k, (State.replied u s v r st pl).out k = u.out k) ∧
    (∀ k, (State.replied u s v r st pl).group k = u.group k) ∧ (∀ k, (State.replied u s v r st pl).hb k = u.hb k) ∧
    (∀ k, (State.replied u s v r st pl).svc k = u.svc k) ∧ (∀ k, (State.replied u s v r st pl).valve' k = u.valve' k) ∧
    (∀ k, (State.replied u s v r st pl).bank k = u.bank k) ∧ (∀ k, (State.replied u s v r st pl).boost k = u.boost k) ∧
    (∀ k, (State.replied u s v r st pl).ant k = u.ant k) ∧ (∀ k, (State.replied u s v r st pl).lin k = u.lin k) ∧
    (∀ k, (State.replied u s v r st pl).parkSlot k = u.parkSlot k) ∧ (∀ k, (State.replied u s v r st pl).stud k = u.stud k) ∧
    (∀ k, (State.replied u s v r st pl).sensor k = u.sensor k) ∧ (∀ k, (State.replied u s v r st pl).link k = u.link k) ∧
    (∀ k, (State.replied u s v r st pl).sw k = u.sw k) ∧ (State.replied u s v r st pl).hw = u.hw ∧
    (State.replied u s v r st pl).variant = u.variant ∧ (State.replied u s v r st pl).trunkOn = u.trunkOn ∧
    (State.replied u s v r st pl).inRun = u.inRun ∧ (State.replied u s v r st pl).operating = u.operating ∧
    (State.replied u s v r st pl).parked = u.parked ∧ (∀ k, (State.replied u s v r st pl).sig k = u.sig k) :=
  ⟨part_of_without (m := 2) (State.replied_frame _ _ _ _ _ _ rfl) rfl,
    time_of_without (m := 2) (State.replied_frame _ _ _ _ _ _ rfl) rfl,
    faults_of_without (m := 2) (State.replied_frame _ _ _ _ _ _ rfl) rfl,
    signals_of_without (m := 2) (State.replied_frame _ _ _ _ _ _ rfl) rfl,
    sensing_of_without (m := 2) (State.replied_frame _ _ _ _ _ _ rfl) rfl,
    ctrl_of_without (m := 2) (State.replied_frame _ _ _ _ _ _ rfl) rfl,
    valve_of_without (m := 2) (State.replied_frame _ _ _ _ _ _ rfl) rfl,
    gnss_of_without (m := 2) (State.replied_frame _ _ _ _ _ _ rfl) rfl,
    imu_of_without (m := 2) (State.replied_frame _ _ _ _ _ _ rfl) rfl,
    cam_of_without (m := 2) (State.replied_frame _ _ _ _ _ _ rfl) rfl,
    crown_of_without (m := 2) (State.replied_frame _ _ _ _ _ _ rfl) rfl,
    granary_of_without (m := 2) (State.replied_frame _ _ _ _ _ _ rfl) rfl,
    outs_of_without (m := 2) (State.replied_frame _ _ _ _ _ _ rfl) rfl,
    swin_of_without (m := 2) (State.replied_frame _ _ _ _ _ _ rfl) rfl,
    body_of_without (m := 2) (State.replied_frame _ _ _ _ _ _ rfl) rfl,
    fans_of_without (m := 2) (State.replied_frame _ _ _ _ _ _ rfl) rfl,
    plate_of_without (m := 2) (State.replied_frame _ _ _ _ _ _ rfl) rfl,
    can_of_without (m := 2) (State.replied_frame _ _ _ _ _ _ rfl) rfl,
    eth_of_without (m := 2) (State.replied_frame _ _ _ _ _ _ rfl) rfl,
    nm_of_without (m := 2) (State.replied_frame _ _ _ _ _ _ rfl) rfl,
    root_of_without (m := 2) (State.replied_frame _ _ _ _ _ _ rfl) rfl,
    graft_of_without (m := 2) (State.replied_frame _ _ _ _ _ _ rfl) rfl,
    attic_of_without (m := 2) (State.replied_frame _ _ _ _ _ _ rfl) rfl,
    larder_of_without (m := 2) (State.replied_frame _ _ _ _ _ _ rfl) rfl,
    power_of_without (m := 2) (State.replied_frame _ _ _ _ _ _ rfl) rfl,
    thermal_of_without (m := 2) (State.replied_frame _ _ _ _ _ _ rfl) rfl,
    jtag_of_without (m := 2) (State.replied_frame _ _ _ _ _ _ rfl) rfl,
    kept_of_without (m := 2) (State.replied_frame _ _ _ _ _ _ rfl) rfl,
    keptDirty_of_without (m := 2) (State.replied_frame _ _ _ _ _ _ rfl) rfl,
    keptAt_of_without (m := 2) (State.replied_frame _ _ _ _ _ _ rfl) rfl,
    free_of_without (m := 2) (State.replied_frame _ _ _ _ _ _ rfl) rfl,
    pending_of_without (m := 2) (State.replied_frame _ _ _ _ _ _ rfl) rfl,
    (fun k => by unfold State.lossCh; rw [sensing_of_without (m := 2) (State.replied_frame _ _ _ _ _ _ rfl) rfl]),
    (fun k => by unfold State.bridgeCh; rw [sensing_of_without (m := 2) (State.replied_frame _ _ _ _ _ _ rfl) rfl]),
    (fun k => by unfold State.ainCh; rw [sensing_of_without (m := 2) (State.replied_frame _ _ _ _ _ _ rfl) rfl]),
    (fun k => by unfold State.freqCh; rw [sensing_of_without (m := 2) (State.replied_frame _ _ _ _ _ _ rfl) rfl]),
    (fun k => by unfold State.supCh; rw [sensing_of_without (m := 2) (State.replied_frame _ _ _ _ _ _ rfl) rfl]),
    (fun k => by unfold State.canCh; rw [can_of_without (m := 2) (State.replied_frame _ _ _ _ _ _ rfl) rfl]),
    (fun k => by unfold State.ethPort; rw [eth_of_without (m := 2) (State.replied_frame _ _ _ _ _ _ rfl) rfl]),
    (fun k => by unfold State.net; rw [nm_of_without (m := 2) (State.replied_frame _ _ _ _ _ _ rfl) rfl]),
    (fun k => by unfold State.port; rw [cam_of_without (m := 2) (State.replied_frame _ _ _ _ _ _ rfl) rfl]),
    (fun k => by unfold State.lamp; rw [cam_of_without (m := 2) (State.replied_frame _ _ _ _ _ _ rfl) rfl]),
    (fun k => by unfold State.slot; rw [crown_of_without (m := 2) (State.replied_frame _ _ _ _ _ _ rfl) rfl]),
    (fun k => by unfold State.crownUnit; rw [crown_of_without (m := 2) (State.replied_frame _ _ _ _ _ _ rfl) rfl]),
    (fun k => by unfold State.loop; rw [ctrl_of_without (m := 2) (State.replied_frame _ _ _ _ _ _ rfl) rfl]),
    (fun k => by unfold State.trace; rw [ctrl_of_without (m := 2) (State.replied_frame _ _ _ _ _ _ rfl) rfl]),
    (fun k => by unfold State.lidar; rw [eth_of_without (m := 2) (State.replied_frame _ _ _ _ _ _ rfl) rfl]),
    (fun k => by unfold State.ring; rw [eth_of_without (m := 2) (State.replied_frame _ _ _ _ _ _ rfl) rfl]),
    (fun k => by unfold State.fan; rw [fans_of_without (m := 2) (State.replied_frame _ _ _ _ _ _ rfl) rfl]),
    (fun k => by unfold State.out; rw [outs_of_without (m := 2) (State.replied_frame _ _ _ _ _ _ rfl) rfl]),
    (fun k => by unfold State.group; rw [outs_of_without (m := 2) (State.replied_frame _ _ _ _ _ _ rfl) rfl]),
    (fun k => by unfold State.hb; rw [outs_of_without (m := 2) (State.replied_frame _ _ _ _ _ _ rfl) rfl]),
    (fun k => by unfold State.svc; rw [body_of_without (m := 2) (State.replied_frame _ _ _ _ _ _ rfl) rfl]),
    (fun k => by unfold State.valve'; rw [valve_of_without (m := 2) (State.replied_frame _ _ _ _ _ _ rfl) rfl]),
    (fun k => by unfold State.bank; rw [valve_of_without (m := 2) (State.replied_frame _ _ _ _ _ _ rfl) rfl]),
    (fun k => by unfold State.boost; rw [valve_of_without (m := 2) (State.replied_frame _ _ _ _ _ _ rfl) rfl]),
    (fun k => by unfold State.ant; rw [gnss_of_without (m := 2) (State.replied_frame _ _ _ _ _ _ rfl) rfl]),
    (fun k => by unfold State.lin; rw [body_of_without (m := 2) (State.replied_frame _ _ _ _ _ _ rfl) rfl]),
    (fun k => by unfold State.parkSlot; rw [outs_of_without (m := 2) (State.replied_frame _ _ _ _ _ _ rfl) rfl]),
    (fun k => by unfold State.stud; rw [power_of_without (m := 2) (State.replied_frame _ _ _ _ _ _ rfl) rfl]),
    (fun k => by unfold State.sensor; rw [thermal_of_without (m := 2) (State.replied_frame _ _ _ _ _ _ rfl) rfl]),
    (fun k => by unfold State.link; rw [root_of_without (m := 2) (State.replied_frame _ _ _ _ _ _ rfl) rfl]),
    (fun k => by unfold State.sw; rw [swin_of_without (m := 2) (State.replied_frame _ _ _ _ _ _ rfl) rfl]),
    (by unfold State.hw; rw [time_of_without (m := 2) (State.replied_frame _ _ _ _ _ _ rfl) rfl]),
    (by unfold State.variant; rw [part_of_without (m := 2) (State.replied_frame _ _ _ _ _ _ rfl) rfl]),
    (by unfold State.trunkOn; rw [power_of_without (m := 2) (State.replied_frame _ _ _ _ _ _ rfl) rfl]),
    (by unfold State.inRun; rw [power_of_without (m := 2) (State.replied_frame _ _ _ _ _ _ rfl) rfl]),
    (by unfold State.operating; rw [power_of_without (m := 2) (State.replied_frame _ _ _ _ _ _ rfl) rfl]),
    (by unfold State.parked; rw [power_of_without (m := 2) (State.replied_frame _ _ _ _ _ _ rfl) rfl]),
    (fun k => by unfold State.sig; rw [signals_of_without (m := 2) (State.replied_frame _ _ _ _ _ _ rfl) rfl])⟩

/-- What the passing of time leaves in TIME and in the power state. -/
@[simp] theorem State.waitTo_inner (s : State) (t : Nat) :
    (s.waitTo t).time.heartwood = max s.time.heartwood (cycleOf t) ∧
    (s.waitTo t).time.stopped = s.time.stopped ∧
    (s.waitTo t).time.parkPeriods = s.time.parkPeriods ∧
    (s.waitTo t).time.anchorPeriods = s.time.anchorPeriods ∧
    (s.waitTo t).time.epoch = s.time.epoch ∧
    (s.waitTo t).time.state = s.time.state ∧
    (s.waitTo t).time.role = s.time.role ∧
    (s.waitTo t).time.priority1 = s.time.priority1 ∧
    (s.waitTo t).time.pps = s.time.pps ∧
    (s.waitTo t).time.gpsOfs = s.time.gpsOfs ∧
    (s.waitTo t).time.ofsValid = s.time.ofsValid ∧
    (s.waitTo t).time.ofsThisStart = s.time.ofsThisStart ∧
    (s.waitTo t).time.ofsEpoch = s.time.ofsEpoch ∧
    (s.waitTo t).time.ppsOfs = s.time.ppsOfs ∧
    (s.waitTo t).time.leap = s.time.leap ∧
    (s.waitTo t).time.leapValid = s.time.leapValid ∧
    (s.waitTo t).time.errEst = s.time.errEst ∧
    (s.waitTo t).time.lockSince = s.time.lockSince ∧
    (s.waitTo t).time.holdSince = s.time.holdSince ∧
    (s.waitTo t).time.lastPps = s.time.lastPps ∧
    (s.waitTo t).time.errAt = s.time.errAt ∧
    (s.waitTo t).time.steer = s.time.steer ∧
    (s.waitTo t).time.gmSelected = s.time.gmSelected ∧
    (s.waitTo t).time.gmId = s.time.gmId ∧
    (s.waitTo t).time.lastSync = s.time.lastSync ∧
    (s.waitTo t).time.gmLost = s.time.gmLost ∧
    (s.waitTo t).time.ticks = s.time.ticks ∧
    (s.waitTo t).power.state = s.power.state ∧
    (s.waitTo t).power.studs = s.power.studs ∧
    (s.waitTo t).power.gndOpen = s.power.gndOpen ∧
    (s.waitTo t).power.logicMv = s.power.logicMv ∧
    (s.waitTo t).power.ign = s.power.ign ∧
    (s.waitTo t).power.keywake = s.power.keywake ∧
    (s.waitTo t).power.runReq = s.power.runReq ∧
    (s.waitTo t).power.holds = s.power.holds ∧
    (s.waitTo t).power.keepAwake = s.power.keepAwake ∧
    (s.waitTo t).power.system = s.power.system ∧
    (s.waitTo t).power.uvWarn = s.power.uvWarn ∧
    (s.waitTo t).power.lastStart = s.power.lastStart ∧
    (s.waitTo t).power.keeperAt = s.power.keeperAt ∧
    (s.waitTo t).power.parkStep = s.power.parkStep ∧
    (s.waitTo t).power.waitAt = s.power.waitAt ∧
    (s.waitTo t).power.waitPost = s.power.waitPost ∧
    (s.waitTo t).power.grace = s.power.grace ∧
    (s.waitTo t).power.lossAt = s.power.lossAt ∧
    (s.waitTo t).power.lossParked = s.power.lossParked ∧
    (s.waitTo t).power.lossMs = s.power.lossMs ∧
    (s.waitTo t).power.below3 = s.power.below3 ∧
    (s.waitTo t).power.lossMin = s.power.lossMin ∧
    (s.waitTo t).power.losses = s.power.losses ∧
    (s.waitTo t).power.trunkDue = s.power.trunkDue ∧
    (s.waitTo t).power.target = s.power.target := by and_intros <;> intros <;> rfl

/-- What a change of a window leaves in Keeper. -/
@[simp] theorem State.modWin_inner (s : State) (w : Nat) (f) :
    (s.modWin w f).keeper.units = s.keeper.units ∧
    (s.modWin w f).keeper.crowns = s.keeper.crowns ∧
    (s.modWin w f).keeper.crownInc = s.keeper.crownInc ∧
    (s.modWin w f).keeper.hostFns = s.keeper.hostFns ∧
    (s.modWin w f).keeper.partitions = s.keeper.partitions ∧
    (s.modWin w f).keeper.decls = s.keeper.decls ∧
    (s.modWin w f).keeper.memory = s.keeper.memory ∧
    (s.modWin w f).keeper.graftCore = s.keeper.graftCore ∧
    (s.modWin w f).keeper.deferred = s.keeper.deferred ∧
    (s.modWin w f).keeper.paused = s.keeper.paused ∧
    (s.modWin w f).keeper.pausedAt = s.keeper.pausedAt ∧
    (s.modWin w f).keeper.retired = s.keeper.retired ∧
    (s.modWin w f).keeper.eccCount = s.keeper.eccCount ∧
    (s.modWin w f).keeper.failovers = s.keeper.failovers ∧
    (s.modWin w f).keeper.verKeeper = s.keeper.verKeeper ∧
    (s.modWin w f).keeper.verRoot = s.keeper.verRoot ∧
    (s.modWin w f).keeper.verGnss = s.keeper.verGnss ∧
    (s.modWin w f).keeper.verSet = s.keeper.verSet ∧
    (s.modWin w f).keeper.keeperHb = s.keeper.keeperHb ∧
    (s.modWin w f).keeper.keeperHbAt = s.keeper.keeperHbAt ∧
    (s.modWin w f).keeper.ckptAt = s.keeper.ckptAt ∧
    (s.modWin w f).keeper.ckptLen = s.keeper.ckptLen := by and_intros <;> intros <;> rfl

/-- What a change of a host-assisted function leaves in Keeper. -/
@[simp] theorem State.modHost_inner (s : State) (k : Nat) (f) :
    (s.modHost k f).keeper.windows = s.keeper.windows ∧
    (s.modHost k f).keeper.units = s.keeper.units ∧
    (s.modHost k f).keeper.crowns = s.keeper.crowns ∧
    (s.modHost k f).keeper.crownInc = s.keeper.crownInc ∧
    (s.modHost k f).keeper.partitions = s.keeper.partitions ∧
    (s.modHost k f).keeper.decls = s.keeper.decls ∧
    (s.modHost k f).keeper.memory = s.keeper.memory ∧
    (s.modHost k f).keeper.graftCore = s.keeper.graftCore ∧
    (s.modHost k f).keeper.deferred = s.keeper.deferred ∧
    (s.modHost k f).keeper.paused = s.keeper.paused ∧
    (s.modHost k f).keeper.pausedAt = s.keeper.pausedAt ∧
    (s.modHost k f).keeper.retired = s.keeper.retired ∧
    (s.modHost k f).keeper.eccCount = s.keeper.eccCount ∧
    (s.modHost k f).keeper.failovers = s.keeper.failovers ∧
    (s.modHost k f).keeper.verKeeper = s.keeper.verKeeper ∧
    (s.modHost k f).keeper.verRoot = s.keeper.verRoot ∧
    (s.modHost k f).keeper.verGnss = s.keeper.verGnss ∧
    (s.modHost k f).keeper.verSet = s.keeper.verSet ∧
    (s.modHost k f).keeper.keeperHb = s.keeper.keeperHb ∧
    (s.modHost k f).keeper.keeperHbAt = s.keeper.keeperHbAt ∧
    (s.modHost k f).keeper.ckptAt = s.keeper.ckptAt ∧
    (s.modHost k f).keeper.ckptLen = s.keeper.ckptLen := by and_intros <;> intros <;> rfl

end Sys2Proof.Machine
end

