-- ==== Sys2Proof/Laws/Complete.lean ====
section
/-! SUPPORT. Laws/Complete.lean: how a command's completion follows from its effect: mailbox rows through the ring protocol, and
the marks of standing faults. -/

namespace Sys2Proof.Machine

theorem settleQueue_active (s : State) : s.settleQueue.faults.active = s.faults.active := by
  unfold State.settleQueue
  split
  · rfl
  · split
    · rfl
    · simp

theorem enqueue_active (s : State) (f : FaultRec) : (s.enqueue f).1.faults.active = s.faults.active := by
  unfold State.enqueue
  split
  · rfl
  · simp [settleQueue_active]

theorem placeFault_active (s : State) (f : FaultRec) : (s.placeFault f).1.faults.active = s.faults.active := by
  unfold State.placeFault
  split
  · split
    · rfl
    · exact enqueue_active s f
  · split
    · simp [State.preempt, settleQueue_active]
    · exact enqueue_active s f

/-- A raised fault stands. -/
@[simp] theorem raise_stands (s : State) (code unit inst sev : Nat) (p : List Nat) (b : Bool) :
    (s.raise code unit inst sev p b).1.stands code unit inst = true := by
  unfold State.raise State.stands
  simp only [placeFault_active]
  unfold State.markActive
  split
  · next h => simpa [FaultRec.same] using h
  · simp

@[simp] theorem raiseEv_stands (s : State) (u i src code sev p0 p1 p2 p3 : Nat) :
    (s.raiseEv u i src code sev p0 p1 p2 p3).stands code u i = true := by
  unfold State.raiseEv
  simp

/-- A cleared fault stands no more. -/
@[simp] theorem clearFault_stands (s : State) (code unit inst : Nat) : (s.clearFault code unit inst).stands code unit inst = false := by
  unfold State.clearFault State.stands
  split
  · next h =>
    simp only [List.find?_eq_none] at h
    simpa using h
  · next f h =>
    have hf := List.find?_some h
    simp only [Bool.and_eq_true, beq_iff_eq] at hf
    simp only [State.post_leaves, List.any_filter, List.any_eq_false]
    intro g hg
    simp only [FaultRec.same, hf, Bool.and_eq_true, Bool.not_eq_true', beq_iff_eq]
    rintro ⟨h1, h2⟩
    simp [h2] at h1

theorem stores_inner (s : State) (w : Nat) (l : List Store) :
    (s.stores w l).keeper.decls = s.keeper.decls ∧ (s.stores w l).keeper.hostFns = s.keeper.hostFns ∧
    (s.stores w l).keeper.partitions = s.keeper.partitions ∧ (s.stores w l).keeper.paused = s.keeper.paused ∧
    (s.stores w l).keeper.units = s.keeper.units ∧ (s.stores w l).keeper.crowns = s.keeper.crowns ∧
    (s.stores w l).keeper.graftCore = s.keeper.graftCore := by
  unfold State.stores
  induction l generalizing s with
  | nil => simp
  | cons e l ih => rw [List.foldl_cons]; simpa [State.store] using ih (s.store w e)

/-- What the offer of a command leaves in Keeper. -/
theorem offered_inner (s : State) (v : Verb) (r : Req) :
    (s.offered v r).keeper.decls = s.keeper.decls ∧ (s.offered v r).keeper.hostFns = s.keeper.hostFns ∧
    (s.offered v r).keeper.partitions = s.keeper.partitions ∧ (s.offered v r).keeper.paused = s.keeper.paused ∧
    (s.offered v r).keeper.graftCore = s.keeper.graftCore := by
  have h := stores_inner s r.win r.stores
  unfold State.offered State.ungate
  split
  · simp [State.consumed, State.written, h]
  · unfold State.modUnit
    split <;> simp [State.consumed, State.written, h]

/-- Declarations, host-assisted functions and partitions as the offer leaves them. -/
theorem offered_reads (s : State) (v : Verb) (r : Req) :
    (∀ k, (s.offered v r).decl k = s.decl k) ∧ (∀ k, (s.offered v r).hostFn k = s.hostFn k) ∧
    (∀ k, (s.offered v r).isHost k = s.isHost k) ∧ (∀ k, (s.offered v r).partition k = s.partition k) ∧
    (∀ w u i c, (s.offered v r).right w u i c = s.right w u i c) ∧ (∀ w u, (s.offered v r).anyRight w u = s.anyRight w u) ∧
    (∀ w, (s.offered v r).rightMask w = s.rightMask w) ∧ (∀ w i, (s.offered v r).sigOwned w i = s.sigOwned w i) ∧
    (∀ w i, (s.offered v r).sigReadable w i = s.sigReadable w i) ∧ (s.offered v r).keeper.paused = s.keeper.paused := by
  have h := offered_inner s v r
  have ha : (s.offered v r).anyRight = s.anyRight := by
    funext w u
    simp [State.anyRight, State.decl, h]
  refine ⟨?_, ?_, ?_, ?_, ?_, ?_, ?_, ?_, ?_, ?_⟩ <;> intros <;>
    simp [State.decl, State.hostFn, State.isHost, State.partition, State.right, State.anyRight, State.rightMask, State.sigOwned,
      State.sigReadable, h, ha]

/-- A served mailbox command answers the next state in which the unit's effect is done and its reply posted. -/
theorem row_replied {s : State} {v : Verb} {r : Req} {st : Nat} {pl : List Byte} (h : s.serves v r = true)
    (h2 : (v.body (v.req r) (s.offered v r)).2 = (st, pl)) (hl : st ≠ stLater) :
    mailboxRow v r s = .next ((v.body (v.req r) (s.offered v r)).1.replied s v r st pl) := by
  unfold mailboxRow
  rw [mailbox_replied (u := (v.body (v.req r) (s.offered v r)).1) h (by rw [← h2]) hl]

/-- The same with the unit's effect named. -/
theorem row_eq {s u : State} {v : Verb} {r : Req} {st : Nat} {pl : List Byte} (h : s.serves v r = true)
    (h2 : v.body (v.req r) (s.offered v r) = (u, st, pl)) (hl : st ≠ stLater) :
    mailboxRow v r s = .next (u.replied s v r st pl) := by
  unfold mailboxRow
  rw [mailbox_replied h h2 hl]

/-- A served mailbox command whose reply comes later. -/
theorem row_later {s : State} {v : Verb} {r : Req} (h : s.serves v r = true)
    (h2 : (v.body (v.req r) (s.offered v r)).2.1 = stLater) :
    mailboxRow v r s = .next (((v.body (v.req r) (s.offered v r)).1.settled s v r).modWin r.win
      (fun x => { x with later := x.later ++ [(v.req r, false)] })) := by
  unfold mailboxRow
  rw [mailbox_later (u := (v.body (v.req r) (s.offered v r)).1) (pl := (v.body (v.req r) (s.offered v r)).2.2) h
    (by rw [← h2])]

/-- A served mailbox command whose reply comes later, its effect given. -/
theorem row_eq_later {s u : State} {v : Verb} {r : Req} {pl : List Byte} (h : s.serves v r = true)
    (e : v.body (v.req r) (s.offered v r) = (u, stLater, pl)) :
    mailboxRow v r s = .next ((u.settled s v r).modWin r.win (fun x => { x with later := x.later ++ [(v.req r, false)] })) := by
  rw [row_later h (by rw [e]), e]

/-- The unit's effect of a served mailbox command leaves alone what its verb leaves alone. -/
theorem frame_row {s : State} {v : Verb} {r : Req} {m : Nat} {l : List Piece} (hv : v.Keeps m) (hk : m &&& 2 = 2)
    (hl : pieces l = m) : SameBut l s (v.body (v.req r) (s.offered v r)).1 := by
  unfold SameBut
  rw [hl, hv, State.offered_frame _ _ _ hk]

theorem frame_exec {s t : State} {m : Nat} {l : List Piece} (h : t.without m = s.without m) (hl : pieces l = m) :
    SameBut l s t := by
  unfold SameBut
  rw [hl, h]

end Sys2Proof.Machine
end

