-- ==== Sys2Proof/Tests/Slice0.lean ====
section
/-! SUPPORT. Slice0.lean: the model's own tests. Witnesses that the premises of every clause of every statement can be met,
commands that WellFormed refuses, and examples of the spec worked out by hand. -/

section

set_option Elab.async false

open Sys2Proof Sys2Proof.Machine

/-- All units running, with generation 1. -/
def upUnit : UnitSt := { UnitSt.reset with gen := 1, valid := true, phase := .running }

/-- A ZQ-4 in RUN with every unit up, Root running, and the windows of Root and of partition 0 live. -/
def wit : State :=
  { State.reset with
    part := { Part.reset with variant := .zq4, housing := .l },
    power.state := .run,
    power.studs := (List.range 3).map (fun k => (k, { Stud.reset with mv := 24000, low := false })),
    root.phase := .running,
    time.heartwood := 5000000000,
    keeper.units := genSlots.map (fun u => (u, upUnit)),
    keeper.crowns := (List.range 3).map (fun n => (n, upUnit)),
    keeper.windows := [(0, { Window.reset with running := true, mask := 2 ^ 256 - 1 }), (0x10, { Window.reset with running := true, mask := 1 })] }

/-- A request of Root for an instance with a payload. -/
def ask (inst : Nat) (payload : List Byte) : Req := { win := 0, inst := inst, payload := payload }

/-- Bytes of a list of numbers. -/
def bs (l : List Nat) : List Byte := l.map (BitVec.ofNat 8)

theorem u8_tread (t : Tab Byte) (a n k : Nat) : u8 (tread t a n) k = if k < n then (tget 0 t (a + k)).toNat else 0 := by
  unfold u8 tread
  by_cases h : k < n
  · simp [h]
  · simp [h]

/-- An ISP block with every field in range, zero outside five bytes. -/
theorem isp_wit {g : Nat} (h : g = 2316) {x : CamSensor} (hw : x.width = 64) (hh : x.height = 64) : ispOk x (tread [(8, 1), (128, 2), (129, 50), (130, 51), (230, 1), (233, 1), (249, 1)] 0 g) = true := by
  subst h
  unfold ispOk cropOk f32s f32
  simp only [hw, hh]
  have z : ∀ k, 249 < k → tget (0 : Byte) [(8, 1), (128, 2), (129, 50), (130, 51), (230, 1), (233, 1), (249, 1)] k = 0 := by
    intro k hk
    have h1 : ¬ 8 = k := by omega
    have h2 : ¬ 128 = k := by omega
    have h3 : ¬ 129 = k := by omega
    have h4 : ¬ 130 = k := by omega
    have h5 : ¬ 230 = k := by omega
    have h6 : ¬ 233 = k := by omega
    have h7 : ¬ 249 = k := by omega
    simp [tget, tfind, h1, h2, h3, h4, h5, h6, h7]
  have z16 : ∀ k, 249 < k → u16 (tread [(8, 1), (128, 2), (129, 50), (130, 51), (230, 1), (233, 1), (249, 1)] 0 2316) k = 0 := by
    intro k hk
    unfold u16
    rw [u8_tread, u8_tread, Nat.zero_add, Nat.zero_add, z k hk, z (k + 1) (by omega)]
    simp
  have e : (List.range 1024).all (fun i => decide (u16 (tread [(8, 1), (128, 2), (129, 50), (130, 51), (230, 1), (233, 1), (249, 1)] 0 2316) (264 + 2 * i) ≤ 4095)) = true := by
    rw [List.all_eq_true]
    intro i _
    rw [z16 _ (by omega)]
    rfl
  rw [e, z16 2312 (by omega)]
  have d : ∀ k, k ≤ 2313 → u8 (tread [(8, 1), (128, 2), (129, 50), (130, 51), (230, 1), (233, 1), (249, 1)] 0 2316) k = (tget (0 : Byte) [(8, 1), (128, 2), (129, 50), (130, 51), (230, 1), (233, 1), (249, 1)] k).toNat := by
    intro k hk
    rw [u8_tread, if_pos (by omega), Nat.zero_add]
  have l2 : List.range 2 = [0, 1] := rfl
  have l4 : List.range 4 = [0, 1, 2, 3] := rfl
  have l15 : List.range 15 = [0, 1, 2, 3, 4, 5, 6, 7, 8, 9, 10, 11, 12, 13, 14] := rfl
  have d128 := d 128 (by omega)
  simp only [show (tget (0 : Byte) [(8, 1), (128, 2), (129, 50), (130, 51), (230, 1), (233, 1), (249, 1)] 128).toNat = 2 from by decide] at d128
  rw [d128]
  simp only [l4, l15, l2, show 2 - 1 = 1 from rfl, show List.range 1 = [0] from rfl, List.map, List.all]
  unfold u32 u16
  simp (disch := decide) only [d]
  decide +kernel

/-- The same block read from a region. -/
theorem isp_wit' {s : State} {w d g : Nat} {x : CamSensor} (hb : (s.region w d).bytes = [(8, 1), (128, 2), (129, 50), (130, 51), (230, 1), (233, 1), (249, 1)])
    (h : g = 2316) (hw : x.width = 64) (hh : x.height = 64) : ispOk x (s.regionRead w d 0 g) = true := by
  unfold State.regionRead
  rw [hb]
  exact isp_wit h hw hh

/-! ### Witnesses of the statements about the block as a whole: states and operands that meet the premises of each clause,
at the ends of their ranges -/

/-- The window of partition 0 with other ring contents. -/
def witWin (f : Window → Window) : State := wit.modWin 0x10 f

/-- A window whose event ring is full of unread entries. -/
def fullRing (x : Window) : Window := { x with evtProd := 256, evtRing := List.replicate 256 Event.reset, evtDropped := 3, evtDropAt := 7 }

theorem test_witness_StepRunsTheFrontCommand :
    (∃ s : State, s.pending = [] ∧ s.trunkOn = true) ∧
    (∃ s : State, s.pending = [] ∧ s.trunkOn = false ∧ s.power.state ≠ .off) ∧
    (∃ s : State, s.pending = [] ∧ s.power.state = .off) :=
  ⟨⟨wit, by decide +kernel⟩, ⟨{ State.reset with power.state := .deep }, by decide +kernel⟩, ⟨State.reset, by decide +kernel⟩⟩

theorem test_witness_CommandSlotRoundTrip :
    (∃ r : Req, reqOkFields r = true ∧ r.payload.length = 0) ∧
    (∃ r : Req, reqOkFields r = true ∧ r.payload.length = 112 ∧ r.genLow = 4095 ∧ r.tag = 2 ^ 32 - 1) :=
  ⟨⟨ask 0 [], by decide +kernel⟩, ⟨{ ask 65535 (List.replicate 112 255) with win := 0x1F, genLow := 4095, tag := 2 ^ 32 - 1, cls := 3 }, by decide +kernel⟩⟩

theorem test_witness_PostedSlotsReadBack :
    (∃ (s : State) (w k : Nat) (y : Reply), (s.win w).rplRing.length = 64 ∧ k = 127 ∧ y.payload.length = 112) ∧
    (∃ (s : State) (w k : Nat), (s.win w).evtRing.length = 256 ∧ (s.win w).unread = 255 ∧ k = 31) :=
  ⟨⟨witWin (fun x => { x with rplRing := List.replicate 64 Reply.reset }), 0x10, 127, { Reply.reset with payload := List.replicate 112 1 }, by decide +kernel⟩,
   ⟨witWin (fun x => { fullRing x with evtCons := 1 }), 0x10, 31, by decide +kernel⟩⟩

theorem test_witness_BadIndexWritesAreIgnored :
    (∃ (s : State) (w value : Nat), s.live w = true ∧ (value % 65536 + 65536 - (s.win w).cmdCons) % 65536 = 65) ∧
    (∃ (s : State) (w value : Nat), s.live w = true ∧
      (value % 65536 + 65536 - (s.win w).rplCons) % 65536 = ((s.win w).rplProd + 65536 - (s.win w).rplCons) % 65536 + 1) ∧
    (∃ (s : State) (w value : Nat), s.live w = true ∧ (value % 65536 + 65536 - (s.win w).evtCons) % 65536 = (s.win w).unread + 1) ∧
    (∃ (s : State) (w : Nat), (s.win w).running = true ∧ s.keeper.paused = false ∧ (s.win w).unread = 255) ∧
    (∃ (s : State) (w : Nat), (s.win w).running = true ∧ s.keeper.paused = true) :=
  ⟨⟨wit, 0x10, 65, by decide +kernel⟩, ⟨wit, 0x10, 1, by decide +kernel⟩, ⟨wit, 0, 1, by decide +kernel⟩,
   ⟨witWin (fun x => { x with evtProd := 255 }), 0x10, by decide +kernel⟩, ⟨{ wit with keeper.paused := true }, 0x10, by decide +kernel⟩⟩

theorem test_witness_FullEventRingDropsThenReports :
    (∃ x : Window, x.unread = 256) ∧
    (∃ x : Window, x.unread = 255 ∧ x.evtRing.length = 256) ∧
    (∃ (s : State) (w value : Nat), s.live w = true ∧ s.keeper.paused = false ∧ (s.win w).evtDropped ≠ 0 ∧
      (s.win w).indicesOk = true ∧ (s.win w).evtRing.length ≤ 256 ∧ value < 65536 ∧
      (value + 65536 - (s.win w).evtCons) % 65536 = 1 ∧ (value + 65536 - (s.win w).evtCons) % 65536 ≤ (s.win w).unread) ∧
    (∃ (s : State) (w value : Nat), s.live w = true ∧ (s.win w).evtDropped ≠ 0 ∧ (s.win w).indicesOk = true ∧
      (value + 65536 - (s.win w).evtCons) % 65536 = (s.win w).unread) :=
  ⟨⟨fullRing Window.reset, by decide +kernel⟩, ⟨{ fullRing Window.reset with evtCons := 1 }, by decide +kernel⟩,
   ⟨witWin fullRing, 0x10, 1, by decide +kernel⟩, ⟨witWin fullRing, 0x10, 256, by decide +kernel⟩⟩

theorem test_witness_UnitBitsOfAWindow : (∃ u, u < 128 ∧ unitKnown u = true ∧ unitFitted .zq4 u = true) ∧ (∃ u, u = 127 ∧ unitKnown u = false) :=
  ⟨⟨0x42, by decide +kernel⟩, ⟨127, by decide +kernel⟩⟩

/-- A request of partition 0 for KEEPER.SIG_READ. -/
def sigAsk : Req := { ask 0 [0x54, 0] with win := 0x10, unit := 1, verb := 0x10 }

theorem test_witness_FirstFailedCheckDecides :
    (∃ r : Req, unitKnown r.unit = false) ∧
    (∃ (s : State) (r : Req), unitKnown r.unit = true ∧ unitFitted s.variant r.unit = false) ∧
    (∃ (s : State) (r : Req), unitKnown r.unit = true ∧ unitFitted s.variant r.unit = true ∧ verbOf r.unit r.verb = none) ∧
    (∃ (s : State) (v : Verb) (r : Req), unitFitted s.variant v.unit = true ∧ r.payload.length = 113) ∧
    (∃ (s : State) (v : Verb) (r : Req), unitFitted s.variant v.unit = true ∧ r.payload.length ≤ 112 ∧ v.lenOk r = false) ∧
    (∃ (s : State) (v : Verb) (r : Req), unitFitted s.variant v.unit = true ∧ r.payload.length ≤ 112 ∧ v.lenOk r = true ∧
      v.instOk r.inst = false) ∧
    (∃ (s : State) (v : Verb) (r : Req), unitFitted s.variant v.unit = true ∧ r.payload.length ≤ 112 ∧ v.lenOk r = true ∧ r.cls = 1) ∧
    (∃ (s : State) (v : Verb) (r : Req), unitFitted s.variant v.unit = true ∧ r.payload.length ≤ 112 ∧ v.lenOk r = true ∧
      v.instOk r.inst = true ∧ r.cls = 0 ∧ instPresent s.part v.unit r.inst = false) ∧
    (∃ (s : State) (v : Verb) (r : Req), unitFitted s.variant v.unit = true ∧ r.payload.length ≤ 112 ∧ v.lenOk r = true ∧
      v.instOk r.inst = true ∧ r.cls = 0 ∧ instPresent s.part v.unit r.inst = true ∧ s.permitted v r = false) ∧
    (∃ (s : State) (v : Verb) (r : Req), unitFitted s.variant v.unit = true ∧ r.payload.length ≤ 112 ∧ v.lenOk r = true ∧
      v.instOk r.inst = true ∧ r.cls = 2 ∧ instPresent s.part v.unit r.inst = true ∧ s.permitted v r = true ∧
      r.flags.testBit 2 = true ∧ r.genLow ≠ s.gen v.unit r.inst % 4096) ∧
    (∃ (s : State) (v : Verb) (r : Req), unitFitted s.variant v.unit = true ∧ r.payload.length ≤ 112 ∧ v.lenOk r = true ∧
      v.instOk r.inst = true ∧ r.cls = 3 ∧ instPresent s.part v.unit r.inst = true ∧ s.permitted v r = true ∧
      r.flags.testBit 2 = true ∧ r.genLow = s.gen v.unit r.inst % 4096 ∧ (s.unitSt v.unit r.inst).phase = .running ∧
      deadlinePassed s.us r.deadline = true) ∧
    (∃ (s : State) (v : Verb) (r : Req), unitFitted s.variant v.unit = true ∧ r.payload.length ≤ 112 ∧ v.lenOk r = true ∧
      v.instOk r.inst = true ∧ r.cls = 3 ∧ instPresent s.part v.unit r.inst = true ∧ s.permitted v r = true ∧
      r.flags.testBit 2 = false ∧ (s.unitSt v.unit r.inst).phase = .off ∧ v.anyPower = false) ∧
    (∃ (s : State) (v : Verb) (r : Req), unitFitted s.variant v.unit = true ∧ r.payload.length ≤ 112 ∧ v.lenOk r = true ∧
      v.instOk r.inst = true ∧ r.cls = 3 ∧ instPresent s.part v.unit r.inst = true ∧ s.permitted v r = true ∧
      r.flags.testBit 2 = false ∧ (s.unitSt v.unit r.inst).phase = .restarting ∧ r.flags.testBit 1 = true) ∧
    (∃ (v : Verb) (r : Req) (s : State), s.live r.win = true ∧ (s.win r.win).backlog = 0 ∧
      ((s.stores r.win r.stores).win r.win).backlog = 0 ∧ (s.stores r.win r.stores).keeperServes r.win = true ∧
      (s.consumed v r).mustWait ((s.consumed v r).win r.win).waiting (v.req r) = false ∧
      (s.consumed v r).recorded (v.req r) = none ∧ (s.consumed v r).check v (v.req r) = some stBadLength ∧ stBadLength ≠ stHeld) :=
  ⟨⟨{ ask 0 [] with unit := 0 }, by decide +kernel⟩,
   ⟨{ wit with part.variant := .zq2n }, { ask 0 [] with unit := 0x10 }, by decide +kernel⟩,
   ⟨wit, { ask 0 [] with unit := 1, verb := 255 }, by decide +kernel⟩,
   ⟨wit, verbKeeperNop, ask 0 (List.replicate 113 0), by decide +kernel⟩,
   ⟨wit, verbKeeperNop, ask 0 [0], by decide +kernel⟩,
   ⟨wit, verbKeeperNop, ask 1 [], by decide +kernel⟩,
   ⟨wit, verbKeeperNop, { ask 0 [] with cls := 1 }, by decide +kernel⟩,
   ⟨{ wit with part.variant := .zq2 }, verbLossStatus, { ask 12 [] with cls := 0 }, by decide +kernel⟩,
   ⟨wit, verbLossStatus, { ask 0 [] with win := 0x10, cls := 0 }, by decide +kernel⟩,
   ⟨wit, verbKeeperNop, { ask 0 [] with cls := 2, flags := 4, genLow := 0 }, by decide +kernel⟩,
   ⟨wit, verbKeeperNop, { ask 0 [] with cls := 3, flags := 4, genLow := 1, deadline := 1 }, by decide +kernel⟩,
   ⟨{ wit with keeper.units := [] }, verbKeeperNop, { ask 0 [] with cls := 3 }, by decide +kernel⟩,
   ⟨wit.modUnit 1 0 (fun x => { x with phase := .restarting }), verbKeeperNop, { ask 0 [] with cls := 3, flags := 2 }, by decide +kernel⟩,
   ⟨verbKeeperNop, ask 0 [0], wit, by decide +kernel⟩⟩

theorem test_witness_OnlyTheRootWindowRestartsRoot : ∃ r : Req, r.win ≠ 0 := ⟨sigAsk, by decide⟩

theorem test_witness_SignalsChangeOnlyByTheirOwner :
    (∃ (s : State) (r : Req) (id : Nat), s.sigOwned r.win id = false ∧ r.win = 0 ∧ id = 0xEFF) ∧
    (∃ (s : State) (r : Req) (id : Nat), s.sigOwned r.win id = false ∧ r.win = 0x10 ∧ id = 0x800) :=
  ⟨⟨wit, ask 0 [], 0xEFF, by decide +kernel⟩, ⟨wit, sigAsk, 0x800, by decide +kernel⟩⟩

theorem test_witness_RepliesInOrderOfDecision :
    (∃ (s : State) (w : Nat), s.keeper.paused = false ∧ (s.win w).outbox = [] ∧ (s.win w).freeSlots = 1) ∧
    (∃ (s : State), s.keeper.paused = true) ∧ (∃ (s : State) (w : Nat), (s.win w).outbox ≠ []) ∧
    (∃ (s : State) (w : Nat), (s.win w).freeSlots = 0) ∧
    (∃ x : Window, x.rplProd = 65535 ∧ x.rplCons < 65536 ∧ x.rplRing.length = 64 ∧ x.outbox.length = 2 ∧ x.freeSlots = 1) :=
  ⟨⟨witWin (fun x => { x with rplProd := 63 }), 0x10, by decide +kernel⟩,
   ⟨{ wit with keeper.paused := true }, by decide +kernel⟩, ⟨witWin (fun x => { x with outbox := [Reply.reset] }), 0x10, by decide +kernel⟩,
   ⟨witWin (fun x => { x with rplProd := 64 }), 0x10, by decide +kernel⟩,
   ⟨{ Window.reset with rplProd := 65535, rplCons := 65472, rplRing := List.replicate 64 Reply.reset, outbox := [Reply.reset, Reply.reset] }, by decide +kernel⟩⟩

/-- The fault manager with a fault of severity 3 in hand and 32 of severity 2 and 1 queued. -/
def fullFaults : State :=
  { wit with faults.current := some { FaultRec.reset with sev := 3 },
             faults.queue := List.replicate 16 { FaultRec.reset with sev := 2 } ++ List.replicate 16 { FaultRec.reset with sev := 1 } }

theorem test_witness_FaultQueueStaysOrdered :
    ∃ s : State, s.faults.queue.Pairwise (fun f g => g.sev ≤ f.sev) ∧ s.faults.queue.length = 32 ∧ s.running 3 0 = true ∧
      (∃ c, s.faults.current = some c ∧ ∀ g ∈ s.faults.queue, g.sev ≤ c.sev) :=
  ⟨fullFaults, by decide +kernel, by decide +kernel, by decide +kernel, { FaultRec.reset with sev := 3 }, by decide +kernel, by decide +kernel⟩

theorem test_witness_WindowBytesStayCanonical :
    (∃ (s : State) (k : Nat), twf 0 (s.win k).cmdRing = true ∧ (s.win k).cmdRing ≠ []) ∧
    (∃ (s : State) (k d : Nat), twf 0 (s.region k d).bytes = true ∧ (s.region k d).present = true ∧ d = 63) ∧
    (∃ (s : State) (w ofs : Nat), s.live w = true ∧ twf 0 (s.win w).cmdRing = true ∧ ofs % 8 = 0 ∧ ofs = 0x1000) ∧
    (∃ (s : State) (w ofs : Nat), s.live w = true ∧ twf 0 (s.win w).cmdRing = true ∧ ofs % 8 = 0 ∧ ofs = 0x2FF8) ∧
    (∃ n a ofs len : Nat, a + n = ofs ∧ 0 < n ∧ 0 < len) ∧ (∃ n a ofs len : Nat, ofs + len = a ∧ 0 < n) :=
  ⟨⟨witWin (fun x => { x with cmdRing := [(0x1000, 1)] }), 0x10, by decide +kernel⟩,
   ⟨witWin (fun x => { x with regions := [(63, { Region.reset with present := true, size := 64, bytes := [(63, 9)] })] }), 0x10, 63, by decide +kernel⟩,
   ⟨wit, 0x10, 0x1000, by decide +kernel⟩, ⟨wit, 0, 0x2FF8, by decide +kernel⟩, ⟨1, 0, 1, 1, by decide⟩, ⟨1, 2, 1, 1, by decide⟩⟩

theorem test_witness_RingIndicesKeepTheirRule :
    (∃ x : Window, x.indicesOk = true ∧ x.backlog = 63 ∧ x.cmdProd = 65535) ∧
    (∃ x : Window, x.indicesOk = true ∧ x.backlog ≠ 0 ∧ x.cmdCons = 65535) ∧
    (∃ (s : State) (w value : Nat), (s.win w).indicesOk = true ∧ s.live w = true ∧
      (value % 65536 + 65536 - (s.win w).evtCons) % 65536 = (s.win w).unread ∧ (s.win w).unread = 256) :=
  ⟨⟨{ Window.reset with cmdProd := 65535, cmdCons := 65472 }, by decide +kernel⟩,
   ⟨{ Window.reset with cmdProd := 0, cmdCons := 65535 }, by decide +kernel⟩, ⟨witWin fullRing, 0x10, 256, by decide +kernel⟩⟩

/-! ### Commands that no row can have: one for each check of WellFormed -/

theorem test_ill_formed_requests :
    WellFormed (.keeperNop { ask 0 [] with win := 0x20 }) = false ∧ WellFormed (.keeperNop { ask 0 [] with tag := 2 ^ 32 }) = false ∧
    WellFormed (.keeperNop { ask 0 [] with flags := 256 }) = false ∧ WellFormed (.keeperNop (ask 65536 [])) = false ∧
    WellFormed (.keeperNop { ask 0 [] with cls := 16 }) = false ∧ WellFormed (.keeperNop { ask 0 [] with genLow := 4096 }) = false ∧
    WellFormed (.keeperNop { ask 0 [] with deadline := 2 ^ 32 }) = false ∧ WellFormed (.keeperNop { ask 0 [] with unit := 256 }) = false ∧
    WellFormed (.keeperNop { ask 0 [] with verb := 256 }) = false ∧
    WellFormed (.keeperNop (ask 0 (List.replicate 256 0))) = false ∧
    WellFormed (.keeperNop { ask 0 [] with stores := [(64, 0, [])] }) = false ∧
    WellFormed (.keeperNop { ask 0 [] with stores := [(0, 2 ^ 24, [1])] }) = false ∧ WellFormed (.keeperNop (ask 0 [])) = true := by
  decide +kernel

theorem test_ill_formed_accesses :
    WellFormed (.registerWrite 0 0x100 24 0) = false ∧ WellFormed (.registerWrite 0 65536 32 0) = false ∧
    WellFormed (.registerWrite 0x10 0x40000000 32 0) = false ∧ WellFormed (.registerWrite 0 0x100 32 (2 ^ 64)) = false ∧
    WellFormed (.registerWrite 0 0x40000FFC 32 0) = true ∧ WellFormed (.rplConsWrite 0x0F 0) = false ∧
    WellFormed (.evtConsWrite 0 (2 ^ 32)) = false := by
  decide +kernel

theorem test_ill_formed_instances :
    WellFormed (.lossStrikeOnset 24 0) = false ∧ WellFormed (.lossStrikeOnset 23 0) = true ∧ WellFormed (.unitReady 256 0) = false ∧
    WellFormed (.unitReady 1 65536) = false ∧ WellFormed (.canopyPartitionStart 16) = false ∧ WellFormed (.studReturn 3 0 0) = false ∧
    WellFormed (.canTpBamPacket 8 0) = false := by
  decide +kernel

/-! ### The spec's own examples and layouts -/

/-- 02 R44: CROWN 0x42 is bit 2 of FITTED2, and fitted on a ZQ-4; unit 0x00 is absent from the table. -/
theorem test_fitted2_crown : (wit.regRead 0 0x18).testBit 2 = true ∧ (wit.regRead 0 0x10).testBit 0 = false := by decide +kernel

/-- 02 R52: the table of real-time verbs is the marks of the verbs. -/
theorem test_real_time_marks :
    allVerbs.all (fun v => v.rt == realTime.any (fun e => e.1 == v.unit && e.2.contains v.verb)) = true := by decide +kernel

/-- 02 R51: a slot written out byte by byte: verb 0x10 of unit 1, ORDERED, length 2, tag 0x0A51, instance 0, class 2, GEN_LOW
0x014, no deadline. -/
theorem test_slot_bytes :
    slotReq 0x10 (bs [0x10, 0x01, 0x01, 0x02, 0x51, 0x0A, 0x00, 0x00, 0x00, 0x00, 0x42, 0x01, 0, 0, 0, 0, 0x54, 0x00] ++ List.replicate 110 0) =
      { win := 0x10, unit := 1, verb := 0x10, tag := 0x0A51, flags := 1, inst := 0, cls := 2, genLow := 0x014, deadline := 0, payload := bs [0x54, 0] } := by
  decide +kernel

/-- 02 R60: a deadline counts on a 32-bit clock: 1 past the wrap is still ahead of 0xFFFF_FFF0, and behind it once 1 has passed. -/
theorem test_deadline_wraps :
    deadlinePassed 0xFFFFFFF0 1 = false ∧ deadlinePassed 0x100000001 1 = true ∧ deadlinePassed 5 0 = false := by decide

/-- 03, worked example: a fault of severity 6 preempts one of severity 3 in hand; the repeat of the preempted one coalesces;
one of severity 2 waits behind it. -/
theorem test_nested_faults :
    let s0 := { wit with faults.occurrences := 40 }
    let s1 := (s0.raise 0x3002 0x21 5 3 []).1
    let s2 := (s1.raise 0x6001 0x28 7 6 []).1
    let s3 := (s2.raise 0x3002 0x21 5 3 []).1
    let s4 := (s3.raise 0xE012 0x03 0 2 []).1
    s1.faults.current.map (·.occ) = some 41 ∧ s2.faults.current.map (·.occ) = some 42 ∧
    s3.faults.queue.map (fun f => (f.occ, f.count)) = [(41, 2)] ∧ s4.faults.queue.map (·.occ) = [41, 43] ∧
    s2.faults.rootSeen.map (·.occ) = [42] := by
  decide +kernel

/-! ### Witnesses of the statements about the rows: each clause of each statement, its premises met together -/

theorem test_witness_AtticEventRowsComplete :
    (∃ (s : State) (index : Nat) (t : Transfer), (s.attic.transfers[index]? = some t) ∧ (s.running 0x61 0 = true)) ∧
    (∃ (s : State), (s.trunkOn = true) ∧ (s.running 0x71 0 = true)) ∧
    (∃ (s : State) (t : Nat), (s.attic.drainAt = some t) ∧ (s.hasStaged = true) ∧ (s.power.parkStep = 3)) ∧
    (∃ (s : State) (t : Nat) (u : Nat), (s.keptDirty = some u) ∧ (s.keptAt = some t) ∧ (s.operating = true) ∧ (s.running 1 0 = true)) ∧
    (∃ (s : State), (s.trunkOn = true) ∧ (s.running 0x62 0 = true)) ∧
    (∃ (s : State) (c : LarderRead), (s.larder.read = some c) ∧ (s.running 0x62 0 = true)) ∧
    (∃ (s : State) (c : LarderClear), (s.larder.clear = some c) ∧ (s.running 0x62 0 = true)) ∧
    (∃ (s : State) (t : Nat), (s.larder.lockAt = some t) ∧ (s.operating = true)) :=
  ⟨⟨({ wit with attic.transfers := [{ Transfer.reset with inst := 6, len := 4, write := true }] }), (0), _, rfl, by decide +kernel⟩,
    ⟨(wit), by decide +kernel⟩,
    ⟨({ wit with attic.drainAt := some 7, attic.staged := 64, attic.stagedWrites := 1, power.parkStep := 3 }), (7), by decide +kernel⟩,
    ⟨({ wit with keptDirty := some 7, keptAt := some 7 }), (7), (7), by decide +kernel⟩,
    ⟨(wit), by decide +kernel⟩,
    ⟨({ wit with larder.read := some { LarderRead.reset with count := 1, first := 1 } }), _, rfl, by decide +kernel⟩,
    ⟨({ wit with larder.clear := some { LarderClear.reset with scope := 2 } }), _, rfl, by decide +kernel⟩,
    ⟨({ wit with larder.lockAt := some 7 }), (7), by decide +kernel⟩⟩

theorem test_witness_AtticVerbsComplete :
    (∃ (s : State) (r : Req), (s.serves verbAtticStatus r = true)) ∧
    (∃ (s : State) (r : Req), (s.serves verbAtticList r = true)) ∧
    (∃ (s : State) (r : Req), (s.serves verbAtticRead r = true) ∧ (0 < u32 r.payload 12) ∧ (u32 r.payload 12 ≤ 16777216) ∧ ((s.offered verbAtticRead r).regionCheck r.win (u8 r.payload 0) (u32 r.payload 12) = none)) ∧
    (∃ (s : State) (r : Req), (s.serves verbAtticWrite r = true) ∧ (r.inst = 5) ∧ (0 < u32 r.payload 12) ∧ (u32 r.payload 12 ≤ 65536) ∧ (bits (u32 r.payload 8) 17 16 = 1 ∨ bits (u32 r.payload 8) 17 16 = 2 ∧ r.win = 0) ∧ (∀ f ∈ s.attic.files, f.inst = 5 → f.id = u32 r.payload 4 → f.owner = r.win) ∧ ((s.offered verbAtticWrite r).regionCheck r.win (u8 r.payload 0) (u32 r.payload 12) = none)) ∧
    (∃ (s : State) (r : Req) (cur : Option AtticFile), (s.serves verbAtticWrite r = true) ∧ (r.inst = 6) ∧ ((s.offered verbAtticWrite r).fileOf 6 (u32 r.payload 4) = cur) ∧ (0 < u32 r.payload 12) ∧ (u32 r.payload 12 ≤ 16777216) ∧ (∀ f ∈ s.attic.files, f.inst = 6 → f.id = u32 r.payload 4 → f.owner = r.win) ∧ (u32 r.payload 8 ≤ (cur.map (fun f => f.data.length)).getD 0) ∧ ((s.offered verbAtticWrite r).regionCheck r.win (u8 r.payload 0) (u32 r.payload 12) = none)) ∧
    (∃ (s : State) (r : Req) (f : AtticFile), (s.serves verbAtticDelete r = true) ∧ (r.inst ≠ 3) ∧ ((s.offered verbAtticDelete r).fileOf r.inst (u32 r.payload 0) = some f) ∧ (f.owner = r.win) ∧ (s.attic.readOnly = false)) ∧
    (∃ (s : State) (r : Req), (s.serves verbLarderStatus r = true)) ∧
    (∃ (s : State) (r : Req), (s.serves verbLarderRead r = true) ∧ (u8 r.payload 1 ≤ 1) ∧ (u32 r.payload 8 ≠ 0) ∧ ((s.offered verbLarderRead r).regionCheck r.win (u8 r.payload 0) (64 * u32 r.payload 8) = none) ∧ ((s.offered verbLarderRead r).larder.read = none)) ∧
    (∃ (s : State) (r : Req), (s.serves verbLarderChallenge r = true)) ∧
    (∃ (s : State) (a : State) (r : Req) (t : Nat), ((s.offered verbLarderClear r).modLarder (fun l => { l with challenge := none }) = a) ∧ (s.serves verbLarderClear r = true) ∧ ((s.offered verbLarderClear r).clearLocked = false) ∧ (u8 r.payload 0 = 1 ∨ u8 r.payload 0 = 2) ∧ ((s.offered verbLarderClear r).larder.clear = none) ∧ ((s.offered verbLarderClear r).larder.challenge = some (u32 r.payload 4, t)) ∧ ((s.offered verbLarderClear r).power.opNs < t + 600000000000)) :=
  ⟨⟨(wit), (ask 5 []), by decide +kernel⟩,
    ⟨(wit), (ask 5 (zeros 4)), by decide +kernel⟩,
    ⟨({ wit with keeper.windows := [(0, { Window.reset with running := true, regions := [(0, { Region.reset with present := true, size := 4096 })] })] }), (ask 5 (bs [0, 0, 0, 0, 1, 0, 0, 0, 0, 0, 0, 0, 8, 0, 0, 0])), by decide +kernel⟩,
    ⟨({ wit with attic.files := [{ AtticFile.reset with inst := 5, id := 1 }], keeper.windows := [(0, { Window.reset with running := true, mask := 2 ^ 256 - 1, regions := [(0, { Region.reset with present := true, size := 4096 })] })] }), (ask 5 (bs [0, 0, 0, 0, 1, 0, 0, 0, 0, 0, 2, 0, 8, 0, 0, 0])), by decide +kernel⟩,
    ⟨({ wit with keeper.windows := [(0, { Window.reset with running := true, mask := 2 ^ 256 - 1, regions := [(0, { Region.reset with present := true, size := 4096 })] })] }), (ask 6 (bs [0, 0, 0, 0, 1, 0, 0, 0, 0, 0, 0, 0, 8, 0, 0, 0])), (none), by decide +kernel⟩,
    ⟨({ wit with attic.files := [{ AtticFile.reset with inst := 6, id := 1 }] }), (ask 6 (bs [1, 0, 0, 0])), ({ AtticFile.reset with inst := 6, id := 1 }), by decide +kernel⟩,
    ⟨(wit), (ask 0 []), by decide +kernel⟩,
    ⟨({ wit with keeper.windows := [(0, { Window.reset with running := true, regions := [(0, { Region.reset with present := true, size := 4096 })] })] }), (ask 0 (bs [0, 1, 0, 0, 1, 0, 0, 0, 1, 0, 0, 0])), by decide +kernel⟩,
    ⟨(wit), (ask 0 []), by decide +kernel⟩,
    ⟨({ wit with larder.challenge := some (5, 0) }), _, (ask 0 (bs [1, 0, 0, 0, 5, 0, 0, 0] ++ zeros 24)), (0), rfl, by decide +kernel⟩⟩

theorem test_witness_SwitchRowsComplete :
    (∃ (s : State), (s.operating = true)) ∧
    (∃ (s : State) (n : Nat) (t0 : Nat), ((s.sw n).actSince = some t0) ∧ (n < 16) ∧ ((s.sw n).wake = true) ∧ ((s.sw n).removed = none) ∧ (s.operating = true)) ∧
    (∃ (s : State), (s.parked = true)) ∧
    (∃ (s : State) (r : Req), (s.serves verbSwinRead r = true)) ∧
    (∃ (s : State) (r : Req) (p : List Byte), (s.serves verbSwinConfig r = true) ∧ (p = r.payload) ∧ (u8 p 0 ≤ 2) ∧ (u8 p 1 ≤ 3) ∧ (u8 p 2 ≤ 2) ∧ (u8 p 3 ≤ 1) ∧ (1 ≤ u8 p 4) ∧ (u8 p 5 ≠ 1) ∧ (10 ≤ u16 p 6) ∧ (u16 p 6 ≤ 10000) ∧ (u8 p 8 < 4) ∧ (1 ≤ u8 p 9) ∧ (u8 p 9 ≤ 5) ∧ (u16 p 10 = 0 ∨ (5 ≤ u16 p 10 ∧ u16 p 10 ≤ 3600)) ∧ (r.inst < 16)) :=
  ⟨⟨(wit), by decide +kernel⟩,
    ⟨({ wit with swin.sw := [(15, { Sw.reset with wake := true, actSince := some 7 })] }), (15), (7), by decide +kernel⟩,
    ⟨({ wit with power.state := .deep }), by decide +kernel⟩,
    ⟨(wit), (ask 0 []), by decide +kernel⟩,
    ⟨(wit), (ask 15 (bs [1, 3, 2, 1, 1, 0, 10, 0, 3, 5, 5, 0])), (bs [1, 3, 2, 1, 1, 0, 10, 0, 3, 5, 5, 0]), by decide +kernel⟩⟩

theorem test_witness_BodyTimedRowsComplete :
    (∃ (s : State) (inst : Nat), (s.bodyRuns = true) ∧ (s.bodyHosted inst = false) ∧ ((s.svc inst).kind = 5) ∧ ((s.svc inst).params.getD 0 0 = 1) ∧ ((s.svc inst).state = 1)) ∧
    (∃ (s : State) (inst : Nat), (s.bodyRuns = true) ∧ (s.bodyHosted inst = false) ∧ ((s.svc inst).kind = 2) ∧ (((s.bodyEval inst).svc inst).act.testBit 3 = false)) ∧
    (∃ (s : State) (inst : Nat), (s.bodyRuns = true) ∧ (s.bodyHosted inst = false) ∧ ((s.svc inst).kind = 2) ∧ ((s.svc inst).wipePhase = 2)) ∧
    (∃ (s : State) (inst : Nat), (s.bodyRuns = true) ∧ (s.bodyHosted inst = false) ∧ ((s.svc inst).kind = 2) ∧ ((s.svc inst).wipePhase = 3)) ∧
    (∃ (s : State) (inst : Nat), (s.bodyRuns = true) ∧ (s.bodyHosted inst = false) ∧ ((s.svc inst).kind = 2) ∧ ((s.svc inst).wipePhase = 4)) ∧
    (∃ (s : State) (inst : Nat) (t0 : Nat), ((s.svc inst).pulseEnd = some t0) ∧ (s.bodyRuns = true) ∧ ((s.svc inst).kind = 3)) ∧
    (∃ (s : State) (inst : Nat) (t0 : Nat), ((s.svc inst).inhibitEnd = some t0) ∧ (s.bodyRuns = true)) ∧
    (∃ (s : State) (inst : Nat) (t0 : Nat), ((s.svc inst).autoInhibit = some t0) ∧ (s.bodyRuns = true)) ∧
    (∃ (s : State) (inst : Nat) (t0 : Nat), ((s.svc inst).onSince = some t0) ∧ (s.bodyRuns = true) ∧ (s.bodyHosted inst = false) ∧ ((s.svc inst).kind = 5) ∧ ((s.svc inst).params.getD 3 0 ≠ 0) ∧ ((s.svc inst).maxed = false)) ∧
    (∃ (s : State) (inst : Nat) (t0 : Nat), ((s.svc inst).offAt = some t0) ∧ (s.bodyRuns = true) ∧ (s.bodyHosted inst = false)) ∧
    (∃ (s : State), (s.operating = true) ∧ (s.running 0x25 0 = true)) :=
  ⟨⟨({ wit with body.svcs := [(15, { BodySvc.reset with kind := 5, params := [1], state := 1 })] }), (15), by decide +kernel⟩,
    ⟨({ wit with body.svcs := [(1, { BodySvc.reset with kind := 2, params := [2] })] }), (1), by decide +kernel⟩,
    ⟨({ wit with body.svcs := [(1, { BodySvc.reset with kind := 2, params := [2], wipePhase := 2 })] }), (1), by decide +kernel⟩,
    ⟨({ wit with body.svcs := [(1, { BodySvc.reset with kind := 2, params := [2], wipePhase := 3 })] }), (1), by decide +kernel⟩,
    ⟨({ wit with body.svcs := [(1, { BodySvc.reset with kind := 2, params := [2], wipePhase := 4 })] }), (1), by decide +kernel⟩,
    ⟨({ wit with body.svcs := [(3, { BodySvc.reset with kind := 3, pulseEnd := some 7 })] }), (3), (7), by decide +kernel⟩,
    ⟨({ wit with body.svcs := [(3, { BodySvc.reset with kind := 3, inhibitEnd := some 7 })] }), (3), (7), by decide +kernel⟩,
    ⟨({ wit with body.svcs := [(4, { BodySvc.reset with kind := 4, autoInhibit := some 7 })] }), (4), (7), by decide +kernel⟩,
    ⟨({ wit with body.svcs := [(15, { BodySvc.reset with kind := 5, params := [0, 0, 0, 1], onSince := some 7 })] }), (15), (7), by decide +kernel⟩,
    ⟨({ wit with body.svcs := [(15, { BodySvc.reset with kind := 5, offAt := some 7 })] }), (15), (7), by decide +kernel⟩,
    ⟨(wit), by decide +kernel⟩⟩

theorem test_witness_BodyVerbsComplete :
    (∃ (s : State) (r : Req) (x : BodySvc), (x = s.svc r.inst) ∧ (s.serves verbBodyStatus r = true)) ∧
    (∃ (s : State) (r : Req), (s.serves verbBodyConfig r = true) ∧ (u8 r.payload 0 = 0) ∧ ((s.svc r.inst).kind ≠ 0)) ∧
    (∃ (s : State) (r : Req) (p : List Byte) (srcs : List BodySrc) (outs : List Nat) (a : State), ((List.range 4).map (fun j => ({ kind := u8 p (4 + 4 * j), a := u8 p (5 + 4 * j), b := u16 p (6 + 4 * j) } : BodySrc)) = srcs) ∧ ((List.range 8).map (fun j => u8 p (20 + j)) = outs) ∧ (((s.offered verbBodyConfig r).bodyUnbind r.inst).modSvc r.inst (fun x => { BodySvc.reset with kind := bodyKind r.inst, srcs := srcs, outs := outs, params := u16s p 28 8, count := x.count }) = a) ∧ (s.serves verbBodyConfig r = true) ∧ (p = r.payload) ∧ (u8 p 0 ≠ 0) ∧ (u8 p 0 = bodyKind r.inst) ∧ (srcs.all srcOk = true) ∧ ((List.range 8).all (fun j => outOk (bodyKind r.inst) j (outs.getD j 0xFF)) = true) ∧ (bodyParOk (bodyKind r.inst) (u16s p 28 8) = true) ∧ (srcs.all (fun q => q.kind != 3 || s.sigReadable r.win q.b) = true) ∧ (outs.all ((s.offered verbBodyConfig r).bodyFree r.inst) = true)) ∧
    (∃ (s : State) (r : Req), (s.serves verbBodyRequest r = true) ∧ ((s.svc r.inst).kind = 5) ∧ (u8 r.payload 0 ≤ 1) ∧ ((s.bodyHosted r.inst) = false) ∧ ((((s.offered verbBodyRequest r).modSvc r.inst (fun x => { x with lastReq := u8 r.payload 0 })).modSvc r.inst (fun x => { x with cmd := u8 r.payload 0, newest := if x.kind = 1 ∧ (u8 r.payload 0 = 1 ∨ u8 r.payload 0 = 2) then u8 r.payload 0 else x.newest })).bodyHosted r.inst = false)) ∧
    (∃ (s : State) (r : Req), (s.serves verbBodyHostbuf r = true) ∧ ((s.offered verbBodyHostbuf r).regionCheck r.win (u8 r.payload 0) 512 = none) ∧ ((List.range 16).any (fun i => s.isHost (bodyKey i) || (s.hostFn (bodyKey i)).pending == some true) = false)) ∧
    (∃ (s : State) (r : Req) (p : List Byte), (s.serves verbBodyResult r = true) ∧ (p = r.payload) ∧ ((s.hostFn (bodyKey r.inst)).host = true) ∧ ((s.hostFn (bodyKey r.inst)).owner = r.win) ∧ (u32 p 0 ≠ 0) ∧ ((s.hostFn (bodyKey r.inst)).k = u32 p 0) ∧ (u8 p 5 ≤ 3) ∧ ((s.offered verbBodyResult r).hostInTime (bodyKey r.inst) (u32 p 0) = true) ∧ (((s.offered verbBodyResult r).hostResult (bodyKey r.inst)).2 = true) ∧ ((((s.offered verbBodyResult r).hostResult (bodyKey r.inst)).1.svc r.inst).bridges = [])) :=
  ⟨⟨(wit), (ask 15 []), _, rfl, by decide +kernel⟩,
    ⟨({ wit with body.svcs := [(15, { BodySvc.reset with kind := 5 })] }), (ask 15 (zeros 48)), by decide +kernel⟩,
    ⟨(wit), (ask 15 (bs ([5, 0, 0, 0] ++ List.replicate 16 0 ++ List.replicate 8 0xFF ++ [0, 0, 0xF4, 1, 0xF4, 1] ++ List.replicate 14 0))), (bs ([5, 0, 0, 0] ++ List.replicate 16 0 ++ List.replicate 8 0xFF ++ [0, 0, 0xF4, 1, 0xF4, 1] ++ List.replicate 14 0)), _, _, _, rfl, rfl, rfl, by decide +kernel⟩,
    ⟨({ wit with body.svcs := [(15, { BodySvc.reset with kind := 5 })] }), (ask 15 (bs [1, 0, 0, 0])), by decide +kernel⟩,
    ⟨({ wit with keeper.windows := [(0, { Window.reset with running := true, regions := [(0, { Region.reset with present := true, size := 4096 })] })] }), (ask 0 (zeros 4)), by decide +kernel⟩,
    ⟨({ wit with keeper.hostFns := [(bodyKey 15, { HostFn.reset with host := true, got := false, k := 1, tk := 6000000000, d := 100 })] }), (ask 15 (bs [1, 0, 0, 0, 0, 0, 0, 0])), (bs [1, 0, 0, 0, 0, 0, 0, 0]), by decide +kernel⟩⟩

theorem test_witness_LinRowsComplete :
    (∃ (s : State) (ch : Nat) (n : Nat), ((s.lin ch).running = some n) ∧ (s.linRuns ch = true) ∧ ((s.lin ch).fault = false ∨ (s.lin ch).cleanSince.isSome = true) ∧ ((s.lin ch).hdrBad < 3) ∧ ((s.lin ch).sleepReq = true)) ∧
    (∃ (s : State) (a : State) (b : State) (d : State) (e : State) (ch : Nat) (n : Nat) (f : LinBus) (q : LinEntry), (a = (s.waitTo (s.lin ch).slotAt).modLin ch (fun x => (match x.nextTable with | some t => { x with running := some t, entry := 0, nextTable := none, resume := none } | none => x).wrap)) ∧ (b = a.modLin ch (fun x => { x with entry := x.entry + 1, slotAt := a.hw + q.slotMs * 1000000 })) ∧ (d = (if (a.lin ch).fault ∧ (a.lin ch).cleanSince.getD a.hw + 1000000000 ≤ a.hw then (b.modLin ch (fun x => { x with fault := false, cleanSince := none })).clearFault 0x5103 0x31 ch else b)) ∧ (e = (d.linFrame ch q f).bodyEvalAll) ∧ ((s.lin ch).running = some n) ∧ (s.linRuns ch = true) ∧ ((s.lin ch).fault = false ∨ (s.lin ch).cleanSince.isSome = true) ∧ ((s.lin ch).hdrBad < 3) ∧ ((s.lin ch).sleepReq = false) ∧ (((a.lin ch).table ((a.lin ch).running.getD 0))[(a.lin ch).entry]? = some q)) ∧
    (∃ (s : State) (a : State) (ch : Nat) (cause : Nat) (ms : Nat), (a = s.modLin ch (fun x => { x with fault := true, cleanSince := none, retryAt := s.hw + 1000000000, hdrBad := 0 })) ∧ (s.linRuns ch = true) ∧ ((s.lin ch).fault = false ∨ (s.lin ch).cleanSince.isSome = true) ∧ ((cause = 1 ∧ (s.lin ch).hdrBad ≥ 3) ∨ (cause = 2 ∧ ms > 100))) ∧
    (∃ (s : State) (ch : Nat), (s.linRuns ch = true) ∧ ((s.lin ch).fault = true) ∧ ((s.lin ch).cleanSince = none)) ∧
    (∃ (s : State) (ch : Nat) (us : Nat) (t0 : Nat), (s.linRuns ch = true) ∧ ((s.lin ch).running = none) ∧ (150 ≤ us) ∧ (us ≤ 5000) ∧ ((s.lin ch).slept = some t0) ∧ ((s.lin ch).startAt = none) ∧ ((s.lin ch).asleep = false)) ∧
    (∃ (s : State) (ch : Nat) (t0 : Nat) (tab : Nat), ((s.lin ch).startAt = some (t0, tab)) ∧ (s.linRuns ch = true)) ∧
    (∃ (s : State) (r : Req) (x : LinCh), (x = s.lin r.inst) ∧ (s.serves verbLinStatus r = true)) ∧
    (∃ (s : State) (r : Req) (f : LinFrame), (f = (s.lin r.inst).frame (u8 r.payload 0)) ∧ (s.serves verbLinRead r = true) ∧ (u8 r.payload 0 ≤ 63)) ∧
    (∃ (s : State) (r : Req), (s.serves verbLinConfig r = true) ∧ (2400 ≤ u16 r.payload 0) ∧ (u16 r.payload 0 ≤ 20000) ∧ (u8 r.payload 2 = 1)) ∧
    (∃ (s : State) (r : Req), (s.serves verbLinConfig r = true) ∧ (2400 ≤ u16 r.payload 0) ∧ (u16 r.payload 0 ≤ 20000) ∧ (u8 r.payload 2 = 0)) ∧
    (∃ (s : State) (r : Req) (es : List LinEntry), ((List.range (u8 r.payload 2)).map (linEntryOf ((s.offered verbLinTable r).regionRead r.win (u8 r.payload 1) 0 (8 * u8 r.payload 2))) = es) ∧ (s.serves verbLinTable r = true) ∧ (u8 r.payload 0 ≤ 7) ∧ (u8 r.payload 2 ≠ 0) ∧ (u8 r.payload 2 ≤ 64) ∧ ((s.offered verbLinTable r).regionCheck r.win (u8 r.payload 1) (8 * u8 r.payload 2) = none) ∧ ((s.lin r.inst).running = none) ∧ ((s.lin r.inst).resume = none) ∧ (es.all (LinEntry.ok · (s.lin r.inst).rate) = true)) ∧
    (∃ (s : State) (r : Req), (s.serves verbLinSchedule r = true) ∧ (u8 r.payload 0 ≤ 7) ∧ (((s.lin r.inst).table (u8 r.payload 0)).isEmpty = false) ∧ ((s.lin r.inst).asleep = false) ∧ ((s.lin r.inst).running = none)) ∧
    (∃ (s : State) (r : Req), (s.serves verbLinSchedule r = true) ∧ (u8 r.payload 0 ≤ 7) ∧ (((s.lin r.inst).table (u8 r.payload 0)).isEmpty = false) ∧ ((s.lin r.inst).asleep = true)) ∧
    (∃ (s : State) (r : Req), (s.serves verbLinWrite r = true) ∧ (u8 r.payload 1 ≠ 0) ∧ (u8 r.payload 1 ≤ 8) ∧ ((s.lin r.inst).published (u8 r.payload 0) = true)) ∧
    (∃ (s : State) (r : Req) (n : Nat), (s.serves verbLinSleep r = true) ∧ ((s.lin r.inst).running = some n)) :=
  ⟨⟨({ wit with body.lin := [(3, { LinCh.reset with enable := true, running := some 7, sleepReq := true })] }), (3), (7), by decide +kernel⟩,
    ⟨({ wit with body.lin := [(3, { LinCh.reset with enable := true, running := some 7, tables := [(7, [{ LinEntry.reset with slotMs := 10 }])] })] }), _, _, _, _, (3), (7), ({}), ({ LinEntry.reset with slotMs := 10 }), rfl, rfl, rfl, rfl, by decide +kernel⟩,
    ⟨({ wit with body.lin := [(3, { LinCh.reset with enable := true, hdrBad := 3 })] }), _, (3), (1), (0), rfl, by decide +kernel⟩,
    ⟨({ wit with body.lin := [(3, { LinCh.reset with enable := true, fault := true })] }), (3), by decide +kernel⟩,
    ⟨({ wit with body.lin := [(3, { LinCh.reset with enable := true, slept := some 7 })] }), (3), (150), (7), by decide +kernel⟩,
    ⟨({ wit with body.lin := [(3, { LinCh.reset with enable := true, startAt := some (7, 7) })] }), (3), (7), (7), by decide +kernel⟩,
    ⟨(wit), (ask 3 []), _, rfl, by decide +kernel⟩,
    ⟨(wit), (ask 3 (bs [63, 0, 0, 0])), _, rfl, by decide +kernel⟩,
    ⟨(wit), (ask 3 (bs [0x60, 9, 1, 0])), by decide +kernel⟩,
    ⟨(wit), (ask 3 (bs [0x20, 0x4E, 0, 0])), by decide +kernel⟩,
    ⟨({ wit with body.lin := [(3, { LinCh.reset with rate := 19200 })], keeper.windows := [(0, { Window.reset with running := true, regions := [(0, { Region.reset with present := true, size := 4096, bytes := [(2, 1), (4, 10)] })] })] }), (ask 3 (bs [7, 0, 1, 0])), _, rfl, by decide +kernel⟩,
    ⟨({ wit with body.lin := [(3, { LinCh.reset with enable := true, tables := [(7, [{ LinEntry.reset with slotMs := 10 }])] })] }), (ask 3 (bs [7, 0, 0, 0])), by decide +kernel⟩,
    ⟨({ wit with body.lin := [(3, { LinCh.reset with enable := true, asleep := true, tables := [(7, [{ LinEntry.reset with slotMs := 10 }])] })] }), (ask 3 (bs [7, 0, 0, 0])), by decide +kernel⟩,
    ⟨({ wit with body.lin := [(3, { LinCh.reset with enable := true, tables := [(7, [{ LinEntry.reset with slotMs := 10 }])] })] }), (ask 3 (bs [0, 8, 0, 0, 1, 2, 3, 4, 5, 6, 7, 8])), by decide +kernel⟩,
    ⟨({ wit with body.lin := [(3, { LinCh.reset with enable := true, running := some 7 })] }), (ask 3 []), (7), by decide +kernel⟩⟩

theorem test_witness_CamEventRowsComplete :
    (∃ (s : State) (port : Nat) (gear : Nat), (s.camOn port = true) ∧ ((s.port port).link = true) ∧ ((s.port port).linkState = 1) ∧ (1 ≤ gear) ∧ (gear ≤ 4) ∧ ((s.port port).fits gear = true)) ∧
    (∃ (s : State) (port : Nat) (gear : Nat), (s.camOn port = true) ∧ ((s.port port).link = true) ∧ ((s.port port).linkState = 1) ∧ (1 ≤ gear) ∧ (gear ≤ 4) ∧ ((s.port port).fits gear = false)) ∧
    (∃ (s : State) (port : Nat), (s.camOn port = true) ∧ ((s.port port).linkState = 2)) ∧
    (∃ (s : State) (port : Nat) (cur : Nat), (s.camOn port = true) ∧ ((s.port port).coax = true) ∧ ((s.port port).coaxState = 1) ∧ (cur < 20)) ∧
    (∃ (s : State) (port : Nat) (cur : Nat), (s.camOn port = true) ∧ ((s.port port).coax = true) ∧ ((s.port port).coaxState = 2) ∧ (cur ≥ 30)) ∧
    (∃ (s : State) (port : Nat) (cur : Nat), (s.camOn port = true) ∧ ((s.port port).coax = true) ∧ ((s.port port).coaxState = 1) ∧ (cur > 1250)) ∧
    (∃ (s : State) (port : Nat) (cur : Nat), (s.camOn port = true) ∧ ((s.port port).coax = true) ∧ ((s.port port).coaxState = 3) ∧ (cur ≤ 1000)) ∧
    (∃ (s : State) (port : Nat) (cur : Nat), (s.camOn port = true) ∧ ((s.port port).coax = true) ∧ ((s.port port).coaxState = 3) ∧ (cur > 1000) ∧ ((s.port port).coaxRetries ≥ 4)) ∧
    (∃ (s : State) (a : State) (port : Nat), (a = s.boundary (126 + 1000 * port) ((s.port port).periodUs * 1000) ((s.port port).phaseUs * 1000)) ∧ (s.camOn port = true) ∧ ((s.port port).sync = true) ∧ ((s.port port).link = true) ∧ ((s.port port).periodUs ≠ 0)) ∧
    (∃ (s : State) (f : CamFrame) (c : CamPort) (x : CamSensor) (no : Nat) (again : Bool) (surplus : Bool), (c = s.port f.port) ∧ (x = c.sensor f.sensor) ∧ (no = (if c.sync then c.frame - 1 - f.lag else x.frame)) ∧ (again = decide (no < x.lastNo)) ∧ (surplus = (if c.sync then again else (match x.lastFirst with | some t => decide (f.first < t + c.periodUs * 1000) | none => false))) ∧ (s.camOn f.port = true) ∧ (c.linkState = 2) ∧ (f.sensor < 4) ∧ (x.enable = true) ∧ (c.sync = false ∨ 1 + f.lag ≤ c.frame) ∧ (f.begins = true)) ∧
    (∃ (s : State) (f : CamFrame), (s.camOn f.port = true) ∧ ((s.port f.port).linkState = 2) ∧ (f.sensor < 4) ∧ (((s.port f.port).sensor f.sensor).enable = true) ∧ ((s.port f.port).sync = false ∨ 1 + f.lag ≤ (s.port f.port).frame) ∧ (((s.port f.port).sensor f.sensor).begun = none) ∧ (f.begins = false)) ∧
    (∃ (s : State) (f : CamFrame) (b : Nat × Nat × Bool), (s.camOn f.port = true) ∧ ((s.port f.port).linkState = 2) ∧ (f.sensor < 4) ∧ (((s.port f.port).sensor f.sensor).enable = true) ∧ (((s.port f.port).sensor f.sensor).silent = false) ∧ ((s.port f.port).sync = false ∨ 1 + f.lag ≤ (s.port f.port).frame) ∧ (((s.port f.port).sensor f.sensor).begun = some b) ∧ (f.begins = false) ∧ ((s.port f.port).route = 2)) ∧
    (∃ (s : State) (f : CamFrame) (no : Nat) (tsync : Nat), (s.camOn f.port = true) ∧ ((s.port f.port).linkState = 2) ∧ (f.sensor < 4) ∧ (((s.port f.port).sensor f.sensor).enable = true) ∧ (((s.port f.port).sensor f.sensor).silent = false) ∧ ((s.port f.port).sync = false ∨ 1 + f.lag ≤ (s.port f.port).frame) ∧ (((s.port f.port).sensor f.sensor).begun = some (no, tsync, false)) ∧ (f.begins = false) ∧ ((s.port f.port).route ≠ 2) ∧ (f.err = 0) ∧ ((s.port f.port).decim = 1)) ∧
    (∃ (s : State) (port : Nat) (sensor : Nat) (periods : Nat), (s.camOn port = true) ∧ ((s.port port).linkState = 2) ∧ (sensor < 4) ∧ (((s.port port).sensor sensor).enable = true) ∧ (((s.port port).sensor sensor).silent = false) ∧ (periods ≥ 3)) ∧
    (∃ (s : State) (u : State) (port : Nat) (sensor : Nat) (d : IspData), (u = (s.outputsWritten port sensor d).modCamSensor port sensor (fun x => { x with due := false })) ∧ (s.camOn port = true) ∧ ((s.camSensor port sensor).due = true) ∧ ((u.port port).tapOn = [])) ∧
    (∃ (s : State) (port : Nat) (q : Req) (l : List Req), ((s.port port).backch = q :: l) ∧ (s.camOn port = true) ∧ (((s.modPort port (fun c => { c with backch := l })).port port).linkState = 2)) ∧
    (∃ (s : State) (port : Nat) (cause : Nat) (q : Req) (l : List Req), ((s.port port).backch = q :: l) ∧ (s.camOn port = true) ∧ (((s.modPort port (fun c => { c with backch := l })).port port).linkState = 2) ∧ (cause ≠ 0)) :=
  ⟨⟨({ wit with cam.ports := [(0, { CamPort.reset with link := true, linkState := 1 })] }), (0), (4), by decide +kernel⟩,
    ⟨({ wit with cam.ports := [(0, { CamPort.reset with link := true, linkState := 1, sensors := [(0, { CamSensor.reset with enable := true, width := 4096, height := 4096 })] })] }), (0), (1), by decide +kernel⟩,
    ⟨({ wit with cam.ports := [(1, { CamPort.reset with link := true, linkState := 2 })] }), (1), by decide +kernel⟩,
    ⟨({ wit with cam.ports := [(1, { CamPort.reset with coax := true, coaxState := 1 })] }), (1), (19), by decide +kernel⟩,
    ⟨({ wit with cam.ports := [(1, { CamPort.reset with coax := true, coaxState := 2 })] }), (1), (30), by decide +kernel⟩,
    ⟨({ wit with cam.ports := [(1, { CamPort.reset with coax := true, coaxState := 1 })] }), (1), (1251), by decide +kernel⟩,
    ⟨({ wit with cam.ports := [(1, { CamPort.reset with coax := true, coaxState := 3 })] }), (1), (1000), by decide +kernel⟩,
    ⟨({ wit with cam.ports := [(1, { CamPort.reset with coax := true, coaxState := 3, coaxRetries := 4 })] }), (1), (1001), by decide +kernel⟩,
    ⟨({ wit with cam.ports := [(1, { CamPort.reset with sync := true, link := true })] }), _, (1), rfl, by decide +kernel⟩,
    ⟨({ wit with cam.ports := [(1, { CamPort.reset with linkState := 2, route := 2, sensors := [(0, { CamSensor.reset with enable := true })] })] }), ({ port := 1, sensor := 0, begins := true }), _, _, _, _, _, rfl, rfl, rfl, rfl, rfl, by decide +kernel⟩,
    ⟨({ wit with cam.ports := [(1, { CamPort.reset with linkState := 2, frame := 1, sync := true, sensors := [(0, { CamSensor.reset with enable := true })] })] }), ({ port := 1, sensor := 0 }), by decide +kernel⟩,
    ⟨({ wit with cam.ports := [(1, { CamPort.reset with linkState := 2, route := 2, sensors := [(0, { CamSensor.reset with enable := true, begun := some (7, 0, false) })] })] }), ({ port := 1, sensor := 0 }), (7, 0, false), by decide +kernel⟩,
    ⟨({ wit with cam.ports := [(1, { CamPort.reset with linkState := 2, sensors := [(0, { CamSensor.reset with enable := true, begun := some (7, 0, false) })] })] }), ({ port := 1, sensor := 0 }), (7), (0), by decide +kernel⟩,
    ⟨({ wit with cam.ports := [(1, { CamPort.reset with linkState := 2, sensors := [(3, { CamSensor.reset with enable := true })] })] }), (1), (3), (3), by decide +kernel⟩,
    ⟨({ wit with cam.ports := [(1, { CamPort.reset with sensors := [(3, { CamSensor.reset with due := true })] })] }), _, (1), (3), ({}), rfl, by decide +kernel⟩,
    ⟨({ wit with cam.ports := [(1, { CamPort.reset with linkState := 2, backch := [ask 1 []] })] }), (1), (ask 1 []), ([]), by decide +kernel⟩,
    ⟨({ wit with cam.ports := [(1, { CamPort.reset with linkState := 2, backch := [ask 1 []] })] }), (1), (1), (ask 1 []), ([]), by decide +kernel⟩⟩

theorem test_witness_CamVerbsComplete :
    (∃ (s : State) (r : Req) (c : CamPort), (c = s.port r.inst) ∧ (s.serves verbCamStatus r = true)) ∧
    (∃ (s : State) (a : State) (b : State) (r : Req) (p : List Byte) (old : CamPort) (c : CamPort), (old = s.port r.inst) ∧ (c = { old with link := u8 p 0 == 1, coax := u8 p 1 == 1, sync := u8 p 2 == 1, periodUs := u32 p 4, phaseUs := u32 p 8 }) ∧ (a = (((s.offered verbCamConfig r).tapsEnd r.inst stDone).modPort r.inst (fun q => { c with tapOn := q.tapOn, taps := q.taps, sensors := tmap CamSensor.reset c.sensors (fun x => if c.sync = old.sync then x else { x with frame := 0, lastNo := 0, begun := none, expo := [], lastFirst := none }) })).modPort r.inst (fun q => { q with coaxState := if !q.coax then 0 else if old.coax && old.coaxState < 3 then old.coaxState else if old.coax && old.coaxState == 3 then 3 else 1, coaxRetries := if old.coaxState == 4 then 0 else q.coaxRetries, linkState := if !q.link then 0 else if old.link && q.coax == old.coax then old.linkState else 1, gear := if q.link && old.link && q.coax == old.coax then old.gear else 0 })) ∧ (b = (let a := if old.coaxState = 4 ∨ !c.coax then a.clearFault 0x9004 0x41 r.inst else a; let a := if !c.coax then a.clearFault 0x9003 0x41 r.inst else a; if !c.link then a.clearFault 0x9002 0x41 r.inst else a)) ∧ (s.serves verbCamConfig r = true) ∧ (p = r.payload) ∧ (u8 p 0 ≤ 1) ∧ (u8 p 1 ≤ 1) ∧ (u8 p 2 ≤ 1) ∧ (5000 ≤ u32 p 4) ∧ (u32 p 4 ≤ 1000000) ∧ (u32 p 8 < u32 p 4) ∧ (c.fits old.gear = true) ∧ (s.lampsStand r.inst none c = true)) ∧
    (∃ (s : State) (a : State) (b : State) (r : Req) (p : List Byte) (c : CamPort) (old : CamSensor) (x : CamSensor), (c = s.port r.inst) ∧ (old = c.sensor (u8 p 0)) ∧ (x = { old with enable := u8 p 1 == 1, mosaic := u8 p 2, depth := u8 p 3, width := u16 p 4, height := u16 p 6, exposures := u8 p 8, shutter := u8 p 9, dataTypes := [u8 p 10, u8 p 11, u8 p 12], rowNs := u32 p 16, d0 := u32 p 20, e0 := u32 p 24, e0Init := u32 p 24, r1 := f32 p 28, r2 := f32 p 32, expo := [] }) ∧ (a = (let a := (s.offered verbCamSensor r).tapEnd r.inst (u8 p 0) stDone; if old.silent then a.clearFault 0x9005 0x41 r.inst else a)) ∧ (b = a.modCamSensor r.inst (u8 p 0) (fun _ => { x with silent := false, lastFrameAt := a.hw, lastFirst := none, flickRun := 0, flickFrames := [] })) ∧ (s.serves verbCamSensor r = true) ∧ (p = r.payload) ∧ (u8 p 0 ≤ 3) ∧ (u8 p 1 ≤ 1) ∧ (u8 p 2 ≤ 5) ∧ ([8, 10, 12, 14, 16, 20, 24].contains (u8 p 3) = true) ∧ (64 ≤ u16 p 4) ∧ (u16 p 4 ≤ 4096) ∧ (64 ≤ u16 p 6) ∧ (u16 p 6 ≤ 4096) ∧ (u16 p 4 * u16 p 6 ≤ 8294400) ∧ (1 ≤ u8 p 8) ∧ (u8 p 8 ≤ 3) ∧ (u8 p 9 ≤ 1) ∧ (u8 p 10 ≤ 0x3F) ∧ (u8 p 11 ≤ 0x3F) ∧ (u8 p 12 ≤ 0x3F) ∧ (if u8 p 9 = 0 then 1000 ≤ u32 p 16 ∧ u32 p 16 ≤ 200000 else u32 p 16 = 0) ∧ (u32 p 20 ≤ c.periodUs * 1000) ∧ (1 ≤ u32 p 24) ∧ (u32 p 24 ≤ c.periodUs) ∧ (ratioOk (f32 p 28) = true) ∧ (ratioOk (f32 p 32) = true) ∧ (fLe (fMul (f32 p 28) (f32 p 32)) (fNat 256) = true) ∧ (({ c with sensors := tset CamSensor.reset c.sensors (u8 p 0) x } : CamPort).fits c.gear = true) ∧ (s.lampsStand r.inst (some (u8 p 0)) { c with sensors := tset CamSensor.reset c.sensors (u8 p 0) x } = true)) ∧
    (∃ (s : State) (r : Req) (len : Nat) (p : List Byte), (min (2316 + 4 * u16 ((s.offered verbCamIsp r).regionRead r.win (u8 r.payload 1) 2312 2) 0) (2316 + 4 * 4096) = len) ∧ ((s.offered verbCamIsp r).regionRead r.win (u8 r.payload 1) 0 len = p) ∧ (ispOk (((s.offered verbCamIsp r).regionDone r.win (u8 r.payload 1) r.tag p.length false).camSensor r.inst (u8 r.payload 0)) p = true) ∧ (s.serves verbCamIsp r = true) ∧ (u8 r.payload 0 ≤ 3) ∧ ((s.offered verbCamIsp r).regionCheck r.win (u8 r.payload 1) 2316 = none) ∧ ((s.offered verbCamIsp r).regionCheck r.win (u8 r.payload 1) len = none)) ∧
    (∃ (s : State) (r : Req) (p : List Byte) (x : CamSensor) (roi : List Nat), (x = (s.port r.inst).sensor (u8 p 0)) ∧ (roi = u16s p 6 4) ∧ (s.serves verbCamTap r = true) ∧ (p = r.payload) ∧ (u8 p 0 ≤ 3) ∧ (u8 p 1 ≤ 7) ∧ (u8 p 3 ≠ 0) ∧ (u16 p 4 ≠ 0) ∧ (u16 p 4 ≤ 1024) ∧ (roi.getD 2 0 = 0) ∧ ((x.tapShape (u8 p 1) roi).2.1 ≠ 0) ∧ ((s.port r.inst).tapOn.contains (u8 p 0) = false) ∧ ((s.offered verbCamTap r).regionCheck r.win (u8 p 2) (x.tapSlot (u8 p 1) roi * u16 p 4) = none)) ∧
    (∃ (s : State) (r : Req), (s.serves verbCamBackch r = true) ∧ (u8 r.payload 0 ≤ 3) ∧ (u8 r.payload 1 ≤ 127) ∧ (u8 r.payload 2 ≤ 96) ∧ (u8 r.payload 3 ≤ 96) ∧ ((s.port r.inst).linkState = 2)) ∧
    (∃ (s : State) (r : Req), (s.serves verbCamLamp r = true) ∧ (u8 r.payload 0 ≤ 7) ∧ (u8 r.payload 1 = 0)) ∧
    (∃ (s : State) (r : Req) (p : List Byte) (l : Lamp), (l = { Lamp.reset with mode := u8 p 1, port := r.inst, sensor := u8 p 2, out := u8 p 3, n := u8 p 4, guardUs := u16 p 6, initOfs := i32 p 8, offset := i32 p 8, ext := 0, state := if u8 p 1 = 1 ∨ ((s.port r.inst).sensor (u8 p 2)).shutter ≠ 0 then 3 else 1 }) ∧ (s.serves verbCamLamp r = true) ∧ (p = r.payload) ∧ (u8 p 0 ≤ 7) ∧ (u8 p 1 = 1 ∧ u8 p 4 ≠ 0 ∨ u8 p 1 = 2) ∧ (u8 p 2 ≤ 3) ∧ (u8 p 3 ≤ 71) ∧ (u16 p 6 ≤ 2000) ∧ ((i32 p 8).natAbs ≤ 2000000) ∧ ((s.port r.inst).sync = true) ∧ (lampFits l (s.port r.inst) = true) ∧ ((s.out (u8 p 3)).cfg.mode = 2) ∧ ((s.out (u8 p 3)).bound = 0)) ∧
    (∃ (s : State) (r : Req) (p : List Byte) (k : Nat), (k = max (u32 p 4) (s.camSensor r.inst (u8 p 0)).lastNo) ∧ (s.serves verbCamExposure r = true) ∧ (p = r.payload) ∧ (u8 p 0 ≤ 3) ∧ (u32 p 8 ≠ 0) ∧ (u32 p 8 ≤ (s.port r.inst).periodUs)) ∧
    (∃ (s : State) (r : Req), (s.serves verbCamHostbuf r = true) ∧ (s.isHost (camKey r.inst) = false) ∧ ((s.hostFn (camKey r.inst)).pending = none) ∧ ((s.offered verbCamHostbuf r).regionCheck r.win (u8 r.payload 0) 512 = none)) ∧
    (∃ (s : State) (r : Req) (p : List Byte), (s.serves verbCamLampSet r = true) ∧ (p = r.payload) ∧ ((s.hostFn (camKey r.inst)).host = true) ∧ ((s.hostFn (camKey r.inst)).owner = r.win) ∧ ((s.hostFn (camKey r.inst)).period ≠ 0) ∧ (u32 p 0 ≤ (s.hostFn (camKey r.inst)).k) ∧ ((i32 p 4).natAbs ≤ 2000000) ∧ ((i32 p 8).natAbs ≤ 2000000) ∧ ((s.offered verbCamLampSet r).hostInTime (camKey r.inst) (u32 p 0) = true) ∧ (((s.offered verbCamLampSet r).hostResult (camKey r.inst)).2 = true)) :=
  ⟨⟨(wit), (ask 1 []), _, rfl, by decide +kernel⟩,
    ⟨(wit), _, _, (ask 1 (bs [0, 0, 1, 0, 0x88, 0x13, 0, 0, 0, 0, 0, 0])), (bs [0, 0, 1, 0, 0x88, 0x13, 0, 0, 0, 0, 0, 0]), _, _, rfl, rfl, rfl, rfl, by decide +kernel⟩,
    ⟨(wit), _, _, (ask 1 (bs [3, 1, 5, 24, 64, 0, 64, 0, 3, 0, 0x3F, 0, 0, 0, 0, 0, 0xE8, 3, 0, 0, 0, 0, 0, 0, 1, 0, 0, 0, 0, 0, 0x80, 0x3F, 0, 0, 0x80, 0x3F])), (bs [3, 1, 5, 24, 64, 0, 64, 0, 3, 0, 0x3F, 0, 0, 0, 0, 0, 0xE8, 3, 0, 0, 0, 0, 0, 0, 1, 0, 0, 0, 0, 0, 0x80, 0x3F, 0, 0, 0x80, 0x3F]), _, _, _, rfl, rfl, rfl, rfl, rfl, by decide +kernel⟩,
    ⟨({ wit with cam.ports := [(1, { CamPort.reset with sensors := [(3, { CamSensor.reset with width := 64, height := 64 })] })], keeper.windows := [(0, { Window.reset with running := true, regions := [(0, { Region.reset with present := true, size := 4096, bytes := [(8, 1), (128, 2), (129, 50), (130, 51), (230, 1), (233, 1), (249, 1)] })] })] }), (ask 1 (bs [3, 0, 0, 0])), _, _, rfl, rfl, isp_wit' (by decide +kernel) (by decide +kernel) (by decide +kernel) (by decide +kernel), by decide +kernel⟩,
    ⟨({ wit with cam.ports := [(1, { CamPort.reset with sensors := [(3, { CamSensor.reset with width := 64, height := 64 })] })], keeper.windows := [(0, { Window.reset with running := true, regions := [(0, { Region.reset with present := true, size := 65536 })] })] }), (ask 1 (bs [3, 0, 0, 1, 1, 0, 0, 0, 0, 0, 0, 0, 0, 0, 0, 0])), (bs [3, 0, 0, 1, 1, 0, 0, 0, 0, 0, 0, 0, 0, 0, 0, 0]), _, _, rfl, rfl, by decide +kernel⟩,
    ⟨({ wit with cam.ports := [(1, { CamPort.reset with linkState := 2 })] }), (ask 1 (bs [3, 127, 0, 96])), by decide +kernel⟩,
    ⟨(wit), (ask 1 (bs [7, 0, 0, 0, 0, 0, 0, 0, 0, 0, 0, 0, 0, 0, 0, 0])), by decide +kernel⟩,
    ⟨({ wit with cam.ports := [(1, { CamPort.reset with sync := true })], outs.ch := [(71, { OutCh.reset with cfg.mode := 2 })] }), (ask 1 (bs [7, 1, 3, 71, 1, 0, 0, 0, 0, 0, 0, 0, 0, 0, 0, 0])), (bs [7, 1, 3, 71, 1, 0, 0, 0, 0, 0, 0, 0, 0, 0, 0, 0]), _, rfl, by decide +kernel⟩,
    ⟨(wit), (ask 1 (bs [3, 0, 0, 0, 0, 0, 0, 0, 0x88, 0x13, 0, 0])), (bs [3, 0, 0, 0, 0, 0, 0, 0, 0x88, 0x13, 0, 0]), _, rfl, by decide +kernel⟩,
    ⟨({ wit with keeper.windows := [(0, { Window.reset with running := true, regions := [(0, { Region.reset with present := true, size := 4096 })] })] }), (ask 1 (bs [0, 0, 0, 0])), by decide +kernel⟩,
    ⟨({ wit with keeper.hostFns := [(camKey 1, { HostFn.reset with host := true, got := false, tk := 6000000000, d := 100, period := 1000 })] }), (ask 1 (zeros 12)), (zeros 12), by decide +kernel⟩⟩

theorem test_witness_CanEventRowsComplete :
    (∃ (s : State) (a : State) (b : State) (f : CanRx) (stamp : Nat) (sigAt : Nat), (s.frameStamp f.ch (s.hw - f.ago) = stamp) ∧ (s.sigStamp (s.hw - f.ago) = sigAt) ∧ ((s.modCan f.ch (fun x => { x with rx := satAdd 32 x.rx 1 })).canErrors f.ch (s.canCh f.ch).tecErr (if (s.canCh f.ch).recErr > 127 then 127 else (s.canCh f.ch).recErr - 1) = a) ∧ ((a.entries f.ch 5).foldl (fun (s : State) e => s.hpFrame f stamp e.2) a = b) ∧ (s.canLive f.ch = true) ∧ (f.data.length ≤ 8) ∧ (f.fd = false)) ∧
    (∃ (s : State) (ch : Nat) (i : Nat), (s.canLive ch = true) ∧ ((s.canCh ch).mode = 1) ∧ (s.txPick ch = some (.object i))) ∧
    (∃ (s : State) (ch : Nat) (outcome : Nat) (q : TxPick), (s.canLive ch = true) ∧ ((s.canCh ch).mode = 1) ∧ (1 ≤ outcome) ∧ (outcome ≤ 6) ∧ (s.txPick ch = some q)) ∧
    (∃ (s : State) (idx : Nat), (s.canRuns (eChan (s.pan idx)) = true) ∧ (s.isHeadAt idx = true) ∧ (u8 (s.pan idx) 9 = 1) ∧ (u16 (s.pan idx) 12 ≠ 0)) ∧
    (∃ (s : State) (idx : Nat) (t0 : Nat), (s.canRuns (eChan (s.pan idx)) = true) ∧ (s.isHeadAt idx = true) ∧ (u8 (s.pan idx) 9 = 3) ∧ ((s.packsOf idx).map (fun m => (s.sig (u16 m 0)).stamp) ≠ (s.txSt idx).seen) ∧ ((s.txSt idx).lastReq = some t0)) ∧
    (∃ (s : State) (ch : Nat), (s.canRuns ch = true) ∧ ((s.canCh ch).state = 3) ∧ ((s.canCh ch).recovering = true)) ∧
    (∃ (s : State) (ch : Nat), (s.canRuns ch = true) ∧ ((s.canCh ch).mode ≠ 0)) ∧
    (∃ (s : State) (ch : Nat) (us : Nat), (s.canLive ch = true) ∧ (us > 4000)) ∧
    (∃ (s : State) (ch : Nat), (s.canLive ch = true)) ∧
    (∃ (s : State) (ch : Nat) (k : Nat) (i : Nat) (t0 : Nat) (q : List Byte), ((s.entries ch 5).find? (fun e => eForm e.2 == k) = some (i, q)) ∧ (u8 q 12 = 3) ∧ ((tget HpMatch.reset (s.canCh ch).hpms k).term = false) ∧ ((tget HpMatch.reset (s.canCh ch).hpms k).lastAt = some t0) ∧ (s.operating = true)) ∧
    (∃ (s : State) (idx : Nat), (s.operating = true) ∧ (s.running 0x30 0 = true) ∧ (tget 0 s.can.sigTimeouts idx ≠ 0) ∧ (eType (s.pan idx) = 1) ∧ (eForm (s.pan idx) = 1) ∧ (u16 (s.pan idx) 12 ≠ 0)) ∧
    (∃ (s : State) (a : State) (ch : Nat) (q : Nat) (t0 : Nat) (l : List Nat), (s.queueRead ch q = a) ∧ (s.canRuns ch = true) ∧ ((s.canQ ch q).consumer = 1) ∧ ((a.canQ ch q).posts = t0 :: l) ∧ ((a.canQ ch q).notified = false)) ∧
    (∃ (s : State) (a : State) (ch : Nat) (g : GwFrame), (s.waitTo (g.arrAt + 1000000000) = a) ∧ ((s.canCh ch).fifo.find? (·.held) = some g) ∧ (s.canRuns ch = true)) ∧
    (∃ (s : State) (a : State) (ch : Nat), ((s.boundary (277 + 1000 * ch) ((s.canCh ch).sched.cycleUs * 1000) ((s.canCh ch).sched.phaseUs * 1000)).schedApply ch = a) ∧ (s.canRuns ch = true) ∧ ((s.canCh ch).sched.role = 1) ∧ ((a.canCh ch).sched.role = 1)) ∧
    (∃ (s : State) (a : State) (ch : Nat) (t0 : Nat), ((s.waitTo (t0 + ((s.canCh ch).sched.cycleUs + (if (s.canCh ch).backup then 0 else (s.canCh ch).sched.backupUs)) * 1000)).schedApply ch = a) ∧ ((s.canCh ch).lastRef = some t0) ∧ (s.canRuns ch = true) ∧ ((s.canCh ch).sched.role = 3) ∧ ((a.canCh ch).sched.role = 3)) ∧
    (∃ (s : State) (ch : Nat) (t0 : Nat), ((s.canCh ch).lastRef = some t0) ∧ (s.canRuns ch = true) ∧ ((s.canCh ch).sched.role = 2) ∧ ((s.canCh ch).backup = false) ∧ ((s.canCh ch).synced = true)) ∧
    (∃ (s : State) (idx : Nat) (c : Nat) (t0 : Nat), (c = eChan (s.pan idx)) ∧ (s.canRuns c = true) ∧ ((s.entries c 3).any (fun q => q.1 == idx) = true) ∧ ((s.canCh c).sched.role ≠ 0) ∧ ((s.canCh c).synced = true) ∧ ((s.canCh c).lastRef = some t0) ∧ (slotActive (s.pan idx) (s.canCh c).cycle = true) ∧ (tget 0 s.time.ticks (280 + 1000 * idx) ≠ t0 + u16 (s.pan idx) 4 * 1000 + 1) ∧ (eForm (s.pan idx) = 0) ∧ (({ (s.waitTo (t0 + u16 (s.pan idx) 4 * 1000)) with time.ticks := tset 0 (s.waitTo (t0 + u16 (s.pan idx) 4 * 1000)).time.ticks (280 + 1000 * idx) (t0 + u16 (s.pan idx) 4 * 1000 + 1) } : State).isHeadAt (u16 (s.pan idx) 10) = true)) ∧
    (∃ (s : State), (s.operating = true)) ∧
    (∃ (s : State) (ch : Nat) (i : Nat), (s.canRuns ch = true) ∧ (s.keeper.paused = false) ∧ (i < (s.canCh ch).sessions.length) ∧ ((s.tpSess ch i).tmo ≠ 0) ∧ (s.isHost (canKey ch) = false) ∧ ((s.tpSess ch i).kind = 0)) ∧
    (∃ (s : State) (ch : Nat) (i : Nat), (s.canRuns ch = true) ∧ (s.keeper.paused = false) ∧ ((s.tpSess ch i).send = true) ∧ ((s.tpSess ch i).kind = 0) ∧ (s.isHost (canKey ch) = false) ∧ ((s.tpSess ch i).packets + 1 < tpPackets (s.tpSess ch i).total)) :=
  ⟨⟨({ wit with can.ch := [(7, { CanCh.reset with mode := 1, state := 1 })] }), _, _, ({ ch := 7, id := 1 }), _, _, rfl, rfl, rfl, rfl, by decide +kernel⟩,
    ⟨({ wit with can.ch := [(7, { CanCh.reset with mode := 1, state := 1 })], can.pantry := [(3, bs [2, 0, 7, 0, 1, 0, 0, 0, 8])], can.tx := [(3, { TxState.reset with state := 1 })] }), (7), (3), by decide +kernel⟩,
    ⟨({ wit with can.ch := [(7, { CanCh.reset with mode := 1, state := 1 })], can.pantry := [(3, bs [2, 0, 7, 0, 1, 0, 0, 0, 8])], can.tx := [(3, { TxState.reset with state := 1 })] }), (7), (6), (.object 3), by decide +kernel⟩,
    ⟨({ wit with can.pantry := [(3, bs [2, 0, 7, 0, 1, 0, 0, 0, 8, 1, 0, 0, 10, 0])] }), (3), by decide +kernel⟩,
    ⟨({ wit with can.pantry := [(3, bs [2, 0, 7, 0, 1, 0, 0, 0, 8, 3, 0, 0, 10, 0])], can.tx := [(3, { TxState.reset with seen := [1], lastReq := some 7 })] }), (3), (7), by decide +kernel⟩,
    ⟨({ wit with can.ch := [(7, { CanCh.reset with mode := 1, state := 3, recovering := true })] }), (7), by decide +kernel⟩,
    ⟨({ wit with can.ch := [(7, { CanCh.reset with mode := 1, state := 1, joining := true })] }), (7), by decide +kernel⟩,
    ⟨({ wit with can.ch := [(7, { CanCh.reset with mode := 1, state := 1 })] }), (7), (4001), by decide +kernel⟩,
    ⟨({ wit with can.ch := [(7, { CanCh.reset with mode := 1, state := 1 })] }), (7), by decide +kernel⟩,
    ⟨({ wit with can.ch := [(7, { CanCh.reset with mode := 1, state := 1, hpms := [(1, { HpMatch.reset with lastAt := some 7 })] })], can.pantry := [(3, bs [5, 1, 7, 0, 0, 0, 0, 0, 0, 0, 0, 0, 3, 0, 10, 0])] }), (7), (1), (3), (7), (bs [5, 1, 7, 0, 0, 0, 0, 0, 0, 0, 0, 0, 3, 0, 10, 0]), by decide +kernel⟩,
    ⟨({ wit with can.sigTimeouts := [(3, 1)], can.pantry := [(3, bs [1, 1, 7, 0, 0, 0, 0, 0, 0, 0, 0, 0, 10, 0, 0, 0, 0, 1])] }), (3), by decide +kernel⟩,
    ⟨({ wit with can.ch := [(7, { CanCh.reset with mode := 1, state := 1, queues := [(15, { CanQueue.reset with consumer := 1, posts := [7], prod := 1 })] })] }), _, (7), (15), (7), ([]), rfl, by decide +kernel⟩,
    ⟨({ wit with can.ch := [(7, { CanCh.reset with mode := 1, state := 1, fifo := [{ GwFrame.reset with held := true }] })] }), _, (7), ({ GwFrame.reset with held := true }), rfl, by decide +kernel⟩,
    ⟨({ wit with can.ch := [(7, { CanCh.reset with mode := 1, state := 1, sched := { CanSched.reset with role := 1, matrix := 4, cycleUs := 1000 } })] }), _, (7), rfl, by decide +kernel⟩,
    ⟨({ wit with can.ch := [(7, { CanCh.reset with mode := 1, state := 1, lastRef := some 7, sched := { CanSched.reset with role := 3, matrix := 4, cycleUs := 1000 } })] }), _, (7), (7), rfl, by decide +kernel⟩,
    ⟨({ wit with can.ch := [(7, { CanCh.reset with mode := 1, state := 1, synced := true, lastRef := some 7, sched := { CanSched.reset with role := 2, matrix := 4, cycleUs := 1000 } })] }), (7), (7), by decide +kernel⟩,
    ⟨({ wit with can.ch := [(7, { CanCh.reset with mode := 1, state := 1, synced := true, lastRef := some 7, sched := { CanSched.reset with role := 2, matrix := 4, cycleUs := 1000 } })], can.pantry := [(1, bs [2, 0, 7, 0, 1, 0, 0, 0, 8]), (3, bs [3, 0, 7, 0, 10, 0, 1, 0, 1, 0, 1, 0])] }), (3), _, (7), rfl, by decide +kernel⟩,
    ⟨(wit), by decide +kernel⟩,
    ⟨({ wit with can.ch := [(7, { CanCh.reset with mode := 1, state := 1, sessions := [{ TpSession.reset with active := true, tmo := 750 }] })] }), (7), (0), by decide +kernel⟩,
    ⟨({ wit with can.ch := [(7, { CanCh.reset with mode := 1, state := 1, sessions := [{ TpSession.reset with active := true, send := true, total := 100 }] })] }), (7), (0), by decide +kernel⟩⟩

theorem test_witness_CanVerbsComplete :
    (∃ (s : State) (r : Req) (x : CanCh), (x = s.canCh r.inst) ∧ (s.serves verbCanStatus r = true)) ∧
    (∃ (s : State) (r : Req) (q : HpMatch), (tget HpMatch.reset (s.canCh r.inst).hpms (u8 r.payload 0) = q) ∧ (s.serves verbCanHpRead r = true) ∧ (u8 r.payload 0 ≤ 7)) ∧
    (∃ (s : State) (r : Req) (q : TxState), ((s.offered verbCanTxStatus r).txSt (u16 r.payload 0) = q) ∧ (s.serves verbCanTxStatus r = true) ∧ ((s.offered verbCanTxStatus r).isHeadAt (u16 r.payload 0) = true)) ∧
    (∃ (s : State) (r : Req) (p : List Byte), (s.serves verbCanConfig r = true) ∧ (p = r.payload) ∧ (u8 p 0 ≤ 2) ∧ (u8 p 1 ≤ 7) ∧ (50 ≤ u8 p 2) ∧ (u8 p 2 ≤ 90) ∧ (50 ≤ u8 p 3) ∧ (u8 p 3 ≤ 90) ∧ (50000 ≤ u32 p 4) ∧ (u32 p 4 ≤ 1000000) ∧ (80000000 % u32 p 4 = 0) ∧ (bit (u8 p 1) 0 = false) ∧ ((s.canCh r.inst).mode = u8 p 0) ∧ ((s.canCh r.inst).fd = false) ∧ ((s.canCh r.inst).spArb = u8 p 2) ∧ ((s.canCh r.inst).spData = u8 p 3) ∧ ((s.canCh r.inst).rateArb = u32 p 4)) ∧
    (∃ (s : State) (r : Req) (p : List Byte), (s.serves verbCanConfig r = true) ∧ (p = r.payload) ∧ (u8 p 0 ≤ 2) ∧ (u8 p 1 ≤ 7) ∧ (50 ≤ u8 p 2) ∧ (u8 p 2 ≤ 90) ∧ (50 ≤ u8 p 3) ∧ (u8 p 3 ≤ 90) ∧ (50000 ≤ u32 p 4) ∧ (u32 p 4 ≤ 1000000) ∧ (80000000 % u32 p 4 = 0) ∧ (bit (u8 p 1) 0 = false) ∧ ((s.canCh r.inst).mode ≠ u8 p 0) ∧ ((s.canCh r.inst).usable = false)) ∧
    (∃ (s : State) (r : Req) (a : State) (run : List (Nat × List Byte)), ((s.offered verbCanPantry r).panRun (verbCanPantry.req r) = run) ∧ ((s.offered verbCanPantry r).regionDone r.win (u8 r.payload 1) r.tag (32 * u16 r.payload 4) false = a) ∧ (s.serves verbCanPantry r = true) ∧ (u8 r.payload 0 = 0) ∧ (u16 r.payload 4 ≠ 0) ∧ (u16 r.payload 2 + u16 r.payload 4 ≤ 16384) ∧ ((s.offered verbCanPantry r).regionCheck r.win (u8 r.payload 1) (32 * u16 r.payload 4) = none) ∧ ((headsOf (panWrite (s.offered verbCanPantry r).panNext run) run).findSome? (fun e => (a.entryCheck r.win (a.panRange r.win).2 (panWrite (s.offered verbCanPantry r).panNext run) e.1 e.2).map (fun c => (e.1, c.1, c.2))) = none)) ∧
    (∃ (s : State) (r : Req), (s.serves verbCanPantry r = true) ∧ (u8 r.payload 0 = 1) ∧ (u16 r.payload 4 ≠ 0) ∧ (u16 r.payload 2 + u16 r.payload 4 ≤ 16384) ∧ ((s.offered verbCanPantry r).regionCheck r.win (u8 r.payload 1) (32 * u16 r.payload 4) = none)) ∧
    (∃ (s : State) (r : Req), (s.serves verbCanQueue r = true) ∧ (u8 r.payload 0 ≤ 15) ∧ (u8 r.payload 1 = 0) ∧ (((s.offered verbCanQueue r).canQ r.inst (u8 r.payload 0)).consumer = 0) ∧ (((s.offered verbCanQueue r).canQ r.inst (u8 r.payload 0)).overflow = false)) ∧
    (∃ (s : State) (r : Req), (s.serves verbCanQueue r = true) ∧ (u8 r.payload 0 ≤ 15) ∧ (u8 r.payload 1 = 1) ∧ (u8 r.payload 2 ≤ 63) ∧ (u8 r.payload 3 ≠ 0) ∧ (u8 r.payload 4 ≠ 0) ∧ (u8 r.payload 4 ≤ 100) ∧ ((s.offered verbCanQueue r).regionCheck r.win (u8 r.payload 2) 1600 = none) ∧ (((s.offered verbCanQueue r).canQ r.inst (u8 r.payload 0)).consumer = 0) ∧ (((s.offered verbCanQueue r).canQ r.inst (u8 r.payload 0)).overflow = false)) ∧
    (∃ (s : State) (r : Req) (p : List Byte), (s.serves verbCanSchedule r = true) ∧ (p = r.payload) ∧ (u8 p 0 ≤ 3) ∧ (isPow (u8 p 1) = true) ∧ (bits (u32 p 4) 30 29 = 0) ∧ (1000 ≤ u16 p 8) ∧ (u8 p 0 = 1 → u16 p 10 < u16 p 8) ∧ (100 ≤ u16 p 12) ∧ (u16 p 12 ≤ 10000)) ∧
    (∃ (s : State) (r : Req), (s.serves verbCanRecover r = true) ∧ ((s.canCh r.inst).report = 3)) ∧
    (∃ (s : State) (r : Req) (i : Nat), (i = u16 r.payload 0) ∧ (s.serves verbCanSend r = true) ∧ ((s.offered verbCanSend r).isHeadAt i = true) ∧ (u8 r.payload 2 = 0) ∧ (u8 r.payload 3 ≠ 0) ∧ (u8 r.payload 3 ≤ u8 ((s.offered verbCanSend r).pan i) 8) ∧ ((s.canCh (eChan ((s.offered verbCanSend r).pan i))).usable = true) ∧ (u8 ((s.offered verbCanSend r).pan i) 9 = 0)) ∧
    (∃ (s : State) (r : Req) (p : List Byte), (s.serves verbCanTp r = true) ∧ (p = r.payload) ∧ (u8 p 0 = 0) ∧ (u8 p 1 ≤ 253) ∧ (u8 p 2 ≠ 0) ∧ (u8 p 2 ≤ 16) ∧ (50 ≤ u8 p 3) ∧ (u8 p 3 ≤ 200) ∧ (u8 p 4 ≤ 63)) ∧
    (∃ (s : State) (r : Req) (p : List Byte), (s.serves verbCanTpSend r = true) ∧ (p = r.payload) ∧ (u8 p 0 ≤ 63) ∧ (u8 p 2 ≤ 7) ∧ (u8 p 1 = 255) ∧ (9 ≤ u32 p 8) ∧ (u32 p 8 ≤ 1785) ∧ ((s.offered verbCanTpSend r).regionCheck r.win (u8 p 0) (u32 p 8) = none) ∧ ((s.canCh r.inst).tpOn = true) ∧ (s.isHost (canKey r.inst) = false) ∧ ((s.canCh r.inst).usable = true) ∧ ((s.offered verbCanTpSend r).tpCount r.inst true < 16) ∧ ((s.offered verbCanTpSend r).tpFind r.inst true 255 true = none)) :=
  ⟨⟨(wit), (ask 7 []), _, rfl, by decide +kernel⟩,
    ⟨(wit), (ask 7 (bs [7, 0, 0, 0])), _, rfl, by decide +kernel⟩,
    ⟨({ wit with can.pantry := [(3, bs [2, 0, 7, 0, 1, 0, 0, 0, 8])] }), (ask 0 (bs [3, 0, 0, 0])), _, rfl, by decide +kernel⟩,
    ⟨({ wit with can.ch := [(7, { CanCh.reset with mode := 1, state := 1, spArb := 80, spData := 80, rateArb := 500000 })] }), (ask 7 (bs [1, 2, 80, 80, 0x20, 0xA1, 7, 0, 0, 0, 0, 0, 0, 0, 0, 0])), (bs [1, 2, 80, 80, 0x20, 0xA1, 7, 0, 0, 0, 0, 0, 0, 0, 0, 0]), by decide +kernel⟩,
    ⟨(wit), (ask 7 (bs [1, 2, 80, 80, 0x20, 0xA1, 7, 0, 0, 0, 0, 0, 0, 0, 0, 0])), (bs [1, 2, 80, 80, 0x20, 0xA1, 7, 0, 0, 0, 0, 0, 0, 0, 0, 0]), by decide +kernel⟩,
    ⟨({ wit with keeper.decls := [(0, { PartDecl.reset with pantryCount := 16384 })], keeper.windows := [(0, { Window.reset with running := true, regions := [(0, { Region.reset with present := true, size := 4096 })] })] }), (ask 0 (bs [0, 0, 0, 0, 1, 0, 0, 0])), _, _, rfl, rfl, by decide +kernel⟩,
    ⟨({ wit with keeper.windows := [(0, { Window.reset with running := true, regions := [(0, { Region.reset with present := true, size := 4096 })] })] }), (ask 0 (bs [1, 0, 0, 0, 1, 0, 0, 0])), by decide +kernel⟩,
    ⟨(wit), (ask 7 (bs [15, 0, 0, 0, 0, 0, 0, 0])), by decide +kernel⟩,
    ⟨({ wit with keeper.windows := [(0, { Window.reset with running := true, regions := [(0, { Region.reset with present := true, size := 4096 })] })] }), (ask 7 (bs [15, 1, 0, 1, 100, 0, 0, 0])), by decide +kernel⟩,
    ⟨(wit), (ask 7 (bs [3, 4, 0, 0, 0, 0, 0, 0, 0xE8, 3, 0xE7, 3, 100, 0, 0, 0])), (bs [3, 4, 0, 0, 0, 0, 0, 0, 0xE8, 3, 0xE7, 3, 100, 0, 0, 0]), by decide +kernel⟩,
    ⟨({ wit with can.ch := [(7, { CanCh.reset with mode := 1, state := 3 })] }), (ask 7 []), by decide +kernel⟩,
    ⟨({ wit with keeper.decls := [(0, { PartDecl.reset with pantryCount := 16384 })], can.ch := [(7, { CanCh.reset with mode := 1, state := 1 })], can.pantry := [(3, bs [2, 0, 7, 0, 1, 0, 0, 0, 8])], keeper.windows := [(0, { Window.reset with running := true })] }), (ask 0 (bs [3, 0, 0, 4, 1, 2, 3, 4])), _, rfl, by decide +kernel⟩,
    ⟨(wit), (ask 7 (bs [0, 253, 16, 200, 63, 0, 0, 0])), (bs [0, 253, 16, 200, 63, 0, 0, 0]), by decide +kernel⟩,
    ⟨({ wit with can.ch := [(7, { CanCh.reset with mode := 1, state := 1, tpOn := true })], keeper.windows := [(0, { Window.reset with running := true, regions := [(0, { Region.reset with present := true, size := 4096 })] })] }), (ask 7 (bs [0, 255, 7, 0, 0, 0, 0, 0, 9, 0, 0, 0])), (bs [0, 255, 7, 0, 0, 0, 0, 0, 9, 0, 0, 0]), by decide +kernel⟩⟩

theorem test_witness_CrownRowsComplete :
    (∃ (s : State) (index : Nat) (out : Nat) (stamp : Nat) (cam : CamSensor) (sm : CrownSample), (cam = (s.camSensor (index / 4) (index % 4)).ofDue) ∧ (sm = { stamp := u64 cam.hdr 0, data := tget [] cam.outs out, crop := [(cam.scaled out).2.2.1, (cam.scaled out).2.2.2.1, (cam.scaled out).2.1, (cam.scaled out).2.2.2.2.1 / max 1 (cam.scaled out).2.1, (cam.scaled out).2.2.2.2.2 / max 1 (cam.scaled out).2.1] }) ∧ (s.trunkOn = true) ∧ (cam.hdr ≠ [])) ∧
    (∃ (s : State), (s.trunkOn = true)) ∧
    (∃ (s : State) (a : State) (slot : Nat) (j : Nat) (x : CrownSlot) (present : Tab CrownSample), (x = s.slot slot) ∧ (j = x.nextStep) ∧ (a = x.windowed.foldl (fun (s : State) i => s.judgeIn slot j i) (s.waitTo (x.cj j))) ∧ (present = x.presentIn (a.slot slot) j) ∧ (x.state = 2) ∧ (s.crownServes x.unit = true) ∧ (slot < 16)) ∧
    (∃ (s : State) (a : State) (slot : Nat) (j : Nat) (t0 : Nat) (how : Nat) (rest : List (Nat × Nat × Nat)) (x : CrownSlot) (d : CrownOut), (x = s.slot slot) ∧ (a = ((((s.waitTo t0).modSlot slot (fun x => { x with releases := rest, uncomp := x.uncomp.filter (fun e => decide (j < e)) })).crownWrite slot j (how == 1) (x.uncomp.contains j) d).crownPend slot)) ∧ (s.trunkOn = true) ∧ (x.overrun = false) ∧ (x.releases = (j, t0, how) :: rest) ∧ (how ≠ 2) ∧ (s.crownServes x.unit = true)) ∧
    (∃ (s : State) (slot : Nat) (delay : Nat) (j : Nat) (t0 : Nat) (how : Nat) (rest : List (Nat × Nat × Nat)), ((s.slot slot).releases = (j, t0, how) :: rest) ∧ (s.trunkOn = true) ∧ (how ≠ 2) ∧ (delay ≠ 0) ∧ (s.crownServes (s.slot slot).unit = true)) ∧
    (∃ (s : State) (r : Req) (st : Nat), (st = (if (s.offered verbCrownStatus r).keeper.retired.contains r.inst then 2 else if ((s.offered verbCrownStatus r).unitSt 0x42 r.inst).phase == .off then 1 else 0)) ∧ (s.serves verbCrownStatus r = true)) ∧
    (∃ (s : State) (r : Req) (x : CrownSlot), (x = s.slot (u8 r.payload 0)) ∧ (s.serves verbCrownModel r = true) ∧ (u8 r.payload 0 ≤ 15) ∧ (x.state ≠ 0) ∧ (x.unit = r.inst)) ∧
    (∃ (s : State) (a : State) (r : Req) (m : Nat) (x : CrownSlot), (m = u8 r.payload 0) ∧ (x = s.slot m) ∧ (a = (((if x.state = 3 then (s.offered verbCrownLoad r).clearFault 0x9106 0x42 x.unit else s.offered verbCrownLoad r).modHost (crownKey m x.unit) (fun _ => HostFn.reset)).modSlot m (fun _ => CrownSlot.reset)).zeroSlot m) ∧ (s.serves verbCrownLoad r = true) ∧ (m ≤ 15) ∧ (u8 r.payload 1 = 0) ∧ (x.state = 1 ∧ x.unit = r.inst ∨ x.state = 3)) ∧
    (∃ (s : State) (r : Req) (p : List Byte) (m : Nat) (k : Nat) (d : ModelDecl), (s.serves verbCrownLoad r = true) ∧ (p = r.payload) ∧ (m = u8 p 0) ∧ (m ≤ 15) ∧ (u8 p 1 = 1) ∧ (s.crown.models.find? (fun e => e.1 == u16 p 2) = some (k, d)) ∧ (shapeMin d.shape ≤ u32 p 4) ∧ (u32 p 4 ≤ 200000) ∧ (u32 p 8 < u32 p 4) ∧ ((u32 p 4 + 3) / 4 ≤ u32 p 12) ∧ (u32 p 12 ≤ u32 p 4) ∧ (u8 p 16 ≤ shapeInputs d.shape) ∧ (fLe (fFrac 1 2) (f32 p 20) = true) ∧ (fLe (f32 p 20) (fNat 6) = true) ∧ ((s.slot m).state = 0) ∧ ((s.offered verbCrownLoad r).tilesUsed r.inst + shapeTiles d.shape ≤ 8)) ∧
    (∃ (s : State) (r : Req) (p : List Byte) (x : CrownSlot) (z : State), (s.slot (u8 p 0) = x) ∧ ((s.offered verbCrownBind r).modSlot (u8 p 0) (fun _ => { x with binds := tset CrownBind.reset x.binds (u8 p 1) (if u8 p 2 = 0 then CrownBind.reset else { kind := u8 p 2, fields := slice p 4 12 }), ins := tdel x.ins (u8 p 1) }) = z) ∧ (s.serves verbCrownBind r = true) ∧ (p = r.payload) ∧ (u8 p 0 ≤ 15) ∧ (x.state ≠ 0) ∧ (x.state ≠ 2) ∧ (x.unit = r.inst) ∧ (u8 p 1 < x.decl.kinds.length) ∧ (u8 p 2 ≤ 3) ∧ (u8 p 2 = 0 ∨ u8 p 2 = x.decl.kinds.getD (u8 p 1) 0) ∧ (bindOk x.decl (u8 p 2) (slice p 4 12) = true) ∧ (¬(u8 p 2 = 1 ∧ u8 (slice p 4 12) 0 ≥ camPorts s.variant)) ∧ (¬(u8 p 2 = 3 ∧ !(u16s (slice p 4 12) 0 6).all (fun id => id == 0xFFFF || s.sigReadable r.win id))) ∧ ((List.range 16).foldl (fun n k => if (z.slot k).state ≠ 0 ∧ (z.slot k).unit = x.unit then n + (z.slot k).projection else n) 0 ≤ 2000000)) ∧
    (∃ (s : State) (r : Req) (p : List Byte), (s.serves verbCrownCalib r = true) ∧ (p = r.payload) ∧ (u8 p 0 = 2) ∧ (u8 p 1 ≤ 3) ∧ (u8 p 2 = 0) ∧ ((f32s p 4 3).all within20 = true) ∧ ((f32s p 16 3).all (fun a => fLe (fInt (-180)) a && fLe a (fNat 180)) = true) ∧ ((f32s p 28 9).all (fun a => fEq a fZero) = true)) ∧
    (∃ (s : State) (r : Req) (p : List Byte), (s.serves verbCrownCalib r = true) ∧ (p = r.payload) ∧ (u8 p 0 = 1) ∧ (u8 p 1 ≤ 7) ∧ (u8 p 2 = 0) ∧ ((f32s p 4 3).all within20 = true) ∧ ((f32s p 16 3).all (fun a => fLe (fInt (-180)) a && fLe a (fNat 180)) = true) ∧ ((f32s p 28 4).all (fun a => fFinite a && fLt fZero a) = true) ∧ ((f32s p 44 5).all fFinite = true)) ∧
    (∃ (s : State) (r : Req) (p : List Byte) (x : CrownSlot), (x = s.slot (u8 p 0)) ∧ (s.serves verbCrownOutbuf r = true) ∧ (p = r.payload) ∧ (u8 p 0 ≤ 15) ∧ (x.state ≠ 0) ∧ (x.state ≠ 2) ∧ (x.unit = r.inst) ∧ (u8 p 1 < shapeGrids x.decl.shape) ∧ ((s.offered verbCrownOutbuf r).regionCheck r.win (u8 p 2) 65600 = none) ∧ ((s.offered verbCrownOutbuf r).regionCheck r.win (u8 p 3) 65600 = none)) ∧
    (∃ (s : State) (r : Req) (m : Nat), (m = u8 r.payload 0) ∧ (s.serves verbCrownStart r = true) ∧ (m ≤ 15) ∧ ((s.slot m).unit = r.inst) ∧ ((s.slot m).state ≠ 0) ∧ ((s.slot m).state ≠ 3) ∧ (u8 r.payload 1 = 0)) ∧
    (∃ (s : State) (r : Req) (m : Nat), (m = u8 r.payload 0) ∧ (s.serves verbCrownStart r = true) ∧ (m ≤ 15) ∧ ((s.slot m).unit = r.inst) ∧ ((s.slot m).state ≠ 0) ∧ ((s.slot m).state ≠ 3) ∧ (u8 r.payload 1 = 1)) ∧
    (∃ (s : State) (a : State) (r : Req) (m : Nat), (m = u8 r.payload 0) ∧ (a = (s.offered verbCrownStop r).modSlot m (fun x => { x with state := 1, autoStart := false })) ∧ (s.serves verbCrownStop r = true) ∧ (m ≤ 15) ∧ ((s.slot m).unit = r.inst) ∧ ((s.slot m).state ≠ 0) ∧ ((s.slot m).state ≠ 3)) ∧
    (∃ (s : State) (r : Req) (p : List Byte) (x : CrownSlot), (x = s.slot (u8 p 0)) ∧ (s.serves verbCrownHostbuf r = true) ∧ (p = r.payload) ∧ (u8 p 0 ≤ 15) ∧ (x.state ≠ 0) ∧ (x.state ≠ 2) ∧ (x.unit = r.inst) ∧ ((s.offered verbCrownHostbuf r).regionCheck r.win (u8 p 1) x.decl.inputSet = none) ∧ ((s.offered verbCrownHostbuf r).regionCheck r.win (u8 p 2) x.decl.inputSet = none)) ∧
    (∃ (s : State) (r : Req) (p : List Byte) (x : CrownSlot) (es : List (Nat × F32 × Nat)), (x = s.slot (u8 p 4)) ∧ (es = (List.range ((p.length - 8) / 8)).map (fun i => (u16 p (8 + 8 * i), f32 p (12 + 8 * i), u8 p (10 + 8 * i) &&& 0x2D))) ∧ (s.serves verbCrownResult r = true) ∧ (p = r.payload) ∧ (u8 p 4 ≤ 15) ∧ (x.state ≠ 0) ∧ (x.unit = r.inst) ∧ ((s.hostFn (crownKey (u8 p 4) r.inst)).host = true) ∧ ((s.hostFn (crownKey (u8 p 4) r.inst)).owner = r.win) ∧ ((s.hostFn (crownKey (u8 p 4) r.inst)).period ≠ 0) ∧ (u32 p 0 ≤ (s.hostFn (crownKey (u8 p 4) r.inst)).k) ∧ (es.all (fun e => (x.sigIds (u8 p 4)).contains e.1) = true) ∧ ((es.map (·.1)).eraseDups.length = es.length) ∧ (es.all (fun e => fFinite e.2.1) = true) ∧ ((s.offered verbCrownResult r).hostInTime (crownKey (u8 p 4) r.inst) (u32 p 0) = true) ∧ (((s.offered verbCrownResult r).hostResult (crownKey (u8 p 4) r.inst)).2 = true)) :=
  ⟨⟨({ wit with cam.ports := [(0, { CamPort.reset with sensors := [(1, { CamSensor.reset with hdr := zeros 64 })] })] }), (1), (1), (0), _, _, rfl, rfl, by decide +kernel⟩,
    ⟨(wit), by decide +kernel⟩,
    ⟨({ wit with crown.slots := [(15, { CrownSlot.reset with state := 2, stepUs := 50000 })] }), _, (15), _, _, _, rfl, rfl, rfl, rfl, by decide +kernel⟩,
    ⟨({ wit with crown.slots := [(15, { CrownSlot.reset with state := 2, releases := [(7, 6000000000, 0)] })] }), _, (15), (7), (6000000000), (0), ([]), _, ({}), rfl, rfl, by decide +kernel⟩,
    ⟨({ wit with crown.slots := [(15, { CrownSlot.reset with state := 2, stepUs := 50000, releases := [(0, 6000000000, 0)] })] }), (15), (1), (0), (6000000000), (0), ([]), by decide +kernel⟩,
    ⟨(wit), (ask 1 []), _, rfl, by decide +kernel⟩,
    ⟨({ wit with crown.slots := [(15, { CrownSlot.reset with state := 2, unit := 1, stepUs := 50000 })] }), (ask 1 (bs [15, 0, 0, 0])), _, rfl, by decide +kernel⟩,
    ⟨({ wit with crown.slots := [(15, { CrownSlot.reset with state := 1, unit := 1, stepUs := 50000 })] }), _, (ask 1 (bs (15 :: List.replicate 27 0))), _, _, rfl, rfl, rfl, by decide +kernel⟩,
    ⟨({ wit with crown.models := [(7, ModelDecl.reset)] }), (ask 1 (bs [15, 1, 7, 0, 0x40, 0x0D, 3, 0, 0, 0, 0, 0, 0x40, 0x0D, 3, 0, 0, 0, 0, 0, 0, 0, 0x80, 0x3F, 0, 0, 0, 0])), (bs [15, 1, 7, 0, 0x40, 0x0D, 3, 0, 0, 0, 0, 0, 0x40, 0x0D, 3, 0, 0, 0, 0, 0, 0, 0, 0x80, 0x3F, 0, 0, 0, 0]), (15), (7), (ModelDecl.reset), by decide +kernel⟩,
    ⟨({ wit with crown.slots := [(15, { CrownSlot.reset with state := 1, unit := 1, stepUs := 50000, decl.kinds := [1] })] }), (ask 1 (bs [15, 0, 0, 0, 0, 0, 0, 0, 0, 0, 0, 0, 0, 0, 0, 0])), (bs [15, 0, 0, 0, 0, 0, 0, 0, 0, 0, 0, 0, 0, 0, 0, 0]), _, _, rfl, rfl, by decide +kernel⟩,
    ⟨(wit), (ask 1 (bs (2 :: List.replicate 63 0))), (bs (2 :: List.replicate 63 0)), by decide +kernel⟩,
    ⟨(wit), (ask 1 (bs (1 :: List.replicate 27 0 ++ [0, 0, 0x80, 0x3F, 0, 0, 0x80, 0x3F, 0, 0, 0x80, 0x3F, 0, 0, 0x80, 0x3F] ++ List.replicate 20 0))), (bs (1 :: List.replicate 27 0 ++ [0, 0, 0x80, 0x3F, 0, 0, 0x80, 0x3F, 0, 0, 0x80, 0x3F, 0, 0, 0x80, 0x3F] ++ List.replicate 20 0)), by decide +kernel⟩,
    ⟨({ wit with crown.slots := [(15, { CrownSlot.reset with state := 1, unit := 1, stepUs := 50000, decl.shape := 2 })], keeper.windows := [(0, { Window.reset with running := true, regions := [(0, { Region.reset with present := true, size := 131072 }), (1, { Region.reset with present := true, size := 131072 })] })] }), (ask 1 (bs [15, 0, 0, 1])), (bs [15, 0, 0, 1]), _, rfl, by decide +kernel⟩,
    ⟨({ wit with crown.slots := [(15, { CrownSlot.reset with state := 1, unit := 1, stepUs := 50000 })] }), (ask 1 (bs [15, 0, 0, 0])), _, rfl, by decide +kernel⟩,
    ⟨({ wit with crown.slots := [(15, { CrownSlot.reset with state := 1, unit := 1, stepUs := 50000 })] }), (ask 1 (bs [15, 1, 0, 0])), _, rfl, by decide +kernel⟩,
    ⟨({ wit with crown.slots := [(15, { CrownSlot.reset with state := 2, unit := 1, stepUs := 50000 })] }), _, (ask 1 (bs [15, 0, 0, 0])), _, rfl, rfl, by decide +kernel⟩,
    ⟨({ wit with crown.slots := [(15, { CrownSlot.reset with state := 1, unit := 1, stepUs := 50000 })], keeper.windows := [(0, { Window.reset with running := true, regions := [(0, { Region.reset with present := true, size := 131072 }), (1, { Region.reset with present := true, size := 131072 })] })] }), (ask 1 (bs [15, 0, 1, 0])), (bs [15, 0, 1, 0]), _, rfl, by decide +kernel⟩,
    ⟨({ wit with crown.slots := [(15, { CrownSlot.reset with state := 2, unit := 1, stepUs := 50000, decl.types := [0] })], keeper.hostFns := [(crownKey 15 1, { HostFn.reset with host := true, got := false, tk := 6000000000, d := 100, period := 1000 })] }), (ask 1 (bs [0, 0, 0, 0, 15, 0, 0, 0, 0xF0, 0x03, 0, 0, 0, 0, 0, 0])), (bs [0, 0, 0, 0, 15, 0, 0, 0, 0xF0, 0x03, 0, 0, 0, 0, 0, 0]), _, _, rfl, rfl, by decide +kernel⟩⟩

theorem test_witness_ControlEngineRowsComplete :
    (∃ (s : State) (b : State) (a : State) (slot : Nat) (tk : Nat) (c0 : LoopRec) (c : LoopRec), (tk = (s.settle slot).sampleAt slot c0) ∧ (b = ({ (s.settle slot).waitTo tk with time.ticks := tset 0 ((s.settle slot).waitTo tk).time.ticks (71 + 1000 * slot) (tk + 1) } : State).modLoop slot (fun x => { x with tk := tk, k := (tk - c0.phaseUs * 1000) / (c0.periodUs * 1000) })) ∧ (a = b.gateIdle (b.slotEnter slot) 0x20 0) ∧ (s.running 0x20 0 = true) ∧ (slot < 64) ∧ ((s.loop slot).cfg = some c0) ∧ ((a.loop slot).cfg = some c) ∧ ((a.loop slot).state < 2)) ∧
    (∃ (s : State) (b : State) (a : State) (d : State) (slot : Nat) (tk : Nat) (c0 : LoopRec) (c : LoopRec) (x : LoopSlot), (tk = (s.settle slot).sampleAt slot c0) ∧ (b = ({ (s.settle slot).waitTo tk with time.ticks := tset 0 ((s.settle slot).waitTo tk).time.ticks (71 + 1000 * slot) (tk + 1) } : State).modLoop slot (fun x => { x with tk := tk, k := (tk - c0.phaseUs * 1000) / (c0.periodUs * 1000) })) ∧ (a = b.gateIdle (b.slotEnter slot) 0x20 0) ∧ (d = (((a.latchRefs slot c).latch slot c).1.plausible slot c ((a.latchRefs slot c).latch slot c).2).modLoop slot (fun x => { x with stagePending := true, hit := false, corrected := false })) ∧ (x = d.loop slot) ∧ (s.running 0x20 0 = true) ∧ (slot < 64) ∧ ((s.loop slot).cfg = some c0) ∧ ((a.loop slot).cfg = some c) ∧ (2 ≤ (a.loop slot).state) ∧ (d.isHost (ctrlKey slot) = false) ∧ (x.state ≠ 4) ∧ (x.forced = false ∧ fLt fZero c.gRun = true ∧ fLe x.d2 (fMul c.gRun c.gRun) = true)) ∧
    (∃ (s : State) (b : State) (a : State) (d : State) (slot : Nat) (tk : Nat) (c0 : LoopRec) (c : LoopRec) (x : LoopSlot), (tk = (s.settle slot).sampleAt slot c0) ∧ (b = ({ (s.settle slot).waitTo tk with time.ticks := tset 0 ((s.settle slot).waitTo tk).time.ticks (71 + 1000 * slot) (tk + 1) } : State).modLoop slot (fun x => { x with tk := tk, k := (tk - c0.phaseUs * 1000) / (c0.periodUs * 1000) })) ∧ (a = b.gateIdle (b.slotEnter slot) 0x20 0) ∧ (d = (((a.latchRefs slot c).latch slot c).1.plausible slot c ((a.latchRefs slot c).latch slot c).2).modLoop slot (fun x => { x with stagePending := true, hit := false, corrected := false })) ∧ (x = d.loop slot) ∧ (s.running 0x20 0 = true) ∧ (slot < 64) ∧ ((s.loop slot).cfg = some c0) ∧ ((a.loop slot).cfg = some c) ∧ (2 ≤ (a.loop slot).state) ∧ (d.isHost (ctrlKey slot) = false) ∧ (x.state ≠ 4) ∧ (x.forced = true ∨ fLt fZero c.gRun = false ∨ fLe x.d2 (fMul c.gRun c.gRun) = false)) ∧
    (∃ (s : State) (b : State) (a : State) (d : State) (slot : Nat) (tk : Nat) (c0 : LoopRec) (c : LoopRec), (tk = (s.settle slot).sampleAt slot c0) ∧ (b = ({ (s.settle slot).waitTo tk with time.ticks := tset 0 ((s.settle slot).waitTo tk).time.ticks (71 + 1000 * slot) (tk + 1) } : State).modLoop slot (fun x => { x with tk := tk, k := (tk - c0.phaseUs * 1000) / (c0.periodUs * 1000) })) ∧ (a = b.gateIdle (b.slotEnter slot) 0x20 0) ∧ (d = (((a.latchRefs slot c).latch slot c).1.plausible slot c ((a.latchRefs slot c).latch slot c).2).modLoop slot (fun x => { x with stagePending := true, hit := false, corrected := false })) ∧ (s.running 0x20 0 = true) ∧ (slot < 64) ∧ ((s.loop slot).cfg = some c0) ∧ ((a.loop slot).cfg = some c) ∧ (2 ≤ (a.loop slot).state) ∧ (d.isHost (ctrlKey slot) = false) ∧ ((d.loop slot).state = 4)) ∧
    (∃ (s : State) (a : State) (slot : Nat) (delay : Nat) (rel : Nat) (c : LoopRec) (x : LoopSlot) (xhat : List F32), (x = s.loop slot) ∧ (rel = max (x.tk + 12) s.ctrl.laneFree + 4 * c.workM + delay) ∧ (xhat = c.correct x.xpred x.e) ∧ (a = ((({ s with ctrl.laneFree := rel } : State).modLoop slot (fun x => { x with xhat := xhat, hit := false, corrected := true })).doRelease slot c (c.control xhat).1 (c.control xhat).2 rel)) ∧ (s.running 0x20 0 = true) ∧ (x.cfg = some c) ∧ (x.missPending = true) ∧ (s.lanePick = some slot) ∧ (badNode xhat 0 = none) ∧ (badNode (c.control xhat).1 0x10 = none)) ∧
    (∃ (s : State) (a : State) (b : State) (slot : Nat) (done : Nat) (c : LoopRec) (x : LoopSlot) (xhat : List F32) (ua : List F32) (xp : List F32) (manual : Bool) (hold : Bool), (x = s.loop slot) ∧ (done = max x.relAt s.ctrl.laneFree + 4 * (c.workQ + (if x.corrected then 0 else c.workC))) ∧ (xhat = (if x.corrected then x.xhat else c.correct x.xpred x.e)) ∧ (a = (({ s with ctrl.laneFree := done } : State).waitTo done).modLoop slot (fun x => { x with xhat := xhat, stagePending := false, corrected := true })) ∧ (manual = ((x.state == 4 && decide (c.safeAct ≥ 2)) || (a.loopHost slot && (a.hostFn (ctrlKey slot)).inSafe && c.hostSafe == 2))) ∧ (ua = a.applied c (if x.released && !manual then some (a.loop slot).u else none)) ∧ (b = (a.modLoop slot (fun x => { x with ua := ua })).stepRefs slot c) ∧ (hold = (bit c.flags 0 && ((b.loop slot).uClamped || c.bindList.any (fun e => a.actOverridden e.2.kind e.2.target)))) ∧ (xp = (List.range c.n).map (fun i => if hold && c.imask.testBit i then vAt xhat i else vAt (c.predict xhat ua (b.loop slot).reff) i)) ∧ (s.running 0x20 0 = true) ∧ (x.cfg = some c) ∧ (x.missPending = false) ∧ (x.stagePending = true) ∧ ((s.laneItem slot).isSome = true) ∧ (s.lanePick = some slot) ∧ (badStaged xhat (c.control xp).1 (c.outputOf xp) = none)) ∧
    (∃ (s : State) (slot : Nat) (c : LoopRec) (u : List F32), (s.running 0x20 0 = true) ∧ ((s.loop slot).cfg = some c) ∧ ((s.loop slot).hostU = some u) ∧ ((s.loop slot).state ≠ 4) ∧ (s.loopHost slot = true)) ∧
    (∃ (s : State) (buf : Nat) (d : Nat) (op : Op) (t : Trace), (t = s.trace buf) ∧ (s.running 0x20 0 = true) ∧ (t.read = some (op, d))) ∧
    (∃ (s : State) (a : State) (r : Req) (c : LoopRec), (a = ((s.offered verbCtrlU r).hostResult (ctrlKey r.inst)).1) ∧ (s.serves verbCtrlU r = true) ∧ ((s.loop r.inst).cfg = some c) ∧ ((s.hostFn (ctrlKey r.inst)).host = true) ∧ ((s.hostFn (ctrlKey r.inst)).owner = r.win) ∧ (u32 r.payload 0 ≤ (s.hostFn (ctrlKey r.inst)).k) ∧ ((f32s r.payload 4 4).all fFinite = true) ∧ ((s.offered verbCtrlU r).prevInTime (ctrlKey r.inst) (u32 r.payload 0) = false) ∧ ((s.offered verbCtrlU r).hostInTime (ctrlKey r.inst) (u32 r.payload 0) = true) ∧ (((s.offered verbCtrlU r).hostResult (ctrlKey r.inst)).2 = true) ∧ ((a.loop r.inst).state = 2 ∨ (a.loop r.inst).state = 3)) ∧
    (∃ (s : State) (r : Req), (s.serves verbCtrlHostbuf r = true) ∧ ((List.range 64).any (fun n => s.isHost (ctrlKey n) || (s.hostFn (ctrlKey n)).pending == some true) = false) ∧ ((s.offered verbCtrlHostbuf r).regionCheck r.win (u8 r.payload 0) 4096 = none)) ∧
    (∃ (s : State) (r : Req) (slots : List Nat) (set : List (Nat × LoopRec)), (slots = (List.range 64).filter (u64 r.payload 8).testBit) ∧ (set = (List.range 64).filterMap (fun n => (((List.range 64).filterMap (fun n => if slots.contains n then none else (((s.loop n).pend.orElse fun _ => (s.loop n).cfg)).map (fun c => (n, c)))) ++ []).find? (fun e => e.1 == n))) ∧ (s.serves verbCtrlLoad r = true) ∧ (u8 r.payload 1 = 2) ∧ (u8 r.payload 0 ≤ 63) ∧ (slice r.payload 2 6 = zeros 6) ∧ (u64 r.payload 8 ≠ 0) ∧ (slots.find? (fun n => !s.right r.win 0x20 n true) = none) ∧ (slots.find? (fun n => decide ((s.loop n).state ≥ 2)) = none)) ∧
    (∃ (s : State) (r : Req) (c : LoopRec), (s.serves verbCtrlEnable r = true) ∧ ((s.loop r.inst).cfg = some c) ∧ ((s.loop r.inst).state ≠ 2) ∧ ((s.loop r.inst).state ≠ 3) ∧ (bit (u8 r.payload 0) 0 = false ∨ (s.loop r.inst).state ≠ 1) ∧ (c.bindList.any (fun e => (e.2.kind == 1 && (s.valve' e.2.target).mode != 1) || (e.2.kind == 2 && (s.out e.2.target).cfg.mode != 2)) = false)) ∧
    (∃ (s : State) (r : Req), (s.serves verbCtrlDisable r = true) ∧ ((s.loop r.inst).state ≠ 0)) ∧
    (∃ (s : State) (r : Req) (c : LoopRec), (s.serves verbCtrlSetpoint r = true) ∧ ((s.loop r.inst).cfg = some c) ∧ (u8 r.payload 0 < c.r) ∧ ((c.refs.getD (u8 r.payload 0) LoopRef.reset).src = 0xFFFF) ∧ (u8 r.payload 1 ≤ 1) ∧ (fFinite (f32 r.payload 4) = true)) ∧
    (∃ (s : State) (r : Req), (s.serves verbCtrlStatus r = true)) ∧
    (∃ (s : State) (r : Req) (b : Nat), (s.serves verbCtrlTrace r = true) ∧ (b = u8 r.payload 0) ∧ (b ≤ 7) ∧ (u8 r.payload 1 ≤ 63) ∧ ((s.loop (u8 r.payload 1)).cfg.isNone = false) ∧ (u8 r.payload 2 ≤ 0x1F) ∧ (u8 r.payload 3 ≠ 0) ∧ (u8 r.payload 4 ≤ 4) ∧ (u16 r.payload 6 ≤ 4095) ∧ ((s.trace b).armed = false ∨ (s.trace b).trigger ≠ 4 ∨ (s.trace b).fired = true)) ∧
    (∃ (s : State) (r : Req), (s.serves verbCtrlTraceRead r = true) ∧ (u8 r.payload 0 ≤ 7) ∧ ((s.trace (u8 r.payload 0)).armed = false) ∧ ((s.trace (u8 r.payload 0)).read = none) ∧ ((s.offered verbCtrlTraceRead r).regionCheck r.win (u8 r.payload 1) (8 * (s.trace (u8 r.payload 0)).entries.length) = none)) :=
  ⟨⟨({ wit with ctrl.slots := [(63, { LoopSlot.reset with cfg := some LoopRec.reset, state := 1 })] }), _, _, (63), _, (LoopRec.reset), (LoopRec.reset), rfl, rfl, rfl, by decide +kernel⟩,
    ⟨({ wit with ctrl.slots := [(63, { LoopSlot.reset with cfg := some { LoopRec.reset with gRun := fOne }, state := 3 })] }), _, _, _, (63), _, ({ LoopRec.reset with gRun := fOne }), ({ LoopRec.reset with gRun := fOne }), _, rfl, rfl, rfl, rfl, rfl, by decide +kernel⟩,
    ⟨({ wit with ctrl.slots := [(63, { LoopSlot.reset with cfg := some LoopRec.reset, state := 3 })] }), _, _, _, (63), _, (LoopRec.reset), (LoopRec.reset), _, rfl, rfl, rfl, rfl, rfl, by decide +kernel⟩,
    ⟨({ wit with ctrl.slots := [(63, { LoopSlot.reset with cfg := some LoopRec.reset, state := 4 })] }), _, _, _, (63), _, (LoopRec.reset), (LoopRec.reset), rfl, rfl, rfl, rfl, by decide +kernel⟩,
    ⟨({ wit with ctrl.slots := [(63, { LoopSlot.reset with cfg := some LoopRec.reset, state := 3, missPending := true })] }), _, (63), (0), _, (LoopRec.reset), _, _, rfl, rfl, rfl, rfl, by decide +kernel⟩,
    ⟨({ wit with ctrl.slots := [(63, { LoopSlot.reset with cfg := some LoopRec.reset, stagePending := true })] }), _, _, (63), _, (LoopRec.reset), _, _, _, _, _, _, rfl, rfl, rfl, rfl, rfl, rfl, rfl, rfl, rfl, by decide +kernel⟩,
    ⟨({ wit with ctrl.slots := [(0, { LoopSlot.reset with cfg := some LoopRec.reset, state := 3, hostU := some [] })], keeper.hostFns := [(ctrlKey 0, { HostFn.reset with host := true })] }), (0), (LoopRec.reset), ([]), by decide +kernel⟩,
    ⟨({ wit with ctrl.traces := [(1, { Trace.reset with read := some (Op.reset, 0) })] }), (1), (0), (Op.reset), _, rfl, by decide +kernel⟩,
    ⟨({ wit with ctrl.slots := [(0, { LoopSlot.reset with cfg := some { LoopRec.reset with flags := 2 }, state := 3 })], keeper.hostFns := [(ctrlKey 0, { HostFn.reset with host := true, got := false, tk := 6000000000, d := 100 })] }), _, (ask 0 (zeros 20)), ({ LoopRec.reset with flags := 2 }), rfl, by decide +kernel⟩,
    ⟨({ wit with keeper.windows := [(0, { Window.reset with running := true, regions := [(0, { Region.reset with present := true, size := 4096 })] })] }), (ask 0 (bs [0, 0, 0, 0])), by decide +kernel⟩,
    ⟨({ wit with ctrl.slots := [(0, { LoopSlot.reset with cfg := some LoopRec.reset, state := 1 })] }), (ask 0 (bs [0, 2, 0, 0, 0, 0, 0, 0, 1, 0, 0, 0, 0, 0, 0, 0])), _, _, rfl, rfl, by decide +kernel⟩,
    ⟨({ wit with ctrl.slots := [(0, { LoopSlot.reset with cfg := some LoopRec.reset, state := 1 })] }), (ask 0 (zeros 4)), (LoopRec.reset), by decide +kernel⟩,
    ⟨({ wit with ctrl.slots := [(0, { LoopSlot.reset with cfg := some LoopRec.reset, state := 3 })] }), (ask 0 []), by decide +kernel⟩,
    ⟨({ wit with ctrl.slots := [(0, { LoopSlot.reset with cfg := some { LoopRec.reset with r := 1, refs := [{ LoopRef.reset with src := 0xFFFF }] }, state := 3 })] }), (ask 0 (zeros 8)), ({ LoopRec.reset with r := 1, refs := [{ LoopRef.reset with src := 0xFFFF }] }), by decide +kernel⟩,
    ⟨(wit), (ask 63 []), by decide +kernel⟩,
    ⟨({ wit with ctrl.slots := [(0, { LoopSlot.reset with cfg := some LoopRec.reset, state := 3 })] }), (ask 0 (bs [7, 0, 0x1F, 1, 4, 0, 0xFF, 0x0F])), (7), by decide +kernel⟩,
    ⟨({ wit with keeper.windows := [(0, { Window.reset with running := true, regions := [(0, { Region.reset with present := true, size := 4096 })] })] }), (ask 0 (bs [7, 0, 0, 0])), by decide +kernel⟩⟩

theorem test_witness_EthernetRowsComplete :
    (∃ (s : State) (port : Nat), (s.operating = true) ∧ (port ≤ 6) ∧ ((s.ethPort port).enable = true) ∧ ((s.ethPort port).asleep = false) ∧ ((s.ethPort port).link = false)) ∧
    (∃ (s : State) (port : Nat), (s.operating = true) ∧ ((s.ethPort port).link = true)) ∧
    (∃ (s : State) (f : EthRx), (s.operating = true) ∧ ((s.ethPort f.port).link = true) ∧ (f.frame.length ≤ 1522)) ∧
    (∃ (s : State) (port : Nat) (t0 : Nat) (l : List (Nat × Nat)), (s.operating = true) ∧ ((s.ethPort port).pendGates = some (l, t0)) ∧ ((s.ethPort port).gates = [])) ∧
    (∃ (s : State) (port : Nat), (s.operating = true) ∧ ((s.ethPort port).pendGates = none) ∧ ((s.ethPort port).gates.isEmpty = false)) ∧
    (∃ (s : State) (a : State) (stream : Nat) (p : List Byte), (s.modLidar stream (fun x => { x with frags := tset [] x.frags (u16 p 4) (p.drop 8) }) = a) ∧ (s.ethRuns = true) ∧ ((s.lidar stream).on = true) ∧ ((s.ethPort (s.lidar stream).port).link = true) ∧ (8 ≤ p.length) ∧ (p.length ≤ 1472) ∧ (u16 p 4 < u16 p 6) ∧ ((s.lidar stream).seq = some (u32 p 0)) ∧ ((s.lidar stream).want = u16 p 6) ∧ (s.hw ≤ (s.lidar stream).firstAt + 50000000)) ∧
    (∃ (s : State) (stream : Nat), (s.ethRuns = true) ∧ ((s.lidar stream).on = true) ∧ ((s.lidar stream).want ≠ 0)) ∧
    (∃ (s : State) (p : List Byte), (s.ethRuns = true) ∧ (s.eth.sig.udp ≠ 0) ∧ (p.length = 8) ∧ (s.eth.sig.first ≤ u16 p 0) ∧ (u16 p 0 ≤ s.eth.sig.last) ∧ (fFinite (f32 p 4) = true)) ∧
    (∃ (s : State) (id : Nat), (s.ethRuns = true) ∧ (s.eth.sig.udp ≠ 0) ∧ (s.eth.sig.timeoutMs ≠ 0) ∧ (s.eth.sig.first ≤ id) ∧ (id ≤ s.eth.sig.last)) ∧
    (∃ (s : State) (a : State) (w : Nat) (prod : Nat), (s.store w ((s.ring w).txDesc, 0, b32 prod) = a) ∧ (s.ethRuns = true) ∧ ((s.ring w).on = true) ∧ ((s.win w).running = true) ∧ (prod % 4294967296 = (s.ring w).txCons) ∧ ((s.ring w).txCons < 4294967296)) ∧
    (∃ (s : State) (r : Req) (x : EthPort), (x = s.ethPort r.inst) ∧ (s.serves verbEthStatus r = true)) ∧
    (∃ (s : State) (r : Req) (d : List Byte), (s.serves verbEthConfig r = true) ∧ (d = r.payload) ∧ (u8 d 0 = 1) ∧ (u8 d 1 ≤ 7) ∧ ((s.ethPort r.inst).gates = []) ∧ ((s.ethPort r.inst).pendGates = none) ∧ (bit (u8 d 1) 1 = true)) ∧
    (∃ (s : State) (r : Req), (s.serves verbEthGates r = true) ∧ (u8 r.payload 0 ≤ 63) ∧ (u8 r.payload 1 = 0)) ∧
    (∃ (s : State) (r : Req) (l : List (Nat × Nat)) (a : State), ((List.range (u8 r.payload 1)).map (fun i => (u8 ((s.offered verbEthGates r).regionRead r.win (u8 r.payload 0) 0 (8 * u8 r.payload 1)) (8 * i), u32 ((s.offered verbEthGates r).regionRead r.win (u8 r.payload 0) 0 (8 * u8 r.payload 1)) (8 * i + 4))) = l) ∧ ((s.offered verbEthGates r).regionDone r.win (u8 r.payload 0) r.tag (8 * u8 r.payload 1) false = a) ∧ (s.serves verbEthGates r = true) ∧ (u8 r.payload 0 ≤ 63) ∧ (u8 r.payload 1 ≠ 0) ∧ (u8 r.payload 1 ≤ 64) ∧ ((s.offered verbEthGates r).regionCheck r.win (u8 r.payload 0) (8 * u8 r.payload 1) = none) ∧ (l.any (fun e => decide (e.2 < 1000 ∨ e.2 > 100000000)) = false) ∧ (l.all (fun e => !e.1.testBit 7) = false) ∧ ((a.ethPort r.inst).gatePhase < gateSum l)) ∧
    (∃ (s : State) (r : Req) (p : List Byte), (s.serves verbEthLidar r = true) ∧ (p = r.payload) ∧ (u8 p 0 ≤ 3) ∧ (u8 p 1 = 1) ∧ (u16 p 4 ≤ 4095) ∧ ((s.offered verbEthLidar r).listenerTaken (u16 p 2) (u16 p 4) (some (u8 p 0)) false = false)) ∧
    (∃ (s : State) (r : Req), (s.serves verbEthSigport r = true) ∧ (u16 r.payload 0 = 0)) ∧
    (∃ (s : State) (r : Req) (p : List Byte), (s.serves verbEthSigport r = true) ∧ (p = r.payload) ∧ (u16 p 0 ≠ 0) ∧ (u16 p 2 ≤ 4095) ∧ (0x400 ≤ u16 p 4) ∧ (u16 p 6 ≤ 0x7FF) ∧ (u16 p 4 ≤ u16 p 6) ∧ ((heads (s.offered verbEthSigport r).panNext).any (fun e => eType e.2 == 1 && eForm e.2 == 1 && decide (u16 p 4 ≤ u16 e.2 16 ∧ u16 e.2 16 ≤ u16 p 6)) = false) ∧ ((s.offered verbEthSigport r).listenerTaken (u16 p 0) (u16 p 2) none true = false)) ∧
    (∃ (s : State) (r : Req), (s.serves verbEthHostring r = true) ∧ (u8 r.payload 0 ≤ 63) ∧ (u8 r.payload 1 ≤ 63) ∧ (u8 r.payload 0 ≠ u8 r.payload 1) ∧ ((s.offered verbEthHostring r).regionCheck r.win (u8 r.payload 0) 2112 = none) ∧ ((s.offered verbEthHostring r).regionCheck r.win (u8 r.payload 1) 2112 = none)) :=
  ⟨⟨({ wit with eth.ports := [(6, { EthPort.reset with enable := true })] }), (6), by decide +kernel⟩,
    ⟨({ wit with eth.ports := [(6, { EthPort.reset with enable := true, link := true })] }), (6), by decide +kernel⟩,
    ⟨({ wit with eth.ports := [(6, { EthPort.reset with enable := true, link := true })] }), ({ port := 6, vlan := 1 }), by decide +kernel⟩,
    ⟨({ wit with eth.ports := [(6, { EthPort.reset with enable := true, pendGates := some ([(128, 1000)], 7) })] }), (6), (7), ([(128, 1000)]), by decide +kernel⟩,
    ⟨({ wit with eth.ports := [(6, { EthPort.reset with enable := true, gates := [(128, 1000)] })] }), (6), by decide +kernel⟩,
    ⟨({ wit with eth.ports := [(4, { EthPort.reset with enable := true, link := true })], eth.lidar := [(3, { EthLidar.reset with on := true, port := 4, seq := some 0, want := 2, firstAt := 5000000000 })] }), _, (3), (bs [0, 0, 0, 0, 0, 0, 2, 0]), rfl, by decide +kernel⟩,
    ⟨({ wit with eth.lidar := [(3, { EthLidar.reset with on := true, port := 4, seq := some 0, want := 2 })] }), (3), by decide +kernel⟩,
    ⟨({ wit with eth.sig := { EthSig.reset with udp := 1, first := 0x400, last := 0x400 } }), (bs [0, 4, 0, 0, 0, 0, 0, 0]), by decide +kernel⟩,
    ⟨({ wit with eth.sig := { EthSig.reset with udp := 1, first := 0x400, last := 0x400, timeoutMs := 10 } }), (0x400), by decide +kernel⟩,
    ⟨({ wit with eth.rings := [(0x10, { EthRing.reset with on := true })] }), _, (0x10), (0), rfl, by decide +kernel⟩,
    ⟨(wit), (ask 6 []), _, rfl, by decide +kernel⟩,
    ⟨(wit), (ask 6 (bs [1, 7, 0, 0, 0, 0, 0, 0, 0, 0, 0, 0])), (bs [1, 7, 0, 0, 0, 0, 0, 0, 0, 0, 0, 0]), by decide +kernel⟩,
    ⟨(wit), (ask 6 (zeros 4)), by decide +kernel⟩,
    ⟨({ wit with keeper.windows := [(0, { Window.reset with running := true, regions := [(0, { Region.reset with present := true, size := 4096, bytes := [(0, 128), (5, 16)] })] })] }), (ask 6 (bs [0, 1, 0, 0])), _, _, rfl, rfl, by decide +kernel⟩,
    ⟨(wit), (ask 5 (bs [3, 1, 1, 0, 0xFF, 0x0F, 0, 0])), (bs [3, 1, 1, 0, 0xFF, 0x0F, 0, 0]), by decide +kernel⟩,
    ⟨(wit), (ask 0 (zeros 12)), by decide +kernel⟩,
    ⟨(wit), (ask 0 (bs [1, 0, 0xFF, 0x0F, 0, 4, 0xFF, 7, 0, 0, 0, 0])), (bs [1, 0, 0xFF, 0x0F, 0, 4, 0xFF, 7, 0, 0, 0, 0]), by decide +kernel⟩,
    ⟨({ wit with keeper.windows := [(0, { Window.reset with running := true, regions := [(0, { Region.reset with present := true, size := 4096 }), (1, { Region.reset with present := true, size := 4096 })] })] }), (ask 0 (bs [0, 1, 0, 0])), by decide +kernel⟩⟩

theorem test_witness_FanRowsComplete :
    (∃ (s : State) (a : State) (b : State) (n : Nat) (cur : F32), ((s.boundary (241 + 1000 * n) (1000000000 / (s.fanCfg n).hz) 0).modFan n (fun f => { f with current := cur }) = a) ∧ ((a.fanDecide n).fanSignal n = b) ∧ (s.fanRuns n = true) ∧ (((s.boundary (241 + 1000 * n) (1000000000 / (s.fanCfg n).hz) 0).fan n).pend = none) ∧ (a.fanActs = true) ∧ (fEq (b.fan n).duty fZero = true)) ∧
    (∃ (s : State) (n : Nat), (s.fanRuns n = true) ∧ ((s.fanCfg n).tach = true) ∧ (s.fanPhaseOn n = true) ∧ (s.hw ≥ (s.fan n).onAt + 1000000) ∧ ((s.fan n).edgeAt = none)) ∧
    (∃ (s : State) (n : Nat) (t0 : Nat), (s.fanRuns n = true) ∧ ((s.fanCfg n).tach = true) ∧ (s.fanPhaseOn n = true) ∧ (s.hw ≥ (s.fan n).onAt + 1000000) ∧ ((s.fan n).edgeAt = some t0) ∧ (t0 < s.hw)) ∧
    (∃ (s : State) (n : Nat), (s.fanRuns n = true) ∧ ((s.fanCfg n).tach = true) ∧ ((s.fan n).phase = 0) ∧ ((s.fan n).stretch = false) ∧ ((s.fan n).onLen ≠ 0) ∧ (s.fanPhaseOn n = true) ∧ (s.hw ≥ (s.fan n).strAt + (s.fanCfg n).strMs * 1000000)) ∧
    (∃ (s : State) (n : Nat), (s.fanRuns n = true) ∧ ((s.fan n).stretch = true)) ∧
    (∃ (s : State) (n : Nat), (s.fanChecks n = true) ∧ ((s.fan n).phase = 1)) ∧
    (∃ (s : State) (n : Nat), (s.fanChecks n = true) ∧ ((s.fan n).phase = 2)) ∧
    (∃ (s : State) (n : Nat) (cur : Nat), (s.fanChecks n = true) ∧ ((s.fan n).phase = 0) ∧ ((s.fan n).tachLost = false) ∧ (fEq (s.fan n).duty fZero = false) ∧ (cur > (s.fanCfg n).runMax)) ∧
    (∃ (s : State) (n : Nat) (cur : Nat), (s.fanChecks n = true) ∧ ((s.fan n).phase = 0) ∧ ((s.fan n).tachLost = false) ∧ (fEq (s.fan n).duty fZero = false) ∧ (cur ≤ (s.fanCfg n).runMax) ∧ ((s.fanCfg n).runMin ≤ cur)) ∧
    (∃ (s : State) (n : Nat), (s.fanRuns n = true)) ∧
    (∃ (s : State) (n : Nat) (w : Nat), (s.fanRuns n = true) ∧ ((s.fan n).cmdWin = some w) ∧ ((s.fan n).mode = 2)) ∧
    (∃ (s : State) (r : Req) (f : FanCh), (f = s.fan r.inst) ∧ (s.serves verbFanStatus r = true)) ∧
    (∃ (s : State) (r : Req), (s.serves verbFanConfig r = true) ∧ (r.inst < 8) ∧ (u8 r.payload 0 = 0xFF)) ∧
    (∃ (s : State) (r : Req) (p : List Byte), (s.serves verbFanConfig r = true) ∧ (p = r.payload) ∧ (r.inst < 8) ∧ (u8 p 0 ≠ 0xFF) ∧ (fanCfgOk p = true) ∧ ((s.out (u8 p 1)).cfg.tagged = false) ∧ (u16 p 10 = 0xFFFF) ∧ ((s.offered verbFanConfig r).fanFree r.inst (u8 p 1) = true) ∧ ((s.fan r.inst).bound = false)) ∧
    (∃ (s : State) (r : Req), (s.serves verbFanTable r = true) ∧ (r.inst < 8) ∧ (u8 r.payload 0 = (fanPoints r.payload).length) ∧ (pointsOk (fanPoints r.payload) = true)) ∧
    (∃ (s : State) (r : Req), (s.serves verbFanSet r = true) ∧ (isDuty (f32 r.payload 0) = true) ∧ (isLid r.inst = false) ∧ ((s.fan r.inst).bound = true) ∧ ((s.fan r.inst).pend = none) ∧ ((s.fan r.inst).mode = 2)) ∧
    (∃ (s : State) (r : Req), (s.serves verbFanSet r = true) ∧ (isDuty (f32 r.payload 0) = true) ∧ (isLid r.inst = true)) ∧
    (∃ (s : State) (r : Req), (s.serves verbFanClear r = true) ∧ ((s.fan r.inst).phase = 3)) ∧
    (∃ (s : State) (r : Req), (s.serves verbFanResult r = true) ∧ ((s.hostFn (fanKey r.inst)).host = true) ∧ ((s.hostFn (fanKey r.inst)).owner = r.win) ∧ (isDuty (f32 r.payload 4) = true) ∧ ((((s.offered verbFanResult r).fanSync r.inst).hostFn (fanKey r.inst)).k = u32 r.payload 0) ∧ (((s.offered verbFanResult r).fanSync r.inst).prevInTime (fanKey r.inst) (u32 r.payload 0) = false) ∧ (((s.offered verbFanResult r).fanSync r.inst).hostInTime (fanKey r.inst) (u32 r.payload 0) = true) ∧ ((((s.offered verbFanResult r).fanSync r.inst).hostResult (fanKey r.inst)).2 = true)) :=
  ⟨⟨({ wit with fans := [(7, { FanCh.reset with bound := true })] }), _, _, (7), (fZero), rfl, rfl, by decide +kernel⟩,
    ⟨({ wit with fans := [(7, { FanCh.reset with bound := true, tach := true, onPhase := true })] }), (7), by decide +kernel⟩,
    ⟨({ wit with fans := [(7, { FanCh.reset with bound := true, tach := true, onPhase := true, edgeAt := some 7 })] }), (7), (7), by decide +kernel⟩,
    ⟨({ wit with fans := [(7, { FanCh.reset with bound := true, tach := true, onPhase := true, onLen := 7000000000 })] }), (7), by decide +kernel⟩,
    ⟨({ wit with fans := [(7, { FanCh.reset with bound := true, stretch := true })] }), (7), by decide +kernel⟩,
    ⟨({ wit with fans := [(7, { FanCh.reset with bound := true, tach := true, phase := 1 })] }), (7), by decide +kernel⟩,
    ⟨({ wit with fans := [(7, { FanCh.reset with bound := true, tach := true, phase := 2 })] }), (7), by decide +kernel⟩,
    ⟨({ wit with fans := [(7, { FanCh.reset with bound := true, tach := true, duty := fOne })] }), (7), (1), by decide +kernel⟩,
    ⟨({ wit with fans := [(7, { FanCh.reset with bound := true, tach := true, duty := fOne })] }), (7), (0), by decide +kernel⟩,
    ⟨({ wit with fans := [(7, { FanCh.reset with bound := true })] }), (7), by decide +kernel⟩,
    ⟨({ wit with fans := [(7, { FanCh.reset with bound := true, mode := 2, cmdWin := some 16 })] }), (7), (16), by decide +kernel⟩,
    ⟨(wit), (ask 7 []), _, rfl, by decide +kernel⟩,
    ⟨(wit), (ask 7 (bs (0xFF :: List.replicate 23 0))), by decide +kernel⟩,
    ⟨({ wit with outs.ch := [(27, { OutCh.reset with cfg.mode := 1 })] }), (ask 7 (bs [0, 27, 0, 1, 20, 0, 100, 0, 5, 0, 0xFF, 0xFF, 2, 0, 0, 0, 1, 0, 0, 0, 0, 0, 0, 0])), (bs [0, 27, 0, 1, 20, 0, 100, 0, 5, 0, 0xFF, 0xFF, 2, 0, 0, 0, 1, 0, 0, 0, 0, 0, 0, 0]), by decide +kernel⟩,
    ⟨(wit), (ask 7 (bs ([2, 0, 0, 0] ++ List.replicate 8 0 ++ [0, 0, 0x80, 0x3F, 0, 0, 0, 0]))), by decide +kernel⟩,
    ⟨({ wit with fans := [(7, { FanCh.reset with bound := true, mode := 2 })] }), (ask 7 (zeros 4)), by decide +kernel⟩,
    ⟨(wit), (ask 9 (zeros 4)), by decide +kernel⟩,
    ⟨({ wit with fans := [(7, { FanCh.reset with bound := true, phase := 3 })] }), (ask 7 []), by decide +kernel⟩,
    ⟨({ wit with fans := [(7, { FanCh.reset with bound := true })], keeper.hostFns := [(fanKey 7, { HostFn.reset with host := true, got := false, tk := 5000000000, d := 100 })] }), (ask 7 (bs [0, 0, 0, 0, 0, 0, 0, 0])), by decide +kernel⟩⟩

theorem test_witness_PlateRowsComplete :
    (∃ (s : State) (a : State), (a = (if s.plate.frame = 0 then s.waitTo (s.plate.startAt + 10000000) else s)) ∧ (s.operating = true) ∧ (s.plate.running = true) ∧ (s.plate.busy = false) ∧ (s.plate.offAt = none)) ∧
    (∃ (s : State) (a : State) (last : Bool), (a = s.waitTo (s.plate.frameAt + waveTime (s.plate.wave.getD []) s.plate.band * 1000000)) ∧ (last = decide (s.plate.frame + 1 ≥ waveFrames (s.plate.wave.getD []) s.plate.band)) ∧ (s.operating = true) ∧ (s.plate.busy = true)) ∧
    (∃ (s : State), (s.operating = true) ∧ (s.plate.busy = true)) ∧
    (∃ (s : State) (rail : Nat) (mv : Int), (s.operating = true) ∧ (s.plate.running = true) ∧ (s.plate.railUp (s.hw - 1000000) rail = true) ∧ (s.plate.railUp s.hw rail = true) ∧ ((mv - railNominal s.plate rail).natAbs * 10 > (railNominal s.plate rail).natAbs)) ∧
    (∃ (s : State) (t0 : Nat), (s.plate.offAt = some t0) ∧ (s.operating = true) ∧ (s.plate.running = true)) ∧
    (∃ (s : State) (r : Req), (s.serves verbPlateStatus r = true)) ∧
    (∃ (s : State) (r : Req) (b : List Byte), (s.serves verbPlateConfig r = true) ∧ (b = r.payload) ∧ (s.plate.running = false) ∧ (8 ≤ u16 b 0) ∧ (u16 b 0 ≤ 512) ∧ (8 ≤ u16 b 2) ∧ (u16 b 2 ≤ 512) ∧ (u16 b 0 * u16 b 2 ≤ 131072) ∧ (u16 b 4 < 0x1000) ∧ (4 ≤ u8 b 6) ∧ (u8 b 6 ≤ 20) ∧ (100 ≤ u8 b 7) ∧ (u8 b 7 ≤ 150) ∧ (s.sigReadable r.win (u16 b 4) = true)) ∧
    (∃ (s : State) (r : Req) (q : List Byte), ((s.offered verbPlateWaveform r).regionRead r.win (u8 r.payload 0) 0 2112 = q) ∧ (s.serves verbPlateWaveform r = true) ∧ (s.plate.running = false) ∧ ((s.offered verbPlateWaveform r).regionCheck r.win (u8 r.payload 0) 2112 = none) ∧ (waveOk ((s.offered verbPlateWaveform r).regionDone r.win (u8 r.payload 0) r.tag 2112 false).plate q = true)) ∧
    (∃ (s : State) (o : State) (a : State) (r : Req) (q : List Byte) (b : Nat), (o = s.offered verbPlateUpdate r) ∧ (a = (o.drawNat.2.modPlate (fun p => { p with crack := false })).clearFault 0x5402 0x27 0) ∧ (s.serves verbPlateUpdate r = true) ∧ (o.regionCheck r.win (u8 r.payload 0) s.plate.bytes = none) ∧ (s.plate.running = false) ∧ (s.plate.wave = some q) ∧ (bit (a.sig a.plate.tempSig).flags 0 = true) ∧ (bit (a.sig a.plate.tempSig).flags 1 = false) ∧ (bandOf q (a.sig a.plate.tempSig).value = some b)) ∧
    (∃ (s : State) (r : Req) (b : List Byte), (s.serves verbPlatePark r = true) ∧ (b = r.payload) ∧ ((s.offered verbPlatePark r).regionCheck r.win (u8 b 0) s.plate.bytes = none) ∧ (u8 b 1 ≤ 4)) :=
  ⟨⟨({ wit with plate.op := some Op.reset, plate.frame := 1 }), _, rfl, by decide +kernel⟩,
    ⟨({ wit with plate.busy := true }), _, _, rfl, rfl, by decide +kernel⟩,
    ⟨({ wit with plate.busy := true }), by decide +kernel⟩,
    ⟨({ wit with plate.op := some Op.reset, plate.railOn := true }), (2), (0), by decide +kernel⟩,
    ⟨({ wit with plate.op := some Op.reset, plate.offAt := some 7 }), (7), by decide +kernel⟩,
    ⟨(wit), (ask 0 []), by decide +kernel⟩,
    ⟨(wit), (ask 0 (bs [0, 2, 0, 1, 0, 0, 20, 150, 0, 0, 0, 0])), (bs [0, 2, 0, 1, 0, 0, 20, 150, 0, 0, 0, 0]), by decide +kernel⟩,
    ⟨({ wit with keeper.windows := [(0, { Window.reset with running := true, regions := [(0, { Region.reset with present := true, size := 4096, bytes := (List.range 9).map (fun i => (i, BitVec.ofNat 8 (i + 1))) ++ (List.range 8).map (fun i => (16 + i, 64)) ++ (List.range 8).map (fun i => (24 + i, 250)) })] })] }), (ask 0 (zeros 4)), _, rfl, by decide +kernel⟩,
    ⟨({ wit with plate.wave := some (bs [0, 1, 2, 3, 4, 5, 6, 7, 8]), signals := [(0, { Signal.reset with flags := 1 })], keeper.windows := [(0, { Window.reset with running := true, regions := [(0, { Region.reset with present := true, size := 4096 })] })] }), _, _, (ask 0 (zeros 4)), (bs [0, 1, 2, 3, 4, 5, 6, 7, 8]), (0), rfl, rfl, by decide +kernel⟩,
    ⟨({ wit with keeper.windows := [(0, { Window.reset with running := true, regions := [(0, { Region.reset with present := true, size := 4096 })] })] }), (ask 0 (zeros 28)), (zeros 28), by decide +kernel⟩⟩

theorem test_witness_GnssEventRowsComplete :
    (∃ (s : State) (inst : Nat) (cur : Nat), (antFitted s.variant inst = true) ∧ (s.running 0x40 0 = true) ∧ ((s.ant inst).on = true) ∧ ((s.ant inst).openF = false) ∧ ((s.ant inst).shortF = false) ∧ (cur < 4)) ∧
    (∃ (s : State) (inst : Nat) (cur : Nat), (antFitted s.variant inst = true) ∧ (s.running 0x40 0 = true) ∧ ((s.ant inst).on = true) ∧ ((s.ant inst).openF = true) ∧ (cur ≥ 6)) ∧
    (∃ (s : State) (inst : Nat) (cur : Nat), (antFitted s.variant inst = true) ∧ (s.running 0x40 0 = true) ∧ ((s.ant inst).on = true) ∧ ((s.ant inst).shortF = false) ∧ (cur > 130)) ∧
    (∃ (s : State) (inst : Nat) (cur : Nat), (antFitted s.variant inst = true) ∧ (s.running 0x40 0 = true) ∧ ((s.ant inst).on = true) ∧ ((s.ant inst).shortF = true) ∧ (cur > 100)) ∧
    (∃ (s : State) (inst : Nat) (cur : Nat), (antFitted s.variant inst = true) ∧ (s.running 0x40 0 = true) ∧ ((s.ant inst).on = true) ∧ ((s.ant inst).shortF = true) ∧ (cur ≤ 100)) ∧
    (∃ (s : State) (p : List Byte) (n : Nat) (crc : Nat), (p = rtcmSync s.gnss.rtcm) ∧ (n = (u8 p 1 % 4) * 256 + u8 p 2 + 6) ∧ (crc = u8 p (n - 3) * 65536 + u8 p (n - 2) * 256 + u8 p (n - 1)) ∧ (s.running 0x40 0 = true) ∧ (n ≤ p.length) ∧ (p ≠ [])) ∧
    (∃ (s : State) (b : State) (c : State) (a : State) (ev : NavEpoch), (s.boundary 105 50000000 ((-s.time.gpsOfs) % 50000000).toNat = b) ∧ (({ b.modGnss (fun g => { g with epochK := (g.epochK + 1) % 2 ^ 32, dr := b.reckoned, att := ev.att, origin := if g.pendOrigin.isSome then g.pendOrigin else g.origin, pendOrigin := none, line := match g.pendLine with | some l => l | none => g.line, pendLine := none }) with imu := { b.imu with recent := [] } } : State).modAnt 1 (fun z => { z with tracked := ((b.tracked ev.obs).filter (fun o => u8 o.bytes 0 == 1)).length }) = c) ∧ ((if antFitted c.variant 2 then c.modAnt 2 (fun z => { z with tracked := ((b.tracked ev.obs).filter (fun o => u8 o.bytes 0 == 2)).length }) else c).corrEpoch.epochMarks { ev with obs := b.tracked ev.obs } = a) ∧ (s.running 0x40 0 = true) ∧ (s.trunkOn = true)) ∧
    (∃ (s : State) (a : State), (a = { s with time.parkPeriods := (s.time.parkPeriods / 32768 + 1) * 32768 }) ∧ (s.power.state = .guard) ∧ (s.gnss.guardEnable = true) ∧ (s.power.lossAt = none)) ∧
    (∃ (s : State) (a : State) (b : State) (c : State) (d : State) (lat : F64) (lon : F64) (height : F64) (gps : Int) (mm : Nat) (n : Nat), (a = { s with time.parkPeriods := (s.time.parkPeriods / 32768 + 1) * 32768 }) ∧ (b = a.modGnss (fun g => { g with guardBursts := (g.guardBursts + 1) % 2 ^ 32, guardSupply := some (a.time.parkPeriods - 656, a.time.parkPeriods + 6554) })) ∧ (c = (let t : State := if b.time.ofsValid then { b with time.stopped := max b.time.stopped (gps - b.time.gpsOfs - (b.time.parkPeriods * 1000000000 / 32768 : Nat)).toNat } else b; { t with time.anchorPeriods := t.time.parkPeriods })) ∧ (mm = Config.horizontalMm (c.gnss.guardPos.getD (lat, lon, height)) (lat, lon, height)) ∧ (n = (if c.gnss.guardPos.isSome && c.gnss.guardRadius != 0 && decide (mm > 1000 * c.gnss.guardRadius) then c.gnss.guardOut + 1 else 0)) ∧ (d = c.modGnss (fun g => { g with guardFix := some (lat, lon, height), guardNoFix := 0, guardOut := n, guardPos := some (g.guardPos.getD (lat, lon, height)) })) ∧ (s.power.state = .guard) ∧ (s.gnss.guardEnable = true) ∧ (s.power.lossAt = none)) ∧
    (∃ (s : State), (s.power.state = .guard) ∧ (s.gnss.guardReport ≠ 0) ∧ (s.power.lossAt = none)) :=
  ⟨⟨({ wit with gnss.ants := [(1, { Antenna.reset with on := true })] }), (1), (3), by decide +kernel⟩,
    ⟨({ wit with gnss.ants := [(1, { Antenna.reset with on := true, openF := true })] }), (1), (6), by decide +kernel⟩,
    ⟨({ wit with gnss.ants := [(1, { Antenna.reset with on := true })] }), (1), (131), by decide +kernel⟩,
    ⟨({ wit with gnss.ants := [(1, { Antenna.reset with on := true, shortF := true })] }), (1), (101), by decide +kernel⟩,
    ⟨({ wit with gnss.ants := [(1, { Antenna.reset with on := true, shortF := true })] }), (1), (100), by decide +kernel⟩,
    ⟨({ wit with gnss.rtcm := bs [0xD3, 0, 0, 0, 0, 0] }), _, _, _, rfl, rfl, rfl, by decide +kernel⟩,
    ⟨({ wit with part.variant := .zq2 }), _, _, _, ({}), rfl, rfl, rfl, by decide +kernel⟩,
    ⟨({ wit with gnss.guardEnable := true, gnss.guardNoFix := 59, power.state := .guard }), _, rfl, by decide +kernel⟩,
    ⟨({ wit with power.state := .guard, gnss.guardEnable := true }), _, _, _, _, (0), (0), (0), (0), _, _, rfl, rfl, rfl, rfl, rfl, rfl, by decide +kernel⟩,
    ⟨({ wit with power.state := .guard, gnss.guardReport := 10 }), by decide +kernel⟩⟩

theorem test_witness_GnssImuVerbsComplete :
    (∃ (s : State) (r : Req), (s.serves verbGnssStatus r = true)) ∧
    (∃ (s : State) (r : Req) (p : F64 × F64 × F64), (p = (if s.gnss.guardShown then s.gnss.guardFix.getD (s.gnss.lat, s.gnss.lon, s.gnss.height) else (s.gnss.lat, s.gnss.lon, s.gnss.height))) ∧ (s.serves verbGnssFix r = true)) ∧
    (∃ (s : State) (r : Req) (p : List Byte), (s.serves verbGnssConfig r = true) ∧ (p = r.payload) ∧ (1 ≤ u8 p 0) ∧ (u8 p 0 < 128) ∧ (u8 p 1 ≤ 30) ∧ (u8 p 2 = 1) ∧ (antFitted s.variant 2 = true) ∧ (shortBase (s.ant 1) (s.ant 2) = false) ∧ (u8 p 3 ≤ 30) ∧ (u16 p 4 = 0xFFFF) ∧ (fFinite (f32 p 8) = true) ∧ (fEq (f32 p 8) fZero = false) ∧ (fLe fOne (f32 p 12) = true) ∧ (fLe (f32 p 12) (fNat 60) = true)) ∧
    (∃ (s : State) (r : Req) (p : List Byte), (s.serves verbGnssConfig r = true) ∧ (p = r.payload) ∧ (1 ≤ u8 p 0) ∧ (u8 p 0 < 128) ∧ (u8 p 1 ≤ 30) ∧ (u8 p 2 = 2) ∧ (u8 p 3 ≤ 30) ∧ (u16 p 4 = 0xFFFF) ∧ (fFinite (f32 p 8) = true) ∧ (fEq (f32 p 8) fZero = false) ∧ (fLe fOne (f32 p 12) = true) ∧ (fLe (f32 p 12) (fNat 60) = true)) ∧
    (∃ (s : State) (r : Req) (p : List Byte) (a : Antenna), (a = { s.ant r.inst with on := u8 p 0 == 1, px := f32 p 4, py := f32 p 8, pz := f32 p 12 }) ∧ (s.serves verbGnssAntenna r = true) ∧ (p = r.payload) ∧ (u8 p 0 = 1) ∧ (within20 (f32 p 4) = true) ∧ (within20 (f32 p 8) = true) ∧ (within20 (f32 p 12) = true) ∧ (s.gnss.headMode ≠ 1)) ∧
    (∃ (s : State) (r : Req), (s.serves verbGnssCorr r = true) ∧ (u8 r.payload 0 ≤ 3) ∧ (u8 r.payload 1 < 8) ∧ (u16 r.payload 2 < 16)) ∧
    (∃ (s : State) (r : Req), (s.serves verbGnssRtcm r = true) ∧ (s.gnss.corrSrc = 3)) ∧
    (∃ (s : State) (r : Req), (s.serves verbGnssOrigin r = true)) ∧
    (∃ (s : State) (r : Req) (p : List Byte), (s.serves verbGnssLine r = true) ∧ (p = r.payload) ∧ (dLe (dInt (-90)) (f64 p 0) = true) ∧ (dLe (f64 p 0) (dInt 90) = true) ∧ (dLe (dInt (-180)) (f64 p 8) = true) ∧ (dLe (f64 p 8) (dInt 180) = true) ∧ (fLe fZero (f32 p 16) = true) ∧ (fLt (f32 p 16) (fNat 360) = true) ∧ (fEq (f32 p 20) fZero = true) ∧ (u8 p 24 ≤ 1)) ∧
    (∃ (s : State) (r : Req) (p : List Byte), (s.serves verbGnssGuard r = true) ∧ (p = r.payload) ∧ (u8 p 0 ≤ 1) ∧ (u16 p 2 = 0 ∨ (5 ≤ u16 p 2 ∧ u16 p 2 ≤ 500)) ∧ (u16 p 4 = 0 ∨ (10 ≤ u16 p 4 ∧ u16 p 4 ≤ 1440))) ∧
    (∃ (s : State) (r : Req), (s.serves verbGnssHostbuf r = true) ∧ ((s.offered verbGnssHostbuf r).regionCheck r.win (u8 r.payload 0) 16384 = none) ∧ ((s.offered verbGnssHostbuf r).regionCheck r.win (u8 r.payload 1) 16384 = none) ∧ (s.isHost gnssKey = false) ∧ ((s.hostFn gnssKey).pending = none)) ∧
    (∃ (s : State) (r : Req) (p : List Byte) (q : State × Bool), (q = (if s.gnss.fix = 0 then (s.offered verbGnssSolution r, true) else (s.offered verbGnssSolution r).agrees (hostSol p))) ∧ (s.serves verbGnssSolution r = true) ∧ (p = r.payload) ∧ ((s.hostFn gnssKey).host = true) ∧ ((s.hostFn gnssKey).owner = r.win) ∧ (u32 p 0 ≠ 0) ∧ (u32 p 0 ≤ (s.hostFn gnssKey).k) ∧ (1 ≤ u8 p 4) ∧ (u8 p 4 ≤ 4) ∧ (4 ≤ u8 p 5) ∧ (dFinite (f64 p 8) = true) ∧ (dFinite (f64 p 16) = true) ∧ (dFinite (f64 p 24) = true) ∧ ((f32s p 32 3).all fFinite = true) ∧ (fFinite (f32 p 44) = true) ∧ (fLt fZero (f32 p 44) = true) ∧ ((s.offered verbGnssSolution r).hostInTime gnssKey (u32 p 0) = true) ∧ (s.gnss.invalid = false ∨ (s.offered verbGnssSolution r).passed10 (s.hostFn gnssKey).tk = true) ∧ (q.2 = true) ∧ ((q.1.hostResult gnssKey).2 = true)) ∧
    (∃ (s : State) (b : State) (a : State) (w : State) (vals : List F32) (raw : List F32) (sat : Nat) (kind : Nat) (k : Nat) (axes : Nat) (moving : Bool) (satAx : List Nat) (sameAx : List Nat), (b = s.boundary 123 1000000 0) ∧ (raw = (List.range 7).map (fun i => vals.getD i fZero)) ∧ (a = b.modImu (fun m => { m with satSince := runTab m.satSince b.hw (fun i => sat.testBit i), sameSince := runTab m.sameSince m.lastAt (fun i => moving && m.last.length == 7 && m.last.getD i fZero == raw.getD i fZero), last := raw, lastAt := b.hw, recent := b.imu.body raw :: m.recent.take 49 })) ∧ (satAx = (List.range 6).filter (fun i => (tget 0 a.imu.satSince i != 0) && decide (a.hw > tget 0 a.imu.satSince i - 1 + 100000000))) ∧ (sameAx = (List.range 6).filter (fun i => (tget 0 a.imu.sameSince i != 0) && decide (a.hw ≥ tget 0 a.imu.sameSince i - 1 + 2000000000))) ∧ (k = (if kind = 1 ∨ kind = 4 then kind else if satAx ≠ [] then 2 else if sameAx ≠ [] then 3 else 0)) ∧ (axes = (if k = 1 ∨ k = 4 then 0x7F else b.imu.affected (bitSet (satAx ++ sameAx)))) ∧ (w = ((List.range 7).foldl (fun (s : State) i => if axes.testBit i then s.modFlags (0xF0 + i) (fun f => clearBits f fgValid ||| fgFault) else s.setSig (0xF0 + i) ((b.imu.body raw).getD i fZero) s.hw fgValid) a).poseTake) ∧ (s.running 0x44 0 = true) ∧ (s.trunkOn = true)) ∧
    (∃ (s : State) (r : Req), (s.serves verbImuStatus r = true)) ∧
    (∃ (s : State) (r : Req) (p : List Byte), (s.serves verbImuConfig r = true) ∧ (p = r.payload) ∧ (bits (u8 p 0) 2 0 < 6) ∧ (bits (u8 p 0) 5 3 < 6) ∧ (bits (u8 p 0) 2 0 / 2 ≠ bits (u8 p 0) 5 3 / 2) ∧ (u8 p 0 < 64) ∧ ((f32s p 4 3).all (fun a => fLe (fInt (-10)) a && fLe a (fNat 10)) = true) ∧ ((f32s p 16 3).all within20 = true)) :=
  ⟨⟨(wit), (ask 0 []), by decide +kernel⟩,
    ⟨(wit), (ask 0 []), _, rfl, by decide +kernel⟩,
    ⟨({ wit with part.variant := .zq4, gnss.ants := [(1, { Antenna.reset with on := true, px := fOne })] }), (ask 0 (bs [127, 0, 1, 0, 0xFF, 0xFF, 0, 0, 0, 0, 0x80, 0x3F, 0, 0, 0x80, 0x3F])), (bs [127, 0, 1, 0, 0xFF, 0xFF, 0, 0, 0, 0, 0x80, 0x3F, 0, 0, 0x80, 0x3F]), by decide +kernel⟩,
    ⟨(wit), (ask 0 (bs [127, 0, 2, 0, 0xFF, 0xFF, 0, 0, 0, 0, 0x80, 0x3F, 0, 0, 0x80, 0x3F])), (bs [127, 0, 2, 0, 0xFF, 0xFF, 0, 0, 0, 0, 0x80, 0x3F, 0, 0, 0x80, 0x3F]), by decide +kernel⟩,
    ⟨({ wit with gnss.headMode := 2 }), (ask 1 (bs [1, 0, 0, 0, 0, 0, 0, 0, 0, 0, 0, 0, 0, 0, 0, 0])), (bs [1, 0, 0, 0, 0, 0, 0, 0, 0, 0, 0, 0, 0, 0, 0, 0]), _, rfl, by decide +kernel⟩,
    ⟨(wit), (ask 0 (bs [3, 7, 15, 0])), by decide +kernel⟩,
    ⟨({ wit with gnss.corrSrc := 3 }), (ask 0 (bs [0xD3])), by decide +kernel⟩,
    ⟨(wit), (ask 0 (zeros 24)), by decide +kernel⟩,
    ⟨(wit), (ask 0 (zeros 28)), (zeros 28), by decide +kernel⟩,
    ⟨(wit), (ask 0 (bs [1, 0, 5, 0, 0xA0, 5, 0, 0])), (bs [1, 0, 5, 0, 0xA0, 5, 0, 0]), by decide +kernel⟩,
    ⟨({ wit with keeper.windows := [(0, { Window.reset with running := true, regions := [(0, { Region.reset with present := true, size := 16384 }), (1, { Region.reset with present := true, size := 16384 })] })] }), (ask 0 (bs [0, 1, 0, 0])), by decide +kernel⟩,
    ⟨({ wit with keeper.hostFns := [(gnssKey, { HostFn.reset with host := true, got := false, k := 1, tk := 6000000000, d := 100 })] }), (ask 0 (bs [1, 0, 0, 0, 1, 4, 0, 0, 0, 0, 0, 0, 0, 0, 0, 0, 0, 0, 0, 0, 0, 0, 0, 0, 0, 0, 0, 0, 0, 0, 0, 0, 0, 0, 0, 0, 0, 0, 0, 0, 0, 0, 0, 0, 0, 0, 0x80, 0x3F])), (bs [1, 0, 0, 0, 1, 4, 0, 0, 0, 0, 0, 0, 0, 0, 0, 0, 0, 0, 0, 0, 0, 0, 0, 0, 0, 0, 0, 0, 0, 0, 0, 0, 0, 0, 0, 0, 0, 0, 0, 0, 0, 0, 0, 0, 0, 0, 0x80, 0x3F]), _, rfl, by decide +kernel⟩,
    ⟨(wit), _, _, _, (List.replicate 7 fOne), _, (1), (0), _, _, (true), _, _, rfl, rfl, rfl, rfl, rfl, rfl, rfl, rfl, by decide +kernel⟩,
    ⟨(wit), (ask 0 []), by decide +kernel⟩,
    ⟨(wit), (ask 0 (bs (16 :: List.replicate 27 0))), (bs (16 :: List.replicate 27 0)), by decide +kernel⟩⟩

theorem test_witness_GraftDeliveryComplete :
    (∃ (s : State) (r : Req), (s.serves verbGraftStatus r = true)) ∧
    (∃ (s : State) (r : Req), (s.serves verbGraftMissing r = true) ∧ (u32 r.payload 0 % 832 = 0)) ∧
    (∃ (s : State) (a : State) (n : State) (r : Req) (b : List Byte), ((s.offered verbGraftOpen r).regionRead r.win (u8 r.payload 0) 0 (u32 r.payload 4) = b) ∧ ((s.offered verbGraftOpen r).regionDone r.win (u8 r.payload 0) r.tag (u32 r.payload 4) false = a) ∧ (n = (if a.graft.inc.header = b then a else (a.modGraft (fun g => { g with inc := { header := b, pieces := [] } })).atticWear (u32 r.payload 4))) ∧ (s.serves verbGraftOpen r = true) ∧ ((s.offered verbGraftOpen r).regionCheck r.win (u8 r.payload 0) (u32 r.payload 4) = none) ∧ (headerOk b = true) ∧ (u16 (slice b (hdrCert b) 256) 8 = typeCode a.variant ∨ u16 (slice b (hdrCert b) 256) 8 = 0x56FF) ∧ (u16 b 6 = typeCode a.variant) ∧ (u64 b 8 = 0 ∨ u64 b 8 = a.part.serial) ∧ (a.graft.minSec ≤ u32 b 20) ∧ (imageBytes b ≤ atticMiB a.variant 2 * 2 ^ 20) ∧ (a.graft.installing = false ∨ a.graft.inc.header = b) ∧ (a.graft.inc.header = [] ∨ a.graft.inc.header = b ∨ bit (u8 r.payload 1) 0 = true ∨ hdrPieces a.graft.inc.header ≤ a.graft.inc.pieces.length) ∧ (a.attic.inhibit = false) ∧ (a.attic.readOnly = false)) ∧
    (∃ (s : State) (r : Req) (i : Nat) (b : List Byte) (d : List Byte) (g : State), ((s.offered verbGraftPiece r).graft.inc.header = b) ∧ ((s.offered verbGraftPiece r).regionRead r.win (u8 r.payload 0) 0 (pieceLen b i) = d) ∧ ((if (tfind (s.offered verbGraftPiece r).graft.inc.pieces i).isSome then (s.offered verbGraftPiece r).regionDone r.win (u8 r.payload 0) r.tag (pieceLen b i) false else (((s.offered verbGraftPiece r).regionDone r.win (u8 r.payload 0) r.tag (pieceLen b i) false).modGraft (fun g => { g with inc.pieces := tput g.inc.pieces i d })).atticWear (pieceLen b i)).clearFault 0xC002 0x60 0 = g) ∧ (s.serves verbGraftPiece r = true) ∧ (b ≠ []) ∧ ((s.offered verbGraftPiece r).graft.installing = false) ∧ (i = u32 r.payload 4) ∧ (i < hdrPieces b) ∧ ((s.offered verbGraftPiece r).regionCheck r.win (u8 r.payload 0) (pieceLen b i) = none) ∧ (sha256 d = slice b (hdrHashes b + 32 * i) 32) ∧ ((s.offered verbGraftPiece r).attic.inhibit = false) ∧ ((s.offered verbGraftPiece r).attic.readOnly = false)) ∧
    (∃ (s : State) (r : Req), (s.serves verbGraftDiscard r = true) ∧ (s.graft.installing = false) ∧ (s.graft.act.step = 0)) ∧
    (∃ (s : State) (r : Req), (s.serves verbGraftActivate r = true) ∧ (s.graft.otherSet.present = true) ∧ (s.graft.act.step = 0) ∧ (s.graft.installing = false) ∧ (s.graft.trial = false) ∧ ((s.offered verbGraftActivate r).keeper.retired = []) ∧ (s.power.state ≠ .parking) ∧ (s.attic.inhibit = false) ∧ ((s.offered verbGraftActivate r).setCheck (s.offered verbGraftActivate r).activeSet (s.offered verbGraftActivate r).graft.otherSet (bit (u8 r.payload 0) 0) = none)) ∧
    (∃ (s : State) (r : Req), (s.serves verbGraftConfirm r = true) ∧ (r.win = (s.offered verbGraftConfirm r).activeSet.confirmer) ∧ (u32 r.payload 0 = (s.offered verbGraftConfirm r).keeper.verSet) ∧ (s.graft.trial = true) ∧ (s.graft.act.step = 0)) ∧
    (∃ (s : State) (r : Req), (s.serves verbGraftFallback r = true) ∧ (s.graft.trial = true) ∧ (s.graft.act.step = 0) ∧ (u32 r.payload 0 = (s.offered verbGraftFallback r).keeper.verSet)) ∧
    (∃ (s : State) (b : BootSet), ({ present := true, id := u32 s.graft.inc.header 16, secver := u32 s.graft.inc.header 20, windowMin := u16 s.graft.inc.header 34, confirmer := u8 s.graft.inc.header 36, parts := (List.range (hdrParts s.graft.inc.header)).map (fun i => { partOf s.graft.inc.header i with data := (s.partData (partOf s.graft.inc.header i)).getD [] }) } = b) ∧ (∀ i, i < hdrParts s.graft.inc.header → ∃ d, s.partData (partOf s.graft.inc.header i) = some d ∧ sha256 d = (partOf s.graft.inc.header i).sha) ∧ (s.graft.installing = true) ∧ (s.graft.trial = false) ∧ (s.running 0x60 0 = true) ∧ (s.attic.readOnly = false)) :=
  ⟨⟨(wit), (ask 0 []), by decide +kernel⟩,
    ⟨(wit), (ask 0 (bs [64, 3, 0, 0])), by decide +kernel⟩,
    ⟨({ wit with keeper.windows := [(0, { Window.reset with running := true, regions := [(0, { Region.reset with present := true, size := 4096, bytes := [(0, 0x54), (1, 0x46), (2, 0x52), (3, 0x47), (4, 1), (6, 0x24), (7, 0x56), (16, 1), (24, 1), (28, 1), (32, 2), (64, 1), (192, 2), (360, 0x24), (361, 0x56)] })] })] }), _, _, (ask 0 (bs [0, 0, 0, 0, 0xC0, 2, 0, 0])), _, rfl, rfl, rfl, by decide +kernel⟩,
    ⟨({ wit with graft.inc.header := zeros 24 ++ bs [1, 0, 0, 0, 2, 0, 0, 0] ++ zeros 32 ++ sha256 (zeros 2) ++ zeros 352, keeper.windows := [(0, { Window.reset with running := true, regions := [(0, { Region.reset with present := true, size := 4096 })] })] }), (ask 0 (zeros 8)), (0), _, _, _, rfl, rfl, rfl, by decide +kernel⟩,
    ⟨(wit), (ask 0 []), by decide +kernel⟩,
    ⟨({ wit with graft.slotB := { BootSet.reset with present := true, id := 5, parts := [{ PartEnt.reset with kind := 1, cls := 0, first := 0 }, { PartEnt.reset with kind := 2, cls := 0, first := 0 }] } }), (ask 0 (bs [1, 0, 0, 0])), by decide +kernel⟩,
    ⟨({ wit with graft.trial := true, keeper.verSet := 5 }), (ask 0 (bs [5, 0, 0, 0])), by decide +kernel⟩,
    ⟨({ wit with graft.trial := true, keeper.verSet := 5 }), (ask 0 (bs [5, 0, 0, 0])), by decide +kernel⟩,
    ⟨({ wit with graft.installing := true, graft.inc.header := zeros 32 ++ bs [1] ++ zeros 47 ++ sha256 [] ++ zeros 500 }), _, rfl, by intro i hi; obtain rfl : i = 0 := Nat.lt_one_iff.1 (Nat.lt_of_lt_of_eq hi (by decide +kernel)); exact ⟨[], by decide +kernel, by decide +kernel⟩, by decide +kernel⟩⟩

theorem test_witness_GraftHandoverComplete :
    (∃ (s : State), (s.graft.act.step = 2) ∧ (s.graft.act.fallback = false) ∧ (s.running 0x60 0 = true) ∧ (s.graft.otherSet.parts.findIdx? (fun p => sha256 p.data != p.sha) = none) ∧ (s.attic.readOnly = false)) ∧
    (∃ (s : State) (i : Nat), (s.graft.act.step = 2) ∧ (s.graft.act.fallback = false) ∧ (s.running 0x60 0 = true) ∧ (s.graft.otherSet.parts.findIdx? (fun p => sha256 p.data != p.sha) = some i)) ∧
    (∃ (s : State), (s.graft.act.step = 2) ∧ (s.graft.act.fallback = false) ∧ (s.running 0x60 0 = true) ∧ (s.graft.otherSet.parts.findIdx? (fun p => sha256 p.data != p.sha) = none) ∧ (s.attic.readOnly = true)) ∧
    (∃ (s : State) (i : Nat) (b : Nat) (p : PartEnt), (s.curPart = some (i, p)) ∧ (s.graft.act.b = some b) ∧ (s.graft.act.noticed = false)) ∧
    (∃ (s : State) (r : Req) (i : Nat) (b : Nat) (p : PartEnt), ((s.offered verbGraftYield r).curPart = some (i, p)) ∧ (r.win = p.win) ∧ (s.serves verbGraftYield r = true) ∧ ((s.offered verbGraftYield r).graft.act.b = some b) ∧ (b ≤ (s.offered verbGraftYield r).hw) ∧ ((s.offered verbGraftYield r).graft.act.yieldAt = none)) ∧
    (∃ (s : State) (r : Req) (i : Nat) (p : PartEnt), ((s.offered verbGraftTake r).curPart = some (i, p)) ∧ (r.win = p.win + 0x100) ∧ (s.serves verbGraftTake r = true) ∧ (u8 r.payload 0 = 0) ∧ ((s.offered verbGraftTake r).graft.act.b = none) ∧ (p.cutPhase * 1000 < (s.offered verbGraftTake r).hw + 10000000)) ∧
    (∃ (s : State) (r : Req) (i : Nat) (y : Nat) (p : PartEnt), ((s.offered verbGraftTake r).curPart = some (i, p)) ∧ (r.win = p.win + 0x100) ∧ (s.serves verbGraftTake r = true) ∧ (u8 r.payload 0 = 1) ∧ ((s.offered verbGraftTake r).graft.act.yieldAt = some y)) ∧
    (∃ (s : State) (i : Nat) (p : PartEnt), (s.curPart = some (i, p)) ∧ (s.graft.act.b = none)) ∧
    (∃ (s : State) (i : Nat) (b : Nat) (p : PartEnt), (s.curPart = some (i, p)) ∧ (s.graft.act.b = some b) ∧ (s.graft.act.yieldAt = none)) ∧
    (∃ (s : State) (i : Nat) (y : Nat) (p : PartEnt), (s.curPart = some (i, p)) ∧ (s.graft.act.yieldAt = some y)) ∧
    (∃ (s : State) (a : State), ((((({ s with root.phase := .running, root.serviceAt := s.hw, root.tminUse := 0, faults.rootSeen := s.faults.rootSeen ++ s.faults.inbox, faults.inbox := [] } : State).takeDecl (s.activeSet.part (s.activeSet.idx 2))).unitStop 0x50 0 2 false).unitRun 0x50 0) = a) ∧ (s.graft.act.step = 6) ∧ (s.root.phase = .pause) ∧ (s.hw ≤ s.root.pauseAt + 15000000)) ∧
    (∃ (s : State), (s.keeper.paused = true) ∧ (s.keeperCutover.keeper.paused = false)) ∧
    (∃ (s : State), (s.keeper.paused = true) ∧ (s.keeperCutoverFail.keeper.paused = false)) ∧
    (∃ (s : State) (a : State), (s.waitOp (s.graft.trialAt + (s.graft.trialLeft - s.trialWindow / 10) * 1000000000) = a) ∧ (s.graft.trial = true) ∧ (s.graft.dueDone = false) ∧ (s.graft.act.step = 0) ∧ (s.operating = true)) ∧
    (∃ (s : State) (a : State), (s.waitOp (s.graft.trialAt + 60000000000) = a) ∧ (s.graft.trial = true) ∧ (s.operating = true)) ∧
    (∃ (s : State), (s.graft.trial = true) ∧ (s.graft.act.step = 0) ∧ (s.operating = true)) ∧
    (∃ (s : State), (s.graft.trial = true) ∧ (s.power.trunkDue ≠ 0) ∧ (s.trunkOn = false) ∧ (s.graft.bootFails = 0)) ∧
    (∃ (s : State), (s.graft.trial = true) ∧ (s.power.trunkDue ≠ 0) ∧ (s.trunkOn = false) ∧ (1 ≤ s.graft.bootFails)) ∧
    (∃ (s : State) (a : State) (b : State) (c : State), (s.removeGone = a) ∧ (a.inForce a.activeSet = b) ∧ ((if b.inRun then (canopyParts a.activeSet).foldl (fun (s : State) i => if (tget Partition.reset s.keeper.partitions (a.activeSet.part i).pid).state == .stopped then (s.startPartition (a.activeSet.part i).pid).partDone i 3 0 else s) b else b) = c) ∧ (s.graft.act.fallback = true) ∧ (s.graft.act.step = 8) ∧ (s.graft.act.todo = []) ∧ (s.graft.act.cur = none) ∧ (s.keeper.paused = false) ∧ (s.running 0x60 0 = true) ∧ (s.graft.act.op = none)) :=
  ⟨⟨({ wit with graft.act.step := 2 }), by decide +kernel⟩,
    ⟨({ wit with graft.act.step := 2, graft.slotB.parts := [PartEnt.reset] }), (0), by decide +kernel⟩,
    ⟨({ wit with graft.act.step := 2, attic.readOnly := true }), by decide +kernel⟩,
    ⟨({ wit with graft.act.cur := some 2, graft.act.b := some 6000000000 }), (2), (6000000000), _, rfl, by decide +kernel⟩,
    ⟨({ wit with graft.slotA.parts := [{ PartEnt.reset with kind := 2 }], graft.act.cur := some 0, graft.act.b := some 5000000000 }), (ask 0 (zeros 4)), (0), (5000000000), _, rfl, rfl, by decide +kernel⟩,
    ⟨({ wit with graft.slotA.parts := [{ PartEnt.reset with kind := 3, pid := 0, cutPeriod := 1000 }], graft.act.cur := some 0, keeper.windows := [(0x110, { Window.reset with running := true })] }), ({ win := 0x110, inst := 0, payload := zeros 4 }), (0), _, rfl, rfl, by decide +kernel⟩,
    ⟨({ wit with graft.slotA.parts := [{ PartEnt.reset with kind := 3, pid := 0, cutPeriod := 1000 }], graft.act.cur := some 0, graft.act.yieldAt := some 7, keeper.windows := [(0x110, { Window.reset with running := true })] }), ({ win := 0x110, inst := 0, payload := bs [1, 0, 0, 0] }), (0), (7), _, rfl, rfl, by decide +kernel⟩,
    ⟨({ wit with graft.act.cur := some 2 }), (2), _, rfl, by decide +kernel⟩,
    ⟨({ wit with graft.act.cur := some 2, graft.act.b := some 7 }), (2), (7), _, rfl, by decide +kernel⟩,
    ⟨({ wit with graft.act.cur := some 2, graft.act.yieldAt := some 7 }), (2), (7), _, rfl, by decide +kernel⟩,
    ⟨({ wit with graft.act.step := 6, root.phase := .pause, root.pauseAt := 4999000000 }), _, rfl, by decide +kernel⟩,
    ⟨({ wit with keeper.paused := true, keeper.pausedAt := 4999000000, graft.act.step := 7 }), by decide +kernel⟩,
    ⟨({ wit with keeper.paused := true, keeper.pausedAt := 4999000000, graft.act.step := 7 }), by decide +kernel⟩,
    ⟨({ wit with graft.trial := true, graft.trialLeft := 600 }), _, rfl, by decide +kernel⟩,
    ⟨({ wit with graft.trial := true, graft.trialLeft := 600 }), _, rfl, by decide +kernel⟩,
    ⟨({ wit with graft.trial := true, graft.trialLeft := 600 }), by decide +kernel⟩,
    ⟨({ State.reset with power.state := .reset, power.trunkDue := 3, graft.trial := true }), by decide +kernel⟩,
    ⟨({ State.reset with power.state := .reset, power.trunkDue := 3, graft.trial := true, graft.bootFails := 1 }), by decide +kernel⟩,
    ⟨({ wit with graft.act.fallback := true, graft.act.step := 8 }), _, _, _, rfl, rfl, rfl, by decide +kernel⟩⟩

theorem test_witness_GranaryRowsComplete :
    (∃ (s : State) (a : State), (a = (s.boundary 160 100000000 0).modGran (fun g => { g with flow := [] })) ∧ (s.running 0x43 0 = true) ∧ (s.trunkOn = true) ∧ (a.granary.configured = true) ∧ (a.isHost granKey = false)) ∧
    (∃ (s : State) (a : State), (a = (s.boundary 160 100000000 0).modGran (fun g => { g with flow := [] })) ∧ (s.running 0x43 0 = true) ∧ (s.trunkOn = true) ∧ (a.granary.configured = false)) ∧
    (∃ (s : State) (f : GranFile) (q : GranTile) (due1 : Nat) (due2 : Nat) (due3 : Nat) (lim : List Nat), (due1 = q.changed.getD 0 + 60000000000) ∧ (due2 = (match q.written with | some w => max due1 (w + 60000000000) | none => due1)) ∧ (lim = s.granary.writes.filter (fun w => decide (max s.hw due2 < w + 60000000000))) ∧ (due3 = (if lim.length ≥ 16 then max due2 (lim.getD 15 0 + 60000000000) else due2)) ∧ (s.granary.file = some f) ∧ (s.running 0x43 0 = true) ∧ (s.trunkOn = true) ∧ (s.attic.readOnly = false) ∧ (s.attic.fault = false) ∧ (oldestTile f.tiles = some q)) ∧
    (∃ (s : State) (a : State) (op : Op) (f : GranFile), (a = s.granWrite (fun t => t.changed.isSome)) ∧ (s.granary.closing = some op) ∧ (s.granary.file = some f) ∧ (s.running 0x43 0 = true) ∧ (s.granary.stopped = true) ∧ (s.trunkOn = true) ∧ (s.attic.readOnly = false) ∧ (s.attic.fault = false) ∧ (a.granary.file.any (fun x => x.tiles.any (fun t => t.changed.isSome)) = false)) ∧
    (∃ (s : State) (r : Req) (f : GranFile) (st : Nat) (span : Int), (f = s.granary.file.getD GranFile.reset) ∧ (st = (if s.granary.file.isNone then 0 else if s.granary.closing.isSome then 2 else if s.granary.full then 3 else 1)) ∧ (span = (match s.granary.hist.head?, s.granary.hist.getLast? with | some a, some b => (a.stamp : Int) - b.stamp | _, _ => 0)) ∧ (s.serves verbGranaryStatus r = true)) ∧
    (∃ (s : State) (r : Req) (p : List Byte), (s.serves verbGranaryConfig r = true) ∧ (p = r.payload) ∧ (u16 p 0 < 0x1000) ∧ (u16 p 2 = 0xFFFF) ∧ (80 ≤ u16 p 4) ∧ (u16 p 4 ≤ 200) ∧ (u16 p 6 ≤ 100) ∧ (u8 p 8 = 0) ∧ (u8 p 10 ≤ 1) ∧ (fLe (fInt (-5)) (f32 p 12) = true) ∧ (fLe (f32 p 12) (fNat 20) = true) ∧ (fLe (fInt (-10)) (f32 p 16) = true) ∧ (fLe (f32 p 16) (fNat 10) = true) ∧ (fLe fZero (f32 p 20) = true) ∧ (fLe (f32 p 20) (fNat 50) = true) ∧ ((s.offered verbGranaryConfig r).sigReadable r.win (u16 p 0) = true) ∧ (s.granary.file = none)) ∧
    (∃ (s : State) (r : Req) (p : List Byte) (l : List GranSection), ((List.range (u8 p 0)).map (fun i => ({ sig := u16 p (4 + 8 * i), width := f32 p (8 + 8 * i) } : GranSection)) = l) ∧ (s.serves verbGranarySections r = true) ∧ (p = r.payload) ∧ (1 ≤ u8 p 2) ∧ (u8 p 2 ≤ 16) ∧ (u8 p 1 = 0) ∧ (u8 p 0 = u8 p 2) ∧ (l.all (fun x => (x.sig == 0xFFFF || decide (x.sig < 0x1000)) && fLe (fFrac 1 10) x.width && fLe x.width (fNat 20)) = true) ∧ (l.all (fun x => x.sig == 0xFFFF || s.sigReadable r.win x.sig) = true) ∧ (fLe (fSum (l.map (·.width))) (fNat 60) = true)) ∧
    (∃ (s : State) (r : Req) (l : List (F32 × F32)), (l = (List.range (u8 r.payload 0)).map (fun i => (f32 r.payload (4 + 8 * i), f32 r.payload (8 + 8 * i)))) ∧ (s.serves verbGranaryCalib r = true) ∧ (l.all (fun e => fFinite e.1 && fFinite e.2) = true) ∧ ((List.range (l.length - 1)).all (fun i => fLt (l.getD i (0, 0)).1 (l.getD (i + 1) (0, 0)).1) = true)) ∧
    (∃ (s : State) (r : Req) (p : List Byte), (s.serves verbGranaryOpen r = true) ∧ (p = r.payload) ∧ (u8 p 4 ≤ 2) ∧ (dFinite (f64 p 8) = true) ∧ (dFinite (f64 p 16) = true) ∧ (s.granary.file = none) ∧ (s.granary.files.find? (fun f => f.field == u32 p 0) = none)) ∧
    (∃ (s : State) (r : Req) (p : List Byte) (f : GranFile), (s.serves verbGranaryOpen r = true) ∧ (p = r.payload) ∧ (u8 p 4 ≤ 2) ∧ (dFinite (f64 p 8) = true) ∧ (dFinite (f64 p 16) = true) ∧ (s.granary.file = none) ∧ (s.granary.files.find? (fun f => f.field == u32 p 0) = some f) ∧ (f.res = u8 p 4) ∧ (f.lat = f64 p 8) ∧ (f.lon = f64 p 16)) ∧
    (∃ (s : State) (r : Req), (s.serves verbGranaryClose r = true) ∧ (s.granary.file.isNone = false) ∧ (s.granary.closing = none)) ∧
    (∃ (s : State) (r : Req), (s.serves verbGranaryCorrect r = true) ∧ (u8 r.payload 0 = 0)) ∧
    (∃ (s : State) (r : Req) (m : F32) (c : F32), (c = fDiv (fMul (s.granary.pendCorr.getD s.granary.corr) (f32 r.payload 4)) (fSub (((s.granary.file.map (·.total))).getD fZero) m)) ∧ (s.serves verbGranaryCorrect r = true) ∧ (u8 r.payload 0 = 1) ∧ (s.granary.marked = some m) ∧ (fLe (fFrac 1 2) c = true) ∧ (fLe c (fNat 2) = true)) ∧
    (∃ (s : State) (r : Req), (s.serves verbGranaryHostbuf r = true) ∧ ((s.offered verbGranaryHostbuf r).regionCheck r.win (u8 r.payload 0) 3264 = none) ∧ ((s.offered verbGranaryHostbuf r).regionCheck r.win (u8 r.payload 1) 3264 = none) ∧ (s.isHost granKey = false) ∧ ((s.hostFn granKey).pending = none)) ∧
    (∃ (s : State) (r : Req) (p : List Byte) (tk : Nat), (s.serves verbGranaryResult r = true) ∧ (p = r.payload) ∧ ((s.hostFn granKey).host = true) ∧ ((s.hostFn granKey).owner = r.win) ∧ (u32 p 0 ≠ 0) ∧ ((s.hostFn granKey).k = u32 p 0) ∧ (fLe fZero (f32 p 4) = true) ∧ (fLe (f32 p 4) (fNat 100) = true) ∧ (fIsNan (f32 p 8) = false) ∧ (fFinite (f32 p 8) = true) ∧ ((s.offered verbGranaryResult r).hostInTime granKey (u32 p 0) = true) ∧ (((s.offered verbGranaryResult r).hostResult granKey).2 = true) ∧ (((s.offered verbGranaryResult r).hostResult granKey).1.granary.pend = some tk)) :=
  ⟨⟨({ wit with granary.configured := true }), _, rfl, by decide +kernel⟩,
    ⟨(wit), _, rfl, by decide +kernel⟩,
    ⟨({ wit with granary.file := some { GranFile.reset with tiles := [{ GranTile.reset with changed := some 0 }] } }), ({ GranFile.reset with tiles := [{ GranTile.reset with changed := some 0 }] }), ({ GranTile.reset with changed := some 0 }), _, _, _, _, rfl, rfl, rfl, rfl, by decide +kernel⟩,
    ⟨({ wit with granary.file := some GranFile.reset, granary.closing := some Op.reset, granary.stopped := true }), _, (Op.reset), (GranFile.reset), rfl, by decide +kernel⟩,
    ⟨(wit), (ask 0 []), _, _, _, rfl, rfl, rfl, by decide +kernel⟩,
    ⟨(wit), (ask 0 (bs [0, 0, 0xFF, 0xFF, 80, 0, 0, 0, 0, 0, 0, 0, 0, 0, 0, 0, 0, 0, 0, 0, 0, 0, 0, 0])), (bs [0, 0, 0xFF, 0xFF, 80, 0, 0, 0, 0, 0, 0, 0, 0, 0, 0, 0, 0, 0, 0, 0, 0, 0, 0, 0]), by decide +kernel⟩,
    ⟨(wit), (ask 0 (bs [1, 0, 1, 0, 0xFF, 0xFF, 0, 0, 0, 0, 0x80, 0x3F])), (bs [1, 0, 1, 0, 0xFF, 0xFF, 0, 0, 0, 0, 0x80, 0x3F]), _, rfl, by decide +kernel⟩,
    ⟨(wit), (ask 0 (bs [2, 0, 0, 0, 0, 0, 0, 0, 0, 0, 0, 0, 0, 0, 0x80, 0x3F, 0, 0, 0, 0])), _, rfl, by decide +kernel⟩,
    ⟨(wit), (ask 0 (zeros 28)), (zeros 28), by decide +kernel⟩,
    ⟨({ wit with granary.files := [GranFile.reset] }), (ask 0 (zeros 28)), (zeros 28), (GranFile.reset), by decide +kernel⟩,
    ⟨({ wit with granary.file := some GranFile.reset }), (ask 0 []), by decide +kernel⟩,
    ⟨(wit), (ask 0 (zeros 8)), by decide +kernel⟩,
    ⟨({ wit with granary.marked := some fZero, granary.corr := fOne, granary.file := some { GranFile.reset with total := fOne } }), (ask 0 (bs [1, 0, 0, 0, 0, 0, 0x80, 0x3F])), (fZero), _, rfl, by decide +kernel⟩,
    ⟨({ wit with keeper.windows := [(0, { Window.reset with running := true, regions := [(0, { Region.reset with present := true, size := 131072 }), (1, { Region.reset with present := true, size := 131072 })] })] }), (ask 0 (bs [0, 1, 0, 0])), by decide +kernel⟩,
    ⟨({ wit with granary.pend := some 0, keeper.hostFns := [(granKey, { HostFn.reset with host := true, got := false, k := 1, tk := 6000000000, d := 100, period := 1000 })] }), (ask 0 (bs [1, 0, 0, 0, 0, 0, 0, 0, 0, 0, 0, 0, 0, 0, 0, 0])), (bs [1, 0, 0, 0, 0, 0, 0, 0, 0, 0, 0, 0, 0, 0, 0, 0]), (0), by decide +kernel⟩⟩

theorem test_witness_KeeperVerbsComplete :
    (∃ (s : State) (r : Req), (s.serves verbKeeperNop r = true)) ∧
    (∃ (s : State) (r : Req) (p : List Byte) (m : ModeFn) (t : Nat), (p = r.payload) ∧ (m = ((s.offered verbKeeperMode r).modeFn (u8 p 0) (u8 p 1) (u16 p 2)).getD ⟨0, 0, 0⟩) ∧ (t = nextBoundary s.hw m.period m.phase) ∧ (s.serves verbKeeperMode r = true) ∧ ((s.offered verbKeeperMode r).modeRefusal (verbKeeperMode.req r) = none)) ∧
    (∃ (s : State) (r : Req), (s.serves verbKeeperSigRead r = true) ∧ ((sigIds r.payload).any (fun id => decide (id > 0xFFF)) = false)) ∧
    (∃ (s : State) (r : Req), (s.serves verbKeeperSigWrite r = true) ∧ ((sigEntries r.payload).all (fun e => fFinite e.value) = true) ∧ ((sigEntries r.payload).all (fun e => decide (e.stamp ≤ s.hw)) = true) ∧ (((sigEntries r.payload).map (·.id)).eraseDups.length = (sigEntries r.payload).length)) ∧
    (∃ (s : State) (r : Req) (req : Nat) (m : Nat), (req = (List.range 32).foldl (fun m i => m + u8 r.payload i * 2 ^ (8 * i)) 0) ∧ (m = (req &&& (s.offered verbKeeperEvtMask r).rightMask r.win) ||| 1 ||| (if r.win = 0 then bitSet (2 :: (List.range 12).map (236 + ·)) else 0)) ∧ (s.serves verbKeeperEvtMask r = true)) :=
  ⟨⟨(wit), (ask 0 []), by decide +kernel⟩,
    ⟨(wit), (ask 0 (bs [0x43, 0, 0, 0, 0, 0, 10, 0, 0, 0, 0, 0])), _, _, _, rfl, rfl, rfl, by decide +kernel⟩,
    ⟨(wit), (ask 0 (bs [2, 0, 0, 8, 0xFF, 0x0F])), by decide +kernel⟩,
    ⟨(wit), ({ ask 0 (bs [0, 0xF, 1, 0, 0, 0, 0x80, 0x3F, 0, 0, 0, 0, 0, 0, 0, 0]) with cls := 0 }), by decide +kernel⟩,
    ⟨(wit), (ask 0 (bs (List.replicate 32 255))), _, _, rfl, rfl, by decide +kernel⟩⟩

theorem test_witness_KeeperEventRowsComplete :
    (∃ (s : State) (unit : Nat) (fn : Nat) (inst : Nat) (b : Bool), (s.trunkOn = true) ∧ ((s.hostFn (hostKey unit fn inst)).pending = some b) ∧ ((s.hostFn (hostKey unit fn inst)).host = b)) ∧
    (∃ (s : State) (unit : Nat) (fn : Nat) (inst : Nat) (b : Bool), (s.trunkOn = true) ∧ ((s.hostFn (hostKey unit fn inst)).pending = some b) ∧ ((s.hostFn (hostKey unit fn inst)).host = !b)) ∧
    (∃ (s : State) (b : State) (w : Nat) (x : Held) (l : List Held) (v : Verb), (b = (s.waitTo (x.heldAt + 100000000)).modWin w (fun y => { y with held := l })) ∧ (verbOf x.req.unit x.req.verb = some v) ∧ (s.trunkOn = true) ∧ ((s.win w).held = x :: l) ∧ (s.holdOver x = false ∨ s.keeper.paused = true)) ∧
    (∃ (s : State) (w : Nat) (x : Held) (l : List Held), (s.trunkOn = true) ∧ ((s.win w).held = x :: l) ∧ (s.holdOver x = true) ∧ (s.keeper.paused = false)) ∧
    (∃ (s : State) (w : Nat) (t0 : Nat), (s.trunkOn = true) ∧ (earliest ((((s.win w).held.map (·.req.deadline)) ++ ((s.win w).waiting.map (·.deadline))).filter (· ≠ 0) |>.map s.deadlineAt |> (· ++ s.valveDeadlines w)) = some t0)) ∧
    (∃ (s : State) (unit : Nat) (inst : Nat) (i : Nat) (cause : Nat), (i = (if unit = 0x42 then inst else 0)) ∧ (s.trunkOn = true) ∧ (unitFitted s.variant unit = true) ∧ (unit ≠ 0x50) ∧ (unit ≠ 0x42 ∨ instPresent s.part unit inst = true) ∧ (cause = 1 ∨ cause = 4) ∧ (s.keeper.paused = false) ∧ ((s.unitSt unit inst).phase = .running)) ∧
    (∃ (s : State) (unit : Nat) (inst : Nat) (i : Nat), (i = (if unit = 0x42 then inst else 0)) ∧ (s.trunkOn = true) ∧ (unitKnown unit = true) ∧ (s.keeper.paused = false) ∧ ((s.unitSt unit i).phase = .restarting)) ∧
    (∃ (s : State), (s.trunkOn = true) ∧ (s.keeper.paused = false) ∧ ((s.unitSt 0x40 0).phase = .handover)) ∧
    (∃ (s : State) (a : State) (unit : Nat) (fn : Nat) (inst : Nat), (((s.waitTo (s.hostFn (hostKey unit fn inst)).due).hostMiss (hostKey unit fn inst)).missEffect unit fn inst = a) ∧ (s.trunkOn = true) ∧ ((s.hostFn (hostKey unit fn inst)).host = true) ∧ ((s.hostFn (hostKey unit fn inst)).prev = false) ∧ ((s.hostFn (hostKey unit fn inst)).got = false)) ∧
    (∃ (s : State) (h : HostFn) (unit : Nat) (fn : Nat) (inst : Nat), (s.hostFn (hostKey unit fn inst) = h) ∧ (s.trunkOn = true) ∧ (h.host = true) ∧ (h.prev = true)) ∧
    (∃ (s : State) (p : Nat), (s.inRun = true) ∧ (s.keeper.paused = false) ∧ (p < 16) ∧ ((s.decl (p + 0x10)).declared = true) ∧ ((s.partition p).state = .stopped)) ∧
    (∃ (s : State) (p : Nat), (s.trunkOn = true) ∧ (p < 16) ∧ ((s.partition p).state = .running)) ∧
    (∃ (s : State), (hasFailover s.variant = true) ∧ (s.inRun = true) ∧ (s.keeper.paused = false)) ∧
    (∃ (s : State) (die : Nat), (s.inRun = true) ∧ (die < boughs s.variant) ∧ (s.keeper.retired.contains die = false)) ∧
    (∃ (s : State) (t : State) (die : Nat) (reason : Nat), (t = (if hasFailover s.variant then ({ s with keeper.retired := s.keeper.retired ++ [die] } : State).failover die else ({ s with keeper.retired := s.keeper.retired ++ [die] } : State).onlyDieLost die)) ∧ (s.inRun = true) ∧ (die < boughs s.variant) ∧ (s.keeper.retired.contains die = false) ∧ (1 ≤ reason) ∧ (reason ≤ 3)) :=
  ⟨⟨({ wit with keeper.hostFns := [(hostKey 0x43 0 0, { HostFn.reset with pending := some false })] }), (0x43), (0), (0), (false), by decide +kernel⟩,
    ⟨({ wit with keeper.hostFns := [(hostKey 0x43 0 0, { HostFn.reset with pending := some true })] }), (0x43), (0), (0), (true), by decide +kernel⟩,
    ⟨({ wit with keeper.units := [(2, { UnitSt.reset with phase := .restarting })], keeper.windows := [(0, { Window.reset with running := true, held := [{ req := verbTimeRole.req (ask 0 []), heldAt := 0 }] })] }), _, (0), ({ req := verbTimeRole.req (ask 0 []), heldAt := 0 }), ([]), (verbTimeRole), rfl, rfl, by decide +kernel⟩,
    ⟨(wit.modWin 0x10 (fun x => { x with held := [{ Held.reset with req := { ask 0 [] with win := 0x10, unit := 0x21 } }] })), (0x10), ({ Held.reset with req := { ask 0 [] with win := 0x10, unit := 0x21 } }), ([]), by decide +kernel⟩,
    ⟨({ wit with keeper.windows := [(0, { Window.reset with running := true, held := [{ req := { verbTimeRole.req (ask 0 []) with deadline := 5000001 }, heldAt := 0 }] })] }), (0), (5000001000), by decide +kernel⟩,
    ⟨(wit), (0x42), (2), _, (4), rfl, by decide +kernel⟩,
    ⟨({ wit with keeper.crowns := [(2, { UnitSt.reset with phase := .restarting })] }), (0x42), (2), _, rfl, by decide +kernel⟩,
    ⟨({ wit with keeper.units := [(0x40, { UnitSt.reset with phase := .handover })] }), by decide +kernel⟩,
    ⟨({ wit with keeper.hostFns := [(hostKey 0x43 0 0, { HostFn.reset with host := true, got := false })] }), _, (0x43), (0), (0), rfl, by decide +kernel⟩,
    ⟨({ wit with keeper.hostFns := [(hostKey 0x21 0 23, { HostFn.reset with host := true, prev := true })] }), _, (0x21), (0), (23), rfl, by decide +kernel⟩,
    ⟨({ wit with keeper.decls := [(0x11, { PartDecl.reset with declared := true })] }), (1), by decide +kernel⟩,
    ⟨({ wit with keeper.partitions := [(15, { Partition.reset with state := .running })] }), (15), by decide +kernel⟩,
    ⟨(wit), by decide +kernel⟩,
    ⟨(wit), (1), by decide +kernel⟩,
    ⟨(wit), _, (2), (3), rfl, by decide +kernel⟩⟩

theorem test_witness_TimeFaultRowsComplete :
    (∃ (s : State) (u : State) (v : State) (phase : Int) (gps : Int) (leap : Option Nat), (u = { s with time.pps := true, time.lastPps := s.hw, time.ppsOfs := gps - (s.hw : Int), time.lockSince := if phase.natAbs ≤ 100 then some (s.time.lockSince.getD s.hw) else none, time.leap := leap.getD s.time.leap, time.leapValid := s.time.leapValid || leap.isSome }) ∧ (v = (if s.time.state = 3 then u else u.timeSteer)) ∧ (s.timeRuns = true) ∧ (s.gnss.fix ≠ 0) ∧ (s.gnss.fix ≠ 5)) ∧
    (∃ (s : State) (u : State), (u = s.waitTo (s.time.lastPps + 2000000000)) ∧ (s.timeRuns = true) ∧ (fixInvalid s.gnss.fix = false)) ∧
    (∃ (s : State), (s.timeRuns = true) ∧ (fixInvalid s.gnss.fix = true)) ∧
    (∃ (s : State) (u : State) (v : State), (u = s.waitTo (s.time.lastSync + 3000000000)) ∧ (v = ({ u with time.gmLost := true, time.gmSelected := false } : State).raiseEv 2 0 1 0x0022 2 0 s.time.gmId ((u.hw - s.time.lastSync) / 1000000) 0) ∧ (s.timeRuns = true) ∧ (s.time.state = 3)) ∧
    (∃ (s : State) (r : Req), (s.serves verbTimeRole r = true) ∧ (u8 r.payload 0 ≤ 3)) ∧
    (∃ (s : State) (f : FaultRec), (s.trunkOn = true) ∧ (s.running 0x03 0 = true) ∧ (s.keeper.paused = false) ∧ (s.faultTake.faults.current = some f)) ∧
    (∃ (s : State) (r : Req), (s.serves verbFaultStatus r = true)) ∧
    (∃ (s : State) (r : Req), (s.serves verbFaultRaise r = true) ∧ (raiseOk r.win (u16 r.payload 0) (u8 r.payload 2) = true)) :=
  ⟨⟨({ wit with gnss := { Gnss.reset with fix := 1 }, time.state := 1 }), _, _, (-100), (-5), (some 18), rfl, rfl, by decide +kernel⟩,
    ⟨({ wit with time.state := 1, gnss.fix := 1 }), _, rfl, by decide +kernel⟩,
    ⟨({ wit with time.state := 1 }), by decide +kernel⟩,
    ⟨({ wit with time.state := 3 }), _, _, rfl, rfl, by decide +kernel⟩,
    ⟨(wit), (ask 0 (bs [3, 7, 0, 0])), by decide +kernel⟩,
    ⟨({ wit with faults := { Faults.reset with queue := [{}] } }), ({}), by decide +kernel⟩,
    ⟨(wit), (ask 0 []), by decide +kernel⟩,
    ⟨(wit), (ask 0 (bs [0, 0xF0, 7, 0, 0,0,0,0, 0,0,0,0, 0,0,0,0, 0,0,0,0])), by decide +kernel⟩⟩

theorem test_witness_NetworkEventRowsComplete :
    (∃ (s : State) (n : Nat) (a : Nat), (s.nmRuns = true) ∧ ((s.net n).managed = true) ∧ ((s.net n).state ≠ 5) ∧ ((s.net n).state ≠ 4) ∧ (a ≠ (s.net n).addr) ∧ (a < 32)) ∧
    (∃ (s : State) (n : Nat) (a : Nat), (s.nmRuns = true) ∧ ((s.net n).managed = true) ∧ ((s.net n).state = 4) ∧ (a ≠ (s.net n).addr) ∧ (a < 32)) ∧
    (∃ (s : State) (a : State) (q : State) (n : Nat) (t : Nat) (x : NmNet), (a = (s.waitTo t).modNet n (fun x => { x with sendAt := none, firstAlive := none })) ∧ (x = a.net n) ∧ (q = (a.nmSend n (2 + a.readyBit n) x.successor 0).modNet n (fun x => { x with ownReady := a.nmBlock n == 0, allReady := true })) ∧ (s.nmRuns = true) ∧ ((s.net n).managed = true) ∧ ((s.net n).state < 4) ∧ ((s.net n).sendAt = some t) ∧ (x.state ≠ 3 ∨ x.committed = true) ∧ (a.nmBlock n ≠ 0 ∨ x.ownReady = false ∨ x.allReady = false ∨ x.initFlag = false)) ∧
    (∃ (s : State) (n : Nat), (s.nmRuns = true) ∧ ((s.net n).managed = true) ∧ ((s.net n).state < 3) ∧ ((s.net n).expiries < 2)) ∧
    (∃ (s : State) (n : Nat), (s.nmRuns = true) ∧ ((s.net n).managed = true)) ∧
    (∃ (s : State) (a : State) (n : Nat), (a = (((portsOf (s.net n).t1Ports).foldl State.portSleep ((s.waitTo ((s.net n).finalAt + 200000000)).canSleep (s.net n).chan)).modNet n (fun x => { x with tc10Wait := 0, sendAt := none })).nmState n 5) ∧ (s.operating = true) ∧ ((s.net n).managed = true) ∧ ((s.net n).state = 4)) ∧
    (∃ (s : State) (n : Nat), (s.nmRuns = true) ∧ ((s.net n).managed = true) ∧ ((s.net n).state = 4) ∧ ((s.net n).tc10Wait ≠ 0)) ∧
    (∃ (s : State) (n : Nat) (t : Nat), (s.nmRuns = true) ∧ ((s.net n).managed = true) ∧ ((s.net n).state < 4) ∧ ((s.net n).blockS ≠ 0) ∧ ((s.net n).consentAt = some t)) ∧
    (∃ (s : State) (ch : Nat) (n : Nat), (s.parked = false) ∧ (s.operating = true) ∧ (s.nmRuns = true) ∧ ((s.canCh ch).asleep = true) ∧ ((s.canCh ch).wakeMode = 0) ∧ (s.netOf ch = some n) ∧ ((s.net n).state = 5)) ∧
    (∃ (s : State) (ch : Nat) (id : Nat) (data : List Byte), (s.parked = true) ∧ ((s.canCh ch).asleep = true) ∧ ((s.canCh ch).wakeMode = 1) ∧ (ch < 4) ∧ ((s.canCh ch).wakeMatch id data = true)) ∧
    (∃ (s : State) (port : Nat) (n : Nat), (s.parked = false) ∧ (s.operating = true) ∧ (s.nmRuns = true) ∧ (port ≤ 5) ∧ ((s.ethPort port).asleep = true) ∧ ((s.ethPort port).tc10 = true) ∧ (s.netOfPort port = some n) ∧ ((s.net n).state = 5)) ∧
    (∃ (s : State) (port : Nat), (s.parked = true) ∧ (port ≤ 5) ∧ ((s.ethPort port).asleep = true) ∧ ((s.ethPort port).tc10 = true)) :=
  ⟨⟨({ wit with nm.nets := [(1, { NmNet.reset with managed := true, state := 1, addr := 3, chan := 2 })] }), (1), (4), by decide +kernel⟩,
    ⟨({ wit with nm.nets := [(1, { NmNet.reset with managed := true, state := 4, addr := 3, chan := 2 })] }), (1), (4), by decide +kernel⟩,
    ⟨({ wit with nm.nets := [(1, { NmNet.reset with managed := true, state := 2, addr := 3, chan := 2, present := 24, sendAt := some 5000000000 })] }), _, _, (1), (5000000000), _, rfl, rfl, rfl, by decide +kernel⟩,
    ⟨({ wit with nm.nets := [(1, { NmNet.reset with managed := true, state := 2, addr := 3, chan := 2, present := 24, tMax := 260 })] }), (1), by decide +kernel⟩,
    ⟨({ wit with nm.nets := [(1, { NmNet.reset with managed := true, state := 4, addr := 3, chan := 2 })] }), (1), by decide +kernel⟩,
    ⟨({ wit with nm.nets := [(1, { NmNet.reset with managed := true, state := 4, addr := 3, chan := 2 })] }), _, (1), rfl, by decide +kernel⟩,
    ⟨({ wit with nm.nets := [(1, { NmNet.reset with managed := true, state := 4, addr := 3, chan := 2, tc10Wait := 1 })] }), (1), by decide +kernel⟩,
    ⟨({ wit with nm.nets := [(1, { NmNet.reset with managed := true, state := 2, blockS := 60, consentAt := some 7 })] }), (1), (7), by decide +kernel⟩,
    ⟨({ wit with nm.nets := [(1, { NmNet.reset with managed := true, state := 5, chan := 2 })], can.ch := [(2, { CanCh.reset with asleep := true, wakeMode := 0 })] }), (2), (1), by decide +kernel⟩,
    ⟨({ State.reset with power.state := .selective, can.ch := [(2, { CanCh.reset with asleep := true, wakeMode := 1, wakeId := 5, wakeMask := 0x1FFFFFFF, wakeDlc := 0 })] }), (2), (5), ([]), by decide +kernel⟩,
    ⟨({ wit with nm.nets := [(1, { NmNet.reset with managed := true, state := 5, chan := 2, t1Ports := 4 })], eth.ports := [(2, { EthPort.reset with asleep := true, tc10 := true })] }), (2), (1), by decide +kernel⟩,
    ⟨({ State.reset with power.state := .selective, eth.ports := [(2, { EthPort.reset with asleep := true, tc10 := true })] }), (2), by decide +kernel⟩⟩

theorem test_witness_NetworkVerbsComplete :
    (∃ (s : State) (r : Req), (s.serves verbNmStatus r = true)) ∧
    (∃ (s : State) (r : Req), (s.serves verbNmWakeCause r = true)) ∧
    (∃ (s : State) (r : Req) (a : State), (((if (s.net r.inst).managed then (portsOf (s.net r.inst).t1Ports).foldl State.portWake ((s.offered verbNmConfig r).canWake (s.net r.inst).chan) else s.offered verbNmConfig r).modNet r.inst (fun y => { NmNet.reset with holds := y.holds, state := y.state, stateAt := y.stateAt, aborts := y.aborts })).nmState r.inst 0 = a) ∧ (s.serves verbNmConfig r = true) ∧ ((s.net r.inst).state ≠ 3) ∧ ((s.net r.inst).state ≠ 4) ∧ (u8 r.payload 0 = 0)) ∧
    (∃ (s : State) (r : Req) (a : State), ((portsOf (u8 r.payload 12)).foldl State.portWake (((if ((s.offered verbNmConfig r).net r.inst).managed then (portsOf ((s.offered verbNmConfig r).net r.inst).t1Ports).foldl State.portWake ((s.offered verbNmConfig r).canWake ((s.offered verbNmConfig r).net r.inst).chan) else s.offered verbNmConfig r).modNet r.inst (fun y => { NmNet.reset with managed := true, chan := u8 r.payload 1, addr := u8 r.payload 2, initFlag := bit (u8 r.payload 3) 0, partialNet := bit (u8 r.payload 3) 1, baseId := u16 r.payload 4, tTyp := u16 r.payload 6, tMax := u16 r.payload 8, blockS := u16 r.payload 10, t1Ports := u8 r.payload 12, holds := y.holds, state := y.state, stateAt := y.stateAt, aborts := y.aborts, lastWake := y.lastWake, lastAbort := y.lastAbort })).canWake (u8 r.payload 1)) = a) ∧ (s.serves verbNmConfig r = true) ∧ (((s.offered verbNmConfig r).net r.inst).state ≠ 3) ∧ (((s.offered verbNmConfig r).net r.inst).state ≠ 4) ∧ (u8 r.payload 0 = 1) ∧ (u8 r.payload 1 ≤ 7) ∧ (u8 r.payload 2 ≤ 31) ∧ (u8 r.payload 3 ≤ 3) ∧ (u16 r.payload 4 ≤ 0x7E0) ∧ (u16 r.payload 4 % 32 = 0) ∧ (10 ≤ u16 r.payload 6) ∧ (u16 r.payload 6 ≤ 1000) ∧ (2 * u16 r.payload 6 ≤ u16 r.payload 8) ∧ (u16 r.payload 8 ≤ 10000) ∧ (u16 r.payload 10 ≤ 3600) ∧ (u8 r.payload 12 < 64) ∧ ((portsOf (u8 r.payload 12)).all (fun q => ((s.offered verbNmConfig r).ethPort q).tc10) = true) ∧ ((List.range 3).any (fun m => m != r.inst && ((s.offered verbNmConfig r).net m).managed && (((s.offered verbNmConfig r).net m).chan == u8 r.payload 1 || ((s.offered verbNmConfig r).net m).t1Ports &&& u8 r.payload 12 != 0)) = false)) ∧
    (∃ (s : State) (r : Req), (s.serves verbNmRequest r = true) ∧ (u8 r.payload 0 ≤ 1)) ∧
    (∃ (s : State) (r : Req), (s.serves verbNmCanwake r = true) ∧ (u8 r.payload 0 ≤ 2) ∧ (u8 r.payload 0 = 1 → r.inst - 0x100 ≤ 3) ∧ (5 ≤ u8 r.payload 1) ∧ (u8 r.payload 1 ≤ 50) ∧ (u8 r.payload 2 ≤ 1) ∧ (u8 r.payload 3 ≤ 8) ∧ (bits (u32 r.payload 4) 30 29 = 0) ∧ ([125, 250, 500, 1000].contains (u16 r.payload 12) = true)) :=
  ⟨⟨(wit), (ask 1 []), by decide +kernel⟩,
    ⟨(wit), (ask 0 []), by decide +kernel⟩,
    ⟨(wit), (ask 1 (bs [0, 0, 0, 0, 0, 0, 0, 0, 0, 0, 0, 0, 0, 0, 0, 0])), _, rfl, by decide +kernel⟩,
    ⟨(wit), (ask 1 (bs [1, 2, 3, 1, 0, 1, 100, 0, 4, 1, 60, 0, 0, 0, 0, 0])), _, rfl, by decide +kernel⟩,
    ⟨(wit), (ask 1 (bs [1, 0, 0, 0])), by decide +kernel⟩,
    ⟨(wit), (ask 0x102 (bs [1, 10, 0, 8, 5, 0, 0, 0, 255, 255, 255, 31, 125, 0, 0, 0, 0, 0, 0, 0, 0, 0, 0, 0])), by decide +kernel⟩⟩

theorem test_witness_OutputTimedRowsComplete :
    (∃ (s : State) (o : Nat), (s.outRuns o = true) ∧ ((s.out o).cfg.mode = 2 ∨ (s.out o).ramp.isSome = true) ∧ ((s.out o).pend = none)) ∧
    (∃ (s : State) (a : State) (o : Nat) (g : OutCfg), (a = (let b := s.pwmBoundary o; if g.mode = 2 ∧ (s.out o).lamp.isNone ∧ (g.periodNs ≠ (s.out o).cfg.periodNs ∨ g.phaseNs ≠ (s.out o).cfg.phaseNs) then b.waitTo (if b.hw ≤ g.phaseNs then g.phaseNs else g.phaseNs + (b.hw - g.phaseNs + g.periodNs - 1) / g.periodNs * g.periodNs) else b)) ∧ (s.outRuns o = true) ∧ ((s.out o).cfg.mode = 2 ∨ (s.out o).ramp.isSome = true) ∧ ((s.out o).pend = some g)) ∧
    (∃ (s : State) (a : State) (b : State) (d : State) (e : State) (o : Nat) (t0 : Nat), (a = s.waitTo t0) ∧ (b = a.modOut o (fun c => { c with inrushEnd := none, retryPwm := false, retryOn := false, testDue := false })) ∧ (d = (if (a.out o).retryPwm then (b.modOut o (fun c => { c with skip := true })).clearFault 0x4004 0x22 o else b).outEval o false) ∧ (e = (if (a.out o).retryPwm then d.modOut o (fun c => { c with skip := c.cfg.mode == 2 && !c.on }) else d)) ∧ ((s.out o).inrushEnd = some t0) ∧ (s.outRuns o = true)) ∧
    (∃ (s : State), (s.running 0x22 0 = true)) ∧
    (∃ (s : State) (a : State) (b : State) (d : State) (g : Nat) (c : Int) (curs : List (Nat × Nat)), (a = (s.boundary 181 100000 0).modGroup g (fun x => { x with dieC := c, hot := decide (c ≥ 1500) })) ∧ (b = (if c ≥ 1400 then (groupChs g).foldl (fun (u : State) o => if (u.out o).retryOn then (u.modOut o (fun x => { x with retryOn := false })).outEval o false else u) a else a)) ∧ (d = (if c ≥ 1500 then (groupChs g).foldl (State.dieChannel c curs) b else b)) ∧ (s.running 0x22 0 = true) ∧ (g < 19)) ∧
    (∃ (s : State) (o : Nat), (s.outRuns o = true) ∧ ((s.out o).retryPwm = true) ∧ ((s.group (groupOf o)).dieC < 1400)) ∧
    (∃ (s : State) (o : Nat) (t0 : Nat) (n0 : Nat) (rest : List (Nat × Nat)), ((s.out o).clamps = (t0, n0) :: rest) ∧ (s.outRuns o = true) ∧ (((((s.waitTo t0).modOut o (fun c => { c with clamps := clampLive (s.waitTo t0).hw c.clamps })).modGroup (groupOf o) (fun x => { x with clamps := clampLive (s.waitTo t0).hw x.clamps })).out o).clampLock = none) ∧ (((((s.waitTo t0).modOut o (fun c => { c with clamps := clampLive (s.waitTo t0).hw c.clamps })).modGroup (groupOf o) (fun x => { x with clamps := clampLive (s.waitTo t0).hw x.clamps })).group (groupOf o)).lock = none)) ∧
    (∃ (s : State) (a : State) (o : Nat), (a = s.boundary (189 + 1000 * o) ((s.out o).cfg.testMs * 1000000) 0) ∧ (s.outRuns o = true) ∧ ((s.out o).cfg.tagged = true) ∧ ((s.out o).cfg.testMs ≠ 0) ∧ ((s.out o).testing = none)) ∧
    (∃ (s : State) (a : State) (b : State) (o : Nat) (mv : Nat) (t0 : Nat) (len : Nat), (a = s.waitTo (t0 + len * 1000)) ∧ (b = (a.modOut o (fun c => { c with testing := none, pulse := false, on := c.on || (c.pulse && !a.clampLocked o), offSince := if c.pulse && a.clampLocked o then a.hw else c.offSince })).outEval o false) ∧ ((s.out o).testing = some (t0, len)) ∧ (s.outRuns o = true) ∧ (mv < 2000)) ∧
    (∃ (s : State) (a : State) (slot : Nat) (o : Nat) (edge1 : Nat), (edge1 = (s.parkSlot slot).edgeAt + (if (s.parkSlot slot).level then (s.parkSlot slot).onMs else (s.parkSlot slot).offMs) * (if s.parked then 32768 else 1000000)) ∧ (a = (if s.parked then { s with time.parkPeriods := max s.time.parkPeriods (edge1 / 1000) } else s.waitTo edge1)) ∧ ((s.parkSlot slot).out = some o) ∧ ((s.parkSlot slot).driving = true) ∧ ((s.parkSlot slot).flash = true) ∧ ((s.parkSlot slot).tripped = 0)) ∧
    (∃ (s : State) (slot : Nat) (t0 : Nat), ((s.parkSlot slot).endAt = some t0) ∧ (s.parked = true) ∧ ((s.parkSlot slot).driving = true)) ∧
    (∃ (s : State) (slot : Nat) (cause : Nat) (o : Nat), ((s.parkSlot slot).out = some o) ∧ (s.parked = true) ∧ ((s.parkSlot slot).driving = true) ∧ ((s.parkSlot slot).tripped = 0) ∧ (cause = 1 ∨ cause = 2)) :=
  ⟨⟨({ wit with outs.ch := [(71, { OutCh.reset with cfg.mode := 2 })] }), (71), by decide +kernel⟩,
    ⟨({ wit with outs.ch := [(71, { OutCh.reset with cfg := { OutCfg.reset with mode := 2, periodNs := 1000000 }, pend := some { OutCfg.reset with mode := 2, periodNs := 500000 } })] }), _, (71), ({ OutCfg.reset with mode := 2, periodNs := 500000 }), rfl, by decide +kernel⟩,
    ⟨({ wit with outs.ch := [(71, { OutCh.reset with inrushEnd := some 7 })] }), _, _, _, _, (71), (7), rfl, rfl, rfl, rfl, by decide +kernel⟩,
    ⟨(wit), by decide +kernel⟩,
    ⟨(wit), _, _, _, (18), (1500), ([]), rfl, rfl, rfl, by decide +kernel⟩,
    ⟨({ wit with outs.ch := [(71, { OutCh.reset with retryPwm := true })] }), (71), by decide +kernel⟩,
    ⟨({ wit with outs.ch := [(71, { OutCh.reset with clamps := [(7, 1)] })] }), (71), (7), (1), ([]), by decide +kernel⟩,
    ⟨({ wit with outs.ch := [(71, { OutCh.reset with cfg.tagged := true, cfg.testMs := 100 })] }), _, (71), rfl, by decide +kernel⟩,
    ⟨({ wit with outs.ch := [(71, { OutCh.reset with testing := some (7, 200) })] }), _, _, (71), (1999), (7), (200), rfl, rfl, by decide +kernel⟩,
    ⟨({ wit with outs.parkHold := [(3, { ParkHold.reset with out := some 28, driving := true, flash := true })] }), _, (3), (28), _, rfl, rfl, by decide +kernel⟩,
    ⟨({ wit with power.state := .deep, outs.parkHold := [(3, { ParkHold.reset with out := some 28, driving := true, endAt := some 7 })] }), (3), (7), by decide +kernel⟩,
    ⟨({ wit with power.state := .deep, outs.parkHold := [(3, { ParkHold.reset with out := some 28, driving := true })] }), (3), (2), (28), by decide +kernel⟩⟩

theorem test_witness_OutputProtectionRowsComplete :
    (∃ (s : State) (b : State) (o : Nat) (peak : Nat) (k : Nat), (s.latchCause o peak = k) ∧ (((s.modOut o (fun c => { c with latched := k, mailbox := fZero })).raiseEv 0x22 o (128 + groupOf o) 0x4001 4 o k peak (b2n (s.inWindow o))).outEval o false = b) ∧ (s.outRuns o = true) ∧ ((s.out o).on = true) ∧ (k ≠ 0) ∧ ((s.out o).latched = 0) ∧ (s.latchFiltered o k = true)) ∧
    (∃ (s : State) (g : Nat) (temp : Nat), (s.running 0x22 0 = true) ∧ (g < 19) ∧ (temp ≥ 1750) ∧ ((s.group g).shutdown = false)) ∧
    (∃ (s : State) (a : State) (o : Nat) (energy : Nat), (a = (s.modOut o (fun c => { c with clamps := clampLive s.hw c.clamps ++ [(s.hw + 1000000000, energy)] })).modGroup (groupOf o) (fun x => { x with clamps := clampLive s.hw x.clamps ++ [(s.hw + 1000000000, energy)] })) ∧ (s.outRuns o = true) ∧ (clampSum (a.out o).clamps < chBudget (outClass o)) ∧ (clampSum (a.group (groupOf o)).clamps < groupBudget (outClass o))) ∧
    (∃ (s : State) (o : Nat) (cur : Nat), (s.outRuns o = true) ∧ ((s.out o).cfg.mode ≠ 0) ∧ ((s.out o).openLoad = false) ∧ ((s.out o).on = true) ∧ (cur < (s.out o).openThr o) ∧ ((s.out o).onSince + 50000000 ≤ s.hw)) ∧
    (∃ (s : State) (o : Nat) (mv : Nat), (s.outRuns o = true) ∧ (s.offChecked o = true) ∧ ((s.out o).shortBat = false) ∧ (mv > 7000)) ∧
    (∃ (s : State) (o : Nat), (s.outRuns o = true) ∧ ((s.out o).openLoad = true) ∧ ((s.out o).diagAt + 100000000 ≤ s.hw)) ∧
    (∃ (s : State) (o : Nat), (s.outRuns o = true) ∧ ((s.out o).shortBat = true) ∧ ((s.out o).diagAt + 100000000 ≤ s.hw)) :=
  ⟨⟨({ wit with outs.ch := [(71, { OutCh.reset with on := true })] }), _, (71), (100000), _, rfl, rfl, by decide +kernel⟩,
    ⟨(wit), (18), (1750), by decide +kernel⟩,
    ⟨(wit), _, (71), (1), rfl, by decide +kernel⟩,
    ⟨({ wit with outs.ch := [(71, { OutCh.reset with on := true, cfg.mode := 1, cfg.openMa := 50 })] }), (71), (0), by decide +kernel⟩,
    ⟨({ wit with outs.ch := [(71, { OutCh.reset with cfg.offCheck := true })] }), (71), (7001), by decide +kernel⟩,
    ⟨({ wit with outs.ch := [(71, { OutCh.reset with openLoad := true })] }), (71), by decide +kernel⟩,
    ⟨({ wit with outs.ch := [(71, { OutCh.reset with shortBat := true })] }), (71), by decide +kernel⟩⟩

theorem test_witness_OutputVerbsComplete :
    (∃ (s : State) (r : Req) (c : OutCh), (c = s.out r.inst) ∧ (s.serves verbOutStatus r = true) ∧ (r.inst < 72)) ∧
    (∃ (s : State) (r : Req) (g : OutCfg), (g = outCfgOf r.payload) ∧ (s.serves verbOutConfig r = true) ∧ ((s.out r.inst).cfg.mode = 2) ∧ (g.mode = 2) ∧ ((s.out r.inst).bound = 0) ∧ (r.win = 0) ∧ (outCfgOk r.inst r.payload = true)) ∧
    (∃ (s : State) (r : Req) (g : OutCfg), (g = outCfgOf r.payload) ∧ (s.serves verbOutConfig r = true) ∧ ((s.out r.inst).cfg.mode ≠ 2) ∧ ((s.out r.inst).bound = 0) ∧ (r.win = 0) ∧ (outCfgOk r.inst r.payload = true)) ∧
    (∃ (s : State) (r : Req), (s.serves verbOutSet r = true) ∧ ((s.out r.inst).bound = 0) ∧ ((s.out r.inst).cfg.mode ≠ 0) ∧ ((s.out r.inst).cfg.mode ≠ 1) ∧ (isDuty (f32 r.payload 0) = true) ∧ (u8 r.payload 4 ≤ 1) ∧ ((s.out r.inst).latched = 0) ∧ ((s.offered verbOutSet r).clampLocked r.inst = false) ∧ ((s.out r.inst).thermLatch = false) ∧ ((s.group (groupOf r.inst)).shutdown = false) ∧ ((s.out r.inst).safetyOff = false)) ∧
    (∃ (s : State) (r : Req), (s.serves verbOutSet r = true) ∧ ((s.out r.inst).bound = 0) ∧ ((s.out r.inst).cfg.mode = 1) ∧ (isDuty (f32 r.payload 0) = true) ∧ (fEq (f32 r.payload 0) fZero = true) ∧ (u8 r.payload 4 ≤ 1)) ∧
    (∃ (s : State) (r : Req), (s.serves verbOutClear r = true) ∧ (r.inst < 72) ∧ ((s.out r.inst).latched ≠ 0) ∧ ((s.out r.inst).thermLatch = false)) ∧
    (∃ (s : State) (r : Req), (s.serves verbOutParkhold r = true) ∧ (u8 r.payload 0 ≤ 3) ∧ (u8 r.payload 1 = 0xFF)) ∧
    (∃ (s : State) (r : Req) (p : List Byte), (s.serves verbOutParkhold r = true) ∧ (p = r.payload) ∧ (u8 p 0 ≤ 3) ∧ (28 ≤ u8 p 1) ∧ (u8 p 1 ≤ 71) ∧ (u8 p 2 = 0) ∧ (1 ≤ u8 p 3) ∧ (u8 p 3 ≤ 7) ∧ (100 ≤ u16 p 4) ∧ (u16 p 4 ≤ 2000) ∧ (u16 p 8 ≤ 1440) ∧ ((List.range 4).any (fun i => i != u8 p 0 && (s.parkSlot i).out == some (u8 p 1)) = false) ∧ ((s.out (u8 p 1)).cfg.tagged = false)) :=
  ⟨⟨(wit), (ask 71 []), _, rfl, by decide +kernel⟩,
    ⟨({ wit with outs.ch := [(71, { OutCh.reset with cfg.mode := 2 })] }), (ask 71 (bs [2, 0, 0, 0, 0x40, 0x42, 0x0F, 0, 0, 0, 0, 0, 0, 0, 0, 0, 0, 0, 0, 0, 0, 0, 0, 0])), _, rfl, by decide +kernel⟩,
    ⟨(wit), (ask 71 (bs [1, 0, 0, 0, 0x40, 0x42, 0x0F, 0, 0, 0, 0, 0, 0, 0, 0, 0, 0, 0, 0, 0, 0, 0, 0, 0])), _, rfl, by decide +kernel⟩,
    ⟨({ wit with outs.ch := [(71, { OutCh.reset with cfg.mode := 2 })] }), (ask 71 (bs [0, 0, 0, 0x3F, 1, 0, 0, 0])), by decide +kernel⟩,
    ⟨({ wit with outs.ch := [(71, { OutCh.reset with cfg.mode := 1 })] }), (ask 71 (zeros 8)), by decide +kernel⟩,
    ⟨({ wit with outs.ch := [(71, { OutCh.reset with latched := 1 })] }), (ask 71 []), by decide +kernel⟩,
    ⟨(wit), (ask 0 (bs [3, 0xFF, 0, 0, 0, 0, 0, 0, 0, 0, 0, 0])), by decide +kernel⟩,
    ⟨(wit), (ask 0 (bs [3, 71, 0, 7, 100, 0, 0, 0, 0xA0, 5, 0, 0])), (bs [3, 71, 0, 7, 100, 0, 0, 0, 0xA0, 5, 0, 0]), by decide +kernel⟩⟩

theorem test_witness_BridgeRowsComplete :
    (∃ (s : State) (a : State) (b : State) (n : Nat) (cur : Nat) (per : Nat), (per = (s.hw - (s.hb n).lastRipple.getD s.hw) / 1000) ∧ (a = s.modHb n (fun b => { b with pos := toSigned 32 (ofSigned 32 (b.pos + (if (s.hb n).dirNeg then -1 else 1))), lastRipple := some s.hw, periods := if b.lastRipple.isNone then [] else (per :: b.periods).take 8 })) ∧ (b = (if (match (s.hb n).periods with | p :: _ => decide (per > 3 * p ∨ p > 3 * per) | [] => false) && (s.hb n).lastRipple.isSome then (a.modHb n (fun b => { b with reliable := false })).raiseEv 0x23 n (147 + n) 0x4105 1 n (ofSigned 32 (a.hb n).pos) (per * 100 / max 1 ((s.hb n).periods.headD 1)) 0 else a)) ∧ (s.hbRuns n = true) ∧ ((s.hb n).ripple = true) ∧ (cur > 300) ∧ ((s.hb n).pinch = none) ∧ ((s.hb n).target = none) ∧ (b.pinchWatch n = false) ∧ ((b.hb n).pinch = none) ∧ ((b.hb n).target = none)) ∧
    (∃ (s : State) (n : Nat) (cur : Nat) (ms : Nat), (s.hbLive n = true) ∧ ((s.hb n).action = 1 ∨ (s.hb n).action = 2) ∧ ((cur > (s.hb n).stallDa * 100 ∧ ms ≥ (s.hb n).stallMs) ∨ (cur > 15000 ∧ ms ≥ 500)) ∧ ((s.hb n).moveAt + ms * 1000000 ≤ s.hw)) ∧
    (∃ (s : State) (n : Nat) (t0 : Nat), ((s.hb n).limitAt = some t0) ∧ (s.hbLive n = true)) ∧
    (∃ (s : State) (n : Nat) (t0 : Nat) (k : Nat) (d : F32), ((s.hb n).revPend = some (t0, k, d)) ∧ ((s.hb n).pinch = none) ∧ (s.hbLive n = true)) ∧
    (∃ (s : State) (n : Nat) (t0 : Nat) (k : Nat) (d : F32) (p0 : Int), ((s.hb n).revPend = some (t0, k, d)) ∧ ((s.hb n).pinch = some (0, p0)) ∧ (s.hbLive n = true)) ∧
    (∃ (s : State) (n : Nat) (p0 : Int), ((s.hb n).pinch = some (1, p0)) ∧ (s.hbLive n = true) ∧ ((s.hb n).ripple = false)) ∧
    (∃ (s : State) (n : Nat) (cur : Nat), (s.hbLive n = true) ∧ (cur ≥ 60000) ∧ ((s.hb n).shorted = false)) ∧
    (∃ (s : State) (n : Nat) (temp : Nat), (s.hbLive n = true) ∧ (temp > 1500) ∧ ((s.hb n).hot = false)) ∧
    (∃ (s : State) (n : Nat) (temp : Nat), (s.hbRuns n = true) ∧ (temp < 1400) ∧ ((s.hb n).hot = true)) ∧
    (∃ (s : State), (s.trunkOn = true)) ∧
    (∃ (s : State) (r : Req) (b : Hb), (b = s.hb r.inst) ∧ (s.serves verbHbStatus r = true)) ∧
    (∃ (s : State) (r : Req) (p : List Byte), (s.serves verbHbConfig r = true) ∧ (p = r.payload) ∧ (bit (u8 p 1) 0 = (s.hb r.inst).tagged) ∧ (u8 p 0 ≤ 1) ∧ (u8 p 1 < 16) ∧ (20 ≤ u16 p 2) ∧ (u16 p 2 ≤ 400) ∧ (20 ≤ u16 p 4) ∧ (u16 p 4 ≤ 500) ∧ (50 ≤ u16 p 6) ∧ (u16 p 6 ≤ 1000) ∧ (10 ≤ u16 p 16) ∧ (u16 p 16 ≤ 400) ∧ (10 ≤ u8 p 18) ∧ (u8 p 18 ≤ 200) ∧ (1 ≤ u16 p 20) ∧ (u16 p 20 ≤ 10000)) ∧
    (∃ (s : State) (r : Req) (p : List Byte), (s.serves verbHbDrive r = true) ∧ (p = r.payload) ∧ ((s.hb r.inst).boundBy = none) ∧ (u8 p 0 = 1 ∨ u8 p 0 = 2) ∧ (u8 p 1 = 0) ∧ (fLe (fFrac 1 20) (f32 p 4) = true) ∧ (fLe (f32 p 4) fOne = true) ∧ (u32 p 12 ≤ 60000) ∧ ((s.hb r.inst).shorted = false) ∧ ((s.hb r.inst).hot = false) ∧ ((s.hb r.inst).safetyOff = false)) ∧
    (∃ (s : State) (r : Req), (s.serves verbHbClear r = true) ∧ ((s.hb r.inst).shorted = true)) ∧
    (∃ (s : State) (r : Req), (s.serves verbHbPosition r = true)) :=
  ⟨⟨({ wit with outs.hb := [(7, { Hb.reset with ripple := true, action := 1 })] }), _, _, (7), (301), _, rfl, rfl, rfl, by decide +kernel⟩,
    ⟨({ wit with outs.hb := [(7, { Hb.reset with ripple := true, action := 2 })] }), (7), (15001), (500), by decide +kernel⟩,
    ⟨({ wit with outs.hb := [(7, { Hb.reset with limitAt := some 7 })] }), (7), (7), by decide +kernel⟩,
    ⟨({ wit with outs.hb := [(7, { Hb.reset with revPend := some (7, 1, fOne) })] }), (7), (7), (1), (fOne), by decide +kernel⟩,
    ⟨({ wit with outs.hb := [(7, { Hb.reset with revPend := some (7, 1, fOne), pinch := some (0, 0) })] }), (7), (7), (1), (fOne), (0), by decide +kernel⟩,
    ⟨({ wit with outs.hb := [(7, { Hb.reset with pinch := some (1, 0) })] }), (7), (0), by decide +kernel⟩,
    ⟨(wit), (7), (60000), by decide +kernel⟩,
    ⟨(wit), (7), (1501), by decide +kernel⟩,
    ⟨({ wit with outs.hb := [(7, { Hb.reset with hot := true })] }), (7), (1399), by decide +kernel⟩,
    ⟨(wit), by decide +kernel⟩,
    ⟨(wit), (ask 7 []), _, rfl, by decide +kernel⟩,
    ⟨(wit), (ask 7 (bs [0, 0, 20, 0, 20, 0, 50, 0, 0, 0, 0, 0, 0, 0, 0, 0, 10, 0, 10, 0, 1, 0, 0, 0])), (bs [0, 0, 20, 0, 20, 0, 50, 0, 0, 0, 0, 0, 0, 0, 0, 0, 10, 0, 10, 0, 1, 0, 0, 0]), by decide +kernel⟩,
    ⟨(wit), (ask 7 (bs [1, 0, 0, 0, 0, 0, 0x80, 0x3F, 0, 0, 0, 0, 0, 0, 0, 0])), (bs [1, 0, 0, 0, 0, 0, 0x80, 0x3F, 0, 0, 0, 0, 0, 0, 0, 0]), by decide +kernel⟩,
    ⟨({ wit with outs.hb := [(7, { Hb.reset with shorted := true })] }), (ask 7 []), by decide +kernel⟩,
    ⟨(wit), (ask 7 (zeros 4)), by decide +kernel⟩⟩

theorem test_witness_PowerStateRowsComplete :
    (∃ (s : State) (st : Int → Stud) (a : Int) (b : Int) (d : Int), (st = (fun v => { Stud.reset with mv := v, low := decide (v < 6000), rev := decide (v < 0) })) ∧ (s.power.state = .off) ∧ (5400 ≤ orMv a b d)) ∧
    (∃ (s : State) (cause : Nat), (s.parked = true) ∧ (s.power.lossAt = none) ∧ (s.power.trunkDue = 0) ∧ (wakeEnabled s.power.state cause = true) ∧ (cause ≠ 1 ∨ s.power.lastStart = 0)) ∧
    (∃ (s : State), (s.power.trunkDue ≠ 0) ∧ (s.trunkOn = false)) ∧
    (∃ (s : State), (s.power.state ≠ .shutdown) ∧ (s.power.state ≠ .off) ∧ (s.parked = false)) ∧
    (∃ (s : State) (a : State) (t : Nat), ((s.waitTo t).stopPartitions.runDown.boughsOff.powerTo .keeper 3 = a) ∧ (s.power.state = .ending) ∧ (s.power.grace = some t)) ∧
    (∃ (s : State), (s.power.state = .keeper) ∧ (s.power.ign = false) ∧ (s.power.keywake = false) ∧ (s.wakeInputHeld = false) ∧ (s.power.runReq = false) ∧ (s.power.holds = []) ∧ (s.graftBusy = false)) ∧
    (∃ (s : State) (due : Nat), (due = (match s.power.waitPost with | some t => t + 600000000000 | none => s.power.keeperAt + 60000000000)) ∧ (s.power.state = .keeper ∨ s.power.state = .parking) ∧ (s.parkWaits ≠ 0)) ∧
    (∃ (s : State), (s.power.state = .parking) ∧ (s.power.parkStep = 1) ∧ (s.bodyParkIdle = true)) ∧
    (∃ (s : State), (s.power.state = .parking) ∧ (s.power.parkStep = 2)) ∧
    (∃ (s : State), (s.power.state = .parking) ∧ (s.power.parkStep = 3) ∧ (s.hasStaged = false)) ∧
    (∃ (s : State), (s.power.state = .parking) ∧ (s.power.parkStep = 4) ∧ (s.plateParkIdle = true)) ∧
    (∃ (s : State) (a : State), ((if s.attic.inhibit then s.modPower (fun p => { p with parkStep := 6 }) else (s.modPower (fun p => { p with parkStep := 6 })).flushLarder) = a) ∧ (s.power.state = .parking) ∧ (s.power.parkStep = 5) ∧ (s.nmParkDone = true)) ∧
    (∃ (s : State), (s.power.state = .parking) ∧ (s.power.parkStep = 6)) ∧
    (∃ (s : State) (a : State), ((s.outsPark).trunkStop s.power.target = a) ∧ (s.power.state = .parking) ∧ (s.power.parkStep = 7)) ∧
    (∃ (s : State) (a : State) (mv : Nat), ((({ s with power.logicMv := mv, power.lossMin := mv } : State).flushLarder.dropStage).graftLoss = a) ∧ (s.trunkOn = true) ∧ (s.power.state ≠ .test) ∧ (s.power.lossAt = none) ∧ (mv < 6000)) ∧
    (∃ (s : State) (mv : Nat), (s.trunkOn = false ∨ s.power.state = .test) ∧ (s.power.state ≠ .off) ∧ (s.power.lossAt = none) ∧ (mv < 6000)) ∧
    (∃ (s : State) (mv : Nat) (t : Nat), (s.power.lossAt = some t) ∧ (7000 ≤ mv) ∧ (s.power.state ≠ .test) ∧ (s.power.state ≠ .shutdown)) ∧
    (∃ (s : State), (s.power.lossAt.isSome = true ∨ s.power.state = .shutdown)) :=
  ⟨⟨(State.reset), _, (24000), (0), (0), rfl, by decide +kernel⟩,
    ⟨({ State.reset with power.state := .deep }), (2), by decide +kernel⟩,
    ⟨({ State.reset with power.state := .deep, power.trunkDue := 2 }), by decide +kernel⟩,
    ⟨(wit), by decide +kernel⟩,
    ⟨({ wit with power.state := .ending, power.grace := some 6000000000 }), _, (6000000000), rfl, by decide +kernel⟩,
    ⟨({ wit with power.state := .keeper }), by decide +kernel⟩,
    ⟨({ wit with power.state := .keeper, power.ign := true }), _, rfl, by decide +kernel⟩,
    ⟨({ wit with power.state := .parking, power.parkStep := 1 }), by decide +kernel⟩,
    ⟨({ wit with power.state := .parking, power.parkStep := 2 }), by decide +kernel⟩,
    ⟨({ wit with power.state := .parking, power.parkStep := 3 }), by decide +kernel⟩,
    ⟨({ wit with power.state := .parking, power.parkStep := 4 }), by decide +kernel⟩,
    ⟨({ wit with power.state := .parking, power.parkStep := 5 }), _, rfl, by decide +kernel⟩,
    ⟨({ wit with power.state := .parking, power.parkStep := 6 }), by decide +kernel⟩,
    ⟨({ wit with power.state := .parking, power.parkStep := 7 }), _, rfl, by decide +kernel⟩,
    ⟨(wit), _, (5999), rfl, by decide +kernel⟩,
    ⟨({ wit with power.state := .guard }), (5999), by decide +kernel⟩,
    ⟨({ State.reset with power.state := .reset, power.lossAt := some 7 }), (7000), (7), by decide +kernel⟩,
    ⟨({ State.reset with power.state := .reset, power.lossAt := some 7 }), by decide +kernel⟩⟩

theorem test_witness_SupplyMonitorRowsComplete :
    (∃ (s : State) (stud : Nat) (mv : Int), (stud < 3) ∧ (mv < 6000) ∧ (s.power.state ≠ .off)) ∧
    (∃ (s : State) (u : State) (stud : Nat) (gnd : Nat) (mv : Int), (u = (s.modPower (fun p => { p with gndOpen := gnd })).modStud stud (fun x => { x with mv := mv, low := false })) ∧ (stud < 3) ∧ (6000 ≤ mv) ∧ ((s.stud stud).low = true)) ∧
    (∃ (s : State) (stud : Nat) (ms : Nat) (mv : Int), (s.trunkOn = true) ∧ (stud < 3) ∧ (mv < s.power.warnMv) ∧ (100 ≤ ms) ∧ ((s.stud stud).under = false)) ∧
    (∃ (s : State) (stud : Nat) (mv : Int), (s.trunkOn = true) ∧ (stud < 3) ∧ (s.power.warnMv + 500 < mv) ∧ ((s.stud stud).under = true)) ∧
    (∃ (s : State) (a : State) (stud : Nat) (ms : Nat) (mv : Int), (a = (s.modStud stud (fun x => { x with mv := mv, overR := true })).refreshGates) ∧ (s.power.state ≠ .off) ∧ (stud < 3) ∧ (36000 < mv) ∧ (1 ≤ ms) ∧ ((s.stud stud).overR = false)) ∧
    (∃ (s : State) (stud : Nat) (mv : Int), (stud < 3) ∧ (mv < 35000) ∧ ((s.stud stud).overR = true)) ∧
    (∃ (s : State) (a : State) (stud : Nat) (mv : Int), (a = (s.modStud stud (fun x => { x with mv := mv, rev := true })).refreshGates) ∧ (s.power.state ≠ .off) ∧ (stud < 3) ∧ (mv < 0) ∧ ((s.stud stud).rev = false)) ∧
    (∃ (s : State) (stud : Nat) (mv : Int), (stud < 3) ∧ (0 ≤ mv) ∧ ((s.stud stud).rev = true)) ∧
    (∃ (s : State) (b : Nat), (s.operating = true) ∧ (s.root.mon.testBit b = false) ∧ (s.root.frozen = false ∨ 3 ≤ b) ∧ (b = 0 ∨ b = 3 ∨ b = 5 ∨ b = 6)) ∧
    (∃ (s : State) (a : State) (b : Nat), (a = (((s.modRoot (fun r => { r with mon := r.mon ||| 2 ^ b })).post 0x50 0 238 0xB020 0 b 1 0).raise 0xB020 0x50 b 6 [0, b, 1, 0]).1) ∧ (s.operating = true) ∧ (s.root.mon.testBit b = false) ∧ (s.root.frozen = false ∨ 3 ≤ b) ∧ (b = 1 ∨ b = 2 ∨ b = 4 ∨ b = 7)) ∧
    (∃ (s : State) (a : State) (b : Nat), (a = s.modRoot (fun r => { r with mon := clearBits r.mon (2 ^ b), frozen := r.frozen && b != 7 })) ∧ (b < 8) ∧ (s.root.mon.testBit b = true) ∧ (s.root.frozen = false ∨ 3 ≤ b)) :=
  ⟨⟨(wit), (2), (5999), by decide +kernel⟩,
    ⟨({ State.reset with power.studs := [(2, { Stud.reset with low := true })] }), _, (2), (3), (6000), rfl, by decide +kernel⟩,
    ⟨(wit), (2), (100), (7000), by decide +kernel⟩,
    ⟨({ wit with power.studs := [(2, { Stud.reset with under := true })] }), (2), (30000), by decide +kernel⟩,
    ⟨(wit), _, (2), (1), (36001), rfl, by decide +kernel⟩,
    ⟨({ wit with power.studs := [(2, { Stud.reset with overR := true })] }), (2), (30000), by decide +kernel⟩,
    ⟨(wit), _, (2), (-1), rfl, by decide +kernel⟩,
    ⟨({ wit with power.studs := [(2, { Stud.reset with rev := true })] }), (2), (0), by decide +kernel⟩,
    ⟨(wit), (5), by decide +kernel⟩,
    ⟨(wit), _, (7), rfl, by decide +kernel⟩,
    ⟨({ wit with root.mon := 32 }), _, (5), rfl, by decide +kernel⟩⟩

theorem test_witness_ThermalPowerVerbsComplete :
    (∃ (s : State) (a : State) (k : Nat) (temp : Int), (a = s.thermInstant k) ∧ (s.trunkOn = true) ∧ (s.running 0x71 0 = true) ∧ (k < 49) ∧ (instPresent s.part 0x71 k = true) ∧ (s.inRun = true ∨ k < 10 ∨ 24 ≤ k) ∧ (temp < 1150 ∨ 30 ≤ k ∨ (k < 24 ∧ temp < 1300))) ∧
    (∃ (s : State) (die : Nat) (t : Nat), (s.trunkOn = true) ∧ ((tget DieSt.reset s.thermal.dies die).below = some t) ∧ (0 < (tget DieSt.reset s.thermal.dies die).step)) ∧
    (∃ (s : State) (r : Req), (s.serves verbPowerStatus r = true)) ∧
    (∃ (s : State) (r : Req) (b : List Byte), (s.serves verbPowerConfig r = true) ∧ (b = r.payload) ∧ (u16 b 0 ≤ 3600) ∧ (u8 b 2 = 1 ∨ u8 b 2 = 2) ∧ ((fIsNan (f32 b 4) || (fLe (fInt 6) (f32 b 4) && fLe (f32 b 4) (fInt 30))) = true)) ∧
    (∃ (s : State) (r : Req), (s.serves verbPowerRequest r = true) ∧ (u8 r.payload 0 ≤ 1) ∧ (s.power.parkStep ≠ 7)) ∧
    (∃ (s : State) (r : Req), (s.serves verbPowerRun r = true) ∧ (r.win = 0) ∧ (u8 r.payload 0 ≤ 1)) ∧
    (∃ (s : State) (r : Req), (s.serves verbThermalStatus r = true)) :=
  ⟨⟨(wit), _, (24), (600), rfl, by decide +kernel⟩,
    ⟨({ wit with thermal.dies := [(1, { DieSt.reset with step := 2, below := some 7 })] }), (1), (7), by decide +kernel⟩,
    ⟨(wit), (ask 0 []), by decide +kernel⟩,
    ⟨(wit), (ask 0 (bs [16, 14, 2, 0, 0, 0, 192, 64])), (bs [16, 14, 2, 0, 0, 0, 192, 64]), by decide +kernel⟩,
    ⟨(wit), (ask 0 (bs [1, 0, 0, 0])), by decide +kernel⟩,
    ⟨(wit), (ask 0 (bs [1, 0, 0, 0])), by decide +kernel⟩,
    ⟨(wit), (ask 24 []), by decide +kernel⟩⟩

theorem test_witness_RootBlockRowsComplete :
    (∃ (s : State) (value : Nat), (s.rootRuns = true) ∧ (s.root.serviceAt + s.root.tminUse * 1000000 ≤ s.hw) ∧ (s.hw ≤ s.root.serviceAt + s.root.tmaxUse * 1000000) ∧ (value % 65536 = 65535 - s.root.chal)) ∧
    (∃ (s : State), (s.rootRuns = true) ∧ (s.hw < s.root.serviceAt + s.root.tminUse * 1000000)) ∧
    (∃ (s : State), (s.rootRuns = true) ∧ (s.root.serviceAt + s.root.tminUse * 1000000 ≤ s.hw) ∧ (s.root.serviceAt + s.root.tmaxUse * 1000000 < s.hw)) ∧
    (∃ (s : State) (value : Nat), (s.rootRuns = true) ∧ (s.root.serviceAt + s.root.tminUse * 1000000 ≤ s.hw) ∧ (s.hw ≤ s.root.serviceAt + s.root.tmaxUse * 1000000) ∧ (value % 65536 ≠ 65535 - s.root.chal)) ∧
    (∃ (s : State) (value : Nat), (s.rootRuns = true) ∧ (s.root.wdLock = false) ∧ (10 ≤ bits value 9 0) ∧ (bits value 9 0 ≤ 1000) ∧ (bits value 25 16 + 5 ≤ bits value 9 0)) ∧
    (∃ (s : State), (s.rootRuns = true)) ∧
    (∃ (s : State) (cause : Nat), (s.trunkOn = true) ∧ (s.root.phase = .running) ∧ (cause = 2 ∨ cause = 3 ∨ cause = 7 ∨ cause = 8 ∨ cause = 11)) ∧
    (∃ (s : State), (s.trunkOn = true) ∧ (s.root.phase = .pause)) ∧
    (∃ (s : State), (s.trunkOn = true) ∧ (s.root.phase = .starting) ∧ (s.power.state ≠ .test)) ∧
    (∃ (s : State) (value : Nat), (s.rootRuns = true) ∧ (s.root.wdLock = true) ∧ (1 ≤ s.root.services) ∧ (s.root.cellarHold &&& (value % 2 ^ 29) ≠ 0)) ∧
    (∃ (s : State), (s.rootRuns = true) ∧ (s.root.wdLock = true) ∧ (1 ≤ s.root.services) ∧ (s.root.taggedOff = true)) ∧
    (∃ (s : State), (s.rootRuns = true) ∧ (s.operating = true)) ∧
    (∃ (s : State) (word : Nat), (s.rootRuns = true) ∧ (word < 3)) ∧
    (∃ (s : State) (rule : Nat) (word : Nat), (s.rootRuns = true) ∧ (rule < 64) ∧ (word < 8) ∧ (s.root.ruleEn.testBit rule = false)) ∧
    (∃ (s : State) (word : Nat), (s.rootRuns = true) ∧ (word < 2)) ∧
    (∃ (s : State), (s.operating = true)) :=
  ⟨⟨({ wit with root.serviceAt := 5000000000, root.tmaxUse := 100, root.chal := 1 }), (65534), by decide +kernel⟩,
    ⟨({ wit with root.serviceAt := 5000000000, root.tminUse := 10 }), by decide +kernel⟩,
    ⟨({ wit with root.serviceAt := 0, root.tminUse := 10 }), by decide +kernel⟩,
    ⟨({ wit with root.serviceAt := 5000000000, root.tmaxUse := 100, root.chal := 1 }), (65535), by decide +kernel⟩,
    ⟨(wit), (0x80000064), by decide +kernel⟩,
    ⟨(wit), by decide +kernel⟩,
    ⟨(wit), (7), by decide +kernel⟩,
    ⟨({ wit with root.phase := .pause }), by decide +kernel⟩,
    ⟨({ wit with root.phase := .starting }), by decide +kernel⟩,
    ⟨({ wit with root.wdLock := true, root.services := 1, root.cellarHold := 6 }), (3), by decide +kernel⟩,
    ⟨({ wit with root.wdLock := true, root.services := 1, root.taggedOff := true }), by decide +kernel⟩,
    ⟨(wit), by decide +kernel⟩,
    ⟨(wit), (2), by decide +kernel⟩,
    ⟨(wit), (63), (7), by decide +kernel⟩,
    ⟨(wit), (1), by decide +kernel⟩,
    ⟨(wit), by decide +kernel⟩⟩

theorem test_witness_RootLinkRowsComplete :
    (∃ (s : State) (conn : Nat) (msg : List Byte), (s.rootRuns = true) ∧ ((s.link conn).rx = true) ∧ ((s.link conn).id ≠ 0) ∧ ((s.link conn).state = 1) ∧ (linkValid (s.link conn) msg = true)) ∧
    (∃ (s : State) (conn : Nat) (msg : List Byte), (s.rootRuns = true) ∧ ((s.link conn).rx = true) ∧ ((s.link conn).id ≠ 0) ∧ ((s.link conn).state = 3) ∧ (linkValid (s.link conn) msg = true) ∧ ((u16 msg 4 + 65536 - (s.link conn).lastSeq) % 65536 = 0)) ∧
    (∃ (s : State) (conn : Nat) (msg : List Byte), (s.rootRuns = true) ∧ ((s.link conn).rx = true) ∧ ((s.link conn).id ≠ 0) ∧ ((s.link conn).state = 3) ∧ (linkValid (s.link conn) msg = true) ∧ ((u16 msg 4 + 65536 - (s.link conn).lastSeq) % 65536 ≠ 0) ∧ ((s.link conn).gap < (u16 msg 4 + 65536 - (s.link conn).lastSeq) % 65536)) ∧
    (∃ (s : State) (conn : Nat) (msg : List Byte), (s.rootRuns = true) ∧ ((s.link conn).rx = true) ∧ ((s.link conn).id ≠ 0) ∧ ((s.link conn).state = 3) ∧ (linkValid (s.link conn) msg = true) ∧ ((u16 msg 4 + 65536 - (s.link conn).lastSeq) % 65536 ≠ 0) ∧ ((u16 msg 4 + 65536 - (s.link conn).lastSeq) % 65536 ≤ (s.link conn).gap)) ∧
    (∃ (s : State) (conn : Nat) (msg : List Byte), (s.rootRuns = true) ∧ ((s.link conn).rx = true) ∧ ((s.link conn).id ≠ 0) ∧ ((s.link conn).state ≠ 0) ∧ (linkValid (s.link conn) msg = false)) ∧
    (∃ (s : State) (conn : Nat), (s.rootRuns = true) ∧ ((s.link conn).rx = true) ∧ ((s.link conn).id ≠ 0) ∧ (1 ≤ (s.link conn).state) ∧ ((s.link conn).state ≤ 3)) ∧
    (∃ (s : State) (conn : Nat), (s.rootRuns = true) ∧ ((s.link conn).rx = false) ∧ ((s.link conn).id ≠ 0) ∧ ((s.link conn).state = 3)) ∧
    (∃ (s : State) (conn : Nat), (s.rootRuns = true) ∧ ((s.link conn).id ≠ 0) ∧ ((s.link conn).state = 4) ∧ ((s.link conn).rx = true)) ∧
    (∃ (s : State) (conn : Nat), (s.rootRuns = true) ∧ ((s.link conn).id ≠ 0) ∧ ((s.link conn).state = 4) ∧ ((s.link conn).rx = false)) :=
  ⟨⟨({ wit with root.links := [(3, { LinkConn.reset with rx := true, id := 5, state := 1, udp := true })] }), (3), (bs [5, 0, 0, 0, 0, 0, 0, 0] ++ b32 (linkCrc 5 (bs [5, 0, 0, 0, 0, 0, 0, 0]))), by decide +kernel⟩,
    ⟨({ wit with root.links := [(3, { LinkConn.reset with rx := true, id := 5, state := 3, udp := true })] }), (3), (bs [5, 0, 0, 0, 0, 0, 0, 0] ++ b32 (linkCrc 5 (bs [5, 0, 0, 0, 0, 0, 0, 0]))), by decide +kernel⟩,
    ⟨({ wit with root.links := [(3, { LinkConn.reset with rx := true, id := 5, state := 3, udp := true, gap := 1, lastSeq := 65534 })] }), (3), (bs [5, 0, 0, 0, 0, 0, 0, 0] ++ b32 (linkCrc 5 (bs [5, 0, 0, 0, 0, 0, 0, 0]))), by decide +kernel⟩,
    ⟨({ wit with root.links := [(3, { LinkConn.reset with rx := true, id := 5, state := 3, udp := true, gap := 2, lastSeq := 65534 })] }), (3), (bs [5, 0, 0, 0, 0, 0, 0, 0] ++ b32 (linkCrc 5 (bs [5, 0, 0, 0, 0, 0, 0, 0]))), by decide +kernel⟩,
    ⟨({ wit with root.links := [(3, { LinkConn.reset with rx := true, id := 5, state := 3, udp := true, gap := 2, lastSeq := 65534 })] }), (3), (bs [5, 0, 0, 0, 0, 0, 0, 0, 1, 2, 3, 4]), by decide +kernel⟩,
    ⟨({ wit with root.links := [(3, { LinkConn.reset with rx := true, id := 5, state := 3 })] }), (3), by decide +kernel⟩,
    ⟨({ wit with root.links := [(3, { LinkConn.reset with id := 5, rx := false, state := 3 })] }), (3), by decide +kernel⟩,
    ⟨({ wit with root.links := [(3, { LinkConn.reset with id := 5, rx := true, state := 4 })] }), (3), by decide +kernel⟩,
    ⟨({ wit with root.links := [(3, { LinkConn.reset with id := 5, rx := false, state := 4 })] }), (3), by decide +kernel⟩⟩

theorem test_witness_RootVerbsComplete :
    (∃ (s : State) (r : Req), (s.serves verbRootStatus r = true)) ∧
    (∃ (s : State) (r : Req), (s.serves verbRootLinkStatus r = true) ∧ (u8 r.payload 0 < 32)) ∧
    (∃ (s : State) (r : Req), (s.serves verbRootRestart r = true) ∧ (s.root.phase ≠ .stopped) ∧ (u32 r.payload 0 = 0x52535452)) ∧
    (∃ (s : State) (r : Req), (s.serves verbReflexStatus r = true)) :=
  ⟨⟨(wit), (ask 0 []), by decide +kernel⟩,
    ⟨(wit), (ask 0 (bs [31, 0, 0, 0])), by decide +kernel⟩,
    ⟨(wit), (ask 0 (bs [0x52, 0x54, 0x53, 0x52])), by decide +kernel⟩,
    ⟨(wit), (ask 63 []), by decide +kernel⟩⟩

theorem test_witness_LossRowsComplete :
    (∃ (s : State) (a : State) (ch : Nat) (x : Int), (a = s.snipSettle ch) ∧ (a.lossOn ch = true) ∧ ((a.lossCh ch).striking = false) ∧ ((a.lossCh ch).cfg.thr ≤ (code14 x).natAbs) ∧ ((a.lossCh ch).testing = false) ∧ (a.hw ≥ (a.lossCh ch).tEnd + (a.lossCh ch).cfg.dead * 1000) ∧ ((a.lossCh ch).snip = none ∨ (∃ p, (a.lossCh ch).snip = some p ∧ p.record = none))) ∧
    (∃ (s : State) (a : State) (b : State) (ch : Nat) (x : Int) (p : Snip), (a = s.snipSettle ch) ∧ (b = a.modLoss ch (fun c => { c with snip := some { p with skipped := p.skipped + 1 } })) ∧ (a.lossOn ch = true) ∧ ((a.lossCh ch).striking = false) ∧ ((a.lossCh ch).cfg.thr ≤ (code14 x).natAbs) ∧ ((a.lossCh ch).testing = false) ∧ (a.hw ≥ (a.lossCh ch).tEnd + (a.lossCh ch).cfg.dead * 1000) ∧ ((a.lossCh ch).snip = some p) ∧ (p.record.isSome = true)) ∧
    (∃ (s : State) (a : State) (ch : Nat) (x : Int), (a = s.snipSettle ch) ∧ (a.lossOn ch = true) ∧ ((a.lossCh ch).striking = false) ∧ ((a.lossCh ch).cfg.thr ≤ (code14 x).natAbs) ∧ ((a.lossCh ch).testing = false) ∧ (a.hw < (a.lossCh ch).tEnd + (a.lossCh ch).cfg.dead * 1000)) ∧
    (∃ (s : State) (a : State) (ch : Nat) (x : Int), (a = s.snipSettle ch) ∧ (a.lossOn ch = true) ∧ ((a.lossCh ch).striking = false) ∧ ((a.lossCh ch).cfg.thr ≤ (code14 x).natAbs) ∧ ((a.lossCh ch).testing = true)) ∧
    (∃ (s : State) (a : State) (b : State) (ch : Nat) (n : Nat) (samples : List Int) (l : List Int) (k : Nat × Nat × Nat × Nat), (n = ringEnd (s.lossCh ch).onsetCfg 0 0 (samples.drop 201)) ∧ (a = (s.waitTo ((s.lossCh ch).tOn + 2000 * n)).snipSettle ch) ∧ (l = samples.map code14) ∧ (k = classify (s.lossCh ch).onsetSet (s.lossCh ch).onsetCfg.minScore ((l.drop 184).take 128)) ∧ (b = a.modLoss ch (fun c => { c with striking := false, tEnd := a.hw, strikes := (c.strikes + 1) % 2 ^ 32, strikeNo := (c.strikeNo + 1) % 2 ^ 32, grain := if k.1 = 1 then (c.grain + 1) % 2 ^ 32 else c.grain, straw := if k.1 = 0 then (c.straw + 1) % 2 ^ 32 else c.straw, uncls := if k.1 = 2 then (c.uncls + 1) % 2 ^ 32 else c.uncls, openBin := { c.openBin with strikes := c.openBin.strikes + 1, grain := c.openBin.grain + b2n (k.1 == 1), straw := c.openBin.straw + b2n (k.1 == 0) } })) ∧ (s.running 0x10 0 = true) ∧ ((s.lossCh ch).striking = true)) ∧
    (∃ (s : State), (unitFitted s.variant 0x10 = true) ∧ (s.running 0x10 0 = true)) ∧
    (∃ (s : State) (a : State) (ch : Nat), (a = s.waitTo ((s.lossCh ch).testAt + (s.lossCh ch).cfg.testMs * 1000000)) ∧ (s.lossOn ch = true) ∧ ((s.lossCh ch).cfg.testMs ≠ 0) ∧ ((s.lossCh ch).testing = false) ∧ ((a.lossCh ch).striking = false) ∧ ((a.lossCh ch).tEnd + (a.lossCh ch).cfg.dead * 1000 ≤ a.hw)) ∧
    (∃ (s : State) (ch : Nat) (resp : Nat), (s.running 0x10 0 = true) ∧ ((s.lossCh ch).testing = true) ∧ (25 ≤ resp) ∧ (resp ≤ 150) ∧ (((s.waitTo ((s.lossCh ch).testAt + 200000)).lossCh ch).sensor = 0)) ∧
    (∃ (s : State) (ch : Nat) (resp : Nat), (s.running 0x10 0 = true) ∧ ((s.lossCh ch).testing = true) ∧ (resp > 150) ∧ ((s.lossCh ch).openRun ≥ 1) ∧ ((s.lossCh ch).sensor = 0)) ∧
    (∃ (s : State) (r : Req), (s.serves verbLossStatus r = true)) ∧
    (∃ (s : State) (r : Req) (p : List Byte), (s.serves verbLossConfig r = true) ∧ (p = r.payload) ∧ (u8 p 0 ≤ 2) ∧ (u8 p 1 ≤ 1) ∧ (16 ≤ u16 p 2) ∧ (u16 p 2 ≤ 8191) ∧ (20 ≤ u16 p 4) ∧ (u16 p 4 ≤ 2000) ∧ (10 ≤ u16 p 6) ∧ (u16 p 6 ≤ 90) ∧ (25 ≤ u16 p 8) ∧ (u16 p 8 ≤ 500) ∧ (1 ≤ u8 p 10) ∧ (u8 p 10 ≤ 100) ∧ (u8 p 11 ≤ 127) ∧ (u16 p 12 = 0 ∨ (100 ≤ u16 p 12 ∧ u16 p 12 ≤ 10000))) ∧
    (∃ (s : State) (a : State) (r : Req) (l : List Template), (a = s.offered verbLossTemplates r) ∧ (l = (List.range 8).map (templateOf (a.regionRead r.win (u8 r.payload 0) 0 2112))) ∧ (s.serves verbLossTemplates r = true) ∧ (a.regionCheck r.win (u8 r.payload 0) 2112 = none) ∧ ((s.lossCh r.inst).pendTpl = none) ∧ (l.all Template.ok = true)) ∧
    (∃ (s : State) (r : Req) (p : List Byte), (s.serves verbLossSnip r = true) ∧ (p = r.payload) ∧ (((s.offered verbLossSnip r).lossCh r.inst).snip = none) ∧ (u8 p 1 ≤ 3) ∧ (1 ≤ u16 p 2) ∧ (u16 p 2 ≤ 8192) ∧ (1 ≤ u8 p 5) ∧ ((s.offered verbLossSnip r).regionCheck r.win (u8 p 0) (2048 * u16 p 2) = none)) :=
  ⟨⟨({ wit with sensing.loss := [(23, { LossCh.reset with cfg.mode := 1 })] }), _, (23), (-8191), rfl, by decide +kernel⟩,
    ⟨({ wit with sensing.loss := [(23, { LossCh.reset with cfg.mode := 1, snip := some { Snip.reset with record := some [], lastOn := 5000000000 } })] }), _, _, (23), (8191), ({ Snip.reset with record := some [], lastOn := 5000000000 }), rfl, rfl, by decide +kernel⟩,
    ⟨({ wit with sensing.loss := [(23, { LossCh.reset with cfg.mode := 1, tEnd := 5000000000, cfg.dead := 25 })] }), _, (23), (-9000), rfl, by decide +kernel⟩,
    ⟨({ wit with sensing.loss := [(23, { LossCh.reset with cfg.mode := 1, testing := true })] }), _, (23), (9000), rfl, by decide +kernel⟩,
    ⟨({ wit with sensing.loss := [(0, { LossCh.reset with striking := true })] }), _, _, (0), _, (List.replicate 400 0), _, _, rfl, rfl, rfl, rfl, rfl, by decide +kernel⟩,
    ⟨(wit), by decide +kernel⟩,
    ⟨({ wit with sensing.loss := [(0, { LossCh.reset with cfg.mode := 2, cfg.testMs := 100 })] }), _, (0), rfl, by decide +kernel⟩,
    ⟨({ wit with sensing.loss := [(0, { LossCh.reset with testing := true })] }), (0), (150), by decide +kernel⟩,
    ⟨({ wit with sensing.loss := [(0, { LossCh.reset with testing := true, openRun := 1 })] }), (0), (151), by decide +kernel⟩,
    ⟨(wit), (ask 23 []), by decide +kernel⟩,
    ⟨(wit), (ask 0 (bs [1, 0, 16, 0, 20, 0, 10, 0, 25, 0, 1, 0, 0, 0, 0, 0])), (bs [1, 0, 16, 0, 20, 0, 10, 0, 25, 0, 1, 0, 0, 0, 0, 0]), by decide +kernel⟩,
    ⟨({ wit with keeper.windows := [(0, { Window.reset with running := true, regions := [(0, { Region.reset with present := true, size := 4096, bytes := (List.range 8).map (fun j => (264 * j, 255)) })] })] }), _, (ask 0 (bs [0, 0, 0, 0])), _, rfl, rfl, by decide +kernel⟩,
    ⟨({ wit with keeper.windows := [(0, { Window.reset with running := true, regions := [(0, { Region.reset with present := true, size := 4096 })] })] }), (ask 0 (bs [0, 3, 1, 0, 0, 1, 0, 0])), (bs [0, 3, 1, 0, 0, 1, 0, 0]), by decide +kernel⟩⟩

theorem test_witness_HostAcquisitionRowsComplete :
    (∃ (s : State) (r : Req), (s.serves (verbHostbuf 0x10) r = true) ∧ ((List.range 24).any (fun i => s.isHost (hostKey 0x10 0 i) || (s.hostFn (hostKey 0x10 0 i)).pending == some true) = false) ∧ ((s.offered (verbHostbuf 0x10) r).regionCheck r.win (u8 r.payload 0) 0 = none) ∧ ((s.offered (verbHostbuf 0x10) r).regionCheck r.win (u8 r.payload 1) 0 = none)) ∧
    (∃ (s : State) (r : Req), (s.serves (verbHostbuf 0x11) r = true) ∧ ((List.range 8).any (fun i => s.isHost (hostKey 0x11 0 i) || (s.hostFn (hostKey 0x11 0 i)).pending == some true) = false) ∧ ((s.offered (verbHostbuf 0x11) r).regionCheck r.win (u8 r.payload 0) 0 = none) ∧ ((s.offered (verbHostbuf 0x11) r).regionCheck r.win (u8 r.payload 1) 0 = none)) ∧
    (∃ (s : State) (r : Req), (s.serves (verbHostbuf 0x12) r = true) ∧ ((List.range 48).any (fun i => s.isHost (hostKey 0x12 0 i) || (s.hostFn (hostKey 0x12 0 i)).pending == some true) = false) ∧ ((s.offered (verbHostbuf 0x12) r).regionCheck r.win (u8 r.payload 0) 0 = none) ∧ ((s.offered (verbHostbuf 0x12) r).regionCheck r.win (u8 r.payload 1) 0 = none)) ∧
    (∃ (s : State) (r : Req), (s.serves (verbHostbuf 0x13) r = true) ∧ ((List.range 16).any (fun i => s.isHost (hostKey 0x13 0 i) || (s.hostFn (hostKey 0x13 0 i)).pending == some true) = false) ∧ ((s.offered (verbHostbuf 0x13) r).regionCheck r.win (u8 r.payload 0) 0 = none) ∧ ((s.offered (verbHostbuf 0x13) r).regionCheck r.win (u8 r.payload 1) 0 = none)) ∧
    (∃ (s : State) (unit : Nat) (loss : List (Nat × List Int)) (par : Nat × Nat × Nat × Nat) (insts : List Nat) (b : HostBuf) (k : Nat) (blk : List Byte) (o : State), (o = s.boundary (42 + 1000 * unit) par.1 0) ∧ (blk = (b32 k ++ b32 0 ++ b64 (o.hw - par.1) ++ b64 o.hw ++ b64 (bitSet insts) ++ b16 par.2.2.1 ++ b16 par.2.2.2 ++ b32 (par.2.2.1 * par.2.2.2) ++ zeros 24) ++ insts.flatMap (fun i => o.senseSection unit i loss)) ∧ (sensePar unit = some par) ∧ (b = tget HostBuf.reset s.sensing.bufs unit) ∧ (s.running unit 0 = true) ∧ (b.set = true) ∧ ((List.range (senseCount unit)).any (fun i => s.isHost (hostKey unit 0 i)) = true) ∧ (insts = (List.range (senseCount unit)).filter (fun i => o.isHost (hostKey unit 0 i) && decide ((o.hostFn (hostKey unit 0 i)).pendingAt < o.hw))) ∧ (insts.isEmpty = false) ∧ (k = (tget 0 o.sensing.blockK unit + 1) % 2 ^ 32)) ∧
    (∃ (s : State) (h : HostFn) (r : Req) (is : List Nat) (es : List SenseEntry), (h = s.hostFn (hostKey 0x10 0 (s.blockInst 0x10 (tget 0 s.sensing.blockK 0x10) is))) ∧ (es = senseEntries r.payload) ∧ (s.serves (verbResult 0x10) r = true) ∧ (tget 0 s.sensing.blockK 0x10 ≠ 0) ∧ (u32 r.payload 0 ≠ 0) ∧ (u32 r.payload 0 ≤ tget 0 s.sensing.blockK 0x10) ∧ (tget 0 s.sensing.blockK 0x10 ≤ u32 r.payload 0 + 1) ∧ ((es.map (fun e => (s.offered (verbResult 0x10) r).senseOwner 0x10 r.win e.id)).all Option.isSome = true) ∧ ((es.map SenseEntry.id).eraseDups.length = es.length) ∧ (es.all (fun e => fFinite e.value) = true) ∧ (is = ((es.map (fun e => (s.offered (verbResult 0x10) r).senseOwner 0x10 r.win e.id)).filterMap id).eraseDups) ∧ (s.hw < (if u32 r.payload 0 = tget 0 s.sensing.blockK 0x10 then h.due else if h.prev then h.ptk + h.pd else h.tk - (tget 0 s.sensing.blockK 0x10 - u32 r.payload 0) * h.period + h.d))) ∧
    (∃ (s : State) (h : HostFn) (r : Req) (is : List Nat) (es : List SenseEntry), (h = s.hostFn (hostKey 0x11 0 (s.blockInst 0x11 (tget 0 s.sensing.blockK 0x11) is))) ∧ (es = senseEntries r.payload) ∧ (s.serves (verbResult 0x11) r = true) ∧ (tget 0 s.sensing.blockK 0x11 ≠ 0) ∧ (u32 r.payload 0 ≠ 0) ∧ (u32 r.payload 0 ≤ tget 0 s.sensing.blockK 0x11) ∧ (tget 0 s.sensing.blockK 0x11 ≤ u32 r.payload 0 + 1) ∧ ((es.map (fun e => (s.offered (verbResult 0x11) r).senseOwner 0x11 r.win e.id)).all Option.isSome = true) ∧ ((es.map SenseEntry.id).eraseDups.length = es.length) ∧ (es.all (fun e => fFinite e.value) = true) ∧ (is = ((es.map (fun e => (s.offered (verbResult 0x11) r).senseOwner 0x11 r.win e.id)).filterMap id).eraseDups) ∧ (s.hw < (if u32 r.payload 0 = tget 0 s.sensing.blockK 0x11 then h.due else if h.prev then h.ptk + h.pd else h.tk - (tget 0 s.sensing.blockK 0x11 - u32 r.payload 0) * h.period + h.d))) ∧
    (∃ (s : State) (h : HostFn) (r : Req) (is : List Nat) (es : List SenseEntry), (h = s.hostFn (hostKey 0x12 0 (s.blockInst 0x12 (tget 0 s.sensing.blockK 0x12) is))) ∧ (es = senseEntries r.payload) ∧ (s.serves (verbResult 0x12) r = true) ∧ (tget 0 s.sensing.blockK 0x12 ≠ 0) ∧ (u32 r.payload 0 ≠ 0) ∧ (u32 r.payload 0 ≤ tget 0 s.sensing.blockK 0x12) ∧ (tget 0 s.sensing.blockK 0x12 ≤ u32 r.payload 0 + 1) ∧ ((es.map (fun e => (s.offered (verbResult 0x12) r).senseOwner 0x12 r.win e.id)).all Option.isSome = true) ∧ ((es.map SenseEntry.id).eraseDups.length = es.length) ∧ (es.all (fun e => fFinite e.value) = true) ∧ (is = ((es.map (fun e => (s.offered (verbResult 0x12) r).senseOwner 0x12 r.win e.id)).filterMap id).eraseDups) ∧ (s.hw < (if u32 r.payload 0 = tget 0 s.sensing.blockK 0x12 then h.due else if h.prev then h.ptk + h.pd else h.tk - (tget 0 s.sensing.blockK 0x12 - u32 r.payload 0) * h.period + h.d))) ∧
    (∃ (s : State) (h : HostFn) (r : Req) (is : List Nat) (es : List SenseEntry), (h = s.hostFn (hostKey 0x13 0 (s.blockInst 0x13 (tget 0 s.sensing.blockK 0x13) is))) ∧ (es = senseEntries r.payload) ∧ (s.serves (verbResult 0x13) r = true) ∧ (tget 0 s.sensing.blockK 0x13 ≠ 0) ∧ (u32 r.payload 0 ≠ 0) ∧ (u32 r.payload 0 ≤ tget 0 s.sensing.blockK 0x13) ∧ (tget 0 s.sensing.blockK 0x13 ≤ u32 r.payload 0 + 1) ∧ ((es.map (fun e => (s.offered (verbResult 0x13) r).senseOwner 0x13 r.win e.id)).all Option.isSome = true) ∧ ((es.map SenseEntry.id).eraseDups.length = es.length) ∧ (es.all (fun e => fFinite e.value) = true) ∧ (is = ((es.map (fun e => (s.offered (verbResult 0x13) r).senseOwner 0x13 r.win e.id)).filterMap id).eraseDups) ∧ (s.hw < (if u32 r.payload 0 = tget 0 s.sensing.blockK 0x13 then h.due else if h.prev then h.ptk + h.pd else h.tk - (tget 0 s.sensing.blockK 0x13 - u32 r.payload 0) * h.period + h.d))) :=
  ⟨⟨({ wit with keeper.windows := [(0, { Window.reset with running := true, regions := [(63, { Region.reset with present := true })] })] }), (ask 0 (bs [63, 63, 0, 0])), by decide +kernel⟩,
    ⟨({ wit with keeper.windows := [(0, { Window.reset with running := true, regions := [(63, { Region.reset with present := true })] })] }), (ask 0 (bs [63, 63, 0, 0])), by decide +kernel⟩,
    ⟨({ wit with keeper.windows := [(0, { Window.reset with running := true, regions := [(63, { Region.reset with present := true })] })] }), (ask 0 (bs [63, 63, 0, 0])), by decide +kernel⟩,
    ⟨({ wit with keeper.windows := [(0, { Window.reset with running := true, regions := [(63, { Region.reset with present := true })] })] }), (ask 0 (bs [63, 63, 0, 0])), by decide +kernel⟩,
    ⟨({ wit with keeper.hostFns := [(hostKey 0x11 0 7, { HostFn.reset with host := true })], sensing.bufs := [(0x11, { HostBuf.reset with set := true })] }), (0x11), ([]), (4000000, 4000000, 16, 4), ([7]), ({ HostBuf.reset with set := true }), (1), _, _, rfl, rfl, by decide +kernel⟩,
    ⟨({ wit with sensing.blockK := [(0x10, 1)], keeper.hostFns := [(hostKey 0x10 0 0, { HostFn.reset with host := true, owner := 0, tk := 5000000000, d := 4000000 })] }), _, (ask 0 (bs [1, 0, 0, 0, 72, 0, 1, 0, 0, 0, 0x80, 0x3F])), ([0]), ([{ id := 72, flags := 1, value := 0x3F800000#32 }]), rfl, rfl, by decide +kernel⟩,
    ⟨({ wit with sensing.blockK := [(0x11, 1)], keeper.hostFns := [(hostKey 0x11 0 0, { HostFn.reset with host := true, owner := 0, tk := 5000000000, d := 4000000 })] }), _, (ask 0 (bs [1, 0, 0, 0, 64, 0, 1, 0, 0, 0, 0x80, 0x3F])), ([0]), ([{ id := 64, flags := 1, value := 0x3F800000#32 }]), rfl, rfl, by decide +kernel⟩,
    ⟨({ wit with sensing.blockK := [(0x12, 1)], keeper.hostFns := [(hostKey 0x12 0 0, { HostFn.reset with host := true, owner := 0, tk := 5000000000, d := 4000000 })] }), _, (ask 0 (bs [1, 0, 0, 0, 0, 0, 1, 0, 0, 0, 0x80, 0x3F])), ([0]), ([{ id := 0, flags := 1, value := 0x3F800000#32 }]), rfl, rfl, by decide +kernel⟩,
    ⟨({ wit with sensing.blockK := [(0x13, 1)], keeper.hostFns := [(hostKey 0x13 0 0, { HostFn.reset with host := true, owner := 0, tk := 5000000000, d := 4000000 })] }), _, (ask 0 (bs [1, 0, 0, 0, 48, 0, 1, 0, 0, 0, 0x80, 0x3F])), ([0]), ([{ id := 48, flags := 1, value := 0x3F800000#32 }]), rfl, rfl, by decide +kernel⟩⟩

theorem test_witness_BridgeAnalogRowsComplete :
    (∃ (s : State), (s.running 0x11 0 = true)) ∧
    (∃ (s : State) (ch : Nat) (cur : Nat), (s.running 0x11 0 = true) ∧ (ch < 8) ∧ ((s.bridgeCh ch).exc ≠ 0) ∧ ((s.bridgeCh ch).excOff = false) ∧ ((s.bridgeCh ch).limit < cur)) ∧
    (∃ (s : State) (ch : Nat) (cm : Nat), (s.running 0x11 0 = true) ∧ (ch < 8) ∧ ((s.bridgeCh ch).exc ≠ 0) ∧ ((s.bridgeCh ch).senseOpen = false) ∧ (cm < 30 ∨ 70 < cm)) ∧
    (∃ (s : State) (ch : Nat) (cm : Nat), (s.running 0x11 0 = true) ∧ (ch < 8) ∧ ((s.bridgeCh ch).exc ≠ 0) ∧ ((s.bridgeCh ch).senseOpen = true) ∧ (30 ≤ cm) ∧ (cm ≤ 70)) ∧
    (∃ (s : State) (ch : Nat) (t0 : Nat), (s.running 0x11 0 = true) ∧ (ch < 8) ∧ ((s.bridgeCh ch).exc ≠ 0) ∧ ((s.bridgeCh ch).overR = false) ∧ ((s.bridgeCh ch).overSince = some t0)) ∧
    (∃ (s : State) (r : Req) (p : List Byte), (s.serves verbBridgeConfig r = true) ∧ (p = r.payload) ∧ (u8 p 0 ≤ 2) ∧ (u8 p 1 ≤ 2) ∧ (u8 p 2 ≤ 3) ∧ (fFinite (f32 p 4) = true) ∧ (fEq (f32 p 4) fZero = false) ∧ (fFinite (f32 p 8) = true) ∧ (10 ≤ u16 p 12) ∧ (u16 p 12 ≤ 60) ∧ (((s.offered verbBridgeConfig r).bridgeCh r.inst).tareOp = none)) ∧
    (∃ (s : State) (r : Req), (s.serves verbBridgeTare r = true) ∧ (16 ≤ u16 r.payload 0) ∧ ((s.bridgeCh r.inst).tareOp = none)) ∧
    (∃ (s : State) (r : Req), (s.serves verbBridgeStatus r = true)) ∧
    (∃ (s : State), (s.running 0x12 0 = true) ∧ (((s.boundary 52 500000 470000).hw - 470000) % 1000000 ≠ 0)) ∧
    (∃ (s : State) (codes : List (Nat × Nat)), (s.running 0x12 0 = true) ∧ (((s.boundary 52 500000 470000).hw - 470000) % 1000000 = 0) ∧ ((codes.foldl (State.ainConvert ((s.boundary 52 500000 470000).hw - 470000)) (s.boundary 52 500000 470000)).running 0x14 0 = true)) ∧
    (∃ (s : State) (ch : Nat) (t0 : Nat), (s.running 0x12 0 = true) ∧ (ch < 48) ∧ ((s.ainCh ch).range ≠ 0) ∧ ((s.ainCh ch).lowSince = some t0) ∧ ((s.ainCh ch).diag = 0)) ∧
    (∃ (s : State) (ch : Nat) (t0 : Nat), (s.running 0x12 0 = true) ∧ (ch < 48) ∧ ((s.ainCh ch).range ≠ 0) ∧ ((s.ainCh ch).lowSince = none) ∧ ((s.ainCh ch).highSince = some t0) ∧ ((s.ainCh ch).diag = 0)) ∧
    (∃ (s : State) (ch : Nat) (t0 : Nat), (s.running 0x12 0 = true) ∧ (ch < 48) ∧ ((s.ainCh ch).range = 4) ∧ ((s.ainCh ch).shuntOff = false) ∧ (s.supBad (s.ainCh ch).link = false) ∧ ((s.ainCh ch).shuntSince = some t0)) ∧
    (∃ (s : State) (ch : Nat), (s.running 0x12 0 = true) ∧ ((s.ainCh ch).shuntOff = true)) ∧
    (∃ (s : State) (r : Req) (p : List Byte), (s.serves verbAinConfig r = true) ∧ (p = r.payload) ∧ (u8 p 0 ≤ 5) ∧ (1 ≤ u8 p 1) ∧ (u8 p 1 ≤ 64) ∧ (u8 p 2 ≤ 5 ∨ u8 p 2 = 255) ∧ (1 ≤ u16 p 12) ∧ (u16 p 12 ≤ 10000)) :=
  ⟨⟨(wit), by decide +kernel⟩,
    ⟨({ wit with sensing.bridge := [(7, { BridgeCh.reset with exc := 1, limit := 60 })] }), (7), (61), by decide +kernel⟩,
    ⟨({ wit with sensing.bridge := [(7, { BridgeCh.reset with exc := 1 })] }), (7), (29), by decide +kernel⟩,
    ⟨({ wit with sensing.bridge := [(0, { BridgeCh.reset with exc := 1, senseOpen := true })] }), (0), (70), by decide +kernel⟩,
    ⟨({ wit with sensing.bridge := [(0, { BridgeCh.reset with exc := 1, overSince := some 4900000000 })] }), (0), (4900000000), by decide +kernel⟩,
    ⟨(wit), (ask 7 (bs [1, 0, 0, 0, 0, 0, 0x80, 0x3F, 0, 0, 0, 0, 60, 0, 0, 0])), (bs [1, 0, 0, 0, 0, 0, 0x80, 0x3F, 0, 0, 0, 0, 60, 0, 0, 0]), by decide +kernel⟩,
    ⟨(wit), (ask 0 (bs [16, 0, 0, 0])), by decide +kernel⟩,
    ⟨(wit), (ask 0 []), by decide +kernel⟩,
    ⟨({ wit with time.heartwood := 5000500000 }), by decide +kernel⟩,
    ⟨(wit), ([(47, 65535)]), by decide +kernel⟩,
    ⟨({ wit with sensing.ain := [(47, { AinCh.reset with range := 1, lowSince := some 0 })] }), (47), (0), by decide +kernel⟩,
    ⟨({ wit with sensing.ain := [(47, { AinCh.reset with range := 1, highSince := some 0 })] }), (47), (0), by decide +kernel⟩,
    ⟨({ wit with sensing.ain := [(47, { AinCh.reset with range := 4, shuntSince := some 4990000000 })] }), (47), (4990000000), by decide +kernel⟩,
    ⟨({ wit with sensing.ain := [(47, { AinCh.reset with range := 4, shuntOff := true })] }), (47), by decide +kernel⟩,
    ⟨(wit), (ask 47 (bs [5, 64, 255, 0, 0, 0, 0, 0, 0, 0, 0, 0, 1, 0, 0, 0])), (bs [5, 64, 255, 0, 0, 0, 0, 0, 0, 0, 0, 0, 1, 0, 0, 0]), by decide +kernel⟩⟩

theorem test_witness_FrequencySupplyRowsComplete :
    (∃ (s : State) (a : State) (ch : Nat) (peak : Nat) (rising : Bool) (both : Bool) (c : FreqCh), (a = s.levelStep ch rising both) ∧ (c = a.freqCh ch) ∧ ((s.unitSt 0x13 0).phase ≠ .off) ∧ (ch < 16) ∧ ((s.freqCh (ch / 2 * 2)).type ≠ 2) ∧ (c.type ≠ 0) ∧ (c.marks ch peak rising = true)) ∧
    (∃ (s : State) (a : State) (ch : Nat) (peak : Nat) (rising : Bool) (both : Bool) (c : FreqCh), (a = (s.quadStep ch true rising both).levelStep ch rising both) ∧ (c = a.freqCh ch) ∧ (s.running 0x13 0 = true) ∧ (ch < 16) ∧ (ch / 2 * 2 = ch) ∧ ((s.freqCh ch).type = 2) ∧ (c.marks ch peak rising = true)) ∧
    (∃ (s : State) (u : State) (v : State) (ch : Nat) (c : FreqCh) (f : F32) (flt : Bool), (c = s.freqCh ch) ∧ (f = fFrac (c.edges * 1000000000 : Nat) (c.tLast - c.tRef)) ∧ (v = u.modFreq ch (fun y => { y with f := f, edges := 0, tRef := y.tLast })) ∧ (flt = (c.wiring != 0 || (c.type == 2 && (v.freqCh (ch + 1)).wiring != 0) || v.supDown c.link)) ∧ (s.running 0x13 0 = true) ∧ (ch < 16) ∧ (c.type ≠ 0) ∧ (s.quadOdd ch = false) ∧ (s.boundary (60 + 1000 * ch) (c.gateMs * 1000000) 0 = u) ∧ (c.edges ≠ 0) ∧ (v.isHost (hostKey 0x13 0 ch) = false)) ∧
    (∃ (s : State) (ch : Nat), ((s.unitSt 0x13 0).phase ≠ .off) ∧ (ch < 16) ∧ ((s.freqCh ch).type ≠ 0) ∧ ((s.freqCh ch).sense = 1) ∧ ((s.freqCh ch).term = true)) ∧
    (∃ (s : State) (u : State) (ch : Nat) (mv : Nat) (bias : Bool), (s.running 0x13 0 = true) ∧ (ch < 16) ∧ (s.quadOdd ch = false) ∧ ((s.freqCh ch).type ≠ 0) ∧ (u = s.boundary (62 + 1000 * ch) 100000000 0) ∧ (u.supBad (s.freqCh ch).link = false) ∧ (u.wiringKind ch (s.freqCh ch).link mv bias ≠ 0) ∧ ((s.freqCh ch).wiring = 0) ∧ ((s.freqCh ch).wireRun ≥ 1)) ∧
    (∃ (s : State) (r : Req) (p : List Byte), (s.serves verbFreqConfig r = true) ∧ (p = r.payload) ∧ (¬ (r.inst % 2 = 1 ∧ ((s.offered verbFreqConfig r).freqCh (r.inst - 1)).type = 2)) ∧ (u8 p 0 = 1) ∧ (((s.offered verbFreqConfig r).freqCh r.inst).type ≠ 2) ∧ ((if r.inst < 8 then u8 p 2 == 0 && decide (2 ≤ u8 p 3 ∧ u8 p 3 ≤ 50) else decide (u8 p 1 ≤ 2 ∧ u8 p 2 ≤ 1 ∧ u8 p 3 ≤ 1)) = true) ∧ (1 ≤ u16 p 4) ∧ (u16 p 4 ≤ 100) ∧ (1 ≤ u16 p 6) ∧ (u16 p 6 ≤ 100) ∧ (fFinite (f32 p 8) = true) ∧ (fEq (f32 p 8) fZero = false) ∧ (fLe (fFrac 1 10) (f32 p 12) = true) ∧ (fLe (f32 p 12) (fNat 50000) = true) ∧ (u8 p 16 ≤ 2) ∧ (u8 p 17 ≤ 50) ∧ (u8 p 18 ≤ 5 ∨ u8 p 18 = 255)) ∧
    (∃ (s : State) (n : Nat) (cur : Nat) (ms : Nat), (s.running 0x14 0 = true) ∧ (n < 6) ∧ ((s.supCh n).on = true) ∧ ((s.supCh n).limited = true) ∧ (supLimit n ≤ cur) ∧ (20 ≤ ms)) ∧
    (∃ (s : State) (n : Nat) (cur : Nat), (s.running 0x14 0 = true) ∧ (n < 6) ∧ ((s.supCh n).on = true) ∧ ((s.supCh n).limited = false) ∧ (supLimit n ≤ cur)) ∧
    (∃ (s : State) (n : Nat) (cur : Nat), (s.running 0x14 0 = true) ∧ (n < 6) ∧ ((s.supCh n).on = true) ∧ ((s.supCh n).limited = true) ∧ (cur < supLimit n)) ∧
    (∃ (s : State) (n : Nat) (mv : Nat), (s.running 0x14 0 = true) ∧ (n < 6) ∧ ((s.supCh n).fault ≠ 2) ∧ (supNominal n * 11 < mv * 10)) ∧
    (∃ (s : State) (a : State) (n : Nat) (t0 : Nat), (a = s.waitTo t0) ∧ ((s.supCh n).retryAt = some t0) ∧ (s.running 0x14 0 = true)) ∧
    (∃ (s : State) (n : Nat), (s.running 0x14 0 = true) ∧ (n < 6) ∧ ((s.supCh n).on = true) ∧ ((s.supCh n).limited = false) ∧ ((s.supCh n).suppress = true)) ∧
    (∃ (s : State) (a : State) (r : Req) (en : Bool) (was : Bool), (en = (u8 r.payload 0 == 1)) ∧ (was = (s.supCh r.inst).on) ∧ (a = (((s.offered verbSupConfig r).modSup r.inst (fun c => { c with enable := en, on := en, retryS := u16 r.payload 2, retryAt := none, fault := 0, limited := c.limited && en && was, suppress := c.suppress || !en || !was, okAt := if was then c.okAt else (s.offered verbSupConfig r).hw + 50000000 })).clearFault 0x1040 0x14 r.inst).clearFault 0x1041 0x14 r.inst) ∧ (s.serves verbSupConfig r = true) ∧ (u8 r.payload 0 ≤ 1) ∧ (u16 r.payload 2 ≤ 60)) :=
  ⟨⟨({ wit with sensing.freq := [(15, { FreqCh.reset with type := 1 })] }), _, (15), (0), (true), (false), _, rfl, rfl, by decide +kernel⟩,
    ⟨({ wit with sensing.freq := [(14, { FreqCh.reset with type := 2 })] }), _, (14), (0), (true), (true), _, rfl, rfl, by decide +kernel⟩,
    ⟨({ wit with sensing.freq := [(0, { FreqCh.reset with type := 1, edges := 1, tLast := 5 })] }), (({ wit with sensing.freq := [(0, { FreqCh.reset with type := 1, edges := 1, tLast := 5 })] } : State).boundary 60 ((({ wit with sensing.freq := [(0, { FreqCh.reset with type := 1, edges := 1, tLast := 5 })] } : State).freqCh 0).gateMs * 1000000) 0), _, (0), _, _, _, rfl, rfl, rfl, rfl, by decide +kernel⟩,
    ⟨({ wit with sensing.freq := [(0, { FreqCh.reset with type := 1, sense := 1, term := true })] }), (0), by decide +kernel⟩,
    ⟨({ wit with sensing.freq := [(0, { FreqCh.reset with type := 1, wireRun := 1 })] }), (({ wit with sensing.freq := [(0, { FreqCh.reset with type := 1, wireRun := 1 })] } : State).boundary 62 100000000 0), (0), (499), (false), by decide +kernel⟩,
    ⟨(wit), (ask 0 (bs [1, 0, 0, 2, 1, 0, 1, 0, 0, 0, 0x80, 0x3F, 0, 0, 0x80, 0x3F, 2, 50, 255, 0])), (bs [1, 0, 0, 2, 1, 0, 1, 0, 0, 0, 0x80, 0x3F, 0, 0, 0x80, 0x3F, 2, 50, 255, 0]), by decide +kernel⟩,
    ⟨({ wit with sensing.sup := [(5, { SupCh.reset with on := true, limited := true, limSince := 4980000000 })] }), (5), (260), (20), by decide +kernel⟩,
    ⟨({ wit with sensing.sup := [(0, { SupCh.reset with on := true })] }), (0), (260), by decide +kernel⟩,
    ⟨({ wit with sensing.sup := [(0, { SupCh.reset with on := true, limited := true })] }), (0), (0), by decide +kernel⟩,
    ⟨({ wit with sensing.sup := [(5, { SupCh.reset with on := true })] }), (5), (11001), by decide +kernel⟩,
    ⟨({ wit with sensing.sup := [(5, { SupCh.reset with retryAt := some 7 })] }), _, (5), (7), rfl, by decide +kernel⟩,
    ⟨({ wit with sensing.sup := [(5, { SupCh.reset with on := true, suppress := true })] }), (5), by decide +kernel⟩,
    ⟨({ wit with sensing.sup := [(5, { SupCh.reset with on := true })] }), _, (ask 5 (bs [1, 0, 60, 0])), _, _, rfl, rfl, rfl, by decide +kernel⟩⟩

theorem test_witness_TestPortRowsComplete :
    (∃ (s : State), (s.portOn = true) ∧ (s.power.state = .test)) ∧
    (∃ (s : State), (s.portOn = true) ∧ (s.power.state ≠ .test)) ∧
    (∃ (s : State), (s.portOn = true)) ∧
    (∃ (s : State), (s.trunkOn = true) ∧ (s.jtag.console = true)) ∧
    (∃ (s : State), (s.trunkOn = true) ∧ (s.running 1 0 = true) ∧ (s.keeper.paused = false)) :=
  ⟨⟨({ State.reset with power.state := .test }), by decide +kernel⟩,
    ⟨({ wit with jtag.testkey := true }), by decide +kernel⟩,
    ⟨({ wit with jtag.siliconRev := 3, jtag.testkey := true }), by decide +kernel⟩,
    ⟨({ wit with jtag.console := true }), by decide +kernel⟩,
    ⟨(wit), by decide +kernel⟩⟩

theorem test_witness_ValveTimedRowsComplete :
    (∃ (s : State) (ch : Nat) (q : ValveReq), ((s.valve' ch).req = some q) ∧ (s.valveRuns ch = true) ∧ ((s.valve' ch).state = 3) ∧ ((s.waitTo q.t1).reqLate ch = false)) ∧
    (∃ (s : State) (ch : Nat) (q : ValveReq), ((s.valve' ch).req = some q) ∧ (s.valveRuns ch = true) ∧ ((s.valve' ch).state = 3) ∧ ((s.waitTo q.t1).reqLate ch = true)) ∧
    (∃ (s : State) (b : Nat), (s.running 0x21 0 = true) ∧ (b < 6)) ∧
    (∃ (s : State) (u : State) (a : State) (ch : Nat) (q : ValveReq), (u = (if s.hw ≤ q.deferEnd then (s.takeSlots (ch / 4)).1 else s)) ∧ (a = u.waitTo q.deferEnd) ∧ ((s.valve' ch).req = some q) ∧ (s.valveRuns ch = true) ∧ ((s.valve' ch).state = 4) ∧ ((u.valve' ch).state = 4) ∧ (a.reqLate ch = false) ∧ (a.bankCut (ch / 4) = 0)) ∧
    (∃ (s : State) (u : State) (a : State) (ch : Nat) (mv : Nat) (q : ValveReq), (u = s.railIs (ch / 12) mv) ∧ (a = u.waitTo (u.bank (ch / 4)).hsReady) ∧ ((s.valve' ch).req = some q) ∧ (s.valveRuns ch = true) ∧ ((s.valve' ch).state = 5) ∧ (u.reqLate ch = false) ∧ ((u.boost (ch / 12)).ready = true) ∧ (u.hw ≤ q.boostEnd) ∧ (a.reqLate ch = false)) ∧
    (∃ (s : State) (ch : Nat) (cur : Nat), (s.valveRuns ch = true) ∧ ((s.valve' ch).state = 6) ∧ ((fRound (s.valve' ch).peakA 1000).toNat ≤ cur) ∧ (s.hw ≤ (s.valve' ch).peakEnd)) ∧
    (∃ (s : State) (u : State) (ch : Nat) (cur : Nat), (u = s.waitTo (s.valve' ch).peakEnd) ∧ (s.valveRuns ch = true) ∧ ((s.valve' ch).state = 6) ∧ (cur < (fRound (s.valve' ch).peakA 1000).toNat ∨ (s.valve' ch).peakEnd < s.hw)) ∧
    (∃ (s : State) (ch : Nat) (t0 : Nat), ((s.valve' ch).endAt = some t0) ∧ (s.valveRuns ch = true)) ∧
    (∃ (s : State) (b : Nat) (t0 : Nat), ((s.bank b).hsOffAt = some t0) ∧ (s.running 0x21 0 = true)) ∧
    (∃ (s : State), (s.running 0x21 0 = true)) ∧
    (∃ (s : State) (ch : Nat), (s.valveRuns ch = true) ∧ (s.isHost (hostKey 0x21 0 ch) = true) ∧ (((s.boundary (104 + 1000 * ch) 1000000 0).hostFn (hostKey 0x21 0 ch)).got = true)) :=
  ⟨⟨({ wit with valve.ch := [(23, { ValveCh.reset with mode := 3, state := 3, req := some ValveReq.reset })] }), (23), (ValveReq.reset), by decide +kernel⟩,
    ⟨({ wit with valve.ch := [(23, { ValveCh.reset with mode := 2, state := 3, req := some { ValveReq.reset with t1 := 6000000000, deadline := 5000001 } })] }), (23), ({ ValveReq.reset with t1 := 6000000000, deadline := 5000001 }), by decide +kernel⟩,
    ⟨(wit), (5), by decide +kernel⟩,
    ⟨({ wit with valve.ch := [(23, { ValveCh.reset with mode := 3, state := 4, req := some ValveReq.reset })] }), _, _, (23), (ValveReq.reset), rfl, rfl, by decide +kernel⟩,
    ⟨({ wit with valve.boost := [(1, { Boost.reset with enabled := true })], valve.ch := [(23, { ValveCh.reset with mode := 3, state := 5, req := some { ValveReq.reset with boostEnd := 6000000000 } })] }), _, _, (23), (50000), ({ ValveReq.reset with boostEnd := 6000000000 }), rfl, rfl, by decide +kernel⟩,
    ⟨({ wit with valve.ch := [(23, { ValveCh.reset with mode := 3, state := 6, peakEnd := 5000000000 })] }), (23), (0), by decide +kernel⟩,
    ⟨({ wit with valve.ch := [(23, { ValveCh.reset with mode := 3, state := 6, peakA := fOne })] }), _, (23), (0), rfl, by decide +kernel⟩,
    ⟨({ wit with valve.ch := [(23, { ValveCh.reset with mode := 3, endAt := some 7 })] }), (23), (7), by decide +kernel⟩,
    ⟨({ wit with valve.banks := [(5, { ValveBank.reset with hsOn := true, hsOffAt := some 7 })] }), (5), (7), by decide +kernel⟩,
    ⟨(wit), by decide +kernel⟩,
    ⟨({ wit with keeper.hostFns := [(hostKey 0x21 0 0, { HostFn.reset with host := true })] }), (0), by decide +kernel⟩⟩

theorem test_witness_ValveMonitorRowsComplete :
    (∃ (s : State) (u : State) (c : Nat) (kind : Nat) (mv : Nat), (u = (if kind = 1 then s.waitTo ((s.boost c).enabledAt + 20000000) else s)) ∧ (s.running 0x21 0 = true) ∧ (c < 2) ∧ ((s.boost c).enabled = true) ∧ ((s.boost c).latched = 0) ∧ ((kind = 1 ∧ mv < 44000 ∧ (s.boost c).charged = false) ∨ (kind = 2 ∧ mv > 54000))) ∧
    (∃ (s : State) (ch : Nat) (cur : Nat) (mv : Nat) (duty : Nat), (s.valveRuns ch = true) ∧ ((s.valve' ch).mode ≠ 0) ∧ ((s.valve' ch).openLoad = false) ∧ (s.valveDriven ch = true ∧ cur < 50 ∧ 90 ≤ duty ∨ s.valveDriven ch = false ∧ (s.bank (ch / 4)).hsOn = true ∧ mv < 2000 ∧ (fRound (s.bank (ch / 4)).current 1000 - s.bankSum (ch / 4)).natAbs ≤ 200)) ∧
    (∃ (s : State) (ch : Nat) (cur : Nat) (mv : Nat) (duty : Nat), (s.valveRuns ch = true) ∧ ((s.valve' ch).openLoad = true) ∧ ((s.valve' ch).mode = 0 ∨ s.valveDriven ch = true ∧ ¬ (cur < 50 ∧ 90 ≤ duty) ∨ s.valveDriven ch = false ∧ ((s.bank (ch / 4)).hsOn = false ∨ 2000 ≤ mv ∨ 200 < (fRound (s.bank (ch / 4)).current 1000 - s.bankSum (ch / 4)).natAbs))) ∧
    (∃ (s : State) (ch : Nat) (t0 : Nat), (s.valveRuns ch = true) ∧ ((s.valve' ch).mode = 1) ∧ ((s.valve' ch).tracking = false) ∧ ((s.valve' ch).trackBad = some t0)) ∧
    (∃ (s : State) (ch : Nat) (t0 : Nat), (s.valveRuns ch = true) ∧ ((s.valve' ch).mode = 1) ∧ ((s.valve' ch).tracking = true) ∧ ((s.valve' ch).trackOk = some t0)) ∧
    (∃ (s : State) (ch : Nat) (cur : Nat), (s.valveRuns ch = true) ∧ ((s.valve' ch).mode ≠ 0) ∧ ((s.valve' ch).latched = false) ∧ ((s.valve' ch).tripMa < cur) ∧ ((s.valve' ch).req = none) ∧ ((s.valve' ch).state = 7)) ∧
    (∃ (s : State) (ch : Nat) (mv : Nat) (cur : Nat) (excess : Int), (s.valveRuns ch = true) ∧ ((s.valve' ch).mode ≠ 0) ∧ ((s.bank (ch / 4)).latched = 0) ∧ ((s.bank (ch / 4)).hsOn = true) ∧ (s.valveDriven ch = false) ∧ (mv < 2000) ∧ (excess = (cur : Int) - s.bankSum (ch / 4)) ∧ (200 < excess)) ∧
    (∃ (s : State) (b : Nat) (cur : Nat), (s.running 0x21 0 = true) ∧ (b < 6) ∧ ((s.bank b).latched = 0) ∧ ((s.bank b).hsOn = true) ∧ (cur > 30000)) :=
  ⟨⟨({ wit with valve.boost := [(1, { Boost.reset with enabled := true })] }), _, (1), (2), (54001), rfl, by decide +kernel⟩,
    ⟨({ wit with valve.ch := [(0, { ValveCh.reset with mode := 1 })], valve.banks := [(0, { ValveBank.reset with hsOn := true })] }), (0), (0), (0), (0), by decide +kernel⟩,
    ⟨({ wit with valve.ch := [(0, { ValveCh.reset with mode := 1, openLoad := true })] }), (0), (0), (2000), (0), by decide +kernel⟩,
    ⟨({ wit with valve.ch := [(0, { ValveCh.reset with mode := 1, trackBad := some 4900000000 })] }), (0), (4900000000), by decide +kernel⟩,
    ⟨({ wit with valve.ch := [(0, { ValveCh.reset with mode := 1, tracking := true, trackOk := some 4900000000 })] }), (0), (4900000000), by decide +kernel⟩,
    ⟨({ wit with valve.ch := [(0, { ValveCh.reset with mode := 2, state := 7 })] }), (0), (100000), by decide +kernel⟩,
    ⟨({ wit with valve.ch := [(23, { ValveCh.reset with mode := 2 })], valve.banks := [(5, { ValveBank.reset with hsOn := true })] }), (23), (1999), (201), (201), by decide +kernel⟩,
    ⟨({ wit with valve.banks := [(5, { ValveBank.reset with hsOn := true })] }), (5), (30001), by decide +kernel⟩⟩

theorem test_witness_ValveVerbsComplete :
    (∃ (s : State) (r : Req), (s.serves verbValveStatus r = true) ∧ (r.inst < 24)) ∧
    (∃ (s : State) (a : State) (r : Req) (p : List Byte), (p = r.payload) ∧ (a = (s.offered verbValveConfig r).modValve r.inst (fun c => { c with mode := u8 p 0, policy := u8 p 1, fallback := u8 p 0 == 3 && bit (u8 p 2) 0, peakA := f32 p 4, holdA := f32 p 8, peakUs := u16 p 12, minOffUs := if u16 p 14 = 0 then 500 else u16 p 14, ditherHz := u16 p 16, ditherMa := u16 p 18, trackMs := if u8 p 0 = 1 ∨ u8 p 0 = 3 then u16 p 20 else c.trackMs, trackBad := none, trackOk := if u8 p 0 = c.mode then c.trackOk else some s.hw, mailbox := if u8 p 0 = c.mode then c.mailbox else fZero })) ∧ (s.serves verbValveConfig r = true) ∧ (r.inst < 24) ∧ (u8 p 0 = (s.valve' r.inst).mode ∨ (s.offered verbValveConfig r).loopBinds 1 r.inst = false) ∧ ((s.valve' r.inst).req = none) ∧ ((s.valve' r.inst).state < 2) ∧ (valveCfgOk p = true)) ∧
    (∃ (s : State) (r : Req), (s.serves verbValveConfig r = true) ∧ (isBankInst r.inst = true) ∧ (u16 r.payload 0 ≤ 2000)) ∧
    (∃ (s : State) (r : Req), (s.serves verbValveConfig r = true) ∧ (isBoostInst r.inst = true) ∧ (isBankInst r.inst = false) ∧ (u8 r.payload 0 ≤ 1)) ∧
    (∃ (s : State) (r : Req), (s.serves verbValveSet r = true) ∧ ((s.valve' r.inst).mode = 1) ∧ (fLe fZero (f32 r.payload 0) = true) ∧ (fLe (f32 r.payload 0) (fNat 3) = true) ∧ (u32 r.payload 4 = 0)) ∧
    (∃ (s : State) (r : Req), (s.serves verbValveSet r = true) ∧ ((s.valve' r.inst).mode ≠ 1) ∧ ((s.valve' r.inst).mode ≠ 0) ∧ (fEq (f32 r.payload 0) fZero = false) ∧ (fEq (f32 r.payload 0) fOne = true) ∧ (u32 r.payload 4 = 0) ∧ ((s.valve' r.inst).req = none) ∧ ((s.valve' r.inst).state < 2) ∧ ((s.valve' r.inst).latched = false) ∧ ((s.bank (r.inst / 4)).latched = 0) ∧ ((s.valve' r.inst).tOff = none)) ∧
    (∃ (s : State) (r : Req), (s.serves verbValveClear r = true) ∧ (isBankInst r.inst = false) ∧ (isBoostInst r.inst = false) ∧ ((s.valve' r.inst).latched = true)) ∧
    (∃ (s : State) (r : Req) (q : State × Bool), (q = (s.offered verbValveDuty r).hostResult (hostKey 0x21 0 r.inst)) ∧ (s.serves verbValveDuty r = true) ∧ ((s.hostFn (hostKey 0x21 0 r.inst)).host = true) ∧ ((s.hostFn (hostKey 0x21 0 r.inst)).owner = r.win) ∧ (fLe fZero (f32 r.payload 4) = true) ∧ (fLe (f32 r.payload 4) fOne = true) ∧ (u32 r.payload 0 ≤ (s.hostFn (hostKey 0x21 0 r.inst)).k) ∧ ((s.offered verbValveDuty r).hostInTime (hostKey 0x21 0 r.inst) (u32 r.payload 0) = true) ∧ (q.2 = true)) :=
  ⟨⟨(wit), (ask 23 []), by decide +kernel⟩,
    ⟨(wit), _, (ask 23 (zeros 24)), _, rfl, rfl, by decide +kernel⟩,
    ⟨(wit), (ask 0x105 (bs [0xD0, 7, 0, 0])), by decide +kernel⟩,
    ⟨(wit), (ask 0x201 (bs [1, 0, 0, 0])), by decide +kernel⟩,
    ⟨({ wit with valve.ch := [(0, { ValveCh.reset with mode := 1 })] }), (ask 0 (bs [0, 0, 0x40, 0x40, 0, 0, 0, 0])), by decide +kernel⟩,
    ⟨({ wit with valve.ch := [(0, { ValveCh.reset with mode := 2 })] }), (ask 0 (bs [0, 0, 0x80, 0x3F, 0, 0, 0, 0])), by decide +kernel⟩,
    ⟨({ wit with valve.ch := [(0, { ValveCh.reset with mode := 2, latched := true })] }), (ask 0 []), by decide +kernel⟩,
    ⟨({ wit with keeper.hostFns := [(hostKey 0x21 0 0, { HostFn.reset with host := true, got := false, tk := 6000000000, d := 100 })] }), (ask 0 (zeros 8)), _, rfl, by decide +kernel⟩⟩

theorem test_witness_WindowRegisterRowsComplete :
    (∃ (s : State) (w : Nat) (ofs : Nat) (width : Nat), (s.live w = true) ∧ (width = 8 ∨ width = 16 ∨ width = 32 ∨ width = 64) ∧ (ofs % (width / 8) = 0) ∧ (0x1000 ≤ ofs) ∧ (ofs < 0x3000)) ∧
    (∃ (s : State) (w : Nat) (value : Nat) (st : List Store), (s.live w = true) ∧ ((value % 65536 + 65536 - ((s.stores w st).win w).cmdCons) % 65536 ≤ 64)) ∧
    (∃ (s : State) (w : Nat) (value : Nat), (s.live w = true) ∧ ((value % 65536 + 65536 - (s.win w).rplCons) % 65536 ≤ ((s.win w).rplProd + 65536 - (s.win w).rplCons) % 65536)) ∧
    (∃ (s : State) (w : Nat) (value : Nat), (s.live w = true) ∧ ((value % 65536 + 65536 - (s.win w).evtCons) % 65536 ≤ (s.win w).unread)) ∧
    (∃ (s : State) (w : Nat), (s.live w = true)) ∧
    (∃ (s : State) (w : Nat) (value : Nat), (s.live w = true) ∧ ((s.win w).hostHb ≠ value % 2 ^ 32)) ∧
    (∃ (s : State) (w : Nat) (e : Event), (s.live w = true) ∧ ((s.win w).oldest = some e)) :=
  ⟨⟨(wit), (0), (0x1000), (64), by decide +kernel⟩,
    ⟨(wit), (0x10), (64), ([]), by decide +kernel⟩,
    ⟨(wit), (0x10), (0), by decide +kernel⟩,
    ⟨(wit), (0), (0), by decide +kernel⟩,
    ⟨(wit), (0), by decide +kernel⟩,
    ⟨(wit), (0), (1), by decide +kernel⟩,
    ⟨({ wit with keeper.windows := [(0, { Window.reset with running := true, evtProd := 1, evtRing := [{}] })] }), (0), ({}), by decide +kernel⟩⟩


end
end

section
/-! The scope of the block (spec 00, 02 R42-R57): commands and steps keep the identity of the hardware, the reset state is
at rest, and the rows of the window registers complete. -/

namespace Sys2Proof.Machine

/-! ### What every command and step keeps -/

/-- A command's outcome is a next state that agrees with `s` outside the pieces of the mask `m`. -/
def AnswersWithin (m : Nat) (o : Out) (s : State) : Prop := ∃ t, o = .next t ∧ t.without m = s.without m

/-- Every piece but the part and the queue of waiting commands. -/
def hardwareMask : Nat := 2 ^ 32 - 2

/-- A row's own mask may be widened. -/
theorem AnswersWithin.widen {M H : Nat} {o : Out} {s : State} (h : AnswersWithin M o s) (hm : H &&& M = M) :
    AnswersWithin H o s := by
  obtain ⟨t, ho, ht⟩ := h
  exact ⟨t, ho, lift hm ht⟩

/-- Every command answers a next state with the part and the queue of waiting commands as they were: the masks of all rows
together leave these two pieces out. -/
theorem exec_answersWithin (c : Instr) (s : State) : AnswersWithin hardwareMask (exec c s) s := by
  cases c with
  | registerWrite => exact AnswersWithin.widen (execRegisterWrite_frame ..) rfl
  | cmdProdWrite => exact AnswersWithin.widen (execCmdProdWrite_frame ..) rfl
  | rplConsWrite => exact AnswersWithin.widen (execRplConsWrite_frame ..) rfl
  | evtConsWrite => exact AnswersWithin.widen (execEvtConsWrite_frame ..) rfl
  | irqStatusW1c => exact AnswersWithin.widen (execIrqStatusW1c_frame ..) rfl
  | hostHbWrite => exact AnswersWithin.widen (execHostHbWrite_frame ..) rfl
  | hwLoRead => exact AnswersWithin.widen (execHwLoRead_frame ..) rfl
  | snapReqWrite w value => exact AnswersWithin.widen (execSnapReqWrite_frame w value s) rfl
  | evtAgeTimeout => exact AnswersWithin.widen (execEvtAgeTimeout_frame ..) rfl
  | keeperNop => exact AnswersWithin.widen (execKeeperNop_frame ..) rfl
  | keeperMode => exact AnswersWithin.widen (execKeeperMode_frame ..) rfl
  | modeBoundary => exact AnswersWithin.widen (execModeBoundary_frame ..) rfl
  | keeperSigRead => exact AnswersWithin.widen (execKeeperSigRead_frame ..) rfl
  | keeperSigWrite => exact AnswersWithin.widen (execKeeperSigWrite_frame ..) rfl
  | keeperEvtMask => exact AnswersWithin.widen (execKeeperEvtMask_frame ..) rfl
  | holdLimitExpiry => exact AnswersWithin.widen (execHoldLimitExpiry_frame ..) rfl
  | deadlinePassed => exact AnswersWithin.widen (execDeadlinePassed_frame ..) rfl
  | unitRestart => exact AnswersWithin.widen (execUnitRestart_frame ..) rfl
  | unitReady => exact AnswersWithin.widen (execUnitReady_frame ..) rfl
  | hostDeadlineMiss => exact AnswersWithin.widen (execHostDeadlineMiss_frame ..) rfl
  | canopyPartitionRestart => exact AnswersWithin.widen (execCanopyPartitionRestart_frame ..) rfl
  | checkpoint => exact AnswersWithin.widen (execCheckpoint_frame ..) rfl
  | boughDieFailure => exact AnswersWithin.widen (execBoughDieFailure_frame ..) rfl
  | trunkStart => exact AnswersWithin.widen (execTrunkStart_frame ..) rfl
  | timeRole => exact AnswersWithin.widen (execTimeRole_frame ..) rfl
  | timePps => exact AnswersWithin.widen (execTimePps_frame ..) rfl
  | timePpsAbsent => exact AnswersWithin.widen (execTimePpsAbsent_frame ..) rfl
  | timeGmLost => exact AnswersWithin.widen (execTimeGmLost_frame ..) rfl
  | faultHandle => exact AnswersWithin.widen (execFaultHandle_frame ..) rfl
  | faultStatus => exact AnswersWithin.widen (execFaultStatus_frame ..) rfl
  | faultRaise => exact AnswersWithin.widen (execFaultRaise_frame ..) rfl
  | lossStrikeOnset => exact AnswersWithin.widen (execLossStrikeOnset_frame ..) rfl
  | lossStrikeEnd ch samples => exact AnswersWithin.widen (execLossStrikeEnd_frame ch samples s) rfl
  | lossBinClose => exact AnswersWithin.widen (execLossBinClose_frame ..) rfl
  | lossSensorTest => exact AnswersWithin.widen (execLossSensorTest_frame ..) rfl
  | lossSensorTestEnd => exact AnswersWithin.widen (execLossSensorTestEnd_frame ..) rfl
  | lossStatus => exact AnswersWithin.widen (execLossStatus_frame ..) rfl
  | lossConfig => exact AnswersWithin.widen (execLossConfig_frame ..) rfl
  | lossTemplates => exact AnswersWithin.widen (execLossTemplates_frame ..) rfl
  | lossSnip => exact AnswersWithin.widen (execLossSnip_frame ..) rfl
  | lossHostbuf => exact AnswersWithin.widen (execLossHostbuf_frame ..) rfl
  | lossResult => exact AnswersWithin.widen (execLossResult_frame ..) rfl
  | hostBlockWrite => exact AnswersWithin.widen (execHostBlockWrite_frame ..) rfl
  | bridgeSample => exact AnswersWithin.widen (execBridgeSample_frame ..) rfl
  | bridgeExcFault => exact AnswersWithin.widen (execBridgeExcFault_frame ..) rfl
  | bridgeSenseOpen => exact AnswersWithin.widen (execBridgeSenseOpen_frame ..) rfl
  | bridgeOverrange => exact AnswersWithin.widen (execBridgeOverrange_frame ..) rfl
  | bridgeConfig => exact AnswersWithin.widen (execBridgeConfig_frame ..) rfl
  | bridgeTare => exact AnswersWithin.widen (execBridgeTare_frame ..) rfl
  | bridgeStatus => exact AnswersWithin.widen (execBridgeStatus_frame ..) rfl
  | bridgeHostbuf => exact AnswersWithin.widen (execBridgeHostbuf_frame ..) rfl
  | bridgeResult => exact AnswersWithin.widen (execBridgeResult_frame ..) rfl
  | ainSample => exact AnswersWithin.widen (execAinSample_frame ..) rfl
  | ainDiag => exact AnswersWithin.widen (execAinDiag_frame ..) rfl
  | ainShuntOff => exact AnswersWithin.widen (execAinShuntOff_frame ..) rfl
  | ainShuntReconnect => exact AnswersWithin.widen (execAinShuntReconnect_frame ..) rfl
  | ainConfig => exact AnswersWithin.widen (execAinConfig_frame ..) rfl
  | ainHostbuf => exact AnswersWithin.widen (execAinHostbuf_frame ..) rfl
  | ainResult => exact AnswersWithin.widen (execAinResult_frame ..) rfl
  | freqEdge => exact AnswersWithin.widen (execFreqEdge_frame ..) rfl
  | freqGateEnd => exact AnswersWithin.widen (execFreqGateEnd_frame ..) rfl
  | freqComparatorTimeout => exact AnswersWithin.widen (execFreqComparatorTimeout_frame ..) rfl
  | freqWiringCheck => exact AnswersWithin.widen (execFreqWiringCheck_frame ..) rfl
  | freqConfig => exact AnswersWithin.widen (execFreqConfig_frame ..) rfl
  | freqHostbuf => exact AnswersWithin.widen (execFreqHostbuf_frame ..) rfl
  | freqResult => exact AnswersWithin.widen (execFreqResult_frame ..) rfl
  | supOverload => exact AnswersWithin.widen (execSupOverload_frame ..) rfl
  | supBackfed => exact AnswersWithin.widen (execSupBackfed_frame ..) rfl
  | supRetry => exact AnswersWithin.widen (execSupRetry_frame ..) rfl
  | supRegulationSettled => exact AnswersWithin.widen (execSupRegulationSettled_frame ..) rfl
  | supConfig => exact AnswersWithin.widen (execSupConfig_frame ..) rfl
  | loopSample => exact AnswersWithin.widen (execLoopSample_frame ..) rfl
  | missRelease => exact AnswersWithin.widen (execMissRelease_frame ..) rfl
  | stagingDone => exact AnswersWithin.widen (execStagingDone_frame ..) rfl
  | ctrlHostRelease => exact AnswersWithin.widen (execCtrlHostRelease_frame ..) rfl
  | ctrlStatus => exact AnswersWithin.widen (execCtrlStatus_frame ..) rfl
  | ctrlLoad => exact AnswersWithin.widen (execCtrlLoad_frame ..) rfl
  | ctrlEnable => exact AnswersWithin.widen (execCtrlEnable_frame ..) rfl
  | ctrlDisable => exact AnswersWithin.widen (execCtrlDisable_frame ..) rfl
  | ctrlSetpoint => exact AnswersWithin.widen (execCtrlSetpoint_frame ..) rfl
  | ctrlTrace => exact AnswersWithin.widen (execCtrlTrace_frame ..) rfl
  | ctrlTraceRead => exact AnswersWithin.widen (execCtrlTraceRead_frame ..) rfl
  | ctrlTraceReadDone => exact AnswersWithin.widen (execCtrlTraceReadDone_frame ..) rfl
  | ctrlHostbuf => exact AnswersWithin.widen (execCtrlHostbuf_frame ..) rfl
  | ctrlU => exact AnswersWithin.widen (execCtrlU_frame ..) rfl
  | valveStatus => exact AnswersWithin.widen (execValveStatus_frame ..) rfl
  | valveConfig => exact AnswersWithin.widen (execValveConfig_frame ..) rfl
  | valveSet => exact AnswersWithin.widen (execValveSet_frame ..) rfl
  | valveClear => exact AnswersWithin.widen (execValveClear_frame ..) rfl
  | valveDuty => exact AnswersWithin.widen (execValveDuty_frame ..) rfl
  | valveMinoffEnd => exact AnswersWithin.widen (execValveMinoffEnd_frame ..) rfl
  | valveSlotGrant => exact AnswersWithin.widen (execValveSlotGrant_frame ..) rfl
  | valveDeferExpiry => exact AnswersWithin.widen (execValveDeferExpiry_frame ..) rfl
  | valveBoostWaitEnd => exact AnswersWithin.widen (execValveBoostWaitEnd_frame ..) rfl
  | valvePeakEnd => exact AnswersWithin.widen (execValvePeakEnd_frame ..) rfl
  | valveDurationEnd => exact AnswersWithin.widen (execValveDurationEnd_frame ..) rfl
  | valveBankHsOff => exact AnswersWithin.widen (execValveBankHsOff_frame ..) rfl
  | valveCurrentUpdate => exact AnswersWithin.widen (execValveCurrentUpdate_frame ..) rfl
  | valveBoostFault => exact AnswersWithin.widen (execValveBoostFault_frame ..) rfl
  | valveOpenLoad => exact AnswersWithin.widen (execValveOpenLoad_frame ..) rfl
  | valveShortBat => exact AnswersWithin.widen (execValveShortBat_frame ..) rfl
  | valveShortGnd => exact AnswersWithin.widen (execValveShortGnd_frame ..) rfl
  | valveBankShort => exact AnswersWithin.widen (execValveBankShort_frame ..) rfl
  | valveTracking => exact AnswersWithin.widen (execValveTracking_frame ..) rfl
  | valveHostPeriod => exact AnswersWithin.widen (execValveHostPeriod_frame ..) rfl
  | gnssEpoch => exact AnswersWithin.widen (execGnssEpoch_frame ..) rfl
  | gnssRtcmFrame => exact AnswersWithin.widen (execGnssRtcmFrame_frame ..) rfl
  | gnssAntOpen => exact AnswersWithin.widen (execGnssAntOpen_frame ..) rfl
  | gnssAntShort => exact AnswersWithin.widen (execGnssAntShort_frame ..) rfl
  | gnssAntRetry => exact AnswersWithin.widen (execGnssAntRetry_frame ..) rfl
  | gnssGuardBurst => exact AnswersWithin.widen (execGnssGuardBurst_frame ..) rfl
  | gnssGuardReport => exact AnswersWithin.widen (execGnssGuardReport_frame ..) rfl
  | gnssStatus => exact AnswersWithin.widen (execGnssStatus_frame ..) rfl
  | gnssFix => exact AnswersWithin.widen (execGnssFix_frame ..) rfl
  | gnssConfig => exact AnswersWithin.widen (execGnssConfig_frame ..) rfl
  | gnssAntenna => exact AnswersWithin.widen (execGnssAntenna_frame ..) rfl
  | gnssCorr => exact AnswersWithin.widen (execGnssCorr_frame ..) rfl
  | gnssRtcm => exact AnswersWithin.widen (execGnssRtcm_frame ..) rfl
  | gnssOrigin => exact AnswersWithin.widen (execGnssOrigin_frame ..) rfl
  | gnssLine => exact AnswersWithin.widen (execGnssLine_frame ..) rfl
  | gnssGuard => exact AnswersWithin.widen (execGnssGuard_frame ..) rfl
  | gnssHostbuf => exact AnswersWithin.widen (execGnssHostbuf_frame ..) rfl
  | gnssSolution => exact AnswersWithin.widen (execGnssSolution_frame ..) rfl
  | imuSample => exact AnswersWithin.widen (execImuSample_frame ..) rfl
  | imuStatus => exact AnswersWithin.widen (execImuStatus_frame ..) rfl
  | imuConfig => exact AnswersWithin.widen (execImuConfig_frame ..) rfl
  | camFrameSync => exact AnswersWithin.widen (execCamFrameSync_frame ..) rfl
  | camFrameArrival => exact AnswersWithin.widen (execCamFrameArrival_frame ..) rfl
  | camIspOutput => exact AnswersWithin.widen (execCamIspOutput_frame ..) rfl
  | camLinkUp => exact AnswersWithin.widen (execCamLinkUp_frame ..) rfl
  | camLinkLost => exact AnswersWithin.widen (execCamLinkLost_frame ..) rfl
  | camPocOpen => exact AnswersWithin.widen (execCamPocOpen_frame ..) rfl
  | camPocShort => exact AnswersWithin.widen (execCamPocShort_frame ..) rfl
  | camPocRetry => exact AnswersWithin.widen (execCamPocRetry_frame ..) rfl
  | camSensorSilent => exact AnswersWithin.widen (execCamSensorSilent_frame ..) rfl
  | camBackchDone => exact AnswersWithin.widen (execCamBackchDone_frame ..) rfl
  | camStatus => exact AnswersWithin.widen (execCamStatus_frame ..) rfl
  | camConfig => exact AnswersWithin.widen (execCamConfig_frame ..) rfl
  | camSensor => exact AnswersWithin.widen (execCamSensor_frame ..) rfl
  | camIsp => exact AnswersWithin.widen (execCamIsp_frame ..) rfl
  | camTap => exact AnswersWithin.widen (execCamTap_frame ..) rfl
  | camBackch => exact AnswersWithin.widen (execCamBackch_frame ..) rfl
  | camLamp => exact AnswersWithin.widen (execCamLamp_frame ..) rfl
  | camExposure => exact AnswersWithin.widen (execCamExposure_frame ..) rfl
  | camHostbuf => exact AnswersWithin.widen (execCamHostbuf_frame ..) rfl
  | camLampSet => exact AnswersWithin.widen (execCamLampSet_frame ..) rfl
  | crownSampleArrival => exact AnswersWithin.widen (execCrownSampleArrival_frame ..) rfl
  | crownInputClose => exact AnswersWithin.widen (execCrownInputClose_frame ..) rfl
  | crownRelease => exact AnswersWithin.widen (execCrownRelease_frame ..) rfl
  | crownOverrun => exact AnswersWithin.widen (execCrownOverrun_frame ..) rfl
  | crownStatus => exact AnswersWithin.widen (execCrownStatus_frame ..) rfl
  | crownModel => exact AnswersWithin.widen (execCrownModel_frame ..) rfl
  | crownLoad => exact AnswersWithin.widen (execCrownLoad_frame ..) rfl
  | crownBind => exact AnswersWithin.widen (execCrownBind_frame ..) rfl
  | crownCalib => exact AnswersWithin.widen (execCrownCalib_frame ..) rfl
  | crownOutbuf => exact AnswersWithin.widen (execCrownOutbuf_frame ..) rfl
  | crownStart => exact AnswersWithin.widen (execCrownStart_frame ..) rfl
  | crownStop => exact AnswersWithin.widen (execCrownStop_frame ..) rfl
  | crownHostbuf => exact AnswersWithin.widen (execCrownHostbuf_frame ..) rfl
  | crownResult => exact AnswersWithin.widen (execCrownResult_frame ..) rfl
  | granaryPeriod => exact AnswersWithin.widen (execGranaryPeriod_frame ..) rfl
  | granaryTileWrite => exact AnswersWithin.widen (execGranaryTileWrite_frame ..) rfl
  | granaryFileClosed => exact AnswersWithin.widen (execGranaryFileClosed_frame ..) rfl
  | granaryStatus => exact AnswersWithin.widen (execGranaryStatus_frame ..) rfl
  | granaryConfig => exact AnswersWithin.widen (execGranaryConfig_frame ..) rfl
  | granarySections => exact AnswersWithin.widen (execGranarySections_frame ..) rfl
  | granaryCalib => exact AnswersWithin.widen (execGranaryCalib_frame ..) rfl
  | granaryOpen => exact AnswersWithin.widen (execGranaryOpen_frame ..) rfl
  | granaryClose => exact AnswersWithin.widen (execGranaryClose_frame ..) rfl
  | granaryCorrect => exact AnswersWithin.widen (execGranaryCorrect_frame ..) rfl
  | granaryHostbuf => exact AnswersWithin.widen (execGranaryHostbuf_frame ..) rfl
  | granaryResult => exact AnswersWithin.widen (execGranaryResult_frame ..) rfl
  | outStatus => exact AnswersWithin.widen (execOutStatus_frame ..) rfl
  | outConfig => exact AnswersWithin.widen (execOutConfig_frame ..) rfl
  | outSet => exact AnswersWithin.widen (execOutSet_frame ..) rfl
  | outClear => exact AnswersWithin.widen (execOutClear_frame ..) rfl
  | outParkhold => exact AnswersWithin.widen (execOutParkhold_frame ..) rfl
  | outPwmPeriod => exact AnswersWithin.widen (execOutPwmPeriod_frame ..) rfl
  | outInrushWindowEnd => exact AnswersWithin.widen (execOutInrushWindowEnd_frame ..) rfl
  | outLatched => exact AnswersWithin.widen (execOutLatched_frame ..) rfl
  | outCurrentUpdate => exact AnswersWithin.widen (execOutCurrentUpdate_frame ..) rfl
  | outDieSample => exact AnswersWithin.widen (execOutDieSample_frame ..) rfl
  | outRetryPwmPhase => exact AnswersWithin.widen (execOutRetryPwmPhase_frame ..) rfl
  | outGroupShutdown => exact AnswersWithin.widen (execOutGroupShutdown_frame ..) rfl
  | outClampEnd => exact AnswersWithin.widen (execOutClampEnd_frame ..) rfl
  | outClampExpire => exact AnswersWithin.widen (execOutClampExpire_frame ..) rfl
  | outOpenLoad => exact AnswersWithin.widen (execOutOpenLoad_frame ..) rfl
  | outShortBat => exact AnswersWithin.widen (execOutShortBat_frame ..) rfl
  | outDiagEnd => exact AnswersWithin.widen (execOutDiagEnd_frame ..) rfl
  | outTestDue => exact AnswersWithin.widen (execOutTestDue_frame ..) rfl
  | outTestReadback => exact AnswersWithin.widen (execOutTestReadback_frame ..) rfl
  | outParkPatternEdge => exact AnswersWithin.widen (execOutParkPatternEdge_frame ..) rfl
  | outParkTimeLimit => exact AnswersWithin.widen (execOutParkTimeLimit_frame ..) rfl
  | outParkTrip => exact AnswersWithin.widen (execOutParkTrip_frame ..) rfl
  | hbStatus => exact AnswersWithin.widen (execHbStatus_frame ..) rfl
  | hbConfig => exact AnswersWithin.widen (execHbConfig_frame ..) rfl
  | hbDrive => exact AnswersWithin.widen (execHbDrive_frame ..) rfl
  | hbClear => exact AnswersWithin.widen (execHbClear_frame ..) rfl
  | hbPosition => exact AnswersWithin.widen (execHbPosition_frame ..) rfl
  | hbRipple => exact AnswersWithin.widen (execHbRipple_frame ..) rfl
  | hbPinchReverse => exact AnswersWithin.widen (execHbPinchReverse_frame ..) rfl
  | hbPinchTimeout => exact AnswersWithin.widen (execHbPinchTimeout_frame ..) rfl
  | hbShort => exact AnswersWithin.widen (execHbShort_frame ..) rfl
  | hbStall => exact AnswersWithin.widen (execHbStall_frame ..) rfl
  | hbThermal => exact AnswersWithin.widen (execHbThermal_frame ..) rfl
  | hbTimeLimit => exact AnswersWithin.widen (execHbTimeLimit_frame ..) rfl
  | hbReversalBrakeEnd => exact AnswersWithin.widen (execHbReversalBrakeEnd_frame ..) rfl
  | hbCurrentUpdate => exact AnswersWithin.widen (execHbCurrentUpdate_frame ..) rfl
  | swinSample => exact AnswersWithin.widen (execSwinSample_frame ..) rfl
  | swinWakeStuck => exact AnswersWithin.widen (execSwinWakeStuck_frame ..) rfl
  | swinParkCheck => exact AnswersWithin.widen (execSwinParkCheck_frame ..) rfl
  | swinConfig => exact AnswersWithin.widen (execSwinConfig_frame ..) rfl
  | swinRead => exact AnswersWithin.widen (execSwinRead_frame ..) rfl
  | linSlot => exact AnswersWithin.widen (execLinSlot_frame ..) rfl
  | linWakePulse => exact AnswersWithin.widen (execLinWakePulse_frame ..) rfl
  | linResume => exact AnswersWithin.widen (execLinResume_frame ..) rfl
  | linBusFault => exact AnswersWithin.widen (execLinBusFault_frame ..) rfl
  | linRetry => exact AnswersWithin.widen (execLinRetry_frame ..) rfl
  | linStatus => exact AnswersWithin.widen (execLinStatus_frame ..) rfl
  | linRead => exact AnswersWithin.widen (execLinRead_frame ..) rfl
  | linConfig => exact AnswersWithin.widen (execLinConfig_frame ..) rfl
  | linTable => exact AnswersWithin.widen (execLinTable_frame ..) rfl
  | linSchedule => exact AnswersWithin.widen (execLinSchedule_frame ..) rfl
  | linWrite => exact AnswersWithin.widen (execLinWrite_frame ..) rfl
  | linSleep => exact AnswersWithin.widen (execLinSleep_frame ..) rfl
  | bodyConfig => exact AnswersWithin.widen (execBodyConfig_frame ..) rfl
  | bodyStatus => exact AnswersWithin.widen (execBodyStatus_frame ..) rfl
  | bodyRequest => exact AnswersWithin.widen (execBodyRequest_frame ..) rfl
  | bodyHostbuf => exact AnswersWithin.widen (execBodyHostbuf_frame ..) rfl
  | bodyResult => exact AnswersWithin.widen (execBodyResult_frame ..) rfl
  | bodyFlashPhase => exact AnswersWithin.widen (execBodyFlashPhase_frame ..) rfl
  | bodyWiperParkSwitch => exact AnswersWithin.widen (execBodyWiperParkSwitch_frame ..) rfl
  | bodyWiperStall => exact AnswersWithin.widen (execBodyWiperStall_frame ..) rfl
  | bodyWiperInterval => exact AnswersWithin.widen (execBodyWiperInterval_frame ..) rfl
  | bodyWiperChangeover => exact AnswersWithin.widen (execBodyWiperChangeover_frame ..) rfl
  | bodyLockPulseEnd => exact AnswersWithin.widen (execBodyLockPulseEnd_frame ..) rfl
  | bodyLockInhibitEnd => exact AnswersWithin.widen (execBodyLockInhibitEnd_frame ..) rfl
  | bodyAutoUpInhibitEnd => exact AnswersWithin.widen (execBodyAutoUpInhibitEnd_frame ..) rfl
  | bodyMaxOn => exact AnswersWithin.widen (execBodyMaxOn_frame ..) rfl
  | bodyDelayOff => exact AnswersWithin.widen (execBodyDelayOff_frame ..) rfl
  | bodyHostPeriod => exact AnswersWithin.widen (execBodyHostPeriod_frame ..) rfl
  | fanPwmPeriod => exact AnswersWithin.widen (execFanPwmPeriod_frame ..) rfl
  | fanTachEdge => exact AnswersWithin.widen (execFanTachEdge_frame ..) rfl
  | fanStretch => exact AnswersWithin.widen (execFanStretch_frame ..) rfl
  | fanStretchMax => exact AnswersWithin.widen (execFanStretchMax_frame ..) rfl
  | fanKickTimeout => exact AnswersWithin.widen (execFanKickTimeout_frame ..) rfl
  | fanRetry => exact AnswersWithin.widen (execFanRetry_frame ..) rfl
  | fanTachTimeout => exact AnswersWithin.widen (execFanTachTimeout_frame ..) rfl
  | fanHeartbeatMissing => exact AnswersWithin.widen (execFanHeartbeatMissing_frame ..) rfl
  | fanStatus => exact AnswersWithin.widen (execFanStatus_frame ..) rfl
  | fanConfig => exact AnswersWithin.widen (execFanConfig_frame ..) rfl
  | fanTable => exact AnswersWithin.widen (execFanTable_frame ..) rfl
  | fanSet => exact AnswersWithin.widen (execFanSet_frame ..) rfl
  | fanClear => exact AnswersWithin.widen (execFanClear_frame ..) rfl
  | fanResult => exact AnswersWithin.widen (execFanResult_frame ..) rfl
  | plateStatus => exact AnswersWithin.widen (execPlateStatus_frame ..) rfl
  | plateConfig => exact AnswersWithin.widen (execPlateConfig_frame ..) rfl
  | plateWaveform => exact AnswersWithin.widen (execPlateWaveform_frame ..) rfl
  | plateUpdate => exact AnswersWithin.widen (execPlateUpdate_frame ..) rfl
  | platePark => exact AnswersWithin.widen (execPlatePark_frame ..) rfl
  | plateFrameStart => exact AnswersWithin.widen (execPlateFrameStart_frame ..) rfl
  | plateFrameDone => exact AnswersWithin.widen (execPlateFrameDone_frame ..) rfl
  | plateBusyTimeout => exact AnswersWithin.widen (execPlateBusyTimeout_frame ..) rfl
  | plateRailFault => exact AnswersWithin.widen (execPlateRailFault_frame ..) rfl
  | plateDone => exact AnswersWithin.widen (execPlateDone_frame ..) rfl
  | canFrameRx => exact AnswersWithin.widen (execCanFrameRx_frame ..) rfl
  | canTpTimeout => exact AnswersWithin.widen (execCanTpTimeout_frame ..) rfl
  | canHpHoldExpiry => exact AnswersWithin.widen (execCanHpHoldExpiry_frame ..) rfl
  | canSignalTimeout => exact AnswersWithin.widen (execCanSignalTimeout_frame ..) rfl
  | canQueueNotifyAge => exact AnswersWithin.widen (execCanQueueNotifyAge_frame ..) rfl
  | canTxPeriodic => exact AnswersWithin.widen (execCanTxPeriodic_frame ..) rfl
  | canTxOnChange => exact AnswersWithin.widen (execCanTxOnChange_frame ..) rfl
  | canTxComplete => exact AnswersWithin.widen (execCanTxComplete_frame ..) rfl
  | canBusRecovered => exact AnswersWithin.widen (execCanBusRecovered_frame ..) rfl
  | canRejoin => exact AnswersWithin.widen (execCanRejoin_frame ..) rfl
  | canTxdDominant => exact AnswersWithin.widen (execCanTxdDominant_frame ..) rfl
  | canPantryCommit => exact AnswersWithin.widen (execCanPantryCommit_frame ..) rfl
  | canBasicCycle => exact AnswersWithin.widen (execCanBasicCycle_frame ..) rfl
  | canBackupReference => exact AnswersWithin.widen (execCanBackupReference_frame ..) rfl
  | canScheduleLost => exact AnswersWithin.widen (execCanScheduleLost_frame ..) rfl
  | canSlotWindow => exact AnswersWithin.widen (execCanSlotWindow_frame ..) rfl
  | canRouteHoldTimeout => exact AnswersWithin.widen (execCanRouteHoldTimeout_frame ..) rfl
  | canStatus => exact AnswersWithin.widen (execCanStatus_frame ..) rfl
  | canHpRead => exact AnswersWithin.widen (execCanHpRead_frame ..) rfl
  | canTxStatus => exact AnswersWithin.widen (execCanTxStatus_frame ..) rfl
  | canConfig => exact AnswersWithin.widen (execCanConfig_frame ..) rfl
  | canPantry => exact AnswersWithin.widen (execCanPantry_frame ..) rfl
  | canQueue => exact AnswersWithin.widen (execCanQueue_frame ..) rfl
  | canSchedule => exact AnswersWithin.widen (execCanSchedule_frame ..) rfl
  | canRecover => exact AnswersWithin.widen (execCanRecover_frame ..) rfl
  | canSend => exact AnswersWithin.widen (execCanSend_frame ..) rfl
  | canTp => exact AnswersWithin.widen (execCanTp_frame ..) rfl
  | canTpSend => exact AnswersWithin.widen (execCanTpSend_frame ..) rfl
  | ethFrameRx => exact AnswersWithin.widen (execEthFrameRx_frame ..) rfl
  | ethLidarFragment => exact AnswersWithin.widen (execEthLidarFragment_frame ..) rfl
  | ethLidarTimeout => exact AnswersWithin.widen (execEthLidarTimeout_frame ..) rfl
  | ethSignalDatagram => exact AnswersWithin.widen (execEthSignalDatagram_frame ..) rfl
  | ethSigportTimeout => exact AnswersWithin.widen (execEthSigportTimeout_frame ..) rfl
  | ethHostringTx => exact AnswersWithin.widen (execEthHostringTx_frame ..) rfl
  | ethGateCycle => exact AnswersWithin.widen (execEthGateCycle_frame ..) rfl
  | ethLinkUp => exact AnswersWithin.widen (execEthLinkUp_frame ..) rfl
  | ethLinkDown => exact AnswersWithin.widen (execEthLinkDown_frame ..) rfl
  | ethStatus => exact AnswersWithin.widen (execEthStatus_frame ..) rfl
  | ethConfig => exact AnswersWithin.widen (execEthConfig_frame ..) rfl
  | ethGates => exact AnswersWithin.widen (execEthGates_frame ..) rfl
  | ethLidar => exact AnswersWithin.widen (execEthLidar_frame ..) rfl
  | ethSigport => exact AnswersWithin.widen (execEthSigport_frame ..) rfl
  | ethHostring => exact AnswersWithin.widen (execEthHostring_frame ..) rfl
  | nmRingMessage => exact AnswersWithin.widen (execNmRingMessage_frame ..) rfl
  | nmRingSend => exact AnswersWithin.widen (execNmRingSend_frame ..) rfl
  | nmRingTimeout => exact AnswersWithin.widen (execNmRingTimeout_frame ..) rfl
  | nmWakeInGap => exact AnswersWithin.widen (execNmWakeInGap_frame ..) rfl
  | nmGapEnd => exact AnswersWithin.widen (execNmGapEnd_frame ..) rfl
  | nmTc10AckTimeout => exact AnswersWithin.widen (execNmTc10AckTimeout_frame ..) rfl
  | nmSleepBlocked => exact AnswersWithin.widen (execNmSleepBlocked_frame ..) rfl
  | canTransceiverWake => exact AnswersWithin.widen (execCanTransceiverWake_frame ..) rfl
  | tc10Wake => exact AnswersWithin.widen (execTc10Wake_frame ..) rfl
  | nmStatus => exact AnswersWithin.widen (execNmStatus_frame ..) rfl
  | nmWakeCause => exact AnswersWithin.widen (execNmWakeCause_frame ..) rfl
  | nmConfig => exact AnswersWithin.widen (execNmConfig_frame ..) rfl
  | nmRequest => exact AnswersWithin.widen (execNmRequest_frame ..) rfl
  | nmCanwake => exact AnswersWithin.widen (execNmCanwake_frame ..) rfl
  | wdKeyWrite => exact AnswersWithin.widen (execWdKeyWrite_frame ..) rfl
  | wdCfgWrite => exact AnswersWithin.widen (execWdCfgWrite_frame ..) rfl
  | rootWdTimeout => exact AnswersWithin.widen (execRootWdTimeout_frame ..) rfl
  | safeoffWrite => exact AnswersWithin.widen (execSafeoffWrite_frame ..) rfl
  | cellarHoldRelease => exact AnswersWithin.widen (execCellarHoldRelease_frame ..) rfl
  | flagsSetWrite => exact AnswersWithin.widen (execFlagsSetWrite_frame ..) rfl
  | flagsClrWrite => exact AnswersWithin.widen (execFlagsClrWrite_frame ..) rfl
  | taggedOffRelease => exact AnswersWithin.widen (execTaggedOffRelease_frame ..) rfl
  | rootStopWrite => exact AnswersWithin.widen (execRootStopWrite_frame ..) rfl
  | stuckW1c => exact AnswersWithin.widen (execStuckW1c_frame ..) rfl
  | ruleRecordWrite => exact AnswersWithin.widen (execRuleRecordWrite_frame ..) rfl
  | ruleEnWrite => exact AnswersWithin.widen (execRuleEnWrite_frame ..) rfl
  | reflexRuleChange => exact AnswersWithin.widen (execReflexRuleChange_frame ..) rfl
  | rootFault => exact AnswersWithin.widen (execRootFault_frame ..) rfl
  | rootStart => exact AnswersWithin.widen (execRootStart_frame ..) rfl
  | monitorTrip => exact AnswersWithin.widen (execMonitorTrip_frame ..) rfl
  | monitorReturn => exact AnswersWithin.widen (execMonitorReturn_frame ..) rfl
  | keeperHbTick => exact AnswersWithin.widen (execKeeperHbTick_frame ..) rfl
  | rootLinkMessage => exact AnswersWithin.widen (execRootLinkMessage_frame ..) rfl
  | rootLinkTimeout => exact AnswersWithin.widen (execRootLinkTimeout_frame ..) rfl
  | rootLinkTx => exact AnswersWithin.widen (execRootLinkTx_frame ..) rfl
  | rootLinkRearm => exact AnswersWithin.widen (execRootLinkRearm_frame ..) rfl
  | rootStatus => exact AnswersWithin.widen (execRootStatus_frame ..) rfl
  | rootLinkStatus => exact AnswersWithin.widen (execRootLinkStatus_frame ..) rfl
  | rootRestart => exact AnswersWithin.widen (execRootRestart_frame ..) rfl
  | reflexStatus => exact AnswersWithin.widen (execReflexStatus_frame ..) rfl
  | graftStatus => exact AnswersWithin.widen (execGraftStatus_frame ..) rfl
  | graftMissing => exact AnswersWithin.widen (execGraftMissing_frame ..) rfl
  | graftOpen => exact AnswersWithin.widen (execGraftOpen_frame ..) rfl
  | graftPiece => exact AnswersWithin.widen (execGraftPiece_frame ..) rfl
  | graftInstalled => exact AnswersWithin.widen (execGraftInstalled_frame ..) rfl
  | graftDiscard => exact AnswersWithin.widen (execGraftDiscard_frame ..) rfl
  | graftActivate => exact AnswersWithin.widen (execGraftActivate_frame ..) rfl
  | graftHashDone => exact AnswersWithin.widen (execGraftHashDone_frame ..) rfl
  | graftHandoverNotice => exact AnswersWithin.widen (execGraftHandoverNotice_frame ..) rfl
  | graftYield => exact AnswersWithin.widen (execGraftYield_frame ..) rfl
  | graftTake => exact AnswersWithin.widen (execGraftTake_frame ..) rfl
  | graftReadyTimeout => exact AnswersWithin.widen (execGraftReadyTimeout_frame ..) rfl
  | graftYieldTimeout => exact AnswersWithin.widen (execGraftYieldTimeout_frame ..) rfl
  | graftTakeTimeout => exact AnswersWithin.widen (execGraftTakeTimeout_frame ..) rfl
  | rootCutover => exact AnswersWithin.widen (execRootCutover_frame ..) rfl
  | keeperCutover => exact AnswersWithin.widen (execKeeperCutover_frame ..) rfl
  | keeperCutoverTimeout => exact AnswersWithin.widen (execKeeperCutoverTimeout_frame ..) rfl
  | graftConfirm => exact AnswersWithin.widen (execGraftConfirm_frame ..) rfl
  | graftConfirmDue => exact AnswersWithin.widen (execGraftConfirmDue_frame ..) rfl
  | graftTrialCountWrite => exact AnswersWithin.widen (execGraftTrialCountWrite_frame ..) rfl
  | graftConfirmTimeout => exact AnswersWithin.widen (execGraftConfirmTimeout_frame ..) rfl
  | graftFallbackCmd => exact AnswersWithin.widen (execGraftFallbackCmd_frame ..) rfl
  | graftBootTimeout => exact AnswersWithin.widen (execGraftBootTimeout_frame ..) rfl
  | graftFallbackDone => exact AnswersWithin.widen (execGraftFallbackDone_frame ..) rfl
  | atticStatus => exact AnswersWithin.widen (execAtticStatus_frame ..) rfl
  | atticList => exact AnswersWithin.widen (execAtticList_frame ..) rfl
  | atticRead => exact AnswersWithin.widen (execAtticRead_frame ..) rfl
  | atticWrite => exact AnswersWithin.widen (execAtticWrite_frame ..) rfl
  | atticDelete => exact AnswersWithin.widen (execAtticDelete_frame ..) rfl
  | atticDone => exact AnswersWithin.widen (execAtticDone_frame ..) rfl
  | atticTempSample => exact AnswersWithin.widen (execAtticTempSample_frame ..) rfl
  | atticStageLost => exact AnswersWithin.widen (execAtticStageLost_frame ..) rfl
  | keptConfigWrite => exact AnswersWithin.widen (execKeptConfigWrite_frame ..) rfl
  | larderBufferFlush => exact AnswersWithin.widen (execLarderBufferFlush_frame ..) rfl
  | larderStatus => exact AnswersWithin.widen (execLarderStatus_frame ..) rfl
  | larderRead => exact AnswersWithin.widen (execLarderRead_frame ..) rfl
  | larderReadDone => exact AnswersWithin.widen (execLarderReadDone_frame ..) rfl
  | larderChallenge => exact AnswersWithin.widen (execLarderChallenge_frame ..) rfl
  | larderClear => exact AnswersWithin.widen (execLarderClear_frame ..) rfl
  | larderCleared => exact AnswersWithin.widen (execLarderCleared_frame ..) rfl
  | larderClearLockEnd => exact AnswersWithin.widen (execLarderClearLockEnd_frame ..) rfl
  | cellarStart => exact AnswersWithin.widen (execCellarStart_frame ..) rfl
  | parkWake => exact AnswersWithin.widen (execParkWake_frame ..) rfl
  | ignChange => exact AnswersWithin.widen (execIgnChange_frame ..) rfl
  | graceEnd => exact AnswersWithin.widen (execGraceEnd_frame ..) rfl
  | parkEntryStart => exact AnswersWithin.widen (execParkEntryStart_frame ..) rfl
  | parkWait => exact AnswersWithin.widen (execParkWait_frame ..) rfl
  | parkStepDone => exact AnswersWithin.widen (execParkStepDone_frame ..) rfl
  | powerDownLatch => exact AnswersWithin.widen (execPowerDownLatch_frame ..) rfl
  | supplyLoss => exact AnswersWithin.widen (execSupplyLoss_frame ..) rfl
  | supplyReturn => exact AnswersWithin.widen (execSupplyReturn_frame ..) rfl
  | cellarHoldExpiry => exact AnswersWithin.widen (execCellarHoldExpiry_frame ..) rfl
  | studLow => exact AnswersWithin.widen (execStudLow_frame ..) rfl
  | powerUndervolt => exact AnswersWithin.widen (execPowerUndervolt_frame ..) rfl
  | powerOvervolt => exact AnswersWithin.widen (execPowerOvervolt_frame ..) rfl
  | overvoltEnd => exact AnswersWithin.widen (execOvervoltEnd_frame ..) rfl
  | powerReverse => exact AnswersWithin.widen (execPowerReverse_frame ..) rfl
  | powerStatus => exact AnswersWithin.widen (execPowerStatus_frame ..) rfl
  | powerConfig => exact AnswersWithin.widen (execPowerConfig_frame ..) rfl
  | powerRequest => exact AnswersWithin.widen (execPowerRequest_frame ..) rfl
  | powerRun => exact AnswersWithin.widen (execPowerRun_frame ..) rfl
  | thermalSample => exact AnswersWithin.widen (execThermalSample_frame ..) rfl
  | throttleStepDown => exact AnswersWithin.widen (execThrottleStepDown_frame ..) rfl
  | thermalStatus => exact AnswersWithin.widen (execThermalStatus_frame ..) rfl
  | extest => exact AnswersWithin.widen (execExtest_frame ..) rfl
  | idcode => exact AnswersWithin.widen (execIdcode_frame ..) rfl
  | samplePreload => exact AnswersWithin.widen (execSamplePreload_frame ..) rfl
  | highz => exact AnswersWithin.widen (execHighz_frame ..) rfl
  | clamp => exact AnswersWithin.widen (execClamp_frame ..) rfl
  | bypass => exact AnswersWithin.widen (execBypass_frame ..) rfl
  | testLogicReset => exact AnswersWithin.widen (execTestLogicReset_frame ..) rfl
  | testkeyTied => exact AnswersWithin.widen (execTestkeyTied_frame ..) rfl
  | consoleRx => exact AnswersWithin.widen (execConsoleRx_frame ..) rfl
  | studReturn => exact AnswersWithin.widen (execStudReturn_frame ..) rfl
  | undervoltEnd => exact AnswersWithin.widen (execUndervoltEnd_frame ..) rfl
  | powerReverseEnd => exact AnswersWithin.widen (execPowerReverseEnd_frame ..) rfl
  | hbThermalEnd => exact AnswersWithin.widen (execHbThermalEnd_frame ..) rfl
  | gnssAntOpenEnd => exact AnswersWithin.widen (execGnssAntOpenEnd_frame ..) rfl
  | camPocOpenEnd => exact AnswersWithin.widen (execCamPocOpenEnd_frame ..) rfl
  | canBusError => exact AnswersWithin.widen (execCanBusError_frame ..) rfl
  | canTpBamPacket => exact AnswersWithin.widen (execCanTpBamPacket_frame ..) rfl
  | canopyPartitionStart => exact AnswersWithin.widen (execCanopyPartitionStart_frame ..) rfl
  | testkeyUntied => exact AnswersWithin.widen (execTestkeyUntied_frame ..) rfl

/-- A command keeps the part. -/
theorem exec_keepsPart (c : Instr) (s : State) : ∃ t, exec c s = .next t ∧ SamePart s t := by
  obtain ⟨t, ho, ht⟩ := exec_answersWithin c s
  exact ⟨t, ho, part_of_without ht rfl⟩

theorem clockTick_keepsPart (s : State) : SamePart s s.clockTick := by
  have turn : SamePart s (s.waitTo (s.hw + 4)).keeperTurn :=
    part_of_without (m := hardwareMask) ((State.keeperTurn_frame _ rfl).trans (State.waitTo_frame s _ rfl)) rfl
  unfold State.clockTick
  split
  · exact turn
  · split <;> rfl

/-- A step is the front command on the rest of the queue, or a cycle of the clock; each keeps the part. -/
theorem step_keepsPart (s : State) : ∃ t, step s = .next t ∧ SamePart s t := by
  unfold step
  split
  · next c q _ => exact exec_keepsPart c { s with pending := q }
  · exact ⟨_, rfl, clockTick_keepsPart s⟩

/-! ### The identity words of a window are words of the part (00 R3, 02 R42-R44) -/

section IdentityWords

variable {s t : State}

theorem SamePart.variant_eq (h : SamePart s t) : t.variant = s.variant := congrArg Part.variant h

theorem SamePart.typeReg_eq (h : SamePart s t) (w : Nat) : t.typeReg w = s.typeReg w := by
  have housing : t.part.housing = s.part.housing := congrArg Part.housing h
  simp only [State.typeReg, h.variant_eq, housing]

theorem SamePart.countsReg_eq (h : SamePart s t) : t.countsReg = s.countsReg := by
  simp only [State.countsReg, h.variant_eq]

/-- The FITTEDn words ask the variant alone; the VALIDn words ask the running units too. -/
theorem SamePart.fittedBits_eq (h : SamePart s t) (n : Nat) : t.unitBits false n = s.unitBits false n := by
  simp only [State.unitBits, h.variant_eq, Bool.not_false, Bool.true_or]

/-- FITTED0-3 stand at 0x10; below them TYPE, the serial number and COUNTS, and no other word. -/
theorem SamePart.regRead_eq (h : SamePart s t) (w : Nat) {ofs : Nat} (ho : ofs < 0x20) :
    t.regRead w ofs = s.regRead w ofs := by
  have serial : t.part.serial = s.part.serial := congrArg Part.serial h
  by_cases hf : 0x10 ≤ ofs
  · simp only [State.regRead, hf, ho, and_self, ↓reduceIte, h.fittedBits_eq]
  · have hlow : ofs < 0x10 := Nat.lt_of_not_le hf
    interval_cases ofs <;> simp [State.regRead, h.typeReg_eq, h.countsReg_eq, serial]

end IdentityWords

/-- Settles O4: every command's outcome is a next state that keeps the part, so every step keeps it, and the identity words
read the part. -/
theorem everyStepKeepsTheIdentity : Obligations.EveryStepKeepsTheIdentity := by
  refine ⟨exec_keepsPart, fun s => ?_⟩
  obtain ⟨t, ht, hp⟩ := step_keepsPart s
  exact ⟨t, ht, hp, fun w _ ho => hp.regRead_eq w ho⟩

/-! ### The reset state -/

theorem reset_win (w : Nat) : State.reset.win w = Window.reset := rfl

theorem reset_region (w d : Nat) : State.reset.region w d = Region.reset := rfl

/-- No window runs after reset, so none is live. -/
theorem reset_live (w : Nat) : State.reset.live w = false := by
  have : (State.reset.win w).running = false := rfl
  simp only [State.live, this, Bool.false_and]

/-- Settles O3: the scalar pieces are the reset values of their fields; the tables are empty, so every window and region reads
as at reset. -/
theorem resetIsOffWithNothingRunning : Obligations.ResetIsOffWithNothingRunning := by
  refine ⟨rfl, rfl, reset_live, rfl, rfl, rfl, rfl, rfl, rfl, rfl, rfl, rfl, fun w => ?_, fun w d => ?_, fun w => ?_⟩
  · rw [reset_win]; rfl
  · rw [reset_region]; rfl
  · rw [reset_win]; decide

/-! ### The rows of the window registers (02 R43, R49, R50, R54, R57, 03 R81): what each write to a live window comes to -/

section WindowRows

variable {s : State} {w : Nat}

/-- An aligned write of 8 to 64 bits into the command ring stores its bytes there. -/
theorem registerWrite_ring (hl : s.live w = true) {ofs width : Nat} (value : Nat)
    (hw : width = 8 ∨ width = 16 ∨ width = 32 ∨ width = 64) (ha : ofs % (width / 8) = 0)
    (hr : 0x1000 ≤ ofs ∧ ofs < 0x3000) :
    s.registerWrite w ofs width value =
      s.modWin w (fun x => { x with cmdRing := twrite x.cmdRing ofs (leB (width / 8) value) }) := by
  have width_ok : (width == 8 || width == 16 || width == 32 || width == 64) = true := by
    simpa [or_assoc] using hw
  simp [State.registerWrite, hl, width_ok, ha, hr]

/-- CMD_PROD at most 64 slots ahead of CMD_CONS is taken, and Keeper's turn follows. -/
theorem cmdProdWrite_taken (hl : s.live w = true) {value : Nat} {st : List Store}
    (hv : (value % 65536 + 65536 - ((s.stores w st).win w).cmdCons) % 65536 ≤ 64) :
    s.cmdProdWrite w value st = ((s.stores w st).modWin w (fun x => { x with cmdProd := value % 65536 })).keeperTurn := by
  simp only [State.cmdProdWrite, hl, hv, Bool.not_true, Bool.false_eq_true, ↓reduceIte]

/-- RPL_CONS not past RPL_PROD is taken, and Keeper's turn follows. -/
theorem rplConsWrite_taken (hl : s.live w = true) {value : Nat}
    (hv : (value % 65536 + 65536 - (s.win w).rplCons) % 65536 ≤ ((s.win w).rplProd + 65536 - (s.win w).rplCons) % 65536) :
    s.rplConsWrite w value = (s.modWin w (fun x => { x with rplCons := value % 65536 })).keeperTurn := by
  simp only [State.rplConsWrite, hl, hv, Bool.not_true, Bool.false_eq_true, ↓reduceIte]

/-- EVT_CONS not past the unread events is taken, and lost events are reported. -/
theorem evtConsWrite_taken (hl : s.live w = true) {value : Nat}
    (hv : (value % 65536 + 65536 - (s.win w).evtCons) % 65536 ≤ (s.win w).unread) :
    s.evtConsWrite w value = (s.modWin w (fun x => { x with evtCons := value % 65536 })).eventsLost w := by
  simp only [State.evtConsWrite, hl, hv, Bool.not_true, Bool.false_eq_true, ↓reduceIte]

theorem irqClear_live (hl : s.live w = true) (value : Nat) :
    s.irqClear w value = s.modWin w (fun x =>
      { x with irqLost := x.irqLost && (!bit value 2 || x.lostAt == s.hw + 1),
               irqRpl := x.irqRpl && (!bit value 1 || x.rplAt == s.hw + 1),
               irqEvt := (x.irqEvt && !bit value 0) || x.evtCond s.hw }) := by
  simp only [State.irqClear, hl, Bool.not_true, Bool.false_eq_true, ↓reduceIte]

/-- A HOST_HB of a new value is stamped. -/
theorem hostHbWrite_changed (hl : s.live w = true) {value : Nat} (hv : (s.win w).hostHb ≠ value % 2 ^ 32) :
    s.hostHbWrite w value =
      (s.modWin w (fun x => { x with hostHb := value % 2 ^ 32, hostHbAt := s.hw })).fanHeartbeat (some w) := by
  simp only [State.hostHbWrite, hl, hv, Bool.not_true, Bool.false_eq_true, ↓reduceIte]

theorem execHwLoRead_live (hl : s.live w = true) :
    execHwLoRead w s = .next (s.modWin w (fun x => { x with hwHi := s.hw / 2 ^ 32 % 2 ^ 32 })) := by
  simp only [execHwLoRead, hl, ↓reduceIte]

theorem snapWrite_live (hl : s.live w = true) :
    s.snapWrite w = s.modWin w (fun x => { x with snapLo := s.hw % 2 ^ 32, snapHi := s.hw / 2 ^ 32 % 2 ^ 32 }) := by
  simp only [State.snapWrite, hl, ↓reduceIte]

/-- The oldest unread event of a live window sets EVT when it is 1 ms old. -/
theorem execEvtAgeTimeout_oldest (hl : s.live w = true) {e : Event} (he : (s.win w).oldest = some e) :
    execEvtAgeTimeout w s = .next ((s.waitTo (e.stamp + 1000000)).modWin w (fun x => { x with irqEvt := true })) := by
  simp only [execEvtAgeTimeout, hl, he, Bool.not_true, Bool.false_eq_true, ↓reduceIte]

end WindowRows

/-- Settles O60: each row's command is its register's write, and each register's write is given by its lemma. -/
theorem windowRegisterRowsComplete : Obligations.WindowRegisterRowsComplete := by
  refine ⟨?registerWrite, ?cmdProd, ?rplCons, ?evtCons, ?irqStatus, ?hostHb, ?hwLo, ?snapReq, ?evtAge⟩
  case registerWrite =>
    intro s w ofs width value hl hw ha hlo hhi
    exact congrArg _ (registerWrite_ring hl value hw ha ⟨hlo, hhi⟩)
  case cmdProd => exact fun s w value st hl hv => congrArg _ (cmdProdWrite_taken hl hv)
  case rplCons => exact fun s w value hl hv => congrArg _ (rplConsWrite_taken hl hv)
  case evtCons => exact fun s w value hl hv => congrArg _ (evtConsWrite_taken hl hv)
  case irqStatus => exact fun s w value hl => congrArg _ (irqClear_live hl value)
  case hostHb => exact fun s w value hl hv => congrArg _ (hostHbWrite_changed hl hv)
  case hwLo => exact fun s w hl => execHwLoRead_live hl
  case snapReq => exact fun s w value hl => congrArg _ (snapWrite_live hl)
  case evtAge => exact fun s w e hl he => execEvtAgeTimeout_oldest hl he

end Sys2Proof.Machine
end

section
/-! The architecture (spec 01): KEEPER.SIG_WRITE changes the signals of its own window only, and Keeper's timed rows and the
rows of the power states complete. -/

namespace Sys2Proof.Machine

/-! ### Which signals a mailbox command can change -/

section MailboxSignals

variable (s : State) (v : Verb) (r : Req)

theorem written_signals : (s.written v r).signals = s.signals := by
  simp [State.written]

theorem consumed_signals : (s.consumed v r).signals = s.signals := written_signals s v r

theorem offered_signals : (s.offered v r).signals = s.signals := by
  simp only [State.offered, State.ungate_leaves, consumed_signals]

/-- The clock gating after a command leaves the signals as the effect made them. -/
theorem gateIdle_signals (t : State) (u inst : Nat) : (s.gateIdle t u inst).signals = t.signals :=
  signals_of_without (m := 2) (State.gateIdle_frame s t u inst rfl) rfl

theorem execute_signals (held : Bool) :
    (s.execute v r held).signals = (v.body r (s.ungate v.unit r.inst)).1.signals := by
  unfold State.execute
  generalize v.body r (s.ungate v.unit r.inst) = effect
  dsimp only
  split <;> simp [gateIdle_signals]

/-- A served command changes signals only by its verb's effect, and only where every check passes. -/
theorem serve_signals (held : Bool) : (s.serve v r held).signals = s.signals ∨
    s.check v r = none ∧ (s.serve v r held).signals = (v.body r (s.ungate v.unit r.inst)).1.signals := by
  unfold State.serve
  split
  · next hcheck => exact .inr ⟨hcheck, execute_signals s v r held⟩
  · split
    · split <;> exact .inl (by simp)
    · exact .inl (by simp)

/-- The same of a command that Keeper takes: one that waits, or whose recorded reply is posted again, changes none. -/
theorem take_signals : (s.take v r).signals = s.signals ∨
    s.check v r = none ∧ (s.take v r).signals = (v.body r (s.ungate v.unit r.inst)).1.signals := by
  unfold State.take
  split
  · exact .inl (by simp)
  · unfold State.start
    split
    · exact .inl (by simp)
    · exact serve_signals s v r false

/-- A mailbox command is not issued, or waits in its ring, or is taken by Keeper (02 R54). -/
theorem mailbox_cases : s.mailbox v r = s ∨ s.mailbox v r = s.written v r ∨
    s.mailbox v r = (s.consumed v r).take v (v.req r) := by
  unfold State.mailbox
  dsimp only
  split
  · exact .inl rfl
  · split
    · exact .inr (.inl rfl)
    · exact .inr (.inr rfl)

/-- A mailbox command changes signals only by its verb's effect on the offered state, and only where every check passes. -/
theorem mailbox_signals : (s.mailbox v r).signals = s.signals ∨
    (s.consumed v r).check v (v.req r) = none ∧
      (s.mailbox v r).signals = (v.body (v.req r) (s.offered v r)).1.signals := by
  obtain h | h | h := mailbox_cases s v r <;> rw [h]
  · exact .inl rfl
  · exact .inl (written_signals s v r)
  · have taken := take_signals (s.consumed v r) v (v.req r)
    rwa [consumed_signals] at taken

end MailboxSignals

/-- Check 7 stands among the checks of 02 R59. -/
theorem permitted_of_check_none {s : State} {v : Verb} {r : Req} (h : s.check v r = none) : s.permitted v r = true := by
  by_contra hperm
  unfold State.check at h
  simp only [Bool.eq_false_of_not_eq_true hperm, Bool.not_false, ↓reduceIte] at h
  split_ifs at h

/-! ### KEEPER.SIG_WRITE (01 R26, 03 R87) -/

theorem setSig_sig_other (s : State) {id j : Nat} (v : F32) (stamp flags : Nat) (h : j ≠ id) :
    (s.setSig id v stamp flags).sig j = s.sig j := by
  have table : (s.setSig id v stamp flags).signals =
      tmod Signal.reset s.signals id (fun x => x.write s.hw v stamp flags) := by
    unfold State.setSig
    dsimp only
    split <;> rfl
  simp only [State.sig, table, tget_tmod_other _ _ _ h]

/-- Writing the entries of a list leaves the signals that none of them names alone. -/
theorem foldl_setSig_sig_other (stamp : SigEntry → Nat) {j : Nat} (l : List SigEntry) (s : State)
    (h : ∀ e ∈ l, j ≠ e.id) :
    (l.foldl (fun (a : State) e => a.setSig e.id e.value (stamp e) e.flags) s).sig j = s.sig j := by
  induction l generalizing s with
  | nil => rfl
  | cons e l ih =>
    obtain ⟨he, hl⟩ := List.forall_mem_cons.mp h
    rw [List.foldl_cons, ih _ hl, setSig_sig_other s _ _ _ he]

theorem bodyEvalAll_signals (s : State) : s.bodyEvalAll.signals = s.signals :=
  signals_of_without (m := 18915338) (State.bodyEvalAll_frame s rfl) rfl

/-- The effect of SIG_WRITE leaves the signals that no entry names. -/
theorem keeperSigWrite_body_sig_other (s : State) (r : Req) {j : Nat} (h : ∀ e ∈ sigEntries r.payload, j ≠ e.id) :
    (verbKeeperSigWrite.body r s).1.sig j = s.sig j := by
  dsimp only [verbKeeperSigWrite]
  split
  · rfl
  · exact (congrArg (tget Signal.reset · j) (bodyEvalAll_signals _)).trans
      (foldl_setSig_sig_other (fun e => if e.stamp = 0 then s.hw else e.stamp) _ s h)

/-- A SIG_WRITE that passes its checks names signals of its own window only: its permission is ownership of each entry. -/
theorem keeperSigWrite_owned {s : State} {r : Req} (h : s.check verbKeeperSigWrite r = none) :
    ∀ e ∈ sigEntries r.payload, s.sigOwned r.win e.id = true :=
  List.all_eq_true.mp (permitted_of_check_none h)

/-- Ownership is by the declarations, which Keeper's bookkeeping leaves alone. -/
theorem consumed_sigOwned (s : State) (v : Verb) (r : Req) (w id : Nat) :
    (s.consumed v r).sigOwned w id = s.sigOwned w id := by
  obtain ⟨decls, -⟩ := stores_inner s r.win r.stores
  simp [State.sigOwned, State.decl, State.consumed, State.written, decls]

/-- Settles O12: either the command changes no signal, or all its checks passed and its entries name owned signals only, so not
this one. -/
theorem signalsChangeOnlyByTheirOwner : Obligations.SignalsChangeOnlyByTheirOwner := by
  intro s r id hid
  refine ⟨_, rfl, ?_⟩
  obtain same | ⟨hcheck, effect⟩ := mailbox_signals s verbKeeperSigWrite r
  · exact congrArg (tget Signal.reset · id) same
  · have other : ∀ e ∈ sigEntries r.payload, id ≠ e.id := by
      rintro e he rfl
      have owned := keeperSigWrite_owned hcheck e he
      rw [consumed_sigOwned, Verb.req_win, hid] at owned
      exact Bool.false_ne_true owned
    calc (s.mailbox verbKeeperSigWrite r).sig id
        = (verbKeeperSigWrite.body (verbKeeperSigWrite.req r) (s.offered verbKeeperSigWrite r)).1.sig id :=
          congrArg (tget Signal.reset · id) effect
      _ = (s.offered verbKeeperSigWrite r).sig id := keeperSigWrite_body_sig_other _ _ other
      _ = s.sig id := congrArg (tget Signal.reset · id) (offered_signals s verbKeeperSigWrite r)

/-! ### Keeper's timed rows (01 R28-R38, 02 R47, R60-R71) -/

section KeeperEventRows

variable {s : State}

/-- Whether the mode is in force already or changes, it is settled at its boundary; a change moves the function's unit over. -/
theorem execModeBoundary_pending {unit fn inst : Nat} {b : Bool} (ht : s.trunkOn = true)
    (hp : (s.hostFn (hostKey unit fn inst)).pending = some b) :
    execModeBoundary unit fn inst s = .next
      (let h := s.hostFn (hostKey unit fn inst)
       let u := (s.waitTo h.pendingAt).modHost (hostKey unit fn inst) (fun h =>
         { h with host := b, pending := none, misses := 0, inSafe := false, onTime := 0, safePeriods := 0, got := true,
                  prev := false })
       if b == h.host then u else if b then u.modeToHost unit inst else u.modeToHw unit inst) := by
  simp only [execModeBoundary, hp, ht, Bool.not_true, Bool.false_eq_true, ↓reduceIte]

theorem execHoldLimitExpiry_over {w : Nat} {x : Held} {l : List Held} (ht : s.trunkOn = true) (hh : (s.win w).held = x :: l)
    (ho : s.holdOver x = true) (hk : s.keeper.paused = false) : execHoldLimitExpiry w s = .next s.keeperTurn := by
  simp only [execHoldLimitExpiry, hh, ht, ho, hk, Bool.not_true, Bool.not_false, Bool.and_self,
    Bool.false_eq_true, ↓reduceIte]

/-- A hold that is not over, or is over in a Keeper pause, ends with UNIT_RESTARTED. -/
theorem execHoldLimitExpiry_restarted {w : Nat} {x : Held} {l : List Held} {v : Verb} (ht : s.trunkOn = true)
    (hh : (s.win w).held = x :: l) (ho : s.holdOver x = false ∨ s.keeper.paused = true)
    (hv : verbOf x.req.unit x.req.verb = some v) :
    execHoldLimitExpiry w s = .next
      (let b := (s.waitTo (x.heldAt + 100000000)).modWin w (fun y => { y with held := l })
       (b.answer w (b.mkReply v x.req true false stRestarted [])).keeperTurn) := by
  have waits : (s.holdOver x && !s.keeper.paused) = false := Bool.and_eq_false_iff.mpr (by simpa using ho)
  simp only [execHoldLimitExpiry, hh, ht, waits, hv, Bool.not_true, Bool.false_eq_true, ↓reduceIte]

theorem execDeadlinePassed_earliest {w t : Nat} (ht : s.trunkOn = true)
    (he : earliest ((((s.win w).held.map (·.req.deadline)) ++ ((s.win w).waiting.map (·.deadline))).filter (· ≠ 0)
      |>.map s.deadlineAt |> (· ++ s.valveDeadlines w)) = some t) :
    execDeadlinePassed w s = .next (((s.waitTo t).deadlineDrop w).valveDeadline w).keeperTurn := by
  simp only [execDeadlinePassed, ht, he, Bool.not_true, Bool.false_eq_true, ↓reduceIte]

theorem execUnitRestart_running {unit inst cause : Nat} (ht : s.trunkOn = true) (hf : unitFitted s.variant unit = true)
    (hroot : unit ≠ 0x50) (hi : unit ≠ 0x42 ∨ instPresent s.part unit inst = true) (hc : cause = 1 ∨ cause = 4)
    (hk : s.keeper.paused = false) (hp : (s.unitSt unit inst).phase = .running) :
    execUnitRestart unit inst cause s = .next (s.unitRestart unit (if unit = 0x42 then inst else 0) cause) := by
  have present : (unit == 0x42 && !instPresent s.part unit inst) = false := by simpa [imp_iff_not_or] using hi
  have known : (cause == 1 || cause == 4) = true := by simpa using hc
  have notRoot : (unit == 0x50) = false := by simpa using hroot
  simp only [execUnitRestart, ht, hf, notRoot, known, hk, present, hp, bne_self_eq_false, Bool.not_true, Bool.or_self,
    Bool.false_eq_true, ↓reduceIte]

theorem unitReady_restarting {u inst : Nat} (ht : s.trunkOn = true) (hk : s.keeper.paused = false)
    (hp : (s.unitSt u inst).phase = .restarting) :
    s.unitReady u inst = (s.unitRun u inst).unitBack u inst (s.hw - (s.unitSt u inst).clearedAt) := by
  simp only [State.unitReady, ht, hk, hp, Bool.not_true, Bool.or_self, Bool.false_eq_true, ↓reduceIte]

/-- Only GNSS hands over, by its cutover. -/
theorem unitReady_handover (ht : s.trunkOn = true) (hk : s.keeper.paused = false)
    (hp : (s.unitSt 0x40 0).phase = .handover) : s.unitReady 0x40 0 = s.gnssCutover := by
  simp only [State.unitReady, ht, hk, hp, Bool.not_true, Bool.or_self, Bool.false_eq_true, ↓reduceIte]

theorem execUnitReady_known {unit : Nat} (inst : Nat) (h : unitKnown unit = true) :
    execUnitReady unit inst s = .next (s.unitReady unit (if unit = 0x42 then inst else 0)).keeperTurn := by
  simp only [execUnitReady, h, Bool.not_true, Bool.false_eq_true, ↓reduceIte]

/-- The result of the current period has not come. -/
theorem execHostDeadlineMiss_current {unit fn inst : Nat} (ht : s.trunkOn = true)
    (hh : (s.hostFn (hostKey unit fn inst)).host = true) (hp : (s.hostFn (hostKey unit fn inst)).prev = false)
    (hg : (s.hostFn (hostKey unit fn inst)).got = false) :
    execHostDeadlineMiss unit fn inst s = .next
      (let a := ((s.waitTo (s.hostFn (hostKey unit fn inst)).due).hostMiss (hostKey unit fn inst)).missEffect unit fn inst
       if unit = 0x26 then a.fanPeriod inst else a) := by
  simp only [execHostDeadlineMiss, ht, hh, hp, hg, Bool.not_true, Bool.or_self, Bool.false_eq_true, ↓reduceIte]

/-- The result of the period before is still awaited: its deadline comes first. -/
theorem execHostDeadlineMiss_previous {unit fn inst : Nat} (ht : s.trunkOn = true)
    (hh : (s.hostFn (hostKey unit fn inst)).host = true) (hp : (s.hostFn (hostKey unit fn inst)).prev = true) :
    execHostDeadlineMiss unit fn inst s = .next
      (let h := s.hostFn (hostKey unit fn inst)
       ((s.waitTo (h.ptk + h.pd)).missPrev (hostKey unit fn inst)).missEffect unit fn inst) := by
  simp only [execHostDeadlineMiss, ht, hh, hp, Bool.not_true, Bool.or_self, Bool.false_eq_true, ↓reduceIte]

theorem execCanopyPartitionStart_declared {p : Nat} (hr : s.inRun = true) (hk : s.keeper.paused = false) (h16 : p < 16)
    (hd : (s.decl (p + 0x10)).declared = true) (hs : (s.partition p).state = .stopped) :
    execCanopyPartitionStart p s = .next (s.startPartition p) := by
  have inTable : decide (p ≥ 16) = false := by simpa using h16
  simp only [execCanopyPartitionStart, hr, hk, inTable, hd, hs, bne_self_eq_false, Bool.not_true, Bool.or_self,
    Bool.false_eq_true, ↓reduceIte]

theorem execCanopyPartitionRestart_running {p : Nat} (ht : s.trunkOn = true) (h16 : p < 16)
    (hs : (s.partition p).state = .running) :
    execCanopyPartitionRestart p s = .next
      (let w := p + 0x10
       let u := (((s.staleOwned w).outsOwnerRestart w).stopBulk w).resetWindow w
       let u := u.modPartition p (fun q => { q with ckpt := Ckpt.reset })
       ({ u with power.holds := u.power.holds.erase w } : State).nmLapse w) := by
  have inTable : decide (p ≥ 16) = false := by simpa using h16
  simp only [execCanopyPartitionRestart, ht, inTable, hs, bne_self_eq_false, Bool.not_true, Bool.or_self,
    Bool.false_eq_true, ↓reduceIte]

theorem execBoughDieFailure_corrected {die : Nat} (hr : s.inRun = true) (hd : die < boughs s.variant)
    (hn : s.keeper.retired.contains die = false) :
    execBoughDieFailure die 0 s = .next { s with keeper.eccCount := tmod 0 s.keeper.eccCount die (· + 1) } := by
  have fitted : decide (die ≥ boughs s.variant) = false := by simpa using hd
  simp only [execBoughDieFailure, hr, fitted, hn, Nat.not_lt_zero, decide_false, Bool.not_true, Bool.or_self,
    Bool.false_eq_true, ↓reduceIte]

/-- Reasons 1 to 3 retire the die; a Keeper pause that this ends gives back what it held. -/
theorem execBoughDieFailure_retired {die reason : Nat} (hr : s.inRun = true) (hd : die < boughs s.variant)
    (hn : s.keeper.retired.contains die = false) (h1 : 1 ≤ reason) (h3 : reason ≤ 3) :
    execBoughDieFailure die reason s = .next
      (let u : State := { s with keeper.retired := s.keeper.retired ++ [die] }
       let t := if hasFailover s.variant then u.failover die else u.onlyDieLost die
       if s.keeper.paused ∧ ¬t.keeper.paused then t.pauseEnd (t.hw - s.keeper.pausedAt) else t.keeperTurn) := by
  have fitted : decide (die ≥ boughs s.variant) = false := by simpa using hd
  have known : decide (3 < reason) = false := by simpa using h3
  have fatal : reason ≠ 0 := Nat.one_le_iff_ne_zero.mp h1
  simp only [execBoughDieFailure, hr, fitted, hn, known, fatal, Bool.not_true, Bool.or_self, Bool.false_eq_true, ↓reduceIte,
    Bool.and_eq_true, Bool.not_eq_true']
  simp only [Bool.not_eq_true]

end KeeperEventRows

/-- Settles O38: each row's command under its conditions is given by its row's lemma. -/
theorem keeperEventRowsComplete : Obligations.KeeperEventRowsComplete := by
  refine ⟨?modeSettled, ?modeChanged, ?holdLimit, ?holdOver, ?deadline, ?restart, ?ready, ?cutover, ?missCurrent, ?missPrevious,
    ?partitionStart, ?partitionRestart, ?checkpoint, ?eccCorrected, ?dieRetired⟩
  case modeSettled =>
    intro s unit fn inst b ht hp hb
    exact (execModeBoundary_pending ht hp).trans (by simp only [hb, beq_self_eq_true, ↓reduceIte])
  case modeChanged =>
    intro s unit fn inst b ht hp hb
    exact (execModeBoundary_pending ht hp).trans (by simp [hb])
  case holdLimit =>
    intro s b w x l v ht hh ho hv hb
    exact hb ▸ execHoldLimitExpiry_restarted ht hh ho hv
  case holdOver => exact fun s w x l ht hh ho hk => execHoldLimitExpiry_over ht hh ho hk
  case deadline => exact fun s w t ht he => execDeadlinePassed_earliest ht he
  case restart =>
    intro s unit inst i cause ht hf hroot hi hp hc hk hr
    exact hi ▸ execUnitRestart_running ht hf hroot hp hc hk hr
  case ready =>
    intro s unit inst i ht hu hk hi hp
    exact (execUnitReady_known inst hu).trans (by rw [← hi, unitReady_restarting ht hk hp])
  case cutover =>
    intro s inst ht hk hp
    exact (execUnitReady_known inst (by decide)).trans
      (congrArg (Host.Outcome.next ·.keeperTurn) (unitReady_handover ht hk hp))
  case missCurrent =>
    intro s a unit fn inst ht hh hp hg ha
    exact ha ▸ execHostDeadlineMiss_current ht hh hp hg
  case missPrevious =>
    rintro s _ unit fn inst ht rfl hh hp
    exact execHostDeadlineMiss_previous ht hh hp
  case partitionStart => exact fun s p hr hk h16 hd hs => execCanopyPartitionStart_declared hr hk h16 hd hs
  case partitionRestart => exact fun s p ht h16 hs => execCanopyPartitionRestart_running ht h16 hs
  case checkpoint =>
    intro s hf hr hk
    have taken : ¬(!hasFailover s.variant || !s.inRun || s.keeper.paused) = true := by simp [hf, hr, hk]
    exact congrArg Host.Outcome.next (if_neg taken)
  case eccCorrected => exact fun s die hr hd hn => execBoughDieFailure_corrected hr hd hn
  case dieRetired =>
    intro s t die reason hr hd hn h1 h3 ht
    exact ht ▸ execBoughDieFailure_retired hr hd hn h1 h3

/-! ### The rows of the power states (01 R28-R30, 17 R383, 20 R441, 21 R455-R463) -/

section PowerStateRows

variable {s : State}

theorem trunkOn_of_off (h : s.power.state = .off) : s.trunkOn = false := by
  simp only [State.trunkOn, h]

/-- An enabled cause with no start under way makes one due and is its first cause; cause 1 only where nothing started yet. -/
theorem wake_due {cause : Nat} (detail : Nat) (hp : s.parked = true) (hl : s.power.lossAt = none)
    (hd : s.power.trunkDue = 0) (hw : wakeEnabled s.power.state cause = true) (hc : cause ≠ 1 ∨ s.power.lastStart = 0) :
    s.wake cause detail = { s with power.trunkDue := 2, nm.wakeFirst := cause, nm.wakeDetail := detail,
                                   nm.wakeMap := 2 ^ cause, nm.wakeAt := s.loadedHeartwood,
                                   nm.parkS := s.time.parkPeriods / 32768 } := by
  have first : (cause == 1 && s.power.lastStart != 0) = false := Bool.and_eq_false_iff.mpr (by simpa using hc)
  simp only [State.wake, hp, hw, hl, hd, first, Option.isSome_none, Bool.not_true, Bool.or_self, Bool.false_eq_true, ne_eq,
    not_true_eq_false, ↓reduceIte]

theorem execCellarStart_above {a b c : Int} (h : s.power.state = .off) (hmv : 5400 ≤ orMv a b c) :
    execCellarStart a b c s = .next
      (let st := fun (v : Int) => { Stud.reset with mv := v, low := decide (v < 6000), rev := decide (v < 0) }
       { s with time.epoch := s.time.epoch + 1,
                power := { s.power with
                  state := .deep, logicMv := orMv a b c,
                  studs := tset Stud.reset (tset Stud.reset (tset Stud.reset [] 0 (st a)) 1 (st b)) 2 (st c) } }) := by
  have above : (s.power.state == .off && decide (orMv a b c ≥ 5400)) = true := by simpa [h] using hmv
  exact congrArg Host.Outcome.next (if_pos above)

theorem execTrunkStart_due (hd : s.power.trunkDue ≠ 0) (ht : s.trunkOn = false) :
    execTrunkStart s = .next
      (if s.trunkStart.power.state == .keeper && s.trunkStart.power.ign then s.trunkStart.enterRun 1 else s.trunkStart) := by
  simp [execTrunkStart, hd, ht]

/-- With the trunk on, a KEYWAKE edge in the grace period is a wake; any other change decides the state. -/
theorem execIgnChange_on (ign key : Bool) (hs : s.power.state ≠ .shutdown) (ho : s.power.state ≠ .off)
    (hp : s.parked = false) :
    execIgnChange ign key s = .next
      (let u := s.modPower (fun p => { p with ign := ign, keywake := key })
       (if key && !s.power.keywake && s.power.state == .ending && !ign && !s.power.runReq then u.wakeNow
        else u.runDecide 1).nmEvalAll) := by
  have parked : (s.modPower (fun p => { p with ign := ign, keywake := key })).parked = false := hp
  have running : (s.power.state == .shutdown || s.power.state == .off) = false := by simpa using ⟨hs, ho⟩
  exact congrArg Host.Outcome.next
    ((if_neg (ne_true_of_eq_false running)).trans (if_neg (ne_true_of_eq_false parked)))

theorem execGraceEnd_due {t : Nat} (hs : s.power.state = .ending) (hg : s.power.grace = some t) :
    execGraceEnd s = .next
      (let a := (s.waitTo t).stopPartitions.runDown.boughsOff.powerTo .keeper 3
       a.modPower (fun p => { p with grace := none, keeperAt := a.hw, waitPost := none })) := by
  simp only [execGraceEnd, hg, hs, bne_self_eq_false, Bool.false_eq_true, ↓reduceIte]

/-- Nothing holds park entry: IGN, KEYWAKE, wake inputs, Root, the windows and GRAFT. -/
theorem execParkEntryStart_free (hs : s.power.state = .keeper) (hi : s.power.ign = false) (hk : s.power.keywake = false)
    (hw : s.wakeInputHeld = false) (hr : s.power.runReq = false) (hh : s.power.holds = []) (hg : s.graftBusy = false) :
    execParkEntryStart s = .next
      ((((s.waitTo (s.power.keeperAt + s.power.keepAwake * 1000000000)).powerTo .parking 0).modPower
        (fun p => { p with parkStep := 1 })).bodyParkStop) := by
  simp only [execParkEntryStart, hs, hi, hk, hw, hr, hh, hg, beq_self_eq_true, List.isEmpty_nil, Bool.not_false,
    Bool.and_self, ↓reduceIte]

theorem execParkWait_due (hs : s.power.state = .keeper ∨ s.power.state = .parking) (hw : s.parkWaits ≠ 0) :
    execParkWait s = .next
      (let due := match s.power.waitPost with | some t => t + 600000000000 | none => s.power.keeperAt + 60000000000
       let u := s.waitTo due
       let v := u.post 0x70 0 3 0x0081 0 u.parkWaits ((u.hw - u.power.keeperAt) / 1000000000) 0
       v.modPower (fun p => { p with waitPost := some v.hw })) := by
  have waits : ((s.power.state == .keeper || s.power.state == .parking) && s.parkWaits != 0) = true := by
    simpa using ⟨hs, hw⟩
  exact congrArg Host.Outcome.next (if_pos waits)

section ParkSteps

variable (hs : s.power.state = .parking)
include hs

theorem execParkStepDone_body (hn : s.power.parkStep = 1) (hi : s.bodyParkIdle = true) :
    execParkStepDone s = .next (s.modPower (fun p => { p with parkStep := 2 })).parkWrite.writeKept := by
  simp only [execParkStepDone, hs, hn, hi, bne_self_eq_false, Bool.false_eq_true, ↓reduceIte]

theorem execParkStepDone_write (hn : s.power.parkStep = 2) :
    execParkStepDone s = .next
      ((s.modPower (fun p => { p with parkStep := 3 })).modAttic (fun a => { a with drainAt := some s.hw })) := by
  simp only [execParkStepDone, hs, hn, bne_self_eq_false, Bool.false_eq_true, ↓reduceIte]

theorem execParkStepDone_drain (hn : s.power.parkStep = 3) (hd : s.hasStaged = false) :
    execParkStepDone s = .next
      (((s.modAttic (fun a => { a with drainAt := none })).modPower (fun p => { p with parkStep := 4 })).plateParkStart) := by
  simp only [execParkStepDone, hs, hn, hd, bne_self_eq_false, Bool.not_false, Bool.false_eq_true, ↓reduceIte]

theorem execParkStepDone_plate (hn : s.power.parkStep = 4) (hi : s.plateParkIdle = true) :
    execParkStepDone s = .next (s.modPower (fun p => { p with parkStep := 5 })).nmParkStart := by
  simp only [execParkStepDone, hs, hn, hi, bne_self_eq_false, Bool.false_eq_true, ↓reduceIte]

theorem execParkStepDone_network (hn : s.power.parkStep = 5) (hd : s.nmParkDone = true) :
    execParkStepDone s = .next
      (let u := s.modPower (fun p => { p with parkStep := 6 })
       let a := if s.attic.inhibit then u else u.flushLarder
       a.modPower (fun p => { p with target := a.parkTarget })) := by
  simp only [execParkStepDone, hs, hn, hd, State.modPower_leaves, bne_self_eq_false, Bool.false_eq_true, ↓reduceIte]

theorem execParkStepDone_target (hn : s.power.parkStep = 6) :
    execParkStepDone s = .next (s.modPower (fun p => { p with parkStep := 7 })) := by
  simp only [execParkStepDone, hs, hn, bne_self_eq_false, Bool.false_eq_true, ↓reduceIte]

theorem execPowerDownLatch_last (hn : s.power.parkStep = 7) :
    execPowerDownLatch s = .next
      (let a := s.outsPark.trunkStop s.power.target
       if a.power.ign then a.wake 2 0 else if a.power.keywake then a.wake 3 0 else a) := by
  simp only [execPowerDownLatch, hs, hn, beq_self_eq_true, Bool.and_self, ↓reduceIte]

end ParkSteps

/-- A supply loss outside OFF and of none before is one of the running trunk, or of a trunk that is off or in TEST. -/
theorem execSupplyLoss_below {mv : Nat} (ho : s.power.state ≠ .off) (hl : s.power.lossAt = none) (hmv : mv < 6000) :
    execSupplyLoss mv s = .next
      (let u : State := { s with power.logicMv := mv, power.lossMin := mv }
       if s.trunkOn && s.power.state != .test then
         let a := u.flushLarder.dropStage.graftLoss
         ({ a with power.losses := a.power.losses + 1, power.lossAt := some a.hw,
                   power.lossParked := false } : State).outsTrunkReset.trunkStop .reset
       else { u with power.lossAt := some s.time.parkPeriods, power.lossParked := true,
                     power.losses := s.power.losses + 1 }) := by
  have lost : (s.power.state == .off || s.power.lossAt.isSome || decide (mv ≥ 6000)) = false := by simp [ho, hl, hmv]
  exact congrArg Host.Outcome.next (if_neg (ne_true_of_eq_false lost))

/-- Above 7.0 V the start is due; its length is counted from the loss where the trunk was off, else from the trunk's stop. -/
theorem execSupplyReturn_above {mv t : Nat} (hl : s.power.lossAt = some t) (hmv : 7000 ≤ mv) (ht : s.power.state ≠ .test)
    (hs : s.power.state ≠ .shutdown) :
    execSupplyReturn mv s = .next
      { s with power.logicMv := mv, power.lossAt := none, power.below3 := none,
               power.lossMs := (s.time.parkPeriods - (if s.power.lossParked then t else 0)) * 1000 / 32768,
               power.trunkDue := 3 } := by
  have starts : (s.power.state == .test || s.power.state == .shutdown) = false := by simpa using ⟨ht, hs⟩
  have above : decide (mv < 7000) = false := by simpa using hmv
  simp only [execSupplyReturn, hl, above, starts, Option.isNone_some, Option.getD_some, Bool.or_self, Bool.false_eq_true,
    ↓reduceIte]

theorem execCellarHoldExpiry_held (h : s.power.lossAt.isSome = true ∨ s.power.state = .shutdown) :
    execCellarHoldExpiry s = .next s.toOff := by
  have held : (s.power.lossAt.isSome || s.power.state == .shutdown) = true := by simpa using h
  exact congrArg Host.Outcome.next (if_pos held)

end PowerStateRows

/-- Settles O46: each row's command under its conditions is given by its row's lemma. -/
theorem powerStateRowsComplete : Obligations.PowerStateRowsComplete := by
  refine ⟨?cellarStart, ?parkWake, ?trunkStart, ?ignChange, ?graceEnd, ?parkEntry, ?parkWait, ?body, ?write, ?drain, ?plate,
    ?network, ?target, ?latch, ?lossOn, ?lossParked, ?supplyReturn, ?holdExpiry⟩
  case cellarStart =>
    rintro s _ a b c ho hmv rfl
    exact execCellarStart_above ho hmv
  case parkWake => exact fun s cause detail hp hl hd hw hc => congrArg Host.Outcome.next (wake_due detail hp hl hd hw hc)
  case trunkStart => exact fun s hd ht => execTrunkStart_due hd ht
  case ignChange => exact fun s ign key hs ho hp => execIgnChange_on ign key hs ho hp
  case graceEnd =>
    rintro s _ t hs hg rfl
    exact execGraceEnd_due hs hg
  case parkEntry => exact fun s hs hi hk hw hr hh hg => execParkEntryStart_free hs hi hk hw hr hh hg
  case parkWait =>
    rintro s _ hs hw rfl
    exact execParkWait_due hs hw
  case body => exact fun s hs hn hi => execParkStepDone_body hs hn hi
  case write => exact fun s hs hn => execParkStepDone_write hs hn
  case drain => exact fun s hs hn hd => execParkStepDone_drain hs hn hd
  case plate => exact fun s hs hn hi => execParkStepDone_plate hs hn hi
  case network =>
    rintro s _ hs hn hd rfl
    exact execParkStepDone_network hs hn hd
  case target => exact fun s hs hn => execParkStepDone_target hs hn
  case latch =>
    rintro s _ hs hn rfl
    exact execPowerDownLatch_last hs hn
  case lossOn =>
    rintro s _ mv ht hn hl hmv rfl
    have ho : s.power.state ≠ .off := fun h => absurd ht (by simp [trunkOn_of_off h])
    exact (execSupplyLoss_below ho hl hmv).trans (by simp [ht, hn])
  case lossParked =>
    intro s mv ht ho hl hmv
    exact (execSupplyLoss_below ho hl hmv).trans (by obtain ht | ht := ht <;> simp [ht])
  case supplyReturn => exact fun s mv t hl hmv ht hs => execSupplyReturn_above hl hmv ht hs
  case holdExpiry => exact fun s h => execCellarHoldExpiry_held h

end Sys2Proof.Machine
end

section
/-! The Keeper interface (spec 02): command, reply and event slots, window registers, the ring protocol with its checks, and the
KEEPER verbs. -/

namespace Sys2Proof.Machine

/-! ### Fields of a byte string (00 R508): what is read where the string goes on with a field's bytes -/

section Fields

variable {p k : List Byte} {o n v : Nat}

/-- A field's first byte. -/
theorem u8_of_drop (h : p.drop o = leB (n + 1) v ++ k) : u8 p o = v % 256 := by
  have head : (p.drop o)[0]? = some (BitVec.ofNat 8 v) := by rw [h]; rfl
  rw [List.getElem?_drop, Nat.add_zero] at head
  simp [u8, head]

/-- Behind a field's first byte stand its others. -/
theorem drop_succ_of_drop (h : p.drop o = leB (n + 1) v ++ k) : p.drop (o + 1) = leB n (v / 256) ++ k := by
  rw [← List.drop_drop, h]; rfl

/-- A field's first two bytes. -/
theorem u16_of_drop (h : p.drop o = leB (n + 2) v ++ k) : u16 p o = v % 65536 := by
  rw [u16, u8_of_drop h, u8_of_drop (drop_succ_of_drop h)]
  omega

/-- A field's first four bytes. -/
theorem u32_of_drop (h : p.drop o = leB (n + 4) v ++ k) : u32 p o = v % 2 ^ 32 := by
  rw [u32, u16_of_drop h, u16_of_drop (drop_succ_of_drop (drop_succ_of_drop h))]
  omega

/-- A string that stands at an offset, padded or not, is read back by its length. -/
theorem slice_of_drop {q : List Byte} {m : Nat} (h : p.drop o = slice q 0 m) (hq : q.length ≤ m) : slice p o q.length = q := by
  refine List.ext_getElem (by simp [slice]) fun i hi hi' => ?_
  have byte : (p.drop o)[i]? = some (q.getD i 0) := by
    rw [h]; simp [slice, Nat.lt_of_lt_of_le hi' hq]
  rw [List.getElem?_drop] at byte
  simp [slice, byte, hi']

theorem leB_length (n v : Nat) : (leB n v).length = n := by
  induction n generalizing v with
  | zero => rfl
  | succ n ih => simp [leB, ih]

end Fields

/-! ### Command slots (02 R51) -/

section CommandSlots

variable (r : Req)

theorem slotBytes_length : (slotBytes r).length = 128 := by
  simp [slotBytes, b8, b32, leB_length, slice]

/-- Word 2 of a slot: the instance, the class and the low bits of the generation. -/
def slotWord (r : Req) : Nat := r.inst % 65536 + 65536 * (r.cls % 16) + 1048576 * (r.genLow % 4096)

theorem slotBytes_verb : u8 (slotBytes r) 0 = r.verb % 256 := u8_of_drop (n := 0) (k := (slotBytes r).drop 1) rfl
theorem slotBytes_unit : u8 (slotBytes r) 1 = r.unit % 256 := u8_of_drop (n := 0) (k := (slotBytes r).drop 2) rfl
theorem slotBytes_flags : u8 (slotBytes r) 2 = r.flags % 256 := u8_of_drop (n := 0) (k := (slotBytes r).drop 3) rfl
theorem slotBytes_payloadLength : u8 (slotBytes r) 3 = r.payload.length % 256 :=
  u8_of_drop (n := 0) (k := (slotBytes r).drop 4) rfl
theorem slotBytes_tag : u32 (slotBytes r) 4 = r.tag % 2 ^ 32 := u32_of_drop (n := 0) (k := (slotBytes r).drop 8) rfl
theorem slotBytes_word : u32 (slotBytes r) 8 = slotWord r % 2 ^ 32 := u32_of_drop (n := 0) (k := (slotBytes r).drop 12) rfl
theorem slotBytes_instHalf : u16 (slotBytes r) 8 = slotWord r % 65536 :=
  u16_of_drop (n := 2) (k := (slotBytes r).drop 12) rfl
theorem slotBytes_deadline : u32 (slotBytes r) 12 = r.deadline % 2 ^ 32 := u32_of_drop (n := 0) (k := (slotBytes r).drop 16) rfl

variable {r}

theorem slotBytes_payload (h : r.payload.length ≤ 112) : slice (slotBytes r) 16 r.payload.length = r.payload :=
  slice_of_drop (m := 112) rfl h

/-- The fields of a command that a slot can spell lie in their widths, and its window is the ring's own. -/
theorem slotReq_slotBytes (hf : reqOkFields r = true) (hp : r.payload.length ≤ 112) :
    slotReq r.win (slotBytes r) = { r with stores := [] } := by
  simp only [reqOkFields, wordOk, below, Bool.and_eq_true, decide_eq_true_eq] at hf
  obtain ⟨⟨⟨⟨⟨⟨⟨⟨⟨⟨-, tag⟩, flags⟩, unit⟩, verb⟩, inst⟩, cls⟩, gen⟩, deadline⟩, len⟩, -⟩ := hf
  have word : slotWord r = r.inst + 65536 * r.cls + 1048576 * r.genLow := by
    simp only [slotWord]; omega
  have inst_eq : slotWord r % 65536 = r.inst := by omega
  have cls_eq : bits (slotWord r % 2 ^ 32) 19 16 = r.cls := by
    simp only [bits]; omega
  have gen_eq : bits (slotWord r % 2 ^ 32) 31 20 = r.genLow := by
    simp only [bits]; omega
  simp only [slotReq, slotBytes_verb, slotBytes_unit, slotBytes_flags, slotBytes_payloadLength, slotBytes_tag, slotBytes_word,
    slotBytes_instHalf, slotBytes_deadline, inst_eq, cls_eq, gen_eq, Nat.mod_eq_of_lt tag, Nat.mod_eq_of_lt flags,
    Nat.mod_eq_of_lt unit, Nat.mod_eq_of_lt verb, Nat.mod_eq_of_lt len, Nat.mod_eq_of_lt deadline, slotBytes_payload hp]

end CommandSlots

/-- Settles O5: what is stored in a ring is read back from it, and the bytes of a slot spell its command. -/
theorem commandSlotRoundTrip : Obligations.CommandSlotRoundTrip := by
  intro r ring a hf hp
  have stored : tread (twrite ring a (slotBytes r)) a 128 = slotBytes r := by
    rw [← slotBytes_length r]; exact tread_twrite _ _ _
  rw [stored, slotReq_slotBytes hf hp]

/-! ### What posting does to a window (02 R54 step 6, R69, 03 R89) -/

/-- What a ring keeps always holds the entry added last. -/
theorem getLast?_drop_concat {α : Type} (l : List α) (a : α) {n : Nat} (h : n ≤ l.length) :
    ((l ++ [a]).drop n).getLast? = some a := by
  rw [List.getLast?_drop, if_neg (by simp; omega), List.getLast?_concat]

section Posting

variable (x : Window) (now : Nat) (y : Reply) (e : Event)

/-- With 256 events unread the event is dropped and counted. -/
theorem postEvent_full (h : 256 ≤ x.unread) :
    x.postEvent now e =
      { x with evtLost := satAdd 32 x.evtLost 1, irqLost := x.irqLost || decide (x.evtLost < 4294967295),
               lostAt := if decide (x.evtLost < 4294967295) = true then now + 1 else x.lostAt,
               evtDropped := x.evtDropped + 1, evtDropAt := if x.evtDropped = 0 then usOf now else x.evtDropAt } :=
  if_pos h

/-- With fewer unread it is appended under the next sequence number. -/
theorem postEvent_free (h : x.unread < 256) :
    x.postEvent now e =
      { x with seq := (x.seq + 1) % 4294967296, evtProd := (x.evtProd + 1) % 65536,
               evtRing := (x.evtRing ++ [{ e with seq := x.seq }]).drop (x.evtRing.length + 1 - 256),
               posted := x.posted ++ [{ e with seq := x.seq }],
               irqEvt := x.irqEvt || decide (((x.evtProd + 1) % 65536 + 65536 - x.evtCons) % 65536 ≥ x.thr) } := by
  have free : ¬x.unread ≥ 256 := Nat.not_le_of_lt h
  simp only [Window.postEvent, free, ↓reduceIte]
  rfl

theorem postEvent_evtRing_getLast? (h : x.unread < 256) :
    (x.postEvent now e).evtRing.getLast? = some { e with seq := x.seq } := by
  simp only [postEvent_free x now e h]
  exact getLast?_drop_concat _ _ (by omega)

theorem postEvent_evtDropped (h : x.unread < 256) : (x.postEvent now e).evtDropped = x.evtDropped := by
  rw [postEvent_free x now e h]

/-- An event leaves the indices of the other rings, EVT_CONS and the command ring alone. -/
theorem postEvent_keeps :
    (x.postEvent now e).cmdProd = x.cmdProd ∧ (x.postEvent now e).cmdCons = x.cmdCons ∧
    (x.postEvent now e).rplProd = x.rplProd ∧ (x.postEvent now e).rplCons = x.rplCons ∧
    (x.postEvent now e).evtCons = x.evtCons ∧ (x.postEvent now e).cmdRing = x.cmdRing := by
  by_cases h : 256 ≤ x.unread
  · rw [postEvent_full x now e h]
    exact ⟨rfl, rfl, rfl, rfl, rfl, rfl⟩
  · rw [postEvent_free x now e (Nat.lt_of_not_le h)]
    exact ⟨rfl, rfl, rfl, rfl, rfl, rfl⟩

theorem pushReply_rplRing_getLast? : (x.pushReply now y).rplRing.getLast? = some y := by
  unfold Window.pushReply
  exact getLast?_drop_concat _ _ (by omega)

end Posting

/-! ### Reading a slot that Keeper wrote (02 R48, R51, 03 R89) -/

section SlotBytes

variable {s : State} {w i k : Nat}

theorem getD_last_of_getLast? {α : Type} {l : List α} {a : α} (d : α) (h : l.getLast? = some a) :
    0 < l.length ∧ l.getD (l.length - 1 - 0) d = a := by
  rw [List.getLast?_eq_getElem?] at h
  obtain ⟨nonempty, -⟩ := List.getElem?_eq_some_iff.mp h
  exact ⟨Nat.zero_lt_of_lt nonempty, by simp [h]⟩

/-- The reply slot behind which RPL_PROD stands shows the last reply. -/
theorem winByte_lastReply {y : Reply} (hi : i < 64) (hk : k < 128) (hp : ((s.win w).rplProd + 63 - i) % 64 = 0)
    (hy : (s.win w).rplRing.getLast? = some y) : s.winByte w (0x3000 + 128 * i + k) = y.bytes.getD k 0 := by
  obtain ⟨nonempty, last⟩ := getD_last_of_getLast? Reply.reset hy
  have slot : (0x3000 + 128 * i + k - 0x3000) / 128 = i ∧ (0x3000 + 128 * i + k - 0x3000) % 128 = k := by omega
  have inRing : ¬0x3000 + 128 * i + k < 0x300 ∧ ¬(0x1000 ≤ 0x3000 + 128 * i + k ∧ 0x3000 + 128 * i + k < 0x3000) ∧
      (0x3000 ≤ 0x3000 + 128 * i + k ∧ 0x3000 + 128 * i + k < 0x5000) := by omega
  simp only [State.winByte, inRing, slot, hp, nonempty, last, ↓reduceIte, and_self]

/-- The event entry behind which EVT_PROD stands shows the last event. -/
theorem winByte_lastEvent {e : Event} (hi : i < 256) (hk : k < 32) (hp : ((s.win w).evtProd + 255 - i) % 256 = 0)
    (he : (s.win w).evtRing.getLast? = some e) : s.winByte w (0x5000 + 32 * i + k) = e.bytes.getD k 0 := by
  obtain ⟨nonempty, last⟩ := getD_last_of_getLast? {} he
  have slot : (0x5000 + 32 * i + k - 0x5000) / 32 = i ∧ (0x5000 + 32 * i + k - 0x5000) % 32 = k := by omega
  have inRing : ¬0x5000 + 32 * i + k < 0x300 ∧ ¬(0x1000 ≤ 0x5000 + 32 * i + k ∧ 0x5000 + 32 * i + k < 0x3000) ∧
      ¬(0x3000 ≤ 0x5000 + 32 * i + k ∧ 0x5000 + 32 * i + k < 0x5000) ∧
      (0x5000 ≤ 0x5000 + 32 * i + k ∧ 0x5000 + 32 * i + k < 0x7000) := by omega
  simp only [State.winByte, inRing, slot, hp, nonempty, last, ↓reduceIte, and_self]

end SlotBytes

/-- Settles O6: the slot addressed before the posting is the one behind which the producer stands after it. -/
theorem postedSlotsReadBack : Obligations.PostedSlotsReadBack := by
  refine ⟨fun s w now y k _ hk _ => ?_, fun s w now e k _ hu hk => ?_⟩
  · refine winByte_lastReply (Nat.mod_lt _ (by decide)) hk ?_ ?_ <;> rw [State.modWin_win]
    · simp only [Window.pushReply]; omega
    · exact pushReply_rplRing_getLast? _ now y
  · refine winByte_lastEvent (Nat.mod_lt _ (by decide)) hk ?_ ?_ <;> rw [State.modWin_win]
    · simp only [postEvent_free _ now e hu]; omega
    · exact postEvent_evtRing_getLast? _ now e hu

/-! ### Index writes that are ignored (02 R57) and events that are lost (02 R69) -/

section IgnoredWrites

variable {s : State} {w value : Nat}

theorem cmdProdWrite_ignored (hl : s.live w = true) {st : List Store}
    (hv : 64 < (value % 65536 + 65536 - ((s.stores w st).win w).cmdCons) % 65536) :
    s.cmdProdWrite w value st = (s.stores w st).ringError w 0x100 value ((s.stores w st).win w).cmdProd := by
  simp only [State.cmdProdWrite, hl, Nat.not_le_of_lt hv, Bool.not_true, Bool.false_eq_true, ↓reduceIte]

theorem rplConsWrite_ignored (hl : s.live w = true)
    (hv : ((s.win w).rplProd + 65536 - (s.win w).rplCons) % 65536 < (value % 65536 + 65536 - (s.win w).rplCons) % 65536) :
    s.rplConsWrite w value = s.ringError w 0x10C value (s.win w).rplCons := by
  simp only [State.rplConsWrite, hl, Nat.not_le_of_lt hv, Bool.not_true, Bool.false_eq_true, ↓reduceIte]

theorem evtConsWrite_ignored (hl : s.live w = true)
    (hv : (s.win w).unread < (value % 65536 + 65536 - (s.win w).evtCons) % 65536) :
    s.evtConsWrite w value = s.ringError w 0x114 value (s.win w).evtCons := by
  simp only [State.evtConsWrite, hl, Nat.not_le_of_lt hv, Bool.not_true, Bool.false_eq_true, ↓reduceIte]

end IgnoredWrites

section PostIn

variable {s : State} {w : Nat} (stamp src code p0 p1 p2 p3 : Nat)

/-- In a running window an event is posted at once. -/
theorem postInAt_running (hr : (s.win w).running = true) (hp : s.keeper.paused = false) :
    s.postInAt stamp w src code p0 p1 p2 p3 = s.modWin w (fun x =>
      x.postEvent s.hw { source := src, code := code, stamp := stamp, p0 := p0, p1 := p1, p2 := p2, p3 := p3 }) := by
  simp only [State.postInAt, hr, hp, Bool.not_true, Bool.false_eq_true, ↓reduceIte]

/-- In a Keeper pause it is kept for the release (02 R67). -/
theorem postInAt_paused (hr : (s.win w).running = true) (hp : s.keeper.paused = true) :
    s.postInAt stamp w src code p0 p1 p2 p3 = { s with keeper.deferred := s.keeper.deferred ++
      [{ ev := { source := src, code := code, stamp := stamp, p0 := p0, p1 := p1, p2 := p2, p3 := p3 },
         cmd := some w, only := true }] } := by
  simp only [State.postInAt, hr, hp, Bool.not_true, Bool.false_eq_true, ↓reduceIte]

/-- Lost events are reported in a window with a free slot. -/
theorem eventsLost_free (hr : (s.win w).running = true) (hp : s.keeper.paused = false) (hd : (s.win w).evtDropped ≠ 0)
    (hu : (s.win w).unread < 256) :
    s.eventsLost w = (s.modWin w (fun x => { x with evtDropped := 0, evtDropAt := 0 })).modWin w (fun x => x.postEvent s.hw
      { source := 0, code := 0x0003, stamp := s.hw, p0 := (s.win w).evtDropped % 2 ^ 32, p1 := (s.win w).evtDropAt,
        p2 := 0, p3 := 0 }) := by
  have due : ¬((s.win w).evtDropped = 0 ∨ (s.win w).unread ≥ 256 ∨ s.keeper.paused = true) := by simp [hd, hp, hu]
  simp only [State.eventsLost, State.eventsLostAt, due, ↓reduceIte]
  exact postInAt_running _ _ _ _ _ _ _ (by simpa using hr) (by simpa using hp)

end PostIn

/-- Settles O7: an ignored write is its RING_ERROR, which is posted in the window or deferred in a Keeper pause. -/
theorem badIndexWritesAreIgnored : Obligations.BadIndexWritesAreIgnored := by
  refine ⟨fun s w value hl hv => congrArg _ (cmdProdWrite_ignored (st := []) hl hv),
    fun s w value hl hv => congrArg _ (rplConsWrite_ignored hl hv),
    fun s w value hl hv => congrArg _ (evtConsWrite_ignored hl hv), fun s w ofs value kept hr => ?_⟩
  intro t
  have frame : SameBut [.keeper] s t := frame_exec (State.postIn_frame _ _ _ _ _ _ _ _ rfl) rfl
  cases hp : s.keeper.paused
  case true =>
    have deferred : t = _ := postInAt_paused s.hw 0 0x0004 ofs value kept 0 hr hp
    clear_value t
    subst deferred
    exact ⟨rfl, rfl, rfl, rfl, rfl, rfl, fun _ _ => rfl, frame, fun h => Bool.noConfusion h, fun _ => rfl⟩
  case false =>
    have posted : t = _ := postInAt_running s.hw 0 0x0004 ofs value kept 0 hr hp
    clear_value t
    subst posted
    rw [State.modWin_win]
    obtain ⟨cmdProd, cmdCons, rplProd, rplCons, evtCons, cmdRing⟩ := postEvent_keeps (s.win w) s.hw
      { source := 0, code := 0x0004, stamp := s.hw, p0 := ofs, p1 := value, p2 := kept, p3 := 0 }
    refine ⟨cmdProd, cmdCons, rplProd, rplCons, evtCons, cmdRing, fun k hk => State.modWin_win_other s _ hk, frame,
      fun _ hu => ?_, fun h => Bool.noConfusion h⟩
    rw [postEvent_free _ _ _ hu]

theorem running_of_live {s : State} {w : Nat} (h : s.live w = true) : (s.win w).running = true := by
  simp only [State.live, Bool.and_eq_true] at h
  obtain ⟨⟨⟨running, -⟩, -⟩, -⟩ := h
  exact running

/-- The window once an EVT_CONS that frees a slot is taken: no drop is waiting, and EVENTS_LOST is posted. -/
def lostReported (now value : Nat) (x : Window) : Window :=
  ({ x with evtCons := value, evtDropped := 0, evtDropAt := 0 } : Window).postEvent now
    { source := 0, code := 0x0003, stamp := now, p0 := x.evtDropped % 2 ^ 32, p1 := x.evtDropAt, p2 := 0, p3 := 0 }

/-- An EVT_CONS that moves on frees a slot of a ring that keeps its rule. -/
theorem unread_lt_of_consumed {x : Window} {value : Nat} (hi : x.indicesOk = true)
    (h0 : 0 < (value + 65536 - x.evtCons) % 65536) (hle : (value + 65536 - x.evtCons) % 65536 ≤ x.unread) :
    ({ x with evtCons := value } : Window).unread < 256 := by
  simp only [Window.indicesOk, Bool.and_eq_true, decide_eq_true_eq] at hi
  obtain ⟨⟨⟨⟨⟨-, prod⟩, cons⟩, -⟩, -⟩, unread⟩ := hi
  simp only [Window.unread] at *
  omega

theorem evtConsWrite_reports {s : State} {w value : Nat} (hl : s.live w = true) (hp : s.keeper.paused = false)
    (hd : (s.win w).evtDropped ≠ 0) (hv : value < 65536)
    (hle : (value + 65536 - (s.win w).evtCons) % 65536 ≤ (s.win w).unread)
    (hu : ({ s.win w with evtCons := value } : Window).unread < 256) :
    ((s.evtConsWrite w value).win w) = lostReported s.hw value (s.win w) ∧
      ∀ k, k ≠ w → (s.evtConsWrite w value).win k = s.win k := by
  have small := Nat.mod_eq_of_lt hv
  rw [evtConsWrite_taken hl (by rwa [small]), small, eventsLost_free]
  · refine ⟨?_, fun k hk => ?_⟩
    · simp only [State.modWin_win]; rfl
    · simp only [State.modWin_win_other _ _ hk]
  · simpa using running_of_live hl
  · simpa using hp
  · simpa using hd
  · simpa using hu

/-- Settles O8: a full ring counts, a free one appends, and the write that frees a slot reports. -/
theorem fullEventRingDropsThenReports : Obligations.FullEventRingDropsThenReports := by
  refine ⟨fun x now e hf => ?_, fun x now e hu _ => ?_, fun s w value hl hp hd hi _ hv h0 hle => ?_⟩
  · rw [postEvent_full x now e hf]
    exact ⟨rfl, rfl, rfl, rfl, rfl, rfl, rfl⟩
  · refine ⟨postEvent_evtRing_getLast? x now e hu, ?_⟩
    rw [postEvent_free x now e hu]
    exact ⟨rfl, rfl, rfl⟩
  · have hu := unread_lt_of_consumed hi h0 hle
    obtain ⟨window, others⟩ := evtConsWrite_reports hl hp hd hv hle hu
    refine ⟨_, rfl, ?_, ?_, ?_, frame_exec (State.evtConsWrite_frame _ _ _ rfl) rfl, others⟩ <;> rw [window]
    · obtain ⟨-, -, -, -, evtCons, -⟩ := postEvent_keeps _ _ _
      exact evtCons
    · exact postEvent_evtDropped _ _ _ hu
    · exact postEvent_evtRing_getLast? _ _ _ hu

/-! ### Replies are posted in the order of decisions (02 R54 step 6, R56) -/

section Replies

theorem answer_posted {s : State} {w : Nat} (y : Reply) (hp : s.keeper.paused = false) (ho : (s.win w).outbox = [])
    (hf : 0 < (s.win w).freeSlots) : (s.answer w y).win w = (s.win w).pushReply s.hw y := by
  simp only [State.answer, State.modWin_win, Window.emit, hp, ho, hf, List.isEmpty_nil, gt_iff_lt, decide_true, Bool.and_self,
    Bool.false_eq_true, ↓reduceIte]

theorem answer_waits {s : State} {w : Nat} (y : Reply)
    (h : s.keeper.paused = true ∨ (s.win w).outbox ≠ [] ∨ (s.win w).freeSlots = 0) :
    (s.answer w y).win w = { s.win w with outbox := (s.win w).outbox ++ [y] } := by
  have waits : s.keeper.paused = false → ((s.win w).outbox.isEmpty && decide ((s.win w).freeSlots > 0)) = false := by
    intro hp
    simpa [hp, Nat.pos_iff_ne_zero, imp_iff_not_or] using h
  rw [State.answer, State.modWin_win]
  split
  · rfl
  · next hp => rw [Window.emit, waits (by simpa using hp)]; rfl

variable (x : Window) (now : Nat) (y : Reply)

/-- A posted reply takes one of the free slots. -/
theorem pushReply_freeSlots (hp : x.rplProd < 65536) (hc : x.rplCons < 65536) (hf : 0 < x.freeSlots) :
    (x.pushReply now y).freeSlots + 1 = x.freeSlots := by
  simp only [Window.freeSlots, Window.pushReply] at *
  omega

theorem pushReply_rplRing_length (h : x.rplRing.length ≤ 64) :
    (x.pushReply now y).rplRing.length = min (x.rplRing.length + 1) 64 := by
  simp only [Window.pushReply, List.length_drop, List.length_append, List.length_singleton]
  omega

/-- The ring after one reply and then `l` is the ring after both. -/
theorem pushReply_rplRing_append (h : x.rplRing.length ≤ 64) (l : List Reply) :
    ((x.pushReply now y).rplRing ++ l).drop ((x.pushReply now y).rplRing.length + l.length - 64) =
      (x.rplRing ++ y :: l).drop (x.rplRing.length + (y :: l).length - 64) := by
  have front : (x.pushReply now y).rplRing ++ l = (x.rplRing ++ y :: l).drop (x.rplRing.length + 1 - 64) := by
    rw [List.append_cons, List.drop_append_of_le_length (by simp; omega)]
    rfl
  rw [front, List.drop_drop, pushReply_rplRing_length x now y h, List.length_cons]
  congr 1
  omega

/-- A drain that changes nothing posts no reply. -/
theorem drain_posts_none {o : List Reply} (ho : x.outbox = o) (hp : x.rplProd < 65536) (hr : x.rplRing.length ≤ 64) :
    ∃ l, o = l ++ x.outbox ∧ l.length = 0 ∧ x.rplRing = (x.rplRing ++ l).drop (x.rplRing.length + l.length - 64) ∧
      x.rplProd = (x.rplProd + l.length) % 65536 :=
  ⟨[], ho.symm, rfl, by simp [Nat.sub_eq_zero_of_le hr], (Nat.mod_eq_of_lt hp).symm⟩

/-- Draining posts as many of the waiting replies as slots are free, in their order. -/
theorem drain_posts (o : List Reply) (ho : x.outbox = o) (hp : x.rplProd < 65536) (hc : x.rplCons < 65536)
    (hr : x.rplRing.length ≤ 64) :
    ∃ l, o = l ++ (x.drain now o.length).outbox ∧ l.length = min o.length x.freeSlots ∧
      (x.drain now o.length).rplRing = (x.rplRing ++ l).drop (x.rplRing.length + l.length - 64) ∧
      (x.drain now o.length).rplProd = (x.rplProd + l.length) % 65536 := by
  induction o generalizing x with
  | nil =>
    rw [List.length_nil, Window.drain, Nat.zero_min]
    exact drain_posts_none x ho hp hr
  | cons y o ih =>
    by_cases hf : 0 < x.freeSlots
    · let z := ({ x with outbox := o } : Window).pushReply now y
      have step : x.drain now (y :: o).length = z.drain now o.length := by
        simp only [List.length_cons, Window.drain, ho, gt_iff_lt, hf, ↓reduceIte, z]
      have prod : z.rplProd = (x.rplProd + 1) % 65536 := rfl
      have free : z.freeSlots + 1 = x.freeSlots := pushReply_freeSlots { x with outbox := o } now y hp hc hf
      have len : z.rplRing.length = min (x.rplRing.length + 1) 64 :=
        pushReply_rplRing_length { x with outbox := o } now y hr
      obtain ⟨l, outbox, length, ring, final⟩ := ih z rfl (by omega) hc (by omega)
      rw [step]
      refine ⟨y :: l, congrArg (y :: ·) outbox, ?_, ?_, ?_⟩
      · simp only [List.length_cons]; omega
      · exact ring.trans (pushReply_rplRing_append { x with outbox := o } now y hr l)
      · rw [final, prod, List.length_cons]; omega
    · have full : x.drain now (y :: o).length = x := by
        simp only [List.length_cons, Window.drain, ho, gt_iff_lt, hf, ↓reduceIte]
      rw [full, Nat.eq_zero_of_not_pos hf, Nat.min_zero]
      exact drain_posts_none x ho hp hr

end Replies

/-- Settles O13: a decided reply is posted or waits, and a drain posts the waiting ones in turn. -/
theorem repliesInOrderOfDecision : Obligations.RepliesInOrderOfDecision := by
  refine ⟨fun s w y hp ho hf => ?_, fun s w y h => ?_, fun x now hp hc hr => drain_posts x now _ rfl hp hc hr,
    fun s w k y hk => State.modWin_win_other s _ hk, fun s w y => frame_exec (State.answer_frame _ _ _ rfl) rfl⟩
  · rw [answer_posted y hp ho hf]
    exact ⟨rfl, rfl, pushReply_rplRing_getLast? _ _ y, ho⟩
  · rw [answer_waits y h]
    exact ⟨rfl, rfl, rfl⟩

/-! ### The bytes of rings and regions (02 R51, R72) -/

section Regions

variable (s : State) (w d : Nat) (f : Region → Region)

theorem modRegion_region : (s.modRegion w d f).region w d = f (s.region w d) := by
  simp only [State.region, State.modRegion, State.modWin_win, tget_tmod_same]

theorem modRegion_region_other {k e : Nat} (h : (k, e) ≠ (w, d)) : (s.modRegion w d f).region k e = s.region k e := by
  by_cases hk : k = w
  · subst hk
    have he : e ≠ d := fun he => h (by rw [he])
    simp only [State.region, State.modRegion, State.modWin_win, tget_tmod_other _ _ _ he]
  · simp only [State.region, State.modRegion, State.modWin_win_other s _ hk]

theorem modRegion_cmdRing (k : Nat) : ((s.modRegion w d f).win k).cmdRing = (s.win k).cmdRing := by
  by_cases hk : k = w
  · subst hk; rw [State.modRegion, State.modWin_win]
  · rw [State.modRegion, State.modWin_win_other s _ hk]

variable {s f}

/-- A change of one region that keeps its bytes canonical keeps those of every region so. -/
theorem modRegion_twf {k e : Nat} (hf : ∀ g : Region, twf 0 g.bytes = true → twf 0 (f g).bytes = true)
    (h : twf 0 (s.region k e).bytes = true) : twf 0 ((s.modRegion w d f).region k e).bytes = true := by
  by_cases hk : (k, e) = (w, d)
  · obtain ⟨rfl, rfl⟩ := Prod.mk.inj hk
    rw [modRegion_region]
    exact hf _ h
  · rwa [modRegion_region_other s w d f hk]

theorem store_twf {k e : Nat} (st : Store) (h : twf 0 (s.region k e).bytes = true) :
    twf 0 ((s.store w st).region k e).bytes = true := by
  refine modRegion_twf w st.1 (fun g hg => ?_) h
  split
  · exact twf_twrite _ _ _ hg
  · exact hg

theorem stores_twf {k e : Nat} (l : List Store) (h : twf 0 (s.region k e).bytes = true) :
    twf 0 ((s.stores w l).region k e).bytes = true := by
  induction l generalizing s with
  | nil => exact h
  | cons st l ih => exact ih (store_twf w st h)

/-- A partition's stores go to its regions. -/
theorem stores_cmdRing (l : List Store) (k : Nat) : ((s.stores w l).win k).cmdRing = (s.win k).cmdRing := by
  induction l generalizing s with
  | nil => rfl
  | cons st l ih => exact ih.trans (modRegion_cmdRing s w st.1 _ k)

theorem regionWrite_present (hp : (s.region w d).present = true) (ofs : Nat) (p : List Byte) :
    s.regionWrite w d ofs p = s.modRegion w d (fun g => { g with bytes := twrite g.bytes ofs p }) := if_pos hp

theorem regionWrite_twf {k e : Nat} (ofs : Nat) (p : List Byte) (h : twf 0 (s.region k e).bytes = true) :
    twf 0 ((s.regionWrite w d ofs p).region k e).bytes = true := by
  unfold State.regionWrite
  split
  · exact modRegion_twf w d (fun g hg => twf_twrite _ _ _ hg) h
  · exact h

/-- Reads that do not meet what was written are as before. -/
theorem tread_twrite_out (t : Tab Byte) {a ofs n : Nat} (p : List Byte) (h : a + n ≤ ofs ∨ ofs + p.length ≤ a) :
    tread (twrite t ofs p) a n = tread t a n :=
  List.map_congr_left fun i hi => tget_twrite_out p t (by have := List.mem_range.mp hi; omega)

end Regions

/-- Settles O15: each write is one of bytes into a table, which stays canonical, reads back what was written and keeps
the rest. -/
theorem windowBytesStayCanonical : Obligations.WindowBytesStayCanonical := by
  refine ⟨fun s w k l h => by rwa [stores_cmdRing], fun s w k d l h => stores_twf w l h,
    fun s w k d e ofs p h => regionWrite_twf w d ofs p h, fun x r h => twf_twrite _ _ _ h, fun s w d ofs p hp => ?_,
    fun s w ofs value hl ht ha hlo hhi => ?_⟩
  · refine ⟨?_, fun a n hout => ?_, fun k e hk => ?_, frame_exec (State.regionWrite_frame _ _ _ _ _ rfl) rfl⟩ <;>
      rw [regionWrite_present w d hp]
    · rw [State.regionRead, modRegion_region]
      exact tread_twrite p _ ofs
    · rw [State.regionRead, State.regionRead, modRegion_region]
      exact tread_twrite_out _ p hout
    · exact modRegion_region_other s w d _ hk
  · have written := registerWrite_ring hl value (.inr (.inr (.inr rfl))) ha ⟨hlo, hhi⟩
    refine ⟨_, rfl, ?_, fun i hi => ?_, fun a hout => ?_, fun k hk => ?_,
      frame_exec (m := 2) (by rw [written]; exact State.modWin_frame _ _ _ rfl) rfl⟩ <;> rw [written]
    · rw [State.modWin_win]
      exact twf_twrite _ _ _ ht
    · have inside : i < (leB 8 value).length := by rwa [leB_length]
      rw [State.modWin_win, List.getD_eq_getElem _ _ inside]
      exact tget_twrite_in _ _ ofs i inside
    · rw [State.modWin_win]
      exact tget_twrite_out _ _ (by rwa [leB_length])
    · exact State.modWin_win_other s _ hk

/-- Settles O2: the decoder is constant, so no command is ever fetched. -/
theorem noTableWordSpellsACommand : Obligations.NoTableWordSpellsACommand := fun _ _ _ => ⟨rfl, rfl⟩

/-! ### The unit words of a window (02 R44) -/

theorem testBit_foldl_bit (l : List Nat) (a i : Nat) :
    (l.foldl (fun a j => a ||| 2 ^ j) a).testBit i = (a.testBit i || decide (i ∈ l)) := by
  induction l generalizing a with
  | nil => simp
  | cons j l ih =>
    rw [List.foldl_cons, ih, Nat.testBit_or, Nat.testBit_two_pow, Bool.or_assoc]
    congr 1
    by_cases h : i = j <;> simp [h, eq_comm]

theorem testBit_bitSet (l : List Nat) (i : Nat) : (bitSet l).testBit i = decide (i ∈ l) := by
  rw [bitSet, testBit_foldl_bit, Nat.zero_testBit, Bool.false_or]

section UnitBits

variable (s : State) (w : Nat) {n i : Nat}

theorem unitBits_testBit (valid : Bool) (hi : i < 32) : (s.unitBits valid n).testBit i =
    (unitFitted s.variant (32 * n + i) && (!valid || s.validBit (32 * n + i))) := by
  rw [State.unitBits, testBit_bitSet]
  simp [hi]

theorem regRead_fitted (hn : n < 4) : s.regRead w (0x10 + 4 * n) = s.unitBits false n := by
  have word : 0x10 ≤ 0x10 + 4 * n ∧ 0x10 + 4 * n < 0x20 := by omega
  have index : (0x10 + 4 * n - 0x10) / 4 = n := by omega
  simp only [State.regRead, word, and_self, ↓reduceIte, index]

theorem regRead_valid (hn : n < 4) : s.regRead w (0x20 + 4 * n) = s.unitBits true n := by
  have word : ¬(0x10 ≤ 0x20 + 4 * n ∧ 0x20 + 4 * n < 0x20) ∧ 0x20 ≤ 0x20 + 4 * n ∧ 0x20 + 4 * n < 0x30 := by omega
  have index : (0x20 + 4 * n - 0x20) / 4 = n := by omega
  simp only [State.regRead, word, and_self, ↓reduceIte, index]

end UnitBits

/-- Settles O9: unit u has bit u mod 32 of word u / 32; a number absent from the table is fitted on no variant. -/
theorem unitBitsOfAWindow : Obligations.UnitBitsOfAWindow := by
  intro s w u hu
  have word : u / 32 < 4 := by omega
  have place : u % 32 < 32 := Nat.mod_lt _ (by decide)
  have fitted : (s.regRead w (0x10 + 4 * (u / 32))).testBit (u % 32) = unitFitted s.variant u := by
    rw [regRead_fitted s w word, unitBits_testBit s false place, Nat.div_add_mod, Bool.not_false, Bool.true_or, Bool.and_true]
  have valid : (s.regRead w (0x20 + 4 * (u / 32))).testBit (u % 32) = (unitFitted s.variant u && s.validBit u) := by
    rw [regRead_valid s w word, unitBits_testBit s true place, Nat.div_add_mod, Bool.not_true, Bool.false_or]
  refine ⟨fitted, valid, fun h => ?_⟩
  have absent : unitFitted s.variant u = false := by rw [unitFitted, h, Bool.false_and]
  rw [fitted, valid, absent]
  exact ⟨rfl, rfl⟩

/-! ### The checks of a command (02 R59) and its refusal (02 R60, R61) -/

section Checks

variable {s : State} {v : Verb} {r : Req}

theorem takeSlot_unknown (hu : unitKnown r.unit = false) : s.takeSlot r = s.refuse r stBadUnit := by
  simp only [State.takeSlot, hu, Bool.not_false, ↓reduceIte]

theorem takeSlot_notFitted (hu : unitKnown r.unit = true) (hf : unitFitted s.variant r.unit = false) :
    s.takeSlot r = s.refuse r stNotFitted := by
  simp only [State.takeSlot, hu, hf, Bool.not_true, Bool.not_false, Bool.false_eq_true, ↓reduceIte]

theorem takeSlot_noVerb (hu : unitKnown r.unit = true) (hf : unitFitted s.variant r.unit = true)
    (hv : verbOf r.unit r.verb = none) : s.takeSlot r = s.refuse r stBadVerb := by
  simp only [State.takeSlot, hu, hf, hv, Bool.not_true, Bool.false_eq_true, ↓reduceIte]

section

variable (fitted : unitFitted s.variant v.unit = true)
include fitted

theorem check_badLength (h : 112 < r.payload.length ∨ v.lenOk r = false) : s.check v r = some stBadLength := by
  have bad : (decide (r.payload.length > 112) || !v.lenOk r) = true := by simpa using h
  simp only [State.check, fitted, bad, Bool.not_true, Bool.false_eq_true, ↓reduceIte]

variable (short : r.payload.length ≤ 112) (length : v.lenOk r = true)
include short length

theorem check_outOfRange (h : v.instOk r.inst = false ∨ (r.cls ≠ 0 ∧ r.cls ≠ 2 ∧ r.cls ≠ 3)) :
    s.check v r = some stRange := by
  have bad : (!v.instOk r.inst || !(r.cls == 0 || r.cls == 2 || r.cls == 3)) = true := by simpa [and_assoc] using h
  simp only [State.check, fitted, length, bad, gt_iff_lt, Nat.not_lt_of_le short, decide_false, Bool.not_true, Bool.or_self,
    Bool.false_eq_true, ↓reduceIte]

/-- Past the checks of length, instance and class stand those of presence, rights, generation, power, deadline and hold. -/
theorem check_wellFormed (inst : v.instOk r.inst = true) (cls : r.cls = 0 ∨ r.cls = 2 ∨ r.cls = 3) :
    s.check v r =
      if !instPresent s.part v.unit r.inst then some stNotFitted
      else if !s.permitted v r then some stNotPermitted
      else if bit r.flags 2 && r.genLow != s.gen v.unit r.inst % 4096 then some stRestarted
      else if (s.unitSt v.unit r.inst).phase == .off && !v.anyPower then some stBusy
      else if deadlinePassed s.us r.deadline then some stDeadline
      else if (s.unitSt v.unit r.inst).phase != .running && (s.unitSt v.unit r.inst).phase != .off then
        some (if bit r.flags 1 then stBusy else stHeld)
      else none := by
  have good : (r.cls == 0 || r.cls == 2 || r.cls == 3) = true := by simpa [or_assoc] using cls
  simp only [State.check, fitted, length, inst, good, gt_iff_lt, Nat.not_lt_of_le short, decide_false, Bool.not_true,
    Bool.or_self, Bool.false_eq_true, ↓reduceIte]

end

/-- A command whose first failed check is not the hold is answered with its status. -/
theorem mailbox_refused {st : Nat} (live : s.live r.win = true) (noneWaits : (s.win r.win).backlog = 0)
    (noneStored : ((s.stores r.win r.stores).win r.win).backlog = 0)
    (serves : (s.stores r.win r.stores).keeperServes r.win = true)
    (turn : (s.consumed v r).mustWait ((s.consumed v r).win r.win).waiting (v.req r) = false)
    (fresh : (s.consumed v r).recorded (v.req r) = none) (failed : (s.consumed v r).check v (v.req r) = some st)
    (notHeld : st ≠ stHeld) :
    s.mailbox v r = (s.consumed v r).answer r.win ((s.consumed v r).mkReply v (v.req r) false false st []) := by
  have taken : s.mailbox v r = (s.consumed v r).take v (v.req r) := by
    simp only [State.mailbox, live, noneWaits, noneStored, serves, ge_iff_le, Nat.reduceLeDiff, decide_false, Bool.not_true,
      Bool.or_self, Bool.false_eq_true, ↓reduceIte, ne_eq, not_true_eq_false]
    rfl
  rw [taken]
  simp only [State.take, State.start, State.serve, Verb.req_win, turn, fresh, failed, notHeld, Bool.false_eq_true, ↓reduceIte]

/-- A command that fails a check changes nothing outside Keeper's own state. -/
theorem take_sameBut_of_failed {st : Nat} (failed : s.check v r = some st) : SameBut [.keeper] s (s.take v r) := by
  refine frame_exec (m := 2) ?_ rfl
  unfold State.take State.start State.serve
  rw [failed]
  split
  · exact State.modWin_frame _ _ _ rfl
  · split
    · exact (State.answer_frame _ _ _ rfl).trans (State.modWin_frame _ _ _ rfl)
    · simp only [Bool.false_eq_true, ↓reduceIte]
      split
      · exact (State.answer_frame _ _ _ rfl).trans (State.modWin_frame _ _ _ rfl)
      · exact State.answer_frame _ _ _ rfl

/-- The same of the mailbox command whole. -/
theorem mailbox_sameBut_of_failed {st : Nat} (failed : (s.consumed v r).check v (v.req r) = some st) :
    SameBut [.keeper] s (s.mailbox v r) := by
  obtain h | h | h := mailbox_cases s v r <;> rw [h]
  · rfl
  · exact frame_exec (State.written_frame s v r rfl) rfl
  · exact (take_sameBut_of_failed failed).trans (frame_exec (State.consumed_frame s v r rfl) rfl)

end Checks

/-- Settles O10: the checks in their order, each with those before it passed. -/
theorem firstFailedCheckDecides : Obligations.FirstFailedCheckDecides := by
  refine ⟨fun s r hu => takeSlot_unknown hu, fun s r hu hf => takeSlot_notFitted hu hf,
    fun s r hu hf hv => takeSlot_noVerb hu hf hv, fun s v r hf h => check_badLength hf h,
    fun s v r hf hp hl h => check_outOfRange hf hp hl h, fun s v r hf hp hl hi hc => ?_,
    fun v r s st hl hb hs hk hw hr hc hn => ?_⟩
  · have checks := check_wellFormed hf hp hl hi hc
    refine ⟨fun absent => ?_, fun present => ⟨fun foreign => ?_, fun right => ⟨?_, fun current => ?_⟩⟩⟩
    · simp [checks, absent]
    · simp [checks, present, foreign]
    · rintro ⟨checked, old⟩
      simp [checks, present, right, bit, checked, old]
    · have generation : (bit r.flags 2 && r.genLow != s.gen v.unit r.inst % 4096) = false := by
        simpa [bit, imp_iff_not_or] using current
      simp only [checks, present, right, generation, Bool.not_true, Bool.false_eq_true, ↓reduceIte]
      refine ⟨?off, fun running => by simp [running], fun stopped powered => ?_⟩
      case off =>
        rintro ⟨off, power⟩
        simp [off, power]
      cases late : deadlinePassed s.us r.deadline <;> cases noHold : r.flags.testBit 1 <;>
        simp [stopped, powered, bit, noHold]
  · exact ⟨_, congrArg Host.Outcome.next (mailbox_refused hl hb hs hk hw hr hc hn), rfl,
      (frame_exec (State.answer_frame _ _ _ rfl) rfl).trans (frame_exec (State.consumed_frame s v r rfl) rfl)⟩

/-- ROOT.RESTART is no query, so from another window than Root's it is not permitted (02 R61). -/
theorem rootRestart_check_failed (s : State) (r : Req) (h : r.win ≠ 0) : ∃ st, s.check verbRootRestart r = some st := by
  by_contra noneFailed
  have permitted := permitted_of_check_none (Option.eq_none_iff_forall_ne_some.mpr (not_exists.mp noneFailed))
  simp [State.permitted, verbRootRestart, h] at permitted

/-- Settles O11: the command fails a check, and a command that does changes only Keeper's own state. -/
theorem onlyTheRootWindowRestartsRoot : Obligations.OnlyTheRootWindowRestartsRoot := by
  intro s r h
  obtain ⟨st, failed⟩ := rootRestart_check_failed (s.consumed verbRootRestart r) (verbRootRestart.req r) h
  exact ⟨_, rfl, mailbox_sameBut_of_failed failed⟩

/-! ### The KEEPER verbs (02 R70, R507, 03 R86, R87, R91) -/

section KeeperVerbs

variable {s : State} {r : Req}

theorem offered_hw (s : State) (v : Verb) (r : Req) : (s.offered v r).hw = s.hw :=
  congrArg Time.heartwood (time_of_without (m := 2) (State.offered_frame s v r rfl) rfl)

theorem offered_sig (s : State) (v : Verb) (r : Req) (id : Nat) : (s.offered v r).sig id = s.sig id :=
  congrArg (tget Signal.reset · id) (offered_signals s v r)

/-- A mode that is not refused is recorded, to take effect at the function's next boundary. -/
theorem keeperMode_body (h : s.modeRefusal r = none) {p : List Byte} (hp : p = r.payload) {m : ModeFn}
    (hm : m = (s.modeFn (u8 p 0) (u8 p 1) (u16 p 2)).getD ⟨0, 0, 0⟩) {t : Nat} (ht : t = nextBoundary s.hw m.period m.phase) :
    verbKeeperMode.body r s =
      ((s.modeSent (u8 p 0) (u16 p 2) r.win).modHost (hostKey (u8 p 0) (u8 p 1) (u16 p 2)) (fun h =>
        { h with owner := r.win, holdLast := if u16 p 6 = 0xFFFF then h.holdLast else u16 p 6, pending := some (u8 p 4 == 1),
                 pendingAt := t }),
        stDone, b32 (m.d / 1000) ++ b32 (m.period / 1000) ++ b32 (usOf t)) := by
  subst hp hm ht
  simp only [verbKeeperMode, h]

/-- Signals of the table of IDs are read with value, flags and stamp. -/
theorem keeperSigRead_body (h : (sigIds r.payload).any (fun id => decide (id > 0xFFF)) = false) :
    verbKeeperSigRead.body r s = (s, stDone, (sigIds r.payload).flatMap (fun id =>
      bF (s.sig id).value ++ b8 (s.sig id).flags ++ zeros 3 ++ b64 (s.sig id).stamp)) := by
  simp only [verbKeeperSigRead, h, Bool.false_eq_true, ↓reduceIte]

/-- Entries of finite values, of stamps not past now and of one ID each are written in their order. -/
theorem keeperSigWrite_body (finite : (sigEntries r.payload).all (fun e => fFinite e.value) = true)
    (stamps : (sigEntries r.payload).all (fun e => decide (e.stamp ≤ s.hw)) = true)
    (distinct : ((sigEntries r.payload).map (·.id)).eraseDups.length = (sigEntries r.payload).length) :
    verbKeeperSigWrite.body r s =
      (((sigEntries r.payload).foldl (fun (a : State) e =>
        a.setSig e.id e.value (if e.stamp = 0 then s.hw else e.stamp) e.flags) s).bodyEvalAll, stDone, []) := by
  simp only [verbKeeperSigWrite, finite, stamps, distinct, ne_eq, not_true_eq_false, decide_false, Bool.not_true, Bool.or_self,
    Bool.false_eq_true, ↓reduceIte]

end KeeperVerbs

/-- Settles O37: each verb's effect on the offered state, whose signals and clock are those of `s`. -/
theorem keeperVerbsComplete : Obligations.KeeperVerbsComplete := by
  refine ⟨fun s r h => row_eq h rfl (by decide), ?mode, ?sigRead, ?sigWrite, ?evtMask⟩
  case mode =>
    intro s r p m t h hp hr hm ht
    exact row_eq h (keeperMode_body hr hp hm (by rw [offered_hw, ht])) (by decide)
  case sigRead =>
    intro s r h hi
    have effect := keeperSigRead_body (s := s.offered verbKeeperSigRead r) (r := verbKeeperSigRead.req r) hi
    simp only [offered_sig] at effect
    exact row_eq h effect (by decide)
  case sigWrite =>
    intro s r h hf ht hn
    have effect := keeperSigWrite_body (s := s.offered verbKeeperSigWrite r) (r := verbKeeperSigWrite.req r) hf
      (by rwa [offered_hw]) hn
    simp only [offered_hw] at effect
    exact row_eq h effect (by decide)
  case evtMask =>
    rintro s r _ _ h rfl rfl
    exact row_eq h rfl (by decide)

end Sys2Proof.Machine
end

section
/-! Time, events and faults (spec 03): what one step is, the order of the fault queue, and the rows of TIME and FAULT. -/

namespace Sys2Proof.Machine

/-! ### One step (03 R74, 01 R16): the front command, or one cycle of the clock -/

section Steps

variable {s : State}

theorem step_idle (h : s.pending = []) : step s = .next s.clockTick := by
  simp only [step, h]

theorem clockTick_running (h : s.trunkOn = true) : s.clockTick = (s.waitTo (s.hw + 4)).keeperTurn :=
  if_pos h

theorem clockTick_parked (ht : s.trunkOn = false) (ho : s.power.state ≠ .off) :
    s.clockTick = { s with time.parkPeriods := s.time.parkPeriods + 1 } := by
  simp only [State.clockTick, ht, beq_eq_false_iff_ne.mpr ho, Bool.false_eq_true, ↓reduceIte]

theorem clockTick_off (h : s.power.state = .off) : s.clockTick = s := by
  simp only [State.clockTick, trunkOn_of_off h, h, beq_self_eq_true, Bool.false_eq_true, ↓reduceIte]

end Steps

/-- Settles O1: the front command is taken off the queue; with none waiting the clock ticks as the power state has it. -/
theorem stepRunsTheFrontCommand : Obligations.StepRunsTheFrontCommand := by
  refine ⟨fun c q s => rfl, fun s h => step_idle h, ?running, ?parked, ?off⟩
  case running => exact fun s h ht => (step_idle h).trans (congrArg _ (clockTick_running ht))
  case parked => exact fun s h ht ho => (step_idle h).trans (congrArg _ (clockTick_parked ht ho))
  case off => exact fun s h ho => (step_idle h).trans (congrArg _ (clockTick_off ho))

/-! ### The fault queue (03 R95, R96) -/

/-- Along the queue the severity never rises. -/
abbrev SevOrdered (q : List FaultRec) : Prop := q.Pairwise (fun f g => g.sev ≤ f.sev)

/-- A queue in its order and within its bound. -/
def Orderly (q : List FaultRec) : Prop := SevOrdered q ∧ q.length ≤ 32

/-- No queued fault has a higher severity than the one being handled. -/
def State.HandlesHighest (s : State) : Prop := ∀ c, s.faults.current = some c → ∀ g ∈ s.faults.queue, g.sev ≤ c.sev

section FaultQueue

variable {s : State} {f c : FaultRec} {q : List FaultRec}

/-- The order is one of the severities alone. -/
theorem sevOrdered_iff : SevOrdered q ↔ (q.map (·.sev)).Pairwise (fun a b => b ≤ a) :=
  (List.pairwise_map (f := FaultRec.sev) (R := fun a b => b ≤ a)).symm

/-- An insertion keeps the order where it passes only faults of at least the new one's severity, and stops only before one of
at most that. -/
theorem orderedInsert_sev_ordered {r : FaultRec → FaultRec → Prop} [DecidableRel r]
    (stops : ∀ g, r f g → g.sev ≤ f.sev) (passes : ∀ g, ¬r f g → f.sev ≤ g.sev) (h : SevOrdered q) :
    SevOrdered (q.orderedInsert r f) := by
  induction q with
  | nil => exact List.pairwise_singleton _ _
  | cons g q ih =>
    obtain ⟨hg, hq⟩ := List.pairwise_cons.mp h
    by_cases hr : r f g
    · rw [List.orderedInsert_cons_of_le r q hr]
      exact List.pairwise_cons.mpr
        ⟨List.forall_mem_cons.mpr ⟨stops g hr, fun x hx => (hg x hx).trans (stops g hr)⟩, h⟩
    · rw [List.orderedInsert_of_not_le r q hr]
      refine List.pairwise_cons.mpr ⟨fun x hx => ?_, ih hq⟩
      obtain rfl | hx := List.mem_cons.mp ((List.perm_orderedInsert r f q).mem_iff.mp hx)
      · exact passes g hr
      · exact hg x hx

/-- A raised fault stops where the queue goes on with a lower severity, or with its own and a later first occurrence. -/
theorem queueInsert_eq_orderedInsert : queueInsert f q =
    q.orderedInsert (fun f g => ¬(g.sev > f.sev ∨ (g.sev = f.sev ∧ g.first ≤ f.first))) f := by
  induction q with
  | nil => rfl
  | cons g q ih => simp only [queueInsert, List.orderedInsert_cons, ih, ite_not]

/-- A preempted fault stops before its own severity. -/
theorem queueHead_eq_orderedInsert : queueHead f q = q.orderedInsert (fun f g => ¬g.sev > f.sev) f := by
  induction q with
  | nil => rfl
  | cons g q ih => simp only [queueHead, List.orderedInsert_cons, ih, ite_not]

theorem queueInsert_perm : (queueInsert f q).Perm (f :: q) :=
  queueInsert_eq_orderedInsert ▸ List.perm_orderedInsert _ _ _

theorem queueHead_perm : (queueHead f q).Perm (f :: q) :=
  queueHead_eq_orderedInsert ▸ List.perm_orderedInsert _ _ _

theorem queueInsert_ordered (h : SevOrdered q) : SevOrdered (queueInsert f q) :=
  queueInsert_eq_orderedInsert ▸ orderedInsert_sev_ordered (fun g hg => by omega) (fun g hg => by omega) h

theorem queueHead_ordered (h : SevOrdered q) : SevOrdered (queueHead f q) :=
  queueHead_eq_orderedInsert ▸ orderedInsert_sev_ordered (fun g hg => by omega) (fun g hg => by omega) h

/-- An overflow has a fault to drop, one of the queue. -/
theorem overflowPick_mem (h : q ≠ []) : ∃ f ∈ q, overflowPick q = some f := by
  cases q with
  | nil => exact absurd rfl h
  | cons g q =>
    refine List.foldlRecOn (motive := fun o => ∃ f ∈ g :: q, o = some f) q _ ⟨g, by simp, rfl⟩ ?_
    rintro _ ⟨a, ha, rfl⟩ b hb
    dsimp only
    split
    · exact ⟨b, List.mem_cons_of_mem g hb, rfl⟩
    · exact ⟨a, ha, rfl⟩

/-- A queue within its bound stays, a longer one drops one of its faults. -/
theorem settleQueue_cases : s.settleQueue = s ∧ s.faults.queue.length ≤ 32 ∨
    ∃ f ∈ s.faults.queue, s.settleQueue.faults.queue = s.faults.queue.erase f := by
  unfold State.settleQueue
  split
  · next short => exact .inl ⟨rfl, short⟩
  · next long =>
    obtain ⟨f, hf, picked⟩ := overflowPick_mem (q := s.faults.queue) (by intro h; simp [h] at long)
    exact .inr ⟨f, hf, by simp [picked]⟩

theorem settleQueue_sublist : s.settleQueue.faults.queue.Sublist s.faults.queue := by
  obtain ⟨same, -⟩ | ⟨f, -, erased⟩ := settleQueue_cases (s := s)
  · rw [same]
  · rw [erased]
    exact List.erase_sublist

/-- One fault over the bound is the most that an insertion leaves to settle. -/
theorem settleQueue_orderly (ordered : SevOrdered s.faults.queue) (len : s.faults.queue.length ≤ 33) :
    Orderly s.settleQueue.faults.queue := by
  refine ⟨ordered.sublist settleQueue_sublist, ?_⟩
  obtain ⟨same, short⟩ | ⟨f, hf, erased⟩ := settleQueue_cases (s := s)
  · rwa [same]
  · rw [erased, List.length_erase_of_mem hf]
    omega

@[simp] theorem settleQueue_current : s.settleQueue.faults.current = s.faults.current := by
  unfold State.settleQueue
  split
  · rfl
  · split
    · rfl
    · simp

theorem preempt_orderly (h : Orderly s.faults.queue) : Orderly (s.preempt c f).faults.queue := by
  obtain ⟨ordered, len⟩ := h
  refine settleQueue_orderly ?_ ?_ <;> simp only [State.post_leaves]
  · exact queueHead_ordered ordered
  · simpa [queueHead_perm.length_eq, Nat.lt_succ_iff] using len

@[simp] theorem preempt_current : (s.preempt c f).faults.current = some f := by
  simp [State.preempt]

theorem preempt_sev_le {n : Nat} (h : ∀ g ∈ s.faults.queue, g.sev ≤ n) (hc : c.sev ≤ n) :
    ∀ g ∈ (s.preempt c f).faults.queue, g.sev ≤ n := by
  intro g hg
  have queued : g ∈ queueHead c s.faults.queue := by simpa using settleQueue_sublist.subset hg
  exact (List.forall_mem_cons (p := (·.sev ≤ n))).mpr ⟨hc, h⟩ g (queueHead_perm.mem_iff.mp queued)

/-- A fault coalesces with a queued one, by which no severity changes, or is inserted. -/
theorem enqueue_cases (s : State) (f : FaultRec) :
    (s.enqueue f).1.faults.queue.map (·.sev) = s.faults.queue.map (·.sev) ∨
    (s.enqueue f).1 =
      ({ s with faults.occurrences := f.occ, faults.queue := queueInsert f s.faults.queue } : State).settleQueue := by
  unfold State.enqueue
  split
  · left
    simp only [List.map_map, List.map_inj_left, Function.comp_apply]
    intro g _
    split <;> rfl
  · exact .inr rfl

@[simp] theorem enqueue_current : (s.enqueue f).1.faults.current = s.faults.current := by
  unfold State.enqueue
  split
  · rfl
  · simp

theorem enqueue_orderly (h : Orderly s.faults.queue) : Orderly (s.enqueue f).1.faults.queue := by
  obtain ⟨ordered, len⟩ := h
  obtain sevs | inserted := enqueue_cases s f
  · have lengths : (s.enqueue f).1.faults.queue.length = s.faults.queue.length := by
      simpa using congrArg List.length sevs
    rw [sevOrdered_iff, ← sevs, ← sevOrdered_iff] at ordered
    exact ⟨ordered, lengths.trans_le len⟩
  · rw [inserted]
    refine settleQueue_orderly (queueInsert_ordered ordered) ?_
    simpa [queueInsert_perm.length_eq, Nat.lt_succ_iff] using len

theorem enqueue_sev_le {n : Nat} (h : ∀ g ∈ s.faults.queue, g.sev ≤ n) (hf : f.sev ≤ n) :
    ∀ g ∈ (s.enqueue f).1.faults.queue, g.sev ≤ n := by
  obtain sevs | inserted := enqueue_cases s f
  · rw [← List.forall_mem_map (P := (· ≤ n))] at h ⊢
    rwa [sevs]
  · intro g hg
    rw [inserted] at hg
    have queued : g ∈ f :: s.faults.queue := queueInsert_perm.mem_iff.mp (settleQueue_sublist.subset hg)
    exact (List.forall_mem_cons (p := (·.sev ≤ n))).mpr ⟨hf, h⟩ g queued

theorem placeFault_orderly (h : Orderly s.faults.queue) : Orderly (s.placeFault f).1.faults.queue := by
  unfold State.placeFault
  split
  · split
    · exact h
    · exact enqueue_orderly h
  · split
    · exact preempt_orderly h
    · exact enqueue_orderly h

/-- A fault of higher severity than the one being handled preempts it while the manager runs. -/
theorem placeFault_handlesHighest (runs : s.faultRuns = true) (h : s.HandlesHighest) :
    (s.placeFault f).1.HandlesHighest := by
  unfold State.placeFault
  split
  · next idle =>
    split
    · next taken =>
      obtain ⟨-, empty⟩ : _ ∧ s.faults.queue = [] := by simpa using taken
      simp [State.HandlesHighest, empty]
    · simp [State.HandlesHighest, idle]
  · next c current =>
    have below := h c current
    split
    · next preempts =>
      have higher : c.sev < f.sev := by simpa [runs] using preempts
      intro d hd
      obtain rfl : f = d := by simpa using hd
      exact preempt_sev_le (fun g hg => (below g hg).trans higher.le) higher.le
    · next queues =>
      have lower : f.sev ≤ c.sev := by simpa [runs] using queues
      intro d hd
      obtain rfl : c = d := by simpa [current] using hd
      exact enqueue_sev_le below lower

@[simp] theorem passToRoot_queue : (s.passToRoot f).faults.queue = s.faults.queue := by
  unfold State.passToRoot
  split_ifs <;> rfl

@[simp] theorem passToRoot_current : (s.passToRoot f).faults.current = s.faults.current := by
  unfold State.passToRoot
  split_ifs <;> rfl

@[simp] theorem markActive_queue : (s.markActive f).faults.queue = s.faults.queue := by
  unfold State.markActive
  split <;> rfl

@[simp] theorem markActive_current : (s.markActive f).faults.current = s.faults.current := by
  unfold State.markActive
  split <;> rfl

/-- Whether the fault manager handles rests on the power state and on Keeper. -/
theorem faultRuns_of_without {m : Nat} {t : State} (h : t.without m = s.without m) (keeper : m.testBit 1 = false)
    (power : m.testBit 25 = false) : t.faultRuns = s.faultRuns := by
  simp only [State.faultRuns, State.running, State.unitSt, State.trunkOn, keeper_of_without h keeper,
    power_of_without h power]

/-- The flags and Root's part of a raise leave the queue to the placing of the fault. -/
theorem raise_places (s : State) (code unit inst sev : Nat) (p : List Nat) (b : Bool) :
    ∃ (t : State) (f : FaultRec), t.faults.queue = s.faults.queue ∧ t.faults.current = s.faults.current ∧
      t.faultRuns = s.faultRuns ∧
      (s.raise code unit inst sev p b).1.faults.queue = (t.placeFault f).1.faults.queue ∧
      (s.raise code unit inst sev p b).1.faults.current = (t.placeFault f).1.faults.current := by
  refine ⟨(s.mapFlags code unit).passToRoot _, _, passToRoot_queue, passToRoot_current, ?_, markActive_queue,
    markActive_current⟩
  exact faultRuns_of_without (m := 2097160) ((State.passToRoot_frame _ _ rfl).trans (State.mapFlags_frame _ _ _ rfl)) rfl rfl

end FaultQueue

/-- Settles O14: a raise places one fault; the placing keeps the queue orderly and, while the manager runs, hands it the
highest severity. -/
theorem faultQueueStaysOrdered : Obligations.FaultQueueStaysOrdered := by
  intro s code unit inst sev p b ordered len
  obtain ⟨t, f, queue, current, runs, queued, handled⟩ := raise_places s code unit inst sev p b
  obtain ⟨ordered', len'⟩ : Orderly (s.raise code unit inst sev p b).1.faults.queue := by
    rw [queued]
    exact placeFault_orderly (queue ▸ ⟨ordered, len⟩)
  refine ⟨ordered', len', raise_stands .., fun hr highest => ?_⟩
  have placed : (t.placeFault f).1.HandlesHighest :=
    placeFault_handlesHighest (runs.trans hr) (by rwa [State.HandlesHighest, queue, current])
  rwa [State.HandlesHighest, ← queued, ← handled] at placed

/-! ### The rows of TIME and FAULT (03 R77-R80, R92-R97) -/

section TimeFaultRows

variable {s : State} {r : Req}

/-- A usable PPS is marked at now and steers, but for a follower; where the lock condition holds GPS_OFS is set and
LOCKED taken. -/
theorem execTimePps_usable {phase gps : Int} {leap : Option Nat} {u v : State} (runs : s.timeRuns = true)
    (fix : fixInvalid s.gnss.fix = false)
    (hu : u = { s with time.pps := true, time.lastPps := s.hw, time.ppsOfs := gps - (s.hw : Int),
                       time.lockSince := if phase.natAbs ≤ 100 then some (s.time.lockSince.getD s.hw) else none,
                       time.leap := leap.getD s.time.leap, time.leapValid := s.time.leapValid || leap.isSome })
    (hv : v = if s.time.state = 3 then u else u.timeSteer) :
    execTimePps phase true gps leap s = .next
      (if v.timeLocks then
        (let w := if v.time.state = 1 then v else v.setOffset
         if w.time.state = 0 ∨ w.time.state = 2 then w.timeTo 1 1 else w)
       else v) := by
  subst hu hv
  unfold fixInvalid at fix
  simp only [execTimePps, runs, fix, Bool.not_true, Bool.not_false, Bool.and_self, Bool.false_eq_true, decide_eq_true_eq,
    ↓reduceIte]

theorem ppsDrop_runs (runs : s.timeRuns = true) (cause : Nat) :
    s.ppsDrop cause = if s.time.state = 1 then ({ s with time.pps := false, time.lockSince := none } : State).timeTo 2 cause
      else { s with time.pps := false, time.lockSince := none } := by
  simp only [State.ppsDrop, runs, Bool.not_true, Bool.false_eq_true, ↓reduceIte]

theorem execTimePpsAbsent_absent (runs : s.timeRuns = true) (fix : fixInvalid s.gnss.fix = false) :
    execTimePpsAbsent s = .next
      (let u := s.waitTo (s.time.lastPps + 2000000000)
       if s.time.state = 1 then ({ u with time.pps := false, time.lockSince := none } : State).timeTo 2 2
       else { u with time.pps := false, time.lockSince := none }) := by
  have later : (s.waitTo (s.time.lastPps + 2000000000)).timeRuns = true := runs
  simp only [execTimePpsAbsent, runs, fix, ppsDrop_runs later, State.waitTo_inner, Bool.not_true, Bool.false_eq_true,
    ↓reduceIte]

theorem execTimePpsAbsent_invalid (runs : s.timeRuns = true) (fix : fixInvalid s.gnss.fix = true) :
    execTimePpsAbsent s = .next
      (if s.time.state = 1 then ({ s with time.pps := false, time.lockSince := none } : State).timeTo 2 3
       else { s with time.pps := false, time.lockSince := none }) := by
  simp only [execTimePpsAbsent, runs, fix, ppsDrop_runs runs, Bool.not_true, Bool.false_eq_true, ↓reduceIte]

/-- A follower whose grandmaster is silent takes the state that the GNSS condition gives once the loss is raised. -/
theorem execTimeGmLost_follower (runs : s.timeRuns = true) (follower : s.time.state = 3) :
    execTimeGmLost s = .next
      (let u := s.waitTo (s.time.lastSync + 3000000000)
       let v := ({ u with time.gmLost := true, time.gmSelected := false } : State).raiseEv 2 0 1 0x0022 2 0 s.time.gmId
         ((u.hw - s.time.lastSync) / 1000000) 0
       (if v.gnssTime = 1 then v.setOffset else v).timeTo v.gnssTime 5) := by
  have follows : ¬(!s.timeRuns || s.time.state != 3) = true := by simp [runs, follower]
  exact congrArg Host.Outcome.next (if_neg follows)

/-- A role is taken; one that ends the follower role and differs from the old one ends TIME/GM_LOST too. -/
theorem timeRole_body {old : Nat} (known : u8 r.payload 0 ≤ 3) (hold : s.time.role = old) :
    verbTimeRole.body r s =
      ((let u := { s with time.role := u8 r.payload 0, time.priority1 := u8 r.payload 1 }
        if u.follows then u.timeFollow
        else (if u.time.gmLost ∧ u8 r.payload 0 ≠ old then
            ({ u with time.gmLost := false } : State).clearFault 0x0022 0x02 0 else u).timeUnfollow).dirty, stDone, []) := by
  subst hold
  exact if_neg (not_lt.mpr known)

/-- The fault taken up is handled, the next one is taken up, and a dropped one that stands is raised again. -/
theorem execFaultHandle_current {f : FaultRec} (trunk : s.trunkOn = true) (runs : s.running 0x03 0 = true)
    (awake : s.keeper.paused = false) (current : s.faultTake.faults.current = some f) :
    execFaultHandle s = .next
      ((({ s.faultTake with faults.current := none } : State).faultSteps f).faultTake.raiseDropped) := by
  simp only [execFaultHandle, trunk, runs, awake, current, Bool.not_true, Bool.or_self, Bool.false_eq_true, ↓reduceIte]

theorem faultRaise_body (h : raiseOk r.win (u16 r.payload 0) (u8 r.payload 2) = true) :
    verbFaultRaise.body r s =
      (let q := s.raise (u16 r.payload 0) 0x03 r.win (u8 r.payload 2)
         [u32 r.payload 4, u32 r.payload 8, u32 r.payload 12, u32 r.payload 16]
       (q.1, stDone, b32 q.2)) := by
  simp only [verbFaultRaise, h, Bool.not_true, Bool.false_eq_true, ↓reduceIte]

end TimeFaultRows

/-- Settles O39: each row's command under its conditions is given by its row's lemma; a verb's effect is that on the offered
state, whose role and faults are those of `s`. -/
theorem timeFaultRowsComplete : Obligations.TimeFaultRowsComplete := by
  refine ⟨?pps, ?absent, ?invalid, ?gmLost, ?role, ?handle, ?status, ?raised⟩
  case pps =>
    intro s u v phase gps leap runs fix0 fix5 hu hv
    exact execTimePps_usable runs (by simp [fixInvalid, fix0, fix5]) hu hv
  case absent =>
    rintro s _ runs fix rfl
    exact execTimePpsAbsent_absent runs fix
  case invalid => exact fun s runs fix => execTimePpsAbsent_invalid runs fix
  case gmLost =>
    rintro s _ _ runs follower rfl rfl
    exact execTimeGmLost_follower runs follower
  case role =>
    intro s r h known
    have role : (s.offered verbTimeRole r).time.role = s.time.role := by simp only [State.offered_leaves]
    exact row_eq h (timeRole_body known role) (by decide)
  case handle => exact fun s f trunk runs awake current => execFaultHandle_current trunk runs awake current
  case status =>
    intro s r h
    have faults : (s.offered verbFaultStatus r).faults = s.faults := by simp only [State.offered_leaves]
    exact row_eq h (by rw [← faults]; rfl) (by decide)
  case raised => exact fun s r h permitted => row_eq h (faultRaise_body permitted) (by decide)

end Sys2Proof.Machine
end

section
/-! Harvest sensing (spec 04): the rows of the loss analyser, of host-assisted acquisition, of the bridge, analog and
frequency inputs and of the sensor supplies. A row's lemma gives its command under the row's conditions; a verb's lemma, its
effect. -/

namespace Sys2Proof.Machine

/-! ### The loss analyser (04 R98-R106) -/

section LossRows

variable {s : State} {ch : Nat}

section Onset

variable {a : State} {x : Int} (settled : a = s.snipSettle ch) (on : a.lossOn ch = true)
  (idle : (a.lossCh ch).striking = false) (reached : (a.lossCh ch).cfg.thr ≤ (code14 x).natAbs)
include settled on idle reached

/-- In a sensor test a sample at THR counts as blanked. -/
theorem execLossStrikeOnset_blanked (testing : (a.lossCh ch).testing = true) :
    execLossStrikeOnset ch x s = .next (a.modLoss ch (fun c => { c with blanked := satAdd 16 c.blanked 1 })) := by
  subst settled
  simp only [execLossStrikeOnset, on, idle, testing, Nat.not_lt_of_le reached, decide_false, Bool.not_true, Bool.or_self,
    Bool.false_eq_true, ↓reduceIte]

variable (untested : (a.lossCh ch).testing = false)
include untested

/-- In the dead time it counts as merged. -/
theorem execLossStrikeOnset_merged (dead : a.hw < (a.lossCh ch).tEnd + (a.lossCh ch).cfg.dead * 1000) :
    execLossStrikeOnset ch x s = .next
      (a.modLoss ch (fun c => { c with merged := satAdd 16 c.merged 1, openBin.merged := c.openBin.merged + 1 })) := by
  subst settled
  simp only [execLossStrikeOnset, on, idle, untested, Nat.not_lt_of_le reached, ge_iff_le, Nat.not_le_of_lt dead,
    decide_false, Bool.not_true, Bool.or_self, Bool.false_eq_true, ↓reduceIte]

variable (elapsed : a.hw ≥ (a.lossCh ch).tEnd + (a.lossCh ch).cfg.dead * 1000)
include elapsed

/-- After the dead time a strike starts where no snippet is being captured. -/
theorem execLossStrikeOnset_strike
    (free : (a.lossCh ch).snip = none ∨ ∃ p, (a.lossCh ch).snip = some p ∧ p.record = none) :
    execLossStrikeOnset ch x s = .next (a.modLoss ch (fun c =>
      { c with striking := true, inSnip := false, tOn := a.hw, onsetSet := c.templates, onsetCfg := c.cfg })) := by
  subst settled
  obtain noneOpen | ⟨p, capture, unrecorded⟩ := free
  · simp only [execLossStrikeOnset, on, idle, untested, Nat.not_lt_of_le reached, elapsed, noneOpen, decide_false,
      Bool.not_true, Bool.or_self, Bool.false_eq_true, ↓reduceIte]
  · simp only [execLossStrikeOnset, on, idle, untested, Nat.not_lt_of_le reached, elapsed, capture, unrecorded,
      Option.isSome_none, decide_false, Bool.not_true, Bool.or_self, Bool.false_eq_true, ↓reduceIte]

/-- One inside an unfinished snippet is counted as skipped by it. -/
theorem execLossStrikeOnset_skipped {p : Snip} (capture : (a.lossCh ch).snip = some p) (recorded : p.record.isSome = true) :
    execLossStrikeOnset ch x s = .next
      (let b := a.modLoss ch (fun c => { c with snip := some { p with skipped := p.skipped + 1 } })
       b.modLoss ch (fun c =>
         { c with striking := true, inSnip := true, tOn := b.hw, onsetSet := c.templates, onsetCfg := c.cfg })) := by
  subst settled
  simp only [execLossStrikeOnset, on, idle, untested, Nat.not_lt_of_le reached, elapsed, capture, recorded, decide_false,
    Bool.not_true, Bool.or_self, Bool.false_eq_true, ↓reduceIte]

end Onset

/-- A strike's end classifies it with the set of its onset, counts it in that class and offers it to the snippet. -/
theorem execLossStrikeEnd_striking {a b : State} {n : Nat} {samples l : List Int} {k : Nat × Nat × Nat × Nat}
    (runs : s.running 0x10 0 = true) (striking : (s.lossCh ch).striking = true)
    (hn : n = ringEnd (s.lossCh ch).onsetCfg 0 0 (samples.drop 201))
    (ha : a = (s.waitTo ((s.lossCh ch).tOn + 2000 * n)).snipSettle ch) (hl : l = samples.map code14)
    (hk : k = classify (s.lossCh ch).onsetSet (s.lossCh ch).onsetCfg.minScore ((l.drop 184).take 128))
    (hb : b = a.modLoss ch (fun c =>
      { c with striking := false, tEnd := a.hw, strikes := (c.strikes + 1) % 2 ^ 32, strikeNo := (c.strikeNo + 1) % 2 ^ 32,
               grain := if k.1 = 1 then (c.grain + 1) % 2 ^ 32 else c.grain,
               straw := if k.1 = 0 then (c.straw + 1) % 2 ^ 32 else c.straw,
               uncls := if k.1 = 2 then (c.uncls + 1) % 2 ^ 32 else c.uncls,
               openBin := { c.openBin with strikes := c.openBin.strikes + 1, grain := c.openBin.grain + b2n (k.1 == 1),
                                           straw := c.openBin.straw + b2n (k.1 == 0) } })) :
    execLossStrikeEnd ch samples s = .next
      (b.snipTake ch k.1 k.2.1 k.2.2.1 k.2.2.2 (((l.drop 200).take (n + 1)).foldl (fun m x => max m x.natAbs) 0) (2 * n)
        (b.lossCh ch) l) := by
  subst hn ha hl
  simp only [execLossStrikeEnd, runs, striking, Bool.and_self, Bool.not_true, Bool.false_eq_true, ↓reduceIte, ← hk]
  obtain ⟨cls, slot, best, second⟩ := k
  rw [hb]

theorem execLossBinClose_running (fitted : unitFitted s.variant 0x10 = true) (runs : s.running 0x10 0 = true) :
    execLossBinClose s = .next ((List.range (lossChs s.variant)).foldl State.lossClose (s.boundary 33 10000000 0)) := by
  simp only [execLossBinClose, fitted, runs, Bool.and_self, ↓reduceIte]

/-- The test due at its instant starts in IDLE with the dead time over. -/
theorem execLossSensorTest_idle {a : State} (on : s.lossOn ch = true) (interval : (s.lossCh ch).cfg.testMs ≠ 0)
    (untested : (s.lossCh ch).testing = false)
    (due : a = s.waitTo ((s.lossCh ch).testAt + (s.lossCh ch).cfg.testMs * 1000000)) (idle : (a.lossCh ch).striking = false)
    (elapsed : (a.lossCh ch).tEnd + (a.lossCh ch).cfg.dead * 1000 ≤ a.hw) :
    execLossSensorTest ch s = .next (a.modLoss ch (fun c => { c with testing := true, testAt := a.hw })) := by
  subst due
  simp only [execLossSensorTest, on, untested, beq_eq_false_iff_ne.mpr interval, idle, Nat.not_lt_of_le elapsed,
    decide_false, Bool.not_true, Bool.or_self, Bool.false_eq_true, ↓reduceIte]

section TestEnd

variable {resp : Nat} (runs : s.running 0x10 0 = true) (testing : (s.lossCh ch).testing = true)
include runs testing

/-- A response in its limits ends the runs of failures; a healthy sensor stays so. -/
theorem execLossSensorTestEnd_passed (low : 25 ≤ resp) (high : resp ≤ 150)
    (healthy : (s.lossCh ch).sensor = 0) :
    execLossSensorTestEnd ch resp s = .next ((s.waitTo ((s.lossCh ch).testAt + 200000)).modLoss ch (fun c =>
      { c with testing := false, openRun := 0, shortRun := 0 })) := by
  simp [execLossSensorTestEnd, runs, testing, Nat.not_lt_of_le low, Nat.not_lt_of_le high, healthy]

/-- A second consecutive response above its limit raises LOSS/SENSOR_OPEN. -/
theorem execLossSensorTestEnd_open (high : resp > 150) (again : (s.lossCh ch).openRun ≥ 1)
    (healthy : (s.lossCh ch).sensor = 0) :
    execLossSensorTestEnd ch resp s = .next
      ((((((s.waitTo ((s.lossCh ch).testAt + 200000)).modLoss ch (fun c =>
        { c with testing := false, openRun := c.openRun + 1, shortRun := 0 })).clearFault 0x1002 0x10 ch).modLoss ch (fun c =>
        { c with sensor := 1 })).raiseEv 0x10 ch (lossSrc ch) 0x1001 2 ch resp 0 0)) := by
  have second : (s.lossCh ch).openRun + 1 ≥ 2 := Nat.succ_le_succ again
  have above : ¬resp < 25 := by omega
  simp [execLossSensorTestEnd, runs, testing, high, above, second, healthy]

end TestEnd

variable {r : Req}

theorem lossConfig_body {c : LossCfg}
    (hc : c = { mode := u8 r.payload 0, range := u8 r.payload 1, thr := u16 r.payload 2, ringdown := u16 r.payload 4,
                rel := u16 r.payload 6, dead := u16 r.payload 8, w := u8 r.payload 10, minScore := u8 r.payload 11,
                testMs := u16 r.payload 12 })
    (ok : c.mode ≤ 2 ∧ c.range ≤ 1 ∧ 16 ≤ c.thr ∧ c.thr ≤ 8191 ∧ 20 ≤ c.ringdown ∧ c.ringdown ≤ 2000 ∧ 10 ≤ c.rel ∧
      c.rel ≤ 90 ∧ 25 ≤ c.dead ∧ c.dead ≤ 500 ∧ 1 ≤ c.w ∧ c.w ≤ 100 ∧ c.minScore ≤ 127 ∧
      (c.testMs = 0 ∨ (100 ≤ c.testMs ∧ c.testMs ≤ 10000))) :
    verbLossConfig.body r s = ((s.modLoss r.inst (fun x => { x with pendCfg := some c })).dirty, stDone, []) := by
  subst hc
  exact if_pos ok

/-- A set that is loaded and valid waits for the next boundary. -/
theorem lossTemplates_body {l : List Template} (region : s.regionCheck r.win (u8 r.payload 0) 2112 = none)
    (noneWaits : (s.lossCh r.inst).pendTpl = none)
    (hl : l = (List.range 8).map (templateOf (s.regionRead r.win (u8 r.payload 0) 0 2112))) (ok : l.all Template.ok = true) :
    verbLossTemplates.body r s =
      (((s.regionDone r.win (u8 r.payload 0) r.tag 2112 false).modLoss r.inst (fun x =>
        { x with pendTpl := some l, pendTplOp := { win := r.win, tag := r.tag } })).dirty, stAccepted, []) := by
  subst hl
  simp only [verbLossTemplates, region, noneWaits, ok, Option.isSome_none, Bool.false_eq_true, ↓reduceIte]

/-- A capture without a margin, its region large enough, begins. -/
theorem lossSnip_body {p : List Byte} (hp : p = r.payload) (noneOpen : (s.lossCh r.inst).snip = none) (sel : u8 p 1 ≤ 3)
    (low : 1 ≤ u16 p 2) (high : u16 p 2 ≤ 8192) (every : 1 ≤ u8 p 5)
    (region : s.regionCheck r.win (u8 p 0) (2048 * u16 p 2) = none) :
    verbLossSnip.body r s =
      ((s.regionBegin r.win (u8 p 0) r.tag true).modLoss r.inst (fun x =>
        { x with snip := some { op := { win := r.win, tag := r.tag }, desc := u8 p 0, sel := u8 p 1, count := u16 p 2,
                                margin := u8 p 4, every := u8 p 5 } }), stAccepted, []) := by
  subst hp
  have noMargin : (u8 r.payload 1 != 4) = true := bne_iff_ne.mpr (by omega)
  have known : u8 r.payload 1 ≤ 4 := by omega
  simp only [verbLossSnip, noneOpen, noMargin, known, low, high, every, region, and_self, decide_true, Bool.true_or,
    Bool.and_self, Bool.not_true, Option.isSome_none, Bool.false_eq_true, ↓reduceIte]

end LossRows

/-- Settles O52: each row's command under its conditions is given by its row's lemma; a verb's effect is that on the offered
state, whose channels are those of `s`. -/
theorem lossRowsComplete : Obligations.LossRowsComplete := by
  refine ⟨?strike, ?skipped, ?merged, ?blanked, ?strikeEnd, ?binClose, ?test, ?passed, ?opened, ?status, ?config, ?templates,
    ?snip⟩
  case strike =>
    intro s a ch x settled on idle reached untested elapsed free
    exact execLossStrikeOnset_strike settled on idle reached untested elapsed free
  case skipped =>
    rintro s a _ ch x p settled on idle reached untested elapsed capture recorded rfl
    exact execLossStrikeOnset_skipped settled on idle reached untested elapsed capture recorded
  case merged =>
    intro s a ch x settled on idle reached untested dead
    exact execLossStrikeOnset_merged settled on idle reached untested dead
  case blanked =>
    intro s a ch x settled on idle reached testing
    exact execLossStrikeOnset_blanked settled on idle reached testing
  case strikeEnd =>
    intro s a b ch n samples l k runs striking hn ha hl hk hb
    exact (execLossStrikeEnd_striking runs striking hn ha hl hk hb :)
  case binClose => exact fun s fitted runs => execLossBinClose_running fitted runs
  case test =>
    intro s a ch on interval untested due idle elapsed
    exact execLossSensorTest_idle on interval untested due idle elapsed
  case passed =>
    exact fun s ch resp runs testing low high healthy => execLossSensorTestEnd_passed runs testing low high healthy
  case opened =>
    exact fun s ch resp runs testing high again healthy => execLossSensorTestEnd_open runs testing high again healthy
  case status =>
    intro s r h
    have channel : (s.offered verbLossStatus r).lossCh r.inst = s.lossCh r.inst := by simp only [State.offered_leaves]
    exact row_eq h (by rw [← channel]; rfl) (by decide)
  case config =>
    rintro s r _ h rfl mode range thr thr' ringdown ringdown' rel rel' dead dead' w w' minScore testMs
    exact row_eq h (lossConfig_body rfl ⟨mode, range, thr, thr', ringdown, ringdown', rel, rel', dead, dead', w, w', minScore,
      testMs⟩) (by decide)
  case templates =>
    rintro s _ r l h rfl region noneWaits hl ok
    exact row_eq h (lossTemplates_body region (by simpa only [Verb.req_inst, State.offered_leaves] using noneWaits) hl ok)
      (by decide)
  case snip =>
    intro s r p h hp noneOpen sel low high every region
    exact row_eq h (lossSnip_body hp noneOpen sel low high every region) (by decide)

/-! ### Host-assisted acquisition (04 R119, R120) -/

section HostAcquisition

variable {s : State} {u : Nat} {r : Req}

/-- The buffer that an X.HOSTBUF names: its two descriptors in its window. -/
def hostBufOf (r : Req) : HostBuf := { set := true, win := r.win, tag := r.tag, a := u8 r.payload 0, b := u8 r.payload 1 }

/-- X.HOSTBUF sets the unit's buffer where no instance is host-assisted or about to be and both descriptors are usable. -/
theorem hostbuf_body
    (hardware : (List.range (senseCount u)).any (fun i =>
      s.isHost (hostKey u 0 i) || (s.hostFn (hostKey u 0 i)).pending == some true) = false)
    (even : s.regionCheck r.win (u8 r.payload 0) 0 = none) (odd : s.regionCheck r.win (u8 r.payload 1) 0 = none) :
    (verbHostbuf u).body r s =
      ((s.modSense (fun x => { x with bufs := tset HostBuf.reset x.bufs u (hostBufOf r) })).dirty, stDone, []) := by
  simp only [verbHostbuf, hardware, even, odd, hostBufOf, Bool.false_eq_true, ↓reduceIte]

/-- The row of X.HOSTBUF, of whichever unit: the offer of a command leaves the host-assisted functions. -/
theorem hostbuf_row (h : s.serves (verbHostbuf u) r = true)
    (hardware : (List.range (senseCount u)).any (fun i =>
      s.isHost (hostKey u 0 i) || (s.hostFn (hostKey u 0 i)).pending == some true) = false)
    (even : (s.offered (verbHostbuf u) r).regionCheck r.win (u8 r.payload 0) 0 = none)
    (odd : (s.offered (verbHostbuf u) r).regionCheck r.win (u8 r.payload 1) 0 = none) :
    mailboxRow (verbHostbuf u) r s = .next
      ((((s.offered (verbHostbuf u) r).modSense (fun x =>
        { x with bufs := tset HostBuf.reset x.bufs u (hostBufOf r) })).dirty).replied s (verbHostbuf u) r stDone []) := by
  obtain ⟨-, hostFn, isHost, -⟩ := offered_reads s (verbHostbuf u) r
  exact row_eq h (hostbuf_body (by simpa only [hostFn, isHost] using hardware) even odd) (by decide)

/-- A unit's block at a period end. -/
theorem execHostBlockWrite_period {loss : List (Nat × List Int)} {par : Nat × Nat × Nat × Nat} {insts : List Nat}
    {b : HostBuf} {k : Nat} {blk : List Byte} {o : State} (hpar : sensePar u = some par)
    (hb : b = tget HostBuf.reset s.sensing.bufs u) (runs : s.running u 0 = true) (buffer : b.set = true)
    (assisted : (List.range (senseCount u)).any (fun i => s.isHost (hostKey u 0 i)) = true)
    (ho : o = s.boundary (42 + 1000 * u) par.1 0)
    (hinsts : insts = (List.range (senseCount u)).filter (fun i =>
      o.isHost (hostKey u 0 i) && decide ((o.hostFn (hostKey u 0 i)).pendingAt < o.hw)))
    (taken : insts.isEmpty = false) (hk : k = (tget 0 o.sensing.blockK u + 1) % 2 ^ 32)
    (hblk : blk = (b32 k ++ b32 0 ++ b64 (o.hw - par.1) ++ b64 o.hw ++ b64 (bitSet insts) ++ b16 par.2.2.1 ++ b16 par.2.2.2 ++
      b32 (par.2.2.1 * par.2.2.2) ++ zeros 24) ++ insts.flatMap (fun i => o.senseSection u i loss)) :
    execHostBlockWrite u loss s = .next
      (let d := if k % 2 = 0 then b.a else b.b
       let q := insts.foldl (fun (t : State) i => t.sensePeriod u k par.1 par.2.1 i)
         (((o.regionWrite b.win d 0 blk).regionDone b.win d b.tag blk.length true).modSense (fun x =>
           { x with blockK := tset 0 x.blockK u k }))
       if u = 0x13 then insts.foldl (fun (t : State) i => t.modFreq i (fun c => { c with hEdges := 0, hCount := 0 })) q
       else q) := by
  obtain ⟨period, deadline, samples, bytes⟩ := par
  subst ho
  simp only [execHostBlockWrite, hpar, ← hb, runs, buffer, assisted, ← hinsts, taken, ← hk, ← hblk, Bool.and_self,
    Bool.not_true, Bool.false_eq_true, ↓reduceIte]

/-- The instance that gives a block's sample instant rests on the host-assisted functions, which the offer leaves. -/
theorem offered_blockInst (s : State) (v : Verb) (r : Req) (u now : Nat) (l : List Nat) :
    (s.offered v r).blockInst u now l = s.blockInst u now l := by
  obtain ⟨-, hostFn, isHost, -⟩ := offered_reads s v r
  simp only [State.blockInst, hostFn, isHost]

/-- The row of X.RESULT, of whichever unit: entries in order that come in time are applied to their instances. -/
theorem result_row {h : HostFn} {is : List Nat} {es : List SenseEntry} (served : s.serves (verbResult u) r = true)
    (entries : es = senseEntries r.payload) (begun : tget 0 s.sensing.blockK u ≠ 0) (named : u32 r.payload 0 ≠ 0)
    (written : u32 r.payload 0 ≤ tget 0 s.sensing.blockK u) (recent : tget 0 s.sensing.blockK u ≤ u32 r.payload 0 + 1)
    (owned : (es.map (fun e => (s.offered (verbResult u) r).senseOwner u r.win e.id)).all Option.isSome = true)
    (distinct : (es.map SenseEntry.id).eraseDups.length = es.length) (finite : es.all (fun e => fFinite e.value) = true)
    (his : is = ((es.map (fun e => (s.offered (verbResult u) r).senseOwner u r.win e.id)).filterMap id).eraseDups)
    (hh : h = s.hostFn (hostKey u 0 (s.blockInst u (tget 0 s.sensing.blockK u) is)))
    (inTime : s.hw < (if u32 r.payload 0 = tget 0 s.sensing.blockK u then h.due else if h.prev then h.ptk + h.pd
      else h.tk - (tget 0 s.sensing.blockK u - u32 r.payload 0) * h.period + h.d)) :
    mailboxRow (verbResult u) r s = .next
      ((is.foldl (fun (a : State) i => a.senseApply u (u32 r.payload 0 == tget 0 s.sensing.blockK u)
        (h.tk - (tget 0 s.sensing.blockK u - u32 r.payload 0) * h.period) es i) (s.offered (verbResult u) r)).replied s
        (verbResult u) r stDone []) := by
  obtain ⟨-, hostFn, -⟩ := offered_reads s (verbResult u) r
  have inst := offered_blockInst s (verbResult u) r u
  have sensing : (s.offered (verbResult u) r).sensing = s.sensing := by simp only [State.offered_leaves]
  have now := offered_hw s (verbResult u) r
  refine row_eq served ?_ (by decide)
  subst entries
  generalize s.offered (verbResult u) r = t at *
  simp only [verbResult, Verb.req_payload, Verb.req_win, sensing, inst, hostFn, now, ← his, ← hh, begun, named, owned,
    distinct, finite, Nat.not_lt_of_le written, Nat.not_lt_of_le recent, Nat.not_le_of_lt inTime, gt_iff_lt, ge_iff_le,
    ne_eq, not_true_eq_false, Bool.not_true, Bool.false_eq_true, or_self, ↓reduceIte]

end HostAcquisition

/-- Settles O53: each unit's X.HOSTBUF and X.RESULT are one row over the unit's number, and the block is its row's lemma. -/
theorem hostAcquisitionRowsComplete : Obligations.HostAcquisitionRowsComplete := by
  refine ⟨fun _ _ => hostbuf_row, fun _ _ => hostbuf_row, fun _ _ => hostbuf_row, fun _ _ => hostbuf_row, ?block,
    fun _ _ _ _ _ => result_row, fun _ _ _ _ _ => result_row, fun _ _ _ _ _ => result_row, fun _ _ _ _ _ => result_row⟩
  intro s unit loss par insts b k blk o hpar hb runs buffer assisted ho hinsts taken hk hblk
  exact execHostBlockWrite_period hpar hb runs buffer assisted ho hinsts taken hk hblk

/-! ### Bridges (04 R107-R109) -/

section BridgeRows

variable {s : State} {ch : Nat} {r : Req}

theorem execBridgeSample_running (samples : List (Nat × F32 × F32 × F32)) (runs : s.running 0x11 0 = true) :
    execBridgeSample samples s = .next (samples.foldl State.bridgeSample (s.boundary 43 250000 0)) := by
  simp only [execBridgeSample, runs, ↓reduceIte]

section Excited

variable (runs : s.running 0x11 0 = true) (hch : ch < 8) (excited : (s.bridgeCh ch).exc ≠ 0)
include runs hch excited

/-- Over its limit the excitation is switched off. -/
theorem execBridgeExcFault_exceeded {cur : Nat} (on : (s.bridgeCh ch).excOff = false) (limit : (s.bridgeCh ch).limit < cur) :
    execBridgeExcFault ch cur s = .next
      (let u := (s.modBridge ch (fun c => { c with excOff := true })).raiseEv 0x11 ch (20 + ch) 0x1010 3 ch cur 0 0
       if u.isHost (hostKey 0x11 0 ch) then u else u.modFlags (0x40 + ch) faultFlags) := by
  simp only [execBridgeExcFault, runs, beq_eq_false_iff_ne.mpr excited, on, ge_iff_le, Nat.not_le_of_lt hch,
    Nat.not_le_of_lt limit, decide_false, Bool.not_true, Bool.or_self, Bool.false_eq_true, ↓reduceIte]

/-- A common mode outside 30-70 % of the excitation raises BRIDGE/SENSE_OPEN. -/
theorem execBridgeSenseOpen_outside {cm : Nat} (connected : (s.bridgeCh ch).senseOpen = false) (outside : cm < 30 ∨ 70 < cm) :
    execBridgeSenseOpen ch cm s = .next
      (let u := (s.modBridge ch (fun c => { c with senseOpen := true })).raiseEv 0x11 ch (20 + ch) 0x1011 3 ch cm 0 0
       if u.isHost (hostKey 0x11 0 ch) then u else u.modFlags (0x40 + ch) faultFlags) := by
  have notInside : decide (30 ≤ cm ∧ cm ≤ 70) = false := decide_eq_false (by omega)
  simp only [execBridgeSenseOpen, runs, beq_eq_false_iff_ne.mpr excited, connected, notInside, ge_iff_le,
    Nat.not_le_of_lt hch, decide_false, Bool.not_true, Bool.not_false, Bool.or_self, Bool.and_self, Bool.false_eq_true,
    ↓reduceIte]

/-- Back inside it ends. -/
theorem execBridgeSenseOpen_inside {cm : Nat} (opened : (s.bridgeCh ch).senseOpen = true) (low : 30 ≤ cm) (high : cm ≤ 70) :
    execBridgeSenseOpen ch cm s = .next
      ((s.modBridge ch (fun c => { c with senseOpen := false })).clearFault 0x1011 0x11 ch) := by
  simp only [execBridgeSenseOpen, runs, beq_eq_false_iff_ne.mpr excited, opened, low, high, ge_iff_le, Nat.not_le_of_lt hch,
    decide_false, decide_true, and_self, Bool.not_true, Bool.or_self, Bool.and_self, Bool.false_eq_true, ↓reduceIte]

theorem execBridgeOverrange_due {t : Nat} (inRange : (s.bridgeCh ch).overR = false)
    (since : (s.bridgeCh ch).overSince = some t) :
    execBridgeOverrange ch s = .next
      (((s.waitTo (t + 100000000)).modBridge ch (fun c => { c with overR := true })).raiseEv 0x11 ch (20 + ch) 0x1012 2 ch
        (s.bridgeCh ch).ratio.toNat 0 0) := by
  simp only [execBridgeOverrange, runs, beq_eq_false_iff_ne.mpr excited, inRange, since, ge_iff_le, Nat.not_le_of_lt hch,
    decide_false, Bool.not_true, Bool.or_self, Bool.false_eq_true, ↓reduceIte]

end Excited

/-- With no tare in progress the configuration is taken; excitation off ends the conditions that rest on it. -/
theorem bridgeConfig_body {p : List Byte} (hp : p = r.payload) (noTare : (s.bridgeCh r.inst).tareOp = none)
    (ok : u8 p 0 ≤ 2 ∧ u8 p 1 ≤ 2 ∧ u8 p 2 ≤ 3 ∧ fFinite (f32 p 4) = true ∧ (!fEq (f32 p 4) fZero) = true ∧
      fFinite (f32 p 8) = true ∧ 10 ≤ u16 p 12 ∧ u16 p 12 ≤ 60) :
    verbBridgeConfig.body r s =
      (let a := (s.modBridge r.inst (fun c =>
         { c with exc := u8 p 0, range := u8 p 1, filter := u8 p 2, scale := f32 p 4, offset := f32 p 8, limit := u16 p 12,
                  excOff := false, ratios := [], overSince := none })).clearFault 0x1010 0x11 r.inst
       (if u8 p 0 = 0 then
          (((a.modBridge r.inst (fun c => { c with senseOpen := false, overR := false })).clearFault 0x1011 0x11
            r.inst).clearFault 0x1012 0x11 r.inst).zeroSigs (0x40 + r.inst) (0x40 + r.inst)
        else a).dirty, stDone, []) := by
  subst hp
  simp only [verbBridgeConfig, ok, State.tareEnd, noTare, and_self, ↓reduceIte]

/-- A tare of enough conversions begins where none is in progress. -/
theorem bridgeTare_body (enough : 16 ≤ u16 r.payload 0) (noTare : (s.bridgeCh r.inst).tareOp = none) :
    verbBridgeTare.body r s =
      ((s.modBridge r.inst (fun c =>
        { c with tareOp := some { op := { win := r.win, tag := r.tag }, want := u16 r.payload 0, values := [] } })).dirty,
       stAccepted, []) := by
  simp only [verbBridgeTare, Nat.not_lt_of_le enough, noTare, Option.isSome_none, Bool.false_eq_true, ↓reduceIte]

end BridgeRows

/-! ### Analog inputs (04 R110, R111) -/

section AnalogRows

variable {s : State} {ch : Nat} {r : Req}

/-- The inputs are converted, and at a multiple of 1 ms the supplies' currents are shown. -/
theorem execAinSample_running {codes : List (Nat × Nat)} (sup : List (Nat × Nat)) {a : State} {start : Nat}
    (runs : s.running 0x12 0 = true) (ha : a = s.boundary 52 500000 470000) (hstart : start = a.hw - 470000) :
    execAinSample codes sup s = .next
      (let b := codes.foldl (State.ainConvert start) a
       if start % 1000000 = 0 ∧ b.running 0x14 0 then
         sup.foldl (fun (t : State) e => if e.1 < 6 then t.setSig (0x78 + e.1) (fFrac e.2 1000) start fgValid else t) b
       else b) := by
  have still : a.running 0x12 0 = true := ha ▸ runs
  simp only [execAinSample, runs, ← ha, ← hstart, still, Bool.true_or, Bool.not_true, Bool.false_eq_true, ↓reduceIte]

section Diagnosed

variable {t : Nat} (runs : s.running 0x12 0 = true) (hch : ch < 48)
include runs hch

section Limits

variable (ranged : (s.ainCh ch).range ≠ 0) (undiagnosed : (s.ainCh ch).diag = 0)
include ranged undiagnosed

theorem execAinDiag_low (since : (s.ainCh ch).lowSince = some t) :
    execAinDiag ch s = .next
      (let u := ((s.waitTo (t + (s.ainCh ch).diagMs * 1000000)).modAin ch (fun c => { c with diag := 1 })).raiseEv 0x12 ch
         (ainSrc ch) 0x1020 2 ch (s.ainCh ch).value.toNat ((s.ainCh ch).low.getD fZero).toNat 0
       if u.isHost (hostKey 0x12 0 ch) then u else u.modFlags ch faultFlags) := by
  simp only [execAinDiag, runs, beq_eq_false_iff_ne.mpr ranged, undiagnosed, since, ge_iff_le, Nat.not_le_of_lt hch,
    decide_false, Bool.not_true, Bool.or_self, Bool.false_eq_true, ne_eq, not_true_eq_false, Nat.zero_ne_one, ↓reduceIte]

theorem execAinDiag_high (notLow : (s.ainCh ch).lowSince = none) (since : (s.ainCh ch).highSince = some t) :
    execAinDiag ch s = .next
      (let u := ((s.waitTo (t + (s.ainCh ch).diagMs * 1000000)).modAin ch (fun c => { c with diag := 2 })).raiseEv 0x12 ch
         (ainSrc ch) 0x1021 2 ch (s.ainCh ch).value.toNat ((s.ainCh ch).high.getD fZero).toNat 0
       if u.isHost (hostKey 0x12 0 ch) then u else u.modFlags ch faultFlags) := by
  simp only [execAinDiag, runs, beq_eq_false_iff_ne.mpr ranged, undiagnosed, notLow, since, ge_iff_le, Nat.not_le_of_lt hch,
    decide_false, Bool.not_true, Bool.or_self, Bool.false_eq_true, ne_eq, not_true_eq_false, OfNat.zero_ne_ofNat, ↓reduceIte]

end Limits

/-- The shunt of a 4-20 mA input is disconnected 10 ms after the current rose above 25 mA. -/
theorem execAinShuntOff_due (ranged : (s.ainCh ch).range = 4) (connected : (s.ainCh ch).shuntOff = false)
    (good : s.supBad (s.ainCh ch).link = false) (since : (s.ainCh ch).shuntSince = some t) :
    execAinShuntOff ch s = .next
      (let u := s.waitTo (t + 10000000)
       (u.modAin ch (fun c => { c with shuntOff := true, shuntAt := u.hw, shuntSince := none })).raiseEv 0x12 ch (ainSrc ch)
         0x1022 3 ch ((s.ainCh ch).shuntPeak * 300 / 65535) 0 0) := by
  simp only [execAinShuntOff, runs, ranged, connected, good, since, ge_iff_le, Nat.not_le_of_lt hch, decide_false,
    bne_self_eq_false, Bool.not_true, Bool.or_self, Bool.false_eq_true, ↓reduceIte]

end Diagnosed

theorem execAinShuntReconnect_off (runs : s.running 0x12 0 = true) (off : (s.ainCh ch).shuntOff = true) :
    execAinShuntReconnect ch s = .next
      (((s.waitTo ((s.ainCh ch).shuntAt + 1000000000)).modAin ch (fun c => { c with shuntOff := false })).clearFault
        0x1022 0x12 ch) := by
  simp only [execAinShuntReconnect, runs, off, Bool.not_true, Bool.or_self, Bool.false_eq_true, ↓reduceIte]

theorem ainConfig_body {p : List Byte} (hp : p = r.payload)
    (ok : u8 p 0 ≤ 5 ∧ 1 ≤ u8 p 1 ∧ u8 p 1 ≤ 64 ∧ (u8 p 2 ≤ 5 ∨ u8 p 2 = 255) ∧ 1 ≤ u16 p 12 ∧ u16 p 12 ≤ 10000) :
    verbAinConfig.body r s =
      (let n := (((s.modSense (fun x => { x with ain := tset AinCh.reset x.ain r.inst { AinCh.reset with
           range := u8 p 0, avg := u8 p 1, link := u8 p 2, lo := f32 p 4, hi := f32 p 8, diagMs := u16 p 12 } })).clearFault
           0x1020 0x12 r.inst).clearFault 0x1021 0x12 r.inst).clearFault 0x1022 0x12 r.inst
       (if u8 p 0 = 0 then n.zeroSigs r.inst r.inst else n).dirty, stDone, []) := by
  subst hp
  exact if_pos ok

end AnalogRows

/-- Settles O54: each row's command under its conditions is given by its row's lemma, off which the state of the reconnected
shunt is read. -/
theorem bridgeAnalogRowsComplete : Obligations.BridgeAnalogRowsComplete := by
  refine ⟨?bridgeSample, ?excFault, ?senseOpen, ?senseBack, ?overrange, ?bridgeConfig, ?tare, ?status, ?converted, ?supplies,
    ?diagLow, ?diagHigh, ?shuntOff, ?reconnect, ?ainConfig⟩
  case bridgeSample => exact fun s samples runs => execBridgeSample_running samples runs
  case excFault => exact fun s ch cur runs hch excited on limit => execBridgeExcFault_exceeded runs hch excited on limit
  case senseOpen =>
    exact fun s ch cm runs hch excited connected outside => execBridgeSenseOpen_outside runs hch excited connected outside
  case senseBack =>
    exact fun s ch cm runs hch excited opened low high => execBridgeSenseOpen_inside runs hch excited opened low high
  case overrange =>
    exact fun s ch t runs hch excited inRange since => execBridgeOverrange_due runs hch excited inRange since
  case bridgeConfig =>
    intro s r p h hp exc range filter finite nonzero offset low high noTare
    have effect := bridgeConfig_body (s := s.offered verbBridgeConfig r) (r := verbBridgeConfig.req r) hp noTare
      ⟨exc, range, filter, finite, by simpa using nonzero, offset, low, high⟩
    refine (row_eq h effect (by decide)).trans ?_
    split <;> rfl
  case tare =>
    intro s r h enough noTare
    exact row_eq h (bridgeTare_body enough (by simpa only [Verb.req_inst, State.offered_leaves] using noTare)) (by decide)
  case status =>
    intro s r h
    have channel : (s.offered verbBridgeStatus r).bridgeCh r.inst = s.bridgeCh r.inst := by simp only [State.offered_leaves]
    exact row_eq h (by rw [← channel]; rfl) (by decide)
  case converted =>
    intro s codes sup runs odd
    exact (execAinSample_running sup runs rfl rfl).trans (congrArg _ (if_neg (fun h => odd h.1)))
  case supplies =>
    intro s codes sup runs even supplied
    exact (execAinSample_running sup runs rfl rfl).trans (congrArg _ (if_pos ⟨even, supplied⟩))
  case diagLow => exact fun s ch t runs hch ranged since undiagnosed => execAinDiag_low runs hch ranged undiagnosed since
  case diagHigh =>
    exact fun s ch t runs hch ranged notLow since undiagnosed => execAinDiag_high runs hch ranged undiagnosed notLow since
  case shuntOff =>
    exact fun s ch t runs hch ranged connected good since => execAinShuntOff_due runs hch ranged connected good since
  case reconnect =>
    intro s ch runs off
    obtain ⟨t, row, frame⟩ := execAinShuntReconnect_frame ch s
    obtain rfl := Host.Outcome.next.inj (row.symm.trans (execAinShuntReconnect_off runs off))
    refine ⟨_, row, ?_, ?_, clearFault_stands _ _ _ _, frame_exec frame rfl⟩
    · simp only [State.clearFault_leaves, State.modAin_ainCh]
    · simp only [State.clearFault_leaves, State.modAin_leaves, State.waitTo_hw]
  case ainConfig =>
    intro s r p h hp range avg avg' link diag diag'
    exact row_eq h (ainConfig_body hp ⟨range, avg, avg', link, diag, diag'⟩) (by decide)

/-! ### Frequency inputs (04 R112-R116) -/

section FrequencyRows

variable {s : State} {ch : Nat} {r : Req}

/-- A unit that runs is not off. -/
theorem phase_ne_off_of_running {u inst : Nat} (h : s.running u inst = true) : (s.unitSt u inst).phase ≠ .off := by
  intro off
  simp [State.running, off] at h

/-- What a marked edge leaves: the comparator's term follows it, and a running unit counts it. -/
def State.edgeMarked (s : State) (ch peak : Nat) (runs : Bool) : State :=
  let c := s.freqCh ch
  let b := s.modFreq ch (fun y =>
    { y with tLast := s.hw, cmpSeen := true, seen := true, peak := peak,
             term := if c.cmpSeen then c.edgeTerm (s.hw - c.tLast) else c.term })
  if runs then b.modFreq ch (fun y =>
    { y with edges := y.edges + 1, firstEdge := if y.hEdges = 0 then b.hw else y.firstEdge,
             hEdges := (y.hEdges + 1) % 2 ^ 32 })
  else b

section Edge

variable {a : State} {peak : Nat} {rising both : Bool} (hch : ch < 16) (marks : (a.freqCh ch).marks ch peak rising = true)
include hch marks

/-- An edge of an input that is none of a quadrature pair. -/
theorem execFreqEdge_single (on : (s.unitSt 0x13 0).phase ≠ .off) (single : (s.freqCh (ch / 2 * 2)).type ≠ 2)
    (ha : a = s.levelStep ch rising both) (configured : (a.freqCh ch).type ≠ 0) :
    execFreqEdge ch peak rising both s = .next (a.edgeMarked ch peak (s.running 0x13 0)) := by
  subst ha
  simp only [execFreqEdge, State.edgeMarked, beq_eq_false_iff_ne.mpr on, beq_eq_false_iff_ne.mpr single,
    beq_eq_false_iff_ne.mpr configured, marks, ge_iff_le, Nat.not_le_of_lt hch, decide_false, Bool.not_false, Bool.not_true,
    Bool.or_self, Bool.and_false, Bool.false_and, Bool.false_eq_true, ↓reduceIte]

/-- An edge of a pair's even input moves the count before the levels. -/
theorem execFreqEdge_pair (runs : s.running 0x13 0 = true) (even : ch / 2 * 2 = ch) (pair : (s.freqCh ch).type = 2)
    (ha : a = (s.quadStep ch true rising both).levelStep ch rising both) :
    execFreqEdge ch peak rising both s = .next (a.edgeMarked ch peak true) := by
  subst ha
  simp only [execFreqEdge, State.edgeMarked, runs, beq_eq_false_iff_ne.mpr (phase_ne_off_of_running runs), even, pair, marks,
    ge_iff_le, Nat.not_le_of_lt hch, decide_false, beq_self_eq_true, bne_self_eq_false, Bool.not_true, Bool.or_self,
    Bool.and_self, Bool.and_false, Bool.false_and, Bool.false_eq_true, ↓reduceIte]

end Edge

/-- At the end of a gate with edges the rate is theirs. -/
theorem execFreqGateEnd_edges {u v : State} {c : FreqCh} {f : F32} {flt : Bool} (runs : s.running 0x13 0 = true)
    (hch : ch < 16) (hc : c = s.freqCh ch) (configured : c.type ≠ 0) (even : s.quadOdd ch = false)
    (hu : s.boundary (60 + 1000 * ch) (c.gateMs * 1000000) 0 = u) (edges : c.edges ≠ 0)
    (hf : f = fFrac (c.edges * 1000000000 : Nat) (c.tLast - c.tRef))
    (hv : v = u.modFreq ch (fun y => { y with f := f, edges := 0, tRef := y.tLast }))
    (hflt : flt = (c.wiring != 0 || (c.type == 2 && (v.freqCh (ch + 1)).wiring != 0) || v.supDown c.link))
    (hardware : v.isHost (hostKey 0x13 0 ch) = false) :
    execFreqGateEnd ch s = .next
      (let w := v.setSig (0x30 + ch) (fMul (if c.type = 2 ∧ c.dirNeg then fNeg f else f) c.scale) c.tLast
         (flagsOf (!flt) false false flt false false)
       if c.type = 2 then w.setSig (0x31 + ch) (fInt c.count) c.tLast (flagsOf (!flt) false false flt false false)
       else w) := by
  simp only [execFreqGateEnd, runs, ← hc, beq_eq_false_iff_ne.mpr configured, even, hu, beq_eq_false_iff_ne.mpr edges,
    ge_iff_le, Nat.not_le_of_lt hch, decide_false, ← hf, Bool.not_true, Bool.not_false, Bool.or_self, Bool.true_or,
    Bool.and_true, Bool.false_eq_true, ↓reduceIte, ← hv, ← hflt, hardware]

theorem execFreqComparatorTimeout_above (on : (s.unitSt 0x13 0).phase ≠ .off) (hch : ch < 16)
    (configured : (s.freqCh ch).type ≠ 0) (above : (s.freqCh ch).sense = 1) (term : (s.freqCh ch).term = true) :
    execFreqComparatorTimeout ch s = .next
      ((s.waitTo (((s.freqCh ch).tLast + rateLimit (s.freqCh ch).thr (100 - (s.freqCh ch).h)) / 4 * 4 + 4)).modFreq ch
        (fun c => { c with term := c.sense == 2 })) := by
  simp only [execFreqComparatorTimeout, beq_eq_false_iff_ne.mpr on, beq_eq_false_iff_ne.mpr configured, above, term,
    ge_iff_le, Nat.not_le_of_lt hch, decide_false, Nat.reduceBEq, beq_false, Bool.not_true, Bool.or_self, Bool.false_eq_true,
    ↓reduceIte]

/-- A second failed check of an input whose wiring was good raises FREQ/WIRING. -/
theorem execFreqWiringCheck_failed {u : State} {mv : Nat} {bias : Bool} (runs : s.running 0x13 0 = true) (hch : ch < 16)
    (even : s.quadOdd ch = false) (configured : (s.freqCh ch).type ≠ 0) (hu : u = s.boundary (62 + 1000 * ch) 100000000 0)
    (supplied : u.supBad (s.freqCh ch).link = false) (bad : u.wiringKind ch (s.freqCh ch).link mv bias ≠ 0)
    (good : (s.freqCh ch).wiring = 0) (again : (s.freqCh ch).wireRun ≥ 1) :
    execFreqWiringCheck ch mv bias s = .next
      (let k := u.wiringKind ch (s.freqCh ch).link mv bias
       let x := ((u.modFreq ch (fun c => { c with wireRun := c.wireRun + 1 })).modFreq ch (fun c =>
         { c with wiring := k })).raiseEv 0x13 ch (freqSrc ch) 0x1030 3 ch k mv 0
       if x.isHost (hostKey 0x13 0 ch) then x
       else (x.freqSigs ch).foldl (fun (a : State) id => a.modFlags id faultFlags) x) := by
  have second : (s.freqCh ch).wireRun + 1 ≥ 2 := Nat.succ_le_succ again
  have input : u.freqCh ch = s.freqCh ch := by rw [hu]; simp only [State.boundary_leaves]
  simp only [execFreqWiringCheck, runs, even, beq_eq_false_iff_ne.mpr configured, ← hu, input, supplied, bad, good, second,
    ge_iff_le, Nat.not_le_of_lt hch, decide_false, Bool.not_true, Bool.or_self, Bool.false_eq_true, and_self, ↓reduceIte]

/-- A frequency input of type 1 that was none of a quadrature pair starts anew. -/
theorem freqConfig_body_single {p : List Byte} (hp : p = r.payload)
    (free : ¬(r.inst % 2 = 1 ∧ (s.freqCh (r.inst - 1)).type = 2)) (single : u8 p 0 = 1)
    (wasSingle : (s.freqCh r.inst).type ≠ 2)
    (own : (if r.inst < 8 then u8 p 2 == 0 && decide (2 ≤ u8 p 3 ∧ u8 p 3 ≤ 50)
      else decide (u8 p 1 ≤ 2 ∧ u8 p 2 ≤ 1 ∧ u8 p 3 ≤ 1)) = true)
    (ok : 1 ≤ u16 p 4 ∧ u16 p 4 ≤ 100 ∧ 1 ≤ u16 p 6 ∧ u16 p 6 ≤ 100 ∧ fFinite (f32 p 8) = true ∧
      (!fEq (f32 p 8) fZero) = true ∧ fLe (fFrac 1 10) (f32 p 12) = true ∧ fLe (f32 p 12) (fNat 50000) = true ∧
      u8 p 16 ≤ 2 ∧ u8 p 17 ≤ 50 ∧ (u8 p 18 ≤ 5 ∨ u8 p 18 = 255)) :
    verbFreqConfig.body r s =
      ((((s.modSense (fun x => { x with freq := tset FreqCh.reset x.freq r.inst { FreqCh.reset with
          type := u8 p 0, edge := u8 p 1, hyst := u8 p 2, pull := u8 p 3, gateMs := u16 p 4, timeoutDs := u16 p 6,
          scale := f32 p 8, thr := f32 p 12, sense := u8 p 16, h := u8 p 17, link := u8 p 18, tLast := s.hw, tRef := s.hw,
          levelA := (s.freqCh r.inst).levelA } })).clearFault 0x1030 0x13 r.inst).clearFault 0x1031 0x13 r.inst).dirty,
       stDone, []) := by
  subst hp
  have own' : (if decide (r.inst < 8) = true then u8 r.payload 2 == 0 && decide (2 ≤ u8 r.payload 3 ∧ u8 r.payload 3 ≤ 50)
      else decide (u8 r.payload 1 ≤ 2 ∧ u8 r.payload 2 ≤ 1 ∧ u8 r.payload 3 ≤ 1)) = true := by
    simpa only [decide_eq_true_eq] using own
  simp only [verbFreqConfig, free, single, beq_eq_false_iff_ne.mpr wasSingle, own', ok, Nat.reduceLeDiff, Nat.reduceBEq,
    ne_eq, OfNat.one_ne_ofNat, not_false_eq_true, true_or, and_self, Bool.or_self, Bool.false_eq_true, one_ne_zero,
    ↓reduceIte]

end FrequencyRows

/-! ### Sensor supplies (04 R117, R118) -/

/-- A fold of steps that leave the supplies leaves them. -/
theorem foldl_sup {α : Type} {f : State → α → State} (h : ∀ a x, (f a x).sensing.sup = a.sensing.sup) (l : List α)
    (s : State) : (l.foldl f s).sensing.sup = s.sensing.sup := by
  induction l generalizing s with
  | nil => rfl
  | cons x l ih => rw [List.foldl_cons, ih, h]

/-- The FAULT of a supply's linked inputs changes inputs and signals only. -/
theorem supFaultLinked_sup (s : State) (n : Nat) : (s.supFaultLinked n).sensing.sup = s.sensing.sup := by
  unfold State.supFaultLinked
  rw [foldl_sup, foldl_sup]
  · intro a i
    have flagged : (a.modFlags i faultFlags).sensing.sup = a.sensing.sup := by simp only [State.modFlags_leaves]
    dsimp only
    split
    · exact flagged
    · rfl
  · intro a i
    split
    · rw [foldl_sup (fun b id => by simp only [State.modFlags_leaves])]
      rfl
    · rfl

theorem supFaultLinked_supCh (s : State) (n k : Nat) : (s.supFaultLinked n).supCh k = s.supCh k :=
  congrArg (tget SupCh.reset · k) (supFaultLinked_sup s n)

theorem supFaultLinked_hw (s : State) (n : Nat) : (s.supFaultLinked n).hw = s.hw :=
  congrArg Time.heartwood (time_of_without (m := 48) (State.supFaultLinked_frame s n rfl) rfl)

section SupplyRows

variable {s : State} {n : Nat} {r : Req}

section Running

variable (runs : s.running 0x14 0 = true) (hn : n < 6)
include runs hn

section On

variable {cur ms : Nat} (on : (s.supCh n).on = true)
include on

/-- A limit that has lasted 20 ms switches the supply off. -/
theorem execSupOverload_off (limited : (s.supCh n).limited = true) (atLimit : supLimit n ≤ cur) (long : 20 ≤ ms) :
    execSupOverload n cur ms s = .next
      (let u := s.waitTo ((s.supCh n).limSince + 20 * 1000000)
       (u.modSup n (fun c =>
         { c with on := false, limited := false, fault := 1, suppress := true,
                  retryAt := if c.retryS = 0 then none else some (u.hw + c.retryS * 1000000000) })).raiseEv 0x14 n 38
         0x1040 4 n cur (s.supCh n).retryS 0) := by
  have over20 : ¬(s.waitTo ((s.supCh n).limSince + 20 * 1000000)).hw < (s.supCh n).limSince + 20000000 := by
    simp only [State.waitTo_hw, cycleOf]; omega
  simp only [execSupOverload, runs, on, limited, Nat.not_lt_of_le atLimit, Nat.min_eq_right long, over20, ge_iff_le,
    Nat.not_le_of_lt hn, decide_false, Bool.not_true, Bool.or_self, Bool.false_eq_true, ↓reduceIte]

/-- A supply that comes to its limit is marked, and its linked inputs with it. -/
theorem execSupOverload_begins (free : (s.supCh n).limited = false) (atLimit : supLimit n ≤ cur) :
    execSupOverload n cur 0 s = .next
      (((s.modSup n (fun c => { c with limited := true, limSince := s.hw, suppress := true })).supFaultLinked n).waitTo
        s.hw) := by
  let v := (s.modSup n (fun c => { c with limited := true, limSince := s.hw, suppress := true })).supFaultLinked n
  have since : (v.supCh n).limSince = s.hw := by simp only [v, supFaultLinked_supCh, State.modSup_supCh]
  have short : (v.waitTo s.hw).hw < s.hw + 20000000 := by
    have now : v.hw = s.hw := by simp only [v, supFaultLinked_hw, State.modSup_leaves]
    simp only [State.waitTo_hw, now, cycleOf]; omega
  simp only [execSupOverload, runs, on, free, Nat.not_lt_of_le atLimit, ge_iff_le, Nat.not_le_of_lt hn, decide_false,
    Nat.zero_min, Nat.zero_mul, Nat.add_zero, Bool.not_true, Bool.or_self, Bool.false_eq_true, ↓reduceIte]
  rw [since, if_pos short]

/-- Below its limit the supply is back in regulation. -/
theorem execSupOverload_ends (limited : (s.supCh n).limited = true) (below : cur < supLimit n) :
    execSupOverload n cur ms s = .next (s.modSup n (fun c => { c with limited := false, okAt := s.hw + 50000000 })) := by
  simp only [execSupOverload, runs, on, limited, below, ge_iff_le, Nat.not_le_of_lt hn, decide_false, Bool.not_true,
    Bool.or_self, Bool.false_eq_true, ↓reduceIte]

/-- 50 ms after regulation the linked diagnostics resume and the supply's faults end. -/
theorem execSupRegulationSettled_due (free : (s.supCh n).limited = false) (suppressed : (s.supCh n).suppress = true) :
    execSupRegulationSettled n s = .next
      ((((s.waitTo (s.supCh n).okAt).modSup n (fun c => { c with suppress := false, fault := 0 })).clearFault 0x1040 0x14
        n).clearFault 0x1041 0x14 n) := by
  simp only [execSupRegulationSettled, runs, on, free, suppressed, ge_iff_le, Nat.not_le_of_lt hn, decide_false,
    Bool.not_true, Bool.or_self, Bool.false_eq_true, ↓reduceIte]

end On

theorem execSupBackfed_above {mv : Nat} (new : (s.supCh n).fault ≠ 2) (above : supNominal n * 11 < mv * 10) :
    execSupBackfed n mv s = .next
      (((s.modSup n (fun c => { c with on := false, limited := false, fault := 2, suppress := true,
                                       retryAt := none })).supFaultLinked n).raiseEv 0x14 n 38 0x1041 4 n mv 0 0) := by
  simp only [execSupBackfed, runs, beq_eq_false_iff_ne.mpr new, ge_iff_le, Nat.not_le_of_lt hn, Nat.not_le_of_lt above,
    decide_false, Bool.not_true, Bool.or_self, Bool.false_eq_true, ↓reduceIte]

end Running

theorem execSupRetry_due {t : Nat} (retry : (s.supCh n).retryAt = some t) (runs : s.running 0x14 0 = true) :
    execSupRetry n s = .next
      (let a := s.waitTo t
       a.modSup n (fun c => { c with on := true, retryAt := none, okAt := a.hw + 50000000 })) := by
  simp only [execSupRetry, retry, runs, Bool.not_true, Bool.false_eq_true, ↓reduceIte]

/-- The settings are taken and the faults end; a supply that stays on keeps its linked inputs. -/
theorem supConfig_body {a : State} {en was : Bool} (enable : u8 r.payload 0 ≤ 1) (retry : u16 r.payload 2 ≤ 60)
    (hen : en = (u8 r.payload 0 == 1)) (hwas : was = (s.supCh r.inst).on)
    (ha : a = ((s.modSup r.inst (fun c =>
      { c with enable := en, on := en, retryS := u16 r.payload 2, retryAt := none, fault := 0,
               limited := c.limited && en && was, suppress := c.suppress || !en || !was,
               okAt := if was then c.okAt else s.hw + 50000000 })).clearFault 0x1040 0x14 r.inst).clearFault
      0x1041 0x14 r.inst) :
    verbSupConfig.body r s = ((if en && was then a else a.supFaultLinked r.inst).dirty, stDone, []) := by
  subst ha hen hwas
  exact if_pos ⟨enable, retry⟩

end SupplyRows

/-- Settles O55: each row's command under its conditions is given by its row's lemma; a verb's effect is that on the offered
state, whose supplies are those of `s`. -/
theorem frequencySupplyRowsComplete : Obligations.FrequencySupplyRowsComplete := by
  refine ⟨?edge, ?pairEdge, ?gateEnd, ?comparator, ?wiring, ?freqConfig, ?overload, ?limited, ?regulated, ?backfed, ?retry,
    ?settled, ?supConfig⟩
  case edge =>
    rintro s a ch peak rising both _ on hch single ha rfl configured marks
    exact execFreqEdge_single hch marks on single ha configured
  case pairEdge =>
    rintro s a ch peak rising both _ runs hch even pair ha rfl marks
    exact execFreqEdge_pair hch marks runs even pair ha
  case gateEnd =>
    intro s u v ch c f flt runs hch hc configured even hu edges hf hv hflt hardware
    exact execFreqGateEnd_edges runs hch hc configured even hu edges hf hv hflt hardware
  case comparator =>
    intro s ch on hch configured above term
    obtain ⟨t, row, frame⟩ := execFreqComparatorTimeout_frame ch s
    obtain rfl := Host.Outcome.next.inj (row.symm.trans (execFreqComparatorTimeout_above on hch configured above term))
    refine ⟨_, row, ?_, ?_, frame_exec frame rfl⟩
    · simp only [State.modFreq_freqCh, State.waitTo_leaves, above, Nat.reduceBEq]
    · simp only [State.modFreq_leaves, State.waitTo_hw]
  case wiring =>
    intro s u ch mv bias runs hch even configured hu supplied bad good again
    exact execFreqWiringCheck_failed runs hch even configured hu supplied bad good again
  case freqConfig =>
    intro s r p h hp free single wasSingle own gate gate' timeout timeout' finite nonzero low high sense hyst link
    exact row_eq h (freqConfig_body_single hp free single wasSingle own
      ⟨gate, gate', timeout, timeout', finite, by simpa using nonzero, low, high, sense, hyst, link⟩) (by decide)
  case overload =>
    exact fun s n cur ms runs hn on limited atLimit long => execSupOverload_off runs hn on limited atLimit long
  case limited => exact fun s n cur runs hn on free atLimit => execSupOverload_begins runs hn on free atLimit
  case regulated => exact fun s n cur ms runs hn on limited below => execSupOverload_ends runs hn on limited below
  case backfed => exact fun s n mv runs hn new above => execSupBackfed_above runs hn new above
  case retry =>
    rintro s _ n t due runs rfl
    exact execSupRetry_due due runs
  case settled =>
    exact fun s n runs hn on free suppressed => execSupRegulationSettled_due runs hn on free suppressed
  case supConfig =>
    intro s a r en was h enable retry hen hwas ha
    have supply : (s.offered verbSupConfig r).supCh r.inst = s.supCh r.inst := by simp only [State.offered_leaves]
    exact row_eq h (supConfig_body enable retry hen (hwas.trans (congrArg SupCh.on supply.symm)) ha) (by decide)

end Sys2Proof.Machine
end

section
/-! The control engine (spec 05): the rows of samples, of the lanes' work, of host releases, of trace downloads and of the
CTRL verbs. A row's lemma gives its command under the row's conditions; a verb's lemma, its effect. -/

namespace Sys2Proof.Machine

/-- A change of a slot is known by what it makes of the slot as it stands. -/
theorem modLoop_congr {s : State} {n : Nat} {f g : LoopSlot → LoopSlot} (h : f (s.loop n) = g (s.loop n)) :
    s.modLoop n f = s.modLoop n g :=
  congrArg (fun x : LoopSlot => ({ s with ctrl.slots := tset LoopSlot.reset s.ctrl.slots n x } : State)) h

/-! ### Samples (05 R124-R126, R130, R138-R141) -/

section Samples

/-- At its sample instant the slot's last sample has nothing queued any more, and the tick and the period are the instant's. -/
def State.atSample (s : State) (slot tk : Nat) (c0 : LoopRec) : State :=
  ({ (s.settle slot).waitTo tk with
      time.ticks := tset 0 ((s.settle slot).waitTo tk).time.ticks (71 + 1000 * slot) (tk + 1) } : State).modLoop slot
    (fun x => { x with tk := tk, k := (tk - c0.phaseUs * 1000) / (c0.periodUs * 1000) })

/-- A sample above LOADED has its inputs latched and tested, and its staging is pending. -/
def State.tested (a : State) (slot : Nat) (c : LoopRec) : State :=
  (((a.latchRefs slot c).latch slot c).1.plausible slot c ((a.latchRefs slot c).latch slot c).2).modLoop slot
    (fun x => { x with stagePending := true, hit := false, corrected := false })

/-- The run-ahead test (R126): the staged output may be released. -/
def LoopSlot.hits (x : LoopSlot) (c : LoopRec) : Bool := !x.forced && fLt fZero c.gRun && fLe x.d2 (fMul c.gRun c.gRun)

theorem LoopSlot.hits_iff (x : LoopSlot) (c : LoopRec) :
    x.hits c = true ↔ x.forced = false ∧ fLt fZero c.gRun = true ∧ fLe x.d2 (fMul c.gRun c.gRun) = true := by
  simp only [LoopSlot.hits, Bool.and_eq_true, Bool.not_eq_true', and_assoc]

theorem LoopSlot.hits_eq_false_iff (x : LoopSlot) (c : LoopRec) :
    x.hits c = false ↔ x.forced = true ∨ fLt fZero c.gRun = false ∨ fLe x.d2 (fMul c.gRun c.gRun) = false := by
  simp only [LoopSlot.hits, Bool.and_eq_false_iff, Bool.not_eq_false', or_assoc]

variable {s b a : State} {slot tk : Nat} {c0 c : LoopRec} (runs : s.running 0x20 0 = true) (hslot : slot < 64)
  (loaded : (s.loop slot).cfg = some c0) (htk : tk = (s.settle slot).sampleAt slot c0) (hb : b = s.atSample slot tk c0)
  (ha : a = b.gateIdle (b.slotEnter slot) 0x20 0) (hc : (a.loop slot).cfg = some c)
include runs hslot loaded htk hb ha hc

theorem execLoopSample_loaded (below : (a.loop slot).state < 2) :
    execLoopSample slot s = .next (a.latchRefs slot c) := by
  unfold State.atSample at hb
  simp only [execLoopSample, runs, loaded, ← htk, ← hb, ← ha, hc, below, ge_iff_le, Nat.not_le_of_lt hslot, decide_false,
    Bool.not_true, Bool.or_self, Bool.false_eq_true, ↓reduceIte]

/-- A slot that is not host-assisted releases the safe action in SAFE; else its staged output on a hit, and on a miss it queues
its miss work. -/
theorem execLoopSample_hardware {d : State} (above : 2 ≤ (a.loop slot).state) (hd : d = a.tested slot c)
    (hardware : d.isHost (ctrlKey slot) = false) :
    execLoopSample slot s = .next
      (if (d.loop slot).state = 4 then
        ((d.waitTo (tk + 12)).modLoop slot (fun x => { x with relAt := tk + 12, delay := 12 })).safeRelease slot c c.safeAct
      else if (d.loop slot).hits c then
        ((d.modLoop slot (fun x => { x with forced := false, hit := true })).doRelease slot c (d.loop slot).ustg
          (d.loop slot).stgClamped (tk + 12)).missRate slot c false
      else
        (((d.modLoop slot (fun x => { x with forced := false, hit := false, misses := (x.misses + 1) % 2 ^ 32 })).modLoop slot
          (fun x => { x with missPending := true })).traceTrig slot 1).missRate slot c true) := by
  unfold State.atSample at hb
  unfold State.tested at hd
  have noHost : d.loopHost slot = false := by simp only [State.loopHost, hardware, Bool.false_and]
  simp only [execLoopSample, runs, loaded, ← htk, ← hb, ← ha, hc, Nat.not_lt_of_le above, ← hd, hardware, noHost, ge_iff_le,
    Nat.not_le_of_lt hslot, decide_false, Bool.not_true, Bool.or_self, Bool.false_and, Bool.false_eq_true, ↓reduceIte]
  rw [show (!(d.loop slot).forced && fLt fZero c.gRun && fLe (d.loop slot).d2 (fMul c.gRun c.gRun)) = (d.loop slot).hits c
    from rfl]
  cases (d.loop slot).hits c
  · simp only [Bool.not_false, Bool.false_eq_true, ↓reduceIte]
  · simp only [Bool.not_true, ↓reduceIte]

end Samples

/-! ### The lanes (05 R133, R134, R136) -/

section Lanes

variable {s : State} {slot : Nat} {c : LoopRec} {x : LoopSlot}

/-- The lanes run nothing before the item that they pick. -/
theorem laneTo_pick (pick : s.lanePick = some slot) (fuel : Nat) : State.laneTo slot (fuel + 1) s = s := by
  simp only [State.laneTo, pick, ↓reduceIte]

/-- Miss work of finite results releases the control, with CTRL/DEADLINE beyond the slot's limit. -/
theorem doMiss_finite {a : State} {late rel : Nat} {xhat : List F32} (hx : x = s.loop slot) (hc : x.cfg = some c)
    (missed : x.missPending = true) (hrel : rel = max (x.tk + 12) s.ctrl.laneFree + 4 * c.workM + late)
    (hxhat : xhat = c.correct x.xpred x.e) (finite : badNode xhat 0 = none) (finite' : badNode (c.control xhat).1 0x10 = none)
    (ha : a = (({ s with ctrl.laneFree := rel } : State).modLoop slot (fun x =>
      { x with xhat := xhat, hit := false, corrected := true })).doRelease slot c (c.control xhat).1 (c.control xhat).2 rel) :
    s.doMiss slot late =
      if rel - x.tk > c.dmNs then a.raiseEv 0x20 slot (ctrlSrc slot) 0x2005 6 slot (rel - x.tk) c.dmNs (x.k % 2 ^ 32)
      else a := by
  simp only [State.doMiss, ← hx, hc, missed, ← hrel, ← hxhat, finite, finite', ← ha, Bool.not_true, Bool.false_eq_true,
    ↓reduceIte]

/-- The picked slot's miss work ends with the delay of its row. -/
theorem execMissRelease_picked (runs : s.running 0x20 0 = true) (missed : (s.loop slot).missPending = true)
    (pick : s.lanePick = some slot) (delay : Nat) : execMissRelease slot delay s = .next (s.doMiss slot delay) := by
  simp only [execMissRelease, runs, State.laneMiss, missed, laneTo_pick pick, ↓reduceIte]

/-- With no miss work left the picked slot is staged. -/
theorem execStagingDone_picked (runs : s.running 0x20 0 = true) (released : (s.loop slot).missPending = false)
    (item : (s.laneItem slot).isSome = true) (pick : s.lanePick = some slot) :
    execStagingDone slot s = .next (s.doStage slot) := by
  simp only [execStagingDone, runs, State.settle, State.laneMiss, released, item, laneTo_pick pick, Bool.and_self,
    Bool.false_eq_true, ↓reduceIte]

/-- Staging of finite results stages the prediction's control and exports the slot. -/
theorem doStage_finite {a b : State} {done : Nat} {xhat ua xp : List F32} {manual hold : Bool} (hx : x = s.loop slot)
    (hc : x.cfg = some c) (released : x.missPending = false) (pending : x.stagePending = true)
    (hdone : done = max x.relAt s.ctrl.laneFree + 4 * (c.workQ + (if x.corrected then 0 else c.workC)))
    (hxhat : xhat = (if x.corrected then x.xhat else c.correct x.xpred x.e))
    (ha : a = (({ s with ctrl.laneFree := done } : State).waitTo done).modLoop slot (fun x =>
      { x with xhat := xhat, stagePending := false, corrected := true }))
    (hmanual : manual = ((x.state == 4 && decide (c.safeAct ≥ 2)) ||
      (a.loopHost slot && (a.hostFn (ctrlKey slot)).inSafe && c.hostSafe == 2)))
    (hua : ua = a.applied c (if x.released && !manual then some (a.loop slot).u else none))
    (hb : b = (a.modLoop slot (fun x => { x with ua := ua })).stepRefs slot c)
    (hhold : hold = (bit c.flags 0 &&
      ((b.loop slot).uClamped || c.bindList.any (fun e => a.actOverridden e.2.kind e.2.target))))
    (hxp : xp = (List.range c.n).map (fun i =>
      if hold && c.imask.testBit i then vAt xhat i else vAt (c.predict xhat ua (b.loop slot).reff) i))
    (finite : badStaged xhat (c.control xp).1 (c.outputOf xp) = none) :
    s.doStage slot =
      ((b.modLoop slot (fun x =>
        { x with xpred := xp, ustg := (c.control xp).1, stgClamped := (c.control xp).2, yhat := c.outputOf xp })).exports
        slot).traceSample slot := by
  simp only [State.doStage, ← hx, hc, released, pending, ← hdone, ← hxhat, ← ha, ← hmanual, ← hua, ← hb, ← hhold, ← hxp, finite,
    Bool.not_true, Bool.or_self, Bool.false_eq_true, ↓reduceIte]

end Lanes

/-! ### Host-assisted loops (05 R147-R150) -/

section HostLoops

variable {s : State} {r : Req}

theorem execCtrlHostRelease_accepted {slot : Nat} {c : LoopRec} {u : List F32} (runs : s.running 0x20 0 = true)
    (hc : (s.loop slot).cfg = some c) (hu : (s.loop slot).hostU = some u) (notSafe : (s.loop slot).state ≠ 4)
    (assisted : s.loopHost slot = true) :
    execCtrlHostRelease slot s = .next
      (((s.waitTo (s.hostReleaseAt slot)).modLoop slot (fun x => { x with hostU := none, hostUOld := false })).hostRelease
        slot c u) := by
  simp only [execCtrlHostRelease, hc, hu, runs, beq_eq_false_iff_ne.mpr notSafe, assisted, Bool.not_true, Bool.or_self,
    Bool.false_eq_true, ↓reduceIte]

/-- A value for the present period, in time and applied, is kept for t_k + D or released at once (R149). -/
theorem ctrlU_body {a : State} {c : LoopRec} {h : HostFn} (hh : h = s.hostFn (ctrlKey r.inst))
    (hc : (s.loop r.inst).cfg = some c) (host : h.host = true) (owner : h.owner = r.win) (issued : u32 r.payload 0 ≤ h.k)
    (finite : (f32s r.payload 4 4).all fFinite = true) (present : s.prevInTime (ctrlKey r.inst) (u32 r.payload 0) = false)
    (inTime : s.hostInTime (ctrlKey r.inst) (u32 r.payload 0) = true) (applied : (s.hostResult (ctrlKey r.inst)).2 = true)
    (ha : a = (s.hostResult (ctrlKey r.inst)).1) (enabled : (a.loop r.inst).state = 2 ∨ (a.loop r.inst).state = 3) :
    verbCtrlU.body r s =
      (let b := a.modLoop r.inst (fun x => { x with hostHw := false, missPending := false })
       if bit c.flags 1 then b.modLoop r.inst (fun x => { x with hostU := some (f32s r.payload 4 4), hostUOld := false })
       else (b.waitTo (a.hw + 12)).hostRelease r.inst c (f32s r.payload 4 4), stDone, []) := by
  have running : ((a.loop r.inst).state == 2 || (a.loop r.inst).state == 3) = true := by simpa using enabled
  simp only [verbCtrlU, hc, ← hh, host, owner, Nat.not_lt_of_le issued, finite, present, inTime, applied, ← ha, running,
    bne_self_eq_false, gt_iff_lt, decide_false, Bool.not_true, Bool.or_self, Bool.false_and,
    Bool.false_eq_true, ↓reduceIte, State.modLoop_leaves]
  split <;> rfl

/-- CTRL.HOSTBUF sets the buffer where no loop is host-assisted or about to be and the region holds all slots' records. -/
theorem ctrlHostbuf_body
    (hardware : (List.range 64).any (fun n =>
      s.isHost (ctrlKey n) || (s.hostFn (ctrlKey n)).pending == some true) = false)
    (region : s.regionCheck r.win (u8 r.payload 0) 4096 = none) :
    verbCtrlHostbuf.body r s =
      (({ s with ctrl.hostBuf := { HostBuf.reset with set := true, win := r.win, tag := r.tag, a := u8 r.payload 0 } } :
        State).dirty, stDone, []) := by
  simp only [verbCtrlHostbuf, hardware, region, Bool.false_eq_true, ↓reduceIte]

end HostLoops

/-! ### The CTRL verbs (05 R143-R146) -/

section Verbs

variable {s : State} {r : Req} {c : LoopRec}

/-- The records of the slots outside `slots`, each slot's waiting one before the one in force. -/
def State.keptRecords (s : State) (slots : List Nat) : List (Nat × LoopRec) :=
  (List.range 64).filterMap (fun n =>
    if slots.contains n then none else ((s.loop n).pend.orElse fun _ => (s.loop n).cfg).map (fun c => (n, c)))

/-- A slot is unloaded: CTRL/STATE to EMPTY, its function the hardware's, its entry gone. -/
def State.unloadSlot (s : State) (n : Nat) : State :=
  { (s.slotState n 0 0).loopToHw n with ctrl.slots := tdel ((s.slotState n 0 0).loopToHw n).ctrl.slots n }

/-- The unload form of CTRL.LOAD (flags 2), of disabled slots with CONTROL on each. -/
theorem ctrlLoad_body_unload {slots : List Nat} {set : List (Nat × LoopRec)} (unload : u8 r.payload 1 = 2)
    (desc : u8 r.payload 0 ≤ 63) (reserved : slice r.payload 2 6 = zeros 6) (named : u64 r.payload 8 ≠ 0)
    (hslots : slots = (List.range 64).filter (u64 r.payload 8).testBit)
    (control : slots.find? (fun n => !s.right r.win 0x20 n true) = none)
    (disabled : slots.find? (fun n => decide ((s.loop n).state ≥ 2)) = none)
    (hset : set = (List.range 64).filterMap (fun n => (s.keptRecords slots ++ []).find? (fun e => e.1 == n))) :
    verbCtrlLoad.body r s =
      (slots.foldl State.unloadSlot s, stDone,
       b32 (worst0 set) ++ b32 ((2 * (utilisation set).1 + (utilisation set).2) / (2 * (utilisation set).2)) ++
         b8 set.length ++ zeros 3 ++ b32 (setB set)) := by
  have form : bit 2 1 = true := rfl
  have commit : bit 2 0 = false := rfl
  unfold State.keptRecords at hset
  simp only [verbCtrlLoad, unload, form, commit, reserved, named, Nat.not_lt_of_le desc, ← hslots, control, disabled, ← hset,
    gt_iff_lt, Nat.reduceLT, ne_eq, not_true_eq_false, or_self, false_and, Bool.not_true, Bool.false_and, Option.map_none,
    Option.orElse_none, Bool.false_eq_true, ↓reduceIte]
  rfl

/-- CTRL.ENABLE of a slot that may be enabled, its actuators in their modes, asks for the next sample. -/
theorem ctrlEnable_body (hc : (s.loop r.inst).cfg = some c) (off : (s.loop r.inst).state ≠ 2)
    (off' : (s.loop r.inst).state ≠ 3) (fresh : bit (u8 r.payload 0) 0 = false ∨ (s.loop r.inst).state ≠ 1)
    (modes : c.bindList.any (fun e => (e.2.kind == 1 && (s.valve' e.2.target).mode != 1) ||
      (e.2.kind == 2 && (s.out e.2.target).cfg.mode != 2)) = false) :
    verbCtrlEnable.body r s =
      (s.modLoop r.inst (fun x => { x with enableReq := if bit (u8 r.payload 0) 0 then 2 else 1 }), stDone, []) := by
  have free : (bit (u8 r.payload 0) 0 && (s.loop r.inst).state == 1) = false := by
    simpa only [Bool.and_eq_false_iff, beq_eq_false_iff_ne] using fresh
  simp only [verbCtrlEnable, hc, free, beq_eq_false_iff_ne.mpr off, beq_eq_false_iff_ne.mpr off', modes, Bool.or_self,
    Bool.false_eq_true, ↓reduceIte]

theorem ctrlDisable_body {x : LoopSlot} (hx : x = s.loop r.inst) (loaded : x.state ≠ 0) :
    verbCtrlDisable.body r s =
      (s.modLoop r.inst (fun y => { y with enableReq := if x.state = 1 then 0 else 3 }), stDone, []) := by
  subst hx
  exact (if_neg loaded).trans (congrArg (fun t => (t, stDone, [])) (modLoop_congr rfl))

theorem ctrlSetpoint_body (hc : (s.loop r.inst).cfg = some c) (index : u8 r.payload 0 < c.r)
    (unsourced : (c.refs.getD (u8 r.payload 0) LoopRef.reset).src = 0xFFFF) (mode : u8 r.payload 1 ≤ 1)
    (finite : fFinite (f32 r.payload 4) = true) :
    verbCtrlSetpoint.body r s =
      (s.modLoop r.inst (fun x =>
        { x with setpt := listSet fZero x.setpt (u8 r.payload 0) (f32 r.payload 4),
                 arrived := listSet false x.arrived (u8 r.payload 0) false,
                 stepNow := listSet false x.stepNow (u8 r.payload 0) (u8 r.payload 1 == 1) }), stDone, []) := by
  simp only [verbCtrlSetpoint, hc, Nat.not_le_of_lt index, unsourced, Nat.not_lt_of_le mode, finite, ge_iff_le, gt_iff_lt,
    ne_eq, not_true_eq_false, Bool.not_true, Bool.false_eq_true, or_self, ↓reduceIte]

end Verbs

/-! ### Traces (05 R146) -/

section Traces

variable {s : State} {r : Req}

/-- CTRL.TRACE arms or restarts a buffer, except one that is armed for this command and has not fired. -/
theorem ctrlTrace_body {b : Nat} (hb : b = u8 r.payload 0) (buffer : b ≤ 7) (slot : u8 r.payload 1 ≤ 63)
    (loaded : (s.loop (u8 r.payload 1)).cfg.isNone = false) (node : u8 r.payload 2 ≤ 0x1F) (every : u8 r.payload 3 ≠ 0)
    (trigger : u8 r.payload 4 ≤ 4) (post : u16 r.payload 6 ≤ 4095)
    (rearmed : (s.trace b).armed = false ∨ (s.trace b).trigger ≠ 4 ∨ (s.trace b).fired = true) :
    verbCtrlTrace.body r s =
      (s.modTrace b (fun t =>
        { Trace.reset with armed := true, slot := u8 r.payload 1, node := u8 r.payload 2, d := u8 r.payload 3,
                           trigger := u8 r.payload 4, post := u16 r.payload 6, phase := u8 r.payload 3 - 1,
                           read := t.read }), stDone, []) := by
  have unfired : ¬((s.trace b).armed = true ∧ (s.trace b).trigger = 4 ∧ (!(s.trace b).fired) = true) := by
    rintro ⟨armed, four, notFired⟩
    obtain unarmed | other | fired := rearmed
    · exact absurd (unarmed.symm.trans armed) (by decide)
    · exact other four
    · simp only [fired, Bool.not_true, Bool.false_eq_true] at notFired
  simp only [verbCtrlTrace, ← hb, Nat.not_lt_of_le buffer, Nat.not_lt_of_le slot, loaded, Nat.not_lt_of_le node, every,
    Nat.not_lt_of_le trigger, Nat.not_lt_of_le post, unfired, gt_iff_lt, Bool.false_eq_true, or_self, ↓reduceIte]

theorem ctrlTraceRead_body (buffer : u8 r.payload 0 ≤ 7) (stopped : (s.trace (u8 r.payload 0)).armed = false)
    (unread : (s.trace (u8 r.payload 0)).read = none)
    (region : s.regionCheck r.win (u8 r.payload 1) (8 * (s.trace (u8 r.payload 0)).entries.length) = none) :
    verbCtrlTraceRead.body r s =
      ((s.regionBegin r.win (u8 r.payload 1) r.tag true).modTrace (u8 r.payload 0) (fun t =>
        { t with read := some ({ win := r.win, tag := r.tag }, u8 r.payload 1) }), stAccepted, []) := by
  simp only [verbCtrlTraceRead, Nat.not_lt_of_le buffer, stopped, unread, region, gt_iff_lt, Option.isSome_none, Bool.or_self,
    Bool.false_eq_true, ↓reduceIte]

theorem execCtrlTraceReadDone_begun {buf d : Nat} {op : Op} {t : Trace} (runs : s.running 0x20 0 = true) (ht : t = s.trace buf)
    (begun : t.read = some (op, d)) :
    execCtrlTraceReadDone buf s = .next
      ((((s.regionWrite op.win d 0 (t.entries.flatMap (fun e => bF e.1 ++ b32 e.2))).regionEnd op.win d
        (8 * t.entries.length)).modTrace buf (fun t => { t with read := none })).complete op 0x20 t.slot (ctrlSrc t.slot)
        0x2009 stDone t.entries.length 0) := by
  simp only [execCtrlTraceReadDone, ← ht, begun, runs, Bool.not_true, Bool.false_eq_true, ↓reduceIte]

end Traces

/-- Settles O28: each row's command under its conditions is given by its row's lemma; a verb's effect is that on the offered
state, whose slots, traces and host functions are those of `s`. -/
theorem controlEngineRowsComplete : Obligations.ControlEngineRowsComplete := by
  refine ⟨?loaded, ?hit, ?miss, ?safe, ?missRelease, ?staging, ?hostRelease, ?traceDone, ?u, ?hostbuf, ?load, ?enable,
    ?disable, ?setpoint, ?status, ?trace, ?traceRead⟩
  case loaded =>
    intro s b a slot tk c0 c runs hslot loaded htk hb ha hc below
    exact execLoopSample_loaded runs hslot loaded htk hb ha hc below
  case hit =>
    rintro s b a d slot tk c0 c _ runs hslot loaded htk hb ha hc above hd hardware rfl notSafe hit
    refine (execLoopSample_hardware runs hslot loaded htk hb ha hc above hd hardware).trans ?_
    rw [if_neg notSafe, if_pos ((LoopSlot.hits_iff _ c).mpr hit)]
  case miss =>
    rintro s b a d slot tk c0 c _ runs hslot loaded htk hb ha hc above hd hardware rfl notSafe miss
    refine (execLoopSample_hardware runs hslot loaded htk hb ha hc above hd hardware).trans ?_
    rw [if_neg notSafe, if_neg (Bool.eq_false_iff.mp ((LoopSlot.hits_eq_false_iff _ c).mpr miss))]
  case safe =>
    intro s b a d slot tk c0 c runs hslot loaded htk hb ha hc above hd hardware safe
    refine (execLoopSample_hardware runs hslot loaded htk hb ha hc above hd hardware).trans ?_
    rw [if_pos safe]
  case missRelease =>
    intro s a slot delay rel c x xhat runs hx hc missed pick hrel hxhat finite finite' ha
    exact (execMissRelease_picked runs (hx ▸ missed) pick delay).trans
      (congrArg _ (doMiss_finite hx hc missed hrel hxhat finite finite' ha))
  case staging =>
    intro s a b slot done c x xhat ua xp manual hold runs hx hc released pending item pick hdone hxhat ha hmanual hua hb hhold
      hxp finite
    exact (execStagingDone_picked runs (hx ▸ released) item pick).trans
      (congrArg _ (doStage_finite hx hc released pending hdone hxhat ha hmanual hua hb hhold hxp finite))
  case hostRelease =>
    exact fun s slot c u runs hc hu notSafe assisted => execCtrlHostRelease_accepted runs hc hu notSafe assisted
  case traceDone => exact fun s buf d op t runs ht begun => execCtrlTraceReadDone_begun runs ht begun
  case u =>
    intro s a r c h hc host owner issued finite present inTime applied ha enabled
    obtain ⟨-, hostFn, -⟩ := offered_reads s verbCtrlU r
    have slot : ((s.offered verbCtrlU r).loop r.inst).cfg = some c := by simpa only [State.offered_leaves] using hc
    exact row_eq h (ctrlU_body (hostFn _).symm slot host owner issued finite present inTime applied ha enabled) (by decide)
  case hostbuf =>
    intro s r h hardware region
    obtain ⟨-, hostFn, isHost, -⟩ := offered_reads s verbCtrlHostbuf r
    exact row_eq h (ctrlHostbuf_body (by simpa only [hostFn, isHost] using hardware) region) (by decide)
  case load =>
    intro s r slots set h unload desc reserved named hslots control disabled hset
    obtain ⟨-, -, -, -, right, -⟩ := offered_reads s verbCtrlLoad r
    exact row_eq h (ctrlLoad_body_unload unload desc reserved named hslots (by simpa only [Verb.req_win, right] using control)
      (by simpa only [State.offered_leaves] using disabled)
      (by simpa only [State.keptRecords, State.offered_leaves] using hset)) (by decide)
  case enable =>
    intro s r c h hc off off' fresh modes
    exact row_eq h (ctrlEnable_body (by simpa only [Verb.req_inst, State.offered_leaves] using hc)
      (by simpa only [Verb.req_inst, State.offered_leaves] using off)
      (by simpa only [Verb.req_inst, State.offered_leaves] using off')
      (by simpa only [Verb.req_inst, Verb.req_payload, State.offered_leaves] using fresh)
      (by simpa only [State.offered_leaves] using modes)) (by decide)
  case disable =>
    intro s r h loaded
    have slot : s.loop r.inst = (s.offered verbCtrlDisable r).loop r.inst := by simp only [State.offered_leaves]
    exact row_eq h (ctrlDisable_body slot loaded) (by decide)
  case setpoint =>
    intro s r c h hc index unsourced mode finite
    exact row_eq h (ctrlSetpoint_body (by simpa only [Verb.req_inst, State.offered_leaves] using hc) index unsourced mode finite)
      (by decide)
  case status =>
    intro s r h
    obtain ⟨-, -, isHost, -⟩ := offered_reads s verbCtrlStatus r
    have slot : (s.offered verbCtrlStatus r).loop r.inst = s.loop r.inst := by simp only [State.offered_leaves]
    exact row_eq h (by rw [← slot, ← isHost]; rfl) (by decide)
  case trace =>
    intro s r b h hb buffer slot loaded node every trigger post rearmed
    exact row_eq h (ctrlTrace_body hb buffer slot (by simpa only [Verb.req_payload, State.offered_leaves] using loaded) node
      every trigger post (by simpa only [State.offered_leaves] using rearmed)) (by decide)
  case traceRead =>
    intro s r h buffer stopped unread region
    exact row_eq h (ctrlTraceRead_body buffer (by simpa only [Verb.req_payload, State.offered_leaves] using stopped)
      (by simpa only [Verb.req_payload, State.offered_leaves] using unread)
      (by simpa only [Verb.req_payload, Verb.req_win, State.offered_leaves] using region)) (by decide)

end Sys2Proof.Machine
end

section
/-! The valve banks (spec 06): the timed rows and the monitor rows of the valves. A row's lemma gives its command under the
row's conditions. -/

namespace Sys2Proof.Machine

/-! ### The timed rows of the valves (06 R156, R159-R166, R171) -/

section ValveTimedRows

variable {s : State} {ch : Nat}

/-- Outside a bank cut a refusal at the defer limit raises VALVE/OVERLAP and has outcome 2. -/
theorem deferRefuse_uncut (uncut : s.bankCut (ch / 4) = 0) :
    s.deferRefuse ch =
      (s.raiseEv 0x21 ch (112 + ch / 4) 0x3002 1 ch ((s.bank (ch / 4)).peakHolder.getD 0xFF) (s.bank (ch / 4)).holds.length
        (s.bank (ch / 4)).deferUs).dropReq ch 2 :=
  if_neg (not_not_intro uncut)

section Request

variable {q : ValveReq} (waiting : (s.valve' ch).req = some q) (runs : s.valveRuns ch = true)
include waiting runs

theorem execValveMinoffEnd_waiting (off : (s.valve' ch).state = 3) :
    execValveMinoffEnd ch s = .next
      (if (s.waitTo q.t1).reqLate ch then (s.waitTo q.t1).dropReq ch 6 else (s.waitTo q.t1).valveEnter ch) := by
  simp only [execValveMinoffEnd, waiting, runs, off, beq_self_eq_true, Bool.and_self, ↓reduceIte]

/-- A queued request that took no slot is refused at its defer limit. -/
theorem execValveDeferExpiry_queued {u a : State} (queued : (s.valve' ch).state = 4)
    (hu : u = if s.hw ≤ q.deferEnd then (s.takeSlots (ch / 4)).1 else s) (still : (u.valve' ch).state = 4)
    (ha : a = u.waitTo q.deferEnd) (inTime : a.reqLate ch = false) :
    execValveDeferExpiry ch s = .next (a.deferRefuse ch) := by
  simp only [execValveDeferExpiry, waiting, runs, queued, ← hu, still, ← ha, inTime, bne_self_eq_false, Bool.not_true,
    Bool.or_self, Bool.false_eq_true, ne_eq, not_true_eq_false, ↓reduceIte]

/-- The peak starts from the rail that is ready within the boost wait, once the high-side is on. -/
theorem execValveBoostWaitEnd_ready {u a : State} {mv : Nat} (boosting : (s.valve' ch).state = 5)
    (hu : u = s.railIs (ch / 12) mv) (early : u.reqLate ch = false) (ready : (u.boost (ch / 12)).ready = true)
    (within : u.hw ≤ q.boostEnd) (ha : a = u.waitTo (u.bank (ch / 4)).hsReady) (inTime : a.reqLate ch = false) :
    execValveBoostWaitEnd ch mv s = .next ((a.clearFault 0x3003 0x21 ch).peakStart ch false 0) := by
  simp only [execValveBoostWaitEnd, waiting, runs, boosting, ← hu, early, ready, within, ← ha, inTime, bne_self_eq_false,
    decide_true, Bool.not_true, Bool.or_self, Bool.and_self, Bool.false_eq_true, ↓reduceIte]

end Request

theorem execValveSlotGrant_running {b : Nat} (mv : Nat) (runs : s.running 0x21 0 = true) (hb : b < 6) :
    execValveSlotGrant b mv s = .next ((s.railIs (b / 3) mv).valveAdvance b) := by
  simp only [execValveSlotGrant, runs, hb, decide_true, Bool.and_self, ↓reduceIte]

section Peak

/-- The channel is in hold and its bank's peak slot free of it. -/
def State.holdBegins (s : State) (ch : Nat) : State :=
  (s.modValve ch (fun c => { c with state := 7, fromBat := false })).modBank (ch / 4)
    (fun k => { k with peakHolder := if k.peakHolder = some ch then none else k.peakHolder })

variable {cur : Nat} (runs : s.valveRuns ch = true) (peak : (s.valve' ch).state = 6)
include runs peak

theorem execValvePeakEnd_reached (reached : (fRound (s.valve' ch).peakA 1000).toNat ≤ cur)
    (within : s.hw ≤ (s.valve' ch).peakEnd) :
    execValvePeakEnd ch cur s = .next ((s.holdBegins ch).bankHs (ch / 4)) := by
  simp only [execValvePeakEnd, State.holdBegins, runs, peak, reached, within, bne_self_eq_false, and_self, decide_true,
    Bool.not_true, Bool.or_self, Bool.false_eq_true, ↓reduceIte]

/-- A peak current that is missed within the peak's time raises VALVE/TRACKING. -/
theorem execValvePeakEnd_elapsed {u : State}
    (missed : cur < (fRound (s.valve' ch).peakA 1000).toNat ∨ (s.valve' ch).peakEnd < s.hw)
    (hu : u = s.waitTo (s.valve' ch).peakEnd) :
    execValvePeakEnd ch cur s = .next
      ((((u.holdBegins ch).modValve ch (fun c => { c with tracking := true, trackOk := some u.hw })).raiseEv 0x21 ch
        (112 + ch / 4) 0x3008 3 ch cur (fRound (s.valve' ch).peakA 1000).toNat 3).bankHs (ch / 4)) := by
  have notReached : ¬((fRound (s.valve' ch).peakA 1000).toNat ≤ cur ∧ s.hw ≤ (s.valve' ch).peakEnd) := by omega
  simp only [execValvePeakEnd, State.holdBegins, runs, peak, notReached, ← hu, State.modBank_leaves,
    State.modValve_leaves, bne_self_eq_false, decide_false, Bool.not_true, Bool.or_self, Bool.false_eq_true, ↓reduceIte]

end Peak

theorem execValveDurationEnd_due {t : Nat} (due : (s.valve' ch).endAt = some t) (runs : s.valveRuns ch = true) :
    execValveDurationEnd ch s = .next ((s.waitTo t).valveOff ch) := by
  simp only [execValveDurationEnd, due, runs, ↓reduceIte]

theorem execValveBankHsOff_due {b t : Nat} (due : (s.bank b).hsOffAt = some t) (runs : s.running 0x21 0 = true) :
    execValveBankHsOff b s = .next
      ((s.waitTo t).modBank b (fun k => { k with hsOn := false, hsOffAt := none })) := by
  simp only [execValveBankHsOff, due, runs, ↓reduceIte]

/-- The measured current of a bank is taken. -/
def State.takeBankCurrent (s : State) (e : Nat × F32) : State :=
  if e.1 < 6 then s.modBank e.1 (fun k => { k with current := e.2 }) else s

/-- The measured rail of a converter is taken. -/
def State.takeRail (s : State) (e : Nat × Nat) : State := if e.1 < 2 then s.railIs e.1 e.2 else s

/-- The mean current of a channel is taken; one that hardware regulates is compared with its set-point and shown. -/
def State.takeCurrent (currents : List (Nat × F32)) (s : State) (n : Nat) : State :=
  let v := s.valveMean currents n
  let u := s.modValve n (fun c => { c with current := v })
  if u.isHost (hostKey 0x21 0 n) then u else (u.modValve n (fun c => c.track (u.valveApplied n) u.hw)).valveSignal n v

theorem execValveCurrentUpdate_running (currents banks : List (Nat × F32)) (rails : List (Nat × Nat))
    (runs : s.running 0x21 0 = true) :
    execValveCurrentUpdate currents banks rails s = .next
      ((List.range 24).foldl (State.takeCurrent currents)
        (rails.foldl State.takeRail (banks.foldl State.takeBankCurrent (s.boundary 97 1000000 0)))) := by
  have notStopped : ¬(!s.running 0x21 0) = true := by simp only [runs, Bool.not_true, Bool.false_eq_true, not_false_eq_true]
  exact congrArg Host.Outcome.next (if_neg notStopped)

/-- The period of a channel whose last one got its duty begins with the mean current for the host. -/
theorem execValveHostPeriod_got {a u : State} {cur : F32} (runs : s.valveRuns ch = true)
    (assisted : s.isHost (hostKey 0x21 0 ch) = true) (ha : a = s.boundary (104 + 1000 * ch) 1000000 0)
    (got : (a.hostFn (hostKey 0x21 0 ch)).got = true)
    (hu : u = (a.modValve ch (fun c => { c with current := cur })).valveSignal ch cur) :
    execValveHostPeriod ch cur s = .next
      ((u.hostPeriod (hostKey 0x21 0 ch) u.hw 800000 1000000).modHost (hostKey 0x21 0 ch)
        (fun h => { h with k := u.hw / 1000000 % 2 ^ 32 })) := by
  simp only [execValveHostPeriod, runs, assisted, ← ha, got, ← hu, Bool.not_true, Bool.or_self, Bool.false_eq_true,
    ↓reduceIte]

end ValveTimedRows

/-- Settles O57: each row's command under its conditions is given by its row's lemma. -/
theorem valveTimedRowsComplete : Obligations.ValveTimedRowsComplete := by
  refine ⟨?minoffStart, ?minoffLate, ?slotGrant, ?deferExpiry, ?boostReady, ?peakReached, ?peakElapsed, ?duration, ?hsOff,
    ?currents, ?hostPeriod⟩
  case minoffStart =>
    intro s ch q waiting runs off inTime
    exact (execValveMinoffEnd_waiting waiting runs off).trans (congrArg _ (if_neg (Bool.eq_false_iff.mp inTime)))
  case minoffLate =>
    intro s ch q waiting runs off late
    exact (execValveMinoffEnd_waiting waiting runs off).trans (congrArg _ (if_pos late))
  case slotGrant => exact fun s b mv runs hb => execValveSlotGrant_running mv runs hb
  case deferExpiry =>
    intro s u a ch q waiting runs queued hu still ha inTime uncut
    exact (execValveDeferExpiry_queued waiting runs queued hu still ha inTime).trans
      (congrArg _ (deferRefuse_uncut uncut))
  case boostReady =>
    intro s u a ch mv q waiting runs boosting hu early ready within ha inTime
    exact execValveBoostWaitEnd_ready waiting runs boosting hu early ready within ha inTime
  case peakReached => exact fun s ch cur runs peak reached within => execValvePeakEnd_reached runs peak reached within
  case peakElapsed => exact fun s u ch cur runs peak missed hu => execValvePeakEnd_elapsed runs peak missed hu
  case duration => exact fun s ch t due runs => execValveDurationEnd_due due runs
  case hsOff => exact fun s b t due runs => execValveBankHsOff_due due runs
  case currents => exact fun s currents banks rails runs => execValveCurrentUpdate_running currents banks rails runs
  case hostPeriod => exact fun s ch cur runs assisted got => execValveHostPeriod_got runs assisted rfl got rfl

/-! ### The monitor rows of the valves (06 R162, R168) -/

section ValveMonitorRows

variable {s : State} {ch : Nat}

/-- A converter short of 44 V at 20 ms, or above 54 V, is latched off. -/
theorem execValveBoostFault_latches {u : State} {c kind mv : Nat} (runs : s.running 0x21 0 = true) (hc : c < 2)
    (enabled : (s.boost c).enabled = true) (unlatched : (s.boost c).latched = 0)
    (fault : (kind = 1 ∧ mv < 44000 ∧ (s.boost c).charged = false) ∨ (kind = 2 ∧ mv > 54000))
    (hu : u = if kind = 1 then s.waitTo ((s.boost c).enabledAt + 20000000) else s) :
    execValveBoostFault c kind mv s = .next
      ((u.modBoost c (fun x => { x with latched := kind, railMv := mv })).raiseEv 0x21 (0x200 + c) (118 + c) 0x3009 4
        (0x200 + c) mv kind 0) := by
  have seen : ((kind == 1 && decide (mv < 44000) && !(s.boost c).charged) || (kind == 2 && decide (mv > 54000))) = true := by
    simpa [and_assoc] using fault
  simp only [execValveBoostFault, runs, enabled, unlatched, seen, ← hu, ge_iff_le, Nat.not_le_of_lt hc, decide_false,
    bne_self_eq_false, Bool.not_true, Bool.or_self, Bool.false_eq_true, ↓reduceIte]

/-- What VALVE/OPEN_LOAD looks for (R168): a driven channel without current, or one that is off, its pin low though the bank's
high-side is on and the bank's current that of its channels. -/
def State.openLoadSeen (s : State) (ch cur mv duty : Nat) : Bool :=
  (s.valve' ch).mode != 0 &&
    (if s.valveDriven ch then decide (cur < 50 ∧ 90 ≤ duty)
     else (s.bank (ch / 4)).hsOn &&
       decide (mv < 2000 ∧ (fRound (s.bank (ch / 4)).current 1000 - s.bankSum (ch / 4)).natAbs ≤ 200))

theorem openLoadSeen_iff (s : State) (ch cur mv duty : Nat) :
    s.openLoadSeen ch cur mv duty = true ↔ (s.valve' ch).mode ≠ 0 ∧
      (s.valveDriven ch = true ∧ cur < 50 ∧ 90 ≤ duty ∨
       s.valveDriven ch = false ∧ (s.bank (ch / 4)).hsOn = true ∧ mv < 2000 ∧
         (fRound (s.bank (ch / 4)).current 1000 - s.bankSum (ch / 4)).natAbs ≤ 200) := by
  cases h : s.valveDriven ch <;> simp [State.openLoadSeen, h]

section Channel

variable (runs : s.valveRuns ch = true)
include runs

section OpenLoad

variable {cur mv duty : Nat}

theorem execValveOpenLoad_raises (connected : (s.valve' ch).openLoad = false)
    (seen : s.openLoadSeen ch cur mv duty = true) :
    execValveOpenLoad ch cur mv duty s = .next
      (((s.modValve ch (fun c => { c with openLoad := true })).modFlags (0xD0 + ch)
        (fun f => clearBits f fgValid ||| fgFault)).raiseEv 0x21 ch (112 + ch / 4) 0x3004 2 ch cur mv 0) := by
  unfold State.openLoadSeen at seen
  simp only [execValveOpenLoad, runs, connected, seen, Bool.not_true, Bool.not_false, Bool.and_self,
    Bool.false_eq_true, ↓reduceIte]

theorem execValveOpenLoad_ends (standing : (s.valve' ch).openLoad = true)
    (absent : s.openLoadSeen ch cur mv duty = false) :
    execValveOpenLoad ch cur mv duty s = .next
      ((s.modValve ch (fun c => { c with openLoad := false })).clearFault 0x3004 0x21 ch) := by
  unfold State.openLoadSeen at absent
  simp only [execValveOpenLoad, runs, standing, absent, Bool.not_true, Bool.not_false, Bool.and_self, Bool.false_eq_true,
    ↓reduceIte]

end OpenLoad

theorem execValveTracking_raises {t : Nat} (tracked : (s.valve' ch).tracking = false)
    (since : (s.valve' ch).trackBad = some t) :
    execValveTracking ch s = .next
      (((s.waitTo (t + (s.valve' ch).trackMs * 1000000)).modValve ch (fun c => { c with tracking := true })).raiseEv 0x21 ch
        (112 + ch / 4) 0x3008 3 ch (fRound (s.valve' ch).current 1000).toNat
        ((s.valve' ch).meanSet (s.valveApplied ch)) 1) := by
  simp only [execValveTracking, runs, tracked, since, Bool.not_true, Bool.false_eq_true, ↓reduceIte]

theorem execValveTracking_ends {t : Nat} (standing : (s.valve' ch).tracking = true)
    (since : (s.valve' ch).trackOk = some t) :
    execValveTracking ch s = .next
      (((s.waitTo (t + (s.valve' ch).trackMs * 1000000)).modValve ch (fun c => { c with tracking := false })).clearFault
        0x3008 0x21 ch) := by
  simp only [execValveTracking, runs, standing, since, Bool.not_true, Bool.false_eq_true, ↓reduceIte]

variable (used : (s.valve' ch).mode ≠ 0)
include used

/-- A short to battery during an event without a pending request latches the channel and ends the event. -/
theorem execValveShortBat_on {cur : Nat} (unlatched : (s.valve' ch).latched = false) (above : (s.valve' ch).tripMa < cur)
    (started : (s.valve' ch).req = none)
    (on : (s.valve' ch).state = 2 ∨ (s.valve' ch).state = 6 ∨ (s.valve' ch).state = 7) :
    execValveShortBat ch cur s = .next
      ((((s.modValve ch (fun c => { c with latched := true })).valveOff ch).raiseEv 0x21 ch (112 + ch / 4) 0x3005 4 ch cur 0
        0).valveSignal ch fZero) := by
  simp only [execValveShortBat, runs, beq_eq_false_iff_ne.mpr used, unlatched, Nat.not_le_of_lt above, started, on,
    Option.isSome_none, decide_false, Bool.not_true, Bool.or_self, Bool.false_eq_true, ↓reduceIte]

/-- A short to ground, seen at a channel that is off, latches its bank. -/
theorem execValveShortGnd_latches {mv cur : Nat} {excess : Int} (unlatched : (s.bank (ch / 4)).latched = 0)
    (hsOn : (s.bank (ch / 4)).hsOn = true) (off : s.valveDriven ch = false) (low : mv < 2000)
    (hexcess : excess = (cur : Int) - s.bankSum (ch / 4)) (surplus : 200 < excess) :
    execValveShortGnd ch mv cur s = .next
      ((s.bankLatch (ch / 4) 1).raiseEv 0x21 (0x100 + ch / 4) (112 + ch / 4) 0x3006 5 (0x100 + ch / 4) excess.toNat 0 0) := by
  simp only [execValveShortGnd, runs, beq_eq_false_iff_ne.mpr used, unlatched, hsOn, off, ← hexcess, Nat.not_le_of_lt low,
    Int.not_le_of_gt surplus, bne_self_eq_false, decide_false, Bool.not_true, Bool.or_self, Bool.false_eq_true, ↓reduceIte]

end Channel

/-- A bank current above 30 A latches the bank. -/
theorem execValveBankShort_current {b cur : Nat} (mv : Nat) (runs : s.running 0x21 0 = true) (hb : b < 6)
    (unlatched : (s.bank b).latched = 0) (hsOn : (s.bank b).hsOn = true) (above : cur > 30000) :
    execValveBankShort b cur mv s = .next
      ((s.bankLatch b 2).raiseEv 0x21 (0x100 + b) (112 + b) 0x3007 5 (0x100 + b) cur mv 0) := by
  simp only [execValveBankShort, runs, unlatched, hsOn, above, ge_iff_le, Nat.not_le_of_lt hb, bne_self_eq_false,
    decide_false, decide_true, Bool.true_or, Bool.not_true, Bool.or_self, Bool.false_eq_true, ↓reduceIte]

end ValveMonitorRows

/-- Settles O58: each row's command under its conditions is given by its row's lemma; the two forms of the open-load condition
are those of `openLoadSeen_iff`. -/
theorem valveMonitorRowsComplete : Obligations.ValveMonitorRowsComplete := by
  refine ⟨?boostFault, ?openLoad, ?openLoadEnds, ?tracking, ?trackingEnds, ?shortBat, ?shortGnd, ?bankShort⟩
  case boostFault =>
    exact fun s u c kind mv runs hc enabled unlatched fault hu =>
      execValveBoostFault_latches runs hc enabled unlatched fault hu
  case openLoad =>
    intro s ch cur mv duty runs used connected condition
    exact execValveOpenLoad_raises runs connected ((openLoadSeen_iff ..).mpr ⟨used, condition⟩)
  case openLoadEnds =>
    intro s ch cur mv duty runs standing condition
    refine execValveOpenLoad_ends runs standing (Bool.eq_false_iff.mpr fun seen => ?_)
    obtain ⟨used, ⟨driven, low⟩ | ⟨off, hsOn, pin, even⟩⟩ := (openLoadSeen_iff ..).mp seen
    · obtain unused | ⟨-, notLow⟩ | ⟨off, -⟩ := condition
      · exact used unused
      · exact notLow low
      · exact absurd (driven.symm.trans off) (by decide)
    · obtain unused | ⟨driven, -⟩ | ⟨-, hsOff | pinHigh | uneven⟩ := condition
      · exact used unused
      · exact absurd (driven.symm.trans off) (by decide)
      · exact absurd (hsOn.symm.trans hsOff) (by decide)
      · omega
      · omega
  case tracking => exact fun s ch t runs _ tracked since => execValveTracking_raises runs tracked since
  case trackingEnds => exact fun s ch t runs _ standing since => execValveTracking_ends runs standing since
  case shortBat =>
    intro s ch cur runs used unlatched above started hold
    exact execValveShortBat_on runs used unlatched above started (.inr (.inr hold))
  case shortGnd =>
    exact fun s ch mv cur excess runs used unlatched hsOn off low hexcess surplus =>
      execValveShortGnd_latches runs used unlatched hsOn off low hexcess surplus
  case bankShort =>
    exact fun s b cur mv runs hb unlatched hsOn above => execValveBankShort_current mv runs hb unlatched hsOn above

end Sys2Proof.Machine
end

section
/-! GNSS and the IMU (spec 07): the epoch and its ephemerides, the GNSS verbs and the rows of the IMU. A row's lemma gives its
command under the row's conditions; a verb's lemma, its effect. -/

namespace Sys2Proof.Machine

/-! ### The epoch (07 R176, R182) -/

/-- GNSS runs on the trunk die, and no ephemerides or almanacs are held. -/
def gnssUp : State :=
  { State.reset with power.state := .run, keeper.units := [(0x40, { UnitSt.reset with phase := .running })] }

/-- An epoch without signals at which the baseband holds a byte of ephemerides. -/
def ephemerisEpoch : NavEpoch := { navData := [1] }

/-- An epoch leaves GNSS with the ephemerides and almanacs that the baseband holds (R176). -/
theorem gnssEpoch_takesNavData :
    ∃ t, exec (.gnssEpoch ephemerisEpoch) gnssUp = .next t ∧ t.gnss.navData = ephemerisEpoch.navData :=
  ⟨_, rfl, by decide +kernel⟩

/-- Refutes O32: the epoch's clause leaves the ephemerides and almanacs of GNSS as they were, where the row takes those that the
baseband holds. -/
theorem not_gnssEventRowsComplete : ¬ Obligations.GnssEventRowsComplete := by
  rintro ⟨-, -, -, -, -, -, epoch, -⟩
  obtain ⟨t, row, took⟩ := gnssEpoch_takesNavData
  have claimed := Host.Outcome.next.inj
    (row.symm.trans (epoch gnssUp _ _ _ ephemerisEpoch (by decide +kernel) rfl rfl rfl rfl))
  have kept : t.gnss.navData = [] := by rw [claimed]; decide +kernel
  exact absurd (took.symm.trans kept) (by decide)

/-! ### The GNSS verbs (07 R175-R180, R187-R190) -/

section GnssVerbs

variable {s : State} {r : Req} {p : List Byte}

/-- The offer of a command leaves GNSS and its antennas. -/
theorem offered_gnss (s : State) (v : Verb) (r : Req) : (s.offered v r).gnss = s.gnss := by simp only [State.offered_leaves]

theorem offered_ant (s : State) (v : Verb) (r : Req) (i : Nat) : (s.offered v r).ant i = s.ant i :=
  congrArg (fun g : Gnss => tget Antenna.reset g.ants i) (offered_gnss s v r)

theorem offered_variant (s : State) (v : Verb) (r : Req) : (s.offered v r).variant = s.variant := by
  simp only [State.offered_leaves]

/-- Settings in range without a wheel signal are taken; heading by two antennas asks for the second one and for a baseline. -/
theorem gnssConfig_body {mode : Nat} (hp : p = r.payload) (hmode : u8 p 2 = mode) (system : 1 ≤ u8 p 0)
    (systems : u8 p 0 < 128) (elev : u8 p 1 ≤ 30)
    (heading : mode = 2 ∨ mode = 1 ∧ antFitted s.variant 2 = true ∧ shortBase (s.ant 1) (s.ant 2) = false)
    (limit : u8 p 3 ≤ 30) (noWheel : u16 p 4 = 0xFFFF) (finite : fFinite (f32 p 8) = true)
    (nonzero : fEq (f32 p 8) fZero = false) (low : fLe fOne (f32 p 12) = true) (high : fLe (f32 p 12) (fNat 60) = true) :
    verbGnssConfig.body r s =
      ((s.modGnss (fun g =>
        { g with systems := u8 p 0, elev := u8 p 1, headMode := mode, drLimit := u8 p 3, wheelSig := 0xFFFF,
                 wheelScale := f32 p 8, ageLimit := f32 p 12 })).dirty, stDone, []) := by
  subst hp hmode
  have inRange : u8 r.payload 2 = 2 ∨
      u8 r.payload 2 = 1 ∧ antFitted s.variant 2 = true ∧ (!shortBase (s.ant 1) (s.ant 2)) = true := by
    simpa only [Bool.not_eq_true'] using heading
  simp only [verbGnssConfig, system, systems, elev, inRange, limit, noWheel, finite, nonzero, low, high, Bool.not_false,
    true_or, and_self, ↓reduceIte]

/-- A supplied antenna at a phase centre in range is taken where no second antenna gives the heading. -/
theorem gnssAntenna_body (hp : p = r.payload) (on : u8 p 0 = 1) (x : within20 (f32 p 4) = true)
    (y : within20 (f32 p 8) = true) (z : within20 (f32 p 12) = true) (single : s.gnss.headMode ≠ 1) :
    verbGnssAntenna.body r s =
      ((s.modAnt r.inst (fun _ => { s.ant r.inst with on := true, px := f32 p 4, py := f32 p 8, pz := f32 p 12 })).dirty,
       stDone, []) := by
  subst hp
  simp only [verbGnssAntenna, on, x, y, z, beq_eq_false_iff_ne.mpr single, beq_self_eq_true, le_refl, Bool.false_and,
    Bool.not_false, and_self, ↓reduceIte]

theorem gnssCorr_body (source : u8 r.payload 0 ≤ 3) (channel : u8 r.payload 1 < 8) (number : u16 r.payload 2 < 16) :
    verbGnssCorr.body r s =
      ((s.modGnss (fun g =>
        { g with corrSrc := u8 r.payload 0, corrChan := u8 r.payload 1, corrNum := u16 r.payload 2, rtcm := [] })).dirty,
       stDone, []) :=
  if_pos ⟨source, .inr ⟨channel, number⟩⟩

theorem gnssRtcm_body (source : s.gnss.corrSrc = 3) : verbGnssRtcm.body r s = (s.rtcmFeed r.payload, stDone, []) :=
  if_neg (not_not_intro source)

/-- A line in range whose spacing is zero waits for the next epoch. -/
theorem gnssLine_body (hp : p = r.payload) (south : dLe (dInt (-90)) (f64 p 0) = true)
    (north : dLe (f64 p 0) (dInt 90) = true) (west : dLe (dInt (-180)) (f64 p 8) = true)
    (east : dLe (f64 p 8) (dInt 180) = true) (low : fLe fZero (f32 p 16) = true) (high : fLt (f32 p 16) (fNat 360) = true)
    (single : fEq (f32 p 20) fZero = true) (load : u8 p 24 ≤ 1) :
    verbGnssLine.body r s =
      ((s.modGnss (fun g =>
        { g with pendLine := some (if u8 p 24 = 1 then
            some { lat := f64 p 0, lon := f64 p 8, heading := f32 p 16, spacing := f32 p 20 } else none) })).dirty,
       stDone, []) := by
  subst hp
  exact if_pos ⟨south, north, west, east, low, high, .inl single, load⟩

theorem gnssGuard_body (hp : p = r.payload) (enable : u8 p 0 ≤ 1) (radius : u16 p 2 = 0 ∨ 5 ≤ u16 p 2 ∧ u16 p 2 ≤ 500)
    (report : u16 p 4 = 0 ∨ 10 ≤ u16 p 4 ∧ u16 p 4 ≤ 1440) :
    verbGnssGuard.body r s =
      ((s.modGnss (fun g => { g with guardEnable := u8 p 0 == 1, guardRadius := u16 p 2, guardReport := u16 p 4 })).dirty,
       stDone, []) := by
  subst hp
  exact if_pos ⟨enable, radius, report⟩

/-- GNSS.HOSTBUF sets the buffer where navigation is the hardware's and stays so and both regions hold an epoch's block. -/
theorem gnssHostbuf_body (even : s.regionCheck r.win (u8 r.payload 0) 16384 = none)
    (odd : s.regionCheck r.win (u8 r.payload 1) 16384 = none) (hardware : s.isHost gnssKey = false)
    (stays : (s.hostFn gnssKey).pending = none) :
    verbGnssHostbuf.body r s = ((s.modGnss (fun g => { g with hostBuf := hostBufOf r })).dirty, stDone, []) := by
  simp only [verbGnssHostbuf, hostBufOf, even, odd, hardware, stays, Option.none_beq_some, Bool.or_self,
    Bool.false_eq_true, ↓reduceIte]

/-- A solution in order and in time, after GNSS/INVALID once checks 1-4 have passed for 10 s, which agrees with the reckoned one
and with which the function goes on or resumes, is accepted at its epoch. -/
theorem gnssSolution_body {h : HostFn} {q : State × Bool} (hp : p = r.payload) (hh : h = s.hostFn gnssKey)
    (host : h.host = true) (owner : h.owner = r.win) (named : u32 p 0 ≠ 0) (issued : u32 p 0 ≤ h.k) (fix : 1 ≤ u8 p 4)
    (fix' : u8 p 4 ≤ 4) (sats : 4 ≤ u8 p 5)
    (position : dFinite (f64 p 8) = true ∧ dFinite (f64 p 16) = true ∧ dFinite (f64 p 24) = true)
    (velocity : (f32s p 32 3).all fFinite = true) (accuracy : fFinite (f32 p 44) = true ∧ fLt fZero (f32 p 44) = true)
    (inTime : s.hostInTime gnssKey (u32 p 0) = true) (ready : s.gnss.invalid = false ∨ s.passed10 h.tk = true)
    (hq : q = if s.gnss.fix = 0 then (s, true) else s.agrees (hostSol p)) (agrees : q.2 = true)
    (applied : (q.1.hostResult gnssKey).2 = true) :
    verbGnssSolution.body r s =
      ((q.1.hostResult gnssKey).1.acceptEpoch h.tk (u8 p 4) (u8 p 5) (hostSol p), stDone, []) := by
  subst hp
  have sampled : h.k ≠ 0 := by omega
  have inRange : ¬(u8 r.payload 4 < 1 ∨ u8 r.payload 4 > 4 ∨ u8 r.payload 5 < 4) := by omega
  have noWait : (s.gnss.invalid && !s.passed10 h.tk) = false := by
    simpa only [Bool.and_eq_false_iff, Bool.not_eq_false'] using ready
  simp only [verbGnssSolution, ← hh, ← hq, host, owner, beq_eq_false_iff_ne.mpr sampled, beq_eq_false_iff_ne.mpr named,
    Nat.not_lt_of_le issued, inRange, position, velocity, accuracy, inTime, noWait, agrees, applied, beq_self_eq_true,
    gt_iff_lt, decide_false, Bool.and_self, Bool.not_true, Bool.or_self, Bool.false_eq_true, ↓reduceIte]

end GnssVerbs

/-! ### The IMU (07 R185, R186) -/

section ImuRows

variable {s : State} {r : Req} {p : List Byte}

/-- A sample's raw values join the records of the IMU: the runs of saturated and of unchanged axes and the last body values. -/
def State.imuRecord (s : State) (raw : List F32) (sat : Nat) (moving : Bool) : State :=
  s.modImu (fun m =>
    { m with satSince := runTab m.satSince s.hw (fun i => sat.testBit i),
             sameSince := runTab m.sameSince m.lastAt (fun i =>
               moving && m.last.length == 7 && m.last.getD i fZero == raw.getD i fZero),
             last := raw, lastAt := s.hw, recent := s.imu.body raw :: m.recent.take 49 })

/-- The axes saturated for more than 100 ms. -/
def Imu.saturated (m : Imu) (now : Nat) : List Nat :=
  (List.range 6).filter (fun i => (tget 0 m.satSince i != 0) && decide (now > tget 0 m.satSince i - 1 + 100000000))

/-- The axes unchanged in motion for 2 s. -/
def Imu.stuck (m : Imu) (now : Nat) : List Nat :=
  (List.range 6).filter (fun i => (tget 0 m.sameSince i != 0) && decide (now ≥ tget 0 m.sameSince i - 1 + 2000000000))

/-- The seven signals of a sample: FAULT on the axes affected, the values in the body frame on the others. -/
def State.imuSignals (s : State) (body : List F32) (axes : Nat) : State :=
  (List.range 7).foldl (fun (s : State) i =>
    if axes.testBit i then s.modFlags (0xF0 + i) (fun f => clearBits f fgValid ||| fgFault)
    else s.setSig (0xF0 + i) (body.getD i fZero) s.hw fgValid) s

/-- IMU/FAULT ends at a sample without a kind of failure and begins with a kind other than the one that stands. -/
def State.imuJudge (s : State) (old : Imu) (k axes : Nat) : State :=
  if k = 0 then
    let v := s.modImu (fun m => { m with state := 0 })
    if old.state ≠ 0 then v.clearFault 0x1050 0x44 0 else v
  else
    let v := s.modImu (fun m => { m with state := 2, lastKind := k })
    if old.state = 2 ∧ old.lastKind = k then v else v.raiseEv 0x44 0 39 0x1050 3 0 k axes 0

/-- A sample is recorded, shown in the signals and the pose histories, and judged by the kind of failure first in order. -/
theorem execImuSample_running {b a : State} {vals raw : List F32} {sat kind k axes : Nat} {moving : Bool}
    (runs : s.running 0x44 0 = true) (trunk : s.trunkOn = true) (hb : b = s.boundary 123 1000000 0)
    (hraw : raw = (List.range 7).map (fun i => vals.getD i fZero)) (ha : a = b.imuRecord raw sat moving)
    (hk : k = if kind = 1 ∨ kind = 4 then kind else if a.imu.saturated a.hw ≠ [] then 2
      else if a.imu.stuck a.hw ≠ [] then 3 else 0)
    (haxes : axes = if k = 1 ∨ k = 4 then 0x7F
      else b.imu.affected (bitSet (a.imu.saturated a.hw ++ a.imu.stuck a.hw))) :
    execImuSample vals sat kind moving s = .next ((a.imuSignals (b.imu.body raw) axes).poseTake.imuJudge b.imu k axes) := by
  subst hb hraw ha hk haxes
  have notStopped : ¬(!s.running 0x44 0 || !s.trunkOn) = true := by
    simp only [runs, trunk, Bool.not_true, Bool.or_self, Bool.false_eq_true, not_false_eq_true]
  exact congrArg Host.Outcome.next (if_neg notStopped)

/-- An orientation of two different housing axes with angles and a reference point in range is taken. -/
theorem imuConfig_body (hp : p = r.payload) (x : bits (u8 p 0) 2 0 < 6) (y : bits (u8 p 0) 5 3 < 6)
    (distinct : bits (u8 p 0) 2 0 / 2 ≠ bits (u8 p 0) 5 3 / 2) (unused : u8 p 0 < 64)
    (angles : (f32s p 4 3).all (fun a => fLe (fInt (-10)) a && fLe a (fNat 10)) = true)
    (mark : (f32s p 16 3).all within20 = true) :
    verbImuConfig.body r s =
      ((s.modImu (fun m => { m with orient := u8 p 0, angles := f32s p 4 3, mark := f32s p 16 3 })).dirty, stDone, []) := by
  subst hp
  exact if_pos ⟨x, y, distinct, unused, angles, mark⟩

end ImuRows

/-- Settles O33: a verb's effect is that on the offered state, whose GNSS, IMU and host functions are those of `s`; the IMU
sample is its row's lemma. -/
theorem gnssImuVerbsComplete : Obligations.GnssImuVerbsComplete := by
  refine ⟨?status, ?fix, ?configDual, ?configCourse, ?antenna, ?corr, ?rtcm, ?origin, ?line, ?guard, ?hostbuf, ?solution,
    ?sample, ?imuStatus, ?imuConfig⟩
  case status =>
    intro s r h
    exact row_eq h (by
      rw [← offered_hw s verbGnssStatus r, ← offered_ant s verbGnssStatus r 1, ← offered_ant s verbGnssStatus r 2,
        ← offered_gnss s verbGnssStatus r]
      rfl) (by decide)
  case fix =>
    rintro s r _ h rfl
    exact row_eq h (by rw [← offered_gnss s verbGnssFix r]; rfl) (by decide)
  case configDual =>
    intro s r p h hp system systems elev dual fitted base limit noWheel finite nonzero low high
    exact row_eq h (gnssConfig_body hp dual system systems elev
      (.inr ⟨rfl, by rwa [offered_variant], by rwa [offered_ant, offered_ant]⟩) limit noWheel finite nonzero low high)
      (by decide)
  case configCourse =>
    intro s r p h hp system systems elev course limit noWheel finite nonzero low high
    exact row_eq h (gnssConfig_body hp course system systems elev (.inl rfl) limit noWheel finite nonzero low high)
      (by decide)
  case antenna =>
    rintro s r p _ h hp - on x y z single
    rw [← offered_ant s verbGnssAntenna r]
    exact row_eq h (gnssAntenna_body hp on x y z (by rwa [offered_gnss])) (by decide)
  case corr => exact fun s r h source channel number => row_eq h (gnssCorr_body source channel number) (by decide)
  case rtcm => exact fun s r h source => row_eq h (gnssRtcm_body (by rwa [offered_gnss])) (by decide)
  case origin => exact fun s r h => row_eq h rfl (by decide)
  case line =>
    intro s r p h hp south north west east low high single load
    exact row_eq h (gnssLine_body hp south north west east low high single load) (by decide)
  case guard => exact fun s r p h hp enable radius report => row_eq h (gnssGuard_body hp enable radius report) (by decide)
  case hostbuf =>
    intro s r h even odd hardware stays
    obtain ⟨-, hostFn, isHost, -⟩ := offered_reads s verbGnssHostbuf r
    exact row_eq h (gnssHostbuf_body even odd (by rwa [isHost]) (by rwa [hostFn])) (by decide)
  case solution =>
    intro s r p q h hp host owner named issued fix fix' sats lat lon height velocity finite positive inTime ready hq agrees
      applied
    obtain ⟨-, hostFn, -⟩ := offered_reads s verbGnssSolution r
    exact row_eq h (gnssSolution_body hp (hostFn gnssKey).symm host owner named issued fix fix' sats ⟨lat, lon, height⟩
      velocity ⟨finite, positive⟩ inTime (by rwa [offered_gnss]) (by rwa [offered_gnss]) agrees applied) (by decide)
  case sample =>
    rintro s b a _ vals raw sat kind k axes moving _ _ runs trunk hb hraw ha rfl rfl hk haxes rfl
    exact execImuSample_running runs trunk hb hraw ha hk haxes
  case imuStatus =>
    intro s r h
    have imu : (s.offered verbImuStatus r).imu = s.imu := by simp only [State.offered_leaves]
    exact row_eq h (by rw [← imu]; rfl) (by decide)
  case imuConfig =>
    intro s r p h hp x y distinct unused angles mark
    exact row_eq h (imuConfig_body hp x y distinct unused angles mark) (by decide)

end Sys2Proof.Machine
end

section
/-! The camera ports (spec 08): links, coax supplies, frames, lamp bindings and the CAM verbs. A row's lemma gives its
command under the row's conditions; a verb's lemma, its effect. -/

namespace Sys2Proof.Machine

/-! ### Links and coax supplies (08 R198, R199) -/

section CamPortRows

variable {s : State} {port : Nat} (on : s.camOn port = true)
include on

/-- A trained link locks in a gear that carries the declared load; in another one it stays unused. -/
theorem execCamLinkUp_trained {gear : Nat} (link : (s.port port).link = true) (training : (s.port port).linkState = 1)
    (low : 1 ≤ gear) (high : gear ≤ 4) :
    execCamLinkUp port gear s = .next
      (if (s.port port).fits gear then
        ((s.modPort port (fun c => { c with linkState := 2, gear := gear })).clearFault 0x9002 0x41 port).post 0x41 port
          (220 + port) 0x9001 port gear 0 0
       else (s.modPort port (fun c => { c with linkState := 4, gear := gear })).raiseEv 0x41 port (220 + port) 0x9002 3 port 2
          gear 0) := by
  have geared : (gear == 0) = false := beq_eq_false_iff_ne.mpr (by omega)
  simp only [execCamLinkUp, on, link, training, geared, gt_iff_lt, Nat.not_lt_of_le high, Nat.reduceBEq, decide_false,
    Bool.not_true, Bool.or_self, Bool.false_eq_true, ↓reduceIte]

theorem execCamLinkLost_locked (locked : (s.port port).linkState = 2) :
    execCamLinkLost port s = .next ((s.modPort port (fun c => { c with linkState := 3, gear := 0 })).raiseEv 0x41 port
      (220 + port) 0x9002 3 port 1 (s.port port).gear 0) := by
  simp only [execCamLinkLost, on, locked, bne_self_eq_false, Bool.not_true, Bool.or_self, Bool.false_eq_true, ↓reduceIte]

section Coax

variable {cur : Nat} (coax : (s.port port).coax = true)
include coax

theorem execCamPocOpen_low (supplied : (s.port port).coaxState = 1) (low : cur < 20) :
    execCamPocOpen port cur s = .next
      ((s.modPort port (fun c => { c with coaxState := 2, coaxCur := fFrac cur 1000 })).raiseEv 0x41 port (220 + port) 0x9003 2
        port cur 0 0) := by
  simp only [execCamPocOpen, on, coax, supplied, low, and_self, Bool.not_true, Bool.or_self, Bool.false_eq_true, ↓reduceIte]

theorem execCamPocOpenEnd_back (opened : (s.port port).coaxState = 2) (back : cur ≥ 30) :
    execCamPocOpenEnd port cur s = .next
      ((s.modPort port (fun c => { c with coaxState := 1, coaxCur := fFrac cur 1000 })).clearFault 0x9003 0x41 port) := by
  simp only [execCamPocOpenEnd, on, coax, opened, Nat.not_lt_of_le back, bne_self_eq_false, decide_false, Bool.not_true,
    Bool.or_self, Bool.false_eq_true, ↓reduceIte]

/-- Over current switches the supply off, and the link with it, until the retry 2 s later. -/
theorem execCamPocShort_over (supplied : (s.port port).coaxState = 1) (exceeded : cur > 1250) :
    execCamPocShort port cur s = .next
      ((s.modPort port (fun c => { c.linkDown with
        coaxState := 3, coaxRetries := 0, coaxRetryAt := s.hw + 2000000000, coaxCur := fZero })).raiseEv 0x41 port (220 + port)
        0x9004 3 port cur 0 0) := by
  simp only [execCamPocShort, on, coax, supplied, Nat.not_le_of_lt exceeded, ge_iff_le, Nat.reduceLeDiff, OfNat.one_ne_ofNat,
    decide_false, Bool.not_true, Bool.or_self, Bool.false_eq_true, ↓reduceIte]

variable (retried : (s.port port).coaxState = 3)
include retried

/-- A retry that holds at most 1 A for 1 s ends the fault. -/
theorem execCamPocRetry_holds (within : cur ≤ 1000) :
    execCamPocRetry port cur s = .next
      (let u := s.waitTo (s.port port).coaxRetryAt
       ((u.waitTo (u.hw + 1000000000)).modPort port (fun c =>
         { c with coaxState := 1, coaxCur := fFrac cur 1000 })).clearFault 0x9004 0x41 port) := by
  simp only [execCamPocRetry, on, coax, retried, within, bne_self_eq_false, Bool.not_true, Bool.or_self, Bool.false_eq_true,
    ↓reduceIte]

/-- The fifth failed retry latches the supply off. -/
theorem execCamPocRetry_latches (exceeded : cur > 1000) (last : (s.port port).coaxRetries ≥ 4) :
    execCamPocRetry port cur s = .next
      (((s.waitTo (s.port port).coaxRetryAt).modPort port (fun c =>
        { c with coaxState := 4, coaxRetries := c.coaxRetries + 1 })).raiseEv 0x41 port (220 + port) 0x9004 3 port cur
        ((s.port port).coaxRetries + 1) 1) := by
  have fifth : (s.port port).coaxRetries + 1 ≥ 5 := Nat.succ_le_succ last
  simp only [execCamPocRetry, on, coax, retried, Nat.not_le_of_lt exceeded, fifth, bne_self_eq_false, Bool.not_true,
    Bool.or_self, Bool.false_eq_true, ↓reduceIte]

end Coax

/-- A sync instant of a port under module sync numbers the next frame (R201). -/
theorem execCamFrameSync_synced {a : State} (sync : (s.port port).sync = true) (link : (s.port port).link = true)
    (period : (s.port port).periodUs ≠ 0)
    (ha : a = s.boundary (126 + 1000 * port) ((s.port port).periodUs * 1000) ((s.port port).phaseUs * 1000)) :
    execCamFrameSync port s = .next
      (a.modPort port (fun c => { c with frame := (c.frame + 1) % 2 ^ 32, lastSync := a.hw })) := by
  subst ha
  simp only [execCamFrameSync, on, sync, link, beq_eq_false_iff_ne.mpr period, Bool.not_true, Bool.or_self,
    Bool.false_eq_true, ↓reduceIte]

/-- Three periods without a frame of an enabled sensor raise CAM/SENSOR_SILENT (R217). -/
theorem execCamSensorSilent_raises {sensor periods : Nat} (locked : (s.port port).linkState = 2) (known : sensor < 4)
    (enabled : ((s.port port).sensor sensor).enable = true) (heard : ((s.port port).sensor sensor).silent = false)
    (missed : periods ≥ 3) :
    execCamSensorSilent port sensor periods s = .next
      (((s.waitTo (((s.port port).sensor sensor).lastFrameAt + periods * (s.port port).periodUs * 1000)).modCamSensor port
        sensor (fun x => { x with silent := true })).raiseEv 0x41 port (220 + port) 0x9005 3 port sensor periods 0) := by
  simp only [execCamSensorSilent, on, locked, enabled, heard, ge_iff_le, Nat.not_le_of_lt known, Nat.not_lt_of_le missed,
    bne_self_eq_false, decide_false, Bool.not_true, Bool.or_self, Bool.false_eq_true, ↓reduceIte]

/-- The outputs of a frame at a port without a running tap are written, and nothing more is due (R208). -/
theorem execCamIspOutput_untapped {u : State} {sensor : Nat} {d : IspData} (due : (s.camSensor port sensor).due = true)
    (hu : u = (s.outputsWritten port sensor d).modCamSensor port sensor (fun x => { x with due := false }))
    (untapped : (u.port port).tapOn = []) :
    execCamIspOutput port sensor d s = .next u := by
  have waits : (s.camSensor port sensor).ofDue.due = true := due
  simp only [execCamIspOutput, on, waits, ← hu, untapped, List.contains_nil, Bool.not_true, Bool.not_false, Bool.or_self,
    Bool.false_eq_true, ↓reduceIte]

/-- The transaction at the head ends with its data, or with its cause where it failed on a locked link (R200). -/
theorem execCamBackchDone_locked {q : Req} {l : List Req} (cause : Nat) (data : List Byte)
    (head : (s.port port).backch = q :: l)
    (locked : ((s.modPort port (fun c => { c with backch := l })).port port).linkState = 2) :
    execCamBackchDone port cause data s = .next
      (let u := s.modPort port (fun c => { c with backch := l })
       if cause = 0 then u.replyLater verbCamBackch q stDone (slice data 0 (u8 q.payload 3))
       else u.replyLater verbCamBackch q stBusy (b8 cause)) := by
  simp only [execCamBackchDone, head, on, locked, ne_eq, not_true_eq_false, Bool.not_true, Bool.false_eq_true, ↓reduceIte]

end CamPortRows

/-! ### Frames (08 R201-R206) -/

section CamFrames

variable {s : State} {f : CamFrame}

section Arrival

variable (on : s.camOn f.port = true) (locked : (s.port f.port).linkState = 2) (known : f.sensor < 4)
  (enabled : ((s.port f.port).sensor f.sensor).enable = true)
  (numbered : (s.port f.port).sync = false ∨ 1 + f.lag ≤ (s.port f.port).frame)
include on locked known enabled numbered

/-- The rows of a frame of an enabled sensor arrive on a locked link: the first one begins the frame, the last one ends it. -/
theorem execCamFrameArrival_live :
    execCamFrameArrival f s = .next
      (if f.begins then (s.waitTo f.first).frameBegin f
       else (if ((s.port f.port).sensor f.sensor).begun.isSome then s else s.frameBegin f).frameEnd f) := by
  have answered : ((s.port f.port).sync && decide ((s.port f.port).frame < 1 + f.lag)) = false := by
    simpa only [Bool.and_eq_false_iff, decide_eq_false_iff_not, Nat.not_lt] using numbered
  simp only [execCamFrameArrival, on, locked, enabled, answered, ge_iff_le, Nat.not_le_of_lt known, bne_self_eq_false,
    decide_false, Bool.not_true, Bool.or_self, Bool.false_eq_true, ↓reduceIte]

theorem execCamFrameArrival_whole (unbegun : ((s.port f.port).sensor f.sensor).begun = none) (whole : f.begins = false) :
    execCamFrameArrival f s = .next ((s.frameBegin f).frameEnd f) := by
  simp only [execCamFrameArrival_live on locked known enabled numbered, whole, unbegun, Option.isSome_none,
    Bool.false_eq_true, ↓reduceIte]

theorem execCamFrameArrival_ends {b : Nat × Nat × Bool} (begun : ((s.port f.port).sensor f.sensor).begun = some b)
    (whole : f.begins = false) :
    execCamFrameArrival f s = .next (s.frameEnd f) := by
  simp only [execCamFrameArrival_live on locked known enabled numbered, whole, begun, Option.isSome_some,
    Bool.false_eq_true, ↓reduceIte]

end Arrival

/-- All rows of a frame have arrived: its packet errors are counted, and no frame stands begun. -/
def State.frameClosed (s : State) (f : CamFrame) : State :=
  ((s.waitTo f.last).modPort f.port (fun c => { c with pktErrs := satAdd 32 c.pktErrs f.pktErrs })).modCamSensor f.port
    f.sensor (fun x => { x with silent := false, begun := none })

section Ended

variable (heard : ((s.port f.port).sensor f.sensor).silent = false)
include heard

/-- A frame of a port without an image processor is dropped (R206). -/
theorem frameEnd_unrouted (unrouted : (s.port f.port).route = 2) :
    s.frameEnd f = (s.frameClosed f).frameDrop f.port f.sensor := by
  simp only [State.frameEnd, State.frameClosed, State.waitTo_leaves, heard, unrouted, true_or, or_true, Bool.false_eq_true,
    ↓reduceIte]

/-- A frame that is no surplus and has no errors, of a port that passes none over, is taken, and CAM/FRAME_ERROR ends. -/
theorem frameEnd_taken {no tsync : Nat}
    (begun : ((s.port f.port).sensor f.sensor).begun = some (no, tsync, false)) (routed : (s.port f.port).route ≠ 2)
    (good : f.err = 0) (all : (s.port f.port).decim = 1) :
    s.frameEnd f = ((s.frameClosed f).clearFault 0x9006 0x41 f.port).frameTake f no tsync := by
  simp only [State.frameEnd, State.frameClosed, State.waitTo_leaves, heard, begun, routed, good, all, Option.getD_some,
    Nat.mod_one, OfNat.zero_ne_ofNat, one_ne_zero, zero_ne_one, ne_eq, not_true_eq_false, or_self, Bool.false_eq_true,
    ↓reduceIte]

end Ended

end CamFrames

/-- Settles O23: each row's command under its conditions is given by its row's lemma; the arrival of rows is the beginning or
the end of a frame, which time passing up to it leaves as it was. -/
theorem camEventRowsComplete : Obligations.CamEventRowsComplete := by
  refine ⟨?linkUp, ?linkUnfit, ?linkLost, ?pocOpen, ?pocOpenEnd, ?pocShort, ?retryHolds, ?retryLatches, ?frameSync, ?begins,
    ?wholeFrame, ?unrouted, ?taken, ?silent, ?ispOutput, ?backchDone, ?backchFailed⟩
  case linkUp =>
    intro s port gear on link training low high fits
    exact (execCamLinkUp_trained on link training low high).trans (congrArg _ (if_pos fits))
  case linkUnfit =>
    intro s port gear on link training low high unfit
    exact (execCamLinkUp_trained on link training low high).trans (congrArg _ (if_neg (Bool.eq_false_iff.mp unfit)))
  case linkLost => exact fun s port on locked => execCamLinkLost_locked on locked
  case pocOpen => exact fun s port cur on coax supplied low => execCamPocOpen_low on coax supplied low
  case pocOpenEnd => exact fun s port cur on coax opened back => execCamPocOpenEnd_back on coax opened back
  case pocShort => exact fun s port cur on coax supplied exceeded => execCamPocShort_over on coax supplied exceeded
  case retryHolds => exact fun s port cur on coax retried within => execCamPocRetry_holds on coax retried within
  case retryLatches => exact fun s port cur on coax retried exceeded last =>
    execCamPocRetry_latches on coax retried exceeded last
  case frameSync => exact fun s a port on sync link period ha => execCamFrameSync_synced on sync link period ha
  case begins =>
    rintro s f _ _ _ _ _ on rfl rfl locked known enabled numbered begins rfl rfl rfl
    exact (execCamFrameArrival_live on locked known enabled numbered).trans (congrArg _ (if_pos begins))
  case wholeFrame =>
    intro s f on locked known enabled numbered unbegun whole
    exact execCamFrameArrival_whole on locked known enabled numbered unbegun whole
  case unrouted =>
    intro s f b on locked known enabled heard numbered begun whole unrouted
    exact (execCamFrameArrival_ends on locked known enabled numbered begun whole).trans
      (congrArg _ (frameEnd_unrouted heard unrouted))
  case taken =>
    intro s f no tsync on locked known enabled heard numbered begun whole routed good all
    exact (execCamFrameArrival_ends on locked known enabled numbered begun whole).trans
      (congrArg _ (frameEnd_taken heard begun routed good all))
  case silent =>
    intro s port sensor periods on locked known enabled heard missed
    exact execCamSensorSilent_raises on locked known enabled heard missed
  case ispOutput => exact fun s u port sensor d on due hu untapped => execCamIspOutput_untapped on due hu untapped
  case backchDone => exact fun s port data q l head on locked => execCamBackchDone_locked on 0 data head locked
  case backchFailed =>
    intro s port cause data q l head on locked failed
    exact (execCamBackchDone_locked on cause data head locked).trans (congrArg _ (if_neg failed))

/-! ### The CAM verbs (08 R196-R215) -/

/-- The offer of a command leaves the camera ports, their sensors, the lamp bindings and the outputs. -/
theorem offered_port (s : State) (v : Verb) (r : Req) (i : Nat) : (s.offered v r).port i = s.port i := by
  simp only [State.offered_leaves]

theorem offered_camSensor (s : State) (v : Verb) (r : Req) (i n : Nat) : (s.offered v r).camSensor i n = s.camSensor i n :=
  congrArg (fun c : CamPort => c.sensor n) (offered_port s v r i)

theorem offered_out (s : State) (v : Verb) (r : Req) (i : Nat) : (s.offered v r).out i = s.out i := by
  simp only [State.offered_leaves]

theorem offered_lampsStand (s : State) (v : Verb) (r : Req) (i : Nat) (n : Option Nat) (c : CamPort) :
    (s.offered v r).lampsStand i n c = s.lampsStand i n c := by
  simp only [State.lampsStand, State.lampsOf, State.offered_leaves]

/-- A port under the settings that a CAM.CONFIG gives. -/
def CamPort.configured (c : CamPort) (p : List Byte) : CamPort :=
  { c with link := u8 p 0 == 1, coax := u8 p 1 == 1, sync := u8 p 2 == 1, periodUs := u32 p 4, phaseUs := u32 p 8 }

/-- A port that was `old` is `c`, but for its taps: under another sync its frames are numbered anew (R201), and its link and its
supply start again unless they stay on. -/
def State.camReconfigured (s : State) (i : Nat) (old c : CamPort) : State :=
  (s.modPort i (fun q =>
    { c with tapOn := q.tapOn, taps := q.taps,
             sensors := tmap CamSensor.reset c.sensors (fun x => if c.sync = old.sync then x
               else { x with frame := 0, lastNo := 0, begun := none, expo := [], lastFirst := none }) })).modPort i (fun q =>
    { q with coaxState := if !q.coax then 0 else if old.coax && old.coaxState < 3 then old.coaxState
               else if old.coax && old.coaxState == 3 then 3 else 1,
             coaxRetries := if old.coaxState == 4 then 0 else q.coaxRetries,
             linkState := if !q.link then 0 else if old.link && q.coax == old.coax then old.linkState else 1,
             gear := if q.link && old.link && q.coax == old.coax then old.gear else 0 })

/-- The faults of what a port that was `old` has no more as `c` end: the latch of its supply, its supply, its link (R199). -/
def State.camFaultsEnd (s : State) (i : Nat) (old c : CamPort) : State :=
  let a := if old.coaxState = 4 ∨ !c.coax then s.clearFault 0x9004 0x41 i else s
  let a := if !c.coax then a.clearFault 0x9003 0x41 i else a
  if !c.link then a.clearFault 0x9002 0x41 i else a

/-- A sensor under the settings that a CAM.SENSOR gives. -/
def CamSensor.configured (x : CamSensor) (p : List Byte) : CamSensor :=
  { x with enable := u8 p 1 == 1, mosaic := u8 p 2, depth := u8 p 3, width := u16 p 4, height := u16 p 6, exposures := u8 p 8,
           shutter := u8 p 9, dataTypes := [u8 p 10, u8 p 11, u8 p 12], rowNs := u32 p 16, d0 := u32 p 20, e0 := u32 p 24,
           e0Init := u32 p 24, r1 := f32 p 28, r2 := f32 p 32, expo := [] }

/-- The fields of a CAM.SENSOR for a port of period `P` are in range. -/
def sensorInRange (p : List Byte) (P : Nat) : Prop :=
  u8 p 0 ≤ 3 ∧ u8 p 1 ≤ 1 ∧ u8 p 2 ≤ 5 ∧ [8, 10, 12, 14, 16, 20, 24].contains (u8 p 3) = true ∧ 64 ≤ u16 p 4 ∧
    u16 p 4 ≤ 4096 ∧ 64 ≤ u16 p 6 ∧ u16 p 6 ≤ 4096 ∧ u16 p 4 * u16 p 6 ≤ 8294400 ∧ 1 ≤ u8 p 8 ∧ u8 p 8 ≤ 3 ∧ u8 p 9 ≤ 1 ∧
    (u8 p 10 ≤ 0x3F ∧ u8 p 11 ≤ 0x3F ∧ u8 p 12 ≤ 0x3F) ∧
    (if u8 p 9 = 0 then 1000 ≤ u32 p 16 ∧ u32 p 16 ≤ 200000 else u32 p 16 = 0) ∧ u32 p 20 ≤ P * 1000 ∧ 1 ≤ u32 p 24 ∧
    u32 p 24 ≤ P ∧ ratioOk (f32 p 28) = true ∧ ratioOk (f32 p 32) = true ∧ fLe (fMul (f32 p 28) (f32 p 32)) (fNat 256) = true

/-- The binding that a CAM.LAMP makes: open-loop in mode 1 and under a global shutter, unlocked otherwise (R212). -/
def lampOf (r : Req) (shutter : Nat) : Lamp :=
  { Lamp.reset with
      mode := u8 r.payload 1, port := r.inst, sensor := u8 r.payload 2, out := u8 r.payload 3, n := u8 r.payload 4,
      guardUs := u16 r.payload 6, initOfs := i32 r.payload 8, offset := i32 r.payload 8, ext := 0,
      state := if u8 r.payload 1 = 1 ∨ shutter ≠ 0 then 3 else 1 }

section CamVerbs

variable {s : State} {r : Req}

/-- Settings in range under which the load fits and the lamp bindings stand end the taps and are taken; the bindings follow. -/
theorem camConfig_body {b : State} {old c : CamPort} (hold : old = s.port r.inst) (hc : c = old.configured r.payload)
    (link : u8 r.payload 0 ≤ 1) (coax : u8 r.payload 1 ≤ 1) (sync : u8 r.payload 2 ≤ 1) (long : 5000 ≤ c.periodUs)
    (short : c.periodUs ≤ 1000000) (phase : c.phaseUs < c.periodUs) (fits : c.fits old.gear = true)
    (stand : s.lampsStand r.inst none c = true)
    (hb : b = ((s.tapsEnd r.inst stDone).camReconfigured r.inst old c).camFaultsEnd r.inst old c) :
    verbCamConfig.body r s = (((b.lampsOf r.inst none).foldl State.lampApply b).dirty, stDone, []) := by
  subst hold hc hb
  exact if_pos ⟨link, coax, sync, long, short, phase, fits, stand⟩

/-- Settings in range under which the load fits and the sensor's lamp bindings stand end its tap and are taken; its bindings
follow, under its shutter. -/
theorem camSensor_body {a b : State} {c c' : CamPort} {x : CamSensor} (hc : c = s.port r.inst)
    (hx : x = (c.sensor (u8 r.payload 0)).configured r.payload)
    (hc' : c' = { c with sensors := tset CamSensor.reset c.sensors (u8 r.payload 0) x })
    (inRange : sensorInRange r.payload c.periodUs) (fits : c'.fits c.gear = true)
    (stand : s.lampsStand r.inst (some (u8 r.payload 0)) c' = true)
    (ha : a = if (c.sensor (u8 r.payload 0)).silent then
        (s.tapEnd r.inst (u8 r.payload 0) stDone).clearFault 0x9005 0x41 r.inst
      else s.tapEnd r.inst (u8 r.payload 0) stDone)
    (hb : b = a.modCamSensor r.inst (u8 r.payload 0) (fun _ =>
      { x with silent := false, lastFrameAt := a.hw, lastFirst := none, flickRun := 0, flickFrames := [] })) :
    verbCamSensor.body r s =
      (((b.lampsOf r.inst (some (u8 r.payload 0))).foldl (fun (s : State) n =>
        (s.lampShutter n (u8 r.payload 9)).lampApply n) b).dirty, stDone, []) := by
  obtain ⟨sensor, enable, mosaic, depth, w, w', h, h', area, exposures, exposures', shutter, types, row, d0, e0, e0', r1, r2,
    ratio⟩ := inRange
  have dataTypes : [u8 r.payload 10, u8 r.payload 11, u8 r.payload 12].all (fun d => decide (d ≤ 0x3F)) = true := by
    simpa [and_assoc] using types
  subst hc hx hc' ha hb
  exact if_pos ⟨sensor, enable, mosaic, depth, w, w', h, h', area, exposures, exposures', shutter, dataTypes, row, d0, e0, e0',
    r1, r2, ratio, fits, stand⟩

/-- A block in range is read from its region and waits for the next frame's first row (R215). -/
theorem camIsp_body {len : Nat} {p : List Byte} {t : State} (sensor : u8 r.payload 0 ≤ 3)
    (fixed : s.regionCheck r.win (u8 r.payload 1) 2316 = none)
    (hlen : min (2316 + 4 * u16 (s.regionRead r.win (u8 r.payload 1) 2312 2) 0) (2316 + 4 * 4096) = len)
    (whole : s.regionCheck r.win (u8 r.payload 1) len = none) (hp : s.regionRead r.win (u8 r.payload 1) 0 len = p)
    (ht : t = s.regionDone r.win (u8 r.payload 1) r.tag p.length false)
    (ok : ispOk (t.camSensor r.inst (u8 r.payload 0)) p = true) :
    verbCamIsp.body r s =
      ((t.modCamSensor r.inst (u8 r.payload 0) (fun x => { x with pendIsp := some p })).dirty, stDone, []) := by
  subst ht
  simp only [verbCamIsp, gt_iff_lt, Nat.not_lt_of_le sensor, fixed, hlen, whole, hp, ok, ↓reduceIte]

/-- A capture of whole frames at a tap point that has an output, its region large enough, begins. -/
theorem camTap_body {p : List Byte} {x : CamSensor} {roi : List Nat} (hp : p = r.payload)
    (hx : x = (s.port r.inst).sensor (u8 p 0)) (hroi : roi = u16s p 6 4) (sensor : u8 p 0 ≤ 3) (point : u8 p 1 ≤ 7)
    (every : u8 p 3 ≠ 0) (frames : u16 p 4 ≠ 0) (limit : u16 p 4 ≤ 1024) (whole : roi.getD 2 0 = 0)
    (shape : (x.tapShape (u8 p 1) roi).2.1 ≠ 0) (idle : (s.port r.inst).tapOn.contains (u8 p 0) = false)
    (region : s.regionCheck r.win (u8 p 2) (x.tapSlot (u8 p 1) roi * u16 p 4) = none) :
    verbCamTap.body r s =
      ((s.modPort r.inst (fun c =>
        { c with taps := tset CamTap.reset c.taps (u8 p 0) { op := { win := r.win, tag := r.tag }, point := u8 p 1,
                                                             desc := u8 p 2, every := u8 p 3, want := u16 p 4, roi := roi,
                                                             seen := 0, captured := 0, skipped := 0 },
                 tapOn := c.tapOn ++ [u8 p 0] })).regionBegin r.win (u8 p 2) r.tag true, stAccepted, []) := by
  subst hp hx hroi
  simp only [verbCamTap, gt_iff_lt, Nat.not_lt_of_le sensor, Nat.not_lt_of_le point, every, frames, Nat.not_lt_of_le limit,
    whole, shape, idle, region, true_or, or_true, not_true_eq_false, or_self, Bool.false_eq_true, ↓reduceIte]

/-- A transaction in range on a locked link queues. -/
theorem camBackch_body (sensor : u8 r.payload 0 ≤ 3) (address : u8 r.payload 1 ≤ 127) (written : u8 r.payload 2 ≤ 96)
    (read : u8 r.payload 3 ≤ 96) (locked : (s.port r.inst).linkState = 2) :
    verbCamBackch.body r s = (s.modPort r.inst (fun c => { c with backch := c.backch ++ [r] }), stLater, []) := by
  simp only [verbCamBackch, gt_iff_lt, Nat.not_lt_of_le sensor, Nat.not_lt_of_le address, Nat.not_lt_of_le written,
    Nat.not_lt_of_le read, locked, ne_eq, not_true_eq_false, or_self, ↓reduceIte]

theorem camLamp_body_unbind (binding : u8 r.payload 0 ≤ 7) (mode : u8 r.payload 1 = 0) :
    verbCamLamp.body r s = ((s.lampUnbind (u8 r.payload 0)).dirty, stDone, []) := by
  simp only [verbCamLamp, gt_iff_lt, Nat.not_lt_of_le binding, mode, Nat.not_lt_zero, or_self, ↓reduceIte]

/-- An output in PWM mode that no binding holds is bound, where the timing fits its limits under module sync (R211). -/
theorem camLamp_body_bind {l : Lamp} (hl : l = lampOf r ((s.port r.inst).sensor (u8 r.payload 2)).shutter)
    (binding : u8 r.payload 0 ≤ 7) (mode : u8 r.payload 1 = 1 ∧ u8 r.payload 4 ≠ 0 ∨ u8 r.payload 1 = 2)
    (sensor : u8 r.payload 2 ≤ 3) (out : u8 r.payload 3 ≤ 71) (guard : u16 r.payload 6 ≤ 2000)
    (offset : (i32 r.payload 8).natAbs ≤ 2000000) (sync : (s.port r.inst).sync = true)
    (fits : lampFits l (s.port r.inst) = true) (pwm : (s.out (u8 r.payload 3)).cfg.mode = 2)
    (unbound : (s.out (u8 r.payload 3)).bound = 0) :
    verbCamLamp.body r s =
      ((((s.lampUnbind (u8 r.payload 0)).modLamp (u8 r.payload 0) (fun _ => l)).lampApply (u8 r.payload 0)).dirty, stDone,
       []) := by
  have known : ¬(u8 r.payload 0 > 7 ∨ u8 r.payload 1 > 2) := by omega
  have binds : u8 r.payload 1 ≠ 0 := by omega
  have periods : ¬(u8 r.payload 1 = 1 ∧ u8 r.payload 4 = 0) := by omega
  subst hl
  unfold lampOf at fits ⊢
  simp only [verbCamLamp, known, binds, periods, gt_iff_lt, Nat.not_lt_of_le sensor, Nat.not_lt_of_le out,
    Nat.not_lt_of_le guard, Nat.not_lt_of_le offset, sync, fits, pwm, unbound, ne_eq, not_true_eq_false, false_and, or_self,
    Bool.not_true, Bool.false_eq_true, ↓reduceIte]

/-- An exposure in range counts from the frame named, or from the next one that has not begun (R203). -/
theorem camExposure_body {p : List Byte} {k : Nat} (hp : p = r.payload)
    (hk : k = max (u32 p 4) (s.camSensor r.inst (u8 p 0)).lastNo) (sensor : u8 p 0 ≤ 3) (exposed : u32 p 8 ≠ 0)
    (within : u32 p 8 ≤ (s.port r.inst).periodUs) :
    verbCamExposure.body r s =
      ((s.modCamSensor r.inst (u8 p 0) (fun x =>
        { x with expo := x.expo.filter (fun q => decide (q.1 < k)) ++ [(k, u32 p 8)] })).dirty, stDone, b32 k) := by
  subst hp hk
  simp only [verbCamExposure, gt_iff_lt, Nat.not_lt_of_le sensor, exposed, Nat.not_lt_of_le within, or_self, ↓reduceIte]

theorem camHostbuf_body (hardware : s.isHost (camKey r.inst) = false) (stays : (s.hostFn (camKey r.inst)).pending = none)
    (region : s.regionCheck r.win (u8 r.payload 0) 512 = none) :
    verbCamHostbuf.body r s =
      ((s.modPort r.inst (fun c =>
        { c with hostBuf := { set := true, win := r.win, tag := r.tag, a := u8 r.payload 0, b := u8 r.payload 0 } })).dirty,
       stDone, []) := by
  simp only [verbCamHostbuf, hardware, stays, region, Option.none_beq_some, Bool.or_self, Bool.false_eq_true, ↓reduceIte]

/-- A correction in range and in time of the port's owner, with which the function goes on or resumes, moves every binding of
the port (R214). -/
theorem camLampSet_body {p : List Byte} {h : HostFn} (hp : p = r.payload) (hh : h = s.hostFn (camKey r.inst))
    (host : h.host = true) (owner : h.owner = r.win) (begun : h.period ≠ 0) (named : u32 p 0 ≤ h.k)
    (offset : (i32 p 4).natAbs ≤ 2000000) (extension : (i32 p 8).natAbs ≤ 2000000)
    (inTime : s.hostInTime (camKey r.inst) (u32 p 0) = true) (applied : (s.hostResult (camKey r.inst)).2 = true) :
    verbCamLampSet.body r s =
      (((s.hostResult (camKey r.inst)).1.lampsOf r.inst none).foldl (fun (s : State) b =>
        (s.modLamp b (fun l => { l with offset := i32 p 4, ext := i32 p 8 })).lampApply b) (s.hostResult (camKey r.inst)).1,
       stDone, []) := by
  subst hp
  have inRange : ¬((i32 r.payload 4).natAbs > 2000000 ∨ (i32 r.payload 8).natAbs > 2000000) := by omega
  simp only [verbCamLampSet, ← hh, host, owner, beq_eq_false_iff_ne.mpr begun, Nat.not_lt_of_le named, inRange, inTime,
    applied, beq_self_eq_true, gt_iff_lt, decide_false, Bool.and_self, Bool.not_true, Bool.or_self, Bool.false_eq_true,
    ↓reduceIte]

end CamVerbs

/-- Settles O24: a verb's effect is that on the offered state, whose ports, lamp bindings, outputs and host functions are those
of `s`. -/
theorem camVerbsComplete : Obligations.CamVerbsComplete := by
  refine ⟨?status, ?config, ?sensor, ?isp, ?tap, ?backch, ?unbind, ?bind, ?exposure, ?hostbuf, ?lampSet⟩
  case status =>
    rintro s r _ h rfl
    exact row_eq h (by rw [← offered_port s verbCamStatus r]; rfl) (by decide)
  case config =>
    rintro s _ b r _ old c h rfl hold hc link coax sync long short phase fits stand rfl hb
    subst hc
    rw [← offered_lampsStand s verbCamConfig r] at stand
    exact row_eq h (camConfig_body (hold.trans (offered_port ..).symm) rfl link coax sync long short phase fits stand hb)
      (by decide)
  case sensor =>
    rintro s a b r _ c _ _ h rfl hc rfl rfl sensor enable mosaic depth w w' ht ht' area exposures exposures' shutter t0 t1 t2
      row d0 e0 e0' r1 r2 ratio fits stand ha hb
    rw [← offered_lampsStand s verbCamSensor r] at stand
    exact row_eq h (camSensor_body (hc.trans (offered_port ..).symm) rfl rfl
      ⟨sensor, enable, mosaic, depth, w, w', ht, ht', area, exposures, exposures', shutter, ⟨t0, t1, t2⟩, row, d0, e0, e0', r1,
        r2, ratio⟩ fits stand ha hb) (by decide)
  case isp =>
    intro s r len p h sensor fixed hlen whole hp ok
    exact row_eq h (camIsp_body sensor fixed hlen whole hp rfl ok) (by decide)
  case tap =>
    intro s r p x roi h hp hx hroi sensor point every frames limit whole shape idle region
    rw [← offered_port s verbCamTap r] at hx idle
    exact row_eq h (camTap_body hp hx hroi sensor point every frames limit whole shape idle region) (by decide)
  case backch =>
    intro s r h sensor address written read locked
    rw [← offered_port s verbCamBackch r] at locked
    exact row_eq_later h (camBackch_body sensor address written read locked)
  case unbind => exact fun s r h binding mode => row_eq h (camLamp_body_unbind binding mode) (by decide)
  case bind =>
    rintro s r _ l h rfl hl binding mode sensor out guard offset sync fits pwm unbound
    rw [← offered_port s verbCamLamp r] at hl sync fits
    rw [← offered_out s verbCamLamp r] at pwm unbound
    exact row_eq h (camLamp_body_bind hl binding mode sensor out guard offset sync fits pwm unbound) (by decide)
  case exposure =>
    intro s r p k h hp hk sensor exposed within
    rw [← offered_camSensor s verbCamExposure r] at hk
    rw [← offered_port s verbCamExposure r] at within
    exact row_eq h (camExposure_body hp hk sensor exposed within) (by decide)
  case hostbuf =>
    intro s r h hardware stays region
    obtain ⟨-, hostFn, isHost, -⟩ := offered_reads s verbCamHostbuf r
    exact row_eq h (camHostbuf_body (by rwa [isHost]) (by rwa [hostFn]) region) (by decide)
  case lampSet =>
    intro s r p h hp host owner begun named offset extension inTime applied
    obtain ⟨-, hostFn, -⟩ := offered_reads s verbCamLampSet r
    exact row_eq h (camLampSet_body hp (hostFn (camKey r.inst)).symm host owner begun named offset extension inTime applied)
      (by decide)

end Sys2Proof.Machine
end

section
/-! Crown fusion (spec 09): samples, input closes, releases and the CROWN verbs. A row's lemma gives its command under the
row's conditions; a verb's lemma, its effect. -/

namespace Sys2Proof.Machine

/-! ### Samples (09 R223, R229) -/

section CrownSamples

variable {s : State} {index out stamp : Nat} {block : List Byte}

/-- Every matching windowed input of every running slot takes a sample, each by `take`. -/
def State.inputsTake (s : State) (kind index out : Nat) (take : CrownSlot → Nat → Nat → State → State) : State :=
  (List.range 16).foldl (fun (s : State) m =>
    if (s.slot m).state ≠ 2 ∨ !s.crownServes (s.slot m).unit then s
    else (s.slot m).windowed.foldl (fun (t : State) i =>
      if !((s.slot m).bind' i).matches' kind index out then t else take (s.slot m) m i t) s) s

/-- A lidar block's points beyond the binding's number are surplus; those within it are projected on each target. -/
def State.lidarIn (stamp : Nat) (block : List Byte) (x : CrownSlot) (m i : Nat) (t : State) : State :=
  ((t.modSlot m (fun y => { y with surplus := satAdd 32 y.surplus (lidarCount block - u16 (x.bind' i).fields 2) })).project
    x.unit ((lidarPoints block (u16 (x.bind' i).fields 2)).length * x.targets i)).sampleIn m i { stamp := stamp, data := block }

variable (on : s.trunkOn = true)
include on

/-- A frame with a header arrives with the header's stamp, the data and the crop of its scaled output. -/
theorem execCrownSampleArrival_cameraFrame {cam : CamSensor} {sm : CrownSample}
    (hcam : cam = (s.camSensor (index / 4) (index % 4)).ofDue) (headed : cam.hdr ≠ [])
    (hsm : sm = { stamp := u64 cam.hdr 0, data := tget [] cam.outs out,
                  crop := [(cam.scaled out).2.2.1, (cam.scaled out).2.2.2.1, (cam.scaled out).2.1,
                           (cam.scaled out).2.2.2.2.1 / max 1 (cam.scaled out).2.1,
                           (cam.scaled out).2.2.2.2.2 / max 1 (cam.scaled out).2.1] }) :
    execCrownSampleArrival 1 index out stamp block s = .next (s.inputsTake 1 index out (fun _ m i t => t.sampleIn m i sm)) := by
  subst hsm
  simp only [execCrownSampleArrival, State.crownSample, ← hcam, List.isEmpty_eq_false_iff.mpr headed, on, Nat.reduceBEq,
    Bool.or_false, Bool.and_false, Bool.not_true, Bool.or_self, Bool.false_eq_true, ↓reduceIte]
  rfl

theorem execCrownSampleArrival_lidarBlock :
    execCrownSampleArrival 2 index out stamp block s = .next (s.inputsTake 2 index out (State.lidarIn stamp block)) := by
  simp only [execCrownSampleArrival, State.crownSample, on, Nat.reduceBEq, Nat.reduceEqDiff, Bool.or_true, Bool.false_and,
    Bool.not_true, Bool.or_self, Bool.false_eq_true, ↓reduceIte]
  rfl

end CrownSamples

/-! ### Input close, release and overrun (09 R223-R227, R235, R241) -/

section CrownSteps

variable {s : State} {slot j : Nat} {x : CrownSlot}

theorem crownServes_waitTo (s : State) (t u : Nat) : (s.waitTo t).crownServes u = s.crownServes u := rfl

theorem crownServes_modSlot (s : State) (m u : Nat) (f : CrownSlot → CrownSlot) :
    (s.modSlot m f).crownServes u = s.crownServes u := rfl

/-- At c_j the inputs are judged, the camera projections counted and the step launched with the late samples of before. -/
theorem execCrownInputClose_running {a : State} {present : Tab CrownSample} (hx : x = s.slot slot) (running : x.state = 2)
    (serves : s.crownServes x.unit = true) (known : slot < 16) (hj : j = x.nextStep)
    (ha : a = x.windowed.foldl (fun (s : State) i => s.judgeIn slot j i) (s.waitTo (x.cj j)))
    (hp : present = x.presentIn (a.slot slot) j) :
    execCrownInputClose slot s = .next
      ((a.project x.unit (65536 * (present.filter (fun e =>
        (x.bind' e.1).kind == 1 && u8 (x.bind' e.1).fields 3 == 1)).length)).crownLaunch slot j present
          ((s.waitTo (x.cj j)).lateIn x j)) := by
  subst hx hj ha hp
  simp only [execCrownInputClose, running, serves, ge_iff_le, Nat.not_le_of_lt known, ne_eq, not_true_eq_false, Bool.not_true,
    Bool.false_eq_true, or_self, ↓reduceIte]
  rfl

section Release

variable {t0 how : Nat} {rest : List (Nat × Nat × Nat)} (on : s.trunkOn = true) (due : (s.slot slot).releases = (j, t0, how) :: rest)
  (whole : how ≠ 2) (serves : s.crownServes (s.slot slot).unit = true)
include on due whole serves

/-- The release of a whole step writes its outputs at its instant; with the last one of a stopped slot they read zero. -/
theorem execCrownRelease_due {a : State} {d : CrownOut} (hx : x = s.slot slot) (punctual : x.overrun = false)
    (ha : a = ((((s.waitTo t0).modSlot slot (fun x =>
      { x with releases := rest, uncomp := x.uncomp.filter (fun e => decide (j < e)) })).crownWrite slot j (how == 1)
        (x.uncomp.contains j) d).crownPend slot)) :
    execCrownRelease slot d s = .next (if x.state = 2 ∨ !rest.isEmpty then a else a.crownIdle slot) := by
  subst hx ha
  simp only [execCrownRelease, State.crownRelease, on, due, punctual, whole, crownServes_modSlot, crownServes_waitTo, serves,
    Nat.add_zero, Bool.not_true, Bool.false_and, Bool.false_eq_true, ↓reduceIte]

theorem execCrownOverrun_late {delay : Nat} {d : CrownOut} (late : delay ≠ 0) :
    execCrownOverrun slot delay d s = .next
      (((s.crownRelease slot (delay * 1000) d).modSlot slot (fun x => { x with overrun := true })).raiseEv 0x42
        (s.slot slot).unit 226 0x9107 6 slot delay (j % 2 ^ 32) 0) := by
  simp only [execCrownOverrun, due, on, beq_eq_false_iff_ne.mpr whole, beq_eq_false_iff_ne.mpr late, serves, Bool.not_true,
    Bool.or_self, Bool.false_eq_true, ↓reduceIte]

end Release

end CrownSteps

/-! ### The CROWN verbs (09 R219, R230, R234-R237) -/

/-- The offer of a command leaves CROWN and its model slots. -/
theorem offered_crown (s : State) (v : Verb) (r : Req) : (s.offered v r).crown = s.crown := by simp only [State.offered_leaves]

theorem offered_slot (s : State) (v : Verb) (r : Req) (m : Nat) : (s.offered v r).slot m = s.slot m :=
  congrArg (fun c : Crown => tget CrownSlot.reset c.slots m) (offered_crown s v r)

theorem offered_crownUnit (s : State) (v : Verb) (r : Req) (u : Nat) : (s.offered v r).crownUnit u = s.crownUnit u :=
  congrArg (fun c : Crown => tget CrownUnit.reset c.units u) (offered_crown s v r)

section CrownVerbs

variable {s : State} {r : Req} {p : List Byte} {m : Nat} {x : CrownSlot}

/-- A loaded slot of the unit named takes its verbs (R236). -/
theorem hostRefusal_hosted (hx : x = s.slot m) (known : m ≤ 15) (loaded : x.state ≠ 0) (unit : x.unit = r.inst) :
    s.hostRefusal r m = none := by
  subst hx
  simp only [State.hostRefusal, gt_iff_lt, Nat.not_lt_of_le known, loaded, unit, ne_eq, not_true_eq_false, ↓reduceIte]

/-- CROWN.LOAD with flag 0 empties a stopped slot of the unit, or one that failover stopped, at any unit (R240). -/
theorem crownLoad_body_unload {a : State} (hm : m = u8 r.payload 0) (known : m ≤ 15) (unload : u8 r.payload 1 = 0)
    (hx : x = s.slot m) (stopped : x.state = 1 ∧ x.unit = r.inst ∨ x.state = 3)
    (ha : a = (((if x.state = 3 then s.clearFault 0x9106 0x42 x.unit else s).modHost (crownKey m x.unit)
      (fun _ => HostFn.reset)).modSlot m (fun _ => CrownSlot.reset)).zeroSlot m) :
    verbCrownLoad.body r s = (a.dirty, stDone, a.loadReply r.inst x.decl) := by
  have idle : x.state ≠ 2 := by omega
  have allowed : (if x.state = 3 then none else s.hostRefusal r m) = none := by
    obtain ⟨state, unit⟩ | state := stopped
    · rw [if_neg (by omega), hostRefusal_hosted hx known (by omega) unit]
    · exact if_pos state
  subst hx ha
  simp only [verbCrownLoad, ← hm, gt_iff_lt, Nat.not_lt_of_le known, unload, Nat.not_lt_zero, allowed, idle, or_self, ↓reduceIte]

/-- A model's image in range loads into an empty slot of a unit with room. -/
theorem crownLoad_body_load {k : Nat} {d : ModelDecl} {y : CrownSlot} {a : State} (hp : p = r.payload) (hm : m = u8 p 0)
    (known : m ≤ 15) (load : u8 p 1 = 1) (image : s.crown.models.find? (fun e => e.1 == u16 p 2) = some (k, d))
    (timing : shapeMin d.shape ≤ u32 p 4 ∧ u32 p 4 ≤ 200000 ∧ u32 p 8 < u32 p 4 ∧ (u32 p 4 + 3) / 4 ≤ u32 p 12 ∧
      u32 p 12 ≤ u32 p 4 ∧ u8 p 16 ≤ shapeInputs d.shape)
    (low : fLe (fFrac 1 2) (f32 p 20) = true) (high : fLe (f32 p 20) (fNat 6) = true) (empty : (s.slot m).state = 0)
    (room : s.tilesUsed r.inst + shapeTiles d.shape ≤ 8)
    (hy : y = { CrownSlot.reset with state := 1, unit := r.inst, model := u16 p 2, decl := d, stepUs := u32 p 4,
                                     phaseUs := u32 p 8, closeUs := u32 p 12, minIn := u8 p 16, ground := f32 p 20 })
    (ha : a = ((s.modSlot m (fun _ => y)).zeroSlot m).crownReset m 2) :
    verbCrownLoad.body r s = (a.dirty, stDone, a.loadReply r.inst d) := by
  subst hp ha hy
  simp only [verbCrownLoad, ← hm, gt_iff_lt, Nat.not_lt_of_le known, load, image, timing, low, high, empty,
    Nat.not_lt_of_le room, lt_irrefl, OfNat.zero_ne_ofNat, zero_ne_one, one_ne_zero, and_self, decide_true,
    Bool.and_self, Bool.not_true, Bool.or_self, Bool.false_eq_true, or_self, ↓reduceIte]

/-- The slot with its input `i` bound by the fields given, or unbound by kind 0, without what the input held. -/
def CrownSlot.bound (x : CrownSlot) (i kind : Nat) (fields : List Byte) : CrownSlot :=
  { x with binds := tset CrownBind.reset x.binds i (if kind = 0 then CrownBind.reset else { kind := kind, fields := fields }),
           ins := tdel x.ins i }

/-- The projection load of a unit's loaded slots. -/
def State.projectionLoad (s : State) (u : Nat) : Rat :=
  (List.range 16).foldl (fun n k => if (s.slot k).state ≠ 0 ∧ (s.slot k).unit = u then n + (s.slot k).projection else n) 0

section Hosted

variable (hp : p = r.payload) (hx : x = s.slot (u8 p 0)) (known : u8 p 0 ≤ 15) (loaded : x.state ≠ 0) (unit : x.unit = r.inst)
include hp hx known loaded unit

theorem crownModel_body :
    verbCrownModel.body r s = (s, stDone,
      b8 x.state ++ b8 x.unit ++ b8 x.decl.shape ++ b8 (s.slotD x) ++ b32 (s.slotL x / 1000) ++
        b8 (bitSet (x.windowed.filter (fun i => !(x.inp i).out))) ++
        b8 (bitSet ((List.range x.decl.kinds.length).filter (fun i => (x.bind' i).kind != 0))) ++ zeros 2 ++ b32 x.lastStep ++
        b32 x.folded ++ b32 x.discarded ++ b32 x.outWin ++ b32 x.surplus) := by
  simp only [verbCrownModel, ← hp, hostRefusal_hosted hx known loaded unit, ← hx]

/-- A binding in range that the unit has, the window may read and the projection load allows is taken while the slot stands
(R221). -/
theorem crownBind_body {z : State} (idle : x.state ≠ 2) (input : u8 p 1 < x.decl.kinds.length) (kind : u8 p 2 ≤ 3)
    (declared : u8 p 2 = 0 ∨ u8 p 2 = x.decl.kinds.getD (u8 p 1) 0) (ok : bindOk x.decl (u8 p 2) (slice p 4 12) = true)
    (fitted : ¬(u8 p 2 = 1 ∧ u8 (slice p 4 12) 0 ≥ camPorts s.variant))
    (readable : ¬(u8 p 2 = 3 ∧ !(u16s (slice p 4 12) 0 6).all (fun id => id == 0xFFFF || s.sigReadable r.win id)))
    (hz : z = s.modSlot (u8 p 0) (fun _ => x.bound (u8 p 1) (u8 p 2) (slice p 4 12)))
    (load : z.projectionLoad x.unit ≤ 2000000) :
    verbCrownBind.body r s = (z.dirty, stDone, []) := by
  have inRange : ¬(u8 p 2 ≠ 0 ∧ u8 p 2 ≠ x.decl.kinds.getD (u8 p 1) 0) := by omega
  unfold State.projectionLoad at load
  unfold CrownSlot.bound at hz
  simp only [verbCrownBind, ← hp, hostRefusal_hosted hx known loaded unit, ← hx, ge_iff_le, gt_iff_lt, Nat.not_le_of_lt input,
    Nat.not_lt_of_le kind, inRange, ok, idle, fitted, readable, ← hz, not_lt.mpr load, Bool.not_true, Bool.false_eq_true,
    or_self, ↓reduceIte]

theorem crownOutbuf_body (idle : x.state ≠ 2) (grid : u8 p 1 < shapeGrids x.decl.shape)
    (even : s.regionCheck r.win (u8 p 2) 65600 = none) (odd : s.regionCheck r.win (u8 p 3) 65600 = none) :
    verbCrownOutbuf.body r s =
      ((s.modSlot (u8 p 0) (fun x =>
        { x with bufs := tset HostBuf.reset x.bufs (u8 p 1) { set := true, win := r.win, tag := r.tag, a := u8 p 2,
                                                              b := u8 p 3 } })).dirty, stDone, []) := by
  simp only [verbCrownOutbuf, ← hp, hostRefusal_hosted hx known loaded unit, ← hx, ge_iff_le, Nat.not_le_of_lt grid, idle, even,
    odd, ↓reduceIte]

theorem crownHostbuf_body (idle : x.state ≠ 2) (even : s.regionCheck r.win (u8 p 1) x.decl.inputSet = none)
    (odd : s.regionCheck r.win (u8 p 2) x.decl.inputSet = none) :
    verbCrownHostbuf.body r s =
      ((s.modSlot (u8 p 0) (fun x =>
        { x with hostBuf := { set := true, win := r.win, tag := r.tag, a := u8 p 1, b := u8 p 2 } })).dirty, stDone, []) := by
  simp only [verbCrownHostbuf, ← hp, hostRefusal_hosted hx known loaded unit, ← hx, idle, even, odd, ↓reduceIte]

/-- CROWN.START of a model that failover has not stopped runs it, from the initial state with flag bit 0. -/
theorem crownStart_body (placed : x.state ≠ 3) (flag : u8 p 1 ≤ 1) :
    verbCrownStart.body r s =
      ((((if bit (u8 p 1) 0 then s.crownReset (u8 p 0) 1 else s).modSlot (u8 p 0) (fun x =>
        { x with state := 2, autoStart := true })).crownArm (u8 p 0)).dirty, stDone, []) := by
  simp only [verbCrownStart, ← hp, hostRefusal_hosted hx known loaded unit, ← hx, placed, gt_iff_lt, Nat.not_lt_of_le flag,
    ↓reduceIte]

theorem crownStop_body {a : State} (placed : x.state ≠ 3)
    (ha : a = s.modSlot (u8 p 0) (fun x => { x with state := 1, autoStart := false })) :
    verbCrownStop.body r s = ((if x.releases.isEmpty then a.zeroSlot (u8 p 0) else a).dirty, stDone, []) := by
  simp only [verbCrownStop, ← hp, hostRefusal_hosted hx known loaded unit, ← hx, placed, ← ha, ↓reduceIte]

end Hosted

/-- Signals of the slot, each once and finite, of the function's owner for a step begun and in time, with which the function
goes on or resumes, are kept for the release (R237). -/
theorem crownResult_body {es : List (Nat × F32 × Nat)} {h : HostFn} (hp : p = r.payload) (hm : m = u8 p 4)
    (hx : x = s.slot m) (known : m ≤ 15) (loaded : x.state ≠ 0) (unit : x.unit = r.inst)
    (hes : es = (List.range ((p.length - 8) / 8)).map (fun i =>
      (u16 p (8 + 8 * i), f32 p (12 + 8 * i), u8 p (10 + 8 * i) &&& 0x2D)))
    (hh : h = s.hostFn (crownKey m r.inst)) (host : h.host = true) (owner : h.owner = r.win) (begun : h.period ≠ 0)
    (named : u32 p 0 ≤ h.k) (own : es.all (fun e => (x.sigIds m).contains e.1) = true)
    (once : (es.map (·.1)).eraseDups.length = es.length) (finite : es.all (fun e => fFinite e.2.1) = true)
    (inTime : s.hostInTime (crownKey m r.inst) (u32 p 0) = true) (applied : (s.hostResult (crownKey m r.inst)).2 = true) :
    verbCrownResult.body r s =
      ((s.hostResult (crownKey m r.inst)).1.modSlot m (fun x => { x with hostOut := es }), stDone, []) := by
  simp only [verbCrownResult, ← hp, ← hm, hostRefusal_hosted hx known loaded unit, ← hx, ← hes, unit, ← hh, host, owner,
    beq_eq_false_iff_ne.mpr begun, gt_iff_lt, Nat.not_lt_of_le named, own, once, finite, inTime, applied, beq_self_eq_true,
    ne_eq, not_true_eq_false, decide_false, Bool.and_self, Bool.not_true, Bool.or_self, Bool.false_eq_true, ↓reduceIte]

section Calibration

variable (hp : p = r.payload) (model : u8 p 2 = 0) (position : (f32s p 4 3).all within20 = true)
  (angles : (f32s p 16 3).all (fun a => fLe (fInt (-180)) a && fLe a (fNat 180)) = true)
include hp model position angles

theorem crownCalib_body_lidar (lidar : u8 p 0 = 2) (stream : u8 p 1 ≤ 3)
    (zero : (f32s p 28 9).all (fun a => fEq a fZero) = true) :
    verbCrownCalib.body r s =
      ((s.modCrown (fun c => { c with lidCal := tset [] c.lidCal (u8 p 1) p })).dirty, stDone, []) := by
  simp only [verbCrownCalib, ← hp, lidar, model, position, angles, zero, gt_iff_lt, Nat.not_lt_of_le stream, Nat.reduceBEq,
    lt_irrefl, decide_false, Bool.or_true, Bool.not_true, Bool.or_self, Bool.false_eq_true, ↓reduceIte]

/-- A camera's calibration of model 0 has positive scales and finite coefficients (R230). -/
theorem crownCalib_body_camera (camera : u8 p 0 = 1) (sensor : u8 p 1 ≤ 7)
    (scales : (f32s p 28 4).all (fun a => fFinite a && fLt fZero a) = true) (finite : (f32s p 44 5).all fFinite = true) :
    verbCrownCalib.body r s =
      ((s.modCrown (fun c => { c with camCal := tset [] c.camCal (u8 p 1) p })).dirty, stDone, []) := by
  simp only [verbCrownCalib, ← hp, camera, model, position, angles, scales, finite, gt_iff_lt, Nat.not_lt_of_le sensor,
    Nat.not_lt_zero, beq_self_eq_true, decide_false, Bool.true_or, Bool.and_self, Bool.not_true, Bool.or_self,
    Bool.false_eq_true, ↓reduceIte]

end Calibration

end CrownVerbs

/-- Settles O27: each row's command under its conditions is given by its row's lemma; a verb's effect is that on the offered
state, whose slots, Crown units and host functions are those of `s`. -/
theorem crownRowsComplete : Obligations.CrownRowsComplete := by
  refine ⟨?cameraFrame, ?lidarBlock, ?inputClose, ?release, ?overrun, ?status, ?model, ?unload, ?load, ?bind, ?lidarCalib,
    ?cameraCalib, ?outbuf, ?start, ?startFresh, ?stop, ?hostbuf, ?result⟩
  case cameraFrame =>
    exact fun s index out stamp block cam sm on hcam headed hsm => execCrownSampleArrival_cameraFrame on hcam headed hsm
  case lidarBlock => exact fun s index out stamp block on => execCrownSampleArrival_lidarBlock on
  case inputClose =>
    exact fun s a slot j x present hx running serves known hj ha hp =>
      execCrownInputClose_running hx running serves known hj ha hp
  case release =>
    rintro s a slot j t0 how rest _ d on rfl punctual due whole serves ha
    exact execCrownRelease_due on due whole serves rfl punctual ha
  case overrun =>
    exact fun s slot delay j t0 how rest d due on whole late serves => execCrownOverrun_late on due whole serves late
  case status =>
    rintro s r _ h rfl
    exact row_eq h (by rw [← offered_crownUnit s verbCrownStatus r, ← offered_hw s verbCrownStatus r]; rfl) (by decide)
  case model =>
    rintro s r x h hx known loaded unit
    exact row_eq h (crownModel_body rfl (hx.trans (offered_slot ..).symm) known loaded unit) (by decide)
  case unload =>
    intro s a r m x h hm known unload hx stopped ha
    exact row_eq h (crownLoad_body_unload hm known unload (hx.trans (offered_slot ..).symm) stopped ha) (by decide)
  case load =>
    intro s r p m k d h hp hm known load image shortest longest phase close close' inputs low high empty room
    rw [← offered_crown s verbCrownLoad r] at image
    rw [← offered_slot s verbCrownLoad r] at empty
    exact row_eq h (crownLoad_body_load hp hm known load image ⟨shortest, longest, phase, close, close', inputs⟩ low high empty
      room rfl rfl) (by decide)
  case bind =>
    intro s r p x z h hp hx known loaded idle unit input kind declared ok fitted readable hz load
    obtain ⟨-, -, -, -, -, -, -, -, sigReadable, -⟩ := offered_reads s verbCrownBind r
    rw [← offered_variant s verbCrownBind r] at fitted
    simp only [← sigReadable] at readable
    exact row_eq h (crownBind_body hp (hx.symm.trans (offered_slot ..).symm) known loaded unit idle input kind declared ok
      fitted readable hz.symm load) (by decide)
  case lidarCalib =>
    intro s r p h hp lidar stream model position angles zero
    exact row_eq h (crownCalib_body_lidar hp model position angles lidar stream zero) (by decide)
  case cameraCalib =>
    intro s r p h hp camera sensor model position angles scales finite
    exact row_eq h (crownCalib_body_camera hp model position angles camera sensor scales finite) (by decide)
  case outbuf =>
    intro s r p x h hp hx known loaded idle unit grid even odd
    exact row_eq h (crownOutbuf_body hp (hx.trans (offered_slot ..).symm) known loaded unit idle grid even odd) (by decide)
  case start =>
    rintro s r _ h rfl known unit loaded placed flag
    rw [← offered_slot s verbCrownStart r] at unit loaded placed
    exact row_eq h ((crownStart_body rfl rfl known loaded unit placed (by omega)).trans (by rw [flag]; rfl)) (by decide)
  case startFresh =>
    rintro s r _ h rfl known unit loaded placed flag
    rw [← offered_slot s verbCrownStart r] at unit loaded placed
    exact row_eq h ((crownStart_body rfl rfl known loaded unit placed (by omega)).trans (by rw [flag]; rfl)) (by decide)
  case stop =>
    rintro s a r _ h rfl known unit loaded placed ha
    exact row_eq h (crownStop_body rfl (offered_slot ..).symm known loaded unit placed ha) (by decide)
  case hostbuf =>
    intro s r p x h hp hx known loaded idle unit even odd
    exact row_eq h (crownHostbuf_body hp (hx.trans (offered_slot ..).symm) known loaded unit idle even odd) (by decide)
  case result =>
    intro s r p x es h hp hx hes known loaded unit host owner begun named own once finite inTime applied
    obtain ⟨-, hostFn, -⟩ := offered_reads s verbCrownResult r
    exact row_eq h (crownResult_body hp rfl (hx.trans (offered_slot ..).symm) known loaded unit hes (hostFn _).symm host owner
      begun named own once finite inTime applied) (by decide)

end Sys2Proof.Machine
end

section
/-! Granary (spec 10): the period, tile writes and the close of a file, and the GRANARY verbs. A row's lemma gives its command
under the row's conditions; a verb's lemma, its effect. -/

namespace Sys2Proof.Machine

/-! ### The period, tile writes and the close of a file (10 R243, R246, R251, R254) -/

section GranaryRows

variable {s : State}

/-- Granary at the end of a period, its flow updates taken. -/
def State.granPeriodEnd (s : State) : State := (s.boundary 160 100000000 0).modGran (fun g => { g with flow := [] })

/-- A tile is due 60 s after its oldest change and after its last write. -/
def GranTile.due (t : GranTile) : Nat :=
  let due := t.changed.getD 0 + 60000000000
  match t.written with
  | some w => max due (w + 60000000000)
  | none => due

/-- A tile's instant is put off while 16 writes lie within its last minute. -/
def State.tileInstant (s : State) (t : GranTile) : Nat :=
  let lim := s.granary.writes.filter (fun w => decide (max s.hw t.due < w + 60000000000))
  if lim.length ≥ 16 then max t.due (lim.getD 15 0 + 60000000000) else t.due

/-- The open file joins the closed ones and is no longer mapped. -/
def Granary.fileClosed (g : Granary) : Granary :=
  { g with files := g.files ++ g.file.toList, file := none, closing := none, stopped := false, mapping := false, full := false,
           marked := none }

variable (runs : s.running 0x43 0 = true) (on : s.trunkOn = true)
include runs on

theorem execGranaryPeriod_hardware (configured : s.granPeriodEnd.granary.configured = true)
    (hardware : s.granPeriodEnd.isHost granKey = false) :
    execGranaryPeriod s =
      .next ((s.granPeriodEnd.granFlow (s.boundary 160 100000000 0).granary.flow).granTurn) := by
  unfold State.granPeriodEnd at configured hardware ⊢
  simp only [execGranaryPeriod, runs, on, configured, hardware, Bool.not_true, Bool.or_self, Bool.false_eq_true, ↓reduceIte]

theorem execGranaryPeriod_unconfigured (bare : s.granPeriodEnd.granary.configured = false) :
    execGranaryPeriod s = .next s.granPeriodEnd.granTurn := by
  unfold State.granPeriodEnd at bare ⊢
  simp only [execGranaryPeriod, runs, on, bare, Bool.not_true, Bool.not_false, Bool.or_self, Bool.false_eq_true, ↓reduceIte]

variable {f : GranFile} (file : s.granary.file = some f) (writable : s.attic.readOnly = false) (sound : s.attic.fault = false)
include file writable sound

/-- The tile changed longest ago is written at its instant. -/
theorem execGranaryTileWrite_oldest {q : GranTile} (oldest : oldestTile f.tiles = some q) :
    execGranaryTileWrite s =
      .next ((s.waitTo (s.tileInstant q)).granWrite (fun x => x.east == q.east && x.north == q.north)) := by
  simp only [execGranaryTileWrite, file, runs, on, writable, sound, oldest, Bool.not_true, Bool.or_self, Bool.false_eq_true,
    ↓reduceIte]
  rfl

/-- A stopped file whose tiles are all written is closed and its close completed. -/
theorem execGranaryFileClosed_written {a : State} {op : Op} (closing : s.granary.closing = some op)
    (stopped : s.granary.stopped = true) (ha : a = s.granWrite (fun t => t.changed.isSome))
    (written : a.granary.file.any (fun x => x.tiles.any (fun t => t.changed.isSome)) = false) :
    execGranaryFileClosed s =
      .next (((if a.granary.full then a.clearFault 0xA006 0x43 0 else a).modGran Granary.fileClosed).complete op 0x43 0 228 0xA002
        stDone f.field f.tiles.length) := by
  simp only [execGranaryFileClosed, closing, file, runs, stopped, on, writable, sound, ← ha, written, Bool.not_true, Bool.or_self,
    Bool.false_eq_true, ↓reduceIte]
  rfl

end GranaryRows

/-! ### The GRANARY verbs (10 R253-R256) -/

section GranaryVerbs

variable {s : State} {r : Req} {p : List Byte}

/-- The offer of a command leaves Granary. -/
theorem offered_granary (s : State) (v : Verb) (r : Req) : (s.offered v r).granary = s.granary := by
  simp only [State.offered_leaves]

theorem offered_time (s : State) (v : Verb) (r : Req) : (s.offered v r).time = s.time := by
  simp only [State.offered_leaves]

/-- Settings in range without a moisture signal, of sections and a readable flow signal, wait for the period end while no file is
open. -/
theorem granaryConfig_body (hp : p = r.payload) (flow : u16 p 0 < 0x1000) (dry : u16 p 2 = 0xFFFF) (tau : 80 ≤ u16 p 4)
    (tau' : u16 p 4 ≤ 200) (window : u16 p 6 ≤ 100) (source : u8 p 8 = 0) (side : u8 p 10 ≤ 1)
    (x : fLe (fInt (-5)) (f32 p 12) = true ∧ fLe (f32 p 12) (fNat 20) = true)
    (y : fLe (fInt (-10)) (f32 p 16) = true ∧ fLe (f32 p 16) (fNat 10) = true)
    (moist : fLe fZero (f32 p 20) = true ∧ fLe (f32 p 20) (fNat 50) = true) (readable : s.sigReadable r.win (u16 p 0) = true)
    (closed : s.granary.file = none) :
    verbGranaryConfig.body r s = ((s.modGran (fun g => { g with pendCfg := some p })).dirty, stDone, []) := by
  subst hp
  simp only [verbGranaryConfig, flow, dry, tau, tau', window, source, side, x, y, moist, readable, closed, Nat.zero_le,
    Option.isSome_none, beq_self_eq_true, zero_ne_one, or_true, true_or, and_self, false_and, decide_true, Bool.and_self,
    Bool.true_or, Bool.not_true, Bool.or_self, Bool.false_eq_true, ↓reduceIte]

/-- A whole list of sections, each in range and with a readable signal or none, not wider than 60 m together, waits for the
period end. -/
theorem granarySections_body {l : List GranSection} (hp : p = r.payload)
    (hl : l = (List.range (u8 p 0)).map (fun i => ({ sig := u16 p (4 + 8 * i), width := f32 p (8 + 8 * i) } : GranSection)))
    (one : 1 ≤ u8 p 2) (few : u8 p 2 ≤ 16) (first : u8 p 1 = 0) (whole : u8 p 0 = u8 p 2)
    (fields : l.all (fun x => (x.sig == 0xFFFF || decide (x.sig < 0x1000)) && fLe (fFrac 1 10) x.width &&
      fLe x.width (fNat 20)) = true)
    (readable : l.all (fun x => x.sig == 0xFFFF || s.sigReadable r.win x.sig) = true)
    (narrow : fLe (fSum (l.map (·.width))) (fNat 60) = true) :
    verbGranarySections.body r s =
      (((s.modGran (fun g => { g with building := [], buildTotal := 0 })).modGran (fun g => { g with pendSec := some l })).dirty,
        stDone, []) := by
  have complete : ¬l.length < u8 p 2 := by simp [hl, whole]
  subst hp
  simp only [verbGranarySections, ← hl, one, few, first, whole.le, fields, readable, complete, narrow, zero_add,
    beq_self_eq_true, and_self, decide_true, Bool.and_self, Bool.true_or, Bool.not_true, Bool.false_eq_true, ↓reduceIte]

/-- A finite curve over rising inputs waits for the period end. -/
theorem granaryCalib_body {l : List (F32 × F32)}
    (hl : l = (List.range (u8 r.payload 0)).map (fun i => (f32 r.payload (4 + 8 * i), f32 r.payload (8 + 8 * i))))
    (finite : l.all (fun e => fFinite e.1 && fFinite e.2) = true)
    (rising : (List.range (l.length - 1)).all (fun i => fLt (l.getD i (0, 0)).1 (l.getD (i + 1) (0, 0)).1) = true) :
    verbGranaryCalib.body r s = ((s.modGran (fun g => { g with pendCurve := some l })).dirty, stDone, []) := by
  simp only [verbGranaryCalib, ← hl, finite, rising, Bool.and_self, ↓reduceIte]

section Open

variable (hp : p = r.payload) (res : u8 p 4 ≤ 2) (lat : dFinite (f64 p 8) = true) (lon : dFinite (f64 p 16) = true)
  (closed : s.granary.file = none)
include hp res lat lon closed

/-- GRANARY.OPEN creates the file of a field that has none. -/
theorem granaryOpen_body_new (absent : s.granary.files.find? (fun f => f.field == u32 p 0) = none) :
    verbGranaryOpen.body r s =
      ((s.modGran (fun g =>
        { g with file := some { GranFile.reset with
                   field := u32 p 0, res := u8 p 4, lat := f64 p 8, lon := f64 p 16, created := (s.hw : Int) + s.time.gpsOfs,
                   createdHw := s.hw, epoch := s.time.epoch },
                 opening := 1, full := false })).dirty, stDone, []) := by
  subst hp
  simp only [verbGranaryOpen, res, lat, lon, closed, absent, decide_true, Bool.and_self, Bool.not_true, Bool.or_self,
    Bool.false_eq_true, ↓reduceIte]

/-- GRANARY.OPEN reopens a closed file of the same resolution and origin. -/
theorem granaryOpen_body_reopen {f : GranFile} (present : s.granary.files.find? (fun f => f.field == u32 p 0) = some f)
    (sameRes : f.res = u8 p 4) (sameLat : f.lat = f64 p 8) (sameLon : f.lon = f64 p 16) :
    verbGranaryOpen.body r s =
      ((s.modGran (fun g =>
        { g with file := some f.reopen, files := g.files.erase f, opening := 2, full := false })).dirty, stDone, []) := by
  subst hp
  simp only [verbGranaryOpen, res, lat, lon, closed, present, sameRes, sameLat, sameLon, ne_eq, not_true_eq_false, or_self,
    decide_true, Bool.and_self, Bool.not_true, Bool.or_self, Bool.false_eq_true, ↓reduceIte]

end Open

/-- GRANARY.CLOSE of an open file that is not being closed is accepted. -/
theorem granaryClose_body (isOpen : s.granary.file.isNone = false) (standing : s.granary.closing = none) :
    verbGranaryClose.body r s =
      ((s.modGran (fun g => { g with closing := some { win := r.win, tag := r.tag } })).dirty, stAccepted, []) := by
  simp only [verbGranaryClose, isOpen, standing, Option.isSome_none, Bool.or_self, Bool.false_eq_true, ↓reduceIte]

theorem granaryCorrect_body_mark (mark : u8 r.payload 0 = 0) :
    verbGranaryCorrect.body r s =
      (s.modGran (fun g => { g with marked := some ((s.granary.file.map (·.total)).getD fZero) }), stDone, []) :=
  if_pos mark

/-- With a mark, a factor from 0.5 to 2 waits for the next period. -/
theorem granaryCorrect_body_apply {m c : F32} (factor : u8 r.payload 0 = 1) (marked : s.granary.marked = some m)
    (hc : c = fDiv (fMul (s.granary.pendCorr.getD s.granary.corr) (f32 r.payload 4))
      (fSub ((s.granary.file.map (·.total)).getD fZero) m))
    (low : fLe (fFrac 1 2) c = true) (high : fLe c (fNat 2) = true) :
    verbGranaryCorrect.body r s = ((s.modGran (fun g => { g with pendCorr := some c })).dirty, stDone, []) := by
  simp only [verbGranaryCorrect, factor, marked, ← hc, low, high, one_ne_zero, gt_iff_lt, lt_irrefl, Bool.and_self, ↓reduceIte]

/-- GRANARY.HOSTBUF sets the buffer where the function is the hardware's and stays so and both regions hold a flow block. -/
theorem granaryHostbuf_body (even : s.regionCheck r.win (u8 r.payload 0) 3264 = none)
    (odd : s.regionCheck r.win (u8 r.payload 1) 3264 = none) (hardware : s.isHost granKey = false)
    (stays : (s.hostFn granKey).pending = none) :
    verbGranaryHostbuf.body r s = ((s.modGran (fun g => { g with hostBuf := hostBufOf r })).dirty, stDone, []) := by
  simp only [verbGranaryHostbuf, hostBufOf, even, odd, hardware, stays, Option.none_beq_some, Bool.or_self,
    Bool.false_eq_true, ↓reduceIte]

/-- A result in range and in time for the period begun last, of the function's owner, with which the function goes on or resumes,
is mapped at the end of the period that waits for it. -/
theorem granaryResult_body {h : HostFn} {a : State} {tk : Nat} (hp : p = r.payload) (hh : h = s.hostFn granKey)
    (host : h.host = true) (owner : h.owner = r.win) (named : u32 p 0 ≠ 0) (last : h.k = u32 p 0)
    (flow : fLe fZero (f32 p 4) = true ∧ fLe (f32 p 4) (fNat 100) = true) (measured : fIsNan (f32 p 8) = false)
    (finite : fFinite (f32 p 8) = true) (inTime : s.hostInTime granKey (u32 p 0) = true)
    (applied : (s.hostResult granKey).2 = true) (waits : (s.hostResult granKey).1.granary.pend = some tk)
    (ha : a = (s.hostResult granKey).1.modGran (fun g => { g with pend := none })) :
    verbGranaryResult.body r s =
      ((a.modGran (fun g => { g with hostQ := (f32 p 4, f32 p 8, bit (u8 p 12) 0, false) })).granLate tk (bit (u8 p 12) 0) false
        (f32 p 4) (f32 p 8) false, stDone, []) := by
  subst hp ha
  simp only [verbGranaryResult, ← hh, host, owner, last, beq_eq_false_iff_ne.mpr named, flow, measured, finite, inTime, applied,
    waits, beq_self_eq_true, gt_iff_lt, lt_irrefl, decide_false, Bool.and_self, Bool.false_or, Bool.not_true, Bool.or_self,
    Bool.false_eq_true, ↓reduceIte]

end GranaryVerbs

/-- Settles O36: each row's command under its conditions is given by its row's lemma; a verb's effect is that on the offered
state, whose Granary, clock and host functions are those of `s`. -/
theorem granaryRowsComplete : Obligations.GranaryRowsComplete := by
  refine ⟨?period, ?unconfigured, ?tileWrite, ?fileClosed, ?status, ?config, ?sections, ?calib, ?openNew, ?reopen, ?close, ?mark,
    ?apply, ?hostbuf, ?result⟩
  case period =>
    rintro s _ runs on rfl configured hardware
    exact execGranaryPeriod_hardware runs on configured hardware
  case unconfigured =>
    rintro s _ runs on rfl bare
    exact execGranaryPeriod_unconfigured runs on bare
  case tileWrite =>
    rintro s f q _ _ _ _ file runs on writable sound oldest rfl rfl rfl rfl
    exact execGranaryTileWrite_oldest runs on file writable sound oldest
  case fileClosed =>
    intro s a op f closing file runs stopped on writable sound ha written
    exact execGranaryFileClosed_written runs on file writable sound closing stopped ha written
  case status =>
    rintro s r _ _ _ h rfl rfl rfl
    exact row_eq h (by rw [← offered_granary s verbGranaryStatus r]; rfl) (by decide)
  case config =>
    intro s r p h hp flow dry tau tau' window source side x x' y y' moist moist' readable closed
    exact row_eq h (granaryConfig_body hp flow dry tau tau' window source side ⟨x, x'⟩ ⟨y, y'⟩ ⟨moist, moist'⟩ readable
      ((congrArg _ (offered_granary ..)).trans closed)) (by decide)
  case sections =>
    intro s r p l h hp hl one few first whole fields readable narrow
    obtain ⟨-, -, -, -, -, -, -, -, sigReadable, -⟩ := offered_reads s verbGranarySections r
    simp only [← sigReadable] at readable
    exact row_eq h (granarySections_body hp hl.symm one few first whole fields readable narrow) (by decide)
  case calib => exact fun s r l h hl finite rising => row_eq h (granaryCalib_body hl finite rising) (by decide)
  case openNew =>
    intro s r p h hp res lat lon closed absent
    rw [← offered_granary s verbGranaryOpen r] at closed absent
    rw [← offered_hw s verbGranaryOpen r, ← offered_time s verbGranaryOpen r]
    exact row_eq h (granaryOpen_body_new hp res lat lon closed absent) (by decide)
  case reopen =>
    intro s r p f h hp res lat lon closed present sameRes sameLat sameLon
    rw [← offered_granary s verbGranaryOpen r] at closed present
    exact row_eq h (granaryOpen_body_reopen hp res lat lon closed present sameRes sameLat sameLon) (by decide)
  case close =>
    intro s r h isOpen standing
    rw [← offered_granary s verbGranaryClose r] at isOpen standing
    exact row_eq h (granaryClose_body isOpen standing) (by decide)
  case mark =>
    intro s r h mark
    rw [← offered_granary s verbGranaryCorrect r]
    exact row_eq h (granaryCorrect_body_mark mark) (by decide)
  case apply =>
    intro s r m c h factor marked hc low high
    rw [← offered_granary s verbGranaryCorrect r] at marked hc
    exact row_eq h (granaryCorrect_body_apply factor marked hc low high) (by decide)
  case hostbuf =>
    intro s r h even odd hardware stays
    obtain ⟨-, hostFn, isHost, -⟩ := offered_reads s verbGranaryHostbuf r
    exact row_eq h (granaryHostbuf_body even odd (by rwa [isHost]) (by rwa [hostFn])) (by decide)
  case result =>
    intro s r p tk h hp host owner named last flow flow' measured finite inTime applied waits
    obtain ⟨-, hostFn, -⟩ := offered_reads s verbGranaryResult r
    exact row_eq h (granaryResult_body hp (hostFn granKey).symm host owner named last ⟨flow, flow'⟩ measured finite inTime applied
      waits rfl) (by decide)

end Sys2Proof.Machine
end

section
/-! Protected outputs and H-bridges (spec 11): the timed and the protection rows of the outputs, and the rows and verbs of the
bridges. A row's lemma gives its command under the row's conditions; a verb's lemma, its effect. -/

namespace Sys2Proof.Machine

/-! ### The timed rows of the outputs (11 R260, R261, R264-R267, R269, R272, R273) -/

section OutputTimedRows

variable {s a b d e : State} {o : Nat}

section Running

variable (runs : s.outRuns o = true)
include runs

section Pwm

variable (periodic : (s.out o).cfg.mode = 2 ∨ (s.out o).ramp.isSome = true)
include periodic

/-- A period of a channel, or a step of its soft start, with no configuration waiting. -/
theorem execOutPwmPeriod_settled (none : (s.out o).pend = none) :
    execOutPwmPeriod o s = .next ((s.pwmBoundary o).outEval o true) := by
  have periods : ((s.out o).cfg.mode == 2 || (s.out o).ramp.isSome) = true := by simpa using periodic
  simp only [execOutPwmPeriod, runs, periods, none, Bool.not_true, Bool.or_self, Bool.false_eq_true, ↓reduceIte]

/-- The waiting configuration is taken at the period, with another period or phase of PWM at the first new one. -/
theorem execOutPwmPeriod_waiting {g : OutCfg} (waiting : (s.out o).pend = some g)
    (ha : a = (let b := s.pwmBoundary o
      if g.mode = 2 ∧ (s.out o).lamp.isNone ∧ (g.periodNs ≠ (s.out o).cfg.periodNs ∨ g.phaseNs ≠ (s.out o).cfg.phaseNs) then
        b.waitTo (if b.hw ≤ g.phaseNs then g.phaseNs
          else g.phaseNs + (b.hw - g.phaseNs + g.periodNs - 1) / g.periodNs * g.periodNs)
      else b)) :
    execOutPwmPeriod o s = .next
      (((a.modOut o (fun c => { c with cfg := g, pend := none, ramp := if g.mode = 2 && g.softStart then c.ramp else none,
                                       mailbox := if g.mode = 2 then c.mailbox else fZero })).safetyEval).outEval o true) := by
  have periods : ((s.out o).cfg.mode == 2 || (s.out o).ramp.isSome) = true := by simpa using periodic
  subst ha
  simp only [execOutPwmPeriod, runs, periods, waiting, Bool.not_true, Bool.or_self, Bool.false_eq_true, ↓reduceIte]

end Pwm

theorem execOutInrushWindowEnd_due {t : Nat} (due : (s.out o).inrushEnd = some t) (ha : a = s.waitTo t)
    (hb : b = a.modOut o (fun c => { c with inrushEnd := none, retryPwm := false, retryOn := false, testDue := false }))
    (hd : d = (if (a.out o).retryPwm then (b.modOut o (fun c => { c with skip := true })).clearFault 0x4004 0x22 o
      else b).outEval o false)
    (he : e = (if (a.out o).retryPwm then d.modOut o (fun c => { c with skip := c.cfg.mode == 2 && !c.on }) else d)) :
    execOutInrushWindowEnd o s = .next (if (a.out o).testDue then e.testStart o else e) := by
  subst ha hb hd he
  simp only [execOutInrushWindowEnd, due, runs, Bool.not_true, Bool.false_eq_true, ↓reduceIte]

theorem execOutRetryPwmPhase_cool (retries : (s.out o).retryPwm = true) (cool : (s.group (groupOf o)).dieC < 1400) :
    execOutRetryPwmPhase o s = .next
      (((s.boundary (182 + 1000 * o) 1000000 0).modOut o (fun c => { c with retryOn := true })).outEval o true) := by
  simp only [execOutRetryPwmPhase, runs, retries, ge_iff_le, Int.not_le.mpr cool, decide_false, Bool.not_true, Bool.or_self,
    Bool.false_eq_true, ↓reduceIte]

/-- The clamps of a channel and its group with the contributions that have left the 1 s window taken out. -/
def State.clampsExpired (s : State) (o : Nat) : State :=
  (s.modOut o (fun c => { c with clamps := clampLive s.hw c.clamps })).modGroup (groupOf o)
    (fun x => { x with clamps := clampLive s.hw x.clamps })

theorem execOutClampExpire_unlocked {t n : Nat} {rest : List (Nat × Nat)} (oldest : (s.out o).clamps = (t, n) :: rest)
    (channelFree : (((s.waitTo t).clampsExpired o).out o).clampLock = none)
    (groupFree : (((s.waitTo t).clampsExpired o).group (groupOf o)).lock = none) :
    execOutClampExpire o s = .next
      ((groupChs (groupOf o)).foldl (fun (s : State) o => s.outEval o false) ((s.waitTo t).clampsExpired o)) := by
  unfold State.clampsExpired at channelFree groupFree ⊢
  simp only [execOutClampExpire, oldest, runs, State.modOut_leaves, channelFree, groupFree, Bool.not_true, Bool.false_eq_true, ↓reduceIte]

theorem execOutTestDue_idle (tagged : (s.out o).cfg.tagged = true) (tested : (s.out o).cfg.testMs ≠ 0)
    (idle : (s.out o).testing = none) (ha : a = s.boundary (189 + 1000 * o) ((s.out o).cfg.testMs * 1000000) 0) :
    execOutTestDue o s = .next
      (if a.inWindow o then a.modOut o (fun c => { c with testDue := true })
       else if (a.out o).on then a.testStart o
       else a.modOut o (fun c => { c with testing := some (a.hw, 200), pulse := false })) := by
  subst ha
  simp only [execOutTestDue, runs, tagged, beq_eq_false_iff_ne.mpr tested, idle, Option.isSome_none, Bool.not_true, Bool.or_self,
    Bool.false_eq_true, ↓reduceIte]
  split
  · rfl
  · split
    · rfl
    · next off => simp only [State.testStart, Bool.eq_false_of_not_eq_true off, Bool.not_false, ↓reduceIte]

/-- Below 2 V at the end of a test the output is as commanded, and a stuck one is free again. -/
theorem execOutTestReadback_low {mv t len : Nat} (testing : (s.out o).testing = some (t, len)) (ha : a = s.waitTo (t + len * 1000))
    (hb : b = (a.modOut o (fun c =>
      { c with testing := none, pulse := false, on := c.on || (c.pulse && !a.clampLocked o),
               offSince := if c.pulse && a.clampLocked o then a.hw else c.offSince })).outEval o false) (low : mv < 2000) :
    execOutTestReadback o mv s = .next
      (if (a.out o).stuck then (b.modOut o (fun c => { c with stuck := false })).clearFault 0x4007 0x22 o else b) := by
  subst ha hb
  simp only [execOutTestReadback, testing, runs, ge_iff_le, Nat.not_le_of_lt low, Bool.not_true, Bool.false_eq_true, ↓reduceIte]

end Running

section Sampled

variable (runs : s.running 0x22 0 = true)
include runs

theorem execOutCurrentUpdate_running (samples : List (Nat × F32 × Nat)) :
    execOutCurrentUpdate samples s = .next ((List.range 72).foldl (State.outCurrent samples) (s.boundary 180 1000000 0)) := by
  simp only [execOutCurrentUpdate, runs, ↓reduceIte]

/-- A group's die sample: at 140 degrees the retry phases end, at 150 the channels are judged. -/
theorem execOutDieSample_group {g : Nat} {c : Int} {curs : List (Nat × Nat)} (hg : g < 19)
    (ha : a = (s.boundary 181 100000 0).modGroup g (fun x => { x with dieC := c, hot := decide (c ≥ 1500) }))
    (hb : b = (if c ≥ 1400 then (groupChs g).foldl (fun (u : State) o =>
        if (u.out o).retryOn then (u.modOut o (fun x => { x with retryOn := false })).outEval o false else u) a
      else a))
    (hd : d = (if c ≥ 1500 then (groupChs g).foldl (State.dieChannel c curs) b else b)) :
    execOutDieSample [(g, c)] curs s = .next ((groupChs g).foldl (fun (u : State) o =>
      if (u.out o).retryOn && u.clampLocked o then u.outEval o false else u) d) := by
  subst ha hb hd
  simp only [execOutDieSample, runs, List.foldl_cons, List.foldl_nil, ge_iff_le, Nat.not_le_of_lt hg, Bool.not_true,
    Bool.false_eq_true, ↓reduceIte]

end Sampled

section ParkHold

variable {k : Nat} (driving : (s.parkSlot k).driving = true)
include driving

theorem execOutParkPatternEdge_flashing {edge : Nat} (holds : (s.parkSlot k).out = some o)
    (flashes : (s.parkSlot k).flash = true) (untripped : (s.parkSlot k).tripped = 0)
    (hedge : edge = (s.parkSlot k).edgeAt + (if (s.parkSlot k).level then (s.parkSlot k).onMs else (s.parkSlot k).offMs) *
      (if s.parked then 32768 else 1000000))
    (ha : a = (if s.parked then { s with time.parkPeriods := max s.time.parkPeriods (edge / 1000) } else s.waitTo edge)) :
    execOutParkPatternEdge k s = .next
      ((a.modPark k (fun h => { h with level := !h.level, edgeAt := edge })).parkGate o) := by
  subst hedge ha
  simp only [execOutParkPatternEdge, holds, driving, flashes, untripped, bne_self_eq_false, Bool.not_true, Bool.or_self,
    Bool.false_eq_true, ↓reduceIte]

variable (parked : s.parked = true)
include parked

theorem execOutParkTimeLimit_parked {t : Nat} (limit : (s.parkSlot k).endAt = some t) :
    execOutParkTimeLimit k s = .next { (s.parkRelease k) with time.parkPeriods := max s.time.parkPeriods t } := by
  simp only [execOutParkTimeLimit, limit, parked, driving, Bool.and_self, ↓reduceIte]

theorem execOutParkTrip_first {cause : Nat} (holds : (s.parkSlot k).out = some o) (untripped : (s.parkSlot k).tripped = 0)
    (known : cause = 1 ∨ cause = 2) :
    execOutParkTrip k cause s = .next ((s.modPark k (fun h =>
      { h with tripped := cause, tripAt := s.time.parkPeriods / 32768, level := false })).parkGate o) := by
  have named : (cause == 1 || cause == 2) = true := by simpa using known
  simp only [execOutParkTrip, holds, parked, driving, untripped, named, bne_self_eq_false, Bool.not_true, Bool.or_self,
    Bool.false_eq_true, ↓reduceIte]

end ParkHold

end OutputTimedRows

/-- Settles O42: each row's command under its conditions is given by its row's lemma. -/
theorem outputTimedRowsComplete : Obligations.OutputTimedRowsComplete := by
  refine ⟨?settled, ?waiting, ?inrush, ?current, ?die, ?retry, ?clamp, ?testDue, ?readback, ?edge, ?limit, ?trip⟩
  case settled => exact fun s o runs periodic none => execOutPwmPeriod_settled runs periodic none
  case waiting => exact fun s a o g runs periodic waiting ha => execOutPwmPeriod_waiting runs periodic waiting ha
  case inrush => exact fun s a b d e o t due runs ha hb hd he => execOutInrushWindowEnd_due runs due ha hb hd he
  case current => exact fun s samples runs => execOutCurrentUpdate_running runs samples
  case die => exact fun s a b d g c curs runs hg ha hb hd => execOutDieSample_group runs hg ha hb hd
  case retry => exact fun s o runs retries cool => execOutRetryPwmPhase_cool runs retries cool
  case clamp =>
    exact fun s o t n rest oldest runs channelFree groupFree => execOutClampExpire_unlocked runs oldest channelFree groupFree
  case testDue => exact fun s a o runs tagged tested idle ha => execOutTestDue_idle runs tagged tested idle ha
  case readback => exact fun s a b o mv t len testing runs ha hb low => execOutTestReadback_low runs testing ha hb low
  case edge =>
    exact fun s a k o edge holds driving flashes untripped hedge ha =>
      execOutParkPatternEdge_flashing driving holds flashes untripped hedge ha
  case limit => exact fun s k t limit parked driving => execOutParkTimeLimit_parked driving parked limit
  case trip =>
    exact fun s k cause o holds parked driving untripped known => execOutParkTrip_first driving parked holds untripped known

/-! ### The protection rows of the outputs (11 R258, R263, R264, R266-R268) -/

section OutputProtectionRows

variable {s a b : State} {o : Nat}

/-- A group at 175 degrees shuts down, and its channels with it. -/
theorem execOutGroupShutdown_hot {g temp : Nat} (runs : s.running 0x22 0 = true) (hg : g < 19) (hot : 1750 ≤ temp)
    (up : (s.group g).shutdown = false) :
    execOutGroupShutdown g temp s = .next ((groupChs g).foldl (fun (s : State) o => (s.outEval o false).outShow o)
      ((s.modGroup g (fun x => { x with shutdown := true, dieC := temp, hot := true })).raiseEv 0x22 (0x100 + g) (128 + g) 0x4004 3
        (0x100 + g) temp 3 0)) := by
  simp only [execOutGroupShutdown, runs, up, ge_iff_le, Nat.not_le_of_lt hg, Nat.not_lt_of_le hot, decide_false, Bool.not_true,
    Bool.false_and, Bool.true_or, Bool.or_self, Bool.false_eq_true, ↓reduceIte]

variable (runs : s.outRuns o = true)
include runs

/-- A current that has lasted its filter time latches the channel off. -/
theorem execOutLatched_filtered {peak k : Nat} (cause : s.latchCause o peak = k) (on : (s.out o).on = true) (above : k ≠ 0)
    (unlatched : (s.out o).latched = 0) (filtered : s.latchFiltered o k = true)
    (hb : ((s.modOut o (fun c => { c with latched := k, mailbox := fZero })).raiseEv 0x22 o (128 + groupOf o) 0x4001 4 o k peak
      (b2n (s.inWindow o))).outEval o false = b) :
    execOutLatched o peak s = .next (b.outShow o) := by
  simp only [execOutLatched, cause, runs, on, beq_eq_false_iff_ne.mpr above, unlatched, filtered, hb, bne_self_eq_false,
    Bool.true_or, Bool.not_true, Bool.or_self, Bool.false_eq_true, ↓reduceIte]

/-- A clamp's energy joins the contributions of its channel and group. -/
theorem execOutClampEnd_within {energy : Nat}
    (ha : a = (s.modOut o (fun c => { c with clamps := clampLive s.hw c.clamps ++ [(s.hw + 1000000000, energy)] })).modGroup
      (groupOf o) (fun x => { x with clamps := clampLive s.hw x.clamps ++ [(s.hw + 1000000000, energy)] }))
    (channel : clampSum (a.out o).clamps < chBudget (outClass o))
    (group : clampSum (a.group (groupOf o)).clamps < groupBudget (outClass o)) :
    execOutClampEnd o energy s = .next a := by
  simp only [execOutClampEnd, runs, State.modOut_leaves, ← ha, ge_iff_le, Nat.not_le_of_lt channel, Nat.not_le_of_lt group,
    false_and, Bool.not_true, Bool.false_eq_true, ↓reduceIte]

/-- A channel that is on draws less than its threshold for 50 ms. -/
theorem execOutOpenLoad_on {cur mv : Nat} (configured : (s.out o).cfg.mode ≠ 0) (connected : (s.out o).openLoad = false)
    (on : (s.out o).on = true) (low : cur < (s.out o).openThr o) (long : (s.out o).onSince + 50000000 ≤ s.hw) :
    execOutOpenLoad o cur mv s = .next
      (((s.modOut o (fun c => { c with openLoad := true, diagAt := s.hw })).raiseEv 0x22 o (128 + groupOf o) 0x4005 2 o cur 0
        0).outShow o) := by
  simp only [execOutOpenLoad, runs, bne_iff_ne.mpr configured, connected, on, low, ge_iff_le, long, and_self, decide_true,
    Bool.and_self, Bool.not_true, Bool.or_self, Bool.false_eq_true, ↓reduceIte]

theorem execOutShortBat_off {mv : Nat} (checked : s.offChecked o = true) (sound : (s.out o).shortBat = false) (high : 7000 < mv) :
    execOutShortBat o mv s = .next
      (((s.modOut o (fun c => { c with shortBat := true, diagAt := s.hw })).raiseEv 0x22 o (128 + groupOf o) 0x4006 3 o mv 0
        0).outShow o) := by
  simp only [execOutShortBat, runs, checked, sound, Nat.not_le_of_lt high, decide_false, Bool.not_true, Bool.or_self,
    Bool.false_eq_true, ↓reduceIte]

variable (absent : (s.out o).diagAt + 100000000 ≤ s.hw)
include absent

theorem execOutDiagEnd_openLoad (standing : (s.out o).openLoad = true) :
    execOutDiagEnd o 0 s = .next ((s.modOut o (fun c => { c with openLoad := false })).clearFault 0x4005 0x22 o) := by
  simp only [execOutDiagEnd, runs, Nat.not_lt_of_le absent, standing, decide_false, and_self, Bool.not_true, Bool.or_self,
    Bool.false_eq_true, ↓reduceIte]

theorem execOutDiagEnd_shortBat (standing : (s.out o).shortBat = true) :
    execOutDiagEnd o 1 s = .next ((s.modOut o (fun c => { c with shortBat := false })).clearFault 0x4006 0x22 o) := by
  simp only [execOutDiagEnd, runs, Nat.not_lt_of_le absent, standing, decide_false, one_ne_zero, false_and, and_self,
    Bool.not_true, Bool.or_self, Bool.false_eq_true, ↓reduceIte]

end OutputProtectionRows

/-- Settles O43: each row's command under its conditions is given by its row's lemma. -/
theorem outputProtectionRowsComplete : Obligations.OutputProtectionRowsComplete := by
  refine ⟨?latched, ?shutdown, ?clamp, ?openLoad, ?shortBat, ?openEnd, ?shortEnd⟩
  case latched =>
    exact fun s b o peak k cause runs on above unlatched filtered hb => execOutLatched_filtered runs cause on above unlatched filtered hb
  case shutdown => exact fun s g temp runs hg hot up => execOutGroupShutdown_hot runs hg hot up
  case clamp => exact fun s a o energy runs ha channel group => execOutClampEnd_within runs ha channel group
  case openLoad =>
    exact fun s o cur mv runs configured connected on low long => execOutOpenLoad_on runs configured connected on low long
  case shortBat => exact fun s o mv runs checked sound high => execOutShortBat_off runs checked sound high
  case openEnd => exact fun s o runs standing absent => execOutDiagEnd_openLoad runs absent standing
  case shortEnd => exact fun s o runs standing absent => execOutDiagEnd_shortBat runs absent standing

/-! ### The rows of the H-bridges (11 R270, R276-R279) -/

section BridgeRows

variable {s a b : State} {n : Nat}

/-- The state after a counted ripple of a bridge: its position a step on in the direction driven last, its period taken. -/
def State.rippleCounted (s : State) (n per : Nat) : State :=
  s.modHb n (fun b =>
    { b with pos := toSigned 32 (ofSigned 32 (b.pos + (if (s.hb n).dirNeg then -1 else 1))), lastRipple := some s.hw,
             periods := if b.lastRipple.isNone then [] else (per :: b.periods).take 8 })

/-- The period of a ripple differs from the one before by more than three times. -/
def Hb.rippleJump (b : Hb) (per : Nat) : Bool :=
  (match b.periods with | p :: _ => decide (per > 3 * p ∨ p > 3 * per) | [] => false) && b.lastRipple.isSome

/-- A ripple above 0.3 A of a bridge that is neither watched for a pinch, reversing nor moving to a target. -/
theorem execHbRipple_counts {cur per : Nat} (runs : s.hbRuns n = true) (counts : (s.hb n).ripple = true) (high : 300 < cur)
    (hper : per = (s.hw - (s.hb n).lastRipple.getD s.hw) / 1000) (ha : a = s.rippleCounted n per)
    (hb : b = (if (s.hb n).rippleJump per then (a.modHb n (fun b => { b with reliable := false })).raiseEv 0x23 n (147 + n) 0x4105 1
        n (ofSigned 32 (a.hb n).pos) (per * 100 / max 1 ((s.hb n).periods.headD 1)) 0
      else a))
    (unwatched : b.pinchWatch n = false) (unpinched : (b.hb n).pinch = none) (free : (b.hb n).target = none) :
    execHbRipple n cur s = .next b := by
  subst hper
  unfold State.rippleCounted at ha
  rcases last : (s.hb n).periods with _ | ⟨p, l⟩ <;>
    simp only [Hb.rippleJump, last, Bool.false_and, Bool.false_eq_true, ↓reduceIte] at hb <;>
    simp only [execHbRipple, runs, counts, Nat.not_le_of_lt high, ← ha, last, decide_false, Bool.false_and, Bool.true_or,
      Bool.not_true, Bool.or_self, Bool.false_eq_true, ↓reduceIte]
  · simp only [← hb, unwatched, unpinched, free, Bool.false_and, Bool.false_eq_true, ↓reduceIte]
  · simp only [← hb, unwatched, unpinched, free, Bool.false_and, Bool.false_eq_true, ↓reduceIte]

theorem execHbThermalEnd_cool {temp : Nat} (runs : s.hbRuns n = true) (cool : temp < 1400) (hot : (s.hb n).hot = true) :
    execHbThermalEnd n temp s = .next ((s.modHb n (fun b => { b with hot := false })).clearFault 0x4104 0x23 n) := by
  simp only [execHbThermalEnd, runs, ge_iff_le, Nat.not_le_of_lt cool, hot, decide_false, Bool.not_true, Bool.or_self,
    Bool.false_eq_true, ↓reduceIte]

section Live

variable (live : s.hbLive n = true)
include live

/-- The current of a driven bridge lasts its stall time, or 15 A last 500 ms. -/
theorem execHbStall_over {cur ms : Nat} (driven : (s.hb n).action = 1 ∨ (s.hb n).action = 2)
    (above : (cur > (s.hb n).stallDa * 100 ∧ ms ≥ (s.hb n).stallMs) ∨ (cur > 15000 ∧ ms ≥ 500))
    (long : (s.hb n).moveAt + ms * 1000000 ≤ s.hw) :
    execHbStall n cur ms s = .next (s.hbEnd n 2 true) := by
  have drives : ((s.hb n).action == 1 || (s.hb n).action == 2) = true := by simpa using driven
  simp only [execHbStall, live, drives, Nat.not_lt_of_le long, above, decide_false, Bool.not_true, Bool.or_self,
    Bool.false_eq_true, ↓reduceIte]

theorem execHbTimeLimit_due {t : Nat} (limit : (s.hb n).limitAt = some t) :
    execHbTimeLimit n s = .next ((s.waitTo t).hbEnd n 1 true) := by
  simp only [execHbTimeLimit, limit, live, ↓reduceIte]

theorem execHbReversalBrakeEnd_due {t k : Nat} {d : F32} (braking : (s.hb n).revPend = some (t, k, d))
    (unpinched : (s.hb n).pinch = none) :
    execHbReversalBrakeEnd n s = .next ((s.waitTo t).hbGo n k d) := by
  simp only [execHbReversalBrakeEnd, braking, unpinched, live, ↓reduceIte]

theorem execHbPinchReverse_due {t k : Nat} {d : F32} {p : Int} (braking : (s.hb n).revPend = some (t, k, d))
    (pinched : (s.hb n).pinch = some (0, p)) :
    execHbPinchReverse n s = .next (((s.waitTo t).hbGo n k d).modHb n (fun b => { b with pinch := some (1, b.pos) })) := by
  simp only [execHbPinchReverse, braking, pinched, live, Bool.not_true, Bool.false_eq_true, ↓reduceIte]

theorem execHbPinchTimeout_uncounted {p : Int} (reversing : (s.hb n).pinch = some (1, p)) (uncounted : (s.hb n).ripple = false) :
    execHbPinchTimeout n s = .next ((s.waitTo ((s.hb n).moveAt + 300000000)).hbEnd n 3 true) := by
  simp only [execHbPinchTimeout, reversing, live, uncounted, Bool.not_false, Bool.and_self, ↓reduceIte]

theorem execHbShort_over {cur : Nat} (above : 60000 ≤ cur) (sound : (s.hb n).shorted = false) :
    execHbShort n cur s = .next
      (((s.modHb n (fun b => { b with shorted := true })).hbEnd n 6 false).raiseEv 0x23 n (147 + n) 0x4103 4 n cur 0 0) := by
  simp only [execHbShort, live, Nat.not_lt_of_le above, sound, decide_false, Bool.not_true, Bool.or_self, Bool.false_eq_true,
    ↓reduceIte]

theorem execHbThermal_over {temp : Nat} (above : 1500 < temp) (cool : (s.hb n).hot = false) :
    execHbThermal n temp s = .next
      (((s.modHb n (fun b => { b with hot := true })).hbEnd n 6 false).raiseEv 0x23 n (147 + n) 0x4104 3 n temp 0 0) := by
  simp only [execHbThermal, live, Nat.not_le_of_lt above, cool, decide_false, Bool.not_true, Bool.or_self, Bool.false_eq_true,
    ↓reduceIte]

end Live

/-- One bridge at the 1 ms update: its current is shown, its cut judged and a pinch current detected. -/
def State.bridgeCurrent (samples : List (Nat × F32)) (s : State) (n : Nat) : State :=
  let v := ((samples.find? (fun e => e.1 == n)).map (·.2)).getD fZero
  let ma := (fRound (fAbs v) 1000).toNat
  let a := s.modHb n (fun b => { b with current := v, cut := (b.action == 1 || b.action == 2) && decide (ma > 40000) })
  let a := if a.running 0x23 0 then a.setSig (0xC8 + n) v a.hw fgValid else a
  if a.hbLive n && a.pinchWatch n && decide (ma > (a.hb n).pinchDa * 100) then a.hbPinch n ma 2 else a

theorem execHbCurrentUpdate_on (samples : List (Nat × F32)) (on : s.trunkOn = true) :
    execHbCurrentUpdate samples s = .next ((List.range 8).foldl (State.bridgeCurrent samples) (s.boundary 207 1000000 0)) := by
  simp only [execHbCurrentUpdate, on, Bool.not_true, Bool.false_eq_true, ↓reduceIte]
  rfl

section Verbs

variable {r : Req} {p : List Byte}

theorem offered_hb (s : State) (v : Verb) (r : Req) (n : Nat) : (s.offered v r).hb n = s.hb n := by
  simp only [State.offered_leaves]

/-- Settings in range that leave the safety tag are taken. -/
theorem hbConfig_body (hp : p = r.payload) (tag : bit (u8 p 1) 0 = (s.hb r.inst).tagged) (policy : u8 p 0 ≤ 1)
    (flags : u8 p 1 < 16) (stall : 20 ≤ u16 p 2 ∧ u16 p 2 ≤ 400) (stallMs : 20 ≤ u16 p 4 ∧ u16 p 4 ≤ 500)
    (blank : 50 ≤ u16 p 6 ∧ u16 p 6 ≤ 1000) (pinch : 10 ≤ u16 p 16 ∧ u16 p 16 ≤ 400) (percent : 10 ≤ u8 p 18 ∧ u8 p 18 ≤ 200)
    (count : 1 ≤ u16 p 20 ∧ u16 p 20 ≤ 10000) :
    verbHbConfig.body r s =
      ((s.modHb r.inst (fun b =>
        { b with policy := u8 p 0, owner := some r.win, tagged := bit (u8 p 1) 0, ripple := bit (u8 p 1) 1,
                 pinchFwd := bit (u8 p 1) 2, pinchRev := bit (u8 p 1) 3, stallDa := u16 p 2, stallMs := u16 p 4,
                 blankMs := u16 p 6, zoneLo := i32 p 8, zoneHi := i32 p 12, pinchDa := u16 p 16, pinchPct := u8 p 18,
                 revCount := u16 p 20, configured := true })).safetyEval.dirty, stDone, []) := by
  subst hp
  simp only [verbHbConfig, ← tag, policy, flags, stall, stallMs, blank, pinch, percent, count, bne_self_eq_false, Bool.and_false,
    and_self, Bool.false_eq_true, ↓reduceIte]

/-- A drive without a target of a free bridge that nothing locks. -/
theorem hbDrive_body (hp : p = r.payload) (unbound : (s.hb r.inst).boundBy = none) (drive : u8 p 0 = 1 ∨ u8 p 0 = 2)
    (endless : u8 p 1 = 0) (low : fLe (fFrac 1 20) (f32 p 4) = true) (high : fLe (f32 p 4) fOne = true) (limit : u32 p 12 ≤ 60000)
    (sound : (s.hb r.inst).shorted = false) (cool : (s.hb r.inst).hot = false) (allowed : (s.hb r.inst).safetyOff = false) :
    verbHbDrive.body r s =
      (s.hbMove r.inst (u8 p 0) (f32 p 4) (some { win := r.win, tag := r.tag }) none (u32 p 12), stAccepted, []) := by
  subst hp
  have action : ¬3 < u8 r.payload 0 := by omega
  have drives : (u8 r.payload 0 == 1 || u8 r.payload 0 == 2) = true := by simpa using drive
  simp only [verbHbDrive, unbound, drives, action, endless, low, high, Nat.not_lt_of_le limit, sound, cool, allowed, gt_iff_lt,
    Option.isSome_none, Nat.not_lt_zero, Nat.reduceBEq, zero_ne_one, decide_false, Bool.false_and, Bool.and_self, Bool.and_false,
    Bool.not_true, Bool.or_self, Bool.false_eq_true, ↓reduceIte]

theorem hbClear_body (shorted : (s.hb r.inst).shorted = true) :
    verbHbClear.body r s = ((s.modHb r.inst (fun b => { b with shorted := false })).clearFault 0x4103 0x23 r.inst, stDone, []) :=
  if_pos shorted

end Verbs

end BridgeRows

/-- Settles O45: each row's command under its conditions is given by its row's lemma; a verb's effect is that on the offered state,
whose bridges are those of `s`. -/
theorem bridgeRowsComplete : Obligations.BridgeRowsComplete := by
  refine ⟨?ripple, ?stall, ?limit, ?brakeEnd, ?pinchReverse, ?pinchTimeout, ?short, ?thermal, ?thermalEnd, ?current, ?status,
    ?config, ?drive, ?clear, fun s r h => row_eq h rfl (by decide)⟩
  case ripple =>
    intro s a b n cur per runs counts high _ _ hper ha hb unwatched unpinched free
    exact execHbRipple_counts runs counts high hper ha hb unwatched unpinched free
  case stall => exact fun s n cur ms live driven above long => execHbStall_over live driven above long
  case limit => exact fun s n t limit live => execHbTimeLimit_due live limit
  case brakeEnd => exact fun s n t k d braking unpinched live => execHbReversalBrakeEnd_due live braking unpinched
  case pinchReverse => exact fun s n t k d p braking pinched live => execHbPinchReverse_due live braking pinched
  case pinchTimeout => exact fun s n p reversing live uncounted => execHbPinchTimeout_uncounted live reversing uncounted
  case short => exact fun s n cur live above sound => execHbShort_over live above sound
  case thermal => exact fun s n temp live above cool => execHbThermal_over live above cool
  case thermalEnd => exact fun s n temp runs cool hot => execHbThermalEnd_cool runs cool hot
  case current => exact fun s samples on => execHbCurrentUpdate_on samples on
  case status =>
    rintro s r _ h rfl
    exact row_eq h (by simp only [← offered_hb s verbHbStatus r]; rfl) (by decide)
  case config =>
    intro s r p h hp tag policy flags stall stall' time time' blank blank' pinch pinch' percent percent' count count'
    rw [← offered_hb s verbHbConfig r] at tag
    exact row_eq h (hbConfig_body hp tag policy flags ⟨stall, stall'⟩ ⟨time, time'⟩ ⟨blank, blank'⟩ ⟨pinch, pinch'⟩
      ⟨percent, percent'⟩ ⟨count, count'⟩) (by decide)
  case drive =>
    intro s r p h hp unbound drive endless low high limit sound cool allowed
    rw [← offered_hb s verbHbDrive r] at unbound sound cool allowed
    exact row_eq h (hbDrive_body hp unbound drive endless low high limit sound cool allowed) (by decide)
  case clear =>
    intro s r h shorted
    rw [← offered_hb s verbHbClear r] at shorted
    exact row_eq h (hbClear_body shorted) (by decide)

end Sys2Proof.Machine
end

section
/-! Switch inputs, body services and LIN (spec 12). A row's lemma gives its command under the row's conditions; a verb's lemma, its
effect. -/

namespace Sys2Proof.Machine

/-! ### Switch inputs (12 R282-R287) -/

section SwitchRows

variable {s : State} {r : Req} {p : List Byte}

/-- A sample takes all inputs, the evaluations follow, and a wake input that has become active wakes. -/
theorem execSwinSample_operating (mv : List Nat) (operating : s.operating = true) {b a c : State}
    (hb : b = s.boundary 208 1000000 0) (ha : a = (List.range 48).foldl (State.swSample mv) b)
    (hc : c = ({ a with swin.lastUs := b.us } : State).bodyEvalAll.nmEvalAll) :
    execSwinSample mv s = .next
      (if (List.range 16).any (fun i => a.wakeHeld i && !b.wakeHeld i) then c.wakeNow else c) := by
  rw [hc, ha, hb]
  simp only [execSwinSample, operating, Bool.not_true, Bool.false_eq_true, ↓reduceIte]

/-- While operating a wake input active for its stuck time is removed. -/
theorem execSwinWakeStuck_operating {n t : Nat} {a : State} (active : (s.sw n).actSince = some t) (hn : n < 16)
    (wakes : (s.sw n).wake = true) (present : (s.sw n).removed = none) (operating : s.operating = true)
    (ha : a = s.waitTo (t + (s.sw n).stuckS * 1000000000)) :
    execSwinWakeStuck n s = .next
      (((a.modSw n (fun w => { w with removed := some a.hw })).raiseEv 0x24 n (swSrc n) 0x5003 1 n ((a.hw - t) / 1000000000) 0
        0).nmEvalAll) := by
  subst ha
  simp only [execSwinWakeStuck, active, ge_iff_le, Nat.not_le_of_lt hn, wakes, present, operating, Option.isSome_none,
    decide_false, Bool.not_true, Bool.or_self, Bool.false_eq_true, ↓reduceIte]

theorem execSwinParkCheck_parked (mv : List Nat) (parked : s.parked = true) {k : Nat}
    (hk : k = s.time.parkPeriods * 50 / 32768 + 1) :
    execSwinParkCheck mv s = .next
      ((List.range 16).foldl (State.swCheck mv (k % 50 == 0)) { s with time.parkPeriods := (k * 32768 + 49) / 50 }) := by
  subst hk
  simp only [execSwinParkCheck, parked, Bool.not_true, Bool.false_eq_true, ↓reduceIte]

/-- Settings in range of a wake input wait for the next sample. -/
theorem swinConfig_body (hp : p = r.payload) (thr : u8 p 0 ≤ 2) (pull : u8 p 1 ≤ 3) (wet : u8 p 2 ≤ 2) (mode : u8 p 3 ≤ 1)
    (deb : 1 ≤ u8 p 4) (chatter : u8 p 5 ≠ 1) (window : 10 ≤ u16 p 6 ∧ u16 p 6 ≤ 10000) (flags : u8 p 8 < 4)
    (filter : 1 ≤ u8 p 9 ∧ u8 p 9 ≤ 5) (stuck : u16 p 10 = 0 ∨ (5 ≤ u16 p 10 ∧ u16 p 10 ≤ 3600)) (inst : r.inst < 16) :
    verbSwinConfig.body r s = ((s.modSw r.inst (fun w => { w with pend := some p })).dirty, stDone, []) := by
  subst hp
  simp only [verbSwinConfig, thr, pull, wet, mode, deb, chatter, window, flags, filter, stuck, ge_iff_le, Nat.not_le_of_lt inst,
    ne_eq, not_false_eq_true, and_self, decide_false, Bool.and_false, Bool.not_false, ↓reduceIte]

end SwitchRows

/-- Settles O19: each row's command under its conditions is given by its row's lemma; a verb's effect is that on the offered
state. -/
theorem switchRowsComplete : Obligations.SwitchRowsComplete := by
  refine ⟨?sample, ?stuck, ?parkCheck, ?read, ?config⟩
  case sample => exact fun s mv operating => execSwinSample_operating mv operating rfl rfl rfl
  case stuck =>
    exact fun s n t active hn wakes present operating => execSwinWakeStuck_operating active hn wakes present operating rfl
  case parkCheck => exact fun s mv parked => execSwinParkCheck_parked mv parked rfl
  case read =>
    intro s r h
    have inputs : (s.offered verbSwinRead r).swin = s.swin := by simp only [State.offered_leaves]
    exact row_eq h (by rw [← inputs]; rfl) (by decide)
  case config =>
    intro s r p h hp thr pull wet mode deb chatter window window' flags filter filter' stuck inst
    exact row_eq h (swinConfig_body hp thr pull wet mode deb chatter ⟨window, window'⟩ flags ⟨filter, filter'⟩ stuck inst)
      (by decide)

/-! ### The timed rows of the body services (12 R294-R299) -/

section BodyTimedRows

variable {s : State} {inst t : Nat}

/-- One service at the 10 ms period: a host-assisted one counts a missing result and gets its record. -/
def State.bodyHostRecord (s : State) (i : Nat) : State :=
  if !s.isHost (bodyKey i) then s
  else
    let a := if (s.hostFn (bodyKey i)).got then s else (s.hostMiss (bodyKey i)).bodyMiss i
    let b := a.hostPeriod (bodyKey i) a.hw 8000000 10000000
    b.regionWrite b.body.hostBuf.win b.body.hostBuf.a (32 * i) (b.bodyRecord i (b.hostFn (bodyKey i)).k b.hw)

theorem execBodyHostPeriod_running (operating : s.operating = true) (runs : s.running 0x25 0 = true) :
    execBodyHostPeriod s = .next ((List.range 16).foldl State.bodyHostRecord (s.boundary 240 10000000 0)) := by
  simp only [execBodyHostPeriod, operating, runs, Bool.not_true, Bool.or_self, Bool.false_eq_true, ↓reduceIte]
  rfl

variable (runs : s.bodyRuns = true)
include runs

theorem execBodyLockPulseEnd_due (pulse : (s.svc inst).pulseEnd = some t) (lock : (s.svc inst).kind = 3) :
    execBodyLockPulseEnd inst s = .next
      ((((s.svc inst).bridges.foldl (fun (s : State) n => s.hbEnd n 4 true) (s.waitTo t)).modSvc inst (fun x =>
        { x with pulseEnd := none, eff := 0, crash := false })).bodyState inst 0) := by
  simp only [execBodyLockPulseEnd, pulse, runs, lock, bne_self_eq_false, Bool.not_true, Bool.or_self, Bool.false_eq_true,
    ↓reduceIte]

theorem execBodyLockInhibitEnd_due (inhibit : (s.svc inst).inhibitEnd = some t) :
    execBodyLockInhibitEnd inst s = .next
      (((s.waitTo t).modSvc inst (fun x => { x with inhibitEnd := none, cycles := [] })).clearFault 0x5204 0x25 inst) := by
  simp only [execBodyLockInhibitEnd, inhibit, runs, Bool.not_true, Bool.false_eq_true, ↓reduceIte]

theorem execBodyAutoUpInhibitEnd_due (inhibit : (s.svc inst).autoInhibit = some t) :
    execBodyAutoUpInhibitEnd inst s = .next ((s.waitTo t).modSvc inst (fun x => { x with autoInhibit := none })) := by
  simp only [execBodyAutoUpInhibitEnd, inhibit, runs, Bool.not_true, Bool.false_eq_true, ↓reduceIte]

section Hardware

variable (hardware : s.bodyHosted inst = false)
include hardware

/-- A flashing set that is on changes its phase. -/
theorem execBodyFlashPhase_set {a : State} (kind : (s.svc inst).kind = 5) (flashes : (s.svc inst).params.getD 0 0 = 1)
    (on : (s.svc inst).state = 1) (ha : a = s.waitTo (s.svc inst).phaseAt) :
    execBodyFlashPhase inst 0 s = .next
      ((a.modSvc inst (fun x =>
        { x with phaseOn := !x.phaseOn,
                 phaseAt := a.hw + (if (s.svc inst).phaseOn then (s.svc inst).params.getD 2 0
                   else (s.svc inst).params.getD 1 0) * 1000000 })).bodyApply inst) := by
  subst ha
  simp only [execBodyFlashPhase, runs, hardware, kind, flashes, on, Nat.reduceEqDiff, false_and, true_or, and_self,
    Bool.not_true, Bool.or_self, Bool.false_eq_true, ↓reduceIte]

theorem execBodyMaxOn_due (on : (s.svc inst).onSince = some t) (kind : (s.svc inst).kind = 5)
    (limited : (s.svc inst).params.getD 3 0 ≠ 0) (within : (s.svc inst).maxed = false) :
    execBodyMaxOn inst s = .next
      ((((s.waitTo (t + (s.svc inst).params.getD 3 0 * 1000000000)).modSvc inst (fun x => { x with maxed := true })).setOff inst
        3).bodyApply inst) := by
  simp only [execBodyMaxOn, on, runs, hardware, kind, beq_eq_false_iff_ne.mpr limited, within, bne_self_eq_false, Bool.not_true,
    Bool.or_self, Bool.false_eq_true, ↓reduceIte]

theorem execBodyDelayOff_due (off : (s.svc inst).offAt = some t) :
    execBodyDelayOff inst s = .next (((s.waitTo t).setOff inst 0).bodyApply inst) := by
  simp only [execBodyDelayOff, off, runs, hardware, Bool.not_true, Bool.or_self, Bool.false_eq_true, ↓reduceIte]

section Wiper

variable (kind : (s.svc inst).kind = 2)
include kind

/-- The park switch of a wiper opens: its wipe has left park. -/
theorem execBodyWiperParkSwitch_open (away : ((s.bodyEval inst).svc inst).act.testBit 3 = false) :
    execBodyWiperParkSwitch inst s = .next ((s.bodyEval inst).modSvc inst (fun x => { x with wipeLeft := true })) := by
  simp only [execBodyWiperParkSwitch, runs, hardware, kind, away, bne_self_eq_false, Bool.not_true, Bool.not_false, Bool.or_self,
    Bool.false_eq_true, ↓reduceIte]

theorem execBodyWiperStall_parking (phase : (s.svc inst).wipePhase = 2) :
    execBodyWiperStall inst s = .next
      ((((s.waitTo (s.svc inst).wipeAt).wipe inst 0 0).bodyApply inst).raiseEv 0x25 inst 168 0x5203 2 inst
        ((s.svc inst).parkLimit / 1000000) 0 0) := by
  simp only [execBodyWiperStall, runs, hardware, kind, phase, bne_self_eq_false, Bool.not_true, Bool.or_self,
    Bool.false_eq_true, ↓reduceIte]

theorem execBodyWiperInterval_waiting (phase : (s.svc inst).wipePhase = 3) :
    execBodyWiperInterval inst s = .next (((s.waitTo (s.svc inst).wipeAt).wipe inst 5 0).bodyApply inst) := by
  simp only [execBodyWiperInterval, runs, hardware, kind, phase, bne_self_eq_false, Bool.not_true, Bool.or_self,
    Bool.false_eq_true, ↓reduceIte]

theorem execBodyWiperChangeover_pausing (phase : (s.svc inst).wipePhase = 4) :
    execBodyWiperChangeover inst s = .next
      (((s.waitTo (s.svc inst).wipeAt).wipe inst (wipePhaseOf (s.svc inst).eff)
        (if wipePhaseOf (s.svc inst).eff = 2 then (s.svc inst).parkLimit else 0)).bodyApply inst) := by
  simp only [execBodyWiperChangeover, runs, hardware, kind, phase, bne_self_eq_false, Bool.not_true, Bool.or_self,
    Bool.false_eq_true, ↓reduceIte]

end Wiper

end Hardware

end BodyTimedRows

/-- Settles O20: each row's command under its conditions is given by its row's lemma. -/
theorem bodyTimedRowsComplete : Obligations.BodyTimedRowsComplete := by
  refine ⟨?flash, ?parkSwitch, ?stall, ?interval, ?changeover, ?pulse, ?inhibit, ?autoUp, ?maxOn, ?delayOff, ?host⟩
  case flash =>
    exact fun s inst runs hardware kind flashes on => execBodyFlashPhase_set runs hardware kind flashes on rfl
  case parkSwitch => exact fun s inst runs hardware kind away => execBodyWiperParkSwitch_open runs hardware kind away
  case stall => exact fun s inst runs hardware kind phase => execBodyWiperStall_parking runs hardware kind phase
  case interval => exact fun s inst runs hardware kind phase => execBodyWiperInterval_waiting runs hardware kind phase
  case changeover => exact fun s inst runs hardware kind phase => execBodyWiperChangeover_pausing runs hardware kind phase
  case pulse => exact fun s inst t pulse runs lock => execBodyLockPulseEnd_due runs pulse lock
  case inhibit => exact fun s inst t inhibit runs => execBodyLockInhibitEnd_due runs inhibit
  case autoUp => exact fun s inst t inhibit runs => execBodyAutoUpInhibitEnd_due runs inhibit
  case maxOn =>
    exact fun s inst t on runs hardware kind limited within => execBodyMaxOn_due runs hardware on kind limited within
  case delayOff => exact fun s inst t off runs hardware => execBodyDelayOff_due runs hardware off
  case host => exact fun s operating runs => execBodyHostPeriod_running operating runs

/-! ### The BODY verbs (12 R292-R299) -/

section BodyVerbs

variable {s : State} {r : Req} {p : List Byte}

/-- The offer of a command leaves the body services and LIN. -/
theorem offered_body (s : State) (v : Verb) (r : Req) : (s.offered v r).body = s.body := by simp only [State.offered_leaves]

theorem offered_svc (s : State) (v : Verb) (r : Req) (i : Nat) : (s.offered v r).svc i = s.svc i := by
  simp only [State.offered_leaves]

theorem bodyConfig_body_unbind (none : u8 r.payload 0 = 0) (bound : (s.svc r.inst).kind ≠ 0) :
    verbBodyConfig.body r s =
      (((s.bodyUnbind r.inst).modSvc r.inst (fun x => { BodySvc.reset with count := x.count })).dirty, stDone, []) := by
  simp only [verbBodyConfig, none, bound, ↓reduceIte]

/-- The outputs and bridges of a service's configuration are its own. -/
def State.bodyBound (a : State) (i : Nat) : State :=
  (a.svc i).bridges.foldl (fun (s : State) n => s.modHb n (fun b => { b with boundBy := some i }))
    ((a.svc i).slots.foldl (fun (s : State) e => s.modOut e.2 (fun c => { c with bound := 1, boundBy := i, mailbox := fZero })) a)

/-- A configuration of the service's own kind, in range, over readable sources and free outputs binds the service. -/
theorem bodyConfig_body_bind {srcs : List BodySrc} {outs : List Nat} {a : State} (hp : p = r.payload)
    (hsrcs : (List.range 4).map (fun j =>
      ({ kind := u8 p (4 + 4 * j), a := u8 p (5 + 4 * j), b := u16 p (6 + 4 * j) } : BodySrc)) = srcs)
    (houts : (List.range 8).map (fun j => u8 p (20 + j)) = outs) (some : u8 p 0 ≠ 0) (kind : u8 p 0 = bodyKind r.inst)
    (srcFields : srcs.all srcOk = true) (outFields : (List.range 8).all (fun j => outOk (bodyKind r.inst) j (outs.getD j 0xFF)) = true)
    (params : bodyParOk (bodyKind r.inst) (u16s p 28 8) = true)
    (readable : srcs.all (fun q => q.kind != 3 || s.sigReadable r.win q.b) = true) (free : outs.all (s.bodyFree r.inst) = true)
    (ha : (s.bodyUnbind r.inst).modSvc r.inst (fun x =>
      { BodySvc.reset with kind := bodyKind r.inst, srcs := srcs, outs := outs, params := u16s p 28 8, count := x.count }) = a) :
    verbBodyConfig.body r s =
      ((((a.svc r.inst).slots.foldl (fun (s : State) e => s.outEval e.2 false) (a.bodyBound r.inst)).bodyEval r.inst).dirty, stDone,
        []) := by
  subst hp
  rw [kind] at some
  simp only [verbBodyConfig, State.bodyBound, kind, hsrcs, houts, some, srcFields, outFields, params, readable, free, ha, ne_eq,
    not_true_eq_false, Bool.not_true, Bool.false_eq_true, or_self, ↓reduceIte]

/-- A request of an output set is its command, on which the hardware logic acts. -/
theorem bodyRequest_body_set {a : State} (kind : (s.svc r.inst).kind = 5) (code : u8 r.payload 0 ≤ 1)
    (ha : a = (s.modSvc r.inst (fun x => { x with lastReq := u8 r.payload 0 })).modSvc r.inst (fun x =>
      { x with cmd := u8 r.payload 0,
               newest := if x.kind = 1 ∧ (u8 r.payload 0 = 1 ∨ u8 r.payload 0 = 2) then u8 r.payload 0 else x.newest }))
    (hardware : a.bodyHosted r.inst = false) :
    verbBodyRequest.body r s = (a.bodyHw r.inst 0 0, stDone, []) := by
  simp only [verbBodyRequest, reqOk, kind, code, ← ha, hardware, decide_true, Nat.reduceBEq, Bool.true_or, Bool.or_true,
    Bool.not_true, Bool.false_eq_true, ↓reduceIte]

/-- BODY.HOSTBUF sets the buffer of 512 bytes while no service is host-assisted or becomes so. -/
theorem bodyHostbuf_body (region : s.regionCheck r.win (u8 r.payload 0) 512 = none)
    (hardware : (List.range 16).any (fun i => s.isHost (bodyKey i) || (s.hostFn (bodyKey i)).pending == some true) = false) :
    verbBodyHostbuf.body r s =
      (({ s with body.hostBuf := { set := true, win := r.win, tag := r.tag, a := u8 r.payload 0, b := u8 r.payload 0 } } :
        State).dirty, stDone, []) := by
  simp only [verbBodyHostbuf, region, hardware, Bool.false_eq_true, ↓reduceIte]

/-- A result in time of the function's owner for the period begun last drives the outputs of a service without bridges. -/
theorem bodyResult_body {h : HostFn} {a : State} (hp : p = r.payload) (hh : h = s.hostFn (bodyKey r.inst)) (host : h.host = true)
    (owner : h.owner = r.win) (named : u32 p 0 ≠ 0) (last : h.k = u32 p 0) (action : u8 p 5 ≤ 3)
    (inTime : s.hostInTime (bodyKey r.inst) (u32 p 0) = true) (applied : (s.hostResult (bodyKey r.inst)).2 = true)
    (ha : a = (s.hostResult (bodyKey r.inst)).1) (noBridges : (a.svc r.inst).bridges = []) :
    verbBodyResult.body r s = (a.bodyDrive r.inst (u8 p 4), stDone, []) := by
  subst hp ha
  simp only [verbBodyResult, ← hh, host, owner, last, beq_eq_false_iff_ne.mpr named, Nat.not_lt_of_le action, inTime, applied,
    noBridges, List.foldl_nil, beq_self_eq_true, gt_iff_lt, lt_irrefl, decide_false, Bool.and_self, Bool.not_true, Bool.or_self,
    Bool.false_eq_true, ↓reduceIte]

end BodyVerbs

/-- Settles O21: a verb's effect is that on the offered state, whose services and host functions are those of `s`. -/
theorem bodyVerbsComplete : Obligations.BodyVerbsComplete := by
  refine ⟨?status, ?unbind, ?bind, ?request, ?hostbuf, ?result⟩
  case status =>
    rintro s r _ h rfl
    exact row_eq h (by rw [← offered_svc s verbBodyStatus r]; rfl) (by decide)
  case unbind =>
    intro s r h none bound
    rw [← offered_svc s verbBodyConfig r] at bound
    exact row_eq h (bodyConfig_body_unbind none bound) (by decide)
  case bind =>
    intro s r p srcs outs a h hp hsrcs houts some kind srcFields outFields params readable free ha
    obtain ⟨-, -, -, -, -, -, -, -, sigReadable, -⟩ := offered_reads s verbBodyConfig r
    simp only [← sigReadable] at readable
    exact row_eq h (bodyConfig_body_bind hp hsrcs houts some kind srcFields outFields params readable free ha) (by decide)
  case request =>
    intro s r h kind code _ hardware
    rw [← offered_svc s verbBodyRequest r] at kind
    exact row_eq h (bodyRequest_body_set kind code rfl hardware) (by decide)
  case hostbuf =>
    intro s r h region hardware
    obtain ⟨-, hostFn, isHost, -⟩ := offered_reads s verbBodyHostbuf r
    simp only [← hostFn, ← isHost] at hardware
    exact row_eq h (bodyHostbuf_body region hardware) (by decide)
  case result =>
    intro s r p h hp host owner named last action inTime applied noBridges
    obtain ⟨-, hostFn, -⟩ := offered_reads s verbBodyResult r
    exact row_eq h (bodyResult_body hp (hostFn (bodyKey r.inst)).symm host owner named last action inTime applied rfl noBridges)
      (by decide)

/-! ### LIN (12 R288-R291) -/

/-- A fault that does not stand, or is in its clean second, does not stop the schedule. -/
theorem LinCh.faultStops_eq_false {x : LinCh} (h : x.fault = false ∨ x.cleanSince.isSome = true) :
    (x.fault && x.cleanSince.isNone) = false := by
  rcases h with none | clean
  · rw [none, Bool.false_and]
  · rw [← Option.not_isSome, clean, Bool.not_true, Bool.and_false]

/-- The pointer at a slot's start: a table asked for begins; else the present one goes on or wraps (R289). -/
def LinCh.slotTurn (x : LinCh) : LinCh :=
  (match x.nextTable with
    | some t => { x with running := some t, entry := 0, nextTable := none, resume := none }
    | none => x).wrap

/-- The slot of entry `q` that starts in `a` (R288, R291): a fault ends after its clean second, the entry's frame passes. -/
def State.linEntrySlot (a : State) (ch : Nat) (q : LinEntry) (f : LinBus) : State :=
  let b := a.modLin ch (fun x => { x with entry := x.entry + 1, slotAt := a.hw + q.slotMs * 1000000 })
  let d := if (a.lin ch).fault ∧ (a.lin ch).cleanSince.getD a.hw + 1000000000 ≤ a.hw then
      (b.modLin ch (fun x => { x with fault := false, cleanSince := none })).clearFault 0x5103 0x31 ch
    else b
  let e := (d.linFrame ch q f).bodyEvalAll
  if (e.lin ch).fault ∧ !f.hdrOk then e.modLin ch (fun x => { x with cleanSince := none, retryAt := e.hw + 1000000000 }) else e

section LinRows

variable {s a : State} {ch : Nat}

theorem execLinResume_due {t tab : Nat} (start : (s.lin ch).startAt = some (t, tab)) (runs : s.linRuns ch = true)
    (ha : a = s.waitTo t) :
    execLinResume ch s = .next (a.modLin ch (fun x =>
      { x with startAt := none, asleep := false, running := some tab, slept := some tab, entry := 0, resume := none,
               nextTable := none, slotAt := a.hw })) := by
  subst ha
  simp only [execLinResume, start, runs, Bool.not_true, Bool.false_eq_true, ↓reduceIte]

section Running

variable (runs : s.linRuns ch = true)
include runs

section Slot

variable {n : Nat} {f : LinBus} (running : (s.lin ch).running = some n)
  (untried : (s.lin ch).fault = false ∨ (s.lin ch).cleanSince.isSome = true) (headers : (s.lin ch).hdrBad < 3)
include running untried headers

/-- With sleep asked for, the slot carries the sleep frame and the schedule stops. -/
theorem execLinSlot_sleep (asked : (s.lin ch).sleepReq = true) :
    execLinSlot ch f s = .next
      (((s.waitTo (s.lin ch).slotAt).linSend ch 0x3C (0 :: List.replicate 7 0xFF)).modLin ch (fun x =>
        { x with sleepReq := false, asleep := true, slept := x.running, running := none, resume := none, nextTable := none })) := by
  simp only [execLinSlot, running, runs, LinCh.faultStops_eq_false untried, ge_iff_le, Nat.not_le_of_lt headers, asked,
    decide_false, Bool.not_true, Bool.or_self, Bool.false_eq_true, ↓reduceIte]

/-- A slot that is not a sleep frame's takes the entry under its pointer. -/
theorem execLinSlot_entry {q : LinEntry} (awake : (s.lin ch).sleepReq = false)
    (ha : a = (s.waitTo (s.lin ch).slotAt).modLin ch LinCh.slotTurn)
    (entry : ((a.lin ch).table ((a.lin ch).running.getD 0))[(a.lin ch).entry]? = some q) :
    execLinSlot ch f s = .next (a.linEntrySlot ch q f) := by
  have turned : execLinSlot ch f s = .next (match ((a.lin ch).table ((a.lin ch).running.getD 0))[(a.lin ch).entry]? with
      | none => a
      | some e => a.linEntrySlot ch e f) := by
    subst ha
    simp only [execLinSlot, running, runs, LinCh.faultStops_eq_false untried, ge_iff_le, Nat.not_le_of_lt headers, awake,
      decide_false, Bool.not_true, Bool.or_self, Bool.false_eq_true, ↓reduceIte]
    rfl
  rw [turned, entry]

end Slot

/-- Three bad headers in a row, or a bus held low for over 100 ms, mark the channel. -/
theorem execLinBusFault_seen {cause ms : Nat} (untried : (s.lin ch).fault = false ∨ (s.lin ch).cleanSince.isSome = true)
    (seen : (cause = 1 ∧ (s.lin ch).hdrBad ≥ 3) ∨ (cause = 2 ∧ ms > 100))
    (ha : a = s.modLin ch (fun x =>
      { x with fault := true, cleanSince := none, retryAt := s.hw + 1000000000, hdrBad := 0 })) :
    execLinBusFault ch cause ms s = .next
      (if (s.lin ch).fault then a else a.raiseEv 0x31 ch (163 + ch) 0x5103 3 ch ch cause 0) := by
  have known : (cause == 1 && decide ((s.lin ch).hdrBad ≥ 3) || cause == 2 && decide (ms > 100)) = true := by
    simpa using seen
  subst ha
  simp only [execLinBusFault, runs, LinCh.faultStops_eq_false untried, known, Bool.not_true, Bool.or_self, Bool.false_eq_true,
    ↓reduceIte]

theorem execLinRetry_faulty (faulty : (s.lin ch).fault = true) (stopped : (s.lin ch).cleanSince = none)
    (ha : a = s.waitTo (s.lin ch).retryAt) :
    execLinRetry ch s = .next (a.modLin ch (fun x =>
      { x with cleanSince := some a.hw, slotAt := a.hw, retryAt := a.hw + 1000000000 })) := by
  subst ha
  simp only [execLinRetry, runs, faulty, stopped, Option.isSome_none, Bool.not_true, Bool.or_self, Bool.false_eq_true, ↓reduceIte]

/-- A wake pulse of 150 us to 5 ms with no table running posts its event, and the table that slept starts 100 ms later. -/
theorem execLinWakePulse_slept {us t : Nat} (standing : (s.lin ch).running = none) (long : 150 ≤ us) (short : us ≤ 5000)
    (slept : (s.lin ch).slept = some t) (unstarted : (s.lin ch).startAt = none) (awake : (s.lin ch).asleep = false) :
    execLinWakePulse ch us s = .next
      ((s.post 0x31 ch (163 + ch) 0x5104 ch ch us 0).modLin ch (fun x => { x with startAt := some (s.hw + 100000000, t) })) := by
  have inRange : ¬(us < 150 ∨ us > 5000) := by omega
  simp only [execLinWakePulse, runs, standing, inRange, slept, unstarted, awake, State.post_leaves, Option.isSome_none,
    decide_false, Bool.not_true, Bool.or_self, Bool.false_eq_true, ↓reduceIte]

end Running

end LinRows

/-! ### The LIN verbs (12 R288-R291) -/

section LinVerbs

variable {s : State} {r : Req}

theorem offered_lin (s : State) (v : Verb) (r : Req) (c : Nat) : (s.offered v r).lin c = s.lin c := by
  simp only [State.offered_leaves]

theorem linRead_body {f : LinFrame} (hf : f = (s.lin r.inst).frame (u8 r.payload 0)) (id : u8 r.payload 0 ≤ 63) :
    verbLinRead.body r s =
      (s, stDone, slice f.data 0 8 ++ b8 f.len ++ b8 (b2n f.stale + 2 * b2n (!f.ever)) ++ zeros 2 ++ b64 f.stamp) := by
  subst hf
  simp only [verbLinRead, gt_iff_lt, Nat.not_lt_of_le id, ↓reduceIte]

section Config

variable (low : 2400 ≤ u16 r.payload 0) (high : u16 r.payload 0 ≤ 20000)
include low high

theorem linConfig_body_on (on : u8 r.payload 2 = 1) :
    verbLinConfig.body r s =
      ((s.modLin r.inst (fun x => { x with enable := true, rate := u16 r.payload 0 })).dirty, stDone, []) := by
  simp only [verbLinConfig, gt_iff_lt, Nat.not_lt_of_le low, Nat.not_lt_of_le high, on, lt_irrefl, or_self, beq_self_eq_true,
    ↓reduceIte]

theorem linConfig_body_off (off : u8 r.payload 2 = 0) :
    verbLinConfig.body r s =
      (((s.modLin r.inst (fun x =>
        { x with enable := false, rate := u16 r.payload 0, running := none, resume := none, nextTable := none, sleepReq := false,
                 startAt := none, fault := false, cleanSince := none, hdrBad := 0 })).clearFault 0x5103 0x31 r.inst).dirty,
        stDone, []) := by
  simp only [verbLinConfig, gt_iff_lt, Nat.not_lt_of_le low, Nat.not_lt_of_le high, off, Nat.not_lt_zero, or_self,
    Nat.reduceBEq, Bool.false_eq_true, ↓reduceIte]

end Config

/-- A table of entries in range is taken from its region while no table runs or waits to resume. -/
theorem linTable_body {es : List LinEntry} (table : u8 r.payload 0 ≤ 7) (some : u8 r.payload 2 ≠ 0) (few : u8 r.payload 2 ≤ 64)
    (region : s.regionCheck r.win (u8 r.payload 1) (8 * u8 r.payload 2) = none)
    (hes : (List.range (u8 r.payload 2)).map
      (linEntryOf (s.regionRead r.win (u8 r.payload 1) 0 (8 * u8 r.payload 2))) = es)
    (standing : (s.lin r.inst).running = none) (whole : (s.lin r.inst).resume = none)
    (fields : es.all (LinEntry.ok · (s.lin r.inst).rate) = true) :
    verbLinTable.body r s =
      (((s.regionDone r.win (u8 r.payload 1) r.tag (8 * u8 r.payload 2) false).modLin r.inst (fun x =>
        { x with tables := tset [] x.tables (u8 r.payload 0) es })).dirty, stDone, []) := by
  simp only [verbLinTable, gt_iff_lt, Nat.not_lt_of_le table, some, Nat.not_lt_of_le few, region, hes, standing, whole, fields,
    Option.map_none, reduceCtorEq, or_self, Bool.not_true, Bool.false_eq_true, ↓reduceIte]

section Schedule

variable (known : u8 r.payload 0 ≤ 7) (filled : ((s.lin r.inst).table (u8 r.payload 0)).isEmpty = false)
include known filled

/-- With no table running the scheduled one starts at once. -/
theorem linSchedule_body_idle (awake : (s.lin r.inst).asleep = false) (standing : (s.lin r.inst).running = none) :
    verbLinSchedule.body r s =
      (s.modLin r.inst (fun x => { x with running := some (u8 r.payload 0), slept := some (u8 r.payload 0), entry := 0,
                                          resume := none, startAt := none, slotAt := s.hw }), stDone, []) := by
  simp only [verbLinSchedule, gt_iff_lt, Nat.not_lt_of_le known, filled, awake, standing, Option.isSome_none, or_self,
    Bool.false_eq_true, ↓reduceIte]

/-- A sleeping master sends its wake pulse, and the scheduled table starts 100 ms later. -/
theorem linSchedule_body_asleep (asleep : (s.lin r.inst).asleep = true) :
    verbLinSchedule.body r s =
      (s.modLin r.inst (fun x => { x with pulse := some (s.hw, s.hw + 250000),
                                          startAt := some (s.hw + 250000 + 100000000, u8 r.payload 0) }), stDone, []) := by
  simp only [verbLinSchedule, gt_iff_lt, Nat.not_lt_of_le known, filled, asleep, or_self, Bool.false_eq_true, ↓reduceIte]

end Schedule

theorem linWrite_body (some : u8 r.payload 1 ≠ 0) (few : u8 r.payload 1 ≤ 8)
    (published : (s.lin r.inst).published (u8 r.payload 0) = true) :
    verbLinWrite.body r s =
      (s.modFrame r.inst (u8 r.payload 0) (fun f =>
        { f with data := slice r.payload 4 (u8 r.payload 1), len := u8 r.payload 1, fresh := true }), stDone, []) := by
  simp only [verbLinWrite, some, gt_iff_lt, Nat.not_lt_of_le few, published, Bool.not_true, Bool.false_eq_true, or_self, ↓reduceIte]

theorem linSleep_body {n : Nat} (running : (s.lin r.inst).running = some n) :
    verbLinSleep.body r s = (s.modLin r.inst (fun x => { x with sleepReq := true }), stDone, []) := by
  simp only [verbLinSleep, running, Option.isSome_some, ↓reduceIte]

end LinVerbs

/-- Settles O22: each row's command under its conditions is given by its row's lemma; a verb's effect is that on the offered state,
whose LIN masters and clock are those of `s`. -/
theorem linRowsComplete : Obligations.LinRowsComplete := by
  refine ⟨?sleepSlot, ?slot, ?busFault, ?retry, ?wakePulse, ?resume, ?status, ?read, ?configOn, ?configOff, ?table, ?schedule,
    ?scheduleAsleep, ?write, ?sleep⟩
  case sleepSlot =>
    exact fun s ch n f running runs untried headers asked => execLinSlot_sleep runs running untried headers asked
  case slot =>
    rintro s a b d e ch n f q running runs untried headers awake ha entry rfl rfl rfl
    have slot := execLinSlot_entry (f := f) runs running untried headers awake ha entry
    simp only [State.linEntrySlot, Bool.not_eq_true'] at slot
    exact slot
  case busFault => exact fun s a ch cause ms runs untried seen ha => execLinBusFault_seen runs untried seen ha
  case retry => exact fun s ch runs faulty stopped => execLinRetry_faulty runs faulty stopped rfl
  case wakePulse =>
    exact fun s ch us t runs standing long short slept unstarted awake =>
      execLinWakePulse_slept runs standing long short slept unstarted awake
  case resume => exact fun s ch t tab start runs => execLinResume_due start runs rfl
  case status =>
    rintro s r _ h rfl
    exact row_eq h (by rw [← offered_lin s verbLinStatus r]; rfl) (by decide)
  case read =>
    intro s r f h hf id
    rw [← offered_lin s verbLinRead r] at hf
    exact row_eq h (linRead_body hf id) (by decide)
  case configOn => exact fun s r h low high on => row_eq h (linConfig_body_on low high on) (by decide)
  case configOff => exact fun s r h low high off => row_eq h (linConfig_body_off low high off) (by decide)
  case table =>
    intro s r es h table some few region hes standing whole fields
    rw [← offered_lin s verbLinTable r] at standing whole fields
    exact row_eq h (linTable_body table some few region hes standing whole fields) (by decide)
  case schedule =>
    intro s r h known filled awake standing
    rw [← offered_lin s verbLinSchedule r] at filled awake standing
    rw [← offered_hw s verbLinSchedule r]
    exact row_eq h (linSchedule_body_idle known filled awake standing) (by decide)
  case scheduleAsleep =>
    intro s r h known filled asleep
    rw [← offered_lin s verbLinSchedule r] at filled asleep
    rw [← offered_hw s verbLinSchedule r]
    exact row_eq h (linSchedule_body_asleep known filled asleep) (by decide)
  case write =>
    intro s r h some few published
    rw [← offered_lin s verbLinWrite r] at published
    exact row_eq h (linWrite_body some few published) (by decide)
  case sleep =>
    intro s r n h running
    rw [← offered_lin s verbLinSleep r] at running
    exact row_eq h (linSleep_body running) (by decide)

end Sys2Proof.Machine
end

section
/-! The status plate (spec 14): frames and updates, and the PLATE verbs. A row's lemma gives its command under the row's conditions;
a verb's lemma, its effect. -/

namespace Sys2Proof.Machine

/-! ### Frames, faults and the end of an update (14 R316, R318-R322) -/

section PlateRows

variable {s a : State} (operating : s.operating = true)
include operating

section Busy

variable (busy : s.plate.busy = true)
include busy

/-- The frame time of the band has passed; after the last frame the rails go off. -/
theorem execPlateFrameDone_busy {last : Bool}
    (ha : a = s.waitTo (s.plate.frameAt + waveTime (s.plate.wave.getD []) s.plate.band * 1000000))
    (hlast : last = decide (s.plate.frame + 1 ≥ waveFrames (s.plate.wave.getD []) s.plate.band)) :
    execPlateFrameDone s = .next (a.modPlate (fun p =>
      { p with busy := false, frame := p.frame + 1, railOn := !last, railOff := if last then some a.hw else none,
               offAt := if last then some a.hw else none })) := by
  subst ha hlast
  simp only [execPlateFrameDone, operating, busy, Bool.not_true, Bool.or_self, Bool.false_eq_true, ↓reduceIte]

/-- A busy line past twice the frame time aborts the update. -/
theorem execPlateBusyTimeout_busy :
    execPlateBusyTimeout s = .next
      ((((s.waitTo (s.plate.frameAt + 2 * waveTime (s.plate.wave.getD []) s.plate.band * 1000000)).raiseEv 0x27 0 184 0x5404 2 0
        s.plate.frame 0 0).plateAbort stBusy).plateNext s.plate.park) := by
  simp only [execPlateBusyTimeout, operating, busy, Bool.not_true, Bool.or_self, Bool.false_eq_true, ↓reduceIte]

end Busy

section Running

variable (running : s.plate.running = true)
include running

/-- A frame starts with its plane, the first one 10 ms after the update's acceptance. -/
theorem execPlateFrameStart_free (free : s.plate.busy = false) (on : s.plate.offAt = none)
    (ha : a = (if s.plate.frame = 0 then s.waitTo (s.plate.startAt + 10000000) else s)) :
    execPlateFrameStart s = .next
      (a.modPlate (fun p => { p with busy := true, frameAt := a.hw, plane := p.planeOf p.frame })) := by
  subst ha
  simp only [execPlateFrameStart, operating, running, free, on, Option.isSome_none, Bool.not_true, Bool.or_self,
    Bool.false_eq_true, ↓reduceIte]

/-- A rail that has been up for 1 ms and is outside its tolerance aborts the update. -/
theorem execPlateRailFault_outside {rail : Nat} {mv : Int} (wasUp : s.plate.railUp (s.hw - 1000000) rail = true)
    (up : s.plate.railUp s.hw rail = true)
    (outside : (mv - railNominal s.plate rail).natAbs * 10 > (railNominal s.plate rail).natAbs) :
    execPlateRailFault rail mv s = .next
      (((s.raiseEv 0x27 0 184 0x5403 3 0 rail (ofSigned 32 mv) 0).plateAbort stBusy).plateNext s.plate.park) := by
  simp only [execPlateRailFault, operating, running, wasUp, up, Nat.not_le_of_lt outside, decide_false, Bool.not_true,
    Bool.or_self, Bool.false_eq_true, ↓reduceIte]

/-- 10 ms after the rails have gone off the image shown is known. -/
theorem execPlateDone_off {t : Nat} (off : s.plate.offAt = some t) :
    execPlateDone s = .next
      ((((((s.waitTo (t + 10000000)).modPlate (fun p =>
        { p with old := p.image, oldKnown := true, updates := (p.updates + 1) % 4294967296 })).clearFault 0x5403 0x27 0).clearFault
        0x5404 0x27 0).plateDone stDone (!s.plate.oldKnown)).plateNext s.plate.park) := by
  simp only [execPlateDone, off, operating, running, State.modPlate_plate, State.waitTo_leaves, Bool.not_true, Bool.or_self,
    Bool.false_eq_true, ↓reduceIte]

end Running

end PlateRows

/-! ### The checks before an update (14 R320) -/

section PlateChecks

variable {s a : State} {t : List Byte}

/-- A crack loop above 200 ohms locks the plate. -/
theorem plateChecks_cracked (cracked : 200 < s.drawNat.1) :
    s.plateChecks t =
      ((s.drawNat.2.modPlate (fun p => { p with crack := true })).raiseEv 0x27 0 184 0x5402 2 0 (min s.drawNat.1 65535) 0 0,
        .inl stLocked) :=
  if_pos cracked

/-- A whole plate at a valid temperature inside a band. -/
theorem plateChecks_band {b : Nat} (whole : ¬200 < s.drawNat.1)
    (ha : a = (s.drawNat.2.modPlate (fun p => { p with crack := false })).clearFault 0x5402 0x27 0)
    (valid : bit (a.sig a.plate.tempSig).flags 0 = true) (current : bit (a.sig a.plate.tempSig).flags 1 = false)
    (band : bandOf t (a.sig a.plate.tempSig).value = some b) :
    s.plateChecks t = (a, .inr b) := by
  subst ha
  simp only [State.plateChecks, gt_iff_lt, whole, valid, current, band, Bool.not_true, Bool.or_self, Bool.false_eq_true,
    ↓reduceIte]

end PlateChecks

/-! ### The PLATE verbs (14 R316-R322) -/

section PlateVerbs

variable {s : State} {r : Req}

/-- The offer of a command leaves the plate. -/
theorem offered_plate (s : State) (v : Verb) (r : Req) : (s.offered v r).plate = s.plate := by
  simp only [State.offered_leaves]

section Idle

variable (idle : s.plate.running = false)
include idle

/-- Settings in range with a readable temperature signal are taken; an image of another size is unknown. -/
theorem plateConfig_body {b : List Byte} (hb : b = r.payload) (width : 8 ≤ u16 b 0 ∧ u16 b 0 ≤ 512)
    (height : 8 ≤ u16 b 2 ∧ u16 b 2 ≤ 512) (area : u16 b 0 * u16 b 2 ≤ 131072) (temp : u16 b 4 < 0x1000)
    (clock : 4 ≤ u8 b 6 ∧ u8 b 6 ≤ 20) (drive : 100 ≤ u8 b 7 ∧ u8 b 7 ≤ 150)
    (readable : s.sigReadable r.win (u16 b 4) = true) :
    verbPlateConfig.body r s =
      ((s.modPlate (fun p =>
        { p with width := u16 b 0, height := u16 b 2, tempSig := u16 b 4, sck := u8 b 6, vsh := u8 b 7,
                 oldKnown := p.oldKnown && p.width == u16 b 0 && p.height == u16 b 2 })).dirty, stDone, []) := by
  subst hb
  simp only [verbPlateConfig, idle, Nat.not_lt_of_le width.1, Nat.not_lt_of_le width.2, Nat.not_lt_of_le height.1,
    Nat.not_lt_of_le height.2, Nat.not_lt_of_le area, Nat.not_le_of_lt temp, Nat.not_lt_of_le clock.1, Nat.not_lt_of_le clock.2,
    Nat.not_lt_of_le drive.1, Nat.not_lt_of_le drive.2, readable, gt_iff_lt, ge_iff_le, or_self, Bool.not_true,
    Bool.false_eq_true, ↓reduceIte]

/-- A waveform table in range is taken from its region. -/
theorem plateWaveform_body {a : State} {q : List Byte} (region : s.regionCheck r.win (u8 r.payload 0) 2112 = none)
    (hq : s.regionRead r.win (u8 r.payload 0) 0 2112 = q) (ha : a = s.regionDone r.win (u8 r.payload 0) r.tag 2112 false)
    (fields : waveOk a.plate q = true) :
    verbPlateWaveform.body r s = ((a.modPlate (fun p => { p with wave := some q })).dirty, stDone, []) := by
  subst ha
  simp only [verbPlateWaveform, idle, region, hq, fields, Bool.false_eq_true, ↓reduceIte]

section Update

variable {q : List Byte} (region : s.regionCheck r.win (u8 r.payload 0) s.plate.bytes = none) (wave : s.plate.wave = some q)
include region wave

theorem plateUpdate_body_refused {a : State} {st : Nat} (checks : s.plateChecks q = (a, .inl st)) :
    verbPlateUpdate.body r s = (a, st, []) := by
  simp only [verbPlateUpdate, region, idle, wave, checks, Bool.false_eq_true, ↓reduceIte]

/-- An update that its checks let pass is accepted and starts with the region's image. -/
theorem plateUpdate_body_starts {a : State} {b : Nat} (checks : s.plateChecks q = (a, .inr b)) :
    verbPlateUpdate.body r s =
      ((a.regionDone r.win (u8 r.payload 0) r.tag s.plate.bytes false).plateStart
        (a.regionRead r.win (u8 r.payload 0) 0 s.plate.bytes) b (some { win := r.win, tag := r.tag }), stAccepted, []) := by
  simp only [verbPlateUpdate, region, idle, wave, checks, Bool.false_eq_true, ↓reduceIte]

end Update

end Idle

/-- The park image's base and settings are taken. -/
theorem platePark_body {b : List Byte} (hb : b = r.payload) (region : s.regionCheck r.win (u8 b 0) s.plate.bytes = none)
    (faults : u8 b 1 ≤ 4) :
    verbPlatePark.body r s =
      (((s.regionDone r.win (u8 b 0) r.tag s.plate.bytes false).modPlate (fun p =>
        { p with base := some (s.regionRead r.win (u8 b 0) 0 s.plate.bytes), parkFaults := u8 b 1, parkX := u16 b 2,
                 parkY := u16 b 4, parkId := slice b 6 16 })).dirty, stDone, []) := by
  subst hb
  simp only [verbPlatePark, region, gt_iff_lt, Nat.not_lt_of_le faults, ↓reduceIte]

end PlateVerbs

/-- Settles O31: each row's command under its conditions is given by its row's lemma; a verb's effect is that on the offered state,
whose plate is that of `s`, and an update's is decided by its checks. -/
theorem plateRowsComplete : Obligations.PlateRowsComplete := by
  refine ⟨?frameStart, ?frameDone, ?busyTimeout, ?railFault, ?done, ?status, ?config, ?waveform, ?update, ?park⟩
  case frameStart =>
    exact fun s a operating running free on ha => execPlateFrameStart_free operating running free on ha
  case frameDone => exact fun s a last operating busy ha hlast => execPlateFrameDone_busy operating busy ha hlast
  case busyTimeout => exact fun s operating busy => execPlateBusyTimeout_busy operating busy
  case railFault =>
    exact fun s rail mv operating running wasUp up outside => execPlateRailFault_outside operating running wasUp up outside
  case done => exact fun s t off operating running => execPlateDone_off operating running off
  case status =>
    intro s r h
    exact row_eq h (by rw [← offered_plate s verbPlateStatus r]; rfl) (by decide)
  case config =>
    intro s r b h hb idle width width' height height' area temp clock clock' drive drive' readable
    rw [← offered_plate s verbPlateConfig r] at idle
    obtain ⟨-, -, -, -, -, -, -, -, sigReadable, -⟩ := offered_reads s verbPlateConfig r
    exact row_eq h (plateConfig_body idle hb ⟨width, width'⟩ ⟨height, height'⟩ area temp ⟨clock, clock'⟩ ⟨drive, drive'⟩
      ((sigReadable ..).trans readable)) (by decide)
  case waveform =>
    intro s r q h idle region hq fields
    rw [← offered_plate s verbPlateWaveform r] at idle
    exact row_eq h (plateWaveform_body idle region hq rfl fields) (by decide)
  case update =>
    rintro s o a r q b h rfl region idle wave ha valid current band
    rw [← offered_plate s verbPlateUpdate r] at region idle wave ⊢
    split
    · next cracked =>
      exact row_eq h (plateUpdate_body_refused idle region wave (plateChecks_cracked cracked)) (by decide)
    · next whole =>
      exact row_eq h (plateUpdate_body_starts idle region wave (plateChecks_band whole ha valid current band)) (by decide)
  case park =>
    intro s r b h hb region faults
    rw [← offered_plate s verbPlatePark r] at region ⊢
    exact row_eq h (platePark_body hb region faults) (by decide)

end Sys2Proof.Machine
end

section
/-! CAN (spec 15): the rows of frames, queues, routes, schedules and transport, and the CAN verbs. A row's lemma gives its command
under the row's conditions; a verb's lemma, its effect. -/

namespace Sys2Proof.Machine

/-! ### Frames on a live channel (15 R324, R325, R331, R342, R343) -/

section CanLive

variable {s a b : State} {ch : Nat}

/-- A classical frame is counted, lowers the receive error count, and goes to the matches, signals, queues, routes, the schedule and the
transport in this order. -/
theorem execCanFrameRx_classical {f : CanRx} {stamp sigAt : Nat} (live : s.canLive f.ch = true) (length : f.data.length ≤ 8)
    (classical : f.fd = false) (hstamp : s.frameStamp f.ch (s.hw - f.ago) = stamp) (hsig : s.sigStamp (s.hw - f.ago) = sigAt)
    (ha : (s.modCan f.ch (fun x => { x with rx := satAdd 32 x.rx 1 })).canErrors f.ch (s.canCh f.ch).tecErr
      (if (s.canCh f.ch).recErr > 127 then 127 else (s.canCh f.ch).recErr - 1) = a)
    (hb : (a.entries f.ch 5).foldl (fun (s : State) e => s.hpFrame f stamp e.2) a = b) :
    execCanFrameRx f s = .next
      ((((((((b.entries f.ch 1).filter (fun e => eForm e.2 == 1)).foldl
        (fun (s : State) e => s.rxExtract f sigAt e.1 e.2) b).rxQueues f stamp).rxRoutes f).rxReference f (s.hw - f.ago)).tpTake
        f.ch f.id f.data).nmFrame f.ch).nmEvalAll := by
  subst hstamp hsig ha hb
  simp only [execCanFrameRx, live, classical, gt_iff_lt, Nat.not_lt_of_le length, decide_false, Bool.false_and, Bool.not_true,
    Bool.or_self, Bool.false_eq_true, ↓reduceIte]

section OnBus

variable (live : s.canLive ch = true) (normal : (s.canCh ch).mode = 1)
include live normal

/-- A frame of a transmit object that had the bus completes. -/
theorem execCanTxComplete_sent {ago i : Nat} (pick : s.txPick ch = some (.object i)) :
    execCanTxComplete ch 0 ago s = .next
      ((s.txDone ch (s.hw - ago) (.object i)).canHostSent ch (u32 (s.pan i) 4) ((s.txSt i).onWire (s.hw - ago))) := by
  simp only [execCanTxComplete, live, normal, pick, gt_iff_lt, Nat.not_lt_zero, bne_self_eq_false, decide_false, Bool.not_true,
    Bool.or_self, Bool.false_eq_true, ↓reduceIte]

theorem execCanTxComplete_failed {outcome ago : Nat} {q : TxPick} (failed : 1 ≤ outcome) (cause : outcome ≤ 6)
    (pick : s.txPick ch = some q) : execCanTxComplete ch outcome ago s = .next (s.txBad ch outcome q) := by
  simp only [execCanTxComplete, live, normal, pick, gt_iff_lt, Nat.not_lt_of_le cause, Nat.ne_zero_of_lt failed,
    bne_self_eq_false, decide_false, Bool.not_true, Bool.or_self, Bool.false_eq_true, ↓reduceIte]

end OnBus

/-- A transmitter dominant for more than 4 ms raises its fault. -/
theorem execCanTxdDominant_long {us : Nat} (live : s.canLive ch = true) (long : us > 4000) :
    execCanTxdDominant ch us s = .next (s.raiseEv 0x30 ch (185 + ch) 0x6003 3 ch 0 0 0) := by
  simp only [execCanTxdDominant, live, Nat.not_le_of_lt long, decide_false, Bool.not_true, Bool.or_self, Bool.false_eq_true,
    ↓reduceIte]

theorem execCanBusError_live {inc : Nat} (live : s.canLive ch = true)
    (ha : a = s.modCan ch (fun x => { x with errs := satAdd 32 x.errs 1 })) :
    execCanBusError ch inc s = .next (a.canErrors ch (a.canCh ch).tecErr (min 255 ((a.canCh ch).recErr + inc))) := by
  subst ha
  simp only [execCanBusError, live, Bool.not_true, Bool.false_eq_true, ↓reduceIte]

end CanLive

/-! ### Transmit objects and slots (15 R341, R346, R347) -/

section CanObjects

variable {s a : State} {idx : Nat}

section Object

variable (runs : s.canRuns (eChan (s.pan idx)) = true) (head : s.isHeadAt idx = true)
include runs head

theorem execCanTxPeriodic_due (periodic : u8 (s.pan idx) 9 = 1) (period : u16 (s.pan idx) 12 ≠ 0) :
    execCanTxPeriodic idx s = .next ((s.boundary (270 + 1000 * idx) (u16 (s.pan idx) 12 * 1000000)
      (u16 (s.pan idx) 14 * 1000000)).txRequest idx false) := by
  simp only [execCanTxPeriodic, runs, head, periodic, beq_eq_false_iff_ne.mpr period, bne_self_eq_false, Bool.not_true,
    Bool.or_self, Bool.false_eq_true, ↓reduceIte]

/-- A changed signal requests its object, not within the minimum interval of the last request. -/
theorem execCanTxOnChange_changed {t : Nat} (onChange : u8 (s.pan idx) 9 = 3)
    (changed : (s.packsOf idx).map (fun m => (s.sig (u16 m 0)).stamp) ≠ (s.txSt idx).seen)
    (last : (s.txSt idx).lastReq = some t) :
    execCanTxOnChange idx s = .next ((s.waitTo (t + u16 (s.pan idx) 12 * 1000000)).txRequest idx false) := by
  simp only [execCanTxOnChange, runs, head, onChange, beq_eq_false_iff_ne.mpr changed, last, bne_self_eq_false, Bool.not_true,
    Bool.or_self, Bool.false_eq_true, ↓reduceIte]

end Object

/-- A signal without its frame for the time-out is stale. -/
theorem execCanSignalTimeout_due (operating : s.operating = true) (runs : s.running 0x30 0 = true)
    (counts : tget 0 s.can.sigTimeouts idx ≠ 0) (type : eType (s.pan idx) = 1) (form : eForm (s.pan idx) = 1)
    (limit : u16 (s.pan idx) 12 ≠ 0)
    (ha : a = s.waitTo (tget 0 s.can.sigTimeouts idx - 1 + u16 (s.pan idx) 12 * 1000000)) :
    execCanSignalTimeout idx s = .next
      (({ a with can.sigTimeouts := tset 0 s.can.sigTimeouts idx 0 } : State).modFlags (u16 (s.pan idx) 16) (· ||| fgStale)) := by
  subst ha
  simp only [execCanSignalTimeout, operating, runs, beq_eq_false_iff_ne.mpr counts, type, form, beq_eq_false_iff_ne.mpr limit,
    State.waitTo_leaves, bne_self_eq_false, Bool.not_true, Bool.or_self, Bool.false_eq_true, ↓reduceIte]

/-- The window of an exclusive slot opens once in its cycle and requests its object. -/
theorem execCanSlotWindow_exclusive {c t start : Nat} (hc : c = eChan (s.pan idx)) (runs : s.canRuns c = true)
    (slot : (s.entries c 3).any (fun q => q.1 == idx) = true) (scheduled : (s.canCh c).sched.role ≠ 0)
    (synced : (s.canCh c).synced = true) (last : (s.canCh c).lastRef = some t)
    (active : slotActive (s.pan idx) (s.canCh c).cycle = true) (hstart : start = t + u16 (s.pan idx) 4 * 1000)
    (fresh : tget 0 s.time.ticks (280 + 1000 * idx) ≠ start + 1) (exclusive : eForm (s.pan idx) = 0)
    (ha : a = { (s.waitTo start) with
      time.ticks := tset 0 (s.waitTo start).time.ticks (280 + 1000 * idx) (start + 1) })
    (head : a.isHeadAt (u16 (s.pan idx) 10) = true) :
    execCanSlotWindow idx s = .next (a.txRequest (u16 (s.pan idx) 10) true) := by
  subst hc hstart ha
  simp only [execCanSlotWindow, runs, slot, beq_eq_false_iff_ne.mpr scheduled, synced, last, active, beq_eq_false_iff_ne.mpr fresh,
    exclusive, head, Bool.not_true, Bool.or_self, Bool.false_eq_true, and_self, ↓reduceIte]

end CanObjects

/-! ### Channels, queues, routes and the schedule (15 R325, R326, R336, R337, R345, R346, R350) -/

/-- A match in its time-out mode is true when no frame has come for its hold time. -/
theorem execCanHpHoldExpiry_timeout {s : State} {ch k i t : Nat} {q : List Byte}
    (entry : (s.entries ch 5).find? (fun e => eForm e.2 == k) = some (i, q)) (mode : u8 q 12 = 3)
    (unset : (tget HpMatch.reset (s.canCh ch).hpms k).term = false)
    (last : (tget HpMatch.reset (s.canCh ch).hpms k).lastAt = some t) (operating : s.operating = true) :
    execCanHpHoldExpiry ch k s = .next ((s.waitTo (t + u16 q 14 * 1000000)).modCan ch (fun x =>
      { x with hpms := tmod HpMatch.reset x.hpms k (fun h => { h with term := true }) })) := by
  simp only [execCanHpHoldExpiry, entry, mode, unset, last, operating, beq_self_eq_true, Bool.not_true, Bool.not_false, Bool.and_self,
    Bool.or_true, Bool.or_self, Bool.false_eq_true, ↓reduceIte]

section CanRuns

variable {s a : State} {ch t : Nat} (runs : s.canRuns ch = true)
include runs

theorem execCanBusRecovered_off (off : (s.canCh ch).state = 3) (recovering : (s.canCh ch).recovering = true) :
    execCanBusRecovered ch s = .next
      ((s.modCan ch (fun x => { x with state := 1, recovering := false, tecErr := 0, recErr := 0, joining := false })).clearFault
        0x6002 0x30 ch) := by
  simp only [execCanBusRecovered, runs, off, recovering, bne_self_eq_false, Bool.not_true, Bool.or_self, Bool.false_eq_true,
    ↓reduceIte]

theorem execCanRejoin_on (on : (s.canCh ch).mode ≠ 0) :
    execCanRejoin ch s = .next (s.modCan ch (fun x => { x with joining := false })) := by
  simp only [execCanRejoin, runs, beq_eq_false_iff_ne.mpr on, Bool.not_true, Bool.or_self, Bool.false_eq_true, ↓reduceIte]

/-- The oldest unacknowledged entry of a window queue has the age that notifies. -/
theorem execCanQueueNotifyAge_due {q : Nat} {l : List Nat} (window : (s.canQ ch q).consumer = 1) (ha : s.queueRead ch q = a)
    (posts : (a.canQ ch q).posts = t :: l) (quiet : (a.canQ ch q).notified = false) :
    execCanQueueNotifyAge ch q s = .next ((a.waitTo (t + (a.canQ ch q).ageMs * 1000000)).queueNotify ch q) := by
  subst ha
  simp only [execCanQueueNotifyAge, runs, window, posts, quiet, bne_self_eq_false, Bool.not_true, Bool.or_self, Bool.false_eq_true,
    ↓reduceIte]

/-- Frames held for a second are dropped, each with its count. -/
theorem execCanRouteHoldTimeout_held {g : GwFrame} (held : (s.canCh ch).fifo.find? (·.held) = some g)
    (ha : s.waitTo (g.arrAt + 1000000000) = a) :
    execCanRouteHoldTimeout ch s = .next
      ((((a.canCh ch).fifo.filter (fun h => h.held && decide (h.arrAt + 1000000000 ≤ a.hw))).foldl
        (fun (s : State) g => s.routeDrop g.src ch 4)
        (a.modCan ch (fun x =>
          { x with fifo := (a.canCh ch).fifo.filter (fun h => !(h.held && decide (h.arrAt + 1000000000 ≤ a.hw))) }))).nmEvalAll) := by
  subst ha
  simp only [execCanRouteHoldTimeout, held, runs, Bool.not_true, Bool.false_eq_true, ↓reduceIte]

/-- The master of a schedule starts its basic cycle, with a schedule that waited. -/
theorem execCanBasicCycle_master (master : (s.canCh ch).sched.role = 1)
    (ha : (s.boundary (277 + 1000 * ch) ((s.canCh ch).sched.cycleUs * 1000) ((s.canCh ch).sched.phaseUs * 1000)).schedApply ch = a)
    (stays : (a.canCh ch).sched.role = 1) :
    execCanBasicCycle ch s = .next (a.sendReference ch
      ((a.hw - (a.canCh ch).sched.phaseUs * 1000) / ((a.canCh ch).sched.cycleUs * 1000) % (a.canCh ch).sched.matrix)) := by
  subst ha
  simp only [execCanBasicCycle, runs, master, stays, bne_self_eq_false, Bool.not_true, Bool.or_self, Bool.false_eq_true, ↓reduceIte]

section Reference

variable (last : (s.canCh ch).lastRef = some t)
include last

/-- A backup master sends the reference that did not come. -/
theorem execCanBackupReference_backup (backup : (s.canCh ch).sched.role = 3)
    (ha : (s.waitTo (t + ((s.canCh ch).sched.cycleUs + (if (s.canCh ch).backup then 0 else (s.canCh ch).sched.backupUs)) *
      1000)).schedApply ch = a) (stays : (a.canCh ch).sched.role = 3) :
    execCanBackupReference ch s = .next
      ((a.sendReference ch (((s.canCh ch).cycle + 1) % (a.canCh ch).sched.matrix)).clearFault 0x6008 0x30 ch) := by
  subst ha
  simp only [execCanBackupReference, last, runs, backup, stays, bne_self_eq_false, Bool.not_true, Bool.or_self, Bool.false_eq_true,
    ↓reduceIte]

/-- A follower without a reference for one and a half cycles has lost the schedule. -/
theorem execCanScheduleLost_follower (follower : (s.canCh ch).sched.role = 2) (quiet : (s.canCh ch).backup = false)
    (synced : (s.canCh ch).synced = true) (ha : a = s.waitTo (t + (s.canCh ch).sched.cycleUs * 1500)) :
    execCanScheduleLost ch s = .next
      ((a.modCan ch (fun x => { x with synced := false, schedLost := true })).raiseEv 0x30 ch (185 + ch) 0x6008 3 ch (s.canCh ch).cycle
        ((a.hw - t) / (max 1 (s.canCh ch).sched.cycleUs * 1000)) 0) := by
  subst ha
  simp only [execCanScheduleLost, last, runs, follower, quiet, synced, beq_self_eq_true, Bool.true_or, Bool.not_true, Bool.or_self,
    Bool.false_eq_true, ↓reduceIte]

end Reference

end CanRuns

/-- The accepted writes of the Pantry take effect together. -/
theorem execCanPantryCommit_operating {s : State} (operating : s.operating = true) :
    execCanPantryCommit s = .next (({ s with can.pendPantry := [] } : State).panCommit s.can.pendPantry) := by
  simp only [execCanPantryCommit, operating, Bool.not_true, Bool.false_eq_true, ↓reduceIte]

/-! ### Transport sessions (15 R351) -/

section CanSessions

variable {s a : State} {ch i : Nat} (runs : s.canRuns ch = true) (unpaused : s.keeper.paused = false)
  (hardware : s.isHost (canKey ch) = false) (broadcast : (s.tpSess ch i).kind = 0)
include runs unpaused hardware broadcast

/-- A broadcast session whose time-out expires is aborted with reason 3; it has no peer to tell. -/
theorem execCanTpTimeout_broadcast (session : i < (s.canCh ch).sessions.length) (limit : (s.tpSess ch i).tmo ≠ 0) :
    execCanTpTimeout ch i s = .next ((s.waitTo ((s.tpSess ch i).lastAt + (s.tpSess ch i).tmo * 1000000)).tpAbort ch i 3) := by
  simp only [execCanTpTimeout, runs, unpaused, hardware, broadcast, ge_iff_le, Nat.not_le_of_lt session,
    beq_eq_false_iff_ne.mpr limit, decide_false, Bool.not_true, Bool.or_self, Bool.false_eq_true, ↓reduceIte]

/-- A packet of a broadcast send before its last. -/
theorem execCanTpBamPacket_inner (sends : (s.tpSess ch i).send = true)
    (more : (s.tpSess ch i).packets + 1 < tpPackets (s.tpSess ch i).total)
    (ha : a = (s.waitTo (s.tpSess ch i).nextAt).tpSendWindow ch i ((s.tpSess ch i).packets + 1) 1) :
    execCanTpBamPacket ch i s = .next
      (a.modTp ch i (fun x => { x with tmo := 0, nextAt := a.hw + (a.canCh ch).tpBamMs * 1000000 })) := by
  subst ha
  simp only [execCanTpBamPacket, runs, unpaused, hardware, broadcast, sends, ge_iff_le, Nat.not_le_of_lt more, bne_self_eq_false,
    Bool.not_true, Bool.or_self, Bool.false_eq_true, ↓reduceIte]

end CanSessions

/-- Settles O25: each row's command under its conditions is given by its row's lemma. -/
theorem canEventRowsComplete : Obligations.CanEventRowsComplete := by
  refine ⟨?frameRx, ?txSent, ?txFailed, ?txPeriodic, ?txOnChange, ?busRecovered, ?rejoin, ?txdDominant, ?busError, ?hpHoldExpiry,
    ?signalTimeout, ?queueNotifyAge, ?routeHoldTimeout, ?basicCycle, ?backupReference, ?scheduleLost, ?slotWindow, ?pantryCommit,
    ?tpTimeout, ?tpBamPacket⟩
  case frameRx =>
    exact fun s a b f stamp sigAt live length classical hstamp hsig ha hb =>
      execCanFrameRx_classical live length classical hstamp hsig ha hb
  case txSent => exact fun s ch ago i live normal pick => execCanTxComplete_sent live normal pick
  case txFailed =>
    exact fun s ch outcome ago q live normal failed cause pick => execCanTxComplete_failed live normal failed cause pick
  case txPeriodic => exact fun s idx runs head periodic period => execCanTxPeriodic_due runs head periodic period
  case txOnChange =>
    exact fun s idx t runs head onChange changed last => execCanTxOnChange_changed runs head onChange changed last
  case busRecovered => exact fun s ch runs off recovering => execCanBusRecovered_off runs off recovering
  case rejoin =>
    intro s ch runs on
    refine ⟨_, execCanRejoin_on runs on, by simp only [State.modCan_canCh], ?_⟩
    obtain ⟨t, row, frame⟩ := execCanRejoin_frame ch s
    obtain rfl := Host.Outcome.next.inj (row.symm.trans (execCanRejoin_on runs on))
    exact frame_exec frame rfl
  case txdDominant => exact fun s ch us live long => execCanTxdDominant_long live long
  case busError => exact fun s ch inc live => execCanBusError_live live rfl
  case hpHoldExpiry =>
    exact fun s ch k i t q entry mode unset last operating => execCanHpHoldExpiry_timeout entry mode unset last operating
  case signalTimeout =>
    exact fun s idx operating runs counts type form limit => execCanSignalTimeout_due operating runs counts type form limit rfl
  case queueNotifyAge =>
    exact fun s a ch q t l runs window ha posts quiet => execCanQueueNotifyAge_due runs window ha posts quiet
  case routeHoldTimeout => exact fun s a ch g held runs ha => execCanRouteHoldTimeout_held runs held ha
  case basicCycle => exact fun s a ch runs master ha stays => execCanBasicCycle_master runs master ha stays
  case backupReference =>
    exact fun s a ch t last runs backup ha stays => execCanBackupReference_backup runs last backup ha stays
  case scheduleLost =>
    exact fun s ch t last runs follower quiet synced => execCanScheduleLost_follower runs last follower quiet synced rfl
  case slotWindow =>
    exact fun s idx c t hc runs slot scheduled synced last active fresh exclusive head =>
      execCanSlotWindow_exclusive hc runs slot scheduled synced last active rfl fresh exclusive rfl head
  case pantryCommit => exact fun s operating => execCanPantryCommit_operating operating
  case tpTimeout =>
    exact fun s ch i runs unpaused session limit hardware broadcast =>
      execCanTpTimeout_broadcast runs unpaused hardware broadcast session limit
  case tpBamPacket =>
    exact fun s ch i runs unpaused sends broadcast hardware more =>
      execCanTpBamPacket_inner runs unpaused hardware broadcast sends more rfl

/-! ### The CAN verbs (15 R323, R325, R326, R330, R333, R338, R343-R345, R351, R353) -/

section CanVerbs

variable {s a : State} {r : Req} {p : List Byte}

theorem offered_canCh (s : State) (v : Verb) (r : Req) (c : Nat) : (s.offered v r).canCh c = s.canCh c := by
  simp only [State.offered_leaves]

theorem canHpRead_body {q : HpMatch} (hq : tget HpMatch.reset (s.canCh r.inst).hpms (u8 r.payload 0) = q)
    (known : u8 r.payload 0 ≤ 7) :
    verbCanHpRead.body r s =
      (s, stDone, b64 q.stamp ++ b32 q.id ++ b8 q.len ++ b8 (b2n q.term) ++ b16 q.passes ++ slice q.data 0 64) := by
  subst hq
  simp only [verbCanHpRead, gt_iff_lt, Nat.not_lt_of_le known, ↓reduceIte]

theorem canTxStatus_body {q : TxState} (hq : s.txSt (u16 r.payload 0) = q) (head : s.isHeadAt (u16 r.payload 0) = true) :
    verbCanTxStatus.body r s =
      (s, stDone, b8 q.state ++ b8 q.outcome ++ zeros 2 ++ b32 q.sent ++ b32 q.fails ++ b32 q.overruns ++ b64 q.stamp) := by
  subst hq
  simp only [verbCanTxStatus, head, Bool.not_true, Bool.false_eq_true, ↓reduceIte]

section Config

variable (hp : p = r.payload) (mode : u8 p 0 ≤ 2) (flags : u8 p 1 ≤ 7) (arb : 50 ≤ u8 p 2 ∧ u8 p 2 ≤ 90)
  (data : 50 ≤ u8 p 3 ∧ u8 p 3 ≤ 90) (rate : 50000 ≤ u32 p 4 ∧ u32 p 4 ≤ 1000000) (whole : 80000000 % u32 p 4 = 0)
  (classical : bit (u8 p 1) 0 = false)
include hp mode flags arb data rate whole classical

/-- Settings of a classical channel that leave its mode and timing. -/
theorem canConfig_body_same (sameMode : (s.canCh r.inst).mode = u8 p 0) (sameFd : (s.canCh r.inst).fd = false)
    (sameArb : (s.canCh r.inst).spArb = u8 p 2) (sameData : (s.canCh r.inst).spData = u8 p 3)
    (sameRate : (s.canCh r.inst).rateArb = u32 p 4) :
    verbCanConfig.body r s =
      ((s.modCan r.inst (fun x =>
        { x with mode := u8 p 0, fd := false, term := bit (u8 p 1) 1, autoRec := bit (u8 p 1) 2, spArb := u8 p 2, spData := u8 p 3,
                 rateArb := u32 p 4, rateData := (s.canCh r.inst).rateData })).dirty, stDone, []) := by
  subst hp
  simp only [verbCanConfig, gt_iff_lt, Nat.not_lt_of_le mode, Nat.not_lt_of_le flags, Nat.not_lt_of_le arb.1,
    Nat.not_lt_of_le arb.2, Nat.not_lt_of_le data.1, Nat.not_lt_of_le data.2, Nat.not_lt_of_le rate.1, Nat.not_lt_of_le rate.2, whole,
    classical, sameMode, sameFd, sameArb, sameData, sameRate, bne_self_eq_false, ne_eq, not_true_eq_false, false_and, or_self,
    Bool.or_self, Bool.false_eq_true, ↓reduceIte]

/-- A changed mode of a channel that is not in use makes it join afresh. -/
theorem canConfig_body_mode (changed : (s.canCh r.inst).mode ≠ u8 p 0) (unused : (s.canCh r.inst).usable = false) :
    verbCanConfig.body r s =
      ((((s.modCan r.inst (fun x =>
        { x with mode := u8 p 0, fd := false, term := bit (u8 p 1) 1, autoRec := bit (u8 p 1) 2, spArb := u8 p 2, spData := u8 p 3,
                 rateArb := u32 p 4, rateData := (s.canCh r.inst).rateData })).modCan r.inst (fun x =>
        { x with joining := u8 p 0 != 0, state := if u8 p 0 = 0 then 0 else 1, tecErr := 0, recErr := 0,
                 recovering := false })).clearFault 0x6002 0x30 r.inst).dirty, stDone, []) := by
  subst hp
  simp only [verbCanConfig, gt_iff_lt, Nat.not_lt_of_le mode, Nat.not_lt_of_le flags, Nat.not_lt_of_le arb.1,
    Nat.not_lt_of_le arb.2, Nat.not_lt_of_le data.1, Nat.not_lt_of_le data.2, Nat.not_lt_of_le rate.1, Nat.not_lt_of_le rate.2, whole,
    classical, bne_iff_ne.mpr changed, unused, ne_eq, not_true_eq_false, false_and, and_false, or_self, Bool.true_or,
    Bool.false_eq_true, ↓reduceIte]

end Config

section Pantry

variable (entries : u16 r.payload 4 ≠ 0) (inside : u16 r.payload 2 + u16 r.payload 4 ≤ 16384)
  (region : s.regionCheck r.win (u8 r.payload 1) (32 * u16 r.payload 4) = none)
include entries inside region

/-- A checked write waits for the next commit. -/
theorem canPantry_body_write {run : List (Nat × List Byte)} (write : u8 r.payload 0 = 0) (hrun : s.panRun r = run)
    (ha : s.regionDone r.win (u8 r.payload 1) r.tag (32 * u16 r.payload 4) false = a)
    (checked : (headsOf (panWrite s.panNext run) run).findSome? (fun e =>
      (a.entryCheck r.win (a.panRange r.win).2 (panWrite s.panNext run) e.1 e.2).map (fun c => (e.1, c.1, c.2))) = none) :
    verbCanPantry.body r s = (({ a with can.pendPantry := a.can.pendPantry ++ run } : State).dirty, stDone, []) := by
  subst hrun ha
  simp only [verbCanPantry, write, entries, gt_iff_lt, Nat.not_lt_of_le inside, region, checked, Nat.not_lt_zero, or_self,
    zero_ne_one, ↓reduceIte]

/-- A read gives the entries of channels that the window may observe. -/
theorem canPantry_body_read (read : u8 r.payload 0 = 1) :
    verbCanPantry.body r s =
      ((s.regionWrite r.win (u8 r.payload 1) 0 ((List.range (u16 r.payload 4)).map (fun j =>
        if s.right r.win 0x30 (s.ownerChan (u16 r.payload 2 + j)) false then slice (s.pan (u16 r.payload 2 + j)) 0 32
        else zeros 32)).flatten).regionDone r.win (u8 r.payload 1) r.tag (32 * u16 r.payload 4) true, stDone, []) := by
  simp only [verbCanPantry, read, entries, gt_iff_lt, Nat.not_lt_of_le inside, region, lt_irrefl, or_self, ↓reduceIte]

end Pantry

section Queue

variable (known : u8 r.payload 0 ≤ 15) (unbound : (s.canQ r.inst (u8 r.payload 0)).consumer = 0)
  (placing : (s.canQ r.inst (u8 r.payload 0)).overflow = false)
include known unbound placing

theorem canQueue_body_off (off : u8 r.payload 1 = 0) :
    verbCanQueue.body r s =
      ((s.modQ r.inst (u8 r.payload 0) (fun _ => CanQueue.reset)).dirty, stDone, []) := by
  simp only [verbCanQueue, gt_iff_lt, Nat.not_lt_of_le known, unbound, placing, off, Nat.not_lt_zero, zero_ne_one,
    OfNat.zero_ne_ofNat, ne_eq, not_true_eq_false, false_and, or_self, Bool.false_eq_true, ↓reduceIte]

/-- A window becomes the queue's consumer, and its region gets the ring's header. -/
theorem canQueue_body_window (window : u8 r.payload 1 = 1) (desc : u8 r.payload 2 ≤ 63) (threshold : u8 r.payload 3 ≠ 0)
    (age : u8 r.payload 4 ≠ 0 ∧ u8 r.payload 4 ≤ 100) (region : s.regionCheck r.win (u8 r.payload 2) 1600 = none)
    (ha : a = s.modQ r.inst (u8 r.payload 0) (fun _ =>
      { CanQueue.reset with consumer := 1, win := r.win, desc := u8 r.payload 2, thr := u8 r.payload 3, ageMs := u8 r.payload 4 })) :
    verbCanQueue.body r s =
      ((a.regionWrite r.win (u8 r.payload 2) 0
        (b32 0 ++ b32 0 ++ b32 (a.queueE (a.canQ r.inst (u8 r.payload 0))) ++ b32 0)).dirty, stDone, []) := by
  subst ha
  simp only [verbCanQueue, gt_iff_lt, Nat.not_lt_of_le known, unbound, placing, window, Nat.not_lt_of_le desc, threshold, age.1,
    Nat.not_lt_of_le age.2, region, Nat.reduceLT, one_ne_zero,
    OfNat.zero_ne_ofNat, ne_eq, not_true_eq_false, false_and, and_false, or_self, Bool.false_eq_true, ↓reduceIte]

end Queue

/-- A schedule in range waits for its basic cycle, and with none running it takes effect. -/
theorem canSchedule_body (hp : p = r.payload) (role : u8 p 0 ≤ 3) (matrix : isPow (u8 p 1) = true)
    (reserved : bits (u32 p 4) 30 29 = 0) (cycle : 1000 ≤ u16 p 8) (phase : u8 p 0 = 1 → u16 p 10 < u16 p 8)
    (backup : 100 ≤ u16 p 12 ∧ u16 p 12 ≤ 10000)
    (ha : a = s.modCan r.inst (fun x =>
      { x with pendSched := some { role := u8 p 0, matrix := u8 p 1, refId := u32 p 4, cycleUs := u16 p 8, phaseUs := u16 p 10,
                                   backupUs := u16 p 12 } })) :
    verbCanSchedule.body r s =
      ((if (a.canCh r.inst).sched.role = 0 ∨ ((a.canCh r.inst).sched.role ≠ 1 ∧ (a.canCh r.inst).synced = false) then
        a.schedApply r.inst else a).dirty, stDone, []) := by
  have inCycle : ¬(u8 p 0 = 1 ∧ u16 p 10 ≥ u16 p 8) := fun h => Nat.not_le_of_lt (phase h.1) h.2
  subst hp ha
  simp only [verbCanSchedule, gt_iff_lt, Nat.not_lt_of_le role, matrix, reserved, Nat.not_lt_of_le cycle, inCycle,
    Nat.not_lt_of_le backup.1, Nat.not_lt_of_le backup.2, ne_eq, not_true_eq_false, Bool.not_eq_true', Bool.true_eq_false, or_self,
    ↓reduceIte]

theorem canRecover_body (off : (s.canCh r.inst).report = 3) :
    verbCanRecover.body r s = (s.modCan r.inst (fun x => { x with recovering := true }), stDone, []) := by
  simp only [verbCanRecover, off, ne_eq, not_true_eq_false, ↓reduceIte]

/-- Data for an object that is sent on command are stored and the object is requested. -/
theorem canSend_body {i : Nat} (hi : i = u16 r.payload 0) (head : s.isHeadAt i = true) (plain : u8 r.payload 2 = 0)
    (filled : u8 r.payload 3 ≠ 0) (fits : u8 r.payload 3 ≤ u8 (s.pan i) 8)
    (usable : (s.canCh (eChan (s.pan i))).usable = true) (onCommand : u8 (s.pan i) 9 = 0) :
    verbCanSend.body r s =
      ((s.modTx i (fun t =>
        { t with stored := some (overwrite (s.txStored i) 0 (slice r.payload 4 (u8 r.payload 3))) })).txRequest i false,
        stDone, []) := by
  subst hi
  simp only [verbCanSend, head, plain, gt_iff_lt, Nat.not_lt_of_le fits, usable, filled, onCommand, Nat.zero_testBit, bit,
    Nat.not_lt_zero, Bool.not_true, Bool.not_false, Bool.false_eq_true, or_self, and_self, ↓reduceIte]

/-- Disabling the transport ends the sessions of its channel with a free reason. -/
theorem canTp_body_off (hp : p = r.payload) (off : u8 p 0 = 0) (address : u8 p 1 ≤ 253) (packets : u8 p 2 ≠ 0 ∧ u8 p 2 ≤ 16)
    (spacing : 50 ≤ u8 p 3 ∧ u8 p 3 ≤ 200) (desc : u8 p 4 ≤ 63) :
    verbCanTp.body r s =
      ((((s.drawNat.2.tpAbortAll r.inst (s.drawNat.1 % 256)).modCan r.inst (fun x =>
        { x with tpOn := false, tpAddr := u8 p 1, tpCts := u8 p 2, tpBamMs := u8 p 3, tpWin := r.win, tpDesc := u8 p 4, tpProd := 0,
                 tpCons := 0, tpRefused := 0, hostWait := [], hostWin := [] })).canHostRefresh r.inst).dirty, stDone, []) := by
  subst hp
  simp only [verbCanTp, gt_iff_lt, off, Nat.not_lt_zero, Nat.not_lt_of_le address, packets.1, Nat.not_lt_of_le packets.2,
    Nat.not_lt_of_le spacing.1, Nat.not_lt_of_le spacing.2, Nat.not_lt_of_le desc, or_self, zero_ne_one, Nat.reduceBEq, ↓reduceIte]

/-- A broadcast send opens its session and announces its packets. -/
theorem canTpSend_body_broadcast (hp : p = r.payload) (desc : u8 p 0 ≤ 63) (prio : u8 p 2 ≤ 7) (everyone : u8 p 1 = 255)
    (long : 9 ≤ u32 p 8) (short : u32 p 8 ≤ 1785) (region : s.regionCheck r.win (u8 p 0) (u32 p 8) = none)
    (on : (s.canCh r.inst).tpOn = true) (hardware : s.isHost (canKey r.inst) = false) (usable : (s.canCh r.inst).usable = true)
    (room : s.tpCount r.inst true < 16) (free : s.tpFind r.inst true 255 true = none) :
    verbCanTpSend.body r s =
      (((s.regionBegin r.win (u8 p 0) r.tag false).modCan r.inst (fun y =>
        { y with sessions := y.sessions ++ [
          { TpSession.reset with active := true, send := true, kind := 0, peer := 255, dest := 255, pgn := u32 p 4 % 2 ^ 24,
                                 prio := u8 p 2, total := u32 p 8, op := some { win := r.win, tag := r.tag }, desc := u8 p 0,
                                 lastAt := s.hw, tmo := 0, nextAt := s.hw + (s.canCh r.inst).tpBamMs * 1000000 }] })).tpCm
        r.inst (u8 p 2) 255 false (b8 32 ++ b16 (u32 p 8) ++ b8 (tpPackets (u32 p 8)) ++ [255]) (u32 p 4), stAccepted, []) := by
  subst hp
  simp only [verbCanTpSend, gt_iff_lt, Nat.not_lt_of_le desc, Nat.not_lt_of_le prio, everyone, beq_self_eq_true,
    Nat.not_lt_of_le long, Nat.not_lt_of_le short, region, on, hardware, usable, ge_iff_le, Nat.not_le_of_lt room, free,
    State.regionBegin_leaves, Option.isSome_none, decide_false, Bool.not_true, Bool.false_eq_true, or_self, ↓reduceIte]

end CanVerbs

/-- Settles O26: a verb's effect is that on the offered state, whose CAN channels and clock are those of `s`. -/
theorem canVerbsComplete : Obligations.CanVerbsComplete := by
  refine ⟨?status, ?hpRead, ?txStatus, ?configSame, ?configMode, ?pantryWrite, ?pantryRead, ?queueOff, ?queueWindow, ?schedule,
    ?recover, ?send, ?tp, ?tpSend⟩
  case status =>
    rintro s r _ h rfl
    exact row_eq h (by rw [← offered_canCh s verbCanStatus r]; rfl) (by decide)
  case hpRead =>
    intro s r q h hq known
    rw [← offered_canCh s verbCanHpRead r] at hq
    exact row_eq h (canHpRead_body hq known) (by decide)
  case txStatus => exact fun s r q h hq head => row_eq h (canTxStatus_body hq head) (by decide)
  case configSame =>
    intro s r p h hp mode flags arbLow arbHigh dataLow dataHigh rateLow rateHigh whole classical sameMode sameFd sameArb sameData
      sameRate
    rw [← offered_canCh s verbCanConfig r] at sameMode sameFd sameArb sameData sameRate
    rw [← offered_canCh s verbCanConfig r]
    exact row_eq h (canConfig_body_same hp mode flags ⟨arbLow, arbHigh⟩ ⟨dataLow, dataHigh⟩ ⟨rateLow, rateHigh⟩ whole classical
      sameMode sameFd sameArb sameData sameRate) (by decide)
  case configMode =>
    intro s r p h hp mode flags arbLow arbHigh dataLow dataHigh rateLow rateHigh whole classical changed unused
    rw [← offered_canCh s verbCanConfig r] at changed unused
    rw [← offered_canCh s verbCanConfig r]
    exact row_eq h (canConfig_body_mode hp mode flags ⟨arbLow, arbHigh⟩ ⟨dataLow, dataHigh⟩ ⟨rateLow, rateHigh⟩ whole classical
      changed unused) (by decide)
  case pantryWrite =>
    exact fun s r a run h write entries inside region hrun ha checked =>
      row_eq h (canPantry_body_write entries inside region write hrun ha checked) (by decide)
  case pantryRead =>
    exact fun s r h read entries inside region => row_eq h (canPantry_body_read entries inside region read) (by decide)
  case queueOff =>
    exact fun s r h known off unbound placing => row_eq h (canQueue_body_off known unbound placing off) (by decide)
  case queueWindow =>
    exact fun s r h known window desc threshold ageMin ageMax region unbound placing =>
      row_eq h (canQueue_body_window known unbound placing window desc threshold ⟨ageMin, ageMax⟩ region rfl) (by decide)
  case schedule =>
    exact fun s r p h hp role matrix reserved cycle phase backupMin backupMax =>
      row_eq h (canSchedule_body hp role matrix reserved cycle phase ⟨backupMin, backupMax⟩ rfl) (by decide)
  case recover =>
    intro s r h off
    rw [← offered_canCh s verbCanRecover r] at off
    exact row_eq h (canRecover_body off) (by decide)
  case send =>
    intro s r i h hi head plain filled fits usable onCommand
    rw [← offered_canCh s verbCanSend r] at usable
    exact row_eq h (canSend_body hi head plain filled fits usable onCommand) (by decide)
  case tp =>
    exact fun s r p h hp off address packetsMin packetsMax spacingMin spacingMax desc =>
      row_eq h (canTp_body_off hp off address ⟨packetsMin, packetsMax⟩ ⟨spacingMin, spacingMax⟩ desc) (by decide)
  case tpSend =>
    intro s r p h hp desc prio everyone long short region on hardware usable room free
    obtain ⟨-, -, isHost, -, -, -, -, -, -, -⟩ := offered_reads s verbCanTpSend r
    rw [← offered_canCh s verbCanTpSend r] at on usable
    rw [← isHost] at hardware
    rw [← offered_canCh s verbCanTpSend r, ← offered_hw s verbCanTpSend r]
    exact row_eq h (canTpSend_body_broadcast hp desc prio everyone long short region on hardware usable room free) (by decide)

end Sys2Proof.Machine
end

section
/-! The networks (spec 17): the NM verbs. A verb's lemma gives its effect. -/

namespace Sys2Proof.Machine

/-! ### The NM verbs (17 R369, R379, R384, R385) -/

section NmVerbs

variable {s a : State} {r : Req}

/-- The offer of a command leaves the managed networks. -/
theorem offered_net (s : State) (v : Verb) (r : Req) (n : Nat) : (s.offered v r).net n = s.net n := by
  simp only [State.offered_leaves]

theorem offered_nm (s : State) (v : Verb) (r : Req) : (s.offered v r).nm = s.nm := by
  simp only [State.offered_leaves]

section Config

variable (uncommitted : (s.net r.inst).state ≠ 3) (noGap : (s.net r.inst).state ≠ 4)
include uncommitted noGap

/-- An unmanaged network wakes what it managed and keeps its holds. -/
theorem nmConfig_body_unmanage (unmanage : u8 r.payload 0 = 0)
    (ha : ((if (s.net r.inst).managed then
        (portsOf (s.net r.inst).t1Ports).foldl State.portWake (s.canWake (s.net r.inst).chan) else s).modNet r.inst (fun y =>
      { NmNet.reset with holds := y.holds, state := y.state, stateAt := y.stateAt, aborts := y.aborts })).nmState r.inst 0 = a) :
    verbNmConfig.body r s = ((a.clearFault 0x7104 0x33 r.inst).dirty, stDone, []) := by
  subst ha
  simp only [verbNmConfig, uncommitted, noGap, unmanage, or_self, ↓reduceIte]

/-- A managed network in range, on a channel and ports of its own, wakes them and restarts its ring with ALIVE. -/
theorem nmConfig_body_manage (manage : u8 r.payload 0 = 1) (chan : u8 r.payload 1 ≤ 7) (addr : u8 r.payload 2 ≤ 31)
    (flags : u8 r.payload 3 ≤ 3) (base : u16 r.payload 4 ≤ 0x7E0 ∧ u16 r.payload 4 % 32 = 0)
    (typ : 10 ≤ u16 r.payload 6 ∧ u16 r.payload 6 ≤ 1000)
    (max : 2 * u16 r.payload 6 ≤ u16 r.payload 8 ∧ u16 r.payload 8 ≤ 10000) (block : u16 r.payload 10 ≤ 3600)
    (ports : u8 r.payload 12 < 64) (tc10 : (portsOf (u8 r.payload 12)).all (fun q => (s.ethPort q).tc10) = true)
    (free : (List.range 3).any (fun m => m != r.inst && (s.net m).managed &&
      ((s.net m).chan == u8 r.payload 1 || (s.net m).t1Ports &&& u8 r.payload 12 != 0)) = false)
    (ha : (portsOf (u8 r.payload 12)).foldl State.portWake (((if (s.net r.inst).managed then
        (portsOf (s.net r.inst).t1Ports).foldl State.portWake (s.canWake (s.net r.inst).chan) else s).modNet r.inst (fun y =>
      { NmNet.reset with managed := true, chan := u8 r.payload 1, addr := u8 r.payload 2, initFlag := bit (u8 r.payload 3) 0,
                         partialNet := bit (u8 r.payload 3) 1, baseId := u16 r.payload 4, tTyp := u16 r.payload 6,
                         tMax := u16 r.payload 8, blockS := u16 r.payload 10, t1Ports := u8 r.payload 12, holds := y.holds,
                         state := y.state, stateAt := y.stateAt, aborts := y.aborts, lastWake := y.lastWake,
                         lastAbort := y.lastAbort })).canWake (u8 r.payload 1)) = a) :
    verbNmConfig.body r s =
      (((((a.clearFault 0x7104 0x33 r.inst).nmState r.inst 1).nmEval r.inst).nmAlive r.inst).dirty, stDone, []) := by
  subst ha
  simp only [verbNmConfig, uncommitted, noGap, manage, gt_iff_lt, ge_iff_le, Nat.not_lt_of_le chan, Nat.not_lt_of_le addr,
    Nat.not_lt_of_le flags, Nat.not_lt_of_le base.1, base.2, Nat.not_lt_of_le typ.1, Nat.not_lt_of_le typ.2,
    Nat.not_lt_of_le max.1, Nat.not_lt_of_le max.2, Nat.not_lt_of_le block, Nat.not_le_of_lt ports, tc10, free, lt_irrefl,
    one_ne_zero, ne_eq, not_true_eq_false, Bool.not_true, Bool.false_eq_true, or_self, ↓reduceIte]

end Config

/-- A window's hold is set or ended, and consent looked at again. -/
theorem nmRequest_body (known : u8 r.payload 0 ≤ 1) :
    verbNmRequest.body r s =
      ((s.modNet r.inst (fun x =>
        { x with holds := if u8 r.payload 0 = 1 then r.win :: x.holds.erase r.win else x.holds.erase r.win })).nmEval r.inst,
        stDone, []) := by
  simp only [verbNmRequest, gt_iff_lt, Nat.not_lt_of_le known, ↓reduceIte]

/-- Wake settings in range wait for the next transceiver sleep; a selective frame only on the first four channels. -/
theorem nmCanwake_body (mode : u8 r.payload 0 ≤ 2) (selective : u8 r.payload 0 = 1 → r.inst - 0x100 ≤ 3)
    (filter : 5 ≤ u8 r.payload 1 ∧ u8 r.payload 1 ≤ 50) (overflow : u8 r.payload 2 ≤ 1) (dlc : u8 r.payload 3 ≤ 8)
    (reserved : bits (u32 r.payload 4) 30 29 = 0) (rate : [125, 250, 500, 1000].contains (u16 r.payload 12) = true) :
    verbNmCanwake.body r s =
      ((s.modCan (r.inst - 0x100) (fun x => { x with wakePend := some r.payload })).dirty, stDone, []) := by
  have supported : ¬((u8 r.payload 0 == 1) = true ∧ 3 < r.inst - 0x100) :=
    fun h => Nat.not_lt_of_le (selective (beq_iff_eq.mp h.1)) h.2
  simp only [verbNmCanwake, gt_iff_lt, Nat.not_lt_of_le mode, supported, Nat.not_lt_of_le filter.1, Nat.not_lt_of_le filter.2,
    Nat.not_lt_of_le overflow, Nat.not_lt_of_le dlc, reserved, rate, ne_eq, not_true_eq_false, Bool.not_true,
    Bool.false_eq_true, or_self, ↓reduceIte]

end NmVerbs

/-- Settles O41: a verb's effect is that on the offered state, whose networks and clock are those of `s`. -/
theorem networkVerbsComplete : Obligations.NetworkVerbsComplete := by
  refine ⟨?status, ?wakeCause, ?unmanage, ?manage, ?request, ?canwake⟩
  case status =>
    intro s r h
    exact row_eq h (by rw [← offered_net s verbNmStatus r, ← offered_hw s verbNmStatus r]; rfl) (by decide)
  case wakeCause =>
    intro s r h
    exact row_eq h (by rw [← offered_nm s verbNmWakeCause r]; rfl) (by decide)
  case unmanage =>
    intro s r a h uncommitted noGap unmanage ha
    rw [← offered_net s verbNmConfig r] at uncommitted noGap ha
    exact row_eq h (nmConfig_body_unmanage uncommitted noGap unmanage ha) (by decide)
  case manage =>
    exact fun s r a h uncommitted noGap manage chan addr flags baseMax baseGrid typMin typMax maxMin maxMax block ports tc10 free ha =>
      row_eq h (nmConfig_body_manage uncommitted noGap manage chan addr flags ⟨baseMax, baseGrid⟩ ⟨typMin, typMax⟩ ⟨maxMin, maxMax⟩
        block ports tc10 free ha) (by decide)
  case request => exact fun s r h known => row_eq h (nmRequest_body known) (by decide)
  case canwake =>
    exact fun s r h mode selective filterMin filterMax overflow dlc reserved rate =>
      row_eq h (nmCanwake_body mode selective ⟨filterMin, filterMax⟩ overflow dlc reserved rate) (by decide)

end Sys2Proof.Machine
end

section
/-! The safety root (spec 18): the Root control block, Root's links, and the ROOT and REFLEX verbs. A row's lemma gives its command
under the row's conditions; a verb's lemma, its effect. -/

namespace Sys2Proof.Machine

/-! ### Root's control block (18 R389-R402, R405) -/

section RootBlock

variable {s : State} {value : Nat} (runs : s.rootRuns = true)
include runs

/-- A write of the key before the window opens. -/
theorem execWdKeyWrite_early (early : s.hw < s.root.serviceAt + s.root.tminUse * 1000000) :
    execWdKeyWrite value s = .next (s.rootFault 4) := by
  simp only [execWdKeyWrite, runs, early, Bool.not_true, Bool.false_eq_true, ↓reduceIte]

section Opened

variable (opened : s.root.serviceAt + s.root.tminUse * 1000000 ≤ s.hw)
include opened

/-- A write of the key after the window has closed. -/
theorem execWdKeyWrite_late (late : s.root.serviceAt + s.root.tmaxUse * 1000000 < s.hw) :
    execWdKeyWrite value s = .next (s.rootFault 5) := by
  simp only [execWdKeyWrite, runs, Nat.not_lt_of_le opened, gt_iff_lt, late, Bool.not_true, Bool.false_eq_true, ↓reduceIte]

variable (inside : s.hw ≤ s.root.serviceAt + s.root.tmaxUse * 1000000)
include inside

/-- The complement of the challenge is a service: it is counted, steps the challenge and takes the configured times. -/
theorem execWdKeyWrite_service (key : value % 65536 = 65535 - s.root.chal) :
    execWdKeyWrite value s = .next (s.modRoot (fun x =>
      { x with services := satAdd 16 x.services 1, serviceAt := s.hw, chal := lfsrStep x.chal, tminUse := x.tmin,
               tmaxUse := x.tmax })) := by
  simp only [execWdKeyWrite, runs, Nat.not_lt_of_le opened, gt_iff_lt, Nat.not_lt_of_le inside, key, ne_eq, not_true_eq_false,
    Bool.not_true, Bool.false_eq_true, ↓reduceIte]

theorem execWdKeyWrite_wrong (key : value % 65536 ≠ 65535 - s.root.chal) :
    execWdKeyWrite value s = .next (s.rootFault 6) := by
  simp only [execWdKeyWrite, runs, Nat.not_lt_of_le opened, gt_iff_lt, Nat.not_lt_of_le inside, key, ne_eq, not_false_eq_true,
    Bool.not_true, Bool.false_eq_true, ↓reduceIte]

end Opened

/-- Times in range are taken while they are unlocked. -/
theorem execWdCfgWrite_inRange (unlocked : s.root.wdLock = false) (low : 10 ≤ bits value 9 0) (high : bits value 9 0 ≤ 1000)
    (apart : bits value 25 16 + 5 ≤ bits value 9 0) :
    execWdCfgWrite value s = .next (s.modRoot (fun x =>
      { x with wdLock := value.testBit 31, tmin := bits value 25 16, tmax := bits value 9 0 })) := by
  have inRange : ¬(bits value 9 0 < 10 ∨ bits value 9 0 > 1000 ∨ bits value 25 16 > bits value 9 0 - 5) := by omega
  simp only [execWdCfgWrite, runs, unlocked, inRange, decide_false, Bool.not_true, Bool.or_self, Bool.false_eq_true, ↓reduceIte]

theorem execRootWdTimeout_running :
    execRootWdTimeout s = .next ((s.waitTo (s.root.serviceAt + s.root.tmaxUse * 1000000)).rootFault 5) :=
  congrArg Host.Outcome.next (if_pos runs)

theorem execRootStopWrite_running : execRootStopWrite s = .next (s.rootFault 9) := congrArg Host.Outcome.next (if_pos runs)

theorem execSafeoffWrite_running :
    execSafeoffWrite value s = .next ((s.modRoot (fun x => { x with safeoff := value % 2 ^ 29 })).refreshGates) :=
  congrArg Host.Outcome.next (if_pos runs)

section Release

variable (locked : s.root.wdLock = true) (served : 1 ≤ s.root.services)
include locked served

omit runs in
theorem mayRelease_of_served : s.root.mayRelease = true := by
  simp only [Root.mayRelease, locked, ge_iff_le, served, decide_true, Bool.and_self]

/-- Lines that the Cellar holds are released once the watchdog is locked and served. -/
theorem execCellarHoldRelease_held {rel : Nat} (hrel : rel = s.root.cellarHold &&& (value % 2 ^ 29)) (held : rel ≠ 0) :
    execCellarHoldRelease value s = .next
      (((s.modRoot (fun x => { x with cellarHold := clearBits x.cellarHold rel })).refreshGates).post 0x50 0 236 0xB004 0 2 rel 0) := by
  subst hrel
  simp only [execCellarHoldRelease, runs, mayRelease_of_served locked served, bne_iff_ne.mpr held, Bool.and_self, ↓reduceIte]

theorem execTaggedOffRelease_set (set : s.root.taggedOff = true) :
    execTaggedOffRelease s = .next
      (((s.modRoot (fun x => { x with taggedOff := false })).refreshGates).post 0x50 0 236 0xB004 0 1 0 0) := by
  simp only [execTaggedOffRelease, runs, mayRelease_of_served locked served, set, Bool.and_self, ↓reduceIte]

end Release

/-! ### Root's flags and rules (18 R400-R402) -/

theorem execFlagsSetWrite_running :
    execFlagsSetWrite value s = .next (s.modRoot (fun x => { x with flags := x.flags ||| (value % 2 ^ 32) })) :=
  congrArg Host.Outcome.next (if_pos runs)

/-- A clear of flags leaves those that a rule still active on its other terms sets. -/
theorem execFlagsClrWrite_operating (operating : s.operating = true) :
    execFlagsClrWrite value s = .next (s.modRoot (fun x =>
      { x with flags := clearBits x.flags (value % 2 ^ 32) ||| s.clearSets (value % 2 ^ 32) })) := by
  simp only [execFlagsClrWrite, runs, operating, ↓reduceIte]

theorem execStuckW1c_word {word : Nat} (known : word < 3) :
    execStuckW1c word value s = .next (s.modRoot (fun x =>
      { x with stuck := clearBits x.stuck (value % 2 ^ 32 * 2 ^ (32 * word)) })) := by
  simp only [execStuckW1c, runs, known, decide_true, Bool.and_self, ↓reduceIte]

theorem execRuleRecordWrite_disabled {rule word : Nat} (knownRule : rule < 64) (knownWord : word < 8)
    (disabled : s.root.ruleEn.testBit rule = false) :
    execRuleRecordWrite rule word value s = .next (s.modRoot (fun x =>
      { x with rules := tset 0 x.rules (8 * rule + word) (value % 2 ^ 32) })) := by
  simp only [execRuleRecordWrite, runs, knownRule, knownWord, disabled, decide_true, Bool.not_false, Bool.and_self, ↓reduceIte]

/-- The bits of a word of RULE_EN are taken in turn. -/
theorem execRuleEnWrite_word {word : Nat} (known : word < 2) :
    execRuleEnWrite word value s = .next (((List.range 32).foldl (State.ruleEnable word (value % 2 ^ 32)) s).refreshGates) := by
  simp only [execRuleEnWrite, runs, known, decide_true, Bool.and_self, ↓reduceIte]

end RootBlock

/-! ### Root's faults and start (18 R393, R395; 19 R426) -/

section RootRun

variable {s : State} (trunk : s.trunkOn = true)
include trunk

theorem execRootFault_running {cause : Nat} (running : s.root.phase = .running)
    (known : cause = 2 ∨ cause = 3 ∨ cause = 7 ∨ cause = 8 ∨ cause = 11) :
    execRootFault cause s = .next (s.rootFault cause) := by
  have listed : (cause == 2 || cause == 3 || cause == 7 || cause == 8 || cause == 11) = true := by
    simpa only [Bool.or_eq_true, beq_iff_eq, or_assoc] using known
  simp only [execRootFault, trunk, listed, State.rootFaultNow, running, beq_self_eq_true, Bool.not_true, Bool.or_self,
    Bool.false_eq_true, ↓reduceIte]

/-- In its cutover pause the old Root image takes the fault. -/
theorem execRootFault_pause (pause : s.root.phase = .pause) :
    execRootFault 11 s = .next ((s.rootFault 11).graftRootFault) := by
  have notRunning : (RootPhase.pause == RootPhase.running) = false := by decide
  simp only [execRootFault, trunk, State.rootFaultNow, pause, notRunning, beq_self_eq_true, Bool.or_true, Bool.not_true, Bool.or_self,
    Bool.false_eq_true, ↓reduceIte]

/-- A starting Root starts, and Keeper takes the commands held for it. -/
theorem execRootStart_starting {links : List LinkDecl} (starting : s.root.phase = .starting) (noTest : s.power.state ≠ .test) :
    execRootStart links s = .next ((s.rootStart links).keeperTurn) := by
  simp only [execRootStart, trunk, starting, bne_iff_ne.mpr noTest, beq_self_eq_true, Bool.and_self, ↓reduceIte]

end RootRun

/-- Settles O49: each row's command under its conditions is given by its row's lemma. -/
theorem rootBlockRowsComplete : Obligations.RootBlockRowsComplete := by
  refine ⟨?service, ?early, ?late, ?wrong, ?wdCfg, ?wdTimeout, ?stop, ?fault, ?faultPause, ?start, ?safeoff, ?cellarHold, ?taggedOff,
    ?flagsSet, ?flagsClr, ?stuck, ?ruleRecord, ?ruleEn, ?ruleChange⟩
  case service => exact fun s value runs opened inside key => execWdKeyWrite_service runs opened inside key
  case early => exact fun s value runs early => execWdKeyWrite_early runs early
  case late => exact fun s value runs opened late => execWdKeyWrite_late runs opened late
  case wrong => exact fun s value runs opened inside key => execWdKeyWrite_wrong runs opened inside key
  case wdCfg => exact fun s value runs unlocked low high apart => execWdCfgWrite_inRange runs unlocked low high apart
  case wdTimeout => exact fun s runs => execRootWdTimeout_running runs
  case stop => exact fun s runs => execRootStopWrite_running runs
  case fault => exact fun s cause trunk running known => execRootFault_running trunk running known
  case faultPause => exact fun s trunk pause => execRootFault_pause trunk pause
  case start => exact fun s links trunk starting noTest => execRootStart_starting trunk starting noTest
  case safeoff => exact fun s value runs => execSafeoffWrite_running runs
  case cellarHold => exact fun s value runs locked served held => execCellarHoldRelease_held runs locked served rfl held
  case taggedOff => exact fun s runs locked served set => execTaggedOffRelease_set runs locked served set
  case flagsSet => exact fun s value runs => execFlagsSetWrite_running runs
  case flagsClr => exact fun s value runs operating => execFlagsClrWrite_operating runs operating
  case stuck => exact fun s word value runs known => execStuckW1c_word runs known
  case ruleRecord =>
    exact fun s rule word value runs knownRule knownWord disabled =>
      execRuleRecordWrite_disabled runs knownRule knownWord disabled
  case ruleEn => exact fun s word value runs known => execRuleEnWrite_word runs known
  case ruleChange => exact fun s operating => congrArg Host.Outcome.next (if_pos operating)

/-! ### Root's links (18 R407-R409) -/

section RootLinks

variable {s a : State} {conn : Nat} (runs : s.rootRuns = true) (configured : (s.link conn).id ≠ 0)
include runs configured

section Receive

variable {at_ : Nat} {msg : List Byte} (receives : (s.link conn).rx = true)
include receives

/-- A valid message sets the base of a connection that awaits it. -/
theorem execRootLinkMessage_base (awaits : (s.link conn).state = 1) (valid : linkValid (s.link conn) msg = true) :
    execRootLinkMessage conn msg at_ s = .next
      (s.modLink conn (fun k => { k with state := 2, lastSeq := u16 msg 4, lastAt := at_ })) := by
  simp only [execRootLinkMessage, runs, receives, beq_eq_false_iff_ne.mpr configured, awaits, valid, Nat.reduceBEq,
    OfNat.one_ne_ofNat, Bool.not_true, Bool.or_self, Bool.false_eq_true, ↓reduceIte]

section Ok

variable (ok : (s.link conn).state = 3) (valid : linkValid (s.link conn) msg = true)
include ok valid

theorem execRootLinkMessage_repeated (last : (u16 msg 4 + 65536 - (s.link conn).lastSeq) % 65536 = 0) :
    execRootLinkMessage conn msg at_ s = .next (s.modLink conn (fun k => { k with reps := (k.reps + 1) % 2 ^ 32 })) := by
  simp only [execRootLinkMessage, runs, receives, beq_eq_false_iff_ne.mpr configured, ok, valid, last, Nat.reduceBEq,
    Nat.reduceEqDiff, Bool.not_true, Bool.or_self, Bool.false_eq_true, ↓reduceIte]

variable (new : (u16 msg 4 + 65536 - (s.link conn).lastSeq) % 65536 ≠ 0)
include new

/-- A sequence beyond the gap applies the safe state. -/
theorem execRootLinkMessage_beyond (beyond : (s.link conn).gap < (u16 msg 4 + 65536 - (s.link conn).lastSeq) % 65536) :
    execRootLinkMessage conn msg at_ s = .next (s.linkSafe conn 2) := by
  simp only [execRootLinkMessage, runs, receives, beq_eq_false_iff_ne.mpr configured, ok, valid, new, gt_iff_lt, beyond,
    Nat.reduceBEq, Nat.reduceEqDiff, Bool.not_true, Bool.or_self, Bool.false_eq_true, ↓reduceIte]

theorem execRootLinkMessage_accepted (within : (u16 msg 4 + 65536 - (s.link conn).lastSeq) % 65536 ≤ (s.link conn).gap) :
    execRootLinkMessage conn msg at_ s = .next (s.modLink conn (fun k =>
      { k with state := 3, lastSeq := u16 msg 4, lastAt := at_, accepted := (k.accepted + 1) % 2 ^ 32, data := slice msg 8 k.n })) := by
  simp only [execRootLinkMessage, runs, receives, beq_eq_false_iff_ne.mpr configured, ok, valid, new, gt_iff_lt,
    Nat.not_lt_of_le within, Nat.reduceBEq, Nat.reduceEqDiff, Bool.not_true, Bool.or_self, Bool.false_eq_true, ↓reduceIte]

end Ok

theorem execRootLinkMessage_invalid (placed : (s.link conn).state ≠ 0) (invalid : linkValid (s.link conn) msg = false) :
    execRootLinkMessage conn msg at_ s = .next (s.linkDiscard conn at_) := by
  simp only [execRootLinkMessage, runs, receives, beq_eq_false_iff_ne.mpr configured, beq_eq_false_iff_ne.mpr placed, invalid,
    Bool.not_true, Bool.not_false, Bool.or_self, Bool.false_eq_true, ↓reduceIte]

/-- No message within E applies the safe state. -/
theorem execRootLinkTimeout_due (placed : 1 ≤ (s.link conn).state) (active : (s.link conn).state ≤ 3) :
    execRootLinkTimeout conn s = .next ((s.waitTo ((s.link conn).lastAt + (s.link conn).eMs * 1000000)).linkSafe conn 1) := by
  simp only [execRootLinkTimeout, runs, receives, bne_iff_ne.mpr configured, placed, active, and_self, decide_true, Bool.and_self,
    ↓reduceIte]

end Receive

/-- A transmit connection sends with its next sequence at its period. -/
theorem execRootLinkTx_due {data : List Byte} (transmits : (s.link conn).rx = false) (ok : (s.link conn).state = 3)
    (ha : a = s.waitTo (s.link conn).nextTx) :
    execRootLinkTx conn data s = .next (a.modLink conn (fun k =>
      { k with txData := slice data 0 k.n, txSeq := (k.txSeq + 1) % 65536, nextTx := a.hw + k.periodMs * 1000000,
               sent := (linkMessage k data :: k.sent).take 4 })) := by
  subst ha
  simp only [execRootLinkTx, runs, transmits, bne_iff_ne.mpr configured, ok, beq_self_eq_true, Bool.not_false, Bool.and_self,
    ↓reduceIte]

/-- A connection in its safe state is re-armed; a transmit connection, which no message tells OK, leaves its fault. -/
theorem execRootLinkRearm_safe (safe : (s.link conn).state = 4)
    (ha : a = s.modLink conn (fun k => { k with state := if k.rx then 1 else 3, lastAt := s.hw, discAt := none })) :
    execRootLinkRearm conn s = .next (if (s.link conn).rx then a else a.clearFault 0xB010 0x50 conn) := by
  subst ha
  simp only [execRootLinkRearm, runs, bne_iff_ne.mpr configured, safe, beq_self_eq_true, Bool.and_self, ↓reduceIte]

end RootLinks

/-- Settles O50: each row's command under its conditions is given by its row's lemma. -/
theorem rootLinkRowsComplete : Obligations.RootLinkRowsComplete := by
  refine ⟨?base, ?repeated, ?beyond, ?accepted, ?invalid, ?timeout, ?tx, ?rearmRx, ?rearmTx⟩
  case base =>
    exact fun s conn at_ msg runs receives configured awaits valid =>
      execRootLinkMessage_base runs configured receives awaits valid
  case repeated =>
    exact fun s conn at_ msg runs receives configured ok valid last =>
      execRootLinkMessage_repeated runs configured receives ok valid last
  case beyond =>
    exact fun s conn at_ msg runs receives configured ok valid new beyond =>
      execRootLinkMessage_beyond runs configured receives ok valid new beyond
  case accepted =>
    exact fun s conn at_ msg runs receives configured ok valid new within =>
      execRootLinkMessage_accepted runs configured receives ok valid new within
  case invalid =>
    exact fun s conn at_ msg runs receives configured placed invalid =>
      execRootLinkMessage_invalid runs configured receives placed invalid
  case timeout =>
    exact fun s conn runs receives configured placed active => execRootLinkTimeout_due runs configured receives placed active
  case tx =>
    exact fun s conn data runs transmits configured ok => execRootLinkTx_due runs configured transmits ok rfl
  case rearmRx =>
    exact fun s conn runs configured safe receives =>
      (execRootLinkRearm_safe runs configured safe rfl).trans (congrArg Host.Outcome.next (if_pos receives))
  case rearmTx =>
    exact fun s conn runs configured safe transmits =>
      (execRootLinkRearm_safe runs configured safe rfl).trans
        (congrArg Host.Outcome.next (if_neg (Bool.not_eq_true _ ▸ transmits)))

/-! ### The ROOT and REFLEX verbs (18 R409-R411) -/

section RootVerbs

variable {s : State} {r : Req}

/-- The offer of a command leaves Root. -/
theorem offered_root (s : State) (v : Verb) (r : Req) : (s.offered v r).root = s.root := by
  simp only [State.offered_leaves]

theorem rootLinkStatus_body {k : LinkConn} (known : u8 r.payload 0 < 32) (hk : k = s.link (u8 r.payload 0)) :
    verbRootLinkStatus.body r s =
      (s, stDone, b32 k.id ++ b8 k.state ++ b8 k.cause ++ b16 k.lastSeq ++ b32 k.accepted ++ b32 k.discarded ++ b32 k.reps ++
        b32 ((s.hw - k.lastAt) / 1000000)) := by
  subst hk
  simp only [verbRootLinkStatus, ge_iff_le, Nat.not_le_of_lt known, ↓reduceIte]

/-- With its key a restart is a Root fault of cause 10. -/
theorem rootRestart_body (alive : s.root.phase ≠ .stopped) (key : u32 r.payload 0 = 0x52535452) :
    verbRootRestart.body r s = (s.rootFault 10, stDone, []) := by
  simp only [verbRootRestart, alive, key, ne_eq, not_true_eq_false, ↓reduceIte]

end RootVerbs

/-- Settles O51: a verb's effect is that on the offered state, whose Root and clock are those of `s`. -/
theorem rootVerbsComplete : Obligations.RootVerbsComplete := by
  refine ⟨?status, ?linkStatus, ?restart, ?reflexStatus⟩
  case status =>
    intro s r h
    exact row_eq h (by rw [← offered_root s verbRootStatus r]; rfl) (by decide)
  case linkStatus =>
    intro s r h known
    rw [← offered_hw s verbRootLinkStatus r]
    exact row_eq h (rootLinkStatus_body known rfl) (by decide)
  case restart =>
    intro s r h alive key
    rw [← offered_root s verbRootRestart r] at alive
    exact row_eq h (rootRestart_body alive key) (by decide)
  case reflexStatus =>
    intro s r h
    exact row_eq h (by rw [← offered_root s verbReflexStatus r]; rfl) (by decide)

end Sys2Proof.Machine
end

section
/-! Power and thermal (spec 21): the studs and monitors, the thermal sample, and the POWER and THERMAL verbs. A row's lemma gives its
command under the row's conditions; a verb's lemma, its effect. -/

namespace Sys2Proof.Machine

/-! ### Studs (21 R453, R454, R456) -/

section StudRows

variable {s a : State} {stud ms gnd : Nat} {mv : Int} (fitted : stud < 3)
include fitted

/-- Below 6.0 V the stages of the stud lose their gate drive. -/
theorem execStudLow_below (low : mv < 6000) (on : s.power.state ≠ .off) :
    execStudLow stud mv gnd s = .next
      (((s.modPower (fun p => { p with gndOpen := gnd })).modStud stud (fun x => { x with mv := mv, low := true })).refreshGates) :=
  congrArg Host.Outcome.next (if_pos ⟨fitted, low, on⟩)

/-- Back above 6.0 V the stud's stages resume, those of every stud where the grounds had been open. -/
theorem execStudReturn_above (above : 6000 ≤ mv) (low : (s.stud stud).low = true)
    (ha : a = (s.modPower (fun p => { p with gndOpen := gnd })).modStud stud (fun x => { x with mv := mv, low := false })) :
    execStudReturn stud mv gnd s = .next
      (if s.noGround = true ∧ a.noGround = false then ((a.studResume 0).studResume 1).studResume 2
        else a.studResume stud).refreshGates := by
  subst ha
  simp only [execStudReturn, fitted, ge_iff_le, above, low, Bool.and_eq_true, Bool.not_eq_true', List.foldl_cons, List.foldl_nil,
    and_self, ↓reduceIte]

theorem execPowerUndervolt_below (trunk : s.trunkOn = true) (below : mv < s.power.warnMv) (lasted : 100 ≤ ms)
    (unmarked : (s.stud stud).under = false) :
    execPowerUndervolt stud mv ms s = .next
      ((s.modStud stud (fun x => { x with mv := mv, under := true })).studFault stud 0x0082 2 mv.toNat ms) := by
  simp only [execPowerUndervolt, trunk, fitted, below, ge_iff_le, lasted, unmarked, and_self, decide_true, Bool.not_false,
    Bool.and_self, ↓reduceIte]

theorem execUndervoltEnd_above (trunk : s.trunkOn = true) (above : s.power.warnMv + 500 < mv)
    (marked : (s.stud stud).under = true) :
    execUndervoltEnd stud mv s = .next
      ((s.modStud stud (fun x => { x with mv := mv, under := false })).clearFault 0x0082 0x70 stud) := by
  simp only [execUndervoltEnd, trunk, fitted, gt_iff_lt, above, marked, and_self, decide_true, Bool.and_self, ↓reduceIte]

/-- Above 36 V the stages are held off in every powered state; the fault needs the trunk. -/
theorem execPowerOvervolt_above (on : s.power.state ≠ .off) (above : 36000 < mv) (lasted : 1 ≤ ms)
    (unmarked : (s.stud stud).overR = false)
    (ha : a = (s.modStud stud (fun x => { x with mv := mv, overR := true })).refreshGates) :
    execPowerOvervolt stud mv ms s = .next (if s.trunkOn then a.studFault stud 0x0083 3 mv.toNat ms else a) := by
  subst ha
  simp only [execPowerOvervolt, bne_iff_ne.mpr on, fitted, gt_iff_lt, above, ge_iff_le, lasted, unmarked, and_self, decide_true,
    Bool.not_false, Bool.and_self, ↓reduceIte]

theorem execOvervoltEnd_below (below : mv < 35000) (marked : (s.stud stud).overR = true) :
    execOvervoltEnd stud mv s = .next
      ((((s.modStud stud (fun x => { x with mv := mv, overR := false })).studResume stud).refreshGates).clearFault
        0x0083 0x70 stud) := by
  simp only [execOvervoltEnd, fitted, below, marked, and_self, decide_true, Bool.and_self, ↓reduceIte]

/-- A reversed stud holds its stages off in every powered state; the fault needs the trunk. -/
theorem execPowerReverse_below (on : s.power.state ≠ .off) (below : mv < 0) (unmarked : (s.stud stud).rev = false)
    (ha : a = (s.modStud stud (fun x => { x with mv := mv, rev := true })).refreshGates) :
    execPowerReverse stud mv s = .next (if s.trunkOn then a.studFault stud 0x0085 3 (ofSigned 32 mv) 0 else a) := by
  subst ha
  simp only [execPowerReverse, bne_iff_ne.mpr on, fitted, below, unmarked, and_self, decide_true, Bool.not_false, Bool.and_self,
    ↓reduceIte]

theorem execPowerReverseEnd_above (above : 0 ≤ mv) (marked : (s.stud stud).rev = true) :
    execPowerReverseEnd stud mv s = .next
      ((((s.modStud stud (fun x => { x with mv := mv, rev := false })).studResume stud).refreshGates).clearFault
        0x0085 0x70 stud) := by
  simp only [execPowerReverseEnd, fitted, ge_iff_le, above, marked, and_self, decide_true, Bool.and_self, ↓reduceIte]

end StudRows

/-! ### The Cellar's monitors (18 R397) -/

section MonitorRows

variable {s a : State} {b : Nat} (unfrozen : s.root.frozen = false ∨ 3 ≤ b)
include unfrozen

/-- No clock monitor is frozen. -/
theorem monitor_unfrozen : (s.root.frozen && decide (b < 3)) = false := by
  rcases unfrozen with frozen | other
  · rw [frozen, Bool.false_and]
  · rw [decide_eq_false (Nat.not_lt_of_le other), Bool.and_false]

section Trip

variable (operating : s.operating = true) (quiet : s.root.mon.testBit b = false)
include operating quiet

/-- A trip of a monitor whose row is a trunk reset. -/
theorem execMonitorTrip_reset (row : b = 0 ∨ b = 3 ∨ b = 5 ∨ b = 6) :
    execMonitorTrip b s = .next ((s.modRoot (fun r => { r with mon := r.mon ||| 2 ^ b })).monitorReset b) := by
  have known : ¬8 ≤ b := by omega
  simp only [execMonitorTrip, operating, ge_iff_le, known, quiet, monitor_unfrozen unfrozen, row, decide_false, Bool.not_true,
    Bool.or_self, Bool.false_eq_true, ↓reduceIte]

/-- A trip of the other monitors is posted and raised: Keeper's units restart, Root takes a fault, or the clock monitors freeze. -/
theorem execMonitorTrip_raised (row : b = 1 ∨ b = 2 ∨ b = 4 ∨ b = 7)
    (ha : a = (((s.modRoot (fun r => { r with mon := r.mon ||| 2 ^ b })).post 0x50 0 238 0xB020 0 b 1 0).raise 0xB020 0x50 b 6
      [0, b, 1, 0]).1) :
    execMonitorTrip b s = .next
      (if b = 1 then keeperUnits.foldl (fun (u : State) k => u.unitRestart k 0 1) a
        else if b = 2 then a.rootFaultNow 7 else if b = 4 then a.rootFaultNow 8
        else a.modRoot (fun r => { r with frozen := true })) := by
  have noReset : ¬(b = 0 ∨ b = 3 ∨ b = 5 ∨ b = 6) := by omega
  have known : ¬8 ≤ b := by omega
  have unheld := monitor_unfrozen unfrozen
  subst ha
  simp only [execMonitorTrip, operating, ge_iff_le, known, quiet, unheld, noReset, decide_false, Bool.not_true, Bool.or_self,
    Bool.false_eq_true, ↓reduceIte]
  obtain rfl | rfl | rfl | rfl := row <;> rfl

end Trip

/-- A monitor's return clears its bit, and with the trunk on its fault. -/
theorem execMonitorReturn_tripped (known : b < 8) (tripped : s.root.mon.testBit b = true)
    (ha : a = s.modRoot (fun r => { r with mon := clearBits r.mon (2 ^ b), frozen := r.frozen && b != 7 }))
    (trunk : a.trunkOn = s.trunkOn) :
    execMonitorReturn b s = .next
      (if s.trunkOn then (a.post 0x50 0 238 0xB020 0 b 0 0).clearFault 0xB020 0x50 b else a) := by
  rw [← trunk]
  subst ha
  simp only [execMonitorReturn, ge_iff_le, Nat.not_le_of_lt known, tripped, monitor_unfrozen unfrozen, decide_false, Bool.not_true,
    Bool.or_self, Bool.false_eq_true, ↓reduceIte]

end MonitorRows

/-- Settles O47: each row's command under its conditions is given by its row's lemma; the fault of a trip needs the trunk, whose state
the monitors' bits leave. -/
theorem supplyMonitorRowsComplete : Obligations.SupplyMonitorRowsComplete := by
  refine ⟨?studLow, ?studReturn, ?undervolt, ?undervoltEnd, ?overvolt, ?overvoltEnd, ?reverse, ?reverseEnd, ?tripReset, ?tripRaised,
    ?tripEnd⟩
  case studLow => exact fun s stud gnd mv fitted low on => execStudLow_below fitted low on
  case studReturn => exact fun s a stud gnd mv fitted above low ha => execStudReturn_above fitted above low ha
  case undervolt =>
    exact fun s stud ms mv trunk fitted below lasted unmarked => execPowerUndervolt_below fitted trunk below lasted unmarked
  case undervoltEnd => exact fun s stud mv trunk fitted above marked => execUndervoltEnd_above fitted trunk above marked
  case overvolt =>
    exact fun s a stud ms mv on fitted above lasted unmarked ha => execPowerOvervolt_above fitted on above lasted unmarked ha
  case overvoltEnd => exact fun s stud mv fitted below marked => execOvervoltEnd_below fitted below marked
  case reverse => exact fun s a stud mv on fitted below unmarked ha => execPowerReverse_below fitted on below unmarked ha
  case reverseEnd => exact fun s stud mv fitted above marked => execPowerReverseEnd_above fitted above marked
  case tripReset =>
    exact fun s b operating quiet unfrozen row => execMonitorTrip_reset unfrozen operating quiet row
  case tripRaised =>
    exact fun s a b operating quiet unfrozen row ha => execMonitorTrip_raised unfrozen operating quiet row ha
  case tripEnd =>
    rintro s _ b known tripped unfrozen rfl
    exact execMonitorReturn_tripped unfrozen known tripped rfl rfl

/-! ### Thermal samples and the throttling (21 R465-R468) -/

section ThermalRows

variable {s a : State}

/-- A sample below the shutdown temperatures is taken, updates the signals and the throttling, and starts its count of hot samples
again. -/
theorem execThermalSample_cool {k : Nat} {temp : Int} (trunk : s.trunkOn = true) (runs : s.running 0x71 0 = true) (known : k < 49)
    (present : instPresent s.part 0x71 k = true) (powered : s.inRun = true ∨ k < 10 ∨ 24 ≤ k)
    (cool : temp < 1150 ∨ 30 ≤ k ∨ (k < 24 ∧ temp < 1300)) (ha : a = s.thermInstant k) :
    execThermalSample k temp s = .next
      (((a.throttle ((a.thermTake k temp).thermSigs k) k).trunkWarning k temp).modSensor k (fun y => { y with hot := 0 })) := by
  have on : (decide (10 ≤ k ∧ k < 24) && !s.inRun) = false := by
    rcases powered with run | trunkDie | board
    · simp only [run, Bool.not_true, Bool.and_false]
    · simp only [Nat.not_le_of_lt trunkDie, false_and, decide_false, Bool.false_and]
    · simp only [Nat.not_lt_of_le board, and_false, decide_false, Bool.false_and]
  have below : ¬(k < 30 ∧ temp ≥ (if k < 24 then (1300 : Int) else 1150)) := by
    split <;> omega
  have kept (p : Prop) : ¬(k < 30 ∧ temp ≥ (if k < 24 then (1300 : Int) else 1150) ∧ p) := fun h => below ⟨h.1, h.2.1⟩
  subst ha
  simp only [execThermalSample, trunk, runs, ge_iff_le, Nat.not_le_of_lt known, present, on, decide_false, Bool.not_true, Bool.or_self,
    Bool.false_eq_true, ↓reduceIte]
  exact congrArg Host.Outcome.next (if_neg (kept _))

/-- A die that has fallen to step `n` is below that step's threshold too, so its next 2 s count from now. -/
def State.fallsOn (s : State) (die n : Nat) : Bool :=
  match hottest (s.validTemps [10 + 2 * die, 11 + 2 * die]) with
  | some h => decide (n > 0 ∧ h < stepThr n - 50)
  | none => false

/-- After 2 s below its threshold a die's step falls by one. -/
theorem execThrottleStepDown_below {die t : Nat} {x : DieSt} (hx : x = tget DieSt.reset s.thermal.dies die)
    (trunk : s.trunkOn = true) (below : x.below = some t) (throttled : 0 < x.step) (ha : a = s.waitTo (t + 2000000000)) :
    execThrottleStepDown die s = .next (State.stepEvents a { a with
      thermal.dies := tset DieSt.reset a.thermal.dies die
        { x with step := x.step - 1, below := if a.fallsOn die (x.step - 1) then some a.hw else none } }) := by
  subst hx ha
  simp only [execThrottleStepDown, below, trunk, Nat.ne_of_gt throttled, decide_false, Bool.not_true, Bool.or_self,
    Bool.false_eq_true, ↓reduceIte]
  rfl

end ThermalRows

/-! ### The POWER and THERMAL verbs (21 R459, R472, R473) -/

section PowerVerbs

variable {s : State} {r : Req}

/-- The offer of a command leaves the POWER unit. -/
theorem offered_power (s : State) (v : Verb) (r : Req) : (s.offered v r).power = s.power := by
  simp only [State.offered_leaves]

theorem powerConfig_body {b : List Byte} (hb : b = r.payload) (awake : u16 b 0 ≤ 3600) (system : u8 b 2 = 1 ∨ u8 b 2 = 2)
    (warn : (fIsNan (f32 b 4) || (fLe (fInt 6) (f32 b 4) && fLe (f32 b 4) (fInt 30))) = true) :
    verbPowerConfig.body r s =
      ((s.modPower (fun p => { p with keepAwake := u16 b 0, system := u8 b 2, uvWarn := f32 b 4 })).dirty, stDone, []) := by
  have known : ¬(u8 b 2 ≠ 1 ∧ u8 b 2 ≠ 2) := by omega
  subst hb
  simp only [verbPowerConfig, gt_iff_lt, Nat.not_lt_of_le awake, known, warn, Bool.not_true, Bool.false_eq_true, or_self, ↓reduceIte]

/-- A window's hold on park is set or ended before park entry's last step. -/
theorem powerRequest_body (known : u8 r.payload 0 ≤ 1) (before : s.power.parkStep ≠ 7) :
    verbPowerRequest.body r s =
      (s.modPower (fun p =>
        { p with holds := if u8 r.payload 0 = 1 then (if p.holds.contains r.win then p.holds else p.holds ++ [r.win])
                          else p.holds.erase r.win }), stDone, []) := by
  simp only [verbPowerRequest, gt_iff_lt, Nat.not_lt_of_le known, before, ↓reduceIte]

/-- Root's run request decides between KEEPER, RUN and its grace period. -/
theorem powerRun_body (root : r.win = 0) (known : u8 r.payload 0 ≤ 1) :
    verbPowerRun.body r s = ((s.modPower (fun p => { p with runReq := u8 r.payload 0 == 1 })).runDecide 2, stDone, []) := by
  simp only [verbPowerRun, root, gt_iff_lt, Nat.not_lt_of_le known, ne_eq, not_true_eq_false, ↓reduceIte]

end PowerVerbs

/-- Settles O48: each row's command under its conditions is given by its row's lemma; a verb's effect is that on the offered state,
whose POWER unit is that of `s`. -/
theorem thermalPowerVerbsComplete : Obligations.ThermalPowerVerbsComplete := by
  refine ⟨?sample, ?stepDown, ?powerStatus, ?powerConfig, ?powerRequest, ?powerRun, ?thermalStatus⟩
  case sample =>
    exact fun s a k temp trunk runs known present powered cool ha =>
      execThermalSample_cool trunk runs known present powered cool ha
  case stepDown => exact fun s die t trunk below throttled => execThrottleStepDown_below rfl trunk below throttled rfl
  case powerStatus =>
    intro s r h
    exact row_eq h (by rw [← offered_power s verbPowerStatus r]; rfl) (by decide)
  case powerConfig =>
    exact fun s r b h hb awake system warn => row_eq h (powerConfig_body hb awake system warn) (by decide)
  case powerRequest =>
    intro s r h known before
    rw [← offered_power s verbPowerRequest r] at before
    exact row_eq h (powerRequest_body known before) (by decide)
  case powerRun => exact fun s r h root known => row_eq h (powerRun_body root known) (by decide)
  case thermalStatus =>
    intro s r h
    exact row_eq h (by simp only [verbThermalStatus, decide_eq_true_eq]; rfl) (by decide)

end Sys2Proof.Machine
end

section
/-! Graft updates (spec 19): delivery, activation and the sequence of a hand-over. A row's lemma gives its command under the row's
conditions; a verb's lemma, its effect. -/

namespace Sys2Proof.Machine

/-! ### Checks of an image's header (19 R414-R416, R419) -/

section OpenCheck

variable {s : State} {b : List Byte} {replace : Bool} (header : headerOk b = true)
include header

/-- A certificate or a signature that does not verify. -/
theorem openCheck_unverified (unverified : ¬(Config.certVerifies (slice b (hdrCert b) 256) = true ∧ signatureOk b = true)) :
    s.openCheck b replace = some stAuth := by
  have failed : (!certOk s.variant b || !signatureOk b) = true := by
    rcases Classical.not_and_iff_not_or_not.mp unverified with cert | signature
    · simp only [certOk, Bool.eq_false_of_not_eq_true cert, Bool.false_and, Bool.not_false, Bool.true_or]
    · simp only [Bool.eq_false_of_not_eq_true signature, Bool.not_false, Bool.or_true]
  simp only [State.openCheck, header, failed, Bool.not_true, Bool.false_eq_true, ↓reduceIte]

/-- A verified header for this module, within its limits, that no other image bars. -/
theorem openCheck_verified (verified : Config.certVerifies (slice b (hdrCert b) 256) = true ∧ signatureOk b = true)
    (maker : u16 (slice b (hdrCert b) 256) 8 = typeCode s.variant ∨ u16 (slice b (hdrCert b) 256) 8 = 0x56FF)
    (type : u16 b 6 = typeCode s.variant) (serial : u64 b 8 = 0 ∨ u64 b 8 = s.part.serial) (version : s.graft.minSec ≤ u32 b 20)
    (fits : imageBytes b ≤ atticMiB s.variant 2 * 2 ^ 20) (idle : s.graft.installing = false ∨ s.graft.inc.header = b)
    (replaces : s.graft.inc.header = [] ∨ s.graft.inc.header = b ∨ replace = true ∨
      hdrPieces s.graft.inc.header ≤ s.graft.inc.pieces.length)
    (cool : s.attic.inhibit = false) (writable : s.attic.readOnly = false) :
    s.openCheck b replace = none := by
  have cert : certOk s.variant b = true := by
    simpa only [certOk, verified.1, Bool.true_and, Bool.or_eq_true, beq_iff_eq] using maker
  have own : (u64 b 8 == 0 || u64 b 8 == s.part.serial) = true := by
    simpa only [Bool.or_eq_true, beq_iff_eq] using serial
  have free : (s.graft.installing && s.graft.inc.header != b) = false := by
    rcases idle with idle | same
    · rw [idle, Bool.false_and]
    · rw [same, bne_self_eq_false, Bool.and_false]
  have unbarred : (!s.graft.inc.header.isEmpty && s.graft.inc.header != b && !replace &&
      decide (s.graft.inc.pieces.length < hdrPieces s.graft.inc.header)) = false := by
    rcases replaces with empty | same | asked | whole
    · simp only [empty, List.isEmpty_nil, Bool.not_true, Bool.false_and]
    · simp only [same, bne_self_eq_false, Bool.and_false, Bool.false_and]
    · simp only [asked, Bool.not_true, Bool.and_false, Bool.false_and]
    · simp only [Nat.not_lt_of_le whole, decide_false, Bool.and_false]
  simp only [State.openCheck, header, cert, verified.2, type, own, gt_iff_lt, Nat.not_lt_of_le version, Nat.not_lt_of_le fits, free,
    unbarred, cool, writable, bne_self_eq_false, Bool.not_true, Bool.or_self, Bool.false_eq_true, ↓reduceIte]

end OpenCheck

/-! ### The verbs of delivery and activation (19 R419-R422, R428, R429) -/

section GraftVerbs

variable {s a n : State} {r : Req} {b d : List Byte}

/-- The offer of a command leaves GRAFT and the Attic. -/
theorem offered_graft (s : State) (v : Verb) (r : Req) : (s.offered v r).graft = s.graft := by
  simp only [State.offered_leaves]

theorem offered_attic (s : State) (v : Verb) (r : Req) : (s.offered v r).attic = s.attic := by
  simp only [State.offered_leaves]

/-- The pieces held, as a bit map from a first one on its grid. -/
theorem graftMissing_body (grid : u32 r.payload 0 % 832 = 0) :
    verbGraftMissing.body r s =
      (s, stDone, b32 (u32 r.payload 0) ++ (List.range 104).flatMap (fun j =>
        b8 (bitSet ((List.range 8).filter (fun k => (tfind s.graft.inc.pieces (u32 r.payload 0 + 8 * j + k)).isSome))))) := by
  simp only [verbGraftMissing, grid, ne_eq, not_true_eq_false, ↓reduceIte]

section Open

variable (region : s.regionCheck r.win (u8 r.payload 0) (u32 r.payload 4) = none)
  (hb : s.regionRead r.win (u8 r.payload 0) 0 (u32 r.payload 4) = b)
  (ha : s.regionDone r.win (u8 r.payload 0) r.tag (u32 r.payload 4) false = a)
include region hb ha

theorem graftOpen_body_refused {st : Nat} (check : a.openCheck b (bit (u8 r.payload 1) 0) = some st) :
    verbGraftOpen.body r s = (a, st, []) := by
  subst hb ha
  simp only [verbGraftOpen, region, check]

/-- An image that passes its checks is opened: its delivery starts, or goes on where it is the one delivered. -/
theorem graftOpen_body_opens (check : a.openCheck b (bit (u8 r.payload 1) 0) = none)
    (hn : n = (if a.graft.inc.header = b then a
      else (a.modGraft (fun g => { g with inc := { header := b, pieces := [] } })).atticWear (u32 r.payload 4))) :
    verbGraftOpen.body r s =
      (n.post 0x60 0 248 0xC001 0 (u32 b 16) n.graft.inc.pieces.length (hdrPieces b), stDone,
        b32 n.graft.inc.pieces.length ++ b32 (hdrPieces b)) := by
  subst hb ha hn
  simp only [verbGraftOpen, region, check]

end Open

/-- A piece with its hash is stored once; the last one starts the installation. -/
theorem graftPiece_body {i : Nat} (hb : s.graft.inc.header = b) (opened : b ≠ []) (idle : s.graft.installing = false)
    (hi : i = u32 r.payload 4) (known : i < hdrPieces b) (region : s.regionCheck r.win (u8 r.payload 0) (pieceLen b i) = none)
    (hd : s.regionRead r.win (u8 r.payload 0) 0 (pieceLen b i) = d) (hash : sha256 d = slice b (hdrHashes b + 32 * i) 32)
    (cool : s.attic.inhibit = false) (writable : s.attic.readOnly = false)
    (ha : a = s.regionDone r.win (u8 r.payload 0) r.tag (pieceLen b i) false)
    (hn : (if (tfind s.graft.inc.pieces i).isSome then a
      else (a.modGraft (fun g => { g with inc.pieces := tput g.inc.pieces i d })).atticWear (pieceLen b i)).clearFault 0xC002 0x60 0 =
        n) :
    verbGraftPiece.body r s =
      (if !(tfind s.graft.inc.pieces i).isSome && n.graft.inc.pieces.length == hdrPieces b then
        (n.post 0x60 0 248 0xC003 0 (u32 b 16) n.graft.inc.pieces.length 0).modGraft (fun x => { x with installing := true }) else n,
        stDone, b32 n.graft.inc.pieces.length ++ b32 (hdrPieces b)) := by
  have header : b.isEmpty = false := by simpa only [List.isEmpty_eq_false_iff] using opened
  subst hi ha hn hd
  simp only [verbGraftPiece, hb, header, idle, ge_iff_le, Nat.not_le_of_lt known, region, hash, State.regionDone_leaves, cool, writable,
    ne_eq, not_true_eq_false, Bool.or_self, Bool.false_eq_true, ↓reduceIte]

section Idle

variable (standing : s.graft.act.step = 0)
include standing

/-- What is delivered is dropped, and outside a trial what is installed. -/
theorem graftDiscard_body (idle : s.graft.installing = false) :
    verbGraftDiscard.body r s =
      (s.modGraft (fun g => if g.trial then { g with inc := Incoming.reset }
        else { g with inc := Incoming.reset }.putOther BootSet.reset), stDone, []) := by
  simp only [verbGraftDiscard, idle, standing, bne_self_eq_false, Bool.or_self, Bool.false_eq_true, ↓reduceIte]

/-- An installed set that passes its checks begins its activation. -/
theorem graftActivate_body (installed : s.graft.otherSet.present = true) (idle : s.graft.installing = false)
    (confirmed : s.graft.trial = false) (whole : s.keeper.retired = []) (awake : s.power.state ≠ .parking)
    (cool : s.attic.inhibit = false)
    (check : s.setCheck s.activeSet s.graft.otherSet (bit (u8 r.payload 0) 0) = none) :
    verbGraftActivate.body r s =
      (s.modAct (fun _ => { Activ.reset with step := 2, op := some { win := r.win, tag := r.tag }, cold := bit (u8 r.payload 0) 0 }),
        stAccepted, []) := by
  simp only [verbGraftActivate, installed, standing, idle, confirmed, whole, beq_eq_false_iff_ne.mpr awake, cool, check,
    bne_self_eq_false, List.isEmpty_nil, Bool.not_true, Bool.or_self, Bool.false_eq_true, ↓reduceIte]

variable (trial : s.graft.trial = true) (set : u32 r.payload 0 = s.keeper.verSet)
include trial set

/-- The confirmer ends the trial: the fall-back set is given up and the security version is kept. -/
theorem graftConfirm_body (confirmer : r.win = s.activeSet.confirmer)
    (hn : n = s.modGraft (fun g => { (g.putOther BootSet.reset) with
      trial := false, minSec := max g.minSec s.activeSet.secver, oldRecs := [], oldPantry := [] })) :
    verbGraftConfirm.body r s =
      ((n.post 0x60 0 249 0xC023 0 s.activeSet.id n.graft.minSec 0).clearFault 0xC024 0x60 0, stDone, []) := by
  subst hn
  simp only [verbGraftConfirm, confirmer, set, trial, standing, ne_eq, not_true_eq_false, bne_self_eq_false, Bool.not_true,
    Bool.or_self, Bool.false_eq_true, ↓reduceIte]

theorem graftFallback_body :
    verbGraftFallback.body r s = (s.fallbackStart 2 (some { win := r.win, tag := r.tag }) none, stAccepted, []) := by
  simp only [verbGraftFallback, trial, standing, set, ne_eq, not_true_eq_false, bne_self_eq_false, Bool.not_true, Bool.or_self,
    Bool.false_eq_true, ↓reduceIte]

end Idle

end GraftVerbs

/-! ### Installation (19 R417, R421) -/

section Install

variable {s : State}

/-- Part `i` of the delivered image as installation copies it, and whether it has its hash. -/
def State.copiedPart (s : State) (i : Nat) : PartEnt × Bool :=
  match s.partData (partOf s.graft.inc.header i) with
  | some d => ({ partOf s.graft.inc.header i with data := d }, sha256 d == (partOf s.graft.inc.header i).sha)
  | none => (partOf s.graft.inc.header i, false)

/-- A part whose data have its hash is copied and verified. -/
theorem copiedPart_of_hash {i : Nat} (data : ∃ d, s.partData (partOf s.graft.inc.header i) = some d ∧
    sha256 d = (partOf s.graft.inc.header i).sha) :
    s.copiedPart i =
      ({ partOf s.graft.inc.header i with data := (s.partData (partOf s.graft.inc.header i)).getD [] }, true) := by
  obtain ⟨d, found, hash⟩ := data
  simp only [State.copiedPart, found, hash, beq_self_eq_true, Option.getD_some]

/-- With every part copied and verified the set stands in the free slot. -/
theorem execGraftInstalled_copied {ps : List (PartEnt × Bool)} {b : BootSet} (installing : s.graft.installing = true)
    (confirmed : s.graft.trial = false) (runs : s.running 0x60 0 = true) (writable : s.attic.readOnly = false)
    (hps : (List.range (hdrParts s.graft.inc.header)).map s.copiedPart = ps) (verified : ps.findIdx? (fun e => !e.2) = none)
    (hb : { present := true, id := u32 s.graft.inc.header 16, secver := u32 s.graft.inc.header 20,
            windowMin := u16 s.graft.inc.header 34, confirmer := u8 s.graft.inc.header 36, parts := ps.map (·.1) } = b) :
    execGraftInstalled s = .next
      (((s.modGraft (fun g => { (g.putOther b) with inc := Incoming.reset, installing := false })).atticWear
        ((b.parts.map (fun p => p.data.length)).sum)).post 0x60 0 248 0xC004 0 b.id s.graft.freeSlot
        (b.parts.filter PartEnt.retained).length) := by
  subst hps hb
  simp only [execGraftInstalled, installing, confirmed, runs, writable, Bool.not_true, Bool.or_self, Bool.false_eq_true, ↓reduceIte]
  split
  next mismatch => exact absurd (mismatch.symm.trans verified) (Option.some_ne_none _)
  next => rfl

end Install

/-- Settles O34: a verb's effect is that on the offered state, whose GRAFT and Attic are those of `s`; an opened image passes every
check of its header but those that verify it, which are free. -/
theorem graftDeliveryComplete : Obligations.GraftDeliveryComplete := by
  refine ⟨?status, ?missing, ?open_, ?piece, ?discard, ?activate, ?confirm, ?fallback, ?installed⟩
  case status =>
    intro s r h
    exact row_eq h (by rw [← offered_graft s verbGraftStatus r]; rfl) (by decide)
  case missing =>
    intro s r h grid
    rw [← offered_graft s verbGraftMissing r]
    exact row_eq h (graftMissing_body grid) (by decide)
  case open_ =>
    intro s a n r b h region hb ha header maker type serial version fits idle replaces cool writable hn
    split
    case isTrue verified =>
      exact row_eq h (graftOpen_body_opens region hb ha
        (openCheck_verified header verified maker type serial version fits idle replaces cool writable) hn) (by decide)
    case isFalse unverified =>
      exact row_eq h (graftOpen_body_refused region hb ha (openCheck_unverified header unverified)) (by decide)
  case piece =>
    exact fun s r i b d n h hb opened idle hi known region hd hash cool writable hn =>
      row_eq h (graftPiece_body hb opened idle hi known region hd hash cool writable rfl hn) (by decide)
  case discard =>
    intro s r h idle standing
    rw [← offered_graft s verbGraftDiscard r] at idle standing
    exact row_eq h (graftDiscard_body standing idle) (by decide)
  case activate =>
    intro s r h installed standing idle confirmed whole awake cool check
    rw [← offered_graft s verbGraftActivate r] at installed standing idle confirmed
    rw [← offered_power s verbGraftActivate r] at awake
    rw [← offered_attic s verbGraftActivate r] at cool
    exact row_eq h (graftActivate_body standing installed idle confirmed whole awake cool check) (by decide)
  case confirm =>
    intro s r h confirmer set trial standing
    rw [← offered_graft s verbGraftConfirm r] at trial standing
    exact row_eq h (graftConfirm_body standing trial set confirmer rfl) (by decide)
  case fallback =>
    intro s r h trial standing set
    rw [← offered_graft s verbGraftFallback r] at trial standing
    exact row_eq h (graftFallback_body standing trial set) (by decide)
  case installed =>
    intro s b installing confirmed runs writable hashes hb
    have copied : (List.range (hdrParts s.graft.inc.header)).map s.copiedPart =
        (List.range (hdrParts s.graft.inc.header)).map (fun i =>
          ({ partOf s.graft.inc.header i with data := (s.partData (partOf s.graft.inc.header i)).getD [] }, true)) :=
      List.map_congr_left fun i mem => copiedPart_of_hash (hashes i (List.mem_range.mp mem))
    refine execGraftInstalled_copied installing confirmed runs writable copied ?_ ?_
    · simp only [List.findIdx?_eq_none_iff, List.mem_map, forall_exists_index, and_imp]
      rintro _ i - rfl
      rfl
    · rw [List.map_map]
      exact hb

/-! ### The activation's start and the hand-over of a partition (19 R423, R424) -/

section HashDone

variable {s a : State} (hashing : s.graft.act.step = 2) (forward : s.graft.act.fallback = false) (runs : s.running 0x60 0 = true)
include hashing forward runs

/-- A part without its hash abandons the activation. -/
theorem execGraftHashDone_mismatch {i : Nat}
    (mismatch : s.graft.otherSet.parts.findIdx? (fun p => sha256 p.data != p.sha) = some i) :
    execGraftHashDone s = .next (s.graftAbandon 8 i) := by
  simp only [execGraftHashDone, hashing, forward, runs, mismatch, bne_self_eq_false, Bool.not_true, Bool.or_self, Bool.false_eq_true,
    ↓reduceIte]

variable (hashed : s.graft.otherSet.parts.findIdx? (fun p => sha256 p.data != p.sha) = none)
include hashed

theorem execGraftHashDone_readOnly (readOnly : s.attic.readOnly = true) :
    execGraftHashDone s = .next (s.graftAbandon 7 0xFFFF) := by
  simp only [execGraftHashDone, hashing, forward, runs, hashed, readOnly, bne_self_eq_false, Bool.not_true, Bool.or_self,
    Bool.false_eq_true, ↓reduceIte]

/-- A hashed set is committed; its unit parts are taken, removed partitions stop, and the first partition is taken. -/
theorem execGraftHashDone_hashed (writable : s.attic.readOnly = false)
    (ha : a = (s.graftCommit.modAct (fun a => { a with step := 5 })).unitParts.removeGone) :
    execGraftHashDone s = .next ((a.modAct (fun x => { x with todo := a.canopyTodo })).graftGo) := by
  subst ha
  simp only [execGraftHashDone, hashing, forward, runs, hashed, writable, bne_self_eq_false, Bool.not_true, Bool.or_self,
    Bool.false_eq_true, ↓reduceIte]

end HashDone

section Handover

variable {s n : State} {r : Req} {i b y : Nat} {p : PartEnt} (part : s.curPart = some (i, p))
include part

theorem execGraftHandoverNotice_due (fixed : s.graft.act.b = some b) (unnoticed : s.graft.act.noticed = false) :
    execGraftHandoverNotice s = .next
      (((s.waitTo (b - 5000000)).postIn p.win 250 0xC010 0 p.win (usOf b) (usOf (b + 20000000))).modAct
        (fun a => { a with noticed := true })) := by
  simp only [execGraftHandoverNotice, part, fixed, unnoticed, Bool.false_eq_true, ↓reduceIte]

/-- From b on the old part yields: its partition pauses and the new one is told. -/
theorem graftYield_body (fixed : s.graft.act.b = some b) (window : r.win = p.win) (due : b ≤ s.hw)
    (unyielded : s.graft.act.yieldAt = none)
    (hn : n = ({ s with
      keeper.partitions := tmod Partition.reset s.keeper.partitions p.pid (fun q => { q with state := .paused }) } : State).modAct
        (fun a => { a with yieldAt := some s.hw, payload := u32 r.payload 0 })) :
    verbGraftYield.body r s =
      (n.postIn (p.win + 0x100) 250 0xC011 0 p.win (u32 r.payload 0) (usOf (n.hw + 50000000)), stDone, []) := by
  subst hn
  simp only [verbGraftYield, part, fixed, window, Nat.not_lt_of_le due, unyielded, Option.isSome_none, ne_eq, not_true_eq_false,
    Bool.false_eq_true, or_self, ↓reduceIte]
  rfl

section Take

variable (window : r.win = p.win + 0x100)
include window

/-- A new part that is ready fixes b, the first cutover instant of its part at least 10 ms away. -/
theorem graftTake_body_ready (ready : u8 r.payload 0 = 0) (unfixed : s.graft.act.b = none)
    (past : p.cutPhase * 1000 < s.hw + 10000000)
    (hb : b = p.cutPhase * 1000 + (s.hw + 10000000 - p.cutPhase * 1000 + p.cutPeriod * 1000 - 1) / (p.cutPeriod * 1000) *
      (p.cutPeriod * 1000)) :
    verbGraftTake.body r s = (s.modAct (fun a => { a with b := some b }), stDone, []) := by
  subst hb
  simp only [verbGraftTake, part, window, ready, State.modAct, State.modGraft, unfixed, gt_iff_lt, Nat.not_lt_zero,
    Nat.not_le_of_lt past, ne_eq, not_true_eq_false, ↓reduceIte]

/-- The new part takes the cores of the old one, which has yielded. -/
theorem graftTake_body_take {a : State} (take : u8 r.payload 0 = 1) (yielded : s.graft.act.yieldAt = some y)
    (ha : a = s.takeDecl p)
    (hn : n = (((({ a with
      keeper.partitions := tmod Partition.reset a.keeper.partitions p.pid (fun q =>
        { q with state := .running, cores := (declOf p.data).cores }) } : State).modAct (fun a =>
      { a with done := a.done ++ [i], cur := none, b := none, yieldAt := none })).pantryPart p.win).partDone i 1
        ((s.hw - y) / 1000))) :
    verbGraftTake.body r s = ((n.modWin (p.win + 0x100) (fun x => { x with running := false })).graftGo, stDone, []) := by
  subst ha hn
  simp only [verbGraftTake, part, window, take, yielded, gt_iff_lt, lt_irrefl, one_ne_zero, ne_eq, not_true_eq_false, ↓reduceIte]
  rfl

end Take

/-! ### The time-outs of a hand-over (19 R424) -/

theorem execGraftReadyTimeout_due (unfixed : s.graft.act.b = none) :
    execGraftReadyTimeout s = .next ((s.waitTo (s.graft.act.startAt + 60000000000)).graftAbandon 1 i) := by
  simp only [execGraftReadyTimeout, part, unfixed]

theorem execGraftYieldTimeout_due (fixed : s.graft.act.b = some b) (unyielded : s.graft.act.yieldAt = none) :
    execGraftYieldTimeout s = .next ((s.waitTo (b + 20000000)).graftAbandon 2 i) := by
  simp only [execGraftYieldTimeout, part, fixed, unyielded]

/-- Without a take the old part runs on from its yield. -/
theorem execGraftTakeTimeout_due {a : State} (yielded : s.graft.act.yieldAt = some y) (ha : a = s.waitTo (y + 50000000)) :
    execGraftTakeTimeout s = .next
      (({ a with
        keeper.partitions := tmod Partition.reset a.keeper.partitions p.pid (fun q => { q with state := .running }) } :
          State).graftAbandon 3 i) := by
  subst ha
  simp only [execGraftTakeTimeout, part, yielded]

end Handover

/-! ### The cutovers of Root and Keeper (19 R426) -/

/-- Root runs its new image within 15 ms of its pause. -/
theorem execRootCutover_pause {s a : State} {i pause : Nat} (rootStep : s.graft.act.step = 6) (paused : s.root.phase = .pause)
    (inTime : s.hw ≤ s.root.pauseAt + 15000000) (hi : i = s.activeSet.idx 2) (hpause : pause = (s.hw - s.root.pauseAt) / 1000)
    (ha : ((s.rootResume.takeDecl (s.activeSet.part i)).unitStop 0x50 0 2 false).unitRun 0x50 0 = a) :
    execRootCutover s = .next
      (((((a.modAct (fun x => { x with pauses := x.pauses + pause })).markDone i).pantryPart 0).partDone i 1 pause).graftGo) := by
  subst hi hpause ha
  simp only [execRootCutover, rootStep, paused, gt_iff_lt, Nat.not_lt_of_le inTime, decide_false, bne_self_eq_false, Bool.or_self,
    Bool.false_eq_true, ↓reduceIte]

section KeeperPause

variable {s : State} (paused : s.keeper.paused = true)
include paused

theorem execKeeperCutover_paused (released : s.keeperCutover.keeper.paused = false) :
    execKeeperCutover s = .next (s.keeperCutover.pauseEnd (s.keeperCutover.hw - s.keeper.pausedAt)) := by
  simp only [execKeeperCutover, paused, released, Bool.not_false, Bool.and_self, ↓reduceIte]

theorem execKeeperCutoverTimeout_paused (released : s.keeperCutoverFail.keeper.paused = false) :
    execKeeperCutoverTimeout s = .next (s.keeperCutoverFail.pauseEnd (s.keeperCutoverFail.hw - s.keeper.pausedAt)) := by
  simp only [execKeeperCutoverTimeout, paused, released, Bool.not_false, Bool.and_self, ↓reduceIte]

end KeeperPause

/-! ### The trial and the end of a fall-back (19 R428-R430) -/

section Trial

variable {s a : State} (trial : s.graft.trial = true)
include trial

section Operating

variable (operating : s.operating = true)
include operating

theorem execGraftTrialCountWrite_trial (ha : s.waitOp (s.graft.trialAt + 60000000000) = a) :
    execGraftTrialCountWrite s = .next (a.modGraft (fun g =>
      { g with trialLeft := a.trialRemaining, trialWritten := a.trialRemaining, trialAt := a.power.opNs })) := by
  subst ha
  simp only [execGraftTrialCountWrite, trial, operating, Bool.not_true, Bool.or_self, Bool.false_eq_true, ↓reduceIte]

variable (standing : s.graft.act.step = 0)
include standing

/-- The confirmation is due once, when a tenth of its window remains. -/
theorem execGraftConfirmDue_first (first : s.graft.dueDone = false)
    (ha : s.waitOp (s.graft.trialAt + (s.graft.trialLeft - s.trialWindow / 10) * 1000000000) = a) :
    execGraftConfirmDue s = .next
      ((a.post 0x60 0 249 0xC022 0 a.activeSet.id a.trialRemaining 0).modGraft (fun g => { g with dueDone := true })) := by
  subst ha
  simp only [execGraftConfirmDue, trial, first, standing, operating, bne_self_eq_false, Bool.not_true, Bool.or_self,
    Bool.false_eq_true, ↓reduceIte]

theorem execGraftConfirmTimeout_trial :
    execGraftConfirmTimeout s = .next
      ((s.waitOp (s.graft.trialAt + s.graft.trialLeft * 1000000000)).fallbackStart 1 none none) := by
  simp only [execGraftConfirmTimeout, trial, standing, operating, bne_self_eq_false, Bool.not_true, Bool.or_self,
    Bool.false_eq_true, ↓reduceIte]

end Operating

section Boot

variable (starts : s.power.trunkDue ≠ 0) (off : s.trunkOn = false)
include starts off

theorem execGraftBootTimeout_first (first : s.graft.bootFails = 0) :
    execGraftBootTimeout s = .next (s.modGraft (fun g => { g with bootFails := 1 })) := by
  simp only [execGraftBootTimeout, trial, starts, off, first, State.modGraft, Nat.one_lt_ofNat, zero_add, decide_false, Bool.not_true,
    Bool.or_self, Bool.false_eq_true, ↓reduceIte]

/-- The second start that is not ready in time boots the fall-back set. -/
theorem execGraftBootTimeout_second (second : 1 ≤ s.graft.bootFails) :
    execGraftBootTimeout s = .next (s.modGraft (fun g =>
      { g with bootFails := 0, active := g.freeSlot, act := { Activ.reset with step := 8, fallback := true, cause := 4 } })) := by
  have again : ¬s.graft.bootFails + 1 < 2 := by omega
  simp only [execGraftBootTimeout, trial, starts, off, again, decide_false, Bool.not_true, Bool.or_self, Bool.false_eq_true,
    ↓reduceIte]

end Boot

end Trial

/-- The end of a fall-back: added partitions stop, removed ones start, and the record names its set with no trial. -/
theorem execGraftFallbackDone_uncommanded {s a b c n : State} (fallback : s.graft.act.fallback = true) (last : s.graft.act.step = 8)
    (done : s.graft.act.todo = []) (alone : s.graft.act.cur = none) (unpaused : s.keeper.paused = false)
    (runs : s.running 0x60 0 = true) (ha : s.removeGone = a) (hb : a.inForce a.activeSet = b)
    (hc : (if b.inRun then (canopyParts a.activeSet).foldl (fun (s : State) i =>
        if (tget Partition.reset s.keeper.partitions (a.activeSet.part i).pid).state == .stopped then
          (s.startPartition (a.activeSet.part i).pid).partDone i 3 0 else s) b else b) = c)
    (uncommanded : s.graft.act.op = none)
    (hn : n = c.modGraft (fun g => { (g.putOther BootSet.reset) with
      trial := false, act := Activ.reset, oldRecs := [], oldPantry := [] })) :
    execGraftFallbackDone s = .next
      (n.post 0x60 0 249 0xC025 0 (65536 * n.gen 0x60 0) s.graft.act.coldCount a.activeSet.id) := by
  subst ha hb hc hn
  simp only [execGraftFallbackDone, fallback, last, done, alone, unpaused, runs, uncommanded, List.isEmpty_nil, Option.isSome_none,
    bne_self_eq_false, Bool.not_true, Bool.or_self, Bool.false_eq_true, ↓reduceIte]

/-- Settles O35: each row's command under its conditions is given by its row's lemma; a verb's effect is that on the offered state. -/
theorem graftHandoverComplete : Obligations.GraftHandoverComplete := by
  refine ⟨?hashed, ?mismatch, ?readOnly, ?notice, ?yield, ?ready, ?take, ?readyTimeout, ?yieldTimeout, ?takeTimeout, ?rootCutover,
    ?keeperCutover, ?keeperCutoverTimeout, ?confirmDue, ?trialCount, ?confirmTimeout, ?bootFirst, ?bootSecond, ?fallbackDone⟩
  case hashed =>
    exact fun s hashing forward runs hashed writable => execGraftHashDone_hashed hashing forward runs hashed writable rfl
  case mismatch =>
    exact fun s i hashing forward runs mismatch => execGraftHashDone_mismatch hashing forward runs mismatch
  case readOnly =>
    exact fun s hashing forward runs hashed readOnly => execGraftHashDone_readOnly hashing forward runs hashed readOnly
  case notice => exact fun s i b p part fixed unnoticed => execGraftHandoverNotice_due part fixed unnoticed
  case yield =>
    exact fun s r i b p h part fixed window due unyielded =>
      row_eq h (graftYield_body part fixed window due unyielded rfl) (by decide)
  case ready =>
    exact fun s r i p h part window ready unfixed past =>
      row_eq h (graftTake_body_ready part window ready unfixed past rfl) (by decide)
  case take =>
    exact fun s r i y p h part window take yielded =>
      row_eq h (graftTake_body_take part window take yielded rfl rfl) (by decide)
  case readyTimeout => exact fun s i p part unfixed => execGraftReadyTimeout_due part unfixed
  case yieldTimeout => exact fun s i b p part fixed unyielded => execGraftYieldTimeout_due part fixed unyielded
  case takeTimeout => exact fun s i y p part yielded => execGraftTakeTimeout_due part yielded rfl
  case rootCutover => exact fun s a rootStep paused inTime ha => execRootCutover_pause rootStep paused inTime rfl rfl ha
  case keeperCutover => exact fun s paused released => execKeeperCutover_paused paused released
  case keeperCutoverTimeout => exact fun s paused released => execKeeperCutoverTimeout_paused paused released
  case confirmDue =>
    exact fun s a trial first standing operating ha => execGraftConfirmDue_first trial operating standing first ha
  case trialCount => exact fun s a trial operating ha => execGraftTrialCountWrite_trial trial operating ha
  case confirmTimeout => exact fun s trial standing operating => execGraftConfirmTimeout_trial trial operating standing
  case bootFirst => exact fun s trial starts off first => execGraftBootTimeout_first trial starts off first
  case bootSecond => exact fun s trial starts off second => execGraftBootTimeout_second trial starts off second
  case fallbackDone =>
    exact fun s a b c fallback last done alone unpaused runs ha hb hc uncommanded =>
      execGraftFallbackDone_uncommanded fallback last done alone unpaused runs ha hb hc uncommanded rfl

end Sys2Proof.Machine
end

section
/-! The Attic and the Larder (spec 20): the rows of transfers, samples and records. A row's lemma gives its command under the row's
conditions. -/

namespace Sys2Proof.Machine

/-! ### The Attic's transfers, temperature and staging (20 R435, R437-R440) -/

section AtticRows

variable {s a b : State}

/-- A running transfer completes: its commit or its read, the end of its region, and its report. -/
theorem execAtticDone_transfer {index : Nat} {t : Transfer} {q : State × Nat × Nat × Nat} (runs : s.running 0x61 0 = true)
    (transfer : s.attic.transfers[index]? = some t)
    (ha : a = s.modAttic (fun a => { a with transfers := a.transfers.eraseIdx index }))
    (hq : q = if t.write then a.commitWrite t else a.finishRead t) :
    execAtticDone index s = .next
      ((q.1.regionEnd t.op.win t.desc q.2.2.1).complete t.op 0x61 t.inst 229 0xA014 q.2.1 q.2.2.1 q.2.2.2) := by
  subst ha hq
  simp only [execAtticDone, transfer, runs, Bool.not_true, Bool.false_eq_true, ↓reduceIte]

/-- The temperature of each second sets its signal and steps the inhibit. -/
theorem execAtticTempSample_running {temp : Int} (trunk : s.trunkOn = true) (runs : s.running 0x71 0 = true)
    (ha : a = s.boundary 378 1000000000 0) :
    execAtticTempSample temp s = .next
      (((a.modAttic (fun a => { a with temp := fFrac temp 10 })).setSig 0x0FA (fFrac temp 10) a.hw fgValid).inhibitStep temp) := by
  subst ha
  simp only [execAtticTempSample, trunk, runs, Bool.and_self, ↓reduceIte]

/-- What the drain of park entry has not written after 30 min is lost. -/
theorem execAtticStageLost_drain {t : Nat} (drain : s.attic.drainAt = some t) (staged : s.hasStaged = true)
    (step : s.power.parkStep = 3) (ha : a = s.waitTo (t + 1800000000000)) :
    execAtticStageLost s = .next
      (a.dropStage.raiseEv 0x61 0 229 0xA012 4 0 a.attic.staged a.attic.stagedWrites 0) := by
  subst ha
  simp only [execAtticStageLost, drain, staged, step, ne_eq, not_true_eq_false, Bool.not_true, Bool.false_eq_true, or_self,
    ↓reduceIte]

theorem execKeptConfigWrite_again {t u : Nat} (dirty : s.keptDirty = some u) (last : s.keptAt = some t)
    (operating : s.operating = true) (runs : s.running 1 0 = true) :
    execKeptConfigWrite s = .next (s.waitTo (t + 1000000000)).writeKept := by
  simp only [execKeptConfigWrite, dirty, last, operating, runs, Bool.and_self, ↓reduceIte]

end AtticRows

/-! ### The Larder's records (20 R446-R449) -/

section LarderRows

variable {s a : State}

theorem execLarderBufferFlush_running (trunk : s.trunkOn = true) (runs : s.running 0x62 0 = true) :
    execLarderBufferFlush s = .next ((if s.attic.inhibit then s else s.flushLarder).reportDrops) := by
  simp only [execLarderBufferFlush, trunk, runs, Bool.and_self, ↓reduceIte]

/-- The records that a clear zeroes: no record newer than the clear, general ones up to its limit, and in its wider scope strong ones
but the Larder's own. -/
def LarderClear.hits (c : LarderClear) (r : LarderRec) : Bool :=
  if r.strong then c.scope == 2 && r.unit != 0x62 && seqLe r.seq c.newS
  else (c.limit == 0xFFFFFFFF || seqLe r.seq c.limit) && seqLe r.seq c.newG

section Running

variable (runs : s.running 0x62 0 = true)
include runs

/-- The copy of records completes into its region. -/
theorem execLarderReadDone_copy {c : LarderRead} (copy : s.larder.read = some c)
    (ha : a = ((s.modLarder (fun l => { l with read := none })).regionWrite c.op.win c.desc 0
      ((List.range c.count).flatMap (fun i => s.larder.slot c.strong ((c.first + i) % 2 ^ 32)))).regionEnd c.op.win c.desc
        (64 * c.count)) :
    execLarderReadDone s = .next
      (a.complete c.op 0x62 0 230 0xA020 stDone c.count (if c.strong then a.larder.seqS else a.larder.seqG)) := by
  subst ha
  simp only [execLarderReadDone, copy, runs, Bool.not_true, Bool.false_eq_true, ↓reduceIte]

/-- The records that a clear hits are gone, those of the buffer with them, and the clear completes. -/
theorem execLarderCleared_hits {c : LarderClear} (clear : s.larder.clear = some c)
    (ha : a = s.modLarder (fun l =>
      { l with general := l.general.filter (fun e => !c.hits e.2), strong := l.strong.filter (fun e => !c.hits e.2),
               buffer := l.buffer.filter (fun r => !c.hits r), clear := none })) :
    execLarderCleared s = .next (a.complete c.op 0x62 0 230 0xA021 stDone
      ((s.larder.general.filter (fun e => c.hits e.2)).length + (s.larder.strong.filter (fun e => c.hits e.2)).length +
        (s.larder.buffer.filter c.hits).length) c.scope) := by
  subst ha
  simp only [execLarderCleared, clear, runs, Bool.not_true, Bool.false_eq_true, ↓reduceIte]
  rfl

end Running

/-- The lock of the clear ends 60 min after the fifth refusal. -/
theorem execLarderClearLockEnd_locked {t : Nat} (locked : s.larder.lockAt = some t) (operating : s.operating = true) :
    execLarderClearLockEnd s = .next
      ((s.waitOp (t + 3600000000000)).modLarder (fun l => { l with lockAt := none, refusals := 0 })) := by
  simp only [execLarderClearLockEnd, locked, operating, Bool.not_true, Bool.false_eq_true, ↓reduceIte]

end LarderRows

/-- Settles O17: each row's command under its conditions is given by its row's lemma; the report of a clear leaves the Larder. -/
theorem atticEventRowsComplete : Obligations.AtticEventRowsComplete := by
  refine ⟨?done, ?temp, ?stageLost, ?kept, ?flush, ?readDone, ?cleared, ?lockEnd⟩
  case done => exact fun s index t runs transfer => execAtticDone_transfer runs transfer rfl rfl
  case temp => exact fun s temp trunk runs => execAtticTempSample_running trunk runs rfl
  case stageLost => exact fun s t drain staged step => execAtticStageLost_drain drain staged step rfl
  case kept => exact fun s t u dirty last operating runs => execKeptConfigWrite_again dirty last operating runs
  case flush => exact fun s trunk runs => execLarderBufferFlush_running trunk runs
  case readDone => exact fun s c runs copy => execLarderReadDone_copy runs copy rfl
  case cleared =>
    intro s c runs clear
    have row := execLarderCleared_hits runs clear rfl
    refine ⟨_, row, ?_, ?_, ?_, ?_⟩
    · simp only [State.complete_leaves, State.modLarder]
    · simp only [State.complete_leaves, State.modLarder, LarderClear.hits]
    · simp only [State.complete_leaves, State.modLarder, LarderClear.hits]
    · obtain ⟨t, next, frame⟩ := execLarderCleared_frame s
      obtain rfl := Host.Outcome.next.inj (next.symm.trans row)
      exact frame_exec frame rfl
  case lockEnd => exact fun s t locked operating => execLarderClearLockEnd_locked locked operating

end Sys2Proof.Machine
end
